-- ==== Sys2Proof/Word.lean ====
section
/-! DEFINITION. The word types of the FA9648: a register is 32 bits wide (R5), a byte is 8 bits, and time stamps,
counters and the like are plain numbers taken modulo their widths where the spec says they wrap. -/

namespace Sys2Proof

/-- One register (R5: registers are 32 bits wide). -/
abbrev Word := BitVec 32

/-- One byte of a packet, a buffer or a record. -/
abbrev Byte := BitVec 8

end Sys2Proof
end

