-- ==== Sys2Proof/Syntax.lean ====
section
/-! DEFINITION. The commands the block takes, one constructor for each row of the table of operations and events, with the
facts of the outside world each carries. -/

namespace Sys2Proof

/-- Who makes a register access: the host over PCIe or the Steward (R21, R407). -/
inductive Master where
  | host | steward
  deriving DecidableEq, Repr

/-- The instructions of the TAP (R354, R364, R552): IDCODE, BYPASS, boundary scan, a register's read or write, the Steward's run
control and memory, and the scan chains. -/
inductive TapInstr where
  | idcode | bypass | boundary | regRead | regWrite | runControl | scanChain
  deriving DecidableEq, Repr

/-- Where a register write goes: a BAR0 word (R529), a word of the MSI-X table in BAR2 (R440), MSI-X Enable and the function
mask in the function's configuration space (R471), an AER status register there, uncorrectable or correctable (R439, R479), the
firmware's own event of source 220 with a severity (R413, R463), or the TAP, which takes an instruction and scans its data
register, for a register that of a BAR0 word (R364, R552). -/
inductive WriteAt where
  | bar0 (a : BitVec 24)
  | bar2 (a : BitVec 8)
  | msix (enable mask : Bool)
  | aer (corr : Bool)
  | soft (sev : Fin 3)
  | tap (i : TapInstr) (a : BitVec 24)
  deriving DecidableEq, Repr

/-- A PON channel: 0 is PCA, 1 is PCB (R11). -/
abbrev PonCh := Fin 2

/-- A tenant port TP0 to TP47 (R11). -/
abbrev Port := Fin 48

/-- An ingress pipeline K0 or K1 (R11). -/
abbrev Pipe := Fin 2

/-- A stamp point's raw reading: the replica count at the strobe edge that follows the event and the interpolator's
code (R326). -/
structure StampIn where
  ne : Nat
  code : Nat
  deriving DecidableEq, Repr

/-- What took the SyncE input away (R343, R351). -/
inductive SynceFault where
  | cdr | los | range | forced
  deriving DecidableEq, Repr

/-- What a memory's ECC finds when a word is read: nothing, an error it corrects, or one it cannot (R233, R429). -/
inductive EccOutcome where
  | good | corrected | lost
  deriving DecidableEq, Repr

/-- A BWmap allocation structure (R124): whether its HEC holds, its fields, and whether it is its BWmap's last. -/
structure BwEntry where
  hecOk : Bool
  allocId : BitVec 14
  dbru : Bool
  ploamu : Bool
  fwi : Bool
  start : BitVec 16
  size : BitVec 16
  profile : BitVec 2
  last : Bool
  deriving DecidableEq, Repr

/-- The codewords of its PHY frame in which an item lies, first and last, counted from 0 (R83). -/
structure Span where
  first : Nat
  last : Nat
  deriving DecidableEq, Repr

/-- What is common to downstream PLOAM messages (R83, R87, R118): the codewords it lies in, the addressed ONU-ID, the
message-type number, whether an acknowledgement is asked for, and the message's bytes, the last 8 of them its MIC. -/
structure PloamIn where
  span : Span
  to_ : BitVec 10
  typ : Byte
  ack : Bool
  raw : List Byte
  deriving DecidableEq, Repr

/-- A pattern the hunt looks at (R77): its bit position in the PHY frame, the bits in which it differs from the PSync, whether
the SFC structure that follows verifies, its SFC, and the stamp of its first bit. -/
structure PsyncIn where
  pos : Nat
  errs : Nat
  hecOk : Bool
  sfc : BitVec 51
  st : StampIn
  deriving DecidableEq, Repr

/-- A FEC codeword as received (R82): after how many iterations its syndrome is zero, none where it never is, and the bits the
decoder corrects by then. -/
structure CwIn where
  need : Option Nat
  bits : Nat
  deriving DecidableEq, Repr

/-- A PHY frame as received (R81 to R83, R86): the SFC whose seed scrambled it, its codewords, whether its FS header holds under
its HEC, and the codewords the FS header and the BWmap partition lie in. -/
structure FrameIn where
  sfc : BitVec 51
  cws : List CwIn
  hdrOk : Bool
  hdr : Span
  map : Span
  deriving DecidableEq, Repr

/-- A downstream XGEM frame as received (R83, R88, R89, R93): the codewords it lies in, what its HEC finds, whether
its PLI overruns the FS payload, whether it is idle, its size against the recommendation (0 within, 1 under, 2 over), its
place in the FS payload, its header fields, whether the Vault's two computations disagree (R91), and its payload. -/
structure XgemIn where
  span : Span
  hec : EccOutcome
  pliOver : Bool
  idle : Bool
  size : Fin 3
  off : BitVec 24
  pid : BitVec 16
  key : BitVec 2
  opts : BitVec 18
  lf : Bool
  mismatch : Bool
  data : List Byte
  deriving DecidableEq, Repr

/-- A frame at a tenant port's receive pins (R168, R174, R326): its bytes from the destination address to the FCS, whether it
came whole, the codewords FEC corrected and could not correct in it, its delimiter's stamp, and whether the SecY's two
computations of it disagree (R375). Without bytes it stands for codewords that hold no frame. -/
structure EthIn where
  bytes : List Byte
  whole : Bool
  corr : Nat
  uncorr : Nat
  st : StampIn
  mismatch : Bool
  deriving DecidableEq, Repr

/-- A request that reaches a DRAM channel (R419 to R421): its requester, whether it writes, its address, and whether serving
it has to open its row. -/
structure DramReq where
  id : Fin 7
  write : Bool
  bank : Fin 16
  row : BitVec 17
  col : BitVec 5
  opens : Bool
  deriving DecidableEq, Repr

/-- The page a granule lies in (R417, R433): a page of a queue's segment, of the trace ring, or a free one. -/
inductive DramPage where
  | segment (q : BitVec 12) (i : Nat)
  | trace
  | unused
  deriving DecidableEq, Repr

/-- What an OMCI request asks of the device (R399 to R403): what is answered without a change of the device's own, with the
agent's result code; the steps of a software download, its sections by their offset in the copy, Activate and Commit; the
administrative state of a UNI; a set that differs from a Passbook setting; the time of day; a twin-channel flow, as the
Port-ID map entries of its two CTPs, its SF, MODE, HOME and the stripe context the agent picks; the register writes its entity
maps onto; a setting of the optics; and the start of the PM intervals. -/
inductive OmciAct where
  | answer (code : BitVec 4)
  | startDownload (copy : Fin 2)
  | section_ (copy : Fin 2) (off : BitVec 23) (data : List Byte)
  | endDownload (copy : Fin 2)
  | activate (copy : Fin 2)
  | commit (copy : Fin 2)
  | uniState (p : Port) (unlock rxBusy : Bool)
  | uniFixed
  | timeOfDay (sfc : BitVec 51) (sec : BitVec 48) (ns : BitVec 30) (frac : BitVec 16)
  | twinFlow (a b : Option (BitVec 12)) (sf : BitVec 12) (striped home : Bool) (ctx : Fin 256)
  | device (writes : List (BitVec 24 × Word))
  | optics (message : List Byte)
  | syncTime
  deriving DecidableEq, Repr

/-- The kind of an OMCI request (R400). -/
inductive OmciOp where
  | create | delete | set | get | mibReset | reboot | other
  deriving DecidableEq, Repr

/-- An OMCI request as the agent reads it from the message (R400): its kind, its entity's class and instance, the attributes it
carries, what it asks of the device, and what the firmware writes into its data store for it, at an offset (R399). -/
structure OmciReq where
  op : OmciOp
  cls : BitVec 16
  inst : BitVec 16
  attrs : List Byte
  act : OmciAct
  keep : Option (BitVec 24 × List Byte)
  deriving DecidableEq, Repr

/-- Why the host path goes down beside its link (R462): Bus Master Enable 0, D3hot, or a function level reset. -/
inductive PathDown where
  | busMaster | d3hot | flr
  deriving DecidableEq, Repr

/-- What the PCIe link shows (R439, R479): it is up, it is down, or it has met errors that set bits of the AER status
registers. -/
inductive LinkNow where
  | up | down
  | errors (uncorr corr : BitVec 32)
  deriving DecidableEq, Repr

/-- What a boot stage that reaches its limit leaves behind (R52): at PLL the islands whose PLL is not locked, at PB_READ the
copy's header as far as it has been read. -/
structure LimitIn where
  unlocked : List (Fin 64)
  hdr : List (BitVec 8)
  deriving DecidableEq, Repr

/-- Where a request of a DMA channel fails on the bus (R459): at a fetch, at its data or at a writeback. -/
inductive DmaPhase where
  | fetch | data | writeback
  deriving DecidableEq, Repr

/-- The commands (opcode_table.json): host and Steward accesses that have a row of their own, and the happenings at the
pins, on the lines and inside the device that the table lists. -/
inductive Instr where
  /-- REGISTER_WRITE (R7): A host or Steward write reaches a register that has no row of its own and acts on it as the
  field access codes direct. -/
  | registerWrite (m : Master) (place : WriteAt) (v : Word)
  /-- RC_REGISTER_READ (R8): A read of an RC register returns the current value and then clears it, keeping any event
  recorded in the same cycle. -/
  | rcRegisterRead (m : Master) (a : BitVec 24)
  /-- RESULT_STATUS_READ (R443): A read of the status word of a result register set returns the result and sets SEEN
  after the first read. -/
  | resultStatusRead (m : Master) (a : BitVec 24)
  /-- COUNTER_LOW_WORD_READ (R511): A read of a 64-bit counter's low word latches its high word for the same master.
  -/
  | counterLowWordRead (m : Master) (a : BitVec 24)
  /-- CROSSING_ENTRY_ARRIVE (R18): An entry written into an inter-island crossing becomes readable at the destination
  island. -/
  | crossingEntryArrive (isl : Fin 64) (index : Byte) (parityOk : Bool)
  /-- PIPELINE_SLOT_GRANT (R33): A pipeline grants its slot to the first ready candidate and the packet starts its
  pass. -/
  | pipelineSlotGrant (k : Pipe) (ecc : Option (Fin 12 × BitVec 16 × EccOutcome × Fin 64))
  /-- HOST_STARVE_EXPIRY (R34): A host-injected packet has waited HOST_STARVE µs without a slot, setting HOST_STARVED
  and raising event 4 or 5. -/
  | hostStarveExpiry (d : Fin 32)
  /-- RAIL_OUT_OF_RANGE (R41): A monitored rail leaves its range, asserting POR and restarting the sequence from stage
  0. -/
  | railOutOfRange (r : Fin 9)
  /-- POR_RELEASE (R41): Every monitored rail has been in range for 2 ms, so POR is released and stage AON_UP starts.
  -/
  | porRelease (benA benB : Bool) (vrAddr : BitVec 2) (testEn : Bool)
  /-- AON_UP_DONE (R44): AON finishes reading fuses, Hallmark and Ledger boot area, or goes to the hold on a fuse
  failure. -/
  | aonUpDone (parityOk : Bool) (hm : List Word) (vout : BitVec 5)
  /-- XTAL_QUALIFIED (R45): The crystal qualifies and the boot proceeds to stage PLL. -/
  | xtalQualified
  /-- XTAL_TIMEOUT (R45): The crystal is not qualified 20 ms after POR release, so the device continues on the fast
  oscillator in fallback. -/
  | xtalTimeout
  /-- PLL_STAGE_DONE (R53): All PLLs lock at stage PLL and Assay starts. -/
  | pllStageDone
  /-- PLL_RELOCK_DONE (R53): A PLL relocked after a change of its setting field completes its lock. -/
  | pllRelockDone (pll : Fin 27)
  /-- ASSAY_DONE (R46): Assay completes after its fixed 25 ms and its outcomes are applied. -/
  | assayDone (rom kat mint : Bool) (sram : List (Fin 64))
  /-- PB_READ_DONE (R57): The device finishes reading a Passbook copy, hashed and CRC-checked while read. -/
  | pbReadDone (image : Option (List Byte))
  /-- PB_VERIFY_DONE (R64): The verification checks of a copy finish, verifying it or failing it with a fail code. -/
  | pbVerifyDone
  /-- DRAM_TRAIN_DONE (R47): Stage DRAM_TRAIN ends with each channel trained or left out. -/
  | dramTrainDone
  /-- PB_RECORD_APPLY (R62): The next PRE or MAIN register record is applied after the previous one has taken effect.
  -/
  | pbRecordApply
  /-- POLL_RECORD_TIMEOUT (R62): A POLL record times out, failing the copy with code 0xC and restarting with the other
  copy or entering the hold. -/
  | pollRecordTimeout
  /-- APPLY_DONE (R67): APPLY completes and the Passbook is sealed. -/
  | applyDone
  /-- STEWARD_STAGE_DONE (R48): Stage STEWARD ends with a firmware copy running or with the Steward down. -/
  | stewardStageDone
  /-- RELEASE_DONE (R49): RELEASE calibrates lanes, starts time, enables buffering, releases ports and PON engines,
  and sets STAGE to RUN. -/
  | releaseDone
  /-- STAGE_LIMIT_EXPIRY (R52): A boot stage reaches its duration limit and is handled as that stage's failure. -/
  | stageLimitExpiry (x : LimitIn)
  /-- REBOOT (R68): A keyed AON_BOOT_CTRL write of REBOOT restarts the sequence from AON_UP without POR. -/
  | reboot (m : Master) (key : BitVec 16)
  /-- PREFER_B_WRITE (R68): A keyed write of PREFER_B sets the boot preference and updates the Ledger preference
  record. -/
  | preferBWrite (m : Master) (key : BitVec 16) (v : Bool)
  /-- FLASH_RELEASE (R66): In the hold, setting FLASH_RELEASE places all flash pins in high impedance. -/
  | flashRelease (m : Master) (key : BitVec 16) (v : Bool)
  /-- PCIE_RESET (R51): A PCIe fundamental or hot reset resets only the HST island and host-facing registers. -/
  | pcieReset (hot : Bool)
  /-- RXLOS_CHANGE (R74): The RXLOS input changes, setting or clearing PN_RX_STAT.LOS. -/
  | rxlosChange (c : PonCh) (level : Bool)
  /-- PN_CDR_LOCK_CHANGE (R74): The PON recovery circuit gains lock, or has been out of lock for more than 1 µs,
  updating CDR_LOCK and LOS. -/
  | pnCdrLockChange (c : PonCh) (lock : Bool)
  /-- PN_RX_ENABLE_WRITE (R78): A write of PN_RX_CTRL.ENABLE moves the alignment machine to OFF or HUNT. -/
  | pnRxEnableWrite (m : Master) (c : PonCh) (v : Word)
  /-- PSYNC_PATTERN (R78): A correct or errored pattern is seen at a new or expected position and the alignment
  machine acts on it. -/
  | psyncPattern (c : PonCh) (x : PsyncIn)
  /-- PHY_FRAME_DECODE (R81): A PHY frame processed in SYNC is descrambled, FEC-decoded and split into header, BWmap,
  PLOAMd and payload. -/
  | phyFrameDecode (c : PonCh) (x : FrameIn)
  /-- BER_WINDOW_END (R84): A BER_WIN frame window ends, loading PN_FEC_WIN and updating SD and SF. -/
  | berWindowEnd (c : PonCh)
  /-- XGEM_FRAME_RX (R89): An XGEM frame is delineated, looked up, decrypted and reassembled, and a complete SDU is
  checked and delivered. -/
  | xgemFrameRx (c : PonCh) (x : XgemIn)
  /-- REASM_TIMEOUT (R92): A reassembly receives no fragment for REASM_TO frames and is dropped. -/
  | reasmTimeout (c : PonCh) (pid : BitVec 16)
  /-- PN_PID_READ (R104): PN_PID_CMD OP 00 copies a Port-ID map entry into the data registers. -/
  | pnPidRead (m : Master) (c : PonCh) (i : BitVec 12)
  /-- PN_PID_WRITE (R90): PN_PID_CMD OP 01 writes a Port-ID map entry, refused with DUP on a duplicate Port-ID. -/
  | pnPidWrite (m : Master) (c : PonCh) (i : BitVec 12)
  /-- PN_PID_INVALIDATE (R90): PN_PID_CMD OP 10 invalidates an entry, dropping any reassembly under it. -/
  | pnPidInvalidate (m : Master) (c : PonCh) (i : BitVec 12)
  /-- PN_PID_CMD_DONE (R104): A Port-ID map operation completes and BUSY clears. -/
  | pnPidCmdDone (c : PonCh)
  /-- OSP_NOP (R98): An OSP NOP transaction returns the status byte only. -/
  | ospNop (c : PonCh)
  /-- OSP_READ_MSG (R98): An OSP READ_MSG transaction sends the next complete downstream message and clears LOST. -/
  | ospReadMsg (c : PonCh) (n : BitVec 16)
  /-- OSP_WRITE_MSG (R120): An OSP WRITE_MSG transaction queues an upstream PLOAM or OMCC SDU, or discards it. -/
  | ospWriteMsg (c : PonCh) (whole : Bool) (typ : BitVec 4) (data : List Byte)
  /-- OSP_READ_EVT (R469): An OSPA READ_EVT transaction sends and removes the oldest queued event record. -/
  | ospReadEvt (c : PonCh) (n : BitVec 16)
  /-- OSP_OTHER_COMMAND (R98): An OSP transaction with an unlisted command returns the status byte and does nothing
  more. -/
  | ospOtherCommand (c : PonCh) (cmd : Byte)
  /-- PN_TOD_ARM (R101): Writing ARM loads the target SFC and clears any earlier capture result. -/
  | pnTodArm (m : Master) (c : PonCh) (sfcHi : BitVec 19)
  /-- PLOAM_BURST_PROFILE (R133): A Burst_Profile message is stored in its profile index and may move the engine from
  O1.2 to O2-3. -/
  | ploamBurstProfile (c : PonCh) (h : PloamIn) (ix rate : Fin 4) (fec : Bool) (preamble : BitVec 12) (delim : BitVec 4)
  /-- PLOAM_ASSIGN_ONU_ID (R108): Assign_ONU-ID for this serial number stores the ONU-ID, sets the OMCC and default
  allocation and enters O4. -/
  | ploamAssignOnuId (c : PonCh) (h : PloamIn) (sn : BitVec 64) (onuId : BitVec 10)
  /-- PLOAM_RANGING_TIME (R116): Ranging_Time loads or adjusts EqD, or is refused out of range, and may enter O5. -/
  | ploamRangingTime (c : PonCh) (h : PloamIn) (relative : Bool) (eqd : Int)
  /-- PLOAM_DEACTIVATE_ONU_ID (R108): Deactivate_ONU-ID clears the engine to O1.1. -/
  | ploamDeactivateOnuId (c : PonCh) (h : PloamIn)
  /-- PLOAM_DISABLE_SERIAL_NUMBER (R108): Disable_Serial_Number enters O7 with a Ledger emergency record, or enables
  exit from O7. -/
  | ploamDisableSerialNumber (c : PonCh) (h : PloamIn) (enable all : Bool) (sn : BitVec 64)
  /-- PLOAM_REQUEST_REGISTRATION (R113): Request_Registration queues a Registration message. -/
  | ploamRequestRegistration (c : PonCh) (h : PloamIn)
  /-- PLOAM_ASSIGN_ALLOC_ID (R123): Assign_Alloc-ID assigns or de-assigns an allocation-table entry, or is refused. -/
  | ploamAssignAllocId (c : PonCh) (h : PloamIn) (allocId : BitVec 14) (assign : Bool)
  /-- PLOAM_KEY_CONTROL (R122): Key_Control generates a new data key into the Vault, wraps it and queues Key_Report
  messages. -/
  | ploamKeyControl (c : PonCh) (h : PloamIn) (index : BitVec 2)
  /-- PLOAM_SLEEP_ALLOW (R135): Sleep_Allow updates the held setting and the power-saving machine acts on it. -/
  | ploamSleepAllow (c : PonCh) (h : PloamIn) (on : Bool)
  /-- PLOAM_CHANGE_POWER_LEVEL (R404): The Steward adjusts the optics' transmit level and queues an Acknowledge. -/
  | ploamChangePowerLevel (c : PonCh) (h : PloamIn)
  /-- PLOAM_POWER_CONSUMPTION_INQ (R404): The Steward queues a Power_Consumption_Report. -/
  | ploamPowerConsumptionInq (c : PonCh) (h : PloamIn)
  /-- PLOAM_UNSUPPORTED (R118): A PLOAM message of an unlisted or multi-wavelength type is counted and answered or
  discarded. -/
  | ploamUnsupported (c : PonCh) (h : PloamIn) (multi : Bool)
  /-- TO1_EXPIRY (R108): The ranging timer TO1 expires in O4 and the engine is cleared to O1.1. -/
  | to1Expiry (c : PonCh)
  /-- TO2_EXPIRY (R108): The LODS timer TO2 expires in O6 and the engine is cleared to O1.1. -/
  | to2Expiry (c : PonCh)
  /-- PN_ACT_RESTART (R108): Writing PN_ACT_CTRL.RESTART clears the engine to O1.1, or O7 with an emergency record. -/
  | pnActRestart (m : Master) (c : PonCh)
  /-- PN_TX_OFF_WRITE (R109): A write of TX_OFF sets or clears INH bit 3, cancelling scheduled bursts when inhibit
  starts. -/
  | pnTxOffWrite (m : Master) (c : PonCh) (v : Bool)
  /-- BWMAP_ENTRY (R124): The composer handles one BWmap entry, scheduling a grant or counting why it is not sent. -/
  | bwmapEntry (c : PonCh) (e : BwEntry)
  /-- BURST_LAUNCH (R114): A scheduled burst asserts BEN and sends PSBu, burst header, PLOAMu, DBRu and XGEM content
  at T_hdr. -/
  | burstLaunch (c : PonCh)
  /-- BURST_END (R130): The last bit of a burst leaves, the data pair idles and BEN deasserts after LAG unless held.
  -/
  | burstEnd (c : PonCh)
  /-- ROGUE_DETECT (R132): BEN_MON stays active while BEN is off for longer than WIN, latching ROGUE and INH bit 0 and
  stopping any burst. -/
  | rogueDetect (c : PonCh) (ns : Nat)
  /-- BEN_MISS_CHECK (R132): BEN_MON is not active within MISS ns of a burst's BEN assertion, counting BEN_MISS. -/
  | benMissCheck (c : PonCh) (active : Bool)
  /-- ROGUE_CLR (R132): Writing ROGUE_CLR clears the rogue inhibit when BEN_MON has been inactive for 1 ms. -/
  | rogueClr (m : Master) (c : PonCh) (quiet : Bool)
  /-- PS_THOLD_EXPIRY (R135): THOLD elapses in ActiveHeld and the power-saving machine enters ActiveFree. -/
  | psTholdExpiry (c : PonCh)
  /-- PS_TAWARE_EXPIRY (R135): TAWARE expires in WatchAware, the transmitter turns off and Watch begins. -/
  | psTawareExpiry (c : PonCh)
  /-- PS_ILOWPOWER_EXPIRY (R135): ILOWPOWER expires in Watch, the transmitter turns on and WatchAware begins. -/
  | psIlowpowerExpiry (c : PonCh)
  /-- PN_ALLOC_READ (R123): PN_ALLOC_CMD OP 00 reads an allocation-table entry. -/
  | pnAllocRead (m : Master) (c : PonCh) (i : BitVec 7)
  /-- PN_ALLOC_INVALIDATE (R123): PN_ALLOC_CMD OP 10 invalidates an allocation-table entry. -/
  | pnAllocInvalidate (m : Master) (c : PonCh) (i : BitVec 7)
  /-- PN_ALLOC_WRITE_DISCARD (R123): PN_ALLOC_CMD OP 01 is discarded, since software may not create entries. -/
  | pnAllocWriteDiscard (m : Master) (c : PonCh) (i : BitVec 7)
  /-- PN_ALLOC_CMD_DONE (R138): An allocation-table operation completes and BUSY clears. -/
  | pnAllocCmdDone (c : PonCh)
  /-- PN_SVC_WANT_CLEAR (R156): Writing WANT = 0 starts a channel drain, or is refused when the other channel is not
  IN and FORCE is 0. -/
  | pnSvcWantClear (m : Master) (c : PonCh) (force : Bool)
  /-- PN_SVC_WANT_SET (R155): Writing WANT = 1 resumes staging from DRAIN, or restarts activation from OUT into
  RETURN. -/
  | pnSvcWantSet (m : Master) (c : PonCh) (force : Bool)
  /-- PN_SVC_DRAIN_DONE (R155): The Till empties with no burst scheduled and the channel moves from DRAIN to OUT. -/
  | pnSvcDrainDone (c : PonCh)
  /-- PN_SVC_DRAIN_TIMEOUT (R155): DRAIN_TO elapses, the Till is discarded and the channel moves to OUT. -/
  | pnSvcDrainTimeout (c : PonCh)
  /-- STRIPE_SKIP_MARKER_ARRIVE (R150): A skip marker reaches its stripe context over the side path and enters the
  window. -/
  | stripeSkipMarkerArrive
  /-- STRIPE_TIMEOUT (R149): The oldest held entry of a context reaches TIMEOUT and the numbers up to it are settled.
  -/
  | stripeTimeout (x : Fin 256)
  /-- TLR_STRIPE_READ (R160): TLR_STRIPE_CMD OP 00 reads a stripe context. -/
  | tlrStripeRead (m : Master) (x : Fin 256)
  /-- TLR_STRIPE_WRITE (R160): TLR_STRIPE_CMD OP 01 releases held entries and writes the context into INIT, refused on
  a duplicate SF. -/
  | tlrStripeWrite (m : Master) (x : Fin 256)
  /-- TLR_STRIPE_INVALIDATE (R160): TLR_STRIPE_CMD OP 10 releases held entries and invalidates the context. -/
  | tlrStripeInvalidate (m : Master) (x : Fin 256)
  /-- TLR_STRIPE_FLUSH (R160): TLR_STRIPE_CMD OP 11 settles the context once and keeps it valid. -/
  | tlrStripeFlush (m : Master) (x : Fin 256)
  /-- TLR_STRIPE_CMD_DONE (R160): A stripe context operation completes and BUSY clears. -/
  | tlrStripeCmdDone
  /-- TQ_PLL_LOCK_CHANGE (R165): A quad lane PLL loses or regains lock, taking down or restoring its lanes. -/
  | tqPllLockChange (q : Fin 12) (pll : Fin 2) (lock : Bool)
  /-- TQ_CDR_LOCK_CHANGE (R171): A tenant lane's CDR gains or loses lock on its received signal. -/
  | tqCdrLockChange (n : Port) (lock : Bool)
  /-- TQ_PCS_SYNC_CHANGE (R167): The PCS gains or loses block lock or code-group sync. -/
  | tqPcsSyncChange (n : Port) (sync : Bool)
  /-- HI_BER_WINDOW (R167): A 125 µs header window ends or reaches 16 invalid headers, setting or clearing HI_BER. -/
  | hiBerWindow (n : Port) (bad : Bool)
  /-- TQ_AN_COMPLETE (R167): Auto-negotiation completes with the partner. -/
  | tqAnComplete (n : Port) (speed : BitVec 2) (half : Bool)
  /-- LANE_CAL_DONE (R170): A lane finishes its calibration, passing into IN or failing into OUT. -/
  | laneCalDone (n : Fin 50) (fail : Option (Fin 4))
  /-- RX_FRAME (R174): A frame is received, admitted to the ingress FIFO, size and FCS checked, MACsec verified,
  filtered and stamped. -/
  | rxFrame (n : Port) (x : EthIn)
  /-- TX_FRAME (R175): The MAC transmits a frame after checksum insertion, MACsec protection, padding and FCS append.
  -/
  | txFrame (n : Port) (st : StampIn) (late deferred : Bool)
  /-- HD_COLLISION (R178): A collision during a half-duplex attempt sends a jam and starts back-off or drops the
  frame. -/
  | hdCollision (n : Port) (late deferred : Bool)
  /-- HD_BACKOFF_EXPIRY (R178): The back-off of a half-duplex retry ends and the MAC defers again. -/
  | hdBackoffExpiry (n : Port)
  /-- PAUSE_FRAME_RX (R187): A received pause or PFC frame pauses or releases its priorities, or is dropped. -/
  | pauseFrameRx (n : Port) (pfc : Bool) (mask : BitVec 8) (quanta : BitVec 128)
  /-- PAUSE_TIMER_EXPIRY (R187): A priority's pause timer runs out and the priority is released. -/
  | pauseTimerExpiry (n : Port) (p : Fin 8)
  /-- PFC_XOFF_CHANGE (R188): TMG signals XOFF or release for a priority and the MAC sends a pause or PFC frame. -/
  | pfcXoffChange (n : Port)
  /-- PFC_REFRESH_EXPIRY (R188): The refresh interval elapses while XOFF holds and a fresh pause frame is sent. -/
  | pfcRefreshExpiry (n : Port)
  /-- WDOG_LIMIT_EXPIRY (R190): A radio port's priority has been paused longer than LIMIT and is broken. -/
  | wdogLimitExpiry (n : Port) (p : Fin 8)
  /-- WDOG_HOLDOFF_EXPIRY (R190): HOLDOFF ends for a broken priority. -/
  | wdogHoldoffExpiry (n : Port) (p : Fin 8)
  /-- PRBS_LOCK_CHANGE (R192): The pattern checker gains or drops lock, raising TP_PRBS_LOCK. -/
  | prbsLockChange (lane : Fin 50) (bits : List Bool) (times : Nat) (rest : List Bool)
  /-- PRBS_INJ_ONE (R193): Writing INJ_ONE inverts one generator bit within the next 64 bits. -/
  | prbsInjOne (m : Master) (lane : Fin 50)
  /-- PRBS_CLR (R192): Writing CLR zeroes PRBS_BITS and the error count. -/
  | prbsClr (m : Master) (lane : Fin 50)
  /-- TQ_PORT_WANT_CLEAR (R195): Writing WANT = 0 completes the current frame, flushes, squelches and moves the port
  to OUT. -/
  | tqPortWantClear (m : Master) (n : Port) (rxBusy : Bool)
  /-- TQ_PORT_WANT_SET (R195): Writing WANT = 1 clears loops and starts calibration, moving the port to RETURN. -/
  | tqPortWantSet (m : Master) (n : Port)
  /-- L2_LEARN_INSERT (R222): The learn queue inserts its next request into the L2 table. -/
  | l2LearnInsert
  /-- AGE_SWEEP_VISIT (R223): The aging sweeper visits an entry, clearing HIT or invalidating the entry. -/
  | ageSweepVisit (flow : Bool) (i : BitVec 16) (ecc : EccOutcome) (bank : Fin 64)
  /-- TBL_EPOCH_SWAP (R228): Writing SWAP flips the live epoch, makes the swap pending, or is discarded. -/
  | tblEpochSwap (m : Master)
  /-- TBL_EPOCH_DRAIN_DONE (R228): The draining epoch's in-flight count reaches 0, raising TBL_SWAP_DONE and making
  any pending flip. -/
  | tblEpochDrainDone
  /-- TBL_SWAP_STUCK_EXPIRY (R228): A drain has not ended STUCK µs after the flip and TBL_SWAP_STUCK is raised. -/
  | tblSwapStuckExpiry
  /-- TBL_READ (R225): TBL_CMD OP 0 reads an entry by index. -/
  | tblRead (m : Master) (t : BitVec 4) (i : BitVec 16)
  /-- TBL_WRITE (R225): TBL_CMD OP 1 writes an entry by index and zeroes its hit counter. -/
  | tblWrite (m : Master) (t : BitVec 4) (i : BitVec 16)
  /-- TBL_INVALIDATE (R225): TBL_CMD OP 2 invalidates an entry by index. -/
  | tblInvalidate (m : Master) (t : BitVec 4) (i : BitVec 16)
  /-- TBL_INSERT (R225): TBL_CMD OP 3 inserts an entry by key under the placement rule. -/
  | tblInsert (m : Master) (t : BitVec 4)
  /-- TBL_DELETE (R225): TBL_CMD OP 4 deletes an entry by key. -/
  | tblDelete (m : Master) (t : BitVec 4)
  /-- TBL_SEARCH (R225): TBL_CMD OP 5 searches by key and copies the entry found. -/
  | tblSearch (m : Master) (t : BitVec 4)
  /-- TBL_CMD_DONE (R225): A table operation completes with its CAUSE and BUSY clears. -/
  | tblCmdDone
  /-- TBL_BANK_TAKE_OUT (R232): TBL_BANK_CMD take out starts a copy to the spare, moves a spare to OUT, or is refused.
  -/
  | tblBankTakeOut (m : Master) (b : Fin 64)
  /-- TBL_BANK_RETURN (R232): TBL_BANK_CMD return starts a scrub of an OUT bank. -/
  | tblBankReturn (m : Master) (b : Fin 64)
  /-- TBL_BANK_COPY_DONE (R232): The copy to the spare completes and the spare takes the bank's place. -/
  | tblBankCopyDone (b : Fin 64)
  /-- KP_PG_READ (R235): KP_PG_CMD OP 00 reads a parse-graph node. -/
  | kpPgRead (m : Master) (k : Pipe) (bank : Fin 2) (n : Fin 64)
  /-- KP_PG_WRITE (R229): KP_PG_CMD OP 01 writes a parse-graph node, refused for a live or draining bank after
  sealing. -/
  | kpPgWrite (m : Master) (k : Pipe) (bank : Fin 2) (n : Fin 64)
  /-- KP_PG_CMD_DONE (R235): A parse-graph operation completes and BUSY clears. -/
  | kpPgCmdDone (k : Pipe)
  /-- END_OF_PASS (R243): The action unit applies the pass's action lists, takes mirror copies and settles the
  packet's fate. -/
  | endOfPass (k : Pipe)
  /-- TELLER_DISPATCH (R263): A ready class 0 item is dispatched to the next engine blocked in TAKE. -/
  | tellerDispatch
  /-- INS_SCAN_DONE (R256): An engine finishes a scan and sends its result to the Clearing. -/
  | insScanDone (e : Fin 32)
  /-- TLR_TAKE (R264): Writing TLR_TAKE.TAKE clears the previous result and arms a take. -/
  | tlrTake (m : Master)
  /-- TLR_DELIVER (R264): The next class 1 item is delivered into the take result registers. -/
  | tlrDeliver
  /-- TLR_DONE (R264): Writing TLR_DONE completes the delivered item with its verdict, or is discarded as DONE_MISS.
  -/
  | tlrDone (m : Master) (verdict : BitVec 2) (id : BitVec 14)
  /-- TLR_SW_TIMEOUT (R264): No DONE arrives within SW_TO of delivery and the item fails with SW_TIMEOUT. -/
  | tlrSwTimeout
  /-- TLR_CANCEL_ID (R265): TLR_CANCEL MODE 0 withdraws one item. -/
  | tlrCancelId (m : Master) (id : BitVec 14)
  /-- TLR_CANCEL_DOMAIN (R265): TLR_CANCEL MODE 1 withdraws every item of a domain in GIVE order. -/
  | tlrCancelDomain (m : Master) (d : BitVec 12)
  /-- TLR_WAIT_TIMEOUT (R266): An item ready for WAIT_TO µs without dispatch is cancelled and counted as a timeout. -/
  | tlrWaitTimeout
  /-- INS_ENGINE_FAULT (R270): An uncorrectable fault in an engine's own memory fails its item and takes the engine
  OUT with FAULT. -/
  | insEngineFault (e : Fin 32)
  /-- INS_ENG_WANT_CLEAR (R270): Writing WANT = 0 starts an engine drain. -/
  | insEngWantClear (m : Master) (e : Fin 32)
  /-- INS_ENG_WANT_SET (R270): Writing WANT = 1 returns an OUT engine to IN and TAKE. -/
  | insEngWantSet (m : Master) (e : Fin 32)
  /-- TBL_ACT_READ (R273): TBL_ACT_CMD OP 00 reads an action list or template half. -/
  | tblActRead (m : Master) (tpl : Bool) (i : BitVec 14)
  /-- TBL_ACT_WRITE (R273): TBL_ACT_CMD OP 01 writes an action list or template half. -/
  | tblActWrite (m : Master) (tpl : Bool) (i : BitVec 14)
  /-- TBL_ACT_INVALIDATE (R273): TBL_ACT_CMD OP 10 invalidates a list or zeroes a template half. -/
  | tblActInvalidate (m : Master) (tpl : Bool) (i : BitVec 14)
  /-- TBL_ACT_CMD_DONE (R273): An action-store operation completes and BUSY clears. -/
  | tblActCmdDone
  /-- INS_PAT_READ (R275): INS_PAT_CMD OP 00 reads a pattern slot. -/
  | insPatRead (m : Master) (bank : Fin 2) (i : BitVec 14)
  /-- INS_PAT_WRITE (R253): INS_PAT_CMD OP 01 writes a pattern slot, refused for a live or draining bank or a full
  set. -/
  | insPatWrite (m : Master) (bank : Fin 2) (i : BitVec 14)
  /-- INS_PAT_INVALIDATE (R275): INS_PAT_CMD OP 10 invalidates a pattern slot. -/
  | insPatInvalidate (m : Master) (bank : Fin 2) (i : BitVec 14)
  /-- INS_PAT_CMD_DONE (R275): A pattern operation completes and BUSY clears. -/
  | insPatCmdDone
  /-- TMG_ENQUEUE (R282): A packet arriving at the traffic manager is queued, policed and admitted on chip or to DRAM,
  or dropped. -/
  | tmgEnqueue
  /-- TMG_DEEP_READBACK (R287): TMG reads a queue's DRAM segment back in order into on-chip cells. -/
  | tmgDeepReadback (q : BitVec 12) (lost : Bool)
  /-- TMG_DEQUEUE (R289): A scheduler chooses an eligible child and sends its head packet. -/
  | tmgDequeue (node : Fin 49)
  /-- PURSE_STEP (R291): At each 1 µs step every Purse gains RATE tokens up to its cap and new settings apply. -/
  | purseStep
  /-- GATE_ENTRY_START (R296): A new entry of the operational gate list takes effect. -/
  | gateEntryStart (n : Port)
  /-- GCL_COMMIT (R298): Writing COMMIT fixes the change time of the admin gate list, or is refused. -/
  | gclCommit (m : Master) (n : Port) (enable guard_ : Bool) (len : BitVec 9)
  /-- GCL_HANDOVER (R299): At the change time the admin list is copied into the operational list and a new cycle
  starts. -/
  | gclHandover (n : Port)
  /-- BC_MAP_COMMIT (R301): Writing COMMIT checks the standby burst-map page and makes it pending, or refuses it. -/
  | bcMapCommit (m : Master) (c : PonCh)
  /-- BC_MAP_HANDOVER (R301): At the next T_ref the standby page is checked again and copied into the active page. -/
  | bcMapHandover (c : PonCh)
  /-- TILL_STAGE (R304): The composer stages an SDU from a bound queue into the Till and numbers it if striped. -/
  | tillStage (c : PonCh)
  /-- ALLOC_CUTOFF (R306): At an allocation's cut-off its content is fixed in order and its DBRu computed. -/
  | allocCutoff (c : PonCh)
  /-- BC_PANIC_CHANGE (R308): The composer asserts or clears panic toward the DRAM controllers. -/
  | bcPanicChange (c : PonCh)
  /-- TMG_Q_READ (R312): TMG_Q_CMD OP 00 reads a queue, group, multicast group or queue status entry. -/
  | tmgQRead (m : Master) (sp : BitVec 2) (i : BitVec 12)
  /-- TMG_Q_WRITE (R312): TMG_Q_CMD OP 01 writes a queue, group or multicast group entry. -/
  | tmgQWrite (m : Master) (sp : BitVec 2) (i : BitVec 12)
  /-- TMG_PURSE_READ (R311): TMG_PURSE_CMD OP 00 reads a Purse. -/
  | tmgPurseRead (m : Master) (policer : Bool) (i : BitVec 14)
  /-- TMG_PURSE_WRITE (R292): TMG_PURSE_CMD OP 01 writes a Purse's settings, applied at the next step. -/
  | tmgPurseWrite (m : Master) (policer : Bool) (i : BitVec 14)
  /-- TMG_GCL_READ_ADMIN (R311): TMG_GCL_CMD OP 00 reads an admin gate-list entry. -/
  | tmgGclReadAdmin (m : Master) (n : BitVec 6) (i : BitVec 8)
  /-- TMG_GCL_WRITE_ADMIN (R299): TMG_GCL_CMD OP 01 writes an admin gate-list entry through the shadow rules. -/
  | tmgGclWriteAdmin (m : Master) (n : BitVec 6) (i : BitVec 8)
  /-- TMG_GCL_READ_OPER (R311): TMG_GCL_CMD OP 10 reads an operational gate-list entry. -/
  | tmgGclReadOper (m : Master) (n : BitVec 6) (i : BitVec 8)
  /-- TMG_CMD_DONE (R311): A TMG queue, Purse or gate-list operation completes and BUSY clears. -/
  | tmgCmdDone (which : Fin 3)
  /-- BC_MAP_READ_STANDBY (R314): BC_MAP_CMD OP 00 reads a standby burst-map entry. -/
  | bcMapReadStandby (m : Master) (c : PonCh) (i : BitVec 7)
  /-- BC_MAP_WRITE_STANDBY (R314): BC_MAP_CMD OP 01 writes a standby burst-map entry. -/
  | bcMapWriteStandby (m : Master) (c : PonCh) (i : BitVec 7)
  /-- BC_MAP_READ_ACTIVE (R314): BC_MAP_CMD OP 10 reads an active burst-map entry. -/
  | bcMapReadActive (m : Master) (c : PonCh) (i : BitVec 7)
  /-- BC_MAP_CMD_DONE (R314): A burst-map operation completes and BUSY clears. -/
  | bcMapCmdDone (c : PonCh)
  /-- TIM_SET_TIME (R319): TIM_ADJ_CMD OP 00 accepts a set-time command, or refuses it. -/
  | timSetTime (m : Master)
  /-- TIM_ADD_OFFSET (R319): TIM_ADJ_CMD OP 01 accepts an add-offset command, or refuses it. -/
  | timAddOffset (m : Master)
  /-- TIM_SET_RATE (R320): TIM_ADJ_CMD OP 10 accepts a set-rate command, or refuses it while the servo owns the rate.
  -/
  | timSetRate (m : Master)
  /-- TIM_ADJ_APPLY (R319): An accepted time command reaches N_P, the anchor is replaced and TIM_ADJ_DONE raised. -/
  | timAdjApply
  /-- TIM_SNAPSHOT (R321): Writing TIM_SNAP_CTRL.GO latches N and t(N) into the snapshot registers. -/
  | timSnapshot (m : Master)
  /-- REPLICA_SERIAL_WORD (R324): A replica compares its count with the time-path serial word and reloads on a
  mismatch. -/
  | replicaSerialWord (isl : Fin 64) (crcOk agree : Bool)
  /-- SERVO_SAMPLE (R338): An offset sample from the selected source drives the servo state machine and a rate update
  or step. -/
  | servoSample
  /-- SERVO_SW_SAMPLE (R336): Writing TIM_SERVO_SAMPLE_HI.GO submits a software sample, or is discarded when SRC is
  not software. -/
  | servoSwSample (m : Master) (thetaHi : BitVec 16)
  /-- SERVO_SRC_WRITE (R338): A write of TIM_SRC_CFG.SRC moves the servo to OFF or WAIT. -/
  | servoSrcWrite (m : Master) (v : Word)
  /-- SERVO_SRC_TIMEOUT (R338): SRC_TO ms pass without an applied sample and the servo enters HOLDOVER. -/
  | servoSrcTimeout
  /-- HOLD_LIMIT_EXPIRY (R339): HOLDOVER has lasted HOLD_LIMIT seconds and TIM_HOLD_LONG is raised. -/
  | holdLimitExpiry
  /-- TS_POP (R332): Writing TQ_TS_CTRL.POP discards the head timestamp entry. -/
  | tsPop (m : Master) (p : Port)
  /-- TS_FLUSH (R332): Writing TQ_TS_CTRL.FLUSH discards every timestamp entry. -/
  | tsFlush (m : Master) (p : Port)
  /-- TIM_PTOD_GO (R341): Writing TIM_PTOD_CTRL.GO starts the PON time-of-day computation, or refuses it. -/
  | timPtodGo (m : Master) (ch : PonCh)
  /-- TIM_PTOD_COMPLETE (R341): The PON time-of-day computation completes, writes θ and raises TIM_PTOD_DONE. -/
  | timPtodComplete
  /-- SYNCE_INPUT_FAULT (R343): The DPLL input faults or HOLD_FORCE is set and the DPLL enters HOLDOVER. -/
  | synceInputFault (why : SynceFault)
  /-- SYNCE_SEL_WRITE (R343): A new SyncE input is selected, leaving HOLDOVER through LOCKING when the fault has
  cleared. -/
  | synceSelWrite (m : Master) (v : Word) (inputGood : Bool)
  /-- SYNCE_RECOVERY_EXPIRY (R343): 10 s after the same input recovers the DPLL leaves HOLDOVER through LOCKING. -/
  | synceRecoveryExpiry
  /-- SYNCE_LOCKED (R343): The DPLL completes locking and enters LOCKED. -/
  | synceLocked (fofs : Word)
  /-- PPS_IN_EDGE (R345): An active PPS_IN edge is stamped and accepted or rejected by the window check. -/
  | ppsInEdge (st : StampIn)
  /-- PPS_IN_LOSS_TIMEOUT (R345): 1.5 s pass without an accepted edge and PPS_IN_OK falls. -/
  | ppsInLossTimeout
  /-- PPS_OUT_EDGE (R346): Device time reaches a whole second less the delay and PPS_OUT pulses. -/
  | ppsOutEdge
  /-- TOD_RX_BYTE (R347): A byte received on TOD_IN enters the receive FIFO or is discarded when full. -/
  | todRxByte (b : Byte)
  /-- TOD_TX_WRITE (R347): A byte written to TIM_TOD_TX is queued for sending, or discarded when full. -/
  | todTxWrite (m : Master) (b : Byte)
  /-- TOD_TX_START (R347): Sending of queued ToD bytes starts, at once or TX_DLY after a PPS_OUT edge. -/
  | todTxStart
  /-- TOD_RX_POP (R347): Writing TIM_TOD_RX.POP discards the oldest received byte. -/
  | todRxPop (m : Master)
  /-- AON_OWN_CMD_WRITE (R356): A keyed AON_OWN_CMD write in PROVISION starts fuse programming of an owner or debug
  hash, or is discarded. -/
  | aonOwnCmdWrite (m : Master) (key : BitVec 16) (target : BitVec 3)
  /-- FUSE_PROGRAM_DONE (R356): Fuse programming completes, moving the lifecycle to DEPLOYED when an owner slot is
  provisioned. -/
  | fuseProgramDone
  /-- JOB_GCM_ENC (R377): A GCM_ENC job encrypts to DST and produces a tag. -/
  | jobGcmEnc (m : Master) (p : Fin 2) (ivMode : BitVec 2) (slot : BitVec 10) (src : List Byte)
  /-- JOB_GCM_DEC (R378): A GCM_DEC job decrypts store-and-verify and writes plaintext only after the tag verifies. -/
  | jobGcmDec (m : Master) (p : Fin 2) (ivMode : BitVec 2) (slot : BitVec 10) (src : List Byte)
  /-- JOB_CTR (R377): A CTR job encrypts or decrypts data in counter mode. -/
  | jobCtr (m : Master) (p : Fin 2) (ivMode : BitVec 2) (slot : BitVec 10) (src : List Byte)
  /-- JOB_CMAC (R377): A CMAC job computes a 16-byte MAC. -/
  | jobCmac (m : Master) (p : Fin 2) (ivMode : BitVec 2) (slot : BitVec 10) (src : List Byte)
  /-- JOB_SHA384 (R377): A SHA384 job writes a 48-byte digest. -/
  | jobSha384 (m : Master) (p : Fin 2) (ivMode : BitVec 2) (slot : BitVec 10) (src : List Byte)
  /-- JOB_HMAC_SHA384 (R377): An HMAC_SHA384 job writes a 48-byte MAC under a secret slot. -/
  | jobHmacSha384 (m : Master) (p : Fin 2) (ivMode : BitVec 2) (slot : BitVec 10) (src : List Byte)
  /-- JOB_ECDSA_VERIFY (R377): An ECDSA_VERIFY job verifies a P-384 signature. -/
  | jobEcdsaVerify (m : Master) (p : Fin 2) (ivMode : BitVec 2) (slot : BitVec 10) (src : List Byte)
  /-- JOB_RANDOM (R377): A RANDOM job writes random bytes from the Mint. -/
  | jobRandom (m : Master) (p : Fin 2) (ivMode : BitVec 2) (slot : BitVec 10)
  /-- JOB_KEY_GEN (R377): A KEY_GEN job generates a key into SLOT2. -/
  | jobKeyGen (m : Master) (p : Fin 2) (ivMode : BitVec 2) (slot : BitVec 10)
  /-- JOB_KDF (R377): A KDF job derives a key into SLOT2. -/
  | jobKdf (m : Master) (p : Fin 2) (ivMode : BitVec 2) (slot : BitVec 10) (src : List Byte)
  /-- JOB_UNWRAP (R377): An UNWRAP job unwraps a key into SLOT2. -/
  | jobUnwrap (m : Master) (p : Fin 2) (ivMode : BitVec 2) (slot : BitVec 10) (src : List Byte)
  /-- JOB_ATTEST (R360): An ATTEST job writes a signed 512-byte attestation report. -/
  | jobAttest (m : Master) (p : Fin 2) (ivMode : BitVec 2) (slot : BitVec 10) (src : List Byte)
  /-- JOB_CERT (R359): A CERT job returns the device certificate. -/
  | jobCert (m : Master) (p : Fin 2) (ivMode : BitVec 2) (slot : BitVec 10)
  /-- JOB_OWNER_CMD (R362): An OWNER_CMD job checks and carries out a signed owner command. -/
  | jobOwnerCmd (m : Master) (p : Fin 2) (ivMode : BitVec 2) (slot : BitVec 10) (src : List Byte)
  /-- JOB_DEBUG_CHAL (R363): A DEBUG_CHAL job writes a signed debug challenge and holds its nonce. -/
  | jobDebugChal (m : Master) (p : Fin 2) (ivMode : BitVec 2) (slot : BitVec 10)
  /-- JOB_DEBUG_RESP (R363): A DEBUG_RESP job checks a debug response and opens its scope. -/
  | jobDebugResp (m : Master) (p : Fin 2) (ivMode : BitVec 2) (slot : BitVec 10) (src : List Byte)
  /-- JOB_RMA_CHAL (R365): An RMA_CHAL job writes a signed RMA challenge and holds its nonce. -/
  | jobRmaChal (m : Master) (p : Fin 2) (ivMode : BitVec 2) (slot : BitVec 10)
  /-- JOB_RMA_RESP (R365): An RMA_RESP job checks the RMA response and runs the RMA zeroisation. -/
  | jobRmaResp (m : Master) (p : Fin 2) (ivMode : BitVec 2) (slot : BitVec 10) (src : List Byte)
  /-- JOB_BAD_OP (R377): A job with an unlisted OP or an excessive LEN ends at once with BAD_OP or TOO_LONG. -/
  | jobBadOp (m : Master) (p : Fin 2) (op : Byte) (ivMode : BitVec 2) (slot : BitVec 10)
  /-- VLT_JOB_COMPLETE (R379): A job completes, writes its result register set and raises VLT_JOB_DONE. -/
  | vltJobComplete (p : Fin 2) (busErr : Option Nat)
  /-- KEY_WRITE (R367): KEY_CMD OP 00 enters a key from KEY_IN into a slot of the port's partition. -/
  | keyWrite (m : Master) (p : Fin 2) (slot : BitVec 10)
  /-- KEY_ERASE (R368): KEY_CMD OP 01 erases a slot. -/
  | keyErase (m : Master) (p : Fin 2) (slot : BitVec 10)
  /-- KEY_READ_ATTR (R367): KEY_CMD OP 10 returns a slot's type, use bits and check value. -/
  | keyReadAttr (m : Master) (p : Fin 2) (slot : BitVec 10)
  /-- KEY_CMD_COMPLETE (R368): A key write or erase takes effect once every engine has acknowledged and any Escrow
  wait ends. -/
  | keyCmdComplete (p : Fin 2)
  /-- MINT_HEALTH_FAIL (R371): A continuous entropy health test fails and the Mint enters FAIL. -/
  | mintHealthFail (adaptive : Bool)
  /-- MINT_RESTART (R371): Writing VLT_MINT_CTRL.RESTART reruns the Mint start-up tests. -/
  | mintRestart (m : Master)
  /-- MINT_RESTART_DONE (R371): The rerun start-up tests finish, returning the Mint to OK when they pass. -/
  | mintRestartDone (pass : Bool)
  /-- MINT_RESEED_EXPIRY (R372): The DRBG reaches its reseed interval and reseeds. -/
  | mintReseedExpiry
  /-- NONCE_EXPIRY (R363): A held debug or RMA nonce reaches its 60 s limit and is discarded. -/
  | nonceExpiry (rma : Bool)
  /-- DEBUG_CLOSE (R363): Writing VLT_DBG_CTRL.CLOSE closes the open debug scope. -/
  | debugClose (m : Master)
  /-- CRYPT_COMPARE_MISMATCH (R375): A cipher engine's two computations disagree, nothing is released and the engine
  is drained. -/
  | cryptCompareMismatch (engine : Fin 15) (lane : Fin 4)
  /-- SLOT_ECC_ERROR (R369): An uncorrectable ECC error in a Vault slot erases it and raises VLT_FAULT. -/
  | slotEccError (slot : BitVec 10)
  /-- TQ_SEC_READ (R388): TQ_SEC_CMD OP 00 reads a transmit SA, receive SC or receive SA. -/
  | tqSecRead (m : Master) (n : Port) (sp : Fin 3) (i : BitVec 5)
  /-- TQ_SEC_WRITE (R389): TQ_SEC_CMD OP 01 writes an SA or SC, refused when the slot is unusable. -/
  | tqSecWrite (m : Master) (n : Port) (sp : Fin 3) (i : BitVec 5)
  /-- TQ_SEC_INVALIDATE (R388): TQ_SEC_CMD OP 10 invalidates an SA or SC. -/
  | tqSecInvalidate (m : Master) (n : Port) (sp : Fin 3) (i : BitVec 5)
  /-- TQ_SEC_CMD_DONE (R388): A SecY operation completes and BUSY clears. -/
  | tqSecCmdDone (n : Port)
  /-- FW_VERIFY_DONE (R394): The loader finishes reading and verifying a firmware copy with a pass or a fail code. -/
  | fwVerifyDone (image : Option (List Byte))
  /-- STW_READY_WRITE (R395): The firmware writes STW_READY.READY, moving the Steward to RUN and delivering held
  inputs. -/
  | stwReadyWrite (m : Master)
  /-- STW_READY_TIMEOUT (R395): READY does not arrive within 150 ms of execution start and the copy fails with code
  0xC. -/
  | stwReadyTimeout
  /-- STW_WDOG_KICK (R397): The firmware writes STW_WDOG.KICK, restarting the watchdog. -/
  | stwWdogKick (m : Master)
  /-- STW_WDOG_EXPIRY (R397): The watchdog expires and the Steward restarts. -/
  | stwWdogExpiry
  /-- STW_RESTART_CMD (R396): A keyed STW_CTRL RESTART write restarts the Steward on the same copy. -/
  | stwRestartCmd (m : Master) (key : BitVec 16)
  /-- STW_SWITCH_CMD (R398): A keyed STW_CTRL SWITCH write verifies the target copy and, unless VERIFY_ONLY, switches
  to it. -/
  | stwSwitchCmd (m : Master) (key : BitVec 16) (target verifyOnly : Bool)
  /-- STW_GRACE_EXPIRY (R396): GRACE elapses in RESTART without READY, held inputs are discarded and the Steward is
  DOWN. -/
  | stwGraceExpiry
  /-- OMCI_MESSAGE (R400): The Steward checks the MIC of an OMCI message, acts on it and answers. -/
  | omciMessage (c : PonCh) (r : OmciReq)
  /-- OMCI_HOST_ACK_TIMEOUT (R407): The host does not acknowledge a mailbox change within 50 ms and the Steward
  answers device busy. -/
  | omciHostAckTimeout
  /-- OPTICS_POLL (R405): The Steward polls optics diagnostics once per second and raises or clears OMCI alarms. -/
  | opticsPoll (c : PonCh) (optics : BitVec 5)
  /-- MAILBOX_H2S_GO (R408): The host writes GO on its mailbox, setting FULL and interrupting the Steward. -/
  | mailboxH2sGo
  /-- MAILBOX_S2H_GO (R408): The Steward writes GO on its mailbox, setting FULL and raising STW_MB_S2H. -/
  | mailboxS2hGo
  /-- MAILBOX_H2S_ACK (R408): The Steward acknowledges the host-to-Steward message, clearing FULL. -/
  | mailboxH2sAck
  /-- MAILBOX_S2H_ACK (R408): The host acknowledges the Steward-to-host message, clearing FULL. -/
  | mailboxS2hAck
  /-- STW_PKT_COPY (R409): STW_PKT_CMD.GO copies the delivered class 1 item into Steward SRAM, or fails with a CAUSE.
  -/
  | stwPktCopy (offset len : BitVec 14)
  /-- HST_PKT_COPY (R473): HST_PKT_CMD.GO copies the delivered class 1 item into host memory. -/
  | hstPktCopy (offset len : BitVec 14)
  /-- PKT_COPY_DONE (R409): A packet copy to the software consumer completes and BUSY clears. -/
  | pktCopyDone (host : Bool)
  /-- MC_TRAIN_DONE (R416): A DRAM channel's training sequence finishes, passing, retrying or leaving the channel out.
  -/
  | mcTrainDone (c : Fin 8) (pass : Bool) (step : BitVec 3) (margins : Word)
  /-- DRAM_COMMAND_ISSUE (R420): A channel issues its first eligible command in priority order. -/
  | dramCommandIssue (c : Fin 8) (arrivals : List DramReq)
  /-- DRAM_READ_RETURN (R429): A DRAM read returns, correcting a single-bit error or marking an uncorrectable one
  poisoned. -/
  | dramReadReturn (c : Fin 8) (ecc : EccOutcome) (syndrome : BitVec 10) (page : DramPage)
  /-- REFRESH_INTERVAL (R422): A tREFIpb interval passes, raising the refresh debt and forcing a refresh when it would
  exceed 8. -/
  | refreshInterval (c : Fin 8)
  /-- REFRESH_WINDOW_CLEAR (R427): A refresh window starts and every row-hammer tracker clears. -/
  | refreshWindowClear (c : Fin 8)
  /-- MR4_POLL (R424): A channel reads MR4 and changes its refresh rate, issuing catch-up refreshes on an increase. -/
  | mr4Poll (c : Fin 8) (rate : Fin 3)
  /-- MC_PANIC_CLEAR (R425): Panic clears and remaining refresh debt is issued back to back. -/
  | mcPanicClear (c : Fin 8)
  /-- SCRUB_VISIT (R432): Patrol scrub reads the next granule of a channel. -/
  | scrubVisit (c : Fin 8) (bank : Fin 16) (row : BitVec 17) (col : BitVec 5) (opens : Bool)
  /-- MC_SVC_WANT_CLEAR (R434): Writing MC_SVC_CTRL.WANT = 0 stops page allocation and starts a drain. -/
  | mcSvcWantClear (m : Master) (c : Fin 8)
  /-- MC_SVC_WANT_SET (R434): Writing WANT = 1 resumes allocation from DRAIN, or starts training from OUT. -/
  | mcSvcWantSet (m : Master) (c : Fin 8)
  /-- MC_SVC_DRAIN_DONE (R434): No page of a draining channel is in use and the PHY stops. -/
  | mcSvcDrainDone (c : Fin 8)
  /-- MC_SVC_DRAIN_TIMEOUT (R434): DRAIN_TO elapses and packets still on the channel are discarded. -/
  | mcSvcDrainTimeout (c : Fin 8)
  /-- MC_UNIT_INIT_DONE (R434): A 1 GiB unit finishes initialisation and its pages join the free list. -/
  | mcUnitInitDone (c : Fin 8)
  /-- MC_ECC_CLR (R431): Writing MC_ECC_CLR.CLR empties the ECC log and clears MORE. -/
  | mcEccClr (m : Master) (c : Fin 8)
  /-- MCC_TRACE_EN_SET (R433): Setting MCC_TRACE_CFG.EN allocates the trace ring and starts recording. -/
  | mccTraceEnSet (m : Master)
  /-- MCC_TRACE_READ (R433): MCC_TRACE_CMD.GO copies a trace record into the data registers, or gives CAUSE 01. -/
  | mccTraceRead (m : Master) (i : BitVec 28)
  /-- LEDGER_RECORD_READ (R468): EVT_LGR_CMD.GO copies a Ledger event record into the data registers. -/
  | ledgerRecordRead (m : Master) (i : BitVec 16)
  /-- RECORD_READ_DONE (R435): A trace or Ledger record read completes and BUSY clears. -/
  | recordReadDone (ledger : Bool)
  /-- BAR0_BAD_REQUEST (R441): A BAR0 request of bad length, alignment or byte enables is answered UR or discarded and
  counted. -/
  | bar0BadRequest (a : BitVec 26) (write byteEnables : Bool)
  /-- HST_READ_TIMEOUT (R442): A BAR0 read not completed within RD_TO is completed with all ones and counted. -/
  | hstReadTimeout (a : BitVec 26)
  /-- HOST_PATH_DOWN (R462): The host path goes down, stopping host channels and suppressing records and messages. -/
  | hostPathDown (why : PathDown)
  /-- PCIE_LINK_CHANGE (R439): The PCIe link comes up or goes down and HST_LINK is raised. -/
  | pcieLinkChange (now : LinkNow) (gen : Fin 4) (width : Fin 3)
  /-- DC_DOORBELL (R451): A write of DC_DB.PI gives descriptors to a channel, or is discarded when it overfills the
  ring. -/
  | dcDoorbell (m : Master) (d : Fin 32) (pi : BitVec 17)
  /-- DESCRIPTOR_FETCH (R451): A running channel fetches descriptor CI and accepts it or finds it stale. -/
  | descriptorFetch (d : Fin 32) (desc data : List Byte)
  /-- STALE_REREAD_EXPIRY (R451): 1 µs after a stale read the channel re-reads, stopping with STALE_DESC after the
  last re-read. -/
  | staleRereadExpiry (d : Fin 32) (desc data : List Byte)
  /-- DESCRIPTOR_COMPLETE (R452): A descriptor's transfer completes and is written back with its status, advancing CI.
  -/
  | descriptorComplete (d : Fin 32)
  /-- DMA_BUS_ERROR (R459): A request fails on the bus, ending the descriptor or leaving CI, and the channel stops. -/
  | dmaBusError (d : Fin 32) (phase : DmaPhase) (cause : Fin 4) (moved : BitVec 25)
  /-- DC_START (R459): Writing DC_CTRL.START moves an IDLE or STOPPED channel to RUN, with any committed hand-over. -/
  | dcStart (m : Master) (d : Fin 32)
  /-- DC_ABORT (R458): Writing DC_CTRL.ABORT stops the channel after its issued requests complete. -/
  | dcAbort (m : Master) (d : Fin 32) (moved : BitVec 25)
  /-- DC_COMMIT (R456): Writing DC_CTRL.COMMIT makes the shadow ring configuration pending for hand-over. -/
  | dcCommit (m : Master) (d : Fin 32)
  /-- EVT_ACCEPT (R466): EVT accepts one raised event and routes its record to the host ring, Ledger and OSPA sinks.
  -/
  | evtAccept
  /-- EVT_RING_CI_WRITE (R467): The host writes a ring's CI, freeing records, or the write is discarded when out of
  range. -/
  | evtRingCiWrite (m : Master) (r : Fin 4) (ci : Word)
  /-- MSIX_COALESCE_EXPIRY (R471): TIME µs pass since a vector's first pending cause and its message is sent. -/
  | msixCoalesceExpiry (v : Fin 64)
  /-- MSIX_MASK_CLEAR (R471): A vector or function mask clears and pending causes are sent. -/
  | msixMaskClear (v : Option (Fin 64))
  /-- PWR_GO (R481): A keyed AON_PWR_CTRL GO starts a power-state entry handshake or an exit. -/
  | pwrGo (m : Master) (key : BitVec 16) (target : BitVec 3)
  /-- ISLAND_POWER_REPLY (R482): An island replies ACK, DELAY or REFUSE to an entry request. -/
  | islandPowerReply (isl : Fin 64) (reply : Fin 3)
  /-- PWR_DELAY_MAX_EXPIRY (R482): An island still holds DELAY after DELAY_MAX and the entry is aborted. -/
  | pwrDelayMaxExpiry
  /-- ISLAND_COMMIT_STEP (R484): AON commits the next island into Keep and samples wake sources in the fifth clock. -/
  | islandCommitStep
  /-- WAKE_EVENT (R485): An enabled wake source acts, aborting an entry or starting an exit to P0. -/
  | wakeEvent (src : Fin 22) (high inWindow : Bool)
  /-- WAKE_TIMER_EXPIRY (R485): The wake timer expires after an entry and acts as a level wake source. -/
  | wakeTimerExpiry
  /-- ISLAND_EXIT_STEP (R487): AON brings the next kept island back: power, fast clock, restore and release. -/
  | islandExitStep
  /-- REGULATOR_READY_TIMEOUT (R490): An island's power switch is not ready within 2 ms and is retried or the island
  marked dark. -/
  | regulatorReadyTimeout (isl : Fin 64)
  /-- OSCILLATOR_READY_TIMEOUT (R490): The oscillator is not ready within 5 ms and is retried or the island marked
  dark. -/
  | oscillatorReadyTimeout (isl : Fin 64)
  /-- CLK_SWITCH (R487): Writing AON_CLK_CTRL.SWITCH moves every island to its PLL clock, or is discarded. -/
  | clkSwitch (m : Master)
  /-- CRYSTAL_LOST (R491): The crystal fails, the core runs on the fast oscillator and PON transmitters are inhibited.
  -/
  | crystalLost (ms : BitVec 16)
  /-- DVFS_VOLT_WRITE (R494): A VOLT write is refused or drives the core regulator over PMBus. -/
  | dvfsVoltWrite (m : Master) (volt : BitVec 10) (acks : Bool)
  /-- DVFS_FREQ_WRITE (R494): A FREQ write is refused or retargets the scaled islands' clocks. -/
  | dvfsFreqWrite (m : Master) (freq : BitVec 2)
  /-- DVFS_SETTLE_EXPIRY (R495): SETTLE µs after a VOLT write the new voltage is in force and V_BUSY clears. -/
  | dvfsSettleExpiry
  /-- DVFS_FREQ_DONE (R495): The frequency change completes and F_BUSY clears. -/
  | dvfsFreqDone
  /-- SAG_ONSET (R496): PWR_FAIL_N or the 3.3 V monitor declares a sag, stopping nonvolatile writes and setting dying
  gasp. -/
  | sagOnset (pin mon : Bool) (mv : BitVec 16) (late : Bool)
  /-- SAG_CLEAR (R498): Supplies have been good for 10 ms, writes are permitted again and SAG clears. -/
  | sagClear (mv : BitVec 16)
  /-- ISLAND_FAULT_DETECT (R499): An island detects an uncorrectable internal fault and is drained, discarding its in-
  flight work. -/
  | islandFaultDetect (isl : Fin 64) (cause : Fin 4) (bad : Option (BitVec 12 × Nat))
  /-- ISLAND_DRAIN_DONE (R500): A drained island reinitialises its datapath and resumes. -/
  | islandDrainDone (isl : Fin 64)
  /-- ISL_TAKE_OUT (R501): AON_ISL_CMD OP 01 takes a permitted island out into Keep, or is refused. -/
  | islTakeOut (m : Master) (isl : BitVec 6)
  /-- ISL_RETURN (R501): AON_ISL_CMD OP 10 returns an OUT or DARK island through the exit steps and an SRAM test. -/
  | islReturn (m : Master) (isl : BitVec 6)
  /-- ISL_RESET (R501): AON_ISL_CMD OP 11 takes an island out and returns it as one command. -/
  | islReset (m : Master) (isl : BitVec 6)
  /-- ISL_RETURN_TEST_DONE (R501): A returned island's SRAM test ends and the island becomes IN or DARK. -/
  | islReturnTestDone (pass : Bool)
  /-- TALLY_READ (R513): PMC_TALLY_CMD OP 00 reads a Tally counter. -/
  | tallyRead (m : Master) (sp : BitVec 5) (i : BitVec 16)
  /-- TALLY_READ_CLEAR (R513): PMC_TALLY_CMD OP 01 reads and clears a Tally counter in one clock. -/
  | tallyReadClear (m : Master) (sp : BitVec 5) (i : BitVec 16)
  /-- TALLY_CLEAR (R513): PMC_TALLY_CMD OP 10 clears a Tally counter. -/
  | tallyClear (m : Master) (sp : BitVec 5) (i : BitVec 16)
  /-- TALLY_CMD_DONE (R513): A Tally operation completes with its CAUSE and BUSY clears. -/
  | tallyCmdDone
  /-- PMC_CTR_WRITE (R514): A write of PMC_CTR_LO or PMC_CTR_HI presets a performance counter. -/
  | pmcCtrWrite (m : Master) (c : Fin 96) (hi : Bool) (v : Word)
  /-- PMC_SNAP (R517): Writing PMC_CTRL.SNAP copies all counters into PMC_SHOT in one clock. -/
  | pmcSnap (m : Master)
  /-- SAMPLER_TRIGGER (R518): A sampler's count reaches PERIOD and arms its sample point, or counts a miss. -/
  | samplerTrigger (k : Fin 4) (skid : Fin 5)
  /-- CHK_SCAN_GO (R521): Writing CHK_CTRL.GO starts a register scan on a free check unit. -/
  | chkScanGo (m : Master) (u : Fin 4) (poly space : BitVec 2) (ns : Bool)
  /-- CHK_SCAN_DONE (R521): A scan ends and its CRC result set is written, raising CHK_DONE. -/
  | chkScanDone (u : Fin 4) (data : List Byte) (busOk : Bool)
  /-- CHK_SCRUB_START (R523): A waiting bank scrub takes the lowest free check unit. -/
  | chkScrubStart
  /-- CHK_SCRUB_DONE (R523): A bank scrub ends, moving the bank to SPARE or back to OUT. -/
  | chkScrubDone (u : Fin 4) (pass : Bool)
  /-- EVT_SOFT_HOST_GO (R536): A GO on the host software-source page raises a host source or sets REFUSED. -/
  | evtSoftHostGo (m : Master) (sev : BitVec 2) (source : BitVec 10)
  /-- EVT_SOFT_STEWARD_GO (R536): A GO on the Steward software-source page raises a Steward source or sets REFUSED. -/
  | evtSoftStewardGo (m : Master) (sev : BitVec 2) (source : BitVec 10)
  /-- TEMP_SENSOR_READ (R556): The on-die sensors are read, updating AON_TEMP and TALERT_N. -/
  | tempSensorRead (hot : BitVec 12)
  /-- TQ_FEC_LOCK_CHANGE (R169): A 25GBASE-R lane with FEC on gains or loses FEC codeword lock, updating
  TQ_LANE_STAT.FEC_LOCK and so LINK. -/
  | tqFecLockChange (n : Port) (lock : Bool)
  /-- RH_THROTTLE_HOLD_EXPIRY (R428): The HOLD µs throttle of a requester after an RFM runs out and its activations to
  that bank are no longer spaced by GAP. -/
  | rhThrottleHoldExpiry (c : Fin 8) (bank : Fin 16) (id : Fin 7)
  /-- P3_EXIT_PLL_LOCK (R488): After a P3 exit the PLLs lock, PLL_READY rises, and TIM advances its raw count by 50
  for each crystal cycle counted in P3. -/
  | p3ExitPllLock
  /-- HOST_PATH_UP (R462): Every condition of a down host path ends and PATH_DOWN clears, so records, MSI-X messages
  and host channel starts are possible again. -/
  | hostPathUp
  /-- LIFECYCLE_ADVANCE (R355): Emredom test writes the advance command over JTAG and the lifecycle moves from MFG to
  PROVISION. -/
  | lifecycleAdvance (ready : Bool)
  /-- RAIL_ENTERS_RANGE (R546): A supply rail enters its POR range; when VDDA_SD does so, BEN_A and BEN_B start
  driving their strap's disabled level, and the last rail to enter starts the 2 ms POR hold. -/
  | railEntersRange (r : Fin 9)
  deriving DecidableEq, Repr

end Sys2Proof
end

