-- ==== Sys2Proof/Decode.lean ====
section
/-! DEFINITION. The command a word spells. The rows of the table give no bits: a command is a register access or a happening at
the device's pins, so no word spells one. -/

namespace Sys2Proof

/-- The command a word of `nbits` bits spells: none, since no row of the table gives bits. -/
def decodeTableWord (nbits w : Nat) : Option Instr :=
  match nbits, w with
  | _, _ => none

end Sys2Proof
end

