-- ==== Sys2Proof/Config.lean ====
section
/-! DEFINITION. What the spec leaves open. Each constant here has no body: nothing can evaluate it, so a statement that
holds of the model holds for every value it may have. -/

namespace Sys2Proof

/-- The n-th free value: one the spec leaves open where the machine goes on. -/
opaque Config.free : Nat → Nat

/-- The corrected interval D(code) of a stamp point in units of 2⁻¹⁶ ns (R326). The calibration table is built in the
part and the spec gives no entry of it. Points: 0 to 47 receive of a port, 48 to 95 transmit, 96 and 97 PON, 98
PPS_IN. -/
opaque Config.interval : Nat → Nat → Nat

/-- Whether the hash of the VLAN translation table can place a key at an index (R217, R225): the spec names no hash. Its
key is SRC, OVID, IVID and IVID_ANY as the entry's bits [32:0]. -/
opaque Config.vlanPlace : Nat → Nat → Bool

/-- The bytes each deep-buffer budget of R38 can hold at most: the spec gives the rate alone. -/
opaque Config.deepBurst : Nat

/-- A counter block of the recommendation's counter mode (R91, R122): a number that stands for the frame and the place of its
XGEM frame, and the block's number in the payload. The spec leaves the block's layout to the recommendation. -/
opaque Config.ponCounter : Nat → Nat → Nat

/-- The key derivation of R370 from a registration ID and a serial number: 0 the MSK, 1 the PLOAM_IK, 2 the OMCI_IK, 3 the
KEK. The spec leaves it to the recommendation. -/
opaque Config.ponDerive : Nat → List Byte → List Byte → Nat

/-- The HEC of an FS burst header: the ONU-ID and the PLOAM-queue-status, RDI and dying-gasp indications (R126, R134); the spec
leaves the header's coding to the recommendation. -/
opaque Config.headerHec : Nat → Bool → Bool → Bool → Nat

/-- The BIP of a burst's FS trailer, from its header's ONU-ID and HEC and its payload bytes (R126); the spec leaves it to the
recommendation. -/
opaque Config.burstBip : Nat → Nat → List Byte → Nat

/-- A key as Key_Report carries it, wrapped under a 128-bit key-encryption key (R122): the spec leaves the wrapping to the
recommendation. -/
opaque Config.keyWrap : Nat → Nat → List Byte

/-- The recommendation's default PLOAM_IK, held in ROM (R370). -/
opaque Config.romPloamIk : Nat

/-- Whether a carry leaves the last 32 bits of a CTR job's counter block (R377): the spec does not say. -/
opaque Config.ctrWide : Bool

/-- The input of one CMAC of a KDF job (R377): the label and context, the key's bits and the block's number. SP 800-108 leaves
its encoding to the user, and the spec does not give it. -/
opaque Config.kdfInput : List Byte → Nat → Nat → List Byte

/-- The private key of the identity (R358). -/
opaque Config.identityKey : Nat

/-- The device certificate of the Ledger identity area (R359). -/
opaque Config.certificate : List Byte

/-- The hash of the Emredom RMA key, fused at test (R365), and that of the Emredom firmware key, held in ROM (R393). -/
opaque Config.rmaKeyHash : Nat
opaque Config.fwKeyHash : Nat

/-- The answer of the OMCI agent without its MIC: the result code, the values it reports and the request (R400); G.988 gives its
coding. -/
opaque Config.omciReply : Nat → List Nat → List Byte → List Byte

/-- An alarm notification of the OMCI agent: the alarm's number and whether it is raised (R405). -/
opaque Config.omciAlarm : Nat → Bool → List Byte

/-- What a STEWARD section says: the primary channel, 0 PCA or 1 PCB (R400), and TEQD and DN_SHARE of a channel (R403). The
section's format is Emredom's. -/
opaque Config.primary : List Byte → Nat
opaque Config.stwTeqd : List Byte → Nat → Nat
opaque Config.stwShare : List Byte → Nat → Nat

end Sys2Proof
end

