-- ==== Sys2Proof/Machine/EvSrc.lean ====
section
/-! DEFINITION. The event sources of R534, by name; where a name covers a range of numbers, its first number. -/

namespace Sys2Proof.Machine

def Ev.ISL_XING_PARITY : Nat := 0
def Ev.ISL_LIVE_CHANGE : Nat := 1
def Ev.KP_RECIRC_CAP : Nat := 2
def Ev.KP_HOST_STARVED : Nat := 4
def Ev.KP_RATE_SHORT : Nat := 6
def Ev.BOOT_RUN : Nat := 8
def Ev.BOOT_COPY_FAIL : Nat := 9
def Ev.BOOT_REBOOT : Nat := 10
def Ev.XTAL_FAIL : Nat := 11
def Ev.ASSAY_ISLAND_FAIL : Nat := 12
def Ev.STW_FW_FAIL : Nat := 13
def Ev.SEAL_DISCARD : Nat := 14
def Ev.BOOT_EVT_OVERFLOW : Nat := 15
def Ev.BOOT_PREV_HOLD : Nat := 16
def Ev.PN_RX_LOS : Nat := 17
def Ev.PN_ALIGN_LOCK : Nat := 18
def Ev.PN_ALIGN_LOSS : Nat := 19
def Ev.PN_CAND_FULL : Nat := 20
def Ev.PN_FEC_SD : Nat := 21
def Ev.PN_FEC_SF : Nat := 22
def Ev.PN_FS_HDR_ERR : Nat := 23
def Ev.PN_XGEM_DELIN : Nat := 24
def Ev.PN_KEY_FAULT : Nat := 25
def Ev.PN_REASM_ERR : Nat := 26
def Ev.PN_DS_OVERRUN : Nat := 27
def Ev.PN_OSP_LOST : Nat := 28
def Ev.PN_TOD_DONE : Nat := 29
def Ev.PN_ACT_STATE : Nat := 43
def Ev.PN_RANGED : Nat := 44
def Ev.PN_TO_EXPIRE : Nat := 45
def Ev.PN_ESTOP : Nat := 46
def Ev.PN_GRANT_MISS : Nat := 47
def Ev.PN_BWMAP_LOST : Nat := 48
def Ev.PN_ROGUE : Nat := 49
def Ev.PN_BEN_MISS : Nat := 50
def Ev.PN_ALLOC_REFUSED : Nat := 51
def Ev.PN_PLOAM_REJECT : Nat := 52
def Ev.PN_KEY_SWITCH : Nat := 53
def Ev.PN_PS_STATE : Nat := 54
def Ev.PN_GASP : Nat := 55
def Ev.TW_SVC_STATE : Nat := 69
def Ev.TW_LAST_REFUSED : Nat := 71
def Ev.TLR_STRIPE_LOST : Nat := 73
def Ev.TLR_STRIPE_NO_CTX : Nat := 74
def Ev.TLR_STRIPE_POOL : Nat := 75
def Ev.TLR_STRIPE_RESYNC : Nat := 76
def Ev.TP_LINK : Nat := 77
def Ev.TQ_PLL : Nat := 125
def Ev.TP_WDOG_BREAK : Nat := 137
def Ev.TP_WAKE_MATCH : Nat := 138
def Ev.TP_SVC_STATE : Nat := 139
def Ev.TP_HI_BER : Nat := 140
def Ev.TP_EXCESS_COLL : Nat := 141
def Ev.TP_PRBS_LOCK : Nat := 142
def Ev.TP_RADIO_REFUSED : Nat := 143
def Ev.TP_CAL_FAIL : Nat := 144
def Ev.KP_LEN_ERR : Nat := 145
def Ev.KP_PASS_LIMIT : Nat := 147
def Ev.KP_STAGE_BAD : Nat := 149
def Ev.TBL_SWAP_DONE : Nat := 151
def Ev.TBL_SWAP_STUCK : Nat := 152
def Ev.TBL_L2_LEARN_REFUSED : Nat := 153
def Ev.TBL_L2_MOVE : Nat := 154
def Ev.TBL_FLOW_AGED : Nat := 155
def Ev.TBL_ECC_CORR : Nat := 156
def Ev.TBL_ENTRY_LOST : Nat := 157
def Ev.TBL_BANK_STATE : Nat := 158
def Ev.KP_ACT_REFUSED : Nat := 159
def Ev.KP_ACT_BAD : Nat := 161
def Ev.TLR_REFUSED : Nat := 163
def Ev.TLR_TIMEOUT : Nat := 164
def Ev.TLR_FAILED : Nat := 165
def Ev.TLR_LEVEL_HIGH : Nat := 166
def Ev.INS_ENG_FAULT : Nat := 167
def Ev.INS_ENG_SVC : Nat := 168
def Ev.INS_PSET_BAD : Nat := 169
def Ev.TLR_DONE_MISS : Nat := 170
def Ev.TMG_POOL_FULL : Nat := 171
def Ev.TMG_NO_QUEUE : Nat := 172
def Ev.TMG_DEEP_REFUSED : Nat := 173
def Ev.TMG_PFC_XOFF : Nat := 174
def Ev.TMG_GCL_SWITCH : Nat := 175
def Ev.TMG_GCL_REFUSED : Nat := 176
def Ev.BC_MAP_SWITCH : Nat := 177
def Ev.BC_MAP_REFUSED : Nat := 179
def Ev.BC_TILL_SHORT : Nat := 181
def Ev.BC_PANIC : Nat := 183
def Ev.BC_TILL_FULL : Nat := 185
def Ev.TIM_SERVO_STATE : Nat := 187
def Ev.TIM_STEP : Nat := 188
def Ev.TIM_HOLDOVER : Nat := 189
def Ev.TIM_HOLD_LONG : Nat := 190
def Ev.TIM_REPLICA_ERR : Nat := 191
def Ev.TIM_ADJ_DONE : Nat := 192
def Ev.TIM_PTOD_DONE : Nat := 193
def Ev.TIM_PPS_IN : Nat := 194
def Ev.TIM_SYNCE_STATE : Nat := 195
def Ev.TIM_SYNCE_SRC_FAIL : Nat := 196
def Ev.TP_TS_LOST : Nat := 197
def Ev.TP_ONE_STEP_LATE : Nat := 198
def Ev.VLT_FAULT : Nat := 199
def Ev.VLT_MINT_FAIL : Nat := 200
def Ev.VLT_JOB_DONE : Nat := 201
def Ev.VLT_KEY_CHANGE : Nat := 202
def Ev.VLT_ESCROW_FULL : Nat := 203
def Ev.VLT_IV_THRESHOLD : Nat := 204
def Ev.VLT_LIFECYCLE : Nat := 205
def Ev.VLT_DEBUG_OPEN : Nat := 206
def Ev.VLT_OWNER_CMD : Nat := 207
def Ev.VLT_OWNER_CMD_REJECT : Nat := 208
def Ev.TP_SEC_PN_THRESHOLD : Nat := 209
def Ev.TP_SEC_PN_EXHAUSTED : Nat := 210
def Ev.TP_SEC_ICV_FAIL : Nat := 211
def Ev.TP_SEC_NO_SA : Nat := 212
def Ev.TP_SEC_REPLAY : Nat := 213
def Ev.STW_STATE : Nat := 214
def Ev.STW_WDOG : Nat := 215
def Ev.STW_FW_SWITCH : Nat := 216
def Ev.STW_OWN_DISC : Nat := 217
def Ev.STW_MB_S2H : Nat := 218
def Ev.STW_FAULT : Nat := 219
def Ev.STW_SOFT : Nat := 220
def Ev.MC_TRAIN_FAIL : Nat := 221
def Ev.MC_SVC_STATE : Nat := 222
def Ev.MC_ECC_CE : Nat := 223
def Ev.MC_ECC_UE : Nat := 224
def Ev.MC_TEMP_RATE : Nat := 225
def Ev.MC_REF_FORCED : Nat := 226
def Ev.MC_RH_THROTTLE : Nat := 227
def Ev.MC_FAULT : Nat := 228
def Ev.MCC_TRACE_OFF : Nat := 229
def Ev.HST_LINK : Nat := 230
def Ev.HST_DARK_ACCESS : Nat := 231
def Ev.HST_RD_TIMEOUT : Nat := 232
def Ev.HST_BAD_REQ : Nat := 233
def Ev.HST_PCIE_ERR : Nat := 234
def Ev.DMA_STALE_DESC : Nat := 235
def Ev.DMA_BUS_ERR : Nat := 236
def Ev.DMA_ABORTED : Nat := 237
def Ev.DMA_FAULT : Nat := 238
def Ev.DMA_HANDOVER : Nat := 239
def Ev.EVT_RING_FULL : Nat := 240
def Ev.EVT_LGR_DROP : Nat := 241
def Ev.PWR_STATE : Nat := 242
def Ev.PWR_REFUSED : Nat := 243
def Ev.WAKE_FAIL : Nat := 244
def Ev.PWR_XTAL_LOST : Nat := 245
def Ev.PWR_DVFS_ORDER : Nat := 246
def Ev.PWR_DVFS_DONE : Nat := 247
def Ev.PWR_SAG : Nat := 248
def Ev.PWR_SAG_CLEAR : Nat := 249
def Ev.PWR_GASP_PREV : Nat := 250
def Ev.ISL_FAULT : Nat := 251
def Ev.ISL_FAULT_LIMIT : Nat := 252
def Ev.ISL_SVC : Nat := 253
def Ev.PWR_CLK_SWITCH : Nat := 254
def Ev.PMC_OVERFLOW : Nat := 255
def Ev.PMC_SAMPLE_MISS : Nat := 256
def Ev.CHK_DONE : Nat := 257
def Ev.CHK_STREAM_FAIL : Nat := 258
def Ev.CHK_SCRUB_FAIL : Nat := 259

end Sys2Proof.Machine
end

