-- ==== Sys2Proof/Machine/Packet.lean ====
section
/-! DEFINITION. A packet with its Wallet (R209, R252), bytes read out of byte strings, the CRCs and the one's-complement
sums the device computes (R180, R181, R183, R221, R519). -/

namespace Sys2Proof.Machine

/-! ### Numbers as bits and bytes -/

/-- The bits `hi` to `lo` of a number. -/
def bits (v hi lo : Nat) : Nat := v / 2 ^ lo % 2 ^ (hi - lo + 1)

/-- The bits `hi` to `lo` of a number replaced. -/
def setBits (v hi lo x : Nat) : Nat := v - bits v hi lo * 2 ^ lo + x % 2 ^ (hi - lo + 1) * 2 ^ lo

/-- A number's two's-complement form in `w` bits. -/
def toUnsigned (w : Nat) (x : Int) : Nat := (x % (2 ^ w : Int)).toNat

/-- A `w`-bit pattern as a two's-complement number. -/
def toSigned (w : Nat) (x : Nat) : Int := if x % 2 ^ w < 2 ^ (w - 1) then (x % 2 ^ w : Nat) else ((x % 2 ^ w : Nat) : Int) - 2 ^ w

/-- A number kept between two limits. -/
def clampInt (lo hi x : Int) : Int := if x < lo then lo else if hi < x then hi else x

/-- An arithmetic right shift of a signed number. -/
def sar (x : Int) (n : Nat) : Int := x.fdiv (2 ^ n)

/-- `a / b` rounded up. -/
def ceilDiv (a b : Nat) : Nat := (a + b - 1) / b

/-- 1 for true, 0 for false. -/
def b2n (b : Bool) : Nat := if b then 1 else 0

/-- The `n` little-endian bytes of a number. -/
def leBytes : Nat → Nat → List Byte
  | 0, _ => []
  | n + 1, v => BitVec.ofNat 8 v :: leBytes n (v / 256)

/-- The `n` big-endian bytes of a number. -/
def beBytes (n v : Nat) : List Byte := (leBytes n v).reverse

/-- The number little-endian bytes spell. -/
def leNat : List Byte → Nat
  | [] => 0
  | b :: bs => b.toNat + 256 * leNat bs

/-- The number big-endian bytes spell. -/
def beNat (bs : List Byte) : Nat := leNat bs.reverse

/-- `n` bytes of a byte string from an offset, zeros past its end. -/
def bytesAt (bs : List Byte) (off n : Nat) : List Byte := (List.range n).map fun i => bs.getD (off + i) 0

/-- The `n` bytes at an offset as a big-endian number, bytes past the end 0. -/
def beAt (bs : List Byte) (off n : Nat) : Nat := beNat (bytesAt bs off n)

/-- A byte string with the bytes at an offset replaced; bytes past its end are discarded. -/
def putBytes (bs : List Byte) (off : Nat) (new : List Byte) : List Byte :=
  (bs.take off ++ new ++ bs.drop (off + new.length)).take bs.length

/-- A byte string with bytes inserted before an offset. -/
def insBytes (bs : List Byte) (off : Nat) (new : List Byte) : List Byte := bs.take off ++ new ++ bs.drop off

/-- A byte string with `n` bytes from an offset removed. -/
def cutBytes (bs : List Byte) (off n : Nat) : List Byte := bs.take off ++ bs.drop (off + n)

/-- The bytes of a list of words, least significant byte first. -/
def wordBytes (ws : List Word) : List Byte := ws.flatMap fun w => leBytes 4 w.toNat

/-- The 32-bit words that bytes spell, least significant byte first; a last part word is padded with zeros. -/
def bytesWords (bs : List Byte) : List Word :=
  (List.range ((bs.length + 3) / 4)).map fun i => BitVec.ofNat 32 (leNat (bytesAt bs (4 * i) 4))

/-- A number whose bits are those of a list of words, the first word lowest. -/
def wordsNat : List Word → Nat
  | [] => 0
  | w :: ws => w.toNat + 2 ^ 32 * wordsNat ws

/-- The lowest `n` words of a number. -/
def natWords : Nat → Nat → List Word
  | 0, _ => []
  | n + 1, v => BitVec.ofNat 32 v :: natWords n (v / 2 ^ 32)

/-! ### CRCs -/

/-- `n` steps of a reflected CRC register. -/
def crcStepR (poly : Nat) : Nat → Nat → Nat
  | 0, c => c
  | n + 1, c => crcStepR poly n (if c % 2 = 1 then Nat.xor (c / 2) poly else c / 2)

/-- A reflected CRC register after some bytes. -/
def crcRunR (poly : Nat) (c : Nat) (bs : List Byte) : Nat := bs.foldl (fun c b => crcStepR poly 8 (Nat.xor c b.toNat)) c

/-- `n` steps of a `w`-bit CRC register that is not reflected. -/
def crcStepN (w poly : Nat) : Nat → Nat → Nat
  | 0, c => c
  | n + 1, c =>
    let d := c * 2 % 2 ^ w
    crcStepN w poly n (if c / 2 ^ (w - 1) % 2 = 1 then Nat.xor d poly else d)

/-- A CRC register that is not reflected after some bytes. -/
def crcRunN (w poly : Nat) (c : Nat) (bs : List Byte) : Nat :=
  bs.foldl (fun c b => crcStepN w poly 8 (Nat.xor c (b.toNat * 2 ^ (w - 8)))) c

/-- The CRC-32 of IEEE 802.3 (R180, R519). -/
def crc32 (bs : List Byte) : Nat := Nat.xor (crcRunR 0xEDB88320 0xFFFFFFFF bs) 0xFFFFFFFF

/-- The CRC-32C (R519). -/
def crc32c (bs : List Byte) : Nat := Nat.xor (crcRunR 0x82F63B78 0xFFFFFFFF bs) 0xFFFFFFFF

/-- The CRC-16/CCITT of R181. -/
def crc16 (bs : List Byte) : Nat := crcRunN 16 0x1021 0xFFFF bs

/-- The CRC-64/ECMA-182 (R519). -/
def crc64 (bs : List Byte) : Nat := crcRunN 64 0x42F0E1EBA9EA3693 0 bs

/-! ### One's-complement sums (R183) -/

/-- One's-complement addition of two 16-bit numbers. -/
def ocAdd (a b : Nat) : Nat := if 65535 < a + b then a + b - 65535 else a + b

/-- The one's-complement sum of the 16-bit big-endian words of bytes, an odd last byte padded with zero. -/
def ocSum : List Byte → Nat
  | [] => 0
  | [a] => a.toNat * 256
  | a :: b :: t => ocAdd (a.toNat * 256 + b.toNat) (ocSum t)

/-- A 16-bit number with its bytes swapped. -/
def swap16 (v : Nat) : Nat := v % 256 * 256 + v / 256

/-- The part of a packet's sum that bytes `a` to `b` contribute when words are counted from byte `base`. -/
def ocRange (bs : List Byte) (base a b : Nat) : Nat :=
  let v := ocSum (bytesAt bs a (b - a))
  if (a - base) % 2 = 0 then v else swap16 v

/-! ### Packets and their Wallets -/

/-- A field of the Wallet: a big-endian number of `n` bytes at an offset, and the field's bits in it. -/
structure WFld where
  off : Nat
  n : Nat
  hi : Nat
  lo : Nat
  deriving DecidableEq, Repr

/-- A packet inside the device. -/
structure Packet where
  /-- Its bytes without FCS. -/
  bytes : List Byte
  /-- The 128 bytes of its Wallet (R209). -/
  wallet : List Byte
  /-- Buffer cells charged to it, 0 while it is not in the buffer (R281). -/
  cells : Nat
  /-- The stored packet it refers to: multicast copies share one (R280). -/
  uid : Nat
  /-- Its first-pass TC, for PFC accounting (R284); 8 once its cells were freed on the way to DRAM. -/
  tc0 : Nat
  /-- Where the parse found the payload, moved by the action unit (R247). -/
  payload : Nat
  /-- Where the last 0x01 or 0x02 header ends, moved by the action unit (R244). -/
  l2End : Nat
  /-- A mirror or sample copy (R250). -/
  copy : Bool
  /-- Bytes inserted in this pass (R247). -/
  insN : Nat
  /-- Bytes removed in this pass (R247). -/
  remN : Nat
  /-- Counted in flight (R227). -/
  flight : Bool
  /-- Has entered its stripe window (R147). -/
  windowed : Bool
  /-- First-pass fields a DMA descriptor preset: bit 0 DEST, 1 SF, 2 FID, 3 VRF, 4 TC and COLOUR, 5 USER (R453). -/
  preset : Nat
  /-- Its descriptor asks for a transmit stamp (R332, R453). -/
  tsReq : Bool
  /-- Its receive stamp in units of 2⁻¹⁶ ns, and ERR (R331). -/
  rxStamp : Option (Nat × Bool)
  /-- The clock at which it reached the place where it waits. -/
  since : Nat
  deriving DecidableEq, Repr

/-- A field of a packet's Wallet. -/
def Packet.w (p : Packet) (f : WFld) : Nat := bits (beAt p.wallet f.off f.n) f.hi f.lo

/-- The packet with a field of its Wallet replaced. -/
def Packet.setW (p : Packet) (f : WFld) (v : Nat) : Packet :=
  { p with wallet := putBytes p.wallet f.off (beBytes f.n (setBits (beAt p.wallet f.off f.n) f.hi f.lo v)) }

/-- A Wallet field taken as a truth value. -/
def Packet.wb (p : Packet) (f : WFld) : Bool := p.w f != 0

/-- The packet with a one-bit Wallet field set to a truth value. -/
def Packet.setWB (p : Packet) (f : WFld) (v : Bool) : Packet := p.setW f (b2n v)

/-- Wallet bit k: bit (k mod 8) of byte (k div 8) (R211). -/
def Packet.walletBit (p : Packet) (k : Nat) : Bool := (p.wallet.getD (k / 8) 0).toNat.testBit (k % 8)

/-! ### The fields of the Wallet (R209, R252) -/

def W.SRC : WFld := ⟨0x00, 1, 6, 0⟩
def W.PASS : WFld := ⟨0x01, 1, 1, 0⟩
def W.EPOCH : WFld := ⟨0x01, 1, 2, 2⟩
def W.LEN : WFld := ⟨0x02, 2, 13, 0⟩
def W.CSUM : WFld := ⟨0x04, 2, 15, 0⟩
def W.PARSE_TRUNC : WFld := ⟨0x06, 1, 0, 0⟩
def W.LEN_ERR : WFld := ⟨0x06, 1, 1, 1⟩
def W.IP_CS : WFld := ⟨0x06, 1, 3, 2⟩
def W.L4_CS : WFld := ⟨0x06, 1, 5, 4⟩
def W.IP_FRAG : WFld := ⟨0x06, 1, 6, 6⟩
def W.NHDR : WFld := ⟨0x07, 1, 3, 0⟩
/-- The layer pointers in the order OFF_L2, OFF_L3, OFF_L4, OFF_IL2, OFF_IL3, OFF_IL4. -/
def W.OFF (l : Nat) : WFld := ⟨0x08 + l, 1, 7, 0⟩
def W.PON : WFld := ⟨0x10, 1, 0, 0⟩
def W.CHANNEL : WFld := ⟨0x10, 1, 1, 1⟩
def W.ENTRY_TYPE : WFld := ⟨0x10, 1, 3, 2⟩
def W.KEY_IDX : WFld := ⟨0x10, 1, 5, 4⟩
def W.PORT_ID : WFld := ⟨0x12, 2, 15, 0⟩
def W.OPTIONS : WFld := ⟨0x14, 3, 17, 0⟩
def W.SF_VALID : WFld := ⟨0x18, 2, 15, 15⟩
def W.SF : WFld := ⟨0x18, 2, 11, 0⟩
def W.FID : WFld := ⟨0x1A, 2, 11, 0⟩
def W.DEST : WFld := ⟨0x1C, 2, 15, 0⟩
def W.VRF : WFld := ⟨0x1E, 1, 7, 0⟩
def W.TC : WFld := ⟨0x1F, 1, 2, 0⟩
def W.COLOUR : WFld := ⟨0x1F, 1, 4, 3⟩
def W.HS_OFF (n : Nat) : WFld := ⟨0x20 + 2 * n, 1, 7, 0⟩
def W.HS_TYPE (n : Nat) : WFld := ⟨0x21 + 2 * n, 1, 7, 2⟩
def W.IP_INS : WFld := ⟨0x34, 1, 0, 0⟩
def W.L4_INS : WFld := ⟨0x34, 1, 1, 1⟩
def W.CS_OFF : WFld := ⟨0x34, 1, 2, 2⟩
def W.CSUM_BAD : WFld := ⟨0x34, 1, 3, 3⟩
def W.DROP : WFld := ⟨0x34, 1, 4, 4⟩
def W.RECIRC : WFld := ⟨0x34, 1, 5, 5⟩
def W.DROP_REASON : WFld := ⟨0x35, 1, 7, 0⟩
def W.Q_VALID : WFld := ⟨0x36, 2, 15, 15⟩
def W.QUEUE : WFld := ⟨0x36, 2, 11, 0⟩
def W.M_VALID (m : Nat) : WFld := ⟨0x38 + m, 1, 7, 7⟩
def W.M_SESSION (m : Nat) : WFld := ⟨0x38 + m, 1, 5, 0⟩
def W.T_REQ : WFld := ⟨0x3A, 1, 7, 7⟩
def W.CLASS : WFld := ⟨0x3A, 1, 6, 6⟩
def W.ORDERED : WFld := ⟨0x3A, 1, 5, 5⟩
def W.RESUME : WFld := ⟨0x3A, 1, 4, 4⟩
def W.PSET : WFld := ⟨0x3A, 1, 3, 0⟩
def W.LEVEL : WFld := ⟨0x3B, 1, 7, 4⟩
def W.DOMAIN : WFld := ⟨0x3C, 2, 11, 0⟩
def W.REASON : WFld := ⟨0x3E, 1, 7, 0⟩
def W.METER_N : WFld := ⟨0x3F, 1, 1, 0⟩
def W.COUNT_N : WFld := ⟨0x3F, 1, 4, 2⟩
def W.ACT (s : Nat) : WFld := ⟨0x40 + 2 * s, 2, 15, 0⟩
def W.MATCH_ID : WFld := ⟨0x58, 2, 15, 0⟩
def W.MATCH_END : WFld := ⟨0x5A, 2, 15, 0⟩
def W.GROUPS : WFld := ⟨0x5C, 2, 15, 0⟩
def W.MATCH_CNT : WFld := ⟨0x5E, 1, 7, 0⟩
def W.I_DONE : WFld := ⟨0x5F, 1, 0, 0⟩
def W.I_FAIL : WFld := ⟨0x5F, 1, 1, 1⟩
def W.I_TRUNC : WFld := ⟨0x5F, 1, 2, 2⟩
def W.I_STOP : WFld := ⟨0x5F, 1, 3, 3⟩
def W.STW_DONE : WFld := ⟨0x5F, 1, 4, 4⟩
def W.USER (i : Nat) : WFld := ⟨0x60 + 2 * i, 2, 15, 0⟩

/-- A packet of a source code as it first enters, its Wallet 0 but for SRC and LEN (R203, R209). -/
def Packet.new (src : Nat) (bytes : List Byte) (now : Nat) : Packet :=
  let p : Packet :=
    { bytes, wallet := List.replicate 128 0, cells := 0, uid := 0, tc0 := 0, payload := 0, l2End := 0, copy := false,
      insN := 0, remN := 0, flight := false, windowed := false, preset := 0, tsReq := false, rxStamp := none, since := now }
  (p.setW W.SRC src).setW W.LEN bytes.length

/-- The source code of a packet (R203). -/
def Packet.src (p : Packet) : Nat := p.w W.SRC

/-- The pipeline a source code feeds (R26, R30): tenant ports 0–23, PCA and DC0–DC15 feed K0. -/
def pipeOf (src : Nat) : Nat := if src < 24 ∨ src = 48 ∨ (64 ≤ src ∧ src < 80) then 0 else 1

/-- The header stack of a packet: the recorded headers' offsets and type codes. -/
def Packet.hstack (p : Packet) : List (Nat × Nat) :=
  (List.range (min 10 (p.w W.NHDR))).map fun n => (p.w (W.HS_OFF n), p.w (W.HS_TYPE n))

/-- The length of a packet in buffer cells of 256 bytes, at least one (R281). -/
def Packet.cellLen (p : Packet) : Nat := max 1 (ceilDiv p.bytes.length 256)

end Sys2Proof.Machine
end

