-- ==== Sys2Proof/Machine/RegMap.lean ====
section
/-! DEFINITION. The register map: every register field the spec's register tables name (R3 to R556), with its bits, its
access code (R7) and its reset value, and every 64-bit counter with its offset (R105, R511). A field constant
`F.REGISTER.FIELD` carries the register's offset in its window (for a replicated register, of its first instance),
its high bit and its low bit. -/

namespace Sys2Proof.Machine

/-- The access codes of R7. -/
inductive Access where
  | rw | ro | wo | w1c | w1s | rc | rwl | sh
  deriving DecidableEq, Repr

/-- One field: its register's offset in the window, its high bit, its low bit. -/
structure Fld where
  off : Nat
  hi : Nat
  lo : Nat
  deriving DecidableEq, Repr

/-- A field with its access code and its reset value. -/
structure FieldSpec where
  fld : Fld
  acc : Access
  reset : Nat
  deriving DecidableEq, Repr

/-- A register, or an array of them: the first instance's offset, the (count, stride) pairs of its indices with the
widest stride first, and its fields. Bits no field covers are reserved (R9). -/
structure RegSpec where
  off : Nat
  dims : List (Nat × Nat)
  fields : List FieldSpec
  deriving DecidableEq, Repr

/-- The same field in an instance `d` bytes further on. -/
def Fld.at (f : Fld) (d : Nat) : Fld := ⟨f.off + d, f.hi, f.lo⟩

/-- The field's width in bits. -/
def Fld.width (f : Fld) : Nat := f.hi - f.lo + 1

/-! ### Fields of the always-on island -/

def F.AON_PART_ID.PART : Fld := ⟨0x0, 31, 16⟩
def F.AON_PART_ID.STEP_MAJOR : Fld := ⟨0x0, 15, 12⟩
def F.AON_PART_ID.STEP_MINOR : Fld := ⟨0x0, 11, 8⟩
def F.AON_ISL_LIVE0.LIVE : Fld := ⟨0x10, 31, 0⟩
def F.AON_ISL_LIVE1.LIVE : Fld := ⟨0x14, 31, 0⟩
def F.AON_BOOT_CTRL.KEY : Fld := ⟨0x28, 31, 16⟩
def F.AON_BOOT_CTRL.PREFER_B : Fld := ⟨0x28, 2, 2⟩
def F.AON_BOOT_CTRL.FLASH_RELEASE : Fld := ⟨0x28, 1, 1⟩
def F.AON_BOOT_CTRL.REBOOT : Fld := ⟨0x28, 0, 0⟩
def F.AON_BOOT_STAT.STAGE : Fld := ⟨0x20, 31, 28⟩
def F.AON_BOOT_STAT.COPY : Fld := ⟨0x20, 27, 27⟩
def F.AON_BOOT_STAT.FW_COPY : Fld := ⟨0x20, 26, 26⟩
def F.AON_BOOT_STAT.XTAL_FB : Fld := ⟨0x20, 25, 25⟩
def F.AON_BOOT_STAT.STW_DOWN : Fld := ⟨0x20, 24, 24⟩
def F.AON_BOOT_STAT.BOOT_COUNT : Fld := ⟨0x20, 15, 0⟩
def F.AON_BOOT_FAIL.FAIL_A : Fld := ⟨0x24, 31, 28⟩
def F.AON_BOOT_FAIL.FAIL_B : Fld := ⟨0x24, 27, 24⟩
def F.AON_BOOT_FAIL.FAIL_FW_A : Fld := ⟨0x24, 23, 20⟩
def F.AON_BOOT_FAIL.FAIL_FW_B : Fld := ⟨0x24, 19, 16⟩
def F.AON_BOOT_FAIL.ASSAY_ISL : Fld := ⟨0x24, 15, 8⟩
def F.AON_BOOT_FAIL.ASSAY_ROM : Fld := ⟨0x24, 7, 7⟩
def F.AON_BOOT_FAIL.ASSAY_KAT : Fld := ⟨0x24, 6, 6⟩
def F.AON_BOOT_FAIL.ASSAY_SRAM : Fld := ⟨0x24, 5, 5⟩
def F.AON_BOOT_FAIL.ASSAY_MINT : Fld := ⟨0x24, 4, 4⟩
def F.AON_BOOT_TIME.RUN_MS : Fld := ⟨0x2c, 31, 16⟩
def F.AON_BOOT_TIME.VERIFY_MS : Fld := ⟨0x2c, 15, 0⟩
def F.AON_SEAL.SEALED : Fld := ⟨0x30, 31, 31⟩
def F.AON_SEAL.DISCARDS : Fld := ⟨0x30, 15, 0⟩
def F.AON_PB_VERSION.VERSION : Fld := ⟨0x34, 31, 0⟩
def F.AON_PB_FLOOR.FLOOR : Fld := ⟨0x38, 31, 0⟩
def F.AON_HM_DIE_LO.DIE_LO : Fld := ⟨0x400, 31, 0⟩
def F.AON_HM_DIE_HI.DIE_HI : Fld := ⟨0x404, 31, 0⟩
def F.AON_HM_LOT.LOT : Fld := ⟨0x408, 31, 0⟩
def F.AON_HM_POS.WAFER : Fld := ⟨0x40c, 31, 24⟩
def F.AON_HM_POS.DIE_X : Fld := ⟨0x40c, 23, 12⟩
def F.AON_HM_POS.DIE_Y : Fld := ⟨0x40c, 11, 0⟩
def F.AON_HM_TEST.YEAR_WEEK : Fld := ⟨0x410, 31, 16⟩
def F.AON_HM_TEST.SITE : Fld := ⟨0x410, 15, 8⟩
def F.AON_HM_TEST.FORMAT : Fld := ⟨0x410, 7, 0⟩
def F.AON_HM_LAT_RX.LAT : Fld := ⟨0x420, 31, 0⟩
def F.AON_HM_LAT_TX.LAT : Fld := ⟨0x424, 31, 0⟩
def F.AON_HM_STROBE.RES : Fld := ⟨0x480, 31, 0⟩
def F.AON_HM_TI_PATH.PATH : Fld := ⟨0x4e0, 15, 0⟩
def F.AON_HM_PON_CAP.LAT : Fld := ⟨0x4f0, 31, 0⟩
def F.AON_HM_TRIM.TRIM : Fld := ⟨0x500, 31, 0⟩
def F.AON_HM_CRC.CRC : Fld := ⟨0x5fc, 31, 0⟩
def F.AON_LIFECYCLE.STATE : Fld := ⟨0x40, 31, 28⟩
def F.AON_LIFECYCLE.RMA_AUTH : Fld := ⟨0x40, 27, 27⟩
def F.AON_LIFECYCLE.RMA_RUN : Fld := ⟨0x40, 26, 26⟩
def F.AON_LIFECYCLE.DEBUG : Fld := ⟨0x40, 23, 20⟩
def F.AON_LIFECYCLE.FLOOR_USED : Fld := ⟨0x40, 12, 8⟩
def F.AON_OWNER.DBG_REVOKED : Fld := ⟨0x44, 11, 10⟩
def F.AON_OWNER.DBG_PROV : Fld := ⟨0x44, 9, 8⟩
def F.AON_OWNER.REVOKED : Fld := ⟨0x44, 7, 4⟩
def F.AON_OWNER.PROV : Fld := ⟨0x44, 3, 0⟩
def F.AON_OWN_CMD.KEY : Fld := ⟨0x48, 31, 16⟩
def F.AON_OWN_CMD.BUSY : Fld := ⟨0x48, 15, 15⟩
def F.AON_OWN_CMD.CAUSE : Fld := ⟨0x48, 14, 12⟩
def F.AON_OWN_CMD.TARGET : Fld := ⟨0x48, 2, 0⟩
def F.AON_OWN_HASH.HASH : Fld := ⟨0x50, 31, 0⟩
def F.AON_PWR_CTRL.KEY : Fld := ⟨0x100, 31, 16⟩
def F.AON_PWR_CTRL.GO : Fld := ⟨0x100, 7, 7⟩
def F.AON_PWR_CTRL.TARGET : Fld := ⟨0x100, 2, 0⟩
def F.AON_PWR_STAT.STATE : Fld := ⟨0x104, 31, 29⟩
def F.AON_PWR_STAT.PHASE : Fld := ⟨0x104, 28, 26⟩
def F.AON_PWR_STAT.REFUSED : Fld := ⟨0x104, 25, 25⟩
def F.AON_PWR_STAT.CAUSE : Fld := ⟨0x104, 24, 22⟩
def F.AON_PWR_STAT.ISL : Fld := ⟨0x104, 15, 8⟩
def F.AON_PWR_CFG.DELAY_MAX : Fld := ⟨0x108, 31, 16⟩
def F.AON_WAKE_EN.EN : Fld := ⟨0x10c, 21, 0⟩
def F.AON_WAKE_TYPE.EDGE : Fld := ⟨0x110, 15, 0⟩
def F.AON_WAKE_STAT.CAUSE : Fld := ⟨0x114, 21, 0⟩
def F.AON_WAKE_TIMER.MS : Fld := ⟨0x118, 31, 0⟩
def F.AON_CLK_CTRL.SWITCH : Fld := ⟨0x11c, 31, 31⟩
def F.AON_CLK_CTRL.ON_FAST : Fld := ⟨0x11c, 30, 30⟩
def F.AON_CLK_CTRL.PLL_READY : Fld := ⟨0x11c, 29, 29⟩
def F.AON_ISL_CMD.BUSY : Fld := ⟨0x120, 31, 31⟩
def F.AON_ISL_CMD.REFUSED : Fld := ⟨0x120, 30, 30⟩
def F.AON_ISL_CMD.CAUSE : Fld := ⟨0x120, 29, 27⟩
def F.AON_ISL_CMD.OP : Fld := ⟨0x120, 17, 16⟩
def F.AON_ISL_CMD.ISL : Fld := ⟨0x120, 5, 0⟩
def F.AON_ISL_OUT.OUT : Fld := ⟨0x124, 31, 0⟩
def F.AON_ISL_DARK.DARK : Fld := ⟨0x12c, 31, 0⟩
def F.AON_PWR_TRIM.TRIM : Fld := ⟨0x134, 31, 0⟩
def F.AON_FAULT_CFG.WIN : Fld := ⟨0x170, 15, 0⟩
def F.AON_FAULT_LAST.ISL : Fld := ⟨0x174, 31, 24⟩
def F.AON_FAULT_LAST.CAUSE : Fld := ⟨0x174, 23, 20⟩
def F.AON_FAULT_LAST.DISCARDED : Fld := ⟨0x174, 15, 0⟩
def F.AON_DVFS_V.VOLT : Fld := ⟨0x140, 9, 0⟩
def F.AON_DVFS_F.FREQ : Fld := ⟨0x144, 1, 0⟩
def F.AON_DVFS_STAT.DVFS_ORDER : Fld := ⟨0x148, 31, 31⟩
def F.AON_DVFS_STAT.V_BUSY : Fld := ⟨0x148, 30, 30⟩
def F.AON_DVFS_STAT.F_BUSY : Fld := ⟨0x148, 29, 29⟩
def F.AON_DVFS_STAT.VOLT : Fld := ⟨0x148, 25, 16⟩
def F.AON_DVFS_STAT.FREQ : Fld := ⟨0x148, 1, 0⟩
def F.AON_DVFS_CFG.SETTLE : Fld := ⟨0x14c, 15, 0⟩
def F.AON_SAG_STAT.SAG : Fld := ⟨0x160, 31, 31⟩
def F.AON_SAG_STAT.SRC_PIN : Fld := ⟨0x160, 30, 30⟩
def F.AON_SAG_STAT.SRC_3V3 : Fld := ⟨0x160, 29, 29⟩
def F.AON_SAG_STAT.GASP_WRITTEN : Fld := ⟨0x160, 28, 28⟩
def F.AON_SAG_STAT.MV_3V3 : Fld := ⟨0x160, 15, 0⟩
def F.AON_TEMP.VALID : Fld := ⟨0x164, 31, 31⟩
def F.AON_TEMP.PEAK : Fld := ⟨0x164, 27, 16⟩
def F.AON_TEMP.TEMP : Fld := ⟨0x164, 11, 0⟩
def F.AON_TEMP_CFG.ALERT : Fld := ⟨0x168, 11, 0⟩

/-! ### Fields of the every island -/

def F.ISL_HDR.ID : Fld := ⟨0xffc, 31, 24⟩
def F.ISL_HDR.INST : Fld := ⟨0xffc, 23, 16⟩
def F.ISL_HDR.REV : Fld := ⟨0xffc, 15, 0⟩

/-! ### Fields of the pipelines -/

def F.KP_ARB_CFG.HOST_STARVE : Fld := ⟨0x40, 27, 16⟩
def F.KP_ARB_CFG.RECIRC_AGE : Fld := ⟨0x40, 15, 8⟩
def F.KP_ARB_CFG.RECIRC_PCT : Fld := ⟨0x40, 3, 0⟩
def F.KP_ARB_STAT.HOST_STARVED : Fld := ⟨0x44, 31, 31⟩
def F.KP_ARB_STAT.CAP_HIT : Fld := ⟨0x44, 30, 30⟩
def F.KP_ARB_STAT.RATE_SHORT : Fld := ⟨0x44, 29, 29⟩
def F.KP_ARB_STAT.CREDIT : Fld := ⟨0x44, 26, 16⟩
def F.KP_PARSE_CFG.LEN_ERR_ACT : Fld := ⟨0x100, 1, 0⟩
def F.KP_PG_CMD.BUSY : Fld := ⟨0x110, 31, 31⟩
def F.KP_PG_CMD.OP : Fld := ⟨0x110, 17, 16⟩
def F.KP_PG_CMD.BANK : Fld := ⟨0x110, 6, 6⟩
def F.KP_PG_CMD.NODE : Fld := ⟨0x110, 5, 0⟩
def F.KP_PG_DATA.WORD : Fld := ⟨0x120, 31, 0⟩
def F.KP_STAGE_CFG.EN : Fld := ⟨0x200, 31, 31⟩
def F.KP_STAGE_CFG.PASS_MASK : Fld := ⟨0x200, 30, 28⟩
def F.KP_STAGE_CFG.TABLE : Fld := ⟨0x200, 27, 24⟩
def F.KP_STAGE_CFG.SEL : Fld := ⟨0x200, 23, 20⟩
def F.KP_STAGE_CFG.USER_SLOT : Fld := ⟨0x200, 19, 16⟩
def F.KP_STAGE_CFG.COND_EN : Fld := ⟨0x200, 15, 15⟩
def F.KP_STAGE_CFG.COND_POL : Fld := ⟨0x200, 14, 14⟩
def F.KP_STAGE_CFG.COND_BIT : Fld := ⟨0x200, 9, 0⟩
def F.KP_STAGE_MISS.MISS_ACT : Fld := ⟨0x204, 15, 0⟩
def F.KP_STAGE_STAT.WR_REFUSED : Fld := ⟨0x300, 31, 31⟩
def F.KP_STAGE_STAT.BAD : Fld := ⟨0x300, 11, 0⟩
def F.KP_KEYPROF.FRAG : Fld := ⟨0x400, 31, 16⟩
def F.KP_ACT_CFG.TPID : Fld := ⟨0x180, 31, 16⟩
def F.KP_ACT_CFG.MPLS_TTL : Fld := ⟨0x180, 15, 8⟩
def F.KP_ACT_LFIX.LEN0_OFF : Fld := ⟨0x184, 31, 26⟩
def F.KP_ACT_LFIX.FROM0 : Fld := ⟨0x184, 25, 20⟩
def F.KP_ACT_LFIX.LEN1_OFF : Fld := ⟨0x184, 19, 14⟩
def F.KP_ACT_LFIX.FROM1 : Fld := ⟨0x184, 13, 8⟩
def F.KP_ACT_LFIX.CS_EN : Fld := ⟨0x184, 2, 2⟩
def F.KP_ACT_LFIX.LEN1_EN : Fld := ⟨0x184, 1, 1⟩
def F.KP_ACT_LFIX.LEN0_EN : Fld := ⟨0x184, 0, 0⟩

/-! ### Fields of the PON islands -/

def F.PN_RX_CTRL.LOS_POL : Fld := ⟨0x0, 2, 2⟩
def F.PN_RX_CTRL.MODE : Fld := ⟨0x0, 1, 1⟩
def F.PN_RX_CTRL.ENABLE : Fld := ⟨0x0, 0, 0⟩
def F.PN_RX_EQ.ADAPT : Fld := ⟨0x4, 15, 15⟩
def F.PN_RX_EQ.CTLE : Fld := ⟨0x4, 11, 8⟩
def F.PN_RX_EQ.DFE_TAPS : Fld := ⟨0x4, 3, 0⟩
def F.PN_RX_STAT.LOS : Fld := ⟨0x8, 31, 31⟩
def F.PN_RX_STAT.CDR_LOCK : Fld := ⟨0x8, 30, 30⟩
def F.PN_RX_STAT.STATE : Fld := ⟨0x8, 29, 28⟩
def F.PN_RX_STAT.CANDS : Fld := ⟨0x8, 27, 25⟩
def F.PN_RX_STAT.SD : Fld := ⟨0x8, 24, 24⟩
def F.PN_RX_STAT.SF : Fld := ⟨0x8, 23, 23⟩
def F.PN_RX_STAT.EYE_H : Fld := ⟨0x8, 15, 8⟩
def F.PN_RX_STAT.EYE_W : Fld := ⟨0x8, 7, 0⟩
def F.PN_ALIGN_CFG.M : Fld := ⟨0x10, 11, 8⟩
def F.PN_ALIGN_CFG.N : Fld := ⟨0x10, 6, 4⟩
def F.PN_ALIGN_CFG.TOL : Fld := ⟨0x10, 2, 0⟩
def F.PN_FEC_CFG.BER_WIN : Fld := ⟨0x20, 31, 16⟩
def F.PN_FEC_CFG.MAX_ITER : Fld := ⟨0x20, 4, 0⟩
def F.PN_FEC_SD_THR.THR : Fld := ⟨0x24, 31, 0⟩
def F.PN_FEC_SF_THR.THR : Fld := ⟨0x28, 31, 0⟩
def F.PN_FEC_WIN.BITS : Fld := ⟨0x2c, 31, 0⟩
def F.PN_XGEM_CFG.MAX_SDU : Fld := ⟨0x30, 29, 16⟩
def F.PN_XGEM_CFG.REASM_TO : Fld := ⟨0x30, 15, 12⟩
def F.PN_KEY_UC.UC2 : Fld := ⟨0x34, 25, 16⟩
def F.PN_KEY_UC.UC1 : Fld := ⟨0x34, 9, 0⟩
def F.PN_OMCC.VALID : Fld := ⟨0x38, 31, 31⟩
def F.PN_OMCC.PORT_ID : Fld := ⟨0x38, 15, 0⟩
def F.PN_PID_CMD.BUSY : Fld := ⟨0x40, 31, 31⟩
def F.PN_PID_CMD.DUP : Fld := ⟨0x40, 30, 30⟩
def F.PN_PID_CMD.OP : Fld := ⟨0x40, 17, 16⟩
def F.PN_PID_CMD.INDEX : Fld := ⟨0x40, 11, 0⟩
def F.PN_OSP_CFG.PLOAM_COPY : Fld := ⟨0x50, 3, 3⟩
def F.PN_OSP_CFG.OMCI_OSP : Fld := ⟨0x50, 2, 2⟩
def F.PN_OSP_CFG.ENABLE : Fld := ⟨0x50, 0, 0⟩
def F.PN_TOD_CTRL.ARM : Fld := ⟨0x60, 31, 31⟩
def F.PN_TOD_CTRL.MISS : Fld := ⟨0x60, 30, 30⟩
def F.PN_TOD_CTRL.SFC_HI : Fld := ⟨0x60, 18, 0⟩
def F.PN_TOD_SFC_LO.SFC_LO : Fld := ⟨0x64, 31, 0⟩
def F.PN_TOD_CAP0.SEC_LO : Fld := ⟨0x68, 31, 0⟩
def F.PN_TOD_CAP1.SEC_HI : Fld := ⟨0x6c, 31, 0⟩
def F.PN_TOD_CAP2.NS : Fld := ⟨0x70, 29, 0⟩
def F.PN_TOD_CAP3.VALID : Fld := ⟨0x74, 31, 31⟩
def F.PN_TOD_CAP3.SEEN : Fld := ⟨0x74, 30, 30⟩
def F.PN_TOD_CAP3.FRAC : Fld := ⟨0x74, 15, 0⟩
def F.PN_SFC_CUR_LO.SFC : Fld := ⟨0x78, 31, 0⟩
def F.PN_SFC_CUR_HI.SFC : Fld := ⟨0x7c, 18, 0⟩
def F.PN_PID_DATA0.VALID : Fld := ⟨0x44, 31, 31⟩
def F.PN_PID_DATA0.TYPE : Fld := ⟨0x44, 29, 28⟩
def F.PN_PID_DATA0.SF : Fld := ⟨0x44, 27, 16⟩
def F.PN_PID_DATA0.PORT_ID : Fld := ⟨0x44, 15, 0⟩
def F.PN_PID_DATA1.KSEL : Fld := ⟨0x48, 31, 31⟩
def F.PN_PID_DATA1.KSLOT2 : Fld := ⟨0x48, 25, 16⟩
def F.PN_PID_DATA1.KSLOT1 : Fld := ⟨0x48, 9, 0⟩
def F.PN_US_CTRL.RDI_FORCE : Fld := ⟨0x100, 7, 7⟩
def F.PN_US_CTRL.RDI_AUTO : Fld := ⟨0x100, 6, 6⟩
def F.PN_US_CTRL.ROGUE_CLR : Fld := ⟨0x100, 5, 5⟩
def F.PN_US_CTRL.OSP_PLOAM : Fld := ⟨0x100, 4, 4⟩
def F.PN_US_CTRL.RATE_MAX : Fld := ⟨0x100, 1, 0⟩
def F.PN_US_STAT.ACT : Fld := ⟨0x104, 31, 28⟩
def F.PN_US_STAT.PS : Fld := ⟨0x104, 27, 26⟩
def F.PN_US_STAT.TX_ON : Fld := ⟨0x104, 25, 25⟩
def F.PN_US_STAT.ROGUE : Fld := ⟨0x104, 24, 24⟩
def F.PN_US_STAT.GASP : Fld := ⟨0x104, 23, 23⟩
def F.PN_US_STAT.RDI : Fld := ⟨0x104, 22, 22⟩
def F.PN_US_STAT.INH : Fld := ⟨0x104, 15, 12⟩
def F.PN_US_STAT.ONU_ID : Fld := ⟨0x104, 9, 0⟩
def F.PN_ACT_CFG.TO1 : Fld := ⟨0x108, 31, 16⟩
def F.PN_ACT_CFG.TO2 : Fld := ⟨0x108, 15, 4⟩
def F.PN_ACT_CFG.RAND_MAX : Fld := ⟨0x108, 3, 0⟩
def F.PN_ACT_CTRL.TX_OFF : Fld := ⟨0x10c, 1, 1⟩
def F.PN_ACT_CTRL.RESTART : Fld := ⟨0x10c, 0, 0⟩
def F.PN_SN_HI.VENDOR : Fld := ⟨0x110, 31, 0⟩
def F.PN_SN_LO.SPECIFIC : Fld := ⟨0x114, 31, 0⟩
def F.PN_REG_ID.REG_ID : Fld := ⟨0x120, 31, 0⟩
def F.PN_EQD.VALID : Fld := ⟨0x150, 31, 31⟩
def F.PN_EQD.EQD : Fld := ⟨0x150, 24, 0⟩
def F.PN_EQD_CFG.UNIT_XGS : Fld := ⟨0x154, 7, 4⟩
def F.PN_EQD_CFG.UNIT_50G : Fld := ⟨0x154, 3, 0⟩
def F.PN_TI_CAL.PATH : Fld := ⟨0x158, 15, 0⟩
def F.PN_BEN_CFG.POL : Fld := ⟨0x160, 31, 31⟩
def F.PN_BEN_CFG.LEAD : Fld := ⟨0x160, 25, 16⟩
def F.PN_BEN_CFG.MIN_OFF : Fld := ⟨0x160, 15, 10⟩
def F.PN_BEN_CFG.LAG : Fld := ⟨0x160, 9, 0⟩
def F.PN_ROGUE_CFG.ENABLE : Fld := ⟨0x168, 31, 31⟩
def F.PN_ROGUE_CFG.MISS : Fld := ⟨0x168, 27, 16⟩
def F.PN_ROGUE_CFG.WIN : Fld := ⟨0x168, 11, 0⟩
def F.PN_PS_CFG.ENABLE : Fld := ⟨0x170, 31, 31⟩
def F.PN_PS_CFG.THOLD : Fld := ⟨0x170, 29, 20⟩
def F.PN_PS_CFG.TAWARE : Fld := ⟨0x170, 19, 10⟩
def F.PN_PS_CFG.ILOWPOWER : Fld := ⟨0x170, 9, 0⟩
def F.PN_PS_CTRL.LWI_KIB : Fld := ⟨0x174, 31, 16⟩
def F.PN_PS_CTRL.AWAKE : Fld := ⟨0x174, 0, 0⟩
def F.PN_KEY_CFG.KEK_SLOT : Fld := ⟨0x178, 25, 16⟩
def F.PN_KEY_CFG.SLOT_BASE : Fld := ⟨0x178, 9, 0⟩
def F.PN_ALLOC_CMD.BUSY : Fld := ⟨0x180, 31, 31⟩
def F.PN_ALLOC_CMD.OP : Fld := ⟨0x180, 17, 16⟩
def F.PN_ALLOC_CMD.INDEX : Fld := ⟨0x180, 6, 0⟩
def F.PN_ALLOC_DATA.VALID : Fld := ⟨0x184, 31, 31⟩
def F.PN_ALLOC_DATA.ORIGIN : Fld := ⟨0x184, 15, 14⟩
def F.PN_ALLOC_DATA.ALLOC_ID : Fld := ⟨0x184, 13, 0⟩
def F.PN_PROFILE.VALID : Fld := ⟨0x190, 31, 31⟩
def F.PN_PROFILE.RATE : Fld := ⟨0x190, 30, 29⟩
def F.PN_PROFILE.FEC : Fld := ⟨0x190, 28, 28⟩
def F.PN_PROFILE.PREAMBLE : Fld := ⟨0x190, 15, 4⟩
def F.PN_PROFILE.DELIM : Fld := ⟨0x190, 3, 0⟩
def F.PN_SVC_CTRL.STATE : Fld := ⟨0x1a0, 31, 30⟩
def F.PN_SVC_CTRL.REFUSED : Fld := ⟨0x1a0, 29, 29⟩
def F.PN_SVC_CTRL.DRAIN_TO : Fld := ⟨0x1a0, 15, 8⟩
def F.PN_SVC_CTRL.STRIPE_EX : Fld := ⟨0x1a0, 2, 2⟩
def F.PN_SVC_CTRL.FORCE : Fld := ⟨0x1a0, 1, 1⟩
def F.PN_SVC_CTRL.WANT : Fld := ⟨0x1a0, 0, 0⟩
def F.PN_PRBS_CTRL.GEN_EN : Fld := ⟨0x600, 31, 31⟩
def F.PN_PRBS_CTRL.CHK_EN : Fld := ⟨0x600, 30, 30⟩
def F.PN_PRBS_CTRL.INV : Fld := ⟨0x600, 29, 29⟩
def F.PN_PRBS_CTRL.INJ_ONE : Fld := ⟨0x600, 28, 28⟩
def F.PN_PRBS_CTRL.CLR : Fld := ⟨0x600, 27, 27⟩
def F.PN_PRBS_CTRL.POLY : Fld := ⟨0x600, 26, 24⟩
def F.PN_PRBS_CTRL.INJ_RATE : Fld := ⟨0x600, 23, 20⟩
def F.PN_PRBS_CTRL.BEN_ON : Fld := ⟨0x600, 19, 19⟩
def F.PN_PRBS_STAT.LOCK : Fld := ⟨0x604, 31, 31⟩
def F.PN_PRBS_ERR.ERRORS : Fld := ⟨0x608, 31, 0⟩

/-! ### Fields of the Teller -/

def F.TLR_STRIPE_CFG.WIN : Fld := ⟨0x800, 25, 16⟩
def F.TLR_STRIPE_CFG.TIMEOUT : Fld := ⟨0x800, 11, 0⟩
def F.TLR_STRIPE_POOL.POOL : Fld := ⟨0x804, 13, 0⟩
def F.TLR_STRIPE_STAT.NO_CTX : Fld := ⟨0x810, 31, 31⟩
def F.TLR_STRIPE_STAT.POOL_FULL : Fld := ⟨0x810, 30, 30⟩
def F.TLR_STRIPE_STAT.DUP : Fld := ⟨0x810, 29, 29⟩
def F.TLR_STRIPE_STAT.IN_USE : Fld := ⟨0x810, 13, 0⟩
def F.TLR_STRIPE_CMD.BUSY : Fld := ⟨0x808, 31, 31⟩
def F.TLR_STRIPE_CMD.OP : Fld := ⟨0x808, 17, 16⟩
def F.TLR_STRIPE_CMD.INDEX : Fld := ⟨0x808, 7, 0⟩
def F.TLR_STRIPE_DATA.VALID : Fld := ⟨0x80c, 31, 31⟩
def F.TLR_STRIPE_DATA.INIT : Fld := ⟨0x80c, 30, 30⟩
def F.TLR_STRIPE_DATA.SF : Fld := ⟨0x80c, 27, 16⟩
def F.TLR_STRIPE_DATA.NEXT : Fld := ⟨0x80c, 15, 0⟩
def F.TLR_CFG.WAIT_TO : Fld := ⟨0x0, 31, 16⟩
def F.TLR_CFG.SW_TO : Fld := ⟨0x0, 15, 8⟩
def F.TLR_CFG.SW_CONS : Fld := ⟨0x0, 0, 0⟩
def F.TLR_CANCEL.GO : Fld := ⟨0x4, 31, 31⟩
def F.TLR_CANCEL.BUSY : Fld := ⟨0x4, 30, 30⟩
def F.TLR_CANCEL.CAUSE : Fld := ⟨0x4, 29, 28⟩
def F.TLR_CANCEL.MODE : Fld := ⟨0x4, 27, 27⟩
def F.TLR_CANCEL.TARGET : Fld := ⟨0x4, 13, 0⟩
def F.TLR_TAKE.TAKE : Fld := ⟨0x10, 31, 31⟩
def F.TLR_TAKE.ARMED : Fld := ⟨0x10, 30, 30⟩
def F.TLR_TAKE_STAT.VALID : Fld := ⟨0x14, 31, 31⟩
def F.TLR_TAKE_STAT.SEEN : Fld := ⟨0x14, 30, 30⟩
def F.TLR_TAKE_RES.WORD : Fld := ⟨0x18, 31, 0⟩
def F.TLR_DONE.GO : Fld := ⟨0x28, 31, 31⟩
def F.TLR_DONE.VERDICT : Fld := ⟨0x28, 29, 28⟩
def F.TLR_DONE.ID : Fld := ⟨0x28, 13, 0⟩
def F.TLR_DONE_DEST.DEST : Fld := ⟨0x2c, 15, 0⟩
def F.TLR_STAT.CLR_IN_USE : Fld := ⟨0x30, 29, 16⟩
def F.TLR_STAT.ALLOCATED : Fld := ⟨0x30, 14, 0⟩
def F.TLR_LEVEL.THR : Fld := ⟨0x100, 31, 16⟩
def F.TLR_LEVEL.DEPTH : Fld := ⟨0x100, 14, 0⟩

/-! ### Fields of the tenant quads -/

def F.TQ_LANE_CFG.RCLK_EN : Fld := ⟨0x0, 27, 27⟩
def F.TQ_LANE_CFG.LOOP : Fld := ⟨0x0, 26, 24⟩
def F.TQ_LANE_CFG.TX_INV : Fld := ⟨0x0, 21, 21⟩
def F.TQ_LANE_CFG.RX_INV : Fld := ⟨0x0, 20, 20⟩
def F.TQ_LANE_CFG.FEC : Fld := ⟨0x0, 17, 16⟩
def F.TQ_LANE_CFG.PLL_SEL : Fld := ⟨0x0, 12, 12⟩
def F.TQ_LANE_CFG.MODE : Fld := ⟨0x0, 3, 0⟩
def F.TQ_LANE_STAT.CDR_LOCK : Fld := ⟨0x4, 31, 31⟩
def F.TQ_LANE_STAT.SYNC : Fld := ⟨0x4, 30, 30⟩
def F.TQ_LANE_STAT.HI_BER : Fld := ⟨0x4, 29, 29⟩
def F.TQ_LANE_STAT.FEC_LOCK : Fld := ⟨0x4, 28, 28⟩
def F.TQ_LANE_STAT.AN_DONE : Fld := ⟨0x4, 27, 27⟩
def F.TQ_LANE_STAT.LINK : Fld := ⟨0x4, 26, 26⟩
def F.TQ_LANE_STAT.CAL_FAIL : Fld := ⟨0x4, 25, 25⟩
def F.TQ_LANE_STAT.CFG_ERR : Fld := ⟨0x4, 24, 24⟩
def F.TQ_LANE_STAT.SPEED : Fld := ⟨0x4, 23, 22⟩
def F.TQ_LANE_STAT.HALF : Fld := ⟨0x4, 21, 21⟩
def F.TQ_MAC_CTRL.FC_MODE : Fld := ⟨0x10, 17, 16⟩
def F.TQ_MAC_CTRL.AN_EN : Fld := ⟨0x10, 6, 6⟩
def F.TQ_MAC_CTRL.SPEED : Fld := ⟨0x10, 5, 4⟩
def F.TQ_MAC_CTRL.HALF : Fld := ⟨0x10, 3, 3⟩
def F.TQ_MAC_CTRL.LINKDOWN_HOLD : Fld := ⟨0x10, 2, 2⟩
def F.TQ_MAC_CFG.MAX_FRAME : Fld := ⟨0x14, 29, 16⟩
def F.TQ_MAC_SA_LO.SA_LO : Fld := ⟨0x18, 31, 0⟩
def F.TQ_MAC_SA_HI.SA_HI : Fld := ⟨0x1c, 15, 0⟩
def F.TQ_PORT_CFG.BCAST_PASS : Fld := ⟨0x20, 3, 3⟩
def F.TQ_PORT_CFG.FILT_MODE : Fld := ⟨0x20, 1, 1⟩
def F.TQ_PORT_CFG.RADIO : Fld := ⟨0x20, 0, 0⟩
def F.TQ_PORT_SVC.STATE : Fld := ⟨0x24, 31, 30⟩
def F.TQ_PORT_SVC.WANT : Fld := ⟨0x24, 0, 0⟩
def F.TQ_FILT_HASH.BINS : Fld := ⟨0x40, 31, 0⟩
def F.TQ_WAKE_STAT.MATCH : Fld := ⟨0x60, 7, 0⟩
def F.TQ_PFC_CFG.QUANTA : Fld := ⟨0x70, 31, 16⟩
def F.TQ_PFC_CFG.REFRESH : Fld := ⟨0x70, 15, 0⟩
def F.TQ_WDOG_CFG.LIMIT : Fld := ⟨0x74, 31, 16⟩
def F.TQ_WDOG_CFG.HOLDOFF : Fld := ⟨0x74, 15, 0⟩
def F.TQ_WDOG_STAT.PAUSED : Fld := ⟨0x78, 15, 8⟩
def F.TQ_WDOG_STAT.BROKEN : Fld := ⟨0x78, 7, 0⟩
def F.TQ_CSUM_CFG.TX_EN : Fld := ⟨0x80, 1, 1⟩
def F.TQ_CSUM_CFG.RX_EN : Fld := ⟨0x80, 0, 0⟩
def F.TQ_PRBS_CTRL.GEN_EN : Fld := ⟨0x90, 31, 31⟩
def F.TQ_PRBS_CTRL.CHK_EN : Fld := ⟨0x90, 30, 30⟩
def F.TQ_PRBS_CTRL.INV : Fld := ⟨0x90, 29, 29⟩
def F.TQ_PRBS_CTRL.INJ_ONE : Fld := ⟨0x90, 28, 28⟩
def F.TQ_PRBS_CTRL.CLR : Fld := ⟨0x90, 27, 27⟩
def F.TQ_PRBS_CTRL.POLY : Fld := ⟨0x90, 26, 24⟩
def F.TQ_PRBS_CTRL.INJ_RATE : Fld := ⟨0x90, 23, 20⟩
def F.TQ_PRBS_CTRL.BEN_ON : Fld := ⟨0x90, 19, 19⟩
def F.TQ_PRBS_STAT.LOCK : Fld := ⟨0x94, 31, 31⟩
def F.TQ_PRBS_ERR.ERRORS : Fld := ⟨0x98, 31, 0⟩
def F.TQ_WAKE_MASK.MASK : Fld := ⟨0x100, 31, 0⟩
def F.TQ_WAKE_CRC.EN : Fld := ⟨0x110, 31, 31⟩
def F.TQ_WAKE_CRC.CRC : Fld := ⟨0x110, 15, 0⟩
def F.TQ_QUAD_PLL.PLL1_LOCK : Fld := ⟨0x8000, 31, 31⟩
def F.TQ_QUAD_PLL.PLL0_LOCK : Fld := ⟨0x8000, 30, 30⟩
def F.TQ_QUAD_PLL.REF_SEL : Fld := ⟨0x8000, 8, 8⟩
def F.TQ_QUAD_PLL.PLL1_SET : Fld := ⟨0x8000, 5, 4⟩
def F.TQ_QUAD_PLL.PLL0_SET : Fld := ⟨0x8000, 1, 0⟩
def F.TQ_QUAD_STAT.ALL_OUT : Fld := ⟨0x8004, 4, 4⟩
def F.TQ_QUAD_STAT.OUT : Fld := ⟨0x8004, 3, 0⟩
def F.TQ_PTP_CFG.RX_EN : Fld := ⟨0x200, 31, 31⟩
def F.TQ_PTP_CFG.TX_EN : Fld := ⟨0x200, 30, 30⟩
def F.TQ_PTP_CFG.L2 : Fld := ⟨0x200, 29, 29⟩
def F.TQ_PTP_CFG.UDP4 : Fld := ⟨0x200, 28, 28⟩
def F.TQ_PTP_CFG.UDP6 : Fld := ⟨0x200, 27, 27⟩
def F.TQ_PTP_CFG.ONE_STEP : Fld := ⟨0x200, 26, 26⟩
def F.TQ_PTP_CFG.TC : Fld := ⟨0x200, 25, 24⟩
def F.TQ_TS_TRIM_RX.TRIM : Fld := ⟨0x204, 31, 0⟩
def F.TQ_TS_TRIM_TX.TRIM : Fld := ⟨0x208, 31, 0⟩
def F.TQ_PEER_DLY.DLY : Fld := ⟨0x20c, 31, 0⟩
def F.TQ_TS_HEAD.WORD : Fld := ⟨0x210, 31, 0⟩
def F.TQ_TS_CTRL.POP : Fld := ⟨0x220, 31, 31⟩
def F.TQ_TS_CTRL.FLUSH : Fld := ⟨0x220, 30, 30⟩
def F.TQ_TS_CTRL.COUNT : Fld := ⟨0x220, 6, 0⟩
def F.TQ_TS_LAT_RX.LAT : Fld := ⟨0x224, 31, 0⟩
def F.TQ_TS_LAT_TX.LAT : Fld := ⟨0x228, 31, 0⟩
def F.TQ_PTP_LEAD.LEAD : Fld := ⟨0x22c, 15, 0⟩
def F.TQ_SEC_CFG.EN : Fld := ⟨0x300, 31, 31⟩
def F.TQ_SEC_CFG.PROTECT : Fld := ⟨0x300, 30, 30⟩
def F.TQ_SEC_CFG.INCLUDE_SCI : Fld := ⟨0x300, 29, 29⟩
def F.TQ_SEC_CFG.USE_ES : Fld := ⟨0x300, 28, 28⟩
def F.TQ_SEC_CFG.USE_SCB : Fld := ⟨0x300, 27, 27⟩
def F.TQ_SEC_CFG.VALIDATE : Fld := ⟨0x300, 26, 25⟩
def F.TQ_SEC_CFG.REPLAY : Fld := ⟨0x300, 24, 24⟩
def F.TQ_SEC_CFG.XPN : Fld := ⟨0x300, 23, 23⟩
def F.TQ_SEC_CFG.CONF_OFF : Fld := ⟨0x300, 22, 21⟩
def F.TQ_SEC_CFG.CONF : Fld := ⟨0x300, 20, 20⟩
def F.TQ_SEC_CFG.ENC_AN : Fld := ⟨0x300, 19, 18⟩
def F.TQ_SEC_CFG.PI : Fld := ⟨0x300, 15, 0⟩
def F.TQ_SEC_REPLAY.WINDOW : Fld := ⟨0x304, 31, 0⟩
def F.TQ_SEC_CMD.BUSY : Fld := ⟨0x310, 31, 31⟩
def F.TQ_SEC_CMD.CAUSE : Fld := ⟨0x310, 30, 28⟩
def F.TQ_SEC_CMD.SPACE : Fld := ⟨0x310, 19, 18⟩
def F.TQ_SEC_CMD.OP : Fld := ⟨0x310, 17, 16⟩
def F.TQ_SEC_CMD.INDEX : Fld := ⟨0x310, 4, 0⟩
def F.TQ_SEC_DATA.WORD : Fld := ⟨0x314, 31, 0⟩

/-! ### Fields of the table store -/

def F.TBL_EPOCH.SWAP : Fld := ⟨0x0, 31, 31⟩
def F.TBL_EPOCH.SWAP_PENDING : Fld := ⟨0x0, 30, 30⟩
def F.TBL_EPOCH.DRAINING : Fld := ⟨0x0, 29, 29⟩
def F.TBL_EPOCH.LIVE : Fld := ⟨0x0, 28, 28⟩
def F.TBL_EPOCH.OLD_COUNT : Fld := ⟨0x0, 15, 0⟩
def F.TBL_EPOCH_CFG.STUCK : Fld := ⟨0x4, 15, 0⟩
def F.TBL_CMD.BUSY : Fld := ⟨0x10, 31, 31⟩
def F.TBL_CMD.CAUSE : Fld := ⟨0x10, 30, 28⟩
def F.TBL_CMD.OP : Fld := ⟨0x10, 27, 24⟩
def F.TBL_CMD.TABLE : Fld := ⟨0x10, 23, 20⟩
def F.TBL_CMD.INDEX : Fld := ⟨0x10, 15, 0⟩
def F.TBL_DATA.WORD : Fld := ⟨0x20, 31, 0⟩
def F.TBL_AGE_CFG.L2_PERIOD : Fld := ⟨0x100, 31, 16⟩
def F.TBL_AGE_CFG.FLOW_PERIOD : Fld := ⟨0x100, 15, 0⟩
def F.TBL_TCAM_PART.COUNT : Fld := ⟨0x110, 8, 4⟩
def F.TBL_TCAM_PART.BASE : Fld := ⟨0x110, 3, 0⟩
def F.TBL_BANK_CMD.BUSY : Fld := ⟨0x180, 31, 31⟩
def F.TBL_BANK_CMD.REFUSED : Fld := ⟨0x180, 30, 30⟩
def F.TBL_BANK_CMD.OP : Fld := ⟨0x180, 17, 16⟩
def F.TBL_BANK_CMD.BANK : Fld := ⟨0x180, 5, 0⟩
def F.TBL_BANK_STATE.STATE : Fld := ⟨0x190, 31, 0⟩
def F.TBL_LEARN_CFG.EN : Fld := ⟨0x200, 31, 31⟩
def F.TBL_LEARN_CFG.MOVE_EN : Fld := ⟨0x200, 30, 30⟩
def F.TBL_LEARN_CFG.LIMIT : Fld := ⟨0x200, 16, 0⟩
def F.TBL_LEARN_CNT.COUNT : Fld := ⟨0x204, 16, 0⟩
def F.TBL_ACT_CMD.BUSY : Fld := ⟨0x600, 31, 31⟩
def F.TBL_ACT_CMD.CAUSE : Fld := ⟨0x600, 30, 28⟩
def F.TBL_ACT_CMD.SPACE : Fld := ⟨0x600, 27, 27⟩
def F.TBL_ACT_CMD.OP : Fld := ⟨0x600, 17, 16⟩
def F.TBL_ACT_CMD.INDEX : Fld := ⟨0x600, 13, 0⟩
def F.TBL_ACT_DATA.WORD : Fld := ⟨0x610, 31, 0⟩
def F.TBL_MIRROR.EN : Fld := ⟨0x700, 31, 31⟩
def F.TBL_MIRROR.Q_MODE : Fld := ⟨0x700, 30, 30⟩
def F.TBL_MIRROR.TRUNC : Fld := ⟨0x700, 29, 16⟩
def F.TBL_MIRROR.TARGET : Fld := ⟨0x700, 15, 0⟩

/-! ### Fields of the inspection -/

def F.INS_ENG_SVC.STATE : Fld := ⟨0x0, 31, 30⟩
def F.INS_ENG_SVC.FAULT : Fld := ⟨0x0, 29, 29⟩
def F.INS_ENG_SVC.WANT : Fld := ⟨0x0, 0, 0⟩
def F.INS_ENG_STAT.WAITING : Fld := ⟨0x4, 31, 31⟩
def F.INS_ENG_STAT.SCANNING : Fld := ⟨0x4, 30, 30⟩
def F.INS_ENG_STAT.ITEM : Fld := ⟨0x4, 29, 16⟩
def F.INS_ENG_STAT.LOAD : Fld := ⟨0x4, 9, 0⟩
def F.INS_PSET_CFG.VALID : Fld := ⟨0x20000, 31, 31⟩
def F.INS_PSET_CFG.COUNT : Fld := ⟨0x20000, 28, 16⟩
def F.INS_PSET_CFG.DEPTH : Fld := ⟨0x20000, 11, 0⟩
def F.INS_PAT_CMD.BUSY : Fld := ⟨0x20100, 31, 31⟩
def F.INS_PAT_CMD.CAUSE : Fld := ⟨0x20100, 30, 28⟩
def F.INS_PAT_CMD.OP : Fld := ⟨0x20100, 17, 16⟩
def F.INS_PAT_CMD.BANK : Fld := ⟨0x20100, 15, 15⟩
def F.INS_PAT_CMD.INDEX : Fld := ⟨0x20100, 13, 0⟩
def F.INS_PAT_DATA.WORD : Fld := ⟨0x20110, 31, 0⟩

/-! ### Fields of the traffic manager -/

def F.TMG_TC_MAP.OFF : Fld := ⟨0x4, 23, 0⟩
def F.TMG_POOL.LIMIT : Fld := ⟨0x10, 17, 0⟩
def F.TMG_POOL_OCC.OCC : Fld := ⟨0x20, 17, 0⟩
def F.TMG_BUF_STAT.FREE : Fld := ⟨0x30, 17, 0⟩
def F.TMG_DEEP_CFG.US_PCT : Fld := ⟨0x40, 6, 0⟩
def F.TMG_Q_CMD.BUSY : Fld := ⟨0x100, 31, 31⟩
def F.TMG_Q_CMD.SPACE : Fld := ⟨0x100, 19, 18⟩
def F.TMG_Q_CMD.OP : Fld := ⟨0x100, 17, 16⟩
def F.TMG_Q_CMD.INDEX : Fld := ⟨0x100, 11, 0⟩
def F.TMG_Q_DATA.WORD : Fld := ⟨0x104, 31, 0⟩
def F.TMG_PURSE_CMD.BUSY : Fld := ⟨0x200, 31, 31⟩
def F.TMG_PURSE_CMD.OP : Fld := ⟨0x200, 17, 16⟩
def F.TMG_PURSE_CMD.SPACE : Fld := ⟨0x200, 15, 15⟩
def F.TMG_PURSE_CMD.INDEX : Fld := ⟨0x200, 13, 0⟩
def F.TMG_PURSE_CFG.RATE : Fld := ⟨0x204, 23, 0⟩
def F.TMG_PURSE_BURST.BURST : Fld := ⟨0x208, 24, 0⟩
def F.TMG_PURSE_MODE.AWARE : Fld := ⟨0x20c, 2, 2⟩
def F.TMG_PURSE_MODE.MODE : Fld := ⟨0x20c, 1, 0⟩
def F.TMG_PURSE_TOK.TOKENS : Fld := ⟨0x210, 31, 0⟩
def F.TMG_GCL_CMD.BUSY : Fld := ⟨0xa00, 31, 31⟩
def F.TMG_GCL_CMD.OP : Fld := ⟨0xa00, 17, 16⟩
def F.TMG_GCL_CMD.PORT : Fld := ⟨0xa00, 13, 8⟩
def F.TMG_GCL_CMD.INDEX : Fld := ⟨0xa00, 7, 0⟩
def F.TMG_GCL_DATA0.INTERVAL : Fld := ⟨0xa04, 29, 0⟩
def F.TMG_GCL_DATA1.GATES : Fld := ⟨0xa08, 7, 0⟩
def F.TMG_PORT_CFG.SH_EN : Fld := ⟨0x400, 26, 26⟩
def F.TMG_PORT_CFG.SHAPER : Fld := ⟨0x400, 25, 16⟩
def F.TMG_PORT_CFG.OVERHEAD : Fld := ⟨0x400, 5, 0⟩
def F.TMG_PFC_THR.XOFF : Fld := ⟨0x404, 31, 16⟩
def F.TMG_PFC_THR.XON : Fld := ⟨0x404, 15, 0⟩
def F.TMG_GCL_CTRL.COMMIT : Fld := ⟨0x408, 31, 31⟩
def F.TMG_GCL_CTRL.PENDING : Fld := ⟨0x408, 30, 30⟩
def F.TMG_GCL_CTRL.ENABLE : Fld := ⟨0x408, 29, 29⟩
def F.TMG_GCL_CTRL.GUARD : Fld := ⟨0x408, 28, 28⟩
def F.TMG_GCL_CTRL.GCL_REFUSED : Fld := ⟨0x408, 27, 27⟩
def F.TMG_GCL_CTRL.GEN : Fld := ⟨0x408, 23, 16⟩
def F.TMG_GCL_CTRL.ADMIN_LEN : Fld := ⟨0x408, 8, 0⟩
def F.TMG_GCL_CYCLE.ADMIN_CYCLE : Fld := ⟨0x40c, 29, 0⟩
def F.TMG_GCL_BASE_S.BASE_S : Fld := ⟨0x410, 31, 0⟩
def F.TMG_GCL_BASE_NS.BASE_NS : Fld := ⟨0x414, 29, 0⟩
def F.TMG_GCL_OPER.STATE : Fld := ⟨0x418, 15, 8⟩
def F.TMG_GCL_OPER.ENTRY : Fld := ⟨0x418, 7, 0⟩

/-! ### Fields of the burst composers -/

def F.BC_MAP_CTRL.COMMIT : Fld := ⟨0x0, 31, 31⟩
def F.BC_MAP_CTRL.PENDING : Fld := ⟨0x0, 30, 30⟩
def F.BC_MAP_CTRL.REFUSED : Fld := ⟨0x0, 29, 29⟩
def F.BC_MAP_CTRL.ACTIVE : Fld := ⟨0x0, 28, 28⟩
def F.BC_MAP_CTRL.GEN : Fld := ⟨0x0, 23, 16⟩
def F.BC_MAP_CMD.BUSY : Fld := ⟨0x4, 31, 31⟩
def F.BC_MAP_CMD.OP : Fld := ⟨0x4, 17, 16⟩
def F.BC_MAP_CMD.INDEX : Fld := ⟨0x4, 6, 0⟩
def F.BC_MAP_DATA.WORD : Fld := ⟨0x10, 31, 0⟩
def F.BC_TILL_CFG.RADIO_CELLS : Fld := ⟨0x40, 29, 16⟩
def F.BC_TILL_CFG.PANIC_LEAD : Fld := ⟨0x40, 11, 4⟩
def F.BC_TILL_CFG.STAGE_AHEAD : Fld := ⟨0x40, 3, 0⟩
def F.BC_TILL_STAT.PANIC : Fld := ⟨0x44, 31, 31⟩
def F.BC_TILL_STAT.RADIO_USED : Fld := ⟨0x44, 30, 16⟩
def F.BC_TILL_STAT.STAGE_USED : Fld := ⟨0x44, 14, 0⟩

/-! ### Fields of the time island -/

def F.TIM_STAT.RUN : Fld := ⟨0x0, 31, 31⟩
def F.TIM_STAT.SERVO : Fld := ⟨0x0, 30, 28⟩
def F.TIM_STAT.ADJ_BUSY : Fld := ⟨0x0, 27, 27⟩
def F.TIM_STAT.XTAL_FB : Fld := ⟨0x0, 26, 26⟩
def F.TIM_STAT.SYNCE : Fld := ⟨0x0, 25, 24⟩
def F.TIM_STAT.PPS_IN_OK : Fld := ⟨0x0, 23, 23⟩
def F.TIM_SNAP_CTRL.GO : Fld := ⟨0x10, 31, 31⟩
def F.TIM_SNAP0.SEC_LO : Fld := ⟨0x14, 31, 0⟩
def F.TIM_SNAP1.SEC_HI : Fld := ⟨0x18, 31, 0⟩
def F.TIM_SNAP2.NS : Fld := ⟨0x1c, 29, 0⟩
def F.TIM_SNAP3.VALID : Fld := ⟨0x20, 31, 31⟩
def F.TIM_SNAP3.SEEN : Fld := ⟨0x20, 30, 30⟩
def F.TIM_SNAP3.FRAC : Fld := ⟨0x20, 15, 0⟩
def F.TIM_SNAP_RAW_LO.RAW : Fld := ⟨0x24, 31, 0⟩
def F.TIM_SNAP_RAW_HI.RAW : Fld := ⟨0x28, 31, 0⟩
def F.TIM_ADJ_CMD.GO : Fld := ⟨0x40, 31, 31⟩
def F.TIM_ADJ_CMD.REFUSED : Fld := ⟨0x40, 30, 30⟩
def F.TIM_ADJ_CMD.OP : Fld := ⟨0x40, 29, 28⟩
def F.TIM_ADJ_SEC_LO.SEC : Fld := ⟨0x44, 31, 0⟩
def F.TIM_ADJ_SEC_HI.SEC : Fld := ⟨0x48, 31, 0⟩
def F.TIM_ADJ_NS.NEG : Fld := ⟨0x4c, 31, 31⟩
def F.TIM_ADJ_NS.NS : Fld := ⟨0x4c, 29, 0⟩
def F.TIM_ADJ_FRAC.FRAC : Fld := ⟨0x50, 15, 0⟩
def F.TIM_ADJ_RATE_LO.RATE : Fld := ⟨0x54, 31, 0⟩
def F.TIM_ADJ_RATE_HI.RATE : Fld := ⟨0x58, 7, 0⟩
def F.TIM_RATE_LO.ADJ : Fld := ⟨0x60, 31, 0⟩
def F.TIM_RATE_HI.ADJ : Fld := ⟨0x64, 7, 0⟩
def F.TIM_SRC_CFG.SRC_TO : Fld := ⟨0x80, 31, 16⟩
def F.TIM_SRC_CFG.HOLD_LIMIT : Fld := ⟨0x80, 15, 4⟩
def F.TIM_SRC_CFG.SRC : Fld := ⟨0x80, 2, 0⟩
def F.TIM_SERVO_CFG.KP : Fld := ⟨0x84, 31, 28⟩
def F.TIM_SERVO_CFG.KI : Fld := ⟨0x84, 27, 24⟩
def F.TIM_SERVO_CFG.LKP : Fld := ⟨0x84, 23, 20⟩
def F.TIM_SERVO_CFG.LKI : Fld := ⟨0x84, 19, 16⟩
def F.TIM_SERVO_CFG.LOCK_CNT : Fld := ⟨0x84, 15, 8⟩
def F.TIM_SERVO_CFG.HYBRID : Fld := ⟨0x84, 7, 7⟩
def F.TIM_SERVO_CFG.STEP_EN : Fld := ⟨0x84, 6, 6⟩
def F.TIM_SERVO_THR.STEP_THR : Fld := ⟨0x88, 31, 16⟩
def F.TIM_SERVO_THR.LOCK_THR : Fld := ⟨0x88, 15, 0⟩
def F.TIM_SERVO_SAMPLE_LO.THETA : Fld := ⟨0x8c, 31, 0⟩
def F.TIM_SERVO_SAMPLE_HI.GO : Fld := ⟨0x90, 31, 31⟩
def F.TIM_SERVO_SAMPLE_HI.THETA : Fld := ⟨0x90, 15, 0⟩
def F.TIM_SERVO_LAST.THETA : Fld := ⟨0x94, 31, 0⟩
def F.TIM_SERVO_I_LO.I : Fld := ⟨0x98, 31, 0⟩
def F.TIM_SERVO_I_HI.I : Fld := ⟨0x9c, 7, 0⟩
def F.TIM_PTOD_CTRL.GO : Fld := ⟨0xc0, 31, 31⟩
def F.TIM_PTOD_CTRL.BUSY : Fld := ⟨0xc0, 30, 30⟩
def F.TIM_PTOD_CTRL.CH : Fld := ⟨0xc0, 29, 29⟩
def F.TIM_PTOD_CTRL.CAUSE : Fld := ⟨0xc0, 28, 26⟩
def F.TIM_PTOD_SEC_LO.SEC : Fld := ⟨0xc4, 31, 0⟩
def F.TIM_PTOD_SEC_HI.SEC : Fld := ⟨0xc8, 31, 0⟩
def F.TIM_PTOD_NS.NS : Fld := ⟨0xcc, 29, 0⟩
def F.TIM_PTOD_FRAC.FRAC : Fld := ⟨0xd0, 15, 0⟩
def F.TIM_PTOD_TEQD.TEQD : Fld := ⟨0xd4, 25, 0⟩
def F.TIM_PTOD_RATIO.DN_SHARE : Fld := ⟨0xd8, 31, 0⟩
def F.TIM_PTOD_TRIM.TRIM : Fld := ⟨0xdc, 31, 0⟩
def F.TIM_PTOD_RES0.THETA : Fld := ⟨0xe0, 31, 0⟩
def F.TIM_PTOD_RES1.VALID : Fld := ⟨0xe4, 31, 31⟩
def F.TIM_PTOD_RES1.SEEN : Fld := ⟨0xe4, 30, 30⟩
def F.TIM_PTOD_RES1.THETA : Fld := ⟨0xe4, 15, 0⟩
def F.TIM_PPS_IN_CFG.EN : Fld := ⟨0x100, 31, 31⟩
def F.TIM_PPS_IN_CFG.POL : Fld := ⟨0x100, 30, 30⟩
def F.TIM_PPS_IN_CFG.WIN : Fld := ⟨0x100, 15, 0⟩
def F.TIM_PPS_IN_DLY.DLY : Fld := ⟨0x104, 31, 0⟩
def F.TIM_PPS_IN_CAP0.SEC_LO : Fld := ⟨0x108, 31, 0⟩
def F.TIM_PPS_IN_CAP1.SEC_HI : Fld := ⟨0x10c, 31, 0⟩
def F.TIM_PPS_IN_CAP2.NS : Fld := ⟨0x110, 29, 0⟩
def F.TIM_PPS_IN_CAP3.VALID : Fld := ⟨0x114, 31, 31⟩
def F.TIM_PPS_IN_CAP3.SEEN : Fld := ⟨0x114, 30, 30⟩
def F.TIM_PPS_IN_CAP3.FRAC : Fld := ⟨0x114, 15, 0⟩
def F.TIM_PPS_OUT_CFG.EN : Fld := ⟨0x120, 31, 31⟩
def F.TIM_PPS_OUT_CFG.POL : Fld := ⟨0x120, 30, 30⟩
def F.TIM_PPS_OUT_CFG.WIDTH : Fld := ⟨0x120, 18, 0⟩
def F.TIM_PPS_OUT_DLY.DLY : Fld := ⟨0x124, 31, 0⟩
def F.TIM_TOD_CFG.TX_PPS : Fld := ⟨0x130, 31, 31⟩
def F.TIM_TOD_CFG.BAUD : Fld := ⟨0x130, 30, 28⟩
def F.TIM_TOD_CFG.TX_DLY : Fld := ⟨0x130, 19, 0⟩
def F.TIM_TOD_TX.DATA : Fld := ⟨0x134, 7, 0⟩
def F.TIM_TOD_RX.VALID : Fld := ⟨0x138, 31, 31⟩
def F.TIM_TOD_RX.POP : Fld := ⟨0x138, 30, 30⟩
def F.TIM_TOD_RX.DATA : Fld := ⟨0x138, 7, 0⟩
def F.TIM_TOD_STAT.TX_LEVEL : Fld := ⟨0x13c, 24, 16⟩
def F.TIM_TOD_STAT.RX_LEVEL : Fld := ⟨0x13c, 8, 0⟩
def F.TIM_SYNCE_CFG.EN : Fld := ⟨0x140, 31, 31⟩
def F.TIM_SYNCE_CFG.SEL : Fld := ⟨0x140, 29, 24⟩
def F.TIM_SYNCE_CFG.BW : Fld := ⟨0x140, 23, 23⟩
def F.TIM_SYNCE_CFG.HOLD_FORCE : Fld := ⟨0x140, 22, 22⟩
def F.TIM_SYNCE_STAT.FOFS : Fld := ⟨0x144, 31, 0⟩
def F.TIM_SYNCE_OUT.SQUELCH : Fld := ⟨0x148, 31, 31⟩
def F.TIM_SYNCE_OUT.SEL : Fld := ⟨0x148, 5, 0⟩

/-! ### Fields of the Vault -/

def F.VLT_STAT.MINT : Fld := ⟨0x0, 31, 30⟩
def F.VLT_STAT.DRAINING : Fld := ⟨0x0, 29, 29⟩
def F.VLT_STAT.ESCROW_USED : Fld := ⟨0x0, 20, 16⟩
def F.VLT_SLOT_PART.HOST_BASE : Fld := ⟨0x4, 9, 0⟩
def F.VLT_PON_SLOTS.PCB_BASE : Fld := ⟨0x8, 25, 16⟩
def F.VLT_PON_SLOTS.PCA_BASE : Fld := ⟨0x8, 9, 0⟩
def F.VLT_MINT_CTRL.RESTART : Fld := ⟨0x10, 31, 31⟩
def F.VLT_DBG_CTRL.CLOSE : Fld := ⟨0x20, 31, 31⟩
def F.VLT_DBG_CTRL.OPEN : Fld := ⟨0x20, 3, 0⟩
def F.JOB_CTRL.GO : Fld := ⟨0x100, 31, 31⟩
def F.JOB_CTRL.BUSY : Fld := ⟨0x100, 30, 30⟩
def F.JOB_CTRL.OP : Fld := ⟨0x100, 23, 16⟩
def F.JOB_CTRL.IV_MODE : Fld := ⟨0x100, 15, 14⟩
def F.JOB_CTRL.SLOT : Fld := ⟨0x100, 9, 0⟩
def F.JOB_SLOT2.SLOT2 : Fld := ⟨0x104, 9, 0⟩
def F.JOB_SRC_LO.ADDR : Fld := ⟨0x108, 31, 0⟩
def F.JOB_SRC_HI.ADDR : Fld := ⟨0x10c, 31, 0⟩
def F.JOB_DST_LO.ADDR : Fld := ⟨0x110, 31, 0⟩
def F.JOB_DST_HI.ADDR : Fld := ⟨0x114, 31, 0⟩
def F.JOB_LEN.LEN : Fld := ⟨0x118, 24, 0⟩
def F.JOB_AAD_LEN.AAD : Fld := ⟨0x11c, 15, 0⟩
def F.JOB_IV.IV : Fld := ⟨0x120, 31, 0⟩
def F.JOB_TAG_IN.TAG : Fld := ⟨0x130, 31, 0⟩
def F.JOB_RES.VALID : Fld := ⟨0x140, 31, 31⟩
def F.JOB_RES.SEEN : Fld := ⟨0x140, 30, 30⟩
def F.JOB_RES.STATUS : Fld := ⟨0x140, 28, 25⟩
def F.JOB_RES.OUT_LEN : Fld := ⟨0x140, 24, 0⟩
def F.JOB_TAG_OUT.TAG : Fld := ⟨0x144, 31, 0⟩
def F.KEY_IN.KEY : Fld := ⟨0x160, 31, 0⟩
def F.KEY_CMD.GO : Fld := ⟨0x180, 31, 31⟩
def F.KEY_CMD.BUSY : Fld := ⟨0x180, 30, 30⟩
def F.KEY_CMD.CAUSE : Fld := ⟨0x180, 29, 27⟩
def F.KEY_CMD.OP : Fld := ⟨0x180, 17, 16⟩
def F.KEY_CMD.SLOT : Fld := ⟨0x180, 9, 0⟩
def F.KEY_ATTR.USE : Fld := ⟨0x184, 7, 4⟩
def F.KEY_ATTR.TYPE : Fld := ⟨0x184, 1, 0⟩
def F.KEY_STAT.TYPE : Fld := ⟨0x188, 31, 30⟩
def F.KEY_STAT.USE : Fld := ⟨0x188, 29, 26⟩
def F.KEY_STAT.KCV : Fld := ⟨0x188, 23, 0⟩

/-! ### Fields of the Steward -/

def F.STW_CTRL.KEY : Fld := ⟨0x0, 31, 16⟩
def F.STW_CTRL.TARGET : Fld := ⟨0x0, 8, 8⟩
def F.STW_CTRL.VERIFY_ONLY : Fld := ⟨0x0, 2, 2⟩
def F.STW_CTRL.RESTART : Fld := ⟨0x0, 1, 1⟩
def F.STW_CTRL.SWITCH : Fld := ⟨0x0, 0, 0⟩
def F.STW_STAT.STATE : Fld := ⟨0x4, 31, 30⟩
def F.STW_STAT.FW_COPY : Fld := ⟨0x4, 29, 29⟩
def F.STW_STAT.VERIFYING : Fld := ⟨0x4, 28, 28⟩
def F.STW_STAT.LAST_FAIL : Fld := ⟨0x4, 27, 24⟩
def F.STW_STAT.RESTARTS : Fld := ⟨0x4, 23, 16⟩
def F.STW_READY.READY : Fld := ⟨0x8, 0, 0⟩
def F.STW_CFG.GRACE : Fld := ⟨0xc, 31, 16⟩
def F.STW_CFG.WDOG : Fld := ⟨0xc, 15, 0⟩
def F.STW_WDOG.KICK : Fld := ⟨0x10, 0, 0⟩
def F.STW_FW_FLOOR.FLOOR : Fld := ⟨0x14, 31, 0⟩
def F.STW_OWN_LO.HOST : Fld := ⟨0x20, 31, 0⟩
def F.STW_OWN_HI.HOST : Fld := ⟨0x24, 31, 0⟩
def F.STW_DC.COUNT : Fld := ⟨0x28, 2, 0⟩
def F.STW_MB_H2S.DATA : Fld := ⟨0x100, 31, 0⟩
def F.STW_MB_H2S_CTRL.GO : Fld := ⟨0x140, 31, 31⟩
def F.STW_MB_H2S_CTRL.FULL : Fld := ⟨0x140, 30, 30⟩
def F.STW_MB_H2S_CTRL.ACK : Fld := ⟨0x140, 0, 0⟩
def F.STW_MB_S2H.DATA : Fld := ⟨0x180, 31, 0⟩
def F.STW_MB_S2H_CTRL.GO : Fld := ⟨0x1c0, 31, 31⟩
def F.STW_MB_S2H_CTRL.FULL : Fld := ⟨0x1c0, 30, 30⟩
def F.STW_MB_S2H_CTRL.ACK : Fld := ⟨0x1c0, 0, 0⟩
def F.STW_PKT_CMD.GO : Fld := ⟨0x200, 31, 31⟩
def F.STW_PKT_CMD.BUSY : Fld := ⟨0x200, 30, 30⟩
def F.STW_PKT_CMD.CAUSE : Fld := ⟨0x200, 29, 28⟩
def F.STW_PKT_CMD.OFFSET : Fld := ⟨0x200, 27, 14⟩
def F.STW_PKT_CMD.LEN : Fld := ⟨0x200, 13, 0⟩
def F.STW_PKT_DST.ADDR : Fld := ⟨0x204, 31, 0⟩

/-! ### Fields of the DRAM common -/

def F.MCC_CFG.SCRUB_EN : Fld := ⟨0x0, 8, 8⟩
def F.MCC_CFG.DENSITY : Fld := ⟨0x0, 5, 4⟩
def F.MCC_CFG.SPEED : Fld := ⟨0x0, 1, 0⟩
def F.MCC_TEMP_CFG.POLL : Fld := ⟨0x4, 7, 0⟩
def F.MCC_RH_CFG.THR : Fld := ⟨0x8, 31, 20⟩
def F.MCC_RH_CFG.GAP : Fld := ⟨0x8, 19, 10⟩
def F.MCC_RH_CFG.HOLD : Fld := ⟨0x8, 9, 0⟩
def F.MCC_SCRUB_CFG.PERIOD : Fld := ⟨0xc, 15, 0⟩
def F.MCC_DEEP_STAT.PAGES : Fld := ⟨0x10, 22, 0⟩
def F.MCC_TRACE_CFG.EN : Fld := ⟨0x20, 31, 31⟩
def F.MCC_TRACE_CFG.SIZE : Fld := ⟨0x20, 7, 0⟩
def F.MCC_TRACE_WP.WP : Fld := ⟨0x24, 31, 0⟩
def F.MCC_TRACE_CMD.BUSY : Fld := ⟨0x28, 31, 31⟩
def F.MCC_TRACE_CMD.CAUSE : Fld := ⟨0x28, 30, 29⟩
def F.MCC_TRACE_CMD.GO : Fld := ⟨0x28, 28, 28⟩
def F.MCC_TRACE_CMD.INDEX : Fld := ⟨0x28, 27, 0⟩
def F.MCC_TRACE_DATA.WORD : Fld := ⟨0x30, 31, 0⟩

/-! ### Fields of the DRAM channels -/

def F.MC_SVC_CTRL.DRAIN_TO : Fld := ⟨0x0, 15, 8⟩
def F.MC_SVC_CTRL.WANT : Fld := ⟨0x0, 0, 0⟩
def F.MC_STAT.STATE : Fld := ⟨0x4, 31, 30⟩
def F.MC_STAT.PHASE : Fld := ⟨0x4, 29, 28⟩
def F.MC_STAT.RATE : Fld := ⟨0x4, 27, 26⟩
def F.MC_STAT.TEMP_HOT : Fld := ⟨0x4, 25, 25⟩
def F.MC_STAT.PANIC : Fld := ⟨0x4, 24, 24⟩
def F.MC_STAT.DEBT : Fld := ⟨0x4, 23, 20⟩
def F.MC_STAT.UNITS : Fld := ⟨0x4, 2, 0⟩
def F.MC_TRAIN_STAT.ATTEMPTS : Fld := ⟨0x10, 31, 30⟩
def F.MC_TRAIN_STAT.PASS : Fld := ⟨0x10, 29, 29⟩
def F.MC_TRAIN_STAT.STEP : Fld := ⟨0x10, 26, 24⟩
def F.MC_TRAIN_RES.WR1 : Fld := ⟨0x14, 31, 24⟩
def F.MC_TRAIN_RES.WR0 : Fld := ⟨0x14, 23, 16⟩
def F.MC_TRAIN_RES.RD1 : Fld := ⟨0x14, 15, 8⟩
def F.MC_TRAIN_RES.RD0 : Fld := ⟨0x14, 7, 0⟩
def F.MC_ECC_LOG0.VALID : Fld := ⟨0x20, 31, 31⟩
def F.MC_ECC_LOG0.UE : Fld := ⟨0x20, 30, 30⟩
def F.MC_ECC_LOG0.MORE : Fld := ⟨0x20, 29, 29⟩
def F.MC_ECC_LOG0.REQ : Fld := ⟨0x20, 28, 26⟩
def F.MC_ECC_LOG0.BANK : Fld := ⟨0x20, 25, 22⟩
def F.MC_ECC_LOG1.SYNDROME : Fld := ⟨0x24, 31, 22⟩
def F.MC_ECC_LOG1.COL : Fld := ⟨0x24, 21, 17⟩
def F.MC_ECC_LOG1.ROW : Fld := ⟨0x24, 16, 0⟩
def F.MC_ECC_LOG2.SEC : Fld := ⟨0x28, 31, 0⟩
def F.MC_ECC_LOG3.NS : Fld := ⟨0x2c, 29, 0⟩
def F.MC_ECC_CLR.CLR : Fld := ⟨0x30, 31, 31⟩

/-! ### Fields of the host island -/

def F.HST_ID.DEVICE : Fld := ⟨0x0, 31, 16⟩
def F.HST_ID.VENDOR : Fld := ⟨0x0, 15, 0⟩
def F.HST_SUBSYS.SUB_ID : Fld := ⟨0x4, 31, 16⟩
def F.HST_SUBSYS.SUB_VENDOR : Fld := ⟨0x4, 15, 0⟩
def F.HST_CFG.HOSTLESS : Fld := ⟨0x8, 31, 31⟩
def F.HST_CFG.RD_TO : Fld := ⟨0x8, 15, 0⟩
def F.HST_STATUS.LINK_UP : Fld := ⟨0xc, 31, 31⟩
def F.HST_STATUS.SPEED : Fld := ⟨0xc, 30, 28⟩
def F.HST_STATUS.WIDTH : Fld := ⟨0xc, 27, 25⟩
def F.HST_STATUS.PATH_DOWN : Fld := ⟨0xc, 24, 24⟩
def F.HST_STATUS.BAD_REQ : Fld := ⟨0xc, 2, 2⟩
def F.HST_STATUS.RD_TIMEOUT : Fld := ⟨0xc, 1, 1⟩
def F.HST_STATUS.DARK_ACCESS : Fld := ⟨0xc, 0, 0⟩
def F.HST_DARK_ADDR.WRITE : Fld := ⟨0x10, 31, 31⟩
def F.HST_DARK_ADDR.ADDR : Fld := ⟨0x10, 25, 0⟩
def F.HST_PKT_CMD.GO : Fld := ⟨0x20, 31, 31⟩
def F.HST_PKT_CMD.BUSY : Fld := ⟨0x20, 30, 30⟩
def F.HST_PKT_CMD.CAUSE : Fld := ⟨0x20, 29, 28⟩
def F.HST_PKT_CMD.OFFSET : Fld := ⟨0x20, 27, 14⟩
def F.HST_PKT_CMD.LEN : Fld := ⟨0x20, 13, 0⟩
def F.HST_PKT_ADDR_LO.ADDR : Fld := ⟨0x24, 31, 0⟩
def F.HST_PKT_ADDR_HI.ADDR : Fld := ⟨0x28, 31, 0⟩
def F.HST_COAL.CNT : Fld := ⟨0x100, 23, 16⟩
def F.HST_COAL.TIME : Fld := ⟨0x100, 15, 0⟩

/-! ### Fields of the DMA -/

def F.DC_CTRL.START : Fld := ⟨0x0, 31, 31⟩
def F.DC_CTRL.ABORT : Fld := ⟨0x0, 30, 30⟩
def F.DC_CTRL.COMMIT : Fld := ⟨0x0, 29, 29⟩
def F.DC_CTRL.PENDING : Fld := ⟨0x0, 28, 28⟩
def F.DC_CTRL.GEN : Fld := ⟨0x0, 23, 16⟩
def F.DC_CTRL.STATE : Fld := ⟨0x0, 15, 14⟩
def F.DC_CTRL.CAUSE : Fld := ⟨0x0, 13, 11⟩
def F.DC_CTRL.STEWARD : Fld := ⟨0x0, 0, 0⟩
def F.DC_RING_BASE_LO.BASE : Fld := ⟨0x4, 31, 12⟩
def F.DC_RING_BASE_HI.BASE : Fld := ⟨0x8, 31, 0⟩
def F.DC_RING_CFG.MODE : Fld := ⟨0xc, 31, 30⟩
def F.DC_RING_CFG.SEQ_START : Fld := ⟨0xc, 23, 16⟩
def F.DC_RING_CFG.SIZE : Fld := ⟨0xc, 4, 0⟩
def F.DC_DB.PI : Fld := ⟨0x10, 16, 0⟩
def F.DC_POS.SEQ_NEXT : Fld := ⟨0x14, 31, 24⟩
def F.DC_POS.CI : Fld := ⟨0x14, 16, 0⟩
def F.DC_IRQ.CAUSES : Fld := ⟨0x18, 6, 0⟩
def F.DC_IRQ_EN.EN : Fld := ⟨0x1c, 6, 0⟩
def F.DC_VEC.VECTOR : Fld := ⟨0x20, 5, 0⟩
def F.DC_STALE.OWN : Fld := ⟨0x24, 31, 31⟩
def F.DC_STALE.SEQ : Fld := ⟨0x24, 23, 16⟩
def F.DC_STALE.INDEX : Fld := ⟨0x24, 15, 0⟩
def F.DMA_HQ_MAP.EN : Fld := ⟨0x20000, 31, 31⟩
def F.DMA_HQ_MAP.CHANNEL : Fld := ⟨0x20000, 4, 0⟩

/-! ### Fields of the events -/

def F.EVT_RING_BASE_LO.BASE : Fld := ⟨0x0, 31, 12⟩
def F.EVT_RING_BASE_HI.BASE : Fld := ⟨0x4, 31, 0⟩
def F.EVT_RING_CFG.EN : Fld := ⟨0x8, 31, 31⟩
def F.EVT_RING_CFG.VECTOR : Fld := ⟨0x8, 21, 16⟩
def F.EVT_RING_CFG.SIZE : Fld := ⟨0x8, 4, 0⟩
def F.EVT_RING_PI.PI : Fld := ⟨0xc, 31, 0⟩
def F.EVT_RING_CI.CI : Fld := ⟨0x10, 31, 0⟩
def F.EVT_RING_STAT.FULL : Fld := ⟨0x14, 31, 31⟩
def F.EVT_RING_STAT.LOST : Fld := ⟨0x14, 30, 30⟩
def F.EVT_LGR_CFG.EN : Fld := ⟨0x100, 31, 31⟩
def F.EVT_LGR_CFG.RATE : Fld := ⟨0x100, 15, 0⟩
def F.EVT_LGR_WP.WP : Fld := ⟨0x104, 31, 0⟩
def F.EVT_LGR_CMD.BUSY : Fld := ⟨0x108, 31, 31⟩
def F.EVT_LGR_CMD.CAUSE : Fld := ⟨0x108, 30, 29⟩
def F.EVT_LGR_CMD.GO : Fld := ⟨0x108, 28, 28⟩
def F.EVT_LGR_CMD.INDEX : Fld := ⟨0x108, 15, 0⟩
def F.EVT_LGR_DATA.WORD : Fld := ⟨0x110, 31, 0⟩
def F.EVT_OSP_STAT.LEVEL : Fld := ⟨0x140, 7, 0⟩
def F.EVT_SRC_CFG.HOST_EN : Fld := ⟨0x1000, 31, 31⟩
def F.EVT_SRC_CFG.RING : Fld := ⟨0x1000, 30, 29⟩
def F.EVT_SRC_CFG.LGR_EN : Fld := ⟨0x1000, 28, 28⟩
def F.EVT_SRC_CFG.OSP_EN : Fld := ⟨0x1000, 27, 27⟩
def F.EVT_SOFT_H.GO : Fld := ⟨0x150, 31, 31⟩
def F.EVT_SOFT_H.REFUSED : Fld := ⟨0x150, 30, 30⟩
def F.EVT_SOFT_H.SEV : Fld := ⟨0x150, 29, 28⟩
def F.EVT_SOFT_H.SOURCE : Fld := ⟨0x150, 9, 0⟩
def F.EVT_SOFT_H_DATA.DATA : Fld := ⟨0x154, 31, 0⟩
def F.EVT_SOFT_S.GO : Fld := ⟨0x170, 31, 31⟩
def F.EVT_SOFT_S.REFUSED : Fld := ⟨0x170, 30, 30⟩
def F.EVT_SOFT_S.SEV : Fld := ⟨0x170, 29, 28⟩
def F.EVT_SOFT_S.SOURCE : Fld := ⟨0x170, 9, 0⟩
def F.EVT_SOFT_S_DATA.DATA : Fld := ⟨0x174, 31, 0⟩

/-! ### Fields of the performance counters -/

def F.PMC_CTRL.SNAP : Fld := ⟨0x0, 31, 31⟩
def F.PMC_CTRL.SNAP_GEN : Fld := ⟨0x0, 23, 16⟩
def F.PMC_CTR_CFG.EN : Fld := ⟨0x100, 31, 31⟩
def F.PMC_CTR_CFG.CHAIN : Fld := ⟨0x100, 30, 30⟩
def F.PMC_CTR_CFG.OVF_EV : Fld := ⟨0x100, 29, 29⟩
def F.PMC_CTR_CFG.INST : Fld := ⟨0x100, 27, 20⟩
def F.PMC_CTR_CFG.EVENT : Fld := ⟨0x100, 9, 0⟩
def F.PMC_CTR_LO.COUNT : Fld := ⟨0x400, 31, 0⟩
def F.PMC_CTR_HI.COUNT : Fld := ⟨0x404, 15, 0⟩
def F.PMC_SHOT_LO.COUNT : Fld := ⟨0x800, 31, 0⟩
def F.PMC_SHOT_HI.COUNT : Fld := ⟨0x804, 15, 0⟩
def F.PMC_OVF.OVF : Fld := ⟨0xc00, 31, 0⟩
def F.PMC_SAMP_CFG.EN : Fld := ⟨0xc20, 31, 31⟩
def F.PMC_SAMP_CFG.REFUSED : Fld := ⟨0xc20, 30, 30⟩
def F.PMC_SAMP_CFG.SESSION : Fld := ⟨0xc20, 29, 24⟩
def F.PMC_SAMP_CFG.CTR : Fld := ⟨0xc20, 22, 16⟩
def F.PMC_SAMP_PER.PERIOD : Fld := ⟨0xc24, 23, 0⟩
def F.PMC_SAMP_LAST.SKID : Fld := ⟨0xc40, 30, 28⟩
def F.PMC_SAMP_LAST.SRC : Fld := ⟨0xc40, 27, 21⟩
def F.PMC_SAMP_LAST.EPOCH : Fld := ⟨0xc40, 20, 20⟩
def F.PMC_SAMP_LAST.SF_VALID : Fld := ⟨0xc40, 12, 12⟩
def F.PMC_SAMP_LAST.SF : Fld := ⟨0xc40, 11, 0⟩
def F.PMC_TALLY_CMD.BUSY : Fld := ⟨0xd00, 31, 31⟩
def F.PMC_TALLY_CMD.CAUSE : Fld := ⟨0xd00, 30, 28⟩
def F.PMC_TALLY_CMD.OP : Fld := ⟨0xd00, 27, 26⟩
def F.PMC_TALLY_CMD.SPACE : Fld := ⟨0xd00, 20, 16⟩
def F.PMC_TALLY_CMD.INDEX : Fld := ⟨0xd00, 15, 0⟩
def F.PMC_TALLY_DATA.COUNT : Fld := ⟨0xd04, 31, 0⟩

/-! ### Fields of the check units -/

def F.CHK_CTRL.GO : Fld := ⟨0x0, 31, 31⟩
def F.CHK_CTRL.BUSY : Fld := ⟨0x0, 30, 30⟩
def F.CHK_CTRL.USER : Fld := ⟨0x0, 29, 28⟩
def F.CHK_CTRL.POLY : Fld := ⟨0x0, 27, 26⟩
def F.CHK_CTRL.SPACE : Fld := ⟨0x0, 25, 24⟩
def F.CHK_CTRL.NS : Fld := ⟨0x0, 23, 23⟩
def F.CHK_CTRL.DC : Fld := ⟨0x0, 4, 0⟩
def F.CHK_ADDR_LO.ADDR : Fld := ⟨0x4, 31, 0⟩
def F.CHK_ADDR_HI.ADDR : Fld := ⟨0x8, 31, 0⟩
def F.CHK_LEN.LEN : Fld := ⟨0xc, 24, 0⟩
def F.CHK_STAT.VALID : Fld := ⟨0x10, 31, 31⟩
def F.CHK_STAT.SEEN : Fld := ⟨0x10, 30, 30⟩
def F.CHK_STAT.STATUS : Fld := ⟨0x10, 29, 27⟩
def F.CHK_STAT.POLY : Fld := ⟨0x10, 26, 25⟩
def F.CHK_STAT.LEN : Fld := ⟨0x10, 24, 0⟩
def F.CHK_RES_LO.CRC : Fld := ⟨0x14, 31, 0⟩
def F.CHK_RES_HI.CRC : Fld := ⟨0x18, 31, 0⟩

/-- Registers of the always-on island, part 0. -/
def regsAON0 : List RegSpec := [
  ⟨0x0, [], [⟨F.AON_PART_ID.PART, .ro, 0x9648⟩, ⟨F.AON_PART_ID.STEP_MAJOR, .ro, 0xb⟩, ⟨F.AON_PART_ID.STEP_MINOR, .ro, 0x0⟩]⟩,
  ⟨0x10, [], [⟨F.AON_ISL_LIVE0.LIVE, .ro, 0x3⟩]⟩,
  ⟨0x14, [], [⟨F.AON_ISL_LIVE1.LIVE, .ro, 0x0⟩]⟩,
  ⟨0x28, [], [⟨F.AON_BOOT_CTRL.KEY, .wo, 0x0⟩, ⟨F.AON_BOOT_CTRL.PREFER_B, .rw, 0x0⟩, ⟨F.AON_BOOT_CTRL.FLASH_RELEASE, .rw, 0x0⟩, ⟨F.AON_BOOT_CTRL.REBOOT, .wo, 0x0⟩]⟩,
  ⟨0x20, [], [⟨F.AON_BOOT_STAT.STAGE, .ro, 0x0⟩, ⟨F.AON_BOOT_STAT.COPY, .ro, 0x0⟩, ⟨F.AON_BOOT_STAT.FW_COPY, .ro, 0x0⟩, ⟨F.AON_BOOT_STAT.XTAL_FB, .ro, 0x0⟩, ⟨F.AON_BOOT_STAT.STW_DOWN, .ro, 0x0⟩, ⟨F.AON_BOOT_STAT.BOOT_COUNT, .ro, 0x0⟩]⟩,
  ⟨0x24, [], [⟨F.AON_BOOT_FAIL.FAIL_A, .ro, 0x0⟩, ⟨F.AON_BOOT_FAIL.FAIL_B, .ro, 0x0⟩, ⟨F.AON_BOOT_FAIL.FAIL_FW_A, .ro, 0x0⟩, ⟨F.AON_BOOT_FAIL.FAIL_FW_B, .ro, 0x0⟩, ⟨F.AON_BOOT_FAIL.ASSAY_ISL, .ro, 0xff⟩, ⟨F.AON_BOOT_FAIL.ASSAY_ROM, .ro, 0x0⟩, ⟨F.AON_BOOT_FAIL.ASSAY_KAT, .ro, 0x0⟩, ⟨F.AON_BOOT_FAIL.ASSAY_SRAM, .ro, 0x0⟩, ⟨F.AON_BOOT_FAIL.ASSAY_MINT, .ro, 0x0⟩]⟩,
  ⟨0x2c, [], [⟨F.AON_BOOT_TIME.RUN_MS, .ro, 0x0⟩, ⟨F.AON_BOOT_TIME.VERIFY_MS, .ro, 0x0⟩]⟩,
  ⟨0x30, [], [⟨F.AON_SEAL.SEALED, .ro, 0x0⟩, ⟨F.AON_SEAL.DISCARDS, .rc, 0x0⟩]⟩,
  ⟨0x34, [], [⟨F.AON_PB_VERSION.VERSION, .ro, 0x0⟩]⟩,
  ⟨0x38, [], [⟨F.AON_PB_FLOOR.FLOOR, .ro, 0x0⟩]⟩,
  ⟨0x400, [], [⟨F.AON_HM_DIE_LO.DIE_LO, .ro, 0x0⟩]⟩,
  ⟨0x404, [], [⟨F.AON_HM_DIE_HI.DIE_HI, .ro, 0x0⟩]⟩,
  ⟨0x408, [], [⟨F.AON_HM_LOT.LOT, .ro, 0x0⟩]⟩,
  ⟨0x40c, [], [⟨F.AON_HM_POS.WAFER, .ro, 0x0⟩, ⟨F.AON_HM_POS.DIE_X, .ro, 0x0⟩, ⟨F.AON_HM_POS.DIE_Y, .ro, 0x0⟩]⟩,
  ⟨0x410, [], [⟨F.AON_HM_TEST.YEAR_WEEK, .ro, 0x0⟩, ⟨F.AON_HM_TEST.SITE, .ro, 0x0⟩, ⟨F.AON_HM_TEST.FORMAT, .ro, 0x3⟩]⟩,
  ⟨0x420, [(9, 0x8)], [⟨F.AON_HM_LAT_RX.LAT, .ro, 0x0⟩]⟩,
  ⟨0x424, [(9, 0x8)], [⟨F.AON_HM_LAT_TX.LAT, .ro, 0x0⟩]⟩,
  ⟨0x480, [(18, 0x4)], [⟨F.AON_HM_STROBE.RES, .ro, 0x0⟩]⟩,
  ⟨0x4e0, [(2, 0x8), (2, 0x4)], [⟨F.AON_HM_TI_PATH.PATH, .ro, 0x0⟩]⟩,
  ⟨0x4f0, [(2, 0x8), (2, 0x4)], [⟨F.AON_HM_PON_CAP.LAT, .ro, 0x0⟩]⟩,
  ⟨0x500, [(63, 0x4)], [⟨F.AON_HM_TRIM.TRIM, .ro, 0x0⟩]⟩,
  ⟨0x5fc, [], [⟨F.AON_HM_CRC.CRC, .ro, 0x0⟩]⟩,
  ⟨0x40, [], [⟨F.AON_LIFECYCLE.STATE, .ro, 0x0⟩, ⟨F.AON_LIFECYCLE.RMA_AUTH, .ro, 0x0⟩, ⟨F.AON_LIFECYCLE.RMA_RUN, .ro, 0x0⟩, ⟨F.AON_LIFECYCLE.DEBUG, .ro, 0x0⟩, ⟨F.AON_LIFECYCLE.FLOOR_USED, .ro, 0x0⟩]⟩,
  ⟨0x44, [], [⟨F.AON_OWNER.DBG_REVOKED, .ro, 0x0⟩, ⟨F.AON_OWNER.DBG_PROV, .ro, 0x0⟩, ⟨F.AON_OWNER.REVOKED, .ro, 0x0⟩, ⟨F.AON_OWNER.PROV, .ro, 0x0⟩]⟩,
  ⟨0x48, [], [⟨F.AON_OWN_CMD.KEY, .wo, 0x0⟩, ⟨F.AON_OWN_CMD.BUSY, .ro, 0x0⟩, ⟨F.AON_OWN_CMD.CAUSE, .ro, 0x0⟩, ⟨F.AON_OWN_CMD.TARGET, .wo, 0x0⟩]⟩,
  ⟨0x50, [(12, 0x4)], [⟨F.AON_OWN_HASH.HASH, .rw, 0x0⟩]⟩,
  ⟨0x100, [], [⟨F.AON_PWR_CTRL.KEY, .wo, 0x0⟩, ⟨F.AON_PWR_CTRL.GO, .wo, 0x0⟩, ⟨F.AON_PWR_CTRL.TARGET, .rw, 0x0⟩]⟩,
  ⟨0x104, [], [⟨F.AON_PWR_STAT.STATE, .ro, 0x0⟩, ⟨F.AON_PWR_STAT.PHASE, .ro, 0x0⟩, ⟨F.AON_PWR_STAT.REFUSED, .w1c, 0x0⟩, ⟨F.AON_PWR_STAT.CAUSE, .ro, 0x0⟩, ⟨F.AON_PWR_STAT.ISL, .ro, 0xff⟩]⟩,
  ⟨0x108, [], [⟨F.AON_PWR_CFG.DELAY_MAX, .rw, 0x3e8⟩]⟩,
  ⟨0x10c, [], [⟨F.AON_WAKE_EN.EN, .rw, 0x0⟩]⟩,
  ⟨0x110, [], [⟨F.AON_WAKE_TYPE.EDGE, .rw, 0x0⟩]⟩,
  ⟨0x114, [], [⟨F.AON_WAKE_STAT.CAUSE, .w1c, 0x0⟩]⟩,
  ⟨0x118, [], [⟨F.AON_WAKE_TIMER.MS, .rw, 0x0⟩]⟩,
  ⟨0x11c, [], [⟨F.AON_CLK_CTRL.SWITCH, .w1s, 0x0⟩, ⟨F.AON_CLK_CTRL.ON_FAST, .ro, 0x0⟩, ⟨F.AON_CLK_CTRL.PLL_READY, .ro, 0x0⟩]⟩,
  ⟨0x120, [], [⟨F.AON_ISL_CMD.BUSY, .ro, 0x0⟩, ⟨F.AON_ISL_CMD.REFUSED, .ro, 0x0⟩, ⟨F.AON_ISL_CMD.CAUSE, .ro, 0x0⟩, ⟨F.AON_ISL_CMD.OP, .rw, 0x0⟩, ⟨F.AON_ISL_CMD.ISL, .rw, 0x0⟩]⟩,
  ⟨0x124, [(2, 0x4)], [⟨F.AON_ISL_OUT.OUT, .ro, 0x0⟩]⟩,
  ⟨0x12c, [(2, 0x4)], [⟨F.AON_ISL_DARK.DARK, .ro, 0x0⟩]⟩,
  ⟨0x134, [(2, 0x4)], [⟨F.AON_PWR_TRIM.TRIM, .rw, 0x0⟩]⟩,
  ⟨0x170, [], [⟨F.AON_FAULT_CFG.WIN, .rw, 0x3e8⟩]⟩,
  ⟨0x174, [], [⟨F.AON_FAULT_LAST.ISL, .ro, 0xff⟩, ⟨F.AON_FAULT_LAST.CAUSE, .ro, 0x0⟩, ⟨F.AON_FAULT_LAST.DISCARDED, .ro, 0x0⟩]⟩]

/-- Registers of the always-on island, part 1. -/
def regsAON1 : List RegSpec := [
  ⟨0x140, [], [⟨F.AON_DVFS_V.VOLT, .rw, 0x2ee⟩]⟩,
  ⟨0x144, [], [⟨F.AON_DVFS_F.FREQ, .rw, 0x0⟩]⟩,
  ⟨0x148, [], [⟨F.AON_DVFS_STAT.DVFS_ORDER, .w1c, 0x0⟩, ⟨F.AON_DVFS_STAT.V_BUSY, .ro, 0x0⟩, ⟨F.AON_DVFS_STAT.F_BUSY, .ro, 0x0⟩, ⟨F.AON_DVFS_STAT.VOLT, .ro, 0x2ee⟩, ⟨F.AON_DVFS_STAT.FREQ, .ro, 0x0⟩]⟩,
  ⟨0x14c, [], [⟨F.AON_DVFS_CFG.SETTLE, .rw, 0x64⟩]⟩,
  ⟨0x160, [], [⟨F.AON_SAG_STAT.SAG, .ro, 0x0⟩, ⟨F.AON_SAG_STAT.SRC_PIN, .ro, 0x0⟩, ⟨F.AON_SAG_STAT.SRC_3V3, .ro, 0x0⟩, ⟨F.AON_SAG_STAT.GASP_WRITTEN, .ro, 0x0⟩, ⟨F.AON_SAG_STAT.MV_3V3, .ro, 0x0⟩]⟩,
  ⟨0x164, [], [⟨F.AON_TEMP.VALID, .ro, 0x0⟩, ⟨F.AON_TEMP.PEAK, .ro, 0x0⟩, ⟨F.AON_TEMP.TEMP, .ro, 0x0⟩]⟩,
  ⟨0x168, [], [⟨F.AON_TEMP_CFG.ALERT, .rw, 0x1a4⟩]⟩]

/-- Registers of the always-on island. -/
def regsAON : List RegSpec := regsAON0 ++ regsAON1

/-- Registers of the every island. -/
def regsISL : List RegSpec := [
  ⟨0xffc, [], [⟨F.ISL_HDR.ID, .ro, 0x0⟩, ⟨F.ISL_HDR.INST, .ro, 0x0⟩, ⟨F.ISL_HDR.REV, .ro, 0xb0⟩]⟩]

/-- Registers of the pipelines. -/
def regsK : List RegSpec := [
  ⟨0x40, [], [⟨F.KP_ARB_CFG.HOST_STARVE, .rw, 0x64⟩, ⟨F.KP_ARB_CFG.RECIRC_AGE, .rwl, 0x40⟩, ⟨F.KP_ARB_CFG.RECIRC_PCT, .rwl, 0xa⟩]⟩,
  ⟨0x44, [], [⟨F.KP_ARB_STAT.HOST_STARVED, .w1c, 0x0⟩, ⟨F.KP_ARB_STAT.CAP_HIT, .w1c, 0x0⟩, ⟨F.KP_ARB_STAT.RATE_SHORT, .w1c, 0x0⟩, ⟨F.KP_ARB_STAT.CREDIT, .ro, 0x640⟩]⟩,
  ⟨0x100, [], [⟨F.KP_PARSE_CFG.LEN_ERR_ACT, .rwl, 0x0⟩]⟩,
  ⟨0x110, [], [⟨F.KP_PG_CMD.BUSY, .ro, 0x0⟩, ⟨F.KP_PG_CMD.OP, .rw, 0x0⟩, ⟨F.KP_PG_CMD.BANK, .rw, 0x0⟩, ⟨F.KP_PG_CMD.NODE, .rw, 0x0⟩]⟩,
  ⟨0x120, [(12, 0x4)], [⟨F.KP_PG_DATA.WORD, .rw, 0x0⟩]⟩,
  ⟨0x200, [(2, 0x80), (12, 0x8)], [⟨F.KP_STAGE_CFG.EN, .rw, 0x0⟩, ⟨F.KP_STAGE_CFG.PASS_MASK, .rw, 0x7⟩, ⟨F.KP_STAGE_CFG.TABLE, .rw, 0x0⟩, ⟨F.KP_STAGE_CFG.SEL, .rw, 0x0⟩, ⟨F.KP_STAGE_CFG.USER_SLOT, .rw, 0x0⟩, ⟨F.KP_STAGE_CFG.COND_EN, .rw, 0x0⟩, ⟨F.KP_STAGE_CFG.COND_POL, .rw, 0x0⟩, ⟨F.KP_STAGE_CFG.COND_BIT, .rw, 0x0⟩]⟩,
  ⟨0x204, [(2, 0x80), (12, 0x8)], [⟨F.KP_STAGE_MISS.MISS_ACT, .rw, 0x0⟩]⟩,
  ⟨0x300, [], [⟨F.KP_STAGE_STAT.WR_REFUSED, .w1c, 0x0⟩, ⟨F.KP_STAGE_STAT.BAD, .ro, 0x0⟩]⟩,
  ⟨0x400, [(2, 0x200), (16, 0x20), (8, 0x4)], [⟨F.KP_KEYPROF.FRAG, .rw, 0x0⟩]⟩,
  ⟨0x180, [], [⟨F.KP_ACT_CFG.TPID, .rwl, 0x9100⟩, ⟨F.KP_ACT_CFG.MPLS_TTL, .rwl, 0x40⟩]⟩,
  ⟨0x184, [(3, 0x4)], [⟨F.KP_ACT_LFIX.LEN0_OFF, .rwl, 0x0⟩, ⟨F.KP_ACT_LFIX.FROM0, .rwl, 0x0⟩, ⟨F.KP_ACT_LFIX.LEN1_OFF, .rwl, 0x0⟩, ⟨F.KP_ACT_LFIX.FROM1, .rwl, 0x0⟩, ⟨F.KP_ACT_LFIX.CS_EN, .rwl, 0x0⟩, ⟨F.KP_ACT_LFIX.LEN1_EN, .rwl, 0x0⟩, ⟨F.KP_ACT_LFIX.LEN0_EN, .rwl, 0x0⟩]⟩]

/-- Registers of the PON islands, part 0. -/
def regsPN0 : List RegSpec := [
  ⟨0x0, [], [⟨F.PN_RX_CTRL.LOS_POL, .rwl, 0x0⟩, ⟨F.PN_RX_CTRL.MODE, .rw, 0x0⟩, ⟨F.PN_RX_CTRL.ENABLE, .rw, 0x1⟩]⟩,
  ⟨0x4, [], [⟨F.PN_RX_EQ.ADAPT, .rw, 0x1⟩, ⟨F.PN_RX_EQ.CTLE, .rw, 0x8⟩, ⟨F.PN_RX_EQ.DFE_TAPS, .rw, 0x5⟩]⟩,
  ⟨0x8, [], [⟨F.PN_RX_STAT.LOS, .ro, 0x1⟩, ⟨F.PN_RX_STAT.CDR_LOCK, .ro, 0x0⟩, ⟨F.PN_RX_STAT.STATE, .ro, 0x0⟩, ⟨F.PN_RX_STAT.CANDS, .ro, 0x0⟩, ⟨F.PN_RX_STAT.SD, .ro, 0x0⟩, ⟨F.PN_RX_STAT.SF, .ro, 0x0⟩, ⟨F.PN_RX_STAT.EYE_H, .ro, 0x0⟩, ⟨F.PN_RX_STAT.EYE_W, .ro, 0x0⟩]⟩,
  ⟨0x10, [], [⟨F.PN_ALIGN_CFG.M, .rw, 0x3⟩, ⟨F.PN_ALIGN_CFG.N, .rw, 0x2⟩, ⟨F.PN_ALIGN_CFG.TOL, .rw, 0x2⟩]⟩,
  ⟨0x20, [], [⟨F.PN_FEC_CFG.BER_WIN, .rw, 0x1f40⟩, ⟨F.PN_FEC_CFG.MAX_ITER, .rw, 0xc⟩]⟩,
  ⟨0x24, [], [⟨F.PN_FEC_SD_THR.THR, .rw, 0xed4e000⟩]⟩,
  ⟨0x28, [], [⟨F.PN_FEC_SF_THR.THR, .rw, 0x1da9c000⟩]⟩,
  ⟨0x2c, [], [⟨F.PN_FEC_WIN.BITS, .ro, 0x0⟩]⟩,
  ⟨0x30, [], [⟨F.PN_XGEM_CFG.MAX_SDU, .rwl, 0x2400⟩, ⟨F.PN_XGEM_CFG.REASM_TO, .rw, 0x4⟩]⟩,
  ⟨0x34, [], [⟨F.PN_KEY_UC.UC2, .rw, 0x0⟩, ⟨F.PN_KEY_UC.UC1, .rw, 0x0⟩]⟩,
  ⟨0x38, [], [⟨F.PN_OMCC.VALID, .ro, 0x0⟩, ⟨F.PN_OMCC.PORT_ID, .ro, 0x0⟩]⟩,
  ⟨0x40, [], [⟨F.PN_PID_CMD.BUSY, .ro, 0x0⟩, ⟨F.PN_PID_CMD.DUP, .ro, 0x0⟩, ⟨F.PN_PID_CMD.OP, .rw, 0x0⟩, ⟨F.PN_PID_CMD.INDEX, .rw, 0x0⟩]⟩,
  ⟨0x50, [], [⟨F.PN_OSP_CFG.PLOAM_COPY, .rw, 0x0⟩, ⟨F.PN_OSP_CFG.OMCI_OSP, .rwl, 0x0⟩, ⟨F.PN_OSP_CFG.ENABLE, .rwl, 0x1⟩]⟩,
  ⟨0x60, [], [⟨F.PN_TOD_CTRL.ARM, .w1s, 0x0⟩, ⟨F.PN_TOD_CTRL.MISS, .ro, 0x0⟩, ⟨F.PN_TOD_CTRL.SFC_HI, .rw, 0x0⟩]⟩,
  ⟨0x64, [], [⟨F.PN_TOD_SFC_LO.SFC_LO, .rw, 0x0⟩]⟩,
  ⟨0x68, [], [⟨F.PN_TOD_CAP0.SEC_LO, .ro, 0x0⟩]⟩,
  ⟨0x6c, [], [⟨F.PN_TOD_CAP1.SEC_HI, .ro, 0x0⟩]⟩,
  ⟨0x70, [], [⟨F.PN_TOD_CAP2.NS, .ro, 0x0⟩]⟩,
  ⟨0x74, [], [⟨F.PN_TOD_CAP3.VALID, .ro, 0x0⟩, ⟨F.PN_TOD_CAP3.SEEN, .ro, 0x0⟩, ⟨F.PN_TOD_CAP3.FRAC, .ro, 0x0⟩]⟩,
  ⟨0x78, [], [⟨F.PN_SFC_CUR_LO.SFC, .ro, 0x0⟩]⟩,
  ⟨0x7c, [], [⟨F.PN_SFC_CUR_HI.SFC, .ro, 0x0⟩]⟩,
  ⟨0x44, [], [⟨F.PN_PID_DATA0.VALID, .rw, 0x0⟩, ⟨F.PN_PID_DATA0.TYPE, .rw, 0x0⟩, ⟨F.PN_PID_DATA0.SF, .rw, 0x0⟩, ⟨F.PN_PID_DATA0.PORT_ID, .rw, 0x0⟩]⟩,
  ⟨0x48, [], [⟨F.PN_PID_DATA1.KSEL, .rw, 0x0⟩, ⟨F.PN_PID_DATA1.KSLOT2, .rw, 0x0⟩, ⟨F.PN_PID_DATA1.KSLOT1, .rw, 0x0⟩]⟩,
  ⟨0x100, [], [⟨F.PN_US_CTRL.RDI_FORCE, .rw, 0x0⟩, ⟨F.PN_US_CTRL.RDI_AUTO, .rw, 0x1⟩, ⟨F.PN_US_CTRL.ROGUE_CLR, .w1s, 0x0⟩, ⟨F.PN_US_CTRL.OSP_PLOAM, .rwl, 0x0⟩, ⟨F.PN_US_CTRL.RATE_MAX, .rwl, 0x2⟩]⟩,
  ⟨0x104, [], [⟨F.PN_US_STAT.ACT, .ro, 0x0⟩, ⟨F.PN_US_STAT.PS, .ro, 0x0⟩, ⟨F.PN_US_STAT.TX_ON, .ro, 0x0⟩, ⟨F.PN_US_STAT.ROGUE, .ro, 0x0⟩, ⟨F.PN_US_STAT.GASP, .ro, 0x0⟩, ⟨F.PN_US_STAT.RDI, .ro, 0x0⟩, ⟨F.PN_US_STAT.INH, .ro, 0x0⟩, ⟨F.PN_US_STAT.ONU_ID, .ro, 0x3ff⟩]⟩,
  ⟨0x108, [], [⟨F.PN_ACT_CFG.TO1, .rw, 0x2710⟩, ⟨F.PN_ACT_CFG.TO2, .rw, 0x64⟩, ⟨F.PN_ACT_CFG.RAND_MAX, .rw, 0x6⟩]⟩,
  ⟨0x10c, [], [⟨F.PN_ACT_CTRL.TX_OFF, .rw, 0x0⟩, ⟨F.PN_ACT_CTRL.RESTART, .w1s, 0x0⟩]⟩,
  ⟨0x110, [], [⟨F.PN_SN_HI.VENDOR, .rwl, 0x454d5244⟩]⟩,
  ⟨0x114, [], [⟨F.PN_SN_LO.SPECIFIC, .rwl, 0x0⟩]⟩,
  ⟨0x120, [(9, 0x4)], [⟨F.PN_REG_ID.REG_ID, .wo, 0x0⟩]⟩,
  ⟨0x150, [], [⟨F.PN_EQD.VALID, .ro, 0x0⟩, ⟨F.PN_EQD.EQD, .ro, 0x0⟩]⟩,
  ⟨0x154, [], [⟨F.PN_EQD_CFG.UNIT_XGS, .rwl, 0x5⟩, ⟨F.PN_EQD_CFG.UNIT_50G, .rwl, 0x1⟩]⟩,
  ⟨0x158, [], [⟨F.PN_TI_CAL.PATH, .ro, 0x0⟩]⟩,
  ⟨0x160, [], [⟨F.PN_BEN_CFG.POL, .rwl, 0x0⟩, ⟨F.PN_BEN_CFG.LEAD, .rw, 0xc8⟩, ⟨F.PN_BEN_CFG.MIN_OFF, .rw, 0x8⟩, ⟨F.PN_BEN_CFG.LAG, .rw, 0x64⟩]⟩,
  ⟨0x168, [], [⟨F.PN_ROGUE_CFG.ENABLE, .rwl, 0x1⟩, ⟨F.PN_ROGUE_CFG.MISS, .rw, 0x64⟩, ⟨F.PN_ROGUE_CFG.WIN, .rw, 0x64⟩]⟩,
  ⟨0x170, [], [⟨F.PN_PS_CFG.ENABLE, .rwl, 0x0⟩, ⟨F.PN_PS_CFG.THOLD, .rw, 0x3e8⟩, ⟨F.PN_PS_CFG.TAWARE, .rw, 0xa⟩, ⟨F.PN_PS_CFG.ILOWPOWER, .rw, 0x64⟩]⟩,
  ⟨0x174, [], [⟨F.PN_PS_CTRL.LWI_KIB, .rw, 0x40⟩, ⟨F.PN_PS_CTRL.AWAKE, .rw, 0x0⟩]⟩,
  ⟨0x178, [], [⟨F.PN_KEY_CFG.KEK_SLOT, .rwl, 0x2⟩, ⟨F.PN_KEY_CFG.SLOT_BASE, .rwl, 0x0⟩]⟩,
  ⟨0x180, [], [⟨F.PN_ALLOC_CMD.BUSY, .ro, 0x0⟩, ⟨F.PN_ALLOC_CMD.OP, .rw, 0x0⟩, ⟨F.PN_ALLOC_CMD.INDEX, .rw, 0x0⟩]⟩,
  ⟨0x184, [], [⟨F.PN_ALLOC_DATA.VALID, .ro, 0x0⟩, ⟨F.PN_ALLOC_DATA.ORIGIN, .ro, 0x0⟩, ⟨F.PN_ALLOC_DATA.ALLOC_ID, .ro, 0x0⟩]⟩]

/-- Registers of the PON islands, part 1. -/
def regsPN1 : List RegSpec := [
  ⟨0x190, [(4, 0x4)], [⟨F.PN_PROFILE.VALID, .ro, 0x0⟩, ⟨F.PN_PROFILE.RATE, .ro, 0x0⟩, ⟨F.PN_PROFILE.FEC, .ro, 0x0⟩, ⟨F.PN_PROFILE.PREAMBLE, .ro, 0x0⟩, ⟨F.PN_PROFILE.DELIM, .ro, 0x0⟩]⟩,
  ⟨0x1a0, [], [⟨F.PN_SVC_CTRL.STATE, .ro, 0x2⟩, ⟨F.PN_SVC_CTRL.REFUSED, .ro, 0x0⟩, ⟨F.PN_SVC_CTRL.DRAIN_TO, .rw, 0x2⟩, ⟨F.PN_SVC_CTRL.STRIPE_EX, .ro, 0x1⟩, ⟨F.PN_SVC_CTRL.FORCE, .rw, 0x0⟩, ⟨F.PN_SVC_CTRL.WANT, .rw, 0x1⟩]⟩,
  ⟨0x600, [], [⟨F.PN_PRBS_CTRL.GEN_EN, .rw, 0x0⟩, ⟨F.PN_PRBS_CTRL.CHK_EN, .rw, 0x0⟩, ⟨F.PN_PRBS_CTRL.INV, .rw, 0x0⟩, ⟨F.PN_PRBS_CTRL.INJ_ONE, .w1s, 0x0⟩, ⟨F.PN_PRBS_CTRL.CLR, .w1s, 0x0⟩, ⟨F.PN_PRBS_CTRL.POLY, .rw, 0x0⟩, ⟨F.PN_PRBS_CTRL.INJ_RATE, .rw, 0x0⟩, ⟨F.PN_PRBS_CTRL.BEN_ON, .rw, 0x0⟩]⟩,
  ⟨0x604, [], [⟨F.PN_PRBS_STAT.LOCK, .ro, 0x0⟩]⟩,
  ⟨0x608, [], [⟨F.PN_PRBS_ERR.ERRORS, .rc, 0x0⟩]⟩]

/-- Registers of the PON islands. -/
def regsPN : List RegSpec := regsPN0 ++ regsPN1

/-- Registers of the Teller. -/
def regsTLR : List RegSpec := [
  ⟨0x800, [], [⟨F.TLR_STRIPE_CFG.WIN, .rw, 0x100⟩, ⟨F.TLR_STRIPE_CFG.TIMEOUT, .rw, 0xfa⟩]⟩,
  ⟨0x804, [], [⟨F.TLR_STRIPE_POOL.POOL, .rwl, 0x1000⟩]⟩,
  ⟨0x810, [], [⟨F.TLR_STRIPE_STAT.NO_CTX, .w1c, 0x0⟩, ⟨F.TLR_STRIPE_STAT.POOL_FULL, .w1c, 0x0⟩, ⟨F.TLR_STRIPE_STAT.DUP, .ro, 0x0⟩, ⟨F.TLR_STRIPE_STAT.IN_USE, .ro, 0x0⟩]⟩,
  ⟨0x808, [], [⟨F.TLR_STRIPE_CMD.BUSY, .ro, 0x0⟩, ⟨F.TLR_STRIPE_CMD.OP, .rw, 0x0⟩, ⟨F.TLR_STRIPE_CMD.INDEX, .rw, 0x0⟩]⟩,
  ⟨0x80c, [], [⟨F.TLR_STRIPE_DATA.VALID, .rw, 0x0⟩, ⟨F.TLR_STRIPE_DATA.INIT, .ro, 0x0⟩, ⟨F.TLR_STRIPE_DATA.SF, .rw, 0x0⟩, ⟨F.TLR_STRIPE_DATA.NEXT, .ro, 0x0⟩]⟩,
  ⟨0x0, [], [⟨F.TLR_CFG.WAIT_TO, .rw, 0x3e8⟩, ⟨F.TLR_CFG.SW_TO, .rw, 0x64⟩, ⟨F.TLR_CFG.SW_CONS, .rwl, 0x0⟩]⟩,
  ⟨0x4, [], [⟨F.TLR_CANCEL.GO, .w1s, 0x0⟩, ⟨F.TLR_CANCEL.BUSY, .ro, 0x0⟩, ⟨F.TLR_CANCEL.CAUSE, .ro, 0x0⟩, ⟨F.TLR_CANCEL.MODE, .rw, 0x0⟩, ⟨F.TLR_CANCEL.TARGET, .rw, 0x0⟩]⟩,
  ⟨0x10, [], [⟨F.TLR_TAKE.TAKE, .w1s, 0x0⟩, ⟨F.TLR_TAKE.ARMED, .ro, 0x0⟩]⟩,
  ⟨0x14, [], [⟨F.TLR_TAKE_STAT.VALID, .ro, 0x0⟩, ⟨F.TLR_TAKE_STAT.SEEN, .ro, 0x0⟩]⟩,
  ⟨0x18, [(4, 0x4)], [⟨F.TLR_TAKE_RES.WORD, .ro, 0x0⟩]⟩,
  ⟨0x28, [], [⟨F.TLR_DONE.GO, .w1s, 0x0⟩, ⟨F.TLR_DONE.VERDICT, .rw, 0x0⟩, ⟨F.TLR_DONE.ID, .rw, 0x0⟩]⟩,
  ⟨0x2c, [], [⟨F.TLR_DONE_DEST.DEST, .rw, 0x0⟩]⟩,
  ⟨0x30, [], [⟨F.TLR_STAT.CLR_IN_USE, .ro, 0x0⟩, ⟨F.TLR_STAT.ALLOCATED, .ro, 0x0⟩]⟩,
  ⟨0x100, [(16, 0x4)], [⟨F.TLR_LEVEL.THR, .rw, 0x2000⟩, ⟨F.TLR_LEVEL.DEPTH, .ro, 0x0⟩]⟩]

/-- Registers of the tenant quads. -/
def regsTQ : List RegSpec := [
  ⟨0x0, [(4, 0x1000)], [⟨F.TQ_LANE_CFG.RCLK_EN, .rw, 0x0⟩, ⟨F.TQ_LANE_CFG.LOOP, .rw, 0x0⟩, ⟨F.TQ_LANE_CFG.TX_INV, .rwl, 0x0⟩, ⟨F.TQ_LANE_CFG.RX_INV, .rwl, 0x0⟩, ⟨F.TQ_LANE_CFG.FEC, .rwl, 0x0⟩, ⟨F.TQ_LANE_CFG.PLL_SEL, .rwl, 0x0⟩, ⟨F.TQ_LANE_CFG.MODE, .rwl, 0x0⟩]⟩,
  ⟨0x4, [(4, 0x1000)], [⟨F.TQ_LANE_STAT.CDR_LOCK, .ro, 0x0⟩, ⟨F.TQ_LANE_STAT.SYNC, .ro, 0x0⟩, ⟨F.TQ_LANE_STAT.HI_BER, .ro, 0x0⟩, ⟨F.TQ_LANE_STAT.FEC_LOCK, .ro, 0x0⟩, ⟨F.TQ_LANE_STAT.AN_DONE, .ro, 0x0⟩, ⟨F.TQ_LANE_STAT.LINK, .ro, 0x0⟩, ⟨F.TQ_LANE_STAT.CAL_FAIL, .ro, 0x0⟩, ⟨F.TQ_LANE_STAT.CFG_ERR, .ro, 0x0⟩, ⟨F.TQ_LANE_STAT.SPEED, .ro, 0x3⟩, ⟨F.TQ_LANE_STAT.HALF, .ro, 0x0⟩]⟩,
  ⟨0x10, [(4, 0x1000)], [⟨F.TQ_MAC_CTRL.FC_MODE, .rwl, 0x0⟩, ⟨F.TQ_MAC_CTRL.AN_EN, .rwl, 0x1⟩, ⟨F.TQ_MAC_CTRL.SPEED, .rw, 0x2⟩, ⟨F.TQ_MAC_CTRL.HALF, .rw, 0x0⟩, ⟨F.TQ_MAC_CTRL.LINKDOWN_HOLD, .rw, 0x0⟩]⟩,
  ⟨0x14, [(4, 0x1000)], [⟨F.TQ_MAC_CFG.MAX_FRAME, .rwl, 0x2400⟩]⟩,
  ⟨0x18, [(4, 0x1000)], [⟨F.TQ_MAC_SA_LO.SA_LO, .rwl, 0x0⟩]⟩,
  ⟨0x1c, [(4, 0x1000)], [⟨F.TQ_MAC_SA_HI.SA_HI, .rwl, 0x0⟩]⟩,
  ⟨0x20, [(4, 0x1000)], [⟨F.TQ_PORT_CFG.BCAST_PASS, .rwl, 0x1⟩, ⟨F.TQ_PORT_CFG.FILT_MODE, .rwl, 0x0⟩, ⟨F.TQ_PORT_CFG.RADIO, .rwl, 0x0⟩]⟩,
  ⟨0x24, [(4, 0x1000)], [⟨F.TQ_PORT_SVC.STATE, .ro, 0x1⟩, ⟨F.TQ_PORT_SVC.WANT, .rw, 0x1⟩]⟩,
  ⟨0x40, [(4, 0x1000), (8, 0x4)], [⟨F.TQ_FILT_HASH.BINS, .rw, 0xffffffff⟩]⟩,
  ⟨0x60, [(4, 0x1000)], [⟨F.TQ_WAKE_STAT.MATCH, .w1c, 0x0⟩]⟩,
  ⟨0x70, [(4, 0x1000)], [⟨F.TQ_PFC_CFG.QUANTA, .rw, 0xffff⟩, ⟨F.TQ_PFC_CFG.REFRESH, .rw, 0x7fff⟩]⟩,
  ⟨0x74, [(4, 0x1000)], [⟨F.TQ_WDOG_CFG.LIMIT, .rw, 0xc8⟩, ⟨F.TQ_WDOG_CFG.HOLDOFF, .rw, 0x64⟩]⟩,
  ⟨0x78, [(4, 0x1000)], [⟨F.TQ_WDOG_STAT.PAUSED, .ro, 0x0⟩, ⟨F.TQ_WDOG_STAT.BROKEN, .ro, 0x0⟩]⟩,
  ⟨0x80, [(4, 0x1000)], [⟨F.TQ_CSUM_CFG.TX_EN, .rwl, 0x1⟩, ⟨F.TQ_CSUM_CFG.RX_EN, .rwl, 0x1⟩]⟩,
  ⟨0x90, [(4, 0x1000)], [⟨F.TQ_PRBS_CTRL.GEN_EN, .rw, 0x0⟩, ⟨F.TQ_PRBS_CTRL.CHK_EN, .rw, 0x0⟩, ⟨F.TQ_PRBS_CTRL.INV, .rw, 0x0⟩, ⟨F.TQ_PRBS_CTRL.INJ_ONE, .w1s, 0x0⟩, ⟨F.TQ_PRBS_CTRL.CLR, .w1s, 0x0⟩, ⟨F.TQ_PRBS_CTRL.POLY, .rw, 0x0⟩, ⟨F.TQ_PRBS_CTRL.INJ_RATE, .rw, 0x0⟩, ⟨F.TQ_PRBS_CTRL.BEN_ON, .rw, 0x0⟩]⟩,
  ⟨0x94, [(4, 0x1000)], [⟨F.TQ_PRBS_STAT.LOCK, .ro, 0x0⟩]⟩,
  ⟨0x98, [(4, 0x1000)], [⟨F.TQ_PRBS_ERR.ERRORS, .rc, 0x0⟩]⟩,
  ⟨0x100, [(4, 0x1000), (8, 0x20), (4, 0x4)], [⟨F.TQ_WAKE_MASK.MASK, .rw, 0x0⟩]⟩,
  ⟨0x110, [(4, 0x1000), (8, 0x20)], [⟨F.TQ_WAKE_CRC.EN, .rw, 0x0⟩, ⟨F.TQ_WAKE_CRC.CRC, .rw, 0x0⟩]⟩,
  ⟨0x8000, [], [⟨F.TQ_QUAD_PLL.PLL1_LOCK, .ro, 0x0⟩, ⟨F.TQ_QUAD_PLL.PLL0_LOCK, .ro, 0x0⟩, ⟨F.TQ_QUAD_PLL.REF_SEL, .rwl, 0x0⟩, ⟨F.TQ_QUAD_PLL.PLL1_SET, .rwl, 0x3⟩, ⟨F.TQ_QUAD_PLL.PLL0_SET, .rwl, 0x1⟩]⟩,
  ⟨0x8004, [], [⟨F.TQ_QUAD_STAT.ALL_OUT, .ro, 0x1⟩, ⟨F.TQ_QUAD_STAT.OUT, .ro, 0xf⟩]⟩,
  ⟨0x200, [(4, 0x1000)], [⟨F.TQ_PTP_CFG.RX_EN, .rw, 0x1⟩, ⟨F.TQ_PTP_CFG.TX_EN, .rw, 0x1⟩, ⟨F.TQ_PTP_CFG.L2, .rw, 0x1⟩, ⟨F.TQ_PTP_CFG.UDP4, .rw, 0x0⟩, ⟨F.TQ_PTP_CFG.UDP6, .rw, 0x0⟩, ⟨F.TQ_PTP_CFG.ONE_STEP, .rw, 0x0⟩, ⟨F.TQ_PTP_CFG.TC, .rw, 0x0⟩]⟩,
  ⟨0x204, [(4, 0x1000)], [⟨F.TQ_TS_TRIM_RX.TRIM, .rw, 0x0⟩]⟩,
  ⟨0x208, [(4, 0x1000)], [⟨F.TQ_TS_TRIM_TX.TRIM, .rw, 0x0⟩]⟩,
  ⟨0x20c, [(4, 0x1000)], [⟨F.TQ_PEER_DLY.DLY, .rw, 0x0⟩]⟩,
  ⟨0x210, [(4, 0x1000), (4, 0x4)], [⟨F.TQ_TS_HEAD.WORD, .ro, 0x0⟩]⟩,
  ⟨0x220, [(4, 0x1000)], [⟨F.TQ_TS_CTRL.POP, .w1s, 0x0⟩, ⟨F.TQ_TS_CTRL.FLUSH, .w1s, 0x0⟩, ⟨F.TQ_TS_CTRL.COUNT, .ro, 0x0⟩]⟩,
  ⟨0x224, [(4, 0x1000)], [⟨F.TQ_TS_LAT_RX.LAT, .ro, 0x0⟩]⟩,
  ⟨0x228, [(4, 0x1000)], [⟨F.TQ_TS_LAT_TX.LAT, .ro, 0x0⟩]⟩,
  ⟨0x22c, [(4, 0x1000)], [⟨F.TQ_PTP_LEAD.LEAD, .rw, 0x190⟩]⟩,
  ⟨0x300, [(4, 0x1000)], [⟨F.TQ_SEC_CFG.EN, .rw, 0x0⟩, ⟨F.TQ_SEC_CFG.PROTECT, .rw, 0x1⟩, ⟨F.TQ_SEC_CFG.INCLUDE_SCI, .rw, 0x1⟩, ⟨F.TQ_SEC_CFG.USE_ES, .rw, 0x0⟩, ⟨F.TQ_SEC_CFG.USE_SCB, .rw, 0x0⟩, ⟨F.TQ_SEC_CFG.VALIDATE, .rw, 0x2⟩, ⟨F.TQ_SEC_CFG.REPLAY, .rw, 0x1⟩, ⟨F.TQ_SEC_CFG.XPN, .rw, 0x1⟩, ⟨F.TQ_SEC_CFG.CONF_OFF, .rw, 0x0⟩, ⟨F.TQ_SEC_CFG.CONF, .rw, 0x1⟩, ⟨F.TQ_SEC_CFG.ENC_AN, .rw, 0x0⟩, ⟨F.TQ_SEC_CFG.PI, .rw, 0x1⟩]⟩,
  ⟨0x304, [(4, 0x1000)], [⟨F.TQ_SEC_REPLAY.WINDOW, .rw, 0x0⟩]⟩,
  ⟨0x310, [(4, 0x1000)], [⟨F.TQ_SEC_CMD.BUSY, .ro, 0x0⟩, ⟨F.TQ_SEC_CMD.CAUSE, .ro, 0x0⟩, ⟨F.TQ_SEC_CMD.SPACE, .rw, 0x0⟩, ⟨F.TQ_SEC_CMD.OP, .rw, 0x0⟩, ⟨F.TQ_SEC_CMD.INDEX, .rw, 0x0⟩]⟩,
  ⟨0x314, [(4, 0x1000), (7, 0x4)], [⟨F.TQ_SEC_DATA.WORD, .rw, 0x0⟩]⟩]

/-- Registers of the table store. -/
def regsTBL : List RegSpec := [
  ⟨0x0, [], [⟨F.TBL_EPOCH.SWAP, .w1s, 0x0⟩, ⟨F.TBL_EPOCH.SWAP_PENDING, .ro, 0x0⟩, ⟨F.TBL_EPOCH.DRAINING, .ro, 0x0⟩, ⟨F.TBL_EPOCH.LIVE, .ro, 0x0⟩, ⟨F.TBL_EPOCH.OLD_COUNT, .ro, 0x0⟩]⟩,
  ⟨0x4, [], [⟨F.TBL_EPOCH_CFG.STUCK, .rw, 0x3e8⟩]⟩,
  ⟨0x10, [], [⟨F.TBL_CMD.BUSY, .ro, 0x0⟩, ⟨F.TBL_CMD.CAUSE, .ro, 0x0⟩, ⟨F.TBL_CMD.OP, .rw, 0x0⟩, ⟨F.TBL_CMD.TABLE, .rw, 0x0⟩, ⟨F.TBL_CMD.INDEX, .rw, 0x0⟩]⟩,
  ⟨0x20, [(24, 0x4)], [⟨F.TBL_DATA.WORD, .rw, 0x0⟩]⟩,
  ⟨0x100, [], [⟨F.TBL_AGE_CFG.L2_PERIOD, .rw, 0x12c⟩, ⟨F.TBL_AGE_CFG.FLOW_PERIOD, .rw, 0x3c⟩]⟩,
  ⟨0x110, [(4, 0x4)], [⟨F.TBL_TCAM_PART.COUNT, .rwl, 0x0⟩, ⟨F.TBL_TCAM_PART.BASE, .rwl, 0x0⟩]⟩,
  ⟨0x180, [], [⟨F.TBL_BANK_CMD.BUSY, .ro, 0x0⟩, ⟨F.TBL_BANK_CMD.REFUSED, .ro, 0x0⟩, ⟨F.TBL_BANK_CMD.OP, .rw, 0x0⟩, ⟨F.TBL_BANK_CMD.BANK, .rw, 0x0⟩]⟩,
  ⟨0x190, [(8, 0x4)], [⟨F.TBL_BANK_STATE.STATE, .ro, 0x0⟩]⟩,
  ⟨0x200, [(50, 0x8)], [⟨F.TBL_LEARN_CFG.EN, .rw, 0x1⟩, ⟨F.TBL_LEARN_CFG.MOVE_EN, .rw, 0x1⟩, ⟨F.TBL_LEARN_CFG.LIMIT, .rw, 0x10000⟩]⟩,
  ⟨0x204, [(50, 0x8)], [⟨F.TBL_LEARN_CNT.COUNT, .ro, 0x0⟩]⟩,
  ⟨0x600, [], [⟨F.TBL_ACT_CMD.BUSY, .ro, 0x0⟩, ⟨F.TBL_ACT_CMD.CAUSE, .ro, 0x0⟩, ⟨F.TBL_ACT_CMD.SPACE, .rw, 0x0⟩, ⟨F.TBL_ACT_CMD.OP, .rw, 0x0⟩, ⟨F.TBL_ACT_CMD.INDEX, .rw, 0x0⟩]⟩,
  ⟨0x610, [(8, 0x4)], [⟨F.TBL_ACT_DATA.WORD, .rw, 0x0⟩]⟩,
  ⟨0x700, [(64, 0x4)], [⟨F.TBL_MIRROR.EN, .rw, 0x0⟩, ⟨F.TBL_MIRROR.Q_MODE, .rw, 0x0⟩, ⟨F.TBL_MIRROR.TRUNC, .rw, 0x0⟩, ⟨F.TBL_MIRROR.TARGET, .rw, 0x0⟩]⟩]

/-- Registers of the inspection. -/
def regsINS : List RegSpec := [
  ⟨0x0, [(32, 0x1000)], [⟨F.INS_ENG_SVC.STATE, .ro, 0x0⟩, ⟨F.INS_ENG_SVC.FAULT, .ro, 0x0⟩, ⟨F.INS_ENG_SVC.WANT, .rw, 0x1⟩]⟩,
  ⟨0x4, [(32, 0x1000)], [⟨F.INS_ENG_STAT.WAITING, .ro, 0x0⟩, ⟨F.INS_ENG_STAT.SCANNING, .ro, 0x0⟩, ⟨F.INS_ENG_STAT.ITEM, .ro, 0x0⟩, ⟨F.INS_ENG_STAT.LOAD, .ro, 0x0⟩]⟩,
  ⟨0x20000, [(2, 0x40), (16, 0x4)], [⟨F.INS_PSET_CFG.VALID, .rw, 0x0⟩, ⟨F.INS_PSET_CFG.COUNT, .ro, 0x0⟩, ⟨F.INS_PSET_CFG.DEPTH, .rw, 0x800⟩]⟩,
  ⟨0x20100, [], [⟨F.INS_PAT_CMD.BUSY, .ro, 0x0⟩, ⟨F.INS_PAT_CMD.CAUSE, .ro, 0x0⟩, ⟨F.INS_PAT_CMD.OP, .rw, 0x0⟩, ⟨F.INS_PAT_CMD.BANK, .rw, 0x0⟩, ⟨F.INS_PAT_CMD.INDEX, .rw, 0x0⟩]⟩,
  ⟨0x20110, [(35, 0x4)], [⟨F.INS_PAT_DATA.WORD, .rw, 0x0⟩]⟩]

/-- Registers of the traffic manager. -/
def regsTMG : List RegSpec := [
  ⟨0x4, [], [⟨F.TMG_TC_MAP.OFF, .rwl, 0xfac688⟩]⟩,
  ⟨0x10, [(4, 0x4)], [⟨F.TMG_POOL.LIMIT, .rwl, 0x18000⟩]⟩,
  ⟨0x20, [(4, 0x4)], [⟨F.TMG_POOL_OCC.OCC, .ro, 0x0⟩]⟩,
  ⟨0x30, [], [⟨F.TMG_BUF_STAT.FREE, .ro, 0x30000⟩]⟩,
  ⟨0x40, [], [⟨F.TMG_DEEP_CFG.US_PCT, .rwl, 0x32⟩]⟩,
  ⟨0x100, [], [⟨F.TMG_Q_CMD.BUSY, .ro, 0x0⟩, ⟨F.TMG_Q_CMD.SPACE, .rw, 0x0⟩, ⟨F.TMG_Q_CMD.OP, .rw, 0x0⟩, ⟨F.TMG_Q_CMD.INDEX, .rw, 0x0⟩]⟩,
  ⟨0x104, [(4, 0x4)], [⟨F.TMG_Q_DATA.WORD, .rw, 0x0⟩]⟩,
  ⟨0x200, [], [⟨F.TMG_PURSE_CMD.BUSY, .ro, 0x0⟩, ⟨F.TMG_PURSE_CMD.OP, .rw, 0x0⟩, ⟨F.TMG_PURSE_CMD.SPACE, .rw, 0x0⟩, ⟨F.TMG_PURSE_CMD.INDEX, .rw, 0x0⟩]⟩,
  ⟨0x204, [], [⟨F.TMG_PURSE_CFG.RATE, .rw, 0x0⟩]⟩,
  ⟨0x208, [], [⟨F.TMG_PURSE_BURST.BURST, .rw, 0x0⟩]⟩,
  ⟨0x20c, [], [⟨F.TMG_PURSE_MODE.AWARE, .rw, 0x0⟩, ⟨F.TMG_PURSE_MODE.MODE, .rw, 0x1⟩]⟩,
  ⟨0x210, [], [⟨F.TMG_PURSE_TOK.TOKENS, .ro, 0x0⟩]⟩,
  ⟨0xa00, [], [⟨F.TMG_GCL_CMD.BUSY, .ro, 0x0⟩, ⟨F.TMG_GCL_CMD.OP, .rw, 0x0⟩, ⟨F.TMG_GCL_CMD.PORT, .rw, 0x0⟩, ⟨F.TMG_GCL_CMD.INDEX, .rw, 0x0⟩]⟩,
  ⟨0xa04, [], [⟨F.TMG_GCL_DATA0.INTERVAL, .sh, 0x0⟩]⟩,
  ⟨0xa08, [], [⟨F.TMG_GCL_DATA1.GATES, .sh, 0xff⟩]⟩,
  ⟨0x400, [(48, 0x20)], [⟨F.TMG_PORT_CFG.SH_EN, .rw, 0x0⟩, ⟨F.TMG_PORT_CFG.SHAPER, .rw, 0x0⟩, ⟨F.TMG_PORT_CFG.OVERHEAD, .rw, 0x14⟩]⟩,
  ⟨0x404, [(48, 0x20)], [⟨F.TMG_PFC_THR.XOFF, .rw, 0x400⟩, ⟨F.TMG_PFC_THR.XON, .rw, 0x300⟩]⟩,
  ⟨0x408, [(48, 0x20)], [⟨F.TMG_GCL_CTRL.COMMIT, .w1s, 0x0⟩, ⟨F.TMG_GCL_CTRL.PENDING, .ro, 0x0⟩, ⟨F.TMG_GCL_CTRL.ENABLE, .rw, 0x0⟩, ⟨F.TMG_GCL_CTRL.GUARD, .rw, 0x0⟩, ⟨F.TMG_GCL_CTRL.GCL_REFUSED, .ro, 0x0⟩, ⟨F.TMG_GCL_CTRL.GEN, .ro, 0x0⟩, ⟨F.TMG_GCL_CTRL.ADMIN_LEN, .sh, 0x1⟩]⟩,
  ⟨0x40c, [(48, 0x20)], [⟨F.TMG_GCL_CYCLE.ADMIN_CYCLE, .sh, 0x3b9aca00⟩]⟩,
  ⟨0x410, [(48, 0x20)], [⟨F.TMG_GCL_BASE_S.BASE_S, .sh, 0x0⟩]⟩,
  ⟨0x414, [(48, 0x20)], [⟨F.TMG_GCL_BASE_NS.BASE_NS, .sh, 0x0⟩]⟩,
  ⟨0x418, [(48, 0x20)], [⟨F.TMG_GCL_OPER.STATE, .ro, 0xff⟩, ⟨F.TMG_GCL_OPER.ENTRY, .ro, 0x0⟩]⟩]

/-- Registers of the burst composers. -/
def regsBC : List RegSpec := [
  ⟨0x0, [], [⟨F.BC_MAP_CTRL.COMMIT, .w1s, 0x0⟩, ⟨F.BC_MAP_CTRL.PENDING, .ro, 0x0⟩, ⟨F.BC_MAP_CTRL.REFUSED, .ro, 0x0⟩, ⟨F.BC_MAP_CTRL.ACTIVE, .ro, 0x0⟩, ⟨F.BC_MAP_CTRL.GEN, .ro, 0x0⟩]⟩,
  ⟨0x4, [], [⟨F.BC_MAP_CMD.BUSY, .ro, 0x0⟩, ⟨F.BC_MAP_CMD.OP, .rw, 0x0⟩, ⟨F.BC_MAP_CMD.INDEX, .rw, 0x0⟩]⟩,
  ⟨0x10, [(9, 0x4)], [⟨F.BC_MAP_DATA.WORD, .sh, 0x0⟩]⟩,
  ⟨0x40, [], [⟨F.BC_TILL_CFG.RADIO_CELLS, .rwl, 0x800⟩, ⟨F.BC_TILL_CFG.PANIC_LEAD, .rw, 0x14⟩, ⟨F.BC_TILL_CFG.STAGE_AHEAD, .rw, 0x8⟩]⟩,
  ⟨0x44, [], [⟨F.BC_TILL_STAT.PANIC, .ro, 0x0⟩, ⟨F.BC_TILL_STAT.RADIO_USED, .ro, 0x0⟩, ⟨F.BC_TILL_STAT.STAGE_USED, .ro, 0x0⟩]⟩]

/-- Registers of the time island, part 0. -/
def regsTIM0 : List RegSpec := [
  ⟨0x0, [], [⟨F.TIM_STAT.RUN, .ro, 0x0⟩, ⟨F.TIM_STAT.SERVO, .ro, 0x0⟩, ⟨F.TIM_STAT.ADJ_BUSY, .ro, 0x0⟩, ⟨F.TIM_STAT.XTAL_FB, .ro, 0x0⟩, ⟨F.TIM_STAT.SYNCE, .ro, 0x0⟩, ⟨F.TIM_STAT.PPS_IN_OK, .ro, 0x0⟩]⟩,
  ⟨0x10, [], [⟨F.TIM_SNAP_CTRL.GO, .w1s, 0x0⟩]⟩,
  ⟨0x14, [], [⟨F.TIM_SNAP0.SEC_LO, .ro, 0x0⟩]⟩,
  ⟨0x18, [], [⟨F.TIM_SNAP1.SEC_HI, .ro, 0x0⟩]⟩,
  ⟨0x1c, [], [⟨F.TIM_SNAP2.NS, .ro, 0x0⟩]⟩,
  ⟨0x20, [], [⟨F.TIM_SNAP3.VALID, .ro, 0x0⟩, ⟨F.TIM_SNAP3.SEEN, .ro, 0x0⟩, ⟨F.TIM_SNAP3.FRAC, .ro, 0x0⟩]⟩,
  ⟨0x24, [], [⟨F.TIM_SNAP_RAW_LO.RAW, .ro, 0x0⟩]⟩,
  ⟨0x28, [], [⟨F.TIM_SNAP_RAW_HI.RAW, .ro, 0x0⟩]⟩,
  ⟨0x40, [], [⟨F.TIM_ADJ_CMD.GO, .w1s, 0x0⟩, ⟨F.TIM_ADJ_CMD.REFUSED, .ro, 0x0⟩, ⟨F.TIM_ADJ_CMD.OP, .rw, 0x0⟩]⟩,
  ⟨0x44, [], [⟨F.TIM_ADJ_SEC_LO.SEC, .rw, 0x0⟩]⟩,
  ⟨0x48, [], [⟨F.TIM_ADJ_SEC_HI.SEC, .rw, 0x0⟩]⟩,
  ⟨0x4c, [], [⟨F.TIM_ADJ_NS.NEG, .rw, 0x0⟩, ⟨F.TIM_ADJ_NS.NS, .rw, 0x0⟩]⟩,
  ⟨0x50, [], [⟨F.TIM_ADJ_FRAC.FRAC, .rw, 0x0⟩]⟩,
  ⟨0x54, [], [⟨F.TIM_ADJ_RATE_LO.RATE, .rw, 0x0⟩]⟩,
  ⟨0x58, [], [⟨F.TIM_ADJ_RATE_HI.RATE, .rw, 0x0⟩]⟩,
  ⟨0x60, [], [⟨F.TIM_RATE_LO.ADJ, .ro, 0x0⟩]⟩,
  ⟨0x64, [], [⟨F.TIM_RATE_HI.ADJ, .ro, 0x0⟩]⟩,
  ⟨0x80, [], [⟨F.TIM_SRC_CFG.SRC_TO, .rw, 0xbb8⟩, ⟨F.TIM_SRC_CFG.HOLD_LIMIT, .rw, 0x258⟩, ⟨F.TIM_SRC_CFG.SRC, .rw, 0x0⟩]⟩,
  ⟨0x84, [], [⟨F.TIM_SERVO_CFG.KP, .rw, 0x2⟩, ⟨F.TIM_SERVO_CFG.KI, .rw, 0x7⟩, ⟨F.TIM_SERVO_CFG.LKP, .rw, 0x4⟩, ⟨F.TIM_SERVO_CFG.LKI, .rw, 0xa⟩, ⟨F.TIM_SERVO_CFG.LOCK_CNT, .rw, 0x10⟩, ⟨F.TIM_SERVO_CFG.HYBRID, .rw, 0x0⟩, ⟨F.TIM_SERVO_CFG.STEP_EN, .rw, 0x1⟩]⟩,
  ⟨0x88, [], [⟨F.TIM_SERVO_THR.STEP_THR, .rw, 0x3e8⟩, ⟨F.TIM_SERVO_THR.LOCK_THR, .rw, 0x1388⟩]⟩,
  ⟨0x8c, [], [⟨F.TIM_SERVO_SAMPLE_LO.THETA, .rw, 0x0⟩]⟩,
  ⟨0x90, [], [⟨F.TIM_SERVO_SAMPLE_HI.GO, .w1s, 0x0⟩, ⟨F.TIM_SERVO_SAMPLE_HI.THETA, .rw, 0x0⟩]⟩,
  ⟨0x94, [], [⟨F.TIM_SERVO_LAST.THETA, .ro, 0x0⟩]⟩,
  ⟨0x98, [], [⟨F.TIM_SERVO_I_LO.I, .ro, 0x0⟩]⟩,
  ⟨0x9c, [], [⟨F.TIM_SERVO_I_HI.I, .ro, 0x0⟩]⟩,
  ⟨0xc0, [], [⟨F.TIM_PTOD_CTRL.GO, .w1s, 0x0⟩, ⟨F.TIM_PTOD_CTRL.BUSY, .ro, 0x0⟩, ⟨F.TIM_PTOD_CTRL.CH, .rw, 0x0⟩, ⟨F.TIM_PTOD_CTRL.CAUSE, .ro, 0x0⟩]⟩,
  ⟨0xc4, [], [⟨F.TIM_PTOD_SEC_LO.SEC, .rw, 0x0⟩]⟩,
  ⟨0xc8, [], [⟨F.TIM_PTOD_SEC_HI.SEC, .rw, 0x0⟩]⟩,
  ⟨0xcc, [], [⟨F.TIM_PTOD_NS.NS, .rw, 0x0⟩]⟩,
  ⟨0xd0, [], [⟨F.TIM_PTOD_FRAC.FRAC, .rw, 0x0⟩]⟩,
  ⟨0xd4, [], [⟨F.TIM_PTOD_TEQD.TEQD, .rw, 0x0⟩]⟩,
  ⟨0xd8, [], [⟨F.TIM_PTOD_RATIO.DN_SHARE, .rw, 0x80000000⟩]⟩,
  ⟨0xdc, [], [⟨F.TIM_PTOD_TRIM.TRIM, .rw, 0x0⟩]⟩,
  ⟨0xe0, [], [⟨F.TIM_PTOD_RES0.THETA, .ro, 0x0⟩]⟩,
  ⟨0xe4, [], [⟨F.TIM_PTOD_RES1.VALID, .ro, 0x0⟩, ⟨F.TIM_PTOD_RES1.SEEN, .ro, 0x0⟩, ⟨F.TIM_PTOD_RES1.THETA, .ro, 0x0⟩]⟩,
  ⟨0x100, [], [⟨F.TIM_PPS_IN_CFG.EN, .rw, 0x0⟩, ⟨F.TIM_PPS_IN_CFG.POL, .rw, 0x0⟩, ⟨F.TIM_PPS_IN_CFG.WIN, .rw, 0x64⟩]⟩,
  ⟨0x104, [], [⟨F.TIM_PPS_IN_DLY.DLY, .rw, 0x0⟩]⟩,
  ⟨0x108, [], [⟨F.TIM_PPS_IN_CAP0.SEC_LO, .ro, 0x0⟩]⟩,
  ⟨0x10c, [], [⟨F.TIM_PPS_IN_CAP1.SEC_HI, .ro, 0x0⟩]⟩,
  ⟨0x110, [], [⟨F.TIM_PPS_IN_CAP2.NS, .ro, 0x0⟩]⟩]

/-- Registers of the time island, part 1. -/
def regsTIM1 : List RegSpec := [
  ⟨0x114, [], [⟨F.TIM_PPS_IN_CAP3.VALID, .ro, 0x0⟩, ⟨F.TIM_PPS_IN_CAP3.SEEN, .ro, 0x0⟩, ⟨F.TIM_PPS_IN_CAP3.FRAC, .ro, 0x0⟩]⟩,
  ⟨0x120, [], [⟨F.TIM_PPS_OUT_CFG.EN, .rw, 0x0⟩, ⟨F.TIM_PPS_OUT_CFG.POL, .rw, 0x0⟩, ⟨F.TIM_PPS_OUT_CFG.WIDTH, .rw, 0x186a0⟩]⟩,
  ⟨0x124, [], [⟨F.TIM_PPS_OUT_DLY.DLY, .rw, 0x0⟩]⟩,
  ⟨0x130, [], [⟨F.TIM_TOD_CFG.TX_PPS, .rw, 0x0⟩, ⟨F.TIM_TOD_CFG.BAUD, .rw, 0x4⟩, ⟨F.TIM_TOD_CFG.TX_DLY, .rw, 0x3e8⟩]⟩,
  ⟨0x134, [], [⟨F.TIM_TOD_TX.DATA, .wo, 0x0⟩]⟩,
  ⟨0x138, [], [⟨F.TIM_TOD_RX.VALID, .ro, 0x0⟩, ⟨F.TIM_TOD_RX.POP, .w1s, 0x0⟩, ⟨F.TIM_TOD_RX.DATA, .ro, 0x0⟩]⟩,
  ⟨0x13c, [], [⟨F.TIM_TOD_STAT.TX_LEVEL, .ro, 0x0⟩, ⟨F.TIM_TOD_STAT.RX_LEVEL, .ro, 0x0⟩]⟩,
  ⟨0x140, [], [⟨F.TIM_SYNCE_CFG.EN, .rwl, 0x0⟩, ⟨F.TIM_SYNCE_CFG.SEL, .rw, 0x3f⟩, ⟨F.TIM_SYNCE_CFG.BW, .rw, 0x0⟩, ⟨F.TIM_SYNCE_CFG.HOLD_FORCE, .rw, 0x0⟩]⟩,
  ⟨0x144, [], [⟨F.TIM_SYNCE_STAT.FOFS, .ro, 0x0⟩]⟩,
  ⟨0x148, [(2, 0x4)], [⟨F.TIM_SYNCE_OUT.SQUELCH, .rw, 0x1⟩, ⟨F.TIM_SYNCE_OUT.SEL, .rw, 0x3f⟩]⟩]

/-- Registers of the time island. -/
def regsTIM : List RegSpec := regsTIM0 ++ regsTIM1

/-- Registers of the Vault. -/
def regsVLT : List RegSpec := [
  ⟨0x0, [], [⟨F.VLT_STAT.MINT, .ro, 0x1⟩, ⟨F.VLT_STAT.DRAINING, .ro, 0x0⟩, ⟨F.VLT_STAT.ESCROW_USED, .ro, 0x0⟩]⟩,
  ⟨0x4, [], [⟨F.VLT_SLOT_PART.HOST_BASE, .rwl, 0x200⟩]⟩,
  ⟨0x8, [], [⟨F.VLT_PON_SLOTS.PCB_BASE, .rwl, 0xc⟩, ⟨F.VLT_PON_SLOTS.PCA_BASE, .rwl, 0x8⟩]⟩,
  ⟨0x10, [], [⟨F.VLT_MINT_CTRL.RESTART, .w1s, 0x0⟩]⟩,
  ⟨0x20, [], [⟨F.VLT_DBG_CTRL.CLOSE, .w1s, 0x0⟩, ⟨F.VLT_DBG_CTRL.OPEN, .ro, 0x0⟩]⟩,
  ⟨0x100, [(2, 0x100)], [⟨F.JOB_CTRL.GO, .w1s, 0x0⟩, ⟨F.JOB_CTRL.BUSY, .ro, 0x0⟩, ⟨F.JOB_CTRL.OP, .rw, 0x0⟩, ⟨F.JOB_CTRL.IV_MODE, .rw, 0x0⟩, ⟨F.JOB_CTRL.SLOT, .rw, 0x0⟩]⟩,
  ⟨0x104, [(2, 0x100)], [⟨F.JOB_SLOT2.SLOT2, .rw, 0x0⟩]⟩,
  ⟨0x108, [(2, 0x100)], [⟨F.JOB_SRC_LO.ADDR, .rw, 0x0⟩]⟩,
  ⟨0x10c, [(2, 0x100)], [⟨F.JOB_SRC_HI.ADDR, .rw, 0x0⟩]⟩,
  ⟨0x110, [(2, 0x100)], [⟨F.JOB_DST_LO.ADDR, .rw, 0x0⟩]⟩,
  ⟨0x114, [(2, 0x100)], [⟨F.JOB_DST_HI.ADDR, .rw, 0x0⟩]⟩,
  ⟨0x118, [(2, 0x100)], [⟨F.JOB_LEN.LEN, .rw, 0x0⟩]⟩,
  ⟨0x11c, [(2, 0x100)], [⟨F.JOB_AAD_LEN.AAD, .rw, 0x0⟩]⟩,
  ⟨0x120, [(2, 0x100), (3, 0x4)], [⟨F.JOB_IV.IV, .rw, 0x0⟩]⟩,
  ⟨0x130, [(2, 0x100), (4, 0x4)], [⟨F.JOB_TAG_IN.TAG, .rw, 0x0⟩]⟩,
  ⟨0x140, [(2, 0x100)], [⟨F.JOB_RES.VALID, .ro, 0x0⟩, ⟨F.JOB_RES.SEEN, .ro, 0x0⟩, ⟨F.JOB_RES.STATUS, .ro, 0x0⟩, ⟨F.JOB_RES.OUT_LEN, .ro, 0x0⟩]⟩,
  ⟨0x144, [(2, 0x100), (4, 0x4)], [⟨F.JOB_TAG_OUT.TAG, .ro, 0x0⟩]⟩,
  ⟨0x160, [(2, 0x100), (8, 0x4)], [⟨F.KEY_IN.KEY, .wo, 0x0⟩]⟩,
  ⟨0x180, [(2, 0x100)], [⟨F.KEY_CMD.GO, .w1s, 0x0⟩, ⟨F.KEY_CMD.BUSY, .ro, 0x0⟩, ⟨F.KEY_CMD.CAUSE, .ro, 0x0⟩, ⟨F.KEY_CMD.OP, .rw, 0x0⟩, ⟨F.KEY_CMD.SLOT, .rw, 0x0⟩]⟩,
  ⟨0x184, [(2, 0x100)], [⟨F.KEY_ATTR.USE, .rw, 0x0⟩, ⟨F.KEY_ATTR.TYPE, .rw, 0x0⟩]⟩,
  ⟨0x188, [(2, 0x100)], [⟨F.KEY_STAT.TYPE, .ro, 0x0⟩, ⟨F.KEY_STAT.USE, .ro, 0x0⟩, ⟨F.KEY_STAT.KCV, .ro, 0x0⟩]⟩]

/-- Registers of the Steward. -/
def regsSTW : List RegSpec := [
  ⟨0x0, [], [⟨F.STW_CTRL.KEY, .wo, 0x0⟩, ⟨F.STW_CTRL.TARGET, .wo, 0x0⟩, ⟨F.STW_CTRL.VERIFY_ONLY, .wo, 0x0⟩, ⟨F.STW_CTRL.RESTART, .wo, 0x0⟩, ⟨F.STW_CTRL.SWITCH, .wo, 0x0⟩]⟩,
  ⟨0x4, [], [⟨F.STW_STAT.STATE, .ro, 0x0⟩, ⟨F.STW_STAT.FW_COPY, .ro, 0x0⟩, ⟨F.STW_STAT.VERIFYING, .ro, 0x0⟩, ⟨F.STW_STAT.LAST_FAIL, .ro, 0x0⟩, ⟨F.STW_STAT.RESTARTS, .ro, 0x0⟩]⟩,
  ⟨0x8, [], [⟨F.STW_READY.READY, .w1s, 0x0⟩]⟩,
  ⟨0xc, [], [⟨F.STW_CFG.GRACE, .rw, 0x3e8⟩, ⟨F.STW_CFG.WDOG, .rw, 0x64⟩]⟩,
  ⟨0x10, [], [⟨F.STW_WDOG.KICK, .w1s, 0x0⟩]⟩,
  ⟨0x14, [], [⟨F.STW_FW_FLOOR.FLOOR, .ro, 0x0⟩]⟩,
  ⟨0x20, [], [⟨F.STW_OWN_LO.HOST, .rwl, 0x0⟩]⟩,
  ⟨0x24, [], [⟨F.STW_OWN_HI.HOST, .rwl, 0x0⟩]⟩,
  ⟨0x28, [], [⟨F.STW_DC.COUNT, .rwl, 0x0⟩]⟩,
  ⟨0x100, [(16, 0x4)], [⟨F.STW_MB_H2S.DATA, .rw, 0x0⟩]⟩,
  ⟨0x140, [], [⟨F.STW_MB_H2S_CTRL.GO, .w1s, 0x0⟩, ⟨F.STW_MB_H2S_CTRL.FULL, .ro, 0x0⟩, ⟨F.STW_MB_H2S_CTRL.ACK, .w1s, 0x0⟩]⟩,
  ⟨0x180, [(16, 0x4)], [⟨F.STW_MB_S2H.DATA, .rw, 0x0⟩]⟩,
  ⟨0x1c0, [], [⟨F.STW_MB_S2H_CTRL.GO, .w1s, 0x0⟩, ⟨F.STW_MB_S2H_CTRL.FULL, .ro, 0x0⟩, ⟨F.STW_MB_S2H_CTRL.ACK, .w1s, 0x0⟩]⟩,
  ⟨0x200, [], [⟨F.STW_PKT_CMD.GO, .w1s, 0x0⟩, ⟨F.STW_PKT_CMD.BUSY, .ro, 0x0⟩, ⟨F.STW_PKT_CMD.CAUSE, .ro, 0x0⟩, ⟨F.STW_PKT_CMD.OFFSET, .rw, 0x0⟩, ⟨F.STW_PKT_CMD.LEN, .rw, 0x0⟩]⟩,
  ⟨0x204, [], [⟨F.STW_PKT_DST.ADDR, .rw, 0x0⟩]⟩]

/-- Registers of the DRAM common. -/
def regsMCC : List RegSpec := [
  ⟨0x0, [], [⟨F.MCC_CFG.SCRUB_EN, .rwl, 0x1⟩, ⟨F.MCC_CFG.DENSITY, .rwl, 0x0⟩, ⟨F.MCC_CFG.SPEED, .rwl, 0x3⟩]⟩,
  ⟨0x4, [], [⟨F.MCC_TEMP_CFG.POLL, .rw, 0x4⟩]⟩,
  ⟨0x8, [], [⟨F.MCC_RH_CFG.THR, .rw, 0x400⟩, ⟨F.MCC_RH_CFG.GAP, .rw, 0x64⟩, ⟨F.MCC_RH_CFG.HOLD, .rw, 0x3e8⟩]⟩,
  ⟨0xc, [], [⟨F.MCC_SCRUB_CFG.PERIOD, .rw, 0x18⟩]⟩,
  ⟨0x10, [], [⟨F.MCC_DEEP_STAT.PAGES, .ro, 0x0⟩]⟩,
  ⟨0x20, [], [⟨F.MCC_TRACE_CFG.EN, .rw, 0x0⟩, ⟨F.MCC_TRACE_CFG.SIZE, .rwl, 0x4⟩]⟩,
  ⟨0x24, [], [⟨F.MCC_TRACE_WP.WP, .ro, 0x0⟩]⟩,
  ⟨0x28, [], [⟨F.MCC_TRACE_CMD.BUSY, .ro, 0x0⟩, ⟨F.MCC_TRACE_CMD.CAUSE, .ro, 0x0⟩, ⟨F.MCC_TRACE_CMD.GO, .w1s, 0x0⟩, ⟨F.MCC_TRACE_CMD.INDEX, .rw, 0x0⟩]⟩,
  ⟨0x30, [(16, 0x4)], [⟨F.MCC_TRACE_DATA.WORD, .ro, 0x0⟩]⟩]

/-- Registers of the DRAM channels. -/
def regsMC : List RegSpec := [
  ⟨0x0, [], [⟨F.MC_SVC_CTRL.DRAIN_TO, .rw, 0x64⟩, ⟨F.MC_SVC_CTRL.WANT, .rw, 0x1⟩]⟩,
  ⟨0x4, [], [⟨F.MC_STAT.STATE, .ro, 0x2⟩, ⟨F.MC_STAT.PHASE, .ro, 0x0⟩, ⟨F.MC_STAT.RATE, .ro, 0x0⟩, ⟨F.MC_STAT.TEMP_HOT, .ro, 0x0⟩, ⟨F.MC_STAT.PANIC, .ro, 0x0⟩, ⟨F.MC_STAT.DEBT, .ro, 0x0⟩, ⟨F.MC_STAT.UNITS, .ro, 0x0⟩]⟩,
  ⟨0x10, [], [⟨F.MC_TRAIN_STAT.ATTEMPTS, .ro, 0x0⟩, ⟨F.MC_TRAIN_STAT.PASS, .ro, 0x0⟩, ⟨F.MC_TRAIN_STAT.STEP, .ro, 0x0⟩]⟩,
  ⟨0x14, [], [⟨F.MC_TRAIN_RES.WR1, .ro, 0x0⟩, ⟨F.MC_TRAIN_RES.WR0, .ro, 0x0⟩, ⟨F.MC_TRAIN_RES.RD1, .ro, 0x0⟩, ⟨F.MC_TRAIN_RES.RD0, .ro, 0x0⟩]⟩,
  ⟨0x20, [], [⟨F.MC_ECC_LOG0.VALID, .ro, 0x0⟩, ⟨F.MC_ECC_LOG0.UE, .ro, 0x0⟩, ⟨F.MC_ECC_LOG0.MORE, .ro, 0x0⟩, ⟨F.MC_ECC_LOG0.REQ, .ro, 0x0⟩, ⟨F.MC_ECC_LOG0.BANK, .ro, 0x0⟩]⟩,
  ⟨0x24, [], [⟨F.MC_ECC_LOG1.SYNDROME, .ro, 0x0⟩, ⟨F.MC_ECC_LOG1.COL, .ro, 0x0⟩, ⟨F.MC_ECC_LOG1.ROW, .ro, 0x0⟩]⟩,
  ⟨0x28, [], [⟨F.MC_ECC_LOG2.SEC, .ro, 0x0⟩]⟩,
  ⟨0x2c, [], [⟨F.MC_ECC_LOG3.NS, .ro, 0x0⟩]⟩,
  ⟨0x30, [], [⟨F.MC_ECC_CLR.CLR, .w1s, 0x0⟩]⟩]

/-- Registers of the host island. -/
def regsHST : List RegSpec := [
  ⟨0x0, [], [⟨F.HST_ID.DEVICE, .ro, 0x9648⟩, ⟨F.HST_ID.VENDOR, .ro, 0x0⟩]⟩,
  ⟨0x4, [], [⟨F.HST_SUBSYS.SUB_ID, .rwl, 0x0⟩, ⟨F.HST_SUBSYS.SUB_VENDOR, .rwl, 0x0⟩]⟩,
  ⟨0x8, [], [⟨F.HST_CFG.HOSTLESS, .rwl, 0x0⟩, ⟨F.HST_CFG.RD_TO, .rw, 0x32⟩]⟩,
  ⟨0xc, [], [⟨F.HST_STATUS.LINK_UP, .ro, 0x0⟩, ⟨F.HST_STATUS.SPEED, .ro, 0x0⟩, ⟨F.HST_STATUS.WIDTH, .ro, 0x0⟩, ⟨F.HST_STATUS.PATH_DOWN, .ro, 0x1⟩, ⟨F.HST_STATUS.BAD_REQ, .w1c, 0x0⟩, ⟨F.HST_STATUS.RD_TIMEOUT, .w1c, 0x0⟩, ⟨F.HST_STATUS.DARK_ACCESS, .w1c, 0x0⟩]⟩,
  ⟨0x10, [], [⟨F.HST_DARK_ADDR.WRITE, .ro, 0x0⟩, ⟨F.HST_DARK_ADDR.ADDR, .ro, 0x0⟩]⟩,
  ⟨0x20, [], [⟨F.HST_PKT_CMD.GO, .w1s, 0x0⟩, ⟨F.HST_PKT_CMD.BUSY, .ro, 0x0⟩, ⟨F.HST_PKT_CMD.CAUSE, .ro, 0x0⟩, ⟨F.HST_PKT_CMD.OFFSET, .rw, 0x0⟩, ⟨F.HST_PKT_CMD.LEN, .rw, 0x0⟩]⟩,
  ⟨0x24, [], [⟨F.HST_PKT_ADDR_LO.ADDR, .rw, 0x0⟩]⟩,
  ⟨0x28, [], [⟨F.HST_PKT_ADDR_HI.ADDR, .rw, 0x0⟩]⟩,
  ⟨0x100, [(64, 0x4)], [⟨F.HST_COAL.CNT, .rw, 0x1⟩, ⟨F.HST_COAL.TIME, .rw, 0x0⟩]⟩]

/-- Registers of the DMA. -/
def regsDMA : List RegSpec := [
  ⟨0x0, [(32, 0x1000)], [⟨F.DC_CTRL.START, .w1s, 0x0⟩, ⟨F.DC_CTRL.ABORT, .w1s, 0x0⟩, ⟨F.DC_CTRL.COMMIT, .w1s, 0x0⟩, ⟨F.DC_CTRL.PENDING, .ro, 0x0⟩, ⟨F.DC_CTRL.GEN, .ro, 0x0⟩, ⟨F.DC_CTRL.STATE, .ro, 0x0⟩, ⟨F.DC_CTRL.CAUSE, .ro, 0x0⟩, ⟨F.DC_CTRL.STEWARD, .ro, 0x0⟩]⟩,
  ⟨0x4, [(32, 0x1000)], [⟨F.DC_RING_BASE_LO.BASE, .sh, 0x0⟩]⟩,
  ⟨0x8, [(32, 0x1000)], [⟨F.DC_RING_BASE_HI.BASE, .sh, 0x0⟩]⟩,
  ⟨0xc, [(32, 0x1000)], [⟨F.DC_RING_CFG.MODE, .sh, 0x0⟩, ⟨F.DC_RING_CFG.SEQ_START, .sh, 0x0⟩, ⟨F.DC_RING_CFG.SIZE, .sh, 0x8⟩]⟩,
  ⟨0x10, [(32, 0x1000)], [⟨F.DC_DB.PI, .rw, 0x0⟩]⟩,
  ⟨0x14, [(32, 0x1000)], [⟨F.DC_POS.SEQ_NEXT, .ro, 0x0⟩, ⟨F.DC_POS.CI, .ro, 0x0⟩]⟩,
  ⟨0x18, [(32, 0x1000)], [⟨F.DC_IRQ.CAUSES, .w1c, 0x0⟩]⟩,
  ⟨0x1c, [(32, 0x1000)], [⟨F.DC_IRQ_EN.EN, .rw, 0x7f⟩]⟩,
  ⟨0x20, [(32, 0x1000)], [⟨F.DC_VEC.VECTOR, .rw, 0x0⟩]⟩,
  ⟨0x24, [(32, 0x1000)], [⟨F.DC_STALE.OWN, .ro, 0x0⟩, ⟨F.DC_STALE.SEQ, .ro, 0x0⟩, ⟨F.DC_STALE.INDEX, .ro, 0x0⟩]⟩,
  ⟨0x20000, [(64, 0x4)], [⟨F.DMA_HQ_MAP.EN, .rw, 0x0⟩, ⟨F.DMA_HQ_MAP.CHANNEL, .rw, 0x0⟩]⟩]

/-- Registers of the events. -/
def regsEVT : List RegSpec := [
  ⟨0x0, [(4, 0x20)], [⟨F.EVT_RING_BASE_LO.BASE, .rw, 0x0⟩]⟩,
  ⟨0x4, [(4, 0x20)], [⟨F.EVT_RING_BASE_HI.BASE, .rw, 0x0⟩]⟩,
  ⟨0x8, [(4, 0x20)], [⟨F.EVT_RING_CFG.EN, .rw, 0x0⟩, ⟨F.EVT_RING_CFG.VECTOR, .rw, 0x0⟩, ⟨F.EVT_RING_CFG.SIZE, .rw, 0xa⟩]⟩,
  ⟨0xc, [(4, 0x20)], [⟨F.EVT_RING_PI.PI, .ro, 0x0⟩]⟩,
  ⟨0x10, [(4, 0x20)], [⟨F.EVT_RING_CI.CI, .rw, 0x0⟩]⟩,
  ⟨0x14, [(4, 0x20)], [⟨F.EVT_RING_STAT.FULL, .ro, 0x0⟩, ⟨F.EVT_RING_STAT.LOST, .w1c, 0x0⟩]⟩,
  ⟨0x100, [], [⟨F.EVT_LGR_CFG.EN, .rwl, 0x1⟩, ⟨F.EVT_LGR_CFG.RATE, .rw, 0x3e8⟩]⟩,
  ⟨0x104, [], [⟨F.EVT_LGR_WP.WP, .ro, 0x0⟩]⟩,
  ⟨0x108, [], [⟨F.EVT_LGR_CMD.BUSY, .ro, 0x0⟩, ⟨F.EVT_LGR_CMD.CAUSE, .ro, 0x0⟩, ⟨F.EVT_LGR_CMD.GO, .w1s, 0x0⟩, ⟨F.EVT_LGR_CMD.INDEX, .rw, 0x0⟩]⟩,
  ⟨0x110, [(8, 0x4)], [⟨F.EVT_LGR_DATA.WORD, .ro, 0x0⟩]⟩,
  ⟨0x140, [], [⟨F.EVT_OSP_STAT.LEVEL, .ro, 0x0⟩]⟩,
  ⟨0x1000, [(612, 0x4)], [⟨F.EVT_SRC_CFG.HOST_EN, .rw, 0x1⟩, ⟨F.EVT_SRC_CFG.RING, .rw, 0x0⟩, ⟨F.EVT_SRC_CFG.LGR_EN, .rw, 0x1⟩, ⟨F.EVT_SRC_CFG.OSP_EN, .rw, 0x1⟩]⟩,
  ⟨0x150, [], [⟨F.EVT_SOFT_H.GO, .w1s, 0x0⟩, ⟨F.EVT_SOFT_H.REFUSED, .ro, 0x0⟩, ⟨F.EVT_SOFT_H.SEV, .rw, 0x0⟩, ⟨F.EVT_SOFT_H.SOURCE, .rw, 0x200⟩]⟩,
  ⟨0x154, [(4, 0x4)], [⟨F.EVT_SOFT_H_DATA.DATA, .rw, 0x0⟩]⟩,
  ⟨0x170, [], [⟨F.EVT_SOFT_S.GO, .w1s, 0x0⟩, ⟨F.EVT_SOFT_S.REFUSED, .ro, 0x0⟩, ⟨F.EVT_SOFT_S.SEV, .rw, 0x0⟩, ⟨F.EVT_SOFT_S.SOURCE, .rw, 0x232⟩]⟩,
  ⟨0x174, [(4, 0x4)], [⟨F.EVT_SOFT_S_DATA.DATA, .rw, 0x0⟩]⟩]

/-- Registers of the performance counters. -/
def regsPMC : List RegSpec := [
  ⟨0x0, [], [⟨F.PMC_CTRL.SNAP, .w1s, 0x0⟩, ⟨F.PMC_CTRL.SNAP_GEN, .ro, 0x0⟩]⟩,
  ⟨0x100, [(96, 0x4)], [⟨F.PMC_CTR_CFG.EN, .rw, 0x0⟩, ⟨F.PMC_CTR_CFG.CHAIN, .rw, 0x0⟩, ⟨F.PMC_CTR_CFG.OVF_EV, .rw, 0x0⟩, ⟨F.PMC_CTR_CFG.INST, .rw, 0xff⟩, ⟨F.PMC_CTR_CFG.EVENT, .rw, 0x3ff⟩]⟩,
  ⟨0x400, [(96, 0x8)], [⟨F.PMC_CTR_LO.COUNT, .rw, 0x0⟩]⟩,
  ⟨0x404, [(96, 0x8)], [⟨F.PMC_CTR_HI.COUNT, .rw, 0x0⟩]⟩,
  ⟨0x800, [(96, 0x8)], [⟨F.PMC_SHOT_LO.COUNT, .ro, 0x0⟩]⟩,
  ⟨0x804, [(96, 0x8)], [⟨F.PMC_SHOT_HI.COUNT, .ro, 0x0⟩]⟩,
  ⟨0xc00, [(3, 0x4)], [⟨F.PMC_OVF.OVF, .w1c, 0x0⟩]⟩,
  ⟨0xc20, [(4, 0x8)], [⟨F.PMC_SAMP_CFG.EN, .rw, 0x0⟩, ⟨F.PMC_SAMP_CFG.REFUSED, .ro, 0x0⟩, ⟨F.PMC_SAMP_CFG.SESSION, .rw, 0x0⟩, ⟨F.PMC_SAMP_CFG.CTR, .rw, 0x0⟩]⟩,
  ⟨0xc24, [(4, 0x8)], [⟨F.PMC_SAMP_PER.PERIOD, .rw, 0x2710⟩]⟩,
  ⟨0xc40, [(4, 0x4)], [⟨F.PMC_SAMP_LAST.SKID, .ro, 0x0⟩, ⟨F.PMC_SAMP_LAST.SRC, .ro, 0x0⟩, ⟨F.PMC_SAMP_LAST.EPOCH, .ro, 0x0⟩, ⟨F.PMC_SAMP_LAST.SF_VALID, .ro, 0x0⟩, ⟨F.PMC_SAMP_LAST.SF, .ro, 0x0⟩]⟩,
  ⟨0xd00, [], [⟨F.PMC_TALLY_CMD.BUSY, .ro, 0x0⟩, ⟨F.PMC_TALLY_CMD.CAUSE, .ro, 0x0⟩, ⟨F.PMC_TALLY_CMD.OP, .rw, 0x0⟩, ⟨F.PMC_TALLY_CMD.SPACE, .rw, 0x0⟩, ⟨F.PMC_TALLY_CMD.INDEX, .rw, 0x0⟩]⟩,
  ⟨0xd04, [(2, 0x4)], [⟨F.PMC_TALLY_DATA.COUNT, .ro, 0x0⟩]⟩]

/-- Registers of the check units. -/
def regsCHK : List RegSpec := [
  ⟨0x0, [(4, 0x1000)], [⟨F.CHK_CTRL.GO, .w1s, 0x0⟩, ⟨F.CHK_CTRL.BUSY, .ro, 0x0⟩, ⟨F.CHK_CTRL.USER, .ro, 0x0⟩, ⟨F.CHK_CTRL.POLY, .rw, 0x0⟩, ⟨F.CHK_CTRL.SPACE, .rw, 0x0⟩, ⟨F.CHK_CTRL.NS, .rw, 0x0⟩, ⟨F.CHK_CTRL.DC, .ro, 0x0⟩]⟩,
  ⟨0x4, [(4, 0x1000)], [⟨F.CHK_ADDR_LO.ADDR, .rw, 0x0⟩]⟩,
  ⟨0x8, [(4, 0x1000)], [⟨F.CHK_ADDR_HI.ADDR, .rw, 0x0⟩]⟩,
  ⟨0xc, [(4, 0x1000)], [⟨F.CHK_LEN.LEN, .rw, 0x0⟩]⟩,
  ⟨0x10, [(4, 0x1000)], [⟨F.CHK_STAT.VALID, .ro, 0x0⟩, ⟨F.CHK_STAT.SEEN, .ro, 0x0⟩, ⟨F.CHK_STAT.STATUS, .ro, 0x0⟩, ⟨F.CHK_STAT.POLY, .ro, 0x0⟩, ⟨F.CHK_STAT.LEN, .ro, 0x0⟩]⟩,
  ⟨0x14, [(4, 0x1000)], [⟨F.CHK_RES_LO.CRC, .ro, 0x0⟩]⟩,
  ⟨0x18, [(4, 0x1000)], [⟨F.CHK_RES_HI.CRC, .ro, 0x0⟩]⟩]

/-! ### The 64-bit counters, by window, with their offsets (R105, R139, R161, R200, R201, R237, R276, R315, R350,
R390, R412, R437, R478, R509, R527) -/

def Ctr.PN.FRAMES_SYNC : Nat := 0x200
def Ctr.PN.PSBD_ERR : Nat := 0x208
def Ctr.PN.SFC_MISMATCH : Nat := 0x210
def Ctr.PN.ALIGN_LOSS : Nat := 0x218
def Ctr.PN.CAND_FULL : Nat := 0x220
def Ctr.PN.CAND_FALSE : Nat := 0x228
def Ctr.PN.CW_TOTAL : Nat := 0x230
def Ctr.PN.CW_CORR : Nat := 0x238
def Ctr.PN.CW_UNCORR : Nat := 0x240
def Ctr.PN.BITS_CORR : Nat := 0x248
def Ctr.PN.FS_HDR_ERR : Nat := 0x250
def Ctr.PN.XGEM_HEC_CORR : Nat := 0x258
def Ctr.PN.XGEM_HEC_FAIL : Nat := 0x260
def Ctr.PN.XGEM_PLI_OVER : Nat := 0x268
def Ctr.PN.XGEM_IDLE : Nat := 0x270
def Ctr.PN.XGEM_FOREIGN : Nat := 0x278
def Ctr.PN.KEY_IDX_BAD : Nat := 0x280
def Ctr.PN.KEY_ABSENT : Nat := 0x288
def Ctr.PN.UNCORR_DROP : Nat := 0x290
def Ctr.PN.RUNT : Nat := 0x298
def Ctr.PN.OVERSIZE : Nat := 0x2a0
def Ctr.PN.FCS_ERR : Nat := 0x2a8
def Ctr.PN.REASM_ERR : Nat := 0x2b0
def Ctr.PN.REASM_FULL : Nat := 0x2b8
def Ctr.PN.DS_OVERRUN : Nat := 0x2c0
def Ctr.PN.DS_REFUSED : Nat := 0x2c8
def Ctr.PN.SDU_OK : Nat := 0x2d0
def Ctr.PN.SDU_BYTES : Nat := 0x2d8
def Ctr.PN.PLOAM_OWN : Nat := 0x2e0
def Ctr.PN.PLOAM_OTHER : Nat := 0x2e8
def Ctr.PN.OMCI_SDU : Nat := 0x2f0
def Ctr.PN.OSP_LOST : Nat := 0x2f8
def Ctr.PN.CRYPT_FAIL : Nat := 0x300
def Ctr.PN.BURSTS_TX : Nat := 0x400
def Ctr.PN.GRANTS_OK : Nat := 0x408
def Ctr.PN.GRANT_IDLE : Nat := 0x410
def Ctr.PN.BWMAP_LOST : Nat := 0x418
def Ctr.PN.BWMAP_HEC : Nat := 0x420
def Ctr.PN.BWMAP_FOREIGN : Nat := 0x428
def Ctr.PN.GRANT_INHIBIT : Nat := 0x430
def Ctr.PN.GRANT_ASLEEP : Nat := 0x438
def Ctr.PN.GRANT_RANGE : Nat := 0x440
def Ctr.PN.GRANT_CONT_BAD : Nat := 0x448
def Ctr.PN.GRANT_PROFILE : Nat := 0x450
def Ctr.PN.GRANT_LATE : Nat := 0x458
def Ctr.PN.GRANT_OVERLAP : Nat := 0x460
def Ctr.PN.GRANT_SHORT : Nat := 0x468
def Ctr.PN.XGEM_TX : Nat := 0x470
def Ctr.PN.SDU_BYTES_TX : Nat := 0x478
def Ctr.PN.IDLE_BYTES : Nat := 0x480
def Ctr.PN.PLOAM_HW : Nat := 0x488
def Ctr.PN.PLOAM_STW : Nat := 0x490
def Ctr.PN.PLOAM_UNSUP : Nat := 0x498
def Ctr.PN.PLOAM_MIC : Nat := 0x4a0
def Ctr.PN.PLOAM_TX : Nat := 0x4a8
def Ctr.PN.PLOAM_Q_FULL : Nat := 0x4b0
def Ctr.PN.OSP_US_DROP : Nat := 0x4b8
def Ctr.PN.SN_SENT : Nat := 0x4c0
def Ctr.PN.ALLOC_REFUSED : Nat := 0x4c8
def Ctr.PN.ROGUE : Nat := 0x4d0
def Ctr.PN.BEN_MISS : Nat := 0x4d8
def Ctr.PN.US_KEY_WAIT : Nat := 0x4e0
def Ctr.PN.STRIPE_TX : Nat := 0x500
def Ctr.PN.STRIPE_RX : Nat := 0x508
def Ctr.PN.SVC_FLUSH : Nat := 0x510
def Ctr.PN.SVC_OUT : Nat := 0x518
def Ctr.PN.SKIP_MARK : Nat := 0x520
def Ctr.TQ.RX_FRAMES : Nat := 0x400
def Ctr.TQ.RX_BYTES : Nat := 0x408
def Ctr.TQ.RX_RUNT : Nat := 0x410
def Ctr.TQ.RX_COLL_FRAG : Nat := 0x418
def Ctr.TQ.RX_OVERSIZE : Nat := 0x420
def Ctr.TQ.RX_FCS_ERR : Nat := 0x428
def Ctr.TQ.RX_FILTERED : Nat := 0x430
def Ctr.TQ.RX_PAUSE : Nat := 0x438
def Ctr.TQ.RX_PFC : Nat := 0x440
def Ctr.TQ.RX_CTRL_OTHER : Nat := 0x448
def Ctr.TQ.RX_CSUM_BAD_IP : Nat := 0x450
def Ctr.TQ.RX_CSUM_BAD_L4 : Nat := 0x458
def Ctr.TQ.RX_OVERRUN : Nat := 0x460
def Ctr.TQ.RX_PARTIAL : Nat := 0x468
def Ctr.TQ.TX_FRAMES : Nat := 0x470
def Ctr.TQ.TX_BYTES : Nat := 0x478
def Ctr.TQ.TX_OVERSIZE : Nat := 0x480
def Ctr.TQ.TX_PAUSE : Nat := 0x488
def Ctr.TQ.TX_PFC : Nat := 0x490
def Ctr.TQ.TX_LINK_DOWN : Nat := 0x498
def Ctr.TQ.TX_SVC_DISC : Nat := 0x4a0
def Ctr.TQ.TX_COLLISIONS : Nat := 0x4a8
def Ctr.TQ.TX_EXCESS_COLL : Nat := 0x4b0
def Ctr.TQ.TX_LATE_COLL : Nat := 0x4b8
def Ctr.TQ.TX_DEFERRED : Nat := 0x4c0
def Ctr.TQ.WDOG_BREAK : Nat := 0x4c8
def Ctr.TQ.PAUSE_IGNORED : Nat := 0x4d0
def Ctr.TQ.WAKE_MATCH : Nat := 0x4d8
def Ctr.TQ.FEC_CORR : Nat := 0x4e0
def Ctr.TQ.FEC_UNCORR : Nat := 0x4e8
def Ctr.TQ.LINK_LOSS : Nat := 0x4f0
def Ctr.TQ.PRBS_BITS : Nat := 0x4f8
def Ctr.KP.PKTS_PASS1 : Nat := 0x800
def Ctr.KP.PKTS_PASS2 : Nat := 0x808
def Ctr.KP.PKTS_PASS3 : Nat := 0x810
def Ctr.KP.PARSE_TRUNC : Nat := 0x818
def Ctr.KP.LEN_ERR : Nat := 0x820
def Ctr.KP.LEN_ERR_DROP : Nat := 0x828
def Ctr.KP.PASS_LIMIT : Nat := 0x830
def Ctr.KP.RECIRC_FULL : Nat := 0x838
def Ctr.KP.WR_REFUSED : Nat := 0x840
def Ctr.KP.STAGE_HIT : Nat := 0x900
def Ctr.KP.STAGE_MISS : Nat := 0x908
def Ctr.KP.STAGE_SKIP : Nat := 0x910
def Ctr.TBL.L2_LEARNED : Nat := 0x400
def Ctr.TBL.L2_AGED : Nat := 0x408
def Ctr.TBL.L2_MOVE : Nat := 0x410
def Ctr.TBL.L2_LEARN_FULL : Nat := 0x418
def Ctr.TBL.L2_LEARN_DROP : Nat := 0x420
def Ctr.TBL.L2_LIMIT_HIT : Nat := 0x428
def Ctr.TBL.FLOW_AGED : Nat := 0x430
def Ctr.TBL.ECC_CORR : Nat := 0x438
def Ctr.TBL.ENTRY_LOST : Nat := 0x440
def Ctr.TBL.SWAPS : Nat := 0x448
def Ctr.TBL.SWAP_DISC : Nat := 0x450
def Ctr.TBL.L2_MOVE_REFUSED : Nat := 0x458
def Ctr.KP.ACTS_APPLIED : Nat := 0xa40
def Ctr.KP.ACT_BAD : Nat := 0xa48
def Ctr.KP.ACT_REFUSED : Nat := 0xa50
def Ctr.KP.DROPS : Nat := 0xa58
def Ctr.KP.MIRRORS : Nat := 0xa60
def Ctr.KP.GIVES : Nat := 0xa68
def Ctr.KP.PSET_BAD : Nat := 0xa70
def Ctr.TLR.DISPATCHED : Nat := 0x400
def Ctr.TLR.RELEASED : Nat := 0x408
def Ctr.TLR.SKIPS : Nat := 0x410
def Ctr.TLR.CANCELLED : Nat := 0x418
def Ctr.TLR.TIMEOUTS : Nat := 0x420
def Ctr.TLR.FAILED : Nat := 0x428
def Ctr.TLR.REFUSED : Nat := 0x430
def Ctr.TLR.DONE_MISS : Nat := 0x438
def Ctr.INS.ITEMS : Nat := 0x400
def Ctr.INS.BYTES : Nat := 0x408
def Ctr.INS.BUSY_CLK : Nat := 0x410
def Ctr.INS.MATCHES : Nat := 0x418
def Ctr.INS.FAULTS : Nat := 0x420
def Ctr.TMG.NO_QUEUE : Nat := 0xc00
def Ctr.TMG.DROPS : Nat := 0xc08
def Ctr.TMG.DEEP_WR_BYTES : Nat := 0xc10
def Ctr.TMG.DEEP_RD_BYTES : Nat := 0xc18
def Ctr.TMG.POLICE_RED : Nat := 0xc20
def Ctr.TMG.GCL_SWITCH : Nat := 0xc28
def Ctr.BC.STAGED_SDU : Nat := 0x400
def Ctr.BC.RADIO_SDU : Nat := 0x408
def Ctr.BC.TILL_SHORT : Nat := 0x410
def Ctr.BC.DBRU_TX : Nat := 0x418
def Ctr.BC.FC_TX : Nat := 0x420
def Ctr.BC.PANIC : Nat := 0x428
def Ctr.BC.MAP_SWITCH : Nat := 0x430
def Ctr.TIM.SAMPLES : Nat := 0x400
def Ctr.TIM.STEPS : Nat := 0x408
def Ctr.TIM.OUTLIERS : Nat := 0x410
def Ctr.TIM.HOLD_ENTRIES : Nat := 0x418
def Ctr.TIM.SAMPLE_DISC : Nat := 0x420
def Ctr.TIM.PTOD_REFUSED : Nat := 0x428
def Ctr.TIM.PPS_IN_REJ : Nat := 0x430
def Ctr.TIM.REPLICA_ERR : Nat := 0x438
def Ctr.TIM.TOD_RX_OVF : Nat := 0x440
def Ctr.TQ.TS_RX : Nat := 0x500
def Ctr.TQ.TS_TX_Q : Nat := 0x508
def Ctr.TQ.TS_LOST : Nat := 0x510
def Ctr.TQ.TS_ERR : Nat := 0x518
def Ctr.TQ.TS_ONE_STEP : Nat := 0x520
def Ctr.TQ.TC_UPD : Nat := 0x528
def Ctr.TQ.TC_SKIP : Nat := 0x530
def Ctr.TQ.ONE_STEP_LATE : Nat := 0x538
def Ctr.VLT.JOBS : Nat := 0x400
def Ctr.VLT.JOB_FAIL : Nat := 0x408
def Ctr.VLT.TAG_FAIL : Nat := 0x410
def Ctr.VLT.KEY_ABSENT : Nat := 0x418
def Ctr.VLT.CRYPT_FAIL : Nat := 0x420
def Ctr.VLT.ESCROW_WAITS : Nat := 0x428
def Ctr.VLT.KEY_LOST : Nat := 0x430
def Ctr.VLT.MINT_RESEEDS : Nat := 0x438
def Ctr.VLT.MINT_HEALTH_FAIL : Nat := 0x440
def Ctr.VLT.OWNER_CMDS : Nat := 0x448
def Ctr.VLT.DEBUG_REJECTS : Nat := 0x450
def Ctr.VLT.ATTESTS : Nat := 0x458
def Ctr.TQ.TX_PROTECTED : Nat := 0x600
def Ctr.TQ.TX_ENCRYPTED : Nat := 0x608
def Ctr.TQ.TX_NO_SA : Nat := 0x610
def Ctr.TQ.TX_SA_STOPPED : Nat := 0x618
def Ctr.TQ.RX_OK : Nat := 0x620
def Ctr.TQ.RX_UNTAGGED : Nat := 0x628
def Ctr.TQ.RX_NO_TAG : Nat := 0x630
def Ctr.TQ.RX_BAD_TAG : Nat := 0x638
def Ctr.TQ.RX_NO_SA : Nat := 0x640
def Ctr.TQ.RX_LATE : Nat := 0x648
def Ctr.TQ.RX_UNCHECKED : Nat := 0x650
def Ctr.TQ.RX_NOT_VALID : Nat := 0x658
def Ctr.TQ.ICV_FAIL : Nat := 0x660
def Ctr.MC.REF_ISSUED : Nat := 0x400
def Ctr.MC.REF_POSTPONED : Nat := 0x408
def Ctr.MC.REF_FORCED : Nat := 0x410
def Ctr.MC.REF_CATCHUP : Nat := 0x418
def Ctr.MC.RFM_ISSUED : Nat := 0x420
def Ctr.MC.RH_THROTTLE : Nat := 0x428
def Ctr.MC.ECC_CE : Nat := 0x430
def Ctr.MC.ECC_UE : Nat := 0x438
def Ctr.MC.SCRUB_CE : Nat := 0x440
def Ctr.MC.RAW_WAITS : Nat := 0x448
def Ctr.MC.RETIRE_DROP : Nat := 0x450
def Ctr.MC.PAGES_RETIRED : Nat := 0x458
def Ctr.MC.TRAIN_RUNS : Nat := 0x460
def Ctr.HST.BAD_REQ : Nat := 0x400
def Ctr.HST.RD_TIMEOUTS : Nat := 0x408
def Ctr.HST.DARK_ACCESSES : Nat := 0x410
def Ctr.HST.MSIX_SENT : Nat := 0x418
def Ctr.DMA.DESCS : Nat := 0x400
def Ctr.DMA.BYTES : Nat := 0x408
def Ctr.DMA.STALE : Nat := 0x410
def Ctr.DMA.BUS_ERRS : Nat := 0x418
def Ctr.DMA.ABORTS : Nat := 0x420
def Ctr.DMA.TRUNCS : Nat := 0x428
def Ctr.DMA.PKT_LOST : Nat := 0x430
def Ctr.DMA.MASTER_DISC : Nat := 0x20400
def Ctr.EVT.RECORDS : Nat := 0x400
def Ctr.EVT.RING_LOST : Nat := 0x408
def Ctr.EVT.LGR_WRITTEN : Nat := 0x428
def Ctr.EVT.LGR_DROP : Nat := 0x430
def Ctr.EVT.OSP_LOST : Nat := 0x438
def Ctr.AON.PWR_ENTRIES : Nat := 0x800
def Ctr.AON.PWR_REFUSALS : Nat := 0x808
def Ctr.AON.WAKE_RETRIES : Nat := 0x810
def Ctr.AON.WAKE_FAILS : Nat := 0x818
def Ctr.AON.DVFS_ORDER : Nat := 0x820
def Ctr.AON.SAGS : Nat := 0x828
def Ctr.AON.GASP_SKIPPED : Nat := 0x830
def Ctr.AON.DRAINS : Nat := 0x838
def Ctr.AON.FAULT_LIMITS : Nat := 0x840
def Ctr.PN.PRBS_BITS : Nat := 0x610
def Ctr.STW.RESTARTS : Nat := 0x400
def Ctr.STW.WDOG_EXP : Nat := 0x408
def Ctr.STW.SWITCH_FAIL : Nat := 0x410
def Ctr.STW.OMCI_RX : Nat := 0x418
def Ctr.STW.OMCI_TX : Nat := 0x420
def Ctr.STW.OMCI_MIC : Nat := 0x428
def Ctr.STW.OMCI_LOST : Nat := 0x430
def Ctr.STW.PLOAM_LOST : Nat := 0x438
def Ctr.STW.OWN_DISC : Nat := 0x440
def Ctr.PMC.SAMPLES : Nat := 0x1000
def Ctr.PMC.SAMPLE_MISS : Nat := 0x1008
def Ctr.CHK.SCANS : Nat := 0x400
def Ctr.CHK.STREAMS : Nat := 0x408
def Ctr.CHK.STREAM_FAILS : Nat := 0x410
def Ctr.CHK.SCRUBS : Nat := 0x418
def Ctr.CHK.SCRUB_FAILS : Nat := 0x420

/-- The counter ranges of a window class (first and last counter offset, R532); a paged window repeats them in
every page. -/
def ctrsAON : List (Nat × Nat) := [(0x800, 0x840)]
def ctrsTIM : List (Nat × Nat) := [(0x400, 0x440)]
def ctrsPN : List (Nat × Nat) := [(0x200, 0x300), (0x400, 0x4e0), (0x500, 0x520), (0x610, 0x610)]
def ctrsBC : List (Nat × Nat) := [(0x400, 0x430)]
def ctrsTQ : List (Nat × Nat) := [(0x400, 0x4f8), (0x500, 0x538), (0x600, 0x660)]
def ctrsK : List (Nat × Nat) := [(0x800, 0x840), (0x900, 0xa18), (0xa40, 0xa70)]
def ctrsTBL : List (Nat × Nat) := [(0x400, 0x458)]
def ctrsTLR : List (Nat × Nat) := [(0x400, 0x438)]
def ctrsINS : List (Nat × Nat) := [(0x400, 0x420)]
def ctrsTMG : List (Nat × Nat) := [(0xc00, 0xc28)]
def ctrsVLT : List (Nat × Nat) := [(0x400, 0x458)]
def ctrsMC : List (Nat × Nat) := [(0x400, 0x460)]
def ctrsHST : List (Nat × Nat) := [(0x400, 0x418)]
def ctrsDMA : List (Nat × Nat) := [(0x400, 0x430)]
def ctrsEVT : List (Nat × Nat) := [(0x400, 0x438)]
def ctrsCHK : List (Nat × Nat) := [(0x400, 0x420)]
def ctrsPMC : List (Nat × Nat) := [(0x1000, 0x1008)]
def ctrsSTW : List (Nat × Nat) := [(0x400, 0x440)]

end Sys2Proof.Machine
end

