-- ==== Sys2Proof/Machine/SMap.lean ====
section
/-! DEFINITION. Sparse maps in one canonical form: a list of (key, value) pairs with rising keys and no entry equal to
what an unlisted key reads as. The register file, the 64-bit counters, the Tally and the tables are held this way. -/

namespace Sys2Proof.Machine

/-- A sparse map from numbers to values. -/
abbrev SMap (β : Type) := List (Nat × β)

/-- The value at `k`: the entry's, else what an unlisted key reads as. -/
def SMap.get {β : Type} (dflt : Nat → β) : SMap β → Nat → β
  | [], k => dflt k
  | (j, v) :: t, k => if j = k then v else SMap.get dflt t k

/-- The map without any entry for `k`. -/
def SMap.erase {β : Type} : SMap β → Nat → SMap β
  | [], _ => []
  | (j, v) :: t, k => if j = k then SMap.erase t k else (j, v) :: SMap.erase t k

/-- The map with `v` entered at `k`, in rising key order. -/
def SMap.ins {β : Type} : SMap β → Nat → β → SMap β
  | [], k, v => [(k, v)]
  | (j, u) :: t, k, v =>
    if k < j then (k, v) :: (j, u) :: t
    else if j = k then (k, v) :: t
    else (j, u) :: SMap.ins t k v

/-- Write `v` at `k`, keeping the canonical form: writing what an unlisted key reads as removes the entry. -/
def SMap.set {β : Type} [DecidableEq β] (dflt : Nat → β) (m : SMap β) (k : Nat) (v : β) : SMap β :=
  if v = dflt k then SMap.erase m k else SMap.ins m k v

/-- The canonical form above a lower bound: keys rise from `lo` on, and no entry equals its default. -/
def SMap.wfFrom {β : Type} [DecidableEq β] (dflt : Nat → β) : Nat → SMap β → Bool
  | _, [] => true
  | lo, (j, v) :: t => decide (lo ≤ j) && decide (v ≠ dflt j) && SMap.wfFrom dflt (j + 1) t

/-- The canonical form of a sparse map. -/
def SMap.wf {β : Type} [DecidableEq β] (dflt : Nat → β) (m : SMap β) : Bool := SMap.wfFrom dflt 0 m

/-- Every key listed in the map. -/
def SMap.keys {β : Type} (m : SMap β) : List Nat := m.map (·.1)

/-- Apply `f` to the value at `k`. -/
def SMap.modify {β : Type} [DecidableEq β] (dflt : Nat → β) (m : SMap β) (k : Nat) (f : β → β) : SMap β :=
  SMap.set dflt m k (f (SMap.get dflt m k))

end Sys2Proof.Machine
end

