-- ==== Sys2Proof/Machine/Regs.lean ====
section
/-! DEFINITION. Decoding a BAR0 offset (R5, R6, R13, R14, R529, R530, R532): the window of an island, the page and the
register in it, the access codes of its bits and the register's value at reset. -/

namespace Sys2Proof.Machine

/-- The offset of an island's window (R6). -/
def window (id : Nat) : Nat := id * 0x100000

/-- The island ID of a BAR0 offset (R529: A[25:20]). -/
def islandOf (a : Nat) : Nat := a / 0x100000 % 64

/-- The offset inside the window (R529: A[19:0]). -/
def offsetOf (a : Nat) : Nat := a % 0x100000

/-- The number of pages of an island's window, none for a reserved island ID (R13, R14). -/
def islandInst (id : Nat) : Option Nat :=
  if id = 0x00 ∨ id = 0x01 ∨ id = 0x04 then some 1
  else if 0x08 ≤ id ∧ id ≤ 0x0B then some 1
  else if 0x10 ≤ id ∧ id ≤ 0x1B then some 4
  else if id = 0x20 ∨ id = 0x21 ∨ id = 0x22 ∨ id = 0x24 then some 1
  else if id = 0x25 then some 32
  else if id = 0x28 ∨ id = 0x29 ∨ id = 0x2C then some 1
  else if 0x30 ≤ id ∧ id ≤ 0x38 then some 1
  else if id = 0x3A then some 1
  else if id = 0x3B then some 32
  else if id = 0x3C then some 1
  else if id = 0x3D then some 4
  else if id = 0x3E ∨ id = 0x3F then some 1
  else none

/-- The register table of an island's window (R532). -/
def islandRegs (id : Nat) : List RegSpec :=
  if id = 0x00 then regsAON
  else if id = 0x04 then regsTIM
  else if id = 0x08 ∨ id = 0x09 then regsPN
  else if id = 0x0A ∨ id = 0x0B then regsBC
  else if 0x10 ≤ id ∧ id ≤ 0x1B then regsTQ
  else if id = 0x20 ∨ id = 0x21 then regsK
  else if id = 0x22 then regsTBL
  else if id = 0x24 then regsTLR
  else if id = 0x25 then regsINS
  else if id = 0x28 then regsTMG
  else if id = 0x2C then regsVLT
  else if 0x30 ≤ id ∧ id ≤ 0x37 then regsMC
  else if id = 0x38 then regsMCC
  else if id = 0x3A then regsHST
  else if id = 0x3B then regsDMA
  else if id = 0x3C then regsEVT
  else if id = 0x3D then regsCHK
  else if id = 0x3E then regsPMC
  else if id = 0x3F then regsSTW
  else []

/-- The counter ranges of an island's window (R532). -/
def islandCtrs (id : Nat) : List (Nat × Nat) :=
  if id = 0x00 then ctrsAON
  else if id = 0x04 then ctrsTIM
  else if id = 0x08 ∨ id = 0x09 then ctrsPN
  else if id = 0x0A ∨ id = 0x0B then ctrsBC
  else if 0x10 ≤ id ∧ id ≤ 0x1B then ctrsTQ
  else if id = 0x20 ∨ id = 0x21 then ctrsK
  else if id = 0x22 then ctrsTBL
  else if id = 0x24 then ctrsTLR
  else if id = 0x25 then ctrsINS
  else if id = 0x28 then ctrsTMG
  else if id = 0x2C then ctrsVLT
  else if 0x30 ≤ id ∧ id ≤ 0x37 then ctrsMC
  else if id = 0x3A then ctrsHST
  else if id = 0x3B then ctrsDMA
  else if id = 0x3C then ctrsEVT
  else if id = 0x3D then ctrsCHK
  else if id = 0x3E then ctrsPMC
  else if id = 0x3F then ctrsSTW
  else []

/-- Whether `d` is a byte distance some index combination of the array dimensions gives. -/
def dimsHit : List (Nat × Nat) → Nat → Bool
  | [], d => d == 0
  | (n, st) :: ds, d => dimsHit ds (d - min (n - 1) (d / st) * st)

/-- The register of a window that lies at an offset. -/
def RegSpec.hits (r : RegSpec) (off : Nat) : Bool := decide (r.off ≤ off) && dimsHit r.dims (off - r.off)

/-- The register a BAR0 offset names, where one is implemented there. -/
def findReg (a : Nat) : Option RegSpec := (islandRegs (islandOf a)).find? (·.hits (offsetOf a))

/-- Whether a BAR0 offset is the island header register (R15, R530: page 0 only). -/
def isHeader (a : Nat) : Bool := decide (offsetOf a = 0xFFC) && (islandInst (islandOf a)).isSome

/-- Whether a BAR0 offset is a word of a 64-bit counter (R511, R532). -/
def isCounterWord (a : Nat) : Bool :=
  let off := offsetOf a
  let inst := (islandInst (islandOf a)).getD 1
  let inPage := if inst = 1 then off else off % 0x1000
  (decide (inst = 1) || decide (off < inst * 0x1000)) &&
    (islandCtrs (islandOf a)).any (fun p => decide (p.1 ≤ inPage) && decide (inPage ≤ p.2 + 4)) ||
  (decide (islandOf a = 0x3B) && (decide (off = 0x20400) || decide (off = 0x20404)))

/-- The value a field list gives at reset. -/
def fieldsReset (l : List FieldSpec) : Nat := (l.map fun f => f.reset * 2 ^ f.fld.lo).sum

/-- The severities of R534, 0 Info, 1 Warning, 2 Error, for sources 0 to 64. -/
def sevTable0 : List Nat := [
  2, 0, 1, 1, 1, 1, 1, 1, 0, 2, 0, 2, 2, 2, 1, 1, 2, 1, 0, 2, 1, 1, 2, 1, 1, 2, 1, 1, 1, 0,
  1, 0, 2, 1, 1, 2, 1, 1, 2, 1, 1, 1, 0, 0, 0, 1, 2, 2, 1, 2, 2, 1, 1, 0, 0, 2, 0, 0, 1, 2,
  2, 1, 2, 2, 1]

/-- The severities of R534, 0 Info, 1 Warning, 2 Error, for sources 65 to 129. -/
def sevTable1 : List Nat := [
  1, 0, 0, 2, 0, 0, 1, 1, 1, 1, 1, 0, 0, 0, 0, 0, 0, 0, 0, 0, 0, 0, 0, 0, 0, 0, 0, 0, 0, 0,
  0, 0, 0, 0, 0, 0, 0, 0, 0, 0, 0, 0, 0, 0, 0, 0, 0, 0, 0, 0, 0, 0, 0, 0, 0, 0, 0, 0, 0, 0,
  2, 2, 2, 2, 2]

/-- The severities of R534, 0 Info, 1 Warning, 2 Error, for sources 130 to 194. -/
def sevTable2 : List Nat := [
  2, 2, 2, 2, 2, 2, 2, 1, 0, 0, 1, 1, 0, 1, 2, 1, 1, 1, 1, 2, 2, 0, 1, 1, 0, 0, 0, 2, 0, 1,
  1, 1, 1, 1, 1, 2, 1, 2, 0, 1, 1, 1, 1, 1, 0, 0, 1, 0, 0, 1, 1, 1, 1, 0, 0, 1, 1, 0, 1, 1,
  1, 2, 0, 0, 1]

/-- The severities of R534, 0 Info, 1 Warning, 2 Error, for sources 195 to 259. -/
def sevTable3 : List Nat := [
  0, 1, 1, 2, 2, 2, 0, 0, 1, 1, 0, 1, 0, 1, 1, 2, 1, 1, 1, 0, 2, 0, 1, 0, 2, 0, 2, 0, 0, 2,
  1, 0, 1, 2, 1, 0, 1, 2, 1, 2, 2, 2, 0, 2, 0, 1, 1, 0, 1, 2, 2, 1, 0, 2, 0, 2, 2, 2, 0, 0,
  0, 1, 0, 1, 2]

/-- The severity of an event source (R534); reserved and software sources answer 0 here. -/
def srcSeverity (src : Nat) : Nat :=
  if src < 65 then sevTable0.getD src 0
  else if src < 130 then sevTable1.getD (src - 65) 0
  else if src < 195 then sevTable2.getD (src - 130) 0
  else sevTable3.getD (src - 195) 0

/-- The value of the register word at a BAR0 offset at reset: what its table gives, with the values that differ from
one index to the next (R15, R138, R236, R311, R475, R477). -/
def resetWord (a : Nat) : Word :=
  let id := islandOf a
  let off := offsetOf a
  let base := match findReg a with
    | some r => fieldsReset r.fields
    | none => 0
  BitVec.ofNat 32 <|
    if isHeader a then id * 0x1000000 + (islandInst id).getD 0 * 0x10000 + 0x00B0
    else if id = 0x09 ∧ off = 0x178 then 0x00060004
    else if id = 0x22 ∧ off = 0x110 then 0x100
    else if id = 0x22 ∧ off = 0x1AC then 0x44444000
    else if id = 0x28 ∧ off = 0x10 then 0x18000
    else if id = 0x28 ∧ off = 0x14 then 0x10000
    else if id = 0x28 ∧ off = 0x18 then 0x2000
    else if id = 0x28 ∧ off = 0x1C then 0x4000
    else if id = 0x3B ∧ off < 0x20000 ∧ off % 0x1000 = 0x20 then off / 0x1000
    else if id = 0x3C ∧ off < 0x80 ∧ off % 0x20 = 0x08 then base + (32 + off / 0x20) * 0x10000
    else if id = 0x3C ∧ 0x1000 ≤ off ∧ off ≤ 0x198C ∧ off % 4 = 0 then
      (if srcSeverity ((off - 0x1000) / 4) = 0 then 0x88000000 else 0x98000000)
    else base

end Sys2Proof.Machine
end

