-- ==== Sys2Proof/Machine/State.lean ====
section
/-! DEFINITION. The machine's state: the registers, counters, tables, queues, buffers, timers and pins the spec gives the
device, all plain data, and the state right after power-on reset. -/

namespace Sys2Proof.Machine

/-- Why the machine stops with a fault. The spec gives the block no happening that stops it, so no meaning raises one. -/
inductive Fault where
  /-- Raised by nobody: every command of the spec leaves the block running. Safe. -/
  | none
  deriving DecidableEq, Repr

/-- Why a command has no meaning in this model. -/
inductive Refusal where
  /-- Raised by the dispatch for a command that has no meaning yet. Safe: no next state is claimed. -/
  | notModelled (mnemonic : String)
  deriving DecidableEq, Repr

/-- Two like things, one for each channel or pipeline. -/
structure Pair (α : Type) where
  a : α
  b : α
  deriving DecidableEq, Repr

/-- The member for an index. -/
def Pair.get {α : Type} (p : Pair α) (i : Fin 2) : α := if i.val = 0 then p.a else p.b

/-- The pair with one member replaced. -/
def Pair.set {α : Type} (p : Pair α) (i : Fin 2) (x : α) : Pair α :=
  if i.val = 0 then { p with a := x } else { p with b := x }

/-! ### Events -/

/-- An event as its island raised it (R463, R464): the record's fields but those EVT fills in. -/
structure RaisedEvt where
  src : Nat
  sev : Nat
  island : Nat
  inst : Nat
  payload : List Byte
  boot : Bool
  deriving DecidableEq, Repr

/-- The events island, the Ledger's event ring and the AON boot buffer (R73, R463 to R471). -/
structure EvtState where
  /-- Raised and not yet accepted, oldest first (R466). -/
  queue : List RaisedEvt
  /-- The AON boot buffer of R73, oldest first, at most 32. -/
  bootBuf : List RaisedEvt
  /-- Boot events lost to a full buffer (R73). -/
  bootLost : Nat
  /-- SEQ of each host ring (R465). -/
  ringSeq : SMap Nat
  /-- SEQ of the Ledger sink (R465). -/
  lgrSeq : Nat
  /-- SEQ of OSPA (R465). -/
  ospSeq : Nat
  /-- The Ledger's record allowance, in records times clocks per second (R468). -/
  lgrTokens : Nat
  /-- When the allowance was last brought up to date. -/
  lgrAt : Nat
  /-- The Ledger event ring, 65,536 records of 32 bytes by slot (R468). -/
  lgrRing : SMap (List Byte)
  /-- OSPA's event queue, oldest first, at most 128 (R469). -/
  ospQ : List (List Byte)
  /-- When each rate-limited event was last raised, plus one; 0 is never. -/
  lastRaise : SMap Nat
  /-- Pending causes of each MSI-X vector (R471). -/
  msixCauses : SMap Nat
  /-- The MSI-X table of BAR2, 64 entries of 4 words (R440). -/
  msixTable : SMap Word
  /-- The pending bit array (R440). -/
  msixPba : SMap Bool
  /-- MSI-X Enable (R471). -/
  msixEnable : Bool
  /-- The function mask (R471). -/
  msixFuncMask : Bool
  /-- The AER status registers of the function, uncorrectable and correctable (R439, R479). -/
  aer : Word × Word
  deriving DecidableEq, Repr

/-! ### The time engine -/

/-- A command the apply pipeline holds (R319). -/
structure AdjCmd where
  /-- 0 set time, 1 add offset, 2 set rate. -/
  op : Nat
  /-- The time, the signed offset or the rate, sampled at acceptance. -/
  value : Int
  /-- The raw count at which it applies. -/
  nP : Nat
  /-- From the servo, not from software. -/
  servo : Bool
  deriving DecidableEq, Repr

/-- One entry of a port's timestamp queue (R332): the time in units of 2⁻¹⁶ ns and the message's fields. -/
structure TsEntry where
  time : Nat
  err : Bool
  msgType : Nat
  domain : Nat
  seqId : Nat
  deriving DecidableEq, Repr

/-- What a SYNCE_OUT pin drives (R344). -/
inductive SynceDrive where
  | low
  /-- A tenant lane's recovered clock, divided to 156.25 MHz. -/
  | lane (n : Nat)
  /-- A PON channel's forwarded clock, divided to 155.52 MHz. -/
  | pon (c : Nat)
  /-- The DPLL's 156.25 MHz. -/
  | dpll
  deriving DecidableEq, Repr

/-- The time engine (R317 to R347). Times are in units of 2⁻¹⁶ ns, raw counts in ticks of 0.8 ns. -/
structure TimeState where
  /-- The raw count N (R317). -/
  rawN : Nat
  /-- The anchor's raw count N_A (R318). -/
  anchorN : Nat
  /-- The anchor's time T_A (R318). -/
  anchorT : Nat
  /-- The anchor and the rate before the last update, for stamps of raw counts before it (R323). -/
  oldN : Nat
  oldT : Nat
  oldAdj : Int
  /-- The command in the apply pipeline (R319). -/
  pending : Option AdjCmd
  /-- The servo update that waits for the pipeline: its OP and its value (R320). -/
  waiting : Option (Nat × Int)
  /-- A sample of the selected source, not yet handled (R336). -/
  sample : Option Int
  /-- The servo's lock count (R338). -/
  lockCount : Nat
  /-- Large samples in a row in LOCKED (R338). -/
  outlierRun : Nat
  /-- The raw count of the previous applied sample (R337). -/
  lastSampleN : Option Nat
  /-- TIM_HOLD_LONG has been raised in this holdover (R339). -/
  holdLong : Bool
  /-- Why the servo entered HOLDOVER: 0 timeout, 1 source fault, 2 TIM fault (R351). -/
  holdCause : Nat
  /-- Islands whose stamps carry ERR = 1 until their replica reloads (R324). -/
  repErr : List Nat
  /-- Good serial words each island's replica still needs before it is loaded, and the clock by which they have come where no
  command tells of another word (R324). -/
  repNeed : SMap Nat
  repAt : SMap Nat
  /-- The PON time-of-day result being computed: the channel and θ (R341). -/
  ptod : Option (Nat × Int)
  /-- A Ranging_Time has been accepted since the capture, by channel (R342). -/
  rangedSince : Pair Bool
  /-- The SyncE input is at fault (R343). -/
  synceFault : Bool
  /-- What SYNCE_OUT0 and SYNCE_OUT1 drive (R344). -/
  synceOut : Pair SynceDrive
  /-- The DPLL's measured frequency offset in ADJ units (R340). -/
  dpllOffset : Int
  /-- The last PPS_IN edge, where the check has started: its strobe count and its code (R345). -/
  ppsLast : Option (Nat × Nat)
  /-- The whole second of device time whose PPS_OUT pulse comes next (R346). -/
  ppsNext : Nat
  /-- Received ToD bytes, oldest first, at most 256 (R347). -/
  todRx : List Byte
  /-- ToD bytes to send, oldest first, at most 256 (R347). -/
  todTx : List Byte
  /-- The oldest ToD bytes that a PPS_OUT edge has released, edge by edge: how many, and the clock at which their sending
  starts (R347). -/
  todArms : List (Nat × Nat)
  /-- The timestamp queue of each port, at most 64 entries (R332). -/
  tsQ : SMap (List TsEntry)
  deriving DecidableEq, Repr

/-! ### The table store (R217 to R233, R239) -/

/-- A learn request (R222): the key, the source and the DEST of the new entry. -/
structure LearnReq where
  fid : Nat
  mac : Nat
  src : Nat
  dest : Nat
  /-- The clock in which the packet asked for it (R224). -/
  asked : Nat
  deriving DecidableEq, Repr

/-- What has happened in one clock: the clock and the numbers it happened to (R224). -/
structure InClock where
  clock : Nat
  keys : List Nat
  deriving DecidableEq, Repr

/-- Nothing has happened. -/
def InClock.none : InClock := { clock := 0, keys := [] }

/-- It happens to a number in a clock. -/
def InClock.note (x : InClock) (now k : Nat) : InClock :=
  { clock := now, keys := if x.clock = now then k :: x.keys else [k] }

/-- Whether it has happened to a number in a clock. -/
def InClock.has (x : InClock) (now k : Nat) : Bool := decide (x.clock = now) && x.keys.contains k

/-- The table store. -/
structure TblState where
  /-- The entries' words as one number, by TABLE * 65,536 + index; ternary tables by 3 * 65,536 + row (R217, R219). -/
  ents : SMap Nat
  /-- The action lists' 8 words as one number, by index (R239). -/
  acts : SMap Nat
  /-- The template halves' 8 words as one number (R273). -/
  tpls : SMap Nat
  /-- The parse graphs' nodes, 12 words as one number, by (2 * pipeline + bank) * 64 + node (R204). -/
  graph : SMap Nat
  /-- The learn queue, oldest first, at most 64 (R222). -/
  learnQ : List LearnReq
  /-- The L2 keys software has written, the entries that learning has placed and the entries that lookups have hit, in the last
  clock in which one was (R224). -/
  softNow : InClock
  learntNow : InClock
  hitNow : InClock
  /-- Packets in flight of epoch 0 and of epoch 1 (R227). -/
  inflight : Pair Nat
  /-- The bank a copy to the spare is under way from, with the spare (R232). -/
  copying : List (Nat × Nat)
  deriving DecidableEq, Repr

/-! ### The pipelines (R32, R33, R230) -/

/-- One pipeline. -/
structure PipeState where
  /-- Packets waiting in the wire sources' ingress FIFOs, by source code, oldest first (R33, R97, R177). -/
  wire : SMap (List Packet)
  /-- The source code last granted a slot, plus one (R33). -/
  wireLast : Nat
  /-- Injected packets ready, by DMA channel (R33). -/
  host : SMap (List Packet)
  /-- The DMA channel last granted a slot, plus one. -/
  hostLast : Nat
  /-- The recirculation queue, oldest first, at most 64 (R230). -/
  recirc : List Packet
  /-- Packets in a pass, oldest first. -/
  inPass : List Packet
  deriving DecidableEq, Repr

/-! ### The Teller, the Clearing and the engines (R148 to R151, R260 to R271) -/

/-- Where a work item stands (R265). -/
inductive ItemAt where
  /-- Given and not dispatched. -/
  | ready
  /-- Dispatched to an engine. -/
  | engine (e : Nat)
  /-- Delivered to the software consumer. -/
  | delivered
  /-- Completed, in the Clearing. -/
  | done
  deriving DecidableEq, Repr

/-- A work item (R260, R261). -/
structure Item where
  id : Nat
  pkt : Packet
  pipe : Nat
  cls : Nat
  level : Nat
  ordered : Bool
  resume : Bool
  pset : Nat
  domain : Nat
  reason : Nat
  at_ : ItemAt
  /-- Cancelled while an engine or the consumer held it: its result is discarded (R265). -/
  marked : Bool
  /-- The clock of its GIVE. -/
  since : Nat
  /-- The clock of its dispatch. -/
  takenAt : Nat
  /-- The clock at which it completed. -/
  doneAt : Nat
  deriving DecidableEq, Repr

/-- An entry a stripe window holds: a packet, or a skip marker where there is none (R148). -/
structure Held where
  seq : Nat
  pkt : Option Packet
  since : Nat
  deriving DecidableEq, Repr

/-- A stripe context (R148, R160). -/
structure StripeCtx where
  valid : Bool
  init : Bool
  sf : Nat
  next : Nat
  held : List Held
  deriving DecidableEq, Repr

/-- An empty stripe context. -/
def StripeCtx.empty : StripeCtx :=
  { valid := false, init := false, sf := 0, next := 0, held := [] }

/-- The Teller, its Clearing and the pattern store. -/
structure TlrState where
  /-- Every allocated item, in GIVE order (R261, R262). -/
  items : List Item
  /-- The Clearing's ordered entries by domain, earliest first: an item's ID, or none for a skip (R268). -/
  domains : SMap (List (Option Nat))
  /-- The engine last given work, plus one (R263). -/
  lastEng : Nat
  /-- Bit l: TLR_LEVEL_HIGH has been raised for level l and its depth has not fallen back (R271). -/
  highs : Nat
  /-- The stripe contexts (R160). -/
  stripes : SMap StripeCtx
  /-- Skip markers on the PON islands' side paths: their channel, service flow and number, oldest first (R150). -/
  markers : List (Nat × Nat × Nat)
  /-- The pattern slots' 35 words as one number, by bank * 16,384 + index (R253, R254). -/
  pats : SMap Nat
  /-- What INS_ENG_STAT.LOAD is taken from (R271): for each engine the 1 ms window in which a scan of it last ended, and the ticks
it scanned in that window and in the one before. -/
  scans : SMap (Nat × Nat × Nat)
  deriving DecidableEq, Repr

/-! ### The traffic manager (R278 to R299) -/

/-- A packet in a queue's DRAM segment: its place in the segment in bytes and the bytes it occupies (R286). -/
structure DeepPkt where
  pkt : Packet
  start : Nat
  size : Nat
  deriving DecidableEq, Repr

/-- A finish tag (R290): F, whether the present head has it, and the PRIO in force for that head. -/
structure Tag where
  f : Nat
  on : Bool
  prio : Nat
  deriving DecidableEq, Repr

/-- No tag yet. -/
def Tag.none : Tag := { f := 0, on := false, prio := 0 }

/-- A queue (R285, R290): the packets on chip and in DRAM, oldest first. -/
structure QState where
  chip : List Packet
  /-- Cells charged to the queue. -/
  cells : Nat
  deep : List DeepPkt
  /-- The segment's end in bytes since it was last empty. -/
  deepEnd : Nat
  /-- The segment's pages: the page's index in the segment, its DRAM channel, and whether an uncorrectable error was read
  in it (R417, R430). -/
  pages : List (Nat × Nat × Bool)
  /-- The finish tag of the head packet (R290). -/
  tag : Tag
  deriving DecidableEq, Repr

/-- An empty queue. -/
def QState.empty : QState := { chip := [], cells := 0, deep := [], deepEnd := 0, pages := [], tag := Tag.none }

/-- A Purse (R291, R292, R294). -/
structure Purse where
  rate : Nat
  burst : Nat
  mode : Nat
  aware : Bool
  /-- Tokens in millibytes; a shaper's may be negative (R293). -/
  tokens : Int
  /-- Tokens as of the last step (R311). -/
  stepped : Int
  /-- Settings written and not yet applied: rate, burst, mode and AWARE (R292). -/
  next : Option (Nat × Nat × Nat × Bool)
  deriving DecidableEq, Repr

/-- A Purse at reset: TMG_PURSE_MODE resets to 01 (R311). -/
def Purse.empty : Purse := { rate := 0, burst := 0, mode := 1, aware := false, tokens := 0, stepped := 0, next := none }

/-- A gate list in force or pending (R296 to R299): its entries as (INTERVAL, GATES), cycle time in ns, and the start of
its current cycle in ns of device time. -/
structure GateList where
  entries : List (Nat × Nat)
  cycle : Nat
  start : Nat
  deriving DecidableEq, Repr

/-- The operational gate list at reset: one entry with every gate open, as the admin list's reset values (R311, R313). -/
def GateList.empty : GateList := { entries := [(0, 255)], cycle := 1000000000, start := 0 }

/-- The traffic manager. -/
structure TmgState where
  /-- Packets arriving, oldest first. -/
  inQ : List Packet
  /-- The four words of a queue's entry as one number (R312). -/
  qcfg : SMap Nat
  /-- The two words of a group's entry (R312). -/
  gcfg : SMap Nat
  /-- The two words of a multicast group's entry (R312). -/
  mcast : SMap Nat
  /-- The queues. -/
  qs : SMap QState
  /-- The groups' finish tags (R290). -/
  gTag : SMap Tag
  /-- The schedulers' virtual times: groups by index, nodes by 1,024 + node, allocations by 2,048 + 128 * channel +
  index (R290). -/
  vtime : SMap Nat
  /-- The Purses: shaper Purses by index, policer Purses by 4,096 + index (R291). -/
  purses : SMap Purse
  /-- Copies that still refer to a stored packet, by its number (R280). -/
  refs : SMap Nat
  /-- The number of the next stored packet, less one. -/
  lastUid : Nat
  /-- Cells held of each port and first-pass TC, by 8 * port + TC (R284). -/
  pfcCells : SMap Nat
  /-- The priorities of each port in XOFF (R284). -/
  xoff : SMap Nat
  /-- Bytes placed in DRAM: downstream and upstream (R286). -/
  deepUsed : Pair Nat
  /-- The write budgets of R38, in bytes, and when they were last brought up to date. -/
  wrBudget : Pair Nat
  wrAt : Pair Nat
  /-- The read budgets of R38. -/
  rdBudget : Pair Nat
  rdAt : Pair Nat
  /-- The admin gate lists' entries, by 256 * port + index: INTERVAL and GATES (R296). -/
  gclAdmin : SMap (Nat × Nat)
  /-- The operational gate lists by port (R296). -/
  gclOper : SMap GateList
  /-- The change times C of committed gate lists by port, in ns of device time (R298). -/
  gclChange : SMap (Option Nat)
  /-- The next stripe number of each service flow, plus one; 0 starts a sequence (R145). -/
  txSeq : SMap Nat
  /-- The composer that stages next when both ask for staging from one queue in one clock (R145). -/
  stageTurn : Fin 2
  /-- SDUs enqueued to upstream queues in the last 1,000 µs: the clock, the queue and the bytes, oldest first (R310). -/
  arrivals : List (Nat × Nat × Nat)
  deriving DecidableEq, Repr

/-! ### Tenant ports (R163 to R202) -/

/-- A tenant port: what its registers do not show. -/
structure TqPort where
  /-- The frame handed to the MAC. -/
  mac : Option Packet
  /-- Attempts that frame has made in half duplex (R178). -/
  tries : Nat
  /-- Priorities whose XOFF the MAC has last signalled to its partner (R188). -/
  sent : Nat
  /-- The clock before which that frame does not leave, where it needs insertion: its T_launch (R334). -/
  launch : Option Nat
  /-- The clock at which the frame last transmitted and the interpacket gap behind it have ended (R334). -/
  busy : Nat
  /-- The SecY's entries (R389), seven words as one number: 0 to 3 transmit SAs, 8 to 15 receive SCs, 16 to 47 receive SAs;
  bit 224 of a transmit SA: TP_SEC_PN_THRESHOLD has been raised, bit 225: TP_SEC_PN_EXHAUSTED has (R384). -/
  sec : SMap Nat
  deriving DecidableEq, Repr

/-- A lane's pattern generator and checker (R192, R193): what its registers do not show. -/
structure Prbs where
  /-- The generator's last bits before injection, the latest in bit 0; the bits it has sent; at which of them the errors of
  INJ_RATE fall; and the bits left before the one INJ_ONE inverts. -/
  gen : Nat
  sent : Nat
  phase : Nat
  one : Option Nat
  /-- The checker's pattern state, the bits it has seeded itself with, its run of error-free bits while it hunts, and which of
  the last 64 bits were in error while it is locked, the latest in bit 0. -/
  chk : Nat
  seed : Nat
  run : Nat
  win : Nat
  deriving DecidableEq, Repr

/-- Generator and checker off. -/
def Prbs.idle : Prbs := { gen := 0, sent := 0, phase := 0, one := none, chk := 0, seed := 0, run := 0, win := 0 }

/-- A port that holds nothing. -/
def TqPort.empty : TqPort := { mac := none, tries := 0, sent := 0, launch := none, busy := 0, sec := [] }

/-! ### DMA channels (R449 to R460) -/

/-- A DMA channel: what its registers do not show. -/
structure DmaChan where
  /-- The accepted descriptor's 32 bytes, none where the channel holds none. -/
  desc : Option (List Byte)
  /-- The packet a HOSTQ descriptor has taken (R454). -/
  pkt : Option Packet
  /-- The bytes at the source of an INJECT or COPY descriptor. -/
  data : List Byte
  /-- The status code known at acceptance or by its check: 0, LEN_BAD or CHK_FAIL. -/
  code : Nat
  /-- It waits for the check unit it names (R520), or holds it. -/
  waits : Bool
  unit : Bool
  /-- Re-reads of a stale descriptor made (R451). -/
  rereads : Nat
  /-- The ring in force: its address, MODE, SIZE and SEQ_START (R456). -/
  base : Nat
  mode : Nat
  size : Nat
  seq0 : Nat
  /-- A doorbell held for the next ring (R456). -/
  heldPi : Option Nat
  deriving DecidableEq, Repr

/-- A channel that holds nothing, with the ring the reset values give. -/
def DmaChan.empty : DmaChan :=
  { desc := none, pkt := none, data := [], code := 0, waits := false, unit := false, rereads := 0, base := 0, mode := 0,
    size := 8, seq0 := 0, heldPi := none }

/-! ### The deep-buffer memory (R414 to R437) -/

/-- A request at a DRAM channel (R419 to R421): its requester, whether it writes, its address, whether serving it opens its
row, and whether it is the write-back of a corrected granule (R429). -/
structure McReq where
  id : Nat
  write : Bool
  bank : Nat
  row : Nat
  col : Nat
  opens : Bool
  back : Bool
  deriving DecidableEq, Repr

/-- A row-hammer tracker's entry (R427): the row, its count and the requester of its latest activation. -/
structure RhEntry where
  row : Nat
  count : Nat
  req : Nat
  deriving DecidableEq, Repr

/-- A DRAM channel: what its registers do not show. -/
structure McChan where
  /-- Requests accepted and not issued, oldest first (R420). -/
  reqs : List McReq
  /-- Reads issued whose data has not returned, oldest first (R421). -/
  reads : List McReq
  /-- The trackers by bank (R427). -/
  track : SMap (List RhEntry)
  /-- A lower refresh rate that the last MR4 poll reported, plus one (R424). -/
  lower : Nat
  /-- The level of the channel's RESET_N ball (R540). -/
  resetN : Bool
  deriving DecidableEq, Repr

/-- A channel with nothing to do. -/
def McChan.empty : McChan := { reqs := [], reads := [], track := [], lower := 0, resetN := false }

/-- The deep-buffer memory. -/
structure MemState where
  /-- Pages of each channel that DRAM segments hold (R417). -/
  used : SMap Nat
  /-- Retired pages of each channel (R430). -/
  retired : SMap Nat
  /-- Pages of each channel the trace ring holds, and those of them with an uncorrectable error (R430, R433). -/
  trace : SMap Nat
  traceBad : SMap Nat
  /-- The channel the next page is taken from, at the earliest (R417). -/
  rot : Nat
  chans : SMap McChan
  /-- The clock of a throttled requester's last activation, plus one, by its throttle's timer (R428). -/
  lastAct : SMap Nat
  /-- The trace ring's records by slot, and how many have been written since it was allocated (R433). -/
  ring : SMap (List Byte)
  ringN : Nat
  /-- Trace records that wait in the writer's buffer (R419). -/
  wrBuf : Nat
  deriving DecidableEq, Repr

/-- The deep-buffer memory at reset. -/
def MemState.reset : MemState :=
  { used := [], retired := [], trace := [], traceBad := [], rot := 0, chans := [], lastAct := [], ring := [], ringN := 0,
    wrBuf := 0 }

/-! ### The check units (R519 to R524) -/

/-- The check units: what their registers do not show. -/
structure ChkState where
  /-- Banks waiting to be scrubbed, first in, first out (R520). -/
  scrubs : List Nat
  /-- The bank each unit scrubs (R523). -/
  bank : SMap Nat
  /-- POLY and LEN of each unit's scan, taken at its GO (R521). -/
  scan : SMap (Nat × Nat)
  deriving DecidableEq, Repr

/-! ### Vault slots (R366) -/

/-- A Vault slot that holds a key. -/
structure KeySlot where
  /-- TYPE: 1 AES-128, 2 AES-256, 3 secret. -/
  typ : Nat
  /-- The use bits: bit 0 PON, 1 SEC, 2 JOB, 3 KEK. -/
  use : Nat
  /-- The key, 256 bits; an AES-128 key in the low 128. -/
  key : Nat
  /-- The invocation counter of R380. -/
  iv : Nat
  /-- VLT_IV_THRESHOLD has been raised for the slot. -/
  ivWarned : Bool
  deriving DecidableEq, Repr

/-! ### PON channels (R74 to R140) -/

/-- A candidate of the alignment machine (R78): its bit position, its count and the SFC it expects. -/
structure Cand where
  pos : Nat
  count : Nat
  sfc : Nat
  deriving DecidableEq, Repr

/-- A reassembly (R92): its Port-ID, its Port-ID map entry (none for the OMCC), the entry's SF and TYPE, the key index and
Options of the first fragment, the bytes so far, whether it is marked damaged, and the frame of its last fragment. -/
structure Reasm where
  pid : Nat
  entry : Option Nat
  sf : Nat
  typ : Nat
  key : Nat
  opts : Nat
  data : List Byte
  damaged : Bool
  last : Nat
  deriving DecidableEq, Repr

/-- An upstream PLOAM message (R112, R113, R118, R119, R122, R135). -/
inductive PloamUp where
  /-- Acknowledge, with the completion code: 0 OK, 1 no message, 2 unknown type, 3 parameter error. -/
  | ack (code : Nat)
  /-- One fragment of a Key_Report: the key index, the fragment's number, whether it is the last, and its bytes. -/
  | keyReport (index n : Nat) (last : Bool) (data : List Byte)
  /-- Sleep_Request: WSleep or Awake. -/
  | sleepRequest (sleep : Bool)
  /-- Registration with the registration ID. -/
  | registration (id : List Byte)
  /-- Serial_Number_ONU with the serial number and the random delay in granules. -/
  | serialNumber (sn : List Byte) (delay : Nat)
  /-- Power_Consumption_Report, which the Steward queues. -/
  | powerReport (data : List Byte)
  /-- A message an OSP or the Steward wrote. -/
  | raw (data : List Byte)
  deriving DecidableEq, Repr

/-- A queued upstream PLOAM message: of hardware or not (R119). -/
structure PloamItem where
  hw : Bool
  msg : PloamUp
  /-- The number of the Key_Control whose last fragment this is, plus one (R122). -/
  keyNo : Nat
  deriving DecidableEq, Repr

/-- A Key_Control whose PN_KEY_SWITCH is still due (R122). -/
structure KeyWait where
  no : Nat
  index : Nat
  slot : Nat
  sent : Bool
  deriving DecidableEq, Repr

/-- An SDU in a Till (R303): its number, its packet, its queue, its Options, the bytes with FCS still to send, and the
cells it occupies. -/
structure TillSdu where
  n : Nat
  pkt : Packet
  queue : Nat
  opts : Nat
  left : Nat
  cells : Nat
  deriving DecidableEq, Repr

/-- An OMCC SDU waiting to be sent (R120, R121), its number and what is left of it. -/
structure OmccSdu where
  n : Nat
  osp : Bool
  data : List Byte
  deriving DecidableEq, Repr

/-- An XGEM frame a burst carries (R126): its Port-ID, key index, Options and LF, its payload as sent, and the bytes of a
radio SDU in it. -/
structure XgemTx where
  pid : Nat
  key : Nat
  opts : Nat
  lf : Bool
  data : List Byte
  radio : Bool
  omcc : Bool
  deriving DecidableEq, Repr

/-- The content of an allocation as fixed at its cut-off (R306), with what returns to the Till when its burst is
cancelled. -/
structure Content where
  frames : List XgemTx
  dbru : Option Nat
  fc : Bool
  idle : Nat
  unbound : Bool
  undoOmcc : List OmccSdu
  undoRadio : List TillSdu
  undoStaged : List TillSdu
  deriving DecidableEq, Repr

/-- An allocation of a scheduled burst: its table index, 128 for the serial-number Alloc-ID; its Alloc-ID, its size in
granules, its flags, its capacity (R129) and when its first byte is due. -/
structure Alloc where
  ix : Nat
  allocId : Nat
  size : Nat
  dbru : Bool
  ploamu : Bool
  cap : Nat
  due : Nat
  content : Option Content
  deriving DecidableEq, Repr

/-- A burst (R124 to R131). Times are in units of 1/777,600 ns from the model's start: a tick of 0.8 ns is 622,080 units and
an RUI 15,625. -/
structure Burst where
  /-- 0 serial number, 1 ranging, 2 data. -/
  use : Nat
  /-- 0 12.4416, 1 24.8832, 2 49.7664 and 3 9.95328 Gbit/s. -/
  rate : Nat
  fec : Bool
  /-- The first PSBu bit. -/
  start : Nat
  /-- T_hdr. -/
  hdr : Nat
  /-- The end of the last allocation. -/
  fin : Nat
  /-- LEAD and LAG in units, and MIN_OFF in units, as they stood at the BWmap (R131). -/
  lead : Nat
  lag : Nat
  minOff : Nat
  allocs : List Alloc
  /-- The serial-number delay in granules (R112). -/
  delay : Nat
  gasp : Bool
  /-- The burst's BWmap has ended, so its capacity is known (R129). -/
  sized : Bool
  /-- Its first PSBu bit has reached the pins. -/
  started : Bool
  /-- The preamble's and the delimiter's bytes (R126, R133). -/
  preamble : Nat
  delim : Nat
  /-- The ONU-ID its FS header carries (R126). -/
  onuId : Nat
  /-- What its PLOAMu and header carry, fixed with its first allocation: the message, whether it came from the queue, and
  the PLOAM-queue-status and RDI indications. -/
  ploam : Option PloamItem
  queued : Bool
  indQ : Bool
  indRdi : Bool
  /-- The HEC of its FS header and the BIP of its FS trailer (R126). -/
  hec : Nat
  bip : Nat
  deriving DecidableEq, Repr

/-- A PON channel: what its registers do not show. -/
structure PonState where
  /-- The level of the RXLOS ball (R74). -/
  rxlos : Bool
  /-- The feedback taps' coefficients in use (R75); the boost in use stands in PN_RX_EQ.CTLE. -/
  taps : List Nat
  cands : List Cand
  /-- The bit position SYNC holds, and its error count (R78). -/
  lockPos : Nat
  errs : Nat
  /-- PHY frames since the model started, as R92 and R84 count them. -/
  frame : Nat
  /-- The clock of the present frame's T_ref (R114). -/
  tRef : Nat
  /-- The present frame is discarded whole (R86), its BWmap is lost (R83), or the rest of its payload is discarded (R88). -/
  fsLost : Bool
  bwLost : Bool
  payLost : Bool
  /-- The codewords of the present frame that remain uncorrectable (R83). -/
  marks : List Nat
  /-- The target SFC the last ARM loaded (R101). -/
  todSfc : Nat
  /-- The BER window's frames and corrected bits, and the windows in a row at or below each threshold (R84). -/
  winFrames : Nat
  winBits : Nat
  sdQuiet : Nat
  sfQuiet : Nat
  /-- The Port-ID map's two words as one number (R90, R104). -/
  pids : SMap Nat
  reasm : List Reasm
  /-- Port-IDs whose present SDU is dropped, up to LF = 1 (R92, R93). -/
  skip : List Nat
  /-- The OSP's downstream queue: type and message, oldest first; and LOST (R99, R100). -/
  ospQ : List (Nat × List Byte)
  ospLost : Bool
  /-- OMCC SDUs for the Steward, oldest first (R95). -/
  omciIn : List (List Byte)
  /-- PLOAM messages held for the Steward while it restarts, at most 16: the type number and the message (R396). -/
  stwPloam : List (Nat × List Byte)
  /-- The upstream PLOAM queue, at most 16 (R119). -/
  ploamQ : List PloamItem
  /-- OMCC SDUs to send, oldest first (R120, R121). -/
  omccUp : List OmccSdu
  /-- The number of the next SDU or Key_Control, less one. -/
  lastN : Nat
  /-- The allocation table (R123): ORIGIN and Alloc-ID. -/
  allocs : SMap (Option (Nat × Nat))
  /-- The EqD and the profiles that the present frame's BWmap uses (R117, R133). -/
  eqdUse : Nat
  profUse : List Nat
  /-- T_hdr of the last serial-number answer, with its delay (R112). -/
  snLast : Option Nat
  /-- REG_ID_EMPTY has been raised in this O4 (R113). -/
  regWarned : Bool
  /-- Vault slots the key exchange has filled (R110). -/
  filled : List Nat
  keyWaits : List KeyWait
  /-- The upstream key index, 0 while none is established (R122). -/
  usKey : Nat
  /-- The Sleep_Allow setting held (R135). -/
  sleepOn : Bool
  bursts : List Burst
  /-- From when BEN is asserted, none where it is not, and when it deasserts, none where no instant is set yet (R130,
  R131). -/
  benFrom : Option Nat
  benTill : Option Nat
  /-- The nominal BEN assertion times of the bursts whose BEN_MON check is still due, oldest first (R132). -/
  benDue : List Nat
  /-- The preceding entry of the BWmap is one of the device that passed rows 2 to 10 (R124). -/
  prevOk : Bool
  /-- Bursts in a row without BEN_MON (R132). -/
  benMisses : Nat
  /-- The Ledger's emergency record (R111). -/
  estop : Bool
  deriving DecidableEq, Repr

/-- A PON channel at reset. -/
def PonState.reset : PonState :=
  { rxlos := true, taps := [0, 0, 0, 0, 0], cands := [], lockPos := 0, errs := 0, frame := 0, tRef := 0, fsLost := false, bwLost := false,
    payLost := false, marks := [], todSfc := 0, winFrames := 0, winBits := 0, sdQuiet := 0, sfQuiet := 0, pids := [], reasm := [], skip := [],
    ospQ := [], ospLost := false, omciIn := [], stwPloam := [], ploamQ := [], omccUp := [], lastN := 0, allocs := [], eqdUse := 0,
    profUse := [0, 0, 0, 0], snLast := none, regWarned := false, filled := [], keyWaits := [], usKey := 0,
    sleepOn := false, bursts := [], benFrom := none, benTill := none, benDue := [], prevOk := false, benMisses := 0,
    estop := false }

/-! ### Burst composers (R300 to R310) -/

/-- A burst composer and its Till. -/
structure BcState where
  /-- The pages' entries, nine words as one number, by allocation index (R300). -/
  active : SMap Nat
  standby : SMap Nat
  /-- P(a) of R304, and the part of it the BWmap being parsed has granted. -/
  cap : SMap Nat
  /-- Staged SDUs by allocation index, in staging order. -/
  staged : SMap (List TillSdu)
  /-- Radio SDUs by allocation index, in arrival order. -/
  radio : SMap (List TillSdu)
  /-- The allocation index last given a round-robin turn, plus one (R304). -/
  turn : Nat
  /-- The finish tags of the slots' head SDUs, by 8 * index + slot: the head's number, F and the PRIO in force (R290,
  R304). -/
  tags : SMap (Nat × Nat × Nat)
  deriving DecidableEq, Repr

/-- A burst composer at reset. -/
def BcState.reset : BcState :=
  { active := [], standby := [], cap := [], staged := [], radio := [], turn := 0, tags := [] }

/-! ### Fuses, the Ledger and the boot (R41 to R73, R354 to R357) -/

/-- The fuses that change after test (R354 to R357). -/
structure Fuses where
  /-- The lifecycle: 1 MFG, 3 PROVISION, 7 DEPLOYED, 15 RMA. -/
  life : Nat
  /-- Hash slots, 0 to 3 owner and 4 to 5 debug; none is unwritten. -/
  hashes : SMap (Option Nat)
  /-- Revocation bits of the hash slots, with the damaged slots of R357. -/
  revoked : Nat
  /-- Rollback floor words, oldest first, at most 16. -/
  floors : List Nat
  rmaAuth : Bool
  deriving DecidableEq, Repr

/-- What the Ledger holds over resets besides its event ring and the emergency records (R69, R72, R355, R363, R365, R394,
R497). -/
structure LedgerState where
  bootCount : Nat
  preferB : Bool
  /-- The boot records, newest last, at most 1,024. -/
  boots : List (List Byte)
  /-- The gasp records, newest last, at most 16. -/
  gasps : List (List Byte)
  /-- The RMA-in-progress marker. -/
  marker : Bool
  /-- Lifecycle transitions not yet raised: old and new state. -/
  lives : List (Nat × Nat)
  /-- Debug scopes that have been opened: SCOPE and slot. -/
  debugs : List (Nat × Nat)
  /-- The firmware rollback floor. -/
  fwFloor : Nat
  deriving DecidableEq, Repr

/-- The boot sequence: what the boot registers do not show. -/
structure BootState where
  /-- Bit r: supply rail r of R538 is in its POR range. -/
  rails : Nat
  /-- Power-on reset is asserted (R41). -/
  por : Bool
  /-- The clock of POR release or of the restart. -/
  t0 : Nat
  /-- The clock at which the present stage began. -/
  stageAt : Nat
  /-- Bit k: Passbook copy k has been tried this boot. -/
  tried : Nat
  /-- The copy being read, verified or applied. -/
  copy : Nat
  /-- The bytes read of it, none where the flash gave none (R57). -/
  image : Option (List Byte)
  /-- The words of its register records not yet applied. -/
  words : List Word
  /-- The clock at which the POLL record in front began, plus one. -/
  poll : Nat
  /-- The PLLs being relocked (R53): 2 * quad + PLL of the lanes, 24 PCA, 25 PCB, 26 DRAM. -/
  relock : List Nat
  /-- The lanes whose calibration has ended in stage RELEASE, 48 and 49 PCA's and PCB's (R49, R52), and the PON lanes among them that
  have failed. -/
  cal : List Nat
  calBad : List Nat
  /-- The fail code the hold shows (R55). -/
  lastCode : Nat
  /-- SHA-384 of the signed range of the copy in use, its KEY_SLOT, and CONFIG_HASH (R72, R360). -/
  pbHash : Nat
  keySlot : Nat
  configHash : Nat
  /-- The crystal has been lost; only POR clears it (R491). -/
  xtalLost : Bool
  deriving DecidableEq, Repr

/-- The boot sequence at reset: no rail in range, POR asserted. -/
def BootState.reset : BootState :=
  { rails := 0, por := true, t0 := 0, stageAt := 0, tried := 0, copy := 0, image := none, words := [], poll := 0,
    relock := [], cal := [], calBad := [], lastCode := 0, pbHash := 0, keySlot := 0, configHash := 0, xtalLost := false }

/-! ### The Vault (R356 to R386) -/

/-- What a job brings about when it completes. -/
inductive JobEff where
  | none
  /-- A key goes into a slot. -/
  | putKey (slot typ use key : Nat)
  /-- An owner command has been checked with this status (R362). -/
  | owner (cmd target signer value : Nat)
  /-- A challenge's nonce is held: RMA or debug. -/
  | challenge (rma : Bool) (nonce : Nat)
  /-- A debug response opens its scope. -/
  | openScope (scope slot : Nat)
  /-- A response is rejected; RMA or debug. -/
  | reject (rma : Bool)
  /-- The RMA zeroisation. -/
  | rma
  /-- A report has been signed. -/
  | attest
  deriving DecidableEq, Repr

/-- A job that runs (R376 to R379): its operation, the slot whose key it holds, and its outcome. -/
structure Job where
  op : Nat
  slot : Option Nat
  status : Nat
  /-- The bytes for DST and the tag or MAC. -/
  dst : List Byte
  tag : Nat
  eff : JobEff
  deriving DecidableEq, Repr

/-- A key write or erase that has not taken effect (R367, R368). -/
structure KeyCmd where
  erase : Bool
  slot : Nat
  typ : Nat
  use : Nat
  key : Nat
  /-- It has found Escrow full. -/
  waited : Bool
  deriving DecidableEq, Repr

/-- A key the PON exchange or a job writes, or the clear of R110 erases, that waits for an Escrow entry (R368). -/
structure KeyWrite where
  erase : Bool
  slot : Nat
  typ : Nat
  use : Nat
  key : Nat
  /-- OP and source of its VLT_KEY_CHANGE. -/
  op : Nat
  src : Nat
  deriving DecidableEq, Repr

/-- The Vault: what its registers do not show. -/
structure VltState where
  jobs : Pair (Option Job)
  keys : Pair (Option KeyCmd)
  /-- Writes and erasures that wait for an Escrow entry, in order. -/
  waits : List KeyWrite
  /-- The job port that holds each Escrow entry (R368). -/
  escrow : List Nat
  /-- The held debug and RMA nonces (R363, R365). -/
  dbgNonce : Option Nat
  rmaNonce : Option Nat
  /-- Requests to the DRBG since its last reseed (R372). -/
  drbg : Nat
  /-- When the masking generator was last seeded, and how often it has been (R372). -/
  maskAt : Nat
  masks : Nat
  /-- Fuse programming under way: the hash slot and the hash (R356). -/
  fuse : Option (Nat × Nat)
  deriving DecidableEq, Repr

/-- The Vault at reset. -/
def VltState.reset : VltState :=
  { jobs := ⟨none, none⟩, keys := ⟨none, none⟩, waits := [], escrow := [], dbgNonce := none, rmaNonce := none, drbg := 0,
    maskAt := 0, masks := 0, fuse := none }

/-! ### The Steward (R392 to R413) -/

/-- A channel's MIB (R400, R401): its data sync, and its entities by class * 65,536 + instance, each with the attributes the
OLT gave it. -/
structure Mib where
  sync : Nat
  ents : SMap (Option (List Byte))
  deriving DecidableEq, Repr

/-- A channel's PM history (R401): its counters at the present interval's start, and what the last interval counted. -/
structure PmHistory where
  base : List Nat
  last : List Nat
  deriving DecidableEq, Repr

/-- The Steward: what its registers do not show. -/
structure StwState where
  /-- SHA-384 of the signed range of the running firmware, 0 while none runs (R360). -/
  fwHash : Nat
  /-- The copy being loaded. -/
  copy : Nat
  /-- A copy has been read and verified and its firmware executes, but READY has not come (R395). -/
  starting : Bool
  /-- Bit k: firmware copy k has failed in this boot or restart (R48, R396). -/
  failed : Nat
  /-- The copy a SWITCH verifies, and whether it ends there (R398). -/
  verify : Option (Nat × Bool)
  /-- The clocks of the restarts of the last 60 s, oldest first. -/
  restarts : List Nat
  /-- FLOOR of each copy's header and whether its last verification passed, by copy (R401). -/
  floors : SMap Nat
  valid : Nat
  /-- The OMCI request that waits for the host's acknowledgement: its channel and bytes (R407). -/
  waitHost : Option (Nat × List Byte)
  /-- Active OMCI alarms (R405): 8 * channel + 0 SD, 1 SF, 2 to 6 optics; 256 + 64 * channel + port for LAN-LOS. -/
  alarms : SMap Bool
  /-- The STEWARD section of the Passbook (R61, R400, R403). -/
  policy : List Byte
  /-- Mailbox messages that wait until FULL clears, oldest first (R403, R407, R408). -/
  mbWait : List (List Word)
  /-- A time-of-day capture that the Steward has armed on a channel is due (R403). -/
  todArm : Pair Bool
  /-- The End download that waits for its verification (R401). -/
  download : Option (Nat × List Byte)
  mibs : Pair Mib
  pm : Pair PmHistory
  /-- The clock at which the present 15-minute interval began (R401). -/
  pmAt : Nat
  /-- The Steward holds a channel's optics off (R404). -/
  opticsOff : Pair Bool
  deriving DecidableEq, Repr

/-- The Steward at reset. -/
def StwState.reset : StwState :=
  { fwHash := 0, copy := 0, starting := false, failed := 0, verify := none, restarts := [], floors := [], valid := 0,
    waitHost := none, alarms := [], policy := [], mbWait := [], todArm := ⟨false, false⟩, download := none,
    mibs := ⟨{ sync := 0, ents := [] }, { sync := 0, ents := [] }⟩, pm := ⟨{ base := [], last := [] }, { base := [], last := [] }⟩,
    pmAt := 0, opticsOff := ⟨false, false⟩ }

/-! ### The flash (R56, R57, R399, R549) -/

/-- The flash as the device has changed it: the bytes it has programmed or erased, by offset; the others are as the board put
them. -/
structure FlashState where
  cells : SMap (Option Byte)
  /-- A program or erase in progress: its offset and what it leaves there. -/
  busy : Option (Nat × List Byte)
  /-- The clock at which XSPI_RESET_N was released, plus one; 0 while it is held low (R549). -/
  upAt : Nat
  deriving DecidableEq, Repr

/-- The flash at reset. -/
def FlashState.reset : FlashState := { cells := [], busy := none, upAt := 0 }

/-! ### Power, pins and island service (R480 to R510, R544, R553) -/

/-- Power states, island service and the pins that go with them: what the AON registers do not show. -/
structure PwrState where
  /-- The state an entry goes to (R481). -/
  target : Nat
  /-- Islands asked that have not replied ACK (R482). -/
  asked : List Nat
  /-- Islands still to be committed, in descending order, and those this entry has committed (R484, R486). -/
  commit : List Nat
  done : List Nat
  /-- Kept islands still to be brought back, in ascending order (R487). -/
  exits : List Nat
  /-- The exit leaves STATE as it was: a wake stopped the commit (R486). -/
  undo : Bool
  /-- The present step of an exit or a return has been retried (R490). -/
  retried : Bool
  /-- Islands in Keep by a power state (R480). -/
  kept : List Nat
  /-- The timers of islands whose clock is stopped, with what each had still to run, plus one. -/
  frozen : SMap Nat
  /-- Islands brought back that run from the fast oscillator (R487). -/
  fast : List Nat
  /-- The levels of GPIO0 to GPIO15 (R485). -/
  gpio : Nat
  /-- The wake timer has run out (R485). -/
  timerOut : Bool
  /-- The clock at which TIM's counting stopped in P3 (R488). -/
  timHold : Option Nat
  /-- The clock of the sag's onset (R498). -/
  sagAt : Nat
  /-- The AON_ISL_CMD in progress: its island and OP (R501). -/
  svc : Option (Nat × Nat)
  /-- The clock at which an island last resumed after a drain, plus one (R500). -/
  resumed : SMap Nat
  /-- The straps sampled at POR release: BENSTRAP_A, BENSTRAP_B and VR_ADDR (R544). -/
  benStrap : Pair Bool
  vrAddr : Nat
  /-- The exponent VOUT_MODE gave at AON_UP (R542). -/
  voutExp : Int
  /-- TALERT_N and THERMTRIP_N are asserted (R553, R556). -/
  talert : Bool
  trip : Bool
  /-- The flash pins are high impedance (R66). -/
  flashOff : Bool
  deriving DecidableEq, Repr

/-- Power at reset. -/
def PwrState.reset : PwrState :=
  { target := 0, asked := [], commit := [], done := [], exits := [], undo := false, retried := false, kept := [],
    frozen := [], fast := [], gpio := 0, timerOut := false, timHold := none, sagAt := 0, svc := none, resumed := [],
    benStrap := ⟨false, false⟩, vrAddr := 0, voutExp := 0, talert := false, trip := false, flashOff := false }

/-! ### What leaves the device -/

/-- What the device sends to the outside world. -/
inductive Output where
  /-- A register read's answer (R7, R8, R443, R492). -/
  | readData (m : Master) (addr : Nat) (v : Word)
  /-- A BAR0 read answered as an unsupported request (R441). -/
  | readUr (addr : Nat)
  /-- A pulse on PPS_OUT, its width, the second it marks, and whether the pin goes low for it (R346). -/
  | ppsOut (widthUs second : Nat) (low : Bool)
  /-- Bytes sent on TOD_OUT, at a bit rate (R347). -/
  | todOut (baud : Nat) (bytes : List Byte)
  /-- Bytes posted to host memory (R445). -/
  | hostWrite (addr : Nat) (bytes : List Byte)
  /-- An MSI-X message (R471). -/
  | msix (vector : Nat) (causes : Nat)
  /-- Bytes an OSP sent in a transaction (R98). -/
  | osp (ch : Nat) (bytes : List Byte)
  /-- A frame that left a tenant port, from its destination address to its FCS (R175, R188). -/
  | frame (port : Nat) (bytes : List Byte)
  /-- A pattern generator inverts one of its next 64 bits (R193). -/
  | prbsInject (lane : Nat)
  /-- Bits of a pattern or of a far-end loop at a lane's transmit pins, at a rate in kbit/s (R191, R192, R194). -/
  | pattern (lane rate : Nat) (bits : List Bool)
  /-- Bytes written to Steward memory (R376, R409, R449). -/
  | stewardWrite (addr : Nat) (bytes : List Byte)
  /-- A burst that left a PON transmitter, whole or stopped (R126, R132). -/
  | burst (ch : Nat) (b : Burst) (stopped : Bool)
  /-- An edge of a BEN ball: its new level and its instant in units of 1/777,600 ns (R130, R131, R138). -/
  | ben (ch : Nat) (level : Bool) (at_ : Nat)
  /-- The Steward adjusts a channel's optics over its I2C master as a Change_Power_Level message or a set of ANI-G asks (R118,
  R401, R404). -/
  | optics (ch : Nat) (message : List Byte)
  /-- The Steward asserts or releases the transmit disable of a channel's optics (R404). -/
  | opticsTx (ch : Nat) (disable : Bool)
  /-- What TDO shifts out while a data register is scanned (R552). -/
  | tdo (w : Word)
  /-- VOUT_COMMAND with a code, to the regulator at a 7-bit address (R542). -/
  | pmbus (addr : Nat) (code : Nat)
  deriving DecidableEq, Repr

/-- The state of the FA9648. -/
structure State where
  /-- The commands waiting, first in, first out. -/
  pending : List Instr
  /-- The model's clock, in ticks of 0.8 ns since the model started. -/
  now : Nat
  /-- How many free values have been used. -/
  freeNext : Nat
  /-- Every register, by its BAR0 byte offset. -/
  regs : SMap Word
  /-- Every 64-bit counter, by the BAR0 byte offset of its low word (R105, R511). -/
  ctrs : SMap Nat
  /-- The counter latches of R511 by window and master: the counter's offset plus one, and the latched high word. -/
  ctrLatch : SMap (Nat × Nat)
  /-- The Tally, by SPACE * 65,536 + INDEX (R512). -/
  tally : SMap Nat
  /-- Running timers: the clock at which each runs out, plus one; 0 is stopped. -/
  timers : SMap Nat
  /-- The last item of R49 that has been reached, 0 before item 1 and 7 from RUN on: counters count from an item that their
  window names (R105). -/
  counting : Nat
  /-- The DRAM channels' counters count (R437). -/
  mcCounting : Bool
  evt : EvtState
  tim : TimeState
  tbl : TblState
  pipes : Pair PipeState
  tlr : TlrState
  tmg : TmgState
  tq : SMap TqPort
  /-- The pattern functions of the 50 lanes (R192). -/
  prbs : SMap Prbs
  pon : Pair PonState
  bc : Pair BcState
  /-- The Vault's slots, none where a slot is empty (R366). -/
  slots : SMap (Option KeySlot)
  vlt : VltState
  stw : StwState
  flash : FlashState
  /-- The instruction in the TAP (R552). -/
  tap : TapInstr
  fuse : Fuses
  ledger : LedgerState
  boot : BootState
  dma : SMap DmaChan
  /-- Islands whose drain is in progress (R499). -/
  draining : List Nat
  mem : MemState
  chk : ChkState
  /-- The samplers' event counts (R518). -/
  sampN : SMap Nat
  /-- The samplers' arms: packets seen at the sample point since the arm arrived, plus one; 0 is not armed (R518). -/
  sampArm : SMap Nat
  pwr : PwrState
  /-- What the device has sent, oldest first. -/
  out : List Output
  deriving DecidableEq, Repr

/-- The events island at reset. -/
def EvtState.reset : EvtState :=
  { queue := [], bootBuf := [], bootLost := 0, ringSeq := [], lgrSeq := 0, ospSeq := 0, lgrTokens := 0, lgrAt := 0,
    lgrRing := [], ospQ := [], lastRaise := [], msixCauses := [], msixTable := [],
    msixPba := [], msixEnable := false, msixFuncMask := false, aer := (0, 0) }

/-- The time engine at reset (R317). -/
def TimeState.reset : TimeState :=
  { rawN := 0, anchorN := 0, anchorT := 0, oldN := 0, oldT := 0, oldAdj := 0, pending := none, waiting := none, sample := none, lockCount := 0,
    outlierRun := 0, lastSampleN := none, holdLong := false, holdCause := 0, repErr := [], repNeed := [], repAt := [], ptod := none,
    rangedSince := ⟨false, false⟩, synceFault := false, synceOut := ⟨.low, .low⟩,
    dpllOffset := 0, ppsLast := none, ppsNext := 1, todRx := [], todTx := [], todArms := [], tsQ := [] }

/-- The table store at reset: every entry invalid. -/
def TblState.reset : TblState :=
  { ents := [], acts := [], tpls := [], graph := [], learnQ := [], softNow := InClock.none, learntNow := InClock.none,
    hitNow := InClock.none, inflight := ⟨0, 0⟩, copying := [] }

/-- A pipeline at reset. -/
def PipeState.reset : PipeState := { wire := [], wireLast := 0, host := [], hostLast := 0, recirc := [], inPass := [] }

/-- The Teller at reset. -/
def TlrState.reset : TlrState :=
  { items := [], domains := [], lastEng := 0, highs := 0, stripes := [], markers := [], pats := [], scans := [] }

/-- The traffic manager at reset. -/
def TmgState.reset : TmgState :=
  { inQ := [], qcfg := [], gcfg := [], mcast := [], qs := [], gTag := [], vtime := [], purses := [], refs := [],
    lastUid := 0, pfcCells := [], xoff := [], deepUsed := ⟨0, 0⟩, wrBudget := ⟨0, 0⟩, wrAt := ⟨0, 0⟩,
    rdBudget := ⟨0, 0⟩, rdAt := ⟨0, 0⟩, gclAdmin := [], gclOper := [], gclChange := [], txSeq := [],
    stageTurn := 0, arrivals := [] }

/-- The fuses as a part leaves wafer test: MFG, with nothing provisioned. -/
def Fuses.reset : Fuses := { life := 1, hashes := [], revoked := 0, floors := [], rmaAuth := false }

/-- An empty Ledger. -/
def LedgerState.reset : LedgerState :=
  { bootCount := 0, preferB := false, boots := [], gasps := [], marker := false, lives := [], debugs := [], fwFloor := 0 }

/-- The machine right after power-on reset. -/
def State.reset : State :=
  { pending := [], now := 0, freeNext := 0, regs := [], ctrs := [], ctrLatch := [], tally := [], timers := [],
    counting := 0, mcCounting := false, evt := EvtState.reset, tim := TimeState.reset,
    tbl := TblState.reset, pipes := ⟨PipeState.reset, PipeState.reset⟩, tlr := TlrState.reset,
    tmg := TmgState.reset, tq := [], prbs := [], pon := ⟨PonState.reset, PonState.reset⟩,
    bc := ⟨BcState.reset, BcState.reset⟩, slots := [], vlt := VltState.reset, stw := StwState.reset,
    flash := FlashState.reset, tap := .idcode, fuse := Fuses.reset,
    ledger := LedgerState.reset, boot := BootState.reset, dma := [], draining := [],
    mem := MemState.reset, chk := { scrubs := [], bank := [], scan := [] }, sampN := [], sampArm := [], pwr := PwrState.reset, out := [] }

end Sys2Proof.Machine
end

