-- ==== Sys2Proof/Machine/Ops.lean ====
section
/-! DEFINITION. The shared operations: registers and their fields, counters, the Tally, timers and the clock, events,
live bits, what the device sends, and the checks every register write passes (R7 to R9, R14, R17, R54, R73, R105, R407,
R463 to R466, R492, R531). -/

namespace Sys2Proof.Machine

/-! ### Windows -/

def aonB : Nat := window 0x00
def timB : Nat := window 0x04
def pnB (c : Nat) : Nat := window (0x08 + c)
def bcB (c : Nat) : Nat := window (0x0A + c)
def quadB (q : Nat) : Nat := window (0x10 + q)
/-- The page of a tenant port: four lanes to a quad, 0x1000 apart (R5, R11). -/
def tqB (p : Nat) : Nat := window (0x10 + p / 4) + p % 4 * 0x1000
def kB (k : Nat) : Nat := window (0x20 + k)
def tblB : Nat := window 0x22
def tlrB : Nat := window 0x24
def insB (e : Nat) : Nat := window 0x25 + e * 0x1000
def tmgB : Nat := window 0x28
def vltB : Nat := window 0x2C
def mcB (c : Nat) : Nat := window (0x30 + c)
def mccB : Nat := window 0x38
def hstB : Nat := window 0x3A
def dcB (d : Nat) : Nat := window 0x3B + d * 0x1000
def evtB : Nat := window 0x3C
def chkB (u : Nat) : Nat := window 0x3D + u * 0x1000
def pmcB : Nat := window 0x3E
def stwB : Nat := window 0x3F

/-! ### Registers -/

/-- The word at a BAR0 offset. -/
def State.reg (s : State) (a : Nat) : Word := SMap.get resetWord s.regs a

/-- Put a word at a BAR0 offset. -/
def State.setReg (s : State) (a : Nat) (w : Word) : State := { s with regs := SMap.set resetWord s.regs a w }

/-- The bits of a field in a word. -/
def Fld.of (f : Fld) (w : Nat) : Nat := w / 2 ^ f.lo % 2 ^ f.width

/-- A word with the bits of a field replaced. -/
def Fld.ins (f : Fld) (w v : Nat) : Nat := w - f.of w * 2 ^ f.lo + v % 2 ^ f.width * 2 ^ f.lo

/-- The value of a field of the window or page at `b`. -/
def State.fld (s : State) (b : Nat) (f : Fld) : Nat := f.of (s.reg (b + f.off)).toNat

/-- Put a value into a field of the window or page at `b`, the register's other bits unchanged. -/
def State.setF (s : State) (b : Nat) (f : Fld) (v : Nat) : State :=
  s.setReg (b + f.off) (BitVec.ofNat 32 (f.ins (s.reg (b + f.off)).toNat v))

/-- Whether a one-bit field is 1. -/
def State.bit (s : State) (b : Nat) (f : Fld) : Bool := s.fld b f != 0

/-- Put a truth value into a one-bit field. -/
def State.setBit (s : State) (b : Nat) (f : Fld) (v : Bool) : State := s.setF b f (if v then 1 else 0)

/-- A field taken as a two's-complement number. -/
def State.sfld (s : State) (b : Nat) (f : Fld) : Int :=
  let v := s.fld b f
  if v < 2 ^ (f.width - 1) then v else (v : Int) - 2 ^ f.width

/-- Put words at ascending word addresses. -/
def State.setRegs (s : State) (a : Nat) : List Word → State
  | [] => s
  | w :: ws => (s.setReg a w).setRegs (a + 4) ws

/-- The words at `n` ascending word addresses. -/
def State.regWords (s : State) (a n : Nat) : List Word := (List.range n).map fun i => s.reg (a + 4 * i)

/-! ### Free values -/

/-- Take the next free value. -/
def State.takeFree (s : State) : State × Nat := ({ s with freeNext := s.freeNext + 1 }, Config.free s.freeNext)

/-! ### Counters and the Tally -/

/-- The 64-bit counter at a BAR0 offset. -/
def State.ctr (s : State) (a : Nat) : Nat := SMap.get (fun _ => 0) s.ctrs a

/-- The item of R49 from which the counters of a window count, 7 standing for RUN: TIM item 2 (R350), the pipelines, TBL, TLR,
INS, TMG and the composers item 3 (R237, R276, R315), the lane pages item 4 (R201, R350, R390), the PON windows item 5 (R105),
and the others RUN (R390, R412, R478, R527). -/
def countItem (id : Nat) : Nat :=
  if id = 0x04 then 2
  else if 0x08 ≤ id ∧ id ≤ 0x09 then 5
  else if 0x10 ≤ id ∧ id ≤ 0x1B then 4
  else if (0x0A ≤ id ∧ id ≤ 0x0B) ∨ (0x20 ≤ id ∧ id ≤ 0x28) then 3
  else 7

/-- Whether the counters of a window count yet (R105, R437, R509). -/
def State.countsAt (s : State) (a : Nat) : Bool :=
  let id := islandOf a
  decide (id = 0x00) || (if 0x30 ≤ id ∧ id ≤ 0x37 then s.mcCounting else decide (countItem id ≤ s.counting))

/-- Add to a 64-bit counter, modulo 2⁶⁴, once its window counts (R105). -/
def State.count (s : State) (a : Nat) (n : Nat := 1) : State :=
  if s.countsAt a then { s with ctrs := SMap.set (fun _ => 0) s.ctrs a ((s.ctr a + n) % 2 ^ 64) } else s

/-- The Tally counter of a space and index. -/
def State.tallyGet (s : State) (space idx : Nat) : Nat := SMap.get (fun _ => 0) s.tally (space * 65536 + idx)

/-- The width of a Tally counter in bits (R512). -/
def tallyWidth (space : Nat) : Nat := if space = 0x15 then 64 else 48

/-- Put a value into a Tally counter. -/
def State.tallySet (s : State) (space idx v : Nat) : State :=
  { s with tally := SMap.set (fun _ => 0) s.tally (space * 65536 + idx) (v % 2 ^ tallyWidth space) }

/-- Add to a Tally counter, modulo its width (R512). -/
def State.tallyAdd (s : State) (space idx : Nat) (n : Nat := 1) : State :=
  s.tallySet space idx (s.tallyGet space idx + n)

/-! ### The clock and the timers -/

/-- Ticks of 0.8 ns in a microsecond. -/
def usTicks : Nat := 1250

/-- Ticks of 0.8 ns in a millisecond. -/
def msTicks : Nat := 1250000

/-- Start a timer that runs out `n` ticks from now. -/
def State.startTimer (s : State) (id n : Nat) : State :=
  { s with timers := SMap.set (fun _ => 0) s.timers id (s.now + n + 1) }

/-- Stop a timer. -/
def State.stopTimer (s : State) (id : Nat) : State := { s with timers := SMap.set (fun _ => 0) s.timers id 0 }

/-- Whether a timer runs. -/
def State.timerOn (s : State) (id : Nat) : Bool := SMap.get (fun _ => 0) s.timers id != 0

/-! ### Live islands -/

/-- Whether an island is live (R16). -/
def State.live (s : State) (id : Nat) : Bool :=
  (s.reg (aonB + (if id < 32 then 0x10 else 0x14))).toNat.testBit (id % 32)

/-- What happens in an island happens only while it is live: a stopped clock leaves everything as it is (R16, R480). -/
def State.onLive (s : State) (id : Nat) (f : State → State) : State := if s.live id then f s else s

/-- A bit of a register pair, one bit for each island. -/
def islBit (off id : Nat) : Fld := ⟨off + 4 * (id / 32), id % 32, id % 32⟩

/-- Whether an island is OUT, or dark (R501). -/
def State.islOut (s : State) (id : Nat) : Bool := s.bit aonB (islBit 0x124 id)
def State.islDark (s : State) (id : Nat) : Bool := s.bit aonB (islBit 0x12C id)

/-- Whether an island's crossings accept entries: it is live and no drain of it is in progress (R24). -/
def State.accepts (s : State) (id : Nat) : Bool := s.live id && !s.draining.contains id

/-! ### Device time -/

/-- The rate adjustment in force, a signed 40-bit number in units of 2⁻⁴⁸ (R318). -/
def State.adj (s : State) : Int :=
  toSigned 40 (s.fld timB F.TIM_RATE_LO.ADJ + s.fld timB F.TIM_RATE_HI.ADJ * 2 ^ 32)

/-- Device time at raw count `n` in units of 2⁻¹⁶ ns (R318): the anchor's time plus the counted interval at 0.8 ns a
tick and the adjusted rate, truncated. -/
def State.timeAt (s : State) (n : Nat) : Int :=
  s.tim.anchorT + (((n : Int) - s.tim.anchorN) * 524288 * (2 ^ 48 + s.adj)).tdiv (10 * 2 ^ 48)

/-- Units of 2⁻¹⁶ ns in a second. -/
def secUnits : Nat := 65536000000000

/-- Device time now; never below 0 (R320). -/
def State.timeNow (s : State) : Nat := (s.timeAt s.tim.rawN).toNat

/-- The seconds of a time. -/
def timeSec (t : Nat) : Nat := t / secUnits

/-- The nanoseconds of a time. -/
def timeNs (t : Nat) : Nat := t % secUnits / 65536

/-- The fraction of a time in units of 2⁻¹⁶ ns. -/
def timeFrac (t : Nat) : Nat := t % 65536

/-! ### What leaves the device -/

/-- Send something to the outside world. -/
def State.emit (s : State) (o : Output) : State := { s with out := s.out ++ [o] }

/-! ### Events -/

/-- The PAYLOAD of fields given as (bytes, value) pairs, from byte 0 upward, unused bytes 0 (R464). -/
def payload (fs : List (Nat × Nat)) : List Byte :=
  let l := fs.flatMap fun p => leBytes p.1 p.2
  bytesAt l 0 16

/-- Raise an event with a given severity: to EVT when it is live, else into the AON boot buffer of 32 (R73, R466). -/
def State.raiseSev (s : State) (src sev isl inst : Nat) (fs : List (Nat × Nat)) : State :=
  let e : RaisedEvt := { src, sev, island := isl, inst, payload := payload fs, boot := false }
  if s.live 0x3C then { s with evt := { s.evt with queue := s.evt.queue ++ [e] } }
  else if s.evt.bootBuf.length < 32 then { s with evt := { s.evt with bootBuf := s.evt.bootBuf ++ [e] } }
  else { s with evt := { s.evt with bootLost := s.evt.bootLost + 1 } }

/-- Raise an event of a source with the severity R534 gives it. -/
def State.raise (s : State) (src isl inst : Nat) (fs : List (Nat × Nat)) : State :=
  s.raiseSev src (srcSeverity src) isl inst fs

/-- The INSTANCE byte of a raiser that has none (R463). -/
def noInst : Nat := 0xFF

/-- Raise an event at most once in `period` ticks for each key. -/
def State.raiseLim (s : State) (key period : Nat) (src isl inst : Nat) (fs : List (Nat × Nat)) : State :=
  let last := SMap.get (fun _ => 0) s.evt.lastRaise key
  if last = 0 ∨ last + period ≤ s.now + 1 then
    let s := s.raise src isl inst fs
    { s with evt := { s.evt with lastRaise := SMap.set (fun _ => 0) s.evt.lastRaise key (s.now + 1) } }
  else s

/-- Raise an event at most once per 1 ms for each source and sub-key. -/
def State.raiseMs (s : State) (sub : Nat) (src isl inst : Nat) (fs : List (Nat × Nat)) : State :=
  s.raiseLim (src * 65536 + sub) msTicks src isl inst fs

/-- The boot stage (R42, R69); 0xF is the hold. -/
def State.stage (s : State) : Nat := s.fld aonB F.AON_BOOT_STAT.STAGE

/-- The SEQ the Ledger sink resumes at: one more than that of the newest record in its ring, or 0 (R465). -/
def State.lgrResume (s : State) : Nat :=
  let r := SMap.get (fun _ => []) s.evt.lgrRing ((s.fld evtB F.EVT_LGR_WP.WP + 65535) % 65536)
  if r.isEmpty then 0 else (leNat (bytesAt r 6 2) + 1) % 65536

/-- EVT becomes live: the events of the boot buffer are delivered, oldest first, with the count of those lost (R73), and at a
boot the sinks' sequence numbers and the Ledger allowance start (R465, R468). -/
def State.flushBoot (s : State) : State :=
  let evs := s.evt.bootBuf.map fun e => { e with boot := true }
  let lost : List RaisedEvt :=
    if s.evt.bootLost = 0 then []
    else [{ src := Ev.BOOT_EVT_OVERFLOW, sev := srcSeverity Ev.BOOT_EVT_OVERFLOW, island := 0, inst := noInst,
            payload := payload [(4, s.evt.bootLost)], boot := true }]
  let s := { s with evt := { s.evt with queue := s.evt.queue ++ evs ++ lost, bootBuf := [], bootLost := 0 } }
  if s.stage = 0xA then s
  else
    let seq := s.lgrResume
    { s with evt := { s.evt with ringSeq := [], ospSeq := 0, lgrSeq := seq, lgrTokens := 64 * 1250000000, lgrAt := s.now } }

/-- The islands that hold a replica of the raw count: the quads, the PON islands and composers, and TMG (R323). -/
def hasReplica (id : Nat) : Bool :=
  (decide (0x10 ≤ id) && decide (id ≤ 0x1B)) || (decide (0x08 ≤ id) && decide (id ≤ 0x0B)) || decide (id = 0x28)

/-- A replica starts to load: it needs `n` good words, which come every 1,024 ticks (R323, R324). -/
def State.repLoad (s : State) (id n : Nat) : State :=
  { s with tim := { s.tim with repNeed := SMap.set (fun _ => 0) s.tim.repNeed id n,
                               repAt := SMap.set (fun _ => 0) s.tim.repAt id (s.now + 1024 * n) } }

/-- An island's clock has started: its replica loads from the second good word (R324). -/
def State.repStart (s : State) (id : Nat) : State :=
  if hasReplica id then
    ({ s with tim := { s.tim with repErr := s.tim.repErr.filter fun i => decide (i ≠ id) } }).repLoad id 2
  else s

/-- Change an island's live bit; a change raises event 1 with the island and the new value (R17), and EVT becoming live
takes the boot buffer first. -/
def State.setLive (s : State) (id : Nat) (v : Bool) : State :=
  if s.live id = v then s
  else
    let f : Fld := ⟨if id < 32 then 0x10 else 0x14, id % 32, id % 32⟩
    let s := s.setBit aonB f v
    let s := if id = 0x3C ∧ v = true then s.flushBoot else s
    let s := if v then s.repStart id else s
    s.raise Ev.ISL_LIVE_CHANGE 0x00 noInst [(1, id), (1, if v then 1 else 0)]

/-- Change the live bits of several islands, in ascending ID order (R17). -/
def State.setLives (s : State) (ids : List Nat) (v : Bool) : State := ids.foldl (fun s id => s.setLive id v) s

/-! ### PLLs (R53) -/

def Tm.relock : Nat := 0x70026

/-- A PLL relocks at a new setting: PLL_READY reads 0 meanwhile, and a boot waits for at most 2 ms (R53). Without the crystal
the PON and DRAM PLLs stay unlocked (R45). -/
def State.pllBusy (s : State) (p : Nat) : State :=
  if 24 ≤ p ∧ s.bit aonB F.AON_BOOT_STAT.XTAL_FB = true then s
  else
    let s := { s with boot := { s.boot with relock := s.boot.relock.insert p } }
    let s := s.setF aonB F.AON_CLK_CTRL.PLL_READY 0
    if s.stage = 6 ∨ s.stage = 7 then s.startTimer Tm.relock (2 * msTicks) else s

/-- A PLL has relocked, or is off: with the last one PLL_READY reads 1 again, where the crystal runs (R53). -/
def State.pllFree (s : State) (p : Nat) : State :=
  if !s.boot.relock.contains p then s
  else
    let s := { s with boot := { s.boot with relock := s.boot.relock.erase p } }
    if !s.boot.relock.isEmpty then s
    else
      let s := s.stopTimer Tm.relock
      if s.bit aonB F.AON_BOOT_STAT.XTAL_FB || s.boot.xtalLost || s.pwr.timHold.isSome then s
      else s.setF aonB F.AON_CLK_CTRL.PLL_READY 1

/-! ### The checks every register write passes -/

/-- Whether the Passbook is sealed (R67). -/
def State.sealed (s : State) : Bool := s.bit aonB F.AON_SEAL.SEALED

/-- Whether the device is in the hold (R65). -/
def State.inHold (s : State) : Bool := decide (s.stage = 0xF)

/-- Count a discarded write in AON_SEAL.DISCARDS, which saturates (R71). -/
def State.countDiscard (s : State) : State :=
  s.setF aonB F.AON_SEAL.DISCARDS (min 0xFFFF (s.fld aonB F.AON_SEAL.DISCARDS + 1))

/-- Whether R54 discards a host write to an offset: before sealing, outside the HST window, and outside the AON window
in the hold. -/
def State.r54Discards (s : State) (m : Master) (a : Nat) : Bool :=
  decide (m = .host) && decide (islandOf a ≠ 0x3A) && !s.sealed && !(s.inHold && decide (islandOf a = 0x00))

/-- Record an access to a window that is dark (R442, R492). -/
def State.darkAccess (s : State) (a : Nat) (write : Bool) : State :=
  let s := s.setF hstB F.HST_STATUS.DARK_ACCESS 1
  let s := s.setBit hstB F.HST_DARK_ADDR.WRITE write
  let s := s.setF hstB F.HST_DARK_ADDR.ADDR a
  let s := s.count (hstB + Ctr.HST.DARK_ACCESSES)
  s.raise Ev.HST_DARK_ACCESS 0x3A noInst [(4, a), (1, if write then 1 else 0)]

/-- The master that owns a window after sealing, none for the windows both may write (R406, R472). -/
def State.owner (s : State) (id : Nat) : Option Master :=
  if id = 0x00 ∨ id = 0x01 ∨ 0x3A ≤ id then none
  else
    let w := s.reg (stwB + (if id < 32 then 0x20 else 0x24))
    if w.toNat.testBit (id % 32) && !s.bit hstB F.HST_CFG.HOSTLESS then some .host else some .steward

/-- Whether ownership discards a write (R407): sealed, the window owned by the other master. -/
def State.ownDiscards (s : State) (m : Master) (a : Nat) : Bool :=
  s.sealed && match s.owner (islandOf a) with
    | some o => decide (o ≠ m)
    | none => false

/-- The code of a master in an event's payload: 0 host, 1 Steward. -/
def masterCode : Master → Nat
  | .host => 0
  | .steward => 1

/-- Whether a channel's page belongs to the other master (R475). -/
def State.dmaDiscards (s : State) (m : Master) (a : Nat) : Bool :=
  decide (islandOf a = 0x3B) && decide (offsetOf a < 0x20000) &&
    (s.bit (dcB (offsetOf a / 0x1000)) F.DC_CTRL.STEWARD != decide (m = .steward))

/-- A register write from a master: the checks of R531 in order decide whether it acts. A write before sealing that R54
discards only counts; a reserved window swallows it (R14); a dark window records it (R492); another master's window or
channel page counts it (R407, R475); otherwise `act` is its effect. -/
def State.onWrite (s : State) (m : Master) (a : Nat) (act : State → State) : State :=
  if s.r54Discards m a then s.countDiscard
  else if (islandInst (islandOf a)).isNone then s
  else if !s.live (islandOf a) then s.darkAccess a true
  else if s.ownDiscards m a then
    let s := s.count (stwB + Ctr.STW.OWN_DISC)
    s.raiseMs 0 Ev.STW_OWN_DISC 0x3F noInst [(4, a), (1, masterCode m)]
  else if s.dmaDiscards m a then s.count (window 0x3B + Ctr.DMA.MASTER_DISC)
  else act s

/-! ### Register writes (R7, R9, R67) -/

/-- One field of a register after a write of `v` (R7, R67). W1S fields trigger and are acted on by their own operations, so
they store nothing here. -/
def storeField (locked : Bool) (old v : Nat) (f : FieldSpec) : Nat :=
  match f.acc with
  | .rw | .wo | .sh => f.fld.ins old (f.fld.of v)
  | .rwl => if locked then old else f.fld.ins old (f.fld.of v)
  | .w1c => f.fld.ins old (Nat.land (f.fld.of old) (Nat.xor (f.fld.of v) (2 ^ f.fld.width - 1)))
  | .ro | .w1s | .rc => old

/-- Whether a write carries different bits for a sealed field. -/
def lockHit (old v : Nat) (l : List FieldSpec) : Bool :=
  l.any fun f => decide (f.acc = .rwl) && decide (f.fld.of old ≠ f.fld.of v)

/-- Write a register's fields by their access codes; a write that would change a sealed field counts as a discarded RWL
write and raises event 14 with the address (R67). An unimplemented address keeps nothing (R9). -/
def State.store (s : State) (a v : Nat) : State :=
  match findReg a with
  | none => s
  | some r =>
    let old := (s.reg a).toNat
    let locked := s.sealed
    let s := s.setReg a (BitVec.ofNat 32 (r.fields.foldl (fun w f => storeField locked w v f) old))
    if locked && lockHit old v r.fields then s.countDiscard.raise Ev.SEAL_DISCARD 0x00 noInst [(4, a)] else s

end Sys2Proof.Machine
end

