-- ==== Sys2Proof/Machine/Clock.lean ====
section
/-! DEFINITION. Performance counters and samplers (R514 to R518), and time that passes: the clock, the raw count, the
recirculation credit and running timers (R32, R317). -/

namespace Sys2Proof.Machine

/-! ### Performance events (R514 to R518) -/

/-- The offset of performance counter c's low word. -/
def pmcCtr (c : Nat) : Nat := pmcB + 0x400 + 8 * c

/-- The value of performance counter c. -/
def State.pmcGet (s : State) (c : Nat) : Nat :=
  (s.reg (pmcCtr c)).toNat + (s.reg (pmcCtr c + 4)).toNat % 65536 * 2 ^ 32

/-- Put a value into performance counter c, modulo 2⁴⁸. -/
def State.pmcPut (s : State) (c v : Nat) : State :=
  (s.setReg (pmcCtr c) (BitVec.ofNat 32 v)).setReg (pmcCtr c + 4) (BitVec.ofNat 32 (v / 2 ^ 32 % 65536))

/-- A field of performance counter c's configuration. -/
def State.pmcCfg (s : State) (c : Nat) (f : Fld) : Nat := s.fld pmcB (f.at (4 * c))

/-- A performance counter's wrap sets its overflow bit and may raise PMC_OVERFLOW (R516). -/
def State.pmcOverflow (s : State) (c : Nat) : State :=
  let s := s.setF pmcB ⟨0xC00 + 4 * (c / 32), c % 32, c % 32⟩ 1
  if s.pmcCfg c F.PMC_CTR_CFG.OVF_EV = 1 then s.raise Ev.PMC_OVERFLOW 0x3E noInst [(1, c)] else s

/-- Whether counter c is the odd half of a chained pair (R516). -/
def State.pmcChained (s : State) (c : Nat) : Bool := decide (c % 2 = 1) && decide (s.pmcCfg c F.PMC_CTR_CFG.CHAIN = 1)

/-- Add to performance counter c; a wrap of the even half of a chained pair counts in the odd half, any other wrap is
reported (R514, R516). -/
def State.pmcAdd (s : State) (c n : Nat) : State :=
  let v := s.pmcGet c + n
  let wraps := v / 2 ^ 48
  let s := s.pmcPut c v
  if wraps = 0 then s
  else if c % 2 = 0 ∧ s.pmcChained (c + 1) = true then
    let u := s.pmcGet (c + 1) + wraps
    let s := s.pmcPut (c + 1) u
    if u / 2 ^ 48 = 0 then s else s.pmcOverflow (c + 1)
  else s.pmcOverflow c

/-- The counters whose configuration register has been written: only these can be enabled (R525). -/
def State.pmcListed (s : State) : List Nat :=
  (s.regs.filter fun p => decide (pmcB + 0x100 ≤ p.1) && decide (p.1 < pmcB + 0x100 + 384)).map
    fun p => (p.1 - (pmcB + 0x100)) / 4

/-- Whether counter c selects event `ev` of instance `inst`. -/
def State.pmcSelects (s : State) (c ev inst : Nat) : Bool :=
  decide (s.pmcCfg c F.PMC_CTR_CFG.EVENT = ev) &&
    (decide (s.pmcCfg c F.PMC_CTR_CFG.INST = 0xFF) || decide (s.pmcCfg c F.PMC_CTR_CFG.INST = inst))

/-- The counter a sampler follows (R525: a number above 95 acts as 95). -/
def State.sampCtr (s : State) (k : Nat) : Nat := min 95 (s.fld pmcB (F.PMC_SAMP_CFG.CTR.at (8 * k)))

/-- A sampler in use counts the event of its counter, whether or not the counter is enabled (R518). -/
def State.sampCount (s : State) (k ev inst n : Nat) : State :=
  if s.fld pmcB (F.PMC_SAMP_CFG.EN.at (8 * k)) = 1 ∧ s.pmcSelects (s.sampCtr k) ev inst = true then
    { s with sampN := SMap.modify (fun _ => 0) s.sampN k (· + n) }
  else s

/-- An event of R515 happens `n` times in an instance: the counters and samplers that select it count it. -/
def State.pmc (s : State) (ev inst : Nat) (n : Nat := 1) : State :=
  let hit := s.pmcListed.filter fun c =>
    decide (s.pmcCfg c F.PMC_CTR_CFG.EN = 1) && !s.pmcChained c && s.pmcSelects c ev inst
  let s := hit.foldl (fun s c => s.pmcAdd c n) s
  (((s.sampCount 0 ev inst n).sampCount 1 ev inst n).sampCount 2 ev inst n).sampCount 3 ev inst n

/-! ### Events that happen in every clock (R515) -/

/-- Whether the raw count advances: TIM runs, and its clock is not stopped in P3 (R317, R488). -/
def State.timCounts (s : State) : Bool := s.bit timB F.TIM_STAT.RUN && s.pwr.timHold.isNone

/-- Periods of a clock of `num`/`den` cycles to a tick that end in the next `n` ticks. -/
def State.clocksIn (s : State) (num den n : Nat) : Nat := (s.now + n) * num / den - s.now * num / den

/-- The clock of the scaled islands but INS, as cycles to ticks (R487, R493): 400 MHz on the fast oscillator. -/
def State.coreClock (s : State) : Nat × Nat :=
  if s.bit aonB F.AON_CLK_CTRL.ON_FAST then (8, 25)
  else
    let f := s.fld aonB F.AON_DVFS_STAT.FREQ
    if f = 0 then (1, 1) else if f = 1 then (4, 5) else (16, 25)

/-- Cycles of the scaled islands' clock in the next `n` ticks. -/
def State.coreClocksIn (s : State) (n : Nat) : Nat := s.clocksIn s.coreClock.1 s.coreClock.2 n

/-- Ticks that `n` cycles of INS's clock take, up to the next tick (R487, R493). -/
def State.insTicks (s : State) (n : Nat) : Nat :=
  if s.bit aonB F.AON_CLK_CTRL.ON_FAST then ceilDiv (n * 25) 8
  else
    let f := s.fld aonB F.AON_DVFS_STAT.FREQ
    if f = 0 then ceilDiv (n * 5) 6 else if f = 1 then ceilDiv (n * 25) 24 else ceilDiv (n * 125) 96

/-- Instances of an event a counter selects, of `k`. -/
def State.pmcInsts (s : State) (c k : Nat) : List Nat :=
  (List.range k).filter fun i => decide (s.pmcCfg c F.PMC_CTR_CFG.INST = 0xFF) || decide (s.pmcCfg c F.PMC_CTR_CFG.INST = i)

/-- What a counter of a clocked event gains in the next `n` ticks: PMC_CLK at 500 MHz, TIME_US, TLR_CLR_WAIT at the Teller's clock,
BC_PANIC_CLK at 777.6 MHz and TQ_PAUSED_CLK at 805.66 MHz (R13, R515). -/
def State.clockGain (s : State) (c n : Nat) : Nat :=
  let ev := s.pmcCfg c F.PMC_CTR_CFG.EVENT
  if ev = 0 then s.clocksIn 2 5 n
  else if ev = 1 then
    (if s.timCounts then
      (s.timeAt (s.tim.rawN + n)).toNat / 65536000 - (s.timeAt s.tim.rawN).toNat / 65536000 else 0)
  else if ev = 0x32 then (if s.tlr.items.any fun x => x.ordered && decide (x.at_ = .done) then s.coreClocksIn n else 0)
  else if ev = 0x61 then
    ((s.pmcInsts c 2).map fun i => if s.bit (bcB i) F.BC_TILL_STAT.PANIC then s.clocksIn 62208 100000 n else 0).sum
  else if ev = 0x72 then
    ((s.pmcInsts c 48).map fun p => if s.fld (tqB p) F.TQ_WDOG_STAT.PAUSED = 0 then 0 else s.clocksIn 165 256 n).sum
  else 0

/-- Count the clocked events of the next `n` ticks. -/
def State.pmcTime (s : State) (n : Nat) : State :=
  let l := s.pmcListed.filter fun c => decide (s.pmcCfg c F.PMC_CTR_CFG.EN = 1) && !s.pmcChained c
  l.foldl (fun s c => let k := s.clockGain c n; if k = 0 then s else s.pmcAdd c k) s

/-! ### Time passes -/

/-- The recirculation credit a pipeline gains in a clock (R32: 11 to 15 act as 10). -/
def State.recircGain (s : State) (k : Nat) : Nat := min 10 (s.fld (kB k) F.KP_ARB_CFG.RECIRC_PCT)

/-- Add the recirculation credit of `n` clocks of a live pipeline, up to the ceiling (R32). -/
def State.gainCredit (s : State) (k n : Nat) : State :=
  if !s.live (0x20 + k) then s
  else s.setF (kB k) F.KP_ARB_STAT.CREDIT (min 1600 (s.fld (kB k) F.KP_ARB_STAT.CREDIT + n * s.recircGain k))

/-- The clock, `n` ticks later. -/
def State.later (s : State) (n : Nat) : State := { s with now := s.now + n }

/-- Let `n` ticks pass: the clock and, while it counts, the raw count advance (R317), the recirculation credits fill
(R32), and the events that happen in every clock count (R515). -/
def State.elapse (s : State) (n : Nat) : State :=
  let s := s.pmcTime n
  let k := s.coreClocksIn n
  let s := s.later n
  let s := if s.timCounts then { s with tim := { s.tim with rawN := (s.tim.rawN + n) % 2 ^ 64 } } else s
  (s.gainCredit 0 k).gainCredit 1 k

/-- Let time pass up to a clock value; no time passes when it is already past. -/
def State.elapseTo (s : State) (t : Nat) : State := if s.now < t then s.elapse (t - s.now) else s

/-- A running timer runs out: time advances to its end, it stops and `f` acts. A stopped timer runs out of nothing. -/
def State.expire (s : State) (id : Nat) (f : State → State) : State :=
  if s.timerOn id then f ((s.elapseTo (SMap.get (fun _ => 0) s.timers id - 1)).stopTimer id) else s

/-- Let time pass until device time reaches `t`, to the next tick of 0.8 ns; before RUN device time stands still. -/
def State.reachTime (s : State) (t : Nat) : State :=
  if s.timCounts ∧ s.timeNow < t then s.elapse (((t - s.timeNow) * 10 + 524287) / 524288) else s

/-! ### Panic (R419) -/

/-- Whether any source asserts panic (R308, R419): BCA, BCB, or the trace writer's buffer past 3 KiB. -/
def State.panicAny (s : State) : Bool :=
  s.bit (bcB 0) F.BC_TILL_STAT.PANIC || s.bit (bcB 1) F.BC_TILL_STAT.PANIC || decide (48 < s.mem.wrBuf)

/-- Panic applies to every channel (R419); a channel lets go of it by MC_PANIC_CLEAR. -/
def State.spreadPanic (s : State) : State :=
  if s.panicAny then
    ((List.range 8).filter fun c => s.live (0x30 + c)).foldl (fun s c => s.setF (mcB c) F.MC_STAT.PANIC 1) s
  else s

end Sys2Proof.Machine
end

