-- ==== Sys2Proof/Machine/Buffer.lean ====
section
/-! DEFINITION. The packet buffer and what every part of the data path shares: cell accounting, packets in
flight, drops (R227, R251, R281, R284). -/

namespace Sys2Proof.Machine

/-- The length of a packet with FCS. -/
def Packet.fcsLen (p : Packet) : Nat := p.bytes.length + 4

/-! ### Pools and cells (R281, R284) -/

/-- Cells charged to a pool: 0 TENANT, 1 UPSTREAM, 2 AUX, 3 TRANSIT. -/
def State.poolOcc (s : State) (p : Nat) : Nat := s.fld tmgB (F.TMG_POOL_OCC.OCC.at (4 * p))

/-- Change a pool's occupancy. -/
def State.setPoolOcc (s : State) (p v : Nat) : State := s.setF tmgB (F.TMG_POOL_OCC.OCC.at (4 * p)) v

/-- The limit of a pool. -/
def State.poolLimit (s : State) (p : Nat) : Nat := s.fld tmgB (F.TMG_POOL.LIMIT.at (4 * p))

/-- The free cells of the buffer. -/
def State.freeCells (s : State) : Nat := s.fld tmgB F.TMG_BUF_STAT.FREE

/-- The priorities of a port in XOFF (R284). -/
def State.xoffOf (s : State) (n : Nat) : Nat := SMap.get (fun _ => 0) s.tmg.xoff n

/-- Change the cells counted for a port's priority; crossing XOFF upward or XON downward signals the port (R284). -/
def State.pfcSet (s : State) (n tc v : Nat) : State :=
  let s := { s with tmg := { s.tmg with pfcCells := SMap.set (fun _ => 0) s.tmg.pfcCells (8 * n + tc) v } }
  let d := 0x20 * n
  let x := s.xoffOf n
  if s.fld tmgB (F.TMG_PFC_THR.XOFF.at d) < v ∧ x.testBit tc = false then
    let x := x + 2 ^ tc
    let s := { s with tmg := { s.tmg with xoff := SMap.set (fun _ => 0) s.tmg.xoff n x } }
    s.raiseMs n Ev.TMG_PFC_XOFF 0x28 noInst [(1, n), (1, x)]
  else if v ≤ s.fld tmgB (F.TMG_PFC_THR.XON.at d) ∧ x.testBit tc = true then
    { s with tmg := { s.tmg with xoff := SMap.set (fun _ => 0) s.tmg.xoff n (x - 2 ^ tc) } }
  else s

/-- The cells counted for a port's priority. -/
def State.pfcOf (s : State) (n tc : Nat) : Nat := SMap.get (fun _ => 0) s.tmg.pfcCells (8 * n + tc)

/-- Whether TRANSIT and the buffer can take a packet's cells (R281). -/
def State.transitRoom (s : State) (p : Packet) : Bool :=
  decide (s.poolOcc 3 + p.cellLen ≤ s.poolLimit 3) && decide (p.cellLen ≤ s.freeCells)

/-- Write a packet into the buffer: its cells are charged to TRANSIT and to its port's first-pass TC (R281, R284). -/
def State.storePkt (s : State) (p : Packet) : State × Packet :=
  let c := p.cellLen
  let uid := s.tmg.lastUid + 1
  let s := { s with tmg := { s.tmg with lastUid := uid, refs := SMap.set (fun _ => 0) s.tmg.refs uid 1 } }
  let s := s.setPoolOcc 3 (s.poolOcc 3 + c)
  let s := s.setF tmgB F.TMG_BUF_STAT.FREE (s.freeCells - c)
  let s := if p.src < 48 ∧ p.copy = false ∧ p.tc0 < 8 then s.pfcSet p.src p.tc0 (s.pfcOf p.src p.tc0 + c) else s
  (s, { p with cells := c, uid })

/-- One reference to a stored packet ends; with the last, its cells are free again (R280, R281, R284). -/
def State.unref (s : State) (p : Packet) : State :=
  if p.cells = 0 then s
  else
    let n := SMap.get (fun _ => 0) s.tmg.refs p.uid
    let s := { s with tmg := { s.tmg with refs := SMap.set (fun _ => 0) s.tmg.refs p.uid (n - 1) } }
    if n ≤ 1 then
      let s := s.setF tmgB F.TMG_BUF_STAT.FREE (s.freeCells + p.cells)
      if p.src < 48 ∧ p.copy = false ∧ p.tc0 < 8 then s.pfcSet p.src p.tc0 (s.pfcOf p.src p.tc0 - p.cells) else s
    else s

/-- A packet's LEN has changed in the pipeline: it occupies ceil(LEN ÷ 256) cells as it now stands, and TRANSIT, the buffer and
its port's count follow (R281, R284). -/
def State.recell (s : State) (p : Packet) : State × Packet :=
  let c := p.cellLen
  if p.cells = 0 ∨ c = p.cells then (s, p)
  else
    let s := s.setPoolOcc 3 (s.poolOcc 3 + c - p.cells)
    let s := s.setF tmgB F.TMG_BUF_STAT.FREE (s.freeCells + p.cells - c)
    let s := if p.src < 48 ∧ p.copy = false ∧ p.tc0 < 8 then s.pfcSet p.src p.tc0 (s.pfcOf p.src p.tc0 + c - p.cells) else s
    (s, { p with cells := c })

/-- A packet's cells leave TRANSIT (R281). -/
def State.leaveTransit (s : State) (p : Packet) : State := s.setPoolOcc 3 (s.poolOcc 3 - p.cells)

/-! ### Packets in flight (R227) -/

/-- Put an epoch's count of packets in flight, and show the non-live epoch's in TBL_EPOCH.OLD_COUNT. -/
def State.setInflight (s : State) (e v : Nat) : State :=
  let i : Fin 2 := if e = 0 then 0 else 1
  let s := { s with tbl := { s.tbl with inflight := s.tbl.inflight.set i v } }
  if s.fld tblB F.TBL_EPOCH.LIVE = i.val then s else s.setF tblB F.TBL_EPOCH.OLD_COUNT (min 0xFFFF v)

/-- The packets of an epoch in flight. -/
def State.inflightOf (s : State) (e : Nat) : Nat := s.tbl.inflight.get (if e = 0 then 0 else 1)

/-- A packet is no longer in flight. -/
def State.land (s : State) (p : Packet) : State :=
  if p.flight then s.setInflight (p.w W.EPOCH) (s.inflightOf (p.w W.EPOCH) - 1) else s

/-! ### Leaving the pipelines -/

/-- A packet leaves the device's memory without being sent: its cells are freed and it is no longer in flight. -/
def State.discardPkt (s : State) (p : Packet) : State := ((s.land p).leaveTransit p).unref p

/-- A crossing refuses a packet: its source drops it at its own output, counted in its drop counter (R24). The Clearing has
none of its own, so the packet counts in its pipeline's. -/
def State.xingDrop (s : State) (p : Packet) : State := (s.count (kB (pipeOf p.src) + Ctr.KP.DROPS)).discardPkt p

/-- A packet arrives at the traffic manager, where it waits to be queued (R227, R279); a traffic manager that does not accept
it loses it (R24). -/
def State.toTmg (s : State) (p : Packet) : State :=
  if !s.accepts 0x28 then s.xingDrop p
  else
    let s := s.land p
    { s with tmg := { s.tmg with inQ := s.tmg.inQ ++ [{ p with flight := false, since := s.now }] } }

/-- A drop with a reason of R251, without regard to stripes: counted in the producing pipeline. -/
def State.dropCore (s : State) (k : Nat) (p : Packet) (reason : Nat) : State :=
  let s := (s.count (kB k + Ctr.KP.DROPS)).tallyAdd (0x0C + k) reason
  (s.pmc 0x014 k).discardPkt p

/-- A wire source overflows its ingress FIFO (R35): RATE_SHORT and its event, with the source's bit of the pipeline's wire
sources in code order. -/
def State.rateShort (s : State) (src : Nat) : State :=
  let k := pipeOf src
  let i := if src < 48 then src % 24 else 24
  let s := s.setF (kB k) F.KP_ARB_STAT.RATE_SHORT 1
  s.raiseMs k (Ev.KP_RATE_SHORT + k) (0x20 + k) noInst [(4, 2 ^ i)]

end Sys2Proof.Machine
end

