-- ==== Sys2Proof/Machine/Stripe.lean ====
section
/-! DEFINITION. GIVE to the Teller (R259 to R262, R271), the stripe windows of the Clearing (R143 to R153, R160) and the
drops that leave skip markers (R150, R251). -/

namespace Sys2Proof.Machine

/-! ### The Teller's figures -/

/-- Ready items of a level. -/
def State.readyAt (s : State) (l : Nat) : Nat :=
  (s.tlr.items.filter fun i => decide (i.at_ = .ready) && decide (i.level = l)).length

/-- Ordered entries the Clearing holds. -/
def State.clrInUse (s : State) : Nat := (s.tlr.domains.map fun d => d.2.length).sum

/-- Show a level's depth, and raise TLR_LEVEL_HIGH when it rises past THR: from THR or below to above it, so that it has fallen
there since it was raised before (R271). -/
def State.showLevel (s : State) (l : Nat) : State :=
  let old := s.fld tlrB (F.TLR_LEVEL.DEPTH.at (4 * l))
  let d := s.readyAt l
  let thr := s.fld tlrB (F.TLR_LEVEL.THR.at (4 * l))
  let s := s.setF tlrB (F.TLR_LEVEL.DEPTH.at (4 * l)) d
  let s := { s with tlr := { s.tlr with highs := s.tlr.highs - (if s.tlr.highs.testBit l then 2 ^ l else 0) +
    (if thr < d then 2 ^ l else 0) } }
  if old ≤ thr ∧ thr < d then s.raise Ev.TLR_LEVEL_HIGH 0x24 noInst [(1, l), (2, d)] else s

/-- Show the items allocated and the ordered entries held (R274). -/
def State.showTlr (s : State) : State :=
  (s.setF tlrB F.TLR_STAT.ALLOCATED s.tlr.items.length).setF tlrB F.TLR_STAT.CLR_IN_USE s.clrInUse

/-- Replace the Teller's items. -/
def State.setItems (s : State) (l : List Item) : State := { s with tlr := { s.tlr with items := l } }

/-- The entries of a Clearing domain. -/
def State.domain (s : State) (d : Nat) : List (Option Nat) := SMap.get (fun _ => []) s.tlr.domains d

/-- Replace the entries of a Clearing domain. -/
def State.setDomain (s : State) (d : Nat) (l : List (Option Nat)) : State :=
  { s with tlr := { s.tlr with domains := SMap.set (fun _ => []) s.tlr.domains d l } }

/-! ### GIVE (R261) -/

/-- The island of the software consumer: the Steward, or the host's (R264). -/
def State.swIsland (s : State) : Nat :=
  if s.bit tlrB F.TLR_CFG.SW_CONS && !s.bit hstB F.HST_CFG.HOSTLESS then 0x3A else 0x3F

/-- The entries of the stripe pool (R159: larger values act as 8,192). -/
def State.stripePool (s : State) : Nat := min 8192 (s.fld tlrB F.TLR_STRIPE_POOL.POOL)

/-- Why the Teller refuses a GIVE: 0 every ID in use, 1 no free ordered entry outside the stripe pool, 2 no consumer. -/
def State.giveRefusal (s : State) (p : Packet) : Option Nat :=
  if 16384 ≤ s.tlr.items.length then some 0
  else if p.wb W.ORDERED && decide (8192 - s.stripePool ≤ s.clrInUse) then some 1
  else if p.wb W.CLASS && !s.live s.swIsland then some 2
  else none

/-- A free ID at or after a number, taking IDs round: the spec names no order of assignment (R261). -/
def freeId (used : List Nat) : Nat → Nat → Nat
  | 0, i => i % 16384
  | n + 1, i => if used.contains (i % 16384) then freeId used n (i + 1) else i % 16384

/-- A pipeline gives an item: it is refused, in which case `refused` acts, or takes a free ID and, when ordered, the next
entry of its domain (R261). Which free ID it takes is a free value. A Teller that accepts nothing loses it (R24). -/
def State.giveOr (s : State) (k : Nat) (p : Packet) (refused : State → State) : State :=
  if !s.accepts 0x24 then s.xingDrop p
  else match s.giveRefusal p with
  | some cause =>
    let s := s.count (tlrB + Ctr.TLR.REFUSED)
    refused (s.raiseMs 0 Ev.TLR_REFUSED 0x24 noInst [(1, cause), (1, p.w W.LEVEL)])
  | none =>
    let (s, r) := s.takeFree
    let id := freeId (s.tlr.items.map (·.id)) 16384 r
    let it : Item :=
      { id, pkt := p, pipe := k, cls := p.w W.CLASS, level := p.w W.LEVEL, ordered := p.wb W.ORDERED,
        resume := p.wb W.RESUME, pset := p.w W.PSET, domain := p.w W.DOMAIN, reason := p.w W.REASON, at_ := .ready,
        marked := false, since := s.now, takenAt := 0, doneAt := 0 }
    let s := s.setItems (s.tlr.items ++ [it])
    let s := if it.ordered then s.setDomain it.domain (s.domain it.domain ++ [some id]) else s
    let s := (s.count (kB k + Ctr.KP.GIVES)).pmc 0x030 it.cls
    (s.showLevel it.level).showTlr

/-! ### Stripe contexts -/

/-- The stripe context of an index. -/
def State.stripe (s : State) (x : Nat) : StripeCtx := SMap.get (fun _ => StripeCtx.empty) s.tlr.stripes x

/-- Entries held in all stripe windows (R151). -/
def State.stripeInUse (s : State) : Nat := (s.tlr.stripes.map fun c => c.2.held.length).sum

/-- Replace a stripe context and show the pool's use. -/
def State.setStripe (s : State) (x : Nat) (c : StripeCtx) : State :=
  let s := { s with tlr := { s.tlr with stripes := SMap.set (fun _ => StripeCtx.empty) s.tlr.stripes x c } }
  s.setF tlrB F.TLR_STRIPE_STAT.IN_USE s.stripeInUse

/-- The valid stripe context of a service flow. -/
def State.stripeOf (s : State) (sf : Nat) : Option Nat :=
  (s.tlr.stripes.find? fun c => c.2.valid && decide (c.2.sf = sf)).map (·.1)

/-- Count in a stripe context's Tally counters: 0 RELEASED, 1 SKIPPED, 2 LOST, 3 LATE, 4 DUP, 5 UNTAGGED, 6 RESYNC,
7 POOL_DROP (R161, R512). -/
def State.stripeCount (s : State) (x c : Nat) (n : Nat := 1) : State := s.tallyAdd 0x14 (8 * x + c) n

/-- A packet leaves its window: to the Teller when it is being given, else to the traffic manager (R147). -/
def State.leaveWindow (s : State) (p : Packet) : State :=
  let k := pipeOf p.src
  let p := { p with windowed := true }
  if p.wb W.T_REQ then
    let p := p.setWB W.T_REQ false
    s.giveOr k p fun s => s.dropCore k p 0x07
  else s.toTmg p

/-- A held entry is released: a packet leaves its window, a skip marker is consumed. -/
def State.releaseHeld (s : State) (x : Nat) (h : Held) : State :=
  match h.pkt with
  | some p => (s.stripeCount x 0).leaveWindow p
  | none => s.stripeCount x 1

/-- How far a number lies ahead of another, modulo 65,536. -/
def ahead (s next : Nat) : Nat := (s + 65536 - next % 65536) % 65536

/-- The held entry with a number. -/
def StripeCtx.find (c : StripeCtx) (seq : Nat) : Option Held := c.held.find? fun h => decide (h.seq = seq)

/-- NEXT after `span` numbers are settled: held entries among them are taken out in sequence order, and the numbers not
held are lost. Answers the context, the entries and the lost numbers' offsets from the old NEXT. -/
def StripeCtx.settle (c : StripeCtx) : Nat → StripeCtx × List Held × Nat × Nat
  | 0 => (c, [], 0, 0)
  | n + 1 =>
    let (d, hs, lost, last) := c.settle n
    match d.find d.next with
    | some h =>
      ({ d with next := (d.next + 1) % 65536, held := d.held.filter fun e => decide (e.seq ≠ d.next) },
        hs ++ [h], lost, last)
    | none => ({ d with next := (d.next + 1) % 65536 }, hs, lost + 1, d.next)

/-- Settle `span` numbers from NEXT: LOST counts the gaps and event 73 reports the last of them, and the held entries are
released (R148, R149). -/
def State.settle (s : State) (x span cause : Nat) : State :=
  let (c, hs, lost, last) := (s.stripe x).settle span
  let s := s.setStripe x c
  let s := if lost = 0 then s else
    (s.stripeCount x 2 lost).raiseMs 0 Ev.TLR_STRIPE_LOST 0x24 noInst [(1, x), (2, last), (1, cause)]
  hs.foldl (fun s h => s.releaseHeld x h) s

/-- Release every held entry that directly follows NEXT, at most `n` of them. -/
def State.runStripe (s : State) (x : Nat) : Nat → State
  | 0 => s
  | n + 1 =>
    let c := s.stripe x
    match c.find c.next with
    | none => s
    | some h =>
      let s := s.setStripe x
        { c with next := (c.next + 1) % 65536, held := c.held.filter fun e => decide (e.seq ≠ c.next) }
      (s.releaseHeld x h).runStripe x n

/-- The oldest held entry: the first to have arrived (R149). -/
def oldestHeld : List Held → Option Held
  | [] => none
  | h :: t =>
    match oldestHeld t with
    | none => some h
    | some g => if g.since < h.since then some g else some h

/-- Settle a context once: every number up to its oldest held entry, then what directly follows (R149). -/
def State.settleOnce (s : State) (x cause : Nat) : State :=
  let c := s.stripe x
  match oldestHeld c.held with
  | none => s
  | some h => (s.settle x (ahead h.seq c.next + 1) cause).runStripe x c.held.length

/-- Settle a context up to its last held entry (R148, R160). -/
def State.settleAll (s : State) (x cause : Nat) : State :=
  let c := s.stripe x
  let far := c.held.foldl (fun m h => max m (ahead h.seq c.next + 1)) 0
  s.settle x far cause

/-- Settle every stripe context once: a channel's service state leaves IN (R153). -/
def State.settleEvery (s : State) (cause : Nat) : State :=
  (s.tlr.stripes.map (·.1)).foldl (fun s x => s.settleOnce x cause) s

/-! ### Arrivals (R148, R151) -/

/-- The window in numbers (R159: 0 acts as 1). -/
def State.stripeWin (s : State) : Nat := max 1 (s.fld tlrB F.TLR_STRIPE_CFG.WIN)

/-- An entry is dropped at its window: a packet is a drop of its pipeline's memory with no reason of R251, a skip marker
vanishes. -/
def State.dropHeld (s : State) (h : Held) : State :=
  match h.pkt with
  | some p => s.discardPkt p
  | none => s

/-- An entry that must be held joins the window, or is dropped at a full pool (R151). -/
def State.holdEntry (s : State) (x : Nat) (h : Held) : State :=
  if s.stripeInUse < s.stripePool then
    let c := s.stripe x
    s.setStripe x { c with held := c.held ++ [h] }
  else
    let s := (s.stripeCount x 7).setF tlrB F.TLR_STRIPE_STAT.POOL_FULL 1
    (s.raiseMs 0 Ev.TLR_STRIPE_POOL 0x24 noInst [(2, s.stripeInUse)]).dropHeld h

/-- The rows of R148 but RST, after any push-out: released, held, or dropped as a duplicate or late. With `pool`, a full
pool settles the context once before the entry is handled again (R151). -/
def State.placeEntry (s : State) (x : Nat) (h : Held) : State :=
  let c := s.stripe x
  let d := ahead h.seq c.next
  if d = 0 then
    ((s.setStripe x { c with next := (c.next + 1) % 65536 }).releaseHeld x h).runStripe x c.held.length
  else if d < s.stripeWin then
    if (c.find h.seq).isSome then (s.stripeCount x 4).dropHeld h else s.holdEntry x h
  else (s.stripeCount x 3).dropHeld h

/-- The push-out row of R148: numbers more than a window behind an arrival, or behind an entry that lies beyond a lowered
WIN (R159), are settled. -/
def State.pushOut (s : State) (x seq : Nat) : State :=
  let c := s.stripe x
  let d := ahead seq c.next
  let w := s.stripeWin
  if w ≤ d ∧ d < 32768 then (s.settle x (d - w + 1) 0).runStripe x c.held.length else s

/-- A tagged entry arrives at the window of context x (R148). -/
def State.stripeArrive (s : State) (x : Nat) (h : Held) (rst : Bool) : State :=
  let c := s.stripe x
  if c.init then
    match h.pkt with
    | none => s.stripeCount x 1
    | some _ => (s.setStripe x { c with init := false, next := (h.seq + 1) % 65536 }).releaseHeld x h
  else if rst then
    let s := s.settleAll x 3
    let s := s.setStripe x { s.stripe x with next := (h.seq + 1) % 65536 }
    let s := (s.stripeCount x 6).raise Ev.TLR_STRIPE_RESYNC 0x24 noInst [(1, x), (2, h.seq)]
    s.releaseHeld x h
  else
    let far := c.held.foldl (fun m e => if ahead m c.next < ahead e.seq c.next then e.seq else m) c.next
    let s := if c.held.isEmpty then s else s.pushOut x far
    let s := s.pushOut x h.seq
    let c := s.stripe x
    let d := ahead h.seq c.next
    let full := decide (0 < d) && decide (d < s.stripeWin) && (c.find h.seq).isNone &&
      decide (s.stripePool ≤ s.stripeInUse)
    (if full then s.settleOnce x 5 else s).placeEntry x h

/-- A striped packet or marker without a valid context (R147, R150). -/
def State.noCtx (s : State) (sf : Nat) : State :=
  let s := (s.tallyAdd 0x15 0).setF tlrB F.TLR_STRIPE_STAT.NO_CTX 1
  s.raiseMs 0 Ev.TLR_STRIPE_NO_CTX 0x24 noInst [(2, sf)]

/-- A skip marker for a service flow and number reaches the Clearing (R150); a Clearing that accepts nothing loses it, and the
drop it stands for has been counted (R24). -/
def State.skipMarker (s : State) (sf seq : Nat) : State :=
  if !s.accepts 0x24 then s
  else match s.stripeOf sf with
  | none => s.noCtx sf
  | some x => s.stripeArrive x { seq, pkt := none, since := s.now } false

/-! ### Service-flow contexts and drops -/

/-- The entry of a table (R218), its words as one number. -/
def State.entry (s : State) (t i : Nat) : Nat := SMap.get (fun _ => 0) s.tbl.ents (t * 65536 + i)

/-- The service-flow context of an SF (R220). -/
def State.sfCtx (s : State) (sf : Nat) : Nat := s.entry 10 sf

/-- Whether a service flow is striped (R141). -/
def State.striped (s : State) (sf : Nat) : Bool :=
  decide (bits (s.sfCtx sf) 0 0 = 1) && decide (bits (s.sfCtx sf) 1 1 = 1)

/-- Whether a packet is of a striped flow and has not entered its window. -/
def State.awaitsWindow (s : State) (p : Packet) : Bool :=
  p.wb W.PON && p.wb W.SF_VALID && s.striped (p.w W.SF) && !p.windowed

/-- A drop with a reason of R251; a tagged packet of a striped flow becomes a skip marker in its window (R150). -/
def State.dropPkt (s : State) (k : Nat) (p : Packet) (reason : Nat) : State :=
  let mark := s.awaitsWindow p && (p.w W.OPTIONS).testBit 17
  let s := s.dropCore k p reason
  if mark then s.skipMarker (p.w W.SF) (p.w W.OPTIONS % 65536) else s

/-- A packet leaves the pipelines for good: one of a striped flow enters its window first (R147). -/
def State.leavePipe (s : State) (p : Packet) : State :=
  if s.awaitsWindow p then
    let sf := p.w W.SF
    match s.stripeOf sf with
    | none => (s.noCtx sf).leaveWindow p
    | some x =>
      if (p.w W.OPTIONS).testBit 17 then
        s.stripeArrive x { seq := p.w W.OPTIONS % 65536, pkt := some p, since := s.now } ((p.w W.OPTIONS).testBit 16)
      else (s.stripeCount x 5).leaveWindow p
  else s.leaveWindow p

/-- A packet goes back to its pipeline: refused at the end of pass 3, dropped at a full queue (R230). -/
def State.recircPkt (s : State) (p : Packet) : State :=
  let k := pipeOf p.src
  if 2 ≤ p.w W.PASS then
    let s := s.count (kB k + Ctr.KP.PASS_LIMIT)
    let s := s.raiseMs k (Ev.KP_PASS_LIMIT + k) (0x20 + k) noInst [(1, p.src), (2, p.w W.SF)]
    s.dropPkt k p 0x05
  else
    let i : Fin 2 := if k = 0 then 0 else 1
    let q := s.pipes.get i
    if q.recirc.length < 64 then
      { s with pipes := s.pipes.set i { q with recirc := q.recirc ++ [{ p with since := s.now }] } }
    else (s.count (kB k + Ctr.KP.RECIRC_FULL)).dropPkt k p 0x06

/-! ### The commands of the stripe windows -/

/-- STRIPE_SKIP_MARKER_ARRIVE (R150): the oldest marker on the side paths reaches the Clearing. -/
def execStripeSkipMarkerArrive (s : State) : Host.Outcome State Fault Refusal :=
  .next <| s.onLive 0x24 fun s => match s.tlr.markers with
    | [] => s
    | m :: t => { s with tlr := { s.tlr with markers := t } }.skipMarker m.2.1 m.2.2

/-- STRIPE_TIMEOUT (R149): the oldest held entry of a context has been held for TIMEOUT µs. -/
def execStripeTimeout (x : Fin 256) (s : State) : Host.Outcome State Fault Refusal :=
  .next <| s.onLive 0x24 fun s => match oldestHeld (s.stripe x.val).held with
    | none => s
    | some h =>
      let due := h.since + max 1 (s.fld tlrB F.TLR_STRIPE_CFG.TIMEOUT) * usTicks
      (s.elapseTo due).settleOnce x.val 1

/-- A stripe context is written (R145, R160): refused with DUP where another valid context has its SF; otherwise its held entries
are settled, its sequence upstream starts anew, and it is in INIT. -/
def State.stripeWrite (s : State) (x sf : Nat) (valid : Bool) : State :=
  let dup := s.tlr.stripes.any fun c => c.2.valid && decide (c.2.sf = sf) && decide (c.1 ≠ x)
  if dup then s.setF tlrB F.TLR_STRIPE_STAT.DUP 1
  else
    let s := (s.setF tlrB F.TLR_STRIPE_STAT.DUP 0).settleAll x 4
    let s := { s with tmg := { s.tmg with txSeq := SMap.set (fun _ => 0) s.tmg.txSeq sf 0 } }
    s.setStripe x { valid, init := true, sf, next := 0, held := [] }

/-- A write of TLR_STRIPE_CMD (R160). -/
def State.wrStripeCmd (s : State) (v : Nat) : State :=
  if s.bit tlrB F.TLR_STRIPE_CMD.BUSY then s
  else
    let x := F.TLR_STRIPE_CMD.INDEX.of v
    let op := F.TLR_STRIPE_CMD.OP.of v
    let s := (s.setF tlrB F.TLR_STRIPE_CMD.OP op).setF tlrB F.TLR_STRIPE_CMD.INDEX x
    let s := s.setF tlrB F.TLR_STRIPE_CMD.BUSY 1
    if op = 0 then
      let c := s.stripe x
      s.setReg (tlrB + 0x80C) (BitVec.ofNat 32
        (b2n c.valid * 2 ^ 31 + b2n c.init * 2 ^ 30 + c.sf * 2 ^ 16 + c.next))
    else if op = 1 then s.stripeWrite x (s.fld tlrB F.TLR_STRIPE_DATA.SF) (s.bit tlrB F.TLR_STRIPE_DATA.VALID)
    else if op = 2 then
      let s := s.settleAll x 4
      let c := s.stripe x
      s.setStripe x { c with valid := false, init := false }
    else s.settleOnce x 1

/-- The value of TLR_STRIPE_CMD for an operation on a context. -/
def stripeCmd (op x : Nat) : Nat := op * 2 ^ 16 + x

/-- TLR_STRIPE_READ (R160): OP 00 copies a stripe context into TLR_STRIPE_DATA. -/
def execTlrStripeRead (m : Master) (x : Fin 256) (s : State) : Host.Outcome State Fault Refusal :=
  .next (s.onWrite m (tlrB + 0x808) fun s => s.wrStripeCmd (stripeCmd 0 x.val))

/-- TLR_STRIPE_WRITE (R160): OP 01 settles the context's held entries and places it in INIT, or is refused with DUP. -/
def execTlrStripeWrite (m : Master) (x : Fin 256) (s : State) : Host.Outcome State Fault Refusal :=
  .next (s.onWrite m (tlrB + 0x808) fun s => s.wrStripeCmd (stripeCmd 1 x.val))

/-- TLR_STRIPE_INVALIDATE (R160): OP 10 settles the context's held entries and invalidates it. -/
def execTlrStripeInvalidate (m : Master) (x : Fin 256) (s : State) : Host.Outcome State Fault Refusal :=
  .next (s.onWrite m (tlrB + 0x808) fun s => s.wrStripeCmd (stripeCmd 2 x.val))

/-- TLR_STRIPE_FLUSH (R160): OP 11 settles the context once and keeps it valid. -/
def execTlrStripeFlush (m : Master) (x : Fin 256) (s : State) : Host.Outcome State Fault Refusal :=
  .next (s.onWrite m (tlrB + 0x808) fun s => s.wrStripeCmd (stripeCmd 3 x.val))

/-- TLR_STRIPE_CMD_DONE (R160): the operation completes and BUSY clears. -/
def execTlrStripeCmdDone (s : State) : Host.Outcome State Fault Refusal :=
  .next (s.onLive 0x24 fun s => s.setF tlrB F.TLR_STRIPE_CMD.BUSY 0)

end Sys2Proof.Machine
end

