-- ==== Sys2Proof/Machine/Tables.lean ====
section
/-! DEFINITION. The table store and the parse graphs as software sees them: entries and their keys (R217 to R221), table
and parse-graph operations (R225, R235), learning and aging (R222, R223), epochs (R227 to R229) and table banks (R232,
R233). -/

namespace Sys2Proof.Machine

/-! ### Entries (R217 to R219) -/

/-- The words of a table's entries (R218). -/
def entryWords (t : Nat) : Nat :=
  if t = 2 then 12 else if 3 ≤ t ∧ t ≤ 6 then 22 else if t = 8 then 6 else if t = 10 then 4 else 3

/-- The blocks of a ternary table as its register holds them: BASE and COUNT. -/
def State.tcamRaw (s : State) (t : Nat) : Nat × Nat :=
  (s.fld tblB (F.TBL_TCAM_PART.BASE.at (4 * t)), s.fld tblB (F.TBL_TCAM_PART.COUNT.at (4 * t)))

/-- Whether two runs of blocks overlap: a run of none overlaps nothing. -/
def blocksMeet (a b : Nat × Nat) : Bool :=
  decide (a.2 ≠ 0) && decide (b.2 ≠ 0) && decide (a.1 < b.1 + b.2) && decide (b.1 < a.1 + a.2)

/-- The blocks in force of the ternary tables T0 to T(n-1): a run past block 15 or one that overlaps a lower-numbered
table's acts as COUNT = 0 (R219). -/
def State.tcamParts (s : State) : Nat → List (Nat × Nat)
  | 0 => []
  | n + 1 =>
    let l := s.tcamParts n
    let p := s.tcamRaw n
    l ++ [if 16 < p.1 + p.2 ∨ l.any (blocksMeet p) = true then (p.1, 0) else p]

/-- The blocks in force of a ternary table. -/
def State.tcamPart (s : State) (t : Nat) : Nat × Nat := (s.tcamParts 4).getD t (0, 0)

/-- The number of entries of a table. -/
def State.tblSize (s : State) (t : Nat) : Nat :=
  if t = 1 then 65536 else if t = 2 then 32768
  else if 3 ≤ t ∧ t ≤ 6 then 512 * (s.tcamPart (t - 3)).2
  else if t = 7 then 16384 else if t = 8 ∨ t = 9 then 8192 else if t = 10 then 4096 else 0

/-- Where the store keeps entry i of a table: a ternary entry lies at its row. -/
def State.entKey (s : State) (t i : Nat) : Nat :=
  if 3 ≤ t ∧ t ≤ 6 then 3 * 65536 + 512 * (s.tcamPart (t - 3)).1 + i else t * 65536 + i

/-- Entry i of a table. -/
def State.ent (s : State) (t i : Nat) : Nat := SMap.get (fun _ => 0) s.tbl.ents (s.entKey t i)

/-- A learned L2 entry's source: valid with STATIC = 0 (R222). -/
def learnedSrc (e : Nat) : Option Nat := if bits e 64 64 = 1 ∧ bits e 65 65 = 0 then some (bits e 78 72) else none

/-- Change a source's learned count (R222). -/
def State.learnCnt (s : State) (src : Option Nat) (up : Bool) : State :=
  match src with
  | none => s
  | some p =>
    if p < 50 then
      let f := F.TBL_LEARN_CNT.COUNT.at (8 * p)
      s.setF tblB f (if up then s.fld tblB f + 1 else s.fld tblB f - 1)
    else s

/-- Replace entry i of a table; the learned counts follow an L2 entry. -/
def State.setEnt (s : State) (t i e : Nat) : State :=
  let s := if t = 1 then (s.learnCnt (learnedSrc (s.ent t i)) false).learnCnt (learnedSrc e) true else s
  { s with tbl := { s.tbl with ents := SMap.set (fun _ => 0) s.tbl.ents (s.entKey t i) e } }

/-- The place of VALID in a table's entries (R218). -/
def validBit (t : Nat) : Nat :=
  if t = 1 then 64 else if t = 2 then 320 else if 3 ≤ t ∧ t ≤ 6 then 640 else if t = 7 then 46 else if t = 8 then 144
  else if t = 9 then 33 else 0

/-- Whether an entry of a table is valid. -/
def entValid (t e : Nat) : Bool := bits e (validBit t) (validBit t) != 0

/-- The E field of an entry; L2 and service-flow entries have none and are seen by both epochs (R218, R220). -/
def entE (t e : Nat) : Nat :=
  if t = 2 then bits e 322 321 else if 3 ≤ t ∧ t ≤ 6 then bits e 642 641 else if t = 7 then bits e 48 47
  else if t = 8 then bits e 146 145 else if t = 9 then bits e 35 34 else 3

/-- Whether an entry is valid and visible to an epoch (R218). -/
def entSeen (t e ep : Nat) : Bool := entValid t e && (entE t e).testBit ep

/-- ACTION of an entry of tables 2 to 9 (R218). -/
def entAction (t e : Nat) : Nat :=
  if t = 2 then bits e 351 336 else if 3 ≤ t ∧ t ≤ 6 then bits e 671 656 else if t = 8 then bits e 175 160
  else bits e 79 64

/-- META of an entry of tables 2 to 9 (R218). -/
def entMeta (t e : Nat) : Nat :=
  if t = 2 then bits e 367 352 else if 3 ≤ t ∧ t ≤ 6 then bits e 687 672 else if t = 8 then bits e 191 176
  else bits e 95 80

/-- PLEN of an LPM entry. -/
def entPlen (t e : Nat) : Nat := if t = 7 then bits e 45 40 else bits e 143 136

/-- The address bits of an LPM table. -/
def lpmWidth (t : Nat) : Nat := if t = 7 then 32 else 128

/-- VRF of an LPM entry. -/
def entVrf (t e : Nat) : Nat := if t = 7 then bits e 39 32 else bits e 135 128

/-- ADDR of an LPM entry. -/
def entAddr (t e : Nat) : Nat := if t = 7 then bits e 31 0 else bits e 127 0

/-- The key of a VLAN entry: SRC, OVID, IVID_ANY and, with IVID_ANY = 0, IVID. -/
def vlanKey (e : Nat) : Nat × Nat × Nat × Nat :=
  (bits e 6 0, bits e 19 8, bits e 32 32, if bits e 32 32 = 1 then 0 else bits e 31 20)

/-- Whether two entries of a table are duplicates: the same key and an E that overlaps; for L2 the same key, for LPM the
same VRF, address and PLEN (R225). -/
def sameEntry (t a b : Nat) : Bool :=
  if t = 1 then decide (bits a 59 0 = bits b 59 0)
  else if t = 2 then decide (bits a 319 0 = bits b 319 0) && decide (Nat.land (entE t a) (entE t b) ≠ 0)
  else if t = 7 ∨ t = 8 then
    decide (entVrf t a = entVrf t b) && decide (entPlen t a = entPlen t b) && decide (entAddr t a = entAddr t b)
  else if t = 9 then decide (vlanKey a = vlanKey b) && decide (Nat.land (entE t a) (entE t b) ≠ 0)
  else false

/-! ### Placement (R221) -/

/-- The 8 key bytes of an L2 entry (R221). -/
def l2KeyBytes (fid mac : Nat) : List Byte := beBytes 2 fid ++ beBytes 6 mac

/-- The bucket of an L2 key in a half (R221). -/
def l2Bucket (fid mac half : Nat) : Nat :=
  (if half = 0 then crc32 (l2KeyBytes fid mac) else crc32c (l2KeyBytes fid mac)) % 4096

/-- The bucket of an exact-flow key in a half (R221). -/
def flowBucket (key half : Nat) : Nat := (if half = 0 then crc32 (beBytes 40 key) else crc32c (beBytes 40 key)) % 2048

/-- The entries of a half of a hash table. -/
def halfSize (t : Nat) : Nat := if t = 1 then 32768 else 16384

/-- The bucket in a half of the key an L2 or exact-flow entry holds. -/
def entBucket (t e half : Nat) : Nat :=
  if t = 1 then l2Bucket (bits e 59 48) (bits e 47 0) half else flowBucket (bits e 319 0) half

/-- The indices of a bucket. -/
def bucketIdx (t half b : Nat) : List Nat := (List.range 8).map fun w => half * halfSize t + b * 8 + w

/-- The indices that may hold an entry's key: its two buckets. -/
def entIdx (t e : Nat) : List Nat := bucketIdx t 0 (entBucket t e 0) ++ bucketIdx t 1 (entBucket t e 1)

/-- The listed indices of a table: those whose entries are not all zeros. -/
def State.listedIdx (s : State) (t : Nat) : List Nat :=
  (s.tbl.ents.filter fun p => decide (p.1 / 65536 = t)).map fun p => p.1 % 65536

/-- The lowest index of a table, other than `but`, whose valid entry is a duplicate of `e`. -/
def State.findSame (s : State) (t e : Nat) (but : Option Nat) : Option Nat :=
  (s.listedIdx t).find? fun i => decide (some i ≠ but) && entValid t (s.ent t i) && sameEntry t e (s.ent t i)

/-- Where an insert goes in an L2 or exact-flow table: the bucket that holds fewer valid entries, half 0 on a tie, and the
lowest free way (R221). -/
def State.hashPlace (s : State) (t e : Nat) : Option Nat :=
  let used (l : List Nat) : Nat := (l.filter fun i => entValid t (s.ent t i)).length
  let b0 := bucketIdx t 0 (entBucket t e 0)
  let b1 := bucketIdx t 1 (entBucket t e 1)
  (if used b0 ≤ used b1 then b0 else b1).find? fun i => !entValid t (s.ent t i)

/-- The first index at or after `i`, taken round `size`, that satisfies `ok`, looking at `n` indices. -/
def firstIdx (size : Nat) (ok : Nat → Bool) : Nat → Nat → Option Nat
  | 0, _ => none
  | n + 1, i => if ok (i % size) then some (i % size) else firstIdx size ok n (i + 1)

/-- Where an insert goes. For LPM and VLAN the spec names no placement: it is a free value among the free indices, for
VLAN those its hash allows. -/
def State.placeEnt (s : State) (t e : Nat) : State × Option Nat :=
  if t = 1 ∨ t = 2 then (s, s.hashPlace t e)
  else
    let (s, r) := s.takeFree
    let ok (i : Nat) : Bool := !entValid t (s.ent t i) && (decide (t ≠ 9) || Config.vlanPlace (bits e 32 0) i)
    (s, firstIdx (s.tblSize t) ok (s.tblSize t) r)

/-- The Tally space of a table's hit counters (R512). -/
def hitSpace (t : Nat) : Nat := t - 1

/-- A write or an insert places an entry: its hit counter is zeroed (R226). -/
def State.placeAt (s : State) (t i e : Nat) : State := (s.setEnt t i e).tallySet (hitSpace t) i 0

/-- Whether a table is ternary. -/
def isTernary (t : Nat) : Bool := decide (3 ≤ t) && decide (t ≤ 6)

/-- Why an entry cannot be written at an index, 0 when it can: 4 not applicable, 3 duplicate (R218, R225). Both checks are of the
key, whatever the entry's VALID. -/
def State.writeCause (s : State) (t e i : Nat) : Nat :=
  if (t = 7 ∨ t = 8) ∧ lpmWidth t < entPlen t e then 4
  else if isTernary t || decide (t = 10) then 0
  else if (t = 1 ∨ t = 2) ∧ (entIdx t e).contains i = false then 4
  else if t = 9 ∧ Config.vlanPlace (bits e 32 0) i = false then 4
  else if (s.findSame t e (some i)).isSome then 3
  else 0

/-- A service-flow context that becomes striped starts a new upstream sequence (R145). -/
def State.stripeSet (s : State) (t i e : Nat) : State :=
  if t = 10 ∧ bits e 1 1 = 1 ∧ bits (s.ent 10 i) 1 1 = 0 then
    { s with tmg := { s.tmg with txSeq := SMap.set (fun _ => 0) s.tmg.txSeq i 0 } }
  else s

/-- A software write to an L2 key wins over a learn of that key in the same clock: the request is discarded, whether it waits
or has just placed its entry (R224). -/
def State.softWins (s : State) (t e : Nat) : State :=
  if t = 1 then
    let key := bits e 59 0
    let placed := (entIdx 1 e).filter fun i => s.tbl.learntNow.has s.now i && decide (bits (s.ent 1 i) 59 0 = key)
    let s := placed.foldl (fun s i => s.setEnt 1 i (setBits (s.ent 1 i) 64 64 0)) s
    { s with tbl := { s.tbl with
        learnQ := s.tbl.learnQ.filter fun r => decide (r.asked ≠ s.now) || decide (key ≠ r.fid * 2 ^ 48 + r.mac)
        softNow := s.tbl.softNow.note s.now key } }
  else s

/-- Insert an entry by key, placed valid: the cause, and the index where it was placed (R225). -/
def State.insertEnt (s : State) (t e0 : Nat) : State × Nat × Option Nat :=
  let e := setBits e0 (validBit t) (validBit t) 1
  if isTernary t || decide (t = 10) then (s, 4, none)
  else if (t = 7 ∨ t = 8) ∧ lpmWidth t < entPlen t e then (s, 4, none)
  else if ((s.softWins t e).findSame t e none).isSome then (s, 3, none)
  else
    match (s.softWins t e).placeEnt t e with
    | (_, none) => (s, 1, none)
    | (s, some i) => (s.placeAt t i e, 0, some i)

/-! ### TBL_CMD (R225) -/

/-- The entry TBL_DATA spells for a table. -/
def State.tblData (s : State) (t : Nat) : Nat := wordsNat (s.regWords (tblB + 0x20) (entryWords t))

/-- Put an entry of a table into TBL_DATA. -/
def State.putTblData (s : State) (t e : Nat) : State := s.setRegs (tblB + 0x20) (natWords (entryWords t) e)

/-- End a table operation with its cause. -/
def State.tblCause (s : State) (c : Nat) : State := s.setF tblB F.TBL_CMD.CAUSE c

/-- The effect of a table operation on a table that exists (R225). -/
def State.tblOp (s : State) (op t i : Nat) : State :=
  if op ≤ 2 ∧ s.tblSize t ≤ i then s.tblCause 5
  else if op = 0 then (s.putTblData t (s.ent t i)).tblCause 0
  else if op = 1 then
    let e := s.tblData t
    let w := s.softWins t e
    let c := w.writeCause t e i
    if c = 0 then ((w.stripeSet t i e).placeAt t i e).tblCause 0 else s.tblCause c
  else if op = 2 then (s.setEnt t i (setBits (s.ent t i) (validBit t) (validBit t) 0)).tblCause 0
  else if isTernary t || decide (t = 10) then s.tblCause 4
  else if op = 3 then
    match s.insertEnt t (s.tblData t) with
    | (s, c, none) => s.tblCause c
    | (s, c, some j) => (s.setF tblB F.TBL_CMD.INDEX j).tblCause c
  else
    match s.findSame t (s.tblData t) none with
    | none => s.tblCause 2
    | some j =>
      let s := (s.setF tblB F.TBL_CMD.INDEX j).tblCause 0
      if op = 4 then s.setEnt t j (setBits (s.ent t j) (validBit t) (validBit t) 0)
      else s.putTblData t (s.ent t j)

/-- A write of TBL_CMD (R225): while BUSY it is discarded; OPs 6 to 15 act on nothing. -/
def State.wrTblCmd (s : State) (v : Nat) : State :=
  if s.bit tblB F.TBL_CMD.BUSY then s
  else
    let op := F.TBL_CMD.OP.of v
    let t := F.TBL_CMD.TABLE.of v
    let i := F.TBL_CMD.INDEX.of v
    let s := ((s.setF tblB F.TBL_CMD.OP op).setF tblB F.TBL_CMD.TABLE t).setF tblB F.TBL_CMD.INDEX i
    if 5 < op then s
    else
      let s := s.setF tblB F.TBL_CMD.BUSY 1
      if t = 0 ∨ 10 < t then s.tblCause 4 else s.tblOp op t i

/-- The value of TBL_CMD for an operation on a table's entry. -/
def tblCmd (op t i : Nat) : Nat := op * 2 ^ 24 + t * 2 ^ 20 + i

/-- TBL_READ (R225): OP 0 reads an entry by index into TBL_DATA. -/
def execTblRead (m : Master) (t : BitVec 4) (i : BitVec 16) (s : State) : Host.Outcome State Fault Refusal :=
  .next (s.onWrite m (tblB + 0x10) fun s => s.wrTblCmd (tblCmd 0 t.toNat i.toNat))

/-- TBL_WRITE (R225, R226): OP 1 writes TBL_DATA to an entry by index and zeroes its hit counter. -/
def execTblWrite (m : Master) (t : BitVec 4) (i : BitVec 16) (s : State) : Host.Outcome State Fault Refusal :=
  .next (s.onWrite m (tblB + 0x10) fun s => s.wrTblCmd (tblCmd 1 t.toNat i.toNat))

/-- TBL_INVALIDATE (R225): OP 2 invalidates an entry by index; its hit counter stays. -/
def execTblInvalidate (m : Master) (t : BitVec 4) (i : BitVec 16) (s : State) : Host.Outcome State Fault Refusal :=
  .next (s.onWrite m (tblB + 0x10) fun s => s.wrTblCmd (tblCmd 2 t.toNat i.toNat))

/-- TBL_INSERT (R221, R225): OP 3 inserts the entry of TBL_DATA by key. -/
def execTblInsert (m : Master) (t : BitVec 4) (s : State) : Host.Outcome State Fault Refusal :=
  .next (s.onWrite m (tblB + 0x10) fun s =>
    s.wrTblCmd (tblCmd 3 t.toNat (s.fld tblB F.TBL_CMD.INDEX)))

/-- TBL_DELETE (R225): OP 4 invalidates the entry whose key TBL_DATA names. -/
def execTblDelete (m : Master) (t : BitVec 4) (s : State) : Host.Outcome State Fault Refusal :=
  .next (s.onWrite m (tblB + 0x10) fun s =>
    s.wrTblCmd (tblCmd 4 t.toNat (s.fld tblB F.TBL_CMD.INDEX)))

/-- TBL_SEARCH (R225): OP 5 copies the entry whose key TBL_DATA names into TBL_DATA. -/
def execTblSearch (m : Master) (t : BitVec 4) (s : State) : Host.Outcome State Fault Refusal :=
  .next (s.onWrite m (tblB + 0x10) fun s =>
    s.wrTblCmd (tblCmd 5 t.toNat (s.fld tblB F.TBL_CMD.INDEX)))

/-- TBL_CMD_DONE (R225): the operation completes with its CAUSE and BUSY clears. -/
def execTblCmdDone (s : State) : Host.Outcome State Fault Refusal := .next (s.onLive 0x22 fun s => s.setF tblB F.TBL_CMD.BUSY 0)

/-! ### Parse-graph nodes (R204, R229, R235) -/

/-- Where the store keeps a node of a pipeline's parse graph. -/
def nodeKey (k bank node : Nat) : Nat := (2 * k + bank) * 64 + node

/-- A node's 12 words as one number. -/
def State.node (s : State) (k bank node : Nat) : Nat := SMap.get (fun _ => 0) s.tbl.graph (nodeKey k bank node)

/-- The bits of a node's 12 words that hold its fields: the others are reserved and read as 0 (R9, R204). -/
def nodeBits : Nat := wordsNat ([0xFFFFFFFF, 0xFFFFFF00, 0xFFFFFF00, 0xFFFFFFF0] ++ List.replicate 8 0xFFFFFE00)

/-- Replace a node. -/
def State.setNode (s : State) (k bank node v : Nat) : State :=
  { s with tbl := { s.tbl with graph := SMap.set (fun _ => 0) s.tbl.graph (nodeKey k bank node) (Nat.land v nodeBits) } }

/-- Whether a bank of rule-set state is locked: sealed, and its epoch live or draining (R229, R253). -/
def State.bankLocked (s : State) (bank : Nat) : Bool :=
  s.sealed && (decide (bank = s.fld tblB F.TBL_EPOCH.LIVE) || s.bit tblB F.TBL_EPOCH.DRAINING)

/-- A write that R229 refuses. -/
def State.wrRefused (s : State) (k : Nat) : State :=
  (s.setF (kB k) F.KP_STAGE_STAT.WR_REFUSED 1).count (kB k + Ctr.KP.WR_REFUSED)

/-- A write of KP_PG_CMD (R235). -/
def State.wrPgCmd (s : State) (k v : Nat) : State :=
  if s.bit (kB k) F.KP_PG_CMD.BUSY then s
  else
    let op := F.KP_PG_CMD.OP.of v
    let bank := F.KP_PG_CMD.BANK.of v
    let n := F.KP_PG_CMD.NODE.of v
    let s := ((s.setF (kB k) F.KP_PG_CMD.OP op).setF (kB k) F.KP_PG_CMD.BANK bank).setF (kB k) F.KP_PG_CMD.NODE n
    if op = 0 then (s.setRegs (kB k + 0x120) (natWords 12 (s.node k bank n))).setF (kB k) F.KP_PG_CMD.BUSY 1
    else if op = 1 then
      let s := s.setF (kB k) F.KP_PG_CMD.BUSY 1
      if s.bankLocked bank then s.wrRefused k
      else s.setNode k bank n (wordsNat (s.regWords (kB k + 0x120) 12))
    else s

/-- The value of KP_PG_CMD for an operation on a node. -/
def pgCmd (op bank n : Nat) : Nat := op * 2 ^ 16 + bank * 64 + n

/-- KP_PG_READ (R235): OP 00 reads a parse-graph node into KP_PG_DATA. -/
def execKpPgRead (m : Master) (k : Pipe) (bank : Fin 2) (n : Fin 64) (s : State) : Host.Outcome State Fault Refusal :=
  .next (s.onWrite m (kB k.val + 0x110) fun s => s.wrPgCmd k.val (pgCmd 0 bank.val n.val))

/-- KP_PG_WRITE (R229, R235): OP 01 writes a parse-graph node, refused for a live or draining bank after sealing. -/
def execKpPgWrite (m : Master) (k : Pipe) (bank : Fin 2) (n : Fin 64) (s : State) : Host.Outcome State Fault Refusal :=
  .next (s.onWrite m (kB k.val + 0x110) fun s => s.wrPgCmd k.val (pgCmd 1 bank.val n.val))

/-- KP_PG_CMD_DONE (R235): the operation completes and BUSY clears. -/
def execKpPgCmdDone (k : Pipe) (s : State) : Host.Outcome State Fault Refusal :=
  .next (s.onLive (0x20 + k.val) fun s => s.setF (kB k.val) F.KP_PG_CMD.BUSY 0)

/-! ### Learning (R222, R224) -/

/-- DEST of a learned entry: the tenant port, or the packet's SF for a PON channel. -/
def learnDest (src sf : Nat) : Nat := if src < 48 then 0x4000 + src else 0x8000 + sf

/-- A refused learning is reported, at most once per 1 ms: 0 limit, 1 queue, 2 full. -/
def State.learnRefused (s : State) (src cause : Nat) : State :=
  s.raiseMs 0 Ev.TBL_L2_LEARN_REFUSED 0x22 noInst [(1, src), (1, cause)]

/-- The valid L2 entry of a key. -/
def State.findL2 (s : State) (fid mac : Nat) : Option Nat :=
  (bucketIdx 1 0 (l2Bucket fid mac 0) ++ bucketIdx 1 1 (l2Bucket fid mac 1)).find? fun i =>
    entValid 1 (s.ent 1 i) && decide (bits (s.ent 1 i) 59 0 = fid % 4096 * 2 ^ 48 + mac)

/-- A lookup hits an entry in this clock (R224). -/
def State.noteHit (s : State) (t i : Nat) : State :=
  { s with tbl := { s.tbl with hitNow := s.tbl.hitNow.note s.now (s.entKey t i) } }

/-- Whether software has written an L2 key in this clock (R224). -/
def State.softKey (s : State) (key : Nat) : Bool := s.tbl.softNow.has s.now key

/-- The hit rows of R222 for entry i and a source; a move gives way to a software write of the same clock (R224). -/
def State.learnHit (s : State) (i src dest : Nat) : State :=
  let e := s.ent 1 i
  let old := bits e 78 72
  if s.softKey (bits e 59 0) && decide (old ≠ src) then s
  else if old = src then s.setEnt 1 i (setBits e 66 66 1)
  else
    let ok := decide (bits e 65 65 = 0) && decide (s.fld tblB (F.TBL_LEARN_CFG.MOVE_EN.at (8 * src)) = 1)
    let s := if ok then (s.setEnt 1 i (setBits (setBits (setBits e 78 72 src) 95 80 dest) 66 66 1)).count
        (tblB + Ctr.TBL.L2_MOVE)
      else s.count (tblB + Ctr.TBL.L2_MOVE_REFUSED)
    s.raiseMs 0 Ev.TBL_L2_MOVE 0x22 noInst [(2, i), (1, old), (1, src), (1, if ok then 0 else 1)]

/-- An SA stage learns from a packet of a source that is not a DMA channel (R222). -/
def State.learn (s : State) (fid mac src sf : Nat) (hit : Option Nat) : State :=
  if 50 ≤ src then s
  else
    match hit with
    | some i => s.learnHit i src (learnDest src sf)
    | none =>
      if s.fld tblB (F.TBL_LEARN_CFG.EN.at (8 * src)) = 0 then s
      else if s.fld tblB (F.TBL_LEARN_CFG.LIMIT.at (8 * src)) ≤ s.fld tblB (F.TBL_LEARN_CNT.COUNT.at (8 * src)) then
        (s.count (tblB + Ctr.TBL.L2_LIMIT_HIT)).learnRefused src 0
      else if 64 ≤ s.tbl.learnQ.length then (s.count (tblB + Ctr.TBL.L2_LEARN_DROP)).learnRefused src 1
      else if s.softKey (fid * 2 ^ 48 + mac) then s
      else { s with tbl := { s.tbl with learnQ := s.tbl.learnQ ++ [{ fid, mac, src, dest := learnDest src sf, asked := s.now }] } }

/-- L2_LEARN_INSERT (R222, R224): the learn queue inserts its next request; a key the table already holds is a hit, and one that
software writes in this clock is discarded. -/
def execL2LearnInsert (s : State) : Host.Outcome State Fault Refusal :=
  .next <| s.onLive 0x22 fun s => match s.tbl.learnQ with
    | [] => s
    | r :: q =>
      let s := { s with tbl := { s.tbl with learnQ := q } }
      if s.softKey (r.fid * 2 ^ 48 + r.mac) then s
      else match s.findL2 r.fid r.mac with
      | some i => s.learnHit i r.src r.dest
      | none =>
        let e := r.mac + r.fid * 2 ^ 48 + 2 ^ 64 + 2 ^ 66 + r.src * 2 ^ 72 + r.dest * 2 ^ 80
        match s.hashPlace 1 e with
        | none => (s.count (tblB + Ctr.TBL.L2_LEARN_FULL)).learnRefused r.src 2
        | some i =>
          let s := { s with tbl := { s.tbl with learntNow := s.tbl.learntNow.note s.now i } }
          ((s.placeAt 1 i e).count (tblB + Ctr.TBL.L2_LEARNED)).pmc 0x021 noInst

/-! ### Aging (R223) -/

/-- The ECC outcome of reading an entry (R233). -/
def State.entryEcc (s : State) (ecc : EccOutcome) (t i bank : Nat) : State :=
  match ecc with
  | .good => s
  | .corrected => (s.count (tblB + Ctr.TBL.ECC_CORR)).raiseMs 0 Ev.TBL_ECC_CORR 0x22 noInst [(1, bank)]
  | .lost =>
    let s := s.setEnt t i (setBits (s.ent t i) (validBit t) (validBit t) 0)
    (s.count (tblB + Ctr.TBL.ENTRY_LOST)).raise Ev.TBL_ENTRY_LOST 0x22 noInst [(1, t), (2, i)]

/-- The aging of one entry: HIT is cleared, or an idle entry is invalidated (R223); an entry that a lookup hits in the same clock
stays, with HIT = 1 (R224). -/
def State.ageEntry (s : State) (t i : Nat) : State :=
  let e := s.ent t i
  let hit := if t = 1 then 66 else 324
  if !entValid t e then s
  else if t = 2 ∧ bits e 323 323 = 0 then s
  else if s.tbl.hitNow.has s.now (s.entKey t i) then s.setEnt t i (setBits e hit hit 1)
  else if bits e hit hit = 1 then s.setEnt t i (setBits e hit hit 0)
  else if t = 1 ∧ bits e 65 65 = 1 then s
  else
    let s := s.setEnt t i (setBits e (validBit t) (validBit t) 0)
    if t = 1 then s.count (tblB + Ctr.TBL.L2_AGED)
    else (s.count (tblB + Ctr.TBL.FLOW_AGED)).raise Ev.TBL_FLOW_AGED 0x22 noInst [(2, i)]

end Sys2Proof.Machine
end

