-- ==== Sys2Proof/Machine/Parse.lean ====
section
/-! DEFINITION. One pass: the parse (R204 to R208), checksum results (R183, R185), the table chain (R211 to R216, R226),
the stage checks of a bank that becomes live (R213) and the rule-set epochs (R227, R228). -/

namespace Sys2Proof.Machine

/-! ### The parse graph (R204 to R206) -/

/-- Word w of a node. -/
def nodeW (n w : Nat) : Nat := n / 2 ^ (32 * w) % 2 ^ 32

/-- Where a walk of the parse graph stands. -/
structure Walk where
  node : Nat
  off : Nat
  /-- The headers recorded: offset, type code, layer. -/
  hs : List (Nat × Nat × Nat)
  trunc : Bool
  /-- The type code of the header that failed, where LEN_ERR is set. -/
  err : Option Nat
  stop : Bool
  frag : Bool
  deriving DecidableEq, Repr

/-- The length of a header (R204). -/
def headerLen (n : Nat) (bs : List Byte) (off : Nat) : Nat :=
  let fix := bits (nodeW n 0) 7 0
  if fix ≠ 0 then fix
  else
    let word := Nat.land (beAt bs (off + bits (nodeW n 1) 31 24) 2) (bits (nodeW n 2) 31 16)
    word / 2 ^ bits (nodeW n 1) 23 20 * max 1 (bits (nodeW n 1) 19 16) + bits (nodeW n 1) 15 8

/-- Whether a declared length fails the check of R206. -/
def lenCheckFails (n : Nat) (bs : List Byte) (total off len : Nat) : Bool :=
  let mode := bits (nodeW n 3) 7 4
  let word := beAt bs (off + bits (nodeW n 3) 15 8) 2
  if mode = 1 then decide (total - off < word) || decide (word < len)
  else if mode = 2 then decide (total - off - len < word)
  else if mode = 3 then decide (total - off - len < word) || decide (word = 0)
  else false

/-- The node that follows a header: NEXT of the first matching transition, else DEFAULT (R204). -/
def nextNode (n : Nat) (bs : List Byte) (off : Nat) : Nat :=
  let word := Nat.land (beAt bs (off + bits (nodeW n 2) 15 8) 2) (bits (nodeW n 3) 31 16)
  match (List.range 8).find? fun t =>
      decide (bits (nodeW n (4 + t)) 9 9 = 1) && decide (bits (nodeW n (4 + t)) 31 16 = word) with
  | some t => bits (nodeW n (4 + t)) 15 10
  | none => bits (nodeW n 0) 21 16

/-- One turn of the walk of R205; a node with VALID = 0 ends it as END does. -/
def walkStep (graph : Nat → Nat) (bs : List Byte) (w : Walk) : Walk :=
  let n := graph w.node
  if w.stop || decide (w.node = 63) || decide (bits (nodeW n 0) 31 31 = 0) then { w with stop := true }
  else if w.hs.length = 10 then { w with stop := true, trunc := true }
  else
    let total := bs.length
    let len := headerLen n bs w.off
    let ht := bits (nodeW n 0) 27 22
    if len < max 1 (bits (nodeW n 0) 15 8) ∨ total < w.off + len then { w with stop := true, err := some ht }
    else if 256 < w.off + len then { w with stop := true, trunc := true }
    else if lenCheckFails n bs total w.off len then { w with stop := true, err := some ht }
    else
      let frag := decide (ht = 0x09) || (decide (ht = 0x03) && decide (beAt bs (w.off + 6) 2 % 16384 ≠ 0))
      { w with node := nextNode n bs w.off, off := w.off + len,
               hs := w.hs ++ [(w.off, ht, bits (nodeW n 0) 30 28)], frag := w.frag || frag }

/-- The walk of R205: at most ten headers are recorded, so twelve turns always end it. -/
def parseWalk (graph : Nat → Nat) (bs : List Byte) : Walk :=
  (List.range 12).foldl (fun w _ => walkStep graph bs w)
    { node := 0, off := 0, hs := [], trunc := false, err := none, stop := false, frag := false }

/-- Write the recorded headers into the Wallet: HSTACK and the first offset of each layer (R205, R209). -/
def Packet.putHeaders (p : Packet) (hs : List (Nat × Nat × Nat)) : Packet :=
  let go (a : Packet × Nat) (h : Nat × Nat × Nat) : Packet × Nat :=
    let (p, n) := a
    let p := (p.setW (W.HS_OFF n) h.1).setW (W.HS_TYPE n) h.2.1
    let p := if 1 ≤ h.2.2 ∧ h.2.2 ≤ 6 ∧ p.w (W.OFF (h.2.2 - 1)) = 0xFF then p.setW (W.OFF (h.2.2 - 1)) h.1 else p
    (p, n + 1)
  (hs.foldl go (p, 0)).1

/-- The parse fields of the Wallet before a parse (R209, R231). -/
def Packet.clearParse (p : Packet) : Packet :=
  let w := putBytes (putBytes p.wallet 0x06 [0, 0]) 0x08 (List.replicate 6 0xFF)
  { p with wallet := putBytes w 0x20 (List.replicate 20 0) }

/-- Where the last header of type 0x01 or 0x02 ends: at the next recorded header or the payload (R244). -/
def l2EndOf (w : Walk) : Nat :=
  ((w.hs.zip ((w.hs.map (·.1)).drop 1 ++ [w.off])).foldl
    (fun e h => if h.1.2.1 = 0x01 ∨ h.1.2.1 = 0x02 then h.2 else e) 0)

/-- Parse a packet: its Wallet's parse fields, LEN and the payload start (R205, R208, R209). -/
def Packet.parsed (p : Packet) (w : Walk) : Packet :=
  let p := p.clearParse.putHeaders w.hs
  let p := (p.setW W.NHDR w.hs.length).setW W.LEN p.bytes.length
  let p := ((p.setWB W.PARSE_TRUNC w.trunc).setWB W.LEN_ERR w.err.isSome).setWB W.IP_FRAG w.frag
  { p with payload := w.off, l2End := l2EndOf w }

/-! ### Checksum results (R183, R185) -/

/-- The outermost IP header: its offset and type code. -/
def Packet.ipHdr (p : Packet) : Option (Nat × Nat) := p.hstack.find? fun h => decide (h.2 = 0x03) || decide (h.2 = 0x04)

/-- The header that follows the outermost IP header and its extension headers. -/
def Packet.l4Hdr (p : Packet) : Option (Nat × Nat) :=
  match p.ipHdr with
  | none => none
  | some ip => (p.hstack.filter fun h => decide (ip.1 < h.1)).find? fun h => decide (h.2 ≠ 0x09) && decide (h.2 ≠ 0x0A)

/-- The end of the outermost IP packet: IPv4 total length, or IPv6 payload length and its 40-byte header. -/
def Packet.ipEnd (p : Packet) (ip : Nat × Nat) : Nat :=
  if ip.2 = 0x03 then ip.1 + beAt p.bytes (ip.1 + 2) 2 else ip.1 + 40 + beAt p.bytes (ip.1 + 4) 2

/-- The length of an IPv4 header in bytes. -/
def Packet.ihl (p : Packet) (off : Nat) : Nat := beAt p.bytes off 1 % 16 * 4

/-- The sum of the pseudo-header of an L4 segment, none of which ICMP over IPv4 has. -/
def Packet.pseudoSum (p : Packet) (ip : Nat × Nat) (l4 : Nat × Nat) (len : Nat) : Nat :=
  if ip.2 = 0x03 then
    if l4.2 = 0x07 then 0
    else (ocSum (bytesAt p.bytes (ip.1 + 12) 8) + beAt p.bytes (ip.1 + 9) 1 + len) % 65535
  else
    let proto := if l4.2 = 0x05 then 6 else if l4.2 = 0x06 then 17 else 58
    (ocSum (bytesAt p.bytes (ip.1 + 8) 32) + proto + len) % 65535

/-- The sum of the L4 segment taken from the carried sum, by removing the words ahead of the L4 header and those past the
IP length (R183). -/
def Packet.l4Sum (p : Packet) (l4 endIp : Nat) : Nat :=
  let bs := p.bytes
  let v := ocAdd (ocAdd (p.w W.CSUM) (65535 - ocRange bs 12 12 l4)) (65535 - ocRange bs 12 endIp bs.length)
  if (l4 - 12) % 2 = 0 then v else swap16 v

/-- Whether the L4 header of a segment is one whose checksum R183 covers. -/
def l4Covered (ip l4 : Nat) : Bool :=
  decide (l4 = 0x05) || decide (l4 = 0x06) || (decide (l4 = 0x07) && decide (ip = 0x03)) ||
    (decide (l4 = 0x08) && decide (ip = 0x04))

/-- Whether checksum offload does not apply to a packet (R185): an error before the L4 header, a fragment, bytes past the
IP length beyond byte 256, or a carried sum the action unit could not keep (R248). -/
def Packet.csumOff (p : Packet) : Bool :=
  let bad := p.wb W.LEN_ERR || p.wb W.PARSE_TRUNC
  p.wb W.CSUM_BAD || p.wb W.IP_FRAG || (bad && p.l4Hdr.isNone) ||
    match p.ipHdr with
    | none => true
    | some ip => decide (p.ipEnd ip < p.bytes.length) && decide (256 < p.bytes.length)

/-- The IP_CS result: 0 not applicable, 1 good, 2 bad. -/
def Packet.ipCs (p : Packet) : Nat :=
  match p.ipHdr with
  | some ip =>
    if ip.2 = 0x03 then if ocSum (bytesAt p.bytes ip.1 (p.ihl ip.1)) % 65535 = 0 then 1 else 2 else 0
  | none => 0

/-- The L4_CS result: a zero UDP checksum is good over IPv4 and bad over IPv6 (R183). -/
def Packet.l4Cs (p : Packet) : Nat :=
  match p.ipHdr, p.l4Hdr with
  | some ip, some l4 =>
    if !l4Covered ip.2 l4.2 then 0
    else if l4.2 = 0x06 ∧ beAt p.bytes (l4.1 + 6) 2 = 0 then if ip.2 = 0x03 then 1 else 2
    else
      let e := min (p.ipEnd ip) p.bytes.length
      if (p.l4Sum l4.1 e + p.pseudoSum ip l4 (e - l4.1)) % 65535 = 0 then 1 else 2
  | _, _ => 0

/-- Whether a carried sum came with the packet: from a MAC with RX_EN = 1 or from a DMA channel (R183, R184, R209). -/
def State.hasSum (s : State) (src : Nat) : Bool :=
  decide (64 ≤ src) || (decide (src < 48) && s.bit (tqB src) F.TQ_CSUM_CFG.RX_EN)

/-- Record the checksum results; bad ones count at the port (R183). -/
def State.csumResults (s : State) (p : Packet) : State × Packet :=
  if !s.hasSum p.src || p.csumOff then (s, p)
  else
    let p := (p.setW W.IP_CS p.ipCs).setW W.L4_CS p.l4Cs
    let s := if p.src < 48 ∧ p.w W.IP_CS = 2 then s.count (tqB p.src + Ctr.TQ.RX_CSUM_BAD_IP) else s
    let s := if p.src < 48 ∧ p.w W.L4_CS = 2 then s.count (tqB p.src + Ctr.TQ.RX_CSUM_BAD_L4) else s
    (s, p)

/-! ### Stage configurations (R211 to R213) -/

/-- A field of a stage's configuration. -/
def State.stageF (s : State) (k b st : Nat) (f : Fld) : Nat := s.fld (kB k) (f.at (0x80 * b + 8 * st))

/-- Fragment f of key profile p. -/
def State.frag (s : State) (k b p f : Nat) : Nat :=
  s.fld (kB k) (F.KP_KEYPROF.FRAG.at (0x200 * b + 0x20 * p + 4 * f)) * 2 ^ 16

/-- Whether a fragment is in use (R215: SRC 111 acts as EN = 0). -/
def fragUsed (v : Nat) : Bool := decide (bits v 31 31 = 1) && decide (bits v 30 28 ≠ 7)

/-- The bytes a key profile totals. -/
def State.profLen (s : State) (k b p : Nat) : Nat :=
  (((List.range 8).map fun f => s.frag k b p f).map fun v => if fragUsed v then bits v 19 16 + 1 else 0).sum

/-- Whether SEL is invalid for a table (R212). -/
def selBad (t sel : Nat) : Bool :=
  (decide (t = 1) && decide (1 < sel)) || ((decide (t = 7) || decide (t = 8)) && decide (3 < sel)) ||
    ((decide (t = 9) || decide (t = 10)) && decide (sel ≠ 0))

/-- Why a stage is bad, but for the limit of two stages per table: 0 table, 1 SEL, 2 key profile (R213). -/
def State.stageFault (s : State) (k b st : Nat) : Option Nat :=
  let t := s.stageF k b st F.KP_STAGE_CFG.TABLE
  let sel := s.stageF k b st F.KP_STAGE_CFG.SEL
  if 11 ≤ t then some 0
  else if selBad t sel then some 1
  else if 2 ≤ t ∧ t ≤ 6 ∧ 40 < s.profLen k b sel then some 2
  else none

/-- Whether a stage is enabled and names a table. -/
def State.stageOn (s : State) (k b st : Nat) : Bool :=
  decide (s.stageF k b st F.KP_STAGE_CFG.EN = 1) && decide (s.stageF k b st F.KP_STAGE_CFG.TABLE ≠ 0)

/-- Why a stage is bad, with 3 for the third or a later stage of its bank bound to one table (R213). Whether the stage, or one
before it, is enabled makes no difference; with TABLE 0 it is bound to none. -/
def State.stageBad (s : State) (k b st : Nat) : Option Nat :=
  let t := s.stageF k b st F.KP_STAGE_CFG.TABLE
  if t = 0 then none
  else
    match s.stageFault k b st with
    | some c => some c
    | none => if 2 ≤ ((List.range st).filter fun u => decide (s.stageF k b u F.KP_STAGE_CFG.TABLE = t)).length then some 3 else none

/-- A pipeline checks a bank that becomes live: BAD shows its bad stages, and each raises KP_STAGE_BAD (R213). -/
def State.checkBank (s : State) (k b : Nat) : State :=
  let bad := (List.range 12).filterMap fun st => (s.stageBad k b st).map fun c => (st, c)
  let s := s.setF (kB k) F.KP_STAGE_STAT.BAD ((bad.map fun p => 2 ^ p.1).sum)
  bad.foldl (fun s p => s.raise (Ev.KP_STAGE_BAD + k) (0x20 + k) noInst [(1, b), (1, p.1), (1, p.2)]) s

/-! ### Keys (R215, R216) -/

/-- The bytes of one fragment of a key profile: bytes of an absent layer, at packet offset 256 or more, or past LEN are
0 (R215). -/
def fragBytes (p : Packet) (v : Nat) : List Byte :=
  let src := bits v 30 28
  let n := bits v 19 16 + 1
  let off := bits v 27 20
  if src = 6 then bytesAt p.wallet off n
  else
    let base := p.w (W.OFF src)
    (List.range n).map fun i =>
      if base = 0xFF ∨ 256 ≤ base + off + i then 0 else p.bytes.getD (base + off + i) 0

/-- The 320-bit key a profile builds (R215). -/
def State.profKey (s : State) (k b prof : Nat) (p : Packet) : Nat :=
  let fs := ((List.range 8).map fun f => s.frag k b prof f).filter fragUsed
  beNat (bytesAt (fs.flatMap (fragBytes p)) 0 40)

/-- The VIDs of the first and second 0x02 headers, 0 where absent (R216). -/
def Packet.vids (p : Packet) : Nat × Nat :=
  let l := (p.hstack.filter fun h => decide (h.2 = 0x02)).map fun h => beAt p.bytes h.1 2 % 4096
  (l.getD 0 0, l.getD 1 0)

/-- The offset of the IP header an LPM stage selects, where its layer holds one of its type (R216). -/
def Packet.lpmHdr (p : Packet) (t sel : Nat) : Option Nat :=
  let o := p.w (W.OFF (if sel / 2 % 2 = 1 then 4 else 1))
  if o ≠ 0xFF ∧ p.hstack.contains (o, t - 4) = true then some o else none

/-- The VRF and the address an LPM stage looks up (R216). -/
def Packet.lpmKey (p : Packet) (t sel : Nat) : Option (Nat × Nat) :=
  (p.lpmHdr t sel).map fun o =>
    (p.w W.VRF,
      if t = 7 then beAt p.bytes (o + (if sel % 2 = 1 then 12 else 16)) 4
      else beAt p.bytes (o + (if sel % 2 = 1 then 8 else 24)) 16)

/-- The MAC address an L2 stage looks up: the destination at OFF_L2 or the source 6 bytes later (R216). -/
def Packet.l2Mac (p : Packet) (sel : Nat) : Option Nat :=
  let o := p.w (W.OFF 0)
  if o = 0xFF then none else some (beAt p.bytes (o + 6 * sel) 6)

/-! ### Lookups (R214, R216, R219) -/

/-- The entry with the lowest index among listed indices that satisfies a test. -/
def State.lowestHit (s : State) (t : Nat) (ok : Nat → Bool) : Option Nat :=
  (s.listedIdx t).find? fun i => ok (s.ent t i)

/-- The visible ternary entry with the lowest index that matches a key (R219). -/
def State.findTernary (s : State) (t key ep : Nat) : Option Nat :=
  let p := s.tcamPart (t - 3)
  let rows := (s.tbl.ents.filter fun e =>
    decide (3 * 65536 + 512 * p.1 ≤ e.1) && decide (e.1 < 3 * 65536 + 512 * (p.1 + p.2))).find? fun e =>
      entSeen t e.2 ep && decide (Nat.land (Nat.xor (bits e.2 319 0) key) (bits e.2 639 320) = 0)
  rows.map fun e => e.1 - (3 * 65536 + 512 * p.1)

/-- Whether an LPM entry covers an address. -/
def lpmCovers (t e vrf addr : Nat) : Bool :=
  let w := lpmWidth t
  decide (entVrf t e = vrf) && decide (entAddr t e / 2 ^ (w - entPlen t e) = addr / 2 ^ (w - entPlen t e))

/-- The visible LPM entry with the longest prefix that covers an address, the lowest index on a tie. -/
def State.findLpm (s : State) (t vrf addr ep : Nat) : Option Nat :=
  (s.listedIdx t).foldl (fun best i =>
    let e := s.ent t i
    if entSeen t e ep && lpmCovers t e vrf addr then
      match best with
      | none => some i
      | some j => if entPlen t (s.ent t j) < entPlen t e then some i else best
    else best) none

/-- The exact-flow entry of a key that an epoch sees. -/
def State.findFlow (s : State) (key ep : Nat) : Option Nat :=
  (bucketIdx 2 0 (flowBucket key 0) ++ bucketIdx 2 1 (flowBucket key 1)).find? fun i =>
    entSeen 2 (s.ent 2 i) ep && decide (bits (s.ent 2 i) 319 0 = key)

/-- The VLAN entry of a packet: the exact probe first, then the probe with IVID_ANY = 1 (R216). -/
def State.findVlan (s : State) (src ovid ivid ep : Nat) : Option Nat :=
  match s.lowestHit 9 fun e => entSeen 9 e ep && decide (vlanKey e = (src, ovid, 0, ivid)) with
  | some i => some i
  | none => s.lowestHit 9 fun e => entSeen 9 e ep && decide (vlanKey e = (src, ovid, 1, 0))

/-- What a stage's lookup finds: its key could not be formed, a miss, or a hit at an index. -/
inductive Lookup where
  | skip
  | miss
  | hit (i : Nat)
  deriving DecidableEq, Repr

/-- The lookup of an optional index. -/
def Lookup.ofOpt : Option Nat → Lookup
  | none => .miss
  | some i => .hit i

/-- A stage looks its table up (R214 to R216). -/
def State.lookup (s : State) (k b t sel : Nat) (p : Packet) : Lookup :=
  let ep := p.w W.EPOCH
  if t = 1 then
    match p.l2Mac sel with
    | none => .skip
    | some mac => .ofOpt (s.findL2 (p.w W.FID) mac)
  else if t = 2 then .ofOpt (s.findFlow (s.profKey k b sel p) ep)
  else if t ≤ 6 then .ofOpt (s.findTernary t (s.profKey k b sel p) ep)
  else if t ≤ 8 then
    match p.lpmKey t sel with
    | none => .skip
    | some (vrf, addr) => .ofOpt (s.findLpm t vrf addr ep)
  else if t = 9 then .ofOpt (s.findVlan p.src p.vids.1 p.vids.2 ep)
  else if p.wb W.SF_VALID then
    if entValid 10 (s.ent 10 (p.w W.SF)) then .hit (p.w W.SF) else .miss
  else .skip

/-! ### The table chain (R211, R214) -/

/-- Whether a stage runs for a packet (R211, R213). -/
def State.stageRuns (s : State) (k b st : Nat) (p : Packet) : Bool :=
  s.stageOn k b st && (s.stageBad k b st).isNone &&
    (s.stageF k b st F.KP_STAGE_CFG.PASS_MASK).testBit (p.w W.PASS) &&
    (decide (s.stageF k b st F.KP_STAGE_CFG.COND_EN = 0) ||
      (p.walletBit (s.stageF k b st F.KP_STAGE_CFG.COND_BIT) ==
        decide (s.stageF k b st F.KP_STAGE_CFG.COND_POL = 1)))

/-- What a hit writes into the Wallet (R214). -/
def State.hitWallet (s : State) (k b st t sel i : Nat) (p : Packet) : Packet :=
  let e := s.ent t i
  let slot := s.stageF k b st F.KP_STAGE_CFG.USER_SLOT
  if t = 1 then if sel = 0 then p.setW W.DEST (bits e 95 80) else p
  else if t = 10 then
    let p := p.setW (W.ACT st) (bits e 95 80)
    if p.src < 48 then p.setW W.DEST (0x8000 + p.w W.SF) else p
  else
    let p := if t = 9 then
        let p := p.setW W.FID (bits e 47 36)
        if bits e 60 60 = 1 then (p.setW W.SF (bits e 59 48)).setWB W.SF_VALID true else p
      else p
    (p.setW (W.ACT st) (entAction t e)).setW (W.USER slot) (entMeta t e)

/-- A counter of stage st. -/
def stageCtr (k st c : Nat) : Nat := kB k + c + 0x18 * st

/-- One stage of the chain (R214, R222, R226). -/
def State.runStage (s : State) (k st : Nat) (p : Packet) : State × Packet :=
  let b := p.w W.EPOCH
  if !s.stageRuns k b st p then (s, p)
  else
    let t := s.stageF k b st F.KP_STAGE_CFG.TABLE
    let sel := s.stageF k b st F.KP_STAGE_CFG.SEL
    let s := s.pmc 0x020 k
    let r := s.lookup k b t sel p
    match r with
    | .skip => (s.count (stageCtr k st Ctr.KP.STAGE_SKIP), p)
    | .miss =>
      let s := if t = 1 ∧ sel = 1 then s.learn (p.w W.FID) ((p.l2Mac 1).getD 0) p.src (p.w W.SF) none else s
      (s.count (stageCtr k st Ctr.KP.STAGE_MISS),
        p.setW (W.ACT st) (s.fld (kB k) (F.KP_STAGE_MISS.MISS_ACT.at (0x80 * b + 8 * st))))
    | .hit i =>
      let q := s.hitWallet k b st t sel i p
      let s := if t = 1 ∧ sel = 1 then s.learn (p.w W.FID) ((p.l2Mac 1).getD 0) p.src (p.w W.SF) (some i) else s
      let s := if t = 2 then s.setEnt 2 i (setBits (s.ent 2 i) 324 324 1) else s
      let s := if t ≤ 2 then s.noteHit t i else s
      ((s.count (stageCtr k st Ctr.KP.STAGE_HIT)).tallyAdd (hitSpace t) i, q)

/-- An entry that a stage reads with an ECC error (R233). -/
structure EccRead where
  stage : Nat
  index : Nat
  outcome : EccOutcome
  bank : Nat

/-- A running stage reads an entry with an ECC error: it is corrected, or it is lost and TBL faults, which `fault` does. -/
def State.stageEcc (s : State) (k st : Nat) (p : Packet) (ecc : Option EccRead) (fault : State → State) : State :=
  match ecc with
  | none => s
  | some e =>
    let t := s.stageF k (p.w W.EPOCH) st F.KP_STAGE_CFG.TABLE
    if e.stage = st ∧ s.stageRuns k (p.w W.EPOCH) st p = true ∧ e.index < s.tblSize t then
      let s := s.entryEcc e.outcome t e.index e.bank
      if e.outcome = .lost then fault s else s
    else s

/-- The twelve stages in order; a stage reads the Wallet as the earlier ones left it (R214). -/
def State.runChain (s : State) (k : Nat) (p : Packet) (ecc : Option EccRead) (fault : State → State) : State × Packet :=
  (List.range 12).foldl (fun a st => (a.1.stageEcc k st a.2 ecc fault).runStage k st a.2) (s, p)

/-! ### Epochs (R227, R228) -/

def Tm.swapStuck : Nat := 0x20000

/-- The live epoch. -/
def State.liveEpoch (s : State) : Nat := s.fld tblB F.TBL_EPOCH.LIVE

/-- LIVE flips and the former live epoch drains (R228); both pipelines check the bank that becomes live (R213). -/
def State.flipEpoch (s : State) : State :=
  let new := 1 - s.liveEpoch
  let s := (s.setF tblB F.TBL_EPOCH.LIVE new).setF tblB F.TBL_EPOCH.DRAINING 1
  let s := s.setF tblB F.TBL_EPOCH.OLD_COUNT (min 0xFFFF (s.inflightOf (1 - new)))
  let s := s.startTimer Tm.swapStuck (max 1 (s.fld tblB F.TBL_EPOCH_CFG.STUCK) * usTicks)
  (s.checkBank 0 new).checkBank 1 new

/-- A write of 1 to TBL_EPOCH.SWAP (R228). -/
def State.wrEpoch (s : State) (v : Nat) : State :=
  if F.TBL_EPOCH.SWAP.of v = 0 then s
  else if !s.bit tblB F.TBL_EPOCH.DRAINING then s.flipEpoch
  else if !s.bit tblB F.TBL_EPOCH.SWAP_PENDING then s.setF tblB F.TBL_EPOCH.SWAP_PENDING 1
  else s.count (tblB + Ctr.TBL.SWAP_DISC)

/-- TBL_EPOCH_SWAP (R228): the live epoch flips, the swap becomes pending, or the write is discarded. -/
def execTblEpochSwap (m : Master) (s : State) : Host.Outcome State Fault Refusal :=
  .next (s.onWrite m tblB fun s => s.wrEpoch (2 ^ 31))

/-- TBL_EPOCH_DRAIN_DONE (R228): the draining epoch's count reaches 0; TBL_SWAP_DONE is raised and a pending flip made. -/
def execTblEpochDrainDone (s : State) : Host.Outcome State Fault Refusal :=
  .next <| s.onLive 0x22 fun s =>
    let old := 1 - s.liveEpoch
    if s.bit tblB F.TBL_EPOCH.DRAINING && decide (s.inflightOf old = 0) then
      let s := (s.setF tblB F.TBL_EPOCH.DRAINING 0).stopTimer Tm.swapStuck
      let s := s.raise Ev.TBL_SWAP_DONE 0x22 noInst [(1, old), (1, s.liveEpoch)]
      let s := s.count (tblB + Ctr.TBL.SWAPS)
      if s.bit tblB F.TBL_EPOCH.SWAP_PENDING then (s.setF tblB F.TBL_EPOCH.SWAP_PENDING 0).flipEpoch else s
    else s

/-- TBL_SWAP_STUCK_EXPIRY (R228): a drain has not ended STUCK µs after its flip. -/
def execTblSwapStuckExpiry (s : State) : Host.Outcome State Fault Refusal :=
  .next (s.onLive 0x22 fun s => s.expire Tm.swapStuck fun s =>
    if s.bit tblB F.TBL_EPOCH.DRAINING then
      s.raise Ev.TBL_SWAP_STUCK 0x22 noInst [(2, s.fld tblB F.TBL_EPOCH.OLD_COUNT)]
    else s)

/-! ### Slot arbitration (R32 to R34) -/

/-- The next key after `last` in rising order, taken round, among the keys of a list of queues that are not empty and
satisfy `ok`. -/
def nextSource (qs : SMap (List Packet)) (ok : List Packet → Bool) (last : Nat) : Option Nat :=
  let l := (qs.filter fun q => !q.2.isEmpty && ok q.2).map (·.1)
  match l.find? fun k => decide (last ≤ k) with
  | some k => some k
  | none => l.head?

/-- Whether the head of a source's queue can take its slot: its cells fit in TRANSIT (R281). -/
def State.headReady (s : State) (q : List Packet) : Bool :=
  match q with
  | [] => false
  | p :: _ => s.transitRoom p

/-- Which candidate a pipeline's slot goes to (R33). -/
inductive Slot where
  | none
  | recirc
  | wire (src : Nat)
  | host (ch : Nat)
  deriving DecidableEq, Repr

/-- A pipeline, by number. -/
def State.pipe (s : State) (k : Nat) : PipeState := s.pipes.get (if k = 0 then 0 else 1)

/-- Replace a pipeline. -/
def State.setPipe (s : State) (k : Nat) (q : PipeState) : State :=
  { s with pipes := s.pipes.set (if k = 0 then 0 else 1) q }

/-- Whether R32 allows a recirculation slot. -/
def State.recircAllowed (s : State) (k : Nat) : Bool :=
  decide (0 < s.recircGain k) && decide (100 ≤ s.fld (kB k) F.KP_ARB_STAT.CREDIT)

/-- The first ready candidate of a pipeline in the order of R33. -/
def State.pickSlot (s : State) (k : Nat) : Slot :=
  let q := s.pipe k
  let age := max 1 (s.fld (kB k) F.KP_ARB_CFG.RECIRC_AGE)
  let allow := s.recircAllowed k
  let old := match q.recirc with
    | [] => false
    | p :: _ => decide (p.since + ceilDiv (age * s.coreClock.2) s.coreClock.1 ≤ s.now)
  if allow && old then .recirc
  else
    match nextSource q.wire s.headReady q.wireLast with
    | some src => .wire src
    | none =>
      if allow && !q.recirc.isEmpty then .recirc
      else
        match nextSource q.host s.headReady q.hostLast with
        | some ch => .host ch
        | none => .none

/-- A ready recirculated packet that R32 refuses a slot sets CAP_HIT and raises event 2 or 3 (R33). -/
def State.capHit (s : State) (k : Nat) : State :=
  if (s.pipe k).recirc.isEmpty || s.recircAllowed k then s
  else
    let s := s.setF (kB k) F.KP_ARB_STAT.CAP_HIT 1
    s.raiseMs k (Ev.KP_RECIRC_CAP + k) (0x20 + k) noInst [(4, (s.reg (kB k + 0x44)).toNat)]

/-- Take the slot's packet out of its queue; a recirculation slot costs 100 credits (R32). -/
def State.takeSlot (s : State) (k : Nat) (c : Slot) : State × Option Packet :=
  let q := s.pipe k
  match c with
  | .none => (s, none)
  | .recirc =>
    match q.recirc with
    | [] => (s, none)
    | p :: t =>
      let s := s.setPipe k { q with recirc := t }
      ((s.setF (kB k) F.KP_ARB_STAT.CREDIT (s.fld (kB k) F.KP_ARB_STAT.CREDIT - 100)).pmc 0x011 k, some p)
  | .wire src =>
    match SMap.get (fun _ => []) q.wire src with
    | [] => (s, none)
    | p :: t =>
      ((s.setPipe k { q with wire := SMap.set (fun _ => []) q.wire src t, wireLast := src + 1 }).pmc 0x010 k, some p)
  | .host ch =>
    match SMap.get (fun _ => []) q.host ch with
    | [] => (s, none)
    | p :: t =>
      ((s.setPipe k { q with host := SMap.set (fun _ => []) q.host ch t, hostLast := ch + 1 }).pmc 0x012 k, some p)

/-! ### A pass (R207, R209, R227, R231) -/

/-- The first-pass values of a packet that enters, but for those a descriptor preset, once it is parsed (R209, R453). -/
def Packet.firstValues (p : Packet) : Packet :=
  match p.hstack.find? fun h => decide (h.2 = 0x02) with
  | none => p
  | some h =>
    let tci := beAt p.bytes h.1 2
    let p := if p.preset.testBit 2 then p else p.setW W.FID (tci % 4096)
    if p.preset.testBit 4 then p else p.setW W.TC (tci / 8192)

/-- A packet starts a pass: EPOCH at its first entry, PASS and ACT at a later one (R227, R231). -/
def State.enterPass (s : State) (p : Packet) (first : Bool) : State × Packet :=
  let p := { p with insN := 0, remN := 0 }
  if first then
    let ep := s.liveEpoch
    (s.setInflight ep (s.inflightOf ep + 1), { (p.setW W.EPOCH ep).setW W.PASS 0 with flight := true })
  else
    (s, { p.setW W.PASS (p.w W.PASS + 1) with
      wallet := putBytes (p.setW W.PASS (p.w W.PASS + 1)).wallet 0x40 (List.replicate 24 0) })

/-- A packet is parsed, gets the first values of its Wallet and its place in the buffer at its first entry (R281), and its
checksum results (R183). -/
def State.parsePass (s : State) (k : Nat) (p : Packet) (first : Bool) (w : Walk) : State × Packet :=
  let p := p.parsed w
  let p := if first then p.firstValues else p
  let (s, p) := if first then s.storePkt { p with tc0 := p.w W.TC } else (s, p)
  let (s, p) := s.csumResults p
  (if w.trunc then s.count (kB k + Ctr.KP.PARSE_TRUNC) else s, p)

/-- A parsed packet runs the table chain and is in its pass. -/
def State.chainPass (s : State) (k : Nat) (p : Packet) (ecc : Option EccRead) (fault : State → State) : State :=
  let (s, p) := s.runChain k p ecc fault
  let q := s.pipe k
  s.setPipe k { q with inPass := q.inPass ++ [{ p with since := s.now }] }

/-- A parsed packet runs the table chain, unless LEN_ERR drops it (R207). -/
def State.passOn (s : State) (k : Nat) (p : Packet) (err : Option Nat) (ecc : Option EccRead) (fault : State → State) : State :=
  match err with
  | none => s.chainPass k p ecc fault
  | some ht =>
    let s := s.count (kB k + Ctr.KP.LEN_ERR)
    let s := s.raiseMs k (Ev.KP_LEN_ERR + k) (0x20 + k) noInst [(1, p.src), (1, ht)]
    if s.fld (kB k) F.KP_PARSE_CFG.LEN_ERR_ACT = 1 then s.chainPass k p ecc fault
    else (s.count (kB k + Ctr.KP.LEN_ERR_DROP)).dropPkt k p 0x04

/-- A packet's pass: it is parsed, charged to the buffer at its first entry (R281), and runs the table chain, unless
LEN_ERR drops it (R207). -/
def State.runPass (s : State) (k : Nat) (p : Packet) (first : Bool) (ecc : Option EccRead) (fault : State → State) :
    State :=
  let r := s.enterPass p first
  let s := r.1.count (kB k + Ctr.KP.PKTS_PASS1 + 8 * r.2.w W.PASS)
  let w := parseWalk (s.node k (r.2.w W.EPOCH)) r.2.bytes
  let r := s.parsePass k r.2 first w
  r.1.passOn k r.2 w.err ecc fault

end Sys2Proof.Machine
end

