-- ==== Sys2Proof/Machine/Purse.lean ====
section
/-! DEFINITION. Purses: their steps, shaper tests and charges, and the policers (R291 to R295). -/

namespace Sys2Proof.Machine

/-- A Purse: shaper Purses by index, policer Purses by 4,096 + index. -/
def State.purse (s : State) (i : Nat) : Purse := SMap.get (fun _ => Purse.empty) s.tmg.purses i

/-- Replace a Purse. -/
def State.setPurse (s : State) (i : Nat) (p : Purse) : State :=
  { s with tmg := { s.tmg with purses := SMap.set (fun _ => Purse.empty) s.tmg.purses i p } }

/-- The cap of a Purse in millibytes (R291). -/
def Purse.cap (p : Purse) : Nat := p.burst * 1000

/-- What a Purse gains at a step (R291: rates above 100 Gbit/s act as 100 Gbit/s). -/
def Purse.gain (p : Purse) : Nat := min 12500000 p.rate

/-- A Purse with the settings written since the last step applied (R292). -/
def Purse.applied (p : Purse) : Purse :=
  match p.next with
  | none => p
  | some (rate, burst, mode, aware) => { p with rate, burst, mode, aware, next := none }

/-- A Purse after it gains `n` millibytes, and what of that gain overflowed its cap: tokens that a lowered BURST cuts are no
part of the overflow (R292, R294). -/
def Purse.fill (p : Purse) (n : Nat) : Purse × Nat :=
  let t := p.tokens + n
  if p.cap < t then ({ p with tokens := p.cap, stepped := p.cap }, min n (t - p.cap).toNat)
  else ({ p with tokens := t, stepped := t }, 0)

/-- One Purse at a step: new settings apply, and it gains its rate (R291, R292). -/
def State.stepPurse (s : State) (i : Nat) : State := s.setPurse i ((s.purse i).applied.fill (s.purse i).applied.gain).1

/-- A policer's two Purses at a step: in single-rate mode the second gains only what the first overflows (R294). -/
def State.stepPolicer (s : State) (m : Nat) : State :=
  let c := (s.purse (4096 + 2 * m)).applied
  let (c', spare) := c.fill c.gain
  let e := (s.purse (4096 + 2 * m + 1)).applied
  (s.setPurse (4096 + 2 * m) c').setPurse (4096 + 2 * m + 1) (e.fill (if c.mode = 0 then spare else e.gain)).1

/-- The shaper Purses that are not at reset. -/
def State.shaperPurses (s : State) : List Nat := (s.tmg.purses.map (·.1)).filter fun i => decide (i < 4096)

/-- The policers one of whose Purses is not at reset. -/
def State.policersUsed (s : State) : List Nat :=
  (((s.tmg.purses.map (·.1)).filter fun i => decide (4096 ≤ i)).map fun i => (i - 4096) / 2).eraseDups

/-- Every Purse steps (R291). -/
def State.stepPurses (s : State) : State :=
  let s := s.shaperPurses.foldl (fun s i => s.stepPurse i) s
  s.policersUsed.foldl (fun s m => s.stepPolicer m) s

/-- A colour: code 11 names none, so which colour it acts as is a free value (R209). -/
def State.colourOf (s : State) (c : Nat) : State × Nat :=
  if c < 3 then (s, c) else let (s, r) := s.takeFree; (s, r % 3)

/-- The colour a policer gives `b` millibytes of a packet whose input colour is `k`, and the tokens it takes from the two
Purses, by the RFC of its MODE (R294). -/
def policeColour (mode : Nat) (k : Nat) (c e : Int) (b : Nat) : Nat × Nat × Nat :=
  if mode = 0 ∨ mode = 2 then
    if k = 0 ∧ (b : Int) ≤ c then (0, b, 0)
    else if k ≤ 1 ∧ (b : Int) ≤ e then (1, 0, b)
    else (2, 0, 0)
  else if k = 2 ∨ e < b then (2, 0, 0)
  else if k = 1 ∨ c < b then (1, 0, b)
  else (0, b, b)

/-- A policer meters `len` bytes with an input colour: the colour, with its Tally counts (R294). MODE 11 acts as 01. -/
def State.meter (s : State) (m len k : Nat) : State × Nat :=
  let c := s.purse (4096 + 2 * m)
  let e := s.purse (4096 + 2 * m + 1)
  let (s, k) := if c.aware then s.colourOf k else (s, 0)
  let r := policeColour (if c.mode = 3 then 1 else c.mode) k c.tokens e.tokens (len * 1000)
  let s := (s.setPurse (4096 + 2 * m) { c with tokens := c.tokens - r.2.1 }).setPurse (4096 + 2 * m + 1)
    { e with tokens := e.tokens - r.2.2 }
  ((s.tallyAdd 0x13 (8 * m + 2 * r.1)).tallyAdd 0x13 (8 * m + 2 * r.1 + 1) len, r.1)

end Sys2Proof.Machine
end

