-- ==== Sys2Proof/Machine/Actions.lean ====
section
/-! DEFINITION. The action unit: action lists and their operations (R239 to R252), mirror and sample copies (R250, R518)
and the packet's fate (R243, R259). -/

namespace Sys2Proof.Machine

/-! ### The action store (R239, R240) -/

/-- An action list's eight words as one number. -/
def State.actList (s : State) (i : Nat) : Nat := SMap.get (fun _ => 0) s.tbl.acts i

/-- A template's half, its eight words as one number (R273). -/
def State.tplHalf (s : State) (h : Nat) : Nat := SMap.get (fun _ => 0) s.tbl.tpls h

/-- The 64 bytes of a template: byte j of a half lies in word j div 4, high byte first (R273). -/
def State.template (s : State) (t : Nat) : List Byte :=
  let half (h : Nat) : List Byte := (natWords 8 (s.tplHalf h)).flatMap fun w => beBytes 4 w.toNat
  half (2 * t) ++ half (2 * t + 1)

/-! ### Changing a packet's bytes (R247, R248) -/

/-- The carried sum after the bytes of a packet change, by the part of them it covers (R248). -/
def Packet.resum (p : Packet) (new : List Byte) : Packet :=
  p.setW W.CSUM (ocAdd (ocAdd (p.w W.CSUM) (ocRange new 12 12 new.length))
    (65535 - ocRange p.bytes 12 12 p.bytes.length))

/-- Whether the bytes from `a` to `b` differ between two byte strings. -/
def changedIn (old new : List Byte) (a b : Nat) : Bool := decide (bytesAt old a (b - a) ≠ bytesAt new a (b - a))

/-- Where the protocol number of the outermost L4 header stands: in the IPv4 header, or in the next-header field of the IPv6
header or of the last extension header before it. -/
def Packet.protoAt (p : Packet) (ip l4 : Nat × Nat) : Nat :=
  if ip.2 = 0x03 then ip.1 + 9
  else (((p.hstack.map (·.1)).filter fun o => decide (ip.1 + 40 ≤ o) && decide (o < l4.1)).getLast?).getD (ip.1 + 6)

/-- Whether a rewrite changes a byte the outermost L4 checksum covers: the segment, or what its pseudo-header takes from the
IP header, which is the addresses, the lengths and the protocol number (R248). -/
def Packet.l4Touched (p : Packet) (new : List Byte) : Bool :=
  match p.ipHdr, p.l4Hdr with
  | some ip, some l4 =>
    l4Covered ip.2 l4.2 &&
      (changedIn p.bytes new l4.1 (min (p.ipEnd ip) p.bytes.length) ||
        (decide (l4.2 ≠ 0x07) && (changedIn p.bytes new (p.protoAt ip l4) (p.protoAt ip l4 + 1) ||
          (if ip.2 = 0x03 then changedIn p.bytes new ip.1 (ip.1 + 4) || changedIn p.bytes new (ip.1 + 12) (ip.1 + 20)
           else changedIn p.bytes new (ip.1 + 4) (ip.1 + 6) || changedIn p.bytes new (ip.1 + 8) (ip.1 + 40)))))
  | _, _ => false

/-- Whether a rewrite changes a byte of the outermost IPv4 header. -/
def Packet.ipTouched (p : Packet) (new : List Byte) : Bool :=
  match p.ipHdr with
  | some ip => decide (ip.2 = 0x03) && changedIn p.bytes new ip.1 (ip.1 + p.ihl ip.1)
  | none => false

/-- Bytes of the packet are rewritten: CSUM follows, and IP_INS and L4_INS note what changed (R248). -/
def Packet.rewrite (p : Packet) (x : Nat) (b : List Byte) : Packet :=
  let new := putBytes p.bytes x b
  let q := p.resum new
  let q := if p.ipTouched new && decide (p.w W.IP_CS ≠ 0) then q.setW W.IP_INS 1 else q
  let q := if p.l4Touched new then q.setW W.L4_INS 1 else q
  { q with bytes := new }

/-- Where a pointer stands after `n` bytes are inserted at `x` (R247). -/
def ptrIns (x n v : Nat) : Nat := if v = 0xFF ∨ v < x then v else if 255 < v + n then 0xFF else v + n

/-- Where a pointer stands after `n` bytes from `x` are removed (R247). -/
def ptrCut (x n v : Nat) : Nat := if v = 0xFF ∨ v < x then v else if v < x + n then 0xFF else v - n

/-- Move every layer pointer and HSTACK offset (R247). -/
def Packet.movePtrs (p : Packet) (f : Nat → Nat) : Packet :=
  let p := (List.range 6).foldl (fun p l => p.setW (W.OFF l) (f (p.w (W.OFF l)))) p
  (List.range (min 10 (p.w W.NHDR))).foldl (fun p n => p.setW (W.HS_OFF n) (f (p.w (W.HS_OFF n)))) p

/-- What an insertion or removal at `x` does to the checksum fields (R248). -/
def Packet.moveSums (p : Packet) (x n : Nat) (new : List Byte) : Packet :=
  let p := if x % 2 = 0 ∧ n % 2 = 0 then p.resum new else p.setW W.CSUM_BAD 1
  if p.w (W.OFF 1) ≠ 0xFF ∧ p.w (W.OFF 1) ≤ x then ((p.setW W.IP_INS 0).setW W.L4_INS 0).setW W.CS_OFF 1 else p

/-- Insert bytes at an offset, or refuse (R247). -/
def Packet.insert (p : Packet) (x : Nat) (b : List Byte) : Option Packet :=
  let n := b.length
  if 256 < x + n ∨ 96 < p.insN + n ∨ p.bytes.length < x then none
  else
    let new := insBytes p.bytes x b
    let q := (p.moveSums x n new).movePtrs (ptrIns x n)
    let q := { q with bytes := new, insN := p.insN + n, payload := if x ≤ p.payload then p.payload + n else p.payload,
                      l2End := if x < p.l2End then p.l2End + n else p.l2End }
    some (q.setW W.LEN new.length)

/-- Remove `n` bytes from an offset, or refuse (R247). -/
def Packet.remove (p : Packet) (x n : Nat) : Option Packet :=
  if 256 < x + n ∨ 96 < p.remN + n ∨ p.bytes.length < x + n ∨ p.bytes.length < 14 + n then none
  else
    let new := cutBytes p.bytes x n
    let q := (p.moveSums x n new).movePtrs (ptrCut x n)
    let q := { q with bytes := new, remN := p.remN + n,
                      payload := if x ≤ p.payload then max x (p.payload - n) else p.payload,
                      l2End := if x < p.l2End then max x (p.l2End - n) else p.l2End }
    some (q.setW W.LEN new.length)

/-! ### The operations (R245, R246)

Each answers the state and the packet after it, or none where it is refused. -/

/-- What an operation answers. -/
abbrev ActRes := Option (State × Packet)

/-- The IP header at a layer pointer: its offset and type code. -/
def Packet.ipAt (p : Packet) (layer : Nat) : Option (Nat × Nat) :=
  let o := p.w (W.OFF layer)
  if o = 0xFF then none
  else p.hstack.find? fun h => decide (h.1 = o) && (decide (h.2 = 0x03) || decide (h.2 = 0x04))

/-- The 16-bit type field just before L2 end (R244). -/
def Packet.etype (p : Packet) : Nat := beAt p.bytes (p.l2End - 2) 2

/-- Whether the packet has an L2 layer (R244). -/
def Packet.hasL2 (p : Packet) : Bool := p.w (W.OFF 0) != 0xFF

/-- The offsets of the 0x02 headers the packet still has. -/
def Packet.tags (p : Packet) : List Nat :=
  (p.hstack.filter fun h => decide (h.2 = 0x02) && decide (h.1 ≠ 0xFF)).map (·.1)

/-- Request a work item; a later request of the pass replaces it (R252). -/
def Packet.request (p : Packet) (cls ordered resume level : Nat) : Packet :=
  (((((p.setW W.T_REQ 1).setW W.CLASS cls).setW W.ORDERED ordered).setW W.RESUME resume).setW W.LEVEL level)

/-- The ordered-flow domain a DOM_SRC names (R252). -/
def Packet.domainOf (p : Packet) (src : Nat) : Nat :=
  if src = 0 then p.w W.SF else if src = 1 then p.src else if src = 2 then p.w (W.USER 0) % 4096 else 0

/-- SET_META. -/
def Packet.setMeta (p : Packet) (sel v : Nat) : Option Packet :=
  if sel = 0 then some (p.setW W.VRF v)
  else if sel = 1 then some (p.setW W.FID v)
  else if sel = 2 then some (p.setW W.TC v)
  else if sel = 3 then some (p.setW W.COLOUR v)
  else if sel = 4 then some ((p.setW W.SF v).setWB W.SF_VALID true)
  else if 16 ≤ sel then some (p.setW (W.USER (sel - 16)) v)
  else none

/-- METER: at most two in a pass (R249). -/
def State.actMeter (s : State) (p : Packet) (a : Nat) : ActRes :=
  let n := p.w W.METER_N
  if 2 ≤ n then none
  else
    let (s, k) := s.meter (bits a 11 0) (p.w W.LEN + 4) (p.w W.COLOUR)
    let p := (p.setW W.METER_N (n + 1)).setW W.COLOUR k
    some (s, if k = 2 ∧ bits a 12 12 = 1 then (p.setW W.DROP 1).setW W.DROP_REASON 0x02 else p)

/-- COUNT: at most four in a pass (R249). -/
def State.actCount (s : State) (p : Packet) (i : Nat) : ActRes :=
  let n := p.w W.COUNT_N
  if 4 ≤ n then none
  else some ((s.tallyAdd 0x0A (2 * i)).tallyAdd 0x0A (2 * i + 1) (p.w W.LEN + 4), p.setW W.COUNT_N (n + 1))

/-- A field of a mirror session. -/
def State.mirrorF (s : State) (i : Nat) (f : Fld) : Nat := s.fld tblB (f.at (4 * i))

/-- MIRROR (R250): a session already requested changes nothing; a disabled session or full slots refuse it. -/
def State.actMirror (s : State) (p : Packet) (i : Nat) : ActRes :=
  let has (m : Nat) : Bool := p.wb (W.M_VALID m) && decide (p.w (W.M_SESSION m) = i)
  if has 0 || has 1 then some (s, p)
  else if s.mirrorF i F.TBL_MIRROR.EN = 0 then none
  else if !p.wb (W.M_VALID 0) then some (s, (p.setW (W.M_VALID 0) 1).setW (W.M_SESSION 0) i)
  else if !p.wb (W.M_VALID 1) then some (s, (p.setW (W.M_VALID 1) 1).setW (W.M_SESSION 1) i)
  else none

/-- PUSH_VLAN. -/
def State.actPushVlan (s : State) (k : Nat) (p : Packet) (a : Nat) : Option Packet :=
  let tpid := bits a 17 16
  if !p.hasL2 || decide (tpid = 3) then none
  else
    let t := if tpid = 0 then 0x8100 else if tpid = 1 then 0x88A8 else s.fld (kB k) F.KP_ACT_CFG.TPID
    p.insert (p.w (W.OFF 0) + 12) (beBytes 2 t ++ beBytes 2 (bits a 15 0))

/-- POP_VLAN. -/
def Packet.popVlan (p : Packet) : Option Packet :=
  match p.tags with
  | [] => none
  | o :: _ => if o < 2 then none else p.remove (o - 2) 4

/-- SET_TAG. -/
def Packet.setTag (p : Packet) (a : Nat) : Option Packet :=
  match p.tags.drop (bits a 18 18) with
  | [] => none
  | o :: _ =>
    let tci := beAt p.bytes o 2
    let tci := if bits a 17 17 = 1 then setBits (setBits tci 15 13 (bits a 14 12)) 12 12 (bits a 15 15) else tci
    let tci := if bits a 16 16 = 1 then setBits tci 11 0 (bits a 11 0) else tci
    some (p.rewrite o (beBytes 2 tci))

/-- PUSH_MPLS (R246). -/
def State.actPushMpls (s : State) (k : Nat) (p : Packet) (a : Nat) : Option Packet :=
  if !p.hasL2 then none
  else
    let x := p.l2End
    let bos := decide (p.etype ≠ 0x8847) && decide (p.etype ≠ 0x8848)
    let dflt := s.fld (kB k) F.KP_ACT_CFG.MPLS_TTL
    let ttl :=
      if bits a 23 23 = 0 then dflt
      else if !bos then beAt p.bytes (x + 3) 1
      else match p.ipAt 1 with
        | some ip => beAt p.bytes (ip.1 + (if ip.2 = 0x03 then 8 else 7)) 1
        | none => dflt
    let e := bits a 19 0 * 2 ^ 12 + bits a 22 20 * 2 ^ 9 + b2n bos * 2 ^ 8 + ttl
    (p.insert x (beBytes 4 e)).map fun q => q.rewrite (x - 2) (beBytes 2 0x8847)

/-- POP_MPLS (R246). -/
def Packet.popMpls (p : Packet) (a : Nat) : Option Packet :=
  let x := p.l2End
  if !p.hasL2 || !p.hstack.contains (x, 0x0B) then none
  else
    let bos := beAt p.bytes (x + 2) 1 % 2
    (p.remove x 4).map fun q => if bos = 1 then q.rewrite (x - 2) (beBytes 2 (bits a 15 0)) else q

/-- PUSH_PPPOE (R246). -/
def Packet.pushPppoe (p : Packet) (a : Nat) : Option Packet :=
  let x := p.l2End
  if !p.hasL2 || (decide (p.etype ≠ 0x0800) && decide (p.etype ≠ 0x86DD)) then none
  else
    let v4 := decide (p.etype = 0x0800)
    let len := 2 + (if v4 then beAt p.bytes (x + 2) 2 else beAt p.bytes (x + 4) 2 + 40)
    let h := [0x11, 0x00] ++ beBytes 2 (bits a 15 0) ++ beBytes 2 len ++ beBytes 2 (if v4 then 0x0021 else 0x0057)
    (p.insert x h).map fun q => q.rewrite (x - 2) (beBytes 2 0x8864)

/-- POP_PPPOE (R246). -/
def Packet.popPppoe (p : Packet) : Option Packet :=
  let x := p.l2End
  let proto := beAt p.bytes (x + 6) 2
  if !p.hasL2 || !p.hstack.contains (x, 0x0C) || (decide (proto ≠ 0x0021) && decide (proto ≠ 0x0057)) then none
  else (p.remove x 8).map fun q => q.rewrite (x - 2) (beBytes 2 (if proto = 0x0021 then 0x0800 else 0x86DD))

/-- The inserted template bytes with the lengths and the header checksum KP_ACT_LFIX fills in (R248); `size` is the
packet's length from the first template byte to its end. -/
def State.lfix (s : State) (k l : Nat) (b : List Byte) (size : Nat) : List Byte :=
  if l = 0 then b
  else
    let f (x : Fld) : Nat := s.fld (kB k) (x.at (4 * (l - 1)))
    let b := if f F.KP_ACT_LFIX.LEN0_EN = 1 then
      putBytes b (f F.KP_ACT_LFIX.LEN0_OFF) (beBytes 2 (size - f F.KP_ACT_LFIX.FROM0)) else b
    let b := if f F.KP_ACT_LFIX.LEN1_EN = 1 then
      putBytes b (f F.KP_ACT_LFIX.LEN1_OFF) (beBytes 2 (size - f F.KP_ACT_LFIX.FROM1)) else b
    if f F.KP_ACT_LFIX.CS_EN = 1 then
      let o := f F.KP_ACT_LFIX.FROM0
      let b := putBytes b (o + 10) [0, 0]
      putBytes b (o + 10) (beBytes 2 (65535 - ocSum (bytesAt b o (beAt b o 1 % 16 * 4))))
    else b

/-- PUSH_TPL. -/
def State.actPushTpl (s : State) (k : Nat) (p : Packet) (a : Nat) : Option Packet :=
  let pos := bits a 17 16
  let x := if pos = 0 then 0 else if pos = 1 then p.w (W.OFF 1) else p.w (W.OFF 2)
  if pos = 3 ∨ (pos ≠ 0 ∧ x = 0xFF) then none
  else
    let n := bits a 15 10 + 1
    p.insert x (s.lfix k (bits a 19 18) ((s.template (bits a 9 0)).take n) (p.bytes.length - x + n))

/-- POP_HDR. -/
def Packet.popHdr (p : Packet) (n : Nat) : Option Packet :=
  match p.hstack.drop n with
  | [] => none
  | h :: t =>
    if h.2 = 0x01 ∨ h.1 = 0xFF then none
    else
      let e := ((t.filter fun g => decide (g.1 ≠ 0xFF)).map (·.1)).headD p.payload
      p.remove h.1 (e - h.1)

/-- REWRITE: refused for a layer that is absent, past the USER words, or past the packet's end. -/
def Packet.opRewrite (p : Packet) (a : Nat) : Option Packet :=
  let layer := bits a 10 8
  let u := bits a 16 13
  let w := bits a 12 11
  let n := if w = 0 then 1 else if w = 1 then 2 else if w = 2 then 4 else 6
  if 6 ≤ layer then none
  else
    let x := p.w (W.OFF layer) + bits a 7 0
    if p.w (W.OFF layer) = 0xFF ∨ 32 < 2 * u + n ∨ p.bytes.length < x + n then none
    else some (p.rewrite x (bytesAt p.wallet (0x60 + 2 * u) n))

/-- DEC_TTL. -/
def Packet.decTtl (p : Packet) (a : Nat) : Option Packet :=
  match p.ipAt (if bits a 0 0 = 1 then 4 else 1) with
  | none => none
  | some ip =>
    let x := ip.1 + (if ip.2 = 0x03 then 8 else 7)
    let ttl := beAt p.bytes x 1
    if 1 < ttl then some (p.rewrite x (beBytes 1 (ttl - 1)))
    else if bits a 1 1 = 0 then some ((p.setW W.DROP 1).setW W.DROP_REASON 0x03)
    else some ((p.request 1 0 0 0).setW W.REASON 0x03)

/-- One operation of an action list (R245). -/
def State.actOp (s : State) (k : Nat) (p : Packet) (op a : Nat) : ActRes :=
  let pk (o : Option Packet) : ActRes := o.map fun q => (s, q)
  if op = 0x00 then some (s, p)
  else if op = 0x01 then some (s, (p.setW W.DROP 1).setW W.DROP_REASON (max 0x80 (bits a 7 0)))
  else if op = 0x02 then some (s, p.setW W.DEST (bits a 15 0))
  else if op = 0x03 then
    some (s, if bits a 12 12 = 1 then (p.setW W.Q_VALID 1).setW W.QUEUE (bits a 11 0) else p.setW W.Q_VALID 0)
  else if op = 0x04 then pk (p.setMeta (bits a 20 16) (bits a 15 0))
  else if op = 0x05 then s.actMeter p a
  else if op = 0x06 then s.actCount p (bits a 13 0)
  else if op = 0x07 then s.actMirror p (bits a 5 0)
  else if op = 0x08 then some (s, p.setW W.RECIRC 1)
  else if op = 0x09 then
    some (s, ((p.request 0 (bits a 8 8) (bits a 9 9) (bits a 7 4)).setW W.PSET (bits a 3 0)).setW W.DOMAIN
      (p.domainOf (bits a 11 10)))
  else if op = 0x0A then
    some (s, ((p.request 1 (bits a 12 12) (bits a 13 13) (bits a 11 8)).setW W.REASON (bits a 7 0)).setW W.DOMAIN
      (p.domainOf (bits a 15 14)))
  else if op = 0x10 then pk (s.actPushVlan k p a)
  else if op = 0x11 then pk p.popVlan
  else if op = 0x12 then pk (p.setTag a)
  else if op = 0x13 then pk (s.actPushMpls k p a)
  else if op = 0x14 then pk (p.popMpls a)
  else if op = 0x15 then pk (p.pushPppoe a)
  else if op = 0x16 then pk p.popPppoe
  else if op = 0x17 then pk (s.actPushTpl k p a)
  else if op = 0x18 then pk (p.popHdr (bits a 3 0))
  else if op = 0x19 then pk (p.opRewrite a)
  else if op = 0x1A then pk (p.decTtl a)
  else if op = 0x1B then some (s, p.setW W.CS_OFF (bits a 0 0))
  else none

/-! ### Applying the lists (R240 to R242) -/

/-- Whether a DROP operation has applied in this pass: it alone sets DROP with a reason of 0x80 or more, and DROP set by a
METER or a DEC_TTL does not end the pass's operations (R242, R245). -/
def Packet.dropApplied (p : Packet) : Bool := p.wb W.DROP && decide (0x80 ≤ p.w W.DROP_REASON)

/-- Apply one word of a list: a refused operation changes nothing and is counted; once a DROP operation applies, nothing later
does (R242). -/
def State.actWord (s : State) (k idx : Nat) (p : Packet) (word : Nat) : State × Packet :=
  if p.dropApplied then (s, p)
  else
    match s.actOp k p (bits word 31 26) (bits word 25 0) with
    | some r => r
    | none =>
      let s := s.count (kB k + Ctr.KP.ACT_REFUSED)
      (s.raiseMs k (Ev.KP_ACT_REFUSED + k) (0x20 + k) noInst [(2, idx), (4, word)], p)

/-- Apply the list an index names (R240, R241). -/
def State.applyList (s : State) (k idx : Nat) (p : Packet) : State × Packet :=
  let l := s.actList idx
  if idx = 0 ∨ p.dropApplied = true then (s, p)
  else if 16384 ≤ idx ∨ bits (nodeW l 0) 31 31 = 0 then
    let s := s.count (kB k + Ctr.KP.ACT_BAD)
    (s.raiseMs k (Ev.KP_ACT_BAD + k) (0x20 + k) noInst [(2, idx)], p)
  else if (bits (nodeW l 0) 30 29).testBit (p.w W.EPOCH) = false then (s, p)
  else
    let s := s.count (kB k + Ctr.KP.ACTS_APPLIED)
    (List.range (bits (nodeW l 0) 2 0)).foldl (fun a i => a.1.actWord k idx a.2 (nodeW l (i + 1))) (s, p)

/-- Apply ACT[0] to ACT[11] in stage order (R241); the packet then occupies the cells of the length it has (R281). -/
def State.applyLists (s : State) (k : Nat) (p : Packet) : State × Packet :=
  let (s, p) := (List.range 12).foldl (fun a st => a.1.applyList k (a.2.w (W.ACT st)) a.2) (s, p)
  s.recell p

/-! ### Copies (R250, R518) -/

/-- The copy of a packet for a mirror session (R250): cut to TRUNC bytes, counted with FCS as frame sizes are, and bound
for the session's target. -/
def State.copyFor (s : State) (p : Packet) (i : Nat) : Packet :=
  let t := s.mirrorF i F.TBL_MIRROR.TRUNC
  let bytes := if t = 0 then p.bytes else p.bytes.take (max 64 t - 4)
  let target := s.mirrorF i F.TBL_MIRROR.TARGET
  let q := { p with bytes, copy := true, flight := false, windowed := true, cells := 0, tsReq := false }
  let q := (((q.setW W.LEN bytes.length).setW W.DROP 0).setW W.RECIRC 0).setW W.T_REQ 0
  if s.mirrorF i F.TBL_MIRROR.Q_MODE = 1 then (q.setW W.Q_VALID 1).setW W.QUEUE (target % 4096)
  else (q.setW W.Q_VALID 0).setW W.DEST target

/-- A copy is written into the buffer where TRANSIT and the buffer can take its cells; else it takes them as it reaches its
queue, for nothing is dropped for TRANSIT itself (R281, log 172). -/
def State.storeCopy (s : State) (p : Packet) : State × Packet :=
  if s.transitRoom p then s.storePkt p else (s, { p with cells := 0 })

/-- A copy goes straight to the traffic manager, counted in its session (R250). -/
def State.sendCopy (s : State) (p : Packet) (i : Nat) : State :=
  let (s, q) := s.storeCopy (s.copyFor p i)
  (s.tallyAdd 0x0B i).toTmg q

/-- The mirror copies a pass requested (R250). -/
def State.mirrors (s : State) (k : Nat) (p : Packet) : State :=
  [0, 1].foldl (fun s m =>
    if p.wb (W.M_VALID m) then (s.sendCopy p (p.w (W.M_SESSION m))).count (kB k + Ctr.KP.MIRRORS) else s) s

/-- Whether a packet event is sampled at a point: at the end of the pass, or at TMG admission or dequeue (R518). -/
def samplePoint (ev : Nat) : Nat :=
  if ev = 0x010 ∨ ev = 0x011 ∨ ev = 0x012 ∨ ev = 0x014 then 1
  else if ev = 0x050 ∨ ev = 0x052 then 2
  else if ev = 0x051 then 3
  else 0

/-- A packet passes a sample point: sampler k, armed, copies it once the packets its arm let pass have passed (R518). -/
def State.sampleOne (s : State) (point inst k : Nat) (p : Packet) : State :=
  let c := s.sampCtr k
  let a := SMap.get (fun _ => 0) s.sampArm k
  if a = 0 ∨ samplePoint (s.pmcCfg c F.PMC_CTR_CFG.EVENT) ≠ point ∨
      (s.pmcCfg c F.PMC_CTR_CFG.INST ≠ 0xFF ∧ s.pmcCfg c F.PMC_CTR_CFG.INST ≠ inst) then s
  else if a % 8 ≠ 1 then { s with sampArm := SMap.set (fun _ => 0) s.sampArm k (a - 1) }
  else
    let s := { s with sampArm := SMap.set (fun _ => 0) s.sampArm k 0 }
    let s := (s.sendCopy p (s.fld pmcB (F.PMC_SAMP_CFG.SESSION.at (8 * k)))).count (pmcB + Ctr.PMC.SAMPLES)
    let w := a / 8 * 2 ^ 28 + p.src * 2 ^ 21 + p.w W.EPOCH * 2 ^ 20 + p.w W.SF_VALID * 2 ^ 12 + p.w W.SF
    s.setReg (pmcB + 0xC40 + 4 * k) (BitVec.ofNat 32 w)

/-- A packet passes a sample point (R518). -/
def State.sample (s : State) (point inst : Nat) (p : Packet) : State :=
  if s.sampArm.isEmpty then s
  else (((s.sampleOne point inst 0 p).sampleOne point inst 1 p).sampleOne point inst 2 p).sampleOne point inst 3 p

/-! ### The packet's fate (R243, R259) -/

/-- The workspace fields a pass clears at its end (R243); T_REQ is kept apart for a GIVE that waits for its window. -/
def Packet.endPass (p : Packet) : Packet :=
  ((((((p.setW W.DROP 0).setW W.RECIRC 0).setW W.T_REQ 0).setW (W.M_VALID 0) 0).setW (W.M_VALID 1) 0).setW W.METER_N 0).setW
    W.COUNT_N 0

/-- Whether a pattern set is VALID in a bank (R259). -/
def State.psetValid (s : State) (bank pset : Nat) : Bool :=
  s.fld (window 0x25) (F.INS_PSET_CFG.VALID.at (0x40 * bank + 4 * pset)) = 1

/-- Where a packet goes with RESUME = 0: to the traffic manager under its DEST, or dropped with reason 0x01 (R268). -/
def State.byDest (s : State) (k : Nat) (p : Packet) : State :=
  if p.w W.DEST / 2 ^ 14 = 0 then s.dropPkt k p 0x01 else s.leavePipe p

/-- Settle a packet with T_REQ set: given to the Teller, or, with a pattern set that is not VALID, settled at once as
RESUME directs (R259, R261, R268). -/
def State.settleGive (s : State) (k : Nat) (p : Packet) : State :=
  let q := p.endPass
  if p.w W.CLASS = 0 ∧ s.psetValid (p.w W.EPOCH) (p.w W.PSET) = false then
    let q := (q.setW W.I_DONE 1).setW W.I_FAIL 1
    let s := s.count (kB k + Ctr.KP.PSET_BAD)
    let s := s.raiseMs 0 Ev.INS_PSET_BAD 0x25 noInst [(1, k), (1, p.w W.PSET), (1, p.w W.EPOCH)]
    if p.wb W.RESUME then s.recircPkt q else s.byDest k q
  else if p.wb W.RESUME then s.giveOr k q fun s => s.dropPkt k q 0x07
  else s.leavePipe (q.setWB W.T_REQ true)

/-- Settle a packet by the first row of R243 that applies. -/
def State.settleFate (s : State) (k : Nat) (p : Packet) : State :=
  if p.wb W.DROP then s.dropPkt k p.endPass (p.w W.DROP_REASON)
  else if p.wb W.T_REQ then s.settleGive k p
  else if p.wb W.RECIRC then s.recircPkt p.endPass
  else s.byDest k p.endPass

/-- END_OF_PASS (R243): the oldest packet in a pass has its action lists applied, its copies taken and its fate
settled. -/
def execEndOfPass (k : Pipe) (s : State) : Host.Outcome State Fault Refusal :=
  .next <| s.onLive (0x20 + k.val) fun s =>
    let q := s.pipe k.val
    match q.inPass with
    | [] => s
    | p :: t =>
      let s := s.setPipe k.val { q with inPass := t }
      let (s, p) := s.applyLists k.val p
      let s := s.mirrors k.val p
      (s.sample 1 k.val p).settleFate k.val p

/-! ### TBL_ACT_CMD (R273) -/

/-- A write of TBL_ACT_CMD. -/
def State.wrActCmd (s : State) (v : Nat) : State :=
  if s.bit tblB F.TBL_ACT_CMD.BUSY then s
  else
    let sp := F.TBL_ACT_CMD.SPACE.of v
    let op := F.TBL_ACT_CMD.OP.of v
    let i := F.TBL_ACT_CMD.INDEX.of v
    let s := ((s.setF tblB F.TBL_ACT_CMD.SPACE sp).setF tblB F.TBL_ACT_CMD.OP op).setF tblB F.TBL_ACT_CMD.INDEX i
    if op = 3 then s
    else
      let s := s.setF tblB F.TBL_ACT_CMD.BUSY 1
      if (sp = 0 ∧ i = 0) ∨ (sp = 1 ∧ 2047 < i) then s.setF tblB F.TBL_ACT_CMD.CAUSE 5
      else
        let s := s.setF tblB F.TBL_ACT_CMD.CAUSE 0
        let old := if sp = 0 then s.actList i else s.tplHalf i
        if op = 0 then s.setRegs (tblB + 0x610) (natWords 8 old)
        else
          let new := if op = 1 then wordsNat (s.regWords (tblB + 0x610) 8)
            else if sp = 0 then setBits old 31 31 0 else 0
          if sp = 0 then { s with tbl := { s.tbl with acts := SMap.set (fun _ => 0) s.tbl.acts i new } }
          else { s with tbl := { s.tbl with tpls := SMap.set (fun _ => 0) s.tbl.tpls i new } }

/-- The value of TBL_ACT_CMD for an operation: space 0 names lists, space 1 template halves. -/
def actCmd (tpl : Bool) (op i : Nat) : Nat := b2n tpl * 2 ^ 27 + op * 2 ^ 16 + i

/-- TBL_ACT_READ (R273): OP 00 reads an action list or a template half. -/
def execTblActRead (m : Master) (tpl : Bool) (i : BitVec 14) (s : State) : Host.Outcome State Fault Refusal :=
  .next (s.onWrite m (tblB + 0x600) fun s => s.wrActCmd (actCmd tpl 0 i.toNat))

/-- TBL_ACT_WRITE (R273): OP 01 writes an action list or a template half. -/
def execTblActWrite (m : Master) (tpl : Bool) (i : BitVec 14) (s : State) : Host.Outcome State Fault Refusal :=
  .next (s.onWrite m (tblB + 0x600) fun s => s.wrActCmd (actCmd tpl 1 i.toNat))

/-- TBL_ACT_INVALIDATE (R273): OP 10 invalidates a list, or zeroes a template half. -/
def execTblActInvalidate (m : Master) (tpl : Bool) (i : BitVec 14) (s : State) : Host.Outcome State Fault Refusal :=
  .next (s.onWrite m (tblB + 0x600) fun s => s.wrActCmd (actCmd tpl 2 i.toNat))

/-- TBL_ACT_CMD_DONE (R273): the operation completes and BUSY clears. -/
def execTblActCmdDone (s : State) : Host.Outcome State Fault Refusal := .next (s.onLive 0x22 fun s => s.setF tblB F.TBL_ACT_CMD.BUSY 0)

end Sys2Proof.Machine
end

