-- ==== Sys2Proof/Machine/Deep.lean ====
section
/-! DEFINITION. Queue entries (R278, R312), the pages of the deep buffer (R417, R430) and a queue's DRAM segment (R286,
R287). -/

namespace Sys2Proof.Machine

/-! ### Queue, group and multicast entries (R278, R312) -/

/-- The four words of a queue's entry at reset, as one number (R312). -/
def qReset (q : Nat) : Nat :=
  let w0 := if q < 384 then 2 ^ 31 + q % 8 * 2 ^ 28 + 2 ^ 16 + q / 8
    else if 2432 ≤ q ∧ q ≤ 2495 then 2 ^ 31 + 48 else 0
  w0 + 2 ^ 32 * (12 * 2 ^ 12 + 8 * 2 ^ 8) + 2 ^ 64 * (16 * 2 ^ 16 + 4096) + 2 ^ 96 * (64 * 2 ^ 18 + 8192)

/-- The two words of a group's entry at reset (R312). -/
def gReset (g : Nat) : Nat := if g ≤ 48 then 2 ^ 31 + g else 0

/-- A queue's entry. -/
def State.qc (s : State) (q : Nat) : Nat := SMap.get qReset s.tmg.qcfg q

/-- A group's entry. -/
def State.gc (s : State) (g : Nat) : Nat := SMap.get gReset s.tmg.gcfg g

def qEN (e : Nat) : Bool := decide (bits e 31 31 = 1)
def qPRIO (e : Nat) : Nat := bits e 30 28
def qWEIGHT (e : Nat) : Nat := max 1 (bits e 25 16)
def qGROUP (e : Nat) : Nat := bits e 9 0
def qSH_EN (e : Nat) : Bool := decide (bits e 63 63 = 1)
def qSHAPER (e : Nat) : Nat := bits e 57 48
def qYEL (e : Nat) : Nat := bits e 47 44
def qRED (e : Nat) : Nat := bits e 43 40
def qRESERVE (e : Nat) : Nat := bits e 95 80
def qSPILL (e : Nat) : Nat := bits e 79 64
def qDEEP_EN (e : Nat) : Bool := decide (bits e 127 127 = 1)
def qDEEP_LIMIT (e : Nat) : Nat := bits e 126 114
def qLIMIT (e : Nat) : Nat := bits e 113 96

/-- The node of a group, larger numbers acting as 48 (R312). -/
def gNODE (e : Nat) : Nat := min 48 (bits e 5 0)

/-- f(k) of R282 in sixteenths: green 16, yellow YEL, red RED. -/
def qScale (e k : Nat) : Nat := if k = 0 then 16 else if k = 1 then qYEL e else qRED e

/-- Whether a queue is upstream (R278). -/
def isUpQ (q : Nat) : Bool := decide (384 ≤ q) && decide (q ≤ 2431)

/-- The pool of a queue: 0 TENANT, 1 UPSTREAM, 2 AUX (R278). -/
def qPool (q : Nat) : Nat := if q < 384 then 0 else if q ≤ 2431 then 1 else 2

/-- A queue. -/
def State.q (s : State) (i : Nat) : QState := SMap.get (fun _ => QState.empty) s.tmg.qs i

/-- Replace a queue. -/
def State.setQ (s : State) (i : Nat) (x : QState) : State :=
  { s with tmg := { s.tmg with qs := SMap.set (fun _ => QState.empty) s.tmg.qs i x } }

/-- Count in a queue's Tally counters: 0 ENQ_PKTS, 1 ENQ_BYTES, 2 DEQ_PKTS, 3 DEQ_BYTES, 4 DROP_BUF, 5 DROP_LIMIT,
6 DROP_COLOUR, 7 DROP_POOL, 8 DROP_DEEP, 9 DROP_ORDER (R512, R315). -/
def State.qCount (s : State) (q c : Nat) (n : Nat := 1) : State := s.tallyAdd 0x12 (16 * q + c) n

/-! ### Pages of the deep buffer (R417, R430) -/

/-- STATE of a DRAM channel: 0 IN, 1 DRAIN, 2 OUT, 3 RETURN. -/
def State.mcState (s : State) (c : Nat) : Nat := s.fld (mcB c) F.MC_STAT.STATE

/-- Whether a DRAM channel is in service. -/
def State.mcIn (s : State) (c : Nat) : Bool := s.live (0x30 + c) && decide (s.mcState c = 0)

/-- Whether any DRAM channel is in service (R285). -/
def State.dramOn (s : State) : Bool := (List.range 8).any s.mcIn

/-- A count of pages of a channel. -/
def pagesOf (m : SMap Nat) (c : Nat) : Nat := SMap.get (fun _ => 0) m c

/-- Change a count of pages of a channel. -/
def setPages (m : SMap Nat) (c v : Nat) : SMap Nat := SMap.set (fun _ => 0) m c v

/-- The pages of a channel's initialised units: 245,760 each (R417). -/
def State.unitPages (s : State) (c : Nat) : Nat := s.fld (mcB c) F.MC_STAT.UNITS * 245760

/-- The free pages of a channel. -/
def State.freePages (s : State) (c : Nat) : Nat :=
  s.unitPages c - pagesOf s.mem.used c - pagesOf s.mem.retired c - pagesOf s.mem.trace c

/-- The usable pages of R417. -/
def State.usablePages (s : State) : Nat :=
  (((List.range 8).filter s.mcIn).map s.unitPages).sum - (s.mem.retired.map (·.2)).sum - (s.mem.trace.map (·.2)).sum

/-- Show the usable pages in MCC_DEEP_STAT.PAGES. -/
def State.showPages (s : State) : State := s.setF mccB F.MCC_DEEP_STAT.PAGES s.usablePages

/-- The channel the next page comes from: the next one in the rotation MC0 to MC7 that is IN with a free page (R417). -/
def State.nextPage (s : State) : Option Nat :=
  ((List.range 8).map fun i => (s.mem.rot + i) % 8).find? fun c => s.mcIn c && decide (0 < s.freePages c)

/-- Take a page of a channel. -/
def State.takePage (s : State) (c : Nat) : State :=
  { s with mem := { s.mem with used := setPages s.mem.used c (pagesOf s.mem.used c + 1), rot := c + 1 } }

/-- A page goes back to its channel's free list, or is retired where an uncorrectable error was read in it (R430). -/
def State.putPage (s : State) (c : Nat) (bad : Bool) : State :=
  let s := { s with mem := { s.mem with used := setPages s.mem.used c (pagesOf s.mem.used c - 1) } }
  if bad then
    let s := { s with mem := { s.mem with retired := setPages s.mem.retired c (pagesOf s.mem.retired c + 1) } }
    (s.count (mcB c + Ctr.MC.PAGES_RETIRED)).showPages
  else s

/-! ### The budgets of R38 -/

/-- What a budget holds: 12.5 GB/s, which is 10 bytes a clock, up to the most it can hold. -/
def State.budget (s : State) (b at_ : Nat) : Nat := min Config.deepBurst (b + 10 * (s.now - at_))

/-- The member of a direction: downstream first, upstream second. -/
def dirIx (up : Bool) : Fin 2 := if up then 1 else 0

/-- What a direction's write budget holds. -/
def State.wrRoom (s : State) (up : Bool) : Nat := s.budget (s.tmg.wrBudget.get (dirIx up)) (s.tmg.wrAt.get (dirIx up))

/-- Spend from a direction's write budget. -/
def State.spendWr (s : State) (up : Bool) (n : Nat) : State :=
  let b := s.wrRoom up - n
  { s with tmg := { s.tmg with wrBudget := s.tmg.wrBudget.set (dirIx up) b, wrAt := s.tmg.wrAt.set (dirIx up) s.now } }

/-- What a direction's read budget holds. -/
def State.rdRoom (s : State) (up : Bool) : Nat := s.budget (s.tmg.rdBudget.get (dirIx up)) (s.tmg.rdAt.get (dirIx up))

/-- Spend from a direction's read budget. -/
def State.spendRd (s : State) (up : Bool) (n : Nat) : State :=
  let b := s.rdRoom up - n
  { s with tmg := { s.tmg with rdBudget := s.tmg.rdBudget.set (dirIx up) b, rdAt := s.tmg.rdAt.set (dirIx up) s.now } }

/-! ### Segments (R286, R287) -/

/-- What a packet occupies in DRAM: LEN rounded up to 64 bytes, plus 64 bytes (R286). -/
def deepSize (p : Packet) : Nat := ceilDiv p.bytes.length 64 * 64 + 64

/-- The bytes a queue's segment holds. -/
def QState.deepBytes (x : QState) : Nat := (x.deep.map (·.size)).sum

/-- Change what a direction has placed in DRAM. -/
def State.setDeepUsed (s : State) (up : Bool) (v : Nat) : State :=
  { s with tmg := { s.tmg with deepUsed := s.tmg.deepUsed.set (dirIx up) v } }

/-- The bytes of a direction's share of the usable capacity (R286; US_PCT above 100 acts as 100). -/
def State.deepShare (s : State) (up : Bool) : Nat :=
  let pct := min 100 (s.fld tmgB F.TMG_DEEP_CFG.US_PCT)
  s.usablePages * 4096 * (if up then pct else 100 - pct) / 100

/-- Take the pages a segment of queue q needs to end at byte `e`; none where no channel has a free page. -/
def State.growPages (s : State) (q e : Nat) : Nat → Option State
  | 0 => some s
  | n + 1 =>
    let x := s.q q
    let have_ := match x.pages.getLast? with
      | none => x.deepEnd / 4096
      | some p => p.1 + 1
    if e ≤ have_ * 4096 then some s
    else
      match s.nextPage with
      | none => none
      | some c => ((s.takePage c).setQ q { x with pages := x.pages ++ [(have_, c, false)] }).growPages q e n

/-- Whether a packet's place in a segment touches page k. -/
def DeepPkt.touches (d : DeepPkt) (k : Nat) : Bool := decide (d.start < 4096 * (k + 1)) && decide (4096 * k < d.start + d.size)

/-- Free the pages of a queue's segment that hold no packet any more; an empty segment starts again at 0. -/
def State.trimPages (s : State) (q : Nat) : State :=
  let x := s.q q
  let keep (p : Nat × Nat × Bool) : Bool := x.deep.any fun d => d.touches p.1
  let gone := x.pages.filter fun p => !keep p
  let s := s.setQ q { x with pages := x.pages.filter keep, deepEnd := if x.deep.isEmpty then 0 else x.deepEnd }
  gone.foldl (fun s p => s.putPage p.2.1 p.2.2) s

/-- The names of a deep-buffer refusal: 0 ORDER, 1 CAPACITY, 2 RATE, 3 LIMIT, 4 ECC (R316). -/
def State.deepRefused (s : State) (q cause : Nat) : State :=
  s.raiseMs 0 Ev.TMG_DEEP_REFUSED 0x28 noInst [(2, q), (1, cause)]

/-- Why a packet cannot be placed in a queue's segment, by the three conditions of R286 in order. -/
def State.deepTest (s : State) (q : Nat) (p : Packet) (k : Nat) : Option Nat :=
  let n := deepSize p
  let up := isUpQ q
  if qDEEP_LIMIT (s.qc q) * 2 ^ 20 * qScale (s.qc q) k < ((s.q q).deepBytes + n) * 16 then some 3
  else if s.deepShare up < s.tmg.deepUsed.get (dirIx up) + n then some 1
  else if s.wrRoom up < n then some 2
  else none

/-- Place a packet at the end of a queue's segment: its cells are freed (R286). None where no page is free. -/
def State.placeDeep (s : State) (q : Nat) (p : Packet) : Option State :=
  let n := deepSize p
  let up := isUpQ q
  match s.growPages q ((s.q q).deepEnd + n) 8 with
  | none => none
  | some s =>
    let x := s.q q
    let s := s.unref p
    let d : DeepPkt := { pkt := { p with cells := 0, uid := 0, tc0 := 8 }, start := x.deepEnd, size := n }
    let s := s.setQ q { x with deep := x.deep ++ [d], deepEnd := x.deepEnd + n }
    let s := (s.setDeepUsed up (s.tmg.deepUsed.get (dirIx up) + n)).spendWr up n
    some ((s.count (tmgB + Ctr.TMG.DEEP_WR_BYTES) n).pmc 0x053 0 (n / 64))

/-- Packets leave a queue's segment unread: their space and pages are free. -/
def State.cutDeep (s : State) (q : Nat) (gone : DeepPkt → Bool) : State :=
  let x := s.q q
  let up := isUpQ q
  let s := s.setQ q { x with deep := x.deep.filter fun d => !gone d }
  (s.setDeepUsed up (s.tmg.deepUsed.get (dirIx up) - ((x.deep.filter gone).map (·.size)).sum)).trimPages q

/-- Packets lost from a queue's segment count in DROP_DEEP (R286, R315). -/
def State.dropDeep (s : State) (q : Nat) (gone : DeepPkt → Bool) : State :=
  (s.qCount q 8 ((s.q q).deep.filter gone).length).cutDeep q gone

end Sys2Proof.Machine
end

