-- ==== Sys2Proof/Machine/Ptp.lean ====
section
/-! DEFINITION. PTP event messages (R330) and which frames need insertion at their launch (R334, R335). -/

namespace Sys2Proof.Machine

/-! ### PTP messages (R330) -/

/-- Bytes of the 802.1Q and 802.1ad tags behind the addresses, up to two. -/
def tagBytes (bs : List Byte) : Nat :=
  let tag (v : Nat) : Bool := decide (v = 0x8100) || decide (v = 0x88A8)
  if !tag (beAt bs 12 2) then 0 else if !tag (beAt bs 16 2) then 4 else 8

/-- A recognised PTP event message: where its header starts, and the offset of its UDP checksum, 0 where it has none. -/
structure PtpMsg where
  at_ : Nat
  udp : Nat
  deriving DecidableEq, Repr

/-- The PTP event message in a frame, by the forms the port's settings enable (R330). -/
def State.ptpMsg (s : State) (n : Nat) (bs : List Byte) : Option PtpMsg :=
  let b := tqB n
  let x := 12 + tagBytes bs
  let ty := beAt bs x 2
  let ihl := beAt bs (x + 2) 1 % 16 * 4
  let cand : Option PtpMsg :=
    if ty = 0x88F7 ∧ s.bit b F.TQ_PTP_CFG.L2 = true then some { at_ := x + 2, udp := 0 }
    else if ty = 0x0800 ∧ s.bit b F.TQ_PTP_CFG.UDP4 = true ∧ beAt bs (x + 11) 1 = 17 ∧ beAt bs (x + 2 + ihl + 2) 2 = 319 then
      some { at_ := x + 2 + ihl + 8, udp := x + 2 + ihl + 6 }
    else if ty = 0x86DD ∧ s.bit b F.TQ_PTP_CFG.UDP6 = true ∧ beAt bs (x + 8) 1 = 17 ∧ beAt bs (x + 44) 2 = 319 then
      some { at_ := x + 50, udp := x + 48 }
    else none
  match cand with
  | none => none
  | some m => if m.at_ + 34 ≤ min 128 bs.length ∧ beAt bs m.at_ 1 % 16 < 4 then some m else none

/-- The messageType, domainNumber, twoStepFlag and sequenceId of a message. -/
def ptpType (bs : List Byte) (m : PtpMsg) : Nat := beAt bs m.at_ 1 % 16
def ptpDomain (bs : List Byte) (m : PtpMsg) : Nat := beAt bs (m.at_ + 4) 1
def ptpTwoStep (bs : List Byte) (m : PtpMsg) : Bool := (beAt bs (m.at_ + 6) 1).testBit 1
def ptpSeq (bs : List Byte) (m : PtpMsg) : Nat := beAt bs (m.at_ + 30) 2

/-- Add to correctionField, in units of 2⁻¹⁶ ns. -/
def ptpCorrect (bs : List Byte) (m : PtpMsg) (x : Int) : List Byte :=
  putBytes bs (m.at_ + 8) (beBytes 8 (toUnsigned 64 (toSigned 64 (beAt bs (m.at_ + 8) 8) + x)))

/-- Correct a UDP checksum that is not zero for the bytes that changed (R334). -/
def ptpUdpFix (old new : List Byte) (m : PtpMsg) : List Byte :=
  let c := beAt old m.udp 2
  if m.udp = 0 ∨ c = 0 then new
  else
    let a := m.udp + 2
    let v := ocAdd (ocAdd (65535 - c) (65535 - ocRange old a a old.length)) (ocRange new a a new.length)
    putBytes new m.udp (beBytes 2 (if v = 65535 then 65535 else 65535 - v))

/-- Whether the launch unit completes a frame's message one-step: a Sync of the host or the Steward without twoStepFlag
(R334). -/
def State.oneStepFor (s : State) (n : Nat) (p : Packet) (m : PtpMsg) : Bool :=
  decide (64 ≤ p.src) && decide (ptpType p.bytes m = 0) && !ptpTwoStep p.bytes m && s.bit (tqB n) F.TQ_PTP_CFG.ONE_STEP

/-- Whether a port updates the messages it sends as a transparent clock (R335). -/
def State.tcMode (s : State) (n : Nat) : Bool :=
  decide (s.fld (tqB n) F.TQ_PTP_CFG.TC = 1) || decide (s.fld (tqB n) F.TQ_PTP_CFG.TC = 2)

/-- Whether a frame needs insertion at port n, so that its launch time is fixed when the scheduler selects it (R334, R335). -/
def State.needsLaunch (s : State) (n : Nat) (p : Packet) : Bool :=
  match s.ptpMsg n p.bytes with
  | none => false
  | some m =>
    s.oneStepFor n p m || (s.tcMode n && (match p.rxStamp with
      | some (_, err) => !err
      | none => false))

end Sys2Proof.Machine
end

