-- ==== Sys2Proof/Machine/Gates.lean ====
section
/-! DEFINITION. Tenant ports as the traffic manager sees them, and the gate control lists (R296 to R299). -/

namespace Sys2Proof.Machine

/-! ### Ports (R163, R169, R195) -/

/-- A field of a tenant port's page. -/
def State.tqF (s : State) (n : Nat) (f : Fld) : Nat := s.fld (tqB n) f

/-- STATE of a port: 0 IN, 1 OUT, 2 RETURN. -/
def State.portState (s : State) (n : Nat) : Nat := s.tqF n F.TQ_PORT_SVC.STATE

/-- A lane's mode: 0 disabled, 1 25GBASE-R, 2 10GBASE-R, 3 2.5GBASE-X, 4 1000BASE-X, 5 SGMII; others act as 0 (R163). -/
def State.laneMode (s : State) (n : Nat) : Nat :=
  let m := s.tqF n F.TQ_LANE_CFG.MODE
  if m ≤ 5 then m else 0

/-- A port's MAC rate in Mbit/s (R163, R167). -/
def State.portRate (s : State) (n : Nat) : Nat :=
  let m := s.laneMode n
  let v := s.tqF n F.TQ_LANE_STAT.SPEED
  if m = 1 then 25000 else if m = 2 then 10000 else if m = 3 then 2500 else if m = 4 then 1000
  else if m = 5 then if v = 0 then 10 else if v = 1 then 100 else 1000
  else 0

/-- MAX_FRAME of a port: values outside 64 to 16,000 act as the nearer limit (R197). -/
def State.maxFrame (s : State) (n : Nat) : Nat := min 16000 (max 64 (s.tqF n F.TQ_MAC_CFG.MAX_FRAME))

/-- Whether a port has link (R169). -/
def State.linkUp (s : State) (n : Nat) : Bool := s.bit (tqB n) F.TQ_LANE_STAT.LINK

/-- A port, as its registers do not show it. -/
def State.port (s : State) (n : Nat) : TqPort := SMap.get (fun _ => TqPort.empty) s.tq n

/-- Replace a port. -/
def State.setPort (s : State) (n : Nat) (p : TqPort) : State := { s with tq := SMap.set (fun _ => TqPort.empty) s.tq n p }

/-- The island of a tenant port. -/
def quadId (n : Nat) : Nat := 0x10 + n / 4

/-- Whether a port's MAC can take a frame: in service, empty, and not held for want of link (R169, R288). -/
def State.macReady (s : State) (n : Nat) : Bool :=
  s.accepts (quadId n) && decide (s.portState n = 0) && (s.port n).mac.isNone &&
    (s.linkUp n || !s.bit (tqB n) F.TQ_MAC_CTRL.LINKDOWN_HOLD)

/-- OVERHEAD of a node: of its port; the host node has none (R290, R313). -/
def State.overhead (s : State) (node : Nat) : Nat :=
  if node < 48 then s.fld tmgB (F.TMG_PORT_CFG.OVERHEAD.at (0x20 * node)) else 0

/-! ### Gate lists (R296 to R298) -/

/-- Device time in whole ns. -/
def State.ns (s : State) : Nat := s.timeNow / 65536

/-- Where a gate list stands at a time: the entry's index and the time the entry ends. -/
def GateList.at (g : GateList) (t : Nat) : Nat × Nat :=
  let cyc := max 1 g.cycle
  let base := t - (t - g.start) % cyc
  let off := (t - g.start) % cyc
  let rec go : List (Nat × Nat) → Nat → Nat → Nat × Nat
    | [], i, _ => (i, base + cyc)
    | [_], i, _ => (i, base + cyc)
    | e :: es, i, acc => if off < acc + e.1 then (i, base + min cyc (acc + e.1)) else go es (i + 1) (acc + e.1)
  go g.entries 0 0

/-- The GATES of entry i. -/
def GateList.gates (g : GateList) (i : Nat) : Nat := (g.entries.getD i (0, 0xFF)).2

/-- The gate list in force of a port. -/
def State.gclOf (s : State) (n : Nat) : GateList := SMap.get (fun _ => GateList.empty) s.tmg.gclOper n

/-- The admin gate list of a port as it stands; a length past 256 acts as 256. -/
def State.adminList (s : State) (n start : Nat) : GateList :=
  let d := 0x20 * n
  { entries := (List.range (min 256 (s.fld tmgB (F.TMG_GCL_CTRL.ADMIN_LEN.at d)))).map fun i =>
      SMap.get (fun _ => (0, 0xFF)) s.tmg.gclAdmin (256 * n + i)
    cycle := s.fld tmgB (F.TMG_GCL_CYCLE.ADMIN_CYCLE.at d)
    start }

/-- The time from `t` on at which gate p next shuts, along the list in force and the list that a committed hand-over
puts in its place at its change time (R297); none when it stays open over the next `n` entries. -/
def gateShut (oper : GateList) (pend : Option GateList) (p : Nat) : Nat → Nat → Option Nat
  | 0, _ => none
  | n + 1, t =>
    let (g, cut) := match pend with
      | none => (oper, none)
      | some l => if l.start ≤ t then (l, none) else (oper, some l.start)
    let (i, e) := g.at t
    let e := match cut with
      | none => e
      | some c => min c e
    if (g.gates i).testBit p then if e ≤ t then none else gateShut oper pend p n e else some t

/-- When gate p of port n next shuts from `t` on, where that is within `tx` ns (R296, R297): each entry looked at ends at least
1 ns after the one before it, so `tx + 1` entries reach past that time. -/
def State.gateClose (s : State) (n p t tx : Nat) : Option Nat :=
  let pend := (SMap.get (fun _ => none) s.tmg.gclChange n).map fun c => s.adminList n c
  gateShut (s.gclOf n) pend p (tx + 1) t

/-- The transmit time of `len` bytes of a frame and its OVERHEAD, in ns rounded up (R297). -/
def State.txNs (s : State) (n len : Nat) : Nat := ceilDiv ((len + s.overhead n) * 8 * 1000) (max 1 (s.portRate n))

/-- The clock before which a frame that needs insertion, selected now, is not launched: LEAD ns from now, where less than 200
acts as 200, and not before the end of the frame in transmission and its gap; none for any other frame (R334). -/
def State.launchAt (s : State) (n : Nat) (p : Packet) : Option Nat :=
  if s.needsLaunch n p then some (max (s.now + ceilDiv (max 200 (s.tqF n F.TQ_PTP_LEAD.LEAD) * 5) 4) (s.port n).busy) else none

/-- Device time in ns at which a queue's head would start: now, or its launch time (R297, R334). -/
def State.startNs (s : State) (n : Nat) (p : Packet) : Nat :=
  match s.launchAt n p with
  | none => s.ns
  | some t => s.ns + (t - s.now) * 4 / 5

/-- Whether the gates let a queue's head start (R296, R297). -/
def State.gateAdmits (s : State) (q : Nat) (p : Packet) : Bool :=
  let n := q / 8
  let d := 0x20 * n
  if 384 ≤ q ∨ s.bit tmgB (F.TMG_GCL_CTRL.ENABLE.at d) = false then true
  else
    let t := s.startNs n p
    let tx := s.txNs n (if s.bit tmgB (F.TMG_GCL_CTRL.GUARD.at d) then s.maxFrame n else p.fcsLen)
    match s.gateClose n (q % 8) t tx with
    | none => true
    | some c => decide (t + tx ≤ c) && decide (t < c)

/-- Show the operational entry in force and the gates now open (R313). -/
def State.showGates (s : State) (n : Nat) : State :=
  let d := 0x20 * n
  let g := s.gclOf n
  let i := (g.at s.ns).1
  let open_ := if s.bit tmgB (F.TMG_GCL_CTRL.ENABLE.at d) then g.gates i else 0xFF
  (s.setF tmgB (F.TMG_GCL_OPER.STATE.at d) open_).setF tmgB (F.TMG_GCL_OPER.ENTRY.at d) i

/-- GATE_ENTRY_START (R296): the operational list's entry in force ends and the next one takes effect. -/
def execGateEntryStart (n : Port) (s : State) : Host.Outcome State Fault Refusal :=
  .next (s.onLive 0x28 fun s => (s.reachTime ((((s.gclOf n.val).at s.ns).2) * 65536)).showGates n.val)

/-- The change time of the admin list committed now (R298). -/
def State.changeTime (s : State) (n : Nat) : Nat :=
  let d := 0x20 * n
  let hi := timeSec s.timeNow / 2 ^ 32 * 2 ^ 32
  let b := (hi + s.fld tmgB (F.TMG_GCL_BASE_S.BASE_S.at d)) * 1000000000 + s.fld tmgB (F.TMG_GCL_BASE_NS.BASE_NS.at d)
  let t := max 1 (s.fld tmgB (F.TMG_GCL_CYCLE.ADMIN_CYCLE.at d))
  let at_ := s.ns + 2000
  if at_ ≤ b then b else b + ceilDiv (at_ - b) t * t

/-- A write of TMG_GCL_CTRL[n] (R298): COMMIT fixes the change time, or is refused: 0 cycle, 1 length. -/
def State.wrGclCtrl (s : State) (n v : Nat) : State :=
  let d := 0x20 * n
  let s := s.setF tmgB (F.TMG_GCL_CTRL.ENABLE.at d) (F.TMG_GCL_CTRL.ENABLE.of v)
  let s := s.setF tmgB (F.TMG_GCL_CTRL.GUARD.at d) (F.TMG_GCL_CTRL.GUARD.of v)
  let s := s.setF tmgB (F.TMG_GCL_CTRL.ADMIN_LEN.at d) (F.TMG_GCL_CTRL.ADMIN_LEN.of v)
  let s := s.showGates n
  if F.TMG_GCL_CTRL.COMMIT.of v = 0 then s
  else
    let refuse (s : State) (cause : Nat) : State :=
      (s.setF tmgB (F.TMG_GCL_CTRL.GCL_REFUSED.at d) 1).raise Ev.TMG_GCL_REFUSED 0x28 noInst [(1, n), (1, cause)]
    if s.fld tmgB (F.TMG_GCL_CYCLE.ADMIN_CYCLE.at d) = 0 then refuse s 0
    else if s.fld tmgB (F.TMG_GCL_CTRL.ADMIN_LEN.at d) = 0 then refuse s 1
    else
      let s := (s.setF tmgB (F.TMG_GCL_CTRL.GCL_REFUSED.at d) 0).setF tmgB (F.TMG_GCL_CTRL.PENDING.at d) 1
      { s with tmg := { s.tmg with gclChange := SMap.set (fun _ => none) s.tmg.gclChange n (some (s.changeTime n)) } }

/-- GCL_COMMIT (R298): COMMIT is written with the ENABLE, GUARD and ADMIN_LEN the write carries. -/
def execGclCommit (m : Master) (n : Port) (enable guard_ : Bool) (len : BitVec 9) (s : State) :
    Host.Outcome State Fault Refusal :=
  .next (s.onWrite m (tmgB + 0x408 + 0x20 * n.val) fun s =>
    s.wrGclCtrl n.val (2 ^ 31 + b2n enable * 2 ^ 29 + b2n guard_ * 2 ^ 28 + len.toNat))

/-- GCL_HANDOVER (R298, R299): at the change time the admin list is copied whole into the operational list, which starts
its first cycle there; the admin list keeps its content. The copy is one step, so a shadow write of the lock window
lands after it and belongs to the next hand-over. -/
def execGclHandover (n : Port) (s : State) : Host.Outcome State Fault Refusal :=
  .next <| s.onLive 0x28 fun s => match SMap.get (fun _ => none) s.tmg.gclChange n.val with
    | none => s
    | some c =>
      let d := 0x20 * n.val
      let s := s.reachTime (c * 65536)
      let g := s.adminList n.val c
      let s := { s with tmg := { s.tmg with
        gclOper := SMap.set (fun _ => GateList.empty) s.tmg.gclOper n.val g,
        gclChange := SMap.set (fun _ => none) s.tmg.gclChange n.val none } }
      let gen := (s.fld tmgB (F.TMG_GCL_CTRL.GEN.at d) + 1) % 256
      let s := (s.setF tmgB (F.TMG_GCL_CTRL.PENDING.at d) 0).setF tmgB (F.TMG_GCL_CTRL.GEN.at d) gen
      let s := (s.count (tmgB + Ctr.TMG.GCL_SWITCH)).raise Ev.TMG_GCL_SWITCH 0x28 noInst [(1, n.val), (1, gen)]
      s.showGates n.val

/-! ### TMG_GCL_CMD (R311) -/

/-- A write of TMG_GCL_CMD: ports 48 and above name no list, so nothing is read or written there. -/
def State.wrGclCmd (s : State) (v : Nat) : State :=
  if s.bit tmgB F.TMG_GCL_CMD.BUSY then s
  else
    let op := F.TMG_GCL_CMD.OP.of v
    let n := F.TMG_GCL_CMD.PORT.of v
    let i := F.TMG_GCL_CMD.INDEX.of v
    let s := ((s.setF tmgB F.TMG_GCL_CMD.OP op).setF tmgB F.TMG_GCL_CMD.PORT n).setF tmgB F.TMG_GCL_CMD.INDEX i
    if op = 3 then s
    else
      let s := s.setF tmgB F.TMG_GCL_CMD.BUSY 1
      let put (s : State) (e : Nat × Nat) : State :=
        (s.setReg (tmgB + 0xA04) (BitVec.ofNat 32 e.1)).setReg (tmgB + 0xA08) (BitVec.ofNat 32 e.2)
      if 48 ≤ n then s
      else if op = 0 then put s (SMap.get (fun _ => (0, 0xFF)) s.tmg.gclAdmin (256 * n + i))
      else if op = 2 then put s ((s.gclOf n).entries.getD i (0, 0xFF))
      else
        let e := (s.fld tmgB F.TMG_GCL_DATA0.INTERVAL, s.fld tmgB F.TMG_GCL_DATA1.GATES)
        { s with tmg := { s.tmg with gclAdmin := SMap.set (fun _ => (0, 0xFF)) s.tmg.gclAdmin (256 * n + i) e } }

/-- The value of TMG_GCL_CMD for an operation on an entry. -/
def gclCmd (op n i : Nat) : Nat := op * 2 ^ 16 + n * 2 ^ 8 + i

/-- TMG_GCL_READ_ADMIN (R311): OP 00 reads an admin gate-list entry. -/
def execTmgGclReadAdmin (m : Master) (n : BitVec 6) (i : BitVec 8) (s : State) : Host.Outcome State Fault Refusal :=
  .next (s.onWrite m (tmgB + 0xA00) fun s => s.wrGclCmd (gclCmd 0 n.toNat i.toNat))

/-- TMG_GCL_WRITE_ADMIN (R299, R311): OP 01 writes an admin gate-list entry. -/
def execTmgGclWriteAdmin (m : Master) (n : BitVec 6) (i : BitVec 8) (s : State) : Host.Outcome State Fault Refusal :=
  .next (s.onWrite m (tmgB + 0xA00) fun s => s.wrGclCmd (gclCmd 1 n.toNat i.toNat))

/-- TMG_GCL_READ_OPER (R311): OP 10 reads an operational gate-list entry. -/
def execTmgGclReadOper (m : Master) (n : BitVec 6) (i : BitVec 8) (s : State) : Host.Outcome State Fault Refusal :=
  .next (s.onWrite m (tmgB + 0xA00) fun s => s.wrGclCmd (gclCmd 2 n.toNat i.toNat))

end Sys2Proof.Machine
end

