-- ==== Sys2Proof/Machine/Queues.lean ====
section
/-! DEFINITION. The traffic manager's queues: which queue a packet takes (R279, R280), admission on chip (R282, R283) and
to DRAM (R285, R286), scheduling (R288 to R290, R293) and the commands of R311 and R312. -/

namespace Sys2Proof.Machine

/-! ### Finish tags (R290) -/

/-- Whether tag A comes before tag B, modulo 2⁴⁸. -/
def tagBefore (a b : Nat) : Bool := decide (a ≠ b) && decide ((b + 2 ^ 48 - a) % 2 ^ 48 < 2 ^ 47)

/-- The finish tag of a head of `len` bytes and overhead. -/
def nextTag (v f len weight : Nat) : Nat := ((if tagBefore v f then f else v) + len * 65536 / max 1 weight) % 2 ^ 48

/-- A scheduler's virtual time: groups by index, nodes by 1,024 + node, allocations by 2,048 + 128 * channel + index. -/
def State.vt (s : State) (k : Nat) : Nat := SMap.get (fun _ => 0) s.tmg.vtime k

/-- Put a scheduler's virtual time. -/
def State.setVt (s : State) (k v : Nat) : State := { s with tmg := { s.tmg with vtime := SMap.set (fun _ => 0) s.tmg.vtime k v } }

/-- The node of a queue, through its group. -/
def State.nodeOf (s : State) (q : Nat) : Nat := gNODE (s.gc (qGROUP (s.qc q)))

/-- Give the head of a tenant, host or auxiliary queue its tag when it has none (R290). -/
def State.tagHead (s : State) (q : Nat) : State :=
  let x := s.q q
  match x.chip with
  | [] => s
  | p :: _ =>
    if isUpQ q || x.tag.on then s
    else
      let e := s.qc q
      let f := nextTag (s.vt (qGROUP e)) x.tag.f (p.fcsLen + s.overhead (s.nodeOf q)) (qWEIGHT e)
      s.setQ q { x with tag := { f, on := true, prio := qPRIO e } }

/-! ### Admission (R282, R283, R285, R286) -/

/-- A packet joins the on-chip part of a queue; its cells are charged to the queue and its pool. -/
def State.joinChip (s : State) (q : Nat) (p : Packet) : State :=
  let x := s.q q
  let s := s.setQ q { x with chip := x.chip ++ [{ p with since := s.now }], cells := x.cells + p.cells }
  (s.setPoolOcc (qPool q) (s.poolOcc (qPool q) + p.cells)).tagHead q

/-- Whether a queue sends its arrivals to a DRAM segment, when it can (R285). -/
def State.deepOn (s : State) (q : Nat) : Bool := qDEEP_EN (s.qc q) && decide (q ≤ 2431) && s.dramOn

/-- Why R282 drops a packet of `c` cells and colour k: the Tally counter, and the cause of TMG_POOL_FULL where it is
raised, 0 pool and 1 buffer. A queue whose EN is 0 reserves nothing, and rule 3 is not taken for a queue that R285 diverts to
DRAM. -/
def State.chipTest (s : State) (q c k : Nat) : Option (Nat × Option Nat) :=
  let e := s.qc q
  let n := (s.q q).cells + c
  if s.freeCells < c then some (4, some 1)
  else if qEN e = true ∧ n ≤ qRESERVE e then none
  else if s.deepOn q = false ∧ qLIMIT e * qScale e k < n * 16 then some (if k = 0 then 5 else 6, none)
  else if s.poolLimit (qPool q) < s.poolOcc (qPool q) + c then some (7, some 0)
  else none

/-- A packet, or one copy of it, is dropped at admission to a queue, counted once for its cause (R283). -/
def State.admitDrop (s : State) (q : Nat) (p : Packet) (ctr : Nat) : State :=
  let s := ((s.qCount q ctr).count (tmgB + Ctr.TMG.DROPS)).pmc 0x052 noInst
  (s.sample 2 noInst p).unref p

/-- What the forecast of R310 may still count: enqueues of the last 1,000 µs, the longest window. -/
def State.noteArrival (s : State) (q n : Nat) : State :=
  if isUpQ q then
    let recent := s.tmg.arrivals.filter fun a => decide (s.now < a.1 + 1000 * usTicks)
    { s with tmg := { s.tmg with arrivals := recent ++ [(s.now, q, n)] } }
  else s

/-- A packet is admitted: it counts in its queue (R315, R515). -/
def State.admitted (s : State) (q : Nat) (p : Packet) : State :=
  let s := ((s.qCount q 0).qCount q 1 p.fcsLen).noteArrival q p.fcsLen
  (s.pmc 0x050 noInst).sample 2 noInst p

/-- Admit a packet of colour k to a queue, on chip or to DRAM, or drop it (R282, R285, R286); a copy that the buffer has no free
cells for falls under rule 1 (log 172). -/
def State.takeIn (s : State) (q : Nat) (p : Packet) (k : Nat) : State :=
  let x := s.q q
  if p.cells = 0 then (s.raiseMs 0 Ev.TMG_POOL_FULL 0x28 noInst [(1, qPool q), (1, 1)]).admitDrop q p 4
  else if s.deepOn q && !(x.deep.isEmpty && decide (x.cells + p.cells ≤ qSPILL (s.qc q))) then
    if isUpQ q || decide (48 ≤ p.src) then
      match s.deepTest q p k with
      | some cause => (s.deepRefused q cause).admitDrop q p 8
      | none =>
        match s.placeDeep q p with
        | none => (s.deepRefused q 1).admitDrop q p 8
        | some t => t.admitted q p
    else (s.deepRefused q 0).admitDrop q p 9
  else
    match s.chipTest q p.cells k with
    | some (ctr, ev) =>
      let s := match ev with
        | some c => s.raiseMs 0 Ev.TMG_POOL_FULL 0x28 noInst [(1, qPool q), (1, c)]
        | none => s
      s.admitDrop q p ctr
    | none => (s.joinChip q p).admitted q p

/-! ### The queue of a packet (R279, R280) -/

/-- The TMG_TC_MAP offset of a TC. -/
def State.tcOffset (s : State) (tc : Nat) : Nat := s.fld tmgB F.TMG_TC_MAP.OFF / 2 ^ (3 * tc) % 8

/-- Where a packet goes: the queues of its copies, none where no enabled queue takes it. -/
def State.pickQueues (s : State) (p : Packet) : Option (List Nat) :=
  let one (q : Nat) : Option (List Nat) := if qEN (s.qc q) then some [q] else none
  let d := p.w W.DEST
  let i := d % 4096
  if p.wb W.Q_VALID then one (p.w W.QUEUE)
  else if d / 2 ^ 14 = 1 then if i < 48 then one (8 * i + p.w W.TC) else none
  else if d / 2 ^ 14 = 2 then
    let c := s.sfCtx i
    let q := bits c 19 8 + s.tcOffset (p.w W.TC)
    if bits c 0 0 = 1 ∧ isUpQ q = true then one q else none
  else if d / 2 ^ 14 = 3 then
    let g := SMap.get (fun _ => 0) s.tmg.mcast i
    if bits g 63 63 = 0 then none
    else some <| ((List.range 48).filter fun n =>
      decide (bits g n n = 1) && !(decide (bits g 62 62 = 1) && decide (p.src = n))).map fun n => 8 * n + p.w W.TC
  else none

/-- A packet no queue takes (R279, R280): 172 carries the QUEUE the workspace names, else DEST. -/
def State.noQueue (s : State) (p : Packet) : State :=
  let s := s.count (tmgB + Ctr.TMG.NO_QUEUE)
  let v := if p.wb W.Q_VALID then p.w W.QUEUE else p.w W.DEST
  (s.raiseMs 0 Ev.TMG_NO_QUEUE 0x28 noInst [(2, v)]).unref p

/-- The service-flow policer of R295: the colour after it, none for a red packet, which is dropped. -/
def State.police (s : State) (p : Packet) : State × Option Nat :=
  let (s, k) := s.colourOf (p.w W.COLOUR)
  let d := p.w W.DEST
  let c := s.sfCtx (d % 4096)
  if d / 2 ^ 14 = 2 ∧ bits c 0 0 = 1 ∧ bits c 68 68 = 1 then
    let (s, k) := s.meter (bits c 67 56) p.fcsLen k
    if k = 2 then (s.count (tmgB + Ctr.TMG.POLICE_RED), none) else (s, some k)
  else (s, some k)

/-- One copy of a packet at its queue: a queue that is not enabled takes none (R279), nor does a port that is OUT (R195, R283). -/
def State.placeCopy (s : State) (q : Nat) (p : Packet) (k : Nat) : State :=
  if qEN (s.qc q) = false then s.noQueue p
  else if q < 384 ∧ s.portState (q / 8) = 1 then (s.count (tqB (q / 8) + Ctr.TQ.TX_SVC_DISC)).unref p
  else s.takeIn q p k

/-! ### Choosing a child (R288, R289, R293) -/

/-- Whether a shaper lets its child send: its PIR Purse holds 0 or more. -/
def State.shaperOk (s : State) (en : Bool) (sh : Nat) : Bool := !en || decide (0 ≤ (s.purse (2 * sh + 1)).tokens)

/-- Whether a child is committed (R289): its CIR rate is not 0 and its CIR Purse holds 0 or more. -/
def State.committed (s : State) (en : Bool) (sh : Nat) : Bool :=
  en && decide ((s.purse (2 * sh)).rate ≠ 0) && decide (0 ≤ (s.purse (2 * sh)).tokens)

/-- A send is charged to both Purses of a shaper (R293). -/
def State.charge (s : State) (en : Bool) (sh len : Nat) : State :=
  if en then
    let c := s.purse (2 * sh)
    let s := s.setPurse (2 * sh) { c with tokens := c.tokens - len * 1000 }
    let p := s.purse (2 * sh + 1)
    s.setPurse (2 * sh + 1) { p with tokens := p.tokens - len * 1000 }
  else s

/-- A child of a scheduler: its index, whether it is committed, its PRIO and its tag. -/
structure Child where
  ix : Nat
  com : Bool
  prio : Nat
  f : Nat
  deriving DecidableEq, Repr

/-- Whether child A goes before child B (R289). -/
def Child.before (a b : Child) : Bool :=
  if a.com ≠ b.com then a.com
  else if a.prio ≠ b.prio then decide (b.prio < a.prio)
  else if a.f ≠ b.f then tagBefore a.f b.f
  else decide (a.ix < b.ix)

/-- The child a scheduler chooses among the eligible ones. -/
def bestChild (l : List Child) : Option Child :=
  l.foldl (fun b c =>
    match b with
    | none => some c
    | some d => if c.before d then some c else some d) none

/-- The DMA channel that drains a host queue, when it is RUN and holds an accepted descriptor (R454). -/
def State.hostChan (s : State) (q : Nat) : Option Nat :=
  let d := 4 * (q - 2432)
  let c := s.fld (window 0x3B) (F.DMA_HQ_MAP.CHANNEL.at d)
  let ch := SMap.get (fun _ => DmaChan.empty) s.dma c
  if 2432 ≤ q ∧ q ≤ 2495 ∧ s.fld (window 0x3B) (F.DMA_HQ_MAP.EN.at d) = 1 ∧ s.fld (dcB c) F.DC_CTRL.STATE = 1 ∧
      ch.mode = 1 ∧ ch.desc.isSome = true ∧ ch.pkt.isNone = true ∧
      ch.code = 0 ∧ ch.waits = false then some c
  else none

/-- The HOSTQ channels that could take a packet now: RUN, with an accepted descriptor that holds none (R454). -/
def State.hostChans (s : State) : List Nat :=
  (List.range 32).filter fun c =>
    let ch := SMap.get (fun _ => DmaChan.empty) s.dma c
    decide (s.fld (dcB c) F.DC_CTRL.STATE = 1) && decide (ch.mode = 1) && ch.desc.isSome && ch.pkt.isNone &&
      decide (ch.code = 0) && !ch.waits

/-- Whether the host node can take a queue's head: a host queue while its channel is ready (R454); an auxiliary queue, which no
channel's map names, while any HOSTQ channel is (R278, log 173). -/
def State.hostTakes (s : State) (q : Nat) : Bool :=
  if q ≤ 2495 then (s.hostChan q).isSome else !s.hostChans.isEmpty

/-- Whether a queue of a node is eligible (R288). -/
def State.qEligible (s : State) (node q : Nat) : Bool :=
  match (s.q q).chip with
  | [] => false
  | p :: _ =>
    let e := s.qc q
    !isUpQ q && s.shaperOk (qSH_EN e) (qSHAPER e) &&
      (if node < 48 then
        (decide (384 ≤ q) || !(s.tqF (q / 8) F.TQ_WDOG_STAT.PAUSED).testBit (q % 8)) && s.gateAdmits q p
      else s.hostTakes q)

/-- The queue a group would send from. -/
def State.pickInGroup (s : State) (node g : Nat) : Option Child :=
  bestChild <| (s.tmg.qs.map (·.1)).filterMap fun q =>
    let e := s.qc q
    if decide (qGROUP e = g) && s.qEligible node q then
      some { ix := q, com := s.committed (qSH_EN e) (qSHAPER e), prio := (s.q q).tag.prio, f := (s.q q).tag.f }
    else none

/-- The finish tag of a group. -/
def State.gTag (s : State) (g : Nat) : Tag := SMap.get (fun _ => Tag.none) s.tmg.gTag g

/-- Replace the finish tag of a group. -/
def State.setGTag (s : State) (g : Nat) (t : Tag) : State :=
  { s with tmg := { s.tmg with gTag := SMap.set (fun _ => Tag.none) s.tmg.gTag g t } }

/-- The groups of a node that hold a queue with a packet on chip, each once. -/
def State.groupsOf (s : State) (node : Nat) : List Nat :=
  (((s.tmg.qs.filter fun x => !isUpQ x.1 && !x.2.chip.isEmpty).map fun x => qGROUP (s.qc x.1)).eraseDups).filter fun g =>
    decide (gNODE (s.gc g) = node)

/-- Give a group with a packet to send its tag when it has none (R290). -/
def State.tagGroup (s : State) (node g q : Nat) : State :=
  let t := s.gTag g
  match (s.q q).chip with
  | [] => s
  | p :: _ =>
    if t.on then s
    else
      let e := s.gc g
      let f := nextTag (s.vt (1024 + node)) t.f (p.fcsLen + s.overhead node) (bits e 25 16)
      s.setGTag g { f, on := true, prio := qPRIO e }

/-- The groups of a node that can send, with their queues; each has its tag. -/
def State.readyGroups (s : State) (node : Nat) : State × List (Child × Nat) :=
  (s.groupsOf node).foldl (fun a g =>
    let (s, l) := a
    let e := s.gc g
    match s.pickInGroup node g with
    | none => (s, l)
    | some c =>
      if s.shaperOk (qSH_EN e) (qSHAPER e) then
        let s := s.tagGroup node g c.ix
        (s, l ++ [({ ix := g, com := s.committed (qSH_EN e) (qSHAPER e), prio := (s.gTag g).prio, f := (s.gTag g).f }, c.ix)])
      else (s, l)) (s, [])

/-- Take the head packet out of a queue: its cells are uncharged from the queue and its pool. -/
def State.takeHead (s : State) (q : Nat) : State × Option Packet :=
  let x := s.q q
  match x.chip with
  | [] => (s, none)
  | p :: t =>
    let s := s.setQ q { x with chip := t, cells := x.cells - p.cells, tag := { x.tag with on := false } }
    (s.setPoolOcc (qPool q) (s.poolOcc (qPool q) - p.cells), some p)

/-- A packet of a queue is sent (R315, R515). -/
def State.dequeued (s : State) (q : Nat) (p : Packet) : State :=
  let s := (s.qCount q 2).qCount q 3 p.fcsLen
  (s.pmc 0x051 noInst).sample 3 noInst p

/-- Whether a port in service lies in a quad that drains, is out or is dark, so that its crossing accepts nothing (R24). -/
def State.portLost (s : State) (n : Nat) : Bool :=
  decide (s.portState n = 0) && (s.draining.contains (quadId n) || s.islOut (quadId n) || s.islDark (quadId n))

/-- A frame handed to a port's MAC: a quad that does not accept it loses it (R24), and without link it is discarded (R169). -/
def State.toMac (s : State) (n : Nat) (p : Packet) : State :=
  let s := s.unref p
  if s.portLost n then s.count (tmgB + Ctr.TMG.DROPS)
  else if s.linkUp n then
    s.setPort n { s.port n with mac := some { p with cells := 0 }, tries := 0, launch := s.launchAt n p }
  else s.count (tqB n + Ctr.TQ.TX_LINK_DOWN)

/-- The HOSTQ channel a queue's packet goes to: the one its map names, or, for an auxiliary queue, any that is ready, which
the spec does not choose: a free value (log 173). -/
def State.pickChan (s : State) (q : Nat) : State × Option Nat :=
  if q ≤ 2495 then (s, s.hostChan q)
  else
    let (t, r) := s.takeFree
    (t, s.hostChans[r % max 1 s.hostChans.length]?)

/-- A packet of the host node goes to the channel that drains its queue (R454). -/
def State.toChan (s : State) (q : Nat) (p : Packet) : State :=
  match s.pickChan q with
  | (s, none) => s.unref p
  | (s, some c) =>
    let s := s.unref p
    let ch := SMap.get (fun _ => DmaChan.empty) s.dma c
    { s with dma := SMap.set (fun _ => DmaChan.empty) s.dma c { ch with pkt := some { p with cells := 0, uid := q } } }

/-- Whether a node can send (R288, R313). -/
def State.nodeReady (s : State) (node : Nat) : Bool :=
  if node < 48 then
    (s.portLost node || s.macReady node) && s.shaperOk (s.bit tmgB (F.TMG_PORT_CFG.SH_EN.at (0x20 * node)))
      (s.fld tmgB (F.TMG_PORT_CFG.SHAPER.at (0x20 * node)))
  else true

/-- Charge a send of `len` bytes to the shapers of its queue, its group and its port node (R293). -/
def State.chargeAll (s : State) (node g q len : Nat) : State :=
  let s := s.charge (qSH_EN (s.qc q)) (qSHAPER (s.qc q)) len
  let s := s.charge (qSH_EN (s.gc g)) (qSHAPER (s.gc g)) len
  if node < 48 then
    s.charge (s.bit tmgB (F.TMG_PORT_CFG.SH_EN.at (0x20 * node))) (s.fld tmgB (F.TMG_PORT_CFG.SHAPER.at (0x20 * node))) len
  else s

/-- TMG_DEQUEUE (R288 to R290, R293): a node that can send chooses a group and the group a queue; its head packet goes to
the port's MAC or to the queue's DMA channel. -/
def execTmgDequeue (node : Fin 49) (s : State) : Host.Outcome State Fault Refusal :=
  .next <| s.onLive 0x28 fun s =>
    if !s.nodeReady node.val then s
    else
      let (s, l) := s.readyGroups node.val
      match bestChild (l.map (·.1)) with
      | none => s
      | some g =>
        match l.find? fun c => decide (c.1.ix = g.ix) with
        | none => s
        | some (_, q) =>
          let s := (s.setVt (1024 + node.val) g.f).setVt g.ix (s.q q).tag.f
          let s := s.setGTag g.ix { s.gTag g.ix with on := false }
          let (s, p) := s.takeHead q
          match p with
          | none => s
          | some p =>
            let s := (s.chargeAll node.val g.ix q (p.fcsLen + s.overhead node.val)).tagHead q
            let s := if node.val < 48 && s.portLost node.val then s else s.dequeued q p
            if node.val < 48 then s.toMac node.val p else s.toChan q p

/-! ### The deep buffer's reads (R287) -/

/-- TMG_DEEP_READBACK (R287): the oldest packet of a queue's segment is read back into on-chip cells, within the read
budget and once the buffer has room; with an uncorrectable error in it, the packet is lost. -/
def execTmgDeepReadback (q : BitVec 12) (lost : Bool) (s : State) : Host.Outcome State Fault Refusal :=
  .next <| s.onLive 0x28 fun s =>
    let x := s.q q.toNat
    let up := isUpQ q.toNat
    match x.deep with
    | [] => s
    | d :: t =>
      if qSPILL (s.qc q.toNat) ≤ x.cells ∨ s.rdRoom up < d.size ∨ s.freeCells < d.pkt.cellLen then s
      else
        let s := s.spendRd up d.size
        let s := (s.count (tmgB + Ctr.TMG.DEEP_RD_BYTES) d.size).pmc 0x053 1 (d.size / 64)
        if lost then (s.dropDeep q.toNat fun e => decide (e = d)).deepRefused q.toNat 4
        else
          let s := s.setQ q.toNat { x with deep := t }
          let s := (s.setDeepUsed up (s.tmg.deepUsed.get (dirIx up) - d.size)).trimPages q.toNat
          let (s, p) := s.storePkt d.pkt
          (s.leaveTransit p).joinChip q.toNat p

/-! ### Purses (R291, R292, R311) -/

/-- PURSE_STEP (R291): the next 1 µs step of TMG time: every Purse gains its rate and new settings apply. -/
def execPurseStep (s : State) : Host.Outcome State Fault Refusal :=
  .next ((s.elapse (usTicks - s.now % usTicks)).stepPurses)

/-- Where a TMG_PURSE_CMD's SPACE and INDEX keep their Purse, none where they name none (R311). -/
def purseIx (space i : Nat) : Option Nat :=
  if space = 0 then if i < 2048 then some i else none else if i < 8192 then some (4096 + i) else none

/-- Tokens as TMG_PURSE_TOK shows them: signed whole bytes as of the last step. How a negative fraction rounds is free. -/
def State.tokBytes (s : State) (t : Int) : State × Nat :=
  if t < 0 ∧ t % 1000 ≠ 0 then
    let (s, r) := s.takeFree
    (s, toUnsigned 32 (t.fdiv 1000 + (r % 2 : Nat)))
  else (s, toUnsigned 32 (t.fdiv 1000))

/-- A write of TMG_PURSE_CMD (R292, R311): settings written apply at the next step. -/
def State.wrPurseCmd (s : State) (v : Nat) : State :=
  if s.bit tmgB F.TMG_PURSE_CMD.BUSY then s
  else
    let op := F.TMG_PURSE_CMD.OP.of v
    let sp := F.TMG_PURSE_CMD.SPACE.of v
    let i := F.TMG_PURSE_CMD.INDEX.of v
    let s := ((s.setF tmgB F.TMG_PURSE_CMD.OP op).setF tmgB F.TMG_PURSE_CMD.SPACE sp).setF tmgB F.TMG_PURSE_CMD.INDEX i
    if 2 ≤ op then s
    else
      let s := s.setF tmgB F.TMG_PURSE_CMD.BUSY 1
      match purseIx sp i with
      | none => s
      | some k =>
        let p := s.purse k
        if op = 0 then
          let a := p.applied
          let s := (s.setF tmgB F.TMG_PURSE_CFG.RATE a.rate).setF tmgB F.TMG_PURSE_BURST.BURST a.burst
          let s := (s.setF tmgB F.TMG_PURSE_MODE.MODE a.mode).setBit tmgB F.TMG_PURSE_MODE.AWARE a.aware
          let (s, t) := s.tokBytes p.stepped
          s.setF tmgB F.TMG_PURSE_TOK.TOKENS t
        else
          let aware := s.bit tmgB F.TMG_PURSE_MODE.AWARE && decide (sp = 1) && decide (i % 2 = 0)
          s.setPurse k { p with next := some (s.fld tmgB F.TMG_PURSE_CFG.RATE, s.fld tmgB F.TMG_PURSE_BURST.BURST,
            s.fld tmgB F.TMG_PURSE_MODE.MODE, aware) }

/-- The value of TMG_PURSE_CMD for an operation on a Purse. -/
def purseCmd (op : Nat) (policer : Bool) (i : Nat) : Nat := op * 2 ^ 16 + b2n policer * 2 ^ 15 + i

/-- TMG_PURSE_READ (R311): OP 00 reads a Purse's settings and tokens. -/
def execTmgPurseRead (m : Master) (policer : Bool) (i : BitVec 14) (s : State) : Host.Outcome State Fault Refusal :=
  .next (s.onWrite m (tmgB + 0x200) fun s => s.wrPurseCmd (purseCmd 0 policer i.toNat))

/-- TMG_PURSE_WRITE (R292, R311): OP 01 writes a Purse's settings, applied at the next step. -/
def execTmgPurseWrite (m : Master) (policer : Bool) (i : BitVec 14) (s : State) : Host.Outcome State Fault Refusal :=
  .next (s.onWrite m (tmgB + 0x200) fun s => s.wrPurseCmd (purseCmd 1 policer i.toNat))

/-! ### TMG_Q_CMD (R311, R312) -/

/-- The words of a SPACE's entry as TMG_Q_DATA shows them. -/
def State.qWords (s : State) (sp i : Nat) : List Word :=
  if sp = 0 then natWords 4 (s.qc i)
  else if sp = 1 then natWords 2 (s.gc i) ++ [0, 0]
  else if sp = 2 then natWords 2 (SMap.get (fun _ => 0) s.tmg.mcast i) ++ [0, 0]
  else
    let x := s.q i
    [BitVec.ofNat 32 x.cells, BitVec.ofNat 32 (ceilDiv x.deepBytes 256), BitVec.ofNat 32 x.tag.f,
      BitVec.ofNat 32 (x.tag.f / 2 ^ 32)]

/-- A write of TMG_Q_CMD: queue status is read only; no group lies past 1,023. -/
def State.wrQCmd (s : State) (v : Nat) : State :=
  if s.bit tmgB F.TMG_Q_CMD.BUSY then s
  else
    let op := F.TMG_Q_CMD.OP.of v
    let sp := F.TMG_Q_CMD.SPACE.of v
    let i := F.TMG_Q_CMD.INDEX.of v
    let s := ((s.setF tmgB F.TMG_Q_CMD.OP op).setF tmgB F.TMG_Q_CMD.SPACE sp).setF tmgB F.TMG_Q_CMD.INDEX i
    if 2 ≤ op then s
    else
      let s := s.setF tmgB F.TMG_Q_CMD.BUSY 1
      if sp = 1 ∧ 1024 ≤ i then s
      else if op = 0 then s.setRegs (tmgB + 0x104) (s.qWords sp i)
      else
        let w := wordsNat (s.regWords (tmgB + 0x104) 4)
        if sp = 0 then { s with tmg := { s.tmg with qcfg := SMap.set qReset s.tmg.qcfg i w } }
        else if sp = 1 then { s with tmg := { s.tmg with gcfg := SMap.set gReset s.tmg.gcfg i (w % 2 ^ 64) } }
        else if sp = 2 then { s with tmg := { s.tmg with mcast := SMap.set (fun _ => 0) s.tmg.mcast i (w % 2 ^ 64) } }
        else s

/-- The value of TMG_Q_CMD for an operation on an entry. -/
def qCmd (op sp i : Nat) : Nat := sp * 2 ^ 18 + op * 2 ^ 16 + i

/-- TMG_Q_READ (R312): OP 00 reads a queue, group, multicast group or queue status entry. -/
def execTmgQRead (m : Master) (sp : BitVec 2) (i : BitVec 12) (s : State) : Host.Outcome State Fault Refusal :=
  .next (s.onWrite m (tmgB + 0x100) fun s => s.wrQCmd (qCmd 0 sp.toNat i.toNat))

/-- TMG_Q_WRITE (R312): OP 01 writes a queue, group or multicast group entry. -/
def execTmgQWrite (m : Master) (sp : BitVec 2) (i : BitVec 12) (s : State) : Host.Outcome State Fault Refusal :=
  .next (s.onWrite m (tmgB + 0x100) fun s => s.wrQCmd (qCmd 1 sp.toNat i.toNat))

/-- TMG_CMD_DONE (R311): an operation of TMG_Q_CMD, TMG_PURSE_CMD or TMG_GCL_CMD completes and its BUSY clears. -/
def execTmgCmdDone (which : Fin 3) (s : State) : Host.Outcome State Fault Refusal :=
  .next (s.onLive 0x28 fun s => s.setF tmgB (if which.val = 0 then F.TMG_Q_CMD.BUSY else if which.val = 1 then F.TMG_PURSE_CMD.BUSY
    else F.TMG_GCL_CMD.BUSY) 0)

end Sys2Proof.Machine
end

