-- ==== Sys2Proof/Machine/Access.lean ====
section
/-! DEFINITION. The Vault's slots (R366) and the accessors of the PON
channels and burst composers. -/

namespace Sys2Proof.Machine

/-! ### The Vault's slots (R366) -/

/-- The key of a slot, none where it is empty. -/
def State.slot (s : State) (n : Nat) : Option KeySlot := SMap.get (fun _ => none) s.slots n

/-- Replace a slot. -/
def State.setSlot (s : State) (n : Nat) (k : Option KeySlot) : State :=
  { s with slots := SMap.set (fun _ => none) s.slots n k }

/-- A slot with a new key; its invocation counter starts at 0 (R380). -/
def State.putKey (s : State) (n typ use key : Nat) : State :=
  s.setSlot n (some { typ, use, key := if typ = 1 then key % 2 ^ 128 else key % 2 ^ 256, iv := 0, ivWarned := false })

/-- A slot's key changes: OP 0 written or 1 erased, or the OP of the job that wrote it; by 0 a job port, 1 the PON exchange or
2 a derivation (R386, R391). A key of KEY_GEN, KDF or UNWRAP carries source 2 (log 162). -/
def State.keyChanged (s : State) (n op src : Nat) : State :=
  s.raise Ev.VLT_KEY_CHANGE 0x2C noInst [(2, n), (1, op), (1, src)]

/-- An engine's operation names a slot it cannot use: one on an empty slot counts in KEY_ABSENT (R390). -/
def State.slotAbsent (s : State) (n : Nat) : State :=
  if (s.slot n).isSome then s else s.count (vltB + Ctr.VLT.KEY_ABSENT)

/-- The job of a port. -/
def State.job (s : State) (p : Nat) : Option Job := s.vlt.jobs.get (if p = 0 then 0 else 1)

/-- The running jobs that hold the key a slot has, so that a write or erase of it needs an Escrow entry for each (R368, R369):
an empty slot has no old key to hold. -/
def State.keyHolders (s : State) (slot : Nat) : List Nat :=
  match s.slot slot with
  | none => []
  | some _ => [0, 1].filter fun p => match s.job p with
    | some j => decide (j.slot = some slot)
    | none => false

/-- Show ESCROW_USED. -/
def State.showEscrow (s : State) : State := s.setF vltB F.VLT_STAT.ESCROW_USED s.vlt.escrow.length

/-- The old key of a slot goes into Escrow for the jobs that hold it (R368). -/
def State.holdOld (s : State) (slot : Nat) : State :=
  ({ s with vlt := { s.vlt with escrow := s.vlt.escrow ++ s.keyHolders slot } }).showEscrow

/-- Whether a write of a slot finds room in Escrow: 16 entries (R368). -/
def State.escrowRoom (s : State) (slot : Nat) : Bool :=
  decide (s.vlt.escrow.length + (s.keyHolders slot).length ≤ 16)

/-- A key write or erase takes effect (R368). Erasing an empty slot does nothing. -/
def State.keyNow (s : State) (w : KeyWrite) : State :=
  if w.erase && (s.slot w.slot).isNone then s
  else
    let s := s.holdOld w.slot
    let s := if w.erase then s.setSlot w.slot none else s.putKey w.slot w.typ w.use w.key
    s.keyChanged w.slot w.op w.src

/-- A key is written or erased; with Escrow full and an entry needed it waits, which counts and raises VLT_ESCROW_FULL, and
later ones wait behind it (R368, R369). -/
def State.keyWrite (s : State) (w : KeyWrite) : State :=
  if s.vlt.waits.isEmpty && s.escrowRoom w.slot then s.keyNow w
  else
    let s := { s with vlt := { s.vlt with waits := s.vlt.waits ++ [w] } }
    (s.count (vltB + Ctr.VLT.ESCROW_WAITS)).raise Ev.VLT_ESCROW_FULL 0x2C noInst [(2, w.slot)]

/-- The waiting writes that now find room take effect, in order. -/
def State.keyFlush (s : State) : List KeyWrite → State
  | [] => { s with vlt := { s.vlt with waits := [] } }
  | w :: l => if s.escrowRoom w.slot then (s.keyNow w).keyFlush l else { s with vlt := { s.vlt with waits := w :: l } }

/-- A compare mismatch or a slot lost to ECC (R369, R375): cause 0 mismatch, 1 SLOT_ECC. Engines are numbered as R515 numbers
them; a lost slot names no engine, so its byte is a free value. -/
def State.vaultFault (s : State) (engine : Option Nat) (cause slot : Nat) : State :=
  let (s, e) := match engine with
    | some e => (s, e)
    | none => s.takeFree
  s.raise Ev.VLT_FAULT 0x2C noInst [(1, e), (1, cause), (2, slot)]

/-! ### The Mint (R371, R372) -/

def Tm.mint : Nat := 0x70002

/-- The Mint gives randomness: MINT is OK (R371). -/
def State.mintOk (s : State) : Bool := decide (s.fld vltB F.VLT_STAT.MINT = 0)

/-- The masking generator has been seeded from the DRBG every 1 ms up to now, each time a request of the DRBG; while the Mint
is not OK it runs on unreseeded (R372). The seedings are brought up to date where the count of requests is used. -/
def State.maskSeed (s : State) : State :=
  let k := (s.now - s.vlt.maskAt) / msTicks
  let v := { s.vlt with maskAt := s.vlt.maskAt + k * msTicks }
  { s with vlt := if s.mintOk then { v with drbg := v.drbg + k, masks := v.masks + k } else v }

/-- MINT changes. -/
def State.setMint (s : State) (v : Nat) : State := s.maskSeed.setF vltB F.VLT_STAT.MINT v

/-- The DRBG reseeds: its count of requests and its 100 ms start again (R372). -/
def State.mintReseed (s : State) : State :=
  let s := s.maskSeed.count (vltB + Ctr.VLT.MINT_RESEEDS)
  ({ s with vlt := { s.vlt with drbg := 0 } }).startTimer Tm.mint (100 * msTicks)

/-- A request for randomness; every 65,536th reseeds (R372). -/
def State.drbgRequest (s : State) : State × Nat :=
  let s := s.maskSeed
  let s := { s with vlt := { s.vlt with drbg := s.vlt.drbg + 1 } }
  let s := if 65536 ≤ s.vlt.drbg then s.mintReseed else s
  s.takeFree

/-! ### PON channels and burst composers -/

/-- The index of a channel. -/
def chIx (c : Nat) : Fin 2 := if c = 0 then 0 else 1

/-- A PON channel. -/
def State.pn (s : State) (c : Nat) : PonState := s.pon.get (chIx c)

/-- Replace a PON channel. -/
def State.setPn (s : State) (c : Nat) (x : PonState) : State := { s with pon := s.pon.set (chIx c) x }

/-- A burst composer. -/
def State.bcs (s : State) (c : Nat) : BcState := s.bc.get (chIx c)

/-- Replace a burst composer. -/
def State.setBcs (s : State) (c : Nat) (x : BcState) : State := { s with bc := s.bc.set (chIx c) x }

/-- A field of a PON window. -/
def State.pf (s : State) (c : Nat) (f : Fld) : Nat := s.fld (pnB c) f

/-- Change a field of a PON window. -/
def State.setPf (s : State) (c : Nat) (f : Fld) (v : Nat) : State := s.setF (pnB c) f v

/-- Count in a counter of a PON window. -/
def State.pCount (s : State) (c off : Nat) (n : Nat := 1) : State := s.count (pnB c + off) n

/-- Raise an event of a PON island; the sources of PCB lie `gap` above those of PCA (R106, R140). -/
def State.pRaise (s : State) (c gap src : Nat) (fs : List (Nat × Nat)) : State :=
  s.raise (src + gap * c) (0x08 + c) noInst fs

/-- Raise an event of a PON island at most once per 1 ms. -/
def State.pRaiseMs (s : State) (c gap src sub : Nat) (fs : List (Nat × Nat)) : State :=
  s.raiseMs sub (src + gap * c) (0x08 + c) noInst fs

/-- The activation engine's state (R107). -/
def State.act (s : State) (c : Nat) : Nat := s.pf c F.PN_US_STAT.ACT

/-- The alignment machine's state: 0 HUNT, 1 PRESYNC, 2 SYNC, 3 OFF (R78). -/
def State.align (s : State) (c : Nat) : Nat := s.pf c F.PN_RX_STAT.STATE

/-- XGS fallback (R76). -/
def State.xgs (s : State) (c : Nat) : Bool := s.bit (pnB c) F.PN_RX_CTRL.MODE

/-- STRIPE_EX of a channel (R146). -/
def State.stripeEx (s : State) (c : Nat) : Bool := s.bit (pnB c) F.PN_SVC_CTRL.STRIPE_EX

/-- A number for a new SDU or Key_Control of a channel. -/
def State.newN (s : State) (c : Nat) : State × Nat :=
  let n := (s.pn c).lastN + 1
  (s.setPn c { s.pn c with lastN := n }, n)

/-! ### The time of bursts -/

/-- Units of 1/777,600 ns in a tick of 0.8 ns. -/
def tickUnits : Nat := 622080

/-- Units in an RUI of 1 ÷ 49.7664 GHz. -/
def ruiUnits : Nat := 15625

/-- Units in a nanosecond. -/
def nsUnits : Nat := 777600

/-- The model's clock in units. -/
def State.units (s : State) : Nat := s.now * tickUnits

/-- Let time pass until an instant in units, to the next tick. -/
def State.toUnits (s : State) (u : Nat) : State := s.elapseTo (ceilDiv u tickUnits)

end Sys2Proof.Machine
end

