-- ==== Sys2Proof/Machine/Crypto.lean ====
section
/-! DEFINITION. The algorithms the Vault computes (R358 to R365, R367, R373, R377, R380, R381): AES with its modes, SHA-384,
HMAC and ECDSA P-384. The spec names the standards and gives none of their tables; they are PRESUMED from FIPS 197, 180-4,
198-1 and 186-5 and SP 800-38A, 38B, 38D, 38F and 108 (log 93). Blocks, keys, hashes and coordinates are numbers whose most
significant byte is the standards' byte 0. -/

namespace Sys2Proof.Machine

/-! ### AES (FIPS 197) -/

/-- The S-box of FIPS 197, sixteen bytes to a row. -/
def sboxRows : List Nat :=
  [0x637c777bf26b6fc53001672bfed7ab76, 0xca82c97dfa5947f0add4a2af9ca472c0, 0xb7fd9326363ff7cc34a5e5f171d83115,
   0x04c723c31896059a071280e2eb27b275, 0x09832c1a1b6e5aa0523bd6b329e32f84, 0x53d100ed20fcb15b6acbbe394a4c58cf,
   0xd0efaafb434d338545f9027f503c9fa8, 0x51a3408f929d38f5bcb6da2110fff3d2, 0xcd0c13ec5f974417c4a77e3d645d1973,
   0x60814fdc222a908846eeb814de5e0bdb, 0xe0323a0a4906245cc2d3ac629195e479, 0xe7c8376d8dd54ea96c56f4ea657aae08,
   0xba78252e1ca6b4c6e8dd741f4bbd8b8a, 0x703eb5664803f60e613557b986c11d9e, 0xe1f8981169d98e949b1e87e9ce5528df,
   0x8ca1890dbfe6426841992d0fb054bb16]

/-- Its inverse. -/
def invSboxRows : List Nat :=
  [0x52096ad53036a538bf40a39e81f3d7fb, 0x7ce339829b2fff87348e4344c4dee9cb, 0x547b9432a6c2233dee4c950b42fac34e,
   0x082ea16628d924b2765ba2496d8bd125, 0x72f8f66486689816d4a45ccc5d65b692, 0x6c704850fdedb9da5e154657a78d9d84,
   0x90d8ab008cbcd30af7e45805b8b34506, 0xd02c1e8fca3f0f02c1afbd0301138a6b, 0x3a9111414f67dcea97f2cfcef0b4e673,
   0x96ac7422e7ad3585e2f937e81c75df6e, 0x47f11a711d29c5896fb7620eaa18be1b, 0xfc563e4bc6d279209adbc0fe78cd5af4,
   0x1fdda8338807c731b11210592780ec5f, 0x60517fa919b54a0d2de57a9f93c99cef, 0xa0e03b4dae2af5b0c8ebbb3c83539961,
   0x172b047eba77d626e169146355210c7d]

/-- A byte through a table of rows of sixteen. -/
def rowsAt (rows : List Nat) (x : Nat) : Nat := rows.getD (x / 16) 0 / 2 ^ (8 * (15 - x % 16)) % 256

/-- The S-box and its inverse. -/
def sbox (x : Nat) : Nat := rowsAt sboxRows x
def invSbox (x : Nat) : Nat := rowsAt invSboxRows x

/-- Multiplication by x in the field of AES. -/
def xtime (b : Nat) : Nat := if b < 128 then 2 * b else Nat.xor (2 * b) 0x11b

/-- Multiplication in the field of AES by a factor below 16. -/
def fmul (k b : Nat) : Nat :=
  let b2 := xtime b
  let b4 := xtime b2
  let b8 := xtime b4
  Nat.xor (Nat.xor (if k.testBit 0 then b else 0) (if k.testBit 1 then b2 else 0))
    (Nat.xor (if k.testBit 2 then b4 else 0) (if k.testBit 3 then b8 else 0))

/-- The sixteen bytes of a block, byte 0 first, and the block of sixteen bytes. -/
def blockBytes (v : Nat) : List Nat := (List.range 16).map fun i => v / 2 ^ (8 * (15 - i)) % 256
def bytesBlock (l : List Nat) : Nat := l.foldl (fun v b => v * 256 + b) 0

/-- The S-box on each byte of a word. -/
def subWord (w : Nat) : Nat :=
  sbox (w / 2 ^ 24 % 256) * 2 ^ 24 + sbox (w / 2 ^ 16 % 256) * 2 ^ 16 + sbox (w / 2 ^ 8 % 256) * 2 ^ 8 + sbox (w % 256)

/-- The round constant of an index from 1. -/
def rcon (i : Nat) : Nat := (List.range (i - 1)).foldl (fun r _ => xtime r) 1

/-- One word of the key schedule, the words so far given latest first. -/
def keyWordNext (nk i : Nat) (ws : List Nat) : Nat :=
  let t := ws.headD 0
  let t := if i % nk = 0 then Nat.xor (subWord (t % 2 ^ 24 * 2 ^ 8 + t / 2 ^ 24)) (rcon (i / nk) * 2 ^ 24)
    else if 6 < nk ∧ i % nk = 4 then subWord t else t
  Nat.xor (ws.getD (nk - 1) 0) t

/-- The words of a key of the TYPE given: 1 AES-128, else AES-256. -/
def keyWords (typ : Nat) : Nat := if typ = 1 then 4 else 8

/-- The round keys, first to last (FIPS 197 5.2). -/
def roundKeys (typ key : Nat) : List Nat :=
  let nk := keyWords typ
  let first := (List.range nk).foldl (fun ws i => key / 2 ^ (32 * (nk - 1 - i)) % 2 ^ 32 :: ws) []
  let ws := ((List.range (4 * (nk + 7) - nk)).foldl (fun ws i => keyWordNext nk (nk + i) ws :: ws) first).reverse
  (List.range (nk + 7)).map fun r => (List.range 4).foldl (fun v i => v * 2 ^ 32 + ws.getD (4 * r + i) 0) 0

/-- A row r of the state is rotated left by k r places (FIPS 197 5.1.2). -/
def shiftRows (k : Nat) (l : List Nat) : List Nat := (List.range 16).map fun i => l.getD ((i + 4 * (k * (i % 4))) % 16) 0

/-- Each column times the circulant matrix whose first row is given (FIPS 197 5.1.3). -/
def mixColumns (m : List Nat) (l : List Nat) : List Nat :=
  (List.range 16).map fun i => (List.range 4).foldl
    (fun v j => Nat.xor v (fmul (m.getD ((j + 4 - i % 4) % 4) 0) (l.getD (4 * (i / 4) + j) 0))) 0

/-- AES of a block under round keys (FIPS 197 5.1). -/
def aesRounds (ks : List Nat) (block : Nat) : Nat :=
  let mid := (ks.drop 1).dropLast.foldl
    (fun v k => Nat.xor (bytesBlock (mixColumns [2, 3, 1, 1] (shiftRows 1 ((blockBytes v).map sbox)))) k)
    (Nat.xor block (ks.headD 0))
  Nat.xor (bytesBlock (shiftRows 1 ((blockBytes mid).map sbox))) (ks.getLastD 0)

/-- Its inverse (FIPS 197 5.3). -/
def aesUnrounds (ks : List Nat) (block : Nat) : Nat :=
  let mid := (ks.drop 1).dropLast.reverse.foldl
    (fun v k => bytesBlock (mixColumns [14, 11, 13, 9] (blockBytes (Nat.xor (bytesBlock ((shiftRows 3 (blockBytes v)).map invSbox)) k))))
    (Nat.xor block (ks.getLastD 0))
  Nat.xor (bytesBlock ((shiftRows 3 (blockBytes mid)).map invSbox)) (ks.headD 0)

/-- AES of a block under a key of a TYPE. -/
def aes (typ key block : Nat) : Nat := aesRounds (roundKeys typ key) block

/-- AES of the all-zero block, from which the check value of R367 is taken. -/
def aesZero (typ key : Nat) : Nat := aes typ key 0

/-! ### Modes (SP 800-38A, 38B, 38D, 38F) -/

/-- Bytes in blocks of 16, the last short. -/
def blocksOf (bs : List Byte) : List (List Byte) :=
  (List.range ((bs.length + 15) / 16)).map fun i => (bs.drop (16 * i)).take 16

/-- A block of at most 16 bytes, filled with zeros. -/
def blockNat (bs : List Byte) : Nat := beAt bs 0 16

/-- Bytes xored with the cipher of numbered blocks. -/
def xorStream (f : Nat → Nat) (bs : List Byte) : List Byte :=
  ((blocksOf bs).zipIdx.map fun x => (beBytes 16 (Nat.xor (blockNat x.1) (f x.2))).take x.1.length).flatten

/-- The i-th counter block after one: its last 32 bits count, and whether a carry leaves them is left open (log 155). -/
def ctrBlock (wide : Bool) (c i : Nat) : Nat :=
  if wide then (c + i) % 2 ^ 128 else c / 2 ^ 32 * 2 ^ 32 + (c + i) % 2 ^ 32

/-- Counter mode from a first counter block (SP 800-38A). -/
def ctrMode (wide : Bool) (typ key c : Nat) (bs : List Byte) : List Byte :=
  let ks := roundKeys typ key
  xorStream (fun i => aesRounds ks (ctrBlock wide c i)) bs

/-- GCM's encryption and decryption from its first counter block (SP 800-38D). -/
def aesCtr (typ key c : Nat) (bs : List Byte) : List Byte := ctrMode false typ key c bs

/-- The product of GHASH (SP 800-38D 6.3). -/
def ghashMul (x y : Nat) : Nat :=
  ((List.range 128).foldl (fun (zv : Nat × Nat) i =>
    (if x.testBit (127 - i) then Nat.xor zv.1 zv.2 else zv.1,
     if zv.2 % 2 = 1 then Nat.xor (zv.2 / 2) (0xE1 * 2 ^ 120) else zv.2 / 2)) (0, y)).1

/-- GHASH of additional data and ciphertext. -/
def ghash (h : Nat) (aad ct : List Byte) : Nat :=
  let v := ((blocksOf aad).map blockNat ++ (blocksOf ct).map blockNat).foldl (fun v b => ghashMul (Nat.xor v b) h) 0
  ghashMul (Nat.xor v (8 * aad.length * 2 ^ 64 + 8 * ct.length)) h

/-- The 128-bit tag of GCM for a 96-bit IV. -/
def gcmTag (typ key iv : Nat) (aad ct : List Byte) : Nat :=
  let ks := roundKeys typ key
  Nat.xor (aesRounds ks (iv % 2 ^ 96 * 2 ^ 32 + 1)) (ghash (aesRounds ks 0) aad ct)

/-- A subkey of CMAC (SP 800-38B 6.1). -/
def cmacDouble (l : Nat) : Nat := if l < 2 ^ 127 then 2 * l else Nat.xor (2 * l % 2 ^ 128) 0x87

/-- CMAC of bytes under a key of a TYPE (SP 800-38B). -/
def cmac (typ key : Nat) (bs : List Byte) : Nat :=
  let ks := roundKeys typ key
  let k1 := cmacDouble (aesRounds ks 0)
  let whole := decide (bs ≠ []) && decide (bs.length % 16 = 0)
  let front := bs.take (16 * ((bs.length - 1) / 16))
  let tail := bs.drop (16 * ((bs.length - 1) / 16))
  let last := if whole then Nat.xor (blockNat tail) k1 else Nat.xor (blockNat (tail ++ [0x80])) (cmacDouble k1)
  ((blocksOf front).map blockNat ++ [last]).foldl (fun v b => aesRounds ks (Nat.xor v b)) 0

/-- A step of key unwrap: the check A and the blocks R, for a step t and a block i (SP 800-38F 6.1). -/
def unwrapStep (ks : List Nat) (n : Nat) (ar : Nat × List Nat) (t : Nat) : Nat × List Nat :=
  let i := (t - 1) % n
  let b := aesUnrounds ks (Nat.xor ar.1 t * 2 ^ 64 + ar.2.getD i 0)
  (b / 2 ^ 64, ar.2.set i (b % 2 ^ 64))

/-- AES key unwrap, none where the check fails (SP 800-38F). -/
def keyUnwrap (typ key : Nat) (bs : List Byte) : Option Nat :=
  let n := bs.length / 8 - 1
  let r := (List.range n).map fun i => beAt bs (8 + 8 * i) 8
  let x := ((List.range (6 * n)).map fun j => 6 * n - j).foldl (unwrapStep (roundKeys typ key) n) (beAt bs 0 8, r)
  if x.1 = 0xA6A6A6A6A6A6A6A6 then some (x.2.foldl (fun v w => v * 2 ^ 64 + w) 0) else none

/-- Key derivation in counter mode with CMAC (SP 800-108): as many blocks as the key's bits ask for. The input of a block,
which holds its number, the label and context and the length, is left open (log 93). -/
def kdf (typ key : Nat) (src : List Byte) (len : Nat) : Nat :=
  let n := (len + 127) / 128
  ((List.range n).foldl (fun v i => v * 2 ^ 128 + cmac typ key (Config.kdfInput src len (i + 1))) 0) / 2 ^ (128 * n - len)

/-- XGEM payload through the counter mode of the recommendation (R91, R122): the key, a number that stands for the frame's place,
and the bytes. -/
def ponCipher (key nonce : Nat) (bs : List Byte) : List Byte :=
  let ks := roundKeys 1 key
  xorStream (fun i => aesRounds ks (Config.ponCounter nonce i)) bs

/-! ### SHA-384 and HMAC (FIPS 180-4, 198-1) -/

/-- The first 40 round constants of SHA-384 (FIPS 180-4), in order. -/
def shaK0 : List Nat :=
  [0x428a2f98d728ae22, 0x7137449123ef65cd, 0xb5c0fbcfec4d3b2f, 0xe9b5dba58189dbbc, 0x3956c25bf348b538,
   0x59f111f1b605d019, 0x923f82a4af194f9b, 0xab1c5ed5da6d8118, 0xd807aa98a3030242, 0x12835b0145706fbe,
   0x243185be4ee4b28c, 0x550c7dc3d5ffb4e2, 0x72be5d74f27b896f, 0x80deb1fe3b1696b1, 0x9bdc06a725c71235,
   0xc19bf174cf692694, 0xe49b69c19ef14ad2, 0xefbe4786384f25e3, 0x0fc19dc68b8cd5b5, 0x240ca1cc77ac9c65,
   0x2de92c6f592b0275, 0x4a7484aa6ea6e483, 0x5cb0a9dcbd41fbd4, 0x76f988da831153b5, 0x983e5152ee66dfab,
   0xa831c66d2db43210, 0xb00327c898fb213f, 0xbf597fc7beef0ee4, 0xc6e00bf33da88fc2, 0xd5a79147930aa725,
   0x06ca6351e003826f, 0x142929670a0e6e70, 0x27b70a8546d22ffc, 0x2e1b21385c26c926, 0x4d2c6dfc5ac42aed,
   0x53380d139d95b3df, 0x650a73548baf63de, 0x766a0abb3c77b2a8, 0x81c2c92e47edaee6, 0x92722c851482353b]

/-- The other 40. -/
def shaK1 : List Nat :=
  [0xa2bfe8a14cf10364, 0xa81a664bbc423001, 0xc24b8b70d0f89791, 0xc76c51a30654be30, 0xd192e819d6ef5218,
   0xd69906245565a910, 0xf40e35855771202a, 0x106aa07032bbd1b8, 0x19a4c116b8d2d0c8, 0x1e376c085141ab53,
   0x2748774cdf8eeb99, 0x34b0bcb5e19b48a8, 0x391c0cb3c5c95a63, 0x4ed8aa4ae3418acb, 0x5b9cca4f7763e373,
   0x682e6ff3d6b2b8a3, 0x748f82ee5defb2fc, 0x78a5636f43172f60, 0x84c87814a1f0ab72, 0x8cc702081a6439ec,
   0x90befffa23631e28, 0xa4506cebde82bde9, 0xbef9a3f7b2c67915, 0xc67178f2e372532b, 0xca273eceea26619c,
   0xd186b8c721c0c207, 0xeada7dd6cde0eb1e, 0xf57d4f7fee6ed178, 0x06f067aa72176fba, 0x0a637dc5a2c898a6,
   0x113f9804bef90dae, 0x1b710b35131c471b, 0x28db77f523047d84, 0x32caab7b40c72493, 0x3c9ebe0a15c9bebc,
   0x431d67c49c100d4c, 0x4cc5d4becb3e42b6, 0x597f299cfc657e2a, 0x5fcb6fab3ad6faec, 0x6c44198c4a475817]

/-- The initial hash value of SHA-384. -/
def shaH : List Nat :=
  [0xcbbb9d5dc1059ed8, 0x629a292a367cd507, 0x9159015a3070dd17, 0x152fecd8f70e5939,
   0x67332667ffc00b31, 0x8eb44a8768581511, 0xdb0c2e0d64f98fa7, 0x47b5481dbefa4fa4]

/-- Rotation right of 64 bits. -/
def ror64 (x n : Nat) : Nat := x / 2 ^ n + x % 2 ^ n * 2 ^ (64 - n)

/-- One more word of the message schedule, the words so far given latest first. -/
def shaWord (ws : List Nat) : Nat :=
  let x := ws.getD 1 0
  let y := ws.getD 14 0
  let s1 := Nat.xor (Nat.xor (ror64 x 19) (ror64 x 61)) (x / 2 ^ 6)
  let s0 := Nat.xor (Nat.xor (ror64 y 1) (ror64 y 8)) (y / 2 ^ 7)
  (s1 + ws.getD 6 0 + s0 + ws.getD 15 0) % 2 ^ 64

/-- The hash value's eight words. -/
structure Sha where
  a : Nat
  b : Nat
  c : Nat
  d : Nat
  e : Nat
  f : Nat
  g : Nat
  h : Nat
  deriving DecidableEq, Repr

/-- A round with its constant plus message word. -/
def shaRound (x : Sha) (kw : Nat) : Sha :=
  let s1 := Nat.xor (Nat.xor (ror64 x.e 14) (ror64 x.e 18)) (ror64 x.e 41)
  let ch := Nat.xor (Nat.land x.e x.f) (Nat.land (Nat.xor x.e 0xFFFFFFFFFFFFFFFF) x.g)
  let t1 := x.h + s1 + ch + kw
  let s0 := Nat.xor (Nat.xor (ror64 x.a 28) (ror64 x.a 34)) (ror64 x.a 39)
  let maj := Nat.xor (Nat.xor (Nat.land x.a x.b) (Nat.land x.a x.c)) (Nat.land x.b x.c)
  { a := (t1 + s0 + maj) % 2 ^ 64, b := x.a, c := x.b, d := x.c, e := (x.d + t1) % 2 ^ 64, f := x.e, g := x.f, h := x.g }

/-- One block of 1,024 bits, given as its sixteen words latest first. -/
def shaBlock (x : Sha) (ws : List Nat) : Sha :=
  let ws := (List.range 64).foldl (fun ws _ => shaWord ws :: ws) ws
  let y := ((shaK0 ++ shaK1).zip ws.reverse).foldl (fun y kw => shaRound y (kw.1 + kw.2)) x
  { a := (x.a + y.a) % 2 ^ 64, b := (x.b + y.b) % 2 ^ 64, c := (x.c + y.c) % 2 ^ 64, d := (x.d + y.d) % 2 ^ 64,
    e := (x.e + y.e) % 2 ^ 64, f := (x.f + y.f) % 2 ^ 64, g := (x.g + y.g) % 2 ^ 64, h := (x.h + y.h) % 2 ^ 64 }

/-- A message with its padding: a 1 bit, zeros and the length in 128 bits (FIPS 180-4 5.1.2). -/
def shaPad (bs : List Byte) : List Byte :=
  bs ++ 0x80 :: List.replicate ((239 - bs.length % 128) % 128) 0 ++ beBytes 16 (8 * bs.length)

/-- The words of a block, latest first. -/
def shaWords (bs : List Byte) : List Nat := (List.range 16).foldl (fun ws i => beAt bs (8 * i) 8 :: ws) []

/-- The blocks of 128 bytes in a message that has so many. -/
def shaFold : Nat → Sha → List Byte → Sha
  | 0, x, _ => x
  | n + 1, x, bs => shaFold n (shaBlock x (shaWords (bs.take 128))) (bs.drop 128)

/-- The SHA-384 of bytes. -/
def sha384 (bs : List Byte) : Nat :=
  let p := shaPad bs
  let w (i : Nat) : Nat := shaH.getD i 0
  let x := shaFold (p.length / 128) { a := w 0, b := w 1, c := w 2, d := w 3, e := w 4, f := w 5, g := w 6, h := w 7 } p
  [x.a, x.b, x.c, x.d, x.e, x.f].foldl (fun v y => v * 2 ^ 64 + y) 0

/-- HMAC with SHA-384 under a secret of 32 bytes (FIPS 198-1). -/
def hmac384 (key : Nat) (bs : List Byte) : Nat :=
  let k := (beBytes 32 key ++ List.replicate 96 (0 : Byte)).map BitVec.toNat
  let pad (v : Nat) : List Byte := k.map fun b => BitVec.ofNat 8 (Nat.xor b v)
  sha384 (pad 0x5c ++ beBytes 48 (sha384 (pad 0x36 ++ bs)))

/-! ### ECDSA P-384 (FIPS 186-5) -/

/-- The field's prime, the order of the base point, the curve's b and the base point. -/
def p384P : Nat := 2 ^ 384 - 2 ^ 128 - 2 ^ 96 + 2 ^ 32 - 1
def p384N : Nat := 0xffffffffffffffffffffffffffffffffffffffffffffffffc7634d81f4372ddf581a0db248b0a77aecec196accc52973
def p384B : Nat := 0xb3312fa7e23ee7e4988e056be3f82d19181d9c6efe8141120314088f5013875ac656398d8a2ed19d2a85c8edd3ec2aef
def p384X : Nat := 0xaa87ca22be8b05378eb1c71ef320ad746e1d3b628ba79b9859f741e082542a385502f25dbf55296c3a545e3872760ab7
def p384Y : Nat := 0x3617de4a96262c6f5d9e98bf9292dc29f8f41dbd289a147ce9da3113b5f0b8c00a60b1ce1d7e819d7a431d7c90ea0e5f

/-- A power of a number modulo m, by the exponent's 384 bits. -/
def powMod (m x e : Nat) : Nat :=
  (List.range 384).foldl (fun r i => let r := r * r % m; if e.testBit (383 - i) then r * x % m else r) (1 % m)

/-- The inverse modulo a prime. -/
def invMod (m x : Nat) : Nat := powMod m x (m - 2)

/-- The difference modulo the field's prime. -/
def fsub (a b : Nat) : Nat := (a + (p384P - b % p384P)) % p384P

/-- A point in Jacobian coordinates; z = 0 is the point at infinity. -/
structure EcPoint where
  x : Nat
  y : Nat
  z : Nat
  deriving DecidableEq, Repr

/-- Twice a point. -/
def EcPoint.dbl (a : EcPoint) : EcPoint :=
  let yy := a.y * a.y % p384P
  let s := 4 * a.x * yy % p384P
  let zz := a.z * a.z % p384P
  let m := fsub (3 * a.x * a.x % p384P) (3 * zz * zz % p384P)
  let x := fsub (m * m) (2 * s)
  { x, y := fsub (m * fsub s x) (8 * yy * yy), z := 2 * a.y * a.z % p384P }

/-- The sum of two points. -/
def EcPoint.add (a b : EcPoint) : EcPoint :=
  if a.z = 0 then b
  else if b.z = 0 then a
  else
    let z1 := a.z * a.z % p384P
    let z2 := b.z * b.z % p384P
    let u1 := a.x * z2 % p384P
    let u2 := b.x * z1 % p384P
    let s1 := a.y * z2 * b.z % p384P
    let s2 := b.y * z1 * a.z % p384P
    if u1 = u2 then (if s1 = s2 then a.dbl else { x := 1, y := 1, z := 0 })
    else
      let h := fsub u2 u1
      let r := fsub s2 s1
      let hh := h * h % p384P
      let hhh := hh * h % p384P
      let x := fsub (r * r) (hhh + 2 * u1 * hh)
      { x, y := fsub (r * fsub (u1 * hh) x) (s1 * hhh), z := a.z * b.z % p384P * h % p384P }

/-- A multiple of a point, by the factor's 384 bits. -/
def EcPoint.mul (k : Nat) (a : EcPoint) : EcPoint :=
  (List.range 384).foldl (fun r i => let r := r.dbl; if k.testBit (383 - i) then r.add a else r) { x := 1, y := 1, z := 0 }

/-- The affine x of a point. -/
def EcPoint.affX (a : EcPoint) : Nat :=
  let i := invMod p384P a.z
  a.x * i % p384P * i % p384P

/-- The base point. -/
def ecBase : EcPoint := { x := p384X, y := p384Y, z := 1 }

/-- Whether coordinates name a point of the curve. -/
def onCurve (x y : Nat) : Bool :=
  decide (x < p384P) && decide (y < p384P) && decide (y * y % p384P = fsub (x * x * x + p384B) (3 * x))

/-- Whether a signature, r then s, of a hash verifies under a public key, x then y (FIPS 186-5 6.4.2). -/
def ecdsaOk (pub : List Byte) (hash : Nat) (sig : List Byte) : Bool :=
  let x := beAt pub 0 48
  let y := beAt pub 48 48
  let r := beAt sig 0 48
  let t := beAt sig 48 48
  if !onCurve x y || decide (r = 0) || decide (p384N ≤ r) || decide (t = 0) || decide (p384N ≤ t) then false
  else
    let w := invMod p384N t
    let q := (ecBase.mul (hash * w % p384N)).add ({ x, y, z := 1 : EcPoint }.mul (r * w % p384N))
    decide (q.z ≠ 0) && decide (q.affX % p384N = r)

/-- A signature of a hash by a private key with a random number: r then s (FIPS 186-5 6.4.1). -/
def ecdsaSign (d hash k : Nat) : Nat :=
  let k := 1 + k % (p384N - 1)
  let r := (ecBase.mul k).affX % p384N
  r * 2 ^ 384 + invMod p384N k * ((hash + r * d) % p384N) % p384N

/-- A signature of a hash by the identity key (R358): the random number is the Mint's. -/
def idSign (hash k : Nat) : Nat := ecdsaSign Config.identityKey hash k

end Sys2Proof.Machine
end

