-- ==== Sys2Proof/Machine/Till.lean ====
section
/-! DEFINITION. The burst map (R299 to R302), the Tills (R303 to R307), panic (R308), status reports (R309, R310), and the
arrival of packets at the traffic manager (R279 to R283). -/

namespace Sys2Proof.Machine

/-! ### The burst map (R300) -/

/-- A valid slot of a burst-map entry. -/
structure MapSlot where
  j : Nat
  radio : Bool
  prio : Nat
  weight : Nat
  queue : Nat
  deriving DecidableEq, Repr

/-- Word w of a burst-map entry. -/
def mapWord (e w : Nat) : Nat := e / 2 ^ (32 * w) % 2 ^ 32

/-- The valid slots of an entry. -/
def mapSlots (e : Nat) : List MapSlot :=
  (List.range 8).filterMap fun j =>
    let w := mapWord e (j + 1)
    if bits w 31 31 = 1 then
      some { j, radio := bits w 30 30 = 1, prio := bits w 29 27, weight := max 1 (bits w 25 16), queue := bits w 11 0 }
    else none

/-- The valid slots of an allocation index on a channel's active page. -/
def State.slotsOf (s : State) (c a : Nat) : List MapSlot := mapSlots (SMap.get (fun _ => 0) (s.bcs c).active a)

/-- The allocation index and slot that bind a queue on a channel. -/
def State.boundOn (s : State) (c q : Nat) : Option (Nat × MapSlot) :=
  (s.bcs c).active.findSome? fun e => ((mapSlots e.2).find? fun x => decide (x.queue = q)).map fun x => (e.1, x)

/-- The first fault of a page: its index, its slot and the cause, 0 range and 1 duplicate (R301). -/
def pageFault (page : SMap Nat) : Option (Nat × Nat × Nat) :=
  let all := page.flatMap fun e => (mapSlots e.2).map fun x => (e.1, x.j, x.queue)
  let rec go : List (Nat × Nat × Nat) → List Nat → Option (Nat × Nat × Nat)
    | [], _ => none
    | (a, j, q) :: t, seen =>
      if !isUpQ q then some (a, j, 0) else if seen.contains q then some (a, j, 1) else go t (q :: seen)
  go all []

/-- The burst map is refused: the active page stays (R301). -/
def State.mapRefused (s : State) (c : Nat) (f : Nat × Nat × Nat) : State :=
  let s := (s.setF (bcB c) F.BC_MAP_CTRL.REFUSED 1).setF (bcB c) F.BC_MAP_CTRL.PENDING 0
  s.raise (Ev.BC_MAP_REFUSED + c) (0x0A + c) noInst [(1, f.1), (1, f.2.1), (1, f.2.2)]

/-- A write of BC_MAP_CTRL: COMMIT checks the standby page (R301). -/
def State.wrMapCtrl (s : State) (c v : Nat) : State :=
  if F.BC_MAP_CTRL.COMMIT.of v = 0 then s
  else
    match pageFault (s.bcs c).standby with
    | some f => s.mapRefused c f
    | none => (s.setF (bcB c) F.BC_MAP_CTRL.REFUSED 0).setF (bcB c) F.BC_MAP_CTRL.PENDING 1

/-- BC_MAP_COMMIT (R301). -/
def execBcMapCommit (m : Master) (c : PonCh) (s : State) : Host.Outcome State Fault Refusal :=
  .next (s.onWrite m (bcB c.val) fun s => s.wrMapCtrl c.val (2 ^ 31))

/-- BC_MAP_HANDOVER (R299, R301): at a T_ref with a hand-over awaited, the standby page is checked again and copied into
the active page; the standby page keeps its content. -/
def execBcMapHandover (c : PonCh) (s : State) : Host.Outcome State Fault Refusal :=
  .next <| s.onLive (0x0A + c.val) fun s =>
    let b := bcB c.val
    if !s.bit b F.BC_MAP_CTRL.PENDING then s
    else
      match pageFault (s.bcs c.val).standby with
      | some f => s.mapRefused c.val f
      | none =>
        let x := s.bcs c.val
        let s := s.setBcs c.val { x with active := x.standby }
        let gen := (s.fld b F.BC_MAP_CTRL.GEN + 1) % 256
        let s := ((s.setF b F.BC_MAP_CTRL.PENDING 0).setF b F.BC_MAP_CTRL.ACTIVE 1).setF b F.BC_MAP_CTRL.GEN gen
        (s.count (b + Ctr.BC.MAP_SWITCH)).raise (Ev.BC_MAP_SWITCH + c.val) (0x0A + c.val) noInst [(1, gen)]

/-- A write of BC_MAP_CMD (R314). -/
def State.wrMapCmd (s : State) (c v : Nat) : State :=
  let b := bcB c
  if s.bit b F.BC_MAP_CMD.BUSY then s
  else
    let op := F.BC_MAP_CMD.OP.of v
    let i := F.BC_MAP_CMD.INDEX.of v
    let s := (s.setF b F.BC_MAP_CMD.OP op).setF b F.BC_MAP_CMD.INDEX i
    if op = 3 then s
    else
      let s := s.setF b F.BC_MAP_CMD.BUSY 1
      let x := s.bcs c
      if op = 1 then
        s.setBcs c { x with standby := SMap.set (fun _ => 0) x.standby i (wordsNat (s.regWords (b + 0x10) 9)) }
      else
        s.setRegs (b + 0x10) (natWords 9 (SMap.get (fun _ => 0) (if op = 0 then x.standby else x.active) i))

/-- BC_MAP_READ_STANDBY (R314): OP 00 reads a standby entry. -/
def execBcMapReadStandby (m : Master) (c : PonCh) (i : BitVec 7) (s : State) : Host.Outcome State Fault Refusal :=
  .next (s.onWrite m (bcB c.val + 4) fun s => s.wrMapCmd c.val i.toNat)

/-- BC_MAP_WRITE_STANDBY (R314): OP 01 writes a standby entry. -/
def execBcMapWriteStandby (m : Master) (c : PonCh) (i : BitVec 7) (s : State) : Host.Outcome State Fault Refusal :=
  .next (s.onWrite m (bcB c.val + 4) fun s => s.wrMapCmd c.val (2 ^ 16 + i.toNat))

/-- BC_MAP_READ_ACTIVE (R314): OP 10 reads an active entry. -/
def execBcMapReadActive (m : Master) (c : PonCh) (i : BitVec 7) (s : State) : Host.Outcome State Fault Refusal :=
  .next (s.onWrite m (bcB c.val + 4) fun s => s.wrMapCmd c.val (2 ^ 17 + i.toNat))

/-- BC_MAP_CMD_DONE (R314): the operation completes and BUSY clears. -/
def execBcMapCmdDone (c : PonCh) (s : State) : Host.Outcome State Fault Refusal :=
  .next (s.onLive (0x0A + c.val) fun s => s.setF (bcB c.val) F.BC_MAP_CMD.BUSY 0)

/-! ### SDUs in a Till (R303) -/

/-- A length padded to a multiple of 4. -/
def pad4 (n : Nat) : Nat := (n + 3) / 4 * 4

/-- The length of the XGEM frame of `n` payload bytes: header, payload and padding (R126). -/
def xgemLen (n : Nat) : Nat := 8 + pad4 n

/-- The SDUs of an allocation index in an area. -/
def sdusOf (m : SMap (List TillSdu)) (a : Nat) : List TillSdu := SMap.get (fun _ => []) m a

/-- Replace the SDUs of an allocation index in an area. -/
def setSdus (m : SMap (List TillSdu)) (a : Nat) (l : List TillSdu) : SMap (List TillSdu) := SMap.set (fun _ => []) m a l

/-- The cells an area's SDUs occupy. -/
def cellsOf (m : SMap (List TillSdu)) : Nat := ((m.flatMap (·.2)).map (·.cells)).sum

/-- Show the areas' cells in BC_TILL_STAT (R314). -/
def State.showTill (s : State) (c : Nat) : State :=
  let s := s.setF (bcB c) F.BC_TILL_STAT.STAGE_USED (cellsOf (s.bcs c).staged)
  s.setF (bcB c) F.BC_TILL_STAT.RADIO_USED (cellsOf (s.bcs c).radio)

/-- The service flow of an upstream SDU: of its DEST when that names one, else of its Wallet. -/
def Packet.upSf (p : Packet) : Nat := if p.w W.DEST / 2 ^ 14 = 2 then p.w W.DEST % 4096 else p.w W.SF

/-- Whether an SDU must wait for an upstream key index (R122). -/
def State.keyBlocked (s : State) (c : Nat) (p : Packet) : Bool :=
  decide (bits (s.sfCtx p.upSf) 3 3 = 1) && decide ((s.pn c).usKey = 0)

/-- Whether a channel may take an SDU from its queue (R122, R302). -/
def State.mayTake (s : State) (c q : Nat) (p : Packet) : Bool :=
  let both := (s.boundOn 0 q).isSome && (s.boundOn 1 q).isSome
  let home := bits (s.sfCtx p.upSf) 2 2
  let here := !both || s.striped p.upSf || (if s.stripeEx home then decide (c ≠ home) else decide (c = home))
  here && !s.keyBlocked c p

/-- The Options of an SDU now staged: a striped flow's next number (R142, R145); a mirror copy takes none (R147, R250). -/
def State.number (s : State) (p : Packet) : State × Nat :=
  let sf := p.upSf
  if s.striped sf && !p.copy then
    let t := SMap.get (fun _ => 0) s.tmg.txSeq sf
    let put (n : Nat) : State := { s with tmg := { s.tmg with txSeq := SMap.set (fun _ => 0) s.tmg.txSeq sf (n + 1) } }
    if t = 0 then (put 1, 2 ^ 17 + 2 ^ 16) else (put (t % 65536), 2 ^ 17 + (t - 1) % 65536)
  else (s, 0)

/-- The Till is full in an area: 0 staging, 1 radio (R304). -/
def State.tillFull (s : State) (c area : Nat) : State :=
  s.raiseMs area (Ev.BC_TILL_FULL + c) (0x0A + c) noInst [(1, area)]

/-- Take the head SDU of a queue into a channel's Till for allocation index a; it is numbered, and its cells are free. -/
def State.intoTill (s : State) (c a q : Nat) (radio : Bool) : State :=
  match s.takeHead q with
  | (s, none) => s
  | (s, some p) =>
    let s := (s.dequeued q p).unref p
    let (s, opts) := s.number p
    let (s, n) := s.newN c
    let x := s.bcs c
    let d : TillSdu := { n, pkt := { p with cells := 0 }, queue := q, opts, left := p.fcsLen,
                         cells := ceilDiv (xgemLen p.fcsLen) 256 }
    let s :=
      if radio then s.setBcs c { x with radio := setSdus x.radio a (sdusOf x.radio a ++ [d]) }
      else
        let s := s.setBcs c { x with staged := setSdus x.staged a (sdusOf x.staged a ++ [d]) }
        (s.count (bcB c + Ctr.BC.STAGED_SDU)).tallyAdd (0x10 + c) (16 * a + 9) (xgemLen p.fcsLen)
    s.showTill c

/-- Radio SDUs of a slot enter the radio area while they may be taken and cells are free, at most `n` of them (R305). -/
def State.radioSlot (s : State) (c a q : Nat) : Nat → State
  | 0 => s
  | n + 1 =>
    match (s.q q).chip with
    | [] => s
    | p :: _ =>
      if !s.mayTake c q p then s
      else if s.fld (bcB c) F.BC_TILL_CFG.RADIO_CELLS < cellsOf (s.bcs c).radio + ceilDiv (xgemLen p.fcsLen) 256 then
        s.tillFull c 1
      else (s.intoTill c a q true).radioSlot c a q n

/-- Every radio SDU that can enters its radio area (R305). -/
def State.radioEnter (s : State) (c : Nat) : State :=
  if s.stripeEx c || !s.accepts (0x0A + c) then s
  else
    let l := (s.bcs c).active.flatMap fun e => ((mapSlots e.2).filter (·.radio)).map fun x => (e.1, x.queue)
    l.foldl (fun s p => s.radioSlot c p.1 p.2 ((s.q p.2).chip.length)) s

/-! ### Staging (R304) -/

/-- The staged bytes of an allocation index, each SDU with its XGEM header and padding. -/
def State.stagedBytes (s : State) (c a : Nat) : Nat := ((sdusOf (s.bcs c).staged a).map fun x => xgemLen x.left).sum

/-- STAGE_AHEAD: 0 acts as 1, values above 8 as 8. -/
def State.stageAhead (s : State) (c : Nat) : Nat := min 8 (max 1 (s.fld (bcB c) F.BC_TILL_CFG.STAGE_AHEAD))

/-- Give each slot of an allocation index whose queue shows a new head its finish tag (R290: OVERHEAD 8). -/
def State.tagSlots (s : State) (c a : Nat) : State :=
  (s.slotsOf c a).foldl (fun s x =>
    match (s.q x.queue).chip with
    | [] => s
    | p :: _ =>
      let k := 8 * a + x.j
      let t := SMap.get (fun _ => (0, 0, 0)) (s.bcs c).tags k
      if t.1 = p.uid then s
      else
        let f := nextTag (s.vt (2048 + 128 * c + a)) t.2.1 (p.fcsLen + 8) x.weight
        s.setBcs c { s.bcs c with tags := SMap.set (fun _ => (0, 0, 0)) (s.bcs c).tags k (p.uid, f, x.prio) }) s

/-- The slots of an allocation index that can be staged from, as children of R289. -/
def State.stageKids (s : State) (c a : Nat) : List Child :=
  (s.slotsOf c a).filterMap fun x =>
    match (s.q x.queue).chip with
    | [] => none
    | p :: _ =>
      let e := s.qc x.queue
      if !x.radio && s.mayTake c x.queue p && s.shaperOk (qSH_EN e) (qSHAPER e) then
        let t := SMap.get (fun _ => (0, 0, 0)) (s.bcs c).tags (8 * a + x.j)
        some { ix := x.j, com := s.committed (qSH_EN e) (qSHAPER e), prio := t.2.2, f := t.2.1 }
      else none

/-- Whether an allocation index is valid, below its limit and has something to stage. -/
def State.wantsStage (s : State) (c a : Nat) : Bool :=
  (SMap.get (fun _ => none) (s.pn c).allocs a).isSome &&
    decide (s.stagedBytes c a < SMap.get (fun _ => 0) (s.bcs c).cap a * s.stageAhead c) && !(s.stageKids c a).isEmpty

/-- When the earliest pending cut-off of an allocation index falls. -/
def State.nextCut (s : State) (c a : Nat) : Option Nat :=
  let l := ((s.pn c).bursts.flatMap (·.allocs)).filter fun x => decide (x.ix = a) && x.content.isNone
  l.foldl (fun m x => match m with
    | none => some x.due
    | some d => some (min d x.due)) none

/-- The allocation index served next: those with a pending grant by their earliest cut-off, then the others round robin in
ascending index (R304). -/
def State.stageNext (s : State) (c : Nat) : Option Nat :=
  let l := (List.range 128).filter fun a => s.wantsStage c a
  let pend := l.filterMap fun a => (s.nextCut c a).map fun d => (d, a)
  match pend.foldl (fun m x => match m with
      | none => some x
      | some y => if x.1 < y.1 then some x else some y) none with
  | some x => some x.2
  | none =>
    match l.find? fun a => decide ((s.bcs c).turn ≤ a) with
    | some a => some a
    | none => l.head?

/-- Stage one SDU for an allocation index. -/
def State.stageOne (s : State) (c a : Nat) : State :=
  match bestChild (s.stageKids c a) with
  | none => s
  | some k =>
    match (s.slotsOf c a).find? fun x => decide (x.j = k.ix) with
    | none => s
    | some x =>
      let len := match (s.q x.queue).chip with
        | [] => 0
        | p :: _ => p.fcsLen
      let room := 16384 - s.fld (bcB c) F.BC_TILL_CFG.RADIO_CELLS
      if room < cellsOf (s.bcs c).staged + ceilDiv (xgemLen len) 256 then s.tillFull c 0
      else
        let e := s.qc x.queue
        let s := (s.setVt (2048 + 128 * c + a) k.f).charge (qSH_EN e) (qSHAPER e) (len + 8)
        let s := if (s.nextCut c a).isNone then s.setBcs c { s.bcs c with turn := a + 1 } else s
        s.intoTill c a x.queue false

/-- Give every slot of a channel whose queue shows a new head its finish tag. -/
def State.tagAll (s : State) (c : Nat) : State :=
  (List.range 128).foldl (fun s a => if (s.slotsOf c a).isEmpty then s else s.tagSlots c a) s

/-- Whether the traffic manager stages for a channel at all (R24, R146). -/
def State.mayStage (s : State) (c : Nat) : Bool := !s.stripeEx c && s.accepts (0x0A + c)

/-- The queue a composer asks to stage from next. -/
def State.stageQueue (s : State) (c : Nat) : Option Nat :=
  match s.stageNext c with
  | none => none
  | some a => match bestChild (s.stageKids c a) with
    | none => none
    | some k => ((s.slotsOf c a).find? fun x => decide (x.j = k.ix)).map (·.queue)

/-- A composer stages one SDU, for the allocation index that is next. -/
def State.stageFor (s : State) (c : Nat) : State :=
  match s.stageNext c with
  | none => s
  | some a => s.stageOne c a

/-- Whether both composers ask for staging from one queue in this clock (R145). -/
def State.stageClash (s : State) : Bool :=
  s.mayStage 0 && s.mayStage 1 && (s.stageQueue 0).isSome && decide (s.stageQueue 0 = s.stageQueue 1)

/-- Serve a composer; one that asks for the queue the other asks for too leaves the next turn to the other (R145). -/
def State.stageTurns (s : State) (c : Fin 2) : State :=
  if s.stageClash then
    let s := if s.tmg.stageTurn = c then s else s.stageFor (1 - c).val
    ({ s with tmg := { s.tmg with stageTurn := 1 - c } }).stageFor c.val
  else s.stageFor c.val

/-- TILL_STAGE (R145, R146, R302, R304, R305): waiting radio SDUs enter the radio area, and the composer stages one SDU, after
the other composer where that has the turn at their common queue; with STRIPE_EX it stages nothing. -/
def execTillStage (c : PonCh) (s : State) : Host.Outcome State Fault Refusal :=
  .next <| if s.mayStage c.val then (((s.radioEnter c.val).tagAll 0).tagAll 1).stageTurns c else s

/-! ### Cut-offs (R306, R307) -/

/-- The payload bytes an allocation's remaining space takes of an SDU with `left` bytes to go (R129, R306). -/
def takeLen (space left : Nat) : Nat :=
  if space < 9 then 0 else if xgemLen left ≤ space then left else (space - 8) / 4 * 4

/-- The space left after a frame of `n` payload bytes. -/
def spaceAfter (space n : Nat) : Nat := if n = 0 then space else space - xgemLen n

/-- Fill a space with SDUs in order: each with the bytes it gives, and the space left. -/
def fillSdus (space : Nat) : List TillSdu → List (TillSdu × Nat) × Nat
  | [] => ([], space)
  | x :: t =>
    let n := takeLen space x.left
    let (r, sp) := fillSdus (spaceAfter space n) t
    ((x, n) :: r, sp)

/-- Fill a space with OMCC SDUs in order. -/
def fillOmcc (space : Nat) : List OmccSdu → List (OmccSdu × Nat) × Nat
  | [] => ([], space)
  | x :: t =>
    let n := takeLen space x.data.length
    let (r, sp) := fillOmcc (spaceAfter space n) t
    ((x, n) :: r, sp)

/-- The radio SDUs of an allocation in the order they ride: PRIO first, then slot order, then arrival order (R306). -/
def State.radioOrder (s : State) (c a : Nat) : List TillSdu :=
  let l := sdusOf (s.bcs c).radio a
  let slots := s.slotsOf c a
  let byPrio := (List.range 8).flatMap fun p =>
    (slots.filter fun x => decide (x.prio = 7 - p)).flatMap fun x => l.filter fun d => decide (d.queue = x.queue)
  byPrio ++ l.filter fun d => !slots.any fun x => decide (x.queue = d.queue)

/-- The bytes of an SDU with its FCS. -/
def TillSdu.bytes (x : TillSdu) : List Byte := x.pkt.bytes ++ leBytes 4 (crc32 x.pkt.bytes)

/-- The XGEM frame that carries `n` bytes of an SDU: its flow's Port-ID on the channel, its Options, and its payload
encrypted with the established key index when the flow is (R122, R142, R144, R302). Under index 11, which names no slot, and
under an empty slot the spec gives no payload: it is a free value (log 151). -/
def State.sduFrame (s : State) (c : Nat) (radio : Bool) (x : TillSdu) (n : Nat) : State × XgemTx :=
  let ctx := s.sfCtx x.pkt.upSf
  let data := (x.bytes.drop (x.bytes.length - x.left)).take n
  let pid := if c = 0 then bits ctx 39 24 else bits ctx 55 40
  let key := if bits ctx 3 3 = 1 then (s.pn c).usKey else 0
  let f : XgemTx := { pid, key, opts := x.opts, lf := decide (n = x.left), data, radio, omcc := false }
  if key = 0 then (s, f)
  else
    let slot := s.pf c (if key = 1 then F.PN_KEY_UC.UC1 else F.PN_KEY_UC.UC2)
    let (s, r) := s.takeFree
    match (if key = 3 then none else s.slot slot) with
    | none =>
      let s := if key = 3 then s else s.count (vltB + Ctr.VLT.KEY_ABSENT)
      (s, { f with data := leBytes data.length r })
    | some k => (s.pmc 0x0A0 (1 + c) (ceilDiv data.length 16), { f with data := ponCipher k.key r data })

/-- The XGEM frames of a filled list. -/
def State.sduFrames (s : State) (c : Nat) (radio : Bool) (l : List (TillSdu × Nat)) : State × List XgemTx :=
  l.foldl (fun a p =>
    if p.2 = 0 then a
    else
      let (s, f) := a.1.sduFrame c radio p.1 p.2
      (s, a.2 ++ [f])) (s, [])

/-- What stays of a list after a fill. -/
def keepSdus (l : List (TillSdu × Nat)) : List TillSdu :=
  (l.filter fun p => decide (p.2 ≠ p.1.left)).map fun p => { p.1 with left := p.1.left - p.2 }

/-- What stays of the OMCC SDUs after a fill. -/
def keepOmcc (l : List (OmccSdu × Nat)) : List OmccSdu :=
  (l.filter fun p => decide (p.2 ≠ p.1.data.length)).map fun p => { p.1 with data := p.1.data.drop p.2 }

/-- The bytes of a queue on chip, in DRAM and in the Tills (R309). -/
def State.queueBytes (s : State) (q : Nat) : Nat :=
  let x := s.q q
  let till (c : Nat) : Nat :=
    ((((s.bcs c).staged.flatMap (·.2) ++ (s.bcs c).radio.flatMap (·.2)).filter fun d => decide (d.queue = q)).map (·.left)).sum
  (x.chip.map (·.fcsLen)).sum + (x.deep.map fun d => d.pkt.fcsLen).sum + till 0 + till 1

/-- FC_EN of an allocation index (R300). -/
def State.fcOn (s : State) (c a : Nat) : Bool := decide (bits (SMap.get (fun _ => 0) (s.bcs c).active a) 31 31 = 1)

/-- BufOcc of an allocation's DBRu (R309, R310). With FC_EN = 0 the unit is that of the recommendation: 4-byte words. -/
def State.bufOcc (s : State) (c a : Nat) : Nat :=
  let slots := s.slotsOf c a
  let occ := (slots.map fun x => s.queueBytes x.queue).sum
  let h := mapWord (SMap.get (fun _ => 0) (s.bcs c).active a) 0
  if s.fcOn c a then
    let u := 2 ^ (6 + bits h 30 28)
    let win := min 1000 (max 1 (bits h 25 16))
    let radio := (slots.filter (·.radio)).map (·.queue)
    let near := s.tmg.arrivals.filter fun t => decide (s.now < t.1 + win * usTicks) && radio.contains t.2.1
    3 * 2 ^ 22 + min 16383 (ceilDiv occ u) * 2 ^ 8 + min 255 (ceilDiv ((near.map (·.2.2)).sum) u)
  else min 0xFFFFFF (ceilDiv occ 4)

/-- Whether a bound queue of an allocation shows an SDU that waits for a key index (R122). -/
def State.keyWaiting (s : State) (c a : Nat) : Bool :=
  (s.slotsOf c a).any fun x => match (s.q x.queue).chip with
    | [] => false
    | p :: _ => s.keyBlocked c p

/-- Whether a slot's content is still being read from DRAM: it is staged ahead, its queue shows nothing on chip, TMG reads its
segment back, and the channel may take the SDU that comes next (R287, R302, R305). -/
def State.slotReads (s : State) (c : Nat) (x : MapSlot) : Bool :=
  let q := s.q x.queue
  !x.radio && q.chip.isEmpty && decide (q.cells < qSPILL (s.qc x.queue)) && (match q.deep with
    | [] => false
    | d :: _ => s.mayTake c x.queue d.pkt)

/-- The bytes still being read from DRAM for an allocation's slots; nothing is staged while the channel may not stage. -/
def State.deepLeft (s : State) (c a : Nat) : Nat :=
  if !s.mayStage c then 0
  else (((s.slotsOf c a).filter (s.slotReads c)).map fun x => ((s.q x.queue).deep.map fun d => xgemLen d.pkt.fcsLen).sum).sum

/-- An allocation goes out short of content still being read from DRAM (R307). -/
def State.tillShort (s : State) (c : Nat) (a : Alloc) (idle : Nat) : State :=
  let d := if a.ix < 128 then s.deepLeft c a.ix else 0
  if idle < 9 ∨ d = 0 then s
  else
    let s := (s.count (bcB c + Ctr.BC.TILL_SHORT)).tallyAdd (0x10 + c) (16 * a.ix + 11)
    s.raiseMs 0 (Ev.BC_TILL_SHORT + c) (0x0A + c) noInst [(2, a.allocId), (3, min idle d)]

/-- Fix an allocation's content at its cut-off (R306): its overhead, the OMCC SDUs of the default allocation (R120), radio
SDUs, staged SDUs and idle fill; and its DBRu. -/
def State.composeData (s : State) (c : Nat) (a : Alloc) (first last : Bool) : State × Content :=
  let used := (if first then 4 + (if a.ploamu then 48 else 0) else 0) + (if a.dbru then 4 else 0) + (if last then 4 else 0)
  let s := if a.ix < 128 ∧ s.keyWaiting c a.ix = true then s.pCount c Ctr.PN.US_KEY_WAIT else s
  let (omcc, sp) := fillOmcc (a.cap - used) (if a.ix = 0 then (s.pn c).omccUp else [])
  let (radio, sp) := fillSdus sp (if a.ix < 128 then s.radioOrder c a.ix else [])
  let (staged, sp) := fillSdus sp (if a.ix < 128 then sdusOf (s.bcs c).staged a.ix else [])
  let oPid := s.pf c F.PN_OMCC.PORT_ID
  let fo := (omcc.filter fun p => decide (p.2 ≠ 0)).map fun p =>
    { pid := oPid, key := 0, opts := 0, lf := decide (p.2 = p.1.data.length), data := p.1.data.take p.2, radio := false,
      omcc := true : XgemTx }
  let (s, fr) := s.sduFrames c true radio
  let (s, fs) := s.sduFrames c false staged
  let s := if a.ix = 0 then s.setPn c { s.pn c with omccUp := keepOmcc omcc } else s
  let x := s.bcs c
  let s := if a.ix < 128 then
      (s.setBcs c { x with radio := setSdus x.radio a.ix (keepSdus radio),
                           staged := setSdus x.staged a.ix (keepSdus staged) }).showTill c
    else s
  let s := s.tillShort c a sp
  let dbru := if a.dbru then some (if a.ix < 128 then s.bufOcc c a.ix else 0) else none
  let fc := a.dbru && decide (a.ix < 128) && s.fcOn c a.ix
  (s.radioEnter c,
    { frames := fo ++ fr ++ fs, dbru, fc, idle := sp, unbound := decide (128 ≤ a.ix) || (s.slotsOf c a.ix).isEmpty,
      undoOmcc := (omcc.filter fun p => decide (p.2 ≠ 0)).map (·.1),
      undoRadio := (radio.filter fun p => decide (p.2 ≠ 0)).map (·.1),
      undoStaged := (staged.filter fun p => decide (p.2 ≠ 0)).map (·.1) })

/-- Fix an allocation's content: a burst of use 0 or 1 carries its Serial_Number_ONU or ranging response and is idle beside it
(R107). -/
def State.compose (s : State) (c : Nat) (use : Nat) (a : Alloc) (first last : Bool) : State × Content :=
  if use = 2 then s.composeData c a first last
  else
    let used := (if first then 4 + (if a.ploamu then 48 else 0) else 0) + (if a.dbru then 4 else 0) + (if last then 4 else 0)
    (s, { frames := [], dbru := if a.dbru then some (if a.ix < 128 then s.bufOcc c a.ix else 0) else none,
          fc := a.dbru && decide (a.ix < 128) && s.fcOn c a.ix, idle := a.cap - used,
          unbound := decide (128 ≤ a.ix) || (s.slotsOf c a.ix).isEmpty, undoOmcc := [], undoRadio := [], undoStaged := [] })

/-- A cancelled allocation's content returns to the Till as it stood before the cut-off (R306). -/
def State.restore (s : State) (c : Nat) (a : Alloc) : State :=
  match a.content with
  | none => s
  | some k =>
    let back (l u : List TillSdu) : List TillSdu := u ++ l.filter fun x => !u.any fun y => decide (y.n = x.n)
    let x := s.bcs c
    let s := if a.ix < 128 then
        (s.setBcs c { x with radio := setSdus x.radio a.ix (back (sdusOf x.radio a.ix) k.undoRadio),
                             staged := setSdus x.staged a.ix (back (sdusOf x.staged a.ix) k.undoStaged) }).showTill c
      else s
    let p := s.pn c
    s.setPn c { p with omccUp := k.undoOmcc ++ p.omccUp.filter fun x => !k.undoOmcc.any fun y => decide (y.n = x.n) }

/-- The Till's SDUs. -/
def State.tillSdus (s : State) (c : Nat) : List TillSdu := (s.bcs c).staged.flatMap (·.2) ++ (s.bcs c).radio.flatMap (·.2)

/-- The Till's content is discarded and counted (R155). -/
def State.flushTill (s : State) (c : Nat) : State :=
  let n := (s.tillSdus c).length
  let s := s.setBcs c { s.bcs c with staged := [], radio := [] }
  (s.pCount c Ctr.PN.SVC_FLUSH n).showTill c

/-! ### Panic (R308) -/

/-- Whether both conditions of R308 hold. -/
def State.panicHolds (s : State) (c : Nat) : Bool :=
  let lead := max 1 (s.fld (bcB c) F.BC_TILL_CFG.PANIC_LEAD) * 1000 * nsUnits
  (s.pn c).bursts.any fun b =>
    let open_ := b.allocs.filter fun a => a.content.isNone && decide (a.ix < 128)
    let have_ := (open_.map fun a =>
      s.stagedBytes c a.ix + ((sdusOf (s.bcs c).radio a.ix).map fun x => xgemLen x.left).sum).sum
    decide (b.hdr ≤ s.units + lead) && decide (have_ < (open_.map (·.cap)).sum) &&
      open_.any fun a => (s.slotsOf c a.ix).any fun x =>
        !(s.q x.queue).deep.isEmpty && decide ((s.q x.queue).cells < qSPILL (s.qc x.queue))

/-- BC_PANIC_CHANGE (R308): the composer asserts or clears panic as its two conditions stand. -/
def execBcPanicChange (c : PonCh) (s : State) : Host.Outcome State Fault Refusal :=
  .next <| s.onLive (0x0A + c.val) fun s =>
    let b := bcB c.val
    if s.panicHolds c.val then
      if s.bit b F.BC_TILL_STAT.PANIC then s
      else
        let s := ((s.setF b F.BC_TILL_STAT.PANIC 1).spreadPanic).count (b + Ctr.BC.PANIC)
        s.raiseMs 0 (Ev.BC_PANIC + c.val) (0x0A + c.val) noInst [(2, s.fld b F.BC_TILL_STAT.STAGE_USED)]
    else s.setF b F.BC_TILL_STAT.PANIC 0

end Sys2Proof.Machine
end

