-- ==== Sys2Proof/Machine/Burst.lean ====
section
/-! DEFINITION. Upstream bursts: the transmitter's inhibits (R107, R109), the PLOAM queue (R119), serial-number and
Registration answers (R112, R113, R370), burst-map entries of a BWmap (R124, R125), timing and capacity (R114 to R117, R127
to R129), launch, end and laser control (R126, R130 to R134). -/

namespace Sys2Proof.Machine

/-! ### The upstream PLOAM queue (R119) -/

/-- Queue an upstream PLOAM message: with 16 queued, a hardware message takes the place of the oldest other message, and any
other is discarded. -/
def State.queuePloam (s : State) (c : Nat) (x : PloamItem) : State :=
  let p := s.pn c
  if p.ploamQ.length < 16 then s.setPn c { p with ploamQ := p.ploamQ ++ [x] }
  else
    let s := s.pCount c Ctr.PN.PLOAM_Q_FULL
    match p.ploamQ.find? fun y => !y.hw with
    | none => s
    | some y =>
      if x.hw then s.setPn c { s.pn c with ploamQ := (s.pn c).ploamQ.erase y ++ [x] } else s

/-- Queue a hardware message. -/
def State.hwPloam (s : State) (c : Nat) (m : PloamUp) : State := s.queuePloam c { hw := true, msg := m, keyNo := 0 }

/-- The message that leaves next: hardware's first, each class in the order queued. -/
def nextPloam (q : List PloamItem) : Option PloamItem :=
  match q.find? (·.hw) with
  | some x => some x
  | none => q.head?

/-- PN_PLOAM_REJECT (R140): cause 0 MIC, 1 unsupported, 2 parameter, 3 REG_ID_EMPTY, and the message type. -/
def State.ploamReject (s : State) (c cause typ : Nat) : State :=
  s.pRaiseMs c 13 Ev.PN_PLOAM_REJECT 0 [(1, cause), (1, typ)]

/-! ### The transmitter (R107, R109) -/

/-- The inhibits in force. -/
def State.inh (s : State) (c : Nat) : Nat := s.pf c F.PN_US_STAT.INH

/-- Show whether the transmitter may run now (R107, R135). -/
def State.showTxOn (s : State) (c : Nat) : State :=
  let a := s.act c
  s.setPf c F.PN_US_STAT.TX_ON (b2n (decide (3 ≤ a) && decide (a ≤ 5) && decide (s.inh c = 0) &&
    decide (s.pf c F.PN_US_STAT.PS ≠ 3)))

/-- Whether the engine's state and INH let a burst of a use be sent: 0 serial number, 1 ranging, 2 data (R107). -/
def State.maySend (s : State) (c use : Nat) : Bool := decide (s.act c = 3 + use) && decide (s.inh c = 0)

/-- Whether they let an entry be answered: in O2-3 and O4 the transmitter sends Serial_Number_ONU and ranging responses only,
so the entry has to ask for a PLOAMu and to begin its burst (R107, R124 row 4). -/
def State.mayAnswer (s : State) (c use : Nat) (ploamu cont : Bool) : Bool :=
  s.maySend c use && (decide (use = 2) || (ploamu && !cont))

/-! ### Burst enable (R130, R131, R138) -/

/-- An edge of BEN at an instant in units; PN_BEN_CFG.POL gives the ball's level. -/
def State.benEdge (s : State) (c : Nat) (on : Bool) (t : Nat) : State :=
  s.emit (.ben c (on != s.bit (pnB c) F.PN_BEN_CFG.POL) t)

/-- BEN asserts at an instant, unless it has stayed asserted. -/
def State.benRise (s : State) (c t : Nat) : State :=
  let p := s.pn c
  match p.benFrom, p.benTill with
  | some _, none => s
  | _, _ => (s.setPn c { p with benFrom := some t, benTill := none }).benEdge c true t

/-- BEN deasserts at an instant, where it is asserted. -/
def State.benFall (s : State) (c t : Nat) : State :=
  let p := s.pn c
  match p.benFrom, p.benTill with
  | some _, none => (s.setPn c { p with benTill := some t }).benEdge c false t
  | _, _ => s

/-- A BEN held over a gap goes to its disabled level when the transmitter may not run and no burst is on the air (R131). -/
def State.benRest (s : State) (c : Nat) : State :=
  if s.pf c F.PN_US_STAT.TX_ON = 0 ∧ ((s.pn c).bursts.any (·.started)) = false then s.benFall c s.units else s

/-- Show whether the transmitter may run now, and hold BEN at its disabled level while it may not (R107, R131, R135). -/
def State.showTx (s : State) (c : Nat) : State := (s.showTxOn c).benRest c

/-- Count an allocation of the device that is not sent, in the channel and in its Tally counter (R125). -/
def State.grantMiss (s : State) (c off ix k : Nat) : State :=
  let s := s.pCount c off
  if ix < 128 then s.tallyAdd (0x10 + c) (16 * ix + k) else s

/-- A scheduled burst is not sent: its allocations count in a counter and its Tally number, its content and its PLOAM message
return (R125, R306). -/
def State.dropBurst (s : State) (c : Nat) (b : Burst) (off k : Nat) : State :=
  let s := b.allocs.reverse.foldl (fun s a => (s.grantMiss c off a.ix k).restore c a) s
  let p := s.pn c
  let p := match b.ploam with
    | some x => if b.queued then { p with ploamQ := x :: p.ploamQ } else p
    | none => p
  s.setPn c { p with bursts := p.bursts.filter (fun x => decide (x ≠ b)), snLast := if b.use = 0 then none else p.snLast }

/-- A scheduled burst is cancelled: its allocations count in GRANT_INHIBIT (R109, R125). -/
def State.cancelBurst (s : State) (c : Nat) (b : Burst) : State := s.dropBurst c b Ctr.PN.GRANT_INHIBIT 1

/-- A scheduled burst comes due in Watch, in which the transmitter is off (R135): it is not sent, and counts as row 5 of R124
counts an entry in Watch (log 67). -/
def State.sleepBurst (s : State) (c : Nat) (b : Burst) : State := s.dropBurst c b Ctr.PN.GRANT_ASLEEP 2

/-- Every scheduled burst whose first PSBu bit has not reached the pins is cancelled (R109). -/
def State.cancelBursts (s : State) (c : Nat) : State :=
  (((s.pn c).bursts.filter fun b => !b.started).reverse).foldl (fun s b => s.cancelBurst c b) s

/-- Change a bit of INH: 0 rogue, 1 crystal fallback, 2 Steward down, 3 TX_OFF; scheduled bursts are cancelled when INH
becomes non-zero (R109). -/
def State.setInh (s : State) (c k : Nat) (v : Bool) : State :=
  let old := s.inh c
  let s := s.setPf c ⟨F.PN_US_STAT.INH.off, 12 + k, 12 + k⟩ (b2n v)
  let s := if old = 0 ∧ s.inh c ≠ 0 then s.cancelBursts c else s
  s.showTx c

/-- Change TX_OFF, which is INH bit 3 (R107, R138). -/
def State.setTxOff (s : State) (c : Nat) (v : Bool) : State := (s.setPf c F.PN_ACT_CTRL.TX_OFF (b2n v)).setInh c 3 v

/-! ### Serial number and Registration (R112, R113, R370) -/

/-- The serial number's 8 bytes. -/
def State.serial (s : State) (c : Nat) : List Byte :=
  beBytes 4 (s.pf c F.PN_SN_HI.VENDOR) ++ beBytes 4 (s.pf c F.PN_SN_LO.SPECIFIC)

/-- The registration ID's 36 bytes. -/
def State.regId (s : State) (c : Nat) : List Byte :=
  (s.regWords (pnB c + 0x120) 9).flatMap fun w => beBytes 4 w.toNat

/-- The Registration message; with every register of the ID at its reset value PN_PLOAM_REJECT is raised once for each entry
to O4 (R113). No received message stands behind that event: it carries Registration's own type, 0x02 (log 152). -/
def State.registration (s : State) (c : Nat) : State × PloamUp :=
  let id := s.regId c
  let s := if leNat id = 0 ∧ (s.pn c).regWarned = false then
      (s.setPn c { s.pn c with regWarned := true }).ploamReject c 3 0x02
    else s
  (s, .registration id)

/-- The key exchange writes a key into a slot (R110, R370). -/
def State.ponKey (s : State) (c n use key src : Nat) : State :=
  let p := s.pn c
  (s.setPn c { p with filled := if p.filled.contains n then p.filled else p.filled ++ [n] }).keyWrite
    { erase := false, slot := n, typ := 1, use, key, op := 0, src }

/-- The derivation of R370, when the channel sends Registration: MSK, PLOAM_IK, OMCI_IK, which jobs may use too, and the
KEK. -/
def State.deriveKeys (s : State) (c : Nat) (id : List Byte) : State :=
  let sn := s.serial c
  let b := s.fld vltB (if c = 0 then F.VLT_PON_SLOTS.PCA_BASE else F.VLT_PON_SLOTS.PCB_BASE)
  let s := s.ponKey c (b % 1024) 1 (Config.ponDerive 0 id sn) 2
  let s := s.ponKey c ((b + 1) % 1024) 1 (Config.ponDerive 1 id sn) 2
  let s := s.ponKey c ((b + 2) % 1024) 5 (Config.ponDerive 2 id sn) 2
  s.ponKey c (s.pf c F.PN_KEY_CFG.KEK_SLOT) 1 (Config.ponDerive 3 id sn) 2

/-! ### Timing and capacity (R114, R115, R127 to R129) -/

/-- Ti in RUI. -/
def tiRui : Nat := 1741824

/-- The granule of a mode in RUI. -/
def granule (xgs : Bool) : Nat := if xgs then 160 else 128

/-- Granules in a frame. -/
def granulesPerFrame (xgs : Bool) : Nat := if xgs then 38880 else 48600

/-- The upstream UI of a rate in RUI. -/
def uiRui (rate : Nat) : Nat := if rate = 0 then 4 else if rate = 1 then 2 else if rate = 2 then 1 else 5

/-- Bytes in a granule of a rate. -/
def granuleBytes (rate : Nat) : Nat := if rate = 1 then 8 else if rate = 2 then 16 else 4

/-- An RUI count rounded to the nearer upstream UI, a tie to the earlier (R115). -/
def roundUi (t ui : Nat) : Nat := (t / ui + (if ui < 2 * (t % ui) then 1 else 0)) * ui

/-- N and P of the upstream FEC (R128). -/
def fecNP (rate : Nat) : Nat × Nat := if rate = 3 then (248, 16) else (2160, 336)

/-- The data bytes among the first x content bytes of a burst of `total` content bytes (R129). -/
def dataBytes (fec : Bool) (rate total x : Nat) : Nat :=
  if !fec then x
  else
    let (n, p) := fecNP rate
    let len := if x / n = total / n then total % n else n
    x / n * (n - p) + min (x % n) (len - p)

/-- The data capacity C of a burst of `total` content bytes (R129). -/
def burstCapacity (fec : Bool) (rate total : Nat) : Nat := dataBytes fec rate total total

/-- The size of a burst in granules. -/
def Burst.granules (b : Burst) : Nat := (b.allocs.map (·.size)).sum

/-- The overhead of a burst: header, trailer, PLOAMu and DBRus (R126, R129). -/
def Burst.overhead (b : Burst) : Nat :=
  8 + (match b.allocs.head? with
    | some a => if a.ploamu then 48 else 0
    | none => 0) + 4 * (b.allocs.filter (·.dbru)).length

/-- A burst's allocations with their capacities and due times, once its BWmap has ended. -/
def Burst.fit (b : Burst) : Burst :=
  let per := granuleBytes b.rate
  let total := b.granules * per
  let g := granule (decide (b.rate = 3)) * ruiUnits
  let (l, _) := b.allocs.foldl (fun acc a =>
    let lo := acc.2
    let hi := lo + a.size
    (acc.1 ++ [{ a with cap := dataBytes b.fec b.rate total (hi * per) - dataBytes b.fec b.rate total (lo * per),
                        due := b.hdr + lo * g }], hi)) (([] : List Alloc), 0)
  { b with allocs := l, sized := true }

/-! ### Burst-map entries (R124, R125) -/

/-- PN_GRANT_MISS for rows 6 to 11 (R125). -/
def State.missEvent (s : State) (c row allocId : Nat) : State :=
  s.pRaiseMs c 13 Ev.PN_GRANT_MISS 0 [(1, row), (2, allocId)]

/-- A lost BWmap: row 1 of R124, and the counts of R125. -/
def State.bwmapLost (s : State) (c : Nat) : State :=
  let s := s.pCount c Ctr.PN.BWMAP_LOST
  let s := ((s.pn c).allocs.map (·.1)).foldl (fun s a => s.tallyAdd (0x10 + c) (16 * a)) s
  s.pRaiseMs c 13 Ev.PN_BWMAP_LOST 0 [(7, s.pf c F.PN_SFC_CUR_LO.SFC + s.pf c F.PN_SFC_CUR_HI.SFC * 2 ^ 32)]

/-- The allocation-table index of an Alloc-ID. -/
def State.allocIx (s : State) (c allocId : Nat) : Option Nat :=
  ((s.pn c).allocs.find? fun e => match e.2 with
    | some x => decide (x.2 = allocId)
    | none => false).map (·.1)

/-- The serial-number Alloc-ID of the recommendation. -/
def snAllocId : Nat := 1023

/-- The index of a BWmap entry of the device, 128 for the serial-number Alloc-ID in O2-3; none for another ONU's. -/
def State.entryIx (s : State) (c allocId : Nat) : Option Nat :=
  match s.allocIx c allocId with
  | some a => some a
  | none => if s.act c = 3 ∧ allocId = snAllocId then some 128 else none

/-- What a grant is for: 0 serial number, 1 ranging, 2 data. -/
def State.grantUse (s : State) (c ix : Nat) : Nat := if ix = 128 then 0 else if s.act c = 4 ∧ ix = 0 then 1 else 2

/-- The counter and the Tally number of a row of R124. -/
def rowCtr (row : Nat) : Nat :=
  if row = 4 then Ctr.PN.GRANT_INHIBIT else if row = 5 then Ctr.PN.GRANT_ASLEEP else if row = 6 then Ctr.PN.GRANT_RANGE
  else if row = 7 then Ctr.PN.GRANT_CONT_BAD else if row = 8 then Ctr.PN.GRANT_PROFILE
  else if row = 9 then Ctr.PN.GRANT_LATE else if row = 10 then Ctr.PN.GRANT_OVERLAP else Ctr.PN.GRANT_SHORT

/-- An entry of the device is not sent under a row of R124. -/
def State.rowMiss (s : State) (c row ix allocId : Nat) : State :=
  let s := s.grantMiss c (rowCtr row) ix (row - 3)
  let s := if 6 ≤ row then s.missEvent c row allocId else s
  s.setPn c { s.pn c with prevOk := false }

/-- A profile word's fields: valid, rate, FEC on, PSBu bytes (R133, R138). -/
def profValid (w : Nat) : Bool := decide (bits w 31 31 = 1)
def profRate (w : Nat) : Nat := min 2 (bits w 30 29)
def profFec (w : Nat) : Bool := decide (bits w 28 28 = 1)
def profPsbu (w : Nat) : Nat := bits w 15 4 + bits w 3 0

/-- RATE_MAX: 11 acts as 10. -/
def State.rateMax (s : State) (c : Nat) : Nat := min 2 (s.pf c F.PN_US_CTRL.RATE_MAX)

/-- Whether a burst's interval overlaps that of a burst parsed earlier, or the gap is shorter than MIN_OFF × 4 ns. -/
def State.overlaps (s : State) (c start fin : Nat) : Bool :=
  let off := s.pf c F.PN_BEN_CFG.MIN_OFF * 4 * nsUnits
  (s.pn c).bursts.any fun b => decide (start < b.fin + off) && decide (b.start < fin + off)

/-- The random delay of R112 in granules, drawn from the Mint: a free value up to RAND_MAX × 8 µs. -/
def State.snDelay (s : State) (c : Nat) : State × Nat :=
  let top := s.pf c F.PN_ACT_CFG.RAND_MAX * 8 * 497664 / (10 * granule (s.xgs c))
  let (s, r) := s.takeFree
  (s, r % (top + 1))

/-- Whether a serial-number grant's StartTime falls within 1 ms of the answer already sent, which its delay placed (R112). -/
def State.snTooSoon (s : State) (c hdr : Nat) : Bool :=
  match (s.pn c).snLast with
  | none => false
  | some t => decide (hdr ≤ t + 1000000 * nsUnits) && decide (t ≤ hdr + 1000000 * nsUnits)

/-- A new burst for an entry that passed rows 2 to 8: rows 9 and 10, and its place in the schedule. A serial-number grant that
R112's 1 ms leaves unanswered matches no row of R124: it counts nowhere, and no entry continues it (log 153). -/
def State.newBurst (s : State) (c : Nat) (e : BwEntry) (ix prof : Nat) : State :=
  let x := s.xgs c
  let g := granule x
  let rate := if x then 3 else profRate prof
  let ui := uiRui rate
  let use := s.grantUse c ix
  let t0 := roundUi (tiRui + (s.pn c).eqdUse + e.start.toNat * g) ui
  let base := (s.pn c).tRef * tickUnits
  let hdr0 := base + t0 * ruiUnits
  if use = 0 ∧ s.snTooSoon c hdr0 = true then s.setPn c { s.pn c with prevOk := false }
  else
    let (s, d) := if use = 0 then s.snDelay c else (s, 0)
    let hdr := hdr0 + d * g * ruiUnits
    let start := hdr - profPsbu prof * 8 * ui * ruiUnits
    let fin := hdr + e.size.toNat * g * ruiUnits
    if start < s.units + 2000 * nsUnits then s.rowMiss c 9 ix e.allocId.toNat
    else if s.overlaps c start fin then s.rowMiss c 10 ix e.allocId.toNat
    else
      let a : Alloc := { ix, allocId := e.allocId.toNat, size := e.size.toNat, dbru := e.dbru, ploamu := e.ploamu, cap := 0,
                         due := hdr, content := none }
      let b : Burst :=
        { use, rate, fec := profFec prof, start, hdr, fin, lead := s.pf c F.PN_BEN_CFG.LEAD * 15552,
          lag := s.pf c F.PN_BEN_CFG.LAG * 15552, minOff := s.pf c F.PN_BEN_CFG.MIN_OFF * 4 * nsUnits, allocs := [a],
          delay := d, gasp := s.bit (pnB c) F.PN_US_STAT.GASP, sized := false, started := false,
          preamble := bits prof 15 4, delim := bits prof 3 0, onuId := 0, ploam := none, queued := false, indQ := false,
          indRdi := false, hec := 0, bip := 0 }
      let p := s.pn c
      s.setPn c { p with bursts := p.bursts ++ [b], prevOk := true, snLast := if use = 0 then some hdr else p.snLast }

/-- A continuation joins the burst of the preceding entry. -/
def State.joinBurst (s : State) (c : Nat) (e : BwEntry) (ix : Nat) : State :=
  let p := s.pn c
  match p.bursts.getLast? with
  | none => s
  | some b =>
    let a : Alloc := { ix, allocId := e.allocId.toNat, size := e.size.toNat, dbru := e.dbru, ploamu := e.ploamu, cap := 0,
                       due := b.fin, content := none }
    let b := { b with allocs := b.allocs ++ [a], fin := b.fin + e.size.toNat * granule (s.xgs c) * ruiUnits }
    s.setPn c { p with bursts := p.bursts.dropLast ++ [b], prevOk := true }

/-- Rows 2 to 10 of R124 for one entry. -/
def State.bwEntry (s : State) (c : Nat) (e : BwEntry) : State :=
  let no (s : State) : State := s.setPn c { s.pn c with prevOk := false }
  if !e.hecOk then no (s.pCount c Ctr.PN.BWMAP_HEC)
  else
    match s.entryIx c e.allocId.toNat with
    | none => no (s.pCount c Ctr.PN.BWMAP_FOREIGN)
    | some ix =>
      let id := e.allocId.toNat
      let cont := decide (e.start.toNat = 0xFFFF)
      let prof := (s.pn c).profUse.getD e.profile.toNat 0
      if !s.mayAnswer c (s.grantUse c ix) e.ploamu cont then s.rowMiss c 4 ix id
      else if s.pf c F.PN_US_STAT.PS = 3 then s.rowMiss c 5 ix id
      else if granulesPerFrame (s.xgs c) ≤ e.start.toNat ∧ cont = false then s.rowMiss c 6 ix id
      else if cont then if (s.pn c).prevOk then s.joinBurst c e ix else s.rowMiss c 7 ix id
      else if !profValid prof || (!s.xgs c && decide (s.rateMax c < profRate prof)) then s.rowMiss c 8 ix id
      else s.newBurst c e ix prof

/-- The BWmap ends: row 11 of R124 for each of its bursts, and P(a) of the allocations it granted (R304). -/
def State.bwEnd (s : State) (c : Nat) : State :=
  let new := (s.pn c).bursts.filter fun b => !b.sized
  let short (b : Burst) : Bool := decide (burstCapacity b.fec b.rate (b.granules * granuleBytes b.rate) < b.overhead)
  let s := (new.filter short).foldl (fun s b =>
    let s := b.allocs.foldl (fun s a => (s.grantMiss c Ctr.PN.GRANT_SHORT a.ix 8).missEvent c 11 a.allocId) s
    let p := s.pn c
    s.setPn c { p with bursts := p.bursts.filter (fun x => decide (x ≠ b)),
                       snLast := if b.use = 0 then none else p.snLast }) s
  let p := s.pn c
  let s := s.setPn c { p with bursts := p.bursts.map (fun b => if b.sized then b else b.fit), prevOk := false }
  let caps := ((new.filter fun b => !short b).map Burst.fit).flatMap (·.allocs)
  let ixs := ((caps.map (·.ix)).filter fun a => decide (a < 128)).eraseDups
  let x := s.bcs c
  s.setBcs c { x with cap := ixs.foldl (fun m a =>
    SMap.set (fun _ => 0) m a (((caps.filter fun k => decide (k.ix = a)).map (·.cap)).sum)) x.cap }

/-! ### Launch, end and laser (R126, R130 to R134) -/

/-- The RDI indication (R134). -/
def State.rdi (s : State) (c : Nat) : Bool :=
  s.bit (pnB c) F.PN_US_CTRL.RDI_FORCE || (s.bit (pnB c) F.PN_US_CTRL.RDI_AUTO && s.bit (pnB c) F.PN_RX_STAT.SF)

/-- Show the RDI indication in use. -/
def State.showRdi (s : State) (c : Nat) : State := s.setPf c F.PN_US_STAT.RDI (b2n (s.rdi c))

/-- Fix the PLOAMu of a burst with its first allocation, and the indications of its header (R119, R134, R306). -/
def State.fixPloam (s : State) (c : Nat) (b : Burst) (a : Alloc) : State × Burst :=
  let b := { b with indRdi := s.rdi c, indQ := !(s.pn c).ploamQ.isEmpty, onuId := s.pf c F.PN_US_STAT.ONU_ID }
  if !a.ploamu then (s, b)
  else if b.use = 0 then (s, { b with ploam := some { hw := true, msg := .serialNumber (s.serial c) b.delay, keyNo := 0 } })
  else if b.use = 1 then
    let (s, m) := s.registration c
    (s, { b with ploam := some { hw := true, msg := m, keyNo := 0 } })
  else
    match nextPloam (s.pn c).ploamQ with
    | none => (s, { b with ploam := some { hw := true, msg := .ack 1, keyNo := 0 }, indQ := false })
    | some x =>
      let q := (s.pn c).ploamQ.erase x
      (s.setPn c { s.pn c with ploamQ := q }, { b with ploam := some x, queued := true, indQ := !q.isEmpty })

/-- Fix the header of a burst: ONU-ID, Ind and the HEC over them (R126). -/
def State.fixHeader (s : State) (c : Nat) (b : Burst) (a : Alloc) : State × Burst :=
  let (s, b) := s.fixPloam c b a
  (s, { b with hec := Config.headerHec b.onuId b.indQ b.indRdi b.gasp })

/-- The bytes a burst's trailer covers, as far as the spec gives them: its PLOAMu is the recommendation's, its frames' payloads
are not. -/
def Burst.payload (b : Burst) : List Byte := b.allocs.flatMap fun a => match a.content with
  | none => []
  | some k => k.frames.flatMap (·.data)

/-- Fix the content of a burst's i-th allocation, and with the last one its trailer's BIP (R126). -/
def State.fixAlloc (s : State) (c : Nat) (b : Burst) (i : Nat) : State :=
  match b.allocs[i]? with
  | none => s
  | some a =>
    let (s, b') := if i = 0 then s.fixHeader c b a else (s, b)
    let (s, k) := s.compose c b.use a (decide (i = 0)) (decide (i + 1 = b.allocs.length))
    let b' := { b' with allocs := b'.allocs.set i { a with content := some k } }
    let b' := { b' with bip := Config.burstBip b'.onuId b'.hec b'.payload }
    let p := s.pn c
    s.setPn c { p with bursts := p.bursts.map fun x => if x = b then b' else x }

/-- The earliest allocation not fixed: its burst, its place and its cut-off, 800 ns before its first byte (R305). -/
def State.nextFix (s : State) (c : Nat) : Option (Burst × Nat × Nat) :=
  let l := (s.pn c).bursts.filterMap fun b =>
    if !b.sized then none
    else
      match b.allocs.findIdx? (·.content.isNone) with
      | none => none
      | some i => (b.allocs[i]?).map fun a => (b, i, a.due - 800 * nsUnits)
  l.foldl (fun m x => match m with
    | none => some x
    | some y => if x.2.2 < y.2.2 then some x else some y) none

/-- ALLOC_CUTOFF (R305 to R310): the next allocation reaches its cut-off and its content is fixed. -/
def execAllocCutoff (c : PonCh) (s : State) : Host.Outcome State Fault Refusal :=
  .next <| s.onLive (0x0A + c.val) fun s => match s.nextFix c.val with
    | none => s
    | some (b, i, t) => (s.toUnits t).fixAlloc c.val b i

/-- Fix every allocation whose cut-off is at or before an instant, at most `n` of them. -/
def State.fixDue (s : State) (c t : Nat) : Nat → State
  | 0 => s
  | n + 1 =>
    match s.nextFix c with
    | none => s
    | some (b, i, u) => if u ≤ t then ((s.toUnits u).fixAlloc c b i).fixDue c t n else s

/-- The allocations scheduled. -/
def State.openAllocs (s : State) (c : Nat) : Nat := (((s.pn c).bursts.map fun b => b.allocs.length)).sum

/-- The scheduled burst that starts next. -/
def State.nextBurst (s : State) (c : Nat) : Option Burst :=
  ((s.pn c).bursts.filter fun b => b.sized && !b.started).foldl (fun m b => match m with
    | none => some b
    | some x => if b.start < x.start then some b else some x) none

/-- The burst now on the air. -/
def State.airBurst (s : State) (c : Nat) : Option Burst := (s.pn c).bursts.find? (·.started)

/-- What a burst's message brings about once it is sent: SN_SENT, the derivation, and the last Key_Report (R112, R122,
R370). -/
def State.ploamSent (s : State) (c : Nat) (x : PloamItem) : State :=
  match x.msg with
  | .serialNumber _ _ => s.pCount c Ctr.PN.SN_SENT
  | .registration id => s.deriveKeys c id
  | _ =>
    let p := s.pn c
    s.setPn c { p with keyWaits := p.keyWaits.map fun k => if k.no + 1 = x.keyNo then { k with sent := true } else k }

/-- A burst's first PSBu bit leaves: BEN has asserted LEAD before it, or was held, and the check of R132 is due. -/
def State.launchBurst (s : State) (c : Nat) (b : Burst) : State :=
  let s := s.benRise c (b.start - b.lead)
  let p := s.pn c
  s.setPn c { p with bursts := p.bursts.map (fun x => if x = b then { b with started := true } else x),
                     benDue := p.benDue ++ [b.start - b.lead] }

/-- BURST_LAUNCH (R114, R126, R130): the next scheduled burst asserts BEN and sends its first PSBu bit; where the engine's
state or INH no longer lets it be sent, it is cancelled, and in Watch the transmitter is off. -/
def execBurstLaunch (c : PonCh) (s : State) : Host.Outcome State Fault Refusal :=
  .next <| s.onLive (0x08 + c.val) fun s => match s.nextBurst c.val with
    | none => s
    | some b =>
      if !s.maySend c.val b.use then s.cancelBurst c.val b
      else if s.pf c.val F.PN_US_STAT.PS = 3 then s.sleepBurst c.val b
      else
        let s := s.fixDue c.val b.start (s.openAllocs c.val)
        match s.nextBurst c.val with
        | none => s
        | some b =>
          let s := (s.toUnits b.start).launchBurst c.val b
          let s := s.pCount c.val Ctr.PN.BURSTS_TX
          match b.ploam with
          | none => s
          | some x => s.ploamSent c.val x

/-- Count what an allocation sent (R139, R161, R315, R512). -/
def State.countAlloc (s : State) (c : Nat) (a : Alloc) (first : Bool) : State :=
  match a.content with
  | none => s
  | some k =>
    let s := (s.pCount c Ctr.PN.GRANTS_OK).pmc 0x060 c
    let s := if k.unbound then s.pCount c Ctr.PN.GRANT_IDLE else s
    let s := s.pCount c Ctr.PN.XGEM_TX k.frames.length
    let s := s.pCount c Ctr.PN.SDU_BYTES_TX ((k.frames.map fun f => f.data.length).sum)
    let s := s.pCount c Ctr.PN.IDLE_BYTES k.idle
    let s := s.pCount c Ctr.PN.STRIPE_TX ((k.frames.filter fun f => f.opts.testBit 17 && f.lf).length)
    let s := if first && a.ploamu then s.pCount c Ctr.PN.PLOAM_TX else s
    let radio := k.frames.filter (·.radio)
    let s := s.count (bcB c + Ctr.BC.RADIO_SDU) ((radio.filter (·.lf)).length)
    let s := if radio.isEmpty then s
      else s.tallyAdd (0x10 + c) (16 * a.ix + 10) ((radio.map fun f => f.data.length).sum)
    let s := if k.dbru.isSome then s.count (bcB c + Ctr.BC.DBRU_TX) else s
    if k.fc then s.count (bcB c + Ctr.BC.FC_TX) else s

/-- A burst leaves the schedule with what it sent up to an instant. -/
def State.finishBurst (s : State) (c : Nat) (b : Burst) (upto : Nat) (stopped : Bool) : State :=
  let sent := b.allocs.filter fun a => decide (a.due ≤ upto)
  let s := match sent with
    | [] => s
    | a :: t => t.foldl (fun s a => s.countAlloc c a false) (s.countAlloc c a true)
  let p := s.pn c
  (s.setPn c { p with bursts := p.bursts.filter fun x => decide (x ≠ b) }).emit (.burst c b stopped)

/-- Whether BEN stays asserted after a burst: the gap to the next one's assertion is shorter than MIN_OFF × 4 ns (R131). -/
def State.benHeld (s : State) (c : Nat) (b : Burst) : Bool :=
  match s.nextBurst c with
  | none => false
  | some n => decide (n.start - n.lead < b.fin + b.lag + n.minOff)

/-- BURST_END (R126, R130, R131): the last bit of the burst on the air leaves, and BEN deasserts after LAG unless it is
held. -/
def execBurstEnd (c : PonCh) (s : State) : Host.Outcome State Fault Refusal :=
  .next <| s.onLive (0x08 + c.val) fun s => match s.airBurst c.val with
    | none => s
    | some b =>
      let s := s.fixDue c.val b.fin (s.openAllocs c.val)
      match s.airBurst c.val with
      | none => s
      | some b =>
        let s := (s.toUnits b.fin).finishBurst c.val b b.fin false
        if s.pf c.val F.PN_US_STAT.TX_ON = 1 ∧ s.benHeld c.val b = true then s else s.benFall c.val (b.fin + b.lag)

/-- The Steward in RUN asserts the transmit disable of the optics on PN_ROGUE, and releases it once ROGUE_CLR has been accepted
(R404). -/
def State.stwOptics (s : State) (c : Nat) (off : Bool) : State :=
  if s.fld stwB F.STW_STAT.STATE ≠ 1 ∨ s.stw.opticsOff.get (chIx c) = off then s
  else ({ s with stw := { s.stw with opticsOff := s.stw.opticsOff.set (chIx c) off } }).emit (.opticsTx c off)

/-- ROGUE_DETECT (R132): BEN_MON has been active for `ns` ns while BEN was deasserted for longer than WIN; the rogue inhibit
latches and any burst stops at once. -/
def execRogueDetect (c : PonCh) (ns : Nat) (s : State) : Host.Outcome State Fault Refusal :=
  .next <| s.onLive (0x08 + c.val) fun s =>
    let b := pnB c.val
    if !s.bit b F.PN_ROGUE_CFG.ENABLE || s.bit b F.PN_US_STAT.ROGUE || decide (ns ≤ max 1 (s.fld b F.PN_ROGUE_CFG.WIN)) then s
    else
      let s := (s.setPf c.val F.PN_US_STAT.ROGUE 1).pCount c.val Ctr.PN.ROGUE
      let s := s.pRaise c.val 13 Ev.PN_ROGUE [(2, min 0xFFFF ns)]
      let s := s.stwOptics c.val true
      let s := match s.airBurst c.val with
        | none => s
        | some x => s.finishBurst c.val x s.units true
      (s.setInh c.val 0 true).benFall c.val s.units

/-- When BEN_MON is checked for a burst whose nominal BEN assertion time is given, in units (R132). -/
def State.benCheckAt (s : State) (c t : Nat) : Nat := t + nsUnits * max 1 (s.pf c F.PN_ROGUE_CFG.MISS)

/-- A burst of whose BEN nothing was seen: the third in a row and each after it raises PN_BEN_MISS with the count (R132). -/
def State.benMissed (s : State) (c : Nat) : State :=
  let n := (s.pn c).benMisses + 1
  let s := (s.setPn c { s.pn c with benMisses := n }).pCount c Ctr.PN.BEN_MISS
  if n < 3 then s else s.pRaiseMs c 13 Ev.PN_BEN_MISS 0 [(2, s.ctr (pnB c + Ctr.PN.BEN_MISS))]

/-- BEN_MON is checked for the burst whose check is due first (R132). -/
def State.benCheck (s : State) (c : Nat) (active : Bool) (t : Nat) : State :=
  let s := s.toUnits (s.benCheckAt c t)
  let s := s.setPn c { s.pn c with benDue := (s.pn c).benDue.drop 1 }
  if active then s.setPn c { s.pn c with benMisses := 0 } else s.benMissed c

/-- BEN_MISS_CHECK (R132): the check of the earliest burst still to be checked, MISS ns after its nominal BEN assertion, be it
already over: whether BEN_MON has been active by then. -/
def execBenMissCheck (c : PonCh) (active : Bool) (s : State) : Host.Outcome State Fault Refusal :=
  .next <| s.onLive (0x08 + c.val) fun s => match (s.pn c.val).benDue with
    | [] => s
    | t :: _ => if !s.bit (pnB c.val) F.PN_ROGUE_CFG.ENABLE then s else s.benCheck c.val active t

/-- A write of PN_US_CTRL: ROGUE_CLR clears the rogue inhibit when BEN_MON has been inactive for 1 ms (R132). -/
def State.wrUsCtrl (s : State) (c v : Nat) (quiet : Bool) : State :=
  let s := (s.store (pnB c + F.PN_US_CTRL.RATE_MAX.off) v).showRdi c
  if F.PN_US_CTRL.ROGUE_CLR.of v = 1 ∧ quiet = true ∧ s.bit (pnB c) F.PN_US_STAT.ROGUE = true then
    ((s.setPf c F.PN_US_STAT.ROGUE 0).setInh c 0 false).stwOptics c false
  else s

/-- ROGUE_CLR (R132): the write carries the other fields as they stand. -/
def execRogueClr (m : Master) (c : PonCh) (quiet : Bool) (s : State) : Host.Outcome State Fault Refusal :=
  .next (s.onWrite m (pnB c.val + 0x100) fun s =>
    s.wrUsCtrl c.val ((s.reg (pnB c.val + 0x100)).toNat + 2 ^ 5) quiet)

end Sys2Proof.Machine
end

