-- ==== Sys2Proof/Machine/Pattern.lean ====
section
/-! DEFINITION. The pattern generators and checkers of the 50 lanes (R191 to R194, R200): lanes 0 to 47 are the tenant ports', 48
is PCA's and 49 PCB's. -/

namespace Sys2Proof.Machine

/-- The page of a lane's pattern registers and their distance from a tenant lane's (R192, R200). -/
def prbsB (lane : Nat) : Nat := if lane < 48 then tqB lane else pnB (lane - 48)
def prbsF (lane : Nat) (f : Fld) : Fld := if lane < 48 then f else f.at 0x570

/-- A lane's pattern functions. -/
def State.prbsOf (s : State) (lane : Nat) : Prbs := SMap.get (fun _ => Prbs.idle) s.prbs lane

/-- Replace them. -/
def State.setPrbs (s : State) (lane : Nat) (p : Prbs) : State :=
  { s with prbs := SMap.set (fun _ => Prbs.idle) s.prbs lane p }

/-- A field of a lane's pattern control register. -/
def State.prbsV (s : State) (lane : Nat) (f : Fld) : Nat := s.fld (prbsB lane) (prbsF lane f)

/-- Whether a lane is out of service, where its pattern functions act (R191, R194). -/
def State.laneOut (s : State) (lane : Nat) : Bool :=
  if lane < 48 then decide (s.portState lane = 1) else decide (s.pf (lane - 48) F.PN_SVC_CTRL.STATE = 2)

/-- The checker's LOCK changes (R192); the errors count from lock on (R197). -/
def State.setPrbsLock (s : State) (lane : Nat) (v : Bool) : State :=
  let f := prbsF lane F.TQ_PRBS_STAT.LOCK
  if s.bit (prbsB lane) f = v then s
  else
    let s := s.setBit (prbsB lane) f v
    let s := if v then s.setF (prbsB lane) (prbsF lane F.TQ_PRBS_ERR.ERRORS) 0 else s
    let (isl, inst) := if lane < 48 then (quadId lane, lane % 4) else (0x08 + (lane - 48), noInst)
    s.raise Ev.TP_PRBS_LOCK isl inst [(1, lane), (1, b2n v)]

/-- The two exponents of a pattern's polynomial (R192, R197). -/
def polyTaps (poly : Nat) : Nat × Nat :=
  if poly = 0 then (7, 6) else if poly = 1 then (9, 5) else if poly = 2 then (15, 14) else if poly = 3 then (23, 18)
  else (31, 28)

/-- The bit a pattern gives after the bits behind it, the latest in bit 0. -/
def polyNext (taps : Nat × Nat) (h : Nat) : Bool := h.testBit (taps.1 - 1) != h.testBit (taps.2 - 1)

/-- The bits behind, with one more. -/
def polyPush (h : Nat) (b : Bool) : Nat := (2 * h + b2n b) % 2 ^ 31

/-- The generator is turned on: it starts from a free pattern state other than all zeros. -/
def State.prbsStart (s : State) (lane : Nat) : State :=
  let (s, r) := s.takeFree
  let n := (polyTaps (s.prbsV lane F.TQ_PRBS_CTRL.POLY)).1
  s.setPrbs lane { s.prbsOf lane with gen := 1 + r % (2 ^ n - 1), sent := 0 }

/-- One bit of the generator, inverted where INJ_ONE or INJ_RATE says so (R192, R193). -/
def State.prbsSend (s : State) (lane : Nat) : State × Bool :=
  let p := s.prbsOf lane
  let x := polyNext (polyTaps (s.prbsV lane F.TQ_PRBS_CTRL.POLY)) p.gen
  let n := s.prbsV lane F.TQ_PRBS_CTRL.INJ_RATE
  let inj := decide (p.one = some 0) || (decide (n ≠ 0) && decide ((p.sent + p.phase) % 2 ^ (10 + n) = 0))
  (s.setPrbs lane { p with gen := polyPush p.gen x, sent := p.sent + 1,
                           one := p.one.bind fun k => if k = 0 then none else some (k - 1) },
    (x != decide (s.prbsV lane F.TQ_PRBS_CTRL.INV = 1)) != inj)

/-- The checker seeds itself anew (R192). -/
def Prbs.reseed (p : Prbs) : Prbs := { p with seed := 0, run := 0, win := 0 }

/-- Errors among the last 64 bits compared. -/
def Prbs.errs (p : Prbs) : Nat := ((List.range 64).filter p.win.testBit).length

/-- A bit reaches a checker that is not locked: it seeds itself, and 64 error-free bits in a row lock it (R192). -/
def State.prbsHunt (s : State) (lane : Nat) (x : Bool) : State :=
  let p := s.prbsOf lane
  let taps := polyTaps (s.prbsV lane F.TQ_PRBS_CTRL.POLY)
  if p.seed < taps.1 then s.setPrbs lane { p with chk := polyPush p.chk x, seed := p.seed + 1 }
  else if polyNext taps p.chk != x then s.setPrbs lane p.reseed
  else
    let s := s.setPrbs lane { p with chk := polyPush p.chk x, run := p.run + 1 }
    if 64 ≤ p.run + 1 then s.setPrbsLock lane true else s

/-- A bit reaches a locked checker: it counts, and more than 16 errors among 64 bits drop LOCK (R192). -/
def State.prbsCompare (s : State) (lane : Nat) (x : Bool) : State :=
  let b := prbsB lane
  let e := prbsF lane F.TQ_PRBS_ERR.ERRORS
  let p := s.prbsOf lane
  let y := polyNext (polyTaps (s.prbsV lane F.TQ_PRBS_CTRL.POLY)) p.chk
  let s := s.count (b + if lane < 48 then Ctr.TQ.PRBS_BITS else Ctr.PN.PRBS_BITS)
  let s := s.setF b e (min (2 ^ 32 - 1) (s.fld b e + b2n (y != x)))
  let p := { p with chk := polyPush p.chk y, win := (2 * p.win + b2n (y != x)) % 2 ^ 64 }
  if 16 < p.errs then (s.setPrbs lane p.reseed).setPrbsLock lane false else s.setPrbs lane p

/-- A received bit reaches a lane's checker. -/
def State.prbsRecv (s : State) (lane : Nat) (bit : Bool) : State :=
  let x := bit != decide (s.prbsV lane F.TQ_PRBS_CTRL.INV = 1)
  if s.prbsV lane F.TQ_PRBS_CTRL.CHK_EN = 0 then s
  else if s.bit (prbsB lane) (prbsF lane F.TQ_PRBS_STAT.LOCK) then s.prbsCompare lane x
  else s.prbsHunt lane x

/-- The test loop of a lane: 1 and 2 near-end, 4 far-end, 0 none (R191). PON lanes have none (R194). -/
def State.laneLoop (s : State) (lane : Nat) : Nat :=
  let v := s.tqF lane F.TQ_LANE_CFG.LOOP
  if lane < 48 ∧ (v = 1 ∨ v = 2 ∨ v = 4) then v else 0

/-- The rate of a lane's pins in kbit/s (R163, R194): a PON generator runs at RATE_MAX's rate, or at XGS's. -/
def State.laneRate (s : State) (lane : Nat) : Nat :=
  if lane < 48 then
    let m := s.laneMode lane
    if m = 1 then 25781250 else if m = 2 then 10312500 else if m = 3 then 3125000 else if m = 0 then 0 else 1250000
  else if s.xgs (lane - 48) then 9953280
  else 49766400 / uiRui (min 2 (s.pf (lane - 48) F.PN_US_CTRL.RATE_MAX))

/-- A lane's pattern functions run for as many bit times as bits come from its receiver: a near-end loop feeds the checker what
the generator sends. What the generator sends, and the state. -/
def State.prbsRun (s : State) (lane : Nat) : List Bool → State × List Bool
  | [] => (s, [])
  | b :: l =>
    let gen := decide (s.prbsV lane F.TQ_PRBS_CTRL.GEN_EN = 1)
    let near := decide (s.laneLoop lane = 1) || decide (s.laneLoop lane = 2)
    let (s, t) := if gen then s.prbsSend lane else (s, false)
    let s := s.prbsRecv lane (if near && gen then t else b)
    let (s, ts) := s.prbsRun lane l
    (s, if gen then t :: ts else ts)

/-- The bits at the transmit pins (R191, R192): the looped data of a far-end loop, nothing of a near-end loop, else what the
generator sends, and nothing while it is off. -/
def State.prbsPins (s : State) (lane : Nat) (rx tx : List Bool) : State :=
  let l := if s.laneLoop lane = 4 then rx else if s.laneLoop lane = 0 then tx else []
  if l.isEmpty then s else s.emit (.pattern lane (s.laneRate lane) l)

/-- A lane leaves OUT: its generator and checker are off (R191, R194). -/
def State.prbsStop (s : State) (lane : Nat) : State :=
  let put (s : State) (f : Fld) : State := s.setF (prbsB lane) (prbsF lane f) 0
  let s := put (put (put s F.TQ_PRBS_CTRL.GEN_EN) F.TQ_PRBS_CTRL.CHK_EN) F.TQ_PRBS_CTRL.BEN_ON
  (s.setPrbs lane Prbs.idle).setPrbsLock lane false

/-- A PON lane leaves OUT: its pattern functions are cleared as a tenant lane's are (log 165), BEN rests, and an alignment
machine its checker held in OFF hunts again (R194). -/
def State.prbsLeave (s : State) (c : Nat) : State :=
  let held := decide (s.prbsV (48 + c) F.TQ_PRBS_CTRL.CHK_EN = 1)
  let s := (s.prbsStop (48 + c)).benFall c s.units
  if held && s.bit (pnB c) F.PN_RX_CTRL.ENABLE && decide (s.act c ≠ 0) then s.setPf c F.PN_RX_STAT.STATE 0 else s

end Sys2Proof.Machine
end

