-- ==== Sys2Proof/Machine/Time.lean ====
section
/-! DEFINITION. The time engine: device time, the apply pipeline, the replicas, stamps and their queues, the servo, PON
time of day, SyncE and the 1PPS and ToD pins (R317 to R351). -/

namespace Sys2Proof.Machine

/-! ### Timers of the time engine -/

def Tm.servoSrc : Nat := 0x10000
def Tm.holdLimit : Nat := 0x10001
def Tm.ppsLoss : Nat := 0x10002
def Tm.synceRecovery : Nat := 0x10003

/-! ### Result registers of a time (R321, R443) -/

/-- Write a time into a result set laid out as TIM_SNAP0 to TIM_SNAP3, valid and not seen. -/
def State.putTime (s : State) (a : Nat) (t : Nat) : State :=
  s.setRegs a [BitVec.ofNat 32 (timeSec t), BitVec.ofNat 32 (timeSec t / 2 ^ 32), BitVec.ofNat 32 (timeNs t),
    BitVec.ofNat 32 (2 ^ 31 + timeFrac t)]

/-- Write a signed 48-bit offset into TIM_PTOD_RES0 and TIM_PTOD_RES1, valid and not seen. -/
def State.putTheta (s : State) (th : Int) : State :=
  let v := toUnsigned 48 th
  s.setRegs (timB + 0xE0) [BitVec.ofNat 32 v, BitVec.ofNat 32 (2 ^ 31 + v / 2 ^ 32)]

/-! ### The apply pipeline (R319, R320) -/

/-- The time TIM_ADJ_SEC, TIM_ADJ_NS and TIM_ADJ_FRAC spell, in units of 2⁻¹⁶ ns. -/
def State.adjTime (s : State) : Nat :=
  (s.fld timB F.TIM_ADJ_SEC_LO.SEC + s.fld timB F.TIM_ADJ_SEC_HI.SEC * 2 ^ 32) * secUnits +
    s.fld timB F.TIM_ADJ_NS.NS * 65536 + s.fld timB F.TIM_ADJ_FRAC.FRAC

/-- The rate TIM_ADJ_RATE spells. -/
def State.adjRate (s : State) : Int :=
  toSigned 40 (s.fld timB F.TIM_ADJ_RATE_LO.RATE + s.fld timB F.TIM_ADJ_RATE_HI.RATE * 2 ^ 32)

/-- The servo's state (TIM_STAT.SERVO): 0 OFF, 1 WAIT, 2 ACQUIRE, 3 LOCKED, 4 HOLDOVER. -/
def State.servo (s : State) : Nat := s.fld timB F.TIM_STAT.SERVO

/-- Ticks from acceptance to N_P (R319). -/
def applyTicks : Nat := 2560

/-- Put a command into the apply pipeline (R319). -/
def State.adjAccept (s : State) (op : Nat) (value : Int) (servo : Bool) : State :=
  let c : AdjCmd := { op, value, nP := s.tim.rawN + applyTicks, servo }
  { s with tim := { s.tim with pending := some c } }.setF timB F.TIM_STAT.ADJ_BUSY 1

/-- Device time at raw count `n` under an anchor and a rate (R318). -/
def timeFrom (n0 : Nat) (t0 adj : Int) (n : Nat) : Int :=
  t0 + (((n : Int) - n0) * 524288 * (2 ^ 48 + adj)).tdiv (10 * 2 ^ 48)

/-- The anchor's time and the rate that a command leaves at its N_P (R319). -/
def State.adjTo (s : State) (c : AdjCmd) : Int × Int :=
  let told := s.timeAt c.nP
  (if c.op = 0 then c.value else if c.op = 1 then told + c.value else told, if c.op = 2 then c.value else s.adj)

/-- Device time at a raw count as every replica gives it to a stamp: by the anchor of the last update at or before that count,
one that is due included (R323). -/
def State.stampTime (s : State) (n : Nat) : Int :=
  match s.tim.pending.filter fun c => decide (c.nP ≤ n) with
  | some c => timeFrom c.nP (s.adjTo c).1 (s.adjTo c).2 n
  | none => if s.tim.anchorN ≤ n then s.timeAt n else timeFrom s.tim.oldN s.tim.oldT s.tim.oldAdj n

/-- Whether a command that is accepted now would take device time below 0 s (R320). -/
def State.adjBelowZero (s : State) (op : Nat) (value : Int) : Bool :=
  decide (op = 1) && decide (s.timeAt (s.tim.rawN + applyTicks) + value < 0)

/-- Whether a servo step would take device time below 0 at its own N_P, which lies behind that of the command in the pipeline
(R320). -/
def State.stepBelowZero (s : State) (value : Int) : Bool :=
  match s.tim.pending with
  | none => s.adjBelowZero 1 value
  | some c => decide (timeFrom c.nP (s.adjTo c).1 (s.adjTo c).2 (c.nP + applyTicks) + value < 0)

/-- A software command on TIM_ADJ_CMD: its OP is stored, and it is refused or accepted by R319, R320 and R322. -/
def State.adjSoftware (s : State) (op : Nat) (value : Int) : State :=
  let s := s.setF timB F.TIM_ADJ_CMD.OP op
  let owned := decide (op = 2) && (decide (s.servo = 2) || decide (s.servo = 3) || decide (s.servo = 4))
  let fallback := s.bit timB F.TIM_STAT.XTAL_FB && decide (op ≠ 0)
  if s.tim.pending.isSome || !s.bit timB F.TIM_STAT.RUN || owned || fallback || s.adjBelowZero op value then
    s.setF timB F.TIM_ADJ_CMD.REFUSED 1
  else (s.setF timB F.TIM_ADJ_CMD.REFUSED 0).adjAccept op value false

/-- A servo update: taken by a free pipeline, else it waits and replaces one that waits, which counts in SAMPLE_DISC;
a step below 0 s is discarded and counted (R320). -/
def State.servoUpdate (s : State) (op : Nat) (value : Int) : State :=
  if s.tim.pending.isSome then
    let s := if s.tim.waiting.isSome then s.count (timB + Ctr.TIM.SAMPLE_DISC) else s
    { s with tim := { s.tim with waiting := some (op, value) } }
  else if s.adjBelowZero op value then s.count (timB + Ctr.TIM.SAMPLE_DISC)
  else s.adjAccept op value true

/-- Put a rate adjustment in force. -/
def State.setAdj (s : State) (r : Int) : State :=
  let v := toUnsigned 40 r
  (s.setF timB F.TIM_RATE_LO.ADJ v).setF timB F.TIM_RATE_HI.ADJ (v / 2 ^ 32)

/-- The second whose PPS_OUT instant a time has reached: the whole second less TIM_PPS_OUT_DLY (R346). -/
def State.ppsSecond (s : State) (t : Int) : Nat := ((t + s.sfld timB F.TIM_PPS_OUT_DLY.DLY) / secUnits).toNat

/-- PPS_OUT across a step or a set from one time to another (R346): forward over a boundary, its pulse is not skipped but comes
at once, and no other; back over one, the next boundary gives no second pulse (log 167). -/
def State.ppsStep (s : State) (t0 t1 : Int) : State :=
  let a := s.ppsSecond t0
  let b := s.ppsSecond t1
  let p := s.tim.ppsNext
  let next := if p ≤ a then b else if a ≤ b then (if p ≤ b then b else p) else b + 2
  { s with tim := { s.tim with ppsNext := next } }

/-- A command of the pipeline takes effect at its raw count: the anchor moves, ADJ_BUSY clears and TIM_ADJ_DONE is raised
(R319). -/
def State.adjDone (s : State) (c : AdjCmd) : State :=
  let told := s.timeAt c.nP
  let tA := (s.adjTo c).1
  let s := { s with tim := { s.tim with oldN := s.tim.anchorN, oldT := s.tim.anchorT, oldAdj := s.adj } }
  let s := if c.op = 2 then s.setAdj c.value else s.ppsStep told tA
  let s := { s with tim := { s.tim with anchorN := c.nP, anchorT := tA.toNat, pending := none } }
  (s.setF timB F.TIM_STAT.ADJ_BUSY 0).raise Ev.TIM_ADJ_DONE 0x04 noInst
    [(1, c.op), (4, c.nP), (1, if c.servo then 1 else 0)]

/-- The servo update that waits enters the free pipeline (R320). -/
def State.adjNext (s : State) : State :=
  match s.tim.waiting with
  | none => s
  | some w => ({ s with tim := { s.tim with waiting := none } }).servoUpdate w.1 w.2

/-- The pipeline's command reaches N_P: the anchor and the rate are replaced by the table of R319 and TIM_ADJ_DONE is
raised; a waiting servo update is then taken (R320). -/
def State.adjApply (s : State) : State :=
  match (if s.pwr.timHold.isNone then s.tim.pending else none) with
  | none => s
  | some c => ((if s.tim.rawN < c.nP then s.elapse (c.nP - s.tim.rawN) else s).adjDone c).adjNext

/-! ### The servo (R336 to R340) -/

/-- The servo changes state: TIM_SERVO_STATE is raised, and HOLDOVER entry and exit also raise TIM_HOLDOVER with the
cause of the holdover (0 timeout, 1 source fault, 2 TIM fault). The spec names no code for the cause TIM_SERVO_STATE carries, so that
byte is a free value. -/
def State.servoGo (s : State) (new : Nat) : State :=
  let old := s.servo
  if old = new then s
  else
    let s := s.setF timB F.TIM_STAT.SERVO new
    let (s, free) := s.takeFree
    let s := s.raise Ev.TIM_SERVO_STATE 0x04 noInst [(1, old), (1, new), (1, free)]
    if new = 4 then s.raise Ev.TIM_HOLDOVER 0x04 noInst [(1, 0), (1, s.tim.holdCause)]
    else if old = 4 then s.raise Ev.TIM_HOLDOVER 0x04 noInst [(1, 1), (1, s.tim.holdCause)]
    else s

/-- The servo's integrator I (R337). -/
def State.servoI (s : State) : Int :=
  toSigned 40 (s.fld timB F.TIM_SERVO_I_LO.I + s.fld timB F.TIM_SERVO_I_HI.I * 2 ^ 32)

/-- Put a value into the integrator, clamped to the 40-bit range. -/
def State.setServoI (s : State) (x : Int) : State :=
  let v := toUnsigned 40 (clampInt (-(2 ^ 39)) (2 ^ 39 - 1) x)
  (s.setF timB F.TIM_SERVO_I_LO.I v).setF timB F.TIM_SERVO_I_HI.I (v / 2 ^ 32)

/-- SIZE of the trace ring in records; 0 MiB acts as 1 (R433, R435). -/
def State.ringSlots (s : State) : Nat := max 1 (s.fld mccB F.MCC_TRACE_CFG.SIZE) * 16384

/-- Write a trace record (R433): 1 sample, 2 step, 3 time-of-day result, 4 PPS_IN edge, with its θ. -/
def State.traceRec (s : State) (typ : Nat) (theta : Int) : State :=
  if s.bit mccB F.MCC_TRACE_CFG.EN = false ∨ s.mem.trace.isEmpty = true then s
  else
    let i := s.fld mccB F.MCC_TRACE_WP.WP
    let r := leBytes 8 s.tim.rawN ++ leBytes 1 typ ++ leBytes 1 (s.fld timB F.TIM_SRC_CFG.SRC) ++ leBytes 2 s.servo ++
      leBytes 6 (toUnsigned 48 theta) ++ leBytes 6 (toUnsigned 40 s.adj) ++ leBytes 5 (toUnsigned 40 s.servoI) ++ leBytes 35 0
    let m := s.mem
    let s := { s with mem := { m with
      ring := SMap.set (fun _ => []) m.ring (i % s.ringSlots) r, ringN := m.ringN + 1, wrBuf := min 64 (m.wrBuf + 1) } }
    (s.setF mccB F.MCC_TRACE_WP.WP (i + 1)).spreadPanic

/-- SRC as it acts (R336: other values act as 000). -/
def State.servoSrc (s : State) : Nat :=
  let v := s.fld timB F.TIM_SRC_CFG.SRC
  if v ≤ 4 then v else 0

/-- u of R337 for an offset and a raw-count interval: θ ÷ Δt × 2⁴⁸, truncated, with θ in 2⁻¹⁶ ns and Δt in ns. -/
def servoU (theta : Int) (dN : Nat) : Int := (theta * 2 ^ 32 * 10).tdiv (dN * 8)

/-- The DPLL measures its input's offset from the crystal, within the 4.6 ppm it tracks: what it finds is free, and FOFS shows it
in units of 2⁻⁴⁸ × 2⁸ (R340, R343, R348). -/
def State.dpllMeasure (s : State) : State :=
  let (s, r) := s.takeFree
  let f : Int := (r % 10115507 : Nat) - 5057753
  let s := s.setF timB F.TIM_SYNCE_STAT.FOFS (toUnsigned 32 f)
  { s with tim := { s.tim with dpllOffset := f * 256 } }

/-- Whether the servo's frequency follows SyncE: HYBRID with a locked DPLL (R340). -/
def State.hybrid (s : State) : Bool := s.bit timB F.TIM_SERVO_CFG.HYBRID && decide (s.fld timB F.TIM_STAT.SYNCE = 2)

/-- In HOLDOVER with HYBRID the rate follows the DPLL while it is LOCKED (R340): its offset as measured now is issued on entry,
as the DPLL locks and as HYBRID is set (log 168). -/
def State.followDpll (s : State) : State :=
  if s.hybrid then
    let s := s.dpllMeasure
    s.servoUpdate 2 s.tim.dpllOffset
  else s

/-- The update of R337 with the shifts of the servo's state; the first sample has no Δt and updates nothing. With
HYBRID and a locked DPLL, I is first set to the DPLL's offset (R340). -/
def State.servoRate (s : State) (theta : Int) (locked : Bool) : State :=
  match s.tim.lastSampleN with
  | none => s
  | some n0 =>
    let s := if s.hybrid then
        let s := s.dpllMeasure
        s.setServoI s.tim.dpllOffset
      else s
    let kp := s.fld timB (if locked then F.TIM_SERVO_CFG.LKP else F.TIM_SERVO_CFG.KP)
    let ki := s.fld timB (if locked then F.TIM_SERVO_CFG.LKI else F.TIM_SERVO_CFG.KI)
    let u := servoU theta (s.tim.rawN - n0)
    let s := s.setServoI (s.servoI - sar u ki)
    s.servoUpdate 2 (clampInt (-(2 ^ 39)) (2 ^ 39 - 1) (s.servoI - sar u kp))

/-- The step of R338: −θ as an add-offset update, STEPS counted, TIM_STEP raised with θ saturating. -/
def State.servoStep (s : State) (theta : Int) : State :=
  let s := (s.servoUpdate 1 (-theta)).count (timB + Ctr.TIM.STEPS)
  (s.raise Ev.TIM_STEP 0x04 noInst [(4, toUnsigned 32 (clampInt (-(2 ^ 31)) (2 ^ 31 - 1) theta))]).traceRec 2 theta

/-- Whether a sample's step is discarded (R320). -/
def State.stepLost (s : State) (theta : Int) : Bool := s.stepBelowZero (-theta)

/-- |θ| > STEP_THR ns (R338; 0 acts as 1). -/
def State.largeSample (s : State) (theta : Int) : Bool :=
  decide (max 1 (s.fld timB F.TIM_SERVO_THR.STEP_THR) * 65536 < theta.natAbs)

/-- |θ| ≤ LOCK_THR ps (R338; 0 acts as 1). -/
def State.lockSample (s : State) (theta : Int) : Bool :=
  decide (theta.natAbs * 1000 ≤ max 1 (s.fld timB F.TIM_SERVO_THR.LOCK_THR) * 65536)

/-- Account an applied sample: SAMPLES, TIM_SERVO_LAST, the raw count of the sample, and the source timeout starts
anew. -/
def State.sampleApplied (s : State) (theta : Int) : State :=
  let s := s.count (timB + Ctr.TIM.SAMPLES)
  let s := s.setF timB F.TIM_SERVO_LAST.THETA (toUnsigned 32 (clampInt (-(2 ^ 31)) (2 ^ 31 - 1) theta))
  let s := { s with tim := { s.tim with lastSampleN := some s.tim.rawN } }
  (s.traceRec 1 theta).startTimer Tm.servoSrc (max 1 (s.fld timB F.TIM_SRC_CFG.SRC_TO) * msTicks)

/-- A large sample steps device time and is applied; one whose step would take it below 0 is discarded, and counts in SAMPLE_DISC
alone (R320, R338). -/
def State.stepSample (s : State) (theta : Int) : State :=
  if s.stepLost theta then s.count (timB + Ctr.TIM.SAMPLE_DISC) else (s.servoStep theta).sampleApplied theta

/-- A sample in ACQUIRE, or handled as in ACQUIRE (R338). -/
def State.acquireSample (s : State) (theta : Int) : State :=
  let big := s.largeSample theta && s.bit timB F.TIM_SERVO_CFG.STEP_EN
  if big then
    let s := s.stepSample theta
    ({ s with tim := { s.tim with lockCount := 0 } }).servoGo 2
  else if s.lockSample theta then
    let s := (s.servoRate theta false).sampleApplied theta
    let n := s.tim.lockCount + 1
    let s := { s with tim := { s.tim with lockCount := n, outlierRun := 0 } }
    s.servoGo (if max 1 (s.fld timB F.TIM_SERVO_CFG.LOCK_CNT) ≤ n then 3 else 2)
  else
    let s := (s.servoRate theta false).sampleApplied theta
    ({ s with tim := { s.tim with lockCount := 0 } }).servoGo 2

/-- A sample in WAIT, or handled as in WAIT: it starts the interval and steps when large, and ACQUIRE follows. -/
def State.waitSample (s : State) (theta : Int) : State :=
  let big := s.largeSample theta && s.bit timB F.TIM_SERVO_CFG.STEP_EN
  let s := if big then s.stepSample theta else s.sampleApplied theta
  let s := { s with tim := { s.tim with lockCount := 0, outlierRun := 0 } }
  (s.stopTimer Tm.holdLimit).servoGo 2

/-- A sample in LOCKED (R338): a large one is discarded twice in a row, and the third is handled as in ACQUIRE. -/
def State.lockedSample (s : State) (theta : Int) : State :=
  let big := s.largeSample theta && s.bit timB F.TIM_SERVO_CFG.STEP_EN
  if big && decide (s.tim.outlierRun < 2) then
    let s := { s with tim := { s.tim with outlierRun := s.tim.outlierRun + 1 } }
    s.count (timB + Ctr.TIM.OUTLIERS)
  else if big then
    ({ s with tim := { s.tim with outlierRun := 0 } }.acquireSample theta).servoGo 2
  else
    let s := (s.servoRate theta true).sampleApplied theta
    { s with tim := { s.tim with outlierRun := 0 } }

/-- The servo handles an offset sample by its state (R338). -/
def State.servoSample (s : State) (theta : Int) : State :=
  if s.servo = 1 ∨ s.servo = 4 then s.waitSample theta
  else if s.servo = 2 then s.acquireSample theta
  else if s.servo = 3 then s.lockedSample theta
  else s

/-- A sample arrives from a source (1 and 2 PON time of day, 3 software, 4 PPS_IN); one that is not selected is never
applied (R336). -/
def State.offerSample (s : State) (src : Nat) (theta : Int) : State :=
  if s.servoSrc = src then { s with tim := { s.tim with sample := some theta } } else s

/-- ACQUIRE or LOCKED ends in HOLDOVER with the rate frozen, or following a locked DPLL in hybrid mode (R338, R340), for 0 timeout, 1 source fault or 2 TIM fault. -/
def State.servoHold (s : State) (cause : Nat) : State :=
  if s.servo = 2 ∨ s.servo = 3 then
    let s := (s.count (timB + Ctr.TIM.HOLD_ENTRIES)).stopTimer Tm.servoSrc
    let s := { s with tim := { s.tim with holdLong := false, holdCause := cause, lastSampleN := none } }
    let s := s.startTimer Tm.holdLimit (max 1 (s.fld timB F.TIM_SRC_CFG.HOLD_LIMIT) * 1000 * msTicks)
    s.followDpll.servoGo 4
  else s

/-- The servo's source faults: PON channel `ch` leaves SYNC or O5 (R338). -/
def State.servoChannelFault (s : State) (ch : Nat) : State :=
  if s.servoSrc = ch + 1 then s.servoHold 1 else s

/-! ### Stamps (R324, R326) -/

/-- A receive stamp: t(N_e) − D(code) − LAT (R326). -/
def State.stampRx (s : State) (point : Nat) (st : StampIn) (lat : Int) : Nat :=
  (s.stampTime st.ne - Config.interval point st.code - lat).toNat

/-- A transmit stamp: t(N_e) − D(code) + LAT (R326). -/
def State.stampTx (s : State) (point : Nat) (st : StampIn) (lat : Int) : Nat :=
  (s.stampTime st.ne - Config.interval point st.code + lat).toNat

/-- LAT_RX or LAT_TX of a port: the sum TQ_TS_LAT shows plus the trim. -/
def State.portLat (s : State) (p : Nat) (tx : Bool) : Int :=
  if tx then s.sfld (tqB p) F.TQ_TS_LAT_TX.LAT + s.sfld (tqB p) F.TQ_TS_TRIM_TX.TRIM
  else s.sfld (tqB p) F.TQ_TS_LAT_RX.LAT + s.sfld (tqB p) F.TQ_TS_TRIM_RX.TRIM

/-- Whether an island's replica still waits for good words (R324). -/
def State.repWaits (s : State) (isl : Nat) : Bool :=
  decide (SMap.get (fun _ => 0) s.tim.repNeed isl ≠ 0) && decide (s.now < SMap.get (fun _ => 0) s.tim.repAt isl)

/-- Whether an island's stamps carry ERR = 1: its replica has mismatched and not reloaded (R324). -/
def State.stampErr (s : State) (isl : Nat) : Bool := s.repWaits isl && s.tim.repErr.contains isl

/-- Whether an island takes no stamp yet: its replica has not been loaded since it became live (R324). -/
def State.stampOff (s : State) (isl : Nat) : Bool := s.repWaits isl && !s.tim.repErr.contains isl

/-- The timestamp queue of a port. -/
def State.tsQueue (s : State) (p : Nat) : List TsEntry := SMap.get (fun _ => []) s.tim.tsQ p

/-- Replace a port's timestamp queue and show its head and its level (R332). -/
def State.setTsQueue (s : State) (p : Nat) (q : List TsEntry) : State :=
  let s := { s with tim := { s.tim with tsQ := SMap.set (fun _ => []) s.tim.tsQ p q } }
  let s := s.setF (tqB p) F.TQ_TS_CTRL.COUNT q.length
  match q with
  | [] => s.setRegs (tqB p + 0x210) [0, 0, 0, 0]
  | e :: _ =>
    let w3 := 2 ^ 31 + (if e.err then 2 ^ 30 else 0) + e.msgType % 16 * 2 ^ 24 + e.domain % 256 * 2 ^ 16 + e.seqId % 65536
    s.setRegs (tqB p + 0x210) [BitVec.ofNat 32 (timeSec e.time),
      BitVec.ofNat 32 (timeSec e.time / 2 ^ 32 % 65536 * 65536 + timeFrac e.time),
      BitVec.ofNat 32 (timeNs e.time), BitVec.ofNat 32 w3]

/-- Queue a transmit stamp, or lose it to a full queue (R332, R333). -/
def State.queueStamp (s : State) (p : Nat) (e : TsEntry) : State :=
  let s := if e.err then s.count (tqB p + Ctr.TQ.TS_ERR) else s
  let q := s.tsQueue p
  if q.length < 64 then (s.setTsQueue p (q ++ [e])).count (tqB p + Ctr.TQ.TS_TX_Q)
  else
    let s := s.count (tqB p + Ctr.TQ.TS_LOST)
    s.raiseMs p Ev.TP_TS_LOST (0x10 + p / 4) (p % 4) [(1, p), (2, e.seqId)]

/-! ### SyncE (R343) -/

/-- The DPLL changes state: TIM_SYNCE_STATE is raised. -/
def State.synceGo (s : State) (new : Nat) : State :=
  let old := s.fld timB F.TIM_STAT.SYNCE
  if old = new then s
  else
    let s := s.setF timB F.TIM_STAT.SYNCE new
    s.raise Ev.TIM_SYNCE_STATE 0x04 noInst [(1, old), (1, new), (1, s.fld timB F.TIM_SYNCE_CFG.SEL)]

/-- The code of a SyncE fault in its event. -/
def synceFaultCode : SynceFault → Nat
  | .cdr => 0
  | .los => 1
  | .range => 2
  | .forced => 3

/-! ### ToD lines (R347) -/

/-- Show the ToD FIFOs in TIM_TOD_RX and TIM_TOD_STAT. -/
def State.showTod (s : State) : State :=
  let s := s.setF timB F.TIM_TOD_STAT.RX_LEVEL s.tim.todRx.length
  let s := s.setF timB F.TIM_TOD_STAT.TX_LEVEL s.tim.todTx.length
  match s.tim.todRx with
  | [] => (s.setF timB F.TIM_TOD_RX.VALID 0).setF timB F.TIM_TOD_RX.DATA 0
  | b :: _ => (s.setF timB F.TIM_TOD_RX.VALID 1).setF timB F.TIM_TOD_RX.DATA b.toNat

/-! ### The commands -/

/-- A write of TIM_ADJ_CMD (R319): a GO submits OP; OP 11 is ignored. -/
def State.wrAdjCmd (s : State) (v : Nat) : State :=
  let op := F.TIM_ADJ_CMD.OP.of v
  let s := s.setF timB F.TIM_ADJ_CMD.OP op
  if F.TIM_ADJ_CMD.GO.of v = 0 then s
  else if op = 0 then s.adjSoftware 0 s.adjTime
  else if op = 1 then s.adjSoftware 1 (if s.bit timB F.TIM_ADJ_NS.NEG then -(s.adjTime : Int) else s.adjTime)
  else if op = 2 then s.adjSoftware 2 s.adjRate
  else s

/-- TIM_SET_TIME (R319): a software GO with OP 00. -/
def execTimSetTime (m : Master) (s : State) : Host.Outcome State Fault Refusal :=
  .next (s.onWrite m (timB + 0x40) fun s => s.wrAdjCmd (2 ^ 31))

/-- TIM_ADD_OFFSET (R319): a software GO with OP 01, the offset's sign in NEG. -/
def execTimAddOffset (m : Master) (s : State) : Host.Outcome State Fault Refusal :=
  .next (s.onWrite m (timB + 0x40) fun s => s.wrAdjCmd (2 ^ 31 + 2 ^ 28))

/-- TIM_SET_RATE (R319, R320): a software GO with OP 10. -/
def execTimSetRate (m : Master) (s : State) : Host.Outcome State Fault Refusal :=
  .next (s.onWrite m (timB + 0x40) fun s => s.wrAdjCmd (2 ^ 31 + 2 ^ 29))

/-- TIM_ADJ_APPLY (R319): the command in the pipeline reaches N_P. -/
def execTimAdjApply (s : State) : Host.Outcome State Fault Refusal := .next (s.onLive 0x04 fun s => s.adjApply)

/-- A write of TIM_SNAP_CTRL (R321): GO latches N and t(N). -/
def State.wrSnapCtrl (s : State) (v : Nat) : State :=
  if F.TIM_SNAP_CTRL.GO.of v = 0 then s
  else
    (s.putTime (timB + 0x14) s.timeNow).setRegs (timB + 0x24)
      [BitVec.ofNat 32 s.tim.rawN, BitVec.ofNat 32 (s.tim.rawN / 2 ^ 32)]

/-- TIM_SNAPSHOT (R321). -/
def execTimSnapshot (m : Master) (s : State) : Host.Outcome State Fault Refusal :=
  .next (s.onWrite m (timB + 0x10) fun s => s.wrSnapCtrl (2 ^ 31))

/-- A mismatch or a bad CRC: REPLICA_ERR and its event, and the replica reloads from the next good word (R324). -/
def State.repFail (s : State) (i n : Nat) : State :=
  ((s.repLoad i n).count (timB + Ctr.TIM.REPLICA_ERR)).raise Ev.TIM_REPLICA_ERR 0x04 noInst [(1, i)]

/-- A serial word reaches a replica: while it waits, a good word brings it nearer to its load; else it compares (R324). -/
def State.repWord (s : State) (i : Nat) (crcOk agree : Bool) : State :=
  if s.repWaits i then
    let n := SMap.get (fun _ => 0) s.tim.repNeed i
    if crcOk then s.repLoad i (n - 1) else s.repFail i n
  else if crcOk && agree then s
  else ({ s with tim := { s.tim with repErr := s.tim.repErr.insert i } }).repFail i 1

/-- REPLICA_SERIAL_WORD (R324): a word on the time path of a live island that holds a replica. A word no command tells of is good
and agrees (log 169). -/
def execReplicaSerialWord (isl : Fin 64) (crcOk agree : Bool) (s : State) : Host.Outcome State Fault Refusal :=
  .next (if hasReplica isl.val && s.live isl.val && s.timCounts then s.repWord isl.val crcOk agree else s)

/-- SERVO_SAMPLE (R338): the sample of the selected source drives the servo. -/
def execServoSample (s : State) : Host.Outcome State Fault Refusal :=
  .next <| s.onLive 0x04 fun s => match s.tim.sample with
    | none => s
    | some th => ({ s with tim := { s.tim with sample := none } }).servoSample th

/-- A write of TIM_SERVO_SAMPLE_HI (R336): GO submits the software sample, or is discarded when SRC is not software. -/
def State.wrServoSample (s : State) (v : Nat) : State :=
  let hi := F.TIM_SERVO_SAMPLE_HI.THETA.of v
  let s := s.setF timB F.TIM_SERVO_SAMPLE_HI.THETA hi
  if F.TIM_SERVO_SAMPLE_HI.GO.of v = 0 then s
  else if s.servoSrc = 3 then
    s.offerSample 3 (toSigned 48 (s.fld timB F.TIM_SERVO_SAMPLE_LO.THETA + hi * 2 ^ 32))
  else s.count (timB + Ctr.TIM.SAMPLE_DISC)

/-- SERVO_SW_SAMPLE (R336). -/
def execServoSwSample (m : Master) (thetaHi : BitVec 16) (s : State) : Host.Outcome State Fault Refusal :=
  .next (s.onWrite m (timB + 0x90) fun s => s.wrServoSample (2 ^ 31 + thetaHi.toNat))

/-- A write of TIM_SRC_CFG (R338): SRC 000 moves the servo to OFF, any other source to WAIT with the rate kept, and under
crystal fallback the servo stays OFF (R322). -/
def State.wrSrcCfg (s : State) (v : Nat) : State :=
  let s := s.store (timB + 0x80) v
  let s := (s.stopTimer Tm.servoSrc).stopTimer Tm.holdLimit
  let s := { s with tim := { s.tim with sample := none, outlierRun := 0, lastSampleN := none } }
  if s.servoSrc = 0 ∨ s.bit timB F.TIM_STAT.XTAL_FB = true then s.servoGo 0
  else ({ s with tim := { s.tim with lockCount := 0 } }).servoGo 1

/-- A write of TIM_SERVO_CFG: HYBRID written 1 in HOLDOVER makes the rate follow a locked DPLL (R340). -/
def State.wrServoCfg (s : State) (v : Nat) : State :=
  let was := s.bit timB F.TIM_SERVO_CFG.HYBRID
  let s := s.store (timB + 0x84) v
  if decide (s.servo = 4) && !was then s.followDpll else s

/-- SERVO_SRC_WRITE (R338). -/
def execServoSrcWrite (m : Master) (v : Word) (s : State) : Host.Outcome State Fault Refusal :=
  .next (s.onWrite m (timB + 0x80) fun s => s.wrSrcCfg v.toNat)

/-- SERVO_SRC_TIMEOUT (R338): SRC_TO ms pass without an applied sample. -/
def execServoSrcTimeout (s : State) : Host.Outcome State Fault Refusal :=
  .next (s.onLive 0x04 fun s => s.expire Tm.servoSrc fun s => s.servoHold 0)

/-- HOLD_LIMIT_EXPIRY (R339): HOLDOVER has lasted HOLD_LIMIT seconds; TIM_HOLD_LONG is raised once for it. -/
def execHoldLimitExpiry (s : State) : Host.Outcome State Fault Refusal :=
  .next (s.onLive 0x04 fun s => s.expire Tm.holdLimit fun s =>
    if s.servo = 4 ∧ s.tim.holdLong = false then
      let s := { s with tim := { s.tim with holdLong := true } }
      s.raise Ev.TIM_HOLD_LONG 0x04 noInst [(2, max 1 (s.fld timB F.TIM_SRC_CFG.HOLD_LIMIT))]
    else s)

/-- A write of TQ_TS_CTRL (R332): POP discards the head of a port's timestamp queue, FLUSH all of it. -/
def State.wrTsCtrl (s : State) (p v : Nat) : State :=
  if F.TQ_TS_CTRL.FLUSH.of v = 1 then s.setTsQueue p []
  else if F.TQ_TS_CTRL.POP.of v = 1 then s.setTsQueue p (s.tsQueue p).tail
  else s

/-- TS_POP (R332). -/
def execTsPop (m : Master) (p : Port) (s : State) : Host.Outcome State Fault Refusal :=
  .next (s.onWrite m (tqB p.val + 0x220) fun s => s.wrTsCtrl p.val (2 ^ 31))

/-- TS_FLUSH (R332): FLUSH discards every entry of a port's timestamp queue. -/
def execTsFlush (m : Master) (p : Port) (s : State) : Host.Outcome State Fault Refusal :=
  .next (s.onWrite m (tqB p.val + 0x220) fun s => s.wrTsCtrl p.val (2 ^ 30))

/-- θ of R341 for a channel: the capture less the OLT's time, the downstream share of the round trip and TRIM. -/
def State.ptodTheta (s : State) (c : Nat) : Int :=
  let cap : Int := (s.fld (pnB c) F.PN_TOD_CAP0.SEC_LO + s.fld (pnB c) F.PN_TOD_CAP1.SEC_HI * 2 ^ 32) * secUnits +
    s.fld (pnB c) F.PN_TOD_CAP2.NS * 65536 + s.fld (pnB c) F.PN_TOD_CAP3.FRAC
  let olt : Int := (s.fld timB F.TIM_PTOD_SEC_LO.SEC + s.fld timB F.TIM_PTOD_SEC_HI.SEC * 2 ^ 32) * secUnits +
    s.fld timB F.TIM_PTOD_NS.NS * 65536 + s.fld timB F.TIM_PTOD_FRAC.FRAC
  let rtt : Int := (s.fld timB F.TIM_PTOD_TEQD.TEQD : Int) - s.fld (pnB c) F.PN_EQD.EQD - 1741824
  let num : Int := (cap - olt - s.sfld timB F.TIM_PTOD_TRIM.TRIM) * (2 ^ 32 * 497664) -
    rtt * s.fld timB F.TIM_PTOD_RATIO.DN_SHARE * 10000 * 65536
  num.tdiv (2 ^ 32 * 497664)

/-- A write of TIM_PTOD_CTRL (R341, R342): a GO starts the computation, or is refused with its cause. -/
def State.wrPtodCtrl (s : State) (v : Nat) : State :=
  if s.bit timB F.TIM_PTOD_CTRL.BUSY then s
  else
    let c := F.TIM_PTOD_CTRL.CH.of v
    let s := s.setF timB F.TIM_PTOD_CTRL.CH c
    if F.TIM_PTOD_CTRL.GO.of v = 0 then s
    else
      let cause : Nat :=
        if !s.bit (pnB c) F.PN_TOD_CAP3.VALID then 1
        else if s.tim.rangedSince.get (if c = 0 then 0 else 1) then 2
        else if !s.bit (pnB c) F.PN_EQD.VALID then 3
        else 0
      let s := s.setF timB F.TIM_PTOD_CTRL.CAUSE cause
      if cause = 0 then
        let s := s.setRegs (timB + 0xE0) [0, 0]
        let s := { s with tim := { s.tim with ptod := some (c, s.ptodTheta c) } }
        s.setF timB F.TIM_PTOD_CTRL.BUSY 1
      else
        let s := s.count (timB + Ctr.TIM.PTOD_REFUSED)
        s.raise Ev.TIM_PTOD_DONE 0x04 noInst [(1, c), (1, cause)]

/-- TIM_PTOD_GO (R341, R342). -/
def execTimPtodGo (m : Master) (ch : PonCh) (s : State) : Host.Outcome State Fault Refusal :=
  .next (s.onWrite m (timB + 0xC0) fun s => s.wrPtodCtrl (2 ^ 31 + ch.val * 2 ^ 29))

/-- TIM_PTOD_COMPLETE (R341): θ is written, TIM_PTOD_DONE raised, and θ is a sample of the channel's source. -/
def execTimPtodComplete (s : State) : Host.Outcome State Fault Refusal :=
  .next <| s.onLive 0x04 fun s => match s.tim.ptod with
    | none => s
    | some (c, th) =>
      let s := { s with tim := { s.tim with ptod := none } }
      let s := (s.putTheta th).setF timB F.TIM_PTOD_CTRL.BUSY 0
      let s := s.raise Ev.TIM_PTOD_DONE 0x04 noInst [(1, c), (1, 0)]
      (s.traceRec 3 th).offerSample (c + 1) th

/-- The DPLL's input is at fault: TIM_SYNCE_SRC_FAIL, HOLDOVER, and the 10 s before which it does not return to the same input
(R343). They run from the fault, the earliest instant at which the input can have recovered (log 170). -/
def State.synceFail (s : State) (why : SynceFault) : State :=
  let s := { s with tim := { s.tim with synceFault := true } }
  let s := s.raise Ev.TIM_SYNCE_SRC_FAIL 0x04 noInst [(1, s.fld timB F.TIM_SYNCE_CFG.SEL), (1, synceFaultCode why)]
  (s.startTimer Tm.synceRecovery (10000 * msTicks)).synceGo 3

/-- SYNCE_INPUT_FAULT (R343): the input faults, or HOLD_FORCE is 1; a DPLL that is off has no input. -/
def execSynceInputFault (why : SynceFault) (s : State) : Host.Outcome State Fault Refusal :=
  .next <| s.onLive 0x04 fun s =>
    if s.fld timB F.TIM_STAT.SYNCE = 0 then s
    else if why = .forced ∧ s.bit timB F.TIM_SYNCE_CFG.HOLD_FORCE = false then s
    else s.synceFail why

/-- Whether the input SEL names is offered: a tenant lane only with RCLK_EN 1, a PON channel always (R171, R343). Numbers 50 to 62
name nothing. -/
def State.synceOffered (s : State) (sel : Nat) : Bool :=
  if sel < 48 then s.bit (tqB sel) F.TQ_LANE_CFG.RCLK_EN else decide (sel = 48) || decide (sel = 49)

/-- A write of TIM_SYNCE_CFG (R343). EN 0 or no input leaves the DPLL free-running. HOLD_FORCE sends it to HOLDOVER. A new SEL makes
it lock to that input, also from HOLDOVER, where the input is good; the same SEL starts a free-running DPLL and leaves any
other state alone. An input that is not offered is at fault as one without CDR lock (log 170). -/
def State.wrSynceCfg (s : State) (v : Nat) (inputGood : Bool) : State :=
  let old := s.fld timB F.TIM_SYNCE_CFG.SEL
  let s := s.store (timB + 0x140) v
  let st := s.fld timB F.TIM_STAT.SYNCE
  let sel := s.fld timB F.TIM_SYNCE_CFG.SEL
  let good := inputGood && s.synceOffered sel
  if s.bit timB F.TIM_SYNCE_CFG.EN = false ∨ sel = 63 then (s.stopTimer Tm.synceRecovery).synceGo 0
  else if s.bit timB F.TIM_SYNCE_CFG.HOLD_FORCE then (if st = 1 ∨ st = 2 then s.synceFail .forced else s)
  else if st ≠ 0 ∧ sel = old then s
  else if good then (({ s with tim := { s.tim with synceFault := false } }).stopTimer Tm.synceRecovery).synceGo 1
  else if st = 1 ∨ st = 2 then s.synceFail .cdr
  else s

/-- SYNCE_SEL_WRITE (R343). -/
def execSynceSelWrite (m : Master) (v : Word) (inputGood : Bool) (s : State) : Host.Outcome State Fault Refusal :=
  .next (s.onWrite m (timB + 0x140) fun s => s.wrSynceCfg v.toNat inputGood)

/-- SYNCE_RECOVERY_EXPIRY (R343): 10 s after the same input recovered the DPLL leaves HOLDOVER through LOCKING, unless HOLD_FORCE
holds it there. -/
def execSynceRecoveryExpiry (s : State) : Host.Outcome State Fault Refusal :=
  .next <| s.onLive 0x04 fun s =>
    if s.fld timB F.TIM_STAT.SYNCE ≠ 3 ∨ s.bit timB F.TIM_SYNCE_CFG.HOLD_FORCE = true then s
    else s.expire Tm.synceRecovery fun s => ({ s with tim := { s.tim with synceFault := false } }).synceGo 1

/-- SYNCE_LOCKED (R343): the DPLL completes locking; its measured offset is shown in units of 2⁻⁴⁸ × 2⁸, and in HOLDOVER with
HYBRID the rate follows it (R340). -/
def execSynceLocked (fofs : Word) (s : State) : Host.Outcome State Fault Refusal :=
  .next <| s.onLive 0x04 fun s =>
    if s.fld timB F.TIM_STAT.SYNCE = 1 then
      let s := s.setF timB F.TIM_SYNCE_STAT.FOFS fofs.toNat
      let s := { s with tim := { s.tim with dpllOffset := toSigned 32 fofs.toNat * 256 } }
      let s := if decide (s.servo = 4) && s.bit timB F.TIM_SERVO_CFG.HYBRID then s.servoUpdate 2 s.tim.dpllOffset else s
      s.synceGo 2
    else s

/-- What SYNCE_OUT k drives (R344): with SQUELCH the pin is low while the lane selected has no CDR lock. A SEL of 50 to 61 names no
source, and the pin is low (log 161). -/
def State.synceDrive (s : State) (k : Nat) : SynceDrive :=
  let sel := s.fld timB (F.TIM_SYNCE_OUT.SEL.at (4 * k))
  let sq := s.bit timB (F.TIM_SYNCE_OUT.SQUELCH.at (4 * k))
  if sel < 48 then (if sq && !s.bit (tqB sel) F.TQ_LANE_STAT.CDR_LOCK then .low else .lane sel)
  else if sel < 50 then (if sq && !s.bit (pnB (sel - 48)) F.PN_RX_STAT.CDR_LOCK then .low else .pon (sel - 48))
  else if sel = 62 then .dpll
  else .low

/-- Drive the SYNCE_OUT pins (R344). -/
def State.showSynceOut (s : State) : State :=
  { s with tim := { s.tim with synceOut := ⟨s.synceDrive 0, s.synceDrive 1⟩ } }

/-- PPS_IN_OK changes: TIM_PPS_IN is raised (R345). -/
def State.setPpsOk (s : State) (v : Bool) : State :=
  if s.bit timB F.TIM_STAT.PPS_IN_OK = v then s
  else (s.setBit timB F.TIM_STAT.PPS_IN_OK v).raise Ev.TIM_PPS_IN 0x04 noInst [(1, if v then 1 else 0)]

/-- The interval between two PPS_IN edges in 2⁻¹⁶ ns: the counted ticks at the rate in force and the two codes. A step or a set
between them does not enter it (R345, log 166). -/
def State.ppsInterval (s : State) (p : Nat × Nat) (st : StampIn) : Int :=
  timeFrom p.1 0 s.adj st.ne - Config.interval 98 st.code + Config.interval 98 p.2

/-- PPS_IN_EDGE (R345): the edge is stamped; it is accepted 1 s ± WIN µs after the previous one. -/
def execPpsInEdge (st : StampIn) (s : State) : Host.Outcome State Fault Refusal :=
  .next <| s.onLive 0x04 fun s =>
    if !s.bit timB F.TIM_PPS_IN_CFG.EN then s
    else
      let t := s.stampRx 98 st (s.sfld timB F.TIM_PPS_IN_DLY.DLY)
      let prev := s.tim.ppsLast
      let s := { s with tim := { s.tim with ppsLast := some (st.ne, st.code) } }
      match prev with
      | none => s
      | some p =>
        let d := (s.ppsInterval p st - secUnits).natAbs
        if d ≤ max 1 (s.fld timB F.TIM_PPS_IN_CFG.WIN) * 1000 * 65536 then
          let s := (s.setPpsOk true).startTimer Tm.ppsLoss (1500 * msTicks)
          let s := s.putTime (timB + 0x108) t
          let r := t % secUnits
          let th : Int := if timeNs t < 500000000 then (r : Int) else (r : Int) - secUnits
          (s.traceRec 4 th).offerSample 4 th
        else s.count (timB + Ctr.TIM.PPS_IN_REJ)

/-- A write of TIM_PPS_IN_CFG (R345): after EN is set the first edge only starts the check. -/
def State.wrPpsInCfg (s : State) (v : Nat) : State :=
  let s := s.store (timB + 0x100) v
  if s.bit timB F.TIM_PPS_IN_CFG.EN then s else { s with tim := { s.tim with ppsLast := none } }

/-- PPS_IN_LOSS_TIMEOUT (R345, R338): 1.5 s without an accepted edge; PPS_IN_OK falls, which is a fault of source 100. -/
def execPpsInLossTimeout (s : State) : Host.Outcome State Fault Refusal :=
  .next (s.onLive 0x04 fun s => s.expire Tm.ppsLoss fun s =>
    let s := ({ s with tim := { s.tim with ppsLast := none } }).setPpsOk false
    if s.servoSrc = 4 then s.servoHold 1 else s)

/-- A write of TIM_PPS_OUT_CFG (R346): from EN set on, the next whole second gives the next pulse. -/
def State.wrPpsOutCfg (s : State) (v : Nat) : State :=
  let was := s.bit timB F.TIM_PPS_OUT_CFG.EN
  let s := s.store (timB + 0x120) v
  if was then s else { s with tim := { s.tim with ppsNext := s.ppsSecond (s.timeAt s.tim.rawN) + 1 } }

/-- A PPS_OUT edge releases the ToD bytes that wait, to be sent TX_DLY µs later; later bytes wait for the next edge (R347). -/
def State.todArm (s : State) : State :=
  let k := s.tim.todTx.length - (s.tim.todArms.map (·.1)).sum
  if s.bit timB F.TIM_TOD_CFG.TX_PPS && decide (0 < k) then
    { s with tim := { s.tim with todArms := s.tim.todArms ++ [(k, s.now + s.fld timB F.TIM_TOD_CFG.TX_DLY * usTicks)] } }
  else s

/-- PPS_OUT_EDGE (R346, R347): device time reaches the next whole second less TIM_PPS_OUT_DLY, and PPS_OUT pulses for WIDTH µs,
low where POL inverts it; a second a step has jumped past gives its pulse at once. -/
def execPpsOutEdge (s : State) : Host.Outcome State Fault Refusal :=
  .next <| s.onLive 0x04 fun s =>
    if !s.bit timB F.TIM_PPS_OUT_CFG.EN || !s.timCounts then s
    else
      let k := s.tim.ppsNext
      let s := s.reachTime ((k : Int) * secUnits - s.sfld timB F.TIM_PPS_OUT_DLY.DLY).toNat
      let s := { s with tim := { s.tim with ppsNext := max k (s.ppsSecond (s.timeAt s.tim.rawN)) + 1 } }
      (s.emit (.ppsOut (s.fld timB F.TIM_PPS_OUT_CFG.WIDTH) k (s.bit timB F.TIM_PPS_OUT_CFG.POL))).todArm

/-- TOD_RX_BYTE (R347): a received byte enters the FIFO of 256, or is discarded and counted. -/
def execTodRxByte (b : Byte) (s : State) : Host.Outcome State Fault Refusal :=
  .next <| s.onLive 0x04 fun s =>
    if s.tim.todRx.length < 256 then ({ s with tim := { s.tim with todRx := s.tim.todRx ++ [b] } }).showTod
    else s.count (timB + Ctr.TIM.TOD_RX_OVF)

/-- A write of TIM_TOD_TX (R347): a byte is queued for TOD_OUT, or discarded when the FIFO is full. -/
def State.wrTodTx (s : State) (v : Nat) : State :=
  if s.tim.todTx.length < 256 then ({ s with tim := { s.tim with todTx := s.tim.todTx ++ [BitVec.ofNat 8 v] } }).showTod else s

/-- TOD_TX_WRITE (R347). -/
def execTodTxWrite (m : Master) (b : Byte) (s : State) : Host.Outcome State Fault Refusal :=
  .next (s.onWrite m (timB + 0x134) fun s => s.wrTodTx b.toNat)

/-- The bit rate of the ToD lines (R347). -/
def State.todBaud (s : State) : Nat :=
  let v := s.fld timB F.TIM_TOD_CFG.BAUD
  if v = 0 then 9600 else if v = 1 then 19200 else if v = 2 then 38400 else if v = 3 then 57600 else 115200

/-- The oldest `k` ToD bytes are sent. They leave the FIFO as their sending starts (log 171). -/
def State.todSend (s : State) (k : Nat) : State :=
  ({ s.emit (.todOut s.todBaud (s.tim.todTx.take k)) with tim := { s.tim with todTx := s.tim.todTx.drop k } }).showTod

/-- TOD_TX_START (R347): the queued bytes are sent, at once with TX_PPS = 0, else those a PPS_OUT edge has released, TX_DLY µs
after it. -/
def execTodTxStart (s : State) : Host.Outcome State Fault Refusal :=
  .next <| s.onLive 0x04 fun s =>
    if s.tim.todTx.isEmpty then s
    else if s.bit timB F.TIM_TOD_CFG.TX_PPS then
      match s.tim.todArms with
      | [] => s
      | (k, at_) :: l => ({ s.elapseTo at_ with tim := { (s.elapseTo at_).tim with todArms := l } }).todSend k
    else ({ s with tim := { s.tim with todArms := [] } }).todSend s.tim.todTx.length

/-- A write of TIM_TOD_RX (R347): POP discards the oldest received byte. -/
def State.wrTodRx (s : State) (v : Nat) : State :=
  if F.TIM_TOD_RX.POP.of v = 0 then s else ({ s with tim := { s.tim with todRx := s.tim.todRx.tail } }).showTod

/-- TOD_RX_POP (R347). -/
def execTodRxPop (m : Master) (s : State) : Host.Outcome State Fault Refusal :=
  .next (s.onWrite m (timB + 0x138) fun s => s.wrTodRx (2 ^ 30))

end Sys2Proof.Machine
end

