-- ==== Sys2Proof/Machine/Act.lean ====
section
/-! DEFINITION. A PON channel's activation engine (R107 to R111), its service state (R155 to R157), PLOAM messages (R87,
R116 to R118, R122, R123, R133), watchful sleep (R135, R136) and the allocation table (R123, R138). -/

namespace Sys2Proof.Machine

/-! ### Timers -/

def Tm.to1 (c : Nat) : Nat := 0x30000 + 16 * c
def Tm.to2 (c : Nat) : Nat := 0x30001 + 16 * c
def Tm.ps (c : Nat) : Nat := 0x30002 + 16 * c
def Tm.drainTo (c : Nat) : Nat := 0x30003 + 16 * c
def Tm.cdrLoss (c : Nat) : Nat := 0x30004 + 16 * c

/-! ### Watchful sleep (R135, R136) -/

/-- Whether a tenant port flagged as a radio port is up (R136, R189). -/
def State.radioPortUp (s : State) : Bool :=
  (List.range 48).any fun p => s.bit (tqB p) F.TQ_PORT_CFG.RADIO && s.bit (tqB p) F.TQ_LANE_STAT.LINK

/-- The map slots in force on a channel. -/
def State.boundSlots (s : State) (c : Nat) : List MapSlot := (s.bcs c).active.flatMap fun e => mapSlots e.2

/-- Whether any radio queue holds data (R136). -/
def State.radioData (s : State) : Bool :=
  ((s.boundSlots 0 ++ s.boundSlots 1).filter (·.radio)).any fun x => decide (0 < s.queueBytes x.queue)

/-- LWI (R136). -/
def State.lwi (s : State) (c : Nat) : Bool :=
  let qs := ((s.boundSlots c).map (·.queue)).eraseDups
  decide (s.pf c F.PN_PS_CTRL.LWI_KIB * 1024 < (qs.map s.queueBytes).sum) || s.radioData || s.radioPortUp ||
    s.bit (pnB c) F.PN_PS_CTRL.AWAKE

/-- The power-saving state: 0 ActiveHeld, 1 ActiveFree, 2 WatchAware, 3 Watch. -/
def State.ps (s : State) (c : Nat) : Nat := s.pf c F.PN_US_STAT.PS

/-- The power-saving machine enters a state, with the timer of that state (R135). -/
def State.psGo (s : State) (c new : Nat) : State :=
  let old := s.ps c
  let s := (s.stopTimer (Tm.ps c)).setPf c F.PN_US_STAT.PS new
  let ms :=
    if new = 0 then s.pf c F.PN_PS_CFG.THOLD
    else if new = 2 then s.pf c F.PN_PS_CFG.TAWARE
    else s.pf c F.PN_PS_CFG.ILOWPOWER
  let s := if new = 1 ∨ s.act c ≠ 5 then s else s.startTimer (Tm.ps c) (max 1 ms * msTicks)
  let s := if old = new then s else s.pRaise c 13 Ev.PN_PS_STATE [(1, old), (1, new)]
  s.showTx c

/-- The machine wakes: Sleep_Request(Awake) is queued (R135). -/
def State.psWake (s : State) (c : Nat) : State := (s.hwPloam c (.sleepRequest false)).psGo c 0

/-- The rows of R135 whose condition holds now, but for FWI and the timers. -/
def State.psRow (s : State) (c : Nat) : State :=
  let p := s.ps c
  if s.act c ≠ 5 then s
  else if p = 0 then
    (if s.bit (pnB c) F.PN_PS_CFG.ENABLE && !s.timerOn (Tm.ps c) then s.psGo c 1 else s)
  else if p = 1 then
    (if (s.pn c).sleepOn && !s.lwi c then (s.hwPloam c (.sleepRequest true)).psGo c 2 else s)
  else if s.lwi c || !(s.pn c).sleepOn then s.psWake c else s

/-- Act on every row of R135 that holds. -/
def State.psCheck (s : State) (c : Nat) : State := (s.psRow c).psRow c

/-- FWI in a BWmap entry of the device (R135). -/
def State.psFwi (s : State) (c : Nat) : State := if s.act c = 5 ∧ 2 ≤ s.ps c then s.psWake c else s

/-- PS_THOLD_EXPIRY (R135). -/
def execPsTholdExpiry (c : PonCh) (s : State) : Host.Outcome State Fault Refusal :=
  .next (s.onLive (0x08 + c.val) fun s => if s.ps c.val = 0 then s.expire (Tm.ps c.val) fun s => s.psCheck c.val else s)

/-- PS_TAWARE_EXPIRY (R135): LWI wins over the timer. -/
def execPsTawareExpiry (c : PonCh) (s : State) : Host.Outcome State Fault Refusal :=
  .next (s.onLive (0x08 + c.val) fun s => if s.ps c.val = 2 then s.expire (Tm.ps c.val) fun s =>
      (if s.lwi c.val then s.psWake c.val else s.psGo c.val 3) else s)

/-- PS_ILOWPOWER_EXPIRY (R135): LWI wins over the timer. -/
def execPsIlowpowerExpiry (c : PonCh) (s : State) : Host.Outcome State Fault Refusal :=
  .next (s.onLive (0x08 + c.val) fun s => if s.ps c.val = 3 then s.expire (Tm.ps c.val) fun s =>
      (if s.lwi c.val then s.psWake c.val else s.psGo c.val 2) else s)

/-! ### Service state (R155 to R157) -/

/-- The service state: 0 IN, 1 DRAIN, 2 OUT, 3 RETURN. -/
def State.svc (s : State) (c : Nat) : Nat := s.pf c F.PN_SVC_CTRL.STATE

/-- Show STRIPE_EX (R146). -/
def State.showStripeEx (s : State) (c : Nat) : State :=
  s.setPf c F.PN_SVC_CTRL.STRIPE_EX (b2n (decide (s.svc c ≠ 0) || decide (s.act c ≠ 5)))

/-- The service state changes, for cause 0 item 5 of R49, 1 WANT written, 2 Till empty, 3 DRAIN_TO, 4 engine lost or 5 O5
(R155); leaving IN settles every stripe context (R153). The limit of DRAIN is DRAIN_TO as it stands on entry: a later write of
the field moves no running limit (log 154). -/
def State.svcGo (s : State) (c new cause : Nat) : State :=
  let old := s.svc c
  let s := (s.setPf c F.PN_SVC_CTRL.STATE new).showStripeEx c
  let s := if new = 1 then s.startTimer (Tm.drainTo c) (max 1 (s.pf c F.PN_SVC_CTRL.DRAIN_TO) * msTicks)
    else s.stopTimer (Tm.drainTo c)
  let s := if new = 2 then s.pCount c Ctr.PN.SVC_OUT else s
  let s := if old = 0 then s.settleEvery 2 else s
  let s := if old = 2 ∧ new ≠ 2 then s.prbsLeave c else s
  s.pRaise c 1 Ev.TW_SVC_STATE [(1, old), (1, new), (1, cause)]

/-- "Engine lost" (R155): the Till's content, with what the cancelled bursts returned to it, is discarded. -/
def State.svcLost (s : State) (c : Nat) : State :=
  if 2 ≤ s.svc c then s
  else if s.pf c F.PN_SVC_CTRL.WANT = 1 then (s.flushTill c).svcGo c 3 4
  else ((s.setTxOff c true).flushTill c).svcGo c 2 4

/-! ### The activation engine (R108 to R110) -/

/-- Erase every slot the key exchange has filled (R110). -/
def State.erasePonKeys (s : State) (c : Nat) : State :=
  let l := (s.pn c).filled
  let s := l.foldl (fun s n => s.keyWrite { erase := true, slot := n, typ := 0, use := 0, key := 0, op := 1, src := 1 }) s
  s.setPn c { s.pn c with filled := [] }

/-- To clear (R110). -/
def State.clearAct (s : State) (c : Nat) : State :=
  let s := s.setPf c F.PN_US_STAT.ONU_ID 0x3FF
  let s := s.setPf c F.PN_OMCC.VALID 0
  let s := (s.setPf c F.PN_EQD.VALID 0).setPf c F.PN_EQD.EQD 0
  let s := s.erasePonKeys c
  let s := s.setPn c { s.pn c with allocs := [], keyWaits := [], usKey := 0, eqdUse := 0 }
  s.psGo c 0

/-- The timers of a state the engine enters (R108). -/
def State.actTimers (s : State) (c new : Nat) : State :=
  let s := (s.stopTimer (Tm.to1 c)).stopTimer (Tm.to2 c)
  if new = 4 then s.startTimer (Tm.to1 c) (max 1 (s.pf c F.PN_ACT_CFG.TO1) * msTicks)
  else if new = 6 then s.startTimer (Tm.to2 c) (max 1 (s.pf c F.PN_ACT_CFG.TO2) * msTicks)
  else s

/-- The engine's state changes from `old` to `new`: bursts are cancelled under R109 and the change is raised (R108, R140). -/
def State.actMoved (s : State) (c old new cause : Nat) : State :=
  let s := (s.setPf c F.PN_US_STAT.ACT new).actTimers c new
  let s := if 3 ≤ old ∧ old ≤ 5 then s.cancelBursts c else s
  let s := s.pRaise c 13 Ev.PN_ACT_STATE [(1, old), (1, new), (1, cause)]
  if old = 7 ∨ new = 7 then s.pRaise c 13 Ev.PN_ESTOP [(1, b2n (decide (old = 7)))] else s

/-- What follows the engine's state follows its change (R113, R135, R146, R155, R338). -/
def State.actFollow (s : State) (c old new : Nat) : State :=
  let s := if new = 4 then s.setPn c { s.pn c with regWarned := false } else s
  let s := if new = 5 then (s.setPn c { s.pn c with sleepOn := false }).psGo c 0
    else if old = 5 then (s.stopTimer (Tm.ps c)).servoChannelFault c
    else s
  let s := (s.showTx c).showStripeEx c
  if new = 1 ∨ new = 7 then s.svcLost c
  else if new = 5 ∧ s.svc c = 3 then s.svcGo c 0 5
  else s

/-- The engine enters another state (R108). -/
def State.actEnter (s : State) (c new cause : Nat) : State :=
  if s.act c = new then s else (s.actMoved c (s.act c) new cause).actFollow c (s.act c) new

/-- The engine enters a state; one that enters O1.1 while alignment is in SYNC moves on to O1.2 (R108). -/
def State.actGo (s : State) (c new cause : Nat) : State :=
  let s := s.actEnter c new cause
  if s.act c = 1 ∧ s.align c = 2 then s.actEnter c 2 1 else s

/-- Alignment has entered or left SYNC (R108). -/
def State.syncChanged (s : State) (c : Nat) (inSync : Bool) : State :=
  let a := s.act c
  if inSync then (if a = 1 then s.actGo c 2 1 else if a = 6 then s.actGo c 5 1 else s)
  else if 2 ≤ a ∧ a ≤ 4 then (s.clearAct c).actGo c 1 7
  else if a = 5 then s.actGo c 6 7
  else s

/-- Whether item 5 of R49 is still to come (R107, R155). -/
def State.beforePon (s : State) : Bool := decide (s.counting < 5)

/-- RESTART (R108). -/
def State.restart (s : State) (c : Nat) : State :=
  if s.beforePon then s else (s.clearAct c).actGo c (if (s.pn c).estop then 7 else 1) 11

/-- Item 5 of R49 for a channel: the alignment machine leaves the HUNT it was held in (R54), the engine starts (R108) and the service state acts on WANT (R155). -/
def State.pnStart (s : State) (c : Nat) : State :=
  if s.act c ≠ 0 then s
  else
    let s := s.setPf c F.PN_RX_STAT.STATE (if s.bit (pnB c) F.PN_RX_CTRL.ENABLE && !s.bit (pnB c) F.PN_PRBS_CTRL.CHK_EN then 0 else 3)
    let s := s.actGo c (if (s.pn c).estop then 7 else 1) 0
    if s.pf c F.PN_SVC_CTRL.WANT = 1 then s.svcGo c 3 0 else s.setTxOff c true

/-- TO1_EXPIRY (R108). -/
def execTo1Expiry (c : PonCh) (s : State) : Host.Outcome State Fault Refusal :=
  .next (s.onLive (0x08 + c.val) fun s => s.expire (Tm.to1 c.val) fun s =>
    ((s.pRaise c.val 13 Ev.PN_TO_EXPIRE [(1, 0)]).clearAct c.val).actGo c.val 1 5)

/-- TO2_EXPIRY (R108). -/
def execTo2Expiry (c : PonCh) (s : State) : Host.Outcome State Fault Refusal :=
  .next (s.onLive (0x08 + c.val) fun s => s.expire (Tm.to2 c.val) fun s =>
    ((s.pRaise c.val 13 Ev.PN_TO_EXPIRE [(1, 1)]).clearAct c.val).actGo c.val 1 6)

/-- A write of PN_ACT_CTRL: TX_OFF is a software control in IN alone (R157), and RESTART acts (R108). -/
def State.wrActCtrl (s : State) (c v : Nat) : State :=
  let s := if s.svc c = 0 then s.setTxOff c (decide (F.PN_ACT_CTRL.TX_OFF.of v = 1)) else s
  if F.PN_ACT_CTRL.RESTART.of v = 1 then s.restart c else s

/-- PN_ACT_RESTART (R108): the write carries TX_OFF as it stands. -/
def execPnActRestart (m : Master) (c : PonCh) (s : State) : Host.Outcome State Fault Refusal :=
  .next (s.onWrite m (pnB c.val + 0x10C) fun s => s.wrActCtrl c.val (2 * s.pf c.val F.PN_ACT_CTRL.TX_OFF + 1))

/-- PN_TX_OFF_WRITE (R109, R157). -/
def execPnTxOffWrite (m : Master) (c : PonCh) (v : Bool) (s : State) : Host.Outcome State Fault Refusal :=
  .next (s.onWrite m (pnB c.val + 0x10C) fun s => s.wrActCtrl c.val (2 * b2n v))

/-- A write of PN_SVC_CTRL (R155, R156, R158): before item 5 of R49 it is stored alone; a WANT of 0 is refused while the other
channel is not IN and FORCE is 0. A refused write stores its DRAIN_TO beside its FORCE, and a WANT of 0 written where it is 0
already sets nothing to 0 and is accepted (log 154). -/
def State.wrSvcCtrl (s : State) (c v : Nat) : State :=
  let old := s.pf c F.PN_SVC_CTRL.WANT
  let new := F.PN_SVC_CTRL.WANT.of v
  let s := (s.setPf c F.PN_SVC_CTRL.DRAIN_TO (F.PN_SVC_CTRL.DRAIN_TO.of v)).setPf c F.PN_SVC_CTRL.FORCE
    (F.PN_SVC_CTRL.FORCE.of v)
  let other := s.svc (1 - c)
  if s.beforePon then (s.setPf c F.PN_SVC_CTRL.WANT new).setPf c F.PN_SVC_CTRL.REFUSED 0
  else if old = 1 ∧ new = 0 ∧ other ≠ 0 ∧ F.PN_SVC_CTRL.FORCE.of v = 0 then
    (s.setPf c F.PN_SVC_CTRL.REFUSED 1).pRaise c 1 Ev.TW_LAST_REFUSED [(1, other)]
  else
    let s := (s.setPf c F.PN_SVC_CTRL.WANT new).setPf c F.PN_SVC_CTRL.REFUSED 0
    let st := s.svc c
    if new = 1 then
      (if st = 1 then s.svcGo c 0 1
      else if st = 2 then ((s.setTxOff c false).restart c).svcGo c 3 1
      else s)
    else if st = 0 then s.svcGo c 1 1
    else if st = 3 then (s.setTxOff c true).svcGo c 2 1
    else s

/-- A value for PN_SVC_CTRL with the DRAIN_TO in force. -/
def State.svcWord (s : State) (c : Nat) (force want : Bool) : Nat :=
  s.pf c F.PN_SVC_CTRL.DRAIN_TO * 2 ^ 8 + 2 * b2n force + b2n want

/-- PN_SVC_WANT_CLEAR (R155, R156). -/
def execPnSvcWantClear (m : Master) (c : PonCh) (force : Bool) (s : State) : Host.Outcome State Fault Refusal :=
  .next (s.onWrite m (pnB c.val + 0x1A0) fun s => s.wrSvcCtrl c.val (s.svcWord c.val force false))

/-- PN_SVC_WANT_SET (R155). -/
def execPnSvcWantSet (m : Master) (c : PonCh) (force : Bool) (s : State) : Host.Outcome State Fault Refusal :=
  .next (s.onWrite m (pnB c.val + 0x1A0) fun s => s.wrSvcCtrl c.val (s.svcWord c.val force true))

/-- PN_SVC_DRAIN_DONE (R155): in DRAIN, with the Till empty and no burst scheduled. -/
def execPnSvcDrainDone (c : PonCh) (s : State) : Host.Outcome State Fault Refusal :=
  .next (s.onLive (0x08 + c.val) fun s => if s.svc c.val = 1 ∧ s.tillSdus c.val = [] ∧ (s.pn c.val).bursts = [] then
      (s.setTxOff c.val true).svcGo c.val 2 2 else s)

/-- PN_SVC_DRAIN_TIMEOUT (R155). -/
def execPnSvcDrainTimeout (c : PonCh) (s : State) : Host.Outcome State Fault Refusal :=
  .next (s.onLive (0x08 + c.val) fun s => s.expire (Tm.drainTo c.val) fun s => ((s.setTxOff c.val true).flushTill c.val).svcGo c.val 2 3)

/-! ### PLOAM messages (R87, R118) -/

/-- Queue a message to a channel's OSP: type 1 PLOAM or 2 OMCI (R100). -/
def State.ospPush (s : State) (c typ : Nat) (data : List Byte) : State :=
  let p := s.pn c
  let used := (p.ospQ.map fun x => x.2.length + 2).sum
  if used + data.length + 2 ≤ 16384 then s.setPn c { p with ospQ := p.ospQ ++ [(typ, data)] }
  else
    ((s.setPn c { p with ospLost := true }).pCount c Ctr.PN.OSP_LOST).pRaiseMs c 13 Ev.PN_OSP_LOST 0
      [(1, typ), (2, data.length)]

/-- Whether an item of the present frame has a byte inside a marked codeword (R83). -/
def PonState.marked (p : PonState) (x : Span) : Bool := p.marks.any fun k => decide (x.first ≤ k) && decide (k ≤ x.last)

/-- The key a PLOAM message's MIC is taken under (R118, R370): the channel's PLOAM_IK, and before the derivation the default key
in ROM (log 150). -/
def State.ploamKey (s : State) (c : Nat) : Nat :=
  match s.slot ((s.fld vltB (if c = 0 then F.VLT_PON_SLOTS.PCA_BASE else F.VLT_PON_SLOTS.PCB_BASE) + 1) % 1024) with
  | some k => k.key
  | none => Config.romPloamIk

/-- The 64-bit MIC of a message: the first half of the CMAC over its direction, 1 downstream and 2 upstream, and its bytes
(log 150). -/
def micOf (key dir : Nat) (bytes : List Byte) : Nat := cmac 1 key (BitVec.ofNat 8 dir :: bytes) / 2 ^ 64

/-- Whether the last 8 bytes of a downstream message are its MIC (R118). -/
def State.ploamMicOk (s : State) (c : Nat) (raw : List Byte) : Bool :=
  decide (8 ≤ raw.length) && decide (beNat (raw.drop (raw.length - 8)) = micOf (s.ploamKey c) 1 (raw.take (raw.length - 8)))

/-- A PLOAM message of a frame that is delineated (R81, R83, R86, R87): one in a marked codeword or for another ONU is discarded,
one whose MIC fails is rejected (R118), and otherwise `f` handles it. -/
def State.onPloam (s : State) (c : Nat) (h : PloamIn) (f : State → State) : State :=
  let p := s.pn c
  if s.live (0x08 + c) = false ∨ s.align c ≠ 2 ∨ p.fsLost = true then s
  else if p.marked h.span then s.pCount c Ctr.PN.UNCORR_DROP
  else if h.to_.toNat ≠ s.pf c F.PN_US_STAT.ONU_ID ∧ h.to_.toNat ≠ 0x3FF then s.pCount c Ctr.PN.PLOAM_OTHER
  else
    let s := s.pCount c Ctr.PN.PLOAM_OWN
    let s := if s.bit (pnB c) F.PN_OSP_CFG.PLOAM_COPY then s.ospPush c 1 h.raw else s
    if s.ploamMicOk c h.raw then f s else (s.pCount c Ctr.PN.PLOAM_MIC).ploamReject c 0 h.typ.toNat

/-- A message that hardware handles (R118). -/
def State.onHwPloam (s : State) (c : Nat) (h : PloamIn) (f : State → State) : State :=
  s.onPloam c h fun s => f (s.pCount c Ctr.PN.PLOAM_HW)

/-- A parameter error: its completion code, and PN_PLOAM_REJECT (R116, R122). -/
def State.ploamParam (s : State) (c : Nat) (h : PloamIn) : State :=
  (s.hwPloam c (.ack 3)).ploamReject c 2 h.typ.toNat

/-- Acknowledge with OK when asked to. -/
def State.ackOk (s : State) (c : Nat) (h : PloamIn) : State := if h.ack then s.hwPloam c (.ack 0) else s

/-- The channel's serial number as one number (R112). -/
def State.serialNat (s : State) (c : Nat) : Nat := beNat (s.serial c)

/-- PLOAM_BURST_PROFILE (R108, R133, R137). -/
def execPloamBurstProfile (c : PonCh) (h : PloamIn) (ix rate : Fin 4) (fec : Bool) (preamble : BitVec 12)
    (delim : BitVec 4) (s : State) : Host.Outcome State Fault Refusal :=
  .next (s.onHwPloam c.val h fun s =>
    let valid := s.xgs c.val || decide (rate.val ≤ s.rateMax c.val)
    let w := b2n valid * 2 ^ 31 + rate.val * 2 ^ 29 + b2n fec * 2 ^ 28 + preamble.toNat * 16 + delim.toNat
    let s := s.setReg (pnB c.val + 0x190 + 4 * ix.val) (BitVec.ofNat 32 w)
    if !valid then s.pCount c.val Ctr.PN.PLOAM_UNSUP
    else if s.act c.val = 2 then s.actGo c.val 3 2
    else s)

/-- PLOAM_ASSIGN_ONU_ID (R108, R110). -/
def execPloamAssignOnuId (c : PonCh) (h : PloamIn) (sn : BitVec 64) (onuId : BitVec 10) (s : State) :
    Host.Outcome State Fault Refusal :=
  .next (s.onHwPloam c.val h fun s =>
    if s.act c.val ≠ 3 ∨ sn.toNat ≠ s.serialNat c.val then s
    else
      let s := s.setPf c.val F.PN_US_STAT.ONU_ID onuId.toNat
      let s := (s.setPf c.val F.PN_OMCC.PORT_ID onuId.toNat).setPf c.val F.PN_OMCC.VALID 1
      let p := s.pn c.val
      let s := s.setPn c.val { p with allocs := SMap.set (fun _ => none) p.allocs 0 (some (0, onuId.toNat)) }
      s.actGo c.val 4 3)

/-- PLOAM_RANGING_TIME (R108, R116, R117): `eqd` is the message's EqD, or its signed change, in the OLT's unit. -/
def execPloamRangingTime (c : PonCh) (h : PloamIn) (relative : Bool) (eqd : Int) (s : State) :
    Host.Outcome State Fault Refusal :=
  .next (s.onHwPloam c.val h fun s =>
    if s.act c.val ≠ 4 ∧ s.act c.val ≠ 5 then s
    else
      let unit := s.pf c.val (if s.xgs c.val then F.PN_EQD_CFG.UNIT_XGS else F.PN_EQD_CFG.UNIT_50G)
      let new : Int := eqd * unit + if relative then (s.pf c.val F.PN_EQD.EQD : Int) else 0
      if new < 0 ∨ 33554431 < new then s.ploamParam c.val h
      else
        let s := (s.setPf c.val F.PN_EQD.VALID 1).setPf c.val F.PN_EQD.EQD new.toNat
        let s := { s with tim := { s.tim with rangedSince := s.tim.rangedSince.set c true } }
        let s := s.pRaise c.val 13 Ev.PN_RANGED [(4, new.toNat)]
        let s := s.ackOk c.val h
        if s.act c.val = 4 then s.actGo c.val 5 4 else s)

/-- PLOAM_DEACTIVATE_ONU_ID (R108). -/
def execPloamDeactivateOnuId (c : PonCh) (h : PloamIn) (s : State) : Host.Outcome State Fault Refusal :=
  .next (s.onHwPloam c.val h fun s =>
    if s.act c.val = 4 ∨ s.act c.val = 5 then (s.clearAct c.val).actGo c.val 1 8 else s)

/-- PLOAM_DISABLE_SERIAL_NUMBER (R108, R111): enable or disable, for a serial number or, to enable, for all. -/
def execPloamDisableSerialNumber (c : PonCh) (h : PloamIn) (enable all : Bool) (sn : BitVec 64) (s : State) :
    Host.Outcome State Fault Refusal :=
  .next (s.onHwPloam c.val h fun s =>
    let a := s.act c.val
    let mine := decide (sn.toNat = s.serialNat c.val)
    if enable then
      (if a = 7 ∧ (all || mine) = true then (s.setPn c.val { s.pn c.val with estop := false }).actGo c.val 1 10 else s)
    else if 2 ≤ a ∧ a ≤ 6 ∧ all = false ∧ mine = true then
      let s := s.clearAct c.val
      (s.setPn c.val { s.pn c.val with estop := true }).actGo c.val 7 9
    else s)

/-- PLOAM_REQUEST_REGISTRATION (R113, R118, R119). -/
def execPloamRequestRegistration (c : PonCh) (h : PloamIn) (s : State) : Host.Outcome State Fault Refusal :=
  .next (s.onHwPloam c.val h fun s =>
    let (s, x) := s.registration c.val
    s.hwPloam c.val x)

/-! ### Allocations (R123) -/

/-- An assignment is refused: cause 0 full, 1 duplicate. -/
def State.allocRefused (s : State) (c allocId cause : Nat) : State :=
  ((s.pCount c Ctr.PN.ALLOC_REFUSED).pRaise c 13 Ev.PN_ALLOC_REFUSED [(2, allocId), (1, cause)]).hwPloam c (.ack 3)

/-- The lowest free index from 1 to 127. -/
def State.freeAlloc (s : State) (c : Nat) : Option Nat :=
  (List.range 128).find? fun i => decide (1 ≤ i) && (SMap.get (fun _ => none) (s.pn c).allocs i).isNone

/-- PLOAM_ASSIGN_ALLOC_ID (R123). A de-assign code for an Alloc-ID that no entry holds finds nothing to invalidate, and is
acknowledged as any other when asked (log 156). -/
def execPloamAssignAllocId (c : PonCh) (h : PloamIn) (allocId : BitVec 14) (assign : Bool) (s : State) :
    Host.Outcome State Fault Refusal :=
  .next (s.onHwPloam c.val h fun s =>
    let p := s.pn c.val
    if assign then
      match s.allocIx c.val allocId.toNat, s.freeAlloc c.val with
      | some _, _ => s.allocRefused c.val allocId.toNat 1
      | none, none => s.allocRefused c.val allocId.toNat 0
      | none, some i =>
        (s.setPn c.val { p with allocs := SMap.set (fun _ => none) p.allocs i (some (1, allocId.toNat)) }).ackOk c.val h
    else
      match s.allocIx c.val allocId.toNat with
      | none => s.ackOk c.val h
      | some i => (s.setPn c.val { p with allocs := SMap.set (fun _ => none) p.allocs i none }).ackOk c.val h)

/-! ### Keys, sleep and the Steward's messages -/

/-- PLOAM_KEY_CONTROL (R122, R371): a new key from the Mint, wrapped and reported in one fragment; an empty KEK slot leaves
nothing to report, and counts (R390). -/
def execPloamKeyControl (c : PonCh) (h : PloamIn) (index : BitVec 2) (s : State) : Host.Outcome State Fault Refusal :=
  .next (s.onHwPloam c.val h fun s =>
    let i := index.toNat
    if i = 0 ∨ i = 3 then s.ploamParam c.val h
    else if !s.mintOk then s
    else
      let slot := (s.pf c.val F.PN_KEY_CFG.SLOT_BASE + i - 1) % 1024
      let (s, key) := s.mintReseed.drbgRequest
      let s := s.ponKey c.val slot 1 key 1
      let s := s.setPf c.val (if i = 1 then F.PN_KEY_UC.UC1 else F.PN_KEY_UC.UC2) slot
      match s.slot (s.pf c.val F.PN_KEY_CFG.KEK_SLOT) with
      | none => s.count (vltB + Ctr.VLT.KEY_ABSENT)
      | some kek =>
        let (s, n) := s.newN c.val
        let p := s.pn c.val
        let s := s.setPn c.val { p with keyWaits := p.keyWaits ++ [{ no := n, index := i, slot, sent := false }] }
        s.queuePloam c.val
          { hw := true, msg := .keyReport i 0 true (Config.keyWrap kek.key (key % 2 ^ 128)), keyNo := n + 1 })

/-- PLOAM_SLEEP_ALLOW (R135). -/
def execPloamSleepAllow (c : PonCh) (h : PloamIn) (on : Bool) (s : State) : Host.Outcome State Fault Refusal :=
  .next (s.onHwPloam c.val h fun s =>
    if !s.bit (pnB c.val) F.PN_PS_CFG.ENABLE then s.hwPloam c.val (.ack 0)
    else
      let s := s.ackOk c.val h
      if s.act c.val ≠ 5 then s else (s.setPn c.val { s.pn c.val with sleepOn := on }).psCheck c.val)

/-- The Steward answers one of its messages (R118, R404): it adjusts the optics and acknowledges, or reports as its figures
give. -/
def State.stewardPloam (s : State) (c : Nat) (inquire : Bool) (raw : List Byte) : State :=
  if inquire then
    let (s, n) := s.takeFree
    s.queuePloam c { hw := false, msg := .powerReport (leBytes 48 n), keyNo := 0 }
  else (s.emit (.optics c raw)).queuePloam c { hw := false, msg := .ack 0, keyNo := 0 }

/-- A Steward-handled message (R118, R396): handled in RUN, held in RESTART, else discarded. -/
def State.onStwPloam (s : State) (c : Nat) (h : PloamIn) (inquire : Bool) : State :=
  s.onPloam c h fun s =>
    let st := s.fld stwB F.STW_STAT.STATE
    if st = 1 then (s.pCount c Ctr.PN.PLOAM_STW).stewardPloam c inquire h.raw
    else if st = 2 then
      let s := s.pCount c Ctr.PN.PLOAM_STW
      let p := s.pn c
      if p.stwPloam.length < 16 then s.setPn c { p with stwPloam := p.stwPloam ++ [(b2n inquire, h.raw)] }
      else s.count (stwB + Ctr.STW.PLOAM_LOST)
    else s.pCount c Ctr.PN.PLOAM_UNSUP

/-- PLOAM_CHANGE_POWER_LEVEL (R118, R404). -/
def execPloamChangePowerLevel (c : PonCh) (h : PloamIn) (s : State) : Host.Outcome State Fault Refusal :=
  .next (s.onStwPloam c.val h false)

/-- PLOAM_POWER_CONSUMPTION_INQ (R118, R404). -/
def execPloamPowerConsumptionInq (c : PonCh) (h : PloamIn) (s : State) : Host.Outcome State Fault Refusal :=
  .next (s.onStwPloam c.val h true)

/-- PLOAM_UNSUPPORTED (R118): a multi-wavelength message is discarded, any other unlisted type answered and rejected. -/
def execPloamUnsupported (c : PonCh) (h : PloamIn) (multi : Bool) (s : State) : Host.Outcome State Fault Refusal :=
  .next (s.onPloam c.val h fun s =>
    let s := s.pCount c.val Ctr.PN.PLOAM_UNSUP
    if multi then s
    else
      let s := if h.ack then s.hwPloam c.val (.ack 2) else s
      s.ploamReject c.val 1 h.typ.toNat)

/-! ### The allocation table's commands (R123, R138) -/

/-- A write of PN_ALLOC_CMD: 00 read, 01 discarded, 10 invalidate, 11 no action. -/
def State.wrAllocCmd (s : State) (c v : Nat) : State :=
  let op := F.PN_ALLOC_CMD.OP.of v
  let i := F.PN_ALLOC_CMD.INDEX.of v
  if s.bit (pnB c) F.PN_ALLOC_CMD.BUSY ∨ op = 1 then s
  else
    let s := (s.setPf c F.PN_ALLOC_CMD.OP op).setPf c F.PN_ALLOC_CMD.INDEX i
    let p := s.pn c
    if op = 3 then s
    else if op = 2 then
      (s.setPn c { p with allocs := SMap.set (fun _ => none) p.allocs i none }).setPf c F.PN_ALLOC_CMD.BUSY 1
    else
      let w := match SMap.get (fun _ => none) p.allocs i with
        | none => 0
        | some (o, a) => 2 ^ 31 + o * 2 ^ 14 + a
      (s.setReg (pnB c + 0x184) (BitVec.ofNat 32 w)).setPf c F.PN_ALLOC_CMD.BUSY 1

/-- PN_ALLOC_READ (R123). -/
def execPnAllocRead (m : Master) (c : PonCh) (i : BitVec 7) (s : State) : Host.Outcome State Fault Refusal :=
  .next (s.onWrite m (pnB c.val + 0x180) fun s => s.wrAllocCmd c.val i.toNat)

/-- PN_ALLOC_INVALIDATE (R123). -/
def execPnAllocInvalidate (m : Master) (c : PonCh) (i : BitVec 7) (s : State) : Host.Outcome State Fault Refusal :=
  .next (s.onWrite m (pnB c.val + 0x180) fun s => s.wrAllocCmd c.val (2 * 2 ^ 16 + i.toNat))

/-- PN_ALLOC_WRITE_DISCARD (R123). -/
def execPnAllocWriteDiscard (m : Master) (c : PonCh) (i : BitVec 7) (s : State) : Host.Outcome State Fault Refusal :=
  .next (s.onWrite m (pnB c.val + 0x180) fun s => s.wrAllocCmd c.val (2 ^ 16 + i.toNat))

/-- PN_ALLOC_CMD_DONE (R138). -/
def execPnAllocCmdDone (c : PonCh) (s : State) : Host.Outcome State Fault Refusal :=
  .next (s.onLive (0x08 + c.val) fun s => s.setPf c.val F.PN_ALLOC_CMD.BUSY 0)

/-! ### The bandwidth map (R124) -/

/-- BWMAP_ENTRY (R124, R129, R135): an entry of a delivered BWmap; FWI in an entry of the device wakes it. -/
def execBwmapEntry (c : PonCh) (e : BwEntry) (s : State) : Host.Outcome State Fault Refusal :=
  .next <| s.onLive (0x08 + c.val) fun s =>
    let p := s.pn c.val
    if s.align c.val ≠ 2 ∨ p.fsLost = true ∨ p.bwLost = true then s
    else
      let mine := e.hecOk && (s.entryIx c.val e.allocId.toNat).isSome
      let s := s.bwEntry c.val e
      let s := if e.fwi && mine then s.psFwi c.val else s
      if e.last then s.bwEnd c.val else s

end Sys2Proof.Machine
end

