-- ==== Sys2Proof/Machine/Teller.lean ====
section
/-! DEFINITION. The Teller's dispatch, the inspection engines' scans, the software consumer, cancels, failures and the
Clearing's releases (R253 to R271), and table banks (R232). -/

namespace Sys2Proof.Machine

/-! ### Patterns (R253 to R256) -/

/-- A pattern slot's 35 words as one number. -/
def State.pat (s : State) (bank i : Nat) : Nat := SMap.get (fun _ => 0) s.tlr.pats (bank * 16384 + i)

/-- Whether a slot is VALID. -/
def patValid (v : Nat) : Bool := decide (bits v 31 31 = 1)

/-- The set of a slot. -/
def patSet (v : Nat) : Nat := bits v 27 24

/-- The length of a pattern. -/
def patLen (v : Nat) : Nat := bits (nodeW v 1) 15 10 + 1

/-- Byte j of a slot's words from word w on, high byte first (R254). -/
def patByte (v w j : Nat) : Nat := nodeW v (w + j / 4) / 2 ^ (24 - 8 * (j % 4)) % 256

/-- Whether a pattern matches at a start (R255). -/
def patAt (v : Nat) (bs : List Byte) (pay s : Nat) : Bool :=
  decide (bits (nodeW v 2) 31 16 ≤ s - pay) &&
    (decide (bits (nodeW v 2) 15 0 = 0xFFFF) || decide (s - pay ≤ bits (nodeW v 2) 15 0)) &&
    (List.range (patLen v)).all fun j =>
      decide (Nat.land ((bs.getD (s + j) 0).toNat) (patByte v 19 j) = Nat.land (patByte v 3 j) (patByte v 19 j))

/-- One match: its end offset, the pattern's PID, group and STOP. -/
structure Hit where
  stop : Nat
  pid : Nat
  group : Nat
  last : Bool
  deriving DecidableEq, Repr

/-- The matches of a pattern in a scan range (R255). -/
def patHits (v : Nat) (bs : List Byte) (pay fin : Nat) : List Hit :=
  ((List.range (fin - pay)).filter fun i => decide (pay + i + patLen v ≤ fin) && patAt v bs pay (pay + i)).map fun i =>
    { stop := pay + i + patLen v, pid := bits v 15 0, group := bits (nodeW v 1) 9 6, last := bits (nodeW v 1) 5 5 = 1 }

/-- The VALID slots of a set in a bank. -/
def State.setSlots (s : State) (bank pset : Nat) : List Nat :=
  (s.tlr.pats.filter fun p => decide (p.1 / 16384 = bank) && patValid p.2 && decide (patSet p.2 = pset)).map (·.2)

/-- DEPTH of a set: 0 acts as 1, more than 2,048 as 2,048 (R275). -/
def State.psetDepth (s : State) (bank pset : Nat) : Nat :=
  min 2048 (max 1 (s.fld (window 0x25) (F.INS_PSET_CFG.DEPTH.at (0x40 * bank + 4 * pset))))

/-- The earlier of two matches: by end offset, then by PID (R256). -/
def Hit.first (a : Option Hit) (b : Hit) : Option Hit :=
  match a with
  | none => some b
  | some c => if b.stop < c.stop ∨ (b.stop = c.stop ∧ b.pid < c.pid) then some b else some c

/-- What a scan finds (R255, R256): the matches that count, where it ended, and whether a STOP pattern ended it. -/
def scanHits (hits : List Hit) (fin : Nat) : List Hit × Nat × Bool :=
  match ((hits.filter (·.last)).map (·.stop)).min? with
  | none => (hits, fin, false)
  | some e => (hits.filter fun h => decide (h.stop ≤ e), e, true)

/-- The scan of a packet: the packet with its results, the bytes scanned and the matches (R255, R256). The outcome bits
of 0x5F describe the latest work item, so all five are written (R252). -/
def State.scan (s : State) (p : Packet) (pset : Nat) : Packet × Nat × Nat :=
  let bank := p.w W.EPOCH
  let n := p.bytes.length
  let fin := min n (p.payload + s.psetDepth bank pset)
  let all := (s.setSlots bank pset).flatMap fun v => patHits v p.bytes p.payload fin
  let (hits, e, stopped) := scanHits all fin
  let first := hits.foldl Hit.first none
  let q := (p.setW W.MATCH_CNT (min 255 hits.length)).setW W.GROUPS
    (hits.foldl (fun g h => Nat.lor g (2 ^ h.group)) 0)
  let q := match first with
    | none => (q.setW W.MATCH_ID 0xFFFF).setW W.MATCH_END 0
    | some h => (q.setW W.MATCH_ID h.pid).setW W.MATCH_END h.stop
  let q := ((q.setW W.I_DONE 1).setW W.I_FAIL 0).setW W.STW_DONE 0
  let q := (q.setWB W.I_TRUNC (!stopped && decide (p.payload + s.psetDepth bank pset < n))).setWB W.I_STOP stopped
  (q, e - p.payload, hits.length)

/-! ### Histograms (R271) -/

/-- The histogram bin of a wait in ticks: bin 0 under 20 ns, bin k under 20 × 2ᵏ ns, bin 15 the rest. -/
def waitBin (t : Nat) : Nat := ((List.range 15).find? fun k => decide (t < 25 * 2 ^ k)).getD 15

/-- Count a wait in a histogram of Tally space 0x16. -/
def State.histo (s : State) (base t : Nat) : State := s.tallyAdd 0x16 (base + waitBin t)

/-! ### Items -/

/-- Replace an item, by its ID. -/
def State.putItem (s : State) (it : Item) : State :=
  s.setItems (s.tlr.items.map fun x => if x.id = it.id then it else x)

/-- An item's ID is free again. -/
def State.freeItem (s : State) (it : Item) : State := (s.setItems (s.tlr.items.filter fun x => decide (x.id ≠ it.id))).showTlr

/-- The allocated item of an ID. -/
def State.itemOf (s : State) (id : Nat) : Option Item := s.tlr.items.find? fun x => decide (x.id = id)

/-- A completed item is released and its packet goes on (R264, R268). -/
def State.releaseItem (s : State) (it : Item) : State :=
  let s := ((s.freeItem it).count (tlrB + Ctr.TLR.RELEASED)).pmc 0x031 it.cls
  let s := s.histo 512 (s.now - it.doneAt)
  if it.pkt.wb W.DROP then s.dropPkt it.pipe (it.pkt.setW W.DROP 0) 0x0A
  else if it.resume then (if s.accepts (0x20 + it.pipe) then s.recircPkt it.pkt else s.xingDrop it.pkt)
  else s.byDest it.pipe it.pkt

/-- The Clearing releases what it can of a domain: skips and completed items in GIVE order (R268). -/
def State.runDomain (s : State) (d : Nat) : Nat → State
  | 0 => s
  | n + 1 =>
    match s.domain d with
    | [] => s
    | none :: t => ((s.setDomain d t).showTlr.count (tlrB + Ctr.TLR.SKIPS)).runDomain d n
    | some id :: t =>
      match s.itemOf id with
      | none => ((s.setDomain d t).showTlr).runDomain d n
      | some it =>
        if it.at_ = .done then (((s.setDomain d t).showTlr).releaseItem it).runDomain d n else s

/-- An ordered item's entry becomes a skip (R265, R269). -/
def State.skipEntry (s : State) (it : Item) : State :=
  if it.ordered then s.setDomain it.domain ((s.domain it.domain).map fun e => if e = some it.id then none else e) else s

/-- The domains of items that are gone release what they can, once every one of those items is gone (R265, R268, R269). -/
def State.runDomains (s : State) (l : List Item) : State :=
  (((l.filter (·.ordered)).map (·.domain)).eraseDups).foldl (fun s d => s.runDomain d (s.domain d).length) s

/-- An item completes: it is released at once, or waits for its domain (R268). -/
def State.completeItem (s : State) (it : Item) (p : Packet) : State :=
  let it := { it with pkt := p, at_ := .done, doneAt := s.now }
  if it.ordered then (s.putItem it).runDomain it.domain (s.domain it.domain).length else s.releaseItem it

/-- An item that is ready no longer is: its level's depth is shown. -/
def State.unready (s : State) (it : Item) : State := if it.at_ = .ready then s.showLevel it.level else s

/-- An item fails (R269); an item cancelled before has had its outcome. -/
def State.failItem (s : State) (it : Item) : State :=
  let s := (s.freeItem it).unready it
  if it.marked then s
  else ((s.count (tlrB + Ctr.TLR.FAILED)).dropPkt it.pipe it.pkt 0x09).skipEntry it

/-- Items fail together, before any domain goes on; TLR_FAILED carries the cause and how many (R269): 0 engine fault, 1 INS drain, 2 TLR drain,
3 SW_TIMEOUT. -/
def State.failItems (s : State) (l : List Item) (cause : Nat) : State :=
  let n := (l.filter fun x => !x.marked).length
  let s := (l.foldl State.failItem s).runDomains l
  if n = 0 then s else s.raiseMs 0 Ev.TLR_FAILED 0x24 noInst [(1, cause), (2, n)]

/-- An item is withdrawn, counted at an offset of the TLR window; its entry becomes a skip (R265). -/
def State.cancelItem (s : State) (it : Item) (ctr : Nat) : State :=
  let held := match it.at_ with
    | .engine _ => true
    | .delivered => true
    | _ => false
  let s := if held then s.putItem { it with marked := true } else (s.freeItem it).unready it
  ((s.count (tlrB + ctr)).dropPkt it.pipe it.pkt 0x08).skipEntry it

/-- Items are withdrawn together, before any domain goes on (R265). -/
def State.cancelItems (s : State) (l : List Item) (ctr : Nat) : State := (l.foldl (fun s it => s.cancelItem it ctr) s).runDomains l

/-! ### Engines (R263, R270) -/

/-- STATE of an engine: 0 IN, 1 DRAIN, 2 OUT. -/
def State.engState (s : State) (e : Nat) : Nat := s.fld (insB e) F.INS_ENG_SVC.STATE

/-- Change an engine's state; each change raises INS_ENG_SVC (R270). -/
def State.setEngState (s : State) (e v : Nat) : State :=
  let old := s.engState e
  if old = v then s
  else (s.setF (insB e) F.INS_ENG_SVC.STATE v).raise Ev.INS_ENG_SVC 0x25 e [(1, e), (1, old), (1, v)]

/-- Whether an engine holds an item. -/
def State.engBusy (s : State) (e : Nat) : Bool := s.bit (insB e) F.INS_ENG_STAT.SCANNING

/-- Whether an engine is blocked in TAKE (R263). -/
def State.engBlocked (s : State) (e : Nat) : Bool := s.live 0x25 && decide (s.engState e = 0) && !s.engBusy e

/-- Show whether an engine waits in TAKE. -/
def State.showEng (s : State) (e : Nat) : State := s.setBit (insB e) F.INS_ENG_STAT.WAITING (s.engBlocked e)

/-- How long a span of clocks lies in 1 ms window w. -/
def inWindow (t0 t1 w : Nat) : Nat := min t1 ((w + 1) * msTicks) - max t0 (w * msTicks)

/-- What an engine has scanned in 1 ms window w, of the scans noted: the record holds the last window noted, its clocks and
those of the window before it. -/
def State.scanned (s : State) (e w : Nat) : Nat :=
  let r := SMap.get (fun _ => (0, 0, 0)) s.tlr.scans e
  if r.1 = w then r.2.1 else if r.1 = w + 1 then r.2.2 else 0

/-- An engine has scanned from one clock to another (R271). -/
def State.noteScan (s : State) (e t0 t1 : Nat) : State :=
  let w := t1 / msTicks
  let prev := if w = 0 then 0 else s.scanned e (w - 1) + inWindow t0 t1 (w - 1)
  { s with tlr := { s.tlr with
    scans := SMap.set (fun _ => (0, 0, 0)) s.tlr.scans e (w, s.scanned e w + inWindow t0 t1 w, prev) } }

/-- The engine a class 0 item goes to: the next one blocked in TAKE after the engine last given work (R263). -/
def State.nextEngine (s : State) : Option Nat :=
  ((List.range 32).map fun i => (s.tlr.lastEng + i) % 32).find? s.engBlocked

/-- The next ready item of a class: the highest level, then GIVE order (R262). -/
def State.nextItem (s : State) (cls : Nat) : Option Item :=
  s.tlr.items.foldl (fun b it =>
    if it.at_ = .ready ∧ it.cls = cls then
      match b with
      | none => some it
      | some o => if o.level < it.level then some it else b
    else b) none

/-- TELLER_DISPATCH (R262, R263): the next ready class 0 item goes to the next engine blocked in TAKE. -/
def execTellerDispatch (s : State) : Host.Outcome State Fault Refusal :=
  .next <| s.onLive 0x24 fun s => match s.nextItem 0, s.nextEngine with
    | some it, some e =>
      let s := s.putItem { it with at_ := .engine e, takenAt := s.now }
      let s := { s with tlr := { s.tlr with lastEng := e + 1 } }
      let s := (s.setF (insB e) F.INS_ENG_STAT.SCANNING 1).setF (insB e) F.INS_ENG_STAT.ITEM it.id
      let s := (s.showEng e).showLevel it.level
      (s.count (tlrB + Ctr.TLR.DISPATCHED)).histo (16 * it.level) (s.now - it.since)
    | _, _ => s

/-- An engine's item is gone: it returns to TAKE, or leaves service when it drains (R263, R270). -/
def State.engineFree (s : State) (e : Nat) : State :=
  let s := (s.setF (insB e) F.INS_ENG_STAT.SCANNING 0).setF (insB e) F.INS_ENG_STAT.ITEM 0
  (if s.engState e = 1 then s.setEngState e 2 else s).showEng e

/-- The item an engine holds. -/
def State.engItem (s : State) (e : Nat) : Option Item := s.tlr.items.find? fun x => decide (x.at_ = .engine e)

/-- INS_ENG_STAT.LOAD of an engine as it is read: the share of the last complete 1 ms window in which it was scanning, the
scan under way included (R271). -/
def State.showLoad (s : State) (e : Nat) : State :=
  let w := s.now / msTicks - 1
  let now_ := match s.engItem e with
    | some it => inWindow it.takenAt s.now w
    | none => 0
  if s.now < msTicks then s else s.setF (insB e) F.INS_ENG_STAT.LOAD (min 1000 ((s.scanned e w + now_) * 1000 / msTicks))

/-- An engine gives up the scan it is in (R269). -/
def State.scanCut (s : State) (e : Nat) : State :=
  match s.engItem e with
  | some it => s.noteScan e it.takenAt s.now
  | none => s

/-- INS_SCAN_DONE (R256, R257): an engine's scan ends, after 2 bytes a clock of INS, and its result goes to the
Clearing; the result of a cancelled item is discarded (R265). -/
def execInsScanDone (e : Fin 32) (s : State) : Host.Outcome State Fault Refusal :=
  .next <| s.onLive 0x25 fun s => match s.engItem e.val with
    | none => s
    | some it =>
      let (p, n, hits) := s.scan it.pkt it.pset
      let clocks := ceilDiv n 2
      let s := s.elapseTo (it.takenAt + s.insTicks clocks)
      let s := s.noteScan e.val it.takenAt s.now
      let b := insB e.val
      let s := (((s.count (b + Ctr.INS.ITEMS)).count (b + Ctr.INS.BYTES) n).count (b + Ctr.INS.BUSY_CLK) clocks).count
        (b + Ctr.INS.MATCHES) hits
      let s := ((s.pmc 0x040 e.val clocks).pmc 0x041 e.val n).engineFree e.val
      if it.marked then s.freeItem it else s.completeItem it p

/-- INS_ENGINE_FAULT (R269, R270): an engine in service fails its item and goes OUT with FAULT set. -/
def execInsEngineFault (e : Fin 32) (s : State) : Host.Outcome State Fault Refusal :=
  .next <| s.onLive 0x25 fun s =>
    if s.engState e.val = 2 then s
    else
      let b := insB e.val
      let id := s.fld b F.INS_ENG_STAT.ITEM
      let held := s.engItem e.val
      let s := (s.scanCut e.val).count (b + Ctr.INS.FAULTS)
      let s := (s.setF b F.INS_ENG_SVC.FAULT 1).setF b F.INS_ENG_SVC.WANT 0
      let s := s.raise Ev.INS_ENG_FAULT 0x25 e.val [(1, e.val), (2, id)]
      let s := ((s.setF b F.INS_ENG_STAT.SCANNING 0).setF b F.INS_ENG_STAT.ITEM 0).setEngState e.val 2
      let s := s.showEng e.val
      match held with
      | none => s
      | some it => s.failItems [it] 0

/-- A write of INS_ENG_SVC (R270). WANT = 1 in DRAIN acts on nothing: the drain ends in OUT. -/
def State.wrEngSvc (s : State) (e v : Nat) : State :=
  let w := F.INS_ENG_SVC.WANT.of v
  let s := s.setF (insB e) F.INS_ENG_SVC.WANT w
  if w = 0 ∧ s.engState e = 0 then
    let s := s.setEngState e 1
    (if s.engBusy e then s else s.setEngState e 2).showEng e
  else if w = 1 ∧ s.engState e = 2 then
    ((s.setF (insB e) F.INS_ENG_SVC.FAULT 0).setEngState e 0).showEng e
  else s

/-- INS_ENG_WANT_CLEAR (R270): WANT = 0 starts an engine drain. -/
def execInsEngWantClear (m : Master) (e : Fin 32) (s : State) : Host.Outcome State Fault Refusal :=
  .next (s.onWrite m (insB e.val) fun s => s.wrEngSvc e.val 0)

/-- INS_ENG_WANT_SET (R270): WANT = 1 returns an OUT engine to IN and TAKE. -/
def execInsEngWantSet (m : Master) (e : Fin 32) (s : State) : Host.Outcome State Fault Refusal :=
  .next (s.onWrite m (insB e.val) fun s => s.wrEngSvc e.val 1)

/-! ### The software consumer (R260, R264) -/

def Tm.swTimeout : Nat := 0x20001

/-- The item delivered to the software consumer. -/
def State.delivered (s : State) : Option Item := s.tlr.items.find? fun x => decide (x.at_ = .delivered)

/-- A write of TLR_TAKE: the previous result is cleared and a take armed (R264). -/
def State.wrTake (s : State) (v : Nat) : State :=
  if F.TLR_TAKE.TAKE.of v = 0 then s
  else
    let s := (s.setReg (tlrB + 0x14) 0).setRegs (tlrB + 0x18) [0, 0, 0, 0]
    s.setF tlrB F.TLR_TAKE.ARMED 1

/-- TLR_TAKE (R264): a take is armed and the previous result cleared. -/
def execTlrTake (m : Master) (s : State) : Host.Outcome State Fault Refusal :=
  .next (s.onWrite m (tlrB + 0x10) fun s => s.wrTake (2 ^ 31))

/-- The four words of an item (R260); the first buffer cell of its packet is a free value. -/
def State.itemWords (s : State) (it : Item) : State × List Word :=
  let (s, cell) := s.takeFree
  let age := min 0xFFFF ((s.now - it.since) / usTicks)
  (s, [BitVec.ofNat 32 (it.level * 2 ^ 28 + it.cls * 2 ^ 26 + b2n it.ordered * 2 ^ 25 + b2n it.resume * 2 ^ 24 +
         it.pset * 2 ^ 20 + it.domain * 2 ^ 8 + it.pipe * 2 ^ 7 + it.pkt.src),
       BitVec.ofNat 32 (it.id * 2 ^ 18 + cell % 2 ^ 18),
       BitVec.ofNat 32 (it.pkt.payload * 2 ^ 16 + it.pkt.w W.LEN),
       BitVec.ofNat 32 (it.reason * 2 ^ 24 + it.pkt.w W.EPOCH * 2 ^ 23 + age)])

/-- TLR_DELIVER (R264): an armed take receives the next class 1 item; the consumer works one item at a time. -/
def execTlrDeliver (s : State) : Host.Outcome State Fault Refusal :=
  .next <| s.onLive 0x24 fun s => match s.nextItem 1 with
    | none => s
    | some it =>
      if s.bit tlrB F.TLR_TAKE.ARMED && s.delivered.isNone then
        let (s, ws) := s.itemWords it
        let s := (s.setRegs (tlrB + 0x18) ws).setReg (tlrB + 0x14) 0x80000000
        let s := (s.setF tlrB F.TLR_TAKE.ARMED 0).putItem { it with at_ := .delivered, takenAt := s.now }
        let s := s.startTimer Tm.swTimeout (max 1 (s.fld tlrB F.TLR_CFG.SW_TO) * msTicks)
        let s := (s.count (tlrB + Ctr.TLR.DISPATCHED)).showLevel it.level
        s.histo (256 + 16 * it.level) (s.now - it.since)
      else s

/-- The packet a DONE completes, by its VERDICT; 11 acts as 01 (R264, R274). The outcome bits describe this item. -/
def verdictPkt (p : Packet) (verdict dest : Nat) : Packet :=
  let p := ((((p.setW W.I_DONE 0).setW W.I_FAIL 0).setW W.I_TRUNC 0).setW W.I_STOP 0).setW W.STW_DONE 1
  if verdict = 0 then p else if verdict = 2 then p.setW W.DEST dest else p.setW W.DROP 1

/-- A write of TLR_DONE (R264): it completes the delivered item, or is discarded as DONE_MISS. -/
def State.wrDone (s : State) (v : Nat) : State :=
  let id := F.TLR_DONE.ID.of v
  let s := (s.setF tlrB F.TLR_DONE.VERDICT (F.TLR_DONE.VERDICT.of v)).setF tlrB F.TLR_DONE.ID id
  if F.TLR_DONE.GO.of v = 0 then s
  else
    match s.delivered with
    | some it =>
      if it.id = id then
        let s := s.stopTimer Tm.swTimeout
        if it.marked then s.freeItem it
        else s.completeItem it (verdictPkt it.pkt (F.TLR_DONE.VERDICT.of v) (s.fld tlrB F.TLR_DONE_DEST.DEST))
      else (s.count (tlrB + Ctr.TLR.DONE_MISS)).raise Ev.TLR_DONE_MISS 0x24 noInst [(2, id)]
    | none => (s.count (tlrB + Ctr.TLR.DONE_MISS)).raise Ev.TLR_DONE_MISS 0x24 noInst [(2, id)]

/-- TLR_DONE (R264): the consumer completes the delivered item with a verdict. -/
def execTlrDone (m : Master) (verdict : BitVec 2) (id : BitVec 14) (s : State) : Host.Outcome State Fault Refusal :=
  .next (s.onWrite m (tlrB + 0x28) fun s => s.wrDone (2 ^ 31 + verdict.toNat * 2 ^ 28 + id.toNat))

/-- TLR_SW_TIMEOUT (R264): no DONE came within SW_TO ms of delivery; the item fails with SW_TIMEOUT. -/
def execTlrSwTimeout (s : State) : Host.Outcome State Fault Refusal :=
  .next (s.onLive 0x24 fun s => s.expire Tm.swTimeout fun s =>
    match s.delivered with
    | none => s
    | some it => s.failItems [it] 3)

/-! ### CANCEL and the wait limit (R265, R266) -/

/-- A write of TLR_CANCEL (R265): every named item that has had no outcome is withdrawn, in GIVE order. -/
def State.wrCancel (s : State) (v : Nat) : State :=
  let mode := F.TLR_CANCEL.MODE.of v
  let t := F.TLR_CANCEL.TARGET.of v
  let s := (s.setF tlrB F.TLR_CANCEL.MODE mode).setF tlrB F.TLR_CANCEL.TARGET t
  if F.TLR_CANCEL.GO.of v = 0 then s
  else
    let l := s.tlr.items.filter fun it =>
      !it.marked && (if mode = 0 then decide (it.id = t) else decide (it.domain = t % 4096))
    let s := s.setF tlrB F.TLR_CANCEL.CAUSE (if l.isEmpty then 1 else 0)
    s.cancelItems l Ctr.TLR.CANCELLED

/-- TLR_CANCEL_ID (R265): MODE 0 withdraws one item. -/
def execTlrCancelId (m : Master) (id : BitVec 14) (s : State) : Host.Outcome State Fault Refusal :=
  .next (s.onWrite m (tlrB + 0x04) fun s => s.wrCancel (2 ^ 31 + id.toNat))

/-- TLR_CANCEL_DOMAIN (R265): MODE 1 withdraws every item of a domain in GIVE order. -/
def execTlrCancelDomain (m : Master) (d : BitVec 12) (s : State) : Host.Outcome State Fault Refusal :=
  .next (s.onWrite m (tlrB + 0x04) fun s => s.wrCancel (2 ^ 31 + 2 ^ 27 + d.toNat))

/-- TLR_WAIT_TIMEOUT (R266): the item ready longest has waited WAIT_TO µs; it is cancelled and counted in TIMEOUTS. -/
def execTlrWaitTimeout (s : State) : Host.Outcome State Fault Refusal :=
  .next <| s.onLive 0x24 fun s =>
    let lim := s.fld tlrB F.TLR_CFG.WAIT_TO
    match s.tlr.items.find? fun x => decide (x.at_ = .ready) with
    | none => s
    | some it =>
      if lim = 0 then s
      else
        let s := s.elapseTo (it.since + lim * usTicks)
        let s := (s.cancelItems [it] Ctr.TLR.TIMEOUTS).histo 528 (s.now - it.since)
        s.raiseMs 0 Ev.TLR_TIMEOUT 0x24 noInst [(2, it.id), (1, it.cls), (1, it.level)]

/-! ### INS_PAT_CMD (R253, R275) -/

/-- The VALID slots of a set shown in COUNT. -/
def State.showSet (s : State) (bank pset : Nat) : State :=
  s.setF (window 0x25) (F.INS_PSET_CFG.COUNT.at (0x40 * bank + 4 * pset)) (s.setSlots bank pset).length

/-- Replace a pattern slot; the counts of its old and its new set follow. -/
def State.setPat (s : State) (bank i v : Nat) : State :=
  let old := s.pat bank i
  let s := { s with tlr := { s.tlr with pats := SMap.set (fun _ => 0) s.tlr.pats (bank * 16384 + i) v } }
  (s.showSet bank (patSet old)).showSet bank (patSet v)

/-- A write of INS_PAT_CMD: 1 is set full, 6 a bank live or draining. -/
def State.wrPatCmd (s : State) (v : Nat) : State :=
  let b := window 0x25
  if s.bit b F.INS_PAT_CMD.BUSY then s
  else
    let op := F.INS_PAT_CMD.OP.of v
    let bank := F.INS_PAT_CMD.BANK.of v
    let i := F.INS_PAT_CMD.INDEX.of v
    let s := ((s.setF b F.INS_PAT_CMD.OP op).setF b F.INS_PAT_CMD.BANK bank).setF b F.INS_PAT_CMD.INDEX i
    if op = 3 then s
    else
      let s := s.setF b F.INS_PAT_CMD.BUSY 1
      let old := s.pat bank i
      if op = 0 then (s.setRegs (b + 0x20110) (natWords 35 old)).setF b F.INS_PAT_CMD.CAUSE 0
      else if s.bankLocked bank then s.setF b F.INS_PAT_CMD.CAUSE 6
      else if op = 2 then (s.setPat bank i (setBits old 31 31 0)).setF b F.INS_PAT_CMD.CAUSE 0
      else
        let new := wordsNat (s.regWords (b + 0x20110) 35)
        let others := (s.setSlots bank (patSet new)).length -
          (if patValid old && decide (patSet old = patSet new) then 1 else 0)
        if patValid new && decide (4096 ≤ others) then s.setF b F.INS_PAT_CMD.CAUSE 1
        else (s.setPat bank i new).setF b F.INS_PAT_CMD.CAUSE 0

/-- The value of INS_PAT_CMD for an operation on a slot. -/
def patCmd (op bank i : Nat) : Nat := op * 2 ^ 16 + bank * 2 ^ 15 + i

/-- INS_PAT_READ (R275): OP 00 reads a pattern slot. -/
def execInsPatRead (m : Master) (bank : Fin 2) (i : BitVec 14) (s : State) : Host.Outcome State Fault Refusal :=
  .next (s.onWrite m (window 0x25 + 0x20100) fun s => s.wrPatCmd (patCmd 0 bank.val i.toNat))

/-- INS_PAT_WRITE (R253, R275): OP 01 writes a pattern slot, refused for a locked bank or a full set. -/
def execInsPatWrite (m : Master) (bank : Fin 2) (i : BitVec 14) (s : State) : Host.Outcome State Fault Refusal :=
  .next (s.onWrite m (window 0x25 + 0x20100) fun s => s.wrPatCmd (patCmd 1 bank.val i.toNat))

/-- INS_PAT_INVALIDATE (R275): OP 10 invalidates a pattern slot. -/
def execInsPatInvalidate (m : Master) (bank : Fin 2) (i : BitVec 14) (s : State) : Host.Outcome State Fault Refusal :=
  .next (s.onWrite m (window 0x25 + 0x20100) fun s => s.wrPatCmd (patCmd 2 bank.val i.toNat))

/-- INS_PAT_CMD_DONE (R275): the operation completes and BUSY clears. -/
def execInsPatCmdDone (s : State) : Host.Outcome State Fault Refusal := .next (s.onLive 0x25 fun s => s.setF (window 0x25) F.INS_PAT_CMD.BUSY 0)

/-! ### Table banks (R232) -/

/-- The place of a bank's state code. -/
def bankFld (b : Nat) : Fld := ⟨0x190 + 4 * (b / 8), 4 * (b % 8) + 3, 4 * (b % 8)⟩

/-- A bank's state: 0 IN, 1 COPY, 2 OUT, 3 SCRUB, 4 SPARE. -/
def State.bankState (s : State) (b : Nat) : Nat := s.fld tblB (bankFld b)

/-- Change a bank's state; each change raises TBL_BANK_STATE. -/
def State.setBankState (s : State) (b v : Nat) : State :=
  (s.setF tblB (bankFld b) v).raise Ev.TBL_BANK_STATE 0x22 noInst [(1, b), (1, s.bankState b), (1, v)]

/-- The kind of a bank (R217): 0 L2, 1 FLOW, 2 TCAM, 3 LPM, 4 VSF. -/
def bankKind (b : Nat) : Option Nat :=
  if b < 16 ∨ b = 59 then some 0 else if b < 24 ∨ b = 60 then some 1
  else if b < 40 ∨ b = 61 then some 2 else if b < 56 ∨ b = 62 then some 3
  else if b < 59 ∨ b = 63 then some 4 else none

/-- Whether a bank is in SPARE and receives no copy. -/
def State.isSpare (s : State) (c : Nat) : Bool := decide (s.bankState c = 4) && !s.tbl.copying.any fun p => decide (p.2 = c)

/-- The spare of a bank's kind: the bank of the kind in SPARE, for a returned bank becomes its kind's spare. -/
def State.spareOf (s : State) (b : Nat) : Option Nat :=
  (List.range 64).find? fun c => decide (bankKind c = bankKind b) && s.isSpare c

/-- A write of TBL_BANK_CMD; a command is accepted at once. -/
def State.wrBankCmd (s : State) (v : Nat) : State :=
  let op := F.TBL_BANK_CMD.OP.of v
  let b := F.TBL_BANK_CMD.BANK.of v
  let s := (s.setF tblB F.TBL_BANK_CMD.OP op).setF tblB F.TBL_BANK_CMD.BANK b
  let ok (s : State) : State := s.setF tblB F.TBL_BANK_CMD.REFUSED 0
  let no (s : State) : State := s.setF tblB F.TBL_BANK_CMD.REFUSED 1
  if op = 0 ∨ op = 3 then s
  else if op = 1 then
    if s.isSpare b then (ok s).setBankState b 2
    else if s.bankState b = 0 then
      match s.spareOf b with
      | none => no s
      | some c => { (ok s).setBankState b 1 with tbl := { s.tbl with copying := s.tbl.copying ++ [(b, c)] } }
    else no s
  else if s.bankState b = 2 then
    let s := (ok s).setBankState b 3
    { s with chk := { s.chk with scrubs := s.chk.scrubs ++ [b] } }
  else no s

/-- TBL_BANK_TAKE_OUT (R232): OP 01 starts a copy to the spare, moves a spare to OUT, or is refused. -/
def execTblBankTakeOut (m : Master) (b : Fin 64) (s : State) : Host.Outcome State Fault Refusal :=
  .next (s.onWrite m (tblB + 0x180) fun s => s.wrBankCmd (2 ^ 16 + b.val))

/-- TBL_BANK_RETURN (R232): OP 10 starts a scrub of an OUT bank. -/
def execTblBankReturn (m : Master) (b : Fin 64) (s : State) : Host.Outcome State Fault Refusal :=
  .next (s.onWrite m (tblB + 0x180) fun s => s.wrBankCmd (2 ^ 17 + b.val))

/-- TBL_BANK_COPY_DONE (R232): a bank's copy completes and the spare takes its place. -/
def execTblBankCopyDone (b : Fin 64) (s : State) : Host.Outcome State Fault Refusal :=
  .next <| s.onLive 0x22 fun s => match s.tbl.copying.find? fun p => decide (p.1 = b.val) with
    | none => s
    | some (_, c) =>
      let s := { s with tbl := { s.tbl with copying := s.tbl.copying.filter fun p => decide (p.1 ≠ b.val) } }
      (s.setBankState c 0).setBankState b.val 2

end Sys2Proof.Machine
end

