-- ==== Sys2Proof/Machine/Pon.lean ====
section
/-! DEFINITION. The downstream half of a PON channel: loss of signal and the alignment machine (R74 to R81), FEC windows
(R82 to R84), FS frames (R83, R86), XGEM frames, keys and reassembly (R88 to R95), delivery (R96, R97), the Port-ID map
(R90, R104), the overhead serial ports (R98 to R100, R120, R469) and the time-of-day capture (R101, R102). -/

namespace Sys2Proof.Machine

/-! ### Skip markers and dropped reassemblies (R92, R150) -/

/-- A skip marker starts on the side path, and counts; a Clearing that accepts nothing refuses it, which counts in DS_REFUSED
(R24, R150, log 174). -/
def State.markerOut (s : State) (c sf seq : Nat) : State :=
  if !s.accepts 0x24 then s.pCount c Ctr.PN.DS_REFUSED
  else
    let s := s.pCount c Ctr.PN.SKIP_MARK
    { s with tlr := { s.tlr with markers := s.tlr.markers ++ [(c, sf, seq)] } }

/-- An island drops a data SDU: its skip marker starts on the side path (R150). -/
def State.sendMarker (s : State) (c : Nat) (r : Reasm) : State :=
  if r.entry.isSome && r.opts.testBit 17 && s.striped r.sf then s.markerOut c r.sf (r.opts % 65536) else s

/-- A reassembly is dropped and counted (R92). -/
def State.reasmErr (s : State) (c : Nat) (r : Reasm) : State :=
  (s.pCount c Ctr.PN.REASM_ERR).pRaiseMs c 13 Ev.PN_REASM_ERR 0 [(2, r.pid)]

/-- Take a Port-ID's reassembly away. -/
def State.dropReasm (s : State) (c pid : Nat) : State :=
  let p := s.pn c
  s.setPn c { p with reasm := p.reasm.filter fun r => decide (r.pid ≠ pid) }

/-- Alignment leaves SYNC: every reassembly is dropped (R92). -/
def State.dropReasms (s : State) (c : Nat) : State :=
  let l := (s.pn c).reasm
  let s := s.setPn c { s.pn c with reasm := [], skip := [] }
  l.foldl (fun s r => (s.reasmErr c r).sendMarker c r) s

/-- Every reassembly in progress is marked damaged (R86, R88). -/
def State.damage (s : State) (c : Nat) : State :=
  let p := s.pn c
  s.setPn c { p with reasm := p.reasm.map fun r => { r with damaged := true } }

/-! ### Time-of-day capture (R101, R102) -/

/-- The target SFC the registers hold, which ARM loads. -/
def State.todWritten (s : State) (c : Nat) : Nat :=
  s.pf c F.PN_TOD_CTRL.SFC_HI * 2 ^ 32 + s.pf c F.PN_TOD_SFC_LO.SFC_LO

/-- The target SFC armed. -/
def State.todTarget (s : State) (c : Nat) : Nat := (s.pn c).todSfc

/-- A capture ends: ARM clears, MISS or VALID is set and PN_TOD_DONE is raised. -/
def State.todEnd (s : State) (c : Nat) (miss : Bool) : State :=
  let s := (s.setPf c F.PN_TOD_CTRL.ARM 0).setPf c F.PN_TOD_CTRL.MISS (b2n miss)
  let s := if miss then { s with stw := { s.stw with todArm := s.stw.todArm.set (chIx c) false } } else s
  s.pRaise c 13 Ev.PN_TOD_DONE [(1, b2n (!miss)), (1, b2n miss), (4, s.todTarget c)]

/-- The capture is missed, where one is armed. -/
def State.todMiss (s : State) (c : Nat) : State := if s.bit (pnB c) F.PN_TOD_CTRL.ARM then s.todEnd c true else s

/-- The capture the Steward has armed is there: it writes TIM_PTOD_CTRL.GO with the channel, unless the host owns TIM (R392,
R403). -/
def State.todSteward (s : State) (c : Nat) : State :=
  if s.stw.todArm.get (chIx c) && decide (s.fld stwB F.STW_STAT.STATE = 1) then
    let s := { s with stw := { s.stw with todArm := s.stw.todArm.set (chIx c) false } }
    if s.owner 0x04 = some .host then s else s.wrPtodCtrl (F.TIM_PTOD_CTRL.GO.ins (F.TIM_PTOD_CTRL.CH.ins 0 c) 1)
  else s

/-- What refers a capture to the pins: the Hallmark's capture constant of the channel and its mode, and the strobe residual of
its island (R101, R323, R341, R352). -/
def State.captureLat (s : State) (c : Nat) : Int :=
  s.sfld aonB (F.AON_HM_PON_CAP.LAT.at (8 * c + 4 * s.pf c F.PN_RX_CTRL.MODE)) + s.sfld aonB (F.AON_HM_STROBE.RES.at (4 * (12 + c)))

/-- The capture of a frame's first bit: device time as the island's replica gives it (R101, R326); a replica that is not loaded
takes no stamp, and the capture is missed (R324). The result has no ERR bit, so one taken while the replica is at fault is not
marked. -/
def State.todCapture (s : State) (c : Nat) (st : StampIn) : State :=
  if s.stampOff (0x08 + c) then s.todEnd c true else
  let s := s.putTime (pnB c + 0x68) (s.stampRx (96 + c) st (s.captureLat c))
  let s := { s with tim := { s.tim with rangedSince := s.tim.rangedSince.set (chIx c) false } }
  (s.todEnd c false).todSteward c

/-- A write of PN_TOD_CTRL (R101): ARM starts over with the target written. Outside SYNC no frame has an expected SFC, so no
target is late there: it stays armed (log 157). -/
def State.wrTodCtrl (s : State) (c v : Nat) : State :=
  let s := s.setPf c F.PN_TOD_CTRL.SFC_HI (F.PN_TOD_CTRL.SFC_HI.of v)
  if F.PN_TOD_CTRL.ARM.of v = 0 then s
  else
    let s := (s.setPf c F.PN_TOD_CTRL.ARM 1).setPf c F.PN_TOD_CTRL.MISS 0
    let s := s.setPn c { s.pn c with todSfc := s.todWritten c }
    let s := s.setRegs (pnB c + 0x68) [0, 0, 0, 0]
    let cur := s.pf c F.PN_SFC_CUR_HI.SFC * 2 ^ 32 + s.pf c F.PN_SFC_CUR_LO.SFC
    if s.align c = 2 ∧ s.todTarget c ≤ cur then s.todEnd c true else s

/-- PN_TOD_ARM (R101). -/
def execPnTodArm (m : Master) (c : PonCh) (sfcHi : BitVec 19) (s : State) : Host.Outcome State Fault Refusal :=
  .next (s.onWrite m (pnB c.val + 0x60) fun s => s.wrTodCtrl c.val (2 ^ 31 + sfcHi.toNat))

/-! ### Loss of signal and alignment (R74 to R81) -/

/-- The SFC expected of the present frame, 0 outside SYNC (R103). -/
def State.sfcCur (s : State) (c : Nat) : Nat := s.pf c F.PN_SFC_CUR_HI.SFC * 2 ^ 32 + s.pf c F.PN_SFC_CUR_LO.SFC

/-- Show the expected SFC. -/
def State.setSfc (s : State) (c v : Nat) : State :=
  (s.setPf c F.PN_SFC_CUR_LO.SFC (v % 2 ^ 32)).setPf c F.PN_SFC_CUR_HI.SFC (v / 2 ^ 32)

/-- Replace the open candidates, shown in CANDS. -/
def State.setCands (s : State) (c : Nat) (l : List Cand) : State :=
  (s.setPn c { s.pn c with cands := l }).setPf c F.PN_RX_STAT.CANDS l.length

/-- The alignment machine goes to HUNT, PRESYNC or OFF with no candidate open; leaving SYNC drops every reassembly, ends a
capture in wait and tells the engine and the servo (R78, R92, R101, R108, R338). -/
def State.alignLeave (s : State) (c new : Nat) : State :=
  let was := s.align c
  let s := (s.setCands c []).setPf c F.PN_RX_STAT.STATE new
  if was ≠ 2 then s
  else ((((s.setSfc c 0).dropReasms c).todMiss c).syncChanged c false).servoChannelFault c

/-- The feedback taps in use: values of DFE_TAPS above 8 act as 8 (R103). -/
def State.tapCount (s : State) (c : Nat) : Nat := min 8 (s.pf c F.PN_RX_EQ.DFE_TAPS)

/-- The equaliser has adapted to the signal since it was last looked at: with ADAPT 1 and light present, the boost in use and the
taps' coefficients are what the signal gives, which is a free value (R75, R103); otherwise they are frozen. -/
def State.adapt (s : State) (c : Nat) : State :=
  if s.bit (pnB c) F.PN_RX_EQ.ADAPT && !s.bit (pnB c) F.PN_RX_STAT.LOS then
    let (s, r) := s.takeFree
    let s := s.setPf c F.PN_RX_EQ.CTLE r
    s.setPn c { s.pn c with taps := (List.range (s.tapCount c)).map fun i => r / 16 / 256 ^ i % 256 }
  else s

/-- A write of PN_RX_EQ (R75, R103): CTLE is the starting point, and the taps in use keep their coefficients. -/
def State.wrRxEq (s : State) (c v : Nat) : State :=
  let s := (s.adapt c).store (pnB c + F.PN_RX_EQ.CTLE.off) v
  let l := (s.pn c).taps
  s.setPn c { s.pn c with taps := (List.range (s.tapCount c)).map fun i => l.getD i 0 }

/-- LOS changes: its event, the equaliser freezes at what it has come to (R75), and in PRESYNC or SYNC the alignment is lost
(R74, R78). -/
def State.setLos (s : State) (c : Nat) (v : Bool) : State :=
  if s.bit (pnB c) F.PN_RX_STAT.LOS = v then s
  else
    let s := s.adapt c
    let s := s.setPf c F.PN_RX_STAT.LOS (b2n v)
    let s := s.pRaiseMs c 13 Ev.PN_RX_LOS (b2n v) [(1, b2n v)]
    let a := s.align c
    if v = false ∨ (a ≠ 1 ∧ a ≠ 2) then s
    else
      let s := if a = 2 then (s.pCount c Ctr.PN.ALIGN_LOSS).pRaise c 13 Ev.PN_ALIGN_LOSS [(1, 0)] else s
      s.alignLeave c 0

/-- LOS as its two conditions stand (R74). -/
def State.showLos (s : State) (c : Nat) : State :=
  let pin := (s.pn c).rxlos != s.bit (pnB c) F.PN_RX_CTRL.LOS_POL
  s.setLos c (pin || !s.bit (pnB c) F.PN_RX_STAT.CDR_LOCK)

/-- RXLOS_CHANGE (R74): the level of the ball. -/
def execRxlosChange (c : PonCh) (level : Bool) (s : State) : Host.Outcome State Fault Refusal :=
  .next ((s.setPn c.val { s.pn c.val with rxlos := level }).showLos c.val)

/-- PN_CDR_LOCK_CHANGE (R74): the recovery circuit has locked, or has been out of lock for more than 1 µs. -/
def execPnCdrLockChange (c : PonCh) (lock : Bool) (s : State) : Host.Outcome State Fault Refusal :=
  .next ((s.setPf c.val F.PN_RX_STAT.CDR_LOCK (b2n lock)).showLos c.val).showSynceOut

/-- PN_TI_CAL shows the Hallmark's path delay for the channel and its mode (R138, R352). -/
def State.showTiCal (s : State) (c : Nat) : State :=
  s.setPf c F.PN_TI_CAL.PATH (s.fld aonB (F.AON_HM_TI_PATH.PATH.at (8 * c + 4 * s.pf c F.PN_RX_CTRL.MODE)))

/-- A write of PN_RX_CTRL (R53, R54, R76, R78): one that changes MODE while ENABLE is 1 is discarded. A pattern checker that is on
holds the alignment machine in OFF (R194). -/
def State.wrRxCtrl (s : State) (c v : Nat) : State :=
  let on := s.bit (pnB c) F.PN_RX_CTRL.ENABLE
  if on = true ∧ F.PN_RX_CTRL.MODE.of v ≠ s.pf c F.PN_RX_CTRL.MODE then s
  else
    let was := s.xgs c
    let s := (s.store (pnB c) v).showLos c
    let s := if s.xgs c = was then s else (s.showTiCal c).pllBusy (24 + c)
    let now := s.bit (pnB c) F.PN_RX_CTRL.ENABLE
    if s.beforePon = true ∨ on = now ∨ s.bit (pnB c) F.PN_PRBS_CTRL.CHK_EN = true then s
    else s.alignLeave c (if now then 0 else 3)

/-- PN_RX_ENABLE_WRITE (R76, R78). -/
def execPnRxEnableWrite (m : Master) (c : PonCh) (v : Word) (s : State) : Host.Outcome State Fault Refusal :=
  .next (s.onWrite m (pnB c.val) fun s => s.wrRxCtrl c.val v.toNat)

/-- The engine's side of a PHY frame that begins: T_ref, and the EqD and profiles its BWmap uses (R114, R117, R133). -/
def State.frameStart (s : State) (c : Nat) : State :=
  let p := s.pn c
  s.setPn c { p with
    frame := p.frame + 1, tRef := s.now, fsLost := false, bwLost := false, payLost := false, marks := [], prevOk := false,
    eqdUse := if s.bit (pnB c) F.PN_EQD.VALID then s.pf c F.PN_EQD.EQD else 0,
    profUse := (s.regWords (pnB c + 0x190) 4).map (·.toNat) }

/-- Lock on a position with an SFC (R78, R84). The window restarts; SD and SF and the quiet windows counted towards their clearing
stay as they are (log 158), and a capture armed for this SFC or an earlier one stays armed, neither captured nor missed
(log 157). -/
def State.alignLock (s : State) (c pos sfc : Nat) : State :=
  let s := (s.setCands c []).setPf c F.PN_RX_STAT.STATE 2
  let s := s.setPn c { s.pn c with lockPos := pos, errs := 0, winFrames := 0, winBits := 0 }
  let s := (s.setSfc c sfc).pRaise c 13 Ev.PN_ALIGN_LOCK [(7, sfc)]
  (s.frameStart c).syncChanged c true

/-- N of R78. -/
def State.alignN (s : State) (c : Nat) : Nat := max 1 (s.pf c F.PN_ALIGN_CFG.N)

/-- The next SFC. -/
def sfcNext (v : Nat) : Nat := (v + 1) % 2 ^ 51

/-- A pattern at an open candidate's expected position (R78). -/
def State.candPattern (s : State) (c : Nat) (k : Cand) (ok : Bool) (sfc : Nat) : State :=
  let rest := (s.pn c).cands
  if ok && decide (sfc = k.sfc) then
    if s.alignN c ≤ k.count + 1 then s.alignLock c k.pos sfc
    else s.setCands c (rest.map fun x => if x = k then { k with count := k.count + 1, sfc := sfcNext sfc } else x)
  else
    let l := rest.filter fun x => decide (x ≠ k)
    let s := (s.pCount c Ctr.PN.CAND_FALSE).setCands c l
    s.setPf c F.PN_RX_STAT.STATE (if l.isEmpty then 0 else 1)

/-- A correct pattern at a new position (R78). -/
def State.newPattern (s : State) (c pos sfc : Nat) : State :=
  let l := (s.pn c).cands
  if 4 ≤ l.length then
    let s := s.pCount c Ctr.PN.CAND_FULL
    s.pRaise c 13 Ev.PN_CAND_FULL [(2, s.ctr (pnB c + Ctr.PN.CAND_FULL))]
  else if s.alignN c = 1 then s.alignLock c pos sfc
  else (s.setCands c (l ++ [{ pos, count := 1, sfc := sfcNext sfc }])).setPf c F.PN_RX_STAT.STATE 1

/-- The pattern at the locked position in SYNC (R78, R81, R101). -/
def State.syncPattern (s : State) (c : Nat) (ok : Bool) (sfc : Nat) (st : StampIn) : State :=
  let exp := sfcNext (s.sfcCur c)
  let s := ((s.setSfc c exp).pCount c Ctr.PN.FRAMES_SYNC).frameStart c
  let good := ok && decide (sfc = exp)
  let hit := s.bit (pnB c) F.PN_TOD_CTRL.ARM && decide (s.todTarget c = exp)
  if good then
    let s := s.setPn c { s.pn c with errs := 0 }
    if hit then s.todCapture c st else s
  else
    let n := (s.pn c).errs + 1
    let s := (s.setPn c { s.pn c with errs := n }).pCount c Ctr.PN.PSBD_ERR
    let s := if ok then s.pCount c Ctr.PN.SFC_MISMATCH else s
    let s := if hit then s.todMiss c else s
    if n < max 1 (s.pf c F.PN_ALIGN_CFG.M) then s
    else ((s.pCount c Ctr.PN.ALIGN_LOSS).pRaise c 13 Ev.PN_ALIGN_LOSS [(1, 1)]).alignLeave c 0

/-- PSYNC_PATTERN (R77 to R79): before item 5 of R49 the machine is held (R54), and under LOS nothing is seen. -/
def execPsyncPattern (c : PonCh) (x : PsyncIn) (s : State) : Host.Outcome State Fault Refusal :=
  .next <| s.onLive (0x08 + c.val) fun s =>
    let a := s.align c.val
    let ok := x.hecOk && decide (x.errs ≤ s.pf c.val F.PN_ALIGN_CFG.TOL)
    if s.beforePon = true ∨ a = 3 ∨ s.bit (pnB c.val) F.PN_RX_STAT.LOS = true then s
    else if a = 2 then
      (if x.pos = (s.pn c.val).lockPos then s.syncPattern c.val ok x.sfc.toNat x.st else s)
    else
      match (s.pn c.val).cands.find? fun k => decide (k.pos = x.pos) with
      | some k => s.candPattern c.val k ok x.sfc.toNat
      | none => if ok then s.newPattern c.val x.pos x.sfc.toNat else s

/-! ### FEC and the FS frame (R82 to R86) -/

/-- Whether a codeword decodes: in 50G mode within MAX_ITER iterations, of which 0 acts as 1; in XGS fallback the field is
ignored (R82, R103). -/
def State.cwOk (s : State) (c : Nat) (w : CwIn) : Bool :=
  match w.need with
  | none => false
  | some n => s.xgs c || decide (n ≤ max 1 (s.pf c F.PN_FEC_CFG.MAX_ITER))

/-- The codewords of a frame that remain uncorrectable. The descrambler is seeded from the expected SFC and never from the one
received: of a frame scrambled with another seed it leaves noise, in which no codeword decodes (R81, R82; log 159). -/
def State.badWords (s : State) (c : Nat) (x : FrameIn) : List Nat :=
  (x.cws.zipIdx.filter fun w => decide (x.sfc.toNat ≠ s.sfcCur c) || !s.cwOk c w.1).map (·.2)

/-- The codewords of a frame that are decoded, in order. -/
def State.goodWords (s : State) (c : Nat) (x : FrameIn) : List CwIn :=
  if x.sfc.toNat = s.sfcCur c then x.cws.filter fun w => s.cwOk c w else []

/-- PHY_FRAME_DECODE (R82, R83, R86, R124): a frame processed in SYNC is descrambled and decoded, and its uncorrectable codewords
are marked. -/
def execPhyFrameDecode (c : PonCh) (x : FrameIn) (s : State) : Host.Outcome State Fault Refusal :=
  .next <| s.onLive (0x08 + c.val) fun s =>
    let i := c.val
    if s.align i ≠ 2 then s
    else
      let bad := s.badWords i x
      let good := s.goodWords i x
      let bits := (good.map (·.bits)).sum
      let s := (s.pCount i Ctr.PN.CW_TOTAL x.cws.length).pCount i Ctr.PN.CW_CORR
        ((good.filter fun w => decide (w.need ≠ some 0)).length)
      let s := (s.pCount i Ctr.PN.CW_UNCORR bad.length).pCount i Ctr.PN.BITS_CORR bits
      let s := s.pmc 0x081 i bits
      let p := { s.pn i with marks := bad }
      let s := s.setPn i { p with winFrames := p.winFrames + 1, winBits := p.winBits + bits }
      if !x.hdrOk || p.marked x.hdr then
        let s := (s.pCount i Ctr.PN.FS_HDR_ERR).damage i
        let s := s.setPn i { s.pn i with fsLost := true }
        (s.pRaiseMs i 13 Ev.PN_FS_HDR_ERR 0 [(7, s.sfcCur i)]).bwmapLost i
      else if p.marked x.map then
        ((s.pCount i Ctr.PN.UNCORR_DROP).setPn i { s.pn i with bwLost := true }).bwmapLost i
      else s

/-- One of SD and SF at the end of a window (R84): the new count of quiet windows, and the bit. -/
def berBit (on : Bool) (quiet n thr : Nat) : Bool × Nat :=
  if thr < n then (true, 0)
  else if !on then (false, 0)
  else if 9 ≤ quiet then (false, 0)
  else (true, quiet + 1)

/-- BER_WINDOW_END (R84, R134): the window has its BER_WIN frames. -/
def execBerWindowEnd (c : PonCh) (s : State) : Host.Outcome State Fault Refusal :=
  .next <| s.onLive (0x08 + c.val) fun s =>
    let i := c.val
    let p := s.pn i
    if s.align i ≠ 2 ∨ p.winFrames < max 1 (s.pf i F.PN_FEC_CFG.BER_WIN) then s
    else
      let w := min 0xFFFFFFFF p.winBits
      let s := s.setPf i F.PN_FEC_WIN.BITS w
      let sd := s.bit (pnB i) F.PN_RX_STAT.SD
      let sf := s.bit (pnB i) F.PN_RX_STAT.SF
      let d := berBit sd p.sdQuiet p.winBits (s.pf i F.PN_FEC_SD_THR.THR)
      let f := berBit sf p.sfQuiet p.winBits (s.pf i F.PN_FEC_SF_THR.THR)
      let s := s.setPn i { s.pn i with winFrames := 0, winBits := 0, sdQuiet := d.2, sfQuiet := f.2 }
      let s := (s.setPf i F.PN_RX_STAT.SD (b2n d.1)).setPf i F.PN_RX_STAT.SF (b2n f.1)
      let s := if d.1 = sd then s else s.pRaise i 13 Ev.PN_FEC_SD [(1, b2n d.1), (4, w)]
      let s := if f.1 = sf then s else s.pRaise i 13 Ev.PN_FEC_SF [(1, b2n f.1), (4, w)]
      s.showRdi i

/-! ### Delivery (R93 to R97) -/

/-- An OMCC SDU that is accepted: to the OSP, or to the Steward, for whom it is held while it restarts (R95, R396). -/
def State.omccIn (s : State) (c : Nat) (data : List Byte) : State :=
  let s := s.pCount c Ctr.PN.OMCI_SDU
  let p := s.pn c
  let st := s.fld stwB F.STW_STAT.STATE
  if s.bit (pnB c) F.PN_OSP_CFG.OMCI_OSP then s.ospPush c 2 data
  else if st = 1 then s.setPn c { p with omciIn := p.omciIn ++ [data] }
  else if st = 2 then
    if (p.omciIn.map (·.length)).sum + data.length ≤ 32768 then s.setPn c { p with omciIn := p.omciIn ++ [data] }
    else s.count (stwB + Ctr.STW.OMCI_LOST)
  else s

/-- PN_DS_OVERRUN with cause 0 buffer full or 1 crossing refused (R97). -/
def State.dsDrop (s : State) (c ctr cause : Nat) (r : Reasm) : State :=
  ((s.pCount c ctr).pRaiseMs c 13 Ev.PN_DS_OVERRUN 0 [(1, cause)]).sendMarker c r

/-- The packet of an SDU, with the metadata of R96 in its Wallet. -/
def ponPacket (c : Nat) (r : Reasm) (bytes : List Byte) (now : Nat) : Packet :=
  let p := (Packet.new (48 + c) bytes now).setWB W.PON true
  let p := ((p.setW W.CHANNEL c).setW W.ENTRY_TYPE r.typ).setW W.KEY_IDX r.key
  let p := (p.setW W.PORT_ID r.pid).setW W.OPTIONS r.opts
  (p.setWB W.SF_VALID true).setW W.SF r.sf

/-- A good SDU goes to the delivery buffer of 32 KiB and to its pipeline (R24, R97, R161). -/
def State.deliverSdu (s : State) (c : Nat) (r : Reasm) (bytes : List Byte) : State :=
  let q := s.pipes.get (chIx c)
  let l := SMap.get (fun _ => []) q.wire (48 + c)
  if 32768 < (l.map fun p => p.bytes.length).sum + bytes.length then (s.dsDrop c Ctr.PN.DS_OVERRUN 0 r).rateShort (48 + c)
  else if !s.accepts (0x20 + c) then s.dsDrop c Ctr.PN.DS_REFUSED 1 r
  else
    let s := (s.pCount c Ctr.PN.SDU_OK).pCount c Ctr.PN.SDU_BYTES bytes.length
    let s := if r.opts.testBit 17 then s.pCount c Ctr.PN.STRIPE_RX else s
    let p := ponPacket c r bytes s.now
    { s with pipes := s.pipes.set (chIx c) { q with wire := SMap.set (fun _ => []) q.wire (48 + c) (l ++ [p]) } }

/-- A complete SDU: its length and FCS are checked (R93 to R95). -/
def State.sduDone (s : State) (c : Nat) (r : Reasm) : State :=
  let n := r.data.length
  if r.entry.isNone then (if n = 0 then s.pCount c Ctr.PN.RUNT else s.omccIn c r.data)
  else if n < 64 then (s.pCount c Ctr.PN.RUNT).sendMarker c r
  else
    let bytes := r.data.take (n - 4)
    if crc32 bytes ≠ leNat (r.data.drop (n - 4)) then (s.pCount c Ctr.PN.FCS_ERR).sendMarker c r
    else s.deliverSdu c r bytes

/-! ### XGEM frames (R88 to R93) -/

/-- The map entry a Port-ID names, with its index (R90): a TYPE of 11 acts as not valid. -/
def pidEntry (m : SMap Nat) (pid : Nat) : Option (Nat × Nat) :=
  (m.find? fun e => decide (bits e.2 31 31 = 1) && decide (bits e.2 29 28 ≠ 3) && decide (bits e.2 15 0 = pid)).map
    fun e => (e.1, e.2)

/-- PN_KEY_FAULT (R91): index 11 names no slot, and its event carries slot 0 (log 151); cause 0 KEY_ABSENT, 1 KEY_IDX_BAD, 2
CRYPT_FAIL; an empty slot and the last count in the Vault too (R390). -/
def State.keyFault (s : State) (c ctr slot cause : Nat) : State :=
  let s := if cause = 1 then s else if cause = 0 then s.slotAbsent slot else s.count (vltB + Ctr.VLT.CRYPT_FAIL)
  (s.pCount c ctr).pRaiseMs c 13 Ev.PN_KEY_FAULT 0 [(2, slot), (1, cause)]

/-- The slot of a key index (R91). -/
def State.keySlot (s : State) (c idx : Nat) (entry : Option (Nat × Nat)) : Nat :=
  let w1 := match entry with
    | some e => e.2 / 2 ^ 32
    | none => 0
  if bits w1 31 31 = 1 then (if idx = 1 then bits w1 9 0 else bits w1 25 16)
  else s.pf c (if idx = 1 then F.PN_KEY_UC.UC1 else F.PN_KEY_UC.UC2)

/-- The payload in clear, none where its key fails (R91). A slot without an AES-128 key for PON use holds no key. -/
def State.decrypt (s : State) (c : Nat) (x : XgemIn) (entry : Option (Nat × Nat)) : State × Option (List Byte) :=
  let idx := x.key.toNat
  if idx = 0 then (s, some x.data)
  else if idx = 3 then (s.keyFault c Ctr.PN.KEY_IDX_BAD 0 1, none)
  else
    let slot := s.keySlot c idx entry
    match s.slot slot with
    | none => (s.keyFault c Ctr.PN.KEY_ABSENT slot 0, none)
    | some k =>
      if k.typ ≠ 1 ∨ k.use.testBit 0 = false then (s.keyFault c Ctr.PN.KEY_ABSENT slot 0, none)
      else
        let s := s.pmc 0x0A0 (1 + c) (ceilDiv x.data.length 16)
        if x.mismatch then ((s.keyFault c Ctr.PN.CRYPT_FAIL slot 2).vaultFault (some (1 + c)) 0 slot, none)
        else
          let nonce := s.sfcCur c * 2 ^ 24 + x.off.toNat
          (s, some (ponCipher k.key nonce x.data))

/-- A unicast frame with a non-zero key index has been looked up (R122). -/
def State.keySeen (s : State) (c idx : Nat) : State :=
  let hit := (s.pn c).keyWaits.filter fun k => k.sent && decide (k.index = idx)
  let p := s.pn c
  let s := s.setPn c { p with usKey := idx, keyWaits := p.keyWaits.filter fun k => !(k.sent && decide (k.index = idx)) }
  hit.foldl (fun s k => s.pRaise c 13 Ev.PN_KEY_SWITCH [(1, k.index), (2, k.slot)]) s

/-- The rest of a dropped SDU is discarded up to LF = 1. -/
def State.skipRest (s : State) (c : Nat) (x : XgemIn) : State :=
  let s := s.dropReasm c x.pid.toNat
  let p := s.pn c
  let l := p.skip.filter fun i => decide (i ≠ x.pid.toNat)
  s.setPn c { p with skip := if x.lf then l else l ++ [x.pid.toNat] }

/-- MAX_SDU (R93, R103). -/
def State.maxSdu (s : State) (c : Nat) : Nat := min 16000 (max 64 (s.pf c F.PN_XGEM_CFG.MAX_SDU))

/-- A frame's payload joins its SDU (R92, R93). -/
def State.joinSdu (s : State) (c : Nat) (x : XgemIn) (r : Reasm) (first : Bool) (data : List Byte) : State :=
  let p := s.pn c
  let r := { r with data := r.data ++ data, last := p.frame }
  if first && !x.lf && decide (512 ≤ p.reasm.length) then
    ((s.pCount c Ctr.PN.REASM_FULL).sendMarker c r).skipRest c x
  else if (if r.entry.isNone then 2048 else s.maxSdu c) < r.data.length then
    ((s.pCount c Ctr.PN.OVERSIZE).sendMarker c r).skipRest c x
  else if !x.lf then
    s.setPn c { p with reasm := (p.reasm.filter fun y => decide (y.pid ≠ r.pid)) ++ [r] }
  else
    let s := s.dropReasm c r.pid
    if r.damaged then (s.reasmErr c r).sendMarker c r else s.sduDone c r

/-- A frame of a wrong size is counted, and its SDU is dropped with it (R93, R150). -/
def State.wrongSize (s : State) (c : Nat) (x : XgemIn) (r : Reasm) (skipping : Bool) : State :=
  let s := s.pCount c (if x.size = 1 then Ctr.PN.RUNT else Ctr.PN.OVERSIZE)
  (if skipping then s else s.sendMarker c r).skipRest c x

/-- A frame whose header has matched the OMCC or an entry (R89 to R93, R122). The entry's byte hit counter takes the payload's
bytes, as its frame counter takes the frame, at the lookup, whatever becomes of it (log 160). -/
def State.xgemMatched (s : State) (c : Nat) (x : XgemIn) (entry : Option (Nat × Nat)) : State :=
  let w := match entry with
    | some e => e.2
    | none => 0
  let s := match entry with
    | some e => (s.tallyAdd (0x0E + c) (2 * e.1)).tallyAdd (0x0E + c) (2 * e.1 + 1) x.data.length
    | none => s
  let idx := x.key.toNat
  let s := if idx ≠ 0 ∧ bits w 29 28 = 0 then s.keySeen c idx else s
  let had := (s.pn c).reasm.find? fun r => decide (r.pid = x.pid.toNat)
  let fresh : Reasm :=
    { pid := x.pid.toNat, entry := entry.map (·.1), sf := bits w 27 16, typ := bits w 29 28, key := idx,
      opts := x.opts.toNat, data := [], damaged := false, last := (s.pn c).frame }
  let skipping := (s.pn c).skip.contains x.pid.toNat
  if x.size ≠ 0 then s.wrongSize c x (had.getD fresh) skipping
  else match s.decrypt c x entry with
  | (s, none) => (if skipping then s else s.sendMarker c (had.getD fresh)).skipRest c x
  | (s, some data) =>
    let s := s.pmc 0x080 c
    if skipping then s.skipRest c x else s.joinSdu c x (had.getD fresh) had.isNone data

/-- The rest of the FS payload is lost (R88): cause 0 HEC, 1 PLI overrun. -/
def State.xgemLost (s : State) (c ctr cause : Nat) : State :=
  let s := (s.pCount c ctr).damage c
  (s.setPn c { s.pn c with payLost := true }).pRaiseMs c 13 Ev.PN_XGEM_DELIN 0 [(1, cause)]

/-- A frame whose header holds and whose payload is whole: looked up by its Port-ID (R89, R93). -/
def State.xgemLookup (s : State) (c : Nat) (x : XgemIn) : State :=
  if s.bit (pnB c) F.PN_OMCC.VALID && decide (s.pf c F.PN_OMCC.PORT_ID = x.pid.toNat) then s.xgemMatched c x none
  else match pidEntry (s.pn c).pids x.pid.toNat with
    | some e => s.xgemMatched c x (some e)
    | none => s.pCount c (if x.size = 1 then Ctr.PN.RUNT else if x.size = 2 then Ctr.PN.OVERSIZE else Ctr.PN.XGEM_FOREIGN)

/-- XGEM_FRAME_RX (R83, R88 to R93): the next XGEM frame of a payload that is still delineated. Its header is delineated whether
or not the frame lies in a marked codeword, in which it is discarded. -/
def execXgemFrameRx (c : PonCh) (x : XgemIn) (s : State) : Host.Outcome State Fault Refusal :=
  .next <| s.onLive (0x08 + c.val) fun s =>
    let i := c.val
    let p := s.pn i
    if s.align i ≠ 2 ∨ p.fsLost = true ∨ p.payLost = true then s
    else
      let marked := p.marked x.span
      let s := if marked then s.pCount i Ctr.PN.UNCORR_DROP else s
      if x.hec = .lost then s.xgemLost i Ctr.PN.XGEM_HEC_FAIL 0
      else
        let s := if x.hec = .corrected then s.pCount i Ctr.PN.XGEM_HEC_CORR else s
        if x.pliOver then s.xgemLost i Ctr.PN.XGEM_PLI_OVER 1
        else if marked then s
        else if x.idle then s.pCount i Ctr.PN.XGEM_IDLE
        else s.xgemLookup i x

/-- REASM_TIMEOUT (R92): a reassembly has received no fragment for REASM_TO frames. -/
def execReasmTimeout (c : PonCh) (pid : BitVec 16) (s : State) : Host.Outcome State Fault Refusal :=
  .next <| s.onLive (0x08 + c.val) fun s =>
    let p := s.pn c.val
    match p.reasm.find? fun r => decide (r.pid = pid.toNat) with
    | none => s
    | some r =>
      if p.frame < r.last + max 1 (s.pf c.val F.PN_XGEM_CFG.REASM_TO) then s
      else (((s.dropReasm c.val r.pid).reasmErr c.val r).sendMarker c.val r)

/-! ### The Port-ID map (R90, R104) -/

/-- An entry changes: a reassembly under it is dropped. -/
def State.setPid (s : State) (c i v : Nat) : State :=
  let p := s.pn c
  let old := SMap.get (fun _ => 0) p.pids i
  let s := s.setPn c { p with pids := SMap.set (fun _ => 0) p.pids i v }
  if old = v then s
  else ((s.pn c).reasm.filter fun r => decide (r.entry = some i)).foldl
    (fun s r => (s.dropReasm c r.pid).reasmErr c r) s

/-- A write of PN_PID_CMD (R104): 00 read, 01 write, 10 invalidate, 11 no action. -/
def State.wrPidCmd (s : State) (c v : Nat) : State :=
  let op := F.PN_PID_CMD.OP.of v
  let i := F.PN_PID_CMD.INDEX.of v
  if s.bit (pnB c) F.PN_PID_CMD.BUSY then s
  else
    let s := (s.setPf c F.PN_PID_CMD.OP op).setPf c F.PN_PID_CMD.INDEX i
    let e := SMap.get (fun _ => 0) (s.pn c).pids i
    if op = 3 then s
    else
      let s := s.setPf c F.PN_PID_CMD.BUSY 1
      if op = 0 then s.setRegs (pnB c + 0x44) [BitVec.ofNat 32 e, BitVec.ofNat 32 (e / 2 ^ 32)]
      else if op = 2 then s.setPid c i (e - bits e 31 31 * 2 ^ 31)
      else
        let w := wordsNat (s.regWords (pnB c + 0x44) 2)
        let acting := decide (bits w 31 31 = 1) && decide (bits w 29 28 ≠ 3)
        let dup := match pidEntry (s.pn c).pids (bits w 15 0) with
          | some k => acting && decide (k.1 ≠ i)
          | none => false
        let s := s.setPf c F.PN_PID_CMD.DUP (b2n dup)
        if dup then s else s.setPid c i w

/-- PN_PID_READ (R104). -/
def execPnPidRead (m : Master) (c : PonCh) (i : BitVec 12) (s : State) : Host.Outcome State Fault Refusal :=
  .next (s.onWrite m (pnB c.val + 0x40) fun s => s.wrPidCmd c.val i.toNat)

/-- PN_PID_WRITE (R90, R104). -/
def execPnPidWrite (m : Master) (c : PonCh) (i : BitVec 12) (s : State) : Host.Outcome State Fault Refusal :=
  .next (s.onWrite m (pnB c.val + 0x40) fun s => s.wrPidCmd c.val (2 ^ 16 + i.toNat))

/-- PN_PID_INVALIDATE (R90, R104). -/
def execPnPidInvalidate (m : Master) (c : PonCh) (i : BitVec 12) (s : State) : Host.Outcome State Fault Refusal :=
  .next (s.onWrite m (pnB c.val + 0x40) fun s => s.wrPidCmd c.val (2 * 2 ^ 16 + i.toNat))

/-- PN_PID_CMD_DONE (R104). -/
def execPnPidCmdDone (c : PonCh) (s : State) : Host.Outcome State Fault Refusal :=
  .next (s.onLive (0x08 + c.val) fun s => s.setPf c.val F.PN_PID_CMD.BUSY 0)

/-! ### The overhead serial ports (R55, R98 to R100, R120, R121, R469) -/

/-- The bytes OMCC SDUs of a channel's OSP occupy upstream, with their headers (R120). -/
def State.ospUpUsed (s : State) (c : Nat) : Nat :=
  (((s.pn c).omccUp.filter (·.osp)).map fun x => x.data.length + 2).sum

/-- The status byte: of R55 before RUN and in the hold, of R99 from RUN on. -/
def State.ospStatus (s : State) (c : Nat) : Nat :=
  if s.inHold then 0xC0 + s.boot.lastCode % 16
  else if s.stage ≠ 0xA then 0x80 + s.stage
  else
    let a := s.align c
    32 * b2n (!(s.pn c).ospQ.isEmpty) + 16 * b2n (decide (c = 0) && s.bit hstB F.HST_CFG.HOSTLESS && !s.evt.ospQ.isEmpty) +
      8 * b2n (decide (s.ospUpUsed c + 2050 ≤ 8192)) + 4 * b2n (s.pn c).ospLost + a

/-- A transaction on a port whose pins are enabled, from POR release on: the status byte goes out (R54, R55), and from RUN on, in
a live island, `f` acts and sends more. -/
def State.ospDo (s : State) (c : Nat) (f : State → State × List Byte) : State :=
  if s.boot.por || !s.bit (pnB c) F.PN_OSP_CFG.ENABLE then s
  else
    let b := BitVec.ofNat 8 (s.ospStatus c)
    if s.stage ≠ 0xA then s.emit (.osp c [b])
    else if !s.live (0x08 + c) then s
    else
      let (s, l) := f s
      s.emit (.osp c (b :: l))

/-- OSP_NOP (R98). -/
def execOspNop (c : PonCh) (s : State) : Host.Outcome State Fault Refusal := .next (s.ospDo c.val fun s => (s, []))

/-- OSP_OTHER_COMMAND (R98). -/
def execOspOtherCommand (c : PonCh) (_cmd : Byte) (s : State) : Host.Outcome State Fault Refusal :=
  .next (s.ospDo c.val fun s => (s, []))

/-- OSP_READ_MSG (R98 to R100): the bytes the master clocks after the first; a transaction that ends before its message is whole
leaves it in the queue. -/
def execOspReadMsg (c : PonCh) (n : BitVec 16) (s : State) : Host.Outcome State Fault Refusal :=
  .next (s.ospDo c.val fun s =>
    let p := s.pn c.val
    let s := s.setPn c.val { p with ospLost := false }
    match p.ospQ with
    | [] => (s, [0, 0].take n.toNat)
    | x :: t =>
      let l := beBytes 2 (x.1 * 2 ^ 12 + x.2.length) ++ x.2
      (if l.length ≤ n.toNat then s.setPn c.val { s.pn c.val with ospQ := t } else s, l.take n.toNat))

/-- OSP_WRITE_MSG (R98, R120): type 1 PLOAM or 2 OMCI; one that ends early is discarded. -/
def execOspWriteMsg (c : PonCh) (whole : Bool) (typ : BitVec 4) (data : List Byte) (s : State) :
    Host.Outcome State Fault Refusal :=
  .next (s.ospDo c.val fun s =>
    let i := c.val
    let room := decide (s.ospUpUsed i + data.length + 2 ≤ 8192)
    let s :=
      if !whole then s
      else if typ.toNat = 1 ∧ s.bit (pnB i) F.PN_US_CTRL.OSP_PLOAM = true then
        s.queuePloam i { hw := false, msg := .raw data, keyNo := 0 }
      else if typ.toNat = 2 ∧ s.bit (pnB i) F.PN_OSP_CFG.OMCI_OSP = true ∧ s.bit (pnB i) F.PN_OMCC.VALID = true ∧
          room = true then
        let (s, n) := s.newN i
        let p := s.pn i
        s.setPn i { p with omccUp := p.omccUp ++ [{ n, osp := true, data }] }
      else s.pCount i Ctr.PN.OSP_US_DROP
    (s, []))

/-- OSP_READ_EVT (R98, R469): OSPA sends its oldest event record, or 32 zero bytes, as far as the master clocks them; a record
that is not whole stays. To OSPB the command is not listed. -/
def execOspReadEvt (c : PonCh) (n : BitVec 16) (s : State) : Host.Outcome State Fault Refusal :=
  .next (s.ospDo c.val fun s =>
    if c.val ≠ 0 then (s, [])
    else match s.evt.ospQ with
      | [] => (s, (List.replicate 32 (0 : Byte)).take n.toNat)
      | r :: t => (if 32 ≤ n.toNat then { s with evt := { s.evt with ospQ := t } } else s, r.take n.toNat))

/-! ### Arrival at the traffic manager (R278 to R287, R295, R305) -/

/-- A copy that TRANSIT could not take when it was made is written into the buffer as it arrives, where the buffer has cells
(R281, log 172). -/
def State.storeLate (s : State) (p : Packet) : State × Packet :=
  if p.cells ≠ 0 ∨ s.freeCells < p.cellLen then (s, p)
  else
    s.storePkt p

/-- TMG_ENQUEUE (R279 to R286, R295, R305): the oldest packet arriving is placed, once for each of its copies. -/
def execTmgEnqueue (s : State) : Host.Outcome State Fault Refusal :=
  .next <| s.onLive 0x28 fun s => match s.tmg.inQ with
    | [] => s
    | p :: t =>
      let (s, p) := { s with tmg := { s.tmg with inQ := t } }.storeLate p
      let s := s.leaveTransit p
      let s := match s.pickQueues p with
        | none => s.noQueue p
        | some [] => s.unref p
        | some qs =>
          match s.police p with
          | (s, none) => s.unref p
          | (s, some k) =>
            let s := if p.cells = 0 then s
              else { s with tmg := { s.tmg with refs := SMap.set (fun _ => 0) s.tmg.refs p.uid qs.length } }
            qs.foldl (fun s q => s.placeCopy q p k) s
      (((s.radioEnter 0).radioEnter 1).psCheck 0).psCheck 1

end Sys2Proof.Machine
end

