-- ==== Sys2Proof/Machine/Secy.lean ====
section
/-! DEFINITION. The SecY of each tenant port (R381 to R384, R388 to R390): its entries, protection on transmit and
verification on receive. The forms of the SecTAG and of the IVs are those of IEEE 802.1AE-2018 (PRESUMED, log entry 30). -/

namespace Sys2Proof.Machine

/-! ### Entries (R388, R389) -/

/-- A SecY entry of port n: 0 to 3 transmit SAs, 8 to 15 receive SCs, 16 to 47 receive SAs. -/
def State.sec (s : State) (n k : Nat) : Nat := SMap.get (fun _ => 0) (s.port n).sec k

/-- Replace a SecY entry. -/
def State.setSec (s : State) (n k v : Nat) : State :=
  s.setPort n { s.port n with sec := SMap.set (fun _ => 0) (s.port n).sec k v }

/-- The fields of an entry: VALID, STOPPED, SLOT, SSCI, the PN and the salt, and an SC's SCI. -/
def secValid (e : Nat) : Bool := e.testBit 31
def secStopped (e : Nat) : Bool := e.testBit 30
def secSlot (e : Nat) : Nat := bits e 9 0
def secSsci (e : Nat) : Nat := bits e 63 32
def secPn (e : Nat) : Nat := bits e 127 64
def secSalt (e : Nat) : Nat := bits e 159 128 * 2 ^ 64 + bits e 191 160 * 2 ^ 32 + bits e 223 192
def secSci (e : Nat) : Nat := bits e 95 32

/-- Whether a slot holds a key a SecY may use: TYPE 10 with USE_SEC (R381). -/
def State.secKey (s : State) (slot : Nat) : Option Nat :=
  match s.slot slot with
  | some k => if k.typ = 2 ∧ k.use.testBit 1 = true then some k.key else none
  | none => none

/-- A field of TQ_SEC_CFG. -/
def State.secF (s : State) (n : Nat) (f : Fld) : Nat := s.fld (tqB n) f

/-- The key of an entry that TQ_SEC_CMD's SPACE and INDEX name, none where INDEX is out of range (R388). -/
def secIx (sp i : Nat) : Option Nat :=
  if sp = 0 then (if i < 4 then some i else none)
  else if sp = 1 then (if i < 8 then some (8 + i) else none)
  else some (16 + i)

/-- The fields an entry keeps of the words written to it (R389): a write of an SA clears STOPPED. -/
def secKept (sp v : Nat) : Nat :=
  if sp = 1 then bits v 31 31 * 2 ^ 31 + bits v 95 32 * 2 ^ 32
  else bits v 31 31 * 2 ^ 31 + bits v 9 0 + bits v 223 32 * 2 ^ 32

/-- A write of TQ_SEC_CMD (R388, R389): CAUSE 010 where an SA's slot is unusable, 101 where INDEX is out of range. -/
def State.wrSecCmd (s : State) (n v : Nat) : State :=
  let b := tqB n
  if s.bit b F.TQ_SEC_CMD.BUSY then s
  else
    let sp := F.TQ_SEC_CMD.SPACE.of v
    let op := F.TQ_SEC_CMD.OP.of v
    let i := F.TQ_SEC_CMD.INDEX.of v
    let s := ((s.setF b F.TQ_SEC_CMD.SPACE sp).setF b F.TQ_SEC_CMD.OP op).setF b F.TQ_SEC_CMD.INDEX i
    if op = 3 ∨ sp = 3 then s
    else
      let s := s.setF b F.TQ_SEC_CMD.BUSY 1
      match secIx sp i with
      | none => s.setF b F.TQ_SEC_CMD.CAUSE 5
      | some k =>
        let s := s.setF b F.TQ_SEC_CMD.CAUSE 0
        let e := s.sec n k
        if op = 0 then s.setRegs (b + 0x314) (natWords (if sp = 1 then 3 else 7) e)
        else if op = 2 then s.setSec n k (setBits e 31 31 0)
        else
          let w := secKept sp (wordsNat (s.regWords (b + 0x314) 7))
          if sp ≠ 1 ∧ (s.secKey (secSlot w)).isNone then s.setF b F.TQ_SEC_CMD.CAUSE 2 else s.setSec n k w

/-- The value of TQ_SEC_CMD for an operation on an entry. -/
def secCmd (sp op i : Nat) : Nat := sp * 2 ^ 18 + op * 2 ^ 16 + i

/-- TQ_SEC_READ (R388): OP 00. -/
def execTqSecRead (m : Master) (n : Port) (sp : Fin 3) (i : BitVec 5) (s : State) : Host.Outcome State Fault Refusal :=
  .next (s.onWrite m (tqB n.val + 0x310) fun s => s.wrSecCmd n.val (secCmd sp.val 0 i.toNat))

/-- TQ_SEC_WRITE (R389): OP 01. -/
def execTqSecWrite (m : Master) (n : Port) (sp : Fin 3) (i : BitVec 5) (s : State) : Host.Outcome State Fault Refusal :=
  .next (s.onWrite m (tqB n.val + 0x310) fun s => s.wrSecCmd n.val (secCmd sp.val 1 i.toNat))

/-- TQ_SEC_INVALIDATE (R388): OP 10. -/
def execTqSecInvalidate (m : Master) (n : Port) (sp : Fin 3) (i : BitVec 5) (s : State) : Host.Outcome State Fault Refusal :=
  .next (s.onWrite m (tqB n.val + 0x310) fun s => s.wrSecCmd n.val (secCmd sp.val 2 i.toNat))

/-- TQ_SEC_CMD_DONE (R388). -/
def execTqSecCmdDone (n : Port) (s : State) : Host.Outcome State Fault Refusal :=
  .next (s.onLive (quadId n.val) fun s => s.setF (tqB n.val) F.TQ_SEC_CMD.BUSY 0)

/-- A write of TQ_SEC_CFG (R381): while EN is 1, XPN, CONF_OFF and CONF keep their values. -/
def State.wrSecCfg (s : State) (n v : Nat) : State :=
  let a := tqB n + F.TQ_SEC_CFG.EN.off
  let old := (s.reg a).toNat
  if F.TQ_SEC_CFG.EN.of old = 1 then s.store a (setBits v 23 20 (bits old 23 20)) else s.store a v

/-! ### Protection and verification -/

/-- The IV of a frame: the SSCI and the PN under the salt with XPN, else the SCI and the PN. -/
def State.secIv (s : State) (n e sci pn : Nat) : Nat :=
  if s.bit (tqB n) F.TQ_SEC_CFG.XPN then Nat.xor (secSsci e * 2 ^ 64 + pn % 2 ^ 64) (secSalt e)
  else sci * 2 ^ 32 + pn % 2 ^ 32

/-- The bytes of the secure data that stay in clear while the rest is encrypted (R381). -/
def State.confOff (s : State) (n : Nat) : Nat :=
  let v := s.secF n F.TQ_SEC_CFG.CONF_OFF
  if v = 1 then 30 else if v = 2 then 50 else 0

/-- AES blocks of a MACsec lane: one to a quad (R515). -/
def State.secBlocks (s : State) (n len : Nat) : State := s.pmc 0x0A0 (3 + n / 4) (ceilDiv len 16)

/-- The secure data as sent and its ICV: with `enc`, all but the offset's bytes are encrypted, and what stays in clear is
authenticated (R381). -/
def State.secSeal (s : State) (n key iv : Nat) (head data : List Byte) (enc : Bool) : List Byte × Nat :=
  if enc then
    let co := min (s.confOff n) data.length
    let ct := bytesAt (aesCtr 2 key (iv * 2 ^ 32 + 2) (data.drop co)) 0 (data.length - co)
    (data.take co ++ ct, gcmTag 2 key iv (head ++ data.take co) ct)
  else (data, gcmTag 2 key iv (head ++ data) [])

/-- The secure data in clear and the ICV it should carry. -/
def State.secOpen (s : State) (n key iv : Nat) (head data : List Byte) (enc : Bool) : List Byte × Nat :=
  if enc then
    let co := min (s.confOff n) data.length
    let ct := data.drop co
    (data.take co ++ bytesAt (aesCtr 2 key (iv * 2 ^ 32 + 2) ct) 0 ct.length, gcmTag 2 key iv (head ++ data.take co) ct)
  else (data, gcmTag 2 key iv (head ++ data) [])

/-- The port's source address (R188). -/
def State.macSa (s : State) (n : Nat) : Nat := s.tqF n F.TQ_MAC_SA_HI.SA_HI * 2 ^ 32 + s.tqF n F.TQ_MAC_SA_LO.SA_LO

/-- The SecY's own SCI (R381). -/
def State.secOwnSci (s : State) (n : Nat) : Nat := s.macSa n * 65536 + s.secF n F.TQ_SEC_CFG.PI

/-- The last PN an SA uses, and where it is reported (R384). -/
def State.secLast (s : State) (n : Nat) : Nat := if s.bit (tqB n) F.TQ_SEC_CFG.XPN then 2 ^ 64 - 1 else 2 ^ 32 - 1
def State.secThr (s : State) (n : Nat) : Nat :=
  if s.bit (tqB n) F.TQ_SEC_CFG.XPN then 2 ^ 64 - 2 ^ 32 else 2 ^ 32 - 2 ^ 16

/-- The PN of a transmit SA has been used: the next one, or STOPPED after the last (R382, R384). -/
def State.secUsed (s : State) (n an e : Nat) : State :=
  let pn := secPn e
  if s.secLast n ≤ pn then s.setSec n an (setBits e 30 30 1)
  else
    let e := setBits e 127 64 (pn + 1)
    if s.secThr n ≤ pn + 1 ∧ e.testBit 224 = false then
      (s.setSec n an (e + 2 ^ 224)).raise Ev.TP_SEC_PN_THRESHOLD (quadId n) (n % 4) [(1, n), (1, an)]
    else s.setSec n an e

/-- The SecTAG of a protected frame. -/
def State.secTag (s : State) (n an pn len : Nat) : List Byte :=
  let sc := s.bit (tqB n) F.TQ_SEC_CFG.INCLUDE_SCI
  let es := s.bit (tqB n) F.TQ_SEC_CFG.USE_ES && !sc
  let scb := s.bit (tqB n) F.TQ_SEC_CFG.USE_SCB && !sc
  let tci := b2n es * 64 + b2n sc * 32 + b2n scb * 16 + s.secF n F.TQ_SEC_CFG.CONF * 12 + an
  beBytes 2 0x88E5 ++ beBytes 1 tci ++ beBytes 1 (if len < 48 then len else 0) ++ beBytes 4 (pn % 2 ^ 32) ++
    (if sc then beBytes 8 (s.secOwnSci n) else [])

/-- Protect a frame with an SA (R382). -/
def State.secProtect (s : State) (n an e key : Nat) (bs : List Byte) : State × Option (List Byte) :=
  let pn := secPn e
  let data := bs.drop 12
  let conf := s.bit (tqB n) F.TQ_SEC_CFG.CONF
  let head := bytesAt bs 0 12 ++ s.secTag n an pn data.length
  let out := s.secSeal n key (s.secIv n e (s.secOwnSci n) pn) head data conf
  let s := (s.count (tqB n + Ctr.TQ.TX_PROTECTED)).tallyAdd 0x17 (64 * n + an)
  let s := if conf then s.count (tqB n + Ctr.TQ.TX_ENCRYPTED) else s
  ((s.secUsed n an e).secBlocks n data.length, some (head ++ out.1 ++ beBytes 16 out.2))

/-- A frame to send passes the SecY, none where it is dropped (R382, R384). -/
def State.secTx (s : State) (n : Nat) (bs : List Byte) : State × Option (List Byte) :=
  if s.bit (tqB n) F.TQ_SEC_CFG.EN = false ∨ s.bit (tqB n) F.TQ_SEC_CFG.PROTECT = false ∨ beAt bs 12 2 = 0x888E then
    (s, some bs)
  else
    let an := s.secF n F.TQ_SEC_CFG.ENC_AN
    let e := s.sec n an
    if secValid e = false then (s.count (tqB n + Ctr.TQ.TX_NO_SA), none)
    else if secStopped e then
      let s := s.count (tqB n + Ctr.TQ.TX_SA_STOPPED)
      if e.testBit 225 then (s, none)
      else ((s.setSec n an (e + 2 ^ 225)).raise Ev.TP_SEC_PN_EXHAUSTED (quadId n) (n % 4) [(1, n), (1, an)], none)
    else
      match s.secKey (secSlot e) with
      | none => ((s.count (tqB n + Ctr.TQ.TX_NO_SA)).slotAbsent (secSlot e), none)
      | some key => s.secProtect n an e key bs

/-- A received SecTAG: its TCI and AN byte, SL, PN, explicit SCI, its length, and the secure data's length. -/
structure SecTag where
  tci : Nat
  sl : Nat
  pn : Nat
  sci : Option Nat
  len : Nat
  data : Nat
  deriving DecidableEq, Repr

/-- Read a SecTAG behind the addresses. -/
def readSecTag (bs : List Byte) : SecTag :=
  let tci := beAt bs 14 1
  let sc := tci.testBit 5
  let sl := beAt bs 15 1
  let len := if sc then 16 else 8
  { tci, sl, pn := beAt bs 16 4, sci := if sc then some (beAt bs 20 8) else none, len,
    data := if sl = 0 then bs.length - 12 - len - 16 else sl }

/-- Whether a SecTAG is malformed: its version, its SL, SC beside ES or SCB, E without C, a PN of 0 without XPN, or a frame
that cannot hold what it says. -/
def SecTag.bad (t : SecTag) (xpn : Bool) (n : Nat) : Bool :=
  t.tci.testBit 7 || decide (48 ≤ t.sl) || (t.tci.testBit 5 && (t.tci.testBit 6 || t.tci.testBit 4)) ||
    (t.tci.testBit 3 && !t.tci.testBit 2) || (decide (t.pn = 0) && !xpn) || decide (n < 12 + t.len + t.data + 16) ||
    (decide (t.sl = 0) && decide (t.data < 48))

/-- The SC of a received frame: by its SCI; without one, by its source address when ES is set, else the only valid SC. -/
def State.secSc (s : State) (n : Nat) (t : SecTag) (bs : List Byte) : Nat × Option Nat :=
  let valid := (List.range 8).filter fun i => secValid (s.sec n (8 + i))
  let sci := match t.sci with
    | some v => v
    | none =>
      if t.tci.testBit 6 then beAt bs 6 6 * 65536 + (if t.tci.testBit 4 then 0 else 1)
      else match valid with
        | [i] => secSci (s.sec n (8 + i))
        | _ => 0
  (sci, valid.find? fun i => decide (secSci (s.sec n (8 + i)) = sci))

/-- The full PN of a frame: under XPN recovered from the lowest acceptable PN (R383). -/
def secFullPn (xpn : Bool) (low pn : Nat) : Nat :=
  if !xpn then pn
  else
    let hi := low / 2 ^ 32
    let lo := low % 2 ^ 32
    (if lo ≤ pn ∨ ¬(2 ^ 31 ≤ lo ∧ pn < 2 ^ 31) then hi else hi + 1) % 2 ^ 32 * 2 ^ 32 + pn

/-- A lane counter of port n. -/
def State.tqCount (s : State) (n c : Nat) (k : Nat := 1) : State := s.count (tqB n + c) k

/-- An event of port n, at most once per 1 ms for the port. -/
def State.tqRaiseMs (s : State) (n src : Nat) (fs : List (Nat × Nat)) : State := s.raiseMs n src (quadId n) (n % 4) fs

/-- The MACsec lane of a port's quad finds its two computations of a frame in disagreement: nothing is released (R375). -/
def State.secMismatch (s : State) (n slot : Nat) : State :=
  (s.count (vltB + Ctr.VLT.CRYPT_FAIL)).vaultFault (some (3 + n / 4)) 0 slot

/-- A frame whose SA is known: replay, ICV and LOWEST_PN (R383); a compare mismatch drops it (R375). -/
def State.secVerify (s : State) (n sa key sci : Nat) (t : SecTag) (bs : List Byte) (mismatch : Bool) :
    State × Option (List Byte) :=
  let b := tqB n
  let e := s.sec n (16 + sa)
  let pn := secFullPn (s.bit b F.TQ_SEC_CFG.XPN) (secPn e) t.pn
  let enc := t.tci.testBit 3
  let data := bytesAt bs (12 + t.len) t.data
  let addrs := bytesAt bs 0 12
  let mode := s.secF n F.TQ_SEC_CFG.VALIDATE
  if s.bit b F.TQ_SEC_CFG.REPLAY = true ∧ pn < secPn e then
    ((s.tqCount n Ctr.TQ.RX_LATE).tqRaiseMs n Ev.TP_SEC_REPLAY [(1, n), (1, sa)], none)
  else if mode = 0 then
    (s.tqCount n Ctr.TQ.RX_UNCHECKED, if enc then none else some (addrs ++ data))
  else
    let s := s.secBlocks n t.data
    if mismatch then (s.secMismatch n (secSlot e), none) else
    let out := s.secOpen n key (s.secIv n e sci pn) (bytesAt bs 0 (12 + t.len)) data enc
    if out.2 ≠ beAt bs (12 + t.len + t.data) 16 then
      if mode = 1 ∧ enc = false then (s.tqCount n Ctr.TQ.RX_NOT_VALID, some (addrs ++ data))
      else ((s.tqCount n Ctr.TQ.ICV_FAIL).tqRaiseMs n Ev.TP_SEC_ICV_FAIL [(1, n), (1, sa / 4)], none)
    else
      let s := (s.tqCount n Ctr.TQ.RX_OK).tallyAdd 0x17 (64 * n + 4 + sa)
      let low := max (secPn e) (pn - s.secF n F.TQ_SEC_REPLAY.WINDOW)
      (s.setSec n (16 + sa) (setBits e 127 64 low), some (addrs ++ out.1))

/-- A received frame passes the SecY, none where it is dropped (R383). -/
def State.secRx (s : State) (n : Nat) (bs : List Byte) (mismatch : Bool) : State × Option (List Byte) :=
  let b := tqB n
  let strict := decide (2 ≤ s.secF n F.TQ_SEC_CFG.VALIDATE)
  if s.bit b F.TQ_SEC_CFG.EN = false then (s, some bs)
  else if beAt bs 12 2 ≠ 0x88E5 then
    if beAt bs 12 2 = 0x888E then (s, some bs)
    else if strict then (s.tqCount n Ctr.TQ.RX_NO_TAG, none)
    else (s.tqCount n Ctr.TQ.RX_UNTAGGED, some bs)
  else
    let t := readSecTag bs
    if t.bad (s.bit b F.TQ_SEC_CFG.XPN) bs.length then (s.tqCount n Ctr.TQ.RX_BAD_TAG, none)
    else
      let an := t.tci % 4
      let (sci, sc) := s.secSc n t bs
      let fail (s : State) : State × Option (List Byte) :=
        let s := (s.tqCount n Ctr.TQ.RX_NO_SA).tqRaiseMs n Ev.TP_SEC_NO_SA [(1, n), (4, sci), (1, an)]
        (s, if strict || t.tci.testBit 3 then none else some (bytesAt bs 0 12 ++ bytesAt bs (12 + t.len) t.data))
      match sc with
      | none => fail s
      | some i =>
        let sa := 4 * i + an
        if secValid (s.sec n (16 + sa)) = false then fail s
        else
          match s.secKey (secSlot (s.sec n (16 + sa))) with
          | none => fail (s.slotAbsent (secSlot (s.sec n (16 + sa))))
          | some key => s.secVerify n sa key sci t bs mismatch

end Sys2Proof.Machine
end

