-- ==== Sys2Proof/Machine/Tq.lean ====
section
/-! DEFINITION. The tenant ports (R163 to R202): lane PLLs and link, calibration and the service state, the test functions,
flow control and the pause watchdog. -/

namespace Sys2Proof.Machine

/-- The timers of port n: a priority's pause, its watchdog and its HOLDOFF, the PFC refresh and the back-off. -/
def Tm.pause (n p : Nat) : Nat := 0x40000 + 64 * n + p
def Tm.wdog (n p : Nat) : Nat := 0x40008 + 64 * n + p
def Tm.holdoff (n p : Nat) : Nat := 0x40010 + 64 * n + p
def Tm.refresh (n : Nat) : Nat := 0x40020 + 64 * n
def Tm.backoff (n : Nat) : Nat := 0x40028 + 64 * n

/-- Put a field of port n's page. -/
def State.setTq (s : State) (n : Nat) (f : Fld) (v : Nat) : State := s.setF (tqB n) f v

/-- An event of port n. -/
def State.tqRaise (s : State) (n src : Nat) (fs : List (Nat × Nat)) : State := s.raise src (quadId n) (n % 4) fs

/-! ### Link (R163 to R169) -/

/-- The PLL setting a mode needs (R163). -/
def modeSetting (m : Nat) : Nat := if m = 0 then 0 else if m = 1 then 1 else if m = 2 then 2 else 3

/-- The setting of the PLL a lane selects, and whether it is locked (R164). -/
def State.laneSetting (s : State) (n : Nat) : Nat :=
  let q := quadB (n / 4)
  if s.bit (tqB n) F.TQ_LANE_CFG.PLL_SEL then s.fld q F.TQ_QUAD_PLL.PLL1_SET else s.fld q F.TQ_QUAD_PLL.PLL0_SET
def State.lanePll (s : State) (n : Nat) : Bool :=
  let q := quadB (n / 4)
  if s.bit (tqB n) F.TQ_LANE_CFG.PLL_SEL then s.bit q F.TQ_QUAD_PLL.PLL1_LOCK else s.bit q F.TQ_QUAD_PLL.PLL0_LOCK

/-- The FEC of a lane: 0 none, 1 BASE-R, 2 RS; none but in 25GBASE-R (R168, R197). -/
def State.laneFec (s : State) (n : Nat) : Nat :=
  let v := s.tqF n F.TQ_LANE_CFG.FEC
  if s.laneMode n = 1 ∧ v ≤ 2 then v else 0

/-- Whether auto-negotiation runs (R163, R197). -/
def State.anRuns (s : State) (n : Nat) : Bool :=
  (decide (s.laneMode n = 4) || decide (s.laneMode n = 5)) && s.bit (tqB n) F.TQ_MAC_CTRL.AN_EN

/-- The conditions of LINK (R165, R167, R169). -/
def State.linkOk (s : State) (n : Nat) : Bool :=
  let b := tqB n
  decide (s.portState n = 0) && decide (s.laneMode n ≠ 0) && !s.bit b F.TQ_LANE_STAT.CFG_ERR && s.lanePll n &&
    s.bit b F.TQ_LANE_STAT.SYNC && !s.bit b F.TQ_LANE_STAT.HI_BER &&
    (decide (s.laneFec n = 0) || s.bit b F.TQ_LANE_STAT.FEC_LOCK) && (!s.anRuns n || s.bit b F.TQ_LANE_STAT.AN_DONE)

/-- SPEED and HALF as the mode and the settings give them; the partner's word keeps them while negotiation has it (R167,
R169). -/
def State.showSpeed (s : State) (n : Nat) : State :=
  let put (s : State) (v h : Nat) : State := (s.setTq n F.TQ_LANE_STAT.SPEED v).setTq n F.TQ_LANE_STAT.HALF h
  if s.laneMode n ≠ 5 then put s 3 0
  else if s.anRuns n then (if s.bit (tqB n) F.TQ_LANE_STAT.AN_DONE then s else put s 2 0)
  else
    let v := min 2 (s.tqF n F.TQ_MAC_CTRL.SPEED)
    put s v (if v = 2 then 0 else s.tqF n F.TQ_MAC_CTRL.HALF)

/-- LINK follows its conditions: a change raises TP_LINK with its cause, 0 sync, 1 HI_BER, 2 FEC, 3 auto-negotiation; a loss
counts (R169, R202). -/
def State.showLink (s : State) (n cause : Nat) : State :=
  let v := s.linkOk n
  if s.linkUp n = v then s
  else
    let s := s.setTq n F.TQ_LANE_STAT.LINK (b2n v)
    let s := if v then s else s.tqCount n Ctr.TQ.LINK_LOSS
    let s := s.raiseMs (b2n v) (Ev.TP_LINK + n) (quadId n) (n % 4)
      [(1, b2n v), (1, s.tqF n F.TQ_LANE_STAT.SPEED), (1, s.tqF n F.TQ_LANE_STAT.HALF), (1, cause)]
    (s.psCheck 0).psCheck 1

/-- The PCS loses sync: what it had found of the signal is void, HI_BER with it and without a TP_HI_BER of its own (log 164). -/
def State.syncLost (s : State) (n : Nat) : State :=
  ((((s.setTq n F.TQ_LANE_STAT.SYNC 0).setTq n F.TQ_LANE_STAT.HI_BER 0).setTq n F.TQ_LANE_STAT.FEC_LOCK 0).setTq n
    F.TQ_LANE_STAT.AN_DONE 0).showLink n 0

/-- CFG_ERR of a lane as its mode and its PLL stand; its appearance raises TQ_PLL with code 2 and the lane (R165). -/
def State.checkCfg (s : State) (n : Nat) : State :=
  let need := modeSetting (s.laneMode n)
  let bad := decide (need ≠ 0) && decide (s.laneSetting n ≠ need)
  let was := s.bit (tqB n) F.TQ_LANE_STAT.CFG_ERR
  let s := s.setTq n F.TQ_LANE_STAT.CFG_ERR (b2n bad)
  let s := if bad = true ∧ was = false then
      s.tqRaise n (Ev.TQ_PLL + n / 4) [(1, s.tqF n F.TQ_LANE_CFG.PLL_SEL), (1, 2), (1, n % 4)] else s
  s.showLink n 0

/-- The ports of a quad. -/
def quadPorts (q : Nat) : List Nat := [4 * q, 4 * q + 1, 4 * q + 2, 4 * q + 3]

/-- A lane PLL's lock bit changes: the lanes that use it lose their sync with a lost lock, and the loss and the relock raise
TQ_PLL once each: code 0 lost, 1 regained (R165). -/
def State.setPllLock (s : State) (q pll : Nat) (lock : Bool) : State :=
  let f := if pll = 0 then F.TQ_QUAD_PLL.PLL0_LOCK else F.TQ_QUAD_PLL.PLL1_LOCK
  if s.bit (quadB q) f = lock then s
  else
    let s := s.setBit (quadB q) f lock
    let s := if lock then s
      else ((quadPorts q).filter fun n => decide (s.tqF n F.TQ_LANE_CFG.PLL_SEL = pll)).foldl (fun s n => s.syncLost n) s
    s.raise (Ev.TQ_PLL + q) (0x10 + q) noInst [(1, pll), (1, b2n lock), (1, 0)]

/-- TQ_PLL_LOCK_CHANGE (R165). -/
def execTqPllLockChange (q : Fin 12) (pll : Fin 2) (lock : Bool) (s : State) : Host.Outcome State Fault Refusal :=
  .next (s.setPllLock q.val pll.val lock)

/-- TQ_CDR_LOCK_CHANGE (R171): CDR_LOCK shows the recovery circuit; without it nothing is received. -/
def execTqCdrLockChange (n : Port) (lock : Bool) (s : State) : Host.Outcome State Fault Refusal :=
  .next <|
    let s := (s.setTq n.val F.TQ_LANE_STAT.CDR_LOCK (b2n lock)).showSynceOut
    if lock then s else s.syncLost n.val

/-- TQ_PCS_SYNC_CHANGE (R167): the PCS trains only while the port is IN, on a recovered clock (R54, R195). -/
def execTqPcsSyncChange (n : Port) (sync : Bool) (s : State) : Host.Outcome State Fault Refusal :=
  .next <| s.onLive (quadId n.val) fun s =>
    if !sync then s.syncLost n.val
    else if s.portState n.val ≠ 0 ∨ s.bit (tqB n.val) F.TQ_LANE_STAT.CDR_LOCK = false then s
    else (s.setTq n.val F.TQ_LANE_STAT.SYNC 1).showLink n.val 0

/-- TQ_FEC_LOCK_CHANGE (R169). -/
def execTqFecLockChange (n : Port) (lock : Bool) (s : State) : Host.Outcome State Fault Refusal :=
  .next <| s.onLive (quadId n.val) fun s =>
    if s.laneFec n.val = 0 ∨ (lock = true ∧ s.portState n.val ≠ 0) then s
    else (s.setTq n.val F.TQ_LANE_STAT.FEC_LOCK (b2n lock)).showLink n.val 2

/-- HI_BER_WINDOW (R167): the sixteenth invalid header of a window sets HI_BER; a full window with fewer clears it. -/
def execHiBerWindow (n : Port) (bad : Bool) (s : State) : Host.Outcome State Fault Refusal :=
  .next <| s.onLive (quadId n.val) fun s =>
    let m := s.laneMode n.val
    if (m ≠ 1 ∧ m ≠ 2) ∨ s.bit (tqB n.val) F.TQ_LANE_STAT.SYNC = false ∨
        s.bit (tqB n.val) F.TQ_LANE_STAT.HI_BER = bad then s
    else
      let s := s.setTq n.val F.TQ_LANE_STAT.HI_BER (b2n bad)
      (s.tqRaiseMs n.val Ev.TP_HI_BER [(1, n.val), (1, b2n bad)]).showLink n.val 1

/-- TQ_AN_COMPLETE (R167): in SGMII the PHY's word gives SPEED and HALF. -/
def execTqAnComplete (n : Port) (speed : BitVec 2) (half : Bool) (s : State) : Host.Outcome State Fault Refusal :=
  .next <| s.onLive (quadId n.val) fun s =>
    if s.anRuns n.val = false ∨ s.bit (tqB n.val) F.TQ_LANE_STAT.SYNC = false then s
    else
      let s := s.setTq n.val F.TQ_LANE_STAT.AN_DONE 1
      let v := min 2 speed.toNat
      let s := if s.laneMode n.val = 5 then
          (s.setTq n.val F.TQ_LANE_STAT.SPEED v).setTq n.val F.TQ_LANE_STAT.HALF (if v = 2 then 0 else b2n half)
        else s
      s.showLink n.val 3

/-! ### Test functions (R191 to R194) -/

/-- A PON lane's checker holds the alignment machine in OFF, and its generator drives BEN, while the channel is OUT (R194). -/
def State.prbsPon (s : State) (c : Nat) : State :=
  let b := pnB c
  let chk := s.laneOut (48 + c) && s.bit b F.PN_PRBS_CTRL.CHK_EN
  let want := if s.bit b F.PN_RX_CTRL.ENABLE && !chk then 0 else 3
  let s := if s.act c = 0 ∨ (s.align c = 3) = (want = 3) then s else s.alignLeave c want
  if s.laneOut (48 + c) && s.bit b F.PN_PRBS_CTRL.GEN_EN && s.bit b F.PN_PRBS_CTRL.BEN_ON then s.benRise c s.units
  else s.benFall c s.units

/-- The generator and the checker start as they are turned on, a new INJ_RATE falls at a free place of the stream, and INJ_ONE
inverts a free one of the next 64 bits (R192, R193). `old` is the register before. -/
def State.prbsArm (s : State) (lane old v : Nat) : State :=
  let on (f : Fld) : Bool := decide (f.of old = 0) && decide (s.prbsV lane f = 1)
  let s := if on F.TQ_PRBS_CTRL.GEN_EN then s.prbsStart lane else s
  let s := if on F.TQ_PRBS_CTRL.CHK_EN then s.setPrbs lane (s.prbsOf lane).reseed else s
  let s := if F.TQ_PRBS_CTRL.INJ_RATE.of old = F.TQ_PRBS_CTRL.INJ_RATE.of v then s
    else
      let (s, r) := s.takeFree
      s.setPrbs lane { s.prbsOf lane with phase := r }
  if F.TQ_PRBS_CTRL.INJ_ONE.of v = 1 ∧ s.prbsV lane F.TQ_PRBS_CTRL.GEN_EN = 1 then
    let (s, r) := s.takeFree
    (s.setPrbs lane { s.prbsOf lane with one := some (r % 64) }).emit (.prbsInject lane)
  else s

/-- A write of a pattern control register (R191 to R194): on a lane in service it is discarded when it turns a function on,
and on a PON lane at all; BEN_ON is reserved on a tenant lane (R197). -/
def State.wrPrbs (s : State) (lane v : Nat) : State :=
  let b := prbsB lane
  let f := prbsF lane
  let a := b + (f F.TQ_PRBS_CTRL.GEN_EN).off
  let v := if lane < 48 then setBits v 19 19 0 else v
  if s.laneOut lane = false ∧ (48 ≤ lane ∨ 2 ^ 30 ≤ v % 2 ^ 32) then s
  else
    let old := (s.reg a).toNat
    let s := s.store a v
    let s := if F.TQ_PRBS_CTRL.CLR.of v = 1 then
        { s.setF b (f F.TQ_PRBS_ERR.ERRORS) 0 with
          ctrs := SMap.set (fun _ => 0) s.ctrs (b + if lane < 48 then Ctr.TQ.PRBS_BITS else Ctr.PN.PRBS_BITS) 0 }
      else s
    let s := s.prbsArm lane old v
    let s := if s.bit b (f F.TQ_PRBS_CTRL.CHK_EN) then s else s.setPrbsLock lane false
    if lane < 48 then s else s.prbsPon (lane - 48)

/-- A pattern control register as it stands, its triggers 0. -/
def State.prbsWord (s : State) (lane : Nat) : Nat := (s.reg (prbsB lane + (prbsF lane F.TQ_PRBS_CTRL.GEN_EN).off)).toNat

/-- PRBS_INJ_ONE (R193): INJ_ONE written 1, the rest of the register as it is. -/
def execPrbsInjOne (m : Master) (lane : Fin 50) (s : State) : Host.Outcome State Fault Refusal :=
  .next (s.onWrite m (prbsB lane.val + (prbsF lane.val F.TQ_PRBS_CTRL.GEN_EN).off) fun s =>
    s.wrPrbs lane.val (s.prbsWord lane.val + 2 ^ 28))

/-- PRBS_CLR (R192): CLR written 1, the rest of the register as it is. -/
def execPrbsClr (m : Master) (lane : Fin 50) (s : State) : Host.Outcome State Fault Refusal :=
  .next (s.onWrite m (prbsB lane.val + (prbsF lane.val F.TQ_PRBS_CTRL.GEN_EN).off) fun s =>
    s.wrPrbs lane.val (s.prbsWord lane.val + 2 ^ 27))

/-- What a lane's receiver hands on: `bits`, `times` over, and then `rest`. -/
def laneBits (bits : List Bool) (times : Nat) (rest : List Bool) : List Bool := (List.replicate times bits).flatten ++ rest

/-- PRBS_LOCK_CHANGE (R191 to R194): a lane that is OUT runs its loop, its generator and its checker for as many bit times as
bits have come from its receiver; the checker gains or drops LOCK with them, and counts what it compares. -/
def execPrbsLockChange (lane : Fin 50) (bits : List Bool) (times : Nat) (rest : List Bool) (s : State) :
    Host.Outcome State Fault Refusal :=
  .next <|
    let bits := laneBits bits times rest
    if s.laneOut lane.val = false then s
    else
      let r := s.prbsRun lane.val bits
      r.1.prbsPins lane.val bits r.2

/-! ### Service state and calibration (R170, R195, R196) -/

/-- A port's service state changes (R191, R195, R196). -/
def State.svcTo (s : State) (n new : Nat) : State :=
  let old := s.portState n
  let s := s.setTq n F.TQ_PORT_SVC.STATE new
  let s := if old = 1 then
      (s.setTq n F.TQ_LANE_CFG.LOOP 0).prbsStop n
    else s
  let q := n / 4
  let outs := ((quadPorts q).map fun k => if s.portState k = 1 then 2 ^ (k % 4) else 0).sum
  let s := (s.setF (quadB q) F.TQ_QUAD_STAT.OUT outs).setF (quadB q) F.TQ_QUAD_STAT.ALL_OUT (b2n (outs == 15))
  (s.tqRaise n Ev.TP_SVC_STATE [(1, n), (1, old), (1, new)]).showLink n 0

/-- The lane type of the Hallmark's constants (R352). -/
def State.laneType (s : State) (n : Nat) : Nat :=
  let m := s.laneMode n
  if m = 1 then s.laneFec n else if m = 5 then 8 - s.tqF n F.TQ_LANE_STAT.SPEED else m + 1

/-- The latency sums a passed calibration shows (R326): the Hallmark's constant and residual, and the lane trim it measured,
which is a free value. -/
def State.putLat (s : State) (n : Nat) : State :=
  let k := 8 * s.laneType n
  let base (f : Fld) : Nat := s.fld aonB (f.at k) + s.fld aonB (F.AON_HM_STROBE.RES.at (4 * (n / 4)))
  let rx := base F.AON_HM_LAT_RX.LAT
  let tx := base F.AON_HM_LAT_TX.LAT
  let (s, a) := s.takeFree
  let (s, b) := s.takeFree
  (s.setTq n F.TQ_TS_LAT_RX.LAT (rx + a)).setTq n F.TQ_TS_LAT_TX.LAT (tx + b)

/-- A calibration's result at a lane: CAL_FAIL, and TP_CAL_FAIL with the failing step (R170); a passed one seeds the port's
back-off generator from the Mint, unless that is in FAIL (R178). -/
def State.calResult (s : State) (n : Nat) (fail : Option (Fin 4)) : State :=
  match fail with
  | none =>
    let s := (s.setTq n F.TQ_LANE_STAT.CAL_FAIL 0).putLat n
    if s.mintOk then s.drbgRequest.1 else s
  | some k => (s.setTq n F.TQ_LANE_STAT.CAL_FAIL 1).tqRaise n Ev.TP_CAL_FAIL [(1, n), (1, k.val)]

/-- A port in RETURN whose calibration has ended (R195); without the crystal it is held there (R491). -/
def State.calEnd (s : State) (n : Nat) : State :=
  if s.portState n ≠ 2 ∨ s.bit aonB F.AON_BOOT_STAT.XTAL_FB = true ∨ s.bit timB F.TIM_STAT.XTAL_FB = true then s
  else if s.bit (tqB n) F.TQ_LANE_STAT.CAL_FAIL then (s.setTq n F.TQ_PORT_SVC.WANT 0).svcTo n 1
  else s.svcTo n 0

/-- A lane's result at item 1 of R49 is kept for item 4 (R49, R170). A PON lane that fails stays down; the spec gives its report no
register, and the model raises TP_CAL_FAIL with lane number 48 or 49 (log 187). -/
def State.calLane (s : State) (n : Nat) (fail : Option (Fin 4)) : State :=
  let s := { s with boot := { s.boot with cal := s.boot.cal.insert n } }
  if n < 48 then s.calResult n fail
  else match fail with
    | none => s
    | some k => { s with boot := { s.boot with calBad := s.boot.calBad.insert n } }.raise Ev.TP_CAL_FAIL (0x08 + (n - 48)) noInst
        [(1, n), (1, k.val)]

/-- LANE_CAL_DONE (R49, R170): at item 1 of R49 the result is kept for item 4; in RETURN it decides the next state. After a
P3 exit calibration starts only with SWITCH (R489). Lanes 48 and 49 are those of PCA and PCB. -/
def execLaneCalDone (n : Fin 50) (fail : Option (Fin 4)) (s : State) : Host.Outcome State Fault Refusal :=
  .next <|
    if 48 ≤ n.val then (if s.stage = 9 then s.calLane n.val fail else s)
    else if s.pwr.fast.contains (quadId n.val) then s
    else if s.laneMode n.val = 0 then s.calEnd n.val
    else if s.stage = 9 then s.calLane n.val fail
    else if s.portState n.val = 2 then (s.calResult n.val fail).calEnd n.val
    else s

/-- Item 4 of R49 at a port: an enabled port that is wanted passes through RETURN with the result of item 1 (R170, R195). -/
def State.releasePort (s : State) (n : Nat) : State :=
  if s.laneMode n = 0 ∨ s.bit (tqB n) F.TQ_PORT_SVC.WANT = false ∨ s.portState n ≠ 1 then s
  else (s.svcTo n 2).calEnd n

/-- A queue of a port is emptied, each packet counted in TX_SVC_DISC (R195). -/
def State.flushQueue (s : State) (n q : Nat) : State :=
  let x := s.q q
  let s := s.tqCount n Ctr.TQ.TX_SVC_DISC (x.chip.length + x.deep.length)
  let s := s.cutDeep q fun _ => true
  let cells := (x.chip.map (·.cells)).sum
  let s := s.setQ q { s.q q with chip := [], cells := (s.q q).cells - cells, tag := { (s.q q).tag with on := false } }
  let s := s.setPoolOcc (qPool q) (s.poolOcc (qPool q) - cells)
  x.chip.foldl (fun s p => s.unref p) s

/-- A port in service is taken out (R177, R195): its queues are flushed, its receiver is held in reset and a frame then in
progress is discarded. A frame in the MAC still completes. -/
def State.portOut (s : State) (n : Nat) (rxBusy : Bool) : State :=
  let s := (List.range 8).foldl (fun s p => s.flushQueue n (8 * n + p)) s
  let s := if rxBusy && s.linkUp n then s.tqCount n Ctr.TQ.RX_PARTIAL else s
  let s := (s.setPort n { s.port n with sent := 0 }).stopTimer (Tm.refresh n)
  (s.syncLost n).svcTo n 1

/-- A write of TQ_PORT_SVC (R195): before item 4 of R49 WANT is only stored. -/
def State.wrPortSvc (s : State) (n v : Nat) (rxBusy : Bool) : State :=
  let s := s.store (tqB n + F.TQ_PORT_SVC.WANT.off) v
  let want := decide (F.TQ_PORT_SVC.WANT.of v = 1)
  let st := s.portState n
  if s.counting < 4 then s
  else if want then (if st = 1 then s.svcTo n 2 else s)
  else if st = 0 then s.portOut n rxBusy
  else if st = 2 then s.svcTo n 1
  else s

/-- TQ_PORT_WANT_CLEAR (R195). -/
def execTqPortWantClear (m : Master) (n : Port) (rxBusy : Bool) (s : State) : Host.Outcome State Fault Refusal :=
  .next (s.onWrite m (tqB n.val + F.TQ_PORT_SVC.WANT.off) fun s => s.wrPortSvc n.val 0 rxBusy)

/-- TQ_PORT_WANT_SET (R195). -/
def execTqPortWantSet (m : Master) (n : Port) (s : State) : Host.Outcome State Fault Refusal :=
  .next (s.onWrite m (tqB n.val + F.TQ_PORT_SVC.WANT.off) fun s => s.wrPortSvc n.val 1 false)

/-- A write of TQ_LANE_CFG (R163, R165, R191): one that sets a loop on a port that is not OUT is discarded. -/
def State.wrLaneCfg (s : State) (n v : Nat) : State :=
  if s.portState n ≠ 1 ∧ F.TQ_LANE_CFG.LOOP.of v ≠ 0 then s
  else (((s.store (tqB n) v).checkCfg n).showSpeed n).showLink n 0

/-- A write of TQ_MAC_CTRL (R167, R197). -/
def State.wrMacCtrl (s : State) (n v : Nat) : State :=
  ((s.store (tqB n + F.TQ_MAC_CTRL.FC_MODE.off) v).showSpeed n).showLink n 3

/-- A write of TQ_PORT_CFG (R189): one that would make a ninth radio port is discarded. -/
def State.wrPortCfg (s : State) (n v : Nat) : State :=
  let radios := ((List.range 48).filter fun k => s.bit (tqB k) F.TQ_PORT_CFG.RADIO).length
  if F.TQ_PORT_CFG.RADIO.of v = 1 ∧ s.bit (tqB n) F.TQ_PORT_CFG.RADIO = false ∧ s.sealed = false ∧ 8 ≤ radios then
    s.tqRaise n Ev.TP_RADIO_REFUSED [(1, n)]
  else s.store (tqB n + F.TQ_PORT_CFG.RADIO.off) v

/-- A PLL of a quad takes a new setting (R53, R165): it is out of lock until it relocks, and setting 0 turns it off. -/
def State.retune (s : State) (q pll new : Nat) : State :=
  let s := s.setPllLock q pll false
  if new = 0 then s.pllFree (2 * q + pll) else s.pllBusy (2 * q + pll)

/-- A write of TQ_QUAD_PLL (R53, R165): a PLL whose setting or reference changes relocks. -/
def State.wrQuadPll (s : State) (q v : Nat) : State :=
  let b := quadB q
  let a := s.fld b F.TQ_QUAD_PLL.PLL0_SET
  let d := s.fld b F.TQ_QUAD_PLL.PLL1_SET
  let r := s.fld b F.TQ_QUAD_PLL.REF_SEL
  let s := s.store (b + F.TQ_QUAD_PLL.PLL0_SET.off) v
  let a' := s.fld b F.TQ_QUAD_PLL.PLL0_SET
  let d' := s.fld b F.TQ_QUAD_PLL.PLL1_SET
  let ref := decide (s.fld b F.TQ_QUAD_PLL.REF_SEL ≠ r)
  let s := if a' = a && !ref then s else s.retune q 0 a'
  let s := if d' = d && !ref then s else s.retune q 1 d'
  (quadPorts q).foldl (fun s n => s.checkCfg n) s

/-- A PLL completes its lock after a change of its setting (R53). -/
def State.relocked (s : State) (p : Nat) : State :=
  if !s.boot.relock.contains p then s
  else
    let s := s.pllFree p
    if p < 24 then s.setPllLock (p / 2) (p % 2) true else s

/-! ### Flow control (R186 to R190) -/

/-- FC_MODE: 0 none, 1 pause, 2 PFC (R197). -/
def State.fcMode (s : State) (n : Nat) : Nat := s.tqF n F.TQ_MAC_CTRL.FC_MODE % 3

/-- Ticks of `q` quanta of 512 bit times at a port's rate, rounded up (R187). -/
def State.quantaTicks (s : State) (n q : Nat) : Nat := ceilDiv (q * 640000) (max 1 (s.portRate n))

/-- Whether a priority of a port is paused or broken. -/
def State.isPaused (s : State) (n p : Nat) : Bool := (s.tqF n F.TQ_WDOG_STAT.PAUSED).testBit p
def State.isBroken (s : State) (n p : Nat) : Bool := (s.tqF n F.TQ_WDOG_STAT.BROKEN).testBit p

/-- A set of priorities with one put in or taken out. -/
def putPrio (m p : Nat) (v : Bool) : Nat := m - b2n (m.testBit p) * 2 ^ p + b2n v * 2 ^ p

/-- A priority is released. -/
def State.unpause (s : State) (n p : Nat) : State :=
  ((s.stopTimer (Tm.pause n p)).stopTimer (Tm.wdog n p)).setTq n F.TQ_WDOG_STAT.PAUSED
    (putPrio (s.tqF n F.TQ_WDOG_STAT.PAUSED) p false)

/-- A priority is paused for `q` quanta; on a radio port the watchdog watches it from the start of the pause (R187, R190). -/
def State.pausePrio (s : State) (n p q : Nat) : State :=
  let fresh := !s.isPaused n p
  let s := s.startTimer (Tm.pause n p) (s.quantaTicks n q)
  let s := s.setTq n F.TQ_WDOG_STAT.PAUSED (putPrio (s.tqF n F.TQ_WDOG_STAT.PAUSED) p true)
  if fresh && s.bit (tqB n) F.TQ_PORT_CFG.RADIO then
    s.startTimer (Tm.wdog n p) (max 1 (s.tqF n F.TQ_WDOG_CFG.LIMIT) * usTicks)
  else s

/-- A pause or PFC frame received by a port (R187, R190). -/
def State.pauseRx (s : State) (n : Nat) (pfc : Bool) (mask quanta : Nat) : State :=
  let s := s.tqCount n (if pfc then Ctr.TQ.RX_PFC else Ctr.TQ.RX_PAUSE)
  if s.fcMode n ≠ (if pfc then 2 else 1) then s
  else
    let named := (List.range 8).filter fun p => !pfc || mask.testBit p
    let s := if named.any (s.isBroken n) then s.tqCount n Ctr.TQ.PAUSE_IGNORED else s
    (named.filter fun p => !s.isBroken n p).foldl (fun s p =>
      let q := if pfc then bits quanta (16 * p + 15) (16 * p) else quanta % 65536
      if q = 0 then s.unpause n p else s.pausePrio n p q) s

/-- Whether a port receives frames: after item 4 of R49, IN, with link, its island taking entries (R54, R169, R195). -/
def State.rxOn (s : State) (n : Nat) : Bool :=
  decide (4 ≤ s.counting) && decide (s.portState n = 0) && s.linkUp n && s.accepts (quadId n)

/-- PAUSE_FRAME_RX (R187): a pause frame carries one quanta, a PFC frame one for each priority its mask names. -/
def execPauseFrameRx (n : Port) (pfc : Bool) (mask : BitVec 8) (quanta : BitVec 128) (s : State) :
    Host.Outcome State Fault Refusal :=
  .next (s.onLive (quadId n.val) fun s => if s.rxOn n.val then s.pauseRx n.val pfc mask.toNat quanta.toNat else s)

/-- PAUSE_TIMER_EXPIRY (R187). -/
def execPauseTimerExpiry (n : Port) (p : Fin 8) (s : State) : Host.Outcome State Fault Refusal :=
  .next (s.onLive (quadId n.val) fun s => s.expire (Tm.pause n.val p.val) fun s => s.unpause n.val p.val)

/-- WDOG_LIMIT_EXPIRY (R190): the priority is broken; for an 802.3 pause all eight are broken together. -/
def execWdogLimitExpiry (n : Port) (p : Fin 8) (s : State) : Host.Outcome State Fault Refusal :=
  .next <| s.onLive (quadId n.val) fun s => s.expire (Tm.wdog n.val p.val) fun s =>
    let hit := (List.range 8).filter fun i => s.isPaused n.val i && (decide (s.fcMode n.val = 1) || decide (i = p.val))
    let m := (hit.map fun i => 2 ^ i).sum
    let s := hit.foldl (fun s i => (s.unpause n.val i).startTimer (Tm.holdoff n.val i)
      (max 1 (s.tqF n.val F.TQ_WDOG_CFG.HOLDOFF) * usTicks)) s
    let s := s.setTq n.val F.TQ_WDOG_STAT.BROKEN (Nat.lor (s.tqF n.val F.TQ_WDOG_STAT.BROKEN) m)
    (s.tqCount n.val Ctr.TQ.WDOG_BREAK).tqRaiseMs n.val Ev.TP_WDOG_BREAK [(1, n.val), (1, m)]

/-- WDOG_HOLDOFF_EXPIRY (R190): the priority stays released until a new frame pauses it. -/
def execWdogHoldoffExpiry (n : Port) (p : Fin 8) (s : State) : Host.Outcome State Fault Refusal :=
  .next (s.onLive (quadId n.val) fun s => s.expire (Tm.holdoff n.val p.val) fun s =>
    s.setTq n.val F.TQ_WDOG_STAT.BROKEN (putPrio (s.tqF n.val F.TQ_WDOG_STAT.BROKEN) p.val false))

/-- A frame with the padding of R175 and its FCS. -/
def withFcs (bs : List Byte) : List Byte :=
  let b := bs ++ List.replicate (60 - bs.length) 0
  b ++ leBytes 4 (crc32 b)

/-- A pause or PFC frame with a quanta for each priority named (R188; the form is that of IEEE 802.3, PRESUMED). -/
def State.ctlFrame (s : State) (n mask q : Nat) : List Byte :=
  let head := beBytes 6 0x0180C2000001 ++ beBytes 6 (s.macSa n) ++ beBytes 2 0x8808
  withFcs <|
    if s.fcMode n = 1 then head ++ beBytes 2 0x0001 ++ beBytes 2 q
    else head ++ beBytes 2 0x0101 ++ beBytes 2 mask ++
      (List.range 8).flatMap fun p => beBytes 2 (if mask.testBit p then q else 0)

/-- The refresh interval of a port (R188, R197). -/
def State.refreshTicks (s : State) (n : Nat) : Nat :=
  s.quantaTicks n (max 1 (min (s.tqF n F.TQ_PFC_CFG.REFRESH) (s.tqF n F.TQ_PFC_CFG.QUANTA)))

/-- Send a control frame; one with quanta starts the refresh interval (R188). -/
def State.sendCtl (s : State) (n mask q : Nat) : State :=
  let s := s.emit (.frame n (s.ctlFrame n mask q))
  let s := s.tqCount n (if s.fcMode n = 1 then Ctr.TQ.TX_PAUSE else Ctr.TQ.TX_PFC)
  if q = 0 then s
  else s.startTimer (Tm.refresh n) (s.refreshTicks n)

/-- Whether a port's MAC can send control frames. -/
def State.txOn (s : State) (n : Nat) : Bool := decide (s.portState n = 0) && s.linkUp n

/-- The priorities whose XOFF a port's MAC has to signal (R188, R284): a port in pause mode gets their OR. -/
def State.xoffWant (s : State) (n : Nat) : Nat :=
  let fc := s.fcMode n
  if fc = 2 then s.xoffOf n else if fc = 1 ∧ s.xoffOf n ≠ 0 then 0xFF else 0

/-- Signal the partner what has changed: quanta 0 for what is released, and QUANTA for each priority in XOFF when one is new
(R188). While the port cannot send, the refresh interval runs on, so that XOFF is signalled once it can. -/
def State.signalXoff (s : State) (n : Nat) : State :=
  let m := s.xoffWant n
  let was := (s.port n).sent
  if m = was then s
  else if s.txOn n = false then s.startTimer (Tm.refresh n) (s.refreshTicks n)
  else
    let s := s.setPort n { s.port n with sent := m }
    let off := Nat.xor (Nat.lor was m) m
    let s := if off = 0 then s else s.sendCtl n off 0
    if m = 0 then s.stopTimer (Tm.refresh n)
    else if Nat.lor was m = was then s
    else s.sendCtl n m (s.tqF n F.TQ_PFC_CFG.QUANTA)

/-- PFC_XOFF_CHANGE (R188, R284): the priorities the traffic manager holds in XOFF have changed. No control frame comes between
the selection of a frame that needs insertion and its launch; it follows that frame (R334). -/
def execPfcXoffChange (n : Port) (s : State) : Host.Outcome State Fault Refusal :=
  .next (s.onLive (quadId n.val) fun s => if (s.port n.val).launch.isSome then s else s.signalXoff n.val)

/-- PFC_REFRESH_EXPIRY (R188): while XOFF holds, a fresh frame is sent; without link the interval starts again. -/
def execPfcRefreshExpiry (n : Port) (s : State) : Host.Outcome State Fault Refusal :=
  .next (s.onLive (quadId n.val) fun s => s.expire (Tm.refresh n.val) fun s =>
    if (s.port n.val).launch.isSome then s.startTimer (Tm.refresh n.val) ((s.port n.val).launch.getD 0 + 1 - s.now)
    else if s.xoffWant n.val ≠ (s.port n.val).sent then s.signalXoff n.val
    else if (s.port n.val).sent = 0 then s
    else if s.txOn n.val = false then s.startTimer (Tm.refresh n.val) (s.refreshTicks n.val)
    else s.sendCtl n.val (s.port n.val).sent (s.tqF n.val F.TQ_PFC_CFG.QUANTA))

end Sys2Proof.Machine
end

