-- ==== Sys2Proof/Machine/Frames.lean ====
section
/-! DEFINITION. Frames at the tenant ports: receive and transmit (R173 to R178), the group-address filter and the wake
patterns (R179 to R182), checksum offload (R183 to R185) and what PTP does at the port (R331 to R335). -/

namespace Sys2Proof.Machine

/-! ### Receive (R173, R174, R177, R179 to R183, R331) -/

/-- Bytes that wait in a port's ingress FIFO. -/
def State.rxFifo (s : State) (n : Nat) : List Packet := SMap.get (fun _ => []) (s.pipe (pipeOf n)).wire n

/-- Whether the group-address hash drops a frame (R180). -/
def State.hashDrops (s : State) (n : Nat) (bs : List Byte) : Bool :=
  let bin := crc32 (bytesAt bs 0 6) / 2 ^ 24 % 256
  !(s.bit (tqB n) F.TQ_PORT_CFG.BCAST_PASS && decide (beAt bs 0 6 = 2 ^ 48 - 1)) &&
    !(s.fld (tqB n) (F.TQ_FILT_HASH.BINS.at (4 * (bin / 32)))).testBit (bin % 32)

/-- Whether a frame matches wake pattern p (R181). -/
def State.wakeHit (s : State) (n p : Nat) (bs : List Byte) : Bool :=
  let b := tqB n
  let mask := wordsNat (s.regWords (b + 0x100 + 0x20 * p) 4)
  let sel := (List.range 128).filter mask.testBit
  s.bit b (F.TQ_WAKE_CRC.EN.at (0x20 * p)) && !sel.isEmpty && sel.all (fun i => decide (i < bs.length)) &&
    decide (crc16 (sel.map fun i => bs.getD i 0) = s.fld b (F.TQ_WAKE_CRC.CRC.at (0x20 * p)))

/-- The wake patterns a frame matches are reported (R182). -/
def State.wakeMatch (s : State) (n : Nat) (bs : List Byte) : State :=
  match (List.range 8).filter fun p => s.wakeHit n p bs with
  | [] => s
  | p :: ps =>
    let m := Nat.lor (s.tqF n F.TQ_WAKE_STAT.MATCH) ((p :: ps).map fun i => 2 ^ i).sum
    ((s.setTq n F.TQ_WAKE_STAT.MATCH m).tqCount n Ctr.TQ.WAKE_MATCH).tqRaise n Ev.TP_WAKE_MATCH [(1, n), (1, p)]

/-- The receive stamp of a recognised event message (R326, R331). -/
def State.rxStampOf (s : State) (n : Nat) (bs : List Byte) (st : StampIn) : State × Option (Nat × Bool) :=
  if s.bit (tqB n) F.TQ_PTP_CFG.RX_EN = false ∨ (s.ptpMsg n bs).isNone = true ∨ s.stampOff (quadId n) = true then (s, none)
  else
    let err := s.stampErr (quadId n)
    let s := s.tqCount n Ctr.TQ.TS_RX
    let s := if err then s.tqCount n Ctr.TQ.TS_ERR else s
    (s, some (s.stampRx n st (s.portLat n false), err))

/-- A frame goes to its pipeline with its carried sum and its stamp (R24, R177, R183). -/
def State.toPipe (s : State) (n : Nat) (bs : List Byte) (st : StampIn) : State :=
  let k := pipeOf n
  if !s.accepts (0x20 + k) then s.tqCount n Ctr.TQ.RX_OVERRUN
  else
    let (s, ts) := s.rxStampOf n bs st
    let p := { Packet.new n bs s.now with rxStamp := ts }
    let p := if s.bit (tqB n) F.TQ_CSUM_CFG.RX_EN then p.setW W.CSUM (ocRange bs 12 12 bs.length) else p
    let q := s.pipe k
    s.setPipe k { q with wire := SMap.set (fun _ => []) q.wire n (s.rxFifo n ++ [p]) }

/-- A frame the SecY has passed: the filter, the wake patterns and on (R173, R179). -/
def State.rxPassed (s : State) (n : Nat) (bs fcs : List Byte) (st : StampIn) : State :=
  if s.bit (tqB n) F.TQ_PORT_CFG.FILT_MODE then (s.wakeMatch n (bs ++ fcs)).toPipe n bs st
  else if (beAt bs 0 1) % 2 = 1 ∧ s.hashDrops n bs = true then s.tqCount n Ctr.TQ.RX_FILTERED
  else s.toPipe n bs st

/-- A MAC control frame: pause, PFC, or neither (R186, R174). -/
def State.rxControl (s : State) (n : Nat) (bs : List Byte) : State :=
  let op := beAt bs 14 2
  if op = 0x0001 then s.pauseRx n false 0xFF (beAt bs 16 2)
  else if op = 0x0101 then
    s.pauseRx n true (beAt bs 17 1) (((List.range 8).map fun p => beAt bs (18 + 2 * p) 2 * 2 ^ (16 * p)).sum)
  else s.tqCount n Ctr.TQ.RX_CTRL_OTHER

/-- A frame the SecY passed goes on to the filter; one it did not is gone. -/
def State.rxSecured (s : State) (n : Nat) (bs : Option (List Byte)) (fcs : List Byte) (st : StampIn) : State :=
  match bs with
  | none => s
  | some bs => s.rxPassed n bs fcs st

/-- A good frame that is no control frame: the SecY and the filter. -/
def State.rxData (s : State) (n : Nat) (bs fcs : List Byte) (len : Nat) (x : EthIn) : State :=
  let s := ((s.tqCount n Ctr.TQ.RX_FRAMES).tqCount n Ctr.TQ.RX_BYTES len).pmc 0x070 n len
  (s.secRx n bs x.mismatch).1.rxSecured n (s.secRx n bs x.mismatch).2 fcs x.st

/-- An admitted frame: the checks of R174 in order, then control frames, the SecY and the filter. -/
def State.rxCheck (s : State) (n : Nat) (x : EthIn) : State :=
  let len := x.bytes.length
  let bs := x.bytes.take (len - 4)
  let fcs := x.bytes.drop (len - 4)
  let good := x.whole && decide (s.laneFec n = 0 ∨ x.uncorr = 0) && decide (4 ≤ len) && decide (crc32 bs = leNat fcs)
  if len < 64 then
    s.tqCount n (if s.bit (tqB n) F.TQ_LANE_STAT.HALF && !good then Ctr.TQ.RX_COLL_FRAG else Ctr.TQ.RX_RUNT)
  else if s.maxFrame n < len then s.tqCount n Ctr.TQ.RX_OVERSIZE
  else if !good then s.tqCount n Ctr.TQ.RX_FCS_ERR
  else if beAt bs 12 2 = 0x8808 then s.rxControl n bs
  else s.rxData n bs fcs len x

/-- The codewords a lane has received: those corrected and those that could not be count, whatever they hold and whether LINK
is 1 (R168). -/
def State.fecCount (s : State) (n : Nat) (x : EthIn) : State :=
  if s.laneFec n = 0 ∨ s.portState n ≠ 0 ∨ s.bit (tqB n) F.TQ_LANE_STAT.FEC_LOCK = false then s
  else (s.tqCount n Ctr.TQ.FEC_CORR x.corr).tqCount n Ctr.TQ.FEC_UNCORR x.uncorr

/-- RX_FRAME (R168, R173, R174, R177): the codewords count, whether they hold a frame or idles alone; a frame whose largest form
the FIFO cannot take is an overrun. -/
def execRxFrame (n : Port) (x : EthIn) (s : State) : Host.Outcome State Fault Refusal :=
  .next <| s.onLive (quadId n.val) fun s =>
    let s := s.fecCount n.val x
    if s.rxOn n.val = false ∨ x.bytes = [] then s
    else
      let used := ((s.rxFifo n.val).map fun p => p.bytes.length).sum
      if 32768 < used + s.maxFrame n.val then (s.tqCount n.val Ctr.TQ.RX_OVERRUN).rateShort n.val
      else s.rxCheck n.val x

/-! ### Transmit (R173, R175, R176, R184, R332, R334, R335) -/

/-- The offset of an L4 checksum in its header. -/
def l4CsumAt (ty : Nat) : Nat := if ty = 0x05 then 16 else if ty = 0x06 then 6 else 2

/-- The L4 checksum from the carried sum; a UDP checksum that comes out as zero is sent as all ones. -/
def Packet.putL4 (p : Packet) (ip l4 : Nat × Nat) : Packet :=
  let x := l4.1 + l4CsumAt l4.2
  let e := min (p.ipEnd ip) p.bytes.length
  let v := ocAdd (ocAdd (p.l4Sum l4.1 e) (65535 - beAt p.bytes x 2)) (p.pseudoSum ip l4 (e - l4.1)) % 65535
  { p with bytes := putBytes p.bytes x (beBytes 2 (if v = 0 then (if l4.2 = 0x06 then 65535 else 0) else 65535 - v)) }

/-- The IPv4 header checksum. -/
def Packet.putIp (p : Packet) (ip : Nat × Nat) : Packet :=
  let b := putBytes p.bytes (ip.1 + 10) [0, 0]
  { p with bytes := putBytes b (ip.1 + 10) (beBytes 2 (65535 - ocSum (bytesAt b ip.1 (p.ihl ip.1)))) }

/-- Checksum insertion (R184, R185, R248): only where the packet asks, offload applies, and for L4 a sum was carried. -/
def State.txCsum (s : State) (n : Nat) (p : Packet) : Packet :=
  if s.bit (tqB n) F.TQ_CSUM_CFG.TX_EN = false ∨ p.wb W.CS_OFF = true ∨ p.csumOff = true then p
  else
    match p.ipHdr with
    | none => p
    | some ip =>
      let p := match p.l4Hdr with
        | none => p
        | some l4 => if p.wb W.L4_INS && l4Covered ip.2 l4.2 && s.hasSum p.src then p.putL4 ip l4 else p
      if p.wb W.IP_INS && decide (ip.2 = 0x03) then p.putIp ip else p

/-- What the launch unit does to a frame (R334, R335): the bytes, and whether it completed the message one-step, updated it
as a transparent clock, or found it without a valid receive stamp. -/
structure Launch where
  bytes : List Byte
  oneStep : Bool
  tc : Bool
  skip : Bool
  deriving DecidableEq, Repr

/-- The launch unit's insertion for a launch time. -/
def State.launch (s : State) (n : Nat) (p : Packet) (t : Nat) : Launch :=
  let bs := p.bytes
  match s.ptpMsg n bs with
  | none => { bytes := bs, oneStep := false, tc := false, skip := false }
  | some m =>
    if s.oneStepFor n p m then
      let b := putBytes bs (m.at_ + 34) (beBytes 6 (timeSec t) ++ beBytes 4 (timeNs t))
      { bytes := ptpUdpFix bs (ptpCorrect b m (timeFrac t)) m, oneStep := true, tc := false, skip := false }
    else if s.tcMode n then
      match p.rxStamp with
      | some (tin, false) =>
        let dly := if s.tqF n F.TQ_PTP_CFG.TC = 2 ∧ ptpType bs m = 0 then s.tqF p.src F.TQ_PEER_DLY.DLY else 0
        { bytes := ptpUdpFix bs (ptpCorrect bs m ((t : Int) - tin + dly)) m, oneStep := false, tc := true, skip := false }
      | _ => { bytes := bs, oneStep := false, tc := false, skip := true }
    else { bytes := bs, oneStep := false, tc := false, skip := false }

/-- The transmit stamp of a frame that has been sent (R332). -/
def State.txStamp (s : State) (n : Nat) (p : Packet) (l : Launch) (t : Nat) : State :=
  let m := s.ptpMsg n l.bytes
  let want := (m.isSome && decide (64 ≤ p.src) && !l.oneStep) || p.tsReq
  if s.bit (tqB n) F.TQ_PTP_CFG.TX_EN = false ∨ want = false ∨ s.stampOff (quadId n) = true then s
  else
    let err := s.stampErr (quadId n)
    match m with
    | none => s.queueStamp n { time := t, err, msgType := 0, domain := 0, seqId := 0 }
    | some m =>
      s.queueStamp n { time := t, err, msgType := ptpType l.bytes m, domain := ptpDomain l.bytes m, seqId := ptpSeq l.bytes m }

/-- The MAC's part of a transmission: the size check, padding and FCS, and what counts (R175, R176). -/
def State.macSend (s : State) (n : Nat) (bs : List Byte) (stamp : State → State) : State :=
  if s.maxFrame n < max 60 bs.length + 4 then s.tqCount n Ctr.TQ.TX_OVERSIZE
  else
    let f := withFcs bs
    let s := ((s.tqCount n Ctr.TQ.TX_FRAMES).tqCount n Ctr.TQ.TX_BYTES f.length).pmc 0x071 n f.length
    let gap := ceilDiv ((f.length + 12) * 8 * usTicks) (max 1 (s.portRate n))
    (stamp (s.setPort n { s.port n with busy := s.now + gap })).emit (.frame n f)

/-- A frame in the MAC is transmitted: checksum insertion, the launch unit, the SecY and the MAC (R173). -/
def State.transmit (s : State) (n : Nat) (p : Packet) (st : StampIn) (late : Bool) : State :=
  let p := s.txCsum n p
  let t := s.stampTx (48 + n) st (s.portLat n true)
  let l := s.launch n p t
  if late = true ∧ (l.oneStep = true ∨ l.tc = true) then
    let typ := match s.ptpMsg n p.bytes with
      | some m => ptpType p.bytes m
      | none => 0
    (s.tqCount n Ctr.TQ.ONE_STEP_LATE).tqRaise n Ev.TP_ONE_STEP_LATE [(1, n), (1, typ)]
  else
    let s := if l.oneStep then s.tqCount n Ctr.TQ.TS_ONE_STEP else s
    let s := if l.tc then s.tqCount n Ctr.TQ.TC_UPD else s
    let s := if l.skip then s.tqCount n Ctr.TQ.TC_SKIP else s
    let (s, r) := s.secTx n l.bytes
    match r with
    | none => s
    | some bs => s.macSend n bs fun s => s.txStamp n p l t

/-- Whether a port is in half duplex. -/
def State.halfDuplex (s : State) (n : Nat) : Bool := decide (s.laneMode n = 5) && s.bit (tqB n) F.TQ_LANE_STAT.HALF

/-- A frame that had to defer at its first attempt counts (R178). -/
def State.countDefer (s : State) (n : Nat) (deferred : Bool) : State :=
  if deferred && decide ((s.port n).tries = 0) && s.halfDuplex n then s.tqCount n Ctr.TQ.TX_DEFERRED else s

/-- Time runs to the launch of a frame that needs insertion, and its delimiter's raw count lies no earlier (R334). -/
def State.toLaunch (s : State) (n : Nat) (st : StampIn) : State × StampIn :=
  match (s.port n).launch with
  | none => (s, st)
  | some t =>
    let s := s.elapseTo t
    (s, { st with ne := max st.ne s.tim.rawN })

/-- The MAC is empty again; a control frame that a launch held back follows it (R188, R334). -/
def State.macDone (s : State) (n : Nat) : State :=
  if (s.port n).launch.isSome then (s.setPort n { s.port n with launch := none }).signalXoff n else s

/-- TX_FRAME (R169, R173, R175): the frame handed to the MAC leaves it, not before its back-off has ended (R178) nor before its
launch time (R334); without link it is discarded, unless it is the frame that completes while the port is taken out (R195). -/
def execTxFrame (n : Port) (st : StampIn) (late deferred : Bool) (s : State) : Host.Outcome State Fault Refusal :=
  .next <| s.onLive (quadId n.val) fun s =>
    match (if s.timerOn (Tm.backoff n.val) then none else (s.port n.val).mac) with
    | none => s
    | some p =>
      let s := s.countDefer n.val deferred
      let (s, st) := s.toLaunch n.val st
      let s := s.setPort n.val { s.port n.val with mac := none, tries := 0 }
      let s := if s.portState n.val = 0 ∧ s.linkUp n.val = false then s.tqCount n.val Ctr.TQ.TX_LINK_DOWN
        else s.transmit n.val p st late
      s.macDone n.val

/-- Ticks of 0.8 ns in the 512 bit times of a slot (R178). -/
def State.slotTicks (s : State) (n : Nat) : Nat := s.quantaTicks n 1

/-- HD_COLLISION (R178): the attempt ends with a jam; a late or a sixteenth collision drops the frame, any other waits a random
number of slots from the end of the jam. -/
def execHdCollision (n : Port) (late deferred : Bool) (s : State) : Host.Outcome State Fault Refusal :=
  .next <| s.onLive (quadId n.val) fun s =>
    if (s.port n.val).mac.isNone = true ∨ s.halfDuplex n.val = false ∨ s.timerOn (Tm.backoff n.val) = true then s
    else
      let s := (s.countDefer n.val deferred).tqCount n.val Ctr.TQ.TX_COLLISIONS
      let k := (s.port n.val).tries + 1
      let drop := s.setPort n.val { s.port n.val with mac := none, tries := 0, launch := none }
      if late then drop.tqCount n.val Ctr.TQ.TX_LATE_COLL
      else if 16 ≤ k then
        let s := drop.tqCount n.val Ctr.TQ.TX_EXCESS_COLL
        s.tqRaiseMs n.val Ev.TP_EXCESS_COLL [(1, n.val), (2, s.ctr (tqB n.val + Ctr.TQ.TX_EXCESS_COLL))]
      else
        let (s, r) := s.takeFree
        let s := s.setPort n.val { s.port n.val with tries := k }
        s.startTimer (Tm.backoff n.val) (s.slotTicks n.val / 16 + r % 2 ^ min k 10 * s.slotTicks n.val)

/-- HD_BACKOFF_EXPIRY (R178): the back-off ends, and the MAC defers again before its next attempt. -/
def execHdBackoffExpiry (n : Port) (s : State) : Host.Outcome State Fault Refusal :=
  .next (s.onLive (quadId n.val) fun s => s.expire (Tm.backoff n.val) fun s => s)

end Sys2Proof.Machine
end

