-- ==== Sys2Proof/Machine/Mem.lean ====
section
/-! DEFINITION. The LPDDR5X deep-buffer memory (R414 to R438): training and channel service, the channels' scheduling,
refresh and row-hammer protection, ECC errors and the trace ring. -/

namespace Sys2Proof.Machine

/-- The timers of a DRAM channel: its drain, and the throttle of a requester at a bank. -/
def Tm.mcDrain (c : Nat) : Nat := 0x50000 + c
def Tm.throttle (c bank id : Nat) : Nat := 0x60000 + (c * 16 + bank) * 8 + id

/-- A DRAM channel, as its registers do not show it. -/
def State.mc (s : State) (c : Nat) : McChan := SMap.get (fun _ => McChan.empty) s.mem.chans c

/-- Replace a DRAM channel. -/
def State.setMc (s : State) (c : Nat) (x : McChan) : State :=
  { s with mem := { s.mem with chans := SMap.set (fun _ => McChan.empty) s.mem.chans c x } }

/-- A field of a channel's page. -/
def State.mcF (s : State) (c : Nat) (f : Fld) : Nat := s.fld (mcB c) f
def State.setMcF (s : State) (c : Nat) (f : Fld) (v : Nat) : State := s.setF (mcB c) f v

/-- A counter of a channel. -/
def State.mcCount (s : State) (c off : Nat) (n : Nat := 1) : State := s.count (mcB c + off) n

/-! ### The trace ring (R433) -/

/-- The ring's pages go back to their channels. -/
def State.freeRing (s : State) : State :=
  let m := s.mem
  let add (a b : SMap Nat) : SMap Nat := b.foldl (fun a p => setPages a p.1 (pagesOf a p.1 + p.2)) a
  let s := m.traceBad.foldl (fun s p => s.mcCount p.1 Ctr.MC.PAGES_RETIRED p.2) s
  { s with mem := { m with retired := add m.retired m.traceBad, trace := [], traceBad := [], ring := [], ringN := 0 } }.showPages

/-- Take `n` pages for the ring from the rotation of R417, none where they run out. -/
def State.ringPages (s : State) : Nat → Option State
  | 0 => some s
  | n + 1 =>
    match s.nextPage with
    | none => none
    | some c => { s with mem := { s.mem with trace := setPages s.mem.trace c (pagesOf s.mem.trace c + 1), rot := c + 1 } }.ringPages n

/-- The trace ring is allocated; EN clears where the channels in service do not hold it. -/
def State.allocRing (s : State) : State :=
  let s := s.freeRing
  match s.ringPages (s.ringSlots / 64) with
  | some s => s.showPages
  | none => s.setF mccB F.MCC_TRACE_CFG.EN 0

/-- A write of MCC_CFG: a change of SPEED relocks the DRAM PHY's PLL (R53). -/
def State.wrMccCfg (s : State) (v : Nat) : State :=
  let was := s.fld mccB F.MCC_CFG.SPEED
  let s := s.store mccB v
  if s.fld mccB F.MCC_CFG.SPEED = was then s else s.pllBusy 26

/-- A write of MCC_TRACE_CFG (R433): the ring is allocated when EN is set, during a boot at the end of APPLY. -/
def State.wrTraceCfg (s : State) (v : Nat) : State :=
  let was := s.bit mccB F.MCC_TRACE_CFG.EN
  let s := s.store (mccB + F.MCC_TRACE_CFG.EN.off) v
  if s.bit mccB F.MCC_TRACE_CFG.EN && !was && s.sealed then s.allocRing else s

/-- MCC_TRACE_EN_SET (R433): EN written 1. -/
def execMccTraceEnSet (m : Master) (s : State) : Host.Outcome State Fault Refusal :=
  .next (s.onWrite m (mccB + 0x20) fun s => s.wrTraceCfg (setBits (s.reg (mccB + 0x20)).toNat 31 31 1))

/-- A write of MCC_TRACE_CMD (R433, R435): GO copies the record INDEX names, the most recent with those low 28 bits, or gives
CAUSE 01 when the ring does not hold it. -/
def State.wrTraceCmd (s : State) (v : Nat) : State :=
  if s.bit mccB F.MCC_TRACE_CMD.BUSY then s
  else
    let i := F.MCC_TRACE_CMD.INDEX.of v
    let s := s.setF mccB F.MCC_TRACE_CMD.INDEX i
    if F.MCC_TRACE_CMD.GO.of v = 0 then s
    else
      let s := s.setF mccB F.MCC_TRACE_CMD.BUSY 1
      let last := s.fld mccB F.MCC_TRACE_WP.WP + 2 ^ 32 - 1
      let back := (last - i) % 2 ^ 28
      if min s.mem.ringN s.ringSlots ≤ back then s.setF mccB F.MCC_TRACE_CMD.CAUSE 1
      else
        let r := SMap.get (fun _ => []) s.mem.ring ((last - back) % 2 ^ 32 % s.ringSlots)
        (s.setF mccB F.MCC_TRACE_CMD.CAUSE 0).setRegs (mccB + 0x30) (bytesWords (bytesAt r 0 64))

/-- MCC_TRACE_READ (R433). -/
def execMccTraceRead (m : Master) (i : BitVec 28) (s : State) : Host.Outcome State Fault Refusal :=
  .next (s.onWrite m (mccB + 0x28) fun s => s.wrTraceCmd (2 ^ 28 + i.toNat))

/-! ### Channel service (R416, R434) -/

/-- The units of a channel by DENSITY; 11 acts as 00 (R414). -/
def State.mcUnits (s : State) : Nat :=
  let d := s.fld mccB F.MCC_CFG.DENSITY
  if d = 1 then 2 else if d = 2 then 4 else 1

/-- A channel's state changes (R434). The spec names no code for the cause MC_SVC_STATE carries, so that byte is a free value. A
channel that leaves IN takes the trace ring with it (R433). -/
def State.mcGo (s : State) (c new : Nat) : State :=
  let old := s.mcState c
  if old = new then s
  else
    let s := (s.setMcF c F.MC_STAT.STATE new).setMcF c F.MC_STAT.PHASE (if new = 3 then 1 else 0)
    let (s, free) := s.takeFree
    let s := (s.raise Ev.MC_SVC_STATE (0x30 + c) noInst [(1, c), (1, old), (1, new), (1, free)]).showPages
    let s := if new = 2 then (s.stopTimer (Tm.mcDrain c)).setMc c { McChan.empty with resetN := (s.mc c).resetN } else s
    if old = 0 ∧ pagesOf s.mem.trace c ≠ 0 then
      (s.setF mccB F.MCC_TRACE_CFG.EN 0).freeRing.raise Ev.MCC_TRACE_OFF 0x38 noInst [(1, c)]
    else s

/-- A channel starts to train (R434). -/
def State.mcTrain (s : State) (c : Nat) : State :=
  let s := (s.setMcF c F.MC_STAT.UNITS 0).setMcF c F.MC_TRAIN_STAT.ATTEMPTS 0
  (s.setMcF c F.MC_TRAIN_STAT.PASS 0).mcGo c 3

/-- Whether a channel trains: in RETURN, or after self-refresh with its contents held (R416, R489). -/
def State.mcTraining (s : State) (c : Nat) : Bool :=
  s.live (0x30 + c) && decide (s.mcState c ≠ 2) && decide (s.mcF c F.MC_STAT.PHASE = 1)

/-- Packets on a channel's pages are discarded, each counted in RETIRE_DROP and in its queue's DROP_DEEP (R434). -/
def State.mcDiscard (s : State) (c : Nat) : State :=
  s.tmg.qs.foldl (fun s e =>
    let mine := (s.q e.1).pages.filter fun p => decide (p.2.1 = c)
    let gone (d : DeepPkt) : Bool := mine.any fun p => d.touches p.1
    if mine.isEmpty then s
    else (s.mcCount c Ctr.MC.RETIRE_DROP ((s.q e.1).deep.filter gone).length).dropDeep e.1 gone) s

/-- Training has failed twice (R416, R434, R438); what a channel that trains after self-refresh holds is lost with it. -/
def State.mcTrainFail (s : State) (c : Nat) : State :=
  let s := if s.mcState c = 3 then s else s.mcDiscard c
  let s := s.raise Ev.MC_TRAIN_FAIL (0x30 + c) noInst
    [(1, c), (1, s.mcF c F.MC_TRAIN_STAT.STEP), (1, s.mcF c F.MC_TRAIN_STAT.ATTEMPTS)]
  (s.setMcF c F.MC_SVC_CTRL.WANT 0).mcGo c 2

/-- The boot's training starts on a channel (R416). -/
def State.mcBootTrain (s : State) (c : Nat) : State :=
  if s.stage = 6 ∧ s.live (0x30 + c) = true ∧ s.mcState c = 2 ∧ s.mcF c F.MC_TRAIN_STAT.ATTEMPTS = 0 ∧
      s.mcF c F.MC_SVC_CTRL.WANT = 1 then s.mcTrain c
  else s

/-- MC_TRAIN_DONE (R416): a sequence passes with its margins, or fails at a step; a second failure leaves the channel out. -/
def execMcTrainDone (c : Fin 8) (pass : Bool) (step : BitVec 3) (margins : Word) (s : State) : Host.Outcome State Fault Refusal :=
  .next <| s.onLive (0x30 + c.val) fun s =>
    let s := s.mcBootTrain c.val
    if s.mcTraining c.val = false then s
    else
      let n := s.mcF c.val F.MC_TRAIN_STAT.ATTEMPTS + 1
      let s := (s.mcCount c.val Ctr.MC.TRAIN_RUNS).setMcF c.val F.MC_TRAIN_STAT.ATTEMPTS n
      let s := (s.setMcF c.val F.MC_TRAIN_STAT.PASS (b2n pass)).setMcF c.val F.MC_TRAIN_STAT.STEP (if pass then 0 else step.toNat)
      if pass then (s.setReg (mcB c.val + 0x14) margins).setMcF c.val F.MC_STAT.PHASE (if s.mcState c.val = 3 then 2 else 0)
      else if n < 2 then s
      else s.mcTrainFail c.val

/-- MC_UNIT_INIT_DONE (R434): the unit's pages join the free list; at the first unit the channel is IN. -/
def execMcUnitInitDone (c : Fin 8) (s : State) : Host.Outcome State Fault Refusal :=
  .next <| s.onLive (0x30 + c.val) fun s =>
    let st := s.mcState c.val
    let n := s.mcF c.val F.MC_STAT.UNITS
    if (st = 0 ∨ (st = 3 ∧ s.mcF c.val F.MC_STAT.PHASE = 2)) ∧ n < s.mcUnits then
      ((s.setMcF c.val F.MC_STAT.UNITS (n + 1)).mcGo c.val 0).showPages
    else s

/-- A write of MC_SVC_CTRL (R434). -/
def State.wrMcSvc (s : State) (c v : Nat) : State :=
  let s := s.store (mcB c) v
  let st := s.mcState c
  if F.MC_SVC_CTRL.WANT.of v = 0 then
    if st = 0 then
      (s.mcGo c 1).startTimer (Tm.mcDrain c) (max 1 (s.mcF c F.MC_SVC_CTRL.DRAIN_TO) * msTicks)
    else if st = 3 then s.mcGo c 2
    else s
  else if st = 1 then (s.stopTimer (Tm.mcDrain c)).mcGo c 0
  else if st = 2 ∧ 6 < s.stage then s.mcTrain c
  else s

/-- MC_SVC_WANT_CLEAR (R434). -/
def execMcSvcWantClear (m : Master) (c : Fin 8) (s : State) : Host.Outcome State Fault Refusal :=
  .next (s.onWrite m (mcB c.val) fun s => s.wrMcSvc c.val (setBits (s.reg (mcB c.val)).toNat 0 0 0))

/-- MC_SVC_WANT_SET (R434). -/
def execMcSvcWantSet (m : Master) (c : Fin 8) (s : State) : Host.Outcome State Fault Refusal :=
  .next (s.onWrite m (mcB c.val) fun s => s.wrMcSvc c.val (setBits (s.reg (mcB c.val)).toNat 0 0 1))

/-- MC_SVC_DRAIN_DONE (R434): no page of a draining channel is in use. -/
def execMcSvcDrainDone (c : Fin 8) (s : State) : Host.Outcome State Fault Refusal :=
  .next (s.onLive (0x30 + c.val) fun s => if s.mcState c.val = 1 ∧ pagesOf s.mem.used c.val = 0 then s.mcGo c.val 2 else s)

/-- MC_SVC_DRAIN_TIMEOUT (R434): DRAIN_TO has elapsed. -/
def execMcSvcDrainTimeout (c : Fin 8) (s : State) : Host.Outcome State Fault Refusal :=
  .next (s.onLive (0x30 + c.val) fun s => s.expire (Tm.mcDrain c.val) fun s => if s.mcState c.val = 1 then (s.mcDiscard c.val).mcGo c.val 2 else s)

/-- An uncorrectable internal fault of a channel in IN or DRAIN (R434, R438): cause 0 parity, 1 ECC, 2 crossing. -/
def State.mcFault (s : State) (c cause : Nat) : State :=
  if 1 < s.mcState c then s
  else
    let s := (s.mcDiscard c).setMcF c F.MC_SVC_CTRL.WANT 0
    (s.raise Ev.MC_FAULT (0x30 + c) noInst [(1, c), (1, cause)]).mcGo c 2

/-! ### Refresh (R422 to R425) -/

/-- Per-bank refreshes are issued (R437, R515). -/
def State.refIssued (s : State) (c n : Nat) : State := (s.mcCount c Ctr.MC.REF_ISSUED n).pmc 0x092 c n

/-- Whether a channel's PHY runs and is refreshed; not while it trains. -/
def State.mcRuns (s : State) (c : Nat) : Bool :=
  s.live (0x30 + c) && ((decide (s.mcState c < 2) && decide (s.mcF c F.MC_STAT.PHASE ≠ 1)) ||
    (decide (s.mcState c = 3) && decide (s.mcF c F.MC_STAT.PHASE = 2)))

/-- REFRESH_INTERVAL (R422, R423): the debt rises; in panic the interval is postponed, and above 8 one refresh is forced. -/
def execRefreshInterval (c : Fin 8) (s : State) : Host.Outcome State Fault Refusal :=
  .next <| s.onLive (0x30 + c.val) fun s =>
    if s.mcRuns c.val = false then s
    else
      let d := s.mcF c.val F.MC_STAT.DEBT
      let s := if s.bit (mcB c.val) F.MC_STAT.PANIC then s.mcCount c.val Ctr.MC.REF_POSTPONED else s
      if d < 8 then s.setMcF c.val F.MC_STAT.DEBT (d + 1)
      else
        let s := (s.mcCount c.val Ctr.MC.REF_FORCED).refIssued c.val 1
        s.raiseMs c.val Ev.MC_REF_FORCED (0x30 + c.val) noInst [(1, c.val), (1, s.mcF c.val F.MC_STAT.RATE)]

/-- The outstanding debt is issued back to back (R424, R425). -/
def State.issueDebt (s : State) (c : Nat) : State :=
  (s.refIssued c (s.mcF c F.MC_STAT.DEBT)).setMcF c F.MC_STAT.DEBT 0

/-- The refresh rate changes (R424). -/
def State.setRate (s : State) (c new : Nat) : State :=
  let old := s.mcF c F.MC_STAT.RATE
  let s := (s.setMcF c F.MC_STAT.RATE new).raise Ev.MC_TEMP_RATE (0x30 + c) noInst [(1, c), (1, old), (1, new)]
  if new = 2 then s.setMcF c F.MC_STAT.TEMP_HOT 1 else s

/-- MR4_POLL (R424): a higher rate applies at once and the debt is caught up; a lower one needs two polls in a row. -/
def execMr4Poll (c : Fin 8) (rate : Fin 3) (s : State) : Host.Outcome State Fault Refusal :=
  .next <| s.onLive (0x30 + c.val) fun s =>
    let old := s.mcF c.val F.MC_STAT.RATE
    let x := s.mc c.val
    if s.mcRuns c.val = false then s
    else if old < rate.val then
      let s := s.setMc c.val { x with lower := 0 }
      ((s.mcCount c.val Ctr.MC.REF_CATCHUP (s.mcF c.val F.MC_STAT.DEBT)).issueDebt c.val).setRate c.val rate.val
    else if rate.val = old then s.setMc c.val { x with lower := 0 }
    else if x.lower = rate.val + 1 then (s.setMc c.val { x with lower := 0 }).setRate c.val rate.val
    else s.setMc c.val { x with lower := rate.val + 1 }

/-- MC_PANIC_CLEAR (R425): no source asserts panic any more, and the remaining debt is issued. -/
def execMcPanicClear (c : Fin 8) (s : State) : Host.Outcome State Fault Refusal :=
  .next <| s.onLive (0x30 + c.val) fun s =>
    if s.bit (mcB c.val) F.MC_STAT.PANIC = false ∨ s.panicAny = true then s
    else (s.setMcF c.val F.MC_STAT.PANIC 0).issueDebt c.val

/-! ### Row-hammer protection (R427, R428) -/

/-- Whether a requester asserts panic (R419). -/
def State.reqPanic (s : State) (id : Nat) : Bool :=
  (decide (id = 3) && s.bit (bcB 0) F.BC_TILL_STAT.PANIC) || (decide (id = 4) && s.bit (bcB 1) F.BC_TILL_STAT.PANIC) ||
    (decide (id = 5) && decide (48 < s.mem.wrBuf))

/-- A tracker after an activation of a row: an untracked row takes the lowest entry of a full tracker, and its count. -/
def trackRow (l : List RhEntry) (row req : Nat) : List RhEntry :=
  if l.any fun e => decide (e.row = row) then
    l.map fun e => if e.row = row then { e with count := e.count + 1, req } else e
  else if l.length < 32 then l ++ [{ row, count := 1, req }]
  else
    let low := l.foldl (fun m e => min m e.count) (l.headD ⟨0, 0, 0⟩).count
    match l.findIdx? fun e => decide (e.count = low) with
    | none => l
    | some i => l.set i { row, count := low + 1, req }

/-- Put a bank's tracker. -/
def State.setTrack (s : State) (c bank : Nat) (l : List RhEntry) : State :=
  s.setMc c { s.mc c with track := SMap.set (fun _ => []) (s.mc c).track bank l }

/-- A row is opened (R427, R515): its tracker counts, and at THR an RFM is issued and the requester is throttled for HOLD µs. -/
def State.activate (s : State) (c : Nat) (r : McReq) : State :=
  let key := Tm.throttle c r.bank r.id
  let s := s.pmc 0x093 c
  let s := if s.timerOn key then { s with mem := { s.mem with lastAct := SMap.set (fun _ => 0) s.mem.lastAct key (s.now + 1) } } else s
  let l := trackRow (SMap.get (fun _ => []) (s.mc c).track r.bank) r.row r.id
  let hit := l.any fun e => decide (e.row = r.row) && decide (max 1 (s.fld mccB F.MCC_RH_CFG.THR) ≤ e.count)
  if !hit then s.setTrack c r.bank l
  else
    let s := s.setTrack c r.bank (l.map fun e => if e.row = r.row then { e with count := 0 } else e)
    let s := (s.mcCount c Ctr.MC.RFM_ISSUED).mcCount c Ctr.MC.RH_THROTTLE
    let s := { s with mem := { s.mem with lastAct := SMap.set (fun _ => 0) s.mem.lastAct key (s.now + 1) } }
    let s := s.startTimer key (max 1 (s.fld mccB F.MCC_RH_CFG.HOLD) * usTicks)
    s.raise Ev.MC_RH_THROTTLE (0x30 + c) noInst [(1, c), (1, r.bank), (3, r.row), (1, r.id)]

/-- Whether a throttle keeps a request from opening its row now. -/
def State.throttled (s : State) (c : Nat) (r : McReq) : Bool :=
  let key := Tm.throttle c r.bank r.id
  r.opens && s.timerOn key && !s.reqPanic r.id &&
    decide (s.now + 1 < SMap.get (fun _ => 0) s.mem.lastAct key + ceilDiv (s.fld mccB F.MCC_RH_CFG.GAP * 5) 4)

/-- RH_THROTTLE_HOLD_EXPIRY (R428): the throttle of a requester at a bank ends. -/
def execRhThrottleHoldExpiry (c : Fin 8) (bank : Fin 16) (id : Fin 7) (s : State) : Host.Outcome State Fault Refusal :=
  .next (s.onLive (0x30 + c.val) fun s => s.expire (Tm.throttle c.val bank.val id.val) fun s =>
    { s with mem := { s.mem with lastAct := SMap.set (fun _ => 0) s.mem.lastAct (Tm.throttle c.val bank.val id.val) 0 } })

/-- REFRESH_WINDOW_CLEAR (R427): every tracker of the channel clears. -/
def execRefreshWindowClear (c : Fin 8) (s : State) : Host.Outcome State Fault Refusal :=
  .next (s.onLive (0x30 + c.val) fun s => s.setMc c.val { s.mc c.val with track := [] })

/-! ### Scheduling (R420, R421) -/

/-- Whether two requests address the same 64 bytes. -/
def McReq.sameAs (a b : McReq) : Bool := decide (a.bank = b.bank) && decide (a.row = b.row) && decide (a.col = b.col)

/-- A request joins the channel's queue; one that must wait for a matching write or read counts in RAW_WAITS. -/
def State.mcAccept (s : State) (c : Nat) (r : McReq) : State :=
  let x := s.mc c
  let waits := if r.write then (x.reqs.any fun q => !q.write && q.sameAs r) || x.reads.any (·.sameAs r)
    else x.reqs.any fun q => q.write && q.sameAs r
  let s := s.setMc c { x with reqs := x.reqs ++ [r] }
  if waits then s.mcCount c Ctr.MC.RAW_WAITS else s

/-- Whether the i-th request of the queue may issue: no matching earlier request or outstanding read holds it, and no
throttle does (R421, R428). -/
def State.mcEligible (s : State) (c i : Nat) (r : McReq) : Bool :=
  let x := s.mc c
  let before := x.reqs.take i
  !(if r.write then (before.any fun q => q.sameAs r) || x.reads.any (·.sameAs r)
    else before.any fun q => q.write && q.sameAs r) && !s.throttled c r

/-- The class of R420 a request is issued in: 2 in panic, 3 real-time, 4 the traffic manager and write-backs, 6 the rest. -/
def State.mcClass (s : State) (r : McReq) : Nat :=
  if r.back then 4
  else if s.reqPanic r.id then 2
  else if 3 ≤ r.id ∧ r.id ≤ 5 then 3
  else if r.id < 3 then 4
  else 6

/-- The request a channel issues next, by its place in the queue, among those of a class: the oldest eligible, writes first
while the write queue holds more than 48 (R420). -/
def State.mcPick (s : State) (c cls : Nat) : Option Nat :=
  let x := s.mc c
  let l := x.reqs.zipIdx.filter fun p => decide (s.mcClass p.1 = cls) && s.mcEligible c p.2 p.1
  let batch := decide (48 < (x.reqs.filter (·.write)).length) && decide (cls = 4)
  match if batch then l.find? fun p => p.1.write else none with
  | some p => some p.2
  | none => l.head?.map (·.2)

/-- The i-th request is issued. -/
def State.mcIssue (s : State) (c i : Nat) : State :=
  let x := s.mc c
  match x.reqs[i]? with
  | none => s
  | some r =>
    let s := s.setMc c { x with reqs := x.reqs.eraseIdx i, reads := if r.write then x.reads else x.reads ++ [r] }
    let s := s.pmc (if r.write then 0x091 else 0x090) c
    let s := if r.id = 5 ∧ r.write = true then { s with mem := { s.mem with wrBuf := s.mem.wrBuf - 1 } } else s
    if r.opens then s.activate c r else s

/-- DRAM_COMMAND_ISSUE (R420): requests that have arrived join the channel's queue, and it issues its first eligible command;
forced and catch-up refreshes and RFMs issue where they arise (R423, R424, R428). -/
def execDramCommandIssue (c : Fin 8) (arrivals : List DramReq) (s : State) : Host.Outcome State Fault Refusal :=
  .next <| s.onLive (0x30 + c.val) fun s =>
    if s.mcRuns c.val = false then s
    else
      let s := arrivals.foldl (fun s r => s.mcAccept c.val
        { id := r.id.val, write := r.write, bank := r.bank.val, row := r.row.toNat, col := r.col.toNat, opens := r.opens,
          back := false }) s
      match (s.mcPick c.val 2).orElse fun _ => (s.mcPick c.val 3).orElse fun _ => s.mcPick c.val 4 with
      | some i => s.mcIssue c.val i
      | none =>
        let d := s.mcF c.val F.MC_STAT.DEBT
        if d ≠ 0 ∧ s.bit (mcB c.val) F.MC_STAT.PANIC = false then
          (s.setMcF c.val F.MC_STAT.DEBT (d - 1)).refIssued c.val 1
        else
          match s.mcPick c.val 6 with
          | some i => s.mcIssue c.val i
          | none => s

/-- SCRUB_VISIT (R432): patrol scrub asks for the next granule, whose place the environment gives. -/
def execScrubVisit (c : Fin 8) (bank : Fin 16) (row : BitVec 17) (col : BitVec 5) (opens : Bool) (s : State) :
    Host.Outcome State Fault Refusal :=
  .next <| s.onLive (0x30 + c.val) fun s =>
    if s.mcIn c.val = false ∨ s.bit mccB F.MCC_CFG.SCRUB_EN = false then s
    else s.mcAccept c.val { id := 6, write := false, bank := bank.val, row := row.toNat, col := col.toNat, opens, back := false }

/-! ### ECC errors (R429 to R431) -/

/-- An error reaches the log (R431). -/
def State.eccLog (s : State) (c : Nat) (r : McReq) (ue : Bool) (synd : Nat) : State :=
  let held := s.bit (mcB c) F.MC_ECC_LOG0.VALID
  if held && !(ue && !s.bit (mcB c) F.MC_ECC_LOG0.UE) then s.setMcF c F.MC_ECC_LOG0.MORE 1
  else
    let s := ((s.setMcF c F.MC_ECC_LOG0.VALID 1).setMcF c F.MC_ECC_LOG0.UE (b2n ue)).setMcF c F.MC_ECC_LOG0.REQ r.id
    let s := ((s.setMcF c F.MC_ECC_LOG0.BANK r.bank).setMcF c F.MC_ECC_LOG1.SYNDROME synd).setMcF c F.MC_ECC_LOG1.COL r.col
    let s := s.setMcF c F.MC_ECC_LOG1.ROW r.row
    (s.setMcF c F.MC_ECC_LOG2.SEC (timeSec s.timeNow)).setMcF c F.MC_ECC_LOG3.NS (timeNs s.timeNow)

/-- The page of an uncorrectable error is taken out of its free list when it is freed: a free one at once (R430). -/
def State.pageBad (s : State) (c : Nat) (page : DramPage) : State :=
  match page with
  | .segment q i =>
    let x := s.q q.toNat
    s.setQ q.toNat { x with pages := x.pages.map fun p => if p.1 = i ∧ p.2.1 = c then (p.1, p.2.1, true) else p }
  | .trace =>
    if pagesOf s.mem.traceBad c < pagesOf s.mem.trace c then
      { s with mem := { s.mem with traceBad := setPages s.mem.traceBad c (pagesOf s.mem.traceBad c + 1) } }
    else s
  | .unused =>
    if s.freePages c = 0 then s
    else
      let s := { s with mem := { s.mem with retired := setPages s.mem.retired c (pagesOf s.mem.retired c + 1) } }
      (s.mcCount c Ctr.MC.PAGES_RETIRED).showPages

/-- DRAM_READ_RETURN (R429, R430): the oldest outstanding read returns; a corrected granule is written back, and an
uncorrectable one is returned poisoned and its page retired. -/
def execDramReadReturn (c : Fin 8) (ecc : EccOutcome) (syndrome : BitVec 10) (page : DramPage) (s : State) :
    Host.Outcome State Fault Refusal :=
  .next <| s.onLive (0x30 + c.val) fun s =>
    let x := s.mc c.val
    match x.reads with
    | [] => s
    | r :: t =>
      let s := s.setMc c.val { x with reads := t }
      match ecc with
      | .good => s
      | .corrected =>
        let s := s.mcAccept c.val { r with write := true, back := true, opens := false }
        let s := s.mcCount c.val (if r.id = 6 then Ctr.MC.SCRUB_CE else Ctr.MC.ECC_CE)
        let s := s.raiseMs c.val Ev.MC_ECC_CE (0x30 + c.val) noInst [(1, c.val), (1, r.bank), (3, r.row)]
        s.eccLog c.val r false syndrome.toNat
      | .lost =>
        let s := s.mcCount c.val Ctr.MC.ECC_UE
        let s := s.raise Ev.MC_ECC_UE (0x30 + c.val) noInst [(1, c.val), (1, r.bank), (3, r.row), (1, r.id)]
        (s.eccLog c.val r true syndrome.toNat).pageBad c.val page

/-- A write of MC_ECC_CLR (R431). -/
def State.wrEccClr (s : State) (c v : Nat) : State :=
  if F.MC_ECC_CLR.CLR.of v = 0 then s else s.setRegs (mcB c + 0x20) [0, 0, 0, 0]

/-- MC_ECC_CLR (R431). -/
def execMcEccClr (m : Master) (c : Fin 8) (s : State) : Host.Outcome State Fault Refusal :=
  .next (s.onWrite m (mcB c.val + 0x30) fun s => s.wrEccClr c.val (2 ^ 31))

end Sys2Proof.Machine
end

