-- ==== Sys2Proof/Machine/Restart.lean ====
section
/-! DEFINITION. What a reset leaves (R41, R62, R68, R105, R111, R134, R463 to R468, R491, R498): power-on reset, a restart
without one, and the reset of every island but AON and CKR; the fuse words that AON shows (R387). -/

namespace Sys2Proof.Machine

/-- The event rings' and sinks' state at a reset: the Ledger's ring survives (R465, R468). -/
def EvtState.restart (e : EvtState) : EvtState :=
  { EvtState.reset with lgrRing := e.lgrRing, lgrSeq := e.lgrSeq }

/-- A PON channel's state at a reset: the RXLOS ball's level and the Ledger's emergency record stay (R74, R111). -/
def PonState.restart (p : PonState) : PonState := { PonState.reset with rxlos := p.rxlos, estop := p.estop }

/-- The registers a restart without power-on reset keeps: the sag, the temperature since POR and the Ledger's write
position. -/
def State.keptRegs (s : State) : List (Nat × Word) :=
  [aonB + F.AON_SAG_STAT.SAG.off, aonB + F.AON_TEMP.VALID.off].map fun a => (a, s.reg a)

/-- Everything but the Ledger, the fuses, the flash, the TAP, the outside world and the levels at the pins at its reset values (R41,
R68). -/
def State.freshen (s : State) : State :=
  { State.reset with
    pending := s.pending, now := s.now, freeNext := s.freeNext, out := s.out, fuse := s.fuse, ledger := s.ledger, flash := s.flash,
    tap := s.tap,
    evt := s.evt.restart, pon := ⟨s.pon.a.restart, s.pon.b.restart⟩, boot := { BootState.reset with rails := s.boot.rails },
    pwr := { PwrState.reset with gpio := s.pwr.gpio } }.setReg
      (evtB + F.EVT_LGR_WP.WP.off) (s.reg (evtB + F.EVT_LGR_WP.WP.off))

/-- Power-on reset is asserted (R41): XSPI_RESET_N is held low (R549), and the TAP is reset. -/
def State.powerOn (s : State) : State :=
  let f := s.freshen
  { f with flash := { f.flash with upAt := 0 }, tap := .idcode }

def Tm.rails : Nat := 0x70023
def Tm.stage : Nat := 0x70024
def Tm.poll : Nat := 0x70025

/-- The limit of a boot stage in ms (R42), 0 where it has none of its own. -/
def stageLimit (n : Nat) : Nat :=
  if n = 0 then 3 else if n = 2 then 5 else if n = 4 then 80 else if n = 6 then 150 else if n = 7 then 110
  else if n = 8 then 200 else if n = 9 then 220 else 0

/-- The bytes of a Passbook copy that PB_READ reads (R57): its first LENGTH bytes, or the header alone where its fields are wrong or
LENGTH is out of bounds. -/
def pbBytes (hdrOk : Bool) (sections len : Nat) : Nat :=
  if hdrOk = false ∨ len < 64 + 16 * sections + 256 ∨ 2 ^ 24 < len then 64 else len

/-- The limit of PB_READ for so many bytes (R42, log 17): 5 ms for each MiB begun, at most 80 ms. -/
def pbLimit (n : Nat) : Nat := min 80 (5 * ceilDiv n (2 ^ 20)) * msTicks

/-- The boot enters a stage (R42); XTAL lasts until 20 ms after POR release (R45). -/
def State.toStage (s : State) (n : Nat) : State :=
  let s := { s.setF aonB F.AON_BOOT_STAT.STAGE n with boot := { s.boot with stageAt := s.now } }
  if n = 1 then s.startTimer Tm.stage (s.boot.t0 + 20 * msTicks - s.now)
  else if stageLimit n = 0 then s.stopTimer Tm.stage
  else s.startTimer Tm.stage (stageLimit n * msTicks)

/-- The sequence restarts from AON_UP without a power-on reset (R68): the counters keep their values (R105), a sag in force,
dying gasp, the straps, THERMTRIP_N and a lost crystal stay (R134, R491, R498, R544, R553), and BOOT_REBOOT carries the stage that was left (R73). -/
def State.reboot (s : State) : State :=
  let f := s.freshen
  let f := { f with ctrs := s.ctrs, tally := s.tally,
                    boot := { f.boot with por := false, t0 := s.now, stageAt := s.now, xtalLost := s.boot.xtalLost },
                    pwr := { f.pwr with sagAt := s.pwr.sagAt, benStrap := s.pwr.benStrap, vrAddr := s.pwr.vrAddr,
                                        talert := s.pwr.talert, trip := s.pwr.trip } }
  let f := s.keptRegs.foldl (fun f p => f.setReg p.1 p.2) f
  let f := f.setBit (pnB 0) F.PN_US_STAT.GASP (s.bit (pnB 0) F.PN_US_STAT.GASP)
  let f := f.setBit (pnB 1) F.PN_US_STAT.GASP (s.bit (pnB 1) F.PN_US_STAT.GASP)
  (f.toStage 0).raise Ev.BOOT_REBOOT 0x00 noInst [(1, s.stage)]

/-- Every island but AON and CKR is reset (R62): HST stays live, and the boot buffer, the boot's own state
and dying gasp stay (R73, R134). -/
def State.resetIslands (s : State) : State :=
  let s := s.setLives ((List.range 64).filter fun i => decide (2 ≤ i) && decide (i ≠ 0x3A)) false
  let f := s.freshen
  let f := { f with ctrs := s.ctrs, tally := s.tally, boot := s.boot, pwr := s.pwr,
                    timers := s.timers.filter fun p => decide (0x70020 ≤ p.1) && decide (p.1 < 0x71000)
                    evt := { f.evt with bootBuf := s.evt.bootBuf, bootLost := s.evt.bootLost } }
  let f := { f with regs := s.regs.filter (fun (p : Nat × Word) => decide (p.1 < window 2)) ++
                             f.regs.filter (fun (p : Nat × Word) => decide (window 2 ≤ p.1)) }
  let f := f.setBit (pnB 0) F.PN_US_STAT.GASP (s.bit (pnB 0) F.PN_US_STAT.GASP)
  f.setBit (pnB 1) F.PN_US_STAT.GASP (s.bit (pnB 1) F.PN_US_STAT.GASP)

/-! ### The fuse words AON shows (R387) -/

/-- Bits of the provisioned hash slots: 0 to 3 owner, 4 and 5 debug. -/
def Fuses.prov (f : Fuses) : Nat :=
  ((List.range 6).map fun i => if (SMap.get (fun _ => none) f.hashes i).isSome then 2 ^ i else 0).sum

/-- A hash slot's hash. -/
def Fuses.hash (f : Fuses) (i : Nat) : Option Nat := SMap.get (fun _ => none) f.hashes i

/-- Whether a hash slot is provisioned and not revoked. -/
def Fuses.usable (f : Fuses) (i : Nat) : Bool := (f.hash i).isSome && !f.revoked.testBit i

/-- The rollback floor: the highest floor word, since a floor is only ever raised (R362). -/
def Fuses.floor (f : Fuses) : Nat := f.floors.foldl max 0

/-- Show the lifecycle, the floors used and the owner slots (R387). -/
def State.showFuses (s : State) : State :=
  let f := s.fuse
  let s := s.setF aonB F.AON_LIFECYCLE.STATE f.life
  let s := s.setBit aonB F.AON_LIFECYCLE.RMA_AUTH f.rmaAuth
  let s := s.setBit aonB F.AON_LIFECYCLE.RMA_RUN s.ledger.marker
  let s := s.setF aonB F.AON_LIFECYCLE.FLOOR_USED f.floors.length
  let s := s.setF aonB F.AON_OWNER.PROV (f.prov % 16)
  let s := s.setF aonB F.AON_OWNER.DBG_PROV (f.prov / 16)
  let s := s.setF aonB F.AON_OWNER.REVOKED (f.revoked % 16)
  s.setF aonB F.AON_OWNER.DBG_REVOKED (f.revoked / 16)

/-- Change the fuses. -/
def State.setFuse (s : State) (f : Fuses) : State := ({ s with fuse := f }).showFuses

/-- A lifecycle transition: the fuses, and its Ledger record that raises VLT_LIFECYCLE at the next RUN (R355). -/
def State.setLife (s : State) (new : Nat) : State :=
  if s.fuse.life = new then s
  else
    let s := { s with ledger := { s.ledger with lives := s.ledger.lives ++ [(s.fuse.life, new)] } }
    s.setFuse { s.fuse with life := new }

/-- A sag is in force (R496, R508). -/
def State.sagging (s : State) : Bool := s.bit aonB F.AON_SAG_STAT.SAG

end Sys2Proof.Machine
end

