-- ==== Sys2Proof/Machine/Jobs.lean ====
section
/-! DEFINITION. The Vault's jobs (R360 to R365, R376 to R380): what each operation computes from its registers, its source
bytes and its key slots. -/

namespace Sys2Proof.Machine

/-! ### Ports, slots and the Mint -/

def Tm.dbgNonce : Nat := 0x70000
def Tm.rmaNonce : Nat := 0x70001

/-- The page of job port p, less 0x100 (R386). -/
def jobB (p : Nat) : Nat := vltB + 0x100 * p

/-- A write to a job port's page (R54, R376, R492): port 0 is the host's and port 1 the Steward's, and a write from the other
master is discarded. -/
def State.onVlt (s : State) (m : Master) (p a : Nat) (act : State → State) : State :=
  if s.r54Discards m a then s.countDiscard
  else if !s.live 0x2C then s.darkAccess a true
  else if decide (m = .host) != decide (p = 0) then s
  else act s

/-- Whether a slot lies in a job port's partition (R366). -/
def State.portOwns (s : State) (p slot : Nat) : Bool :=
  let base := s.fld vltB F.VLT_SLOT_PART.HOST_BASE
  if p = 0 then decide (base ≤ slot) else decide (slot < base)

/-- The key an operation names (R366): a slot outside the partition, of a wrong type or without the use bit gives BAD_OP, an
empty one KEY_ABSENT. Use bits: 0 PON, 1 SEC, 2 JOB, 3 KEK. -/
def State.jobKey (s : State) (p slot : Nat) (types : List Nat) (use : Nat) : Except Nat KeySlot :=
  if !s.portOwns p slot then .error 4
  else match s.slot slot with
    | none => .error 2
    | some k => if types.contains k.typ && k.use.testBit use then .ok k else .error 4

/-- A job that ends with a status and nothing else. -/
def Job.fail (op status : Nat) : Job := { op, slot := none, status, dst := [], tag := 0, eff := .none }

/-- A job that ends well with bytes for DST. -/
def Job.gives (op : Nat) (slot : Option Nat) (dst : List Byte) (tag : Nat) (eff : JobEff) : Job :=
  { op, slot, status := 0, dst, tag, eff }

/-- The status of an OP and LEN before anything else is looked at (R377): BAD_OP for an OP not listed and for a length that
cannot hold the operation's fixed input, TOO_LONG above the limit. -/
def jobLenStatus (op len : Nat) : Nat :=
  if op = 0 ∨ 0x12 < op then 4
  else if op = 9 ∨ op = 0xD ∨ op = 0xF ∨ op = 0x12 then 0
  else
    let lim := if op ≤ 6 then (if op = 2 then 16384 else 2 ^ 24) else if op = 7 then 240 else if op = 8 then 4096
      else if op = 0xB then 40 else if op = 0xC then 96 else 256
    if lim < len then 3
    else if op = 7 ∨ op = 0xC ∨ op = 0xE ∨ op = 0x10 ∨ op = 0x11 then (if len = lim then 0 else 4)
    else if op = 0xB then (if len = 24 ∨ len = 40 then 0 else 4)
    else 0

/-! ### Registers of a job -/

def State.jobF (s : State) (p : Nat) (f : Fld) : Nat := s.fld (jobB p) f

/-- JOB_IV as one number, byte 0 most significant (R386). -/
def State.jobIv (s : State) (p : Nat) : Nat :=
  ((s.regWords (jobB p + 0x120) 3).foldl (fun n w => n * 2 ^ 32 + w.toNat) 0)

/-- JOB_TAG_IN as one number. -/
def State.jobTagIn (s : State) (p : Nat) : Nat :=
  ((s.regWords (jobB p + 0x130) 4).foldl (fun n w => n * 2 ^ 32 + w.toNat) 0)

/-- AES blocks of the central engine (R515). -/
def State.centralBlocks (s : State) (n : Nat) : State := s.pmc 0x0A0 0 (ceilDiv n 16)

/-! ### Cipher and hash operations (R377, R378, R380) -/

/-- The IV of a GCM_ENC job and the state after it is taken (R380): IV_MODE 01 appends the slot's invocation counter. -/
def State.takeIv (s : State) (p ivMode slot : Nat) (k : KeySlot) : State × Option Nat :=
  if ivMode = 1 then
    if 2 ^ 64 ≤ k.iv then (s, none)
    else
      let iv := s.jobIv p / 2 ^ 64 * 2 ^ 64 + k.iv
      let warn := decide (2 ^ 64 - 2 ^ 32 ≤ k.iv + 1) && !k.ivWarned
      let s := s.setSlot slot (some { k with iv := k.iv + 1, ivWarned := k.ivWarned || warn })
      (if warn then s.raise Ev.VLT_IV_THRESHOLD 0x2C noInst [(2, slot)] else s, some iv)
  else (s, some (s.jobIv p))

/-- GCM_ENC. -/
def State.jobGcmEnc (s : State) (p ivMode slot : Nat) (src : List Byte) : State × Job :=
  match s.jobKey p slot [1, 2] 2 with
  | .error st => (s, Job.fail 1 st)
  | .ok k =>
    match s.takeIv p ivMode slot k with
    | (s, none) => (s, Job.fail 1 7)
    | (s, some iv) =>
      let a := min (s.jobF p F.JOB_AAD_LEN.AAD) src.length
      let ct := bytesAt (aesCtr k.typ k.key (iv * 2 ^ 32 + 2) (src.drop a)) 0 (src.length - a)
      (s.centralBlocks src.length, Job.gives 1 (some slot) ct (gcmTag k.typ k.key iv (src.take a) ct % 2 ^ 128) .none)

/-- GCM_DEC: the plaintext only when the tag verifies (R378). -/
def State.jobGcmDec (s : State) (p slot : Nat) (src : List Byte) : State × Job :=
  match s.jobKey p slot [1, 2] 2 with
  | .error st => (s, Job.fail 2 st)
  | .ok k =>
    let iv := s.jobIv p
    let a := min (s.jobF p F.JOB_AAD_LEN.AAD) src.length
    let ct := src.drop a
    let s := s.centralBlocks src.length
    if gcmTag k.typ k.key iv (src.take a) ct % 2 ^ 128 = s.jobTagIn p then
      (s, Job.gives 2 (some slot) (bytesAt (aesCtr k.typ k.key (iv * 2 ^ 32 + 2) ct) 0 ct.length) 0 .none)
    else (s, { Job.fail 2 1 with slot := some slot })

/-- CTR: the initial counter block is IV and TAG_IN[0]. -/
def State.jobCtr (s : State) (p slot : Nat) (src : List Byte) : State × Job :=
  match s.jobKey p slot [1, 2] 2 with
  | .error st => (s, Job.fail 3 st)
  | .ok k =>
    let c := s.jobIv p * 2 ^ 32 + s.jobTagIn p / 2 ^ 96
    (s.centralBlocks src.length, Job.gives 3 (some slot) (bytesAt (ctrMode Config.ctrWide k.typ k.key c src) 0 src.length) 0 .none)

/-- CMAC. -/
def State.jobCmac (s : State) (p slot : Nat) (src : List Byte) : State × Job :=
  match s.jobKey p slot [1, 2] 2 with
  | .error st => (s, Job.fail 4 st)
  | .ok k =>
    (s.centralBlocks src.length, Job.gives 4 (some slot) [] (cmac k.typ k.key src % 2 ^ 128) .none)

/-- SHA384. -/
def State.jobSha (s : State) (src : List Byte) : State × Job :=
  (s, Job.gives 5 none (beBytes 48 (sha384 src)) 0 .none)

/-- HMAC_SHA384. -/
def State.jobHmac (s : State) (p slot : Nat) (src : List Byte) : State × Job :=
  match s.jobKey p slot [3] 2 with
  | .error st => (s, Job.fail 6 st)
  | .ok k => (s, Job.gives 6 (some slot) (beBytes 48 (hmac384 k.key src)) 0 .none)

/-- ECDSA_VERIFY: a public key of 96 bytes, a hash of 48 and a signature of 96; SIG_FAIL where it does not verify. -/
def State.jobEcdsa (s : State) (src : List Byte) : State × Job :=
  if ecdsaOk (bytesAt src 0 96) (beAt src 96 48) (bytesAt src 144 96) then (s, Job.gives 7 none [] 0 .none)
  else (s, Job.fail 7 9)

/-- RANDOM: LEN bytes from the Mint. -/
def State.jobRandom (s : State) (len : Nat) : State × Job :=
  if !s.mintOk then (s, Job.fail 8 6)
  else
    let (s, r) := s.drbgRequest
    (s, Job.gives 8 none (beBytes len r) 0 .none)

/-! ### Keys into slots (R377) -/

/-- The destination of a key: SLOT2 in the partition and a TYPE other than empty, else BAD_OP. -/
def State.keyDest (s : State) (p : Nat) : Bool :=
  s.portOwns p (s.jobF p F.JOB_SLOT2.SLOT2) && decide (s.jobF p F.KEY_ATTR.TYPE ≠ 0)

/-- A key goes into SLOT2 with KEY_ATTR. -/
def State.keyJob (s : State) (p op : Nat) (src : Option Nat) (key : Nat) : Job :=
  Job.gives op src [] 0 (.putKey (s.jobF p F.JOB_SLOT2.SLOT2) (s.jobF p F.KEY_ATTR.TYPE) (s.jobF p F.KEY_ATTR.USE) key)

/-- KEY_GEN: the DRBG reseeds before it (R372). -/
def State.jobKeyGen (s : State) (p : Nat) : State × Job :=
  if !s.keyDest p then (s, Job.fail 9 4)
  else if !s.mintOk then (s, Job.fail 9 6)
  else
    let (s, r) := s.mintReseed.drbgRequest
    (s, s.keyJob p 9 none r)

/-- KDF. -/
def State.jobKdf (s : State) (p slot : Nat) (src : List Byte) : State × Job :=
  match s.jobKey p slot [1, 2, 3] 3 with
  | .error st => (s, Job.fail 0xA st)
  | .ok k =>
    if !s.keyDest p then (s, Job.fail 0xA 4)
    else (s, s.keyJob p 0xA (some slot) (kdf k.typ k.key src (if s.jobF p F.KEY_ATTR.TYPE = 1 then 128 else 256)))

/-- UNWRAP: 24 bytes hold a key of 128 bits and 40 bytes one of 256; TAG_FAIL where the wrapped key is not intact. -/
def State.jobUnwrap (s : State) (p slot : Nat) (src : List Byte) : State × Job :=
  match s.jobKey p slot [1, 2] 3 with
  | .error st => (s, Job.fail 0xB st)
  | .ok k =>
    if !s.keyDest p || (decide (src.length = 24) != decide (s.jobF p F.KEY_ATTR.TYPE = 1)) then (s, Job.fail 0xB 4)
    else match keyUnwrap k.typ k.key src with
      | none => (s, { Job.fail 0xB 1 with slot := some slot })
      | some key => (s, s.keyJob p 0xB (some slot) key)

/-! ### Identity (R358 to R360) -/

/-- The signature of the identity key over the SHA-384 of bytes: r then s. -/
def State.idSigned (s : State) (bs : List Byte) : State × List Byte :=
  let (s, r) := s.takeFree
  (s, beBytes 96 (idSign (sha384 bs) r))

/-- The die ID of the Hallmark. -/
def State.dieId (s : State) : Nat := s.fld aonB F.AON_HM_DIE_LO.DIE_LO + s.fld aonB F.AON_HM_DIE_HI.DIE_HI * 2 ^ 32

/-- The FLAGS of a report. -/
def State.attestFlags (s : State) : Nat :=
  s.fld aonB F.AON_BOOT_STAT.COPY + 2 * s.fld aonB F.AON_BOOT_STAT.FW_COPY + 4 * s.fld aonB F.AON_BOOT_STAT.XTAL_FB +
    8 * s.fld aonB F.AON_BOOT_STAT.STW_DOWN + 16 * b2n (decide (s.fld vltB F.VLT_STAT.MINT = 2)) +
    32 * s.fld aonB F.AON_LIFECYCLE.RMA_AUTH

/-- Bytes 0x000 to 0x01F of a report (R360). -/
def State.attestHead (s : State) : List Byte :=
  leBytes 4 0x54535441 ++ leBytes 2 1 ++ leBytes 2 0x200 ++ leBytes 8 s.dieId ++
    leBytes 1 (s.fld aonB F.AON_LIFECYCLE.STATE) ++ leBytes 1 (s.fld vltB F.VLT_DBG_CTRL.OPEN) ++
    leBytes 1 s.boot.keySlot ++
    leBytes 1 (s.fld aonB F.AON_OWNER.PROV + 16 * s.fld aonB F.AON_OWNER.REVOKED) ++
    leBytes 2 (s.fld aonB F.AON_BOOT_STAT.BOOT_COUNT) ++ leBytes 2 s.attestFlags ++
    leBytes 4 (s.fld aonB F.AON_PB_VERSION.VERSION) ++ leBytes 4 (s.fld aonB F.AON_PB_FLOOR.FLOOR)

/-- Bytes 0x000 to 0x19F of a report for a nonce of 32 bytes and user data of 64. -/
def State.attestBody (s : State) (src : List Byte) : List Byte :=
  let t := s.timeNow
  s.attestHead ++ bytesAt src 0 32 ++ beBytes 48 s.boot.pbHash ++ beBytes 48 s.stw.fwHash ++
    beBytes 48 (sha384 (wordBytes (s.regWords (aonB + 0x400) 128))) ++ beBytes 48 s.boot.configHash ++
    bytesAt src 32 64 ++ leBytes 8 (timeSec t) ++ leBytes 4 (timeNs t) ++ leBytes 2 (timeFrac t) ++ leBytes 2 0 ++
    leBytes 80 0

/-- ATTEST. -/
def State.jobAttest (s : State) (src : List Byte) : State × Job :=
  let body := s.attestBody src
  let (s, sig) := s.idSigned body
  (s, Job.gives 0xC none (body ++ sig) 0 .attest)

/-- CERT (R359). -/
def State.jobCert (s : State) : State × Job := (s, Job.gives 0xD none (Config.certificate.take 1024) 0 .none)

/-! ### Owner commands (R361, R362) -/

/-- Whether bytes signed in the layout of R361 verify under a key whose hash is `h`. -/
def signedOk (src : List Byte) (h : Nat) : Bool :=
  decide (sha384 (bytesAt src 0x40 96) = h) &&
    ecdsaOk (bytesAt src 0x40 96) (sha384 (bytesAt src 0 0xA0)) (bytesAt src 0xA0 96)

/-- Whether an owner command passes the checks common to all (R362). -/
def State.ownerSigned (s : State) (src : List Byte) : Bool :=
  let k := (src.getD 6 0).toNat
  decide (leNat (bytesAt src 0 4) = 0x444E4D43) && decide (leNat (bytesAt src 8 8) = s.dieId) &&
    decide (s.fuse.life = 7) && decide (k < 4) && s.fuse.usable k && signedOk src ((s.fuse.hash k).getD 0)

/-- Whether a hash slot can be programmed: not provisioned, and not damaged, which reads as revoked and can no longer be
programmed cleanly (R357). -/
def Fuses.blank (f : Fuses) (i : Nat) : Bool := (f.hash i).isNone && !f.revoked.testBit i

/-- The status of a signed owner command by its further condition (R362). -/
def State.ownerStatus (s : State) (cmd target signer value : Nat) : Nat :=
  let f := s.fuse
  let ok := if cmd = 1 then decide (target < 4) && f.blank target
    else if cmd = 2 then decide (target < 4) && decide (target ≠ signer) &&
      (List.range 4).any (fun i => decide (i ≠ target) && f.usable i)
    else if cmd = 3 then decide (s.fld aonB F.AON_PB_FLOOR.FLOOR < value) && decide (f.floors.length < 16)
    else if cmd = 4 then decide (target < 2) && f.blank (4 + target)
    else if cmd = 5 then decide (target < 2) && (f.hash (4 + target)).isSome
    else true
  if cmd = 0 ∨ 6 < cmd then 4 else if ok then 0 else 10

/-- OWNER_CMD. -/
def State.jobOwner (s : State) (src : List Byte) : State × Job :=
  let cmd := (src.getD 4 0).toNat
  let target := (src.getD 5 0).toNat
  let value := if cmd = 3 then leNat (bytesAt src 0x10 4) else beAt src 0x10 48
  let signer := (src.getD 6 0).toNat
  let st := if s.ownerSigned src then s.ownerStatus cmd target signer value else 9
  (s, { Job.fail 0xE st with eff := .owner cmd target signer value })

/-! ### Challenges and responses (R363 to R365) -/

/-- DEBUG_CHAL and RMA_CHAL: the challenge of 64 bytes and its signature. -/
def State.jobChallenge (s : State) (rma : Bool) : State × Job :=
  let op := if rma then 0x12 else 0xF
  if rma && !s.fuse.rmaAuth then (s, Job.fail op 10)
  else if !s.mintOk then (s, Job.fail op 6)
  else
    let (s, r) := s.drbgRequest
    let n := r % 2 ^ 384
    let body := leBytes 4 (if rma then 0x4C484352 else 0x4C484344) ++ leBytes 2 1 ++
      leBytes 2 (s.fld aonB F.AON_BOOT_STAT.BOOT_COUNT) ++ leBytes 8 s.dieId ++ beBytes 48 n
    let (s, sig) := s.idSigned body
    (s, Job.gives op none (body ++ sig) 0 (.challenge rma n))

/-- The status of a debug response: STATE where no nonce is held or a reserved SCOPE bit is set, else SIG_FAIL where a check
fails. -/
def State.debugStatus (s : State) (src : List Byte) : Nat :=
  let slot := (src.getD 6 0).toNat
  match s.vlt.dbgNonce with
  | none => 10
  | some n =>
    if leNat (bytesAt src 4 2) / 16 ≠ 0 then 10
    else if decide (leNat (bytesAt src 0 4) = 0x50534244) && decide (leNat (bytesAt src 8 8) = s.dieId) &&
        decide (beAt src 0x10 48 = n) && decide (slot < 2) && s.fuse.usable (4 + slot) &&
        signedOk src ((s.fuse.hash (4 + slot)).getD 0) then 0
    else 9

/-- DEBUG_RESP: the nonce is consumed either way. -/
def State.jobDebugResp (s : State) (src : List Byte) : State × Job :=
  let st := s.debugStatus src
  let s := ({ s with vlt := { s.vlt with dbgNonce := none } }).stopTimer Tm.dbgNonce
  (s, { Job.fail 0x10 st with
        eff := if st = 0 then .openScope (leNat (bytesAt src 4 2)) (src.getD 6 0).toNat else .reject false })

/-- The status of an RMA response. -/
def State.rmaStatus (s : State) (src : List Byte) : Nat :=
  match s.vlt.rmaNonce with
  | none => 10
  | some n =>
    if decide (leNat (bytesAt src 0 4) = 0x414D5252) && decide (leNat (bytesAt src 4 3) = 0) &&
        decide (leNat (bytesAt src 8 8) = s.dieId) && decide (beAt src 0x10 48 = n) &&
        signedOk src Config.rmaKeyHash then 0
    else 9

/-- RMA_RESP: STATE unless RMA_AUTH is blown. -/
def State.jobRmaResp (s : State) (src : List Byte) : State × Job :=
  if !s.fuse.rmaAuth then (s, { Job.fail 0x11 10 with eff := .reject true })
  else
    let st := s.rmaStatus src
    let s := ({ s with vlt := { s.vlt with rmaNonce := none } }).stopTimer Tm.rmaNonce
    (s, { Job.fail 0x11 st with eff := if st = 0 then .rma else .reject true })

/-! ### A job by its OP -/

/-- What a job of an OP computes, its LEN source bytes given (R377). -/
def State.jobRun (s : State) (p op ivMode slot : Nat) (src : List Byte) : State × Job :=
  let st := jobLenStatus op (s.jobF p F.JOB_LEN.LEN)
  if st ≠ 0 then (s, Job.fail op st)
  else if op = 1 then s.jobGcmEnc p ivMode slot src
  else if op = 2 then s.jobGcmDec p slot src
  else if op = 3 then s.jobCtr p slot src
  else if op = 4 then s.jobCmac p slot src
  else if op = 5 then s.jobSha src
  else if op = 6 then s.jobHmac p slot src
  else if op = 7 then s.jobEcdsa src
  else if op = 8 then s.jobRandom (s.jobF p F.JOB_LEN.LEN)
  else if op = 9 then s.jobKeyGen p
  else if op = 0xA then s.jobKdf p slot src
  else if op = 0xB then s.jobUnwrap p slot src
  else if op = 0xC then s.jobAttest src
  else if op = 0xD then s.jobCert
  else if op = 0xE then s.jobOwner src
  else if op = 0xF then s.jobChallenge false
  else if op = 0x10 then s.jobDebugResp src
  else if op = 0x11 then s.jobRmaResp src
  else s.jobChallenge true

end Sys2Proof.Machine
end

