-- ==== Sys2Proof/Machine/Vault.lean ====
section
/-! DEFINITION. The Vault: owner provisioning (R355 to R357), jobs and their completion (R376 to R379), key commands and
Escrow (R367 to R369), the Mint (R371, R372), nonces and the debug scope (R363). -/

namespace Sys2Proof.Machine

/-! ### Lifecycle and provisioning (R355 to R357) -/

/-- LIFECYCLE_ADVANCE (R355): in MFG, once the identity key and certificate exist. -/
def execLifecycleAdvance (ready : Bool) (s : State) : Host.Outcome State Fault Refusal :=
  .next (if s.fuse.life = 1 ∧ ready = true then s.setLife 3 else s)

/-- A write of AON_OWN_CMD (R356): in PROVISION with the key, for a slot not yet provisioned, the fuses begin to be
programmed; else CAUSE says why it is discarded. A slot damaged under R357 gives the CAUSE of a provisioned one (log 163). -/
def State.wrOwnCmd (s : State) (v : Nat) : State :=
  let t := F.AON_OWN_CMD.TARGET.of v
  if s.bit aonB F.AON_OWN_CMD.BUSY then s
  else if s.fuse.life ≠ 3 ∨ F.AON_OWN_CMD.KEY.of v ≠ 0xA5C3 then s.setF aonB F.AON_OWN_CMD.CAUSE 1
  else if 6 ≤ t then s.setF aonB F.AON_OWN_CMD.CAUSE 3
  else if !s.fuse.blank t then s.setF aonB F.AON_OWN_CMD.CAUSE 2
  else
    let h := (s.regWords (aonB + 0x50) 12).foldl (fun n w => n * 2 ^ 32 + w.toNat) 0
    let s := (s.setF aonB F.AON_OWN_CMD.CAUSE 0).setF aonB F.AON_OWN_CMD.BUSY 1
    { s with vlt := { s.vlt with fuse := some (t, h) } }

/-- AON_OWN_CMD_WRITE (R356). -/
def execAonOwnCmdWrite (m : Master) (key : BitVec 16) (target : BitVec 3) (s : State) : Host.Outcome State Fault Refusal :=
  .next (s.onWrite m (aonB + 0x48) fun s => s.wrOwnCmd (key.toNat * 65536 + target.toNat))

/-- A hash slot's word is fused whole. -/
def Fuses.putHash (f : Fuses) (i h : Nat) : Fuses := { f with hashes := SMap.set (fun _ => none) f.hashes i (some h) }

/-- Fuse programming ends; none goes on during a sag (R496). -/
def State.fuseDone (s : State) : State :=
  match s.vlt.fuse with
  | none => s
  | some (t, h) =>
    if s.sagging then s
    else
      let s := (({ s with vlt := { s.vlt with fuse := none } }).setF aonB F.AON_OWN_CMD.BUSY 0).setFuse (s.fuse.putHash t h)
      if t < 4 then s.setLife 7 else s

/-- FUSE_PROGRAM_DONE (R356). -/
def execFuseProgramDone (s : State) : Host.Outcome State Fault Refusal := .next s.fuseDone

/-- The hash slot of a target is damaged: some of its bits are blown and its valid bit is not, so it reads as revoked (R357). -/
def State.damageSlot (s : State) (t : Nat) : State := s.setFuse { s.fuse with revoked := Nat.lor s.fuse.revoked (2 ^ t) }

/-- AON_OWN_CMD is cut short (R357): the slot stays unwritten, or damaged where hash bits are blown already. -/
def State.ownCmdCut (s : State) : State :=
  match s.vlt.fuse with
  | none => s
  | some (t, _) =>
    let (s, r) := s.takeFree
    let s := ({ s with vlt := { s.vlt with fuse := none } }).setF aonB F.AON_OWN_CMD.BUSY 0
    if r % 2 = 0 then s else s.damageSlot t

/-- A port's job is cut short as it programs fuses (R357): whether it had begun is free. A command that had ends with STATE:
its word reads as unwritten, a hash slot as revoked; an RMA response that had leaves its marker (R365, log 163). -/
def State.jobCut (s : State) (p : Nat) : State :=
  match s.job p with
  | none => s
  | some j =>
    let (s, r) := s.takeFree
    let ended := { s with vlt := { s.vlt with jobs := s.vlt.jobs.set (if p = 0 then 0 else 1) (some { j with status := 10 }) } }
    match j.eff with
    | .owner cmd t _ _ =>
      if r % 2 = 0 ∨ j.status ≠ 0 then s
      else if cmd = 1 then ended.damageSlot t
      else if cmd = 4 then ended.damageSlot (4 + t)
      else ended
    | .rma => if r % 2 = 0 then s else ({ s with ledger := { s.ledger with marker := true } }).showFuses
    | _ => s

/-- Fuse programming stops (R357, R496). -/
def State.fuseCut (s : State) : State := (s.ownCmdCut.jobCut 0).jobCut 1

/-! ### The end of a job (R363, R365, R379) -/

/-- Open or close a debug scope (R363, R387). -/
def State.setScope (s : State) (v : Nat) : State :=
  (s.setF vltB F.VLT_DBG_CTRL.OPEN v).setF aonB F.AON_LIFECYCLE.DEBUG v

/-- A rejected response (R363). -/
def State.rejected (s : State) (op st : Nat) : State :=
  (s.count (vltB + Ctr.VLT.DEBUG_REJECTS)).raise Ev.VLT_OWNER_CMD_REJECT 0x2C noInst [(1, op), (1, st)]

/-- Carry out an owner command (R362). -/
def State.ownerAct (s : State) (cmd target value : Nat) : State :=
  let f := s.fuse
  let s := s.count (vltB + Ctr.VLT.OWNER_CMDS)
  if cmd = 1 then s.setFuse (f.putHash target value)
  else if cmd = 2 then s.setFuse { f with revoked := Nat.lor f.revoked (2 ^ target) }
  else if cmd = 3 then s.setFuse { f with floors := f.floors ++ [value % 2 ^ 32] }
  else if cmd = 4 then s.setFuse (f.putHash (4 + target) value)
  else if cmd = 5 then s.setFuse { f with revoked := Nat.lor f.revoked (2 ^ (4 + target)) }
  else s.setFuse { f with rmaAuth := true }

/-- The RMA steps from the marker on (R365): the slots and Escrow are zeroised, the Mint reseeds, the Ledger but its boot and
identity areas is erased, every hash slot is revoked, and the lifecycle becomes RMA. -/
def State.rmaSteps (s : State) : State :=
  let s := { s with slots := [], vlt := { s.vlt with escrow := [] } }
  let s := (s.setF vltB F.VLT_STAT.ESCROW_USED 0).mintReseed
  let s := { s with
    evt := { s.evt with lgrRing := [], lgrSeq := 0 },
    pon := ⟨{ s.pon.a with estop := false }, { s.pon.b with estop := false }⟩,
    ledger := { s.ledger with gasps := [], debugs := [], fwFloor := 0 } }
  let s := s.setF evtB F.EVT_LGR_WP.WP 0
  let s := (s.setFuse { s.fuse with revoked := 63 }).setLife 15
  ({ s with ledger := { s.ledger with marker := false } }).showFuses

/-- What a job brings about as it completes. -/
def State.jobEffect (s : State) (j : Job) : State :=
  match j.eff with
  | .none => s
  | .putKey slot typ use key => s.keyWrite { erase := false, slot, typ, use, key, op := j.op, src := 2 }
  | .owner cmd target _ value =>
    let s := if j.status = 0 then s.ownerAct cmd target value else s
    s.raise Ev.VLT_OWNER_CMD 0x2C noInst [(1, cmd), (1, target), (1, j.status)]
  | .challenge rma n =>
    if rma then ({ s with vlt := { s.vlt with rmaNonce := some n } }).startTimer Tm.rmaNonce (60000 * msTicks)
    else ({ s with vlt := { s.vlt with dbgNonce := some n } }).startTimer Tm.dbgNonce (60000 * msTicks)
  | .openScope scope slot =>
    let s := { s with ledger := { s.ledger with debugs := s.ledger.debugs ++ [(scope, slot)] } }
    (s.setScope scope).raise Ev.VLT_DEBUG_OPEN 0x2C noInst [(2, scope), (1, slot)]
  | .reject _ => s.rejected j.op j.status
  | .rma => s
  | .attest => s.count (vltB + Ctr.VLT.ATTESTS)

/-- Write a port's result set (R379, R443): VALID, SEEN 0, the status and OUT_LEN, and the tag. -/
def State.jobResult (s : State) (p status len tag : Nat) : State :=
  let s := s.setReg (jobB p + 0x140) (BitVec.ofNat 32 (2 ^ 31 + status * 2 ^ 25 + len))
  s.setRegs (jobB p + 0x144) [BitVec.ofNat 32 (tag / 2 ^ 96), BitVec.ofNat 32 (tag / 2 ^ 64), BitVec.ofNat 32 (tag / 2 ^ 32),
    BitVec.ofNat 32 tag]

/-- A job ends (R368, R379): its counts, its result, its Escrow entries' release and VLT_JOB_DONE. -/
def State.jobEnd (s : State) (p op status len tag : Nat) : State :=
  let s := { s with vlt := { s.vlt with jobs := s.vlt.jobs.set (if p = 0 then 0 else 1) none,
                                        escrow := s.vlt.escrow.filter (· ≠ p) } }
  let s := ((s.showEscrow.keyFlush s.vlt.waits).setF (jobB p) F.JOB_CTRL.BUSY 0).jobResult p status len tag
  let s := s.count (vltB + Ctr.VLT.JOBS)
  let s := if status = 0 then s else s.count (vltB + Ctr.VLT.JOB_FAIL)
  let s := if status = 1 then s.count (vltB + Ctr.VLT.TAG_FAIL) else s
  let s := if status = 2 then s.count (vltB + Ctr.VLT.KEY_ABSENT) else s
  s.raise Ev.VLT_JOB_DONE 0x2C noInst [(1, p), (1, op), (1, status)]

/-- DST of a port (R376). -/
def State.jobDst (s : State) (p : Nat) : Nat := s.jobF p F.JOB_DST_LO.ADDR + s.jobF p F.JOB_DST_HI.ADDR * 2 ^ 32

/-- Write bytes to DST in blocks of 16 KiB (R378): host memory for port 0, Steward memory for port 1 (R376). -/
def State.jobWrite (s : State) (p : Nat) (bs : List Byte) : State :=
  (List.range (ceilDiv bs.length 16384)).foldl (fun s i =>
    let a := s.jobDst p + 16384 * i
    let blk := (bs.drop (16384 * i)).take 16384
    s.emit (if p = 0 then .hostWrite a blk else .stewardWrite a blk)) s

/-- The blocks a job had written when a mismatch ends it with FAULT (R378): GCM_DEC and the operations whose output is a digest
or a report write only at their end; of the others any number of blocks is out. -/
def State.faultBlocks (s : State) (p : Nat) : State :=
  match s.job p with
  | none => s
  | some j =>
    if j.op = 1 ∨ j.op = 3 then
      let (s, r) := s.takeFree
      s.jobWrite p (j.dst.take (16384 * (r % (ceilDiv j.dst.length 16384 + 1))))
    else s

/-- A job as it completes: an owner command's further condition is met when its fuse is blown, so another command that came
first may have taken it (R362). -/
def State.jobNow (s : State) (j : Job) : Job :=
  match j.eff with
  | .owner cmd t signer value => if j.status = 0 then { j with status := s.ownerStatus cmd t signer value } else j
  | _ => j

/-- Whether a job's effect writes fuses or the Ledger: it waits out a sag (R496). -/
def Job.nonvolatile (j : Job) : Bool :=
  match j.eff with
  | .owner _ _ _ _ => decide (j.status = 0)
  | .openScope _ _ => true
  | .rma => true
  | _ => false

/-- VLT_JOB_COMPLETE (R379): a request of host port 0 that failed on the bus after so many bytes of DST ends the job with
BUS_ERR (R448). -/
def execVltJobComplete (p : Fin 2) (busErr : Option Nat) (s : State) : Host.Outcome State Fault Refusal :=
  .next (s.onLive 0x2C fun s => match s.job p.val with
    | none => s
    | some j =>
      let j := s.jobNow j
      if s.sagging && j.nonvolatile then s
      else match (if p.val = 0 then busErr else none) with
        | some k =>
          let k := min k j.dst.length
          (s.jobWrite p.val (j.dst.take k)).jobEnd p.val j.op 8 k 0
        | none =>
          let s := ((s.jobWrite p.val j.dst).jobEffect j).jobEnd p.val j.op j.status j.dst.length j.tag
          if j.eff = .rma then ({ s with ledger := { s.ledger with marker := true } }).rmaSteps.reboot else s)

/-! ### The start of a job (R376, R377) -/

/-- A write of JOB_CTRL: GO clears the result set and starts the job, unless one runs; an OP not listed or a LEN above its
limit ends it at once. -/
def State.wrJobCtrl (s : State) (p v : Nat) (src : List Byte) : State :=
  let b := jobB p
  let op := F.JOB_CTRL.OP.of v
  let mode := F.JOB_CTRL.IV_MODE.of v
  let slot := F.JOB_CTRL.SLOT.of v
  let go := decide (F.JOB_CTRL.GO.of v = 1)
  if go && s.bit b F.JOB_CTRL.BUSY then s
  else
    let s := ((s.setF b F.JOB_CTRL.OP op).setF b F.JOB_CTRL.IV_MODE mode).setF b F.JOB_CTRL.SLOT slot
    if !go then s
    else
      let s := (s.setRegs (b + 0x140) [0, 0, 0, 0, 0]).setF b F.JOB_CTRL.BUSY 1
      let (s, j) := s.jobRun p op mode slot (bytesAt src 0 (s.jobF p F.JOB_LEN.LEN))
      let now := jobLenStatus op (s.jobF p F.JOB_LEN.LEN)
      let s := { s with vlt := { s.vlt with jobs := s.vlt.jobs.set (if p = 0 then 0 else 1) (some j) } }
      if now = 0 then s else s.jobEnd p op now 0 0

/-- The value of JOB_CTRL that starts an operation. -/
def jobCtrl (op ivMode slot : Nat) : Nat := 2 ^ 31 + op * 65536 + ivMode * 2 ^ 14 + slot

/-- A master starts a job of an OP at a port. -/
def State.jobGo (s : State) (m : Master) (p op : Nat) (ivMode : BitVec 2) (slot : BitVec 10) (src : List Byte) : State :=
  s.onVlt m p (jobB p + 0x100) fun s => s.wrJobCtrl p (jobCtrl op ivMode.toNat slot.toNat) src

/-- JOB_GCM_ENC (R377, R380): OP 0x01. -/
def execJobGcmEnc (m : Master) (p : Fin 2) (ivMode : BitVec 2) (slot : BitVec 10) (src : List Byte) (s : State) :
    Host.Outcome State Fault Refusal := .next (s.jobGo m p.val 0x01 ivMode slot src)

/-- JOB_GCM_DEC (R377, R378): OP 0x02. -/
def execJobGcmDec (m : Master) (p : Fin 2) (ivMode : BitVec 2) (slot : BitVec 10) (src : List Byte) (s : State) :
    Host.Outcome State Fault Refusal := .next (s.jobGo m p.val 0x02 ivMode slot src)

/-- JOB_CTR (R377): OP 0x03. -/
def execJobCtr (m : Master) (p : Fin 2) (ivMode : BitVec 2) (slot : BitVec 10) (src : List Byte) (s : State) :
    Host.Outcome State Fault Refusal := .next (s.jobGo m p.val 0x03 ivMode slot src)

/-- JOB_CMAC (R377): OP 0x04. -/
def execJobCmac (m : Master) (p : Fin 2) (ivMode : BitVec 2) (slot : BitVec 10) (src : List Byte) (s : State) :
    Host.Outcome State Fault Refusal := .next (s.jobGo m p.val 0x04 ivMode slot src)

/-- JOB_SHA384 (R377): OP 0x05. -/
def execJobSha384 (m : Master) (p : Fin 2) (ivMode : BitVec 2) (slot : BitVec 10) (src : List Byte) (s : State) :
    Host.Outcome State Fault Refusal := .next (s.jobGo m p.val 0x05 ivMode slot src)

/-- JOB_HMAC_SHA384 (R377): OP 0x06. -/
def execJobHmacSha384 (m : Master) (p : Fin 2) (ivMode : BitVec 2) (slot : BitVec 10) (src : List Byte) (s : State) :
    Host.Outcome State Fault Refusal := .next (s.jobGo m p.val 0x06 ivMode slot src)

/-- JOB_ECDSA_VERIFY (R377): OP 0x07. -/
def execJobEcdsaVerify (m : Master) (p : Fin 2) (ivMode : BitVec 2) (slot : BitVec 10) (src : List Byte) (s : State) :
    Host.Outcome State Fault Refusal := .next (s.jobGo m p.val 0x07 ivMode slot src)

/-- JOB_RANDOM (R371, R377): OP 0x08. -/
def execJobRandom (m : Master) (p : Fin 2) (ivMode : BitVec 2) (slot : BitVec 10) (s : State) :
    Host.Outcome State Fault Refusal := .next (s.jobGo m p.val 0x08 ivMode slot [])

/-- JOB_KEY_GEN (R372, R377): OP 0x09. -/
def execJobKeyGen (m : Master) (p : Fin 2) (ivMode : BitVec 2) (slot : BitVec 10) (s : State) :
    Host.Outcome State Fault Refusal := .next (s.jobGo m p.val 0x09 ivMode slot [])

/-- JOB_KDF (R377): OP 0x0A. -/
def execJobKdf (m : Master) (p : Fin 2) (ivMode : BitVec 2) (slot : BitVec 10) (src : List Byte) (s : State) :
    Host.Outcome State Fault Refusal := .next (s.jobGo m p.val 0x0A ivMode slot src)

/-- JOB_UNWRAP (R377): OP 0x0B. -/
def execJobUnwrap (m : Master) (p : Fin 2) (ivMode : BitVec 2) (slot : BitVec 10) (src : List Byte) (s : State) :
    Host.Outcome State Fault Refusal := .next (s.jobGo m p.val 0x0B ivMode slot src)

/-- JOB_ATTEST (R360): OP 0x0C. -/
def execJobAttest (m : Master) (p : Fin 2) (ivMode : BitVec 2) (slot : BitVec 10) (src : List Byte) (s : State) :
    Host.Outcome State Fault Refusal := .next (s.jobGo m p.val 0x0C ivMode slot src)

/-- JOB_CERT (R359): OP 0x0D. -/
def execJobCert (m : Master) (p : Fin 2) (ivMode : BitVec 2) (slot : BitVec 10) (s : State) :
    Host.Outcome State Fault Refusal := .next (s.jobGo m p.val 0x0D ivMode slot [])

/-- JOB_OWNER_CMD (R362): OP 0x0E. -/
def execJobOwnerCmd (m : Master) (p : Fin 2) (ivMode : BitVec 2) (slot : BitVec 10) (src : List Byte) (s : State) :
    Host.Outcome State Fault Refusal := .next (s.jobGo m p.val 0x0E ivMode slot src)

/-- JOB_DEBUG_CHAL (R363): OP 0x0F. -/
def execJobDebugChal (m : Master) (p : Fin 2) (ivMode : BitVec 2) (slot : BitVec 10) (s : State) :
    Host.Outcome State Fault Refusal := .next (s.jobGo m p.val 0x0F ivMode slot [])

/-- JOB_DEBUG_RESP (R363, R364): OP 0x10. -/
def execJobDebugResp (m : Master) (p : Fin 2) (ivMode : BitVec 2) (slot : BitVec 10) (src : List Byte) (s : State) :
    Host.Outcome State Fault Refusal := .next (s.jobGo m p.val 0x10 ivMode slot src)

/-- JOB_RMA_CHAL (R365): OP 0x12. -/
def execJobRmaChal (m : Master) (p : Fin 2) (ivMode : BitVec 2) (slot : BitVec 10) (s : State) :
    Host.Outcome State Fault Refusal := .next (s.jobGo m p.val 0x12 ivMode slot [])

/-- JOB_RMA_RESP (R365): OP 0x11. -/
def execJobRmaResp (m : Master) (p : Fin 2) (ivMode : BitVec 2) (slot : BitVec 10) (src : List Byte) (s : State) :
    Host.Outcome State Fault Refusal := .next (s.jobGo m p.val 0x11 ivMode slot src)

/-- JOB_BAD_OP (R377): an OP not listed, or a LEN above its OP's limit. -/
def execJobBadOp (m : Master) (p : Fin 2) (op : Byte) (ivMode : BitVec 2) (slot : BitVec 10) (s : State) :
    Host.Outcome State Fault Refusal := .next (s.jobGo m p.val op.toNat ivMode slot [])

/-! ### Key commands (R367 to R369, R386) -/

/-- Show a slot's attributes: its type, use bits and the first 3 bytes of AES of the zero block, 0 for a secret (R367). -/
def State.keyStat (s : State) (p : Nat) (k : KeySlot) : State :=
  let kcv := if k.typ = 3 then 0 else aesZero k.typ k.key / 2 ^ 104 % 2 ^ 24
  s.setReg (jobB p + 0x188) (BitVec.ofNat 32 (k.typ * 2 ^ 30 + k.use % 16 * 2 ^ 26 + kcv))

/-- A write or erase is accepted: BUSY until it takes effect. -/
def State.keyAccept (s : State) (p slot : Nat) (erase : Bool) : State :=
  let key := (s.regWords (jobB p + 0x160) 8).foldl (fun n w => n * 2 ^ 32 + w.toNat) 0
  let c : KeyCmd := { erase, slot, typ := s.jobF p F.KEY_ATTR.TYPE, use := s.jobF p F.KEY_ATTR.USE, key, waited := false }
  ({ s with vlt := { s.vlt with keys := s.vlt.keys.set (if p = 0 then 0 else 1) (some c) } }).setF (jobB p) F.KEY_CMD.BUSY 1

/-- A write of KEY_CMD. -/
def State.wrKeyCmd (s : State) (p v : Nat) : State :=
  let b := jobB p
  let op := F.KEY_CMD.OP.of v
  let slot := F.KEY_CMD.SLOT.of v
  if s.bit b F.KEY_CMD.BUSY then s
  else
    let s := (s.setF b F.KEY_CMD.OP op).setF b F.KEY_CMD.SLOT slot
    if F.KEY_CMD.GO.of v = 0 ∨ op = 3 then s
    else if !s.portOwns p slot then s.setF b F.KEY_CMD.CAUSE 1
    else if op = 0 then
      if s.jobF p F.KEY_ATTR.TYPE = 0 then s.setF b F.KEY_CMD.CAUSE 2
      else (s.setF b F.KEY_CMD.CAUSE 0).keyAccept p slot false
    else match s.slot slot with
      | none => s.setF b F.KEY_CMD.CAUSE 3
      | some k =>
        let s := s.setF b F.KEY_CMD.CAUSE 0
        if op = 1 then s.keyAccept p slot true else s.keyStat p k

/-- The value of KEY_CMD that starts an operation on a slot. -/
def keyCmd (op slot : Nat) : Nat := 2 ^ 31 + op * 65536 + slot

/-- KEY_WRITE (R367): OP 00. -/
def execKeyWrite (m : Master) (p : Fin 2) (slot : BitVec 10) (s : State) : Host.Outcome State Fault Refusal :=
  .next (s.onVlt m p.val (jobB p.val + 0x180) fun s => s.wrKeyCmd p.val (keyCmd 0 slot.toNat))

/-- KEY_ERASE (R368): OP 01. -/
def execKeyErase (m : Master) (p : Fin 2) (slot : BitVec 10) (s : State) : Host.Outcome State Fault Refusal :=
  .next (s.onVlt m p.val (jobB p.val + 0x180) fun s => s.wrKeyCmd p.val (keyCmd 1 slot.toNat))

/-- KEY_READ_ATTR (R367): OP 10. -/
def execKeyReadAttr (m : Master) (p : Fin 2) (slot : BitVec 10) (s : State) : Host.Outcome State Fault Refusal :=
  .next (s.onVlt m p.val (jobB p.val + 0x180) fun s => s.wrKeyCmd p.val (keyCmd 2 slot.toNat))

/-- A port's key write or erase takes effect (R367, R368); KEY_IN is zeroed with a write. -/
def State.keyApply (s : State) (p : Nat) (c : KeyCmd) : State :=
  let s := { s with vlt := { s.vlt with keys := s.vlt.keys.set (if p = 0 then 0 else 1) none } }
  let s := s.setF (jobB p) F.KEY_CMD.BUSY 0
  let s := if c.erase then s else s.setRegs (jobB p + 0x160) [0, 0, 0, 0, 0, 0, 0, 0]
  s.keyNow { erase := c.erase, slot := c.slot, typ := c.typ, use := c.use, key := c.key, op := b2n c.erase, src := 0 }

/-- KEY_CMD_COMPLETE (R368): with Escrow full and an entry needed the command waits, which counts and raises
VLT_ESCROW_FULL once. -/
def execKeyCmdComplete (p : Fin 2) (s : State) : Host.Outcome State Fault Refusal :=
  .next (s.onLive 0x2C fun s => match s.vlt.keys.get p with
    | none => s
    | some c =>
      if !s.escrowRoom c.slot then
        if c.waited then s
        else
          let s := { s with vlt := { s.vlt with keys := s.vlt.keys.set p (some { c with waited := true }) } }
          (s.count (vltB + Ctr.VLT.ESCROW_WAITS)).raise Ev.VLT_ESCROW_FULL 0x2C noInst [(2, c.slot)]
      else s.keyApply p.val c)

/-- SLOT_ECC_ERROR (R369): the slot is erased. -/
def execSlotEccError (slot : BitVec 10) (s : State) : Host.Outcome State Fault Refusal :=
  .next (s.onLive 0x2C fun s => ((s.setSlot slot.toNat none).count (vltB + Ctr.VLT.KEY_LOST)).vaultFault none 1 slot.toNat)

/-! ### The Mint, nonces and the debug scope -/

/-- MINT_HEALTH_FAIL (R371): the failing test is the repetition count or the adaptive proportion. -/
def execMintHealthFail (adaptive : Bool) (s : State) : Host.Outcome State Fault Refusal :=
  .next (s.onLive 0x2C fun s => let s := (s.setMint 2).count (vltB + Ctr.VLT.MINT_HEALTH_FAIL)
    s.raise Ev.VLT_MINT_FAIL 0x2C noInst [(1, b2n adaptive)])

/-- The start-up tests are run again (R371). -/
def State.wrMintCtrl (s : State) (v : Nat) : State :=
  if F.VLT_MINT_CTRL.RESTART.of v = 1 then s.setMint 1 else s

/-- MINT_RESTART (R371). -/
def execMintRestart (m : Master) (s : State) : Host.Outcome State Fault Refusal :=
  .next (s.onWrite m (vltB + 0x10) fun s => s.wrMintCtrl (2 ^ 31))

/-- MINT_RESTART_DONE (R371): OK when the tests pass, else FAIL. -/
def execMintRestartDone (pass : Bool) (s : State) : Host.Outcome State Fault Refusal :=
  .next (s.onLive 0x2C fun s => if s.fld vltB F.VLT_STAT.MINT ≠ 1 then s
    else if pass then (s.setMint 0).mintReseed else s.setMint 2)

/-- MINT_RESEED_EXPIRY (R46, R372): 100 ms have passed since the last reseed; in FAIL nothing reseeds. The Mint works from
Assay on, before the Vault's island is live. -/
def execMintReseedExpiry (s : State) : Host.Outcome State Fault Refusal :=
  .next (if s.live 0x2C || decide (s.stage < 0xA) then s.expire Tm.mint fun s => if s.mintOk then s.mintReseed else s else s)

/-- NONCE_EXPIRY (R363, R365): a nonce is held for 60 s. -/
def execNonceExpiry (rma : Bool) (s : State) : Host.Outcome State Fault Refusal :=
  .next (s.onLive 0x2C fun s => if rma then s.expire Tm.rmaNonce fun s => { s with vlt := { s.vlt with rmaNonce := none } }
    else s.expire Tm.dbgNonce fun s => { s with vlt := { s.vlt with dbgNonce := none } })

/-- A write of VLT_DBG_CTRL (R363). -/
def State.wrDbgCtrl (s : State) (v : Nat) : State := if F.VLT_DBG_CTRL.CLOSE.of v = 1 then s.setScope 0 else s

/-- DEBUG_CLOSE (R363). -/
def execDebugClose (m : Master) (s : State) : Host.Outcome State Fault Refusal :=
  .next (s.onWrite m (vltB + 0x20) fun s => s.wrDbgCtrl (2 ^ 31))

end Sys2Proof.Machine
end

