-- ==== Sys2Proof/Machine/Steward.lean ====
section
/-! DEFINITION. The Steward (R392 to R413): the flash, firmware verification, its states and restarts, switching, the mailboxes,
what its OMCI agents send, and copies of work items. -/

namespace Sys2Proof.Machine

def Tm.stwReady : Nat := 0x70010
def Tm.stwWdog : Nat := 0x70011
def Tm.stwGrace : Nat := 0x70012
def Tm.omciHost : Nat := 0x70013

/-! ### The flash (R56, R57, R398, R399, R496) -/

/-- Where a Passbook copy begins in the flash (R56). -/
def pbBase (k : Nat) : Nat := k * 0x01000000

/-- Where a firmware copy begins in the flash (R56, R393). -/
def fwBase (k : Nat) : Nat := 0x02000000 + k * 0x00800000

/-- Where the Steward's data store begins in the flash (R399). -/
def storeBase : Nat := 0x03000000

/-- Put bytes into the flash's cells from an offset on. -/
def putFlash (m : SMap (Option Byte)) (a : Nat) : List Byte → SMap (Option Byte)
  | [] => m
  | b :: bs => putFlash (SMap.set (fun _ => none) m a (some b)) (a + 1) bs

/-- A program or erase in progress finishes. -/
def State.flashSettle (s : State) : State :=
  match s.flash.busy with
  | none => s
  | some (a, bs) => { s with flash := { s.flash with cells := putFlash s.flash.cells a bs, busy := none } }

/-- A program or erase in progress stops after as many of its bytes as a free value says (R399, R496, log 179). -/
def State.flashCut (s : State) : State :=
  match s.flash.busy with
  | none => s
  | some (a, bs) =>
    let (s, k) := s.takeFree
    { s with flash := { s.flash with cells := putFlash s.flash.cells a (bs.take (k % (bs.length + 1))), busy := none } }

/-- A program or erase begins once the one before has finished; none begins under a sag (R399, R496). -/
def State.flashStart (s : State) (a : Nat) (bs : List Byte) : State :=
  if s.sagging then s
  else
    let s := s.flashSettle
    { s with flash := { s.flash with busy := some (a, bs) } }

/-- What the flash reads from an offset on, where `bs` is what the board put there. -/
def State.flashRead (s : State) (a : Nat) (bs : List Byte) : List Byte :=
  if s.flash.cells.isEmpty then bs
  else bs.zipIdx.map fun x => (SMap.get (fun _ => none) s.flash.cells (a + x.2)).getD x.1

/-! ### Firmware images (R393, R394) -/

/-- A little-endian number in an image. -/
def imgLe (bs : List Byte) (off n : Nat) : Nat := leNat (bytesAt bs off n)

/-- Whether a signature block is in order (R63): its MAGIC, ALG and zero bytes. -/
def sigBlockOk (bs : List Byte) (at_ : Nat) : Bool :=
  decide (imgLe bs at_ 4 = 0x4E474953) && decide (imgLe bs (at_ + 4) 1 = 1) && decide (imgLe bs (at_ + 6) 2 = 0) &&
    decide (imgLe bs (at_ + 200) 56 = 0)

/-- The stepping, coded as AON_PART_ID[15:8]. -/
def State.stepping (s : State) : Nat := bits (s.reg aonB).toNat 15 8

/-- The fail code of a firmware copy, 0 when it verifies (R394). -/
def State.fwCode (s : State) (img : Option (List Byte)) : Nat :=
  match img with
  | none => 0xB
  | some bs =>
    let len := imgLe bs 8 4
    let sig := len - 256
    if imgLe bs 0 4 ≠ 0x57535453 ∨ imgLe bs 4 2 ≠ 1 ∨ imgLe bs 6 2 ≠ 0x40 ∨ imgLe bs 0x3C 4 ≠ crc32c (bytesAt bs 0 0x3C) ∨
        imgLe bs 0x17 1 ≠ 0 then 1
    else if imgLe bs 0x14 2 ≠ 0x9648 ∨ s.stepping < imgLe bs 0x16 1 then 2
    else if len < 320 ∨ 2 ^ 23 < len ∨ imgLe bs 0xC 4 < 0x40 ∨ sig ≤ imgLe bs 0xC 4 ∨ sigBlockOk bs sig = false ∨
        imgLe bs (sig + 5) 1 ≠ 0xFF then 3
    else if sha384 (bytesAt bs (sig + 8) 96) ≠ Config.fwKeyHash then 6
    else if ecdsaOk (bytesAt bs (sig + 8) 96) (sha384 (bytesAt bs 0 sig)) (bytesAt bs (sig + 104) 96) = false then 7
    else if imgLe bs 0x10 4 < s.fld stwB F.STW_FW_FLOOR.FLOOR then 8
    else 0

/-! ### States (R395, R396) -/

/-- STW_STAT.STATE: 0 LOAD, 1 RUN, 2 RESTART, 3 DOWN. -/
def State.stwState (s : State) : Nat := s.fld stwB F.STW_STAT.STATE

/-- The state changes (R396): STW_STATE is raised, with a cause the spec gives no codes for, and INH bit 2 follows DOWN. -/
def State.stwGo (s : State) (new : Nat) : State :=
  let old := s.stwState
  if old = new then s
  else
    let s := s.setF stwB F.STW_STAT.STATE new
    let (s, cause) := s.takeFree
    let s := s.raise Ev.STW_STATE 0x3F noInst [(1, old), (1, new), (1, cause)]
    (s.setInh 0 2 (decide (new = 3))).setInh 1 2 (decide (new = 3))

/-- Restarts in the last 60 s. -/
def State.recentRestarts (s : State) : List Nat := s.stw.restarts.filter fun t => decide (s.now < t + 60000 * msTicks)

/-- The core is reset and a copy loaded (R395, R396): what the firmware was about is lost. -/
def State.stwLoad (s : State) (copy : Nat) : State :=
  let s := (s.setF stwB F.STW_READY.READY 0).setF stwB F.STW_STAT.VERIFYING 0
  let s := { s with stw := { s.stw with copy, starting := false, verify := none, fwHash := 0, waitHost := none, mbWait := [],
                                        todArm := ⟨false, false⟩, download := none } }
  ((s.stopTimer Tm.stwReady).stopTimer Tm.stwWdog).stopTimer Tm.omciHost

/-- RESTART is entered, and GRACE runs (R396). -/
def State.stwRestarting (s : State) (copy failed : Nat) : State :=
  let s := s.stwLoad copy
  let s := { s with stw := { s.stw with failed } }
  (s.stwGo 2).startTimer Tm.stwGrace (max 1 (s.fld stwB F.STW_CFG.GRACE) * msTicks)

/-- The running firmware restarts (R396): on the same copy, or on the other at the third restart within 60 s. -/
def State.stwRestart (s : State) : State :=
  if s.stwState ≠ 1 then s
  else
    let l := s.recentRestarts ++ [s.now]
    let s := ({ s with stw := { s.stw with restarts := l } }).count (stwB + Ctr.STW.RESTARTS)
    let s := s.setF stwB F.STW_STAT.RESTARTS (min 255 l.length)
    s.stwRestarting (if 3 ≤ l.length then 1 - s.stw.copy else s.stw.copy) 0

/-- AON records a drain (R499). -/
def State.drainRecord (s : State) (id cause n : Nat) : State :=
  let n := min 0xFFFF n
  let s := (s.setF aonB F.AON_FAULT_LAST.ISL id).setF aonB F.AON_FAULT_LAST.CAUSE cause
  let s := (s.setF aonB F.AON_FAULT_LAST.DISCARDED n).count (aonB + Ctr.AON.DRAINS)
  s.raise Ev.ISL_FAULT 0x00 noInst [(1, id), (1, cause), (2, n)]

/-- What the firmware has in hand: a request that waits for the host, and one that waits for a verification. -/
def State.stwInFlight (s : State) : Nat := b2n s.stw.waitHost.isSome + b2n s.stw.download.isSome

/-- A watchdog expiry or STW_CTRL.RESTART (R396): STW is drained as by the fault rule, with a cause the spec gives no code for
(log 178), and its core restarts. -/
def State.stwDrain (s : State) : State :=
  if s.stwState ≠ 1 then s
  else
    let (s, c) := s.takeFree
    let s := if s.draining.contains 0x3F then s
      else { s.drainRecord 0x3F (c % 4) s.stwInFlight with draining := s.draining ++ [0x3F] }
    s.stwRestart

/-- The inputs held for the Steward are discarded (R396). -/
def State.stwForget (s : State) : State :=
  let s := s.setPn 0 { s.pn 0 with stwPloam := [], omciIn := [] }
  s.setPn 1 { s.pn 1 with stwPloam := [], omciIn := [] }

/-- Both copies have failed: STW is dark (R48, R396). -/
def State.stwDark (s : State) : State :=
  let s := s.stwForget.stwGo 3
  let s := { s with stw := { s.stw with starting := false, fwHash := 0 } }
  let s := if s.stage = 8 then s.setF aonB F.AON_BOOT_STAT.STW_DOWN 1 else s
  ((s.stopTimer Tm.stwReady).stopTimer Tm.stwGrace).setLive 0x3F false

/-- A copy fails with a code (R48, R394 to R396): its code is recorded, and the other copy is loaded unless it has failed
too. Stage STEWARD raises STW_FW_FAIL. -/
def State.fwFail (s : State) (code : Nat) : State :=
  let k := s.stw.copy
  let other := !s.stw.failed.testBit (1 - k)
  let s := { s with stw := { s.stw with failed := Nat.lor s.stw.failed (2 ^ k) } }
  let s := s.setF aonB (if k = 0 then F.AON_BOOT_FAIL.FAIL_FW_A else F.AON_BOOT_FAIL.FAIL_FW_B) code
  let s := s.setF stwB F.STW_STAT.LAST_FAIL code
  let s := if s.stage = 8 then s.raise Ev.STW_FW_FAIL 0x00 noInst [(1, k), (1, code), (1, b2n other)] else s
  if other then s.stwLoad (1 - k) else s.stwDark

/-- A verified copy is loaded and started (R395). -/
def State.fwStart (s : State) (bs : List Byte) : State :=
  let s := s.setLive 0x3F true
  let s := { s with stw := { s.stw with starting := true, fwHash := sha384 (bytesAt bs 0 (imgLe bs 8 4 - 256)) } }
  s.startTimer Tm.stwReady (150 * msTicks)

/-- The result of a verification is kept for the software images' entities (R401). -/
def State.fwSeen (s : State) (k code : Nat) (img : Option (List Byte)) : State :=
  let v := Nat.lor s.stw.valid (2 ^ k) - (if code = 0 then 0 else 2 ^ k)
  { s with stw := { s.stw with
      valid := v
      floors := SMap.set (fun _ => 0) s.stw.floors k (if code = 0 then imgLe (img.getD []) 0x18 4 else 0) } }

/-- Whether the loader loads a copy to run: at stage STEWARD, in RESTART, and in DOWN while STW is not dark. -/
def State.fwLoading (s : State) : Bool :=
  !s.stw.starting && (decide (s.stwState = 2) || (decide (s.stwState = 0) && decide (s.stage = 8)) ||
    (decide (s.stwState = 3) && s.live 0x3F))

/-- Held inputs are delivered in arrival order (R396): PLOAM messages are answered, OMCC SDUs go to the agent's queue. -/
def State.stwDeliver (s : State) (c : Nat) : State :=
  let l := (s.pn c).stwPloam
  let s := s.setPn c { s.pn c with stwPloam := [] }
  l.foldl (fun s x => s.stewardPloam c (decide (x.1 = 1)) x.2) s

/-- Start the watchdog where WDOG is not 0 (R397). -/
def State.kickWdog (s : State) : State :=
  let w := s.fld stwB F.STW_CFG.WDOG
  if w = 0 then s.stopTimer Tm.stwWdog else s.startTimer Tm.stwWdog (w * msTicks)

/-- The firmware is ready (R395, R396). -/
def State.stwReady (s : State) : State :=
  if !s.stw.starting then s
  else
    let k := s.stw.copy
    let s := { s with stw := { s.stw with starting := false } }
    let s := ((s.setF stwB F.STW_READY.READY 1).setF stwB F.STW_STAT.FW_COPY k).setF aonB F.AON_BOOT_STAT.FW_COPY k
    let s := ((s.stopTimer Tm.stwReady).stopTimer Tm.stwGrace).kickWdog
    let was := s.stwState
    let s := s.stwGo 1
    if was = 2 then (s.stwDeliver 0).stwDeliver 1 else s

/-- STW_READY_WRITE (R395, R397): a write from the host is discarded. -/
def execStwReadyWrite (m : Master) (s : State) : Host.Outcome State Fault Refusal :=
  .next (s.onWrite m (stwB + 0x08) fun s => if m = .steward then s.stwReady else s)

/-- STW_READY_TIMEOUT (R395): fail code 0xC. -/
def execStwReadyTimeout (s : State) : Host.Outcome State Fault Refusal :=
  .next (s.expire Tm.stwReady fun s => s.fwFail 0xC)

/-- STW_WDOG_KICK (R397): a write from the host is discarded. -/
def execStwWdogKick (m : Master) (s : State) : Host.Outcome State Fault Refusal :=
  .next (s.onWrite m (stwB + 0x10) fun s => if m = .steward && decide (s.stwState = 1) then s.kickWdog else s)

/-- STW_WDOG_EXPIRY (R397). -/
def execStwWdogExpiry (s : State) : Host.Outcome State Fault Refusal :=
  .next (s.expire Tm.stwWdog fun s =>
    let s := s.count (stwB + Ctr.STW.WDOG_EXP)
    let s := s.raise Ev.STW_WDOG 0x3F noInst [(1, s.stw.copy), (1, s.recentRestarts.length)]
    s.stwDrain)

/-- A write of STW_CFG: WDOG acts from the write on. -/
def State.wrStwCfg (s : State) (v : Nat) : State :=
  let s := s.store (stwB + 0x0C) v
  if s.stwState = 1 then s.kickWdog else s

/-- A write of STW_CTRL (R396, R398). -/
def State.wrStwCtrl (s : State) (v : Nat) : State :=
  if F.STW_CTRL.KEY.of v ≠ 0xA5C3 then s
  else
    let s := if F.STW_CTRL.RESTART.of v = 1 then s.stwDrain else s
    if F.STW_CTRL.SWITCH.of v = 0 ∨ s.stwState ≠ 1 ∨ s.stw.verify.isSome = true then s
    else
      let s := { s with stw := { s.stw with verify := some (F.STW_CTRL.TARGET.of v, decide (F.STW_CTRL.VERIFY_ONLY.of v = 1)) } }
      s.setF stwB F.STW_STAT.VERIFYING 1

/-- STW_RESTART_CMD (R396). -/
def execStwRestartCmd (m : Master) (key : BitVec 16) (s : State) : Host.Outcome State Fault Refusal :=
  .next (s.onWrite m stwB fun s => s.wrStwCtrl (key.toNat * 65536 + 2))

/-- STW_SWITCH_CMD (R398). -/
def execStwSwitchCmd (m : Master) (key : BitVec 16) (target verifyOnly : Bool) (s : State) :
    Host.Outcome State Fault Refusal :=
  .next (s.onWrite m stwB fun s => s.wrStwCtrl (key.toNat * 65536 + b2n target * 256 + b2n verifyOnly * 4 + 1))

/-- STW_GRACE_EXPIRY (R396): held inputs are discarded, and loading continues. -/
def execStwGraceExpiry (s : State) : Host.Outcome State Fault Refusal :=
  .next (s.expire Tm.stwGrace fun s =>
    if s.stwState ≠ 2 then s else s.stwForget.stwGo 3)

/-! ### What the OMCI agents send (R121, R400, R407) -/

/-- The key of a channel's OMCI MICs: its OMCI_IK slot, where it holds a key (R370, R400). -/
def State.omciKey (s : State) (c : Nat) : Option Nat :=
  (s.slot ((s.fld vltB (if c = 0 then F.VLT_PON_SLOTS.PCA_BASE else F.VLT_PON_SLOTS.PCB_BASE) + 2) % 1024)).map (·.key)

/-- The 32-bit MIC of an OMCI message: the first quarter of the CMAC over its direction, 1 downstream and 2 upstream, and its bytes
(log 180). -/
def omciMicOf (key dir : Nat) (bytes : List Byte) : Nat := cmac 1 key (BitVec.ofNat 8 dir :: bytes) / 2 ^ 96

/-- Whether the last 4 bytes of a request are its MIC. -/
def State.omciMicOk (s : State) (c : Nat) (raw : List Byte) : Bool :=
  match s.omciKey c with
  | none => false
  | some k => decide (4 ≤ raw.length) &&
      decide (beNat (raw.drop (raw.length - 4)) = omciMicOf k 1 (raw.take (raw.length - 4)))

/-- The OMCI agent offers an SDU upstream with its MIC (R120, R121, R400): it is discarded and counted where the channel's OMCC is
an OSP's or is not valid; without a key there is no MIC, and nothing is offered. -/
def State.omciSend (s : State) (c : Nat) (data : List Byte) : State :=
  match s.omciKey c with
  | none => s
  | some k =>
    if s.bit (pnB c) F.PN_OSP_CFG.OMCI_OSP = true ∨ s.bit (pnB c) F.PN_OMCC.VALID = false then s.pCount c Ctr.PN.OSP_US_DROP
    else
      let (s, n) := s.newN c
      let p := s.pn c
      let sdu : OmccSdu := { n, osp := false, data := data ++ beBytes 4 (omciMicOf k 2 data) }
      (s.setPn c { p with omccUp := p.omccUp ++ [sdu] }).count (stwB + Ctr.STW.OMCI_TX)

/-- The agent answers a request with a result code and the values it reports. -/
def State.omciReply (s : State) (c : Nat) (req : List Byte) (code : Nat) (vals : List Nat) : State :=
  s.omciSend c (Config.omciReply code vals req)

/-- The agent answers a request with a result code. -/
def State.omciAnswer (s : State) (c : Nat) (req : List Byte) (code : Nat) : State := s.omciReply c req code []

/-- The request that waits for the host is answered (R407). -/
def State.omciHostDone (s : State) (code : Nat) : State :=
  match s.stw.waitHost with
  | none => s
  | some (c, req) =>
    (({ s with stw := { s.stw with waitHost := none } }).stopTimer Tm.omciHost).omciAnswer c req code

/-- OMCI_HOST_ACK_TIMEOUT (R407): the OLT is answered device busy. -/
def execOmciHostAckTimeout (s : State) : Host.Outcome State Fault Refusal :=
  .next (s.expire Tm.omciHost fun s => s.omciHostDone 6)

/-! ### The end of a verification (R394, R398, R401) -/

/-- The End download that waits for a verification is answered with its outcome (R401, log 181). -/
def State.downloadEnds (s : State) (code : Nat) : State :=
  match s.stw.download with
  | none => s
  | some (c, req) => { s with stw := { s.stw with download := none } }.omciAnswer c req (if code = 0 then 0 else 1)

/-- A SWITCH has verified its target (R398); the End download that started it is answered (R401): a copy that fails with the
result code for a processing error (log 181). -/
def State.switchVerified (s : State) (target : Nat) (only : Bool) (code : Nat) : State :=
  let s := { s.setF stwB F.STW_STAT.VERIFYING 0 with stw := { s.stw with verify := none } }
  let s := s.raise Ev.STW_FW_SWITCH 0x3F noInst [(1, target), (1, code), (1, b2n only)]
  let s := s.downloadEnds code
  if code ≠ 0 then
    let s := s.setF aonB (if target = 0 then F.AON_BOOT_FAIL.FAIL_FW_A else F.AON_BOOT_FAIL.FAIL_FW_B) code
    (s.setF stwB F.STW_STAT.LAST_FAIL code).count (stwB + Ctr.STW.SWITCH_FAIL)
  else if only then s
  else s.stwRestarting target 0

/-- FW_VERIFY_DONE (R394, R398): the bytes the board put into the copy that SWITCH names or that is being loaded, none where the
flash does not answer; the loader has waited for any program or erase. -/
def execFwVerifyDone (image : Option (List Byte)) (s : State) : Host.Outcome State Fault Refusal :=
  .next (let s := s.flashSettle
    match s.stw.verify with
    | some (k, only) =>
      let img := image.map (s.flashRead (fwBase k))
      let code := s.fwCode img
      (s.fwSeen k code img).switchVerified k only code
    | none =>
      if !s.fwLoading then s
      else
        let img := image.map (s.flashRead (fwBase s.stw.copy))
        let code := s.fwCode img
        let s := s.fwSeen s.stw.copy code img
        if code = 0 then s.fwStart (img.getD []) else s.fwFail code)

/-! ### Mailboxes (R403, R407, R408) -/

/-- The Steward's message is given to the host: STW_MB_S2H with word 0. -/
def State.mbS2hGo (s : State) : State :=
  if s.bit stwB F.STW_MB_S2H_CTRL.FULL then s
  else (s.setF stwB F.STW_MB_S2H_CTRL.FULL 1).raise Ev.STW_MB_S2H 0x3F noInst [(4, (s.reg (stwB + 0x180)).toNat)]

/-- The Steward's oldest waiting message goes out once FULL is clear (R408). -/
def State.mbNext (s : State) : State :=
  match s.stw.mbWait with
  | [] => s
  | m :: t =>
    if s.bit stwB F.STW_MB_S2H_CTRL.FULL then s
    else ({ s with stw := { s.stw with mbWait := t } }.setRegs (stwB + 0x180) (m ++ List.replicate (16 - m.length) 0)).mbS2hGo

/-- The Steward sends a mailbox message of a type in word 0 bits [7:0]: at once, or when the host has read the one before. What its
other words hold is the firmware's: the model puts the values there in order (log 182). -/
def State.mbSend (s : State) (typ : Nat) (words : List Nat) : State :=
  { s with stw := { s.stw with mbWait := s.stw.mbWait ++ [(typ :: words).map (BitVec.ofNat 32)] } }.mbNext

/-- A write of STW_MB_H2S_CTRL by the host, or its acknowledgement by the Steward (R407, R408): one of type 0x03 acknowledges an OMCI
change. A GO and an ACK of one write leave FULL set. -/
def State.wrMbH2s (s : State) (m : Master) (v : Nat) : State :=
  let ack := decide (F.STW_MB_H2S_CTRL.ACK.of v = 1) && decide (m = .steward) && s.bit stwB F.STW_MB_H2S_CTRL.FULL
  let done := ack && decide (s.fld stwB ⟨0x100, 7, 0⟩ = 3)
  let s := if ack then s.setF stwB F.STW_MB_H2S_CTRL.FULL 0 else s
  let s := if done then s.omciHostDone 0 else s
  if F.STW_MB_H2S_CTRL.GO.of v = 1 ∧ m = .host then s.setF stwB F.STW_MB_H2S_CTRL.FULL 1 else s

/-- A write of STW_MB_S2H_CTRL by the Steward, or its acknowledgement by the host. -/
def State.wrMbS2h (s : State) (m : Master) (v : Nat) : State :=
  let s := if F.STW_MB_S2H_CTRL.ACK.of v = 1 ∧ m = .host then (s.setF stwB F.STW_MB_S2H_CTRL.FULL 0).mbNext else s
  if F.STW_MB_S2H_CTRL.GO.of v = 1 ∧ m = .steward then s.mbS2hGo else s

/-- A write of a mailbox's DATA word: discarded while the direction is FULL, and from the reader. -/
def State.wrMbData (s : State) (m : Master) (a v : Nat) : State :=
  let h2s := decide (a < stwB + 0x180)
  if s.bit stwB (if h2s then F.STW_MB_H2S_CTRL.FULL else F.STW_MB_S2H_CTRL.FULL) || (decide (m = .host) != h2s) then s
  else s.store a v

/-- MAILBOX_H2S_GO (R408): the host's GO. -/
def execMailboxH2sGo (s : State) : Host.Outcome State Fault Refusal :=
  .next (s.onWrite .host (stwB + 0x140) fun s => s.wrMbH2s .host (2 ^ 31))

/-- MAILBOX_S2H_GO (R408): the Steward's GO. -/
def execMailboxS2hGo (s : State) : Host.Outcome State Fault Refusal :=
  .next (s.onWrite .steward (stwB + 0x1C0) fun s => s.wrMbS2h .steward (2 ^ 31))

/-- MAILBOX_H2S_ACK (R407, R408): the Steward has read the message. -/
def execMailboxH2sAck (s : State) : Host.Outcome State Fault Refusal :=
  .next (s.onWrite .steward (stwB + 0x140) fun s => s.wrMbH2s .steward 1)

/-- MAILBOX_S2H_ACK (R408): the host has read the message. -/
def execMailboxS2hAck (s : State) : Host.Outcome State Fault Refusal :=
  .next (s.onWrite .host (stwB + 0x1C0) fun s => s.wrMbS2h .host 1)

/-! ### Copies of a delivered work item (R409, R473) -/

/-- The 16 bytes of a receive stamp in the layout of TQ_TS_HEAD0 to TQ_TS_HEAD3, VALID 0 when there is none. -/
def stampBytes (st : Option (Nat × Bool)) : List Byte :=
  match st with
  | none => leBytes 16 0
  | some (t, err) =>
    leBytes 4 (timeSec t) ++ leBytes 4 (timeSec t / 2 ^ 32 % 65536 * 65536 + timeFrac t) ++ leBytes 4 (timeNs t) ++
      leBytes 4 (2 ^ 31 + b2n err * 2 ^ 30)

/-- A write of STW_PKT_CMD, or of HST_PKT_CMD: GO copies the delivered item for the consumer that takes class 1 work. -/
def State.wrPktCmd (s : State) (host : Bool) (v : Nat) : State :=
  let b := if host then hstB + F.HST_PKT_CMD.GO.off - F.STW_PKT_CMD.GO.off else stwB
  if F.STW_PKT_CMD.GO.of v = 1 ∧ s.bit b F.STW_PKT_CMD.BUSY = true then s
  else
    let off := F.STW_PKT_CMD.OFFSET.of v
    let len := F.STW_PKT_CMD.LEN.of v
    let s := (s.setF b F.STW_PKT_CMD.OFFSET off).setF b F.STW_PKT_CMD.LEN len
    if F.STW_PKT_CMD.GO.of v = 0 then s
    else match (if decide (s.swIsland = 0x3A) = host then s.delivered else none) with
      | none => s.setF b F.STW_PKT_CMD.CAUSE 1
      | some it =>
        if it.pkt.bytes.length < off + len then s.setF b F.STW_PKT_CMD.CAUSE 2
        else
          let bs := bytesAt it.pkt.wallet 0 128 ++ stampBytes it.pkt.rxStamp ++ bytesAt it.pkt.bytes off len
          let s := (s.setF b F.STW_PKT_CMD.CAUSE 0).setF b F.STW_PKT_CMD.BUSY 1
          if host then s.emit (.hostWrite (s.fld hstB F.HST_PKT_ADDR_LO.ADDR + s.fld hstB F.HST_PKT_ADDR_HI.ADDR * 2 ^ 32) bs)
          else s.emit (.stewardWrite (s.fld stwB F.STW_PKT_DST.ADDR) bs)

/-- STW_PKT_COPY (R409): the Steward's GO. -/
def execStwPktCopy (offset len : BitVec 14) (s : State) : Host.Outcome State Fault Refusal :=
  .next (s.onWrite .steward (stwB + 0x200) fun s => s.wrPktCmd false (2 ^ 31 + offset.toNat * 2 ^ 14 + len.toNat))

/-- HST_PKT_COPY (R473): the host's GO. -/
def execHstPktCopy (offset len : BitVec 14) (s : State) : Host.Outcome State Fault Refusal :=
  .next (s.onWrite .host (hstB + 0x20) fun s => s.wrPktCmd true (2 ^ 31 + offset.toNat * 2 ^ 14 + len.toNat))

/-- PKT_COPY_DONE (R409, R473). -/
def execPktCopyDone (host : Bool) (s : State) : Host.Outcome State Fault Refusal :=
  .next (if host then s.setF hstB F.HST_PKT_CMD.BUSY 0 else s.setF stwB F.STW_PKT_CMD.BUSY 0)

end Sys2Proof.Machine
end

