-- ==== Sys2Proof/Machine/Events.lean ====
section
/-! DEFINITION. Event records and their sinks (R463 to R471), MSI-X, record reads from the Ledger (R468), software sources
(R536) and BAR0 requests that fail (R441, R442). -/

namespace Sys2Proof.Machine

def Tm.msix (v : Nat) : Nat := 0x71000 + v

/-! ### MSI-X (R440, R470, R471) -/

/-- A word of the MSI-X table: 4 to a vector; a vector's control word resets to masked. -/
def State.msixWord (s : State) (i : Nat) : Word := SMap.get (fun i => if i % 4 = 3 then 1 else 0) s.evt.msixTable i

/-- Write a word of the MSI-X table. -/
def State.setMsixWord (s : State) (i : Nat) (w : Word) : State :=
  { s with evt := { s.evt with msixTable := SMap.set (fun i => if i % 4 = 3 then 1 else 0) s.evt.msixTable i w } }

/-- Whether a vector is masked, by itself or by the function mask. -/
def State.msixMasked (s : State) (v : Nat) : Bool := s.evt.msixFuncMask || (s.msixWord (4 * v + 3)).toNat.testBit 0

/-- The host path is down (R462). -/
def State.pathDown (s : State) : Bool := s.bit hstB F.HST_STATUS.PATH_DOWN

/-- A vector's pending causes. -/
def State.msixCauses (s : State) (v : Nat) : Nat := SMap.get (fun _ => 0) s.evt.msixCauses v

/-- A vector sends its message, or sets its pending bit while it is masked (R471). -/
def State.msixSend (s : State) (v : Nat) : State :=
  let n := s.msixCauses v
  if n = 0 ∨ s.evt.msixEnable = false ∨ s.pathDown = true then s
  else if s.msixMasked v then { s with evt := { s.evt with msixPba := SMap.set (fun _ => false) s.evt.msixPba v true } }
  else
    let s := (s.emit (.msix v n)).count (hstB + Ctr.HST.MSIX_SENT)
    let s := { s with evt := { s.evt with
      msixCauses := SMap.set (fun _ => 0) s.evt.msixCauses v 0
      msixPba := SMap.set (fun _ => false) s.evt.msixPba v false } }
    s.stopTimer (Tm.msix v)

/-- A cause for a vector (R470, R471). -/
def State.msixCause (s : State) (v : Nat) : State :=
  if s.evt.msixEnable = false ∨ s.pathDown = true then s
  else
    let s := { s with evt := { s.evt with msixCauses := SMap.modify (fun _ => 0) s.evt.msixCauses v (· + 1) } }
    let t := s.fld hstB (F.HST_COAL.TIME.at (4 * v))
    if t = 0 ∨ max 1 (s.fld hstB (F.HST_COAL.CNT.at (4 * v))) ≤ s.msixCauses v then s.msixSend v
    else if s.timerOn (Tm.msix v) then s else s.startTimer (Tm.msix v) (t * usTicks)

/-- MSIX_COALESCE_EXPIRY (R471). -/
def execMsixCoalesceExpiry (v : Fin 64) (s : State) : Host.Outcome State Fault Refusal :=
  .next (s.expire (Tm.msix v.val) fun s => s.msixSend v.val)

/-- Vectors whose pending bit is set and whose masks are clear send (R471). -/
def State.msixFlush (s : State) : State :=
  (List.range 64).foldl (fun s v => if SMap.get (fun _ => false) s.evt.msixPba v then s.msixSend v else s) s

/-- MSIX_MASK_CLEAR (R471): a vector's mask, or the function's, clears. -/
def execMsixMaskClear (v : Option (Fin 64)) (s : State) : Host.Outcome State Fault Refusal :=
  .next (match v with
    | some v =>
      let i := 4 * v.val + 3
      (s.setMsixWord i (BitVec.ofNat 32 ((s.msixWord i).toNat / 2 * 2))).msixFlush
    | none => ({ s with evt := { s.evt with msixFuncMask := false } }).msixFlush)

/-! ### Records (R463 to R469) -/

/-- A record's bytes (R463). -/
def RaisedEvt.record (e : RaisedEvt) (phase : Bool) (seq : Nat) (time : Option Nat) : List Byte :=
  leBytes 2 (e.src % 1024) ++ leBytes 1 e.sev ++
    leBytes 1 (b2n phase + 2 * b2n e.boot + 4 * b2n time.isSome) ++ leBytes 1 e.island ++ leBytes 1 e.inst ++
    leBytes 2 (seq % 65536) ++ leBytes 4 (timeSec (time.getD 0)) ++ leBytes 4 (timeNs (time.getD 0)) ++ bytesAt e.payload 0 16

/-- The time a record carries: none before item 2 of R49 and for a boot event. -/
def State.evtTime (s : State) (e : RaisedEvt) : Option Nat :=
  if e.boot || !s.bit timB F.TIM_STAT.RUN then none else some s.timeNow

/-- A field of host ring r. -/
def State.ringF (s : State) (r : Nat) (f : Fld) : Nat := s.fld evtB (f.at (0x20 * r))

/-- Records a host ring holds at most (R467, R477). -/
def State.ringCap (s : State) (r : Nat) : Nat := 2 ^ (min 16 (max 6 (s.ringF r F.EVT_RING_CFG.SIZE)))

/-- Records in a host ring. -/
def State.ringUsed (s : State) (r : Nat) : Nat :=
  (s.ringF r F.EVT_RING_PI.PI + 2 ^ 32 - s.ringF r F.EVT_RING_CI.CI) % 2 ^ 32

/-- Show FULL; entry to full raises EVT_RING_FULL (R467). -/
def State.showRing (s : State) (r : Nat) : State :=
  let full := decide (s.ringUsed r = s.ringCap r)
  let was := decide (s.ringF r F.EVT_RING_STAT.FULL = 1)
  let s := s.setBit evtB (F.EVT_RING_STAT.FULL.at (0x20 * r)) full
  if full && !was then
    s.raise Ev.EVT_RING_FULL 0x3C noInst [(1, r), (2, s.ctr (evtB + Ctr.EVT.RING_LOST + 8 * r) % 65536)]
  else s

/-- A record for host ring r (R465, R467). -/
def State.toRing (s : State) (r : Nat) (e : RaisedEvt) : State :=
  let seq := SMap.get (fun _ => 0) s.evt.ringSeq r
  let s := { s with evt := { s.evt with ringSeq := SMap.set (fun _ => 0) s.evt.ringSeq r ((seq + 1) % 65536) } }
  let cap := s.ringCap r
  if s.ringF r F.EVT_RING_CFG.EN = 0 ∨ s.ringUsed r = cap ∨ s.pathDown = true ∨ s.bit hstB F.HST_CFG.HOSTLESS = true then
    (s.count (evtB + Ctr.EVT.RING_LOST + 8 * r)).setF evtB (F.EVT_RING_STAT.LOST.at (0x20 * r)) 1
  else
    let pi := s.ringF r F.EVT_RING_PI.PI
    let base := s.ringF r F.EVT_RING_BASE_LO.BASE * 4096 + s.ringF r F.EVT_RING_BASE_HI.BASE * 2 ^ 32
    let s := s.emit (.hostWrite (base + 32 * (pi % cap)) (e.record (decide (pi / cap % 2 = 0)) seq (s.evtTime e)))
    let s := (s.setF evtB (F.EVT_RING_PI.PI.at (0x20 * r)) (pi + 1)).showRing r
    s.msixCause (s.ringF r F.EVT_RING_CFG.VECTOR)

/-- The Ledger sink's rate: 0 acts as 1, more as 1,000 (R477). -/
def State.lgrRate (s : State) : Nat := min 1000 (max 1 (s.fld evtB F.EVT_LGR_CFG.RATE))

/-- One record of the Ledger allowance, in records times clocks per second. -/
def lgrUnit : Nat := 1000 * msTicks

/-- The Ledger allowance brought up to date (R468), in records times clocks per second. -/
def State.lgrRefill (s : State) : State :=
  let n := min (64 * lgrUnit) (s.evt.lgrTokens + (s.now - s.evt.lgrAt) * s.lgrRate)
  { s with evt := { s.evt with lgrTokens := n, lgrAt := s.now } }

/-- Whether the Ledger sink takes no record now: no allowance is left (R468), or a sag is in force (R496). -/
def State.lgrStopped (s : State) : Bool := decide (s.evt.lgrTokens < lgrUnit) || s.sagging

/-- The SEQ of the Ledger sink's next record is used. -/
def State.lgrBump (s : State) : State := { s with evt := { s.evt with lgrSeq := (s.evt.lgrSeq + 1) % 65536 } }

/-- A record goes into the Ledger ring's next slot and takes one record of the allowance (R468). -/
def State.lgrPut (s : State) (rec : List Byte) : State :=
  let wp := s.fld evtB F.EVT_LGR_WP.WP
  let ring := SMap.set (fun _ => []) s.evt.lgrRing (wp % 65536) rec
  let s := { s with evt := { s.evt with lgrTokens := s.evt.lgrTokens - lgrUnit, lgrRing := ring } }
  (s.setF evtB F.EVT_LGR_WP.WP (wp + 1)).count (evtB + Ctr.EVT.LGR_WRITTEN)

/-- A record the Ledger sink does not take counts, with an event at most once per 1 s (R468). -/
def State.lgrDropped (s : State) : State :=
  let s := s.count (evtB + Ctr.EVT.LGR_DROP)
  s.raiseLim (Ev.EVT_LGR_DROP * 65536) lgrUnit Ev.EVT_LGR_DROP 0x3C noInst [(2, s.ctr (evtB + Ctr.EVT.LGR_DROP) % 65536)]

/-- A record for the Ledger ring (R465, R468); Ledger writes stop during a sag (R496). -/
def State.toLedger (s : State) (e : RaisedEvt) : State :=
  let rec_ := e.record false s.evt.lgrSeq (s.evtTime e)
  let s := s.lgrBump.lgrRefill
  if s.lgrStopped then s.lgrDropped else s.lgrPut rec_

/-- A record for OSPA's queue (R469). -/
def State.toOspa (s : State) (e : RaisedEvt) : State :=
  let seq := s.evt.ospSeq
  let s := { s with evt := { s.evt with ospSeq := (seq + 1) % 65536 } }
  if 128 ≤ s.evt.ospQ.length then s.count (evtB + Ctr.EVT.OSP_LOST)
  else
    let s := { s with evt := { s.evt with ospQ := s.evt.ospQ ++ [e.record false seq (s.evtTime e)] } }
    s.setF evtB F.EVT_OSP_STAT.LEVEL s.evt.ospQ.length

/-- A routing field of a source (R465). -/
def State.srcF (s : State) (src : Nat) (f : Fld) : Nat := s.fld evtB (f.at (4 * src))

/-- An accepted event to its source's host ring, where its routing names it (R465, R466). -/
def State.sinkHost (s : State) (e : RaisedEvt) : State :=
  if s.srcF e.src F.EVT_SRC_CFG.HOST_EN = 1 then s.toRing (s.srcF e.src F.EVT_SRC_CFG.RING) e else s

/-- An accepted event to the Ledger sink, where its routing names it and the sink is enabled. -/
def State.sinkLedger (s : State) (e : RaisedEvt) : State :=
  if decide (s.srcF e.src F.EVT_SRC_CFG.LGR_EN = 1) && s.bit evtB F.EVT_LGR_CFG.EN then s.toLedger e else s

/-- An accepted event to OSPA, where its routing names it and operation is host-less (R469). -/
def State.sinkOspa (s : State) (e : RaisedEvt) : State :=
  if decide (s.srcF e.src F.EVT_SRC_CFG.OSP_EN = 1) && s.bit hstB F.HST_CFG.HOSTLESS then s.toOspa e else s

/-- EVT_ACCEPT (R466): the oldest raised event is accepted and routed to its sinks. -/
def execEvtAccept (s : State) : Host.Outcome State Fault Refusal :=
  .next (match s.evt.queue with
    | [] => s
    | e :: rest =>
      if s.live 0x3C then
        let s := (({ s with evt := { s.evt with queue := rest } }).count (evtB + Ctr.EVT.RECORDS)).pmc 0x0C0 noInst
        ((s.sinkHost e).sinkLedger e).sinkOspa e
      else s)

/-- HST_BAD_REQ, at most once per 1 ms: cause 0 length, 1 byte enables, 2 PI, 3 CI (R441, R451, R467). -/
def State.badReq (s : State) (a cause : Nat) : State :=
  (s.count (hstB + Ctr.HST.BAD_REQ)).raiseMs 0 Ev.HST_BAD_REQ 0x3A noInst [(4, a), (1, cause)]

/-- A write of EVT_RING_CI[r] (R467): discarded outside PI − N to PI. -/
def State.wrRingCi (s : State) (r v : Nat) : State :=
  if s.ringCap r < (s.ringF r F.EVT_RING_PI.PI + 2 ^ 32 - v) % 2 ^ 32 then s.badReq (evtB + 0x10 + 0x20 * r) 3
  else (s.setF evtB (F.EVT_RING_CI.CI.at (0x20 * r)) v).showRing r

/-- EVT_RING_CI_WRITE (R467). -/
def execEvtRingCiWrite (m : Master) (r : Fin 4) (ci : Word) (s : State) : Host.Outcome State Fault Refusal :=
  .next (s.onWrite m (evtB + 0x10 + 0x20 * r.val) fun s => s.wrRingCi r.val ci.toNat)

/-- A write of a ring's base or configuration (R467): while EN is 1 the base and SIZE keep their values. -/
def State.wrRingCfg (s : State) (r a v : Nat) : State :=
  if s.ringF r F.EVT_RING_CFG.EN = 0 then s.store a v
  else if a = evtB + 0x20 * r + 8 then s.store a (setBits v 4 0 (s.ringF r F.EVT_RING_CFG.SIZE))
  else s

/-- A write of EVT_LGR_CFG: the allowance gained so far is at the old rate. -/
def State.wrLgrCfg (s : State) (v : Nat) : State := s.lgrRefill.store (evtB + 0x100) v

/-! ### Record reads (R435, R468) -/

/-- A write of EVT_LGR_CMD, as MCC_TRACE_CMD under R435. -/
def State.wrLgrCmd (s : State) (v : Nat) : State :=
  if s.bit evtB F.EVT_LGR_CMD.BUSY then s
  else
    let i := F.EVT_LGR_CMD.INDEX.of v
    let s := s.setF evtB F.EVT_LGR_CMD.INDEX i
    if F.EVT_LGR_CMD.GO.of v = 0 then s
    else
      let s := s.setF evtB F.EVT_LGR_CMD.BUSY 1
      let wp := s.fld evtB F.EVT_LGR_WP.WP
      let r := SMap.get (fun _ => []) s.evt.lgrRing i
      if r.isEmpty ∨ (wp + 65535 - i) % 65536 ≥ wp then s.setF evtB F.EVT_LGR_CMD.CAUSE 1
      else (s.setF evtB F.EVT_LGR_CMD.CAUSE 0).setRegs (evtB + 0x110) (bytesWords (bytesAt r 0 32))

/-- LEDGER_RECORD_READ (R468). -/
def execLedgerRecordRead (m : Master) (i : BitVec 16) (s : State) : Host.Outcome State Fault Refusal :=
  .next (s.onWrite m (evtB + 0x108) fun s => s.wrLgrCmd (2 ^ 28 + i.toNat))

/-- RECORD_READ_DONE (R435, R468): a read of a trace record, or of a Ledger record, ends. -/
def execRecordReadDone (ledger : Bool) (s : State) : Host.Outcome State Fault Refusal :=
  .next (if ledger then s.setF evtB F.EVT_LGR_CMD.BUSY 0 else s.setF mccB F.MCC_TRACE_CMD.BUSY 0)

/-! ### Software sources (R536) -/

/-- A write of a page's control word: it acts for its own master, and the host's only without host-less operation. -/
def State.wrSoft (s : State) (m : Master) (stw : Bool) (v : Nat) : State :=
  if decide (m = .steward) != stw || (!stw && s.bit hstB F.HST_CFG.HOSTLESS) then s
  else
    let d := if stw then 0x20 else 0
    let src := F.EVT_SOFT_H.SOURCE.of v
    let sev := F.EVT_SOFT_H.SEV.of v
    let s := (s.setF evtB (F.EVT_SOFT_H.SOURCE.at d) src).setF evtB (F.EVT_SOFT_H.SEV.at d) sev
    if F.EVT_SOFT_H.GO.of v = 0 then s
    else if (if stw then 562 else 512) ≤ src ∧ src ≤ (if stw then 611 else 561) then
      let e : RaisedEvt := { src, sev := min 2 sev, island := 0x3C, inst := b2n stw,
                             payload := wordBytes (s.regWords (evtB + 0x154 + d) 4), boot := false }
      let s := s.setF evtB (F.EVT_SOFT_H.REFUSED.at d) 0
      { s with evt := { s.evt with queue := s.evt.queue ++ [e] } }
    else s.setF evtB (F.EVT_SOFT_H.REFUSED.at d) 1

/-- The value of a page's control word that raises a source. -/
def softGo (sev : BitVec 2) (source : BitVec 10) : Nat := 2 ^ 31 + sev.toNat * 2 ^ 28 + source.toNat

/-- EVT_SOFT_HOST_GO (R536). -/
def execEvtSoftHostGo (m : Master) (sev : BitVec 2) (source : BitVec 10) (s : State) : Host.Outcome State Fault Refusal :=
  .next (s.onWrite m (evtB + 0x150) fun s => s.wrSoft m false (softGo sev source))

/-- EVT_SOFT_STEWARD_GO (R536). -/
def execEvtSoftStewardGo (m : Master) (sev : BitVec 2) (source : BitVec 10) (s : State) :
    Host.Outcome State Fault Refusal :=
  .next (s.onWrite m (evtB + 0x170) fun s => s.wrSoft m true (softGo sev source))

/-! ### BAR0 requests that fail (R441, R442) -/

/-- BAR0_BAD_REQUEST (R441): a request of a bad length or alignment, or a write whose byte enables are not all set. -/
def execBar0BadRequest (a : BitVec 26) (write byteEnables : Bool) (s : State) : Host.Outcome State Fault Refusal :=
  .next (s.onLive 0x3A fun s => let s := s.setF hstB F.HST_STATUS.BAD_REQ 1
    let s := s.badReq a.toNat (b2n byteEnables)
    if write then s else s.emit (.readUr a.toNat))

/-- HST_READ_TIMEOUT (R442). -/
def execHstReadTimeout (a : BitVec 26) (s : State) : Host.Outcome State Fault Refusal :=
  .next (s.onLive 0x3A fun s => let s := (s.setF hstB F.HST_STATUS.RD_TIMEOUT 1).count (hstB + Ctr.HST.RD_TIMEOUTS)
    let s := s.raise Ev.HST_RD_TIMEOUT 0x3A noInst [(4, a.toNat)]
    s.emit (.readData .host a.toNat 0xFFFFFFFF))

end Sys2Proof.Machine
end

