-- ==== Sys2Proof/Machine/Tally.lean ====
section
/-! DEFINITION. The Tally, the performance counters and samplers, and the check units (R511 to R528). -/

namespace Sys2Proof.Machine

/-! ### The Tally (R512, R513) -/

/-- Whether an INDEX names a counter of a SPACE (R512). -/
def State.tallyNames (s : State) (space idx : Nat) : Bool :=
  if space = 0x00 then true
  else if space = 0x01 then decide (idx < 32768)
  else if space ≤ 0x05 then decide (idx < s.tblSize (space + 1))
  else if space = 0x06 then decide (idx < 16384)
  else if space ≤ 0x08 then decide (idx < 8192)
  else if space = 0x09 then decide (idx < 4096)
  else if space = 0x0A then decide (idx < 32768)
  else if space = 0x0B then decide (idx < 64)
  else if space ≤ 0x0D then decide (idx < 256)
  else if space ≤ 0x0F then decide (idx < 8192)
  else if space ≤ 0x11 then decide (idx < 2048) && decide (idx % 16 < 12)
  else if space = 0x12 then decide (idx % 16 < 10)
  else if space = 0x13 then decide (idx < 32768) && decide (idx % 8 < 6)
  else if space = 0x14 then decide (idx < 2048)
  else if space = 0x15 then decide (idx = 0)
  else if space = 0x16 then decide (idx < 544)
  else decide (idx < 3072) && decide (idx % 64 < 36)

/-- Whether the islands that own a Tally counter are live (R512). -/
def State.tallyLive (s : State) (space idx : Nat) : Bool :=
  if space ≤ 0x0B then s.live 0x22
  else if space ≤ 0x0D then s.live (0x20 + (space - 0x0C))
  else if space ≤ 0x0F then s.live (0x08 + (space - 0x0E))
  else if space ≤ 0x11 then s.live (0x08 + (space - 0x10)) && s.live (0x0A + (space - 0x10))
  else if space ≤ 0x13 then s.live 0x28
  else if space ≤ 0x16 then s.live 0x24
  else s.live (0x10 + idx / 256)

/-- Put a count into PMC_TALLY_DATA0 and PMC_TALLY_DATA1. -/
def State.putTallyData (s : State) (v : Nat) : State := s.setRegs (pmcB + 0xD04) (natWords 2 v)

/-- End a Tally operation with its cause. -/
def State.tallyCause (s : State) (c : Nat) : State := s.setF pmcB F.PMC_TALLY_CMD.CAUSE c

/-- A write of PMC_TALLY_CMD (R513): 1 index out of range, 2 owner not live, 3 SPACE unused. -/
def State.wrTallyCmd (s : State) (v : Nat) : State :=
  if s.bit pmcB F.PMC_TALLY_CMD.BUSY then s
  else
    let op := F.PMC_TALLY_CMD.OP.of v
    let sp := F.PMC_TALLY_CMD.SPACE.of v
    let i := F.PMC_TALLY_CMD.INDEX.of v
    let s := ((s.setF pmcB F.PMC_TALLY_CMD.OP op).setF pmcB F.PMC_TALLY_CMD.SPACE sp).setF pmcB F.PMC_TALLY_CMD.INDEX i
    if op = 3 then s
    else
      let s := s.setF pmcB F.PMC_TALLY_CMD.BUSY 1
      if 0x17 < sp then s.tallyCause 3
      else if !s.tallyNames sp i then s.tallyCause 1
      else if !s.tallyLive sp i then (s.putTallyData 0).tallyCause 2
      else
        let s := (s.putTallyData (if op = 2 then 0 else s.tallyGet sp i)).tallyCause 0
        if op = 0 then s else s.tallySet sp i 0

/-- The value of PMC_TALLY_CMD for an operation on a counter. -/
def tallyCmd (op sp i : Nat) : Nat := op * 2 ^ 26 + sp * 2 ^ 16 + i

/-- TALLY_READ (R513): OP 00 reads a Tally counter. -/
def execTallyRead (m : Master) (sp : BitVec 5) (i : BitVec 16) (s : State) : Host.Outcome State Fault Refusal :=
  .next (s.onWrite m (pmcB + 0xD00) fun s => s.wrTallyCmd (tallyCmd 0 sp.toNat i.toNat))

/-- TALLY_READ_CLEAR (R513): OP 01 reads and clears a Tally counter in one clock. -/
def execTallyReadClear (m : Master) (sp : BitVec 5) (i : BitVec 16) (s : State) : Host.Outcome State Fault Refusal :=
  .next (s.onWrite m (pmcB + 0xD00) fun s => s.wrTallyCmd (tallyCmd 1 sp.toNat i.toNat))

/-- TALLY_CLEAR (R513): OP 10 clears a Tally counter. -/
def execTallyClear (m : Master) (sp : BitVec 5) (i : BitVec 16) (s : State) : Host.Outcome State Fault Refusal :=
  .next (s.onWrite m (pmcB + 0xD00) fun s => s.wrTallyCmd (tallyCmd 2 sp.toNat i.toNat))

/-- TALLY_CMD_DONE (R513): the operation completes and BUSY clears. -/
def execTallyCmdDone (s : State) : Host.Outcome State Fault Refusal := .next (s.setF pmcB F.PMC_TALLY_CMD.BUSY 0)

/-! ### Performance counters and samplers (R514 to R518) -/

/-- A write of PMC_CTR_LO or PMC_CTR_HI presets those bits (R514). -/
def State.wrPmcCtr (s : State) (c : Nat) (hi : Bool) (v : Nat) : State :=
  if hi then s.setReg (pmcCtr c + 4) (BitVec.ofNat 32 (v % 65536)) else s.setReg (pmcCtr c) (BitVec.ofNat 32 v)

/-- PMC_CTR_WRITE (R514): a half of a performance counter is preset. -/
def execPmcCtrWrite (m : Master) (c : Fin 96) (hi : Bool) (v : Word) (s : State) : Host.Outcome State Fault Refusal :=
  .next (s.onWrite m (pmcCtr c.val + 4 * b2n hi) fun s => s.wrPmcCtr c.val hi v.toNat)

/-- A write of PMC_CTRL: SNAP copies all 96 counters into PMC_SHOT in one clock (R517). -/
def State.wrPmcCtrl (s : State) (v : Nat) : State :=
  if F.PMC_CTRL.SNAP.of v = 0 then s
  else
    let s := s.setRegs (pmcB + 0x800) (s.regWords (pmcB + 0x400) 192)
    s.setF pmcB F.PMC_CTRL.SNAP_GEN ((s.fld pmcB F.PMC_CTRL.SNAP_GEN + 1) % 256)

/-- PMC_SNAP (R517): every counter is copied and SNAP_GEN counts up. -/
def execPmcSnap (m : Master) (s : State) : Host.Outcome State Fault Refusal :=
  .next (s.onWrite m pmcB fun s => s.wrPmcCtrl (2 ^ 31))

/-- A trigger that makes no copy: 0 arm waiting, 1 session disabled (R518). -/
def State.sampleMiss (s : State) (k cause : Nat) : State :=
  (s.count (pmcB + Ctr.PMC.SAMPLE_MISS)).raiseMs 0 Ev.PMC_SAMPLE_MISS 0x3E noInst [(1, k), (1, cause)]

/-- SAMPLER_TRIGGER (R518): a sampler in use has counted PERIOD events, restarts and arms its sample point; `skid` packets
pass the point before the arm arrives. -/
def execSamplerTrigger (k : Fin 4) (skid : Fin 5) (s : State) : Host.Outcome State Fault Refusal :=
  .next <|
    let d := 8 * k.val
    let due := max 1 (s.fld pmcB (F.PMC_SAMP_PER.PERIOD.at d))
    if s.fld pmcB (F.PMC_SAMP_CFG.EN.at d) = 1 ∧ due ≤ SMap.get (fun _ => 0) s.sampN k.val then
      let s := { s with sampN := SMap.set (fun _ => 0) s.sampN k.val 0 }
      if SMap.get (fun _ => 0) s.sampArm k.val ≠ 0 then s.sampleMiss k.val 0
      else if s.mirrorF (s.fld pmcB (F.PMC_SAMP_CFG.SESSION.at d)) F.TBL_MIRROR.EN = 0 then s.sampleMiss k.val 1
      else { s with sampArm := SMap.set (fun _ => 0) s.sampArm k.val (1 + skid.val + 8 * skid.val) }
    else s

/-! ### Check units (R519 to R524) -/

/-- The CRC of a POLY code over bytes (R519). -/
def polyCrc (poly : Nat) (bs : List Byte) : Nat :=
  if poly = 0 then crc32 bs else if poly = 1 then crc32c bs else if poly = 2 then crc16 bs else crc64 bs

/-- The width of a POLY code's CRC in bytes (R519). -/
def polyLen (poly : Nat) : Nat := if poly ≤ 1 then 4 else if poly = 2 then 2 else 8

/-- The bytes of a POLY code's CRC in a stream: reflected CRCs least significant byte first (R519). -/
def polyBytes (poly : Nat) (bs : List Byte) : List Byte :=
  if poly ≤ 1 then leBytes 4 (polyCrc poly bs) else beBytes (polyLen poly) (polyCrc poly bs)

/-- Whether a unit is in use. -/
def State.chkBusy (s : State) (u : Nat) : Bool := s.bit (chkB u) F.CHK_CTRL.BUSY

/-- A unit is taken by a user: 1 scan, 2 DMA stream, 3 scrub. -/
def State.chkTake (s : State) (u user : Nat) : State :=
  (s.setF (chkB u) F.CHK_CTRL.BUSY 1).setF (chkB u) F.CHK_CTRL.USER user

/-- A unit is free again. -/
def State.chkFree (s : State) (u : Nat) : State := (s.setF (chkB u) F.CHK_CTRL.BUSY 0).setF (chkB u) F.CHK_CTRL.USER 0

/-- A scan's result register set (R443, R521): STATUS 0 OK, 1 BUS_ERR, 2 FAULT, 3 BAD_OP. -/
def State.chkResult (s : State) (u status poly len crc : Nat) : State :=
  let s := s.setRegs (chkB u + 0x14) (natWords 2 crc)
  let s := s.setReg (chkB u + 0x10) (BitVec.ofNat 32 (2 ^ 31 + status * 2 ^ 27 + poly * 2 ^ 25 + len))
  (s.count (chkB u + Ctr.CHK.SCANS)).raise Ev.CHK_DONE 0x3D u [(1, u), (1, status)]

/-- A write of CHK_CTRL (R520, R521): a GO while BUSY is discarded; SPACE 1x ends the scan at once with BAD_OP. -/
def State.wrChkCtrl (s : State) (u v : Nat) : State :=
  let b := chkB u
  let poly := F.CHK_CTRL.POLY.of v
  let s := ((s.setF b F.CHK_CTRL.POLY poly).setF b F.CHK_CTRL.SPACE (F.CHK_CTRL.SPACE.of v)).setF b F.CHK_CTRL.NS
    (F.CHK_CTRL.NS.of v)
  if F.CHK_CTRL.GO.of v = 0 ∨ s.chkBusy u = true then s
  else if 2 ≤ F.CHK_CTRL.SPACE.of v then s.chkResult u 3 poly 0 0
  else
    let len := min (2 ^ 24) (max 1 (s.fld b F.CHK_LEN.LEN))
    let s := (s.setReg (b + 0x10) 0).setRegs (b + 0x14) [0, 0]
    { s.chkTake u 1 with chk := { s.chk with scan := SMap.set (fun _ => (0, 0)) s.chk.scan u (poly, len) } }

/-- CHK_SCAN_GO (R521): GO starts a register scan on a free unit, with the POLY and SPACE the write carries. -/
def execChkScanGo (m : Master) (u : Fin 4) (poly space : BitVec 2) (ns : Bool) (s : State) :
    Host.Outcome State Fault Refusal :=
  .next (s.onWrite m (chkB u.val) fun s =>
    s.wrChkCtrl u.val (2 ^ 31 + poly.toNat * 2 ^ 26 + space.toNat * 2 ^ 24 + b2n ns * 2 ^ 23))

/-- A unit's scan of `data`, the bytes at its address, ends, or ends on a bus error (R521). -/
def State.scanEnd (s : State) (u : Nat) (data : List Byte) (busOk : Bool) : State :=
  let (poly, len) := SMap.get (fun _ => (0, 0)) s.chk.scan u
  let s := s.chkFree u
  if busOk then s.chkResult u 0 poly len (polyCrc poly (bytesAt data 0 len))
  else s.chkResult u 1 poly (min len data.length) 0

/-- CHK_SCRUB_START (R520): the bank that has waited longest takes the lowest free unit. -/
def execChkScrubStart (s : State) : Host.Outcome State Fault Refusal :=
  .next <|
    match s.chk.scrubs, (List.range 4).find? fun u => !s.chkBusy u with
    | b :: t, some u =>
      if s.live 0x3D then
        let s := s.chkTake u 3
        { s with chk := { s.chk with scrubs := t, bank := SMap.set (fun _ => 0) s.chk.bank u b } }
      else s
    | _, _ => s

/-- A unit's scrub ends: a bank that passes is SPARE, one that fails is OUT again (R232, R523). -/
def State.scrubEnd (s : State) (u : Nat) (pass : Bool) : State :=
  let b := SMap.get (fun _ => 0) s.chk.bank u
  let s := (s.chkFree u).count (chkB u + Ctr.CHK.SCRUBS)
  if pass then s.setBankState b 4
  else
    let s := s.count (chkB u + Ctr.CHK.SCRUB_FAILS)
    (s.raise Ev.CHK_SCRUB_FAIL 0x3D u [(1, u), (1, b)]).setBankState b 2

end Sys2Proof.Machine
end

