-- ==== Sys2Proof/Machine/Dma.lean ====
section
/-! DEFINITION. The DMA channels (R449 to R462), their streams through the check units (R455, R520, R522), and the host link
and path (R51, R439, R462). -/

namespace Sys2Proof.Machine

/-- The timer of a channel's next re-read of a stale descriptor (R451). -/
def Tm.stale (d : Nat) : Nat := 0x72000 + d

/-! ### A channel and its page -/

/-- A DMA channel: what its registers do not show. -/
def State.dch (s : State) (d : Nat) : DmaChan := SMap.get (fun _ => DmaChan.empty) s.dma d

/-- Replace a DMA channel. -/
def State.setDch (s : State) (d : Nat) (x : DmaChan) : State :=
  { s with dma := SMap.set (fun _ => DmaChan.empty) s.dma d x }

/-- A field of a channel's page. -/
def State.dcF (s : State) (d : Nat) (f : Fld) : Nat := s.fld (dcB d) f

/-- Change a field of a channel's page. -/
def State.setDcF (s : State) (d : Nat) (f : Fld) (v : Nat) : State := s.setF (dcB d) f v

/-- Count in a counter of a channel. -/
def State.dcCount (s : State) (d off : Nat) (n : Nat := 1) : State := s.count (dcB d + off) n

/-- Whether a channel has been given to the Steward (R410). -/
def State.dcSteward (s : State) (d : Nat) : Bool := s.bit (dcB d) F.DC_CTRL.STEWARD

/-- A channel's state: 0 IDLE, 1 RUN, 2 STOPPED. -/
def State.dcState (s : State) (d : Nat) : Nat := s.dcF d F.DC_CTRL.STATE

/-- Descriptors in a channel's ring (R451). -/
def State.dcHeld (s : State) (d : Nat) : Nat := (s.dcF d F.DC_DB.PI + 131072 - s.dcF d F.DC_POS.CI) % 131072

/-- The ring index of descriptor CI (R451). -/
def State.dcIndex (s : State) (d : Nat) : Nat := s.dcF d F.DC_POS.CI % 2 ^ (s.dch d).size

/-- A DC_IRQ bit is set; with its enable bit, it is one cause for a host channel's vector (R457, R470). -/
def State.dcIrq (s : State) (d bit : Nat) : State :=
  let s := s.setDcF d F.DC_IRQ.CAUSES (Nat.lor (s.dcF d F.DC_IRQ.CAUSES) (2 ^ bit))
  if (s.dcF d F.DC_IRQ_EN.EN).testBit bit && !s.dcSteward d then s.msixCause (s.dcF d F.DC_VEC.VECTOR) else s

/-- Write bytes at an address of a channel: host memory for a host channel and for an address with bit 63 of a Steward
channel, else Steward SRAM (R449). -/
def State.dcWrite (s : State) (d addr : Nat) (bs : List Byte) : State :=
  if bs.isEmpty then s
  else if !s.dcSteward d then s.emit (.hostWrite addr bs)
  else if addr.testBit 63 then s.emit (.hostWrite (addr % 2 ^ 63) bs)
  else s.emit (.stewardWrite addr bs)

/-- Write bytes into a channel's ring, which lies in Steward SRAM for a Steward channel. -/
def State.dcRingWrite (s : State) (d addr : Nat) (bs : List Byte) : State :=
  if s.dcSteward d then s.emit (.stewardWrite addr bs) else s.emit (.hostWrite addr bs)

/-! ### Descriptors (R450) -/

/-- A number in a descriptor. -/
def descNat (b : List Byte) (off n : Nat) : Nat := leNat (bytesAt b off n)

def descAddr (b : List Byte) : Nat := descNat b 0x00 8
def descAddr2 (b : List Byte) : Nat := descNat b 0x08 8
def descLen (b : List Byte) : Nat := descNat b 0x10 4 % 2 ^ 25
def descCtrl (b : List Byte) : Nat := descNat b 0x14 4
def descOwn (b : List Byte) : Bool := (descCtrl b).testBit 31
def descHalf (b : List Byte) : Bool := (descCtrl b).testBit 30
def descFull (b : List Byte) : Bool := (descCtrl b).testBit 29
/-- PRESET under INJECT, META under HOSTQ. -/
def descBlock (b : List Byte) : Bool := (descCtrl b).testBit 27
def descTsReq (b : List Byte) : Bool := (descCtrl b).testBit 26
def descSeq (b : List Byte) : Nat := bits (descCtrl b) 23 16
def descChk (b : List Byte) : Bool := (descCtrl b).testBit 15
def descUnit (b : List Byte) : Nat := bits (descCtrl b) 14 13

/-- Whether an address of a channel's descriptor names host memory (R449). -/
def State.dcHostMem (s : State) (d addr : Nat) : Bool := !s.dcSteward d || addr.testBit 63

/-- Whether a descriptor's stream has its CRC checked and stripped: the source is host memory and the destination is not
(R455). -/
def State.dcStrips (s : State) (d : Nat) (b : List Byte) : Bool :=
  descChk b && (match (s.dch d).mode with
    | 0 => s.dcHostMem d (descAddr b)
    | 2 => s.dcHostMem d (descAddr b) && !s.dcHostMem d (descAddr2 b)
    | _ => false)

/-- Whether a descriptor's stream has a CRC appended: the destination is host memory and the source is not (R455). -/
def State.dcAppends (s : State) (d : Nat) (b : List Byte) : Bool :=
  descChk b && (match (s.dch d).mode with
    | 1 => s.dcHostMem d (descAddr b)
    | 2 => s.dcHostMem d (descAddr2 b) && !s.dcHostMem d (descAddr b)
    | _ => false)

/-- The POLY of a descriptor's unit as its stream took it (R520). -/
def State.dcPoly (s : State) (b : List Byte) : Nat := (SMap.get (fun _ => (0, 0)) s.chk.scan (descUnit b)).1

/-- Whether LEN lies outside its mode's limits (R450, R453, R454, R522), with a CRC of `w` bytes. -/
def State.dcLenBad (s : State) (d w : Nat) (b : List Byte) : Bool :=
  let n := descLen b
  let own := if s.dcStrips d b then w else 0
  decide (n = 0) || decide (2 ^ 24 < n) || (descChk b && decide (n ≤ w)) ||
    (match (s.dch d).mode with
      | 0 =>
        let fixed := own + (if descBlock b then 32 else 0)
        decide (n < fixed + 14) || decide (fixed + 15996 < n)
      | 1 => decide (n < 64)
      | _ => false)

/-! ### Check units (R455, R520, R522) -/

/-- Whether a stream may take a unit now: it is free, and no waiting scrub takes it as the lowest-numbered free one. -/
def State.unitOpen (s : State) (u : Nat) : Bool :=
  !s.chkBusy u && decide (s.chk.scrubs.length ≤ ((List.range u).filter fun v => !s.chkBusy v).length)

/-- A stream takes its unit, with the unit's POLY as it stands. -/
def State.unitTake (s : State) (d : Nat) (b : List Byte) : State :=
  let u := descUnit b
  let s := (s.chkTake u 2).setF (chkB u) F.CHK_CTRL.DC d
  let poly := s.fld (chkB u) F.CHK_CTRL.POLY
  let s := { s with chk := { s.chk with scan := SMap.set (fun _ => (0, 0)) s.chk.scan u (poly, descLen b) } }
  s.setDch d { s.dch d with unit := true, waits := false }

/-- A stream's check fails (R522). -/
def State.streamFail (s : State) (d : Nat) (b : List Byte) : State :=
  let u := descUnit b
  let s := s.count (chkB u + Ctr.CHK.STREAM_FAILS)
  (s.raiseMs u Ev.CHK_STREAM_FAIL 0x3D u [(1, u), (1, d)]).setDch d { s.dch d with code := 6 }

/-- Bytes of a stream whose last `w` are a CRC: the bytes before it, and whether it matches (R522). -/
def stripCrc (poly : Nat) (bs : List Byte) : List Byte × Bool :=
  let n := bs.length - polyLen poly
  (bs.take n, decide (bs.drop n = polyBytes poly (bs.take n)))

/-! ### INJECT (R30, R453) -/

/-- A packet with the Wallet fields that a preset block enables (R209, R453). -/
def Packet.presetBy (p : Packet) (b : List Byte) : Packet :=
  let en := descNat b 0x10 2 % 64
  let p := { p with preset := en }
  let p := if en.testBit 0 then p.setW W.DEST (descNat b 0 2) else p
  let p := if en.testBit 1 then (p.setW W.SF (descNat b 2 2)).setW W.SF_VALID (descNat b 2 2 / 32768) else p
  let p := if en.testBit 2 then p.setW W.FID (descNat b 4 2) else p
  let p := if en.testBit 3 then p.setW W.VRF (descNat b 6 1) else p
  let p := if en.testBit 4 then (p.setW W.TC (descNat b 7 1)).setW W.COLOUR (descNat b 7 1 / 8) else p
  if en.testBit 5 then
    (((p.setW (W.USER 0) (descNat b 8 2)).setW (W.USER 1) (descNat b 10 2)).setW (W.USER 2) (descNat b 12 2)).setW
      (W.USER 3) (descNat b 14 2)
  else p

/-- The packet an INJECT descriptor carries, ready for its pipeline slot (R33, R184, R453); a pipeline that accepts nothing makes
it a drop of the channel, which does not stall (R24). -/
def State.injectPkt (s : State) (d : Nat) (b stream : List Byte) : State :=
  let bytes := if descBlock b then stream.drop 32 else stream
  let p := { Packet.new (64 + d) bytes s.now with tsReq := descTsReq b }
  let p := p.setW W.CSUM (ocRange bytes 12 12 bytes.length)
  let p := if descBlock b then p.presetBy (stream.take 32) else p
  let k := if d < 16 then 0 else 1
  let q := s.pipe k
  if !s.accepts (0x20 + k) then s.dcCount d Ctr.DMA.PKT_LOST
  else s.setPipe k { q with host := SMap.modify (fun _ => []) q.host d (· ++ [p]) }

/-- A channel's injected packet leaves its queue without a slot. -/
def State.dropInject (s : State) (d : Nat) : State :=
  let k := if d < 16 then 0 else 1
  let q := s.pipe k
  s.setPipe k { q with host := SMap.set (fun _ => []) q.host d [] }

/-- The bytes of an INJECT descriptor have been read: they pass through the check unit, and the packet waits for its slot
(R453, R455). -/
def State.injectBegin (s : State) (d : Nat) (b : List Byte) : State :=
  let bs := bytesAt (s.dch d).data 0 (descLen b)
  if s.dcStrips d b then
    let r := stripCrc (s.dcPoly b) bs
    if r.2 then s.injectPkt d b r.1 else s.streamFail d b
  else s.injectPkt d b bs

/-! ### An accepted descriptor starts (R450, R520) -/

/-- The transfer of a channel's descriptor starts once its check unit is its own; LEN outside its limits moves nothing. -/
def State.dmaBegin (s : State) (d : Nat) (b : List Byte) : State :=
  let w := if descChk b then polyLen (s.dcPoly b) else 0
  if s.dcLenBad d w b then s.setDch d { s.dch d with code := 5 }
  else if (s.dch d).mode = 0 then s.injectBegin d b
  else s

/-- A channel whose descriptor waits for its unit starts where the unit is open. -/
def State.dmaTry (s : State) (d : Nat) : State :=
  match (s.dch d).desc with
  | none => s
  | some b =>
    if !(s.dch d).waits then s
    else if !descChk b then (s.setDch d { s.dch d with waits := false }).dmaBegin d b
    else if s.unitOpen (descUnit b) && s.live 0x3D then (s.unitTake d b).dmaBegin d b
    else s

/-- Waiting streams take the units that are open, in ascending channel order (R520). -/
def State.dmaWake (s : State) : State := (List.range 32).foldl (fun s d => s.dmaTry d) s

/-- A channel lets go of its unit. -/
def State.unitFree (s : State) (d : Nat) (b : List Byte) : State :=
  if (s.dch d).unit then (s.chkFree (descUnit b)).count (chkB (descUnit b) + Ctr.CHK.STREAMS) else s

/-- A channel lets go of its descriptor, its packet and its unit. -/
def State.dmaDrop (s : State) (d : Nat) : State :=
  match (s.dch d).desc with
  | none => s
  | some b =>
    let s := (s.unitFree d b).dropInject d
    (s.setDch d { s.dch d with desc := none, pkt := none, data := [], code := 0, waits := false, unit := false, rereads := 0 }).dmaWake

/-! ### Hand-over and doorbells (R451, R456) -/

/-- A write of DC_DB.PI (R451): one that overfills the ring is discarded and counted; while a hand-over is pending it is
held. -/
def State.wrDb (s : State) (d v : Nat) : State :=
  let pi := v % 131072
  if s.bit (dcB d) F.DC_CTRL.PENDING then s.setDch d { s.dch d with heldPi := some pi }
  else if 2 ^ (s.dch d).size < (pi + 131072 - s.dcF d F.DC_POS.CI) % 131072 then s.badReq (dcB d + 0x10) 2
  else s.setDcF d F.DC_DB.PI pi

/-- The committed ring takes over (R456): CI and PI go to 0 and SEQ_NEXT to SEQ_START, and a held doorbell applies. -/
def State.dcHandover (s : State) (d : Nat) : State :=
  let held := (s.dch d).heldPi
  let seq0 := s.dcF d F.DC_RING_CFG.SEQ_START
  let base := s.dcF d F.DC_RING_BASE_LO.BASE * 4096 + s.dcF d F.DC_RING_BASE_HI.BASE * 2 ^ 32
  let s := s.setDch d { s.dch d with base, mode := s.dcF d F.DC_RING_CFG.MODE,
                                     size := min 16 (max 3 (s.dcF d F.DC_RING_CFG.SIZE)), seq0, heldPi := none }
  let gen := (s.dcF d F.DC_CTRL.GEN + 1) % 256
  let s := (s.setDcF d F.DC_CTRL.PENDING 0).setDcF d F.DC_CTRL.GEN gen
  let s := ((s.setDcF d F.DC_DB.PI 0).setDcF d F.DC_POS.CI 0).setDcF d F.DC_POS.SEQ_NEXT seq0
  let s := s.raise Ev.DMA_HANDOVER 0x3B d [(1, d), (1, gen)]
  match held with
  | some pi => s.wrDb d pi
  | none => s

/-- A running channel at a descriptor boundary with CI = PI takes a committed ring over. -/
def State.dcBoundary (s : State) (d : Nat) : State :=
  if s.bit (dcB d) F.DC_CTRL.PENDING && decide (s.dcState d = 1) && (s.dch d).desc.isNone && decide (s.dcHeld d = 0) then
    s.dcHandover d
  else s

/-- COMMIT (R456): changes nothing while PENDING is 1. -/
def State.dcCommit (s : State) (d : Nat) : State :=
  if s.bit (dcB d) F.DC_CTRL.PENDING then s else (s.setDcF d F.DC_CTRL.PENDING 1).dcBoundary d

/-! ### START and stopping (R458 to R460) -/

/-- A channel stops with a cause: 1 STALE_DESC, 2 BUS_ERR, 3 ABORT, 4 FAULT, 5 HOST_DOWN. -/
def State.dcStop (s : State) (d cause : Nat) : State :=
  let s := (s.setDcF d F.DC_CTRL.STATE 2).setDcF d F.DC_CTRL.CAUSE cause
  (s.setDch d { s.dch d with rereads := 0 }).stopTimer (Tm.stale d)

/-- The MODE a START would run: that of a committed ring, else the ring's in force. -/
def State.nextMode (s : State) (d : Nat) : Nat :=
  if s.bit (dcB d) F.DC_CTRL.PENDING then s.dcF d F.DC_RING_CFG.MODE else (s.dch d).mode

/-- START (R449, R459, R462, R472): IDLE or STOPPED to RUN, refused for MODE 11 and, for a host channel, while the host path
is down or operation is host-less. -/
def State.dcStart (s : State) (d : Nat) : State :=
  let refused := decide (s.nextMode d = 3) || (!s.dcSteward d && (s.pathDown || s.bit hstB F.HST_CFG.HOSTLESS))
  if s.dcState d = 1 ∨ refused = true then s
  else
    let s := if s.bit (dcB d) F.DC_CTRL.PENDING then s.dcHandover d else s
    (s.setDcF d F.DC_CTRL.STATE 1).setDcF d F.DC_CTRL.CAUSE 0

/-! ### Completion (R452, R454, R457) -/

/-- The two requests of a writeback (R452): STATUS and INFO, then CTRL with OWN = 0. -/
def State.dcWriteback (s : State) (d code residue info : Nat) (b : List Byte) : State :=
  let at_ := (s.dch d).base + 32 * s.dcIndex d
  let s := s.dcRingWrite d (at_ + 0x18) (leBytes 4 (code * 2 ^ 28 + residue) ++ leBytes 4 info)
  s.dcRingWrite d (at_ + 0x14) (leBytes 4 (descCtrl b % 2 ^ 31))

/-- A descriptor is written back (R451, R452, R457): CI and SEQ_NEXT advance, its moved bytes count, and its interrupts are
set. -/
def State.dmaFinish (s : State) (d code residue info : Nat) : State :=
  match (s.dch d).desc with
  | none => s
  | some b =>
    let moved := descLen b - residue
    let half := descHalf b && decide (code ≠ 5) && decide (descLen b ≤ 2 * moved + (if code < 2 then residue else 0))
    let s := if half then s.dcIrq d 0 else s
    let s := s.dcWriteback d code residue info b
    let s := ((s.dcCount d Ctr.DMA.DESCS).dcCount d Ctr.DMA.BYTES moved).pmc 0x0B0 d moved
    let s := s.setDcF d F.DC_POS.CI ((s.dcF d F.DC_POS.CI + 1) % 131072)
    let s := s.setDcF d F.DC_POS.SEQ_NEXT ((s.dcF d F.DC_POS.SEQ_NEXT + 1) % 256)
    let s := if descFull b then s.dcIrq d 1 else s
    (s.dmaDrop d).dcBoundary d

/-- The metadata block of a packet (R454). -/
def metaBlock (p : Packet) : List Byte :=
  leBytes 2 p.bytes.length ++ leBytes 1 p.src ++ leBytes 1 (p.w W.TC + 8 * p.w W.COLOUR) ++
    leBytes 2 (p.w W.SF + 32768 * p.w W.SF_VALID) ++ leBytes 2 (p.w W.PORT_ID) ++ leBytes 2 (p.w W.FID) ++
    leBytes 2 (p.w (W.USER 0)) ++ leBytes 2 (p.w (W.USER 1)) ++ leBytes 2 (p.w (W.USER 2)) ++ stampBytes p.rxStamp

/-- A packet of a host queue is written (R447, R454, R522): the data, then the metadata block. INFO names the host queue; which
number it shows for an auxiliary queue is free (log 173). -/
def State.hostqDone (s : State) (d : Nat) (b : List Byte) (p : Packet) : State :=
  let head := if descBlock b then metaBlock p else []
  let body := head ++ p.bytes
  let w := if s.dcAppends d b then polyLen (s.dcPoly b) else 0
  let room := descLen b - w
  let fit := body.take room
  let crc := if s.dcAppends d b then polyBytes (s.dcPoly b) fit else []
  let s := s.dcWrite d (descAddr b + head.length) (fit.drop head.length ++ crc)
  let s := s.dcWrite d (descAddr b) (fit.take head.length)
  let trunc := decide (room < body.length)
  let (s, r) := if p.uid ≤ 2495 then (s, p.uid - 2432) else s.takeFree
  let s := if trunc then s.dcCount d Ctr.DMA.TRUNCS else s
  s.dmaFinish d (b2n trunc) (descLen b - (fit.length + crc.length)) (p.bytes.length + r % 64 * 65536)

/-- A COPY is done (R455, R522). -/
def State.copyDone (s : State) (d : Nat) (b : List Byte) : State :=
  let bs := bytesAt (s.dch d).data 0 (descLen b)
  if s.dcAppends d b then
    let src := bs.take (descLen b - polyLen (s.dcPoly b))
    (s.dcWrite d (descAddr2 b) (src ++ polyBytes (s.dcPoly b) src)).dmaFinish d 0 0 0
  else if s.dcStrips d b then
    let r := stripCrc (s.dcPoly b) bs
    let s := s.dcWrite d (descAddr2 b) r.1
    if r.2 then s.dmaFinish d 0 0 0 else (s.streamFail d b).dmaFinish d 6 0 0
  else (s.dcWrite d (descAddr2 b) bs).dmaFinish d 0 0 0

/-- A channel's request fails on the bus (R448, R459), after `moved` bytes: a data request ends the descriptor with BUS_ERR, a
fetch or a writeback writes nothing; the channel stops. -/
def State.dmaBusErr (s : State) (d : Nat) (phase : DmaPhase) (cause moved : Nat) : State :=
  let s := match phase, (s.dch d).desc with
    | .data, some b => (s.setDcF d F.DC_CTRL.STATE 2).dmaFinish d 4 (descLen b - moved) 0
    | _, _ => s.dmaDrop d
  let s := ((s.dcStop d 2).dcCount d Ctr.DMA.BUS_ERRS).dcIrq d 3
  s.raise Ev.DMA_BUS_ERR 0x3B d [(1, d), (1, cause)]

/-- Whether a Steward channel's descriptor needs host memory while the path is down (R462). -/
def State.dcCutOff (s : State) (d : Nat) (b : List Byte) : Bool :=
  s.dcSteward d && s.pathDown &&
    ((descAddr b).testBit 63 || (decide ((s.dch d).mode = 2) && (descAddr2 b).testBit 63))

/-- A descriptor's transfer is complete. An INJECT completes when its packet takes its slot (R453), or here when its pipeline has
refused the packet (R24). -/
def State.dmaComplete (s : State) (d : Nat) : State :=
  match (s.dch d).desc with
  | none => s
  | some b =>
    if (s.dch d).waits then s
    else if (s.dch d).code = 5 then s.dmaFinish d 5 (descLen b) 0
    else if (s.dch d).code = 6 then s.dmaFinish d 6 0 0
    else if s.dcCutOff d b then
      let (s, free) := s.takeFree
      s.dmaBusErr d .data free 0
    else match (s.dch d).mode, (s.dch d).pkt with
      | 1, some p => s.hostqDone d b p
      | 2, _ => s.copyDone d b
      | 0, _ =>
        if (SMap.get (fun _ => []) (s.pipe (if d < 16 then 0 else 1)).host d).isEmpty then s.dmaFinish d 0 0 0 else s
      | _, _ => s

/-- DESCRIPTOR_COMPLETE (R452, R454, R455). -/
def execDescriptorComplete (d : Fin 32) (s : State) : Host.Outcome State Fault Refusal :=
  .next (if s.live 0x3B ∧ s.dcState d.val = 1 then s.dmaComplete d.val else s)

/-- An injected packet has taken its pipeline slot (R453). -/
def State.dmaInjected (s : State) (d : Nat) : State := s.dmaFinish d 0 0 0

/-- DMA_BUS_ERROR (R459): 0 UR, 1 completer abort, 2 poisoned, 3 timeout. -/
def execDmaBusError (d : Fin 32) (phase : DmaPhase) (cause : Fin 4) (moved : BitVec 25) (s : State) :
    Host.Outcome State Fault Refusal :=
  .next <|
    let x := s.dch d.val
    let ok := match phase with
      | .fetch => x.desc.isNone && decide (s.dcHeld d.val ≠ 0)
      | _ => x.desc.isSome && !x.waits
    if s.live 0x3B && decide (s.dcState d.val = 1) && ok then s.dmaBusErr d.val phase cause.val moved.toNat else s

/-! ### Fetching (R451) -/

/-- A descriptor is accepted. -/
def State.dmaAccept (s : State) (d : Nat) (b data : List Byte) : State :=
  let s := s.stopTimer (Tm.stale d)
  (s.setDch d { s.dch d with desc := some b, pkt := none, data, code := 0, waits := true, unit := false, rereads := 0 }).dmaTry d

/-- A descriptor is stale: it is read again 1 µs later, up to 4 times; then the channel stops. -/
def State.dmaStale (s : State) (d : Nat) (b : List Byte) : State :=
  let n := (s.dch d).rereads
  if n < 4 then (s.setDch d { s.dch d with rereads := n + 1 }).startTimer (Tm.stale d) usTicks
  else
    let want := s.dcF d F.DC_POS.SEQ_NEXT
    let ix := s.dcIndex d
    let s := s.dcStop d 1
    let s := (s.setDcF d F.DC_STALE.OWN (b2n (descOwn b))).setDcF d F.DC_STALE.SEQ (descSeq b)
    let s := ((s.setDcF d F.DC_STALE.INDEX ix).dcCount d Ctr.DMA.STALE).dcIrq d 2
    s.raise Ev.DMA_STALE_DESC 0x3B d [(1, d), (2, ix), (1, want), (1, descSeq b), (1, b2n (descOwn b))]

/-- A read of descriptor CI returns: `desc` is its 32 bytes and `data` the bytes at its source. -/
def State.dmaRead (s : State) (d : Nat) (desc data : List Byte) : State :=
  let b := bytesAt desc 0 32
  if descOwn b && decide (descSeq b = s.dcF d F.DC_POS.SEQ_NEXT) then s.dmaAccept d b data else s.dmaStale d b

/-- Whether a channel may read descriptor CI: it runs, holds none, and its ring is not empty. -/
def State.dcFetches (s : State) (d : Nat) : Bool :=
  s.live 0x3B && decide (s.dcState d = 1) && (s.dch d).desc.isNone && decide (s.dcHeld d ≠ 0)

/-- DESCRIPTOR_FETCH (R451). -/
def execDescriptorFetch (d : Fin 32) (desc data : List Byte) (s : State) : Host.Outcome State Fault Refusal :=
  .next (if s.dcFetches d.val && !s.timerOn (Tm.stale d.val) then s.dmaRead d.val desc data else s)

/-- STALE_REREAD_EXPIRY (R451). -/
def execStaleRereadExpiry (d : Fin 32) (desc data : List Byte) (s : State) : Host.Outcome State Fault Refusal :=
  .next (s.expire (Tm.stale d.val) fun s => if s.dcFetches d.val then s.dmaRead d.val desc data else s)

/-! ### Abort, fault and lost path (R458, R460, R462) -/

/-- ABORT (R458): the channel stops; an accepted descriptor is written back with `moved` bytes done. -/
def State.dcAbort (s : State) (d moved : Nat) : State :=
  match (s.dch d).desc with
  | none => s.dcStop d 3
  | some b =>
    let residue := descLen b - moved
    let s := if (s.dch d).pkt.isSome then s.dcCount d Ctr.DMA.PKT_LOST else s
    let s := s.setDcF d F.DC_CTRL.STATE 2
    let s := ((s.dmaFinish d 2 residue 0).dcStop d 3).dcIrq d 4
    (s.dcCount d Ctr.DMA.ABORTS).raise Ev.DMA_ABORTED 0x3B d [(1, d), (4, residue)]

/-- A write of DC_CTRL (R456, R458, R459): COMMIT, then START, then ABORT. `moved` is what an aborted descriptor's completed
requests have moved. -/
def State.wrDcCtrl (s : State) (d v moved : Nat) : State :=
  let s := if F.DC_CTRL.COMMIT.of v = 1 then s.dcCommit d else s
  let s := if F.DC_CTRL.START.of v = 1 then s.dcStart d else s
  if F.DC_CTRL.ABORT.of v = 1 then s.dcAbort d moved else s

/-- DC_DOORBELL (R451). -/
def execDcDoorbell (m : Master) (d : Fin 32) (pi : BitVec 17) (s : State) : Host.Outcome State Fault Refusal :=
  .next (s.onWrite m (dcB d.val + 0x10) fun s => s.wrDb d.val pi.toNat)

/-- DC_START (R456, R459). -/
def execDcStart (m : Master) (d : Fin 32) (s : State) : Host.Outcome State Fault Refusal :=
  .next (s.onWrite m (dcB d.val) fun s => s.wrDcCtrl d.val (2 ^ 31) 0)

/-- DC_ABORT (R458). -/
def execDcAbort (m : Master) (d : Fin 32) (moved : BitVec 25) (s : State) : Host.Outcome State Fault Refusal :=
  .next (s.onWrite m (dcB d.val) fun s => s.wrDcCtrl d.val (2 ^ 30) moved.toNat)

/-- DC_COMMIT (R456). -/
def execDcCommit (m : Master) (d : Fin 32) (s : State) : Host.Outcome State Fault Refusal :=
  .next (s.onWrite m (dcB d.val) fun s => s.wrDcCtrl d.val (2 ^ 29) 0)

/-- The DMA island faults (R460): accepted descriptors are returned, packets are lost, running channels stop, and DMA_FAULT is
raised once. How many bytes had moved is not stated: a free value up to LEN. -/
def State.dmaFault (s : State) : State :=
  let chans := (List.range 32).filter fun d => decide (s.dcState d = 1)
  let descs := (List.range 32).filter fun d => (s.dch d).desc.isSome
  let s := descs.foldl (fun s d =>
    let s := if (s.dch d).pkt.isSome then s.dcCount d Ctr.DMA.PKT_LOST else s
    let (s, n) := s.takeFree
    let s := s.setDcF d F.DC_CTRL.STATE 2
    s.dmaFinish d 3 (n % (descLen ((s.dch d).desc.getD []) + 1)) 0) s
  let s := chans.foldl (fun s d => (s.dcStop d 4).dcIrq d 5) s
  s.raise Ev.DMA_FAULT 0x3B noInst [(1, chans.length), (1, descs.length)]

/-- Streams end with ABORTED_FAULT when CHK faults (R524). -/
def State.streamsFault (s : State) : State :=
  ((List.range 32).filter fun d => (s.dch d).unit).foldl (fun s d =>
    let s := if (s.dch d).pkt.isSome then s.dcCount d Ctr.DMA.PKT_LOST else s
    let (s, n) := s.takeFree
    s.dmaFinish d 3 (n % (descLen ((s.dch d).desc.getD []) + 1)) 0) s

/-- The host path goes down (R462): running host channels stop with HOST_DOWN, without writeback. -/
def State.pathLost (s : State) : State :=
  let s := s.setF hstB F.HST_STATUS.PATH_DOWN 1
  ((List.range 32).filter fun d => decide (s.dcState d = 1) && !s.dcSteward d).foldl
    (fun s d => ((s.dmaDrop d).dcStop d 5).dcIrq d 6) s

/-- Registers of a range return to their reset values. -/
def State.resetRegs (s : State) (lo hi : Nat) : State :=
  { s with regs := s.regs.filter fun p => decide (p.1 < lo) || decide (hi ≤ p.1) }

/-- Once the Passbook is sealed, RWL fields keep their values over a reset of their island (R67): those of `old` at the registers of
a range. -/
def State.keepSealed (s old : State) (lo hi : Nat) : State :=
  if !old.sealed then s
  else (old.regs.filter fun p => decide (lo ≤ p.1) && decide (p.1 < hi)).foldl (fun s p =>
    match findReg p.1 with
    | none => s
    | some r => (r.fields.filter fun f => decide (f.acc = .rwl)).foldl
        (fun s f => s.setReg p.1 (BitVec.ofNat 32 (f.fld.ins (s.reg p.1).toNat (f.fld.of p.2.toNat)))) s) s

/-- A host channel's registers return to their reset values (R462). -/
def State.dcReset (s : State) (d : Nat) : State :=
  if s.dcSteward d then s
  else ((((s.dmaDrop d).setDch d DmaChan.empty).stopTimer (Tm.stale d)).resetRegs (dcB d) (dcB d + 0x400))

/-- What a reset or a function level reset after RUN returns beside the function's own state (R462, R465). -/
def State.hostReset (s : State) : State :=
  if s.stage = 0xA then
    let s := (s.resetRegs (hstB + 0x100) (hstB + 0x200)).resetRegs evtB (evtB + 0x80)
    let s := { s with evt := { s.evt with ringSeq := [] } }
    (List.range 32).foldl (fun s d => s.dcReset d) s
  else s

/-- The function's MSI-X state returns to its reset values. -/
def State.msixReset (s : State) : State :=
  let s := (List.range 64).foldl (fun s v => s.stopTimer (Tm.msix v)) s
  { s with evt := { s.evt with
      msixCauses := [], msixTable := [], msixPba := [], msixEnable := false, msixFuncMask := false } }

/-- HOST_PATH_DOWN (R462): Bus Master Enable 0, D3hot or a function level reset. -/
def execHostPathDown (why : PathDown) (s : State) : Host.Outcome State Fault Refusal :=
  .next (match why with
    | .flr => s.pathLost.msixReset.hostReset
    | _ => s.pathLost)

/-- HOST_PATH_UP (R462): every condition has ended; the link is up. -/
def execHostPathUp (s : State) : Host.Outcome State Fault Refusal :=
  .next (if s.bit hstB F.HST_STATUS.LINK_UP then s.setF hstB F.HST_STATUS.PATH_DOWN 0 else s)

/-- The link's state is shown and HST_LINK raised (R439, R479). -/
def State.linkGo (s : State) (up : Bool) (speed width : Nat) : State :=
  let s := ((s.setBit hstB F.HST_STATUS.LINK_UP up).setF hstB F.HST_STATUS.SPEED speed).setF hstB F.HST_STATUS.WIDTH width
  s.raise Ev.HST_LINK 0x3A noInst [(1, b2n up), (1, speed), (1, width)]

/-- Errors set their bits of the AER status registers, and HST_PCIE_ERR carries both at most once per 1 ms (R479). -/
def State.aerErrors (s : State) (uncorr corr : Word) : State :=
  let a : Word × Word := (s.evt.aer.1 ||| uncorr, s.evt.aer.2 ||| corr)
  { s with evt := { s.evt with aer := a } }.raiseMs 0 Ev.HST_PCIE_ERR 0x3A noInst [(4, a.1.toNat), (4, a.2.toNat)]

/-- PCIE_LINK_CHANGE (R439, R462, R479): the link comes up at Gen `gen` + 1 on 2 ^ `width` lanes, goes down and takes
the path with it, or has met errors. -/
def execPcieLinkChange (now : LinkNow) (gen : Fin 4) (width : Fin 3) (s : State) : Host.Outcome State Fault Refusal :=
  .next (if !s.live 0x3A then s
    else match now with
      | .up => s.linkGo true (gen.val + 1) (2 ^ width.val)
      | .down => (s.linkGo false 0 0).pathLost
      | .errors uncorr corr => s.aerErrors uncorr corr)

/-- The HST island is reset (R51): its registers but the Passbook's sealed fields, and the function's state. -/
def State.hstReset (s : State) : State := ((s.resetRegs hstB (window 0x3B)).keepSealed s hstB (window 0x3B)).msixReset

/-- PCIE_RESET (R51, R462): a fundamental or hot reset; the link goes down and the stage does not change. -/
def execPcieReset (_hot : Bool) (s : State) : Host.Outcome State Fault Refusal :=
  .next (let s := if s.live 0x3A && s.bit hstB F.HST_STATUS.LINK_UP then s.linkGo false 0 0 else s
    s.pathLost.hstReset.hostReset)

/-! ### The Steward's channels (R410) -/

/-- A write of STW_DC: channels from DC31 downward are given to the Steward, 0 to 4 of them. -/
def State.wrStwDc (s : State) (v : Nat) : State :=
  let s := s.store (stwB + F.STW_DC.COUNT.off) v
  let n := min 4 (s.fld stwB F.STW_DC.COUNT)
  (List.range 4).foldl (fun s i => s.setDcF (31 - i) F.DC_CTRL.STEWARD (b2n (decide (i < n)))) s

/-! ### Scans and scrubs end (R520, R521, R523) -/

/-- CHK_SCAN_DONE (R521): a scan of `data`, the bytes at its address, ends, or ends on a bus error. -/
def execChkScanDone (u : Fin 4) (data : List Byte) (busOk : Bool) (s : State) : Host.Outcome State Fault Refusal :=
  .next (s.onLive 0x3D fun s => if s.fld (chkB u.val) F.CHK_CTRL.USER = 1 then (s.scanEnd u.val data busOk).dmaWake else s)

/-- CHK_SCRUB_DONE (R523): a unit's bank scrub ends, passing or failing. -/
def execChkScrubDone (u : Fin 4) (pass : Bool) (s : State) : Host.Outcome State Fault Refusal :=
  .next (s.onLive 0x3D fun s => if s.fld (chkB u.val) F.CHK_CTRL.USER = 3 then (s.scrubEnd u.val pass).dmaWake else s)

end Sys2Proof.Machine
end

