-- ==== Sys2Proof/Machine/Power.lean ====
section
/-! DEFINITION. Power states (R480 to R489), wake failure and the lost crystal (R490, R491), voltage and frequency (R493 to
R495, R542), supply sag (R496 to R498) and the temperature sensors (R553, R556). -/

namespace Sys2Proof.Machine

def Tm.delayMax : Nat := 0x70020
def Tm.wakeTimer : Nat := 0x70021
def Tm.settle : Nat := 0x70022

/-! ### Islands and their clocks -/

/-- The island whose clock a timer counts. -/
def timerIsland (id : Nat) : Nat :=
  let k := id / 0x10000
  if k = 1 then 0x04
  else if k = 2 then (if id = Tm.swapStuck then 0x22 else 0x24)
  else if k = 3 then 0x08 + id % 0x10000 / 16
  else if k = 4 then 0x10 + id % 0x10000 / 256
  else if k = 5 then 0x30 + id % 0x10000
  else if k = 6 then 0x30 + id % 0x10000 / 128
  else if id < 0x70010 then 0x2C
  else if id < 0x70020 then 0x3F
  else if id < 0x71000 then 0x00
  else if id < 0x72000 then 0x3C
  else 0x3B

/-- An island's clock stops: its timers stand still. -/
def State.stopClock (s : State) (id : Nat) : State :=
  let mine := s.timers.filter fun p => decide (timerIsland p.1 = id)
  mine.foldl (fun s p =>
    { s.stopTimer p.1 with pwr := { s.pwr with frozen := SMap.set (fun _ => 0) s.pwr.frozen p.1 (p.2 - s.now) } }) s

/-- An island's clock runs again: its timers go on. -/
def State.startClock (s : State) (id : Nat) : State :=
  let mine := s.pwr.frozen.filter fun p => decide (timerIsland p.1 = id)
  mine.foldl (fun s p =>
    { s.startTimer p.1 (p.2 - 1) with pwr := { s.pwr with frozen := SMap.set (fun _ => 0) s.pwr.frozen p.1 0 } }) s

/-- The islands of R13, in ascending order. -/
def allIslands : List Nat := (List.range 64).filter fun i => (islandInst i).isSome

/-- A set of islands as the two words of a register pair. -/
def islWords (l : List Nat) : Nat × Nat :=
  (((l.filter (· < 32)).map fun i => 2 ^ i).sum, ((l.filter (32 ≤ ·)).map fun i => 2 ^ (i - 32)).sum)

/-- An island enters Keep: its clock stops and its power is gated, and it is not live (R480, R484). -/
def State.keepIsland (s : State) (id : Nat) : State := (s.stopClock id).setLive id false

/-- What an island finds when its clock and power are back: the light's clock and the lanes' PLLs and clocks are to be
recovered anew (R165, R171). -/
def State.wakeLanes (s : State) (id : Nat) : State :=
  if id = 0x08 ∨ id = 0x09 then ((s.setPf (id - 0x08) F.PN_RX_STAT.CDR_LOCK 0).showLos (id - 0x08)).showSynceOut
  else if 0x10 ≤ id ∧ id ≤ 0x1B then
    let s := (s.setPllLock (id - 0x10) 0 false).setPllLock (id - 0x10) 1 false
    ((quadPorts (id - 0x10)).foldl (fun s n => (s.setTq n F.TQ_LANE_STAT.CDR_LOCK 0).syncLost n) s).showSynceOut
  else s

/-- An island leaves Keep with its state restored (R487). -/
def State.wakeIsland (s : State) (id : Nat) : State := ((s.setLive id true).startClock id).wakeLanes id

/-! ### Power states (R480 to R486) -/

/-- STATE and PHASE of AON_PWR_STAT. -/
def State.pwrState (s : State) : Nat := s.fld aonB F.AON_PWR_STAT.STATE
def State.pwrPhase (s : State) : Nat := s.fld aonB F.AON_PWR_STAT.PHASE
def State.setPhase (s : State) (v : Nat) : State := s.setF aonB F.AON_PWR_STAT.PHASE v

/-- The islands P1 may keep (R483). -/
def trimIslands : List Nat := [0x25, 0x30, 0x31, 0x32, 0x33, 0x34, 0x35, 0x36, 0x37, 0x38, 0x3A, 0x3B, 0x3D, 0x3E]

/-- The islands P2 keeps (R480). -/
def holdIslands : List Nat :=
  [0x0A, 0x0B, 0x20, 0x21, 0x22, 0x24, 0x25, 0x28, 0x29, 0x30, 0x31, 0x32, 0x33, 0x34, 0x35, 0x36, 0x37, 0x38, 0x3B, 0x3D, 0x3E]

/-- The live islands a state places in Keep, in ascending order (R480, R482, R483). -/
def State.keepSet (s : State) (target : Nat) : List Nat :=
  let l := if target = 1 then trimIslands.filter fun i => s.bit aonB (islBit 0x134 i)
    else if target = 2 then holdIslands
    else allIslands.filter (· ≠ 0)
  l.filter s.live

/-- The levels of the level wake sources (R485). -/
def State.wakeLevels (s : State) : Nat :=
  let st := if s.pwrPhase = 1 ∨ s.pwrPhase = 2 then s.pwr.target else s.pwrState
  let gpio := ((List.range 16).filter fun k =>
    s.pwr.gpio.testBit k && !(s.fld aonB F.AON_WAKE_TYPE.EDGE).testBit k).map (2 ^ ·)
  let light (c : Nat) : Bool := (s.pn c).rxlos == s.bit (pnB c) F.PN_RX_CTRL.LOS_POL
  let frame := (decide (st = 1) || decide (st = 2)) && (List.range 48).any fun n => decide (s.tqF n F.TQ_WAKE_STAT.MATCH ≠ 0)
  gpio.sum + b2n s.pwr.timerOut * 2 ^ 16 + b2n (light 0) * 2 ^ 17 + b2n (light 1) * 2 ^ 18 + b2n frame * 2 ^ 19

/-- The enabled level sources that are active. -/
def State.wakeMask (s : State) : Nat := Nat.land s.wakeLevels (s.fld aonB F.AON_WAKE_EN.EN)

/-- An entry is aborted (R482): REFUSED, CAUSE and ISL, PWR_REFUSALS and PWR_REFUSED. -/
def State.pwrAbort (s : State) (cause isl : Nat) : State :=
  let s := (s.setF aonB F.AON_PWR_STAT.REFUSED 1).setF aonB F.AON_PWR_STAT.CAUSE cause
  let s := (s.setF aonB F.AON_PWR_STAT.ISL isl).stopTimer Tm.delayMax
  let s := { s.setPhase 0 with pwr := { s.pwr with asked := [], commit := [], done := [] } }
  (s.count (aonB + Ctr.AON.PWR_REFUSALS)).raise Ev.PWR_REFUSED 0x00 noInst [(1, s.pwr.target), (1, cause), (1, isl)]

/-- STATE changes, and PWR_STATE carries the wake sources. -/
def State.stateGo (s : State) (new : Nat) : State :=
  let old := s.pwrState
  (s.setF aonB F.AON_PWR_STAT.STATE new).raise Ev.PWR_STATE 0x00 noInst
    [(1, old), (1, new), (3, s.fld aonB F.AON_WAKE_STAT.CAUSE)]

/-- The last island of an exit is live (R487): STATE becomes P0, unless a stopped commit leaves it as it was (R486). -/
def State.exitDone (s : State) : State :=
  let s := if s.pwr.undo then s else s.stateGo 0
  { s.setPhase 4 with pwr := { s.pwr with undo := false } }

/-- An exit begins for a set of kept islands, recording the wake sources that cause it (R485, R487). -/
def State.exitBegin (s : State) (l : List Nat) (undo : Bool) (mask : Nat) : State :=
  let s := (s.setF aonB F.AON_WAKE_STAT.CAUSE mask).setPhase 3
  let s := s.stopTimer Tm.wakeTimer
  let s := { s with pwr := { s.pwr with exits := l.mergeSort (· ≤ ·), undo, retried := false, timerOut := false } }
  if l.isEmpty then s.exitDone else s

/-- Wake sources act (R485, R486): they abort an asking entry, stop a commit, or start an exit. -/
def State.wake (s : State) (mask : Nat) : State :=
  if mask = 0 then s
  else if s.pwrPhase = 1 then s.pwrAbort 3 0xFF
  else if s.pwrPhase = 2 then
    let l := s.pwr.done
    (s.pwrAbort 3 0xFF).exitBegin l true mask
  else if s.pwrPhase = 0 ∧ s.pwrState ≠ 0 then s.exitBegin s.pwr.kept false mask
  else s

/-- Every island of the entry has committed (R484): STATE takes the target, the wake timer starts, and a level source that is
active starts an exit at once (R486). In P3 the PLLs stop (R480). -/
def State.entryDone (s : State) : State :=
  let t := s.pwr.target
  let s := (s.setF aonB F.AON_WAKE_STAT.CAUSE 0).setPhase 0
  let s := ({ s with pwr := { s.pwr with done := [], timerOut := false } }).count (aonB + Ctr.AON.PWR_ENTRIES)
  let s := s.stateGo t
  let s := if t = 3 then s.setF aonB F.AON_CLK_CTRL.PLL_READY 0 else s
  let ms := s.fld aonB F.AON_WAKE_TIMER.MS
  let s := if ms = 0 then s else s.startTimer Tm.wakeTimer (ms * msTicks)
  s.wake s.wakeMask

/-- Every island asked has replied ACK: they commit in descending order (R484). -/
def State.commitBegin (s : State) : State :=
  if !s.pwr.asked.isEmpty then s
  else
    let l := (s.keepSet s.pwr.target).reverse
    let s := (s.setPhase 2).stopTimer Tm.delayMax
    let s := { s with pwr := { s.pwr with commit := l, done := [] } }
    if l.isEmpty then s.entryDone else s

/-- A write of AON_PWR_CTRL (R481): a wrong KEY, or a GO while PHASE is not idle, discards it. A change to a shallower state
runs an exit, which ends in P0 (R487); from P3 only a wake source leaves (R480). -/
def State.wrPwrCtrl (s : State) (v : Nat) : State :=
  let go := decide (F.AON_PWR_CTRL.GO.of v = 1)
  if decide (F.AON_PWR_CTRL.KEY.of v ≠ 0xA5C3) || (go && decide (s.pwrPhase ≠ 0)) then s
  else
    let t := F.AON_PWR_CTRL.TARGET.of v
    let s := s.setF aonB F.AON_PWR_CTRL.TARGET t
    let now := s.pwrState
    if !go || decide (3 < t) || decide (t = now) || decide (now = 3) then s
    else if t < now then s.exitBegin s.pwr.kept false 0
    else
      let ask := s.keepSet t ++ (if t = 2 then [0x08, 0x09].filter s.live else [])
      let s := (s.setF aonB F.AON_PWR_STAT.ISL 0xFF).setF aonB F.AON_PWR_STAT.CAUSE 0
      let s : State := { s.setPhase 1 with pwr := { s.pwr with target := t, asked := ask, commit := [], done := [] } }
      let s := s.startTimer Tm.delayMax (max 1 (s.fld aonB F.AON_PWR_CFG.DELAY_MAX) * usTicks)
      let s : State := s.wake s.wakeMask
      if s.pwrPhase = 1 then s.commitBegin else s

/-- PWR_GO (R481). -/
def execPwrGo (m : Master) (key : BitVec 16) (target : BitVec 3) (s : State) : Host.Outcome State Fault Refusal :=
  .next (s.onWrite m (aonB + 0x100) fun s => s.wrPwrCtrl (key.toNat * 65536 + 2 ^ 7 + target.toNat))

/-! ### Replies (R482, R483) -/

/-- A reply to an entry request. -/
inductive Reply where
  | ack | delay | refuse
  deriving DecidableEq, Repr

/-- Whether an island must refuse (R483). -/
def State.refuses (s : State) (id : Nat) : Bool :=
  let t := s.pwr.target
  if id = 0x08 ∨ id = 0x09 then
    let c := id - 0x08
    decide (s.svc c ≠ 2) && (decide (t = 3) || decide (s.ps c ≠ 3))
  else if t ≠ 1 then false
  else if id = 0x25 then (List.range 32).any fun e => decide (s.engState e ≠ 2)
  else if 0x30 ≤ id ∧ id ≤ 0x37 then decide (s.mcState (id - 0x30) ≠ 2)
  else if id = 0x38 then (List.range 8).any fun c => decide (s.mcState c ≠ 2)
  else if id = 0x3A then !s.pathDown
  else false

/-- Whether a condition that State shows makes an island delay (R483, R499). -/
def State.delays (s : State) (id : Nat) : Bool :=
  s.draining.contains id ||
    (decide (id = 0x3B) && (List.range 32).any fun d => (s.dch d).desc.isSome) ||
    (decide (id = 0x3D) && (List.range 4).any s.chkBusy)

/-- The islands whose reply also rests on what is in flight at their crossings, on the PCIe link or on the Steward's
firmware, which the reply itself brings (R483). -/
def repliesFree (id : Nat) : Bool :=
  decide (id = 0x0A) || decide (id = 0x0B) || (decide (0x20 ≤ id) && decide (id ≤ 0x24)) || decide (id = 0x28) ||
    decide (id = 0x29) || decide (id = 0x3A)

/-- The reply of an island: what R483 gives it, `r` where its condition lies outside State. -/
def State.replyOf (s : State) (id : Nat) (r : Reply) : Reply :=
  if !s.live id then .ack
  else if s.refuses id then .refuse
  else if s.delays id then .delay
  else if id = 0x3F then (if s.stwState = 3 then .ack else r)
  else if repliesFree id then (if r = .ack then .ack else .delay)
  else .ack

/-- ISLAND_POWER_REPLY (R482, R483): an asked island replies, or replies again when its delay ends. -/
def execIslandPowerReply (isl : Fin 64) (reply : Fin 3) (s : State) : Host.Outcome State Fault Refusal :=
  .next <|
    if s.pwrPhase ≠ 1 ∨ s.pwr.asked.contains isl.val = false then s
    else
      match s.replyOf isl.val (if reply.val = 0 then .ack else if reply.val = 1 then .delay else .refuse) with
      | .refuse => s.pwrAbort 1 isl.val
      | .delay => s.setF aonB F.AON_PWR_STAT.ISL isl.val
      | .ack => ({ s with pwr := { s.pwr with asked := s.pwr.asked.filter (· ≠ isl.val) } }).commitBegin

/-- PWR_DELAY_MAX_EXPIRY (R482): ISL names an island that still delays. -/
def execPwrDelayMaxExpiry (s : State) : Host.Outcome State Fault Refusal :=
  .next (s.expire Tm.delayMax fun s =>
    if s.pwrPhase ≠ 1 then s
    else
      let last := s.fld aonB F.AON_PWR_STAT.ISL
      s.pwrAbort 2 (if s.pwr.asked.contains last then last else s.pwr.asked.headD 0xFF))

/-! ### Commit (R484) -/

/-- What an island's commit does beside Keep: TIM's counting stops (R488), and in P3 the PCIe link goes down (R480). -/
def State.commitSide (s : State) (id : Nat) : State :=
  if id = 0x04 then { s with pwr := { s.pwr with timHold := some s.now } }
  else if id = 0x3A ∧ s.pwr.target = 3 then (if s.bit hstB F.HST_STATUS.LINK_UP then s.linkGo false 0 0 else s).pathLost
  else s

/-- Whether a DRAM channel still has requests outstanding: its commit waits for the last (R484). -/
def State.mcWaits (s : State) (id : Nat) : Bool :=
  decide (0x30 ≤ id) && decide (id ≤ 0x37) && !((s.mc (id - 0x30)).reqs.isEmpty && (s.mc (id - 0x30)).reads.isEmpty)

/-- The next island commits; one that is no longer live has nothing to commit. -/
def State.commitOne (s : State) (id : Nat) (rest : List Nat) : State :=
  if !s.live id then { s with pwr := { s.pwr with commit := rest } }
  else
    let s := (s.commitSide id).keepIsland id
    { s with pwr := { s.pwr with commit := rest, done := s.pwr.done ++ [id], kept := s.pwr.kept ++ [id] } }

/-- ISLAND_COMMIT_STEP (R484, R486): the next island commits in 4 AON clocks, and the level sources are sampled in the
fifth. -/
def execIslandCommitStep (s : State) : Host.Outcome State Fault Refusal :=
  .next <|
    match s.pwr.commit with
    | [] => s
    | id :: rest =>
      if s.pwrPhase ≠ 2 ∨ s.mcWaits id = true then s
      else
        let s := s.commitOne id rest
        if rest.isEmpty then s.entryDone else s.wake s.wakeMask

/-! ### Wake sources (R485, R486) -/

/-- What a wake source does to the pins: a GPIO takes its level. -/
def State.wakePin (s : State) (k : Nat) (high : Bool) : State :=
  if k < 16 then { s with pwr := { s.pwr with gpio := putPrio s.pwr.gpio k high } } else s

/-- Whether a happening is an edge of an edge source (R485): a GPIO's rise, PERST_N or CS_N. -/
def State.wakeEdge (s : State) (k : Nat) (high : Bool) : Bool :=
  if k < 16 then high && !s.pwr.gpio.testBit k && (s.fld aonB F.AON_WAKE_TYPE.EDGE).testBit k else decide (20 ≤ k)

/-- WAKE_EVENT (R485, R486): a source acts; `high` is a GPIO's new level. An edge inside a commit window is lost. -/
def execWakeEvent (src : Fin 22) (high inWindow : Bool) (s : State) : Host.Outcome State Fault Refusal :=
  .next <|
    let edge := s.wakeEdge src.val high
    let s := s.wakePin src.val high
    let en := (s.fld aonB F.AON_WAKE_EN.EN).testBit src.val
    if s.pwrPhase = 2 ∧ inWindow = true then s
    else s.wake (Nat.lor s.wakeMask (if edge && en then 2 ^ src.val else 0))

/-- WAKE_TIMER_EXPIRY (R485): the timer acts as a level source. -/
def execWakeTimerExpiry (s : State) : Host.Outcome State Fault Refusal :=
  .next (s.expire Tm.wakeTimer fun s =>
    let s := { s with pwr := { s.pwr with timerOut := true } }
    s.wake s.wakeMask)

/-! ### Exit (R487 to R490) -/

/-- The raw count advances by the crystal cycles counted while TIM's clock stood still: 50 for each of 40 ns (R488). -/
def State.timResume (s : State) : State :=
  match s.pwr.timHold with
  | none => s
  | some t =>
    let n := if s.bit timB F.TIM_STAT.RUN then 50 * ((s.now - t) / 50) else 0
    { s with tim := { s.tim with rawN := (s.tim.rawN + n) % 2 ^ 64 }, pwr := { s.pwr with timHold := none } }

/-- What an island's exit brings beside its state (R489): a DRAM channel with contents retrains, wanted ports pass through
RETURN after P3, and TIM goes on where its PLL has stayed locked. -/
def State.exitSide (s : State) (id : Nat) : State :=
  if 0x30 ≤ id ∧ id ≤ 0x37 then
    let c := id - 0x30
    if s.mcState c < 2 then
      ((s.setMcF c F.MC_STAT.PHASE 1).setMcF c F.MC_TRAIN_STAT.ATTEMPTS 0).setMcF c F.MC_TRAIN_STAT.PASS 0
    else s
  else if 0x10 ≤ id ∧ id ≤ 0x1B then
    ((quadPorts (id - 0x10)).filter fun n => s.bit (tqB n) F.TQ_PORT_SVC.WANT && decide (s.portState n = 0)).foldl
      (fun s n => s.svcTo n 2) s
  else if id = 0x04 ∧ s.bit aonB F.AON_CLK_CTRL.PLL_READY = true then s.timResume
  else s

/-- An island is taken off the exit's list. -/
def State.exitNext (s : State) : State :=
  let s := { s with pwr := { s.pwr with
    exits := s.pwr.exits.tail, kept := s.pwr.kept.filter (· ≠ s.pwr.exits.headD 0), retried := false } }
  if s.pwr.exits.isEmpty then s.exitDone else s

/-- An island is back on the fast oscillator; the scaled islands among them show in ON_FAST (R487, R493). -/
def State.onFast (s : State) (id : Nat) : State :=
  let s := { s with pwr := { s.pwr with fast := s.pwr.fast ++ [id] } }
  if 0x20 ≤ id ∧ id ≤ 0x29 then s.setF aonB F.AON_CLK_CTRL.ON_FAST 1 else s

/-- ISLAND_EXIT_STEP (R487): the next kept island is powered, clocked, restored and live. -/
def execIslandExitStep (s : State) : Host.Outcome State Fault Refusal :=
  .next <|
    match s.pwr.exits with
    | [] => s
    | id :: _ => if s.pwrPhase = 3 then (((s.onFast id).wakeIsland id).exitSide id).exitNext else s

/-! ### Island service and wake failure (R490, R501) -/

/-- An island is marked OUT or dark, or neither. -/
def State.markIsl (s : State) (id : Nat) (out dark : Bool) : State :=
  (s.setBit aonB (islBit 0x124 id) out).setBit aonB (islBit 0x12C id) dark

/-- ISL_SVC (R501): an island's change between 0 IN, 1 OUT and 2 DARK, with AON_ISL_CMD.CAUSE. -/
def State.islSvc (s : State) (id old new : Nat) : State :=
  s.raise Ev.ISL_SVC 0x00 noInst [(1, id), (1, old), (1, new), (1, s.fld aonB F.AON_ISL_CMD.CAUSE)]

/-- An island that a command returns: PNA comes with BCA, and PNB with BCB (R502). -/
def islGroup (id : Nat) : List Nat := if id = 0x08 ∨ id = 0x09 then [id, id + 2] else [id]

/-- The command ends with a cause. -/
def State.islEnd (s : State) (cause : Nat) : State :=
  let s := { s with pwr := { s.pwr with svc := none, retried := false } }
  (s.setF aonB F.AON_ISL_CMD.BUSY 0).setF aonB F.AON_ISL_CMD.CAUSE cause

/-- A return fails (R501): the islands are dark, with CAUSE 100. -/
def State.returnFails (s : State) (id : Nat) : State :=
  let l := (islGroup id).filter fun i => s.islOut i || s.islDark i
  let s := s.islEnd 4
  l.foldl (fun s i =>
    let old := if s.islDark i then 2 else 1
    (s.markIsl i false true).islSvc i old 2) s

/-- A step of an exit or a return fails on a resource, 0 regulator or 1 oscillator (R490): it is retried once, then the island
is dark. -/
def State.stepFails (s : State) (id res : Nat) : State :=
  let exiting := decide (s.pwrPhase = 3) && decide (s.pwr.exits.head? = some id)
  let returning := match s.pwr.svc with
    | some p => (islGroup p.1).contains id && !s.live p.1
    | none => false
  if !(exiting || returning) then s
  else if !s.pwr.retried then
    ({ s with pwr := { s.pwr with retried := true } }).count (aonB + Ctr.AON.WAKE_RETRIES)
  else
    let s := (s.count (aonB + Ctr.AON.WAKE_FAILS)).raise Ev.WAKE_FAIL 0x00 noInst [(1, id), (1, res)]
    if exiting then (s.markIsl id false true).exitNext
    else match s.pwr.svc with
      | some p => s.returnFails p.1
      | none => s

/-- REGULATOR_READY_TIMEOUT (R490). -/
def execRegulatorReadyTimeout (isl : Fin 64) (s : State) : Host.Outcome State Fault Refusal := .next (s.stepFails isl.val 0)

/-- OSCILLATOR_READY_TIMEOUT (R490). -/
def execOscillatorReadyTimeout (isl : Fin 64) (s : State) : Host.Outcome State Fault Refusal := .next (s.stepFails isl.val 1)

/-! ### Clocks (R487, R488, R491) -/

/-- A write of AON_CLK_CTRL (R487, R491): SWITCH moves the islands to their PLL clocks. -/
def State.wrClkCtrl (s : State) (v : Nat) : State :=
  if F.AON_CLK_CTRL.SWITCH.of v = 0 ∨ s.pwrPhase ≠ 4 ∨ s.bit aonB F.AON_CLK_CTRL.PLL_READY = false ∨
      s.boot.xtalLost = true then s
  else
    let w := islWords (s.pwr.fast.eraseDups.filter s.live)
    let s := { (s.setPhase 0).setF aonB F.AON_CLK_CTRL.ON_FAST 0 with pwr := { s.pwr with fast := [] } }
    s.raise Ev.PWR_CLK_SWITCH 0x00 noInst [(4, w.1), (4, w.2)]

/-- CLK_SWITCH (R487). -/
def execClkSwitch (m : Master) (s : State) : Host.Outcome State Fault Refusal :=
  .next (s.onWrite m (aonB + 0x11C) fun s => s.wrClkCtrl (2 ^ 31))

/-- P3_EXIT_PLL_LOCK (R487, R488): the PLLs lock, TIM's count catches up, and the servo goes to HOLDOVER. -/
def execP3ExitPllLock (s : State) : Host.Outcome State Fault Refusal :=
  .next <|
    if s.pwr.timHold.isNone ∨ s.live 0x04 = false ∨ s.pwrState = 3 then s
    else
      let s := if s.boot.xtalLost then s else s.setF aonB F.AON_CLK_CTRL.PLL_READY 1
      s.timResume.servoHold 1

/-- The crystal's loss at the ports and channels (R322, R491): transmitters are inhibited, the servo stays OFF, and ports are
held in RETURN without LINK. -/
def State.xtalSides (s : State) : State :=
  let s := (s.setInh 0 1 true).setInh 1 1 true
  let s := ((s.setF timB F.TIM_STAT.XTAL_FB 1).stopTimer Tm.servoSrc).stopTimer Tm.holdLimit
  let s := s.servoGo 0
  ((List.range 48).filter fun n => decide (s.portState n = 0)).foldl (fun s n => (s.syncLost n).svcTo n 2) s

/-- CRYSTAL_LOST (R491): `ms` is the time since the crystal stopped. -/
def execCrystalLost (ms : BitVec 16) (s : State) : Host.Outcome State Fault Refusal :=
  .next <|
    if s.boot.por || s.boot.xtalLost || s.bit aonB F.AON_BOOT_STAT.XTAL_FB || decide (s.stage ≤ 2) then s
    else
      let s := { s with boot := { s.boot with xtalLost := true } }
      let s := (s.setF aonB F.AON_CLK_CTRL.PLL_READY 0).setF aonB F.AON_CLK_CTRL.ON_FAST 1
      (s.raise Ev.PWR_XTAL_LOST 0x00 noInst [(2, ms.toNat)]).xtalSides

/-! ### Voltage and frequency (R493 to R495, R542) -/

/-- A VOLT as it acts: outside 650 to 850 the nearer limit (R507). -/
def actVolt (v : Nat) : Nat := min 850 (max 650 v)

/-- The lowest VOLT of a FREQ (R493). -/
def lowVolt (f : Nat) : Nat := if f = 0 then 750 else if f = 1 then 700 else 650

/-- A refusal (R494): register 0 VOLT or 1 FREQ, the value requested and the value in force. -/
def State.dvfsRefused (s : State) (reg want have_ : Nat) : State :=
  let s := (s.setF aonB F.AON_DVFS_STAT.DVFS_ORDER 1).count (aonB + Ctr.AON.DVFS_ORDER)
  s.raise Ev.PWR_DVFS_ORDER 0x00 noInst [(1, reg), (2, want), (2, have_)]

/-- A change completes (R495). -/
def State.dvfsDone (s : State) : State :=
  s.raise Ev.PWR_DVFS_DONE 0x00 noInst [(2, s.fld aonB F.AON_DVFS_STAT.VOLT), (1, s.fld aonB F.AON_DVFS_STAT.FREQ)]

/-- The VOUT_COMMAND code nearest to a voltage in mV, for VOUT_MODE's exponent (R542); which of two equally near codes is a
free value. -/
def State.voutCode (s : State) (mv : Nat) : State × Nat :=
  let e := s.pwr.voutExp
  let num := if e < 0 then mv * 2 ^ (-e).toNat else mv
  let den := if e < 0 then 1000 else 1000 * 2 ^ e.toNat
  let r := 2 * (num % den)
  if r < den then (s, num / den)
  else if den < r then (s, num / den + 1)
  else
    let (s, free) := s.takeFree
    (s, num / den + free % 2)

/-- A write of AON_DVFS_V (R494, R495, R542): `acks` is whether the regulator acknowledges within one retry. -/
def State.wrDvfsV (s : State) (v : Nat) (acks : Bool) : State :=
  let raw := F.AON_DVFS_V.VOLT.of v
  let mv := actVolt raw
  let f := s.fld aonB F.AON_DVFS_STAT.FREQ
  let low := max (lowVolt f) (if s.bit aonB F.AON_DVFS_STAT.F_BUSY then lowVolt (s.fld aonB F.AON_DVFS_F.FREQ) else 0)
  if s.bit aonB F.AON_DVFS_STAT.V_BUSY then s
  else if mv < low then s.dvfsRefused 0 raw (s.fld aonB F.AON_DVFS_STAT.VOLT)
  else
    let (s, code) := (s.setF aonB F.AON_DVFS_V.VOLT raw).voutCode mv
    let s := s.emit (.pmbus (0x40 + s.pwr.vrAddr) code)
    if acks then
      (s.setF aonB F.AON_DVFS_STAT.V_BUSY 1).startTimer Tm.settle (max 1 (s.fld aonB F.AON_DVFS_CFG.SETTLE) * usTicks)
    else s.dvfsDone

/-- DVFS_VOLT_WRITE (R494, R495). -/
def execDvfsVoltWrite (m : Master) (volt : BitVec 10) (acks : Bool) (s : State) : Host.Outcome State Fault Refusal :=
  .next (s.onWrite m (aonB + 0x140) fun s => s.wrDvfsV volt.toNat acks)

/-- A write of AON_DVFS_F (R494, R495). -/
def State.wrDvfsF (s : State) (v : Nat) : State :=
  let f := F.AON_DVFS_F.FREQ.of v
  let mv := s.fld aonB F.AON_DVFS_STAT.VOLT
  let mv := if s.bit aonB F.AON_DVFS_STAT.V_BUSY then min mv (actVolt (s.fld aonB F.AON_DVFS_V.VOLT)) else mv
  if s.bit aonB F.AON_DVFS_STAT.F_BUSY then s
  else if mv < lowVolt f then s.dvfsRefused 1 f (s.fld aonB F.AON_DVFS_STAT.FREQ)
  else (s.setF aonB F.AON_DVFS_F.FREQ f).setF aonB F.AON_DVFS_STAT.F_BUSY 1

/-- DVFS_FREQ_WRITE (R494, R495). -/
def execDvfsFreqWrite (m : Master) (freq : BitVec 2) (s : State) : Host.Outcome State Fault Refusal :=
  .next (s.onWrite m (aonB + 0x144) fun s => s.wrDvfsF freq.toNat)

/-- DVFS_SETTLE_EXPIRY (R495): the new voltage is in force. -/
def execDvfsSettleExpiry (s : State) : Host.Outcome State Fault Refusal :=
  .next (s.expire Tm.settle fun s =>
    ((s.setF aonB F.AON_DVFS_STAT.VOLT (actVolt (s.fld aonB F.AON_DVFS_V.VOLT))).setF aonB F.AON_DVFS_STAT.V_BUSY 0).dvfsDone)

/-- DVFS_FREQ_DONE (R495): the new frequency is in force; 11 acts as 10. -/
def execDvfsFreqDone (s : State) : Host.Outcome State Fault Refusal :=
  .next <|
    if s.bit aonB F.AON_DVFS_STAT.F_BUSY then
      ((s.setF aonB F.AON_DVFS_STAT.FREQ (min 2 (s.fld aonB F.AON_DVFS_F.FREQ))).setF aonB F.AON_DVFS_STAT.F_BUSY 0).dvfsDone
    else s

/-! ### Supply sag (R134, R496 to R498) -/

/-- Dying gasp is set on a channel, and PN_GASP raised once with its source, 0 PWR_FAIL_N or 1 the 3.3 V monitor (R134, R140). -/
def State.gasp (s : State) (c src : Nat) : State :=
  if s.bit (pnB c) F.PN_US_STAT.GASP then s
  else (s.setPf c F.PN_US_STAT.GASP 1).pRaise c 13 Ev.PN_GASP [(1, src)]

/-- The gasp record (R497). -/
def State.gaspRecord (s : State) : List Byte :=
  let src := b2n (s.bit aonB F.AON_SAG_STAT.SRC_PIN) + 2 * b2n (s.bit aonB F.AON_SAG_STAT.SRC_3V3)
  leBytes 2 (s.fld aonB F.AON_BOOT_STAT.BOOT_COUNT) ++ leBytes 1 src ++ leBytes 1 s.pwrState ++ leBytes 4 0 ++ leBytes 8 (timeSec s.timeNow) ++
    leBytes 4 (timeNs s.timeNow) ++ leBytes 4 (s.reg (aonB + 0x10)).toNat ++ leBytes 4 (s.reg (aonB + 0x14)).toNat ++ leBytes 36 0

/-- The gasp record is written, or skipped where a line under way delays its start beyond 0.8 µs (R497). -/
def State.gaspWrite (s : State) (late : Bool) : State :=
  let s := s.setBit aonB F.AON_SAG_STAT.GASP_WRITTEN (!late)
  if late then s.count (aonB + Ctr.AON.GASP_SKIPPED)
  else
    let l := s.ledger.gasps ++ [s.gaspRecord]
    { s with ledger := { s.ledger with gasps := l.drop (l.length - 16) } }

/-- SAG_ONSET (R496): PWR_FAIL_N, the 3.3 V monitor or both; a second source in a sag only shows. -/
def execSagOnset (pin mon : Bool) (mv : BitVec 16) (late : Bool) (s : State) : Host.Outcome State Fault Refusal :=
  .next <|
    if s.boot.por || !(pin || mon) then s
    else
      let old := s.sagging
      let s := if pin then s.setF aonB F.AON_SAG_STAT.SRC_PIN 1 else s
      let s := (if mon then s.setF aonB F.AON_SAG_STAT.SRC_3V3 1 else s).setF aonB F.AON_SAG_STAT.MV_3V3 mv.toNat
      if old then s
      else
        let s := { s.setF aonB F.AON_SAG_STAT.SAG 1 with pwr := { s.pwr with sagAt := s.now } }
        let s := (s.count (aonB + Ctr.AON.SAGS)).raise Ev.PWR_SAG 0x00 noInst [(1, b2n (!pin))]
        ((((s.gaspWrite late).fuseCut).flashCut).gasp 0 (b2n (!pin))).gasp 1 (b2n (!pin))

/-- SAG_CLEAR (R498): the supplies have been good for 10 ms. -/
def execSagClear (mv : BitVec 16) (s : State) : Host.Outcome State Fault Refusal :=
  .next <|
    if s.sagging = false then s
    else
      let ms := min 65535 ((s.now - s.pwr.sagAt) / msTicks)
      let s := ((s.setF aonB F.AON_SAG_STAT.SAG 0).setF aonB F.AON_SAG_STAT.SRC_PIN 0).setF aonB F.AON_SAG_STAT.SRC_3V3 0
      (s.setF aonB F.AON_SAG_STAT.MV_3V3 mv.toNat).raise Ev.PWR_SAG_CLEAR 0x00 noInst [(2, ms)]

/-! ### Temperature (R553, R556) -/

/-- TEMP_SENSOR_READ (R553, R556): `hot` is the hottest of the twelve sensors, signed, in units of 0.25 °C. -/
def execTempSensorRead (hot : BitVec 12) (s : State) : Host.Outcome State Fault Refusal :=
  .next <|
    let t := hot.toInt
    let peak := s.sfld aonB F.AON_TEMP.PEAK
    let s := if s.bit aonB F.AON_TEMP.VALID = false ∨ peak < t then s.setF aonB F.AON_TEMP.PEAK hot.toNat else s
    let s := (s.setF aonB F.AON_TEMP.TEMP hot.toNat).setF aonB F.AON_TEMP.VALID 1
    let lim := s.sfld aonB F.AON_TEMP_CFG.ALERT
    let al := if lim ≤ t then true else if t ≤ lim - 8 then false else s.pwr.talert
    { s with pwr := { s.pwr with talert := al, trip := s.pwr.trip || decide (500 ≤ t) } }

end Sys2Proof.Machine
end

