-- ==== Sys2Proof/Machine/Repair.lean ====
section
/-! DEFINITION. Faults in flight (R23, R24, R499, R500), island service (R501, R502), the aging sweeper's visits (R223, R233)
and the cipher engines' compare mismatch (R375). -/

namespace Sys2Proof.Machine

/-! ### Island service (R501, R502) -/

/-- Whether a command may take an island out (R502). -/
def islPermitted (id : Nat) : Bool :=
  decide (id = 0x08) || decide (id = 0x09) || (decide (0x10 ≤ id) && decide (id ≤ 0x1B)) || decide (id = 0x25) ||
    (decide (0x30 ≤ id) && decide (id ≤ 0x38)) || decide (id = 0x3B) || decide (id = 0x3D) || decide (id = 0x3E)

/-- The precondition of an island's take-out (R502). -/
def State.islReady (s : State) (id : Nat) : Bool :=
  if 0x10 ≤ id ∧ id ≤ 0x1B then s.bit (quadB (id - 0x10)) F.TQ_QUAD_STAT.ALL_OUT
  else if id = 0x08 ∨ id = 0x09 then decide (s.svc (id - 0x08) = 2)
  else if id = 0x25 then (List.range 32).all fun e => decide (s.engState e = 2)
  else if 0x30 ≤ id ∧ id ≤ 0x37 then decide (s.mcState (id - 0x30) = 2)
  else if id = 0x38 then (List.range 8).all fun c => decide (s.mcState c = 2)
  else if id = 0x3D then (List.range 4).all fun u => !s.chkBusy u
  else if id = 0x3B then (List.range 32).all fun d => decide (s.dcState d ≠ 1)
  else true

/-- The islands of a take-out that are live are OUT, in descending order (R484, R502). -/
def State.takeOut (s : State) (id : Nat) : State :=
  ((islGroup id).reverse.filter s.live).foldl (fun s i => ((s.keepIsland i).markIsl i true false).islSvc i 0 1) s

/-- A return begins: its exit steps and its SRAM test run (R501). -/
def State.returnBegin (s : State) (id op : Nat) : State :=
  { s with pwr := { s.pwr with svc := some (id, op), retried := false } }

/-- The state of an island for AON_ISL_CMD: 0 IN, 1 OUT, 2 DARK, none in Keep by a power state or where no island is. -/
def State.islState (s : State) (id : Nat) : Option Nat :=
  if s.live id then some 0 else if s.islOut id then some 1 else if s.islDark id then some 2 else none

/-- A command is refused with a cause. -/
def State.islRefuse (s : State) (cause : Nat) : State :=
  ((s.setF aonB F.AON_ISL_CMD.REFUSED 1).setF aonB F.AON_ISL_CMD.CAUSE cause).setF aonB F.AON_ISL_CMD.BUSY 0

/-- The accepted take-out or reset of an island that has no drain in progress. -/
def State.islOutNow (s : State) (id op : Nat) : State :=
  let s := s.takeOut id
  if op = 3 then s.returnBegin id op else s.islEnd 0

/-- An accepted command starts; an island's drain delays it (R483, R501). -/
def State.islStart (s : State) (id op : Nat) : State :=
  let s := (s.setF aonB F.AON_ISL_CMD.REFUSED 0).setF aonB F.AON_ISL_CMD.CAUSE 0
  let s := s.setF aonB F.AON_ISL_CMD.BUSY 1
  if op = 2 ∨ s.draining.contains id then s.returnBegin id op else s.islOutNow id op

/-- A write of AON_ISL_CMD (R501): the pairing of state and OP first, then whether the island is permitted, then its
precondition. -/
def State.wrIslCmd (s : State) (v : Nat) : State :=
  if s.bit aonB F.AON_ISL_CMD.BUSY then s
  else
    let op := F.AON_ISL_CMD.OP.of v
    let id := F.AON_ISL_CMD.ISL.of v
    let s := (s.setF aonB F.AON_ISL_CMD.OP op).setF aonB F.AON_ISL_CMD.ISL id
    if op = 0 then s
    else match s.islState id, op with
      | some 1, 2 => s.islStart id op
      | some 2, 2 => s.islStart id op
      | some 0, 2 => s.islRefuse 3
      | some 0, _ =>
        if !islPermitted id then s.islRefuse 1
        else if !s.islReady id then s.islRefuse 2
        else s.islStart id op
      | _, _ => s.islRefuse 3

/-- The value of AON_ISL_CMD for an operation on an island. -/
def islCmd (op id : Nat) : Nat := op * 65536 + id

/-- ISL_TAKE_OUT (R501): OP 01. -/
def execIslTakeOut (m : Master) (isl : BitVec 6) (s : State) : Host.Outcome State Fault Refusal :=
  .next (s.onWrite m (aonB + 0x120) fun s => s.wrIslCmd (islCmd 1 isl.toNat))

/-- ISL_RETURN (R501): OP 10. -/
def execIslReturn (m : Master) (isl : BitVec 6) (s : State) : Host.Outcome State Fault Refusal :=
  .next (s.onWrite m (aonB + 0x120) fun s => s.wrIslCmd (islCmd 2 isl.toNat))

/-- ISL_RESET (R501): OP 11. -/
def execIslReset (m : Master) (isl : BitVec 6) (s : State) : Host.Outcome State Fault Refusal :=
  .next (s.onWrite m (aonB + 0x120) fun s => s.wrIslCmd (islCmd 3 isl.toNat))

/-! ### A return without retention (R501) -/

/-- The island whose memory holds a Tally counter. -/
def tallyIsland (space idx : Nat) : Nat :=
  if space ≤ 0x0B then 0x22
  else if space ≤ 0x0D then 0x20 + (space - 0x0C)
  else if space ≤ 0x0F then 0x08 + (space - 0x0E)
  else if space ≤ 0x11 then 0x0A + (space - 0x10)
  else if space ≤ 0x13 then 0x28
  else if space ≤ 0x16 then 0x24
  else 0x10 + idx / 256

/-- EVT's queues and sequence numbers are at their power-up state, but for the boot buffer, which lies in AON. -/
def State.blankEvt (s : State) : State :=
  { s with evt := { s.evt.restart with bootBuf := s.evt.bootBuf, bootLost := s.evt.bootLost } }

/-- What an island holds beside its registers is at its power-up state. -/
def State.blankIsland (s : State) (id : Nat) : State :=
  if id = 0x04 then { s with tim := TimeState.reset, pwr := { s.pwr with timHold := none } }
  else if id = 0x08 ∨ id = 0x09 then s.setPn (id - 0x08) (s.pn (id - 0x08)).restart
  else if id = 0x0A ∨ id = 0x0B then s.setBcs (id - 0x0A) BcState.reset
  else if 0x10 ≤ id ∧ id ≤ 0x1B then (quadPorts (id - 0x10)).foldl (fun s n => (s.setPort n TqPort.empty).setTsQueue n []) s
  else if id = 0x22 then { s with tbl := { TblState.reset with graph := s.tbl.graph } }
  else if id = 0x20 ∨ id = 0x21 then
    { s with tbl := { s.tbl with graph := s.tbl.graph.filter fun p => decide (p.1 / 128 ≠ id - 0x20) } }
  else if id = 0x24 then { s with tlr := { TlrState.reset with pats := s.tlr.pats } }
  else if id = 0x25 then { s with tlr := { s.tlr with pats := [], scans := [] } }
  else if id = 0x28 then { s with tmg := TmgState.reset, mem := { s.mem with used := [] } }
  else if id = 0x2C then { s with vlt := VltState.reset, slots := [] }
  else if 0x30 ≤ id ∧ id ≤ 0x37 then s.setMc (id - 0x30) { McChan.empty with resetN := (s.mc (id - 0x30)).resetN }
  else if id = 0x38 then s.freeRing
  else if id = 0x3B then { s with dma := [] }
  else if id = 0x3C then s.blankEvt
  else if id = 0x3D then { s with chk := { scrubs := [], bank := [], scan := [] } }
  else if id = 0x3E then { s with sampN := [], sampArm := [] }
  else s

/-- An island is powered up without retention: its registers, counters and memories are at their power-up values, but for the
RWL fields, which keep the Passbook's until POR or a reboot (R67). -/
def State.wipeIsland (s : State) (id : Nat) : State :=
  let mine (a : Nat) : Bool := decide (window id ≤ a) && decide (a < window (id + 1))
  let s := { (s.resetRegs (window id) (window (id + 1))).keepSealed s (window id) (window (id + 1)) with
    ctrs := s.ctrs.filter fun p => !mine p.1
    tally := s.tally.filter fun p => decide (tallyIsland (p.1 / 65536) (p.1 % 65536) ≠ id)
    timers := s.timers.filter fun p => decide (timerIsland p.1 ≠ id)
    pwr := { s.pwr with frozen := s.pwr.frozen.filter fun p => decide (timerIsland p.1 ≠ id) } }
  s.blankIsland id

/-- An island of a return is IN: a dark one from power-up, an OUT one with its state restored (R501). -/
def State.islBack (s : State) (i : Nat) : State :=
  let dark := s.islDark i
  let s := if dark then s.wipeIsland i else s
  ((s.markIsl i false false).wakeIsland i).islSvc i (if dark then 2 else 1) 0

/-- ISL_RETURN_TEST_DONE (R501): the islands' SRAM test ends. -/
def execIslReturnTestDone (pass : Bool) (s : State) : Host.Outcome State Fault Refusal :=
  .next <|
    match s.pwr.svc with
    | none => s
    | some (id, _) =>
      if s.live id then s
      else if pass then ((islGroup id).filter fun i => s.islOut i || s.islDark i).foldl State.islBack (s.islEnd 0)
      else s.returnFails id

/-! ### Faults in flight (R499, R500) -/

/-- A packet in a draining pipeline is dropped and counted; one of a striped flow becomes a skip marker (R150, R499). -/
def State.drainPkt (s : State) (k : Nat) (p : Packet) : State :=
  let mark := s.awaitsWindow p && (p.w W.OPTIONS).testBit 17
  let s := ((s.count (kB k + Ctr.KP.DROPS)).pmc 0x014 k).discardPkt p
  if mark then s.skipMarker (p.w W.SF) (p.w W.OPTIONS % 65536) else s

/-- A packet on its way into a pipeline that does not accept it is a drop of its source, counted there: of the port, of the PON
channel, whose striped SDU leaves its marker, or of the DMA channel (R24, R97, R150, R177, R453). -/
def State.refusePkt (s : State) (p : Packet) : State :=
  if p.src < 48 then s.tqCount p.src Ctr.TQ.RX_OVERRUN
  else if p.src < 50 then
    let c := p.src - 48
    let s := (s.pCount c Ctr.PN.DS_REFUSED).pRaiseMs c 13 Ev.PN_DS_OVERRUN 0 [(1, 1)]
    if s.awaitsWindow p && (p.w W.OPTIONS).testBit 17 then s.markerOut c (p.w W.SF) (p.w W.OPTIONS % 65536) else s
  else s.dcCount (p.src - 64) Ctr.DMA.PKT_LOST

/-- A pipeline drains: its packets in a pass and in its recirculation queue; those its sources hold for it are their drops
(R24). -/
def State.drainPipe (s : State) (k : Nat) : State × Nat :=
  let q := s.pipe k
  let l := q.inPass ++ q.recirc
  let s := s.setPipe k { q with inPass := [], recirc := [], wire := [], host := [] }
  let s := (q.wire.flatMap (·.2) ++ q.host.flatMap (·.2)).foldl State.refusePkt s
  (l.foldl (fun s p => s.drainPkt k p) s, l.length)

/-- The engines of a Teller that drains have no item any more, and the markers on their way to it are their sources' drops
(R24, R263). -/
def State.freeEngines (s : State) : State :=
  let s := (List.range 32).foldl (fun s e => if s.engBusy e then (s.scanCut e).engineFree e else s) s
  s.tlr.markers.foldl (fun s m => s.pCount m.1 Ctr.PN.DS_REFUSED) { s with tlr := { s.tlr with markers := [] } }

/-- The Teller drains: every item fails, and the packets the stripe windows hold are lost (R269). -/
def State.drainTlr (s : State) : State × Nat :=
  let l := s.tlr.items
  let held := s.tlr.stripes.flatMap fun c => c.2.held.filterMap (·.pkt)
  let s := s.freeEngines.failItems l 2
  let s := s.tlr.stripes.foldl (fun s c => s.setStripe c.1 { c.2 with held := [] }) s
  (held.foldl (fun s p => (s.count (kB (pipeOf p.src) + Ctr.KP.DROPS)).discardPkt p) s, l.length + held.length)

/-- INS drains: every item dispatched to an engine fails (R269). -/
def State.drainIns (s : State) : State × Nat :=
  let l := s.tlr.items.filter fun x => match x.at_ with
    | .engine _ => true
    | _ => false
  let s := (List.range 32).foldl (fun s e => if s.engBusy e then (s.scanCut e).engineFree e else s) s
  (s.failItems l 1, l.length)

/-- A packet at rest whose cells hold the error is lost: the i-th packet on chip of a queue. -/
def State.loseAt (s : State) (q i : Nat) : State × Nat :=
  let x := s.q q
  match x.chip[i]? with
  | none => (s, 0)
  | some p =>
    let s := s.setQ q { x with chip := x.chip.eraseIdx i, cells := x.cells - p.cells,
                               tag := { x.tag with on := x.tag.on && decide (i ≠ 0) } }
    let s := (s.setPoolOcc (qPool q) (s.poolOcc (qPool q) - p.cells)).count (tmgB + Ctr.TMG.DROPS)
    (s.unref p, 1)

/-- TMG or BUF drains: the packets being enqueued, and a packet whose cells hold the error. -/
def State.drainTmg (s : State) (bad : Option (Nat × Nat)) : State × Nat :=
  let l := s.tmg.inQ
  let s := l.foldl (fun s p => (s.count (tmgB + Ctr.TMG.DROPS)).discardPkt p) { s with tmg := { s.tmg with inQ := [] } }
  match bad with
  | none => (s, l.length)
  | some (q, i) =>
    let (s, n) := s.loseAt q i
    (s, l.length + n)

/-- The Vault drains: jobs end with FAULT (R375). -/
def State.drainVlt (s : State) : State × Nat :=
  let l := [0, 1].filter fun p => (s.job p).isSome
  let s := l.foldl (fun s p => (s.faultBlocks p).jobEnd p (s.jobF p F.JOB_CTRL.OP) 5 0 0) s
  (s.setF vltB F.VLT_STAT.DRAINING 1, l.length)

/-- A PON island drains: reassemblies are dropped, scheduled bursts cancelled, and a burst on the air stops. -/
def State.drainPn (s : State) (c : Nat) : State × Nat :=
  let n := (s.pn c).reasm.length + (s.pn c).bursts.length
  let s := (s.dropReasms c).cancelBursts c
  match s.airBurst c with
  | none => (s, n)
  | some b => (s.finishBurst c b s.units true, n)

/-- A composer drains: the Till's content is lost. -/
def State.drainBc (s : State) (c : Nat) : State × Nat :=
  let s := s.cancelBursts c
  let n := (s.tillSdus c).length
  (s.flushTill c, n)

/-- A port's ingress FIFO is lost. -/
def State.dropFifo (s : State) (n : Nat) : State :=
  let q := s.pipe (pipeOf n)
  (s.setPipe (pipeOf n) { q with wire := SMap.set (fun _ => []) q.wire n [] }).tqCount n Ctr.TQ.RX_PARTIAL (s.rxFifo n).length

/-- A port's frame in the MAC is lost. -/
def State.dropMac (s : State) (n : Nat) : State :=
  if (s.port n).mac.isNone then s
  else ((s.setPort n { s.port n with mac := none, tries := 0, launch := none }).stopTimer (Tm.backoff n)).tqCount n Ctr.TQ.TX_SVC_DISC

/-- A port drains: its frame in the MAC and its ingress FIFO are lost. -/
def State.drainPort (s : State) (n : Nat) : State × Nat :=
  ((s.dropFifo n).dropMac n, (s.rxFifo n).length + b2n (s.port n).mac.isSome)

/-- A quad drains. -/
def State.drainQuad (s : State) (q : Nat) : State × Nat :=
  (quadPorts q).foldl (fun (r : State × Nat) n =>
    let (s, k) := r.1.drainPort n
    (s, r.2 + k)) (s, 0)

/-- CHK drains (R524): scans end with FAULT, streams with ABORTED_FAULT, and scrubs fail. -/
def State.drainChk (s : State) : State × Nat :=
  let us := (List.range 4).filter s.chkBusy
  let s := s.streamsFault
  (us.foldl (fun s u =>
    if s.fld (chkB u) F.CHK_CTRL.USER = 1 then
      (s.chkFree u).chkResult u 2 (SMap.get (fun _ => (0, 0)) s.chk.scan u).1 0 0
    else if s.fld (chkB u) F.CHK_CTRL.USER = 3 then s.scrubEnd u false
    else s) s, us.length)

/-- A DRAM channel drains (R434): its packets on its pages are discarded. -/
def State.drainMc (s : State) (c cause : Nat) : State × Nat :=
  let n := (s.tmg.qs.map fun e =>
    let mine := (s.q e.1).pages.filter fun p => decide (p.2.1 = c)
    ((s.q e.1).deep.filter fun d => mine.any fun p => d.touches p.1).length).sum
  (s.mcFault c (min 2 cause), n)

/-- TIM drains (R325): samples and computations in flight are discarded, and the servo goes to HOLDOVER. -/
def State.drainTim (s : State) : State × Nat :=
  let t := s.tim
  let n := b2n t.sample.isSome + b2n t.ptod.isSome + b2n t.waiting.isSome + t.todRx.length + t.todTx.length
  let s := { s with tim := { t with sample := none, ptod := none, waiting := none, todRx := [], todTx := [], todArms := [],
                                    ppsLast := none } }
  ((s.showTod.setF timB F.TIM_PTOD_CTRL.BUSY 0).servoHold 2, n)

/-- What an island's drain discards, with how many items (R499). -/
def State.drainIsland (s : State) (id cause : Nat) (bad : Option (Nat × Nat)) : State × Nat :=
  if id = 0x04 then s.drainTim
  else if id = 0x08 ∨ id = 0x09 then s.drainPn (id - 0x08)
  else if id = 0x0A ∨ id = 0x0B then s.drainBc (id - 0x0A)
  else if 0x10 ≤ id ∧ id ≤ 0x1B then s.drainQuad (id - 0x10)
  else if id = 0x20 ∨ id = 0x21 then s.drainPipe (id - 0x20)
  else if id = 0x22 then ({ s with tbl := { s.tbl with learnQ := [] } }, s.tbl.learnQ.length)
  else if id = 0x24 then s.drainTlr
  else if id = 0x25 then s.drainIns
  else if id = 0x28 ∨ id = 0x29 then s.drainTmg bad
  else if id = 0x2C then s.drainVlt
  else if 0x30 ≤ id ∧ id ≤ 0x37 then s.drainMc (id - 0x30) cause
  else if id = 0x38 then ({ s with mem := { s.mem with wrBuf := 0 } }, s.mem.wrBuf)
  else if id = 0x3B then (s.dmaFault, ((List.range 32).filter fun d => (s.dch d).desc.isSome).length)
  else if id = 0x3C then ({ s with evt := { s.evt with queue := [] } }, s.evt.queue.length)
  else if id = 0x3D then s.drainChk
  else if id = 0x3F then ((s.raise Ev.STW_FAULT 0x3F noInst [(1, b2n (decide (cause ≠ 1)))]).stwRestart, s.stwInFlight)
  else (s, 0)

/-- Whether an island faults again within WIN ms of resuming (R500). -/
def State.faultsAgain (s : State) (id : Nat) : Bool :=
  let t := SMap.get (fun _ => 0) s.pwr.resumed id
  decide (t ≠ 0) && decide (s.now + 1 < t + max 1 (s.fld aonB F.AON_FAULT_CFG.WIN) * msTicks)

/-- An island faults (R499, R500): cause 0 parity, 1 ECC, 2 compare, 3 crossing. It drains; AON and CKR restart the device,
TIM goes on, and an island that faults again too soon is taken out and dark. -/
def State.islandFault (s : State) (id cause : Nat) (bad : Option (Nat × Nat)) : State :=
  if !s.live id || s.draining.contains id then s
  else
    let (s, n) := s.drainIsland id cause bad
    let s := s.drainRecord id cause n
    if id ≤ 0x01 then s.reboot
    else if id = 0x04 then s
    else if s.faultsAgain id then
      let s := ((s.keepIsland id).markIsl id false true).islSvc id 0 2
      (s.count (aonB + Ctr.AON.FAULT_LIMITS)).raise Ev.ISL_FAULT_LIMIT 0x00 noInst [(1, id)]
    else { s with draining := s.draining ++ [id] }

/-- ISLAND_FAULT_DETECT (R499): `bad` is a queue and a place in it, where a packet at rest holds the error. -/
def execIslandFaultDetect (isl : Fin 64) (cause : Fin 4) (bad : Option (BitVec 12 × Nat)) (s : State) :
    Host.Outcome State Fault Refusal :=
  .next (s.islandFault isl.val cause.val (bad.map fun b => (b.1.toNat, b.2)))

/-- The take-out or reset that waited for an island's drain goes on (R483, R501). -/
def State.svcGoesOn (s : State) (id : Nat) : State :=
  match s.pwr.svc with
  | some (i, op) =>
    if i ≠ id ∨ !s.live id then s
    else if !s.islReady id then s.islRefuse 2
    else s.islOutNow id op
  | none => s

/-- ISLAND_DRAIN_DONE (R500): the drain ends and the island resumes, but for those R500 lists. -/
def execIslandDrainDone (isl : Fin 64) (s : State) : Host.Outcome State Fault Refusal :=
  .next <|
    let id := isl.val
    if s.draining.contains id = false then s
    else
      let s := { s with draining := s.draining.filter (· ≠ id) }
      let s := if id = 0x3F ∨ (0x30 ≤ id ∧ id ≤ 0x37) then s
        else { s with pwr := { s.pwr with resumed := SMap.set (fun _ => 0) s.pwr.resumed id (s.now + 1) } }
      let s := if id = 0x2C then s.setF vltB F.VLT_STAT.DRAINING 0 else s
      (if id = 0x3D then s.dmaWake else s).svcGoesOn id

/-- CROSSING_ENTRY_ARRIVE (R18, R19, R23, R24): an entry becomes readable: the block that takes it finds it in its queue, where its
sender's command has put it (log 175). One with bad parity is discarded, with what else waits for the island that drains for it:
it raises event 0 and is a fault of the island, whose cause the model takes as 0, parity (log 176). -/
def execCrossingEntryArrive (isl : Fin 64) (index : Byte) (parityOk : Bool) (s : State) : Host.Outcome State Fault Refusal :=
  .next <|
    if parityOk || !s.accepts isl.val then s
    else (s.raise Ev.ISL_XING_PARITY isl.val noInst [(1, isl.val), (1, index.toNat)]).islandFault isl.val 0 none

/-! ### Cipher engines (R375) -/

/-- The slot of the transmit SA that protects the frame in a port's MAC, none where no frame there is to be protected (R381). -/
def State.secTxSlot (s : State) (n : Nat) : Option Nat :=
  match (s.port n).mac with
  | none => none
  | some p =>
    if s.bit (tqB n) F.TQ_SEC_CFG.EN = false ∨ s.bit (tqB n) F.TQ_SEC_CFG.PROTECT = false ∨ beAt p.bytes 12 2 = 0x888E then none
    else some (secSlot (s.sec n (s.secF n F.TQ_SEC_CFG.ENC_AN)))

/-- A MACsec lane's computations of the frame in a port's MAC disagree: the frame is dropped (R375). -/
def State.macMismatch (s : State) (n : Nat) : State :=
  match s.secTxSlot n with
  | none => s.secMismatch n 0
  | some slot => ((s.secMismatch n slot).setPort n { s.port n with mac := none, tries := 0, launch := none }).stopTimer (Tm.backoff n)

/-- An allocation's content without its encrypted XGEM frames: idle bytes take their place (R306, R375). -/
def Content.cutKeyed (k : Content) : Content :=
  { k with frames := k.frames.filter fun f => decide (f.key = 0)
           idle := k.idle + ((k.frames.filter fun f => decide (f.key ≠ 0)).map fun f => xgemLen f.data.length).sum }

/-- The encrypted XGEM frames a burst's fixed content holds. -/
def Burst.keyed (b : Burst) : Nat :=
  (b.allocs.map fun a => match a.content with
    | some k => (k.frames.filter fun f => decide (f.key ≠ 0)).length
    | none => 0).sum

/-- A PON lane's computations upstream disagree: the encrypted frames of the burst it works on are discarded and counted, as R91
discards those it receives (R375, log 177). -/
def State.usMismatch (s : State) (c : Nat) : State :=
  let slot := s.pf c (if (s.pn c).usKey = 2 then F.PN_KEY_UC.UC2 else F.PN_KEY_UC.UC1)
  let s := (s.count (vltB + Ctr.VLT.CRYPT_FAIL)).vaultFault (some (1 + c)) 0 slot
  match (s.pn c).bursts.find? fun b => decide (b.keyed ≠ 0) with
  | none => s
  | some b =>
    let b' : Burst := { b with allocs := b.allocs.map fun a => { a with content := a.content.map Content.cutKeyed } }
    let b' : Burst := { b' with bip := Config.burstBip b'.onuId b'.hec b'.payload }
    let s := s.setPn c { s.pn c with bursts := (s.pn c).bursts.map fun x => if x = b then b' else x }
    (s.pCount c Ctr.PN.CRYPT_FAIL b.keyed).pRaiseMs c 13 Ev.PN_KEY_FAULT 0 [(2, slot), (1, 2)]

/-- CRYPT_COMPARE_MISMATCH (R375): engine 0 is the central one, 1 and 2 the PON lanes and 3 to 14 the MACsec lanes, whose frame
is that of a lane of the quad. A received frame carries its own mismatch (R91, R383); here a lane engine finds one in what it
sends. -/
def execCryptCompareMismatch (engine : Fin 15) (lane : Fin 4) (s : State) : Host.Outcome State Fault Refusal :=
  .next <|
    if s.live 0x2C = false then s
    else if engine.val = 0 then
      let slot := ((s.job 0).orElse fun _ => s.job 1).bind (·.slot)
      ((s.count (vltB + Ctr.VLT.CRYPT_FAIL)).vaultFault (some 0) 0 (slot.getD 0)).islandFault 0x2C 2 none
    else if engine.val < 3 then s.usMismatch (engine.val - 1)
    else s.macMismatch (4 * (engine.val - 3) + lane.val)

/-! ### The aging sweeper (R223, R233) -/

/-- AGE_SWEEP_VISIT (R223, R233): the sweeper visits an L2 or exact-flow entry; an entry lost to ECC drains TBL. -/
def execAgeSweepVisit (flow : Bool) (i : BitVec 16) (ecc : EccOutcome) (bank : Fin 64) (s : State) :
    Host.Outcome State Fault Refusal :=
  .next <|
    let t := if flow then 2 else 1
    let period := s.fld tblB (if flow then F.TBL_AGE_CFG.FLOW_PERIOD else F.TBL_AGE_CFG.L2_PERIOD)
    if !s.accepts 0x22 || decide (period = 0) || decide (s.tblSize t ≤ i.toNat) then s
    else
      let s := s.entryEcc ecc t i.toNat bank.val
      if ecc = .lost then s.islandFault 0x22 1 none else s.ageEntry t i.toNat

end Sys2Proof.Machine
end

