-- ==== Sys2Proof/Machine/Bus.lean ====
section
/-! DEFINITION. Register accesses (R5 to R9, R14, R440 to R444, R492, R511, R529 to R531): where a write goes and what it
starts, what a read answers, and AON_BOOT_CTRL (R66, R68). -/

namespace Sys2Proof.Machine

/-! ### AON_BOOT_CTRL (R66, R68) -/

/-- A write of AON_BOOT_CTRL (R66, R68): a wrong KEY discards it. The preference goes to its Ledger record, FLASH_RELEASE acts
only in the hold, where a board-level programmer may then rewrite the flash, and REBOOT restarts the sequence. -/
def State.wrBootCtrl (s : State) (v : Nat) : State :=
  if F.AON_BOOT_CTRL.KEY.of v ≠ 0xA5C3 then s
  else
    let b := decide (F.AON_BOOT_CTRL.PREFER_B.of v = 1)
    let s := s.setBit aonB F.AON_BOOT_CTRL.PREFER_B b
    let s := if s.sagging then s else { s with ledger := { s.ledger with preferB := b } }
    let off := decide (F.AON_BOOT_CTRL.FLASH_RELEASE.of v = 1)
    let s := if s.inHold then
        { s.setBit aonB F.AON_BOOT_CTRL.FLASH_RELEASE off with
          pwr := { s.pwr with flashOff := off }
          flash := if off then { s.flash with cells := [] } else s.flash }
      else s
    if F.AON_BOOT_CTRL.REBOOT.of v = 1 then s.fuseCut.reboot else s

/-- AON_BOOT_CTRL as it stands, its WO fields 0. -/
def State.bootWord (s : State) : Nat := (s.reg (aonB + 0x28)).toNat % 8

/-- REBOOT (R68): the keyed write carries the other fields as they stand. -/
def execReboot (m : Master) (key : BitVec 16) (s : State) : Host.Outcome State Fault Refusal :=
  .next (s.onWrite m (aonB + 0x28) fun s => s.wrBootCtrl (setBits (key.toNat * 65536 + s.bootWord) 0 0 1))

/-- PREFER_B_WRITE (R68). -/
def execPreferBWrite (m : Master) (key : BitVec 16) (v : Bool) (s : State) : Host.Outcome State Fault Refusal :=
  .next (s.onWrite m (aonB + 0x28) fun s => s.wrBootCtrl (setBits (key.toNat * 65536 + s.bootWord) 2 2 (b2n v)))

/-- FLASH_RELEASE (R66). -/
def execFlashRelease (m : Master) (key : BitVec 16) (v : Bool) (s : State) : Host.Outcome State Fault Refusal :=
  .next (s.onWrite m (aonB + 0x28) fun s => s.wrBootCtrl (setBits (key.toNat * 65536 + s.bootWord) 1 1 (b2n v)))

/-! ### Writes by window -/

/-- A free truth value. -/
def State.takeBit (s : State) : State × Bool :=
  let (s, r) := s.takeFree
  (s, r % 2 == 1)

/-- AON: the wake sources act on a change of what they select (R485). Whether the regulator acknowledges is the board's. -/
def State.wrAon (s : State) (a v : Nat) : State :=
  let o := offsetOf a
  if o = 0x28 then s.wrBootCtrl v
  else if o = 0x48 then s.wrOwnCmd v
  else if o = 0x100 then s.wrPwrCtrl v
  else if o = 0x10C ∨ o = 0x110 then let s := s.store a v; s.wake s.wakeMask
  else if o = 0x11C then s.wrClkCtrl v
  else if o = 0x120 then s.wrIslCmd v
  else if o = 0x140 then let (s, acks) := s.takeBit; s.wrDvfsV v acks
  else if o = 0x144 then s.wrDvfsF v
  else s.store a v

/-- TIM. Whether a newly selected SyncE input is good is the line's. -/
def State.wrTim (s : State) (a v : Nat) : State :=
  let o := offsetOf a
  if o = 0x10 then s.wrSnapCtrl v
  else if o = 0x40 then s.wrAdjCmd v
  else if o = 0x80 then s.wrSrcCfg v
  else if o = 0x84 then s.wrServoCfg v
  else if o = 0x90 then s.wrServoSample v
  else if o = 0xC0 then s.wrPtodCtrl v
  else if o = 0x100 then s.wrPpsInCfg v
  else if o = 0x120 then s.wrPpsOutCfg v
  else if o = 0x134 then s.wrTodTx v
  else if o = 0x138 then s.wrTodRx v
  else if o = 0x140 then let (s, good) := s.takeBit; s.wrSynceCfg v good
  else if o = 0x148 ∨ o = 0x14C then (s.store a v).showSynceOut
  else s.store a v

/-- A PON window: the map's data words wait for BUSY (R104), and the power-saving rows follow their settings (R136). -/
def State.wrPn (s : State) (c a v : Nat) : State :=
  let o := offsetOf a
  if o = 0x00 then s.wrRxCtrl c v
  else if o = 0x04 then s.wrRxEq c v
  else if o = 0x40 then s.wrPidCmd c v
  else if o = 0x44 ∨ o = 0x48 then (if s.bit (pnB c) F.PN_PID_CMD.BUSY then s else s.store a v)
  else if o = 0x60 then s.wrTodCtrl c v
  else if o = 0x100 then
    if F.PN_US_CTRL.ROGUE_CLR.of v = 1 then let (s, quiet) := s.takeBit; s.wrUsCtrl c v quiet else s.wrUsCtrl c v false
  else if o = 0x10C then s.wrActCtrl c v
  else if o = 0x170 ∨ o = 0x174 then (s.store a v).psCheck c
  else if o = 0x180 then s.wrAllocCmd c v
  else if o = 0x1A0 then s.wrSvcCtrl c v
  else if o = 0x600 then s.wrPrbs (48 + c) v
  else s.store a v

/-- A burst composer's window. -/
def State.wrBc (s : State) (c a v : Nat) : State :=
  let o := offsetOf a
  if o = 0x00 then s.wrMapCtrl c v
  else if o = 0x04 then s.wrMapCmd c v
  else if 0x10 ≤ o ∧ o < 0x34 then (if s.bit (bcB c) F.BC_MAP_CMD.BUSY then s else s.store a v)
  else s.store a v

/-- A quad's window: the page of a lane, or the quad's own registers. -/
def State.wrQuad (s : State) (q a v : Nat) : State :=
  let o := offsetOf a
  if o = 0x8000 then s.wrQuadPll q v
  else if 0x4000 ≤ o then s.store a v
  else
    let n := 4 * q + o / 0x1000
    let r := o % 0x1000
    if r = 0x00 then s.wrLaneCfg n v
    else if r = 0x10 then s.wrMacCtrl n v
    else if r = 0x20 then s.wrPortCfg n v
    else if r = 0x24 then
      if F.TQ_PORT_SVC.WANT.of v = 0 then let (s, rx) := s.takeBit; s.wrPortSvc n v rx else s.wrPortSvc n v false
    else if r = 0x90 then s.wrPrbs n v
    else if r = 0x220 then s.wrTsCtrl n v
    else if r = 0x300 then s.wrSecCfg n v
    else if r = 0x310 then s.wrSecCmd n v
    else if 0x314 ≤ r ∧ r < 0x330 then (if s.bit (tqB n) F.TQ_SEC_CMD.BUSY then s else s.store a v)
    else s.store a v

/-- A pipeline's window: after sealing, the stage and key-profile banks of a live or draining epoch refuse writes (R229). -/
def State.wrKp (s : State) (k a v : Nat) : State :=
  let o := offsetOf a
  if o = 0x110 then s.wrPgCmd k v
  else if 0x120 ≤ o ∧ o < 0x150 then (if s.bit (kB k) F.KP_PG_CMD.BUSY then s else s.store a v)
  else if 0x200 ≤ o ∧ o < 0x300 then (if s.bankLocked ((o - 0x200) / 0x80) then s.wrRefused k else s.store a v)
  else if 0x400 ≤ o ∧ o < 0x800 then (if s.bankLocked ((o - 0x400) / 0x200) then s.wrRefused k else s.store a v)
  else s.store a v

/-- TBL. -/
def State.wrTbl (s : State) (a v : Nat) : State :=
  let o := offsetOf a
  if o = 0x00 then s.wrEpoch v
  else if o = 0x10 then s.wrTblCmd v
  else if 0x20 ≤ o ∧ o < 0x80 then (if s.bit tblB F.TBL_CMD.BUSY then s else s.store a v)
  else if o = 0x180 then s.wrBankCmd v
  else if o = 0x600 then s.wrActCmd v
  else if 0x610 ≤ o ∧ o < 0x630 then (if s.bit tblB F.TBL_ACT_CMD.BUSY then s else s.store a v)
  else s.store a v

/-- TLR. -/
def State.wrTlr (s : State) (a v : Nat) : State :=
  let o := offsetOf a
  if o = 0x04 then s.wrCancel v
  else if o = 0x10 then s.wrTake v
  else if o = 0x28 then s.wrDone v
  else if o = 0x808 then s.wrStripeCmd v
  else if o = 0x80C then (if s.bit tlrB F.TLR_STRIPE_CMD.BUSY then s else s.store a v)
  else s.store a v

/-- INS: after sealing, the settings of a live or draining bank's sets discard writes (R253). -/
def State.wrIns (s : State) (a v : Nat) : State :=
  let o := offsetOf a
  if o < 0x20000 then (if o % 0x1000 = 0 then s.wrEngSvc (o / 0x1000) v else s.store a v)
  else if o < 0x20080 then (if s.bankLocked ((o - 0x20000) / 0x40) then s else s.store a v)
  else if o = 0x20100 then s.wrPatCmd v
  else if 0x20110 ≤ o ∧ s.bit (window 0x25) F.INS_PAT_CMD.BUSY = true then s
  else s.store a v

/-- TMG. -/
def State.wrTmg (s : State) (a v : Nat) : State :=
  let o := offsetOf a
  if o = 0x100 then s.wrQCmd v
  else if 0x104 ≤ o ∧ o < 0x114 then (if s.bit tmgB F.TMG_Q_CMD.BUSY then s else s.store a v)
  else if o = 0x200 then s.wrPurseCmd v
  else if 0x204 ≤ o ∧ o < 0x210 then (if s.bit tmgB F.TMG_PURSE_CMD.BUSY then s else s.store a v)
  else if 0x400 ≤ o ∧ o < 0xA00 ∧ o % 0x20 = 0x08 then s.wrGclCtrl ((o - 0x400) / 0x20) v
  else if o = 0xA00 then s.wrGclCmd v
  else if o = 0xA04 ∨ o = 0xA08 then (if s.bit tmgB F.TMG_GCL_CMD.BUSY then s else s.store a v)
  else s.store a v

/-- VLT. The bytes at a job's source are the memory's. -/
def State.wrVlt (s : State) (a v : Nat) : State :=
  let o := offsetOf a
  let p := o / 0x100 - 1
  if o = 0x10 then s.wrMintCtrl v
  else if o = 0x20 then s.wrDbgCtrl v
  else if 0x100 ≤ o ∧ o < 0x300 ∧ o % 0x100 = 0 then
    let (s, r) := s.takeFree
    s.wrJobCtrl p v (leBytes (s.jobF p F.JOB_LEN.LEN) r)
  else if 0x100 ≤ o ∧ o < 0x300 ∧ o % 0x100 = 0x80 then s.wrKeyCmd p v
  else s.store a v

/-- A DRAM channel's window. -/
def State.wrMc (s : State) (c a v : Nat) : State :=
  let o := offsetOf a
  if o = 0x00 then s.wrMcSvc c v else if o = 0x30 then s.wrEccClr c v else s.store a v

/-- MCC. -/
def State.wrMcc (s : State) (a v : Nat) : State :=
  let o := offsetOf a
  if o = 0x00 then s.wrMccCfg v
  else if o = 0x20 then s.wrTraceCfg v
  else if o = 0x28 then s.wrTraceCmd v
  else s.store a v

/-- HST: a vector whose pending causes reach a lowered CNT sends (R471). -/
def State.wrHst (s : State) (a v : Nat) : State :=
  let o := offsetOf a
  if o = 0x20 then s.wrPktCmd true v
  else if 0x100 ≤ o ∧ o < 0x200 then
    let n := (o - 0x100) / 4
    let s := s.store a v
    if s.fld hstB (F.HST_COAL.TIME.at (4 * n)) = 0 ∨ max 1 (s.fld hstB (F.HST_COAL.CNT.at (4 * n))) ≤ s.msixCauses n
    then s.msixSend n else s
  else s.store a v

/-- DMA. Where an abort finds the transfer is the path's. -/
def State.wrDma (s : State) (a v : Nat) : State :=
  let o := offsetOf a
  let d := o / 0x1000
  if 0x20000 ≤ o then s.store a v
  else if o % 0x1000 = 0x00 then let (s, moved) := s.takeFree; s.wrDcCtrl d v moved
  else if o % 0x1000 = 0x10 then s.wrDb d v
  else s.store a v

/-- EVT: a software page's words belong to its master (R536). -/
def State.wrEvt (s : State) (m : Master) (a v : Nat) : State :=
  let o := offsetOf a
  if o < 0x80 then
    if o % 0x20 ≤ 0x08 then s.wrRingCfg (o / 0x20) a v
    else if o % 0x20 = 0x10 then s.wrRingCi (o / 0x20) v
    else s.store a v
  else if o = 0x100 then s.wrLgrCfg v
  else if o = 0x108 then s.wrLgrCmd v
  else if o = 0x150 then s.wrSoft m false v
  else if o = 0x170 then s.wrSoft m true v
  else if 0x154 ≤ o ∧ o < 0x164 then
    if m = .steward ∨ s.bit hstB F.HST_CFG.HOSTLESS = true then s else s.store a v
  else if 0x174 ≤ o ∧ o < 0x184 then (if m = .host then s else s.store a v)
  else s.store a v

/-- Whether a sampler may follow an event: a packet event (R518). -/
def samplable (ev : Nat) : Bool := (0x10 ≤ ev && ev ≤ 0x12) || ev == 0x14 || (0x50 ≤ ev && ev ≤ 0x52)

/-- A write of PMC_SAMP_CFG (R518): EN is refused where the counter's event cannot be sampled. -/
def State.wrSampCfg (s : State) (k a v : Nat) : State :=
  let d := 8 * k
  let bad := decide (F.PMC_SAMP_CFG.EN.of v = 1) &&
    !samplable (s.pmcCfg (min 95 (F.PMC_SAMP_CFG.CTR.of v)) F.PMC_CTR_CFG.EVENT)
  let s := (s.store a v).setF pmcB (F.PMC_SAMP_CFG.REFUSED.at d) (b2n bad)
  if bad then s.setF pmcB (F.PMC_SAMP_CFG.EN.at d) 0 else s

/-- PMC. -/
def State.wrPmc (s : State) (a v : Nat) : State :=
  let o := offsetOf a
  if o = 0x00 then s.wrPmcCtrl v
  else if 0x400 ≤ o ∧ o < 0x700 then s.wrPmcCtr ((o - 0x400) / 8) (decide (o % 8 = 4)) v
  else if 0xC20 ≤ o ∧ o < 0xC40 ∧ o % 8 = 0 then s.wrSampCfg ((o - 0xC20) / 8) a v
  else if o = 0xD00 then s.wrTallyCmd v
  else s.store a v

/-- STW: the owner bits of the islands both masters write read 0 (R406). -/
def State.wrStw (s : State) (m : Master) (a v : Nat) : State :=
  let o := offsetOf a
  if o = 0x00 then s.wrStwCtrl v
  else if o = 0x08 then (if m = .steward ∧ v % 2 = 1 then s.stwReady else s)
  else if o = 0x0C then s.wrStwCfg v
  else if o = 0x10 then (if m = .steward ∧ v % 2 = 1 ∧ s.stwState = 1 then s.kickWdog else s)
  else if o = 0x20 then s.store a (v - v % 4)
  else if o = 0x24 then s.store a (v % 2 ^ 26)
  else if o = 0x28 then s.wrStwDc v
  else if (0x100 ≤ o ∧ o < 0x140) ∨ (0x180 ≤ o ∧ o < 0x1C0) then s.wrMbData m a v
  else if o = 0x140 then s.wrMbH2s m v
  else if o = 0x1C0 then s.wrMbS2h m v
  else if o = 0x200 then s.wrPktCmd false v
  else s.store a v

/-- What a write of `v` at the BAR0 offset `a` does to the register there (R7). -/
def State.wrReg (s : State) (m : Master) (a v : Nat) : State :=
  let id := islandOf a
  if id = 0x00 then s.wrAon a v
  else if id = 0x04 then s.wrTim a v
  else if id = 0x08 ∨ id = 0x09 then s.wrPn (id - 0x08) a v
  else if id = 0x0A ∨ id = 0x0B then s.wrBc (id - 0x0A) a v
  else if 0x10 ≤ id ∧ id ≤ 0x1B then s.wrQuad (id - 0x10) a v
  else if id = 0x20 ∨ id = 0x21 then s.wrKp (id - 0x20) a v
  else if id = 0x22 then s.wrTbl a v
  else if id = 0x24 then s.wrTlr a v
  else if id = 0x25 then s.wrIns a v
  else if id = 0x28 then s.wrTmg a v
  else if id = 0x2C then s.wrVlt a v
  else if 0x30 ≤ id ∧ id ≤ 0x37 then s.wrMc (id - 0x30) a v
  else if id = 0x38 then s.wrMcc a v
  else if id = 0x3A then s.wrHst a v
  else if id = 0x3B then s.wrDma a v
  else if id = 0x3C then s.wrEvt m a v
  else if id = 0x3D then (if offsetOf a % 0x1000 = 0 then s.wrChkCtrl (offsetOf a / 0x1000) v else s.store a v)
  else if id = 0x3E then s.wrPmc a v
  else if id = 0x3F then s.wrStw m a v
  else s

/-- A write of an implemented register; an unimplemented address discards it (R9). -/
def State.wrWord (s : State) (m : Master) (a v : Nat) : State := if (findReg a).isNone then s else s.wrReg m a v

/-- Whether an offset lies in a job port's page of the Vault, and in whose (R376). -/
def jobPort (a : Nat) : Option Nat :=
  let o := offsetOf a
  if islandOf a = 0x2C ∧ 0x100 ≤ o ∧ o < 0x300 then some (o / 0x100 - 1) else none

/-- A master's BAR0 write (R531). -/
def State.busWrite (s : State) (m : Master) (a v : Nat) : State :=
  match jobPort a with
  | some p => s.onVlt m p a fun s => s.wrWord m a v
  | none => s.onWrite m a fun s => s.wrWord m a v

/-! ### Reads -/

/-- What a register reads as: its fields, of which a write-only one reads 0, and 0 in every reserved bit (R7, R9). -/
def readFields (r : RegSpec) (w : Nat) : Nat :=
  r.fields.foldl (fun v f => if f.acc = .wo then v else f.fld.ins v (f.fld.of w)) 0

/-- A register with its RC fields cleared (R8). -/
def clearRc (r : RegSpec) (w : Nat) : Nat := r.fields.foldl (fun w f => if f.acc = .rc then f.fld.ins w 0 else w) w

/-- Whether an offset is a word of a 48-bit performance counter or of its snapshot (R511). -/
def isPmcWord (a : Nat) : Bool :=
  decide (islandOf a = 0x3E) && ((decide (0x400 ≤ offsetOf a) && decide (offsetOf a < 0x700)) ||
    (decide (0x800 ≤ offsetOf a) && decide (offsetOf a < 0xB00)))

/-- The high word of the counter whose low word lies at `a`. -/
def State.highWord (s : State) (a : Nat) : Nat := if isPmcWord a then (s.reg (a + 4)).toNat else s.ctr a / 2 ^ 32

/-- The low word of the counter whose low word lies at `a`. -/
def State.lowWord (s : State) (a : Nat) : Nat := if isPmcWord a then (s.reg a).toNat else s.ctr a % 2 ^ 32

/-- The latch of a window and master (R511). -/
def latchKey (m : Master) (a : Nat) : Nat := 2 * islandOf a + masterCode m

/-- A read of a counter word (R511): the low word latches the high word; the high word reads the latch when the master's last
low-word read in the window was of this counter. -/
def State.readCounter (s : State) (m : Master) (a : Nat) : State × Nat :=
  if a % 8 = 0 then
    ({ s with ctrLatch := SMap.set (fun _ => (0, 0)) s.ctrLatch (latchKey m a) (a + 1, s.highWord a) }, s.lowWord a)
  else
    let l := SMap.get (fun _ => (0, 0)) s.ctrLatch (latchKey m a)
    (s, if l.1 = a - 4 + 1 then l.2 else s.highWord (a - 4))

/-- The status words of the result register sets (R443): VALID is bit 31 and SEEN bit 30. -/
def isStatusWord (a : Nat) : Bool :=
  let id := islandOf a
  let o := offsetOf a
  ((id == 0x08 || id == 0x09) && o == 0x74) || (id == 0x04 && (o == 0x20 || o == 0xE4 || o == 0x114)) ||
    (id == 0x24 && o == 0x14) || (id == 0x2C && (o == 0x140 || o == 0x240)) || (id == 0x3D && o < 0x4000 && o % 0x1000 == 0x10)

/-- The eye of a PON receiver is a measurement, so its fields read as free values (R103). -/
def State.eyeRead (s : State) (a w : Nat) : State × Nat :=
  if (islandOf a = 0x08 ∨ islandOf a = 0x09) ∧ offsetOf a = 0x08 then
    let (s, r) := s.takeFree
    (s, setBits w 15 0 r)
  else (s, w)

/-- What a read finds that no command has put there: the equaliser as it has adapted (R75), an engine's load (R271)
and the restarts of the last 60 s (R411). -/
def State.showRead (s : State) (a : Nat) : State :=
  let o := offsetOf a
  if (islandOf a = 0x08 ∨ islandOf a = 0x09) ∧ o = 0x04 then s.adapt (islandOf a - 0x08)
  else if islandOf a = 0x25 ∧ o < 0x20000 ∧ o % 0x1000 = 4 then s.showLoad (o / 0x1000)
  else if islandOf a = 0x3F ∧ o = 4 then s.setF stwB F.STW_STAT.RESTARTS (min 255 s.recentRestarts.length)
  else s

/-- A read of a register (R7, R8, R443): an unimplemented address reads 0 (R9). -/
def State.readReg (s : State) (a : Nat) : State × Nat :=
  if isHeader a then (s, (s.reg a).toNat)
  else match findReg a with
    | none => (s, 0)
    | some r =>
      let s := s.showRead a
      let w := (s.reg a).toNat
      let s := s.setReg a (BitVec.ofNat 32 (clearRc r w))
      let s := if isStatusWord a && w.testBit 31 then s.setReg a (BitVec.ofNat 32 (setBits w 30 30 1)) else s
      s.eyeRead a (readFields r w)

/-- A master's BAR0 read and its answer (R14, R492, R531): a reserved window reads 0, and a dark one reads all ones and is
recorded. -/
def State.busRead (s : State) (m : Master) (a : Nat) : State :=
  if (islandInst (islandOf a)).isNone then s.emit (.readData m a 0)
  else if !s.live (islandOf a) then (s.darkAccess a false).emit (.readData m a 0xFFFFFFFF)
  else
    let (s, v) := if isCounterWord a || isPmcWord a then s.readCounter m a else s.readReg a
    s.emit (.readData m a (BitVec.ofNat 32 v))

/-! ### The TAP (R354, R364, R552) -/

/-- What IDCODE shifts out (R552): version 0x1, part 0x9648, manufacturer code 0x55F and bit 0 set. -/
def tapIdcode : Nat := 0x1 * 2 ^ 28 + 0x9648 * 2 ^ 12 + 0x55F * 2 + 1

/-- Whether an instruction reaches the TAP (R354, R364): every one in MFG, and IDCODE and BYPASS alone in PROVISION; in DEPLOYED and
RMA an open scope adds its own. -/
def State.tapReaches (s : State) (i : TapInstr) : Bool :=
  let open_ (k : Nat) : Bool := decide (s.fuse.life = 1) ||
    ((decide (s.fuse.life = 7) || decide (s.fuse.life = 15)) && (s.fld aonB F.AON_LIFECYCLE.DEBUG).testBit k)
  match i with
  | .idcode => true
  | .bypass => true
  | .boundary => open_ 0
  | .regRead => open_ 1
  | .regWrite => open_ 1
  | .runControl => open_ 2
  | .scanChain => open_ 3

/-- Whether the TAP's register access may reach an offset (R364): no window of VLT and no fuse, lifecycle or owner register of AON, but
in MFG. -/
def State.tapMay (s : State) (a : Nat) : Bool :=
  let id := islandOf a
  let o := offsetOf a
  decide (s.fuse.life = 1) || !(decide (id = 0x2C) ||
    (decide (id = 0x00) && ((decide (0x40 ≤ o) && decide (o < 0x80)) || (decide (0x400 ≤ o) && decide (o < 0x600)))))

/-- A scan (R552): one that does not reach the TAP selects BYPASS, which shifts the data on by one (log 188). What boundary scan, run
control and the scan chains shift out is a free value. -/
def State.tapScan (s : State) (i : TapInstr) (a v : Nat) : State :=
  let i := if s.tapReaches i then i else .bypass
  let s := { s with tap := i }
  let ok := s.live (islandOf a) && s.tapMay a
  match i with
  | .idcode => s.emit (.tdo (BitVec.ofNat 32 tapIdcode))
  | .bypass => s.emit (.tdo (BitVec.ofNat 32 (2 * v)))
  | .regRead => let (s, w) := if ok then s.readReg a else (s, 0xFFFFFFFF); s.emit (.tdo (BitVec.ofNat 32 w))
  | .regWrite => if ok then s.wrWord .host a v else s
  | .boundary => let (s, w) := s.takeFree; s.emit (.tdo (BitVec.ofNat 32 w))
  | .runControl => let (s, w) := s.takeFree; s.emit (.tdo (BitVec.ofNat 32 w))
  | .scanChain => let (s, w) := s.takeFree; s.emit (.tdo (BitVec.ofNat 32 w))

/-! ### REGISTER_WRITE -/

/-- A write of the MSI-X table in BAR2 (R440): the pending bits are read-only, and a cleared mask lets the vector send. -/
def State.wrBar2 (s : State) (i v : Nat) : State :=
  if !s.live 0x3A then s else (s.setMsixWord i (BitVec.ofNat 32 v)).msixFlush

/-- A configuration write of MSI-X Enable and the function mask (R471), once configuration requests are answered (R54). -/
def State.wrMsix (s : State) (enable mask : Bool) : State :=
  if !s.live 0x3A || decide (s.stage < 6) then s
  else ({ s with evt := { s.evt with msixEnable := enable, msixFuncMask := mask } }).msixFlush

/-- A configuration write of an AER status register, whose bits clear where 1 is written (log 35). -/
def State.wrAer (s : State) (corr : Bool) (v : Word) : State :=
  if !s.live 0x3A || decide (s.stage < 6) then s
  else
    let a := s.evt.aer
    { s with evt := { s.evt with aer := if corr then (a.1, a.2 &&& ~~~v) else (a.1 &&& ~~~v, a.2) } }

/-- The firmware raises its own event with a code and a severity (R413, R463); in DOWN no firmware runs (R396). -/
def State.stwSoft (s : State) (sev : Nat) (code : Word) : State :=
  if !s.live 0x3F || decide (s.stwState = 3) then s
  else s.raiseSev Ev.STW_SOFT sev 0x3F noInst [(4, code.toNat)]

/-- REGISTER_WRITE (R7, R54, R67, R407, R492, R531, R552). -/
def execRegisterWrite (m : Master) (place : WriteAt) (v : Word) (s : State) : Host.Outcome State Fault Refusal :=
  .next (match place with
    | .bar0 a => s.busWrite m (4 * a.toNat) v.toNat
    | .bar2 a => if m = .host then s.wrBar2 a.toNat v.toNat else s
    | .msix enable mask => if m = .host then s.wrMsix enable mask else s
    | .aer corr => if m = .host then s.wrAer corr v else s
    | .soft sev => if m = .steward then s.stwSoft sev.val v else s
    | .tap i a => s.tapScan i (4 * a.toNat) v.toNat)

/-! ### Read commands -/

/-- RC_REGISTER_READ (R8): a read of a register. -/
def execRcRegisterRead (m : Master) (a : BitVec 24) (s : State) : Host.Outcome State Fault Refusal :=
  .next (s.busRead m (4 * a.toNat))

/-- RESULT_STATUS_READ (R443): a read of a status word. -/
def execResultStatusRead (m : Master) (a : BitVec 24) (s : State) : Host.Outcome State Fault Refusal :=
  .next (s.busRead m (4 * a.toNat))

/-- COUNTER_LOW_WORD_READ (R511): a read of a counter's low word. -/
def execCounterLowWordRead (m : Master) (a : BitVec 24) (s : State) : Host.Outcome State Fault Refusal :=
  .next (s.busRead m (4 * a.toNat))

end Sys2Proof.Machine
end

