-- ==== Sys2Proof/Machine/Passbook.lean ====
section
/-! DEFINITION. The Passbook (R56 to R64, R234, R258, R360): its header, section table and signature block, its register
records and its other sections, the checks that verify a copy, and CONFIG_HASH. -/

namespace Sys2Proof.Machine

/-! ### Header, section table and signature block (R59, R60, R63) -/

/-- An entry of the section table. -/
structure Section where
  typ : Nat
  flags : Nat
  off : Nat
  size : Nat
  crc : Nat
  deriving DecidableEq, Repr

/-- LENGTH of an image. -/
def pbLen (bs : List Byte) : Nat := imgLe bs 0x08 4

/-- SECTIONS of an image. -/
def pbCount (bs : List Byte) : Nat := imgLe bs 0x0C 2

/-- Entry i of the section table. -/
def pbSection (bs : List Byte) (i : Nat) : Section :=
  let e := 0x40 + 16 * i
  { typ := imgLe bs e 2, flags := imgLe bs (e + 2) 2, off := imgLe bs (e + 4) 4, size := imgLe bs (e + 8) 4,
    crc := imgLe bs (e + 12) 4 }

/-- The section table. -/
def pbSections (bs : List Byte) : List Section := (List.range (pbCount bs)).map (pbSection bs)

/-- A section's bytes. -/
def Section.bytes (x : Section) (bs : List Byte) : List Byte := bytesAt bs x.off x.size

/-- The bytes of the sections of a type, in section-table order, as words (R61). -/
def pbWords (bs : List Byte) (typ : Nat) : List Word :=
  ((pbSections bs).filter fun x => decide (x.typ = typ)).flatMap fun x => bytesWords (x.bytes bs)

/-- The header check (R64, code 0x1). -/
def pbHdrOk (bs : List Byte) : Bool :=
  decide (imgLe bs 0 4 = 0x4B425350) && decide (imgLe bs 4 2 = 3) && decide (imgLe bs 6 2 = 0x40) &&
    decide (imgLe bs 0x0E 2 = 0) && decide (imgLe bs 0x3C 4 = crc32c (bytesAt bs 0 0x3C))

/-- Sections ascend without overlap from `at_` to the signature block at `sig`, each on a 4-byte boundary (R60). -/
def sectionsPlaced (sig : Nat) : Nat → List Section → Bool
  | _, [] => true
  | at_, x :: t => decide (x.off % 4 = 0) && decide (at_ ≤ x.off) && decide (x.off + x.size ≤ sig) &&
      sectionsPlaced sig (x.off + x.size) t

/-- The length and placement check (R64, code 0x3): SECTIONS is 1 to 64, as the header's rule gives it (R59). -/
def pbLengthOk (bs : List Byte) : Bool :=
  let len := pbLen bs
  let n := pbCount bs
  decide (1 ≤ n) && decide (n ≤ 64) && decide (0x40 + 16 * n + 256 ≤ len) && decide (len ≤ 2 ^ 24) &&
    sectionsPlaced (len - 256) (0x40 + 16 * n) (pbSections bs) && sigBlockOk bs (len - 256)

/-! ### Register records (R62) -/

/-- A register record. -/
inductive Rec where
  | write (a v : Nat)
  | modify (a mask v : Nat)
  | poll (a mask expect us : Nat)
  | block (a : Nat) (vs : List Word)
  deriving DecidableEq, Repr

/-- The record at the front of a list of words, and the words after it; none where it is not well formed. -/
def nextRec : List Word → Option (Rec × List Word)
  | [] => none
  | w :: t =>
    let x := w.toNat
    let a := bits x 25 2 * 4
    if bits x 29 26 ≠ 0 ∨ bits x 1 0 ≠ 0 then none
    else match bits x 31 30, t with
      | 0, v :: t => some (.write a v.toNat, t)
      | 1, m :: v :: t => some (.modify a m.toNat v.toNat, t)
      | 2, m :: e :: us :: t =>
        if 1 ≤ us.toNat ∧ us.toNat ≤ 1000000 then some (.poll a m.toNat e.toNat us.toNat, t) else none
      | 3, n :: t =>
        if 1 ≤ n.toNat ∧ n.toNat ≤ 65536 ∧ n.toNat ≤ t.length then some (.block a (t.take n.toNat), t.drop n.toNat) else none
      | _, _ => none

/-- The addresses a record names. -/
def Rec.addrs : Rec → List Nat
  | .write a _ => [a]
  | .modify a _ _ => [a]
  | .poll a _ _ _ => [a]
  | .block a vs => (List.range vs.length).map fun i => a + 4 * i

/-- Whether a record may name an address (R64): an implemented one, but for the AON boot and seal registers, the fuse
programming registers and the Vault's key-entry registers. -/
def recMay (a : Nat) : Bool :=
  let o := offsetOf a
  let id := islandOf a
  decide (a < 2 ^ 26) && ((findReg a).isSome || isHeader a || isCounterWord a) &&
    !(decide (id = 0x00) && ((decide (0x20 ≤ o) && decide (o ≤ 0x38)) || (decide (0x48 ≤ o) && decide (o ≤ 0x7C)))) &&
    !(decide (id = 0x2C) && decide (0x100 ≤ o) && decide (0x60 ≤ o % 0x100) && decide (o % 0x100 ≤ 0x7C))

/-- Whether words are well-formed records that name only permitted addresses; `n` bounds their number. -/
def recsOk : Nat → List Word → Bool
  | _, [] => true
  | 0, _ => false
  | n + 1, ws => match nextRec ws with
    | none => false
    | some (r, t) => r.addrs.all recMay && recsOk n t

/-! ### Tables, parse graphs and patterns (R234, R258) -/

/-- Replace a word of the action store (R239): a list, or with `tpl` a template half. -/
def State.setActWord (s : State) (tpl : Bool) (i v : Nat) : State :=
  if tpl then { s with tbl := { s.tbl with tpls := SMap.set (fun _ => 0) s.tbl.tpls i v } }
  else { s with tbl := { s.tbl with acts := SMap.set (fun _ => 0) s.tbl.acts i v } }

/-- The words of an entry in a TABLES record; codes 11 and 12 carry action lists and template halves (R218, R273). -/
def recWords (t : Nat) : Nat := if 11 ≤ t then 8 else entryWords t

/-- Whether a TABLES record's table and indices are in range; a ternary one is held against the whole store (R234). -/
def tableRange (s : State) (t : Nat) (ins : Bool) (i n : Nat) : Bool :=
  if t = 0 ∨ 12 < t then false
  else if ins then true
  else if t = 11 then decide (1 ≤ i) && decide (i + n ≤ 16384)
  else if t = 12 then decide (i + n ≤ 2048)
  else if isTernary t then decide (i + n ≤ 8192)
  else decide (i + n ≤ s.tblSize t)

/-- Whether words are TABLES records in range. -/
def tablesOk (s : State) : Nat → List Word → Bool
  | _, [] => true
  | n + 1, w :: i :: t =>
    let tb := bits w.toNat 31 28
    let k := bits w.toNat 15 0 * recWords tb
    tableRange s tb (w.toNat.testBit 27) i.toNat (bits w.toNat 15 0) && decide (k ≤ t.length) && tablesOk s n (t.drop k)
  | _, _ => false

/-- Whether words are PARSE records. -/
def parseOk (ws : List Word) : Bool := decide (ws.length % 13 = 0)

/-- Put an entry of a TABLES record at an index; an entry its table refuses stays out (R218, R225). -/
def State.loadEnt (s : State) (t i e : Nat) : State :=
  if t = 11 then s.setActWord false i e
  else if t = 12 then s.setActWord true i e
  else if s.writeCause t e i = 0 then (s.stripeSet t i e).placeAt t i e
  else s

/-- Load the entries of a TABLES record; none where an insert fails or an entry falls outside its table's partition. -/
def State.loadEnts (s : State) (t : Nat) (ins : Bool) (i : Nat) : List Nat → Option State
  | [] => some s
  | e :: es =>
    if ins then
      match s.insertEnt t e with
      | (s, _, some _) => s.loadEnts t ins i es
      | (_, _, none) => none
    else if isTernary t && decide (s.tblSize t ≤ i) then none
    else (s.loadEnt t i e).loadEnts t ins (i + 1) es

/-- The entries of `n` words each that a list of words spells; `k` is their number. -/
def chunkNats (n : Nat) : Nat → List Word → List Nat
  | 0, _ => []
  | k + 1, ws => wordsNat (ws.take n) :: chunkNats n k (ws.drop n)

/-- Load a TABLES section; `n` bounds its records. -/
def State.loadTables (s : State) : Nat → List Word → Option State
  | n + 1, w :: i :: t =>
    let tb := bits w.toNat 31 28
    let k := bits w.toNat 15 0
    (s.loadEnts tb (w.toNat.testBit 27) i.toNat (chunkNats (recWords tb) k t)).bind fun s =>
      s.loadTables n (t.drop (k * recWords tb))
  | _, _ => some s

/-- Load a PARSE section; `n` bounds its records. -/
def State.loadParse (s : State) : Nat → List Word → State
  | n + 1, w :: t =>
    let x := w.toNat
    let v := wordsNat (t.take 12)
    let put (s : State) (k : Nat) : State := if x.testBit (30 + k) then s.setNode k (bits x 29 29) (bits x 5 0) v else s
    (put (put s 0) 1).loadParse n (t.drop 12)
  | _, _ => s

/-- Put pattern slots from an index onward into a bank. -/
def State.loadPats (s : State) (bank i : Nat) : List Nat → State
  | [] => s
  | v :: vs => (s.setPat bank i v).loadPats bank (i + 1) vs

/-- Load a PATTERNS section; `n` bounds its records. -/
def State.loadPatterns (s : State) : Nat → List Word → State
  | n + 1, w :: f :: t =>
    let x := w.toNat
    let k := bits x 13 0
    let vs := chunkNats 35 k t
    let s := if x.testBit 30 then s.loadPats 0 (bits f.toNat 13 0) vs else s
    let s := if x.testBit 31 then s.loadPats 1 (bits f.toNat 13 0) vs else s
    s.loadPatterns n (t.drop (35 * k))
  | _, _ => s

/-- Whether words are PATTERNS records whose slots are in range. -/
def patternsOk : Nat → List Word → Bool
  | _, [] => true
  | n + 1, w :: f :: t =>
    let k := bits w.toNat 13 0
    decide (bits f.toNat 13 0 + k ≤ 16384) && decide (35 * k ≤ t.length) && patternsOk n (t.drop (35 * k))
  | _, _ => false

/-- Whether no set of a bank holds more than 4,096 patterns once every PATTERNS section is loaded (R253, R258). -/
def patternsFit (ws : List Word) : Bool :=
  let s := State.reset.loadPatterns ws.length ws
  (List.range 32).all fun k => decide ((s.setSlots (k / 16) (k % 16)).length ≤ 4096)

/-! ### The checks of R64 -/

/-- Whether a section's type and content are acceptable (R61, code 0xA). -/
def sectionOk (s : State) (bs : List Byte) (x : Section) : Bool :=
  let ws := bytesWords (x.bytes bs)
  decide (x.flags < 2) &&
    (if x.typ = 1 ∨ x.typ = 2 then decide (x.size % 4 = 0) && recsOk ws.length ws
    else if x.typ = 3 then decide (x.size % 4 = 0) && tablesOk s ws.length ws
    else if x.typ = 4 then decide (x.size % 4 = 0) && parseOk ws
    else if x.typ = 5 then decide (x.size % 4 = 0) && patternsOk ws.length ws
    else if x.typ = 6 ∨ x.typ = 7 then true
    else decide (x.flags = 1))

/-- The key check (R64, codes 0xD, 0x5, 0x6 and 0x7): in RMA the Emredom RMA key stands in place of the owner slots (R354). -/
def State.pbKeyCode (s : State) (bs : List Byte) : Nat :=
  let sig := pbLen bs - 256
  let slot := imgLe bs 0x17 1
  let rma := decide (s.fuse.life = 15)
  let pub := bytesAt bs (sig + 8) 96
  if !rma && (decide (s.fuse.life ≠ 7) || decide (s.fuse.prov % 16 = 0)) then 0xD
  else if imgLe bs (sig + 5) 1 ≠ slot || (if rma then decide (slot ≠ 0) else (decide (4 ≤ slot) || !s.fuse.usable slot)) then 0x5
  else if some (sha384 pub) ≠ (if rma then some Config.rmaKeyHash else s.fuse.hash slot) then 0x6
  else if !ecdsaOk pub (sha384 (bytesAt bs 0 sig)) (bytesAt bs (sig + 104) 96) then 0x7
  else 0

/-- The fail code of a copy that has been read, 0 when it verifies (R64). -/
def State.pbCode (s : State) (bs : List Byte) : Nat :=
  let bind := imgLe bs 0x18 8
  if !pbHdrOk bs then 0x1
  else if imgLe bs 0x14 2 ≠ 0x9648 ∨ s.stepping < imgLe bs 0x16 1 then 0x2
  else if !pbLengthOk bs then 0x3
  else if (pbSections bs).any fun x => decide (crc32c (x.bytes bs) ≠ x.crc) then 0x4
  else if s.pbKeyCode bs ≠ 0 then s.pbKeyCode bs
  else if imgLe bs 0x10 4 < s.fuse.floor then 0x8
  else if bind ≠ 0 ∧ bind ≠ s.dieId then 0x9
  else if (pbSections bs).all (sectionOk s bs) && patternsFit (pbWords bs 5) then 0
  else 0xA

/-! ### CONFIG_HASH (R360) -/

/-- The offsets the array dimensions of a register give. -/
def dimOffs : List (Nat × Nat) → List Nat
  | [] => [0]
  | (n, st) :: ds => (List.range n).flatMap fun i => (dimOffs ds).map (· + i * st)

/-- The bits of a register's RWL fields in a word. -/
def rwlBits (r : RegSpec) (w : Nat) : Nat := ((r.fields.filter fun f => f.acc = .rwl).map fun f => f.fld.of w * 2 ^ f.fld.lo).sum

/-- The addresses of an island's registers that hold an RWL field, in ascending order, each with its register. -/
def rwlRegs (id : Nat) : List (Nat × RegSpec) :=
  let l := ((islandRegs id).filter fun r => r.fields.any fun f => f.acc = .rwl).flatMap fun r =>
    (dimOffs r.dims).map fun o => (window id + r.off + o, r)
  l.mergeSort fun x y => decide (x.1 ≤ y.1)

/-- The bytes CONFIG_HASH is taken over: every RWL register in ascending address order, with the bits of other fields as 0. -/
def State.configBytes (s : State) : List Byte :=
  ((List.range 64).filter fun id => (islandInst id).isSome).flatMap fun id =>
    (rwlRegs id).flatMap fun p => leBytes 4 (rwlBits p.2 (s.reg p.1).toNat)

end Sys2Proof.Machine
end

