-- ==== Sys2Proof/Machine/Boot.lean ====
section
/-! DEFINITION. The first second (R41 to R73): power-on reset, the boot stages with their limits, the Passbook's copies and
records, sealing, release, the hold and the boot record. -/

namespace Sys2Proof.Machine

/-! ### Which islands a boot brings up (R16, R45, R46, R52) -/

/-- Whether an island is kept dark for this boot: by Assay or a PLL, or the DRAM islands without the crystal. -/
def State.bootDark (s : State) (id : Nat) : Bool :=
  s.bit aonB (islBit 0x12C id) || (s.bit aonB F.AON_BOOT_STAT.XTAL_FB && decide (0x30 ≤ id) && decide (id ≤ 0x38))

/-- Islands become live, but for those kept dark. -/
def State.bringLive (s : State) (l : List Nat) : State := s.setLives (l.filter fun id => !s.bootDark id) true

/-- An island is kept dark for this boot, and ASSAY_ISLAND_FAIL carries its test classes (R46, R52). -/
def State.keepDark (s : State) (id classes : Nat) : State :=
  (s.setBit aonB (islBit 0x12C id) true).raise Ev.ASSAY_ISLAND_FAIL 0x00 noInst [(1, id), (1, classes)]

/-- The crystal fallback shows in TIM and inhibits the PON transmitters (R45, R322). -/
def State.fallbackMarks (s : State) : State :=
  if s.bit aonB F.AON_BOOT_STAT.XTAL_FB then ((s.setInh 0 1 true).setInh 1 1 true).setF timB F.TIM_STAT.XTAL_FB 1 else s

/-- The quads' PLLs hold lock at their present settings (R53). -/
def State.lockQuads (s : State) : State :=
  let put (s : State) (q : Nat) (set lock : Fld) : State :=
    s.setBit (quadB q) lock (decide (s.fld (quadB q) set ≠ 0) && !s.bootDark (0x10 + q))
  (List.range 12).foldl (fun s q => put (put s q F.TQ_QUAD_PLL.PLL0_SET F.TQ_QUAD_PLL.PLL0_LOCK) q F.TQ_QUAD_PLL.PLL1_SET
    F.TQ_QUAD_PLL.PLL1_LOCK) s

/-- What AON_UP loads into other islands' registers: the serial numbers, the path delays and the firmware floor (R138, R352,
R394). -/
def State.loadIslands (s : State) : State :=
  let die := s.fld aonB F.AON_HM_DIE_LO.DIE_LO
  let s := ((s.setPf 0 F.PN_SN_LO.SPECIFIC die).setPf 1 F.PN_SN_LO.SPECIFIC die).setF stwB F.STW_FW_FLOOR.FLOOR s.ledger.fwFloor
  (s.showTiCal 0).showTiCal 1

/-! ### The boot record and the hold (R65, R72) -/

/-- Milliseconds since POR release or the restart. -/
def State.bootMs (s : State) : Nat := min 0xFFFF ((s.now - s.boot.t0) / msTicks)

/-- The boot record (R72). -/
def State.bootRecord (s : State) : List Byte :=
  let f (g : Fld) : Nat := s.fld aonB g
  let flags := f F.AON_BOOT_STAT.COPY + 2 * f F.AON_BOOT_STAT.FW_COPY + 4 * f F.AON_BOOT_STAT.XTAL_FB +
    8 * f F.AON_BOOT_STAT.STW_DOWN + 16 * b2n s.inHold
  leBytes 2 (f F.AON_BOOT_STAT.BOOT_COUNT) ++ leBytes 1 s.stage ++ leBytes 1 flags ++
    leBytes 4 (s.reg (aonB + 0x24)).toNat ++ leBytes 4 (s.reg (aonB + 0x2C)).toNat ++
    leBytes 4 (f F.AON_PB_VERSION.VERSION) ++ beBytes 48 s.boot.pbHash

/-- The boot record goes into the Ledger's ring of 1,024, unless a sag has been signalled before (R50, R72). -/
def State.writeBootRecord (s : State) : State :=
  if s.sagging then s
  else
    let l := s.ledger.boots ++ [s.bootRecord]
    { s with ledger := { s.ledger with boots := l.drop (l.length - 1024) } }

/-- Only the timers of AON run on. -/
def State.aonTimers (s : State) : State :=
  { s with timers := s.timers.filter fun p => decide (0x70020 ≤ p.1) && decide (p.1 < 0x71000) }

/-- The device enters the hold (R65): only AON, CKR and HST are live. -/
def State.hold (s : State) (code : Nat) : State :=
  let s := (s.setLives ((List.range 64).filter fun i => decide (2 ≤ i) && decide (i ≠ 0x3A)) false).aonTimers
  let s := ((s.toStage 0xF).stopTimer Tm.poll).stopTimer Tm.relock
  let s := { s with boot := { s.boot with lastCode := code, image := none, words := [], relock := [] } }
  (s.setLive 0x3A true).writeBootRecord

/-! ### Copies (R57, R58, R62) -/

/-- A copy is read (R57, R58): XSPI_RESET_N is released, where it is low still (R549). -/
def State.readCopy (s : State) (k : Nat) : State :=
  let s := if s.flash.upAt = 0 then { s with flash := { s.flash with upAt := s.now + 1 } } else s
  ({ s with boot := { s.boot with copy := k, image := none, words := [] } }).toStage 4

/-- The copy in use fails with a code: BOOT_COPY_FAIL is raised, and no copy is in use (R58, R70). -/
def State.copyCode (s : State) (code : Nat) : State :=
  let k := s.boot.copy
  let s := s.setF aonB (if k = 0 then F.AON_BOOT_FAIL.FAIL_A else F.AON_BOOT_FAIL.FAIL_B) code
  let s := s.setF aonB F.AON_PB_VERSION.VERSION 0
  let s : State := { s with boot := { s.boot with tried := Nat.lor s.boot.tried (2 ^ k), lastCode := code, pbHash := 0,
                                                  words := [], relock := [] } }
  s.raise Ev.BOOT_COPY_FAIL 0x00 noInst [(1, k), (1, code)]

/-- The other copy is tried, or the hold entered (R58). -/
def State.otherCopy (s : State) : State :=
  let k := 1 - s.boot.copy
  if s.boot.tried.testBit k then s.hold s.boot.lastCode else s.readCopy k

/-- A verified copy fails while it is applied (R62): every island but AON and CKR is reset first. -/
def State.applyFail (s : State) : State :=
  let mint := s.fld vltB F.VLT_STAT.MINT
  let s := (((s.copyCode 0xC).stopTimer Tm.poll).stopTimer Tm.relock).resetIslands
  let s := (s.loadIslands.fallbackMarks.lockQuads).setF vltB F.VLT_STAT.MINT mint
  let s := if mint = 0 then s.startTimer Tm.mint (100 * msTicks) else s
  let s := if s.bit aonB F.AON_BOOT_STAT.XTAL_FB then s else s.setF aonB F.AON_CLK_CTRL.PLL_READY 1
  s.otherCopy

/-! ### Power-on reset (R41, R538, R546) -/

/-- RAIL_ENTERS_RANGE (R41, R546): the last rail to enter starts the 2 ms hold. -/
def execRailEntersRange (r : Fin 9) (s : State) : Host.Outcome State Fault Refusal :=
  .next <|
    if s.boot.rails.testBit r.val then s
    else
      let s := { s with boot := { s.boot with rails := Nat.lor s.boot.rails (2 ^ r.val) } }
      if s.boot.por ∧ s.boot.rails = 511 then s.startTimer Tm.rails (2 * msTicks) else s

/-- RAIL_OUT_OF_RANGE (R41): power-on reset is asserted again. -/
def execRailOutOfRange (r : Fin 9) (s : State) : Host.Outcome State Fault Refusal :=
  .next (let s := s.fuseCut.flashCut.powerOn
    { s with boot := { s.boot with rails := s.boot.rails - (if s.boot.rails.testBit r.val then 2 ^ r.val else 0) } })

/-- POR_RELEASE (R41, R544): the straps are sampled and AON_UP starts; with TEST_EN 1 the device stays in POR. -/
def execPorRelease (benA benB : Bool) (vrAddr : BitVec 2) (testEn : Bool) (s : State) : Host.Outcome State Fault Refusal :=
  .next (s.expire Tm.rails fun s =>
    if testEn then s
    else
      let s := { s with
        pwr := { s.pwr with benStrap := ⟨benA, benB⟩, vrAddr := vrAddr.toNat }
        boot := { s.boot with por := false, t0 := s.now } }
      s.toStage 0)

/-! ### AON_UP, XTAL and PLL (R44, R45, R53) -/

/-- The Ledger's boot area (R44, R68, R69): the boot count rises by one, and the preference is shown. -/
def State.loadLedger (s : State) : State :=
  let n := min 0xFFFF (s.ledger.bootCount + 1)
  let s := if s.sagging then s else { s with ledger := { s.ledger with bootCount := n } }
  (s.setF aonB F.AON_BOOT_STAT.BOOT_COUNT n).setBit aonB F.AON_BOOT_CTRL.PREFER_B s.ledger.preferB

/-- Whether a Hallmark's CRC is right (R352, R353). -/
def hallmarkOk (hm : List Word) : Bool := decide ((hm.getD 127 0).toNat = crc32c (wordBytes (hm.take 127)))

/-- AON_UP_DONE (R44, R353, R365): the fuses' parity, the Hallmark's 128 words and the regulator's exponent as read. A failed
read ends in the hold; an RMA that a power loss interrupted is completed, and the device reboots. -/
def execAonUpDone (parityOk : Bool) (hm : List Word) (vout : BitVec 5) (s : State) : Host.Outcome State Fault Refusal :=
  .next <|
    if s.boot.por || decide (s.stage ≠ 0) then s
    else
      let s := s.loadLedger
      if !parityOk || !hallmarkOk hm then s.hold 0xE
      else
        let s := (s.setRegs (aonB + 0x400) (hm.take 128)).showFuses
        let s := s.setF aonB F.AON_PB_FLOOR.FLOOR s.fuse.floor
        let s := { s with pwr := { s.pwr with voutExp := toSigned 5 vout.toNat } }
        if s.ledger.marker then s.rmaSteps.reboot else s.loadIslands.toStage 1

/-- XTAL_QUALIFIED (R45): a crystal that has been lost since POR stays lost (R491). -/
def execXtalQualified (s : State) : Host.Outcome State Fault Refusal :=
  .next (if s.stage = 1 ∧ s.boot.xtalLost = false then s.toStage 2 else s)

/-- The crystal is given up (R45). -/
def State.xtalFail (s : State) : State :=
  let s := (s.setF aonB F.AON_BOOT_STAT.XTAL_FB 1).setF aonB F.AON_CLK_CTRL.ON_FAST 1
  (s.fallbackMarks.raise Ev.XTAL_FAIL 0x00 noInst [(1, s.bootMs)]).toStage 2

/-- XTAL_TIMEOUT (R45): 20 ms after POR release. -/
def execXtalTimeout (s : State) : Host.Outcome State Fault Refusal :=
  .next (if s.stage = 1 then (s.elapseTo (s.boot.t0 + 20 * msTicks)).xtalFail else s)

/-- Stage PLL ends (R53): the host link has its clock, and Assay starts. -/
def State.pllEnd (s : State) (ready : Bool) : State :=
  let s := s.lockQuads.setBit aonB F.AON_CLK_CTRL.PLL_READY (ready && !s.bit aonB F.AON_BOOT_STAT.XTAL_FB)
  (s.bringLive [0x3A]).toStage 3

/-- PLL_STAGE_DONE (R53). -/
def execPllStageDone (s : State) : Host.Outcome State Fault Refusal := .next (if s.stage = 2 then s.pllEnd true else s)

/-- PLL_RELOCK_DONE (R53): a PLL of a lane, a PON channel or the DRAM. -/
def execPllRelockDone (pll : Fin 27) (s : State) : Host.Outcome State Fault Refusal := .next (s.relocked pll.val)

/-- The PLL stage reaches its limit (R52): the islands of unlocked PLLs are kept dark, or the device holds. -/
def State.pllLimit (s : State) (unlocked : List Nat) : State :=
  if unlocked.any fun id => decide (id = 0x2C) || decide (id = 0x3F) || decide (id = 0x3A) then s.hold 0xE
  else (unlocked.foldl (fun s id => s.keepDark id 0) s).pllEnd unlocked.isEmpty

/-! ### Assay and the Passbook's copies (R46, R57, R64) -/

/-- The island of the first Assay failure (R46, R70), the tests in the order R42 lists them: the ROM's is a free value, since the
spec does not place the ROM, and the ciphers and the Mint are VLT's (log 186). -/
def State.assayFirst (s : State) (rom kat mint : Bool) (sram : List (Fin 64)) : State × Option Nat :=
  if rom then
    let (s, r) := s.takeFree
    (s, some (r % 64))
  else if kat then (s, some 0x2C)
  else match sram with
    | i :: _ => (s, some i.val)
    | [] => (s, if mint then some 0x2C else none)

/-- ASSAY_DONE (R46, R70): which of the ROM check, a known-answer test and a Mint start-up test failed, and the islands whose
SRAM test failed, the first to fail first. -/
def execAssayDone (rom kat mint : Bool) (sram : List (Fin 64)) (s : State) : Host.Outcome State Fault Refusal :=
  .next <|
    if s.stage ≠ 3 then s
    else
      let s := s.elapseTo (s.boot.stageAt + 25 * msTicks)
      let s := (s.setBit aonB F.AON_BOOT_FAIL.ASSAY_ROM rom).setBit aonB F.AON_BOOT_FAIL.ASSAY_KAT kat
      let s := (s.setBit aonB F.AON_BOOT_FAIL.ASSAY_MINT mint).setBit aonB F.AON_BOOT_FAIL.ASSAY_SRAM (!sram.isEmpty)
      let (s, r) := s.assayFirst rom kat mint sram
      let s := match r with
        | none => s
        | some i => s.setF aonB F.AON_BOOT_FAIL.ASSAY_ISL i
      if rom || kat || mint || sram.any fun i => [0x00, 0x01, 0x2C, 0x3F, 0x3A].contains i.val then s.hold 0xE
      else
        let s := sram.foldl (fun s i => s.keepDark i.val 0x20) s
        let s := (s.setMint 0).mintReseed
        s.readCopy (s.fld aonB F.AON_BOOT_CTRL.PREFER_B)

/-- The bytes PB_READ reads of a copy whose first bytes are as given (R57, R64). -/
def pbRead (bs : List Byte) : Nat := pbBytes (pbHdrOk bs) (pbCount bs) (pbLen bs)

/-- PB_READ_DONE (R42, R57, R549): the bytes the board put into the copy, none where no flash answers or its mode is not offered.
The read ends after the header or at LENGTH, and fails where its limit has passed. -/
def execPbReadDone (image : Option (List Byte)) (s : State) : Host.Outcome State Fault Refusal :=
  .next <|
    if s.stage ≠ 4 then s
    else
      let s := (s.elapseTo (s.flash.upAt - 1 + 100 * usTicks)).flashSettle
      match image with
      | none => (s.copyCode 0xB).otherCopy
      | some bs =>
        let bs := s.flashRead (pbBase s.boot.copy) bs
        if s.boot.stageAt + pbLimit (pbRead bs) < s.now then (s.copyCode 0xB).otherCopy
        else ({ s with boot := { s.boot with image := some (bs.take (pbRead bs)) } }).toStage 5

/-- The bytes of the copy in use. -/
def State.pbImage (s : State) : List Byte := s.boot.image.getD []

/-- A verified copy is in use, and DRAM_TRAIN starts with its PRE records and the channels' RESET_N
high (R42, R61, R69, R71, R540). -/
def State.copyVerified (s : State) : State :=
  let bs := s.pbImage
  let s := s.setF aonB F.AON_BOOT_STAT.COPY s.boot.copy
  let s := (s.setF aonB F.AON_BOOT_TIME.VERIFY_MS s.bootMs).setF aonB F.AON_PB_VERSION.VERSION (imgLe bs 0x10 4)
  let s := { s with boot := { s.boot with pbHash := sha384 (bytesAt bs 0 (pbLen bs - 256)), keySlot := imgLe bs 0x17 1,
                                          words := pbWords bs 1 } }
  let s := if s.bit aonB F.AON_BOOT_STAT.XTAL_FB then s
    else (List.range 8).foldl (fun s c => s.setMc c { s.mc c with resetN := true }) s
  (s.toStage 6).bringLive ([0x04, 0x08, 0x09] ++ (List.range 9).map (0x30 + ·))

/-- PB_VERIFY_DONE (R64): 4 ms after the read. -/
def execPbVerifyDone (s : State) : Host.Outcome State Fault Refusal :=
  .next <|
    if s.stage ≠ 5 then s
    else
      let s := s.elapseTo (s.boot.stageAt + 4 * msTicks)
      let c := s.pbCode s.pbImage
      if c = 0 then s.copyVerified else (s.copyCode c).otherCopy

/-! ### Register records (R53, R62) -/

/-- A record's command has taken effect, so its BUSY is clear again before the next record (R62, R104). -/
def State.settleCmd (s : State) (a : Nat) : State :=
  let id := islandOf a
  let o := offsetOf a
  let cmd := ((id == 0x08 || id == 0x09) && (o == 0x40 || o == 0x180)) || ((id == 0x0A || id == 0x0B) && o == 0x04) ||
    ((0x10 ≤ id && id ≤ 0x1B) && o < 0x4000 && o % 0x1000 == 0x310) || ((id == 0x20 || id == 0x21) && o == 0x110) ||
    (id == 0x22 && (o == 0x10 || o == 0x600)) || (id == 0x24 && o == 0x808) || (id == 0x25 && o == 0x20100) ||
    (id == 0x28 && (o == 0x100 || o == 0x200 || o == 0xA00)) || (id == 0x38 && o == 0x28) || (id == 0x3E && o == 0xD00)
  if cmd then s.setReg a (BitVec.ofNat 32 (setBits (s.reg a).toNat 31 31 0)) else s

/-- A record writes a word; an island kept dark for this boot takes none. -/
def State.recWrite (s : State) (a v : Nat) : State :=
  if s.bootDark (islandOf a) then s else (s.wrWord .host a v).settleCmd a

/-- A record reads a word; an island kept dark for this boot reads all ones. -/
def State.recRead (s : State) (a : Nat) : State × Nat :=
  if s.bootDark (islandOf a) then (s, 0xFFFFFFFF)
  else if isCounterWord a then (s, if a % 8 = 0 then s.lowWord a else s.highWord (a - 4))
  else s.readReg a

/-- Put words at ascending addresses, as records do. -/
def State.recBlock (s : State) (a : Nat) : List Word → State
  | [] => s
  | w :: ws => (s.recWrite a w.toNat).recBlock (a + 4) ws

/-- The record in front is applied: a POLL stays until what it reads is as expected. -/
def State.applyRec (s : State) (r : Rec) (rest : List Word) : State :=
  let done (s : State) : State := { s with boot := { s.boot with words := rest } }
  match r with
  | .write a v => (done s).recWrite a v
  | .modify a m v =>
    let (s, old) := (done s).recRead a
    s.recWrite a (old - Nat.land old m + Nat.land v m)
  | .block a vs => (done s).recBlock a vs
  | .poll a m e us =>
    let (s, v) := s.recRead a
    if Nat.land v m = e then (done s).stopTimer Tm.poll
    else if s.timerOn Tm.poll then s
    else s.startTimer Tm.poll (us * usTicks)

/-- PB_RECORD_APPLY (R62): the next record is applied once the one before has taken effect, any relock included (R53). -/
def execPbRecordApply (s : State) : Host.Outcome State Fault Refusal :=
  .next <|
    if (s.stage ≠ 6 ∧ s.stage ≠ 7) ∨ s.boot.relock.isEmpty = false then s
    else match nextRec s.boot.words with
      | none => s
      | some (r, rest) => s.applyRec r rest

/-- POLL_RECORD_TIMEOUT (R53, R62): a POLL, or a relock of the boot, has run out of time. -/
def execPollRecordTimeout (s : State) : Host.Outcome State Fault Refusal :=
  .next (if s.timerOn Tm.relock then s.expire Tm.relock fun s => s.applyFail else s.expire Tm.poll fun s => s.applyFail)

/-! ### DRAM_TRAIN, APPLY and STEWARD (R47, R48, R61, R67) -/

/-- A wanted channel that has not trained counts as having failed twice (R47, R52). -/
def State.trainLimit (s : State) (c : Nat) : State :=
  let s := s.mcBootTrain c
  if s.mcTraining c then (s.setMcF c F.MC_TRAIN_STAT.ATTEMPTS 2).mcTrainFail c else s

/-- DRAM_TRAIN ends, and APPLY starts with the MAIN records (R61). -/
def State.trainEnd (s : State) : State :=
  let s := ((List.range 8).foldl State.trainLimit s).stopTimer Tm.poll
  let s := { s with mcCounting := !s.bit aonB F.AON_BOOT_STAT.XTAL_FB, boot := { s.boot with words := pbWords s.pbImage 2 } }
  s.toStage 7

/-- DRAM_TRAIN_DONE (R47). -/
def execDramTrainDone (s : State) : Host.Outcome State Fault Refusal :=
  .next (if s.stage = 6 ∧ s.boot.words = [] ∧ s.boot.relock = [] then s.trainEnd else s)

/-- A TABLES, PARSE or PATTERNS section is loaded into the islands that are not dark; none where it fails the copy (R234,
R258). -/
def State.loadSection (s : State) (bs : List Byte) (x : Section) : Option State :=
  let ws := bytesWords (x.bytes bs)
  if x.typ = 3 then (if s.bootDark 0x22 then some s else s.loadTables ws.length ws)
  else if x.typ = 4 then some (s.loadParse ws.length ws)
  else if x.typ = 5 then some (if s.bootDark 0x25 then s else s.loadPatterns ws.length ws)
  else some s

/-- Load sections in section-table order. -/
def State.loadSections (s : State) (bs : List Byte) : List Section → Option State
  | [] => some s
  | x :: t => match s.loadSection bs x with
    | none => none
    | some s => s.loadSections bs t

/-- The STEWARD sections of a Passbook, in section-table order (R61). -/
def stewardPolicy (bs : List Byte) : List Byte := ((pbSections bs).filter fun x => decide (x.typ = 6)).flatMap fun x => x.bytes bs

/-- The Passbook is sealed (R67): its STEWARD section goes to the firmware (R61), the pipelines check their live bank (R213), the trace ring is allocated (R433), and stage
STEWARD loads the firmware copy that matches the Passbook's (R48). -/
def State.seal (s : State) : State :=
  let s := s.setF aonB F.AON_SEAL.SEALED 1
  let s := { s with boot := { s.boot with configHash := sha384 s.configBytes, image := none }
                    stw := { s.stw with policy := stewardPolicy s.pbImage } }
  let s := (s.checkBank 0 s.liveEpoch).checkBank 1 s.liveEpoch
  let s := if s.bit mccB F.MCC_TRACE_CFG.EN then s.allocRing else s
  let s := s.toStage 8
  ({ s with stw := { s.stw with failed := 0 } }).stwLoad (s.fld aonB F.AON_BOOT_STAT.COPY)

/-- APPLY_DONE (R61, R67, R234): the sections are loaded after the MAIN records, and the Passbook is sealed. -/
def execApplyDone (s : State) : Host.Outcome State Fault Refusal :=
  .next <|
    if s.stage ≠ 7 ∨ s.boot.words ≠ [] ∨ s.boot.relock ≠ [] then s
    else match s.loadSections s.pbImage (pbSections s.pbImage) with
      | none => s.applyFail
      | some s => s.seal

/-- STEWARD_STAGE_DONE (R48): a firmware copy runs, or the Steward is down. -/
def execStewardStageDone (s : State) : Host.Outcome State Fault Refusal :=
  .next (if s.stage = 8 ∧ (s.stwState = 1 ∨ s.stwState = 3) then s.toStage 9 else s)

/-- The firmware copy being tried has no time left: it fails with 0xC, and the other is not tried (R52, R395). -/
def State.stewardLimit (s : State) : State :=
  if s.stwState = 1 ∨ s.stwState = 3 then s.toStage 9
  else (({ s with stw := { s.stw with failed := Nat.lor s.stw.failed (2 ^ (1 - s.stw.copy)) } }).fwFail 0xC).toStage 9

/-! ### RELEASE and RUN (R49, R52, R72, R73) -/

/-- The lanes that calibrate at item 1 of R49: the tenant lanes the Passbook enables, and those of the PON channels. -/
def State.calLanes (s : State) : List Nat :=
  ((List.range 48).filter fun n => decide (s.laneMode n ≠ 0) && !s.bootDark (quadId n)) ++
    ([48, 49].filter fun n => !s.bootDark (0x08 + (n - 48)))

/-- A lane whose calibration has not ended fails with step 3 (R52, R170). -/
def State.calLimit (s : State) (n : Nat) : State := if s.boot.cal.contains n then s else s.calLane n (some 3)

/-- The islands come up: EVT first, so that it takes the boot buffer (R73), then the others; STW follows its firmware. -/
def State.riseAll (s : State) : State :=
  (s.bringLive [0x3C]).bringLive ((List.range 64).filter fun i => decide (2 ≤ i) && decide (i ≠ 0x3F) && (islandInst i).isSome)

/-- Counters that count from an item of R49 count (R105). -/
def State.countFrom (s : State) (item : Nat) : State := { s with counting := item }

/-- Items 2 to 5 of R49; under crystal fallback no tenant port is released (R45), and a PON channel whose lane has not calibrated
stays down. -/
def State.releaseItems (s : State) : State :=
  let s := s.countFrom 2
  let s := if s.live 0x04 then s.setF timB F.TIM_STAT.RUN 1 else s
  let ports := if s.bit aonB F.AON_BOOT_STAT.XTAL_FB then [] else (List.range 48).filter fun n => s.live (quadId n)
  let s := ports.foldl State.releasePort (s.countFrom 4)
  ([0, 1].filter fun c => s.live (0x08 + c) && !s.boot.calBad.contains (48 + c)).foldl State.pnStart (s.countFrom 5)

/-- The events that report what the Ledger holds of earlier boots: the last boot's hold, lifecycle transitions and a gasp
record of the previous boot (R73, R355, R498). -/
def State.ledgerEvents (s : State) : State :=
  let s : State := match s.ledger.gasps.getLast? with
    | none => s
    | some g =>
      if leNat (g.take 2) + 1 = s.fld aonB F.AON_BOOT_STAT.BOOT_COUNT then
        s.raise Ev.PWR_GASP_PREV 0x00 noInst ((g.take 16).map fun (b : Byte) => (1, b.toNat))
      else s
  let l := s.ledger.lives
  let s : State := { s with ledger := { s.ledger with lives := [] } }
  l.foldl (fun (s : State) (p : Nat × Nat) => s.raise Ev.VLT_LIFECYCLE 0x2C noInst [(1, p.1), (1, p.2)]) s

/-- BOOT_PREV_HOLD where the newest boot record before this boot shows the hold (R73). -/
def State.prevHold (s : State) : State :=
  match s.ledger.boots.getLast? with
  | none => s
  | some r =>
    if (r.getD 3 0).toNat.testBit 4 then s.raise Ev.BOOT_PREV_HOLD 0x00 noInst ((r.take 16).map fun (b : Byte) => (1, b.toNat)) else s

/-- The device is operational (R43, R49, R71 to R73). -/
def State.toRun (s : State) : State :=
  let s := (s.toStage 0xA).countFrom 7
  let s := s.setF aonB F.AON_BOOT_TIME.RUN_MS s.bootMs
  let s := s.prevHold.raise Ev.BOOT_RUN 0x00 noInst
    [(4, (s.reg (aonB + 0x2C)).toNat), (1, s.fld aonB F.AON_BOOT_STAT.COPY), (1, s.fld aonB F.AON_BOOT_STAT.FW_COPY)]
  s.ledgerEvents.writeBootRecord

/-- RELEASE does its work in the order of R49; lanes that have not calibrated have failed. -/
def State.release (s : State) : State :=
  let s := s.calLanes.foldl State.calLimit s
  s.riseAll.releaseItems.toRun

/-- RELEASE_DONE (R49, R52): with a lane not calibrated the stage ends 200 ms after it began. -/
def execReleaseDone (s : State) : Host.Outcome State Fault Refusal :=
  .next <|
    if s.stage ≠ 9 then s
    else
      let due := s.calLanes.all fun n => s.boot.cal.contains n
      (if due then s else s.elapseTo (s.boot.stageAt + 200 * msTicks)).release

/-! ### Limits (R52) -/

/-- PB_READ reaches its limit (R42, R52): 5 ms for each MiB the header in the flash names, 80 ms while it has not been read. -/
def State.readLimit (s : State) (hdr : List Byte) : State :=
  let n := if hdr.length < 64 then 2 ^ 24 else pbRead (s.flashRead (pbBase s.boot.copy) hdr)
  (((s.elapseTo (s.boot.stageAt + pbLimit n)).stopTimer Tm.stage).copyCode 0xB).otherCopy

/-- STAGE_LIMIT_EXPIRY (R52): at stage PLL, with the islands whose PLL is not locked; at PB_READ, with the copy's header where it
has been read. -/
def execStageLimitExpiry (x : LimitIn) (s : State) : Host.Outcome State Fault Refusal :=
  .next (if s.stage = 4 ∧ s.timerOn Tm.stage = true then s.readLimit x.hdr
  else s.expire Tm.stage fun s =>
    if s.stage = 0 then s.loadLedger.hold 0xE
    else if s.stage = 1 then s.xtalFail
    else if s.stage = 2 then s.pllLimit (x.unlocked.map (·.val))
    else if s.stage = 6 then s.trainEnd
    else if s.stage = 7 then s.applyFail
    else if s.stage = 8 then s.stewardLimit
    else if s.stage = 9 then s.release
    else s)

end Sys2Proof.Machine
end

