-- ==== Sys2Proof/Machine/Grant.lean ====
section
/-! DEFINITION. The pipeline's slot: which packet takes it and the pass it starts, and the host's starvation (R32 to R34). -/
namespace Sys2Proof.Machine

/-- An unused slot is counted (R515). -/
def State.slotIdle (s : State) (k : Nat) : State := s.pmc 0x013 k

/-- A packet has its slot: an injected one completes its descriptor (R453), and its pass runs. -/
def State.slotGiven (s : State) (k : Nat) (c : Slot) (p : Packet) (ecc : Option EccRead) : State :=
  let first := decide (c ≠ .recirc)
  let s := match c with
    | .host d => s.dmaInjected d
    | _ => s
  s.runPass k p first ecc fun s => s.islandFault 0x22 1 none

/-- A pipeline grants its slot to the first ready candidate (R33). -/
def State.grantSlot (s : State) (k : Nat) (ecc : Option EccRead) : State :=
  let c := s.pickSlot k
  let s := s.capHit k
  match s.takeSlot k c with
  | (s, none) => s.slotIdle k
  | (s, some p) => s.slotGiven k c p ecc

/-- PIPELINE_SLOT_GRANT (R33): `ecc` is a stage, the entry it reads with an ECC error, what that error is and its memory bank
(R233). -/
def execPipelineSlotGrant (k : Pipe) (ecc : Option (Fin 12 × BitVec 16 × EccOutcome × Fin 64)) (s : State) :
    Host.Outcome State Fault Refusal :=
  .next <|
    if s.accepts (0x20 + k.val) then
      s.grantSlot k.val (ecc.map fun e => ⟨e.1.val, e.2.1.toNat, e.2.2.1, e.2.2.2.val⟩)
    else s

/-- Whether a channel's injected packet has waited HOST_STARVE µs (R34). -/
def State.hostStarved (s : State) (k d : Nat) : Bool :=
  let lim := s.fld (kB k) F.KP_ARB_CFG.HOST_STARVE
  match SMap.get (fun _ => []) (s.pipe k).host d with
  | [] => false
  | p :: _ => decide (lim ≠ 0) && decide (p.since + lim * usTicks ≤ s.now)

/-- HOST_STARVE_EXPIRY (R34): an injected packet of a channel has waited too long for its slot, and keeps its place. -/
def execHostStarveExpiry (d : Fin 32) (s : State) : Host.Outcome State Fault Refusal :=
  .next <|
    let k := if d.val < 16 then 0 else 1
    if s.accepts (0x20 + k) && s.hostStarved k d.val then
      (s.setF (kB k) F.KP_ARB_STAT.HOST_STARVED 1).raiseMs k (Ev.KP_HOST_STARVED + k) (0x20 + k) noInst [(1, d.val)]
    else s

end Sys2Proof.Machine
end

