-- ==== Sys2Proof/Machine/Omci.lean ====
section
/-! DEFINITION. The OMCI agents (R399 to R405, R407): their MIBs, what a request does to the device, PM history and alarms. -/

namespace Sys2Proof.Machine

/-! ### MIBs (R400, R401) -/

/-- The classes the agents support (R401). -/
def omciClasses : List Nat :=
  [2, 7, 11, 45, 47, 84, 131, 171, 256, 257, 262, 263, 266, 268, 277, 278, 280, 281, 312, 341, 344, 350]

/-- The classes whose entities are the device's (R400): software images, UNIs, ONU-G and ONU2-G. -/
def omciShared : List Nat := [7, 11, 256, 257]

/-- Whether only the primary channel may make a request (R400): sets to device-wide entities, Create, Delete and Reboot. -/
def omciPrimaryOnly (r : OmciReq) : Bool :=
  (decide (r.op = .set) && omciShared.contains r.cls.toNat) || decide (r.op = .create) || decide (r.op = .delete) ||
    decide (r.op = .reboot)

/-- The primary channel (R400). -/
def State.primary (s : State) : Nat :=
  let c := Config.primary s.stw.policy % 2
  if s.svc c = 0 then c else 1 - c

/-- A channel's MIB, and its replacement. -/
def State.mib (s : State) (c : Nat) : Mib := s.stw.mibs.get (chIx c)
def State.setMib (s : State) (c : Nat) (m : Mib) : State := { s with stw := { s.stw with mibs := s.stw.mibs.set (chIx c) m } }

/-- An entity's key in a MIB. -/
def omciEntity (r : OmciReq) : Nat := r.cls.toNat * 65536 + r.inst.toNat

/-- The data sync after a change: 255 is followed by 1 (log 183). -/
def Mib.bump (m : Mib) : Mib := { m with sync := if m.sync = 255 then 1 else m.sync + 1 }

/-- A MIB with an entity's attributes replaced, or without the entity. -/
def Mib.put (m : Mib) (k : Nat) (v : Option (List Byte)) : Mib := { m with ents := SMap.set (fun _ => none) m.ents k v }

/-- What an accepted request leaves in the MIBs (R400, R401): a device-wide entity stands in both. -/
def State.mibDone (s : State) (c : Nat) (r : OmciReq) : State :=
  let put (s : State) (v : Option (List Byte)) : State :=
    let s := s.setMib c ((s.mib c).put (omciEntity r) v).bump
    if omciShared.contains r.cls.toNat then s.setMib (1 - c) ((s.mib (1 - c)).put (omciEntity r) v) else s
  match r.op with
  | .create => put s (some r.attrs)
  | .set => put s (some r.attrs)
  | .delete => put s none
  | .mibReset => s.setMib c { sync := 0, ents := [] }
  | _ => s

/-- The firmware writes into its data store (R399). -/
def State.omciKeep (s : State) (k : Option (BitVec 24 × List Byte)) : State :=
  match k with
  | none => s
  | some (a, bs) => s.flashStart (storeBase + a.toNat) bs

/-! ### PM history (R401) -/

/-- The counters PM history reports (R401): those of PON Downstream and PON Upstream. -/
def State.pmCounters (s : State) (c : Nat) : List Nat := (List.range 93).map fun k => s.ctr (pnB c + 0x200 + 8 * k)

/-- A 15-minute interval, in ticks. -/
def pmInterval : Nat := 900000 * msTicks

/-- A channel's history at an interval's end, or at Synchronize time. -/
def State.pmTurn (s : State) (c : Nat) (keep : Bool) : State :=
  let cur := s.pmCounters c
  let old := s.stw.pm.get (chIx c)
  let last := if keep then (List.range 93).map fun k => (cur.getD k 0 + 2 ^ 64 - old.base.getD k 0) % 2 ^ 64 else []
  { s with stw := { s.stw with pm := s.stw.pm.set (chIx c) { base := cur, last } } }

/-- Intervals that have ended are closed as the agents next act (log 184): what is counted until then falls into the first of
them. -/
def State.pmRun (s : State) : State :=
  let n := (s.now - s.stw.pmAt) / pmInterval
  if n = 0 then s
  else
    let s := (s.pmTurn 0 true).pmTurn 1 true
    let s := if n = 1 then s else (s.pmTurn 0 true).pmTurn 1 true
    { s with stw := { s.stw with pmAt := s.stw.pmAt + n * pmInterval } }

/-- OMCI Synchronize time: the intervals start here. -/
def State.pmSync (s : State) : State :=
  let s := (s.pmTurn 0 false).pmTurn 1 false
  { s with stw := { s.stw with pmAt := s.now } }

/-! ### What a request reports -/

/-- The device state an answer to a Get reports beside the MIB's attributes (R401). -/
def State.omciValues (s : State) (c : Nat) (r : OmciReq) : List Nat :=
  let n := r.cls.toNat
  let i := r.inst.toNat
  let k := i % 2
  let dev : List Nat :=
    if n = 2 then [(s.mib c).sync]
    else if n = 7 then
      [b2n (decide (s.fld stwB F.STW_STAT.FW_COPY = k)), b2n (decide (s.fld aonB F.AON_BOOT_CTRL.PREFER_B = k)),
        b2n (s.stw.valid.testBit k)]
    else if n = 11 then [s.fld (tqB (i % 64)) F.TQ_PORT_SVC.WANT]
    else if n = 256 ∨ n = 257 then (s.serial c).map (·.toNat) ++ [(s.reg (aonB + 0x34)).toNat, s.boot.configHash]
    else if n = 263 then [s.pf c F.PN_FEC_SD_THR.THR, s.pf c F.PN_FEC_SF_THR.THR]
    else if n = 312 ∨ n = 341 ∨ n = 344 then (s.stw.pm.get (chIx c)).last
    else []
  dev ++ ((SMap.get (fun _ => none) (s.mib c).ents (omciEntity r)).getD []).map (·.toNat)

/-! ### What a request does (R399 to R403, R407) -/

/-- Whether the host owns one of these windows, so that its agent is asked through the mailbox (R407). -/
def State.hostOwns (s : State) (l : List Nat) : Bool := l.any fun id => s.owner id = some .host

/-- A change in the host's windows is sent to the host, and the answer waits (R407). A second one meanwhile is answered device
busy (log 185). -/
def State.omciViaHost (s : State) (c : Nat) (req : List Byte) (r : OmciReq) : State :=
  if s.stw.waitHost.isSome then s.omciAnswer c req 6
  else
    let s := s.mbSend 1 ([c, (omciEntity r)] ++ (bytesWords (r.attrs.take 52)).map (·.toNat))
    let s := s.startTimer Tm.omciHost (50 * msTicks)
    { s with stw := { s.stw with waitHost := some (c, req) } }

/-- The islands whose registers a class maps onto on a channel (R401). -/
def omciWindows (c n : Nat) : List Nat :=
  if n = 45 ∨ n = 47 then [0x20, 0x21, 0x22]
  else if n = 84 ∨ n = 171 then [0x22]
  else if n = 262 then [0x08 + c, 0x0A + c]
  else if n = 263 then [0x08 + c]
  else if n = 266 ∨ n = 281 then [0x22, 0x28]
  else if n = 268 then [0x08 + c, 0x22]
  else if n = 277 ∨ n = 278 ∨ n = 280 then [0x28]
  else []

/-- The register writes an entity's change maps onto, made by the Steward (R392, R401). -/
def State.omciWrites (s : State) (l : List (BitVec 24 × Word)) : State :=
  l.foldl (fun s w => s.busWrite .steward (4 * w.1.toNat) w.2.toNat) s

/-- Put the OLT's time and the STEWARD section's figures into the time-of-day registers and arm the capture (R403). -/
def State.omciTime (s : State) (c sfc sec ns frac : Nat) : State :=
  let s := s.setPf c F.PN_TOD_SFC_LO.SFC_LO (sfc % 2 ^ 32)
  let s := s.wrTodCtrl c (2 ^ 31 + sfc / 2 ^ 32)
  let s := (s.setF timB F.TIM_PTOD_SEC_LO.SEC (sec % 2 ^ 32)).setF timB F.TIM_PTOD_SEC_HI.SEC (sec / 2 ^ 32)
  let s := (s.setF timB F.TIM_PTOD_NS.NS ns).setF timB F.TIM_PTOD_FRAC.FRAC frac
  let s := (s.setF timB F.TIM_PTOD_TEQD.TEQD (Config.stwTeqd s.stw.policy c)).setF timB F.TIM_PTOD_RATIO.DN_SHARE
    (Config.stwShare s.stw.policy c)
  { s with stw := { s.stw with todArm := s.stw.todArm.set (chIx c) (s.bit (pnB c) F.PN_TOD_CTRL.ARM) } }

/-- A Port-ID map entry is bound to a service flow; its Port-ID. -/
def State.bindPid (s : State) (c i sf : Nat) : State × Nat :=
  let e := SMap.get (fun _ => 0) (s.pn c).pids i
  (s.setPid c i (setBits e 27 16 sf), bits e 15 0)

/-- A twin-channel flow is set up in the order of R402, by the writes of the table and of the stripe context. -/
def State.omciTwin (s : State) (a b sf : Nat) (striped : Bool) (home x : Nat) : State :=
  let (s, pa) := s.bindPid 0 a sf
  let (s, pb) := s.bindPid 1 b sf
  let e := setBits (setBits (s.sfCtx sf) 39 24 pa) 55 40 pb
  let e := setBits (setBits e 2 2 home) 1 1 (b2n striped)
  let s := (s.stripeSet 10 sf e).placeAt 10 sf e
  if striped then s.stripeWrite x sf true else s

/-- Whether a stripe context may serve a flow: it is free, or the flow's own (R402). -/
def State.stripeFits (s : State) (x sf : Nat) : Bool := !(s.stripe x).valid || decide ((s.stripe x).sf = sf)

/-- A request has been carried out, and is answered OK. -/
def State.omciOk (s : State) (c : Nat) (req : List Byte) (r : OmciReq) : State :=
  ((s.mibDone c r).omciKeep r.keep).omciReply c req 0 (if r.op = .get then s.omciValues c r else [])

/-- What a request does that passed its checks. A download step for the running copy is refused by the flash controller, and one
past the copy's end is a parameter error (R399, log 181). -/
def State.omciAct (s : State) (c : Nat) (req : List Byte) (r : OmciReq) : State :=
  let running := s.fld stwB F.STW_STAT.FW_COPY
  match r.act with
  | .answer code => if code.toNat = 0 then s.omciOk c req r else s.omciAnswer c req code.toNat
  | .startDownload k =>
    if k.val = running then s.omciAnswer c req 1
    else (s.flashStart (fwBase k.val) (List.replicate (2 ^ 23) 0xFF)).omciAnswer c req 0
  | .section_ k off data =>
    if k.val = running then s.omciAnswer c req 1
    else if 2 ^ 23 < off.toNat + data.length then s.omciAnswer c req 3
    else (s.flashStart (fwBase k.val + off.toNat) data).omciAnswer c req 0
  | .endDownload k =>
    if s.stw.verify.isSome then s.omciAnswer c req 6
    else
      let s := s.wrStwCtrl (0xA5C30000 + k.val * 256 + 5)
      { s with stw := { s.stw with download := some (c, req) } }
  | .activate k => (s.omciAnswer c req 0).wrStwCtrl (0xA5C30000 + k.val * 256 + 1)
  | .commit k =>
    let f := max (s.fld stwB F.STW_FW_FLOOR.FLOOR) (SMap.get (fun _ => 0) s.stw.floors k.val)
    let s := (s.setF aonB F.AON_BOOT_CTRL.PREFER_B k.val).setF stwB F.STW_FW_FLOOR.FLOOR f
    let s := if s.sagging then s else { s with ledger := { s.ledger with preferB := decide (k.val = 1), fwFloor := f } }
    s.omciAnswer c req 0
  | .uniState p unlock rxBusy =>
    if s.hostOwns [0x10 + p.val / 4] then s.omciViaHost c req r
    else (s.wrPortSvc p.val (b2n unlock) rxBusy).omciOk c req r
  | .uniFixed => s.omciAnswer c req 3
  | .timeOfDay sfc sec ns frac =>
    if s.hostOwns [0x04] then
      (s.mbSend 2 [c, sfc.toNat % 2 ^ 32, sfc.toNat / 2 ^ 32, sec.toNat % 2 ^ 32, sec.toNat / 2 ^ 32, ns.toNat, frac.toNat,
        Config.stwTeqd s.stw.policy c, Config.stwShare s.stw.policy c]).omciOk c req r
    else if s.hostOwns [0x08 + c] then s.omciViaHost c req r
    else (s.omciTime c sfc.toNat sec.toNat ns.toNat frac.toNat).omciOk c req r
  | .twinFlow a b sf striped home x =>
    match a, b with
    | some a, some b =>
      if striped && !s.stripeFits x.val sf.toNat then s.omciAnswer c req 3
      else if s.hostOwns [0x08, 0x09, 0x22, 0x24] then s.omciViaHost c req r
      else (s.omciTwin a.toNat b.toNat sf.toNat striped (b2n home) x.val).omciOk c req r
    | _, _ => s.omciAnswer c req 3
  | .device l =>
    let l := l.filter fun w => (omciWindows c r.cls.toNat).contains (islandOf (4 * w.1.toNat))
    if s.hostOwns (l.map fun w => islandOf (4 * w.1.toNat)) then s.omciViaHost c req r
    else (s.omciWrites l).omciOk c req r
  | .optics m => (s.emit (.optics c m)).omciOk c req r
  | .syncTime => s.pmSync.omciOk c req r

/-- OMCI_MESSAGE (R95, R400): the agent of a channel takes the oldest SDU; one whose MIC fails is discarded, a class outside the list
is unknown, and what only the primary channel may ask is answered attributes failed on the other. Reboot answers, then restarts
the device under R68. -/
def execOmciMessage (c : PonCh) (r : OmciReq) (s : State) : Host.Outcome State Fault Refusal :=
  .next (match (s.pn c.val).omciIn with
    | [] => s
    | req :: rest =>
      if s.stwState ≠ 1 then s
      else
        let s := s.pmRun
        let s := (s.setPn c.val { s.pn c.val with omciIn := rest }).count (stwB + Ctr.STW.OMCI_RX)
        if !s.omciMicOk c.val req then s.count (stwB + Ctr.STW.OMCI_MIC)
        else if !omciClasses.contains r.cls.toNat then s.omciAnswer c.val req 4
        else if omciPrimaryOnly r && decide (c.val ≠ s.primary) then s.omciAnswer c.val req 9
        else if r.op = .reboot then (s.omciAnswer c.val req 0).busWrite .steward (aonB + 0x28) (0xA5C30000 + s.bootWord / 2 * 2 + 1)
        else s.omciAct c.val req r)

/-! ### Alarms (R405) -/

/-- An alarm is raised or cleared, and each change sent in a notification (R405). -/
def State.omciAlarm (s : State) (c k : Nat) (v : Bool) : State :=
  if SMap.get (fun _ => false) s.stw.alarms k = v then s
  else
    let s := { s with stw := { s.stw with alarms := SMap.set (fun _ => false) s.stw.alarms k v } }
    s.omciSend c (Config.omciAlarm k v)

/-- OPTICS_POLL (R405): the optics' five diagnostics beyond their thresholds, with SD, SF and the links of unlocked UNIs. -/
def execOpticsPoll (c : PonCh) (optics : BitVec 5) (s : State) : Host.Outcome State Fault Refusal :=
  .next (if s.stwState ≠ 1 then s
    else
      let s := s.pmRun
      if s.bit (pnB c.val) F.PN_OSP_CFG.OMCI_OSP then s
      else
        let s := s.omciAlarm c.val (8 * c.val) (s.bit (pnB c.val) F.PN_RX_STAT.SD)
        let s := s.omciAlarm c.val (8 * c.val + 1) (s.bit (pnB c.val) F.PN_RX_STAT.SF)
        let s := (List.range 5).foldl (fun s i => s.omciAlarm c.val (8 * c.val + 2 + i) (optics.getLsbD i)) s
        (List.range 48).foldl (fun s n => s.omciAlarm c.val (256 + 64 * c.val + n)
          (s.bit (tqB n) F.TQ_PORT_SVC.WANT && !s.bit (tqB n) F.TQ_LANE_STAT.LINK)) s)

end Sys2Proof.Machine
end

