-- ==== Sys2Proof/Machine/Dispatch.lean ====
section
/-! DEFINITION. The dispatch of commands to their meanings, one arm for each constructor. -/

namespace Sys2Proof.Machine

/-- The effect of a command on everything but the queue. -/
def exec (i : Instr) (s : State) : Host.Outcome State Fault Refusal :=
  match i with
  | .registerWrite m place v => Sys2Proof.Machine.execRegisterWrite m place v s
  | .rcRegisterRead m a => Sys2Proof.Machine.execRcRegisterRead m a s
  | .resultStatusRead m a => Sys2Proof.Machine.execResultStatusRead m a s
  | .counterLowWordRead m a => Sys2Proof.Machine.execCounterLowWordRead m a s
  | .crossingEntryArrive isl index parityOk => Sys2Proof.Machine.execCrossingEntryArrive isl index parityOk s
  | .pipelineSlotGrant k ecc => Sys2Proof.Machine.execPipelineSlotGrant k ecc s
  | .hostStarveExpiry d => Sys2Proof.Machine.execHostStarveExpiry d s
  | .railOutOfRange r => Sys2Proof.Machine.execRailOutOfRange r s
  | .porRelease benA benB vrAddr testEn => Sys2Proof.Machine.execPorRelease benA benB vrAddr testEn s
  | .aonUpDone parityOk hm vout => Sys2Proof.Machine.execAonUpDone parityOk hm vout s
  | .xtalQualified => Sys2Proof.Machine.execXtalQualified s
  | .xtalTimeout => Sys2Proof.Machine.execXtalTimeout s
  | .pllStageDone => Sys2Proof.Machine.execPllStageDone s
  | .pllRelockDone pll => Sys2Proof.Machine.execPllRelockDone pll s
  | .assayDone rom kat mint sram => Sys2Proof.Machine.execAssayDone rom kat mint sram s
  | .pbReadDone image => Sys2Proof.Machine.execPbReadDone image s
  | .pbVerifyDone => Sys2Proof.Machine.execPbVerifyDone s
  | .dramTrainDone => Sys2Proof.Machine.execDramTrainDone s
  | .pbRecordApply => Sys2Proof.Machine.execPbRecordApply s
  | .pollRecordTimeout => Sys2Proof.Machine.execPollRecordTimeout s
  | .applyDone => Sys2Proof.Machine.execApplyDone s
  | .stewardStageDone => Sys2Proof.Machine.execStewardStageDone s
  | .releaseDone => Sys2Proof.Machine.execReleaseDone s
  | .stageLimitExpiry x => Sys2Proof.Machine.execStageLimitExpiry x s
  | .reboot m key => Sys2Proof.Machine.execReboot m key s
  | .preferBWrite m key v => Sys2Proof.Machine.execPreferBWrite m key v s
  | .flashRelease m key v => Sys2Proof.Machine.execFlashRelease m key v s
  | .pcieReset hot => Sys2Proof.Machine.execPcieReset hot s
  | .rxlosChange c level => Sys2Proof.Machine.execRxlosChange c level s
  | .pnCdrLockChange c lock => Sys2Proof.Machine.execPnCdrLockChange c lock s
  | .pnRxEnableWrite m c v => Sys2Proof.Machine.execPnRxEnableWrite m c v s
  | .psyncPattern c x => Sys2Proof.Machine.execPsyncPattern c x s
  | .phyFrameDecode c x => Sys2Proof.Machine.execPhyFrameDecode c x s
  | .berWindowEnd c => Sys2Proof.Machine.execBerWindowEnd c s
  | .xgemFrameRx c x => Sys2Proof.Machine.execXgemFrameRx c x s
  | .reasmTimeout c pid => Sys2Proof.Machine.execReasmTimeout c pid s
  | .pnPidRead m c ix => Sys2Proof.Machine.execPnPidRead m c ix s
  | .pnPidWrite m c ix => Sys2Proof.Machine.execPnPidWrite m c ix s
  | .pnPidInvalidate m c ix => Sys2Proof.Machine.execPnPidInvalidate m c ix s
  | .pnPidCmdDone c => Sys2Proof.Machine.execPnPidCmdDone c s
  | .ospNop c => Sys2Proof.Machine.execOspNop c s
  | .ospReadMsg c n => Sys2Proof.Machine.execOspReadMsg c n s
  | .ospWriteMsg c whole typ data => Sys2Proof.Machine.execOspWriteMsg c whole typ data s
  | .ospReadEvt c n => Sys2Proof.Machine.execOspReadEvt c n s
  | .ospOtherCommand c cmd => Sys2Proof.Machine.execOspOtherCommand c cmd s
  | .pnTodArm m c sfcHi => Sys2Proof.Machine.execPnTodArm m c sfcHi s
  | .ploamBurstProfile c h ix rate fec preamble delim => Sys2Proof.Machine.execPloamBurstProfile c h ix rate fec preamble delim s
  | .ploamAssignOnuId c h sn onuId => Sys2Proof.Machine.execPloamAssignOnuId c h sn onuId s
  | .ploamRangingTime c h relative eqd => Sys2Proof.Machine.execPloamRangingTime c h relative eqd s
  | .ploamDeactivateOnuId c h => Sys2Proof.Machine.execPloamDeactivateOnuId c h s
  | .ploamDisableSerialNumber c h enable all sn => Sys2Proof.Machine.execPloamDisableSerialNumber c h enable all sn s
  | .ploamRequestRegistration c h => Sys2Proof.Machine.execPloamRequestRegistration c h s
  | .ploamAssignAllocId c h allocId assign => Sys2Proof.Machine.execPloamAssignAllocId c h allocId assign s
  | .ploamKeyControl c h index => Sys2Proof.Machine.execPloamKeyControl c h index s
  | .ploamSleepAllow c h on => Sys2Proof.Machine.execPloamSleepAllow c h on s
  | .ploamChangePowerLevel c h => Sys2Proof.Machine.execPloamChangePowerLevel c h s
  | .ploamPowerConsumptionInq c h => Sys2Proof.Machine.execPloamPowerConsumptionInq c h s
  | .ploamUnsupported c h multi => Sys2Proof.Machine.execPloamUnsupported c h multi s
  | .to1Expiry c => Sys2Proof.Machine.execTo1Expiry c s
  | .to2Expiry c => Sys2Proof.Machine.execTo2Expiry c s
  | .pnActRestart m c => Sys2Proof.Machine.execPnActRestart m c s
  | .pnTxOffWrite m c v => Sys2Proof.Machine.execPnTxOffWrite m c v s
  | .bwmapEntry c e => Sys2Proof.Machine.execBwmapEntry c e s
  | .burstLaunch c => Sys2Proof.Machine.execBurstLaunch c s
  | .burstEnd c => Sys2Proof.Machine.execBurstEnd c s
  | .rogueDetect c ns => Sys2Proof.Machine.execRogueDetect c ns s
  | .benMissCheck c active => Sys2Proof.Machine.execBenMissCheck c active s
  | .rogueClr m c quiet => Sys2Proof.Machine.execRogueClr m c quiet s
  | .psTholdExpiry c => Sys2Proof.Machine.execPsTholdExpiry c s
  | .psTawareExpiry c => Sys2Proof.Machine.execPsTawareExpiry c s
  | .psIlowpowerExpiry c => Sys2Proof.Machine.execPsIlowpowerExpiry c s
  | .pnAllocRead m c ix => Sys2Proof.Machine.execPnAllocRead m c ix s
  | .pnAllocInvalidate m c ix => Sys2Proof.Machine.execPnAllocInvalidate m c ix s
  | .pnAllocWriteDiscard m c ix => Sys2Proof.Machine.execPnAllocWriteDiscard m c ix s
  | .pnAllocCmdDone c => Sys2Proof.Machine.execPnAllocCmdDone c s
  | .pnSvcWantClear m c force => Sys2Proof.Machine.execPnSvcWantClear m c force s
  | .pnSvcWantSet m c force => Sys2Proof.Machine.execPnSvcWantSet m c force s
  | .pnSvcDrainDone c => Sys2Proof.Machine.execPnSvcDrainDone c s
  | .pnSvcDrainTimeout c => Sys2Proof.Machine.execPnSvcDrainTimeout c s
  | .stripeSkipMarkerArrive => Sys2Proof.Machine.execStripeSkipMarkerArrive s
  | .stripeTimeout x => Sys2Proof.Machine.execStripeTimeout x s
  | .tlrStripeRead m x => Sys2Proof.Machine.execTlrStripeRead m x s
  | .tlrStripeWrite m x => Sys2Proof.Machine.execTlrStripeWrite m x s
  | .tlrStripeInvalidate m x => Sys2Proof.Machine.execTlrStripeInvalidate m x s
  | .tlrStripeFlush m x => Sys2Proof.Machine.execTlrStripeFlush m x s
  | .tlrStripeCmdDone => Sys2Proof.Machine.execTlrStripeCmdDone s
  | .tqPllLockChange q pll lock => Sys2Proof.Machine.execTqPllLockChange q pll lock s
  | .tqCdrLockChange n lock => Sys2Proof.Machine.execTqCdrLockChange n lock s
  | .tqPcsSyncChange n sync => Sys2Proof.Machine.execTqPcsSyncChange n sync s
  | .hiBerWindow n bad => Sys2Proof.Machine.execHiBerWindow n bad s
  | .tqAnComplete n speed half => Sys2Proof.Machine.execTqAnComplete n speed half s
  | .laneCalDone n fail => Sys2Proof.Machine.execLaneCalDone n fail s
  | .rxFrame n x => Sys2Proof.Machine.execRxFrame n x s
  | .txFrame n st late deferred => Sys2Proof.Machine.execTxFrame n st late deferred s
  | .hdCollision n late deferred => Sys2Proof.Machine.execHdCollision n late deferred s
  | .hdBackoffExpiry n => Sys2Proof.Machine.execHdBackoffExpiry n s
  | .pauseFrameRx n pfc mask quanta => Sys2Proof.Machine.execPauseFrameRx n pfc mask quanta s
  | .pauseTimerExpiry n p => Sys2Proof.Machine.execPauseTimerExpiry n p s
  | .pfcXoffChange n => Sys2Proof.Machine.execPfcXoffChange n s
  | .pfcRefreshExpiry n => Sys2Proof.Machine.execPfcRefreshExpiry n s
  | .wdogLimitExpiry n p => Sys2Proof.Machine.execWdogLimitExpiry n p s
  | .wdogHoldoffExpiry n p => Sys2Proof.Machine.execWdogHoldoffExpiry n p s
  | .prbsLockChange lane bits times rest => Sys2Proof.Machine.execPrbsLockChange lane bits times rest s
  | .prbsInjOne m lane => Sys2Proof.Machine.execPrbsInjOne m lane s
  | .prbsClr m lane => Sys2Proof.Machine.execPrbsClr m lane s
  | .tqPortWantClear m n rxBusy => Sys2Proof.Machine.execTqPortWantClear m n rxBusy s
  | .tqPortWantSet m n => Sys2Proof.Machine.execTqPortWantSet m n s
  | .l2LearnInsert => Sys2Proof.Machine.execL2LearnInsert s
  | .ageSweepVisit flow ix ecc bank => Sys2Proof.Machine.execAgeSweepVisit flow ix ecc bank s
  | .tblEpochSwap m => Sys2Proof.Machine.execTblEpochSwap m s
  | .tblEpochDrainDone => Sys2Proof.Machine.execTblEpochDrainDone s
  | .tblSwapStuckExpiry => Sys2Proof.Machine.execTblSwapStuckExpiry s
  | .tblRead m t ix => Sys2Proof.Machine.execTblRead m t ix s
  | .tblWrite m t ix => Sys2Proof.Machine.execTblWrite m t ix s
  | .tblInvalidate m t ix => Sys2Proof.Machine.execTblInvalidate m t ix s
  | .tblInsert m t => Sys2Proof.Machine.execTblInsert m t s
  | .tblDelete m t => Sys2Proof.Machine.execTblDelete m t s
  | .tblSearch m t => Sys2Proof.Machine.execTblSearch m t s
  | .tblCmdDone => Sys2Proof.Machine.execTblCmdDone s
  | .tblBankTakeOut m b => Sys2Proof.Machine.execTblBankTakeOut m b s
  | .tblBankReturn m b => Sys2Proof.Machine.execTblBankReturn m b s
  | .tblBankCopyDone b => Sys2Proof.Machine.execTblBankCopyDone b s
  | .kpPgRead m k bank n => Sys2Proof.Machine.execKpPgRead m k bank n s
  | .kpPgWrite m k bank n => Sys2Proof.Machine.execKpPgWrite m k bank n s
  | .kpPgCmdDone k => Sys2Proof.Machine.execKpPgCmdDone k s
  | .endOfPass k => Sys2Proof.Machine.execEndOfPass k s
  | .tellerDispatch => Sys2Proof.Machine.execTellerDispatch s
  | .insScanDone e => Sys2Proof.Machine.execInsScanDone e s
  | .tlrTake m => Sys2Proof.Machine.execTlrTake m s
  | .tlrDeliver => Sys2Proof.Machine.execTlrDeliver s
  | .tlrDone m verdict id => Sys2Proof.Machine.execTlrDone m verdict id s
  | .tlrSwTimeout => Sys2Proof.Machine.execTlrSwTimeout s
  | .tlrCancelId m id => Sys2Proof.Machine.execTlrCancelId m id s
  | .tlrCancelDomain m d => Sys2Proof.Machine.execTlrCancelDomain m d s
  | .tlrWaitTimeout => Sys2Proof.Machine.execTlrWaitTimeout s
  | .insEngineFault e => Sys2Proof.Machine.execInsEngineFault e s
  | .insEngWantClear m e => Sys2Proof.Machine.execInsEngWantClear m e s
  | .insEngWantSet m e => Sys2Proof.Machine.execInsEngWantSet m e s
  | .tblActRead m tpl ix => Sys2Proof.Machine.execTblActRead m tpl ix s
  | .tblActWrite m tpl ix => Sys2Proof.Machine.execTblActWrite m tpl ix s
  | .tblActInvalidate m tpl ix => Sys2Proof.Machine.execTblActInvalidate m tpl ix s
  | .tblActCmdDone => Sys2Proof.Machine.execTblActCmdDone s
  | .insPatRead m bank ix => Sys2Proof.Machine.execInsPatRead m bank ix s
  | .insPatWrite m bank ix => Sys2Proof.Machine.execInsPatWrite m bank ix s
  | .insPatInvalidate m bank ix => Sys2Proof.Machine.execInsPatInvalidate m bank ix s
  | .insPatCmdDone => Sys2Proof.Machine.execInsPatCmdDone s
  | .tmgEnqueue => Sys2Proof.Machine.execTmgEnqueue s
  | .tmgDeepReadback q lost => Sys2Proof.Machine.execTmgDeepReadback q lost s
  | .tmgDequeue node => Sys2Proof.Machine.execTmgDequeue node s
  | .purseStep => Sys2Proof.Machine.execPurseStep s
  | .gateEntryStart n => Sys2Proof.Machine.execGateEntryStart n s
  | .gclCommit m n enable guard_ len => Sys2Proof.Machine.execGclCommit m n enable guard_ len s
  | .gclHandover n => Sys2Proof.Machine.execGclHandover n s
  | .bcMapCommit m c => Sys2Proof.Machine.execBcMapCommit m c s
  | .bcMapHandover c => Sys2Proof.Machine.execBcMapHandover c s
  | .tillStage c => Sys2Proof.Machine.execTillStage c s
  | .allocCutoff c => Sys2Proof.Machine.execAllocCutoff c s
  | .bcPanicChange c => Sys2Proof.Machine.execBcPanicChange c s
  | .tmgQRead m sp ix => Sys2Proof.Machine.execTmgQRead m sp ix s
  | .tmgQWrite m sp ix => Sys2Proof.Machine.execTmgQWrite m sp ix s
  | .tmgPurseRead m policer ix => Sys2Proof.Machine.execTmgPurseRead m policer ix s
  | .tmgPurseWrite m policer ix => Sys2Proof.Machine.execTmgPurseWrite m policer ix s
  | .tmgGclReadAdmin m n ix => Sys2Proof.Machine.execTmgGclReadAdmin m n ix s
  | .tmgGclWriteAdmin m n ix => Sys2Proof.Machine.execTmgGclWriteAdmin m n ix s
  | .tmgGclReadOper m n ix => Sys2Proof.Machine.execTmgGclReadOper m n ix s
  | .tmgCmdDone which => Sys2Proof.Machine.execTmgCmdDone which s
  | .bcMapReadStandby m c ix => Sys2Proof.Machine.execBcMapReadStandby m c ix s
  | .bcMapWriteStandby m c ix => Sys2Proof.Machine.execBcMapWriteStandby m c ix s
  | .bcMapReadActive m c ix => Sys2Proof.Machine.execBcMapReadActive m c ix s
  | .bcMapCmdDone c => Sys2Proof.Machine.execBcMapCmdDone c s
  | .timSetTime m => Sys2Proof.Machine.execTimSetTime m s
  | .timAddOffset m => Sys2Proof.Machine.execTimAddOffset m s
  | .timSetRate m => Sys2Proof.Machine.execTimSetRate m s
  | .timAdjApply => Sys2Proof.Machine.execTimAdjApply s
  | .timSnapshot m => Sys2Proof.Machine.execTimSnapshot m s
  | .replicaSerialWord isl crcOk agree => Sys2Proof.Machine.execReplicaSerialWord isl crcOk agree s
  | .servoSample => Sys2Proof.Machine.execServoSample s
  | .servoSwSample m thetaHi => Sys2Proof.Machine.execServoSwSample m thetaHi s
  | .servoSrcWrite m v => Sys2Proof.Machine.execServoSrcWrite m v s
  | .servoSrcTimeout => Sys2Proof.Machine.execServoSrcTimeout s
  | .holdLimitExpiry => Sys2Proof.Machine.execHoldLimitExpiry s
  | .tsPop m p => Sys2Proof.Machine.execTsPop m p s
  | .tsFlush m p => Sys2Proof.Machine.execTsFlush m p s
  | .timPtodGo m ch => Sys2Proof.Machine.execTimPtodGo m ch s
  | .timPtodComplete => Sys2Proof.Machine.execTimPtodComplete s
  | .synceInputFault why => Sys2Proof.Machine.execSynceInputFault why s
  | .synceSelWrite m v inputGood => Sys2Proof.Machine.execSynceSelWrite m v inputGood s
  | .synceRecoveryExpiry => Sys2Proof.Machine.execSynceRecoveryExpiry s
  | .synceLocked fofs => Sys2Proof.Machine.execSynceLocked fofs s
  | .ppsInEdge st => Sys2Proof.Machine.execPpsInEdge st s
  | .ppsInLossTimeout => Sys2Proof.Machine.execPpsInLossTimeout s
  | .ppsOutEdge => Sys2Proof.Machine.execPpsOutEdge s
  | .todRxByte b => Sys2Proof.Machine.execTodRxByte b s
  | .todTxWrite m b => Sys2Proof.Machine.execTodTxWrite m b s
  | .todTxStart => Sys2Proof.Machine.execTodTxStart s
  | .todRxPop m => Sys2Proof.Machine.execTodRxPop m s
  | .aonOwnCmdWrite m key target => Sys2Proof.Machine.execAonOwnCmdWrite m key target s
  | .fuseProgramDone => Sys2Proof.Machine.execFuseProgramDone s
  | .jobGcmEnc m p ivMode slot src => Sys2Proof.Machine.execJobGcmEnc m p ivMode slot src s
  | .jobGcmDec m p ivMode slot src => Sys2Proof.Machine.execJobGcmDec m p ivMode slot src s
  | .jobCtr m p ivMode slot src => Sys2Proof.Machine.execJobCtr m p ivMode slot src s
  | .jobCmac m p ivMode slot src => Sys2Proof.Machine.execJobCmac m p ivMode slot src s
  | .jobSha384 m p ivMode slot src => Sys2Proof.Machine.execJobSha384 m p ivMode slot src s
  | .jobHmacSha384 m p ivMode slot src => Sys2Proof.Machine.execJobHmacSha384 m p ivMode slot src s
  | .jobEcdsaVerify m p ivMode slot src => Sys2Proof.Machine.execJobEcdsaVerify m p ivMode slot src s
  | .jobRandom m p ivMode slot => Sys2Proof.Machine.execJobRandom m p ivMode slot s
  | .jobKeyGen m p ivMode slot => Sys2Proof.Machine.execJobKeyGen m p ivMode slot s
  | .jobKdf m p ivMode slot src => Sys2Proof.Machine.execJobKdf m p ivMode slot src s
  | .jobUnwrap m p ivMode slot src => Sys2Proof.Machine.execJobUnwrap m p ivMode slot src s
  | .jobAttest m p ivMode slot src => Sys2Proof.Machine.execJobAttest m p ivMode slot src s
  | .jobCert m p ivMode slot => Sys2Proof.Machine.execJobCert m p ivMode slot s
  | .jobOwnerCmd m p ivMode slot src => Sys2Proof.Machine.execJobOwnerCmd m p ivMode slot src s
  | .jobDebugChal m p ivMode slot => Sys2Proof.Machine.execJobDebugChal m p ivMode slot s
  | .jobDebugResp m p ivMode slot src => Sys2Proof.Machine.execJobDebugResp m p ivMode slot src s
  | .jobRmaChal m p ivMode slot => Sys2Proof.Machine.execJobRmaChal m p ivMode slot s
  | .jobRmaResp m p ivMode slot src => Sys2Proof.Machine.execJobRmaResp m p ivMode slot src s
  | .jobBadOp m p op ivMode slot => Sys2Proof.Machine.execJobBadOp m p op ivMode slot s
  | .vltJobComplete p busErr => Sys2Proof.Machine.execVltJobComplete p busErr s
  | .keyWrite m p slot => Sys2Proof.Machine.execKeyWrite m p slot s
  | .keyErase m p slot => Sys2Proof.Machine.execKeyErase m p slot s
  | .keyReadAttr m p slot => Sys2Proof.Machine.execKeyReadAttr m p slot s
  | .keyCmdComplete p => Sys2Proof.Machine.execKeyCmdComplete p s
  | .mintHealthFail adaptive => Sys2Proof.Machine.execMintHealthFail adaptive s
  | .mintRestart m => Sys2Proof.Machine.execMintRestart m s
  | .mintRestartDone pass => Sys2Proof.Machine.execMintRestartDone pass s
  | .mintReseedExpiry => Sys2Proof.Machine.execMintReseedExpiry s
  | .nonceExpiry rma => Sys2Proof.Machine.execNonceExpiry rma s
  | .debugClose m => Sys2Proof.Machine.execDebugClose m s
  | .cryptCompareMismatch engine lane => Sys2Proof.Machine.execCryptCompareMismatch engine lane s
  | .slotEccError slot => Sys2Proof.Machine.execSlotEccError slot s
  | .tqSecRead m n sp ix => Sys2Proof.Machine.execTqSecRead m n sp ix s
  | .tqSecWrite m n sp ix => Sys2Proof.Machine.execTqSecWrite m n sp ix s
  | .tqSecInvalidate m n sp ix => Sys2Proof.Machine.execTqSecInvalidate m n sp ix s
  | .tqSecCmdDone n => Sys2Proof.Machine.execTqSecCmdDone n s
  | .fwVerifyDone image => Sys2Proof.Machine.execFwVerifyDone image s
  | .stwReadyWrite m => Sys2Proof.Machine.execStwReadyWrite m s
  | .stwReadyTimeout => Sys2Proof.Machine.execStwReadyTimeout s
  | .stwWdogKick m => Sys2Proof.Machine.execStwWdogKick m s
  | .stwWdogExpiry => Sys2Proof.Machine.execStwWdogExpiry s
  | .stwRestartCmd m key => Sys2Proof.Machine.execStwRestartCmd m key s
  | .stwSwitchCmd m key target verifyOnly => Sys2Proof.Machine.execStwSwitchCmd m key target verifyOnly s
  | .stwGraceExpiry => Sys2Proof.Machine.execStwGraceExpiry s
  | .omciMessage c r => Sys2Proof.Machine.execOmciMessage c r s
  | .omciHostAckTimeout => Sys2Proof.Machine.execOmciHostAckTimeout s
  | .opticsPoll c optics => Sys2Proof.Machine.execOpticsPoll c optics s
  | .mailboxH2sGo => Sys2Proof.Machine.execMailboxH2sGo s
  | .mailboxS2hGo => Sys2Proof.Machine.execMailboxS2hGo s
  | .mailboxH2sAck => Sys2Proof.Machine.execMailboxH2sAck s
  | .mailboxS2hAck => Sys2Proof.Machine.execMailboxS2hAck s
  | .stwPktCopy offset len => Sys2Proof.Machine.execStwPktCopy offset len s
  | .hstPktCopy offset len => Sys2Proof.Machine.execHstPktCopy offset len s
  | .pktCopyDone host => Sys2Proof.Machine.execPktCopyDone host s
  | .mcTrainDone c pass step margins => Sys2Proof.Machine.execMcTrainDone c pass step margins s
  | .dramCommandIssue c arrivals => Sys2Proof.Machine.execDramCommandIssue c arrivals s
  | .dramReadReturn c ecc syndrome page => Sys2Proof.Machine.execDramReadReturn c ecc syndrome page s
  | .refreshInterval c => Sys2Proof.Machine.execRefreshInterval c s
  | .refreshWindowClear c => Sys2Proof.Machine.execRefreshWindowClear c s
  | .mr4Poll c rate => Sys2Proof.Machine.execMr4Poll c rate s
  | .mcPanicClear c => Sys2Proof.Machine.execMcPanicClear c s
  | .scrubVisit c bank row col opens => Sys2Proof.Machine.execScrubVisit c bank row col opens s
  | .mcSvcWantClear m c => Sys2Proof.Machine.execMcSvcWantClear m c s
  | .mcSvcWantSet m c => Sys2Proof.Machine.execMcSvcWantSet m c s
  | .mcSvcDrainDone c => Sys2Proof.Machine.execMcSvcDrainDone c s
  | .mcSvcDrainTimeout c => Sys2Proof.Machine.execMcSvcDrainTimeout c s
  | .mcUnitInitDone c => Sys2Proof.Machine.execMcUnitInitDone c s
  | .mcEccClr m c => Sys2Proof.Machine.execMcEccClr m c s
  | .mccTraceEnSet m => Sys2Proof.Machine.execMccTraceEnSet m s
  | .mccTraceRead m ix => Sys2Proof.Machine.execMccTraceRead m ix s
  | .ledgerRecordRead m ix => Sys2Proof.Machine.execLedgerRecordRead m ix s
  | .recordReadDone ledger => Sys2Proof.Machine.execRecordReadDone ledger s
  | .bar0BadRequest a write byteEnables => Sys2Proof.Machine.execBar0BadRequest a write byteEnables s
  | .hstReadTimeout a => Sys2Proof.Machine.execHstReadTimeout a s
  | .hostPathDown why => Sys2Proof.Machine.execHostPathDown why s
  | .pcieLinkChange now gen width => Sys2Proof.Machine.execPcieLinkChange now gen width s
  | .dcDoorbell m d pi => Sys2Proof.Machine.execDcDoorbell m d pi s
  | .descriptorFetch d desc data => Sys2Proof.Machine.execDescriptorFetch d desc data s
  | .staleRereadExpiry d desc data => Sys2Proof.Machine.execStaleRereadExpiry d desc data s
  | .descriptorComplete d => Sys2Proof.Machine.execDescriptorComplete d s
  | .dmaBusError d phase cause moved => Sys2Proof.Machine.execDmaBusError d phase cause moved s
  | .dcStart m d => Sys2Proof.Machine.execDcStart m d s
  | .dcAbort m d moved => Sys2Proof.Machine.execDcAbort m d moved s
  | .dcCommit m d => Sys2Proof.Machine.execDcCommit m d s
  | .evtAccept => Sys2Proof.Machine.execEvtAccept s
  | .evtRingCiWrite m r ci => Sys2Proof.Machine.execEvtRingCiWrite m r ci s
  | .msixCoalesceExpiry v => Sys2Proof.Machine.execMsixCoalesceExpiry v s
  | .msixMaskClear v => Sys2Proof.Machine.execMsixMaskClear v s
  | .pwrGo m key target => Sys2Proof.Machine.execPwrGo m key target s
  | .islandPowerReply isl reply => Sys2Proof.Machine.execIslandPowerReply isl reply s
  | .pwrDelayMaxExpiry => Sys2Proof.Machine.execPwrDelayMaxExpiry s
  | .islandCommitStep => Sys2Proof.Machine.execIslandCommitStep s
  | .wakeEvent src high inWindow => Sys2Proof.Machine.execWakeEvent src high inWindow s
  | .wakeTimerExpiry => Sys2Proof.Machine.execWakeTimerExpiry s
  | .islandExitStep => Sys2Proof.Machine.execIslandExitStep s
  | .regulatorReadyTimeout isl => Sys2Proof.Machine.execRegulatorReadyTimeout isl s
  | .oscillatorReadyTimeout isl => Sys2Proof.Machine.execOscillatorReadyTimeout isl s
  | .clkSwitch m => Sys2Proof.Machine.execClkSwitch m s
  | .crystalLost ms => Sys2Proof.Machine.execCrystalLost ms s
  | .dvfsVoltWrite m volt acks => Sys2Proof.Machine.execDvfsVoltWrite m volt acks s
  | .dvfsFreqWrite m freq => Sys2Proof.Machine.execDvfsFreqWrite m freq s
  | .dvfsSettleExpiry => Sys2Proof.Machine.execDvfsSettleExpiry s
  | .dvfsFreqDone => Sys2Proof.Machine.execDvfsFreqDone s
  | .sagOnset pin mon mv late => Sys2Proof.Machine.execSagOnset pin mon mv late s
  | .sagClear mv => Sys2Proof.Machine.execSagClear mv s
  | .islandFaultDetect isl cause bad => Sys2Proof.Machine.execIslandFaultDetect isl cause bad s
  | .islandDrainDone isl => Sys2Proof.Machine.execIslandDrainDone isl s
  | .islTakeOut m isl => Sys2Proof.Machine.execIslTakeOut m isl s
  | .islReturn m isl => Sys2Proof.Machine.execIslReturn m isl s
  | .islReset m isl => Sys2Proof.Machine.execIslReset m isl s
  | .islReturnTestDone pass => Sys2Proof.Machine.execIslReturnTestDone pass s
  | .tallyRead m sp ix => Sys2Proof.Machine.execTallyRead m sp ix s
  | .tallyReadClear m sp ix => Sys2Proof.Machine.execTallyReadClear m sp ix s
  | .tallyClear m sp ix => Sys2Proof.Machine.execTallyClear m sp ix s
  | .tallyCmdDone => Sys2Proof.Machine.execTallyCmdDone s
  | .pmcCtrWrite m c hi v => Sys2Proof.Machine.execPmcCtrWrite m c hi v s
  | .pmcSnap m => Sys2Proof.Machine.execPmcSnap m s
  | .samplerTrigger k skid => Sys2Proof.Machine.execSamplerTrigger k skid s
  | .chkScanGo m u poly space ns => Sys2Proof.Machine.execChkScanGo m u poly space ns s
  | .chkScanDone u data busOk => Sys2Proof.Machine.execChkScanDone u data busOk s
  | .chkScrubStart => Sys2Proof.Machine.execChkScrubStart s
  | .chkScrubDone u pass => Sys2Proof.Machine.execChkScrubDone u pass s
  | .evtSoftHostGo m sev source => Sys2Proof.Machine.execEvtSoftHostGo m sev source s
  | .evtSoftStewardGo m sev source => Sys2Proof.Machine.execEvtSoftStewardGo m sev source s
  | .tempSensorRead hot => Sys2Proof.Machine.execTempSensorRead hot s
  | .tqFecLockChange n lock => Sys2Proof.Machine.execTqFecLockChange n lock s
  | .rhThrottleHoldExpiry c bank id => Sys2Proof.Machine.execRhThrottleHoldExpiry c bank id s
  | .p3ExitPllLock => Sys2Proof.Machine.execP3ExitPllLock s
  | .hostPathUp => Sys2Proof.Machine.execHostPathUp s
  | .lifecycleAdvance ready => Sys2Proof.Machine.execLifecycleAdvance ready s
  | .railEntersRange r => Sys2Proof.Machine.execRailEntersRange r s

end Sys2Proof.Machine
end

