-- ==== Sys2Proof/Machine/Idle.lean ====
section
/-! DEFINITION. What the device does when no command waits. -/

namespace Sys2Proof.Machine

/-- One tick of 0.8 ns passes (R317), and the power-saving machines look at the Till (R135). -/
def State.idle (s : State) : State := ((s.elapse 1).psCheck 0).psCheck 1

end Sys2Proof.Machine
end

