-- ==== Sys2Proof/Safety.lean ====
section
/-! DEFINITION. The words in which statements about the device are put: that a command completes, that a write reaches its
register, what is left as it was, and the form every state keeps. -/

namespace Sys2Proof.Machine

/-! ### Completion -/

/-- The command completes, in a state with a property. -/
def Does (i : Instr) (s : State) (P : State → Prop) : Prop := ∃ t, exec i s = .next t ∧ P t

/-- A write by a master passes the checks of R531 and reaches the register at an offset: R54 does not discard it, the window
is that of an implemented island (R14) which is live (R16), and neither ownership (R407) nor the owner of a DMA page (R475)
discards it. -/
def State.reaches (s : State) (m : Master) (a : Nat) : Bool :=
  !s.r54Discards m a && (islandInst (islandOf a)).isSome && s.live (islandOf a) && !s.ownDiscards m a && !s.dmaDiscards m a

/-- The state in which a running timer runs out: time has passed up to its end, and it is stopped. -/
def State.atEnd (s : State) (id : Nat) : State := (s.elapseTo (SMap.get (fun _ => 0) s.timers id - 1)).stopTimer id

/-! ### Frames -/

/-- The registers of the performance counters and their overflow bits (R514, R516). -/
def pmcRegs : List Nat := (List.range 192).map (fun k => pmcB + 0x400 + 4 * k) ++ [pmcB + 0xC00, pmcB + 0xC04, pmcB + 0xC08]


/-- The registers a packet's drop may change: what counts it, the packets in flight, and the cells it frees (R227, R251,
R281, R514). -/
def dropRegs : List Nat := pmcRegs ++ [tblB, tmgB + 0x2C, tmgB + 0x30]

/-- Every register but those at the listed offsets reads as before. -/
def RegsBut (l : List Nat) (s t : State) : Prop := ∀ a, a ∉ l → t.reg a = s.reg a

/-- Every 64-bit counter but those at the listed offsets is as before. -/
def CtrsBut (l : List Nat) (s t : State) : Prop := ∀ a, a ∉ l → t.ctr a = s.ctr a

/-- Every timer but those listed stands still or runs out when it did. -/
def TimersBut (l : List Nat) (s t : State) : Prop :=
  ∀ i, i ∉ l → SMap.get (fun _ => 0) t.timers i = SMap.get (fun _ => 0) s.timers i

/-- BEN of a channel is as it was, or one held over a gap falls at the present instant (R131). -/
abbrev BenRests (c : Nat) (s t : State) : Prop :=
  (t.out = s.out ∧ (t.pn c).benTill = (s.pn c).benTill) ∨
  (t.out = s.out ++ [.ben c (s.bit (pnB c) F.PN_BEN_CFG.POL) s.units] ∧ (t.pn c).benTill = some s.units ∧
    (s.pn c).benFrom.isSome = true ∧ (s.pn c).benTill = none)

/-- Whether an output is a level of a BEN pin. -/
def Output.isBen : Output → Bool
  | .ben _ _ _ => true
  | _ => false

/-- What the device has put out since is BEN alone (R131). -/
abbrev OnlyBens (s t : State) : Prop := s.out <+: t.out ∧ (t.out.drop s.out.length).all Output.isBen = true

/-- The same, with nothing else of the PON channels changed. -/
abbrev BenOnly (c : Nat) (s t : State) : Prop :=
  BenRests c s t ∧ t.pon = s.pon.set (chIx c) { s.pn c with benTill := (t.pn c).benTill }

/-! ### What every state keeps -/

/-- The form of the registers, the counters, the Tally, the timers and the boot buffer: the four maps are canonical, a
counter and a Tally counter have at most 64 bits (R105, R512), and the boot buffer holds at most 32 events (R73). -/
structure Kept (regs : SMap Word) (ctrs tally timers : SMap Nat) (boot : List RaisedEvt) : Prop where
  regs_wf : SMap.wf resetWord regs = true
  ctrs_wf : SMap.wf (fun _ => 0) ctrs = true
  tally_wf : SMap.wf (fun _ => 0) tally = true
  timers_wf : SMap.wf (fun _ => 0) timers = true
  ctr_lt : ∀ a, SMap.get (fun _ => 0) ctrs a < 2 ^ 64
  tally_lt : ∀ k, SMap.get (fun _ => 0) tally k < 2 ^ 64
  boot_le : boot.length ≤ 32

/-- A state in that form. -/
def State.Inv (s : State) : Prop := Kept s.regs s.ctrs s.tally s.timers s.evt.bootBuf

/-- What may become of the queue, the clock, the free values, the registers, counters, Tally, timers and boot buffer, and
the outputs of a state, by one command: the queue is as it was, time and the free values go on, what has been sent stays
sent, and the rest is in the form every state keeps. -/
structure AfterOf (s0 : State) (queue : List Instr) (now free : Nat) (regs : SMap Word) (ctrs tally timers : SMap Nat)
    (boot : List RaisedEvt) (out : List Output) : Prop where
  kept : Kept regs ctrs tally timers boot
  queue_eq : queue = s0.pending
  now_le : s0.now ≤ now
  free_le : s0.freeNext ≤ free
  sent : s0.out <+: out

/-- A state that a command may leave. -/
def After (s0 s : State) : Prop :=
  AfterOf s0 s.pending s.now s.freeNext s.regs s.ctrs s.tally s.timers s.evt.bootBuf s.out

end Sys2Proof.Machine
end

