-- ==== Sys2Proof/WellFormed.lean ====
section
/-! DEFINITION. Which commands can be said at all: the ranges of what the outside world reports, where their types are wider.
The machine answers every command; these are the ones the device can meet. -/

namespace Sys2Proof

/-- An implemented island (R11). -/
def islandKnown (i : Nat) : Bool := (Machine.islandInst i).isSome

/-- A raw stamp reading: the interpolator has 256 codes (R326), and the count 64 bits (R317). -/
def StampIn.wf (x : StampIn) : Bool := decide (x.code < 256) && decide (x.ne < 2 ^ 64)

/-- A pattern lies in its PHY frame of 125 µs (R77). -/
def PsyncIn.wf (x : PsyncIn) : Bool := decide (x.pos < 6220800) && x.st.wf

/-- Codewords in their order (R83). -/
def Span.wf (x : Span) : Bool := decide (x.first ≤ x.last)

/-- What a PHY frame holds lies in codewords in their order (R83). -/
def FrameIn.wf (x : FrameIn) : Bool := x.hdr.wf && x.map.wf

/-- A PLOAM message has its MIC at least, and lies in codewords in their order (R83, R87). -/
def PloamIn.wf (x : PloamIn) : Bool := x.span.wf && decide (8 ≤ x.raw.length)

/-- A received frame has an FCS at least, or there is none (R168, R174); its stamp exists. -/
def EthIn.wf (x : EthIn) : Bool := (x.bytes.isEmpty || decide (4 ≤ x.bytes.length)) && x.st.wf

/-- An XGEM payload is as long as its 14-bit PLI can say (R88). -/
def XgemIn.wf (x : XgemIn) : Bool := x.span.wf && decide (x.data.length < 2 ^ 14)

/-- A descriptor has 32 bytes (R450). -/
def descWf (bs : List Byte) : Bool := decide (bs.length = 32)

/-- Whether a command's operands lie in the ranges above. -/
def Instr.wf : Instr → Bool
  | .psyncPattern _ x => x.wf
  | .phyFrameDecode _ x => x.wf
  | .xgemFrameRx _ x => x.wf
  | .rxFrame _ x => x.wf
  | .txFrame _ st _ _ => st.wf
  | .ppsInEdge st => st.wf
  | .ploamBurstProfile _ x _ _ _ _ _ => x.wf
  | .ploamAssignOnuId _ x _ _ => x.wf
  | .ploamDeactivateOnuId _ x => x.wf
  | .ploamDisableSerialNumber _ x _ _ _ => x.wf
  | .ploamRequestRegistration _ x => x.wf
  | .ploamAssignAllocId _ x _ _ => x.wf
  | .ploamKeyControl _ x _ => x.wf
  | .ploamSleepAllow _ x _ => x.wf
  | .ploamChangePowerLevel _ x => x.wf
  | .ploamPowerConsumptionInq _ x => x.wf
  | .ploamUnsupported _ x _ => x.wf
  | .ploamRangingTime _ x relative eqd => x.wf && (relative || decide (0 ≤ eqd))
  | .vltJobComplete p busErr => decide (p = 0) || busErr.isNone
  | .counterLowWordRead _ a => decide (a.toNat % 2 = 0)
  | .aonUpDone _ hm _ => decide (hm.length = 128)
  | .assayDone _ _ _ sram => sram.all fun i => islandKnown i.val
  | .stageLimitExpiry x => x.unlocked.all fun i => islandKnown i.val
  | .islandFaultDetect isl cause _ => islandKnown isl.val && (decide (cause ≠ 2) || decide (isl = 0x2C))
  | .islandDrainDone isl => islandKnown isl.val
  | .crossingEntryArrive isl _ _ => islandKnown isl.val
  | .islandPowerReply isl _ => islandKnown isl.val
  | .descriptorFetch _ d _ => descWf d
  | .staleRereadExpiry _ d _ => descWf d
  | _ => true

end Sys2Proof
end

