-- ==== Sys2Proof/Certificates/Slice0/Obligations.lean ====
section
/-! DEFINITION. The statements about the device that are to be proved. -/

open Sys2Proof Sys2Proof.Machine

/-- For every command c, queue rest and state s whose queue is c followed by rest, a step of s answers what exec answers
for c in s with the queue rest. The queue is the model's own (log entry 5); R21 orders the accesses it holds. -/
def Obligations.StepRunsFront : Prop :=
  ∀ (c : Instr) (rest : List Instr) (s : State), s.pending = c :: rest →
    step s = exec c { s with pending := rest }

/-- A step of a state with an empty queue answers a next state with an empty queue whose clock is one tick of 0.8 ns
later (log entry 1). When n ticks pass, the clock advances by n, the raw count by n modulo 2^64 while TIM runs and its
clock is not held, each live pipeline's recirculation credit by RECIRC_PCT (at most 10) for each cycle of its clock, up
to 1,600; the performance counters and the events they raise may change, and nothing else does. -/
def Obligations.IdleStepIsATick : Prop :=
  (∀ s : State, s.pending = [] → ∃ t, step s = .next t ∧ t.pending = [] ∧ t.now = s.now + 1) ∧
  (∀ (s : State) (n : Nat), ∃ t, t = s.elapse n ∧
    t = { s with now := s.now + n, regs := t.regs, evt := t.evt, tim := { s.tim with rawN := t.tim.rawN } } ∧
    t.tim.rawN = (if s.bit timB F.TIM_STAT.RUN && s.pwr.timHold.isNone then (s.tim.rawN + n) % 2 ^ 64 else s.tim.rawN) ∧
    RegsBut (pmcRegs ++ [kB 0 + 0x44, kB 1 + 0x44]) s t ∧
    (∀ k < 2, t.fld (kB k) F.KP_ARB_STAT.CREDIT =
      if s.live (0x20 + k) then
        min 1600 (s.fld (kB k) F.KP_ARB_STAT.CREDIT + s.coreClocksIn n * min 10 (s.fld (kB k) F.KP_ARB_CFG.RECIRC_PCT))
      else s.fld (kB k) F.KP_ARB_STAT.CREDIT))

/-- Right after reset every register reads the reset value its table gives it (where the spec gives none, the value of
log entry 3), every 64-bit counter and Tally counter reads 0, no timer runs, no command waits, nothing has been sent and
no free value has been taken. In particular KP_ARB_CFG reads 0x0064_400A and KP_ARB_STAT 0x0640_0000, and the AON boot
stage is 0. -/
def Obligations.ResetState : Prop :=
  (∀ a, State.reset.reg a = resetWord a) ∧ (∀ a, State.reset.ctr a = 0) ∧ (∀ p i, State.reset.tallyGet p i = 0) ∧
  (∀ i, State.reset.timerOn i = false) ∧ State.reset.pending = [] ∧ State.reset.out = [] ∧
  State.reset.freeNext = 0 ∧ State.reset.now = 0 ∧ State.reset.evt.queue = [] ∧ State.reset.evt.bootBuf = [] ∧
  (∀ k < 2, State.reset.reg (kB k + 0x40) = 0x0064400A#32 ∧ State.reset.reg (kB k + 0x44) = 0x06400000#32) ∧
  State.reset.stage = 0

/-- Right after reset the maps of registers, counters, Tally and timers are in their canonical form, every 64-bit
counter and Tally counter is below 2^64, and the boot buffer holds at most 32 events. -/
def Obligations.ResetKeepsForm : Prop :=
  State.reset.Inv

/-- From every state whose maps of registers, counters, Tally and timers are canonical, whose counters and Tally
counters have at most 64 bits and whose boot buffer holds at most 32 events, whatever command is at the front of the
queue or none, a step that answers a next state answers one of the same form. -/
def Obligations.StepKeepsForm : Prop :=
  ∀ s t : State, s.Inv → step s = .next t → t.Inv

/-- In every state of the form every state keeps, each of the 329 commands of the table completes: exec answers a next
state, in which the waiting commands are as they were, the clock and the count of free values taken have not gone back,
what had been sent out stays sent in order, and the form holds again. -/
def Obligations.EveryCommandCompletes : Prop :=
  ∀ (c : Instr) (s : State), s.Inv → Does c s (After s)

/-- AON_PART_ID lies at offset 0 of the AON window; after reset its fields are PART 0x9648, STEP_MAJOR 0xB, STEP_MINOR 0
and reserved bits 0. A register write to it by either master changes no register but the discard count, and a read of it
by either master, AON being live, answers the value it holds. -/
def Obligations.PartIdentity : Prop :=
  F.AON_PART_ID.PART = ⟨0, 31, 16⟩ ∧ F.AON_PART_ID.STEP_MAJOR = ⟨0, 15, 12⟩ ∧ F.AON_PART_ID.STEP_MINOR = ⟨0, 11, 8⟩ ∧
  State.reset.reg (window 0x00) = 0x9648B000#32 ∧ State.reset.fld aonB F.AON_PART_ID.PART = 0x9648 ∧
  State.reset.fld aonB F.AON_PART_ID.STEP_MAJOR = 0xB ∧ State.reset.fld aonB F.AON_PART_ID.STEP_MINOR = 0 ∧
  (∀ (m : Master) (v : Word) (s : State),
    Does (.registerWrite m (.bar0 0) v) s fun t => t.reg aonB = s.reg aonB) ∧
  (∀ (m : Master) (s : State), s.live 0x00 = true →
    Does (.rcRegisterRead m 0) s fun t => t.reg aonB = s.reg aonB ∧ t.out = s.out ++ [.readData m 0 (s.reg aonB)])

/-- For every implemented island the header at window offset 0x0FFC holds after reset its ID in bits 31 to 24, its
number of instances in bits 23 to 16 and 0x00B0 in bits 15 to 0. A register write to it by either master leaves it
unchanged. While the header holds that value, a read of it by either master answers 0xFFFF_FFFF exactly when the island
is not live, and the header otherwise; so no live island's header has the ID 0xFF. -/
def Obligations.IslandHeaders : Prop :=
  ∀ (id n : Nat), islandInst id = some n →
    State.reset.reg (window id + 0xFFC) = BitVec.ofNat 32 (id * 2 ^ 24 + n * 2 ^ 16 + 0x00B0) ∧ id < 64 ∧ n < 256 ∧
    (∀ (m : Master) (a : BitVec 24) (v : Word) (s : State), 4 * a.toNat = window id + 0xFFC →
      Does (.registerWrite m (.bar0 a) v) s fun t => t.reg (window id + 0xFFC) = s.reg (window id + 0xFFC)) ∧
    (∀ (m : Master) (a : BitVec 24) (s : State), 4 * a.toNat = window id + 0xFFC →
      s.reg (window id + 0xFFC) = BitVec.ofNat 32 (id * 2 ^ 24 + n * 2 ^ 16 + 0x00B0) →
      Does (.rcRegisterRead m a) s fun t => ∃ v : Word, t.out = s.out ++ [.readData m (window id + 0xFFC) v] ∧
        (v = 0xFFFFFFFF#32 ↔ s.live id = false) ∧ (s.live id = true → v = s.reg (window id + 0xFFC)))

/-- An island below 32 is live exactly when its bit of AON_ISL_LIVE0 is 1, and an island 32 + n exactly when bit n of
AON_ISL_LIVE1 is 1. Both registers are read-only to register writes. At reset the registers read 0x0000_0003 and 0, so
only AON and CKR are live, and with every implemented island live they read 0x0FFF_0F13 and 0xFDFF_1337. -/
def Obligations.LiveRegisters : Prop :=
  (∀ (s : State) (n : Nat), n < 32 →
    s.live n = (s.reg (window 0x00 + 0x10)).toNat.testBit n ∧
    s.live (32 + n) = (s.reg (window 0x00 + 0x14)).toNat.testBit n) ∧
  State.reset.reg (window 0x00 + 0x10) = 0x00000003#32 ∧ State.reset.reg (window 0x00 + 0x14) = 0#32 ∧
  (∀ id < 64, State.reset.live id = true ↔ id = 0x00 ∨ id = 0x01) ∧
  (∀ t, t = State.reset.setLives ((List.range 64).filter fun id => (islandInst id).isSome) true →
    t.reg (window 0x00 + 0x10) = 0x0FFF0F13#32 ∧ t.reg (window 0x00 + 0x14) = 0xFDFF1337#32 ∧
    ∀ id < 64, t.live id = (islandInst id).isSome) ∧
  (∀ (m : Master) (a : BitVec 24) (v : Word) (s : State), 4 * a.toNat = window 0x00 + 0x10 ∨ 4 * a.toNat = window 0x00 + 0x14 →
    Does (.registerWrite m (.bar0 a) v) s fun t => t.reg (4 * a.toNat) = s.reg (4 * a.toNat))

/-- The island IDs that R13 does not list are reserved. A read at any offset of a reserved window by either master
answers 0 and changes nothing else. A write there is discarded and changes nothing at all, but for the count of
AON_SEAL.DISCARDS where R54 discards the host's write first. No event is raised. -/
def Obligations.ReservedWindows : Prop :=
  (∀ id < 64, islandInst id = none ↔ id ∈ [0x02, 0x03, 0x05, 0x06, 0x07, 0x0C, 0x0D, 0x0E, 0x0F, 0x1C, 0x1D, 0x1E, 0x1F,
    0x23, 0x26, 0x27, 0x2A, 0x2B, 0x2D, 0x2E, 0x2F, 0x39]) ∧
  (∀ (m : Master) (a : BitVec 24) (s : State), islandInst (4 * a.toNat / 0x100000) = none →
    exec (.rcRegisterRead m a) s = .next { s with out := s.out ++ [.readData m (4 * a.toNat) 0] }) ∧
  (∀ (m : Master) (a : BitVec 24) (v : Word) (s : State), islandInst (4 * a.toNat / 0x100000) = none →
    exec (.registerWrite m (.bar0 a) v) s = .next (if s.r54Discards m (4 * a.toNat) then s.countDiscard else s)) ∧
  (∀ s : State, s.countDiscard = s.setF aonB F.AON_SEAL.DISCARDS (min 0xFFFF (s.fld aonB F.AON_SEAL.DISCARDS + 1)))

/-- A set-time, add-offset or set-rate command that reaches TIM_ADJ_CMD in RUN with the pipeline free, and that neither
the servo, the crystal fallback nor a result below 0 s refuses, is held with its value and N_P = N + 2560, ADJ_BUSY
reads 1 and REFUSED 0. At N_P, with no servo update waiting and the count not held, the anchor becomes N_P with the time
R319 gives, the rate of a set-rate is in force, ADJ_BUSY clears and TIM_ADJ_DONE is raised. A snapshot writes N and
t(N). A replica that finds a bad or different serial word is counted, marked and reported, and needs one good word, at
the latest 1,024 ticks later, to reload; that word ends the mark. One just started needs two. Nothing else changes. -/
def Obligations.TimeAdjustmentsAccepted : Prop :=
  (∀ (m : Master) (s : State), s.reaches m (timB + 0x40) = true → s.tim.pending = none → s.bit timB F.TIM_STAT.RUN = true →
    Does (.timSetTime m) s fun t =>
      t.tim = { s.tim with pending := some { op := 0, value := s.adjTime, nP := s.tim.rawN + 2560, servo := false } } ∧
      t.bit timB F.TIM_STAT.ADJ_BUSY = true ∧ t.bit timB F.TIM_ADJ_CMD.REFUSED = false ∧
      t = { s with tim := t.tim, regs := t.regs } ∧ RegsBut [timB+0x40,timB+0x0] s t) ∧
  (∀ (m : Master) (s : State), s.reaches m (timB + 0x40) = true → s.tim.pending = none →
      s.bit timB F.TIM_STAT.RUN = true → s.bit timB F.TIM_STAT.XTAL_FB = false →
      0 ≤ s.timeAt (s.tim.rawN + 2560) + (if s.bit timB F.TIM_ADJ_NS.NEG then -(s.adjTime : Int) else s.adjTime) →
    Does (.timAddOffset m) s fun t =>
      t.tim = { s.tim with pending := some { op := 1, value := (if s.bit timB F.TIM_ADJ_NS.NEG then -(s.adjTime : Int) else s.adjTime), nP := s.tim.rawN + 2560, servo := false } } ∧
      t.bit timB F.TIM_STAT.ADJ_BUSY = true ∧ t.bit timB F.TIM_ADJ_CMD.REFUSED = false ∧
      t = { s with tim := t.tim, regs := t.regs } ∧ RegsBut [timB+0x40,timB+0x0] s t) ∧
  (∀ (m : Master) (s : State), s.reaches m (timB + 0x40) = true → s.tim.pending = none →
      s.bit timB F.TIM_STAT.RUN = true → s.bit timB F.TIM_STAT.XTAL_FB = false → s.servo ≤ 1 →
    Does (.timSetRate m) s fun t =>
      t.tim = { s.tim with pending := some { op := 2, value := s.adjRate, nP := s.tim.rawN + 2560, servo := false } } ∧
      t.bit timB F.TIM_STAT.ADJ_BUSY = true ∧ t.bit timB F.TIM_ADJ_CMD.REFUSED = false ∧
      t = { s with tim := t.tim, regs := t.regs } ∧ RegsBut [timB+0x40,timB+0x0] s t) ∧
  (∀ (c : AdjCmd) (s : State), s.live 0x04 = true → s.pwr.timHold = none → s.tim.pending = some c → s.tim.waiting = none →
      s.bit timB F.TIM_STAT.RUN = true →
    Does .timAdjApply s fun t =>
      t.tim.anchorN = c.nP ∧
      t.tim.anchorT = (if c.op = 0 then c.value else if c.op = 1 then s.timeAt c.nP + c.value else s.timeAt c.nP).toNat ∧
      t.tim.pending = none ∧ t.bit timB F.TIM_STAT.ADJ_BUSY = false ∧
      (c.op = 2 → t.adj = toSigned 40 (toUnsigned 40 c.value)) ∧
      t.evt = ((if s.tim.rawN < c.nP then s.elapse (c.nP - s.tim.rawN) else s).raise Ev.TIM_ADJ_DONE 0x04 noInst [(1, c.op), (4, c.nP), (1, if c.servo then 1 else 0)]).evt ∧
      t = { (if s.tim.rawN < c.nP then s.elapse (c.nP - s.tim.rawN) else s) with tim := t.tim, evt := t.evt, regs := t.regs } ∧
      RegsBut [timB+0x0,timB+0x60,timB+0x64] (if s.tim.rawN < c.nP then s.elapse (c.nP - s.tim.rawN) else s) t) ∧
  (∀ (m : Master) (s : State), s.reaches m (timB + 0x10) = true →
    Does (.timSnapshot m) s fun t =>
      t.reg (timB + 0x14) = BitVec.ofNat 32 (timeSec s.timeNow) ∧
      t.reg (timB + 0x18) = BitVec.ofNat 32 (timeSec s.timeNow / 2 ^ 32) ∧
      t.reg (timB + 0x1C) = BitVec.ofNat 32 (timeNs s.timeNow) ∧
      t.reg (timB + 0x20) = BitVec.ofNat 32 (2 ^ 31 + timeFrac s.timeNow) ∧
      t.reg (timB + 0x24) = BitVec.ofNat 32 s.tim.rawN ∧ t.reg (timB + 0x28) = BitVec.ofNat 32 (s.tim.rawN / 2 ^ 32) ∧
      t = { s with regs := t.regs } ∧ RegsBut [timB+0x14,timB+0x18,timB+0x1C,timB+0x20,timB+0x24,timB+0x28] s t) ∧
  (∀ (isl : Fin 64) (crcOk agree : Bool) (s : State), hasReplica isl.val = true ∧ s.live isl.val = true →
      s.timCounts = true → s.repWaits isl.val = false → (crcOk && agree) = false →
    Does (.replicaSerialWord isl crcOk agree) s fun t =>
      t.tim.repErr = s.tim.repErr.insert isl.val ∧ SMap.get (fun _ => 0) t.tim.repNeed isl.val = 1 ∧
      SMap.get (fun _ => 0) t.tim.repAt isl.val = s.now + 1024 ∧
      t.tim = { s.tim with repNeed := t.tim.repNeed, repAt := t.tim.repAt, repErr := t.tim.repErr } ∧
      t.ctrs = (s.count (timB + Ctr.TIM.REPLICA_ERR)).ctrs ∧
      t.evt = (s.raise Ev.TIM_REPLICA_ERR 0x04 noInst [(1, isl.val)]).evt ∧
      t = { s with tim := t.tim, ctrs := t.ctrs, evt := t.evt }) ∧
  (∀ (isl : Fin 64) (agree : Bool) (s : State), hasReplica isl.val = true ∧ s.live isl.val = true → s.timCounts = true →
      s.repWaits isl.val = true →
    Does (.replicaSerialWord isl true agree) s fun t =>
      SMap.get (fun _ => 0) t.tim.repNeed isl.val = SMap.get (fun _ => 0) s.tim.repNeed isl.val - 1 ∧
      (SMap.get (fun _ => 0) s.tim.repNeed isl.val = 1 → t.repWaits isl.val = false ∧ t.stampErr isl.val = false) ∧
      t.tim = { s.tim with repNeed := t.tim.repNeed, repAt := t.tim.repAt } ∧ t = { s with tim := t.tim })

/-- A sample of the selected source that is not a step, in WAIT or HOLDOVER, is applied: the servo goes to ACQUIRE,
TIM_SERVO_LAST shows it, SAMPLES counts and the source timeout starts anew. A software sample is held when the source is
software and counted in SAMPLE_DISC otherwise. A write of TIM_SRC_CFG sends the servo to OFF with source 0 or under
crystal fallback, else to WAIT, with no sample held and both servo timers stopped. The source timeout sends ACQUIRE or
LOCKED to HOLDOVER (not following a DPLL), counts HOLD_ENTRIES and starts the holdover limit, whose end raises
TIM_HOLD_LONG once. A time-of-day computation starts with a valid capture and EqD and no ranging since, shows BUSY and
cause 0, and its completion writes the offset, clears BUSY, raises TIM_PTOD_DONE and offers the offset as a sample. Only
the parts named change beside what passing time changes. -/
def Obligations.ServoTakesSamples : Prop :=
  (∀ (th : Int) (s : State), s.live 0x04 = true → s.tim.sample = some th → (s.servo = 1 ∨ s.servo = 4) →
      (s.largeSample th && s.bit timB F.TIM_SERVO_CFG.STEP_EN) = false →
    Does .servoSample s fun t =>
      t.servo = 2 ∧ t.fld timB F.TIM_SERVO_LAST.THETA = toUnsigned 32 (clampInt (-(2 ^ 31)) (2 ^ 31 - 1) th) ∧
      t.tim = { s.tim with sample := none, lockCount := 0, outlierRun := 0, lastSampleN := some s.tim.rawN } ∧
      t.ctrs = (s.count (timB + Ctr.TIM.SAMPLES)).ctrs ∧
      SMap.get (fun _ => 0) t.timers Tm.servoSrc = s.now + max 1 (s.fld timB F.TIM_SRC_CFG.SRC_TO) * msTicks + 1 ∧
      t.timerOn Tm.holdLimit = false ∧
      t = { s with tim := t.tim, ctrs := t.ctrs, evt := t.evt, mem := t.mem, freeNext := t.freeNext, regs := t.regs, timers := t.timers } ∧
      RegsBut ([timB+0x0,timB+0x94,mccB+0x24] ++ (List.range 8).map fun c => mcB c+0x4) s t ∧
      TimersBut [Tm.servoSrc,Tm.holdLimit] s t) ∧
  (∀ (m : Master) (thetaHi : BitVec 16) (s : State), s.reaches m (timB + 0x90) = true → s.servoSrc = 3 →
    Does (.servoSwSample m thetaHi) s fun t =>
      t.tim = { s.tim with sample := some (toSigned 48 (s.fld timB F.TIM_SERVO_SAMPLE_LO.THETA + thetaHi.toNat * 2 ^ 32)) } ∧
      t.fld timB F.TIM_SERVO_SAMPLE_HI.THETA = thetaHi.toNat ∧ t = { s with tim := t.tim, regs := t.regs } ∧
      RegsBut [timB+0x90] s t) ∧
  (∀ (m : Master) (thetaHi : BitVec 16) (s : State), s.reaches m (timB + 0x90) = true → s.servoSrc ≠ 3 →
    Does (.servoSwSample m thetaHi) s fun t =>
      t.ctrs = (s.count (timB + Ctr.TIM.SAMPLE_DISC)).ctrs ∧ t = { s with ctrs := t.ctrs, regs := t.regs } ∧
      RegsBut [timB+0x90] s t) ∧
  (∀ (m : Master) (v : Word) (s : State), s.reaches m (timB + 0x80) = true →
    Does (.servoSrcWrite m v) s fun t =>
      t.reg (timB + 0x80) = (s.store (timB + 0x80) v.toNat).reg (timB + 0x80) ∧
      t.servo = (if t.servoSrc = 0 ∨ s.bit timB F.TIM_STAT.XTAL_FB = true then 0 else 1) ∧ t.tim.sample = none ∧
      t.tim = { s.tim with sample := none, outlierRun := 0, lastSampleN := none, lockCount := t.tim.lockCount } ∧
      t.timerOn Tm.servoSrc = false ∧ t.timerOn Tm.holdLimit = false ∧
      t = { s with tim := t.tim, evt := t.evt, freeNext := t.freeNext, regs := t.regs, timers := t.timers } ∧
      RegsBut [timB+0x80,timB+0x0,aonB+0x30] s t ∧ TimersBut [Tm.servoSrc,Tm.holdLimit] s t) ∧
  (∀ (s : State), s.live 0x04 = true → s.timerOn Tm.servoSrc = true → (s.servo = 2 ∨ s.servo = 3) →
      s.bit timB F.TIM_SERVO_CFG.HYBRID = false →
    Does .servoSrcTimeout s fun t =>
      t.servo = 4 ∧ t.tim = { (s.atEnd Tm.servoSrc).tim with holdLong := false, holdCause := 0, lastSampleN := none } ∧
      t.ctrs = ((s.atEnd Tm.servoSrc).count (timB + Ctr.TIM.HOLD_ENTRIES)).ctrs ∧
      SMap.get (fun _ => 0) t.timers Tm.holdLimit = (s.atEnd Tm.servoSrc).now + max 1 (s.fld timB F.TIM_SRC_CFG.HOLD_LIMIT) * 1000 * msTicks + 1 ∧
      t = { (s.atEnd Tm.servoSrc) with tim := t.tim, ctrs := t.ctrs, evt := t.evt, freeNext := t.freeNext, regs := t.regs, timers := t.timers } ∧
      RegsBut [timB+0x0] (s.atEnd Tm.servoSrc) t ∧ TimersBut [Tm.holdLimit,Tm.servoSrc] (s.atEnd Tm.servoSrc) t) ∧
  (∀ (s : State), s.live 0x04 = true → s.timerOn Tm.holdLimit = true → s.servo = 4 → s.tim.holdLong = false →
    Does .holdLimitExpiry s fun t =>
      t.tim = { (s.atEnd Tm.holdLimit).tim with holdLong := true } ∧
      t.evt = ((s.atEnd Tm.holdLimit).raise Ev.TIM_HOLD_LONG 0x04 noInst [(2, max 1 (s.fld timB F.TIM_SRC_CFG.HOLD_LIMIT))]).evt ∧
      t = { (s.atEnd Tm.holdLimit) with tim := t.tim, evt := t.evt }) ∧
  (∀ (m : Master) (ch : PonCh) (s : State), s.reaches m (timB + 0xC0) = true → s.bit timB F.TIM_PTOD_CTRL.BUSY = false →
      s.bit (pnB ch) F.PN_TOD_CAP3.VALID = true → s.tim.rangedSince.get ch = false → s.bit (pnB ch) F.PN_EQD.VALID = true →
    Does (.timPtodGo m ch) s fun t =>
      t.tim = { s.tim with ptod := some (ch.val, s.ptodTheta ch.val) } ∧ t.bit timB F.TIM_PTOD_CTRL.BUSY = true ∧
      t.fld timB F.TIM_PTOD_CTRL.CH = ch.val ∧ t.fld timB F.TIM_PTOD_CTRL.CAUSE = 0 ∧ t.reg (timB + 0xE0) = 0 ∧
      t.reg (timB + 0xE4) = 0 ∧ t = { s with tim := t.tim, regs := t.regs } ∧ RegsBut [timB+0xC0,timB+0xE0,timB+0xE4] s t) ∧
  (∀ (c : Nat) (th : Int) (s : State), s.live 0x04 = true → s.tim.ptod = some (c, th) →
    Does .timPtodComplete s fun t =>
      t.reg (timB + 0xE0) = BitVec.ofNat 32 (toUnsigned 48 th) ∧
      t.reg (timB + 0xE4) = BitVec.ofNat 32 (2 ^ 31 + toUnsigned 48 th / 2 ^ 32) ∧
      t.bit timB F.TIM_PTOD_CTRL.BUSY = false ∧
      t.tim = { s.tim with ptod := none, sample := if s.servoSrc = c + 1 then some th else s.tim.sample } ∧
      t.evt = (s.raise Ev.TIM_PTOD_DONE 0x04 noInst [(1, c), (1, 0)]).evt ∧
      t = { s with tim := t.tim, evt := t.evt, mem := t.mem, regs := t.regs } ∧
      RegsBut ([timB+0xC0,timB+0xE0,timB+0xE4,mccB+0x24] ++ (List.range 8).map fun c => mcB c+0x4) s t)

/-- An input fault sends a DPLL that is not free-running to HOLDOVER and raises TIM_SYNCE_SRC_FAIL; a write of
TIM_SYNCE_CFG that leaves it enabled with a good and offered input selected, not held, from free-running or with another
input, sends it to LOCKING, as does the end of the 10 s in HOLDOVER not forced; one that disables it or selects none
makes it free-run; locking ends in LOCKED with the measured offset shown (the servo not in HOLDOVER). The first PPS_IN
edge only starts the check; one an interval within the window of 1 s after it sets PPS_IN_OK, writes TIM_PPS_IN and
restarts the 1.5 s timer, whose end clears PPS_IN_OK (PPS_IN not the servo's source). The next PPS_OUT edge, enabled,
comes when device time reaches its whole second less the delay (the rate not negative), with a pulse of WIDTH and POL's
level, and with TX_PPS = 1 it releases the time-of-day bytes that wait, for TX_DLY later. Nothing else changes. -/
def Obligations.SyncEAndPpsFollowTheirInputs : Prop :=
  (∀ (why : SynceFault) (s : State), s.live 0x04 = true → s.fld timB F.TIM_STAT.SYNCE ≠ 0 →
      (why ≠ .forced ∨ s.bit timB F.TIM_SYNCE_CFG.HOLD_FORCE = true) →
    Does (.synceInputFault why) s fun t =>
      t.fld timB F.TIM_STAT.SYNCE = 3 ∧ t.tim = { s.tim with synceFault := true } ∧
      t.evt = (if s.fld timB F.TIM_STAT.SYNCE = 3 then (s.raise Ev.TIM_SYNCE_SRC_FAIL 0x04 noInst [(1, s.fld timB F.TIM_SYNCE_CFG.SEL), (1, synceFaultCode why)]) else (s.raise Ev.TIM_SYNCE_SRC_FAIL 0x04 noInst [(1, s.fld timB F.TIM_SYNCE_CFG.SEL), (1, synceFaultCode why)]).raise Ev.TIM_SYNCE_STATE 0x04 noInst [(1, s.fld timB F.TIM_STAT.SYNCE), (1, 3), (1, s.fld timB F.TIM_SYNCE_CFG.SEL)]).evt ∧
      SMap.get (fun _ => 0) t.timers Tm.synceRecovery = s.now + 10000 * msTicks + 1 ∧
      t = { s with tim := t.tim, evt := t.evt, regs := t.regs, timers := t.timers } ∧ RegsBut [timB+0x0] s t ∧
      TimersBut [Tm.synceRecovery] s t) ∧
  (∀ (m : Master) (v : Word) (inputGood : Bool) (s : State), s.reaches m (timB + 0x140) = true →
      (s.store (timB + 0x140) v.toNat).bit timB F.TIM_SYNCE_CFG.EN = true →
      (s.store (timB + 0x140) v.toNat).fld timB F.TIM_SYNCE_CFG.SEL ≠ 63 →
      (s.store (timB + 0x140) v.toNat).bit timB F.TIM_SYNCE_CFG.HOLD_FORCE = false →
      inputGood = true ∧ (s.store (timB + 0x140) v.toNat).synceOffered ((s.store (timB + 0x140) v.toNat).fld timB F.TIM_SYNCE_CFG.SEL) = true →
      (s.fld timB F.TIM_STAT.SYNCE = 0 ∨ (s.store (timB + 0x140) v.toNat).fld timB F.TIM_SYNCE_CFG.SEL ≠ s.fld timB F.TIM_SYNCE_CFG.SEL) →
    Does (.synceSelWrite m v inputGood) s fun t =>
      t.fld timB F.TIM_STAT.SYNCE = 1 ∧ t.tim = { s.tim with synceFault := false } ∧ t.timerOn Tm.synceRecovery = false ∧
      t.reg (timB + 0x140) = (s.store (timB + 0x140) v.toNat).reg (timB + 0x140) ∧
      t = { (s.store (timB + 0x140) v.toNat) with tim := t.tim, evt := t.evt, regs := t.regs, timers := t.timers } ∧
      RegsBut [timB+0x0] (s.store (timB + 0x140) v.toNat) t ∧
      TimersBut [Tm.synceRecovery] (s.store (timB + 0x140) v.toNat) t) ∧
  (∀ (m : Master) (v : Word) (inputGood : Bool) (s : State), s.reaches m (timB + 0x140) = true →
      ((s.store (timB + 0x140) v.toNat).bit timB F.TIM_SYNCE_CFG.EN = false ∨ (s.store (timB + 0x140) v.toNat).fld timB F.TIM_SYNCE_CFG.SEL = 63) →
    Does (.synceSelWrite m v inputGood) s fun t =>
      t.fld timB F.TIM_STAT.SYNCE = 0 ∧ t.reg (timB + 0x140) = (s.store (timB + 0x140) v.toNat).reg (timB + 0x140) ∧
      t.timerOn Tm.synceRecovery = false ∧
      t = { (s.store (timB + 0x140) v.toNat) with evt := t.evt, regs := t.regs, timers := t.timers } ∧
      RegsBut [timB+0x0] (s.store (timB + 0x140) v.toNat) t ∧
      TimersBut [Tm.synceRecovery] (s.store (timB + 0x140) v.toNat) t) ∧
  (∀ (s : State), s.live 0x04 = true → s.timerOn Tm.synceRecovery = true → s.fld timB F.TIM_STAT.SYNCE = 3 →
      s.bit timB F.TIM_SYNCE_CFG.HOLD_FORCE = false →
    Does .synceRecoveryExpiry s fun t =>
      t.fld timB F.TIM_STAT.SYNCE = 1 ∧ t.timerOn Tm.synceRecovery = false ∧
      t.tim = { (s.atEnd Tm.synceRecovery).tim with synceFault := false } ∧
      t.evt = ((s.atEnd Tm.synceRecovery).raise Ev.TIM_SYNCE_STATE 0x04 noInst [(1, 3), (1, 1), (1, s.fld timB F.TIM_SYNCE_CFG.SEL)]).evt ∧
      t = { (s.atEnd Tm.synceRecovery) with tim := t.tim, evt := t.evt, regs := t.regs, timers := t.timers } ∧
      RegsBut [timB+0x0] (s.atEnd Tm.synceRecovery) t ∧ TimersBut [Tm.synceRecovery] (s.atEnd Tm.synceRecovery) t) ∧
  (∀ (fofs : Word) (s : State), s.live 0x04 = true → s.fld timB F.TIM_STAT.SYNCE = 1 → s.servo ≠ 4 →
    Does (.synceLocked fofs) s fun t =>
      t.fld timB F.TIM_STAT.SYNCE = 2 ∧ t.fld timB F.TIM_SYNCE_STAT.FOFS = fofs.toNat ∧
      t.tim = { s.tim with dpllOffset := toSigned 32 fofs.toNat * 256 } ∧
      t.evt = (s.raise Ev.TIM_SYNCE_STATE 0x04 noInst [(1, 1), (1, 2), (1, s.fld timB F.TIM_SYNCE_CFG.SEL)]).evt ∧
      t = { s with tim := t.tim, evt := t.evt, regs := t.regs } ∧ RegsBut [timB+0x0,timB+0x144] s t) ∧
  (∀ (st : StampIn) (s : State), s.live 0x04 = true → s.bit timB F.TIM_PPS_IN_CFG.EN = true → s.tim.ppsLast = none →
    Does (.ppsInEdge st) s fun t =>
      t.tim = { s.tim with ppsLast := some (st.ne, st.code) } ∧ t = { s with tim := t.tim }) ∧
  (∀ (st : StampIn) (p : Nat × Nat) (s : State), s.live 0x04 = true → s.bit timB F.TIM_PPS_IN_CFG.EN = true →
      s.tim.ppsLast = some p →
      (s.ppsInterval p st - secUnits).natAbs ≤ max 1 (s.fld timB F.TIM_PPS_IN_CFG.WIN) * 1000 * 65536 →
    Does (.ppsInEdge st) s fun t =>
      t.bit timB F.TIM_STAT.PPS_IN_OK = true ∧
      t.reg (timB + 0x108) = BitVec.ofNat 32 (timeSec (s.stampRx 98 st (s.sfld timB F.TIM_PPS_IN_DLY.DLY))) ∧
      t.reg (timB + 0x10C) = BitVec.ofNat 32 (timeSec (s.stampRx 98 st (s.sfld timB F.TIM_PPS_IN_DLY.DLY)) / 2 ^ 32) ∧
      t.reg (timB + 0x110) = BitVec.ofNat 32 (timeNs (s.stampRx 98 st (s.sfld timB F.TIM_PPS_IN_DLY.DLY))) ∧
      t.reg (timB + 0x114) = BitVec.ofNat 32 (2 ^ 31 + timeFrac (s.stampRx 98 st (s.sfld timB F.TIM_PPS_IN_DLY.DLY))) ∧
      t.tim.ppsLast = some (st.ne, st.code) ∧ t.tim = { s.tim with ppsLast := t.tim.ppsLast, sample := t.tim.sample } ∧
      (s.servoSrc ≠ 4 → t.tim.sample = s.tim.sample) ∧
      SMap.get (fun _ => 0) t.timers Tm.ppsLoss = s.now + 1500 * msTicks + 1 ∧
      t = { s with tim := t.tim, evt := t.evt, mem := t.mem, regs := t.regs, timers := t.timers } ∧
      RegsBut ([timB+0x0,timB+0x108,timB+0x10C,timB+0x110,timB+0x114,mccB+0x24] ++ (List.range 8).map fun c => mcB c+0x4) s t ∧
      TimersBut [Tm.ppsLoss] s t) ∧
  (∀ (s : State), s.live 0x04 = true → s.timerOn Tm.ppsLoss = true → s.servoSrc ≠ 4 →
      s.bit timB F.TIM_STAT.PPS_IN_OK = true →
    Does .ppsInLossTimeout s fun t =>
      t.bit timB F.TIM_STAT.PPS_IN_OK = false ∧ t.tim = { (s.atEnd Tm.ppsLoss).tim with ppsLast := none } ∧
      t.evt = ((s.atEnd Tm.ppsLoss).raise Ev.TIM_PPS_IN 0x04 noInst [(1, 0)]).evt ∧
      t = { (s.atEnd Tm.ppsLoss) with tim := t.tim, evt := t.evt, regs := t.regs } ∧
      RegsBut [timB+0x0] (s.atEnd Tm.ppsLoss) t) ∧
  (∀ (s : State), s.live 0x04 = true → s.bit timB F.TIM_PPS_OUT_CFG.EN = true → s.timCounts = true →
      0 ≤ (s.tim.ppsNext : Int) * secUnits - s.sfld timB F.TIM_PPS_OUT_DLY.DLY → 0 ≤ s.adj →
    Does .ppsOutEdge s fun t =>
      (s.tim.ppsNext : Int) * secUnits - s.sfld timB F.TIM_PPS_OUT_DLY.DLY ≤ t.timeNow ∧
      t.out = s.out ++ [.ppsOut (s.fld timB F.TIM_PPS_OUT_CFG.WIDTH) s.tim.ppsNext (s.bit timB F.TIM_PPS_OUT_CFG.POL)] ∧
      s.tim.ppsNext < t.tim.ppsNext ∧
      t.tim.todArms = (if s.bit timB F.TIM_TOD_CFG.TX_PPS && decide (0 < (s.tim.todTx.length - (s.tim.todArms.map (·.1)).sum)) then s.tim.todArms ++ [((s.tim.todTx.length - (s.tim.todArms.map (·.1)).sum), t.now + s.fld timB F.TIM_TOD_CFG.TX_DLY * usTicks)] else s.tim.todArms) ∧
      t.tim = { (s.reachTime ((s.tim.ppsNext : Int) * secUnits - s.sfld timB F.TIM_PPS_OUT_DLY.DLY).toNat).tim with ppsNext := t.tim.ppsNext, todArms := t.tim.todArms } ∧
      t = { (s.reachTime ((s.tim.ppsNext : Int) * secUnits - s.sfld timB F.TIM_PPS_OUT_DLY.DLY).toNat) with out := t.out, tim := t.tim })

/-- POP of TQ_TS_CTRL drops the head of a port's timestamp queue and FLUSH empties it, COUNT showing the number left and
no other port's queue changing. A received time-of-day byte joins a FIFO of fewer than 256 bytes, and a full FIFO counts
TOD_RX_OVF; a POP drops the oldest byte; a written byte joins the transmit FIFO of fewer than 256; with TX_PPS = 0 the
waiting bytes leave at once on TOD_OUT at BAUD's rate, and with TX_PPS = 1 the oldest released group leaves at its time.
The FIFO registers show the level, and nothing else changes. -/
def Obligations.TimestampAndTodQueues : Prop :=
  (∀ (m : Master) (p : Port) (s : State), s.reaches m (tqB p.val + 0x220) = true →
    Does (.tsPop m p) s fun t =>
      t.tsQueue p.val = (s.tsQueue p.val).tail ∧
      t.fld (tqB p.val) F.TQ_TS_CTRL.COUNT = (s.tsQueue p.val).tail.length % 128 ∧
      (∀ q : Port, q ≠ p → t.tsQueue q.val = s.tsQueue q.val) ∧ t.tim = { s.tim with tsQ := t.tim.tsQ } ∧
      t = { s with tim := t.tim, regs := t.regs } ∧
      RegsBut [tqB p.val+0x210,tqB p.val+0x214,tqB p.val+0x218,tqB p.val+0x21C,tqB p.val+0x220] s t) ∧
  (∀ (m : Master) (p : Port) (s : State), s.reaches m (tqB p.val + 0x220) = true →
    Does (.tsFlush m p) s fun t =>
      t.tsQueue p.val = [] ∧ t.fld (tqB p.val) F.TQ_TS_CTRL.COUNT = 0 ∧
      (∀ q : Port, q ≠ p → t.tsQueue q.val = s.tsQueue q.val) ∧ t.tim = { s.tim with tsQ := t.tim.tsQ } ∧
      t = { s with tim := t.tim, regs := t.regs } ∧
      RegsBut [tqB p.val+0x210,tqB p.val+0x214,tqB p.val+0x218,tqB p.val+0x21C,tqB p.val+0x220] s t) ∧
  (∀ (b : Byte) (s : State), s.live 0x04 = true → s.tim.todRx.length < 256 →
    Does (.todRxByte b) s fun t =>
      t.tim = { s.tim with todRx := s.tim.todRx ++ [b] } ∧
      t.fld timB F.TIM_TOD_RX.DATA = ((s.tim.todRx ++ [b]).headD b).toNat ∧ t.bit timB F.TIM_TOD_RX.VALID = true ∧
      t.fld timB F.TIM_TOD_STAT.RX_LEVEL = s.tim.todRx.length + 1 ∧ t = { s with tim := t.tim, regs := t.regs } ∧
      RegsBut [timB+0x13c,timB+0x138] s t) ∧
  (∀ (b : Byte) (s : State), s.live 0x04 = true → s.tim.todRx.length = 256 →
    Does (.todRxByte b) s fun t =>
      t.ctrs = (s.count (timB + Ctr.TIM.TOD_RX_OVF)).ctrs ∧ t = { s with ctrs := t.ctrs }) ∧
  (∀ (m : Master) (b : Byte) (s : State), s.reaches m (timB + 0x134) = true → s.tim.todTx.length < 256 →
    Does (.todTxWrite m b) s fun t =>
      t.tim = { s.tim with todTx := s.tim.todTx ++ [b] } ∧ t.fld timB F.TIM_TOD_STAT.TX_LEVEL = s.tim.todTx.length + 1 ∧
      t = { s with tim := t.tim, regs := t.regs } ∧ RegsBut [timB+0x13c,timB+0x138] s t) ∧
  (∀ (s : State), s.live 0x04 = true → s.tim.todTx ≠ [] → s.bit timB F.TIM_TOD_CFG.TX_PPS = false →
    Does .todTxStart s fun t =>
      t.out = s.out ++ [.todOut s.todBaud s.tim.todTx] ∧ t.tim = { s.tim with todTx := [], todArms := [] } ∧
      t.fld timB F.TIM_TOD_STAT.TX_LEVEL = 0 ∧ t = { s with out := t.out, tim := t.tim, regs := t.regs } ∧
      RegsBut [timB+0x13c,timB+0x138] s t) ∧
  (∀ (k : Nat) (at_ : Nat) (l : List (Nat × Nat)) (s : State), s.live 0x04 = true → s.tim.todTx ≠ [] →
      s.bit timB F.TIM_TOD_CFG.TX_PPS = true → s.tim.todArms = (k, at_) :: l →
    Does .todTxStart s fun t =>
      at_ ≤ t.now ∧ t.out = s.out ++ [.todOut s.todBaud (s.tim.todTx.take k)] ∧
      t.tim = { (s.elapseTo at_).tim with todTx := s.tim.todTx.drop k, todArms := l } ∧
      t.fld timB F.TIM_TOD_STAT.TX_LEVEL = (s.tim.todTx.length - k) % 512 ∧
      t = { (s.elapseTo at_) with out := t.out, tim := t.tim, regs := t.regs } ∧
      RegsBut [timB+0x13c,timB+0x138] (s.elapseTo at_) t) ∧
  (∀ (m : Master) (s : State), s.reaches m (timB + 0x138) = true →
    Does (.todRxPop m) s fun t =>
      t.tim = { s.tim with todRx := s.tim.todRx.tail } ∧
      t.fld timB F.TIM_TOD_STAT.RX_LEVEL = s.tim.todRx.tail.length % 512 ∧ t = { s with tim := t.tim, regs := t.regs } ∧
      RegsBut [timB+0x13c,timB+0x138] s t)

/-- A skip marker with the next number of a valid context that holds nothing advances NEXT and counts SKIPPED. When the
timeout of a context that holds one skip marker beyond a gap of one number passes, or a flush command does the same at
once, NEXT moves past the marker, the gap counts LOST, the marker SKIPPED, and TLR_STRIPE_LOST is raised at most once
per 1 ms. A read command shows VALID, INIT, SF and NEXT; a write whose SF no other valid context has puts an empty
context in INIT and restarts the flow's upstream sequence; an invalidate of an empty context clears VALID and INIT; each
sets BUSY, which the completion clears. Nothing else changes. -/
def Obligations.StripeWindowsSettle : Prop :=
  (∀ (c : Nat) (sf : Nat) (rest : List (Nat × Nat × Nat)) (x : Nat) (s : State), s.live 0x24 = true →
      s.tlr.markers = (c, sf, (s.stripe x).next) :: rest → s.stripeOf sf = some x → (s.stripe x).init = false →
      (s.stripe x).held = [] → (s.stripe x).next < 65536 →
    Does .stripeSkipMarkerArrive s fun t =>
      t.stripe x = { s.stripe x with next := ((s.stripe x).next + 1) % 65536 } ∧
      t.tally = (s.tallyAdd 0x14 (8 * x + 1)).tally ∧ t.tlr = { s.tlr with markers := rest, stripes := t.tlr.stripes } ∧
      t = { s with tlr := t.tlr, tally := t.tally, regs := t.regs } ∧ RegsBut [tlrB+0x810] s t) ∧
  (∀ (x : Fin 256) (h0 : Held) (s : State), s.live 0x24 = true → (s.stripe x).held = [h0] → h0.pkt = none →
      h0.seq = (s.stripe x).next + 1 → h0.seq < 65536 →
    Does (.stripeTimeout x) s fun t =>
      t.stripe x = { s.stripe x with next := (h0.seq + 1) % 65536, held := [] } ∧
      t.tally = ((s.tallyAdd 0x14 (8 * x.val + 2)).tallyAdd 0x14 (8 * x.val + 1)).tally ∧
      t.tlr = { s.tlr with stripes := t.tlr.stripes } ∧
      t.evt = ((s.elapseTo (h0.since + max 1 (s.fld tlrB F.TLR_STRIPE_CFG.TIMEOUT) * usTicks)).raiseMs 0 Ev.TLR_STRIPE_LOST 0x24 noInst [(1, x.val), (2, (s.stripe x).next), (1, 1)]).evt ∧
      t = { (s.elapseTo (h0.since + max 1 (s.fld tlrB F.TLR_STRIPE_CFG.TIMEOUT) * usTicks)) with tlr := t.tlr, tally := t.tally, evt := t.evt, regs := t.regs } ∧
      RegsBut [tlrB+0x810] (s.elapseTo (h0.since + max 1 (s.fld tlrB F.TLR_STRIPE_CFG.TIMEOUT) * usTicks)) t) ∧
  (∀ (m : Master) (x : Fin 256) (s : State), s.reaches m (tlrB + 0x808) = true → s.bit tlrB F.TLR_STRIPE_CMD.BUSY = false →
    Does (.tlrStripeRead m x) s fun t =>
      t.reg (tlrB + 0x80C) = BitVec.ofNat 32 (b2n (s.stripe x).valid * 2 ^ 31 + b2n (s.stripe x).init * 2 ^ 30 + (s.stripe x).sf * 2 ^ 16 + (s.stripe x).next) ∧
      t.bit tlrB F.TLR_STRIPE_CMD.BUSY = true ∧ t = { s with regs := t.regs } ∧ RegsBut [tlrB+0x808,tlrB+0x80C] s t) ∧
  (∀ (m : Master) (x : Fin 256) (s : State), s.reaches m (tlrB + 0x808) = true →
      s.bit tlrB F.TLR_STRIPE_CMD.BUSY = false →
      (s.tlr.stripes.any fun c => c.2.valid && decide (c.2.sf = s.fld tlrB F.TLR_STRIPE_DATA.SF) && decide (c.1 ≠ x.val)) = false →
      (s.stripe x).held = [] →
    Does (.tlrStripeWrite m x) s fun t =>
      t.stripe x = { valid := s.bit tlrB F.TLR_STRIPE_DATA.VALID, init := true, sf := s.fld tlrB F.TLR_STRIPE_DATA.SF, next := 0, held := [] } ∧
      t.tlr = { s.tlr with stripes := t.tlr.stripes } ∧
      SMap.get (fun _ => 0) t.tmg.txSeq (s.fld tlrB F.TLR_STRIPE_DATA.SF) = 0 ∧
      t.tmg = { s.tmg with txSeq := t.tmg.txSeq } ∧ t.bit tlrB F.TLR_STRIPE_STAT.DUP = false ∧
      t.bit tlrB F.TLR_STRIPE_CMD.BUSY = true ∧ t = { s with tlr := t.tlr, tmg := t.tmg, regs := t.regs } ∧
      RegsBut [tlrB+0x808,tlrB+0x810] s t) ∧
  (∀ (m : Master) (x : Fin 256) (s : State), s.reaches m (tlrB + 0x808) = true →
      s.bit tlrB F.TLR_STRIPE_CMD.BUSY = false → (s.stripe x).held = [] →
    Does (.tlrStripeInvalidate m x) s fun t =>
      t.stripe x = { s.stripe x with valid := false, init := false } ∧ t.tlr = { s.tlr with stripes := t.tlr.stripes } ∧
      t.bit tlrB F.TLR_STRIPE_CMD.BUSY = true ∧ t = { s with tlr := t.tlr, regs := t.regs } ∧
      RegsBut [tlrB+0x808,tlrB+0x810] s t) ∧
  (∀ (m : Master) (x : Fin 256) (h0 : Held) (s : State), s.reaches m (tlrB + 0x808) = true →
      s.bit tlrB F.TLR_STRIPE_CMD.BUSY = false → (s.stripe x).held = [h0] → h0.pkt = none →
      h0.seq = (s.stripe x).next + 1 → h0.seq < 65536 →
    Does (.tlrStripeFlush m x) s fun t =>
      t.stripe x = { s.stripe x with next := (h0.seq + 1) % 65536, held := [] } ∧
      t.tally = ((s.tallyAdd 0x14 (8 * x.val + 2)).tallyAdd 0x14 (8 * x.val + 1)).tally ∧
      t.tlr = { s.tlr with stripes := t.tlr.stripes } ∧
      t.evt = (s.raiseMs 0 Ev.TLR_STRIPE_LOST 0x24 noInst [(1, x.val), (2, (s.stripe x).next), (1, 1)]).evt ∧
      t.bit tlrB F.TLR_STRIPE_CMD.BUSY = true ∧
      t = { s with tlr := t.tlr, tally := t.tally, evt := t.evt, regs := t.regs } ∧ RegsBut [tlrB+0x808,tlrB+0x810] s t) ∧
  (∀ (s : State), s.live 0x24 = true →
    Does .tlrStripeCmdDone s fun t =>
      t.bit tlrB F.TLR_STRIPE_CMD.BUSY = false ∧ t = { s with regs := t.regs } ∧ RegsBut [tlrB+0x808] s t)

/-- For an entry index below its table's size with no operation BUSY, a read copies the entry to TBL_DATA; a write that
has no cause against it puts TBL_DATA there and zeroes the hit counter; an invalidate clears VALID. An insert into the
L2 or exact-flow table of a key not present goes, with VALID set, to the place R221 gives, is shown in INDEX and zeroes
the hit counter; a delete or a search of a key that is present in a table with keys shows its INDEX and clears its VALID
or copies it to TBL_DATA. Each sets BUSY with CAUSE 0, and the completion clears BUSY. A write or an insert of an L2
entry discards a learn of its key asked or placed in the same clock; a service-flow write may restart that flow's
upstream sequence. Nothing else changes. -/
def Obligations.TableCommandsActOnEntries : Prop :=
  (∀ (m : Master) (tb : BitVec 4) (i : BitVec 16) (s : State), s.reaches m (tblB + 0x10) = true →
      s.bit tblB F.TBL_CMD.BUSY = false → 1 ≤ tb.toNat ∧ tb.toNat ≤ 10 → i.toNat < s.tblSize tb.toNat →
    Does (.tblRead m tb i) s fun t =>
      t.regWords (tblB + 0x20) (entryWords tb.toNat) = natWords (entryWords tb.toNat) (s.ent tb.toNat i.toNat) ∧
      t.fld tblB F.TBL_CMD.CAUSE = 0 ∧ t.bit tblB F.TBL_CMD.BUSY = true ∧ t = { s with regs := t.regs } ∧
      RegsBut ([tblB+0x10] ++ (List.range 22).map fun j => tblB + 0x20 + 4 * j) s t) ∧
  (∀ (m : Master) (tb : BitVec 4) (i : BitVec 16) (s : State), s.reaches m (tblB + 0x10) = true →
      s.bit tblB F.TBL_CMD.BUSY = false → 1 ≤ tb.toNat ∧ tb.toNat ≤ 10 → i.toNat < s.tblSize tb.toNat →
      (s.softWins tb.toNat (s.tblData tb.toNat)).writeCause tb.toNat (s.tblData tb.toNat) i.toNat = 0 →
    Does (.tblWrite m tb i) s fun t =>
      t.tbl.ents = SMap.set (fun _ => 0) (s.softWins tb.toNat (s.tblData tb.toNat)).tbl.ents (s.entKey tb.toNat i.toNat) (s.tblData tb.toNat) ∧
      t.tbl = { (s.softWins tb.toNat (s.tblData tb.toNat)).tbl with ents := t.tbl.ents } ∧
      (tb.toNat ≠ 1 → (s.softWins tb.toNat (s.tblData tb.toNat)) = s) ∧
      t.tally = (s.tallySet (hitSpace tb.toNat) i.toNat 0).tally ∧ (tb.toNat ≠ 10 → t.tmg = s.tmg) ∧
      t.tmg = { s.tmg with txSeq := t.tmg.txSeq } ∧ t.fld tblB F.TBL_CMD.CAUSE = 0 ∧ t.bit tblB F.TBL_CMD.BUSY = true ∧
      t = { s with tbl := t.tbl, tally := t.tally, tmg := t.tmg, regs := t.regs } ∧
      RegsBut ([tblB+0x10] ++ (List.range 50).map fun p => tblB+0x204 + 8 * p) s t) ∧
  (∀ (m : Master) (tb : BitVec 4) (i : BitVec 16) (s : State), s.reaches m (tblB + 0x10) = true →
      s.bit tblB F.TBL_CMD.BUSY = false → 1 ≤ tb.toNat ∧ tb.toNat ≤ 10 → i.toNat < s.tblSize tb.toNat →
    Does (.tblInvalidate m tb i) s fun t =>
      t.tbl.ents = SMap.set (fun _ => 0) s.tbl.ents (s.entKey tb.toNat i.toNat) (setBits (s.ent tb.toNat i.toNat) (validBit tb.toNat) (validBit tb.toNat) 0) ∧
      t.tbl = { s.tbl with ents := t.tbl.ents } ∧ t.fld tblB F.TBL_CMD.CAUSE = 0 ∧ t.bit tblB F.TBL_CMD.BUSY = true ∧
      t = { s with tbl := t.tbl, regs := t.regs } ∧
      RegsBut ([tblB+0x10] ++ (List.range 50).map fun p => tblB+0x204 + 8 * p) s t) ∧
  (∀ (m : Master) (tb : BitVec 4) (j : Nat) (s : State), s.reaches m (tblB + 0x10) = true →
      s.bit tblB F.TBL_CMD.BUSY = false → (tb = 1 ∨ tb = 2) →
      (s.softWins tb.toNat (setBits (s.tblData tb.toNat) (validBit tb.toNat) (validBit tb.toNat) 1)).findSame tb.toNat (setBits (s.tblData tb.toNat) (validBit tb.toNat) (validBit tb.toNat) 1) none = none →
      (s.softWins tb.toNat (setBits (s.tblData tb.toNat) (validBit tb.toNat) (validBit tb.toNat) 1)).hashPlace tb.toNat (setBits (s.tblData tb.toNat) (validBit tb.toNat) (validBit tb.toNat) 1) = some j →
    Does (.tblInsert m tb) s fun t =>
      t.tbl.ents = SMap.set (fun _ => 0) (s.softWins tb.toNat (setBits (s.tblData tb.toNat) (validBit tb.toNat) (validBit tb.toNat) 1)).tbl.ents (s.entKey tb.toNat j) (setBits (s.tblData tb.toNat) (validBit tb.toNat) (validBit tb.toNat) 1) ∧
      t.tbl = { (s.softWins tb.toNat (setBits (s.tblData tb.toNat) (validBit tb.toNat) (validBit tb.toNat) 1)).tbl with ents := t.tbl.ents } ∧
      (tb = 2 → (s.softWins tb.toNat (setBits (s.tblData tb.toNat) (validBit tb.toNat) (validBit tb.toNat) 1)) = s) ∧
      t.tally = (s.tallySet (hitSpace tb.toNat) j 0).tally ∧ t.fld tblB F.TBL_CMD.INDEX = j ∧
      t.fld tblB F.TBL_CMD.CAUSE = 0 ∧ t.bit tblB F.TBL_CMD.BUSY = true ∧
      t = { s with tbl := t.tbl, tally := t.tally, regs := t.regs } ∧
      RegsBut ([tblB+0x10] ++ (List.range 50).map fun p => tblB+0x204 + 8 * p) s t) ∧
  (∀ (m : Master) (tb : BitVec 4) (j : Nat) (s : State), s.reaches m (tblB + 0x10) = true →
      s.bit tblB F.TBL_CMD.BUSY = false → (tb.toNat = 1 ∨ tb.toNat = 2 ∨ 7 ≤ tb.toNat ∧ tb.toNat ≤ 9) →
      s.findSame tb.toNat (s.tblData tb.toNat) none = some j →
    Does (.tblDelete m tb) s fun t =>
      t.tbl.ents = SMap.set (fun _ => 0) s.tbl.ents (s.entKey tb.toNat j) (setBits (s.ent tb.toNat j) (validBit tb.toNat) (validBit tb.toNat) 0) ∧
      t.tbl = { s.tbl with ents := t.tbl.ents } ∧ t.fld tblB F.TBL_CMD.INDEX = j % 65536 ∧
      t.fld tblB F.TBL_CMD.CAUSE = 0 ∧ t.bit tblB F.TBL_CMD.BUSY = true ∧ t = { s with tbl := t.tbl, regs := t.regs } ∧
      RegsBut ([tblB+0x10] ++ (List.range 50).map fun p => tblB+0x204 + 8 * p) s t) ∧
  (∀ (m : Master) (tb : BitVec 4) (j : Nat) (s : State), s.reaches m (tblB + 0x10) = true →
      s.bit tblB F.TBL_CMD.BUSY = false → (tb.toNat = 1 ∨ tb.toNat = 2 ∨ 7 ≤ tb.toNat ∧ tb.toNat ≤ 9) →
      s.findSame tb.toNat (s.tblData tb.toNat) none = some j →
    Does (.tblSearch m tb) s fun t =>
      t.regWords (tblB + 0x20) (entryWords tb.toNat) = natWords (entryWords tb.toNat) (s.ent tb.toNat j) ∧
      t.fld tblB F.TBL_CMD.INDEX = j % 65536 ∧ t.fld tblB F.TBL_CMD.CAUSE = 0 ∧ t.bit tblB F.TBL_CMD.BUSY = true ∧
      t = { s with regs := t.regs } ∧ RegsBut ([tblB+0x10] ++ (List.range 22).map fun j => tblB + 0x20 + 4 * j) s t) ∧
  (∀ (s : State), s.live 0x22 = true →
    Does .tblCmdDone s fun t =>
      t.bit tblB F.TBL_CMD.BUSY = false ∧ t = { s with regs := t.regs } ∧ RegsBut [tblB+0x10] s t) ∧
  (∀ (r : LearnReq) (q : List LearnReq) (j : Nat) (s : State), s.live 0x22 = true → s.tbl.learnQ = r :: q →
      s.softKey (r.fid * 2 ^ 48 + r.mac) = false → s.findL2 r.fid r.mac = none →
      s.hashPlace 1 (r.mac + r.fid * 2 ^ 48 + 2 ^ 64 + 2 ^ 66 + r.src * 2 ^ 72 + r.dest * 2 ^ 80) = some j →
    Does .l2LearnInsert s fun t =>
      t.tbl.ents = SMap.set (fun _ => 0) s.tbl.ents (s.entKey 1 j) (r.mac + r.fid * 2 ^ 48 + 2 ^ 64 + 2 ^ 66 + r.src * 2 ^ 72 + r.dest * 2 ^ 80) ∧
      t.tbl = { s.tbl with ents := t.tbl.ents, learnQ := q, learntNow := s.tbl.learntNow.note s.now j } ∧
      t.tally = (s.tallySet (hitSpace 1) j 0).tally ∧ t.ctrs = (s.count (tblB + Ctr.TBL.L2_LEARNED)).ctrs ∧
      t = { s with tbl := t.tbl, tally := t.tally, ctrs := t.ctrs, evt := t.evt, sampN := t.sampN, regs := t.regs } ∧
      RegsBut (pmcRegs ++ (List.range 50).map fun p => tblB+0x204 + 8 * p) s t)

/-- With no operation BUSY a read command copies the named parse-graph node or pattern slot into its data words; a write
of a bank that is not locked puts the data words there (a node's without its reserved bits; a pattern not VALID, or
VALID in a set with fewer than 4,096 others); an invalidate of a pattern slot of a bank that is not locked clears its
VALID. Each sets BUSY, and the completion clears it; pattern commands also show CAUSE 0 and the counts of VALID slots of
the sets touched. A node write to a locked bank sets WR_REFUSED and counts it. Nothing else changes. -/
def Obligations.ParseGraphAndPatternCommands : Prop :=
  (∀ (m : Master) (k : Pipe) (bank : Fin 2) (n : Fin 64) (s : State), s.reaches m (kB k.val + 0x110) = true →
      s.bit (kB k.val) F.KP_PG_CMD.BUSY = false →
    Does (.kpPgRead m k bank n) s fun t =>
      t.regWords (kB k.val + 0x120) 12 = natWords 12 (s.node k.val bank.val n.val) ∧
      t.bit (kB k.val) F.KP_PG_CMD.BUSY = true ∧ t = { s with regs := t.regs } ∧
      RegsBut ([kB k.val + 0x110] ++ (List.range 12).map fun j => kB k.val + 0x120 + 4 * j) s t) ∧
  (∀ (m : Master) (k : Pipe) (bank : Fin 2) (n : Fin 64) (s : State), s.reaches m (kB k.val + 0x110) = true →
      s.bit (kB k.val) F.KP_PG_CMD.BUSY = false → s.bankLocked bank.val = false →
    Does (.kpPgWrite m k bank n) s fun t =>
      t.tbl.graph = SMap.set (fun _ => 0) s.tbl.graph (nodeKey k.val bank.val n.val) (Nat.land (wordsNat (s.regWords (kB k.val + 0x120) 12)) nodeBits) ∧
      t.tbl = { s.tbl with graph := t.tbl.graph } ∧ t.bit (kB k.val) F.KP_PG_CMD.BUSY = true ∧
      t = { s with tbl := t.tbl, regs := t.regs } ∧ RegsBut [kB k.val + 0x110] s t) ∧
  (∀ (m : Master) (k : Pipe) (bank : Fin 2) (n : Fin 64) (s : State), s.reaches m (kB k.val + 0x110) = true →
      s.bit (kB k.val) F.KP_PG_CMD.BUSY = false → s.bankLocked bank.val = true →
    Does (.kpPgWrite m k bank n) s fun t =>
      t.bit (kB k.val) F.KP_STAGE_STAT.WR_REFUSED = true ∧ t.ctrs = (s.count (kB k.val + Ctr.KP.WR_REFUSED)).ctrs ∧
      t = { s with ctrs := t.ctrs, regs := t.regs } ∧ RegsBut [kB k.val + 0x110,kB k.val+0x300] s t) ∧
  (∀ (k : Pipe) (s : State), s.live (0x20 + k.val) = true →
    Does (.kpPgCmdDone k) s fun t =>
      t.bit (kB k.val) F.KP_PG_CMD.BUSY = false ∧ t = { s with regs := t.regs } ∧ RegsBut [kB k.val + 0x110] s t) ∧
  (∀ (m : Master) (bank : Fin 2) (i : BitVec 14) (s : State), s.reaches m (window 0x25 + 0x20100) = true →
      s.bit (window 0x25) F.INS_PAT_CMD.BUSY = false →
    Does (.insPatRead m bank i) s fun t =>
      t.regWords (window 0x25 + 0x20110) 35 = natWords 35 (s.pat bank.val i.toNat) ∧
      t.fld (window 0x25) F.INS_PAT_CMD.CAUSE = 0 ∧ t.bit (window 0x25) F.INS_PAT_CMD.BUSY = true ∧
      t = { s with regs := t.regs } ∧
      RegsBut ([window 0x25 + 0x20100] ++ (List.range 35).map fun j => window 0x25 + 0x20110 + 4 * j) s t) ∧
  (∀ (m : Master) (bank : Fin 2) (i : BitVec 14) (s : State), s.reaches m (window 0x25 + 0x20100) = true →
      s.bit (window 0x25) F.INS_PAT_CMD.BUSY = false → s.bankLocked bank.val = false →
      (patValid (wordsNat (s.regWords (window 0x25 + 0x20110) 35)) = false ∨ (s.setSlots bank.val (patSet (wordsNat (s.regWords (window 0x25 + 0x20110) 35)))).length < 4096) →
    Does (.insPatWrite m bank i) s fun t =>
      t.tlr.pats = SMap.set (fun _ => 0) s.tlr.pats (bank.val * 16384 + i.toNat) (wordsNat (s.regWords (window 0x25 + 0x20110) 35)) ∧
      t.tlr = { s.tlr with pats := t.tlr.pats } ∧ t.fld (window 0x25) F.INS_PAT_CMD.CAUSE = 0 ∧
      t.bit (window 0x25) F.INS_PAT_CMD.BUSY = true ∧ t = { s with tlr := t.tlr, regs := t.regs } ∧
      RegsBut ([window 0x25 + 0x20100] ++ (List.range 16).map fun j => window 0x25+0x20000 + 0x40 * bank.val + 4 * j) s t) ∧
  (∀ (m : Master) (bank : Fin 2) (i : BitVec 14) (s : State), s.reaches m (window 0x25 + 0x20100) = true →
      s.bit (window 0x25) F.INS_PAT_CMD.BUSY = false → s.bankLocked bank.val = false →
    Does (.insPatInvalidate m bank i) s fun t =>
      t.tlr.pats = SMap.set (fun _ => 0) s.tlr.pats (bank.val * 16384 + i.toNat) (setBits (s.pat bank.val i.toNat) 31 31 0) ∧
      t.tlr = { s.tlr with pats := t.tlr.pats } ∧ t.fld (window 0x25) F.INS_PAT_CMD.CAUSE = 0 ∧
      t.bit (window 0x25) F.INS_PAT_CMD.BUSY = true ∧ t = { s with tlr := t.tlr, regs := t.regs } ∧
      RegsBut ([window 0x25 + 0x20100] ++ (List.range 16).map fun j => window 0x25+0x20000 + 0x40 * bank.val + 4 * j) s t) ∧
  (∀ (s : State), s.live 0x25 = true →
    Does .insPatCmdDone s fun t =>
      t.bit (window 0x25) F.INS_PAT_CMD.BUSY = false ∧ t = { s with regs := t.regs } ∧ RegsBut [window 0x25 + 0x20100] s t)

/-- The next ready class 0 item is marked as held by the next engine blocked in TAKE, whose SCANNING and ITEM show it;
DISPATCHED and the wait histogram count it. When a scan of an ordered, uncancelled item ends behind an earlier item of
its domain that is not done, the item is done with the packet the scan gives, and the engine's counters count the item,
bytes, clocks and matches. A fault of an idle engine that is not OUT counts it, sets FAULT, clears WANT and takes it OUT
with INS_ENG_FAULT and INS_ENG_SVC raised; WANT = 0 takes an idle engine OUT and a busy one to DRAIN; WANT = 1 brings an
OUT engine back IN with FAULT clear. Only the parts named change. -/
def Obligations.TellerDispatchesAndScansEnd : Prop :=
  (∀ (it : Item) (e : Nat) (s : State), s.live 0x24 = true → s.nextItem 0 = some it → s.nextEngine = some e →
      it.level < 16 →
    Does .tellerDispatch s fun t =>
      (t.tlr.items = s.tlr.items.map fun x => if x.id = it.id then { it with at_ := .engine e, takenAt := s.now } else x) ∧
      t.tlr.lastEng = e + 1 ∧
      t.tlr = { s.tlr with items := t.tlr.items, lastEng := e + 1, highs := t.tlr.highs, scans := t.tlr.scans } ∧
      t.bit (insB e) F.INS_ENG_STAT.SCANNING = true ∧ t.bit (insB e) F.INS_ENG_STAT.WAITING = false ∧
      t.fld (insB e) F.INS_ENG_STAT.ITEM = it.id % 16384 ∧ t.ctrs = (s.count (tlrB + Ctr.TLR.DISPATCHED)).ctrs ∧
      t.tally = (s.histo (16 * it.level) (s.now - it.since)).tally ∧
      t = { s with tlr := t.tlr, ctrs := t.ctrs, tally := t.tally, evt := t.evt, regs := t.regs } ∧
      RegsBut [insB e+0x4,tlrB+0x100 + 4 * it.level] s t) ∧
  (∀ (e : Fin 32) (it : Item) (a : Item) (s : State), s.live 0x25 = true → s.engItem e = some it → it.marked = false →
      it.ordered = true → (s.domain it.domain).head? = some (some a.id) → s.itemOf a.id = some a → a.id ≠ it.id →
      a.at_ ≠ .done →
    Does (.insScanDone e) s fun t =>
      (t.tlr.items = s.tlr.items.map fun x => if x.id = it.id then { it with pkt := (s.scan it.pkt it.pset).1, at_ := .done, doneAt := (s.elapseTo (it.takenAt + s.insTicks (ceilDiv (s.scan it.pkt it.pset).2.1 2))).now } else x) ∧
      t.tlr = { s.tlr with items := t.tlr.items, scans := t.tlr.scans } ∧ t.bit (insB e) F.INS_ENG_STAT.SCANNING = false ∧
      t.fld (insB e) F.INS_ENG_STAT.ITEM = 0 ∧
      t.ctrs = (((((s.elapseTo (it.takenAt + s.insTicks (ceilDiv (s.scan it.pkt it.pset).2.1 2))).count (insB e + Ctr.INS.ITEMS)).count (insB e + Ctr.INS.BYTES) (s.scan it.pkt it.pset).2.1).count (insB e + Ctr.INS.BUSY_CLK) (ceilDiv (s.scan it.pkt it.pset).2.1 2)).count (insB e + Ctr.INS.MATCHES) (s.scan it.pkt it.pset).2.2).ctrs ∧
      t = { (s.elapseTo (it.takenAt + s.insTicks (ceilDiv (s.scan it.pkt it.pset).2.1 2))) with tlr := t.tlr, ctrs := t.ctrs, evt := t.evt, sampN := t.sampN, regs := t.regs } ∧
      RegsBut (pmcRegs ++ [insB e+0x0,insB e+0x4]) (s.elapseTo (it.takenAt + s.insTicks (ceilDiv (s.scan it.pkt it.pset).2.1 2))) t) ∧
  (∀ (e : Fin 32) (s : State), s.live 0x25 = true → s.engState e ≠ 2 → s.engItem e = none →
    Does (.insEngineFault e) s fun t =>
      t.engState e = 2 ∧ t.bit (insB e) F.INS_ENG_SVC.FAULT = true ∧ t.fld (insB e) F.INS_ENG_SVC.WANT = 0 ∧
      t.bit (insB e) F.INS_ENG_STAT.SCANNING = false ∧ t.ctrs = (s.count (insB e + Ctr.INS.FAULTS)).ctrs ∧
      t.evt = ((s.raise Ev.INS_ENG_FAULT 0x25 e [(1, e.val), (2, s.fld (insB e) F.INS_ENG_STAT.ITEM)]).raise Ev.INS_ENG_SVC 0x25 e [(1, e.val), (1, s.engState e), (1, 2)]).evt ∧
      t = { s with ctrs := t.ctrs, evt := t.evt, regs := t.regs } ∧ RegsBut [insB e+0x0,insB e+0x4] s t) ∧
  (∀ (m : Master) (e : Fin 32) (s : State), s.reaches m (insB e) = true → s.engState e = 0 →
    Does (.insEngWantClear m e) s fun t =>
      t.engState e = (if s.engBusy e then 1 else 2) ∧ t.fld (insB e) F.INS_ENG_SVC.WANT = 0 ∧
      t.bit (insB e) F.INS_ENG_STAT.WAITING = false ∧ t = { s with evt := t.evt, regs := t.regs } ∧
      RegsBut [insB e+0x0,insB e+0x4] s t) ∧
  (∀ (m : Master) (e : Fin 32) (s : State), s.reaches m (insB e) = true → s.engState e = 2 →
    Does (.insEngWantSet m e) s fun t =>
      t.engState e = 0 ∧ t.fld (insB e) F.INS_ENG_SVC.WANT = 1 ∧ t.bit (insB e) F.INS_ENG_SVC.FAULT = false ∧
      t.evt = (s.raise Ev.INS_ENG_SVC 0x25 e [(1, e.val), (1, 2), (1, 0)]).evt ∧
      t = { s with evt := t.evt, regs := t.regs } ∧ RegsBut [insB e+0x0,insB e+0x4] s t)

/-- TLR_TAKE clears the last result and arms a take; a delivery hands the next class 1 item to an armed consumer that
holds none, shows its four words and starts SW_TO. TLR_DONE of the delivered item completes it: an ordered one behind an
item not done waits with its verdict's packet; an unordered one with the drop verdict is released and dropped with
reason 0x0A. An unordered delivered item whose SW_TO ends fails, dropped with reason 0x09. A cancel by ID of one ready
unordered item, or a domain's only, ready item that is its only ordered entry, or the wait limit of an unordered item,
withdraws it with reason 0x08; the domain's entry becomes a skip and is settled. Counters and the Tally count each;
packets here await no stripe window. Only the parts named change, beside what a drop changes. -/
def Obligations.SoftwareConsumerAndCancels : Prop :=
  (∀ (m : Master) (s : State), s.reaches m (tlrB + 0x10) = true →
    Does (.tlrTake m) s fun t =>
      t.bit tlrB F.TLR_TAKE.ARMED = true ∧ t.reg (tlrB + 0x14) = 0 ∧ t.regWords (tlrB + 0x18) 4 = [0, 0, 0, 0] ∧
      t = { s with regs := t.regs } ∧ RegsBut [tlrB+0x10,tlrB+0x14,tlrB+0x18,tlrB+0x1C,tlrB+0x20,tlrB+0x24] s t) ∧
  (∀ (it : Item) (s : State), s.live 0x24 = true → s.nextItem 1 = some it → s.bit tlrB F.TLR_TAKE.ARMED = true →
      s.delivered = none → it.level < 16 →
    Does .tlrDeliver s fun t =>
      (t.tlr.items = s.tlr.items.map fun x => if x.id = it.id then { it with at_ := .delivered, takenAt := s.now } else x) ∧
      t.tlr = { s.tlr with items := t.tlr.items, highs := t.tlr.highs } ∧ t.reg (tlrB + 0x14) = 0x80000000 ∧
      t.reg (tlrB + 0x1C) = BitVec.ofNat 32 (it.id * 2 ^ 18 + Config.free s.freeNext % 2 ^ 18) ∧
      t.reg (tlrB + 0x20) = BitVec.ofNat 32 (it.pkt.payload * 2 ^ 16 + it.pkt.w W.LEN) ∧
      t.bit tlrB F.TLR_TAKE.ARMED = false ∧
      SMap.get (fun _ => 0) t.timers Tm.swTimeout = s.now + max 1 (s.fld tlrB F.TLR_CFG.SW_TO) * msTicks + 1 ∧
      t.ctrs = (s.count (tlrB + Ctr.TLR.DISPATCHED)).ctrs ∧
      t.tally = (s.histo (256 + 16 * it.level) (s.now - it.since)).tally ∧ t.freeNext = s.freeNext + 1 ∧
      t = { s with tlr := t.tlr, ctrs := t.ctrs, tally := t.tally, evt := t.evt, freeNext := t.freeNext, regs := t.regs, timers := t.timers } ∧
      RegsBut [tlrB+0x10,tlrB+0x14,tlrB+0x18,tlrB+0x1C,tlrB+0x20,tlrB+0x24,tlrB+0x100 + 4 * it.level] s t ∧
      TimersBut [Tm.swTimeout] s t) ∧
  (∀ (m : Master) (verdict : BitVec 2) (id : BitVec 14) (it : Item) (a : Item) (s : State),
      s.reaches m (tlrB + 0x28) = true → s.delivered = some it → it.id = id.toNat → it.marked = false →
      it.ordered = true → (s.domain it.domain).head? = some (some a.id) → s.itemOf a.id = some a → a.id ≠ it.id →
      a.at_ ≠ .done →
    Does (.tlrDone m verdict id) s fun t =>
      (t.tlr.items = s.tlr.items.map fun x => if x.id = it.id then { it with pkt := verdictPkt it.pkt verdict.toNat (s.fld tlrB F.TLR_DONE_DEST.DEST), at_ := .done, doneAt := s.now } else x) ∧
      t.tlr = { s.tlr with items := t.tlr.items } ∧ t.timerOn Tm.swTimeout = false ∧
      t = { s with tlr := t.tlr, regs := t.regs, timers := t.timers } ∧ RegsBut [tlrB+0x28] s t ∧
      TimersBut [Tm.swTimeout] s t) ∧
  (∀ (m : Master) (id : BitVec 14) (it : Item) (s : State), s.reaches m (tlrB + 0x28) = true → s.delivered = some it →
      it.id = id.toNat → it.marked = false → it.ordered = false →
      s.awaitsWindow ((verdictPkt it.pkt 1 0).setW W.DROP 0) = false → (verdictPkt it.pkt 1 0).wb W.DROP = true →
    Does (.tlrDone m 1 id) s fun t =>
      (t.tlr.items = s.tlr.items.filter fun x => decide (x.id ≠ it.id)) ∧ t.tlr = { s.tlr with items := t.tlr.items } ∧
      t.timerOn Tm.swTimeout = false ∧
      t.ctrs = ((s.count (tlrB + Ctr.TLR.RELEASED)).count (kB it.pipe + Ctr.KP.DROPS)).ctrs ∧
      t.tally = ((s.histo 512 0).tallyAdd (0x0C + it.pipe) 0x0A).tally ∧
      t = { s with tlr := t.tlr, ctrs := t.ctrs, tally := t.tally, evt := t.evt, sampN := t.sampN, tbl := t.tbl, tmg := t.tmg, regs := t.regs, timers := t.timers } ∧
      RegsBut (dropRegs ++ [tlrB+0x28,tlrB+0x30]) s t ∧ TimersBut [Tm.swTimeout] s t) ∧
  (∀ (it : Item) (s : State), s.live 0x24 = true → s.timerOn Tm.swTimeout = true → s.delivered = some it →
      it.marked = false → it.ordered = false → s.awaitsWindow it.pkt = false →
    Does .tlrSwTimeout s fun t =>
      (t.tlr.items = s.tlr.items.filter fun x => decide (x.id ≠ it.id)) ∧ t.tlr = { s.tlr with items := t.tlr.items } ∧
      t.ctrs = (((s.atEnd Tm.swTimeout).count (tlrB + Ctr.TLR.FAILED)).count (kB it.pipe + Ctr.KP.DROPS)).ctrs ∧
      t.tally = (s.tallyAdd (0x0C + it.pipe) 0x09).tally ∧
      t = { (s.atEnd Tm.swTimeout) with tlr := t.tlr, ctrs := t.ctrs, tally := t.tally, evt := t.evt, sampN := t.sampN, tbl := t.tbl, tmg := t.tmg, regs := t.regs } ∧
      RegsBut (dropRegs ++ [tlrB+0x30]) (s.atEnd Tm.swTimeout) t) ∧
  (∀ (m : Master) (id : BitVec 14) (it : Item) (s : State), s.reaches m (tlrB + 0x04) = true →
      (s.tlr.items.filter fun x => !x.marked && decide (x.id = id.toNat)) = [it] → s.itemOf id.toNat = some it →
      it.at_ = .ready → it.ordered = false → it.level < 16 → s.awaitsWindow it.pkt = false →
    Does (.tlrCancelId m id) s fun t =>
      (t.tlr.items = s.tlr.items.filter fun x => decide (x.id ≠ id.toNat)) ∧
      t.tlr = { s.tlr with items := t.tlr.items, highs := t.tlr.highs } ∧ t.fld tlrB F.TLR_CANCEL.CAUSE = 0 ∧
      t.ctrs = ((s.count (tlrB + Ctr.TLR.CANCELLED)).count (kB it.pipe + Ctr.KP.DROPS)).ctrs ∧
      t.tally = (s.tallyAdd (0x0C + it.pipe) 0x08).tally ∧
      t = { s with tlr := t.tlr, ctrs := t.ctrs, tally := t.tally, evt := t.evt, sampN := t.sampN, tbl := t.tbl, tmg := t.tmg, regs := t.regs } ∧
      RegsBut (dropRegs ++ [tlrB+0x04,tlrB+0x30,tlrB+0x100 + 4 * it.level]) s t) ∧
  (∀ (m : Master) (d : BitVec 12) (it : Item) (s : State), s.reaches m (tlrB + 0x04) = true →
      (s.tlr.items.filter fun x => !x.marked && decide (x.domain = d.toNat)) = [it] → s.itemOf it.id = some it →
      it.at_ = .ready → it.ordered = true → it.level < 16 → s.domain d.toNat = [some it.id] →
      s.awaitsWindow it.pkt = false →
    Does (.tlrCancelDomain m d) s fun t =>
      (t.tlr.items = s.tlr.items.filter fun x => decide (x.id ≠ it.id)) ∧ t.domain d.toNat = [] ∧
      t.tlr = { s.tlr with items := t.tlr.items, highs := t.tlr.highs, domains := t.tlr.domains } ∧
      t.fld tlrB F.TLR_CANCEL.CAUSE = 0 ∧
      t.ctrs = (((s.count (tlrB + Ctr.TLR.CANCELLED)).count (kB it.pipe + Ctr.KP.DROPS)).count (tlrB + Ctr.TLR.SKIPS)).ctrs ∧
      t.tally = (s.tallyAdd (0x0C + it.pipe) 0x08).tally ∧
      t = { s with tlr := t.tlr, ctrs := t.ctrs, tally := t.tally, evt := t.evt, sampN := t.sampN, tbl := t.tbl, tmg := t.tmg, regs := t.regs } ∧
      RegsBut (dropRegs ++ [tlrB+0x04,tlrB+0x30,tlrB+0x100 + 4 * it.level]) s t) ∧
  (∀ (it : Item) (s : State), s.live 0x24 = true → s.fld tlrB F.TLR_CFG.WAIT_TO ≠ 0 →
      (s.tlr.items.find? fun x => decide (x.at_ = .ready)) = some it → it.ordered = false → it.level < 16 →
      s.awaitsWindow it.pkt = false →
    Does .tlrWaitTimeout s fun t =>
      (t.tlr.items = s.tlr.items.filter fun x => decide (x.id ≠ it.id)) ∧
      t.tlr = { s.tlr with items := t.tlr.items, highs := t.tlr.highs } ∧
      t.ctrs = (((s.elapseTo (it.since + s.fld tlrB F.TLR_CFG.WAIT_TO * usTicks)).count (tlrB + Ctr.TLR.TIMEOUTS)).count (kB it.pipe + Ctr.KP.DROPS)).ctrs ∧
      t.tally = ((s.tallyAdd (0x0C + it.pipe) 0x08).histo 528 ((s.elapseTo (it.since + s.fld tlrB F.TLR_CFG.WAIT_TO * usTicks)).now - it.since)).tally ∧
      t = { (s.elapseTo (it.since + s.fld tlrB F.TLR_CFG.WAIT_TO * usTicks)) with tlr := t.tlr, ctrs := t.ctrs, tally := t.tally, evt := t.evt, sampN := t.sampN, tbl := t.tbl, tmg := t.tmg, regs := t.regs } ∧
      RegsBut (dropRegs ++ [tlrB+0x30,tlrB+0x100 + 4 * it.level]) (s.elapseTo (it.since + s.fld tlrB F.TLR_CFG.WAIT_TO * usTicks)) t)

/-- With no operation BUSY and an index the store has, TBL_ACT_CMD reads a list or template half into its data words,
writes it from them, or invalidates a list (zeroes a half), with CAUSE 0; the completion clears BUSY. A swap while no
epoch drains flips LIVE, sets DRAINING and starts the STUCK time; one while draining sets SWAP_PENDING. When the
draining epoch has no packet in flight and no swap is pending, DRAINING clears, SWAPS counts and TBL_SWAP_DONE is
raised; a drain that outlasts STUCK raises TBL_SWAP_STUCK. A take-out moves a bank that is IN with a spare to COPY, its
end makes the spare IN and the bank OUT, and a return of an OUT bank starts its SCRUB, each reported. Only the parts
named change. -/
def Obligations.ActionListsEpochsAndBanks : Prop :=
  (∀ (m : Master) (tpl : Bool) (i : BitVec 14) (s : State), s.reaches m (tblB + 0x600) = true →
      s.bit tblB F.TBL_ACT_CMD.BUSY = false → (if tpl then i.toNat ≤ 2047 else i.toNat ≠ 0) →
    Does (.tblActRead m tpl i) s fun t =>
      t.regWords (tblB + 0x610) 8 = natWords 8 (if tpl then s.tplHalf i.toNat else s.actList i.toNat) ∧
      t.fld tblB F.TBL_ACT_CMD.CAUSE = 0 ∧ t.bit tblB F.TBL_ACT_CMD.BUSY = true ∧ t = { s with regs := t.regs } ∧
      RegsBut ([tblB + 0x600] ++ (List.range 8).map fun j => tblB + 0x610 + 4 * j) s t) ∧
  (∀ (m : Master) (tpl : Bool) (i : BitVec 14) (s : State), s.reaches m (tblB + 0x600) = true →
      s.bit tblB F.TBL_ACT_CMD.BUSY = false → (if tpl then i.toNat ≤ 2047 else i.toNat ≠ 0) →
    Does (.tblActWrite m tpl i) s fun t =>
      t.tbl = (if tpl then { s.tbl with tpls := SMap.set (fun _ => 0) s.tbl.tpls i.toNat (wordsNat (s.regWords (tblB + 0x610) 8)) } else { s.tbl with acts := SMap.set (fun _ => 0) s.tbl.acts i.toNat (wordsNat (s.regWords (tblB + 0x610) 8)) }) ∧
      t.fld tblB F.TBL_ACT_CMD.CAUSE = 0 ∧ t.bit tblB F.TBL_ACT_CMD.BUSY = true ∧
      t = { s with tbl := t.tbl, regs := t.regs } ∧ RegsBut [tblB + 0x600] s t) ∧
  (∀ (m : Master) (tpl : Bool) (i : BitVec 14) (s : State), s.reaches m (tblB + 0x600) = true →
      s.bit tblB F.TBL_ACT_CMD.BUSY = false → (if tpl then i.toNat ≤ 2047 else i.toNat ≠ 0) →
    Does (.tblActInvalidate m tpl i) s fun t =>
      t.tbl = (if tpl then { s.tbl with tpls := SMap.set (fun _ => 0) s.tbl.tpls i.toNat 0 } else { s.tbl with acts := SMap.set (fun _ => 0) s.tbl.acts i.toNat (setBits (s.actList i.toNat) 31 31 0) }) ∧
      t.fld tblB F.TBL_ACT_CMD.CAUSE = 0 ∧ t.bit tblB F.TBL_ACT_CMD.BUSY = true ∧
      t = { s with tbl := t.tbl, regs := t.regs } ∧ RegsBut [tblB + 0x600] s t) ∧
  (∀ (s : State), s.live 0x22 = true →
    Does .tblActCmdDone s fun t =>
      t.bit tblB F.TBL_ACT_CMD.BUSY = false ∧ t = { s with regs := t.regs } ∧ RegsBut [tblB + 0x600] s t) ∧
  (∀ (m : Master) (s : State), s.reaches m tblB = true → s.bit tblB F.TBL_EPOCH.DRAINING = false →
    Does (.tblEpochSwap m) s fun t =>
      t.liveEpoch = 1 - s.liveEpoch ∧ t.bit tblB F.TBL_EPOCH.DRAINING = true ∧
      t.fld tblB F.TBL_EPOCH.OLD_COUNT = min 0xFFFF (s.inflightOf s.liveEpoch) ∧
      SMap.get (fun _ => 0) t.timers Tm.swapStuck = s.now + max 1 (s.fld tblB F.TBL_EPOCH_CFG.STUCK) * usTicks + 1 ∧
      t = { s with evt := t.evt, regs := t.regs, timers := t.timers } ∧ RegsBut [tblB+0x0,kB 0+0x300,kB 1+0x300] s t ∧
      TimersBut [Tm.swapStuck] s t) ∧
  (∀ (m : Master) (s : State), s.reaches m tblB = true → s.bit tblB F.TBL_EPOCH.DRAINING = true →
      s.bit tblB F.TBL_EPOCH.SWAP_PENDING = false →
    Does (.tblEpochSwap m) s fun t =>
      t.bit tblB F.TBL_EPOCH.SWAP_PENDING = true ∧ t.liveEpoch = s.liveEpoch ∧ t = { s with regs := t.regs } ∧
      RegsBut [tblB+0x0] s t) ∧
  (∀ (s : State), s.live 0x22 = true → s.bit tblB F.TBL_EPOCH.DRAINING = true → s.inflightOf (1 - s.liveEpoch) = 0 →
      s.bit tblB F.TBL_EPOCH.SWAP_PENDING = false →
    Does .tblEpochDrainDone s fun t =>
      t.bit tblB F.TBL_EPOCH.DRAINING = false ∧ t.liveEpoch = s.liveEpoch ∧ t.timerOn Tm.swapStuck = false ∧
      t.ctrs = (s.count (tblB + Ctr.TBL.SWAPS)).ctrs ∧
      t.evt = (s.raise Ev.TBL_SWAP_DONE 0x22 noInst [(1, 1 - s.liveEpoch), (1, s.liveEpoch)]).evt ∧
      t = { s with ctrs := t.ctrs, evt := t.evt, regs := t.regs, timers := t.timers } ∧ RegsBut [tblB+0x0] s t ∧
      TimersBut [Tm.swapStuck] s t) ∧
  (∀ (s : State), s.live 0x22 = true → s.timerOn Tm.swapStuck = true → s.bit tblB F.TBL_EPOCH.DRAINING = true →
    Does .tblSwapStuckExpiry s fun t =>
      t.evt = ((s.atEnd Tm.swapStuck).raise Ev.TBL_SWAP_STUCK 0x22 noInst [(2, s.fld tblB F.TBL_EPOCH.OLD_COUNT)]).evt ∧
      t = { (s.atEnd Tm.swapStuck) with evt := t.evt }) ∧
  (∀ (m : Master) (b : Fin 64) (c : Nat) (s : State), s.reaches m (tblB + 0x180) = true → s.bankState b = 0 →
      s.spareOf b = some c →
    Does (.tblBankTakeOut m b) s fun t =>
      t.bankState b = 1 ∧ t.tbl = { s.tbl with copying := s.tbl.copying ++ [(b.val, c)] } ∧
      t.bit tblB F.TBL_BANK_CMD.REFUSED = false ∧
      t.evt = (s.raise Ev.TBL_BANK_STATE 0x22 noInst [(1, b.val), (1, 0), (1, 1)]).evt ∧
      t = { s with tbl := t.tbl, evt := t.evt, regs := t.regs } ∧ RegsBut [tblB + 0x180,tblB + (bankFld b).off] s t) ∧
  (∀ (m : Master) (b : Fin 64) (s : State), s.reaches m (tblB + 0x180) = true → s.bankState b = 2 →
    Does (.tblBankReturn m b) s fun t =>
      t.bankState b = 3 ∧ t.chk = { s.chk with scrubs := s.chk.scrubs ++ [b.val] } ∧
      t.bit tblB F.TBL_BANK_CMD.REFUSED = false ∧
      t.evt = (s.raise Ev.TBL_BANK_STATE 0x22 noInst [(1, b.val), (1, 2), (1, 3)]).evt ∧
      t = { s with chk := t.chk, evt := t.evt, regs := t.regs } ∧ RegsBut [tblB + 0x180,tblB + (bankFld b).off] s t) ∧
  (∀ (b : Fin 64) (c : Nat) (s : State), s.live 0x22 = true →
      (s.tbl.copying.find? fun p => decide (p.1 = b.val)) = some (b.val, c) → c < 64 → c ≠ b.val →
    Does (.tblBankCopyDone b) s fun t =>
      t.bankState b = 2 ∧ t.bankState c = 0 ∧
      t.tbl = { s.tbl with copying := s.tbl.copying.filter fun p => decide (p.1 ≠ b.val) } ∧
      t.evt = ((s.raise Ev.TBL_BANK_STATE 0x22 noInst [(1, c), (1, s.bankState c), (1, 0)]).raise Ev.TBL_BANK_STATE 0x22 noInst [(1, b.val), (1, s.bankState b), (1, 2)]).evt ∧
      t = { s with tbl := t.tbl, evt := t.evt, regs := t.regs } ∧
      RegsBut [tblB + (bankFld b).off,tblB + (bankFld c).off] s t)

/-- With no operation BUSY a read command shows an admin or operational entry of a port's gate list in TMG_GCL_DATA and
a write puts TMG_GCL_DATA into the admin list. COMMIT with a cycle and a length sets PENDING, clears GCL_REFUSED and
holds the change time; with the cycle 0 it is refused with GCL_REFUSED and TMG_GCL_REFUSED. At the change time the admin
list becomes the operational list, starting there, PENDING clears, GEN counts, and TMG_GCL_SWITCH is raised. When an
entry ends the registers show the next one and its gates, all open where gating is not enabled. Nothing else changes
beside what passing time changes. -/
def Obligations.GateListsCommitAndHandOver : Prop :=
  (∀ (n : Port) (s : State), s.live 0x28 = true →
    Does (.gateEntryStart n) s fun t =>
      t.fld tmgB (F.TMG_GCL_OPER.ENTRY.at (0x20 * n.val)) = (((s.reachTime (((s.gclOf n).at s.ns).2 * 65536)).gclOf n).at (s.reachTime (((s.gclOf n).at s.ns).2 * 65536)).ns).1 % 256 ∧
      t.fld tmgB (F.TMG_GCL_OPER.STATE.at (0x20 * n.val)) = (if s.bit tmgB (F.TMG_GCL_CTRL.ENABLE.at (0x20 * n.val)) then ((s.reachTime (((s.gclOf n).at s.ns).2 * 65536)).gclOf n).gates (((s.reachTime (((s.gclOf n).at s.ns).2 * 65536)).gclOf n).at (s.reachTime (((s.gclOf n).at s.ns).2 * 65536)).ns).1 % 256 else 255) ∧
      t = { (s.reachTime (((s.gclOf n).at s.ns).2 * 65536)) with regs := t.regs } ∧
      RegsBut [tmgB+0x418 + (0x20 * n.val)] (s.reachTime (((s.gclOf n).at s.ns).2 * 65536)) t) ∧
  (∀ (m : Master) (n : Port) (enable guard_ : Bool) (len : BitVec 9) (s : State),
      s.reaches m (tmgB + 0x408 + 0x20 * n.val) = true → s.fld tmgB (F.TMG_GCL_CYCLE.ADMIN_CYCLE.at (0x20 * n.val)) ≠ 0 →
      len ≠ 0 →
    Does (.gclCommit m n enable guard_ len) s fun t =>
      t.tmg = { s.tmg with gclChange := SMap.set (fun _ => none) s.tmg.gclChange n.val (some (s.changeTime n)) } ∧
      t.bit tmgB (F.TMG_GCL_CTRL.PENDING.at (0x20 * n.val)) = true ∧
      t.bit tmgB (F.TMG_GCL_CTRL.GCL_REFUSED.at (0x20 * n.val)) = false ∧
      t.bit tmgB (F.TMG_GCL_CTRL.ENABLE.at (0x20 * n.val)) = enable ∧
      t.bit tmgB (F.TMG_GCL_CTRL.GUARD.at (0x20 * n.val)) = guard_ ∧
      t.fld tmgB (F.TMG_GCL_CTRL.ADMIN_LEN.at (0x20 * n.val)) = len.toNat ∧ t = { s with tmg := t.tmg, regs := t.regs } ∧
      RegsBut [tmgB + 0x408 + (0x20 * n.val),tmgB+0x418 + (0x20 * n.val)] s t) ∧
  (∀ (m : Master) (n : Port) (enable guard_ : Bool) (len : BitVec 9) (s : State),
      s.reaches m (tmgB + 0x408 + 0x20 * n.val) = true → s.fld tmgB (F.TMG_GCL_CYCLE.ADMIN_CYCLE.at (0x20 * n.val)) = 0 →
    Does (.gclCommit m n enable guard_ len) s fun t =>
      t.bit tmgB (F.TMG_GCL_CTRL.GCL_REFUSED.at (0x20 * n.val)) = true ∧
      t.evt = (s.raise Ev.TMG_GCL_REFUSED 0x28 noInst [(1, n.val), (1, 0)]).evt ∧
      t = { s with evt := t.evt, regs := t.regs } ∧
      RegsBut [tmgB + 0x408 + (0x20 * n.val),tmgB+0x418 + (0x20 * n.val)] s t) ∧
  (∀ (n : Port) (c : Nat) (s : State), s.live 0x28 = true → SMap.get (fun _ => none) s.tmg.gclChange n.val = some c →
    Does (.gclHandover n) s fun t =>
      t.gclOf n = s.adminList n c ∧ SMap.get (fun _ => none) t.tmg.gclChange n.val = none ∧
      t.tmg = { s.tmg with gclOper := t.tmg.gclOper, gclChange := t.tmg.gclChange } ∧
      t.bit tmgB (F.TMG_GCL_CTRL.PENDING.at (0x20 * n.val)) = false ∧
      t.fld tmgB (F.TMG_GCL_CTRL.GEN.at (0x20 * n.val)) = ((s.fld tmgB (F.TMG_GCL_CTRL.GEN.at (0x20 * n.val)) + 1) % 256) ∧
      t.ctrs = ((s.reachTime (c * 65536)).count (tmgB + Ctr.TMG.GCL_SWITCH)).ctrs ∧
      t.evt = ((s.reachTime (c * 65536)).raise Ev.TMG_GCL_SWITCH 0x28 noInst [(1, n.val), (1, ((s.fld tmgB (F.TMG_GCL_CTRL.GEN.at (0x20 * n.val)) + 1) % 256))]).evt ∧
      t = { (s.reachTime (c * 65536)) with tmg := t.tmg, ctrs := t.ctrs, evt := t.evt, regs := t.regs } ∧
      RegsBut [tmgB + 0x408 + (0x20 * n.val),tmgB+0x418 + (0x20 * n.val)] (s.reachTime (c * 65536)) t) ∧
  (∀ (m : Master) (n : BitVec 6) (i : BitVec 8) (s : State), s.reaches m (tmgB + 0xA00) = true →
      s.bit tmgB F.TMG_GCL_CMD.BUSY = false → n.toNat < 48 →
    Does (.tmgGclReadAdmin m n i) s fun t =>
      t.reg (tmgB + 0xA04) = BitVec.ofNat 32 (SMap.get (fun _ => (0, 0xFF)) s.tmg.gclAdmin (256 * n.toNat + i.toNat)).1 ∧
      t.reg (tmgB + 0xA08) = BitVec.ofNat 32 (SMap.get (fun _ => (0, 0xFF)) s.tmg.gclAdmin (256 * n.toNat + i.toNat)).2 ∧
      t.bit tmgB F.TMG_GCL_CMD.BUSY = true ∧ t = { s with regs := t.regs } ∧
      RegsBut [tmgB + 0xA00,tmgB + 0xA04,tmgB + 0xA08] s t) ∧
  (∀ (m : Master) (n : BitVec 6) (i : BitVec 8) (s : State), s.reaches m (tmgB + 0xA00) = true →
      s.bit tmgB F.TMG_GCL_CMD.BUSY = false → n.toNat < 48 →
    Does (.tmgGclWriteAdmin m n i) s fun t =>
      t.tmg = { s.tmg with gclAdmin := SMap.set (fun _ => (0, 0xFF)) s.tmg.gclAdmin (256 * n.toNat + i.toNat) (s.fld tmgB F.TMG_GCL_DATA0.INTERVAL, s.fld tmgB F.TMG_GCL_DATA1.GATES) } ∧
      t.bit tmgB F.TMG_GCL_CMD.BUSY = true ∧ t = { s with tmg := t.tmg, regs := t.regs } ∧ RegsBut [tmgB + 0xA00] s t) ∧
  (∀ (m : Master) (n : BitVec 6) (i : BitVec 8) (s : State), s.reaches m (tmgB + 0xA00) = true →
      s.bit tmgB F.TMG_GCL_CMD.BUSY = false → n.toNat < 48 →
    Does (.tmgGclReadOper m n i) s fun t =>
      t.reg (tmgB + 0xA04) = BitVec.ofNat 32 ((s.gclOf n.toNat).entries.getD i.toNat (0, 0xFF)).1 ∧
      t.reg (tmgB + 0xA08) = BitVec.ofNat 32 ((s.gclOf n.toNat).entries.getD i.toNat (0, 0xFF)).2 ∧
      t.bit tmgB F.TMG_GCL_CMD.BUSY = true ∧ t = { s with regs := t.regs } ∧
      RegsBut [tmgB + 0xA00,tmgB + 0xA04,tmgB + 0xA08] s t)

/-- At a step of the Purses, every shaper Purse held once in the state and both Purses of every policer apply the
settings written since the last step and gain their rate up to the cap, a single-rate policer's second Purse gaining
only what the first overflows. With no operation BUSY, a read of a Purse shows its settings in force and, where they are
not negative, its tokens as of the last step in whole bytes; a write holds the settings for the next step, AWARE only
for the first Purse of a policer. A read of a queue, group, multicast or status entry shows its words and a write of one
but status stores them, no group past 1,023 existing. Each sets BUSY, and the completion clears it. Nothing else
changes, beside what passing time changes at the step. -/
def Obligations.PursesAndQueueCommands : Prop :=
  (∀ (s : State),
    Does .purseStep s fun t =>
      (∀ i : Fin 4096, s.shaperPurses.count i.val = 1 → t.purse i = ((s.purse i).applied.fill (s.purse i).applied.gain).1) ∧
      (∀ m : Fin 4096, t.purse (4096 + 2 * m) = ((s.purse (4096 + 2 * m)).applied.fill (s.purse (4096 + 2 * m)).applied.gain).1) ∧
      (∀ m : Fin 4096, (s.purse (4096 + 2 * m)).applied.mode ≠ 0 → t.purse (4096 + 2 * m + 1) = ((s.purse (4096 + 2 * m + 1)).applied.fill (s.purse (4096 + 2 * m + 1)).applied.gain).1) ∧
      (∀ m : Fin 4096, (s.purse (4096 + 2 * m)).applied.mode = 0 → t.purse (4096 + 2 * m + 1) = ((s.purse (4096 + 2 * m + 1)).applied.fill ((s.purse (4096 + 2 * m)).applied.fill (s.purse (4096 + 2 * m)).applied.gain).2).1) ∧
      t.tmg = { s.tmg with purses := t.tmg.purses } ∧ t = { (s.elapse (usTicks - s.now % usTicks)) with tmg := t.tmg }) ∧
  (∀ (m : Master) (policer : Bool) (i : BitVec 14) (k : Nat) (s : State), s.reaches m (tmgB + 0x200) = true →
      s.bit tmgB F.TMG_PURSE_CMD.BUSY = false → purseIx (b2n policer) i.toNat = some k → 0 ≤ (s.purse k).stepped →
    Does (.tmgPurseRead m policer i) s fun t =>
      t.fld tmgB F.TMG_PURSE_CFG.RATE = ((s.purse k).applied).rate % 2 ^ F.TMG_PURSE_CFG.RATE.width ∧
      t.fld tmgB F.TMG_PURSE_BURST.BURST = ((s.purse k).applied).burst % 2 ^ F.TMG_PURSE_BURST.BURST.width ∧
      t.fld tmgB F.TMG_PURSE_MODE.MODE = ((s.purse k).applied).mode % 4 ∧
      t.bit tmgB F.TMG_PURSE_MODE.AWARE = ((s.purse k).applied).aware ∧
      t.fld tmgB F.TMG_PURSE_TOK.TOKENS = ((s.purse k).stepped / 1000).toNat % 2 ^ 32 ∧
      t.bit tmgB F.TMG_PURSE_CMD.BUSY = true ∧ t = { s with regs := t.regs } ∧
      RegsBut [tmgB + 0x200,tmgB+0x204,tmgB+0x208,tmgB+0x20c,tmgB+0x210] s t) ∧
  (∀ (m : Master) (policer : Bool) (i : BitVec 14) (k : Nat) (s : State), s.reaches m (tmgB + 0x200) = true →
      s.bit tmgB F.TMG_PURSE_CMD.BUSY = false → purseIx (b2n policer) i.toNat = some k →
    Does (.tmgPurseWrite m policer i) s fun t =>
      t.purse k = { s.purse k with next := some (s.fld tmgB F.TMG_PURSE_CFG.RATE, s.fld tmgB F.TMG_PURSE_BURST.BURST, s.fld tmgB F.TMG_PURSE_MODE.MODE, s.bit tmgB F.TMG_PURSE_MODE.AWARE && policer && decide (i.toNat % 2 = 0)) } ∧
      t.tmg = { s.tmg with purses := SMap.set (fun _ => Purse.empty) s.tmg.purses k (t.purse k) } ∧
      t.bit tmgB F.TMG_PURSE_CMD.BUSY = true ∧ t = { s with tmg := t.tmg, regs := t.regs } ∧ RegsBut [tmgB + 0x200] s t) ∧
  (∀ (m : Master) (sp : BitVec 2) (i : BitVec 12) (s : State), s.reaches m (tmgB + 0x100) = true →
      s.bit tmgB F.TMG_Q_CMD.BUSY = false → (sp ≠ 1 ∨ i.toNat < 1024) →
    Does (.tmgQRead m sp i) s fun t =>
      t.regWords (tmgB + 0x104) 4 = s.qWords sp.toNat i.toNat ∧ t.bit tmgB F.TMG_Q_CMD.BUSY = true ∧
      t = { s with regs := t.regs } ∧ RegsBut [tmgB + 0x100,tmgB + 0x104,tmgB + 0x108,tmgB + 0x10C,tmgB + 0x110] s t) ∧
  (∀ (m : Master) (sp : BitVec 2) (i : BitVec 12) (s : State), s.reaches m (tmgB + 0x100) = true →
      s.bit tmgB F.TMG_Q_CMD.BUSY = false → sp ≠ 3 → (sp ≠ 1 ∨ i.toNat < 1024) →
    Does (.tmgQWrite m sp i) s fun t =>
      (sp = 0 → t.qc i.toNat = (wordsNat (s.regWords (tmgB + 0x104) 4)) ∧ t.tmg = { s.tmg with qcfg := t.tmg.qcfg }) ∧
      (sp = 1 → t.gc i.toNat = (wordsNat (s.regWords (tmgB + 0x104) 4)) % 2 ^ 64 ∧ t.tmg = { s.tmg with gcfg := t.tmg.gcfg }) ∧
      (sp = 2 → SMap.get (fun _ => 0) t.tmg.mcast i.toNat = (wordsNat (s.regWords (tmgB + 0x104) 4)) % 2 ^ 64 ∧ t.tmg = { s.tmg with mcast := t.tmg.mcast }) ∧
      (∀ j : Fin 4096, j.val ≠ i.toNat → t.qc j = s.qc j ∧ t.gc j = s.gc j) ∧ t.bit tmgB F.TMG_Q_CMD.BUSY = true ∧
      t = { s with tmg := t.tmg, regs := t.regs } ∧ RegsBut [tmgB + 0x100] s t) ∧
  (∀ (which : Fin 3) (s : State), s.live 0x28 = true →
    Does (.tmgCmdDone which) s fun t =>
      t.bit tmgB (if which = 0 then F.TMG_Q_CMD.BUSY else if which = 1 then F.TMG_PURSE_CMD.BUSY else F.TMG_GCL_CMD.BUSY) = false ∧
      t = { s with regs := t.regs } ∧
      RegsBut [tmgB + (if which = 0 then 0x100 else if which = 1 then 0x200 else 0xA00)] s t)

/-- The first ready wire source of an accepting pipeline loses its head packet, which, if its parse finds no error, is
then in a pass, unchanged in bytes, counted in flight and stored. A packet of a pass with no actions, copies or samples
and a destination leaves for the traffic manager, and one marked DROP is dropped with its reason. A packet for one
tenant queue whose on-chip test passes joins that queue, charged and counted (no PON channel in operation, no deep
buffer used). A port's chosen queue gives its head packet to the port's idle MAC, and a packet in DRAM comes back into
its queue where the budget and the buffer have room. An injected packet that waits too long is reported. Only the parts
named change. -/
def Obligations.PacketsCrossTheTrafficManager : Prop :=
  (∀ (k : Pipe) (src : Nat) (p : Packet) (rest : List Packet) (s : State), s.accepts (0x20 + k.val) = true →
      s.pickSlot k = .wire src → SMap.get (fun _ => []) (s.pipe k).wire src = p :: rest →
      (parseWalk (s.node k s.liveEpoch) p.bytes).err = none →
    Does (.pipelineSlotGrant k none) s fun t =>
      (t.pipe k).wire = SMap.set (fun _ => []) (s.pipe k).wire src rest ∧ (t.pipe k).wireLast = src + 1 ∧
      (t.pipe k).inPass.dropLast = (s.pipe k).inPass ∧ (t.pipe k).inPass.getLast?.map (·.bytes) = some p.bytes ∧
      (t.pipe k).inPass.getLast?.map (·.flight) = some true ∧
      (t.pipe k).inPass.getLast?.map (·.uid) = some (s.tmg.lastUid + 1) ∧
      t.inflightOf s.liveEpoch = s.inflightOf s.liveEpoch + 1 ∧ t.pipes = s.pipes.set k (t.pipe k) ∧
      t = { s with pipes := t.pipes, tbl := t.tbl, tmg := t.tmg, tally := t.tally, ctrs := t.ctrs, evt := t.evt, sampN := t.sampN, freeNext := t.freeNext, regs := t.regs } ∧
      RegsBut (dropRegs ++ [kB k+0x44] ++ (List.range 50).map fun p => tblB+0x204 + 8 * p) s t) ∧
  (∀ (k : Pipe) (p : Packet) (rest : List Packet) (s : State), s.live (0x20 + k.val) = true →
      (s.pipe k).inPass = p :: rest → (∀ i : Fin 12, p.w (W.ACT i) = 0) → p.wb (W.M_VALID 0) = false →
      p.wb (W.M_VALID 1) = false → s.sampArm = [] → p.wb W.DROP = false → p.wb W.T_REQ = false → p.wb W.RECIRC = false →
      p.endPass.w W.DEST / 2 ^ 14 ≠ 0 → ({ p.endPass with windowed := true }).wb W.T_REQ = false →
      s.awaitsWindow p.endPass = false → s.accepts 0x28 = true →
    Does (.endOfPass k) s fun t =>
      t.pipe k = { s.pipe k with inPass := rest } ∧ t.pipes = s.pipes.set k (t.pipe k) ∧
      t.tmg = { s.tmg with inQ := s.tmg.inQ ++ [{ ({ p.endPass with windowed := true }) with flight := false, since := s.now }] } ∧
      t.tbl = { s.tbl with inflight := t.tbl.inflight } ∧
      t = { s with pipes := t.pipes, tmg := t.tmg, tbl := t.tbl, regs := t.regs } ∧ RegsBut [tblB] s t) ∧
  (∀ (k : Pipe) (p : Packet) (rest : List Packet) (s : State), s.live (0x20 + k.val) = true →
      (s.pipe k).inPass = p :: rest → p.wb W.DROP = true → p.wb (W.M_VALID 0) = false → p.wb (W.M_VALID 1) = false →
      s.sampArm = [] → s.awaitsWindow p.endPass = false →
    Does (.endOfPass k) s fun t =>
      t.pipe k = { s.pipe k with inPass := rest } ∧ t.pipes = s.pipes.set k (t.pipe k) ∧
      t.ctrs = (s.count (kB k.val + Ctr.KP.DROPS)).ctrs ∧
      t.tally = (s.tallyAdd (0x0C + k.val) (p.w W.DROP_REASON)).tally ∧ t.tmg.inQ = s.tmg.inQ ∧
      t = { s with pipes := t.pipes, tmg := t.tmg, tbl := t.tbl, tally := t.tally, ctrs := t.ctrs, evt := t.evt, sampN := t.sampN, regs := t.regs } ∧
      RegsBut dropRegs s t) ∧
  (∀ (d : Fin 32) (s : State), s.accepts (0x20 + (if d.val < 16 then 0 else 1)) = true →
      s.hostStarved (if d.val < 16 then 0 else 1) d = true →
    Does (.hostStarveExpiry d) s fun t =>
      t.bit (kB (if d.val < 16 then 0 else 1)) F.KP_ARB_STAT.HOST_STARVED = true ∧
      t.evt = (s.raiseMs (if d.val < 16 then 0 else 1) (Ev.KP_HOST_STARVED + (if d.val < 16 then 0 else 1)) (0x20 + (if d.val < 16 then 0 else 1)) noInst [(1, d.val)]).evt ∧
      t = { s with evt := t.evt, regs := t.regs } ∧ RegsBut [kB (if d.val < 16 then 0 else 1)+0x44] s t) ∧
  (∀ (p : Packet) (rest : List Packet) (q : Nat) (s : State), s.live 0x28 = true → s.tmg.inQ = p :: rest →
      s.pickQueues p = some [q] → q < 384 → p.w W.DEST / 2 ^ 14 ≠ 2 → p.w W.COLOUR < 3 → s.portState (q / 8) ≠ 1 →
      s.deepOn q = false → s.chipTest q p.cells (p.w W.COLOUR) = none → s.sampArm = [] → s.act 0 ≠ 5 ∧ s.act 1 ≠ 5 →
      (s.bcs 0).active = [] ∧ (s.bcs 1).active = [] →
    Does .tmgEnqueue s fun t =>
      t.tmg.inQ = rest ∧ (t.q q).chip = (s.q q).chip ++ [{ p with since := s.now }] ∧
      (t.q q).cells = (s.q q).cells + p.cells ∧ t.tally = ((s.qCount q 0).qCount q 1 p.fcsLen).tally ∧
      t.tmg = { s.tmg with inQ := rest, qs := t.tmg.qs, refs := t.tmg.refs } ∧
      (∀ j : Fin 4096, j.val ≠ q → t.q j = s.q j) ∧
      t = { s with tmg := t.tmg, tally := t.tally, evt := t.evt, sampN := t.sampN, regs := t.regs } ∧
      RegsBut (pmcRegs ++ [tmgB + 0x20,tmgB + 0x2C]) s t) ∧
  (∀ (n : Port) (g : Child) (c : Child) (q : Nat) (p : Packet) (rest : List Packet) (s : State), s.live 0x28 = true →
      s.nodeReady n = true → s.portLost n = false → s.linkUp n = true →
      bestChild ((s.readyGroups n).2.map (·.1)) = some g →
      ((s.readyGroups n).2.find? fun c => decide (c.1.ix = g.ix)) = some (c, q) → (s.q q).chip = p :: rest →
      s.sampArm = [] →
    Does (.tmgDequeue (Fin.castSucc n)) s fun t =>
      (t.q q).chip = rest ∧ (t.q q).cells = (s.q q).cells - p.cells ∧
      t.port n = { s.port n with mac := some { p with cells := 0 }, tries := 0 } ∧
      (∀ j : Port, j ≠ n → t.port j = s.port j) ∧ t.tally = ((s.qCount q 2).qCount q 3 p.fcsLen).tally ∧
      t.tmg.inQ = s.tmg.inQ ∧
      t = { s with tmg := t.tmg, tq := t.tq, tally := t.tally, evt := t.evt, sampN := t.sampN, regs := t.regs } ∧
      RegsBut (pmcRegs ++ [tmgB + 0x20 + 4 * qPool q,tmgB+0x30]) s t) ∧
  (∀ (q : BitVec 12) (e : DeepPkt) (rest : List DeepPkt) (s : State), s.live 0x28 = true →
      (s.q q.toNat).deep = e :: rest → (s.q q.toNat).cells < qSPILL (s.qc q.toNat) → e.size ≤ s.rdRoom (isUpQ q.toNat) →
      e.pkt.cellLen ≤ s.freeCells →
    Does (.tmgDeepReadback q false) s fun t =>
      (t.q q.toNat).deep = rest ∧
      (t.q q.toNat).chip = (s.q q.toNat).chip ++ [{ e.pkt with cells := e.pkt.cellLen, uid := s.tmg.lastUid + 1, since := s.now }] ∧
      (t.q q.toNat).cells = (s.q q.toNat).cells + e.pkt.cellLen ∧ (∀ j : Fin 4096, j.val ≠ q.toNat → t.q j = s.q j) ∧
      t.tmg.inQ = s.tmg.inQ ∧
      t = { s with tmg := t.tmg, mem := t.mem, ctrs := t.ctrs, evt := t.evt, sampN := t.sampN, regs := t.regs } ∧
      RegsBut (pmcRegs ++ [tmgB + 0x20 + 4 * qPool q.toNat,tmgB + 0x2C,tmgB+0x30,mccB+0x10]) s t)

/-- With no operation BUSY a read command shows a standby or active entry of a channel's burst map and a write puts the
data words into the standby page; each sets BUSY, which the completion clears. A commit of a page without fault sets
PENDING; of one with a fault sets REFUSED and reports the fault. At the hand-over a page without fault becomes active,
PENDING clears, GEN counts and BC_MAP_SWITCH is raised. The composer, with no radio slot, moves the head SDU of the
queue its schedulers choose into the Till of the chosen allocation when the staging area has room, counting it. Panic is
asserted and counted when R308's conditions come to hold and cleared when they do not. Nothing else changes. -/
def Obligations.BurstMapsAndStaging : Prop :=
  (∀ (m : Master) (c : PonCh) (s : State), s.reaches m (bcB c) = true → pageFault (s.bcs c).standby = none →
    Does (.bcMapCommit m c) s fun t =>
      t.bit (bcB c) F.BC_MAP_CTRL.PENDING = true ∧ t.bit (bcB c) F.BC_MAP_CTRL.REFUSED = false ∧
      t = { s with regs := t.regs } ∧ RegsBut [bcB c.val] s t) ∧
  (∀ (m : Master) (c : PonCh) (a : Nat × Nat × Nat) (s : State), s.reaches m (bcB c) = true →
      pageFault (s.bcs c).standby = some a →
    Does (.bcMapCommit m c) s fun t =>
      t.bit (bcB c) F.BC_MAP_CTRL.PENDING = false ∧ t.bit (bcB c) F.BC_MAP_CTRL.REFUSED = true ∧
      t.evt = (s.raise (Ev.BC_MAP_REFUSED + c) (0x0A + c) noInst [(1, a.1), (1, a.2.1), (1, a.2.2)]).evt ∧
      t = { s with evt := t.evt, regs := t.regs } ∧ RegsBut [bcB c.val] s t) ∧
  (∀ (c : PonCh) (s : State), s.live (0x0A + c.val) = true → s.bit (bcB c) F.BC_MAP_CTRL.PENDING = true →
      pageFault (s.bcs c).standby = none →
    Does (.bcMapHandover c) s fun t =>
      t.bc = s.bc.set c { s.bcs c with active := (s.bcs c).standby } ∧ t.bit (bcB c) F.BC_MAP_CTRL.PENDING = false ∧
      t.bit (bcB c) F.BC_MAP_CTRL.ACTIVE = true ∧
      t.fld (bcB c) F.BC_MAP_CTRL.GEN = ((s.fld (bcB c) F.BC_MAP_CTRL.GEN + 1) % 256) ∧
      t.ctrs = (s.count (bcB c + Ctr.BC.MAP_SWITCH)).ctrs ∧
      t.evt = (s.raise (Ev.BC_MAP_SWITCH + c) (0x0A + c) noInst [(1, ((s.fld (bcB c) F.BC_MAP_CTRL.GEN + 1) % 256))]).evt ∧
      t = { s with bc := t.bc, ctrs := t.ctrs, evt := t.evt, regs := t.regs } ∧ RegsBut [bcB c.val] s t) ∧
  (∀ (m : Master) (c : PonCh) (i : BitVec 7) (s : State), s.reaches m (bcB c + 4) = true →
      s.bit (bcB c) F.BC_MAP_CMD.BUSY = false →
    Does (.bcMapReadStandby m c i) s fun t =>
      t.regWords (bcB c + 0x10) 9 = natWords 9 (SMap.get (fun _ => 0) (s.bcs c).standby i.toNat) ∧
      t.bit (bcB c) F.BC_MAP_CMD.BUSY = true ∧ t = { s with regs := t.regs } ∧
      RegsBut ([bcB c + 4] ++ (List.range 9).map fun j => bcB c + 0x10 + 4 * j) s t) ∧
  (∀ (m : Master) (c : PonCh) (i : BitVec 7) (s : State), s.reaches m (bcB c + 4) = true →
      s.bit (bcB c) F.BC_MAP_CMD.BUSY = false →
    Does (.bcMapWriteStandby m c i) s fun t =>
      t.bc = s.bc.set c { s.bcs c with standby := SMap.set (fun _ => 0) (s.bcs c).standby i.toNat (wordsNat (s.regWords (bcB c + 0x10) 9)) } ∧
      t.bit (bcB c) F.BC_MAP_CMD.BUSY = true ∧ t = { s with bc := t.bc, regs := t.regs } ∧ RegsBut [bcB c + 4] s t) ∧
  (∀ (m : Master) (c : PonCh) (i : BitVec 7) (s : State), s.reaches m (bcB c + 4) = true →
      s.bit (bcB c) F.BC_MAP_CMD.BUSY = false →
    Does (.bcMapReadActive m c i) s fun t =>
      t.regWords (bcB c + 0x10) 9 = natWords 9 (SMap.get (fun _ => 0) (s.bcs c).active i.toNat) ∧
      t.bit (bcB c) F.BC_MAP_CMD.BUSY = true ∧ t = { s with regs := t.regs } ∧
      RegsBut ([bcB c + 4] ++ (List.range 9).map fun j => bcB c + 0x10 + 4 * j) s t) ∧
  (∀ (c : PonCh) (s : State), s.live (0x0A + c.val) = true →
    Does (.bcMapCmdDone c) s fun t =>
      t.bit (bcB c) F.BC_MAP_CMD.BUSY = false ∧ t = { s with regs := t.regs } ∧ RegsBut [bcB c + 4] s t) ∧
  (∀ (c : PonCh) (a : Nat) (k : Child) (y : MapSlot) (p : Packet) (rest : List Packet) (s : State),
      s.stripeEx c = false → s.accepts (0x0A + c.val) = true →
      ((s.bcs c).active.flatMap fun e => ((mapSlots e.2).filter (·.radio)).map fun x => (e.1, x.queue)) = [] →
      ((List.range 128).foldl (fun s a => if (s.slotsOf c a).isEmpty then s else s.tagSlots c a) s).stageNext c = some a →
      bestChild (((List.range 128).foldl (fun s a => if (s.slotsOf c a).isEmpty then s else s.tagSlots c a) s).stageKids c a) = some k →
      ((s.slotsOf c a).find? fun x => decide (x.j = k.ix)) = some y → (s.q y.queue).chip = p :: rest →
      cellsOf (s.bcs c).staged + ceilDiv (xgemLen p.fcsLen) 256 ≤ 16384 - s.fld (bcB c) F.BC_TILL_CFG.RADIO_CELLS →
      s.sampArm = [] →
    Does (.tillStage c) s fun t =>
      (t.q y.queue).chip = rest ∧ (t.q y.queue).cells = (s.q y.queue).cells - p.cells ∧
      (sdusOf (t.bcs c).staged a).map (fun d => (d.pkt, d.queue, d.left)) = (sdusOf (s.bcs c).staged a).map (fun d => (d.pkt, d.queue, d.left)) ++ [({ p with cells := 0 }, y.queue, p.fcsLen)] ∧
      (t.bcs c).radio = (s.bcs c).radio ∧ t.ctrs = (s.count (bcB c + Ctr.BC.STAGED_SDU)).ctrs ∧
      t.tally = (((s.qCount y.queue 2).qCount y.queue 3 p.fcsLen).tallyAdd (0x10 + c) (16 * a + 9) (xgemLen p.fcsLen)).tally ∧
      t = { s with tmg := t.tmg, pon := t.pon, bc := t.bc, ctrs := t.ctrs, tally := t.tally, evt := t.evt, sampN := t.sampN, regs := t.regs } ∧
      RegsBut (pmcRegs ++ [bcB c+0x44,tmgB + 0x20 + 4 * qPool y.queue,tmgB+0x30]) s t) ∧
  (∀ (c : PonCh) (s : State), s.live (0x0A + c.val) = true → s.panicHolds c = false →
    Does (.bcPanicChange c) s fun t =>
      t.bit (bcB c) F.BC_TILL_STAT.PANIC = false ∧ t = { s with regs := t.regs } ∧ RegsBut [bcB c+0x44] s t) ∧
  (∀ (c : PonCh) (s : State), s.live (0x0A + c.val) = true → s.panicHolds c = true →
      s.bit (bcB c) F.BC_TILL_STAT.PANIC = false →
    Does (.bcPanicChange c) s fun t =>
      t.bit (bcB c) F.BC_TILL_STAT.PANIC = true ∧
      (∀ i : Fin 8, s.live (0x30 + i.val) = true → t.bit (mcB i) F.MC_STAT.PANIC = true) ∧
      t.ctrs = (s.count (bcB c + Ctr.BC.PANIC)).ctrs ∧
      t.evt = (s.raiseMs 0 (Ev.BC_PANIC + c) (0x0A + c) noInst [(2, s.fld (bcB c) F.BC_TILL_STAT.STAGE_USED)]).evt ∧
      t = { s with ctrs := t.ctrs, evt := t.evt, regs := t.regs } ∧
      RegsBut ([bcB c+0x44] ++ (List.range 8).map fun i => mcB i+0x4) s t)

/-- A BWmap entry of the device whose grant passes every row of R124 adds a burst with the times R114 and R115 give to
the schedule (not a serial-number grant, and not the map's last entry); one with a bad HEC counts BWMAP_HEC. At its
cut-off the next allocation's content is fixed. With every content fixed the next burst, its use allowed and its PLOAMu
empty, starts at its first bit, counted, with BEN asserted LEAD before it unless it was held, and its check due; the
only burst leaves at its end, and BEN falls LAG later. BEN_MON seen without BEN for longer than WIN, with no burst
scheduled, latches ROGUE and its inhibit, counted and reported, and takes BEN off; ROGUE_CLR after 1 ms of quiet clears
both; the Steward in RUN disables and enables the optics with it. The earliest due BEN_MON check resets or counts the
misses in a row, and the third and each further one is reported. Only the parts named change, beside what passing time
changes. -/
def Obligations.BurstsFollowTheirGrants : Prop :=
  (∀ (c : PonCh) (e : BwEntry) (ix : Nat) (s : State), s.live (0x08 + c.val) = true → s.align c = 2 →
      (s.pn c).fsLost = false ∧ (s.pn c).bwLost = false → e.hecOk = true ∧ e.last = false ∧ e.fwi = false →
      s.entryIx c e.allocId.toNat = some ix → s.grantUse c ix ≠ 0 →
      s.mayAnswer c (s.grantUse c ix) e.ploamu false = true → s.pf c F.PN_US_STAT.PS ≠ 3 →
      e.start.toNat < granulesPerFrame (s.xgs c) ∧ e.start.toNat ≠ 0xFFFF →
      profValid ((s.pn c).profUse.getD e.profile.toNat 0) = true →
      (s.xgs c = true ∨ profRate ((s.pn c).profUse.getD e.profile.toNat 0) ≤ s.rateMax c) →
      s.units + 2000 * nsUnits ≤ (((s.pn c).tRef * tickUnits + roundUi (tiRui + (s.pn c).eqdUse + e.start.toNat * (granule (s.xgs c))) (uiRui (if s.xgs c then 3 else profRate ((s.pn c).profUse.getD e.profile.toNat 0))) * ruiUnits) - profPsbu ((s.pn c).profUse.getD e.profile.toNat 0) * 8 * uiRui (if s.xgs c then 3 else profRate ((s.pn c).profUse.getD e.profile.toNat 0)) * ruiUnits) →
      s.overlaps c (((s.pn c).tRef * tickUnits + roundUi (tiRui + (s.pn c).eqdUse + e.start.toNat * (granule (s.xgs c))) (uiRui (if s.xgs c then 3 else profRate ((s.pn c).profUse.getD e.profile.toNat 0))) * ruiUnits) - profPsbu ((s.pn c).profUse.getD e.profile.toNat 0) * 8 * uiRui (if s.xgs c then 3 else profRate ((s.pn c).profUse.getD e.profile.toNat 0)) * ruiUnits) (((s.pn c).tRef * tickUnits + roundUi (tiRui + (s.pn c).eqdUse + e.start.toNat * (granule (s.xgs c))) (uiRui (if s.xgs c then 3 else profRate ((s.pn c).profUse.getD e.profile.toNat 0))) * ruiUnits) + e.size.toNat * (granule (s.xgs c)) * ruiUnits) = false →
    Does (.bwmapEntry c e) s fun t =>
      t.pn c = { s.pn c with prevOk := true, bursts := (s.pn c).bursts ++ [{ use := s.grantUse c ix, rate := (if s.xgs c then 3 else profRate ((s.pn c).profUse.getD e.profile.toNat 0)), fec := profFec ((s.pn c).profUse.getD e.profile.toNat 0), start := (((s.pn c).tRef * tickUnits + roundUi (tiRui + (s.pn c).eqdUse + e.start.toNat * (granule (s.xgs c))) (uiRui (if s.xgs c then 3 else profRate ((s.pn c).profUse.getD e.profile.toNat 0))) * ruiUnits) - profPsbu ((s.pn c).profUse.getD e.profile.toNat 0) * 8 * uiRui (if s.xgs c then 3 else profRate ((s.pn c).profUse.getD e.profile.toNat 0)) * ruiUnits), hdr := ((s.pn c).tRef * tickUnits + roundUi (tiRui + (s.pn c).eqdUse + e.start.toNat * (granule (s.xgs c))) (uiRui (if s.xgs c then 3 else profRate ((s.pn c).profUse.getD e.profile.toNat 0))) * ruiUnits), fin := (((s.pn c).tRef * tickUnits + roundUi (tiRui + (s.pn c).eqdUse + e.start.toNat * (granule (s.xgs c))) (uiRui (if s.xgs c then 3 else profRate ((s.pn c).profUse.getD e.profile.toNat 0))) * ruiUnits) + e.size.toNat * (granule (s.xgs c)) * ruiUnits), lead := s.pf c F.PN_BEN_CFG.LEAD * 15552, lag := s.pf c F.PN_BEN_CFG.LAG * 15552, minOff := s.pf c F.PN_BEN_CFG.MIN_OFF * 4 * nsUnits, allocs := [{ ix, allocId := e.allocId.toNat, size := e.size.toNat, dbru := e.dbru, ploamu := e.ploamu, cap := 0, due := ((s.pn c).tRef * tickUnits + roundUi (tiRui + (s.pn c).eqdUse + e.start.toNat * (granule (s.xgs c))) (uiRui (if s.xgs c then 3 else profRate ((s.pn c).profUse.getD e.profile.toNat 0))) * ruiUnits), content := none }], delay := 0, gasp := s.bit (pnB c) F.PN_US_STAT.GASP, sized := false, started := false, preamble := bits ((s.pn c).profUse.getD e.profile.toNat 0) 15 4, delim := bits ((s.pn c).profUse.getD e.profile.toNat 0) 3 0, onuId := 0, ploam := none, queued := false, indQ := false, indRdi := false, hec := 0, bip := 0 }] } ∧
      t.pon = s.pon.set c (t.pn c) ∧ t = { s with pon := t.pon }) ∧
  (∀ (c : PonCh) (e : BwEntry) (s : State), s.live (0x08 + c.val) = true → s.align c = 2 →
      (s.pn c).fsLost = false ∧ (s.pn c).bwLost = false → e.hecOk = false ∧ e.last = false →
    Does (.bwmapEntry c e) s fun t =>
      t.pon = s.pon.set c { s.pn c with prevOk := false } ∧ t.ctrs = (s.count (pnB c + Ctr.PN.BWMAP_HEC)).ctrs ∧
      t = { s with pon := t.pon, ctrs := t.ctrs }) ∧
  (∀ (c : PonCh) (b : Burst) (i : Nat) (u : Nat) (s : State), s.live (0x0A + c.val) = true → s.nextFix c = some (b, i, u) →
    Does (.allocCutoff c) s fun t =>
      ((t.pn c).bursts.map (fun x => (x.start, x.hdr, x.fin, x.use, x.allocs.length)) = (s.pn c).bursts.map fun x => (x.start, x.hdr, x.fin, x.use, x.allocs.length)) ∧
      ((t.pn c).bursts.any fun x => decide (x.hdr = b.hdr) && (x.allocs[i]?).any fun a => a.content.isSome) = true ∧
      t.pon = s.pon.set c (t.pn c) ∧ t.bc = s.bc.set c (t.bcs c) ∧
      t = { (s.toUnits u) with pon := t.pon, bc := t.bc, tmg := t.tmg, ctrs := t.ctrs, tally := t.tally, evt := t.evt, sampN := t.sampN, freeNext := t.freeNext, regs := t.regs } ∧
      RegsBut (pmcRegs ++ [bcB c+0x44,tmgB + 0x20,tmgB + 0x24,tmgB + 0x28,tmgB+0x30]) (s.toUnits u) t) ∧
  (∀ (c : PonCh) (b : Burst) (s : State), s.live (0x08 + c.val) = true → s.nextBurst c = some b →
      s.maySend c b.use = true → s.nextFix c = none → s.pf c F.PN_US_STAT.PS ≠ 3 → b.ploam = none →
    Does (.burstLaunch c) s fun t =>
      t.pon = s.pon.set c { s.pn c with benFrom := if (decide ((s.pn c).benFrom.isSome ∧ (s.pn c).benTill = none)) then (s.pn c).benFrom else some (b.start - b.lead), benTill := none, benDue := (s.pn c).benDue ++ [(b.start - b.lead)], bursts := (s.pn c).bursts.map fun x => if x = b then { b with started := true } else x } ∧
      t.out = (if (decide ((s.pn c).benFrom.isSome ∧ (s.pn c).benTill = none)) then s.out else s.out ++ [.ben c (!s.bit (pnB c) F.PN_BEN_CFG.POL) (b.start - b.lead)]) ∧
      t.ctrs = ((s.toUnits b.start).count (pnB c + Ctr.PN.BURSTS_TX)).ctrs ∧
      t = { (s.toUnits b.start) with pon := t.pon, ctrs := t.ctrs, out := t.out }) ∧
  (∀ (c : PonCh) (b : Burst) (s : State), s.live (0x08 + c.val) = true → (s.pn c).bursts = [b] → b.started = true →
      s.nextFix c = none → (s.pn c).benFrom.isSome = true ∧ (s.pn c).benTill = none →
    Does (.burstEnd c) s fun t =>
      t.pon = s.pon.set c { s.pn c with bursts := [], benTill := some (b.fin + b.lag) } ∧
      t.out = s.out ++ [.burst c b false, .ben c (s.bit (pnB c) F.PN_BEN_CFG.POL) (b.fin + b.lag)] ∧
      t = { (s.toUnits b.fin) with pon := t.pon, ctrs := t.ctrs, tally := t.tally, out := t.out, evt := t.evt, sampN := t.sampN, regs := t.regs } ∧
      RegsBut pmcRegs (s.toUnits b.fin) t) ∧
  (∀ (c : PonCh) (ns : Nat) (s : State), s.live (0x08 + c.val) = true → s.bit (pnB c) F.PN_ROGUE_CFG.ENABLE = true →
      s.bit (pnB c) F.PN_US_STAT.ROGUE = false → max 1 (s.fld (pnB c) F.PN_ROGUE_CFG.WIN) < ns → (s.pn c).bursts = [] →
    Does (.rogueDetect c ns) s fun t =>
      t.bit (pnB c) F.PN_US_STAT.ROGUE = true ∧ ((s.inh c).testBit 0 = true ∨ t.inh c = s.inh c + 1) ∧
      (t.inh c).testBit 0 = true ∧ t.bit (pnB c) F.PN_US_STAT.TX_ON = false ∧
      t.pon = s.pon.set c { s.pn c with benTill := if (decide ((s.pn c).benFrom.isSome ∧ (s.pn c).benTill = none)) then some s.units else (s.pn c).benTill } ∧
      t.stw = (if (decide (s.fld stwB F.STW_STAT.STATE = 1 ∧ s.stw.opticsOff.get (chIx c) = false)) then { s.stw with opticsOff := s.stw.opticsOff.set (chIx c) true } else s.stw) ∧
      t.out = s.out ++ (if (decide (s.fld stwB F.STW_STAT.STATE = 1 ∧ s.stw.opticsOff.get (chIx c) = false)) then [.opticsTx c true] else []) ++ (if (decide ((s.pn c).benFrom.isSome ∧ (s.pn c).benTill = none)) then [.ben c (s.bit (pnB c) F.PN_BEN_CFG.POL) s.units] else []) ∧
      t.ctrs = (s.count (pnB c + Ctr.PN.ROGUE)).ctrs ∧
      t.evt = (s.raise (Ev.PN_ROGUE + 13 * c) (0x08 + c) noInst [(2, min 0xFFFF ns)]).evt ∧
      t = { s with pon := t.pon, ctrs := t.ctrs, evt := t.evt, stw := t.stw, out := t.out, regs := t.regs } ∧
      RegsBut [pnB c+0x104] s t) ∧
  (∀ (c : PonCh) (active : Bool) (at_ : Nat) (rest : List Nat) (s : State), s.live (0x08 + c.val) = true →
      (s.pn c).benDue = at_ :: rest → s.bit (pnB c) F.PN_ROGUE_CFG.ENABLE = true →
    Does (.benMissCheck c active) s fun t =>
      t.pon = s.pon.set c { s.pn c with benMisses := if active then 0 else (s.pn c).benMisses + 1, benDue := rest } ∧
      t.ctrs = (if active then (s.toUnits (s.benCheckAt c at_)).ctrs else ((s.toUnits (s.benCheckAt c at_)).count (pnB c + Ctr.PN.BEN_MISS)).ctrs) ∧
      (active = true ∨ (s.pn c).benMisses < 2 → t.evt = (s.toUnits (s.benCheckAt c at_)).evt) ∧
      (active = false ∧ 2 ≤ (s.pn c).benMisses → t.evt = ((s.toUnits (s.benCheckAt c at_)).raiseMs 0 (Ev.PN_BEN_MISS + 13 * c) (0x08 + c) noInst [(2, t.ctr (pnB c + Ctr.PN.BEN_MISS))]).evt) ∧
      t = { (s.toUnits (s.benCheckAt c at_)) with pon := t.pon, ctrs := t.ctrs, evt := t.evt }) ∧
  (∀ (m : Master) (c : PonCh) (s : State), s.reaches m (pnB c + 0x100) = true → s.bit (pnB c) F.PN_US_STAT.ROGUE = true →
      (s.inh c).testBit 0 = true →
    Does (.rogueClr m c true) s fun t =>
      t.bit (pnB c) F.PN_US_STAT.ROGUE = false ∧ t.inh c = s.inh c - 1 ∧
      t.stw.opticsOff = (if s.fld stwB F.STW_STAT.STATE = 1 then s.stw.opticsOff.set (chIx c) false else s.stw.opticsOff) ∧
      t.stw = { s.stw with opticsOff := t.stw.opticsOff } ∧
      t.bit (pnB c) F.PN_US_STAT.TX_ON = (decide (3 ≤ s.act c) && decide (s.act c ≤ 5) && decide (s.inh c = 1) && decide (s.pf c F.PN_US_STAT.PS ≠ 3)) ∧
      t.pon = s.pon.set c { s.pn c with benTill := if ((t.bit (pnB c) F.PN_US_STAT.TX_ON == false && !((s.pn c).bursts.any (·.started)) && (s.pn c).benFrom.isSome && (s.pn c).benTill.isNone)) then some s.units else (s.pn c).benTill } ∧
      t.out = s.out ++ (if ((t.bit (pnB c) F.PN_US_STAT.TX_ON == false && !((s.pn c).bursts.any (·.started)) && (s.pn c).benFrom.isSome && (s.pn c).benTill.isNone)) then [.ben c (s.bit (pnB c) F.PN_BEN_CFG.POL) s.units] else []) ++ (if t.stw.opticsOff = s.stw.opticsOff then [] else [.opticsTx c false]) ∧
      t = { s with pon := t.pon, out := t.out, stw := t.stw, regs := t.regs } ∧ RegsBut [pnB c + 0x100,pnB c+0x104] s t)

/-- A PLOAM message that addresses the ONU or all, with a good MIC, in SYNC, counts as own and handled. Burst_Profile of
a supported rate is stored at its index, valid, and moves O1.2 to O2-3; of an unsupported rate it is stored not valid
and counted. Assign_ONU-ID for this serial number in O2-3 stores the ONU-ID, the OMCC and the default allocation and
enters O4, whose timer TO1 starts. Ranging_Time in range stores EqD (absolute, or added to the old), raises PN_RANGED
and enters O5 from O4; out of range it is answered with a parameter error. Deactivate_ONU-ID in O4 or O5 clears the
engine to O1.1, and on to O1.2 in SYNC; Disable_Serial_Number for this serial number clears it to O7 with an emergency
record, and enabling leaves O7. Clearing forgets the ONU-ID, OMCC, EqD, allocations, key exchange and the keys of its
slots; the engine being lost moves the service state as R155 gives. With no stripe context and the servo not on this
channel, nothing else changes. -/
def Obligations.ActivationMessages : Prop :=
  (∀ (c : PonCh) (x : PloamIn) (ix rate : Fin 4) (fec : Bool) (preamble : BitVec 12) (delim : BitVec 4) (s : State),
      s.live (0x08 + c.val) = true → s.align c = 2 → (s.pn c).fsLost = false →
      (x.to_.toNat = s.pf c F.PN_US_STAT.ONU_ID ∨ x.to_.toNat = 0x3FF) → s.ploamMicOk c x.raw = true →
      (s.pn c).marked x.span = false → s.bit (pnB c) F.PN_OSP_CFG.PLOAM_COPY = false →
      (s.xgs c = true ∨ rate.val ≤ s.rateMax c) → s.act c ≠ 2 →
    Does (.ploamBurstProfile c x ix rate fec preamble delim) s fun t =>
      t.reg (pnB c + 0x190 + 4 * ix.val) = BitVec.ofNat 32 (2 ^ 31 + rate.val * 2 ^ 29 + b2n fec * 2 ^ 28 + preamble.toNat * 16 + delim.toNat) ∧
      t.ctrs = ((s.pCount c Ctr.PN.PLOAM_OWN).pCount c Ctr.PN.PLOAM_HW).ctrs ∧
      t = { s with ctrs := t.ctrs, regs := t.regs } ∧ RegsBut [pnB c.val+0x190+4*ix.val] s t) ∧
  (∀ (c : PonCh) (x : PloamIn) (ix rate : Fin 4) (fec : Bool) (preamble : BitVec 12) (delim : BitVec 4) (s : State),
      s.live (0x08 + c.val) = true → s.align c = 2 → (s.pn c).fsLost = false →
      (x.to_.toNat = s.pf c F.PN_US_STAT.ONU_ID ∨ x.to_.toNat = 0x3FF) → s.ploamMicOk c x.raw = true →
      (s.pn c).marked x.span = false → s.bit (pnB c) F.PN_OSP_CFG.PLOAM_COPY = false →
      (s.xgs c = true ∨ rate.val ≤ s.rateMax c) → s.act c = 2 →
    Does (.ploamBurstProfile c x ix rate fec preamble delim) s fun t =>
      t.act c = 3 ∧
      t.reg (pnB c + 0x190 + 4 * ix.val) = BitVec.ofNat 32 (2 ^ 31 + rate.val * 2 ^ 29 + b2n fec * 2 ^ 28 + preamble.toNat * 16 + delim.toNat) ∧
      t.ctrs = ((s.pCount c Ctr.PN.PLOAM_OWN).pCount c Ctr.PN.PLOAM_HW).ctrs ∧
      t.evt = (s.pRaise c 13 Ev.PN_ACT_STATE [(1, 2), (1, 3), (1, 2)]).evt ∧ BenOnly c s t ∧
      t = { s with pon := t.pon, out := t.out, ctrs := t.ctrs, evt := t.evt, timers := t.timers, regs := t.regs } ∧
      TimersBut [Tm.to1 c,Tm.to2 c] s t ∧ RegsBut [pnB c.val+0x190+4*ix.val,pnB c.val+0x104,pnB c.val+0x1a0] s t) ∧
  (∀ (c : PonCh) (x : PloamIn) (ix rate : Fin 4) (fec : Bool) (preamble : BitVec 12) (delim : BitVec 4) (s : State),
      s.live (0x08 + c.val) = true → s.align c = 2 → (s.pn c).fsLost = false →
      (x.to_.toNat = s.pf c F.PN_US_STAT.ONU_ID ∨ x.to_.toNat = 0x3FF) → s.ploamMicOk c x.raw = true →
      (s.pn c).marked x.span = false → s.bit (pnB c) F.PN_OSP_CFG.PLOAM_COPY = false → s.xgs c = false →
      s.rateMax c < rate.val →
    Does (.ploamBurstProfile c x ix rate fec preamble delim) s fun t =>
      t.reg (pnB c + 0x190 + 4 * ix.val) = BitVec.ofNat 32 (rate.val * 2 ^ 29 + b2n fec * 2 ^ 28 + preamble.toNat * 16 + delim.toNat) ∧
      t.ctrs = (((s.pCount c Ctr.PN.PLOAM_OWN).pCount c Ctr.PN.PLOAM_HW).pCount c Ctr.PN.PLOAM_UNSUP).ctrs ∧
      t = { s with ctrs := t.ctrs, regs := t.regs } ∧ RegsBut [pnB c.val+0x190+4*ix.val] s t) ∧
  (∀ (c : PonCh) (x : PloamIn) (sn : BitVec 64) (onuId : BitVec 10) (s : State), s.live (0x08 + c.val) = true →
      s.align c = 2 → (s.pn c).fsLost = false → (x.to_.toNat = s.pf c F.PN_US_STAT.ONU_ID ∨ x.to_.toNat = 0x3FF) →
      s.ploamMicOk c x.raw = true → (s.pn c).marked x.span = false → s.bit (pnB c) F.PN_OSP_CFG.PLOAM_COPY = false →
      s.act c = 3 → sn.toNat = s.serialNat c →
    Does (.ploamAssignOnuId c x sn onuId) s fun t =>
      t.act c = 4 ∧ t.pf c F.PN_US_STAT.ONU_ID = onuId.toNat ∧ t.pf c F.PN_OMCC.PORT_ID = onuId.toNat ∧
      t.bit (pnB c) F.PN_OMCC.VALID = true ∧
      (t.pn c).allocs = SMap.set (fun _ => none) (s.pn c).allocs 0 (some (0, onuId.toNat)) ∧
      SMap.get (fun _ => 0) t.timers (Tm.to1 c) = s.now + max 1 (s.pf c F.PN_ACT_CFG.TO1) * msTicks + 1 ∧
      t.evt = (s.pRaise c 13 Ev.PN_ACT_STATE [(1, 3), (1, 4), (1, 3)]).evt ∧ t.pn (1 - c.val) = s.pn (1 - c.val) ∧
      BenRests c s t ∧
      t = { s with out := t.out, pon := t.pon, bc := t.bc, tally := t.tally, ctrs := t.ctrs, evt := t.evt, timers := t.timers, regs := t.regs } ∧
      TimersBut [Tm.to1 c,Tm.to2 c] s t ∧ RegsBut [pnB c.val+0x104,pnB c.val+0x1a0,pnB c.val+0x38,bcB c.val+0x44] s t) ∧
  (∀ (c : PonCh) (x : PloamIn) (relative : Bool) (eqd : Int) (s : State), s.live (0x08 + c.val) = true → s.align c = 2 →
      (s.pn c).fsLost = false → (x.to_.toNat = s.pf c F.PN_US_STAT.ONU_ID ∨ x.to_.toNat = 0x3FF) →
      s.ploamMicOk c x.raw = true → (s.pn c).marked x.span = false → s.bit (pnB c) F.PN_OSP_CFG.PLOAM_COPY = false →
      s.act c = 5 →
      0 ≤ (eqd * s.pf c (if s.xgs c then F.PN_EQD_CFG.UNIT_XGS else F.PN_EQD_CFG.UNIT_50G) + (if relative then (s.pf c F.PN_EQD.EQD : Int) else 0)) →
      (eqd * s.pf c (if s.xgs c then F.PN_EQD_CFG.UNIT_XGS else F.PN_EQD_CFG.UNIT_50G) + (if relative then (s.pf c F.PN_EQD.EQD : Int) else 0)) ≤ 33554431 →
    Does (.ploamRangingTime c x relative eqd) s fun t =>
      (t.pf c F.PN_EQD.EQD : Int) = (eqd * s.pf c (if s.xgs c then F.PN_EQD_CFG.UNIT_XGS else F.PN_EQD_CFG.UNIT_50G) + (if relative then (s.pf c F.PN_EQD.EQD : Int) else 0)) ∧
      t.bit (pnB c) F.PN_EQD.VALID = true ∧ t.tim = { s.tim with rangedSince := s.tim.rangedSince.set c true } ∧
      t.evt = (s.pRaise c 13 Ev.PN_RANGED [(4, ((eqd * s.pf c (if s.xgs c then F.PN_EQD_CFG.UNIT_XGS else F.PN_EQD_CFG.UNIT_50G) + (if relative then (s.pf c F.PN_EQD.EQD : Int) else 0))).toNat)]).evt ∧
      (x.ack = false → t.pon = s.pon ∧ t.ctrs = ((s.pCount c Ctr.PN.PLOAM_OWN).pCount c Ctr.PN.PLOAM_HW).ctrs) ∧
      (x.ack = true → t.pon = (s.hwPloam c (.ack 0)).pon) ∧
      t = { s with tim := t.tim, pon := t.pon, ctrs := t.ctrs, evt := t.evt, regs := t.regs } ∧
      RegsBut [pnB c.val+0x150] s t) ∧
  (∀ (c : PonCh) (x : PloamIn) (relative : Bool) (eqd : Int) (s : State), s.live (0x08 + c.val) = true → s.align c = 2 →
      (s.pn c).fsLost = false → (x.to_.toNat = s.pf c F.PN_US_STAT.ONU_ID ∨ x.to_.toNat = 0x3FF) →
      s.ploamMicOk c x.raw = true → (s.pn c).marked x.span = false → s.bit (pnB c) F.PN_OSP_CFG.PLOAM_COPY = false →
      s.act c = 4 →
      0 ≤ (eqd * s.pf c (if s.xgs c then F.PN_EQD_CFG.UNIT_XGS else F.PN_EQD_CFG.UNIT_50G) + (if relative then (s.pf c F.PN_EQD.EQD : Int) else 0)) →
      (eqd * s.pf c (if s.xgs c then F.PN_EQD_CFG.UNIT_XGS else F.PN_EQD_CFG.UNIT_50G) + (if relative then (s.pf c F.PN_EQD.EQD : Int) else 0)) ≤ 33554431 →
    Does (.ploamRangingTime c x relative eqd) s fun t =>
      t.act c = 5 ∧
      (t.pf c F.PN_EQD.EQD : Int) = (eqd * s.pf c (if s.xgs c then F.PN_EQD_CFG.UNIT_XGS else F.PN_EQD_CFG.UNIT_50G) + (if relative then (s.pf c F.PN_EQD.EQD : Int) else 0)) ∧
      t.bit (pnB c) F.PN_EQD.VALID = true ∧ t.tim = { s.tim with rangedSince := s.tim.rangedSince.set c true } ∧
      (t.pn c).sleepOn = false ∧ t.timerOn (Tm.to1 c) = false ∧ (t.svc c = if s.svc c = 3 then 0 else s.svc c) ∧
      t.pn (1 - c.val) = s.pn (1 - c.val) ∧ BenRests c s t ∧
      t = { s with out := t.out, tim := t.tim, pon := t.pon, bc := t.bc, tally := t.tally, ctrs := t.ctrs, evt := t.evt, timers := t.timers, regs := t.regs } ∧
      TimersBut [Tm.to1 c,Tm.to2 c,Tm.ps c,Tm.drainTo c] s t ∧
      RegsBut [pnB c.val+0x104,pnB c.val+0x1a0,pnB c.val+0x150,bcB c.val+0x44] s t) ∧
  (∀ (c : PonCh) (x : PloamIn) (relative : Bool) (eqd : Int) (s : State), s.live (0x08 + c.val) = true → s.align c = 2 →
      (s.pn c).fsLost = false → (x.to_.toNat = s.pf c F.PN_US_STAT.ONU_ID ∨ x.to_.toNat = 0x3FF) →
      s.ploamMicOk c x.raw = true → (s.pn c).marked x.span = false → s.bit (pnB c) F.PN_OSP_CFG.PLOAM_COPY = false →
      (s.act c = 4 ∨ s.act c = 5) →
      ((eqd * s.pf c (if s.xgs c then F.PN_EQD_CFG.UNIT_XGS else F.PN_EQD_CFG.UNIT_50G) + (if relative then (s.pf c F.PN_EQD.EQD : Int) else 0)) < 0 ∨ 33554431 < (eqd * s.pf c (if s.xgs c then F.PN_EQD_CFG.UNIT_XGS else F.PN_EQD_CFG.UNIT_50G) + (if relative then (s.pf c F.PN_EQD.EQD : Int) else 0))) →
    Does (.ploamRangingTime c x relative eqd) s fun t =>
      t.pon = (s.hwPloam c (.ack 3)).pon ∧ t.evt = (s.ploamReject c 2 x.typ.toNat).evt ∧
      t = { s with pon := t.pon, ctrs := t.ctrs, evt := t.evt }) ∧
  (∀ (c : PonCh) (x : PloamIn) (s : State), s.live (0x08 + c.val) = true → s.align c = 2 → (s.pn c).fsLost = false →
      (x.to_.toNat = s.pf c F.PN_US_STAT.ONU_ID ∨ x.to_.toNat = 0x3FF) → s.ploamMicOk c x.raw = true →
      (s.pn c).marked x.span = false → s.bit (pnB c) F.PN_OSP_CFG.PLOAM_COPY = false → (s.act c = 4 ∨ s.act c = 5) →
      s.tlr.stripes = [] → s.servoSrc ≠ c + 1 → (s.vlt.waits = [] ∧ ∀ n ∈ (s.pn c).filled, s.keyHolders n = []) →
    Does (.ploamDeactivateOnuId c x) s fun t =>
      t.act c = 2 ∧ t.pf c F.PN_US_STAT.ONU_ID = 0x3FF ∧ t.bit (pnB c) F.PN_OMCC.VALID = false ∧
      t.bit (pnB c) F.PN_EQD.VALID = false ∧ t.pf c F.PN_EQD.EQD = 0 ∧ (t.pn c).allocs = [] ∧ (t.pn c).keyWaits = [] ∧
      (t.pn c).usKey = 0 ∧ (∀ n ∈ (s.pn c).filled, t.slot n = none) ∧ t.timerOn (Tm.to1 c) = false ∧
      t.svc c = (if 2 ≤ s.svc c then s.svc c else if s.pf c F.PN_SVC_CTRL.WANT = 1 then 3 else 2) ∧
      t.pn (1 - c.val) = s.pn (1 - c.val) ∧ BenRests c s t ∧
      t = { s with out := t.out, pon := t.pon, bc := t.bc, slots := t.slots, tally := t.tally, ctrs := t.ctrs, evt := t.evt, timers := t.timers, regs := t.regs } ∧
      TimersBut [Tm.to1 c,Tm.to2 c,Tm.ps c,Tm.drainTo c] s t ∧
      RegsBut [vltB+0x0,pnB c.val+0x104,pnB c.val+0x38,pnB c.val+0x150,pnB c.val+0x1a0,pnB c.val+0x10c,bcB c.val+0x44] s t) ∧
  (∀ (c : PonCh) (x : PloamIn) (sn : BitVec 64) (s : State), s.live (0x08 + c.val) = true → s.align c = 2 →
      (s.pn c).fsLost = false → (x.to_.toNat = s.pf c F.PN_US_STAT.ONU_ID ∨ x.to_.toNat = 0x3FF) →
      s.ploamMicOk c x.raw = true → (s.pn c).marked x.span = false → s.bit (pnB c) F.PN_OSP_CFG.PLOAM_COPY = false →
      2 ≤ s.act c → s.act c ≤ 6 → sn.toNat = s.serialNat c → s.tlr.stripes = [] → s.servoSrc ≠ c + 1 →
      (s.vlt.waits = [] ∧ ∀ n ∈ (s.pn c).filled, s.keyHolders n = []) →
    Does (.ploamDisableSerialNumber c x false false sn) s fun t =>
      t.act c = 7 ∧ (t.pn c).estop = true ∧ t.pf c F.PN_US_STAT.ONU_ID = 0x3FF ∧ t.bit (pnB c) F.PN_OMCC.VALID = false ∧
      t.bit (pnB c) F.PN_EQD.VALID = false ∧ (t.pn c).allocs = [] ∧ (∀ n ∈ (s.pn c).filled, t.slot n = none) ∧
      t.svc c = (if 2 ≤ s.svc c then s.svc c else if s.pf c F.PN_SVC_CTRL.WANT = 1 then 3 else 2) ∧
      t.pn (1 - c.val) = s.pn (1 - c.val) ∧ BenRests c s t ∧
      t = { s with out := t.out, pon := t.pon, bc := t.bc, slots := t.slots, tally := t.tally, ctrs := t.ctrs, evt := t.evt, timers := t.timers, regs := t.regs } ∧
      TimersBut [Tm.to1 c,Tm.to2 c,Tm.ps c,Tm.drainTo c] s t ∧
      RegsBut [vltB+0x0,pnB c.val+0x104,pnB c.val+0x38,pnB c.val+0x150,pnB c.val+0x1a0,pnB c.val+0x10c,bcB c.val+0x44] s t) ∧
  (∀ (c : PonCh) (x : PloamIn) (all : Bool) (sn : BitVec 64) (s : State), s.live (0x08 + c.val) = true → s.align c = 2 →
      (s.pn c).fsLost = false → (x.to_.toNat = s.pf c F.PN_US_STAT.ONU_ID ∨ x.to_.toNat = 0x3FF) →
      s.ploamMicOk c x.raw = true → (s.pn c).marked x.span = false → s.bit (pnB c) F.PN_OSP_CFG.PLOAM_COPY = false →
      s.act c = 7 → (all || decide (sn.toNat = s.serialNat c)) = true → 2 ≤ s.svc c →
    Does (.ploamDisableSerialNumber c x true all sn) s fun t =>
      t.act c = 2 ∧ (t.pn c).estop = false ∧ t.pn (1 - c.val) = s.pn (1 - c.val) ∧ BenRests c s t ∧
      t = { s with out := t.out, pon := t.pon, ctrs := t.ctrs, evt := t.evt, timers := t.timers, regs := t.regs } ∧
      TimersBut [Tm.to1 c,Tm.to2 c,Tm.drainTo c] s t ∧
      RegsBut [pnB c.val+0x104,pnB c.val+0x1a0,pnB c.val+0x10c,bcB c.val+0x44] s t)

/-- TO1 running out in O4, TO2 in O6 and a write of RESTART clear the engine to O1.1 (O1.2 in SYNC; O7 on RESTART with
an emergency record), as Deactivate does. A write of TX_OFF in IN sets or clears INH bit 3, and where inhibit starts the
bursts not started are cancelled. WANT = 0 in IN starts DRAIN with its timer unless the other channel is not IN and
FORCE is 0, when it is refused and reported; WANT = 1 returns DRAIN to IN, and restarts activation from OUT into RETURN.
An empty Till ends DRAIN in OUT with TX_OFF set, and so does DRAIN_TO, which discards the Till. THOLD ends ActiveHeld in
ActiveFree, TAWARE WatchAware in Watch with the transmitter off, ILOWPOWER Watch in WatchAware, and LWI wakes with a
Sleep_Request(Awake). Under the stated conditions nothing else changes beside what passing time changes. -/
def Obligations.EngineClearsServiceDrainsSleepCycles : Prop :=
  (∀ (c : PonCh) (s : State), s.live (0x08 + c.val) = true → s.timerOn (Tm.to1 c) = true → s.act c = 4 →
      s.tlr.stripes = [] → s.servoSrc ≠ c + 1 → (s.vlt.waits = [] ∧ ∀ n ∈ (s.pn c).filled, s.keyHolders n = []) →
    Does (.to1Expiry c) s fun t =>
      (t.act c = if s.align c = 2 then 2 else 1) ∧ t.pf c F.PN_US_STAT.ONU_ID = 0x3FF ∧
      t.bit (pnB c) F.PN_OMCC.VALID = false ∧ t.bit (pnB c) F.PN_EQD.VALID = false ∧ t.pf c F.PN_EQD.EQD = 0 ∧
      (t.pn c).allocs = [] ∧ (∀ n ∈ (s.pn c).filled, t.slot n = none) ∧ t.timerOn (Tm.to1 c) = false ∧
      t.svc c = (if 2 ≤ s.svc c then s.svc c else if s.pf c F.PN_SVC_CTRL.WANT = 1 then 3 else 2) ∧
      t.pn (1 - c.val) = s.pn (1 - c.val) ∧ BenRests c (s.atEnd (Tm.to1 c)) t ∧
      t = { (s.atEnd (Tm.to1 c)) with out := t.out, pon := t.pon, bc := t.bc, slots := t.slots, tally := t.tally, ctrs := t.ctrs, evt := t.evt, timers := t.timers, regs := t.regs } ∧
      TimersBut [Tm.to1 c,Tm.to2 c,Tm.ps c,Tm.drainTo c] (s.atEnd (Tm.to1 c)) t ∧
      RegsBut [vltB+0x0,pnB c.val+0x104,pnB c.val+0x38,pnB c.val+0x150,pnB c.val+0x1a0,pnB c.val+0x10c,bcB c.val+0x44] (s.atEnd (Tm.to1 c)) t) ∧
  (∀ (c : PonCh) (s : State), s.live (0x08 + c.val) = true → s.timerOn (Tm.to2 c) = true → s.act c = 6 →
      s.tlr.stripes = [] → s.servoSrc ≠ c + 1 → (s.vlt.waits = [] ∧ ∀ n ∈ (s.pn c).filled, s.keyHolders n = []) →
    Does (.to2Expiry c) s fun t =>
      (t.act c = if s.align c = 2 then 2 else 1) ∧ t.pf c F.PN_US_STAT.ONU_ID = 0x3FF ∧
      t.bit (pnB c) F.PN_OMCC.VALID = false ∧ t.bit (pnB c) F.PN_EQD.VALID = false ∧ t.pf c F.PN_EQD.EQD = 0 ∧
      (t.pn c).allocs = [] ∧ (∀ n ∈ (s.pn c).filled, t.slot n = none) ∧ t.timerOn (Tm.to2 c) = false ∧
      t.svc c = (if 2 ≤ s.svc c then s.svc c else if s.pf c F.PN_SVC_CTRL.WANT = 1 then 3 else 2) ∧
      t.pn (1 - c.val) = s.pn (1 - c.val) ∧ BenRests c (s.atEnd (Tm.to2 c)) t ∧
      t = { (s.atEnd (Tm.to2 c)) with out := t.out, pon := t.pon, bc := t.bc, slots := t.slots, tally := t.tally, ctrs := t.ctrs, evt := t.evt, timers := t.timers, regs := t.regs } ∧
      TimersBut [Tm.to1 c,Tm.to2 c,Tm.ps c,Tm.drainTo c] (s.atEnd (Tm.to2 c)) t ∧
      RegsBut [vltB+0x0,pnB c.val+0x104,pnB c.val+0x38,pnB c.val+0x150,pnB c.val+0x1a0,pnB c.val+0x10c,bcB c.val+0x44] (s.atEnd (Tm.to2 c)) t) ∧
  (∀ (m : Master) (c : PonCh) (s : State), s.reaches m (pnB c + 0x10C) = true → s.beforePon = false → s.tlr.stripes = [] →
      s.servoSrc ≠ c + 1 → (s.vlt.waits = [] ∧ ∀ n ∈ (s.pn c).filled, s.keyHolders n = []) →
    Does (.pnActRestart m c) s fun t =>
      (t.act c = if (s.pn c).estop then 7 else if s.align c = 2 then 2 else 1) ∧ t.pf c F.PN_US_STAT.ONU_ID = 0x3FF ∧
      t.bit (pnB c) F.PN_OMCC.VALID = false ∧ t.bit (pnB c) F.PN_EQD.VALID = false ∧ (t.pn c).allocs = [] ∧
      (∀ n ∈ (s.pn c).filled, t.slot n = none) ∧ t.pn (1 - c.val) = s.pn (1 - c.val) ∧ BenRests c s t ∧
      t = { s with out := t.out, pon := t.pon, bc := t.bc, slots := t.slots, tally := t.tally, ctrs := t.ctrs, evt := t.evt, timers := t.timers, regs := t.regs } ∧
      TimersBut [Tm.to1 c,Tm.to2 c,Tm.ps c,Tm.drainTo c] s t ∧
      RegsBut [vltB+0x0,pnB c.val+0x104,pnB c.val+0x38,pnB c.val+0x150,pnB c.val+0x1a0,pnB c.val+0x10c,bcB c.val+0x44] s t) ∧
  (∀ (m : Master) (c : PonCh) (v : Bool) (s : State), s.reaches m (pnB c + 0x10C) = true → s.svc c = 0 →
    Does (.pnTxOffWrite m c v) s fun t =>
      t.bit (pnB c) F.PN_ACT_CTRL.TX_OFF = v ∧ t.bit (pnB c) ⟨F.PN_US_STAT.INH.off, 15, 15⟩ = v ∧
      (v = true ∧ s.inh c = 0 → (t.pn c).bursts = (s.pn c).bursts.filter fun b => b.started) ∧
      t.pn (1 - c.val) = s.pn (1 - c.val) ∧ BenRests c s t ∧
      t = { s with out := t.out, pon := t.pon, bc := t.bc, tally := t.tally, ctrs := t.ctrs, regs := t.regs } ∧
      RegsBut [pnB c.val+0x104,pnB c.val+0x10c,bcB c.val+0x44] s t) ∧
  (∀ (c : PonCh) (s : State), s.live (0x08 + c.val) = true → s.timerOn (Tm.ps c) = true → s.ps c = 0 → s.act c = 5 →
      s.bit (pnB c) F.PN_PS_CFG.ENABLE = true → (s.pn c).sleepOn = false →
    Does (.psTholdExpiry c) s fun t =>
      t.ps c = 1 ∧ t.evt = ((s.atEnd (Tm.ps c)).pRaise c 13 Ev.PN_PS_STATE [(1, 0), (1, 1)]).evt ∧
      BenOnly c (s.atEnd (Tm.ps c)) t ∧
      t = { (s.atEnd (Tm.ps c)) with pon := t.pon, out := t.out, evt := t.evt, timers := t.timers, regs := t.regs } ∧
      TimersBut [Tm.ps c] (s.atEnd (Tm.ps c)) t ∧ RegsBut [pnB c.val+0x104] (s.atEnd (Tm.ps c)) t) ∧
  (∀ (c : PonCh) (s : State), s.live (0x08 + c.val) = true → s.timerOn (Tm.ps c) = true → s.ps c = 2 → s.act c = 5 →
      s.lwi c = false →
    Does (.psTawareExpiry c) s fun t =>
      t.ps c = 3 ∧ t.bit (pnB c) F.PN_US_STAT.TX_ON = false ∧
      SMap.get (fun _ => 0) t.timers (Tm.ps c) = (s.atEnd (Tm.ps c)).now + max 1 (s.pf c F.PN_PS_CFG.ILOWPOWER) * msTicks + 1 ∧
      t.evt = ((s.atEnd (Tm.ps c)).pRaise c 13 Ev.PN_PS_STATE [(1, 2), (1, 3)]).evt ∧ BenOnly c (s.atEnd (Tm.ps c)) t ∧
      t = { (s.atEnd (Tm.ps c)) with pon := t.pon, out := t.out, evt := t.evt, timers := t.timers, regs := t.regs } ∧
      TimersBut [Tm.ps c] (s.atEnd (Tm.ps c)) t ∧ RegsBut [pnB c.val+0x104] (s.atEnd (Tm.ps c)) t) ∧
  (∀ (c : PonCh) (s : State), s.live (0x08 + c.val) = true → s.timerOn (Tm.ps c) = true → s.ps c = 3 → s.act c = 5 →
      s.lwi c = false →
    Does (.psIlowpowerExpiry c) s fun t =>
      t.ps c = 2 ∧ t.bit (pnB c) F.PN_US_STAT.TX_ON = decide (s.inh c = 0) ∧
      SMap.get (fun _ => 0) t.timers (Tm.ps c) = (s.atEnd (Tm.ps c)).now + max 1 (s.pf c F.PN_PS_CFG.TAWARE) * msTicks + 1 ∧
      t.evt = ((s.atEnd (Tm.ps c)).pRaise c 13 Ev.PN_PS_STATE [(1, 3), (1, 2)]).evt ∧ BenOnly c (s.atEnd (Tm.ps c)) t ∧
      t = { (s.atEnd (Tm.ps c)) with pon := t.pon, out := t.out, evt := t.evt, timers := t.timers, regs := t.regs } ∧
      TimersBut [Tm.ps c] (s.atEnd (Tm.ps c)) t ∧ RegsBut [pnB c.val+0x104] (s.atEnd (Tm.ps c)) t) ∧
  (∀ (c : PonCh) (s : State), s.live (0x08 + c.val) = true → s.timerOn (Tm.ps c) = true → s.ps c = 3 → s.act c = 5 →
      s.lwi c = true →
    Does (.psIlowpowerExpiry c) s fun t =>
      t.ps c = 0 ∧
      t.pon = ((s.atEnd (Tm.ps c)).hwPloam c (.sleepRequest false)).pon.set c { ((s.atEnd (Tm.ps c)).hwPloam c (.sleepRequest false)).pn c with benTill := (t.pn c).benTill } ∧
      SMap.get (fun _ => 0) t.timers (Tm.ps c) = (s.atEnd (Tm.ps c)).now + max 1 (s.pf c F.PN_PS_CFG.THOLD) * msTicks + 1 ∧
      BenRests c (s.atEnd (Tm.ps c)) t ∧
      t = { (s.atEnd (Tm.ps c)) with out := t.out, pon := t.pon, ctrs := t.ctrs, evt := t.evt, timers := t.timers, regs := t.regs } ∧
      TimersBut [Tm.ps c] (s.atEnd (Tm.ps c)) t ∧ RegsBut [pnB c.val+0x104] (s.atEnd (Tm.ps c)) t) ∧
  (∀ (m : Master) (c : PonCh) (force : Bool) (s : State), s.reaches m (pnB c + 0x1A0) = true → s.beforePon = false →
      s.svc c = 0 → (s.svc (1 - c.val) = 0 ∨ force = true) → s.tlr.stripes = [] →
    Does (.pnSvcWantClear m c force) s fun t =>
      t.svc c = 1 ∧ t.pf c F.PN_SVC_CTRL.WANT = 0 ∧ t.bit (pnB c) F.PN_SVC_CTRL.REFUSED = false ∧
      SMap.get (fun _ => 0) t.timers (Tm.drainTo c) = s.now + max 1 (s.pf c F.PN_SVC_CTRL.DRAIN_TO) * msTicks + 1 ∧
      t.evt = (s.pRaise c 1 Ev.TW_SVC_STATE [(1, 0), (1, 1), (1, 1)]).evt ∧
      t = { s with evt := t.evt, timers := t.timers, regs := t.regs } ∧ TimersBut [Tm.drainTo c] s t ∧
      RegsBut [pnB c.val+0x1a0] s t) ∧
  (∀ (m : Master) (c : PonCh) (s : State), s.reaches m (pnB c + 0x1A0) = true → s.beforePon = false →
      s.pf c F.PN_SVC_CTRL.WANT = 1 → s.svc (1 - c.val) ≠ 0 →
    Does (.pnSvcWantClear m c false) s fun t =>
      t.bit (pnB c) F.PN_SVC_CTRL.REFUSED = true ∧ t.pf c F.PN_SVC_CTRL.WANT = 1 ∧
      t.evt = (s.pRaise c 1 Ev.TW_LAST_REFUSED [(1, s.svc (1 - c.val))]).evt ∧
      t = { s with evt := t.evt, regs := t.regs } ∧ RegsBut [pnB c.val+0x1a0] s t) ∧
  (∀ (m : Master) (c : PonCh) (force : Bool) (s : State), s.reaches m (pnB c + 0x1A0) = true → s.beforePon = false →
      s.svc c = 1 →
    Does (.pnSvcWantSet m c force) s fun t =>
      t.svc c = 0 ∧ t.pf c F.PN_SVC_CTRL.WANT = 1 ∧ t.timerOn (Tm.drainTo c) = false ∧
      t.evt = (s.pRaise c 1 Ev.TW_SVC_STATE [(1, 1), (1, 0), (1, 1)]).evt ∧
      t = { s with evt := t.evt, timers := t.timers, regs := t.regs } ∧ TimersBut [Tm.drainTo c] s t ∧
      RegsBut [pnB c.val+0x1a0] s t) ∧
  (∀ (m : Master) (c : PonCh) (force : Bool) (s : State), s.reaches m (pnB c + 0x1A0) = true → s.beforePon = false →
      s.svc c = 2 → s.servoSrc ≠ c + 1 → (s.vlt.waits = [] ∧ ∀ n ∈ (s.pn c).filled, s.keyHolders n = []) →
      s.prbsV (48 + c) F.TQ_PRBS_CTRL.CHK_EN = 0 ∧ s.prbsV (48 + c) F.TQ_PRBS_CTRL.GEN_EN = 0 ∧ s.prbsV (48 + c) F.TQ_PRBS_CTRL.BEN_ON = 0 →
    Does (.pnSvcWantSet m c force) s fun t =>
      t.svc c = 3 ∧ t.pf c F.PN_SVC_CTRL.WANT = 1 ∧ t.bit (pnB c) F.PN_ACT_CTRL.TX_OFF = false ∧
      (t.act c = if (s.pn c).estop then 7 else if s.align c = 2 then 2 else 1) ∧ t.pf c F.PN_US_STAT.ONU_ID = 0x3FF ∧
      (t.pn c).allocs = [] ∧ t.pn (1 - c.val) = s.pn (1 - c.val) ∧ BenRests c s t ∧
      t = { s with out := t.out, pon := t.pon, bc := t.bc, slots := t.slots, tally := t.tally, ctrs := t.ctrs, evt := t.evt, timers := t.timers, regs := t.regs } ∧
      TimersBut [Tm.to1 c,Tm.to2 c,Tm.ps c,Tm.drainTo c] s t ∧
      RegsBut [vltB+0x0,pnB c.val+0x104,pnB c.val+0x38,pnB c.val+0x150,pnB c.val+0x1a0,pnB c.val+0x10c,bcB c.val+0x44] s t) ∧
  (∀ (c : PonCh) (s : State), s.live (0x08 + c.val) = true → s.svc c = 1 → s.tillSdus c = [] → (s.pn c).bursts = [] →
    Does (.pnSvcDrainDone c) s fun t =>
      t.svc c = 2 ∧ t.bit (pnB c) F.PN_ACT_CTRL.TX_OFF = true ∧ t.bit (pnB c) ⟨F.PN_US_STAT.INH.off, 15, 15⟩ = true ∧
      t.ctrs = (s.pCount c Ctr.PN.SVC_OUT).ctrs ∧ t.evt = (s.pRaise c 1 Ev.TW_SVC_STATE [(1, 1), (1, 2), (1, 2)]).evt ∧
      t.timerOn (Tm.drainTo c) = false ∧ BenOnly c s t ∧
      t = { s with pon := t.pon, out := t.out, ctrs := t.ctrs, evt := t.evt, timers := t.timers, regs := t.regs } ∧
      TimersBut [Tm.drainTo c] s t ∧ RegsBut [pnB c.val+0x104,pnB c.val+0x1a0,pnB c.val+0x10c] s t) ∧
  (∀ (c : PonCh) (s : State), s.live (0x08 + c.val) = true → s.timerOn (Tm.drainTo c) = true → s.svc c = 1 →
    Does (.pnSvcDrainTimeout c) s fun t =>
      t.svc c = 2 ∧ t.bit (pnB c) F.PN_ACT_CTRL.TX_OFF = true ∧ (t.bcs c).staged = [] ∧ (t.bcs c).radio = [] ∧
      t.evt = ((s.atEnd (Tm.drainTo c)).pRaise c 1 Ev.TW_SVC_STATE [(1, 1), (1, 2), (1, 3)]).evt ∧
      t.pn (1 - c.val) = s.pn (1 - c.val) ∧ t.bcs (1 - c.val) = s.bcs (1 - c.val) ∧
      BenRests c (s.atEnd (Tm.drainTo c)) t ∧
      t = { (s.atEnd (Tm.drainTo c)) with out := t.out, pon := t.pon, bc := t.bc, tally := t.tally, ctrs := t.ctrs, evt := t.evt, timers := t.timers, regs := t.regs } ∧
      TimersBut [Tm.drainTo c] (s.atEnd (Tm.drainTo c)) t ∧
      RegsBut [pnB c.val+0x104,pnB c.val+0x1a0,pnB c.val+0x10c,bcB c.val+0x44] (s.atEnd (Tm.drainTo c)) t)

/-- A PLOAM message taken as in R87 queues its answer upstream: Request_Registration the registration ID;
Assign_Alloc-ID a new table entry at the lowest free index or, to de-assign, an empty one, with an acknowledge if asked,
and a duplicate is refused and reported; Key_Control of index 1 or 2 puts a new random key (a free value) into the slot
the window gives, shows the slot and queues the wrapped key, while index 0 or 3 is a parameter error; Sleep_Allow holds
its setting in O5 or, with power saving off, acknowledges only; the Steward in RUN acknowledges Change_Power_Level and
reports power figures (a free value), and holds the messages while it restarts; an unsupported type is counted, answered
when asked and rejected, a multi-wavelength one only counted. With no allocation operation BUSY, PN_ALLOC_CMD reads or
invalidates an entry and sets BUSY, which its completion clears, and a write operation is discarded. Nothing else
changes. -/
def Obligations.PloamAnswersAndAllocations : Prop :=
  (∀ (c : PonCh) (x : PloamIn) (s : State), s.live (0x08 + c.val) = true → s.align c = 2 → (s.pn c).fsLost = false →
      (x.to_.toNat = s.pf c F.PN_US_STAT.ONU_ID ∨ x.to_.toNat = 0x3FF) → s.ploamMicOk c x.raw = true →
      (s.pn c).marked x.span = false → s.bit (pnB c) F.PN_OSP_CFG.PLOAM_COPY = false →
      ((s.pn c).regWarned = true ∨ leNat (s.regId c) ≠ 0) →
    Does (.ploamRequestRegistration c x) s fun t =>
      t.pon = (s.hwPloam c (.registration (s.regId c))).pon ∧
      ((s.pn c).ploamQ.length < 16 → (t.pn c).ploamQ = (s.pn c).ploamQ ++ [{ hw := true, msg := .registration (s.regId c), keyNo := 0 }] ∧ t.ctrs = ((s.pCount c Ctr.PN.PLOAM_OWN).pCount c Ctr.PN.PLOAM_HW).ctrs) ∧
      t = { s with pon := t.pon, ctrs := t.ctrs }) ∧
  (∀ (c : PonCh) (x : PloamIn) (id : BitVec 14) (i : Nat) (s : State), s.live (0x08 + c.val) = true → s.align c = 2 →
      (s.pn c).fsLost = false → (x.to_.toNat = s.pf c F.PN_US_STAT.ONU_ID ∨ x.to_.toNat = 0x3FF) →
      s.ploamMicOk c x.raw = true → (s.pn c).marked x.span = false → s.bit (pnB c) F.PN_OSP_CFG.PLOAM_COPY = false →
      s.allocIx c id.toNat = none → s.freeAlloc c = some i → x.ack = true → (s.pn c).ploamQ.length < 16 →
    Does (.ploamAssignAllocId c x id true) s fun t =>
      t.pn c = { s.pn c with allocs := SMap.set (fun _ => none) (s.pn c).allocs i (some (1, id.toNat)), ploamQ := (s.pn c).ploamQ ++ [{ hw := true, msg := .ack 0, keyNo := 0 }] } ∧
      t.pn (1 - c.val) = s.pn (1 - c.val) ∧ t.ctrs = ((s.pCount c Ctr.PN.PLOAM_OWN).pCount c Ctr.PN.PLOAM_HW).ctrs ∧
      t = { s with pon := t.pon, ctrs := t.ctrs }) ∧
  (∀ (c : PonCh) (x : PloamIn) (id : BitVec 14) (assign : Bool) (i : Nat) (s : State), s.live (0x08 + c.val) = true →
      s.align c = 2 → (s.pn c).fsLost = false → (x.to_.toNat = s.pf c F.PN_US_STAT.ONU_ID ∨ x.to_.toNat = 0x3FF) →
      s.ploamMicOk c x.raw = true → (s.pn c).marked x.span = false → s.bit (pnB c) F.PN_OSP_CFG.PLOAM_COPY = false →
      s.allocIx c id.toNat = some i → x.ack = false → (assign = true → (s.pn c).ploamQ.length < 16) →
    Does (.ploamAssignAllocId c x id assign) s fun t =>
      (assign = true → t.pn c = { s.pn c with ploamQ := (s.pn c).ploamQ ++ [{ hw := true, msg := .ack 3, keyNo := 0 }] } ∧ t.evt = (s.pRaise c 13 Ev.PN_ALLOC_REFUSED [(2, id.toNat), (1, 1)]).evt ∧ t.ctrs = (((s.pCount c Ctr.PN.PLOAM_OWN).pCount c Ctr.PN.PLOAM_HW).pCount c Ctr.PN.ALLOC_REFUSED).ctrs) ∧
      (assign = false → t.pn c = { s.pn c with allocs := SMap.set (fun _ => none) (s.pn c).allocs i none } ∧ t.evt = s.evt ∧ t.ctrs = ((s.pCount c Ctr.PN.PLOAM_OWN).pCount c Ctr.PN.PLOAM_HW).ctrs) ∧
      t.pn (1 - c.val) = s.pn (1 - c.val) ∧ t = { s with pon := t.pon, ctrs := t.ctrs, evt := t.evt }) ∧
  (∀ (c : PonCh) (x : PloamIn) (index : BitVec 2) (kek : KeySlot) (s : State), s.live (0x08 + c.val) = true →
      s.align c = 2 → (s.pn c).fsLost = false → (x.to_.toNat = s.pf c F.PN_US_STAT.ONU_ID ∨ x.to_.toNat = 0x3FF) →
      s.ploamMicOk c x.raw = true → (s.pn c).marked x.span = false → s.bit (pnB c) F.PN_OSP_CFG.PLOAM_COPY = false →
      (index = 1 ∨ index = 2) → s.fld vltB F.VLT_STAT.MINT = 0 → (s.pn c).ploamQ.length < 16 →
      ((s.pf c F.PN_KEY_CFG.SLOT_BASE + index.toNat - 1) % 1024) ≠ s.pf c F.PN_KEY_CFG.KEK_SLOT →
      s.slot (s.pf c F.PN_KEY_CFG.KEK_SLOT) = some kek →
      s.vlt.waits = [] ∧ s.keyHolders ((s.pf c F.PN_KEY_CFG.SLOT_BASE + index.toNat - 1) % 1024) = [] →
    Does (.ploamKeyControl c x index) s fun t =>
      t.slot ((s.pf c F.PN_KEY_CFG.SLOT_BASE + index.toNat - 1) % 1024) = some { typ := 1, use := 1, key := ((Config.free s.freeNext) % 2 ^ 128), iv := 0, ivWarned := false } ∧
      (∀ j : Fin 1024, j.val ≠ ((s.pf c F.PN_KEY_CFG.SLOT_BASE + index.toNat - 1) % 1024) → t.slot j = s.slot j) ∧
      t.pf c (if index = 1 then F.PN_KEY_UC.UC1 else F.PN_KEY_UC.UC2) = ((s.pf c F.PN_KEY_CFG.SLOT_BASE + index.toNat - 1) % 1024) ∧
      t.freeNext = s.freeNext + 1 ∧
      (t.pn c).ploamQ = (s.pn c).ploamQ ++ [{ hw := true, msg := .keyReport index.toNat 0 true (Config.keyWrap kek.key ((Config.free s.freeNext) % 2 ^ 128)), keyNo := (s.pn c).lastN + 2 }] ∧
      (t.pn c).keyWaits = (s.pn c).keyWaits ++ [{ no := (s.pn c).lastN + 1, index := index.toNat, slot := ((s.pf c F.PN_KEY_CFG.SLOT_BASE + index.toNat - 1) % 1024), sent := false }] ∧
      t.pn c = { s.pn c with ploamQ := (t.pn c).ploamQ, keyWaits := (t.pn c).keyWaits, lastN := (s.pn c).lastN + 1, filled := (t.pn c).filled } ∧
      t.pn (1 - c.val) = s.pn (1 - c.val) ∧
      t.evt = (s.keyChanged ((s.pf c F.PN_KEY_CFG.SLOT_BASE + index.toNat - 1) % 1024) 0 1).evt ∧
      t.vlt = { s.vlt with drbg := 1, maskAt := t.vlt.maskAt, masks := t.vlt.masks } ∧
      SMap.get (fun _ => 0) t.timers Tm.mint = s.now + 100 * msTicks + 1 ∧
      t = { s with pon := t.pon, slots := t.slots, vlt := t.vlt, ctrs := t.ctrs, evt := t.evt, freeNext := t.freeNext, regs := t.regs, timers := t.timers } ∧
      RegsBut [vltB+0x0,pnB c.val+0x34] s t ∧ TimersBut [Tm.mint] s t) ∧
  (∀ (c : PonCh) (x : PloamIn) (index : BitVec 2) (s : State), s.live (0x08 + c.val) = true → s.align c = 2 →
      (s.pn c).fsLost = false → (x.to_.toNat = s.pf c F.PN_US_STAT.ONU_ID ∨ x.to_.toNat = 0x3FF) →
      s.ploamMicOk c x.raw = true → (s.pn c).marked x.span = false → s.bit (pnB c) F.PN_OSP_CFG.PLOAM_COPY = false →
      (index = 1 ∨ index = 2) → s.fld vltB F.VLT_STAT.MINT = 0 →
      ((s.pf c F.PN_KEY_CFG.SLOT_BASE + index.toNat - 1) % 1024) ≠ s.pf c F.PN_KEY_CFG.KEK_SLOT →
      s.slot (s.pf c F.PN_KEY_CFG.KEK_SLOT) = none →
      s.vlt.waits = [] ∧ s.keyHolders ((s.pf c F.PN_KEY_CFG.SLOT_BASE + index.toNat - 1) % 1024) = [] →
    Does (.ploamKeyControl c x index) s fun t =>
      t.slot ((s.pf c F.PN_KEY_CFG.SLOT_BASE + index.toNat - 1) % 1024) = some { typ := 1, use := 1, key := (Config.free s.freeNext) % 2 ^ 128, iv := 0, ivWarned := false } ∧
      (∀ j : Fin 1024, j.val ≠ ((s.pf c F.PN_KEY_CFG.SLOT_BASE + index.toNat - 1) % 1024) → t.slot j = s.slot j) ∧
      t.pf c (if index = 1 then F.PN_KEY_UC.UC1 else F.PN_KEY_UC.UC2) = ((s.pf c F.PN_KEY_CFG.SLOT_BASE + index.toNat - 1) % 1024) ∧
      (t.pn c).ploamQ = (s.pn c).ploamQ ∧ (t.pn c).keyWaits = (s.pn c).keyWaits ∧
      t.ctrs = ((((s.pCount c Ctr.PN.PLOAM_OWN).pCount c Ctr.PN.PLOAM_HW).count (vltB + Ctr.VLT.MINT_RESEEDS)).count (vltB + Ctr.VLT.KEY_ABSENT)).ctrs ∧
      t.evt = (s.keyChanged ((s.pf c F.PN_KEY_CFG.SLOT_BASE + index.toNat - 1) % 1024) 0 1).evt ∧
      t = { s with pon := t.pon, slots := t.slots, vlt := t.vlt, ctrs := t.ctrs, evt := t.evt, freeNext := t.freeNext, regs := t.regs, timers := t.timers } ∧
      RegsBut [vltB+0x0,pnB c.val+0x34] s t ∧ TimersBut [Tm.mint] s t) ∧
  (∀ (c : PonCh) (x : PloamIn) (index : BitVec 2) (s : State), s.live (0x08 + c.val) = true → s.align c = 2 →
      (s.pn c).fsLost = false → (x.to_.toNat = s.pf c F.PN_US_STAT.ONU_ID ∨ x.to_.toNat = 0x3FF) →
      s.ploamMicOk c x.raw = true → (s.pn c).marked x.span = false → s.bit (pnB c) F.PN_OSP_CFG.PLOAM_COPY = false →
      (index = 0 ∨ index = 3) →
    Does (.ploamKeyControl c x index) s fun t =>
      t.pon = (s.hwPloam c (.ack 3)).pon ∧ t.evt = (s.ploamReject c 2 x.typ.toNat).evt ∧
      t = { s with pon := t.pon, ctrs := t.ctrs, evt := t.evt }) ∧
  (∀ (c : PonCh) (x : PloamIn) (on : Bool) (s : State), s.live (0x08 + c.val) = true → s.align c = 2 →
      (s.pn c).fsLost = false → (x.to_.toNat = s.pf c F.PN_US_STAT.ONU_ID ∨ x.to_.toNat = 0x3FF) →
      s.ploamMicOk c x.raw = true → (s.pn c).marked x.span = false → s.bit (pnB c) F.PN_OSP_CFG.PLOAM_COPY = false →
      x.ack = false → s.bit (pnB c) F.PN_PS_CFG.ENABLE = true → s.act c = 5 → s.ps c = 0 → s.timerOn (Tm.ps c) = true →
    Does (.ploamSleepAllow c x on) s fun t =>
      t.pn c = { s.pn c with sleepOn := on } ∧ t.pn (1 - c.val) = s.pn (1 - c.val) ∧
      t.ctrs = ((s.pCount c Ctr.PN.PLOAM_OWN).pCount c Ctr.PN.PLOAM_HW).ctrs ∧ t = { s with pon := t.pon, ctrs := t.ctrs }) ∧
  (∀ (c : PonCh) (x : PloamIn) (s : State), s.live (0x08 + c.val) = true → s.align c = 2 → (s.pn c).fsLost = false →
      (x.to_.toNat = s.pf c F.PN_US_STAT.ONU_ID ∨ x.to_.toNat = 0x3FF) → s.ploamMicOk c x.raw = true →
      (s.pn c).marked x.span = false → s.bit (pnB c) F.PN_OSP_CFG.PLOAM_COPY = false → x.ack = false →
      s.bit (pnB c) F.PN_PS_CFG.ENABLE = true → s.act c = 5 → s.ps c = 1 → s.lwi c = false →
    Does (.ploamSleepAllow c x true) s fun t =>
      t.ps c = 2 ∧ (t.pn c).sleepOn = true ∧
      ((s.pn c).ploamQ.length < 16 → (t.pn c).ploamQ = (s.pn c).ploamQ ++ [{ hw := true, msg := .sleepRequest true, keyNo := 0 }]) ∧
      t.evt = (s.pRaise c 13 Ev.PN_PS_STATE [(1, 1), (1, 2)]).evt ∧
      SMap.get (fun _ => 0) t.timers (Tm.ps c) = s.now + max 1 (s.pf c F.PN_PS_CFG.TAWARE) * msTicks + 1 ∧
      t.pn (1 - c.val) = s.pn (1 - c.val) ∧
      t = { s with pon := t.pon, ctrs := t.ctrs, evt := t.evt, timers := t.timers, regs := t.regs } ∧
      TimersBut [Tm.ps c] s t ∧ RegsBut [pnB c.val+0x104] s t) ∧
  (∀ (c : PonCh) (x : PloamIn) (on : Bool) (s : State), s.live (0x08 + c.val) = true → s.align c = 2 →
      (s.pn c).fsLost = false → (x.to_.toNat = s.pf c F.PN_US_STAT.ONU_ID ∨ x.to_.toNat = 0x3FF) →
      s.ploamMicOk c x.raw = true → (s.pn c).marked x.span = false → s.bit (pnB c) F.PN_OSP_CFG.PLOAM_COPY = false →
      s.bit (pnB c) F.PN_PS_CFG.ENABLE = false →
    Does (.ploamSleepAllow c x on) s fun t =>
      t.pon = (s.hwPloam c (.ack 0)).pon ∧ t = { s with pon := t.pon, ctrs := t.ctrs }) ∧
  (∀ (c : PonCh) (x : PloamIn) (s : State), s.live (0x08 + c.val) = true → s.align c = 2 → (s.pn c).fsLost = false →
      (x.to_.toNat = s.pf c F.PN_US_STAT.ONU_ID ∨ x.to_.toNat = 0x3FF) → s.ploamMicOk c x.raw = true →
      (s.pn c).marked x.span = false → s.bit (pnB c) F.PN_OSP_CFG.PLOAM_COPY = false → s.fld stwB F.STW_STAT.STATE = 1 →
      (s.pn c).ploamQ.length < 16 →
    Does (.ploamChangePowerLevel c x) s fun t =>
      t.pn c = { s.pn c with ploamQ := (s.pn c).ploamQ ++ [{ hw := false, msg := .ack 0, keyNo := 0 }] } ∧
      t.pn (1 - c.val) = s.pn (1 - c.val) ∧ t.out = s.out ++ [.optics c x.raw] ∧
      t.ctrs = ((s.pCount c Ctr.PN.PLOAM_OWN).pCount c Ctr.PN.PLOAM_STW).ctrs ∧
      t = { s with pon := t.pon, ctrs := t.ctrs, out := t.out }) ∧
  (∀ (c : PonCh) (x : PloamIn) (s : State), s.live (0x08 + c.val) = true → s.align c = 2 → (s.pn c).fsLost = false →
      (x.to_.toNat = s.pf c F.PN_US_STAT.ONU_ID ∨ x.to_.toNat = 0x3FF) → s.ploamMicOk c x.raw = true →
      (s.pn c).marked x.span = false → s.bit (pnB c) F.PN_OSP_CFG.PLOAM_COPY = false → s.fld stwB F.STW_STAT.STATE = 1 →
      (s.pn c).ploamQ.length < 16 →
    Does (.ploamPowerConsumptionInq c x) s fun t =>
      t.pn c = { s.pn c with ploamQ := (s.pn c).ploamQ ++ [{ hw := false, msg := .powerReport (leBytes 48 (Config.free s.freeNext)), keyNo := 0 }] } ∧
      t.freeNext = s.freeNext + 1 ∧ t.pn (1 - c.val) = s.pn (1 - c.val) ∧
      t.ctrs = ((s.pCount c Ctr.PN.PLOAM_OWN).pCount c Ctr.PN.PLOAM_STW).ctrs ∧
      t = { s with pon := t.pon, ctrs := t.ctrs, freeNext := t.freeNext }) ∧
  (∀ (c : PonCh) (x : PloamIn) (s : State), s.live (0x08 + c.val) = true → s.align c = 2 → (s.pn c).fsLost = false →
      (x.to_.toNat = s.pf c F.PN_US_STAT.ONU_ID ∨ x.to_.toNat = 0x3FF) → s.ploamMicOk c x.raw = true →
      (s.pn c).marked x.span = false → s.bit (pnB c) F.PN_OSP_CFG.PLOAM_COPY = false → s.fld stwB F.STW_STAT.STATE = 2 →
      (s.pn c).stwPloam.length < 16 →
    Does (.ploamPowerConsumptionInq c x) s fun t =>
      t.pn c = { s.pn c with stwPloam := (s.pn c).stwPloam ++ [(1, x.raw)] } ∧ t.pn (1 - c.val) = s.pn (1 - c.val) ∧
      t.ctrs = ((s.pCount c Ctr.PN.PLOAM_OWN).pCount c Ctr.PN.PLOAM_STW).ctrs ∧
      t = { s with pon := t.pon, ctrs := t.ctrs }) ∧
  (∀ (c : PonCh) (x : PloamIn) (s : State), s.live (0x08 + c.val) = true → s.align c = 2 → (s.pn c).fsLost = false →
      (x.to_.toNat = s.pf c F.PN_US_STAT.ONU_ID ∨ x.to_.toNat = 0x3FF) → s.ploamMicOk c x.raw = true →
      (s.pn c).marked x.span = false → s.bit (pnB c) F.PN_OSP_CFG.PLOAM_COPY = false →
    Does (.ploamUnsupported c x true) s fun t =>
      t.ctrs = ((s.pCount c Ctr.PN.PLOAM_OWN).pCount c Ctr.PN.PLOAM_UNSUP).ctrs ∧ t = { s with ctrs := t.ctrs }) ∧
  (∀ (c : PonCh) (x : PloamIn) (s : State), s.live (0x08 + c.val) = true → s.align c = 2 → (s.pn c).fsLost = false →
      (x.to_.toNat = s.pf c F.PN_US_STAT.ONU_ID ∨ x.to_.toNat = 0x3FF) → s.ploamMicOk c x.raw = true →
      (s.pn c).marked x.span = false → s.bit (pnB c) F.PN_OSP_CFG.PLOAM_COPY = false →
    Does (.ploamUnsupported c x false) s fun t =>
      (t.pon = if x.ack then (s.hwPloam c (.ack 2)).pon else s.pon) ∧ t.evt = (s.ploamReject c 1 x.typ.toNat).evt ∧
      t = { s with pon := t.pon, ctrs := t.ctrs, evt := t.evt }) ∧
  (∀ (m : Master) (c : PonCh) (i : BitVec 7) (s : State), s.reaches m (pnB c + 0x180) = true →
      s.bit (pnB c) F.PN_ALLOC_CMD.BUSY = false →
    Does (.pnAllocRead m c i) s fun t =>
      ((SMap.get (fun _ => none) (s.pn c).allocs i.toNat) = none → t.reg (pnB c + 0x184) = 0) ∧
      (∀ o < 2, ∀ b < 2 ^ 14, (SMap.get (fun _ => none) (s.pn c).allocs i.toNat) = some (o, b) → t.reg (pnB c + 0x184) = BitVec.ofNat 32 (2 ^ 31 + o * 2 ^ 14 + b)) ∧
      t.bit (pnB c) F.PN_ALLOC_CMD.BUSY = true ∧ t = { s with regs := t.regs } ∧
      RegsBut [pnB c.val+0x180,pnB c.val+0x184] s t) ∧
  (∀ (m : Master) (c : PonCh) (i : BitVec 7) (s : State), s.reaches m (pnB c + 0x180) = true →
      s.bit (pnB c) F.PN_ALLOC_CMD.BUSY = false →
    Does (.pnAllocInvalidate m c i) s fun t =>
      t.pn c = { s.pn c with allocs := SMap.set (fun _ => none) (s.pn c).allocs i.toNat none } ∧
      t.pn (1 - c.val) = s.pn (1 - c.val) ∧ t.bit (pnB c) F.PN_ALLOC_CMD.BUSY = true ∧
      t = { s with pon := t.pon, regs := t.regs } ∧ RegsBut [pnB c.val+0x180] s t) ∧
  (∀ (m : Master) (c : PonCh) (i : BitVec 7) (s : State), s.reaches m (pnB c + 0x180) = true →
    Does (.pnAllocWriteDiscard m c i) s fun t =>
      t = s) ∧
  (∀ (c : PonCh) (s : State), s.live (0x08 + c.val) = true →
    Does (.pnAllocCmdDone c) s fun t =>
      t.bit (pnB c) F.PN_ALLOC_CMD.BUSY = false ∧ t = { s with regs := t.regs } ∧ RegsBut [pnB c.val+0x180] s t)

/-- LOS follows its two conditions (the ball also before the island is live, log entry 4) and is reported; in PRESYNC it
goes to HUNT. Enabling the receiver goes from OFF to HUNT, disabling it in HUNT or PRESYNC to OFF. In HUNT or PRESYNC a
correct pattern at a new position opens a candidate (the fourth at most), one with the expected SFC at an open
candidate's confirms it, and the N-th locks: SYNC, the SFC shown, PN_ALIGN_LOCK raised; a wrong one drops the candidate.
In SYNC a correct pattern counts a frame and the SFC; an errored one below M counts PSBD_ERR, and SFC_MISMATCH where
only the SFC differs. A decoded frame counts its codewords and bits, a lost FS header marks the reassemblies damaged; a
window's end loads PN_FEC_WIN, SD and SF. ARM loads the target, clears the last capture, and ends as a miss when the SFC
has passed; the armed frame is captured. Nothing else changes. -/
def Obligations.ReceiverAlignsAndDecodes : Prop :=
  (∀ (c : PonCh) (level : Bool) (s : State),
      s.bit (pnB c) F.PN_RX_STAT.LOS ≠ (((level != s.bit (pnB c) F.PN_RX_CTRL.LOS_POL) || !s.bit (pnB c) F.PN_RX_STAT.CDR_LOCK)) →
      ((((level != s.bit (pnB c) F.PN_RX_CTRL.LOS_POL) || !s.bit (pnB c) F.PN_RX_STAT.CDR_LOCK)) = false ∨ (s.align c ≠ 1 ∧ s.align c ≠ 2)) →
    Does (.rxlosChange c level) s fun t =>
      t.bit (pnB c) F.PN_RX_STAT.LOS = (((level != s.bit (pnB c) F.PN_RX_CTRL.LOS_POL) || !s.bit (pnB c) F.PN_RX_STAT.CDR_LOCK)) ∧
      t.pn c = { s.pn c with rxlos := level, taps := (t.pn c).taps } ∧ t.pn (1 - c.val) = s.pn (1 - c.val) ∧
      t.evt = (s.pRaiseMs c 13 Ev.PN_RX_LOS (b2n (((level != s.bit (pnB c) F.PN_RX_CTRL.LOS_POL) || !s.bit (pnB c) F.PN_RX_STAT.CDR_LOCK))) [(1, b2n (((level != s.bit (pnB c) F.PN_RX_CTRL.LOS_POL) || !s.bit (pnB c) F.PN_RX_STAT.CDR_LOCK)))]).evt ∧
      t.freeNext = s.freeNext + b2n ((s.bit (pnB c) F.PN_RX_EQ.ADAPT && !s.bit (pnB c) F.PN_RX_STAT.LOS)) ∧
      (((s.bit (pnB c) F.PN_RX_EQ.ADAPT && !s.bit (pnB c) F.PN_RX_STAT.LOS)) = false → (t.pn c).taps = (s.pn c).taps ∧ t.pf c F.PN_RX_EQ.CTLE = s.pf c F.PN_RX_EQ.CTLE) ∧
      t = { s with freeNext := t.freeNext, pon := t.pon, evt := t.evt, regs := t.regs } ∧
      RegsBut [pnB c.val+0x4,pnB c.val+0x8] s t) ∧
  (∀ (c : PonCh) (level : Bool) (s : State), s.bit (pnB c) F.PN_RX_STAT.LOS = false →
      (level != s.bit (pnB c) F.PN_RX_CTRL.LOS_POL) = true → s.align c = 1 →
    Does (.rxlosChange c level) s fun t =>
      t.bit (pnB c) F.PN_RX_STAT.LOS = true ∧ t.align c = 0 ∧ t.pf c F.PN_RX_STAT.CANDS = 0 ∧
      t.pn c = { s.pn c with rxlos := level, cands := [], taps := (t.pn c).taps } ∧ t.pn (1 - c.val) = s.pn (1 - c.val) ∧
      t.evt = (s.pRaiseMs c 13 Ev.PN_RX_LOS 1 [(1, 1)]).evt ∧
      t.freeNext = s.freeNext + b2n ((s.bit (pnB c) F.PN_RX_EQ.ADAPT && !s.bit (pnB c) F.PN_RX_STAT.LOS)) ∧
      (((s.bit (pnB c) F.PN_RX_EQ.ADAPT && !s.bit (pnB c) F.PN_RX_STAT.LOS)) = false → (t.pn c).taps = (s.pn c).taps ∧ t.pf c F.PN_RX_EQ.CTLE = s.pf c F.PN_RX_EQ.CTLE) ∧
      t = { s with freeNext := t.freeNext, pon := t.pon, evt := t.evt, regs := t.regs } ∧
      RegsBut [pnB c.val+0x4,pnB c.val+0x8] s t) ∧
  (∀ (c : PonCh) (level : Bool) (s : State), s.bit (pnB c) F.PN_RX_STAT.LOS = false →
      (level != s.bit (pnB c) F.PN_RX_CTRL.LOS_POL) = true → s.align c = 2 → s.act c = 5 → (s.pn c).reasm = [] →
      s.bit (pnB c) F.PN_TOD_CTRL.ARM = false → s.servoSrc ≠ c + 1 →
    Does (.rxlosChange c level) s fun t =>
      t.bit (pnB c) F.PN_RX_STAT.LOS = true ∧ t.align c = 0 ∧ t.act c = 6 ∧ t.sfcCur c = 0 ∧
      SMap.get (fun _ => 0) t.timers (Tm.to2 c) = s.now + max 1 (s.pf c F.PN_ACT_CFG.TO2) * msTicks + 1 ∧
      t.pn (1 - c.val) = s.pn (1 - c.val) ∧ t.bcs (1 - c.val) = s.bcs (1 - c.val) ∧
      t.freeNext = s.freeNext + b2n ((s.bit (pnB c) F.PN_RX_EQ.ADAPT && !s.bit (pnB c) F.PN_RX_STAT.LOS)) ∧
      (((s.bit (pnB c) F.PN_RX_EQ.ADAPT && !s.bit (pnB c) F.PN_RX_STAT.LOS)) = false → (t.pn c).taps = (s.pn c).taps ∧ t.pf c F.PN_RX_EQ.CTLE = s.pf c F.PN_RX_EQ.CTLE) ∧
      BenRests c s t ∧
      t = { s with out := t.out, freeNext := t.freeNext, pon := t.pon, bc := t.bc, tally := t.tally, ctrs := t.ctrs, evt := t.evt, timers := t.timers, regs := t.regs } ∧
      TimersBut [Tm.to1 c,Tm.to2 c,Tm.ps c] s t ∧
      RegsBut [pnB c.val+0x4,pnB c.val+0x8,pnB c.val+0x78,pnB c.val+0x7c,pnB c.val+0x104,pnB c.val+0x1a0,bcB c.val+0x44] s t) ∧
  (∀ (c : PonCh) (lock : Bool) (s : State),
      s.bit (pnB c) F.PN_RX_STAT.LOS ≠ ((((s.pn c).rxlos != s.bit (pnB c) F.PN_RX_CTRL.LOS_POL) || !lock)) →
      (((((s.pn c).rxlos != s.bit (pnB c) F.PN_RX_CTRL.LOS_POL) || !lock)) = false ∨ (s.align c ≠ 1 ∧ s.align c ≠ 2)) →
    Does (.pnCdrLockChange c lock) s fun t =>
      t.bit (pnB c) F.PN_RX_STAT.CDR_LOCK = lock ∧
      t.bit (pnB c) F.PN_RX_STAT.LOS = ((((s.pn c).rxlos != s.bit (pnB c) F.PN_RX_CTRL.LOS_POL) || !lock)) ∧
      t.evt = (s.pRaiseMs c 13 Ev.PN_RX_LOS (b2n ((((s.pn c).rxlos != s.bit (pnB c) F.PN_RX_CTRL.LOS_POL) || !lock))) [(1, b2n ((((s.pn c).rxlos != s.bit (pnB c) F.PN_RX_CTRL.LOS_POL) || !lock)))]).evt ∧
      t.freeNext = s.freeNext + b2n ((s.bit (pnB c) F.PN_RX_EQ.ADAPT && !s.bit (pnB c) F.PN_RX_STAT.LOS)) ∧
      (((s.bit (pnB c) F.PN_RX_EQ.ADAPT && !s.bit (pnB c) F.PN_RX_STAT.LOS)) = false → (t.pn c).taps = (s.pn c).taps ∧ t.pf c F.PN_RX_EQ.CTLE = s.pf c F.PN_RX_EQ.CTLE) ∧
      t.tim = { s.tim with synceOut := t.tim.synceOut } ∧ t.pon = s.pon.set c { s.pn c with taps := (t.pn c).taps } ∧
      t = { s with tim := t.tim, pon := t.pon, freeNext := t.freeNext, evt := t.evt, regs := t.regs } ∧
      RegsBut [pnB c.val+0x4,pnB c.val+0x8] s t) ∧
  (∀ (m : Master) (c : PonCh) (v : Word) (s : State), s.reaches m (pnB c) = true → s.beforePon = false →
      s.bit (pnB c) F.PN_RX_STAT.LOS = (((s.pn c).rxlos != s.bit (pnB c) F.PN_RX_CTRL.LOS_POL) || !s.bit (pnB c) F.PN_RX_STAT.CDR_LOCK) →
      s.bit (pnB c) F.PN_RX_CTRL.ENABLE = false → s.align c = 3 → s.bit (pnB c) F.PN_PRBS_CTRL.CHK_EN = false →
      F.PN_RX_CTRL.ENABLE.of v.toNat = 1 → F.PN_RX_CTRL.MODE.of v.toNat = s.pf c F.PN_RX_CTRL.MODE →
      F.PN_RX_CTRL.LOS_POL.of v.toNat = s.pf c F.PN_RX_CTRL.LOS_POL →
    Does (.pnRxEnableWrite m c v) s fun t =>
      t.align c = 0 ∧ t.bit (pnB c) F.PN_RX_CTRL.ENABLE = true ∧ t.pf c F.PN_RX_CTRL.MODE = s.pf c F.PN_RX_CTRL.MODE ∧
      t.pn c = { s.pn c with cands := [] } ∧ t.pn (1 - c.val) = s.pn (1 - c.val) ∧
      t = { s with pon := t.pon, evt := t.evt, regs := t.regs } ∧ RegsBut [pnB c.val,pnB c.val+0x8] s t) ∧
  (∀ (m : Master) (c : PonCh) (v : Word) (s : State), s.reaches m (pnB c) = true → s.beforePon = false →
      s.bit (pnB c) F.PN_RX_STAT.LOS = (((s.pn c).rxlos != s.bit (pnB c) F.PN_RX_CTRL.LOS_POL) || !s.bit (pnB c) F.PN_RX_STAT.CDR_LOCK) →
      s.bit (pnB c) F.PN_RX_CTRL.ENABLE = true → s.align c < 2 → s.bit (pnB c) F.PN_PRBS_CTRL.CHK_EN = false →
      F.PN_RX_CTRL.ENABLE.of v.toNat = 0 → F.PN_RX_CTRL.MODE.of v.toNat = s.pf c F.PN_RX_CTRL.MODE →
      F.PN_RX_CTRL.LOS_POL.of v.toNat = s.pf c F.PN_RX_CTRL.LOS_POL →
    Does (.pnRxEnableWrite m c v) s fun t =>
      t.align c = 3 ∧ t.bit (pnB c) F.PN_RX_CTRL.ENABLE = false ∧ t.pn c = { s.pn c with cands := [] } ∧
      t.pn (1 - c.val) = s.pn (1 - c.val) ∧ t = { s with pon := t.pon, evt := t.evt, regs := t.regs } ∧
      RegsBut [pnB c.val,pnB c.val+0x8] s t) ∧
  (∀ (m : Master) (c : PonCh) (v : Word) (s : State), s.reaches m (pnB c) = true →
      s.bit (pnB c) F.PN_RX_CTRL.ENABLE = true → F.PN_RX_CTRL.MODE.of v.toNat ≠ s.pf c F.PN_RX_CTRL.MODE →
    Does (.pnRxEnableWrite m c v) s fun t =>
      t = s) ∧
  (∀ (c : PonCh) (x : PsyncIn) (s : State), s.live (0x08 + c.val) = true → s.beforePon = false →
      s.bit (pnB c) F.PN_RX_STAT.LOS = false → s.align c < 2 →
      ((s.pn c).cands.find? fun k => decide (k.pos = x.pos)) = none → x.hecOk = true →
      x.errs ≤ s.pf c F.PN_ALIGN_CFG.TOL → (s.pn c).cands.length < 4 → 1 < s.pf c F.PN_ALIGN_CFG.N →
    Does (.psyncPattern c x) s fun t =>
      t.align c = 1 ∧ t.pf c F.PN_RX_STAT.CANDS = (s.pn c).cands.length + 1 ∧
      t.pn c = { s.pn c with cands := (s.pn c).cands ++ [{ pos := x.pos, count := 1, sfc := (x.sfc.toNat + 1) % 2 ^ 51 }] } ∧
      t.pn (1 - c.val) = s.pn (1 - c.val) ∧ t = { s with pon := t.pon, regs := t.regs } ∧ RegsBut [pnB c.val+0x8] s t) ∧
  (∀ (c : PonCh) (x : PsyncIn) (s : State), s.live (0x08 + c.val) = true → s.beforePon = false →
      s.bit (pnB c) F.PN_RX_STAT.LOS = false → s.align c < 2 →
      ((s.pn c).cands.find? fun k => decide (k.pos = x.pos)) = none → x.hecOk = true →
      x.errs ≤ s.pf c F.PN_ALIGN_CFG.TOL → 4 ≤ (s.pn c).cands.length →
    Does (.psyncPattern c x) s fun t =>
      t.ctrs = (s.pCount c Ctr.PN.CAND_FULL).ctrs ∧
      t.evt = (s.pRaise c 13 Ev.PN_CAND_FULL [(2, t.ctr (pnB c + Ctr.PN.CAND_FULL))]).evt ∧
      t = { s with ctrs := t.ctrs, evt := t.evt }) ∧
  (∀ (c : PonCh) (x : PsyncIn) (k : Cand) (s : State), s.live (0x08 + c.val) = true → s.beforePon = false →
      s.bit (pnB c) F.PN_RX_STAT.LOS = false → s.align c < 2 →
      ((s.pn c).cands.find? fun k => decide (k.pos = x.pos)) = some k → x.hecOk = true →
      x.errs ≤ s.pf c F.PN_ALIGN_CFG.TOL → x.sfc.toNat = k.sfc → k.count + 1 < max 1 (s.pf c F.PN_ALIGN_CFG.N) →
    Does (.psyncPattern c x) s fun t =>
      t.pn c = { s.pn c with cands := (s.pn c).cands.map fun y => if y = k then { k with count := k.count + 1, sfc := (k.sfc + 1) % 2 ^ 51 } else y } ∧
      t.pn (1 - c.val) = s.pn (1 - c.val) ∧ t.align c = s.align c ∧ t = { s with pon := t.pon, regs := t.regs } ∧
      RegsBut [pnB c.val+0x8] s t) ∧
  (∀ (c : PonCh) (x : PsyncIn) (k : Cand) (s : State), s.live (0x08 + c.val) = true → s.beforePon = false →
      s.bit (pnB c) F.PN_RX_STAT.LOS = false → s.align c < 2 →
      ((s.pn c).cands.find? fun k => decide (k.pos = x.pos)) = some k → x.hecOk = true →
      x.errs ≤ s.pf c F.PN_ALIGN_CFG.TOL → x.sfc.toNat = k.sfc → max 1 (s.pf c F.PN_ALIGN_CFG.N) ≤ k.count + 1 →
      s.act c = 1 →
    Does (.psyncPattern c x) s fun t =>
      t.align c = 2 ∧ t.pf c F.PN_RX_STAT.CANDS = 0 ∧ t.sfcCur c = x.sfc.toNat ∧ t.act c = 2 ∧
      t.pn c = { s.pn c with benTill := (t.pn c).benTill, cands := [], lockPos := k.pos, errs := 0, winFrames := 0, winBits := 0, frame := (s.pn c).frame + 1, tRef := s.now, fsLost := false, bwLost := false, payLost := false, marks := [], prevOk := false, eqdUse := (if s.bit (pnB c) F.PN_EQD.VALID then s.pf c F.PN_EQD.EQD else 0), profUse := (s.regWords (pnB c + 0x190) 4).map (·.toNat) } ∧
      t.pn (1 - c.val) = s.pn (1 - c.val) ∧
      t.evt = ((s.pRaise c 13 Ev.PN_ALIGN_LOCK [(7, x.sfc.toNat)]).pRaise c 13 Ev.PN_ACT_STATE [(1, 1), (1, 2), (1, 1)]).evt ∧
      BenRests c s t ∧ t = { s with out := t.out, pon := t.pon, evt := t.evt, timers := t.timers, regs := t.regs } ∧
      TimersBut [Tm.to1 c,Tm.to2 c] s t ∧
      RegsBut [pnB c.val+0x8,pnB c.val+0x78,pnB c.val+0x7c,pnB c.val+0x104,pnB c.val+0x1a0] s t) ∧
  (∀ (c : PonCh) (x : PsyncIn) (k : Cand) (s : State), s.live (0x08 + c.val) = true → s.beforePon = false →
      s.bit (pnB c) F.PN_RX_STAT.LOS = false → s.align c < 2 →
      ((s.pn c).cands.find? fun k => decide (k.pos = x.pos)) = some k →
      (x.hecOk = false ∨ s.pf c F.PN_ALIGN_CFG.TOL < x.errs ∨ x.sfc.toNat ≠ k.sfc) →
    Does (.psyncPattern c x) s fun t =>
      t.pn c = { s.pn c with cands := ((s.pn c).cands.filter fun y => decide (y ≠ k)) } ∧
      t.pn (1 - c.val) = s.pn (1 - c.val) ∧
      (t.align c = if (((s.pn c).cands.filter fun y => decide (y ≠ k))).isEmpty then 0 else 1) ∧
      t.ctrs = (s.pCount c Ctr.PN.CAND_FALSE).ctrs ∧ t = { s with pon := t.pon, ctrs := t.ctrs, regs := t.regs } ∧
      RegsBut [pnB c.val+0x8] s t) ∧
  (∀ (c : PonCh) (x : PsyncIn) (s : State), s.live (0x08 + c.val) = true → s.beforePon = false →
      s.bit (pnB c) F.PN_RX_STAT.LOS = false → s.align c = 2 → x.pos = (s.pn c).lockPos → x.hecOk = true →
      x.errs ≤ s.pf c F.PN_ALIGN_CFG.TOL → x.sfc.toNat = ((s.sfcCur c + 1) % 2 ^ 51) →
      s.bit (pnB c) F.PN_TOD_CTRL.ARM = false →
    Does (.psyncPattern c x) s fun t =>
      t.sfcCur c = ((s.sfcCur c + 1) % 2 ^ 51) ∧
      t.pn c = { s.pn c with errs := 0, frame := (s.pn c).frame + 1, tRef := s.now, fsLost := false, bwLost := false, payLost := false, marks := [], prevOk := false, eqdUse := (if s.bit (pnB c) F.PN_EQD.VALID then s.pf c F.PN_EQD.EQD else 0), profUse := (s.regWords (pnB c + 0x190) 4).map (·.toNat) } ∧
      t.pn (1 - c.val) = s.pn (1 - c.val) ∧ t.ctrs = (s.pCount c Ctr.PN.FRAMES_SYNC).ctrs ∧
      t = { s with pon := t.pon, ctrs := t.ctrs, regs := t.regs } ∧ RegsBut [pnB c.val+0x78,pnB c.val+0x7c] s t) ∧
  (∀ (c : PonCh) (x : PsyncIn) (s : State), s.live (0x08 + c.val) = true → s.beforePon = false →
      s.bit (pnB c) F.PN_RX_STAT.LOS = false → s.align c = 2 → x.pos = (s.pn c).lockPos → x.hecOk = true →
      x.errs ≤ s.pf c F.PN_ALIGN_CFG.TOL → x.sfc.toNat = ((s.sfcCur c + 1) % 2 ^ 51) →
      s.bit (pnB c) F.PN_TOD_CTRL.ARM = true → s.todTarget c = ((s.sfcCur c + 1) % 2 ^ 51) →
      s.stampOff (0x08 + c.val) = false → (s.stw.todArm.get (chIx c) = false ∨ s.fld stwB F.STW_STAT.STATE ≠ 1) →
    Does (.psyncPattern c x) s fun t =>
      t.sfcCur c = ((s.sfcCur c + 1) % 2 ^ 51) ∧ t.bit (pnB c) F.PN_TOD_CTRL.ARM = false ∧
      t.bit (pnB c) F.PN_TOD_CTRL.MISS = false ∧
      t.reg (pnB c + 0x68) = BitVec.ofNat 32 (timeSec (s.stampRx (96 + c) x.st (s.captureLat c))) ∧
      t.reg (pnB c + 0x6C) = BitVec.ofNat 32 (timeSec (s.stampRx (96 + c) x.st (s.captureLat c)) / 2 ^ 32) ∧
      t.reg (pnB c + 0x70) = BitVec.ofNat 32 (timeNs (s.stampRx (96 + c) x.st (s.captureLat c))) ∧
      t.reg (pnB c + 0x74) = BitVec.ofNat 32 (2 ^ 31 + timeFrac (s.stampRx (96 + c) x.st (s.captureLat c))) ∧
      t.tim = { s.tim with rangedSince := s.tim.rangedSince.set c false } ∧
      t.evt = (s.pRaise c 13 Ev.PN_TOD_DONE [(1, 1), (1, 0), (4, s.todTarget c)]).evt ∧
      t.pn (1 - c.val) = s.pn (1 - c.val) ∧
      t = { s with pon := t.pon, tim := t.tim, ctrs := t.ctrs, evt := t.evt, regs := t.regs } ∧
      RegsBut [pnB c.val+0x78,pnB c.val+0x7c,pnB c.val+0x60,pnB c.val+0x68,pnB c.val+0x6C,pnB c.val+0x70,pnB c.val+0x74] s t) ∧
  (∀ (c : PonCh) (x : PsyncIn) (s : State), s.live (0x08 + c.val) = true → s.beforePon = false →
      s.bit (pnB c) F.PN_RX_STAT.LOS = false → s.align c = 2 → x.pos = (s.pn c).lockPos →
      (((x.hecOk && decide (x.errs ≤ s.pf c F.PN_ALIGN_CFG.TOL))) = false ∨ x.sfc.toNat ≠ ((s.sfcCur c + 1) % 2 ^ 51)) →
      (s.pn c).errs + 1 < s.pf c F.PN_ALIGN_CFG.M → s.bit (pnB c) F.PN_TOD_CTRL.ARM = false →
    Does (.psyncPattern c x) s fun t =>
      t.sfcCur c = ((s.sfcCur c + 1) % 2 ^ 51) ∧ (t.pn c).errs = (s.pn c).errs + 1 ∧ (t.pn c).frame = (s.pn c).frame + 1 ∧
      t.ctrs = (if ((x.hecOk && decide (x.errs ≤ s.pf c F.PN_ALIGN_CFG.TOL))) then (((s.pCount c Ctr.PN.FRAMES_SYNC).pCount c Ctr.PN.PSBD_ERR).pCount c Ctr.PN.SFC_MISMATCH) else ((s.pCount c Ctr.PN.FRAMES_SYNC).pCount c Ctr.PN.PSBD_ERR)).ctrs ∧
      t.pn (1 - c.val) = s.pn (1 - c.val) ∧ t = { s with pon := t.pon, ctrs := t.ctrs, regs := t.regs } ∧
      RegsBut [pnB c.val+0x78,pnB c.val+0x7c] s t) ∧
  (∀ (c : PonCh) (x : FrameIn) (s : State), s.live (0x08 + c.val) = true → s.align c = 2 →
      x.hdrOk = true ∧ (({ s.pn c with marks := (s.badWords c x) } : PonState)).marked x.hdr = false ∧ (({ s.pn c with marks := (s.badWords c x) } : PonState)).marked x.map = false →
    Does (.phyFrameDecode c x) s fun t =>
      t.pn c = { s.pn c with marks := (s.badWords c x), winFrames := (s.pn c).winFrames + 1, winBits := (s.pn c).winBits + (((s.goodWords c x).map (·.bits)).sum) } ∧
      t.pn (1 - c.val) = s.pn (1 - c.val) ∧
      t.ctrs = ((((s.pCount c Ctr.PN.CW_TOTAL x.cws.length).pCount c Ctr.PN.CW_CORR (((s.goodWords c x).filter fun w => decide (w.need ≠ some 0)).length)).pCount c Ctr.PN.CW_UNCORR (s.badWords c x).length).pCount c Ctr.PN.BITS_CORR (((s.goodWords c x).map (·.bits)).sum)).ctrs ∧
      t = { s with pon := t.pon, ctrs := t.ctrs, evt := t.evt, sampN := t.sampN, regs := t.regs } ∧ RegsBut pmcRegs s t) ∧
  (∀ (c : PonCh) (x : FrameIn) (s : State), s.live (0x08 + c.val) = true → s.align c = 2 →
      (x.hdrOk = false ∨ (({ s.pn c with marks := (s.badWords c x) } : PonState)).marked x.hdr = true) →
    Does (.phyFrameDecode c x) s fun t =>
      t.pn c = { s.pn c with marks := (s.badWords c x), winFrames := (s.pn c).winFrames + 1, winBits := (s.pn c).winBits + (((s.goodWords c x).map (·.bits)).sum), fsLost := true, reasm := (s.pn c).reasm.map fun r => { r with damaged := true } } ∧
      t.pn (1 - c.val) = s.pn (1 - c.val) ∧
      t.ctrs = ((((((s.pCount c Ctr.PN.CW_TOTAL x.cws.length).pCount c Ctr.PN.CW_CORR (((s.goodWords c x).filter fun w => decide (w.need ≠ some 0)).length)).pCount c Ctr.PN.CW_UNCORR (s.badWords c x).length).pCount c Ctr.PN.BITS_CORR (((s.goodWords c x).map (·.bits)).sum)).pCount c Ctr.PN.FS_HDR_ERR).pCount c Ctr.PN.BWMAP_LOST).ctrs ∧
      t = { s with pon := t.pon, tally := t.tally, ctrs := t.ctrs, evt := t.evt, sampN := t.sampN, regs := t.regs } ∧
      RegsBut pmcRegs s t) ∧
  (∀ (c : PonCh) (s : State), s.live (0x08 + c.val) = true → s.align c = 2 →
      max 1 (s.pf c F.PN_FEC_CFG.BER_WIN) ≤ (s.pn c).winFrames →
    Does (.berWindowEnd c) s fun t =>
      t.pf c F.PN_FEC_WIN.BITS = min 0xFFFFFFFF ((s.pn c).winBits) ∧
      (s.pf c F.PN_FEC_SD_THR.THR < ((s.pn c).winBits) → t.bit (pnB c) F.PN_RX_STAT.SD = true ∧ (t.pn c).sdQuiet = 0) ∧
      (((s.pn c).winBits) ≤ s.pf c F.PN_FEC_SD_THR.THR → t.bit (pnB c) F.PN_RX_STAT.SD = (s.bit (pnB c) F.PN_RX_STAT.SD && decide ((s.pn c).sdQuiet < 9))) ∧
      (s.pf c F.PN_FEC_SF_THR.THR < ((s.pn c).winBits) → t.bit (pnB c) F.PN_RX_STAT.SF = true ∧ (t.pn c).sfQuiet = 0) ∧
      (((s.pn c).winBits) ≤ s.pf c F.PN_FEC_SF_THR.THR → t.bit (pnB c) F.PN_RX_STAT.SF = (s.bit (pnB c) F.PN_RX_STAT.SF && decide ((s.pn c).sfQuiet < 9))) ∧
      t.pn c = { s.pn c with winFrames := 0, winBits := 0, sdQuiet := (t.pn c).sdQuiet, sfQuiet := (t.pn c).sfQuiet } ∧
      t.pn (1 - c.val) = s.pn (1 - c.val) ∧ t = { s with pon := t.pon, evt := t.evt, regs := t.regs } ∧
      RegsBut [pnB c.val+0x2c,pnB c.val+0x8,pnB c.val+0x104] s t) ∧
  (∀ (m : Master) (c : PonCh) (sfcHi : BitVec 19) (s : State), s.reaches m (pnB c + 0x60) = true →
      (s.align c = 2 → s.sfcCur c < (sfcHi.toNat * 2 ^ 32 + s.pf c F.PN_TOD_SFC_LO.SFC_LO)) →
    Does (.pnTodArm m c sfcHi) s fun t =>
      t.bit (pnB c) F.PN_TOD_CTRL.ARM = true ∧ t.bit (pnB c) F.PN_TOD_CTRL.MISS = false ∧
      t.todTarget c = (sfcHi.toNat * 2 ^ 32 + s.pf c F.PN_TOD_SFC_LO.SFC_LO) ∧
      t.regWords (pnB c + 0x68) 4 = [0, 0, 0, 0] ∧
      t.pon = s.pon.set c { s.pn c with todSfc := (sfcHi.toNat * 2 ^ 32 + s.pf c F.PN_TOD_SFC_LO.SFC_LO) } ∧
      t = { s with pon := t.pon, regs := t.regs } ∧
      RegsBut [pnB c.val+0x60,pnB c.val+0x68,pnB c.val+0x6C,pnB c.val+0x70,pnB c.val+0x74] s t) ∧
  (∀ (m : Master) (c : PonCh) (sfcHi : BitVec 19) (s : State), s.reaches m (pnB c + 0x60) = true → s.align c = 2 →
      (sfcHi.toNat * 2 ^ 32 + s.pf c F.PN_TOD_SFC_LO.SFC_LO) ≤ s.sfcCur c →
    Does (.pnTodArm m c sfcHi) s fun t =>
      t.bit (pnB c) F.PN_TOD_CTRL.ARM = false ∧ t.bit (pnB c) F.PN_TOD_CTRL.MISS = true ∧
      t.regWords (pnB c + 0x68) 4 = [0, 0, 0, 0] ∧
      t.evt = (s.pRaise c 13 Ev.PN_TOD_DONE [(1, 0), (1, 1), (4, (sfcHi.toNat * 2 ^ 32 + s.pf c F.PN_TOD_SFC_LO.SFC_LO))]).evt ∧
      t.pon = s.pon.set c { s.pn c with todSfc := (sfcHi.toNat * 2 ^ 32 + s.pf c F.PN_TOD_SFC_LO.SFC_LO) } ∧
      t.stw = { s.stw with todArm := s.stw.todArm.set (chIx c) false } ∧
      t = { s with pon := t.pon, stw := t.stw, evt := t.evt, regs := t.regs } ∧
      RegsBut [pnB c.val+0x60,pnB c.val+0x68,pnB c.val+0x6C,pnB c.val+0x70,pnB c.val+0x74] s t)

/-- A delineated XGEM frame with a good header in a marked codeword, idle or of a foreign Port-ID only counts; one of a
bad size counts and its SDU is discarded; an uncorrectable header ends the payload and marks the reassemblies damaged. A
clear frame of the OMCC with a whole SDU goes to the Steward in RUN; one of a map entry counts in the Tally and opens a
reassembly, or as a whole SDU with a good FCS is delivered to its pipeline with its metadata; with a key index whose
slot is empty it is discarded and reported. A reassembly without a fragment for REASM_TO frames is dropped and counted.
With no operation BUSY, PN_PID_CMD reads, writes (a duplicate Port-ID is refused with DUP) or invalidates an entry and
sets BUSY, which its completion clears. From RUN on an enabled OSP answers each transaction with the status byte, then
READ_MSG sends the oldest message as far as the master clocks it, takes a whole one off, and forgets LOST, WRITE_MSG
queues an upstream message or counts it dropped, READ_EVT sends OSPA's oldest record; before RUN it answers the busy
status alone. Nothing else changes. -/
def Obligations.XgemFramesMapAndSerialPorts : Prop :=
  (∀ (c : PonCh) (x : XgemIn) (s : State), s.live (0x08 + c.val) = true → s.align c = 2 → (s.pn c).fsLost = false →
      (s.pn c).payLost = false → (s.pn c).marked x.span = true → x.hec = .good ∧ x.pliOver = false →
    Does (.xgemFrameRx c x) s fun t =>
      t.ctrs = (s.pCount c Ctr.PN.UNCORR_DROP).ctrs ∧ t = { s with ctrs := t.ctrs }) ∧
  (∀ (c : PonCh) (x : XgemIn) (s : State), s.live (0x08 + c.val) = true → s.align c = 2 → (s.pn c).fsLost = false →
      (s.pn c).payLost = false → (s.pn c).marked x.span = false → x.hec = .lost →
    Does (.xgemFrameRx c x) s fun t =>
      t.pn c = { s.pn c with payLost := true, reasm := (s.pn c).reasm.map fun r => { r with damaged := true } } ∧
      t.pn (1 - c.val) = s.pn (1 - c.val) ∧ t.ctrs = (s.pCount c Ctr.PN.XGEM_HEC_FAIL).ctrs ∧
      t.evt = (s.pRaiseMs c 13 Ev.PN_XGEM_DELIN 0 [(1, 0)]).evt ∧
      t = { s with pon := t.pon, ctrs := t.ctrs, evt := t.evt }) ∧
  (∀ (c : PonCh) (x : XgemIn) (s : State), s.live (0x08 + c.val) = true → s.align c = 2 → (s.pn c).fsLost = false →
      (s.pn c).payLost = false → (s.pn c).marked x.span = false → x.hec = .good → x.pliOver = false → x.idle = true →
    Does (.xgemFrameRx c x) s fun t =>
      t.ctrs = (s.pCount c Ctr.PN.XGEM_IDLE).ctrs ∧ t = { s with ctrs := t.ctrs }) ∧
  (∀ (c : PonCh) (x : XgemIn) (s : State), s.live (0x08 + c.val) = true → s.align c = 2 → (s.pn c).fsLost = false →
      (s.pn c).payLost = false → (s.pn c).marked x.span = false ∧ x.hec = .good ∧ x.pliOver = false ∧ x.idle = false →
      (s.bit (pnB c) F.PN_OMCC.VALID = false ∨ s.pf c F.PN_OMCC.PORT_ID ≠ x.pid.toNat) →
      pidEntry (s.pn c).pids x.pid.toNat = none →
    Does (.xgemFrameRx c x) s fun t =>
      t.ctrs = (s.pCount c (if x.size = 1 then Ctr.PN.RUNT else if x.size = 2 then Ctr.PN.OVERSIZE else Ctr.PN.XGEM_FOREIGN)).ctrs ∧
      t = { s with ctrs := t.ctrs }) ∧
  (∀ (c : PonCh) (x : XgemIn) (e : Nat × Nat) (s : State), s.live (0x08 + c.val) = true → s.align c = 2 →
      (s.pn c).fsLost = false → (s.pn c).payLost = false →
      (s.pn c).marked x.span = false ∧ x.hec = .good ∧ x.pliOver = false ∧ x.idle = false ∧ x.size ≠ 0 →
      (s.bit (pnB c) F.PN_OMCC.VALID = false ∨ s.pf c F.PN_OMCC.PORT_ID ≠ x.pid.toNat) →
      pidEntry (s.pn c).pids x.pid.toNat = some e → x.key = 0 →
      ((s.pn c).reasm.find? fun r => decide (r.pid = x.pid.toNat)) = none → x.opts.toNat.testBit 17 = false →
    Does (.xgemFrameRx c x) s fun t =>
      t.pn c = { s.pn c with reasm := (s.pn c).reasm.filter fun r => decide (r.pid ≠ x.pid.toNat), skip := (t.pn c).skip } ∧
      (t.pn c).skip = ((s.pn c).skip.filter fun i => decide (i ≠ x.pid.toNat)) ++ (if x.lf then [] else [x.pid.toNat]) ∧
      t.pn (1 - c.val) = s.pn (1 - c.val) ∧
      t.ctrs = (s.pCount c (if x.size = 1 then Ctr.PN.RUNT else Ctr.PN.OVERSIZE)).ctrs ∧
      t.tally = ((s.tallyAdd (0x0E + c) (2 * e.1)).tallyAdd (0x0E + c) (2 * e.1 + 1) x.data.length).tally ∧
      t = { s with pon := t.pon, tally := t.tally, ctrs := t.ctrs }) ∧
  (∀ (c : PonCh) (x : XgemIn) (s : State), s.live (0x08 + c.val) = true → s.align c = 2 → (s.pn c).fsLost = false →
      (s.pn c).payLost = false → (s.pn c).marked x.span = false → x.hec = .good → x.pliOver = false → x.idle = false →
      x.size = 0 → s.bit (pnB c) F.PN_OMCC.VALID = true → s.pf c F.PN_OMCC.PORT_ID = x.pid.toNat → x.key = 0 →
      x.lf = true → 0 < x.data.length → x.data.length ≤ 2048 →
      ((s.pn c).reasm.find? fun r => decide (r.pid = x.pid.toNat)) = none → x.pid.toNat ∉ (s.pn c).skip →
      s.bit (pnB c) F.PN_OSP_CFG.OMCI_OSP = false → s.fld stwB F.STW_STAT.STATE = 1 →
    Does (.xgemFrameRx c x) s fun t =>
      t.pn c = { s.pn c with omciIn := (s.pn c).omciIn ++ [x.data], reasm := (t.pn c).reasm } ∧
      ((t.pn c).reasm = (s.pn c).reasm.filter fun r => decide (r.pid ≠ x.pid.toNat)) ∧
      t.pn (1 - c.val) = s.pn (1 - c.val) ∧ t.ctrs = (s.pCount c Ctr.PN.OMCI_SDU).ctrs ∧
      t = { s with pon := t.pon, ctrs := t.ctrs, evt := t.evt, sampN := t.sampN, regs := t.regs } ∧ RegsBut pmcRegs s t) ∧
  (∀ (c : PonCh) (x : XgemIn) (e : Nat × Nat) (s : State), s.live (0x08 + c.val) = true → s.align c = 2 →
      (s.pn c).fsLost = false → (s.pn c).payLost = false → (s.pn c).marked x.span = false → x.hec = .good →
      x.pliOver = false → x.idle = false → x.size = 0 →
      (s.bit (pnB c) F.PN_OMCC.VALID = false ∨ s.pf c F.PN_OMCC.PORT_ID ≠ x.pid.toNat) →
      pidEntry (s.pn c).pids x.pid.toNat = some e → x.key = 0 → x.lf = false → x.data.length ≤ s.maxSdu c →
      ((s.pn c).reasm.find? fun r => decide (r.pid = x.pid.toNat)) = none → (s.pn c).reasm.length < 512 →
      x.pid.toNat ∉ (s.pn c).skip →
    Does (.xgemFrameRx c x) s fun t =>
      (t.pn c).reasm = ((s.pn c).reasm.filter fun r => decide (r.pid ≠ x.pid.toNat)) ++ [{ pid := x.pid.toNat, entry := some e.1, sf := bits e.2 27 16, typ := bits e.2 29 28, key := 0, opts := x.opts.toNat, data := x.data, damaged := false, last := (s.pn c).frame }] ∧
      t.pn c = { s.pn c with reasm := (t.pn c).reasm } ∧ t.pn (1 - c.val) = s.pn (1 - c.val) ∧
      t.tally = ((s.tallyAdd (0x0E + c) (2 * e.1)).tallyAdd (0x0E + c) (2 * e.1 + 1) x.data.length).tally ∧
      t = { s with pon := t.pon, tally := t.tally, evt := t.evt, sampN := t.sampN, regs := t.regs } ∧ RegsBut pmcRegs s t) ∧
  (∀ (c : PonCh) (x : XgemIn) (e : Nat × Nat) (s : State), s.live (0x08 + c.val) = true → s.align c = 2 →
      (s.pn c).fsLost = false → (s.pn c).payLost = false → (s.pn c).marked x.span = false → x.hec = .good →
      x.pliOver = false → x.idle = false → x.size = 0 →
      (s.bit (pnB c) F.PN_OMCC.VALID = false ∨ s.pf c F.PN_OMCC.PORT_ID ≠ x.pid.toNat) →
      pidEntry (s.pn c).pids x.pid.toNat = some e → x.key = 0 → x.lf = true → 64 ≤ x.data.length →
      x.data.length ≤ s.maxSdu c → crc32 (x.data.take ((x.data.length - 4))) = leNat (x.data.drop ((x.data.length - 4))) →
      ((s.pn c).reasm.find? fun r => decide (r.pid = x.pid.toNat)) = none → x.pid.toNat ∉ (s.pn c).skip →
      x.opts.toNat.testBit 17 = false →
      ((((SMap.get (fun _ => []) (s.pipes.get c).wire (48 + c.val)))).map fun p => p.bytes.length).sum + (x.data.length - 4) ≤ 32768 →
      s.accepts (0x20 + c.val) = true →
    Does (.xgemFrameRx c x) s fun t =>
      SMap.get (fun _ => []) (t.pipes.get c).wire (48 + c.val) = ((SMap.get (fun _ => []) (s.pipes.get c).wire (48 + c.val))) ++ [ponPacket c (({ pid := x.pid.toNat, entry := some e.1, sf := bits e.2 27 16, typ := bits e.2 29 28, key := 0, opts := x.opts.toNat, data := x.data, damaged := false, last := (s.pn c).frame } : Reasm)) (x.data.take ((x.data.length - 4))) s.now] ∧
      t.pn (1 - c.val) = s.pn (1 - c.val) ∧
      t.ctrs = ((s.pCount c Ctr.PN.SDU_OK).pCount c Ctr.PN.SDU_BYTES ((x.data.length - 4))).ctrs ∧
      t.tally = ((s.tallyAdd (0x0E + c) (2 * e.1)).tallyAdd (0x0E + c) (2 * e.1 + 1) x.data.length).tally ∧
      t = { s with pon := t.pon, pipes := t.pipes, tally := t.tally, ctrs := t.ctrs, evt := t.evt, sampN := t.sampN, regs := t.regs } ∧
      RegsBut pmcRegs s t) ∧
  (∀ (c : PonCh) (x : XgemIn) (e : Nat × Nat) (s : State), s.live (0x08 + c.val) = true → s.align c = 2 →
      (s.pn c).fsLost = false → (s.pn c).payLost = false → (s.pn c).marked x.span = false → x.hec = .good →
      x.pliOver = false → x.idle = false → x.size = 0 →
      (s.bit (pnB c) F.PN_OMCC.VALID = false ∨ s.pf c F.PN_OMCC.PORT_ID ≠ x.pid.toNat) →
      pidEntry (s.pn c).pids x.pid.toNat = some e → bits e.2 29 28 = 1 → (x.key = 1 ∨ x.key = 2) →
      s.slot (s.keySlot c x.key.toNat (some e)) = none →
      ((s.pn c).reasm.find? fun r => decide (r.pid = x.pid.toNat)) = none → x.opts.toNat.testBit 17 = false →
    Does (.xgemFrameRx c x) s fun t =>
      t.pn c = { s.pn c with reasm := (s.pn c).reasm.filter fun r => decide (r.pid ≠ x.pid.toNat), skip := (t.pn c).skip } ∧
      (t.pn c).skip = ((s.pn c).skip.filter fun i => decide (i ≠ x.pid.toNat)) ++ (if x.lf then [] else [x.pid.toNat]) ∧
      t.pn (1 - c.val) = s.pn (1 - c.val) ∧
      t.ctrs = ((s.count (vltB + Ctr.VLT.KEY_ABSENT)).pCount c Ctr.PN.KEY_ABSENT).ctrs ∧
      t.evt = (s.pRaiseMs c 13 Ev.PN_KEY_FAULT 0 [(2, s.keySlot c x.key.toNat (some e)), (1, 0)]).evt ∧
      t = { s with pon := t.pon, tally := t.tally, ctrs := t.ctrs, evt := t.evt }) ∧
  (∀ (c : PonCh) (pid : BitVec 16) (r : Reasm) (s : State), s.live (0x08 + c.val) = true →
      ((s.pn c).reasm.find? fun r => decide (r.pid = pid.toNat)) = some r →
      r.last + max 1 (s.pf c F.PN_XGEM_CFG.REASM_TO) ≤ (s.pn c).frame → r.opts.testBit 17 = false →
    Does (.reasmTimeout c pid) s fun t =>
      t.pn c = { s.pn c with reasm := (s.pn c).reasm.filter fun y => decide (y.pid ≠ pid.toNat) } ∧
      t.pn (1 - c.val) = s.pn (1 - c.val) ∧ t.ctrs = (s.pCount c Ctr.PN.REASM_ERR).ctrs ∧
      t.evt = (s.pRaiseMs c 13 Ev.PN_REASM_ERR 0 [(2, pid.toNat)]).evt ∧
      t = { s with pon := t.pon, ctrs := t.ctrs, evt := t.evt }) ∧
  (∀ (m : Master) (c : PonCh) (i : BitVec 12) (s : State), s.reaches m (pnB c + 0x40) = true →
      s.bit (pnB c) F.PN_PID_CMD.BUSY = false →
    Does (.pnPidRead m c i) s fun t =>
      t.reg (pnB c + 0x44) = BitVec.ofNat 32 (SMap.get (fun _ => 0) (s.pn c).pids i.toNat) ∧
      t.reg (pnB c + 0x48) = BitVec.ofNat 32 ((SMap.get (fun _ => 0) (s.pn c).pids i.toNat) / 2 ^ 32) ∧
      t.bit (pnB c) F.PN_PID_CMD.BUSY = true ∧ t = { s with regs := t.regs } ∧
      RegsBut [pnB c.val+0x40,pnB c.val+0x44,pnB c.val+0x48] s t) ∧
  (∀ (m : Master) (c : PonCh) (i : BitVec 12) (s : State), s.reaches m (pnB c + 0x40) = true →
      s.bit (pnB c) F.PN_PID_CMD.BUSY = false →
      ((pidEntry (s.pn c).pids (bits (wordsNat (s.regWords (pnB c + 0x44) 2)) 15 0)).all fun k => decide (k.1 = i.toNat)) = true →
      (s.pn c).reasm = [] →
    Does (.pnPidWrite m c i) s fun t =>
      t.pn c = { s.pn c with pids := SMap.set (fun _ => 0) (s.pn c).pids i.toNat (wordsNat (s.regWords (pnB c + 0x44) 2)) } ∧
      t.pn (1 - c.val) = s.pn (1 - c.val) ∧ t.bit (pnB c) F.PN_PID_CMD.DUP = false ∧
      t.bit (pnB c) F.PN_PID_CMD.BUSY = true ∧ t = { s with pon := t.pon, regs := t.regs } ∧ RegsBut [pnB c.val+0x40] s t) ∧
  (∀ (m : Master) (c : PonCh) (i : BitVec 12) (k : Nat × Nat) (s : State), s.reaches m (pnB c + 0x40) = true →
      s.bit (pnB c) F.PN_PID_CMD.BUSY = false →
      pidEntry (s.pn c).pids (bits (wordsNat (s.regWords (pnB c + 0x44) 2)) 15 0) = some k → k.1 ≠ i.toNat →
      bits (wordsNat (s.regWords (pnB c + 0x44) 2)) 31 31 = 1 → bits (wordsNat (s.regWords (pnB c + 0x44) 2)) 29 28 ≠ 3 →
    Does (.pnPidWrite m c i) s fun t =>
      t.bit (pnB c) F.PN_PID_CMD.DUP = true ∧ t.bit (pnB c) F.PN_PID_CMD.BUSY = true ∧ t = { s with regs := t.regs } ∧
      RegsBut [pnB c.val+0x40] s t) ∧
  (∀ (m : Master) (c : PonCh) (i : BitVec 12) (s : State), s.reaches m (pnB c + 0x40) = true →
      s.bit (pnB c) F.PN_PID_CMD.BUSY = false → (s.pn c).reasm = [] →
    Does (.pnPidInvalidate m c i) s fun t =>
      t.pn c = { s.pn c with pids := SMap.set (fun _ => 0) (s.pn c).pids i.toNat ((SMap.get (fun _ => 0) (s.pn c).pids i.toNat) - bits (SMap.get (fun _ => 0) (s.pn c).pids i.toNat) 31 31 * 2 ^ 31) } ∧
      t.pn (1 - c.val) = s.pn (1 - c.val) ∧ t.bit (pnB c) F.PN_PID_CMD.BUSY = true ∧
      t = { s with pon := t.pon, regs := t.regs } ∧ RegsBut [pnB c.val+0x40] s t) ∧
  (∀ (c : PonCh) (s : State), s.live (0x08 + c.val) = true →
    Does (.pnPidCmdDone c) s fun t =>
      t.bit (pnB c) F.PN_PID_CMD.BUSY = false ∧ t = { s with regs := t.regs } ∧ RegsBut [pnB c.val+0x40] s t) ∧
  (∀ (c : PonCh) (s : State), s.live (0x08 + c.val) = true ∧ s.boot.por = false →
      s.bit (pnB c) F.PN_OSP_CFG.ENABLE = true → s.stage ≠ 0xA → s.inHold = false →
    Does (.ospNop c) s fun t =>
      t.out = s.out ++ [.osp c [BitVec.ofNat 8 (0x80 + s.stage)]] ∧ t = { s with out := t.out }) ∧
  (∀ (c : PonCh) (s : State), s.live (0x08 + c.val) = true ∧ s.boot.por = false →
      s.bit (pnB c) F.PN_OSP_CFG.ENABLE = true → s.stage = 0xA →
    Does (.ospNop c) s fun t =>
      t.out = s.out ++ [.osp c [BitVec.ofNat 8 ((32 * b2n (!(s.pn c).ospQ.isEmpty) + 16 * b2n (decide (c = 0) && s.bit hstB F.HST_CFG.HOSTLESS && !s.evt.ospQ.isEmpty) + 8 * b2n (decide (s.ospUpUsed c + 2050 ≤ 8192)) + 4 * b2n (s.pn c).ospLost + s.align c))]] ∧
      t = { s with out := t.out }) ∧
  (∀ (c : PonCh) (cmd : Byte) (s : State), s.live (0x08 + c.val) = true ∧ s.boot.por = false →
      s.bit (pnB c) F.PN_OSP_CFG.ENABLE = true →
    Does (.ospOtherCommand c cmd) s fun t =>
      t.out = s.out ++ [.osp c [BitVec.ofNat 8 (s.ospStatus c)]] ∧ t = { s with out := t.out }) ∧
  (∀ (c : PonCh) (n : BitVec 16) (x : Nat × List Byte) (rest : List (Nat × List Byte)) (s : State),
      s.live (0x08 + c.val) = true ∧ s.boot.por = false → s.bit (pnB c) F.PN_OSP_CFG.ENABLE = true → s.stage = 0xA →
      (s.pn c).ospQ = x :: rest → x.2.length + 2 ≤ n.toNat →
    Does (.ospReadMsg c n) s fun t =>
      t.pn c = { s.pn c with ospQ := rest, ospLost := false } ∧ t.pn (1 - c.val) = s.pn (1 - c.val) ∧
      t.out = s.out ++ [.osp c ([BitVec.ofNat 8 (s.ospStatus c)] ++ beBytes 2 (x.1 * 2 ^ 12 + x.2.length) ++ x.2)] ∧
      t = { s with pon := t.pon, out := t.out }) ∧
  (∀ (c : PonCh) (n : BitVec 16) (s : State), s.live (0x08 + c.val) = true ∧ s.boot.por = false →
      s.bit (pnB c) F.PN_OSP_CFG.ENABLE = true → s.stage = 0xA →
      ((s.pn c).ospQ = [] ∨ n.toNat < ((((s.pn c).ospQ.head?.elim [0, 0] (fun x => beBytes 2 (x.1 * 2 ^ 12 + x.2.length) ++ x.2)))).length) →
    Does (.ospReadMsg c n) s fun t =>
      t.pn c = { s.pn c with ospLost := false } ∧ t.pn (1 - c.val) = s.pn (1 - c.val) ∧
      t.out = s.out ++ [.osp c ([BitVec.ofNat 8 (s.ospStatus c)] ++ ((((s.pn c).ospQ.head?.elim [0, 0] (fun x => beBytes 2 (x.1 * 2 ^ 12 + x.2.length) ++ x.2)))).take n.toNat)] ∧
      t = { s with pon := t.pon, out := t.out }) ∧
  (∀ (c : PonCh) (data : List Byte) (s : State), s.live (0x08 + c.val) = true ∧ s.boot.por = false →
      s.bit (pnB c) F.PN_OSP_CFG.ENABLE = true → s.stage = 0xA → s.bit (pnB c) F.PN_US_CTRL.OSP_PLOAM = true →
      (s.pn c).ploamQ.length < 16 →
    Does (.ospWriteMsg c true 1 data) s fun t =>
      t.pn c = { s.pn c with ploamQ := (s.pn c).ploamQ ++ [{ hw := false, msg := .raw data, keyNo := 0 }] } ∧
      t.pn (1 - c.val) = s.pn (1 - c.val) ∧ t.out = s.out ++ [.osp c [BitVec.ofNat 8 (s.ospStatus c)]] ∧
      t = { s with pon := t.pon, out := t.out }) ∧
  (∀ (c : PonCh) (data : List Byte) (s : State), s.live (0x08 + c.val) = true ∧ s.boot.por = false →
      s.bit (pnB c) F.PN_OSP_CFG.ENABLE = true → s.stage = 0xA →
    Does (.ospWriteMsg c true 2 data) s fun t =>
      (s.bit (pnB c) F.PN_OSP_CFG.OMCI_OSP = true ∧ s.bit (pnB c) F.PN_OMCC.VALID = true ∧ s.ospUpUsed c + data.length + 2 ≤ 8192 → t.pn c = { s.pn c with lastN := (s.pn c).lastN + 1, omccUp := (s.pn c).omccUp ++ [{ n := (s.pn c).lastN + 1, osp := true, data }] } ∧ t.ctrs = s.ctrs) ∧
      (s.bit (pnB c) F.PN_OSP_CFG.OMCI_OSP = false ∨ s.bit (pnB c) F.PN_OMCC.VALID = false ∨ 8192 < s.ospUpUsed c + data.length + 2 → t.pn c = s.pn c ∧ t.ctrs = (s.pCount c Ctr.PN.OSP_US_DROP).ctrs) ∧
      t.pn (1 - c.val) = s.pn (1 - c.val) ∧ t.out = s.out ++ [.osp c [BitVec.ofNat 8 (s.ospStatus c)]] ∧
      t = { s with pon := t.pon, ctrs := t.ctrs, out := t.out }) ∧
  (∀ (n : BitVec 16) (s : State), s.live 0x08 = true ∧ s.boot.por = false → s.bit (pnB 0) F.PN_OSP_CFG.ENABLE = true →
      s.stage = 0xA → 32 ≤ n.toNat →
    Does (.ospReadEvt 0 n) s fun t =>
      t.evt = { s.evt with ospQ := s.evt.ospQ.tail } ∧
      t.out = s.out ++ [.osp 0 ((BitVec.ofNat 8 (s.ospStatus 0)) :: (s.evt.ospQ.headD (List.replicate 32 0)).take n.toNat)] ∧
      t = { s with evt := t.evt, out := t.out }) ∧
  (∀ (c : PonCh) (n : BitVec 16) (s : State), s.live (0x08 + c.val) = true ∧ s.boot.por = false →
      s.bit (pnB c) F.PN_OSP_CFG.ENABLE = true → s.stage = 0xA → (n.toNat < 32 ∨ c = 1) →
    Does (.ospReadEvt c n) s fun t =>
      t.out = s.out ++ [.osp c (BitVec.ofNat 8 (s.ospStatus c) :: if c = 1 then [] else (s.evt.ospQ.headD (List.replicate 32 0)).take n.toNat)] ∧
      t = { s with out := t.out })

/-- A port that receives adds a good unicast data frame that is no MAC control frame, without its FCS and with its
carried sum, to its ingress FIFO and counts it; a runt, an oversize frame, one with a bad FCS or codeword, a group frame
the hash has no bin for and a frame the FIFO cannot take are dropped and counted; FEC results count. A frame in the MAC
is sent with its checksum insertion, padding and FCS and counts; without link, or past MAX_FRAME, it is discarded and
counted; a one-step message gets the launch time, and a late one is dropped and reported. A collision waits a free
number of slots, of which at most the lowest ten bits count (the draw is a free value); a late or sixteenth one drops
the frame. Everything else, every other port among it, is unchanged. The forms of PTP messages are those of IEEE 1588
and 802.3 (log entry 69). -/
def Obligations.FramesEnterAndLeaveTheMac : Prop :=
  (∀ (n : Port) (x : EthIn) (s : State), s.rxOn n = true → s.laneFec n = 0 →
      ((s.rxFifo n).map fun p => p.bytes.length).sum + s.maxFrame n ≤ 32768 → 64 ≤ (x.bytes.length) →
      (x.bytes.length) ≤ s.maxFrame n → x.whole = true →
      crc32 ((x.bytes.take ((x.bytes.length) - 4))) = leNat (x.bytes.drop ((x.bytes.length) - 4)) →
      beAt ((x.bytes.take ((x.bytes.length) - 4))) 12 2 ≠ 0x8808 → s.bit (tqB n) F.TQ_SEC_CFG.EN = false →
      s.bit (tqB n) F.TQ_PORT_CFG.FILT_MODE = false → beAt ((x.bytes.take ((x.bytes.length) - 4))) 0 1 % 2 = 0 →
      s.bit (tqB n) F.TQ_PTP_CFG.RX_EN = false → s.accepts (0x20 + pipeOf n) = true →
    Does (.rxFrame n x) s fun t =>
      t.pipes = (s.setPipe (pipeOf n) { s.pipe (pipeOf n) with wire := SMap.set (fun _ => []) (s.pipe (pipeOf n)).wire n (s.rxFifo n ++ [if s.bit (tqB n) F.TQ_CSUM_CFG.RX_EN then (({ Packet.new n ((x.bytes.take ((x.bytes.length) - 4))) s.now with rxStamp := none })).setW W.CSUM (ocRange ((x.bytes.take ((x.bytes.length) - 4))) 12 12 ((x.bytes.take ((x.bytes.length) - 4))).length) else ({ Packet.new n ((x.bytes.take ((x.bytes.length) - 4))) s.now with rxStamp := none })]) }).pipes ∧
      t.ctrs = ((s.tqCount n Ctr.TQ.RX_FRAMES).tqCount n Ctr.TQ.RX_BYTES (x.bytes.length)).ctrs ∧
      t = { s with pipes := t.pipes, ctrs := t.ctrs, evt := t.evt, sampN := t.sampN, regs := t.regs } ∧
      RegsBut pmcRegs s t) ∧
  (∀ (n : Port) (x : EthIn) (s : State), s.rxOn n = true → s.laneFec n = 0 →
      ((s.rxFifo n).map fun p => p.bytes.length).sum + s.maxFrame n ≤ 32768 → 64 ≤ (x.bytes.length) →
      (x.bytes.length) ≤ s.maxFrame n → x.whole = true →
      crc32 ((x.bytes.take ((x.bytes.length) - 4))) = leNat (x.bytes.drop ((x.bytes.length) - 4)) →
      beAt ((x.bytes.take ((x.bytes.length) - 4))) 12 2 ≠ 0x8808 → s.bit (tqB n) F.TQ_SEC_CFG.EN = false →
      s.bit (tqB n) F.TQ_PORT_CFG.FILT_MODE = false → beAt ((x.bytes.take ((x.bytes.length) - 4))) 0 1 % 2 = 1 →
      beAt ((x.bytes.take ((x.bytes.length) - 4))) 0 6 ≠ 2 ^ 48 - 1 →
      (s.fld (tqB n) (F.TQ_FILT_HASH.BINS.at (4 * (crc32 (bytesAt ((x.bytes.take ((x.bytes.length) - 4))) 0 6) / 2 ^ 24 % 256 / 32)))).testBit (crc32 (bytesAt ((x.bytes.take ((x.bytes.length) - 4))) 0 6) / 2 ^ 24 % 256 % 32) = false →
    Does (.rxFrame n x) s fun t =>
      t.ctrs = (((s.tqCount n Ctr.TQ.RX_FRAMES).tqCount n Ctr.TQ.RX_BYTES (x.bytes.length)).tqCount n Ctr.TQ.RX_FILTERED).ctrs ∧
      t = { s with ctrs := t.ctrs, evt := t.evt, sampN := t.sampN, regs := t.regs } ∧ RegsBut pmcRegs s t) ∧
  (∀ (n : Port) (x : EthIn) (s : State), s.rxOn n = true → s.laneFec n = 0 →
      ((s.rxFifo n).map fun p => p.bytes.length).sum + s.maxFrame n ≤ 32768 → x.bytes ≠ [] →
      ((x.bytes.length) < 64 ∨ s.maxFrame n < (x.bytes.length) ∨ ((x.whole && decide (4 ≤ (x.bytes.length)) && decide (crc32 ((x.bytes.take ((x.bytes.length) - 4))) = leNat (x.bytes.drop ((x.bytes.length) - 4))))) = false) →
    Does (.rxFrame n x) s fun t =>
      t.ctrs = (s.tqCount n (if (x.bytes.length) < 64 then (if s.bit (tqB n) F.TQ_LANE_STAT.HALF && !((x.whole && decide (4 ≤ (x.bytes.length)) && decide (crc32 ((x.bytes.take ((x.bytes.length) - 4))) = leNat (x.bytes.drop ((x.bytes.length) - 4))))) then Ctr.TQ.RX_COLL_FRAG else Ctr.TQ.RX_RUNT) else if s.maxFrame n < (x.bytes.length) then Ctr.TQ.RX_OVERSIZE else Ctr.TQ.RX_FCS_ERR)).ctrs ∧
      t = { s with ctrs := t.ctrs }) ∧
  (∀ (n : Port) (x : EthIn) (s : State), s.rxOn n = true → s.laneFec n ≠ 0 →
      s.bit (tqB n) F.TQ_LANE_STAT.FEC_LOCK = true →
      ((s.rxFifo n).map fun p => p.bytes.length).sum + s.maxFrame n ≤ 32768 → 64 ≤ x.bytes.length →
      x.bytes.length ≤ s.maxFrame n → x.uncorr ≠ 0 →
    Does (.rxFrame n x) s fun t =>
      t.ctrs = (((s.tqCount n Ctr.TQ.FEC_CORR x.corr).tqCount n Ctr.TQ.FEC_UNCORR x.uncorr).tqCount n Ctr.TQ.RX_FCS_ERR).ctrs ∧
      t = { s with ctrs := t.ctrs }) ∧
  (∀ (n : Port) (x : EthIn) (s : State), s.rxOn n = true → s.laneFec n = 0 → x.bytes ≠ [] →
      32768 < ((s.rxFifo n).map fun p => p.bytes.length).sum + s.maxFrame n →
    Does (.rxFrame n x) s fun t =>
      t.ctrs = (s.tqCount n Ctr.TQ.RX_OVERRUN).ctrs ∧ t.bit (kB (pipeOf n)) F.KP_ARB_STAT.RATE_SHORT = true ∧
      t = { s with ctrs := t.ctrs, evt := t.evt, regs := t.regs } ∧ RegsBut [kB (pipeOf n)+0x44] s t) ∧
  (∀ (n : Port) (x : EthIn) (s : State), (s.rxOn n = false ∨ x.bytes = []) → s.laneFec n = 0 →
    Does (.rxFrame n x) s fun t =>
      t = s) ∧
  (∀ (n : Port) (x : EthIn) (s : State), s.live (quadId n) = true → (s.rxOn n = false ∨ x.bytes = []) → s.laneFec n ≠ 0 →
      s.portState n = 0 → s.bit (tqB n) F.TQ_LANE_STAT.FEC_LOCK = true →
    Does (.rxFrame n x) s fun t =>
      t.ctrs = ((s.tqCount n Ctr.TQ.FEC_CORR x.corr).tqCount n Ctr.TQ.FEC_UNCORR x.uncorr).ctrs ∧
      t = { s with ctrs := t.ctrs }) ∧
  (∀ (n : Port) (st : StampIn) (late deferred : Bool) (p : Packet) (s : State), s.live (quadId n) = true →
      (s.port n).mac = some p → s.timerOn (Tm.backoff n) = false → (s.port n).launch = none → s.halfDuplex n = false →
      s.linkUp n = true → s.ptpMsg n (((s.txCsum n p).bytes)) = none → p.tsReq = false →
      (s.bit (tqB n) F.TQ_SEC_CFG.EN = false ∨ s.bit (tqB n) F.TQ_SEC_CFG.PROTECT = false) →
      max 60 (((s.txCsum n p).bytes)).length + 4 ≤ s.maxFrame n →
    Does (.txFrame n st late deferred) s fun t =>
      t.out = s.out ++ [.frame n (((s.txCsum n p).bytes) ++ List.replicate (60 - (((s.txCsum n p).bytes)).length) 0 ++ leBytes 4 (crc32 (((s.txCsum n p).bytes) ++ List.replicate (60 - (((s.txCsum n p).bytes)).length) 0)))] ∧
      t.tq = SMap.set (fun _ => TqPort.empty) (SMap.set (fun _ => TqPort.empty) s.tq n { s.port n with mac := none, tries := 0 }) n { s.port n with mac := none, tries := 0, busy := s.now + ceilDiv (((max 60 (((s.txCsum n p).bytes)).length + 4) + 12) * 8 * usTicks) (max 1 (s.portRate n)) } ∧
      t.ctrs = ((s.tqCount n Ctr.TQ.TX_FRAMES).tqCount n Ctr.TQ.TX_BYTES (max 60 (((s.txCsum n p).bytes)).length + 4)).ctrs ∧
      t = { s with tq := t.tq, ctrs := t.ctrs, evt := t.evt, sampN := t.sampN, out := t.out, regs := t.regs } ∧
      RegsBut pmcRegs s t) ∧
  (∀ (n : Port) (st : StampIn) (late deferred : Bool) (p : Packet) (s : State), s.live (quadId n) = true →
      (s.port n).mac = some p → s.timerOn (Tm.backoff n) = false → (s.port n).launch = none → s.halfDuplex n = false →
      s.portState n = 0 → s.linkUp n = false →
    Does (.txFrame n st late deferred) s fun t =>
      t.tq = SMap.set (fun _ => TqPort.empty) s.tq n { s.port n with mac := none, tries := 0 } ∧
      t.ctrs = (s.tqCount n Ctr.TQ.TX_LINK_DOWN).ctrs ∧ t = { s with tq := t.tq, ctrs := t.ctrs }) ∧
  (∀ (n : Port) (st : StampIn) (late deferred : Bool) (p : Packet) (s : State), s.live (quadId n) = true →
      (s.port n).mac = some p → s.timerOn (Tm.backoff n) = false → (s.port n).launch = none → s.halfDuplex n = false →
      s.linkUp n = true → s.ptpMsg n (((s.txCsum n p).bytes)) = none →
      (s.bit (tqB n) F.TQ_SEC_CFG.EN = false ∨ s.bit (tqB n) F.TQ_SEC_CFG.PROTECT = false) →
      s.maxFrame n < max 60 (((s.txCsum n p).bytes)).length + 4 →
    Does (.txFrame n st late deferred) s fun t =>
      t.tq = SMap.set (fun _ => TqPort.empty) s.tq n { s.port n with mac := none, tries := 0 } ∧
      t.ctrs = (s.tqCount n Ctr.TQ.TX_OVERSIZE).ctrs ∧ t = { s with tq := t.tq, ctrs := t.ctrs }) ∧
  (∀ (n : Port) (st : StampIn) (late deferred : Bool) (p : Packet) (l : Nat) (k : PtpMsg) (s : State),
      s.live (quadId n) = true → (s.port n).mac = some p → s.timerOn (Tm.backoff n) = false → (s.port n).launch = some l →
      s.xoffWant n = (s.port n).sent → s.halfDuplex n = false → s.linkUp n = true →
      s.ptpMsg n (((s.txCsum n p).bytes)) = some k → 64 ≤ (s.txCsum n p).src → ptpType (((s.txCsum n p).bytes)) k = 0 →
      ptpTwoStep (((s.txCsum n p).bytes)) k = false → s.bit (tqB n) F.TQ_PTP_CFG.ONE_STEP = true → late = false →
      s.bit (tqB n) F.TQ_PTP_CFG.TX_EN = false →
      (s.bit (tqB n) F.TQ_SEC_CFG.EN = false ∨ s.bit (tqB n) F.TQ_SEC_CFG.PROTECT = false) →
      max 60 ((ptpUdpFix (((s.txCsum n p).bytes)) (ptpCorrect ((putBytes (((s.txCsum n p).bytes)) (k.at_ + 34) (beBytes 6 (timeSec ((s.elapseTo l).stampTx (48 + n) { st with ne := max st.ne (s.elapseTo l).tim.rawN } (s.portLat n true))) ++ beBytes 4 (timeNs ((s.elapseTo l).stampTx (48 + n) { st with ne := max st.ne (s.elapseTo l).tim.rawN } (s.portLat n true)))))) k (timeFrac ((s.elapseTo l).stampTx (48 + n) { st with ne := max st.ne (s.elapseTo l).tim.rawN } (s.portLat n true)))) k)).length + 4 ≤ s.maxFrame n →
    Does (.txFrame n st late deferred) s fun t =>
      t.out = s.out ++ [.frame n (withFcs ((ptpUdpFix (((s.txCsum n p).bytes)) (ptpCorrect ((putBytes (((s.txCsum n p).bytes)) (k.at_ + 34) (beBytes 6 (timeSec ((s.elapseTo l).stampTx (48 + n) { st with ne := max st.ne (s.elapseTo l).tim.rawN } (s.portLat n true))) ++ beBytes 4 (timeNs ((s.elapseTo l).stampTx (48 + n) { st with ne := max st.ne (s.elapseTo l).tim.rawN } (s.portLat n true)))))) k (timeFrac ((s.elapseTo l).stampTx (48 + n) { st with ne := max st.ne (s.elapseTo l).tim.rawN } (s.portLat n true)))) k)))] ∧
      t.tq = SMap.set (fun _ => TqPort.empty) (SMap.set (fun _ => TqPort.empty) (SMap.set (fun _ => TqPort.empty) s.tq n { s.port n with mac := none, tries := 0 }) n { s.port n with mac := none, tries := 0, busy := (s.elapseTo l).now + ceilDiv (((max 60 ((ptpUdpFix (((s.txCsum n p).bytes)) (ptpCorrect ((putBytes (((s.txCsum n p).bytes)) (k.at_ + 34) (beBytes 6 (timeSec ((s.elapseTo l).stampTx (48 + n) { st with ne := max st.ne (s.elapseTo l).tim.rawN } (s.portLat n true))) ++ beBytes 4 (timeNs ((s.elapseTo l).stampTx (48 + n) { st with ne := max st.ne (s.elapseTo l).tim.rawN } (s.portLat n true)))))) k (timeFrac ((s.elapseTo l).stampTx (48 + n) { st with ne := max st.ne (s.elapseTo l).tim.rawN } (s.portLat n true)))) k)).length + 4) + 12) * 8 * usTicks) (max 1 (s.portRate n)) }) n { s.port n with mac := none, tries := 0, launch := none, busy := (s.elapseTo l).now + ceilDiv (((max 60 ((ptpUdpFix (((s.txCsum n p).bytes)) (ptpCorrect ((putBytes (((s.txCsum n p).bytes)) (k.at_ + 34) (beBytes 6 (timeSec ((s.elapseTo l).stampTx (48 + n) { st with ne := max st.ne (s.elapseTo l).tim.rawN } (s.portLat n true))) ++ beBytes 4 (timeNs ((s.elapseTo l).stampTx (48 + n) { st with ne := max st.ne (s.elapseTo l).tim.rawN } (s.portLat n true)))))) k (timeFrac ((s.elapseTo l).stampTx (48 + n) { st with ne := max st.ne (s.elapseTo l).tim.rawN } (s.portLat n true)))) k)).length + 4) + 12) * 8 * usTicks) (max 1 (s.portRate n)) } ∧
      t.ctrs = ((((s.elapseTo l).tqCount n Ctr.TQ.TS_ONE_STEP).tqCount n Ctr.TQ.TX_FRAMES).tqCount n Ctr.TQ.TX_BYTES (max 60 ((ptpUdpFix (((s.txCsum n p).bytes)) (ptpCorrect ((putBytes (((s.txCsum n p).bytes)) (k.at_ + 34) (beBytes 6 (timeSec ((s.elapseTo l).stampTx (48 + n) { st with ne := max st.ne (s.elapseTo l).tim.rawN } (s.portLat n true))) ++ beBytes 4 (timeNs ((s.elapseTo l).stampTx (48 + n) { st with ne := max st.ne (s.elapseTo l).tim.rawN } (s.portLat n true)))))) k (timeFrac ((s.elapseTo l).stampTx (48 + n) { st with ne := max st.ne (s.elapseTo l).tim.rawN } (s.portLat n true)))) k)).length + 4)).ctrs ∧
      t = { (s.elapseTo l) with tq := t.tq, ctrs := t.ctrs, evt := t.evt, sampN := t.sampN, out := t.out, regs := t.regs } ∧
      RegsBut pmcRegs (s.elapseTo l) t) ∧
  (∀ (n : Port) (st : StampIn) (late deferred : Bool) (p : Packet) (l : Nat) (k : PtpMsg) (s : State),
      s.live (quadId n) = true → (s.port n).mac = some p → s.timerOn (Tm.backoff n) = false → (s.port n).launch = some l →
      s.xoffWant n = (s.port n).sent → s.halfDuplex n = false → s.linkUp n = true →
      s.ptpMsg n (((s.txCsum n p).bytes)) = some k → 64 ≤ (s.txCsum n p).src → ptpType (((s.txCsum n p).bytes)) k = 0 →
      ptpTwoStep (((s.txCsum n p).bytes)) k = false → s.bit (tqB n) F.TQ_PTP_CFG.ONE_STEP = true → late = true →
    Does (.txFrame n st late deferred) s fun t =>
      t.tq = SMap.set (fun _ => TqPort.empty) (SMap.set (fun _ => TqPort.empty) s.tq n { s.port n with mac := none, tries := 0 }) n { s.port n with mac := none, tries := 0, launch := none } ∧
      t.ctrs = ((s.elapseTo l).tqCount n Ctr.TQ.ONE_STEP_LATE).ctrs ∧
      t.evt = ((s.elapseTo l).tqRaise n Ev.TP_ONE_STEP_LATE [(1, n), (1, 0)]).evt ∧
      t = { (s.elapseTo l) with tq := t.tq, ctrs := t.ctrs, evt := t.evt }) ∧
  (∀ (n : Port) (late deferred : Bool) (p : Packet) (s : State), s.live (quadId n) = true → (s.port n).mac = some p →
      s.timerOn (Tm.backoff n) = false → (s.port n).launch = none → s.halfDuplex n = true → late = false →
      ((s.port n).tries + 1) < 16 →
    Does (.hdCollision n late deferred) s fun t =>
      t.freeNext = s.freeNext + 1 ∧
      t.tq = SMap.set (fun _ => TqPort.empty) s.tq n { s.port n with tries := ((s.port n).tries + 1) } ∧
      SMap.get (fun _ => 0) t.timers (Tm.backoff n) = s.now + (s.quantaTicks n 1 / 16 + Config.free s.freeNext % 2 ^ min ((s.port n).tries + 1) 10 * s.quantaTicks n 1) + 1 ∧
      t.ctrs = (((if deferred = true ∧ (s.port n).tries = 0 then s.tqCount n Ctr.TQ.TX_DEFERRED else s)).tqCount n Ctr.TQ.TX_COLLISIONS).ctrs ∧
      t = { s with tq := t.tq, freeNext := t.freeNext, ctrs := t.ctrs, timers := t.timers } ∧ TimersBut [Tm.backoff n] s t) ∧
  (∀ (n : Port) (late deferred : Bool) (p : Packet) (s : State), s.live (quadId n) = true → (s.port n).mac = some p →
      s.timerOn (Tm.backoff n) = false → (s.port n).launch = none → s.halfDuplex n = true → late = true →
    Does (.hdCollision n late deferred) s fun t =>
      t.tq = SMap.set (fun _ => TqPort.empty) s.tq n { s.port n with mac := none, tries := 0 } ∧
      t.ctrs = ((((if deferred = true ∧ (s.port n).tries = 0 then s.tqCount n Ctr.TQ.TX_DEFERRED else s)).tqCount n Ctr.TQ.TX_COLLISIONS).tqCount n Ctr.TQ.TX_LATE_COLL).ctrs ∧
      t = { s with tq := t.tq, ctrs := t.ctrs }) ∧
  (∀ (n : Port) (late deferred : Bool) (p : Packet) (s : State), s.live (quadId n) = true → (s.port n).mac = some p →
      s.timerOn (Tm.backoff n) = false → (s.port n).launch = none → s.halfDuplex n = true → late = false →
      15 ≤ (s.port n).tries →
    Does (.hdCollision n late deferred) s fun t =>
      t.tq = SMap.set (fun _ => TqPort.empty) s.tq n { s.port n with mac := none, tries := 0 } ∧
      t.ctrs = (((s.tqCount n Ctr.TQ.TX_COLLISIONS).tqCount n Ctr.TQ.TX_EXCESS_COLL)).ctrs ∧
      t.evt = (s.tqRaiseMs n Ev.TP_EXCESS_COLL [(1, n), (2, (((s.tqCount n Ctr.TQ.TX_COLLISIONS).tqCount n Ctr.TQ.TX_EXCESS_COLL)).ctr (tqB n + Ctr.TQ.TX_EXCESS_COLL))]).evt ∧
      t = { s with tq := t.tq, ctrs := t.ctrs, evt := t.evt }) ∧
  (∀ (n : Port) (s : State), s.live (quadId n) = true → s.timerOn (Tm.backoff n) = true →
    Does (.hdBackoffExpiry n) s fun t =>
      t.timerOn (Tm.backoff n) = false ∧ t.tq = s.tq ∧
      t = { (s.elapseTo (SMap.get (fun _ => 0) s.timers (Tm.backoff n) - 1)) with timers := t.timers } ∧
      TimersBut [Tm.backoff n] (s.elapseTo (SMap.get (fun _ => 0) s.timers (Tm.backoff n) - 1)) t)

/-- Where the master may write TQ_SEC_CMD and BUSY is 0, a read shows the entry's words (three of an SC, seven of an SA)
in the data registers; a write keeps of them the fields R389 gives, for an SA only if its slot holds a key a SecY may
use, else CAUSE is 010 and nothing is written; an invalidate clears VALID; an INDEX out of range gives CAUSE 101; each
sets BUSY, and the completion clears it. INJ_ONE inverts one of the next 64 bits while the generator runs, which one is
a free value (log entry 192); CLR zeroes the error count and bit counter. A PON lane that is not OUT discards both. A
lane out of service sends the generator's pattern, or in far-end loop what it receives; its checker, in LOCK, counts
each bit and each error, and out of LOCK takes it after 64 bits without error in a row, and reports it. Nothing else
changes. -/
def Obligations.SecyEntriesAndTestPatterns : Prop :=
  (∀ (m : Master) (n : Port) (sp : Fin 3) (i : BitVec 5) (k : Nat) (s : State), s.reaches m (tqB n + 0x310) = true →
      s.bit (tqB n) F.TQ_SEC_CMD.BUSY = false → secIx sp i.toNat = some k → sp ≠ 1 →
    Does (.tqSecRead m n sp i) s fun t =>
      t.regWords (tqB n + 0x314) 7 = natWords 7 (s.sec n k) ∧
      t.reg (tqB n + 0x310) = BitVec.ofNat 32 (2 ^ 31 + sp * 2 ^ 18 + i.toNat) ∧ t = { s with regs := t.regs } ∧
      RegsBut ((List.range 8).map fun j => tqB n.val + 0x310 + 4 * j) s t) ∧
  (∀ (m : Master) (n : Port) (sp : Fin 3) (i : BitVec 5) (s : State), s.reaches m (tqB n + 0x310) = true →
      s.bit (tqB n) F.TQ_SEC_CMD.BUSY = false → i.toNat < 8 →
    Does (.tqSecRead m n 1 i) s fun t =>
      t.regWords (tqB n + 0x314) 3 = natWords 3 (s.sec n (8 + i.toNat)) ∧ t = { s with regs := t.regs } ∧
      RegsBut ((List.range 4).map fun j => tqB n.val + 0x310 + 4 * j) s t) ∧
  (∀ (m : Master) (n : Port) (sp : Fin 3) (i : BitVec 5) (k : Nat) (s : State), s.reaches m (tqB n + 0x310) = true →
      s.bit (tqB n) F.TQ_SEC_CMD.BUSY = false → secIx sp i.toNat = some k →
      (sp = 1 ∨ (s.secKey (bits (wordsNat (s.regWords (tqB n + 0x314) 7)) 9 0)).isSome = true) →
    Does (.tqSecWrite m n sp i) s fun t =>
      (t.sec n k = if sp = 1 then bits (wordsNat (s.regWords (tqB n + 0x314) 7)) 31 31 * 2 ^ 31 + bits (wordsNat (s.regWords (tqB n + 0x314) 7)) 95 32 * 2 ^ 32 else bits (wordsNat (s.regWords (tqB n + 0x314) 7)) 31 31 * 2 ^ 31 + bits (wordsNat (s.regWords (tqB n + 0x314) 7)) 9 0 + bits (wordsNat (s.regWords (tqB n + 0x314) 7)) 223 32 * 2 ^ 32) ∧
      t.tq = (s.setSec n k (t.sec n k)).tq ∧ t.fld (tqB n) F.TQ_SEC_CMD.CAUSE = 0 ∧
      t.bit (tqB n) F.TQ_SEC_CMD.BUSY = true ∧ t = { s with tq := t.tq, regs := t.regs } ∧ RegsBut [tqB n.val + 0x310] s t) ∧
  (∀ (m : Master) (n : Port) (sp : Fin 3) (i : BitVec 5) (k : Nat) (s : State), s.reaches m (tqB n + 0x310) = true →
      s.bit (tqB n) F.TQ_SEC_CMD.BUSY = false → secIx sp i.toNat = some k → sp ≠ 1 →
      s.secKey (bits (wordsNat (s.regWords (tqB n + 0x314) 7)) 9 0) = none →
    Does (.tqSecWrite m n sp i) s fun t =>
      t.fld (tqB n) F.TQ_SEC_CMD.CAUSE = 2 ∧ t.bit (tqB n) F.TQ_SEC_CMD.BUSY = true ∧ t = { s with regs := t.regs } ∧
      RegsBut [tqB n.val + 0x310] s t) ∧
  (∀ (m : Master) (n : Port) (sp : Fin 3) (i : BitVec 5) (k : Nat) (s : State), s.reaches m (tqB n + 0x310) = true →
      s.bit (tqB n) F.TQ_SEC_CMD.BUSY = false → secIx sp i.toNat = some k →
    Does (.tqSecInvalidate m n sp i) s fun t =>
      t.tq = (s.setSec n k (setBits (s.sec n k) 31 31 0)).tq ∧ t.fld (tqB n) F.TQ_SEC_CMD.CAUSE = 0 ∧
      t.bit (tqB n) F.TQ_SEC_CMD.BUSY = true ∧ t = { s with tq := t.tq, regs := t.regs } ∧ RegsBut [tqB n.val + 0x310] s t) ∧
  (∀ (m : Master) (n : Port) (sp : Fin 3) (i : BitVec 5) (s : State), s.reaches m (tqB n + 0x310) = true →
      s.bit (tqB n) F.TQ_SEC_CMD.BUSY = false → secIx sp i.toNat = none →
    Does (.tqSecInvalidate m n sp i) s fun t =>
      t.fld (tqB n) F.TQ_SEC_CMD.CAUSE = 5 ∧ t.bit (tqB n) F.TQ_SEC_CMD.BUSY = true ∧ t = { s with regs := t.regs } ∧
      RegsBut [tqB n.val + 0x310] s t) ∧
  (∀ (n : Port) (s : State), s.live (quadId n) = true →
    Does (.tqSecCmdDone n) s fun t =>
      t.bit (tqB n) F.TQ_SEC_CMD.BUSY = false ∧ t = { s with regs := t.regs } ∧ RegsBut [tqB n.val + 0x310] s t) ∧
  (∀ (m : Master) (lane : Fin 50) (s : State), s.reaches m (tqB lane) = true → lane.val < 48 → s.laneOut lane = true →
      s.bit (tqB lane) F.TQ_PRBS_CTRL.CHK_EN = true → s.bit (tqB lane) F.TQ_PRBS_CTRL.BEN_ON = false →
      s.bit (tqB lane) F.TQ_PRBS_CTRL.INJ_ONE = false → s.bit (tqB lane) F.TQ_PRBS_CTRL.CLR = false →
      s.bit (tqB lane) F.TQ_PRBS_CTRL.GEN_EN = true →
    Does (.prbsInjOne m lane) s fun t =>
      t.out = s.out ++ [.prbsInject lane] ∧
      t.prbs = SMap.set (fun _ => Prbs.idle) s.prbs lane { s.prbsOf lane with one := some (Config.free s.freeNext % 64) } ∧
      t.freeNext = s.freeNext + 1 ∧ t.prbsWord lane = s.prbsWord lane ∧
      t = { s with out := t.out, prbs := t.prbs, freeNext := t.freeNext, regs := t.regs } ∧
      RegsBut [tqB lane.val+0x90] s t) ∧
  (∀ (m : Master) (lane : Fin 50) (s : State), s.reaches m (tqB lane) = true → lane.val < 48 → s.laneOut lane = true →
      s.bit (tqB lane) F.TQ_PRBS_CTRL.CHK_EN = true → s.bit (tqB lane) F.TQ_PRBS_CTRL.BEN_ON = false →
      s.bit (tqB lane) F.TQ_PRBS_CTRL.INJ_ONE = false → s.bit (tqB lane) F.TQ_PRBS_CTRL.CLR = false →
      s.bit (tqB lane) F.TQ_PRBS_CTRL.GEN_EN = false →
    Does (.prbsInjOne m lane) s fun t =>
      t.prbsWord lane = s.prbsWord lane ∧ t = { s with regs := t.regs } ∧ RegsBut [tqB lane.val+0x90] s t) ∧
  (∀ (m : Master) (lane : Fin 50) (s : State), s.reaches m (prbsB lane) = true → 48 ≤ lane.val → s.laneOut lane = true →
      s.bit (pnB (lane.val - 48)) F.PN_PRBS_CTRL.GEN_EN = true →
      s.bit (pnB (lane.val - 48)) F.PN_PRBS_CTRL.CHK_EN = true →
      s.bit (pnB (lane.val - 48)) F.PN_PRBS_CTRL.INJ_ONE = false → s.align (lane.val - 48) = 3 →
      ((s.pn (lane.val - 48)).benFrom.isSome && (s.pn (lane.val - 48)).benTill.isNone) = s.bit (pnB (lane.val - 48)) F.PN_PRBS_CTRL.BEN_ON →
    Does (.prbsInjOne m lane) s fun t =>
      t.out = s.out ++ [.prbsInject lane] ∧
      t.prbs = SMap.set (fun _ => Prbs.idle) s.prbs lane { s.prbsOf lane with one := some (Config.free s.freeNext % 64) } ∧
      t.freeNext = s.freeNext + 1 ∧ t.prbsWord lane = s.prbsWord lane ∧
      t = { s with out := t.out, prbs := t.prbs, freeNext := t.freeNext, regs := t.regs } ∧
      RegsBut [pnB (lane.val - 48)+0x600] s t) ∧
  (∀ (m : Master) (lane : Fin 50) (s : State), s.reaches m (prbsB lane) = true → 48 ≤ lane.val → s.laneOut lane = false →
    Does (.prbsInjOne m lane) s fun t =>
      t = s) ∧
  (∀ (m : Master) (lane : Fin 50) (s : State), s.reaches m (tqB lane) = true → lane.val < 48 → s.laneOut lane = true →
      s.bit (tqB lane) F.TQ_PRBS_CTRL.CHK_EN = true → s.bit (tqB lane) F.TQ_PRBS_CTRL.BEN_ON = false →
      s.bit (tqB lane) F.TQ_PRBS_CTRL.INJ_ONE = false → s.bit (tqB lane) F.TQ_PRBS_CTRL.CLR = false →
    Does (.prbsClr m lane) s fun t =>
      t.fld (tqB lane) F.TQ_PRBS_ERR.ERRORS = 0 ∧ t.ctr (tqB lane + Ctr.TQ.PRBS_BITS) = 0 ∧
      t.prbsWord lane = s.prbsWord lane ∧ t = { s with ctrs := t.ctrs, regs := t.regs } ∧
      RegsBut [tqB lane.val+0x90,tqB lane.val+0x98] s t ∧ CtrsBut [tqB lane.val+Ctr.TQ.PRBS_BITS] s t) ∧
  (∀ (m : Master) (lane : Fin 50) (s : State), s.reaches m (prbsB lane) = true → 48 ≤ lane.val → s.laneOut lane = false →
    Does (.prbsClr m lane) s fun t =>
      t = s) ∧
  (∀ (lane : Fin 50) (bits : List Bool) (times : Nat) (rest : List Bool) (s : State), s.laneOut lane = false →
    Does (.prbsLockChange lane bits times rest) s fun t =>
      t = s) ∧
  (∀ (lane : Fin 50) (bits : List Bool) (times : Nat) (rest : List Bool) (s : State), s.laneOut lane = true →
      s.prbsV lane F.TQ_PRBS_CTRL.CHK_EN = 0 → s.prbsV lane F.TQ_PRBS_CTRL.GEN_EN = 1 → s.laneLoop lane = 0 →
      (laneBits bits times rest) ≠ [] →
    Does (.prbsLockChange lane bits times rest) s fun t =>
      t.prbs = (((List.range ((laneBits bits times rest)).length).foldl (fun r i => ((r.1.prbsSend lane).1, r.2 ++ [(r.1.prbsSend lane).2])) (s, []))).1.prbs ∧
      t.out = s.out ++ [.pattern lane (s.laneRate lane) (((List.range ((laneBits bits times rest)).length).foldl (fun r i => ((r.1.prbsSend lane).1, r.2 ++ [(r.1.prbsSend lane).2])) (s, []))).2] ∧
      t = { s with prbs := t.prbs, out := t.out }) ∧
  (∀ (lane : Fin 50) (bits : List Bool) (times : Nat) (rest : List Bool) (s : State), s.laneOut lane = true →
      s.prbsV lane F.TQ_PRBS_CTRL.CHK_EN = 0 → s.prbsV lane F.TQ_PRBS_CTRL.GEN_EN = 0 →
    Does (.prbsLockChange lane bits times rest) s fun t =>
      (t.out = s.out ++ if s.laneLoop lane = 4 ∧ (laneBits bits times rest) ≠ [] then [.pattern lane (s.laneRate lane) ((laneBits bits times rest))] else []) ∧
      t = { s with out := t.out }) ∧
  (∀ (lane : Fin 50) (bits : List Bool) (times : Nat) (rest : List Bool) (x : Bool) (s : State), s.laneOut lane = true →
      s.prbsV lane F.TQ_PRBS_CTRL.CHK_EN = 1 → s.prbsV lane F.TQ_PRBS_CTRL.GEN_EN = 0 →
      s.bit (prbsB lane) (prbsF lane F.TQ_PRBS_STAT.LOCK) = true → s.laneLoop lane = 0 →
      (laneBits bits times rest) = [x] → (s.prbsOf lane).errs < 16 →
    Does (.prbsLockChange lane bits times rest) s fun t =>
      t.prbs = SMap.set (fun _ => Prbs.idle) s.prbs lane { s.prbsOf lane with chk := polyPush (s.prbsOf lane).chk (polyNext (polyTaps (s.prbsV lane F.TQ_PRBS_CTRL.POLY)) (s.prbsOf lane).chk), win := (2 * (s.prbsOf lane).win + b2n ((polyNext (polyTaps (s.prbsV lane F.TQ_PRBS_CTRL.POLY)) (s.prbsOf lane).chk) != (x != decide (s.prbsV lane F.TQ_PRBS_CTRL.INV = 1)))) % 2 ^ 64 } ∧
      t.ctrs = (s.count (prbsB lane + (if lane.val < 48 then Ctr.TQ.PRBS_BITS else Ctr.PN.PRBS_BITS))).ctrs ∧
      t.fld (prbsB lane) ((prbsF lane F.TQ_PRBS_ERR.ERRORS)) = min (2 ^ 32 - 1) (s.fld (prbsB lane) ((prbsF lane F.TQ_PRBS_ERR.ERRORS)) + b2n ((polyNext (polyTaps (s.prbsV lane F.TQ_PRBS_CTRL.POLY)) (s.prbsOf lane).chk) != (x != decide (s.prbsV lane F.TQ_PRBS_CTRL.INV = 1)))) ∧
      t = { s with prbs := t.prbs, ctrs := t.ctrs, regs := t.regs } ∧
      RegsBut [prbsB lane.val+(prbsF lane.val F.TQ_PRBS_ERR.ERRORS).off] s t) ∧
  (∀ (lane : Fin 50) (bits : List Bool) (times : Nat) (rest : List Bool) (x : Bool) (s : State), s.laneOut lane = true →
      s.prbsV lane F.TQ_PRBS_CTRL.CHK_EN = 1 → s.prbsV lane F.TQ_PRBS_CTRL.GEN_EN = 0 →
      s.bit (prbsB lane) (prbsF lane F.TQ_PRBS_STAT.LOCK) = false → s.laneLoop lane = 0 →
      (laneBits bits times rest) = [x] → ((polyTaps (s.prbsV lane F.TQ_PRBS_CTRL.POLY))).1 ≤ ((s.prbsOf lane)).seed →
    Does (.prbsLockChange lane bits times rest) s fun t =>
      ((polyNext ((polyTaps (s.prbsV lane F.TQ_PRBS_CTRL.POLY))) ((s.prbsOf lane)).chk != (x != decide (s.prbsV lane F.TQ_PRBS_CTRL.INV = 1))) = true → t.prbs = SMap.set (fun _ => Prbs.idle) s.prbs lane { (s.prbsOf lane) with seed := 0, run := 0, win := 0 } ∧ t.regs = s.regs) ∧
      ((polyNext ((polyTaps (s.prbsV lane F.TQ_PRBS_CTRL.POLY))) ((s.prbsOf lane)).chk != (x != decide (s.prbsV lane F.TQ_PRBS_CTRL.INV = 1))) = false → t.prbs = SMap.set (fun _ => Prbs.idle) s.prbs lane { (s.prbsOf lane) with chk := polyPush ((s.prbsOf lane)).chk (x != decide (s.prbsV lane F.TQ_PRBS_CTRL.INV = 1)), run := ((s.prbsOf lane)).run + 1 }) ∧
      ((polyNext ((polyTaps (s.prbsV lane F.TQ_PRBS_CTRL.POLY))) ((s.prbsOf lane)).chk != (x != decide (s.prbsV lane F.TQ_PRBS_CTRL.INV = 1))) = false ∧ ((s.prbsOf lane)).run = 63 → t.bit (prbsB lane) (prbsF lane F.TQ_PRBS_STAT.LOCK) = true ∧ t.evt = (s.raise Ev.TP_PRBS_LOCK (if lane.val < 48 then quadId lane else lane.val - 40) (if lane.val < 48 then lane.val % 4 else noInst) [(1, lane.val), (1, 1)]).evt) ∧
      (((s.prbsOf lane)).run < 63 → t.evt = s.evt ∧ t.regs = s.regs) ∧
      t = { s with prbs := t.prbs, evt := t.evt, regs := t.regs } ∧
      RegsBut [prbsB lane.val+(prbsF lane.val F.TQ_PRBS_STAT.LOCK).off,prbsB lane.val+(prbsF lane.val F.TQ_PRBS_ERR.ERRORS).off] s t)

/-- A lane PLL's new lock bit is shown and reported; on a loss every lane of the quad that uses it loses SYNC, HI_BER,
FEC_LOCK, AN_DONE and LINK. CDR_LOCK shows the recovery circuit; its loss is a loss of sync. Sync is gained only IN and
on a recovered clock. FEC_LOCK of a 25GBASE-R lane with FEC, HI_BER of a 64B/66B lane in sync (reported), and AN_DONE of
a lane that negotiates (in SGMII with the partner's speed and duplex, 3 acting as 2) follow what the lane finds. After
each, LINK is 1 exactly when the port is IN and enabled with no CFG_ERR, its PLL locked, in sync, without HI_BER, with
FEC lock and negotiation done where they apply; a change of it raises TP_LINK with the cause, at most once per 1 ms for
each direction, and a loss counts. Nothing else changes but what R135 does to a channel in O5 when a radio port's link
changes. -/
def Obligations.LinkFollowsItsConditions : Prop :=
  (∀ (q : Fin 12) (pll : Fin 2) (lock : Bool) (s : State),
      s.bit (quadB q) ((if pll = 0 then F.TQ_QUAD_PLL.PLL0_LOCK else F.TQ_QUAD_PLL.PLL1_LOCK)) = false → lock = true →
    Does (.tqPllLockChange q pll lock) s fun t =>
      t.bit (quadB q) ((if pll = 0 then F.TQ_QUAD_PLL.PLL0_LOCK else F.TQ_QUAD_PLL.PLL1_LOCK)) = true ∧
      t.evt = (s.raise (Ev.TQ_PLL + q) (0x10 + q) noInst [(1, pll.val), (1, 1), (1, 0)]).evt ∧
      t = { s with evt := t.evt, regs := t.regs } ∧ RegsBut [quadB q.val+0x8000] s t) ∧
  (∀ (q : Fin 12) (pll : Fin 2) (lock : Bool) (s : State),
      s.bit (quadB q) ((if pll = 0 then F.TQ_QUAD_PLL.PLL0_LOCK else F.TQ_QUAD_PLL.PLL1_LOCK)) = true → lock = false →
    Does (.tqPllLockChange q pll lock) s fun t =>
      t.bit (quadB q) ((if pll = 0 then F.TQ_QUAD_PLL.PLL0_LOCK else F.TQ_QUAD_PLL.PLL1_LOCK)) = false ∧
      (quadPorts q).all (fun n => decide (s.tqF n F.TQ_LANE_CFG.PLL_SEL = pll → (t.bit (tqB n) F.TQ_LANE_STAT.SYNC = false ∧ t.bit (tqB n) F.TQ_LANE_STAT.HI_BER = false ∧ t.bit (tqB n) F.TQ_LANE_STAT.FEC_LOCK = false ∧ t.bit (tqB n) F.TQ_LANE_STAT.AN_DONE = false ∧ t.linkUp n = false))) = true ∧
      (s.act 0 ≠ 5 ∧ s.act 1 ≠ 5 ∧ ((quadPorts q).all fun n => !s.linkUp n) = true → t.evt = (s.raise (Ev.TQ_PLL + q) (0x10 + q) noInst [(1, pll.val), (1, 0), (1, 0)]).evt ∧ t.ctrs = s.ctrs) ∧
      OnlyBens s t ∧
      t = { s with out := t.out, pon := t.pon, ctrs := t.ctrs, evt := t.evt, timers := t.timers, regs := t.regs } ∧
      TimersBut [Tm.ps 0,Tm.ps 1] s t ∧
      RegsBut ([quadB q.val+0x8000,(pnB 0+0x104),(pnB 1+0x104)] ++ (quadPorts q.val).map fun n => tqB n+0x4) s t) ∧
  (∀ (n : Port) (lock : Bool) (s : State), lock = true →
    Does (.tqCdrLockChange n lock) s fun t =>
      t.bit (tqB n) F.TQ_LANE_STAT.CDR_LOCK = true ∧ t.tim = { s.tim with synceOut := t.tim.synceOut } ∧
      t = { s with tim := t.tim, regs := t.regs } ∧ RegsBut [(tqB n.val+0x4)] s t) ∧
  (∀ (n : Port) (lock : Bool) (s : State), lock = false →
    Does (.tqCdrLockChange n lock) s fun t =>
      t.bit (tqB n) F.TQ_LANE_STAT.CDR_LOCK = false ∧
      (t.bit (tqB n) F.TQ_LANE_STAT.SYNC = false ∧ t.bit (tqB n) F.TQ_LANE_STAT.HI_BER = false ∧ t.bit (tqB n) F.TQ_LANE_STAT.FEC_LOCK = false ∧ t.bit (tqB n) F.TQ_LANE_STAT.AN_DONE = false ∧ t.linkUp n = false) ∧
      (s.act 0 ≠ 5 ∧ s.act 1 ≠ 5 → t.evt = (if s.linkUp n then (s.raiseMs (b2n (false)) (Ev.TP_LINK + n) (quadId n) (n % 4) [(1, b2n (false)), (1, s.tqF n F.TQ_LANE_STAT.SPEED), (1, s.tqF n F.TQ_LANE_STAT.HALF), (1, (0))]) else s).evt ∧ t.ctrs = (if s.linkUp n then s.tqCount n Ctr.TQ.LINK_LOSS else s).ctrs) ∧
      OnlyBens s t ∧ t.tim = { s.tim with synceOut := t.tim.synceOut } ∧
      t = { s with tim := t.tim, out := t.out, pon := t.pon, ctrs := t.ctrs, evt := t.evt, timers := t.timers, regs := t.regs } ∧
      TimersBut [Tm.ps 0,Tm.ps 1] s t ∧ RegsBut [(tqB n.val+0x4),(pnB 0+0x104),(pnB 1+0x104)] s t) ∧
  (∀ (n : Port) (sync : Bool) (s : State), s.live (quadId n) = true → sync = false →
    Does (.tqPcsSyncChange n sync) s fun t =>
      (t.bit (tqB n) F.TQ_LANE_STAT.SYNC = false ∧ t.bit (tqB n) F.TQ_LANE_STAT.HI_BER = false ∧ t.bit (tqB n) F.TQ_LANE_STAT.FEC_LOCK = false ∧ t.bit (tqB n) F.TQ_LANE_STAT.AN_DONE = false ∧ t.linkUp n = false) ∧
      (s.act 0 ≠ 5 ∧ s.act 1 ≠ 5 → t.evt = (if s.linkUp n then (s.raiseMs (b2n (false)) (Ev.TP_LINK + n) (quadId n) (n % 4) [(1, b2n (false)), (1, s.tqF n F.TQ_LANE_STAT.SPEED), (1, s.tqF n F.TQ_LANE_STAT.HALF), (1, (0))]) else s).evt ∧ t.ctrs = (if s.linkUp n then s.tqCount n Ctr.TQ.LINK_LOSS else s).ctrs) ∧
      OnlyBens s t ∧
      t = { s with out := t.out, pon := t.pon, ctrs := t.ctrs, evt := t.evt, timers := t.timers, regs := t.regs } ∧
      TimersBut [Tm.ps 0,Tm.ps 1] s t ∧ RegsBut [(tqB n.val+0x4),(pnB 0+0x104),(pnB 1+0x104)] s t) ∧
  (∀ (n : Port) (sync : Bool) (s : State), s.live (quadId n) = true → sync = true → s.portState n = 0 →
      s.bit (tqB n) F.TQ_LANE_STAT.CDR_LOCK = true → s.linkUp n = false →
    Does (.tqPcsSyncChange n sync) s fun t =>
      t.bit (tqB n) F.TQ_LANE_STAT.SYNC = true ∧
      t.linkUp n = ((decide (s.portState n = 0) && decide (s.laneMode n ≠ 0) && !s.bit (tqB n) F.TQ_LANE_STAT.CFG_ERR && s.lanePll n) && !s.bit (tqB n) F.TQ_LANE_STAT.HI_BER && ((decide (s.laneFec n = 0) || s.bit (tqB n) F.TQ_LANE_STAT.FEC_LOCK)) && ((!s.anRuns n || s.bit (tqB n) F.TQ_LANE_STAT.AN_DONE))) ∧
      (s.act 0 ≠ 5 ∧ s.act 1 ≠ 5 → t.evt = (if ((decide (s.portState n = 0) && decide (s.laneMode n ≠ 0) && !s.bit (tqB n) F.TQ_LANE_STAT.CFG_ERR && s.lanePll n) && !s.bit (tqB n) F.TQ_LANE_STAT.HI_BER && ((decide (s.laneFec n = 0) || s.bit (tqB n) F.TQ_LANE_STAT.FEC_LOCK)) && ((!s.anRuns n || s.bit (tqB n) F.TQ_LANE_STAT.AN_DONE))) then (s.raiseMs (b2n ((decide (s.portState n = 0) && decide (s.laneMode n ≠ 0) && !s.bit (tqB n) F.TQ_LANE_STAT.CFG_ERR && s.lanePll n) && !s.bit (tqB n) F.TQ_LANE_STAT.HI_BER && ((decide (s.laneFec n = 0) || s.bit (tqB n) F.TQ_LANE_STAT.FEC_LOCK)) && ((!s.anRuns n || s.bit (tqB n) F.TQ_LANE_STAT.AN_DONE)))) (Ev.TP_LINK + n) (quadId n) (n % 4) [(1, b2n ((decide (s.portState n = 0) && decide (s.laneMode n ≠ 0) && !s.bit (tqB n) F.TQ_LANE_STAT.CFG_ERR && s.lanePll n) && !s.bit (tqB n) F.TQ_LANE_STAT.HI_BER && ((decide (s.laneFec n = 0) || s.bit (tqB n) F.TQ_LANE_STAT.FEC_LOCK)) && ((!s.anRuns n || s.bit (tqB n) F.TQ_LANE_STAT.AN_DONE)))), (1, s.tqF n F.TQ_LANE_STAT.SPEED), (1, s.tqF n F.TQ_LANE_STAT.HALF), (1, (0))]) else s).evt) ∧
      OnlyBens s t ∧
      t = { s with out := t.out, pon := t.pon, ctrs := t.ctrs, evt := t.evt, timers := t.timers, regs := t.regs } ∧
      TimersBut [Tm.ps 0,Tm.ps 1] s t ∧ RegsBut [(tqB n.val+0x4),(pnB 0+0x104),(pnB 1+0x104)] s t) ∧
  (∀ (n : Port) (sync : Bool) (s : State), sync = true →
      (s.portState n ≠ 0 ∨ s.bit (tqB n) F.TQ_LANE_STAT.CDR_LOCK = false) →
    Does (.tqPcsSyncChange n sync) s fun t =>
      t = s) ∧
  (∀ (n : Port) (lock : Bool) (s : State), s.live (quadId n) = true → s.laneFec n ≠ 0 → s.portState n = 0 →
    Does (.tqFecLockChange n lock) s fun t =>
      t.bit (tqB n) F.TQ_LANE_STAT.FEC_LOCK = lock ∧
      t.linkUp n = (((decide (s.portState n = 0) && decide (s.laneMode n ≠ 0) && !s.bit (tqB n) F.TQ_LANE_STAT.CFG_ERR && s.lanePll n) && s.bit (tqB n) F.TQ_LANE_STAT.SYNC) && !s.bit (tqB n) F.TQ_LANE_STAT.HI_BER && lock && ((!s.anRuns n || s.bit (tqB n) F.TQ_LANE_STAT.AN_DONE))) ∧
      (s.act 0 ≠ 5 ∧ s.act 1 ≠ 5 → t.evt = (if s.linkUp n = (((decide (s.portState n = 0) && decide (s.laneMode n ≠ 0) && !s.bit (tqB n) F.TQ_LANE_STAT.CFG_ERR && s.lanePll n) && s.bit (tqB n) F.TQ_LANE_STAT.SYNC) && !s.bit (tqB n) F.TQ_LANE_STAT.HI_BER && lock && ((!s.anRuns n || s.bit (tqB n) F.TQ_LANE_STAT.AN_DONE))) then s else (s.raiseMs (b2n (((decide (s.portState n = 0) && decide (s.laneMode n ≠ 0) && !s.bit (tqB n) F.TQ_LANE_STAT.CFG_ERR && s.lanePll n) && s.bit (tqB n) F.TQ_LANE_STAT.SYNC) && !s.bit (tqB n) F.TQ_LANE_STAT.HI_BER && lock && ((!s.anRuns n || s.bit (tqB n) F.TQ_LANE_STAT.AN_DONE)))) (Ev.TP_LINK + n) (quadId n) (n % 4) [(1, b2n (((decide (s.portState n = 0) && decide (s.laneMode n ≠ 0) && !s.bit (tqB n) F.TQ_LANE_STAT.CFG_ERR && s.lanePll n) && s.bit (tqB n) F.TQ_LANE_STAT.SYNC) && !s.bit (tqB n) F.TQ_LANE_STAT.HI_BER && lock && ((!s.anRuns n || s.bit (tqB n) F.TQ_LANE_STAT.AN_DONE)))), (1, s.tqF n F.TQ_LANE_STAT.SPEED), (1, s.tqF n F.TQ_LANE_STAT.HALF), (1, (2))])).evt ∧ t.ctrs = (if s.linkUp n && !((((decide (s.portState n = 0) && decide (s.laneMode n ≠ 0) && !s.bit (tqB n) F.TQ_LANE_STAT.CFG_ERR && s.lanePll n) && s.bit (tqB n) F.TQ_LANE_STAT.SYNC) && !s.bit (tqB n) F.TQ_LANE_STAT.HI_BER && lock && ((!s.anRuns n || s.bit (tqB n) F.TQ_LANE_STAT.AN_DONE)))) then s.tqCount n Ctr.TQ.LINK_LOSS else s).ctrs) ∧
      OnlyBens s t ∧
      t = { s with out := t.out, pon := t.pon, ctrs := t.ctrs, evt := t.evt, timers := t.timers, regs := t.regs } ∧
      TimersBut [Tm.ps 0,Tm.ps 1] s t ∧ RegsBut [(tqB n.val+0x4),(pnB 0+0x104),(pnB 1+0x104)] s t) ∧
  (∀ (n : Port) (bad : Bool) (s : State), s.live (quadId n) = true → (s.laneMode n = 1 ∨ s.laneMode n = 2) →
      s.bit (tqB n) F.TQ_LANE_STAT.SYNC = true → s.bit (tqB n) F.TQ_LANE_STAT.HI_BER ≠ bad →
    Does (.hiBerWindow n bad) s fun t =>
      t.bit (tqB n) F.TQ_LANE_STAT.HI_BER = bad ∧
      t.linkUp n = (((decide (s.portState n = 0) && decide (s.laneMode n ≠ 0) && !s.bit (tqB n) F.TQ_LANE_STAT.CFG_ERR && s.lanePll n) && s.bit (tqB n) F.TQ_LANE_STAT.SYNC) && !bad && ((decide (s.laneFec n = 0) || s.bit (tqB n) F.TQ_LANE_STAT.FEC_LOCK)) && ((!s.anRuns n || s.bit (tqB n) F.TQ_LANE_STAT.AN_DONE))) ∧
      (s.act 0 ≠ 5 ∧ s.act 1 ≠ 5 ∧ s.linkUp n = (((decide (s.portState n = 0) && decide (s.laneMode n ≠ 0) && !s.bit (tqB n) F.TQ_LANE_STAT.CFG_ERR && s.lanePll n) && s.bit (tqB n) F.TQ_LANE_STAT.SYNC) && !bad && ((decide (s.laneFec n = 0) || s.bit (tqB n) F.TQ_LANE_STAT.FEC_LOCK)) && ((!s.anRuns n || s.bit (tqB n) F.TQ_LANE_STAT.AN_DONE))) → t.evt = ((s.tqRaiseMs n Ev.TP_HI_BER [(1, n), (1, b2n bad)])).evt ∧ t.ctrs = s.ctrs) ∧
      OnlyBens s t ∧
      t = { s with out := t.out, pon := t.pon, ctrs := t.ctrs, evt := t.evt, timers := t.timers, regs := t.regs } ∧
      TimersBut [Tm.ps 0,Tm.ps 1] s t ∧ RegsBut [(tqB n.val+0x4),(pnB 0+0x104),(pnB 1+0x104)] s t) ∧
  (∀ (n : Port) (bad : Bool) (s : State),
      ((s.laneMode n ≠ 1 ∧ s.laneMode n ≠ 2) ∨ s.bit (tqB n) F.TQ_LANE_STAT.SYNC = false ∨ s.bit (tqB n) F.TQ_LANE_STAT.HI_BER = bad) →
    Does (.hiBerWindow n bad) s fun t =>
      t = s) ∧
  (∀ (n : Port) (speed : BitVec 2) (half : Bool) (s : State), s.live (quadId n) = true → s.anRuns n = true →
      s.laneMode n = 4 → s.bit (tqB n) F.TQ_LANE_STAT.SYNC = true →
    Does (.tqAnComplete n speed half) s fun t =>
      t.bit (tqB n) F.TQ_LANE_STAT.AN_DONE = true ∧
      t.tqF n F.TQ_LANE_STAT.SPEED = s.tqF n F.TQ_LANE_STAT.SPEED ∧ t.tqF n F.TQ_LANE_STAT.HALF = s.tqF n F.TQ_LANE_STAT.HALF ∧
      t.linkUp n = (((decide (s.portState n = 0) && decide (s.laneMode n ≠ 0) && !s.bit (tqB n) F.TQ_LANE_STAT.CFG_ERR && s.lanePll n) && s.bit (tqB n) F.TQ_LANE_STAT.SYNC) && !s.bit (tqB n) F.TQ_LANE_STAT.HI_BER && ((decide (s.laneFec n = 0) || s.bit (tqB n) F.TQ_LANE_STAT.FEC_LOCK))) ∧
      (s.act 0 ≠ 5 ∧ s.act 1 ≠ 5 → t.evt = (if s.linkUp n = (((decide (s.portState n = 0) && decide (s.laneMode n ≠ 0) && !s.bit (tqB n) F.TQ_LANE_STAT.CFG_ERR && s.lanePll n) && s.bit (tqB n) F.TQ_LANE_STAT.SYNC) && !s.bit (tqB n) F.TQ_LANE_STAT.HI_BER && ((decide (s.laneFec n = 0) || s.bit (tqB n) F.TQ_LANE_STAT.FEC_LOCK))) then s else (s.raiseMs (b2n (((decide (s.portState n = 0) && decide (s.laneMode n ≠ 0) && !s.bit (tqB n) F.TQ_LANE_STAT.CFG_ERR && s.lanePll n) && s.bit (tqB n) F.TQ_LANE_STAT.SYNC) && !s.bit (tqB n) F.TQ_LANE_STAT.HI_BER && ((decide (s.laneFec n = 0) || s.bit (tqB n) F.TQ_LANE_STAT.FEC_LOCK)))) (Ev.TP_LINK + n) (quadId n) (n % 4) [(1, b2n (((decide (s.portState n = 0) && decide (s.laneMode n ≠ 0) && !s.bit (tqB n) F.TQ_LANE_STAT.CFG_ERR && s.lanePll n) && s.bit (tqB n) F.TQ_LANE_STAT.SYNC) && !s.bit (tqB n) F.TQ_LANE_STAT.HI_BER && ((decide (s.laneFec n = 0) || s.bit (tqB n) F.TQ_LANE_STAT.FEC_LOCK)))), (1, s.tqF n F.TQ_LANE_STAT.SPEED), (1, s.tqF n F.TQ_LANE_STAT.HALF), (1, (3))])).evt) ∧
      OnlyBens s t ∧
      t = { s with out := t.out, pon := t.pon, ctrs := t.ctrs, evt := t.evt, timers := t.timers, regs := t.regs } ∧
      TimersBut [Tm.ps 0,Tm.ps 1] s t ∧ RegsBut [(tqB n.val+0x4),(pnB 0+0x104),(pnB 1+0x104)] s t) ∧
  (∀ (n : Port) (speed : BitVec 2) (half : Bool) (s : State), s.live (quadId n) = true → s.anRuns n = true →
      s.laneMode n = 5 → s.bit (tqB n) F.TQ_LANE_STAT.SYNC = true →
    Does (.tqAnComplete n speed half) s fun t =>
      t.bit (tqB n) F.TQ_LANE_STAT.AN_DONE = true ∧
      t.tqF n F.TQ_LANE_STAT.SPEED = min 2 speed.toNat ∧ t.bit (tqB n) F.TQ_LANE_STAT.HALF = (half && decide (speed.toNat < 2)) ∧
      t.linkUp n = (((decide (s.portState n = 0) && decide (s.laneMode n ≠ 0) && !s.bit (tqB n) F.TQ_LANE_STAT.CFG_ERR && s.lanePll n) && s.bit (tqB n) F.TQ_LANE_STAT.SYNC) && !s.bit (tqB n) F.TQ_LANE_STAT.HI_BER && ((decide (s.laneFec n = 0) || s.bit (tqB n) F.TQ_LANE_STAT.FEC_LOCK))) ∧
      OnlyBens s t ∧
      t = { s with out := t.out, pon := t.pon, ctrs := t.ctrs, evt := t.evt, timers := t.timers, regs := t.regs } ∧
      TimersBut [Tm.ps 0,Tm.ps 1] s t ∧ RegsBut [(tqB n.val+0x4),(pnB 0+0x104),(pnB 1+0x104)] s t)

/-- A calibration at item 1 of R49 is recorded; in RETURN it ends the port's return: IN after a pass, OUT with WANT 0
after a failure, which sets CAL_FAIL and is reported with its step; a pass clears CAL_FAIL and shows the latency sums,
whose measured part is a free value; while the crystal is lost the port stays in RETURN. A write of WANT 1 after item 4
takes an OUT port to RETURN with its loop and pattern functions off; WANT 0 takes a port in RETURN to OUT and one IN out
of service: its queues are flushed and counted, a frame then arriving counts as partial, its lane loses sync and link.
Each change shows in TQ_QUAD_STAT and is reported. Before item 4 WANT is only stored. -/
def Obligations.PortsCalibrateAndChangeService : Prop :=
  (∀ (n : Fin 50) (fail : Option (Fin 4)) (s : State), n.val < 48 → s.pwr.fast.contains (quadId n) = false →
      s.laneMode n ≠ 0 → s.stage = 9 →
    Does (.laneCalDone n none) s fun t =>
      t.bit (tqB n) F.TQ_LANE_STAT.CAL_FAIL = false ∧ t.boot = { s.boot with cal := s.boot.cal.insert n.val } ∧
      t.tqF n F.TQ_TS_LAT_RX.LAT = (s.fld aonB (F.AON_HM_LAT_RX.LAT.at ((8 * s.laneType n))) + (s.fld aonB (F.AON_HM_STROBE.RES.at (4 * (n / 4)))) + Config.free s.freeNext) % 2 ^ F.TQ_TS_LAT_RX.LAT.width ∧
      t.tqF n F.TQ_TS_LAT_TX.LAT = (s.fld aonB (F.AON_HM_LAT_TX.LAT.at ((8 * s.laneType n))) + (s.fld aonB (F.AON_HM_STROBE.RES.at (4 * (n / 4)))) + Config.free (s.freeNext + 1)) % 2 ^ F.TQ_TS_LAT_TX.LAT.width ∧
      t.freeNext = s.freeNext + 2 + b2n s.mintOk ∧
      t.vlt = { s.vlt with drbg := t.vlt.drbg, maskAt := t.vlt.maskAt, masks := t.vlt.masks } ∧
      (s.mintOk = false → t.vlt = s.vlt ∧ t.ctrs = s.ctrs ∧ t.timers = s.timers) ∧
      t = { s with vlt := t.vlt, ctrs := t.ctrs, timers := t.timers, boot := t.boot, freeNext := t.freeNext, regs := t.regs } ∧
      CtrsBut [vltB+Ctr.VLT.MINT_RESEEDS] s t ∧ TimersBut [Tm.mint] s t ∧
      RegsBut [(tqB n.val+0x4),tqB n.val+0x224,tqB n.val+0x228] s t) ∧
  (∀ (n : Fin 50) (fail : Option (Fin 4)) (k : Fin 4) (s : State), n.val < 48 → s.pwr.fast.contains (quadId n) = false →
      s.laneMode n ≠ 0 → s.stage = 9 → fail = some k →
    Does (.laneCalDone n fail) s fun t =>
      t.bit (tqB n) F.TQ_LANE_STAT.CAL_FAIL = true ∧ t.boot = { s.boot with cal := s.boot.cal.insert n.val } ∧
      t.evt = (s.tqRaise n Ev.TP_CAL_FAIL [(1, n), (1, k.val)]).evt ∧
      t = { s with boot := t.boot, evt := t.evt, regs := t.regs } ∧ RegsBut [(tqB n.val+0x4)] s t) ∧
  (∀ (n : Fin 50) (fail : Option (Fin 4)) (s : State), n.val < 48 → s.pwr.fast.contains (quadId n) = false →
      s.laneMode n ≠ 0 → s.stage ≠ 9 → s.portState n = 2 → s.bit aonB F.AON_BOOT_STAT.XTAL_FB = false →
      s.bit timB F.TIM_STAT.XTAL_FB = false → s.bit (tqB n) F.TQ_LANE_STAT.SYNC = false → s.linkUp n = false →
    Does (.laneCalDone n none) s fun t =>
      t.portState n = 0 ∧ t.bit (tqB n) F.TQ_LANE_STAT.CAL_FAIL = false ∧ t.freeNext = s.freeNext + 2 + b2n s.mintOk ∧
      t.evt = (s.tqRaise n Ev.TP_SVC_STATE [(1, n), (1, 2), (1, 0)]).evt ∧
      t.vlt = { s.vlt with drbg := t.vlt.drbg, maskAt := t.vlt.maskAt, masks := t.vlt.masks } ∧
      (s.mintOk = false → t.vlt = s.vlt ∧ t.ctrs = s.ctrs ∧ t.timers = s.timers) ∧
      t = { s with vlt := t.vlt, ctrs := t.ctrs, timers := t.timers, evt := t.evt, freeNext := t.freeNext, regs := t.regs } ∧
      CtrsBut [vltB+Ctr.VLT.MINT_RESEEDS] s t ∧ TimersBut [Tm.mint] s t ∧
      RegsBut [(tqB n.val+0x4),tqB n.val+0x224,tqB n.val+0x228,tqB n.val+0x24,quadB (n.val/4)+0x8004] s t) ∧
  (∀ (n : Fin 50) (fail : Option (Fin 4)) (k : Fin 4) (s : State), n.val < 48 → s.pwr.fast.contains (quadId n) = false →
      s.laneMode n ≠ 0 → s.stage ≠ 9 → s.portState n = 2 → s.bit aonB F.AON_BOOT_STAT.XTAL_FB = false →
      s.bit timB F.TIM_STAT.XTAL_FB = false → s.linkUp n = false → fail = some k →
    Does (.laneCalDone n fail) s fun t =>
      t.portState n = 1 ∧ t.tqF n F.TQ_PORT_SVC.WANT = 0 ∧ t.bit (tqB n) F.TQ_LANE_STAT.CAL_FAIL = true ∧
      t.evt = ((s.tqRaise n Ev.TP_CAL_FAIL [(1, n), (1, k.val)]).tqRaise n Ev.TP_SVC_STATE [(1, n), (1, 2), (1, 1)]).evt ∧
      t = { s with evt := t.evt, regs := t.regs } ∧ RegsBut [(tqB n.val+0x4),tqB n.val+0x24,quadB (n.val/4)+0x8004] s t) ∧
  (∀ (n : Fin 50) (fail : Option (Fin 4)) (s : State), n.val < 48 → s.laneMode n ≠ 0 → s.stage ≠ 9 → s.portState n = 2 →
      (s.bit aonB F.AON_BOOT_STAT.XTAL_FB = true ∨ s.bit timB F.TIM_STAT.XTAL_FB = true) →
    Does (.laneCalDone n fail) s fun t =>
      t.portState n = 2 ∧ t.vlt = { s.vlt with drbg := t.vlt.drbg, maskAt := t.vlt.maskAt, masks := t.vlt.masks } ∧
      (s.mintOk = false → t.vlt = s.vlt ∧ t.ctrs = s.ctrs ∧ t.timers = s.timers) ∧
      t = { s with vlt := t.vlt, ctrs := t.ctrs, timers := t.timers, evt := t.evt, freeNext := t.freeNext, regs := t.regs } ∧
      CtrsBut [vltB+Ctr.VLT.MINT_RESEEDS] s t ∧ TimersBut [Tm.mint] s t ∧
      RegsBut [(tqB n.val+0x4),tqB n.val+0x224,tqB n.val+0x228] s t) ∧
  (∀ (n : Fin 50) (s : State), 48 ≤ n.val → s.stage = 9 →
    Does (.laneCalDone n none) s fun t =>
      t.boot = { s.boot with cal := s.boot.cal.insert n.val } ∧ t = { s with boot := t.boot }) ∧
  (∀ (n : Fin 50) (fail : Option (Fin 4)) (k : Fin 4) (s : State), 48 ≤ n.val → s.stage = 9 → fail = some k →
    Does (.laneCalDone n fail) s fun t =>
      t.boot = { s.boot with cal := s.boot.cal.insert n.val, calBad := s.boot.calBad.insert n.val } ∧
      t.evt = (s.raise Ev.TP_CAL_FAIL (n.val - 40) noInst [(1, n.val), (1, k.val)]).evt ∧
      t = { s with boot := t.boot, evt := t.evt }) ∧
  (∀ (m : Master) (n : Port) (s : State), s.reaches m (tqB n) = true → 4 ≤ s.counting → s.portState n = 1 →
      s.linkUp n = false → s.bit (tqB n) F.TQ_PRBS_STAT.LOCK = false →
    Does (.tqPortWantSet m n) s fun t =>
      t.portState n = 2 ∧ t.tqF n F.TQ_PORT_SVC.WANT = 1 ∧ t.tqF n F.TQ_LANE_CFG.LOOP = 0 ∧
      t.tqF n F.TQ_PRBS_CTRL.GEN_EN = 0 ∧ t.tqF n F.TQ_PRBS_CTRL.CHK_EN = 0 ∧ t.tqF n F.TQ_PRBS_CTRL.BEN_ON = 0 ∧
      t.bit (quadB (n / 4)) (⟨0x8004, F.TQ_QUAD_STAT.OUT.lo + n % 4, F.TQ_QUAD_STAT.OUT.lo + n % 4⟩) = false ∧
      t.bit (quadB (n / 4)) F.TQ_QUAD_STAT.ALL_OUT = false ∧
      t.evt = (s.tqRaise n Ev.TP_SVC_STATE [(1, n), (1, 1), (1, 2)]).evt ∧
      t.prbs = SMap.set (fun _ => Prbs.idle) s.prbs n Prbs.idle ∧
      t = { s with prbs := t.prbs, evt := t.evt, regs := t.regs } ∧
      RegsBut [tqB n.val+0x24,tqB n.val+0x0,tqB n.val+0x90,quadB (n.val/4)+0x8004] s t) ∧
  (∀ (m : Master) (n : Port) (rxBusy : Bool) (s : State), s.reaches m (tqB n) = true → 4 ≤ s.counting →
      s.portState n = 2 → s.linkUp n = false →
    Does (.tqPortWantClear m n rxBusy) s fun t =>
      t.portState n = 1 ∧ t.tqF n F.TQ_PORT_SVC.WANT = 0 ∧
      t.evt = (s.tqRaise n Ev.TP_SVC_STATE [(1, n), (1, 2), (1, 1)]).evt ∧ t = { s with evt := t.evt, regs := t.regs } ∧
      RegsBut [tqB n.val+0x24,quadB (n.val/4)+0x8004] s t) ∧
  (∀ (m : Master) (n : Port) (rxBusy : Bool) (s : State), s.reaches m (tqB n) = true → 4 ≤ s.counting → s.portState n = 0 →
    Does (.tqPortWantClear m n rxBusy) s fun t =>
      t.portState n = 1 ∧ t.tqF n F.TQ_PORT_SVC.WANT = 0 ∧
      (t.bit (tqB n) F.TQ_LANE_STAT.SYNC = false ∧ t.bit (tqB n) F.TQ_LANE_STAT.HI_BER = false ∧ t.bit (tqB n) F.TQ_LANE_STAT.FEC_LOCK = false ∧ t.bit (tqB n) F.TQ_LANE_STAT.AN_DONE = false ∧ t.linkUp n = false) ∧
      ((List.range 8).all fun i => (t.q (8 * n + i)).chip.isEmpty && (t.q (8 * n + i)).deep.isEmpty) = true ∧
      t.ctr (tqB n + Ctr.TQ.TX_SVC_DISC) = (s.ctr (tqB n + Ctr.TQ.TX_SVC_DISC) + ((List.range 8).map fun i => (s.q (8 * n + i)).chip.length + (s.q (8 * n + i)).deep.length).sum) % 2 ^ 64 ∧
      (rxBusy = true ∧ s.linkUp n = true → t.ctr (tqB n + Ctr.TQ.RX_PARTIAL) = (s.ctr (tqB n + Ctr.TQ.RX_PARTIAL) + 1) % 2 ^ 64) ∧
      (t.port n).mac = (s.port n).mac ∧ (t.port n).sent = 0 ∧ t.timerOn (Tm.refresh n) = false ∧ OnlyBens s t ∧
      t = { s with out := t.out, tmg := t.tmg, mem := t.mem, tq := t.tq, pon := t.pon, ctrs := t.ctrs, evt := t.evt, regs := t.regs, timers := t.timers } ∧
      TimersBut [Tm.refresh n.val,Tm.ps 0,Tm.ps 1] s t) ∧
  (∀ (m : Master) (n : Port) (rxBusy : Bool) (s : State), s.reaches m (tqB n) = true → 4 ≤ s.counting →
      s.portState n = 0 → s.linkUp n = false →
      ((List.range 8).all fun i => decide (s.q (8 * n + i) = QState.empty)) = true → s.act 0 ≠ 5 ∧ s.act 1 ≠ 5 →
    Does (.tqPortWantClear m n rxBusy) s fun t =>
      t.portState n = 1 ∧
      (t.bit (tqB n) F.TQ_LANE_STAT.SYNC = false ∧ t.bit (tqB n) F.TQ_LANE_STAT.HI_BER = false ∧ t.bit (tqB n) F.TQ_LANE_STAT.FEC_LOCK = false ∧ t.bit (tqB n) F.TQ_LANE_STAT.AN_DONE = false ∧ t.linkUp n = false) ∧
      t.tq = SMap.set (fun _ => TqPort.empty) s.tq n { s.port n with sent := 0 } ∧
      t.evt = (s.tqRaise n Ev.TP_SVC_STATE [(1, n), (1, 0), (1, 1)]).evt ∧ t.timerOn (Tm.refresh n) = false ∧
      t.tmg = { s.tmg with qs := t.tmg.qs } ∧ (∀ q, t.q q = s.q q) ∧
      t = { s with tmg := t.tmg, tq := t.tq, evt := t.evt, timers := t.timers, regs := t.regs } ∧
      TimersBut [Tm.refresh n.val] s t ∧ RegsBut [(tqB n.val+0x4),tqB n.val+0x24,quadB (n.val/4)+0x8004] s t) ∧
  (∀ (m : Master) (n : Port) (rxBusy : Bool) (s : State), s.reaches m (tqB n) = true → s.counting < 4 →
    Does (.tqPortWantClear m n rxBusy) s fun t =>
      t.tqF n F.TQ_PORT_SVC.WANT = 0 ∧ t.portState n = s.portState n ∧ t = { s with regs := t.regs } ∧
      RegsBut [tqB n.val+0x24] s t)

/-- A received pause or PFC frame counts; in the matching FC_MODE each named priority that is not broken is paused for
its quanta of 512 bit times, or released at quanta 0, and on a radio port a new pause starts the watchdog's LIMIT; a
named broken priority counts as ignored. A pause's end releases its priority. LIMIT breaks the priority if it is paused,
in pause mode every paused one, for HOLDOFF, counts and reports; the end of HOLDOFF clears BROKEN. A change of XOFF
sends a frame with quanta for the priorities now held and one with zero for those released, and starts or stops the
refresh interval; while XOFF holds each refresh sends the frame again. The frames' form is that of IEEE 802.3 (log entry
69). Nothing else changes. -/
def Obligations.PauseAndTheWatchdog : Prop :=
  (∀ (n : Port) (pfc : Bool) (mask : BitVec 8) (quanta : BitVec 128) (s : State), s.rxOn n = true →
      (s.fcMode n = if pfc then 2 else 1) →
    Does (.pauseFrameRx n pfc mask quanta) s fun t =>
      ((List.range 8).all fun i => t.isPaused n i == (if (((!pfc || mask.toNat.testBit i)) && !s.isBroken n i) then decide ((if pfc then bits quanta.toNat (16 * i + 15) (16 * i) else quanta.toNat % 65536) ≠ 0) else s.isPaused n i)) = true ∧
      ((List.range 8).all fun i => SMap.get (fun _ => 0) t.timers (Tm.pause n i) == (if (((!pfc || mask.toNat.testBit i)) && !s.isBroken n i) then (if (if pfc then bits quanta.toNat (16 * i + 15) (16 * i) else quanta.toNat % 65536) = 0 then 0 else s.now + s.quantaTicks n ((if pfc then bits quanta.toNat (16 * i + 15) (16 * i) else quanta.toNat % 65536)) + 1) else SMap.get (fun _ => 0) s.timers (Tm.pause n i))) = true ∧
      ((List.range 8).all fun i => !(((((!pfc || mask.toNat.testBit i)) && !s.isBroken n i)) && decide ((if pfc then bits quanta.toNat (16 * i + 15) (16 * i) else quanta.toNat % 65536) ≠ 0) && !s.isPaused n i && s.bit (tqB n) F.TQ_PORT_CFG.RADIO) || SMap.get (fun _ => 0) t.timers (Tm.wdog n i) == s.now + max 1 (s.tqF n F.TQ_WDOG_CFG.LIMIT) * usTicks + 1) = true ∧
      t.tqF n F.TQ_WDOG_STAT.BROKEN = s.tqF n F.TQ_WDOG_STAT.BROKEN ∧
      t.ctrs = (if ((List.range 8).any fun i => ((!pfc || mask.toNat.testBit i)) && s.isBroken n i) then (s.tqCount n (if pfc then Ctr.TQ.RX_PFC else Ctr.TQ.RX_PAUSE)).tqCount n Ctr.TQ.PAUSE_IGNORED else s.tqCount n (if pfc then Ctr.TQ.RX_PFC else Ctr.TQ.RX_PAUSE)).ctrs ∧
      t = { s with ctrs := t.ctrs, timers := t.timers, regs := t.regs } ∧
      TimersBut ((List.range 8).flatMap fun i => [Tm.pause n.val i, Tm.wdog n.val i]) s t ∧ RegsBut [tqB n.val+0x78] s t) ∧
  (∀ (n : Port) (pfc : Bool) (mask : BitVec 8) (quanta : BitVec 128) (s : State), s.rxOn n = true →
      (s.fcMode n ≠ if pfc then 2 else 1) →
    Does (.pauseFrameRx n pfc mask quanta) s fun t =>
      t.ctrs = (s.tqCount n (if pfc then Ctr.TQ.RX_PFC else Ctr.TQ.RX_PAUSE)).ctrs ∧ t = { s with ctrs := t.ctrs }) ∧
  (∀ (n : Port) (i : Fin 8) (s : State), s.live (quadId n) = true → s.timerOn (Tm.pause n i) = true →
    Does (.pauseTimerExpiry n i) s fun t =>
      t.tqF n F.TQ_WDOG_STAT.PAUSED = s.tqF n F.TQ_WDOG_STAT.PAUSED - b2n (s.isPaused n i) * 2 ^ i.val ∧
      t.timerOn (Tm.pause n i) = false ∧ t.timerOn (Tm.wdog n i) = false ∧
      t = { (s.atEnd (Tm.pause n i)) with timers := t.timers, regs := t.regs } ∧
      TimersBut [Tm.pause n.val i.val, Tm.wdog n.val i.val] (s.atEnd (Tm.pause n i)) t ∧
      RegsBut [tqB n.val+0x78] (s.atEnd (Tm.pause n i)) t) ∧
  (∀ (n : Port) (i : Fin 8) (s : State), s.live (quadId n) = true → s.timerOn (Tm.wdog n i) = true →
    Does (.wdogLimitExpiry n i) s fun t =>
      ((List.range 8).all fun k => (t.isBroken n k == (s.isBroken n k || ((s.isPaused n k && (decide (s.fcMode n = 1) || decide (k = i.val)))))) && (t.isPaused n k == (s.isPaused n k && !((s.isPaused n k && (decide (s.fcMode n = 1) || decide (k = i.val))))))) = true ∧
      ((List.range 8).all fun k => !((s.isPaused n k && (decide (s.fcMode n = 1) || decide (k = i.val)))) || SMap.get (fun _ => 0) t.timers (Tm.holdoff n k) == (s.atEnd (Tm.wdog n i)).now + max 1 (s.tqF n F.TQ_WDOG_CFG.HOLDOFF) * usTicks + 1) = true ∧
      t.ctrs = ((s.atEnd (Tm.wdog n i)).tqCount n Ctr.TQ.WDOG_BREAK).ctrs ∧
      t.evt = ((s.atEnd (Tm.wdog n i)).tqRaiseMs n Ev.TP_WDOG_BREAK [(1, n), (1, (((List.range 8).map fun k => b2n ((s.isPaused n k && (decide (s.fcMode n = 1) || decide (k = i.val)))) * 2 ^ k).sum))]).evt ∧
      t = { (s.atEnd (Tm.wdog n i)) with ctrs := t.ctrs, evt := t.evt, timers := t.timers, regs := t.regs } ∧
      TimersBut ((List.range 8).flatMap fun k => [Tm.pause n.val k, Tm.wdog n.val k, Tm.holdoff n.val k]) (s.atEnd (Tm.wdog n i)) t ∧
      RegsBut [tqB n.val+0x78] (s.atEnd (Tm.wdog n i)) t) ∧
  (∀ (n : Port) (i : Fin 8) (s : State), s.live (quadId n) = true → s.timerOn (Tm.holdoff n i) = true →
    Does (.wdogHoldoffExpiry n i) s fun t =>
      t.tqF n F.TQ_WDOG_STAT.BROKEN = s.tqF n F.TQ_WDOG_STAT.BROKEN - b2n (s.isBroken n i) * 2 ^ i.val ∧
      t.tqF n F.TQ_WDOG_STAT.PAUSED = s.tqF n F.TQ_WDOG_STAT.PAUSED ∧
      t = { (s.atEnd (Tm.holdoff n i)) with timers := t.timers, regs := t.regs } ∧
      TimersBut [Tm.holdoff n.val i.val] (s.atEnd (Tm.holdoff n i)) t ∧
      RegsBut [tqB n.val+0x78] (s.atEnd (Tm.holdoff n i)) t) ∧
  (∀ (n : Port) (s : State), s.live (quadId n) = true → (s.port n).launch = none → s.portState n = 0 → s.linkUp n = true →
      (s.port n).sent = 0 →
      (if s.fcMode n = 2 then s.xoffOf n else if s.fcMode n = 1 ∧ s.xoffOf n ≠ 0 then 0xFF else 0) ≠ 0 →
      0 < s.tqF n F.TQ_PFC_CFG.QUANTA →
    Does (.pfcXoffChange n) s fun t =>
      t.tq = SMap.set (fun _ => TqPort.empty) s.tq n { s.port n with sent := (if s.fcMode n = 2 then s.xoffOf n else if s.fcMode n = 1 ∧ s.xoffOf n ≠ 0 then 0xFF else 0) } ∧
      t.out = s.out ++ [.frame n (s.ctlFrame n ((if s.fcMode n = 2 then s.xoffOf n else if s.fcMode n = 1 ∧ s.xoffOf n ≠ 0 then 0xFF else 0)) (s.tqF n F.TQ_PFC_CFG.QUANTA))] ∧
      t.ctrs = (s.tqCount n (if s.fcMode n = 1 then Ctr.TQ.TX_PAUSE else Ctr.TQ.TX_PFC)).ctrs ∧
      SMap.get (fun _ => 0) t.timers (Tm.refresh n) = s.now + s.quantaTicks n (max 1 (min (s.tqF n F.TQ_PFC_CFG.REFRESH) (s.tqF n F.TQ_PFC_CFG.QUANTA))) + 1 ∧
      t = { s with tq := t.tq, out := t.out, ctrs := t.ctrs, timers := t.timers } ∧ TimersBut [Tm.refresh n.val] s t) ∧
  (∀ (n : Port) (s : State), s.live (quadId n) = true → (s.port n).launch = none → s.portState n = 0 → s.linkUp n = true →
      (s.port n).sent ≠ 0 → s.xoffOf n = 0 →
    Does (.pfcXoffChange n) s fun t =>
      t.tq = SMap.set (fun _ => TqPort.empty) s.tq n { s.port n with sent := 0 } ∧
      t.out = s.out ++ [.frame n (s.ctlFrame n (s.port n).sent 0)] ∧
      t.ctrs = (s.tqCount n (if s.fcMode n = 1 then Ctr.TQ.TX_PAUSE else Ctr.TQ.TX_PFC)).ctrs ∧
      t.timerOn (Tm.refresh n) = false ∧ t = { s with tq := t.tq, out := t.out, ctrs := t.ctrs, timers := t.timers } ∧
      TimersBut [Tm.refresh n.val] s t) ∧
  (∀ (n : Port) (s : State), s.live (quadId n) = true → s.timerOn (Tm.refresh n) = true → s.portState n = 0 →
      s.linkUp n = true → (s.port n).sent ≠ 0 → 0 < s.tqF n F.TQ_PFC_CFG.QUANTA → (s.port n).launch = none →
      s.xoffWant n = (s.port n).sent →
    Does (.pfcRefreshExpiry n) s fun t =>
      t.out = s.out ++ [.frame n (s.ctlFrame n (s.port n).sent (s.tqF n F.TQ_PFC_CFG.QUANTA))] ∧
      t.ctrs = ((s.atEnd (Tm.refresh n)).tqCount n (if s.fcMode n = 1 then Ctr.TQ.TX_PAUSE else Ctr.TQ.TX_PFC)).ctrs ∧
      SMap.get (fun _ => 0) t.timers (Tm.refresh n) = (s.atEnd (Tm.refresh n)).now + s.quantaTicks n (max 1 (min (s.tqF n F.TQ_PFC_CFG.REFRESH) (s.tqF n F.TQ_PFC_CFG.QUANTA))) + 1 ∧
      t = { (s.atEnd (Tm.refresh n)) with out := t.out, ctrs := t.ctrs, timers := t.timers } ∧
      TimersBut [Tm.refresh n.val] (s.atEnd (Tm.refresh n)) t) ∧
  (∀ (n : Port) (s : State), s.live (quadId n) = true → s.timerOn (Tm.refresh n) = true → (s.port n).sent = 0 →
      (s.port n).launch = none → s.xoffWant n = 0 →
    Does (.pfcRefreshExpiry n) s fun t =>
      t.timerOn (Tm.refresh n) = false ∧ t = { (s.atEnd (Tm.refresh n)) with timers := t.timers } ∧
      TimersBut [Tm.refresh n.val] (s.atEnd (Tm.refresh n)) t)

/-- A BAR0 write of the host before sealing only counts in DISCARDS; one to a reserved window or an unimplemented
address does nothing; one to a dark window is recorded; one to the other master's window or channel page counts there.
Otherwise a register without an action of its own keeps each field as its access code says, and a write that would
change a sealed field counts and is reported. A write of the MSI-X table or of its configuration bits is stored while
HST is live, and one of an AER status register clears the bits written 1. The firmware raises its own event of source
220 with its code and severity unless the Steward is down. A scan of the TAP that does not reach it shifts BYPASS;
IDCODE shifts out 0x19648ABF in every lifecycle. A read of a reserved window answers 0, of a dark one all ones and is
recorded, of an unimplemented address 0; a register's read answers its fields, write-only ones as 0, and clears its RC
fields; a read of a valid status word sets SEEN; a read of a counter's low word latches the high word. Nothing else
changes. -/
def Obligations.RegisterWritesAndReads : Prop :=
  (∀ (m : Master) (a : BitVec 24) (v : Word) (s : State), jobPort ((4 * a.toNat)) = none →
      s.r54Discards m ((4 * a.toNat)) = true →
    Does (.registerWrite m (.bar0 a) v) s fun t =>
      t.fld aonB F.AON_SEAL.DISCARDS = min 0xFFFF (s.fld aonB F.AON_SEAL.DISCARDS + 1) ∧ t = { s with regs := t.regs } ∧
      RegsBut [aonB+0x30] s t) ∧
  (∀ (m : Master) (a : BitVec 24) (v : Word) (s : State), jobPort ((4 * a.toNat)) = none →
      s.r54Discards m ((4 * a.toNat)) = false → (islandInst (islandOf ((4 * a.toNat)))).isNone = true →
    Does (.registerWrite m (.bar0 a) v) s fun t =>
      t = s) ∧
  (∀ (m : Master) (a : BitVec 24) (v : Word) (s : State), jobPort ((4 * a.toNat)) = none →
      s.r54Discards m ((4 * a.toNat)) = false → (islandInst (islandOf ((4 * a.toNat)))).isSome = true →
      s.live (islandOf ((4 * a.toNat))) = false →
    Does (.registerWrite m (.bar0 a) v) s fun t =>
      t.bit hstB F.HST_STATUS.DARK_ACCESS = true ∧ t.bit hstB F.HST_DARK_ADDR.WRITE = true ∧
      t.fld hstB F.HST_DARK_ADDR.ADDR = ((4 * a.toNat)) % 2 ^ F.HST_DARK_ADDR.ADDR.width ∧
      t.ctrs = (s.count (hstB + Ctr.HST.DARK_ACCESSES)).ctrs ∧
      t.evt = (s.raise Ev.HST_DARK_ACCESS 0x3A noInst [(4, (4 * a.toNat)), (1, 1)]).evt ∧
      t = { s with ctrs := t.ctrs, evt := t.evt, regs := t.regs } ∧ RegsBut [hstB+0xc,hstB+0x10] s t) ∧
  (∀ (m : Master) (a : BitVec 24) (v : Word) (s : State), jobPort ((4 * a.toNat)) = none →
      s.r54Discards m ((4 * a.toNat)) = false → (islandInst (islandOf ((4 * a.toNat)))).isSome = true →
      s.live (islandOf ((4 * a.toNat))) = true → s.ownDiscards m ((4 * a.toNat)) = true →
    Does (.registerWrite m (.bar0 a) v) s fun t =>
      t.ctrs = (s.count (stwB + Ctr.STW.OWN_DISC)).ctrs ∧
      t.evt = (s.raiseMs 0 Ev.STW_OWN_DISC 0x3F noInst [(4, (4 * a.toNat)), (1, masterCode m)]).evt ∧
      t = { s with ctrs := t.ctrs, evt := t.evt }) ∧
  (∀ (m : Master) (a : BitVec 24) (v : Word) (s : State), s.r54Discards m ((4 * a.toNat)) = false →
      s.live (islandOf ((4 * a.toNat))) = true → s.dmaDiscards m ((4 * a.toNat)) = true →
    Does (.registerWrite m (.bar0 a) v) s fun t =>
      t.ctrs = (s.count (window 0x3B + Ctr.DMA.MASTER_DISC)).ctrs ∧ t = { s with ctrs := t.ctrs }) ∧
  (∀ (m : Master) (a : BitVec 24) (v : Word) (s : State), jobPort ((4 * a.toNat)) = none →
      s.reaches m ((4 * a.toNat)) = true → (findReg ((4 * a.toNat))).isNone = true →
    Does (.registerWrite m (.bar0 a) v) s fun t =>
      t = s) ∧
  (∀ (m : Master) (a : BitVec 24) (v : Word) (s : State), s.reaches m ((4 * a.toNat)) = true →
      (findReg ((4 * a.toNat))).isSome = true →
      ((islandOf ((4 * a.toNat)) = 0x3C ∧ 0x1000 ≤ offsetOf ((4 * a.toNat))) ∨ (islandOf ((4 * a.toNat)) = 0x3E ∧ offsetOf ((4 * a.toNat)) < 0x400 ∧ offsetOf ((4 * a.toNat)) ≠ 0) ∨ (islandOf ((4 * a.toNat)) = 0x22 ∧ 0x100 ≤ offsetOf ((4 * a.toNat)) ∧ offsetOf ((4 * a.toNat)) < 0x180) ∨ (islandOf ((4 * a.toNat)) = 0x04 ∧ offsetOf ((4 * a.toNat)) < 0x10) ∨ (0x10 ≤ islandOf ((4 * a.toNat)) ∧ islandOf ((4 * a.toNat)) ≤ 0x1B ∧ 0x4000 ≤ offsetOf ((4 * a.toNat)) ∧ offsetOf ((4 * a.toNat)) ≠ 0x8000)) →
    Does (.registerWrite m (.bar0 a) v) s fun t =>
      t.reg ((4 * a.toNat)) = (BitVec.ofNat 32 (((((findReg (4 * a.toNat)).getD ⟨0, [], []⟩)).fields).foldl (fun w f => storeField s.sealed w v.toNat f) (((s.reg (4 * a.toNat)).toNat)))) ∧
      ((s.sealed && lockHit (((s.reg (4 * a.toNat)).toNat)) v.toNat (((findReg (4 * a.toNat)).getD ⟨0, [], []⟩)).fields) = true → t.fld aonB F.AON_SEAL.DISCARDS = min 0xFFFF (s.fld aonB F.AON_SEAL.DISCARDS + 1) ∧ t.evt = (s.raise Ev.SEAL_DISCARD 0x00 noInst [(4, (4 * a.toNat))]).evt) ∧
      ((s.sealed && lockHit (((s.reg (4 * a.toNat)).toNat)) v.toNat (((findReg (4 * a.toNat)).getD ⟨0, [], []⟩)).fields) = false → t.evt = s.evt ∧ t.reg (aonB + 0x30) = s.reg (aonB + 0x30)) ∧
      t = { s with evt := t.evt, regs := t.regs } ∧ RegsBut [(4 * a.toNat),aonB+0x30] s t) ∧
  (∀ (m : Master) (i : BitVec 8) (v : Word) (s : State), m = .host → s.live 0x3A = true → s.evt.msixEnable = false →
    Does (.registerWrite m (.bar2 i) v) s fun t =>
      t.evt = { s.evt with msixTable := SMap.set (fun i => if i % 4 = 3 then 1 else 0) s.evt.msixTable i.toNat v } ∧
      t = { s with evt := t.evt }) ∧
  (∀ (m : Master) (i : BitVec 8) (v : Word) (s : State), (m = .steward ∨ s.live 0x3A = false) →
    Does (.registerWrite m (.bar2 i) v) s fun t =>
      t = s) ∧
  (∀ (m : Master) (enable mask : Bool) (v : Word) (s : State), m = .host → s.live 0x3A = true → 6 ≤ s.stage →
      (enable = false ∨ s.pathDown = true ∨ ((List.range 64).all fun k => !SMap.get (fun _ => false) s.evt.msixPba k) = true) →
    Does (.registerWrite m (.msix enable mask) v) s fun t =>
      t.evt = { s.evt with msixEnable := enable, msixFuncMask := mask } ∧ t = { s with evt := t.evt }) ∧
  (∀ (m : Master) (corr : Bool) (v : Word) (s : State), m = .host → s.live 0x3A = true → 6 ≤ s.stage →
    Does (.registerWrite m (.aer corr) v) s fun t =>
      t.evt = { s.evt with aer := if corr then (s.evt.aer.1, s.evt.aer.2 &&& ~~~v) else (s.evt.aer.1 &&& ~~~v, s.evt.aer.2) } ∧
      t = { s with evt := t.evt }) ∧
  (∀ (m : Master) (corr : Bool) (v : Word) (s : State), (m = .steward ∨ s.live 0x3A = false ∨ s.stage < 6) →
    Does (.registerWrite m (.aer corr) v) s fun t =>
      t = s) ∧
  (∀ (m : Master) (sev : Fin 3) (v : Word) (s : State), m = .steward → s.live 0x3F = true → s.stwState ≠ 3 →
    Does (.registerWrite m (.soft sev) v) s fun t =>
      t.evt = (s.raiseSev Ev.STW_SOFT sev.val 0x3F noInst [(4, v.toNat)]).evt ∧ t = { s with evt := t.evt }) ∧
  (∀ (m : Master) (sev : Fin 3) (v : Word) (s : State), (m = .host ∨ s.live 0x3F = false ∨ s.stwState = 3) →
    Does (.registerWrite m (.soft sev) v) s fun t =>
      t = s) ∧
  (∀ (m : Master) (a : BitVec 24) (v : Word) (s : State),
    Does (.registerWrite m (.tap .idcode a) v) s fun t =>
      t.out = s.out ++ [.tdo 0x19648ABF] ∧ t.tap = .idcode ∧ t = { s with tap := t.tap, out := t.out }) ∧
  (∀ (m : Master) (i : TapInstr) (a : BitVec 24) (v : Word) (s : State), m = .host →
      (s.tapReaches i = false ∨ i = .bypass) →
    Does (.registerWrite m (.tap i a) v) s fun t =>
      t.out = s.out ++ [.tdo (BitVec.ofNat 32 (2 * v.toNat))] ∧ t.tap = .bypass ∧
      t = { s with tap := t.tap, out := t.out }) ∧
  (∀ (m : Master) (a : BitVec 24) (s : State), (islandInst (islandOf ((4 * a.toNat)))).isNone = true →
    Does (.rcRegisterRead m a) s fun t =>
      t.out = s.out ++ [.readData m ((4 * a.toNat)) 0] ∧ t = { s with out := t.out }) ∧
  (∀ (m : Master) (a : BitVec 24) (s : State), (islandInst (islandOf ((4 * a.toNat)))).isSome = true →
      s.live (islandOf ((4 * a.toNat))) = false →
    Does (.rcRegisterRead m a) s fun t =>
      t.out = s.out ++ [.readData m ((4 * a.toNat)) 0xFFFFFFFF] ∧
      t.bit hstB F.HST_STATUS.DARK_ACCESS = true ∧ t.bit hstB F.HST_DARK_ADDR.WRITE = false ∧
      t.fld hstB F.HST_DARK_ADDR.ADDR = ((4 * a.toNat)) % 2 ^ F.HST_DARK_ADDR.ADDR.width ∧
      t.ctrs = (s.count (hstB + Ctr.HST.DARK_ACCESSES)).ctrs ∧
      t.evt = (s.raise Ev.HST_DARK_ACCESS 0x3A noInst [(4, (4 * a.toNat)), (1, 0)]).evt ∧
      t = { s with ctrs := t.ctrs, evt := t.evt, out := t.out, regs := t.regs } ∧ RegsBut [hstB+0xc,hstB+0x10] s t) ∧
  (∀ (m : Master) (a : BitVec 24) (s : State), (islandInst (islandOf ((4 * a.toNat)))).isSome = true →
      s.live (islandOf ((4 * a.toNat))) = true →
      isCounterWord ((4 * a.toNat)) = false ∧ isPmcWord ((4 * a.toNat)) = false → isHeader ((4 * a.toNat)) = false →
      (findReg ((4 * a.toNat))).isNone = true →
    Does (.rcRegisterRead m a) s fun t =>
      t.out = s.out ++ [.readData m ((4 * a.toNat)) 0] ∧ t = { s with out := t.out }) ∧
  (∀ (m : Master) (a : BitVec 24) (s : State), (islandInst (islandOf ((4 * a.toNat)))).isSome = true →
      s.live (islandOf ((4 * a.toNat))) = true →
      isCounterWord ((4 * a.toNat)) = false ∧ isPmcWord ((4 * a.toNat)) = false → isHeader ((4 * a.toNat)) = true →
    Does (.rcRegisterRead m a) s fun t =>
      t.out = s.out ++ [.readData m ((4 * a.toNat)) (s.reg ((4 * a.toNat)))] ∧ t = { s with out := t.out }) ∧
  (∀ (m : Master) (a : BitVec 24) (s : State), (islandInst (islandOf ((4 * a.toNat)))).isSome = true →
      s.live (islandOf ((4 * a.toNat))) = true →
      isCounterWord ((4 * a.toNat)) = false ∧ isPmcWord ((4 * a.toNat)) = false ∧ isStatusWord ((4 * a.toNat)) = false →
      isHeader ((4 * a.toNat)) = false → (findReg ((4 * a.toNat))).isSome = true →
      islandOf ((4 * a.toNat)) ≠ 0x08 ∧ islandOf ((4 * a.toNat)) ≠ 0x09 ∧ islandOf ((4 * a.toNat)) ≠ 0x25 ∧ islandOf ((4 * a.toNat)) ≠ 0x3F →
    Does (.rcRegisterRead m a) s fun t =>
      t.out = s.out ++ [.readData m ((4 * a.toNat)) (BitVec.ofNat 32 (readFields (((findReg (4 * a.toNat)).getD ⟨0, [], []⟩)) (((s.reg (4 * a.toNat)).toNat))))] ∧
      t.reg ((4 * a.toNat)) = BitVec.ofNat 32 (clearRc (((findReg (4 * a.toNat)).getD ⟨0, [], []⟩)) (((s.reg (4 * a.toNat)).toNat))) ∧
      t = { s with out := t.out, regs := t.regs } ∧ RegsBut [(4 * a.toNat)] s t) ∧
  (∀ (m : Master) (a : BitVec 24) (s : State), isStatusWord ((4 * a.toNat)) = true →
      (findReg ((4 * a.toNat))).isSome = true ∧ isHeader ((4 * a.toNat)) = false ∧ isCounterWord ((4 * a.toNat)) = false →
      s.live (islandOf ((4 * a.toNat))) = true →
      ((((findReg (4 * a.toNat)).getD ⟨0, [], []⟩)).fields.all fun f => decide (f.acc ≠ .rc)) = true →
    Does (.resultStatusRead m a) s fun t =>
      t.out = s.out ++ [.readData m ((4 * a.toNat)) (BitVec.ofNat 32 (readFields (((findReg (4 * a.toNat)).getD ⟨0, [], []⟩)) (((s.reg (4 * a.toNat)).toNat))))] ∧
      (t.reg ((4 * a.toNat)) = if (((s.reg (4 * a.toNat)).toNat)).testBit 31 then BitVec.ofNat 32 (setBits (((s.reg (4 * a.toNat)).toNat)) 30 30 1) else s.reg ((4 * a.toNat))) ∧
      t = { s with out := t.out, regs := t.regs } ∧ RegsBut [(4 * a.toNat)] s t) ∧
  (∀ (m : Master) (a : BitVec 24) (s : State), isCounterWord ((4 * a.toNat)) = true ∧ isPmcWord ((4 * a.toNat)) = false →
      a.toNat % 2 = 0 → (islandInst (islandOf ((4 * a.toNat)))).isSome = true → s.live (islandOf ((4 * a.toNat))) = true →
    Does (.counterLowWordRead m a) s fun t =>
      t.out = s.out ++ [.readData m ((4 * a.toNat)) (BitVec.ofNat 32 (s.ctr ((4 * a.toNat)) % 2 ^ 32))] ∧
      t.ctrLatch = SMap.set (fun _ => (0, 0)) s.ctrLatch (2 * islandOf ((4 * a.toNat)) + masterCode m) ((4 * a.toNat) + 1, s.ctr ((4 * a.toNat)) / 2 ^ 32) ∧
      t = { s with out := t.out, ctrLatch := t.ctrLatch }) ∧
  (∀ (m : Master) (a : BitVec 24) (s : State), isPmcWord ((4 * a.toNat)) = true → a.toNat % 2 = 0 →
      s.live (islandOf ((4 * a.toNat))) = true →
    Does (.counterLowWordRead m a) s fun t =>
      t.out = s.out ++ [.readData m ((4 * a.toNat)) (s.reg ((4 * a.toNat)))] ∧
      t.ctrLatch = SMap.set (fun _ => (0, 0)) s.ctrLatch (2 * islandOf ((4 * a.toNat)) + masterCode m) ((4 * a.toNat) + 1, (s.reg ((4 * a.toNat) + 4)).toNat) ∧
      t = { s with out := t.out, ctrLatch := t.ctrLatch }) ∧
  (∀ (a : BitVec 26) (write byteEnables : Bool) (s : State), s.live 0x3A = true →
    Does (.bar0BadRequest a write byteEnables) s fun t =>
      t.bit hstB F.HST_STATUS.BAD_REQ = true ∧ t.ctrs = (s.count (hstB + Ctr.HST.BAD_REQ)).ctrs ∧
      t.evt = (s.raiseMs 0 Ev.HST_BAD_REQ 0x3A noInst [(4, a.toNat), (1, b2n byteEnables)]).evt ∧
      (t.out = s.out ++ if write then [] else [.readUr a.toNat]) ∧
      t = { s with ctrs := t.ctrs, evt := t.evt, out := t.out, regs := t.regs } ∧ RegsBut [hstB+0xc] s t) ∧
  (∀ (a : BitVec 26) (s : State), s.live 0x3A = true →
    Does (.hstReadTimeout a) s fun t =>
      t.bit hstB F.HST_STATUS.RD_TIMEOUT = true ∧ t.ctrs = (s.count (hstB + Ctr.HST.RD_TIMEOUTS)).ctrs ∧
      t.evt = (s.raise Ev.HST_RD_TIMEOUT 0x3A noInst [(4, a.toNat)]).evt ∧
      t.out = s.out ++ [.readData .host a.toNat 0xFFFFFFFF] ∧
      t = { s with ctrs := t.ctrs, evt := t.evt, out := t.out, regs := t.regs } ∧ RegsBut [hstB+0xc] s t)

/-- Where a master may write PMC_TALLY_CMD and BUSY is 0, the operation sets BUSY, which its completion clears: a read
puts the counter into the data registers, read-and-clear also clears it, clear puts 0 there and clears it; SPACE above
0x17 gives CAUSE 3, an INDEX out of range 1, an owner that is not live 2 and zeros. PMC_CTR presets 32 or 16 bits; SNAP
copies all 96 counters and counts SNAP_GEN up. A sampler that has counted PERIOD events restarts and arms; a trigger
while it is armed or its session is disabled is a miss. CHK_CTRL.GO takes a free unit and clears the result, SPACE 1x
ends at once with BAD_OP, and at the end the CRC by POLY, or a bus error, is the result and the unit is free. A waiting
scrub takes the lowest free unit; its bank then passes to SPARE or fails to OUT. Nothing else changes. The skid and the
bytes are the environment's (log entries 60, 91). -/
def Obligations.TallyPmcAndCheckUnits : Prop :=
  (∀ (m : Master) (sp : BitVec 5) (i : BitVec 16) (s : State), s.reaches m (pmcB + 0xD00) = true →
      s.bit pmcB F.PMC_TALLY_CMD.BUSY = false → sp.toNat ≤ 0x17 → s.tallyNames sp.toNat i.toNat = true →
      s.tallyLive sp.toNat i.toNat = true →
    Does (.tallyRead m sp i) s fun t =>
      t.regWords (pmcB + 0xD04) 2 = natWords 2 (s.tallyGet sp.toNat i.toNat) ∧
      t.fld pmcB F.PMC_TALLY_CMD.CAUSE = 0 ∧ t.bit pmcB F.PMC_TALLY_CMD.BUSY = true ∧ t = { s with regs := t.regs } ∧
      RegsBut [pmcB+0xD00,pmcB+0xD04,pmcB+0xD08] s t) ∧
  (∀ (m : Master) (sp : BitVec 5) (i : BitVec 16) (s : State), s.reaches m (pmcB + 0xD00) = true →
      s.bit pmcB F.PMC_TALLY_CMD.BUSY = false → sp.toNat ≤ 0x17 → s.tallyNames sp.toNat i.toNat = true →
      s.tallyLive sp.toNat i.toNat = false →
    Does (.tallyRead m sp i) s fun t =>
      t.regWords (pmcB + 0xD04) 2 = natWords 2 0 ∧
      t.fld pmcB F.PMC_TALLY_CMD.CAUSE = 2 ∧ t.bit pmcB F.PMC_TALLY_CMD.BUSY = true ∧ t = { s with regs := t.regs } ∧
      RegsBut [pmcB+0xD00,pmcB+0xD04,pmcB+0xD08] s t) ∧
  (∀ (m : Master) (sp : BitVec 5) (i : BitVec 16) (s : State), s.reaches m (pmcB + 0xD00) = true →
      s.bit pmcB F.PMC_TALLY_CMD.BUSY = false → sp.toNat ≤ 0x17 → s.tallyNames sp.toNat i.toNat = true →
      s.tallyLive sp.toNat i.toNat = true →
    Does (.tallyReadClear m sp i) s fun t =>
      t.regWords (pmcB + 0xD04) 2 = natWords 2 (s.tallyGet sp.toNat i.toNat) ∧
      t.tally = (s.tallySet sp.toNat i.toNat 0).tally ∧
      t.fld pmcB F.PMC_TALLY_CMD.CAUSE = 0 ∧ t.bit pmcB F.PMC_TALLY_CMD.BUSY = true ∧
      t = { s with tally := t.tally, regs := t.regs } ∧ RegsBut [pmcB+0xD00,pmcB+0xD04,pmcB+0xD08] s t) ∧
  (∀ (m : Master) (sp : BitVec 5) (i : BitVec 16) (s : State), s.reaches m (pmcB + 0xD00) = true →
      s.bit pmcB F.PMC_TALLY_CMD.BUSY = false → sp.toNat ≤ 0x17 → s.tallyNames sp.toNat i.toNat = false →
    Does (.tallyReadClear m sp i) s fun t =>
      t.fld pmcB F.PMC_TALLY_CMD.CAUSE = 1 ∧ t.bit pmcB F.PMC_TALLY_CMD.BUSY = true ∧ t = { s with regs := t.regs } ∧
      RegsBut [pmcB+0xD00] s t) ∧
  (∀ (m : Master) (sp : BitVec 5) (i : BitVec 16) (s : State), s.reaches m (pmcB + 0xD00) = true →
      s.bit pmcB F.PMC_TALLY_CMD.BUSY = false → sp.toNat ≤ 0x17 → s.tallyNames sp.toNat i.toNat = true →
      s.tallyLive sp.toNat i.toNat = true →
    Does (.tallyClear m sp i) s fun t =>
      t.regWords (pmcB + 0xD04) 2 = natWords 2 0 ∧ t.tally = (s.tallySet sp.toNat i.toNat 0).tally ∧
      t.fld pmcB F.PMC_TALLY_CMD.CAUSE = 0 ∧ t.bit pmcB F.PMC_TALLY_CMD.BUSY = true ∧
      t = { s with tally := t.tally, regs := t.regs } ∧ RegsBut [pmcB+0xD00,pmcB+0xD04,pmcB+0xD08] s t) ∧
  (∀ (m : Master) (sp : BitVec 5) (i : BitVec 16) (s : State), s.reaches m (pmcB + 0xD00) = true →
      s.bit pmcB F.PMC_TALLY_CMD.BUSY = false → 0x17 < sp.toNat →
    Does (.tallyClear m sp i) s fun t =>
      t.fld pmcB F.PMC_TALLY_CMD.CAUSE = 3 ∧ t.bit pmcB F.PMC_TALLY_CMD.BUSY = true ∧ t = { s with regs := t.regs } ∧
      RegsBut [pmcB+0xD00] s t) ∧
  (∀ (s : State),
    Does .tallyCmdDone s fun t =>
      t.bit pmcB F.PMC_TALLY_CMD.BUSY = false ∧ t = { s with regs := t.regs } ∧ RegsBut [pmcB+0xD00] s t) ∧
  (∀ (m : Master) (c : Fin 96) (hi : Bool) (v : Word) (s : State), s.reaches m (pmcCtr c + 4 * b2n hi) = true →
    Does (.pmcCtrWrite m c hi v) s fun t =>
      (t.reg (pmcCtr c + 4 * b2n hi) = if hi then BitVec.ofNat 32 (v.toNat % 65536) else v) ∧
      t = { s with regs := t.regs } ∧ RegsBut [pmcCtr c.val+4*b2n hi] s t) ∧
  (∀ (m : Master) (s : State), s.reaches m pmcB = true →
    Does (.pmcSnap m) s fun t =>
      t.regWords (pmcB + 0x800) 192 = s.regWords (pmcB + 0x400) 192 ∧
      t.fld pmcB F.PMC_CTRL.SNAP_GEN = (s.fld pmcB F.PMC_CTRL.SNAP_GEN + 1) % 256 ∧ t = { s with regs := t.regs } ∧
      RegsBut (pmcB::(List.range 192).map fun k => pmcB + 0x800 + 4 * k) s t) ∧
  (∀ (k : Fin 4) (skid : Fin 5) (s : State), s.fld pmcB (F.PMC_SAMP_CFG.EN.at (8 * k)) = 1 →
      max 1 (s.fld pmcB (F.PMC_SAMP_PER.PERIOD.at (8 * k))) ≤ SMap.get (fun _ => 0) s.sampN k →
      SMap.get (fun _ => 0) s.sampArm k = 0 →
      s.mirrorF (s.fld pmcB (F.PMC_SAMP_CFG.SESSION.at (8 * k))) F.TBL_MIRROR.EN ≠ 0 →
    Does (.samplerTrigger k skid) s fun t =>
      t.sampN = (SMap.set (fun _ => 0) s.sampN k 0) ∧
      t.sampArm = SMap.set (fun _ => 0) s.sampArm k (1 + skid.val + 8 * skid.val) ∧
      t = { s with sampN := t.sampN, sampArm := t.sampArm }) ∧
  (∀ (k : Fin 4) (skid : Fin 5) (s : State), s.fld pmcB (F.PMC_SAMP_CFG.EN.at (8 * k)) = 1 →
      max 1 (s.fld pmcB (F.PMC_SAMP_PER.PERIOD.at (8 * k))) ≤ SMap.get (fun _ => 0) s.sampN k →
      (SMap.get (fun _ => 0) s.sampArm k ≠ 0 ∨ s.mirrorF (s.fld pmcB (F.PMC_SAMP_CFG.SESSION.at (8 * k))) F.TBL_MIRROR.EN = 0) →
    Does (.samplerTrigger k skid) s fun t =>
      t.sampN = SMap.set (fun _ => 0) s.sampN k 0 ∧ t.ctrs = (s.count (pmcB + Ctr.PMC.SAMPLE_MISS)).ctrs ∧
      t.evt = (s.raiseMs 0 Ev.PMC_SAMPLE_MISS 0x3E noInst [(1, k.val), (1, (if SMap.get (fun _ => 0) s.sampArm k ≠ 0 then 0 else 1))]).evt ∧
      t = { s with sampN := t.sampN, ctrs := t.ctrs, evt := t.evt }) ∧
  (∀ (m : Master) (u : Fin 4) (poly space : BitVec 2) (ns : Bool) (s : State), s.reaches m (chkB u) = true →
      s.chkBusy u = false → space.toNat < 2 →
    Does (.chkScanGo m u poly space ns) s fun t =>
      t.chk = { s.chk with scan := SMap.set (fun _ => (0, 0)) s.chk.scan u (poly.toNat, min (2 ^ 24) (max 1 (s.fld (chkB u) F.CHK_LEN.LEN))) } ∧
      t.chkBusy u = true ∧ t.fld (chkB u) F.CHK_CTRL.USER = 1 ∧ t.fld (chkB u) F.CHK_CTRL.POLY = poly.toNat ∧
      t.reg (chkB u + 0x10) = 0 ∧ t.regWords (chkB u + 0x14) 2 = [0, 0] ∧ t = { s with chk := t.chk, regs := t.regs } ∧
      RegsBut [chkB u.val,chkB u.val+0x10,chkB u.val+0x14,chkB u.val+0x18] s t) ∧
  (∀ (m : Master) (u : Fin 4) (poly space : BitVec 2) (ns : Bool) (s : State), s.reaches m (chkB u) = true →
      s.chkBusy u = false → 2 ≤ space.toNat →
    Does (.chkScanGo m u poly space ns) s fun t =>
      t.reg (chkB u + 0x10) = BitVec.ofNat 32 (2 ^ 31 + 3 * 2 ^ 27 + poly.toNat * 2 ^ 25) ∧ t.regWords (chkB u + 0x14) 2 = [0, 0] ∧
      t.chkBusy u = false ∧ t.ctrs = (s.count (chkB u + Ctr.CHK.SCANS)).ctrs ∧
      t.evt = (s.raise Ev.CHK_DONE 0x3D u [(1, u.val), (1, 3)]).evt ∧
      t = { s with ctrs := t.ctrs, evt := t.evt, regs := t.regs } ∧
      RegsBut [chkB u.val,chkB u.val+0x10,chkB u.val+0x14,chkB u.val+0x18] s t) ∧
  (∀ (u : Fin 4) (data : List Byte) (busOk : Bool) (s : State), s.live 0x3D = true → s.fld (chkB u) F.CHK_CTRL.USER = 1 →
      ((List.range 32).all fun d => !(s.dch d).waits) = true →
    Does (.chkScanDone u data busOk) s fun t =>
      t.reg (chkB u + 0x10) = BitVec.ofNat 32 (2 ^ 31 + ((if busOk then 0 else 1)) * 2 ^ 27 + ((SMap.get (fun _ => (0, 0)) s.chk.scan u).1) * 2 ^ 25 + if busOk then ((SMap.get (fun _ => (0, 0)) s.chk.scan u).2) else min ((SMap.get (fun _ => (0, 0)) s.chk.scan u).2) data.length) ∧
      t.regWords (chkB u + 0x14) 2 = natWords 2 (if busOk then polyCrc ((SMap.get (fun _ => (0, 0)) s.chk.scan u).1) (bytesAt data 0 ((SMap.get (fun _ => (0, 0)) s.chk.scan u).2)) else 0) ∧
      t.chkBusy u = false ∧ t.fld (chkB u) F.CHK_CTRL.USER = 0 ∧ t.ctrs = (s.count (chkB u + Ctr.CHK.SCANS)).ctrs ∧
      t.evt = (s.raise Ev.CHK_DONE 0x3D u [(1, u.val), (1, ((if busOk then 0 else 1)))]).evt ∧
      t = { s with ctrs := t.ctrs, evt := t.evt, regs := t.regs } ∧
      RegsBut [chkB u.val,chkB u.val+0x10,chkB u.val+0x14,chkB u.val+0x18] s t) ∧
  (∀ (b : Nat) (rest : List Nat) (u : Nat) (s : State), s.live 0x3D = true → s.chk.scrubs = b :: rest →
      ((List.range 4).find? fun u => !s.chkBusy u) = some u →
    Does .chkScrubStart s fun t =>
      t.chk = { s.chk with scrubs := rest, bank := SMap.set (fun _ => 0) s.chk.bank u b } ∧
      t.chkBusy u = true ∧ t.fld (chkB u) F.CHK_CTRL.USER = 3 ∧ t = { s with chk := t.chk, regs := t.regs } ∧
      RegsBut [chkB u] s t) ∧
  (∀ (s : State), (s.chk.scrubs = [] ∨ ((List.range 4).all fun u => s.chkBusy u) = true) →
    Does .chkScrubStart s fun t =>
      t = s) ∧
  (∀ (u : Fin 4) (pass : Bool) (s : State), s.live 0x3D = true → s.fld (chkB u) F.CHK_CTRL.USER = 3 →
      ((SMap.get (fun _ => 0) s.chk.bank u)) < 64 → ((List.range 32).all fun d => !(s.dch d).waits) = true →
    Does (.chkScrubDone u pass) s fun t =>
      t.bankState ((SMap.get (fun _ => 0) s.chk.bank u)) = ((if pass then 4 else 2)) ∧
      t.chkBusy u = false ∧ t.fld (chkB u) F.CHK_CTRL.USER = 0 ∧
      t.ctrs = (if pass then ((s.count (chkB u + Ctr.CHK.SCRUBS))) else ((s.count (chkB u + Ctr.CHK.SCRUBS))).count (chkB u + Ctr.CHK.SCRUB_FAILS)).ctrs ∧
      t.evt = ((if pass then s else ((s.raise Ev.CHK_SCRUB_FAIL 0x3D u [(1, u.val), (1, ((SMap.get (fun _ => 0) s.chk.bank u)))]))).raise Ev.TBL_BANK_STATE 0x22 noInst [(1, ((SMap.get (fun _ => 0) s.chk.bank u))), (1, s.bankState ((SMap.get (fun _ => 0) s.chk.bank u))), (1, ((if pass then 4 else 2)))]).evt ∧
      t = { s with ctrs := t.ctrs, evt := t.evt, regs := t.regs } ∧
      RegsBut [chkB u.val,tblB+(bankFld (SMap.get (fun _ => 0) s.chk.bank u)).off] s t)

/-- A training sequence of a channel counts; one that passes shows its margins and ends the training, a first failure
shows its step and is tried again, a second reports it, clears WANT and takes the channel OUT. Each initialised unit's
pages join the free list, and the first takes a channel in RETURN to IN. WANT 0 drains a channel in IN with the timer
DRAIN_TO, or takes one in RETURN to OUT; WANT 1 takes one in DRAIN back to IN, and one in OUT into training after item
6. The drain ends when no page is in use or at DRAIN_TO. Each change of state shows the usable pages and is reported,
with a cause the spec does not name, a free value (log entry 96); a channel that leaves IN takes the trace ring's pages
with it. Setting MCC_TRACE_CFG.EN after sealing allocates the ring or clears EN again; MCC_TRACE_CMD copies a record the
ring holds into the data words, else CAUSE is 01. Nothing else changes. -/
def Obligations.MemoryChannelsTrainAndServe : Prop :=
  (∀ (c : Fin 8) (pass : Bool) (step : BitVec 3) (margins : Word) (s : State), s.mcTraining c = true → pass = true →
    Does (.mcTrainDone c pass step margins) s fun t =>
      t.ctrs = (s.count (mcB c + Ctr.MC.TRAIN_RUNS)).ctrs ∧
      t.mcF c F.MC_TRAIN_STAT.ATTEMPTS = (s.mcF c F.MC_TRAIN_STAT.ATTEMPTS + 1) % 4 ∧ t.mcF c F.MC_TRAIN_STAT.PASS = 1 ∧ t.mcF c F.MC_TRAIN_STAT.STEP = 0 ∧
      t.reg (mcB c + 0x14) = margins ∧ (t.mcF c F.MC_STAT.PHASE = if s.mcState c = 3 then 2 else 0) ∧
      t = { s with ctrs := t.ctrs, regs := t.regs } ∧ RegsBut [(mcB c.val+0x4),(mcB c.val)+0x10,(mcB c.val)+0x14] s t) ∧
  (∀ (c : Fin 8) (pass : Bool) (step : BitVec 3) (margins : Word) (s : State), s.mcTraining c = true → pass = false →
      s.mcF c F.MC_TRAIN_STAT.ATTEMPTS = 0 →
    Does (.mcTrainDone c pass step margins) s fun t =>
      t.ctrs = (s.count (mcB c + Ctr.MC.TRAIN_RUNS)).ctrs ∧
      t.mcF c F.MC_TRAIN_STAT.ATTEMPTS = 1 ∧ t.mcF c F.MC_TRAIN_STAT.PASS = 0 ∧ t.mcF c F.MC_TRAIN_STAT.STEP = step.toNat ∧
      t = { s with ctrs := t.ctrs, regs := t.regs } ∧ RegsBut [(mcB c.val)+0x10] s t) ∧
  (∀ (c : Fin 8) (pass : Bool) (step : BitVec 3) (margins : Word) (s : State), s.mcTraining c = true → pass = false →
      s.mcF c F.MC_TRAIN_STAT.ATTEMPTS ≠ 0 → s.mcState c = 3 →
    Does (.mcTrainDone c pass step margins) s fun t =>
      t.ctrs = (s.count (mcB c + Ctr.MC.TRAIN_RUNS)).ctrs ∧
      t.mcF c F.MC_TRAIN_STAT.PASS = 0 ∧ t.mcF c F.MC_TRAIN_STAT.STEP = step.toNat ∧
      t.mcF c F.MC_SVC_CTRL.WANT = 0 ∧ t.mcState c = 2 ∧ t.mcF c F.MC_STAT.PHASE = 0 ∧
      t.mem = (s.setMc c { (McChan.empty) with resetN := (s.mc c).resetN }).mem ∧
      t.evt = (((s.raise Ev.MC_TRAIN_FAIL (0x30 + c) noInst [(1, c.val), (1, step.toNat), (1, (s.mcF c F.MC_TRAIN_STAT.ATTEMPTS + 1) % 4)])).raise Ev.MC_SVC_STATE (0x30 + c) noInst [(1, c.val), (1, 3), (1, 2), (1, Config.free s.freeNext)]).evt ∧
      t.freeNext = s.freeNext + 1 ∧ t.timerOn (Tm.mcDrain c) = false ∧
      (t.fld mccB F.MCC_DEEP_STAT.PAGES = t.usablePages % 2 ^ F.MCC_DEEP_STAT.PAGES.width) ∧
      t = { s with mem := t.mem, ctrs := t.ctrs, evt := t.evt, freeNext := t.freeNext, timers := t.timers, regs := t.regs } ∧
      TimersBut [Tm.mcDrain c.val] s t ∧ RegsBut [(mcB c.val),(mcB c.val+0x4),(mcB c.val)+0x10,(mccB+0x10)] s t) ∧
  (∀ (c : Fin 8) (s : State), s.live (0x30 + c.val) = true → s.mcState c = 0 → s.mcF c F.MC_STAT.UNITS < s.mcUnits →
    Does (.mcUnitInitDone c) s fun t =>
      t.mcF c F.MC_STAT.UNITS = s.mcF c F.MC_STAT.UNITS + 1 ∧
      (t.fld mccB F.MCC_DEEP_STAT.PAGES = t.usablePages % 2 ^ F.MCC_DEEP_STAT.PAGES.width) ∧
      t = { s with regs := t.regs } ∧ RegsBut [(mcB c.val+0x4),(mccB+0x10)] s t) ∧
  (∀ (c : Fin 8) (s : State), s.live (0x30 + c.val) = true → s.mcState c = 3 → s.mcF c F.MC_STAT.PHASE = 2 →
      s.mcF c F.MC_STAT.UNITS < s.mcUnits →
    Does (.mcUnitInitDone c) s fun t =>
      t.mcF c F.MC_STAT.UNITS = s.mcF c F.MC_STAT.UNITS + 1 ∧ t.mcState c = 0 ∧ t.mcF c F.MC_STAT.PHASE = 0 ∧
      t.evt = ((s.raise Ev.MC_SVC_STATE (0x30 + c) noInst [(1, c.val), (1, (3)), (1, (0)), (1, Config.free s.freeNext)])).evt ∧
      t.freeNext = s.freeNext + 1 ∧ (t.fld mccB F.MCC_DEEP_STAT.PAGES = t.usablePages % 2 ^ F.MCC_DEEP_STAT.PAGES.width) ∧
      t = { s with evt := t.evt, freeNext := t.freeNext, regs := t.regs } ∧ RegsBut [(mcB c.val+0x4),(mccB+0x10)] s t) ∧
  (∀ (m : Master) (c : Fin 8) (s : State), s.reaches m (mcB c) = true → s.mcState c = 0 → pagesOf s.mem.trace c = 0 →
    Does (.mcSvcWantClear m c) s fun t =>
      t.mcF c F.MC_SVC_CTRL.WANT = 0 ∧ t.mcState c = 1 ∧
      t.evt = ((s.raise Ev.MC_SVC_STATE (0x30 + c) noInst [(1, c.val), (1, (0)), (1, (1)), (1, Config.free s.freeNext)])).evt ∧
      t.freeNext = s.freeNext + 1 ∧
      SMap.get (fun _ => 0) t.timers (Tm.mcDrain c) = s.now + max 1 (s.mcF c F.MC_SVC_CTRL.DRAIN_TO) * msTicks + 1 ∧
      (t.fld mccB F.MCC_DEEP_STAT.PAGES = t.usablePages % 2 ^ F.MCC_DEEP_STAT.PAGES.width) ∧
      t = { s with evt := t.evt, freeNext := t.freeNext, timers := t.timers, regs := t.regs } ∧
      TimersBut [Tm.mcDrain c.val] s t ∧ RegsBut [(mcB c.val),(mcB c.val+0x4),(mccB+0x10)] s t) ∧
  (∀ (m : Master) (c : Fin 8) (s : State), s.reaches m (mcB c) = true → s.mcState c = 0 → pagesOf s.mem.trace c ≠ 0 →
    Does (.mcSvcWantClear m c) s fun t =>
      t.mcState c = 1 ∧ t.mcF c F.MC_SVC_CTRL.WANT = 0 ∧ t.bit mccB F.MCC_TRACE_CFG.EN = false ∧
      t.mem.trace = [] ∧ t.mem.traceBad = [] ∧ t.mem.ring = [] ∧ t.mem.ringN = 0 ∧
      t.mem = { s.mem with retired := t.mem.retired, trace := [], traceBad := [], ring := [], ringN := 0 } ∧
      t.evt = (((s.raise Ev.MC_SVC_STATE (0x30 + c) noInst [(1, c.val), (1, (0)), (1, (1)), (1, Config.free s.freeNext)])).raise Ev.MCC_TRACE_OFF 0x38 noInst [(1, c.val)]).evt ∧
      SMap.get (fun _ => 0) t.timers (Tm.mcDrain c) = s.now + max 1 (s.mcF c F.MC_SVC_CTRL.DRAIN_TO) * msTicks + 1 ∧
      (t.fld mccB F.MCC_DEEP_STAT.PAGES = t.usablePages % 2 ^ F.MCC_DEEP_STAT.PAGES.width) ∧
      t = { s with mem := t.mem, ctrs := t.ctrs, evt := t.evt, freeNext := t.freeNext, timers := t.timers, regs := t.regs } ∧
      TimersBut [Tm.mcDrain c.val] s t ∧ RegsBut [(mcB c.val),(mcB c.val+0x4),(mccB+0x10),mccB+0x20] s t) ∧
  (∀ (m : Master) (c : Fin 8) (s : State), s.reaches m (mcB c) = true → s.mcState c = 3 →
    Does (.mcSvcWantClear m c) s fun t =>
      t.mcState c = 2 ∧ t.mcF c F.MC_SVC_CTRL.WANT = 0 ∧
      t.mem = (s.setMc c { (McChan.empty) with resetN := (s.mc c).resetN }).mem ∧
      t.evt = ((s.raise Ev.MC_SVC_STATE (0x30 + c) noInst [(1, c.val), (1, (3)), (1, (2)), (1, Config.free s.freeNext)])).evt ∧
      t.timerOn (Tm.mcDrain c) = false ∧
      (t.fld mccB F.MCC_DEEP_STAT.PAGES = t.usablePages % 2 ^ F.MCC_DEEP_STAT.PAGES.width) ∧
      t = { s with mem := t.mem, evt := t.evt, freeNext := t.freeNext, timers := t.timers, regs := t.regs } ∧
      TimersBut [Tm.mcDrain c.val] s t ∧ RegsBut [(mcB c.val),(mcB c.val+0x4),(mccB+0x10)] s t) ∧
  (∀ (m : Master) (c : Fin 8) (s : State), s.reaches m (mcB c) = true → s.mcState c = 1 →
    Does (.mcSvcWantSet m c) s fun t =>
      t.mcState c = 0 ∧ t.mcF c F.MC_SVC_CTRL.WANT = 1 ∧
      t.evt = ((s.raise Ev.MC_SVC_STATE (0x30 + c) noInst [(1, c.val), (1, (1)), (1, (0)), (1, Config.free s.freeNext)])).evt ∧
      t.timerOn (Tm.mcDrain c) = false ∧
      (t.fld mccB F.MCC_DEEP_STAT.PAGES = t.usablePages % 2 ^ F.MCC_DEEP_STAT.PAGES.width) ∧
      t = { s with evt := t.evt, freeNext := t.freeNext, timers := t.timers, regs := t.regs } ∧
      TimersBut [Tm.mcDrain c.val] s t ∧ RegsBut [(mcB c.val),(mcB c.val+0x4),(mccB+0x10)] s t) ∧
  (∀ (m : Master) (c : Fin 8) (s : State), s.reaches m (mcB c) = true → s.mcState c = 2 → 6 < s.stage →
    Does (.mcSvcWantSet m c) s fun t =>
      t.mcState c = 3 ∧ t.mcF c F.MC_STAT.PHASE = 1 ∧ t.mcF c F.MC_STAT.UNITS = 0 ∧ t.mcF c F.MC_SVC_CTRL.WANT = 1 ∧
      t.mcF c F.MC_TRAIN_STAT.ATTEMPTS = 0 ∧ t.mcF c F.MC_TRAIN_STAT.PASS = 0 ∧
      t.evt = ((s.raise Ev.MC_SVC_STATE (0x30 + c) noInst [(1, c.val), (1, (2)), (1, (3)), (1, Config.free s.freeNext)])).evt ∧
      (t.fld mccB F.MCC_DEEP_STAT.PAGES = t.usablePages % 2 ^ F.MCC_DEEP_STAT.PAGES.width) ∧
      t = { s with evt := t.evt, freeNext := t.freeNext, regs := t.regs } ∧
      RegsBut [(mcB c.val),(mcB c.val+0x4),(mcB c.val)+0x10,(mccB+0x10)] s t) ∧
  (∀ (c : Fin 8) (s : State), s.live (0x30 + c.val) = true → s.mcState c = 1 → pagesOf s.mem.used c = 0 →
    Does (.mcSvcDrainDone c) s fun t =>
      t.mcState c = 2 ∧ t.mem = (s.setMc c { (McChan.empty) with resetN := (s.mc c).resetN }).mem ∧
      t.evt = ((s.raise Ev.MC_SVC_STATE (0x30 + c) noInst [(1, c.val), (1, (1)), (1, (2)), (1, Config.free s.freeNext)])).evt ∧
      t.timerOn (Tm.mcDrain c) = false ∧
      (t.fld mccB F.MCC_DEEP_STAT.PAGES = t.usablePages % 2 ^ F.MCC_DEEP_STAT.PAGES.width) ∧
      t = { s with mem := t.mem, evt := t.evt, freeNext := t.freeNext, timers := t.timers, regs := t.regs } ∧
      TimersBut [Tm.mcDrain c.val] s t ∧ RegsBut [(mcB c.val+0x4),(mccB+0x10)] s t) ∧
  (∀ (c : Fin 8) (s : State), s.live (0x30 + c.val) = true → s.timerOn (Tm.mcDrain c) = true → s.mcState c = 1 →
      s.tmg.qs = [] →
    Does (.mcSvcDrainTimeout c) s fun t =>
      t.mcState c = 2 ∧ t.mem = ((s.atEnd (Tm.mcDrain c)).setMc c { (McChan.empty) with resetN := (s.mc c).resetN }).mem ∧
      t.evt = ((s.atEnd (Tm.mcDrain c)).raise Ev.MC_SVC_STATE (0x30 + c) noInst [(1, c.val), (1, 1), (1, 2), (1, Config.free (s.atEnd (Tm.mcDrain c)).freeNext)]).evt ∧
      t.timerOn (Tm.mcDrain c) = false ∧
      (t.fld mccB F.MCC_DEEP_STAT.PAGES = t.usablePages % 2 ^ F.MCC_DEEP_STAT.PAGES.width) ∧
      t = { (s.atEnd (Tm.mcDrain c)) with mem := t.mem, evt := t.evt, freeNext := t.freeNext, timers := t.timers, regs := t.regs } ∧
      TimersBut [Tm.mcDrain c.val] (s.atEnd (Tm.mcDrain c)) t ∧
      RegsBut [(mcB c.val+0x4),(mccB+0x10)] (s.atEnd (Tm.mcDrain c)) t) ∧
  (∀ (m : Master) (s : State), s.reaches m (mccB + 0x20) = true →
      (s.bit mccB F.MCC_TRACE_CFG.EN = true ∨ s.sealed = false) →
    Does (.mccTraceEnSet m) s fun t =>
      t.bit mccB F.MCC_TRACE_CFG.EN = true ∧ t = { s with regs := t.regs } ∧ RegsBut [mccB+0x20] s t) ∧
  (∀ (m : Master) (s : State), s.reaches m (mccB + 0x20) = true → s.bit mccB F.MCC_TRACE_CFG.EN = false →
      s.sealed = true → s.dramOn = false →
    Does (.mccTraceEnSet m) s fun t =>
      t.bit mccB F.MCC_TRACE_CFG.EN = false ∧
      t.mem = { s.mem with retired := t.mem.retired, trace := [], traceBad := [], ring := [], ringN := 0 } ∧
      (t.fld mccB F.MCC_DEEP_STAT.PAGES = t.usablePages % 2 ^ F.MCC_DEEP_STAT.PAGES.width) ∧
      t = { s with mem := t.mem, ctrs := t.ctrs, regs := t.regs } ∧ RegsBut [mccB+0x20,(mccB+0x10)] s t) ∧
  (∀ (m : Master) (s : State), s.reaches m (mccB + 0x20) = true → s.bit mccB F.MCC_TRACE_CFG.EN = false →
      s.sealed = true → s.ringSlots = 16384 → ((List.range 8).all fun k => s.mcIn k == decide (k = 2)) = true →
      s.mem.trace = [] ∧ s.mem.traceBad = [] ∧ 256 ≤ s.freePages 2 →
    Does (.mccTraceEnSet m) s fun t =>
      t.bit mccB F.MCC_TRACE_CFG.EN = true ∧
      t.mem = { s.mem with trace := [(2, 256)], rot := 3, ring := [], ringN := 0 } ∧
      (t.fld mccB F.MCC_DEEP_STAT.PAGES = t.usablePages % 2 ^ F.MCC_DEEP_STAT.PAGES.width) ∧
      t = { s with mem := t.mem, regs := t.regs } ∧ RegsBut [mccB+0x20,(mccB+0x10)] s t) ∧
  (∀ (m : Master) (i : BitVec 28) (s : State), s.reaches m (mccB + 0x28) = true →
      s.bit mccB F.MCC_TRACE_CMD.BUSY = false →
      ((s.fld mccB F.MCC_TRACE_WP.WP + 2 ^ 32 - 1 - i.toNat) % 2 ^ 28) < min s.mem.ringN s.ringSlots →
    Does (.mccTraceRead m i) s fun t =>
      t.bit mccB F.MCC_TRACE_CMD.BUSY = true ∧ t.fld mccB F.MCC_TRACE_CMD.CAUSE = 0 ∧ t.fld mccB F.MCC_TRACE_CMD.INDEX = i.toNat ∧
      t.regWords (mccB + 0x30) 16 = bytesWords (bytesAt (SMap.get (fun _ => []) s.mem.ring (((s.fld mccB F.MCC_TRACE_WP.WP + 2 ^ 32 - 1 - ((s.fld mccB F.MCC_TRACE_WP.WP + 2 ^ 32 - 1 - i.toNat) % 2 ^ 28)) % 2 ^ 32) % s.ringSlots)) 0 64) ∧
      t = { s with regs := t.regs } ∧ RegsBut ((mccB+0x28)::(List.range 16).map fun k => mccB + 0x30 + 4 * k) s t) ∧
  (∀ (m : Master) (i : BitVec 28) (s : State), s.reaches m (mccB + 0x28) = true →
      s.bit mccB F.MCC_TRACE_CMD.BUSY = false →
      min s.mem.ringN s.ringSlots ≤ (s.fld mccB F.MCC_TRACE_WP.WP + 2 ^ 32 - 1 - i.toNat) % 2 ^ 28 →
    Does (.mccTraceRead m i) s fun t =>
      t.bit mccB F.MCC_TRACE_CMD.BUSY = true ∧ t.fld mccB F.MCC_TRACE_CMD.CAUSE = 1 ∧ t.fld mccB F.MCC_TRACE_CMD.INDEX = i.toNat ∧
      t = { s with regs := t.regs } ∧ RegsBut [mccB+0x28] s t)

/-- Each refresh interval of a running channel adds to its debt, counted as postponed in panic; above 8 one is forced,
counted and reported. A hotter MR4 reading applies at once, after the debt has been issued back to back; a cooler one
when two polls in a row agree. The end of panic issues the debt. A throttle ends at its HOLD, and the refresh window
clears the trackers. With nothing waiting a channel issues one owed refresh; a read that needs no activation is issued
and outstanding. Patrol scrub asks for its granule in service. A returned read that is good only leaves the outstanding
list; a corrected one is also written back, counted, reported at most once per 1 ms and logged; a lost one is counted,
reported and logged, and its page is retired, at once where it is free. A first error, or the first uncorrectable one,
fills the log, another sets MORE; MC_ECC_CLR clears the log. Nothing else changes but what counts performance events. -/
def Obligations.MemoryChannelsScheduleAndRefresh : Prop :=
  (∀ (c : Fin 8) (s : State), s.mcRuns c = true → s.mcF c F.MC_STAT.DEBT < 8 →
    Does (.refreshInterval c) s fun t =>
      t.mcF c F.MC_STAT.DEBT = s.mcF c F.MC_STAT.DEBT + 1 ∧
      t.ctrs = ((if s.bit (mcB c) F.MC_STAT.PANIC then s.count (mcB c + Ctr.MC.REF_POSTPONED) else s)).ctrs ∧
      t = { s with ctrs := t.ctrs, regs := t.regs } ∧ RegsBut [(mcB c.val+0x4)] s t) ∧
  (∀ (c : Fin 8) (s : State), s.mcRuns c = true → 8 ≤ s.mcF c F.MC_STAT.DEBT →
    Does (.refreshInterval c) s fun t =>
      t.ctrs = ((((if s.bit (mcB c) F.MC_STAT.PANIC then s.count (mcB c + Ctr.MC.REF_POSTPONED) else s)).count (mcB c + Ctr.MC.REF_FORCED)).count (mcB c + Ctr.MC.REF_ISSUED)).ctrs ∧
      t = { s with ctrs := t.ctrs, evt := t.evt, sampN := t.sampN, regs := t.regs } ∧ RegsBut pmcRegs s t) ∧
  (∀ (c : Fin 8) (s : State), s.mcRuns c = false →
    Does (.refreshInterval c) s fun t =>
      t = s) ∧
  (∀ (c : Fin 8) (rate : Fin 3) (s : State), s.mcRuns c = true → s.mcF c F.MC_STAT.RATE < rate.val →
    Does (.mr4Poll c rate) s fun t =>
      t.mcF c F.MC_STAT.RATE = rate.val ∧ t.mcF c F.MC_STAT.DEBT = 0 ∧
      (t.mcF c F.MC_STAT.TEMP_HOT = if rate.val = 2 then 1 else s.mcF c F.MC_STAT.TEMP_HOT) ∧
      t.mem = (s.setMc c { s.mc c with lower := 0 }).mem ∧
      t.ctrs = ((s.count (mcB c + Ctr.MC.REF_CATCHUP) (s.mcF c F.MC_STAT.DEBT)).count (mcB c + Ctr.MC.REF_ISSUED) (s.mcF c F.MC_STAT.DEBT)).ctrs ∧
      t = { s with mem := t.mem, ctrs := t.ctrs, evt := t.evt, sampN := t.sampN, regs := t.regs } ∧
      RegsBut ((mcB c.val+0x4)::pmcRegs) s t) ∧
  (∀ (c : Fin 8) (rate : Fin 3) (s : State), s.mcRuns c = true → rate.val = s.mcF c F.MC_STAT.RATE →
    Does (.mr4Poll c rate) s fun t =>
      t.mem = (s.setMc c { s.mc c with lower := 0 }).mem ∧ t = { s with mem := t.mem }) ∧
  (∀ (c : Fin 8) (rate : Fin 3) (s : State), s.mcRuns c = true → rate.val < s.mcF c F.MC_STAT.RATE →
      (s.mc c).lower ≠ rate.val + 1 →
    Does (.mr4Poll c rate) s fun t =>
      t.mem = (s.setMc c { s.mc c with lower := rate.val + 1 }).mem ∧ t = { s with mem := t.mem }) ∧
  (∀ (c : Fin 8) (rate : Fin 3) (s : State), s.mcRuns c = true → rate.val < s.mcF c F.MC_STAT.RATE →
      (s.mc c).lower = rate.val + 1 →
    Does (.mr4Poll c rate) s fun t =>
      t.mem = (s.setMc c { s.mc c with lower := 0 }).mem ∧ t.mcF c F.MC_STAT.RATE = rate.val ∧
      t.evt = (s.raise Ev.MC_TEMP_RATE (0x30 + c) noInst [(1, c.val), (1, s.mcF c F.MC_STAT.RATE), (1, rate.val)]).evt ∧
      t = { s with mem := t.mem, evt := t.evt, regs := t.regs } ∧ RegsBut [(mcB c.val+0x4)] s t) ∧
  (∀ (c : Fin 8) (s : State), s.live (0x30 + c.val) = true → s.bit (mcB c) F.MC_STAT.PANIC = true → s.panicAny = false →
    Does (.mcPanicClear c) s fun t =>
      t.bit (mcB c) F.MC_STAT.PANIC = false ∧ t.mcF c F.MC_STAT.DEBT = 0 ∧
      t.ctrs = (s.count (mcB c + Ctr.MC.REF_ISSUED) (s.mcF c F.MC_STAT.DEBT)).ctrs ∧
      t = { s with ctrs := t.ctrs, evt := t.evt, sampN := t.sampN, regs := t.regs } ∧
      RegsBut ((mcB c.val+0x4)::pmcRegs) s t) ∧
  (∀ (c : Fin 8) (bank : Fin 16) (id : Fin 7) (s : State), s.live (0x30 + c.val) = true →
      s.timerOn ((Tm.throttle c bank id)) = true →
    Does (.rhThrottleHoldExpiry c bank id) s fun t =>
      t.timerOn ((Tm.throttle c bank id)) = false ∧
      t.mem = { s.mem with lastAct := SMap.set (fun _ => 0) s.mem.lastAct ((Tm.throttle c bank id)) 0 } ∧
      t = { (s.atEnd ((Tm.throttle c bank id))) with mem := t.mem }) ∧
  (∀ (c : Fin 8) (s : State), s.live (0x30 + c.val) = true →
    Does (.refreshWindowClear c) s fun t =>
      t.mem = (s.setMc c { s.mc c with track := [] }).mem ∧ t = { s with mem := t.mem }) ∧
  (∀ (c : Fin 8) (s : State), s.mcRuns c = true → (s.mc c).reqs = [] → s.mcF c F.MC_STAT.DEBT ≠ 0 →
      s.bit (mcB c) F.MC_STAT.PANIC = false →
    Does (.dramCommandIssue c []) s fun t =>
      t.mcF c F.MC_STAT.DEBT = s.mcF c F.MC_STAT.DEBT - 1 ∧ t.ctrs = (s.count (mcB c + Ctr.MC.REF_ISSUED)).ctrs ∧
      t = { s with ctrs := t.ctrs, evt := t.evt, sampN := t.sampN, regs := t.regs } ∧
      RegsBut ((mcB c.val+0x4)::pmcRegs) s t) ∧
  (∀ (c : Fin 8) (r : DramReq) (s : State), s.mcRuns c = true → (s.mc c).reqs = [] ∧ (s.mc c).reads = [] →
      r.write = false ∧ r.opens = false → r.id.val < 6 →
    Does (.dramCommandIssue c [r]) s fun t =>
      t.mc c = { s.mc c with reqs := [], reads := [(({ id := r.id.val, write := false, bank := r.bank.val, row := r.row.toNat, col := r.col.toNat, opens := false, back := false } : McReq))] } ∧
      t.ctrs = s.ctrs ∧ t = { s with mem := t.mem, ctrs := t.ctrs, evt := t.evt, sampN := t.sampN, regs := t.regs } ∧
      RegsBut pmcRegs s t) ∧
  (∀ (c : Fin 8) (s : State), (s.mcRuns c = false ∨ ((s.mc c).reqs = [] ∧ s.mcF c F.MC_STAT.DEBT = 0)) →
    Does (.dramCommandIssue c []) s fun t =>
      t = s) ∧
  (∀ (c : Fin 8) (bank : Fin 16) (row : BitVec 17) (col : BitVec 5) (opens : Bool) (s : State), s.mcIn c = true →
      s.bit mccB F.MCC_CFG.SCRUB_EN = true →
    Does (.scrubVisit c bank row col opens) s fun t =>
      t.mem = (s.setMc c { s.mc c with reqs := (s.mc c).reqs ++ [(({ id := 6, write := false, bank := bank.val, row := row.toNat, col := col.toNat, opens, back := false } : McReq))] }).mem ∧
      t.ctrs = (if ((s.mc c).reqs.any fun q => q.write && q.sameAs (({ id := 6, write := false, bank := bank.val, row := row.toNat, col := col.toNat, opens, back := false } : McReq))) then s.count (mcB c + Ctr.MC.RAW_WAITS) else s).ctrs ∧
      t = { s with mem := t.mem, ctrs := t.ctrs }) ∧
  (∀ (c : Fin 8) (bank : Fin 16) (row : BitVec 17) (col : BitVec 5) (opens : Bool) (s : State),
      (s.mcIn c = false ∨ s.bit mccB F.MCC_CFG.SCRUB_EN = false) →
    Does (.scrubVisit c bank row col opens) s fun t =>
      t = s) ∧
  (∀ (c : Fin 8) (ecc : EccOutcome) (syndrome : BitVec 10) (page : DramPage) (s : State), s.live (0x30 + c.val) = true →
      (ecc = .good ∨ (s.mc c).reads = []) →
    Does (.dramReadReturn c ecc syndrome page) s fun t =>
      t.mc c = { s.mc c with reads := (s.mc c).reads.tail } ∧ t = { s with mem := t.mem }) ∧
  (∀ (c : Fin 8) (ecc : EccOutcome) (syndrome : BitVec 10) (page : DramPage) (r : McReq) (rest : List McReq) (s : State),
      s.live (0x30 + c.val) = true → ecc = .corrected → (s.mc c).reads = r :: rest →
      ((s.mc c).reqs ++ rest).all (fun q => !q.sameAs r) = true → s.bit ((mcB c)) F.MC_ECC_LOG0.VALID = false →
    Does (.dramReadReturn c ecc syndrome page) s fun t =>
      t.mc c = { s.mc c with reqs := (s.mc c).reqs ++ [(({ r with write := true, back := true, opens := false } : McReq))], reads := rest } ∧
      t.ctrs = (s.count ((mcB c) + if r.id = 6 then Ctr.MC.SCRUB_CE else Ctr.MC.ECC_CE)).ctrs ∧
      t.evt = (s.raiseMs c Ev.MC_ECC_CE (0x30 + c) noInst [(1, c.val), (1, r.bank), (3, r.row)]).evt ∧
      t.bit ((mcB c)) F.MC_ECC_LOG0.VALID = true ∧ t.bit ((mcB c)) F.MC_ECC_LOG0.UE = false ∧ t.fld ((mcB c)) F.MC_ECC_LOG1.SYNDROME = syndrome.toNat ∧
      t.fld ((mcB c)) F.MC_ECC_LOG0.REQ = r.id % 2 ^ F.MC_ECC_LOG0.REQ.width ∧ t.fld ((mcB c)) F.MC_ECC_LOG1.ROW = r.row % 2 ^ F.MC_ECC_LOG1.ROW.width ∧
      t = { s with mem := t.mem, ctrs := t.ctrs, evt := t.evt, regs := t.regs } ∧
      RegsBut [(mcB c.val)+0x20,(mcB c.val)+0x24,(mcB c.val)+0x28,(mcB c.val)+0x2c] s t) ∧
  (∀ (c : Fin 8) (ecc : EccOutcome) (syndrome : BitVec 10) (page : DramPage) (r : McReq) (rest : List McReq) (s : State),
      s.live (0x30 + c.val) = true → ecc = .lost → page = .unused → (s.mc c).reads = r :: rest →
      s.bit ((mcB c)) F.MC_ECC_LOG0.VALID = true ∧ s.bit ((mcB c)) F.MC_ECC_LOG0.UE = true →
    Does (.dramReadReturn c ecc syndrome page) s fun t =>
      t.mc c = { s.mc c with reads := rest } ∧
      t.evt = (s.raise Ev.MC_ECC_UE (0x30 + c) noInst [(1, c.val), (1, r.bank), (3, r.row), (1, r.id)]).evt ∧
      t.bit ((mcB c)) F.MC_ECC_LOG0.MORE = true ∧
      t.ctrs = (if (0 < s.freePages c) then ((s.count ((mcB c) + Ctr.MC.ECC_UE))).count ((mcB c) + Ctr.MC.PAGES_RETIRED) else (s.count ((mcB c) + Ctr.MC.ECC_UE))).ctrs ∧
      (pagesOf t.mem.retired c = pagesOf s.mem.retired c + if (0 < s.freePages c) then 1 else 0) ∧
      t = { s with mem := t.mem, ctrs := t.ctrs, evt := t.evt, regs := t.regs } ∧
      RegsBut [(mcB c.val)+0x20,(mccB+0x10)] s t) ∧
  (∀ (m : Master) (c : Fin 8) (s : State), s.reaches m (mcB c + 0x30) = true →
    Does (.mcEccClr m c) s fun t =>
      t.regWords (mcB c + 0x20) 4 = [0, 0, 0, 0] ∧ t = { s with regs := t.regs } ∧
      RegsBut [(mcB c.val)+0x20,(mcB c.val)+0x24,(mcB c.val)+0x28,(mcB c.val)+0x2C] s t)

/-- Where the port's own master writes JOB_CTRL with GO while no job of it runs, the result set is cleared, BUSY is set,
and the job holds what its OP gives for LEN bytes of its source, its IV, AAD length and the key of its slot: a slot must
lie in the port's partition, with the type and the use bit the OP needs; an empty one gives KEY_ABSENT. With IV_MODE 01
the slot's invocation counter is used and counts up. A tag, wrapped key, signature or condition that does not hold gives
its status; while the Mint is not OK the OPs that need randomness give status 6; a LEN above the limit or an OP not
listed ends the job at once. A signature of the identity key rests on a free value (log entries 91, 93). Nothing else
changes but what counts performance events and what the DRBG does. -/
def Obligations.VaultJobsStart : Prop :=
  (∀ (m : Master) (p : Fin 2) (ivMode : BitVec 2) (slot : BitVec 10) (src : List Byte) (k : KeySlot) (s : State),
      s.r54Discards m ((jobB p.val) + 0x100) = false → s.live 0x2C = true → decide (m = .host) = decide (p = 0) →
      s.bit ((jobB p.val)) F.JOB_CTRL.BUSY = false → s.portOwns p slot.toNat = true → s.slot slot.toNat = some k →
      (k.typ = 1 ∨ k.typ = 2) → k.use.testBit 2 = true → (s.jobF p F.JOB_LEN.LEN) ≤ 2 ^ 24 → ivMode ≠ 1 →
    Does (.jobGcmEnc m p ivMode slot src) s fun t =>
      (t.bit ((jobB p.val)) F.JOB_CTRL.BUSY = true ∧ t.jobF p F.JOB_CTRL.OP = (1) ∧ t.jobF p F.JOB_CTRL.IV_MODE = ivMode.toNat ∧ t.jobF p F.JOB_CTRL.SLOT = slot.toNat ∧ t.regWords ((jobB p.val) + 0x140) 5 = [0, 0, 0, 0, 0]) ∧
      t.vlt = { s.vlt with jobs := (s.vlt.jobs.set p (some ((({ op := (1), slot := some slot.toNat, status := 0, dst := bytesAt (aesCtr k.typ k.key ((s.jobIv p) * 2 ^ 32 + 2) ((((bytesAt src 0 ((s.jobF p F.JOB_LEN.LEN)))).drop ((min (s.jobF p F.JOB_AAD_LEN.AAD) ((bytesAt src 0 ((s.jobF p F.JOB_LEN.LEN)))).length))))) 0 (((bytesAt src 0 ((s.jobF p F.JOB_LEN.LEN)))).length - (min (s.jobF p F.JOB_AAD_LEN.AAD) ((bytesAt src 0 ((s.jobF p F.JOB_LEN.LEN)))).length)), tag := gcmTag k.typ k.key ((s.jobIv p)) (((bytesAt src 0 ((s.jobF p F.JOB_LEN.LEN)))).take ((min (s.jobF p F.JOB_AAD_LEN.AAD) ((bytesAt src 0 ((s.jobF p F.JOB_LEN.LEN)))).length))) (bytesAt (aesCtr k.typ k.key ((s.jobIv p) * 2 ^ 32 + 2) ((((bytesAt src 0 ((s.jobF p F.JOB_LEN.LEN)))).drop ((min (s.jobF p F.JOB_AAD_LEN.AAD) ((bytesAt src 0 ((s.jobF p F.JOB_LEN.LEN)))).length))))) 0 (((bytesAt src 0 ((s.jobF p F.JOB_LEN.LEN)))).length - (min (s.jobF p F.JOB_AAD_LEN.AAD) ((bytesAt src 0 ((s.jobF p F.JOB_LEN.LEN)))).length))) % 2 ^ 128, eff := .none } : Job))))) } ∧
      t = { s with vlt := t.vlt, evt := t.evt, sampN := t.sampN, regs := t.regs } ∧
      RegsBut ([(jobB p.val)+0x100,(jobB p.val)+0x140,(jobB p.val)+0x144,(jobB p.val)+0x148,(jobB p.val)+0x14C,(jobB p.val)+0x150] ++ pmcRegs) s t) ∧
  (∀ (m : Master) (p : Fin 2) (ivMode : BitVec 2) (slot : BitVec 10) (src : List Byte) (k : KeySlot) (s : State),
      s.r54Discards m ((jobB p.val) + 0x100) = false → s.live 0x2C = true → decide (m = .host) = decide (p = 0) →
      s.bit ((jobB p.val)) F.JOB_CTRL.BUSY = false → s.portOwns p slot.toNat = true → s.slot slot.toNat = some k →
      (k.typ = 1 ∨ k.typ = 2) → k.use.testBit 2 = true → (s.jobF p F.JOB_LEN.LEN) ≤ 2 ^ 24 → ivMode = 1 →
      k.iv + 1 < 2 ^ 64 - 2 ^ 32 →
    Does (.jobGcmEnc m p ivMode slot src) s fun t =>
      (t.bit ((jobB p.val)) F.JOB_CTRL.BUSY = true ∧ t.jobF p F.JOB_CTRL.OP = (1) ∧ t.jobF p F.JOB_CTRL.IV_MODE = ivMode.toNat ∧ t.jobF p F.JOB_CTRL.SLOT = slot.toNat ∧ t.regWords ((jobB p.val) + 0x140) 5 = [0, 0, 0, 0, 0]) ∧
      t.vlt = { s.vlt with jobs := (s.vlt.jobs.set p (some ((({ op := (1), slot := some slot.toNat, status := 0, dst := bytesAt (aesCtr k.typ k.key ((s.jobIv p / 2 ^ 64 * 2 ^ 64 + k.iv) * 2 ^ 32 + 2) ((((bytesAt src 0 ((s.jobF p F.JOB_LEN.LEN)))).drop ((min (s.jobF p F.JOB_AAD_LEN.AAD) ((bytesAt src 0 ((s.jobF p F.JOB_LEN.LEN)))).length))))) 0 (((bytesAt src 0 ((s.jobF p F.JOB_LEN.LEN)))).length - (min (s.jobF p F.JOB_AAD_LEN.AAD) ((bytesAt src 0 ((s.jobF p F.JOB_LEN.LEN)))).length)), tag := gcmTag k.typ k.key ((s.jobIv p / 2 ^ 64 * 2 ^ 64 + k.iv)) (((bytesAt src 0 ((s.jobF p F.JOB_LEN.LEN)))).take ((min (s.jobF p F.JOB_AAD_LEN.AAD) ((bytesAt src 0 ((s.jobF p F.JOB_LEN.LEN)))).length))) (bytesAt (aesCtr k.typ k.key ((s.jobIv p / 2 ^ 64 * 2 ^ 64 + k.iv) * 2 ^ 32 + 2) ((((bytesAt src 0 ((s.jobF p F.JOB_LEN.LEN)))).drop ((min (s.jobF p F.JOB_AAD_LEN.AAD) ((bytesAt src 0 ((s.jobF p F.JOB_LEN.LEN)))).length))))) 0 (((bytesAt src 0 ((s.jobF p F.JOB_LEN.LEN)))).length - (min (s.jobF p F.JOB_AAD_LEN.AAD) ((bytesAt src 0 ((s.jobF p F.JOB_LEN.LEN)))).length))) % 2 ^ 128, eff := .none } : Job))))) } ∧
      t.slots = SMap.set (fun _ => none) s.slots slot.toNat (some { k with iv := k.iv + 1 }) ∧
      t = { s with vlt := t.vlt, evt := t.evt, sampN := t.sampN, regs := t.regs, slots := t.slots } ∧
      RegsBut ([(jobB p.val)+0x100,(jobB p.val)+0x140,(jobB p.val)+0x144,(jobB p.val)+0x148,(jobB p.val)+0x14C,(jobB p.val)+0x150] ++ pmcRegs) s t) ∧
  (∀ (m : Master) (p : Fin 2) (ivMode : BitVec 2) (slot : BitVec 10) (src : List Byte) (s : State),
      s.r54Discards m ((jobB p.val) + 0x100) = false → s.live 0x2C = true → decide (m = .host) = decide (p = 0) →
      s.bit ((jobB p.val)) F.JOB_CTRL.BUSY = false → s.portOwns p slot.toNat = true → s.slot slot.toNat = none →
      (s.jobF p F.JOB_LEN.LEN) ≤ 2 ^ 24 →
    Does (.jobGcmEnc m p ivMode slot src) s fun t =>
      (t.bit ((jobB p.val)) F.JOB_CTRL.BUSY = true ∧ t.jobF p F.JOB_CTRL.OP = (1) ∧ t.jobF p F.JOB_CTRL.IV_MODE = ivMode.toNat ∧ t.jobF p F.JOB_CTRL.SLOT = slot.toNat ∧ t.regWords ((jobB p.val) + 0x140) 5 = [0, 0, 0, 0, 0]) ∧
      t.vlt = { s.vlt with jobs := (s.vlt.jobs.set p (some (((({ op := (1), slot := none, status := (2), dst := [], tag := 0, eff := .none } : Job)))))) } ∧
      t = { s with vlt := t.vlt, regs := t.regs } ∧
      RegsBut [(jobB p.val)+0x100,(jobB p.val)+0x140,(jobB p.val)+0x144,(jobB p.val)+0x148,(jobB p.val)+0x14C,(jobB p.val)+0x150] s t) ∧
  (∀ (m : Master) (p : Fin 2) (ivMode : BitVec 2) (slot : BitVec 10) (src : List Byte) (k : KeySlot) (s : State),
      s.r54Discards m ((jobB p.val) + 0x100) = false → s.live 0x2C = true → decide (m = .host) = decide (p = 0) →
      s.bit ((jobB p.val)) F.JOB_CTRL.BUSY = false → s.portOwns p slot.toNat = true → s.slot slot.toNat = some k →
      (k.typ = 1 ∨ k.typ = 2) → k.use.testBit 2 = true → (s.jobF p F.JOB_LEN.LEN) ≤ 2 ^ 14 →
    Does (.jobGcmDec m p ivMode slot src) s fun t =>
      (t.bit ((jobB p.val)) F.JOB_CTRL.BUSY = true ∧ t.jobF p F.JOB_CTRL.OP = (2) ∧ t.jobF p F.JOB_CTRL.IV_MODE = ivMode.toNat ∧ t.jobF p F.JOB_CTRL.SLOT = slot.toNat ∧ t.regWords ((jobB p.val) + 0x140) 5 = [0, 0, 0, 0, 0]) ∧
      t.vlt = { s.vlt with jobs := (s.vlt.jobs.set p (some ((if gcmTag k.typ k.key (s.jobIv p) (((bytesAt src 0 ((s.jobF p F.JOB_LEN.LEN)))).take ((min (s.jobF p F.JOB_AAD_LEN.AAD) ((bytesAt src 0 ((s.jobF p F.JOB_LEN.LEN)))).length))) ((((bytesAt src 0 ((s.jobF p F.JOB_LEN.LEN)))).drop ((min (s.jobF p F.JOB_AAD_LEN.AAD) ((bytesAt src 0 ((s.jobF p F.JOB_LEN.LEN)))).length)))) % 2 ^ 128 = s.jobTagIn p then ({ op := (2), slot := some slot.toNat, status := 0, dst := bytesAt (aesCtr k.typ k.key (s.jobIv p * 2 ^ 32 + 2) ((((bytesAt src 0 ((s.jobF p F.JOB_LEN.LEN)))).drop ((min (s.jobF p F.JOB_AAD_LEN.AAD) ((bytesAt src 0 ((s.jobF p F.JOB_LEN.LEN)))).length))))) 0 ((((bytesAt src 0 ((s.jobF p F.JOB_LEN.LEN)))).drop ((min (s.jobF p F.JOB_AAD_LEN.AAD) ((bytesAt src 0 ((s.jobF p F.JOB_LEN.LEN)))).length)))).length, tag := 0, eff := .none } : Job) else ({ op := (2), slot := some slot.toNat, status := 1, dst := [], tag := 0, eff := .none } : Job))))) } ∧
      t = { s with vlt := t.vlt, evt := t.evt, sampN := t.sampN, regs := t.regs } ∧
      RegsBut ([(jobB p.val)+0x100,(jobB p.val)+0x140,(jobB p.val)+0x144,(jobB p.val)+0x148,(jobB p.val)+0x14C,(jobB p.val)+0x150] ++ pmcRegs) s t) ∧
  (∀ (m : Master) (p : Fin 2) (ivMode : BitVec 2) (slot : BitVec 10) (src : List Byte) (k : KeySlot) (s : State),
      s.r54Discards m ((jobB p.val) + 0x100) = false → s.live 0x2C = true → decide (m = .host) = decide (p = 0) →
      s.bit ((jobB p.val)) F.JOB_CTRL.BUSY = false → s.portOwns p slot.toNat = true → s.slot slot.toNat = some k →
      (k.typ = 1 ∨ k.typ = 2) → k.use.testBit 2 = true → (s.jobF p F.JOB_LEN.LEN) ≤ 2 ^ 24 →
    Does (.jobCtr m p ivMode slot src) s fun t =>
      (t.bit ((jobB p.val)) F.JOB_CTRL.BUSY = true ∧ t.jobF p F.JOB_CTRL.OP = (3) ∧ t.jobF p F.JOB_CTRL.IV_MODE = ivMode.toNat ∧ t.jobF p F.JOB_CTRL.SLOT = slot.toNat ∧ t.regWords ((jobB p.val) + 0x140) 5 = [0, 0, 0, 0, 0]) ∧
      t.vlt = { s.vlt with jobs := (s.vlt.jobs.set p (some ((({ op := (3), slot := some slot.toNat, status := 0, dst := bytesAt (ctrMode Config.ctrWide k.typ k.key (s.jobIv p * 2 ^ 32 + s.jobTagIn p / 2 ^ 96) ((bytesAt src 0 ((s.jobF p F.JOB_LEN.LEN))))) 0 ((bytesAt src 0 ((s.jobF p F.JOB_LEN.LEN)))).length, tag := 0, eff := .none } : Job))))) } ∧
      t = { s with vlt := t.vlt, evt := t.evt, sampN := t.sampN, regs := t.regs } ∧
      RegsBut ([(jobB p.val)+0x100,(jobB p.val)+0x140,(jobB p.val)+0x144,(jobB p.val)+0x148,(jobB p.val)+0x14C,(jobB p.val)+0x150] ++ pmcRegs) s t) ∧
  (∀ (m : Master) (p : Fin 2) (ivMode : BitVec 2) (slot : BitVec 10) (src : List Byte) (k : KeySlot) (s : State),
      s.r54Discards m ((jobB p.val) + 0x100) = false → s.live 0x2C = true → decide (m = .host) = decide (p = 0) →
      s.bit ((jobB p.val)) F.JOB_CTRL.BUSY = false → s.portOwns p slot.toNat = true → s.slot slot.toNat = some k →
      (k.typ = 1 ∨ k.typ = 2) → k.use.testBit 2 = true → (s.jobF p F.JOB_LEN.LEN) ≤ 2 ^ 24 →
    Does (.jobCmac m p ivMode slot src) s fun t =>
      (t.bit ((jobB p.val)) F.JOB_CTRL.BUSY = true ∧ t.jobF p F.JOB_CTRL.OP = (4) ∧ t.jobF p F.JOB_CTRL.IV_MODE = ivMode.toNat ∧ t.jobF p F.JOB_CTRL.SLOT = slot.toNat ∧ t.regWords ((jobB p.val) + 0x140) 5 = [0, 0, 0, 0, 0]) ∧
      t.vlt = { s.vlt with jobs := (s.vlt.jobs.set p (some ((({ op := (4), slot := some slot.toNat, status := 0, dst := [], tag := cmac k.typ k.key ((bytesAt src 0 ((s.jobF p F.JOB_LEN.LEN)))) % 2 ^ 128, eff := .none } : Job))))) } ∧
      t = { s with vlt := t.vlt, evt := t.evt, sampN := t.sampN, regs := t.regs } ∧
      RegsBut ([(jobB p.val)+0x100,(jobB p.val)+0x140,(jobB p.val)+0x144,(jobB p.val)+0x148,(jobB p.val)+0x14C,(jobB p.val)+0x150] ++ pmcRegs) s t) ∧
  (∀ (m : Master) (p : Fin 2) (ivMode : BitVec 2) (slot : BitVec 10) (src : List Byte) (s : State),
      s.r54Discards m ((jobB p.val) + 0x100) = false → s.live 0x2C = true → decide (m = .host) = decide (p = 0) →
      s.bit ((jobB p.val)) F.JOB_CTRL.BUSY = false → (s.jobF p F.JOB_LEN.LEN) ≤ 2 ^ 24 →
    Does (.jobSha384 m p ivMode slot src) s fun t =>
      (t.bit ((jobB p.val)) F.JOB_CTRL.BUSY = true ∧ t.jobF p F.JOB_CTRL.OP = (5) ∧ t.jobF p F.JOB_CTRL.IV_MODE = ivMode.toNat ∧ t.jobF p F.JOB_CTRL.SLOT = slot.toNat ∧ t.regWords ((jobB p.val) + 0x140) 5 = [0, 0, 0, 0, 0]) ∧
      t.vlt = { s.vlt with jobs := (s.vlt.jobs.set p (some ((({ op := (5), slot := none, status := 0, dst := beBytes 48 (sha384 ((bytesAt src 0 ((s.jobF p F.JOB_LEN.LEN))))), tag := 0, eff := .none } : Job))))) } ∧
      t = { s with vlt := t.vlt, regs := t.regs } ∧
      RegsBut [(jobB p.val)+0x100,(jobB p.val)+0x140,(jobB p.val)+0x144,(jobB p.val)+0x148,(jobB p.val)+0x14C,(jobB p.val)+0x150] s t) ∧
  (∀ (m : Master) (p : Fin 2) (ivMode : BitVec 2) (slot : BitVec 10) (src : List Byte) (k : KeySlot) (s : State),
      s.r54Discards m ((jobB p.val) + 0x100) = false → s.live 0x2C = true → decide (m = .host) = decide (p = 0) →
      s.bit ((jobB p.val)) F.JOB_CTRL.BUSY = false → s.portOwns p slot.toNat = true → s.slot slot.toNat = some k →
      k.typ = 3 → k.use.testBit 2 = true → (s.jobF p F.JOB_LEN.LEN) ≤ 2 ^ 24 →
    Does (.jobHmacSha384 m p ivMode slot src) s fun t =>
      (t.bit ((jobB p.val)) F.JOB_CTRL.BUSY = true ∧ t.jobF p F.JOB_CTRL.OP = (6) ∧ t.jobF p F.JOB_CTRL.IV_MODE = ivMode.toNat ∧ t.jobF p F.JOB_CTRL.SLOT = slot.toNat ∧ t.regWords ((jobB p.val) + 0x140) 5 = [0, 0, 0, 0, 0]) ∧
      t.vlt = { s.vlt with jobs := (s.vlt.jobs.set p (some ((({ op := (6), slot := some slot.toNat, status := 0, dst := beBytes 48 (hmac384 k.key ((bytesAt src 0 ((s.jobF p F.JOB_LEN.LEN))))), tag := 0, eff := .none } : Job))))) } ∧
      t = { s with vlt := t.vlt, regs := t.regs } ∧
      RegsBut [(jobB p.val)+0x100,(jobB p.val)+0x140,(jobB p.val)+0x144,(jobB p.val)+0x148,(jobB p.val)+0x14C,(jobB p.val)+0x150] s t) ∧
  (∀ (m : Master) (p : Fin 2) (ivMode : BitVec 2) (slot : BitVec 10) (src : List Byte) (s : State),
      s.r54Discards m ((jobB p.val) + 0x100) = false → s.live 0x2C = true → decide (m = .host) = decide (p = 0) →
      s.bit ((jobB p.val)) F.JOB_CTRL.BUSY = false → (s.jobF p F.JOB_LEN.LEN) = 240 →
    Does (.jobEcdsaVerify m p ivMode slot src) s fun t =>
      (t.bit ((jobB p.val)) F.JOB_CTRL.BUSY = true ∧ t.jobF p F.JOB_CTRL.OP = (7) ∧ t.jobF p F.JOB_CTRL.IV_MODE = ivMode.toNat ∧ t.jobF p F.JOB_CTRL.SLOT = slot.toNat ∧ t.regWords ((jobB p.val) + 0x140) 5 = [0, 0, 0, 0, 0]) ∧
      t.vlt = { s.vlt with jobs := (s.vlt.jobs.set p (some ((if ecdsaOk (bytesAt ((bytesAt src 0 ((s.jobF p F.JOB_LEN.LEN)))) 0 96) (beAt ((bytesAt src 0 ((s.jobF p F.JOB_LEN.LEN)))) 96 48) (bytesAt ((bytesAt src 0 ((s.jobF p F.JOB_LEN.LEN)))) 144 96) then ({ op := (7), slot := none, status := 0, dst := [], tag := 0, eff := .none } : Job) else ({ op := (7), slot := none, status := 9, dst := [], tag := 0, eff := .none } : Job))))) } ∧
      t = { s with vlt := t.vlt, regs := t.regs } ∧
      RegsBut [(jobB p.val)+0x100,(jobB p.val)+0x140,(jobB p.val)+0x144,(jobB p.val)+0x148,(jobB p.val)+0x14C,(jobB p.val)+0x150] s t) ∧
  (∀ (m : Master) (p : Fin 2) (ivMode : BitVec 2) (slot : BitVec 10) (s : State),
      s.r54Discards m ((jobB p.val) + 0x100) = false → s.live 0x2C = true → decide (m = .host) = decide (p = 0) →
      s.bit ((jobB p.val)) F.JOB_CTRL.BUSY = false → s.mintOk = true → (s.jobF p F.JOB_LEN.LEN) ≤ 4096 →
    Does (.jobRandom m p ivMode slot) s fun t =>
      (t.bit ((jobB p.val)) F.JOB_CTRL.BUSY = true ∧ t.jobF p F.JOB_CTRL.OP = (8) ∧ t.jobF p F.JOB_CTRL.IV_MODE = ivMode.toNat ∧ t.jobF p F.JOB_CTRL.SLOT = slot.toNat ∧ t.regWords ((jobB p.val) + 0x140) 5 = [0, 0, 0, 0, 0]) ∧
      t.vlt = { s.vlt with jobs := (s.vlt.jobs.set p (some ((({ op := (8), slot := none, status := 0, dst := beBytes ((s.jobF p F.JOB_LEN.LEN)) (Config.free s.freeNext), tag := 0, eff := .none } : Job))))), drbg := t.vlt.drbg, maskAt := t.vlt.maskAt, masks := t.vlt.masks } ∧
      t.freeNext = s.freeNext + 1 ∧
      t = { s with vlt := t.vlt, regs := t.regs, ctrs := t.ctrs, freeNext := t.freeNext, timers := t.timers } ∧
      RegsBut [(jobB p.val)+0x100,(jobB p.val)+0x140,(jobB p.val)+0x144,(jobB p.val)+0x148,(jobB p.val)+0x14C,(jobB p.val)+0x150] s t ∧
      TimersBut [Tm.mint] s t ∧ CtrsBut [vltB+Ctr.VLT.MINT_RESEEDS] s t) ∧
  (∀ (m : Master) (p : Fin 2) (ivMode : BitVec 2) (slot : BitVec 10) (s : State),
      s.r54Discards m ((jobB p.val) + 0x100) = false → s.live 0x2C = true → decide (m = .host) = decide (p = 0) →
      s.bit ((jobB p.val)) F.JOB_CTRL.BUSY = false → s.mintOk = false → (s.jobF p F.JOB_LEN.LEN) ≤ 4096 →
    Does (.jobRandom m p ivMode slot) s fun t =>
      (t.bit ((jobB p.val)) F.JOB_CTRL.BUSY = true ∧ t.jobF p F.JOB_CTRL.OP = (8) ∧ t.jobF p F.JOB_CTRL.IV_MODE = ivMode.toNat ∧ t.jobF p F.JOB_CTRL.SLOT = slot.toNat ∧ t.regWords ((jobB p.val) + 0x140) 5 = [0, 0, 0, 0, 0]) ∧
      t.vlt = { s.vlt with jobs := (s.vlt.jobs.set p (some ((({ op := (8), slot := none, status := 6, dst := [], tag := 0, eff := .none } : Job))))) } ∧
      t = { s with vlt := t.vlt, regs := t.regs } ∧
      RegsBut [(jobB p.val)+0x100,(jobB p.val)+0x140,(jobB p.val)+0x144,(jobB p.val)+0x148,(jobB p.val)+0x14C,(jobB p.val)+0x150] s t) ∧
  (∀ (m : Master) (p : Fin 2) (ivMode : BitVec 2) (slot : BitVec 10) (s : State),
      s.r54Discards m ((jobB p.val) + 0x100) = false → s.live 0x2C = true → decide (m = .host) = decide (p = 0) →
      s.bit ((jobB p.val)) F.JOB_CTRL.BUSY = false → s.portOwns p (s.jobF p F.JOB_SLOT2.SLOT2) = true →
      s.jobF p F.KEY_ATTR.TYPE ≠ 0 → s.mintOk = true →
    Does (.jobKeyGen m p ivMode slot) s fun t =>
      (t.bit ((jobB p.val)) F.JOB_CTRL.BUSY = true ∧ t.jobF p F.JOB_CTRL.OP = (9) ∧ t.jobF p F.JOB_CTRL.IV_MODE = ivMode.toNat ∧ t.jobF p F.JOB_CTRL.SLOT = slot.toNat ∧ t.regWords ((jobB p.val) + 0x140) 5 = [0, 0, 0, 0, 0]) ∧
      t.vlt = { s.vlt with jobs := (s.vlt.jobs.set p (some ((({ op := (9), slot := none, status := 0, dst := [], tag := 0, eff := .putKey (s.jobF p F.JOB_SLOT2.SLOT2) (s.jobF p F.KEY_ATTR.TYPE) (s.jobF p F.KEY_ATTR.USE) (Config.free s.freeNext) } : Job))))), drbg := t.vlt.drbg, maskAt := t.vlt.maskAt, masks := t.vlt.masks } ∧
      t.freeNext = s.freeNext + 1 ∧ t.ctrs = (s.count (vltB + Ctr.VLT.MINT_RESEEDS)).ctrs ∧
      SMap.get (fun _ => 0) t.timers Tm.mint = s.now + 100 * msTicks + 1 ∧ t.vlt.drbg = 1 ∧
      t = { s with vlt := t.vlt, regs := t.regs, ctrs := t.ctrs, freeNext := t.freeNext, timers := t.timers } ∧
      RegsBut [(jobB p.val)+0x100,(jobB p.val)+0x140,(jobB p.val)+0x144,(jobB p.val)+0x148,(jobB p.val)+0x14C,(jobB p.val)+0x150] s t ∧
      TimersBut [Tm.mint] s t) ∧
  (∀ (m : Master) (p : Fin 2) (ivMode : BitVec 2) (slot : BitVec 10) (src : List Byte) (k : KeySlot) (s : State),
      s.r54Discards m ((jobB p.val) + 0x100) = false → s.live 0x2C = true → decide (m = .host) = decide (p = 0) →
      s.bit ((jobB p.val)) F.JOB_CTRL.BUSY = false → s.portOwns p slot.toNat = true → s.slot slot.toNat = some k →
      s.portOwns p (s.jobF p F.JOB_SLOT2.SLOT2) = true → s.jobF p F.KEY_ATTR.TYPE ≠ 0 → 1 ≤ k.typ ∧ k.typ ≤ 3 →
      k.use.testBit 3 = true → (s.jobF p F.JOB_LEN.LEN) ≤ 256 →
    Does (.jobKdf m p ivMode slot src) s fun t =>
      (t.bit ((jobB p.val)) F.JOB_CTRL.BUSY = true ∧ t.jobF p F.JOB_CTRL.OP = (0xA) ∧ t.jobF p F.JOB_CTRL.IV_MODE = ivMode.toNat ∧ t.jobF p F.JOB_CTRL.SLOT = slot.toNat ∧ t.regWords ((jobB p.val) + 0x140) 5 = [0, 0, 0, 0, 0]) ∧
      t.vlt = { s.vlt with jobs := (s.vlt.jobs.set p (some ((({ op := (0xA), slot := some slot.toNat, status := 0, dst := [], tag := 0, eff := .putKey (s.jobF p F.JOB_SLOT2.SLOT2) (s.jobF p F.KEY_ATTR.TYPE) (s.jobF p F.KEY_ATTR.USE) (kdf k.typ k.key ((bytesAt src 0 ((s.jobF p F.JOB_LEN.LEN)))) (if s.jobF p F.KEY_ATTR.TYPE = 1 then 128 else 256)) } : Job))))) } ∧
      t = { s with vlt := t.vlt, regs := t.regs } ∧
      RegsBut [(jobB p.val)+0x100,(jobB p.val)+0x140,(jobB p.val)+0x144,(jobB p.val)+0x148,(jobB p.val)+0x14C,(jobB p.val)+0x150] s t) ∧
  (∀ (m : Master) (p : Fin 2) (ivMode : BitVec 2) (slot : BitVec 10) (src : List Byte) (k : KeySlot) (s : State),
      s.r54Discards m ((jobB p.val) + 0x100) = false → s.live 0x2C = true → decide (m = .host) = decide (p = 0) →
      s.bit ((jobB p.val)) F.JOB_CTRL.BUSY = false → s.portOwns p slot.toNat = true → s.slot slot.toNat = some k →
      s.portOwns p (s.jobF p F.JOB_SLOT2.SLOT2) = true → s.jobF p F.KEY_ATTR.TYPE ≠ 0 → (k.typ = 1 ∨ k.typ = 2) →
      k.use.testBit 3 = true →
      (((s.jobF p F.JOB_LEN.LEN) = 24 ∧ s.jobF p F.KEY_ATTR.TYPE = 1) ∨ ((s.jobF p F.JOB_LEN.LEN) = 40 ∧ s.jobF p F.KEY_ATTR.TYPE ≠ 1)) →
    Does (.jobUnwrap m p ivMode slot src) s fun t =>
      (t.bit ((jobB p.val)) F.JOB_CTRL.BUSY = true ∧ t.jobF p F.JOB_CTRL.OP = (0xB) ∧ t.jobF p F.JOB_CTRL.IV_MODE = ivMode.toNat ∧ t.jobF p F.JOB_CTRL.SLOT = slot.toNat ∧ t.regWords ((jobB p.val) + 0x140) 5 = [0, 0, 0, 0, 0]) ∧
      t.vlt = { s.vlt with jobs := (s.vlt.jobs.set p (some ((match keyUnwrap k.typ k.key ((bytesAt src 0 ((s.jobF p F.JOB_LEN.LEN)))) with | none => ({ op := (0xB), slot := some slot.toNat, status := 1, dst := [], tag := 0, eff := .none } : Job) | some key => ({ op := (0xB), slot := some slot.toNat, status := 0, dst := [], tag := 0, eff := .putKey (s.jobF p F.JOB_SLOT2.SLOT2) (s.jobF p F.KEY_ATTR.TYPE) (s.jobF p F.KEY_ATTR.USE) (key) } : Job))))) } ∧
      t = { s with vlt := t.vlt, regs := t.regs } ∧
      RegsBut [(jobB p.val)+0x100,(jobB p.val)+0x140,(jobB p.val)+0x144,(jobB p.val)+0x148,(jobB p.val)+0x14C,(jobB p.val)+0x150] s t) ∧
  (∀ (m : Master) (p : Fin 2) (ivMode : BitVec 2) (slot : BitVec 10) (src : List Byte) (s : State),
      s.r54Discards m ((jobB p.val) + 0x100) = false → s.live 0x2C = true → decide (m = .host) = decide (p = 0) →
      s.bit ((jobB p.val)) F.JOB_CTRL.BUSY = false → (s.jobF p F.JOB_LEN.LEN) = 96 →
    Does (.jobAttest m p ivMode slot src) s fun t =>
      (t.bit ((jobB p.val)) F.JOB_CTRL.BUSY = true ∧ t.jobF p F.JOB_CTRL.OP = (0xC) ∧ t.jobF p F.JOB_CTRL.IV_MODE = ivMode.toNat ∧ t.jobF p F.JOB_CTRL.SLOT = slot.toNat ∧ t.regWords ((jobB p.val) + 0x140) 5 = [0, 0, 0, 0, 0]) ∧
      t.vlt = { s.vlt with jobs := (s.vlt.jobs.set p (some ((({ op := (0xC), slot := none, status := 0, dst := (s.attestBody ((bytesAt src 0 ((s.jobF p F.JOB_LEN.LEN))))) ++ beBytes 96 (Sys2Proof.Machine.idSign (sha384 ((s.attestBody ((bytesAt src 0 ((s.jobF p F.JOB_LEN.LEN))))))) (Config.free s.freeNext)), tag := 0, eff := .attest } : Job))))) } ∧
      t.freeNext = s.freeNext + 1 ∧ t = { s with vlt := t.vlt, regs := t.regs, freeNext := t.freeNext } ∧
      RegsBut [(jobB p.val)+0x100,(jobB p.val)+0x140,(jobB p.val)+0x144,(jobB p.val)+0x148,(jobB p.val)+0x14C,(jobB p.val)+0x150] s t) ∧
  (∀ (m : Master) (p : Fin 2) (ivMode : BitVec 2) (slot : BitVec 10) (s : State),
      s.r54Discards m ((jobB p.val) + 0x100) = false → s.live 0x2C = true → decide (m = .host) = decide (p = 0) →
      s.bit ((jobB p.val)) F.JOB_CTRL.BUSY = false →
    Does (.jobCert m p ivMode slot) s fun t =>
      (t.bit ((jobB p.val)) F.JOB_CTRL.BUSY = true ∧ t.jobF p F.JOB_CTRL.OP = (0xD) ∧ t.jobF p F.JOB_CTRL.IV_MODE = ivMode.toNat ∧ t.jobF p F.JOB_CTRL.SLOT = slot.toNat ∧ t.regWords ((jobB p.val) + 0x140) 5 = [0, 0, 0, 0, 0]) ∧
      t.vlt = { s.vlt with jobs := (s.vlt.jobs.set p (some ((({ op := (0xD), slot := none, status := 0, dst := Config.certificate.take 1024, tag := 0, eff := .none } : Job))))) } ∧
      t = { s with vlt := t.vlt, regs := t.regs } ∧
      RegsBut [(jobB p.val)+0x100,(jobB p.val)+0x140,(jobB p.val)+0x144,(jobB p.val)+0x148,(jobB p.val)+0x14C,(jobB p.val)+0x150] s t) ∧
  (∀ (m : Master) (p : Fin 2) (ivMode : BitVec 2) (slot : BitVec 10) (src : List Byte) (s : State),
      s.r54Discards m ((jobB p.val) + 0x100) = false → s.live 0x2C = true → decide (m = .host) = decide (p = 0) →
      s.bit ((jobB p.val)) F.JOB_CTRL.BUSY = false → (s.jobF p F.JOB_LEN.LEN) = 256 →
    Does (.jobOwnerCmd m p ivMode slot src) s fun t =>
      (t.bit ((jobB p.val)) F.JOB_CTRL.BUSY = true ∧ t.jobF p F.JOB_CTRL.OP = (0xE) ∧ t.jobF p F.JOB_CTRL.IV_MODE = ivMode.toNat ∧ t.jobF p F.JOB_CTRL.SLOT = slot.toNat ∧ t.regWords ((jobB p.val) + 0x140) 5 = [0, 0, 0, 0, 0]) ∧
      t.vlt = { s.vlt with jobs := (s.vlt.jobs.set p (some ((({ op := (0xE), slot := none, status := if s.ownerSigned ((bytesAt src 0 ((s.jobF p F.JOB_LEN.LEN)))) then s.ownerStatus ((((bytesAt src 0 ((s.jobF p F.JOB_LEN.LEN)))).getD 4 0).toNat) ((((bytesAt src 0 ((s.jobF p F.JOB_LEN.LEN)))).getD 5 0).toNat) (if ((((bytesAt src 0 ((s.jobF p F.JOB_LEN.LEN)))).getD 4 0).toNat) = 3 then leNat (bytesAt ((bytesAt src 0 ((s.jobF p F.JOB_LEN.LEN)))) 0x10 4) else beAt ((bytesAt src 0 ((s.jobF p F.JOB_LEN.LEN)))) 0x10 48) ((((bytesAt src 0 ((s.jobF p F.JOB_LEN.LEN)))).getD 6 0).toNat) else 9, dst := [], tag := 0, eff := .owner ((((bytesAt src 0 ((s.jobF p F.JOB_LEN.LEN)))).getD 4 0).toNat) ((((bytesAt src 0 ((s.jobF p F.JOB_LEN.LEN)))).getD 5 0).toNat) ((((bytesAt src 0 ((s.jobF p F.JOB_LEN.LEN)))).getD 6 0).toNat) (if ((((bytesAt src 0 ((s.jobF p F.JOB_LEN.LEN)))).getD 4 0).toNat) = 3 then leNat (bytesAt ((bytesAt src 0 ((s.jobF p F.JOB_LEN.LEN)))) 0x10 4) else beAt ((bytesAt src 0 ((s.jobF p F.JOB_LEN.LEN)))) 0x10 48) } : Job))))) } ∧
      t = { s with vlt := t.vlt, regs := t.regs } ∧
      RegsBut [(jobB p.val)+0x100,(jobB p.val)+0x140,(jobB p.val)+0x144,(jobB p.val)+0x148,(jobB p.val)+0x14C,(jobB p.val)+0x150] s t) ∧
  (∀ (m : Master) (p : Fin 2) (ivMode : BitVec 2) (slot : BitVec 10) (s : State),
      s.r54Discards m ((jobB p.val) + 0x100) = false → s.live 0x2C = true → decide (m = .host) = decide (p = 0) →
      s.bit ((jobB p.val)) F.JOB_CTRL.BUSY = false → s.mintOk = true →
    Does (.jobDebugChal m p ivMode slot) s fun t =>
      (t.bit ((jobB p.val)) F.JOB_CTRL.BUSY = true ∧ t.jobF p F.JOB_CTRL.OP = (0xF) ∧ t.jobF p F.JOB_CTRL.IV_MODE = ivMode.toNat ∧ t.jobF p F.JOB_CTRL.SLOT = slot.toNat ∧ t.regWords ((jobB p.val) + 0x140) 5 = [0, 0, 0, 0, 0]) ∧
      t.vlt = { s.vlt with jobs := (s.vlt.jobs.set p (some ((({ op := (0xF), slot := none, status := 0, dst := (leBytes 4 0x4C484344 ++ leBytes 2 1 ++ leBytes 2 (s.fld aonB F.AON_BOOT_STAT.BOOT_COUNT) ++ leBytes 8 s.dieId ++ beBytes 48 (Config.free s.freeNext % 2 ^ 384)) ++ beBytes 96 (Sys2Proof.Machine.idSign (sha384 ((leBytes 4 0x4C484344 ++ leBytes 2 1 ++ leBytes 2 (s.fld aonB F.AON_BOOT_STAT.BOOT_COUNT) ++ leBytes 8 s.dieId ++ beBytes 48 (Config.free s.freeNext % 2 ^ 384)))) (Config.free (s.freeNext + 1))), tag := 0, eff := .challenge false (Config.free s.freeNext % 2 ^ 384) } : Job))))), drbg := t.vlt.drbg, maskAt := t.vlt.maskAt, masks := t.vlt.masks } ∧
      t.freeNext = s.freeNext + 2 ∧
      t = { s with vlt := t.vlt, regs := t.regs, ctrs := t.ctrs, freeNext := t.freeNext, timers := t.timers } ∧
      RegsBut [(jobB p.val)+0x100,(jobB p.val)+0x140,(jobB p.val)+0x144,(jobB p.val)+0x148,(jobB p.val)+0x14C,(jobB p.val)+0x150] s t ∧
      TimersBut [Tm.mint] s t ∧ CtrsBut [vltB+Ctr.VLT.MINT_RESEEDS] s t) ∧
  (∀ (m : Master) (p : Fin 2) (ivMode : BitVec 2) (slot : BitVec 10) (src : List Byte) (s : State),
      s.r54Discards m ((jobB p.val) + 0x100) = false → s.live 0x2C = true → decide (m = .host) = decide (p = 0) →
      s.bit ((jobB p.val)) F.JOB_CTRL.BUSY = false → (s.jobF p F.JOB_LEN.LEN) = 256 →
    Does (.jobDebugResp m p ivMode slot src) s fun t =>
      (t.bit ((jobB p.val)) F.JOB_CTRL.BUSY = true ∧ t.jobF p F.JOB_CTRL.OP = (0x10) ∧ t.jobF p F.JOB_CTRL.IV_MODE = ivMode.toNat ∧ t.jobF p F.JOB_CTRL.SLOT = slot.toNat ∧ t.regWords ((jobB p.val) + 0x140) 5 = [0, 0, 0, 0, 0]) ∧
      t.vlt = { s.vlt with jobs := (s.vlt.jobs.set p (some ((({ op := (0x10), slot := none, status := s.debugStatus ((bytesAt src 0 ((s.jobF p F.JOB_LEN.LEN)))), dst := [], tag := 0, eff := if s.debugStatus ((bytesAt src 0 ((s.jobF p F.JOB_LEN.LEN)))) = 0 then .openScope (leNat (bytesAt ((bytesAt src 0 ((s.jobF p F.JOB_LEN.LEN)))) 4 2)) (((bytesAt src 0 ((s.jobF p F.JOB_LEN.LEN)))).getD 6 0).toNat else .reject false } : Job))))), dbgNonce := none } ∧
      t.timerOn Tm.dbgNonce = false ∧ t = { s with vlt := t.vlt, regs := t.regs, timers := t.timers } ∧
      RegsBut [(jobB p.val)+0x100,(jobB p.val)+0x140,(jobB p.val)+0x144,(jobB p.val)+0x148,(jobB p.val)+0x14C,(jobB p.val)+0x150] s t ∧
      TimersBut [Tm.dbgNonce] s t) ∧
  (∀ (m : Master) (p : Fin 2) (ivMode : BitVec 2) (slot : BitVec 10) (s : State),
      s.r54Discards m ((jobB p.val) + 0x100) = false → s.live 0x2C = true → decide (m = .host) = decide (p = 0) →
      s.bit ((jobB p.val)) F.JOB_CTRL.BUSY = false → s.fuse.rmaAuth = true → s.mintOk = true →
    Does (.jobRmaChal m p ivMode slot) s fun t =>
      (t.bit ((jobB p.val)) F.JOB_CTRL.BUSY = true ∧ t.jobF p F.JOB_CTRL.OP = (0x12) ∧ t.jobF p F.JOB_CTRL.IV_MODE = ivMode.toNat ∧ t.jobF p F.JOB_CTRL.SLOT = slot.toNat ∧ t.regWords ((jobB p.val) + 0x140) 5 = [0, 0, 0, 0, 0]) ∧
      t.vlt = { s.vlt with jobs := (s.vlt.jobs.set p (some ((({ op := (0x12), slot := none, status := 0, dst := (leBytes 4 0x4C484352 ++ leBytes 2 1 ++ leBytes 2 (s.fld aonB F.AON_BOOT_STAT.BOOT_COUNT) ++ leBytes 8 s.dieId ++ beBytes 48 (Config.free s.freeNext % 2 ^ 384)) ++ beBytes 96 (Sys2Proof.Machine.idSign (sha384 ((leBytes 4 0x4C484352 ++ leBytes 2 1 ++ leBytes 2 (s.fld aonB F.AON_BOOT_STAT.BOOT_COUNT) ++ leBytes 8 s.dieId ++ beBytes 48 (Config.free s.freeNext % 2 ^ 384)))) (Config.free (s.freeNext + 1))), tag := 0, eff := .challenge true (Config.free s.freeNext % 2 ^ 384) } : Job))))), drbg := t.vlt.drbg, maskAt := t.vlt.maskAt, masks := t.vlt.masks } ∧
      t.freeNext = s.freeNext + 2 ∧
      t = { s with vlt := t.vlt, regs := t.regs, ctrs := t.ctrs, freeNext := t.freeNext, timers := t.timers } ∧
      RegsBut [(jobB p.val)+0x100,(jobB p.val)+0x140,(jobB p.val)+0x144,(jobB p.val)+0x148,(jobB p.val)+0x14C,(jobB p.val)+0x150] s t ∧
      TimersBut [Tm.mint] s t ∧ CtrsBut [vltB+Ctr.VLT.MINT_RESEEDS] s t) ∧
  (∀ (m : Master) (p : Fin 2) (ivMode : BitVec 2) (slot : BitVec 10) (s : State),
      s.r54Discards m ((jobB p.val) + 0x100) = false → s.live 0x2C = true → decide (m = .host) = decide (p = 0) →
      s.bit ((jobB p.val)) F.JOB_CTRL.BUSY = false → s.fuse.rmaAuth = false →
    Does (.jobRmaChal m p ivMode slot) s fun t =>
      (t.bit ((jobB p.val)) F.JOB_CTRL.BUSY = true ∧ t.jobF p F.JOB_CTRL.OP = (0x12) ∧ t.jobF p F.JOB_CTRL.IV_MODE = ivMode.toNat ∧ t.jobF p F.JOB_CTRL.SLOT = slot.toNat ∧ t.regWords ((jobB p.val) + 0x140) 5 = [0, 0, 0, 0, 0]) ∧
      t.vlt = { s.vlt with jobs := (s.vlt.jobs.set p (some (((({ op := (0x12), slot := none, status := (10), dst := [], tag := 0, eff := .none } : Job)))))) } ∧
      t = { s with vlt := t.vlt, regs := t.regs } ∧
      RegsBut [(jobB p.val)+0x100,(jobB p.val)+0x140,(jobB p.val)+0x144,(jobB p.val)+0x148,(jobB p.val)+0x14C,(jobB p.val)+0x150] s t) ∧
  (∀ (m : Master) (p : Fin 2) (ivMode : BitVec 2) (slot : BitVec 10) (src : List Byte) (s : State),
      s.r54Discards m ((jobB p.val) + 0x100) = false → s.live 0x2C = true → decide (m = .host) = decide (p = 0) →
      s.bit ((jobB p.val)) F.JOB_CTRL.BUSY = false → (s.jobF p F.JOB_LEN.LEN) = 256 → s.fuse.rmaAuth = true →
    Does (.jobRmaResp m p ivMode slot src) s fun t =>
      (t.bit ((jobB p.val)) F.JOB_CTRL.BUSY = true ∧ t.jobF p F.JOB_CTRL.OP = (0x11) ∧ t.jobF p F.JOB_CTRL.IV_MODE = ivMode.toNat ∧ t.jobF p F.JOB_CTRL.SLOT = slot.toNat ∧ t.regWords ((jobB p.val) + 0x140) 5 = [0, 0, 0, 0, 0]) ∧
      t.vlt = { s.vlt with jobs := (s.vlt.jobs.set p (some ((({ op := (0x11), slot := none, status := s.rmaStatus ((bytesAt src 0 ((s.jobF p F.JOB_LEN.LEN)))), dst := [], tag := 0, eff := if s.rmaStatus ((bytesAt src 0 ((s.jobF p F.JOB_LEN.LEN)))) = 0 then .rma else .reject true } : Job))))), rmaNonce := none } ∧
      t.timerOn Tm.rmaNonce = false ∧ t = { s with vlt := t.vlt, regs := t.regs, timers := t.timers } ∧
      RegsBut [(jobB p.val)+0x100,(jobB p.val)+0x140,(jobB p.val)+0x144,(jobB p.val)+0x148,(jobB p.val)+0x14C,(jobB p.val)+0x150] s t ∧
      TimersBut [Tm.rmaNonce] s t) ∧
  (∀ (m : Master) (p : Fin 2) (op : Byte) (ivMode : BitVec 2) (slot : BitVec 10) (s : State),
      s.r54Discards m ((jobB p.val) + 0x100) = false → s.live 0x2C = true → decide (m = .host) = decide (p = 0) →
      s.bit ((jobB p.val)) F.JOB_CTRL.BUSY = false → (op = 0 ∨ 0x12 < op.toNat) → s.vlt.waits = [] →
    Does (.jobBadOp m p op ivMode slot) s fun t =>
      t.vlt = { s.vlt with jobs := s.vlt.jobs.set p none, escrow := s.vlt.escrow.filter (· ≠ p.val) } ∧
      t.bit ((jobB p.val)) F.JOB_CTRL.BUSY = false ∧ t.jobF p F.JOB_CTRL.OP = op.toNat ∧
      t.regWords ((jobB p.val) + 0x140) 5 = [BitVec.ofNat 32 (2 ^ 31 + 4 * 2 ^ 25), 0, 0, 0, 0] ∧
      t.fld vltB F.VLT_STAT.ESCROW_USED = (s.vlt.escrow.filter (· ≠ p.val)).length % 32 ∧
      t.ctrs = ((s.count (vltB + Ctr.VLT.JOBS)).count (vltB + Ctr.VLT.JOB_FAIL)).ctrs ∧
      t.evt = (s.raise Ev.VLT_JOB_DONE 0x2C noInst [(1, p.val), (1, op.toNat), (1, 4)]).evt ∧
      t = { s with vlt := t.vlt, ctrs := t.ctrs, evt := t.evt, regs := t.regs } ∧
      RegsBut [vltB,(jobB p.val)+0x100,(jobB p.val)+0x140,(jobB p.val)+0x144,(jobB p.val)+0x148,(jobB p.val)+0x14C,(jobB p.val)+0x150] s t)

/-- As a job completes, its bytes go to DST in blocks of 16 KiB, to host memory for port 0 and Steward memory for port
1, its effect happens, its result set shows VALID, its status, OUT_LEN and tag, BUSY clears, it counts and VLT_JOB_DONE
is raised; one of port 0 that fails on the bus after so many bytes ends with BUS_ERR. KEY_CMD accepts a write or an
erase of a slot of the port's partition, or shows its attributes; what it accepts takes effect with KEY_IN zeroed and
VLT_KEY_CHANGE, or waits once for Escrow. A slot lost to ECC is erased, counted and reported. A health failure puts the
Mint in FAIL, a restart in its start-up tests, which end in OK with a reseed or in FAIL; a reseed counts and restarts
its 100 ms. A nonce lapses; a debug scope closes. In MFG the lifecycle advances; AON_OWN_CMD programs a blank slot's
fuses or gives its CAUSE; the first owner hash ends PROVISION. Nothing else changes. -/
def Obligations.VaultJobsAndKeysComplete : Prop :=
  (∀ (p : Fin 2) (busErr : Option Nat) (j : Job) (s : State), s.live 0x2C = true → s.vlt.jobs.get p = some j →
      j.eff = .none → s.vlt.waits = [] → (busErr = none ∨ p = 1) → (j.dst.length) < 2 ^ 25 ∧ (j.status) < 16 →
    Does (.vltJobComplete p busErr) s fun t =>
      t.bit ((jobB p.val)) F.JOB_CTRL.BUSY = false ∧
      t.regWords ((jobB p.val) + 0x140) 5 = [BitVec.ofNat 32 (2 ^ 31 + (j.status) * 2 ^ 25 + (j.dst.length)), BitVec.ofNat 32 ((j.tag) / 2 ^ 96), BitVec.ofNat 32 ((j.tag) / 2 ^ 64), BitVec.ofNat 32 ((j.tag) / 2 ^ 32), BitVec.ofNat 32 ((j.tag))] ∧
      t.fld vltB F.VLT_STAT.ESCROW_USED = (s.vlt.escrow.filter (· ≠ p.val)).length % 32 ∧
      (t.out = s.out ++ (List.range (ceilDiv j.dst.length 16384)).map fun i => if p = 0 then Output.hostWrite (s.jobDst p + 16384 * i) ((j.dst.drop (16384 * i)).take 16384) else Output.stewardWrite (s.jobDst p + 16384 * i) ((j.dst.drop (16384 * i)).take 16384)) ∧
      t.ctrs = ((if (j.status) = 2 then (if (j.status) = 1 then (if (j.status) = 0 then ((s.count (vltB + Ctr.VLT.JOBS))) else ((s.count (vltB + Ctr.VLT.JOBS))).count (vltB + Ctr.VLT.JOB_FAIL)).count (vltB + Ctr.VLT.TAG_FAIL) else (if (j.status) = 0 then ((s.count (vltB + Ctr.VLT.JOBS))) else ((s.count (vltB + Ctr.VLT.JOBS))).count (vltB + Ctr.VLT.JOB_FAIL))).count (vltB + Ctr.VLT.KEY_ABSENT) else (if (j.status) = 1 then (if (j.status) = 0 then ((s.count (vltB + Ctr.VLT.JOBS))) else ((s.count (vltB + Ctr.VLT.JOBS))).count (vltB + Ctr.VLT.JOB_FAIL)).count (vltB + Ctr.VLT.TAG_FAIL) else (if (j.status) = 0 then ((s.count (vltB + Ctr.VLT.JOBS))) else ((s.count (vltB + Ctr.VLT.JOBS))).count (vltB + Ctr.VLT.JOB_FAIL))))).ctrs ∧
      t.evt = (s.raise Ev.VLT_JOB_DONE 0x2C noInst [(1, p.val), (1, j.op), (1, (j.status))]).evt ∧
      t.vlt = { s.vlt with jobs := s.vlt.jobs.set p none, escrow := s.vlt.escrow.filter (· ≠ p.val) } ∧
      t = { s with out := t.out, vlt := t.vlt, ctrs := t.ctrs, evt := t.evt, regs := t.regs } ∧
      RegsBut [vltB,(jobB p.val)+0x100,(jobB p.val)+0x140,(jobB p.val)+0x144,(jobB p.val)+0x148,(jobB p.val)+0x14C,(jobB p.val)+0x150] s t) ∧
  (∀ (p : Fin 2) (busErr : Option Nat) (j : Job) (n : Nat) (s : State), s.live 0x2C = true → s.vlt.jobs.get p = some j →
      j.eff = .none → s.vlt.waits = [] → p = 0 → busErr = some n → j.dst.length < 2 ^ 25 →
    Does (.vltJobComplete p busErr) s fun t =>
      t.bit ((jobB p.val)) F.JOB_CTRL.BUSY = false ∧
      t.regWords ((jobB p.val) + 0x140) 5 = [BitVec.ofNat 32 (2 ^ 31 + (8) * 2 ^ 25 + ((min n j.dst.length))), BitVec.ofNat 32 ((0) / 2 ^ 96), BitVec.ofNat 32 ((0) / 2 ^ 64), BitVec.ofNat 32 ((0) / 2 ^ 32), BitVec.ofNat 32 ((0))] ∧
      t.fld vltB F.VLT_STAT.ESCROW_USED = (s.vlt.escrow.filter (· ≠ p.val)).length % 32 ∧
      (t.out = s.out ++ (List.range (ceilDiv (j.dst.take n).length 16384)).map fun i => if p = 0 then Output.hostWrite (s.jobDst p + 16384 * i) (((j.dst.take n).drop (16384 * i)).take 16384) else Output.stewardWrite (s.jobDst p + 16384 * i) (((j.dst.take n).drop (16384 * i)).take 16384)) ∧
      t.ctrs = ((s.count (vltB + Ctr.VLT.JOBS)).count (vltB + Ctr.VLT.JOB_FAIL)).ctrs ∧
      t.evt = (s.raise Ev.VLT_JOB_DONE 0x2C noInst [(1, p.val), (1, j.op), (1, (8))]).evt ∧
      t.vlt = { s.vlt with jobs := s.vlt.jobs.set p none, escrow := s.vlt.escrow.filter (· ≠ p.val) } ∧
      t = { s with out := t.out, vlt := t.vlt, ctrs := t.ctrs, evt := t.evt, regs := t.regs } ∧
      RegsBut [vltB,(jobB p.val)+0x100,(jobB p.val)+0x140,(jobB p.val)+0x144,(jobB p.val)+0x148,(jobB p.val)+0x14C,(jobB p.val)+0x150] s t) ∧
  (∀ (p : Fin 2) (busErr : Option Nat) (j : Job) (nonce : Nat) (s : State), s.live 0x2C = true →
      s.vlt.jobs.get p = some j → j.eff = .challenge false nonce → s.vlt.waits = [] → busErr = none →
      (j.dst.length) < 2 ^ 25 ∧ (j.status) = 0 →
    Does (.vltJobComplete p busErr) s fun t =>
      t.bit ((jobB p.val)) F.JOB_CTRL.BUSY = false ∧
      t.regWords ((jobB p.val) + 0x140) 5 = [BitVec.ofNat 32 (2 ^ 31 + (j.status) * 2 ^ 25 + (j.dst.length)), BitVec.ofNat 32 ((j.tag) / 2 ^ 96), BitVec.ofNat 32 ((j.tag) / 2 ^ 64), BitVec.ofNat 32 ((j.tag) / 2 ^ 32), BitVec.ofNat 32 ((j.tag))] ∧
      t.fld vltB F.VLT_STAT.ESCROW_USED = (s.vlt.escrow.filter (· ≠ p.val)).length % 32 ∧
      (t.out = s.out ++ (List.range (ceilDiv j.dst.length 16384)).map fun i => if p = 0 then Output.hostWrite (s.jobDst p + 16384 * i) ((j.dst.drop (16384 * i)).take 16384) else Output.stewardWrite (s.jobDst p + 16384 * i) ((j.dst.drop (16384 * i)).take 16384)) ∧
      t.ctrs = (s.count (vltB + Ctr.VLT.JOBS)).ctrs ∧
      t.evt = (s.raise Ev.VLT_JOB_DONE 0x2C noInst [(1, p.val), (1, j.op), (1, (j.status))]).evt ∧
      t.vlt = { s.vlt with jobs := s.vlt.jobs.set p none, escrow := s.vlt.escrow.filter (· ≠ p.val), dbgNonce := some nonce } ∧
      SMap.get (fun _ => 0) t.timers Tm.dbgNonce = s.now + 60000 * msTicks + 1 ∧
      t = { s with out := t.out, vlt := t.vlt, ctrs := t.ctrs, evt := t.evt, timers := t.timers, regs := t.regs } ∧
      TimersBut [Tm.dbgNonce] s t ∧
      RegsBut [vltB,(jobB p.val)+0x100,(jobB p.val)+0x140,(jobB p.val)+0x144,(jobB p.val)+0x148,(jobB p.val)+0x14C,(jobB p.val)+0x150] s t) ∧
  (∀ (p : Fin 2) (busErr : Option Nat) (j : Job) (s : State), s.live 0x2C = true → s.vlt.jobs.get p = some j →
      j.eff = .attest → s.vlt.waits = [] → busErr = none → (j.dst.length) < 2 ^ 25 ∧ (j.status) = 0 →
    Does (.vltJobComplete p busErr) s fun t =>
      t.bit ((jobB p.val)) F.JOB_CTRL.BUSY = false ∧
      t.regWords ((jobB p.val) + 0x140) 5 = [BitVec.ofNat 32 (2 ^ 31 + (j.status) * 2 ^ 25 + (j.dst.length)), BitVec.ofNat 32 ((j.tag) / 2 ^ 96), BitVec.ofNat 32 ((j.tag) / 2 ^ 64), BitVec.ofNat 32 ((j.tag) / 2 ^ 32), BitVec.ofNat 32 ((j.tag))] ∧
      t.fld vltB F.VLT_STAT.ESCROW_USED = (s.vlt.escrow.filter (· ≠ p.val)).length % 32 ∧
      (t.out = s.out ++ (List.range (ceilDiv j.dst.length 16384)).map fun i => if p = 0 then Output.hostWrite (s.jobDst p + 16384 * i) ((j.dst.drop (16384 * i)).take 16384) else Output.stewardWrite (s.jobDst p + 16384 * i) ((j.dst.drop (16384 * i)).take 16384)) ∧
      t.ctrs = ((s.count (vltB + Ctr.VLT.ATTESTS)).count (vltB + Ctr.VLT.JOBS)).ctrs ∧
      t.evt = (s.raise Ev.VLT_JOB_DONE 0x2C noInst [(1, p.val), (1, j.op), (1, (j.status))]).evt ∧
      t.vlt = { s.vlt with jobs := s.vlt.jobs.set p none, escrow := s.vlt.escrow.filter (· ≠ p.val) } ∧
      t = { s with out := t.out, vlt := t.vlt, ctrs := t.ctrs, evt := t.evt, regs := t.regs } ∧
      RegsBut [vltB,(jobB p.val)+0x100,(jobB p.val)+0x140,(jobB p.val)+0x144,(jobB p.val)+0x148,(jobB p.val)+0x14C,(jobB p.val)+0x150] s t) ∧
  (∀ (m : Master) (p : Fin 2) (slot : BitVec 10) (s : State), s.r54Discards m ((jobB p.val) + 0x180) = false →
      s.live 0x2C = true → decide (m = .host) = decide (p = 0) → s.bit ((jobB p.val)) F.KEY_CMD.BUSY = false →
      s.portOwns p slot.toNat = true → s.jobF p F.KEY_ATTR.TYPE ≠ 0 →
    Does (.keyWrite m p slot) s fun t =>
      t.vlt = { s.vlt with keys := s.vlt.keys.set p (some { erase := false, slot := slot.toNat, typ := s.jobF p F.KEY_ATTR.TYPE, use := s.jobF p F.KEY_ATTR.USE, key := (s.regWords ((jobB p.val) + 0x160) 8).foldl (fun n w => n * 2 ^ 32 + w.toNat) 0, waited := false }) } ∧
      t.bit ((jobB p.val)) F.KEY_CMD.BUSY = true ∧ t.jobF p F.KEY_CMD.CAUSE = 0 ∧ t.jobF p F.KEY_CMD.SLOT = slot.toNat ∧ t.jobF p F.KEY_CMD.OP = 0 ∧
      t = { s with vlt := t.vlt, regs := t.regs } ∧ RegsBut [(jobB p.val)+0x180] s t) ∧
  (∀ (m : Master) (p : Fin 2) (slot : BitVec 10) (s : State), s.r54Discards m ((jobB p.val) + 0x180) = false →
      s.live 0x2C = true → decide (m = .host) = decide (p = 0) → s.bit ((jobB p.val)) F.KEY_CMD.BUSY = false →
      (s.portOwns p slot.toNat = false ∨ s.jobF p F.KEY_ATTR.TYPE = 0) →
    Does (.keyWrite m p slot) s fun t =>
      (t.bit ((jobB p.val)) F.KEY_CMD.BUSY = false ∧ t.jobF p F.KEY_CMD.CAUSE = if s.portOwns p slot.toNat then 2 else 1) ∧
      t = { s with regs := t.regs } ∧ RegsBut [(jobB p.val)+0x180] s t) ∧
  (∀ (m : Master) (p : Fin 2) (slot : BitVec 10) (k : KeySlot) (s : State),
      s.r54Discards m ((jobB p.val) + 0x180) = false → s.live 0x2C = true → decide (m = .host) = decide (p = 0) →
      s.bit ((jobB p.val)) F.KEY_CMD.BUSY = false → s.portOwns p slot.toNat = true → s.slot slot.toNat = some k →
    Does (.keyErase m p slot) s fun t =>
      t.vlt = { s.vlt with keys := s.vlt.keys.set p (some { erase := true, slot := slot.toNat, typ := s.jobF p F.KEY_ATTR.TYPE, use := s.jobF p F.KEY_ATTR.USE, key := (s.regWords ((jobB p.val) + 0x160) 8).foldl (fun n w => n * 2 ^ 32 + w.toNat) 0, waited := false }) } ∧
      t.bit ((jobB p.val)) F.KEY_CMD.BUSY = true ∧ t.jobF p F.KEY_CMD.CAUSE = 0 ∧ t.jobF p F.KEY_CMD.OP = 1 ∧
      t = { s with vlt := t.vlt, regs := t.regs } ∧ RegsBut [(jobB p.val)+0x180] s t) ∧
  (∀ (m : Master) (p : Fin 2) (slot : BitVec 10) (k : KeySlot) (s : State),
      s.r54Discards m ((jobB p.val) + 0x180) = false → s.live 0x2C = true → decide (m = .host) = decide (p = 0) →
      s.bit ((jobB p.val)) F.KEY_CMD.BUSY = false → s.portOwns p slot.toNat = true → s.slot slot.toNat = some k →
      k.typ < 4 →
    Does (.keyReadAttr m p slot) s fun t =>
      t.jobF p F.KEY_STAT.TYPE = k.typ ∧ t.jobF p F.KEY_STAT.USE = k.use % 16 ∧
      (t.jobF p F.KEY_STAT.KCV = if k.typ = 3 then 0 else aesZero k.typ k.key / 2 ^ 104 % 2 ^ 24) ∧
      t.bit ((jobB p.val)) F.KEY_CMD.BUSY = false ∧ t.jobF p F.KEY_CMD.CAUSE = 0 ∧ t = { s with regs := t.regs } ∧
      RegsBut [(jobB p.val)+0x180,(jobB p.val)+0x188] s t) ∧
  (∀ (m : Master) (p : Fin 2) (slot : BitVec 10) (s : State), s.r54Discards m ((jobB p.val) + 0x180) = false →
      s.live 0x2C = true → decide (m = .host) = decide (p = 0) → s.bit ((jobB p.val)) F.KEY_CMD.BUSY = false →
      s.portOwns p slot.toNat = true → s.slot slot.toNat = none →
    Does (.keyReadAttr m p slot) s fun t =>
      t.bit ((jobB p.val)) F.KEY_CMD.BUSY = false ∧ t.jobF p F.KEY_CMD.CAUSE = 3 ∧ t = { s with regs := t.regs } ∧
      RegsBut [(jobB p.val)+0x180] s t) ∧
  (∀ (p : Fin 2) (c : KeyCmd) (s : State), s.live 0x2C = true → s.vlt.keys.get p = some c → c.erase = false →
      s.vlt.escrow.length + (s.keyHolders c.slot).length ≤ 16 →
    Does (.keyCmdComplete p) s fun t =>
      t.slots = SMap.set (fun _ => none) s.slots c.slot (some { typ := c.typ, use := c.use, key := if c.typ = 1 then c.key % 2 ^ 128 else c.key % 2 ^ 256, iv := 0, ivWarned := false }) ∧
      t.vlt = { s.vlt with keys := s.vlt.keys.set p none, escrow := s.vlt.escrow ++ s.keyHolders c.slot } ∧
      t.bit ((jobB p.val)) F.KEY_CMD.BUSY = false ∧ t.regWords ((jobB p.val) + 0x160) 8 = [0, 0, 0, 0, 0, 0, 0, 0] ∧
      t.fld vltB F.VLT_STAT.ESCROW_USED = s.vlt.escrow.length + (s.keyHolders c.slot).length ∧
      t.evt = (s.raise Ev.VLT_KEY_CHANGE 0x2C noInst [(2, c.slot), (1, 0), (1, 0)]).evt ∧
      t = { s with vlt := t.vlt, slots := t.slots, evt := t.evt, regs := t.regs } ∧
      RegsBut ([vltB,(jobB p.val)+0x180] ++ (List.range 8).map fun i => (jobB p.val) + 0x160 + 4 * i) s t) ∧
  (∀ (p : Fin 2) (c : KeyCmd) (k : KeySlot) (s : State), s.live 0x2C = true → s.vlt.keys.get p = some c → c.erase = true →
      s.slot c.slot = some k → s.vlt.escrow.length + (s.keyHolders c.slot).length ≤ 16 →
    Does (.keyCmdComplete p) s fun t =>
      t.slots = SMap.set (fun _ => none) s.slots c.slot none ∧
      t.vlt = { s.vlt with keys := s.vlt.keys.set p none, escrow := s.vlt.escrow ++ s.keyHolders c.slot } ∧
      t.bit ((jobB p.val)) F.KEY_CMD.BUSY = false ∧
      t.evt = (s.raise Ev.VLT_KEY_CHANGE 0x2C noInst [(2, c.slot), (1, 1), (1, 0)]).evt ∧
      t = { s with vlt := t.vlt, slots := t.slots, evt := t.evt, regs := t.regs } ∧ RegsBut [vltB,(jobB p.val)+0x180] s t) ∧
  (∀ (p : Fin 2) (c : KeyCmd) (s : State), s.live 0x2C = true → s.vlt.keys.get p = some c →
      16 < s.vlt.escrow.length + (s.keyHolders c.slot).length → c.waited = false →
    Does (.keyCmdComplete p) s fun t =>
      t.vlt = { s.vlt with keys := s.vlt.keys.set p (some { c with waited := true }) } ∧
      t.ctrs = (s.count (vltB + Ctr.VLT.ESCROW_WAITS)).ctrs ∧
      t.evt = (s.raise Ev.VLT_ESCROW_FULL 0x2C noInst [(2, c.slot)]).evt ∧
      t = { s with vlt := t.vlt, ctrs := t.ctrs, evt := t.evt }) ∧
  (∀ (slot : BitVec 10) (s : State), s.live 0x2C = true →
    Does (.slotEccError slot) s fun t =>
      t.slots = SMap.set (fun _ => none) s.slots slot.toNat none ∧ t.ctrs = (s.count (vltB + Ctr.VLT.KEY_LOST)).ctrs ∧
      t.evt = (s.raise Ev.VLT_FAULT 0x2C noInst [(1, Config.free s.freeNext), (1, 1), (2, slot.toNat)]).evt ∧
      t.freeNext = s.freeNext + 1 ∧ t = { s with slots := t.slots, ctrs := t.ctrs, evt := t.evt, freeNext := t.freeNext }) ∧
  (∀ (adaptive : Bool) (s : State), s.live 0x2C = true →
    Does (.mintHealthFail adaptive) s fun t =>
      t.fld vltB F.VLT_STAT.MINT = 2 ∧ t.ctrs = (s.count (vltB + Ctr.VLT.MINT_HEALTH_FAIL)).ctrs ∧
      t.evt = (s.raise Ev.VLT_MINT_FAIL 0x2C noInst [(1, b2n adaptive)]).evt ∧
      t.vlt = { s.vlt with drbg := t.vlt.drbg, maskAt := t.vlt.maskAt, masks := t.vlt.masks } ∧
      t = { s with vlt := t.vlt, ctrs := t.ctrs, evt := t.evt, regs := t.regs } ∧ RegsBut [vltB] s t) ∧
  (∀ (m : Master) (s : State), s.reaches m (vltB + 0x10) = true →
    Does (.mintRestart m) s fun t =>
      t.fld vltB F.VLT_STAT.MINT = 1 ∧
      t.vlt = { s.vlt with drbg := t.vlt.drbg, maskAt := t.vlt.maskAt, masks := t.vlt.masks } ∧
      t = { s with vlt := t.vlt, regs := t.regs } ∧ RegsBut [vltB] s t) ∧
  (∀ (pass : Bool) (s : State), s.live 0x2C = true → s.fld vltB F.VLT_STAT.MINT = 1 →
    Does (.mintRestartDone pass) s fun t =>
      (t.fld vltB F.VLT_STAT.MINT = if pass then 0 else 2) ∧
      (pass = true → t.vlt.drbg = 0 ∧ t.ctrs = (s.count (vltB + Ctr.VLT.MINT_RESEEDS)).ctrs ∧ SMap.get (fun _ => 0) t.timers Tm.mint = s.now + 100 * msTicks + 1) ∧
      (pass = false → t.ctrs = s.ctrs ∧ t.timers = s.timers) ∧
      t.vlt = { s.vlt with drbg := t.vlt.drbg, maskAt := t.vlt.maskAt, masks := t.vlt.masks } ∧
      t = { s with vlt := t.vlt, ctrs := t.ctrs, timers := t.timers, regs := t.regs } ∧ TimersBut [Tm.mint] s t ∧
      RegsBut [vltB] s t) ∧
  (∀ (s : State), (s.live 0x2C = true ∨ s.stage < 0xA) → s.timerOn Tm.mint = true →
    Does .mintReseedExpiry s fun t =>
      (s.mintOk = true → t.vlt.drbg = 0 ∧ t.ctrs = ((s.atEnd Tm.mint).count (vltB + Ctr.VLT.MINT_RESEEDS)).ctrs ∧ SMap.get (fun _ => 0) t.timers Tm.mint = (s.atEnd Tm.mint).now + 100 * msTicks + 1) ∧
      (s.mintOk = false → t.ctrs = (s.atEnd Tm.mint).ctrs ∧ t.vlt = (s.atEnd Tm.mint).vlt ∧ t.timerOn Tm.mint = false) ∧
      t.vlt = { (s.atEnd Tm.mint).vlt with drbg := t.vlt.drbg, maskAt := t.vlt.maskAt, masks := t.vlt.masks } ∧
      t = { (s.atEnd Tm.mint) with vlt := t.vlt, ctrs := t.ctrs, timers := t.timers } ∧
      TimersBut [Tm.mint] (s.atEnd Tm.mint) t) ∧
  (∀ (rma : Bool) (s : State), s.live 0x2C = true → s.timerOn ((if rma then Tm.rmaNonce else Tm.dbgNonce)) = true →
    Does (.nonceExpiry rma) s fun t =>
      (t.vlt = if rma then { (s.atEnd ((if rma then Tm.rmaNonce else Tm.dbgNonce))).vlt with rmaNonce := none } else { (s.atEnd ((if rma then Tm.rmaNonce else Tm.dbgNonce))).vlt with dbgNonce := none }) ∧
      t = { (s.atEnd ((if rma then Tm.rmaNonce else Tm.dbgNonce))) with vlt := t.vlt }) ∧
  (∀ (m : Master) (s : State), s.reaches m (vltB + 0x20) = true →
    Does (.debugClose m) s fun t =>
      t.fld vltB F.VLT_DBG_CTRL.OPEN = 0 ∧ t.fld aonB F.AON_LIFECYCLE.DEBUG = 0 ∧ t = { s with regs := t.regs } ∧
      RegsBut [vltB+0x20,aonB+0x40] s t) ∧
  (∀ (ready : Bool) (s : State), s.fuse.life = 1 → ready = true →
    Does (.lifecycleAdvance ready) s fun t =>
      t.fuse = { s.fuse with life := 3 } ∧ t.fld aonB F.AON_LIFECYCLE.STATE = 3 ∧
      t.ledger = { s.ledger with lives := s.ledger.lives ++ [(1, 3)] } ∧
      t = { s with fuse := t.fuse, ledger := t.ledger, regs := t.regs } ∧ RegsBut [aonB+0x40,aonB+0x44] s t) ∧
  (∀ (ready : Bool) (s : State), (s.fuse.life ≠ 1 ∨ ready = false) →
    Does (.lifecycleAdvance ready) s fun t =>
      t = s) ∧
  (∀ (m : Master) (key : BitVec 16) (target : BitVec 3) (s : State), s.reaches m (aonB + 0x48) = true →
      s.bit aonB F.AON_OWN_CMD.BUSY = false → s.fuse.life = 3 → key = 0xA5C3 → target.toNat < 6 →
      s.fuse.hash target.toNat = none ∧ s.fuse.revoked.testBit target.toNat = false →
    Does (.aonOwnCmdWrite m key target) s fun t =>
      t.vlt = { s.vlt with fuse := some (target.toNat, (s.regWords (aonB + 0x50) 12).foldl (fun n w => n * 2 ^ 32 + w.toNat) 0) } ∧
      t.bit aonB F.AON_OWN_CMD.BUSY = true ∧ t.fld aonB F.AON_OWN_CMD.CAUSE = 0 ∧
      t = { s with vlt := t.vlt, regs := t.regs } ∧ RegsBut [aonB+0x48] s t) ∧
  (∀ (m : Master) (key : BitVec 16) (target : BitVec 3) (s : State), s.reaches m (aonB + 0x48) = true →
      s.bit aonB F.AON_OWN_CMD.BUSY = false →
      (s.fuse.life ≠ 3 ∨ key ≠ 0xA5C3 ∨ 6 ≤ target.toNat ∨ s.fuse.blank target.toNat = false) →
    Does (.aonOwnCmdWrite m key target) s fun t =>
      (t.fld aonB F.AON_OWN_CMD.CAUSE = if s.fuse.life ≠ 3 ∨ key ≠ 0xA5C3 then 1 else if 6 ≤ target.toNat then 3 else 2) ∧
      t = { s with regs := t.regs } ∧ RegsBut [aonB+0x48] s t) ∧
  (∀ (i : Nat) (h : Nat) (s : State), s.vlt.fuse = some (i, h) → s.sagging = false →
    Does .fuseProgramDone s fun t =>
      t.vlt = { s.vlt with fuse := none } ∧ t.bit aonB F.AON_OWN_CMD.BUSY = false ∧
      (t.fuse = if i < 4 then { (({ s.fuse with hashes := SMap.set (fun _ => none) s.fuse.hashes i (some h) } : Fuses)) with life := 7 } else (({ s.fuse with hashes := SMap.set (fun _ => none) s.fuse.hashes i (some h) } : Fuses))) ∧
      (t.ledger = if i < 4 ∧ s.fuse.life ≠ 7 then { s.ledger with lives := s.ledger.lives ++ [(s.fuse.life, 7)] } else s.ledger) ∧
      t = { s with vlt := t.vlt, fuse := t.fuse, ledger := t.ledger, regs := t.regs } ∧
      RegsBut [aonB+0x48,aonB+0x40,aonB+0x44] s t) ∧
  (∀ (s : State), (s.vlt.fuse = none ∨ s.sagging = true) →
    Does .fuseProgramDone s fun t =>
      t = s)

/-- PWR_CTRL with its KEY and GO in phase idle goes to a deeper state by asking: PHASE 1, the islands of the state (and
the PON islands for P2) asked, the delay limit running; an active wake source refuses it (cause 3). To a shallower one
it exits; from P3, or to the state in force, it only shows TARGET; with another KEY or PHASE it is discarded. A reply
(log entries name what lies outside State) of REFUSE refuses with cause 1 and the island, DELAY shows the island, ACK
takes it off, and the last ACK starts the commit of the kept islands in descending order; the delay limit refuses with
cause 2. Each refusal counts and is reported. A commit step keeps one island: not live, its timers held, the change of
its live bit reported; the last one gives the target STATE, counts and reports it. A wake event takes a GPIO's level; in
phase idle outside P0 its mask starts an exit of the kept islands in ascending order, asking it refuses, in a commit it
refuses and undoes. An exit step makes the next island live on the fast oscillator; after the last STATE is P0 (as it
was after an undone commit) and CLK_SWITCH moves them to the PLLs. A failed step is retried once, then the island is
dark. Nothing else changes. -/
def Obligations.PowerStatesAreEnteredAndLeft : Prop :=
  (∀ (m : Master) (key : BitVec 16) (target : BitVec 3) (s : State), s.reaches m (aonB + 0x100) = true →
      key = 0xA5C3 ∧ s.pwrPhase = 0 → s.pwrState < target.toNat ∧ target.toNat ≤ 3 →
      ((({ s.setPhase 1 with pwr := { s.pwr with target := target.toNat } } : State))).wakeMask = 0 →
      (s.keepSet target.toNat ++ (if target = 2 then [0x08, 0x09].filter s.live else [])) ≠ [] →
    Does (.pwrGo m key target) s fun t =>
      t.fld aonB F.AON_PWR_CTRL.TARGET = target.toNat ∧ t.pwrPhase = 1 ∧ t.pwrState = s.pwrState ∧ t.fld aonB F.AON_PWR_STAT.ISL = 0xFF ∧ t.fld aonB F.AON_PWR_STAT.CAUSE = 0 ∧
      t.pwr = { s.pwr with target := target.toNat, asked := (s.keepSet target.toNat ++ (if target = 2 then [0x08, 0x09].filter s.live else [])), commit := [], done := [] } ∧
      SMap.get (fun _ => 0) t.timers Tm.delayMax = s.now + max 1 (s.fld aonB F.AON_PWR_CFG.DELAY_MAX) * usTicks + 1 ∧
      t = { s with pwr := t.pwr, timers := t.timers, regs := t.regs } ∧ TimersBut [Tm.delayMax] s t ∧
      RegsBut [aonB+0x100,(aonB+0x104)] s t) ∧
  (∀ (m : Master) (key : BitVec 16) (target : BitVec 3) (s : State), s.reaches m (aonB + 0x100) = true →
      key = 0xA5C3 ∧ s.pwrPhase = 0 → s.pwrState < target.toNat ∧ target.toNat ≤ 3 →
      ((({ s.setPhase 1 with pwr := { s.pwr with target := target.toNat } } : State))).wakeMask ≠ 0 →
    Does (.pwrGo m key target) s fun t =>
      t.fld aonB F.AON_PWR_CTRL.TARGET = target.toNat ∧
      (t.bit aonB F.AON_PWR_STAT.REFUSED = true ∧ t.fld aonB F.AON_PWR_STAT.CAUSE = (3) ∧ t.fld aonB F.AON_PWR_STAT.ISL = (0xFF) ∧ t.pwrPhase = (0) ∧ t.pwrState = s.pwrState) ∧
      t.pwr = { s.pwr with target := target.toNat, asked := [], commit := [], done := [] } ∧
      t.timerOn Tm.delayMax = false ∧ t.ctrs = (s.count (aonB + Ctr.AON.PWR_REFUSALS)).ctrs ∧
      t.evt = (s.raise Ev.PWR_REFUSED 0x00 noInst ([(1, (target.toNat)), (1, (3)), (1, (0xFF))])).evt ∧
      t = { s with pwr := t.pwr, ctrs := t.ctrs, evt := t.evt, timers := t.timers, regs := t.regs } ∧
      TimersBut [Tm.delayMax] s t ∧ RegsBut [aonB+0x100,(aonB+0x104)] s t) ∧
  (∀ (m : Master) (key : BitVec 16) (target : BitVec 3) (s : State), s.reaches m (aonB + 0x100) = true →
      key = 0xA5C3 ∧ s.pwrPhase = 0 → target.toNat < s.pwrState ∧ target.toNat ≤ 3 ∧ s.pwrState ≠ 3 → s.pwr.kept ≠ [] →
    Does (.pwrGo m key target) s fun t =>
      t.fld aonB F.AON_PWR_CTRL.TARGET = target.toNat ∧ t.pwrPhase = 3 ∧ t.fld aonB F.AON_WAKE_STAT.CAUSE = 0 ∧ t.pwrState = s.pwrState ∧
      t.pwr = { s.pwr with exits := s.pwr.kept.mergeSort (· ≤ ·), undo := false, retried := false, timerOut := false } ∧
      t.timerOn Tm.wakeTimer = false ∧ t = { s with pwr := t.pwr, timers := t.timers, regs := t.regs } ∧
      TimersBut [Tm.wakeTimer] s t ∧ RegsBut [aonB+0x100,(aonB+0x104),aonB+0x114] s t) ∧
  (∀ (m : Master) (key : BitVec 16) (target : BitVec 3) (s : State), s.reaches m (aonB + 0x100) = true →
      key = 0xA5C3 ∧ s.pwrPhase = 0 → (3 < target.toNat ∨ target.toNat = s.pwrState ∨ s.pwrState = 3) →
    Does (.pwrGo m key target) s fun t =>
      t.fld aonB F.AON_PWR_CTRL.TARGET = target.toNat ∧ t = { s with regs := t.regs } ∧ RegsBut [aonB+0x100] s t) ∧
  (∀ (m : Master) (key : BitVec 16) (target : BitVec 3) (s : State), s.reaches m (aonB + 0x100) = true →
      (key ≠ 0xA5C3 ∨ s.pwrPhase ≠ 0) →
    Does (.pwrGo m key target) s fun t =>
      t = s) ∧
  (∀ (isl : Fin 64) (reply : Fin 3) (s : State), s.pwrPhase = 1 ∧ s.pwr.asked.contains isl.val = true →
      (s.replyOf isl.val (if reply.val = 0 then .ack else if reply.val = 1 then .delay else .refuse)) = .refuse →
    Does (.islandPowerReply isl reply) s fun t =>
      (t.bit aonB F.AON_PWR_STAT.REFUSED = true ∧ t.fld aonB F.AON_PWR_STAT.CAUSE = (1) ∧ t.fld aonB F.AON_PWR_STAT.ISL = (isl.val) ∧ t.pwrPhase = (0) ∧ t.pwrState = s.pwrState) ∧
      t.pwr = { s.pwr with asked := [], commit := [], done := [] } ∧ t.timerOn Tm.delayMax = false ∧
      t.ctrs = (s.count (aonB + Ctr.AON.PWR_REFUSALS)).ctrs ∧
      t.evt = (s.raise Ev.PWR_REFUSED 0x00 noInst ([(1, (s.pwr.target)), (1, (1)), (1, (isl.val))])).evt ∧
      t = { s with pwr := t.pwr, ctrs := t.ctrs, evt := t.evt, timers := t.timers, regs := t.regs } ∧
      TimersBut [Tm.delayMax] s t ∧ RegsBut [(aonB+0x104)] s t) ∧
  (∀ (isl : Fin 64) (reply : Fin 3) (s : State), s.pwrPhase = 1 ∧ s.pwr.asked.contains isl.val = true →
      (s.replyOf isl.val (if reply.val = 0 then .ack else if reply.val = 1 then .delay else .refuse)) = .delay →
    Does (.islandPowerReply isl reply) s fun t =>
      t.fld aonB F.AON_PWR_STAT.ISL = isl.val ∧ t = { s with regs := t.regs } ∧ RegsBut [(aonB+0x104)] s t) ∧
  (∀ (isl : Fin 64) (reply : Fin 3) (s : State), s.pwrPhase = 1 ∧ s.pwr.asked.contains isl.val = true →
      (s.replyOf isl.val (if reply.val = 0 then .ack else if reply.val = 1 then .delay else .refuse)) = .ack →
      (s.pwr.asked.filter (· ≠ isl.val)) ≠ [] →
    Does (.islandPowerReply isl reply) s fun t =>
      t.pwr = { s.pwr with asked := (s.pwr.asked.filter (· ≠ isl.val)) } ∧ t = { s with pwr := t.pwr }) ∧
  (∀ (isl : Fin 64) (reply : Fin 3) (s : State), s.pwrPhase = 1 ∧ s.pwr.asked.contains isl.val = true →
      (s.replyOf isl.val (if reply.val = 0 then .ack else if reply.val = 1 then .delay else .refuse)) = .ack →
      s.pwr.asked.filter (· ≠ isl.val) = [] → s.keepSet s.pwr.target ≠ [] →
    Does (.islandPowerReply isl reply) s fun t =>
      t.pwrPhase = 2 ∧ t.pwr = { s.pwr with asked := [], commit := (s.keepSet s.pwr.target).reverse, done := [] } ∧
      t.timerOn Tm.delayMax = false ∧ t = { s with pwr := t.pwr, timers := t.timers, regs := t.regs } ∧
      TimersBut [Tm.delayMax] s t ∧ RegsBut [(aonB+0x104)] s t) ∧
  (∀ (isl : Fin 64) (reply : Fin 3) (s : State), (s.pwrPhase ≠ 1 ∨ s.pwr.asked.contains isl.val = false) →
    Does (.islandPowerReply isl reply) s fun t =>
      t = s) ∧
  (∀ (s : State), s.timerOn Tm.delayMax = true → s.pwrPhase = 1 ∧ s.pwr.asked.all (· < 64) = true →
    Does .pwrDelayMaxExpiry s fun t =>
      (t.bit aonB F.AON_PWR_STAT.REFUSED = true ∧ t.fld aonB F.AON_PWR_STAT.CAUSE = (2) ∧ t.fld aonB F.AON_PWR_STAT.ISL = (if s.pwr.asked.contains (s.fld aonB F.AON_PWR_STAT.ISL) then (s.fld aonB F.AON_PWR_STAT.ISL) else s.pwr.asked.headD 0xFF) ∧ t.pwrPhase = (0) ∧ t.pwrState = s.pwrState) ∧
      t.pwr = { s.pwr with asked := [], commit := [], done := [] } ∧
      t.ctrs = (((s.atEnd Tm.delayMax)).count (aonB + Ctr.AON.PWR_REFUSALS)).ctrs ∧
      t.evt = (((s.atEnd Tm.delayMax)).raise Ev.PWR_REFUSED 0x00 noInst ([(1, (s.pwr.target)), (1, (2)), (1, (if s.pwr.asked.contains (s.fld aonB F.AON_PWR_STAT.ISL) then (s.fld aonB F.AON_PWR_STAT.ISL) else s.pwr.asked.headD 0xFF))])).evt ∧
      t.timerOn Tm.delayMax = false ∧
      t = { (s.atEnd Tm.delayMax) with pwr := t.pwr, ctrs := t.ctrs, evt := t.evt, timers := t.timers, regs := t.regs } ∧
      TimersBut [Tm.delayMax] (s.atEnd Tm.delayMax) t ∧ RegsBut [(aonB+0x104)] (s.atEnd Tm.delayMax) t) ∧
  (∀ (id : Nat) (rest : List Nat) (s : State), s.pwr.commit = id :: rest ∧ rest ≠ [] →
      s.pwrPhase = 2 ∧ s.mcWaits id = false ∧ s.live id = true → id < 64 ∧ (id ≠ 0x3A ∨ s.pwr.target ≠ 3) → s.wakeMask = 0 →
    Does .islandCommitStep s fun t =>
      t.live id = false ∧
      t.pwr = { s.pwr with commit := rest, done := s.pwr.done ++ [id], kept := s.pwr.kept ++ [id], frozen := (t.pwr).frozen, timHold := if id = 0x04 then some s.now else s.pwr.timHold } ∧
      (∀ q, timerIsland q ≠ id → SMap.get (fun _ => 0) t.timers q = SMap.get (fun _ => 0) s.timers q) ∧
      t.evt = (s.setLive id false).evt ∧ t = { s with pwr := t.pwr, evt := t.evt, timers := t.timers, regs := t.regs } ∧
      RegsBut [aonB+(if id < 32 then 0x10 else 0x14)] s t) ∧
  (∀ (id : Nat) (s : State), s.pwr.commit = [id] → s.pwrPhase = 2 ∧ s.mcWaits id = false ∧ s.live id = true →
      id < 64 ∧ (id ≠ 0x3A ∨ s.pwr.target ≠ 3) ∧ s.pwr.target < 4 →
      (({ s with pwr := { s.pwr with timerOut := false } } : State).wakeMask) = 0 →
    Does .islandCommitStep s fun t =>
      t.live id = false ∧ t.pwrPhase = 0 ∧ t.pwrState = s.pwr.target ∧ t.fld aonB F.AON_WAKE_STAT.CAUSE = 0 ∧
      t.bit aonB F.AON_CLK_CTRL.PLL_READY = (s.bit aonB F.AON_CLK_CTRL.PLL_READY && decide (s.pwr.target ≠ 3)) ∧
      t.pwr = { s.pwr with commit := [], done := [], kept := s.pwr.kept ++ [id], frozen := (t.pwr).frozen, timerOut := false, timHold := if id = 0x04 then some s.now else s.pwr.timHold } ∧
      ((s.fld aonB F.AON_WAKE_TIMER.MS) ≠ 0 → SMap.get (fun _ => 0) t.timers Tm.wakeTimer = s.now + (s.fld aonB F.AON_WAKE_TIMER.MS) * msTicks + 1) ∧
      (∀ q, timerIsland q ≠ id → q ≠ Tm.wakeTimer → SMap.get (fun _ => 0) t.timers q = SMap.get (fun _ => 0) s.timers q) ∧
      t.ctrs = (((s.setLive id false)).count (aonB + Ctr.AON.PWR_ENTRIES)).ctrs ∧
      t.evt = (((s.setLive id false)).raise Ev.PWR_STATE 0x00 noInst [(1, s.pwrState), (1, s.pwr.target), (3, 0)]).evt ∧
      t = { s with pwr := t.pwr, timers := t.timers, ctrs := t.ctrs, evt := t.evt, regs := t.regs } ∧
      RegsBut [aonB+(if id < 32 then 0x10 else 0x14),(aonB+0x104),aonB+0x114,aonB+0x11C] s t) ∧
  (∀ (s : State), (s.pwr.commit = [] ∨ s.pwrPhase ≠ 2 ∨ s.mcWaits (s.pwr.commit.headD 0) = true) →
    Does .islandCommitStep s fun t =>
      t = s) ∧
  (∀ (src : Fin 22) (high inWindow : Bool) (s : State),
      (((if src.val < 16 then { s with pwr := { s.pwr with gpio := putPrio s.pwr.gpio src.val high } } else s)).pwrPhase = 2 ∧ inWindow = true ∨ (((if src.val < 16 then { s with pwr := { s.pwr with gpio := putPrio s.pwr.gpio src.val high } } else s)).pwrPhase = 0 ∧ s.pwrState = 0) ∨ 2 < s.pwrPhase) →
    Does (.wakeEvent src high inWindow) s fun t =>
      t = (if src.val < 16 then { s with pwr := { s.pwr with gpio := putPrio s.pwr.gpio src.val high } } else s)) ∧
  (∀ (src : Fin 22) (high inWindow : Bool) (s : State), s.pwrPhase = 0 ∧ s.pwrState ≠ 0 ∧ s.pwr.kept ≠ [] →
    Does (.wakeEvent src high inWindow) s fun t =>
      ((Nat.lor (((if src.val < 16 then { s with pwr := { s.pwr with gpio := putPrio s.pwr.gpio src.val high } } else s : State))).wakeMask (if ((if src.val < 16 then high && !s.pwr.gpio.testBit src.val && (s.fld aonB F.AON_WAKE_TYPE.EDGE).testBit src.val else decide (20 ≤ src.val))) && (s.fld aonB F.AON_WAKE_EN.EN).testBit src.val then 2 ^ src.val else 0)) = 0 → t = ((if src.val < 16 then { s with pwr := { s.pwr with gpio := putPrio s.pwr.gpio src.val high } } else s : State))) ∧
      ((Nat.lor (((if src.val < 16 then { s with pwr := { s.pwr with gpio := putPrio s.pwr.gpio src.val high } } else s : State))).wakeMask (if ((if src.val < 16 then high && !s.pwr.gpio.testBit src.val && (s.fld aonB F.AON_WAKE_TYPE.EDGE).testBit src.val else decide (20 ≤ src.val))) && (s.fld aonB F.AON_WAKE_EN.EN).testBit src.val then 2 ^ src.val else 0)) ≠ 0 → t.pwrPhase = 3 ∧ t.fld aonB F.AON_WAKE_STAT.CAUSE = (Nat.lor (((if src.val < 16 then { s with pwr := { s.pwr with gpio := putPrio s.pwr.gpio src.val high } } else s : State))).wakeMask (if ((if src.val < 16 then high && !s.pwr.gpio.testBit src.val && (s.fld aonB F.AON_WAKE_TYPE.EDGE).testBit src.val else decide (20 ≤ src.val))) && (s.fld aonB F.AON_WAKE_EN.EN).testBit src.val then 2 ^ src.val else 0)) ∧ t.pwr = { (((if src.val < 16 then { s with pwr := { s.pwr with gpio := putPrio s.pwr.gpio src.val high } } else s : State))).pwr with exits := s.pwr.kept.mergeSort (· ≤ ·), undo := false, retried := false, timerOut := false } ∧ t.timerOn Tm.wakeTimer = false) ∧
      t.pwrState = s.pwrState ∧ t = { s with pwr := t.pwr, timers := t.timers, regs := t.regs } ∧
      TimersBut [Tm.wakeTimer] s t ∧ RegsBut [(aonB+0x104),aonB+0x114] s t) ∧
  (∀ (src : Fin 22) (high inWindow : Bool) (s : State),
      s.pwrPhase = 1 ∧ (Nat.lor (((if src.val < 16 then { s with pwr := { s.pwr with gpio := putPrio s.pwr.gpio src.val high } } else s : State))).wakeMask (if ((if src.val < 16 then high && !s.pwr.gpio.testBit src.val && (s.fld aonB F.AON_WAKE_TYPE.EDGE).testBit src.val else decide (20 ≤ src.val))) && (s.fld aonB F.AON_WAKE_EN.EN).testBit src.val then 2 ^ src.val else 0)) ≠ 0 →
    Does (.wakeEvent src high inWindow) s fun t =>
      (t.bit aonB F.AON_PWR_STAT.REFUSED = true ∧ t.fld aonB F.AON_PWR_STAT.CAUSE = (3) ∧ t.fld aonB F.AON_PWR_STAT.ISL = (0xFF) ∧ t.pwrPhase = (0) ∧ t.pwrState = s.pwrState) ∧
      t.pwr = { (((if src.val < 16 then { s with pwr := { s.pwr with gpio := putPrio s.pwr.gpio src.val high } } else s : State))).pwr with asked := [], commit := [], done := [] } ∧
      t.timerOn Tm.delayMax = false ∧ t.ctrs = (s.count (aonB + Ctr.AON.PWR_REFUSALS)).ctrs ∧
      t.evt = (s.raise Ev.PWR_REFUSED 0x00 noInst ([(1, (s.pwr.target)), (1, (3)), (1, (0xFF))])).evt ∧
      t = { s with pwr := t.pwr, ctrs := t.ctrs, evt := t.evt, timers := t.timers, regs := t.regs } ∧
      TimersBut [Tm.delayMax] s t ∧ RegsBut [(aonB+0x104)] s t) ∧
  (∀ (src : Fin 22) (high inWindow : Bool) (s : State),
      s.pwrPhase = 2 ∧ inWindow = false ∧ (Nat.lor (((if src.val < 16 then { s with pwr := { s.pwr with gpio := putPrio s.pwr.gpio src.val high } } else s : State))).wakeMask (if ((if src.val < 16 then high && !s.pwr.gpio.testBit src.val && (s.fld aonB F.AON_WAKE_TYPE.EDGE).testBit src.val else decide (20 ≤ src.val))) && (s.fld aonB F.AON_WAKE_EN.EN).testBit src.val then 2 ^ src.val else 0)) ≠ 0 →
      s.pwr.done ≠ [] →
    Does (.wakeEvent src high inWindow) s fun t =>
      (t.bit aonB F.AON_PWR_STAT.REFUSED = true ∧ t.fld aonB F.AON_PWR_STAT.CAUSE = (3) ∧ t.fld aonB F.AON_PWR_STAT.ISL = (0xFF) ∧ t.pwrPhase = (3) ∧ t.pwrState = s.pwrState) ∧
      t.fld aonB F.AON_WAKE_STAT.CAUSE = (Nat.lor (((if src.val < 16 then { s with pwr := { s.pwr with gpio := putPrio s.pwr.gpio src.val high } } else s : State))).wakeMask (if ((if src.val < 16 then high && !s.pwr.gpio.testBit src.val && (s.fld aonB F.AON_WAKE_TYPE.EDGE).testBit src.val else decide (20 ≤ src.val))) && (s.fld aonB F.AON_WAKE_EN.EN).testBit src.val then 2 ^ src.val else 0)) ∧
      t.pwr = { (((if src.val < 16 then { s with pwr := { s.pwr with gpio := putPrio s.pwr.gpio src.val high } } else s : State))).pwr with asked := [], commit := [], done := [], exits := s.pwr.done.mergeSort (· ≤ ·), undo := true, retried := false, timerOut := false } ∧
      t.timerOn Tm.delayMax = false ∧ t.timerOn Tm.wakeTimer = false ∧
      t.ctrs = (s.count (aonB + Ctr.AON.PWR_REFUSALS)).ctrs ∧
      t.evt = (s.raise Ev.PWR_REFUSED 0x00 noInst ([(1, (s.pwr.target)), (1, (3)), (1, (0xFF))])).evt ∧
      t = { s with pwr := t.pwr, ctrs := t.ctrs, evt := t.evt, timers := t.timers, regs := t.regs } ∧
      TimersBut [Tm.delayMax,Tm.wakeTimer] s t ∧ RegsBut [(aonB+0x104),aonB+0x114] s t) ∧
  (∀ (s : State), s.timerOn Tm.wakeTimer = true → s.pwrPhase = 0 ∧ s.pwrState ≠ 0 ∧ s.pwr.kept ≠ [] →
      (s.fld aonB F.AON_WAKE_EN.EN).testBit 16 = true →
    Does .wakeTimerExpiry s fun t =>
      t.pwrPhase = 3 ∧ t.fld aonB F.AON_WAKE_STAT.CAUSE = (({ (s.atEnd Tm.wakeTimer) with pwr := { s.pwr with timerOut := true } } : State).wakeMask) ∧ (t.fld aonB F.AON_WAKE_STAT.CAUSE).testBit 16 = true ∧ t.pwrState = s.pwrState ∧
      t.pwr = { s.pwr with exits := s.pwr.kept.mergeSort (· ≤ ·), undo := false, retried := false, timerOut := false } ∧
      t.timerOn Tm.wakeTimer = false ∧
      t = { (s.atEnd Tm.wakeTimer) with pwr := t.pwr, timers := t.timers, regs := t.regs } ∧
      TimersBut [Tm.wakeTimer] (s.atEnd Tm.wakeTimer) t ∧ RegsBut [(aonB+0x104),aonB+0x114] (s.atEnd Tm.wakeTimer) t) ∧
  (∀ (s : State), s.timerOn Tm.wakeTimer = true → s.pwrPhase = 0 ∧ s.pwrState ≠ 0 → s.fld aonB F.AON_WAKE_EN.EN = 0 →
    Does .wakeTimerExpiry s fun t =>
      t.pwr = { s.pwr with timerOut := true } ∧ t = { (s.atEnd Tm.wakeTimer) with pwr := t.pwr }) ∧
  (∀ (id : Nat) (rest : List Nat) (s : State), s.pwr.exits = id :: rest ∧ s.pwrPhase = 3 → rest ≠ [] →
      (id = 0x01 ∨ (0x20 ≤ id ∧ id ≤ 0x2C) ∨ id = 0x38 ∨ id = 0x3A ∨ id = 0x3B ∨ id = 0x3D ∨ id = 0x3E ∨ id = 0x3F) →
    Does .islandExitStep s fun t =>
      t.live id = true ∧
      t.bit aonB F.AON_CLK_CTRL.ON_FAST = (s.bit aonB F.AON_CLK_CTRL.ON_FAST || (decide (0x20 ≤ id) && decide (id ≤ 0x29))) ∧
      t.pwr = { s.pwr with fast := s.pwr.fast ++ [id], exits := rest, kept := s.pwr.kept.filter (· ≠ id), retried := false, frozen := (t.pwr).frozen } ∧
      (∀ q, timerIsland q ≠ id → SMap.get (fun _ => 0) t.timers q = SMap.get (fun _ => 0) s.timers q) ∧
      t.evt = (s.setLive id true).evt ∧ t = { s with pwr := t.pwr, evt := t.evt, timers := t.timers, regs := t.regs } ∧
      RegsBut [aonB+(if id < 32 then 0x10 else 0x14),aonB+0x11C] s t) ∧
  (∀ (id : Nat) (s : State), s.pwr.exits = [id] ∧ s.pwrPhase = 3 →
      (id = 0x01 ∨ (0x20 ≤ id ∧ id ≤ 0x2C) ∨ id = 0x38 ∨ id = 0x3A ∨ id = 0x3B ∨ id = 0x3D ∨ id = 0x3E ∨ id = 0x3F) →
    Does .islandExitStep s fun t =>
      t.live id = true ∧ t.pwrPhase = 4 ∧ (t.pwrState = if s.pwr.undo then s.pwrState else 0) ∧
      t.bit aonB F.AON_CLK_CTRL.ON_FAST = (s.bit aonB F.AON_CLK_CTRL.ON_FAST || (decide (0x20 ≤ id) && decide (id ≤ 0x29))) ∧
      t.pwr = { s.pwr with fast := s.pwr.fast ++ [id], exits := [], kept := s.pwr.kept.filter (· ≠ id), retried := false, undo := false, frozen := (t.pwr).frozen } ∧
      (∀ q, timerIsland q ≠ id → SMap.get (fun _ => 0) t.timers q = SMap.get (fun _ => 0) s.timers q) ∧
      (t.evt = if s.pwr.undo then ((s.setLive id true)).evt else (((s.setLive id true)).raise Ev.PWR_STATE 0x00 noInst [(1, s.pwrState), (1, 0), (3, s.fld aonB F.AON_WAKE_STAT.CAUSE)]).evt) ∧
      t = { s with pwr := t.pwr, timers := t.timers, evt := t.evt, regs := t.regs } ∧
      RegsBut [aonB+(if id < 32 then 0x10 else 0x14),aonB+0x11C,(aonB+0x104)] s t) ∧
  (∀ (m : Master) (s : State), s.reaches m (aonB + 0x11C) = true →
      s.pwrPhase = 4 ∧ s.bit aonB F.AON_CLK_CTRL.PLL_READY = true ∧ s.boot.xtalLost = false →
    Does (.clkSwitch m) s fun t =>
      t.pwrPhase = 0 ∧ t.bit aonB F.AON_CLK_CTRL.ON_FAST = false ∧ t.bit aonB F.AON_CLK_CTRL.PLL_READY = true ∧
      t.pwr = { s.pwr with fast := [] } ∧
      t.evt = (s.raise Ev.PWR_CLK_SWITCH 0x00 noInst [(4, ((islWords (s.pwr.fast.eraseDups.filter s.live))).1), (4, ((islWords (s.pwr.fast.eraseDups.filter s.live))).2)]).evt ∧
      t = { s with pwr := t.pwr, evt := t.evt, regs := t.regs } ∧ RegsBut [(aonB+0x104),aonB+0x11C] s t) ∧
  (∀ (m : Master) (s : State), s.reaches m (aonB + 0x11C) = true →
      (s.pwrPhase ≠ 4 ∨ s.bit aonB F.AON_CLK_CTRL.PLL_READY = false ∨ s.boot.xtalLost = true) →
    Does (.clkSwitch m) s fun t =>
      t = s) ∧
  (∀ (at_ : Nat) (s : State), s.pwr.timHold = some at_ ∧ s.live 0x04 = true ∧ s.pwrState ≠ 3 → s.servo ≠ 2 ∧ s.servo ≠ 3 →
    Does .p3ExitPllLock s fun t =>
      t.bit aonB F.AON_CLK_CTRL.PLL_READY = (s.bit aonB F.AON_CLK_CTRL.PLL_READY || !s.boot.xtalLost) ∧
      t.tim = { s.tim with rawN := (s.tim.rawN + (if s.bit timB F.TIM_STAT.RUN then 50 * ((s.now - at_) / 50) else 0)) % 2 ^ 64 } ∧
      t.pwr = { s.pwr with timHold := none } ∧ t = { s with tim := t.tim, pwr := t.pwr, regs := t.regs } ∧
      RegsBut [aonB+0x11C] s t) ∧
  (∀ (at_ : Nat) (s : State), s.pwr.timHold = some at_ ∧ s.live 0x04 = true ∧ s.pwrState ≠ 3 →
      (s.servo = 2 ∨ s.servo = 3) ∧ s.hybrid = false →
    Does .p3ExitPllLock s fun t =>
      t.bit aonB F.AON_CLK_CTRL.PLL_READY = (s.bit aonB F.AON_CLK_CTRL.PLL_READY || !s.boot.xtalLost) ∧ t.servo = 4 ∧
      t.tim = { s.tim with rawN := (s.tim.rawN + (if s.bit timB F.TIM_STAT.RUN then 50 * ((s.now - at_) / 50) else 0)) % 2 ^ 64, holdLong := false, holdCause := 1, lastSampleN := none } ∧
      t.pwr = { s.pwr with timHold := none } ∧ t.timerOn Tm.servoSrc = false ∧
      SMap.get (fun _ => 0) t.timers Tm.holdLimit = s.now + max 1 (s.fld timB F.TIM_SRC_CFG.HOLD_LIMIT) * 1000 * msTicks + 1 ∧
      t.ctrs = (s.count (timB + Ctr.TIM.HOLD_ENTRIES)).ctrs ∧ t.freeNext = s.freeNext + 1 ∧
      t = { s with tim := t.tim, pwr := t.pwr, evt := t.evt, ctrs := t.ctrs, freeNext := t.freeNext, timers := t.timers, regs := t.regs } ∧
      TimersBut [Tm.servoSrc,Tm.holdLimit] s t ∧ RegsBut [aonB+0x11C,timB+0x0] s t) ∧
  (∀ (s : State), (s.pwr.timHold = none ∨ s.live 0x04 = false ∨ s.pwrState = 3) →
    Does .p3ExitPllLock s fun t =>
      t = s) ∧
  (∀ (isl : Fin 64) (s : State),
      ((s.pwrPhase = 3 ∧ s.pwr.exits.head? = some isl.val) ∨ (s.pwr.svc.any fun p => (islGroup p.1).contains isl.val && !s.live p.1) = true) →
      s.pwr.retried = false →
    Does (.regulatorReadyTimeout isl) s fun t =>
      t.pwr = { s.pwr with retried := true } ∧ t.ctrs = (s.count (aonB + Ctr.AON.WAKE_RETRIES)).ctrs ∧
      t = { s with pwr := t.pwr, ctrs := t.ctrs }) ∧
  (∀ (isl : Fin 64) (rest : List Nat) (s : State), s.pwrPhase = 3 ∧ s.pwr.exits = isl.val :: rest →
      s.pwr.retried = true ∧ rest ≠ [] →
    Does (.regulatorReadyTimeout isl) s fun t =>
      t.islDark isl.val = true ∧ t.islOut isl.val = false ∧
      t.pwr = { s.pwr with exits := rest, kept := s.pwr.kept.filter (· ≠ isl.val), retried := false } ∧
      t.ctrs = (s.count (aonB + Ctr.AON.WAKE_FAILS)).ctrs ∧
      t.evt = (s.raise Ev.WAKE_FAIL 0x00 noInst [(1, isl.val), (1, 0)]).evt ∧
      t = { s with pwr := t.pwr, ctrs := t.ctrs, evt := t.evt, regs := t.regs } ∧
      RegsBut [aonB+0x124,aonB+0x128,aonB+0x12C,aonB+0x130] s t) ∧
  (∀ (isl : Fin 64) (s : State), ¬(s.pwrPhase = 3 ∧ s.pwr.exits.head? = some isl.val) → s.pwr.svc = none →
    Does (.regulatorReadyTimeout isl) s fun t =>
      t = s) ∧
  (∀ (isl : Fin 64) (s : State),
      ((s.pwrPhase = 3 ∧ s.pwr.exits.head? = some isl.val) ∨ (s.pwr.svc.any fun p => (islGroup p.1).contains isl.val && !s.live p.1) = true) →
      s.pwr.retried = false →
    Does (.oscillatorReadyTimeout isl) s fun t =>
      t.pwr = { s.pwr with retried := true } ∧ t.ctrs = (s.count (aonB + Ctr.AON.WAKE_RETRIES)).ctrs ∧
      t = { s with pwr := t.pwr, ctrs := t.ctrs }) ∧
  (∀ (isl : Fin 64) (rest : List Nat) (s : State), s.pwrPhase = 3 ∧ s.pwr.exits = isl.val :: rest →
      s.pwr.retried = true ∧ rest ≠ [] →
    Does (.oscillatorReadyTimeout isl) s fun t =>
      t.islDark isl.val = true ∧ t.islOut isl.val = false ∧
      t.pwr = { s.pwr with exits := rest, kept := s.pwr.kept.filter (· ≠ isl.val), retried := false } ∧
      t.ctrs = (s.count (aonB + Ctr.AON.WAKE_FAILS)).ctrs ∧
      t.evt = (s.raise Ev.WAKE_FAIL 0x00 noInst [(1, isl.val), (1, 1)]).evt ∧
      t = { s with pwr := t.pwr, ctrs := t.ctrs, evt := t.evt, regs := t.regs } ∧
      RegsBut [aonB+0x124,aonB+0x128,aonB+0x12C,aonB+0x130] s t) ∧
  (∀ (isl : Fin 64) (s : State), ¬(s.pwrPhase = 3 ∧ s.pwr.exits.head? = some isl.val) → s.pwr.svc = none →
    Does (.oscillatorReadyTimeout isl) s fun t =>
      t = s)

/-- A VOLT not below what FREQ (in force and requested) needs is taken, sent to the regulator as the code nearest to it
(which of two equally near is a free value) and is in force, with its event, when SETTLE ends; a FREQ that VOLT allows
is taken and in force when its switch is done; a write out of order changes nothing but DVFS_ORDER, its count and event,
and one while its own change runs is discarded. The onset of a sag shows its sources, counts, reports the first source,
writes the gasp record to the Ledger's ring of 16 or counts it skipped, cuts a fuse program and a flash program short,
and sets dying gasp with its event on each channel that has it not yet; a second source only shows; the clear reports
the duration in ms. A temperature reading shows with the peak since reset; TALERT_N follows ALERT with 2 degrees of
hysteresis and THERMTRIP_N is set at 125 degrees for good. A lost crystal shows PLL_READY 0 and ON_FAST 1, is reported,
inhibits both transmitters, sends the servo to OFF and holds the ports in RETURN without LINK. Nothing else changes. -/
def Obligations.VoltageSagAndTemperature : Prop :=
  (∀ (m : Master) (volt : BitVec 10) (acks : Bool) (s : State), s.reaches m (aonB + 0x140) = true →
      s.bit aonB F.AON_DVFS_STAT.V_BUSY = false →
      ¬ (actVolt volt.toNat) < (max (lowVolt ((s.fld aonB F.AON_DVFS_STAT.FREQ))) (if s.bit aonB F.AON_DVFS_STAT.F_BUSY then lowVolt (s.fld aonB F.AON_DVFS_F.FREQ) else 0)) →
      2 * (((if s.pwr.voutExp < 0 then (actVolt volt.toNat) * 2 ^ (-s.pwr.voutExp).toNat else (actVolt volt.toNat))) % ((if s.pwr.voutExp < 0 then 1000 else 1000 * 2 ^ s.pwr.voutExp.toNat))) ≠ (if s.pwr.voutExp < 0 then 1000 else 1000 * 2 ^ s.pwr.voutExp.toNat) →
    Does (.dvfsVoltWrite m volt acks) s fun t =>
      t.fld aonB F.AON_DVFS_V.VOLT = volt.toNat ∧ t.bit aonB F.AON_DVFS_STAT.V_BUSY = acks ∧
      t.fld aonB F.AON_DVFS_STAT.VOLT = s.fld aonB F.AON_DVFS_STAT.VOLT ∧
      t.out = s.out ++ [.pmbus (0x40 + s.pwr.vrAddr) (if 2 * (((if s.pwr.voutExp < 0 then (actVolt volt.toNat) * 2 ^ (-s.pwr.voutExp).toNat else (actVolt volt.toNat))) % ((if s.pwr.voutExp < 0 then 1000 else 1000 * 2 ^ s.pwr.voutExp.toNat))) < (if s.pwr.voutExp < 0 then 1000 else 1000 * 2 ^ s.pwr.voutExp.toNat) then ((if s.pwr.voutExp < 0 then (actVolt volt.toNat) * 2 ^ (-s.pwr.voutExp).toNat else (actVolt volt.toNat))) / ((if s.pwr.voutExp < 0 then 1000 else 1000 * 2 ^ s.pwr.voutExp.toNat)) else ((if s.pwr.voutExp < 0 then (actVolt volt.toNat) * 2 ^ (-s.pwr.voutExp).toNat else (actVolt volt.toNat))) / ((if s.pwr.voutExp < 0 then 1000 else 1000 * 2 ^ s.pwr.voutExp.toNat)) + 1)] ∧
      (acks = true → SMap.get (fun _ => 0) t.timers Tm.settle = s.now + max 1 (s.fld aonB F.AON_DVFS_CFG.SETTLE) * usTicks + 1 ∧ t.evt = s.evt) ∧
      (acks = false → t.timers = s.timers ∧ t.evt = (s.raise Ev.PWR_DVFS_DONE 0x00 noInst [(2, s.fld aonB F.AON_DVFS_STAT.VOLT), (1, (s.fld aonB F.AON_DVFS_STAT.FREQ))]).evt) ∧
      t = { s with out := t.out, evt := t.evt, timers := t.timers, regs := t.regs } ∧ TimersBut [Tm.settle] s t ∧
      RegsBut [aonB+0x140,(aonB+0x148)] s t) ∧
  (∀ (m : Master) (volt : BitVec 10) (acks : Bool) (s : State), s.reaches m (aonB + 0x140) = true →
      s.bit aonB F.AON_DVFS_STAT.V_BUSY = false →
      ¬ actVolt volt.toNat < (max (lowVolt (s.fld aonB F.AON_DVFS_STAT.FREQ)) (if s.bit aonB F.AON_DVFS_STAT.F_BUSY then lowVolt (s.fld aonB F.AON_DVFS_F.FREQ) else 0)) →
      2 * (((if s.pwr.voutExp < 0 then actVolt volt.toNat * 2 ^ (-s.pwr.voutExp).toNat else actVolt volt.toNat)) % ((if s.pwr.voutExp < 0 then 1000 else 1000 * 2 ^ s.pwr.voutExp.toNat))) = (if s.pwr.voutExp < 0 then 1000 else 1000 * 2 ^ s.pwr.voutExp.toNat) →
      acks = true →
    Does (.dvfsVoltWrite m volt acks) s fun t =>
      t.fld aonB F.AON_DVFS_V.VOLT = volt.toNat ∧ t.bit aonB F.AON_DVFS_STAT.V_BUSY = true ∧
      t.out = s.out ++ [.pmbus (0x40 + s.pwr.vrAddr) (((if s.pwr.voutExp < 0 then actVolt volt.toNat * 2 ^ (-s.pwr.voutExp).toNat else actVolt volt.toNat)) / ((if s.pwr.voutExp < 0 then 1000 else 1000 * 2 ^ s.pwr.voutExp.toNat)) + Config.free s.freeNext % 2)] ∧
      SMap.get (fun _ => 0) t.timers Tm.settle = s.now + max 1 (s.fld aonB F.AON_DVFS_CFG.SETTLE) * usTicks + 1 ∧
      t.freeNext = s.freeNext + 1 ∧
      t = { s with out := t.out, freeNext := t.freeNext, timers := t.timers, regs := t.regs } ∧
      TimersBut [Tm.settle] s t ∧ RegsBut [aonB+0x140,(aonB+0x148)] s t) ∧
  (∀ (m : Master) (volt : BitVec 10) (acks : Bool) (s : State), s.reaches m (aonB + 0x140) = true →
      s.bit aonB F.AON_DVFS_STAT.V_BUSY = false →
      actVolt volt.toNat < (max (lowVolt (s.fld aonB F.AON_DVFS_STAT.FREQ)) (if s.bit aonB F.AON_DVFS_STAT.F_BUSY then lowVolt (s.fld aonB F.AON_DVFS_F.FREQ) else 0)) →
    Does (.dvfsVoltWrite m volt acks) s fun t =>
      t.bit aonB F.AON_DVFS_STAT.DVFS_ORDER = true ∧
      t.fld aonB F.AON_DVFS_STAT.VOLT = s.fld aonB F.AON_DVFS_STAT.VOLT ∧ t.fld aonB F.AON_DVFS_STAT.FREQ = s.fld aonB F.AON_DVFS_STAT.FREQ ∧
      t.ctrs = (s.count (aonB + Ctr.AON.DVFS_ORDER)).ctrs ∧
      t.evt = (s.raise Ev.PWR_DVFS_ORDER 0x00 noInst [(1, 0), (2, volt.toNat), (2, s.fld aonB F.AON_DVFS_STAT.VOLT)]).evt ∧
      t = { s with ctrs := t.ctrs, evt := t.evt, regs := t.regs } ∧ RegsBut [(aonB+0x148)] s t) ∧
  (∀ (m : Master) (volt : BitVec 10) (acks : Bool) (s : State), s.reaches m (aonB + 0x140) = true →
      s.bit aonB F.AON_DVFS_STAT.V_BUSY = true →
    Does (.dvfsVoltWrite m volt acks) s fun t =>
      t = s) ∧
  (∀ (m : Master) (freq : BitVec 2) (s : State), s.reaches m (aonB + 0x144) = true →
      s.bit aonB F.AON_DVFS_STAT.F_BUSY = false →
    Does (.dvfsFreqWrite m freq) s fun t =>
      (lowVolt freq.toNat ≤ (if s.bit aonB F.AON_DVFS_STAT.V_BUSY then min ((s.fld aonB F.AON_DVFS_STAT.VOLT)) (actVolt (s.fld aonB F.AON_DVFS_V.VOLT)) else (s.fld aonB F.AON_DVFS_STAT.VOLT)) → t.fld aonB F.AON_DVFS_F.FREQ = freq.toNat ∧ t.bit aonB F.AON_DVFS_STAT.F_BUSY = true ∧ t.ctrs = s.ctrs ∧ t.evt = s.evt) ∧
      ((if s.bit aonB F.AON_DVFS_STAT.V_BUSY then min ((s.fld aonB F.AON_DVFS_STAT.VOLT)) (actVolt (s.fld aonB F.AON_DVFS_V.VOLT)) else (s.fld aonB F.AON_DVFS_STAT.VOLT)) < lowVolt freq.toNat → t.reg (aonB + 0x144) = s.reg (aonB + 0x144) ∧ t.bit aonB F.AON_DVFS_STAT.DVFS_ORDER = true ∧ t.bit aonB F.AON_DVFS_STAT.F_BUSY = false ∧ t.ctrs = (s.count (aonB + Ctr.AON.DVFS_ORDER)).ctrs ∧ t.evt = (s.raise Ev.PWR_DVFS_ORDER 0x00 noInst [(1, 1), (2, freq.toNat), (2, s.fld aonB F.AON_DVFS_STAT.FREQ)]).evt) ∧
      t.fld aonB F.AON_DVFS_STAT.FREQ = s.fld aonB F.AON_DVFS_STAT.FREQ ∧
      t = { s with ctrs := t.ctrs, evt := t.evt, regs := t.regs } ∧ RegsBut [aonB+0x144,(aonB+0x148)] s t) ∧
  (∀ (m : Master) (freq : BitVec 2) (s : State), s.reaches m (aonB + 0x144) = true →
      s.bit aonB F.AON_DVFS_STAT.F_BUSY = true →
    Does (.dvfsFreqWrite m freq) s fun t =>
      t = s) ∧
  (∀ (s : State), s.timerOn Tm.settle = true →
    Does .dvfsSettleExpiry s fun t =>
      t.fld aonB F.AON_DVFS_STAT.VOLT = (actVolt (s.fld aonB F.AON_DVFS_V.VOLT)) ∧ t.bit aonB F.AON_DVFS_STAT.V_BUSY = false ∧ t.fld aonB F.AON_DVFS_STAT.FREQ = s.fld aonB F.AON_DVFS_STAT.FREQ ∧
      t.evt = (((s.atEnd Tm.settle)).raise Ev.PWR_DVFS_DONE 0x00 noInst [(2, (actVolt (s.fld aonB F.AON_DVFS_V.VOLT))), (1, s.fld aonB F.AON_DVFS_STAT.FREQ)]).evt ∧
      t = { (s.atEnd Tm.settle) with evt := t.evt, regs := t.regs } ∧ RegsBut [(aonB+0x148)] (s.atEnd Tm.settle) t) ∧
  (∀ (s : State), s.bit aonB F.AON_DVFS_STAT.F_BUSY = true →
    Does .dvfsFreqDone s fun t =>
      t.fld aonB F.AON_DVFS_STAT.FREQ = (min 2 (s.fld aonB F.AON_DVFS_F.FREQ)) ∧ t.bit aonB F.AON_DVFS_STAT.F_BUSY = false ∧ t.fld aonB F.AON_DVFS_STAT.VOLT = s.fld aonB F.AON_DVFS_STAT.VOLT ∧
      t.evt = (s.raise Ev.PWR_DVFS_DONE 0x00 noInst [(2, s.fld aonB F.AON_DVFS_STAT.VOLT), (1, (min 2 (s.fld aonB F.AON_DVFS_F.FREQ)))]).evt ∧
      t = { s with evt := t.evt, regs := t.regs } ∧ RegsBut [(aonB+0x148)] s t) ∧
  (∀ (pin mon : Bool) (mv : BitVec 16) (late : Bool) (s : State), s.boot.por = false ∧ (pin || mon) = true →
      s.sagging = true →
    Does (.sagOnset pin mon mv late) s fun t =>
      t.bit aonB F.AON_SAG_STAT.SRC_PIN = (s.bit aonB F.AON_SAG_STAT.SRC_PIN || pin) ∧ t.bit aonB F.AON_SAG_STAT.SRC_3V3 = (s.bit aonB F.AON_SAG_STAT.SRC_3V3 || mon) ∧ t.fld aonB F.AON_SAG_STAT.MV_3V3 = mv.toNat ∧ t.sagging = true ∧
      t = { s with regs := t.regs } ∧ RegsBut [aonB+0x160] s t) ∧
  (∀ (pin mon : Bool) (mv : BitVec 16) (late : Bool) (s : State), s.boot.por = false ∧ (pin || mon) = true →
      s.sagging = false → s.vlt.fuse = none ∧ s.flash.busy = none ∧ s.vlt.jobs.a = none ∧ s.vlt.jobs.b = none →
    Does (.sagOnset pin mon mv late) s fun t =>
      t.sagging = true ∧ t.bit aonB F.AON_SAG_STAT.SRC_PIN = (s.bit aonB F.AON_SAG_STAT.SRC_PIN || pin) ∧ t.bit aonB F.AON_SAG_STAT.SRC_3V3 = (s.bit aonB F.AON_SAG_STAT.SRC_3V3 || mon) ∧ t.fld aonB F.AON_SAG_STAT.MV_3V3 = mv.toNat ∧ t.bit aonB F.AON_SAG_STAT.GASP_WRITTEN = !late ∧
      t.bit (pnB 0) F.PN_US_STAT.GASP = true ∧ t.bit (pnB 1) F.PN_US_STAT.GASP = true ∧
      t.pwr = { s.pwr with sagAt := s.now } ∧
      (t.ledger = if late then s.ledger else { s.ledger with gasps := (s.ledger.gasps ++ [(leBytes 2 (s.fld aonB F.AON_BOOT_STAT.BOOT_COUNT) ++ leBytes 1 (b2n (s.bit aonB F.AON_SAG_STAT.SRC_PIN || pin) + 2 * b2n (s.bit aonB F.AON_SAG_STAT.SRC_3V3 || mon)) ++ leBytes 1 s.pwrState ++ leBytes 4 0 ++ leBytes 8 (timeSec s.timeNow) ++ leBytes 4 (timeNs s.timeNow) ++ leBytes 4 (s.reg (aonB + 0x10)).toNat ++ leBytes 4 (s.reg (aonB + 0x14)).toNat ++ leBytes 36 0)]).drop (s.ledger.gasps.length + 1 - 16) }) ∧
      t.ctrs = (if late then (s.count (aonB + Ctr.AON.SAGS)).count (aonB + Ctr.AON.GASP_SKIPPED) else s.count (aonB + Ctr.AON.SAGS)).ctrs ∧
      ((s.bit (pnB 0) F.PN_US_STAT.GASP = true ∧ s.bit (pnB 1) F.PN_US_STAT.GASP = true) → t.evt = (s.raise Ev.PWR_SAG 0x00 noInst [(1, (b2n (!pin)))]).evt) ∧
      t = { s with pwr := t.pwr, ledger := t.ledger, ctrs := t.ctrs, evt := t.evt, regs := t.regs } ∧
      RegsBut [aonB+0x160,pnB 0+0x104,pnB 1+0x104] s t) ∧
  (∀ (mv : BitVec 16) (s : State), s.sagging = true →
    Does (.sagClear mv) s fun t =>
      t.sagging = false ∧ t.bit aonB F.AON_SAG_STAT.SRC_PIN = false ∧ t.bit aonB F.AON_SAG_STAT.SRC_3V3 = false ∧ t.fld aonB F.AON_SAG_STAT.MV_3V3 = mv.toNat ∧ t.bit aonB F.AON_SAG_STAT.GASP_WRITTEN = s.bit aonB F.AON_SAG_STAT.GASP_WRITTEN ∧
      t.evt = (s.raise Ev.PWR_SAG_CLEAR 0x00 noInst [(2, min 65535 ((s.now - s.pwr.sagAt) / msTicks))]).evt ∧
      t = { s with evt := t.evt, regs := t.regs } ∧ RegsBut [aonB+0x160] s t) ∧
  (∀ (mv : BitVec 16) (s : State), s.sagging = false →
    Does (.sagClear mv) s fun t =>
      t = s) ∧
  (∀ (hot : BitVec 12) (s : State),
    Does (.tempSensorRead hot) s fun t =>
      t.bit aonB F.AON_TEMP.VALID = true ∧ t.sfld aonB F.AON_TEMP.TEMP = hot.toInt ∧
      (t.sfld aonB F.AON_TEMP.PEAK = if s.bit aonB F.AON_TEMP.VALID then max (s.sfld aonB F.AON_TEMP.PEAK) hot.toInt else hot.toInt) ∧
      t.pwr = { s.pwr with talert := decide ((s.sfld aonB F.AON_TEMP_CFG.ALERT) ≤ hot.toInt) || s.pwr.talert && decide ((s.sfld aonB F.AON_TEMP_CFG.ALERT) - 8 < hot.toInt), trip := s.pwr.trip || decide (500 ≤ hot.toInt) } ∧
      t = { s with pwr := t.pwr, regs := t.regs } ∧ RegsBut [aonB+0x164] s t) ∧
  (∀ (ms : BitVec 16) (s : State),
      s.boot.por = false ∧ s.boot.xtalLost = false ∧ s.bit aonB F.AON_BOOT_STAT.XTAL_FB = false ∧ 2 < s.stage →
    Does (.crystalLost ms) s fun t =>
      t.boot = { s.boot with xtalLost := true } ∧
      t.bit aonB F.AON_CLK_CTRL.PLL_READY = false ∧ t.bit aonB F.AON_CLK_CTRL.ON_FAST = true ∧
      t.pf 0 F.PN_US_STAT.INH = Nat.lor (s.pf 0 F.PN_US_STAT.INH) 2 ∧ t.pf 1 F.PN_US_STAT.INH = Nat.lor (s.pf 1 F.PN_US_STAT.INH) 2 ∧
      t.bit timB F.TIM_STAT.XTAL_FB = true ∧ t.servo = 0 ∧ t.timerOn Tm.servoSrc = false ∧ t.timerOn Tm.holdLimit = false ∧
      (List.range 48).all (fun n => decide (s.portState n = 0 → t.portState n = 2 ∧ t.linkUp n = false ∧ t.bit (tqB n) F.TQ_LANE_STAT.SYNC = false)) = true ∧
      OnlyBens s t ∧
      t = { s with freeNext := t.freeNext, tim := t.tim, tally := t.tally, ctrs := t.ctrs, evt := t.evt, pon := t.pon, bc := t.bc, boot := t.boot, out := t.out, timers := t.timers, regs := t.regs } ∧
      TimersBut [Tm.servoSrc,Tm.holdLimit,Tm.ps 0,Tm.ps 1] s t ∧
      RegsBut ([aonB+0x11C,pnB 0+0x104,pnB 1+0x104,timB+0x0,bcB 0+0x44,bcB 1+0x44] ++ (List.range 48).flatMap fun n => [tqB n+0x4,tqB n+0x24]) s t)

/-- A take-out or reset of an island that is not IN, or a return of one that is IN, is refused with cause 3, a take-out
or reset of an island that is not permitted with cause 1 and without its precondition with cause 2. An accepted
take-out, with no drain of the island in progress, leaves it (PN with its composer) OUT and not live with ISL_SVC for
each and BUSY 0; with a drain in progress, and for a return, BUSY stays. A return's test that fails leaves the islands
dark with cause 4; one that passes brings an OUT island back live. A fault of an island that drains or is not live does
nothing; a PMC fault drains nothing, shows in AON_FAULT_LAST, counts, is reported and starts its drain, and TIM goes on;
within WIN ms of resuming the island is dark instead. A drain's end lets the island resume. An entry with good parity
changes nothing here (log entry 175), one with bad parity raises event 0 and the fault, whose cause 0 is the model's
choice (log entry 176). A mismatch in a MACsec lane with no frame to protect only counts and is reported, one in the
central engine also drains VLT. The sweeper ages one entry. -/
def Obligations.IslandServiceAndFaults : Prop :=
  (∀ (m : Master) (isl : BitVec 6) (s : State), s.reaches m (aonB + 0x120) = true →
      (s.bit aonB F.AON_ISL_CMD.BUSY = false) →
      s.live isl.toNat = true ∧ islPermitted isl.toNat = true ∧ s.islReady isl.toNat = true ∧ s.draining.contains isl.toNat = false →
    Does (.islTakeOut m isl) s fun t =>
      (t.fld aonB F.AON_ISL_CMD.OP = (1) ∧ t.fld aonB F.AON_ISL_CMD.ISL = isl.toNat) ∧ t.bit aonB F.AON_ISL_CMD.BUSY = false ∧ t.bit aonB F.AON_ISL_CMD.REFUSED = false ∧ t.fld aonB F.AON_ISL_CMD.CAUSE = 0 ∧
      ((((islGroup isl.toNat).reverse.filter s.live))).all (fun i => !t.live i && t.islOut i && !t.islDark i) = true ∧
      t.pwr = { s.pwr with svc := none, retried := false, frozen := (t.pwr).frozen } ∧
      (∀ q, timerIsland q ∉ (((islGroup isl.toNat).reverse.filter s.live)) → SMap.get (fun _ => 0) t.timers q = SMap.get (fun _ => 0) s.timers q) ∧
      t = { s with pwr := t.pwr, evt := t.evt, timers := t.timers, regs := t.regs } ∧
      RegsBut [(aonB+0x120),aonB+0x10,aonB+0x14,aonB+0x124,aonB+0x128,aonB+0x12C,aonB+0x130] s t) ∧
  (∀ (m : Master) (isl : BitVec 6) (s : State), s.reaches m (aonB + 0x120) = true →
      (s.bit aonB F.AON_ISL_CMD.BUSY = false) →
      s.live isl.toNat = true ∧ islPermitted isl.toNat = true ∧ s.islReady isl.toNat = true ∧ s.draining.contains isl.toNat = true →
    Does (.islTakeOut m isl) s fun t =>
      (t.fld aonB F.AON_ISL_CMD.OP = (1) ∧ t.fld aonB F.AON_ISL_CMD.ISL = isl.toNat) ∧ t.bit aonB F.AON_ISL_CMD.BUSY = true ∧ t.bit aonB F.AON_ISL_CMD.REFUSED = false ∧ t.fld aonB F.AON_ISL_CMD.CAUSE = 0 ∧
      t.pwr = { s.pwr with svc := some (isl.toNat, 1), retried := false } ∧ t = { s with pwr := t.pwr, regs := t.regs } ∧
      RegsBut [(aonB+0x120)] s t) ∧
  (∀ (m : Master) (isl : BitVec 6) (s : State), s.reaches m (aonB + 0x120) = true →
      (s.bit aonB F.AON_ISL_CMD.BUSY = false) →
      (s.live isl.toNat = false ∨ islPermitted isl.toNat = false ∨ s.islReady isl.toNat = false) →
    Does (.islTakeOut m isl) s fun t =>
      (t.fld aonB F.AON_ISL_CMD.OP = (1) ∧ t.fld aonB F.AON_ISL_CMD.ISL = isl.toNat) ∧ t.bit aonB F.AON_ISL_CMD.BUSY = false ∧ t.bit aonB F.AON_ISL_CMD.REFUSED = true ∧ t.fld aonB F.AON_ISL_CMD.CAUSE = (if s.live isl.toNat = false then 3 else if islPermitted isl.toNat = false then 1 else 2) ∧
      t = { s with regs := t.regs } ∧ RegsBut [(aonB+0x120)] s t) ∧
  (∀ (m : Master) (isl : BitVec 6) (s : State), s.reaches m (aonB + 0x120) = true →
      (s.bit aonB F.AON_ISL_CMD.BUSY = false) →
      s.live isl.toNat = true ∧ islPermitted isl.toNat = true ∧ s.islReady isl.toNat = true ∧ s.draining.contains isl.toNat = false →
    Does (.islReset m isl) s fun t =>
      (t.fld aonB F.AON_ISL_CMD.OP = (3) ∧ t.fld aonB F.AON_ISL_CMD.ISL = isl.toNat) ∧ t.bit aonB F.AON_ISL_CMD.BUSY = true ∧ t.bit aonB F.AON_ISL_CMD.REFUSED = false ∧ t.fld aonB F.AON_ISL_CMD.CAUSE = 0 ∧
      ((((islGroup isl.toNat).reverse.filter s.live))).all (fun i => !t.live i && t.islOut i && !t.islDark i) = true ∧
      t.pwr = { s.pwr with svc := some (isl.toNat, 3), retried := false, frozen := (t.pwr).frozen } ∧
      (∀ q, timerIsland q ∉ (((islGroup isl.toNat).reverse.filter s.live)) → SMap.get (fun _ => 0) t.timers q = SMap.get (fun _ => 0) s.timers q) ∧
      t = { s with pwr := t.pwr, evt := t.evt, timers := t.timers, regs := t.regs } ∧
      RegsBut [(aonB+0x120),aonB+0x10,aonB+0x14,aonB+0x124,aonB+0x128,aonB+0x12C,aonB+0x130] s t) ∧
  (∀ (m : Master) (isl : BitVec 6) (s : State), s.reaches m (aonB + 0x120) = true →
      (s.bit aonB F.AON_ISL_CMD.BUSY = false) →
      (s.live isl.toNat = false ∨ islPermitted isl.toNat = false ∨ s.islReady isl.toNat = false) →
    Does (.islReset m isl) s fun t =>
      (t.fld aonB F.AON_ISL_CMD.OP = (3) ∧ t.fld aonB F.AON_ISL_CMD.ISL = isl.toNat) ∧ t.bit aonB F.AON_ISL_CMD.BUSY = false ∧ t.bit aonB F.AON_ISL_CMD.REFUSED = true ∧ t.fld aonB F.AON_ISL_CMD.CAUSE = (if s.live isl.toNat = false then 3 else if islPermitted isl.toNat = false then 1 else 2) ∧
      t = { s with regs := t.regs } ∧ RegsBut [(aonB+0x120)] s t) ∧
  (∀ (m : Master) (isl : BitVec 6) (s : State), s.reaches m (aonB + 0x120) = true →
      (s.bit aonB F.AON_ISL_CMD.BUSY = false) →
      s.live isl.toNat = false ∧ (s.islOut isl.toNat || s.islDark isl.toNat) = true →
    Does (.islReturn m isl) s fun t =>
      (t.fld aonB F.AON_ISL_CMD.OP = (2) ∧ t.fld aonB F.AON_ISL_CMD.ISL = isl.toNat) ∧ t.bit aonB F.AON_ISL_CMD.BUSY = true ∧ t.bit aonB F.AON_ISL_CMD.REFUSED = false ∧ t.fld aonB F.AON_ISL_CMD.CAUSE = 0 ∧
      t.pwr = { s.pwr with svc := some (isl.toNat, 2), retried := false } ∧ t = { s with pwr := t.pwr, regs := t.regs } ∧
      RegsBut [(aonB+0x120)] s t) ∧
  (∀ (m : Master) (isl : BitVec 6) (s : State), s.reaches m (aonB + 0x120) = true →
      (s.bit aonB F.AON_ISL_CMD.BUSY = false) →
      (s.live isl.toNat = true ∨ (s.islOut isl.toNat || s.islDark isl.toNat) = false) →
    Does (.islReturn m isl) s fun t =>
      (t.fld aonB F.AON_ISL_CMD.OP = (2) ∧ t.fld aonB F.AON_ISL_CMD.ISL = isl.toNat) ∧ t.bit aonB F.AON_ISL_CMD.BUSY = false ∧ t.bit aonB F.AON_ISL_CMD.REFUSED = true ∧ t.fld aonB F.AON_ISL_CMD.CAUSE = 3 ∧
      t = { s with regs := t.regs } ∧ RegsBut [(aonB+0x120)] s t) ∧
  (∀ (pass : Bool) (id : Nat) (op : Nat) (s : State), s.pwr.svc = some (id, op) ∧ s.live id = false ∧ id < 64 →
      pass = false →
    Does (.islReturnTestDone pass) s fun t =>
      t.bit aonB F.AON_ISL_CMD.BUSY = false ∧ t.fld aonB F.AON_ISL_CMD.CAUSE = 4 ∧
      ((((islGroup id).filter fun i => s.islOut i || s.islDark i))).all (fun i => t.islDark i && !t.islOut i && !t.live i) = true ∧
      t.pwr = { s.pwr with svc := none, retried := false } ∧ t = { s with pwr := t.pwr, evt := t.evt, regs := t.regs } ∧
      RegsBut [(aonB+0x120),aonB+0x124,aonB+0x128,aonB+0x12C,aonB+0x130] s t) ∧
  (∀ (pass : Bool) (id : Nat) (op : Nat) (s : State),
      s.pwr.svc = some (id, op) ∧ s.live id = false ∧ s.islOut id = true ∧ s.islDark id = false → pass = true →
      (id = 0x25 ∨ id = 0x3B ∨ id = 0x3D ∨ id = 0x3E ∨ id = 0x38) →
    Does (.islReturnTestDone pass) s fun t =>
      t.bit aonB F.AON_ISL_CMD.BUSY = false ∧ t.fld aonB F.AON_ISL_CMD.CAUSE = 0 ∧
      t.islDark id = false ∧ t.islOut id = false ∧ t.live id = true ∧
      t.pwr = { s.pwr with svc := none, retried := false, frozen := (t.pwr).frozen } ∧
      (∀ q, timerIsland q ≠ id → SMap.get (fun _ => 0) t.timers q = SMap.get (fun _ => 0) s.timers q) ∧
      t = { s with pwr := t.pwr, evt := t.evt, timers := t.timers, regs := t.regs } ∧
      RegsBut [(aonB+0x120),aonB+0x10,aonB+0x14,aonB+0x124,aonB+0x128,aonB+0x12C,aonB+0x130] s t) ∧
  (∀ (pass : Bool) (s : State), s.pwr.svc = none →
    Does (.islReturnTestDone pass) s fun t =>
      t = s) ∧
  (∀ (isl : Fin 64) (cause : Fin 4) (bad : Option (BitVec 12 × Nat)) (s : State),
      (s.live isl.val = false ∨ s.draining.contains isl.val = true) →
    Does (.islandFaultDetect isl cause bad) s fun t =>
      t = s) ∧
  (∀ (isl : Fin 64) (cause : Fin 4) (bad : Option (BitVec 12 × Nat)) (s : State),
      s.live isl.val = true ∧ s.draining.contains isl.val = false → (isl = 0x3E ∨ isl = 0x3A) →
      (decide (SMap.get (fun _ => 0) s.pwr.resumed isl.val ≠ 0) && decide (s.now + 1 < SMap.get (fun _ => 0) s.pwr.resumed isl.val + max 1 (s.fld aonB F.AON_FAULT_CFG.WIN) * msTicks)) = false →
    Does (.islandFaultDetect isl cause bad) s fun t =>
      t.draining = s.draining ++ [isl.val] ∧
      t.fld aonB F.AON_FAULT_LAST.ISL = isl.val ∧ t.fld aonB F.AON_FAULT_LAST.CAUSE = cause.val ∧ t.fld aonB F.AON_FAULT_LAST.DISCARDED = 0 ∧
      t.ctrs = (s.count (aonB + Ctr.AON.DRAINS)).ctrs ∧
      t.evt = (s.raise Ev.ISL_FAULT 0x00 noInst [(1, isl.val), (1, cause.val), (2, 0)]).evt ∧
      t = { s with draining := t.draining, ctrs := t.ctrs, evt := t.evt, regs := t.regs } ∧ RegsBut [aonB+0x174] s t) ∧
  (∀ (isl : Fin 64) (cause : Fin 4) (bad : Option (BitVec 12 × Nat)) (s : State),
      s.live isl.val = true ∧ s.draining.contains isl.val = false → (isl = 0x3E ∨ isl = 0x3A) →
      (decide (SMap.get (fun _ => 0) s.pwr.resumed isl.val ≠ 0) && decide (s.now + 1 < SMap.get (fun _ => 0) s.pwr.resumed isl.val + max 1 (s.fld aonB F.AON_FAULT_CFG.WIN) * msTicks)) = true →
    Does (.islandFaultDetect isl cause bad) s fun t =>
      t.draining = s.draining ∧ t.live isl.val = false ∧ t.islDark isl.val = true ∧ t.islOut isl.val = false ∧
      t.fld aonB F.AON_FAULT_LAST.ISL = isl.val ∧ t.fld aonB F.AON_FAULT_LAST.CAUSE = cause.val ∧ t.fld aonB F.AON_FAULT_LAST.DISCARDED = 0 ∧
      t.ctrs = ((s.count (aonB + Ctr.AON.DRAINS)).count (aonB + Ctr.AON.FAULT_LIMITS)).ctrs ∧
      t.pwr = { s.pwr with frozen := (t.pwr).frozen } ∧
      (∀ q, timerIsland q ≠ isl.val → SMap.get (fun _ => 0) t.timers q = SMap.get (fun _ => 0) s.timers q) ∧
      t = { s with pwr := t.pwr, timers := t.timers, ctrs := t.ctrs, evt := t.evt, regs := t.regs } ∧
      RegsBut [aonB+0x174,aonB+0x14,aonB+0x124,aonB+0x128,aonB+0x12C,aonB+0x130] s t) ∧
  (∀ (isl : Fin 64) (cause : Fin 4) (bad : Option (BitVec 12 × Nat)) (s : State),
      s.live isl.val = true ∧ s.draining.contains isl.val = false → isl = 0x04 ∧ s.servo ≠ 2 ∧ s.servo ≠ 3 →
    Does (.islandFaultDetect isl cause bad) s fun t =>
      t.tim.sample = none ∧ t.tim.ptod = none ∧ t.tim.waiting = none ∧ t.tim.todRx = [] ∧ t.tim.todTx = [] ∧ t.tim.ppsLast = none ∧
      t.tim = { s.tim with sample := none, ptod := none, waiting := none, todRx := [], todTx := [], todArms := [], ppsLast := none } ∧
      t.bit timB F.TIM_PTOD_CTRL.BUSY = false ∧ t.fld aonB F.AON_FAULT_LAST.ISL = 4 ∧ t.fld aonB F.AON_FAULT_LAST.CAUSE = cause.val ∧
      t.ctrs = (s.count (aonB + Ctr.AON.DRAINS)).ctrs ∧
      t = { s with tim := t.tim, ctrs := t.ctrs, evt := t.evt, regs := t.regs } ∧
      RegsBut [aonB+0x174,timB+0xc0,timB+0x13c] s t) ∧
  (∀ (isl : Fin 64) (s : State), s.draining.contains isl.val = true →
      isl ≠ 0x2C ∧ isl ≠ 0x3D ∧ isl ≠ 0x3F ∧ (isl.val < 0x30 ∨ 0x37 < isl.val) → s.pwr.svc = none →
    Does (.islandDrainDone isl) s fun t =>
      t.draining = s.draining.filter (· ≠ isl.val) ∧
      t.pwr = { s.pwr with resumed := SMap.set (fun _ => 0) s.pwr.resumed isl.val (s.now + 1) } ∧
      t = { s with draining := t.draining, pwr := t.pwr }) ∧
  (∀ (isl : Fin 64) (s : State), s.draining.contains isl.val = true → (isl = 0x3F ∨ (0x30 ≤ isl.val ∧ isl.val ≤ 0x37)) →
      s.pwr.svc = none →
    Does (.islandDrainDone isl) s fun t =>
      t.draining = s.draining.filter (· ≠ isl.val) ∧ t = { s with draining := t.draining }) ∧
  (∀ (isl : Fin 64) (s : State), s.draining.contains isl.val = true → isl = 0x2C → s.pwr.svc = none →
    Does (.islandDrainDone isl) s fun t =>
      t.draining = s.draining.filter (· ≠ 0x2C) ∧ t.bit vltB F.VLT_STAT.DRAINING = false ∧
      t.pwr = { s.pwr with resumed := SMap.set (fun _ => 0) s.pwr.resumed 0x2C (s.now + 1) } ∧
      t = { s with draining := t.draining, pwr := t.pwr, regs := t.regs } ∧ RegsBut [vltB+0x0] s t) ∧
  (∀ (isl : Fin 64) (s : State), s.draining.contains isl.val = false →
    Does (.islandDrainDone isl) s fun t =>
      t = s) ∧
  (∀ (isl : Fin 64) (index : Byte) (parityOk : Bool) (s : State),
      (parityOk = true ∨ s.live isl.val = false ∨ s.draining.contains isl.val = true) →
    Does (.crossingEntryArrive isl index parityOk) s fun t =>
      t = s) ∧
  (∀ (isl : Fin 64) (index : Byte) (parityOk : Bool) (s : State),
      parityOk = false ∧ s.live isl.val = true ∧ s.draining.contains isl.val = false →
      (isl = 0x3E ∨ isl = 0x3A) ∧ (decide (SMap.get (fun _ => 0) s.pwr.resumed isl.val ≠ 0) && decide (s.now + 1 < SMap.get (fun _ => 0) s.pwr.resumed isl.val + max 1 (s.fld aonB F.AON_FAULT_CFG.WIN) * msTicks)) = false →
    Does (.crossingEntryArrive isl index parityOk) s fun t =>
      t.draining = s.draining ++ [isl.val] ∧
      t.fld aonB F.AON_FAULT_LAST.ISL = isl.val ∧ t.fld aonB F.AON_FAULT_LAST.CAUSE = 0 ∧ t.fld aonB F.AON_FAULT_LAST.DISCARDED = 0 ∧
      t.ctrs = (s.count (aonB + Ctr.AON.DRAINS)).ctrs ∧
      t.evt = (((s.raise Ev.ISL_XING_PARITY isl.val noInst [(1, isl.val), (1, index.toNat)])).raise Ev.ISL_FAULT 0x00 noInst [(1, isl.val), (1, 0), (2, 0)]).evt ∧
      t = { s with draining := t.draining, ctrs := t.ctrs, evt := t.evt, regs := t.regs } ∧ RegsBut [aonB+0x174] s t) ∧
  (∀ (engine : Fin 15) (lane : Fin 4) (s : State), s.live 0x2C = false →
    Does (.cryptCompareMismatch engine lane) s fun t =>
      t = s) ∧
  (∀ (engine : Fin 15) (lane : Fin 4) (s : State), s.live 0x2C = true ∧ 3 ≤ engine.val →
      s.secTxSlot ((4 * (engine.val - 3) + lane.val)) = none →
    Does (.cryptCompareMismatch engine lane) s fun t =>
      t.ctrs = (s.secMismatch ((4 * (engine.val - 3) + lane.val)) 0).ctrs ∧
      t.evt = (s.secMismatch ((4 * (engine.val - 3) + lane.val)) 0).evt ∧ t = { s with ctrs := t.ctrs, evt := t.evt }) ∧
  (∀ (engine : Fin 15) (lane : Fin 4) (slot : Nat) (s : State), s.live 0x2C = true ∧ 3 ≤ engine.val →
      s.secTxSlot ((4 * (engine.val - 3) + lane.val)) = some slot →
    Does (.cryptCompareMismatch engine lane) s fun t =>
      (t.port ((4 * (engine.val - 3) + lane.val))).mac = none ∧ (t.port ((4 * (engine.val - 3) + lane.val))).tries = 0 ∧
      (∀ q, q ≠ (4 * (engine.val - 3) + lane.val) → t.port q = s.port q) ∧
      t.timerOn (Tm.backoff ((4 * (engine.val - 3) + lane.val))) = false ∧
      t.ctrs = (s.secMismatch ((4 * (engine.val - 3) + lane.val)) slot).ctrs ∧
      t.evt = (s.secMismatch ((4 * (engine.val - 3) + lane.val)) slot).evt ∧
      t = { s with tq := t.tq, ctrs := t.ctrs, evt := t.evt, timers := t.timers } ∧
      TimersBut [Tm.backoff ((4 * (engine.val - 3) + lane.val))] s t) ∧
  (∀ (flow : Bool) (i : BitVec 16) (ecc : EccOutcome) (bank : Fin 64) (s : State),
      (s.accepts 0x22 = false ∨ (s.fld tblB (if flow then F.TBL_AGE_CFG.FLOW_PERIOD else F.TBL_AGE_CFG.L2_PERIOD)) = 0 ∨ s.tblSize ((if flow then 2 else 1)) ≤ i.toNat) →
    Does (.ageSweepVisit flow i ecc bank) s fun t =>
      t = s) ∧
  (∀ (flow : Bool) (i : BitVec 16) (ecc : EccOutcome) (bank : Fin 64) (s : State),
      s.accepts 0x22 = true ∧ (s.fld tblB (if flow then F.TBL_AGE_CFG.FLOW_PERIOD else F.TBL_AGE_CFG.L2_PERIOD)) ≠ 0 ∧ i.toNat < s.tblSize ((if flow then 2 else 1)) →
      ecc = .good →
      (entValid ((if flow then 2 else 1)) ((s.ent ((if flow then 2 else 1)) i.toNat)) = false ∨ (flow = true ∧ bits ((s.ent ((if flow then 2 else 1)) i.toNat)) 323 323 = 0) ∨ (flow = false ∧ (s.tbl.hitNow.has s.now (s.entKey ((if flow then 2 else 1)) i.toNat)) = false ∧ bits ((s.ent ((if flow then 2 else 1)) i.toNat)) 66 66 ≠ 1 ∧ bits ((s.ent ((if flow then 2 else 1)) i.toNat)) 65 65 = 1)) →
    Does (.ageSweepVisit flow i ecc bank) s fun t =>
      t = s) ∧
  (∀ (flow : Bool) (i : BitVec 16) (ecc : EccOutcome) (bank : Fin 64) (s : State),
      s.accepts 0x22 = true ∧ (s.fld tblB (if flow then F.TBL_AGE_CFG.FLOW_PERIOD else F.TBL_AGE_CFG.L2_PERIOD)) ≠ 0 ∧ i.toNat < s.tblSize ((if flow then 2 else 1)) →
      ecc = .good →
      entValid ((if flow then 2 else 1)) ((s.ent ((if flow then 2 else 1)) i.toNat)) = true ∧ (flow = true → bits ((s.ent ((if flow then 2 else 1)) i.toNat)) 323 323 ≠ 0) →
      ((s.tbl.hitNow.has s.now (s.entKey ((if flow then 2 else 1)) i.toNat)) = true ∨ bits ((s.ent ((if flow then 2 else 1)) i.toNat)) ((if flow then 324 else 66)) ((if flow then 324 else 66)) = 1) →
    Does (.ageSweepVisit flow i ecc bank) s fun t =>
      t.tbl = { s.tbl with ents := SMap.set (fun _ => 0) s.tbl.ents (s.entKey ((if flow then 2 else 1)) i.toNat) (setBits ((s.ent ((if flow then 2 else 1)) i.toNat)) ((if flow then 324 else 66)) ((if flow then 324 else 66)) (b2n (s.tbl.hitNow.has s.now (s.entKey ((if flow then 2 else 1)) i.toNat)))) } ∧
      t = { s with tbl := t.tbl, regs := t.regs } ∧ RegsBut ((List.range 50).map fun p => tblB+0x204 + 8 * p) s t) ∧
  (∀ (flow : Bool) (i : BitVec 16) (ecc : EccOutcome) (bank : Fin 64) (s : State),
      s.accepts 0x22 = true ∧ (s.fld tblB (if flow then F.TBL_AGE_CFG.FLOW_PERIOD else F.TBL_AGE_CFG.L2_PERIOD)) ≠ 0 ∧ i.toNat < s.tblSize ((if flow then 2 else 1)) →
      ecc = .good →
      flow = false ∧ entValid 1 ((s.ent ((if flow then 2 else 1)) i.toNat)) = true ∧ (s.tbl.hitNow.has s.now (s.entKey ((if flow then 2 else 1)) i.toNat)) = false ∧ bits ((s.ent ((if flow then 2 else 1)) i.toNat)) 66 66 ≠ 1 ∧ bits ((s.ent ((if flow then 2 else 1)) i.toNat)) 65 65 ≠ 1 →
    Does (.ageSweepVisit flow i ecc bank) s fun t =>
      t.tbl = { s.tbl with ents := SMap.set (fun _ => 0) s.tbl.ents (s.entKey 1 i.toNat) (setBits ((s.ent ((if flow then 2 else 1)) i.toNat)) 64 64 0) } ∧
      t.ctrs = (s.count (tblB + Ctr.TBL.L2_AGED)).ctrs ∧ t = { s with tbl := t.tbl, ctrs := t.ctrs, regs := t.regs } ∧
      RegsBut ((List.range 50).map fun p => tblB+0x204 + 8 * p) s t) ∧
  (∀ (flow : Bool) (i : BitVec 16) (ecc : EccOutcome) (bank : Fin 64) (s : State),
      s.accepts 0x22 = true ∧ (s.fld tblB (if flow then F.TBL_AGE_CFG.FLOW_PERIOD else F.TBL_AGE_CFG.L2_PERIOD)) ≠ 0 ∧ i.toNat < s.tblSize ((if flow then 2 else 1)) →
      ecc = .good →
      flow = true ∧ entValid 2 ((s.ent ((if flow then 2 else 1)) i.toNat)) = true ∧ (s.tbl.hitNow.has s.now (s.entKey ((if flow then 2 else 1)) i.toNat)) = false ∧ bits ((s.ent ((if flow then 2 else 1)) i.toNat)) 324 324 ≠ 1 ∧ bits ((s.ent ((if flow then 2 else 1)) i.toNat)) 323 323 ≠ 0 →
    Does (.ageSweepVisit flow i ecc bank) s fun t =>
      t.tbl = { s.tbl with ents := SMap.set (fun _ => 0) s.tbl.ents (s.entKey 2 i.toNat) (setBits ((s.ent ((if flow then 2 else 1)) i.toNat)) 320 320 0) } ∧
      t.ctrs = (s.count (tblB + Ctr.TBL.FLOW_AGED)).ctrs ∧
      t.evt = (s.raise Ev.TBL_FLOW_AGED 0x22 noInst [(2, i.toNat)]).evt ∧
      t = { s with tbl := t.tbl, ctrs := t.ctrs, evt := t.evt }) ∧
  (∀ (flow : Bool) (i : BitVec 16) (ecc : EccOutcome) (bank : Fin 64) (s : State),
      s.accepts 0x22 = true ∧ (s.fld tblB (if flow then F.TBL_AGE_CFG.FLOW_PERIOD else F.TBL_AGE_CFG.L2_PERIOD)) ≠ 0 ∧ i.toNat < s.tblSize ((if flow then 2 else 1)) →
      ecc = .corrected → entValid ((if flow then 2 else 1)) ((s.ent ((if flow then 2 else 1)) i.toNat)) = false →
    Does (.ageSweepVisit flow i ecc bank) s fun t =>
      t.ctrs = (s.count (tblB + Ctr.TBL.ECC_CORR)).ctrs ∧
      t.evt = (s.raiseMs 0 Ev.TBL_ECC_CORR 0x22 noInst [(1, bank.val)]).evt ∧ t = { s with ctrs := t.ctrs, evt := t.evt })

/-- The last rail to enter its range starts 2 ms, whose end samples the straps and starts AON_UP with its limit, unless
TEST_EN is 1; a rail out of range puts all but the Ledger, the fuses, the flash's content and the pins back to reset.
AON_UP counts the boot (not under a sag), shows the preference, and with fuses and Hallmark read right shows the
Hallmark's words and the floor, and goes to XTAL; else to the hold: only AON, CKR and HST live, stage F, a boot record
written unless a sag is in force. A qualified crystal (not one lost) goes to PLL; at 20 ms after POR release the fast
oscillator is used, XTAL_FB set, both transmitters inhibited. PLL ends with the quads' locks, PLL_READY but for the
fallback and HST live, and Assay starts; a relocked PLL clears its wait. Assay lasts 25 ms and shows what failed; none
failed goes to PB_READ of the preferred copy with the Mint OK and reseeded, an island outside those needed is kept dark,
and one of the needed or a test of the ROM, ciphers or Mint holds (the ROM's island is a free value, log entry 186).
Nothing else changes. -/
def Obligations.PowerOnAndTheFirstBootStages : Prop :=
  (∀ (r : Fin 9) (s : State), s.boot.rails.testBit r.val = false →
    Does (.railEntersRange r) s fun t =>
      t.boot = { s.boot with rails := Nat.lor s.boot.rails (2 ^ r.val) } ∧
      (t.timers = if s.boot.por = true ∧ Nat.lor s.boot.rails (2 ^ r.val) = 511 then (s.startTimer Tm.rails (2 * msTicks)).timers else s.timers) ∧
      t = { s with boot := t.boot, timers := t.timers }) ∧
  (∀ (r : Fin 9) (s : State), s.boot.rails.testBit r.val = true →
    Does (.railEntersRange r) s fun t =>
      t = s) ∧
  (∀ (r : Fin 9) (s : State), s.vlt.fuse = none ∧ s.vlt.jobs.a = none ∧ s.vlt.jobs.b = none ∧ s.flash.busy = none →
    Does (.railOutOfRange r) s fun t =>
      t.boot = { BootState.reset with rails := s.boot.rails - (if s.boot.rails.testBit r.val then 2 ^ r.val else 0) } ∧
      t.pending = s.pending ∧ t.now = s.now ∧ t.freeNext = s.freeNext ∧ t.out = s.out ∧ t.fuse = s.fuse ∧ t.ledger = s.ledger ∧
      t.flash = { s.flash with upAt := 0 } ∧ t.tap = .idcode ∧
      t.evt = s.evt.restart ∧ t.pon = ⟨s.pon.a.restart, s.pon.b.restart⟩ ∧ t.pwr = { PwrState.reset with gpio := s.pwr.gpio } ∧
      (∀ q, q ≠ evtB + F.EVT_LGR_WP.WP.off → t.reg q = resetWord q) ∧
      t.reg (evtB + F.EVT_LGR_WP.WP.off) = s.reg (evtB + F.EVT_LGR_WP.WP.off) ∧
      (∀ q, t.ctr q = 0 ∧ SMap.get (fun _ => 0) t.tally q = 0 ∧ SMap.get (fun _ => 0) t.timers q = 0) ∧
      t.tim = State.reset.tim ∧ t.tbl = State.reset.tbl ∧ t.pipes = State.reset.pipes ∧ t.tlr = State.reset.tlr ∧ t.tmg = State.reset.tmg ∧ t.tq = State.reset.tq ∧
      t.bc = State.reset.bc ∧ t.slots = State.reset.slots ∧ t.vlt = State.reset.vlt ∧ t.stw = State.reset.stw ∧ t.dma = State.reset.dma ∧ t.mem = State.reset.mem ∧ t.chk = State.reset.chk) ∧
  (∀ (benA benB : Bool) (vrAddr : BitVec 2) (testEn : Bool) (s : State), s.timerOn Tm.rails = true → testEn = false →
    Does (.porRelease benA benB vrAddr testEn) s fun t =>
      t.boot = { s.boot with por := false, t0 := ((s.atEnd Tm.rails)).now, stageAt := ((s.atEnd Tm.rails)).now } ∧
      t.pwr = { s.pwr with benStrap := ⟨benA, benB⟩, vrAddr := vrAddr.toNat } ∧
      t.stage = 0 ∧ (SMap.get (fun _ => 0) t.timers Tm.stage) = ((s.atEnd Tm.rails)).now + 3 * msTicks + 1 ∧
      t = { (s.atEnd Tm.rails) with boot := t.boot, pwr := t.pwr, timers := t.timers, regs := t.regs } ∧
      TimersBut [Tm.stage] (s.atEnd Tm.rails) t ∧ RegsBut [(aonB+0x20)] (s.atEnd Tm.rails) t) ∧
  (∀ (benA benB : Bool) (vrAddr : BitVec 2) (testEn : Bool) (s : State), s.timerOn Tm.rails = true → testEn = true →
    Does (.porRelease benA benB vrAddr testEn) s fun t =>
      t = s.atEnd Tm.rails) ∧
  (∀ (parityOk : Bool) (hm : List Word) (vout : BitVec 5) (s : State), s.boot.por = false ∧ s.stage = 0 →
      (parityOk = false ∨ hallmarkOk hm = false) →
    Does (.aonUpDone parityOk hm vout) s fun t =>
      (t.fld aonB F.AON_BOOT_STAT.BOOT_COUNT = (min 0xFFFF (s.ledger.bootCount + 1)) ∧ t.ledger.bootCount = (if s.sagging then s.ledger.bootCount else (min 0xFFFF (s.ledger.bootCount + 1))) ∧ t.bit aonB F.AON_BOOT_CTRL.PREFER_B = s.ledger.preferB) ∧
      (t.stage = 0xF ∧ t.live 0x3A = true ∧ (((List.range 64).all fun i => !(decide (2 ≤ i) && decide (i ≠ 0x3A) && t.live i))) = true ∧ t.timerOn Tm.stage = false) ∧
      (t.boot = { s.boot with lastCode := (0xE), image := none, words := [], relock := [], stageAt := t.now }) ∧
      (∀ q, SMap.get (fun _ => 0) t.timers q = if 0x70020 ≤ q ∧ q < 0x71000 ∧ q ≠ Tm.stage ∧ q ≠ Tm.poll ∧ q ≠ Tm.relock then SMap.get (fun _ => 0) s.timers q else 0) ∧
      (t.ledger.boots = if s.sagging then s.ledger.boots else (s.ledger.boots ++ [t.bootRecord]).drop (s.ledger.boots.length + 1 - 1024)) ∧
      t.ledger = { s.ledger with bootCount := t.ledger.bootCount, boots := t.ledger.boots } ∧
      t = { s with boot := t.boot, evt := t.evt, ledger := t.ledger, timers := t.timers, regs := t.regs } ∧
      RegsBut [(aonB+0x20),aonB+0x28,aonB+0x10,aonB+0x14] s t) ∧
  (∀ (parityOk : Bool) (hm : List Word) (vout : BitVec 5) (s : State), s.boot.por = false ∧ s.stage = 0 →
      parityOk = true ∧ hallmarkOk hm = true ∧ hm.length = 128 → s.ledger.marker = false →
    Does (.aonUpDone parityOk hm vout) s fun t =>
      (t.fld aonB F.AON_BOOT_STAT.BOOT_COUNT = (min 0xFFFF (s.ledger.bootCount + 1)) ∧ t.ledger.bootCount = (if s.sagging then s.ledger.bootCount else (min 0xFFFF (s.ledger.bootCount + 1))) ∧ t.bit aonB F.AON_BOOT_CTRL.PREFER_B = s.ledger.preferB) ∧
      t.ledger = { s.ledger with bootCount := t.ledger.bootCount } ∧
      t.stage = 1 ∧ t.boot = { s.boot with stageAt := s.now } ∧ (SMap.get (fun _ => 0) t.timers Tm.stage) = s.now + (s.boot.t0 + 20 * msTicks - s.now) + 1 ∧
      t.pwr = { s.pwr with voutExp := toSigned 5 vout.toNat } ∧
      (List.range 128).all (fun i => t.reg (aonB + 0x400 + 4 * i) == hm.getD i 0) = true ∧
      t.fld aonB F.AON_PB_FLOOR.FLOOR = s.fuse.floor % 2 ^ F.AON_PB_FLOOR.FLOOR.width ∧ t.fld aonB F.AON_LIFECYCLE.STATE = s.fuse.life % 2 ^ F.AON_LIFECYCLE.STATE.width ∧
      t = { s with boot := t.boot, ledger := t.ledger, pwr := t.pwr, timers := t.timers, regs := t.regs } ∧
      TimersBut [Tm.stage] s t ∧
      RegsBut ([(aonB+0x20),aonB+0x28,aonB+0x38,aonB+0x40,aonB+0x44,pnB 0+0x114,pnB 1+0x114,stwB+0x14,pnB 0+0x158,pnB 1+0x158] ++ (List.range 128).map fun i => aonB+0x400+4*i) s t) ∧
  (∀ (parityOk : Bool) (hm : List Word) (vout : BitVec 5) (s : State), (s.boot.por = true ∨ s.stage ≠ 0) →
    Does (.aonUpDone parityOk hm vout) s fun t =>
      t = s) ∧
  (∀ (s : State), s.stage = 1 ∧ s.boot.xtalLost = false →
    Does .xtalQualified s fun t =>
      t.stage = 2 ∧ (SMap.get (fun _ => 0) t.timers Tm.stage) = s.now + 5 * msTicks + 1 ∧ t.boot = { s.boot with stageAt := s.now } ∧
      t = { s with boot := t.boot, timers := t.timers, regs := t.regs } ∧ TimersBut [Tm.stage] s t ∧
      RegsBut [(aonB+0x20)] s t) ∧
  (∀ (s : State), (s.stage ≠ 1 ∨ s.boot.xtalLost = true) →
    Does .xtalQualified s fun t =>
      t = s) ∧
  (∀ (s : State), s.stage = 1 →
    Does .xtalTimeout s fun t =>
      t.stage = 2 ∧ (SMap.get (fun _ => 0) t.timers Tm.stage) = ((s.elapseTo (s.boot.t0 + 20 * msTicks))).now + 5 * msTicks + 1 ∧ t.boot = { s.boot with stageAt := ((s.elapseTo (s.boot.t0 + 20 * msTicks))).now } ∧
      t.bit aonB F.AON_BOOT_STAT.XTAL_FB = true ∧ t.bit aonB F.AON_CLK_CTRL.ON_FAST = true ∧ t.bit timB F.TIM_STAT.XTAL_FB = true ∧
      t.pf 0 F.PN_US_STAT.INH = Nat.lor (s.pf 0 F.PN_US_STAT.INH) 2 ∧ t.pf 1 F.PN_US_STAT.INH = Nat.lor (s.pf 1 F.PN_US_STAT.INH) 2 ∧
      OnlyBens ((s.elapseTo (s.boot.t0 + 20 * msTicks))) t ∧
      t = { (s.elapseTo (s.boot.t0 + 20 * msTicks)) with out := t.out, freeNext := t.freeNext, boot := t.boot, pon := t.pon, bc := t.bc, tally := t.tally, ctrs := t.ctrs, evt := t.evt, timers := t.timers, regs := t.regs } ∧
      TimersBut [Tm.stage] (s.elapseTo (s.boot.t0 + 20 * msTicks)) t ∧
      RegsBut [(aonB+0x20),aonB+0x11c,pnB 0+0x104,pnB 1+0x104,timB+0x0,bcB 0+0x44,bcB 1+0x44] (s.elapseTo (s.boot.t0 + 20 * msTicks)) t) ∧
  (∀ (s : State), s.stage ≠ 1 →
    Does .xtalTimeout s fun t =>
      t = s) ∧
  (∀ (s : State), s.stage = 2 →
    Does .pllStageDone s fun t =>
      t.stage = 3 ∧ t.timerOn Tm.stage = false ∧ t.boot = { s.boot with stageAt := s.now } ∧
      t.bit aonB F.AON_CLK_CTRL.PLL_READY = !s.bit aonB F.AON_BOOT_STAT.XTAL_FB ∧
      (s.bit aonB (islBit 0x12C 0x3A) = false → t.live 0x3A = true) ∧
      (List.range 12).all (fun q => t.bit (quadB q) F.TQ_QUAD_PLL.PLL0_LOCK == (decide (s.fld (quadB q) F.TQ_QUAD_PLL.PLL0_SET ≠ 0) && !s.bootDark (0x10 + q)) && t.bit (quadB q) F.TQ_QUAD_PLL.PLL1_LOCK == (decide (s.fld (quadB q) F.TQ_QUAD_PLL.PLL1_SET ≠ 0) && !s.bootDark (0x10 + q))) = true ∧
      t = { s with boot := t.boot, evt := t.evt, timers := t.timers, regs := t.regs } ∧ TimersBut [Tm.stage] s t ∧
      RegsBut ([(aonB+0x20),aonB+0x11c,aonB+0x14] ++ (List.range 12).map fun q => quadB q+0x8000) s t) ∧
  (∀ (s : State), s.stage ≠ 2 →
    Does .pllStageDone s fun t =>
      t = s) ∧
  (∀ (pll : Fin 27) (s : State), s.boot.relock.contains pll.val = false →
    Does (.pllRelockDone pll) s fun t =>
      t = s) ∧
  (∀ (pll : Fin 27) (s : State), s.boot.relock.contains pll.val = true → 24 ≤ pll.val →
    Does (.pllRelockDone pll) s fun t =>
      t.boot = { s.boot with relock := (s.boot.relock.erase pll.val) } ∧
      t.bit aonB F.AON_CLK_CTRL.PLL_READY = (s.bit aonB F.AON_CLK_CTRL.PLL_READY || decide (((s.boot.relock.erase pll.val) = [] ∧ s.bit aonB F.AON_BOOT_STAT.XTAL_FB = false ∧ s.boot.xtalLost = false ∧ s.pwr.timHold = none))) ∧
      ((s.boot.relock.erase pll.val) = [] → t.timerOn Tm.relock = false) ∧ ((s.boot.relock.erase pll.val) ≠ [] → t.timers = s.timers) ∧
      t = { s with boot := t.boot, timers := t.timers, regs := t.regs } ∧ TimersBut [Tm.relock] s t ∧
      RegsBut [aonB+0x11c] s t) ∧
  (∀ (pll : Fin 27) (s : State), s.boot.relock.contains pll.val = true →
      pll.val < 24 ∧ s.bit (quadB ((pll.val / 2))) ((if pll.val % 2 = 0 then F.TQ_QUAD_PLL.PLL0_LOCK else F.TQ_QUAD_PLL.PLL1_LOCK)) = false →
    Does (.pllRelockDone pll) s fun t =>
      t.boot = { s.boot with relock := (s.boot.relock.erase pll.val) } ∧ t.bit (quadB ((pll.val / 2))) ((if pll.val % 2 = 0 then F.TQ_QUAD_PLL.PLL0_LOCK else F.TQ_QUAD_PLL.PLL1_LOCK)) = true ∧
      t.bit aonB F.AON_CLK_CTRL.PLL_READY = (s.bit aonB F.AON_CLK_CTRL.PLL_READY || decide (((s.boot.relock.erase pll.val) = [] ∧ s.bit aonB F.AON_BOOT_STAT.XTAL_FB = false ∧ s.boot.xtalLost = false ∧ s.pwr.timHold = none))) ∧
      ((s.boot.relock.erase pll.val) = [] → t.timerOn Tm.relock = false) ∧ ((s.boot.relock.erase pll.val) ≠ [] → t.timers = s.timers) ∧
      t.evt = (s.raise (Ev.TQ_PLL + (pll.val / 2)) (0x10 + (pll.val / 2)) noInst [(1, pll.val % 2), (1, 1), (1, 0)]).evt ∧
      t = { s with boot := t.boot, evt := t.evt, timers := t.timers, regs := t.regs } ∧ TimersBut [Tm.relock] s t ∧
      RegsBut [aonB+0x11c,quadB ((pll.val / 2))+0x8000] s t) ∧
  (∀ (rom kat mint : Bool) (sram : List (Fin 64)) (s : State), s.stage = 3 →
      rom = false ∧ kat = false ∧ mint = false ∧ sram.all (fun i => !([0x00, 0x01, 0x2C, 0x3F, 0x3A] : List Nat).contains i.val) = true →
    Does (.assayDone rom kat mint sram) s fun t =>
      t.stage = 4 ∧ (SMap.get (fun _ => 0) t.timers Tm.stage) = ((s.elapseTo (s.boot.stageAt + 25 * msTicks))).now + 80 * msTicks + 1 ∧ t.boot = { s.boot with copy := (s.fld aonB F.AON_BOOT_CTRL.PREFER_B), image := none, words := [], stageAt := ((s.elapseTo (s.boot.stageAt + 25 * msTicks))).now } ∧
      t.bit aonB F.AON_BOOT_FAIL.ASSAY_ROM = false ∧ t.bit aonB F.AON_BOOT_FAIL.ASSAY_KAT = false ∧ t.bit aonB F.AON_BOOT_FAIL.ASSAY_MINT = false ∧ t.bit aonB F.AON_BOOT_FAIL.ASSAY_SRAM = !sram.isEmpty ∧
      t.fld aonB F.AON_BOOT_FAIL.ASSAY_ISL = (match sram with | i :: _ => i.val | [] => s.fld aonB F.AON_BOOT_FAIL.ASSAY_ISL) ∧
      sram.all (fun i => t.islDark i.val) = true ∧
      t.mintOk = true ∧ SMap.get (fun _ => 0) t.timers Tm.mint = ((s.elapseTo (s.boot.stageAt + 25 * msTicks))).now + 100 * msTicks + 1 ∧
      t.flash = (if s.flash.upAt = 0 then { s.flash with upAt := ((s.elapseTo (s.boot.stageAt + 25 * msTicks))).now + 1 } else s.flash) ∧
      t.vlt = { s.vlt with drbg := 0, maskAt := t.vlt.maskAt, masks := t.vlt.masks } ∧
      (sram = [] → t.evt = ((s.elapseTo (s.boot.stageAt + 25 * msTicks))).evt) ∧
      t = { (s.elapseTo (s.boot.stageAt + 25 * msTicks)) with vlt := t.vlt, flash := t.flash, boot := t.boot, evt := t.evt, timers := t.timers, ctrs := t.ctrs, regs := t.regs } ∧
      TimersBut [Tm.stage,Tm.mint] (s.elapseTo (s.boot.stageAt + 25 * msTicks)) t ∧
      CtrsBut [vltB+Ctr.VLT.MINT_RESEEDS] (s.elapseTo (s.boot.stageAt + 25 * msTicks)) t ∧
      RegsBut [(aonB+0x20),aonB+0x24,aonB+0x12C,aonB+0x130,vltB+0x0] (s.elapseTo (s.boot.stageAt + 25 * msTicks)) t) ∧
  (∀ (rom kat mint : Bool) (sram : List (Fin 64)) (s : State), s.stage = 3 →
      (rom = true ∨ kat = true ∨ mint = true ∨ sram.any (fun i => [0x00, 0x01, 0x2C, 0x3F, 0x3A].contains i.val) = true) →
    Does (.assayDone rom kat mint sram) s fun t =>
      t.bit aonB F.AON_BOOT_FAIL.ASSAY_ROM = rom ∧ t.bit aonB F.AON_BOOT_FAIL.ASSAY_KAT = kat ∧ t.bit aonB F.AON_BOOT_FAIL.ASSAY_MINT = mint ∧ t.bit aonB F.AON_BOOT_FAIL.ASSAY_SRAM = !sram.isEmpty ∧
      (t.fld aonB F.AON_BOOT_FAIL.ASSAY_ISL = if rom then Config.free ((s.elapseTo (s.boot.stageAt + 25 * msTicks))).freeNext % 64 else if kat then 0x2C else match sram with | i :: _ => i.val | [] => 0x2C) ∧
      t.freeNext = ((s.elapseTo (s.boot.stageAt + 25 * msTicks))).freeNext + b2n rom ∧
      (t.stage = 0xF ∧ t.live 0x3A = true ∧ (((List.range 64).all fun i => !(decide (2 ≤ i) && decide (i ≠ 0x3A) && t.live i))) = true ∧ t.timerOn Tm.stage = false) ∧
      (t.boot = { s.boot with lastCode := (0xE), image := none, words := [], relock := [], stageAt := t.now }) ∧
      (t.ledger.boots = if s.sagging then s.ledger.boots else (s.ledger.boots ++ [t.bootRecord]).drop (s.ledger.boots.length + 1 - 1024)) ∧
      (∀ q, SMap.get (fun _ => 0) t.timers q = if 0x70020 ≤ q ∧ q < 0x71000 ∧ q ≠ Tm.stage ∧ q ≠ Tm.poll ∧ q ≠ Tm.relock then SMap.get (fun _ => 0) ((s.elapseTo (s.boot.stageAt + 25 * msTicks))).timers q else 0) ∧
      t.ledger = { s.ledger with boots := t.ledger.boots } ∧
      t = { (s.elapseTo (s.boot.stageAt + 25 * msTicks)) with freeNext := t.freeNext, boot := t.boot, evt := t.evt, ledger := t.ledger, timers := t.timers, regs := t.regs } ∧
      RegsBut [(aonB+0x20),aonB+0x24,aonB+0x10,aonB+0x14] (s.elapseTo (s.boot.stageAt + 25 * msTicks)) t) ∧
  (∀ (rom kat mint : Bool) (sram : List (Fin 64)) (s : State), s.stage ≠ 3 →
    Does (.assayDone rom kat mint sram) s fun t =>
      t = s)

/-- A copy the flash does not answer for, or whose read takes longer than 5 ms for each MiB begun of what is read, fails
with code B; else its header or its first LENGTH bytes are kept and PB_VERIFY starts. After 4 ms a copy whose checks of
R64 give a code fails with it; one that verifies is in use: COPY, VERSION and VERIFY_MS are shown, its hash and key slot
kept, the DRAM channels' RESET_N goes high, and DRAM_TRAIN starts with its PRE records and TIM, the PON receivers and
the DRAM islands live. A failing copy's code is shown and reported, and the other copy is read, or where it was tried
the device holds. With no relock pending a record is applied at a time: a WRITE to a register of a kind named puts its
word there by access code, a POLL that matches goes on and one that does not starts its time, whose end (or a relock's)
fails the copy with code C after every island but AON and CKR is reset. DRAM_TRAIN ends with its records done, no
channel still training, and APPLY starts with the MAIN records; APPLY ends with the other sections loaded and the
Passbook sealed, and the firmware copy that matches is loaded. Nothing else changes but what the clauses name. -/
def Obligations.PassbookCopiesAreReadAndApplied : Prop :=
  (∀ (image : Option (List Byte)) (s : State), s.stage = 4 → image = none →
      s.boot.tried.testBit ((1 - s.boot.copy)) = false ∧ (s.boot.copy) < 2 →
    Does (.pbReadDone image) s fun t =>
      (t.stage = 4 ∧ t.fld aonB ((if (s.boot.copy) = 0 then F.AON_BOOT_FAIL.FAIL_A else F.AON_BOOT_FAIL.FAIL_B)) = (0xB) ∧ t.fld aonB F.AON_PB_VERSION.VERSION = 0 ∧ t.boot = { s.boot with copy := (1 - s.boot.copy), tried := Nat.lor s.boot.tried (2 ^ (s.boot.copy)), lastCode := (0xB), pbHash := 0, words := [], relock := [], image := none, stageAt := t.now }) ∧
      (SMap.get (fun _ => 0) t.timers Tm.stage) = (((s.elapseTo (s.flash.upAt - 1 + 100 * usTicks)).flashSettle)).now + 80 * msTicks + 1 ∧
      t.flash = (if s.flash.upAt = 0 then { (((s.elapseTo (s.flash.upAt - 1 + 100 * usTicks)).flashSettle)).flash with upAt := (((s.elapseTo (s.flash.upAt - 1 + 100 * usTicks)).flashSettle)).now + 1 } else (((s.elapseTo (s.flash.upAt - 1 + 100 * usTicks)).flashSettle)).flash) ∧
      t.evt = ((((s.elapseTo (s.flash.upAt - 1 + 100 * usTicks)).flashSettle)).raise Ev.BOOT_COPY_FAIL 0x00 noInst [(1, (s.boot.copy)), (1, (0xB))]).evt ∧
      t = { ((s.elapseTo (s.flash.upAt - 1 + 100 * usTicks)).flashSettle) with boot := t.boot, flash := t.flash, evt := t.evt, timers := t.timers, regs := t.regs } ∧
      TimersBut [Tm.stage] ((s.elapseTo (s.flash.upAt - 1 + 100 * usTicks)).flashSettle) t ∧
      RegsBut [(aonB+0x20),aonB+0x24,aonB+0x34] ((s.elapseTo (s.flash.upAt - 1 + 100 * usTicks)).flashSettle) t) ∧
  (∀ (image : Option (List Byte)) (s : State), s.stage = 4 → image = none →
      s.boot.tried.testBit ((1 - s.boot.copy)) = true ∧ (s.boot.copy) < 2 →
    Does (.pbReadDone image) s fun t =>
      t.fld aonB ((if (s.boot.copy) = 0 then F.AON_BOOT_FAIL.FAIL_A else F.AON_BOOT_FAIL.FAIL_B)) = (0xB) ∧ t.fld aonB F.AON_PB_VERSION.VERSION = 0 ∧
      (t.stage = 0xF ∧ t.live 0x3A = true ∧ (((List.range 64).all fun i => !(decide (2 ≤ i) && decide (i ≠ 0x3A) && t.live i))) = true ∧ t.timerOn Tm.stage = false) ∧
      t.boot = { s.boot with tried := Nat.lor s.boot.tried (2 ^ (s.boot.copy)), lastCode := (0xB), pbHash := 0, image := none, words := [], relock := [], stageAt := t.now } ∧
      (t.ledger.boots = if s.sagging then s.ledger.boots else (s.ledger.boots ++ [t.bootRecord]).drop (s.ledger.boots.length + 1 - 1024)) ∧
      t.ledger = { s.ledger with boots := t.ledger.boots } ∧
      t = { ((s.elapseTo (s.flash.upAt - 1 + 100 * usTicks)).flashSettle) with boot := t.boot, evt := t.evt, ledger := t.ledger, timers := t.timers, regs := t.regs } ∧
      RegsBut [(aonB+0x20),aonB+0x24,aonB+0x34,aonB+0x10,aonB+0x14] ((s.elapseTo (s.flash.upAt - 1 + 100 * usTicks)).flashSettle) t) ∧
  (∀ (image : Option (List Byte)) (bs : List Byte) (s : State), s.stage = 4 →
      image.isSome = true ∧ bs = (((s.elapseTo (s.flash.upAt - 1 + 100 * usTicks)).flashSettle)).flashRead (pbBase (s.boot.copy)) (image.getD []) →
      (((s.elapseTo (s.flash.upAt - 1 + 100 * usTicks)).flashSettle)).now ≤ s.boot.stageAt + min 80 (5 * (((if pbHdrOk bs = false ∨ pbLen bs < 64 + 16 * pbCount bs + 256 ∨ 2 ^ 24 < pbLen bs then 64 else pbLen bs) + 2 ^ 20 - 1) / 2 ^ 20)) * msTicks →
    Does (.pbReadDone image) s fun t =>
      t.stage = 5 ∧ t.timerOn Tm.stage = false ∧
      t.boot = { s.boot with image := some (bs.take (if pbHdrOk bs = false ∨ pbLen bs < 64 + 16 * pbCount bs + 256 ∨ 2 ^ 24 < pbLen bs then 64 else pbLen bs)), stageAt := (((s.elapseTo (s.flash.upAt - 1 + 100 * usTicks)).flashSettle)).now } ∧
      t = { ((s.elapseTo (s.flash.upAt - 1 + 100 * usTicks)).flashSettle) with boot := t.boot, timers := t.timers, regs := t.regs } ∧
      TimersBut [Tm.stage] ((s.elapseTo (s.flash.upAt - 1 + 100 * usTicks)).flashSettle) t ∧
      RegsBut [(aonB+0x20)] ((s.elapseTo (s.flash.upAt - 1 + 100 * usTicks)).flashSettle) t) ∧
  (∀ (image : Option (List Byte)) (s : State), s.stage ≠ 4 →
    Does (.pbReadDone image) s fun t =>
      t = s) ∧
  (∀ (c : Nat) (s : State), s.stage = 5 → c = s.pbCode s.pbImage ∧ c ≠ 0 →
      s.boot.tried.testBit ((1 - s.boot.copy)) = false ∧ (s.boot.copy) < 2 →
    Does .pbVerifyDone s fun t =>
      (t.stage = 4 ∧ t.fld aonB ((if (s.boot.copy) = 0 then F.AON_BOOT_FAIL.FAIL_A else F.AON_BOOT_FAIL.FAIL_B)) = (c) ∧ t.fld aonB F.AON_PB_VERSION.VERSION = 0 ∧ t.boot = { s.boot with copy := (1 - s.boot.copy), tried := Nat.lor s.boot.tried (2 ^ (s.boot.copy)), lastCode := (c), pbHash := 0, words := [], relock := [], image := none, stageAt := t.now }) ∧
      (SMap.get (fun _ => 0) t.timers Tm.stage) = ((s.elapseTo (s.boot.stageAt + 4 * msTicks))).now + 80 * msTicks + 1 ∧
      t.flash = (if s.flash.upAt = 0 then { s.flash with upAt := ((s.elapseTo (s.boot.stageAt + 4 * msTicks))).now + 1 } else s.flash) ∧
      t.evt = (((s.elapseTo (s.boot.stageAt + 4 * msTicks))).raise Ev.BOOT_COPY_FAIL 0x00 noInst [(1, (s.boot.copy)), (1, c)]).evt ∧
      t = { (s.elapseTo (s.boot.stageAt + 4 * msTicks)) with boot := t.boot, flash := t.flash, evt := t.evt, timers := t.timers, regs := t.regs } ∧
      TimersBut [Tm.stage] (s.elapseTo (s.boot.stageAt + 4 * msTicks)) t ∧
      RegsBut [(aonB+0x20),aonB+0x24,aonB+0x34] (s.elapseTo (s.boot.stageAt + 4 * msTicks)) t) ∧
  (∀ (bs : List Byte) (s : State), s.stage = 5 → bs = s.pbImage → s.pbCode bs = 0 →
    Does .pbVerifyDone s fun t =>
      t.stage = 6 ∧ (SMap.get (fun _ => 0) t.timers Tm.stage) = ((s.elapseTo (s.boot.stageAt + 4 * msTicks))).now + 150 * msTicks + 1 ∧
      t.fld aonB F.AON_BOOT_STAT.COPY = (s.boot.copy) % 2 ∧ t.fld aonB F.AON_PB_VERSION.VERSION = imgLe bs 0x10 4 ∧ t.fld aonB F.AON_BOOT_TIME.VERIFY_MS = ((s.elapseTo (s.boot.stageAt + 4 * msTicks))).bootMs ∧
      t.boot = { s.boot with pbHash := sha384 (bytesAt bs 0 (pbLen bs - 256)), keySlot := imgLe bs 0x17 1, words := pbWords bs 1, stageAt := ((s.elapseTo (s.boot.stageAt + 4 * msTicks))).now } ∧
      (([0x04, 0x08, 0x09] ++ (List.range 9).map (0x30 + ·))).all (fun i => t.live i || s.bootDark i) = true ∧
      (s.bit aonB F.AON_BOOT_STAT.XTAL_FB = false → ((List.range 8).all fun c => (t.mc c).resetN && decide (t.mc c = { s.mc c with resetN := true })) = true) ∧
      t.mem = { s.mem with chans := t.mem.chans } ∧
      t = { (s.elapseTo (s.boot.stageAt + 4 * msTicks)) with boot := t.boot, mem := t.mem, tim := t.tim, evt := t.evt, timers := t.timers, regs := t.regs } ∧
      TimersBut [Tm.stage] (s.elapseTo (s.boot.stageAt + 4 * msTicks)) t ∧
      RegsBut [(aonB+0x20),aonB+0x34,aonB+0x2c,aonB+0x10,aonB+0x14] (s.elapseTo (s.boot.stageAt + 4 * msTicks)) t) ∧
  (∀ (s : State), s.stage ≠ 5 →
    Does .pbVerifyDone s fun t =>
      t = s) ∧
  (∀ (s : State), ((s.stage ≠ 6 ∧ s.stage ≠ 7) ∨ s.boot.relock ≠ [] ∨ nextRec s.boot.words = none) →
    Does .pbRecordApply s fun t =>
      t = s) ∧
  (∀ (a : Nat) (w : Nat) (rest : List Word) (s : State), (s.stage = 6 ∨ s.stage = 7) ∧ s.boot.relock = [] →
      nextRec s.boot.words = some (.write a w, rest) →
      s.bootDark (islandOf a) = false ∧ s.sealed = false ∧ (findReg a).isSome = true →
      ((islandOf a = 0x3C ∧ 0x1000 ≤ offsetOf a) ∨ (islandOf a = 0x22 ∧ 0x100 ≤ offsetOf a ∧ offsetOf a < 0x110)) →
    Does .pbRecordApply s fun t =>
      t.boot = { s.boot with words := rest } ∧
      t.reg a = BitVec.ofNat 32 ((((findReg a).getD ⟨0, [], []⟩)).fields.foldl (fun x f => storeField false x w f) (s.reg a).toNat) ∧
      t = { s with boot := t.boot, regs := t.regs } ∧ RegsBut [a] s t) ∧
  (∀ (a : Nat) (w : Nat) (rest : List Word) (s : State), (s.stage = 6 ∨ s.stage = 7) ∧ s.boot.relock = [] →
      nextRec s.boot.words = some (.write a w, rest) → s.bootDark (islandOf a) = true →
    Does .pbRecordApply s fun t =>
      t = { s with boot := { s.boot with words := rest } }) ∧
  (∀ (a : Nat) (msk : Nat) (e : Nat) (us : Nat) (rest : List Word) (s : State),
      (s.stage = 6 ∨ s.stage = 7) ∧ s.boot.relock = [] → nextRec s.boot.words = some (.poll a msk e us, rest) →
      s.bootDark (islandOf a) = false ∧ isHeader a = true →
    Does .pbRecordApply s fun t =>
      (Nat.land (s.reg a).toNat msk = e → t.boot = { s.boot with words := rest } ∧ t.timerOn Tm.poll = false) ∧
      (Nat.land (s.reg a).toNat msk ≠ e → t.boot = s.boot ∧ t.timers = if s.timerOn Tm.poll then s.timers else (s.startTimer Tm.poll (us * usTicks)).timers) ∧
      t = { s with boot := t.boot, timers := t.timers } ∧ TimersBut [Tm.poll] s t) ∧
  (∀ (s : State), (s.timerOn Tm.relock = true ∨ s.timerOn Tm.poll = true) →
      s.boot.tried.testBit ((1 - s.boot.copy)) = false ∧ (s.boot.copy) < 2 →
    Does .pollRecordTimeout s fun t =>
      (t.stage = 4 ∧ t.fld aonB ((if (s.boot.copy) = 0 then F.AON_BOOT_FAIL.FAIL_A else F.AON_BOOT_FAIL.FAIL_B)) = (0xC) ∧ t.fld aonB F.AON_PB_VERSION.VERSION = 0 ∧ t.boot = { s.boot with copy := (1 - s.boot.copy), tried := Nat.lor s.boot.tried (2 ^ (s.boot.copy)), lastCode := (0xC), pbHash := 0, words := [], relock := [], image := none, stageAt := t.now }) ∧
      (SMap.get (fun _ => 0) t.timers Tm.stage) = ((s.atEnd (if s.timerOn Tm.relock then Tm.relock else Tm.poll))).now + 80 * msTicks + 1 ∧
      t.timerOn Tm.poll = false ∧ t.timerOn Tm.relock = false ∧
      (((List.range 64).all fun i => !(decide (2 ≤ i) && decide (i ≠ 0x3A) && t.live i))) = true ∧ t.mintOk = s.mintOk ∧
      t.fuse = s.fuse ∧ t.ledger = s.ledger ∧ t.pwr = s.pwr ∧ t.ctrs = ((s.atEnd (if s.timerOn Tm.relock then Tm.relock else Tm.poll))).ctrs ∧ t.tally = s.tally ∧ t.pending = s.pending ∧ t.now = ((s.atEnd (if s.timerOn Tm.relock then Tm.relock else Tm.poll))).now ∧ t.tap = s.tap ∧ t.flash.cells = s.flash.cells ∧
      t.tbl = State.reset.tbl ∧ t.tlr = State.reset.tlr ∧ t.tmg = State.reset.tmg ∧ t.slots = State.reset.slots ∧ t.dma = State.reset.dma ∧ t.mem = State.reset.mem ∧ t.chk = State.reset.chk ∧ t.stw = State.reset.stw) ∧
  (∀ (s : State), s.stage = 6 ∧ s.boot.words = [] ∧ s.boot.relock = [] →
      (List.range 8).all (fun c => !s.mcTraining c && !(decide (s.mcState c = 2) && decide (s.mcF c F.MC_TRAIN_STAT.ATTEMPTS = 0) && decide (s.mcF c F.MC_SVC_CTRL.WANT = 1) && s.live (0x30 + c))) = true →
    Does .dramTrainDone s fun t =>
      t.stage = 7 ∧ (SMap.get (fun _ => 0) t.timers Tm.stage) = s.now + 110 * msTicks + 1 ∧ t.timerOn Tm.poll = false ∧
      t.mcCounting = !s.bit aonB F.AON_BOOT_STAT.XTAL_FB ∧
      t.boot = { s.boot with words := pbWords s.pbImage 2, stageAt := s.now } ∧
      t = { s with mcCounting := t.mcCounting, boot := t.boot, timers := t.timers, regs := t.regs } ∧
      TimersBut [Tm.stage,Tm.poll] s t ∧ RegsBut [(aonB+0x20)] s t) ∧
  (∀ (s : State), (s.stage ≠ 6 ∨ s.boot.words ≠ [] ∨ s.boot.relock ≠ []) →
    Does .dramTrainDone s fun t =>
      t = s) ∧
  (∀ (s : State), s.stage = 7 ∧ s.boot.words = [] ∧ s.boot.relock = [] →
      (pbSections s.pbImage).all (fun x => decide (x.typ < 3 ∨ 5 < x.typ)) = true → s.bit mccB F.MCC_TRACE_CFG.EN = false →
    Does .applyDone s fun t =>
      t.sealed = true ∧ t.stage = 8 ∧ (SMap.get (fun _ => 0) t.timers Tm.stage) = s.now + 200 * msTicks + 1 ∧
      t.boot = { s.boot with configHash := sha384 ((s.setF aonB F.AON_SEAL.SEALED 1).configBytes), image := none, stageAt := s.now } ∧
      t.stw = { s.stw with policy := ((pbSections s.pbImage).filter fun x => decide (x.typ = 6)).flatMap fun x => x.bytes s.pbImage, failed := 0, copy := (s.fld aonB F.AON_BOOT_STAT.COPY), starting := false, verify := none, fwHash := 0, waitHost := none, mbWait := [], todArm := ⟨false, false⟩, download := none } ∧
      t.fld stwB F.STW_READY.READY = 0 ∧ t.timerOn Tm.stwReady = false ∧ t.timerOn Tm.stwWdog = false ∧ t.timerOn Tm.omciHost = false ∧
      t = { s with boot := t.boot, stw := t.stw, evt := t.evt, timers := t.timers, regs := t.regs } ∧
      TimersBut [Tm.stage,Tm.stwReady,Tm.stwWdog,Tm.omciHost] s t ∧
      RegsBut [(aonB+0x20),aonB+0x30,kB 0+0x300,kB 1+0x300,stwB+0x8,stwB+0x4] s t) ∧
  (∀ (s : State), (s.stage ≠ 7 ∨ s.boot.words ≠ [] ∨ s.boot.relock ≠ []) →
    Does .applyDone s fun t =>
      t = s)

/-- Stage STEWARD ends when a firmware copy runs or the Steward is down. RELEASE brings every implemented island but STW
that is not kept dark live, starts device time, lets the counters count and ends in RUN with the run time shown, the
boot record written (unless a sag is in force) and the Ledger's lifecycle transitions reported; with a lane not
calibrated it ends 200 ms after it began. A limit ends AON_UP in the hold, XTAL in the fallback, PLL in the hold or with
the islands of unlocked PLLs kept dark, PB_READ with code B and the other copy, DRAM_TRAIN with the channels that train
left out, APPLY with code C and the islands reset, STEWARD with the firmware copy failed with code C, RELEASE as RELEASE
ends. A write of AON_BOOT_CTRL with another KEY is discarded; one with its KEY sets the preference, in the Ledger too
unless a sag is in force, releases the flash only in the hold, and REBOOT restarts from AON_UP with the counters, the
fuses and the Ledger kept. Nothing else changes but what the clauses name. -/
def Obligations.ReleaseLimitsAndReboot : Prop :=
  (∀ (s : State), s.stage = 8 ∧ (s.stwState = 1 ∨ s.stwState = 3) →
    Does .stewardStageDone s fun t =>
      t.stage = 9 ∧ (SMap.get (fun _ => 0) t.timers Tm.stage) = s.now + 220 * msTicks + 1 ∧ t.boot = { s.boot with stageAt := s.now } ∧
      t = { s with boot := t.boot, timers := t.timers, regs := t.regs } ∧ TimersBut [Tm.stage] s t ∧
      RegsBut [(aonB+0x20)] s t) ∧
  (∀ (s : State), (s.stage ≠ 8 ∨ (s.stwState ≠ 1 ∧ s.stwState ≠ 3)) →
    Does .stewardStageDone s fun t =>
      t = s) ∧
  (∀ (s : State), s.stage = 9 →
      (((((List.range 48).filter fun n => decide (s.laneMode n ≠ 0) && !s.bootDark (quadId n)) ++ ([48, 49].filter fun n => !s.bootDark (0x08 + (n - 48)))))).all (fun n => s.boot.cal.contains n) = true →
    Does .releaseDone s fun t =>
      (t.stage = 0xA ∧ t.counting = 7 ∧ t.sealed = s.sealed ∧ t.fld aonB F.AON_BOOT_TIME.RUN_MS = t.bootMs) ∧
      (List.range 64).all (fun i => !(decide (2 ≤ i) && decide (i ≠ 0x3F) && (islandInst i).isSome && !s.bootDark i) || t.live i) = true ∧
      (t.live 0x04 = true → t.bit timB F.TIM_STAT.RUN = true) ∧
      (t.ledger.boots = if s.sagging then s.ledger.boots else (s.ledger.boots ++ [t.bootRecord]).drop (s.ledger.boots.length + 1 - 1024)) ∧
      t.ledger = { s.ledger with boots := t.ledger.boots, lives := [] } ∧
      t.now = s.now ∧ t.timerOn Tm.stage = false ∧ t.boot = { s.boot with stageAt := s.now } ∧
      t = { s with freeNext := t.freeNext, regs := t.regs, ctrs := t.ctrs, tally := t.tally, timers := t.timers, counting := t.counting, evt := t.evt, tim := t.tim, tlr := t.tlr, tmg := t.tmg, tq := t.tq, prbs := t.prbs, pon := t.pon, bc := t.bc, ledger := t.ledger, boot := t.boot, out := t.out }) ∧
  (∀ (s : State), s.stage ≠ 9 →
    Does .releaseDone s fun t =>
      t = s) ∧
  (∀ (unlocked : List (Fin 64)) (hdr : List Byte) (s : State), s.timerOn Tm.stage = true ∧ s.stage = 0 →
    Does (.stageLimitExpiry ⟨unlocked, hdr⟩) s fun t =>
      (t.fld aonB F.AON_BOOT_STAT.BOOT_COUNT = (min 0xFFFF (s.ledger.bootCount + 1)) ∧ t.ledger.bootCount = (if s.sagging then s.ledger.bootCount else (min 0xFFFF (s.ledger.bootCount + 1))) ∧ t.bit aonB F.AON_BOOT_CTRL.PREFER_B = s.ledger.preferB) ∧
      (t.stage = 0xF ∧ t.live 0x3A = true ∧ (((List.range 64).all fun i => !(decide (2 ≤ i) && decide (i ≠ 0x3A) && t.live i))) = true ∧ t.timerOn Tm.stage = false) ∧
      (t.boot = { s.boot with lastCode := (0xE), image := none, words := [], relock := [], stageAt := t.now }) ∧
      (t.ledger.boots = if s.sagging then s.ledger.boots else (s.ledger.boots ++ [t.bootRecord]).drop (s.ledger.boots.length + 1 - 1024)) ∧
      t.ledger = { s.ledger with bootCount := t.ledger.bootCount, boots := t.ledger.boots } ∧
      t = { (s.atEnd Tm.stage) with boot := t.boot, evt := t.evt, ledger := t.ledger, timers := t.timers, regs := t.regs } ∧
      RegsBut [(aonB+0x20),aonB+0x28,aonB+0x10,aonB+0x14] (s.atEnd Tm.stage) t) ∧
  (∀ (unlocked : List (Fin 64)) (hdr : List Byte) (s : State), s.timerOn Tm.stage = true ∧ s.stage = 1 →
    Does (.stageLimitExpiry ⟨unlocked, hdr⟩) s fun t =>
      t.stage = 2 ∧ (SMap.get (fun _ => 0) t.timers Tm.stage) = ((s.atEnd Tm.stage)).now + 5 * msTicks + 1 ∧ t.boot = { s.boot with stageAt := ((s.atEnd Tm.stage)).now } ∧
      t.bit aonB F.AON_BOOT_STAT.XTAL_FB = true ∧ t.bit aonB F.AON_CLK_CTRL.ON_FAST = true ∧ t.bit timB F.TIM_STAT.XTAL_FB = true ∧
      t.pf 0 F.PN_US_STAT.INH = Nat.lor (s.pf 0 F.PN_US_STAT.INH) 2 ∧ t.pf 1 F.PN_US_STAT.INH = Nat.lor (s.pf 1 F.PN_US_STAT.INH) 2 ∧
      OnlyBens ((s.atEnd Tm.stage)) t ∧
      t = { (s.atEnd Tm.stage) with out := t.out, freeNext := t.freeNext, boot := t.boot, pon := t.pon, bc := t.bc, tally := t.tally, ctrs := t.ctrs, evt := t.evt, timers := t.timers, regs := t.regs } ∧
      TimersBut [Tm.stage] (s.atEnd Tm.stage) t ∧
      RegsBut [(aonB+0x20),aonB+0x11c,pnB 0+0x104,pnB 1+0x104,timB+0x0,bcB 0+0x44,bcB 1+0x44] (s.atEnd Tm.stage) t) ∧
  (∀ (unlocked : List (Fin 64)) (hdr : List Byte) (s : State), s.timerOn Tm.stage = true ∧ s.stage = 2 →
      unlocked.any (fun i => [0x2C, 0x3F, 0x3A].contains i.val) = true →
    Does (.stageLimitExpiry ⟨unlocked, hdr⟩) s fun t =>
      (t.stage = 0xF ∧ t.live 0x3A = true ∧ (((List.range 64).all fun i => !(decide (2 ≤ i) && decide (i ≠ 0x3A) && t.live i))) = true ∧ t.timerOn Tm.stage = false) ∧
      (t.boot = { s.boot with lastCode := (0xE), image := none, words := [], relock := [], stageAt := t.now }) ∧
      (t.ledger.boots = if s.sagging then s.ledger.boots else (s.ledger.boots ++ [t.bootRecord]).drop (s.ledger.boots.length + 1 - 1024)) ∧
      t.ledger = { s.ledger with boots := t.ledger.boots } ∧
      t = { (s.atEnd Tm.stage) with boot := t.boot, evt := t.evt, ledger := t.ledger, timers := t.timers, regs := t.regs } ∧
      RegsBut [(aonB+0x20),aonB+0x10,aonB+0x14] (s.atEnd Tm.stage) t) ∧
  (∀ (unlocked : List (Fin 64)) (hdr : List Byte) (s : State), s.timerOn Tm.stage = true ∧ s.stage = 2 →
      unlocked.any (fun i => [0x2C, 0x3F, 0x3A].contains i.val) = false →
    Does (.stageLimitExpiry ⟨unlocked, hdr⟩) s fun t =>
      t.stage = 3 ∧ t.timerOn Tm.stage = false ∧ t.boot = { s.boot with stageAt := ((s.atEnd Tm.stage)).now } ∧
      t.bit aonB F.AON_CLK_CTRL.PLL_READY = (unlocked.isEmpty && !s.bit aonB F.AON_BOOT_STAT.XTAL_FB) ∧
      unlocked.all (fun i => t.islDark i.val) = true ∧ (s.islDark 0x3A = false → t.live 0x3A = true) ∧
      t = { (s.atEnd Tm.stage) with boot := t.boot, evt := t.evt, timers := t.timers, regs := t.regs } ∧
      TimersBut [Tm.stage] (s.atEnd Tm.stage) t ∧
      RegsBut ([(aonB+0x20),aonB+0x11c,aonB+0x14,aonB+0x12C,aonB+0x130] ++ (List.range 12).map fun q => quadB q+0x8000) (s.atEnd Tm.stage) t) ∧
  (∀ (unlocked : List (Fin 64)) (hdr : List Byte) (s : State), s.timerOn Tm.stage = true ∧ s.stage = 4 →
      s.boot.tried.testBit ((1 - s.boot.copy)) = false ∧ (s.boot.copy) < 2 →
    Does (.stageLimitExpiry ⟨unlocked, hdr⟩) s fun t =>
      (t.stage = 4 ∧ t.fld aonB ((if (s.boot.copy) = 0 then F.AON_BOOT_FAIL.FAIL_A else F.AON_BOOT_FAIL.FAIL_B)) = (0xB) ∧ t.fld aonB F.AON_PB_VERSION.VERSION = 0 ∧ t.boot = { s.boot with copy := (1 - s.boot.copy), tried := Nat.lor s.boot.tried (2 ^ (s.boot.copy)), lastCode := (0xB), pbHash := 0, words := [], relock := [], image := none, stageAt := t.now }) ∧
      (SMap.get (fun _ => 0) t.timers Tm.stage) = (((s.elapseTo (s.boot.stageAt + min 80 (5 * (((if hdr.length < 64 then 2 ^ 24 else pbRead (s.flashRead (pbBase (s.boot.copy)) hdr)) + 2 ^ 20 - 1) / 2 ^ 20)) * msTicks)))).now + 80 * msTicks + 1 ∧
      t.flash = (if s.flash.upAt = 0 then { s.flash with upAt := (((s.elapseTo (s.boot.stageAt + min 80 (5 * (((if hdr.length < 64 then 2 ^ 24 else pbRead (s.flashRead (pbBase (s.boot.copy)) hdr)) + 2 ^ 20 - 1) / 2 ^ 20)) * msTicks)))).now + 1 } else s.flash) ∧
      t = { ((s.elapseTo (s.boot.stageAt + min 80 (5 * (((if hdr.length < 64 then 2 ^ 24 else pbRead (s.flashRead (pbBase (s.boot.copy)) hdr)) + 2 ^ 20 - 1) / 2 ^ 20)) * msTicks))) with boot := t.boot, flash := t.flash, evt := t.evt, timers := t.timers, regs := t.regs } ∧
      TimersBut [Tm.stage] ((s.elapseTo (s.boot.stageAt + min 80 (5 * (((if hdr.length < 64 then 2 ^ 24 else pbRead (s.flashRead (pbBase (s.boot.copy)) hdr)) + 2 ^ 20 - 1) / 2 ^ 20)) * msTicks))) t ∧
      RegsBut [(aonB+0x20),aonB+0x24,aonB+0x34] ((s.elapseTo (s.boot.stageAt + min 80 (5 * (((if hdr.length < 64 then 2 ^ 24 else pbRead (s.flashRead (pbBase (s.boot.copy)) hdr)) + 2 ^ 20 - 1) / 2 ^ 20)) * msTicks))) t) ∧
  (∀ (unlocked : List (Fin 64)) (hdr : List Byte) (s : State), s.timerOn Tm.stage = true ∧ s.stage = 6 →
      (List.range 8).all (fun c => !s.mcTraining c && !((decide (s.mcState c = 2) && decide (s.mcF c F.MC_TRAIN_STAT.ATTEMPTS = 0) && decide (s.mcF c F.MC_SVC_CTRL.WANT = 1) && s.live (0x30 + c)))) = true →
    Does (.stageLimitExpiry ⟨unlocked, hdr⟩) s fun t =>
      t.stage = 7 ∧ (SMap.get (fun _ => 0) t.timers Tm.stage) = ((s.atEnd Tm.stage)).now + 110 * msTicks + 1 ∧ t.timerOn Tm.poll = false ∧
      t.mcCounting = !s.bit aonB F.AON_BOOT_STAT.XTAL_FB ∧
      t.boot = { s.boot with words := pbWords s.pbImage 2, stageAt := ((s.atEnd Tm.stage)).now } ∧
      t = { (s.atEnd Tm.stage) with mcCounting := t.mcCounting, boot := t.boot, timers := t.timers, regs := t.regs } ∧
      TimersBut [Tm.stage,Tm.poll] (s.atEnd Tm.stage) t ∧ RegsBut [(aonB+0x20)] (s.atEnd Tm.stage) t) ∧
  (∀ (unlocked : List (Fin 64)) (hdr : List Byte) (s : State), s.timerOn Tm.stage = true ∧ s.stage = 7 →
      s.boot.tried.testBit ((1 - s.boot.copy)) = false ∧ (s.boot.copy) < 2 →
    Does (.stageLimitExpiry ⟨unlocked, hdr⟩) s fun t =>
      (t.stage = 4 ∧ t.fld aonB ((if (s.boot.copy) = 0 then F.AON_BOOT_FAIL.FAIL_A else F.AON_BOOT_FAIL.FAIL_B)) = (0xC) ∧ t.fld aonB F.AON_PB_VERSION.VERSION = 0 ∧ t.boot = { s.boot with copy := (1 - s.boot.copy), tried := Nat.lor s.boot.tried (2 ^ (s.boot.copy)), lastCode := (0xC), pbHash := 0, words := [], relock := [], image := none, stageAt := t.now }) ∧
      (SMap.get (fun _ => 0) t.timers Tm.stage) = ((s.atEnd Tm.stage)).now + 80 * msTicks + 1 ∧
      t.timerOn Tm.poll = false ∧ t.timerOn Tm.relock = false ∧
      (((List.range 64).all fun i => !(decide (2 ≤ i) && decide (i ≠ 0x3A) && t.live i))) = true ∧ t.mintOk = s.mintOk ∧
      t.fuse = s.fuse ∧ t.ledger = s.ledger ∧ t.pwr = s.pwr ∧ t.ctrs = ((s.atEnd Tm.stage)).ctrs ∧ t.tally = s.tally ∧ t.pending = s.pending ∧ t.now = ((s.atEnd Tm.stage)).now ∧ t.tap = s.tap ∧ t.flash.cells = s.flash.cells) ∧
  (∀ (unlocked : List (Fin 64)) (hdr : List Byte) (s : State), s.timerOn Tm.stage = true ∧ s.stage = 8 →
      (s.stwState = 1 ∨ s.stwState = 3) →
    Does (.stageLimitExpiry ⟨unlocked, hdr⟩) s fun t =>
      t.stage = 9 ∧ (SMap.get (fun _ => 0) t.timers Tm.stage) = ((s.atEnd Tm.stage)).now + 220 * msTicks + 1 ∧ t.boot = { s.boot with stageAt := ((s.atEnd Tm.stage)).now } ∧
      t = { (s.atEnd Tm.stage) with boot := t.boot, timers := t.timers, regs := t.regs } ∧
      TimersBut [Tm.stage] (s.atEnd Tm.stage) t ∧ RegsBut [(aonB+0x20)] (s.atEnd Tm.stage) t) ∧
  (∀ (unlocked : List (Fin 64)) (hdr : List Byte) (s : State), s.timerOn Tm.stage = true ∧ s.stage = 8 →
      s.stwState ≠ 1 ∧ s.stwState ≠ 3 ∧ s.stw.copy < 2 →
    Does (.stageLimitExpiry ⟨unlocked, hdr⟩) s fun t =>
      t.stage = 9 ∧ (SMap.get (fun _ => 0) t.timers Tm.stage) = ((s.atEnd Tm.stage)).now + 220 * msTicks + 1 ∧ t.boot = { s.boot with stageAt := ((s.atEnd Tm.stage)).now } ∧
      t.stwState = 3 ∧ t.live 0x3F = false ∧ t.bit aonB F.AON_BOOT_STAT.STW_DOWN = true ∧
      t.fld aonB (if s.stw.copy = 0 then F.AON_BOOT_FAIL.FAIL_FW_A else F.AON_BOOT_FAIL.FAIL_FW_B) = 0xC ∧ t.fld stwB F.STW_STAT.LAST_FAIL = 0xC ∧
      t.stw = { s.stw with failed := Nat.lor (Nat.lor s.stw.failed (2 ^ (1 - s.stw.copy))) (2 ^ s.stw.copy), starting := false, fwHash := 0 } ∧
      t.timerOn Tm.stwReady = false ∧ t.timerOn Tm.stwGrace = false ∧
      t.pf 0 F.PN_US_STAT.INH = Nat.lor (s.pf 0 F.PN_US_STAT.INH) 4 ∧ t.pf 1 F.PN_US_STAT.INH = Nat.lor (s.pf 1 F.PN_US_STAT.INH) 4 ∧
      OnlyBens ((s.atEnd Tm.stage)) t ∧
      t = { (s.atEnd Tm.stage) with out := t.out, freeNext := t.freeNext, boot := t.boot, stw := t.stw, pon := t.pon, bc := t.bc, tally := t.tally, ctrs := t.ctrs, evt := t.evt, timers := t.timers, regs := t.regs } ∧
      TimersBut [Tm.stage,Tm.stwReady,Tm.stwGrace] (s.atEnd Tm.stage) t ∧
      RegsBut [(aonB+0x20),aonB+0x24,aonB+0x14,stwB+0x4,pnB 0+0x104,pnB 1+0x104,bcB 0+0x44,bcB 1+0x44] (s.atEnd Tm.stage) t) ∧
  (∀ (unlocked : List (Fin 64)) (hdr : List Byte) (s : State), s.timerOn Tm.stage = true ∧ s.stage = 9 →
    Does (.stageLimitExpiry ⟨unlocked, hdr⟩) s fun t =>
      (t.stage = 0xA ∧ t.counting = 7 ∧ t.sealed = s.sealed ∧ t.fld aonB F.AON_BOOT_TIME.RUN_MS = t.bootMs) ∧
      (List.range 64).all (fun i => !(decide (2 ≤ i) && decide (i ≠ 0x3F) && (islandInst i).isSome && !s.bootDark i) || t.live i) = true ∧
      (t.live 0x04 = true → t.bit timB F.TIM_STAT.RUN = true) ∧
      (t.ledger.boots = if s.sagging then s.ledger.boots else (s.ledger.boots ++ [t.bootRecord]).drop (s.ledger.boots.length + 1 - 1024)) ∧
      t.ledger = { s.ledger with boots := t.ledger.boots, lives := [] } ∧
      t.now = ((s.atEnd Tm.stage)).now ∧ t.timerOn Tm.stage = false ∧
      t = { (s.atEnd Tm.stage) with freeNext := t.freeNext, regs := t.regs, ctrs := t.ctrs, tally := t.tally, timers := t.timers, counting := t.counting, evt := t.evt, tim := t.tim, tlr := t.tlr, tmg := t.tmg, tq := t.tq, prbs := t.prbs, pon := t.pon, bc := t.bc, ledger := t.ledger, boot := t.boot, out := t.out }) ∧
  (∀ (unlocked : List (Fin 64)) (hdr : List Byte) (s : State), s.timerOn Tm.stage = false →
    Does (.stageLimitExpiry ⟨unlocked, hdr⟩) s fun t =>
      t = s) ∧
  (∀ (m : Master) (key : BitVec 16) (s : State), s.reaches m (aonB + 0x28) = true → key = 0xA5C3 →
      s.vlt.fuse = none ∧ s.vlt.jobs.a = none ∧ s.vlt.jobs.b = none →
    Does (.reboot m key) s fun t =>
      t.stage = 0 ∧ (SMap.get (fun _ => 0) t.timers Tm.stage) = s.now + 3 * msTicks + 1 ∧
      t.boot = { BootState.reset with rails := s.boot.rails, por := false, t0 := s.now, stageAt := s.now, xtalLost := s.boot.xtalLost } ∧
      t.ctrs = s.ctrs ∧ t.tally = s.tally ∧ t.fuse = s.fuse ∧ t.now = s.now ∧ t.pending = s.pending ∧ t.out = s.out ∧
      t.ledger = { s.ledger with preferB := if s.sagging then s.ledger.preferB else decide (((s.reg (aonB + 0x28)).toNat) % 8 / 4 = 1) } ∧
      t.pwr = { PwrState.reset with gpio := s.pwr.gpio, sagAt := s.pwr.sagAt, benStrap := s.pwr.benStrap, vrAddr := s.pwr.vrAddr, talert := s.pwr.talert, trip := s.pwr.trip } ∧
      t.sealed = false ∧ (((List.range 64).all fun i => !(decide (2 ≤ i) && decide (i ≠ 0x3A) && t.live i))) = true ∧
      t.tbl = State.reset.tbl ∧ t.tlr = State.reset.tlr ∧ t.tmg = State.reset.tmg ∧ t.slots = State.reset.slots ∧ t.dma = State.reset.dma ∧ t.mem = State.reset.mem ∧ t.chk = State.reset.chk ∧ t.stw = State.reset.stw ∧ t.tim = State.reset.tim) ∧
  (∀ (m : Master) (key : BitVec 16) (v : Bool) (s : State), s.reaches m (aonB + 0x28) = true → key = 0xA5C3 →
      s.inHold = false ∧ ((s.reg (aonB + 0x28)).toNat) % 2 = 0 →
    Does (.preferBWrite m key v) s fun t =>
      t.bit aonB F.AON_BOOT_CTRL.PREFER_B = v ∧
      t.ledger = { s.ledger with preferB := if s.sagging then s.ledger.preferB else v } ∧
      t = { s with ledger := t.ledger, regs := t.regs } ∧ RegsBut [aonB+0x28] s t) ∧
  (∀ (m : Master) (key : BitVec 16) (v : Bool) (s : State), s.reaches m (aonB + 0x28) = true → key = 0xA5C3 →
      s.inHold = true ∧ ((s.reg (aonB + 0x28)).toNat) % 2 = 0 →
    Does (.flashRelease m key v) s fun t =>
      t.bit aonB F.AON_BOOT_CTRL.FLASH_RELEASE = v ∧
      t.pwr = { s.pwr with flashOff := v } ∧ t.flash = (if v then { s.flash with cells := [] } else s.flash) ∧
      t.ledger = { s.ledger with preferB := if s.sagging then s.ledger.preferB else s.bit aonB F.AON_BOOT_CTRL.PREFER_B } ∧
      t = { s with ledger := t.ledger, pwr := t.pwr, flash := t.flash, regs := t.regs } ∧ RegsBut [aonB+0x28] s t) ∧
  (∀ (m : Master) (key : BitVec 16) (v : Bool) (s : State), s.reaches m (aonB + 0x28) = true → key = 0xA5C3 →
      s.inHold = false ∧ ((s.reg (aonB + 0x28)).toNat) % 2 = 0 →
    Does (.flashRelease m key v) s fun t =>
      t.ledger = { s.ledger with preferB := if s.sagging then s.ledger.preferB else s.bit aonB F.AON_BOOT_CTRL.PREFER_B } ∧
      t.pwr = s.pwr ∧ t.flash = s.flash ∧ t.bit aonB F.AON_BOOT_CTRL.FLASH_RELEASE = s.bit aonB F.AON_BOOT_CTRL.FLASH_RELEASE ∧
      t = { s with ledger := t.ledger, regs := t.regs } ∧ RegsBut [aonB+0x28] s t) ∧
  (∀ (m : Master) (key : BitVec 16) (s : State), s.reaches m (aonB + 0x28) = true → key ≠ 0xA5C3 →
    Does (.reboot m key) s fun t =>
      t = s) ∧
  (∀ (m : Master) (key : BitVec 16) (v : Bool) (s : State), s.reaches m (aonB + 0x28) = true → key ≠ 0xA5C3 →
    Does (.preferBWrite m key v) s fun t =>
      t = s) ∧
  (∀ (m : Master) (key : BitVec 16) (v : Bool) (s : State), s.reaches m (aonB + 0x28) = true → key ≠ 0xA5C3 →
    Does (.flashRelease m key v) s fun t =>
      t = s)

/-- READY from the Steward while a copy is starting enters RUN: READY and FW_COPY show it, the limits stop and the
watchdog starts; a write from the host is discarded. A copy that does not answer in 150 ms, or fails a check of R394, is
recorded with its code, and the other is loaded unless it has failed too: then STW is dark, DOWN, both transmitters
inhibited. A kick starts the watchdog anew; its end in RUN, or RESTART with its key, is a drain of STW (its cause a free
value, log entry 178) that loads the copy in use, or at the third restart in 60 s the other, in RESTART with GRACE
running, counted and reported; GRACE's end discards the held inputs and goes DOWN. SWITCH in RUN with no verification
under way starts one. A verification of a copy that SWITCH named shows its result and is reported; one that fails is
recorded and counted, one that passes enters RESTART with it unless VERIFY_ONLY is set; one that the loader waits for
starts the firmware live with its 150 ms, or fails the copy. The cause that STW_STATE carries is a free value. Nothing
else changes but what the clauses name. -/
def Obligations.StewardFirmwareStartsAndRestarts : Prop :=
  (∀ (m : Master) (s : State), s.reaches m (stwB + 0x08) = true → m = .steward ∧ s.stw.starting = true →
      s.stwState ≠ 1 ∧ s.stwState ≠ 2 →
    Does (.stwReadyWrite m) s fun t =>
      t.stwState = 1 ∧ t.fld stwB F.STW_READY.READY = 1 ∧ t.fld stwB F.STW_STAT.FW_COPY = (s.stw.copy) % 2 ∧ t.fld aonB F.AON_BOOT_STAT.FW_COPY = (s.stw.copy) % 2 ∧
      t.stw = { s.stw with starting := false } ∧
      (t.timerOn Tm.stwReady = false ∧ t.timerOn Tm.stwGrace = false ∧ SMap.get (fun _ => 0) t.timers Tm.stwWdog = if (s.fld stwB F.STW_CFG.WDOG) = 0 then 0 else s.now + (s.fld stwB F.STW_CFG.WDOG) * msTicks + 1) ∧
      t.bit (pnB 0) ⟨0x104, 14, 14⟩ = false ∧ t.bit (pnB 1) ⟨0x104, 14, 14⟩ = false ∧ t.freeNext = s.freeNext + 1 ∧
      t.evt = (s.raise Ev.STW_STATE 0x3F noInst [(1, s.stwState), (1, 1), (1, Config.free s.freeNext)]).evt ∧
      OnlyBens s t ∧ t.pon = ⟨{ s.pon.a with benTill := t.pon.a.benTill }, { s.pon.b with benTill := t.pon.b.benTill }⟩ ∧
      t = { s with out := t.out, freeNext := t.freeNext, stw := t.stw, pon := t.pon, evt := t.evt, timers := t.timers, regs := t.regs } ∧
      TimersBut [Tm.stwReady,Tm.stwGrace,Tm.stwWdog] s t ∧
      RegsBut [stwB+0x8,(stwB+0x4),(aonB+0x20),(pnB 0+0x104),(pnB 1+0x104)] s t) ∧
  (∀ (m : Master) (s : State), s.reaches m (stwB + 0x08) = true → m = .steward ∧ s.stw.starting = true →
      s.stwState = 2 ∧ (s.pn 0).stwPloam = [] ∧ (s.pn 1).stwPloam = [] →
    Does (.stwReadyWrite m) s fun t =>
      t.stwState = 1 ∧ t.fld stwB F.STW_READY.READY = 1 ∧ t.fld stwB F.STW_STAT.FW_COPY = (s.stw.copy) % 2 ∧ t.fld aonB F.AON_BOOT_STAT.FW_COPY = (s.stw.copy) % 2 ∧
      t.stw = { s.stw with starting := false } ∧
      (t.timerOn Tm.stwReady = false ∧ t.timerOn Tm.stwGrace = false ∧ SMap.get (fun _ => 0) t.timers Tm.stwWdog = if (s.fld stwB F.STW_CFG.WDOG) = 0 then 0 else s.now + (s.fld stwB F.STW_CFG.WDOG) * msTicks + 1) ∧
      t.freeNext = s.freeNext + 1 ∧ OnlyBens s t ∧
      t.pon = ⟨{ s.pon.a with benTill := t.pon.a.benTill, stwPloam := [] }, { s.pon.b with benTill := t.pon.b.benTill, stwPloam := [] }⟩ ∧
      t = { s with out := t.out, freeNext := t.freeNext, stw := t.stw, pon := t.pon, evt := t.evt, timers := t.timers, regs := t.regs } ∧
      TimersBut [Tm.stwReady,Tm.stwGrace,Tm.stwWdog] s t ∧
      RegsBut [stwB+0x8,(stwB+0x4),aonB+0x20,(pnB 0+0x104),(pnB 1+0x104)] s t) ∧
  (∀ (m : Master) (s : State), s.reaches m (stwB + 0x08) = true → (m = .host ∨ s.stw.starting = false) →
    Does (.stwReadyWrite m) s fun t =>
      t = s) ∧
  (∀ (s : State), s.timerOn Tm.stwReady = true → s.stw.failed.testBit (1 - (s.stw.copy)) = false ∧ (s.stw.copy) < 2 →
    Does .stwReadyTimeout s fun t =>
      t.fld aonB ((if (s.stw.copy) = 0 then F.AON_BOOT_FAIL.FAIL_FW_A else F.AON_BOOT_FAIL.FAIL_FW_B)) = 0xC ∧ t.fld stwB F.STW_STAT.LAST_FAIL = 0xC ∧
      t.stw = { s.stw with copy := 1 - s.stw.copy, starting := false, verify := none, fwHash := 0, waitHost := none, mbWait := [], todArm := ⟨false, false⟩, download := none, failed := Nat.lor s.stw.failed (2 ^ s.stw.copy) } ∧
      (t.fld stwB F.STW_READY.READY = 0 ∧ t.bit stwB F.STW_STAT.VERIFYING = false ∧ t.timerOn Tm.stwReady = false ∧ t.timerOn Tm.stwWdog = false ∧ t.timerOn Tm.omciHost = false) ∧
      t.evt = (if s.stage = 8 then ((s.atEnd Tm.stwReady)).raise Ev.STW_FW_FAIL 0x00 noInst [(1, (s.stw.copy)), (1, 0xC), (1, 1)] else (s.atEnd Tm.stwReady)).evt ∧
      t = { (s.atEnd Tm.stwReady) with stw := t.stw, evt := t.evt, timers := t.timers, regs := t.regs } ∧
      TimersBut [Tm.stwReady,Tm.stwWdog,Tm.omciHost] (s.atEnd Tm.stwReady) t ∧
      RegsBut [aonB+0x24,(stwB+0x4),stwB+0x8] (s.atEnd Tm.stwReady) t) ∧
  (∀ (s : State), s.timerOn Tm.stwReady = true →
      s.stw.failed.testBit (1 - (s.stw.copy)) = true ∧ (s.stw.copy) < 2 ∧ s.stwState ≠ 3 →
    Does .stwReadyTimeout s fun t =>
      t.fld aonB ((if (s.stw.copy) = 0 then F.AON_BOOT_FAIL.FAIL_FW_A else F.AON_BOOT_FAIL.FAIL_FW_B)) = 0xC ∧ t.fld stwB F.STW_STAT.LAST_FAIL = 0xC ∧ t.stwState = 3 ∧ t.live 0x3F = false ∧
      t.bit aonB F.AON_BOOT_STAT.STW_DOWN = (s.bit aonB F.AON_BOOT_STAT.STW_DOWN || decide (s.stage = 8)) ∧
      t.stw = { s.stw with failed := Nat.lor s.stw.failed (2 ^ s.stw.copy), starting := false, fwHash := 0 } ∧
      t.timerOn Tm.stwReady = false ∧ t.timerOn Tm.stwGrace = false ∧
      t.pf 0 F.PN_US_STAT.INH = Nat.lor (s.pf 0 F.PN_US_STAT.INH) 4 ∧ t.pf 1 F.PN_US_STAT.INH = Nat.lor (s.pf 1 F.PN_US_STAT.INH) 4 ∧
      (t.pn 0).stwPloam = [] ∧ (t.pn 0).omciIn = [] ∧ (t.pn 1).stwPloam = [] ∧ (t.pn 1).omciIn = [] ∧
      OnlyBens ((s.atEnd Tm.stwReady)) t ∧
      t = { (s.atEnd Tm.stwReady) with out := t.out, freeNext := t.freeNext, stw := t.stw, pon := t.pon, bc := t.bc, tally := t.tally, ctrs := t.ctrs, evt := t.evt, timers := t.timers, regs := t.regs } ∧
      TimersBut [Tm.stwReady,Tm.stwGrace] (s.atEnd Tm.stwReady) t ∧
      RegsBut [aonB+0x24,aonB+0x20,aonB+0x14,(stwB+0x4),pnB 0+0x104,pnB 1+0x104,bcB 0+0x44,bcB 1+0x44] (s.atEnd Tm.stwReady) t) ∧
  (∀ (m : Master) (s : State), s.reaches m (stwB + 0x10) = true → m = .steward ∧ s.stwState = 1 →
    Does (.stwWdogKick m) s fun t =>
      (SMap.get (fun _ => 0) t.timers Tm.stwWdog = if (s.fld stwB F.STW_CFG.WDOG) = 0 then 0 else s.now + (s.fld stwB F.STW_CFG.WDOG) * msTicks + 1) ∧
      t = { s with timers := t.timers } ∧ TimersBut [Tm.stwWdog] s t) ∧
  (∀ (m : Master) (s : State), s.reaches m (stwB + 0x10) = true → (m = .host ∨ s.stwState ≠ 1) →
    Does (.stwWdogKick m) s fun t =>
      t = s) ∧
  (∀ (s : State), s.timerOn Tm.stwWdog = true → s.stwState ≠ 1 →
    Does .stwWdogExpiry s fun t =>
      t.ctrs = (((s.atEnd Tm.stwWdog)).count (stwB + Ctr.STW.WDOG_EXP)).ctrs ∧
      t.evt = (((s.atEnd Tm.stwWdog)).raise Ev.STW_WDOG 0x3F noInst [(1, (s.stw.copy)), (1, ((s.stw.restarts.filter fun x => decide (((s.atEnd Tm.stwWdog)).now < x + 60000 * msTicks))).length)]).evt ∧
      t = { (s.atEnd Tm.stwWdog) with ctrs := t.ctrs, evt := t.evt }) ∧
  (∀ (s : State), s.timerOn Tm.stwWdog = true → s.stwState = 1 ∧ s.draining.contains 0x3F = false →
    Does .stwWdogExpiry s fun t =>
      t.stwState = 2 ∧ SMap.get (fun _ => 0) t.timers Tm.stwGrace = ((s.atEnd Tm.stwWdog)).now + max 1 (s.fld stwB F.STW_CFG.GRACE) * msTicks + 1 ∧
      t.stw = { s.stw with restarts := ((s.stw.restarts.filter fun x => decide (((s.atEnd Tm.stwWdog)).now < x + 60000 * msTicks)) ++ [((s.atEnd Tm.stwWdog)).now]), copy := (if 3 ≤ (((s.stw.restarts.filter fun x => decide (((s.atEnd Tm.stwWdog)).now < x + 60000 * msTicks)) ++ [((s.atEnd Tm.stwWdog)).now])).length then 1 - s.stw.copy else s.stw.copy), starting := false, verify := none, fwHash := 0, waitHost := none, mbWait := [], todArm := ⟨false, false⟩, download := none, failed := 0 } ∧
      (t.fld stwB F.STW_READY.READY = 0 ∧ t.bit stwB F.STW_STAT.VERIFYING = false ∧ t.timerOn Tm.stwReady = false ∧ t.timerOn Tm.stwWdog = false ∧ t.timerOn Tm.omciHost = false) ∧
      t.fld stwB F.STW_STAT.RESTARTS = min 255 (((s.stw.restarts.filter fun x => decide (((s.atEnd Tm.stwWdog)).now < x + 60000 * msTicks)) ++ [((s.atEnd Tm.stwWdog)).now])).length ∧
      t.draining = s.draining ++ [0x3F] ∧
      t.fld aonB F.AON_FAULT_LAST.ISL = 0x3F ∧ t.fld aonB F.AON_FAULT_LAST.CAUSE = Config.free ((s.atEnd Tm.stwWdog)).freeNext % 4 ∧ t.fld aonB F.AON_FAULT_LAST.DISCARDED = b2n s.stw.waitHost.isSome + b2n s.stw.download.isSome ∧
      t.freeNext = ((s.atEnd Tm.stwWdog)).freeNext + 2 ∧
      t.ctrs = (((((s.atEnd Tm.stwWdog)).count (stwB + Ctr.STW.WDOG_EXP)).count (aonB + Ctr.AON.DRAINS)).count (stwB + Ctr.STW.RESTARTS)).ctrs ∧
      OnlyBens ((s.atEnd Tm.stwWdog)) t ∧
      t.pon = ⟨{ ((s.atEnd Tm.stwWdog)).pon.a with benTill := t.pon.a.benTill }, { ((s.atEnd Tm.stwWdog)).pon.b with benTill := t.pon.b.benTill }⟩ ∧
      t = { (s.atEnd Tm.stwWdog) with out := t.out, freeNext := t.freeNext, stw := t.stw, pon := t.pon, draining := t.draining, ctrs := t.ctrs, evt := t.evt, timers := t.timers, regs := t.regs } ∧
      TimersBut [Tm.stwReady,Tm.stwWdog,Tm.stwGrace,Tm.omciHost] (s.atEnd Tm.stwWdog) t ∧
      RegsBut [aonB+0x174,(stwB+0x4),stwB+0x8,(pnB 0+0x104),(pnB 1+0x104)] (s.atEnd Tm.stwWdog) t) ∧
  (∀ (m : Master) (key : BitVec 16) (s : State), s.reaches m stwB = true → (key ≠ 0xA5C3 ∨ s.stwState ≠ 1) →
    Does (.stwRestartCmd m key) s fun t =>
      t = s) ∧
  (∀ (m : Master) (key : BitVec 16) (s : State), s.reaches m stwB = true → key = 0xA5C3 →
      s.stwState = 1 ∧ s.draining.contains 0x3F = false →
    Does (.stwRestartCmd m key) s fun t =>
      t.stwState = 2 ∧ SMap.get (fun _ => 0) t.timers Tm.stwGrace = s.now + max 1 (s.fld stwB F.STW_CFG.GRACE) * msTicks + 1 ∧
      t.stw = { s.stw with restarts := ((s.stw.restarts.filter fun x => decide (s.now < x + 60000 * msTicks)) ++ [s.now]), copy := (if 3 ≤ (((s.stw.restarts.filter fun x => decide (s.now < x + 60000 * msTicks)) ++ [s.now])).length then 1 - s.stw.copy else s.stw.copy), starting := false, verify := none, fwHash := 0, waitHost := none, mbWait := [], todArm := ⟨false, false⟩, download := none, failed := 0 } ∧
      (t.fld stwB F.STW_READY.READY = 0 ∧ t.bit stwB F.STW_STAT.VERIFYING = false ∧ t.timerOn Tm.stwReady = false ∧ t.timerOn Tm.stwWdog = false ∧ t.timerOn Tm.omciHost = false) ∧
      t.fld stwB F.STW_STAT.RESTARTS = min 255 (((s.stw.restarts.filter fun x => decide (s.now < x + 60000 * msTicks)) ++ [s.now])).length ∧
      t.draining = s.draining ++ [0x3F] ∧
      t.fld aonB F.AON_FAULT_LAST.ISL = 0x3F ∧ t.fld aonB F.AON_FAULT_LAST.CAUSE = Config.free s.freeNext % 4 ∧ t.fld aonB F.AON_FAULT_LAST.DISCARDED = b2n s.stw.waitHost.isSome + b2n s.stw.download.isSome ∧
      t.freeNext = s.freeNext + 2 ∧ t.ctrs = ((s.count (aonB + Ctr.AON.DRAINS)).count (stwB + Ctr.STW.RESTARTS)).ctrs ∧
      OnlyBens s t ∧ t.pon = ⟨{ s.pon.a with benTill := t.pon.a.benTill }, { s.pon.b with benTill := t.pon.b.benTill }⟩ ∧
      t = { s with out := t.out, freeNext := t.freeNext, stw := t.stw, pon := t.pon, draining := t.draining, ctrs := t.ctrs, evt := t.evt, timers := t.timers, regs := t.regs } ∧
      TimersBut [Tm.stwReady,Tm.stwWdog,Tm.stwGrace,Tm.omciHost] s t ∧
      RegsBut [aonB+0x174,(stwB+0x4),stwB+0x8,(pnB 0+0x104),(pnB 1+0x104)] s t) ∧
  (∀ (m : Master) (key : BitVec 16) (target verifyOnly : Bool) (s : State), s.reaches m stwB = true → key = 0xA5C3 →
      s.stwState = 1 ∧ s.stw.verify = none →
    Does (.stwSwitchCmd m key target verifyOnly) s fun t =>
      t.stw = { s.stw with verify := some (b2n target, verifyOnly) } ∧ t.bit stwB F.STW_STAT.VERIFYING = true ∧
      t = { s with stw := t.stw, regs := t.regs } ∧ RegsBut [(stwB+0x4)] s t) ∧
  (∀ (m : Master) (key : BitVec 16) (target verifyOnly : Bool) (s : State), s.reaches m stwB = true →
      (key ≠ 0xA5C3 ∨ s.stwState ≠ 1 ∨ s.stw.verify.isSome = true) →
    Does (.stwSwitchCmd m key target verifyOnly) s fun t =>
      t = s) ∧
  (∀ (s : State), s.timerOn Tm.stwGrace = true → s.stwState = 2 →
    Does .stwGraceExpiry s fun t =>
      t.stwState = 3 ∧ t.freeNext = ((s.atEnd Tm.stwGrace)).freeNext + 1 ∧
      (t.pn 0).stwPloam = [] ∧ (t.pn 0).omciIn = [] ∧ (t.pn 1).stwPloam = [] ∧ (t.pn 1).omciIn = [] ∧
      t.pf 0 F.PN_US_STAT.INH = Nat.lor (s.pf 0 F.PN_US_STAT.INH) 4 ∧ t.pf 1 F.PN_US_STAT.INH = Nat.lor (s.pf 1 F.PN_US_STAT.INH) 4 ∧
      t.evt = (((s.atEnd Tm.stwGrace)).raise Ev.STW_STATE 0x3F noInst [(1, 2), (1, 3), (1, Config.free ((s.atEnd Tm.stwGrace)).freeNext)]).evt ∧
      OnlyBens ((s.atEnd Tm.stwGrace)) t ∧
      t = { (s.atEnd Tm.stwGrace) with out := t.out, freeNext := t.freeNext, pon := t.pon, bc := t.bc, tally := t.tally, ctrs := t.ctrs, evt := t.evt, regs := t.regs } ∧
      RegsBut [(stwB+0x4),pnB 0+0x104,pnB 1+0x104,bcB 0+0x44,bcB 1+0x44] (s.atEnd Tm.stwGrace) t) ∧
  (∀ (s : State), s.timerOn Tm.stwGrace = true → s.stwState ≠ 2 →
    Does .stwGraceExpiry s fun t =>
      t = s.atEnd Tm.stwGrace) ∧
  (∀ (image : Option (List Byte)) (target : Nat) (only : Bool) (s : State),
      s.stw.verify = some (target, only) ∧ target < 2 → s.stw.download = none ∧ s.stwState = 1 →
    Does (.fwVerifyDone image) s fun t =>
      t.bit stwB F.STW_STAT.VERIFYING = false ∧
      t.stw.valid = Nat.lor s.stw.valid (2 ^ target) - (if (s.fwCode ((image.map (((s.flashSettle)).flashRead (fwBase target))))) = 0 then 0 else 2 ^ target) ∧ t.stw.floors = SMap.set (fun _ => 0) s.stw.floors target (if (s.fwCode ((image.map (((s.flashSettle)).flashRead (fwBase target))))) = 0 then imgLe (((image.map (((s.flashSettle)).flashRead (fwBase target)))).getD []) 0x18 4 else 0) ∧
      ((s.fwCode ((image.map (((s.flashSettle)).flashRead (fwBase target))))) ≠ 0 → t.stw = { s.stw with verify := none, valid := t.stw.valid, floors := t.stw.floors } ∧ t.fld aonB (if target = 0 then F.AON_BOOT_FAIL.FAIL_FW_A else F.AON_BOOT_FAIL.FAIL_FW_B) = (s.fwCode ((image.map (((s.flashSettle)).flashRead (fwBase target))))) ∧ t.fld stwB F.STW_STAT.LAST_FAIL = (s.fwCode ((image.map (((s.flashSettle)).flashRead (fwBase target))))) ∧ t.ctrs = (s.count (stwB + Ctr.STW.SWITCH_FAIL)).ctrs ∧ t.evt = (s.raise Ev.STW_FW_SWITCH 0x3F noInst [(1, target), (1, (s.fwCode ((image.map (((s.flashSettle)).flashRead (fwBase target)))))), (1, b2n only)]).evt ∧ t.stwState = 1 ∧ t.timers = s.timers) ∧
      ((s.fwCode ((image.map (((s.flashSettle)).flashRead (fwBase target))))) = 0 ∧ only = true → t.stw = { s.stw with verify := none, valid := t.stw.valid, floors := t.stw.floors } ∧ t.stwState = 1 ∧ t.timers = s.timers ∧ t.evt = (s.raise Ev.STW_FW_SWITCH 0x3F noInst [(1, target), (1, 0), (1, 1)]).evt) ∧
      ((s.fwCode ((image.map (((s.flashSettle)).flashRead (fwBase target))))) = 0 ∧ only = false → t.stwState = 2 ∧ t.stw.copy = target ∧ t.stw.failed = 0 ∧ SMap.get (fun _ => 0) t.timers Tm.stwGrace = s.now + max 1 (s.fld stwB F.STW_CFG.GRACE) * msTicks + 1) ∧
      OnlyBens s t ∧
      t = { (s.flashSettle) with out := t.out, freeNext := t.freeNext, stw := t.stw, pon := t.pon, ctrs := t.ctrs, evt := t.evt, timers := t.timers, regs := t.regs } ∧
      TimersBut [Tm.stwReady,Tm.stwWdog,Tm.stwGrace,Tm.omciHost] (s.flashSettle) t ∧
      RegsBut [aonB+0x24,(stwB+0x4),stwB+0x8,(pnB 0+0x104),(pnB 1+0x104)] (s.flashSettle) t) ∧
  (∀ (image : Option (List Byte)) (s : State), s.stw.verify = none ∧ s.fwLoading = true ∧ (s.stw.copy) < 2 →
      s.stw.failed.testBit (1 - (s.stw.copy)) = false →
    Does (.fwVerifyDone image) s fun t =>
      t.stw.valid = Nat.lor s.stw.valid (2 ^ (s.stw.copy)) - (if (s.fwCode ((image.map (((s.flashSettle)).flashRead (fwBase s.stw.copy))))) = 0 then 0 else 2 ^ (s.stw.copy)) ∧ t.stw.floors = SMap.set (fun _ => 0) s.stw.floors ((s.stw.copy)) (if (s.fwCode ((image.map (((s.flashSettle)).flashRead (fwBase s.stw.copy))))) = 0 then imgLe (((image.map (((s.flashSettle)).flashRead (fwBase s.stw.copy)))).getD []) 0x18 4 else 0) ∧
      ((s.fwCode ((image.map (((s.flashSettle)).flashRead (fwBase s.stw.copy))))) ≠ 0 → t.stw = { s.stw with copy := 1 - s.stw.copy, starting := false, fwHash := 0, waitHost := none, mbWait := [], todArm := ⟨false, false⟩, download := none, failed := Nat.lor s.stw.failed (2 ^ s.stw.copy), valid := t.stw.valid, floors := t.stw.floors } ∧ t.fld aonB ((if (s.stw.copy) = 0 then F.AON_BOOT_FAIL.FAIL_FW_A else F.AON_BOOT_FAIL.FAIL_FW_B)) = (s.fwCode ((image.map (((s.flashSettle)).flashRead (fwBase s.stw.copy))))) ∧ t.fld stwB F.STW_STAT.LAST_FAIL = (s.fwCode ((image.map (((s.flashSettle)).flashRead (fwBase s.stw.copy))))) ∧ (t.fld stwB F.STW_READY.READY = 0 ∧ t.bit stwB F.STW_STAT.VERIFYING = false ∧ t.timerOn Tm.stwReady = false ∧ t.timerOn Tm.stwWdog = false ∧ t.timerOn Tm.omciHost = false)) ∧
      ((s.fwCode ((image.map (((s.flashSettle)).flashRead (fwBase s.stw.copy))))) = 0 → t.stw = { s.stw with starting := true, fwHash := sha384 (bytesAt (((image.map (((s.flashSettle)).flashRead (fwBase s.stw.copy)))).getD []) 0 (imgLe (((image.map (((s.flashSettle)).flashRead (fwBase s.stw.copy)))).getD []) 8 4 - 256)), valid := t.stw.valid, floors := t.stw.floors } ∧ t.live 0x3F = true ∧ SMap.get (fun _ => 0) t.timers Tm.stwReady = s.now + 150 * msTicks + 1) ∧
      t = { (s.flashSettle) with stw := t.stw, evt := t.evt, timers := t.timers, regs := t.regs } ∧
      TimersBut [Tm.stwReady,Tm.stwWdog,Tm.omciHost] (s.flashSettle) t ∧
      RegsBut [aonB+0x24,aonB+0x14,(stwB+0x4),stwB+0x8] (s.flashSettle) t) ∧
  (∀ (image : Option (List Byte)) (s : State), s.stw.verify = none ∧ s.fwLoading = false →
    Does (.fwVerifyDone image) s fun t =>
      t = s.flashSettle)

/-- The host's GO fills the mailbox to the Steward, whose acknowledgement empties it; one of a message of type 3 answers
the OMCI change that waits for the host with code 0, and its 50 ms end with device busy. The Steward's GO fills the
mailbox to the host and reports word 0; while it is full it does nothing. The host's acknowledgement empties it, or lets
the Steward's oldest waiting message through. A copy command with none delivered to this consumer shows cause 1, one
past the packet's end cause 2; else it is BUSY with cause 0 and writes Wallet, stamp and the bytes asked for to the
place set up, until it is done; one while BUSY is discarded. An answer carries the MIC of its channel's key, goes to the
channel's queue and is counted, or counts in OSP_US_DROP where the OMCC is an OSP's or not valid. Nothing else changes. -/
def Obligations.MailboxesAndPacketCopies : Prop :=
  (∀ (s : State), s.reaches .host (stwB + 0x140) = true →
    Does .mailboxH2sGo s fun t =>
      t.bit stwB F.STW_MB_H2S_CTRL.FULL = true ∧ t = { s with regs := t.regs } ∧ RegsBut [stwB+0x140] s t) ∧
  (∀ (s : State), s.reaches .steward (stwB + 0x140) = true →
      (s.bit stwB F.STW_MB_H2S_CTRL.FULL = false ∨ s.fld stwB ⟨0x100, 7, 0⟩ ≠ 3 ∨ s.stw.waitHost = none) →
    Does .mailboxH2sAck s fun t =>
      t.bit stwB F.STW_MB_H2S_CTRL.FULL = false ∧ t = { s with regs := t.regs } ∧ RegsBut [stwB+0x140] s t) ∧
  (∀ (c : PonCh) (req : List Byte) (k : Nat) (s : State), s.reaches .steward (stwB + 0x140) = true →
      s.bit stwB F.STW_MB_H2S_CTRL.FULL = true ∧ s.fld stwB ⟨0x100, 7, 0⟩ = 3 →
      s.stw.waitHost = some (c.val, req) ∧ s.omciKey c = some k →
    Does .mailboxH2sAck s fun t =>
      t.bit stwB F.STW_MB_H2S_CTRL.FULL = false ∧ t.timerOn Tm.omciHost = false ∧
      t.stw = { s.stw with waitHost := none } ∧
      (t.pon = s.pon.set c (((if (s.bit (pnB c) F.PN_OSP_CFG.OMCI_OSP = true ∨ s.bit (pnB c) F.PN_OMCC.VALID = false) then s.pn c else { s.pn c with lastN := (s.pn c).lastN + 1, omccUp := (s.pn c).omccUp ++ [{ n := (s.pn c).lastN + 1, osp := false, data := (Config.omciReply (0) ([]) req) ++ beBytes 4 (omciMicOf k 2 ((Config.omciReply (0) ([]) req))) }] } : PonState))) ∧ t.ctrs = (if (s.bit (pnB c) F.PN_OSP_CFG.OMCI_OSP = true ∨ s.bit (pnB c) F.PN_OMCC.VALID = false) then ((s)).pCount c Ctr.PN.OSP_US_DROP else ((s)).count (stwB + Ctr.STW.OMCI_TX)).ctrs) ∧
      t = { s with pon := t.pon, stw := t.stw, ctrs := t.ctrs, timers := t.timers, regs := t.regs } ∧
      TimersBut [Tm.omciHost] s t ∧ RegsBut [stwB+0x140] s t) ∧
  (∀ (c : PonCh) (req : List Byte) (k : Nat) (s : State), s.timerOn Tm.omciHost = true →
      s.stw.waitHost = some (c.val, req) ∧ s.omciKey c = some k →
    Does .omciHostAckTimeout s fun t =>
      t.stw = { s.stw with waitHost := none } ∧
      t.pon = ((s.atEnd Tm.omciHost)).pon.set c (((if (s.bit (pnB c) F.PN_OSP_CFG.OMCI_OSP = true ∨ s.bit (pnB c) F.PN_OMCC.VALID = false) then ((s.atEnd Tm.omciHost)).pn c else { ((s.atEnd Tm.omciHost)).pn c with lastN := (((s.atEnd Tm.omciHost)).pn c).lastN + 1, omccUp := (((s.atEnd Tm.omciHost)).pn c).omccUp ++ [{ n := (((s.atEnd Tm.omciHost)).pn c).lastN + 1, osp := false, data := (Config.omciReply (6) ([]) req) ++ beBytes 4 (omciMicOf k 2 ((Config.omciReply (6) ([]) req))) }] } : PonState))) ∧ t.ctrs = (if (s.bit (pnB c) F.PN_OSP_CFG.OMCI_OSP = true ∨ s.bit (pnB c) F.PN_OMCC.VALID = false) then ((s.atEnd Tm.omciHost)).pCount c Ctr.PN.OSP_US_DROP else ((s.atEnd Tm.omciHost)).count (stwB + Ctr.STW.OMCI_TX)).ctrs ∧
      t = { (s.atEnd Tm.omciHost) with pon := t.pon, stw := t.stw, ctrs := t.ctrs }) ∧
  (∀ (s : State), s.timerOn Tm.omciHost = true → s.stw.waitHost = none →
    Does .omciHostAckTimeout s fun t =>
      t = s.atEnd Tm.omciHost) ∧
  (∀ (s : State), s.reaches .steward (stwB + 0x1C0) = true →
    Does .mailboxS2hGo s fun t =>
      (if (s.bit stwB F.STW_MB_S2H_CTRL.FULL) then t = s else t.bit stwB F.STW_MB_S2H_CTRL.FULL = true ∧ t.evt = (s.raise Ev.STW_MB_S2H 0x3F noInst [(4, (s.reg (stwB + 0x180)).toNat)]).evt) ∧
      t = { s with evt := t.evt, regs := t.regs } ∧ RegsBut [stwB+0x1C0] s t) ∧
  (∀ (s : State), s.reaches .host (stwB + 0x1C0) = true → s.stw.mbWait = [] →
    Does .mailboxS2hAck s fun t =>
      t.bit stwB F.STW_MB_S2H_CTRL.FULL = false ∧ t = { s with regs := t.regs } ∧ RegsBut [stwB+0x1C0] s t) ∧
  (∀ (msg : List Word) (rest : List (List Word)) (s : State), s.reaches .host (stwB + 0x1C0) = true →
      s.stw.mbWait = msg :: rest ∧ msg.length ≤ 16 →
    Does .mailboxS2hAck s fun t =>
      t.bit stwB F.STW_MB_S2H_CTRL.FULL = true ∧ t.stw = { s.stw with mbWait := rest } ∧
      (List.range 16).all (fun i => t.reg (stwB + 0x180 + 4 * i) == msg.getD i 0) = true ∧
      t.evt = (s.raise Ev.STW_MB_S2H 0x3F noInst [(4, (msg.getD 0 0).toNat)]).evt ∧
      t = { s with stw := t.stw, evt := t.evt, regs := t.regs } ∧
      RegsBut ([stwB+0x1C0] ++ (List.range 16).map fun i => stwB+0x180+4*i) s t) ∧
  (∀ (offset len : BitVec 14) (s : State), s.reaches .steward (stwB + 0x200) = true →
      s.bit ((stwB)) F.STW_PKT_CMD.BUSY = true →
    Does (.stwPktCopy offset len) s fun t =>
      t = s) ∧
  (∀ (offset len : BitVec 14) (s : State), s.reaches .steward (stwB + 0x200) = true →
      s.bit ((stwB)) F.STW_PKT_CMD.BUSY = false →
      (if decide (s.swIsland = 0x3A) = false then s.delivered else none) = none →
    Does (.stwPktCopy offset len) s fun t =>
      t.fld ((stwB)) F.STW_PKT_CMD.OFFSET = offset.toNat ∧ t.fld ((stwB)) F.STW_PKT_CMD.LEN = len.toNat ∧ t.fld ((stwB)) F.STW_PKT_CMD.CAUSE = 1 ∧ t.bit ((stwB)) F.STW_PKT_CMD.BUSY = false ∧
      t = { s with regs := t.regs } ∧ RegsBut [stwB+0x200] s t) ∧
  (∀ (offset len : BitVec 14) (it : Item) (s : State), s.reaches .steward (stwB + 0x200) = true →
      s.bit ((stwB)) F.STW_PKT_CMD.BUSY = false →
      (if decide (s.swIsland = 0x3A) = false then s.delivered else none) = some it ∧ it.pkt.bytes.length < offset.toNat + len.toNat →
    Does (.stwPktCopy offset len) s fun t =>
      t.fld ((stwB)) F.STW_PKT_CMD.OFFSET = offset.toNat ∧ t.fld ((stwB)) F.STW_PKT_CMD.LEN = len.toNat ∧ t.fld ((stwB)) F.STW_PKT_CMD.CAUSE = 2 ∧ t.bit ((stwB)) F.STW_PKT_CMD.BUSY = false ∧
      t = { s with regs := t.regs } ∧ RegsBut [stwB+0x200] s t) ∧
  (∀ (offset len : BitVec 14) (it : Item) (s : State), s.reaches .steward (stwB + 0x200) = true →
      s.bit ((stwB)) F.STW_PKT_CMD.BUSY = false →
      (if decide (s.swIsland = 0x3A) = false then s.delivered else none) = some it ∧ offset.toNat + len.toNat ≤ it.pkt.bytes.length →
    Does (.stwPktCopy offset len) s fun t =>
      t.fld ((stwB)) F.STW_PKT_CMD.OFFSET = offset.toNat ∧ t.fld ((stwB)) F.STW_PKT_CMD.LEN = len.toNat ∧ t.fld ((stwB)) F.STW_PKT_CMD.CAUSE = 0 ∧ t.bit ((stwB)) F.STW_PKT_CMD.BUSY = true ∧
      t.out = s.out ++ [.stewardWrite (s.fld stwB F.STW_PKT_DST.ADDR) (bytesAt it.pkt.wallet 0 128 ++ stampBytes it.pkt.rxStamp ++ bytesAt it.pkt.bytes offset.toNat len.toNat)] ∧
      t = { s with out := t.out, regs := t.regs } ∧ RegsBut [stwB+0x200] s t) ∧
  (∀ (offset len : BitVec 14) (s : State), s.reaches .host (hstB + 0x20) = true →
      s.bit (((hstB + F.HST_PKT_CMD.GO.off - F.STW_PKT_CMD.GO.off))) F.STW_PKT_CMD.BUSY = true →
    Does (.hstPktCopy offset len) s fun t =>
      t = s) ∧
  (∀ (offset len : BitVec 14) (s : State), s.reaches .host (hstB + 0x20) = true →
      s.bit (((hstB + F.HST_PKT_CMD.GO.off - F.STW_PKT_CMD.GO.off))) F.STW_PKT_CMD.BUSY = false →
      (if decide (s.swIsland = 0x3A) = true then s.delivered else none) = none →
    Does (.hstPktCopy offset len) s fun t =>
      t.fld (((hstB + F.HST_PKT_CMD.GO.off - F.STW_PKT_CMD.GO.off))) F.STW_PKT_CMD.OFFSET = offset.toNat ∧ t.fld (((hstB + F.HST_PKT_CMD.GO.off - F.STW_PKT_CMD.GO.off))) F.STW_PKT_CMD.LEN = len.toNat ∧ t.fld (((hstB + F.HST_PKT_CMD.GO.off - F.STW_PKT_CMD.GO.off))) F.STW_PKT_CMD.CAUSE = 1 ∧ t.bit (((hstB + F.HST_PKT_CMD.GO.off - F.STW_PKT_CMD.GO.off))) F.STW_PKT_CMD.BUSY = false ∧
      t = { s with regs := t.regs } ∧ RegsBut [hstB+0x20] s t) ∧
  (∀ (offset len : BitVec 14) (it : Item) (s : State), s.reaches .host (hstB + 0x20) = true →
      s.bit (((hstB + F.HST_PKT_CMD.GO.off - F.STW_PKT_CMD.GO.off))) F.STW_PKT_CMD.BUSY = false →
      (if decide (s.swIsland = 0x3A) = true then s.delivered else none) = some it ∧ it.pkt.bytes.length < offset.toNat + len.toNat →
    Does (.hstPktCopy offset len) s fun t =>
      t.fld (((hstB + F.HST_PKT_CMD.GO.off - F.STW_PKT_CMD.GO.off))) F.STW_PKT_CMD.OFFSET = offset.toNat ∧ t.fld (((hstB + F.HST_PKT_CMD.GO.off - F.STW_PKT_CMD.GO.off))) F.STW_PKT_CMD.LEN = len.toNat ∧ t.fld (((hstB + F.HST_PKT_CMD.GO.off - F.STW_PKT_CMD.GO.off))) F.STW_PKT_CMD.CAUSE = 2 ∧ t.bit (((hstB + F.HST_PKT_CMD.GO.off - F.STW_PKT_CMD.GO.off))) F.STW_PKT_CMD.BUSY = false ∧
      t = { s with regs := t.regs } ∧ RegsBut [hstB+0x20] s t) ∧
  (∀ (offset len : BitVec 14) (it : Item) (s : State), s.reaches .host (hstB + 0x20) = true →
      s.bit (((hstB + F.HST_PKT_CMD.GO.off - F.STW_PKT_CMD.GO.off))) F.STW_PKT_CMD.BUSY = false →
      (if decide (s.swIsland = 0x3A) = true then s.delivered else none) = some it ∧ offset.toNat + len.toNat ≤ it.pkt.bytes.length →
    Does (.hstPktCopy offset len) s fun t =>
      t.fld (((hstB + F.HST_PKT_CMD.GO.off - F.STW_PKT_CMD.GO.off))) F.STW_PKT_CMD.OFFSET = offset.toNat ∧ t.fld (((hstB + F.HST_PKT_CMD.GO.off - F.STW_PKT_CMD.GO.off))) F.STW_PKT_CMD.LEN = len.toNat ∧ t.fld (((hstB + F.HST_PKT_CMD.GO.off - F.STW_PKT_CMD.GO.off))) F.STW_PKT_CMD.CAUSE = 0 ∧ t.bit (((hstB + F.HST_PKT_CMD.GO.off - F.STW_PKT_CMD.GO.off))) F.STW_PKT_CMD.BUSY = true ∧
      t.out = s.out ++ [.hostWrite (s.fld hstB F.HST_PKT_ADDR_LO.ADDR + s.fld hstB F.HST_PKT_ADDR_HI.ADDR * 2 ^ 32) (bytesAt it.pkt.wallet 0 128 ++ stampBytes it.pkt.rxStamp ++ bytesAt it.pkt.bytes offset.toNat len.toNat)] ∧
      t = { s with out := t.out, regs := t.regs } ∧ RegsBut [hstB+0x20] s t) ∧
  (∀ (host : Bool) (s : State),
    Does (.pktCopyDone host) s fun t =>
      t.bit ((if host then hstB + F.HST_PKT_CMD.GO.off - F.STW_PKT_CMD.GO.off else stwB)) F.STW_PKT_CMD.BUSY = false ∧
      t = { s with regs := t.regs } ∧ RegsBut [if host then hstB+0x20 else stwB+0x200] s t)

/-- The agent of a channel, in RUN with no 15-minute interval ended, takes the oldest SDU and counts it. One whose MIC
fails is discarded and counted. A class outside the list is answered unknown (4), what only the primary channel may ask
attributes failed (9) on the other. A request with an answer code of its own is answered with it; a Get reports the
device's values, a Set or Create of an entity of one channel puts the attributes in its MIB with its data sync (255 to
1, log entry 183), a Delete takes them out, a MIB reset empties it. A download starts with the erase of the copy that
does not run and its sections are programmed there; the running copy is refused (result codes, log entry 181); End
download starts a verification and waits, Activate starts a SWITCH, Commit sets the preference and the floor, in the
Ledger too unless a sag is in force. An optics message goes out; Synchronize time starts the intervals anew; a twin flow
without both Port-IDs and a fixed UNI attribute are answered 3. The optics poll sets each alarm to what holds and sends
each change. Free values stand for what the firmware words in its answers. Nothing else changes but what the clauses
name. -/
def Obligations.OmciRequestsAreCarriedOut : Prop :=
  (∀ (c : PonCh) (r : OmciReq) (s : State), (s.stwState ≠ 1 ∨ (s.pn c).omciIn = []) →
    Does (.omciMessage c r) s fun t =>
      t = s) ∧
  (∀ (c : PonCh) (r : OmciReq) (req : List Byte) (rest : List (List Byte)) (s : State), (s.pn c).omciIn = req :: rest →
      s.stwState = 1 ∧ s.now < s.stw.pmAt + 900000 * msTicks → s.omciMicOk c.val req = false →
    Does (.omciMessage c r) s fun t =>
      t.pon = s.pon.set c { s.pn c with omciIn := rest } ∧
      t.ctrs = (((s.count (stwB + Ctr.STW.OMCI_RX))).count (stwB + Ctr.STW.OMCI_MIC)).ctrs ∧
      t = { s with pon := t.pon, ctrs := t.ctrs }) ∧
  (∀ (c : PonCh) (r : OmciReq) (req : List Byte) (rest : List (List Byte)) (k : Nat) (s : State),
      (s.pn c).omciIn = req :: rest → s.stwState = 1 ∧ s.now < s.stw.pmAt + 900000 * msTicks →
      s.omciKey c.val = some k ∧ s.omciMicOk c.val req = true → omciClasses.contains r.cls.toNat = false →
    Does (.omciMessage c r) s fun t =>
      (t.pon = s.pon.set c (((if (s.bit (pnB c) F.PN_OSP_CFG.OMCI_OSP = true ∨ s.bit (pnB c) F.PN_OMCC.VALID = false) then { s.pn c with omciIn := rest } else { s.pn c with omciIn := rest, lastN := (s.pn c).lastN + 1, omccUp := (s.pn c).omccUp ++ [{ n := (s.pn c).lastN + 1, osp := false, data := (Config.omciReply (4) ([]) req) ++ beBytes 4 (omciMicOf k 2 ((Config.omciReply (4) ([]) req))) }] } : PonState))) ∧ t.ctrs = (if (s.bit (pnB c) F.PN_OSP_CFG.OMCI_OSP = true ∨ s.bit (pnB c) F.PN_OMCC.VALID = false) then ((s.count (stwB + Ctr.STW.OMCI_RX))).pCount c Ctr.PN.OSP_US_DROP else ((s.count (stwB + Ctr.STW.OMCI_RX))).count (stwB + Ctr.STW.OMCI_TX)).ctrs) ∧
      t = { s with pon := t.pon, ctrs := t.ctrs }) ∧
  (∀ (c : PonCh) (r : OmciReq) (req : List Byte) (rest : List (List Byte)) (k : Nat) (s : State),
      (s.pn c).omciIn = req :: rest → s.stwState = 1 ∧ s.now < s.stw.pmAt + 900000 * msTicks →
      s.omciKey c.val = some k ∧ s.omciMicOk c.val req = true →
      omciClasses.contains r.cls.toNat = true ∧ omciPrimaryOnly r = true ∧ c.val ≠ s.primary →
    Does (.omciMessage c r) s fun t =>
      (t.pon = s.pon.set c (((if (s.bit (pnB c) F.PN_OSP_CFG.OMCI_OSP = true ∨ s.bit (pnB c) F.PN_OMCC.VALID = false) then { s.pn c with omciIn := rest } else { s.pn c with omciIn := rest, lastN := (s.pn c).lastN + 1, omccUp := (s.pn c).omccUp ++ [{ n := (s.pn c).lastN + 1, osp := false, data := (Config.omciReply (9) ([]) req) ++ beBytes 4 (omciMicOf k 2 ((Config.omciReply (9) ([]) req))) }] } : PonState))) ∧ t.ctrs = (if (s.bit (pnB c) F.PN_OSP_CFG.OMCI_OSP = true ∨ s.bit (pnB c) F.PN_OMCC.VALID = false) then ((s.count (stwB + Ctr.STW.OMCI_RX))).pCount c Ctr.PN.OSP_US_DROP else ((s.count (stwB + Ctr.STW.OMCI_RX))).count (stwB + Ctr.STW.OMCI_TX)).ctrs) ∧
      t = { s with pon := t.pon, ctrs := t.ctrs }) ∧
  (∀ (c : PonCh) (r : OmciReq) (code : BitVec 4) (req : List Byte) (rest : List (List Byte)) (k : Nat) (s : State),
      (s.pn c).omciIn = req :: rest → s.stwState = 1 ∧ s.now < s.stw.pmAt + 900000 * msTicks →
      s.omciKey c.val = some k ∧ s.omciMicOk c.val req = true →
      omciClasses.contains r.cls.toNat = true ∧ (omciPrimaryOnly r = false ∨ c.val = s.primary) ∧ r.op ≠ .reboot →
      r.act = .answer code ∧ code ≠ 0 →
    Does (.omciMessage c r) s fun t =>
      (t.pon = s.pon.set c (((if (s.bit (pnB c) F.PN_OSP_CFG.OMCI_OSP = true ∨ s.bit (pnB c) F.PN_OMCC.VALID = false) then { s.pn c with omciIn := rest } else { s.pn c with omciIn := rest, lastN := (s.pn c).lastN + 1, omccUp := (s.pn c).omccUp ++ [{ n := (s.pn c).lastN + 1, osp := false, data := (Config.omciReply (code.toNat) ([]) req) ++ beBytes 4 (omciMicOf k 2 ((Config.omciReply (code.toNat) ([]) req))) }] } : PonState))) ∧ t.ctrs = (if (s.bit (pnB c) F.PN_OSP_CFG.OMCI_OSP = true ∨ s.bit (pnB c) F.PN_OMCC.VALID = false) then ((s.count (stwB + Ctr.STW.OMCI_RX))).pCount c Ctr.PN.OSP_US_DROP else ((s.count (stwB + Ctr.STW.OMCI_RX))).count (stwB + Ctr.STW.OMCI_TX)).ctrs) ∧
      t = { s with pon := t.pon, ctrs := t.ctrs }) ∧
  (∀ (c : PonCh) (r : OmciReq) (req : List Byte) (rest : List (List Byte)) (k : Nat) (s : State),
      (s.pn c).omciIn = req :: rest → s.stwState = 1 ∧ s.now < s.stw.pmAt + 900000 * msTicks →
      s.omciKey c.val = some k ∧ s.omciMicOk c.val req = true →
      omciClasses.contains r.cls.toNat = true ∧ (omciPrimaryOnly r = false ∨ c.val = s.primary) ∧ r.op ≠ .reboot →
      r.act = .answer 0 ∧ r.op = .get ∧ r.keep = none →
    Does (.omciMessage c r) s fun t =>
      (t.pon = s.pon.set c (((if (s.bit (pnB c) F.PN_OSP_CFG.OMCI_OSP = true ∨ s.bit (pnB c) F.PN_OMCC.VALID = false) then { s.pn c with omciIn := rest } else { s.pn c with omciIn := rest, lastN := (s.pn c).lastN + 1, omccUp := (s.pn c).omccUp ++ [{ n := (s.pn c).lastN + 1, osp := false, data := (Config.omciReply (0) ((s.omciValues c.val r)) req) ++ beBytes 4 (omciMicOf k 2 ((Config.omciReply (0) ((s.omciValues c.val r)) req))) }] } : PonState))) ∧ t.ctrs = (if (s.bit (pnB c) F.PN_OSP_CFG.OMCI_OSP = true ∨ s.bit (pnB c) F.PN_OMCC.VALID = false) then ((s.count (stwB + Ctr.STW.OMCI_RX))).pCount c Ctr.PN.OSP_US_DROP else ((s.count (stwB + Ctr.STW.OMCI_RX))).count (stwB + Ctr.STW.OMCI_TX)).ctrs) ∧
      t = { s with pon := t.pon, ctrs := t.ctrs }) ∧
  (∀ (c : PonCh) (r : OmciReq) (req : List Byte) (rest : List (List Byte)) (k : Nat) (s : State),
      (s.pn c).omciIn = req :: rest → s.stwState = 1 ∧ s.now < s.stw.pmAt + 900000 * msTicks →
      s.omciKey c.val = some k ∧ s.omciMicOk c.val req = true →
      omciClasses.contains r.cls.toNat = true ∧ (omciPrimaryOnly r = false ∨ c.val = s.primary) ∧ r.op ≠ .reboot →
      r.act = .answer 0 ∧ (r.op = .set ∨ r.op = .create) ∧ r.keep = none ∧ omciShared.contains r.cls.toNat = false →
    Does (.omciMessage c r) s fun t =>
      (t.pon = s.pon.set c (((if (s.bit (pnB c) F.PN_OSP_CFG.OMCI_OSP = true ∨ s.bit (pnB c) F.PN_OMCC.VALID = false) then { s.pn c with omciIn := rest } else { s.pn c with omciIn := rest, lastN := (s.pn c).lastN + 1, omccUp := (s.pn c).omccUp ++ [{ n := (s.pn c).lastN + 1, osp := false, data := (Config.omciReply (0) ([]) req) ++ beBytes 4 (omciMicOf k 2 ((Config.omciReply (0) ([]) req))) }] } : PonState))) ∧ t.ctrs = (if (s.bit (pnB c) F.PN_OSP_CFG.OMCI_OSP = true ∨ s.bit (pnB c) F.PN_OMCC.VALID = false) then ((s.count (stwB + Ctr.STW.OMCI_RX))).pCount c Ctr.PN.OSP_US_DROP else ((s.count (stwB + Ctr.STW.OMCI_RX))).count (stwB + Ctr.STW.OMCI_TX)).ctrs) ∧
      t.stw = { s.stw with mibs := s.stw.mibs.set c { sync := if (s.mib c).sync = 255 then 1 else (s.mib c).sync + 1, ents := SMap.set (fun _ => none) (s.mib c).ents (r.cls.toNat * 65536 + r.inst.toNat) (some r.attrs) } } ∧
      t = { s with pon := t.pon, ctrs := t.ctrs, stw := t.stw }) ∧
  (∀ (c : PonCh) (r : OmciReq) (req : List Byte) (rest : List (List Byte)) (k : Nat) (s : State),
      (s.pn c).omciIn = req :: rest → s.stwState = 1 ∧ s.now < s.stw.pmAt + 900000 * msTicks →
      s.omciKey c.val = some k ∧ s.omciMicOk c.val req = true →
      omciClasses.contains r.cls.toNat = true ∧ (omciPrimaryOnly r = false ∨ c.val = s.primary) ∧ r.op ≠ .reboot →
      r.act = .answer 0 ∧ r.op = .delete ∧ r.keep = none ∧ omciShared.contains r.cls.toNat = false →
    Does (.omciMessage c r) s fun t =>
      (t.pon = s.pon.set c (((if (s.bit (pnB c) F.PN_OSP_CFG.OMCI_OSP = true ∨ s.bit (pnB c) F.PN_OMCC.VALID = false) then { s.pn c with omciIn := rest } else { s.pn c with omciIn := rest, lastN := (s.pn c).lastN + 1, omccUp := (s.pn c).omccUp ++ [{ n := (s.pn c).lastN + 1, osp := false, data := (Config.omciReply (0) ([]) req) ++ beBytes 4 (omciMicOf k 2 ((Config.omciReply (0) ([]) req))) }] } : PonState))) ∧ t.ctrs = (if (s.bit (pnB c) F.PN_OSP_CFG.OMCI_OSP = true ∨ s.bit (pnB c) F.PN_OMCC.VALID = false) then ((s.count (stwB + Ctr.STW.OMCI_RX))).pCount c Ctr.PN.OSP_US_DROP else ((s.count (stwB + Ctr.STW.OMCI_RX))).count (stwB + Ctr.STW.OMCI_TX)).ctrs) ∧
      t.stw = { s.stw with mibs := s.stw.mibs.set c { sync := if (s.mib c).sync = 255 then 1 else (s.mib c).sync + 1, ents := SMap.set (fun _ => none) (s.mib c).ents (r.cls.toNat * 65536 + r.inst.toNat) none } } ∧
      t = { s with pon := t.pon, ctrs := t.ctrs, stw := t.stw }) ∧
  (∀ (c : PonCh) (r : OmciReq) (req : List Byte) (rest : List (List Byte)) (k : Nat) (s : State),
      (s.pn c).omciIn = req :: rest → s.stwState = 1 ∧ s.now < s.stw.pmAt + 900000 * msTicks →
      s.omciKey c.val = some k ∧ s.omciMicOk c.val req = true →
      omciClasses.contains r.cls.toNat = true ∧ (omciPrimaryOnly r = false ∨ c.val = s.primary) ∧ r.op ≠ .reboot →
      r.act = .answer 0 ∧ r.op = .mibReset ∧ r.keep = none →
    Does (.omciMessage c r) s fun t =>
      (t.pon = s.pon.set c (((if (s.bit (pnB c) F.PN_OSP_CFG.OMCI_OSP = true ∨ s.bit (pnB c) F.PN_OMCC.VALID = false) then { s.pn c with omciIn := rest } else { s.pn c with omciIn := rest, lastN := (s.pn c).lastN + 1, omccUp := (s.pn c).omccUp ++ [{ n := (s.pn c).lastN + 1, osp := false, data := (Config.omciReply (0) ([]) req) ++ beBytes 4 (omciMicOf k 2 ((Config.omciReply (0) ([]) req))) }] } : PonState))) ∧ t.ctrs = (if (s.bit (pnB c) F.PN_OSP_CFG.OMCI_OSP = true ∨ s.bit (pnB c) F.PN_OMCC.VALID = false) then ((s.count (stwB + Ctr.STW.OMCI_RX))).pCount c Ctr.PN.OSP_US_DROP else ((s.count (stwB + Ctr.STW.OMCI_RX))).count (stwB + Ctr.STW.OMCI_TX)).ctrs) ∧
      t.stw = { s.stw with mibs := s.stw.mibs.set c { sync := 0, ents := [] } } ∧
      t = { s with pon := t.pon, ctrs := t.ctrs, stw := t.stw }) ∧
  (∀ (c : PonCh) (r : OmciReq) (cp : Fin 2) (req : List Byte) (rest : List (List Byte)) (k : Nat) (s : State),
      (s.pn c).omciIn = req :: rest → s.stwState = 1 ∧ s.now < s.stw.pmAt + 900000 * msTicks →
      s.omciKey c.val = some k ∧ s.omciMicOk c.val req = true →
      omciClasses.contains r.cls.toNat = true ∧ (omciPrimaryOnly r = false ∨ c.val = s.primary) ∧ r.op ≠ .reboot →
      r.act = .startDownload cp ∧ cp.val ≠ s.fld stwB F.STW_STAT.FW_COPY ∧ s.sagging = false →
    Does (.omciMessage c r) s fun t =>
      (t.pon = s.pon.set c (((if (s.bit (pnB c) F.PN_OSP_CFG.OMCI_OSP = true ∨ s.bit (pnB c) F.PN_OMCC.VALID = false) then { s.pn c with omciIn := rest } else { s.pn c with omciIn := rest, lastN := (s.pn c).lastN + 1, omccUp := (s.pn c).omccUp ++ [{ n := (s.pn c).lastN + 1, osp := false, data := (Config.omciReply (0) ([]) req) ++ beBytes 4 (omciMicOf k 2 ((Config.omciReply (0) ([]) req))) }] } : PonState))) ∧ t.ctrs = (if (s.bit (pnB c) F.PN_OSP_CFG.OMCI_OSP = true ∨ s.bit (pnB c) F.PN_OMCC.VALID = false) then ((s.count (stwB + Ctr.STW.OMCI_RX))).pCount c Ctr.PN.OSP_US_DROP else ((s.count (stwB + Ctr.STW.OMCI_RX))).count (stwB + Ctr.STW.OMCI_TX)).ctrs) ∧
      t.flash = { s.flashSettle.flash with busy := some (0x02000000 + cp.val * 0x00800000, List.replicate (2 ^ 23) 0xFF) } ∧
      t = { s with pon := t.pon, ctrs := t.ctrs, flash := t.flash }) ∧
  (∀ (c : PonCh) (r : OmciReq) (cp : Fin 2) (req : List Byte) (rest : List (List Byte)) (k : Nat) (s : State),
      (s.pn c).omciIn = req :: rest → s.stwState = 1 ∧ s.now < s.stw.pmAt + 900000 * msTicks →
      s.omciKey c.val = some k ∧ s.omciMicOk c.val req = true →
      omciClasses.contains r.cls.toNat = true ∧ (omciPrimaryOnly r = false ∨ c.val = s.primary) ∧ r.op ≠ .reboot →
      r.act = .startDownload cp ∧ cp.val = s.fld stwB F.STW_STAT.FW_COPY →
    Does (.omciMessage c r) s fun t =>
      (t.pon = s.pon.set c (((if (s.bit (pnB c) F.PN_OSP_CFG.OMCI_OSP = true ∨ s.bit (pnB c) F.PN_OMCC.VALID = false) then { s.pn c with omciIn := rest } else { s.pn c with omciIn := rest, lastN := (s.pn c).lastN + 1, omccUp := (s.pn c).omccUp ++ [{ n := (s.pn c).lastN + 1, osp := false, data := (Config.omciReply (1) ([]) req) ++ beBytes 4 (omciMicOf k 2 ((Config.omciReply (1) ([]) req))) }] } : PonState))) ∧ t.ctrs = (if (s.bit (pnB c) F.PN_OSP_CFG.OMCI_OSP = true ∨ s.bit (pnB c) F.PN_OMCC.VALID = false) then ((s.count (stwB + Ctr.STW.OMCI_RX))).pCount c Ctr.PN.OSP_US_DROP else ((s.count (stwB + Ctr.STW.OMCI_RX))).count (stwB + Ctr.STW.OMCI_TX)).ctrs) ∧
      t = { s with pon := t.pon, ctrs := t.ctrs }) ∧
  (∀ (c : PonCh) (r : OmciReq) (cp : Fin 2) (off : BitVec 23) (data : List Byte) (req : List Byte) (rest : List (List Byte)) (k : Nat) (s : State),
      (s.pn c).omciIn = req :: rest → s.stwState = 1 ∧ s.now < s.stw.pmAt + 900000 * msTicks →
      s.omciKey c.val = some k ∧ s.omciMicOk c.val req = true →
      omciClasses.contains r.cls.toNat = true ∧ (omciPrimaryOnly r = false ∨ c.val = s.primary) ∧ r.op ≠ .reboot →
      r.act = .section_ cp off data ∧ cp.val ≠ s.fld stwB F.STW_STAT.FW_COPY ∧ s.sagging = false ∧ off.toNat + data.length ≤ 2 ^ 23 →
    Does (.omciMessage c r) s fun t =>
      (t.pon = s.pon.set c (((if (s.bit (pnB c) F.PN_OSP_CFG.OMCI_OSP = true ∨ s.bit (pnB c) F.PN_OMCC.VALID = false) then { s.pn c with omciIn := rest } else { s.pn c with omciIn := rest, lastN := (s.pn c).lastN + 1, omccUp := (s.pn c).omccUp ++ [{ n := (s.pn c).lastN + 1, osp := false, data := (Config.omciReply (0) ([]) req) ++ beBytes 4 (omciMicOf k 2 ((Config.omciReply (0) ([]) req))) }] } : PonState))) ∧ t.ctrs = (if (s.bit (pnB c) F.PN_OSP_CFG.OMCI_OSP = true ∨ s.bit (pnB c) F.PN_OMCC.VALID = false) then ((s.count (stwB + Ctr.STW.OMCI_RX))).pCount c Ctr.PN.OSP_US_DROP else ((s.count (stwB + Ctr.STW.OMCI_RX))).count (stwB + Ctr.STW.OMCI_TX)).ctrs) ∧
      t.flash = { s.flashSettle.flash with busy := some (0x02000000 + cp.val * 0x00800000 + off.toNat, data) } ∧
      t = { s with pon := t.pon, ctrs := t.ctrs, flash := t.flash }) ∧
  (∀ (c : PonCh) (r : OmciReq) (cp : Fin 2) (off : BitVec 23) (data : List Byte) (req : List Byte) (rest : List (List Byte)) (k : Nat) (s : State),
      (s.pn c).omciIn = req :: rest → s.stwState = 1 ∧ s.now < s.stw.pmAt + 900000 * msTicks →
      s.omciKey c.val = some k ∧ s.omciMicOk c.val req = true →
      omciClasses.contains r.cls.toNat = true ∧ (omciPrimaryOnly r = false ∨ c.val = s.primary) ∧ r.op ≠ .reboot →
      r.act = .section_ cp off data ∧ cp.val = s.fld stwB F.STW_STAT.FW_COPY →
    Does (.omciMessage c r) s fun t =>
      (t.pon = s.pon.set c (((if (s.bit (pnB c) F.PN_OSP_CFG.OMCI_OSP = true ∨ s.bit (pnB c) F.PN_OMCC.VALID = false) then { s.pn c with omciIn := rest } else { s.pn c with omciIn := rest, lastN := (s.pn c).lastN + 1, omccUp := (s.pn c).omccUp ++ [{ n := (s.pn c).lastN + 1, osp := false, data := (Config.omciReply (1) ([]) req) ++ beBytes 4 (omciMicOf k 2 ((Config.omciReply (1) ([]) req))) }] } : PonState))) ∧ t.ctrs = (if (s.bit (pnB c) F.PN_OSP_CFG.OMCI_OSP = true ∨ s.bit (pnB c) F.PN_OMCC.VALID = false) then ((s.count (stwB + Ctr.STW.OMCI_RX))).pCount c Ctr.PN.OSP_US_DROP else ((s.count (stwB + Ctr.STW.OMCI_RX))).count (stwB + Ctr.STW.OMCI_TX)).ctrs) ∧
      t = { s with pon := t.pon, ctrs := t.ctrs }) ∧
  (∀ (c : PonCh) (r : OmciReq) (cp : Fin 2) (req : List Byte) (rest : List (List Byte)) (k : Nat) (s : State),
      (s.pn c).omciIn = req :: rest → s.stwState = 1 ∧ s.now < s.stw.pmAt + 900000 * msTicks →
      s.omciKey c.val = some k ∧ s.omciMicOk c.val req = true →
      omciClasses.contains r.cls.toNat = true ∧ (omciPrimaryOnly r = false ∨ c.val = s.primary) ∧ r.op ≠ .reboot →
      r.act = .endDownload cp ∧ s.stw.verify = none →
    Does (.omciMessage c r) s fun t =>
      t.pon = s.pon.set c { s.pn c with omciIn := rest } ∧ t.ctrs = ((s.count (stwB + Ctr.STW.OMCI_RX))).ctrs ∧
      t.stw = { s.stw with verify := some (cp.val, true), download := some (c.val, req) } ∧ t.bit stwB F.STW_STAT.VERIFYING = true ∧
      t = { s with pon := t.pon, ctrs := t.ctrs, stw := t.stw, regs := t.regs } ∧ RegsBut [(stwB+0x4)] s t) ∧
  (∀ (c : PonCh) (r : OmciReq) (cp : Fin 2) (req : List Byte) (rest : List (List Byte)) (k : Nat) (s : State),
      (s.pn c).omciIn = req :: rest → s.stwState = 1 ∧ s.now < s.stw.pmAt + 900000 * msTicks →
      s.omciKey c.val = some k ∧ s.omciMicOk c.val req = true →
      omciClasses.contains r.cls.toNat = true ∧ (omciPrimaryOnly r = false ∨ c.val = s.primary) ∧ r.op ≠ .reboot →
      r.act = .activate cp ∧ s.stw.verify = none →
    Does (.omciMessage c r) s fun t =>
      (t.pon = s.pon.set c (((if (s.bit (pnB c) F.PN_OSP_CFG.OMCI_OSP = true ∨ s.bit (pnB c) F.PN_OMCC.VALID = false) then { s.pn c with omciIn := rest } else { s.pn c with omciIn := rest, lastN := (s.pn c).lastN + 1, omccUp := (s.pn c).omccUp ++ [{ n := (s.pn c).lastN + 1, osp := false, data := (Config.omciReply (0) ([]) req) ++ beBytes 4 (omciMicOf k 2 ((Config.omciReply (0) ([]) req))) }] } : PonState))) ∧ t.ctrs = (if (s.bit (pnB c) F.PN_OSP_CFG.OMCI_OSP = true ∨ s.bit (pnB c) F.PN_OMCC.VALID = false) then ((s.count (stwB + Ctr.STW.OMCI_RX))).pCount c Ctr.PN.OSP_US_DROP else ((s.count (stwB + Ctr.STW.OMCI_RX))).count (stwB + Ctr.STW.OMCI_TX)).ctrs) ∧
      t.stw = { s.stw with verify := some (cp.val, false) } ∧ t.bit stwB F.STW_STAT.VERIFYING = true ∧
      t = { s with pon := t.pon, ctrs := t.ctrs, stw := t.stw, regs := t.regs } ∧ RegsBut [(stwB+0x4)] s t) ∧
  (∀ (c : PonCh) (r : OmciReq) (cp : Fin 2) (req : List Byte) (rest : List (List Byte)) (k : Nat) (s : State),
      (s.pn c).omciIn = req :: rest → s.stwState = 1 ∧ s.now < s.stw.pmAt + 900000 * msTicks →
      s.omciKey c.val = some k ∧ s.omciMicOk c.val req = true →
      omciClasses.contains r.cls.toNat = true ∧ (omciPrimaryOnly r = false ∨ c.val = s.primary) ∧ r.op ≠ .reboot →
      r.act = .commit cp →
    Does (.omciMessage c r) s fun t =>
      (t.pon = s.pon.set c (((if (s.bit (pnB c) F.PN_OSP_CFG.OMCI_OSP = true ∨ s.bit (pnB c) F.PN_OMCC.VALID = false) then { s.pn c with omciIn := rest } else { s.pn c with omciIn := rest, lastN := (s.pn c).lastN + 1, omccUp := (s.pn c).omccUp ++ [{ n := (s.pn c).lastN + 1, osp := false, data := (Config.omciReply (0) ([]) req) ++ beBytes 4 (omciMicOf k 2 ((Config.omciReply (0) ([]) req))) }] } : PonState))) ∧ t.ctrs = (if (s.bit (pnB c) F.PN_OSP_CFG.OMCI_OSP = true ∨ s.bit (pnB c) F.PN_OMCC.VALID = false) then ((s.count (stwB + Ctr.STW.OMCI_RX))).pCount c Ctr.PN.OSP_US_DROP else ((s.count (stwB + Ctr.STW.OMCI_RX))).count (stwB + Ctr.STW.OMCI_TX)).ctrs) ∧
      t.fld aonB F.AON_BOOT_CTRL.PREFER_B = cp.val ∧
      (t.ledger = if s.sagging then s.ledger else { s.ledger with preferB := decide (cp.val = 1), fwFloor := max (s.fld stwB F.STW_FW_FLOOR.FLOOR) (SMap.get (fun _ => 0) s.stw.floors cp.val) }) ∧
      t.fld stwB F.STW_FW_FLOOR.FLOOR = max (s.fld stwB F.STW_FW_FLOOR.FLOOR) (SMap.get (fun _ => 0) s.stw.floors cp.val) % 2 ^ F.STW_FW_FLOOR.FLOOR.width ∧
      t = { s with pon := t.pon, ctrs := t.ctrs, ledger := t.ledger, regs := t.regs } ∧ RegsBut [aonB+0x28,stwB+0x14] s t) ∧
  (∀ (c : PonCh) (r : OmciReq) (m : List Byte) (req : List Byte) (rest : List (List Byte)) (k : Nat) (s : State),
      (s.pn c).omciIn = req :: rest → s.stwState = 1 ∧ s.now < s.stw.pmAt + 900000 * msTicks →
      s.omciKey c.val = some k ∧ s.omciMicOk c.val req = true →
      omciClasses.contains r.cls.toNat = true ∧ (omciPrimaryOnly r = false ∨ c.val = s.primary) ∧ r.op ≠ .reboot →
      r.act = .optics m ∧ r.op = .other ∧ r.keep = none →
    Does (.omciMessage c r) s fun t =>
      (t.pon = s.pon.set c (((if (s.bit (pnB c) F.PN_OSP_CFG.OMCI_OSP = true ∨ s.bit (pnB c) F.PN_OMCC.VALID = false) then { s.pn c with omciIn := rest } else { s.pn c with omciIn := rest, lastN := (s.pn c).lastN + 1, omccUp := (s.pn c).omccUp ++ [{ n := (s.pn c).lastN + 1, osp := false, data := (Config.omciReply (0) ([]) req) ++ beBytes 4 (omciMicOf k 2 ((Config.omciReply (0) ([]) req))) }] } : PonState))) ∧ t.ctrs = (if (s.bit (pnB c) F.PN_OSP_CFG.OMCI_OSP = true ∨ s.bit (pnB c) F.PN_OMCC.VALID = false) then ((s.count (stwB + Ctr.STW.OMCI_RX))).pCount c Ctr.PN.OSP_US_DROP else ((s.count (stwB + Ctr.STW.OMCI_RX))).count (stwB + Ctr.STW.OMCI_TX)).ctrs) ∧
      t.out = s.out ++ [.optics c m] ∧ t = { s with pon := t.pon, ctrs := t.ctrs, out := t.out }) ∧
  (∀ (c : PonCh) (r : OmciReq) (req : List Byte) (rest : List (List Byte)) (k : Nat) (s : State),
      (s.pn c).omciIn = req :: rest → s.stwState = 1 ∧ s.now < s.stw.pmAt + 900000 * msTicks →
      s.omciKey c.val = some k ∧ s.omciMicOk c.val req = true →
      omciClasses.contains r.cls.toNat = true ∧ (omciPrimaryOnly r = false ∨ c.val = s.primary) ∧ r.op ≠ .reboot →
      r.act = .syncTime ∧ r.op = .other ∧ r.keep = none →
    Does (.omciMessage c r) s fun t =>
      (t.pon = s.pon.set c (((if (s.bit (pnB c) F.PN_OSP_CFG.OMCI_OSP = true ∨ s.bit (pnB c) F.PN_OMCC.VALID = false) then { s.pn c with omciIn := rest } else { s.pn c with omciIn := rest, lastN := (s.pn c).lastN + 1, omccUp := (s.pn c).omccUp ++ [{ n := (s.pn c).lastN + 1, osp := false, data := (Config.omciReply (0) ([]) req) ++ beBytes 4 (omciMicOf k 2 ((Config.omciReply (0) ([]) req))) }] } : PonState))) ∧ t.ctrs = (if (s.bit (pnB c) F.PN_OSP_CFG.OMCI_OSP = true ∨ s.bit (pnB c) F.PN_OMCC.VALID = false) then ((s.count (stwB + Ctr.STW.OMCI_RX))).pCount c Ctr.PN.OSP_US_DROP else ((s.count (stwB + Ctr.STW.OMCI_RX))).count (stwB + Ctr.STW.OMCI_TX)).ctrs) ∧
      t.stw = { s.stw with pmAt := s.now, pm := t.stw.pm } ∧ (t.stw.pm.get 0).last = [] ∧ (t.stw.pm.get 1).last = [] ∧ (t.stw.pm.get (1 - c)).base = s.pmCounters (1 - c).val ∧
      t = { s with pon := t.pon, ctrs := t.ctrs, stw := t.stw }) ∧
  (∀ (c : PonCh) (r : OmciReq) (req : List Byte) (rest : List (List Byte)) (k : Nat) (s : State),
      (s.pn c).omciIn = req :: rest → s.stwState = 1 ∧ s.now < s.stw.pmAt + 900000 * msTicks →
      s.omciKey c.val = some k ∧ s.omciMicOk c.val req = true →
      omciClasses.contains r.cls.toNat = true ∧ (omciPrimaryOnly r = false ∨ c.val = s.primary) ∧ r.op ≠ .reboot →
      r.act = .uniFixed →
    Does (.omciMessage c r) s fun t =>
      (t.pon = s.pon.set c (((if (s.bit (pnB c) F.PN_OSP_CFG.OMCI_OSP = true ∨ s.bit (pnB c) F.PN_OMCC.VALID = false) then { s.pn c with omciIn := rest } else { s.pn c with omciIn := rest, lastN := (s.pn c).lastN + 1, omccUp := (s.pn c).omccUp ++ [{ n := (s.pn c).lastN + 1, osp := false, data := (Config.omciReply (3) ([]) req) ++ beBytes 4 (omciMicOf k 2 ((Config.omciReply (3) ([]) req))) }] } : PonState))) ∧ t.ctrs = (if (s.bit (pnB c) F.PN_OSP_CFG.OMCI_OSP = true ∨ s.bit (pnB c) F.PN_OMCC.VALID = false) then ((s.count (stwB + Ctr.STW.OMCI_RX))).pCount c Ctr.PN.OSP_US_DROP else ((s.count (stwB + Ctr.STW.OMCI_RX))).count (stwB + Ctr.STW.OMCI_TX)).ctrs) ∧
      t = { s with pon := t.pon, ctrs := t.ctrs }) ∧
  (∀ (c : PonCh) (r : OmciReq) (b : Option (BitVec 12)) (sf : BitVec 12) (st hm : Bool) (x : Fin 256) (req : List Byte) (rest : List (List Byte)) (k : Nat) (s : State),
      (s.pn c).omciIn = req :: rest → s.stwState = 1 ∧ s.now < s.stw.pmAt + 900000 * msTicks →
      s.omciKey c.val = some k ∧ s.omciMicOk c.val req = true →
      omciClasses.contains r.cls.toNat = true ∧ (omciPrimaryOnly r = false ∨ c.val = s.primary) ∧ r.op ≠ .reboot →
      r.act = .twinFlow none b sf st hm x →
    Does (.omciMessage c r) s fun t =>
      (t.pon = s.pon.set c (((if (s.bit (pnB c) F.PN_OSP_CFG.OMCI_OSP = true ∨ s.bit (pnB c) F.PN_OMCC.VALID = false) then { s.pn c with omciIn := rest } else { s.pn c with omciIn := rest, lastN := (s.pn c).lastN + 1, omccUp := (s.pn c).omccUp ++ [{ n := (s.pn c).lastN + 1, osp := false, data := (Config.omciReply (3) ([]) req) ++ beBytes 4 (omciMicOf k 2 ((Config.omciReply (3) ([]) req))) }] } : PonState))) ∧ t.ctrs = (if (s.bit (pnB c) F.PN_OSP_CFG.OMCI_OSP = true ∨ s.bit (pnB c) F.PN_OMCC.VALID = false) then ((s.count (stwB + Ctr.STW.OMCI_RX))).pCount c Ctr.PN.OSP_US_DROP else ((s.count (stwB + Ctr.STW.OMCI_RX))).count (stwB + Ctr.STW.OMCI_TX)).ctrs) ∧
      t = { s with pon := t.pon, ctrs := t.ctrs }) ∧
  (∀ (c : PonCh) (optics : BitVec 5) (s : State),
      (s.stwState ≠ 1 ∨ (s.now < s.stw.pmAt + 900000 * msTicks ∧ s.bit (pnB c) F.PN_OSP_CFG.OMCI_OSP = true)) →
    Does (.opticsPoll c optics) s fun t =>
      t = s) ∧
  (∀ (c : PonCh) (optics : BitVec 5) (s : State),
      s.stwState = 1 ∧ s.now < s.stw.pmAt + 900000 * msTicks ∧ s.bit (pnB c) F.PN_OSP_CFG.OMCI_OSP = false →
    Does (.opticsPoll c optics) s fun t =>
      (SMap.get (fun _ => false) t.stw.alarms) (8 * c.val) = s.bit (pnB c) F.PN_RX_STAT.SD ∧ (SMap.get (fun _ => false) t.stw.alarms) (8 * c.val + 1) = s.bit (pnB c) F.PN_RX_STAT.SF ∧
      (List.range 5).all (fun i => (SMap.get (fun _ => false) t.stw.alarms) (8 * c.val + 2 + i) == optics.getLsbD i) = true ∧
      (List.range 48).all (fun n => (SMap.get (fun _ => false) t.stw.alarms) (256 + 64 * c.val + n) == (s.bit (tqB n) F.TQ_PORT_SVC.WANT && !s.bit (tqB n) F.TQ_LANE_STAT.LINK)) = true ∧
      (∀ q, (q < 8 * c.val ∨ 8 * c.val + 7 ≤ q) → (q < 256 + 64 * c.val ∨ 304 + 64 * c.val ≤ q) → SMap.get (fun _ => false) t.stw.alarms q = SMap.get (fun _ => false) s.stw.alarms q) ∧
      t.stw = { s.stw with alarms := t.stw.alarms } ∧ t.pon = s.pon.set c { s.pn c with lastN := (t.pn c).lastN, omccUp := (t.pn c).omccUp } ∧
      (s.pn c).omccUp = (t.pn c).omccUp.take (s.pn c).omccUp.length ∧ (s.omciKey c = none → t.pon = s.pon) ∧
      (((List.range 7).all (fun i => (SMap.get (fun _ => false) t.stw.alarms) (8 * c.val + i) == SMap.get (fun _ => false) s.stw.alarms (8 * c.val + i)) && (List.range 48).all (fun n => (SMap.get (fun _ => false) t.stw.alarms) (256 + 64 * c.val + n) == SMap.get (fun _ => false) s.stw.alarms (256 + 64 * c.val + n))) = true → t.pon = s.pon ∧ t.ctrs = s.ctrs) ∧
      t = { s with stw := t.stw, pon := t.pon, ctrs := t.ctrs } ∧
      CtrsBut [pnB c+Ctr.PN.OSP_US_DROP,stwB+Ctr.STW.OMCI_TX] s t)

/-- A doorbell sets PI, is held while a hand-over is pending, or is refused and counted where it overfills the ring.
START runs a channel, taking a committed ring over, and does nothing where it runs already or where MODE 11, the host
path or host-less operation refuses it. COMMIT sets PENDING, or takes the ring over at once at a boundary with an empty
ring; while PENDING it does nothing. A hand-over puts the new ring in force, advances GEN, starts CI, PI and SEQ_NEXT
anew, applies a held doorbell and is reported. ABORT stops the channel; an accepted descriptor is written back with
ABORTED and its residue, its moved bytes count, its unit is free, and the abort is counted and reported. ABORT's
interrupts are stated for a channel whose interrupts are disabled or that the Steward owns. Nothing else changes but
what the clauses name. -/
def Obligations.DmaChannelCommands : Prop :=
  (∀ (m : Master) (d : Fin 32) (pi : BitVec 17) (s : State), s.reaches m (dcB d.val + 0x10) = true →
      (s.bit (dcB d.val) F.DC_CTRL.PENDING) = true →
    Does (.dcDoorbell m d pi) s fun t =>
      t.dch d.val = { (s.dch d.val) with heldPi := some pi.toNat } ∧ (∀ q, q ≠ d.val → t.dch q = s.dch q) ∧
      t = { s with dma := t.dma }) ∧
  (∀ (m : Master) (d : Fin 32) (pi : BitVec 17) (s : State), s.reaches m (dcB d.val + 0x10) = true →
      (s.bit (dcB d.val) F.DC_CTRL.PENDING) = false ∧ (pi.toNat + 131072 - s.dcF d.val F.DC_POS.CI) % 131072 ≤ 2 ^ ((s.dch d.val)).size →
    Does (.dcDoorbell m d pi) s fun t =>
      t.dcF d.val F.DC_DB.PI = pi.toNat ∧ t = { s with regs := t.regs } ∧ RegsBut [(dcB d.val+0x10)] s t) ∧
  (∀ (m : Master) (d : Fin 32) (pi : BitVec 17) (s : State), s.reaches m (dcB d.val + 0x10) = true →
      (s.bit (dcB d.val) F.DC_CTRL.PENDING) = false ∧ 2 ^ ((s.dch d.val)).size < (pi.toNat + 131072 - s.dcF d.val F.DC_POS.CI) % 131072 →
    Does (.dcDoorbell m d pi) s fun t =>
      t.ctrs = (s.count (hstB + Ctr.HST.BAD_REQ)).ctrs ∧
      t.evt = (s.raiseMs 0 Ev.HST_BAD_REQ 0x3A noInst [(4, dcB d.val + 0x10), (1, 2)]).evt ∧
      t = { s with ctrs := t.ctrs, evt := t.evt }) ∧
  (∀ (m : Master) (d : Fin 32) (s : State), s.reaches m (dcB d.val) = true →
      (s.bit (dcB d.val) F.DC_CTRL.PENDING) = false ∧ s.dcState d.val ≠ 1 ∧ ((s.dch d.val)).mode ≠ 3 →
      (s.dcSteward d.val = true ∨ (s.pathDown = false ∧ s.bit hstB F.HST_CFG.HOSTLESS = false)) →
    Does (.dcStart m d) s fun t =>
      t.dcState d.val = 1 ∧ t.dcF d.val F.DC_CTRL.CAUSE = 0 ∧ t = { s with regs := t.regs } ∧
      RegsBut [(dcB d.val+0x0)] s t) ∧
  (∀ (m : Master) (d : Fin 32) (s : State), s.reaches m (dcB d.val) = true →
      (s.dcState d.val = 1 ∨ s.nextMode d.val = 3 ∨ (s.dcSteward d.val = false ∧ (s.pathDown = true ∨ s.bit hstB F.HST_CFG.HOSTLESS = true))) →
    Does (.dcStart m d) s fun t =>
      t = s) ∧
  (∀ (m : Master) (d : Fin 32) (s : State), s.reaches m (dcB d.val) = true →
      (s.bit (dcB d.val) F.DC_CTRL.PENDING) = true ∧ s.dcState d.val ≠ 1 ∧ s.dcF d.val F.DC_RING_CFG.MODE ≠ 3 →
      (s.dcSteward d.val = true ∨ (s.pathDown = false ∧ s.bit hstB F.HST_CFG.HOSTLESS = false)) →
    Does (.dcStart m d) s fun t =>
      t.dcState d.val = 1 ∧ t.dcF d.val F.DC_CTRL.CAUSE = 0 ∧
      t.bit (dcB d.val) F.DC_CTRL.PENDING = false ∧ t.dcF d.val F.DC_CTRL.GEN = ((s.dcF d.val F.DC_CTRL.GEN + 1) % 256) ∧
      t.dch d.val = ({ (s.dch d.val) with base := s.dcF d.val F.DC_RING_BASE_LO.BASE * 4096 + s.dcF d.val F.DC_RING_BASE_HI.BASE * 2 ^ 32, mode := s.dcF d.val F.DC_RING_CFG.MODE, size := min 16 (max 3 (s.dcF d.val F.DC_RING_CFG.SIZE)), seq0 := s.dcF d.val F.DC_RING_CFG.SEQ_START, heldPi := none }) ∧
      (∀ q, q ≠ d.val → t.dch q = s.dch q) ∧
      t.dcF d.val F.DC_DB.PI = ((let v := ((s.dch d.val)).heldPi.getD 0 % 131072; if v ≤ 2 ^ min 16 (max 3 (s.dcF d.val F.DC_RING_CFG.SIZE)) then v else 0)) ∧ t.dcF d.val F.DC_POS.CI = 0 ∧ t.dcF d.val F.DC_POS.SEQ_NEXT = s.dcF d.val F.DC_RING_CFG.SEQ_START ∧
      t.ctrs = (if (decide (2 ^ min 16 (max 3 (s.dcF d.val F.DC_RING_CFG.SIZE)) < ((s.dch d.val)).heldPi.getD 0 % 131072)) then s.count (hstB + Ctr.HST.BAD_REQ) else s).ctrs ∧
      t.evt = ((let v := s.raise Ev.DMA_HANDOVER 0x3B d.val [(1, d.val), (1, ((s.dcF d.val F.DC_CTRL.GEN + 1) % 256))]; if (decide (2 ^ min 16 (max 3 (s.dcF d.val F.DC_RING_CFG.SIZE)) < ((s.dch d.val)).heldPi.getD 0 % 131072)) then v.raiseMs 0 Ev.HST_BAD_REQ 0x3A noInst [(4, dcB d.val + 0x10), (1, 2)] else v).evt) ∧
      t = { s with dma := t.dma, ctrs := t.ctrs, evt := t.evt, regs := t.regs } ∧
      RegsBut [(dcB d.val+0x0),(dcB d.val+0x10),(dcB d.val+0x14)] s t) ∧
  (∀ (m : Master) (d : Fin 32) (s : State), s.reaches m (dcB d.val) = true → (s.bit (dcB d.val) F.DC_CTRL.PENDING) = true →
    Does (.dcCommit m d) s fun t =>
      t = s) ∧
  (∀ (m : Master) (d : Fin 32) (s : State), s.reaches m (dcB d.val) = true →
      (s.bit (dcB d.val) F.DC_CTRL.PENDING) = false ∧ (s.dcState d.val ≠ 1 ∨ ((s.dch d.val)).desc.isSome = true ∨ s.dcHeld d.val ≠ 0) →
    Does (.dcCommit m d) s fun t =>
      t.bit (dcB d.val) F.DC_CTRL.PENDING = true ∧ t = { s with regs := t.regs } ∧ RegsBut [(dcB d.val+0x0)] s t) ∧
  (∀ (m : Master) (d : Fin 32) (s : State), s.reaches m (dcB d.val) = true →
      (s.bit (dcB d.val) F.DC_CTRL.PENDING) = false ∧ s.dcState d.val = 1 ∧ ((s.dch d.val)).desc.isSome = false ∧ s.dcHeld d.val = 0 →
    Does (.dcCommit m d) s fun t =>
      t.dcState d.val = 1 ∧
      t.bit (dcB d.val) F.DC_CTRL.PENDING = false ∧ t.dcF d.val F.DC_CTRL.GEN = ((s.dcF d.val F.DC_CTRL.GEN + 1) % 256) ∧
      t.dch d.val = ({ (s.dch d.val) with base := s.dcF d.val F.DC_RING_BASE_LO.BASE * 4096 + s.dcF d.val F.DC_RING_BASE_HI.BASE * 2 ^ 32, mode := s.dcF d.val F.DC_RING_CFG.MODE, size := min 16 (max 3 (s.dcF d.val F.DC_RING_CFG.SIZE)), seq0 := s.dcF d.val F.DC_RING_CFG.SEQ_START, heldPi := none }) ∧
      (∀ q, q ≠ d.val → t.dch q = s.dch q) ∧
      t.dcF d.val F.DC_DB.PI = ((let v := ((s.dch d.val)).heldPi.getD 0 % 131072; if v ≤ 2 ^ min 16 (max 3 (s.dcF d.val F.DC_RING_CFG.SIZE)) then v else 0)) ∧ t.dcF d.val F.DC_POS.CI = 0 ∧ t.dcF d.val F.DC_POS.SEQ_NEXT = s.dcF d.val F.DC_RING_CFG.SEQ_START ∧
      t.ctrs = (if (decide (2 ^ min 16 (max 3 (s.dcF d.val F.DC_RING_CFG.SIZE)) < ((s.dch d.val)).heldPi.getD 0 % 131072)) then s.count (hstB + Ctr.HST.BAD_REQ) else s).ctrs ∧
      t.evt = ((let v := s.raise Ev.DMA_HANDOVER 0x3B d.val [(1, d.val), (1, ((s.dcF d.val F.DC_CTRL.GEN + 1) % 256))]; if (decide (2 ^ min 16 (max 3 (s.dcF d.val F.DC_RING_CFG.SIZE)) < ((s.dch d.val)).heldPi.getD 0 % 131072)) then v.raiseMs 0 Ev.HST_BAD_REQ 0x3A noInst [(4, dcB d.val + 0x10), (1, 2)] else v).evt) ∧
      t = { s with dma := t.dma, ctrs := t.ctrs, evt := t.evt, regs := t.regs } ∧
      RegsBut [(dcB d.val+0x0),(dcB d.val+0x10),(dcB d.val+0x14)] s t) ∧
  (∀ (m : Master) (d : Fin 32) (moved : BitVec 25) (s : State), s.reaches m (dcB d.val) = true →
      ((s.dch d.val)).desc = none →
    Does (.dcAbort m d moved) s fun t =>
      t.dcState d.val = 2 ∧ t.dcF d.val F.DC_CTRL.CAUSE = 3 ∧
      t.dch d.val = { (s.dch d.val) with rereads := 0 } ∧ t.timerOn (Tm.stale d.val) = false ∧
      (∀ q, q ≠ d.val → t.dch q = s.dch q) ∧ t = { s with dma := t.dma, timers := t.timers, regs := t.regs } ∧
      TimersBut [Tm.stale d.val] s t ∧ RegsBut [(dcB d.val+0x0)] s t) ∧
  (∀ (m : Master) (d : Fin 32) (moved : BitVec 25) (e : List Byte) (s : State), s.reaches m (dcB d.val) = true →
      (s.dcSteward d.val = true ∨ s.dcF d.val F.DC_IRQ_EN.EN = 0) →
      ((s.dch d.val)).desc = some e ∧ (((List.range 32).all fun q => !(s.dch q).waits) = true) →
    Does (.dcAbort m d moved) s fun t =>
      t.dcState d.val = 2 ∧ t.dcF d.val F.DC_CTRL.CAUSE = 3 ∧ t.timerOn (Tm.stale d.val) = false ∧
      t.dcF d.val F.DC_IRQ.CAUSES = Nat.lor ((Nat.lor (Nat.lor (s.dcF d.val F.DC_IRQ.CAUSES) (b2n ((descHalf e && decide ((2) ≠ 5) && decide (descLen e ≤ 2 * ((descLen e - (descLen e - moved.toNat))) + (if (2) < 2 then ((descLen e - moved.toNat)) else 0)))))) (2 * b2n (descFull e)))) 16 ∧
      t.dch d.val = { ((s)).dch d.val with desc := none, pkt := none, data := [], code := 0, waits := false, unit := false, rereads := 0 } ∧
      (∀ q, q ≠ d.val → t.dch q = s.dch q) ∧
      t.dcF d.val F.DC_POS.CI = (s.dcF d.val F.DC_POS.CI + 1) % 131072 ∧ t.dcF d.val F.DC_POS.SEQ_NEXT = (s.dcF d.val F.DC_POS.SEQ_NEXT + 1) % 256 ∧
      t.out = s.out ++ (if s.dcSteward d.val then [.stewardWrite ((((s.dch d.val)).base + 32 * s.dcIndex d.val) + 0x18) ((leBytes 4 ((2) * 2 ^ 28 + ((descLen e - moved.toNat))) ++ leBytes 4 ((0)))), .stewardWrite ((((s.dch d.val)).base + 32 * s.dcIndex d.val) + 0x14) ((leBytes 4 (descCtrl e % 2 ^ 31)))] else [.hostWrite ((((s.dch d.val)).base + 32 * s.dcIndex d.val) + 0x18) ((leBytes 4 ((2) * 2 ^ 28 + ((descLen e - moved.toNat))) ++ leBytes 4 ((0)))), .hostWrite ((((s.dch d.val)).base + 32 * s.dcIndex d.val) + 0x14) ((leBytes 4 (descCtrl e % 2 ^ 31)))]) ∧
      t.reg (chkB (descUnit e)) = (s.unitFree d.val e).reg (chkB (descUnit e)) ∧
      t.sampN = (s.pmc 0x0B0 d.val ((descLen e - (descLen e - moved.toNat)))).sampN ∧
      ((SMap.get (fun _ => [])) (t.pipe ((if d.val < 16 then 0 else 1))).host d.val).length = 0 ∧
      (∀ q, q ≠ d.val → (SMap.get (fun _ => [])) (t.pipe ((if d.val < 16 then 0 else 1))).host q = (SMap.get (fun _ => [])) (s.pipe ((if d.val < 16 then 0 else 1))).host q) ∧
      t.pipe (1 - ((if d.val < 16 then 0 else 1))) = s.pipe (1 - ((if d.val < 16 then 0 else 1))) ∧ t.pipe ((if d.val < 16 then 0 else 1)) = { s.pipe ((if d.val < 16 then 0 else 1)) with host := (t.pipe ((if d.val < 16 then 0 else 1))).host } ∧
      t.ctrs = (((((if ((s.dch d.val)).pkt.isSome then s.dcCount d.val Ctr.DMA.PKT_LOST else s).dcCount d.val Ctr.DMA.DESCS).dcCount d.val Ctr.DMA.BYTES ((descLen e - (descLen e - moved.toNat)))).unitFree d.val e).dcCount d.val Ctr.DMA.ABORTS).ctrs ∧
      t.evt = ((s.pmc 0x0B0 d.val ((descLen e - (descLen e - moved.toNat)))).raise Ev.DMA_ABORTED 0x3B d.val [(1, d.val), (4, ((descLen e - moved.toNat)))]).evt ∧
      t = { s with out := t.out, dma := t.dma, pipes := t.pipes, ctrs := t.ctrs, evt := t.evt, sampN := t.sampN, regs := t.regs, timers := t.timers } ∧
      RegsBut (pmcRegs ++ [(dcB d.val+0x14),(dcB d.val+0x18),(dcB d.val+0x0),chkB (descUnit e)]) s t ∧
      TimersBut [Tm.stale d.val] s t)

/-- A channel that runs, holds no descriptor and has a ring with entries reads the next one, at once or when the 1 us of
a re-read ends; else nothing happens. With OWN set and the expected SEQ it is accepted: one with a CRC takes its check
unit with the unit's POLY if it is open and CHK is live, else it waits; LEN outside its limits is noted; an INJECT
queues its packet, without the preset block, in the channel's pipeline, or counts it lost where the pipeline accepts
none. A stale one is read again 1 us later; at the fifth stale read the channel stops with STALE_DESC, shows OWN, SEQ
and the index, counts it, sets its interrupt and reports it; this is stated for a channel whose interrupts are disabled
or that the Steward owns. Nothing else changes but what the clauses name. -/
def Obligations.DmaDescriptorsAreFetched : Prop :=
  (∀ (d : Fin 32) (desc data : List Byte) (s : State), (s.dcFetches d.val = false ∨ s.timerOn (Tm.stale d.val) = true) →
    Does (.descriptorFetch d desc data) s fun t =>
      t = (s)) ∧
  (∀ (d : Fin 32) (desc data : List Byte) (s : State), s.dcFetches d.val = true ∧ s.timerOn (Tm.stale d.val) = false →
      descOwn (bytesAt desc 0 32) = true ∧ descSeq (bytesAt desc 0 32) = s.dcF d.val F.DC_POS.SEQ_NEXT →
      ((s.dch d.val)).mode ≠ 0 ∧ descChk (bytesAt desc 0 32) = false →
    Does (.descriptorFetch d desc data) s fun t =>
      t.dch d.val = { ((s)).dch d.val with desc := some (bytesAt desc 0 32), pkt := none, data, code := if ((s)).dcLenBad d.val 0 (bytesAt desc 0 32) then 5 else 0, waits := false, unit := false, rereads := 0 } ∧
      (∀ q, q ≠ d.val → t.dch q = ((s)).dch q) ∧ t.timerOn (Tm.stale d.val) = false ∧
      t = { (s) with dma := t.dma, timers := t.timers } ∧ TimersBut [Tm.stale d.val] (s) t) ∧
  (∀ (d : Fin 32) (desc data : List Byte) (s : State), s.dcFetches d.val = true ∧ s.timerOn (Tm.stale d.val) = false →
      descOwn (bytesAt desc 0 32) = true ∧ descSeq (bytesAt desc 0 32) = s.dcF d.val F.DC_POS.SEQ_NEXT →
      descChk (bytesAt desc 0 32) = true →
      (((s)).unitOpen (descUnit (bytesAt desc 0 32)) = false ∨ ((s)).live 0x3D = false) →
    Does (.descriptorFetch d desc data) s fun t =>
      t.dch d.val = { ((s)).dch d.val with desc := some (bytesAt desc 0 32), pkt := none, data, code := 0, waits := true, unit := false, rereads := 0 } ∧
      (∀ q, q ≠ d.val → t.dch q = ((s)).dch q) ∧ t.timerOn (Tm.stale d.val) = false ∧
      t = { (s) with dma := t.dma, timers := t.timers } ∧ TimersBut [Tm.stale d.val] (s) t) ∧
  (∀ (d : Fin 32) (desc data : List Byte) (s : State), s.dcFetches d.val = true ∧ s.timerOn (Tm.stale d.val) = false →
      descOwn (bytesAt desc 0 32) = true ∧ descSeq (bytesAt desc 0 32) = s.dcF d.val F.DC_POS.SEQ_NEXT →
      ((s.dch d.val)).mode ≠ 0 ∧ descChk (bytesAt desc 0 32) = true →
      ((s)).unitOpen (descUnit (bytesAt desc 0 32)) = true ∧ ((s)).live 0x3D = true →
    Does (.descriptorFetch d desc data) s fun t =>
      t.dch d.val = { ((s)).dch d.val with desc := some (bytesAt desc 0 32), pkt := none, data, code := if ((s)).dcLenBad d.val (polyLen (s.fld (chkB (descUnit (bytesAt desc 0 32))) F.CHK_CTRL.POLY)) (bytesAt desc 0 32) then 5 else 0, waits := false, unit := true, rereads := 0 } ∧
      (∀ q, q ≠ d.val → t.dch q = ((s)).dch q) ∧ t.timerOn (Tm.stale d.val) = false ∧
      t.chkBusy ((descUnit (bytesAt desc 0 32))) = true ∧ t.fld (chkB ((descUnit (bytesAt desc 0 32)))) F.CHK_CTRL.USER = 2 ∧ t.fld (chkB ((descUnit (bytesAt desc 0 32)))) F.CHK_CTRL.DC = d.val ∧
      t.chk = { s.chk with scan := SMap.set (fun _ => (0, 0)) s.chk.scan ((descUnit (bytesAt desc 0 32))) (s.fld (chkB ((descUnit (bytesAt desc 0 32)))) F.CHK_CTRL.POLY, descLen (bytesAt desc 0 32)) } ∧
      t = { (s) with dma := t.dma, timers := t.timers, chk := t.chk, regs := t.regs } ∧ TimersBut [Tm.stale d.val] (s) t ∧
      RegsBut [chkB ((descUnit (bytesAt desc 0 32)))] (s) t) ∧
  (∀ (d : Fin 32) (desc data : List Byte) (s : State), s.dcFetches d.val = true ∧ s.timerOn (Tm.stale d.val) = false →
      descOwn (bytesAt desc 0 32) = true ∧ descSeq (bytesAt desc 0 32) = s.dcF d.val F.DC_POS.SEQ_NEXT →
      ((s.dch d.val)).mode = 0 ∧ descChk (bytesAt desc 0 32) = false ∧ ((s)).dcLenBad d.val 0 (bytesAt desc 0 32) = false →
      ((s)).accepts (0x20 + ((if d.val < 16 then 0 else 1))) = true →
    Does (.descriptorFetch d desc data) s fun t =>
      t.dch d.val = { ((s)).dch d.val with desc := some (bytesAt desc 0 32), pkt := none, data, code := 0, waits := false, unit := false, rereads := 0 } ∧
      (∀ q, q ≠ d.val → t.dch q = ((s)).dch q) ∧ t.timerOn (Tm.stale d.val) = false ∧
      (((SMap.get (fun _ => [])) (t.pipe ((if d.val < 16 then 0 else 1))).host d.val).map fun p => (p.bytes, p.src, p.tsReq)) = (((SMap.get (fun _ => [])) (s.pipe ((if d.val < 16 then 0 else 1))).host d.val).map fun p => (p.bytes, p.src, p.tsReq)) ++ [((bytesAt data 0 (descLen (bytesAt desc 0 32))).drop (if descBlock (bytesAt desc 0 32) then 32 else 0), 64 + d.val, descTsReq (bytesAt desc 0 32))] ∧
      (∀ q, q ≠ d.val → (SMap.get (fun _ => [])) (t.pipe ((if d.val < 16 then 0 else 1))).host q = (SMap.get (fun _ => [])) (s.pipe ((if d.val < 16 then 0 else 1))).host q) ∧
      t.pipe (1 - ((if d.val < 16 then 0 else 1))) = s.pipe (1 - ((if d.val < 16 then 0 else 1))) ∧ t.pipe ((if d.val < 16 then 0 else 1)) = { s.pipe ((if d.val < 16 then 0 else 1)) with host := (t.pipe ((if d.val < 16 then 0 else 1))).host } ∧
      t = { (s) with dma := t.dma, timers := t.timers, pipes := t.pipes } ∧ TimersBut [Tm.stale d.val] (s) t) ∧
  (∀ (d : Fin 32) (desc data : List Byte) (s : State), s.dcFetches d.val = true ∧ s.timerOn (Tm.stale d.val) = false →
      descOwn (bytesAt desc 0 32) = true ∧ descSeq (bytesAt desc 0 32) = s.dcF d.val F.DC_POS.SEQ_NEXT →
      ((s.dch d.val)).mode = 0 ∧ descChk (bytesAt desc 0 32) = false ∧ ((s)).dcLenBad d.val 0 (bytesAt desc 0 32) = false →
      ((s)).accepts (0x20 + ((if d.val < 16 then 0 else 1))) = false →
    Does (.descriptorFetch d desc data) s fun t =>
      t.dch d.val = { ((s)).dch d.val with desc := some (bytesAt desc 0 32), pkt := none, data, code := 0, waits := false, unit := false, rereads := 0 } ∧
      (∀ q, q ≠ d.val → t.dch q = ((s)).dch q) ∧ t.timerOn (Tm.stale d.val) = false ∧
      t.ctrs = (((s)).dcCount d.val Ctr.DMA.PKT_LOST).ctrs ∧
      t = { (s) with dma := t.dma, timers := t.timers, ctrs := t.ctrs } ∧ TimersBut [Tm.stale d.val] (s) t) ∧
  (∀ (d : Fin 32) (desc data : List Byte) (s : State), s.dcFetches d.val = true ∧ s.timerOn (Tm.stale d.val) = false →
      (descOwn (bytesAt desc 0 32) = false ∨ descSeq (bytesAt desc 0 32) ≠ s.dcF d.val F.DC_POS.SEQ_NEXT) →
      ((s.dch d.val)).rereads < 4 →
    Does (.descriptorFetch d desc data) s fun t =>
      t.dch d.val = { (s.dch d.val) with rereads := ((s.dch d.val)).rereads + 1 } ∧
      (∀ q, q ≠ d.val → t.dch q = ((s)).dch q) ∧
      SMap.get (fun _ => 0) t.timers (Tm.stale d.val) = ((s)).now + usTicks + 1 ∧
      t = { (s) with dma := t.dma, timers := t.timers } ∧ TimersBut [Tm.stale d.val] (s) t) ∧
  (∀ (d : Fin 32) (desc data : List Byte) (s : State), s.dcFetches d.val = true ∧ s.timerOn (Tm.stale d.val) = false →
      (descOwn (bytesAt desc 0 32) = false ∨ descSeq (bytesAt desc 0 32) ≠ s.dcF d.val F.DC_POS.SEQ_NEXT) →
      4 ≤ ((s.dch d.val)).rereads → (s.dcSteward d.val = true ∨ s.dcF d.val F.DC_IRQ_EN.EN = 0) →
    Does (.descriptorFetch d desc data) s fun t =>
      t.dcState d.val = 2 ∧ t.dcF d.val F.DC_CTRL.CAUSE = 1 ∧ t.dch d.val = { (s.dch d.val) with rereads := 0 } ∧
      (∀ q, q ≠ d.val → t.dch q = ((s)).dch q) ∧ t.timerOn (Tm.stale d.val) = false ∧
      t.dcF d.val F.DC_STALE.OWN = b2n (descOwn (bytesAt desc 0 32)) ∧ t.dcF d.val F.DC_STALE.SEQ = descSeq (bytesAt desc 0 32) ∧ t.dcF d.val F.DC_STALE.INDEX = s.dcIndex d.val % 65536 ∧
      t.dcF d.val F.DC_IRQ.CAUSES = Nat.lor (s.dcF d.val F.DC_IRQ.CAUSES) 4 ∧
      t.ctrs = (((s)).dcCount d.val Ctr.DMA.STALE).ctrs ∧
      t.evt = (((s)).raise Ev.DMA_STALE_DESC 0x3B d.val [(1, d.val), (2, s.dcIndex d.val), (1, s.dcF d.val F.DC_POS.SEQ_NEXT), (1, descSeq (bytesAt desc 0 32)), (1, b2n (descOwn (bytesAt desc 0 32)))]).evt ∧
      t = { (s) with dma := t.dma, timers := t.timers, ctrs := t.ctrs, evt := t.evt, regs := t.regs } ∧
      TimersBut [Tm.stale d.val] (s) t ∧ RegsBut [(dcB d.val+0x0),(dcB d.val+0x24),(dcB d.val+0x18)] (s) t) ∧
  (∀ (d : Fin 32) (desc data : List Byte) (s : State), s.timerOn (Tm.stale d.val) = true →
      ((s.atEnd (Tm.stale d.val))).dcFetches d.val = false →
    Does (.staleRereadExpiry d desc data) s fun t =>
      t = (s.atEnd (Tm.stale d.val))) ∧
  (∀ (d : Fin 32) (desc data : List Byte) (s : State), s.timerOn (Tm.stale d.val) = true →
      ((s.atEnd (Tm.stale d.val))).dcFetches d.val = true →
      descOwn (bytesAt desc 0 32) = true ∧ descSeq (bytesAt desc 0 32) = s.dcF d.val F.DC_POS.SEQ_NEXT →
      ((s.dch d.val)).mode ≠ 0 ∧ descChk (bytesAt desc 0 32) = false →
    Does (.staleRereadExpiry d desc data) s fun t =>
      t.dch d.val = { ((s.atEnd (Tm.stale d.val))).dch d.val with desc := some (bytesAt desc 0 32), pkt := none, data, code := if ((s.atEnd (Tm.stale d.val))).dcLenBad d.val 0 (bytesAt desc 0 32) then 5 else 0, waits := false, unit := false, rereads := 0 } ∧
      (∀ q, q ≠ d.val → t.dch q = ((s.atEnd (Tm.stale d.val))).dch q) ∧ t.timerOn (Tm.stale d.val) = false ∧
      t = { (s.atEnd (Tm.stale d.val)) with dma := t.dma, timers := t.timers } ∧
      TimersBut [Tm.stale d.val] (s.atEnd (Tm.stale d.val)) t) ∧
  (∀ (d : Fin 32) (desc data : List Byte) (s : State), s.timerOn (Tm.stale d.val) = true →
      ((s.atEnd (Tm.stale d.val))).dcFetches d.val = true →
      descOwn (bytesAt desc 0 32) = true ∧ descSeq (bytesAt desc 0 32) = s.dcF d.val F.DC_POS.SEQ_NEXT →
      descChk (bytesAt desc 0 32) = true →
      (((s.atEnd (Tm.stale d.val))).unitOpen (descUnit (bytesAt desc 0 32)) = false ∨ ((s.atEnd (Tm.stale d.val))).live 0x3D = false) →
    Does (.staleRereadExpiry d desc data) s fun t =>
      t.dch d.val = { ((s.atEnd (Tm.stale d.val))).dch d.val with desc := some (bytesAt desc 0 32), pkt := none, data, code := 0, waits := true, unit := false, rereads := 0 } ∧
      (∀ q, q ≠ d.val → t.dch q = ((s.atEnd (Tm.stale d.val))).dch q) ∧ t.timerOn (Tm.stale d.val) = false ∧
      t = { (s.atEnd (Tm.stale d.val)) with dma := t.dma, timers := t.timers } ∧
      TimersBut [Tm.stale d.val] (s.atEnd (Tm.stale d.val)) t) ∧
  (∀ (d : Fin 32) (desc data : List Byte) (s : State), s.timerOn (Tm.stale d.val) = true →
      ((s.atEnd (Tm.stale d.val))).dcFetches d.val = true →
      descOwn (bytesAt desc 0 32) = true ∧ descSeq (bytesAt desc 0 32) = s.dcF d.val F.DC_POS.SEQ_NEXT →
      ((s.dch d.val)).mode ≠ 0 ∧ descChk (bytesAt desc 0 32) = true →
      ((s.atEnd (Tm.stale d.val))).unitOpen (descUnit (bytesAt desc 0 32)) = true ∧ ((s.atEnd (Tm.stale d.val))).live 0x3D = true →
    Does (.staleRereadExpiry d desc data) s fun t =>
      t.dch d.val = { ((s.atEnd (Tm.stale d.val))).dch d.val with desc := some (bytesAt desc 0 32), pkt := none, data, code := if ((s.atEnd (Tm.stale d.val))).dcLenBad d.val (polyLen (s.fld (chkB (descUnit (bytesAt desc 0 32))) F.CHK_CTRL.POLY)) (bytesAt desc 0 32) then 5 else 0, waits := false, unit := true, rereads := 0 } ∧
      (∀ q, q ≠ d.val → t.dch q = ((s.atEnd (Tm.stale d.val))).dch q) ∧ t.timerOn (Tm.stale d.val) = false ∧
      t.chkBusy ((descUnit (bytesAt desc 0 32))) = true ∧ t.fld (chkB ((descUnit (bytesAt desc 0 32)))) F.CHK_CTRL.USER = 2 ∧ t.fld (chkB ((descUnit (bytesAt desc 0 32)))) F.CHK_CTRL.DC = d.val ∧
      t.chk = { s.chk with scan := SMap.set (fun _ => (0, 0)) s.chk.scan ((descUnit (bytesAt desc 0 32))) (s.fld (chkB ((descUnit (bytesAt desc 0 32)))) F.CHK_CTRL.POLY, descLen (bytesAt desc 0 32)) } ∧
      t = { (s.atEnd (Tm.stale d.val)) with dma := t.dma, timers := t.timers, chk := t.chk, regs := t.regs } ∧
      TimersBut [Tm.stale d.val] (s.atEnd (Tm.stale d.val)) t ∧
      RegsBut [chkB ((descUnit (bytesAt desc 0 32)))] (s.atEnd (Tm.stale d.val)) t) ∧
  (∀ (d : Fin 32) (desc data : List Byte) (s : State), s.timerOn (Tm.stale d.val) = true →
      ((s.atEnd (Tm.stale d.val))).dcFetches d.val = true →
      descOwn (bytesAt desc 0 32) = true ∧ descSeq (bytesAt desc 0 32) = s.dcF d.val F.DC_POS.SEQ_NEXT →
      ((s.dch d.val)).mode = 0 ∧ descChk (bytesAt desc 0 32) = false ∧ ((s.atEnd (Tm.stale d.val))).dcLenBad d.val 0 (bytesAt desc 0 32) = false →
      ((s.atEnd (Tm.stale d.val))).accepts (0x20 + ((if d.val < 16 then 0 else 1))) = true →
    Does (.staleRereadExpiry d desc data) s fun t =>
      t.dch d.val = { ((s.atEnd (Tm.stale d.val))).dch d.val with desc := some (bytesAt desc 0 32), pkt := none, data, code := 0, waits := false, unit := false, rereads := 0 } ∧
      (∀ q, q ≠ d.val → t.dch q = ((s.atEnd (Tm.stale d.val))).dch q) ∧ t.timerOn (Tm.stale d.val) = false ∧
      (((SMap.get (fun _ => [])) (t.pipe ((if d.val < 16 then 0 else 1))).host d.val).map fun p => (p.bytes, p.src, p.tsReq)) = (((SMap.get (fun _ => [])) (s.pipe ((if d.val < 16 then 0 else 1))).host d.val).map fun p => (p.bytes, p.src, p.tsReq)) ++ [((bytesAt data 0 (descLen (bytesAt desc 0 32))).drop (if descBlock (bytesAt desc 0 32) then 32 else 0), 64 + d.val, descTsReq (bytesAt desc 0 32))] ∧
      (∀ q, q ≠ d.val → (SMap.get (fun _ => [])) (t.pipe ((if d.val < 16 then 0 else 1))).host q = (SMap.get (fun _ => [])) (s.pipe ((if d.val < 16 then 0 else 1))).host q) ∧
      t.pipe (1 - ((if d.val < 16 then 0 else 1))) = s.pipe (1 - ((if d.val < 16 then 0 else 1))) ∧ t.pipe ((if d.val < 16 then 0 else 1)) = { s.pipe ((if d.val < 16 then 0 else 1)) with host := (t.pipe ((if d.val < 16 then 0 else 1))).host } ∧
      t = { (s.atEnd (Tm.stale d.val)) with dma := t.dma, timers := t.timers, pipes := t.pipes } ∧
      TimersBut [Tm.stale d.val] (s.atEnd (Tm.stale d.val)) t) ∧
  (∀ (d : Fin 32) (desc data : List Byte) (s : State), s.timerOn (Tm.stale d.val) = true →
      ((s.atEnd (Tm.stale d.val))).dcFetches d.val = true →
      descOwn (bytesAt desc 0 32) = true ∧ descSeq (bytesAt desc 0 32) = s.dcF d.val F.DC_POS.SEQ_NEXT →
      ((s.dch d.val)).mode = 0 ∧ descChk (bytesAt desc 0 32) = false ∧ ((s.atEnd (Tm.stale d.val))).dcLenBad d.val 0 (bytesAt desc 0 32) = false →
      ((s.atEnd (Tm.stale d.val))).accepts (0x20 + ((if d.val < 16 then 0 else 1))) = false →
    Does (.staleRereadExpiry d desc data) s fun t =>
      t.dch d.val = { ((s.atEnd (Tm.stale d.val))).dch d.val with desc := some (bytesAt desc 0 32), pkt := none, data, code := 0, waits := false, unit := false, rereads := 0 } ∧
      (∀ q, q ≠ d.val → t.dch q = ((s.atEnd (Tm.stale d.val))).dch q) ∧ t.timerOn (Tm.stale d.val) = false ∧
      t.ctrs = (((s.atEnd (Tm.stale d.val))).dcCount d.val Ctr.DMA.PKT_LOST).ctrs ∧
      t = { (s.atEnd (Tm.stale d.val)) with dma := t.dma, timers := t.timers, ctrs := t.ctrs } ∧
      TimersBut [Tm.stale d.val] (s.atEnd (Tm.stale d.val)) t) ∧
  (∀ (d : Fin 32) (desc data : List Byte) (s : State), s.timerOn (Tm.stale d.val) = true →
      ((s.atEnd (Tm.stale d.val))).dcFetches d.val = true →
      (descOwn (bytesAt desc 0 32) = false ∨ descSeq (bytesAt desc 0 32) ≠ s.dcF d.val F.DC_POS.SEQ_NEXT) →
      ((s.dch d.val)).rereads < 4 →
    Does (.staleRereadExpiry d desc data) s fun t =>
      t.dch d.val = { (s.dch d.val) with rereads := ((s.dch d.val)).rereads + 1 } ∧
      (∀ q, q ≠ d.val → t.dch q = ((s.atEnd (Tm.stale d.val))).dch q) ∧
      SMap.get (fun _ => 0) t.timers (Tm.stale d.val) = ((s.atEnd (Tm.stale d.val))).now + usTicks + 1 ∧
      t = { (s.atEnd (Tm.stale d.val)) with dma := t.dma, timers := t.timers } ∧
      TimersBut [Tm.stale d.val] (s.atEnd (Tm.stale d.val)) t) ∧
  (∀ (d : Fin 32) (desc data : List Byte) (s : State), s.timerOn (Tm.stale d.val) = true →
      ((s.atEnd (Tm.stale d.val))).dcFetches d.val = true →
      (descOwn (bytesAt desc 0 32) = false ∨ descSeq (bytesAt desc 0 32) ≠ s.dcF d.val F.DC_POS.SEQ_NEXT) →
      4 ≤ ((s.dch d.val)).rereads → (s.dcSteward d.val = true ∨ s.dcF d.val F.DC_IRQ_EN.EN = 0) →
    Does (.staleRereadExpiry d desc data) s fun t =>
      t.dcState d.val = 2 ∧ t.dcF d.val F.DC_CTRL.CAUSE = 1 ∧ t.dch d.val = { (s.dch d.val) with rereads := 0 } ∧
      (∀ q, q ≠ d.val → t.dch q = ((s.atEnd (Tm.stale d.val))).dch q) ∧ t.timerOn (Tm.stale d.val) = false ∧
      t.dcF d.val F.DC_STALE.OWN = b2n (descOwn (bytesAt desc 0 32)) ∧ t.dcF d.val F.DC_STALE.SEQ = descSeq (bytesAt desc 0 32) ∧ t.dcF d.val F.DC_STALE.INDEX = s.dcIndex d.val % 65536 ∧
      t.dcF d.val F.DC_IRQ.CAUSES = Nat.lor (s.dcF d.val F.DC_IRQ.CAUSES) 4 ∧
      t.ctrs = (((s.atEnd (Tm.stale d.val))).dcCount d.val Ctr.DMA.STALE).ctrs ∧
      t.evt = (((s.atEnd (Tm.stale d.val))).raise Ev.DMA_STALE_DESC 0x3B d.val [(1, d.val), (2, s.dcIndex d.val), (1, s.dcF d.val F.DC_POS.SEQ_NEXT), (1, descSeq (bytesAt desc 0 32)), (1, b2n (descOwn (bytesAt desc 0 32)))]).evt ∧
      t = { (s.atEnd (Tm.stale d.val)) with dma := t.dma, timers := t.timers, ctrs := t.ctrs, evt := t.evt, regs := t.regs } ∧
      TimersBut [Tm.stale d.val] (s.atEnd (Tm.stale d.val)) t ∧
      RegsBut [(dcB d.val+0x0),(dcB d.val+0x24),(dcB d.val+0x18)] (s.atEnd (Tm.stale d.val)) t)

/-- A finished descriptor of a running channel is written back in two requests, STATUS and INFO and then CTRL with OWN
0; CI and SEQ_NEXT advance, HALF and FULL interrupts are set, the descriptor and its moved bytes count, the check unit
is free. LEN_BAD ends with code 5 and all bytes left, a failed check with 6; a COPY writes its bytes first, with a CRC
appended where its destination alone is host memory; a HOSTQ writes the packet after its metadata block, then the block,
cut at LEN with TRUNC, and names its length and queue; an INJECT ends once its packet has left. A channel that does not
run, holds none or waits does nothing. A bus error at a fetch, at data (written back with BUS_ERR) or at a writeback
stops the channel with BUS_ERR, is counted and reported. Stated for channels whose interrupts are disabled or that the
Steward owns, with no stream waiting for a unit and no hand-over pending. Nothing else changes but what the clauses
name. -/
def Obligations.DmaDescriptorsEnd : Prop :=
  (∀ (d : Fin 32) (s : State),
      (s.live 0x3B = false ∨ s.dcState d.val ≠ 1 ∨ ((s.dch d.val)).desc = none ∨ ((s.dch d.val)).waits = true) →
    Does (.descriptorComplete d) s fun t =>
      t = s) ∧
  (∀ (d : Fin 32) (e : List Byte) (s : State),
      s.live 0x3B = true ∧ s.dcState d.val = 1 ∧ (s.bit (dcB d.val) F.DC_CTRL.PENDING) = false →
      ((s.dch d.val)).desc = some e ∧ (((List.range 32).all fun q => !(s.dch q).waits) = true) →
      (s.dcSteward d.val = true ∨ s.dcF d.val F.DC_IRQ_EN.EN = 0) → ((s.dch d.val)).code = 5 →
    Does (.descriptorComplete d) s fun t =>
      t.dcF d.val F.DC_IRQ.CAUSES = (Nat.lor (Nat.lor (s.dcF d.val F.DC_IRQ.CAUSES) (b2n ((descHalf e && decide ((5) ≠ 5) && decide (descLen e ≤ 2 * ((descLen e - descLen e)) + (if (5) < 2 then (descLen e) else 0)))))) (2 * b2n (descFull e))) ∧
      t.dch d.val = { ((s)).dch d.val with desc := none, pkt := none, data := [], code := 0, waits := false, unit := false, rereads := 0 } ∧
      (∀ q, q ≠ d.val → t.dch q = s.dch q) ∧
      t.dcF d.val F.DC_POS.CI = (s.dcF d.val F.DC_POS.CI + 1) % 131072 ∧ t.dcF d.val F.DC_POS.SEQ_NEXT = (s.dcF d.val F.DC_POS.SEQ_NEXT + 1) % 256 ∧
      t.out = s.out ++ (if s.dcSteward d.val then [.stewardWrite ((((s.dch d.val)).base + 32 * s.dcIndex d.val) + 0x18) ((leBytes 4 ((5) * 2 ^ 28 + (descLen e)) ++ leBytes 4 ((0)))), .stewardWrite ((((s.dch d.val)).base + 32 * s.dcIndex d.val) + 0x14) ((leBytes 4 (descCtrl e % 2 ^ 31)))] else [.hostWrite ((((s.dch d.val)).base + 32 * s.dcIndex d.val) + 0x18) ((leBytes 4 ((5) * 2 ^ 28 + (descLen e)) ++ leBytes 4 ((0)))), .hostWrite ((((s.dch d.val)).base + 32 * s.dcIndex d.val) + 0x14) ((leBytes 4 (descCtrl e % 2 ^ 31)))]) ∧
      t.reg (chkB (descUnit e)) = (s.unitFree d.val e).reg (chkB (descUnit e)) ∧
      t.sampN = (s.pmc 0x0B0 d.val ((descLen e - descLen e))).sampN ∧
      ((SMap.get (fun _ => [])) (t.pipe ((if d.val < 16 then 0 else 1))).host d.val).length = 0 ∧
      (∀ q, q ≠ d.val → (SMap.get (fun _ => [])) (t.pipe ((if d.val < 16 then 0 else 1))).host q = (SMap.get (fun _ => [])) (s.pipe ((if d.val < 16 then 0 else 1))).host q) ∧
      t.pipe (1 - ((if d.val < 16 then 0 else 1))) = s.pipe (1 - ((if d.val < 16 then 0 else 1))) ∧ t.pipe ((if d.val < 16 then 0 else 1)) = { s.pipe ((if d.val < 16 then 0 else 1)) with host := (t.pipe ((if d.val < 16 then 0 else 1))).host } ∧
      t.ctrs = (((s.dcCount d.val Ctr.DMA.DESCS).dcCount d.val Ctr.DMA.BYTES ((descLen e - descLen e))).unitFree d.val e).ctrs ∧
      t.evt = (s.pmc 0x0B0 d.val ((descLen e - descLen e))).evt ∧
      t = { s with out := t.out, dma := t.dma, pipes := t.pipes, ctrs := t.ctrs, evt := t.evt, sampN := t.sampN, regs := t.regs } ∧
      RegsBut (pmcRegs ++ [(dcB d.val+0x14),(dcB d.val+0x18),chkB (descUnit e)]) s t) ∧
  (∀ (d : Fin 32) (e : List Byte) (s : State),
      s.live 0x3B = true ∧ s.dcState d.val = 1 ∧ (s.bit (dcB d.val) F.DC_CTRL.PENDING) = false →
      ((s.dch d.val)).desc = some e ∧ (((List.range 32).all fun q => !(s.dch q).waits) = true) →
      (s.dcSteward d.val = true ∨ s.dcF d.val F.DC_IRQ_EN.EN = 0) → ((s.dch d.val)).code = 6 →
    Does (.descriptorComplete d) s fun t =>
      t.dcF d.val F.DC_IRQ.CAUSES = (Nat.lor (Nat.lor (s.dcF d.val F.DC_IRQ.CAUSES) (b2n ((descHalf e && decide ((6) ≠ 5) && decide (descLen e ≤ 2 * ((descLen e - 0)) + (if (6) < 2 then (0) else 0)))))) (2 * b2n (descFull e))) ∧
      t.dch d.val = { ((s)).dch d.val with desc := none, pkt := none, data := [], code := 0, waits := false, unit := false, rereads := 0 } ∧
      (∀ q, q ≠ d.val → t.dch q = s.dch q) ∧
      t.dcF d.val F.DC_POS.CI = (s.dcF d.val F.DC_POS.CI + 1) % 131072 ∧ t.dcF d.val F.DC_POS.SEQ_NEXT = (s.dcF d.val F.DC_POS.SEQ_NEXT + 1) % 256 ∧
      t.out = s.out ++ (if s.dcSteward d.val then [.stewardWrite ((((s.dch d.val)).base + 32 * s.dcIndex d.val) + 0x18) ((leBytes 4 ((6) * 2 ^ 28 + (0)) ++ leBytes 4 ((0)))), .stewardWrite ((((s.dch d.val)).base + 32 * s.dcIndex d.val) + 0x14) ((leBytes 4 (descCtrl e % 2 ^ 31)))] else [.hostWrite ((((s.dch d.val)).base + 32 * s.dcIndex d.val) + 0x18) ((leBytes 4 ((6) * 2 ^ 28 + (0)) ++ leBytes 4 ((0)))), .hostWrite ((((s.dch d.val)).base + 32 * s.dcIndex d.val) + 0x14) ((leBytes 4 (descCtrl e % 2 ^ 31)))]) ∧
      t.reg (chkB (descUnit e)) = (s.unitFree d.val e).reg (chkB (descUnit e)) ∧
      t.sampN = (s.pmc 0x0B0 d.val ((descLen e - 0))).sampN ∧
      ((SMap.get (fun _ => [])) (t.pipe ((if d.val < 16 then 0 else 1))).host d.val).length = 0 ∧
      (∀ q, q ≠ d.val → (SMap.get (fun _ => [])) (t.pipe ((if d.val < 16 then 0 else 1))).host q = (SMap.get (fun _ => [])) (s.pipe ((if d.val < 16 then 0 else 1))).host q) ∧
      t.pipe (1 - ((if d.val < 16 then 0 else 1))) = s.pipe (1 - ((if d.val < 16 then 0 else 1))) ∧ t.pipe ((if d.val < 16 then 0 else 1)) = { s.pipe ((if d.val < 16 then 0 else 1)) with host := (t.pipe ((if d.val < 16 then 0 else 1))).host } ∧
      t.ctrs = (((s.dcCount d.val Ctr.DMA.DESCS).dcCount d.val Ctr.DMA.BYTES ((descLen e - 0))).unitFree d.val e).ctrs ∧
      t.evt = (s.pmc 0x0B0 d.val ((descLen e - 0))).evt ∧
      t = { s with out := t.out, dma := t.dma, pipes := t.pipes, ctrs := t.ctrs, evt := t.evt, sampN := t.sampN, regs := t.regs } ∧
      RegsBut (pmcRegs ++ [(dcB d.val+0x14),(dcB d.val+0x18),chkB (descUnit e)]) s t) ∧
  (∀ (d : Fin 32) (e : List Byte) (s : State),
      s.live 0x3B = true ∧ s.dcState d.val = 1 ∧ (s.bit (dcB d.val) F.DC_CTRL.PENDING) = false →
      ((s.dch d.val)).desc = some e ∧ (((List.range 32).all fun q => !(s.dch q).waits) = true) →
      (s.dcSteward d.val = true ∨ s.dcF d.val F.DC_IRQ_EN.EN = 0) →
      ((s.dch d.val)).code ≠ 5 ∧ ((s.dch d.val)).code ≠ 6 ∧ s.dcCutOff d.val e = false →
      ((s.dch d.val)).mode = 2 ∧ descChk e = false →
    Does (.descriptorComplete d) s fun t =>
      t.dcF d.val F.DC_IRQ.CAUSES = (Nat.lor (Nat.lor (s.dcF d.val F.DC_IRQ.CAUSES) (b2n ((descHalf e && decide ((0) ≠ 5) && decide (descLen e ≤ 2 * ((descLen e - 0)) + (if (0) < 2 then (0) else 0)))))) (2 * b2n (descFull e))) ∧
      t.dch d.val = { ((s)).dch d.val with desc := none, pkt := none, data := [], code := 0, waits := false, unit := false, rereads := 0 } ∧
      (∀ q, q ≠ d.val → t.dch q = s.dch q) ∧
      t.dcF d.val F.DC_POS.CI = (s.dcF d.val F.DC_POS.CI + 1) % 131072 ∧ t.dcF d.val F.DC_POS.SEQ_NEXT = (s.dcF d.val F.DC_POS.SEQ_NEXT + 1) % 256 ∧
      t.out = (s.dcWrite d.val (descAddr2 e) (bytesAt ((s.dch d.val)).data 0 (descLen e))).out ++ (if s.dcSteward d.val then [.stewardWrite ((((s.dch d.val)).base + 32 * s.dcIndex d.val) + 0x18) ((leBytes 4 ((0) * 2 ^ 28 + (0)) ++ leBytes 4 ((0)))), .stewardWrite ((((s.dch d.val)).base + 32 * s.dcIndex d.val) + 0x14) ((leBytes 4 (descCtrl e % 2 ^ 31)))] else [.hostWrite ((((s.dch d.val)).base + 32 * s.dcIndex d.val) + 0x18) ((leBytes 4 ((0) * 2 ^ 28 + (0)) ++ leBytes 4 ((0)))), .hostWrite ((((s.dch d.val)).base + 32 * s.dcIndex d.val) + 0x14) ((leBytes 4 (descCtrl e % 2 ^ 31)))]) ∧
      t.reg (chkB (descUnit e)) = (s.unitFree d.val e).reg (chkB (descUnit e)) ∧
      t.sampN = (s.pmc 0x0B0 d.val ((descLen e - 0))).sampN ∧
      ((SMap.get (fun _ => [])) (t.pipe ((if d.val < 16 then 0 else 1))).host d.val).length = 0 ∧
      (∀ q, q ≠ d.val → (SMap.get (fun _ => [])) (t.pipe ((if d.val < 16 then 0 else 1))).host q = (SMap.get (fun _ => [])) (s.pipe ((if d.val < 16 then 0 else 1))).host q) ∧
      t.pipe (1 - ((if d.val < 16 then 0 else 1))) = s.pipe (1 - ((if d.val < 16 then 0 else 1))) ∧ t.pipe ((if d.val < 16 then 0 else 1)) = { s.pipe ((if d.val < 16 then 0 else 1)) with host := (t.pipe ((if d.val < 16 then 0 else 1))).host } ∧
      t.ctrs = (((s.dcCount d.val Ctr.DMA.DESCS).dcCount d.val Ctr.DMA.BYTES ((descLen e - 0))).unitFree d.val e).ctrs ∧
      t.evt = (s.pmc 0x0B0 d.val ((descLen e - 0))).evt ∧
      t = { s with out := t.out, dma := t.dma, pipes := t.pipes, ctrs := t.ctrs, evt := t.evt, sampN := t.sampN, regs := t.regs } ∧
      RegsBut (pmcRegs ++ [(dcB d.val+0x14),(dcB d.val+0x18),chkB (descUnit e)]) s t) ∧
  (∀ (d : Fin 32) (e : List Byte) (s : State),
      s.live 0x3B = true ∧ s.dcState d.val = 1 ∧ (s.bit (dcB d.val) F.DC_CTRL.PENDING) = false →
      ((s.dch d.val)).desc = some e ∧ (((List.range 32).all fun q => !(s.dch q).waits) = true) →
      (s.dcSteward d.val = true ∨ s.dcF d.val F.DC_IRQ_EN.EN = 0) →
      ((s.dch d.val)).code ≠ 5 ∧ ((s.dch d.val)).code ≠ 6 ∧ s.dcCutOff d.val e = false →
      ((s.dch d.val)).mode = 2 ∧ s.dcAppends d.val e = true →
    Does (.descriptorComplete d) s fun t =>
      t.dcF d.val F.DC_IRQ.CAUSES = (Nat.lor (Nat.lor (s.dcF d.val F.DC_IRQ.CAUSES) (b2n ((descHalf e && decide ((0) ≠ 5) && decide (descLen e ≤ 2 * ((descLen e - 0)) + (if (0) < 2 then (0) else 0)))))) (2 * b2n (descFull e))) ∧
      t.dch d.val = { ((s)).dch d.val with desc := none, pkt := none, data := [], code := 0, waits := false, unit := false, rereads := 0 } ∧
      (∀ q, q ≠ d.val → t.dch q = s.dch q) ∧
      t.dcF d.val F.DC_POS.CI = (s.dcF d.val F.DC_POS.CI + 1) % 131072 ∧ t.dcF d.val F.DC_POS.SEQ_NEXT = (s.dcF d.val F.DC_POS.SEQ_NEXT + 1) % 256 ∧
      t.out = (s.dcWrite d.val (descAddr2 e) (((bytesAt ((s.dch d.val)).data 0 (descLen e)).take (descLen e - polyLen (s.dcPoly e))) ++ polyBytes (s.dcPoly e) (((bytesAt ((s.dch d.val)).data 0 (descLen e)).take (descLen e - polyLen (s.dcPoly e)))))).out ++ (if s.dcSteward d.val then [.stewardWrite ((((s.dch d.val)).base + 32 * s.dcIndex d.val) + 0x18) ((leBytes 4 ((0) * 2 ^ 28 + (0)) ++ leBytes 4 ((0)))), .stewardWrite ((((s.dch d.val)).base + 32 * s.dcIndex d.val) + 0x14) ((leBytes 4 (descCtrl e % 2 ^ 31)))] else [.hostWrite ((((s.dch d.val)).base + 32 * s.dcIndex d.val) + 0x18) ((leBytes 4 ((0) * 2 ^ 28 + (0)) ++ leBytes 4 ((0)))), .hostWrite ((((s.dch d.val)).base + 32 * s.dcIndex d.val) + 0x14) ((leBytes 4 (descCtrl e % 2 ^ 31)))]) ∧
      t.reg (chkB (descUnit e)) = (s.unitFree d.val e).reg (chkB (descUnit e)) ∧
      t.sampN = (s.pmc 0x0B0 d.val ((descLen e - 0))).sampN ∧
      ((SMap.get (fun _ => [])) (t.pipe ((if d.val < 16 then 0 else 1))).host d.val).length = 0 ∧
      (∀ q, q ≠ d.val → (SMap.get (fun _ => [])) (t.pipe ((if d.val < 16 then 0 else 1))).host q = (SMap.get (fun _ => [])) (s.pipe ((if d.val < 16 then 0 else 1))).host q) ∧
      t.pipe (1 - ((if d.val < 16 then 0 else 1))) = s.pipe (1 - ((if d.val < 16 then 0 else 1))) ∧ t.pipe ((if d.val < 16 then 0 else 1)) = { s.pipe ((if d.val < 16 then 0 else 1)) with host := (t.pipe ((if d.val < 16 then 0 else 1))).host } ∧
      t.ctrs = (((s.dcCount d.val Ctr.DMA.DESCS).dcCount d.val Ctr.DMA.BYTES ((descLen e - 0))).unitFree d.val e).ctrs ∧
      t.evt = (s.pmc 0x0B0 d.val ((descLen e - 0))).evt ∧
      t = { s with out := t.out, dma := t.dma, pipes := t.pipes, ctrs := t.ctrs, evt := t.evt, sampN := t.sampN, regs := t.regs } ∧
      RegsBut (pmcRegs ++ [(dcB d.val+0x14),(dcB d.val+0x18),chkB (descUnit e)]) s t) ∧
  (∀ (d : Fin 32) (e : List Byte) (pk : Packet) (s : State),
      s.live 0x3B = true ∧ s.dcState d.val = 1 ∧ (s.bit (dcB d.val) F.DC_CTRL.PENDING) = false →
      ((s.dch d.val)).desc = some e ∧ (((List.range 32).all fun q => !(s.dch q).waits) = true) →
      (s.dcSteward d.val = true ∨ s.dcF d.val F.DC_IRQ_EN.EN = 0) →
      ((s.dch d.val)).code ≠ 5 ∧ ((s.dch d.val)).code ≠ 6 ∧ s.dcCutOff d.val e = false →
      ((s.dch d.val)).mode = 1 ∧ ((s.dch d.val)).pkt = some pk ∧ descChk e = false ∧ pk.uid ≤ 2495 →
    Does (.descriptorComplete d) s fun t =>
      t.dcF d.val F.DC_IRQ.CAUSES = (Nat.lor (Nat.lor (s.dcF d.val F.DC_IRQ.CAUSES) (b2n ((descHalf e && decide ((b2n (decide (descLen e < ((((if descBlock e then metaBlock pk else [])) ++ pk.bytes)).length))) ≠ 5) && decide (descLen e ≤ 2 * ((descLen e - ((descLen e - min (descLen e) ((((if descBlock e then metaBlock pk else [])) ++ pk.bytes)).length)))) + (if (b2n (decide (descLen e < ((((if descBlock e then metaBlock pk else [])) ++ pk.bytes)).length))) < 2 then ((descLen e - min (descLen e) ((((if descBlock e then metaBlock pk else [])) ++ pk.bytes)).length)) else 0)))))) (2 * b2n (descFull e))) ∧
      t.dch d.val = { ((s)).dch d.val with desc := none, pkt := none, data := [], code := 0, waits := false, unit := false, rereads := 0 } ∧
      (∀ q, q ≠ d.val → t.dch q = s.dch q) ∧
      t.dcF d.val F.DC_POS.CI = (s.dcF d.val F.DC_POS.CI + 1) % 131072 ∧ t.dcF d.val F.DC_POS.SEQ_NEXT = (s.dcF d.val F.DC_POS.SEQ_NEXT + 1) % 256 ∧
      t.out = ((s.dcWrite d.val (descAddr e + (((if descBlock e then metaBlock pk else []))).length) ((((((if descBlock e then metaBlock pk else [])) ++ pk.bytes)).take (descLen e)).drop (((if descBlock e then metaBlock pk else []))).length)).dcWrite d.val (descAddr e) ((((((if descBlock e then metaBlock pk else [])) ++ pk.bytes)).take (descLen e)).take (((if descBlock e then metaBlock pk else []))).length)).out ++ (if s.dcSteward d.val then [.stewardWrite ((((s.dch d.val)).base + 32 * s.dcIndex d.val) + 0x18) ((leBytes 4 ((b2n (decide (descLen e < ((((if descBlock e then metaBlock pk else [])) ++ pk.bytes)).length))) * 2 ^ 28 + ((descLen e - min (descLen e) ((((if descBlock e then metaBlock pk else [])) ++ pk.bytes)).length))) ++ leBytes 4 ((pk.bytes.length + (pk.uid - 2432) % 64 * 65536)))), .stewardWrite ((((s.dch d.val)).base + 32 * s.dcIndex d.val) + 0x14) ((leBytes 4 (descCtrl e % 2 ^ 31)))] else [.hostWrite ((((s.dch d.val)).base + 32 * s.dcIndex d.val) + 0x18) ((leBytes 4 ((b2n (decide (descLen e < ((((if descBlock e then metaBlock pk else [])) ++ pk.bytes)).length))) * 2 ^ 28 + ((descLen e - min (descLen e) ((((if descBlock e then metaBlock pk else [])) ++ pk.bytes)).length))) ++ leBytes 4 ((pk.bytes.length + (pk.uid - 2432) % 64 * 65536)))), .hostWrite ((((s.dch d.val)).base + 32 * s.dcIndex d.val) + 0x14) ((leBytes 4 (descCtrl e % 2 ^ 31)))]) ∧
      t.reg (chkB (descUnit e)) = (s.unitFree d.val e).reg (chkB (descUnit e)) ∧
      t.sampN = (s.pmc 0x0B0 d.val ((descLen e - ((descLen e - min (descLen e) ((((if descBlock e then metaBlock pk else [])) ++ pk.bytes)).length))))).sampN ∧
      ((SMap.get (fun _ => [])) (t.pipe ((if d.val < 16 then 0 else 1))).host d.val).length = 0 ∧
      (∀ q, q ≠ d.val → (SMap.get (fun _ => [])) (t.pipe ((if d.val < 16 then 0 else 1))).host q = (SMap.get (fun _ => [])) (s.pipe ((if d.val < 16 then 0 else 1))).host q) ∧
      t.pipe (1 - ((if d.val < 16 then 0 else 1))) = s.pipe (1 - ((if d.val < 16 then 0 else 1))) ∧ t.pipe ((if d.val < 16 then 0 else 1)) = { s.pipe ((if d.val < 16 then 0 else 1)) with host := (t.pipe ((if d.val < 16 then 0 else 1))).host } ∧
      t.ctrs = ((((if descLen e < ((((if descBlock e then metaBlock pk else [])) ++ pk.bytes)).length then s.dcCount d.val Ctr.DMA.TRUNCS else s).dcCount d.val Ctr.DMA.DESCS).dcCount d.val Ctr.DMA.BYTES ((descLen e - ((descLen e - min (descLen e) ((((if descBlock e then metaBlock pk else [])) ++ pk.bytes)).length))))).unitFree d.val e).ctrs ∧
      t.evt = (s.pmc 0x0B0 d.val ((descLen e - ((descLen e - min (descLen e) ((((if descBlock e then metaBlock pk else [])) ++ pk.bytes)).length))))).evt ∧
      t = { s with out := t.out, dma := t.dma, pipes := t.pipes, ctrs := t.ctrs, evt := t.evt, sampN := t.sampN, regs := t.regs } ∧
      RegsBut (pmcRegs ++ [(dcB d.val+0x14),(dcB d.val+0x18),chkB (descUnit e)]) s t) ∧
  (∀ (d : Fin 32) (e : List Byte) (s : State),
      s.live 0x3B = true ∧ s.dcState d.val = 1 ∧ (s.bit (dcB d.val) F.DC_CTRL.PENDING) = false →
      ((s.dch d.val)).desc = some e ∧ (((List.range 32).all fun q => !(s.dch q).waits) = true) →
      (s.dcSteward d.val = true ∨ s.dcF d.val F.DC_IRQ_EN.EN = 0) →
      ((s.dch d.val)).code ≠ 5 ∧ ((s.dch d.val)).code ≠ 6 ∧ s.dcCutOff d.val e = false →
      ((s.dch d.val)).mode = 0 ∧ ((SMap.get (fun _ => [])) (s.pipe ((if d.val < 16 then 0 else 1))).host d.val).length = 0 →
    Does (.descriptorComplete d) s fun t =>
      t.dcF d.val F.DC_IRQ.CAUSES = (Nat.lor (Nat.lor (s.dcF d.val F.DC_IRQ.CAUSES) (b2n ((descHalf e && decide ((0) ≠ 5) && decide (descLen e ≤ 2 * ((descLen e - 0)) + (if (0) < 2 then (0) else 0)))))) (2 * b2n (descFull e))) ∧
      t.dch d.val = { ((s)).dch d.val with desc := none, pkt := none, data := [], code := 0, waits := false, unit := false, rereads := 0 } ∧
      (∀ q, q ≠ d.val → t.dch q = s.dch q) ∧
      t.dcF d.val F.DC_POS.CI = (s.dcF d.val F.DC_POS.CI + 1) % 131072 ∧ t.dcF d.val F.DC_POS.SEQ_NEXT = (s.dcF d.val F.DC_POS.SEQ_NEXT + 1) % 256 ∧
      t.out = s.out ++ (if s.dcSteward d.val then [.stewardWrite ((((s.dch d.val)).base + 32 * s.dcIndex d.val) + 0x18) ((leBytes 4 ((0) * 2 ^ 28 + (0)) ++ leBytes 4 ((0)))), .stewardWrite ((((s.dch d.val)).base + 32 * s.dcIndex d.val) + 0x14) ((leBytes 4 (descCtrl e % 2 ^ 31)))] else [.hostWrite ((((s.dch d.val)).base + 32 * s.dcIndex d.val) + 0x18) ((leBytes 4 ((0) * 2 ^ 28 + (0)) ++ leBytes 4 ((0)))), .hostWrite ((((s.dch d.val)).base + 32 * s.dcIndex d.val) + 0x14) ((leBytes 4 (descCtrl e % 2 ^ 31)))]) ∧
      t.reg (chkB (descUnit e)) = (s.unitFree d.val e).reg (chkB (descUnit e)) ∧
      t.sampN = (s.pmc 0x0B0 d.val ((descLen e - 0))).sampN ∧
      ((SMap.get (fun _ => [])) (t.pipe ((if d.val < 16 then 0 else 1))).host d.val).length = 0 ∧
      (∀ q, q ≠ d.val → (SMap.get (fun _ => [])) (t.pipe ((if d.val < 16 then 0 else 1))).host q = (SMap.get (fun _ => [])) (s.pipe ((if d.val < 16 then 0 else 1))).host q) ∧
      t.pipe (1 - ((if d.val < 16 then 0 else 1))) = s.pipe (1 - ((if d.val < 16 then 0 else 1))) ∧ t.pipe ((if d.val < 16 then 0 else 1)) = { s.pipe ((if d.val < 16 then 0 else 1)) with host := (t.pipe ((if d.val < 16 then 0 else 1))).host } ∧
      t.ctrs = (((s.dcCount d.val Ctr.DMA.DESCS).dcCount d.val Ctr.DMA.BYTES ((descLen e - 0))).unitFree d.val e).ctrs ∧
      t.evt = (s.pmc 0x0B0 d.val ((descLen e - 0))).evt ∧
      t = { s with out := t.out, dma := t.dma, pipes := t.pipes, ctrs := t.ctrs, evt := t.evt, sampN := t.sampN, regs := t.regs } ∧
      RegsBut (pmcRegs ++ [(dcB d.val+0x14),(dcB d.val+0x18),chkB (descUnit e)]) s t) ∧
  (∀ (d : Fin 32) (e : List Byte) (s : State), s.live 0x3B = true ∧ s.dcState d.val = 1 →
      ((s.dch d.val)).desc = some e ∧ ((s.dch d.val)).waits = false →
      ((s.dch d.val)).code ≠ 5 ∧ ((s.dch d.val)).code ≠ 6 ∧ s.dcCutOff d.val e = false →
      ((s.dch d.val)).mode = 0 ∧ ((SMap.get (fun _ => [])) (s.pipe ((if d.val < 16 then 0 else 1))).host d.val).length ≠ 0 →
    Does (.descriptorComplete d) s fun t =>
      t = s) ∧
  (∀ (d : Fin 32) (phase : DmaPhase) (cause : Fin 4) (moved : BitVec 25) (s : State),
      (s.live 0x3B = false ∨ s.dcState d.val ≠ 1 ∨ (phase = .fetch ∧ (((s.dch d.val)).desc.isSome = true ∨ s.dcHeld d.val = 0)) ∨ (phase ≠ .fetch ∧ (((s.dch d.val)).desc.isSome = false ∨ ((s.dch d.val)).waits = true))) →
    Does (.dmaBusError d phase cause moved) s fun t =>
      t = s) ∧
  (∀ (d : Fin 32) (phase : DmaPhase) (cause : Fin 4) (moved : BitVec 25) (s : State),
      s.live 0x3B = true ∧ s.dcState d.val = 1 → phase = .fetch ∧ ((s.dch d.val)).desc = none ∧ s.dcHeld d.val ≠ 0 →
      (s.dcSteward d.val = true ∨ s.dcF d.val F.DC_IRQ_EN.EN = 0) →
    Does (.dmaBusError d phase cause moved) s fun t =>
      t.dcState d.val = 2 ∧ t.dcF d.val F.DC_CTRL.CAUSE = 2 ∧ t.timerOn (Tm.stale d.val) = false ∧
      t.dch d.val = { (s.dch d.val) with rereads := 0 } ∧ (∀ q, q ≠ d.val → t.dch q = s.dch q) ∧
      t.dcF d.val F.DC_IRQ.CAUSES = Nat.lor (s.dcF d.val F.DC_IRQ.CAUSES) 8 ∧
      t.ctrs = (s.dcCount d.val Ctr.DMA.BUS_ERRS).ctrs ∧
      t.evt = ((s).raise Ev.DMA_BUS_ERR 0x3B d.val [(1, d.val), (1, cause.val)]).evt ∧
      t = { s with dma := t.dma, ctrs := t.ctrs, evt := t.evt, timers := t.timers, regs := t.regs } ∧
      TimersBut [Tm.stale d.val] s t ∧ RegsBut [(dcB d.val+0x0),(dcB d.val+0x18)] s t) ∧
  (∀ (d : Fin 32) (phase : DmaPhase) (cause : Fin 4) (moved : BitVec 25) (e : List Byte) (s : State),
      s.live 0x3B = true ∧ s.dcState d.val = 1 →
      phase = .data ∧ ((s.dch d.val)).desc = some e ∧ (((List.range 32).all fun q => !(s.dch q).waits) = true) →
      (s.dcSteward d.val = true ∨ s.dcF d.val F.DC_IRQ_EN.EN = 0) →
    Does (.dmaBusError d phase cause moved) s fun t =>
      t.dcState d.val = 2 ∧ t.dcF d.val F.DC_CTRL.CAUSE = 2 ∧ t.timerOn (Tm.stale d.val) = false ∧
      t.dcF d.val F.DC_IRQ.CAUSES = Nat.lor ((Nat.lor (Nat.lor (s.dcF d.val F.DC_IRQ.CAUSES) (b2n ((descHalf e && decide ((4) ≠ 5) && decide (descLen e ≤ 2 * ((descLen e - (descLen e - moved.toNat))) + (if (4) < 2 then ((descLen e - moved.toNat)) else 0)))))) (2 * b2n (descFull e)))) 8 ∧
      t.dch d.val = { ((s)).dch d.val with desc := none, pkt := none, data := [], code := 0, waits := false, unit := false, rereads := 0 } ∧
      (∀ q, q ≠ d.val → t.dch q = s.dch q) ∧
      t.dcF d.val F.DC_POS.CI = (s.dcF d.val F.DC_POS.CI + 1) % 131072 ∧ t.dcF d.val F.DC_POS.SEQ_NEXT = (s.dcF d.val F.DC_POS.SEQ_NEXT + 1) % 256 ∧
      t.out = s.out ++ (if s.dcSteward d.val then [.stewardWrite ((((s.dch d.val)).base + 32 * s.dcIndex d.val) + 0x18) ((leBytes 4 ((4) * 2 ^ 28 + ((descLen e - moved.toNat))) ++ leBytes 4 ((0)))), .stewardWrite ((((s.dch d.val)).base + 32 * s.dcIndex d.val) + 0x14) ((leBytes 4 (descCtrl e % 2 ^ 31)))] else [.hostWrite ((((s.dch d.val)).base + 32 * s.dcIndex d.val) + 0x18) ((leBytes 4 ((4) * 2 ^ 28 + ((descLen e - moved.toNat))) ++ leBytes 4 ((0)))), .hostWrite ((((s.dch d.val)).base + 32 * s.dcIndex d.val) + 0x14) ((leBytes 4 (descCtrl e % 2 ^ 31)))]) ∧
      t.reg (chkB (descUnit e)) = (s.unitFree d.val e).reg (chkB (descUnit e)) ∧
      t.sampN = (s.pmc 0x0B0 d.val ((descLen e - (descLen e - moved.toNat)))).sampN ∧
      ((SMap.get (fun _ => [])) (t.pipe ((if d.val < 16 then 0 else 1))).host d.val).length = 0 ∧
      (∀ q, q ≠ d.val → (SMap.get (fun _ => [])) (t.pipe ((if d.val < 16 then 0 else 1))).host q = (SMap.get (fun _ => [])) (s.pipe ((if d.val < 16 then 0 else 1))).host q) ∧
      t.pipe (1 - ((if d.val < 16 then 0 else 1))) = s.pipe (1 - ((if d.val < 16 then 0 else 1))) ∧ t.pipe ((if d.val < 16 then 0 else 1)) = { s.pipe ((if d.val < 16 then 0 else 1)) with host := (t.pipe ((if d.val < 16 then 0 else 1))).host } ∧
      t.ctrs = ((((s.dcCount d.val Ctr.DMA.DESCS).dcCount d.val Ctr.DMA.BYTES ((descLen e - (descLen e - moved.toNat)))).unitFree d.val e).dcCount d.val Ctr.DMA.BUS_ERRS).ctrs ∧
      t.evt = ((s.pmc 0x0B0 d.val ((descLen e - (descLen e - moved.toNat)))).raise Ev.DMA_BUS_ERR 0x3B d.val [(1, d.val), (1, cause.val)]).evt ∧
      t = { s with out := t.out, dma := t.dma, pipes := t.pipes, ctrs := t.ctrs, evt := t.evt, sampN := t.sampN, regs := t.regs, timers := t.timers } ∧
      RegsBut (pmcRegs ++ [(dcB d.val+0x14),(dcB d.val+0x18),(dcB d.val+0x0),chkB (descUnit e)]) s t ∧
      TimersBut [Tm.stale d.val] s t) ∧
  (∀ (d : Fin 32) (phase : DmaPhase) (cause : Fin 4) (moved : BitVec 25) (e : List Byte) (s : State),
      s.live 0x3B = true ∧ s.dcState d.val = 1 →
      phase = .writeback ∧ ((s.dch d.val)).desc = some e ∧ (((List.range 32).all fun q => !(s.dch q).waits) = true) →
      (s.dcSteward d.val = true ∨ s.dcF d.val F.DC_IRQ_EN.EN = 0) →
    Does (.dmaBusError d phase cause moved) s fun t =>
      t.dcState d.val = 2 ∧ t.dcF d.val F.DC_CTRL.CAUSE = 2 ∧ t.timerOn (Tm.stale d.val) = false ∧
      t.dcF d.val F.DC_IRQ.CAUSES = Nat.lor (s.dcF d.val F.DC_IRQ.CAUSES) 8 ∧
      t.dch d.val = { ((s)).dch d.val with desc := none, pkt := none, data := [], code := 0, waits := false, unit := false, rereads := 0 } ∧
      (∀ q, q ≠ d.val → t.dch q = s.dch q) ∧ t.reg (chkB (descUnit e)) = (s.unitFree d.val e).reg (chkB (descUnit e)) ∧
      ((SMap.get (fun _ => [])) (t.pipe ((if d.val < 16 then 0 else 1))).host d.val).length = 0 ∧
      (∀ q, q ≠ d.val → (SMap.get (fun _ => [])) (t.pipe ((if d.val < 16 then 0 else 1))).host q = (SMap.get (fun _ => [])) (s.pipe ((if d.val < 16 then 0 else 1))).host q) ∧
      t.pipe (1 - ((if d.val < 16 then 0 else 1))) = s.pipe (1 - ((if d.val < 16 then 0 else 1))) ∧ t.pipe ((if d.val < 16 then 0 else 1)) = { s.pipe ((if d.val < 16 then 0 else 1)) with host := (t.pipe ((if d.val < 16 then 0 else 1))).host } ∧
      t.ctrs = ((s.unitFree d.val e).dcCount d.val Ctr.DMA.BUS_ERRS).ctrs ∧
      t.evt = ((s).raise Ev.DMA_BUS_ERR 0x3B d.val [(1, d.val), (1, cause.val)]).evt ∧
      t = { s with dma := t.dma, pipes := t.pipes, ctrs := t.ctrs, evt := t.evt, timers := t.timers, regs := t.regs } ∧
      TimersBut [Tm.stale d.val] s t ∧ RegsBut [(dcB d.val+0x0),(dcB d.val+0x18),chkB (descUnit e)] s t)

/-- When the path goes down, PATH_DOWN shows it and every running channel of the host stops with HOST_DOWN, its
descriptor and packet let go without writeback, its interrupt bit set; the Steward's channels run on. A function level
reset also returns the MSI-X state to its reset values, and after RUN the coalescing registers, the event rings with
their numbers, and the host's channels with their pages. The path comes up only with the link. A link change shows
state, speed and width and is reported; a link that goes down takes the path with it; errors on the link set their bits
of the AER status registers, reported at most once per 1 ms; with HST not live nothing happens. A PCIe reset takes the
link and the path down and returns the registers of HST (sealed: those without RWL fields) and the MSI-X state, after
RUN the rings and the host's channels as well; the stage does not change. The stops are stated where no channel waits
for or holds a check unit. Nothing else changes but what the clauses name. -/
def Obligations.HostPathAndLink : Prop :=
  (∀ (why : PathDown) (s : State), why ≠ .flr →
      ((List.range 32).all (fun q => !(s.dch q).waits && !(s.dch q).unit) = true) →
    Does (.hostPathDown why) s fun t =>
      t.bit hstB F.HST_STATUS.PATH_DOWN = true ∧
      (∀ q, q < 32 → t.dch q = if (s.dcState q = 1 ∧ s.dcSteward q = false) then (if (s.dch q).desc.isSome then ({ s.dch q with desc := none, pkt := none, data := [], code := 0, waits := false, unit := false, rereads := 0 }) else { s.dch q with rereads := 0 }) else s.dch q) ∧
      (∀ q, 32 ≤ q → t.dch q = s.dch q) ∧
      (∀ q, q < 32 → t.dcState q = (if (s.dcState q = 1 ∧ s.dcSteward q = false) then 2 else s.dcState q) ∧ t.dcF q F.DC_CTRL.CAUSE = (if (s.dcState q = 1 ∧ s.dcSteward q = false) then 5 else s.dcF q F.DC_CTRL.CAUSE) ∧ t.dcF q F.DC_IRQ.CAUSES = (if (s.dcState q = 1 ∧ s.dcSteward q = false) then Nat.lor (s.dcF q F.DC_IRQ.CAUSES) 64 else s.dcF q F.DC_IRQ.CAUSES)) ∧
      (∀ q, q < 32 → t.timerOn (Tm.stale q) = (s.timerOn (Tm.stale q) && !decide ((s.dcState q = 1 ∧ s.dcSteward q = false)))) ∧
      (∀ q, q < 32 → (t.dcF q F.DC_CTRL.PENDING, t.dcF q F.DC_CTRL.GEN, t.dcF q F.DC_CTRL.STEWARD) = (s.dcF q F.DC_CTRL.PENDING, s.dcF q F.DC_CTRL.GEN, s.dcF q F.DC_CTRL.STEWARD)) ∧
      (∀ q, (SMap.get (fun _ => [])) (t.pipe 0).host q = (if q < 16 ∧ (s.dcState q = 1 ∧ s.dcSteward q = false) ∧ (s.dch q).desc.isSome = true then [] else (SMap.get (fun _ => [])) (s.pipe 0).host q)) ∧
      (∀ q, (SMap.get (fun _ => [])) (t.pipe 1).host q = (if 16 ≤ q ∧ q < 32 ∧ (s.dcState q = 1 ∧ s.dcSteward q = false) ∧ (s.dch q).desc.isSome = true then [] else (SMap.get (fun _ => [])) (s.pipe 1).host q)) ∧
      t.pipe 0 = { s.pipe 0 with host := (t.pipe 0).host } ∧ t.pipe 1 = { s.pipe 1 with host := (t.pipe 1).host } ∧
      t = { s with dma := t.dma, pipes := t.pipes, timers := t.timers, regs := t.regs } ∧
      TimersBut ((List.range 32).map Tm.stale) s t ∧
      RegsBut ([(hstB+0xc)] ++ ((List.range 32).flatMap fun d => [dcB d, dcB d + 0x18])) s t) ∧
  (∀ (why : PathDown) (s : State), why = .flr ∧ s.stage ≠ 0xA →
      ((List.range 32).all (fun q => !(s.dch q).waits && !(s.dch q).unit) = true) →
    Does (.hostPathDown why) s fun t =>
      t.bit hstB F.HST_STATUS.PATH_DOWN = true ∧
      (∀ q, q < 32 → t.dch q = if (s.dcState q = 1 ∧ s.dcSteward q = false) then (if (s.dch q).desc.isSome then ({ s.dch q with desc := none, pkt := none, data := [], code := 0, waits := false, unit := false, rereads := 0 }) else { s.dch q with rereads := 0 }) else s.dch q) ∧
      (∀ q, 32 ≤ q → t.dch q = s.dch q) ∧
      (∀ q, q < 32 → t.dcState q = (if (s.dcState q = 1 ∧ s.dcSteward q = false) then 2 else s.dcState q) ∧ t.dcF q F.DC_CTRL.CAUSE = (if (s.dcState q = 1 ∧ s.dcSteward q = false) then 5 else s.dcF q F.DC_CTRL.CAUSE) ∧ t.dcF q F.DC_IRQ.CAUSES = (if (s.dcState q = 1 ∧ s.dcSteward q = false) then Nat.lor (s.dcF q F.DC_IRQ.CAUSES) 64 else s.dcF q F.DC_IRQ.CAUSES)) ∧
      (∀ q, q < 32 → t.timerOn (Tm.stale q) = (s.timerOn (Tm.stale q) && !decide ((s.dcState q = 1 ∧ s.dcSteward q = false)))) ∧
      (∀ q, q < 32 → (t.dcF q F.DC_CTRL.PENDING, t.dcF q F.DC_CTRL.GEN, t.dcF q F.DC_CTRL.STEWARD) = (s.dcF q F.DC_CTRL.PENDING, s.dcF q F.DC_CTRL.GEN, s.dcF q F.DC_CTRL.STEWARD)) ∧
      (∀ q, (SMap.get (fun _ => [])) (t.pipe 0).host q = (if q < 16 ∧ (s.dcState q = 1 ∧ s.dcSteward q = false) ∧ (s.dch q).desc.isSome = true then [] else (SMap.get (fun _ => [])) (s.pipe 0).host q)) ∧
      (∀ q, (SMap.get (fun _ => [])) (t.pipe 1).host q = (if 16 ≤ q ∧ q < 32 ∧ (s.dcState q = 1 ∧ s.dcSteward q = false) ∧ (s.dch q).desc.isSome = true then [] else (SMap.get (fun _ => [])) (s.pipe 1).host q)) ∧
      t.pipe 0 = { s.pipe 0 with host := (t.pipe 0).host } ∧ t.pipe 1 = { s.pipe 1 with host := (t.pipe 1).host } ∧
      t.evt = { (s).evt with msixCauses := [], msixTable := [], msixPba := [], msixEnable := false, msixFuncMask := false } ∧
      (∀ q, q < 64 → t.timerOn (Tm.msix q) = false) ∧
      t = { s with dma := t.dma, pipes := t.pipes, evt := t.evt, timers := t.timers, regs := t.regs } ∧
      TimersBut (((List.range 32).map Tm.stale) ++ (List.range 64).map Tm.msix) s t ∧
      RegsBut ([(hstB+0xc)] ++ ((List.range 32).flatMap fun d => [dcB d, dcB d + 0x18])) s t) ∧
  (∀ (why : PathDown) (s : State), why = .flr ∧ s.stage = 0xA →
      ((List.range 32).all (fun q => !(s.dch q).waits && !(s.dch q).unit) = true) →
    Does (.hostPathDown why) s fun t =>
      t.bit hstB F.HST_STATUS.PATH_DOWN = true ∧
      (∀ q, q < 32 → t.dch q = if s.dcSteward q then s.dch q else DmaChan.empty) ∧ (∀ q, 32 ≤ q → t.dch q = s.dch q) ∧
      (∀ q, q < 0x400 → ((List.range 32).all fun d => t.reg (dcB d + q) == if s.dcSteward d then s.reg (dcB d + q) else resetWord (dcB d + q)) = true) ∧
      (∀ q, q < 32 → t.timerOn (Tm.stale q) = (s.timerOn (Tm.stale q) && s.dcSteward q)) ∧
      (∀ q, (SMap.get (fun _ => [])) (t.pipe 0).host q = (if q < 16 ∧ (s.dcState q = 1 ∧ s.dcSteward q = false) ∧ (s.dch q).desc.isSome = true then [] else (SMap.get (fun _ => [])) (s.pipe 0).host q)) ∧
      (∀ q, (SMap.get (fun _ => [])) (t.pipe 1).host q = (if 16 ≤ q ∧ q < 32 ∧ (s.dcState q = 1 ∧ s.dcSteward q = false) ∧ (s.dch q).desc.isSome = true then [] else (SMap.get (fun _ => [])) (s.pipe 1).host q)) ∧
      t.pipe 0 = { s.pipe 0 with host := (t.pipe 0).host } ∧ t.pipe 1 = { s.pipe 1 with host := (t.pipe 1).host } ∧
      (∀ q, q < 0x100 → t.reg (hstB + 0x100 + q) = resetWord (hstB + 0x100 + q)) ∧
      (∀ q, q < 0x80 → t.reg (evtB + q) = resetWord (evtB + q)) ∧
      t.evt = { (s).evt with ringSeq := [], msixCauses := [], msixTable := [], msixPba := [], msixEnable := false, msixFuncMask := false } ∧
      (∀ q, q < 64 → t.timerOn (Tm.msix q) = false) ∧
      t = { s with dma := t.dma, pipes := t.pipes, evt := t.evt, timers := t.timers, regs := t.regs } ∧
      TimersBut (((List.range 32).map Tm.stale) ++ (List.range 64).map Tm.msix) s t ∧
      RegsBut ([(hstB+0xc)] ++ (List.range 0x100).map (fun k => hstB+0x100+k) ++ (List.range 0x80).map (fun k => evtB+k) ++ (((List.range 32).flatMap fun d => (List.range 0x400).map fun k => dcB d + k))) s t) ∧
  (∀ (s : State), s.bit hstB F.HST_STATUS.LINK_UP = true →
    Does .hostPathUp s fun t =>
      t.bit hstB F.HST_STATUS.PATH_DOWN = false ∧ t = { s with regs := t.regs } ∧ RegsBut [(hstB+0xc)] s t) ∧
  (∀ (s : State), s.bit hstB F.HST_STATUS.LINK_UP = false →
    Does .hostPathUp s fun t =>
      t = s) ∧
  (∀ (now : LinkNow) (gen : Fin 4) (width : Fin 3) (s : State), s.live 0x3A = false →
    Does (.pcieLinkChange now gen width) s fun t =>
      t = s) ∧
  (∀ (gen : Fin 4) (width : Fin 3) (s : State), s.live 0x3A = true →
    Does (.pcieLinkChange .up gen width) s fun t =>
      t.bit hstB F.HST_STATUS.LINK_UP = true ∧ t.fld hstB F.HST_STATUS.SPEED = gen.val + 1 ∧ t.fld hstB F.HST_STATUS.WIDTH = 2 ^ width.val ∧ t.pathDown = s.pathDown ∧
      t.evt = (s.raise Ev.HST_LINK 0x3A noInst [(1, 1), (1, gen.val + 1), (1, 2 ^ width.val)]).evt ∧
      t = { s with evt := t.evt, regs := t.regs } ∧ RegsBut [(hstB+0xc)] s t) ∧
  (∀ (gen : Fin 4) (width : Fin 3) (s : State), s.live 0x3A = true →
      ((List.range 32).all (fun q => !(s.dch q).waits && !(s.dch q).unit) = true) →
    Does (.pcieLinkChange .down gen width) s fun t =>
      t.bit hstB F.HST_STATUS.LINK_UP = false ∧ t.fld hstB F.HST_STATUS.SPEED = 0 ∧ t.fld hstB F.HST_STATUS.WIDTH = 0 ∧
      t.evt = (s.raise Ev.HST_LINK 0x3A noInst [(1, 0), (1, 0), (1, 0)]).evt ∧ t.bit hstB F.HST_STATUS.PATH_DOWN = true ∧
      (∀ q, q < 32 → t.dch q = if (s.dcState q = 1 ∧ s.dcSteward q = false) then (if (s.dch q).desc.isSome then ({ s.dch q with desc := none, pkt := none, data := [], code := 0, waits := false, unit := false, rereads := 0 }) else { s.dch q with rereads := 0 }) else s.dch q) ∧
      (∀ q, 32 ≤ q → t.dch q = s.dch q) ∧
      (∀ q, q < 32 → t.dcState q = (if (s.dcState q = 1 ∧ s.dcSteward q = false) then 2 else s.dcState q) ∧ t.dcF q F.DC_CTRL.CAUSE = (if (s.dcState q = 1 ∧ s.dcSteward q = false) then 5 else s.dcF q F.DC_CTRL.CAUSE) ∧ t.dcF q F.DC_IRQ.CAUSES = (if (s.dcState q = 1 ∧ s.dcSteward q = false) then Nat.lor (s.dcF q F.DC_IRQ.CAUSES) 64 else s.dcF q F.DC_IRQ.CAUSES)) ∧
      (∀ q, q < 32 → t.timerOn (Tm.stale q) = (s.timerOn (Tm.stale q) && !decide ((s.dcState q = 1 ∧ s.dcSteward q = false)))) ∧
      (∀ q, q < 32 → (t.dcF q F.DC_CTRL.PENDING, t.dcF q F.DC_CTRL.GEN, t.dcF q F.DC_CTRL.STEWARD) = (s.dcF q F.DC_CTRL.PENDING, s.dcF q F.DC_CTRL.GEN, s.dcF q F.DC_CTRL.STEWARD)) ∧
      (∀ q, (SMap.get (fun _ => [])) (t.pipe 0).host q = (if q < 16 ∧ (s.dcState q = 1 ∧ s.dcSteward q = false) ∧ (s.dch q).desc.isSome = true then [] else (SMap.get (fun _ => [])) (s.pipe 0).host q)) ∧
      (∀ q, (SMap.get (fun _ => [])) (t.pipe 1).host q = (if 16 ≤ q ∧ q < 32 ∧ (s.dcState q = 1 ∧ s.dcSteward q = false) ∧ (s.dch q).desc.isSome = true then [] else (SMap.get (fun _ => [])) (s.pipe 1).host q)) ∧
      t.pipe 0 = { s.pipe 0 with host := (t.pipe 0).host } ∧ t.pipe 1 = { s.pipe 1 with host := (t.pipe 1).host } ∧
      t = { s with dma := t.dma, pipes := t.pipes, evt := t.evt, timers := t.timers, regs := t.regs } ∧
      TimersBut ((List.range 32).map Tm.stale) s t ∧
      RegsBut ([(hstB+0xc)] ++ ((List.range 32).flatMap fun d => [dcB d, dcB d + 0x18])) s t) ∧
  (∀ (un co : Word) (gen : Fin 4) (width : Fin 3) (s : State), s.live 0x3A = true →
    Does (.pcieLinkChange (.errors un co) gen width) s fun t =>
      t.evt.aer = (s.evt.aer.1 ||| un, s.evt.aer.2 ||| co) ∧
      { t.evt with aer := s.evt.aer } = (s.raiseMs 0 Ev.HST_PCIE_ERR 0x3A noInst [(4, t.evt.aer.1.toNat), (4, t.evt.aer.2.toNat)]).evt ∧
      t = { s with evt := t.evt }) ∧
  (∀ (hot : Bool) (s : State), s.sealed = false ∧ s.stage ≠ 0xA →
      ((List.range 32).all (fun q => !(s.dch q).waits && !(s.dch q).unit) = true) →
    Does (.pcieReset hot) s fun t =>
      (∀ q, hstB + q < window 0x3B → t.reg (hstB + q) = resetWord (hstB + q)) ∧
      (∀ q, q < 32 → t.dch q = if (s.dcState q = 1 ∧ s.dcSteward q = false) then (if (s.dch q).desc.isSome then ({ s.dch q with desc := none, pkt := none, data := [], code := 0, waits := false, unit := false, rereads := 0 }) else { s.dch q with rereads := 0 }) else s.dch q) ∧
      (∀ q, 32 ≤ q → t.dch q = s.dch q) ∧
      (∀ q, q < 32 → t.dcState q = (if (s.dcState q = 1 ∧ s.dcSteward q = false) then 2 else s.dcState q) ∧ t.dcF q F.DC_CTRL.CAUSE = (if (s.dcState q = 1 ∧ s.dcSteward q = false) then 5 else s.dcF q F.DC_CTRL.CAUSE) ∧ t.dcF q F.DC_IRQ.CAUSES = (if (s.dcState q = 1 ∧ s.dcSteward q = false) then Nat.lor (s.dcF q F.DC_IRQ.CAUSES) 64 else s.dcF q F.DC_IRQ.CAUSES)) ∧
      (∀ q, q < 32 → t.timerOn (Tm.stale q) = (s.timerOn (Tm.stale q) && !decide ((s.dcState q = 1 ∧ s.dcSteward q = false)))) ∧
      (∀ q, q < 32 → (t.dcF q F.DC_CTRL.PENDING, t.dcF q F.DC_CTRL.GEN, t.dcF q F.DC_CTRL.STEWARD) = (s.dcF q F.DC_CTRL.PENDING, s.dcF q F.DC_CTRL.GEN, s.dcF q F.DC_CTRL.STEWARD)) ∧
      (∀ q, (SMap.get (fun _ => [])) (t.pipe 0).host q = (if q < 16 ∧ (s.dcState q = 1 ∧ s.dcSteward q = false) ∧ (s.dch q).desc.isSome = true then [] else (SMap.get (fun _ => [])) (s.pipe 0).host q)) ∧
      (∀ q, (SMap.get (fun _ => [])) (t.pipe 1).host q = (if 16 ≤ q ∧ q < 32 ∧ (s.dcState q = 1 ∧ s.dcSteward q = false) ∧ (s.dch q).desc.isSome = true then [] else (SMap.get (fun _ => [])) (s.pipe 1).host q)) ∧
      t.pipe 0 = { s.pipe 0 with host := (t.pipe 0).host } ∧ t.pipe 1 = { s.pipe 1 with host := (t.pipe 1).host } ∧
      t.evt = { ((if s.live 0x3A = true ∧ s.bit hstB F.HST_STATUS.LINK_UP = true then s.raise Ev.HST_LINK 0x3A noInst [(1, 0), (1, 0), (1, 0)] else s)).evt with msixCauses := [], msixTable := [], msixPba := [], msixEnable := false, msixFuncMask := false } ∧
      (∀ q, q < 64 → t.timerOn (Tm.msix q) = false) ∧
      t = { s with dma := t.dma, pipes := t.pipes, evt := t.evt, timers := t.timers, regs := t.regs } ∧
      TimersBut (((List.range 32).map Tm.stale) ++ (List.range 64).map Tm.msix) s t ∧
      RegsBut (((List.range (window 0x3B - hstB)).map (hstB + ·)) ++ ((List.range 32).flatMap fun d => [dcB d, dcB d + 0x18])) s t) ∧
  (∀ (hot : Bool) (s : State), s.sealed = true ∧ s.stage ≠ 0xA →
      ((List.range 32).all (fun q => !(s.dch q).waits && !(s.dch q).unit) = true) →
    Does (.pcieReset hot) s fun t =>
      (∀ q, hstB + q < window 0x3B → (q = 4 ∨ q = 8 ∨ t.reg (hstB + q) = resetWord (hstB + q))) ∧
      t.reg (hstB + 4) = s.reg (hstB + 4) ∧ t.bit hstB F.HST_CFG.HOSTLESS = s.bit hstB F.HST_CFG.HOSTLESS ∧ t.fld hstB F.HST_CFG.RD_TO = F.HST_CFG.RD_TO.of (resetWord (hstB + 8)).toNat ∧
      (∀ q, q < 32 → t.dch q = if (s.dcState q = 1 ∧ s.dcSteward q = false) then (if (s.dch q).desc.isSome then ({ s.dch q with desc := none, pkt := none, data := [], code := 0, waits := false, unit := false, rereads := 0 }) else { s.dch q with rereads := 0 }) else s.dch q) ∧
      (∀ q, 32 ≤ q → t.dch q = s.dch q) ∧
      (∀ q, q < 32 → t.dcState q = (if (s.dcState q = 1 ∧ s.dcSteward q = false) then 2 else s.dcState q) ∧ t.dcF q F.DC_CTRL.CAUSE = (if (s.dcState q = 1 ∧ s.dcSteward q = false) then 5 else s.dcF q F.DC_CTRL.CAUSE) ∧ t.dcF q F.DC_IRQ.CAUSES = (if (s.dcState q = 1 ∧ s.dcSteward q = false) then Nat.lor (s.dcF q F.DC_IRQ.CAUSES) 64 else s.dcF q F.DC_IRQ.CAUSES)) ∧
      (∀ q, q < 32 → t.timerOn (Tm.stale q) = (s.timerOn (Tm.stale q) && !decide ((s.dcState q = 1 ∧ s.dcSteward q = false)))) ∧
      (∀ q, q < 32 → (t.dcF q F.DC_CTRL.PENDING, t.dcF q F.DC_CTRL.GEN, t.dcF q F.DC_CTRL.STEWARD) = (s.dcF q F.DC_CTRL.PENDING, s.dcF q F.DC_CTRL.GEN, s.dcF q F.DC_CTRL.STEWARD)) ∧
      (∀ q, (SMap.get (fun _ => [])) (t.pipe 0).host q = (if q < 16 ∧ (s.dcState q = 1 ∧ s.dcSteward q = false) ∧ (s.dch q).desc.isSome = true then [] else (SMap.get (fun _ => [])) (s.pipe 0).host q)) ∧
      (∀ q, (SMap.get (fun _ => [])) (t.pipe 1).host q = (if 16 ≤ q ∧ q < 32 ∧ (s.dcState q = 1 ∧ s.dcSteward q = false) ∧ (s.dch q).desc.isSome = true then [] else (SMap.get (fun _ => [])) (s.pipe 1).host q)) ∧
      t.pipe 0 = { s.pipe 0 with host := (t.pipe 0).host } ∧ t.pipe 1 = { s.pipe 1 with host := (t.pipe 1).host } ∧
      t.evt = { ((if s.live 0x3A = true ∧ s.bit hstB F.HST_STATUS.LINK_UP = true then s.raise Ev.HST_LINK 0x3A noInst [(1, 0), (1, 0), (1, 0)] else s)).evt with msixCauses := [], msixTable := [], msixPba := [], msixEnable := false, msixFuncMask := false } ∧
      (∀ q, q < 64 → t.timerOn (Tm.msix q) = false) ∧
      t = { s with dma := t.dma, pipes := t.pipes, evt := t.evt, timers := t.timers, regs := t.regs } ∧
      TimersBut (((List.range 32).map Tm.stale) ++ (List.range 64).map Tm.msix) s t ∧
      RegsBut (((List.range (window 0x3B - hstB)).map (hstB + ·)) ++ ((List.range 32).flatMap fun d => [dcB d, dcB d + 0x18])) s t) ∧
  (∀ (hot : Bool) (s : State), s.sealed = true ∧ s.stage = 0xA →
      ((List.range 32).all (fun q => !(s.dch q).waits && !(s.dch q).unit) = true) →
    Does (.pcieReset hot) s fun t =>
      (∀ q, hstB + q < window 0x3B → (q = 4 ∨ q = 8 ∨ t.reg (hstB + q) = resetWord (hstB + q))) ∧
      t.reg (hstB + 4) = s.reg (hstB + 4) ∧ t.bit hstB F.HST_CFG.HOSTLESS = s.bit hstB F.HST_CFG.HOSTLESS ∧ t.fld hstB F.HST_CFG.RD_TO = F.HST_CFG.RD_TO.of (resetWord (hstB + 8)).toNat ∧
      (∀ q, q < 32 → t.dch q = if s.dcSteward q then s.dch q else DmaChan.empty) ∧ (∀ q, 32 ≤ q → t.dch q = s.dch q) ∧
      (∀ q, q < 0x400 → ((List.range 32).all fun d => t.reg (dcB d + q) == if s.dcSteward d then s.reg (dcB d + q) else resetWord (dcB d + q)) = true) ∧
      (∀ q, q < 32 → t.timerOn (Tm.stale q) = (s.timerOn (Tm.stale q) && s.dcSteward q)) ∧
      (∀ q, (SMap.get (fun _ => [])) (t.pipe 0).host q = (if q < 16 ∧ (s.dcState q = 1 ∧ s.dcSteward q = false) ∧ (s.dch q).desc.isSome = true then [] else (SMap.get (fun _ => [])) (s.pipe 0).host q)) ∧
      (∀ q, (SMap.get (fun _ => [])) (t.pipe 1).host q = (if 16 ≤ q ∧ q < 32 ∧ (s.dcState q = 1 ∧ s.dcSteward q = false) ∧ (s.dch q).desc.isSome = true then [] else (SMap.get (fun _ => [])) (s.pipe 1).host q)) ∧
      t.pipe 0 = { s.pipe 0 with host := (t.pipe 0).host } ∧ t.pipe 1 = { s.pipe 1 with host := (t.pipe 1).host } ∧
      (∀ q, q < 0x80 → t.reg (evtB + q) = resetWord (evtB + q)) ∧
      t.evt = { ((if s.live 0x3A = true ∧ s.bit hstB F.HST_STATUS.LINK_UP = true then s.raise Ev.HST_LINK 0x3A noInst [(1, 0), (1, 0), (1, 0)] else s)).evt with ringSeq := [], msixCauses := [], msixTable := [], msixPba := [], msixEnable := false, msixFuncMask := false } ∧
      (∀ q, q < 64 → t.timerOn (Tm.msix q) = false) ∧
      t = { s with dma := t.dma, pipes := t.pipes, evt := t.evt, timers := t.timers, regs := t.regs } ∧
      TimersBut (((List.range 32).map Tm.stale) ++ (List.range 64).map Tm.msix) s t ∧
      RegsBut (((List.range (window 0x3B - hstB)).map (hstB + ·)) ++ (List.range 0x80).map (fun k => evtB+k) ++ (((List.range 32).flatMap fun d => (List.range 0x400).map fun k => dcB d + k))) s t)

/-- With EVT live and an event waiting, the oldest is taken and counted, and counts for the performance counters. A
source that routes to no enabled sink leaves it there. Routed to a host ring that is enabled, not full, with the path up
and no host-less operation, its record of 32 bytes goes to host memory at the ring's next slot with phase, number and
time, PI advances, FULL shows and its entry is reported; the ring's vector has one cause more, which is sent at once
where nothing coalesces and nothing masks it. A ring that cannot take it counts it lost and shows LOST, and its number
is used. Routed to the Ledger it takes the ring's next slot, one record of the allowance and a number, or is dropped and
counted where none is left or a sag is in force, with a report at most once per 1 s. Routed to OSPA under host-less
operation it joins the queue of 128 or counts lost. With EVT not live or nothing waiting nothing happens. Nothing else
changes but what the clauses name. -/
def Obligations.AcceptedEventsReachTheirSinks : Prop :=
  (∀ (s : State), (s.live 0x3C = false ∨ s.evt.queue = []) →
    Does .evtAccept s fun t =>
      t = s) ∧
  (∀ (e : RaisedEvt) (rest : List RaisedEvt) (s : State), s.live 0x3C = true ∧ s.evt.queue = e :: rest →
      (¬ (s.srcF e.src F.EVT_SRC_CFG.HOST_EN = 1)) →
      (s.srcF e.src F.EVT_SRC_CFG.LGR_EN ≠ 1 ∨ s.bit evtB F.EVT_LGR_CFG.EN = false) →
      (s.srcF e.src F.EVT_SRC_CFG.OSP_EN ≠ 1 ∨ s.bit hstB F.HST_CFG.HOSTLESS = false) →
    Does .evtAccept s fun t =>
      t.evt = (((({ s with evt := { s.evt with queue := rest } } : State).count (evtB + Ctr.EVT.RECORDS)).pmc 0x0C0 noInst)).evt ∧ t.ctrs = (((({ s with evt := { s.evt with queue := rest } } : State).count (evtB + Ctr.EVT.RECORDS)).pmc 0x0C0 noInst)).ctrs ∧
      t = { ((({ s with evt := { s.evt with queue := rest } } : State).count (evtB + Ctr.EVT.RECORDS)).pmc 0x0C0 noInst) with evt := t.evt }) ∧
  (∀ (e : RaisedEvt) (rest : List RaisedEvt) (s : State), s.live 0x3C = true ∧ s.evt.queue = e :: rest →
      s.srcF e.src F.EVT_SRC_CFG.HOST_EN = 1 →
      (s.srcF e.src F.EVT_SRC_CFG.LGR_EN ≠ 1 ∨ s.bit evtB F.EVT_LGR_CFG.EN = false) →
      (s.srcF e.src F.EVT_SRC_CFG.OSP_EN ≠ 1 ∨ s.bit hstB F.HST_CFG.HOSTLESS = false) →
      s.ringF ((s.srcF e.src F.EVT_SRC_CFG.RING)) F.EVT_RING_CFG.EN = 1 ∧ s.ringUsed ((s.srcF e.src F.EVT_SRC_CFG.RING)) ≠ (s.ringCap ((s.srcF e.src F.EVT_SRC_CFG.RING))) ∧ s.pathDown = false ∧ s.bit hstB F.HST_CFG.HOSTLESS = false →
      (s.evt.msixEnable = false ∨ s.msixMasked ((s.ringF ((s.srcF e.src F.EVT_SRC_CFG.RING)) F.EVT_RING_CFG.VECTOR)) = true) →
      s.fld hstB (F.HST_COAL.TIME.at (4 * ((s.ringF ((s.srcF e.src F.EVT_SRC_CFG.RING)) F.EVT_RING_CFG.VECTOR)))) = 0 →
    Does .evtAccept s fun t =>
      t.out = s.out ++ [.hostWrite (((s.ringF ((s.srcF e.src F.EVT_SRC_CFG.RING)) F.EVT_RING_BASE_LO.BASE * 4096 + s.ringF ((s.srcF e.src F.EVT_SRC_CFG.RING)) F.EVT_RING_BASE_HI.BASE * 2 ^ 32)) + 32 * ((s.ringF ((s.srcF e.src F.EVT_SRC_CFG.RING)) F.EVT_RING_PI.PI) % (s.ringCap ((s.srcF e.src F.EVT_SRC_CFG.RING))))) (e.record (decide ((s.ringF ((s.srcF e.src F.EVT_SRC_CFG.RING)) F.EVT_RING_PI.PI) / (s.ringCap ((s.srcF e.src F.EVT_SRC_CFG.RING))) % 2 = 0)) ((SMap.get (fun _ => 0) s.evt.ringSeq ((s.srcF e.src F.EVT_SRC_CFG.RING)))) ((((({ s with evt := { s.evt with queue := rest } } : State).count (evtB + Ctr.EVT.RECORDS)).pmc 0x0C0 noInst)).evtTime e))] ∧
      t.ringF ((s.srcF e.src F.EVT_SRC_CFG.RING)) F.EVT_RING_PI.PI = ((s.ringF ((s.srcF e.src F.EVT_SRC_CFG.RING)) F.EVT_RING_PI.PI) + 1) % 2 ^ 32 ∧ t.bit evtB (F.EVT_RING_STAT.FULL.at (0x20 * (s.srcF e.src F.EVT_SRC_CFG.RING))) = (decide ((((s.ringF ((s.srcF e.src F.EVT_SRC_CFG.RING)) F.EVT_RING_PI.PI)) + 1 + 2 ^ 32 - s.ringF ((s.srcF e.src F.EVT_SRC_CFG.RING)) F.EVT_RING_CI.CI) % 2 ^ 32 = (s.ringCap ((s.srcF e.src F.EVT_SRC_CFG.RING))))) ∧
      t.evt = (if s.evt.msixEnable = true then { (((if (decide ((((s.ringF ((s.srcF e.src F.EVT_SRC_CFG.RING)) F.EVT_RING_PI.PI)) + 1 + 2 ^ 32 - s.ringF ((s.srcF e.src F.EVT_SRC_CFG.RING)) F.EVT_RING_CI.CI) % 2 ^ 32 = (s.ringCap ((s.srcF e.src F.EVT_SRC_CFG.RING))))) && !(decide (s.ringF ((s.srcF e.src F.EVT_SRC_CFG.RING)) F.EVT_RING_STAT.FULL = 1)) then ({ ((({ s with evt := { s.evt with queue := rest } } : State).count (evtB + Ctr.EVT.RECORDS)).pmc 0x0C0 noInst) with evt := ({ (((({ s with evt := { s.evt with queue := rest } } : State).count (evtB + Ctr.EVT.RECORDS)).pmc 0x0C0 noInst)).evt with ringSeq := (SMap.set (fun _ => 0)) s.evt.ringSeq ((s.srcF e.src F.EVT_SRC_CFG.RING)) ((((SMap.get (fun _ => 0) s.evt.ringSeq ((s.srcF e.src F.EVT_SRC_CFG.RING)))) + 1) % 65536) }) } : State).raise Ev.EVT_RING_FULL 0x3C noInst [(1, (s.srcF e.src F.EVT_SRC_CFG.RING)), (2, s.ctr (evtB + Ctr.EVT.RING_LOST + 8 * (s.srcF e.src F.EVT_SRC_CFG.RING)) % 65536)] else ({ ((({ s with evt := { s.evt with queue := rest } } : State).count (evtB + Ctr.EVT.RECORDS)).pmc 0x0C0 noInst) with evt := ({ (((({ s with evt := { s.evt with queue := rest } } : State).count (evtB + Ctr.EVT.RECORDS)).pmc 0x0C0 noInst)).evt with ringSeq := (SMap.set (fun _ => 0)) s.evt.ringSeq ((s.srcF e.src F.EVT_SRC_CFG.RING)) ((((SMap.get (fun _ => 0) s.evt.ringSeq ((s.srcF e.src F.EVT_SRC_CFG.RING)))) + 1) % 65536) }) } : State)))).evt with msixCauses := (SMap.set (fun _ => 0)) s.evt.msixCauses ((s.ringF ((s.srcF e.src F.EVT_SRC_CFG.RING)) F.EVT_RING_CFG.VECTOR)) (s.msixCauses ((s.ringF ((s.srcF e.src F.EVT_SRC_CFG.RING)) F.EVT_RING_CFG.VECTOR)) + 1), msixPba := SMap.set (fun _ => false) s.evt.msixPba ((s.ringF ((s.srcF e.src F.EVT_SRC_CFG.RING)) F.EVT_RING_CFG.VECTOR)) true } else (((if (decide ((((s.ringF ((s.srcF e.src F.EVT_SRC_CFG.RING)) F.EVT_RING_PI.PI)) + 1 + 2 ^ 32 - s.ringF ((s.srcF e.src F.EVT_SRC_CFG.RING)) F.EVT_RING_CI.CI) % 2 ^ 32 = (s.ringCap ((s.srcF e.src F.EVT_SRC_CFG.RING))))) && !(decide (s.ringF ((s.srcF e.src F.EVT_SRC_CFG.RING)) F.EVT_RING_STAT.FULL = 1)) then ({ ((({ s with evt := { s.evt with queue := rest } } : State).count (evtB + Ctr.EVT.RECORDS)).pmc 0x0C0 noInst) with evt := ({ (((({ s with evt := { s.evt with queue := rest } } : State).count (evtB + Ctr.EVT.RECORDS)).pmc 0x0C0 noInst)).evt with ringSeq := (SMap.set (fun _ => 0)) s.evt.ringSeq ((s.srcF e.src F.EVT_SRC_CFG.RING)) ((((SMap.get (fun _ => 0) s.evt.ringSeq ((s.srcF e.src F.EVT_SRC_CFG.RING)))) + 1) % 65536) }) } : State).raise Ev.EVT_RING_FULL 0x3C noInst [(1, (s.srcF e.src F.EVT_SRC_CFG.RING)), (2, s.ctr (evtB + Ctr.EVT.RING_LOST + 8 * (s.srcF e.src F.EVT_SRC_CFG.RING)) % 65536)] else ({ ((({ s with evt := { s.evt with queue := rest } } : State).count (evtB + Ctr.EVT.RECORDS)).pmc 0x0C0 noInst) with evt := ({ (((({ s with evt := { s.evt with queue := rest } } : State).count (evtB + Ctr.EVT.RECORDS)).pmc 0x0C0 noInst)).evt with ringSeq := (SMap.set (fun _ => 0)) s.evt.ringSeq ((s.srcF e.src F.EVT_SRC_CFG.RING)) ((((SMap.get (fun _ => 0) s.evt.ringSeq ((s.srcF e.src F.EVT_SRC_CFG.RING)))) + 1) % 65536) }) } : State)))).evt) ∧
      t = { ((({ s with evt := { s.evt with queue := rest } } : State).count (evtB + Ctr.EVT.RECORDS)).pmc 0x0C0 noInst) with out := t.out, evt := t.evt, regs := t.regs } ∧
      RegsBut [(evtB+0x20*((s.srcF e.src F.EVT_SRC_CFG.RING)))+0xC,(evtB+0x20*((s.srcF e.src F.EVT_SRC_CFG.RING)))+0x14] ((({ s with evt := { s.evt with queue := rest } } : State).count (evtB + Ctr.EVT.RECORDS)).pmc 0x0C0 noInst) t) ∧
  (∀ (e : RaisedEvt) (rest : List RaisedEvt) (s : State), s.live 0x3C = true ∧ s.evt.queue = e :: rest →
      s.srcF e.src F.EVT_SRC_CFG.HOST_EN = 1 →
      (s.srcF e.src F.EVT_SRC_CFG.LGR_EN ≠ 1 ∨ s.bit evtB F.EVT_LGR_CFG.EN = false) →
      (s.srcF e.src F.EVT_SRC_CFG.OSP_EN ≠ 1 ∨ s.bit hstB F.HST_CFG.HOSTLESS = false) →
      s.ringF ((s.srcF e.src F.EVT_SRC_CFG.RING)) F.EVT_RING_CFG.EN = 1 ∧ s.ringUsed ((s.srcF e.src F.EVT_SRC_CFG.RING)) ≠ (s.ringCap ((s.srcF e.src F.EVT_SRC_CFG.RING))) ∧ s.pathDown = false ∧ s.bit hstB F.HST_CFG.HOSTLESS = false ∧ (decide ((((s.ringF ((s.srcF e.src F.EVT_SRC_CFG.RING)) F.EVT_RING_PI.PI)) + 1 + 2 ^ 32 - s.ringF ((s.srcF e.src F.EVT_SRC_CFG.RING)) F.EVT_RING_CI.CI) % 2 ^ 32 = (s.ringCap ((s.srcF e.src F.EVT_SRC_CFG.RING))))) = false →
      s.evt.msixEnable = true ∧ s.msixMasked ((s.ringF ((s.srcF e.src F.EVT_SRC_CFG.RING)) F.EVT_RING_CFG.VECTOR)) = false →
      s.fld hstB (F.HST_COAL.TIME.at (4 * ((s.ringF ((s.srcF e.src F.EVT_SRC_CFG.RING)) F.EVT_RING_CFG.VECTOR)))) = 0 →
    Does .evtAccept s fun t =>
      t.out = s.out ++ [.hostWrite (((s.ringF ((s.srcF e.src F.EVT_SRC_CFG.RING)) F.EVT_RING_BASE_LO.BASE * 4096 + s.ringF ((s.srcF e.src F.EVT_SRC_CFG.RING)) F.EVT_RING_BASE_HI.BASE * 2 ^ 32)) + 32 * ((s.ringF ((s.srcF e.src F.EVT_SRC_CFG.RING)) F.EVT_RING_PI.PI) % (s.ringCap ((s.srcF e.src F.EVT_SRC_CFG.RING))))) (e.record (decide ((s.ringF ((s.srcF e.src F.EVT_SRC_CFG.RING)) F.EVT_RING_PI.PI) / (s.ringCap ((s.srcF e.src F.EVT_SRC_CFG.RING))) % 2 = 0)) ((SMap.get (fun _ => 0) s.evt.ringSeq ((s.srcF e.src F.EVT_SRC_CFG.RING)))) ((((({ s with evt := { s.evt with queue := rest } } : State).count (evtB + Ctr.EVT.RECORDS)).pmc 0x0C0 noInst)).evtTime e)), .msix ((s.ringF ((s.srcF e.src F.EVT_SRC_CFG.RING)) F.EVT_RING_CFG.VECTOR)) (s.msixCauses ((s.ringF ((s.srcF e.src F.EVT_SRC_CFG.RING)) F.EVT_RING_CFG.VECTOR)) + 1)] ∧
      t.ringF ((s.srcF e.src F.EVT_SRC_CFG.RING)) F.EVT_RING_PI.PI = ((s.ringF ((s.srcF e.src F.EVT_SRC_CFG.RING)) F.EVT_RING_PI.PI) + 1) % 2 ^ 32 ∧ t.bit evtB (F.EVT_RING_STAT.FULL.at (0x20 * (s.srcF e.src F.EVT_SRC_CFG.RING))) = false ∧
      t.evt = { ({ (((({ s with evt := { s.evt with queue := rest } } : State).count (evtB + Ctr.EVT.RECORDS)).pmc 0x0C0 noInst)).evt with ringSeq := (SMap.set (fun _ => 0)) s.evt.ringSeq ((s.srcF e.src F.EVT_SRC_CFG.RING)) ((((SMap.get (fun _ => 0) s.evt.ringSeq ((s.srcF e.src F.EVT_SRC_CFG.RING)))) + 1) % 65536) }) with msixCauses := t.evt.msixCauses, msixPba := t.evt.msixPba } ∧ t.msixCauses ((s.ringF ((s.srcF e.src F.EVT_SRC_CFG.RING)) F.EVT_RING_CFG.VECTOR)) = 0 ∧ t.timerOn (Tm.msix ((s.ringF ((s.srcF e.src F.EVT_SRC_CFG.RING)) F.EVT_RING_CFG.VECTOR))) = false ∧
      SMap.get (fun _ => false) t.evt.msixPba ((s.ringF ((s.srcF e.src F.EVT_SRC_CFG.RING)) F.EVT_RING_CFG.VECTOR)) = false ∧
      (∀ q, q ≠ (s.ringF ((s.srcF e.src F.EVT_SRC_CFG.RING)) F.EVT_RING_CFG.VECTOR) → t.msixCauses q = s.msixCauses q ∧ SMap.get (fun _ => false) t.evt.msixPba q = SMap.get (fun _ => false) s.evt.msixPba q) ∧
      t.ctrs = ((((({ s with evt := { s.evt with queue := rest } } : State).count (evtB + Ctr.EVT.RECORDS)).pmc 0x0C0 noInst)).count (hstB + Ctr.HST.MSIX_SENT)).ctrs ∧
      t = { ((({ s with evt := { s.evt with queue := rest } } : State).count (evtB + Ctr.EVT.RECORDS)).pmc 0x0C0 noInst) with out := t.out, evt := t.evt, ctrs := t.ctrs, timers := t.timers, regs := t.regs } ∧
      TimersBut [Tm.msix ((s.ringF ((s.srcF e.src F.EVT_SRC_CFG.RING)) F.EVT_RING_CFG.VECTOR))] ((({ s with evt := { s.evt with queue := rest } } : State).count (evtB + Ctr.EVT.RECORDS)).pmc 0x0C0 noInst) t ∧
      RegsBut [(evtB+0x20*((s.srcF e.src F.EVT_SRC_CFG.RING)))+0xC,(evtB+0x20*((s.srcF e.src F.EVT_SRC_CFG.RING)))+0x14] ((({ s with evt := { s.evt with queue := rest } } : State).count (evtB + Ctr.EVT.RECORDS)).pmc 0x0C0 noInst) t) ∧
  (∀ (e : RaisedEvt) (rest : List RaisedEvt) (s : State), s.live 0x3C = true ∧ s.evt.queue = e :: rest →
      s.srcF e.src F.EVT_SRC_CFG.HOST_EN = 1 →
      (s.srcF e.src F.EVT_SRC_CFG.LGR_EN ≠ 1 ∨ s.bit evtB F.EVT_LGR_CFG.EN = false) →
      (s.srcF e.src F.EVT_SRC_CFG.OSP_EN ≠ 1 ∨ s.bit hstB F.HST_CFG.HOSTLESS = false) →
      (s.ringF ((s.srcF e.src F.EVT_SRC_CFG.RING)) F.EVT_RING_CFG.EN = 0 ∨ s.ringUsed ((s.srcF e.src F.EVT_SRC_CFG.RING)) = (s.ringCap ((s.srcF e.src F.EVT_SRC_CFG.RING))) ∨ s.pathDown = true ∨ s.bit hstB F.HST_CFG.HOSTLESS = true) →
    Does .evtAccept s fun t =>
      t.evt = { (((({ s with evt := { s.evt with queue := rest } } : State).count (evtB + Ctr.EVT.RECORDS)).pmc 0x0C0 noInst)).evt with ringSeq := (SMap.set (fun _ => 0)) s.evt.ringSeq ((s.srcF e.src F.EVT_SRC_CFG.RING)) ((((SMap.get (fun _ => 0) s.evt.ringSeq ((s.srcF e.src F.EVT_SRC_CFG.RING)))) + 1) % 65536) } ∧
      t.ctrs = ((((({ s with evt := { s.evt with queue := rest } } : State).count (evtB + Ctr.EVT.RECORDS)).pmc 0x0C0 noInst)).count (evtB + Ctr.EVT.RING_LOST + 8 * (s.srcF e.src F.EVT_SRC_CFG.RING))).ctrs ∧ t.bit evtB (F.EVT_RING_STAT.LOST.at (0x20 * (s.srcF e.src F.EVT_SRC_CFG.RING))) = true ∧
      t = { ((({ s with evt := { s.evt with queue := rest } } : State).count (evtB + Ctr.EVT.RECORDS)).pmc 0x0C0 noInst) with evt := t.evt, ctrs := t.ctrs, regs := t.regs } ∧
      RegsBut [(evtB+0x20*((s.srcF e.src F.EVT_SRC_CFG.RING)))+0x14] ((({ s with evt := { s.evt with queue := rest } } : State).count (evtB + Ctr.EVT.RECORDS)).pmc 0x0C0 noInst) t) ∧
  (∀ (e : RaisedEvt) (rest : List RaisedEvt) (s : State), s.live 0x3C = true ∧ s.evt.queue = e :: rest →
      (¬ (s.srcF e.src F.EVT_SRC_CFG.HOST_EN = 1)) →
      s.srcF e.src F.EVT_SRC_CFG.LGR_EN = 1 ∧ s.bit evtB F.EVT_LGR_CFG.EN = true →
      (s.srcF e.src F.EVT_SRC_CFG.OSP_EN ≠ 1 ∨ s.bit hstB F.HST_CFG.HOSTLESS = false) →
      lgrUnit ≤ (min (64 * lgrUnit) (s.evt.lgrTokens + (s.now - s.evt.lgrAt) * s.lgrRate)) ∧ s.sagging = false →
    Does .evtAccept s fun t =>
      t.evt = { (((({ s with evt := { s.evt with queue := rest } } : State).count (evtB + Ctr.EVT.RECORDS)).pmc 0x0C0 noInst)).evt with lgrSeq := (s.evt.lgrSeq + 1) % 65536, lgrTokens := (min (64 * lgrUnit) (s.evt.lgrTokens + (s.now - s.evt.lgrAt) * s.lgrRate)) - lgrUnit, lgrAt := s.now, lgrRing := SMap.set (fun _ => []) s.evt.lgrRing ((s.fld evtB F.EVT_LGR_WP.WP) % 65536) (e.record false s.evt.lgrSeq ((((({ s with evt := { s.evt with queue := rest } } : State).count (evtB + Ctr.EVT.RECORDS)).pmc 0x0C0 noInst)).evtTime e)) } ∧
      t.fld evtB F.EVT_LGR_WP.WP = ((s.fld evtB F.EVT_LGR_WP.WP) + 1) % 2 ^ 32 ∧ t.ctrs = ((((({ s with evt := { s.evt with queue := rest } } : State).count (evtB + Ctr.EVT.RECORDS)).pmc 0x0C0 noInst)).count (evtB + Ctr.EVT.LGR_WRITTEN)).ctrs ∧
      t = { ((({ s with evt := { s.evt with queue := rest } } : State).count (evtB + Ctr.EVT.RECORDS)).pmc 0x0C0 noInst) with evt := t.evt, ctrs := t.ctrs, regs := t.regs } ∧
      RegsBut [evtB+0x104] ((({ s with evt := { s.evt with queue := rest } } : State).count (evtB + Ctr.EVT.RECORDS)).pmc 0x0C0 noInst) t) ∧
  (∀ (e : RaisedEvt) (rest : List RaisedEvt) (s : State), s.live 0x3C = true ∧ s.evt.queue = e :: rest →
      (¬ (s.srcF e.src F.EVT_SRC_CFG.HOST_EN = 1)) →
      s.srcF e.src F.EVT_SRC_CFG.LGR_EN = 1 ∧ s.bit evtB F.EVT_LGR_CFG.EN = true →
      (s.srcF e.src F.EVT_SRC_CFG.OSP_EN ≠ 1 ∨ s.bit hstB F.HST_CFG.HOSTLESS = false) →
      ((min (64 * lgrUnit) (s.evt.lgrTokens + (s.now - s.evt.lgrAt) * s.lgrRate)) < lgrUnit ∨ s.sagging = true) →
    Does .evtAccept s fun t =>
      t.ctrs = (((({ ((({ s with evt := { s.evt with queue := rest } } : State).count (evtB + Ctr.EVT.RECORDS)).pmc 0x0C0 noInst) with evt := { (((({ s with evt := { s.evt with queue := rest } } : State).count (evtB + Ctr.EVT.RECORDS)).pmc 0x0C0 noInst)).evt with lgrSeq := (s.evt.lgrSeq + 1) % 65536, lgrTokens := (min (64 * lgrUnit) (s.evt.lgrTokens + (s.now - s.evt.lgrAt) * s.lgrRate)), lgrAt := s.now } } : State).count (evtB + Ctr.EVT.LGR_DROP)))).ctrs ∧
      t.evt = ((((({ ((({ s with evt := { s.evt with queue := rest } } : State).count (evtB + Ctr.EVT.RECORDS)).pmc 0x0C0 noInst) with evt := { (((({ s with evt := { s.evt with queue := rest } } : State).count (evtB + Ctr.EVT.RECORDS)).pmc 0x0C0 noInst)).evt with lgrSeq := (s.evt.lgrSeq + 1) % 65536, lgrTokens := (min (64 * lgrUnit) (s.evt.lgrTokens + (s.now - s.evt.lgrAt) * s.lgrRate)), lgrAt := s.now } } : State).count (evtB + Ctr.EVT.LGR_DROP)))).raiseLim (Ev.EVT_LGR_DROP * 65536) lgrUnit Ev.EVT_LGR_DROP 0x3C noInst [(2, (((({ ((({ s with evt := { s.evt with queue := rest } } : State).count (evtB + Ctr.EVT.RECORDS)).pmc 0x0C0 noInst) with evt := { (((({ s with evt := { s.evt with queue := rest } } : State).count (evtB + Ctr.EVT.RECORDS)).pmc 0x0C0 noInst)).evt with lgrSeq := (s.evt.lgrSeq + 1) % 65536, lgrTokens := (min (64 * lgrUnit) (s.evt.lgrTokens + (s.now - s.evt.lgrAt) * s.lgrRate)), lgrAt := s.now } } : State).count (evtB + Ctr.EVT.LGR_DROP)))).ctr (evtB + Ctr.EVT.LGR_DROP) % 65536)]).evt ∧
      t = { ((({ s with evt := { s.evt with queue := rest } } : State).count (evtB + Ctr.EVT.RECORDS)).pmc 0x0C0 noInst) with evt := t.evt, ctrs := t.ctrs }) ∧
  (∀ (e : RaisedEvt) (rest : List RaisedEvt) (s : State), s.live 0x3C = true ∧ s.evt.queue = e :: rest →
      (¬ (s.srcF e.src F.EVT_SRC_CFG.HOST_EN = 1)) →
      (s.srcF e.src F.EVT_SRC_CFG.LGR_EN ≠ 1 ∨ s.bit evtB F.EVT_LGR_CFG.EN = false) →
      s.srcF e.src F.EVT_SRC_CFG.OSP_EN = 1 ∧ s.bit hstB F.HST_CFG.HOSTLESS = true → s.evt.ospQ.length < 128 →
    Does .evtAccept s fun t =>
      t.evt = { (((({ s with evt := { s.evt with queue := rest } } : State).count (evtB + Ctr.EVT.RECORDS)).pmc 0x0C0 noInst)).evt with ospSeq := (s.evt.ospSeq + 1) % 65536, ospQ := s.evt.ospQ ++ [e.record false s.evt.ospSeq ((((({ s with evt := { s.evt with queue := rest } } : State).count (evtB + Ctr.EVT.RECORDS)).pmc 0x0C0 noInst)).evtTime e)] } ∧
      t.fld evtB F.EVT_OSP_STAT.LEVEL = s.evt.ospQ.length + 1 ∧
      t = { ((({ s with evt := { s.evt with queue := rest } } : State).count (evtB + Ctr.EVT.RECORDS)).pmc 0x0C0 noInst) with evt := t.evt, regs := t.regs } ∧
      RegsBut [evtB+0x140] ((({ s with evt := { s.evt with queue := rest } } : State).count (evtB + Ctr.EVT.RECORDS)).pmc 0x0C0 noInst) t) ∧
  (∀ (e : RaisedEvt) (rest : List RaisedEvt) (s : State), s.live 0x3C = true ∧ s.evt.queue = e :: rest →
      (¬ (s.srcF e.src F.EVT_SRC_CFG.HOST_EN = 1)) →
      (s.srcF e.src F.EVT_SRC_CFG.LGR_EN ≠ 1 ∨ s.bit evtB F.EVT_LGR_CFG.EN = false) →
      s.srcF e.src F.EVT_SRC_CFG.OSP_EN = 1 ∧ s.bit hstB F.HST_CFG.HOSTLESS = true → 128 ≤ s.evt.ospQ.length →
    Does .evtAccept s fun t =>
      t.evt = { (((({ s with evt := { s.evt with queue := rest } } : State).count (evtB + Ctr.EVT.RECORDS)).pmc 0x0C0 noInst)).evt with ospSeq := (s.evt.ospSeq + 1) % 65536 } ∧ t.ctrs = ((((({ s with evt := { s.evt with queue := rest } } : State).count (evtB + Ctr.EVT.RECORDS)).pmc 0x0C0 noInst)).count (evtB + Ctr.EVT.OSP_LOST)).ctrs ∧
      t = { ((({ s with evt := { s.evt with queue := rest } } : State).count (evtB + Ctr.EVT.RECORDS)).pmc 0x0C0 noInst) with evt := t.evt, ctrs := t.ctrs })

/-- A write of a ring's CI from PI - N to PI takes it and shows FULL, whose entry is reported; any other is discarded,
counted and reported. A Ledger record read is BUSY and shows the record of its index, or cause 1 where the ring holds
none; while BUSY it does nothing; its end clears BUSY, as that of a trace record does. A vector whose coalescing time
ends sends its message with its causes, or sets its pending bit where it is masked. Clearing a mask sends the vectors
that are pending and unmasked. GO of a software source by its own master, the host's without host-less operation, raises
the event with the page's data and clears REFUSED, or sets REFUSED where the source lies outside the master's range;
another master's does nothing. Nothing else changes but what the clauses name. -/
def Obligations.RingsRecordsAndVectors : Prop :=
  (∀ (m : Master) (r : Fin 4) (ci : Word) (s : State), s.reaches m (evtB + 0x10 + 0x20 * r.val) = true →
      s.ringCap r.val < (s.ringF r.val F.EVT_RING_PI.PI + 2 ^ 32 - ci.toNat) % 2 ^ 32 →
    Does (.evtRingCiWrite m r ci) s fun t =>
      t.ctrs = (s.count (hstB + Ctr.HST.BAD_REQ)).ctrs ∧ t.evt = (s.raiseMs 0 Ev.HST_BAD_REQ 0x3A noInst [(4, evtB + 0x10 + 0x20 * r.val), (1, 3)]).evt ∧
      t = { s with ctrs := t.ctrs, evt := t.evt }) ∧
  (∀ (m : Master) (r : Fin 4) (ci : Word) (s : State), s.reaches m (evtB + 0x10 + 0x20 * r.val) = true →
      ((s.ringF r.val F.EVT_RING_PI.PI + 2 ^ 32 - ci.toNat) % 2 ^ 32) ≤ s.ringCap r.val →
    Does (.evtRingCiWrite m r ci) s fun t =>
      t.ringF r.val F.EVT_RING_CI.CI = ci.toNat ∧ t.bit evtB (F.EVT_RING_STAT.FULL.at (0x20 * r.val)) = ((decide (((s.ringF r.val F.EVT_RING_PI.PI + 2 ^ 32 - ci.toNat) % 2 ^ 32) = s.ringCap r.val))) ∧
      t.evt = (if ((decide (((s.ringF r.val F.EVT_RING_PI.PI + 2 ^ 32 - ci.toNat) % 2 ^ 32) = s.ringCap r.val))) && !s.bit evtB (F.EVT_RING_STAT.FULL.at (0x20 * r.val)) then s.raise Ev.EVT_RING_FULL 0x3C noInst [(1, r.val), (2, s.ctr (evtB + Ctr.EVT.RING_LOST + 8 * r.val) % 65536)] else s).evt ∧
      t = { s with evt := t.evt, regs := t.regs } ∧ RegsBut [evtB+0x20*r.val+0x10,evtB+0x20*r.val+0x14] s t) ∧
  (∀ (m : Master) (i : BitVec 16) (s : State), s.reaches m (evtB + 0x108) = true → s.bit evtB F.EVT_LGR_CMD.BUSY = true →
    Does (.ledgerRecordRead m i) s fun t =>
      t = s) ∧
  (∀ (m : Master) (i : BitVec 16) (s : State), s.reaches m (evtB + 0x108) = true → s.bit evtB F.EVT_LGR_CMD.BUSY = false →
      (SMap.get (fun _ => []) s.evt.lgrRing i.toNat = [] ∨ (s.fld evtB F.EVT_LGR_WP.WP) ≤ ((s.fld evtB F.EVT_LGR_WP.WP) + 65535 - i.toNat) % 65536) →
    Does (.ledgerRecordRead m i) s fun t =>
      t.bit evtB F.EVT_LGR_CMD.BUSY = true ∧ t.fld evtB F.EVT_LGR_CMD.CAUSE = 1 ∧ t.fld evtB F.EVT_LGR_CMD.INDEX = i.toNat ∧
      t = { s with regs := t.regs } ∧ RegsBut [evtB+0x108] s t) ∧
  (∀ (m : Master) (i : BitVec 16) (s : State), s.reaches m (evtB + 0x108) = true → s.bit evtB F.EVT_LGR_CMD.BUSY = false →
      (SMap.get (fun _ => []) s.evt.lgrRing i.toNat) ≠ [] ∧ ((s.fld evtB F.EVT_LGR_WP.WP) + 65535 - i.toNat) % 65536 < (s.fld evtB F.EVT_LGR_WP.WP) →
    Does (.ledgerRecordRead m i) s fun t =>
      t.bit evtB F.EVT_LGR_CMD.BUSY = true ∧ t.fld evtB F.EVT_LGR_CMD.CAUSE = 0 ∧ t.fld evtB F.EVT_LGR_CMD.INDEX = i.toNat ∧
      t.regWords (evtB + 0x110) 8 = bytesWords (bytesAt ((SMap.get (fun _ => []) s.evt.lgrRing i.toNat)) 0 32) ∧
      t = { s with regs := t.regs } ∧ RegsBut ([evtB+0x108] ++ (List.range 8).map fun k => evtB + 0x110 + 4 * k) s t) ∧
  (∀ (ledger : Bool) (s : State),
    Does (.recordReadDone ledger) s fun t =>
      t.bit (if ledger then evtB else mccB) (if ledger then F.EVT_LGR_CMD.BUSY else F.MCC_TRACE_CMD.BUSY) = false ∧
      t = { s with regs := t.regs } ∧ RegsBut [if ledger then evtB+0x108 else mccB+0x28] s t) ∧
  (∀ (v : Fin 64) (s : State), s.timerOn (Tm.msix v.val) = true →
      (s.msixCauses v.val = 0 ∨ s.evt.msixEnable = false ∨ s.pathDown = true) →
    Does (.msixCoalesceExpiry v) s fun t =>
      t = (s.atEnd (Tm.msix v.val))) ∧
  (∀ (v : Fin 64) (s : State), s.timerOn (Tm.msix v.val) = true →
      s.msixCauses v.val ≠ 0 ∧ s.evt.msixEnable = true ∧ s.pathDown = false → s.msixMasked v.val = true →
    Does (.msixCoalesceExpiry v) s fun t =>
      t.evt = { ((s.atEnd (Tm.msix v.val))).evt with msixPba := SMap.set (fun _ => false) s.evt.msixPba v.val true } ∧
      t = { (s.atEnd (Tm.msix v.val)) with evt := t.evt }) ∧
  (∀ (v : Fin 64) (s : State), s.timerOn (Tm.msix v.val) = true →
      s.msixCauses v.val ≠ 0 ∧ s.evt.msixEnable = true ∧ s.pathDown = false → s.msixMasked v.val = false →
    Does (.msixCoalesceExpiry v) s fun t =>
      t.out = s.out ++ [.msix v.val (s.msixCauses v.val)] ∧ t.ctrs = (((s.atEnd (Tm.msix v.val))).count (hstB + Ctr.HST.MSIX_SENT)).ctrs ∧
      t.evt = { ((s.atEnd (Tm.msix v.val))).evt with msixCauses := SMap.set (fun _ => 0) s.evt.msixCauses v.val 0, msixPba := SMap.set (fun _ => false) s.evt.msixPba v.val false } ∧
      t.timerOn (Tm.msix v.val) = false ∧
      t = { (s.atEnd (Tm.msix v.val)) with out := t.out, ctrs := t.ctrs, evt := t.evt, timers := t.timers } ∧
      TimersBut [Tm.msix v.val] (s.atEnd (Tm.msix v.val)) t) ∧
  (∀ (v : Option (Fin 64)) (s : State),
    Does (.msixMaskClear v) s fun t =>
      (t.out = s.out ++ (((List.range 64).filter fun i => SMap.get (fun _ => false) s.evt.msixPba i && !(((match v with | some i => s.setMsixWord (4 * i.val + 3) (BitVec.ofNat 32 ((s.msixWord (4 * i.val + 3)).toNat / 2 * 2)) | none => ({ s with evt := { s.evt with msixFuncMask := false } } : State)))).msixMasked i && decide (s.msixCauses i ≠ 0) && s.evt.msixEnable && !s.pathDown)).map fun i => .msix i (s.msixCauses i)) ∧
      (∀ q, q < 64 → (t.msixCauses q, t.timerOn (Tm.msix q)) = if q ∈ ((List.range 64).filter fun i => SMap.get (fun _ => false) s.evt.msixPba i && !(((match v with | some i => s.setMsixWord (4 * i.val + 3) (BitVec.ofNat 32 ((s.msixWord (4 * i.val + 3)).toNat / 2 * 2)) | none => ({ s with evt := { s.evt with msixFuncMask := false } } : State)))).msixMasked i && decide (s.msixCauses i ≠ 0) && s.evt.msixEnable && !s.pathDown) then (0, false) else (s.msixCauses q, s.timerOn (Tm.msix q))) ∧
      (∀ q, SMap.get (fun _ => false) t.evt.msixPba q = (SMap.get (fun _ => false) s.evt.msixPba q && !decide (q ∈ ((List.range 64).filter fun i => SMap.get (fun _ => false) s.evt.msixPba i && !(((match v with | some i => s.setMsixWord (4 * i.val + 3) (BitVec.ofNat 32 ((s.msixWord (4 * i.val + 3)).toNat / 2 * 2)) | none => ({ s with evt := { s.evt with msixFuncMask := false } } : State)))).msixMasked i && decide (s.msixCauses i ≠ 0) && s.evt.msixEnable && !s.pathDown)))) ∧
      (∀ q, 64 ≤ q → t.msixCauses q = s.msixCauses q) ∧
      t.evt = { (((match v with | some i => s.setMsixWord (4 * i.val + 3) (BitVec.ofNat 32 ((s.msixWord (4 * i.val + 3)).toNat / 2 * 2)) | none => ({ s with evt := { s.evt with msixFuncMask := false } } : State)))).evt with msixCauses := t.evt.msixCauses, msixPba := t.evt.msixPba } ∧
      CtrsBut [hstB + Ctr.HST.MSIX_SENT] s t ∧
      t = { s with out := t.out, ctrs := t.ctrs, evt := t.evt, timers := t.timers } ∧
      TimersBut ((List.range 64).map Tm.msix) s t) ∧
  (∀ (m : Master) (sev : BitVec 2) (source : BitVec 10) (s : State), s.reaches m (evtB + 0x150) = true →
      (m = .steward ∨ s.bit hstB F.HST_CFG.HOSTLESS = true) →
    Does (.evtSoftHostGo m sev source) s fun t =>
      t = s) ∧
  (∀ (m : Master) (sev : BitVec 2) (source : BitVec 10) (s : State), s.reaches m (evtB + 0x150) = true →
      m = .host ∧ s.bit hstB F.HST_CFG.HOSTLESS = false ∧ (512 ≤ source.toNat ∧ source.toNat ≤ 561) →
    Does (.evtSoftHostGo m sev source) s fun t =>
      t.fld evtB F.EVT_SOFT_H.SOURCE = source.toNat ∧ t.fld evtB F.EVT_SOFT_H.SEV = sev.toNat ∧ t.fld evtB F.EVT_SOFT_H.REFUSED = 0 ∧
      t.evt = { s.evt with queue := s.evt.queue ++ [{ src := source.toNat, sev := min 2 sev.toNat, island := 0x3C, inst := 0, payload := wordBytes (s.regWords (evtB + 0x154) 4), boot := false }] } ∧
      t = { s with evt := t.evt, regs := t.regs } ∧ RegsBut [evtB+0x150] s t) ∧
  (∀ (m : Master) (sev : BitVec 2) (source : BitVec 10) (s : State), s.reaches m (evtB + 0x150) = true →
      m = .host ∧ s.bit hstB F.HST_CFG.HOSTLESS = false ∧ (source.toNat < 512 ∨ 561 < source.toNat) →
    Does (.evtSoftHostGo m sev source) s fun t =>
      t.fld evtB F.EVT_SOFT_H.SOURCE = source.toNat ∧ t.fld evtB F.EVT_SOFT_H.SEV = sev.toNat ∧ t.fld evtB F.EVT_SOFT_H.REFUSED = 1 ∧
      t = { s with regs := t.regs } ∧ RegsBut [evtB+0x150] s t) ∧
  (∀ (m : Master) (sev : BitVec 2) (source : BitVec 10) (s : State), s.reaches m (evtB + 0x170) = true → m = .host →
    Does (.evtSoftStewardGo m sev source) s fun t =>
      t = s) ∧
  (∀ (m : Master) (sev : BitVec 2) (source : BitVec 10) (s : State), s.reaches m (evtB + 0x170) = true →
      m = .steward ∧ (562 ≤ source.toNat ∧ source.toNat ≤ 611) →
    Does (.evtSoftStewardGo m sev source) s fun t =>
      t.fld evtB F.EVT_SOFT_S.SOURCE = source.toNat ∧ t.fld evtB F.EVT_SOFT_S.SEV = sev.toNat ∧ t.fld evtB F.EVT_SOFT_S.REFUSED = 0 ∧
      t.evt = { s.evt with queue := s.evt.queue ++ [{ src := source.toNat, sev := min 2 sev.toNat, island := 0x3C, inst := 1, payload := wordBytes (s.regWords (evtB + 0x174) 4), boot := false }] } ∧
      t = { s with evt := t.evt, regs := t.regs } ∧ RegsBut [evtB+0x170] s t) ∧
  (∀ (m : Master) (sev : BitVec 2) (source : BitVec 10) (s : State), s.reaches m (evtB + 0x170) = true →
      m = .steward ∧ (source.toNat < 562 ∨ 611 < source.toNat) →
    Does (.evtSoftStewardGo m sev source) s fun t =>
      t.fld evtB F.EVT_SOFT_S.SOURCE = source.toNat ∧ t.fld evtB F.EVT_SOFT_S.SEV = sev.toNat ∧ t.fld evtB F.EVT_SOFT_S.REFUSED = 1 ∧
      t = { s with regs := t.regs } ∧ RegsBut [evtB+0x170] s t)
end

