-- ==== Sys2Proof/Laws/SMap.lean ====
section
/-! SUPPORT. The laws of sparse maps: a read after a write to the same key gives the value written, a write leaves
every other key alone, and every write keeps the canonical form. -/

namespace Sys2Proof.Machine

variable {β : Type}

theorem smap_get_erase_same (d : Nat → β) (m : SMap β) (k : Nat) : SMap.get d (SMap.erase m k) k = d k := by
  induction m with
  | nil => rfl
  | cons p t ih =>
    simp only [SMap.erase]
    split
    · exact ih
    · simp_all [SMap.get]

theorem smap_get_erase_other (d : Nat → β) (m : SMap β) {k j : Nat} (h : j ≠ k) :
    SMap.get d (SMap.erase m k) j = SMap.get d m j := by
  induction m with
  | nil => rfl
  | cons p t ih =>
    obtain ⟨i, v⟩ := p
    simp only [SMap.erase, SMap.get]
    split
    · next e =>
      have hj : ¬ i = j := fun e' => h (by omega)
      simp [ih, hj]
    · simp [SMap.get, ih]

theorem smap_get_ins_same (d : Nat → β) (m : SMap β) (k : Nat) (v : β) : SMap.get d (SMap.ins m k v) k = v := by
  induction m with
  | nil => simp [SMap.ins, SMap.get]
  | cons p t ih =>
    simp only [SMap.ins]
    split
    · simp [SMap.get]
    · split
      · simp [SMap.get]
      · simp_all [SMap.get]

theorem smap_get_ins_other (d : Nat → β) (m : SMap β) {k j : Nat} (v : β) (h : j ≠ k) :
    SMap.get d (SMap.ins m k v) j = SMap.get d m j := by
  have hk : ¬ k = j := fun e => h e.symm
  induction m with
  | nil => simp [SMap.ins, SMap.get, hk]
  | cons p t ih =>
    simp only [SMap.ins]
    split
    · simp [SMap.get, hk]
    · split
      · next e => simp [SMap.get, hk, e]
      · by_cases hj : p.1 = j <;> simp [SMap.get, hj, ih]

/-- A read after a write to the same key gives the value written. -/
@[simp] theorem smap_get_set_same [DecidableEq β] (d : Nat → β) (m : SMap β) (k : Nat) (v : β) :
    SMap.get d (SMap.set d m k v) k = v := by
  unfold SMap.set
  split
  · next e => rw [smap_get_erase_same, e]
  · exact smap_get_ins_same d m k v

/-- A write leaves every other key alone. -/
theorem smap_get_set_other [DecidableEq β] (d : Nat → β) (m : SMap β) {k j : Nat} (v : β) (h : j ≠ k) :
    SMap.get d (SMap.set d m k v) j = SMap.get d m j := by
  unfold SMap.set
  split
  · exact smap_get_erase_other d m h
  · exact smap_get_ins_other d m v h

theorem smap_wfFrom_mono [DecidableEq β] (d : Nat → β) (m : SMap β) {lo lo' : Nat} (h : lo' ≤ lo)
    (w : SMap.wfFrom d lo m = true) : SMap.wfFrom d lo' m = true := by
  cases m with
  | nil => rfl
  | cons p t =>
    simp [SMap.wfFrom] at w ⊢
    exact ⟨⟨by omega, w.1.2⟩, w.2⟩

theorem smap_wfFrom_erase [DecidableEq β] (d : Nat → β) (m : SMap β) (k lo : Nat)
    (w : SMap.wfFrom d lo m = true) : SMap.wfFrom d lo (SMap.erase m k) = true := by
  induction m generalizing lo with
  | nil => rfl
  | cons p t ih =>
    simp [SMap.wfFrom] at w
    simp only [SMap.erase]
    split
    · exact ih lo (smap_wfFrom_mono d t (by omega) w.2)
    · simp [SMap.wfFrom]
      exact ⟨w.1, ih _ w.2⟩

theorem smap_wfFrom_ins [DecidableEq β] (d : Nat → β) (m : SMap β) (k lo : Nat) (v : β) (hk : lo ≤ k)
    (hv : v ≠ d k) (w : SMap.wfFrom d lo m = true) : SMap.wfFrom d lo (SMap.ins m k v) = true := by
  induction m generalizing lo with
  | nil => simp [SMap.ins, SMap.wfFrom, hk, hv]
  | cons p t ih =>
    simp [SMap.wfFrom] at w
    simp only [SMap.ins]
    split
    · simp [SMap.wfFrom]
      exact ⟨⟨hk, hv⟩, ⟨by omega, w.1.2⟩, w.2⟩
    · split
      · next e =>
        simp [SMap.wfFrom]
        exact ⟨⟨hk, hv⟩, e ▸ w.2⟩
      · simp [SMap.wfFrom]
        exact ⟨w.1, ih _ (by omega) w.2⟩

/-- A write keeps the canonical form. -/
theorem smap_wf_set [DecidableEq β] (d : Nat → β) (m : SMap β) (k : Nat) (v : β) (w : SMap.wf d m = true) :
    SMap.wf d (SMap.set d m k v) = true := by
  unfold SMap.set
  split
  · exact smap_wfFrom_erase d m k 0 w
  · next h => exact smap_wfFrom_ins d m k 0 v (Nat.zero_le _) h w

/-- Applying a function at a key keeps the canonical form. -/
theorem smap_wf_modify [DecidableEq β] (d : Nat → β) (m : SMap β) (k : Nat) (f : β → β) (w : SMap.wf d m = true) :
    SMap.wf d (SMap.modify d m k f) = true := smap_wf_set d m k _ w

end Sys2Proof.Machine
end

