-- ==== Sys2Proof/Laws/State.lean ====
section
/-! SUPPORT. One lemma for each field of the state and each shared update that leaves it alone, so that no proof unfolds a
record update. -/

namespace Sys2Proof.Machine

variable (s : State)

/-! `State.setReg` leaves these fields alone. -/

@[simp] theorem setReg_pending (a : Nat) (w : Word) : (s.setReg a w).pending = s.pending := rfl
@[simp] theorem setReg_now (a : Nat) (w : Word) : (s.setReg a w).now = s.now := rfl
@[simp] theorem setReg_freeNext (a : Nat) (w : Word) : (s.setReg a w).freeNext = s.freeNext := rfl
@[simp] theorem setReg_ctrs (a : Nat) (w : Word) : (s.setReg a w).ctrs = s.ctrs := rfl
@[simp] theorem setReg_ctrLatch (a : Nat) (w : Word) : (s.setReg a w).ctrLatch = s.ctrLatch := rfl
@[simp] theorem setReg_tally (a : Nat) (w : Word) : (s.setReg a w).tally = s.tally := rfl
@[simp] theorem setReg_timers (a : Nat) (w : Word) : (s.setReg a w).timers = s.timers := rfl
@[simp] theorem setReg_counting (a : Nat) (w : Word) : (s.setReg a w).counting = s.counting := rfl
@[simp] theorem setReg_mcCounting (a : Nat) (w : Word) : (s.setReg a w).mcCounting = s.mcCounting := rfl
@[simp] theorem setReg_evt (a : Nat) (w : Word) : (s.setReg a w).evt = s.evt := rfl
@[simp] theorem setReg_tim (a : Nat) (w : Word) : (s.setReg a w).tim = s.tim := rfl
@[simp] theorem setReg_tbl (a : Nat) (w : Word) : (s.setReg a w).tbl = s.tbl := rfl
@[simp] theorem setReg_pipes (a : Nat) (w : Word) : (s.setReg a w).pipes = s.pipes := rfl
@[simp] theorem setReg_tlr (a : Nat) (w : Word) : (s.setReg a w).tlr = s.tlr := rfl
@[simp] theorem setReg_tmg (a : Nat) (w : Word) : (s.setReg a w).tmg = s.tmg := rfl
@[simp] theorem setReg_tq (a : Nat) (w : Word) : (s.setReg a w).tq = s.tq := rfl
@[simp] theorem setReg_prbs (a : Nat) (w : Word) : (s.setReg a w).prbs = s.prbs := rfl
@[simp] theorem setReg_pon (a : Nat) (w : Word) : (s.setReg a w).pon = s.pon := rfl
@[simp] theorem setReg_bc (a : Nat) (w : Word) : (s.setReg a w).bc = s.bc := rfl
@[simp] theorem setReg_slots (a : Nat) (w : Word) : (s.setReg a w).slots = s.slots := rfl
@[simp] theorem setReg_vlt (a : Nat) (w : Word) : (s.setReg a w).vlt = s.vlt := rfl
@[simp] theorem setReg_stw (a : Nat) (w : Word) : (s.setReg a w).stw = s.stw := rfl
@[simp] theorem setReg_flash (a : Nat) (w : Word) : (s.setReg a w).flash = s.flash := rfl
@[simp] theorem setReg_tap (a : Nat) (w : Word) : (s.setReg a w).tap = s.tap := rfl
@[simp] theorem setReg_fuse (a : Nat) (w : Word) : (s.setReg a w).fuse = s.fuse := rfl
@[simp] theorem setReg_ledger (a : Nat) (w : Word) : (s.setReg a w).ledger = s.ledger := rfl
@[simp] theorem setReg_boot (a : Nat) (w : Word) : (s.setReg a w).boot = s.boot := rfl
@[simp] theorem setReg_dma (a : Nat) (w : Word) : (s.setReg a w).dma = s.dma := rfl
@[simp] theorem setReg_draining (a : Nat) (w : Word) : (s.setReg a w).draining = s.draining := rfl
@[simp] theorem setReg_mem (a : Nat) (w : Word) : (s.setReg a w).mem = s.mem := rfl
@[simp] theorem setReg_chk (a : Nat) (w : Word) : (s.setReg a w).chk = s.chk := rfl
@[simp] theorem setReg_sampN (a : Nat) (w : Word) : (s.setReg a w).sampN = s.sampN := rfl
@[simp] theorem setReg_sampArm (a : Nat) (w : Word) : (s.setReg a w).sampArm = s.sampArm := rfl
@[simp] theorem setReg_pwr (a : Nat) (w : Word) : (s.setReg a w).pwr = s.pwr := rfl
@[simp] theorem setReg_out (a : Nat) (w : Word) : (s.setReg a w).out = s.out := rfl

/-! `State.setF` leaves these fields alone. -/

@[simp] theorem setF_pending (b : Nat) (f : Fld) (v : Nat) : (s.setF b f v).pending = s.pending := rfl
@[simp] theorem setF_now (b : Nat) (f : Fld) (v : Nat) : (s.setF b f v).now = s.now := rfl
@[simp] theorem setF_freeNext (b : Nat) (f : Fld) (v : Nat) : (s.setF b f v).freeNext = s.freeNext := rfl
@[simp] theorem setF_ctrs (b : Nat) (f : Fld) (v : Nat) : (s.setF b f v).ctrs = s.ctrs := rfl
@[simp] theorem setF_ctrLatch (b : Nat) (f : Fld) (v : Nat) : (s.setF b f v).ctrLatch = s.ctrLatch := rfl
@[simp] theorem setF_tally (b : Nat) (f : Fld) (v : Nat) : (s.setF b f v).tally = s.tally := rfl
@[simp] theorem setF_timers (b : Nat) (f : Fld) (v : Nat) : (s.setF b f v).timers = s.timers := rfl
@[simp] theorem setF_counting (b : Nat) (f : Fld) (v : Nat) : (s.setF b f v).counting = s.counting := rfl
@[simp] theorem setF_mcCounting (b : Nat) (f : Fld) (v : Nat) : (s.setF b f v).mcCounting = s.mcCounting := rfl
@[simp] theorem setF_evt (b : Nat) (f : Fld) (v : Nat) : (s.setF b f v).evt = s.evt := rfl
@[simp] theorem setF_tim (b : Nat) (f : Fld) (v : Nat) : (s.setF b f v).tim = s.tim := rfl
@[simp] theorem setF_tbl (b : Nat) (f : Fld) (v : Nat) : (s.setF b f v).tbl = s.tbl := rfl
@[simp] theorem setF_pipes (b : Nat) (f : Fld) (v : Nat) : (s.setF b f v).pipes = s.pipes := rfl
@[simp] theorem setF_tlr (b : Nat) (f : Fld) (v : Nat) : (s.setF b f v).tlr = s.tlr := rfl
@[simp] theorem setF_tmg (b : Nat) (f : Fld) (v : Nat) : (s.setF b f v).tmg = s.tmg := rfl
@[simp] theorem setF_tq (b : Nat) (f : Fld) (v : Nat) : (s.setF b f v).tq = s.tq := rfl
@[simp] theorem setF_prbs (b : Nat) (f : Fld) (v : Nat) : (s.setF b f v).prbs = s.prbs := rfl
@[simp] theorem setF_pon (b : Nat) (f : Fld) (v : Nat) : (s.setF b f v).pon = s.pon := rfl
@[simp] theorem setF_bc (b : Nat) (f : Fld) (v : Nat) : (s.setF b f v).bc = s.bc := rfl
@[simp] theorem setF_slots (b : Nat) (f : Fld) (v : Nat) : (s.setF b f v).slots = s.slots := rfl
@[simp] theorem setF_vlt (b : Nat) (f : Fld) (v : Nat) : (s.setF b f v).vlt = s.vlt := rfl
@[simp] theorem setF_stw (b : Nat) (f : Fld) (v : Nat) : (s.setF b f v).stw = s.stw := rfl
@[simp] theorem setF_flash (b : Nat) (f : Fld) (v : Nat) : (s.setF b f v).flash = s.flash := rfl
@[simp] theorem setF_tap (b : Nat) (f : Fld) (v : Nat) : (s.setF b f v).tap = s.tap := rfl
@[simp] theorem setF_fuse (b : Nat) (f : Fld) (v : Nat) : (s.setF b f v).fuse = s.fuse := rfl
@[simp] theorem setF_ledger (b : Nat) (f : Fld) (v : Nat) : (s.setF b f v).ledger = s.ledger := rfl
@[simp] theorem setF_boot (b : Nat) (f : Fld) (v : Nat) : (s.setF b f v).boot = s.boot := rfl
@[simp] theorem setF_dma (b : Nat) (f : Fld) (v : Nat) : (s.setF b f v).dma = s.dma := rfl
@[simp] theorem setF_draining (b : Nat) (f : Fld) (v : Nat) : (s.setF b f v).draining = s.draining := rfl
@[simp] theorem setF_mem (b : Nat) (f : Fld) (v : Nat) : (s.setF b f v).mem = s.mem := rfl
@[simp] theorem setF_chk (b : Nat) (f : Fld) (v : Nat) : (s.setF b f v).chk = s.chk := rfl
@[simp] theorem setF_sampN (b : Nat) (f : Fld) (v : Nat) : (s.setF b f v).sampN = s.sampN := rfl
@[simp] theorem setF_sampArm (b : Nat) (f : Fld) (v : Nat) : (s.setF b f v).sampArm = s.sampArm := rfl
@[simp] theorem setF_pwr (b : Nat) (f : Fld) (v : Nat) : (s.setF b f v).pwr = s.pwr := rfl
@[simp] theorem setF_out (b : Nat) (f : Fld) (v : Nat) : (s.setF b f v).out = s.out := rfl

/-! `State.setBit` leaves these fields alone. -/

@[simp] theorem setBit_pending (b : Nat) (f : Fld) (v : Bool) : (s.setBit b f v).pending = s.pending := rfl
@[simp] theorem setBit_now (b : Nat) (f : Fld) (v : Bool) : (s.setBit b f v).now = s.now := rfl
@[simp] theorem setBit_freeNext (b : Nat) (f : Fld) (v : Bool) : (s.setBit b f v).freeNext = s.freeNext := rfl
@[simp] theorem setBit_ctrs (b : Nat) (f : Fld) (v : Bool) : (s.setBit b f v).ctrs = s.ctrs := rfl
@[simp] theorem setBit_ctrLatch (b : Nat) (f : Fld) (v : Bool) : (s.setBit b f v).ctrLatch = s.ctrLatch := rfl
@[simp] theorem setBit_tally (b : Nat) (f : Fld) (v : Bool) : (s.setBit b f v).tally = s.tally := rfl
@[simp] theorem setBit_timers (b : Nat) (f : Fld) (v : Bool) : (s.setBit b f v).timers = s.timers := rfl
@[simp] theorem setBit_counting (b : Nat) (f : Fld) (v : Bool) : (s.setBit b f v).counting = s.counting := rfl
@[simp] theorem setBit_mcCounting (b : Nat) (f : Fld) (v : Bool) : (s.setBit b f v).mcCounting = s.mcCounting := rfl
@[simp] theorem setBit_evt (b : Nat) (f : Fld) (v : Bool) : (s.setBit b f v).evt = s.evt := rfl
@[simp] theorem setBit_tim (b : Nat) (f : Fld) (v : Bool) : (s.setBit b f v).tim = s.tim := rfl
@[simp] theorem setBit_tbl (b : Nat) (f : Fld) (v : Bool) : (s.setBit b f v).tbl = s.tbl := rfl
@[simp] theorem setBit_pipes (b : Nat) (f : Fld) (v : Bool) : (s.setBit b f v).pipes = s.pipes := rfl
@[simp] theorem setBit_tlr (b : Nat) (f : Fld) (v : Bool) : (s.setBit b f v).tlr = s.tlr := rfl
@[simp] theorem setBit_tmg (b : Nat) (f : Fld) (v : Bool) : (s.setBit b f v).tmg = s.tmg := rfl
@[simp] theorem setBit_tq (b : Nat) (f : Fld) (v : Bool) : (s.setBit b f v).tq = s.tq := rfl
@[simp] theorem setBit_prbs (b : Nat) (f : Fld) (v : Bool) : (s.setBit b f v).prbs = s.prbs := rfl
@[simp] theorem setBit_pon (b : Nat) (f : Fld) (v : Bool) : (s.setBit b f v).pon = s.pon := rfl
@[simp] theorem setBit_bc (b : Nat) (f : Fld) (v : Bool) : (s.setBit b f v).bc = s.bc := rfl
@[simp] theorem setBit_slots (b : Nat) (f : Fld) (v : Bool) : (s.setBit b f v).slots = s.slots := rfl
@[simp] theorem setBit_vlt (b : Nat) (f : Fld) (v : Bool) : (s.setBit b f v).vlt = s.vlt := rfl
@[simp] theorem setBit_stw (b : Nat) (f : Fld) (v : Bool) : (s.setBit b f v).stw = s.stw := rfl
@[simp] theorem setBit_flash (b : Nat) (f : Fld) (v : Bool) : (s.setBit b f v).flash = s.flash := rfl
@[simp] theorem setBit_tap (b : Nat) (f : Fld) (v : Bool) : (s.setBit b f v).tap = s.tap := rfl
@[simp] theorem setBit_fuse (b : Nat) (f : Fld) (v : Bool) : (s.setBit b f v).fuse = s.fuse := rfl
@[simp] theorem setBit_ledger (b : Nat) (f : Fld) (v : Bool) : (s.setBit b f v).ledger = s.ledger := rfl
@[simp] theorem setBit_boot (b : Nat) (f : Fld) (v : Bool) : (s.setBit b f v).boot = s.boot := rfl
@[simp] theorem setBit_dma (b : Nat) (f : Fld) (v : Bool) : (s.setBit b f v).dma = s.dma := rfl
@[simp] theorem setBit_draining (b : Nat) (f : Fld) (v : Bool) : (s.setBit b f v).draining = s.draining := rfl
@[simp] theorem setBit_mem (b : Nat) (f : Fld) (v : Bool) : (s.setBit b f v).mem = s.mem := rfl
@[simp] theorem setBit_chk (b : Nat) (f : Fld) (v : Bool) : (s.setBit b f v).chk = s.chk := rfl
@[simp] theorem setBit_sampN (b : Nat) (f : Fld) (v : Bool) : (s.setBit b f v).sampN = s.sampN := rfl
@[simp] theorem setBit_sampArm (b : Nat) (f : Fld) (v : Bool) : (s.setBit b f v).sampArm = s.sampArm := rfl
@[simp] theorem setBit_pwr (b : Nat) (f : Fld) (v : Bool) : (s.setBit b f v).pwr = s.pwr := rfl
@[simp] theorem setBit_out (b : Nat) (f : Fld) (v : Bool) : (s.setBit b f v).out = s.out := rfl

/-! `State.tallySet` leaves these fields alone. -/

@[simp] theorem tallySet_pending (p i v : Nat) : (s.tallySet p i v).pending = s.pending := rfl
@[simp] theorem tallySet_now (p i v : Nat) : (s.tallySet p i v).now = s.now := rfl
@[simp] theorem tallySet_freeNext (p i v : Nat) : (s.tallySet p i v).freeNext = s.freeNext := rfl
@[simp] theorem tallySet_regs (p i v : Nat) : (s.tallySet p i v).regs = s.regs := rfl
@[simp] theorem tallySet_ctrs (p i v : Nat) : (s.tallySet p i v).ctrs = s.ctrs := rfl
@[simp] theorem tallySet_ctrLatch (p i v : Nat) : (s.tallySet p i v).ctrLatch = s.ctrLatch := rfl
@[simp] theorem tallySet_timers (p i v : Nat) : (s.tallySet p i v).timers = s.timers := rfl
@[simp] theorem tallySet_counting (p i v : Nat) : (s.tallySet p i v).counting = s.counting := rfl
@[simp] theorem tallySet_mcCounting (p i v : Nat) : (s.tallySet p i v).mcCounting = s.mcCounting := rfl
@[simp] theorem tallySet_evt (p i v : Nat) : (s.tallySet p i v).evt = s.evt := rfl
@[simp] theorem tallySet_tim (p i v : Nat) : (s.tallySet p i v).tim = s.tim := rfl
@[simp] theorem tallySet_tbl (p i v : Nat) : (s.tallySet p i v).tbl = s.tbl := rfl
@[simp] theorem tallySet_pipes (p i v : Nat) : (s.tallySet p i v).pipes = s.pipes := rfl
@[simp] theorem tallySet_tlr (p i v : Nat) : (s.tallySet p i v).tlr = s.tlr := rfl
@[simp] theorem tallySet_tmg (p i v : Nat) : (s.tallySet p i v).tmg = s.tmg := rfl
@[simp] theorem tallySet_tq (p i v : Nat) : (s.tallySet p i v).tq = s.tq := rfl
@[simp] theorem tallySet_prbs (p i v : Nat) : (s.tallySet p i v).prbs = s.prbs := rfl
@[simp] theorem tallySet_pon (p i v : Nat) : (s.tallySet p i v).pon = s.pon := rfl
@[simp] theorem tallySet_bc (p i v : Nat) : (s.tallySet p i v).bc = s.bc := rfl
@[simp] theorem tallySet_slots (p i v : Nat) : (s.tallySet p i v).slots = s.slots := rfl
@[simp] theorem tallySet_vlt (p i v : Nat) : (s.tallySet p i v).vlt = s.vlt := rfl
@[simp] theorem tallySet_stw (p i v : Nat) : (s.tallySet p i v).stw = s.stw := rfl
@[simp] theorem tallySet_flash (p i v : Nat) : (s.tallySet p i v).flash = s.flash := rfl
@[simp] theorem tallySet_tap (p i v : Nat) : (s.tallySet p i v).tap = s.tap := rfl
@[simp] theorem tallySet_fuse (p i v : Nat) : (s.tallySet p i v).fuse = s.fuse := rfl
@[simp] theorem tallySet_ledger (p i v : Nat) : (s.tallySet p i v).ledger = s.ledger := rfl
@[simp] theorem tallySet_boot (p i v : Nat) : (s.tallySet p i v).boot = s.boot := rfl
@[simp] theorem tallySet_dma (p i v : Nat) : (s.tallySet p i v).dma = s.dma := rfl
@[simp] theorem tallySet_draining (p i v : Nat) : (s.tallySet p i v).draining = s.draining := rfl
@[simp] theorem tallySet_mem (p i v : Nat) : (s.tallySet p i v).mem = s.mem := rfl
@[simp] theorem tallySet_chk (p i v : Nat) : (s.tallySet p i v).chk = s.chk := rfl
@[simp] theorem tallySet_sampN (p i v : Nat) : (s.tallySet p i v).sampN = s.sampN := rfl
@[simp] theorem tallySet_sampArm (p i v : Nat) : (s.tallySet p i v).sampArm = s.sampArm := rfl
@[simp] theorem tallySet_pwr (p i v : Nat) : (s.tallySet p i v).pwr = s.pwr := rfl
@[simp] theorem tallySet_out (p i v : Nat) : (s.tallySet p i v).out = s.out := rfl

/-! `State.tallyAdd` leaves these fields alone. -/

@[simp] theorem tallyAdd_pending (p i v : Nat) : (s.tallyAdd p i v).pending = s.pending := rfl
@[simp] theorem tallyAdd_now (p i v : Nat) : (s.tallyAdd p i v).now = s.now := rfl
@[simp] theorem tallyAdd_freeNext (p i v : Nat) : (s.tallyAdd p i v).freeNext = s.freeNext := rfl
@[simp] theorem tallyAdd_regs (p i v : Nat) : (s.tallyAdd p i v).regs = s.regs := rfl
@[simp] theorem tallyAdd_ctrs (p i v : Nat) : (s.tallyAdd p i v).ctrs = s.ctrs := rfl
@[simp] theorem tallyAdd_ctrLatch (p i v : Nat) : (s.tallyAdd p i v).ctrLatch = s.ctrLatch := rfl
@[simp] theorem tallyAdd_timers (p i v : Nat) : (s.tallyAdd p i v).timers = s.timers := rfl
@[simp] theorem tallyAdd_counting (p i v : Nat) : (s.tallyAdd p i v).counting = s.counting := rfl
@[simp] theorem tallyAdd_mcCounting (p i v : Nat) : (s.tallyAdd p i v).mcCounting = s.mcCounting := rfl
@[simp] theorem tallyAdd_evt (p i v : Nat) : (s.tallyAdd p i v).evt = s.evt := rfl
@[simp] theorem tallyAdd_tim (p i v : Nat) : (s.tallyAdd p i v).tim = s.tim := rfl
@[simp] theorem tallyAdd_tbl (p i v : Nat) : (s.tallyAdd p i v).tbl = s.tbl := rfl
@[simp] theorem tallyAdd_pipes (p i v : Nat) : (s.tallyAdd p i v).pipes = s.pipes := rfl
@[simp] theorem tallyAdd_tlr (p i v : Nat) : (s.tallyAdd p i v).tlr = s.tlr := rfl
@[simp] theorem tallyAdd_tmg (p i v : Nat) : (s.tallyAdd p i v).tmg = s.tmg := rfl
@[simp] theorem tallyAdd_tq (p i v : Nat) : (s.tallyAdd p i v).tq = s.tq := rfl
@[simp] theorem tallyAdd_prbs (p i v : Nat) : (s.tallyAdd p i v).prbs = s.prbs := rfl
@[simp] theorem tallyAdd_pon (p i v : Nat) : (s.tallyAdd p i v).pon = s.pon := rfl
@[simp] theorem tallyAdd_bc (p i v : Nat) : (s.tallyAdd p i v).bc = s.bc := rfl
@[simp] theorem tallyAdd_slots (p i v : Nat) : (s.tallyAdd p i v).slots = s.slots := rfl
@[simp] theorem tallyAdd_vlt (p i v : Nat) : (s.tallyAdd p i v).vlt = s.vlt := rfl
@[simp] theorem tallyAdd_stw (p i v : Nat) : (s.tallyAdd p i v).stw = s.stw := rfl
@[simp] theorem tallyAdd_flash (p i v : Nat) : (s.tallyAdd p i v).flash = s.flash := rfl
@[simp] theorem tallyAdd_tap (p i v : Nat) : (s.tallyAdd p i v).tap = s.tap := rfl
@[simp] theorem tallyAdd_fuse (p i v : Nat) : (s.tallyAdd p i v).fuse = s.fuse := rfl
@[simp] theorem tallyAdd_ledger (p i v : Nat) : (s.tallyAdd p i v).ledger = s.ledger := rfl
@[simp] theorem tallyAdd_boot (p i v : Nat) : (s.tallyAdd p i v).boot = s.boot := rfl
@[simp] theorem tallyAdd_dma (p i v : Nat) : (s.tallyAdd p i v).dma = s.dma := rfl
@[simp] theorem tallyAdd_draining (p i v : Nat) : (s.tallyAdd p i v).draining = s.draining := rfl
@[simp] theorem tallyAdd_mem (p i v : Nat) : (s.tallyAdd p i v).mem = s.mem := rfl
@[simp] theorem tallyAdd_chk (p i v : Nat) : (s.tallyAdd p i v).chk = s.chk := rfl
@[simp] theorem tallyAdd_sampN (p i v : Nat) : (s.tallyAdd p i v).sampN = s.sampN := rfl
@[simp] theorem tallyAdd_sampArm (p i v : Nat) : (s.tallyAdd p i v).sampArm = s.sampArm := rfl
@[simp] theorem tallyAdd_pwr (p i v : Nat) : (s.tallyAdd p i v).pwr = s.pwr := rfl
@[simp] theorem tallyAdd_out (p i v : Nat) : (s.tallyAdd p i v).out = s.out := rfl

/-! `State.startTimer` leaves these fields alone. -/

@[simp] theorem startTimer_pending (i n : Nat) : (s.startTimer i n).pending = s.pending := rfl
@[simp] theorem startTimer_now (i n : Nat) : (s.startTimer i n).now = s.now := rfl
@[simp] theorem startTimer_freeNext (i n : Nat) : (s.startTimer i n).freeNext = s.freeNext := rfl
@[simp] theorem startTimer_regs (i n : Nat) : (s.startTimer i n).regs = s.regs := rfl
@[simp] theorem startTimer_ctrs (i n : Nat) : (s.startTimer i n).ctrs = s.ctrs := rfl
@[simp] theorem startTimer_ctrLatch (i n : Nat) : (s.startTimer i n).ctrLatch = s.ctrLatch := rfl
@[simp] theorem startTimer_tally (i n : Nat) : (s.startTimer i n).tally = s.tally := rfl
@[simp] theorem startTimer_counting (i n : Nat) : (s.startTimer i n).counting = s.counting := rfl
@[simp] theorem startTimer_mcCounting (i n : Nat) : (s.startTimer i n).mcCounting = s.mcCounting := rfl
@[simp] theorem startTimer_evt (i n : Nat) : (s.startTimer i n).evt = s.evt := rfl
@[simp] theorem startTimer_tim (i n : Nat) : (s.startTimer i n).tim = s.tim := rfl
@[simp] theorem startTimer_tbl (i n : Nat) : (s.startTimer i n).tbl = s.tbl := rfl
@[simp] theorem startTimer_pipes (i n : Nat) : (s.startTimer i n).pipes = s.pipes := rfl
@[simp] theorem startTimer_tlr (i n : Nat) : (s.startTimer i n).tlr = s.tlr := rfl
@[simp] theorem startTimer_tmg (i n : Nat) : (s.startTimer i n).tmg = s.tmg := rfl
@[simp] theorem startTimer_tq (i n : Nat) : (s.startTimer i n).tq = s.tq := rfl
@[simp] theorem startTimer_prbs (i n : Nat) : (s.startTimer i n).prbs = s.prbs := rfl
@[simp] theorem startTimer_pon (i n : Nat) : (s.startTimer i n).pon = s.pon := rfl
@[simp] theorem startTimer_bc (i n : Nat) : (s.startTimer i n).bc = s.bc := rfl
@[simp] theorem startTimer_slots (i n : Nat) : (s.startTimer i n).slots = s.slots := rfl
@[simp] theorem startTimer_vlt (i n : Nat) : (s.startTimer i n).vlt = s.vlt := rfl
@[simp] theorem startTimer_stw (i n : Nat) : (s.startTimer i n).stw = s.stw := rfl
@[simp] theorem startTimer_flash (i n : Nat) : (s.startTimer i n).flash = s.flash := rfl
@[simp] theorem startTimer_tap (i n : Nat) : (s.startTimer i n).tap = s.tap := rfl
@[simp] theorem startTimer_fuse (i n : Nat) : (s.startTimer i n).fuse = s.fuse := rfl
@[simp] theorem startTimer_ledger (i n : Nat) : (s.startTimer i n).ledger = s.ledger := rfl
@[simp] theorem startTimer_boot (i n : Nat) : (s.startTimer i n).boot = s.boot := rfl
@[simp] theorem startTimer_dma (i n : Nat) : (s.startTimer i n).dma = s.dma := rfl
@[simp] theorem startTimer_draining (i n : Nat) : (s.startTimer i n).draining = s.draining := rfl
@[simp] theorem startTimer_mem (i n : Nat) : (s.startTimer i n).mem = s.mem := rfl
@[simp] theorem startTimer_chk (i n : Nat) : (s.startTimer i n).chk = s.chk := rfl
@[simp] theorem startTimer_sampN (i n : Nat) : (s.startTimer i n).sampN = s.sampN := rfl
@[simp] theorem startTimer_sampArm (i n : Nat) : (s.startTimer i n).sampArm = s.sampArm := rfl
@[simp] theorem startTimer_pwr (i n : Nat) : (s.startTimer i n).pwr = s.pwr := rfl
@[simp] theorem startTimer_out (i n : Nat) : (s.startTimer i n).out = s.out := rfl

/-! `State.stopTimer` leaves these fields alone. -/

@[simp] theorem stopTimer_pending (i : Nat) : (s.stopTimer i).pending = s.pending := rfl
@[simp] theorem stopTimer_now (i : Nat) : (s.stopTimer i).now = s.now := rfl
@[simp] theorem stopTimer_freeNext (i : Nat) : (s.stopTimer i).freeNext = s.freeNext := rfl
@[simp] theorem stopTimer_regs (i : Nat) : (s.stopTimer i).regs = s.regs := rfl
@[simp] theorem stopTimer_ctrs (i : Nat) : (s.stopTimer i).ctrs = s.ctrs := rfl
@[simp] theorem stopTimer_ctrLatch (i : Nat) : (s.stopTimer i).ctrLatch = s.ctrLatch := rfl
@[simp] theorem stopTimer_tally (i : Nat) : (s.stopTimer i).tally = s.tally := rfl
@[simp] theorem stopTimer_counting (i : Nat) : (s.stopTimer i).counting = s.counting := rfl
@[simp] theorem stopTimer_mcCounting (i : Nat) : (s.stopTimer i).mcCounting = s.mcCounting := rfl
@[simp] theorem stopTimer_evt (i : Nat) : (s.stopTimer i).evt = s.evt := rfl
@[simp] theorem stopTimer_tim (i : Nat) : (s.stopTimer i).tim = s.tim := rfl
@[simp] theorem stopTimer_tbl (i : Nat) : (s.stopTimer i).tbl = s.tbl := rfl
@[simp] theorem stopTimer_pipes (i : Nat) : (s.stopTimer i).pipes = s.pipes := rfl
@[simp] theorem stopTimer_tlr (i : Nat) : (s.stopTimer i).tlr = s.tlr := rfl
@[simp] theorem stopTimer_tmg (i : Nat) : (s.stopTimer i).tmg = s.tmg := rfl
@[simp] theorem stopTimer_tq (i : Nat) : (s.stopTimer i).tq = s.tq := rfl
@[simp] theorem stopTimer_prbs (i : Nat) : (s.stopTimer i).prbs = s.prbs := rfl
@[simp] theorem stopTimer_pon (i : Nat) : (s.stopTimer i).pon = s.pon := rfl
@[simp] theorem stopTimer_bc (i : Nat) : (s.stopTimer i).bc = s.bc := rfl
@[simp] theorem stopTimer_slots (i : Nat) : (s.stopTimer i).slots = s.slots := rfl
@[simp] theorem stopTimer_vlt (i : Nat) : (s.stopTimer i).vlt = s.vlt := rfl
@[simp] theorem stopTimer_stw (i : Nat) : (s.stopTimer i).stw = s.stw := rfl
@[simp] theorem stopTimer_flash (i : Nat) : (s.stopTimer i).flash = s.flash := rfl
@[simp] theorem stopTimer_tap (i : Nat) : (s.stopTimer i).tap = s.tap := rfl
@[simp] theorem stopTimer_fuse (i : Nat) : (s.stopTimer i).fuse = s.fuse := rfl
@[simp] theorem stopTimer_ledger (i : Nat) : (s.stopTimer i).ledger = s.ledger := rfl
@[simp] theorem stopTimer_boot (i : Nat) : (s.stopTimer i).boot = s.boot := rfl
@[simp] theorem stopTimer_dma (i : Nat) : (s.stopTimer i).dma = s.dma := rfl
@[simp] theorem stopTimer_draining (i : Nat) : (s.stopTimer i).draining = s.draining := rfl
@[simp] theorem stopTimer_mem (i : Nat) : (s.stopTimer i).mem = s.mem := rfl
@[simp] theorem stopTimer_chk (i : Nat) : (s.stopTimer i).chk = s.chk := rfl
@[simp] theorem stopTimer_sampN (i : Nat) : (s.stopTimer i).sampN = s.sampN := rfl
@[simp] theorem stopTimer_sampArm (i : Nat) : (s.stopTimer i).sampArm = s.sampArm := rfl
@[simp] theorem stopTimer_pwr (i : Nat) : (s.stopTimer i).pwr = s.pwr := rfl
@[simp] theorem stopTimer_out (i : Nat) : (s.stopTimer i).out = s.out := rfl

/-! `State.emit` leaves these fields alone. -/

@[simp] theorem emit_pending (x : Output) : (s.emit x).pending = s.pending := rfl
@[simp] theorem emit_now (x : Output) : (s.emit x).now = s.now := rfl
@[simp] theorem emit_freeNext (x : Output) : (s.emit x).freeNext = s.freeNext := rfl
@[simp] theorem emit_regs (x : Output) : (s.emit x).regs = s.regs := rfl
@[simp] theorem emit_ctrs (x : Output) : (s.emit x).ctrs = s.ctrs := rfl
@[simp] theorem emit_ctrLatch (x : Output) : (s.emit x).ctrLatch = s.ctrLatch := rfl
@[simp] theorem emit_tally (x : Output) : (s.emit x).tally = s.tally := rfl
@[simp] theorem emit_timers (x : Output) : (s.emit x).timers = s.timers := rfl
@[simp] theorem emit_counting (x : Output) : (s.emit x).counting = s.counting := rfl
@[simp] theorem emit_mcCounting (x : Output) : (s.emit x).mcCounting = s.mcCounting := rfl
@[simp] theorem emit_evt (x : Output) : (s.emit x).evt = s.evt := rfl
@[simp] theorem emit_tim (x : Output) : (s.emit x).tim = s.tim := rfl
@[simp] theorem emit_tbl (x : Output) : (s.emit x).tbl = s.tbl := rfl
@[simp] theorem emit_pipes (x : Output) : (s.emit x).pipes = s.pipes := rfl
@[simp] theorem emit_tlr (x : Output) : (s.emit x).tlr = s.tlr := rfl
@[simp] theorem emit_tmg (x : Output) : (s.emit x).tmg = s.tmg := rfl
@[simp] theorem emit_tq (x : Output) : (s.emit x).tq = s.tq := rfl
@[simp] theorem emit_prbs (x : Output) : (s.emit x).prbs = s.prbs := rfl
@[simp] theorem emit_pon (x : Output) : (s.emit x).pon = s.pon := rfl
@[simp] theorem emit_bc (x : Output) : (s.emit x).bc = s.bc := rfl
@[simp] theorem emit_slots (x : Output) : (s.emit x).slots = s.slots := rfl
@[simp] theorem emit_vlt (x : Output) : (s.emit x).vlt = s.vlt := rfl
@[simp] theorem emit_stw (x : Output) : (s.emit x).stw = s.stw := rfl
@[simp] theorem emit_flash (x : Output) : (s.emit x).flash = s.flash := rfl
@[simp] theorem emit_tap (x : Output) : (s.emit x).tap = s.tap := rfl
@[simp] theorem emit_fuse (x : Output) : (s.emit x).fuse = s.fuse := rfl
@[simp] theorem emit_ledger (x : Output) : (s.emit x).ledger = s.ledger := rfl
@[simp] theorem emit_boot (x : Output) : (s.emit x).boot = s.boot := rfl
@[simp] theorem emit_dma (x : Output) : (s.emit x).dma = s.dma := rfl
@[simp] theorem emit_draining (x : Output) : (s.emit x).draining = s.draining := rfl
@[simp] theorem emit_mem (x : Output) : (s.emit x).mem = s.mem := rfl
@[simp] theorem emit_chk (x : Output) : (s.emit x).chk = s.chk := rfl
@[simp] theorem emit_sampN (x : Output) : (s.emit x).sampN = s.sampN := rfl
@[simp] theorem emit_sampArm (x : Output) : (s.emit x).sampArm = s.sampArm := rfl
@[simp] theorem emit_pwr (x : Output) : (s.emit x).pwr = s.pwr := rfl

/-! `State.countDiscard` leaves these fields alone. -/

@[simp] theorem countDiscard_pending : (s.countDiscard).pending = s.pending := rfl
@[simp] theorem countDiscard_now : (s.countDiscard).now = s.now := rfl
@[simp] theorem countDiscard_freeNext : (s.countDiscard).freeNext = s.freeNext := rfl
@[simp] theorem countDiscard_ctrs : (s.countDiscard).ctrs = s.ctrs := rfl
@[simp] theorem countDiscard_ctrLatch : (s.countDiscard).ctrLatch = s.ctrLatch := rfl
@[simp] theorem countDiscard_tally : (s.countDiscard).tally = s.tally := rfl
@[simp] theorem countDiscard_timers : (s.countDiscard).timers = s.timers := rfl
@[simp] theorem countDiscard_counting : (s.countDiscard).counting = s.counting := rfl
@[simp] theorem countDiscard_mcCounting : (s.countDiscard).mcCounting = s.mcCounting := rfl
@[simp] theorem countDiscard_evt : (s.countDiscard).evt = s.evt := rfl
@[simp] theorem countDiscard_tim : (s.countDiscard).tim = s.tim := rfl
@[simp] theorem countDiscard_tbl : (s.countDiscard).tbl = s.tbl := rfl
@[simp] theorem countDiscard_pipes : (s.countDiscard).pipes = s.pipes := rfl
@[simp] theorem countDiscard_tlr : (s.countDiscard).tlr = s.tlr := rfl
@[simp] theorem countDiscard_tmg : (s.countDiscard).tmg = s.tmg := rfl
@[simp] theorem countDiscard_tq : (s.countDiscard).tq = s.tq := rfl
@[simp] theorem countDiscard_prbs : (s.countDiscard).prbs = s.prbs := rfl
@[simp] theorem countDiscard_pon : (s.countDiscard).pon = s.pon := rfl
@[simp] theorem countDiscard_bc : (s.countDiscard).bc = s.bc := rfl
@[simp] theorem countDiscard_slots : (s.countDiscard).slots = s.slots := rfl
@[simp] theorem countDiscard_vlt : (s.countDiscard).vlt = s.vlt := rfl
@[simp] theorem countDiscard_stw : (s.countDiscard).stw = s.stw := rfl
@[simp] theorem countDiscard_flash : (s.countDiscard).flash = s.flash := rfl
@[simp] theorem countDiscard_tap : (s.countDiscard).tap = s.tap := rfl
@[simp] theorem countDiscard_fuse : (s.countDiscard).fuse = s.fuse := rfl
@[simp] theorem countDiscard_ledger : (s.countDiscard).ledger = s.ledger := rfl
@[simp] theorem countDiscard_boot : (s.countDiscard).boot = s.boot := rfl
@[simp] theorem countDiscard_dma : (s.countDiscard).dma = s.dma := rfl
@[simp] theorem countDiscard_draining : (s.countDiscard).draining = s.draining := rfl
@[simp] theorem countDiscard_mem : (s.countDiscard).mem = s.mem := rfl
@[simp] theorem countDiscard_chk : (s.countDiscard).chk = s.chk := rfl
@[simp] theorem countDiscard_sampN : (s.countDiscard).sampN = s.sampN := rfl
@[simp] theorem countDiscard_sampArm : (s.countDiscard).sampArm = s.sampArm := rfl
@[simp] theorem countDiscard_pwr : (s.countDiscard).pwr = s.pwr := rfl
@[simp] theorem countDiscard_out : (s.countDiscard).out = s.out := rfl

/-! `State.count` leaves these fields alone. -/

@[simp] theorem count_pending (a n : Nat) : (s.count a n).pending = s.pending := by unfold State.count; split <;> rfl
@[simp] theorem count_now (a n : Nat) : (s.count a n).now = s.now := by unfold State.count; split <;> rfl
@[simp] theorem count_freeNext (a n : Nat) : (s.count a n).freeNext = s.freeNext := by unfold State.count; split <;> rfl
@[simp] theorem count_regs (a n : Nat) : (s.count a n).regs = s.regs := by unfold State.count; split <;> rfl
@[simp] theorem count_ctrLatch (a n : Nat) : (s.count a n).ctrLatch = s.ctrLatch := by unfold State.count; split <;> rfl
@[simp] theorem count_tally (a n : Nat) : (s.count a n).tally = s.tally := by unfold State.count; split <;> rfl
@[simp] theorem count_timers (a n : Nat) : (s.count a n).timers = s.timers := by unfold State.count; split <;> rfl
@[simp] theorem count_counting (a n : Nat) : (s.count a n).counting = s.counting := by unfold State.count; split <;> rfl
@[simp] theorem count_mcCounting (a n : Nat) : (s.count a n).mcCounting = s.mcCounting := by unfold State.count; split <;> rfl
@[simp] theorem count_evt (a n : Nat) : (s.count a n).evt = s.evt := by unfold State.count; split <;> rfl
@[simp] theorem count_tim (a n : Nat) : (s.count a n).tim = s.tim := by unfold State.count; split <;> rfl
@[simp] theorem count_tbl (a n : Nat) : (s.count a n).tbl = s.tbl := by unfold State.count; split <;> rfl
@[simp] theorem count_pipes (a n : Nat) : (s.count a n).pipes = s.pipes := by unfold State.count; split <;> rfl
@[simp] theorem count_tlr (a n : Nat) : (s.count a n).tlr = s.tlr := by unfold State.count; split <;> rfl
@[simp] theorem count_tmg (a n : Nat) : (s.count a n).tmg = s.tmg := by unfold State.count; split <;> rfl
@[simp] theorem count_tq (a n : Nat) : (s.count a n).tq = s.tq := by unfold State.count; split <;> rfl
@[simp] theorem count_prbs (a n : Nat) : (s.count a n).prbs = s.prbs := by unfold State.count; split <;> rfl
@[simp] theorem count_pon (a n : Nat) : (s.count a n).pon = s.pon := by unfold State.count; split <;> rfl
@[simp] theorem count_bc (a n : Nat) : (s.count a n).bc = s.bc := by unfold State.count; split <;> rfl
@[simp] theorem count_slots (a n : Nat) : (s.count a n).slots = s.slots := by unfold State.count; split <;> rfl
@[simp] theorem count_vlt (a n : Nat) : (s.count a n).vlt = s.vlt := by unfold State.count; split <;> rfl
@[simp] theorem count_stw (a n : Nat) : (s.count a n).stw = s.stw := by unfold State.count; split <;> rfl
@[simp] theorem count_flash (a n : Nat) : (s.count a n).flash = s.flash := by unfold State.count; split <;> rfl
@[simp] theorem count_tap (a n : Nat) : (s.count a n).tap = s.tap := by unfold State.count; split <;> rfl
@[simp] theorem count_fuse (a n : Nat) : (s.count a n).fuse = s.fuse := by unfold State.count; split <;> rfl
@[simp] theorem count_ledger (a n : Nat) : (s.count a n).ledger = s.ledger := by unfold State.count; split <;> rfl
@[simp] theorem count_boot (a n : Nat) : (s.count a n).boot = s.boot := by unfold State.count; split <;> rfl
@[simp] theorem count_dma (a n : Nat) : (s.count a n).dma = s.dma := by unfold State.count; split <;> rfl
@[simp] theorem count_draining (a n : Nat) : (s.count a n).draining = s.draining := by unfold State.count; split <;> rfl
@[simp] theorem count_mem (a n : Nat) : (s.count a n).mem = s.mem := by unfold State.count; split <;> rfl
@[simp] theorem count_chk (a n : Nat) : (s.count a n).chk = s.chk := by unfold State.count; split <;> rfl
@[simp] theorem count_sampN (a n : Nat) : (s.count a n).sampN = s.sampN := by unfold State.count; split <;> rfl
@[simp] theorem count_sampArm (a n : Nat) : (s.count a n).sampArm = s.sampArm := by unfold State.count; split <;> rfl
@[simp] theorem count_pwr (a n : Nat) : (s.count a n).pwr = s.pwr := by unfold State.count; split <;> rfl
@[simp] theorem count_out (a n : Nat) : (s.count a n).out = s.out := by unfold State.count; split <;> rfl

/-! `State.raiseSev` leaves these fields alone. -/

@[simp] theorem raiseSev_pending (src sev isl inst : Nat) (fs : List (Nat × Nat)) : (s.raiseSev src sev isl inst fs).pending = s.pending := by unfold State.raiseSev; split; rfl; split <;> rfl
@[simp] theorem raiseSev_now (src sev isl inst : Nat) (fs : List (Nat × Nat)) : (s.raiseSev src sev isl inst fs).now = s.now := by unfold State.raiseSev; split; rfl; split <;> rfl
@[simp] theorem raiseSev_freeNext (src sev isl inst : Nat) (fs : List (Nat × Nat)) : (s.raiseSev src sev isl inst fs).freeNext = s.freeNext := by unfold State.raiseSev; split; rfl; split <;> rfl
@[simp] theorem raiseSev_regs (src sev isl inst : Nat) (fs : List (Nat × Nat)) : (s.raiseSev src sev isl inst fs).regs = s.regs := by unfold State.raiseSev; split; rfl; split <;> rfl
@[simp] theorem raiseSev_ctrs (src sev isl inst : Nat) (fs : List (Nat × Nat)) : (s.raiseSev src sev isl inst fs).ctrs = s.ctrs := by unfold State.raiseSev; split; rfl; split <;> rfl
@[simp] theorem raiseSev_ctrLatch (src sev isl inst : Nat) (fs : List (Nat × Nat)) : (s.raiseSev src sev isl inst fs).ctrLatch = s.ctrLatch := by unfold State.raiseSev; split; rfl; split <;> rfl
@[simp] theorem raiseSev_tally (src sev isl inst : Nat) (fs : List (Nat × Nat)) : (s.raiseSev src sev isl inst fs).tally = s.tally := by unfold State.raiseSev; split; rfl; split <;> rfl
@[simp] theorem raiseSev_timers (src sev isl inst : Nat) (fs : List (Nat × Nat)) : (s.raiseSev src sev isl inst fs).timers = s.timers := by unfold State.raiseSev; split; rfl; split <;> rfl
@[simp] theorem raiseSev_counting (src sev isl inst : Nat) (fs : List (Nat × Nat)) : (s.raiseSev src sev isl inst fs).counting = s.counting := by unfold State.raiseSev; split; rfl; split <;> rfl
@[simp] theorem raiseSev_mcCounting (src sev isl inst : Nat) (fs : List (Nat × Nat)) : (s.raiseSev src sev isl inst fs).mcCounting = s.mcCounting := by unfold State.raiseSev; split; rfl; split <;> rfl
@[simp] theorem raiseSev_tim (src sev isl inst : Nat) (fs : List (Nat × Nat)) : (s.raiseSev src sev isl inst fs).tim = s.tim := by unfold State.raiseSev; split; rfl; split <;> rfl
@[simp] theorem raiseSev_tbl (src sev isl inst : Nat) (fs : List (Nat × Nat)) : (s.raiseSev src sev isl inst fs).tbl = s.tbl := by unfold State.raiseSev; split; rfl; split <;> rfl
@[simp] theorem raiseSev_pipes (src sev isl inst : Nat) (fs : List (Nat × Nat)) : (s.raiseSev src sev isl inst fs).pipes = s.pipes := by unfold State.raiseSev; split; rfl; split <;> rfl
@[simp] theorem raiseSev_tlr (src sev isl inst : Nat) (fs : List (Nat × Nat)) : (s.raiseSev src sev isl inst fs).tlr = s.tlr := by unfold State.raiseSev; split; rfl; split <;> rfl
@[simp] theorem raiseSev_tmg (src sev isl inst : Nat) (fs : List (Nat × Nat)) : (s.raiseSev src sev isl inst fs).tmg = s.tmg := by unfold State.raiseSev; split; rfl; split <;> rfl
@[simp] theorem raiseSev_tq (src sev isl inst : Nat) (fs : List (Nat × Nat)) : (s.raiseSev src sev isl inst fs).tq = s.tq := by unfold State.raiseSev; split; rfl; split <;> rfl
@[simp] theorem raiseSev_prbs (src sev isl inst : Nat) (fs : List (Nat × Nat)) : (s.raiseSev src sev isl inst fs).prbs = s.prbs := by unfold State.raiseSev; split; rfl; split <;> rfl
@[simp] theorem raiseSev_pon (src sev isl inst : Nat) (fs : List (Nat × Nat)) : (s.raiseSev src sev isl inst fs).pon = s.pon := by unfold State.raiseSev; split; rfl; split <;> rfl
@[simp] theorem raiseSev_bc (src sev isl inst : Nat) (fs : List (Nat × Nat)) : (s.raiseSev src sev isl inst fs).bc = s.bc := by unfold State.raiseSev; split; rfl; split <;> rfl
@[simp] theorem raiseSev_slots (src sev isl inst : Nat) (fs : List (Nat × Nat)) : (s.raiseSev src sev isl inst fs).slots = s.slots := by unfold State.raiseSev; split; rfl; split <;> rfl
@[simp] theorem raiseSev_vlt (src sev isl inst : Nat) (fs : List (Nat × Nat)) : (s.raiseSev src sev isl inst fs).vlt = s.vlt := by unfold State.raiseSev; split; rfl; split <;> rfl
@[simp] theorem raiseSev_stw (src sev isl inst : Nat) (fs : List (Nat × Nat)) : (s.raiseSev src sev isl inst fs).stw = s.stw := by unfold State.raiseSev; split; rfl; split <;> rfl
@[simp] theorem raiseSev_flash (src sev isl inst : Nat) (fs : List (Nat × Nat)) : (s.raiseSev src sev isl inst fs).flash = s.flash := by unfold State.raiseSev; split; rfl; split <;> rfl
@[simp] theorem raiseSev_tap (src sev isl inst : Nat) (fs : List (Nat × Nat)) : (s.raiseSev src sev isl inst fs).tap = s.tap := by unfold State.raiseSev; split; rfl; split <;> rfl
@[simp] theorem raiseSev_fuse (src sev isl inst : Nat) (fs : List (Nat × Nat)) : (s.raiseSev src sev isl inst fs).fuse = s.fuse := by unfold State.raiseSev; split; rfl; split <;> rfl
@[simp] theorem raiseSev_ledger (src sev isl inst : Nat) (fs : List (Nat × Nat)) : (s.raiseSev src sev isl inst fs).ledger = s.ledger := by unfold State.raiseSev; split; rfl; split <;> rfl
@[simp] theorem raiseSev_boot (src sev isl inst : Nat) (fs : List (Nat × Nat)) : (s.raiseSev src sev isl inst fs).boot = s.boot := by unfold State.raiseSev; split; rfl; split <;> rfl
@[simp] theorem raiseSev_dma (src sev isl inst : Nat) (fs : List (Nat × Nat)) : (s.raiseSev src sev isl inst fs).dma = s.dma := by unfold State.raiseSev; split; rfl; split <;> rfl
@[simp] theorem raiseSev_draining (src sev isl inst : Nat) (fs : List (Nat × Nat)) : (s.raiseSev src sev isl inst fs).draining = s.draining := by unfold State.raiseSev; split; rfl; split <;> rfl
@[simp] theorem raiseSev_mem (src sev isl inst : Nat) (fs : List (Nat × Nat)) : (s.raiseSev src sev isl inst fs).mem = s.mem := by unfold State.raiseSev; split; rfl; split <;> rfl
@[simp] theorem raiseSev_chk (src sev isl inst : Nat) (fs : List (Nat × Nat)) : (s.raiseSev src sev isl inst fs).chk = s.chk := by unfold State.raiseSev; split; rfl; split <;> rfl
@[simp] theorem raiseSev_sampN (src sev isl inst : Nat) (fs : List (Nat × Nat)) : (s.raiseSev src sev isl inst fs).sampN = s.sampN := by unfold State.raiseSev; split; rfl; split <;> rfl
@[simp] theorem raiseSev_sampArm (src sev isl inst : Nat) (fs : List (Nat × Nat)) : (s.raiseSev src sev isl inst fs).sampArm = s.sampArm := by unfold State.raiseSev; split; rfl; split <;> rfl
@[simp] theorem raiseSev_pwr (src sev isl inst : Nat) (fs : List (Nat × Nat)) : (s.raiseSev src sev isl inst fs).pwr = s.pwr := by unfold State.raiseSev; split; rfl; split <;> rfl
@[simp] theorem raiseSev_out (src sev isl inst : Nat) (fs : List (Nat × Nat)) : (s.raiseSev src sev isl inst fs).out = s.out := by unfold State.raiseSev; split; rfl; split <;> rfl

/-! `State.raise` leaves these fields alone. -/

@[simp] theorem raise_pending (src isl inst : Nat) (fs : List (Nat × Nat)) : (s.raise src isl inst fs).pending = s.pending := by simp [State.raise]
@[simp] theorem raise_now (src isl inst : Nat) (fs : List (Nat × Nat)) : (s.raise src isl inst fs).now = s.now := by simp [State.raise]
@[simp] theorem raise_freeNext (src isl inst : Nat) (fs : List (Nat × Nat)) : (s.raise src isl inst fs).freeNext = s.freeNext := by simp [State.raise]
@[simp] theorem raise_regs (src isl inst : Nat) (fs : List (Nat × Nat)) : (s.raise src isl inst fs).regs = s.regs := by simp [State.raise]
@[simp] theorem raise_ctrs (src isl inst : Nat) (fs : List (Nat × Nat)) : (s.raise src isl inst fs).ctrs = s.ctrs := by simp [State.raise]
@[simp] theorem raise_ctrLatch (src isl inst : Nat) (fs : List (Nat × Nat)) : (s.raise src isl inst fs).ctrLatch = s.ctrLatch := by simp [State.raise]
@[simp] theorem raise_tally (src isl inst : Nat) (fs : List (Nat × Nat)) : (s.raise src isl inst fs).tally = s.tally := by simp [State.raise]
@[simp] theorem raise_timers (src isl inst : Nat) (fs : List (Nat × Nat)) : (s.raise src isl inst fs).timers = s.timers := by simp [State.raise]
@[simp] theorem raise_counting (src isl inst : Nat) (fs : List (Nat × Nat)) : (s.raise src isl inst fs).counting = s.counting := by simp [State.raise]
@[simp] theorem raise_mcCounting (src isl inst : Nat) (fs : List (Nat × Nat)) : (s.raise src isl inst fs).mcCounting = s.mcCounting := by simp [State.raise]
@[simp] theorem raise_tim (src isl inst : Nat) (fs : List (Nat × Nat)) : (s.raise src isl inst fs).tim = s.tim := by simp [State.raise]
@[simp] theorem raise_tbl (src isl inst : Nat) (fs : List (Nat × Nat)) : (s.raise src isl inst fs).tbl = s.tbl := by simp [State.raise]
@[simp] theorem raise_pipes (src isl inst : Nat) (fs : List (Nat × Nat)) : (s.raise src isl inst fs).pipes = s.pipes := by simp [State.raise]
@[simp] theorem raise_tlr (src isl inst : Nat) (fs : List (Nat × Nat)) : (s.raise src isl inst fs).tlr = s.tlr := by simp [State.raise]
@[simp] theorem raise_tmg (src isl inst : Nat) (fs : List (Nat × Nat)) : (s.raise src isl inst fs).tmg = s.tmg := by simp [State.raise]
@[simp] theorem raise_tq (src isl inst : Nat) (fs : List (Nat × Nat)) : (s.raise src isl inst fs).tq = s.tq := by simp [State.raise]
@[simp] theorem raise_prbs (src isl inst : Nat) (fs : List (Nat × Nat)) : (s.raise src isl inst fs).prbs = s.prbs := by simp [State.raise]
@[simp] theorem raise_pon (src isl inst : Nat) (fs : List (Nat × Nat)) : (s.raise src isl inst fs).pon = s.pon := by simp [State.raise]
@[simp] theorem raise_bc (src isl inst : Nat) (fs : List (Nat × Nat)) : (s.raise src isl inst fs).bc = s.bc := by simp [State.raise]
@[simp] theorem raise_slots (src isl inst : Nat) (fs : List (Nat × Nat)) : (s.raise src isl inst fs).slots = s.slots := by simp [State.raise]
@[simp] theorem raise_vlt (src isl inst : Nat) (fs : List (Nat × Nat)) : (s.raise src isl inst fs).vlt = s.vlt := by simp [State.raise]
@[simp] theorem raise_stw (src isl inst : Nat) (fs : List (Nat × Nat)) : (s.raise src isl inst fs).stw = s.stw := by simp [State.raise]
@[simp] theorem raise_flash (src isl inst : Nat) (fs : List (Nat × Nat)) : (s.raise src isl inst fs).flash = s.flash := by simp [State.raise]
@[simp] theorem raise_tap (src isl inst : Nat) (fs : List (Nat × Nat)) : (s.raise src isl inst fs).tap = s.tap := by simp [State.raise]
@[simp] theorem raise_fuse (src isl inst : Nat) (fs : List (Nat × Nat)) : (s.raise src isl inst fs).fuse = s.fuse := by simp [State.raise]
@[simp] theorem raise_ledger (src isl inst : Nat) (fs : List (Nat × Nat)) : (s.raise src isl inst fs).ledger = s.ledger := by simp [State.raise]
@[simp] theorem raise_boot (src isl inst : Nat) (fs : List (Nat × Nat)) : (s.raise src isl inst fs).boot = s.boot := by simp [State.raise]
@[simp] theorem raise_dma (src isl inst : Nat) (fs : List (Nat × Nat)) : (s.raise src isl inst fs).dma = s.dma := by simp [State.raise]
@[simp] theorem raise_draining (src isl inst : Nat) (fs : List (Nat × Nat)) : (s.raise src isl inst fs).draining = s.draining := by simp [State.raise]
@[simp] theorem raise_mem (src isl inst : Nat) (fs : List (Nat × Nat)) : (s.raise src isl inst fs).mem = s.mem := by simp [State.raise]
@[simp] theorem raise_chk (src isl inst : Nat) (fs : List (Nat × Nat)) : (s.raise src isl inst fs).chk = s.chk := by simp [State.raise]
@[simp] theorem raise_sampN (src isl inst : Nat) (fs : List (Nat × Nat)) : (s.raise src isl inst fs).sampN = s.sampN := by simp [State.raise]
@[simp] theorem raise_sampArm (src isl inst : Nat) (fs : List (Nat × Nat)) : (s.raise src isl inst fs).sampArm = s.sampArm := by simp [State.raise]
@[simp] theorem raise_pwr (src isl inst : Nat) (fs : List (Nat × Nat)) : (s.raise src isl inst fs).pwr = s.pwr := by simp [State.raise]
@[simp] theorem raise_out (src isl inst : Nat) (fs : List (Nat × Nat)) : (s.raise src isl inst fs).out = s.out := by simp [State.raise]

/-! `State.raiseLim` leaves these fields alone. -/

@[simp] theorem raiseLim_pending (k p src isl inst : Nat) (fs : List (Nat × Nat)) : (s.raiseLim k p src isl inst fs).pending = s.pending := by simp only [State.raiseLim]; split <;> simp
@[simp] theorem raiseLim_now (k p src isl inst : Nat) (fs : List (Nat × Nat)) : (s.raiseLim k p src isl inst fs).now = s.now := by simp only [State.raiseLim]; split <;> simp
@[simp] theorem raiseLim_freeNext (k p src isl inst : Nat) (fs : List (Nat × Nat)) : (s.raiseLim k p src isl inst fs).freeNext = s.freeNext := by simp only [State.raiseLim]; split <;> simp
@[simp] theorem raiseLim_regs (k p src isl inst : Nat) (fs : List (Nat × Nat)) : (s.raiseLim k p src isl inst fs).regs = s.regs := by simp only [State.raiseLim]; split <;> simp
@[simp] theorem raiseLim_ctrs (k p src isl inst : Nat) (fs : List (Nat × Nat)) : (s.raiseLim k p src isl inst fs).ctrs = s.ctrs := by simp only [State.raiseLim]; split <;> simp
@[simp] theorem raiseLim_ctrLatch (k p src isl inst : Nat) (fs : List (Nat × Nat)) : (s.raiseLim k p src isl inst fs).ctrLatch = s.ctrLatch := by simp only [State.raiseLim]; split <;> simp
@[simp] theorem raiseLim_tally (k p src isl inst : Nat) (fs : List (Nat × Nat)) : (s.raiseLim k p src isl inst fs).tally = s.tally := by simp only [State.raiseLim]; split <;> simp
@[simp] theorem raiseLim_timers (k p src isl inst : Nat) (fs : List (Nat × Nat)) : (s.raiseLim k p src isl inst fs).timers = s.timers := by simp only [State.raiseLim]; split <;> simp
@[simp] theorem raiseLim_counting (k p src isl inst : Nat) (fs : List (Nat × Nat)) : (s.raiseLim k p src isl inst fs).counting = s.counting := by simp only [State.raiseLim]; split <;> simp
@[simp] theorem raiseLim_mcCounting (k p src isl inst : Nat) (fs : List (Nat × Nat)) : (s.raiseLim k p src isl inst fs).mcCounting = s.mcCounting := by simp only [State.raiseLim]; split <;> simp
@[simp] theorem raiseLim_tim (k p src isl inst : Nat) (fs : List (Nat × Nat)) : (s.raiseLim k p src isl inst fs).tim = s.tim := by simp only [State.raiseLim]; split <;> simp
@[simp] theorem raiseLim_tbl (k p src isl inst : Nat) (fs : List (Nat × Nat)) : (s.raiseLim k p src isl inst fs).tbl = s.tbl := by simp only [State.raiseLim]; split <;> simp
@[simp] theorem raiseLim_pipes (k p src isl inst : Nat) (fs : List (Nat × Nat)) : (s.raiseLim k p src isl inst fs).pipes = s.pipes := by simp only [State.raiseLim]; split <;> simp
@[simp] theorem raiseLim_tlr (k p src isl inst : Nat) (fs : List (Nat × Nat)) : (s.raiseLim k p src isl inst fs).tlr = s.tlr := by simp only [State.raiseLim]; split <;> simp
@[simp] theorem raiseLim_tmg (k p src isl inst : Nat) (fs : List (Nat × Nat)) : (s.raiseLim k p src isl inst fs).tmg = s.tmg := by simp only [State.raiseLim]; split <;> simp
@[simp] theorem raiseLim_tq (k p src isl inst : Nat) (fs : List (Nat × Nat)) : (s.raiseLim k p src isl inst fs).tq = s.tq := by simp only [State.raiseLim]; split <;> simp
@[simp] theorem raiseLim_prbs (k p src isl inst : Nat) (fs : List (Nat × Nat)) : (s.raiseLim k p src isl inst fs).prbs = s.prbs := by simp only [State.raiseLim]; split <;> simp
@[simp] theorem raiseLim_pon (k p src isl inst : Nat) (fs : List (Nat × Nat)) : (s.raiseLim k p src isl inst fs).pon = s.pon := by simp only [State.raiseLim]; split <;> simp
@[simp] theorem raiseLim_bc (k p src isl inst : Nat) (fs : List (Nat × Nat)) : (s.raiseLim k p src isl inst fs).bc = s.bc := by simp only [State.raiseLim]; split <;> simp
@[simp] theorem raiseLim_slots (k p src isl inst : Nat) (fs : List (Nat × Nat)) : (s.raiseLim k p src isl inst fs).slots = s.slots := by simp only [State.raiseLim]; split <;> simp
@[simp] theorem raiseLim_vlt (k p src isl inst : Nat) (fs : List (Nat × Nat)) : (s.raiseLim k p src isl inst fs).vlt = s.vlt := by simp only [State.raiseLim]; split <;> simp
@[simp] theorem raiseLim_stw (k p src isl inst : Nat) (fs : List (Nat × Nat)) : (s.raiseLim k p src isl inst fs).stw = s.stw := by simp only [State.raiseLim]; split <;> simp
@[simp] theorem raiseLim_flash (k p src isl inst : Nat) (fs : List (Nat × Nat)) : (s.raiseLim k p src isl inst fs).flash = s.flash := by simp only [State.raiseLim]; split <;> simp
@[simp] theorem raiseLim_tap (k p src isl inst : Nat) (fs : List (Nat × Nat)) : (s.raiseLim k p src isl inst fs).tap = s.tap := by simp only [State.raiseLim]; split <;> simp
@[simp] theorem raiseLim_fuse (k p src isl inst : Nat) (fs : List (Nat × Nat)) : (s.raiseLim k p src isl inst fs).fuse = s.fuse := by simp only [State.raiseLim]; split <;> simp
@[simp] theorem raiseLim_ledger (k p src isl inst : Nat) (fs : List (Nat × Nat)) : (s.raiseLim k p src isl inst fs).ledger = s.ledger := by simp only [State.raiseLim]; split <;> simp
@[simp] theorem raiseLim_boot (k p src isl inst : Nat) (fs : List (Nat × Nat)) : (s.raiseLim k p src isl inst fs).boot = s.boot := by simp only [State.raiseLim]; split <;> simp
@[simp] theorem raiseLim_dma (k p src isl inst : Nat) (fs : List (Nat × Nat)) : (s.raiseLim k p src isl inst fs).dma = s.dma := by simp only [State.raiseLim]; split <;> simp
@[simp] theorem raiseLim_draining (k p src isl inst : Nat) (fs : List (Nat × Nat)) : (s.raiseLim k p src isl inst fs).draining = s.draining := by simp only [State.raiseLim]; split <;> simp
@[simp] theorem raiseLim_mem (k p src isl inst : Nat) (fs : List (Nat × Nat)) : (s.raiseLim k p src isl inst fs).mem = s.mem := by simp only [State.raiseLim]; split <;> simp
@[simp] theorem raiseLim_chk (k p src isl inst : Nat) (fs : List (Nat × Nat)) : (s.raiseLim k p src isl inst fs).chk = s.chk := by simp only [State.raiseLim]; split <;> simp
@[simp] theorem raiseLim_sampN (k p src isl inst : Nat) (fs : List (Nat × Nat)) : (s.raiseLim k p src isl inst fs).sampN = s.sampN := by simp only [State.raiseLim]; split <;> simp
@[simp] theorem raiseLim_sampArm (k p src isl inst : Nat) (fs : List (Nat × Nat)) : (s.raiseLim k p src isl inst fs).sampArm = s.sampArm := by simp only [State.raiseLim]; split <;> simp
@[simp] theorem raiseLim_pwr (k p src isl inst : Nat) (fs : List (Nat × Nat)) : (s.raiseLim k p src isl inst fs).pwr = s.pwr := by simp only [State.raiseLim]; split <;> simp
@[simp] theorem raiseLim_out (k p src isl inst : Nat) (fs : List (Nat × Nat)) : (s.raiseLim k p src isl inst fs).out = s.out := by simp only [State.raiseLim]; split <;> simp

/-! `State.raiseMs` leaves these fields alone. -/

@[simp] theorem raiseMs_pending (u src isl inst : Nat) (fs : List (Nat × Nat)) : (s.raiseMs u src isl inst fs).pending = s.pending := by simp [State.raiseMs]
@[simp] theorem raiseMs_now (u src isl inst : Nat) (fs : List (Nat × Nat)) : (s.raiseMs u src isl inst fs).now = s.now := by simp [State.raiseMs]
@[simp] theorem raiseMs_freeNext (u src isl inst : Nat) (fs : List (Nat × Nat)) : (s.raiseMs u src isl inst fs).freeNext = s.freeNext := by simp [State.raiseMs]
@[simp] theorem raiseMs_regs (u src isl inst : Nat) (fs : List (Nat × Nat)) : (s.raiseMs u src isl inst fs).regs = s.regs := by simp [State.raiseMs]
@[simp] theorem raiseMs_ctrs (u src isl inst : Nat) (fs : List (Nat × Nat)) : (s.raiseMs u src isl inst fs).ctrs = s.ctrs := by simp [State.raiseMs]
@[simp] theorem raiseMs_ctrLatch (u src isl inst : Nat) (fs : List (Nat × Nat)) : (s.raiseMs u src isl inst fs).ctrLatch = s.ctrLatch := by simp [State.raiseMs]
@[simp] theorem raiseMs_tally (u src isl inst : Nat) (fs : List (Nat × Nat)) : (s.raiseMs u src isl inst fs).tally = s.tally := by simp [State.raiseMs]
@[simp] theorem raiseMs_timers (u src isl inst : Nat) (fs : List (Nat × Nat)) : (s.raiseMs u src isl inst fs).timers = s.timers := by simp [State.raiseMs]
@[simp] theorem raiseMs_counting (u src isl inst : Nat) (fs : List (Nat × Nat)) : (s.raiseMs u src isl inst fs).counting = s.counting := by simp [State.raiseMs]
@[simp] theorem raiseMs_mcCounting (u src isl inst : Nat) (fs : List (Nat × Nat)) : (s.raiseMs u src isl inst fs).mcCounting = s.mcCounting := by simp [State.raiseMs]
@[simp] theorem raiseMs_tim (u src isl inst : Nat) (fs : List (Nat × Nat)) : (s.raiseMs u src isl inst fs).tim = s.tim := by simp [State.raiseMs]
@[simp] theorem raiseMs_tbl (u src isl inst : Nat) (fs : List (Nat × Nat)) : (s.raiseMs u src isl inst fs).tbl = s.tbl := by simp [State.raiseMs]
@[simp] theorem raiseMs_pipes (u src isl inst : Nat) (fs : List (Nat × Nat)) : (s.raiseMs u src isl inst fs).pipes = s.pipes := by simp [State.raiseMs]
@[simp] theorem raiseMs_tlr (u src isl inst : Nat) (fs : List (Nat × Nat)) : (s.raiseMs u src isl inst fs).tlr = s.tlr := by simp [State.raiseMs]
@[simp] theorem raiseMs_tmg (u src isl inst : Nat) (fs : List (Nat × Nat)) : (s.raiseMs u src isl inst fs).tmg = s.tmg := by simp [State.raiseMs]
@[simp] theorem raiseMs_tq (u src isl inst : Nat) (fs : List (Nat × Nat)) : (s.raiseMs u src isl inst fs).tq = s.tq := by simp [State.raiseMs]
@[simp] theorem raiseMs_prbs (u src isl inst : Nat) (fs : List (Nat × Nat)) : (s.raiseMs u src isl inst fs).prbs = s.prbs := by simp [State.raiseMs]
@[simp] theorem raiseMs_pon (u src isl inst : Nat) (fs : List (Nat × Nat)) : (s.raiseMs u src isl inst fs).pon = s.pon := by simp [State.raiseMs]
@[simp] theorem raiseMs_bc (u src isl inst : Nat) (fs : List (Nat × Nat)) : (s.raiseMs u src isl inst fs).bc = s.bc := by simp [State.raiseMs]
@[simp] theorem raiseMs_slots (u src isl inst : Nat) (fs : List (Nat × Nat)) : (s.raiseMs u src isl inst fs).slots = s.slots := by simp [State.raiseMs]
@[simp] theorem raiseMs_vlt (u src isl inst : Nat) (fs : List (Nat × Nat)) : (s.raiseMs u src isl inst fs).vlt = s.vlt := by simp [State.raiseMs]
@[simp] theorem raiseMs_stw (u src isl inst : Nat) (fs : List (Nat × Nat)) : (s.raiseMs u src isl inst fs).stw = s.stw := by simp [State.raiseMs]
@[simp] theorem raiseMs_flash (u src isl inst : Nat) (fs : List (Nat × Nat)) : (s.raiseMs u src isl inst fs).flash = s.flash := by simp [State.raiseMs]
@[simp] theorem raiseMs_tap (u src isl inst : Nat) (fs : List (Nat × Nat)) : (s.raiseMs u src isl inst fs).tap = s.tap := by simp [State.raiseMs]
@[simp] theorem raiseMs_fuse (u src isl inst : Nat) (fs : List (Nat × Nat)) : (s.raiseMs u src isl inst fs).fuse = s.fuse := by simp [State.raiseMs]
@[simp] theorem raiseMs_ledger (u src isl inst : Nat) (fs : List (Nat × Nat)) : (s.raiseMs u src isl inst fs).ledger = s.ledger := by simp [State.raiseMs]
@[simp] theorem raiseMs_boot (u src isl inst : Nat) (fs : List (Nat × Nat)) : (s.raiseMs u src isl inst fs).boot = s.boot := by simp [State.raiseMs]
@[simp] theorem raiseMs_dma (u src isl inst : Nat) (fs : List (Nat × Nat)) : (s.raiseMs u src isl inst fs).dma = s.dma := by simp [State.raiseMs]
@[simp] theorem raiseMs_draining (u src isl inst : Nat) (fs : List (Nat × Nat)) : (s.raiseMs u src isl inst fs).draining = s.draining := by simp [State.raiseMs]
@[simp] theorem raiseMs_mem (u src isl inst : Nat) (fs : List (Nat × Nat)) : (s.raiseMs u src isl inst fs).mem = s.mem := by simp [State.raiseMs]
@[simp] theorem raiseMs_chk (u src isl inst : Nat) (fs : List (Nat × Nat)) : (s.raiseMs u src isl inst fs).chk = s.chk := by simp [State.raiseMs]
@[simp] theorem raiseMs_sampN (u src isl inst : Nat) (fs : List (Nat × Nat)) : (s.raiseMs u src isl inst fs).sampN = s.sampN := by simp [State.raiseMs]
@[simp] theorem raiseMs_sampArm (u src isl inst : Nat) (fs : List (Nat × Nat)) : (s.raiseMs u src isl inst fs).sampArm = s.sampArm := by simp [State.raiseMs]
@[simp] theorem raiseMs_pwr (u src isl inst : Nat) (fs : List (Nat × Nat)) : (s.raiseMs u src isl inst fs).pwr = s.pwr := by simp [State.raiseMs]
@[simp] theorem raiseMs_out (u src isl inst : Nat) (fs : List (Nat × Nat)) : (s.raiseMs u src isl inst fs).out = s.out := by simp [State.raiseMs]

/-! `State.takeFree` leaves these fields alone. -/

@[simp] theorem takeFree_pending : (s.takeFree.1).pending = s.pending := rfl
@[simp] theorem takeFree_now : (s.takeFree.1).now = s.now := rfl
@[simp] theorem takeFree_regs : (s.takeFree.1).regs = s.regs := rfl
@[simp] theorem takeFree_ctrs : (s.takeFree.1).ctrs = s.ctrs := rfl
@[simp] theorem takeFree_ctrLatch : (s.takeFree.1).ctrLatch = s.ctrLatch := rfl
@[simp] theorem takeFree_tally : (s.takeFree.1).tally = s.tally := rfl
@[simp] theorem takeFree_timers : (s.takeFree.1).timers = s.timers := rfl
@[simp] theorem takeFree_counting : (s.takeFree.1).counting = s.counting := rfl
@[simp] theorem takeFree_mcCounting : (s.takeFree.1).mcCounting = s.mcCounting := rfl
@[simp] theorem takeFree_evt : (s.takeFree.1).evt = s.evt := rfl
@[simp] theorem takeFree_tim : (s.takeFree.1).tim = s.tim := rfl
@[simp] theorem takeFree_tbl : (s.takeFree.1).tbl = s.tbl := rfl
@[simp] theorem takeFree_pipes : (s.takeFree.1).pipes = s.pipes := rfl
@[simp] theorem takeFree_tlr : (s.takeFree.1).tlr = s.tlr := rfl
@[simp] theorem takeFree_tmg : (s.takeFree.1).tmg = s.tmg := rfl
@[simp] theorem takeFree_tq : (s.takeFree.1).tq = s.tq := rfl
@[simp] theorem takeFree_prbs : (s.takeFree.1).prbs = s.prbs := rfl
@[simp] theorem takeFree_pon : (s.takeFree.1).pon = s.pon := rfl
@[simp] theorem takeFree_bc : (s.takeFree.1).bc = s.bc := rfl
@[simp] theorem takeFree_slots : (s.takeFree.1).slots = s.slots := rfl
@[simp] theorem takeFree_vlt : (s.takeFree.1).vlt = s.vlt := rfl
@[simp] theorem takeFree_stw : (s.takeFree.1).stw = s.stw := rfl
@[simp] theorem takeFree_flash : (s.takeFree.1).flash = s.flash := rfl
@[simp] theorem takeFree_tap : (s.takeFree.1).tap = s.tap := rfl
@[simp] theorem takeFree_fuse : (s.takeFree.1).fuse = s.fuse := rfl
@[simp] theorem takeFree_ledger : (s.takeFree.1).ledger = s.ledger := rfl
@[simp] theorem takeFree_boot : (s.takeFree.1).boot = s.boot := rfl
@[simp] theorem takeFree_dma : (s.takeFree.1).dma = s.dma := rfl
@[simp] theorem takeFree_draining : (s.takeFree.1).draining = s.draining := rfl
@[simp] theorem takeFree_mem : (s.takeFree.1).mem = s.mem := rfl
@[simp] theorem takeFree_chk : (s.takeFree.1).chk = s.chk := rfl
@[simp] theorem takeFree_sampN : (s.takeFree.1).sampN = s.sampN := rfl
@[simp] theorem takeFree_sampArm : (s.takeFree.1).sampArm = s.sampArm := rfl
@[simp] theorem takeFree_pwr : (s.takeFree.1).pwr = s.pwr := rfl
@[simp] theorem takeFree_out : (s.takeFree.1).out = s.out := rfl

end Sys2Proof.Machine
end

