-- ==== Sys2Proof/Laws/Regs.lean ====
section
/-! SUPPORT. The laws of registers, fields, counters and timers: what a write leaves in what it writes and that it leaves the
rest alone. -/

namespace Sys2Proof.Machine

variable (s : State)

/-! ### Registers and counters -/

@[simp] theorem reg_setReg_same (a : Nat) (w : Word) : (s.setReg a w).reg a = w := by
  simp [State.reg, State.setReg]

theorem reg_setReg_other {a b : Nat} (w : Word) (h : b ≠ a) : (s.setReg a w).reg b = s.reg b := by
  simp [State.reg, State.setReg, smap_get_set_other _ _ _ h]

theorem ctr_count_same {a : Nat} (n : Nat) (h : s.countsAt a = true) : (s.count a n).ctr a = (s.ctr a + n) % 2 ^ 64 := by
  simp [State.count, h, State.ctr]

theorem ctr_count_other {a b : Nat} (n : Nat) (h : b ≠ a) : (s.count a n).ctr b = s.ctr b := by
  unfold State.count
  split
  · simp [State.ctr, smap_get_set_other _ _ _ h]
  · rfl

@[simp] theorem tallyGet_tallySet_same (p i v : Nat) : (s.tallySet p i v).tallyGet p i = v % 2 ^ tallyWidth p := by
  simp [State.tallyGet, State.tallySet]

theorem tallyGet_tallySet_other {p i p' i' : Nat} (v : Nat) (h : p' * 65536 + i' ≠ p * 65536 + i) :
    (s.tallySet p i v).tallyGet p' i' = s.tallyGet p' i' := by
  simp [State.tallyGet, State.tallySet, smap_get_set_other _ _ _ h]

@[simp] theorem timerOn_startTimer_same (i n : Nat) : (s.startTimer i n).timerOn i = true := by
  simp [State.timerOn, State.startTimer]

theorem timerOn_startTimer_other {i j : Nat} (n : Nat) (h : j ≠ i) : (s.startTimer i n).timerOn j = s.timerOn j := by
  simp [State.timerOn, State.startTimer, smap_get_set_other _ _ _ h]

@[simp] theorem timerOn_stopTimer_same (i : Nat) : (s.stopTimer i).timerOn i = false := by
  simp [State.timerOn, State.stopTimer]

theorem timerOn_stopTimer_other {i j : Nat} (h : j ≠ i) : (s.stopTimer i).timerOn j = s.timerOn j := by
  simp [State.timerOn, State.stopTimer, smap_get_set_other _ _ _ h]

/-! ### Fields -/

theorem Fld.of_lt (f : Fld) (w : Nat) : f.of w < 2 ^ f.width := Nat.mod_lt _ (Nat.two_pow_pos _)

/-- Bit by bit: a field of a word. -/
theorem Fld.testBit_of (f : Fld) (w i : Nat) : (f.of w).testBit i = (decide (i < f.width) && w.testBit (f.lo + i)) := by
  simp [Fld.of, Nat.testBit_mod_two_pow, Nat.testBit_div_two_pow, Nat.add_comm]

/-- A word is what lies below a field, the field, and what lies above it. -/
theorem Fld.split_word (f : Fld) (w : Nat) :
    w = w % 2 ^ f.lo + (f.of w + w / 2 ^ (f.lo + f.width) * 2 ^ f.width) * 2 ^ f.lo := by
  have h1 := Nat.div_add_mod w (2 ^ f.lo)
  have h2 := Nat.div_add_mod (w / 2 ^ f.lo) (2 ^ f.width)
  rw [Nat.div_div_eq_div_mul, ← Nat.pow_add] at h2
  unfold Fld.of
  rw [Nat.mul_comm (w / 2 ^ (f.lo + f.width)), Nat.add_comm (w / 2 ^ f.lo % 2 ^ f.width), h2, Nat.mul_comm, Nat.add_comm]
  exact h1.symm

/-- A word with a field replaced, in the same three parts. -/
theorem Fld.ins_eq (f : Fld) (w v : Nat) :
    f.ins w v = w % 2 ^ f.lo + (v % 2 ^ f.width + w / 2 ^ (f.lo + f.width) * 2 ^ f.width) * 2 ^ f.lo := by
  unfold Fld.ins
  have h := f.split_word w
  rw [Nat.add_mul] at h
  rw [Nat.add_mul]
  omega

/-- Reading a field after writing it gives the value written, cut to the field's width. -/
@[simp] theorem Fld.of_ins_same (f : Fld) (w v : Nat) : f.of (f.ins w v) = v % 2 ^ f.width := by
  rw [f.ins_eq]
  unfold Fld.of
  have hp : 0 < 2 ^ f.lo := Nat.two_pow_pos _
  rw [Nat.add_mul_div_right _ _ hp, Nat.div_eq_of_lt (Nat.mod_lt _ hp), Nat.zero_add, Nat.add_mul_mod_self_right,
    Nat.mod_mod]

/-- Bit by bit: a word with a field replaced. -/
theorem Fld.testBit_ins (f : Fld) (w v i : Nat) :
    (f.ins w v).testBit i = if f.lo ≤ i ∧ i < f.lo + f.width then v.testBit (i - f.lo) else w.testBit i := by
  rw [f.ins_eq, Nat.add_comm, Nat.mul_comm _ (2 ^ f.lo), Nat.testBit_two_pow_mul_add _ (Nat.mod_lt _ (Nat.two_pow_pos _)),
    Nat.add_comm (v % 2 ^ f.width), Nat.mul_comm _ (2 ^ f.width)]
  by_cases h1 : i < f.lo
  · have h2 : ¬ (f.lo ≤ i ∧ i < f.lo + f.width) := by omega
    rw [if_pos h1, if_neg h2, Nat.testBit_mod_two_pow]
    simp [h1]
  · rw [if_neg h1, Nat.testBit_two_pow_mul_add _ (Nat.mod_lt _ (Nat.two_pow_pos _))]
    by_cases h2 : i - f.lo < f.width
    · have h3 : f.lo ≤ i ∧ i < f.lo + f.width := by omega
      rw [if_pos h2, if_pos h3, Nat.testBit_mod_two_pow]
      simp [h2]
    · have h3 : ¬ (f.lo ≤ i ∧ i < f.lo + f.width) := by omega
      rw [if_neg h2, if_neg h3, Nat.testBit_div_two_pow]
      congr 1
      omega

/-- Writing a field leaves a field of other bits alone. -/
theorem Fld.of_ins_other (f g : Fld) (w v : Nat) (h : f.lo + f.width ≤ g.lo ∨ g.lo + g.width ≤ f.lo) :
    g.of (f.ins w v) = g.of w := by
  apply Nat.eq_of_testBit_eq
  intro i
  rw [Fld.testBit_of, Fld.testBit_of, Fld.testBit_ins]
  by_cases hi : i < g.width
  · have : ¬ (f.lo ≤ g.lo + i ∧ g.lo + i < f.lo + f.width) := by omega
    simp [this]
  · simp [hi]

/-- A 32-bit word stays one when a field inside it is replaced. -/
theorem Fld.ins_lt (f : Fld) (w v : Nat) (hw : w < 2 ^ 32) (hf : f.lo + f.width ≤ 32) : f.ins w v < 2 ^ 32 := by
  apply Nat.lt_pow_two_of_testBit
  intro i hi
  rw [Fld.testBit_ins]
  have : ¬ (f.lo ≤ i ∧ i < f.lo + f.width) := by omega
  rw [if_neg this]
  exact Nat.testBit_lt_two_pow (Nat.lt_of_lt_of_le hw (Nat.pow_le_pow_right (by decide) hi))

theorem reg_setF_same (b : Nat) (f : Fld) (v : Nat) :
    (s.setF b f v).reg (b + f.off) = BitVec.ofNat 32 (f.ins (s.reg (b + f.off)).toNat v) := by simp [State.setF]

theorem reg_setF_other {b a : Nat} {f : Fld} (v : Nat) (h : a ≠ b + f.off) : (s.setF b f v).reg a = s.reg a :=
  reg_setReg_other s _ h

/-- Reading a field after writing it gives the value written, cut to the field's width. -/
theorem fld_setF_same (b : Nat) (f : Fld) (v : Nat) (hf : f.lo + f.width ≤ 32) :
    (s.setF b f v).fld b f = v % 2 ^ f.width := by
  unfold State.fld
  rw [reg_setF_same, BitVec.toNat_ofNat, Nat.mod_eq_of_lt (f.ins_lt _ _ (s.reg _).isLt hf), Fld.of_ins_same]

/-- Writing a field leaves alone every field of another register, and other bits of the same one. -/
theorem fld_setF_other {b c : Nat} {f g : Fld} (v : Nat) (hf : f.lo + f.width ≤ 32)
    (h : c + g.off ≠ b + f.off ∨ f.lo + f.width ≤ g.lo ∨ g.lo + g.width ≤ f.lo) :
    (s.setF b f v).fld c g = s.fld c g := by
  unfold State.fld
  by_cases e : c + g.off = b + f.off
  · rw [e, reg_setF_same, BitVec.toNat_ofNat, Nat.mod_eq_of_lt (f.ins_lt _ _ (s.reg _).isLt hf)]
    exact f.of_ins_other g _ _ (h.resolve_left (fun h => h e))
  · rw [reg_setF_other s v e]

theorem bit_setBit_same (b : Nat) (f : Fld) (v : Bool) (hf : f.lo + f.width ≤ 32) : (s.setBit b f v).bit b f = v := by
  unfold State.bit State.setBit
  rw [fld_setF_same s b f _ hf]
  cases v
  · simp
  · have : 1 < 2 ^ f.width := Nat.one_lt_two_pow (by simp [Fld.width])
    simp [Nat.mod_eq_of_lt this]

/-! ### What leaves registers, counters and timers alone -/

@[simp] theorem reg_count (a n : Nat) (b : Nat) : (s.count a n).reg b = s.reg b := by simp [State.reg]
@[simp] theorem fld_count (a n : Nat) (b : Nat) (f : Fld) : (s.count a n).fld b f = s.fld b f := by simp [State.fld, State.reg]
@[simp] theorem bit_count (a n : Nat) (b : Nat) (f : Fld) : (s.count a n).bit b f = s.bit b f := by simp [State.bit, State.fld, State.reg]
@[simp] theorem live_count (a n : Nat) (k : Nat) : (s.count a n).live k = s.live k := by simp [State.live, State.reg]
@[simp] theorem tallyGet_count (a n : Nat) (p' i' : Nat) : (s.count a n).tallyGet p' i' = s.tallyGet p' i' := by simp [State.tallyGet]
@[simp] theorem timerOn_count (a n : Nat) (j : Nat) : (s.count a n).timerOn j = s.timerOn j := by simp [State.timerOn]
@[simp] theorem reg_tallySet (p i v : Nat) (b : Nat) : (s.tallySet p i v).reg b = s.reg b := by simp [State.reg]
@[simp] theorem fld_tallySet (p i v : Nat) (b : Nat) (f : Fld) : (s.tallySet p i v).fld b f = s.fld b f := by simp [State.fld, State.reg]
@[simp] theorem bit_tallySet (p i v : Nat) (b : Nat) (f : Fld) : (s.tallySet p i v).bit b f = s.bit b f := by simp [State.bit, State.fld, State.reg]
@[simp] theorem live_tallySet (p i v : Nat) (k : Nat) : (s.tallySet p i v).live k = s.live k := by simp [State.live, State.reg]
@[simp] theorem ctr_tallySet (p i v : Nat) (b : Nat) : (s.tallySet p i v).ctr b = s.ctr b := by simp [State.ctr]
@[simp] theorem timerOn_tallySet (p i v : Nat) (j : Nat) : (s.tallySet p i v).timerOn j = s.timerOn j := by simp [State.timerOn]
@[simp] theorem reg_tallyAdd (p i v : Nat) (b : Nat) : (s.tallyAdd p i v).reg b = s.reg b := by simp [State.reg]
@[simp] theorem fld_tallyAdd (p i v : Nat) (b : Nat) (f : Fld) : (s.tallyAdd p i v).fld b f = s.fld b f := by simp [State.fld, State.reg]
@[simp] theorem bit_tallyAdd (p i v : Nat) (b : Nat) (f : Fld) : (s.tallyAdd p i v).bit b f = s.bit b f := by simp [State.bit, State.fld, State.reg]
@[simp] theorem live_tallyAdd (p i v : Nat) (k : Nat) : (s.tallyAdd p i v).live k = s.live k := by simp [State.live, State.reg]
@[simp] theorem ctr_tallyAdd (p i v : Nat) (b : Nat) : (s.tallyAdd p i v).ctr b = s.ctr b := by simp [State.ctr]
@[simp] theorem timerOn_tallyAdd (p i v : Nat) (j : Nat) : (s.tallyAdd p i v).timerOn j = s.timerOn j := by simp [State.timerOn]
@[simp] theorem reg_startTimer (i n : Nat) (b : Nat) : (s.startTimer i n).reg b = s.reg b := by simp [State.reg]
@[simp] theorem fld_startTimer (i n : Nat) (b : Nat) (f : Fld) : (s.startTimer i n).fld b f = s.fld b f := by simp [State.fld, State.reg]
@[simp] theorem bit_startTimer (i n : Nat) (b : Nat) (f : Fld) : (s.startTimer i n).bit b f = s.bit b f := by simp [State.bit, State.fld, State.reg]
@[simp] theorem live_startTimer (i n : Nat) (k : Nat) : (s.startTimer i n).live k = s.live k := by simp [State.live, State.reg]
@[simp] theorem ctr_startTimer (i n : Nat) (b : Nat) : (s.startTimer i n).ctr b = s.ctr b := by simp [State.ctr]
@[simp] theorem tallyGet_startTimer (i n : Nat) (p' i' : Nat) : (s.startTimer i n).tallyGet p' i' = s.tallyGet p' i' := by simp [State.tallyGet]
@[simp] theorem reg_stopTimer (i : Nat) (b : Nat) : (s.stopTimer i).reg b = s.reg b := by simp [State.reg]
@[simp] theorem fld_stopTimer (i : Nat) (b : Nat) (f : Fld) : (s.stopTimer i).fld b f = s.fld b f := by simp [State.fld, State.reg]
@[simp] theorem bit_stopTimer (i : Nat) (b : Nat) (f : Fld) : (s.stopTimer i).bit b f = s.bit b f := by simp [State.bit, State.fld, State.reg]
@[simp] theorem live_stopTimer (i : Nat) (k : Nat) : (s.stopTimer i).live k = s.live k := by simp [State.live, State.reg]
@[simp] theorem ctr_stopTimer (i : Nat) (b : Nat) : (s.stopTimer i).ctr b = s.ctr b := by simp [State.ctr]
@[simp] theorem tallyGet_stopTimer (i : Nat) (p' i' : Nat) : (s.stopTimer i).tallyGet p' i' = s.tallyGet p' i' := by simp [State.tallyGet]
@[simp] theorem reg_emit (x : Output) (b : Nat) : (s.emit x).reg b = s.reg b := by simp [State.reg]
@[simp] theorem fld_emit (x : Output) (b : Nat) (f : Fld) : (s.emit x).fld b f = s.fld b f := by simp [State.fld, State.reg]
@[simp] theorem bit_emit (x : Output) (b : Nat) (f : Fld) : (s.emit x).bit b f = s.bit b f := by simp [State.bit, State.fld, State.reg]
@[simp] theorem live_emit (x : Output) (k : Nat) : (s.emit x).live k = s.live k := by simp [State.live, State.reg]
@[simp] theorem ctr_emit (x : Output) (b : Nat) : (s.emit x).ctr b = s.ctr b := by simp [State.ctr]
@[simp] theorem tallyGet_emit (x : Output) (p' i' : Nat) : (s.emit x).tallyGet p' i' = s.tallyGet p' i' := by simp [State.tallyGet]
@[simp] theorem timerOn_emit (x : Output) (j : Nat) : (s.emit x).timerOn j = s.timerOn j := by simp [State.timerOn]
@[simp] theorem reg_raiseSev (src sev isl inst : Nat) (fs : List (Nat × Nat)) (b : Nat) : (s.raiseSev src sev isl inst fs).reg b = s.reg b := by simp [State.reg]
@[simp] theorem fld_raiseSev (src sev isl inst : Nat) (fs : List (Nat × Nat)) (b : Nat) (f : Fld) : (s.raiseSev src sev isl inst fs).fld b f = s.fld b f := by simp [State.fld, State.reg]
@[simp] theorem bit_raiseSev (src sev isl inst : Nat) (fs : List (Nat × Nat)) (b : Nat) (f : Fld) : (s.raiseSev src sev isl inst fs).bit b f = s.bit b f := by simp [State.bit, State.fld, State.reg]
@[simp] theorem live_raiseSev (src sev isl inst : Nat) (fs : List (Nat × Nat)) (k : Nat) : (s.raiseSev src sev isl inst fs).live k = s.live k := by simp [State.live, State.reg]
@[simp] theorem ctr_raiseSev (src sev isl inst : Nat) (fs : List (Nat × Nat)) (b : Nat) : (s.raiseSev src sev isl inst fs).ctr b = s.ctr b := by simp [State.ctr]
@[simp] theorem tallyGet_raiseSev (src sev isl inst : Nat) (fs : List (Nat × Nat)) (p' i' : Nat) : (s.raiseSev src sev isl inst fs).tallyGet p' i' = s.tallyGet p' i' := by simp [State.tallyGet]
@[simp] theorem timerOn_raiseSev (src sev isl inst : Nat) (fs : List (Nat × Nat)) (j : Nat) : (s.raiseSev src sev isl inst fs).timerOn j = s.timerOn j := by simp [State.timerOn]
@[simp] theorem reg_raise (src isl inst : Nat) (fs : List (Nat × Nat)) (b : Nat) : (s.raise src isl inst fs).reg b = s.reg b := by simp [State.reg]
@[simp] theorem fld_raise (src isl inst : Nat) (fs : List (Nat × Nat)) (b : Nat) (f : Fld) : (s.raise src isl inst fs).fld b f = s.fld b f := by simp [State.fld, State.reg]
@[simp] theorem bit_raise (src isl inst : Nat) (fs : List (Nat × Nat)) (b : Nat) (f : Fld) : (s.raise src isl inst fs).bit b f = s.bit b f := by simp [State.bit, State.fld, State.reg]
@[simp] theorem live_raise (src isl inst : Nat) (fs : List (Nat × Nat)) (k : Nat) : (s.raise src isl inst fs).live k = s.live k := by simp [State.live, State.reg]
@[simp] theorem ctr_raise (src isl inst : Nat) (fs : List (Nat × Nat)) (b : Nat) : (s.raise src isl inst fs).ctr b = s.ctr b := by simp [State.ctr]
@[simp] theorem tallyGet_raise (src isl inst : Nat) (fs : List (Nat × Nat)) (p' i' : Nat) : (s.raise src isl inst fs).tallyGet p' i' = s.tallyGet p' i' := by simp [State.tallyGet]
@[simp] theorem timerOn_raise (src isl inst : Nat) (fs : List (Nat × Nat)) (j : Nat) : (s.raise src isl inst fs).timerOn j = s.timerOn j := by simp [State.timerOn]
@[simp] theorem reg_raiseLim (k p src isl inst : Nat) (fs : List (Nat × Nat)) (b : Nat) : (s.raiseLim k p src isl inst fs).reg b = s.reg b := by simp [State.reg]
@[simp] theorem fld_raiseLim (k p src isl inst : Nat) (fs : List (Nat × Nat)) (b : Nat) (f : Fld) : (s.raiseLim k p src isl inst fs).fld b f = s.fld b f := by simp [State.fld, State.reg]
@[simp] theorem bit_raiseLim (k p src isl inst : Nat) (fs : List (Nat × Nat)) (b : Nat) (f : Fld) : (s.raiseLim k p src isl inst fs).bit b f = s.bit b f := by simp [State.bit, State.fld, State.reg]
@[simp] theorem live_raiseLim (k p src isl inst : Nat) (fs : List (Nat × Nat)) (k : Nat) : (s.raiseLim k p src isl inst fs).live k = s.live k := by simp [State.live, State.reg]
@[simp] theorem ctr_raiseLim (k p src isl inst : Nat) (fs : List (Nat × Nat)) (b : Nat) : (s.raiseLim k p src isl inst fs).ctr b = s.ctr b := by simp [State.ctr]
@[simp] theorem tallyGet_raiseLim (k p src isl inst : Nat) (fs : List (Nat × Nat)) (p' i' : Nat) : (s.raiseLim k p src isl inst fs).tallyGet p' i' = s.tallyGet p' i' := by simp [State.tallyGet]
@[simp] theorem timerOn_raiseLim (k p src isl inst : Nat) (fs : List (Nat × Nat)) (j : Nat) : (s.raiseLim k p src isl inst fs).timerOn j = s.timerOn j := by simp [State.timerOn]
@[simp] theorem reg_raiseMs (u src isl inst : Nat) (fs : List (Nat × Nat)) (b : Nat) : (s.raiseMs u src isl inst fs).reg b = s.reg b := by simp [State.reg]
@[simp] theorem fld_raiseMs (u src isl inst : Nat) (fs : List (Nat × Nat)) (b : Nat) (f : Fld) : (s.raiseMs u src isl inst fs).fld b f = s.fld b f := by simp [State.fld, State.reg]
@[simp] theorem bit_raiseMs (u src isl inst : Nat) (fs : List (Nat × Nat)) (b : Nat) (f : Fld) : (s.raiseMs u src isl inst fs).bit b f = s.bit b f := by simp [State.bit, State.fld, State.reg]
@[simp] theorem live_raiseMs (u src isl inst : Nat) (fs : List (Nat × Nat)) (k : Nat) : (s.raiseMs u src isl inst fs).live k = s.live k := by simp [State.live, State.reg]
@[simp] theorem ctr_raiseMs (u src isl inst : Nat) (fs : List (Nat × Nat)) (b : Nat) : (s.raiseMs u src isl inst fs).ctr b = s.ctr b := by simp [State.ctr]
@[simp] theorem tallyGet_raiseMs (u src isl inst : Nat) (fs : List (Nat × Nat)) (p' i' : Nat) : (s.raiseMs u src isl inst fs).tallyGet p' i' = s.tallyGet p' i' := by simp [State.tallyGet]
@[simp] theorem timerOn_raiseMs (u src isl inst : Nat) (fs : List (Nat × Nat)) (j : Nat) : (s.raiseMs u src isl inst fs).timerOn j = s.timerOn j := by simp [State.timerOn]
@[simp] theorem reg_takeFree  (b : Nat) : (s.takeFree.1).reg b = s.reg b := by simp [State.reg]
@[simp] theorem fld_takeFree  (b : Nat) (f : Fld) : (s.takeFree.1).fld b f = s.fld b f := by simp [State.fld, State.reg]
@[simp] theorem bit_takeFree  (b : Nat) (f : Fld) : (s.takeFree.1).bit b f = s.bit b f := by simp [State.bit, State.fld, State.reg]
@[simp] theorem live_takeFree  (k : Nat) : (s.takeFree.1).live k = s.live k := by simp [State.live, State.reg]
@[simp] theorem ctr_takeFree  (b : Nat) : (s.takeFree.1).ctr b = s.ctr b := by simp [State.ctr]
@[simp] theorem tallyGet_takeFree  (p' i' : Nat) : (s.takeFree.1).tallyGet p' i' = s.tallyGet p' i' := by simp [State.tallyGet]
@[simp] theorem timerOn_takeFree  (j : Nat) : (s.takeFree.1).timerOn j = s.timerOn j := by simp [State.timerOn]
@[simp] theorem ctr_setReg (x : Nat) (w : Word) (b : Nat) : (s.setReg x w).ctr b = s.ctr b := by simp [State.ctr]
@[simp] theorem tallyGet_setReg (x : Nat) (w : Word) (p' i' : Nat) : (s.setReg x w).tallyGet p' i' = s.tallyGet p' i' := by simp [State.tallyGet]
@[simp] theorem timerOn_setReg (x : Nat) (w : Word) (j : Nat) : (s.setReg x w).timerOn j = s.timerOn j := by simp [State.timerOn]
@[simp] theorem ctr_setF (x : Nat) (y : Fld) (v : Nat) (b : Nat) : (s.setF x y v).ctr b = s.ctr b := by simp [State.ctr]
@[simp] theorem tallyGet_setF (x : Nat) (y : Fld) (v : Nat) (p' i' : Nat) : (s.setF x y v).tallyGet p' i' = s.tallyGet p' i' := by simp [State.tallyGet]
@[simp] theorem timerOn_setF (x : Nat) (y : Fld) (v : Nat) (j : Nat) : (s.setF x y v).timerOn j = s.timerOn j := by simp [State.timerOn]
@[simp] theorem ctr_setBit (x : Nat) (y : Fld) (v : Bool) (b : Nat) : (s.setBit x y v).ctr b = s.ctr b := by simp [State.ctr]
@[simp] theorem tallyGet_setBit (x : Nat) (y : Fld) (v : Bool) (p' i' : Nat) : (s.setBit x y v).tallyGet p' i' = s.tallyGet p' i' := by simp [State.tallyGet]
@[simp] theorem timerOn_setBit (x : Nat) (y : Fld) (v : Bool) (j : Nat) : (s.setBit x y v).timerOn j = s.timerOn j := by simp [State.timerOn]

end Sys2Proof.Machine
end

