-- ==== Sys2Proof/Laws/After.lean ====
section
/-! SUPPORT. What a command may leave (After): the shared updates stay within it, and the tools by which the operations that
are built from them do. -/

namespace Sys2Proof.Machine

variable {s0 : State}

/-! ### Tools -/

/-- A record update that leaves the fields After speaks of alone is as good as the state updated. -/
theorem after_mk {a1 a2 a3 r c a6 t ti a9 a10 e a12 a13 a14 a15 a16 a17 a18 a19 a20 a21 a22 a23 a24 a25 a26 a27 a28 a29 a30
    a31 a32 a33 a34 a35 a36} : After s0 (State.mk a1 a2 a3 r c a6 t ti a9 a10 e a12 a13 a14 a15 a16 a17 a18 a19 a20 a21 a22 a23
    a24 a25 a26 a27 a28 a29 a30 a31 a32 a33 a34 a35 a36) ↔ AfterOf s0 a1 a2 a3 r c t ti e.bootBuf a36 := ⟨fun h => h, fun h => h⟩

theorem after_eq {s : State} : AfterOf s0 s.pending s.now s.freeNext s.regs s.ctrs s.tally s.timers s.evt.bootBuf s.out ↔
    After s0 s := ⟨fun h => h, fun h => h⟩

theorem after_ite {p : Prop} [Decidable p] {a b : State} (ha : After s0 a) (hb : After s0 b) : After s0 (if p then a else b) := by
  split <;> assumption

theorem after_ite_fst {α : Type} {p : Prop} [Decidable p] {a b : State × α} (ha : After s0 a.1) (hb : After s0 b.1) :
    After s0 (if p then a else b).1 := by split <;> assumption

theorem after_foldl {α : Type} {f : State → α → State} {l : List α} {s : State} (h : After s0 s)
    (hf : ∀ s a, After s0 s → After s0 (f s a)) : After s0 (l.foldl f s) := by
  induction l generalizing s with
  | nil => exact h
  | cons a l ih => exact ih (hf s a h)

theorem after_foldl_fst {α β : Type} {f : State × β → α → State × β} {l : List α} {p : State × β} (h : After s0 p.1)
    (hf : ∀ p a, After s0 p.1 → After s0 (f p a).1) : After s0 (l.foldl f p).1 := by
  induction l generalizing p with
  | nil => exact h
  | cons a l ih => exact ih (hf p a h)

theorem smap_wfFrom_filter {β : Type} [DecidableEq β] (d : Nat → β) (q : Nat × β → Bool) (m : SMap β) (lo : Nat)
    (w : SMap.wfFrom d lo m = true) : SMap.wfFrom d lo (m.filter q) = true := by
  induction m generalizing lo with
  | nil => rfl
  | cons p t ih =>
    simp [SMap.wfFrom] at w
    simp only [List.filter]
    split
    · simp [SMap.wfFrom]
      exact ⟨w.1, ih _ w.2⟩
    · exact ih lo (smap_wfFrom_mono d t (by omega) w.2)

theorem smap_wf_filter {β : Type} [DecidableEq β] (d : Nat → β) (q : Nat × β → Bool) (m : SMap β)
    (w : SMap.wf d m = true) : SMap.wf d (m.filter q) = true := smap_wfFrom_filter d q m 0 w

theorem smap_get_default {β : Type} [DecidableEq β] (d : Nat → β) (m : SMap β) (lo k : Nat) (w : SMap.wfFrom d lo m = true)
    (h : k < lo) : SMap.get d m k = d k := by
  induction m generalizing lo with
  | nil => rfl
  | cons p t ih =>
    simp [SMap.wfFrom] at w
    have : ¬ p.1 = k := by omega
    simp only [SMap.get, if_neg this]
    exact ih _ w.2 (by omega)

theorem smap_get_filter_lt (m : SMap Nat) (q : Nat × Nat → Bool) (n lo : Nat) (hn : 0 < n)
    (w : SMap.wfFrom (fun _ => 0) lo m = true) (h : ∀ k, SMap.get (fun _ => 0) m k < n) (k : Nat) :
    SMap.get (fun _ => 0) (m.filter q) k < n := by
  induction m generalizing lo with
  | nil => exact hn
  | cons p t ih =>
    have w' := w
    simp [SMap.wfFrom] at w
    have ht : ∀ k, SMap.get (fun _ => 0) t k < n := by
      intro j
      by_cases e : p.1 = j
      · rw [smap_get_default _ _ _ _ w.2 (by omega)]; exact hn
      · have := h j; simpa [SMap.get, e] using this
    simp only [List.filter]
    split
    · by_cases e : p.1 = k
      · have := h k
        simp [SMap.get, e] at this ⊢
        exact this
      · simp [SMap.get, e]
        exact ih _ w.2 ht
    · exact ih _ w.2 ht

/-! ### The shared updates -/

theorem after_setReg {s : State} (h : After s0 s) (a : Nat) (w : Word) : After s0 (s.setReg a w) :=
  { h with kept := { h.kept with regs_wf := smap_wf_set _ _ _ _ h.kept.regs_wf } }

theorem after_count {s : State} (h : After s0 s) (a n : Nat) : After s0 (s.count a n) := by
  unfold State.count
  split
  · refine { h with kept := { h.kept with ctrs_wf := smap_wf_set _ _ _ _ h.kept.ctrs_wf, ctr_lt := fun b => ?_ } }
    by_cases e : b = a
    · subst e
      simpa using Nat.mod_lt _ (by decide)
    · simpa [smap_get_set_other _ _ _ e] using h.kept.ctr_lt b
  · exact h

theorem after_tallySet {s : State} (h : After s0 s) (p i v : Nat) : After s0 (s.tallySet p i v) := by
  refine { h with kept := { h.kept with tally_wf := smap_wf_set _ _ _ _ h.kept.tally_wf, tally_lt := fun b => ?_ } }
  by_cases e : b = p * 65536 + i
  · subst e
    simp only [State.tallySet, smap_get_set_same]
    refine Nat.lt_of_lt_of_le (Nat.mod_lt _ (Nat.two_pow_pos _)) (Nat.pow_le_pow_right (by decide) ?_)
    unfold tallyWidth
    split <;> decide
  · simpa [State.tallySet, smap_get_set_other _ _ _ e] using h.kept.tally_lt b

theorem after_startTimer {s : State} (h : After s0 s) (i n : Nat) : After s0 (s.startTimer i n) :=
  { h with kept := { h.kept with timers_wf := smap_wf_set _ _ i (s.now + n + 1) h.kept.timers_wf } }

theorem after_stopTimer {s : State} (h : After s0 s) (i : Nat) : After s0 (s.stopTimer i) :=
  { h with kept := { h.kept with timers_wf := smap_wf_set _ _ i 0 h.kept.timers_wf } }

theorem after_raiseSev {s : State} (h : After s0 s) (src sev isl inst : Nat) (fs : List (Nat × Nat)) :
    After s0 (s.raiseSev src sev isl inst fs) := by
  unfold State.raiseSev
  split
  · exact h
  · split
    · exact { h with kept := { h.kept with boot_le := by simp; omega } }
    · exact h

theorem after_flushBoot {s : State} (h : After s0 s) : After s0 s.flushBoot := by
  unfold State.flushBoot
  dsimp only
  have k : AfterOf s0 s.pending s.now s.freeNext s.regs s.ctrs s.tally s.timers [] s.out :=
    { h with kept := { h.kept with boot_le := by simp } }
  repeat' (first | exact k | split)

theorem after_setRegs {s : State} (h : After s0 s) (a : Nat) (ws : List Word) : After s0 (s.setRegs a ws) := by
  induction ws generalizing s a with
  | nil => exact h
  | cons w ws ih => exact ih (after_setReg h a w) _

theorem after_takeFree {s : State} (h : After s0 s) : After s0 s.takeFree.1 := { h with free_le := Nat.le_succ_of_le h.free_le }

theorem after_emit {s : State} (h : After s0 s) (x : Output) : After s0 (s.emit x) :=
  { h with sent := h.sent.trans (List.prefix_append _ _) }

theorem after_later {s : State} (h : After s0 s) (n : Nat) : After s0 (s.later n) :=
  { h with now_le := Nat.le_add_right_of_le h.now_le }

end Sys2Proof.Machine
end

