-- ==== Sys2Proof/Laws/AfterCore.lean ====
section
/-! SUPPORT. What a command may leave (After): the shared operations, time, the buffer, stripes, tables, the pass and its actions stay within it. -/

namespace Sys2Proof.Machine

variable {s0 : State}

/-! ### Of Machine/Ops.lean -/

theorem after_setF {s : State} (hI : After s0 s) (b : Nat) (f : Fld) (v : Nat) : After s0 (State.setF s b f v) := by
  simp only [State.setF]
  simp +contextual (maxDischargeDepth := 100) only [hI, after_setReg]

theorem after_setBit {s : State} (hI : After s0 s) (b : Nat) (f : Fld) (v : Bool) : After s0 (State.setBit s b f v)
    := by
  simp only [State.setBit]
  simp +contextual (maxDischargeDepth := 100) only [hI, after_setF]

theorem after_tallyAdd {s : State} (hI : After s0 s) (space idx : Nat) (n : Nat ) : After s0 (State.tallyAdd s space
    idx n) := by
  simp only [State.tallyAdd]
  simp +contextual (maxDischargeDepth := 100) only [hI, after_tallySet]

theorem after_onLive {s : State} (hI : After s0 s) (id : Nat) (f : State → State) (h_f : ∀ s : State, After s0 s →
    After s0 (f s)) : After s0 (State.onLive s id f) := by
  simp only [State.onLive]
  simp +contextual (maxDischargeDepth := 100) only [hI, h_f, after_ite]

theorem after_raise {s : State} (hI : After s0 s) (src isl inst : Nat) (fs : List (Nat × Nat)) : After s0
    (State.raise s src isl inst fs) := by
  simp only [State.raise]
  simp +contextual (maxDischargeDepth := 100) only [hI, after_raiseSev]

theorem after_raiseLim {s : State} (hI : After s0 s) (key period : Nat) (src isl inst : Nat) (fs : List (Nat × Nat))
    : After s0 (State.raiseLim s key period src isl inst fs) := by
  simp only [State.raiseLim]
  simp +contextual (maxDischargeDepth := 100) only [hI, after_raise, after_mk, after_eq, after_ite]

theorem after_raiseMs {s : State} (hI : After s0 s) (sub : Nat) (src isl inst : Nat) (fs : List (Nat × Nat)) : After
    s0 (State.raiseMs s sub src isl inst fs) := by
  simp only [State.raiseMs]
  simp +contextual (maxDischargeDepth := 100) only [hI, after_raiseLim]

theorem after_repLoad {s : State} (hI : After s0 s) (id n : Nat) : After s0 (State.repLoad s id n) := by
  simp only [State.repLoad]
  simp +contextual (maxDischargeDepth := 100) only [hI, after_mk, after_eq]

theorem after_repStart {s : State} (hI : After s0 s) (id : Nat) : After s0 (State.repStart s id) := by
  simp only [State.repStart]
  simp +contextual (maxDischargeDepth := 100) only [hI, after_repLoad, after_mk, after_eq, after_ite]

theorem after_setLive {s : State} (hI : After s0 s) (id : Nat) (v : Bool) : After s0 (State.setLive s id v) := by
  simp only [State.setLive]
  simp +contextual (maxDischargeDepth := 100) only [hI, after_flushBoot, after_raise, after_repStart, after_setBit,
    after_ite]

theorem after_setLives {s : State} (hI : After s0 s) (ids : List Nat) (v : Bool) : After s0 (State.setLives s ids v)
    := by
  simp only [State.setLives]
  simp +contextual (maxDischargeDepth := 100) only [hI, after_foldl, after_setLive, implies_true]

theorem after_pllBusy {s : State} (hI : After s0 s) (p : Nat) : After s0 (State.pllBusy s p) := by
  simp only [State.pllBusy]
  simp +contextual (maxDischargeDepth := 100) only [hI, after_setF, after_startTimer, after_mk, after_eq, after_ite]

theorem after_pllFree {s : State} (hI : After s0 s) (p : Nat) : After s0 (State.pllFree s p) := by
  simp only [State.pllFree]
  simp +contextual (maxDischargeDepth := 100) only [hI, after_setF, after_stopTimer, after_mk, after_eq, after_ite]

theorem after_countDiscard {s : State} (hI : After s0 s) : After s0 (State.countDiscard s) := by
  simp only [State.countDiscard]
  simp +contextual (maxDischargeDepth := 100) only [hI, after_setF]

theorem after_darkAccess {s : State} (hI : After s0 s) (a : Nat) (write : Bool) : After s0 (State.darkAccess s a
    write) := by
  simp only [State.darkAccess]
  simp +contextual (maxDischargeDepth := 100) only [hI, after_count, after_raise, after_setBit, after_setF]

theorem after_onWrite {s : State} (hI : After s0 s) (m : Master) (a : Nat) (act : State → State) (h_act : ∀ s :
    State, After s0 s → After s0 (act s)) : After s0 (State.onWrite s m a act) := by
  simp only [State.onWrite]
  simp +contextual (maxDischargeDepth := 100) only [hI, after_count, after_countDiscard, after_darkAccess,
    after_raiseMs, h_act, after_ite]

theorem after_store {s : State} (hI : After s0 s) (a v : Nat) : After s0 (State.store s a v) := by
  simp only [State.store]
  repeat' (first
    | (simp +contextual (maxDischargeDepth := 100) only [hI, after_countDiscard, after_raise, after_setReg,
        after_ite]; done)
    | split)

/-! ### Of Machine/Clock.lean -/

theorem after_pmcPut {s : State} (hI : After s0 s) (c v : Nat) : After s0 (State.pmcPut s c v) := by
  simp only [State.pmcPut]
  simp +contextual (maxDischargeDepth := 100) only [hI, after_setReg]

theorem after_pmcOverflow {s : State} (hI : After s0 s) (c : Nat) : After s0 (State.pmcOverflow s c) := by
  simp only [State.pmcOverflow]
  simp +contextual (maxDischargeDepth := 100) only [hI, after_raise, after_setF, after_ite]

theorem after_pmcAdd {s : State} (hI : After s0 s) (c n : Nat) : After s0 (State.pmcAdd s c n) := by
  simp only [State.pmcAdd]
  simp +contextual (maxDischargeDepth := 100) only [hI, after_pmcOverflow, after_pmcPut, after_ite]

theorem after_sampCount {s : State} (hI : After s0 s) (k ev inst n : Nat) : After s0 (State.sampCount s k ev inst n)
    := by
  simp only [State.sampCount]
  simp +contextual (maxDischargeDepth := 100) only [hI, after_mk, after_eq, after_ite]

theorem after_pmc {s : State} (hI : After s0 s) (ev inst : Nat) (n : Nat ) : After s0 (State.pmc s ev inst n) := by
  simp only [State.pmc]
  simp +contextual (maxDischargeDepth := 100) only [hI, after_foldl, after_pmcAdd, after_sampCount, implies_true]

theorem after_pmcTime {s : State} (hI : After s0 s) (n : Nat) : After s0 (State.pmcTime s n) := by
  simp only [State.pmcTime]
  simp +contextual (maxDischargeDepth := 100) only [hI, after_foldl, after_pmcAdd, after_ite, implies_true]

theorem after_gainCredit {s : State} (hI : After s0 s) (k n : Nat) : After s0 (State.gainCredit s k n) := by
  simp only [State.gainCredit]
  simp +contextual (maxDischargeDepth := 100) only [hI, after_setF, after_ite]

theorem after_elapse {s : State} (hI : After s0 s) (n : Nat) : After s0 (State.elapse s n) := by
  simp only [State.elapse]
  simp +contextual (maxDischargeDepth := 100) only [hI, after_gainCredit, after_later, after_pmcTime, after_mk,
    after_eq, after_ite]

theorem after_elapseTo {s : State} (hI : After s0 s) (t : Nat) : After s0 (State.elapseTo s t) := by
  simp only [State.elapseTo]
  simp +contextual (maxDischargeDepth := 100) only [hI, after_elapse, after_ite]

theorem after_expire {s : State} (hI : After s0 s) (id : Nat) (f : State → State) (h_f : ∀ s : State, After s0 s →
    After s0 (f s)) : After s0 (State.expire s id f) := by
  simp only [State.expire]
  simp +contextual (maxDischargeDepth := 100) only [hI, after_elapseTo, after_stopTimer, h_f, after_ite]

theorem after_reachTime {s : State} (hI : After s0 s) (t : Nat) : After s0 (State.reachTime s t) := by
  simp only [State.reachTime]
  simp +contextual (maxDischargeDepth := 100) only [hI, after_elapse, after_ite]

theorem after_spreadPanic {s : State} (hI : After s0 s) : After s0 (State.spreadPanic s) := by
  simp only [State.spreadPanic]
  simp +contextual (maxDischargeDepth := 100) only [hI, after_foldl, after_setF, after_ite, implies_true]

/-! ### Of Machine/Time.lean -/

theorem after_putTime {s : State} (hI : After s0 s) (a : Nat) (t : Nat) : After s0 (State.putTime s a t) := by
  simp only [State.putTime]
  simp +contextual (maxDischargeDepth := 100) only [hI, after_setRegs]

theorem after_putTheta {s : State} (hI : After s0 s) (th : Int) : After s0 (State.putTheta s th) := by
  simp only [State.putTheta]
  simp +contextual (maxDischargeDepth := 100) only [hI, after_setRegs]

theorem after_adjAccept {s : State} (hI : After s0 s) (op : Nat) (value : Int) (servo : Bool) : After s0
    (State.adjAccept s op value servo) := by
  simp only [State.adjAccept]
  simp +contextual (maxDischargeDepth := 100) only [hI, after_setF, after_mk, after_eq]

theorem after_adjSoftware {s : State} (hI : After s0 s) (op : Nat) (value : Int) : After s0 (State.adjSoftware s op
    value) := by
  simp only [State.adjSoftware]
  simp +contextual (maxDischargeDepth := 100) only [hI, after_adjAccept, after_setF, after_ite]

theorem after_servoUpdate {s : State} (hI : After s0 s) (op : Nat) (value : Int) : After s0 (State.servoUpdate s op
    value) := by
  simp only [State.servoUpdate]
  simp +contextual (maxDischargeDepth := 100) only [hI, after_adjAccept, after_count, after_mk, after_eq, after_ite]

theorem after_setAdj {s : State} (hI : After s0 s) (r : Int) : After s0 (State.setAdj s r) := by
  simp only [State.setAdj]
  simp +contextual (maxDischargeDepth := 100) only [hI, after_setF]

theorem after_ppsStep {s : State} (hI : After s0 s) (t0 t1 : Int) : After s0 (State.ppsStep s t0 t1) := by
  simp only [State.ppsStep]
  simp +contextual (maxDischargeDepth := 100) only [hI, after_mk, after_eq]

theorem after_adjDone {s : State} (hI : After s0 s) (c : AdjCmd) : After s0 (State.adjDone s c) := by
  simp only [State.adjDone]
  simp +contextual (maxDischargeDepth := 100) only [hI, after_ppsStep, after_raise, after_setAdj, after_setF,
    after_mk, after_eq, after_ite]

theorem after_adjNext {s : State} (hI : After s0 s) : After s0 (State.adjNext s) := by
  simp only [State.adjNext]
  repeat' (first
    | (simp +contextual (maxDischargeDepth := 100) only [hI, after_servoUpdate, after_mk, after_eq]; done)
    | split)

theorem after_adjApply {s : State} (hI : After s0 s) : After s0 (State.adjApply s) := by
  simp only [State.adjApply]
  repeat' (first
    | (simp +contextual (maxDischargeDepth := 100) only [hI, after_adjDone, after_adjNext, after_elapse, after_ite];
        done)
    | split)

theorem after_servoGo {s : State} (hI : After s0 s) (new : Nat) : After s0 (State.servoGo s new) := by
  simp only [State.servoGo]
  simp +contextual (maxDischargeDepth := 100) only [hI, after_raise, after_setF, after_takeFree, after_ite]

theorem after_setServoI {s : State} (hI : After s0 s) (x : Int) : After s0 (State.setServoI s x) := by
  simp only [State.setServoI]
  simp +contextual (maxDischargeDepth := 100) only [hI, after_setF]

theorem after_traceRec {s : State} (hI : After s0 s) (typ : Nat) (theta : Int) : After s0 (State.traceRec s typ
    theta) := by
  simp only [State.traceRec]
  simp +contextual (maxDischargeDepth := 100) only [hI, after_setF, after_spreadPanic, after_mk, after_eq, after_ite]

theorem after_dpllMeasure {s : State} (hI : After s0 s) : After s0 (State.dpllMeasure s) := by
  simp only [State.dpllMeasure]
  simp +contextual (maxDischargeDepth := 100) only [hI, after_setF, after_takeFree, after_mk, after_eq]

theorem after_followDpll {s : State} (hI : After s0 s) : After s0 (State.followDpll s) := by
  simp only [State.followDpll]
  simp +contextual (maxDischargeDepth := 100) only [hI, after_dpllMeasure, after_servoUpdate, after_ite]

theorem after_servoRate {s : State} (hI : After s0 s) (theta : Int) (locked : Bool) : After s0 (State.servoRate s
    theta locked) := by
  simp only [State.servoRate]
  repeat' (first
    | (simp +contextual (maxDischargeDepth := 100) only [hI, after_dpllMeasure, after_servoUpdate, after_setServoI,
        after_ite]; done)
    | split)

theorem after_servoStep {s : State} (hI : After s0 s) (theta : Int) : After s0 (State.servoStep s theta) := by
  simp only [State.servoStep]
  simp +contextual (maxDischargeDepth := 100) only [hI, after_count, after_raise, after_servoUpdate, after_traceRec]

theorem after_sampleApplied {s : State} (hI : After s0 s) (theta : Int) : After s0 (State.sampleApplied s theta) := by
  simp only [State.sampleApplied]
  simp +contextual (maxDischargeDepth := 100) only [hI, after_count, after_setF, after_startTimer, after_traceRec,
    after_mk, after_eq]

theorem after_stepSample {s : State} (hI : After s0 s) (theta : Int) : After s0 (State.stepSample s theta) := by
  simp only [State.stepSample]
  simp +contextual (maxDischargeDepth := 100) only [hI, after_count, after_sampleApplied, after_servoStep, after_ite]

theorem after_acquireSample {s : State} (hI : After s0 s) (theta : Int) : After s0 (State.acquireSample s theta) := by
  simp only [State.acquireSample]
  simp +contextual (maxDischargeDepth := 100) only [hI, after_sampleApplied, after_servoGo, after_servoRate,
    after_stepSample, after_mk, after_eq, after_ite]

theorem after_waitSample {s : State} (hI : After s0 s) (theta : Int) : After s0 (State.waitSample s theta) := by
  simp only [State.waitSample]
  simp +contextual (maxDischargeDepth := 100) only [hI, after_sampleApplied, after_servoGo, after_stepSample,
    after_stopTimer, after_mk, after_eq, after_ite]

theorem after_lockedSample {s : State} (hI : After s0 s) (theta : Int) : After s0 (State.lockedSample s theta) := by
  simp only [State.lockedSample]
  simp +contextual (maxDischargeDepth := 100) only [hI, after_acquireSample, after_count, after_sampleApplied,
    after_servoGo, after_servoRate, after_mk, after_eq, after_ite]

theorem after_servoSample {s : State} (hI : After s0 s) (theta : Int) : After s0 (State.servoSample s theta) := by
  simp only [State.servoSample]
  simp +contextual (maxDischargeDepth := 100) only [hI, after_acquireSample, after_lockedSample, after_waitSample,
    after_ite]

theorem after_offerSample {s : State} (hI : After s0 s) (src : Nat) (theta : Int) : After s0 (State.offerSample s src
    theta) := by
  simp only [State.offerSample]
  simp +contextual (maxDischargeDepth := 100) only [hI, after_mk, after_eq, after_ite]

theorem after_servoHold {s : State} (hI : After s0 s) (cause : Nat) : After s0 (State.servoHold s cause) := by
  simp only [State.servoHold]
  simp +contextual (maxDischargeDepth := 100) only [hI, after_count, after_followDpll, after_servoGo,
    after_startTimer, after_stopTimer, after_mk, after_eq, after_ite]

theorem after_servoChannelFault {s : State} (hI : After s0 s) (ch : Nat) : After s0 (State.servoChannelFault s ch) :=
    by
  simp only [State.servoChannelFault]
  simp +contextual (maxDischargeDepth := 100) only [hI, after_servoHold, after_ite]

theorem after_setTsQueue {s : State} (hI : After s0 s) (p : Nat) (q : List TsEntry) : After s0 (State.setTsQueue s p
    q) := by
  simp only [State.setTsQueue]
  repeat' (first
    | (simp +contextual (maxDischargeDepth := 100) only [hI, after_setF, after_setRegs, after_mk, after_eq]; done)
    | split)

theorem after_queueStamp {s : State} (hI : After s0 s) (p : Nat) (e : TsEntry) : After s0 (State.queueStamp s p e) :=
    by
  simp only [State.queueStamp]
  simp +contextual (maxDischargeDepth := 100) only [hI, after_count, after_raiseMs, after_setTsQueue, after_ite]

theorem after_synceGo {s : State} (hI : After s0 s) (new : Nat) : After s0 (State.synceGo s new) := by
  simp only [State.synceGo]
  simp +contextual (maxDischargeDepth := 100) only [hI, after_raise, after_setF, after_ite]

theorem after_showTod {s : State} (hI : After s0 s) : After s0 (State.showTod s) := by
  simp only [State.showTod]
  repeat' (first
    | (simp +contextual (maxDischargeDepth := 100) only [hI, after_setF]; done)
    | split)

theorem after_wrAdjCmd {s : State} (hI : After s0 s) (v : Nat) : After s0 (State.wrAdjCmd s v) := by
  simp only [State.wrAdjCmd]
  simp +contextual (maxDischargeDepth := 100) only [hI, after_adjSoftware, after_setF, after_ite]

theorem after_wrSnapCtrl {s : State} (hI : After s0 s) (v : Nat) : After s0 (State.wrSnapCtrl s v) := by
  simp only [State.wrSnapCtrl]
  simp +contextual (maxDischargeDepth := 100) only [hI, after_putTime, after_setRegs, after_ite]

theorem after_repFail {s : State} (hI : After s0 s) (i n : Nat) : After s0 (State.repFail s i n) := by
  simp only [State.repFail]
  simp +contextual (maxDischargeDepth := 100) only [hI, after_count, after_raise, after_repLoad]

theorem after_repWord {s : State} (hI : After s0 s) (i : Nat) (crcOk agree : Bool) : After s0 (State.repWord s i
    crcOk agree) := by
  simp only [State.repWord]
  simp +contextual (maxDischargeDepth := 100) only [hI, after_repFail, after_repLoad, after_mk, after_eq, after_ite]

theorem after_wrServoSample {s : State} (hI : After s0 s) (v : Nat) : After s0 (State.wrServoSample s v) := by
  simp only [State.wrServoSample]
  simp +contextual (maxDischargeDepth := 100) only [hI, after_count, after_offerSample, after_setF, after_ite]

theorem after_wrSrcCfg {s : State} (hI : After s0 s) (v : Nat) : After s0 (State.wrSrcCfg s v) := by
  simp only [State.wrSrcCfg]
  simp +contextual (maxDischargeDepth := 100) only [hI, after_servoGo, after_stopTimer, after_store, after_mk,
    after_eq, after_ite]

theorem after_wrServoCfg {s : State} (hI : After s0 s) (v : Nat) : After s0 (State.wrServoCfg s v) := by
  simp only [State.wrServoCfg]
  simp +contextual (maxDischargeDepth := 100) only [hI, after_followDpll, after_store, after_ite]

theorem after_wrTsCtrl {s : State} (hI : After s0 s) (p v : Nat) : After s0 (State.wrTsCtrl s p v) := by
  simp only [State.wrTsCtrl]
  simp +contextual (maxDischargeDepth := 100) only [hI, after_setTsQueue, after_ite]

theorem after_wrPtodCtrl {s : State} (hI : After s0 s) (v : Nat) : After s0 (State.wrPtodCtrl s v) := by
  simp only [State.wrPtodCtrl]
  simp +contextual (maxDischargeDepth := 100) only [hI, after_count, after_raise, after_setF, after_setRegs,
    after_mk, after_eq, after_ite]

theorem after_synceFail {s : State} (hI : After s0 s) (why : SynceFault) : After s0 (State.synceFail s why) := by
  simp only [State.synceFail]
  simp +contextual (maxDischargeDepth := 100) only [hI, after_raise, after_startTimer, after_synceGo, after_mk,
    after_eq]

theorem after_wrSynceCfg {s : State} (hI : After s0 s) (v : Nat) (inputGood : Bool) : After s0 (State.wrSynceCfg s v
    inputGood) := by
  simp only [State.wrSynceCfg]
  simp +contextual (maxDischargeDepth := 100) only [hI, after_stopTimer, after_store, after_synceFail, after_synceGo,
    after_mk, after_eq, after_ite]

theorem after_showSynceOut {s : State} (hI : After s0 s) : After s0 (State.showSynceOut s) := by
  simp only [State.showSynceOut]
  simp +contextual (maxDischargeDepth := 100) only [hI, after_mk, after_eq]

theorem after_setPpsOk {s : State} (hI : After s0 s) (v : Bool) : After s0 (State.setPpsOk s v) := by
  simp only [State.setPpsOk]
  simp +contextual (maxDischargeDepth := 100) only [hI, after_raise, after_setBit, after_ite]

theorem after_wrPpsInCfg {s : State} (hI : After s0 s) (v : Nat) : After s0 (State.wrPpsInCfg s v) := by
  simp only [State.wrPpsInCfg]
  simp +contextual (maxDischargeDepth := 100) only [hI, after_store, after_mk, after_eq, after_ite]

theorem after_wrPpsOutCfg {s : State} (hI : After s0 s) (v : Nat) : After s0 (State.wrPpsOutCfg s v) := by
  simp only [State.wrPpsOutCfg]
  simp +contextual (maxDischargeDepth := 100) only [hI, after_store, after_mk, after_eq, after_ite]

theorem after_todArm {s : State} (hI : After s0 s) : After s0 (State.todArm s) := by
  simp only [State.todArm]
  simp +contextual (maxDischargeDepth := 100) only [hI, after_mk, after_eq, after_ite]

theorem after_wrTodTx {s : State} (hI : After s0 s) (v : Nat) : After s0 (State.wrTodTx s v) := by
  simp only [State.wrTodTx]
  simp +contextual (maxDischargeDepth := 100) only [hI, after_showTod, after_mk, after_eq, after_ite]

theorem after_todSend {s : State} (hI : After s0 s) (k : Nat) : After s0 (State.todSend s k) := by
  simp only [State.todSend]
  simp +contextual (maxDischargeDepth := 100) only [hI, after_emit, after_showTod, after_mk, after_eq]

theorem after_wrTodRx {s : State} (hI : After s0 s) (v : Nat) : After s0 (State.wrTodRx s v) := by
  simp only [State.wrTodRx]
  simp +contextual (maxDischargeDepth := 100) only [hI, after_showTod, after_mk, after_eq, after_ite]

/-! ### Of Machine/Buffer.lean -/

theorem after_setPoolOcc {s : State} (hI : After s0 s) (p v : Nat) : After s0 (State.setPoolOcc s p v) := by
  simp only [State.setPoolOcc]
  simp +contextual (maxDischargeDepth := 100) only [hI, after_setF]

theorem after_pfcSet {s : State} (hI : After s0 s) (n tc v : Nat) : After s0 (State.pfcSet s n tc v) := by
  simp only [State.pfcSet]
  simp +contextual (maxDischargeDepth := 100) only [hI, after_raiseMs, after_mk, after_eq, after_ite]

theorem after_storePkt {s : State} (hI : After s0 s) (p : Packet) : After s0 (State.storePkt s p).1 := by
  simp only [State.storePkt]
  simp +contextual (maxDischargeDepth := 100) only [hI, after_pfcSet, after_setF, after_setPoolOcc, after_mk,
    after_eq, after_ite]

theorem after_unref {s : State} (hI : After s0 s) (p : Packet) : After s0 (State.unref s p) := by
  simp only [State.unref]
  simp +contextual (maxDischargeDepth := 100) only [hI, after_pfcSet, after_setF, after_mk, after_eq, after_ite]

theorem after_recell {s : State} (hI : After s0 s) (p : Packet) : After s0 (State.recell s p).1 := by
  simp only [State.recell]
  simp +contextual (maxDischargeDepth := 100) only [hI, after_pfcSet, after_setF, after_setPoolOcc, after_ite,
    after_ite_fst]

theorem after_leaveTransit {s : State} (hI : After s0 s) (p : Packet) : After s0 (State.leaveTransit s p) := by
  simp only [State.leaveTransit]
  simp +contextual (maxDischargeDepth := 100) only [hI, after_setPoolOcc]

theorem after_setInflight {s : State} (hI : After s0 s) (e v : Nat) : After s0 (State.setInflight s e v) := by
  simp only [State.setInflight]
  simp +contextual (maxDischargeDepth := 100) only [hI, after_setF, after_mk, after_eq, after_ite]

theorem after_land {s : State} (hI : After s0 s) (p : Packet) : After s0 (State.land s p) := by
  simp only [State.land]
  simp +contextual (maxDischargeDepth := 100) only [hI, after_setInflight, after_ite]

theorem after_discardPkt {s : State} (hI : After s0 s) (p : Packet) : After s0 (State.discardPkt s p) := by
  simp only [State.discardPkt]
  simp +contextual (maxDischargeDepth := 100) only [hI, after_land, after_leaveTransit, after_unref]

theorem after_xingDrop {s : State} (hI : After s0 s) (p : Packet) : After s0 (State.xingDrop s p) := by
  simp only [State.xingDrop]
  simp +contextual (maxDischargeDepth := 100) only [hI, after_count, after_discardPkt]

theorem after_toTmg {s : State} (hI : After s0 s) (p : Packet) : After s0 (State.toTmg s p) := by
  simp only [State.toTmg]
  simp +contextual (maxDischargeDepth := 100) only [hI, after_land, after_xingDrop, after_mk, after_eq, after_ite]

theorem after_dropCore {s : State} (hI : After s0 s) (k : Nat) (p : Packet) (reason : Nat) : After s0 (State.dropCore
    s k p reason) := by
  simp only [State.dropCore]
  simp +contextual (maxDischargeDepth := 100) only [hI, after_count, after_discardPkt, after_pmc, after_tallyAdd]

theorem after_rateShort {s : State} (hI : After s0 s) (src : Nat) : After s0 (State.rateShort s src) := by
  simp only [State.rateShort]
  simp +contextual (maxDischargeDepth := 100) only [hI, after_raiseMs, after_setF]

/-! ### Of Machine/Stripe.lean -/

theorem after_showLevel {s : State} (hI : After s0 s) (l : Nat) : After s0 (State.showLevel s l) := by
  simp only [State.showLevel]
  simp +contextual (maxDischargeDepth := 100) only [hI, after_raise, after_setF, after_mk, after_eq, after_ite]

theorem after_showTlr {s : State} (hI : After s0 s) : After s0 (State.showTlr s) := by
  simp only [State.showTlr]
  simp +contextual (maxDischargeDepth := 100) only [hI, after_setF]

theorem after_setItems {s : State} (hI : After s0 s) (l : List Item) : After s0 (State.setItems s l) := by
  simp only [State.setItems]
  simp +contextual (maxDischargeDepth := 100) only [hI, after_mk, after_eq]

theorem after_setDomain {s : State} (hI : After s0 s) (d : Nat) (l : List (Option Nat)) : After s0 (State.setDomain s
    d l) := by
  simp only [State.setDomain]
  simp +contextual (maxDischargeDepth := 100) only [hI, after_mk, after_eq]

theorem after_giveOr {s : State} (hI : After s0 s) (k : Nat) (p : Packet) (refused : State → State) (h_refused : ∀ s
    : State, After s0 s → After s0 (refused s)) : After s0 (State.giveOr s k p refused) := by
  simp only [State.giveOr]
  repeat' (first
    | (simp +contextual (maxDischargeDepth := 100) only [hI, after_count, after_pmc, after_raiseMs, after_setDomain,
        after_setItems, after_showLevel, after_showTlr, after_takeFree, after_xingDrop, h_refused, after_ite]; done)
    | split)

theorem after_setStripe {s : State} (hI : After s0 s) (x : Nat) (c : StripeCtx) : After s0 (State.setStripe s x c) :=
    by
  simp only [State.setStripe]
  simp +contextual (maxDischargeDepth := 100) only [hI, after_setF, after_mk, after_eq]

theorem after_stripeCount {s : State} (hI : After s0 s) (x c : Nat) (n : Nat ) : After s0 (State.stripeCount s x c n)
    := by
  simp only [State.stripeCount]
  simp +contextual (maxDischargeDepth := 100) only [hI, after_tallyAdd]

theorem after_leaveWindow {s : State} (hI : After s0 s) (p : Packet) : After s0 (State.leaveWindow s p) := by
  simp only [State.leaveWindow]
  simp +contextual (maxDischargeDepth := 100) only [hI, after_dropCore, after_giveOr, after_toTmg, after_ite,
    implies_true]

theorem after_releaseHeld {s : State} (hI : After s0 s) (x : Nat) (h : Held) : After s0 (State.releaseHeld s x h) :=
    by
  simp only [State.releaseHeld]
  repeat' (first
    | (simp +contextual (maxDischargeDepth := 100) only [hI, after_leaveWindow, after_stripeCount]; done)
    | split)

theorem after_settle {s : State} (hI : After s0 s) (x span cause : Nat) : After s0 (State.settle s x span cause) := by
  simp only [State.settle]
  simp +contextual (maxDischargeDepth := 100) only [hI, after_foldl, after_raiseMs, after_releaseHeld,
    after_setStripe, after_stripeCount, after_ite, implies_true]

theorem after_runStripe {s : State} (h : After s0 s) (x n : Nat) : After s0 (s.runStripe x n) := by
  induction n generalizing s with
  | zero => exact h
  | succ n ih =>
    simp only [State.runStripe]
    split
    · exact h
    · simp +contextual (maxDischargeDepth := 100) only [h, ih, after_setStripe, after_releaseHeld, after_mk, after_eq, after_ite, after_ite_fst, after_foldl, after_foldl_fst, implies_true]

theorem after_settleOnce {s : State} (hI : After s0 s) (x cause : Nat) : After s0 (State.settleOnce s x cause) := by
  simp only [State.settleOnce]
  repeat' (first
    | (simp +contextual (maxDischargeDepth := 100) only [hI, after_runStripe, after_settle]; done)
    | split)

theorem after_settleAll {s : State} (hI : After s0 s) (x cause : Nat) : After s0 (State.settleAll s x cause) := by
  simp only [State.settleAll]
  simp +contextual (maxDischargeDepth := 100) only [hI, after_settle]

theorem after_settleEvery {s : State} (hI : After s0 s) (cause : Nat) : After s0 (State.settleEvery s cause) := by
  simp only [State.settleEvery]
  simp +contextual (maxDischargeDepth := 100) only [hI, after_foldl, after_settleOnce, implies_true]

theorem after_dropHeld {s : State} (hI : After s0 s) (h : Held) : After s0 (State.dropHeld s h) := by
  simp only [State.dropHeld]
  repeat' (first
    | (simp +contextual (maxDischargeDepth := 100) only [hI, after_discardPkt]; done)
    | split)

theorem after_holdEntry {s : State} (hI : After s0 s) (x : Nat) (h : Held) : After s0 (State.holdEntry s x h) := by
  simp only [State.holdEntry]
  simp +contextual (maxDischargeDepth := 100) only [hI, after_dropHeld, after_raiseMs, after_setF, after_setStripe,
    after_stripeCount, after_ite]

theorem after_placeEntry {s : State} (hI : After s0 s) (x : Nat) (h : Held) : After s0 (State.placeEntry s x h) := by
  simp only [State.placeEntry]
  simp +contextual (maxDischargeDepth := 100) only [hI, after_dropHeld, after_holdEntry, after_releaseHeld,
    after_runStripe, after_setStripe, after_stripeCount, after_ite]

theorem after_pushOut {s : State} (hI : After s0 s) (x seq : Nat) : After s0 (State.pushOut s x seq) := by
  simp only [State.pushOut]
  simp +contextual (maxDischargeDepth := 100) only [hI, after_runStripe, after_settle, after_ite]

theorem after_stripeArrive {s : State} (hI : After s0 s) (x : Nat) (h : Held) (rst : Bool) : After s0
    (State.stripeArrive s x h rst) := by
  simp only [State.stripeArrive]
  repeat' (first
    | (simp +contextual (maxDischargeDepth := 100) only [hI, after_placeEntry, after_pushOut, after_raise,
        after_releaseHeld, after_setStripe, after_settleAll, after_settleOnce, after_stripeCount, after_ite]; done)
    | split)

theorem after_noCtx {s : State} (hI : After s0 s) (sf : Nat) : After s0 (State.noCtx s sf) := by
  simp only [State.noCtx]
  simp +contextual (maxDischargeDepth := 100) only [hI, after_raiseMs, after_setF, after_tallyAdd]

theorem after_skipMarker {s : State} (hI : After s0 s) (sf seq : Nat) : After s0 (State.skipMarker s sf seq) := by
  simp only [State.skipMarker]
  repeat' (first
    | (simp +contextual (maxDischargeDepth := 100) only [hI, after_noCtx, after_stripeArrive]; done)
    | split)

theorem after_dropPkt {s : State} (hI : After s0 s) (k : Nat) (p : Packet) (reason : Nat) : After s0 (State.dropPkt s
    k p reason) := by
  simp only [State.dropPkt]
  simp +contextual (maxDischargeDepth := 100) only [hI, after_dropCore, after_skipMarker, after_ite]

theorem after_leavePipe {s : State} (hI : After s0 s) (p : Packet) : After s0 (State.leavePipe s p) := by
  simp only [State.leavePipe]
  repeat' (first
    | (simp +contextual (maxDischargeDepth := 100) only [hI, after_leaveWindow, after_noCtx, after_stripeArrive,
        after_stripeCount, after_ite]; done)
    | split)

theorem after_recircPkt {s : State} (hI : After s0 s) (p : Packet) : After s0 (State.recircPkt s p) := by
  simp only [State.recircPkt]
  simp +contextual (maxDischargeDepth := 100) only [hI, after_count, after_dropPkt, after_raiseMs, after_mk,
    after_eq, after_ite]

theorem after_stripeWrite {s : State} (hI : After s0 s) (x sf : Nat) (valid : Bool) : After s0 (State.stripeWrite s x
    sf valid) := by
  simp only [State.stripeWrite]
  simp +contextual (maxDischargeDepth := 100) only [hI, after_setF, after_setStripe, after_settleAll, after_mk,
    after_eq, after_ite]

theorem after_wrStripeCmd {s : State} (hI : After s0 s) (v : Nat) : After s0 (State.wrStripeCmd s v) := by
  simp only [State.wrStripeCmd]
  simp +contextual (maxDischargeDepth := 100) only [hI, after_setF, after_setReg, after_setStripe, after_settleAll,
    after_settleOnce, after_stripeWrite, after_ite]

/-! ### Of Machine/Tables.lean -/

theorem after_learnCnt {s : State} (hI : After s0 s) (src : Option Nat) (up : Bool) : After s0 (State.learnCnt s src
    up) := by
  simp only [State.learnCnt]
  repeat' (first
    | (simp +contextual (maxDischargeDepth := 100) only [hI, after_setF, after_ite]; done)
    | split)

theorem after_setEnt {s : State} (hI : After s0 s) (t i e : Nat) : After s0 (State.setEnt s t i e) := by
  simp only [State.setEnt]
  simp +contextual (maxDischargeDepth := 100) only [hI, after_learnCnt, after_mk, after_eq, after_ite]

theorem after_placeEnt {s : State} (hI : After s0 s) (t e : Nat) : After s0 (State.placeEnt s t e).1 := by
  simp only [State.placeEnt]
  simp +contextual (maxDischargeDepth := 100) only [hI, after_takeFree, after_ite_fst]

theorem after_placeAt {s : State} (hI : After s0 s) (t i e : Nat) : After s0 (State.placeAt s t i e) := by
  simp only [State.placeAt]
  simp +contextual (maxDischargeDepth := 100) only [hI, after_setEnt, after_tallySet]

theorem after_stripeSet {s : State} (hI : After s0 s) (t i e : Nat) : After s0 (State.stripeSet s t i e) := by
  simp only [State.stripeSet]
  simp +contextual (maxDischargeDepth := 100) only [hI, after_mk, after_eq, after_ite]

theorem after_softWins {s : State} (hI : After s0 s) (t e : Nat) : After s0 (State.softWins s t e) := by
  simp only [State.softWins]
  simp +contextual (maxDischargeDepth := 100) only [hI, after_foldl, after_setEnt, after_mk, after_eq, after_ite,
    implies_true]

theorem after_insertEnt {s : State} (h : After s0 s) (t e0 : Nat) : After s0 (s.insertEnt t e0).1 := by
  simp only [State.insertEnt]
  repeat' split
  all_goals try exact h
  all_goals
    next e =>
      have k := after_placeEnt (after_softWins h t (setBits e0 (validBit t) (validBit t) 1)) t (setBits e0 (validBit t) (validBit t) 1)
      rw [e] at k
      simp +contextual (maxDischargeDepth := 100) only [k, after_placeAt, after_mk, after_eq, after_ite, after_ite_fst, after_foldl, after_foldl_fst, implies_true]

theorem after_putTblData {s : State} (hI : After s0 s) (t e : Nat) : After s0 (State.putTblData s t e) := by
  simp only [State.putTblData]
  simp +contextual (maxDischargeDepth := 100) only [hI, after_setRegs]

theorem after_tblCause {s : State} (hI : After s0 s) (c : Nat) : After s0 (State.tblCause s c) := by
  simp only [State.tblCause]
  simp +contextual (maxDischargeDepth := 100) only [hI, after_setF]

theorem after_tblOp {s : State} (h : After s0 s) (op t i : Nat) : After s0 (s.tblOp op t i) := by
  have k := after_insertEnt h t (s.tblData t)
  simp only [State.tblOp]
  repeat' (first
    | (simp +contextual (maxDischargeDepth := 100) only [h, after_tblCause, after_putTblData, after_softWins, after_stripeSet, after_placeAt, after_setEnt, after_setF, after_mk, after_eq, after_ite, after_ite_fst, after_foldl, after_foldl_fst, implies_true]; done)
    | split)
  all_goals
    next e =>
      rw [e] at k
      simp +contextual (maxDischargeDepth := 100) only [k, after_tblCause, after_setF, after_mk, after_eq, after_ite, after_ite_fst, after_foldl, after_foldl_fst, implies_true]

theorem after_wrTblCmd {s : State} (hI : After s0 s) (v : Nat) : After s0 (State.wrTblCmd s v) := by
  simp only [State.wrTblCmd]
  simp +contextual (maxDischargeDepth := 100) only [hI, after_setF, after_tblCause, after_tblOp, after_ite]

theorem after_setNode {s : State} (hI : After s0 s) (k bank node v : Nat) : After s0 (State.setNode s k bank node v)
    := by
  simp only [State.setNode]
  simp +contextual (maxDischargeDepth := 100) only [hI, after_mk, after_eq]

theorem after_wrRefused {s : State} (hI : After s0 s) (k : Nat) : After s0 (State.wrRefused s k) := by
  simp only [State.wrRefused]
  simp +contextual (maxDischargeDepth := 100) only [hI, after_count, after_setF]

theorem after_wrPgCmd {s : State} (hI : After s0 s) (k v : Nat) : After s0 (State.wrPgCmd s k v) := by
  simp only [State.wrPgCmd]
  simp +contextual (maxDischargeDepth := 100) only [hI, after_setF, after_setNode, after_setRegs, after_wrRefused,
    after_ite]

theorem after_learnRefused {s : State} (hI : After s0 s) (src cause : Nat) : After s0 (State.learnRefused s src
    cause) := by
  simp only [State.learnRefused]
  simp +contextual (maxDischargeDepth := 100) only [hI, after_raiseMs]

theorem after_noteHit {s : State} (hI : After s0 s) (t i : Nat) : After s0 (State.noteHit s t i) := by
  simp only [State.noteHit]
  simp +contextual (maxDischargeDepth := 100) only [hI, after_mk, after_eq]

theorem after_learnHit {s : State} (hI : After s0 s) (i src dest : Nat) : After s0 (State.learnHit s i src dest) := by
  simp only [State.learnHit]
  simp +contextual (maxDischargeDepth := 100) only [hI, after_count, after_raiseMs, after_setEnt, after_ite]

theorem after_learn {s : State} (hI : After s0 s) (fid mac src sf : Nat) (hit : Option Nat) : After s0 (State.learn s
    fid mac src sf hit) := by
  simp only [State.learn]
  repeat' (first
    | (simp +contextual (maxDischargeDepth := 100) only [hI, after_count, after_learnHit, after_learnRefused,
        after_mk, after_eq, after_ite]; done)
    | split)

theorem after_entryEcc {s : State} (hI : After s0 s) (ecc : EccOutcome) (t i bank : Nat) : After s0 (State.entryEcc s
    ecc t i bank) := by
  simp only [State.entryEcc]
  repeat' (first
    | (simp +contextual (maxDischargeDepth := 100) only [hI, after_count, after_raise, after_raiseMs, after_setEnt];
        done)
    | split)

theorem after_ageEntry {s : State} (hI : After s0 s) (t i : Nat) : After s0 (State.ageEntry s t i) := by
  simp only [State.ageEntry]
  simp +contextual (maxDischargeDepth := 100) only [hI, after_count, after_raise, after_setEnt, after_ite]

/-! ### Of Machine/Parse.lean -/

theorem after_csumResults {s : State} (hI : After s0 s) (p : Packet) : After s0 (State.csumResults s p).1 := by
  simp only [State.csumResults]
  simp +contextual (maxDischargeDepth := 100) only [hI, after_count, after_ite, after_ite_fst]

theorem after_checkBank {s : State} (hI : After s0 s) (k b : Nat) : After s0 (State.checkBank s k b) := by
  simp only [State.checkBank]
  simp +contextual (maxDischargeDepth := 100) only [hI, after_foldl, after_raise, after_setF, implies_true]

theorem after_runStage {s : State} (hI : After s0 s) (k st : Nat) (p : Packet) : After s0 (State.runStage s k st p).1
    := by
  simp only [State.runStage]
  repeat' (first
    | (simp +contextual (maxDischargeDepth := 100) only [hI, after_count, after_learn, after_noteHit, after_pmc,
        after_setEnt, after_tallyAdd, after_ite]; done)
    | split)

theorem after_stageEcc {s : State} (hI : After s0 s) (k st : Nat) (p : Packet) (ecc : Option EccRead) (fault : State
    → State) (h_fault : ∀ s : State, After s0 s → After s0 (fault s)) : After s0 (State.stageEcc s k st p ecc fault)
    := by
  simp only [State.stageEcc]
  repeat' (first
    | (simp +contextual (maxDischargeDepth := 100) only [hI, after_entryEcc, h_fault, after_ite]; done)
    | split)

theorem after_runChain {s : State} (hI : After s0 s) (k : Nat) (p : Packet) (ecc : Option EccRead) (fault : State →
    State) (h_fault : ∀ s : State, After s0 s → After s0 (fault s)) : After s0 (State.runChain s k p ecc fault).1 :=
    by
  simp only [State.runChain]
  simp +contextual (maxDischargeDepth := 100) only [hI, after_runStage, after_stageEcc, h_fault, after_foldl_fst,
    implies_true]

theorem after_flipEpoch {s : State} (hI : After s0 s) : After s0 (State.flipEpoch s) := by
  simp only [State.flipEpoch]
  simp +contextual (maxDischargeDepth := 100) only [hI, after_checkBank, after_setF, after_startTimer]

theorem after_wrEpoch {s : State} (hI : After s0 s) (v : Nat) : After s0 (State.wrEpoch s v) := by
  simp only [State.wrEpoch]
  simp +contextual (maxDischargeDepth := 100) only [hI, after_count, after_flipEpoch, after_setF, after_ite]

theorem after_setPipe {s : State} (hI : After s0 s) (k : Nat) (q : PipeState) : After s0 (State.setPipe s k q) := by
  simp only [State.setPipe]
  simp +contextual (maxDischargeDepth := 100) only [hI, after_mk, after_eq]

theorem after_capHit {s : State} (hI : After s0 s) (k : Nat) : After s0 (State.capHit s k) := by
  simp only [State.capHit]
  simp +contextual (maxDischargeDepth := 100) only [hI, after_raiseMs, after_setF, after_ite]

theorem after_takeSlot {s : State} (hI : After s0 s) (k : Nat) (c : Slot) : After s0 (State.takeSlot s k c).1 := by
  simp only [State.takeSlot]
  repeat' (first
    | (simp +contextual (maxDischargeDepth := 100) only [hI, after_pmc, after_setF, after_setPipe]; done)
    | split)

theorem after_enterPass {s : State} (hI : After s0 s) (p : Packet) (first : Bool) : After s0 (State.enterPass s p
    first).1 := by
  simp only [State.enterPass]
  simp +contextual (maxDischargeDepth := 100) only [hI, after_setInflight, after_ite_fst]

theorem after_parsePass {s : State} (hI : After s0 s) (k : Nat) (p : Packet) (first : Bool) (w : Walk) : After s0
    (State.parsePass s k p first w).1 := by
  simp only [State.parsePass]
  simp +contextual (maxDischargeDepth := 100) only [hI, after_count, after_csumResults, after_storePkt, after_ite,
    after_ite_fst]

theorem after_chainPass {s : State} (hI : After s0 s) (k : Nat) (p : Packet) (ecc : Option EccRead) (fault : State →
    State) (h_fault : ∀ s : State, After s0 s → After s0 (fault s)) : After s0 (State.chainPass s k p ecc fault) := by
  simp only [State.chainPass]
  simp +contextual (maxDischargeDepth := 100) only [hI, after_runChain, after_setPipe, h_fault, implies_true]

theorem after_passOn {s : State} (hI : After s0 s) (k : Nat) (p : Packet) (err : Option Nat) (ecc : Option EccRead)
    (fault : State → State) (h_fault : ∀ s : State, After s0 s → After s0 (fault s)) : After s0 (State.passOn s k p
    err ecc fault) := by
  simp only [State.passOn]
  repeat' (first
    | (simp +contextual (maxDischargeDepth := 100) only [hI, after_chainPass, after_count, after_dropPkt,
        after_raiseMs, h_fault, after_ite, implies_true]; done)
    | split)

theorem after_runPass {s : State} (hI : After s0 s) (k : Nat) (p : Packet) (first : Bool) (ecc : Option EccRead)
    (fault : State → State) (h_fault : ∀ s : State, After s0 s → After s0 (fault s)) : After s0 (State.runPass s k p
    first ecc fault) := by
  simp only [State.runPass]
  simp +contextual (maxDischargeDepth := 100) only [hI, after_count, after_enterPass, after_parsePass, after_passOn,
    h_fault, implies_true]

/-! ### Of Machine/Purse.lean -/

theorem after_setPurse {s : State} (hI : After s0 s) (i : Nat) (p : Purse) : After s0 (State.setPurse s i p) := by
  simp only [State.setPurse]
  simp +contextual (maxDischargeDepth := 100) only [hI, after_mk, after_eq]

theorem after_stepPurse {s : State} (hI : After s0 s) (i : Nat) : After s0 (State.stepPurse s i) := by
  simp only [State.stepPurse]
  simp +contextual (maxDischargeDepth := 100) only [hI, after_setPurse]

theorem after_stepPolicer {s : State} (hI : After s0 s) (m : Nat) : After s0 (State.stepPolicer s m) := by
  simp only [State.stepPolicer]
  simp +contextual (maxDischargeDepth := 100) only [hI, after_setPurse]

theorem after_stepPurses {s : State} (hI : After s0 s) : After s0 (State.stepPurses s) := by
  simp only [State.stepPurses]
  simp +contextual (maxDischargeDepth := 100) only [hI, after_foldl, after_stepPolicer, after_stepPurse, implies_true]

theorem after_colourOf {s : State} (hI : After s0 s) (c : Nat) : After s0 (State.colourOf s c).1 := by
  simp only [State.colourOf]
  simp +contextual (maxDischargeDepth := 100) only [hI, after_takeFree, after_ite_fst]

theorem after_meter {s : State} (hI : After s0 s) (m len k : Nat) : After s0 (State.meter s m len k).1 := by
  simp only [State.meter]
  simp +contextual (maxDischargeDepth := 100) only [hI, after_colourOf, after_setPurse, after_tallyAdd, after_ite_fst]

/-! ### Of Machine/Actions.lean -/

theorem after_actMeter {s t : State} (h : After s0 s) (p q : Packet) (n : Nat) (e : s.actMeter p n = some (t, q)) : After s0 t := by
  simp only [State.actMeter] at e
  repeat' split at e
  all_goals first
    | (simp only [reduceCtorEq] at e; done)
    | (simp only [Option.some.injEq, Prod.mk.injEq] at e
       obtain ⟨rfl, -⟩ := e
       simp +contextual (maxDischargeDepth := 100) only [h, after_meter, after_mk, after_eq, after_ite, after_ite_fst, after_foldl, after_foldl_fst, implies_true])

theorem after_actCount {s t : State} (h : After s0 s) (p q : Packet) (n : Nat) (e : s.actCount p n = some (t, q)) : After s0 t := by
  simp only [State.actCount] at e
  repeat' split at e
  all_goals first
    | (simp only [reduceCtorEq] at e; done)
    | (simp only [Option.some.injEq, Prod.mk.injEq] at e
       obtain ⟨rfl, -⟩ := e
       simp +contextual (maxDischargeDepth := 100) only [h, after_tallyAdd, after_mk, after_eq, after_ite, after_ite_fst, after_foldl, after_foldl_fst, implies_true])

theorem after_actMirror {s t : State} (h : After s0 s) (p q : Packet) (n : Nat) (e : s.actMirror p n = some (t, q)) : After s0 t := by
  simp only [State.actMirror] at e
  repeat' split at e
  all_goals first
    | (simp only [reduceCtorEq] at e; done)
    | (simp only [Option.some.injEq, Prod.mk.injEq] at e
       obtain ⟨rfl, -⟩ := e
       simp +contextual (maxDischargeDepth := 100) only [h, after_tallyAdd, after_setF, after_count, after_mk, after_eq, after_ite, after_ite_fst, after_foldl, after_foldl_fst, implies_true])

/-- Whatever state an operation that is not refused leaves is one that a command may leave. -/
def ActAfter (s0 : State) (o : ActRes) : Prop := ∀ r, o = some r → After s0 r.1

theorem actAfter_ite {p : Prop} [Decidable p] {a b : ActRes} (ha : ActAfter s0 a) (hb : ActAfter s0 b) : ActAfter s0 (if p then a else b) := by
  split <;> assumption

theorem actAfter_some {s : State} (h : After s0 s) (p : Packet) : ActAfter s0 (some (s, p)) := fun _ e => Option.some.inj e ▸ h

theorem actAfter_map {s : State} (h : After s0 s) (o : Option Packet) : ActAfter s0 (o.map fun q => (s, q)) := by
  cases o with
  | none => intro r e; cases e
  | some q => exact actAfter_some h q

theorem actAfter_none : ActAfter s0 none := fun _ e => by cases e

theorem after_actOp {s : State} (h : After s0 s) (k : Nat) (p : Packet) (op n : Nat) : ActAfter s0 (s.actOp k p op n) := by
  unfold State.actOp
  repeat' (first
    | exact actAfter_some h _
    | exact actAfter_map h _
    | exact actAfter_none
    | exact fun r e => after_actMeter h _ _ _ e
    | exact fun r e => after_actCount h _ _ _ e
    | exact fun r e => after_actMirror h _ _ _ e
    | refine actAfter_ite ?_ ?_)

theorem after_actWord {s : State} (h : After s0 s) (k idx : Nat) (p : Packet) (w : Nat) : After s0 (s.actWord k idx p w).1 := by
  simp only [State.actWord]
  split
  · exact h
  · split
    · next r e => exact after_actOp h _ _ _ _ r e
    · simp +contextual (maxDischargeDepth := 100) only [h, after_raiseMs, after_count, after_mk, after_eq, after_ite, after_ite_fst, after_foldl, after_foldl_fst, implies_true]

theorem after_applyList {s : State} (hI : After s0 s) (k idx : Nat) (p : Packet) : After s0 (State.applyList s k idx
    p).1 := by
  simp only [State.applyList]
  simp +contextual (maxDischargeDepth := 100) only [hI, after_actWord, after_count, after_raiseMs, after_ite_fst,
    after_foldl_fst, implies_true]

theorem after_applyLists {s : State} (hI : After s0 s) (k : Nat) (p : Packet) : After s0 (State.applyLists s k p).1
    := by
  simp only [State.applyLists]
  simp +contextual (maxDischargeDepth := 100) only [hI, after_applyList, after_recell, after_foldl_fst, implies_true]

theorem after_storeCopy {s : State} (hI : After s0 s) (p : Packet) : After s0 (State.storeCopy s p).1 := by
  simp only [State.storeCopy]
  simp +contextual (maxDischargeDepth := 100) only [hI, after_storePkt, after_ite_fst]

theorem after_sendCopy {s : State} (hI : After s0 s) (p : Packet) (i : Nat) : After s0 (State.sendCopy s p i) := by
  simp only [State.sendCopy]
  simp +contextual (maxDischargeDepth := 100) only [hI, after_storeCopy, after_tallyAdd, after_toTmg]

theorem after_mirrors {s : State} (hI : After s0 s) (k : Nat) (p : Packet) : After s0 (State.mirrors s k p) := by
  simp only [State.mirrors]
  simp +contextual (maxDischargeDepth := 100) only [hI, after_count, after_foldl, after_sendCopy, after_ite,
    implies_true]

theorem after_sampleOne {s : State} (hI : After s0 s) (point inst k : Nat) (p : Packet) : After s0 (State.sampleOne s
    point inst k p) := by
  simp only [State.sampleOne]
  simp +contextual (maxDischargeDepth := 100) only [hI, after_count, after_sendCopy, after_setReg, after_mk,
    after_eq, after_ite]

theorem after_sample {s : State} (hI : After s0 s) (point inst : Nat) (p : Packet) : After s0 (State.sample s point
    inst p) := by
  simp only [State.sample]
  simp +contextual (maxDischargeDepth := 100) only [hI, after_sampleOne, after_ite]

theorem after_byDest {s : State} (hI : After s0 s) (k : Nat) (p : Packet) : After s0 (State.byDest s k p) := by
  simp only [State.byDest]
  simp +contextual (maxDischargeDepth := 100) only [hI, after_dropPkt, after_leavePipe, after_ite]

theorem after_settleGive {s : State} (hI : After s0 s) (k : Nat) (p : Packet) : After s0 (State.settleGive s k p) :=
    by
  simp only [State.settleGive]
  simp +contextual (maxDischargeDepth := 100) only [hI, after_byDest, after_count, after_dropPkt, after_giveOr,
    after_leavePipe, after_raiseMs, after_recircPkt, after_ite, implies_true]

theorem after_settleFate {s : State} (hI : After s0 s) (k : Nat) (p : Packet) : After s0 (State.settleFate s k p) :=
    by
  simp only [State.settleFate]
  simp +contextual (maxDischargeDepth := 100) only [hI, after_byDest, after_dropPkt, after_recircPkt,
    after_settleGive, after_ite]

theorem after_wrActCmd {s : State} (hI : After s0 s) (v : Nat) : After s0 (State.wrActCmd s v) := by
  simp only [State.wrActCmd]
  simp +contextual (maxDischargeDepth := 100) only [hI, after_setF, after_setRegs, after_mk, after_eq, after_ite]

end Sys2Proof.Machine
end

