-- ==== Sys2Proof/Laws/AfterFlow.lean ====
section
/-! SUPPORT. What a command may leave (After): the Teller, the Tally, the traffic manager and the Tills stay within it. -/

namespace Sys2Proof.Machine

variable {s0 : State}

/-! ### Of Machine/Teller.lean -/

theorem after_histo {s : State} (hI : After s0 s) (base t : Nat) : After s0 (State.histo s base t) := by
  simp only [State.histo]
  simp +contextual (maxDischargeDepth := 100) only [hI, after_tallyAdd]

theorem after_putItem {s : State} (hI : After s0 s) (it : Item) : After s0 (State.putItem s it) := by
  simp only [State.putItem]
  simp +contextual (maxDischargeDepth := 100) only [hI, after_setItems]

theorem after_freeItem {s : State} (hI : After s0 s) (it : Item) : After s0 (State.freeItem s it) := by
  simp only [State.freeItem]
  simp +contextual (maxDischargeDepth := 100) only [hI, after_setItems, after_showTlr]

theorem after_releaseItem {s : State} (hI : After s0 s) (it : Item) : After s0 (State.releaseItem s it) := by
  simp only [State.releaseItem]
  simp +contextual (maxDischargeDepth := 100) only [hI, after_byDest, after_count, after_dropPkt, after_freeItem,
    after_histo, after_pmc, after_recircPkt, after_xingDrop, after_ite]

theorem after_runDomain {s : State} (h : After s0 s) (d n : Nat) : After s0 (s.runDomain d n) := by
  induction n generalizing s with
  | zero => exact h
  | succ n ih =>
    simp only [State.runDomain]
    repeat' (first | (simp +contextual (maxDischargeDepth := 100) only [h, ih, after_setDomain, after_showTlr, after_count, after_releaseItem, after_mk, after_eq, after_ite, after_ite_fst, after_foldl, after_foldl_fst, implies_true]; done) | split)

theorem after_skipEntry {s : State} (hI : After s0 s) (it : Item) : After s0 (State.skipEntry s it) := by
  simp only [State.skipEntry]
  simp +contextual (maxDischargeDepth := 100) only [hI, after_setDomain, after_ite]

theorem after_runDomains {s : State} (hI : After s0 s) (l : List Item) : After s0 (State.runDomains s l) := by
  simp only [State.runDomains]
  simp +contextual (maxDischargeDepth := 100) only [hI, after_foldl, after_runDomain, implies_true]

theorem after_completeItem {s : State} (hI : After s0 s) (it : Item) (p : Packet) : After s0 (State.completeItem s it
    p) := by
  simp only [State.completeItem]
  simp +contextual (maxDischargeDepth := 100) only [hI, after_putItem, after_releaseItem, after_runDomain, after_ite]

theorem after_unready {s : State} (hI : After s0 s) (it : Item) : After s0 (State.unready s it) := by
  simp only [State.unready]
  simp +contextual (maxDischargeDepth := 100) only [hI, after_showLevel, after_ite]

theorem after_failItem {s : State} (hI : After s0 s) (it : Item) : After s0 (State.failItem s it) := by
  simp only [State.failItem]
  simp +contextual (maxDischargeDepth := 100) only [hI, after_count, after_dropPkt, after_freeItem, after_skipEntry,
    after_unready, after_ite]

theorem after_failItems {s : State} (hI : After s0 s) (l : List Item) (cause : Nat) : After s0 (State.failItems s l
    cause) := by
  simp only [State.failItems]
  simp +contextual (maxDischargeDepth := 100) only [hI, after_failItem, after_foldl, after_raiseMs, after_runDomains,
    after_ite, implies_true]

theorem after_cancelItem {s : State} (hI : After s0 s) (it : Item) (ctr : Nat) : After s0 (State.cancelItem s it ctr)
    := by
  simp only [State.cancelItem]
  simp +contextual (maxDischargeDepth := 100) only [hI, after_count, after_dropPkt, after_freeItem, after_putItem,
    after_skipEntry, after_unready, after_ite]

theorem after_cancelItems {s : State} (hI : After s0 s) (l : List Item) (ctr : Nat) : After s0 (State.cancelItems s l
    ctr) := by
  simp only [State.cancelItems]
  simp +contextual (maxDischargeDepth := 100) only [hI, after_cancelItem, after_foldl, after_runDomains, implies_true]

theorem after_setEngState {s : State} (hI : After s0 s) (e v : Nat) : After s0 (State.setEngState s e v) := by
  simp only [State.setEngState]
  simp +contextual (maxDischargeDepth := 100) only [hI, after_raise, after_setF, after_ite]

theorem after_showEng {s : State} (hI : After s0 s) (e : Nat) : After s0 (State.showEng s e) := by
  simp only [State.showEng]
  simp +contextual (maxDischargeDepth := 100) only [hI, after_setBit]

theorem after_noteScan {s : State} (hI : After s0 s) (e t0 t1 : Nat) : After s0 (State.noteScan s e t0 t1) := by
  simp only [State.noteScan]
  simp +contextual (maxDischargeDepth := 100) only [hI, after_mk, after_eq]

theorem after_engineFree {s : State} (hI : After s0 s) (e : Nat) : After s0 (State.engineFree s e) := by
  simp only [State.engineFree]
  simp +contextual (maxDischargeDepth := 100) only [hI, after_setEngState, after_setF, after_showEng, after_ite]

theorem after_showLoad {s : State} (hI : After s0 s) (e : Nat) : After s0 (State.showLoad s e) := by
  simp only [State.showLoad]
  simp +contextual (maxDischargeDepth := 100) only [hI, after_setF, after_ite]

theorem after_scanCut {s : State} (hI : After s0 s) (e : Nat) : After s0 (State.scanCut s e) := by
  simp only [State.scanCut]
  repeat' (first
    | (simp +contextual (maxDischargeDepth := 100) only [hI, after_noteScan]; done)
    | split)

theorem after_wrEngSvc {s : State} (hI : After s0 s) (e v : Nat) : After s0 (State.wrEngSvc s e v) := by
  simp only [State.wrEngSvc]
  simp +contextual (maxDischargeDepth := 100) only [hI, after_setEngState, after_setF, after_showEng, after_ite]

theorem after_wrTake {s : State} (hI : After s0 s) (v : Nat) : After s0 (State.wrTake s v) := by
  simp only [State.wrTake]
  simp +contextual (maxDischargeDepth := 100) only [hI, after_setF, after_setReg, after_setRegs, after_ite]

theorem after_itemWords {s : State} (hI : After s0 s) (it : Item) : After s0 (State.itemWords s it).1 := by
  simp only [State.itemWords]
  simp +contextual (maxDischargeDepth := 100) only [hI, after_takeFree]

theorem after_wrDone {s : State} (hI : After s0 s) (v : Nat) : After s0 (State.wrDone s v) := by
  simp only [State.wrDone]
  repeat' (first
    | (simp +contextual (maxDischargeDepth := 100) only [hI, after_completeItem, after_count, after_freeItem,
        after_raise, after_setF, after_stopTimer, after_ite]; done)
    | split)

theorem after_wrCancel {s : State} (h : After s0 s) (v : Nat) : After s0 (s.wrCancel v) := by
  simp only [State.wrCancel]
  simp +contextual (maxDischargeDepth := 100) only [h, after_setF, after_cancelItems, after_mk, after_eq, after_ite, after_ite_fst, after_foldl, after_foldl_fst, implies_true]

theorem after_showSet {s : State} (hI : After s0 s) (bank pset : Nat) : After s0 (State.showSet s bank pset) := by
  simp only [State.showSet]
  simp +contextual (maxDischargeDepth := 100) only [hI, after_setF]

theorem after_setPat {s : State} (hI : After s0 s) (bank i v : Nat) : After s0 (State.setPat s bank i v) := by
  simp only [State.setPat]
  simp +contextual (maxDischargeDepth := 100) only [hI, after_showSet, after_mk, after_eq]

theorem after_wrPatCmd {s : State} (hI : After s0 s) (v : Nat) : After s0 (State.wrPatCmd s v) := by
  simp only [State.wrPatCmd]
  simp +contextual (maxDischargeDepth := 100) only [hI, after_setF, after_setPat, after_setRegs, after_ite]

theorem after_setBankState {s : State} (hI : After s0 s) (b v : Nat) : After s0 (State.setBankState s b v) := by
  simp only [State.setBankState]
  simp +contextual (maxDischargeDepth := 100) only [hI, after_raise, after_setF]

theorem after_wrBankCmd {s : State} (hI : After s0 s) (v : Nat) : After s0 (State.wrBankCmd s v) := by
  simp only [State.wrBankCmd]
  repeat' (first
    | (simp +contextual (maxDischargeDepth := 100) only [hI, after_setBankState, after_setF, after_mk, after_eq,
        after_ite]; done)
    | split)

/-! ### Of Machine/Tally.lean -/

theorem after_putTallyData {s : State} (hI : After s0 s) (v : Nat) : After s0 (State.putTallyData s v) := by
  simp only [State.putTallyData]
  simp +contextual (maxDischargeDepth := 100) only [hI, after_setRegs]

theorem after_tallyCause {s : State} (hI : After s0 s) (c : Nat) : After s0 (State.tallyCause s c) := by
  simp only [State.tallyCause]
  simp +contextual (maxDischargeDepth := 100) only [hI, after_setF]

theorem after_wrTallyCmd {s : State} (hI : After s0 s) (v : Nat) : After s0 (State.wrTallyCmd s v) := by
  simp only [State.wrTallyCmd]
  simp +contextual (maxDischargeDepth := 100) only [hI, after_putTallyData, after_setF, after_tallyCause,
    after_tallySet, after_ite]

theorem after_wrPmcCtr {s : State} (hI : After s0 s) (c : Nat) (hi : Bool) (v : Nat) : After s0 (State.wrPmcCtr s c
    hi v) := by
  simp only [State.wrPmcCtr]
  simp +contextual (maxDischargeDepth := 100) only [hI, after_setReg, after_ite]

theorem after_wrPmcCtrl {s : State} (hI : After s0 s) (v : Nat) : After s0 (State.wrPmcCtrl s v) := by
  simp only [State.wrPmcCtrl]
  simp +contextual (maxDischargeDepth := 100) only [hI, after_setF, after_setRegs, after_ite]

theorem after_sampleMiss {s : State} (hI : After s0 s) (k cause : Nat) : After s0 (State.sampleMiss s k cause) := by
  simp only [State.sampleMiss]
  simp +contextual (maxDischargeDepth := 100) only [hI, after_count, after_raiseMs]

theorem after_chkTake {s : State} (hI : After s0 s) (u user : Nat) : After s0 (State.chkTake s u user) := by
  simp only [State.chkTake]
  simp +contextual (maxDischargeDepth := 100) only [hI, after_setF]

theorem after_chkFree {s : State} (hI : After s0 s) (u : Nat) : After s0 (State.chkFree s u) := by
  simp only [State.chkFree]
  simp +contextual (maxDischargeDepth := 100) only [hI, after_setF]

theorem after_chkResult {s : State} (hI : After s0 s) (u status poly len crc : Nat) : After s0 (State.chkResult s u
    status poly len crc) := by
  simp only [State.chkResult]
  simp +contextual (maxDischargeDepth := 100) only [hI, after_count, after_raise, after_setReg, after_setRegs]

theorem after_wrChkCtrl {s : State} (hI : After s0 s) (u v : Nat) : After s0 (State.wrChkCtrl s u v) := by
  simp only [State.wrChkCtrl]
  simp +contextual (maxDischargeDepth := 100) only [hI, after_chkResult, after_chkTake, after_setF, after_setReg,
    after_setRegs, after_mk, after_eq, after_ite]

theorem after_scanEnd {s : State} (hI : After s0 s) (u : Nat) (data : List Byte) (busOk : Bool) : After s0
    (State.scanEnd s u data busOk) := by
  simp only [State.scanEnd]
  simp +contextual (maxDischargeDepth := 100) only [hI, after_chkFree, after_chkResult, after_ite]

theorem after_scrubEnd {s : State} (hI : After s0 s) (u : Nat) (pass : Bool) : After s0 (State.scrubEnd s u pass) :=
    by
  simp only [State.scrubEnd]
  simp +contextual (maxDischargeDepth := 100) only [hI, after_chkFree, after_count, after_raise, after_setBankState,
    after_ite]

/-! ### Of Machine/Deep.lean -/

theorem after_setQ {s : State} (hI : After s0 s) (i : Nat) (x : QState) : After s0 (State.setQ s i x) := by
  simp only [State.setQ]
  simp +contextual (maxDischargeDepth := 100) only [hI, after_mk, after_eq]

theorem after_qCount {s : State} (hI : After s0 s) (q c : Nat) (n : Nat ) : After s0 (State.qCount s q c n) := by
  simp only [State.qCount]
  simp +contextual (maxDischargeDepth := 100) only [hI, after_tallyAdd]

theorem after_showPages {s : State} (hI : After s0 s) : After s0 (State.showPages s) := by
  simp only [State.showPages]
  simp +contextual (maxDischargeDepth := 100) only [hI, after_setF]

theorem after_takePage {s : State} (hI : After s0 s) (c : Nat) : After s0 (State.takePage s c) := by
  simp only [State.takePage]
  simp +contextual (maxDischargeDepth := 100) only [hI, after_mk, after_eq]

theorem after_putPage {s : State} (hI : After s0 s) (c : Nat) (bad : Bool) : After s0 (State.putPage s c bad) := by
  simp only [State.putPage]
  simp +contextual (maxDischargeDepth := 100) only [hI, after_count, after_showPages, after_mk, after_eq, after_ite]

theorem after_spendWr {s : State} (hI : After s0 s) (up : Bool) (n : Nat) : After s0 (State.spendWr s up n) := by
  simp only [State.spendWr]
  simp +contextual (maxDischargeDepth := 100) only [hI, after_mk, after_eq]

theorem after_spendRd {s : State} (hI : After s0 s) (up : Bool) (n : Nat) : After s0 (State.spendRd s up n) := by
  simp only [State.spendRd]
  simp +contextual (maxDischargeDepth := 100) only [hI, after_mk, after_eq]

theorem after_setDeepUsed {s : State} (hI : After s0 s) (up : Bool) (v : Nat) : After s0 (State.setDeepUsed s up v)
    := by
  simp only [State.setDeepUsed]
  simp +contextual (maxDischargeDepth := 100) only [hI, after_mk, after_eq]

theorem after_growPages {s t : State} (h : After s0 s) (q e n : Nat) (k : s.growPages q e n = some t) : After s0 t := by
  induction n generalizing s with
  | zero => simp only [State.growPages, Option.some.injEq] at k; exact k ▸ h
  | succ n ih =>
    simp only [State.growPages] at k
    split at k <;> split at k
    · exact Option.some.inj k ▸ h
    · split at k
      · cases k
      · exact ih (after_setQ (after_takePage h _) _ _) k
    · exact Option.some.inj k ▸ h
    · split at k
      · cases k
      · exact ih (after_setQ (after_takePage h _) _ _) k

theorem after_trimPages {s : State} (hI : After s0 s) (q : Nat) : After s0 (State.trimPages s q) := by
  simp only [State.trimPages]
  simp +contextual (maxDischargeDepth := 100) only [hI, after_foldl, after_putPage, after_setQ, implies_true]

theorem after_deepRefused {s : State} (hI : After s0 s) (q cause : Nat) : After s0 (State.deepRefused s q cause) := by
  simp only [State.deepRefused]
  simp +contextual (maxDischargeDepth := 100) only [hI, after_raiseMs]

theorem after_placeDeep {s t : State} (h : After s0 s) (q : Nat) (p : Packet) (k : s.placeDeep q p = some t) : After s0 t := by
  simp only [State.placeDeep] at k
  split at k
  · cases k
  · next e =>
    have h1 := after_growPages h _ _ _ e
    rw [Option.some.injEq] at k
    subst k
    simp +contextual (maxDischargeDepth := 100) only [h1, after_unref, after_setQ, after_setDeepUsed, after_spendWr, after_count, after_pmc, after_mk, after_eq, after_ite, after_ite_fst, after_foldl, after_foldl_fst, implies_true]

theorem after_cutDeep {s : State} (hI : After s0 s) (q : Nat) (gone : DeepPkt → Bool) : After s0 (State.cutDeep s q
    gone) := by
  simp only [State.cutDeep]
  simp +contextual (maxDischargeDepth := 100) only [hI, after_setDeepUsed, after_setQ, after_trimPages]

theorem after_dropDeep {s : State} (hI : After s0 s) (q : Nat) (gone : DeepPkt → Bool) : After s0 (State.dropDeep s q
    gone) := by
  simp only [State.dropDeep]
  simp +contextual (maxDischargeDepth := 100) only [hI, after_cutDeep, after_qCount]

/-! ### Of Machine/Gates.lean -/

theorem after_setPort {s : State} (hI : After s0 s) (n : Nat) (p : TqPort) : After s0 (State.setPort s n p) := by
  simp only [State.setPort]
  simp +contextual (maxDischargeDepth := 100) only [hI, after_mk, after_eq]

theorem after_showGates {s : State} (hI : After s0 s) (n : Nat) : After s0 (State.showGates s n) := by
  simp only [State.showGates]
  simp +contextual (maxDischargeDepth := 100) only [hI, after_setF]

theorem after_wrGclCtrl {s : State} (hI : After s0 s) (n v : Nat) : After s0 (State.wrGclCtrl s n v) := by
  simp only [State.wrGclCtrl]
  simp +contextual (maxDischargeDepth := 100) only [hI, after_raise, after_setF, after_showGates, after_mk, after_eq,
    after_ite]

theorem after_wrGclCmd {s : State} (hI : After s0 s) (v : Nat) : After s0 (State.wrGclCmd s v) := by
  simp only [State.wrGclCmd]
  simp +contextual (maxDischargeDepth := 100) only [hI, after_setF, after_setReg, after_mk, after_eq, after_ite]

/-! ### Of Machine/Queues.lean -/

theorem after_setVt {s : State} (hI : After s0 s) (k v : Nat) : After s0 (State.setVt s k v) := by
  simp only [State.setVt]
  simp +contextual (maxDischargeDepth := 100) only [hI, after_mk, after_eq]

theorem after_tagHead {s : State} (hI : After s0 s) (q : Nat) : After s0 (State.tagHead s q) := by
  simp only [State.tagHead]
  repeat' (first
    | (simp +contextual (maxDischargeDepth := 100) only [hI, after_setQ, after_ite]; done)
    | split)

theorem after_joinChip {s : State} (hI : After s0 s) (q : Nat) (p : Packet) : After s0 (State.joinChip s q p) := by
  simp only [State.joinChip]
  simp +contextual (maxDischargeDepth := 100) only [hI, after_setPoolOcc, after_setQ, after_tagHead]

theorem after_admitDrop {s : State} (hI : After s0 s) (q : Nat) (p : Packet) (ctr : Nat) : After s0 (State.admitDrop
    s q p ctr) := by
  simp only [State.admitDrop]
  simp +contextual (maxDischargeDepth := 100) only [hI, after_count, after_pmc, after_qCount, after_sample,
    after_unref]

theorem after_noteArrival {s : State} (hI : After s0 s) (q n : Nat) : After s0 (State.noteArrival s q n) := by
  simp only [State.noteArrival]
  simp +contextual (maxDischargeDepth := 100) only [hI, after_mk, after_eq, after_ite]

theorem after_admitted {s : State} (hI : After s0 s) (q : Nat) (p : Packet) : After s0 (State.admitted s q p) := by
  simp only [State.admitted]
  simp +contextual (maxDischargeDepth := 100) only [hI, after_noteArrival, after_pmc, after_qCount, after_sample]

theorem after_takeIn {s : State} (h : After s0 s) (q : Nat) (p : Packet) (k : Nat) : After s0 (s.takeIn q p k) := by
  simp only [State.takeIn]
  repeat' (first
    | (simp +contextual (maxDischargeDepth := 100) only [h, after_deepRefused, after_admitDrop, after_raiseMs, after_joinChip, after_admitted, after_mk, after_eq, after_ite, after_ite_fst, after_foldl, after_foldl_fst, implies_true]; done)
    | split)
  all_goals next e => exact after_admitted (after_placeDeep h _ _ e) _ _

theorem after_noQueue {s : State} (hI : After s0 s) (p : Packet) : After s0 (State.noQueue s p) := by
  simp only [State.noQueue]
  simp +contextual (maxDischargeDepth := 100) only [hI, after_count, after_raiseMs, after_unref]

theorem after_police {s : State} (hI : After s0 s) (p : Packet) : After s0 (State.police s p).1 := by
  simp only [State.police]
  simp +contextual (maxDischargeDepth := 100) only [hI, after_colourOf, after_count, after_meter, after_ite_fst]

theorem after_placeCopy {s : State} (hI : After s0 s) (q : Nat) (p : Packet) (k : Nat) : After s0 (State.placeCopy s
    q p k) := by
  simp only [State.placeCopy]
  simp +contextual (maxDischargeDepth := 100) only [hI, after_count, after_noQueue, after_takeIn, after_unref,
    after_ite]

theorem after_charge {s : State} (hI : After s0 s) (en : Bool) (sh len : Nat) : After s0 (State.charge s en sh len)
    := by
  simp only [State.charge]
  simp +contextual (maxDischargeDepth := 100) only [hI, after_setPurse, after_ite]

theorem after_setGTag {s : State} (hI : After s0 s) (g : Nat) (t : Tag) : After s0 (State.setGTag s g t) := by
  simp only [State.setGTag]
  simp +contextual (maxDischargeDepth := 100) only [hI, after_mk, after_eq]

theorem after_tagGroup {s : State} (hI : After s0 s) (node g q : Nat) : After s0 (State.tagGroup s node g q) := by
  simp only [State.tagGroup]
  repeat' (first
    | (simp +contextual (maxDischargeDepth := 100) only [hI, after_setGTag, after_ite]; done)
    | split)

theorem after_readyGroups {s : State} (h : After s0 s) (node : Nat) : After s0 (s.readyGroups node).1 := by
  simp only [State.readyGroups]
  refine after_foldl_fst h fun r g hr => ?_
  repeat' (first | (simp +contextual (maxDischargeDepth := 100) only [hr, after_tagGroup, after_mk, after_eq, after_ite, after_ite_fst, after_foldl, after_foldl_fst, implies_true]; done) | split)

theorem after_takeHead {s : State} (hI : After s0 s) (q : Nat) : After s0 (State.takeHead s q).1 := by
  simp only [State.takeHead]
  repeat' (first
    | (simp +contextual (maxDischargeDepth := 100) only [hI, after_setPoolOcc, after_setQ]; done)
    | split)

theorem after_dequeued {s : State} (hI : After s0 s) (q : Nat) (p : Packet) : After s0 (State.dequeued s q p) := by
  simp only [State.dequeued]
  simp +contextual (maxDischargeDepth := 100) only [hI, after_pmc, after_qCount, after_sample]

theorem after_toMac {s : State} (hI : After s0 s) (n : Nat) (p : Packet) : After s0 (State.toMac s n p) := by
  simp only [State.toMac]
  simp +contextual (maxDischargeDepth := 100) only [hI, after_count, after_setPort, after_unref, after_ite]

theorem after_pickChan {s : State} (hI : After s0 s) (q : Nat) : After s0 (State.pickChan s q).1 := by
  simp only [State.pickChan]
  simp +contextual (maxDischargeDepth := 100) only [hI, after_takeFree, after_ite_fst]

theorem after_toChan {s : State} (h : After s0 s) (q : Nat) (p : Packet) : After s0 (s.toChan q p) := by
  have k := after_pickChan h q
  simp only [State.toChan]
  split
  all_goals
    next e =>
      rw [e] at k
      simp +contextual (maxDischargeDepth := 100) only [k, after_unref, after_mk, after_eq, after_ite, after_ite_fst, after_foldl, after_foldl_fst, implies_true]

theorem after_chargeAll {s : State} (hI : After s0 s) (node g q len : Nat) : After s0 (State.chargeAll s node g q
    len) := by
  simp only [State.chargeAll]
  simp +contextual (maxDischargeDepth := 100) only [hI, after_charge, after_ite]

theorem after_tokBytes {s : State} (hI : After s0 s) (t : Int) : After s0 (State.tokBytes s t).1 := by
  simp only [State.tokBytes]
  simp +contextual (maxDischargeDepth := 100) only [hI, after_takeFree, after_ite_fst]

theorem after_wrPurseCmd {s : State} (hI : After s0 s) (v : Nat) : After s0 (State.wrPurseCmd s v) := by
  simp only [State.wrPurseCmd]
  repeat' (first
    | (simp +contextual (maxDischargeDepth := 100) only [hI, after_setBit, after_setF, after_setPurse,
        after_tokBytes, after_ite]; done)
    | split)

theorem after_wrQCmd {s : State} (hI : After s0 s) (v : Nat) : After s0 (State.wrQCmd s v) := by
  simp only [State.wrQCmd]
  simp +contextual (maxDischargeDepth := 100) only [hI, after_setF, after_setRegs, after_mk, after_eq, after_ite]

/-! ### Of Machine/Access.lean -/

theorem after_setSlot {s : State} (hI : After s0 s) (n : Nat) (k : Option KeySlot) : After s0 (State.setSlot s n k)
    := by
  simp only [State.setSlot]
  simp +contextual (maxDischargeDepth := 100) only [hI, after_mk, after_eq]

theorem after_putKey {s : State} (hI : After s0 s) (n typ use key : Nat) : After s0 (State.putKey s n typ use key) :=
    by
  simp only [State.putKey]
  simp +contextual (maxDischargeDepth := 100) only [hI, after_setSlot]

theorem after_keyChanged {s : State} (hI : After s0 s) (n op src : Nat) : After s0 (State.keyChanged s n op src) := by
  simp only [State.keyChanged]
  simp +contextual (maxDischargeDepth := 100) only [hI, after_raise]

theorem after_slotAbsent {s : State} (hI : After s0 s) (n : Nat) : After s0 (State.slotAbsent s n) := by
  simp only [State.slotAbsent]
  simp +contextual (maxDischargeDepth := 100) only [hI, after_count, after_ite]

theorem after_showEscrow {s : State} (hI : After s0 s) : After s0 (State.showEscrow s) := by
  simp only [State.showEscrow]
  simp +contextual (maxDischargeDepth := 100) only [hI, after_setF]

theorem after_holdOld {s : State} (hI : After s0 s) (slot : Nat) : After s0 (State.holdOld s slot) := by
  simp only [State.holdOld]
  simp +contextual (maxDischargeDepth := 100) only [hI, after_showEscrow, after_mk, after_eq]

theorem after_keyNow {s : State} (hI : After s0 s) (w : KeyWrite) : After s0 (State.keyNow s w) := by
  simp only [State.keyNow]
  simp +contextual (maxDischargeDepth := 100) only [hI, after_holdOld, after_keyChanged, after_putKey, after_setSlot,
    after_ite]

theorem after_keyWrite {s : State} (hI : After s0 s) (w : KeyWrite) : After s0 (State.keyWrite s w) := by
  simp only [State.keyWrite]
  simp +contextual (maxDischargeDepth := 100) only [hI, after_count, after_keyNow, after_raise, after_mk, after_eq,
    after_ite]

theorem after_keyFlush {s : State} (h : After s0 s) (l : List KeyWrite) : After s0 (s.keyFlush l) := by
  induction l generalizing s with
  | nil => exact h
  | cons w l ih =>
    simp only [State.keyFlush]
    split
    · exact ih (after_keyNow h w)
    · exact h

theorem after_vaultFault {s : State} (hI : After s0 s) (engine : Option Nat) (cause slot : Nat) : After s0
    (State.vaultFault s engine cause slot) := by
  simp only [State.vaultFault]
  repeat' (first
    | (simp +contextual (maxDischargeDepth := 100) only [hI, after_raise, after_takeFree]; done)
    | split)

theorem after_maskSeed {s : State} (hI : After s0 s) : After s0 (State.maskSeed s) := by
  simp only [State.maskSeed]
  simp +contextual (maxDischargeDepth := 100) only [hI, after_mk, after_eq]

theorem after_setMint {s : State} (hI : After s0 s) (v : Nat) : After s0 (State.setMint s v) := by
  simp only [State.setMint]
  simp +contextual (maxDischargeDepth := 100) only [hI, after_maskSeed, after_setF]

theorem after_mintReseed {s : State} (hI : After s0 s) : After s0 (State.mintReseed s) := by
  simp only [State.mintReseed]
  simp +contextual (maxDischargeDepth := 100) only [hI, after_count, after_maskSeed, after_startTimer, after_mk,
    after_eq]

theorem after_drbgRequest {s : State} (hI : After s0 s) : After s0 (State.drbgRequest s).1 := by
  simp only [State.drbgRequest]
  simp +contextual (maxDischargeDepth := 100) only [hI, after_maskSeed, after_mintReseed, after_takeFree, after_mk,
    after_eq, after_ite]

theorem after_setPn {s : State} (hI : After s0 s) (c : Nat) (x : PonState) : After s0 (State.setPn s c x) := by
  simp only [State.setPn]
  simp +contextual (maxDischargeDepth := 100) only [hI, after_mk, after_eq]

theorem after_setBcs {s : State} (hI : After s0 s) (c : Nat) (x : BcState) : After s0 (State.setBcs s c x) := by
  simp only [State.setBcs]
  simp +contextual (maxDischargeDepth := 100) only [hI, after_mk, after_eq]

theorem after_setPf {s : State} (hI : After s0 s) (c : Nat) (f : Fld) (v : Nat) : After s0 (State.setPf s c f v) := by
  simp only [State.setPf]
  simp +contextual (maxDischargeDepth := 100) only [hI, after_setF]

theorem after_pCount {s : State} (hI : After s0 s) (c off : Nat) (n : Nat ) : After s0 (State.pCount s c off n) := by
  simp only [State.pCount]
  simp +contextual (maxDischargeDepth := 100) only [hI, after_count]

theorem after_pRaise {s : State} (hI : After s0 s) (c gap src : Nat) (fs : List (Nat × Nat)) : After s0 (State.pRaise
    s c gap src fs) := by
  simp only [State.pRaise]
  simp +contextual (maxDischargeDepth := 100) only [hI, after_raise]

theorem after_pRaiseMs {s : State} (hI : After s0 s) (c gap src sub : Nat) (fs : List (Nat × Nat)) : After s0
    (State.pRaiseMs s c gap src sub fs) := by
  simp only [State.pRaiseMs]
  simp +contextual (maxDischargeDepth := 100) only [hI, after_raiseMs]

theorem after_newN {s : State} (hI : After s0 s) (c : Nat) : After s0 (State.newN s c).1 := by
  simp only [State.newN]
  simp +contextual (maxDischargeDepth := 100) only [hI, after_setPn]

theorem after_toUnits {s : State} (hI : After s0 s) (u : Nat) : After s0 (State.toUnits s u) := by
  simp only [State.toUnits]
  simp +contextual (maxDischargeDepth := 100) only [hI, after_elapseTo]

/-! ### Of Machine/Till.lean -/

theorem after_mapRefused {s : State} (hI : After s0 s) (c : Nat) (f : Nat × Nat × Nat) : After s0 (State.mapRefused s
    c f) := by
  simp only [State.mapRefused]
  simp +contextual (maxDischargeDepth := 100) only [hI, after_raise, after_setF]

theorem after_wrMapCtrl {s : State} (hI : After s0 s) (c v : Nat) : After s0 (State.wrMapCtrl s c v) := by
  simp only [State.wrMapCtrl]
  repeat' (first
    | (simp +contextual (maxDischargeDepth := 100) only [hI, after_mapRefused, after_setF]; done)
    | split)

theorem after_wrMapCmd {s : State} (hI : After s0 s) (c v : Nat) : After s0 (State.wrMapCmd s c v) := by
  simp only [State.wrMapCmd]
  simp +contextual (maxDischargeDepth := 100) only [hI, after_setBcs, after_setF, after_setRegs, after_ite]

theorem after_showTill {s : State} (hI : After s0 s) (c : Nat) : After s0 (State.showTill s c) := by
  simp only [State.showTill]
  simp +contextual (maxDischargeDepth := 100) only [hI, after_setF]

theorem after_number {s : State} (hI : After s0 s) (p : Packet) : After s0 (State.number s p).1 := by
  simp only [State.number]
  simp +contextual (maxDischargeDepth := 100) only [hI, after_mk, after_eq, after_ite_fst]

theorem after_tillFull {s : State} (hI : After s0 s) (c area : Nat) : After s0 (State.tillFull s c area) := by
  simp only [State.tillFull]
  simp +contextual (maxDischargeDepth := 100) only [hI, after_raiseMs]

theorem after_intoTill {s : State} (h : After s0 s) (c a q : Nat) (radio : Bool) : After s0 (s.intoTill c a q radio) := by
  simp only [State.intoTill]
  have k := after_takeHead h q
  split
  all_goals
    next e =>
      rw [e] at k
      simp +contextual (maxDischargeDepth := 100) only [k, after_dequeued, after_unref, after_number, after_newN, after_setBcs, after_count, after_tallyAdd, after_showTill, after_mk, after_eq, after_ite, after_ite_fst, after_foldl, after_foldl_fst, implies_true]

theorem after_radioSlot {s : State} (h : After s0 s) (c a q n : Nat) : After s0 (s.radioSlot c a q n) := by
  induction n generalizing s with
  | zero => exact h
  | succ n ih =>
    simp only [State.radioSlot]
    repeat' (first | (simp +contextual (maxDischargeDepth := 100) only [h, ih, after_tillFull, after_intoTill, after_mk, after_eq, after_ite, after_ite_fst, after_foldl, after_foldl_fst, implies_true]; done) | split)

theorem after_radioEnter {s : State} (hI : After s0 s) (c : Nat) : After s0 (State.radioEnter s c) := by
  simp only [State.radioEnter]
  simp +contextual (maxDischargeDepth := 100) only [hI, after_foldl, after_radioSlot, after_ite, implies_true]

theorem after_tagSlots {s : State} (h : After s0 s) (c a : Nat) : After s0 (s.tagSlots c a) := by
  simp only [State.tagSlots]
  refine after_foldl h fun s x hs => ?_
  repeat' (first | (simp +contextual (maxDischargeDepth := 100) only [hs, after_setBcs, after_mk, after_eq, after_ite, after_ite_fst, after_foldl, after_foldl_fst, implies_true]; done) | split)

theorem after_stageOne {s : State} (hI : After s0 s) (c a : Nat) : After s0 (State.stageOne s c a) := by
  simp only [State.stageOne]
  repeat' (first
    | (simp +contextual (maxDischargeDepth := 100) only [hI, after_charge, after_intoTill, after_setBcs, after_setVt,
        after_tillFull, after_ite]; done)
    | split)

theorem after_tagAll {s : State} (hI : After s0 s) (c : Nat) : After s0 (State.tagAll s c) := by
  simp only [State.tagAll]
  simp +contextual (maxDischargeDepth := 100) only [hI, after_foldl, after_tagSlots, after_ite, implies_true]

theorem after_stageFor {s : State} (hI : After s0 s) (c : Nat) : After s0 (State.stageFor s c) := by
  simp only [State.stageFor]
  repeat' (first
    | (simp +contextual (maxDischargeDepth := 100) only [hI, after_stageOne]; done)
    | split)

theorem after_stageTurns {s : State} (hI : After s0 s) (c : Fin 2) : After s0 (State.stageTurns s c) := by
  simp only [State.stageTurns]
  simp +contextual (maxDischargeDepth := 100) only [hI, after_stageFor, after_mk, after_eq, after_ite]

theorem after_sduFrame {s : State} (hI : After s0 s) (c : Nat) (radio : Bool) (x : TillSdu) (n : Nat) : After s0
    (State.sduFrame s c radio x n).1 := by
  simp only [State.sduFrame]
  repeat' (first
    | (simp +contextual (maxDischargeDepth := 100) only [hI, after_count, after_pmc, after_takeFree, after_ite]; done)
    | split)

theorem after_sduFrames {s : State} (hI : After s0 s) (c : Nat) (radio : Bool) (l : List (TillSdu × Nat)) : After s0
    (State.sduFrames s c radio l).1 := by
  simp only [State.sduFrames]
  simp +contextual (maxDischargeDepth := 100) only [hI, after_sduFrame, after_ite_fst, after_foldl_fst, implies_true]

theorem after_tillShort {s : State} (hI : After s0 s) (c : Nat) (a : Alloc) (idle : Nat) : After s0 (State.tillShort
    s c a idle) := by
  simp only [State.tillShort]
  simp +contextual (maxDischargeDepth := 100) only [hI, after_count, after_raiseMs, after_tallyAdd, after_ite]

theorem after_composeData {s : State} (hI : After s0 s) (c : Nat) (a : Alloc) (first last : Bool) : After s0
    (State.composeData s c a first last).1 := by
  simp only [State.composeData]
  simp +contextual (maxDischargeDepth := 100) only [hI, after_pCount, after_radioEnter, after_sduFrames,
    after_setBcs, after_setPn, after_showTill, after_tillShort, after_ite]

theorem after_compose {s : State} (hI : After s0 s) (c : Nat) (use : Nat) (a : Alloc) (first last : Bool) : After s0
    (State.compose s c use a first last).1 := by
  simp only [State.compose]
  simp +contextual (maxDischargeDepth := 100) only [hI, after_composeData, after_ite_fst]

theorem after_restore {s : State} (hI : After s0 s) (c : Nat) (a : Alloc) : After s0 (State.restore s c a) := by
  simp only [State.restore]
  repeat' (first
    | (simp +contextual (maxDischargeDepth := 100) only [hI, after_setBcs, after_setPn, after_showTill, after_ite];
        done)
    | split)

theorem after_flushTill {s : State} (hI : After s0 s) (c : Nat) : After s0 (State.flushTill s c) := by
  simp only [State.flushTill]
  simp +contextual (maxDischargeDepth := 100) only [hI, after_pCount, after_setBcs, after_showTill]

end Sys2Proof.Machine
end

