-- ==== Sys2Proof/Laws/AfterPon.lean ====
section
/-! SUPPORT. What a command may leave (After): PON channels and tenant ports stay within it. -/

namespace Sys2Proof.Machine

variable {s0 : State}

/-! ### Of Machine/Burst.lean -/

theorem after_queuePloam {s : State} (hI : After s0 s) (c : Nat) (x : PloamItem) : After s0 (State.queuePloam s c x)
    := by
  simp only [State.queuePloam]
  repeat' (first
    | (simp +contextual (maxDischargeDepth := 100) only [hI, after_pCount, after_setPn, after_ite]; done)
    | split)

theorem after_hwPloam {s : State} (hI : After s0 s) (c : Nat) (m : PloamUp) : After s0 (State.hwPloam s c m) := by
  simp only [State.hwPloam]
  simp +contextual (maxDischargeDepth := 100) only [hI, after_queuePloam]

theorem after_ploamReject {s : State} (hI : After s0 s) (c cause typ : Nat) : After s0 (State.ploamReject s c cause
    typ) := by
  simp only [State.ploamReject]
  simp +contextual (maxDischargeDepth := 100) only [hI, after_pRaiseMs]

theorem after_showTxOn {s : State} (hI : After s0 s) (c : Nat) : After s0 (State.showTxOn s c) := by
  simp only [State.showTxOn]
  simp +contextual (maxDischargeDepth := 100) only [hI, after_setPf]

theorem after_benEdge {s : State} (hI : After s0 s) (c : Nat) (on : Bool) (t : Nat) : After s0 (State.benEdge s c on
    t) := by
  simp only [State.benEdge]
  simp +contextual (maxDischargeDepth := 100) only [hI, after_emit]

theorem after_benRise {s : State} (hI : After s0 s) (c t : Nat) : After s0 (State.benRise s c t) := by
  simp only [State.benRise]
  repeat' (first
    | (simp +contextual (maxDischargeDepth := 100) only [hI, after_benEdge, after_setPn]; done)
    | split)

theorem after_benFall {s : State} (hI : After s0 s) (c t : Nat) : After s0 (State.benFall s c t) := by
  simp only [State.benFall]
  repeat' (first
    | (simp +contextual (maxDischargeDepth := 100) only [hI, after_benEdge, after_setPn]; done)
    | split)

theorem after_benRest {s : State} (hI : After s0 s) (c : Nat) : After s0 (State.benRest s c) := by
  simp only [State.benRest]
  simp +contextual (maxDischargeDepth := 100) only [hI, after_benFall, after_ite]

theorem after_showTx {s : State} (hI : After s0 s) (c : Nat) : After s0 (State.showTx s c) := by
  simp only [State.showTx]
  simp +contextual (maxDischargeDepth := 100) only [hI, after_benRest, after_showTxOn]

theorem after_grantMiss {s : State} (hI : After s0 s) (c off ix k : Nat) : After s0 (State.grantMiss s c off ix k) :=
    by
  simp only [State.grantMiss]
  simp +contextual (maxDischargeDepth := 100) only [hI, after_pCount, after_tallyAdd, after_ite]

theorem after_dropBurst {s : State} (hI : After s0 s) (c : Nat) (b : Burst) (off k : Nat) : After s0 (State.dropBurst
    s c b off k) := by
  simp only [State.dropBurst]
  simp +contextual (maxDischargeDepth := 100) only [hI, after_foldl, after_grantMiss, after_restore, after_setPn,
    implies_true]

theorem after_cancelBurst {s : State} (hI : After s0 s) (c : Nat) (b : Burst) : After s0 (State.cancelBurst s c b) :=
    by
  simp only [State.cancelBurst]
  simp +contextual (maxDischargeDepth := 100) only [hI, after_dropBurst]

theorem after_sleepBurst {s : State} (hI : After s0 s) (c : Nat) (b : Burst) : After s0 (State.sleepBurst s c b) := by
  simp only [State.sleepBurst]
  simp +contextual (maxDischargeDepth := 100) only [hI, after_dropBurst]

theorem after_cancelBursts {s : State} (hI : After s0 s) (c : Nat) : After s0 (State.cancelBursts s c) := by
  simp only [State.cancelBursts]
  simp +contextual (maxDischargeDepth := 100) only [hI, after_cancelBurst, after_foldl, implies_true]

theorem after_setInh {s : State} (hI : After s0 s) (c k : Nat) (v : Bool) : After s0 (State.setInh s c k v) := by
  simp only [State.setInh]
  simp +contextual (maxDischargeDepth := 100) only [hI, after_cancelBursts, after_setPf, after_showTx, after_ite]

theorem after_setTxOff {s : State} (hI : After s0 s) (c : Nat) (v : Bool) : After s0 (State.setTxOff s c v) := by
  simp only [State.setTxOff]
  simp +contextual (maxDischargeDepth := 100) only [hI, after_setInh, after_setPf]

theorem after_registration {s : State} (hI : After s0 s) (c : Nat) : After s0 (State.registration s c).1 := by
  simp only [State.registration]
  simp +contextual (maxDischargeDepth := 100) only [hI, after_ploamReject, after_setPn, after_ite]

theorem after_ponKey {s : State} (hI : After s0 s) (c n use key src : Nat) : After s0 (State.ponKey s c n use key
    src) := by
  simp only [State.ponKey]
  simp +contextual (maxDischargeDepth := 100) only [hI, after_keyWrite, after_setPn]

theorem after_deriveKeys {s : State} (hI : After s0 s) (c : Nat) (id : List Byte) : After s0 (State.deriveKeys s c
    id) := by
  simp only [State.deriveKeys]
  simp +contextual (maxDischargeDepth := 100) only [hI, after_ponKey]

theorem after_missEvent {s : State} (hI : After s0 s) (c row allocId : Nat) : After s0 (State.missEvent s c row
    allocId) := by
  simp only [State.missEvent]
  simp +contextual (maxDischargeDepth := 100) only [hI, after_pRaiseMs]

theorem after_bwmapLost {s : State} (hI : After s0 s) (c : Nat) : After s0 (State.bwmapLost s c) := by
  simp only [State.bwmapLost]
  simp +contextual (maxDischargeDepth := 100) only [hI, after_foldl, after_pCount, after_pRaiseMs, after_tallyAdd,
    implies_true]

theorem after_rowMiss {s : State} (hI : After s0 s) (c row ix allocId : Nat) : After s0 (State.rowMiss s c row ix
    allocId) := by
  simp only [State.rowMiss]
  simp +contextual (maxDischargeDepth := 100) only [hI, after_grantMiss, after_missEvent, after_setPn, after_ite]

theorem after_snDelay {s : State} (hI : After s0 s) (c : Nat) : After s0 (State.snDelay s c).1 := by
  simp only [State.snDelay]
  simp +contextual (maxDischargeDepth := 100) only [hI, after_takeFree]

theorem after_newBurst {s : State} (hI : After s0 s) (c : Nat) (e : BwEntry) (ix prof : Nat) : After s0
    (State.newBurst s c e ix prof) := by
  simp only [State.newBurst]
  simp +contextual (maxDischargeDepth := 100) only [hI, after_rowMiss, after_setPn, after_snDelay, after_ite,
    after_ite_fst]

theorem after_joinBurst {s : State} (hI : After s0 s) (c : Nat) (e : BwEntry) (ix : Nat) : After s0 (State.joinBurst
    s c e ix) := by
  simp only [State.joinBurst]
  repeat' (first
    | (simp +contextual (maxDischargeDepth := 100) only [hI, after_setPn]; done)
    | split)

theorem after_bwEntry {s : State} (hI : After s0 s) (c : Nat) (e : BwEntry) : After s0 (State.bwEntry s c e) := by
  simp only [State.bwEntry]
  repeat' (first
    | (simp +contextual (maxDischargeDepth := 100) only [hI, after_joinBurst, after_newBurst, after_pCount,
        after_rowMiss, after_setPn, after_ite]; done)
    | split)

theorem after_bwEnd {s : State} (hI : After s0 s) (c : Nat) : After s0 (State.bwEnd s c) := by
  simp only [State.bwEnd]
  simp +contextual (maxDischargeDepth := 100) only [hI, after_foldl, after_grantMiss, after_missEvent, after_setBcs,
    after_setPn, implies_true]

theorem after_showRdi {s : State} (hI : After s0 s) (c : Nat) : After s0 (State.showRdi s c) := by
  simp only [State.showRdi]
  simp +contextual (maxDischargeDepth := 100) only [hI, after_setPf]

theorem after_fixPloam {s : State} (hI : After s0 s) (c : Nat) (b : Burst) (a : Alloc) : After s0 (State.fixPloam s c
    b a).1 := by
  simp only [State.fixPloam]
  repeat' (first
    | (simp +contextual (maxDischargeDepth := 100) only [hI, after_registration, after_setPn]; done)
    | split)

theorem after_fixHeader {s : State} (hI : After s0 s) (c : Nat) (b : Burst) (a : Alloc) : After s0 (State.fixHeader s
    c b a).1 := by
  simp only [State.fixHeader]
  simp +contextual (maxDischargeDepth := 100) only [hI, after_fixPloam]

theorem after_fixAlloc {s : State} (hI : After s0 s) (c : Nat) (b : Burst) (i : Nat) : After s0 (State.fixAlloc s c b
    i) := by
  simp only [State.fixAlloc]
  repeat' (first
    | (simp +contextual (maxDischargeDepth := 100) only [hI, after_compose, after_fixHeader, after_setPn,
        after_ite_fst]; done)
    | split)

theorem after_fixDue {s : State} (h : After s0 s) (c t n : Nat) : After s0 (s.fixDue c t n) := by
  induction n generalizing s with
  | zero => exact h
  | succ n ih =>
    simp only [State.fixDue]
    repeat' (first | (simp +contextual (maxDischargeDepth := 100) only [h, ih, after_toUnits, after_fixAlloc, after_mk, after_eq, after_ite, after_ite_fst, after_foldl, after_foldl_fst, implies_true]; done) | split)

theorem after_ploamSent {s : State} (hI : After s0 s) (c : Nat) (x : PloamItem) : After s0 (State.ploamSent s c x) :=
    by
  simp only [State.ploamSent]
  repeat' (first
    | (simp +contextual (maxDischargeDepth := 100) only [hI, after_deriveKeys, after_pCount, after_setPn]; done)
    | split)

theorem after_launchBurst {s : State} (hI : After s0 s) (c : Nat) (b : Burst) : After s0 (State.launchBurst s c b) :=
    by
  simp only [State.launchBurst]
  simp +contextual (maxDischargeDepth := 100) only [hI, after_benRise, after_setPn]

theorem after_countAlloc {s : State} (hI : After s0 s) (c : Nat) (a : Alloc) (first : Bool) : After s0
    (State.countAlloc s c a first) := by
  simp only [State.countAlloc]
  repeat' (first
    | (simp +contextual (maxDischargeDepth := 100) only [hI, after_count, after_pCount, after_pmc, after_tallyAdd,
        after_ite]; done)
    | split)

theorem after_finishBurst {s : State} (hI : After s0 s) (c : Nat) (b : Burst) (upto : Nat) (stopped : Bool) : After
    s0 (State.finishBurst s c b upto stopped) := by
  simp only [State.finishBurst]
  repeat' (first
    | (simp +contextual (maxDischargeDepth := 100) only [hI, after_countAlloc, after_emit, after_foldl, after_setPn,
        implies_true]; done)
    | split)

theorem after_stwOptics {s : State} (hI : After s0 s) (c : Nat) (off : Bool) : After s0 (State.stwOptics s c off) :=
    by
  simp only [State.stwOptics]
  simp +contextual (maxDischargeDepth := 100) only [hI, after_emit, after_mk, after_eq, after_ite]

theorem after_benMissed {s : State} (hI : After s0 s) (c : Nat) : After s0 (State.benMissed s c) := by
  simp only [State.benMissed]
  simp +contextual (maxDischargeDepth := 100) only [hI, after_pCount, after_pRaiseMs, after_setPn, after_ite]

theorem after_benCheck {s : State} (hI : After s0 s) (c : Nat) (active : Bool) (t : Nat) : After s0 (State.benCheck s
    c active t) := by
  simp only [State.benCheck]
  simp +contextual (maxDischargeDepth := 100) only [hI, after_benMissed, after_setPn, after_toUnits, after_ite]

theorem after_wrUsCtrl {s : State} (hI : After s0 s) (c v : Nat) (quiet : Bool) : After s0 (State.wrUsCtrl s c v
    quiet) := by
  simp only [State.wrUsCtrl]
  simp +contextual (maxDischargeDepth := 100) only [hI, after_setInh, after_setPf, after_showRdi, after_store,
    after_stwOptics, after_ite]

/-! ### Of Machine/Pattern.lean -/

theorem after_setPrbs {s : State} (hI : After s0 s) (lane : Nat) (p : Prbs) : After s0 (State.setPrbs s lane p) := by
  simp only [State.setPrbs]
  simp +contextual (maxDischargeDepth := 100) only [hI, after_mk, after_eq]

theorem after_setPrbsLock {s : State} (hI : After s0 s) (lane : Nat) (v : Bool) : After s0 (State.setPrbsLock s lane
    v) := by
  simp only [State.setPrbsLock]
  simp +contextual (maxDischargeDepth := 100) only [hI, after_raise, after_setBit, after_setF, after_ite]

theorem after_prbsStart {s : State} (hI : After s0 s) (lane : Nat) : After s0 (State.prbsStart s lane) := by
  simp only [State.prbsStart]
  simp +contextual (maxDischargeDepth := 100) only [hI, after_setPrbs, after_takeFree]

theorem after_prbsSend {s : State} (hI : After s0 s) (lane : Nat) : After s0 (State.prbsSend s lane).1 := by
  simp only [State.prbsSend]
  simp +contextual (maxDischargeDepth := 100) only [hI, after_setPrbs]

theorem after_prbsHunt {s : State} (hI : After s0 s) (lane : Nat) (x : Bool) : After s0 (State.prbsHunt s lane x) :=
    by
  simp only [State.prbsHunt]
  simp +contextual (maxDischargeDepth := 100) only [hI, after_setPrbs, after_setPrbsLock, after_ite]

theorem after_prbsCompare {s : State} (hI : After s0 s) (lane : Nat) (x : Bool) : After s0 (State.prbsCompare s lane
    x) := by
  simp only [State.prbsCompare]
  simp +contextual (maxDischargeDepth := 100) only [hI, after_count, after_setF, after_setPrbs, after_setPrbsLock,
    after_ite]

theorem after_prbsRecv {s : State} (hI : After s0 s) (lane : Nat) (bit : Bool) : After s0 (State.prbsRecv s lane bit)
    := by
  simp only [State.prbsRecv]
  simp +contextual (maxDischargeDepth := 100) only [hI, after_prbsCompare, after_prbsHunt, after_ite]

theorem after_prbsPins {s : State} (hI : After s0 s) (lane : Nat) (rx tx : List Bool) : After s0 (State.prbsPins s
    lane rx tx) := by
  simp only [State.prbsPins]
  simp +contextual (maxDischargeDepth := 100) only [hI, after_emit, after_ite]

theorem after_prbsStop {s : State} (hI : After s0 s) (lane : Nat) : After s0 (State.prbsStop s lane) := by
  simp only [State.prbsStop]
  simp +contextual (maxDischargeDepth := 100) only [hI, after_setF, after_setPrbs, after_setPrbsLock]

theorem after_prbsLeave {s : State} (hI : After s0 s) (c : Nat) : After s0 (State.prbsLeave s c) := by
  simp only [State.prbsLeave]
  simp +contextual (maxDischargeDepth := 100) only [hI, after_benFall, after_prbsStop, after_setPf, after_ite]

/-! ### Of Machine/Act.lean -/

theorem after_psGo {s : State} (hI : After s0 s) (c new : Nat) : After s0 (State.psGo s c new) := by
  simp only [State.psGo]
  simp +contextual (maxDischargeDepth := 100) only [hI, after_pRaise, after_setPf, after_showTx, after_startTimer,
    after_stopTimer, after_ite]

theorem after_psWake {s : State} (hI : After s0 s) (c : Nat) : After s0 (State.psWake s c) := by
  simp only [State.psWake]
  simp +contextual (maxDischargeDepth := 100) only [hI, after_hwPloam, after_psGo]

theorem after_psRow {s : State} (hI : After s0 s) (c : Nat) : After s0 (State.psRow s c) := by
  simp only [State.psRow]
  simp +contextual (maxDischargeDepth := 100) only [hI, after_hwPloam, after_psGo, after_psWake, after_ite]

theorem after_psCheck {s : State} (hI : After s0 s) (c : Nat) : After s0 (State.psCheck s c) := by
  simp only [State.psCheck]
  simp +contextual (maxDischargeDepth := 100) only [hI, after_psRow]

theorem after_psFwi {s : State} (hI : After s0 s) (c : Nat) : After s0 (State.psFwi s c) := by
  simp only [State.psFwi]
  simp +contextual (maxDischargeDepth := 100) only [hI, after_psWake, after_ite]

theorem after_showStripeEx {s : State} (hI : After s0 s) (c : Nat) : After s0 (State.showStripeEx s c) := by
  simp only [State.showStripeEx]
  simp +contextual (maxDischargeDepth := 100) only [hI, after_setPf]

theorem after_svcGo {s : State} (hI : After s0 s) (c new cause : Nat) : After s0 (State.svcGo s c new cause) := by
  simp only [State.svcGo]
  simp +contextual (maxDischargeDepth := 100) only [hI, after_pCount, after_pRaise, after_prbsLeave, after_setPf,
    after_settleEvery, after_showStripeEx, after_startTimer, after_stopTimer, after_ite]

theorem after_svcLost {s : State} (hI : After s0 s) (c : Nat) : After s0 (State.svcLost s c) := by
  simp only [State.svcLost]
  simp +contextual (maxDischargeDepth := 100) only [hI, after_flushTill, after_setTxOff, after_svcGo, after_ite]

theorem after_erasePonKeys {s : State} (hI : After s0 s) (c : Nat) : After s0 (State.erasePonKeys s c) := by
  simp only [State.erasePonKeys]
  simp +contextual (maxDischargeDepth := 100) only [hI, after_foldl, after_keyWrite, after_setPn, implies_true]

theorem after_clearAct {s : State} (hI : After s0 s) (c : Nat) : After s0 (State.clearAct s c) := by
  simp only [State.clearAct]
  simp +contextual (maxDischargeDepth := 100) only [hI, after_erasePonKeys, after_psGo, after_setPf, after_setPn]

theorem after_actTimers {s : State} (hI : After s0 s) (c new : Nat) : After s0 (State.actTimers s c new) := by
  simp only [State.actTimers]
  simp +contextual (maxDischargeDepth := 100) only [hI, after_startTimer, after_stopTimer, after_ite]

theorem after_actMoved {s : State} (hI : After s0 s) (c old new cause : Nat) : After s0 (State.actMoved s c old new
    cause) := by
  simp only [State.actMoved]
  simp +contextual (maxDischargeDepth := 100) only [hI, after_actTimers, after_cancelBursts, after_pRaise,
    after_setPf, after_ite]

theorem after_actFollow {s : State} (hI : After s0 s) (c old new : Nat) : After s0 (State.actFollow s c old new) := by
  simp only [State.actFollow]
  simp +contextual (maxDischargeDepth := 100) only [hI, after_psGo, after_servoChannelFault, after_setPn,
    after_showStripeEx, after_showTx, after_stopTimer, after_svcGo, after_svcLost, after_ite]

theorem after_actEnter {s : State} (hI : After s0 s) (c new cause : Nat) : After s0 (State.actEnter s c new cause) :=
    by
  simp only [State.actEnter]
  simp +contextual (maxDischargeDepth := 100) only [hI, after_actFollow, after_actMoved, after_ite]

theorem after_actGo {s : State} (hI : After s0 s) (c new cause : Nat) : After s0 (State.actGo s c new cause) := by
  simp only [State.actGo]
  simp +contextual (maxDischargeDepth := 100) only [hI, after_actEnter, after_ite]

theorem after_syncChanged {s : State} (hI : After s0 s) (c : Nat) (inSync : Bool) : After s0 (State.syncChanged s c
    inSync) := by
  simp only [State.syncChanged]
  simp +contextual (maxDischargeDepth := 100) only [hI, after_actGo, after_clearAct, after_ite]

theorem after_restart {s : State} (hI : After s0 s) (c : Nat) : After s0 (State.restart s c) := by
  simp only [State.restart]
  simp +contextual (maxDischargeDepth := 100) only [hI, after_actGo, after_clearAct, after_ite]

theorem after_pnStart {s : State} (hI : After s0 s) (c : Nat) : After s0 (State.pnStart s c) := by
  simp only [State.pnStart]
  simp +contextual (maxDischargeDepth := 100) only [hI, after_actGo, after_setPf, after_setTxOff, after_svcGo,
    after_ite]

theorem after_wrActCtrl {s : State} (hI : After s0 s) (c v : Nat) : After s0 (State.wrActCtrl s c v) := by
  simp only [State.wrActCtrl]
  simp +contextual (maxDischargeDepth := 100) only [hI, after_restart, after_setTxOff, after_ite]

theorem after_wrSvcCtrl {s : State} (hI : After s0 s) (c v : Nat) : After s0 (State.wrSvcCtrl s c v) := by
  simp only [State.wrSvcCtrl]
  simp +contextual (maxDischargeDepth := 100) only [hI, after_pRaise, after_restart, after_setPf, after_setTxOff,
    after_svcGo, after_ite]

theorem after_ospPush {s : State} (hI : After s0 s) (c typ : Nat) (data : List Byte) : After s0 (State.ospPush s c
    typ data) := by
  simp only [State.ospPush]
  simp +contextual (maxDischargeDepth := 100) only [hI, after_pCount, after_pRaiseMs, after_setPn, after_ite]

theorem after_onPloam {s : State} (hI : After s0 s) (c : Nat) (h : PloamIn) (f : State → State) (h_f : ∀ s : State,
    After s0 s → After s0 (f s)) : After s0 (State.onPloam s c h f) := by
  simp only [State.onPloam]
  simp +contextual (maxDischargeDepth := 100) only [hI, after_ospPush, after_pCount, after_ploamReject, h_f,
    after_ite]

theorem after_onHwPloam {s : State} (hI : After s0 s) (c : Nat) (h : PloamIn) (f : State → State) (h_f : ∀ s : State,
    After s0 s → After s0 (f s)) : After s0 (State.onHwPloam s c h f) := by
  simp only [State.onHwPloam]
  simp +contextual (maxDischargeDepth := 100) only [hI, after_onPloam, after_pCount, h_f, implies_true]

theorem after_ploamParam {s : State} (hI : After s0 s) (c : Nat) (h : PloamIn) : After s0 (State.ploamParam s c h) :=
    by
  simp only [State.ploamParam]
  simp +contextual (maxDischargeDepth := 100) only [hI, after_hwPloam, after_ploamReject]

theorem after_ackOk {s : State} (hI : After s0 s) (c : Nat) (h : PloamIn) : After s0 (State.ackOk s c h) := by
  simp only [State.ackOk]
  simp +contextual (maxDischargeDepth := 100) only [hI, after_hwPloam, after_ite]

theorem after_allocRefused {s : State} (hI : After s0 s) (c allocId cause : Nat) : After s0 (State.allocRefused s c
    allocId cause) := by
  simp only [State.allocRefused]
  simp +contextual (maxDischargeDepth := 100) only [hI, after_hwPloam, after_pCount, after_pRaise]

theorem after_stewardPloam {s : State} (hI : After s0 s) (c : Nat) (inquire : Bool) (raw : List Byte) : After s0
    (State.stewardPloam s c inquire raw) := by
  simp only [State.stewardPloam]
  simp +contextual (maxDischargeDepth := 100) only [hI, after_emit, after_queuePloam, after_takeFree, after_ite]

theorem after_onStwPloam {s : State} (hI : After s0 s) (c : Nat) (h : PloamIn) (inquire : Bool) : After s0
    (State.onStwPloam s c h inquire) := by
  simp only [State.onStwPloam]
  simp +contextual (maxDischargeDepth := 100) only [hI, after_count, after_onPloam, after_pCount, after_setPn,
    after_stewardPloam, after_ite, implies_true]

theorem after_wrAllocCmd {s : State} (hI : After s0 s) (c v : Nat) : After s0 (State.wrAllocCmd s c v) := by
  simp only [State.wrAllocCmd]
  simp +contextual (maxDischargeDepth := 100) only [hI, after_setPf, after_setPn, after_setReg, after_ite]

/-! ### Of Machine/Pon.lean -/

theorem after_markerOut {s : State} (hI : After s0 s) (c sf seq : Nat) : After s0 (State.markerOut s c sf seq) := by
  simp only [State.markerOut]
  simp +contextual (maxDischargeDepth := 100) only [hI, after_pCount, after_mk, after_eq, after_ite]

theorem after_sendMarker {s : State} (hI : After s0 s) (c : Nat) (r : Reasm) : After s0 (State.sendMarker s c r) := by
  simp only [State.sendMarker]
  simp +contextual (maxDischargeDepth := 100) only [hI, after_markerOut, after_ite]

theorem after_reasmErr {s : State} (hI : After s0 s) (c : Nat) (r : Reasm) : After s0 (State.reasmErr s c r) := by
  simp only [State.reasmErr]
  simp +contextual (maxDischargeDepth := 100) only [hI, after_pCount, after_pRaiseMs]

theorem after_dropReasm {s : State} (hI : After s0 s) (c pid : Nat) : After s0 (State.dropReasm s c pid) := by
  simp only [State.dropReasm]
  simp +contextual (maxDischargeDepth := 100) only [hI, after_setPn]

theorem after_dropReasms {s : State} (hI : After s0 s) (c : Nat) : After s0 (State.dropReasms s c) := by
  simp only [State.dropReasms]
  simp +contextual (maxDischargeDepth := 100) only [hI, after_foldl, after_reasmErr, after_sendMarker, after_setPn,
    implies_true]

theorem after_damage {s : State} (hI : After s0 s) (c : Nat) : After s0 (State.damage s c) := by
  simp only [State.damage]
  simp +contextual (maxDischargeDepth := 100) only [hI, after_setPn]

theorem after_todEnd {s : State} (hI : After s0 s) (c : Nat) (miss : Bool) : After s0 (State.todEnd s c miss) := by
  simp only [State.todEnd]
  simp +contextual (maxDischargeDepth := 100) only [hI, after_pRaise, after_setPf, after_mk, after_eq, after_ite]

theorem after_todMiss {s : State} (hI : After s0 s) (c : Nat) : After s0 (State.todMiss s c) := by
  simp only [State.todMiss]
  simp +contextual (maxDischargeDepth := 100) only [hI, after_todEnd, after_ite]

theorem after_todSteward {s : State} (hI : After s0 s) (c : Nat) : After s0 (State.todSteward s c) := by
  simp only [State.todSteward]
  simp +contextual (maxDischargeDepth := 100) only [hI, after_wrPtodCtrl, after_mk, after_eq, after_ite]

theorem after_todCapture {s : State} (hI : After s0 s) (c : Nat) (st : StampIn) : After s0 (State.todCapture s c st)
    := by
  simp only [State.todCapture]
  simp +contextual (maxDischargeDepth := 100) only [hI, after_putTime, after_todEnd, after_todSteward, after_mk,
    after_eq, after_ite]

theorem after_wrTodCtrl {s : State} (hI : After s0 s) (c v : Nat) : After s0 (State.wrTodCtrl s c v) := by
  simp only [State.wrTodCtrl]
  simp +contextual (maxDischargeDepth := 100) only [hI, after_setPf, after_setPn, after_setRegs, after_todEnd,
    after_ite]

theorem after_setSfc {s : State} (hI : After s0 s) (c v : Nat) : After s0 (State.setSfc s c v) := by
  simp only [State.setSfc]
  simp +contextual (maxDischargeDepth := 100) only [hI, after_setPf]

theorem after_setCands {s : State} (hI : After s0 s) (c : Nat) (l : List Cand) : After s0 (State.setCands s c l) := by
  simp only [State.setCands]
  simp +contextual (maxDischargeDepth := 100) only [hI, after_setPf, after_setPn]

theorem after_alignLeave {s : State} (hI : After s0 s) (c new : Nat) : After s0 (State.alignLeave s c new) := by
  simp only [State.alignLeave]
  simp +contextual (maxDischargeDepth := 100) only [hI, after_dropReasms, after_servoChannelFault, after_setCands,
    after_setPf, after_setSfc, after_syncChanged, after_todMiss, after_ite]

theorem after_adapt {s : State} (hI : After s0 s) (c : Nat) : After s0 (State.adapt s c) := by
  simp only [State.adapt]
  simp +contextual (maxDischargeDepth := 100) only [hI, after_setPf, after_setPn, after_takeFree, after_ite]

theorem after_wrRxEq {s : State} (hI : After s0 s) (c v : Nat) : After s0 (State.wrRxEq s c v) := by
  simp only [State.wrRxEq]
  simp +contextual (maxDischargeDepth := 100) only [hI, after_adapt, after_setPn, after_store]

theorem after_setLos {s : State} (hI : After s0 s) (c : Nat) (v : Bool) : After s0 (State.setLos s c v) := by
  simp only [State.setLos]
  simp +contextual (maxDischargeDepth := 100) only [hI, after_adapt, after_alignLeave, after_pCount, after_pRaise,
    after_pRaiseMs, after_setPf, after_ite]

theorem after_showLos {s : State} (hI : After s0 s) (c : Nat) : After s0 (State.showLos s c) := by
  simp only [State.showLos]
  simp +contextual (maxDischargeDepth := 100) only [hI, after_setLos]

theorem after_showTiCal {s : State} (hI : After s0 s) (c : Nat) : After s0 (State.showTiCal s c) := by
  simp only [State.showTiCal]
  simp +contextual (maxDischargeDepth := 100) only [hI, after_setPf]

theorem after_wrRxCtrl {s : State} (hI : After s0 s) (c v : Nat) : After s0 (State.wrRxCtrl s c v) := by
  simp only [State.wrRxCtrl]
  simp +contextual (maxDischargeDepth := 100) only [hI, after_alignLeave, after_pllBusy, after_showLos,
    after_showTiCal, after_store, after_ite]

theorem after_frameStart {s : State} (hI : After s0 s) (c : Nat) : After s0 (State.frameStart s c) := by
  simp only [State.frameStart]
  simp +contextual (maxDischargeDepth := 100) only [hI, after_setPn]

theorem after_alignLock {s : State} (hI : After s0 s) (c pos sfc : Nat) : After s0 (State.alignLock s c pos sfc) := by
  simp only [State.alignLock]
  simp +contextual (maxDischargeDepth := 100) only [hI, after_frameStart, after_pRaise, after_setCands, after_setPf,
    after_setPn, after_setSfc, after_syncChanged]

theorem after_candPattern {s : State} (hI : After s0 s) (c : Nat) (k : Cand) (ok : Bool) (sfc : Nat) : After s0
    (State.candPattern s c k ok sfc) := by
  simp only [State.candPattern]
  simp +contextual (maxDischargeDepth := 100) only [hI, after_alignLock, after_pCount, after_setCands, after_setPf,
    after_ite]

theorem after_newPattern {s : State} (hI : After s0 s) (c pos sfc : Nat) : After s0 (State.newPattern s c pos sfc) :=
    by
  simp only [State.newPattern]
  simp +contextual (maxDischargeDepth := 100) only [hI, after_alignLock, after_pCount, after_pRaise, after_setCands,
    after_setPf, after_ite]

theorem after_syncPattern {s : State} (hI : After s0 s) (c : Nat) (ok : Bool) (sfc : Nat) (st : StampIn) : After s0
    (State.syncPattern s c ok sfc st) := by
  simp only [State.syncPattern]
  simp +contextual (maxDischargeDepth := 100) only [hI, after_alignLeave, after_frameStart, after_pCount,
    after_pRaise, after_setPn, after_setSfc, after_todCapture, after_todMiss, after_ite]

theorem after_omccIn {s : State} (hI : After s0 s) (c : Nat) (data : List Byte) : After s0 (State.omccIn s c data) :=
    by
  simp only [State.omccIn]
  simp +contextual (maxDischargeDepth := 100) only [hI, after_count, after_ospPush, after_pCount, after_setPn,
    after_ite]

theorem after_dsDrop {s : State} (hI : After s0 s) (c ctr cause : Nat) (r : Reasm) : After s0 (State.dsDrop s c ctr
    cause r) := by
  simp only [State.dsDrop]
  simp +contextual (maxDischargeDepth := 100) only [hI, after_pCount, after_pRaiseMs, after_sendMarker]

theorem after_deliverSdu {s : State} (hI : After s0 s) (c : Nat) (r : Reasm) (bytes : List Byte) : After s0
    (State.deliverSdu s c r bytes) := by
  simp only [State.deliverSdu]
  simp +contextual (maxDischargeDepth := 100) only [hI, after_dsDrop, after_pCount, after_rateShort, after_mk,
    after_eq, after_ite]

theorem after_sduDone {s : State} (hI : After s0 s) (c : Nat) (r : Reasm) : After s0 (State.sduDone s c r) := by
  simp only [State.sduDone]
  simp +contextual (maxDischargeDepth := 100) only [hI, after_deliverSdu, after_omccIn, after_pCount,
    after_sendMarker, after_ite]

theorem after_keyFault {s : State} (hI : After s0 s) (c ctr slot cause : Nat) : After s0 (State.keyFault s c ctr slot
    cause) := by
  simp only [State.keyFault]
  simp +contextual (maxDischargeDepth := 100) only [hI, after_count, after_pCount, after_pRaiseMs, after_slotAbsent,
    after_ite]

theorem after_decrypt {s : State} (hI : After s0 s) (c : Nat) (x : XgemIn) (entry : Option (Nat × Nat)) : After s0
    (State.decrypt s c x entry).1 := by
  simp only [State.decrypt]
  repeat' (first
    | (simp +contextual (maxDischargeDepth := 100) only [hI, after_keyFault, after_pmc, after_vaultFault,
        after_ite_fst]; done)
    | split)

theorem after_keySeen {s : State} (hI : After s0 s) (c idx : Nat) : After s0 (State.keySeen s c idx) := by
  simp only [State.keySeen]
  simp +contextual (maxDischargeDepth := 100) only [hI, after_foldl, after_pRaise, after_setPn, implies_true]

theorem after_skipRest {s : State} (hI : After s0 s) (c : Nat) (x : XgemIn) : After s0 (State.skipRest s c x) := by
  simp only [State.skipRest]
  simp +contextual (maxDischargeDepth := 100) only [hI, after_dropReasm, after_setPn]

theorem after_joinSdu {s : State} (hI : After s0 s) (c : Nat) (x : XgemIn) (r : Reasm) (first : Bool) (data : List
    Byte) : After s0 (State.joinSdu s c x r first data) := by
  simp only [State.joinSdu]
  simp +contextual (maxDischargeDepth := 100) only [hI, after_dropReasm, after_pCount, after_reasmErr, after_sduDone,
    after_sendMarker, after_setPn, after_skipRest, after_ite]

theorem after_wrongSize {s : State} (hI : After s0 s) (c : Nat) (x : XgemIn) (r : Reasm) (skipping : Bool) : After s0
    (State.wrongSize s c x r skipping) := by
  simp only [State.wrongSize]
  simp +contextual (maxDischargeDepth := 100) only [hI, after_pCount, after_sendMarker, after_skipRest, after_ite]

theorem after_xgemMatched {s : State} (h : After s0 s) (c : Nat) (x : XgemIn) (entry : Option (Nat × Nat)) :
    After s0 (s.xgemMatched c x entry) := by
  cases entry with
  | none =>
    simp only [State.xgemMatched]
    split
    · simp +contextual (maxDischargeDepth := 100) only [h, after_wrongSize, after_keySeen, after_tallyAdd, after_mk, after_eq, after_ite, after_ite_fst, after_foldl, after_foldl_fst, implies_true]
    split
    all_goals
      next e =>
        have k := congrArg (fun r => After s0 r.1) e
        simp only at k
        have k1 := k ▸ after_decrypt (by simp +contextual (maxDischargeDepth := 100) only [h, after_keySeen, after_mk, after_eq, after_ite, after_ite_fst, after_foldl, after_foldl_fst, implies_true]) c x none
        simp +contextual (maxDischargeDepth := 100) only [k1, after_sendMarker, after_skipRest, after_pmc, after_joinSdu, after_mk, after_eq, after_ite, after_ite_fst, after_foldl, after_foldl_fst, implies_true]
  | some ent =>
    simp only [State.xgemMatched]
    split
    · simp +contextual (maxDischargeDepth := 100) only [h, after_wrongSize, after_keySeen, after_tallyAdd, after_mk, after_eq, after_ite, after_ite_fst, after_foldl, after_foldl_fst, implies_true]
    split
    all_goals
      next e =>
        have k := congrArg (fun r => After s0 r.1) e
        simp only at k
        have k1 := k ▸ after_decrypt (by simp +contextual (maxDischargeDepth := 100) only [h, after_tallyAdd, after_keySeen, after_mk, after_eq, after_ite, after_ite_fst, after_foldl, after_foldl_fst, implies_true]) c x (some ent)
        simp +contextual (maxDischargeDepth := 100) only [k1, after_sendMarker, after_skipRest, after_pmc, after_joinSdu, after_mk, after_eq, after_ite, after_ite_fst, after_foldl, after_foldl_fst, implies_true]

theorem after_xgemLost {s : State} (hI : After s0 s) (c ctr cause : Nat) : After s0 (State.xgemLost s c ctr cause) :=
    by
  simp only [State.xgemLost]
  simp +contextual (maxDischargeDepth := 100) only [hI, after_damage, after_pCount, after_pRaiseMs, after_setPn]

theorem after_xgemLookup {s : State} (hI : After s0 s) (c : Nat) (x : XgemIn) : After s0 (State.xgemLookup s c x) :=
    by
  simp only [State.xgemLookup]
  repeat' (first
    | (simp +contextual (maxDischargeDepth := 100) only [hI, after_pCount, after_xgemMatched]; done)
    | split)

theorem after_setPid {s : State} (hI : After s0 s) (c i v : Nat) : After s0 (State.setPid s c i v) := by
  simp only [State.setPid]
  simp +contextual (maxDischargeDepth := 100) only [hI, after_dropReasm, after_foldl, after_reasmErr, after_setPn,
    after_ite, implies_true]

theorem after_wrPidCmd {s : State} (hI : After s0 s) (c v : Nat) : After s0 (State.wrPidCmd s c v) := by
  simp only [State.wrPidCmd]
  simp +contextual (maxDischargeDepth := 100) only [hI, after_setPf, after_setPid, after_setRegs, after_ite]

theorem after_ospDo {s : State} (h : After s0 s) (c : Nat) (f : State → State × List Byte)
    (hf : ∀ s : State, After s0 s → After s0 (f s).1) : After s0 (s.ospDo c f) := by
  simp only [State.ospDo]
  split
  · exact h
  · split
    · exact after_emit h _
    · split
      · exact h
      · exact after_emit (hf s h) _

theorem after_storeLate {s : State} (hI : After s0 s) (p : Packet) : After s0 (State.storeLate s p).1 := by
  simp only [State.storeLate]
  simp +contextual (maxDischargeDepth := 100) only [hI, after_storePkt, after_ite_fst]

/-! ### Of Machine/Secy.lean -/

theorem after_setSec {s : State} (hI : After s0 s) (n k v : Nat) : After s0 (State.setSec s n k v) := by
  simp only [State.setSec]
  simp +contextual (maxDischargeDepth := 100) only [hI, after_setPort]

theorem after_wrSecCmd {s : State} (hI : After s0 s) (n v : Nat) : After s0 (State.wrSecCmd s n v) := by
  simp only [State.wrSecCmd]
  repeat' (first
    | (simp +contextual (maxDischargeDepth := 100) only [hI, after_setF, after_setRegs, after_setSec, after_ite];
        done)
    | split)

theorem after_wrSecCfg {s : State} (hI : After s0 s) (n v : Nat) : After s0 (State.wrSecCfg s n v) := by
  simp only [State.wrSecCfg]
  simp +contextual (maxDischargeDepth := 100) only [hI, after_store, after_ite]

theorem after_secBlocks {s : State} (hI : After s0 s) (n len : Nat) : After s0 (State.secBlocks s n len) := by
  simp only [State.secBlocks]
  simp +contextual (maxDischargeDepth := 100) only [hI, after_pmc]

theorem after_secUsed {s : State} (hI : After s0 s) (n an e : Nat) : After s0 (State.secUsed s n an e) := by
  simp only [State.secUsed]
  simp +contextual (maxDischargeDepth := 100) only [hI, after_raise, after_setSec, after_ite]

theorem after_secProtect {s : State} (hI : After s0 s) (n an e key : Nat) (bs : List Byte) : After s0
    (State.secProtect s n an e key bs).1 := by
  simp only [State.secProtect]
  simp +contextual (maxDischargeDepth := 100) only [hI, after_count, after_secBlocks, after_secUsed, after_tallyAdd,
    after_ite]

theorem after_secTx {s : State} (hI : After s0 s) (n : Nat) (bs : List Byte) : After s0 (State.secTx s n bs).1 := by
  simp only [State.secTx]
  repeat' (first
    | (simp +contextual (maxDischargeDepth := 100) only [hI, after_count, after_raise, after_secProtect,
        after_setSec, after_slotAbsent, after_ite_fst]; done)
    | split)

theorem after_tqCount {s : State} (hI : After s0 s) (n c : Nat) (k : Nat ) : After s0 (State.tqCount s n c k) := by
  simp only [State.tqCount]
  simp +contextual (maxDischargeDepth := 100) only [hI, after_count]

theorem after_tqRaiseMs {s : State} (hI : After s0 s) (n src : Nat) (fs : List (Nat × Nat)) : After s0
    (State.tqRaiseMs s n src fs) := by
  simp only [State.tqRaiseMs]
  simp +contextual (maxDischargeDepth := 100) only [hI, after_raiseMs]

theorem after_secMismatch {s : State} (hI : After s0 s) (n slot : Nat) : After s0 (State.secMismatch s n slot) := by
  simp only [State.secMismatch]
  simp +contextual (maxDischargeDepth := 100) only [hI, after_count, after_vaultFault]

theorem after_secVerify {s : State} (hI : After s0 s) (n sa key sci : Nat) (t : SecTag) (bs : List Byte) (mismatch :
    Bool) : After s0 (State.secVerify s n sa key sci t bs mismatch).1 := by
  simp only [State.secVerify]
  simp +contextual (maxDischargeDepth := 100) only [hI, after_secBlocks, after_secMismatch, after_setSec,
    after_tallyAdd, after_tqCount, after_tqRaiseMs, after_ite_fst]

theorem after_secRx {s : State} (hI : After s0 s) (n : Nat) (bs : List Byte) (mismatch : Bool) : After s0
    (State.secRx s n bs mismatch).1 := by
  simp only [State.secRx]
  repeat' (first
    | (simp +contextual (maxDischargeDepth := 100) only [hI, after_secVerify, after_slotAbsent, after_tqCount,
        after_tqRaiseMs, after_ite_fst]; done)
    | split)

/-! ### Of Machine/Tq.lean -/

theorem after_setTq {s : State} (hI : After s0 s) (n : Nat) (f : Fld) (v : Nat) : After s0 (State.setTq s n f v) := by
  simp only [State.setTq]
  simp +contextual (maxDischargeDepth := 100) only [hI, after_setF]

theorem after_tqRaise {s : State} (hI : After s0 s) (n src : Nat) (fs : List (Nat × Nat)) : After s0 (State.tqRaise s
    n src fs) := by
  simp only [State.tqRaise]
  simp +contextual (maxDischargeDepth := 100) only [hI, after_raise]

theorem after_showSpeed {s : State} (hI : After s0 s) (n : Nat) : After s0 (State.showSpeed s n) := by
  simp only [State.showSpeed]
  simp +contextual (maxDischargeDepth := 100) only [hI, after_setTq, after_ite]

theorem after_showLink {s : State} (hI : After s0 s) (n cause : Nat) : After s0 (State.showLink s n cause) := by
  simp only [State.showLink]
  simp +contextual (maxDischargeDepth := 100) only [hI, after_psCheck, after_raiseMs, after_setTq, after_tqCount,
    after_ite]

theorem after_syncLost {s : State} (hI : After s0 s) (n : Nat) : After s0 (State.syncLost s n) := by
  simp only [State.syncLost]
  simp +contextual (maxDischargeDepth := 100) only [hI, after_setTq, after_showLink]

theorem after_checkCfg {s : State} (hI : After s0 s) (n : Nat) : After s0 (State.checkCfg s n) := by
  simp only [State.checkCfg]
  simp +contextual (maxDischargeDepth := 100) only [hI, after_setTq, after_showLink, after_tqRaise, after_ite]

theorem after_setPllLock {s : State} (hI : After s0 s) (q pll : Nat) (lock : Bool) : After s0 (State.setPllLock s q
    pll lock) := by
  simp only [State.setPllLock]
  simp +contextual (maxDischargeDepth := 100) only [hI, after_foldl, after_raise, after_setBit, after_syncLost,
    after_ite, implies_true]

theorem after_prbsPon {s : State} (hI : After s0 s) (c : Nat) : After s0 (State.prbsPon s c) := by
  simp only [State.prbsPon]
  simp +contextual (maxDischargeDepth := 100) only [hI, after_alignLeave, after_benFall, after_benRise, after_ite]

theorem after_prbsArm {s : State} (hI : After s0 s) (lane old v : Nat) : After s0 (State.prbsArm s lane old v) := by
  simp only [State.prbsArm]
  simp +contextual (maxDischargeDepth := 100) only [hI, after_emit, after_prbsStart, after_setPrbs, after_takeFree,
    after_ite]

theorem after_ctrZero {s : State} (h : After s0 s) (a : Nat) : AfterOf s0 s.pending s.now s.freeNext s.regs
    (SMap.set (fun _ => 0) s.ctrs a 0) s.tally s.timers s.evt.bootBuf s.out := by
  refine { h with kept := { h.kept with ctrs_wf := smap_wf_set _ _ _ _ h.kept.ctrs_wf, ctr_lt := fun b => ?_ } }
  by_cases e : b = a
  · subst e
    simp
  · simpa [smap_get_set_other _ _ _ e] using h.kept.ctr_lt b

theorem after_wrPrbs {s : State} (h : After s0 s) (lane v : Nat) : After s0 (s.wrPrbs lane v) := by
  unfold State.wrPrbs
  dsimp only
  generalize (if lane < 48 then setBits v 19 19 0 else v) = v'
  split
  · exact h
  · generalize (s.reg _).toNat = old
    have h1 := after_store h (prbsB lane + (prbsF lane F.TQ_PRBS_CTRL.GEN_EN).off) v'
    generalize s.store (prbsB lane + (prbsF lane F.TQ_PRBS_CTRL.GEN_EN).off) v' = s1 at h1 ⊢
    have h2 : After s0 (if F.TQ_PRBS_CTRL.CLR.of v' = 1 then
        { s1.setF (prbsB lane) (prbsF lane F.TQ_PRBS_ERR.ERRORS) 0 with
          ctrs := SMap.set (fun _ => 0) s1.ctrs (prbsB lane + if lane < 48 then Ctr.TQ.PRBS_BITS else Ctr.PN.PRBS_BITS) 0 }
        else s1) := by
      split
      · exact after_ctrZero (after_setF h1 (prbsB lane) (prbsF lane F.TQ_PRBS_ERR.ERRORS) 0) _
      · exact h1
    generalize (if F.TQ_PRBS_CTRL.CLR.of v' = 1 then
        { s1.setF (prbsB lane) (prbsF lane F.TQ_PRBS_ERR.ERRORS) 0 with
          ctrs := SMap.set (fun _ => 0) s1.ctrs (prbsB lane + if lane < 48 then Ctr.TQ.PRBS_BITS else Ctr.PN.PRBS_BITS) 0 }
        else s1) = s2 at h2 ⊢
    simp +contextual (maxDischargeDepth := 100) only [h2, after_prbsArm, after_setPrbsLock, after_prbsPon, after_mk, after_eq, after_ite, after_ite_fst, after_foldl, after_foldl_fst, implies_true]

theorem after_svcTo {s : State} (hI : After s0 s) (n new : Nat) : After s0 (State.svcTo s n new) := by
  simp only [State.svcTo]
  simp +contextual (maxDischargeDepth := 100) only [hI, after_prbsStop, after_setF, after_setTq, after_showLink,
    after_tqRaise, after_ite]

theorem after_putLat {s : State} (hI : After s0 s) (n : Nat) : After s0 (State.putLat s n) := by
  simp only [State.putLat]
  simp +contextual (maxDischargeDepth := 100) only [hI, after_setTq, after_takeFree]

theorem after_calResult {s : State} (hI : After s0 s) (n : Nat) (fail : Option (Fin 4)) : After s0 (State.calResult s
    n fail) := by
  simp only [State.calResult]
  repeat' (first
    | (simp +contextual (maxDischargeDepth := 100) only [hI, after_drbgRequest, after_putLat, after_setTq,
        after_tqRaise, after_ite]; done)
    | split)

theorem after_calEnd {s : State} (hI : After s0 s) (n : Nat) : After s0 (State.calEnd s n) := by
  simp only [State.calEnd]
  simp +contextual (maxDischargeDepth := 100) only [hI, after_setTq, after_svcTo, after_ite]

theorem after_calLane {s : State} (hI : After s0 s) (n : Nat) (fail : Option (Fin 4)) : After s0 (State.calLane s n
    fail) := by
  simp only [State.calLane]
  repeat' (first
    | (simp +contextual (maxDischargeDepth := 100) only [hI, after_calResult, after_raise, after_mk, after_eq]; done)
    | split)

theorem after_releasePort {s : State} (hI : After s0 s) (n : Nat) : After s0 (State.releasePort s n) := by
  simp only [State.releasePort]
  simp +contextual (maxDischargeDepth := 100) only [hI, after_calEnd, after_svcTo, after_ite]

theorem after_flushQueue {s : State} (hI : After s0 s) (n q : Nat) : After s0 (State.flushQueue s n q) := by
  simp only [State.flushQueue]
  simp +contextual (maxDischargeDepth := 100) only [hI, after_cutDeep, after_foldl, after_setPoolOcc, after_setQ,
    after_tqCount, after_unref, implies_true]

theorem after_portOut {s : State} (hI : After s0 s) (n : Nat) (rxBusy : Bool) : After s0 (State.portOut s n rxBusy)
    := by
  simp only [State.portOut]
  simp +contextual (maxDischargeDepth := 100) only [hI, after_flushQueue, after_foldl, after_setPort,
    after_stopTimer, after_svcTo, after_syncLost, after_tqCount, after_ite, implies_true]

theorem after_wrPortSvc {s : State} (hI : After s0 s) (n v : Nat) (rxBusy : Bool) : After s0 (State.wrPortSvc s n v
    rxBusy) := by
  simp only [State.wrPortSvc]
  simp +contextual (maxDischargeDepth := 100) only [hI, after_portOut, after_store, after_svcTo, after_ite]

theorem after_wrLaneCfg {s : State} (hI : After s0 s) (n v : Nat) : After s0 (State.wrLaneCfg s n v) := by
  simp only [State.wrLaneCfg]
  simp +contextual (maxDischargeDepth := 100) only [hI, after_checkCfg, after_showLink, after_showSpeed, after_store,
    after_ite]

theorem after_wrMacCtrl {s : State} (hI : After s0 s) (n v : Nat) : After s0 (State.wrMacCtrl s n v) := by
  simp only [State.wrMacCtrl]
  simp +contextual (maxDischargeDepth := 100) only [hI, after_showLink, after_showSpeed, after_store]

theorem after_wrPortCfg {s : State} (hI : After s0 s) (n v : Nat) : After s0 (State.wrPortCfg s n v) := by
  simp only [State.wrPortCfg]
  simp +contextual (maxDischargeDepth := 100) only [hI, after_store, after_tqRaise, after_ite]

theorem after_retune {s : State} (hI : After s0 s) (q pll new : Nat) : After s0 (State.retune s q pll new) := by
  simp only [State.retune]
  simp +contextual (maxDischargeDepth := 100) only [hI, after_pllBusy, after_pllFree, after_setPllLock, after_ite]

theorem after_wrQuadPll {s : State} (hI : After s0 s) (q v : Nat) : After s0 (State.wrQuadPll s q v) := by
  simp only [State.wrQuadPll]
  simp +contextual (maxDischargeDepth := 100) only [hI, after_checkCfg, after_foldl, after_retune, after_store,
    after_ite, implies_true]

theorem after_relocked {s : State} (hI : After s0 s) (p : Nat) : After s0 (State.relocked s p) := by
  simp only [State.relocked]
  simp +contextual (maxDischargeDepth := 100) only [hI, after_pllFree, after_setPllLock, after_ite]

theorem after_unpause {s : State} (hI : After s0 s) (n p : Nat) : After s0 (State.unpause s n p) := by
  simp only [State.unpause]
  simp +contextual (maxDischargeDepth := 100) only [hI, after_setTq, after_stopTimer]

theorem after_pausePrio {s : State} (hI : After s0 s) (n p q : Nat) : After s0 (State.pausePrio s n p q) := by
  simp only [State.pausePrio]
  simp +contextual (maxDischargeDepth := 100) only [hI, after_setTq, after_startTimer, after_ite]

theorem after_pauseRx {s : State} (hI : After s0 s) (n : Nat) (pfc : Bool) (mask quanta : Nat) : After s0
    (State.pauseRx s n pfc mask quanta) := by
  simp only [State.pauseRx]
  simp +contextual (maxDischargeDepth := 100) only [hI, after_foldl, after_pausePrio, after_tqCount, after_unpause,
    after_ite, implies_true]

theorem after_sendCtl {s : State} (hI : After s0 s) (n mask q : Nat) : After s0 (State.sendCtl s n mask q) := by
  simp only [State.sendCtl]
  simp +contextual (maxDischargeDepth := 100) only [hI, after_emit, after_startTimer, after_tqCount, after_ite]

theorem after_signalXoff {s : State} (hI : After s0 s) (n : Nat) : After s0 (State.signalXoff s n) := by
  simp only [State.signalXoff]
  simp +contextual (maxDischargeDepth := 100) only [hI, after_sendCtl, after_setPort, after_startTimer,
    after_stopTimer, after_ite]

/-! ### Of Machine/Frames.lean -/

theorem after_wakeMatch {s : State} (hI : After s0 s) (n : Nat) (bs : List Byte) : After s0 (State.wakeMatch s n bs)
    := by
  simp only [State.wakeMatch]
  repeat' (first
    | (simp +contextual (maxDischargeDepth := 100) only [hI, after_setTq, after_tqCount, after_tqRaise]; done)
    | split)

theorem after_rxStampOf {s : State} (hI : After s0 s) (n : Nat) (bs : List Byte) (st : StampIn) : After s0
    (State.rxStampOf s n bs st).1 := by
  simp only [State.rxStampOf]
  simp +contextual (maxDischargeDepth := 100) only [hI, after_tqCount, after_ite, after_ite_fst]

theorem after_toPipe {s : State} (hI : After s0 s) (n : Nat) (bs : List Byte) (st : StampIn) : After s0 (State.toPipe
    s n bs st) := by
  simp only [State.toPipe]
  simp +contextual (maxDischargeDepth := 100) only [hI, after_rxStampOf, after_setPipe, after_tqCount, after_ite]

theorem after_rxPassed {s : State} (hI : After s0 s) (n : Nat) (bs fcs : List Byte) (st : StampIn) : After s0
    (State.rxPassed s n bs fcs st) := by
  simp only [State.rxPassed]
  simp +contextual (maxDischargeDepth := 100) only [hI, after_toPipe, after_tqCount, after_wakeMatch, after_ite]

theorem after_rxControl {s : State} (hI : After s0 s) (n : Nat) (bs : List Byte) : After s0 (State.rxControl s n bs)
    := by
  simp only [State.rxControl]
  simp +contextual (maxDischargeDepth := 100) only [hI, after_pauseRx, after_tqCount, after_ite]

theorem after_rxSecured {s : State} (hI : After s0 s) (n : Nat) (bs : Option (List Byte)) (fcs : List Byte) (st :
    StampIn) : After s0 (State.rxSecured s n bs fcs st) := by
  simp only [State.rxSecured]
  repeat' (first
    | (simp +contextual (maxDischargeDepth := 100) only [hI, after_rxPassed]; done)
    | split)

theorem after_rxData {s : State} (hI : After s0 s) (n : Nat) (bs fcs : List Byte) (len : Nat) (x : EthIn) : After s0
    (State.rxData s n bs fcs len x) := by
  simp only [State.rxData]
  simp +contextual (maxDischargeDepth := 100) only [hI, after_pmc, after_rxSecured, after_secRx, after_tqCount]

theorem after_rxCheck {s : State} (hI : After s0 s) (n : Nat) (x : EthIn) : After s0 (State.rxCheck s n x) := by
  simp only [State.rxCheck]
  simp +contextual (maxDischargeDepth := 100) only [hI, after_rxControl, after_rxData, after_tqCount, after_ite]

theorem after_fecCount {s : State} (hI : After s0 s) (n : Nat) (x : EthIn) : After s0 (State.fecCount s n x) := by
  simp only [State.fecCount]
  simp +contextual (maxDischargeDepth := 100) only [hI, after_tqCount, after_ite]

theorem after_txStamp {s : State} (hI : After s0 s) (n : Nat) (p : Packet) (l : Launch) (t : Nat) : After s0
    (State.txStamp s n p l t) := by
  simp only [State.txStamp]
  repeat' (first
    | (simp +contextual (maxDischargeDepth := 100) only [hI, after_queueStamp]; done)
    | split)

theorem after_macSend {s : State} (hI : After s0 s) (n : Nat) (bs : List Byte) (stamp : State → State) (h_stamp : ∀ s
    : State, After s0 s → After s0 (stamp s)) : After s0 (State.macSend s n bs stamp) := by
  simp only [State.macSend]
  simp +contextual (maxDischargeDepth := 100) only [hI, after_emit, after_pmc, after_setPort, after_tqCount, h_stamp,
    after_ite]

theorem after_transmit {s : State} (hI : After s0 s) (n : Nat) (p : Packet) (st : StampIn) (late : Bool) : After s0
    (State.transmit s n p st late) := by
  simp only [State.transmit]
  repeat' (first
    | (simp +contextual (maxDischargeDepth := 100) only [hI, after_macSend, after_secTx, after_tqCount,
        after_tqRaise, after_txStamp, after_ite, implies_true]; done)
    | split)

theorem after_countDefer {s : State} (hI : After s0 s) (n : Nat) (deferred : Bool) : After s0 (State.countDefer s n
    deferred) := by
  simp only [State.countDefer]
  simp +contextual (maxDischargeDepth := 100) only [hI, after_tqCount, after_ite]

theorem after_toLaunch {s : State} (hI : After s0 s) (n : Nat) (st : StampIn) : After s0 (State.toLaunch s n st).1 :=
    by
  simp only [State.toLaunch]
  repeat' (first
    | (simp +contextual (maxDischargeDepth := 100) only [hI, after_elapseTo]; done)
    | split)

theorem after_macDone {s : State} (hI : After s0 s) (n : Nat) : After s0 (State.macDone s n) := by
  simp only [State.macDone]
  simp +contextual (maxDischargeDepth := 100) only [hI, after_setPort, after_signalXoff, after_ite]

end Sys2Proof.Machine
end

