-- ==== Sys2Proof/Laws/AfterTrust.lean ====
section
/-! SUPPORT. What a command may leave (After): the deep-buffer memory, resets, the Vault and the Steward stay within it. -/

namespace Sys2Proof.Machine

variable {s0 : State}

/-! ### Of Machine/Mem.lean -/

theorem after_setMc {s : State} (hI : After s0 s) (c : Nat) (x : McChan) : After s0 (State.setMc s c x) := by
  simp only [State.setMc]
  simp +contextual (maxDischargeDepth := 100) only [hI, after_mk, after_eq]

theorem after_setMcF {s : State} (hI : After s0 s) (c : Nat) (f : Fld) (v : Nat) : After s0 (State.setMcF s c f v) :=
    by
  simp only [State.setMcF]
  simp +contextual (maxDischargeDepth := 100) only [hI, after_setF]

theorem after_mcCount {s : State} (hI : After s0 s) (c off : Nat) (n : Nat ) : After s0 (State.mcCount s c off n) :=
    by
  simp only [State.mcCount]
  simp +contextual (maxDischargeDepth := 100) only [hI, after_count]

theorem after_freeRing {s : State} (hI : After s0 s) : After s0 (State.freeRing s) := by
  simp only [State.freeRing]
  simp +contextual (maxDischargeDepth := 100) only [hI, after_foldl, after_mcCount, after_showPages, after_mk,
    after_eq, implies_true]

theorem after_ringPages {s t : State} (h : After s0 s) (n : Nat) (k : s.ringPages n = some t) : After s0 t := by
  induction n generalizing s with
  | zero => exact Option.some.inj k ▸ h
  | succ n ih =>
    simp only [State.ringPages] at k
    split at k
    · cases k
    · exact ih (by simp +contextual (maxDischargeDepth := 100) only [h, after_mk, after_eq, after_ite, after_ite_fst, after_foldl, after_foldl_fst, implies_true]) k

theorem after_allocRing {s : State} (h : After s0 s) : After s0 s.allocRing := by
  simp only [State.allocRing]
  split
  · next e => exact after_showPages (after_ringPages (after_freeRing h) _ e)
  · exact after_setF (after_freeRing h) _ _ _

theorem after_wrMccCfg {s : State} (hI : After s0 s) (v : Nat) : After s0 (State.wrMccCfg s v) := by
  simp only [State.wrMccCfg]
  simp +contextual (maxDischargeDepth := 100) only [hI, after_pllBusy, after_store, after_ite]

theorem after_wrTraceCfg {s : State} (hI : After s0 s) (v : Nat) : After s0 (State.wrTraceCfg s v) := by
  simp only [State.wrTraceCfg]
  simp +contextual (maxDischargeDepth := 100) only [hI, after_allocRing, after_store, after_ite]

theorem after_wrTraceCmd {s : State} (hI : After s0 s) (v : Nat) : After s0 (State.wrTraceCmd s v) := by
  simp only [State.wrTraceCmd]
  simp +contextual (maxDischargeDepth := 100) only [hI, after_setF, after_setRegs, after_ite]

theorem after_mcGo {s : State} (hI : After s0 s) (c new : Nat) : After s0 (State.mcGo s c new) := by
  simp only [State.mcGo]
  simp +contextual (maxDischargeDepth := 100) only [hI, after_freeRing, after_raise, after_setF, after_setMc,
    after_setMcF, after_showPages, after_stopTimer, after_takeFree, after_ite]

theorem after_mcTrain {s : State} (hI : After s0 s) (c : Nat) : After s0 (State.mcTrain s c) := by
  simp only [State.mcTrain]
  simp +contextual (maxDischargeDepth := 100) only [hI, after_mcGo, after_setMcF]

theorem after_mcDiscard {s : State} (hI : After s0 s) (c : Nat) : After s0 (State.mcDiscard s c) := by
  simp only [State.mcDiscard]
  simp +contextual (maxDischargeDepth := 100) only [hI, after_dropDeep, after_foldl, after_mcCount, after_ite,
    implies_true]

theorem after_mcTrainFail {s : State} (hI : After s0 s) (c : Nat) : After s0 (State.mcTrainFail s c) := by
  simp only [State.mcTrainFail]
  simp +contextual (maxDischargeDepth := 100) only [hI, after_mcDiscard, after_mcGo, after_raise, after_setMcF,
    after_ite]

theorem after_mcBootTrain {s : State} (hI : After s0 s) (c : Nat) : After s0 (State.mcBootTrain s c) := by
  simp only [State.mcBootTrain]
  simp +contextual (maxDischargeDepth := 100) only [hI, after_mcTrain, after_ite]

theorem after_wrMcSvc {s : State} (hI : After s0 s) (c v : Nat) : After s0 (State.wrMcSvc s c v) := by
  simp only [State.wrMcSvc]
  simp +contextual (maxDischargeDepth := 100) only [hI, after_mcGo, after_mcTrain, after_startTimer, after_stopTimer,
    after_store, after_ite]

theorem after_mcFault {s : State} (hI : After s0 s) (c cause : Nat) : After s0 (State.mcFault s c cause) := by
  simp only [State.mcFault]
  simp +contextual (maxDischargeDepth := 100) only [hI, after_mcDiscard, after_mcGo, after_raise, after_setMcF,
    after_ite]

theorem after_refIssued {s : State} (hI : After s0 s) (c n : Nat) : After s0 (State.refIssued s c n) := by
  simp only [State.refIssued]
  simp +contextual (maxDischargeDepth := 100) only [hI, after_mcCount, after_pmc]

theorem after_issueDebt {s : State} (hI : After s0 s) (c : Nat) : After s0 (State.issueDebt s c) := by
  simp only [State.issueDebt]
  simp +contextual (maxDischargeDepth := 100) only [hI, after_refIssued, after_setMcF]

theorem after_setRate {s : State} (hI : After s0 s) (c new : Nat) : After s0 (State.setRate s c new) := by
  simp only [State.setRate]
  simp +contextual (maxDischargeDepth := 100) only [hI, after_raise, after_setMcF, after_ite]

theorem after_setTrack {s : State} (hI : After s0 s) (c bank : Nat) (l : List RhEntry) : After s0 (State.setTrack s c
    bank l) := by
  simp only [State.setTrack]
  simp +contextual (maxDischargeDepth := 100) only [hI, after_setMc]

theorem after_activate {s : State} (hI : After s0 s) (c : Nat) (r : McReq) : After s0 (State.activate s c r) := by
  simp only [State.activate]
  simp +contextual (maxDischargeDepth := 100) only [hI, after_mcCount, after_pmc, after_raise, after_setTrack,
    after_startTimer, after_mk, after_eq, after_ite]

theorem after_mcAccept {s : State} (hI : After s0 s) (c : Nat) (r : McReq) : After s0 (State.mcAccept s c r) := by
  simp only [State.mcAccept]
  simp +contextual (maxDischargeDepth := 100) only [hI, after_mcCount, after_setMc, after_ite]

theorem after_mcIssue {s : State} (hI : After s0 s) (c i : Nat) : After s0 (State.mcIssue s c i) := by
  simp only [State.mcIssue]
  repeat' (first
    | (simp +contextual (maxDischargeDepth := 100) only [hI, after_activate, after_pmc, after_setMc, after_mk,
        after_eq, after_ite]; done)
    | split)

theorem after_eccLog {s : State} (hI : After s0 s) (c : Nat) (r : McReq) (ue : Bool) (synd : Nat) : After s0
    (State.eccLog s c r ue synd) := by
  simp only [State.eccLog]
  simp +contextual (maxDischargeDepth := 100) only [hI, after_setMcF, after_ite]

theorem after_pageBad {s : State} (hI : After s0 s) (c : Nat) (page : DramPage) : After s0 (State.pageBad s c page)
    := by
  simp only [State.pageBad]
  repeat' (first
    | (simp +contextual (maxDischargeDepth := 100) only [hI, after_mcCount, after_setQ, after_showPages, after_mk,
        after_eq, after_ite]; done)
    | split)

theorem after_wrEccClr {s : State} (hI : After s0 s) (c v : Nat) : After s0 (State.wrEccClr s c v) := by
  simp only [State.wrEccClr]
  simp +contextual (maxDischargeDepth := 100) only [hI, after_setRegs, after_ite]

/-! ### Of Machine/Restart.lean -/

theorem kept_nil : Kept [] [] [] [] [] :=
  ⟨rfl, rfl, rfl, rfl, fun _ => by simp [SMap.get], fun _ => by simp [SMap.get], Nat.zero_le _⟩

theorem after_freshen {s : State} (h : After s0 s) : After s0 s.freshen := by
  unfold State.freshen
  refine after_setReg ?_ _ _
  exact ⟨kept_nil, h.queue_eq, h.now_le, h.free_le, h.sent⟩

theorem after_powerOn {s : State} (hI : After s0 s) : After s0 (State.powerOn s) := by
  simp only [State.powerOn]
  simp +contextual (maxDischargeDepth := 100) only [hI, after_freshen, after_mk, after_eq]

theorem after_toStage {s : State} (hI : After s0 s) (n : Nat) : After s0 (State.toStage s n) := by
  simp only [State.toStage]
  simp +contextual (maxDischargeDepth := 100) only [hI, after_setF, after_startTimer, after_stopTimer, after_mk,
    after_eq, after_ite]

theorem after_reboot {s : State} (h : After s0 s) : After s0 s.reboot := by
  have hf := after_freshen h
  have h1 : AfterOf s0 s.freshen.pending s.freshen.now s.freshen.freeNext s.freshen.regs s.ctrs s.tally s.freshen.timers
      s.freshen.evt.bootBuf s.freshen.out :=
    { hf with kept := { hf.kept with ctrs_wf := h.kept.ctrs_wf, tally_wf := h.kept.tally_wf, ctr_lt := h.kept.ctr_lt,
                                     tally_lt := h.kept.tally_lt } }
  unfold State.reboot
  refine after_raise (after_toStage (after_setBit (after_setBit (after_foldl ?_ fun s p hs => after_setReg hs _ _) _ _ _) _ _ _) _)
    _ _ _ _
  exact h1

theorem smap_wf_parts (q1 q2 : Nat × Word → Bool) (m n : SMap Word) (b : Nat) (hm : SMap.wf resetWord m = true)
    (hn : SMap.wf resetWord n = true) (h1 : ∀ p, q1 p = true → p.1 < b) (h2 : ∀ p, q2 p = true → b ≤ p.1) :
    SMap.wf resetWord (m.filter q1 ++ n.filter q2) = true := by
  have hn' : SMap.wfFrom resetWord b (n.filter q2) = true := by
    have := smap_wfFrom_filter resetWord q2 n 0 hn
    generalize e : n.filter q2 = l at this ⊢
    cases l with
    | nil => rfl
    | cons p t =>
      simp [SMap.wfFrom] at this ⊢
      have hp : p ∈ n.filter q2 := by simp [e]
      exact ⟨⟨h2 p (List.mem_filter.1 hp).2, this.1⟩, this.2⟩
  have go : ∀ (l : SMap Word) (lo : Nat), lo ≤ b → (∀ p ∈ l, p.1 < b) → SMap.wfFrom resetWord lo l = true →
      SMap.wfFrom resetWord lo (l ++ n.filter q2) = true := by
    intro l
    induction l with
    | nil => exact fun lo hlo _ _ => smap_wfFrom_mono _ _ hlo hn'
    | cons p t ih =>
      intro lo hlo hl hw
      simp [SMap.wfFrom] at hw ⊢
      exact ⟨hw.1, ih _ (by have := hl p (by simp); omega) (fun x hx => hl x (by simp [hx])) hw.2⟩
  exact go _ 0 (Nat.zero_le _) (fun p hp => h1 p (List.mem_filter.1 hp).2) (smap_wf_filter _ _ _ hm)

theorem after_resetIslands {s : State} (h : After s0 s) : After s0 s.resetIslands := by
  unfold State.resetIslands
  have h1 := after_setLives h ((List.range 64).filter fun i => decide (2 ≤ i) && decide (i ≠ 0x3A)) false
  dsimp only
  generalize s.setLives ((List.range 64).filter fun i => decide (2 ≤ i) && decide (i ≠ 0x3A)) false = s1 at h1 ⊢
  have h2 := after_freshen h1
  have k := h1.kept
  have h3 : AfterOf s0 s1.freshen.pending s1.freshen.now s1.freshen.freeNext (s1.regs.filter (fun (p : Nat × Word) => decide (p.1 < window 2)) ++
      s1.freshen.regs.filter (fun (p : Nat × Word) => decide (window 2 ≤ p.1))) s1.ctrs s1.tally
      (s1.timers.filter fun p => decide (0x70020 ≤ p.1) && decide (p.1 < 0x71000)) s1.evt.bootBuf s1.freshen.out :=
    { h2 with
      kept := ⟨smap_wf_parts _ _ _ _ (window 2) k.regs_wf h2.kept.regs_wf (fun p hp => by simpa using hp)
        (fun p hp => by simpa using hp), k.ctrs_wf, k.tally_wf, smap_wf_filter _ _ _ k.timers_wf, k.ctr_lt, k.tally_lt, k.boot_le⟩ }
  refine after_setBit (after_setBit ?_ _ _ _) _ _ _
  exact h3

theorem after_showFuses {s : State} (hI : After s0 s) : After s0 (State.showFuses s) := by
  simp only [State.showFuses]
  simp +contextual (maxDischargeDepth := 100) only [hI, after_setBit, after_setF]

theorem after_setFuse {s : State} (hI : After s0 s) (f : Fuses) : After s0 (State.setFuse s f) := by
  simp only [State.setFuse]
  simp +contextual (maxDischargeDepth := 100) only [hI, after_showFuses, after_mk, after_eq]

theorem after_setLife {s : State} (hI : After s0 s) (new : Nat) : After s0 (State.setLife s new) := by
  simp only [State.setLife]
  simp +contextual (maxDischargeDepth := 100) only [hI, after_setFuse, after_mk, after_eq, after_ite]

/-! ### Of Machine/Jobs.lean -/

theorem after_onVlt {s : State} (hI : After s0 s) (m : Master) (p a : Nat) (act : State → State) (h_act : ∀ s :
    State, After s0 s → After s0 (act s)) : After s0 (State.onVlt s m p a act) := by
  simp only [State.onVlt]
  simp +contextual (maxDischargeDepth := 100) only [hI, after_countDiscard, after_darkAccess, h_act, after_ite]

theorem after_centralBlocks {s : State} (hI : After s0 s) (n : Nat) : After s0 (State.centralBlocks s n) := by
  simp only [State.centralBlocks]
  simp +contextual (maxDischargeDepth := 100) only [hI, after_pmc]

theorem after_takeIv {s : State} (hI : After s0 s) (p ivMode slot : Nat) (k : KeySlot) : After s0 (State.takeIv s p
    ivMode slot k).1 := by
  simp only [State.takeIv]
  simp +contextual (maxDischargeDepth := 100) only [hI, after_raise, after_setSlot, after_ite, after_ite_fst]

theorem after_jobGcmEnc {s : State} (h : After s0 s) (p ivMode slot : Nat) (src : List Byte) :
    After s0 (s.jobGcmEnc p ivMode slot src).1 := by
  simp only [State.jobGcmEnc]
  split
  · exact h
  · next key _ =>
    have k := after_takeIv h p ivMode slot key
    split
    all_goals
      next e =>
        rw [e] at k
        simp +contextual (maxDischargeDepth := 100) only [k, after_centralBlocks, after_mk, after_eq, after_ite, after_ite_fst, after_foldl, after_foldl_fst, implies_true]

theorem after_jobGcmDec {s : State} (hI : After s0 s) (p slot : Nat) (src : List Byte) : After s0 (State.jobGcmDec s
    p slot src).1 := by
  simp only [State.jobGcmDec]
  repeat' (first
    | (simp +contextual (maxDischargeDepth := 100) only [hI, after_centralBlocks, after_ite_fst]; done)
    | split)

theorem after_jobCtr {s : State} (hI : After s0 s) (p slot : Nat) (src : List Byte) : After s0 (State.jobCtr s p slot
    src).1 := by
  simp only [State.jobCtr]
  repeat' (first
    | (simp +contextual (maxDischargeDepth := 100) only [hI, after_centralBlocks]; done)
    | split)

theorem after_jobCmac {s : State} (hI : After s0 s) (p slot : Nat) (src : List Byte) : After s0 (State.jobCmac s p
    slot src).1 := by
  simp only [State.jobCmac]
  repeat' (first
    | (simp +contextual (maxDischargeDepth := 100) only [hI, after_centralBlocks]; done)
    | split)

theorem after_jobSha {s : State} (hI : After s0 s) (src : List Byte) : After s0 (State.jobSha s src).1 := by
  simp only [State.jobSha]
  simp +contextual (maxDischargeDepth := 100) only [hI]

theorem after_jobHmac {s : State} (hI : After s0 s) (p slot : Nat) (src : List Byte) : After s0 (State.jobHmac s p
    slot src).1 := by
  simp only [State.jobHmac]
  repeat' (first
    | (simp +contextual (maxDischargeDepth := 100) only [hI]; done)
    | split)

theorem after_jobEcdsa {s : State} (hI : After s0 s) (src : List Byte) : After s0 (State.jobEcdsa s src).1 := by
  simp only [State.jobEcdsa]
  simp +contextual (maxDischargeDepth := 100) only [hI, after_ite_fst]

theorem after_jobRandom {s : State} (hI : After s0 s) (len : Nat) : After s0 (State.jobRandom s len).1 := by
  simp only [State.jobRandom]
  simp +contextual (maxDischargeDepth := 100) only [hI, after_drbgRequest, after_ite_fst]

theorem after_jobKeyGen {s : State} (hI : After s0 s) (p : Nat) : After s0 (State.jobKeyGen s p).1 := by
  simp only [State.jobKeyGen]
  simp +contextual (maxDischargeDepth := 100) only [hI, after_drbgRequest, after_mintReseed, after_ite_fst]

theorem after_jobKdf {s : State} (hI : After s0 s) (p slot : Nat) (src : List Byte) : After s0 (State.jobKdf s p slot
    src).1 := by
  simp only [State.jobKdf]
  repeat' (first
    | (simp +contextual (maxDischargeDepth := 100) only [hI, after_ite_fst]; done)
    | split)

theorem after_jobUnwrap {s : State} (hI : After s0 s) (p slot : Nat) (src : List Byte) : After s0 (State.jobUnwrap s
    p slot src).1 := by
  simp only [State.jobUnwrap]
  repeat' (first
    | (simp +contextual (maxDischargeDepth := 100) only [hI]; done)
    | split)

theorem after_idSigned {s : State} (hI : After s0 s) (bs : List Byte) : After s0 (State.idSigned s bs).1 := by
  simp only [State.idSigned]
  simp +contextual (maxDischargeDepth := 100) only [hI, after_takeFree]

theorem after_jobAttest {s : State} (hI : After s0 s) (src : List Byte) : After s0 (State.jobAttest s src).1 := by
  simp only [State.jobAttest]
  simp +contextual (maxDischargeDepth := 100) only [hI, after_idSigned]

theorem after_jobCert {s : State} (hI : After s0 s) : After s0 (State.jobCert s).1 := by
  simp only [State.jobCert]
  simp +contextual (maxDischargeDepth := 100) only [hI]

theorem after_jobOwner {s : State} (hI : After s0 s) (src : List Byte) : After s0 (State.jobOwner s src).1 := by
  simp only [State.jobOwner]
  simp +contextual (maxDischargeDepth := 100) only [hI]

theorem after_jobChallenge {s : State} (hI : After s0 s) (rma : Bool) : After s0 (State.jobChallenge s rma).1 := by
  simp only [State.jobChallenge]
  simp +contextual (maxDischargeDepth := 100) only [hI, after_drbgRequest, after_idSigned, after_ite_fst]

theorem after_jobDebugResp {s : State} (hI : After s0 s) (src : List Byte) : After s0 (State.jobDebugResp s src).1 :=
    by
  simp only [State.jobDebugResp]
  simp +contextual (maxDischargeDepth := 100) only [hI, after_stopTimer, after_mk, after_eq]

theorem after_jobRmaResp {s : State} (hI : After s0 s) (src : List Byte) : After s0 (State.jobRmaResp s src).1 := by
  simp only [State.jobRmaResp]
  simp +contextual (maxDischargeDepth := 100) only [hI, after_stopTimer, after_mk, after_eq, after_ite_fst]

theorem after_jobRun {s : State} (hI : After s0 s) (p op ivMode slot : Nat) (src : List Byte) : After s0
    (State.jobRun s p op ivMode slot src).1 := by
  simp only [State.jobRun]
  repeat' (first
    | with_reducible refine after_ite ?_ ?_
    | with_reducible refine after_ite_fst ?_ ?_
    | (simp +contextual (maxDischargeDepth := 100) only [hI, after_jobAttest, after_jobCert, after_jobChallenge,
        after_jobCmac, after_jobCtr, after_jobDebugResp, after_jobEcdsa, after_jobGcmDec, after_jobGcmEnc,
        after_jobHmac, after_jobKdf, after_jobKeyGen, after_jobOwner, after_jobRandom, after_jobRmaResp,
        after_jobSha, after_jobUnwrap]; done)
    | split)

/-! ### Of Machine/Vault.lean -/

theorem after_wrOwnCmd {s : State} (hI : After s0 s) (v : Nat) : After s0 (State.wrOwnCmd s v) := by
  simp only [State.wrOwnCmd]
  simp +contextual (maxDischargeDepth := 100) only [hI, after_setF, after_mk, after_eq, after_ite]

theorem after_fuseDone {s : State} (hI : After s0 s) : After s0 (State.fuseDone s) := by
  simp only [State.fuseDone]
  repeat' (first
    | (simp +contextual (maxDischargeDepth := 100) only [hI, after_setF, after_setFuse, after_setLife, after_mk,
        after_eq, after_ite]; done)
    | split)

theorem after_damageSlot {s : State} (hI : After s0 s) (t : Nat) : After s0 (State.damageSlot s t) := by
  simp only [State.damageSlot]
  simp +contextual (maxDischargeDepth := 100) only [hI, after_setFuse]

theorem after_ownCmdCut {s : State} (hI : After s0 s) : After s0 (State.ownCmdCut s) := by
  simp only [State.ownCmdCut]
  repeat' (first
    | (simp +contextual (maxDischargeDepth := 100) only [hI, after_damageSlot, after_setF, after_takeFree, after_mk,
        after_eq, after_ite]; done)
    | split)

theorem after_jobCut {s : State} (hI : After s0 s) (p : Nat) : After s0 (State.jobCut s p) := by
  simp only [State.jobCut]
  repeat' (first
    | (simp +contextual (maxDischargeDepth := 100) only [hI, after_damageSlot, after_showFuses, after_takeFree,
        after_mk, after_eq, after_ite]; done)
    | split)

theorem after_fuseCut {s : State} (hI : After s0 s) : After s0 (State.fuseCut s) := by
  simp only [State.fuseCut]
  simp +contextual (maxDischargeDepth := 100) only [hI, after_jobCut, after_ownCmdCut]

theorem after_setScope {s : State} (hI : After s0 s) (v : Nat) : After s0 (State.setScope s v) := by
  simp only [State.setScope]
  simp +contextual (maxDischargeDepth := 100) only [hI, after_setF]

theorem after_rejected {s : State} (hI : After s0 s) (op st : Nat) : After s0 (State.rejected s op st) := by
  simp only [State.rejected]
  simp +contextual (maxDischargeDepth := 100) only [hI, after_count, after_raise]

theorem after_ownerAct {s : State} (hI : After s0 s) (cmd target value : Nat) : After s0 (State.ownerAct s cmd target
    value) := by
  simp only [State.ownerAct]
  simp +contextual (maxDischargeDepth := 100) only [hI, after_count, after_setFuse, after_ite]

theorem after_rmaSteps {s : State} (hI : After s0 s) : After s0 (State.rmaSteps s) := by
  simp only [State.rmaSteps]
  simp +contextual (maxDischargeDepth := 100) only [hI, after_mintReseed, after_setF, after_setFuse, after_setLife,
    after_showFuses, after_mk, after_eq]

theorem after_jobEffect {s : State} (hI : After s0 s) (j : Job) : After s0 (State.jobEffect s j) := by
  simp only [State.jobEffect]
  repeat' (first
    | (simp +contextual (maxDischargeDepth := 100) only [hI, after_count, after_keyWrite, after_ownerAct,
        after_raise, after_rejected, after_setScope, after_startTimer, after_mk, after_eq, after_ite]; done)
    | split)

theorem after_jobResult {s : State} (hI : After s0 s) (p status len tag : Nat) : After s0 (State.jobResult s p status
    len tag) := by
  simp only [State.jobResult]
  simp +contextual (maxDischargeDepth := 100) only [hI, after_setReg, after_setRegs]

theorem after_jobEnd {s : State} (hI : After s0 s) (p op status len tag : Nat) : After s0 (State.jobEnd s p op status
    len tag) := by
  simp only [State.jobEnd]
  simp +contextual (maxDischargeDepth := 100) only [hI, after_count, after_jobResult, after_keyFlush, after_raise,
    after_setF, after_showEscrow, after_mk, after_eq, after_ite]

theorem after_jobWrite {s : State} (hI : After s0 s) (p : Nat) (bs : List Byte) : After s0 (State.jobWrite s p bs) :=
    by
  simp only [State.jobWrite]
  simp +contextual (maxDischargeDepth := 100) only [hI, after_emit, after_foldl, implies_true]

theorem after_faultBlocks {s : State} (hI : After s0 s) (p : Nat) : After s0 (State.faultBlocks s p) := by
  simp only [State.faultBlocks]
  repeat' (first
    | (simp +contextual (maxDischargeDepth := 100) only [hI, after_jobWrite, after_takeFree, after_ite]; done)
    | split)

theorem after_wrJobCtrl {s : State} (hI : After s0 s) (p v : Nat) (src : List Byte) : After s0 (State.wrJobCtrl s p v
    src) := by
  simp only [State.wrJobCtrl]
  simp +contextual (maxDischargeDepth := 100) only [hI, after_jobEnd, after_jobRun, after_setF, after_setRegs,
    after_mk, after_eq, after_ite]

theorem after_jobGo {s : State} (hI : After s0 s) (m : Master) (p op : Nat) (ivMode : BitVec 2) (slot : BitVec 10)
    (src : List Byte) : After s0 (State.jobGo s m p op ivMode slot src) := by
  simp only [State.jobGo]
  simp +contextual (maxDischargeDepth := 100) only [hI, after_onVlt, after_wrJobCtrl, implies_true]

theorem after_keyStat {s : State} (hI : After s0 s) (p : Nat) (k : KeySlot) : After s0 (State.keyStat s p k) := by
  simp only [State.keyStat]
  simp +contextual (maxDischargeDepth := 100) only [hI, after_setReg]

theorem after_keyAccept {s : State} (hI : After s0 s) (p slot : Nat) (erase : Bool) : After s0 (State.keyAccept s p
    slot erase) := by
  simp only [State.keyAccept]
  simp +contextual (maxDischargeDepth := 100) only [hI, after_setF, after_mk, after_eq]

theorem after_wrKeyCmd {s : State} (hI : After s0 s) (p v : Nat) : After s0 (State.wrKeyCmd s p v) := by
  simp only [State.wrKeyCmd]
  repeat' (first
    | (simp +contextual (maxDischargeDepth := 100) only [hI, after_keyAccept, after_keyStat, after_setF, after_ite];
        done)
    | split)

theorem after_keyApply {s : State} (hI : After s0 s) (p : Nat) (c : KeyCmd) : After s0 (State.keyApply s p c) := by
  simp only [State.keyApply]
  simp +contextual (maxDischargeDepth := 100) only [hI, after_keyNow, after_setF, after_setRegs, after_mk, after_eq,
    after_ite]

theorem after_wrMintCtrl {s : State} (hI : After s0 s) (v : Nat) : After s0 (State.wrMintCtrl s v) := by
  simp only [State.wrMintCtrl]
  simp +contextual (maxDischargeDepth := 100) only [hI, after_setMint, after_ite]

theorem after_wrDbgCtrl {s : State} (hI : After s0 s) (v : Nat) : After s0 (State.wrDbgCtrl s v) := by
  simp only [State.wrDbgCtrl]
  simp +contextual (maxDischargeDepth := 100) only [hI, after_setScope, after_ite]

/-! ### Of Machine/Steward.lean -/

theorem after_flashSettle {s : State} (hI : After s0 s) : After s0 (State.flashSettle s) := by
  simp only [State.flashSettle]
  repeat' (first
    | (simp +contextual (maxDischargeDepth := 100) only [hI, after_mk, after_eq]; done)
    | split)

theorem after_flashCut {s : State} (hI : After s0 s) : After s0 (State.flashCut s) := by
  simp only [State.flashCut]
  repeat' (first
    | (simp +contextual (maxDischargeDepth := 100) only [hI, after_takeFree, after_mk, after_eq]; done)
    | split)

theorem after_flashStart {s : State} (hI : After s0 s) (a : Nat) (bs : List Byte) : After s0 (State.flashStart s a
    bs) := by
  simp only [State.flashStart]
  simp +contextual (maxDischargeDepth := 100) only [hI, after_flashSettle, after_mk, after_eq, after_ite]

theorem after_stwGo {s : State} (hI : After s0 s) (new : Nat) : After s0 (State.stwGo s new) := by
  simp only [State.stwGo]
  simp +contextual (maxDischargeDepth := 100) only [hI, after_raise, after_setF, after_setInh, after_takeFree,
    after_ite]

theorem after_stwLoad {s : State} (hI : After s0 s) (copy : Nat) : After s0 (State.stwLoad s copy) := by
  simp only [State.stwLoad]
  simp +contextual (maxDischargeDepth := 100) only [hI, after_setF, after_stopTimer, after_mk, after_eq]

theorem after_stwRestarting {s : State} (hI : After s0 s) (copy failed : Nat) : After s0 (State.stwRestarting s copy
    failed) := by
  simp only [State.stwRestarting]
  simp +contextual (maxDischargeDepth := 100) only [hI, after_startTimer, after_stwGo, after_stwLoad, after_mk,
    after_eq]

theorem after_stwRestart {s : State} (hI : After s0 s) : After s0 (State.stwRestart s) := by
  simp only [State.stwRestart]
  simp +contextual (maxDischargeDepth := 100) only [hI, after_count, after_setF, after_stwRestarting, after_mk,
    after_eq, after_ite]

theorem after_drainRecord {s : State} (hI : After s0 s) (id cause n : Nat) : After s0 (State.drainRecord s id cause
    n) := by
  simp only [State.drainRecord]
  simp +contextual (maxDischargeDepth := 100) only [hI, after_count, after_raise, after_setF]

theorem after_stwDrain {s : State} (hI : After s0 s) : After s0 (State.stwDrain s) := by
  simp only [State.stwDrain]
  simp +contextual (maxDischargeDepth := 100) only [hI, after_drainRecord, after_stwRestart, after_takeFree,
    after_mk, after_eq, after_ite]

theorem after_stwForget {s : State} (hI : After s0 s) : After s0 (State.stwForget s) := by
  simp only [State.stwForget]
  simp +contextual (maxDischargeDepth := 100) only [hI, after_setPn]

theorem after_stwDark {s : State} (hI : After s0 s) : After s0 (State.stwDark s) := by
  simp only [State.stwDark]
  simp +contextual (maxDischargeDepth := 100) only [hI, after_setF, after_setLive, after_stopTimer, after_stwForget,
    after_stwGo, after_mk, after_eq, after_ite]

theorem after_fwFail {s : State} (hI : After s0 s) (code : Nat) : After s0 (State.fwFail s code) := by
  simp only [State.fwFail]
  simp +contextual (maxDischargeDepth := 100) only [hI, after_raise, after_setF, after_stwDark, after_stwLoad,
    after_mk, after_eq, after_ite]

theorem after_fwStart {s : State} (hI : After s0 s) (bs : List Byte) : After s0 (State.fwStart s bs) := by
  simp only [State.fwStart]
  simp +contextual (maxDischargeDepth := 100) only [hI, after_setLive, after_startTimer, after_mk, after_eq]

theorem after_fwSeen {s : State} (hI : After s0 s) (k code : Nat) (img : Option (List Byte)) : After s0 (State.fwSeen
    s k code img) := by
  simp only [State.fwSeen]
  simp +contextual (maxDischargeDepth := 100) only [hI, after_mk, after_eq]

theorem after_stwDeliver {s : State} (hI : After s0 s) (c : Nat) : After s0 (State.stwDeliver s c) := by
  simp only [State.stwDeliver]
  simp +contextual (maxDischargeDepth := 100) only [hI, after_foldl, after_setPn, after_stewardPloam, implies_true]

theorem after_kickWdog {s : State} (hI : After s0 s) : After s0 (State.kickWdog s) := by
  simp only [State.kickWdog]
  simp +contextual (maxDischargeDepth := 100) only [hI, after_startTimer, after_stopTimer, after_ite]

theorem after_stwReady {s : State} (hI : After s0 s) : After s0 (State.stwReady s) := by
  simp only [State.stwReady]
  simp +contextual (maxDischargeDepth := 100) only [hI, after_kickWdog, after_setF, after_stopTimer,
    after_stwDeliver, after_stwGo, after_mk, after_eq, after_ite]

theorem after_wrStwCfg {s : State} (hI : After s0 s) (v : Nat) : After s0 (State.wrStwCfg s v) := by
  simp only [State.wrStwCfg]
  simp +contextual (maxDischargeDepth := 100) only [hI, after_kickWdog, after_store, after_ite]

theorem after_wrStwCtrl {s : State} (hI : After s0 s) (v : Nat) : After s0 (State.wrStwCtrl s v) := by
  simp only [State.wrStwCtrl]
  simp +contextual (maxDischargeDepth := 100) only [hI, after_setF, after_stwDrain, after_mk, after_eq, after_ite]

theorem after_omciSend {s : State} (hI : After s0 s) (c : Nat) (data : List Byte) : After s0 (State.omciSend s c
    data) := by
  simp only [State.omciSend]
  repeat' (first
    | (simp +contextual (maxDischargeDepth := 100) only [hI, after_count, after_newN, after_pCount, after_setPn,
        after_ite]; done)
    | split)

theorem after_omciReply {s : State} (hI : After s0 s) (c : Nat) (req : List Byte) (code : Nat) (vals : List Nat) :
    After s0 (State.omciReply s c req code vals) := by
  simp only [State.omciReply]
  simp +contextual (maxDischargeDepth := 100) only [hI, after_omciSend]

theorem after_omciAnswer {s : State} (hI : After s0 s) (c : Nat) (req : List Byte) (code : Nat) : After s0
    (State.omciAnswer s c req code) := by
  simp only [State.omciAnswer]
  simp +contextual (maxDischargeDepth := 100) only [hI, after_omciReply]

theorem after_omciHostDone {s : State} (hI : After s0 s) (code : Nat) : After s0 (State.omciHostDone s code) := by
  simp only [State.omciHostDone]
  repeat' (first
    | (simp +contextual (maxDischargeDepth := 100) only [hI, after_omciAnswer, after_stopTimer, after_mk, after_eq];
        done)
    | split)

theorem after_downloadEnds {s : State} (hI : After s0 s) (code : Nat) : After s0 (State.downloadEnds s code) := by
  simp only [State.downloadEnds]
  repeat' (first
    | (simp +contextual (maxDischargeDepth := 100) only [hI, after_omciAnswer, after_mk, after_eq]; done)
    | split)

theorem after_switchVerified {s : State} (hI : After s0 s) (target : Nat) (only : Bool) (code : Nat) : After s0
    (State.switchVerified s target only code) := by
  simp only [State.switchVerified]
  simp +contextual (maxDischargeDepth := 100) only [hI, after_count, after_downloadEnds, after_raise, after_setF,
    after_stwRestarting, after_mk, after_eq, after_ite]

theorem after_mbS2hGo {s : State} (hI : After s0 s) : After s0 (State.mbS2hGo s) := by
  simp only [State.mbS2hGo]
  simp +contextual (maxDischargeDepth := 100) only [hI, after_raise, after_setF, after_ite]

theorem after_mbNext {s : State} (hI : After s0 s) : After s0 (State.mbNext s) := by
  simp only [State.mbNext]
  repeat' (first
    | (simp +contextual (maxDischargeDepth := 100) only [hI, after_mbS2hGo, after_setRegs, after_mk, after_eq,
        after_ite]; done)
    | split)

theorem after_mbSend {s : State} (hI : After s0 s) (typ : Nat) (words : List Nat) : After s0 (State.mbSend s typ
    words) := by
  simp only [State.mbSend]
  simp +contextual (maxDischargeDepth := 100) only [hI, after_mbNext, after_mk, after_eq]

theorem after_wrMbH2s {s : State} (hI : After s0 s) (m : Master) (v : Nat) : After s0 (State.wrMbH2s s m v) := by
  simp only [State.wrMbH2s]
  simp +contextual (maxDischargeDepth := 100) only [hI, after_omciHostDone, after_setF, after_ite]

theorem after_wrMbS2h {s : State} (hI : After s0 s) (m : Master) (v : Nat) : After s0 (State.wrMbS2h s m v) := by
  simp only [State.wrMbS2h]
  simp +contextual (maxDischargeDepth := 100) only [hI, after_mbNext, after_mbS2hGo, after_setF, after_ite]

theorem after_wrMbData {s : State} (hI : After s0 s) (m : Master) (a v : Nat) : After s0 (State.wrMbData s m a v) :=
    by
  simp only [State.wrMbData]
  simp +contextual (maxDischargeDepth := 100) only [hI, after_store, after_ite]

theorem after_wrPktCmd {s : State} (hI : After s0 s) (host : Bool) (v : Nat) : After s0 (State.wrPktCmd s host v) :=
    by
  simp only [State.wrPktCmd]
  repeat' (first
    | (simp +contextual (maxDischargeDepth := 100) only [hI, after_emit, after_setF, after_ite]; done)
    | split)

end Sys2Proof.Machine
end

