-- ==== Sys2Proof/Laws/AfterHost.lean ====
section
/-! SUPPORT. What a command may leave (After): events, DMA, power, repair, register accesses, the boot and the slot grant stay within it. -/

namespace Sys2Proof.Machine

variable {s0 : State}

/-! ### Of Machine/Events.lean -/

theorem after_setMsixWord {s : State} (hI : After s0 s) (i : Nat) (w : Word) : After s0 (State.setMsixWord s i w) :=
    by
  simp only [State.setMsixWord]
  simp +contextual (maxDischargeDepth := 100) only [hI, after_mk, after_eq]

theorem after_msixSend {s : State} (hI : After s0 s) (v : Nat) : After s0 (State.msixSend s v) := by
  simp only [State.msixSend]
  simp +contextual (maxDischargeDepth := 100) only [hI, after_count, after_emit, after_stopTimer, after_mk, after_eq,
    after_ite]

theorem after_msixCause {s : State} (hI : After s0 s) (v : Nat) : After s0 (State.msixCause s v) := by
  simp only [State.msixCause]
  simp +contextual (maxDischargeDepth := 100) only [hI, after_msixSend, after_startTimer, after_mk, after_eq,
    after_ite]

theorem after_msixFlush {s : State} (hI : After s0 s) : After s0 (State.msixFlush s) := by
  simp only [State.msixFlush]
  simp +contextual (maxDischargeDepth := 100) only [hI, after_foldl, after_msixSend, after_ite, implies_true]

theorem after_showRing {s : State} (hI : After s0 s) (r : Nat) : After s0 (State.showRing s r) := by
  simp only [State.showRing]
  simp +contextual (maxDischargeDepth := 100) only [hI, after_raise, after_setBit, after_ite]

theorem after_toRing {s : State} (hI : After s0 s) (r : Nat) (e : RaisedEvt) : After s0 (State.toRing s r e) := by
  simp only [State.toRing]
  simp +contextual (maxDischargeDepth := 100) only [hI, after_count, after_emit, after_msixCause, after_setF,
    after_showRing, after_mk, after_eq, after_ite]

theorem after_lgrRefill {s : State} (hI : After s0 s) : After s0 (State.lgrRefill s) := by
  simp only [State.lgrRefill]
  simp +contextual (maxDischargeDepth := 100) only [hI, after_mk, after_eq]

theorem after_lgrBump {s : State} (hI : After s0 s) : After s0 (State.lgrBump s) := by
  simp only [State.lgrBump]
  simp +contextual (maxDischargeDepth := 100) only [hI, after_mk, after_eq]

theorem after_lgrPut {s : State} (hI : After s0 s) (rec : List Byte) : After s0 (State.lgrPut s rec) := by
  simp only [State.lgrPut]
  simp +contextual (maxDischargeDepth := 100) only [hI, after_count, after_setF, after_mk, after_eq]

theorem after_lgrDropped {s : State} (hI : After s0 s) : After s0 (State.lgrDropped s) := by
  simp only [State.lgrDropped]
  simp +contextual (maxDischargeDepth := 100) only [hI, after_count, after_raiseLim]

theorem after_toLedger {s : State} (hI : After s0 s) (e : RaisedEvt) : After s0 (State.toLedger s e) := by
  simp only [State.toLedger]
  simp +contextual (maxDischargeDepth := 100) only [hI, after_lgrBump, after_lgrDropped, after_lgrPut,
    after_lgrRefill, after_ite]

theorem after_toOspa {s : State} (hI : After s0 s) (e : RaisedEvt) : After s0 (State.toOspa s e) := by
  simp only [State.toOspa]
  simp +contextual (maxDischargeDepth := 100) only [hI, after_count, after_setF, after_mk, after_eq, after_ite]

theorem after_sinkHost {s : State} (hI : After s0 s) (e : RaisedEvt) : After s0 (State.sinkHost s e) := by
  simp only [State.sinkHost]
  simp +contextual (maxDischargeDepth := 100) only [hI, after_toRing, after_ite]

theorem after_sinkLedger {s : State} (hI : After s0 s) (e : RaisedEvt) : After s0 (State.sinkLedger s e) := by
  simp only [State.sinkLedger]
  simp +contextual (maxDischargeDepth := 100) only [hI, after_toLedger, after_ite]

theorem after_sinkOspa {s : State} (hI : After s0 s) (e : RaisedEvt) : After s0 (State.sinkOspa s e) := by
  simp only [State.sinkOspa]
  simp +contextual (maxDischargeDepth := 100) only [hI, after_toOspa, after_ite]

theorem after_badReq {s : State} (hI : After s0 s) (a cause : Nat) : After s0 (State.badReq s a cause) := by
  simp only [State.badReq]
  simp +contextual (maxDischargeDepth := 100) only [hI, after_count, after_raiseMs]

theorem after_wrRingCi {s : State} (hI : After s0 s) (r v : Nat) : After s0 (State.wrRingCi s r v) := by
  simp only [State.wrRingCi]
  simp +contextual (maxDischargeDepth := 100) only [hI, after_badReq, after_setF, after_showRing, after_ite]

theorem after_wrRingCfg {s : State} (hI : After s0 s) (r a v : Nat) : After s0 (State.wrRingCfg s r a v) := by
  simp only [State.wrRingCfg]
  simp +contextual (maxDischargeDepth := 100) only [hI, after_store, after_ite]

theorem after_wrLgrCfg {s : State} (hI : After s0 s) (v : Nat) : After s0 (State.wrLgrCfg s v) := by
  simp only [State.wrLgrCfg]
  simp +contextual (maxDischargeDepth := 100) only [hI, after_lgrRefill, after_store]

theorem after_wrLgrCmd {s : State} (hI : After s0 s) (v : Nat) : After s0 (State.wrLgrCmd s v) := by
  simp only [State.wrLgrCmd]
  simp +contextual (maxDischargeDepth := 100) only [hI, after_setF, after_setRegs, after_ite]

theorem after_wrSoft {s : State} (hI : After s0 s) (m : Master) (stw : Bool) (v : Nat) : After s0 (State.wrSoft s m
    stw v) := by
  simp only [State.wrSoft]
  simp +contextual (maxDischargeDepth := 100) only [hI, after_setF, after_mk, after_eq, after_ite]

/-! ### Of Machine/Dma.lean -/

theorem after_setDch {s : State} (hI : After s0 s) (d : Nat) (x : DmaChan) : After s0 (State.setDch s d x) := by
  simp only [State.setDch]
  simp +contextual (maxDischargeDepth := 100) only [hI, after_mk, after_eq]

theorem after_setDcF {s : State} (hI : After s0 s) (d : Nat) (f : Fld) (v : Nat) : After s0 (State.setDcF s d f v) :=
    by
  simp only [State.setDcF]
  simp +contextual (maxDischargeDepth := 100) only [hI, after_setF]

theorem after_dcCount {s : State} (hI : After s0 s) (d off : Nat) (n : Nat ) : After s0 (State.dcCount s d off n) :=
    by
  simp only [State.dcCount]
  simp +contextual (maxDischargeDepth := 100) only [hI, after_count]

theorem after_dcIrq {s : State} (hI : After s0 s) (d bit : Nat) : After s0 (State.dcIrq s d bit) := by
  simp only [State.dcIrq]
  simp +contextual (maxDischargeDepth := 100) only [hI, after_msixCause, after_setDcF, after_ite]

theorem after_dcWrite {s : State} (hI : After s0 s) (d addr : Nat) (bs : List Byte) : After s0 (State.dcWrite s d
    addr bs) := by
  simp only [State.dcWrite]
  simp +contextual (maxDischargeDepth := 100) only [hI, after_emit, after_ite]

theorem after_dcRingWrite {s : State} (hI : After s0 s) (d addr : Nat) (bs : List Byte) : After s0 (State.dcRingWrite
    s d addr bs) := by
  simp only [State.dcRingWrite]
  simp +contextual (maxDischargeDepth := 100) only [hI, after_emit, after_ite]

theorem after_unitTake {s : State} (hI : After s0 s) (d : Nat) (b : List Byte) : After s0 (State.unitTake s d b) := by
  simp only [State.unitTake]
  simp +contextual (maxDischargeDepth := 100) only [hI, after_chkTake, after_setDch, after_setF, after_mk, after_eq]

theorem after_streamFail {s : State} (hI : After s0 s) (d : Nat) (b : List Byte) : After s0 (State.streamFail s d b)
    := by
  simp only [State.streamFail]
  simp +contextual (maxDischargeDepth := 100) only [hI, after_count, after_raiseMs, after_setDch]

theorem after_injectPkt {s : State} (hI : After s0 s) (d : Nat) (b stream : List Byte) : After s0 (State.injectPkt s
    d b stream) := by
  simp only [State.injectPkt]
  simp +contextual (maxDischargeDepth := 100) only [hI, after_dcCount, after_setPipe, after_ite]

theorem after_dropInject {s : State} (hI : After s0 s) (d : Nat) : After s0 (State.dropInject s d) := by
  simp only [State.dropInject]
  simp +contextual (maxDischargeDepth := 100) only [hI, after_setPipe]

theorem after_injectBegin {s : State} (hI : After s0 s) (d : Nat) (b : List Byte) : After s0 (State.injectBegin s d
    b) := by
  simp only [State.injectBegin]
  simp +contextual (maxDischargeDepth := 100) only [hI, after_injectPkt, after_streamFail, after_ite]

theorem after_dmaBegin {s : State} (hI : After s0 s) (d : Nat) (b : List Byte) : After s0 (State.dmaBegin s d b) := by
  simp only [State.dmaBegin]
  simp +contextual (maxDischargeDepth := 100) only [hI, after_injectBegin, after_setDch, after_ite]

theorem after_dmaTry {s : State} (hI : After s0 s) (d : Nat) : After s0 (State.dmaTry s d) := by
  simp only [State.dmaTry]
  repeat' (first
    | (simp +contextual (maxDischargeDepth := 100) only [hI, after_dmaBegin, after_setDch, after_unitTake,
        after_ite]; done)
    | split)

theorem after_dmaWake {s : State} (hI : After s0 s) : After s0 (State.dmaWake s) := by
  simp only [State.dmaWake]
  simp +contextual (maxDischargeDepth := 100) only [hI, after_dmaTry, after_foldl, implies_true]

theorem after_unitFree {s : State} (hI : After s0 s) (d : Nat) (b : List Byte) : After s0 (State.unitFree s d b) := by
  simp only [State.unitFree]
  simp +contextual (maxDischargeDepth := 100) only [hI, after_chkFree, after_count, after_ite]

theorem after_dmaDrop {s : State} (hI : After s0 s) (d : Nat) : After s0 (State.dmaDrop s d) := by
  simp only [State.dmaDrop]
  repeat' (first
    | (simp +contextual (maxDischargeDepth := 100) only [hI, after_dmaWake, after_dropInject, after_setDch,
        after_unitFree]; done)
    | split)

theorem after_wrDb {s : State} (hI : After s0 s) (d v : Nat) : After s0 (State.wrDb s d v) := by
  simp only [State.wrDb]
  simp +contextual (maxDischargeDepth := 100) only [hI, after_badReq, after_setDcF, after_setDch, after_ite]

theorem after_dcHandover {s : State} (hI : After s0 s) (d : Nat) : After s0 (State.dcHandover s d) := by
  simp only [State.dcHandover]
  repeat' (first
    | (simp +contextual (maxDischargeDepth := 100) only [hI, after_raise, after_setDcF, after_setDch, after_wrDb];
        done)
    | split)

theorem after_dcBoundary {s : State} (hI : After s0 s) (d : Nat) : After s0 (State.dcBoundary s d) := by
  simp only [State.dcBoundary]
  simp +contextual (maxDischargeDepth := 100) only [hI, after_dcHandover, after_ite]

theorem after_dcCommit {s : State} (hI : After s0 s) (d : Nat) : After s0 (State.dcCommit s d) := by
  simp only [State.dcCommit]
  simp +contextual (maxDischargeDepth := 100) only [hI, after_dcBoundary, after_setDcF, after_ite]

theorem after_dcStop {s : State} (hI : After s0 s) (d cause : Nat) : After s0 (State.dcStop s d cause) := by
  simp only [State.dcStop]
  simp +contextual (maxDischargeDepth := 100) only [hI, after_setDcF, after_setDch, after_stopTimer]

theorem after_dcStart {s : State} (hI : After s0 s) (d : Nat) : After s0 (State.dcStart s d) := by
  simp only [State.dcStart]
  simp +contextual (maxDischargeDepth := 100) only [hI, after_dcHandover, after_setDcF, after_ite]

theorem after_dcWriteback {s : State} (hI : After s0 s) (d code residue info : Nat) (b : List Byte) : After s0
    (State.dcWriteback s d code residue info b) := by
  simp only [State.dcWriteback]
  simp +contextual (maxDischargeDepth := 100) only [hI, after_dcRingWrite]

theorem after_dmaFinish {s : State} (hI : After s0 s) (d code residue info : Nat) : After s0 (State.dmaFinish s d
    code residue info) := by
  simp only [State.dmaFinish]
  repeat' (first
    | (simp +contextual (maxDischargeDepth := 100) only [hI, after_dcBoundary, after_dcCount, after_dcIrq,
        after_dcWriteback, after_dmaDrop, after_pmc, after_setDcF, after_ite]; done)
    | split)

theorem after_hostqDone {s : State} (hI : After s0 s) (d : Nat) (b : List Byte) (p : Packet) : After s0
    (State.hostqDone s d b p) := by
  simp only [State.hostqDone]
  simp +contextual (maxDischargeDepth := 100) only [hI, after_dcCount, after_dcWrite, after_dmaFinish,
    after_takeFree, after_ite, after_ite_fst]

theorem after_copyDone {s : State} (hI : After s0 s) (d : Nat) (b : List Byte) : After s0 (State.copyDone s d b) := by
  simp only [State.copyDone]
  simp +contextual (maxDischargeDepth := 100) only [hI, after_dcWrite, after_dmaFinish, after_streamFail, after_ite]

theorem after_dmaBusErr {s : State} (hI : After s0 s) (d : Nat) (phase : DmaPhase) (cause moved : Nat) : After s0
    (State.dmaBusErr s d phase cause moved) := by
  simp only [State.dmaBusErr]
  repeat' (first
    | (simp +contextual (maxDischargeDepth := 100) only [hI, after_dcCount, after_dcIrq, after_dcStop, after_dmaDrop,
        after_dmaFinish, after_raise, after_setDcF]; done)
    | split)

theorem after_dmaComplete {s : State} (hI : After s0 s) (d : Nat) : After s0 (State.dmaComplete s d) := by
  simp only [State.dmaComplete]
  repeat' (first
    | (simp +contextual (maxDischargeDepth := 100) only [hI, after_copyDone, after_dmaBusErr, after_dmaFinish,
        after_hostqDone, after_takeFree, after_ite]; done)
    | split)

theorem after_dmaInjected {s : State} (hI : After s0 s) (d : Nat) : After s0 (State.dmaInjected s d) := by
  simp only [State.dmaInjected]
  simp +contextual (maxDischargeDepth := 100) only [hI, after_dmaFinish]

theorem after_dmaAccept {s : State} (hI : After s0 s) (d : Nat) (b data : List Byte) : After s0 (State.dmaAccept s d
    b data) := by
  simp only [State.dmaAccept]
  simp +contextual (maxDischargeDepth := 100) only [hI, after_dmaTry, after_setDch, after_stopTimer]

theorem after_dmaStale {s : State} (hI : After s0 s) (d : Nat) (b : List Byte) : After s0 (State.dmaStale s d b) := by
  simp only [State.dmaStale]
  simp +contextual (maxDischargeDepth := 100) only [hI, after_dcCount, after_dcIrq, after_dcStop, after_raise,
    after_setDcF, after_setDch, after_startTimer, after_ite]

theorem after_dmaRead {s : State} (hI : After s0 s) (d : Nat) (desc data : List Byte) : After s0 (State.dmaRead s d
    desc data) := by
  simp only [State.dmaRead]
  simp +contextual (maxDischargeDepth := 100) only [hI, after_dmaAccept, after_dmaStale, after_ite]

theorem after_dcAbort {s : State} (hI : After s0 s) (d moved : Nat) : After s0 (State.dcAbort s d moved) := by
  simp only [State.dcAbort]
  repeat' (first
    | (simp +contextual (maxDischargeDepth := 100) only [hI, after_dcCount, after_dcIrq, after_dcStop,
        after_dmaFinish, after_raise, after_setDcF, after_ite]; done)
    | split)

theorem after_wrDcCtrl {s : State} (hI : After s0 s) (d v moved : Nat) : After s0 (State.wrDcCtrl s d v moved) := by
  simp only [State.wrDcCtrl]
  simp +contextual (maxDischargeDepth := 100) only [hI, after_dcAbort, after_dcCommit, after_dcStart, after_ite]

theorem after_dmaFault {s : State} (hI : After s0 s) : After s0 (State.dmaFault s) := by
  simp only [State.dmaFault]
  simp +contextual (maxDischargeDepth := 100) only [hI, after_dcCount, after_dcIrq, after_dcStop, after_dmaFinish,
    after_foldl, after_raise, after_setDcF, after_takeFree, after_ite, implies_true]

theorem after_streamsFault {s : State} (hI : After s0 s) : After s0 (State.streamsFault s) := by
  simp only [State.streamsFault]
  simp +contextual (maxDischargeDepth := 100) only [hI, after_dcCount, after_dmaFinish, after_foldl, after_takeFree,
    after_ite, implies_true]

theorem after_pathLost {s : State} (hI : After s0 s) : After s0 (State.pathLost s) := by
  simp only [State.pathLost]
  simp +contextual (maxDischargeDepth := 100) only [hI, after_dcIrq, after_dcStop, after_dmaDrop, after_foldl,
    after_setF, implies_true]

theorem after_resetRegs {s : State} (h : After s0 s) (lo hi : Nat) : After s0 (s.resetRegs lo hi) :=
  { h with kept := { h.kept with regs_wf := smap_wf_filter _ _ _ h.kept.regs_wf } }

theorem after_keepSealed {s : State} (h : After s0 s) (old : State) (lo hi : Nat) : After s0 (s.keepSealed old lo hi) := by
  unfold State.keepSealed
  split
  · exact h
  · refine after_foldl h fun s p hs => ?_
    split
    · exact hs
    · exact after_foldl hs fun s f hs => after_setReg hs _ _

theorem after_dcReset {s : State} (hI : After s0 s) (d : Nat) : After s0 (State.dcReset s d) := by
  simp only [State.dcReset]
  simp +contextual (maxDischargeDepth := 100) only [hI, after_dmaDrop, after_resetRegs, after_setDch,
    after_stopTimer, after_ite]

theorem after_hostReset {s : State} (hI : After s0 s) : After s0 (State.hostReset s) := by
  simp only [State.hostReset]
  simp +contextual (maxDischargeDepth := 100) only [hI, after_dcReset, after_foldl, after_resetRegs, after_mk,
    after_eq, after_ite, implies_true]

theorem after_msixReset {s : State} (hI : After s0 s) : After s0 (State.msixReset s) := by
  simp only [State.msixReset]
  simp +contextual (maxDischargeDepth := 100) only [hI, after_foldl, after_stopTimer, after_mk, after_eq,
    implies_true]

theorem after_linkGo {s : State} (hI : After s0 s) (up : Bool) (speed width : Nat) : After s0 (State.linkGo s up
    speed width) := by
  simp only [State.linkGo]
  simp +contextual (maxDischargeDepth := 100) only [hI, after_raise, after_setBit, after_setF]

theorem after_aerErrors {s : State} (hI : After s0 s) (uncorr corr : Word) : After s0 (State.aerErrors s uncorr corr) := by
  simp only [State.aerErrors]
  simp +contextual (maxDischargeDepth := 100) only [hI, after_raiseMs, after_mk, after_eq]

theorem after_hstReset {s : State} (hI : After s0 s) : After s0 (State.hstReset s) := by
  simp only [State.hstReset]
  simp +contextual (maxDischargeDepth := 100) only [hI, after_keepSealed, after_msixReset, after_resetRegs]

theorem after_wrStwDc {s : State} (hI : After s0 s) (v : Nat) : After s0 (State.wrStwDc s v) := by
  simp only [State.wrStwDc]
  simp +contextual (maxDischargeDepth := 100) only [hI, after_foldl, after_setDcF, after_store, implies_true]

/-! ### Of Machine/Power.lean -/

theorem after_stopClock {s : State} (hI : After s0 s) (id : Nat) : After s0 (State.stopClock s id) := by
  simp only [State.stopClock]
  simp +contextual (maxDischargeDepth := 100) only [hI, after_foldl, after_stopTimer, after_mk, after_eq,
    implies_true]

theorem after_startClock {s : State} (hI : After s0 s) (id : Nat) : After s0 (State.startClock s id) := by
  simp only [State.startClock]
  simp +contextual (maxDischargeDepth := 100) only [hI, after_foldl, after_startTimer, after_mk, after_eq,
    implies_true]

theorem after_keepIsland {s : State} (hI : After s0 s) (id : Nat) : After s0 (State.keepIsland s id) := by
  simp only [State.keepIsland]
  simp +contextual (maxDischargeDepth := 100) only [hI, after_setLive, after_stopClock]

theorem after_wakeLanes {s : State} (hI : After s0 s) (id : Nat) : After s0 (State.wakeLanes s id) := by
  simp only [State.wakeLanes]
  simp +contextual (maxDischargeDepth := 100) only [hI, after_foldl, after_setPf, after_setPllLock, after_setTq,
    after_showLos, after_showSynceOut, after_syncLost, after_ite, implies_true]

theorem after_wakeIsland {s : State} (hI : After s0 s) (id : Nat) : After s0 (State.wakeIsland s id) := by
  simp only [State.wakeIsland]
  simp +contextual (maxDischargeDepth := 100) only [hI, after_setLive, after_startClock, after_wakeLanes]

theorem after_setPhase {s : State} (hI : After s0 s) (v : Nat) : After s0 (State.setPhase s v) := by
  simp only [State.setPhase]
  simp +contextual (maxDischargeDepth := 100) only [hI, after_setF]

theorem after_pwrAbort {s : State} (hI : After s0 s) (cause isl : Nat) : After s0 (State.pwrAbort s cause isl) := by
  simp only [State.pwrAbort]
  simp +contextual (maxDischargeDepth := 100) only [hI, after_count, after_raise, after_setF, after_setPhase,
    after_stopTimer, after_mk, after_eq]

theorem after_stateGo {s : State} (hI : After s0 s) (new : Nat) : After s0 (State.stateGo s new) := by
  simp only [State.stateGo]
  simp +contextual (maxDischargeDepth := 100) only [hI, after_raise, after_setF]

theorem after_exitDone {s : State} (hI : After s0 s) : After s0 (State.exitDone s) := by
  simp only [State.exitDone]
  simp +contextual (maxDischargeDepth := 100) only [hI, after_setPhase, after_stateGo, after_mk, after_eq, after_ite]

theorem after_exitBegin {s : State} (hI : After s0 s) (l : List Nat) (undo : Bool) (mask : Nat) : After s0
    (State.exitBegin s l undo mask) := by
  simp only [State.exitBegin]
  simp +contextual (maxDischargeDepth := 100) only [hI, after_exitDone, after_setF, after_setPhase, after_stopTimer,
    after_mk, after_eq, after_ite]

theorem after_wake {s : State} (hI : After s0 s) (mask : Nat) : After s0 (State.wake s mask) := by
  simp only [State.wake]
  simp +contextual (maxDischargeDepth := 100) only [hI, after_exitBegin, after_pwrAbort, after_ite]

theorem after_entryDone {s : State} (hI : After s0 s) : After s0 (State.entryDone s) := by
  simp only [State.entryDone]
  simp +contextual (maxDischargeDepth := 100) only [hI, after_count, after_setF, after_setPhase, after_startTimer,
    after_stateGo, after_wake, after_mk, after_eq, after_ite]

theorem after_commitBegin {s : State} (hI : After s0 s) : After s0 (State.commitBegin s) := by
  simp only [State.commitBegin]
  simp +contextual (maxDischargeDepth := 100) only [hI, after_entryDone, after_setPhase, after_stopTimer, after_mk,
    after_eq, after_ite]

theorem after_wrPwrCtrl {s : State} (hI : After s0 s) (v : Nat) : After s0 (State.wrPwrCtrl s v) := by
  simp only [State.wrPwrCtrl]
  simp +contextual (maxDischargeDepth := 100) only [hI, after_commitBegin, after_exitBegin, after_setF,
    after_setPhase, after_startTimer, after_wake, after_mk, after_eq, after_ite]

theorem after_commitSide {s : State} (hI : After s0 s) (id : Nat) : After s0 (State.commitSide s id) := by
  simp only [State.commitSide]
  simp +contextual (maxDischargeDepth := 100) only [hI, after_linkGo, after_pathLost, after_mk, after_eq, after_ite]

theorem after_commitOne {s : State} (hI : After s0 s) (id : Nat) (rest : List Nat) : After s0 (State.commitOne s id
    rest) := by
  simp only [State.commitOne]
  simp +contextual (maxDischargeDepth := 100) only [hI, after_commitSide, after_keepIsland, after_mk, after_eq,
    after_ite]

theorem after_wakePin {s : State} (hI : After s0 s) (k : Nat) (high : Bool) : After s0 (State.wakePin s k high) := by
  simp only [State.wakePin]
  simp +contextual (maxDischargeDepth := 100) only [hI, after_mk, after_eq, after_ite]

theorem after_timResume {s : State} (hI : After s0 s) : After s0 (State.timResume s) := by
  simp only [State.timResume]
  repeat' (first
    | (simp +contextual (maxDischargeDepth := 100) only [hI, after_mk, after_eq]; done)
    | split)

theorem after_exitSide {s : State} (hI : After s0 s) (id : Nat) : After s0 (State.exitSide s id) := by
  simp only [State.exitSide]
  simp +contextual (maxDischargeDepth := 100) only [hI, after_foldl, after_setMcF, after_svcTo, after_timResume,
    after_ite, implies_true]

theorem after_exitNext {s : State} (hI : After s0 s) : After s0 (State.exitNext s) := by
  simp only [State.exitNext]
  simp +contextual (maxDischargeDepth := 100) only [hI, after_exitDone, after_mk, after_eq, after_ite]

theorem after_onFast {s : State} (hI : After s0 s) (id : Nat) : After s0 (State.onFast s id) := by
  simp only [State.onFast]
  simp +contextual (maxDischargeDepth := 100) only [hI, after_setF, after_mk, after_eq, after_ite]

theorem after_markIsl {s : State} (hI : After s0 s) (id : Nat) (out dark : Bool) : After s0 (State.markIsl s id out
    dark) := by
  simp only [State.markIsl]
  simp +contextual (maxDischargeDepth := 100) only [hI, after_setBit]

theorem after_islSvc {s : State} (hI : After s0 s) (id old new : Nat) : After s0 (State.islSvc s id old new) := by
  simp only [State.islSvc]
  simp +contextual (maxDischargeDepth := 100) only [hI, after_raise]

theorem after_islEnd {s : State} (hI : After s0 s) (cause : Nat) : After s0 (State.islEnd s cause) := by
  simp only [State.islEnd]
  simp +contextual (maxDischargeDepth := 100) only [hI, after_setF, after_mk, after_eq]

theorem after_returnFails {s : State} (hI : After s0 s) (id : Nat) : After s0 (State.returnFails s id) := by
  simp only [State.returnFails]
  simp +contextual (maxDischargeDepth := 100) only [hI, after_foldl, after_islEnd, after_islSvc, after_markIsl,
    implies_true]

theorem after_stepFails {s : State} (hI : After s0 s) (id res : Nat) : After s0 (State.stepFails s id res) := by
  simp only [State.stepFails]
  repeat' (first
    | (simp +contextual (maxDischargeDepth := 100) only [hI, after_count, after_exitNext, after_markIsl, after_raise,
        after_returnFails, after_mk, after_eq]; done)
    | split)

theorem after_wrClkCtrl {s : State} (hI : After s0 s) (v : Nat) : After s0 (State.wrClkCtrl s v) := by
  simp only [State.wrClkCtrl]
  simp +contextual (maxDischargeDepth := 100) only [hI, after_raise, after_setF, after_setPhase, after_mk, after_eq,
    after_ite]

theorem after_xtalSides {s : State} (hI : After s0 s) : After s0 (State.xtalSides s) := by
  simp only [State.xtalSides]
  simp +contextual (maxDischargeDepth := 100) only [hI, after_foldl, after_servoGo, after_setF, after_setInh,
    after_stopTimer, after_svcTo, after_syncLost, implies_true]

theorem after_dvfsRefused {s : State} (hI : After s0 s) (reg want have_ : Nat) : After s0 (State.dvfsRefused s reg
    want have_) := by
  simp only [State.dvfsRefused]
  simp +contextual (maxDischargeDepth := 100) only [hI, after_count, after_raise, after_setF]

theorem after_dvfsDone {s : State} (hI : After s0 s) : After s0 (State.dvfsDone s) := by
  simp only [State.dvfsDone]
  simp +contextual (maxDischargeDepth := 100) only [hI, after_raise]

theorem after_voutCode {s : State} (hI : After s0 s) (mv : Nat) : After s0 (State.voutCode s mv).1 := by
  simp only [State.voutCode]
  simp +contextual (maxDischargeDepth := 100) only [hI, after_takeFree, after_ite_fst]

theorem after_wrDvfsV {s : State} (hI : After s0 s) (v : Nat) (acks : Bool) : After s0 (State.wrDvfsV s v acks) := by
  simp only [State.wrDvfsV]
  simp +contextual (maxDischargeDepth := 100) only [hI, after_dvfsDone, after_dvfsRefused, after_emit, after_setF,
    after_startTimer, after_voutCode, after_ite]

theorem after_wrDvfsF {s : State} (hI : After s0 s) (v : Nat) : After s0 (State.wrDvfsF s v) := by
  simp only [State.wrDvfsF]
  simp +contextual (maxDischargeDepth := 100) only [hI, after_dvfsRefused, after_setF, after_ite]

theorem after_gasp {s : State} (hI : After s0 s) (c src : Nat) : After s0 (State.gasp s c src) := by
  simp only [State.gasp]
  simp +contextual (maxDischargeDepth := 100) only [hI, after_pRaise, after_setPf, after_ite]

theorem after_gaspWrite {s : State} (hI : After s0 s) (late : Bool) : After s0 (State.gaspWrite s late) := by
  simp only [State.gaspWrite]
  simp +contextual (maxDischargeDepth := 100) only [hI, after_count, after_setBit, after_mk, after_eq, after_ite]

/-! ### Of Machine/Repair.lean -/

theorem after_takeOut {s : State} (hI : After s0 s) (id : Nat) : After s0 (State.takeOut s id) := by
  simp only [State.takeOut]
  simp +contextual (maxDischargeDepth := 100) only [hI, after_foldl, after_islSvc, after_keepIsland, after_markIsl,
    implies_true]

theorem after_returnBegin {s : State} (hI : After s0 s) (id op : Nat) : After s0 (State.returnBegin s id op) := by
  simp only [State.returnBegin]
  simp +contextual (maxDischargeDepth := 100) only [hI, after_mk, after_eq]

theorem after_islRefuse {s : State} (hI : After s0 s) (cause : Nat) : After s0 (State.islRefuse s cause) := by
  simp only [State.islRefuse]
  simp +contextual (maxDischargeDepth := 100) only [hI, after_setF]

theorem after_islOutNow {s : State} (hI : After s0 s) (id op : Nat) : After s0 (State.islOutNow s id op) := by
  simp only [State.islOutNow]
  simp +contextual (maxDischargeDepth := 100) only [hI, after_islEnd, after_returnBegin, after_takeOut, after_ite]

theorem after_islStart {s : State} (hI : After s0 s) (id op : Nat) : After s0 (State.islStart s id op) := by
  simp only [State.islStart]
  simp +contextual (maxDischargeDepth := 100) only [hI, after_islOutNow, after_returnBegin, after_setF, after_ite]

theorem after_wrIslCmd {s : State} (hI : After s0 s) (v : Nat) : After s0 (State.wrIslCmd s v) := by
  simp only [State.wrIslCmd]
  repeat' (first
    | (simp +contextual (maxDischargeDepth := 100) only [hI, after_islRefuse, after_islStart, after_setF, after_ite];
        done)
    | split)

theorem after_blankEvt {s : State} (h : After s0 s) : After s0 s.blankEvt := h

theorem after_blankIsland {s : State} (hI : After s0 s) (id : Nat) : After s0 (State.blankIsland s id) := by
  simp only [State.blankIsland]
  repeat' (first
    | with_reducible refine after_ite ?_ ?_
    | with_reducible refine after_ite_fst ?_ ?_
    | (simp +contextual (maxDischargeDepth := 100) only [hI, after_blankEvt, after_foldl, after_freeRing,
        after_setBcs, after_setMc, after_setPn, after_setPort, after_setTsQueue, after_mk, after_eq, implies_true];
        done)
    | split)

theorem after_wipeIsland {s : State} (h : After s0 s) (id : Nat) : After s0 (s.wipeIsland id) := by
  unfold State.wipeIsland
  dsimp only
  refine after_blankIsland ?_ _
  have h2 := after_keepSealed (after_resetRegs h (window id) (window (id + 1))) s (window id) (window (id + 1))
  have k := h.kept
  have g := h2.kept
  refine after_mk.2 { h2 with
    kept := ⟨g.regs_wf, smap_wf_filter _ _ _ k.ctrs_wf, smap_wf_filter _ _ _ k.tally_wf,
      smap_wf_filter _ _ _ k.timers_wf, smap_get_filter_lt _ _ _ 0 (by decide) k.ctrs_wf k.ctr_lt,
      smap_get_filter_lt _ _ _ 0 (by decide) k.tally_wf k.tally_lt, g.boot_le⟩ }

theorem after_islBack {s : State} (hI : After s0 s) (i : Nat) : After s0 (State.islBack s i) := by
  simp only [State.islBack]
  simp +contextual (maxDischargeDepth := 100) only [hI, after_islSvc, after_markIsl, after_wakeIsland,
    after_wipeIsland, after_ite]

theorem after_drainPkt {s : State} (hI : After s0 s) (k : Nat) (p : Packet) : After s0 (State.drainPkt s k p) := by
  simp only [State.drainPkt]
  simp +contextual (maxDischargeDepth := 100) only [hI, after_count, after_discardPkt, after_pmc, after_skipMarker,
    after_ite]

theorem after_refusePkt {s : State} (hI : After s0 s) (p : Packet) : After s0 (State.refusePkt s p) := by
  simp only [State.refusePkt]
  simp +contextual (maxDischargeDepth := 100) only [hI, after_dcCount, after_markerOut, after_pCount, after_pRaiseMs,
    after_tqCount, after_ite]

theorem after_drainPipe {s : State} (hI : After s0 s) (k : Nat) : After s0 (State.drainPipe s k).1 := by
  simp only [State.drainPipe]
  simp +contextual (maxDischargeDepth := 100) only [hI, after_drainPkt, after_foldl, after_refusePkt, after_setPipe,
    implies_true]

theorem after_freeEngines {s : State} (hI : After s0 s) : After s0 (State.freeEngines s) := by
  simp only [State.freeEngines]
  simp +contextual (maxDischargeDepth := 100) only [hI, after_engineFree, after_foldl, after_pCount, after_scanCut,
    after_mk, after_eq, after_ite, implies_true]

theorem after_drainTlr {s : State} (hI : After s0 s) : After s0 (State.drainTlr s).1 := by
  simp only [State.drainTlr]
  simp +contextual (maxDischargeDepth := 100) only [hI, after_count, after_discardPkt, after_failItems, after_foldl,
    after_freeEngines, after_setStripe, implies_true]

theorem after_drainIns {s : State} (hI : After s0 s) : After s0 (State.drainIns s).1 := by
  simp only [State.drainIns]
  simp +contextual (maxDischargeDepth := 100) only [hI, after_engineFree, after_failItems, after_foldl,
    after_scanCut, after_ite, implies_true]

theorem after_loseAt {s : State} (hI : After s0 s) (q i : Nat) : After s0 (State.loseAt s q i).1 := by
  simp only [State.loseAt]
  repeat' (first
    | (simp +contextual (maxDischargeDepth := 100) only [hI, after_count, after_setPoolOcc, after_setQ, after_unref];
        done)
    | split)

theorem after_drainTmg {s : State} (hI : After s0 s) (bad : Option (Nat × Nat)) : After s0 (State.drainTmg s bad).1
    := by
  simp only [State.drainTmg]
  repeat' (first
    | (simp +contextual (maxDischargeDepth := 100) only [hI, after_count, after_discardPkt, after_foldl,
        after_loseAt, after_mk, after_eq, implies_true]; done)
    | split)

theorem after_drainVlt {s : State} (hI : After s0 s) : After s0 (State.drainVlt s).1 := by
  simp only [State.drainVlt]
  simp +contextual (maxDischargeDepth := 100) only [hI, after_faultBlocks, after_foldl, after_jobEnd, after_setF,
    implies_true]

theorem after_drainPn {s : State} (hI : After s0 s) (c : Nat) : After s0 (State.drainPn s c).1 := by
  simp only [State.drainPn]
  repeat' (first
    | (simp +contextual (maxDischargeDepth := 100) only [hI, after_cancelBursts, after_dropReasms,
        after_finishBurst]; done)
    | split)

theorem after_drainBc {s : State} (hI : After s0 s) (c : Nat) : After s0 (State.drainBc s c).1 := by
  simp only [State.drainBc]
  simp +contextual (maxDischargeDepth := 100) only [hI, after_cancelBursts, after_flushTill]

theorem after_dropFifo {s : State} (hI : After s0 s) (n : Nat) : After s0 (State.dropFifo s n) := by
  simp only [State.dropFifo]
  simp +contextual (maxDischargeDepth := 100) only [hI, after_setPipe, after_tqCount]

theorem after_dropMac {s : State} (hI : After s0 s) (n : Nat) : After s0 (State.dropMac s n) := by
  simp only [State.dropMac]
  simp +contextual (maxDischargeDepth := 100) only [hI, after_setPort, after_stopTimer, after_tqCount, after_ite]

theorem after_drainPort {s : State} (hI : After s0 s) (n : Nat) : After s0 (State.drainPort s n).1 := by
  simp only [State.drainPort]
  simp +contextual (maxDischargeDepth := 100) only [hI, after_dropFifo, after_dropMac]

theorem after_drainQuad {s : State} (h : After s0 s) (q : Nat) : After s0 (s.drainQuad q).1 := by
  unfold State.drainQuad
  exact after_foldl_fst h fun r n hr => after_drainPort hr n

theorem after_drainChk {s : State} (hI : After s0 s) : After s0 (State.drainChk s).1 := by
  simp only [State.drainChk]
  simp +contextual (maxDischargeDepth := 100) only [hI, after_chkFree, after_chkResult, after_foldl, after_scrubEnd,
    after_streamsFault, after_ite, implies_true]

theorem after_drainMc {s : State} (hI : After s0 s) (c cause : Nat) : After s0 (State.drainMc s c cause).1 := by
  simp only [State.drainMc]
  simp +contextual (maxDischargeDepth := 100) only [hI, after_mcFault]

theorem after_drainTim {s : State} (hI : After s0 s) : After s0 (State.drainTim s).1 := by
  simp only [State.drainTim]
  simp +contextual (maxDischargeDepth := 100) only [hI, after_servoHold, after_setF, after_showTod, after_mk,
    after_eq]

theorem after_drainIsland {s : State} (hI : After s0 s) (id cause : Nat) (bad : Option (Nat × Nat)) : After s0
    (State.drainIsland s id cause bad).1 := by
  simp only [State.drainIsland]
  repeat' (first
    | with_reducible refine after_ite ?_ ?_
    | with_reducible refine after_ite_fst ?_ ?_
    | (simp +contextual (maxDischargeDepth := 100) only [hI, after_dmaFault, after_drainBc, after_drainChk,
        after_drainIns, after_drainMc, after_drainPipe, after_drainPn, after_drainQuad, after_drainTim,
        after_drainTlr, after_drainTmg, after_drainVlt, after_raise, after_stwRestart, after_mk, after_eq]; done)
    | split)

theorem after_islandFault {s : State} (hI : After s0 s) (id cause : Nat) (bad : Option (Nat × Nat)) : After s0
    (State.islandFault s id cause bad) := by
  simp only [State.islandFault]
  simp +contextual (maxDischargeDepth := 100) only [hI, after_count, after_drainIsland, after_drainRecord,
    after_islSvc, after_keepIsland, after_markIsl, after_raise, after_reboot, after_mk, after_eq, after_ite]

theorem after_svcGoesOn {s : State} (hI : After s0 s) (id : Nat) : After s0 (State.svcGoesOn s id) := by
  simp only [State.svcGoesOn]
  repeat' (first
    | (simp +contextual (maxDischargeDepth := 100) only [hI, after_islOutNow, after_islRefuse, after_ite]; done)
    | split)

theorem after_macMismatch {s : State} (hI : After s0 s) (n : Nat) : After s0 (State.macMismatch s n) := by
  simp only [State.macMismatch]
  repeat' (first
    | (simp +contextual (maxDischargeDepth := 100) only [hI, after_secMismatch, after_setPort, after_stopTimer]; done)
    | split)

theorem after_usMismatch {s : State} (hI : After s0 s) (c : Nat) : After s0 (State.usMismatch s c) := by
  simp only [State.usMismatch]
  repeat' (first
    | (simp +contextual (maxDischargeDepth := 100) only [hI, after_count, after_pCount, after_pRaiseMs, after_setPn,
        after_vaultFault]; done)
    | split)

/-! ### Of Machine/Bus.lean -/

theorem after_wrBootCtrl {s : State} (hI : After s0 s) (v : Nat) : After s0 (State.wrBootCtrl s v) := by
  simp only [State.wrBootCtrl]
  simp +contextual (maxDischargeDepth := 100) only [hI, after_fuseCut, after_reboot, after_setBit, after_mk,
    after_eq, after_ite]

theorem after_takeBit {s : State} (hI : After s0 s) : After s0 (State.takeBit s).1 := by
  simp only [State.takeBit]
  simp +contextual (maxDischargeDepth := 100) only [hI, after_takeFree]

theorem after_wrAon {s : State} (hI : After s0 s) (a v : Nat) : After s0 (State.wrAon s a v) := by
  simp only [State.wrAon]
  simp +contextual (maxDischargeDepth := 100) only [hI, after_store, after_takeBit, after_wake, after_wrBootCtrl,
    after_wrClkCtrl, after_wrDvfsF, after_wrDvfsV, after_wrIslCmd, after_wrOwnCmd, after_wrPwrCtrl, after_ite]

theorem after_wrTim {s : State} (hI : After s0 s) (a v : Nat) : After s0 (State.wrTim s a v) := by
  simp only [State.wrTim]
  repeat' (first
    | (simp +contextual (maxDischargeDepth := 100) only [hI, after_showSynceOut, after_store, after_takeBit,
        after_wrAdjCmd, after_wrPpsInCfg, after_wrPpsOutCfg, after_wrPtodCtrl, after_wrServoCfg, after_wrServoSample,
        after_wrSnapCtrl, after_wrSrcCfg, after_wrSynceCfg, after_wrTodRx, after_wrTodTx, after_ite]; done)
    | split
    | with_reducible refine after_ite ?_ ?_
    | with_reducible refine after_ite_fst ?_ ?_)

theorem after_wrPn {s : State} (hI : After s0 s) (c a v : Nat) : After s0 (State.wrPn s c a v) := by
  simp only [State.wrPn]
  simp +contextual (maxDischargeDepth := 100) only [hI, after_psCheck, after_store, after_takeBit, after_wrActCtrl,
    after_wrAllocCmd, after_wrPidCmd, after_wrPrbs, after_wrRxCtrl, after_wrRxEq, after_wrSvcCtrl, after_wrTodCtrl,
    after_wrUsCtrl, after_ite]

theorem after_wrBc {s : State} (hI : After s0 s) (c a v : Nat) : After s0 (State.wrBc s c a v) := by
  simp only [State.wrBc]
  simp +contextual (maxDischargeDepth := 100) only [hI, after_store, after_wrMapCmd, after_wrMapCtrl, after_ite]

theorem after_wrQuad {s : State} (hI : After s0 s) (q a v : Nat) : After s0 (State.wrQuad s q a v) := by
  simp only [State.wrQuad]
  repeat' (first
    | (simp +contextual (maxDischargeDepth := 100) only [hI, after_store, after_takeBit, after_wrLaneCfg,
        after_wrMacCtrl, after_wrPortCfg, after_wrPortSvc, after_wrPrbs, after_wrQuadPll, after_wrSecCfg,
        after_wrSecCmd, after_wrTsCtrl, after_ite]; done)
    | split
    | with_reducible refine after_ite ?_ ?_
    | with_reducible refine after_ite_fst ?_ ?_)

theorem after_wrKp {s : State} (hI : After s0 s) (k a v : Nat) : After s0 (State.wrKp s k a v) := by
  simp only [State.wrKp]
  simp +contextual (maxDischargeDepth := 100) only [hI, after_store, after_wrPgCmd, after_wrRefused, after_ite]

theorem after_wrTbl {s : State} (hI : After s0 s) (a v : Nat) : After s0 (State.wrTbl s a v) := by
  simp only [State.wrTbl]
  simp +contextual (maxDischargeDepth := 100) only [hI, after_store, after_wrActCmd, after_wrBankCmd, after_wrEpoch,
    after_wrTblCmd, after_ite]

theorem after_wrTlr {s : State} (hI : After s0 s) (a v : Nat) : After s0 (State.wrTlr s a v) := by
  simp only [State.wrTlr]
  simp +contextual (maxDischargeDepth := 100) only [hI, after_store, after_wrCancel, after_wrDone, after_wrStripeCmd,
    after_wrTake, after_ite]

theorem after_wrIns {s : State} (hI : After s0 s) (a v : Nat) : After s0 (State.wrIns s a v) := by
  simp only [State.wrIns]
  simp +contextual (maxDischargeDepth := 100) only [hI, after_store, after_wrEngSvc, after_wrPatCmd, after_ite]

theorem after_wrTmg {s : State} (hI : After s0 s) (a v : Nat) : After s0 (State.wrTmg s a v) := by
  simp only [State.wrTmg]
  simp +contextual (maxDischargeDepth := 100) only [hI, after_store, after_wrGclCmd, after_wrGclCtrl,
    after_wrPurseCmd, after_wrQCmd, after_ite]

theorem after_wrVlt {s : State} (hI : After s0 s) (a v : Nat) : After s0 (State.wrVlt s a v) := by
  simp only [State.wrVlt]
  simp +contextual (maxDischargeDepth := 100) only [hI, after_store, after_takeFree, after_wrDbgCtrl,
    after_wrJobCtrl, after_wrKeyCmd, after_wrMintCtrl, after_ite]

theorem after_wrMc {s : State} (hI : After s0 s) (c a v : Nat) : After s0 (State.wrMc s c a v) := by
  simp only [State.wrMc]
  simp +contextual (maxDischargeDepth := 100) only [hI, after_store, after_wrEccClr, after_wrMcSvc, after_ite]

theorem after_wrMcc {s : State} (hI : After s0 s) (a v : Nat) : After s0 (State.wrMcc s a v) := by
  simp only [State.wrMcc]
  simp +contextual (maxDischargeDepth := 100) only [hI, after_store, after_wrMccCfg, after_wrTraceCfg,
    after_wrTraceCmd, after_ite]

theorem after_wrHst {s : State} (hI : After s0 s) (a v : Nat) : After s0 (State.wrHst s a v) := by
  simp only [State.wrHst]
  simp +contextual (maxDischargeDepth := 100) only [hI, after_msixSend, after_store, after_wrPktCmd, after_ite]

theorem after_wrDma {s : State} (hI : After s0 s) (a v : Nat) : After s0 (State.wrDma s a v) := by
  simp only [State.wrDma]
  simp +contextual (maxDischargeDepth := 100) only [hI, after_store, after_takeFree, after_wrDb, after_wrDcCtrl,
    after_ite]

theorem after_wrEvt {s : State} (hI : After s0 s) (m : Master) (a v : Nat) : After s0 (State.wrEvt s m a v) := by
  simp only [State.wrEvt]
  simp +contextual (maxDischargeDepth := 100) only [hI, after_store, after_wrLgrCfg, after_wrLgrCmd, after_wrRingCfg,
    after_wrRingCi, after_wrSoft, after_ite]

theorem after_wrSampCfg {s : State} (hI : After s0 s) (k a v : Nat) : After s0 (State.wrSampCfg s k a v) := by
  simp only [State.wrSampCfg]
  simp +contextual (maxDischargeDepth := 100) only [hI, after_setF, after_store, after_ite]

theorem after_wrPmc {s : State} (hI : After s0 s) (a v : Nat) : After s0 (State.wrPmc s a v) := by
  simp only [State.wrPmc]
  simp +contextual (maxDischargeDepth := 100) only [hI, after_store, after_wrPmcCtr, after_wrPmcCtrl,
    after_wrSampCfg, after_wrTallyCmd, after_ite]

theorem after_wrStw {s : State} (hI : After s0 s) (m : Master) (a v : Nat) : After s0 (State.wrStw s m a v) := by
  simp only [State.wrStw]
  simp +contextual (maxDischargeDepth := 100) only [hI, after_kickWdog, after_store, after_stwReady, after_wrMbData,
    after_wrMbH2s, after_wrMbS2h, after_wrPktCmd, after_wrStwCfg, after_wrStwCtrl, after_wrStwDc, after_ite]

theorem after_wrReg {s : State} (hI : After s0 s) (m : Master) (a v : Nat) : After s0 (State.wrReg s m a v) := by
  simp only [State.wrReg]
  repeat' (first
    | with_reducible refine after_ite ?_ ?_
    | with_reducible refine after_ite_fst ?_ ?_
    | (simp +contextual (maxDischargeDepth := 100) only [hI, after_store, after_wrAon, after_wrBc, after_wrChkCtrl,
        after_wrDma, after_wrEvt, after_wrHst, after_wrIns, after_wrKp, after_wrMc, after_wrMcc, after_wrPmc,
        after_wrPn, after_wrQuad, after_wrStw, after_wrTbl, after_wrTim, after_wrTlr, after_wrTmg, after_wrVlt]; done)
    | split)

theorem after_wrWord {s : State} (hI : After s0 s) (m : Master) (a v : Nat) : After s0 (State.wrWord s m a v) := by
  simp only [State.wrWord]
  simp +contextual (maxDischargeDepth := 100) only [hI, after_wrReg, after_ite]

theorem after_busWrite {s : State} (hI : After s0 s) (m : Master) (a v : Nat) : After s0 (State.busWrite s m a v) :=
    by
  simp only [State.busWrite]
  repeat' (first
    | (simp +contextual (maxDischargeDepth := 100) only [hI, after_onVlt, after_onWrite, after_wrWord, implies_true];
        done)
    | split)

theorem after_readCounter {s : State} (hI : After s0 s) (m : Master) (a : Nat) : After s0 (State.readCounter s m a).1
    := by
  simp only [State.readCounter]
  simp +contextual (maxDischargeDepth := 100) only [hI, after_mk, after_eq, after_ite_fst]

theorem after_eyeRead {s : State} (hI : After s0 s) (a w : Nat) : After s0 (State.eyeRead s a w).1 := by
  simp only [State.eyeRead]
  simp +contextual (maxDischargeDepth := 100) only [hI, after_takeFree, after_ite_fst]

theorem after_showRead {s : State} (hI : After s0 s) (a : Nat) : After s0 (State.showRead s a) := by
  simp only [State.showRead]
  simp +contextual (maxDischargeDepth := 100) only [hI, after_adapt, after_setF, after_showLoad, after_ite]

theorem after_readReg {s : State} (hI : After s0 s) (a : Nat) : After s0 (State.readReg s a).1 := by
  simp only [State.readReg]
  repeat' (first
    | (simp +contextual (maxDischargeDepth := 100) only [hI, after_eyeRead, after_setReg, after_showRead, after_ite];
        done)
    | split)

theorem after_busRead {s : State} (hI : After s0 s) (m : Master) (a : Nat) : After s0 (State.busRead s m a) := by
  simp only [State.busRead]
  simp +contextual (maxDischargeDepth := 100) only [hI, after_darkAccess, after_emit, after_readCounter,
    after_readReg, after_ite, after_ite_fst]

theorem after_tapScan {s : State} (hI : After s0 s) (i : TapInstr) (a v : Nat) : After s0 (State.tapScan s i a v) :=
    by
  simp only [State.tapScan]
  repeat' (first
    | (simp +contextual (maxDischargeDepth := 100) only [hI, after_emit, after_readReg, after_takeFree, after_wrWord,
        after_mk, after_eq, after_ite, after_ite_fst]; done)
    | split)

theorem after_wrBar2 {s : State} (hI : After s0 s) (i v : Nat) : After s0 (State.wrBar2 s i v) := by
  simp only [State.wrBar2]
  simp +contextual (maxDischargeDepth := 100) only [hI, after_msixFlush, after_setMsixWord, after_ite]

theorem after_wrMsix {s : State} (hI : After s0 s) (enable mask : Bool) : After s0 (State.wrMsix s enable mask) := by
  simp only [State.wrMsix]
  simp +contextual (maxDischargeDepth := 100) only [hI, after_msixFlush, after_mk, after_eq, after_ite]

theorem after_wrAer {s : State} (hI : After s0 s) (corr : Bool) (v : Word) : After s0 (State.wrAer s corr v) := by
  simp only [State.wrAer]
  simp +contextual (maxDischargeDepth := 100) only [hI, after_mk, after_eq, after_ite]

theorem after_stwSoft {s : State} (hI : After s0 s) (sev : Nat) (code : Word) : After s0 (State.stwSoft s sev code) := by
  simp only [State.stwSoft]
  simp +contextual (maxDischargeDepth := 100) only [hI, after_raiseSev, after_ite]

/-! ### Of Machine/Omci.lean -/

theorem after_setMib {s : State} (hI : After s0 s) (c : Nat) (m : Mib) : After s0 (State.setMib s c m) := by
  simp only [State.setMib]
  simp +contextual (maxDischargeDepth := 100) only [hI, after_mk, after_eq]

theorem after_mibDone {s : State} (hI : After s0 s) (c : Nat) (r : OmciReq) : After s0 (State.mibDone s c r) := by
  simp only [State.mibDone]
  repeat' (first
    | (simp +contextual (maxDischargeDepth := 100) only [hI, after_setMib, after_ite]; done)
    | split)

theorem after_omciKeep {s : State} (hI : After s0 s) (k : Option (BitVec 24 × List Byte)) : After s0 (State.omciKeep
    s k) := by
  simp only [State.omciKeep]
  repeat' (first
    | (simp +contextual (maxDischargeDepth := 100) only [hI, after_flashStart]; done)
    | split)

theorem after_pmTurn {s : State} (hI : After s0 s) (c : Nat) (keep : Bool) : After s0 (State.pmTurn s c keep) := by
  simp only [State.pmTurn]
  simp +contextual (maxDischargeDepth := 100) only [hI, after_mk, after_eq]

theorem after_pmRun {s : State} (hI : After s0 s) : After s0 (State.pmRun s) := by
  simp only [State.pmRun]
  simp +contextual (maxDischargeDepth := 100) only [hI, after_pmTurn, after_mk, after_eq, after_ite]

theorem after_pmSync {s : State} (hI : After s0 s) : After s0 (State.pmSync s) := by
  simp only [State.pmSync]
  simp +contextual (maxDischargeDepth := 100) only [hI, after_pmTurn, after_mk, after_eq]

theorem after_omciViaHost {s : State} (hI : After s0 s) (c : Nat) (req : List Byte) (r : OmciReq) : After s0
    (State.omciViaHost s c req r) := by
  simp only [State.omciViaHost]
  simp +contextual (maxDischargeDepth := 100) only [hI, after_mbSend, after_omciAnswer, after_startTimer, after_mk,
    after_eq, after_ite]

theorem after_omciWrites {s : State} (hI : After s0 s) (l : List (BitVec 24 × Word)) : After s0 (State.omciWrites s
    l) := by
  simp only [State.omciWrites]
  simp +contextual (maxDischargeDepth := 100) only [hI, after_busWrite, after_foldl, implies_true]

theorem after_omciTime {s : State} (hI : After s0 s) (c sfc sec ns frac : Nat) : After s0 (State.omciTime s c sfc sec
    ns frac) := by
  simp only [State.omciTime]
  simp +contextual (maxDischargeDepth := 100) only [hI, after_setF, after_setPf, after_wrTodCtrl, after_mk, after_eq]

theorem after_bindPid {s : State} (hI : After s0 s) (c i sf : Nat) : After s0 (State.bindPid s c i sf).1 := by
  simp only [State.bindPid]
  simp +contextual (maxDischargeDepth := 100) only [hI, after_setPid]

theorem after_omciTwin {s : State} (hI : After s0 s) (a b sf : Nat) (striped : Bool) (home x : Nat) : After s0
    (State.omciTwin s a b sf striped home x) := by
  simp only [State.omciTwin]
  simp +contextual (maxDischargeDepth := 100) only [hI, after_bindPid, after_placeAt, after_stripeSet,
    after_stripeWrite, after_ite]

theorem after_omciOk {s : State} (hI : After s0 s) (c : Nat) (req : List Byte) (r : OmciReq) : After s0 (State.omciOk
    s c req r) := by
  simp only [State.omciOk]
  simp +contextual (maxDischargeDepth := 100) only [hI, after_mibDone, after_omciKeep, after_omciReply]

theorem after_omciAct {s : State} (hI : After s0 s) (c : Nat) (req : List Byte) (r : OmciReq) : After s0
    (State.omciAct s c req r) := by
  simp only [State.omciAct]
  repeat' (first
    | (simp +contextual (maxDischargeDepth := 100) only [hI, after_emit, after_flashStart, after_mbSend,
        after_omciAnswer, after_omciOk, after_omciTime, after_omciTwin, after_omciViaHost, after_omciWrites,
        after_pmSync, after_setF, after_wrPortSvc, after_wrStwCtrl, after_mk, after_eq, after_ite]; done)
    | split)

theorem after_omciAlarm {s : State} (hI : After s0 s) (c k : Nat) (v : Bool) : After s0 (State.omciAlarm s c k v) :=
    by
  simp only [State.omciAlarm]
  simp +contextual (maxDischargeDepth := 100) only [hI, after_omciSend, after_mk, after_eq, after_ite]

/-! ### Of Machine/Passbook.lean -/

theorem after_setActWord {s : State} (hI : After s0 s) (tpl : Bool) (i v : Nat) : After s0 (State.setActWord s tpl i
    v) := by
  simp only [State.setActWord]
  simp +contextual (maxDischargeDepth := 100) only [hI, after_mk, after_eq, after_ite]

theorem after_loadEnt {s : State} (hI : After s0 s) (t i e : Nat) : After s0 (State.loadEnt s t i e) := by
  simp only [State.loadEnt]
  simp +contextual (maxDischargeDepth := 100) only [hI, after_placeAt, after_setActWord, after_stripeSet, after_ite]

theorem after_loadEnts {s t : State} (h : After s0 s) (tb : Nat) (ins : Bool) (i : Nat) (l : List Nat)
    (k : s.loadEnts tb ins i l = some t) : After s0 t := by
  induction l generalizing s i with
  | nil => exact Option.some.inj k ▸ h
  | cons e es ih =>
    simp only [State.loadEnts] at k
    split at k
    · split at k
      · next e1 => exact ih (by have := after_insertEnt h tb e; rw [e1] at this; exact this) _ k
      · cases k
    · split at k
      · cases k
      · exact ih (after_loadEnt h _ _ _) _ k

theorem after_loadTables {s t : State} (h : After s0 s) (n : Nat) (l : List Word) (k : s.loadTables n l = some t) : After s0 t := by
  induction n generalizing s l with
  | zero => simp only [State.loadTables, Option.some.injEq] at k; exact k ▸ h
  | succ n ih =>
    match l, k with
    | [], k => simp only [State.loadTables, Option.some.injEq] at k; exact k ▸ h
    | [_], k => simp only [State.loadTables, Option.some.injEq] at k; exact k ▸ h
    | w :: i :: r, k =>
      simp only [State.loadTables, Option.bind_eq_some_iff] at k
      obtain ⟨u, e, k⟩ := k
      exact ih (after_loadEnts h _ _ _ _ e) _ k

theorem after_loadParse {s : State} (h : After s0 s) (n : Nat) (l : List Word) : After s0 (s.loadParse n l) := by
  induction n generalizing s l with
  | zero => simp only [State.loadParse]; exact h
  | succ n ih =>
    cases l with
    | nil => simp only [State.loadParse]; exact h
    | cons w t =>
      simp only [State.loadParse]
      simp +contextual (maxDischargeDepth := 100) only [h, ih, after_setNode, after_mk, after_eq, after_ite, after_ite_fst, after_foldl, after_foldl_fst, implies_true]

theorem after_loadPats {s : State} (h : After s0 s) (b i : Nat) (l : List Nat) : After s0 (s.loadPats b i l) := by
  induction l generalizing s i with
  | nil => exact h
  | cons v vs ih => exact ih (after_setPat h _ _ _) _

theorem after_loadPatterns {s : State} (h : After s0 s) (n : Nat) (l : List Word) : After s0 (s.loadPatterns n l) := by
  induction n generalizing s l with
  | zero => simp only [State.loadPatterns]; exact h
  | succ n ih =>
    match l with
    | [] => simp only [State.loadPatterns]; exact h
    | [_] => simp only [State.loadPatterns]; exact h
    | w :: f :: t =>
      simp only [State.loadPatterns]
      simp +contextual (maxDischargeDepth := 100) only [h, ih, after_loadPats, after_mk, after_eq, after_ite, after_ite_fst, after_foldl, after_foldl_fst, implies_true]

/-! ### Of Machine/Boot.lean -/

theorem after_bringLive {s : State} (hI : After s0 s) (l : List Nat) : After s0 (State.bringLive s l) := by
  simp only [State.bringLive]
  simp +contextual (maxDischargeDepth := 100) only [hI, after_setLives]

theorem after_keepDark {s : State} (hI : After s0 s) (id classes : Nat) : After s0 (State.keepDark s id classes) := by
  simp only [State.keepDark]
  simp +contextual (maxDischargeDepth := 100) only [hI, after_raise, after_setBit]

theorem after_fallbackMarks {s : State} (hI : After s0 s) : After s0 (State.fallbackMarks s) := by
  simp only [State.fallbackMarks]
  simp +contextual (maxDischargeDepth := 100) only [hI, after_setF, after_setInh, after_ite]

theorem after_lockQuads {s : State} (hI : After s0 s) : After s0 (State.lockQuads s) := by
  simp only [State.lockQuads]
  simp +contextual (maxDischargeDepth := 100) only [hI, after_foldl, after_setBit, implies_true]

theorem after_loadIslands {s : State} (hI : After s0 s) : After s0 (State.loadIslands s) := by
  simp only [State.loadIslands]
  simp +contextual (maxDischargeDepth := 100) only [hI, after_setF, after_setPf, after_showTiCal]

theorem after_writeBootRecord {s : State} (hI : After s0 s) : After s0 (State.writeBootRecord s) := by
  simp only [State.writeBootRecord]
  simp +contextual (maxDischargeDepth := 100) only [hI, after_mk, after_eq, after_ite]

theorem after_aonTimers {s : State} (h : After s0 s) : After s0 s.aonTimers :=
  { h with kept := { h.kept with timers_wf := smap_wf_filter _ _ _ h.kept.timers_wf } }

theorem after_hold {s : State} (hI : After s0 s) (code : Nat) : After s0 (State.hold s code) := by
  simp only [State.hold]
  simp +contextual (maxDischargeDepth := 100) only [hI, after_aonTimers, after_setLive, after_setLives,
    after_stopTimer, after_toStage, after_writeBootRecord, after_mk, after_eq]

theorem after_readCopy {s : State} (hI : After s0 s) (k : Nat) : After s0 (State.readCopy s k) := by
  simp only [State.readCopy]
  simp +contextual (maxDischargeDepth := 100) only [hI, after_toStage, after_mk, after_eq, after_ite]

theorem after_copyCode {s : State} (hI : After s0 s) (code : Nat) : After s0 (State.copyCode s code) := by
  simp only [State.copyCode]
  simp +contextual (maxDischargeDepth := 100) only [hI, after_raise, after_setF, after_mk, after_eq]

theorem after_otherCopy {s : State} (hI : After s0 s) : After s0 (State.otherCopy s) := by
  simp only [State.otherCopy]
  simp +contextual (maxDischargeDepth := 100) only [hI, after_hold, after_readCopy, after_ite]

theorem after_applyFail {s : State} (hI : After s0 s) : After s0 (State.applyFail s) := by
  simp only [State.applyFail]
  simp +contextual (maxDischargeDepth := 100) only [hI, after_copyCode, after_fallbackMarks, after_loadIslands,
    after_lockQuads, after_otherCopy, after_resetIslands, after_setF, after_startTimer, after_stopTimer, after_ite]

theorem after_loadLedger {s : State} (hI : After s0 s) : After s0 (State.loadLedger s) := by
  simp only [State.loadLedger]
  simp +contextual (maxDischargeDepth := 100) only [hI, after_setBit, after_setF, after_mk, after_eq, after_ite]

theorem after_xtalFail {s : State} (hI : After s0 s) : After s0 (State.xtalFail s) := by
  simp only [State.xtalFail]
  simp +contextual (maxDischargeDepth := 100) only [hI, after_fallbackMarks, after_raise, after_setF, after_toStage]

theorem after_pllEnd {s : State} (hI : After s0 s) (ready : Bool) : After s0 (State.pllEnd s ready) := by
  simp only [State.pllEnd]
  simp +contextual (maxDischargeDepth := 100) only [hI, after_bringLive, after_lockQuads, after_setBit, after_toStage]

theorem after_pllLimit {s : State} (hI : After s0 s) (unlocked : List Nat) : After s0 (State.pllLimit s unlocked) :=
    by
  simp only [State.pllLimit]
  simp +contextual (maxDischargeDepth := 100) only [hI, after_foldl, after_hold, after_keepDark, after_pllEnd,
    after_ite, implies_true]

theorem after_assayFirst {s : State} (hI : After s0 s) (rom kat mint : Bool) (sram : List (Fin 64)) : After s0
    (State.assayFirst s rom kat mint sram).1 := by
  simp only [State.assayFirst]
  repeat' (first
    | (simp +contextual (maxDischargeDepth := 100) only [hI, after_takeFree]; done)
    | split)

theorem after_copyVerified {s : State} (hI : After s0 s) : After s0 (State.copyVerified s) := by
  simp only [State.copyVerified]
  simp +contextual (maxDischargeDepth := 100) only [hI, after_bringLive, after_foldl, after_setF, after_setMc,
    after_toStage, after_mk, after_eq, after_ite, implies_true]

theorem after_settleCmd {s : State} (hI : After s0 s) (a : Nat) : After s0 (State.settleCmd s a) := by
  simp only [State.settleCmd]
  simp +contextual (maxDischargeDepth := 100) only [hI, after_setReg, after_ite]

theorem after_recWrite {s : State} (hI : After s0 s) (a v : Nat) : After s0 (State.recWrite s a v) := by
  simp only [State.recWrite]
  simp +contextual (maxDischargeDepth := 100) only [hI, after_settleCmd, after_wrWord, after_ite]

theorem after_recRead {s : State} (hI : After s0 s) (a : Nat) : After s0 (State.recRead s a).1 := by
  simp only [State.recRead]
  simp +contextual (maxDischargeDepth := 100) only [hI, after_readReg, after_ite_fst]

theorem after_recBlock {s : State} (h : After s0 s) (a : Nat) (l : List Word) : After s0 (s.recBlock a l) := by
  induction l generalizing s a with
  | nil => exact h
  | cons v vs ih => exact ih (after_recWrite h _ _) _

theorem after_applyRec {s : State} (hI : After s0 s) (r : Rec) (rest : List Word) : After s0 (State.applyRec s r
    rest) := by
  simp only [State.applyRec]
  repeat' (first
    | (simp +contextual (maxDischargeDepth := 100) only [hI, after_recBlock, after_recRead, after_recWrite,
        after_startTimer, after_stopTimer, after_mk, after_eq, after_ite]; done)
    | split)

theorem after_trainLimit {s : State} (hI : After s0 s) (c : Nat) : After s0 (State.trainLimit s c) := by
  simp only [State.trainLimit]
  simp +contextual (maxDischargeDepth := 100) only [hI, after_mcBootTrain, after_mcTrainFail, after_setMcF, after_ite]

theorem after_trainEnd {s : State} (hI : After s0 s) : After s0 (State.trainEnd s) := by
  simp only [State.trainEnd]
  simp +contextual (maxDischargeDepth := 100) only [hI, after_foldl, after_stopTimer, after_toStage,
    after_trainLimit, after_mk, after_eq, implies_true]

theorem after_loadSection {s t : State} (h : After s0 s) (bs : List Byte) (x : Section) (k : s.loadSection bs x = some t) :
    After s0 t := by
  simp only [State.loadSection] at k
  split at k
  · split at k
    · exact Option.some.inj k ▸ h
    · exact after_loadTables h _ _ k
  · split at k
    · exact Option.some.inj k ▸ after_loadParse h _ _
    · split at k
      · rw [Option.some.injEq] at k
        subst k
        simp +contextual (maxDischargeDepth := 100) only [h, after_loadPatterns, after_mk, after_eq, after_ite, after_ite_fst, after_foldl, after_foldl_fst, implies_true]
      · exact Option.some.inj k ▸ h

theorem after_loadSections {s t : State} (h : After s0 s) (bs : List Byte) (l : List Section) (k : s.loadSections bs l = some t) :
    After s0 t := by
  induction l generalizing s with
  | nil => exact Option.some.inj k ▸ h
  | cons x l ih =>
    simp only [State.loadSections] at k
    split at k
    · cases k
    · next e => exact ih (after_loadSection h _ _ e) k

theorem after_seal {s : State} (hI : After s0 s) : After s0 (State.seal s) := by
  simp only [State.seal]
  simp +contextual (maxDischargeDepth := 100) only [hI, after_allocRing, after_checkBank, after_setF, after_stwLoad,
    after_toStage, after_mk, after_eq, after_ite]

theorem after_stewardLimit {s : State} (hI : After s0 s) : After s0 (State.stewardLimit s) := by
  simp only [State.stewardLimit]
  simp +contextual (maxDischargeDepth := 100) only [hI, after_fwFail, after_toStage, after_mk, after_eq, after_ite]

theorem after_calLimit {s : State} (hI : After s0 s) (n : Nat) : After s0 (State.calLimit s n) := by
  simp only [State.calLimit]
  simp +contextual (maxDischargeDepth := 100) only [hI, after_calLane, after_ite]

theorem after_riseAll {s : State} (hI : After s0 s) : After s0 (State.riseAll s) := by
  simp only [State.riseAll]
  simp +contextual (maxDischargeDepth := 100) only [hI, after_bringLive]

theorem after_countFrom {s : State} (hI : After s0 s) (item : Nat) : After s0 (State.countFrom s item) := by
  simp only [State.countFrom]
  simp +contextual (maxDischargeDepth := 100) only [hI, after_mk, after_eq]

theorem after_releaseItems {s : State} (hI : After s0 s) : After s0 (State.releaseItems s) := by
  simp only [State.releaseItems]
  simp +contextual (maxDischargeDepth := 100) only [hI, after_countFrom, after_foldl, after_pnStart,
    after_releasePort, after_setF, after_ite, implies_true]

theorem after_ledgerEvents {s : State} (hI : After s0 s) : After s0 (State.ledgerEvents s) := by
  simp only [State.ledgerEvents]
  repeat' (first
    | (simp +contextual (maxDischargeDepth := 100) only [hI, after_foldl, after_raise, after_mk, after_eq, after_ite,
        implies_true]; done)
    | split)

theorem after_prevHold {s : State} (hI : After s0 s) : After s0 (State.prevHold s) := by
  simp only [State.prevHold]
  repeat' (first
    | (simp +contextual (maxDischargeDepth := 100) only [hI, after_raise, after_ite]; done)
    | split)

theorem after_toRun {s : State} (hI : After s0 s) : After s0 (State.toRun s) := by
  simp only [State.toRun]
  simp +contextual (maxDischargeDepth := 100) only [hI, after_countFrom, after_ledgerEvents, after_prevHold,
    after_raise, after_setF, after_toStage, after_writeBootRecord]

theorem after_release {s : State} (hI : After s0 s) : After s0 (State.release s) := by
  simp only [State.release]
  simp +contextual (maxDischargeDepth := 100) only [hI, after_calLimit, after_foldl, after_releaseItems,
    after_riseAll, after_toRun, implies_true]

theorem after_readLimit {s : State} (hI : After s0 s) (hdr : List Byte) : After s0 (State.readLimit s hdr) := by
  simp only [State.readLimit]
  simp +contextual (maxDischargeDepth := 100) only [hI, after_copyCode, after_elapseTo, after_otherCopy,
    after_stopTimer]

/-! ### Of Machine/Grant.lean -/

theorem after_slotIdle {s : State} (hI : After s0 s) (k : Nat) : After s0 (State.slotIdle s k) := by
  simp only [State.slotIdle]
  simp +contextual (maxDischargeDepth := 100) only [hI, after_pmc]

theorem after_slotGiven {s : State} (h : After s0 s) (k : Nat) (c : Slot) (p : Packet) (ecc : Option EccRead) :
    After s0 (s.slotGiven k c p ecc) := by
  unfold State.slotGiven
  refine after_runPass ?_ _ _ _ _ _ fun t ht => after_islandFault ht _ _ _
  split
  · exact after_dmaInjected h _
  · exact h

theorem after_grantSlot {s : State} (h : After s0 s) (k : Nat) (ecc : Option EccRead) : After s0 (s.grantSlot k ecc) := by
  have g := after_takeSlot (after_capHit h k) k (s.pickSlot k)
  unfold State.grantSlot
  dsimp only
  split
  all_goals
    next e =>
      rw [e] at g
      first | exact after_slotIdle g _ | exact after_slotGiven g _ _ _ _

/-! ### Of Machine/Idle.lean -/

theorem after_idle {s : State} (hI : After s0 s) : After s0 (State.idle s) := by
  simp only [State.idle]
  simp +contextual (maxDischargeDepth := 100) only [hI, after_elapse, after_psCheck]

end Sys2Proof.Machine
end

