-- ==== Sys2Proof/Tests/Slice0.lean ====
section
/-! SUPPORT. Tests: that ill-formed commands are refused, single steps on small states with results worked out from the spec,
and for every statement with hypotheses a state and operands that meet them. -/

open Sys2Proof Sys2Proof.Machine

namespace Sys2Proof.Machine

set_option Elab.async false

/-! ### Well-formedness -/

/-- A stamp reading whose interpolator code does not exist. -/
def badStamp : StampIn := ⟨0, 256⟩

theorem test_wf_psync : (Instr.psyncPattern 0 ⟨6220800, 0, true, 0, ⟨0, 0⟩⟩).wf = false := by decide
theorem test_wf_phyFrame : (Instr.phyFrameDecode 0 ⟨2, [], true, ⟨1, 0⟩, ⟨1, 1⟩⟩).wf = false := by decide
theorem test_wf_xgem :
    (Instr.xgemFrameRx 0 ⟨⟨0, 0⟩, .good, false, false, 0, 0, 0, 0, 0, true, false, List.replicate 16384 0⟩).wf = false :=
  by decide +kernel
theorem test_wf_rxFrame : (Instr.rxFrame 0 ⟨[0, 0, 0], true, 0, 0, ⟨0, 0⟩, false⟩).wf = false := by decide
theorem test_wf_ppsIn : (Instr.ppsInEdge badStamp).wf = false := by decide
theorem test_wf_ploamShort : (Instr.ploamSleepAllow 0 ⟨⟨0, 0⟩, 0, 4, false, []⟩ true).wf = false := by decide
theorem test_wf_ranging : (Instr.ploamRangingTime 0 ⟨⟨0, 0⟩, 0, 4, false, List.replicate 8 0⟩ false (-1)).wf = false := by decide
theorem test_wf_vltJob : (Instr.vltJobComplete 1 (some 0)).wf = false := by decide
theorem test_wf_counterLow : (Instr.counterLowWordRead .host 1).wf = false := by decide
theorem test_wf_aonUp : (Instr.aonUpDone true [] 0).wf = false := by decide
theorem test_wf_assay : (Instr.assayDone true true true [0x02]).wf = false := by decide
theorem test_wf_stageLimit : (Instr.stageLimitExpiry ⟨[0x39], []⟩).wf = false := by decide
theorem test_wf_islandFault : (Instr.islandFaultDetect 0x04 2 none).wf = false := by decide
theorem test_wf_drainDone : (Instr.islandDrainDone 0x23).wf = false := by decide
theorem test_wf_crossing : (Instr.crossingEntryArrive 0x02 0 true).wf = false := by decide

theorem test_wf_islandReply : (Instr.islandPowerReply 0x26 0).wf = false := by decide
theorem test_wf_txFrame : (Instr.txFrame 0 badStamp false false).wf = false := by decide
theorem test_wf_descriptor : (Instr.descriptorFetch 0 [0] []).wf = false := by decide
theorem test_wf_reread : (Instr.staleRereadExpiry 0 [0] []).wf = false := by decide

/-! ### Single steps -/

/-- A state after the boot in which every island is live, time runs, everything counts and the host owns every window, with
nothing configured but the PLOAM keys of both channels. -/
def wS : State :=
  let s := State.reset
  let s := (s.setReg (aonB + 0x10) 0x0FFF0F13).setReg (aonB + 0x14) 0xFDFF1337
  let s := (s.setF aonB F.AON_BOOT_STAT.STAGE 0xA).setF aonB F.AON_SEAL.SEALED 1
  let s := (s.setF timB F.TIM_STAT.RUN 1).setReg (stwB + 0x20) 0xFFFFFFFF
  { s.setReg (stwB + 0x24) 0xFFFFFFFF with
    counting := 7
    mcCounting := true
    boot := { s.boot with por := false }
    slots := [(9, some ⟨1, 0, 0, 0, false⟩), (13, some ⟨1, 0, 0, 0, false⟩)] }

/-- What is read of the state a command answers. -/
def seen {α : Type} (c : Instr) (s : State) (f : State → α) : Option α :=
  match exec c s with
  | .next t => some (f t)
  | _ => none

/-- A packet of a tenant port with a Wallet of zeros but for its source and length. -/
def wPkt : Packet := Packet.new 3 (List.replicate 60 1) 0

/-- A ready item of the Teller. -/
def wItem (id cls : Nat) (ordered : Bool) : Item :=
  { id, pkt := wPkt, pipe := 0, cls, level := 2, ordered, resume := false, pset := 1, domain := 5, reason := 0,
    at_ := .ready, marked := false, since := 0, takenAt := 0, doneAt := 0 }

/-- An allocation of ten granules for allocation index 0, its content not fixed. -/
def wAlloc : Alloc := { ix := 0, allocId := 5, size := 10, dbru := false, ploamu := false, cap := 1000, due := 0, content := none }

/-- A scheduled data burst with no allocation. -/
def wBurst : Burst :=
  { use := 2, rate := 0, fec := false, start := 0, hdr := 0, fin := 0, lead := 0, lag := 0, minOff := 0, allocs := [],
    delay := 0, gasp := false, sized := false, started := false, preamble := 0, delim := 0, onuId := 5, ploam := none,
    queued := false, indQ := false, indRdi := false, hec := 0, bip := 0 }

/-- A broadcast PLOAM message whose MIC holds. -/
def wPl (s : State) (c : Nat) (ack : Bool) : PloamIn :=
  { span := ⟨0, 0⟩, to_ := 1023, typ := 4, ack, raw := [1] ++ beBytes 8 (micOf (s.ploamKey c) 1 [1]) }

/-- An XGEM frame of Port-ID 100 in clear with a whole SDU of 60 bytes. -/
def wXg : XgemIn :=
  { span := ⟨0, 0⟩, hec := .good, pliOver := false, idle := false, size := 0, off := 0, pid := 100, key := 0, opts := 0,
    lf := true, mismatch := false, data := List.replicate 60 7 }

/-- The first 60 bytes of a frame. -/
def wFrame : List Byte := List.replicate 60 7

/-- A Hallmark whose CRC is right: its first word leaves the CRC register at 0, where words of zeros keep it. -/
def wHm : List Word := 0xFFFFFFFF :: List.replicate 126 0 ++ [0xFFFFFFFF]

/-- A CRC runs over a word, then over those after it. -/
theorem crcRunR_words (poly c : Nat) (w : Word) (ws : List Word) :
    crcRunR poly c (wordBytes (w :: ws)) = crcRunR poly (crcRunR poly c (leBytes 4 w.toNat)) (wordBytes ws) := by
  rw [wordBytes, List.flatMap_cons, crcRunR, List.foldl_append]
  rfl

/-- Words of zeros leave a CRC register of 0 as it is. -/
theorem crcRunR_zeros (n : Nat) : crcRunR 0x82F63B78 0 (wordBytes (List.replicate n 0)) = 0 := by
  have h : crcRunR 0x82F63B78 0 (leBytes 4 (0 : Word).toNat) = 0 := by decide
  induction n with
  | zero => rfl
  | succ n ih => rw [List.replicate_succ, crcRunR_words, h, ih]

/-- The Hallmark's CRC is right. -/
theorem wHm_ok : hallmarkOk wHm = true := by
  have ht : wHm.take 127 = 0xFFFFFFFF :: List.replicate 126 0 := List.take_left' (by simp)
  have hl : (wHm.getD 127 0).toNat = 0xFFFFFFFF := by simp [wHm, List.getD]
  have hc : crcRunR 0x82F63B78 0xFFFFFFFF (leBytes 4 (0xFFFFFFFF : Word).toNat) = 0 := by decide
  rw [hallmarkOk, crc32c, ht, hl, crcRunR_words, hc, crcRunR_zeros]
  rfl

/-- The public key that belongs to the private key 5: 48 bytes of x, then 48 of y. -/
def wPub : Nat :=
  0x11de24a2c251c777573cac5ea025e467f208e51dbff98fc54f6661cbe56583b037882f4a1ca297e60abcdbc3836d84bc8fa696c77440f92d0f5837e90a00e7c5284b447754d5dee88c986533b6901aeb3177686d0ae8fb33184414abe6c1713a

/-- A Passbook copy with an empty PRE section, signed with the private key 5 and the random number 7 (R59, R60, R63). -/
def wPb : List Byte :=
  beBytes 20 0x5053424b03004000500100000100000007000000 ++
  beBytes 20 0x4896000000000000000000000000000000000000 ++
  beBytes 20 0x0000000000000000000000000000000000000000 ++
  beBytes 20 0xb8e6ae9001000000500000000000000000000000 ++
  beBytes 8 0x5349474e01000000 ++
  beBytes 96 wPub ++
  beBytes 48 0x283c1d7365ce4788f29f8ebf234edffead6fe997fbea5ffa2d58cc9dfa7b1c508b05526f55b9ebb2040f05b48fb6d0e1 ++
  beBytes 48 0xed8f47db799406e7b41c315b96f2f858b9ec137b5e40896eb151d82b7a072d04a58acf0bf898c2b23e4589499df44f6b ++
  List.replicate 56 0

/-- The public key's hash, as a fuse slot holds it. -/
def wPubHash : Nat := 0x3966d6c7e6a199e21807f0f8347406aa40aa59c18578b061c2bcafb3da86b24ecd4da2100402993d56c9b5e1f6b0f369

/-- The OMCI integrity keys of both channels. -/
def wOmciKeys : List (Nat × Option KeySlot) := [(10, some ⟨1, 0, 0, 0, false⟩), (14, some ⟨1, 0, 0, 0, false⟩)]

/-- An OMCI request of one byte with its MIC. -/
def wOmci : List Byte := [7] ++ beBytes 4 (omciMicOf 0 1 [7])

/-- The primary channel is channel 1 where channel 0 is not in service and channel 1 is. -/
theorem primary_one (s : State) (h0 : s.svc 0 ≠ 0) (h1 : s.svc 1 = 0) : s.primary = 1 := by
  have h : Config.primary s.stw.policy % 2 = 0 ∨ Config.primary s.stw.policy % 2 = 1 := by omega
  rcases h with h | h <;> simp [State.primary, h, h0, h1]

/-- A descriptor of a source, a destination, a length and a control word. -/
def wDesc (src dst len ctrl : Nat) : List Byte :=
  leBytes 8 src ++ leBytes 8 dst ++ leBytes 4 len ++ leBytes 4 ctrl ++ leBytes 8 0

/-- DMA channels that all hold the same. -/
def wDma (x : DmaChan) : List (Nat × DmaChan) := (List.range 32).map fun d => (d, x)

/-- A channel with a ring of 8 descriptors in a mode. -/
def wChan (mode : Nat) : DmaChan := { DmaChan.empty with base := 0x10000, mode, size := 3 }

/-- A channel that holds a descriptor. -/
def wBusyChan (mode : Nat) (b : List Byte) : DmaChan :=
  { wChan mode with desc := some b, data := List.replicate 100 5 }

/-- An event of source 5. -/
def wEvt : RaisedEvt := { src := 5, sev := 1, island := 0x3C, inst := 0, payload := [1, 2], boot := false }


/-- A read of a reserved window answers 0 (R14). -/
theorem test_reserved_read :
    seen (.rcRegisterRead .host 0x080000) wS (fun t => t.out) = some [.readData .host 0x200000 0] := by decide +kernel

/-- A read of a window that is not live answers all ones (R492). -/
theorem test_dark_read : seen (.rcRegisterRead .host 0x1003FF) State.reset (fun t => (t.out, t.fld hstB F.HST_DARK_ADDR.ADDR)) =
    some ([.readData .host 0x400FFC 0xFFFFFFFF], 0x400FFC) := by decide +kernel

/-- A host write before sealing is discarded and counted (R54). -/
theorem test_unsealed_write : seen (.registerWrite .host (.bar0 0x088010) 1) State.reset (fun t => t.fld aonB F.AON_SEAL.DISCARDS) =
    some 1 := by decide +kernel

/-- A set-time command held in the pipeline applies 2,560 counts later (R319). -/
theorem test_set_time : seen (.timSetTime .host) wS (fun t => t.tim.pending.map (·.nP)) = some (some 2560) := by decide +kernel

/-- With the crystal lost the core runs on the fast oscillator (R491). -/
theorem test_crystal_lost : seen (.crystalLost 0) wS (fun t => t.bit aonB F.AON_CLK_CTRL.ON_FAST) = some true := by decide +kernel

/-! ### The hypotheses of the statements can be met -/


/-- A state with a command waiting. -/
theorem wit_StepRunsFront : ∃ (c : Instr) (rest : List Instr) (s : State), s.pending = c :: rest :=
  ⟨.xtalQualified, [], { State.reset with pending := [.xtalQualified] }, rfl⟩

/-- A state with no command waiting. -/
theorem wit_IdleStepIsATick : ∃ s : State, s.pending = [] := ⟨State.reset, rfl⟩

/-- The state after reset is in that form, and its step answers a next state. -/
theorem wit_StepKeepsForm : ∃ s t : State, s.Inv ∧ step s = .next t := ⟨State.reset, State.reset.idle, ⟨rfl, rfl, rfl, rfl, fun _ => Nat.two_pow_pos _, fun _ => Nat.two_pow_pos _, Nat.zero_le _⟩, rfl⟩

/-- The state after reset is in that form. -/
theorem wit_EveryCommandCompletes : ∃ (_ : Instr) (s : State), s.Inv := ⟨.xtalQualified, State.reset, ⟨rfl, rfl, rfl, rfl, fun _ => Nat.two_pow_pos _, fun _ => Nat.two_pow_pos _, Nat.zero_le _⟩⟩

/-- A state in which AON is live. -/
theorem wit_PartIdentity : ∃ (_ : Master) (s : State), s.live 0x00 = true := ⟨.host, State.reset, by decide +kernel⟩

/-- An implemented island, the word address of its header, and a state in which the header holds its value. -/
theorem wit_IslandHeaders : ∃ (id n : Nat) (a : BitVec 24) (s : State), islandInst id = some n ∧
    4 * a.toNat = window id + 0xFFC ∧ s.reg (window id + 0xFFC) = BitVec.ofNat 32 (id * 2 ^ 24 + n * 2 ^ 16 + 0x00B0) :=
  ⟨4, 1, 0x1003FF, State.reset, by decide +kernel⟩

/-- The word addresses of the two registers. -/
theorem wit_LiveRegisters : ∃ (a b : BitVec 24), 4 * a.toNat = window 0x00 + 0x10 ∧ 4 * b.toNat = window 0x00 + 0x14 :=
  ⟨4, 5, by decide +kernel⟩

/-- A word of a reserved window. -/
theorem wit_ReservedWindows : ∃ a : BitVec 24, islandInst (4 * a.toNat / 0x100000) = none := ⟨0x080000, by decide +kernel⟩

def wTimeAdjustmentsAccepted0 : State :=
  { wS with tim := { wS.tim with pending := none } }
def wTimeAdjustmentsAccepted1 : State :=
  { wS with tim := { wS.tim with pending := none } }
def wTimeAdjustmentsAccepted2 : State :=
  { wS.setF timB F.TIM_STAT.SERVO 0 with tim := { wS.tim with pending := none } }
def wTimeAdjustmentsAccepted3 : State :=
  { wS with tim := { wS.tim with waiting := none, pending := some ⟨4 / 4 % 3, (4 % 100000 : Nat), wS.tim.rawN + 4 % 500, false⟩ }, pwr := { wS.pwr with timHold := none } }
def wTimeAdjustmentsAccepted3_c : AdjCmd :=
  (fun (s : State) => s.tim.pending.getD ⟨4 % 3, (4 % 100000 : Nat), s.tim.rawN + 4 % 500, false⟩) wTimeAdjustmentsAccepted3
def wTimeAdjustmentsAccepted5 : State :=
  { (wS.setF timB F.TIM_STAT.RUN 1) with tim := { (wS.setF timB F.TIM_STAT.RUN 1).tim with repNeed := [] }, pwr := { wS.pwr with timHold := none } }
def wTimeAdjustmentsAccepted6 : State :=
  { (wS.setF timB F.TIM_STAT.RUN 1) with tim := { (wS.setF timB F.TIM_STAT.RUN 1).tim with repNeed := [(8, 1)], repErr := [8], repAt := [(8, wS.now + 9)] }, pwr := { wS.pwr with timHold := none } }

/-- States and operands that meet the hypotheses of each clause of Obligations.TimeAdjustmentsAccepted. -/
theorem wit_TimeAdjustmentsAccepted :
    (∃ (m : Master) (s : State), s.reaches m (timB + 0x40) = true ∧ s.tim.pending = none ∧ s.bit timB F.TIM_STAT.RUN =
      true) ∧
    (∃ (m : Master) (s : State), s.reaches m (timB + 0x40) = true ∧ s.tim.pending = none ∧ s.bit timB F.TIM_STAT.RUN =
      true ∧ s.bit timB F.TIM_STAT.XTAL_FB = false ∧ 0 ≤ s.timeAt (s.tim.rawN + 2560) + (if s.bit timB F.TIM_ADJ_NS.NEG
      then -(s.adjTime : Int) else s.adjTime)) ∧
    (∃ (m : Master) (s : State), s.reaches m (timB + 0x40) = true ∧ s.tim.pending = none ∧ s.bit timB F.TIM_STAT.RUN =
      true ∧ s.bit timB F.TIM_STAT.XTAL_FB = false ∧ s.servo ≤ 1) ∧
    (∃ (c : AdjCmd) (s : State), s.live 0x04 = true ∧ s.pwr.timHold = none ∧ s.tim.pending = some c ∧ s.tim.waiting =
      none ∧ s.bit timB F.TIM_STAT.RUN = true) ∧
    (∃ (m : Master) (s : State), s.reaches m (timB + 0x10) = true) ∧
    (∃ (isl : Fin 64) (crcOk : Bool) (agree : Bool) (s : State), hasReplica isl.val = true ∧ s.live isl.val = true ∧
      s.timCounts = true ∧ s.repWaits isl.val = false ∧ (crcOk && agree) = false) ∧
    (∃ (isl : Fin 64) (agree : Bool) (s : State), hasReplica isl.val = true ∧ s.live isl.val = true ∧ s.timCounts = true
      ∧ s.repWaits isl.val = true) :=
  ⟨⟨.host, wTimeAdjustmentsAccepted0, by decide +kernel⟩,
   ⟨.host, wTimeAdjustmentsAccepted1, by decide +kernel⟩,
   ⟨.host, wTimeAdjustmentsAccepted2, by decide +kernel⟩,
   ⟨wTimeAdjustmentsAccepted3_c, wTimeAdjustmentsAccepted3, by decide +kernel⟩,
   ⟨.host, wS, by decide +kernel⟩,
   ⟨8, true, false, wTimeAdjustmentsAccepted5, by decide +kernel⟩,
   ⟨8, false, wTimeAdjustmentsAccepted6, by decide +kernel⟩⟩

def wServoTakesSamples0 : State :=
  { wS.setF timB F.TIM_STAT.SERVO 1 with tim := { wS.tim with sample := some ((4 % 1000 : Nat) : Int) } }
def wServoTakesSamples0_th : Int :=
  (fun (s : State) => s.tim.sample.getD 0) wServoTakesSamples0
def wServoTakesSamples1 : State :=
  wS.setF timB F.TIM_SRC_CFG.SRC 3
def wServoTakesSamples4 : State :=
  (wS.setF timB F.TIM_STAT.SERVO (2 + 4 / 4 % 2)).startTimer Tm.servoSrc 1000
def wServoTakesSamples5 : State :=
  ({ wS with tim := { wS.tim with holdLong := false } }.setF timB F.TIM_STAT.SERVO 4).startTimer Tm.holdLimit 1000
def wServoTakesSamples6 : State :=
  ({ wS with tim := { wS.tim with rangedSince := ⟨false, false⟩ } }.setF (pnB 0) F.PN_TOD_CAP3.VALID 1).setF (pnB 0) F.PN_EQD.VALID 1
def wServoTakesSamples7 : State :=
  { wS with tim := { wS.tim with ptod := some (4 / 4 % 2, -5) } }
def wServoTakesSamples7_c : Nat :=
  (fun (s : State) => (s.tim.ptod.getD (0, 0)).1) wServoTakesSamples7
def wServoTakesSamples7_th : Int :=
  (fun (s : State) => (s.tim.ptod.getD (0, 0)).2) wServoTakesSamples7

/-- States and operands that meet the hypotheses of each clause of Obligations.ServoTakesSamples. -/
theorem wit_ServoTakesSamples :
    (∃ (th : Int) (s : State), s.live 0x04 = true ∧ s.tim.sample = some th ∧ (s.servo = 1 ∨ s.servo = 4) ∧
      (s.largeSample th && s.bit timB F.TIM_SERVO_CFG.STEP_EN) = false) ∧
    (∃ (m : Master) (thetaHi : BitVec 16) (s : State), s.reaches m (timB + 0x90) = true ∧ s.servoSrc = 3) ∧
    (∃ (m : Master) (thetaHi : BitVec 16) (s : State), s.reaches m (timB + 0x90) = true ∧ s.servoSrc ≠ 3) ∧
    (∃ (m : Master) (v : Word) (s : State), s.reaches m (timB + 0x80) = true) ∧
    (∃ (s : State), s.live 0x04 = true ∧ s.timerOn Tm.servoSrc = true ∧ (s.servo = 2 ∨ s.servo = 3) ∧ s.bit timB
      F.TIM_SERVO_CFG.HYBRID = false) ∧
    (∃ (s : State), s.live 0x04 = true ∧ s.timerOn Tm.holdLimit = true ∧ s.servo = 4 ∧ s.tim.holdLong = false) ∧
    (∃ (m : Master) (ch : PonCh) (s : State), s.reaches m (timB + 0xC0) = true ∧ s.bit timB F.TIM_PTOD_CTRL.BUSY = false
      ∧ s.bit (pnB ch) F.PN_TOD_CAP3.VALID = true ∧ s.tim.rangedSince.get ch = false ∧ s.bit (pnB ch) F.PN_EQD.VALID =
      true) ∧
    (∃ (c : Nat) (th : Int) (s : State), s.live 0x04 = true ∧ s.tim.ptod = some (c, th)) :=
  ⟨⟨wServoTakesSamples0_th, wServoTakesSamples0, by decide +kernel⟩,
   ⟨.host, 0x8000, wServoTakesSamples1, by decide +kernel⟩,
   ⟨.host, 0, wS, by decide +kernel⟩,
   ⟨.host, 3, wS, by decide +kernel⟩,
   ⟨wServoTakesSamples4, by decide +kernel⟩,
   ⟨wServoTakesSamples5, by decide +kernel⟩,
   ⟨.host, 0, wServoTakesSamples6, by decide +kernel⟩,
   ⟨wServoTakesSamples7_c, wServoTakesSamples7_th, wServoTakesSamples7, by decide +kernel⟩⟩

def wSyncEAndPpsFollowTheirInputs0 : State :=
  wS.setF timB F.TIM_STAT.SYNCE (1 + 4 / 4 % 3)
def wSyncEAndPpsFollowTheirInputs1 : State :=
  (wS.setF timB F.TIM_SYNCE_CFG.EN 1).setF timB F.TIM_STAT.SYNCE 3
def wSyncEAndPpsFollowTheirInputs2 : State :=
  (wS.setReg (stwB + 0x20) 0).setF timB F.TIM_STAT.SYNCE (4 / 4 % 4)
def wSyncEAndPpsFollowTheirInputs3 : State :=
  ((wS.setF timB F.TIM_STAT.SYNCE 3).setF timB F.TIM_SYNCE_CFG.HOLD_FORCE 0).startTimer Tm.synceRecovery 1000
def wSyncEAndPpsFollowTheirInputs4 : State :=
  wS.setF timB F.TIM_STAT.SYNCE 1
def wSyncEAndPpsFollowTheirInputs5 : State :=
  wS.setF timB F.TIM_PPS_IN_CFG.EN 1
def wSyncEAndPpsFollowTheirInputs6 : State :=
  { wS.setF timB F.TIM_PPS_IN_CFG.EN 1 with tim := { wS.tim with ppsLast := some (wS.tim.rawN, 0) } }
def wSyncEAndPpsFollowTheirInputs7 : State :=
  (wS.setF timB F.TIM_STAT.PPS_IN_OK 1).startTimer Tm.ppsLoss 1000
def wSyncEAndPpsFollowTheirInputs8 : State :=
  { (wS.setF timB F.TIM_PPS_OUT_CFG.EN 1).setF timB F.TIM_TOD_CFG.TX_PPS 1 with tim := { wS.tim with ppsNext := 1, todTx := [65] } }

/-- States and operands that meet the hypotheses of each clause of Obligations.SyncEAndPpsFollowTheirInputs. -/
theorem wit_SyncEAndPpsFollowTheirInputs :
    (∃ (why : SynceFault) (s : State), s.live 0x04 = true ∧ s.fld timB F.TIM_STAT.SYNCE ≠ 0 ∧ (why ≠ .forced ∨ s.bit
      timB F.TIM_SYNCE_CFG.HOLD_FORCE = true)) ∧
    (∃ (m : Master) (v : Word) (inputGood : Bool) (s : State), s.reaches m (timB + 0x140) = true ∧ (s.store (timB +
      0x140) v.toNat).bit timB F.TIM_SYNCE_CFG.EN = true ∧ (s.store (timB + 0x140) v.toNat).fld timB F.TIM_SYNCE_CFG.SEL
      ≠ 63 ∧ (s.store (timB + 0x140) v.toNat).bit timB F.TIM_SYNCE_CFG.HOLD_FORCE = false ∧ inputGood = true ∧ (s.store
      (timB + 0x140) v.toNat).synceOffered ((s.store (timB + 0x140) v.toNat).fld timB F.TIM_SYNCE_CFG.SEL) = true ∧
      (s.fld timB F.TIM_STAT.SYNCE = 0 ∨ (s.store (timB + 0x140) v.toNat).fld timB F.TIM_SYNCE_CFG.SEL ≠ s.fld timB
      F.TIM_SYNCE_CFG.SEL)) ∧
    (∃ (m : Master) (v : Word) (inputGood : Bool) (s : State), s.reaches m (timB + 0x140) = true ∧ ((s.store (timB +
      0x140) v.toNat).bit timB F.TIM_SYNCE_CFG.EN = false ∨ (s.store (timB + 0x140) v.toNat).fld timB
      F.TIM_SYNCE_CFG.SEL = 63)) ∧
    (∃ (s : State), s.live 0x04 = true ∧ s.timerOn Tm.synceRecovery = true ∧ s.fld timB F.TIM_STAT.SYNCE = 3 ∧ s.bit
      timB F.TIM_SYNCE_CFG.HOLD_FORCE = false) ∧
    (∃ (fofs : Word) (s : State), s.live 0x04 = true ∧ s.fld timB F.TIM_STAT.SYNCE = 1 ∧ s.servo ≠ 4) ∧
    (∃ (st : StampIn) (s : State), s.live 0x04 = true ∧ s.bit timB F.TIM_PPS_IN_CFG.EN = true ∧ s.tim.ppsLast = none) ∧
    (∃ (st : StampIn) (p : Nat × Nat) (s : State), s.live 0x04 = true ∧ s.bit timB F.TIM_PPS_IN_CFG.EN = true ∧
      s.tim.ppsLast = some p ∧ (s.ppsInterval p st - secUnits).natAbs ≤ max 1 (s.fld timB F.TIM_PPS_IN_CFG.WIN) * 1000 *
      65536) ∧
    (∃ (s : State), s.live 0x04 = true ∧ s.timerOn Tm.ppsLoss = true ∧ s.servoSrc ≠ 4 ∧ s.bit timB F.TIM_STAT.PPS_IN_OK
      = true) ∧
    (∃ (s : State), s.live 0x04 = true ∧ s.bit timB F.TIM_PPS_OUT_CFG.EN = true ∧ s.timCounts = true ∧ 0 ≤
      (s.tim.ppsNext : Int) * secUnits - s.sfld timB F.TIM_PPS_OUT_DLY.DLY ∧ 0 ≤ s.adj) :=
  ⟨⟨.los, wSyncEAndPpsFollowTheirInputs0, by decide +kernel⟩,
   ⟨.host, ((BitVec.ofNat 32 (F.TIM_SYNCE_CFG.SEL.ins (F.TIM_SYNCE_CFG.EN.ins 0 1) 49)) : Word), true,
     wSyncEAndPpsFollowTheirInputs1, by decide +kernel⟩,
   ⟨.steward, ((BitVec.ofNat 32 (F.TIM_SYNCE_CFG.SEL.ins (F.TIM_SYNCE_CFG.EN.ins 0 1) 63)) : Word), true,
     wSyncEAndPpsFollowTheirInputs2, by decide +kernel⟩,
   ⟨wSyncEAndPpsFollowTheirInputs3, by decide +kernel⟩,
   ⟨0x80000000, wSyncEAndPpsFollowTheirInputs4, by decide +kernel⟩,
   ⟨((⟨1000, 0⟩) : StampIn), wSyncEAndPpsFollowTheirInputs5, by decide +kernel⟩,
   ⟨((⟨1250000000, 0⟩) : StampIn), (((0, 0)) : Nat × Nat), wSyncEAndPpsFollowTheirInputs6,
     ⟨by decide +kernel, by decide +kernel, by decide +kernel, by
      have h : timeFrom 0 0 wSyncEAndPpsFollowTheirInputs6.adj 1250000000 = secUnits := by decide +kernel
      simp [State.ppsInterval, h]⟩⟩,
   ⟨wSyncEAndPpsFollowTheirInputs7, by decide +kernel⟩,
   ⟨wSyncEAndPpsFollowTheirInputs8, by decide +kernel⟩⟩

def wTimestampAndTodQueues0 : State :=
  wS.setTsQueue 0 [⟨1, false, 0, 0, 1⟩, ⟨2, false, 1, 0, 2⟩]
def wTimestampAndTodQueues1 : State :=
  wS.setTsQueue 47 [⟨1, false, 0, 0, 1⟩, ⟨2, false, 1, 0, 2⟩]
def wTimestampAndTodQueues3 : State :=
  { wS with tim := { wS.tim with todRx := List.replicate 256 1 } }
def wTimestampAndTodQueues5 : State :=
  { wS.setF timB F.TIM_TOD_CFG.TX_PPS 0 with tim := { wS.tim with todTx := [65, 66] } }
def wTimestampAndTodQueues6 : State :=
  { wS.setF timB F.TIM_TOD_CFG.TX_PPS 1 with tim := { wS.tim with todTx := [65, 66, 67], todArms := [(2, wS.now + 100)] } }
def wTimestampAndTodQueues6_k : Nat :=
  (fun (s : State) => (s.tim.todArms.headD (0, 0)).1) wTimestampAndTodQueues6
def wTimestampAndTodQueues6_at_ : Nat :=
  (fun (s : State) => (s.tim.todArms.headD (0, 0)).2) wTimestampAndTodQueues6
def wTimestampAndTodQueues6_l : List (Nat × Nat) :=
  (fun (s : State) => s.tim.todArms.tail) wTimestampAndTodQueues6
def wTimestampAndTodQueues7 : State :=
  { wS.setReg (stwB + 0x20) 0 with tim := { wS.tim with todRx := [1, 2] } }

/-- States and operands that meet the hypotheses of each clause of Obligations.TimestampAndTodQueues. -/
theorem wit_TimestampAndTodQueues :
    (∃ (m : Master) (p : Port) (s : State), s.reaches m (tqB p.val + 0x220) = true) ∧
    (∃ (m : Master) (p : Port) (s : State), s.reaches m (tqB p.val + 0x220) = true) ∧
    (∃ (b : Byte) (s : State), s.live 0x04 = true ∧ s.tim.todRx.length < 256) ∧
    (∃ (b : Byte) (s : State), s.live 0x04 = true ∧ s.tim.todRx.length = 256) ∧
    (∃ (m : Master) (b : Byte) (s : State), s.reaches m (timB + 0x134) = true ∧ s.tim.todTx.length < 256) ∧
    (∃ (s : State), s.live 0x04 = true ∧ s.tim.todTx ≠ [] ∧ s.bit timB F.TIM_TOD_CFG.TX_PPS = false) ∧
    (∃ (k : Nat) (at_ : Nat) (l : List (Nat × Nat)) (s : State), s.live 0x04 = true ∧ s.tim.todTx ≠ [] ∧ s.bit timB
      F.TIM_TOD_CFG.TX_PPS = true ∧ s.tim.todArms = (k, at_) :: l) ∧
    (∃ (m : Master) (s : State), s.reaches m (timB + 0x138) = true) :=
  ⟨⟨.host, 0, wTimestampAndTodQueues0, by decide +kernel⟩,
   ⟨.host, 47, wTimestampAndTodQueues1, by decide +kernel⟩,
   ⟨0x24, wS, by decide +kernel⟩,
   ⟨0x24, wTimestampAndTodQueues3, by decide +kernel⟩,
   ⟨.host, 0xFF, wS, by decide +kernel⟩,
   ⟨wTimestampAndTodQueues5, by decide +kernel⟩,
   ⟨wTimestampAndTodQueues6_k, wTimestampAndTodQueues6_at_, wTimestampAndTodQueues6_l, wTimestampAndTodQueues6,
     by decide +kernel⟩,
   ⟨.steward, wTimestampAndTodQueues7, by decide +kernel⟩⟩

def wStripeWindowsSettle0 : State :=
  { wS with tlr := { wS.tlr with markers := [(1, 7, 65535), (0, 7, 0)], stripes := [(3, ⟨true, false, 7, 65535, []⟩)] } }
def wStripeWindowsSettle0_c : Nat :=
  (fun (s : State) => (s.tlr.markers.headD (0, 0, 0)).1) wStripeWindowsSettle0
def wStripeWindowsSettle0_sf : Nat :=
  (fun (s : State) => (s.tlr.markers.headD (0, 0, 0)).2.1) wStripeWindowsSettle0
def wStripeWindowsSettle0_rest : List (Nat × Nat × Nat) :=
  (fun (s : State) => s.tlr.markers.tail) wStripeWindowsSettle0
def wStripeWindowsSettle0_x : Nat :=
  (fun (s : State) (sf : Nat) => (s.stripeOf sf).getD 0) wStripeWindowsSettle0 wStripeWindowsSettle0_sf
def wStripeWindowsSettle1 : State :=
  { wS with tlr := { wS.tlr with stripes := [(255, ⟨true, false, 7, 9, [⟨10, none, wS.now⟩]⟩)] } }
def wStripeWindowsSettle1_h0 : Held :=
  (fun (s : State) (x : Fin 256) => (s.stripe x).held.headD ⟨0, none, 0⟩) wStripeWindowsSettle1 255
def wStripeWindowsSettle2 : State :=
  wS.setStripe 3 ⟨true, true, 7, 9, []⟩
def wStripeWindowsSettle3 : State :=
  { wS.setReg (tlrB + 0x80C) 0x80070000 with tlr := { wS.tlr with stripes := [] } }
def wStripeWindowsSettle4 : State :=
  wS.setStripe 3 ⟨true, true, 7, 9, []⟩
def wStripeWindowsSettle5 : State :=
  wS.setStripe 200 ⟨true, false, 7, 65534, [⟨65535, none, wS.now⟩]⟩
def wStripeWindowsSettle5_h0 : Held :=
  (fun (s : State) (x : Fin 256) => (s.stripe x).held.headD ⟨0, none, 0⟩) wStripeWindowsSettle5 200

/-- States and operands that meet the hypotheses of each clause of Obligations.StripeWindowsSettle. -/
theorem wit_StripeWindowsSettle :
    (∃ (c : Nat) (sf : Nat) (rest : List (Nat × Nat × Nat)) (x : Nat) (s : State), s.live 0x24 = true ∧ s.tlr.markers =
      (c, sf, (s.stripe x).next) :: rest ∧ s.stripeOf sf = some x ∧ (s.stripe x).init = false ∧ (s.stripe x).held = [] ∧
      (s.stripe x).next < 65536) ∧
    (∃ (x : Fin 256) (h0 : Held) (s : State), s.live 0x24 = true ∧ (s.stripe x).held = [h0] ∧ h0.pkt = none ∧ h0.seq =
      (s.stripe x).next + 1 ∧ h0.seq < 65536) ∧
    (∃ (m : Master) (x : Fin 256) (s : State), s.reaches m (tlrB + 0x808) = true ∧ s.bit tlrB F.TLR_STRIPE_CMD.BUSY =
      false) ∧
    (∃ (m : Master) (x : Fin 256) (s : State), s.reaches m (tlrB + 0x808) = true ∧ s.bit tlrB F.TLR_STRIPE_CMD.BUSY =
      false ∧ (s.tlr.stripes.any fun c => c.2.valid && decide (c.2.sf = s.fld tlrB F.TLR_STRIPE_DATA.SF) && decide (c.1
      ≠ x.val)) = false ∧ (s.stripe x).held = []) ∧
    (∃ (m : Master) (x : Fin 256) (s : State), s.reaches m (tlrB + 0x808) = true ∧ s.bit tlrB F.TLR_STRIPE_CMD.BUSY =
      false ∧ (s.stripe x).held = []) ∧
    (∃ (m : Master) (x : Fin 256) (h0 : Held) (s : State), s.reaches m (tlrB + 0x808) = true ∧ s.bit tlrB
      F.TLR_STRIPE_CMD.BUSY = false ∧ (s.stripe x).held = [h0] ∧ h0.pkt = none ∧ h0.seq = (s.stripe x).next + 1 ∧ h0.seq
      < 65536) ∧
    (∃ (s : State), s.live 0x24 = true) :=
  ⟨⟨wStripeWindowsSettle0_c, wStripeWindowsSettle0_sf, wStripeWindowsSettle0_rest, wStripeWindowsSettle0_x,
     wStripeWindowsSettle0, by decide +kernel⟩,
   ⟨255, wStripeWindowsSettle1_h0, wStripeWindowsSettle1, by decide +kernel⟩,
   ⟨.host, 3, wStripeWindowsSettle2, by decide +kernel⟩,
   ⟨.host, 0, wStripeWindowsSettle3, by decide +kernel⟩,
   ⟨.host, 3, wStripeWindowsSettle4, by decide +kernel⟩,
   ⟨.host, 200, wStripeWindowsSettle5_h0, wStripeWindowsSettle5, by decide +kernel⟩,
   ⟨wS, by decide +kernel⟩⟩

def wTableCommandsActOnEntries3 : State :=
  wS.setReg (tblB + 0x20) (BitVec.ofNat 32 (4 % 1000))
def wTableCommandsActOnEntries3_j : Nat :=
  (fun (s : State) (tb : BitVec 4) => ((s.softWins tb.toNat (setBits (s.tblData tb.toNat) (validBit tb.toNat) (validBit tb.toNat) 1)).hashPlace tb.toNat (setBits (s.tblData tb.toNat) (validBit tb.toNat) (validBit tb.toNat) 1)).getD 0) wTableCommandsActOnEntries3 1
def wTableCommandsActOnEntries4 : State :=
  (((wS.setReg (tblB + 0x20) 5).setReg (tblB + 0x24) 0).setReg (tblB + 0x28) 1).setEnt 1 77 (2 ^ 64 + 5)
def wTableCommandsActOnEntries4_j : Nat :=
  (fun (s : State) (tb : BitVec 4) => (s.findSame tb.toNat (s.tblData tb.toNat) none).getD 0) wTableCommandsActOnEntries4 1
def wTableCommandsActOnEntries5 : State :=
  (((wS.setReg (tblB + 0x20) 5).setReg (tblB + 0x24) 0).setReg (tblB + 0x28) 1).setEnt 1 77 (2 ^ 64 + 5)
def wTableCommandsActOnEntries5_j : Nat :=
  (fun (s : State) (tb : BitVec 4) => (s.findSame tb.toNat (s.tblData tb.toNat) none).getD 0) wTableCommandsActOnEntries5 1
def wTableCommandsActOnEntries7 : State :=
  { wS with tbl := { wS.tbl with learnQ := [⟨1, 4 % 1000, 3, 0x4003, wS.now⟩] } }
def wTableCommandsActOnEntries7_r : LearnReq :=
  (fun (s : State) => s.tbl.learnQ.headD ⟨0, 0, 0, 0, 0⟩) wTableCommandsActOnEntries7
def wTableCommandsActOnEntries7_q : List LearnReq :=
  (fun (s : State) => s.tbl.learnQ.tail) wTableCommandsActOnEntries7
def wTableCommandsActOnEntries7_j : Nat :=
  (fun (s : State) (r : LearnReq) => (s.hashPlace 1 (r.mac + r.fid * 2 ^ 48 + 2 ^ 64 + 2 ^ 66 + r.src * 2 ^ 72 + r.dest * 2 ^ 80)).getD 0) wTableCommandsActOnEntries7 wTableCommandsActOnEntries7_r

/-- States and operands that meet the hypotheses of each clause of Obligations.TableCommandsActOnEntries. -/
theorem wit_TableCommandsActOnEntries :
    (∃ (m : Master) (tb : BitVec 4) (i : BitVec 16) (s : State), s.reaches m (tblB + 0x10) = true ∧ s.bit tblB
      F.TBL_CMD.BUSY = false ∧ 1 ≤ tb.toNat ∧ tb.toNat ≤ 10 ∧ i.toNat < s.tblSize tb.toNat) ∧
    (∃ (m : Master) (tb : BitVec 4) (i : BitVec 16) (s : State), s.reaches m (tblB + 0x10) = true ∧ s.bit tblB
      F.TBL_CMD.BUSY = false ∧ 1 ≤ tb.toNat ∧ tb.toNat ≤ 10 ∧ i.toNat < s.tblSize tb.toNat ∧ (s.softWins tb.toNat
      (s.tblData tb.toNat)).writeCause tb.toNat (s.tblData tb.toNat) i.toNat = 0) ∧
    (∃ (m : Master) (tb : BitVec 4) (i : BitVec 16) (s : State), s.reaches m (tblB + 0x10) = true ∧ s.bit tblB
      F.TBL_CMD.BUSY = false ∧ 1 ≤ tb.toNat ∧ tb.toNat ≤ 10 ∧ i.toNat < s.tblSize tb.toNat) ∧
    (∃ (m : Master) (tb : BitVec 4) (j : Nat) (s : State), s.reaches m (tblB + 0x10) = true ∧ s.bit tblB F.TBL_CMD.BUSY
      = false ∧ (tb = 1 ∨ tb = 2) ∧ (s.softWins tb.toNat (setBits (s.tblData tb.toNat) (validBit tb.toNat) (validBit
      tb.toNat) 1)).findSame tb.toNat (setBits (s.tblData tb.toNat) (validBit tb.toNat) (validBit tb.toNat) 1) none =
      none ∧ (s.softWins tb.toNat (setBits (s.tblData tb.toNat) (validBit tb.toNat) (validBit tb.toNat) 1)).hashPlace
      tb.toNat (setBits (s.tblData tb.toNat) (validBit tb.toNat) (validBit tb.toNat) 1) = some j) ∧
    (∃ (m : Master) (tb : BitVec 4) (j : Nat) (s : State), s.reaches m (tblB + 0x10) = true ∧ s.bit tblB F.TBL_CMD.BUSY
      = false ∧ (tb.toNat = 1 ∨ tb.toNat = 2 ∨ 7 ≤ tb.toNat ∧ tb.toNat ≤ 9) ∧ s.findSame tb.toNat (s.tblData tb.toNat)
      none = some j) ∧
    (∃ (m : Master) (tb : BitVec 4) (j : Nat) (s : State), s.reaches m (tblB + 0x10) = true ∧ s.bit tblB F.TBL_CMD.BUSY
      = false ∧ (tb.toNat = 1 ∨ tb.toNat = 2 ∨ 7 ≤ tb.toNat ∧ tb.toNat ≤ 9) ∧ s.findSame tb.toNat (s.tblData tb.toNat)
      none = some j) ∧
    (∃ (s : State), s.live 0x22 = true) ∧
    (∃ (r : LearnReq) (q : List LearnReq) (j : Nat) (s : State), s.live 0x22 = true ∧ s.tbl.learnQ = r :: q ∧ s.softKey
      (r.fid * 2 ^ 48 + r.mac) = false ∧ s.findL2 r.fid r.mac = none ∧ s.hashPlace 1 (r.mac + r.fid * 2 ^ 48 + 2 ^ 64 +
      2 ^ 66 + r.src * 2 ^ 72 + r.dest * 2 ^ 80) = some j) :=
  ⟨⟨.host, 2, 32767, wS, by decide +kernel⟩,
   ⟨.host, 10, 4095, wS, by decide +kernel⟩,
   ⟨.host, 1, 65535, wS, by decide +kernel⟩,
   ⟨.host, 1, wTableCommandsActOnEntries3_j, wTableCommandsActOnEntries3, by decide +kernel⟩,
   ⟨.host, 1, wTableCommandsActOnEntries4_j, wTableCommandsActOnEntries4, by decide +kernel⟩,
   ⟨.host, 1, wTableCommandsActOnEntries5_j, wTableCommandsActOnEntries5, by decide +kernel⟩,
   ⟨wS, by decide +kernel⟩,
   ⟨wTableCommandsActOnEntries7_r, wTableCommandsActOnEntries7_q, wTableCommandsActOnEntries7_j,
     wTableCommandsActOnEntries7, by decide +kernel⟩⟩

def wParseGraphAndPatternCommands2 : State :=
  wS.setF aonB F.AON_SEAL.SEALED 1

/-- States and operands that meet the hypotheses of each clause of Obligations.ParseGraphAndPatternCommands. -/
theorem wit_ParseGraphAndPatternCommands :
    (∃ (m : Master) (k : Pipe) (bank : Fin 2) (n : Fin 64) (s : State), s.reaches m (kB k.val + 0x110) = true ∧ s.bit
      (kB k.val) F.KP_PG_CMD.BUSY = false) ∧
    (∃ (m : Master) (k : Pipe) (bank : Fin 2) (n : Fin 64) (s : State), s.reaches m (kB k.val + 0x110) = true ∧ s.bit
      (kB k.val) F.KP_PG_CMD.BUSY = false ∧ s.bankLocked bank.val = false) ∧
    (∃ (m : Master) (k : Pipe) (bank : Fin 2) (n : Fin 64) (s : State), s.reaches m (kB k.val + 0x110) = true ∧ s.bit
      (kB k.val) F.KP_PG_CMD.BUSY = false ∧ s.bankLocked bank.val = true) ∧
    (∃ (k : Pipe) (s : State), s.live (0x20 + k.val) = true) ∧
    (∃ (m : Master) (bank : Fin 2) (i : BitVec 14) (s : State), s.reaches m (window 0x25 + 0x20100) = true ∧ s.bit
      (window 0x25) F.INS_PAT_CMD.BUSY = false) ∧
    (∃ (m : Master) (bank : Fin 2) (i : BitVec 14) (s : State), s.reaches m (window 0x25 + 0x20100) = true ∧ s.bit
      (window 0x25) F.INS_PAT_CMD.BUSY = false ∧ s.bankLocked bank.val = false ∧ (patValid (wordsNat (s.regWords (window
      0x25 + 0x20110) 35)) = false ∨ (s.setSlots bank.val (patSet (wordsNat (s.regWords (window 0x25 + 0x20110)
      35)))).length < 4096)) ∧
    (∃ (m : Master) (bank : Fin 2) (i : BitVec 14) (s : State), s.reaches m (window 0x25 + 0x20100) = true ∧ s.bit
      (window 0x25) F.INS_PAT_CMD.BUSY = false ∧ s.bankLocked bank.val = false) ∧
    (∃ (s : State), s.live 0x25 = true) :=
  ⟨⟨.host, 1, 0, 63, wS, by decide +kernel⟩,
   ⟨.host, 1, 1, 63, wS, by decide +kernel⟩,
   ⟨.host, 0, 0, 0, wParseGraphAndPatternCommands2, by decide +kernel⟩,
   ⟨1, wS, by decide +kernel⟩,
   ⟨.host, 0, 16383, wS, by decide +kernel⟩,
   ⟨.host, 1, 0, wS, by decide +kernel⟩,
   ⟨.host, 1, 7, wS, by decide +kernel⟩,
   ⟨wS, by decide +kernel⟩⟩

def wTellerDispatchesAndScansEnd0 : State :=
  { wS with tlr := { wS.tlr with items := [wItem 9 1 true, wItem 7 0 true, wItem 8 0 false], lastEng := 31 } }
def wTellerDispatchesAndScansEnd0_it : Item :=
  (fun (s : State) => (s.nextItem 0).getD (wItem 1 0 false)) wTellerDispatchesAndScansEnd0
def wTellerDispatchesAndScansEnd0_e : Nat :=
  (fun (s : State) => s.nextEngine.getD 0) wTellerDispatchesAndScansEnd0
def wTellerDispatchesAndScansEnd1 : State :=
  { wS with tlr := { wS.tlr with items := [wItem 9 0 true, { wItem 7 0 true with at_ := .engine 31 }], domains := [(5, [some 9, some 7])] } }
def wTellerDispatchesAndScansEnd1_it : Item :=
  (fun (s : State) (e : Fin 32) => (s.engItem e).getD (wItem 1 0 true)) wTellerDispatchesAndScansEnd1 31
def wTellerDispatchesAndScansEnd1_a : Item :=
  (fun (s : State) (it : Item) => ((s.domain it.domain).head?.bind fun o => o.bind s.itemOf).getD (wItem 2 0 true)) wTellerDispatchesAndScansEnd1 wTellerDispatchesAndScansEnd1_it
def wTellerDispatchesAndScansEnd4 : State :=
  wS.setF (insB 31) F.INS_ENG_SVC.STATE 2

/-- States and operands that meet the hypotheses of each clause of Obligations.TellerDispatchesAndScansEnd. -/
theorem wit_TellerDispatchesAndScansEnd :
    (∃ (it : Item) (e : Nat) (s : State), s.live 0x24 = true ∧ s.nextItem 0 = some it ∧ s.nextEngine = some e ∧ it.level
      < 16) ∧
    (∃ (e : Fin 32) (it : Item) (a : Item) (s : State), s.live 0x25 = true ∧ s.engItem e = some it ∧ it.marked = false ∧
      it.ordered = true ∧ (s.domain it.domain).head? = some (some a.id) ∧ s.itemOf a.id = some a ∧ a.id ≠ it.id ∧ a.at_
      ≠ .done) ∧
    (∃ (e : Fin 32) (s : State), s.live 0x25 = true ∧ s.engState e ≠ 2 ∧ s.engItem e = none) ∧
    (∃ (m : Master) (e : Fin 32) (s : State), s.reaches m (insB e) = true ∧ s.engState e = 0) ∧
    (∃ (m : Master) (e : Fin 32) (s : State), s.reaches m (insB e) = true ∧ s.engState e = 2) :=
  ⟨⟨wTellerDispatchesAndScansEnd0_it, wTellerDispatchesAndScansEnd0_e, wTellerDispatchesAndScansEnd0, by decide +kernel⟩,
   ⟨31, wTellerDispatchesAndScansEnd1_it, wTellerDispatchesAndScansEnd1_a, wTellerDispatchesAndScansEnd1,
     by decide +kernel⟩,
   ⟨0, wS, by decide +kernel⟩,
   ⟨.host, 31, wS, by decide +kernel⟩,
   ⟨.host, 31, wTellerDispatchesAndScansEnd4, by decide +kernel⟩⟩

def wSoftwareConsumerAndCancels1 : State :=
  { wS.setF tlrB F.TLR_TAKE.ARMED 1 with tlr := { wS.tlr with items := [wItem 9 0 true, wItem 7 1 true] } }
def wSoftwareConsumerAndCancels1_it : Item :=
  (fun (s : State) => (s.nextItem 1).getD (wItem 1 1 false)) wSoftwareConsumerAndCancels1
def wSoftwareConsumerAndCancels2 : State :=
  { wS with tlr := { wS.tlr with items := [wItem 9 0 true, { wItem 7 1 true with at_ := .delivered }], domains := [(5, [some 9, some 7])] } }
def wSoftwareConsumerAndCancels2_it : Item :=
  (fun (s : State) => s.delivered.getD (wItem 1 0 true)) wSoftwareConsumerAndCancels2
def wSoftwareConsumerAndCancels2_a : Item :=
  (fun (s : State) (it : Item) => ((s.domain it.domain).head?.bind fun o => o.bind s.itemOf).getD (wItem 2 0 true)) wSoftwareConsumerAndCancels2 wSoftwareConsumerAndCancels2_it
def wSoftwareConsumerAndCancels3 : State :=
  { wS.setReg (stwB + 0x24) 0 with tlr := { wS.tlr with items := [{ wItem 7 1 false with at_ := .delivered }] } }
def wSoftwareConsumerAndCancels3_it : Item :=
  (fun (s : State) => s.delivered.getD (wItem 1 0 true)) wSoftwareConsumerAndCancels3
def wSoftwareConsumerAndCancels4 : State :=
  { wS with tlr := { wS.tlr with items := [{ wItem 7 1 false with at_ := .delivered }] } }.startTimer Tm.swTimeout 1000
def wSoftwareConsumerAndCancels4_it : Item :=
  (fun (s : State) => s.delivered.getD (wItem 1 0 true)) wSoftwareConsumerAndCancels4
def wSoftwareConsumerAndCancels5 : State :=
  { wS with tlr := { wS.tlr with items := [wItem 9 1 true, wItem 8 0 false] } }
def wSoftwareConsumerAndCancels5_it : Item :=
  (fun (s : State) (id : BitVec 14) => (s.itemOf id.toNat).getD (wItem 1 0 true)) wSoftwareConsumerAndCancels5 8
def wSoftwareConsumerAndCancels6 : State :=
  { wS with tlr := { wS.tlr with items := [wItem 7 0 true], domains := [(5, [some 7])] } }
def wSoftwareConsumerAndCancels6_it : Item :=
  (fun (s : State) (d : BitVec 12) => ((s.domain d.toNat).head?.bind fun o => o.bind s.itemOf).getD (wItem 2 0 true)) wSoftwareConsumerAndCancels6 5
def wSoftwareConsumerAndCancels7 : State :=
  { wS.setF tlrB F.TLR_CFG.WAIT_TO 5 with tlr := { wS.tlr with items := [wItem 9 0 false, wItem 7 1 true] } }
def wSoftwareConsumerAndCancels7_it : Item :=
  (fun (s : State) => (s.tlr.items.find? fun x => decide (x.at_ = .ready)).getD (wItem 1 0 true)) wSoftwareConsumerAndCancels7

/-- States and operands that meet the hypotheses of each clause of Obligations.SoftwareConsumerAndCancels. -/
theorem wit_SoftwareConsumerAndCancels :
    (∃ (m : Master) (s : State), s.reaches m (tlrB + 0x10) = true) ∧
    (∃ (it : Item) (s : State), s.live 0x24 = true ∧ s.nextItem 1 = some it ∧ s.bit tlrB F.TLR_TAKE.ARMED = true ∧
      s.delivered = none ∧ it.level < 16) ∧
    (∃ (m : Master) (verdict : BitVec 2) (id : BitVec 14) (it : Item) (a : Item) (s : State), s.reaches m (tlrB + 0x28)
      = true ∧ s.delivered = some it ∧ it.id = id.toNat ∧ it.marked = false ∧ it.ordered = true ∧ (s.domain
      it.domain).head? = some (some a.id) ∧ s.itemOf a.id = some a ∧ a.id ≠ it.id ∧ a.at_ ≠ .done) ∧
    (∃ (m : Master) (id : BitVec 14) (it : Item) (s : State), s.reaches m (tlrB + 0x28) = true ∧ s.delivered = some it ∧
      it.id = id.toNat ∧ it.marked = false ∧ it.ordered = false ∧ s.awaitsWindow ((verdictPkt it.pkt 1 0).setW W.DROP 0)
      = false ∧ (verdictPkt it.pkt 1 0).wb W.DROP = true) ∧
    (∃ (it : Item) (s : State), s.live 0x24 = true ∧ s.timerOn Tm.swTimeout = true ∧ s.delivered = some it ∧ it.marked =
      false ∧ it.ordered = false ∧ s.awaitsWindow it.pkt = false) ∧
    (∃ (m : Master) (id : BitVec 14) (it : Item) (s : State), s.reaches m (tlrB + 0x04) = true ∧ (s.tlr.items.filter fun
      x => !x.marked && decide (x.id = id.toNat)) = [it] ∧ s.itemOf id.toNat = some it ∧ it.at_ = .ready ∧ it.ordered =
      false ∧ it.level < 16 ∧ s.awaitsWindow it.pkt = false) ∧
    (∃ (m : Master) (d : BitVec 12) (it : Item) (s : State), s.reaches m (tlrB + 0x04) = true ∧ (s.tlr.items.filter fun
      x => !x.marked && decide (x.domain = d.toNat)) = [it] ∧ s.itemOf it.id = some it ∧ it.at_ = .ready ∧ it.ordered =
      true ∧ it.level < 16 ∧ s.domain d.toNat = [some it.id] ∧ s.awaitsWindow it.pkt = false) ∧
    (∃ (it : Item) (s : State), s.live 0x24 = true ∧ s.fld tlrB F.TLR_CFG.WAIT_TO ≠ 0 ∧ (s.tlr.items.find? fun x => decide
      (x.at_ = .ready)) = some it ∧ it.ordered = false ∧ it.level < 16 ∧ s.awaitsWindow it.pkt = false) :=
  ⟨⟨.host, wS, by decide +kernel⟩,
   ⟨wSoftwareConsumerAndCancels1_it, wSoftwareConsumerAndCancels1, by decide +kernel⟩,
   ⟨.host, 2, 7, wSoftwareConsumerAndCancels2_it, wSoftwareConsumerAndCancels2_a, wSoftwareConsumerAndCancels2,
     by decide +kernel⟩,
   ⟨.steward, 7, wSoftwareConsumerAndCancels3_it, wSoftwareConsumerAndCancels3, by decide +kernel⟩,
   ⟨wSoftwareConsumerAndCancels4_it, wSoftwareConsumerAndCancels4, by decide +kernel⟩,
   ⟨.host, 8, wSoftwareConsumerAndCancels5_it, wSoftwareConsumerAndCancels5, by decide +kernel⟩,
   ⟨.host, 5, wSoftwareConsumerAndCancels6_it, wSoftwareConsumerAndCancels6, by decide +kernel⟩,
   ⟨wSoftwareConsumerAndCancels7_it, wSoftwareConsumerAndCancels7, by decide +kernel⟩⟩

def wActionListsEpochsAndBanks5 : State :=
  wS.setF tblB F.TBL_EPOCH.DRAINING 1
def wActionListsEpochsAndBanks6 : State :=
  { wS.setF tblB F.TBL_EPOCH.DRAINING 1 with tbl := { wS.tbl with inflight := ⟨0, 0⟩ } }
def wActionListsEpochsAndBanks7 : State :=
  (wS.setF tblB F.TBL_EPOCH.DRAINING 1).startTimer Tm.swapStuck 1000
def wActionListsEpochsAndBanks8_c : Nat :=
  (fun (s : State) (b : Fin 64) => (s.spareOf b).getD 0) wS 17
def wActionListsEpochsAndBanks9 : State :=
  wS.setF tblB (bankFld 63) 2
def wActionListsEpochsAndBanks10 : State :=
  { wS with tbl := { wS.tbl with copying := [(17, 60)] } }
def wActionListsEpochsAndBanks10_c : Nat :=
  (fun (s : State) (b : Fin 64) => ((s.tbl.copying.find? fun p => decide (p.1 = b.val)).getD (0, 59)).2) wActionListsEpochsAndBanks10 17

/-- States and operands that meet the hypotheses of each clause of Obligations.ActionListsEpochsAndBanks. -/
theorem wit_ActionListsEpochsAndBanks :
    (∃ (m : Master) (tpl : Bool) (i : BitVec 14) (s : State), s.reaches m (tblB + 0x600) = true ∧ s.bit tblB
      F.TBL_ACT_CMD.BUSY = false ∧ (if tpl then i.toNat ≤ 2047 else i.toNat ≠ 0)) ∧
    (∃ (m : Master) (tpl : Bool) (i : BitVec 14) (s : State), s.reaches m (tblB + 0x600) = true ∧ s.bit tblB
      F.TBL_ACT_CMD.BUSY = false ∧ (if tpl then i.toNat ≤ 2047 else i.toNat ≠ 0)) ∧
    (∃ (m : Master) (tpl : Bool) (i : BitVec 14) (s : State), s.reaches m (tblB + 0x600) = true ∧ s.bit tblB
      F.TBL_ACT_CMD.BUSY = false ∧ (if tpl then i.toNat ≤ 2047 else i.toNat ≠ 0)) ∧
    (∃ (s : State), s.live 0x22 = true) ∧
    (∃ (m : Master) (s : State), s.reaches m tblB = true ∧ s.bit tblB F.TBL_EPOCH.DRAINING = false) ∧
    (∃ (m : Master) (s : State), s.reaches m tblB = true ∧ s.bit tblB F.TBL_EPOCH.DRAINING = true ∧ s.bit tblB
      F.TBL_EPOCH.SWAP_PENDING = false) ∧
    (∃ (s : State), s.live 0x22 = true ∧ s.bit tblB F.TBL_EPOCH.DRAINING = true ∧ s.inflightOf (1 - s.liveEpoch) = 0 ∧
      s.bit tblB F.TBL_EPOCH.SWAP_PENDING = false) ∧
    (∃ (s : State), s.live 0x22 = true ∧ s.timerOn Tm.swapStuck = true ∧ s.bit tblB F.TBL_EPOCH.DRAINING = true) ∧
    (∃ (m : Master) (b : Fin 64) (c : Nat) (s : State), s.reaches m (tblB + 0x180) = true ∧ s.bankState b = 0 ∧
      s.spareOf b = some c) ∧
    (∃ (m : Master) (b : Fin 64) (s : State), s.reaches m (tblB + 0x180) = true ∧ s.bankState b = 2) ∧
    (∃ (b : Fin 64) (c : Nat) (s : State), s.live 0x22 = true ∧ (s.tbl.copying.find? fun p => decide (p.1 = b.val)) =
      some (b.val, c) ∧ c < 64 ∧ c ≠ b.val) :=
  ⟨⟨.host, true, 2047, wS, by decide +kernel⟩,
   ⟨.host, false, 16383, wS, by decide +kernel⟩,
   ⟨.host, false, 1, wS, by decide +kernel⟩,
   ⟨wS, by decide +kernel⟩,
   ⟨.host, wS, by decide +kernel⟩,
   ⟨.host, wActionListsEpochsAndBanks5, by decide +kernel⟩,
   ⟨wActionListsEpochsAndBanks6, by decide +kernel⟩,
   ⟨wActionListsEpochsAndBanks7, by decide +kernel⟩,
   ⟨.host, 17, wActionListsEpochsAndBanks8_c, wS, by decide +kernel⟩,
   ⟨.host, 63, wActionListsEpochsAndBanks9, by decide +kernel⟩,
   ⟨17, wActionListsEpochsAndBanks10_c, wActionListsEpochsAndBanks10, by decide +kernel⟩⟩

def wGateListsCommitAndHandOver0 : State :=
  { wS.setF tmgB (F.TMG_GCL_CTRL.ENABLE.at (0x20 * 47)) 1 with tmg := { wS.tmg with gclOper := [(47, ⟨[(1000, 1), (2000, 0xF0)], 4000, 0⟩)] } }
def wGateListsCommitAndHandOver2 : State :=
  wS.setF tmgB (F.TMG_GCL_CYCLE.ADMIN_CYCLE.at 0) 0
def wGateListsCommitAndHandOver3 : State :=
  { wS with tmg := { wS.tmg with gclChange := [(5, some (wS.ns + 100))] } }
def wGateListsCommitAndHandOver3_c : Nat :=
  (fun (s : State) (n : Port) => (SMap.get (fun _ => none) s.tmg.gclChange n.val).getD 0) wGateListsCommitAndHandOver3 5

/-- States and operands that meet the hypotheses of each clause of Obligations.GateListsCommitAndHandOver. -/
theorem wit_GateListsCommitAndHandOver :
    (∃ (n : Port) (s : State), s.live 0x28 = true) ∧
    (∃ (m : Master) (n : Port) (enable : Bool) (guard_ : Bool) (len : BitVec 9) (s : State), s.reaches m (tmgB + 0x408 +
      0x20 * n.val) = true ∧ s.fld tmgB (F.TMG_GCL_CYCLE.ADMIN_CYCLE.at (0x20 * n.val)) ≠ 0 ∧ len ≠ 0) ∧
    (∃ (m : Master) (n : Port) (enable : Bool) (guard_ : Bool) (len : BitVec 9) (s : State), s.reaches m (tmgB + 0x408 +
      0x20 * n.val) = true ∧ s.fld tmgB (F.TMG_GCL_CYCLE.ADMIN_CYCLE.at (0x20 * n.val)) = 0) ∧
    (∃ (n : Port) (c : Nat) (s : State), s.live 0x28 = true ∧ SMap.get (fun _ => none) s.tmg.gclChange n.val = some c) ∧
    (∃ (m : Master) (n : BitVec 6) (i : BitVec 8) (s : State), s.reaches m (tmgB + 0xA00) = true ∧ s.bit tmgB
      F.TMG_GCL_CMD.BUSY = false ∧ n.toNat < 48) ∧
    (∃ (m : Master) (n : BitVec 6) (i : BitVec 8) (s : State), s.reaches m (tmgB + 0xA00) = true ∧ s.bit tmgB
      F.TMG_GCL_CMD.BUSY = false ∧ n.toNat < 48) ∧
    (∃ (m : Master) (n : BitVec 6) (i : BitVec 8) (s : State), s.reaches m (tmgB + 0xA00) = true ∧ s.bit tmgB
      F.TMG_GCL_CMD.BUSY = false ∧ n.toNat < 48) :=
  ⟨⟨47, wGateListsCommitAndHandOver0, by decide +kernel⟩,
   ⟨.host, 47, true, false, 256, wS, by decide +kernel⟩,
   ⟨.host, 0, true, false, 1, wGateListsCommitAndHandOver2, by decide +kernel⟩,
   ⟨5, wGateListsCommitAndHandOver3_c, wGateListsCommitAndHandOver3, by decide +kernel⟩,
   ⟨.host, 47, 255, wS, by decide +kernel⟩,
   ⟨.host, 0, 0, wS, by decide +kernel⟩,
   ⟨.host, 47, 255, wS, by decide +kernel⟩⟩

def wPursesAndQueueCommands1_k : Nat :=
  (fun (policer : Bool) (i : BitVec 14) => (purseIx (b2n policer) i.toNat).getD 0) true 8191
def wPursesAndQueueCommands2_k : Nat :=
  (fun (policer : Bool) (i : BitVec 14) => (purseIx (b2n policer) i.toNat).getD 0) false 2047

/-- States and operands that meet the hypotheses of each clause of Obligations.PursesAndQueueCommands. -/
theorem wit_PursesAndQueueCommands :
    (∃ (m : Master) (policer : Bool) (i : BitVec 14) (k : Nat) (s : State), s.reaches m (tmgB + 0x200) = true ∧ s.bit
      tmgB F.TMG_PURSE_CMD.BUSY = false ∧ purseIx (b2n policer) i.toNat = some k ∧ 0 ≤ (s.purse k).stepped) ∧
    (∃ (m : Master) (policer : Bool) (i : BitVec 14) (k : Nat) (s : State), s.reaches m (tmgB + 0x200) = true ∧ s.bit
      tmgB F.TMG_PURSE_CMD.BUSY = false ∧ purseIx (b2n policer) i.toNat = some k) ∧
    (∃ (m : Master) (sp : BitVec 2) (i : BitVec 12) (s : State), s.reaches m (tmgB + 0x100) = true ∧ s.bit tmgB
      F.TMG_Q_CMD.BUSY = false ∧ (sp ≠ 1 ∨ i.toNat < 1024)) ∧
    (∃ (m : Master) (sp : BitVec 2) (i : BitVec 12) (s : State), s.reaches m (tmgB + 0x100) = true ∧ s.bit tmgB
      F.TMG_Q_CMD.BUSY = false ∧ sp ≠ 3 ∧ (sp ≠ 1 ∨ i.toNat < 1024)) ∧
    (∃ (which : Fin 3) (s : State), s.live 0x28 = true) :=
  ⟨⟨.host, true, 8191, wPursesAndQueueCommands1_k, wS, by decide +kernel⟩,
   ⟨.host, false, 2047, wPursesAndQueueCommands2_k, wS, by decide +kernel⟩,
   ⟨.host, 3, 4095, wS, by decide +kernel⟩,
   ⟨.host, 1, 1023, wS, by decide +kernel⟩,
   ⟨2, wS, by decide +kernel⟩⟩

def wPacketsCrossTheTrafficManager0 : State :=
  { wS with pipes := { wS.pipes with a := { wS.pipes.a with recirc := [], wire := [(3, [wPkt, wPkt])] } } }
def wPacketsCrossTheTrafficManager0_src : Nat :=
  (fun (s : State) (k : Pipe) => match s.pickSlot k with | .wire n => n | _ => 0) wPacketsCrossTheTrafficManager0 0
def wPacketsCrossTheTrafficManager0_p : Packet :=
  (fun (s : State) (k : Pipe) (src : Nat) => (SMap.get (fun _ => []) (s.pipe k).wire src).headD wPkt) wPacketsCrossTheTrafficManager0 0 wPacketsCrossTheTrafficManager0_src
def wPacketsCrossTheTrafficManager0_rest : List Packet :=
  (fun (s : State) (k : Pipe) (src : Nat) => (SMap.get (fun _ => []) (s.pipe k).wire src).tail) wPacketsCrossTheTrafficManager0 0 wPacketsCrossTheTrafficManager0_src
def wPacketsCrossTheTrafficManager1 : State :=
  { wS with sampArm := [], pipes := { wS.pipes with b := { wS.pipes.b with inPass := [wPkt.setW W.DEST 0x4003] } } }
def wPacketsCrossTheTrafficManager1_p : Packet :=
  (fun (s : State) (k : Pipe) => (s.pipe k).inPass.headD wPkt) wPacketsCrossTheTrafficManager1 1
def wPacketsCrossTheTrafficManager1_rest : List Packet :=
  (fun (s : State) (k : Pipe) => (s.pipe k).inPass.tail) wPacketsCrossTheTrafficManager1 1
def wPacketsCrossTheTrafficManager2 : State :=
  { wS with sampArm := [], pipes := { wS.pipes with a := { wS.pipes.a with inPass := [(wPkt.setW W.DROP 1).setW W.DROP_REASON 0x20] } } }
def wPacketsCrossTheTrafficManager2_p : Packet :=
  (fun (s : State) (k : Pipe) => (s.pipe k).inPass.headD wPkt) wPacketsCrossTheTrafficManager2 0
def wPacketsCrossTheTrafficManager2_rest : List Packet :=
  (fun (s : State) (k : Pipe) => (s.pipe k).inPass.tail) wPacketsCrossTheTrafficManager2 0
def wPacketsCrossTheTrafficManager3 : State :=
  { wS.setF (kB 1) F.KP_ARB_CFG.HOST_STARVE 1 with now := wS.now + 5000, pipes := { wS.pipes with b := { wS.pipes.b with host := [(31, [{ wPkt with since := wS.now }])] } } }
def wPacketsCrossTheTrafficManager4 : State :=
  { (wS.setF (pnB 0) F.PN_US_STAT.ACT 1).setF (tqB 3) F.TQ_PORT_SVC.STATE 0 with bc := ⟨BcState.reset, BcState.reset⟩, sampArm := [], tmg := { wS.tmg with inQ := [{ (wPkt.setW W.DEST 0x4003).setW W.TC 7 with cells := 1, uid := 9 }] } }
def wPacketsCrossTheTrafficManager4_p : Packet :=
  (fun (s : State) => s.tmg.inQ.headD wPkt) wPacketsCrossTheTrafficManager4
def wPacketsCrossTheTrafficManager4_rest : List Packet :=
  (fun (s : State) => s.tmg.inQ.tail) wPacketsCrossTheTrafficManager4
def wPacketsCrossTheTrafficManager4_q : Nat :=
  (fun (s : State) (p : Packet) => ((s.pickQueues p).getD []).headD 0) wPacketsCrossTheTrafficManager4 wPacketsCrossTheTrafficManager4_p
def wPacketsCrossTheTrafficManager5 : State :=
  { ((wS.setF (tqB 0) F.TQ_LANE_STAT.LINK 1).setF (tqB 0) F.TQ_PORT_SVC.STATE 0).setF tmgB (F.TMG_PORT_CFG.SH_EN.at 0) 0 with sampArm := [], tq := [], tmg := { wS.tmg with qcfg := [], gcfg := [], gclOper := [], qs := [(7, { QState.empty with chip := [{ wPkt with cells := 1, uid := 9 }], cells := 1 })] } }
def wPacketsCrossTheTrafficManager5_g : Child :=
  (fun (s : State) (n : Port) => (bestChild ((s.readyGroups n).2.map (·.1))).getD ⟨0, false, 0, 0⟩) wPacketsCrossTheTrafficManager5 0
def wPacketsCrossTheTrafficManager5_c : Child :=
  (fun (s : State) (n : Port) (g : Child) => (((s.readyGroups n).2.find? fun c => decide (c.1.ix = g.ix)).getD (⟨0, false, 0, 0⟩, 0)).1) wPacketsCrossTheTrafficManager5 0 wPacketsCrossTheTrafficManager5_g
def wPacketsCrossTheTrafficManager5_q : Nat :=
  (fun (s : State) (n : Port) (g : Child) (c : Child) => (((s.readyGroups n).2.find? fun c => decide (c.1.ix = g.ix)).getD (⟨0, false, 0, 0⟩, 0)).2) wPacketsCrossTheTrafficManager5 0 wPacketsCrossTheTrafficManager5_g wPacketsCrossTheTrafficManager5_c
def wPacketsCrossTheTrafficManager5_p : Packet :=
  (fun (s : State) (q : Nat) => (s.q q).chip.headD wPkt) wPacketsCrossTheTrafficManager5 wPacketsCrossTheTrafficManager5_q
def wPacketsCrossTheTrafficManager5_rest : List Packet :=
  (fun (s : State) (q : Nat) => (s.q q).chip.tail) wPacketsCrossTheTrafficManager5 wPacketsCrossTheTrafficManager5_q
def wPacketsCrossTheTrafficManager6 : State :=
  { wS with tmg := { wS.tmg with qcfg := [], qs := [(400, { QState.empty with deep := [⟨wPkt, 0, 0⟩], deepEnd := 128, pages := [(0, 0, false)] })], rdBudget := ⟨1000, 1000⟩, rdAt := ⟨wS.now, wS.now⟩ } }
def wPacketsCrossTheTrafficManager6_e : DeepPkt :=
  (fun (s : State) (q : BitVec 12) => (s.q q.toNat).deep.headD ⟨wPkt, 0, 128⟩) wPacketsCrossTheTrafficManager6 400
def wPacketsCrossTheTrafficManager6_rest : List DeepPkt :=
  (fun (s : State) (q : BitVec 12) => (s.q q.toNat).deep.tail) wPacketsCrossTheTrafficManager6 400

/-- States and operands that meet the hypotheses of each clause of Obligations.PacketsCrossTheTrafficManager. -/
theorem wit_PacketsCrossTheTrafficManager :
    (∃ (k : Pipe) (src : Nat) (p : Packet) (rest : List Packet) (s : State), s.accepts (0x20 + k.val) = true ∧
      s.pickSlot k = .wire src ∧ SMap.get (fun _ => []) (s.pipe k).wire src = p :: rest ∧ (parseWalk (s.node k
      s.liveEpoch) p.bytes).err = none) ∧
    (∃ (k : Pipe) (p : Packet) (rest : List Packet) (s : State), s.live (0x20 + k.val) = true ∧ (s.pipe k).inPass = p ::
      rest ∧ (∀ i : Fin 12, p.w (W.ACT i) = 0) ∧ p.wb (W.M_VALID 0) = false ∧ p.wb (W.M_VALID 1) = false ∧ s.sampArm =
      [] ∧ p.wb W.DROP = false ∧ p.wb W.T_REQ = false ∧ p.wb W.RECIRC = false ∧ p.endPass.w W.DEST / 2 ^ 14 ≠ 0 ∧ ({
      p.endPass with windowed := true }).wb W.T_REQ = false ∧ s.awaitsWindow p.endPass = false ∧ s.accepts 0x28 = true) ∧
    (∃ (k : Pipe) (p : Packet) (rest : List Packet) (s : State), s.live (0x20 + k.val) = true ∧ (s.pipe k).inPass = p ::
      rest ∧ p.wb W.DROP = true ∧ p.wb (W.M_VALID 0) = false ∧ p.wb (W.M_VALID 1) = false ∧ s.sampArm = [] ∧
      s.awaitsWindow p.endPass = false) ∧
    (∃ (d : Fin 32) (s : State), s.accepts (0x20 + (if d.val < 16 then 0 else 1)) = true ∧ s.hostStarved (if d.val < 16
      then 0 else 1) d = true) ∧
    (∃ (p : Packet) (rest : List Packet) (q : Nat) (s : State), s.live 0x28 = true ∧ s.tmg.inQ = p :: rest ∧
      s.pickQueues p = some [q] ∧ q < 384 ∧ p.w W.DEST / 2 ^ 14 ≠ 2 ∧ p.w W.COLOUR < 3 ∧ s.portState (q / 8) ≠ 1 ∧
      s.deepOn q = false ∧ s.chipTest q p.cells (p.w W.COLOUR) = none ∧ s.sampArm = [] ∧ s.act 0 ≠ 5 ∧ s.act 1 ≠ 5 ∧
      (s.bcs 0).active = [] ∧ (s.bcs 1).active = []) ∧
    (∃ (n : Port) (g : Child) (c : Child) (q : Nat) (p : Packet) (rest : List Packet) (s : State), s.live 0x28 = true ∧
      s.nodeReady n = true ∧ s.portLost n = false ∧ s.linkUp n = true ∧ bestChild ((s.readyGroups n).2.map (·.1)) = some
      g ∧ ((s.readyGroups n).2.find? fun c => decide (c.1.ix = g.ix)) = some (c, q) ∧ (s.q q).chip = p :: rest ∧
      s.sampArm = []) ∧
    (∃ (q : BitVec 12) (e : DeepPkt) (rest : List DeepPkt) (s : State), s.live 0x28 = true ∧ (s.q q.toNat).deep = e ::
      rest ∧ (s.q q.toNat).cells < qSPILL (s.qc q.toNat) ∧ e.size ≤ s.rdRoom (isUpQ q.toNat) ∧ e.pkt.cellLen ≤
      s.freeCells) :=
  ⟨⟨0, wPacketsCrossTheTrafficManager0_src, wPacketsCrossTheTrafficManager0_p, wPacketsCrossTheTrafficManager0_rest,
     wPacketsCrossTheTrafficManager0, by decide +kernel⟩,
   ⟨1, wPacketsCrossTheTrafficManager1_p, wPacketsCrossTheTrafficManager1_rest, wPacketsCrossTheTrafficManager1,
     by decide +kernel⟩,
   ⟨0, wPacketsCrossTheTrafficManager2_p, wPacketsCrossTheTrafficManager2_rest, wPacketsCrossTheTrafficManager2,
     by decide +kernel⟩,
   ⟨31, wPacketsCrossTheTrafficManager3, by decide +kernel⟩,
   ⟨wPacketsCrossTheTrafficManager4_p, wPacketsCrossTheTrafficManager4_rest, wPacketsCrossTheTrafficManager4_q,
     wPacketsCrossTheTrafficManager4, by decide +kernel⟩,
   ⟨0, wPacketsCrossTheTrafficManager5_g, wPacketsCrossTheTrafficManager5_c, wPacketsCrossTheTrafficManager5_q,
     wPacketsCrossTheTrafficManager5_p, wPacketsCrossTheTrafficManager5_rest, wPacketsCrossTheTrafficManager5,
     by decide +kernel⟩,
   ⟨400, wPacketsCrossTheTrafficManager6_e, wPacketsCrossTheTrafficManager6_rest, wPacketsCrossTheTrafficManager6,
     by decide +kernel⟩⟩

def wBurstMapsAndStaging0 : State :=
  { wS with bc := ⟨BcState.reset, BcState.reset⟩ }
def wBurstMapsAndStaging1 : State :=
  { wS with bc := ⟨BcState.reset, { BcState.reset with standby := [(3, (2 ^ 31 + 5) * 2 ^ 32)] }⟩ }
def wBurstMapsAndStaging1_a : Nat × Nat × Nat :=
  (fun (s : State) (c : PonCh) => (pageFault (s.bcs c).standby).getD (0, 0, 0)) wBurstMapsAndStaging1 1
def wBurstMapsAndStaging2 : State :=
  { wS.setF (bcB 0) F.BC_MAP_CTRL.PENDING 1 with bc := ⟨BcState.reset, BcState.reset⟩ }
def wBurstMapsAndStaging7 : State :=
  { wS.setF (pnB 0) F.PN_SVC_CTRL.STRIPE_EX 0 with sampArm := [], tmg := { wS.tmg with qcfg := [], qs := [(400, { QState.empty with chip := [{ wPkt with cells := 1, uid := 9 }], cells := 1 })] }, bc := ⟨{ BcState.reset with active := [(0, (2 ^ 31 + 400) * 2 ^ 32)], cap := [(0, 1000)] }, BcState.reset⟩, pon := ⟨{ PonState.reset with allocs := [(0, some (1, 5))] }, PonState.reset⟩ }
def wBurstMapsAndStaging7_a : Nat :=
  (fun (s : State) (c : PonCh) => (((List.range 128).foldl (fun s a => if (s.slotsOf c a).isEmpty then s else s.tagSlots c a) s).stageNext c).getD 0) wBurstMapsAndStaging7 0
def wBurstMapsAndStaging7_k : Child :=
  (fun (s : State) (c : PonCh) (a : Nat) => (bestChild (((List.range 128).foldl (fun s a => if (s.slotsOf c a).isEmpty then s else s.tagSlots c a) s).stageKids c a)).getD ⟨0, false, 0, 0⟩) wBurstMapsAndStaging7 0 wBurstMapsAndStaging7_a
def wBurstMapsAndStaging7_y : MapSlot :=
  (fun (s : State) (c : PonCh) (a : Nat) (k : Child) => ((s.slotsOf c a).find? fun x => decide (x.j = k.ix)).getD ⟨0, false, 0, 0, 400⟩) wBurstMapsAndStaging7 0 wBurstMapsAndStaging7_a wBurstMapsAndStaging7_k
def wBurstMapsAndStaging7_p : Packet :=
  (fun (s : State) (y : MapSlot) => (s.q y.queue).chip.headD wPkt) wBurstMapsAndStaging7 wBurstMapsAndStaging7_y
def wBurstMapsAndStaging7_rest : List Packet :=
  (fun (s : State) (y : MapSlot) => (s.q y.queue).chip.tail) wBurstMapsAndStaging7 wBurstMapsAndStaging7_y
def wBurstMapsAndStaging8 : State :=
  wS.setF (bcB 1) F.BC_TILL_STAT.PANIC 1
def wBurstMapsAndStaging9 : State :=
  { wS.setF (bcB 0) F.BC_TILL_STAT.PANIC 0 with tmg := { wS.tmg with qcfg := [(400, qReset 400 % 2 ^ 64 + 2 ^ 64 * 100)], qs := [(400, { QState.empty with deep := [⟨wPkt, 0, 128⟩] })] }, bc := ⟨{ BcState.reset with active := [(0, (2 ^ 31 + 400) * 2 ^ 32)] }, BcState.reset⟩, pon := ⟨{ PonState.reset with bursts := [{ wBurst with allocs := [wAlloc], hdr := wS.units }] }, PonState.reset⟩ }

/-- States and operands that meet the hypotheses of each clause of Obligations.BurstMapsAndStaging. -/
theorem wit_BurstMapsAndStaging :
    (∃ (m : Master) (c : PonCh) (s : State), s.reaches m (bcB c) = true ∧ pageFault (s.bcs c).standby = none) ∧
    (∃ (m : Master) (c : PonCh) (a : Nat × Nat × Nat) (s : State), s.reaches m (bcB c) = true ∧ pageFault (s.bcs
      c).standby = some a) ∧
    (∃ (c : PonCh) (s : State), s.live (0x0A + c.val) = true ∧ s.bit (bcB c) F.BC_MAP_CTRL.PENDING = true ∧ pageFault
      (s.bcs c).standby = none) ∧
    (∃ (m : Master) (c : PonCh) (i : BitVec 7) (s : State), s.reaches m (bcB c + 4) = true ∧ s.bit (bcB c)
      F.BC_MAP_CMD.BUSY = false) ∧
    (∃ (m : Master) (c : PonCh) (i : BitVec 7) (s : State), s.reaches m (bcB c + 4) = true ∧ s.bit (bcB c)
      F.BC_MAP_CMD.BUSY = false) ∧
    (∃ (m : Master) (c : PonCh) (i : BitVec 7) (s : State), s.reaches m (bcB c + 4) = true ∧ s.bit (bcB c)
      F.BC_MAP_CMD.BUSY = false) ∧
    (∃ (c : PonCh) (s : State), s.live (0x0A + c.val) = true) ∧
    (∃ (c : PonCh) (a : Nat) (k : Child) (y : MapSlot) (p : Packet) (rest : List Packet) (s : State), s.stripeEx c =
      false ∧ s.accepts (0x0A + c.val) = true ∧ ((s.bcs c).active.flatMap fun e => ((mapSlots e.2).filter (·.radio)).map
      fun x => (e.1, x.queue)) = [] ∧ ((List.range 128).foldl (fun s a => if (s.slotsOf c a).isEmpty then s else
      s.tagSlots c a) s).stageNext c = some a ∧ bestChild (((List.range 128).foldl (fun s a => if (s.slotsOf c
      a).isEmpty then s else s.tagSlots c a) s).stageKids c a) = some k ∧ ((s.slotsOf c a).find? fun x => decide (x.j =
      k.ix)) = some y ∧ (s.q y.queue).chip = p :: rest ∧ cellsOf (s.bcs c).staged + ceilDiv (xgemLen p.fcsLen) 256 ≤
      16384 - s.fld (bcB c) F.BC_TILL_CFG.RADIO_CELLS ∧ s.sampArm = []) ∧
    (∃ (c : PonCh) (s : State), s.live (0x0A + c.val) = true ∧ s.panicHolds c = false) ∧
    (∃ (c : PonCh) (s : State), s.live (0x0A + c.val) = true ∧ s.panicHolds c = true ∧ s.bit (bcB c)
      F.BC_TILL_STAT.PANIC = false) :=
  ⟨⟨.host, 1, wBurstMapsAndStaging0, by decide +kernel⟩,
   ⟨.host, 1, wBurstMapsAndStaging1_a, wBurstMapsAndStaging1, by decide +kernel⟩,
   ⟨0, wBurstMapsAndStaging2, by decide +kernel⟩,
   ⟨.host, 0, 127, wS, by decide +kernel⟩,
   ⟨.host, 1, 127, wS, by decide +kernel⟩,
   ⟨.host, 0, 0, wS, by decide +kernel⟩,
   ⟨1, wS, by decide +kernel⟩,
   ⟨0, wBurstMapsAndStaging7_a, wBurstMapsAndStaging7_k, wBurstMapsAndStaging7_y, wBurstMapsAndStaging7_p,
     wBurstMapsAndStaging7_rest, wBurstMapsAndStaging7, by decide +kernel⟩,
   ⟨1, wBurstMapsAndStaging8, by decide +kernel⟩,
   ⟨0, wBurstMapsAndStaging9, by decide +kernel⟩⟩

def wBurstsFollowTheirGrants0 : State :=
  { ((wS.setF (pnB 0) F.PN_RX_STAT.STATE 2).setF (pnB 0) F.PN_US_STAT.ACT 5).setF (pnB 0) F.PN_US_STAT.INH 0 with pon := ⟨{ PonState.reset with allocs := [(3, some (1, 5))], profUse := [0x80000400, 0, 0, 0], tRef := wS.now }, PonState.reset⟩ }
def wBurstsFollowTheirGrants0_ix : Nat :=
  (fun (s : State) (c : PonCh) (e : BwEntry) => (s.entryIx c e.allocId.toNat).getD 0) wBurstsFollowTheirGrants0 0 (({ hecOk := true, allocId := 5, dbru := true, ploamu := false, fwi := false, start := 100, size := 50, profile := 0, last := false }) : BwEntry)
def wBurstsFollowTheirGrants1 : State :=
  { wS.setF (pnB 1) F.PN_RX_STAT.STATE 2 with pon := ⟨PonState.reset, PonState.reset⟩ }
def wBurstsFollowTheirGrants2 : State :=
  { wS with sampArm := [], pon := ⟨{ PonState.reset with bursts := [{ wBurst with sized := true, allocs := [{ wAlloc with due := wS.units + 800000000000, cap := 100 }], hdr := wS.units + 800000000000 }] }, PonState.reset⟩, bc := ⟨BcState.reset, BcState.reset⟩ }
def wBurstsFollowTheirGrants2_b : Burst :=
  (fun (s : State) (c : PonCh) => ((s.nextFix c).getD (wBurst, 0, 0)).1) wBurstsFollowTheirGrants2 0
def wBurstsFollowTheirGrants2_i : Nat :=
  (fun (s : State) (c : PonCh) => ((s.nextFix c).getD (wBurst, 0, 0)).2.1) wBurstsFollowTheirGrants2 0
def wBurstsFollowTheirGrants2_u : Nat :=
  (fun (s : State) (c : PonCh) => ((s.nextFix c).getD (wBurst, 0, 0)).2.2) wBurstsFollowTheirGrants2 0
def wBurstsFollowTheirGrants3 : State :=
  { (((wS.setF (pnB 1) F.PN_US_STAT.ACT 5).setF (pnB 1) F.PN_US_STAT.INH 0).setF (pnB 1) F.PN_US_STAT.PS (4 / 4 % 3)) with pon := ⟨PonState.reset, { PonState.reset with bursts := [{ wBurst with sized := true, start := wS.units + 10 ^ 9, hdr := wS.units + 10 ^ 9 }] }⟩ }
def wBurstsFollowTheirGrants3_b : Burst :=
  (fun (s : State) (c : PonCh) => (s.nextBurst c).getD wBurst) wBurstsFollowTheirGrants3 1
def wBurstsFollowTheirGrants4 : State :=
  { wS with pon := ⟨PonState.reset, { PonState.reset with benFrom := some wS.units, bursts := [{ wBurst with sized := true, started := true, fin := wS.units + 10 ^ 9 }] }⟩ }
def wBurstsFollowTheirGrants4_b : Burst :=
  (fun (s : State) (c : PonCh) => (s.pn c).bursts.headD wBurst) wBurstsFollowTheirGrants4 1
def wBurstsFollowTheirGrants5 : State :=
  { (wS.setF (pnB 0) F.PN_ROGUE_CFG.ENABLE 1).setF (pnB 0) F.PN_US_STAT.ROGUE 0 with pon := ⟨PonState.reset, PonState.reset⟩ }
def wBurstsFollowTheirGrants6 : State :=
  { (wS.setF (pnB 0) F.PN_ROGUE_CFG.ENABLE 1) with pon := ⟨{ PonState.reset with benMisses := 4 / 4 % 5, benDue := [wS.units, wS.units + 10 ^ 9] }, PonState.reset⟩ }
def wBurstsFollowTheirGrants6_at_ : Nat :=
  (fun (s : State) (c : PonCh) => (s.pn c).benDue.headD 0) wBurstsFollowTheirGrants6 0
def wBurstsFollowTheirGrants6_rest : List Nat :=
  (fun (s : State) (c : PonCh) => (s.pn c).benDue.tail) wBurstsFollowTheirGrants6 0
def wBurstsFollowTheirGrants7 : State :=
  (wS.setF (pnB 0) F.PN_US_STAT.ROGUE 1).setF (pnB 0) F.PN_US_STAT.INH (1 + 2 * (4 / 4 % 8))

/-- States and operands that meet the hypotheses of each clause of Obligations.BurstsFollowTheirGrants. -/
theorem wit_BurstsFollowTheirGrants :
    (∃ (c : PonCh) (e : BwEntry) (ix : Nat) (s : State), s.live (0x08 + c.val) = true ∧ s.align c = 2 ∧ (s.pn c).fsLost
      = false ∧ (s.pn c).bwLost = false ∧ e.hecOk = true ∧ e.last = false ∧ e.fwi = false ∧ s.entryIx c e.allocId.toNat
      = some ix ∧ s.grantUse c ix ≠ 0 ∧ s.mayAnswer c (s.grantUse c ix) e.ploamu false = true ∧ s.pf c F.PN_US_STAT.PS ≠
      3 ∧ e.start.toNat < granulesPerFrame (s.xgs c) ∧ e.start.toNat ≠ 0xFFFF ∧ profValid ((s.pn c).profUse.getD
      e.profile.toNat 0) = true ∧ (s.xgs c = true ∨ profRate ((s.pn c).profUse.getD e.profile.toNat 0) ≤ s.rateMax c) ∧
      s.units + 2000 * nsUnits ≤ (((s.pn c).tRef * tickUnits + roundUi (tiRui + (s.pn c).eqdUse + e.start.toNat *
      (granule (s.xgs c))) (uiRui (if s.xgs c then 3 else profRate ((s.pn c).profUse.getD e.profile.toNat 0))) *
      ruiUnits) - profPsbu ((s.pn c).profUse.getD e.profile.toNat 0) * 8 * uiRui (if s.xgs c then 3 else profRate ((s.pn
      c).profUse.getD e.profile.toNat 0)) * ruiUnits) ∧ s.overlaps c (((s.pn c).tRef * tickUnits + roundUi (tiRui +
      (s.pn c).eqdUse + e.start.toNat * (granule (s.xgs c))) (uiRui (if s.xgs c then 3 else profRate ((s.pn
      c).profUse.getD e.profile.toNat 0))) * ruiUnits) - profPsbu ((s.pn c).profUse.getD e.profile.toNat 0) * 8 * uiRui
      (if s.xgs c then 3 else profRate ((s.pn c).profUse.getD e.profile.toNat 0)) * ruiUnits) (((s.pn c).tRef *
      tickUnits + roundUi (tiRui + (s.pn c).eqdUse + e.start.toNat * (granule (s.xgs c))) (uiRui (if s.xgs c then 3 else
      profRate ((s.pn c).profUse.getD e.profile.toNat 0))) * ruiUnits) + e.size.toNat * (granule (s.xgs c)) * ruiUnits)
      = false) ∧
    (∃ (c : PonCh) (e : BwEntry) (s : State), s.live (0x08 + c.val) = true ∧ s.align c = 2 ∧ (s.pn c).fsLost = false ∧
      (s.pn c).bwLost = false ∧ e.hecOk = false ∧ e.last = false) ∧
    (∃ (c : PonCh) (b : Burst) (i : Nat) (u : Nat) (s : State), s.live (0x0A + c.val) = true ∧ s.nextFix c = some (b, i,
      u)) ∧
    (∃ (c : PonCh) (b : Burst) (s : State), s.live (0x08 + c.val) = true ∧ s.nextBurst c = some b ∧ s.maySend c b.use =
      true ∧ s.nextFix c = none ∧ s.pf c F.PN_US_STAT.PS ≠ 3 ∧ b.ploam = none) ∧
    (∃ (c : PonCh) (b : Burst) (s : State), s.live (0x08 + c.val) = true ∧ (s.pn c).bursts = [b] ∧ b.started = true ∧
      s.nextFix c = none ∧ (s.pn c).benFrom.isSome = true ∧ (s.pn c).benTill = none) ∧
    (∃ (c : PonCh) (ns : Nat) (s : State), s.live (0x08 + c.val) = true ∧ s.bit (pnB c) F.PN_ROGUE_CFG.ENABLE = true ∧
      s.bit (pnB c) F.PN_US_STAT.ROGUE = false ∧ max 1 (s.fld (pnB c) F.PN_ROGUE_CFG.WIN) < ns ∧ (s.pn c).bursts = []) ∧
    (∃ (c : PonCh) (active : Bool) (at_ : Nat) (rest : List Nat) (s : State), s.live (0x08 + c.val) = true ∧ (s.pn
      c).benDue = at_ :: rest ∧ s.bit (pnB c) F.PN_ROGUE_CFG.ENABLE = true) ∧
    (∃ (m : Master) (c : PonCh) (s : State), s.reaches m (pnB c + 0x100) = true ∧ s.bit (pnB c) F.PN_US_STAT.ROGUE =
      true ∧ (s.inh c).testBit 0 = true) :=
  ⟨⟨0,
     (({ hecOk := true, allocId := 5, dbru := true, ploamu := false, fwi := false, start := 100, size := 50, profile := 0, last := false }) : BwEntry),
     wBurstsFollowTheirGrants0_ix, wBurstsFollowTheirGrants0, by decide +kernel⟩,
   ⟨1,
     (({ hecOk := false, allocId := 5, dbru := true, ploamu := false, fwi := false, start := 100, size := 50, profile := 0, last := false }) : BwEntry),
     wBurstsFollowTheirGrants1, by decide +kernel⟩,
   ⟨0, wBurstsFollowTheirGrants2_b, wBurstsFollowTheirGrants2_i, wBurstsFollowTheirGrants2_u, wBurstsFollowTheirGrants2,
     by decide +kernel⟩,
   ⟨1, wBurstsFollowTheirGrants3_b, wBurstsFollowTheirGrants3, by decide +kernel⟩,
   ⟨1, wBurstsFollowTheirGrants4_b, wBurstsFollowTheirGrants4, by decide +kernel⟩,
   ⟨0, 70000, wBurstsFollowTheirGrants5, by decide +kernel⟩,
   ⟨0, false, wBurstsFollowTheirGrants6_at_, wBurstsFollowTheirGrants6_rest, wBurstsFollowTheirGrants6, by decide +kernel⟩,
   ⟨.host, 0, wBurstsFollowTheirGrants7, by decide +kernel⟩⟩

def wActivationMessages0 : State :=
  (wS.setF (pnB 0) F.PN_RX_STAT.STATE 2).setF (pnB 0) F.PN_US_STAT.ACT 5
def wActivationMessages0_x : PloamIn :=
  (fun (s : State) (c : PonCh) => wPl s c false) wActivationMessages0 0
def wActivationMessages1 : State :=
  (wS.setF (pnB 1) F.PN_RX_STAT.STATE 2).setF (pnB 1) F.PN_US_STAT.ACT 2
def wActivationMessages1_x : PloamIn :=
  (fun (s : State) (c : PonCh) => wPl s c false) wActivationMessages1 1
def wActivationMessages2 : State :=
  (wS.setF (pnB 1) F.PN_RX_STAT.STATE 2).setF (pnB 1) F.PN_US_STAT.ACT 2
def wActivationMessages2_x : PloamIn :=
  (fun (s : State) (c : PonCh) => wPl s c false) wActivationMessages2 1
def wActivationMessages3 : State :=
  (wS.setF (pnB 0) F.PN_RX_STAT.STATE 2).setF (pnB 0) F.PN_US_STAT.ACT 3
def wActivationMessages3_x : PloamIn :=
  (fun (s : State) (c : PonCh) => wPl s c true) wActivationMessages3 0
def wActivationMessages3_sn : BitVec 64 :=
  (fun (s : State) => BitVec.ofNat 64 (s.serialNat 0)) wActivationMessages3
def wActivationMessages4 : State :=
  (wS.setF (pnB 0) F.PN_RX_STAT.STATE 2).setF (pnB 0) F.PN_US_STAT.ACT 5
def wActivationMessages4_x : PloamIn :=
  (fun (s : State) (c : PonCh) => wPl s c true) wActivationMessages4 0
def wActivationMessages5 : State :=
  (wS.setF (pnB 0) F.PN_RX_STAT.STATE 2).setF (pnB 0) F.PN_US_STAT.ACT 4
def wActivationMessages5_x : PloamIn :=
  (fun (s : State) (c : PonCh) => wPl s c true) wActivationMessages5 0
def wActivationMessages6 : State :=
  (wS.setF (pnB 0) F.PN_RX_STAT.STATE 2).setF (pnB 0) F.PN_US_STAT.ACT 4
def wActivationMessages6_x : PloamIn :=
  (fun (s : State) (c : PonCh) => wPl s c true) wActivationMessages6 0
def wActivationMessages7 : State :=
  { ((wS.setF (pnB 1) F.PN_RX_STAT.STATE 2).setF (pnB 1) F.PN_US_STAT.ACT (4 + 4 / 4 % 2)).setF timB F.TIM_SRC_CFG.SRC 0 with tlr := { wS.tlr with stripes := [] } }
def wActivationMessages7_x : PloamIn :=
  (fun (s : State) (c : PonCh) => wPl s c false) wActivationMessages7 1
def wActivationMessages8 : State :=
  { ((wS.setF (pnB 0) F.PN_RX_STAT.STATE 2).setF (pnB 0) F.PN_US_STAT.ACT (2 + 4 / 4 % 5)).setF timB F.TIM_SRC_CFG.SRC 0 with tlr := { wS.tlr with stripes := [] } }
def wActivationMessages8_x : PloamIn :=
  (fun (s : State) (c : PonCh) => wPl s c false) wActivationMessages8 0
def wActivationMessages8_sn : BitVec 64 :=
  (fun (s : State) => BitVec.ofNat 64 (s.serialNat 0)) wActivationMessages8
def wActivationMessages9 : State :=
  ((wS.setF (pnB 1) F.PN_RX_STAT.STATE 2).setF (pnB 1) F.PN_US_STAT.ACT 7).setF (pnB 1) F.PN_SVC_CTRL.STATE 3
def wActivationMessages9_x : PloamIn :=
  (fun (s : State) (c : PonCh) => wPl s c false) wActivationMessages9 1

/-- States and operands that meet the hypotheses of each clause of Obligations.ActivationMessages. -/
theorem wit_ActivationMessages :
    (∃ (c : PonCh) (x : PloamIn) (ix : Fin 4) (rate : Fin 4) (fec : Bool) (preamble : BitVec 12) (delim : BitVec 4) (s :
      State), s.live (0x08 + c.val) = true ∧ s.align c = 2 ∧ (s.pn c).fsLost = false ∧ (x.to_.toNat = s.pf c
      F.PN_US_STAT.ONU_ID ∨ x.to_.toNat = 0x3FF) ∧ s.ploamMicOk c x.raw = true ∧ (s.pn c).marked x.span = false ∧ s.bit
      (pnB c) F.PN_OSP_CFG.PLOAM_COPY = false ∧ (s.xgs c = true ∨ rate.val ≤ s.rateMax c) ∧ s.act c ≠ 2) ∧
    (∃ (c : PonCh) (x : PloamIn) (ix : Fin 4) (rate : Fin 4) (fec : Bool) (preamble : BitVec 12) (delim : BitVec 4) (s :
      State), s.live (0x08 + c.val) = true ∧ s.align c = 2 ∧ (s.pn c).fsLost = false ∧ (x.to_.toNat = s.pf c
      F.PN_US_STAT.ONU_ID ∨ x.to_.toNat = 0x3FF) ∧ s.ploamMicOk c x.raw = true ∧ (s.pn c).marked x.span = false ∧ s.bit
      (pnB c) F.PN_OSP_CFG.PLOAM_COPY = false ∧ (s.xgs c = true ∨ rate.val ≤ s.rateMax c) ∧ s.act c = 2) ∧
    (∃ (c : PonCh) (x : PloamIn) (ix : Fin 4) (rate : Fin 4) (fec : Bool) (preamble : BitVec 12) (delim : BitVec 4) (s :
      State), s.live (0x08 + c.val) = true ∧ s.align c = 2 ∧ (s.pn c).fsLost = false ∧ (x.to_.toNat = s.pf c
      F.PN_US_STAT.ONU_ID ∨ x.to_.toNat = 0x3FF) ∧ s.ploamMicOk c x.raw = true ∧ (s.pn c).marked x.span = false ∧ s.bit
      (pnB c) F.PN_OSP_CFG.PLOAM_COPY = false ∧ s.xgs c = false ∧ s.rateMax c < rate.val) ∧
    (∃ (c : PonCh) (x : PloamIn) (sn : BitVec 64) (onuId : BitVec 10) (s : State), s.live (0x08 + c.val) = true ∧
      s.align c = 2 ∧ (s.pn c).fsLost = false ∧ (x.to_.toNat = s.pf c F.PN_US_STAT.ONU_ID ∨ x.to_.toNat = 0x3FF) ∧
      s.ploamMicOk c x.raw = true ∧ (s.pn c).marked x.span = false ∧ s.bit (pnB c) F.PN_OSP_CFG.PLOAM_COPY = false ∧
      s.act c = 3 ∧ sn.toNat = s.serialNat c) ∧
    (∃ (c : PonCh) (x : PloamIn) (relative : Bool) (eqd : Int) (s : State), s.live (0x08 + c.val) = true ∧ s.align c = 2
      ∧ (s.pn c).fsLost = false ∧ (x.to_.toNat = s.pf c F.PN_US_STAT.ONU_ID ∨ x.to_.toNat = 0x3FF) ∧ s.ploamMicOk c
      x.raw = true ∧ (s.pn c).marked x.span = false ∧ s.bit (pnB c) F.PN_OSP_CFG.PLOAM_COPY = false ∧ s.act c = 5 ∧ 0 ≤
      (eqd * s.pf c (if s.xgs c then F.PN_EQD_CFG.UNIT_XGS else F.PN_EQD_CFG.UNIT_50G) + (if relative then (s.pf c
      F.PN_EQD.EQD : Int) else 0)) ∧ (eqd * s.pf c (if s.xgs c then F.PN_EQD_CFG.UNIT_XGS else F.PN_EQD_CFG.UNIT_50G) +
      (if relative then (s.pf c F.PN_EQD.EQD : Int) else 0)) ≤ 33554431) ∧
    (∃ (c : PonCh) (x : PloamIn) (relative : Bool) (eqd : Int) (s : State), s.live (0x08 + c.val) = true ∧ s.align c = 2
      ∧ (s.pn c).fsLost = false ∧ (x.to_.toNat = s.pf c F.PN_US_STAT.ONU_ID ∨ x.to_.toNat = 0x3FF) ∧ s.ploamMicOk c
      x.raw = true ∧ (s.pn c).marked x.span = false ∧ s.bit (pnB c) F.PN_OSP_CFG.PLOAM_COPY = false ∧ s.act c = 4 ∧ 0 ≤
      (eqd * s.pf c (if s.xgs c then F.PN_EQD_CFG.UNIT_XGS else F.PN_EQD_CFG.UNIT_50G) + (if relative then (s.pf c
      F.PN_EQD.EQD : Int) else 0)) ∧ (eqd * s.pf c (if s.xgs c then F.PN_EQD_CFG.UNIT_XGS else F.PN_EQD_CFG.UNIT_50G) +
      (if relative then (s.pf c F.PN_EQD.EQD : Int) else 0)) ≤ 33554431) ∧
    (∃ (c : PonCh) (x : PloamIn) (relative : Bool) (eqd : Int) (s : State), s.live (0x08 + c.val) = true ∧ s.align c = 2
      ∧ (s.pn c).fsLost = false ∧ (x.to_.toNat = s.pf c F.PN_US_STAT.ONU_ID ∨ x.to_.toNat = 0x3FF) ∧ s.ploamMicOk c
      x.raw = true ∧ (s.pn c).marked x.span = false ∧ s.bit (pnB c) F.PN_OSP_CFG.PLOAM_COPY = false ∧ (s.act c = 4 ∨
      s.act c = 5) ∧ ((eqd * s.pf c (if s.xgs c then F.PN_EQD_CFG.UNIT_XGS else F.PN_EQD_CFG.UNIT_50G) + (if relative
      then (s.pf c F.PN_EQD.EQD : Int) else 0)) < 0 ∨ 33554431 < (eqd * s.pf c (if s.xgs c then F.PN_EQD_CFG.UNIT_XGS
      else F.PN_EQD_CFG.UNIT_50G) + (if relative then (s.pf c F.PN_EQD.EQD : Int) else 0)))) ∧
    (∃ (c : PonCh) (x : PloamIn) (s : State), s.live (0x08 + c.val) = true ∧ s.align c = 2 ∧ (s.pn c).fsLost = false ∧
      (x.to_.toNat = s.pf c F.PN_US_STAT.ONU_ID ∨ x.to_.toNat = 0x3FF) ∧ s.ploamMicOk c x.raw = true ∧ (s.pn c).marked
      x.span = false ∧ s.bit (pnB c) F.PN_OSP_CFG.PLOAM_COPY = false ∧ (s.act c = 4 ∨ s.act c = 5) ∧ s.tlr.stripes = []
      ∧ s.servoSrc ≠ c + 1 ∧ (s.vlt.waits = [] ∧ ∀ n ∈ (s.pn c).filled, s.keyHolders n = [])) ∧
    (∃ (c : PonCh) (x : PloamIn) (sn : BitVec 64) (s : State), s.live (0x08 + c.val) = true ∧ s.align c = 2 ∧ (s.pn
      c).fsLost = false ∧ (x.to_.toNat = s.pf c F.PN_US_STAT.ONU_ID ∨ x.to_.toNat = 0x3FF) ∧ s.ploamMicOk c x.raw = true
      ∧ (s.pn c).marked x.span = false ∧ s.bit (pnB c) F.PN_OSP_CFG.PLOAM_COPY = false ∧ 2 ≤ s.act c ∧ s.act c ≤ 6 ∧
      sn.toNat = s.serialNat c ∧ s.tlr.stripes = [] ∧ s.servoSrc ≠ c + 1 ∧ (s.vlt.waits = [] ∧ ∀ n ∈ (s.pn c).filled,
      s.keyHolders n = [])) ∧
    (∃ (c : PonCh) (x : PloamIn) (all : Bool) (sn : BitVec 64) (s : State), s.live (0x08 + c.val) = true ∧ s.align c = 2
      ∧ (s.pn c).fsLost = false ∧ (x.to_.toNat = s.pf c F.PN_US_STAT.ONU_ID ∨ x.to_.toNat = 0x3FF) ∧ s.ploamMicOk c
      x.raw = true ∧ (s.pn c).marked x.span = false ∧ s.bit (pnB c) F.PN_OSP_CFG.PLOAM_COPY = false ∧ s.act c = 7 ∧ (all
      || decide (sn.toNat = s.serialNat c)) = true ∧ 2 ≤ s.svc c) :=
  ⟨⟨0, wActivationMessages0_x, 3, 0, true, 0xFFF, 3, wActivationMessages0, by decide +kernel⟩,
   ⟨1, wActivationMessages1_x, 0, 0, false, 0, 0, wActivationMessages1, by decide +kernel⟩,
   ⟨1, wActivationMessages2_x, 0, 3, false, 0, 0, wActivationMessages2, by decide +kernel⟩,
   ⟨0, wActivationMessages3_x, wActivationMessages3_sn, 1022, wActivationMessages3, by decide +kernel⟩,
   ⟨0, wActivationMessages4_x, true, 10, wActivationMessages4, by decide +kernel⟩,
   ⟨0, wActivationMessages5_x, false, 10, wActivationMessages5, by decide +kernel⟩,
   ⟨0, wActivationMessages6_x, false, (-1 : Int), wActivationMessages6, by decide +kernel⟩,
   ⟨1, wActivationMessages7_x, wActivationMessages7, by decide +kernel⟩,
   ⟨0, wActivationMessages8_x, wActivationMessages8_sn, wActivationMessages8, by decide +kernel⟩,
   ⟨1, wActivationMessages9_x, true, 7, wActivationMessages9, by decide +kernel⟩⟩

def wEngineClearsServiceDrainsSleepCycles0 : State :=
  { ((wS.setF (pnB 0) F.PN_US_STAT.ACT 4).startTimer (Tm.to1 0) 1000).setF timB F.TIM_SRC_CFG.SRC 0 with tlr := { wS.tlr with stripes := [] } }
def wEngineClearsServiceDrainsSleepCycles1 : State :=
  { ((wS.setF (pnB 1) F.PN_US_STAT.ACT 6).startTimer (Tm.to2 1) 1000).setF timB F.TIM_SRC_CFG.SRC 0 with tlr := { wS.tlr with stripes := [] } }
def wEngineClearsServiceDrainsSleepCycles2 : State :=
  { (wS.setF (pnB 0) F.PN_US_STAT.ACT (1 + 4 / 4 % 7)).setF timB F.TIM_SRC_CFG.SRC 0 with tlr := { wS.tlr with stripes := [] } }
def wEngineClearsServiceDrainsSleepCycles3 : State :=
  wS.setF (pnB 0) F.PN_SVC_CTRL.STATE 0
def wEngineClearsServiceDrainsSleepCycles4 : State :=
  { ((wS.setF (pnB 0) F.PN_US_STAT.ACT 5).setF (pnB 0) F.PN_US_STAT.PS 0).setF (pnB 0) F.PN_PS_CFG.ENABLE 1 with pon := ⟨{ wS.pon.a with sleepOn := false }, wS.pon.b⟩, timers := (wS.startTimer (Tm.ps 0) 1000).timers }
def wEngineClearsServiceDrainsSleepCycles5 : State :=
  ((wS.setF (pnB 1) F.PN_US_STAT.ACT 5).setF (pnB 1) F.PN_US_STAT.PS 2).startTimer (Tm.ps 1) 1000
def wEngineClearsServiceDrainsSleepCycles6 : State :=
  ((wS.setF (pnB 0) F.PN_US_STAT.ACT 5).setF (pnB 0) F.PN_US_STAT.PS 3).startTimer (Tm.ps 0) 1000
def wEngineClearsServiceDrainsSleepCycles7 : State :=
  (((wS.setF (pnB 0) F.PN_US_STAT.ACT 5).setF (pnB 0) F.PN_US_STAT.PS 3).setF (pnB 0) F.PN_PS_CTRL.AWAKE 1).startTimer (Tm.ps 0) 1000
def wEngineClearsServiceDrainsSleepCycles8 : State :=
  { (wS.setF (pnB 0) F.PN_US_STAT.ACT 5).setF (pnB 0) F.PN_SVC_CTRL.STATE 0 with tlr := { wS.tlr with stripes := [] } }
def wEngineClearsServiceDrainsSleepCycles9 : State :=
  ((wS.setF (pnB 1) F.PN_US_STAT.ACT 5).setF (pnB 1) F.PN_SVC_CTRL.WANT 1).setF (pnB 0) F.PN_SVC_CTRL.STATE 2
def wEngineClearsServiceDrainsSleepCycles10 : State :=
  (wS.setF (pnB 0) F.PN_US_STAT.ACT 5).setF (pnB 0) F.PN_SVC_CTRL.STATE 1
def wEngineClearsServiceDrainsSleepCycles11 : State :=
  ((wS.setF (pnB 1) F.PN_US_STAT.ACT 1).setF (pnB 1) F.PN_SVC_CTRL.STATE 2).setF timB F.TIM_SRC_CFG.SRC 0
def wEngineClearsServiceDrainsSleepCycles12 : State :=
  { wS.setF (pnB 0) F.PN_SVC_CTRL.STATE 1 with bc := ⟨BcState.reset, BcState.reset⟩, pon := ⟨PonState.reset, wS.pon.b⟩ }
def wEngineClearsServiceDrainsSleepCycles13 : State :=
  (wS.setF (pnB 1) F.PN_SVC_CTRL.STATE 1).startTimer (Tm.drainTo 1) 1000

/-- States and operands that meet the hypotheses of each clause of Obligations.EngineClearsServiceDrainsSleepCycles. -/
theorem wit_EngineClearsServiceDrainsSleepCycles :
    (∃ (c : PonCh) (s : State), s.live (0x08 + c.val) = true ∧ s.timerOn (Tm.to1 c) = true ∧ s.act c = 4 ∧ s.tlr.stripes
      = [] ∧ s.servoSrc ≠ c + 1 ∧ (s.vlt.waits = [] ∧ ∀ n ∈ (s.pn c).filled, s.keyHolders n = [])) ∧
    (∃ (c : PonCh) (s : State), s.live (0x08 + c.val) = true ∧ s.timerOn (Tm.to2 c) = true ∧ s.act c = 6 ∧ s.tlr.stripes
      = [] ∧ s.servoSrc ≠ c + 1 ∧ (s.vlt.waits = [] ∧ ∀ n ∈ (s.pn c).filled, s.keyHolders n = [])) ∧
    (∃ (m : Master) (c : PonCh) (s : State), s.reaches m (pnB c + 0x10C) = true ∧ s.beforePon = false ∧ s.tlr.stripes =
      [] ∧ s.servoSrc ≠ c + 1 ∧ (s.vlt.waits = [] ∧ ∀ n ∈ (s.pn c).filled, s.keyHolders n = [])) ∧
    (∃ (m : Master) (c : PonCh) (v : Bool) (s : State), s.reaches m (pnB c + 0x10C) = true ∧ s.svc c = 0) ∧
    (∃ (c : PonCh) (s : State), s.live (0x08 + c.val) = true ∧ s.timerOn (Tm.ps c) = true ∧ s.ps c = 0 ∧ s.act c = 5 ∧
      s.bit (pnB c) F.PN_PS_CFG.ENABLE = true ∧ (s.pn c).sleepOn = false) ∧
    (∃ (c : PonCh) (s : State), s.live (0x08 + c.val) = true ∧ s.timerOn (Tm.ps c) = true ∧ s.ps c = 2 ∧ s.act c = 5 ∧
      s.lwi c = false) ∧
    (∃ (c : PonCh) (s : State), s.live (0x08 + c.val) = true ∧ s.timerOn (Tm.ps c) = true ∧ s.ps c = 3 ∧ s.act c = 5 ∧
      s.lwi c = false) ∧
    (∃ (c : PonCh) (s : State), s.live (0x08 + c.val) = true ∧ s.timerOn (Tm.ps c) = true ∧ s.ps c = 3 ∧ s.act c = 5 ∧
      s.lwi c = true) ∧
    (∃ (m : Master) (c : PonCh) (force : Bool) (s : State), s.reaches m (pnB c + 0x1A0) = true ∧ s.beforePon = false ∧
      s.svc c = 0 ∧ (s.svc (1 - c.val) = 0 ∨ force = true) ∧ s.tlr.stripes = []) ∧
    (∃ (m : Master) (c : PonCh) (s : State), s.reaches m (pnB c + 0x1A0) = true ∧ s.beforePon = false ∧ s.pf c
      F.PN_SVC_CTRL.WANT = 1 ∧ s.svc (1 - c.val) ≠ 0) ∧
    (∃ (m : Master) (c : PonCh) (force : Bool) (s : State), s.reaches m (pnB c + 0x1A0) = true ∧ s.beforePon = false ∧
      s.svc c = 1) ∧
    (∃ (m : Master) (c : PonCh) (force : Bool) (s : State), s.reaches m (pnB c + 0x1A0) = true ∧ s.beforePon = false ∧
      s.svc c = 2 ∧ s.servoSrc ≠ c + 1 ∧ (s.vlt.waits = [] ∧ ∀ n ∈ (s.pn c).filled, s.keyHolders n = []) ∧ s.prbsV (48 +
      c) F.TQ_PRBS_CTRL.CHK_EN = 0 ∧ s.prbsV (48 + c) F.TQ_PRBS_CTRL.GEN_EN = 0 ∧ s.prbsV (48 + c) F.TQ_PRBS_CTRL.BEN_ON
      = 0) ∧
    (∃ (c : PonCh) (s : State), s.live (0x08 + c.val) = true ∧ s.svc c = 1 ∧ s.tillSdus c = [] ∧ (s.pn c).bursts = []) ∧
    (∃ (c : PonCh) (s : State), s.live (0x08 + c.val) = true ∧ s.timerOn (Tm.drainTo c) = true ∧ s.svc c = 1) :=
  ⟨⟨0, wEngineClearsServiceDrainsSleepCycles0, by decide +kernel⟩,
   ⟨1, wEngineClearsServiceDrainsSleepCycles1, by decide +kernel⟩,
   ⟨.host, 0, wEngineClearsServiceDrainsSleepCycles2, by decide +kernel⟩,
   ⟨.host, 0, true, wEngineClearsServiceDrainsSleepCycles3, by decide +kernel⟩,
   ⟨0, wEngineClearsServiceDrainsSleepCycles4, by decide +kernel⟩,
   ⟨1, wEngineClearsServiceDrainsSleepCycles5, by decide +kernel⟩,
   ⟨0, wEngineClearsServiceDrainsSleepCycles6, by decide +kernel⟩,
   ⟨0, wEngineClearsServiceDrainsSleepCycles7, by decide +kernel⟩,
   ⟨.host, 0, true, wEngineClearsServiceDrainsSleepCycles8, by decide +kernel⟩,
   ⟨.host, 1, wEngineClearsServiceDrainsSleepCycles9, by decide +kernel⟩,
   ⟨.host, 0, false, wEngineClearsServiceDrainsSleepCycles10, by decide +kernel⟩,
   ⟨.host, 1, false, wEngineClearsServiceDrainsSleepCycles11, by decide +kernel⟩,
   ⟨0, wEngineClearsServiceDrainsSleepCycles12, by decide +kernel⟩,
   ⟨1, wEngineClearsServiceDrainsSleepCycles13, by decide +kernel⟩⟩

def wPloamAnswersAndAllocations0 : State :=
  (wS.setF (pnB 0) F.PN_RX_STAT.STATE 2).setReg (pnB 0 + 0x120) 5
def wPloamAnswersAndAllocations0_x : PloamIn :=
  (fun (s : State) (c : PonCh) => wPl s c false) wPloamAnswersAndAllocations0 0
def wPloamAnswersAndAllocations1 : State :=
  { wS.setF (pnB 0) F.PN_RX_STAT.STATE 2 with pon := ⟨PonState.reset, wS.pon.b⟩ }
def wPloamAnswersAndAllocations1_x : PloamIn :=
  (fun (s : State) (c : PonCh) => wPl s c true) wPloamAnswersAndAllocations1 0
def wPloamAnswersAndAllocations1_i : Nat :=
  (fun (s : State) (c : PonCh) => (s.freeAlloc c).getD 0) wPloamAnswersAndAllocations1 0
def wPloamAnswersAndAllocations2 : State :=
  { wS.setF (pnB 0) F.PN_RX_STAT.STATE 2 with pon := ⟨{ PonState.reset with allocs := [(3, some (1, 5))] }, wS.pon.b⟩ }
def wPloamAnswersAndAllocations2_x : PloamIn :=
  (fun (s : State) (c : PonCh) => wPl s c false) wPloamAnswersAndAllocations2 0
def wPloamAnswersAndAllocations2_i : Nat :=
  (fun (s : State) (c : PonCh) (id : BitVec 14) => (s.allocIx c id.toNat).getD 0) wPloamAnswersAndAllocations2 0 5
def wPloamAnswersAndAllocations3 : State :=
  { ((wS.setF (pnB 0) F.PN_RX_STAT.STATE 2).setF (pnB 0) F.PN_KEY_CFG.KEK_SLOT 900).setF vltB F.VLT_STAT.MINT 0 with pon := ⟨PonState.reset, wS.pon.b⟩, vlt := VltState.reset, slots := (SMap.set (fun _ => none) wS.slots 900 (some ⟨1, 1, 5, 0, false⟩)) }
def wPloamAnswersAndAllocations3_x : PloamIn :=
  (fun (s : State) (c : PonCh) => wPl s c false) wPloamAnswersAndAllocations3 0
def wPloamAnswersAndAllocations3_kek : KeySlot :=
  (fun (s : State) (c : PonCh) => (s.slot (s.pf c F.PN_KEY_CFG.KEK_SLOT)).getD ⟨1, 1, 5, 0, false⟩) wPloamAnswersAndAllocations3 0
def wPloamAnswersAndAllocations4 : State :=
  { ((wS.setF (pnB 1) F.PN_RX_STAT.STATE 2).setF (pnB 1) F.PN_KEY_CFG.KEK_SLOT 901).setF vltB F.VLT_STAT.MINT 0 with pon := ⟨wS.pon.a, PonState.reset⟩, vlt := VltState.reset, slots := (SMap.set (fun _ => none) wS.slots 901 none) }
def wPloamAnswersAndAllocations4_x : PloamIn :=
  (fun (s : State) (c : PonCh) => wPl s c false) wPloamAnswersAndAllocations4 1
def wPloamAnswersAndAllocations5 : State :=
  wS.setF (pnB 0) F.PN_RX_STAT.STATE 2
def wPloamAnswersAndAllocations5_x : PloamIn :=
  (fun (s : State) (c : PonCh) => wPl s c false) wPloamAnswersAndAllocations5 0
def wPloamAnswersAndAllocations6 : State :=
  ((((wS.setF (pnB 0) F.PN_RX_STAT.STATE 2).setF (pnB 0) F.PN_US_STAT.ACT 5).setF (pnB 0) F.PN_US_STAT.PS 0).setF (pnB 0) F.PN_PS_CFG.ENABLE 1).startTimer (Tm.ps 0) 1000
def wPloamAnswersAndAllocations6_x : PloamIn :=
  (fun (s : State) (c : PonCh) => wPl s c false) wPloamAnswersAndAllocations6 0
def wPloamAnswersAndAllocations7 : State :=
  (((wS.setF (pnB 1) F.PN_RX_STAT.STATE 2).setF (pnB 1) F.PN_US_STAT.ACT 5).setF (pnB 1) F.PN_US_STAT.PS 1).setF (pnB 1) F.PN_PS_CFG.ENABLE 1
def wPloamAnswersAndAllocations7_x : PloamIn :=
  (fun (s : State) (c : PonCh) => wPl s c false) wPloamAnswersAndAllocations7 1
def wPloamAnswersAndAllocations8 : State :=
  (wS.setF (pnB 1) F.PN_RX_STAT.STATE 2).setF (pnB 1) F.PN_PS_CFG.ENABLE 0
def wPloamAnswersAndAllocations8_x : PloamIn :=
  (fun (s : State) (c : PonCh) => wPl s c false) wPloamAnswersAndAllocations8 1
def wPloamAnswersAndAllocations9 : State :=
  { (wS.setF (pnB 1) F.PN_RX_STAT.STATE 2).setF stwB F.STW_STAT.STATE 1 with pon := ⟨PonState.reset, PonState.reset⟩ }
def wPloamAnswersAndAllocations9_x : PloamIn :=
  (fun (s : State) (c : PonCh) => wPl s c false) wPloamAnswersAndAllocations9 1
def wPloamAnswersAndAllocations10 : State :=
  { (wS.setF (pnB 0) F.PN_RX_STAT.STATE 2).setF stwB F.STW_STAT.STATE 1 with pon := ⟨PonState.reset, PonState.reset⟩ }
def wPloamAnswersAndAllocations10_x : PloamIn :=
  (fun (s : State) (c : PonCh) => wPl s c false) wPloamAnswersAndAllocations10 0
def wPloamAnswersAndAllocations11 : State :=
  { (wS.setF (pnB 0) F.PN_RX_STAT.STATE 2).setF stwB F.STW_STAT.STATE 2 with pon := ⟨PonState.reset, PonState.reset⟩ }
def wPloamAnswersAndAllocations11_x : PloamIn :=
  (fun (s : State) (c : PonCh) => wPl s c false) wPloamAnswersAndAllocations11 0
def wPloamAnswersAndAllocations12 : State :=
  wS.setF (pnB 0) F.PN_RX_STAT.STATE 2
def wPloamAnswersAndAllocations12_x : PloamIn :=
  (fun (s : State) (c : PonCh) => wPl s c false) wPloamAnswersAndAllocations12 0
def wPloamAnswersAndAllocations13 : State :=
  wS.setF (pnB 0) F.PN_RX_STAT.STATE 2
def wPloamAnswersAndAllocations13_x : PloamIn :=
  (fun (s : State) (c : PonCh) => wPl s c true) wPloamAnswersAndAllocations13 0

/-- States and operands that meet the hypotheses of each clause of Obligations.PloamAnswersAndAllocations. -/
theorem wit_PloamAnswersAndAllocations :
    (∃ (c : PonCh) (x : PloamIn) (s : State), s.live (0x08 + c.val) = true ∧ s.align c = 2 ∧ (s.pn c).fsLost = false ∧
      (x.to_.toNat = s.pf c F.PN_US_STAT.ONU_ID ∨ x.to_.toNat = 0x3FF) ∧ s.ploamMicOk c x.raw = true ∧ (s.pn c).marked
      x.span = false ∧ s.bit (pnB c) F.PN_OSP_CFG.PLOAM_COPY = false ∧ ((s.pn c).regWarned = true ∨ leNat (s.regId c) ≠
      0)) ∧
    (∃ (c : PonCh) (x : PloamIn) (id : BitVec 14) (i : Nat) (s : State), s.live (0x08 + c.val) = true ∧ s.align c = 2 ∧
      (s.pn c).fsLost = false ∧ (x.to_.toNat = s.pf c F.PN_US_STAT.ONU_ID ∨ x.to_.toNat = 0x3FF) ∧ s.ploamMicOk c x.raw
      = true ∧ (s.pn c).marked x.span = false ∧ s.bit (pnB c) F.PN_OSP_CFG.PLOAM_COPY = false ∧ s.allocIx c id.toNat =
      none ∧ s.freeAlloc c = some i ∧ x.ack = true ∧ (s.pn c).ploamQ.length < 16) ∧
    (∃ (c : PonCh) (x : PloamIn) (id : BitVec 14) (assign : Bool) (i : Nat) (s : State), s.live (0x08 + c.val) = true ∧
      s.align c = 2 ∧ (s.pn c).fsLost = false ∧ (x.to_.toNat = s.pf c F.PN_US_STAT.ONU_ID ∨ x.to_.toNat = 0x3FF) ∧
      s.ploamMicOk c x.raw = true ∧ (s.pn c).marked x.span = false ∧ s.bit (pnB c) F.PN_OSP_CFG.PLOAM_COPY = false ∧
      s.allocIx c id.toNat = some i ∧ x.ack = false ∧ (assign = true → (s.pn c).ploamQ.length < 16)) ∧
    (∃ (c : PonCh) (x : PloamIn) (index : BitVec 2) (kek : KeySlot) (s : State), s.live (0x08 + c.val) = true ∧ s.align
      c = 2 ∧ (s.pn c).fsLost = false ∧ (x.to_.toNat = s.pf c F.PN_US_STAT.ONU_ID ∨ x.to_.toNat = 0x3FF) ∧ s.ploamMicOk
      c x.raw = true ∧ (s.pn c).marked x.span = false ∧ s.bit (pnB c) F.PN_OSP_CFG.PLOAM_COPY = false ∧ (index = 1 ∨
      index = 2) ∧ s.fld vltB F.VLT_STAT.MINT = 0 ∧ (s.pn c).ploamQ.length < 16 ∧ ((s.pf c F.PN_KEY_CFG.SLOT_BASE +
      index.toNat - 1) % 1024) ≠ s.pf c F.PN_KEY_CFG.KEK_SLOT ∧ s.slot (s.pf c F.PN_KEY_CFG.KEK_SLOT) = some kek ∧
      s.vlt.waits = [] ∧ s.keyHolders ((s.pf c F.PN_KEY_CFG.SLOT_BASE + index.toNat - 1) % 1024) = []) ∧
    (∃ (c : PonCh) (x : PloamIn) (index : BitVec 2) (s : State), s.live (0x08 + c.val) = true ∧ s.align c = 2 ∧ (s.pn
      c).fsLost = false ∧ (x.to_.toNat = s.pf c F.PN_US_STAT.ONU_ID ∨ x.to_.toNat = 0x3FF) ∧ s.ploamMicOk c x.raw = true
      ∧ (s.pn c).marked x.span = false ∧ s.bit (pnB c) F.PN_OSP_CFG.PLOAM_COPY = false ∧ (index = 1 ∨ index = 2) ∧ s.fld
      vltB F.VLT_STAT.MINT = 0 ∧ ((s.pf c F.PN_KEY_CFG.SLOT_BASE + index.toNat - 1) % 1024) ≠ s.pf c
      F.PN_KEY_CFG.KEK_SLOT ∧ s.slot (s.pf c F.PN_KEY_CFG.KEK_SLOT) = none ∧ s.vlt.waits = [] ∧ s.keyHolders ((s.pf c
      F.PN_KEY_CFG.SLOT_BASE + index.toNat - 1) % 1024) = []) ∧
    (∃ (c : PonCh) (x : PloamIn) (index : BitVec 2) (s : State), s.live (0x08 + c.val) = true ∧ s.align c = 2 ∧ (s.pn
      c).fsLost = false ∧ (x.to_.toNat = s.pf c F.PN_US_STAT.ONU_ID ∨ x.to_.toNat = 0x3FF) ∧ s.ploamMicOk c x.raw = true
      ∧ (s.pn c).marked x.span = false ∧ s.bit (pnB c) F.PN_OSP_CFG.PLOAM_COPY = false ∧ (index = 0 ∨ index = 3)) ∧
    (∃ (c : PonCh) (x : PloamIn) (on : Bool) (s : State), s.live (0x08 + c.val) = true ∧ s.align c = 2 ∧ (s.pn c).fsLost
      = false ∧ (x.to_.toNat = s.pf c F.PN_US_STAT.ONU_ID ∨ x.to_.toNat = 0x3FF) ∧ s.ploamMicOk c x.raw = true ∧ (s.pn
      c).marked x.span = false ∧ s.bit (pnB c) F.PN_OSP_CFG.PLOAM_COPY = false ∧ x.ack = false ∧ s.bit (pnB c)
      F.PN_PS_CFG.ENABLE = true ∧ s.act c = 5 ∧ s.ps c = 0 ∧ s.timerOn (Tm.ps c) = true) ∧
    (∃ (c : PonCh) (x : PloamIn) (s : State), s.live (0x08 + c.val) = true ∧ s.align c = 2 ∧ (s.pn c).fsLost = false ∧
      (x.to_.toNat = s.pf c F.PN_US_STAT.ONU_ID ∨ x.to_.toNat = 0x3FF) ∧ s.ploamMicOk c x.raw = true ∧ (s.pn c).marked
      x.span = false ∧ s.bit (pnB c) F.PN_OSP_CFG.PLOAM_COPY = false ∧ x.ack = false ∧ s.bit (pnB c) F.PN_PS_CFG.ENABLE
      = true ∧ s.act c = 5 ∧ s.ps c = 1 ∧ s.lwi c = false) ∧
    (∃ (c : PonCh) (x : PloamIn) (on : Bool) (s : State), s.live (0x08 + c.val) = true ∧ s.align c = 2 ∧ (s.pn c).fsLost
      = false ∧ (x.to_.toNat = s.pf c F.PN_US_STAT.ONU_ID ∨ x.to_.toNat = 0x3FF) ∧ s.ploamMicOk c x.raw = true ∧ (s.pn
      c).marked x.span = false ∧ s.bit (pnB c) F.PN_OSP_CFG.PLOAM_COPY = false ∧ s.bit (pnB c) F.PN_PS_CFG.ENABLE =
      false) ∧
    (∃ (c : PonCh) (x : PloamIn) (s : State), s.live (0x08 + c.val) = true ∧ s.align c = 2 ∧ (s.pn c).fsLost = false ∧
      (x.to_.toNat = s.pf c F.PN_US_STAT.ONU_ID ∨ x.to_.toNat = 0x3FF) ∧ s.ploamMicOk c x.raw = true ∧ (s.pn c).marked
      x.span = false ∧ s.bit (pnB c) F.PN_OSP_CFG.PLOAM_COPY = false ∧ s.fld stwB F.STW_STAT.STATE = 1 ∧ (s.pn
      c).ploamQ.length < 16) ∧
    (∃ (c : PonCh) (x : PloamIn) (s : State), s.live (0x08 + c.val) = true ∧ s.align c = 2 ∧ (s.pn c).fsLost = false ∧
      (x.to_.toNat = s.pf c F.PN_US_STAT.ONU_ID ∨ x.to_.toNat = 0x3FF) ∧ s.ploamMicOk c x.raw = true ∧ (s.pn c).marked
      x.span = false ∧ s.bit (pnB c) F.PN_OSP_CFG.PLOAM_COPY = false ∧ s.fld stwB F.STW_STAT.STATE = 1 ∧ (s.pn
      c).ploamQ.length < 16) ∧
    (∃ (c : PonCh) (x : PloamIn) (s : State), s.live (0x08 + c.val) = true ∧ s.align c = 2 ∧ (s.pn c).fsLost = false ∧
      (x.to_.toNat = s.pf c F.PN_US_STAT.ONU_ID ∨ x.to_.toNat = 0x3FF) ∧ s.ploamMicOk c x.raw = true ∧ (s.pn c).marked
      x.span = false ∧ s.bit (pnB c) F.PN_OSP_CFG.PLOAM_COPY = false ∧ s.fld stwB F.STW_STAT.STATE = 2 ∧ (s.pn
      c).stwPloam.length < 16) ∧
    (∃ (c : PonCh) (x : PloamIn) (s : State), s.live (0x08 + c.val) = true ∧ s.align c = 2 ∧ (s.pn c).fsLost = false ∧
      (x.to_.toNat = s.pf c F.PN_US_STAT.ONU_ID ∨ x.to_.toNat = 0x3FF) ∧ s.ploamMicOk c x.raw = true ∧ (s.pn c).marked
      x.span = false ∧ s.bit (pnB c) F.PN_OSP_CFG.PLOAM_COPY = false) ∧
    (∃ (c : PonCh) (x : PloamIn) (s : State), s.live (0x08 + c.val) = true ∧ s.align c = 2 ∧ (s.pn c).fsLost = false ∧
      (x.to_.toNat = s.pf c F.PN_US_STAT.ONU_ID ∨ x.to_.toNat = 0x3FF) ∧ s.ploamMicOk c x.raw = true ∧ (s.pn c).marked
      x.span = false ∧ s.bit (pnB c) F.PN_OSP_CFG.PLOAM_COPY = false) ∧
    (∃ (m : Master) (c : PonCh) (i : BitVec 7) (s : State), s.reaches m (pnB c + 0x180) = true ∧ s.bit (pnB c)
      F.PN_ALLOC_CMD.BUSY = false) ∧
    (∃ (m : Master) (c : PonCh) (i : BitVec 7) (s : State), s.reaches m (pnB c + 0x180) = true ∧ s.bit (pnB c)
      F.PN_ALLOC_CMD.BUSY = false) ∧
    (∃ (m : Master) (c : PonCh) (i : BitVec 7) (s : State), s.reaches m (pnB c + 0x180) = true) ∧
    (∃ (c : PonCh) (s : State), s.live (0x08 + c.val) = true) :=
  ⟨⟨0, wPloamAnswersAndAllocations0_x, wPloamAnswersAndAllocations0, by decide +kernel⟩,
   ⟨0, wPloamAnswersAndAllocations1_x, 1105, wPloamAnswersAndAllocations1_i, wPloamAnswersAndAllocations1,
     by decide +kernel⟩,
   ⟨0, wPloamAnswersAndAllocations2_x, 5, false, wPloamAnswersAndAllocations2_i, wPloamAnswersAndAllocations2,
     by decide +kernel⟩,
   ⟨0, wPloamAnswersAndAllocations3_x, 2, wPloamAnswersAndAllocations3_kek, wPloamAnswersAndAllocations3,
     by decide +kernel⟩,
   ⟨1, wPloamAnswersAndAllocations4_x, 1, wPloamAnswersAndAllocations4, by decide +kernel⟩,
   ⟨0, wPloamAnswersAndAllocations5_x, 3, wPloamAnswersAndAllocations5, by decide +kernel⟩,
   ⟨0, wPloamAnswersAndAllocations6_x, true, wPloamAnswersAndAllocations6, by decide +kernel⟩,
   ⟨1, wPloamAnswersAndAllocations7_x, wPloamAnswersAndAllocations7, by decide +kernel⟩,
   ⟨1, wPloamAnswersAndAllocations8_x, true, wPloamAnswersAndAllocations8, by decide +kernel⟩,
   ⟨1, wPloamAnswersAndAllocations9_x, wPloamAnswersAndAllocations9, by decide +kernel⟩,
   ⟨0, wPloamAnswersAndAllocations10_x, wPloamAnswersAndAllocations10, by decide +kernel⟩,
   ⟨0, wPloamAnswersAndAllocations11_x, wPloamAnswersAndAllocations11, by decide +kernel⟩,
   ⟨0, wPloamAnswersAndAllocations12_x, wPloamAnswersAndAllocations12, by decide +kernel⟩,
   ⟨0, wPloamAnswersAndAllocations13_x, wPloamAnswersAndAllocations13, by decide +kernel⟩,
   ⟨.host, 0, 127, wS, by decide +kernel⟩,
   ⟨.host, 1, 0, wS, by decide +kernel⟩,
   ⟨.host, 1, 3, wS, by decide +kernel⟩,
   ⟨0, wS, by decide +kernel⟩⟩

def wReceiverAlignsAndDecodes0 : State :=
  ((wS.setF (pnB 0) F.PN_RX_STAT.LOS 1).setF (pnB 0) F.PN_RX_STAT.CDR_LOCK 1).setF (pnB 0) F.PN_RX_CTRL.LOS_POL 0
def wReceiverAlignsAndDecodes1 : State :=
  ((wS.setF (pnB 1) F.PN_RX_STAT.LOS 0).setF (pnB 1) F.PN_RX_STAT.STATE 1).setF (pnB 1) F.PN_RX_CTRL.LOS_POL 0
def wReceiverAlignsAndDecodes2 : State :=
  { ((((wS.setF (pnB 1) F.PN_RX_STAT.LOS 0).setF (pnB 1) F.PN_RX_STAT.STATE 2).setF (pnB 1) F.PN_RX_CTRL.LOS_POL 0).setF (pnB 1) F.PN_US_STAT.ACT 5).setF timB F.TIM_SRC_CFG.SRC 0 with pon := ⟨wS.pon.a, { wS.pon.b with reasm := [] }⟩ }
def wReceiverAlignsAndDecodes3 : State :=
  { (wS.setF (pnB 0) F.PN_RX_STAT.LOS 1).setF (pnB 0) F.PN_RX_CTRL.LOS_POL 0 with pon := ⟨{ wS.pon.a with rxlos := false }, wS.pon.b⟩ }
def wReceiverAlignsAndDecodes4 : State :=
  ((((wS.setF (pnB 0) F.PN_RX_CTRL.ENABLE 0).setF (pnB 0) F.PN_RX_STAT.STATE 3).setF (pnB 0) F.PN_US_STAT.ACT 1).setF (pnB 0) F.PN_RX_CTRL.MODE 0).setF (pnB 0) F.PN_RX_STAT.LOS 1 |>.setF (pnB 0) F.PN_RX_STAT.CDR_LOCK 0
def wReceiverAlignsAndDecodes5 : State :=
  ((((wS.setF (pnB 1) F.PN_RX_CTRL.ENABLE 1).setF (pnB 1) F.PN_RX_STAT.STATE (4 / 4 % 2)).setF (pnB 1) F.PN_US_STAT.ACT 1).setF (pnB 1) F.PN_RX_CTRL.MODE 0).setF (pnB 1) F.PN_RX_STAT.LOS 1 |>.setF (pnB 1) F.PN_RX_STAT.CDR_LOCK 0
def wReceiverAlignsAndDecodes6 : State :=
  (wS.setF (pnB 1) F.PN_RX_CTRL.ENABLE 1).setF (pnB 1) F.PN_RX_CTRL.MODE 0
def wReceiverAlignsAndDecodes7 : State :=
  { (((wS.setF (pnB 0) F.PN_RX_STAT.STATE (4 / 4 % 2)).setF (pnB 0) F.PN_US_STAT.ACT 1).setF (pnB 0) F.PN_RX_STAT.LOS 0) with pon := ⟨PonState.reset, wS.pon.b⟩ }
def wReceiverAlignsAndDecodes8 : State :=
  { (((wS.setF (pnB 0) F.PN_RX_STAT.STATE (4 / 4 % 2)).setF (pnB 0) F.PN_US_STAT.ACT 1).setF (pnB 0) F.PN_RX_STAT.LOS 0) with pon := ⟨{ PonState.reset with cands := [⟨1, 1, 1⟩, ⟨2, 1, 1⟩, ⟨3, 1, 1⟩, ⟨4, 1, 1⟩] }, wS.pon.b⟩ }
def wReceiverAlignsAndDecodes9 : State :=
  { (((wS.setF (pnB 0) F.PN_RX_STAT.STATE (4 / 4 % 2)).setF (pnB 0) F.PN_US_STAT.ACT 1).setF (pnB 0) F.PN_RX_STAT.LOS 0).setF (pnB 0) F.PN_ALIGN_CFG.N 4 with pon := ⟨{ PonState.reset with cands := [⟨1, 1, 1⟩, ⟨2, 1, 7⟩] }, wS.pon.b⟩ }
def wReceiverAlignsAndDecodes9_k : Cand :=
  (fun (s : State) (c : PonCh) (x : PsyncIn) => ((s.pn c).cands.find? fun k => decide (k.pos = x.pos)).getD ⟨0, 0, 0⟩) wReceiverAlignsAndDecodes9 0 ((⟨2, 0, true, 7, ⟨0, 0⟩⟩) : PsyncIn)
def wReceiverAlignsAndDecodes10 : State :=
  { (((wS.setF (pnB 0) F.PN_RX_STAT.STATE (4 / 4 % 2)).setF (pnB 0) F.PN_US_STAT.ACT 1).setF (pnB 0) F.PN_RX_STAT.LOS 0).setF (pnB 0) F.PN_ALIGN_CFG.N 2 with pon := ⟨{ PonState.reset with cands := [⟨1, 1, 1⟩, ⟨2, 1, 7⟩] }, wS.pon.b⟩ }
def wReceiverAlignsAndDecodes10_k : Cand :=
  (fun (s : State) (c : PonCh) (x : PsyncIn) => ((s.pn c).cands.find? fun k => decide (k.pos = x.pos)).getD ⟨0, 0, 0⟩) wReceiverAlignsAndDecodes10 0 ((⟨2, 0, true, 7, ⟨0, 0⟩⟩) : PsyncIn)
def wReceiverAlignsAndDecodes11 : State :=
  { (((wS.setF (pnB 0) F.PN_RX_STAT.STATE (4 / 4 % 2)).setF (pnB 0) F.PN_US_STAT.ACT 1).setF (pnB 0) F.PN_RX_STAT.LOS 0) with pon := ⟨{ PonState.reset with cands := [⟨2, 1, 7⟩] }, wS.pon.b⟩ }
def wReceiverAlignsAndDecodes11_k : Cand :=
  (fun (s : State) (c : PonCh) (x : PsyncIn) => ((s.pn c).cands.find? fun k => decide (k.pos = x.pos)).getD ⟨0, 0, 0⟩) wReceiverAlignsAndDecodes11 0 ((⟨2, 0, true, 8, ⟨0, 0⟩⟩) : PsyncIn)
def wReceiverAlignsAndDecodes12 : State :=
  ((((wS.setF (pnB 0) F.PN_RX_STAT.STATE (4 / 4 % 2)).setF (pnB 0) F.PN_US_STAT.ACT 1).setF (pnB 0) F.PN_RX_STAT.LOS 0).setF (pnB 0) F.PN_RX_STAT.STATE 2).setF (pnB 0) F.PN_TOD_CTRL.ARM 0
def wReceiverAlignsAndDecodes12_x : PsyncIn :=
  (fun (s : State) => ⟨(s.pn 0).lockPos, 0, true, BitVec.ofNat 51 (s.sfcCur 0 + 1), ⟨0, 0⟩⟩) wReceiverAlignsAndDecodes12
def wReceiverAlignsAndDecodes13 : State :=
  ((((((((wS.setF (pnB 0) F.PN_RX_STAT.STATE (4 / 4 % 2)).setF (pnB 0) F.PN_US_STAT.ACT 1).setF (pnB 0) F.PN_RX_STAT.LOS 0).setF (pnB 0) F.PN_RX_STAT.STATE 2).setF (pnB 0) F.PN_TOD_CTRL.ARM 1).setF (pnB 0) F.PN_SFC_CUR_LO.SFC 3).setF (pnB 0) F.PN_SFC_CUR_HI.SFC 0).setPn 0 { wS.pon.a with todSfc := 4 }).setF (pnB 0) F.PN_TOD_CTRL.MISS 1
def wReceiverAlignsAndDecodes13_x : PsyncIn :=
  (fun (s : State) => ⟨(s.pn 0).lockPos, 0, true, BitVec.ofNat 51 (s.sfcCur 0 + 1), ⟨0, 0⟩⟩) wReceiverAlignsAndDecodes13
def wReceiverAlignsAndDecodes14 : State :=
  { ((((wS.setF (pnB 0) F.PN_RX_STAT.STATE (4 / 4 % 2)).setF (pnB 0) F.PN_US_STAT.ACT 1).setF (pnB 0) F.PN_RX_STAT.LOS 0).setF (pnB 0) F.PN_RX_STAT.STATE 2).setF (pnB 0) F.PN_TOD_CTRL.ARM 0 with pon := ⟨{ wS.pon.a with errs := 0 }, wS.pon.b⟩ }
def wReceiverAlignsAndDecodes14_x : PsyncIn :=
  (fun (s : State) => ⟨(s.pn 0).lockPos, 0, false, 0, ⟨0, 0⟩⟩) wReceiverAlignsAndDecodes14
def wReceiverAlignsAndDecodes15 : State :=
  wS.setF (pnB 0) F.PN_RX_STAT.STATE 2
def wReceiverAlignsAndDecodes15_x : FrameIn :=
  (fun (s : State) (c : PonCh) => ⟨BitVec.ofNat 51 (s.sfcCur c), [⟨some 0, 0⟩, ⟨some 3, 5⟩, ⟨none, 0⟩], true, ⟨0, 0⟩, ⟨0, 1⟩⟩) wReceiverAlignsAndDecodes15 0
def wReceiverAlignsAndDecodes16 : State :=
  wS.setF (pnB 0) F.PN_RX_STAT.STATE 2
def wReceiverAlignsAndDecodes16_x : FrameIn :=
  (fun (s : State) (c : PonCh) => ⟨BitVec.ofNat 51 (s.sfcCur c), [⟨some 0, 0⟩, ⟨some 3, 5⟩, ⟨none, 0⟩], false, ⟨0, 0⟩, ⟨0, 1⟩⟩) wReceiverAlignsAndDecodes16 0
def wReceiverAlignsAndDecodes17 : State :=
  { wS.setF (pnB 1) F.PN_RX_STAT.STATE 2 with pon := ⟨wS.pon.a, { wS.pon.b with winFrames := 70000, winBits := 4 }⟩ }
def wReceiverAlignsAndDecodes19 : State :=
  ((wS.setF (pnB 0) F.PN_RX_STAT.STATE 2).setF (pnB 0) F.PN_SFC_CUR_HI.SFC 5).setF (pnB 0) F.PN_TOD_SFC_LO.SFC_LO 4

/-- States and operands that meet the hypotheses of each clause of Obligations.ReceiverAlignsAndDecodes. -/
theorem wit_ReceiverAlignsAndDecodes :
    (∃ (c : PonCh) (level : Bool) (s : State), s.bit (pnB c) F.PN_RX_STAT.LOS ≠ (((level != s.bit (pnB c)
      F.PN_RX_CTRL.LOS_POL) || !s.bit (pnB c) F.PN_RX_STAT.CDR_LOCK)) ∧ ((((level != s.bit (pnB c) F.PN_RX_CTRL.LOS_POL)
      || !s.bit (pnB c) F.PN_RX_STAT.CDR_LOCK)) = false ∨ (s.align c ≠ 1 ∧ s.align c ≠ 2))) ∧
    (∃ (c : PonCh) (level : Bool) (s : State), s.bit (pnB c) F.PN_RX_STAT.LOS = false ∧ (level != s.bit (pnB c)
      F.PN_RX_CTRL.LOS_POL) = true ∧ s.align c = 1) ∧
    (∃ (c : PonCh) (level : Bool) (s : State), s.bit (pnB c) F.PN_RX_STAT.LOS = false ∧ (level != s.bit (pnB c)
      F.PN_RX_CTRL.LOS_POL) = true ∧ s.align c = 2 ∧ s.act c = 5 ∧ (s.pn c).reasm = [] ∧ s.bit (pnB c) F.PN_TOD_CTRL.ARM
      = false ∧ s.servoSrc ≠ c + 1) ∧
    (∃ (c : PonCh) (lock : Bool) (s : State), s.bit (pnB c) F.PN_RX_STAT.LOS ≠ ((((s.pn c).rxlos != s.bit (pnB c)
      F.PN_RX_CTRL.LOS_POL) || !lock)) ∧ (((((s.pn c).rxlos != s.bit (pnB c) F.PN_RX_CTRL.LOS_POL) || !lock)) = false ∨
      (s.align c ≠ 1 ∧ s.align c ≠ 2))) ∧
    (∃ (m : Master) (c : PonCh) (v : Word) (s : State), s.reaches m (pnB c) = true ∧ s.beforePon = false ∧ s.bit (pnB c)
      F.PN_RX_STAT.LOS = (((s.pn c).rxlos != s.bit (pnB c) F.PN_RX_CTRL.LOS_POL) || !s.bit (pnB c)
      F.PN_RX_STAT.CDR_LOCK) ∧ s.bit (pnB c) F.PN_RX_CTRL.ENABLE = false ∧ s.align c = 3 ∧ s.bit (pnB c)
      F.PN_PRBS_CTRL.CHK_EN = false ∧ F.PN_RX_CTRL.ENABLE.of v.toNat = 1 ∧ F.PN_RX_CTRL.MODE.of v.toNat = s.pf c
      F.PN_RX_CTRL.MODE ∧ F.PN_RX_CTRL.LOS_POL.of v.toNat = s.pf c F.PN_RX_CTRL.LOS_POL) ∧
    (∃ (m : Master) (c : PonCh) (v : Word) (s : State), s.reaches m (pnB c) = true ∧ s.beforePon = false ∧ s.bit (pnB c)
      F.PN_RX_STAT.LOS = (((s.pn c).rxlos != s.bit (pnB c) F.PN_RX_CTRL.LOS_POL) || !s.bit (pnB c)
      F.PN_RX_STAT.CDR_LOCK) ∧ s.bit (pnB c) F.PN_RX_CTRL.ENABLE = true ∧ s.align c < 2 ∧ s.bit (pnB c)
      F.PN_PRBS_CTRL.CHK_EN = false ∧ F.PN_RX_CTRL.ENABLE.of v.toNat = 0 ∧ F.PN_RX_CTRL.MODE.of v.toNat = s.pf c
      F.PN_RX_CTRL.MODE ∧ F.PN_RX_CTRL.LOS_POL.of v.toNat = s.pf c F.PN_RX_CTRL.LOS_POL) ∧
    (∃ (m : Master) (c : PonCh) (v : Word) (s : State), s.reaches m (pnB c) = true ∧ s.bit (pnB c) F.PN_RX_CTRL.ENABLE =
      true ∧ F.PN_RX_CTRL.MODE.of v.toNat ≠ s.pf c F.PN_RX_CTRL.MODE) ∧
    (∃ (c : PonCh) (x : PsyncIn) (s : State), s.live (0x08 + c.val) = true ∧ s.beforePon = false ∧ s.bit (pnB c)
      F.PN_RX_STAT.LOS = false ∧ s.align c < 2 ∧ ((s.pn c).cands.find? fun k => decide (k.pos = x.pos)) = none ∧ x.hecOk
      = true ∧ x.errs ≤ s.pf c F.PN_ALIGN_CFG.TOL ∧ (s.pn c).cands.length < 4 ∧ 1 < s.pf c F.PN_ALIGN_CFG.N) ∧
    (∃ (c : PonCh) (x : PsyncIn) (s : State), s.live (0x08 + c.val) = true ∧ s.beforePon = false ∧ s.bit (pnB c)
      F.PN_RX_STAT.LOS = false ∧ s.align c < 2 ∧ ((s.pn c).cands.find? fun k => decide (k.pos = x.pos)) = none ∧ x.hecOk
      = true ∧ x.errs ≤ s.pf c F.PN_ALIGN_CFG.TOL ∧ 4 ≤ (s.pn c).cands.length) ∧
    (∃ (c : PonCh) (x : PsyncIn) (k : Cand) (s : State), s.live (0x08 + c.val) = true ∧ s.beforePon = false ∧ s.bit (pnB
      c) F.PN_RX_STAT.LOS = false ∧ s.align c < 2 ∧ ((s.pn c).cands.find? fun k => decide (k.pos = x.pos)) = some k ∧
      x.hecOk = true ∧ x.errs ≤ s.pf c F.PN_ALIGN_CFG.TOL ∧ x.sfc.toNat = k.sfc ∧ k.count + 1 < max 1 (s.pf c
      F.PN_ALIGN_CFG.N)) ∧
    (∃ (c : PonCh) (x : PsyncIn) (k : Cand) (s : State), s.live (0x08 + c.val) = true ∧ s.beforePon = false ∧ s.bit (pnB
      c) F.PN_RX_STAT.LOS = false ∧ s.align c < 2 ∧ ((s.pn c).cands.find? fun k => decide (k.pos = x.pos)) = some k ∧
      x.hecOk = true ∧ x.errs ≤ s.pf c F.PN_ALIGN_CFG.TOL ∧ x.sfc.toNat = k.sfc ∧ max 1 (s.pf c F.PN_ALIGN_CFG.N) ≤
      k.count + 1 ∧ s.act c = 1) ∧
    (∃ (c : PonCh) (x : PsyncIn) (k : Cand) (s : State), s.live (0x08 + c.val) = true ∧ s.beforePon = false ∧ s.bit (pnB
      c) F.PN_RX_STAT.LOS = false ∧ s.align c < 2 ∧ ((s.pn c).cands.find? fun k => decide (k.pos = x.pos)) = some k ∧
      (x.hecOk = false ∨ s.pf c F.PN_ALIGN_CFG.TOL < x.errs ∨ x.sfc.toNat ≠ k.sfc)) ∧
    (∃ (c : PonCh) (x : PsyncIn) (s : State), s.live (0x08 + c.val) = true ∧ s.beforePon = false ∧ s.bit (pnB c)
      F.PN_RX_STAT.LOS = false ∧ s.align c = 2 ∧ x.pos = (s.pn c).lockPos ∧ x.hecOk = true ∧ x.errs ≤ s.pf c
      F.PN_ALIGN_CFG.TOL ∧ x.sfc.toNat = ((s.sfcCur c + 1) % 2 ^ 51) ∧ s.bit (pnB c) F.PN_TOD_CTRL.ARM = false) ∧
    (∃ (c : PonCh) (x : PsyncIn) (s : State), s.live (0x08 + c.val) = true ∧ s.beforePon = false ∧ s.bit (pnB c)
      F.PN_RX_STAT.LOS = false ∧ s.align c = 2 ∧ x.pos = (s.pn c).lockPos ∧ x.hecOk = true ∧ x.errs ≤ s.pf c
      F.PN_ALIGN_CFG.TOL ∧ x.sfc.toNat = ((s.sfcCur c + 1) % 2 ^ 51) ∧ s.bit (pnB c) F.PN_TOD_CTRL.ARM = true ∧
      s.todTarget c = ((s.sfcCur c + 1) % 2 ^ 51) ∧ s.stampOff (0x08 + c.val) = false ∧ (s.stw.todArm.get (chIx c) =
      false ∨ s.fld stwB F.STW_STAT.STATE ≠ 1)) ∧
    (∃ (c : PonCh) (x : PsyncIn) (s : State), s.live (0x08 + c.val) = true ∧ s.beforePon = false ∧ s.bit (pnB c)
      F.PN_RX_STAT.LOS = false ∧ s.align c = 2 ∧ x.pos = (s.pn c).lockPos ∧ (((x.hecOk && decide (x.errs ≤ s.pf c
      F.PN_ALIGN_CFG.TOL))) = false ∨ x.sfc.toNat ≠ ((s.sfcCur c + 1) % 2 ^ 51)) ∧ (s.pn c).errs + 1 < s.pf c
      F.PN_ALIGN_CFG.M ∧ s.bit (pnB c) F.PN_TOD_CTRL.ARM = false) ∧
    (∃ (c : PonCh) (x : FrameIn) (s : State), s.live (0x08 + c.val) = true ∧ s.align c = 2 ∧ x.hdrOk = true ∧ (({ s.pn c
      with marks := (s.badWords c x) } : PonState)).marked x.hdr = false ∧ (({ s.pn c with marks := (s.badWords c x) } :
      PonState)).marked x.map = false) ∧
    (∃ (c : PonCh) (x : FrameIn) (s : State), s.live (0x08 + c.val) = true ∧ s.align c = 2 ∧ (x.hdrOk = false ∨ (({ s.pn
      c with marks := (s.badWords c x) } : PonState)).marked x.hdr = true)) ∧
    (∃ (c : PonCh) (s : State), s.live (0x08 + c.val) = true ∧ s.align c = 2 ∧ max 1 (s.pf c F.PN_FEC_CFG.BER_WIN) ≤
      (s.pn c).winFrames) ∧
    (∃ (m : Master) (c : PonCh) (sfcHi : BitVec 19) (s : State), s.reaches m (pnB c + 0x60) = true ∧ (s.align c = 2 →
      s.sfcCur c < (sfcHi.toNat * 2 ^ 32 + s.pf c F.PN_TOD_SFC_LO.SFC_LO))) ∧
    (∃ (m : Master) (c : PonCh) (sfcHi : BitVec 19) (s : State), s.reaches m (pnB c + 0x60) = true ∧ s.align c = 2 ∧
      (sfcHi.toNat * 2 ^ 32 + s.pf c F.PN_TOD_SFC_LO.SFC_LO) ≤ s.sfcCur c) :=
  ⟨⟨0, false, wReceiverAlignsAndDecodes0, by decide +kernel⟩,
   ⟨1, true, wReceiverAlignsAndDecodes1, by decide +kernel⟩,
   ⟨1, true, wReceiverAlignsAndDecodes2, by decide +kernel⟩,
   ⟨0, true, wReceiverAlignsAndDecodes3, by decide +kernel⟩,
   ⟨.host, 0, 1, wReceiverAlignsAndDecodes4, by decide +kernel⟩,
   ⟨.host, 1, 0, wReceiverAlignsAndDecodes5, by decide +kernel⟩,
   ⟨.host, 1, 2, wReceiverAlignsAndDecodes6, by decide +kernel⟩,
   ⟨0, ((⟨6220799, 0, true, 0, ⟨0, 0⟩⟩) : PsyncIn), wReceiverAlignsAndDecodes7, by decide +kernel⟩,
   ⟨0, ((⟨9, 0, true, 0, ⟨0, 0⟩⟩) : PsyncIn), wReceiverAlignsAndDecodes8, by decide +kernel⟩,
   ⟨0, ((⟨2, 0, true, 7, ⟨0, 0⟩⟩) : PsyncIn), wReceiverAlignsAndDecodes9_k, wReceiverAlignsAndDecodes9, by decide +kernel⟩,
   ⟨0, ((⟨2, 0, true, 7, ⟨0, 0⟩⟩) : PsyncIn), wReceiverAlignsAndDecodes10_k, wReceiverAlignsAndDecodes10,
     by decide +kernel⟩,
   ⟨0, ((⟨2, 0, true, 8, ⟨0, 0⟩⟩) : PsyncIn), wReceiverAlignsAndDecodes11_k, wReceiverAlignsAndDecodes11,
     by decide +kernel⟩,
   ⟨0, wReceiverAlignsAndDecodes12_x, wReceiverAlignsAndDecodes12, by decide +kernel⟩,
   ⟨0, wReceiverAlignsAndDecodes13_x, wReceiverAlignsAndDecodes13, by decide +kernel⟩,
   ⟨0, wReceiverAlignsAndDecodes14_x, wReceiverAlignsAndDecodes14, by decide +kernel⟩,
   ⟨0, wReceiverAlignsAndDecodes15_x, wReceiverAlignsAndDecodes15, by decide +kernel⟩,
   ⟨0, wReceiverAlignsAndDecodes16_x, wReceiverAlignsAndDecodes16, by decide +kernel⟩,
   ⟨1, wReceiverAlignsAndDecodes17, by decide +kernel⟩,
   ⟨.host, 0, 7, wS, by decide +kernel⟩,
   ⟨.host, 0, 0, wReceiverAlignsAndDecodes19, by decide +kernel⟩⟩

def wXgemFramesMapAndSerialPorts0 : State :=
  { wS.setF (pnB 0) F.PN_RX_STAT.STATE 2 with pon := ⟨{ wS.pon.a with marks := [0], fsLost := false, payLost := false }, wS.pon.b⟩ }
def wXgemFramesMapAndSerialPorts1 : State :=
  { wS.setF (pnB 0) F.PN_RX_STAT.STATE 2 with pon := ⟨{ wS.pon.a with marks := [], fsLost := false, payLost := false }, wS.pon.b⟩ }
def wXgemFramesMapAndSerialPorts2 : State :=
  { wS.setF (pnB 0) F.PN_RX_STAT.STATE 2 with pon := ⟨{ wS.pon.a with marks := [], fsLost := false, payLost := false }, wS.pon.b⟩ }
def wXgemFramesMapAndSerialPorts3 : State :=
  { wS.setF (pnB 0) F.PN_RX_STAT.STATE 2 with pon := ⟨PonState.reset, wS.pon.b⟩ }
def wXgemFramesMapAndSerialPorts4 : State :=
  { wS.setF (pnB 0) F.PN_RX_STAT.STATE 2 with pon := ⟨{ PonState.reset with pids := [(5, 2 ^ 31 + 100)] }, wS.pon.b⟩ }
def wXgemFramesMapAndSerialPorts4_e : Nat × Nat :=
  (fun (s : State) (c : PonCh) (x : XgemIn) => (pidEntry (s.pn c).pids x.pid.toNat).getD (0, 0)) wXgemFramesMapAndSerialPorts4 0 (({ wXg with size := 2 }) : XgemIn)
def wXgemFramesMapAndSerialPorts5 : State :=
  { ((wS.setF (pnB 0) F.PN_RX_STAT.STATE 2).setF stwB F.STW_STAT.STATE 1).setF (pnB 0) F.PN_OMCC.VALID 1 |>.setF (pnB 0) F.PN_OMCC.PORT_ID wXg.pid.toNat with pon := ⟨PonState.reset, wS.pon.b⟩ }
def wXgemFramesMapAndSerialPorts6 : State :=
  { wS.setF (pnB 0) F.PN_RX_STAT.STATE 2 with pon := ⟨{ PonState.reset with pids := [(5, 2 ^ 31 + 100)] }, wS.pon.b⟩ }
def wXgemFramesMapAndSerialPorts6_e : Nat × Nat :=
  (fun (s : State) (c : PonCh) (x : XgemIn) => (pidEntry (s.pn c).pids x.pid.toNat).getD (0, 0)) wXgemFramesMapAndSerialPorts6 0 (({ wXg with lf := false }) : XgemIn)
def wXgemFramesMapAndSerialPorts7 : State :=
  { wS.setF (pnB 0) F.PN_RX_STAT.STATE 2 with pipes := ⟨PipeState.reset, PipeState.reset⟩, pon := ⟨{ PonState.reset with pids := [(5, 2 ^ 31 + 100)] }, wS.pon.b⟩ }
def wXgemFramesMapAndSerialPorts7_e : Nat × Nat :=
  (fun (s : State) (c : PonCh) (x : XgemIn) => (pidEntry (s.pn c).pids x.pid.toNat).getD (0, 0)) wXgemFramesMapAndSerialPorts7 0 (({ wXg with data := wFrame ++ leBytes 4 (crc32 wFrame) }) : XgemIn)
def wXgemFramesMapAndSerialPorts8 : State :=
  { wS.setF (pnB 0) F.PN_RX_STAT.STATE 2 with slots := [], pon := ⟨{ PonState.reset with pids := [(5, 2 ^ 31 + 2 ^ 28 + 100)] }, wS.pon.b⟩ }
def wXgemFramesMapAndSerialPorts8_e : Nat × Nat :=
  (fun (s : State) (c : PonCh) (x : XgemIn) => (pidEntry (s.pn c).pids x.pid.toNat).getD (0, 0)) wXgemFramesMapAndSerialPorts8 0 (({ wXg with key := 2 }) : XgemIn)
def wXgemFramesMapAndSerialPorts9 : State :=
  { wS with pon := ⟨{ wS.pon.a with frame := 70000, reasm := [⟨77, none, 0, 0, 0, 0, [], false, 0⟩] }, wS.pon.b⟩ }
def wXgemFramesMapAndSerialPorts9_r : Reasm :=
  (fun (s : State) (c : PonCh) (pid : BitVec 16) => ((s.pn c).reasm.find? fun r => decide (r.pid = pid.toNat)).getD ⟨0, none, 0, 0, 0, 0, [], false, 0⟩) wXgemFramesMapAndSerialPorts9 0 77
def wXgemFramesMapAndSerialPorts11 : State :=
  { wS with pon := ⟨PonState.reset, PonState.reset⟩ }
def wXgemFramesMapAndSerialPorts12 : State :=
  { wS.setReg (pnB 1 + 0x44) 0x80000064 with pon := ⟨wS.pon.a, { PonState.reset with pids := [(5, 2 ^ 31 + 100)] }⟩ }
def wXgemFramesMapAndSerialPorts12_k : Nat × Nat :=
  (fun (s : State) (c : PonCh) => (pidEntry (s.pn c).pids (bits (wordsNat (s.regWords (pnB c + 0x44) 2)) 15 0)).getD (0, 0)) wXgemFramesMapAndSerialPorts12 1
def wXgemFramesMapAndSerialPorts13 : State :=
  { wS with pon := ⟨{ PonState.reset with pids := [(5, 2 ^ 31 + 100)] }, wS.pon.b⟩ }
def wXgemFramesMapAndSerialPorts15 : State :=
  (wS.setF (pnB 0) F.PN_OSP_CFG.ENABLE 1).setF aonB F.AON_BOOT_STAT.STAGE 3
def wXgemFramesMapAndSerialPorts16 : State :=
  (wS.setF (pnB 1) F.PN_OSP_CFG.ENABLE 1).setF aonB F.AON_BOOT_STAT.STAGE 10
def wXgemFramesMapAndSerialPorts17 : State :=
  wS.setF (pnB 1) F.PN_OSP_CFG.ENABLE 1
def wXgemFramesMapAndSerialPorts18 : State :=
  { (wS.setF (pnB 0) F.PN_OSP_CFG.ENABLE 1).setF aonB F.AON_BOOT_STAT.STAGE 10 with pon := ⟨{ wS.pon.a with ospQ := [(2, [1, 2])] }, wS.pon.b⟩ }
def wXgemFramesMapAndSerialPorts18_x : Nat × List Byte :=
  (fun (s : State) (c : PonCh) => (s.pn c).ospQ.headD (0, [])) wXgemFramesMapAndSerialPorts18 0
def wXgemFramesMapAndSerialPorts18_rest : List (Nat × List Byte) :=
  (fun (s : State) (c : PonCh) => (s.pn c).ospQ.tail) wXgemFramesMapAndSerialPorts18 0
def wXgemFramesMapAndSerialPorts19 : State :=
  (wS.setF (pnB 0) F.PN_OSP_CFG.ENABLE 1).setF aonB F.AON_BOOT_STAT.STAGE 10
def wXgemFramesMapAndSerialPorts20 : State :=
  { ((wS.setF (pnB 0) F.PN_OSP_CFG.ENABLE 1).setF aonB F.AON_BOOT_STAT.STAGE 10).setF (pnB 0) F.PN_US_CTRL.OSP_PLOAM 1 with pon := ⟨PonState.reset, PonState.reset⟩ }
def wXgemFramesMapAndSerialPorts21 : State :=
  (wS.setF (pnB 1) F.PN_OSP_CFG.ENABLE 1).setF aonB F.AON_BOOT_STAT.STAGE 10
def wXgemFramesMapAndSerialPorts22 : State :=
  (wS.setF (pnB 0) F.PN_OSP_CFG.ENABLE 1).setF aonB F.AON_BOOT_STAT.STAGE 10
def wXgemFramesMapAndSerialPorts23 : State :=
  (wS.setF (pnB 0) F.PN_OSP_CFG.ENABLE 1).setF aonB F.AON_BOOT_STAT.STAGE 10

/-- States and operands that meet the hypotheses of each clause of Obligations.XgemFramesMapAndSerialPorts. -/
theorem wit_XgemFramesMapAndSerialPorts :
    (∃ (c : PonCh) (x : XgemIn) (s : State), s.live (0x08 + c.val) = true ∧ s.align c = 2 ∧ (s.pn c).fsLost = false ∧
      (s.pn c).payLost = false ∧ (s.pn c).marked x.span = true ∧ x.hec = .good ∧ x.pliOver = false) ∧
    (∃ (c : PonCh) (x : XgemIn) (s : State), s.live (0x08 + c.val) = true ∧ s.align c = 2 ∧ (s.pn c).fsLost = false ∧
      (s.pn c).payLost = false ∧ (s.pn c).marked x.span = false ∧ x.hec = .lost) ∧
    (∃ (c : PonCh) (x : XgemIn) (s : State), s.live (0x08 + c.val) = true ∧ s.align c = 2 ∧ (s.pn c).fsLost = false ∧
      (s.pn c).payLost = false ∧ (s.pn c).marked x.span = false ∧ x.hec = .good ∧ x.pliOver = false ∧ x.idle = true) ∧
    (∃ (c : PonCh) (x : XgemIn) (s : State), s.live (0x08 + c.val) = true ∧ s.align c = 2 ∧ (s.pn c).fsLost = false ∧
      (s.pn c).payLost = false ∧ (s.pn c).marked x.span = false ∧ x.hec = .good ∧ x.pliOver = false ∧ x.idle = false ∧
      (s.bit (pnB c) F.PN_OMCC.VALID = false ∨ s.pf c F.PN_OMCC.PORT_ID ≠ x.pid.toNat) ∧ pidEntry (s.pn c).pids
      x.pid.toNat = none) ∧
    (∃ (c : PonCh) (x : XgemIn) (e : Nat × Nat) (s : State), s.live (0x08 + c.val) = true ∧ s.align c = 2 ∧ (s.pn
      c).fsLost = false ∧ (s.pn c).payLost = false ∧ (s.pn c).marked x.span = false ∧ x.hec = .good ∧ x.pliOver = false
      ∧ x.idle = false ∧ x.size ≠ 0 ∧ (s.bit (pnB c) F.PN_OMCC.VALID = false ∨ s.pf c F.PN_OMCC.PORT_ID ≠ x.pid.toNat) ∧
      pidEntry (s.pn c).pids x.pid.toNat = some e ∧ x.key = 0 ∧ ((s.pn c).reasm.find? fun r => decide (r.pid =
      x.pid.toNat)) = none ∧ x.opts.toNat.testBit 17 = false) ∧
    (∃ (c : PonCh) (x : XgemIn) (s : State), s.live (0x08 + c.val) = true ∧ s.align c = 2 ∧ (s.pn c).fsLost = false ∧
      (s.pn c).payLost = false ∧ (s.pn c).marked x.span = false ∧ x.hec = .good ∧ x.pliOver = false ∧ x.idle = false ∧
      x.size = 0 ∧ s.bit (pnB c) F.PN_OMCC.VALID = true ∧ s.pf c F.PN_OMCC.PORT_ID = x.pid.toNat ∧ x.key = 0 ∧ x.lf =
      true ∧ 0 < x.data.length ∧ x.data.length ≤ 2048 ∧ ((s.pn c).reasm.find? fun r => decide (r.pid = x.pid.toNat)) =
      none ∧ x.pid.toNat ∉ (s.pn c).skip ∧ s.bit (pnB c) F.PN_OSP_CFG.OMCI_OSP = false ∧ s.fld stwB F.STW_STAT.STATE =
      1) ∧
    (∃ (c : PonCh) (x : XgemIn) (e : Nat × Nat) (s : State), s.live (0x08 + c.val) = true ∧ s.align c = 2 ∧ (s.pn
      c).fsLost = false ∧ (s.pn c).payLost = false ∧ (s.pn c).marked x.span = false ∧ x.hec = .good ∧ x.pliOver = false
      ∧ x.idle = false ∧ x.size = 0 ∧ (s.bit (pnB c) F.PN_OMCC.VALID = false ∨ s.pf c F.PN_OMCC.PORT_ID ≠ x.pid.toNat) ∧
      pidEntry (s.pn c).pids x.pid.toNat = some e ∧ x.key = 0 ∧ x.lf = false ∧ x.data.length ≤ s.maxSdu c ∧ ((s.pn
      c).reasm.find? fun r => decide (r.pid = x.pid.toNat)) = none ∧ (s.pn c).reasm.length < 512 ∧ x.pid.toNat ∉ (s.pn
      c).skip) ∧
    (∃ (c : PonCh) (x : XgemIn) (e : Nat × Nat) (s : State), s.live (0x08 + c.val) = true ∧ s.align c = 2 ∧ (s.pn
      c).fsLost = false ∧ (s.pn c).payLost = false ∧ (s.pn c).marked x.span = false ∧ x.hec = .good ∧ x.pliOver = false
      ∧ x.idle = false ∧ x.size = 0 ∧ (s.bit (pnB c) F.PN_OMCC.VALID = false ∨ s.pf c F.PN_OMCC.PORT_ID ≠ x.pid.toNat) ∧
      pidEntry (s.pn c).pids x.pid.toNat = some e ∧ x.key = 0 ∧ x.lf = true ∧ 64 ≤ x.data.length ∧ x.data.length ≤
      s.maxSdu c ∧ crc32 (x.data.take ((x.data.length - 4))) = leNat (x.data.drop ((x.data.length - 4))) ∧ ((s.pn
      c).reasm.find? fun r => decide (r.pid = x.pid.toNat)) = none ∧ x.pid.toNat ∉ (s.pn c).skip ∧ x.opts.toNat.testBit
      17 = false ∧ ((((SMap.get (fun _ => []) (s.pipes.get c).wire (48 + c.val)))).map fun p => p.bytes.length).sum +
      (x.data.length - 4) ≤ 32768 ∧ s.accepts (0x20 + c.val) = true) ∧
    (∃ (c : PonCh) (x : XgemIn) (e : Nat × Nat) (s : State), s.live (0x08 + c.val) = true ∧ s.align c = 2 ∧ (s.pn
      c).fsLost = false ∧ (s.pn c).payLost = false ∧ (s.pn c).marked x.span = false ∧ x.hec = .good ∧ x.pliOver = false
      ∧ x.idle = false ∧ x.size = 0 ∧ (s.bit (pnB c) F.PN_OMCC.VALID = false ∨ s.pf c F.PN_OMCC.PORT_ID ≠ x.pid.toNat) ∧
      pidEntry (s.pn c).pids x.pid.toNat = some e ∧ bits e.2 29 28 = 1 ∧ (x.key = 1 ∨ x.key = 2) ∧ s.slot (s.keySlot c
      x.key.toNat (some e)) = none ∧ ((s.pn c).reasm.find? fun r => decide (r.pid = x.pid.toNat)) = none ∧
      x.opts.toNat.testBit 17 = false) ∧
    (∃ (c : PonCh) (pid : BitVec 16) (r : Reasm) (s : State), s.live (0x08 + c.val) = true ∧ ((s.pn c).reasm.find? fun r
      => decide (r.pid = pid.toNat)) = some r ∧ r.last + max 1 (s.pf c F.PN_XGEM_CFG.REASM_TO) ≤ (s.pn c).frame ∧
      r.opts.testBit 17 = false) ∧
    (∃ (m : Master) (c : PonCh) (i : BitVec 12) (s : State), s.reaches m (pnB c + 0x40) = true ∧ s.bit (pnB c)
      F.PN_PID_CMD.BUSY = false) ∧
    (∃ (m : Master) (c : PonCh) (i : BitVec 12) (s : State), s.reaches m (pnB c + 0x40) = true ∧ s.bit (pnB c)
      F.PN_PID_CMD.BUSY = false ∧ ((pidEntry (s.pn c).pids (bits (wordsNat (s.regWords (pnB c + 0x44) 2)) 15 0)).all fun
      k => decide (k.1 = i.toNat)) = true ∧ (s.pn c).reasm = []) ∧
    (∃ (m : Master) (c : PonCh) (i : BitVec 12) (k : Nat × Nat) (s : State), s.reaches m (pnB c + 0x40) = true ∧ s.bit
      (pnB c) F.PN_PID_CMD.BUSY = false ∧ pidEntry (s.pn c).pids (bits (wordsNat (s.regWords (pnB c + 0x44) 2)) 15 0) =
      some k ∧ k.1 ≠ i.toNat ∧ bits (wordsNat (s.regWords (pnB c + 0x44) 2)) 31 31 = 1 ∧ bits (wordsNat (s.regWords (pnB
      c + 0x44) 2)) 29 28 ≠ 3) ∧
    (∃ (m : Master) (c : PonCh) (i : BitVec 12) (s : State), s.reaches m (pnB c + 0x40) = true ∧ s.bit (pnB c)
      F.PN_PID_CMD.BUSY = false ∧ (s.pn c).reasm = []) ∧
    (∃ (c : PonCh) (s : State), s.live (0x08 + c.val) = true) ∧
    (∃ (c : PonCh) (s : State), s.live (0x08 + c.val) = true ∧ s.boot.por = false ∧ s.bit (pnB c) F.PN_OSP_CFG.ENABLE =
      true ∧ s.stage ≠ 0xA ∧ s.inHold = false) ∧
    (∃ (c : PonCh) (s : State), s.live (0x08 + c.val) = true ∧ s.boot.por = false ∧ s.bit (pnB c) F.PN_OSP_CFG.ENABLE =
      true ∧ s.stage = 0xA) ∧
    (∃ (c : PonCh) (cmd : Byte) (s : State), s.live (0x08 + c.val) = true ∧ s.boot.por = false ∧ s.bit (pnB c)
      F.PN_OSP_CFG.ENABLE = true) ∧
    (∃ (c : PonCh) (n : BitVec 16) (x : Nat × List Byte) (rest : List (Nat × List Byte)) (s : State), s.live (0x08 +
      c.val) = true ∧ s.boot.por = false ∧ s.bit (pnB c) F.PN_OSP_CFG.ENABLE = true ∧ s.stage = 0xA ∧ (s.pn c).ospQ = x
      :: rest ∧ x.2.length + 2 ≤ n.toNat) ∧
    (∃ (c : PonCh) (n : BitVec 16) (s : State), s.live (0x08 + c.val) = true ∧ s.boot.por = false ∧ s.bit (pnB c)
      F.PN_OSP_CFG.ENABLE = true ∧ s.stage = 0xA ∧ ((s.pn c).ospQ = [] ∨ n.toNat < ((((s.pn c).ospQ.head?.elim [0, 0]
      (fun x => beBytes 2 (x.1 * 2 ^ 12 + x.2.length) ++ x.2)))).length)) ∧
    (∃ (c : PonCh) (data : List Byte) (s : State), s.live (0x08 + c.val) = true ∧ s.boot.por = false ∧ s.bit (pnB c)
      F.PN_OSP_CFG.ENABLE = true ∧ s.stage = 0xA ∧ s.bit (pnB c) F.PN_US_CTRL.OSP_PLOAM = true ∧ (s.pn c).ploamQ.length
      < 16) ∧
    (∃ (c : PonCh) (data : List Byte) (s : State), s.live (0x08 + c.val) = true ∧ s.boot.por = false ∧ s.bit (pnB c)
      F.PN_OSP_CFG.ENABLE = true ∧ s.stage = 0xA) ∧
    (∃ (n : BitVec 16) (s : State), s.live 0x08 = true ∧ s.boot.por = false ∧ s.bit (pnB 0) F.PN_OSP_CFG.ENABLE = true ∧
      s.stage = 0xA ∧ 32 ≤ n.toNat) ∧
    (∃ (c : PonCh) (n : BitVec 16) (s : State), s.live (0x08 + c.val) = true ∧ s.boot.por = false ∧ s.bit (pnB c)
      F.PN_OSP_CFG.ENABLE = true ∧ s.stage = 0xA ∧ (n.toNat < 32 ∨ c = 1)) :=
  ⟨⟨0, wXg, wXgemFramesMapAndSerialPorts0, by decide +kernel⟩,
   ⟨0, (({ wXg with hec := .lost }) : XgemIn), wXgemFramesMapAndSerialPorts1, by decide +kernel⟩,
   ⟨0, (({ wXg with idle := true }) : XgemIn), wXgemFramesMapAndSerialPorts2, by decide +kernel⟩,
   ⟨0, wXg, wXgemFramesMapAndSerialPorts3, by decide +kernel⟩,
   ⟨0, (({ wXg with size := 2 }) : XgemIn), wXgemFramesMapAndSerialPorts4_e, wXgemFramesMapAndSerialPorts4,
     by decide +kernel⟩,
   ⟨0, wXg, wXgemFramesMapAndSerialPorts5, by decide +kernel⟩,
   ⟨0, (({ wXg with lf := false }) : XgemIn), wXgemFramesMapAndSerialPorts6_e, wXgemFramesMapAndSerialPorts6,
     by decide +kernel⟩,
   ⟨0, (({ wXg with data := wFrame ++ leBytes 4 (crc32 wFrame) }) : XgemIn), wXgemFramesMapAndSerialPorts7_e,
     wXgemFramesMapAndSerialPorts7, by decide +kernel⟩,
   ⟨0, (({ wXg with key := 2 }) : XgemIn), wXgemFramesMapAndSerialPorts8_e, wXgemFramesMapAndSerialPorts8,
     by decide +kernel⟩,
   ⟨0, 77, wXgemFramesMapAndSerialPorts9_r, wXgemFramesMapAndSerialPorts9, by decide +kernel⟩,
   ⟨.host, 0, 4095, wS, by decide +kernel⟩,
   ⟨.host, 1, 0, wXgemFramesMapAndSerialPorts11, by decide +kernel⟩,
   ⟨.host, 1, 3, wXgemFramesMapAndSerialPorts12_k, wXgemFramesMapAndSerialPorts12, by decide +kernel⟩,
   ⟨.host, 0, 5, wXgemFramesMapAndSerialPorts13, by decide +kernel⟩,
   ⟨1, wS, by decide +kernel⟩,
   ⟨0, wXgemFramesMapAndSerialPorts15, by decide +kernel⟩,
   ⟨1, wXgemFramesMapAndSerialPorts16, by decide +kernel⟩,
   ⟨1, 9, wXgemFramesMapAndSerialPorts17, by decide +kernel⟩,
   ⟨0, 4, wXgemFramesMapAndSerialPorts18_x, wXgemFramesMapAndSerialPorts18_rest, wXgemFramesMapAndSerialPorts18,
     by decide +kernel⟩,
   ⟨0, 1, wXgemFramesMapAndSerialPorts19, by decide +kernel⟩,
   ⟨0, (([1, 2]) : List Byte), wXgemFramesMapAndSerialPorts20, by decide +kernel⟩,
   ⟨1, [1], wXgemFramesMapAndSerialPorts21, by decide +kernel⟩,
   ⟨32, wXgemFramesMapAndSerialPorts22, by decide +kernel⟩,
   ⟨0, 31, wXgemFramesMapAndSerialPorts23, by decide +kernel⟩⟩

def wFramesEnterAndLeaveTheMac0 : State :=
  { ((((wS.setF (tqB 5) F.TQ_PORT_SVC.STATE 0).setF (tqB 5) F.TQ_LANE_STAT.LINK 1).setF (tqB 5) F.TQ_LANE_CFG.MODE 2).setF (tqB 5) F.TQ_PTP_CFG.RX_EN 0).setF (tqB 5) F.TQ_PORT_CFG.FILT_MODE 0 with pipes := ⟨PipeState.reset, PipeState.reset⟩ }
def wFramesEnterAndLeaveTheMac1 : State :=
  { ((((wS.setF (tqB 5) F.TQ_PORT_SVC.STATE 0).setF (tqB 5) F.TQ_LANE_STAT.LINK 1).setF (tqB 5) F.TQ_LANE_CFG.MODE 2).setRegs (tqB 5 + F.TQ_FILT_HASH.BINS.off) [0, 0, 0, 0, 0, 0, 0, 0]).setF (tqB 5) F.TQ_PORT_CFG.FILT_MODE 0 with pipes := ⟨PipeState.reset, PipeState.reset⟩ }
def wFramesEnterAndLeaveTheMac2 : State :=
  { (((wS.setF (tqB 47) F.TQ_PORT_SVC.STATE 0).setF (tqB 47) F.TQ_LANE_STAT.LINK 1).setF (tqB 47) F.TQ_LANE_CFG.MODE 2) with pipes := ⟨PipeState.reset, PipeState.reset⟩ }
def wFramesEnterAndLeaveTheMac3 : State :=
  { ((((wS.setF (tqB 0) F.TQ_PORT_SVC.STATE 0).setF (tqB 0) F.TQ_LANE_STAT.LINK 1).setF (tqB 0) F.TQ_LANE_CFG.MODE 1).setF (tqB 0) F.TQ_LANE_CFG.FEC 2).setF (tqB 0) F.TQ_LANE_STAT.FEC_LOCK 1 with pipes := ⟨PipeState.reset, PipeState.reset⟩ }
def wFramesEnterAndLeaveTheMac4 : State :=
  { (((wS.setF (tqB 24) F.TQ_PORT_SVC.STATE 0).setF (tqB 24) F.TQ_LANE_STAT.LINK 1).setF (tqB 24) F.TQ_LANE_CFG.MODE 2) with pipes := ⟨PipeState.reset, { PipeState.reset with wire := [(24, List.replicate 6 { wPkt with bytes := List.replicate 6000 0 })] }⟩ }
def wFramesEnterAndLeaveTheMac5 : State :=
  (wS.setF (tqB 9) F.TQ_PORT_SVC.STATE 1).setF (tqB 9) F.TQ_LANE_CFG.MODE 2
def wFramesEnterAndLeaveTheMac6 : State :=
  ((((wS.setF (tqB 9) F.TQ_PORT_SVC.STATE 0).setF (tqB 9) F.TQ_LANE_STAT.LINK 0).setF (tqB 9) F.TQ_LANE_CFG.MODE 1).setF (tqB 9) F.TQ_LANE_CFG.FEC 1).setF (tqB 9) F.TQ_LANE_STAT.FEC_LOCK 1
def wFramesEnterAndLeaveTheMac7 : State :=
  { (((wS.setF (tqB 3) F.TQ_PORT_SVC.STATE 0).setF (tqB 3) F.TQ_LANE_STAT.LINK 1).setF (tqB 3) F.TQ_LANE_CFG.MODE 2) with tq := [(3, { TqPort.empty with mac := some wPkt })] }
def wFramesEnterAndLeaveTheMac7_p : Packet :=
  (fun (s : State) (n : Port) => (s.port n).mac.getD wPkt) wFramesEnterAndLeaveTheMac7 3
def wFramesEnterAndLeaveTheMac8 : State :=
  { (((wS.setF (tqB 3) F.TQ_PORT_SVC.STATE 0).setF (tqB 3) F.TQ_LANE_STAT.LINK 0).setF (tqB 3) F.TQ_LANE_CFG.MODE 2) with tq := [(3, { TqPort.empty with mac := some wPkt })] }
def wFramesEnterAndLeaveTheMac8_p : Packet :=
  (fun (s : State) (n : Port) => (s.port n).mac.getD wPkt) wFramesEnterAndLeaveTheMac8 3
def wFramesEnterAndLeaveTheMac9 : State :=
  { (((wS.setF (tqB 3) F.TQ_PORT_SVC.STATE 0).setF (tqB 3) F.TQ_LANE_STAT.LINK 1).setF (tqB 3) F.TQ_LANE_CFG.MODE 2).setF (tqB 3) F.TQ_MAC_CFG.MAX_FRAME 64 with tq := [(3, { TqPort.empty with mac := some { wPkt with bytes := List.replicate 61 1 } })] }
def wFramesEnterAndLeaveTheMac9_p : Packet :=
  (fun (s : State) (n : Port) => (s.port n).mac.getD wPkt) wFramesEnterAndLeaveTheMac9 3
def wFramesEnterAndLeaveTheMac10 : State :=
  { ((((((wS.setF (tqB 3) F.TQ_PORT_SVC.STATE 0).setF (tqB 3) F.TQ_LANE_STAT.LINK 1).setF (tqB 3) F.TQ_LANE_CFG.MODE 2).setF (tqB 3) F.TQ_PTP_CFG.L2 1).setF (tqB 3) F.TQ_PTP_CFG.ONE_STEP 1).setF (tqB 3) F.TQ_PTP_CFG.TX_EN 0) with tq := [(3, { TqPort.empty with launch := some (wS.now + 9), mac := some (Packet.new 64 (List.replicate 12 1 ++ [0x88, 0xF7] ++ List.replicate 60 0) 0) })] }
def wFramesEnterAndLeaveTheMac10_p : Packet :=
  (fun (s : State) (n : Port) => (s.port n).mac.getD wPkt) wFramesEnterAndLeaveTheMac10 3
def wFramesEnterAndLeaveTheMac10_l : Nat :=
  (fun (s : State) (n : Port) => (s.port n).launch.getD 0) wFramesEnterAndLeaveTheMac10 3
def wFramesEnterAndLeaveTheMac10_k : PtpMsg :=
  (fun (s : State) (n : Port) => (s.ptpMsg n (s.txCsum n ((s.port n).mac.getD wPkt)).bytes).getD ⟨14, 0⟩) wFramesEnterAndLeaveTheMac10 3
def wFramesEnterAndLeaveTheMac11 : State :=
  { ((((((wS.setF (tqB 3) F.TQ_PORT_SVC.STATE 0).setF (tqB 3) F.TQ_LANE_STAT.LINK 1).setF (tqB 3) F.TQ_LANE_CFG.MODE 2).setF (tqB 3) F.TQ_PTP_CFG.L2 1).setF (tqB 3) F.TQ_PTP_CFG.ONE_STEP 1).setF (tqB 3) F.TQ_PTP_CFG.TX_EN 0) with tq := [(3, { TqPort.empty with launch := some (wS.now + 9), mac := some (Packet.new 64 (List.replicate 12 1 ++ [0x88, 0xF7] ++ List.replicate 60 0) 0) })] }
def wFramesEnterAndLeaveTheMac11_p : Packet :=
  (fun (s : State) (n : Port) => (s.port n).mac.getD wPkt) wFramesEnterAndLeaveTheMac11 3
def wFramesEnterAndLeaveTheMac11_l : Nat :=
  (fun (s : State) (n : Port) => (s.port n).launch.getD 0) wFramesEnterAndLeaveTheMac11 3
def wFramesEnterAndLeaveTheMac11_k : PtpMsg :=
  (fun (s : State) (n : Port) => (s.ptpMsg n (s.txCsum n ((s.port n).mac.getD wPkt)).bytes).getD ⟨14, 0⟩) wFramesEnterAndLeaveTheMac11 3
def wFramesEnterAndLeaveTheMac12 : State :=
  { (((wS.setF (tqB 3) F.TQ_LANE_CFG.MODE 5).setF (tqB 3) F.TQ_LANE_STAT.HALF 1)) with timers := [], tq := [(3, { TqPort.empty with mac := some wPkt, tries := 14 * (4 % 2) })] }
def wFramesEnterAndLeaveTheMac12_p : Packet :=
  (fun (s : State) (n : Port) => (s.port n).mac.getD wPkt) wFramesEnterAndLeaveTheMac12 3
def wFramesEnterAndLeaveTheMac13 : State :=
  { (((wS.setF (tqB 3) F.TQ_LANE_CFG.MODE 5).setF (tqB 3) F.TQ_LANE_STAT.HALF 1)) with timers := [], tq := [(3, { TqPort.empty with mac := some wPkt, tries := 0 })] }
def wFramesEnterAndLeaveTheMac13_p : Packet :=
  (fun (s : State) (n : Port) => (s.port n).mac.getD wPkt) wFramesEnterAndLeaveTheMac13 3
def wFramesEnterAndLeaveTheMac14 : State :=
  { (((wS.setF (tqB 3) F.TQ_LANE_CFG.MODE 5).setF (tqB 3) F.TQ_LANE_STAT.HALF 1)) with timers := [], tq := [(3, { TqPort.empty with mac := some wPkt, tries := 15 })] }
def wFramesEnterAndLeaveTheMac14_p : Packet :=
  (fun (s : State) (n : Port) => (s.port n).mac.getD wPkt) wFramesEnterAndLeaveTheMac14 3
def wFramesEnterAndLeaveTheMac15 : State :=
  wS.startTimer (Tm.backoff 3) 5

/-- States and operands that meet the hypotheses of each clause of Obligations.FramesEnterAndLeaveTheMac. -/
theorem wit_FramesEnterAndLeaveTheMac :
    (∃ (n : Port) (x : EthIn) (s : State), s.rxOn n = true ∧ s.laneFec n = 0 ∧ ((s.rxFifo n).map fun p => p.bytes.length).sum
      + s.maxFrame n ≤ 32768 ∧ 64 ≤ (x.bytes.length) ∧ (x.bytes.length) ≤ s.maxFrame n ∧ x.whole = true ∧ crc32
      ((x.bytes.take ((x.bytes.length) - 4))) = leNat (x.bytes.drop ((x.bytes.length) - 4)) ∧ beAt ((x.bytes.take
      ((x.bytes.length) - 4))) 12 2 ≠ 0x8808 ∧ s.bit (tqB n) F.TQ_SEC_CFG.EN = false ∧ s.bit (tqB n)
      F.TQ_PORT_CFG.FILT_MODE = false ∧ beAt ((x.bytes.take ((x.bytes.length) - 4))) 0 1 % 2 = 0 ∧ s.bit (tqB n)
      F.TQ_PTP_CFG.RX_EN = false ∧ s.accepts (0x20 + pipeOf n) = true) ∧
    (∃ (n : Port) (x : EthIn) (s : State), s.rxOn n = true ∧ s.laneFec n = 0 ∧ ((s.rxFifo n).map fun p => p.bytes.length).sum
      + s.maxFrame n ≤ 32768 ∧ 64 ≤ (x.bytes.length) ∧ (x.bytes.length) ≤ s.maxFrame n ∧ x.whole = true ∧ crc32
      ((x.bytes.take ((x.bytes.length) - 4))) = leNat (x.bytes.drop ((x.bytes.length) - 4)) ∧ beAt ((x.bytes.take
      ((x.bytes.length) - 4))) 12 2 ≠ 0x8808 ∧ s.bit (tqB n) F.TQ_SEC_CFG.EN = false ∧ s.bit (tqB n)
      F.TQ_PORT_CFG.FILT_MODE = false ∧ beAt ((x.bytes.take ((x.bytes.length) - 4))) 0 1 % 2 = 1 ∧ beAt ((x.bytes.take
      ((x.bytes.length) - 4))) 0 6 ≠ 2 ^ 48 - 1 ∧ (s.fld (tqB n) (F.TQ_FILT_HASH.BINS.at (4 * (crc32 (bytesAt
      ((x.bytes.take ((x.bytes.length) - 4))) 0 6) / 2 ^ 24 % 256 / 32)))).testBit (crc32 (bytesAt ((x.bytes.take
      ((x.bytes.length) - 4))) 0 6) / 2 ^ 24 % 256 % 32) = false) ∧
    (∃ (n : Port) (x : EthIn) (s : State), s.rxOn n = true ∧ s.laneFec n = 0 ∧ ((s.rxFifo n).map fun p => p.bytes.length).sum
      + s.maxFrame n ≤ 32768 ∧ x.bytes ≠ [] ∧ ((x.bytes.length) < 64 ∨ s.maxFrame n < (x.bytes.length) ∨ ((x.whole &&
      decide (4 ≤ (x.bytes.length)) && decide (crc32 ((x.bytes.take ((x.bytes.length) - 4))) = leNat (x.bytes.drop
      ((x.bytes.length) - 4))))) = false)) ∧
    (∃ (n : Port) (x : EthIn) (s : State), s.rxOn n = true ∧ s.laneFec n ≠ 0 ∧ s.bit (tqB n) F.TQ_LANE_STAT.FEC_LOCK =
      true ∧ ((s.rxFifo n).map fun p => p.bytes.length).sum + s.maxFrame n ≤ 32768 ∧ 64 ≤ x.bytes.length ∧
      x.bytes.length ≤ s.maxFrame n ∧ x.uncorr ≠ 0) ∧
    (∃ (n : Port) (x : EthIn) (s : State), s.rxOn n = true ∧ s.laneFec n = 0 ∧ x.bytes ≠ [] ∧ 32768 < ((s.rxFifo n).map
      fun p => p.bytes.length).sum + s.maxFrame n) ∧
    (∃ (n : Port) (x : EthIn) (s : State), (s.rxOn n = false ∨ x.bytes = []) ∧ s.laneFec n = 0) ∧
    (∃ (n : Port) (x : EthIn) (s : State), s.live (quadId n) = true ∧ (s.rxOn n = false ∨ x.bytes = []) ∧ s.laneFec n ≠
      0 ∧ s.portState n = 0 ∧ s.bit (tqB n) F.TQ_LANE_STAT.FEC_LOCK = true) ∧
    (∃ (n : Port) (st : StampIn) (late : Bool) (deferred : Bool) (p : Packet) (s : State), s.live (quadId n) = true ∧
      (s.port n).mac = some p ∧ s.timerOn (Tm.backoff n) = false ∧ (s.port n).launch = none ∧ s.halfDuplex n = false ∧
      s.linkUp n = true ∧ s.ptpMsg n (((s.txCsum n p).bytes)) = none ∧ p.tsReq = false ∧ (s.bit (tqB n) F.TQ_SEC_CFG.EN
      = false ∨ s.bit (tqB n) F.TQ_SEC_CFG.PROTECT = false) ∧ max 60 (((s.txCsum n p).bytes)).length + 4 ≤ s.maxFrame n) ∧
    (∃ (n : Port) (st : StampIn) (late : Bool) (deferred : Bool) (p : Packet) (s : State), s.live (quadId n) = true ∧
      (s.port n).mac = some p ∧ s.timerOn (Tm.backoff n) = false ∧ (s.port n).launch = none ∧ s.halfDuplex n = false ∧
      s.portState n = 0 ∧ s.linkUp n = false) ∧
    (∃ (n : Port) (st : StampIn) (late : Bool) (deferred : Bool) (p : Packet) (s : State), s.live (quadId n) = true ∧
      (s.port n).mac = some p ∧ s.timerOn (Tm.backoff n) = false ∧ (s.port n).launch = none ∧ s.halfDuplex n = false ∧
      s.linkUp n = true ∧ s.ptpMsg n (((s.txCsum n p).bytes)) = none ∧ (s.bit (tqB n) F.TQ_SEC_CFG.EN = false ∨ s.bit
      (tqB n) F.TQ_SEC_CFG.PROTECT = false) ∧ s.maxFrame n < max 60 (((s.txCsum n p).bytes)).length + 4) ∧
    (∃ (n : Port) (st : StampIn) (late : Bool) (deferred : Bool) (p : Packet) (l : Nat) (k : PtpMsg) (s : State), s.live
      (quadId n) = true ∧ (s.port n).mac = some p ∧ s.timerOn (Tm.backoff n) = false ∧ (s.port n).launch = some l ∧
      s.xoffWant n = (s.port n).sent ∧ s.halfDuplex n = false ∧ s.linkUp n = true ∧ s.ptpMsg n (((s.txCsum n p).bytes))
      = some k ∧ 64 ≤ (s.txCsum n p).src ∧ ptpType (((s.txCsum n p).bytes)) k = 0 ∧ ptpTwoStep (((s.txCsum n p).bytes))
      k = false ∧ s.bit (tqB n) F.TQ_PTP_CFG.ONE_STEP = true ∧ late = false ∧ s.bit (tqB n) F.TQ_PTP_CFG.TX_EN = false ∧
      (s.bit (tqB n) F.TQ_SEC_CFG.EN = false ∨ s.bit (tqB n) F.TQ_SEC_CFG.PROTECT = false) ∧ max 60 ((ptpUdpFix
      (((s.txCsum n p).bytes)) (ptpCorrect ((putBytes (((s.txCsum n p).bytes)) (k.at_ + 34) (beBytes 6 (timeSec
      ((s.elapseTo l).stampTx (48 + n) { st with ne := max st.ne (s.elapseTo l).tim.rawN } (s.portLat n true))) ++
      beBytes 4 (timeNs ((s.elapseTo l).stampTx (48 + n) { st with ne := max st.ne (s.elapseTo l).tim.rawN } (s.portLat
      n true)))))) k (timeFrac ((s.elapseTo l).stampTx (48 + n) { st with ne := max st.ne (s.elapseTo l).tim.rawN }
      (s.portLat n true)))) k)).length + 4 ≤ s.maxFrame n) ∧
    (∃ (n : Port) (st : StampIn) (late : Bool) (deferred : Bool) (p : Packet) (l : Nat) (k : PtpMsg) (s : State), s.live
      (quadId n) = true ∧ (s.port n).mac = some p ∧ s.timerOn (Tm.backoff n) = false ∧ (s.port n).launch = some l ∧
      s.xoffWant n = (s.port n).sent ∧ s.halfDuplex n = false ∧ s.linkUp n = true ∧ s.ptpMsg n (((s.txCsum n p).bytes))
      = some k ∧ 64 ≤ (s.txCsum n p).src ∧ ptpType (((s.txCsum n p).bytes)) k = 0 ∧ ptpTwoStep (((s.txCsum n p).bytes))
      k = false ∧ s.bit (tqB n) F.TQ_PTP_CFG.ONE_STEP = true ∧ late = true) ∧
    (∃ (n : Port) (late : Bool) (deferred : Bool) (p : Packet) (s : State), s.live (quadId n) = true ∧ (s.port n).mac =
      some p ∧ s.timerOn (Tm.backoff n) = false ∧ (s.port n).launch = none ∧ s.halfDuplex n = true ∧ late = false ∧
      ((s.port n).tries + 1) < 16) ∧
    (∃ (n : Port) (late : Bool) (deferred : Bool) (p : Packet) (s : State), s.live (quadId n) = true ∧ (s.port n).mac =
      some p ∧ s.timerOn (Tm.backoff n) = false ∧ (s.port n).launch = none ∧ s.halfDuplex n = true ∧ late = true) ∧
    (∃ (n : Port) (late : Bool) (deferred : Bool) (p : Packet) (s : State), s.live (quadId n) = true ∧ (s.port n).mac =
      some p ∧ s.timerOn (Tm.backoff n) = false ∧ (s.port n).launch = none ∧ s.halfDuplex n = true ∧ late = false ∧ 15 ≤
      (s.port n).tries) ∧
    (∃ (n : Port) (s : State), s.live (quadId n) = true ∧ s.timerOn (Tm.backoff n) = true) :=
  ⟨⟨5, ((⟨List.replicate 60 2 ++ leBytes 4 (crc32 (List.replicate 60 2)), true, 0, 0, ⟨0, 0⟩, false⟩) : EthIn),
     wFramesEnterAndLeaveTheMac0, by decide +kernel⟩,
   ⟨5, ((⟨wFrame ++ leBytes 4 (crc32 wFrame), true, 0, 0, ⟨0, 0⟩, false⟩) : EthIn), wFramesEnterAndLeaveTheMac1,
     by decide +kernel⟩,
   ⟨47, ((⟨List.replicate 64 7, true, 0, 0, ⟨0, 0⟩, false⟩) : EthIn), wFramesEnterAndLeaveTheMac2, by decide +kernel⟩,
   ⟨0, ((⟨List.replicate 64 7, true, 2, 1, ⟨0, 0⟩, false⟩) : EthIn), wFramesEnterAndLeaveTheMac3, by decide +kernel⟩,
   ⟨24, ((⟨List.replicate 64 7, true, 0, 0, ⟨0, 0⟩, false⟩) : EthIn), wFramesEnterAndLeaveTheMac4, by decide +kernel⟩,
   ⟨9, ((⟨List.replicate 64 7, true, 0, 0, ⟨0, 0⟩, false⟩) : EthIn), wFramesEnterAndLeaveTheMac5, by decide +kernel⟩,
   ⟨9, ((⟨[], true, 2, 1, ⟨0, 0⟩, false⟩) : EthIn), wFramesEnterAndLeaveTheMac6, by decide +kernel⟩,
   ⟨3, ((⟨0, 0⟩) : StampIn), true, true, wFramesEnterAndLeaveTheMac7_p, wFramesEnterAndLeaveTheMac7, by decide +kernel⟩,
   ⟨3, ((⟨0, 0⟩) : StampIn), false, true, wFramesEnterAndLeaveTheMac8_p, wFramesEnterAndLeaveTheMac8, by decide +kernel⟩,
   ⟨3, ((⟨0, 0⟩) : StampIn), false, true, wFramesEnterAndLeaveTheMac9_p, wFramesEnterAndLeaveTheMac9, by decide +kernel⟩,
   ⟨3, ((⟨0, 0⟩) : StampIn), false, false, wFramesEnterAndLeaveTheMac10_p, wFramesEnterAndLeaveTheMac10_l,
     wFramesEnterAndLeaveTheMac10_k, wFramesEnterAndLeaveTheMac10, by decide +kernel⟩,
   ⟨3, ((⟨0, 0⟩) : StampIn), true, false, wFramesEnterAndLeaveTheMac11_p, wFramesEnterAndLeaveTheMac11_l,
     wFramesEnterAndLeaveTheMac11_k, wFramesEnterAndLeaveTheMac11, by decide +kernel⟩,
   ⟨3, false, true, wFramesEnterAndLeaveTheMac12_p, wFramesEnterAndLeaveTheMac12, by decide +kernel⟩,
   ⟨3, true, true, wFramesEnterAndLeaveTheMac13_p, wFramesEnterAndLeaveTheMac13, by decide +kernel⟩,
   ⟨3, false, true, wFramesEnterAndLeaveTheMac14_p, wFramesEnterAndLeaveTheMac14, by decide +kernel⟩,
   ⟨3, wFramesEnterAndLeaveTheMac15, by decide +kernel⟩⟩

def wSecyEntriesAndTestPatterns0 : State :=
  (wS.setReg (tqB 47 + 0x310) 0).setSec 47 47 (2 ^ 31 + 5)
def wSecyEntriesAndTestPatterns0_k : Nat :=
  (fun (sp : Fin 3) (i : BitVec 5) => (secIx sp i.toNat).getD 0) 2 31
def wSecyEntriesAndTestPatterns1 : State :=
  wS.setReg (tqB 0 + 0x310) 0
def wSecyEntriesAndTestPatterns2 : State :=
  { (wS.setReg (tqB 3 + 0x310) 0).setReg (tqB 3 + 0x314) 0x80000005 with slots := [(5, some ⟨2, 2, 1, 0, false⟩)] }
def wSecyEntriesAndTestPatterns2_k : Nat :=
  (fun (sp : Fin 3) (i : BitVec 5) => (secIx sp i.toNat).getD 0) 0 3
def wSecyEntriesAndTestPatterns3 : State :=
  { wS.setReg (tqB 3 + 0x310) 0 with slots := [] }
def wSecyEntriesAndTestPatterns3_k : Nat :=
  (fun (sp : Fin 3) (i : BitVec 5) => (secIx sp i.toNat).getD 0) 0 0
def wSecyEntriesAndTestPatterns4 : State :=
  (wS.setReg (tqB 3 + 0x310) 0).setSec 3 16 (2 ^ 31 + 5)
def wSecyEntriesAndTestPatterns4_k : Nat :=
  (fun (sp : Fin 3) (i : BitVec 5) => (secIx sp i.toNat).getD 0) 2 0
def wSecyEntriesAndTestPatterns5 : State :=
  wS.setReg (tqB 3 + 0x310) 0
def wSecyEntriesAndTestPatterns7 : State :=
  ((wS.setF (tqB 47) F.TQ_PORT_SVC.STATE 1).setF (tqB 47) F.TQ_PRBS_CTRL.GEN_EN 1).setF (tqB 47) F.TQ_PRBS_CTRL.CHK_EN 1
def wSecyEntriesAndTestPatterns8 : State :=
  ((wS.setF (tqB 0) F.TQ_PORT_SVC.STATE 1).setF (tqB 0) F.TQ_PRBS_CTRL.GEN_EN 0).setF (tqB 0) F.TQ_PRBS_CTRL.CHK_EN 1
def wSecyEntriesAndTestPatterns9 : State :=
  ((((wS.setF (pnB 1) F.PN_SVC_CTRL.STATE 2).setF (pnB 1) F.PN_PRBS_CTRL.GEN_EN 1).setF (pnB 1) F.PN_PRBS_CTRL.CHK_EN 1).setF (pnB 1) F.PN_RX_STAT.STATE 3).setF (pnB 1) F.PN_PRBS_CTRL.BEN_ON 0
def wSecyEntriesAndTestPatterns10 : State :=
  wS.setF (pnB 1) F.PN_SVC_CTRL.STATE 0
def wSecyEntriesAndTestPatterns11 : State :=
  (wS.setF (tqB 47) F.TQ_PORT_SVC.STATE 1).setF (tqB 47) F.TQ_PRBS_CTRL.CHK_EN 1
def wSecyEntriesAndTestPatterns12 : State :=
  wS.setF (pnB 1) F.PN_SVC_CTRL.STATE 0
def wSecyEntriesAndTestPatterns13 : State :=
  wS.setF (pnB 1) F.PN_SVC_CTRL.STATE 0
def wSecyEntriesAndTestPatterns14 : State :=
  (((wS.setF (tqB 47) F.TQ_PORT_SVC.STATE 1).setF (tqB 47) F.TQ_PRBS_CTRL.CHK_EN 0).setF (tqB 47) F.TQ_PRBS_CTRL.GEN_EN 1).setF (tqB 47) F.TQ_LANE_CFG.LOOP 0
def wSecyEntriesAndTestPatterns15 : State :=
  (((wS.setF (tqB 0) F.TQ_PORT_SVC.STATE 1).setF (tqB 0) F.TQ_PRBS_CTRL.CHK_EN 0).setF (tqB 0) F.TQ_PRBS_CTRL.GEN_EN 0).setF (tqB 0) F.TQ_LANE_CFG.LOOP 4
def wSecyEntriesAndTestPatterns16 : State :=
  { ((((wS.setF (pnB 1) F.PN_SVC_CTRL.STATE 2).setF (pnB 1) F.PN_PRBS_CTRL.GEN_EN 0).setF (pnB 1) F.PN_PRBS_CTRL.CHK_EN 1).setF (pnB 1) (F.TQ_PRBS_STAT.LOCK.at 0x570) 1) with prbs := [(49, { Prbs.idle with chk := 5, win := 3 })] }
def wSecyEntriesAndTestPatterns16_x : Bool :=
  (fun (bits : List Bool) (times : Nat) (rest : List Bool) => (laneBits bits times rest).headD false) [true] 1 []
def wSecyEntriesAndTestPatterns17 : State :=
  { (((((wS.setF (tqB 0) F.TQ_PORT_SVC.STATE 1).setF (tqB 0) F.TQ_PRBS_CTRL.GEN_EN 0).setF (tqB 0) F.TQ_PRBS_CTRL.CHK_EN 1).setF (tqB 0) F.TQ_PRBS_STAT.LOCK 0).setF (tqB 0) F.TQ_PRBS_CTRL.POLY 4).setF (tqB 0) F.TQ_LANE_CFG.LOOP 0 with prbs := [(0, { Prbs.idle with chk := 2 ^ 30, seed := 31, run := 63 })] }
def wSecyEntriesAndTestPatterns17_x : Bool :=
  (fun (bits : List Bool) (times : Nat) (rest : List Bool) => (laneBits bits times rest).headD false) [true] 1 []

/-- States and operands that meet the hypotheses of each clause of Obligations.SecyEntriesAndTestPatterns. -/
theorem wit_SecyEntriesAndTestPatterns :
    (∃ (m : Master) (n : Port) (sp : Fin 3) (i : BitVec 5) (k : Nat) (s : State), s.reaches m (tqB n + 0x310) = true ∧
      s.bit (tqB n) F.TQ_SEC_CMD.BUSY = false ∧ secIx sp i.toNat = some k ∧ sp ≠ 1) ∧
    (∃ (m : Master) (n : Port) (sp : Fin 3) (i : BitVec 5) (s : State), s.reaches m (tqB n + 0x310) = true ∧ s.bit (tqB
      n) F.TQ_SEC_CMD.BUSY = false ∧ i.toNat < 8) ∧
    (∃ (m : Master) (n : Port) (sp : Fin 3) (i : BitVec 5) (k : Nat) (s : State), s.reaches m (tqB n + 0x310) = true ∧
      s.bit (tqB n) F.TQ_SEC_CMD.BUSY = false ∧ secIx sp i.toNat = some k ∧ (sp = 1 ∨ (s.secKey (bits (wordsNat
      (s.regWords (tqB n + 0x314) 7)) 9 0)).isSome = true)) ∧
    (∃ (m : Master) (n : Port) (sp : Fin 3) (i : BitVec 5) (k : Nat) (s : State), s.reaches m (tqB n + 0x310) = true ∧
      s.bit (tqB n) F.TQ_SEC_CMD.BUSY = false ∧ secIx sp i.toNat = some k ∧ sp ≠ 1 ∧ s.secKey (bits (wordsNat
      (s.regWords (tqB n + 0x314) 7)) 9 0) = none) ∧
    (∃ (m : Master) (n : Port) (sp : Fin 3) (i : BitVec 5) (k : Nat) (s : State), s.reaches m (tqB n + 0x310) = true ∧
      s.bit (tqB n) F.TQ_SEC_CMD.BUSY = false ∧ secIx sp i.toNat = some k) ∧
    (∃ (m : Master) (n : Port) (sp : Fin 3) (i : BitVec 5) (s : State), s.reaches m (tqB n + 0x310) = true ∧ s.bit (tqB
      n) F.TQ_SEC_CMD.BUSY = false ∧ secIx sp i.toNat = none) ∧
    (∃ (n : Port) (s : State), s.live (quadId n) = true) ∧
    (∃ (m : Master) (lane : Fin 50) (s : State), s.reaches m (tqB lane) = true ∧ lane.val < 48 ∧ s.laneOut lane = true ∧
      s.bit (tqB lane) F.TQ_PRBS_CTRL.CHK_EN = true ∧ s.bit (tqB lane) F.TQ_PRBS_CTRL.BEN_ON = false ∧ s.bit (tqB lane)
      F.TQ_PRBS_CTRL.INJ_ONE = false ∧ s.bit (tqB lane) F.TQ_PRBS_CTRL.CLR = false ∧ s.bit (tqB lane)
      F.TQ_PRBS_CTRL.GEN_EN = true) ∧
    (∃ (m : Master) (lane : Fin 50) (s : State), s.reaches m (tqB lane) = true ∧ lane.val < 48 ∧ s.laneOut lane = true ∧
      s.bit (tqB lane) F.TQ_PRBS_CTRL.CHK_EN = true ∧ s.bit (tqB lane) F.TQ_PRBS_CTRL.BEN_ON = false ∧ s.bit (tqB lane)
      F.TQ_PRBS_CTRL.INJ_ONE = false ∧ s.bit (tqB lane) F.TQ_PRBS_CTRL.CLR = false ∧ s.bit (tqB lane)
      F.TQ_PRBS_CTRL.GEN_EN = false) ∧
    (∃ (m : Master) (lane : Fin 50) (s : State), s.reaches m (prbsB lane) = true ∧ 48 ≤ lane.val ∧ s.laneOut lane = true
      ∧ s.bit (pnB (lane.val - 48)) F.PN_PRBS_CTRL.GEN_EN = true ∧ s.bit (pnB (lane.val - 48)) F.PN_PRBS_CTRL.CHK_EN =
      true ∧ s.bit (pnB (lane.val - 48)) F.PN_PRBS_CTRL.INJ_ONE = false ∧ s.align (lane.val - 48) = 3 ∧ ((s.pn (lane.val
      - 48)).benFrom.isSome && (s.pn (lane.val - 48)).benTill.isNone) = s.bit (pnB (lane.val - 48))
      F.PN_PRBS_CTRL.BEN_ON) ∧
    (∃ (m : Master) (lane : Fin 50) (s : State), s.reaches m (prbsB lane) = true ∧ 48 ≤ lane.val ∧ s.laneOut lane =
      false) ∧
    (∃ (m : Master) (lane : Fin 50) (s : State), s.reaches m (tqB lane) = true ∧ lane.val < 48 ∧ s.laneOut lane = true ∧
      s.bit (tqB lane) F.TQ_PRBS_CTRL.CHK_EN = true ∧ s.bit (tqB lane) F.TQ_PRBS_CTRL.BEN_ON = false ∧ s.bit (tqB lane)
      F.TQ_PRBS_CTRL.INJ_ONE = false ∧ s.bit (tqB lane) F.TQ_PRBS_CTRL.CLR = false) ∧
    (∃ (m : Master) (lane : Fin 50) (s : State), s.reaches m (prbsB lane) = true ∧ 48 ≤ lane.val ∧ s.laneOut lane =
      false) ∧
    (∃ (lane : Fin 50) (bits : List Bool) (times : Nat) (rest : List Bool) (s : State), s.laneOut lane = false) ∧
    (∃ (lane : Fin 50) (bits : List Bool) (times : Nat) (rest : List Bool) (s : State), s.laneOut lane = true ∧ s.prbsV
      lane F.TQ_PRBS_CTRL.CHK_EN = 0 ∧ s.prbsV lane F.TQ_PRBS_CTRL.GEN_EN = 1 ∧ s.laneLoop lane = 0 ∧ (laneBits bits
      times rest) ≠ []) ∧
    (∃ (lane : Fin 50) (bits : List Bool) (times : Nat) (rest : List Bool) (s : State), s.laneOut lane = true ∧ s.prbsV
      lane F.TQ_PRBS_CTRL.CHK_EN = 0 ∧ s.prbsV lane F.TQ_PRBS_CTRL.GEN_EN = 0) ∧
    (∃ (lane : Fin 50) (bits : List Bool) (times : Nat) (rest : List Bool) (x : Bool) (s : State), s.laneOut lane = true
      ∧ s.prbsV lane F.TQ_PRBS_CTRL.CHK_EN = 1 ∧ s.prbsV lane F.TQ_PRBS_CTRL.GEN_EN = 0 ∧ s.bit (prbsB lane) (prbsF lane
      F.TQ_PRBS_STAT.LOCK) = true ∧ s.laneLoop lane = 0 ∧ (laneBits bits times rest) = [x] ∧ (s.prbsOf lane).errs < 16) ∧
    (∃ (lane : Fin 50) (bits : List Bool) (times : Nat) (rest : List Bool) (x : Bool) (s : State), s.laneOut lane = true
      ∧ s.prbsV lane F.TQ_PRBS_CTRL.CHK_EN = 1 ∧ s.prbsV lane F.TQ_PRBS_CTRL.GEN_EN = 0 ∧ s.bit (prbsB lane) (prbsF lane
      F.TQ_PRBS_STAT.LOCK) = false ∧ s.laneLoop lane = 0 ∧ (laneBits bits times rest) = [x] ∧ ((polyTaps (s.prbsV lane
      F.TQ_PRBS_CTRL.POLY))).1 ≤ ((s.prbsOf lane)).seed) :=
  ⟨⟨.host, 47, 2, 31, wSecyEntriesAndTestPatterns0_k, wSecyEntriesAndTestPatterns0, by decide +kernel⟩,
   ⟨.host, 0, 1, 7, wSecyEntriesAndTestPatterns1, by decide +kernel⟩,
   ⟨.host, 3, 0, 3, wSecyEntriesAndTestPatterns2_k, wSecyEntriesAndTestPatterns2, by decide +kernel⟩,
   ⟨.host, 3, 0, 0, wSecyEntriesAndTestPatterns3_k, wSecyEntriesAndTestPatterns3, by decide +kernel⟩,
   ⟨.host, 3, 2, 0, wSecyEntriesAndTestPatterns4_k, wSecyEntriesAndTestPatterns4, by decide +kernel⟩,
   ⟨.host, 3, 0, 4, wSecyEntriesAndTestPatterns5, by decide +kernel⟩,
   ⟨0, wS, by decide +kernel⟩,
   ⟨.host, 47, wSecyEntriesAndTestPatterns7, by decide +kernel⟩,
   ⟨.host, 0, wSecyEntriesAndTestPatterns8, by decide +kernel⟩,
   ⟨.host, 49, wSecyEntriesAndTestPatterns9, by decide +kernel⟩,
   ⟨.host, 49, wSecyEntriesAndTestPatterns10, by decide +kernel⟩,
   ⟨.host, 47, wSecyEntriesAndTestPatterns11, by decide +kernel⟩,
   ⟨.host, 49, wSecyEntriesAndTestPatterns12, by decide +kernel⟩,
   ⟨49, [true], 1, [], wSecyEntriesAndTestPatterns13, by decide +kernel⟩,
   ⟨47, (([true, false]) : List Bool), 2, [true], wSecyEntriesAndTestPatterns14, by decide +kernel⟩,
   ⟨0, (([true, false]) : List Bool), 2, [true], wSecyEntriesAndTestPatterns15, by decide +kernel⟩,
   ⟨49, [true], 1, [], wSecyEntriesAndTestPatterns16_x, wSecyEntriesAndTestPatterns16, by decide +kernel⟩,
   ⟨0, [true], 1, [], wSecyEntriesAndTestPatterns17_x, wSecyEntriesAndTestPatterns17, by decide +kernel⟩⟩

def wLinkFollowsItsConditions0 : State :=
  (wS.setF (quadB 11) F.TQ_QUAD_PLL.PLL1_LOCK 0).setF (quadB 11) F.TQ_QUAD_PLL.PLL0_LOCK 0
def wLinkFollowsItsConditions1 : State :=
  ((wS.setF (quadB 0) F.TQ_QUAD_PLL.PLL1_LOCK 1).setF (quadB 0) F.TQ_QUAD_PLL.PLL0_LOCK 1).setF (tqB 3) F.TQ_LANE_CFG.PLL_SEL 1
def wLinkFollowsItsConditions3 : State :=
  (wS.setF (tqB 47) F.TQ_LANE_STAT.LINK 1).setF (tqB 47) F.TQ_LANE_STAT.SYNC 1
def wLinkFollowsItsConditions4 : State :=
  (wS.setF (tqB 0) F.TQ_LANE_STAT.LINK 1).setF (tqB 0) F.TQ_LANE_STAT.SYNC 1
def wLinkFollowsItsConditions5 : State :=
  ((((wS.setF (tqB 0) F.TQ_LANE_STAT.LINK 0).setF (tqB 0) F.TQ_PORT_SVC.STATE 0).setF (tqB 0) F.TQ_LANE_STAT.CDR_LOCK 1).setF (tqB 0) F.TQ_LANE_CFG.MODE 2).setF (quadB 0) F.TQ_QUAD_PLL.PLL0_LOCK 1
def wLinkFollowsItsConditions6 : State :=
  (wS.setF (tqB 0) F.TQ_PORT_SVC.STATE 2).setF (tqB 0) F.TQ_LANE_STAT.CDR_LOCK 1
def wLinkFollowsItsConditions7 : State :=
  ((((wS.setF (tqB 0) F.TQ_LANE_STAT.SYNC 1).setF (tqB 0) F.TQ_PORT_SVC.STATE 0).setF (tqB 0) F.TQ_LANE_CFG.FEC 1).setF (tqB 0) F.TQ_LANE_CFG.MODE 1).setF (quadB 0) F.TQ_QUAD_PLL.PLL0_LOCK 1
def wLinkFollowsItsConditions8 : State :=
  (wS.setF (tqB 47) F.TQ_LANE_STAT.SYNC 1).setF (tqB 47) F.TQ_LANE_CFG.MODE 1
def wLinkFollowsItsConditions9 : State :=
  wS.setF (tqB 47) F.TQ_LANE_CFG.MODE 4
def wLinkFollowsItsConditions10 : State :=
  ((wS.setF (tqB 0) F.TQ_LANE_STAT.SYNC 1).setF (tqB 0) F.TQ_MAC_CTRL.AN_EN 1).setF (tqB 0) F.TQ_LANE_CFG.MODE 4
def wLinkFollowsItsConditions11 : State :=
  ((wS.setF (tqB 0) F.TQ_LANE_STAT.SYNC 1).setF (tqB 0) F.TQ_MAC_CTRL.AN_EN 1).setF (tqB 0) F.TQ_LANE_CFG.MODE 5

/-- States and operands that meet the hypotheses of each clause of Obligations.LinkFollowsItsConditions. -/
theorem wit_LinkFollowsItsConditions :
    (∃ (q : Fin 12) (pll : Fin 2) (lock : Bool) (s : State), s.bit (quadB q) ((if pll = 0 then F.TQ_QUAD_PLL.PLL0_LOCK
      else F.TQ_QUAD_PLL.PLL1_LOCK)) = false ∧ lock = true) ∧
    (∃ (q : Fin 12) (pll : Fin 2) (lock : Bool) (s : State), s.bit (quadB q) ((if pll = 0 then F.TQ_QUAD_PLL.PLL0_LOCK
      else F.TQ_QUAD_PLL.PLL1_LOCK)) = true ∧ lock = false) ∧
    (∃ (n : Port) (lock : Bool) (s : State), lock = true) ∧
    (∃ (n : Port) (lock : Bool) (s : State), lock = false) ∧
    (∃ (n : Port) (sync : Bool) (s : State), s.live (quadId n) = true ∧ sync = false) ∧
    (∃ (n : Port) (sync : Bool) (s : State), s.live (quadId n) = true ∧ sync = true ∧ s.portState n = 0 ∧ s.bit (tqB n)
      F.TQ_LANE_STAT.CDR_LOCK = true ∧ s.linkUp n = false) ∧
    (∃ (n : Port) (sync : Bool) (s : State), sync = true ∧ (s.portState n ≠ 0 ∨ s.bit (tqB n) F.TQ_LANE_STAT.CDR_LOCK =
      false)) ∧
    (∃ (n : Port) (lock : Bool) (s : State), s.live (quadId n) = true ∧ s.laneFec n ≠ 0 ∧ s.portState n = 0) ∧
    (∃ (n : Port) (bad : Bool) (s : State), s.live (quadId n) = true ∧ (s.laneMode n = 1 ∨ s.laneMode n = 2) ∧ s.bit
      (tqB n) F.TQ_LANE_STAT.SYNC = true ∧ s.bit (tqB n) F.TQ_LANE_STAT.HI_BER ≠ bad) ∧
    (∃ (n : Port) (bad : Bool) (s : State), ((s.laneMode n ≠ 1 ∧ s.laneMode n ≠ 2) ∨ s.bit (tqB n) F.TQ_LANE_STAT.SYNC =
      false ∨ s.bit (tqB n) F.TQ_LANE_STAT.HI_BER = bad)) ∧
    (∃ (n : Port) (speed : BitVec 2) (half : Bool) (s : State), s.live (quadId n) = true ∧ s.anRuns n = true ∧
      s.laneMode n = 4 ∧ s.bit (tqB n) F.TQ_LANE_STAT.SYNC = true) ∧
    (∃ (n : Port) (speed : BitVec 2) (half : Bool) (s : State), s.live (quadId n) = true ∧ s.anRuns n = true ∧
      s.laneMode n = 5 ∧ s.bit (tqB n) F.TQ_LANE_STAT.SYNC = true) :=
  ⟨⟨11, 1, true, wLinkFollowsItsConditions0, by decide +kernel⟩,
   ⟨0, 1, false, wLinkFollowsItsConditions1, by decide +kernel⟩,
   ⟨0, true, wS, by decide +kernel⟩,
   ⟨47, false, wLinkFollowsItsConditions3, by decide +kernel⟩,
   ⟨0, false, wLinkFollowsItsConditions4, by decide +kernel⟩,
   ⟨0, true, wLinkFollowsItsConditions5, by decide +kernel⟩,
   ⟨0, true, wLinkFollowsItsConditions6, by decide +kernel⟩,
   ⟨0, true, wLinkFollowsItsConditions7, by decide +kernel⟩,
   ⟨47, true, wLinkFollowsItsConditions8, by decide +kernel⟩,
   ⟨47, true, wLinkFollowsItsConditions9, by decide +kernel⟩,
   ⟨0, 1, true, wLinkFollowsItsConditions10, by decide +kernel⟩,
   ⟨0, 3, true, wLinkFollowsItsConditions11, by decide +kernel⟩⟩

def wPortsCalibrateAndChangeService0 : State :=
  (wS.setF (tqB 5) F.TQ_LANE_CFG.MODE 1).setF aonB F.AON_BOOT_STAT.STAGE 9
def wPortsCalibrateAndChangeService1 : State :=
  (wS.setF (tqB 5) F.TQ_LANE_CFG.MODE 1).setF aonB F.AON_BOOT_STAT.STAGE 9
def wPortsCalibrateAndChangeService1_k : Fin 4 :=
  (fun (fail : Option (Fin 4)) => fail.getD 0) ((some 3) : Option (Fin 4))
def wPortsCalibrateAndChangeService2 : State :=
  ((wS.setF (tqB 5) F.TQ_LANE_CFG.MODE 1).setF (tqB 5) F.TQ_PORT_SVC.STATE 2).setF (tqB 5) F.TQ_LANE_STAT.SYNC 0
def wPortsCalibrateAndChangeService3 : State :=
  (wS.setF (tqB 47) F.TQ_LANE_CFG.MODE 1).setF (tqB 47) F.TQ_PORT_SVC.STATE 2
def wPortsCalibrateAndChangeService3_k : Fin 4 :=
  (fun (fail : Option (Fin 4)) => fail.getD 0) ((some 0) : Option (Fin 4))
def wPortsCalibrateAndChangeService4 : State :=
  ((wS.setF (tqB 47) F.TQ_LANE_CFG.MODE 1).setF (tqB 47) F.TQ_PORT_SVC.STATE 2).setF timB F.TIM_STAT.XTAL_FB 1
def wPortsCalibrateAndChangeService5 : State :=
  wS.setF aonB F.AON_BOOT_STAT.STAGE 9
def wPortsCalibrateAndChangeService6 : State :=
  wS.setF aonB F.AON_BOOT_STAT.STAGE 9
def wPortsCalibrateAndChangeService6_k : Fin 4 :=
  (fun (fail : Option (Fin 4)) => fail.getD 0) ((some 3) : Option (Fin 4))
def wPortsCalibrateAndChangeService7 : State :=
  wS.setF (tqB 3) F.TQ_PORT_SVC.STATE 1
def wPortsCalibrateAndChangeService8 : State :=
  wS.setF (tqB 3) F.TQ_PORT_SVC.STATE 2
def wPortsCalibrateAndChangeService9 : State :=
  (wS.setF (tqB 3) F.TQ_PORT_SVC.STATE 0).setF (tqB 3) F.TQ_LANE_STAT.LINK 1
def wPortsCalibrateAndChangeService10 : State :=
  { (wS.setF (tqB 3) F.TQ_PORT_SVC.STATE 0).setF (tqB 3) F.TQ_LANE_STAT.LINK 0 with tmg := { wS.tmg with qs := [] } }
def wPortsCalibrateAndChangeService11 : State :=
  { wS with counting := 0 }

/-- States and operands that meet the hypotheses of each clause of Obligations.PortsCalibrateAndChangeService. -/
theorem wit_PortsCalibrateAndChangeService :
    (∃ (n : Fin 50) (fail : Option (Fin 4)) (s : State), n.val < 48 ∧ s.pwr.fast.contains (quadId n) = false ∧
      s.laneMode n ≠ 0 ∧ s.stage = 9) ∧
    (∃ (n : Fin 50) (fail : Option (Fin 4)) (k : Fin 4) (s : State), n.val < 48 ∧ s.pwr.fast.contains (quadId n) = false
      ∧ s.laneMode n ≠ 0 ∧ s.stage = 9 ∧ fail = some k) ∧
    (∃ (n : Fin 50) (fail : Option (Fin 4)) (s : State), n.val < 48 ∧ s.pwr.fast.contains (quadId n) = false ∧
      s.laneMode n ≠ 0 ∧ s.stage ≠ 9 ∧ s.portState n = 2 ∧ s.bit aonB F.AON_BOOT_STAT.XTAL_FB = false ∧ s.bit timB
      F.TIM_STAT.XTAL_FB = false ∧ s.bit (tqB n) F.TQ_LANE_STAT.SYNC = false ∧ s.linkUp n = false) ∧
    (∃ (n : Fin 50) (fail : Option (Fin 4)) (k : Fin 4) (s : State), n.val < 48 ∧ s.pwr.fast.contains (quadId n) = false
      ∧ s.laneMode n ≠ 0 ∧ s.stage ≠ 9 ∧ s.portState n = 2 ∧ s.bit aonB F.AON_BOOT_STAT.XTAL_FB = false ∧ s.bit timB
      F.TIM_STAT.XTAL_FB = false ∧ s.linkUp n = false ∧ fail = some k) ∧
    (∃ (n : Fin 50) (fail : Option (Fin 4)) (s : State), n.val < 48 ∧ s.laneMode n ≠ 0 ∧ s.stage ≠ 9 ∧ s.portState n = 2
      ∧ (s.bit aonB F.AON_BOOT_STAT.XTAL_FB = true ∨ s.bit timB F.TIM_STAT.XTAL_FB = true)) ∧
    (∃ (n : Fin 50) (s : State), 48 ≤ n.val ∧ s.stage = 9) ∧
    (∃ (n : Fin 50) (fail : Option (Fin 4)) (k : Fin 4) (s : State), 48 ≤ n.val ∧ s.stage = 9 ∧ fail = some k) ∧
    (∃ (m : Master) (n : Port) (s : State), s.reaches m (tqB n) = true ∧ 4 ≤ s.counting ∧ s.portState n = 1 ∧ s.linkUp n
      = false ∧ s.bit (tqB n) F.TQ_PRBS_STAT.LOCK = false) ∧
    (∃ (m : Master) (n : Port) (rxBusy : Bool) (s : State), s.reaches m (tqB n) = true ∧ 4 ≤ s.counting ∧ s.portState n
      = 2 ∧ s.linkUp n = false) ∧
    (∃ (m : Master) (n : Port) (rxBusy : Bool) (s : State), s.reaches m (tqB n) = true ∧ 4 ≤ s.counting ∧ s.portState n
      = 0) ∧
    (∃ (m : Master) (n : Port) (rxBusy : Bool) (s : State), s.reaches m (tqB n) = true ∧ 4 ≤ s.counting ∧ s.portState n
      = 0 ∧ s.linkUp n = false ∧ ((List.range 8).all fun i => decide (s.q (8 * n + i) = QState.empty)) = true ∧ s.act 0
      ≠ 5 ∧ s.act 1 ≠ 5) ∧
    (∃ (m : Master) (n : Port) (rxBusy : Bool) (s : State), s.reaches m (tqB n) = true ∧ s.counting < 4) :=
  ⟨⟨5, none, wPortsCalibrateAndChangeService0, by decide +kernel⟩,
   ⟨5, ((some 3) : Option (Fin 4)), wPortsCalibrateAndChangeService1_k, wPortsCalibrateAndChangeService1,
     by decide +kernel⟩,
   ⟨5, none, wPortsCalibrateAndChangeService2, by decide +kernel⟩,
   ⟨47, ((some 0) : Option (Fin 4)), wPortsCalibrateAndChangeService3_k, wPortsCalibrateAndChangeService3,
     by decide +kernel⟩,
   ⟨47, none, wPortsCalibrateAndChangeService4, by decide +kernel⟩,
   ⟨48, wPortsCalibrateAndChangeService5, by decide +kernel⟩,
   ⟨49, ((some 3) : Option (Fin 4)), wPortsCalibrateAndChangeService6_k, wPortsCalibrateAndChangeService6,
     by decide +kernel⟩,
   ⟨.host, 3, wPortsCalibrateAndChangeService7, by decide +kernel⟩,
   ⟨.host, 3, true, wPortsCalibrateAndChangeService8, by decide +kernel⟩,
   ⟨.host, 3, true, wPortsCalibrateAndChangeService9, by decide +kernel⟩,
   ⟨.host, 3, true, wPortsCalibrateAndChangeService10, by decide +kernel⟩,
   ⟨.host, 3, true, wPortsCalibrateAndChangeService11, by decide +kernel⟩⟩

def wPauseAndTheWatchdog0 : State :=
  (((((wS.setF (tqB 5) F.TQ_PORT_SVC.STATE 0).setF (tqB 5) F.TQ_LANE_STAT.LINK 1).setF (tqB 5) F.TQ_LANE_CFG.MODE 2).setF (tqB 5) F.TQ_MAC_CTRL.FC_MODE 2).setF (tqB 5) F.TQ_PORT_CFG.RADIO 1).setF (tqB 5) F.TQ_WDOG_STAT.PAUSED 0x81
def wPauseAndTheWatchdog1 : State :=
  (((wS.setF (tqB 5) F.TQ_PORT_SVC.STATE 0).setF (tqB 5) F.TQ_LANE_STAT.LINK 1).setF (tqB 5) F.TQ_LANE_CFG.MODE 2).setF (tqB 5) F.TQ_MAC_CTRL.FC_MODE 0
def wPauseAndTheWatchdog2 : State :=
  (wS.setF (tqB 5) F.TQ_WDOG_STAT.PAUSED 0x81).startTimer (Tm.pause 5 7) 9
def wPauseAndTheWatchdog3 : State :=
  ((wS.setF (tqB 5) F.TQ_WDOG_STAT.PAUSED 0x81).setF (tqB 5) F.TQ_MAC_CTRL.FC_MODE 1).startTimer (Tm.wdog 5 7) 9
def wPauseAndTheWatchdog4 : State :=
  (wS.setF (tqB 5) F.TQ_WDOG_STAT.BROKEN 0x81).startTimer (Tm.holdoff 5 0) 9
def wPauseAndTheWatchdog5 : State :=
  { (((((wS.setF (tqB 5) F.TQ_PORT_SVC.STATE 0).setF (tqB 5) F.TQ_LANE_STAT.LINK 1).setF (tqB 5) F.TQ_LANE_CFG.MODE 2).setF (tqB 5) F.TQ_MAC_CTRL.FC_MODE 2).setF (tqB 5) F.TQ_PFC_CFG.QUANTA 7) with tq := [], tmg := { wS.tmg with xoff := [(5, 0x21)] } }
def wPauseAndTheWatchdog6 : State :=
  { (((((wS.setF (tqB 5) F.TQ_PORT_SVC.STATE 0).setF (tqB 5) F.TQ_LANE_STAT.LINK 1).setF (tqB 5) F.TQ_LANE_CFG.MODE 2).setF (tqB 5) F.TQ_MAC_CTRL.FC_MODE 2).setF (tqB 5) F.TQ_PFC_CFG.QUANTA 7) with tq := [(5, { TqPort.empty with sent := 0x21 })], tmg := { wS.tmg with xoff := [] } }
def wPauseAndTheWatchdog7 : State :=
  { (((((wS.setF (tqB 5) F.TQ_PORT_SVC.STATE 0).setF (tqB 5) F.TQ_LANE_STAT.LINK 1).setF (tqB 5) F.TQ_LANE_CFG.MODE 2).setF (tqB 5) F.TQ_MAC_CTRL.FC_MODE 2).setF (tqB 5) F.TQ_PFC_CFG.QUANTA 7).startTimer (Tm.refresh 5) 3 with tmg := { wS.tmg with xoff := [(5, 0x21)] }, tq := [(5, { TqPort.empty with sent := 0x21 })] }
def wPauseAndTheWatchdog8 : State :=
  { wS.startTimer (Tm.refresh 5) 3 with tq := [] }

/-- States and operands that meet the hypotheses of each clause of Obligations.PauseAndTheWatchdog. -/
theorem wit_PauseAndTheWatchdog :
    (∃ (n : Port) (pfc : Bool) (mask : BitVec 8) (quanta : BitVec 128) (s : State), s.rxOn n = true ∧ (s.fcMode n = if
      pfc then 2 else 1)) ∧
    (∃ (n : Port) (pfc : Bool) (mask : BitVec 8) (quanta : BitVec 128) (s : State), s.rxOn n = true ∧ (s.fcMode n ≠ if
      pfc then 2 else 1)) ∧
    (∃ (n : Port) (i : Fin 8) (s : State), s.live (quadId n) = true ∧ s.timerOn (Tm.pause n i) = true) ∧
    (∃ (n : Port) (i : Fin 8) (s : State), s.live (quadId n) = true ∧ s.timerOn (Tm.wdog n i) = true) ∧
    (∃ (n : Port) (i : Fin 8) (s : State), s.live (quadId n) = true ∧ s.timerOn (Tm.holdoff n i) = true) ∧
    (∃ (n : Port) (s : State), s.live (quadId n) = true ∧ (s.port n).launch = none ∧ s.portState n = 0 ∧ s.linkUp n =
      true ∧ (s.port n).sent = 0 ∧ (if s.fcMode n = 2 then s.xoffOf n else if s.fcMode n = 1 ∧ s.xoffOf n ≠ 0 then 0xFF
      else 0) ≠ 0 ∧ 0 < s.tqF n F.TQ_PFC_CFG.QUANTA) ∧
    (∃ (n : Port) (s : State), s.live (quadId n) = true ∧ (s.port n).launch = none ∧ s.portState n = 0 ∧ s.linkUp n =
      true ∧ (s.port n).sent ≠ 0 ∧ s.xoffOf n = 0) ∧
    (∃ (n : Port) (s : State), s.live (quadId n) = true ∧ s.timerOn (Tm.refresh n) = true ∧ s.portState n = 0 ∧ s.linkUp
      n = true ∧ (s.port n).sent ≠ 0 ∧ 0 < s.tqF n F.TQ_PFC_CFG.QUANTA ∧ (s.port n).launch = none ∧ s.xoffWant n =
      (s.port n).sent) ∧
    (∃ (n : Port) (s : State), s.live (quadId n) = true ∧ s.timerOn (Tm.refresh n) = true ∧ (s.port n).sent = 0 ∧
      (s.port n).launch = none ∧ s.xoffWant n = 0) :=
  ⟨⟨5, true, 0x81, 3, wPauseAndTheWatchdog0, by decide +kernel⟩,
   ⟨5, true, 0x81, 3, wPauseAndTheWatchdog1, by decide +kernel⟩,
   ⟨5, 7, wPauseAndTheWatchdog2, by decide +kernel⟩,
   ⟨5, 7, wPauseAndTheWatchdog3, by decide +kernel⟩,
   ⟨5, 0, wPauseAndTheWatchdog4, by decide +kernel⟩,
   ⟨5, wPauseAndTheWatchdog5, by decide +kernel⟩,
   ⟨5, wPauseAndTheWatchdog6, by decide +kernel⟩,
   ⟨5, wPauseAndTheWatchdog7, by decide +kernel⟩,
   ⟨5, wPauseAndTheWatchdog8, by decide +kernel⟩⟩

def wRegisterWritesAndReads0 : State :=
  wS.setF aonB F.AON_SEAL.SEALED 0
def wRegisterWritesAndReads2 : State :=
  wS.setReg (aonB + 0x10) 0x0FFF0F03
def wRegisterWritesAndReads3 : State :=
  (wS.setReg (stwB + 0x20) 0xFFFFFFFF).setF hstB F.HST_CFG.HOSTLESS 0
def wRegisterWritesAndReads15 : State :=
  { wS with fuse := { wS.fuse with life := 3 } }
def wRegisterWritesAndReads17 : State :=
  wS.setReg (aonB + 0x10) 0x0FFF0F03
def wRegisterWritesAndReads21 : State :=
  wS.setReg (vltB + 0x140) 0x80000003

/-- States and operands that meet the hypotheses of each clause of Obligations.RegisterWritesAndReads. -/
theorem wit_RegisterWritesAndReads :
    (∃ (m : Master) (a : BitVec 24) (v : Word) (s : State), jobPort ((4 * a.toNat)) = none ∧ s.r54Discards m ((4 *
      a.toNat)) = true) ∧
    (∃ (m : Master) (a : BitVec 24) (v : Word) (s : State), jobPort ((4 * a.toNat)) = none ∧ s.r54Discards m ((4 *
      a.toNat)) = false ∧ (islandInst (islandOf ((4 * a.toNat)))).isNone = true) ∧
    (∃ (m : Master) (a : BitVec 24) (v : Word) (s : State), jobPort ((4 * a.toNat)) = none ∧ s.r54Discards m ((4 *
      a.toNat)) = false ∧ (islandInst (islandOf ((4 * a.toNat)))).isSome = true ∧ s.live (islandOf ((4 * a.toNat))) =
      false) ∧
    (∃ (m : Master) (a : BitVec 24) (v : Word) (s : State), jobPort ((4 * a.toNat)) = none ∧ s.r54Discards m ((4 *
      a.toNat)) = false ∧ (islandInst (islandOf ((4 * a.toNat)))).isSome = true ∧ s.live (islandOf ((4 * a.toNat))) =
      true ∧ s.ownDiscards m ((4 * a.toNat)) = true) ∧
    (∃ (m : Master) (a : BitVec 24) (v : Word) (s : State), s.r54Discards m ((4 * a.toNat)) = false ∧ s.live (islandOf
      ((4 * a.toNat))) = true ∧ s.dmaDiscards m ((4 * a.toNat)) = true) ∧
    (∃ (m : Master) (a : BitVec 24) (v : Word) (s : State), jobPort ((4 * a.toNat)) = none ∧ s.reaches m ((4 * a.toNat))
      = true ∧ (findReg ((4 * a.toNat))).isNone = true) ∧
    (∃ (m : Master) (a : BitVec 24) (v : Word) (s : State), s.reaches m ((4 * a.toNat)) = true ∧ (findReg ((4 *
      a.toNat))).isSome = true ∧ ((islandOf ((4 * a.toNat)) = 0x3C ∧ 0x1000 ≤ offsetOf ((4 * a.toNat))) ∨ (islandOf ((4
      * a.toNat)) = 0x3E ∧ offsetOf ((4 * a.toNat)) < 0x400 ∧ offsetOf ((4 * a.toNat)) ≠ 0) ∨ (islandOf ((4 * a.toNat))
      = 0x22 ∧ 0x100 ≤ offsetOf ((4 * a.toNat)) ∧ offsetOf ((4 * a.toNat)) < 0x180) ∨ (islandOf ((4 * a.toNat)) = 0x04 ∧
      offsetOf ((4 * a.toNat)) < 0x10) ∨ (0x10 ≤ islandOf ((4 * a.toNat)) ∧ islandOf ((4 * a.toNat)) ≤ 0x1B ∧ 0x4000 ≤
      offsetOf ((4 * a.toNat)) ∧ offsetOf ((4 * a.toNat)) ≠ 0x8000))) ∧
    (∃ (m : Master) (i : BitVec 8) (v : Word) (s : State), m = .host ∧ s.live 0x3A = true ∧ s.evt.msixEnable = false) ∧
    (∃ (m : Master) (i : BitVec 8) (v : Word) (s : State), (m = .steward ∨ s.live 0x3A = false)) ∧
    (∃ (m : Master) (enable : Bool) (mask : Bool) (v : Word) (s : State), m = .host ∧ s.live 0x3A = true ∧ 6 ≤ s.stage ∧
      (enable = false ∨ s.pathDown = true ∨ ((List.range 64).all fun k => !SMap.get (fun _ => false) s.evt.msixPba k) =
      true)) ∧
    (∃ (m : Master) (corr : Bool) (v : Word) (s : State), m = .host ∧ s.live 0x3A = true ∧ 6 ≤ s.stage) ∧
    (∃ (m : Master) (corr : Bool) (v : Word) (s : State), (m = .steward ∨ s.live 0x3A = false ∨ s.stage < 6)) ∧
    (∃ (m : Master) (sev : Fin 3) (v : Word) (s : State), m = .steward ∧ s.live 0x3F = true ∧ s.stwState ≠ 3) ∧
    (∃ (m : Master) (sev : Fin 3) (v : Word) (s : State), (m = .host ∨ s.live 0x3F = false ∨ s.stwState = 3)) ∧
    (∃ (m : Master) (i : TapInstr) (a : BitVec 24) (v : Word) (s : State), m = .host ∧ (s.tapReaches i = false ∨ i =
      .bypass)) ∧
    (∃ (m : Master) (a : BitVec 24) (s : State), (islandInst (islandOf ((4 * a.toNat)))).isNone = true) ∧
    (∃ (m : Master) (a : BitVec 24) (s : State), (islandInst (islandOf ((4 * a.toNat)))).isSome = true ∧ s.live
      (islandOf ((4 * a.toNat))) = false) ∧
    (∃ (m : Master) (a : BitVec 24) (s : State), (islandInst (islandOf ((4 * a.toNat)))).isSome = true ∧ s.live
      (islandOf ((4 * a.toNat))) = true ∧ isCounterWord ((4 * a.toNat)) = false ∧ isPmcWord ((4 * a.toNat)) = false ∧
      isHeader ((4 * a.toNat)) = false ∧ (findReg ((4 * a.toNat))).isNone = true) ∧
    (∃ (m : Master) (a : BitVec 24) (s : State), (islandInst (islandOf ((4 * a.toNat)))).isSome = true ∧ s.live
      (islandOf ((4 * a.toNat))) = true ∧ isCounterWord ((4 * a.toNat)) = false ∧ isPmcWord ((4 * a.toNat)) = false ∧
      isHeader ((4 * a.toNat)) = true) ∧
    (∃ (m : Master) (a : BitVec 24) (s : State), (islandInst (islandOf ((4 * a.toNat)))).isSome = true ∧ s.live
      (islandOf ((4 * a.toNat))) = true ∧ isCounterWord ((4 * a.toNat)) = false ∧ isPmcWord ((4 * a.toNat)) = false ∧
      isStatusWord ((4 * a.toNat)) = false ∧ isHeader ((4 * a.toNat)) = false ∧ (findReg ((4 * a.toNat))).isSome = true
      ∧ islandOf ((4 * a.toNat)) ≠ 0x08 ∧ islandOf ((4 * a.toNat)) ≠ 0x09 ∧ islandOf ((4 * a.toNat)) ≠ 0x25 ∧ islandOf
      ((4 * a.toNat)) ≠ 0x3F) ∧
    (∃ (m : Master) (a : BitVec 24) (s : State), isStatusWord ((4 * a.toNat)) = true ∧ (findReg ((4 * a.toNat))).isSome
      = true ∧ isHeader ((4 * a.toNat)) = false ∧ isCounterWord ((4 * a.toNat)) = false ∧ s.live (islandOf ((4 *
      a.toNat))) = true ∧ ((((findReg (4 * a.toNat)).getD ⟨0, [], []⟩)).fields.all fun f => decide (f.acc ≠ .rc)) =
      true) ∧
    (∃ (m : Master) (a : BitVec 24) (s : State), isCounterWord ((4 * a.toNat)) = true ∧ isPmcWord ((4 * a.toNat)) =
      false ∧ a.toNat % 2 = 0 ∧ (islandInst (islandOf ((4 * a.toNat)))).isSome = true ∧ s.live (islandOf ((4 *
      a.toNat))) = true) ∧
    (∃ (m : Master) (a : BitVec 24) (s : State), isPmcWord ((4 * a.toNat)) = true ∧ a.toNat % 2 = 0 ∧ s.live (islandOf
      ((4 * a.toNat))) = true) ∧
    (∃ (a : BitVec 26) (write : Bool) (byteEnables : Bool) (s : State), s.live 0x3A = true) ∧
    (∃ (a : BitVec 26) (s : State), s.live 0x3A = true) :=
  ⟨⟨.host, 0x100000, 5, wRegisterWritesAndReads0, by decide +kernel⟩,
   ⟨.host, 0x80000, 5, wS, by decide +kernel⟩,
   ⟨.steward, ((0x100000 + BitVec.ofNat 24 (4 % 200)) : BitVec 24), 5, wRegisterWritesAndReads2, by decide +kernel⟩,
   ⟨.steward, ((0x100000 + BitVec.ofNat 24 (4 % 200)) : BitVec 24), 5, wRegisterWritesAndReads3, by decide +kernel⟩,
   ⟨.steward, ((0xEC0000 + BitVec.ofNat 24 (4 % 4096)) : BitVec 24), 5, wS, by decide +kernel⟩,
   ⟨.host, 0xF00020, 5, wS, by decide +kernel⟩,
   ⟨.host,
     ((if 4 % 3 = 0 then 0xF00404 + BitVec.ofNat 24 (4 % 400) else if 4 % 3 = 1 then 0x880043 + BitVec.ofNat 24 (4 / 3 % 32) else 0xF80040 + BitVec.ofNat 24 (4 / 3 % 90)) : BitVec 24),
     0xA5A5, wS, by decide +kernel⟩,
   ⟨.host, 7, 0, wS, by decide +kernel⟩,
   ⟨.steward, 7, 0, wS, by decide +kernel⟩,
   ⟨.host, true, false, 0, wS, by decide +kernel⟩,
   ⟨.host, false, 5, wS, by decide +kernel⟩,
   ⟨.steward, false, 5, wS, by decide +kernel⟩,
   ⟨.steward, 2, 0xABCD, wS, by decide +kernel⟩,
   ⟨.host, 2, 0xABCD, wS, by decide +kernel⟩,
   ⟨.host, .scanChain, 0, 0x80000001, wRegisterWritesAndReads15, by decide +kernel⟩,
   ⟨.host, 0x80000, wS, by decide +kernel⟩,
   ⟨.steward, 0x100000, wRegisterWritesAndReads17, by decide +kernel⟩,
   ⟨.host, 0xF00020, wS, by decide +kernel⟩,
   ⟨.host, 0x1003FF, wS, by decide +kernel⟩,
   ⟨.host,
     ((if 4 % 2 = 0 then BitVec.ofNat 24 (4 / 2 % 0x60 + 2) else 0xB00000 + BitVec.ofNat 24 (4 / 2 % 0x60)) : BitVec 24),
     wS, by decide +kernel⟩,
   ⟨.host,
     ((if 4 % 4 = 0 then 0xB00050 else if 4 % 4 = 1 then 0x20001D else if 4 % 4 = 2 then 0x100008 else 0xF40004) : BitVec 24),
     wRegisterWritesAndReads21, by decide +kernel⟩,
   ⟨.host, ((if 4 % 2 = 0 then 0xE80100 else 0x400200) : BitVec 24), wS, by decide +kernel⟩,
   ⟨.host, 0xF80102, wS, by decide +kernel⟩,
   ⟨0x100002, false, false, wS, by decide +kernel⟩,
   ⟨0x100004, wS, by decide +kernel⟩⟩

def wTallyPmcAndCheckUnits0 : State :=
  { wS.setReg (pmcB + 0xD00) 0 with tally := [(6 * 65536 + 9, 2 ^ 40 + 7)] }
def wTallyPmcAndCheckUnits1 : State :=
  (wS.setReg (pmcB + 0xD00) 0).setReg (aonB + 0x14) 0xFDFF1332
def wTallyPmcAndCheckUnits2 : State :=
  { wS.setReg (pmcB + 0xD00) 0 with tally := [(6 * 65536 + 9, 2 ^ 40 + 7)] }
def wTallyPmcAndCheckUnits3 : State :=
  wS.setReg (pmcB + 0xD00) 0
def wTallyPmcAndCheckUnits4 : State :=
  { wS.setReg (pmcB + 0xD00) 0 with tally := [(6 * 65536 + 9, 2 ^ 40 + 7)] }
def wTallyPmcAndCheckUnits5 : State :=
  wS.setReg (pmcB + 0xD00) 0
def wTallyPmcAndCheckUnits9 : State :=
  { (((wS.setF pmcB (F.PMC_SAMP_CFG.EN.at 24) 1).setF pmcB (F.PMC_SAMP_PER.PERIOD.at 24) 5).setF pmcB (F.PMC_SAMP_CFG.SESSION.at 24) 0).setF tblB F.TBL_MIRROR.EN 1 with sampN := [(3, 5)], sampArm := [] }
def wTallyPmcAndCheckUnits10 : State :=
  { ((wS.setF pmcB (F.PMC_SAMP_CFG.EN.at 24) 1).setF pmcB (F.PMC_SAMP_PER.PERIOD.at 24) 5).setF tblB F.TBL_MIRROR.EN 1 with sampN := [(3, 5)], sampArm := [(3, 1)] }
def wTallyPmcAndCheckUnits11 : State :=
  wS.setReg (chkB 3) 0
def wTallyPmcAndCheckUnits12 : State :=
  wS.setReg (chkB 0) 0
def wTallyPmcAndCheckUnits13 : State :=
  { wS.setReg (chkB 2) 0x50000000 with chk := { wS.chk with scan := [(2, (3, 3))] }, dma := [] }
def wTallyPmcAndCheckUnits14 : State :=
  { (wS.setReg (chkB 0) 0x40000000).setReg (chkB 1) 0 with chk := { wS.chk with scrubs := [7, 3] } }
def wTallyPmcAndCheckUnits14_b : Nat :=
  (fun (s : State) => s.chk.scrubs.headD 0) wTallyPmcAndCheckUnits14
def wTallyPmcAndCheckUnits14_rest : List Nat :=
  (fun (s : State) => s.chk.scrubs.tail) wTallyPmcAndCheckUnits14
def wTallyPmcAndCheckUnits14_u : Nat :=
  (fun (s : State) => ((List.range 4).find? fun u => !s.chkBusy u).getD 0) wTallyPmcAndCheckUnits14
def wTallyPmcAndCheckUnits15 : State :=
  { wS with chk := { wS.chk with scrubs := [] } }
def wTallyPmcAndCheckUnits16 : State :=
  { wS.setReg (chkB 2) 0x70000000 with chk := { wS.chk with bank := [(2, 61)] }, dma := [] }

/-- States and operands that meet the hypotheses of each clause of Obligations.TallyPmcAndCheckUnits. -/
theorem wit_TallyPmcAndCheckUnits :
    (∃ (m : Master) (sp : BitVec 5) (i : BitVec 16) (s : State), s.reaches m (pmcB + 0xD00) = true ∧ s.bit pmcB
      F.PMC_TALLY_CMD.BUSY = false ∧ sp.toNat ≤ 0x17 ∧ s.tallyNames sp.toNat i.toNat = true ∧ s.tallyLive sp.toNat
      i.toNat = true) ∧
    (∃ (m : Master) (sp : BitVec 5) (i : BitVec 16) (s : State), s.reaches m (pmcB + 0xD00) = true ∧ s.bit pmcB
      F.PMC_TALLY_CMD.BUSY = false ∧ sp.toNat ≤ 0x17 ∧ s.tallyNames sp.toNat i.toNat = true ∧ s.tallyLive sp.toNat
      i.toNat = false) ∧
    (∃ (m : Master) (sp : BitVec 5) (i : BitVec 16) (s : State), s.reaches m (pmcB + 0xD00) = true ∧ s.bit pmcB
      F.PMC_TALLY_CMD.BUSY = false ∧ sp.toNat ≤ 0x17 ∧ s.tallyNames sp.toNat i.toNat = true ∧ s.tallyLive sp.toNat
      i.toNat = true) ∧
    (∃ (m : Master) (sp : BitVec 5) (i : BitVec 16) (s : State), s.reaches m (pmcB + 0xD00) = true ∧ s.bit pmcB
      F.PMC_TALLY_CMD.BUSY = false ∧ sp.toNat ≤ 0x17 ∧ s.tallyNames sp.toNat i.toNat = false) ∧
    (∃ (m : Master) (sp : BitVec 5) (i : BitVec 16) (s : State), s.reaches m (pmcB + 0xD00) = true ∧ s.bit pmcB
      F.PMC_TALLY_CMD.BUSY = false ∧ sp.toNat ≤ 0x17 ∧ s.tallyNames sp.toNat i.toNat = true ∧ s.tallyLive sp.toNat
      i.toNat = true) ∧
    (∃ (m : Master) (sp : BitVec 5) (i : BitVec 16) (s : State), s.reaches m (pmcB + 0xD00) = true ∧ s.bit pmcB
      F.PMC_TALLY_CMD.BUSY = false ∧ 0x17 < sp.toNat) ∧
    (∃ (m : Master) (c : Fin 96) (hi : Bool) (v : Word) (s : State), s.reaches m (pmcCtr c + 4 * b2n hi) = true) ∧
    (∃ (m : Master) (s : State), s.reaches m pmcB = true) ∧
    (∃ (k : Fin 4) (skid : Fin 5) (s : State), s.fld pmcB (F.PMC_SAMP_CFG.EN.at (8 * k)) = 1 ∧ max 1 (s.fld pmcB
      (F.PMC_SAMP_PER.PERIOD.at (8 * k))) ≤ SMap.get (fun _ => 0) s.sampN k ∧ SMap.get (fun _ => 0) s.sampArm k = 0 ∧
      s.mirrorF (s.fld pmcB (F.PMC_SAMP_CFG.SESSION.at (8 * k))) F.TBL_MIRROR.EN ≠ 0) ∧
    (∃ (k : Fin 4) (skid : Fin 5) (s : State), s.fld pmcB (F.PMC_SAMP_CFG.EN.at (8 * k)) = 1 ∧ max 1 (s.fld pmcB
      (F.PMC_SAMP_PER.PERIOD.at (8 * k))) ≤ SMap.get (fun _ => 0) s.sampN k ∧ (SMap.get (fun _ => 0) s.sampArm k ≠ 0 ∨
      s.mirrorF (s.fld pmcB (F.PMC_SAMP_CFG.SESSION.at (8 * k))) F.TBL_MIRROR.EN = 0)) ∧
    (∃ (m : Master) (u : Fin 4) (poly : BitVec 2) (space : BitVec 2) (ns : Bool) (s : State), s.reaches m (chkB u) =
      true ∧ s.chkBusy u = false ∧ space.toNat < 2) ∧
    (∃ (m : Master) (u : Fin 4) (poly : BitVec 2) (space : BitVec 2) (ns : Bool) (s : State), s.reaches m (chkB u) =
      true ∧ s.chkBusy u = false ∧ 2 ≤ space.toNat) ∧
    (∃ (u : Fin 4) (data : List Byte) (busOk : Bool) (s : State), s.live 0x3D = true ∧ s.fld (chkB u) F.CHK_CTRL.USER =
      1 ∧ ((List.range 32).all fun d => !(s.dch d).waits) = true) ∧
    (∃ (b : Nat) (rest : List Nat) (u : Nat) (s : State), s.live 0x3D = true ∧ s.chk.scrubs = b :: rest ∧ ((List.range
      4).find? fun u => !s.chkBusy u) = some u) ∧
    (∃ (s : State), (s.chk.scrubs = [] ∨ ((List.range 4).all fun u => s.chkBusy u) = true)) ∧
    (∃ (u : Fin 4) (pass : Bool) (s : State), s.live 0x3D = true ∧ s.fld (chkB u) F.CHK_CTRL.USER = 3 ∧ ((SMap.get (fun
      _ => 0) s.chk.bank u)) < 64 ∧ ((List.range 32).all fun d => !(s.dch d).waits) = true) :=
  ⟨⟨.host, 6, 9, wTallyPmcAndCheckUnits0, by decide +kernel⟩,
   ⟨.host, 6, 9, wTallyPmcAndCheckUnits1, by decide +kernel⟩,
   ⟨.host, 6, 9, wTallyPmcAndCheckUnits2, by decide +kernel⟩,
   ⟨.host, 0x15, 9, wTallyPmcAndCheckUnits3, by decide +kernel⟩,
   ⟨.host, 6, 9, wTallyPmcAndCheckUnits4, by decide +kernel⟩,
   ⟨.host, 0x18, 9, wTallyPmcAndCheckUnits5, by decide +kernel⟩,
   ⟨.host, 95, true, 0xFFFFFFFF, wS, by decide +kernel⟩,
   ⟨.host, wS, by decide +kernel⟩,
   ⟨3, 4, wTallyPmcAndCheckUnits9, by decide +kernel⟩,
   ⟨3, 4, wTallyPmcAndCheckUnits10, by decide +kernel⟩,
   ⟨.host, 3, 3, 1, true, wTallyPmcAndCheckUnits11, by decide +kernel⟩,
   ⟨.host, 0, 3, 2, true, wTallyPmcAndCheckUnits12, by decide +kernel⟩,
   ⟨2, (([1, 2, 3]) : List Byte), true, wTallyPmcAndCheckUnits13, by decide +kernel⟩,
   ⟨wTallyPmcAndCheckUnits14_b, wTallyPmcAndCheckUnits14_rest, wTallyPmcAndCheckUnits14_u, wTallyPmcAndCheckUnits14,
     by decide +kernel⟩,
   ⟨wTallyPmcAndCheckUnits15, by decide +kernel⟩,
   ⟨2, false, wTallyPmcAndCheckUnits16, by decide +kernel⟩⟩

def wMemoryChannelsTrainAndServe0 : State :=
  ((wS.setMcF 7 F.MC_STAT.STATE 3).setMcF 7 F.MC_STAT.PHASE 1).setMcF 7 F.MC_TRAIN_STAT.ATTEMPTS 1
def wMemoryChannelsTrainAndServe1 : State :=
  ((wS.setMcF 7 F.MC_STAT.STATE 3).setMcF 7 F.MC_STAT.PHASE 1).setMcF 7 F.MC_TRAIN_STAT.ATTEMPTS 0
def wMemoryChannelsTrainAndServe2 : State :=
  ((wS.setMcF 7 F.MC_STAT.STATE 3).setMcF 7 F.MC_STAT.PHASE 1).setMcF 7 F.MC_TRAIN_STAT.ATTEMPTS 1
def wMemoryChannelsTrainAndServe3 : State :=
  ((wS.setMcF 0 F.MC_STAT.STATE 0).setMcF 0 F.MC_STAT.UNITS 1).setF mccB F.MCC_CFG.DENSITY 2
def wMemoryChannelsTrainAndServe4 : State :=
  ((wS.setMcF 0 F.MC_STAT.STATE 3).setMcF 0 F.MC_STAT.PHASE 2).setMcF 0 F.MC_STAT.UNITS 0
def wMemoryChannelsTrainAndServe5 : State :=
  { wS.setMcF 3 F.MC_STAT.STATE 0 with mem := { wS.mem with trace := [] } }
def wMemoryChannelsTrainAndServe6 : State :=
  { (wS.setMcF 3 F.MC_STAT.STATE 0).setF mccB F.MCC_TRACE_CFG.EN 1 with mem := { wS.mem with trace := [(3, 2), (4, 2)], ringN := 7 } }
def wMemoryChannelsTrainAndServe7 : State :=
  wS.setMcF 3 F.MC_STAT.STATE 3
def wMemoryChannelsTrainAndServe8 : State :=
  wS.setMcF 3 F.MC_STAT.STATE 1
def wMemoryChannelsTrainAndServe9 : State :=
  wS.setMcF 3 F.MC_STAT.STATE 2
def wMemoryChannelsTrainAndServe10 : State :=
  { wS.setMcF 3 F.MC_STAT.STATE 1 with mem := { wS.mem with used := [] } }
def wMemoryChannelsTrainAndServe11 : State :=
  { (wS.setMcF 3 F.MC_STAT.STATE 1).startTimer (Tm.mcDrain 3) 9 with tmg := { wS.tmg with qs := [] } }
def wMemoryChannelsTrainAndServe12 : State :=
  wS.setF mccB F.MCC_TRACE_CFG.EN 1
def wMemoryChannelsTrainAndServe13 : State :=
  (((((((wS.setF mccB F.MCC_TRACE_CFG.EN 0).setReg (aonB + 0x14) 0xFD001337))))))
def wMemoryChannelsTrainAndServe14 : State :=
  { ((((wS.setReg (aonB + 0x14) 0xFD041337).setF mccB F.MCC_TRACE_CFG.EN 0).setF mccB F.MCC_TRACE_CFG.SIZE 1).setMcF 2 F.MC_STAT.STATE 0).setMcF 2 F.MC_STAT.UNITS 1 with mem := { wS.mem with trace := [], traceBad := [], rot := 5, used := [], retired := [] } }
def wMemoryChannelsTrainAndServe15 : State :=
  { ((wS.setReg (mccB + 0x28) 0).setF mccB F.MCC_TRACE_WP.WP 6).setF mccB F.MCC_TRACE_CFG.SIZE 1 with mem := { wS.mem with ringN := 6, ring := [(4, [1, 2, 3])] } }
def wMemoryChannelsTrainAndServe16 : State :=
  { (wS.setReg (mccB + 0x28) 0).setF mccB F.MCC_TRACE_WP.WP 6 with mem := { wS.mem with ringN := 6 } }

/-- States and operands that meet the hypotheses of each clause of Obligations.MemoryChannelsTrainAndServe. -/
theorem wit_MemoryChannelsTrainAndServe :
    (∃ (c : Fin 8) (pass : Bool) (step : BitVec 3) (margins : Word) (s : State), s.mcTraining c = true ∧ pass = true) ∧
    (∃ (c : Fin 8) (pass : Bool) (step : BitVec 3) (margins : Word) (s : State), s.mcTraining c = true ∧ pass = false ∧
      s.mcF c F.MC_TRAIN_STAT.ATTEMPTS = 0) ∧
    (∃ (c : Fin 8) (pass : Bool) (step : BitVec 3) (margins : Word) (s : State), s.mcTraining c = true ∧ pass = false ∧
      s.mcF c F.MC_TRAIN_STAT.ATTEMPTS ≠ 0 ∧ s.mcState c = 3) ∧
    (∃ (c : Fin 8) (s : State), s.live (0x30 + c.val) = true ∧ s.mcState c = 0 ∧ s.mcF c F.MC_STAT.UNITS < s.mcUnits) ∧
    (∃ (c : Fin 8) (s : State), s.live (0x30 + c.val) = true ∧ s.mcState c = 3 ∧ s.mcF c F.MC_STAT.PHASE = 2 ∧ s.mcF c
      F.MC_STAT.UNITS < s.mcUnits) ∧
    (∃ (m : Master) (c : Fin 8) (s : State), s.reaches m (mcB c) = true ∧ s.mcState c = 0 ∧ pagesOf s.mem.trace c = 0) ∧
    (∃ (m : Master) (c : Fin 8) (s : State), s.reaches m (mcB c) = true ∧ s.mcState c = 0 ∧ pagesOf s.mem.trace c ≠ 0) ∧
    (∃ (m : Master) (c : Fin 8) (s : State), s.reaches m (mcB c) = true ∧ s.mcState c = 3) ∧
    (∃ (m : Master) (c : Fin 8) (s : State), s.reaches m (mcB c) = true ∧ s.mcState c = 1) ∧
    (∃ (m : Master) (c : Fin 8) (s : State), s.reaches m (mcB c) = true ∧ s.mcState c = 2 ∧ 6 < s.stage) ∧
    (∃ (c : Fin 8) (s : State), s.live (0x30 + c.val) = true ∧ s.mcState c = 1 ∧ pagesOf s.mem.used c = 0) ∧
    (∃ (c : Fin 8) (s : State), s.live (0x30 + c.val) = true ∧ s.timerOn (Tm.mcDrain c) = true ∧ s.mcState c = 1 ∧
      s.tmg.qs = []) ∧
    (∃ (m : Master) (s : State), s.reaches m (mccB + 0x20) = true ∧ (s.bit mccB F.MCC_TRACE_CFG.EN = true ∨ s.sealed =
      false)) ∧
    (∃ (m : Master) (s : State), s.reaches m (mccB + 0x20) = true ∧ s.bit mccB F.MCC_TRACE_CFG.EN = false ∧ s.sealed =
      true ∧ s.dramOn = false) ∧
    (∃ (m : Master) (s : State), s.reaches m (mccB + 0x20) = true ∧ s.bit mccB F.MCC_TRACE_CFG.EN = false ∧ s.sealed =
      true ∧ s.ringSlots = 16384 ∧ ((List.range 8).all fun k => s.mcIn k == decide (k = 2)) = true ∧ s.mem.trace = [] ∧
      s.mem.traceBad = [] ∧ 256 ≤ s.freePages 2) ∧
    (∃ (m : Master) (i : BitVec 28) (s : State), s.reaches m (mccB + 0x28) = true ∧ s.bit mccB F.MCC_TRACE_CMD.BUSY =
      false ∧ ((s.fld mccB F.MCC_TRACE_WP.WP + 2 ^ 32 - 1 - i.toNat) % 2 ^ 28) < min s.mem.ringN s.ringSlots) ∧
    (∃ (m : Master) (i : BitVec 28) (s : State), s.reaches m (mccB + 0x28) = true ∧ s.bit mccB F.MCC_TRACE_CMD.BUSY =
      false ∧ min s.mem.ringN s.ringSlots ≤ (s.fld mccB F.MCC_TRACE_WP.WP + 2 ^ 32 - 1 - i.toNat) % 2 ^ 28) :=
  ⟨⟨7, true, 3, 0x01020304, wMemoryChannelsTrainAndServe0, by decide +kernel⟩,
   ⟨7, false, 3, 0, wMemoryChannelsTrainAndServe1, by decide +kernel⟩,
   ⟨7, false, 3, 0, wMemoryChannelsTrainAndServe2, by decide +kernel⟩,
   ⟨0, wMemoryChannelsTrainAndServe3, by decide +kernel⟩,
   ⟨0, wMemoryChannelsTrainAndServe4, by decide +kernel⟩,
   ⟨.host, 3, wMemoryChannelsTrainAndServe5, by decide +kernel⟩,
   ⟨.host, 3, wMemoryChannelsTrainAndServe6, by decide +kernel⟩,
   ⟨.host, 3, wMemoryChannelsTrainAndServe7, by decide +kernel⟩,
   ⟨.host, 3, wMemoryChannelsTrainAndServe8, by decide +kernel⟩,
   ⟨.host, 3, wMemoryChannelsTrainAndServe9, by decide +kernel⟩,
   ⟨3, wMemoryChannelsTrainAndServe10, by decide +kernel⟩,
   ⟨3, wMemoryChannelsTrainAndServe11, by decide +kernel⟩,
   ⟨.host, wMemoryChannelsTrainAndServe12, by decide +kernel⟩,
   ⟨.host, wMemoryChannelsTrainAndServe13, by decide +kernel⟩,
   ⟨.host, wMemoryChannelsTrainAndServe14, by decide +kernel⟩,
   ⟨.host, 4, wMemoryChannelsTrainAndServe15, by decide +kernel⟩,
   ⟨.host, 7, wMemoryChannelsTrainAndServe16, by decide +kernel⟩⟩

def wMemoryChannelsScheduleAndRefresh0 : State :=
  (wS.setMcF 5 F.MC_STAT.STATE 0).setMcF 5 F.MC_STAT.DEBT 7
def wMemoryChannelsScheduleAndRefresh1 : State :=
  (wS.setMcF 5 F.MC_STAT.STATE 0).setMcF 5 F.MC_STAT.DEBT 8
def wMemoryChannelsScheduleAndRefresh2 : State :=
  wS.setMcF 5 F.MC_STAT.STATE 2
def wMemoryChannelsScheduleAndRefresh3 : State :=
  ((wS.setMcF 5 F.MC_STAT.STATE 0).setMcF 5 F.MC_STAT.DEBT 3).setMcF 5 F.MC_STAT.RATE 1
def wMemoryChannelsScheduleAndRefresh4 : State :=
  (wS.setMcF 5 F.MC_STAT.STATE 0).setMcF 5 F.MC_STAT.RATE 1
def wMemoryChannelsScheduleAndRefresh5 : State :=
  (wS.setMcF 5 F.MC_STAT.STATE 0).setMcF 5 F.MC_STAT.RATE 2
def wMemoryChannelsScheduleAndRefresh6 : State :=
  ((wS.setMcF 5 F.MC_STAT.STATE 0).setMcF 5 F.MC_STAT.RATE 2).setMc 5 { McChan.empty with lower := 2 }
def wMemoryChannelsScheduleAndRefresh7 : State :=
  { ((((wS.setMcF 5 F.MC_STAT.PANIC 1).setMcF 5 F.MC_STAT.DEBT 3).setF (bcB 0) F.BC_TILL_STAT.PANIC 0).setF (bcB 1) F.BC_TILL_STAT.PANIC 0) with mem := { wS.mem with wrBuf := 48 } }
def wMemoryChannelsScheduleAndRefresh8 : State :=
  wS.startTimer (Tm.throttle 5 3 6) 9
def wMemoryChannelsScheduleAndRefresh10 : State :=
  (((wS.setMcF 5 F.MC_STAT.STATE 0).setMcF 5 F.MC_STAT.DEBT 3).setMcF 5 F.MC_STAT.PANIC 0).setMc 5 McChan.empty
def wMemoryChannelsScheduleAndRefresh11 : State :=
  (wS.setMcF 5 F.MC_STAT.STATE 0).setMc 5 McChan.empty
def wMemoryChannelsScheduleAndRefresh12 : State :=
  wS.setMcF 5 F.MC_STAT.STATE 2
def wMemoryChannelsScheduleAndRefresh13 : State :=
  (wS.setMcF 5 F.MC_STAT.STATE 0).setF mccB F.MCC_CFG.SCRUB_EN 1
def wMemoryChannelsScheduleAndRefresh14 : State :=
  wS.setF mccB F.MCC_CFG.SCRUB_EN 0
def wMemoryChannelsScheduleAndRefresh16 : State :=
  (wS.setMcF 5 F.MC_ECC_LOG0.VALID 0).setMc 5 { McChan.empty with reads := [⟨6, false, 3, 9, 1, false, false⟩] }
def wMemoryChannelsScheduleAndRefresh16_r : McReq :=
  (fun (s : State) (c : Fin 8) => (s.mc c).reads.headD ⟨0, false, 0, 0, 0, false, false⟩) wMemoryChannelsScheduleAndRefresh16 5
def wMemoryChannelsScheduleAndRefresh16_rest : List McReq :=
  (fun (s : State) (c : Fin 8) => (s.mc c).reads.tail) wMemoryChannelsScheduleAndRefresh16 5
def wMemoryChannelsScheduleAndRefresh17 : State :=
  ((wS.setMcF 5 F.MC_ECC_LOG0.VALID 1).setMcF 5 F.MC_ECC_LOG0.UE 1).setMc 5 { McChan.empty with reads := [⟨6, false, 3, 9, 1, false, false⟩] }
def wMemoryChannelsScheduleAndRefresh17_r : McReq :=
  (fun (s : State) (c : Fin 8) => (s.mc c).reads.headD ⟨0, false, 0, 0, 0, false, false⟩) wMemoryChannelsScheduleAndRefresh17 5
def wMemoryChannelsScheduleAndRefresh17_rest : List McReq :=
  (fun (s : State) (c : Fin 8) => (s.mc c).reads.tail) wMemoryChannelsScheduleAndRefresh17 5

/-- States and operands that meet the hypotheses of each clause of Obligations.MemoryChannelsScheduleAndRefresh. -/
theorem wit_MemoryChannelsScheduleAndRefresh :
    (∃ (c : Fin 8) (s : State), s.mcRuns c = true ∧ s.mcF c F.MC_STAT.DEBT < 8) ∧
    (∃ (c : Fin 8) (s : State), s.mcRuns c = true ∧ 8 ≤ s.mcF c F.MC_STAT.DEBT) ∧
    (∃ (c : Fin 8) (s : State), s.mcRuns c = false) ∧
    (∃ (c : Fin 8) (rate : Fin 3) (s : State), s.mcRuns c = true ∧ s.mcF c F.MC_STAT.RATE < rate.val) ∧
    (∃ (c : Fin 8) (rate : Fin 3) (s : State), s.mcRuns c = true ∧ rate.val = s.mcF c F.MC_STAT.RATE) ∧
    (∃ (c : Fin 8) (rate : Fin 3) (s : State), s.mcRuns c = true ∧ rate.val < s.mcF c F.MC_STAT.RATE ∧ (s.mc c).lower ≠
      rate.val + 1) ∧
    (∃ (c : Fin 8) (rate : Fin 3) (s : State), s.mcRuns c = true ∧ rate.val < s.mcF c F.MC_STAT.RATE ∧ (s.mc c).lower =
      rate.val + 1) ∧
    (∃ (c : Fin 8) (s : State), s.live (0x30 + c.val) = true ∧ s.bit (mcB c) F.MC_STAT.PANIC = true ∧ s.panicAny =
      false) ∧
    (∃ (c : Fin 8) (bank : Fin 16) (id : Fin 7) (s : State), s.live (0x30 + c.val) = true ∧ s.timerOn ((Tm.throttle c
      bank id)) = true) ∧
    (∃ (c : Fin 8) (s : State), s.live (0x30 + c.val) = true) ∧
    (∃ (c : Fin 8) (s : State), s.mcRuns c = true ∧ (s.mc c).reqs = [] ∧ s.mcF c F.MC_STAT.DEBT ≠ 0 ∧ s.bit (mcB c)
      F.MC_STAT.PANIC = false) ∧
    (∃ (c : Fin 8) (r : DramReq) (s : State), s.mcRuns c = true ∧ (s.mc c).reqs = [] ∧ (s.mc c).reads = [] ∧ r.write =
      false ∧ r.opens = false ∧ r.id.val < 6) ∧
    (∃ (c : Fin 8) (s : State), (s.mcRuns c = false ∨ ((s.mc c).reqs = [] ∧ s.mcF c F.MC_STAT.DEBT = 0))) ∧
    (∃ (c : Fin 8) (bank : Fin 16) (row : BitVec 17) (col : BitVec 5) (opens : Bool) (s : State), s.mcIn c = true ∧
      s.bit mccB F.MCC_CFG.SCRUB_EN = true) ∧
    (∃ (c : Fin 8) (bank : Fin 16) (row : BitVec 17) (col : BitVec 5) (opens : Bool) (s : State), (s.mcIn c = false ∨
      s.bit mccB F.MCC_CFG.SCRUB_EN = false)) ∧
    (∃ (c : Fin 8) (ecc : EccOutcome) (syndrome : BitVec 10) (page : DramPage) (s : State), s.live (0x30 + c.val) = true
      ∧ (ecc = .good ∨ (s.mc c).reads = [])) ∧
    (∃ (c : Fin 8) (ecc : EccOutcome) (syndrome : BitVec 10) (page : DramPage) (r : McReq) (rest : List McReq) (s :
      State), s.live (0x30 + c.val) = true ∧ ecc = .corrected ∧ (s.mc c).reads = r :: rest ∧ ((s.mc c).reqs ++ rest).all
      (fun q => !q.sameAs r) = true ∧ s.bit ((mcB c)) F.MC_ECC_LOG0.VALID = false) ∧
    (∃ (c : Fin 8) (ecc : EccOutcome) (syndrome : BitVec 10) (page : DramPage) (r : McReq) (rest : List McReq) (s :
      State), s.live (0x30 + c.val) = true ∧ ecc = .lost ∧ page = .unused ∧ (s.mc c).reads = r :: rest ∧ s.bit ((mcB c))
      F.MC_ECC_LOG0.VALID = true ∧ s.bit ((mcB c)) F.MC_ECC_LOG0.UE = true) ∧
    (∃ (m : Master) (c : Fin 8) (s : State), s.reaches m (mcB c + 0x30) = true) :=
  ⟨⟨5, wMemoryChannelsScheduleAndRefresh0, by decide +kernel⟩,
   ⟨5, wMemoryChannelsScheduleAndRefresh1, by decide +kernel⟩,
   ⟨5, wMemoryChannelsScheduleAndRefresh2, by decide +kernel⟩,
   ⟨5, 2, wMemoryChannelsScheduleAndRefresh3, by decide +kernel⟩,
   ⟨5, 1, wMemoryChannelsScheduleAndRefresh4, by decide +kernel⟩,
   ⟨5, 1, wMemoryChannelsScheduleAndRefresh5, by decide +kernel⟩,
   ⟨5, 1, wMemoryChannelsScheduleAndRefresh6, by decide +kernel⟩,
   ⟨5, wMemoryChannelsScheduleAndRefresh7, by decide +kernel⟩,
   ⟨5, 3, 6, wMemoryChannelsScheduleAndRefresh8, by decide +kernel⟩,
   ⟨5, wS, by decide +kernel⟩,
   ⟨5, wMemoryChannelsScheduleAndRefresh10, by decide +kernel⟩,
   ⟨5, (({ id := 5, write := false, bank := 3, row := 9, col := 1, opens := false }) : DramReq),
     wMemoryChannelsScheduleAndRefresh11, by decide +kernel⟩,
   ⟨5, wMemoryChannelsScheduleAndRefresh12, by decide +kernel⟩,
   ⟨5, 1, 3, 2, true, wMemoryChannelsScheduleAndRefresh13, by decide +kernel⟩,
   ⟨5, 1, 3, 2, true, wMemoryChannelsScheduleAndRefresh14, by decide +kernel⟩,
   ⟨5, .good, 0, .unused, wS, by decide +kernel⟩,
   ⟨5, .corrected, 9, .unused, wMemoryChannelsScheduleAndRefresh16_r, wMemoryChannelsScheduleAndRefresh16_rest,
     wMemoryChannelsScheduleAndRefresh16, by decide +kernel⟩,
   ⟨5, .lost, 9, .unused, wMemoryChannelsScheduleAndRefresh17_r, wMemoryChannelsScheduleAndRefresh17_rest,
     wMemoryChannelsScheduleAndRefresh17, by decide +kernel⟩,
   ⟨.host, 5, wS, by decide +kernel⟩⟩

def wVaultJobsStart0 : State :=
  { ((wS.setReg (jobB 0 + 0x100) 0).setReg (jobB 0 + 0x118) 5) with slots := [(600, some ⟨2, 15, 77, 5, false⟩)] }
def wVaultJobsStart0_k : KeySlot :=
  (fun (s : State) (slot : BitVec 10) => (s.slot slot.toNat).getD ⟨0, 0, 0, 0, false⟩) wVaultJobsStart0 600
def wVaultJobsStart1 : State :=
  { ((wS.setReg (jobB 0 + 0x100) 0).setReg (jobB 0 + 0x118) 5) with slots := [(600, some ⟨2, 15, 77, 5, false⟩)] }
def wVaultJobsStart1_k : KeySlot :=
  (fun (s : State) (slot : BitVec 10) => (s.slot slot.toNat).getD ⟨0, 0, 0, 0, false⟩) wVaultJobsStart1 600
def wVaultJobsStart2 : State :=
  { (wS.setReg (jobB 0 + 0x100) 0).setReg (jobB 0 + 0x118) 5 with slots := [] }
def wVaultJobsStart3 : State :=
  { ((wS.setReg (jobB 0 + 0x100) 0).setReg (jobB 0 + 0x118) 5) with slots := [(600, some ⟨2, 15, 77, 5, false⟩)] }
def wVaultJobsStart3_k : KeySlot :=
  (fun (s : State) (slot : BitVec 10) => (s.slot slot.toNat).getD ⟨0, 0, 0, 0, false⟩) wVaultJobsStart3 600
def wVaultJobsStart4 : State :=
  { ((wS.setReg (jobB 0 + 0x100) 0).setReg (jobB 0 + 0x118) 5) with slots := [(600, some ⟨2, 15, 77, 5, false⟩)] }
def wVaultJobsStart4_k : KeySlot :=
  (fun (s : State) (slot : BitVec 10) => (s.slot slot.toNat).getD ⟨0, 0, 0, 0, false⟩) wVaultJobsStart4 600
def wVaultJobsStart5 : State :=
  { ((wS.setReg (jobB 0 + 0x100) 0).setReg (jobB 0 + 0x118) 5) with slots := [(600, some ⟨2, 15, 77, 5, false⟩)] }
def wVaultJobsStart5_k : KeySlot :=
  (fun (s : State) (slot : BitVec 10) => (s.slot slot.toNat).getD ⟨0, 0, 0, 0, false⟩) wVaultJobsStart5 600
def wVaultJobsStart6 : State :=
  { ((wS.setReg (jobB 0 + 0x100) 0).setReg (jobB 0 + 0x118) 5) with slots := [(600, some ⟨2, 15, 77, 5, false⟩)] }
def wVaultJobsStart7 : State :=
  { ((wS.setReg (jobB 0 + 0x100) 0).setReg (jobB 0 + 0x118) 5) with slots := [(600, some ⟨3, 15, 77, 0, false⟩)] }
def wVaultJobsStart7_k : KeySlot :=
  (fun (s : State) (slot : BitVec 10) => (s.slot slot.toNat).getD ⟨0, 0, 0, 0, false⟩) wVaultJobsStart7 600
def wVaultJobsStart8 : State :=
  { ((wS.setReg (jobB 0 + 0x100) 0).setReg (jobB 0 + 0x118) 240) with slots := [(600, some ⟨2, 15, 77, 5, false⟩)] }
def wVaultJobsStart9 : State :=
  { (((wS.setF vltB F.VLT_STAT.MINT 0).setReg (jobB 0 + 0x100) 0).setReg (jobB 0 + 0x118) 48) with slots := [(600, some ⟨2, 15, 77, 5, false⟩)] }
def wVaultJobsStart10 : State :=
  { (((wS.setReg (jobB 0 + 0x100) 0).setReg (jobB 0 + 0x118) 48)|>.setF vltB F.VLT_STAT.MINT 2) with slots := [(600, some ⟨2, 15, 77, 5, false⟩)] }
def wVaultJobsStart11 : State :=
  { ((((wS.setF vltB F.VLT_STAT.MINT 0).setReg (jobB 0 + 0x100) 0).setReg (jobB 0 + 0x118) 0).setReg (jobB 0 + 0x104) 700).setReg (jobB 0 + 0x184) 1 with slots := [(600, some ⟨2, 15, 77, 5, false⟩)] }
def wVaultJobsStart12 : State :=
  { (((wS.setReg (jobB 0 + 0x100) 0).setReg (jobB 0 + 0x118) 5).setReg (jobB 0 + 0x104) 700).setReg (jobB 0 + 0x184) 1 with slots := [(600, some ⟨2, 15, 77, 5, false⟩)] }
def wVaultJobsStart12_k : KeySlot :=
  (fun (s : State) (slot : BitVec 10) => (s.slot slot.toNat).getD ⟨0, 0, 0, 0, false⟩) wVaultJobsStart12 600
def wVaultJobsStart13 : State :=
  { (((wS.setReg (jobB 0 + 0x100) 0).setReg (jobB 0 + 0x118) 24).setReg (jobB 0 + 0x104) 700).setReg (jobB 0 + 0x184) 1 with slots := [(600, some ⟨2, 15, 77, 5, false⟩)] }
def wVaultJobsStart13_k : KeySlot :=
  (fun (s : State) (slot : BitVec 10) => (s.slot slot.toNat).getD ⟨0, 0, 0, 0, false⟩) wVaultJobsStart13 600
def wVaultJobsStart14 : State :=
  { ((wS.setReg (jobB 0 + 0x100) 0).setReg (jobB 0 + 0x118) 96) with slots := [(600, some ⟨2, 15, 77, 5, false⟩)] }
def wVaultJobsStart15 : State :=
  { ((wS.setReg (jobB 0 + 0x100) 0).setReg (jobB 0 + 0x118) 0) with slots := [(600, some ⟨2, 15, 77, 5, false⟩)] }
def wVaultJobsStart16 : State :=
  { ((wS.setReg (jobB 0 + 0x100) 0).setReg (jobB 0 + 0x118) 256) with slots := [(600, some ⟨2, 15, 77, 5, false⟩)] }
def wVaultJobsStart17 : State :=
  { (((wS.setF vltB F.VLT_STAT.MINT 0).setReg (jobB 0 + 0x100) 0).setReg (jobB 0 + 0x118) 0) with slots := [(600, some ⟨2, 15, 77, 5, false⟩)] }
def wVaultJobsStart18 : State :=
  { ((wS.setReg (jobB 0 + 0x100) 0).setReg (jobB 0 + 0x118) 256) with slots := [(600, some ⟨2, 15, 77, 5, false⟩)] }
def wVaultJobsStart19 : State :=
  { (wS.setF vltB F.VLT_STAT.MINT 0).setReg (jobB 0 + 0x100) 0 with fuse := { wS.fuse with rmaAuth := true } }
def wVaultJobsStart20 : State :=
  { wS.setReg (jobB 0 + 0x100) 0 with fuse := { wS.fuse with rmaAuth := false } }
def wVaultJobsStart21 : State :=
  { (wS.setReg (jobB 0 + 0x100) 0).setReg (jobB 0 + 0x118) 256 with fuse := { wS.fuse with rmaAuth := true } }
def wVaultJobsStart22 : State :=
  { wS.setReg (jobB 0 + 0x100) 0 with vlt := { wS.vlt with escrow := [0, 1] } }

/-- States and operands that meet the hypotheses of each clause of Obligations.VaultJobsStart. -/
theorem wit_VaultJobsStart :
    (∃ (m : Master) (p : Fin 2) (ivMode : BitVec 2) (slot : BitVec 10) (src : List Byte) (k : KeySlot) (s : State),
      s.r54Discards m ((jobB p.val) + 0x100) = false ∧ s.live 0x2C = true ∧ decide (m = .host) = decide (p = 0) ∧ s.bit
      ((jobB p.val)) F.JOB_CTRL.BUSY = false ∧ s.portOwns p slot.toNat = true ∧ s.slot slot.toNat = some k ∧ (k.typ = 1
      ∨ k.typ = 2) ∧ k.use.testBit 2 = true ∧ (s.jobF p F.JOB_LEN.LEN) ≤ 2 ^ 24 ∧ ivMode ≠ 1) ∧
    (∃ (m : Master) (p : Fin 2) (ivMode : BitVec 2) (slot : BitVec 10) (src : List Byte) (k : KeySlot) (s : State),
      s.r54Discards m ((jobB p.val) + 0x100) = false ∧ s.live 0x2C = true ∧ decide (m = .host) = decide (p = 0) ∧ s.bit
      ((jobB p.val)) F.JOB_CTRL.BUSY = false ∧ s.portOwns p slot.toNat = true ∧ s.slot slot.toNat = some k ∧ (k.typ = 1
      ∨ k.typ = 2) ∧ k.use.testBit 2 = true ∧ (s.jobF p F.JOB_LEN.LEN) ≤ 2 ^ 24 ∧ ivMode = 1 ∧ k.iv + 1 < 2 ^ 64 - 2 ^
      32) ∧
    (∃ (m : Master) (p : Fin 2) (ivMode : BitVec 2) (slot : BitVec 10) (src : List Byte) (s : State), s.r54Discards m
      ((jobB p.val) + 0x100) = false ∧ s.live 0x2C = true ∧ decide (m = .host) = decide (p = 0) ∧ s.bit ((jobB p.val))
      F.JOB_CTRL.BUSY = false ∧ s.portOwns p slot.toNat = true ∧ s.slot slot.toNat = none ∧ (s.jobF p F.JOB_LEN.LEN) ≤ 2
      ^ 24) ∧
    (∃ (m : Master) (p : Fin 2) (ivMode : BitVec 2) (slot : BitVec 10) (src : List Byte) (k : KeySlot) (s : State),
      s.r54Discards m ((jobB p.val) + 0x100) = false ∧ s.live 0x2C = true ∧ decide (m = .host) = decide (p = 0) ∧ s.bit
      ((jobB p.val)) F.JOB_CTRL.BUSY = false ∧ s.portOwns p slot.toNat = true ∧ s.slot slot.toNat = some k ∧ (k.typ = 1
      ∨ k.typ = 2) ∧ k.use.testBit 2 = true ∧ (s.jobF p F.JOB_LEN.LEN) ≤ 2 ^ 14) ∧
    (∃ (m : Master) (p : Fin 2) (ivMode : BitVec 2) (slot : BitVec 10) (src : List Byte) (k : KeySlot) (s : State),
      s.r54Discards m ((jobB p.val) + 0x100) = false ∧ s.live 0x2C = true ∧ decide (m = .host) = decide (p = 0) ∧ s.bit
      ((jobB p.val)) F.JOB_CTRL.BUSY = false ∧ s.portOwns p slot.toNat = true ∧ s.slot slot.toNat = some k ∧ (k.typ = 1
      ∨ k.typ = 2) ∧ k.use.testBit 2 = true ∧ (s.jobF p F.JOB_LEN.LEN) ≤ 2 ^ 24) ∧
    (∃ (m : Master) (p : Fin 2) (ivMode : BitVec 2) (slot : BitVec 10) (src : List Byte) (k : KeySlot) (s : State),
      s.r54Discards m ((jobB p.val) + 0x100) = false ∧ s.live 0x2C = true ∧ decide (m = .host) = decide (p = 0) ∧ s.bit
      ((jobB p.val)) F.JOB_CTRL.BUSY = false ∧ s.portOwns p slot.toNat = true ∧ s.slot slot.toNat = some k ∧ (k.typ = 1
      ∨ k.typ = 2) ∧ k.use.testBit 2 = true ∧ (s.jobF p F.JOB_LEN.LEN) ≤ 2 ^ 24) ∧
    (∃ (m : Master) (p : Fin 2) (ivMode : BitVec 2) (slot : BitVec 10) (src : List Byte) (s : State), s.r54Discards m
      ((jobB p.val) + 0x100) = false ∧ s.live 0x2C = true ∧ decide (m = .host) = decide (p = 0) ∧ s.bit ((jobB p.val))
      F.JOB_CTRL.BUSY = false ∧ (s.jobF p F.JOB_LEN.LEN) ≤ 2 ^ 24) ∧
    (∃ (m : Master) (p : Fin 2) (ivMode : BitVec 2) (slot : BitVec 10) (src : List Byte) (k : KeySlot) (s : State),
      s.r54Discards m ((jobB p.val) + 0x100) = false ∧ s.live 0x2C = true ∧ decide (m = .host) = decide (p = 0) ∧ s.bit
      ((jobB p.val)) F.JOB_CTRL.BUSY = false ∧ s.portOwns p slot.toNat = true ∧ s.slot slot.toNat = some k ∧ k.typ = 3 ∧
      k.use.testBit 2 = true ∧ (s.jobF p F.JOB_LEN.LEN) ≤ 2 ^ 24) ∧
    (∃ (m : Master) (p : Fin 2) (ivMode : BitVec 2) (slot : BitVec 10) (src : List Byte) (s : State), s.r54Discards m
      ((jobB p.val) + 0x100) = false ∧ s.live 0x2C = true ∧ decide (m = .host) = decide (p = 0) ∧ s.bit ((jobB p.val))
      F.JOB_CTRL.BUSY = false ∧ (s.jobF p F.JOB_LEN.LEN) = 240) ∧
    (∃ (m : Master) (p : Fin 2) (ivMode : BitVec 2) (slot : BitVec 10) (s : State), s.r54Discards m ((jobB p.val) +
      0x100) = false ∧ s.live 0x2C = true ∧ decide (m = .host) = decide (p = 0) ∧ s.bit ((jobB p.val)) F.JOB_CTRL.BUSY =
      false ∧ s.mintOk = true ∧ (s.jobF p F.JOB_LEN.LEN) ≤ 4096) ∧
    (∃ (m : Master) (p : Fin 2) (ivMode : BitVec 2) (slot : BitVec 10) (s : State), s.r54Discards m ((jobB p.val) +
      0x100) = false ∧ s.live 0x2C = true ∧ decide (m = .host) = decide (p = 0) ∧ s.bit ((jobB p.val)) F.JOB_CTRL.BUSY =
      false ∧ s.mintOk = false ∧ (s.jobF p F.JOB_LEN.LEN) ≤ 4096) ∧
    (∃ (m : Master) (p : Fin 2) (ivMode : BitVec 2) (slot : BitVec 10) (s : State), s.r54Discards m ((jobB p.val) +
      0x100) = false ∧ s.live 0x2C = true ∧ decide (m = .host) = decide (p = 0) ∧ s.bit ((jobB p.val)) F.JOB_CTRL.BUSY =
      false ∧ s.portOwns p (s.jobF p F.JOB_SLOT2.SLOT2) = true ∧ s.jobF p F.KEY_ATTR.TYPE ≠ 0 ∧ s.mintOk = true) ∧
    (∃ (m : Master) (p : Fin 2) (ivMode : BitVec 2) (slot : BitVec 10) (src : List Byte) (k : KeySlot) (s : State),
      s.r54Discards m ((jobB p.val) + 0x100) = false ∧ s.live 0x2C = true ∧ decide (m = .host) = decide (p = 0) ∧ s.bit
      ((jobB p.val)) F.JOB_CTRL.BUSY = false ∧ s.portOwns p slot.toNat = true ∧ s.slot slot.toNat = some k ∧ s.portOwns
      p (s.jobF p F.JOB_SLOT2.SLOT2) = true ∧ s.jobF p F.KEY_ATTR.TYPE ≠ 0 ∧ 1 ≤ k.typ ∧ k.typ ≤ 3 ∧ k.use.testBit 3 =
      true ∧ (s.jobF p F.JOB_LEN.LEN) ≤ 256) ∧
    (∃ (m : Master) (p : Fin 2) (ivMode : BitVec 2) (slot : BitVec 10) (src : List Byte) (k : KeySlot) (s : State),
      s.r54Discards m ((jobB p.val) + 0x100) = false ∧ s.live 0x2C = true ∧ decide (m = .host) = decide (p = 0) ∧ s.bit
      ((jobB p.val)) F.JOB_CTRL.BUSY = false ∧ s.portOwns p slot.toNat = true ∧ s.slot slot.toNat = some k ∧ s.portOwns
      p (s.jobF p F.JOB_SLOT2.SLOT2) = true ∧ s.jobF p F.KEY_ATTR.TYPE ≠ 0 ∧ (k.typ = 1 ∨ k.typ = 2) ∧ k.use.testBit 3 =
      true ∧ (((s.jobF p F.JOB_LEN.LEN) = 24 ∧ s.jobF p F.KEY_ATTR.TYPE = 1) ∨ ((s.jobF p F.JOB_LEN.LEN) = 40 ∧ s.jobF p
      F.KEY_ATTR.TYPE ≠ 1))) ∧
    (∃ (m : Master) (p : Fin 2) (ivMode : BitVec 2) (slot : BitVec 10) (src : List Byte) (s : State), s.r54Discards m
      ((jobB p.val) + 0x100) = false ∧ s.live 0x2C = true ∧ decide (m = .host) = decide (p = 0) ∧ s.bit ((jobB p.val))
      F.JOB_CTRL.BUSY = false ∧ (s.jobF p F.JOB_LEN.LEN) = 96) ∧
    (∃ (m : Master) (p : Fin 2) (ivMode : BitVec 2) (slot : BitVec 10) (s : State), s.r54Discards m ((jobB p.val) +
      0x100) = false ∧ s.live 0x2C = true ∧ decide (m = .host) = decide (p = 0) ∧ s.bit ((jobB p.val)) F.JOB_CTRL.BUSY =
      false) ∧
    (∃ (m : Master) (p : Fin 2) (ivMode : BitVec 2) (slot : BitVec 10) (src : List Byte) (s : State), s.r54Discards m
      ((jobB p.val) + 0x100) = false ∧ s.live 0x2C = true ∧ decide (m = .host) = decide (p = 0) ∧ s.bit ((jobB p.val))
      F.JOB_CTRL.BUSY = false ∧ (s.jobF p F.JOB_LEN.LEN) = 256) ∧
    (∃ (m : Master) (p : Fin 2) (ivMode : BitVec 2) (slot : BitVec 10) (s : State), s.r54Discards m ((jobB p.val) +
      0x100) = false ∧ s.live 0x2C = true ∧ decide (m = .host) = decide (p = 0) ∧ s.bit ((jobB p.val)) F.JOB_CTRL.BUSY =
      false ∧ s.mintOk = true) ∧
    (∃ (m : Master) (p : Fin 2) (ivMode : BitVec 2) (slot : BitVec 10) (src : List Byte) (s : State), s.r54Discards m
      ((jobB p.val) + 0x100) = false ∧ s.live 0x2C = true ∧ decide (m = .host) = decide (p = 0) ∧ s.bit ((jobB p.val))
      F.JOB_CTRL.BUSY = false ∧ (s.jobF p F.JOB_LEN.LEN) = 256) ∧
    (∃ (m : Master) (p : Fin 2) (ivMode : BitVec 2) (slot : BitVec 10) (s : State), s.r54Discards m ((jobB p.val) +
      0x100) = false ∧ s.live 0x2C = true ∧ decide (m = .host) = decide (p = 0) ∧ s.bit ((jobB p.val)) F.JOB_CTRL.BUSY =
      false ∧ s.fuse.rmaAuth = true ∧ s.mintOk = true) ∧
    (∃ (m : Master) (p : Fin 2) (ivMode : BitVec 2) (slot : BitVec 10) (s : State), s.r54Discards m ((jobB p.val) +
      0x100) = false ∧ s.live 0x2C = true ∧ decide (m = .host) = decide (p = 0) ∧ s.bit ((jobB p.val)) F.JOB_CTRL.BUSY =
      false ∧ s.fuse.rmaAuth = false) ∧
    (∃ (m : Master) (p : Fin 2) (ivMode : BitVec 2) (slot : BitVec 10) (src : List Byte) (s : State), s.r54Discards m
      ((jobB p.val) + 0x100) = false ∧ s.live 0x2C = true ∧ decide (m = .host) = decide (p = 0) ∧ s.bit ((jobB p.val))
      F.JOB_CTRL.BUSY = false ∧ (s.jobF p F.JOB_LEN.LEN) = 256 ∧ s.fuse.rmaAuth = true) ∧
    (∃ (m : Master) (p : Fin 2) (op : Byte) (ivMode : BitVec 2) (slot : BitVec 10) (s : State), s.r54Discards m ((jobB
      p.val) + 0x100) = false ∧ s.live 0x2C = true ∧ decide (m = .host) = decide (p = 0) ∧ s.bit ((jobB p.val))
      F.JOB_CTRL.BUSY = false ∧ (op = 0 ∨ 0x12 < op.toNat) ∧ s.vlt.waits = []) :=
  ⟨⟨.host, 0, 0, 600, (([1, 2, 3, 4, 5]) : List Byte), wVaultJobsStart0_k, wVaultJobsStart0, by decide +kernel⟩,
   ⟨.host, 0, 1, 600, (([1, 2, 3, 4, 5]) : List Byte), wVaultJobsStart1_k, wVaultJobsStart1, by decide +kernel⟩,
   ⟨.host, 0, 0, 600, (([1, 2, 3, 4, 5]) : List Byte), wVaultJobsStart2, by decide +kernel⟩,
   ⟨.host, 0, 0, 600, (([1, 2, 3, 4, 5]) : List Byte), wVaultJobsStart3_k, wVaultJobsStart3, by decide +kernel⟩,
   ⟨.host, 0, 0, 600, (([1, 2, 3, 4, 5]) : List Byte), wVaultJobsStart4_k, wVaultJobsStart4, by decide +kernel⟩,
   ⟨.host, 0, 0, 600, (([1, 2, 3, 4, 5]) : List Byte), wVaultJobsStart5_k, wVaultJobsStart5, by decide +kernel⟩,
   ⟨.host, 0, 0, 600, (([1, 2, 3, 4, 5]) : List Byte), wVaultJobsStart6, by decide +kernel⟩,
   ⟨.host, 0, 0, 600, (([1, 2, 3, 4, 5]) : List Byte), wVaultJobsStart7_k, wVaultJobsStart7, by decide +kernel⟩,
   ⟨.host, 0, 0, 600, (([1, 2, 3, 4, 5]) : List Byte), wVaultJobsStart8, by decide +kernel⟩,
   ⟨.host, 0, 0, 600, wVaultJobsStart9, by decide +kernel⟩,
   ⟨.host, 0, 0, 600, wVaultJobsStart10, by decide +kernel⟩,
   ⟨.host, 0, 0, 600, wVaultJobsStart11, by decide +kernel⟩,
   ⟨.host, 0, 0, 600, (([1, 2, 3, 4, 5]) : List Byte), wVaultJobsStart12_k, wVaultJobsStart12, by decide +kernel⟩,
   ⟨.host, 0, 0, 600, (([1, 2, 3, 4, 5]) : List Byte), wVaultJobsStart13_k, wVaultJobsStart13, by decide +kernel⟩,
   ⟨.host, 0, 0, 600, (([1, 2, 3, 4, 5]) : List Byte), wVaultJobsStart14, by decide +kernel⟩,
   ⟨.host, 0, 0, 600, wVaultJobsStart15, by decide +kernel⟩,
   ⟨.host, 0, 0, 600, (([1, 2, 3, 4, 5]) : List Byte), wVaultJobsStart16, by decide +kernel⟩,
   ⟨.host, 0, 0, 600, wVaultJobsStart17, by decide +kernel⟩,
   ⟨.host, 0, 0, 600, (([1, 2, 3, 4, 5]) : List Byte), wVaultJobsStart18, by decide +kernel⟩,
   ⟨.host, 0, 0, 600, wVaultJobsStart19, by decide +kernel⟩,
   ⟨.host, 0, 0, 600, wVaultJobsStart20, by decide +kernel⟩,
   ⟨.host, 0, 0, 600, (([1, 2, 3, 4, 5]) : List Byte), wVaultJobsStart21, by decide +kernel⟩,
   ⟨.host, 0, 0x13, 0, 600, wVaultJobsStart22, by decide +kernel⟩⟩

def wVaultJobsAndKeysComplete0 : State :=
  { wS with vlt := { wS.vlt with jobs := ⟨none, some ⟨5, none, 0, [1, 2, 3], 0, .none⟩⟩, escrow := [1, 0], waits := [] } }
def wVaultJobsAndKeysComplete1 : State :=
  { wS with vlt := { wS.vlt with jobs := ⟨some ⟨5, none, 0, [1, 2, 3], 0, .none⟩, none⟩, escrow := [1, 0], waits := [] } }
def wVaultJobsAndKeysComplete2 : State :=
  { wS with vlt := { wS.vlt with jobs := ⟨none, some ⟨15, none, 0, [1, 2, 3], 0, .challenge false 9⟩⟩, escrow := [1, 0], waits := [] } }
def wVaultJobsAndKeysComplete3 : State :=
  { wS with vlt := { wS.vlt with jobs := ⟨none, some ⟨12, none, 0, [1, 2, 3], 0, .attest⟩⟩, escrow := [1, 0], waits := [] } }
def wVaultJobsAndKeysComplete4 : State :=
  (wS.setReg (jobB 0 + 0x180) 0).setReg (jobB 0 + 0x184) 1
def wVaultJobsAndKeysComplete5 : State :=
  wS.setReg (jobB 0 + 0x180) 0
def wVaultJobsAndKeysComplete6 : State :=
  { wS.setReg (jobB 0 + 0x180) 0 with slots := [(600, some ⟨2, 15, 77, 5, false⟩)] }
def wVaultJobsAndKeysComplete6_k : KeySlot :=
  (fun (s : State) (slot : BitVec 10) => (s.slot slot.toNat).getD ⟨0, 0, 0, 0, false⟩) wVaultJobsAndKeysComplete6 600
def wVaultJobsAndKeysComplete7 : State :=
  { wS.setReg (jobB 0 + 0x180) 0 with slots := [(600, some ⟨2, 15, 77, 5, false⟩)] }
def wVaultJobsAndKeysComplete7_k : KeySlot :=
  (fun (s : State) (slot : BitVec 10) => (s.slot slot.toNat).getD ⟨0, 0, 0, 0, false⟩) wVaultJobsAndKeysComplete7 600
def wVaultJobsAndKeysComplete8 : State :=
  { wS.setReg (jobB 0 + 0x180) 0 with slots := [] }
def wVaultJobsAndKeysComplete9 : State :=
  { wS with vlt := { wS.vlt with keys := ⟨some ⟨false, 600, 1, 4, 5, false⟩, none⟩, escrow := [] } }
def wVaultJobsAndKeysComplete10 : State :=
  { wS with slots := [(600, some ⟨1, 4, 5, 0, false⟩)], vlt := { wS.vlt with keys := ⟨some ⟨true, 600, 1, 4, 5, false⟩, none⟩, escrow := [] } }
def wVaultJobsAndKeysComplete11 : State :=
  { wS with slots := [(600, some ⟨1, 4, 5, 0, false⟩)], vlt := { wS.vlt with keys := ⟨some ⟨false, 600, 1, 4, 5, false⟩, none⟩, jobs := ⟨none, some ⟨5, some 600, 0, [], 0, .none⟩⟩, escrow := List.replicate 16 0 } }
def wVaultJobsAndKeysComplete12 : State :=
  { wS with slots := [(600, some ⟨1, 4, 5, 0, false⟩)] }
def wVaultJobsAndKeysComplete15 : State :=
  wS.setF vltB F.VLT_STAT.MINT 1
def wVaultJobsAndKeysComplete16 : State :=
  (wS.setF vltB F.VLT_STAT.MINT (4 % 2)).startTimer Tm.mint 9
def wVaultJobsAndKeysComplete17 : State :=
  (wS.startTimer Tm.rmaNonce 9).startTimer Tm.dbgNonce 11
def wVaultJobsAndKeysComplete18 : State :=
  wS.setF vltB F.VLT_DBG_CTRL.OPEN 5
def wVaultJobsAndKeysComplete19 : State :=
  { wS with fuse := { wS.fuse with life := 1 } }
def wVaultJobsAndKeysComplete21 : State :=
  { wS.setReg (aonB + 0x48) 0 with fuse := { wS.fuse with life := 3, hashes := [], revoked := 0 } }
def wVaultJobsAndKeysComplete22 : State :=
  { wS.setReg (aonB + 0x48) 0 with fuse := { wS.fuse with life := 3, hashes := [], revoked := 0 } }
def wVaultJobsAndKeysComplete23 : State :=
  { wS with vlt := { wS.vlt with fuse := some (3, 99) } }
def wVaultJobsAndKeysComplete24 : State :=
  { wS with vlt := { wS.vlt with fuse := none } }

/-- States and operands that meet the hypotheses of each clause of Obligations.VaultJobsAndKeysComplete. -/
theorem wit_VaultJobsAndKeysComplete :
    (∃ (p : Fin 2) (busErr : Option Nat) (j : Job) (s : State), s.live 0x2C = true ∧ s.vlt.jobs.get p = some j ∧ j.eff =
      .none ∧ s.vlt.waits = [] ∧ (busErr = none ∨ p = 1) ∧ (j.dst.length) < 2 ^ 25 ∧ (j.status) < 16) ∧
    (∃ (p : Fin 2) (busErr : Option Nat) (j : Job) (n : Nat) (s : State), s.live 0x2C = true ∧ s.vlt.jobs.get p = some j
      ∧ j.eff = .none ∧ s.vlt.waits = [] ∧ p = 0 ∧ busErr = some n ∧ j.dst.length < 2 ^ 25) ∧
    (∃ (p : Fin 2) (busErr : Option Nat) (j : Job) (nonce : Nat) (s : State), s.live 0x2C = true ∧ s.vlt.jobs.get p =
      some j ∧ j.eff = .challenge false nonce ∧ s.vlt.waits = [] ∧ busErr = none ∧ (j.dst.length) < 2 ^ 25 ∧ (j.status)
      = 0) ∧
    (∃ (p : Fin 2) (busErr : Option Nat) (j : Job) (s : State), s.live 0x2C = true ∧ s.vlt.jobs.get p = some j ∧ j.eff =
      .attest ∧ s.vlt.waits = [] ∧ busErr = none ∧ (j.dst.length) < 2 ^ 25 ∧ (j.status) = 0) ∧
    (∃ (m : Master) (p : Fin 2) (slot : BitVec 10) (s : State), s.r54Discards m ((jobB p.val) + 0x180) = false ∧ s.live
      0x2C = true ∧ decide (m = .host) = decide (p = 0) ∧ s.bit ((jobB p.val)) F.KEY_CMD.BUSY = false ∧ s.portOwns p
      slot.toNat = true ∧ s.jobF p F.KEY_ATTR.TYPE ≠ 0) ∧
    (∃ (m : Master) (p : Fin 2) (slot : BitVec 10) (s : State), s.r54Discards m ((jobB p.val) + 0x180) = false ∧ s.live
      0x2C = true ∧ decide (m = .host) = decide (p = 0) ∧ s.bit ((jobB p.val)) F.KEY_CMD.BUSY = false ∧ (s.portOwns p
      slot.toNat = false ∨ s.jobF p F.KEY_ATTR.TYPE = 0)) ∧
    (∃ (m : Master) (p : Fin 2) (slot : BitVec 10) (k : KeySlot) (s : State), s.r54Discards m ((jobB p.val) + 0x180) =
      false ∧ s.live 0x2C = true ∧ decide (m = .host) = decide (p = 0) ∧ s.bit ((jobB p.val)) F.KEY_CMD.BUSY = false ∧
      s.portOwns p slot.toNat = true ∧ s.slot slot.toNat = some k) ∧
    (∃ (m : Master) (p : Fin 2) (slot : BitVec 10) (k : KeySlot) (s : State), s.r54Discards m ((jobB p.val) + 0x180) =
      false ∧ s.live 0x2C = true ∧ decide (m = .host) = decide (p = 0) ∧ s.bit ((jobB p.val)) F.KEY_CMD.BUSY = false ∧
      s.portOwns p slot.toNat = true ∧ s.slot slot.toNat = some k ∧ k.typ < 4) ∧
    (∃ (m : Master) (p : Fin 2) (slot : BitVec 10) (s : State), s.r54Discards m ((jobB p.val) + 0x180) = false ∧ s.live
      0x2C = true ∧ decide (m = .host) = decide (p = 0) ∧ s.bit ((jobB p.val)) F.KEY_CMD.BUSY = false ∧ s.portOwns p
      slot.toNat = true ∧ s.slot slot.toNat = none) ∧
    (∃ (p : Fin 2) (c : KeyCmd) (s : State), s.live 0x2C = true ∧ s.vlt.keys.get p = some c ∧ c.erase = false ∧
      s.vlt.escrow.length + (s.keyHolders c.slot).length ≤ 16) ∧
    (∃ (p : Fin 2) (c : KeyCmd) (k : KeySlot) (s : State), s.live 0x2C = true ∧ s.vlt.keys.get p = some c ∧ c.erase =
      true ∧ s.slot c.slot = some k ∧ s.vlt.escrow.length + (s.keyHolders c.slot).length ≤ 16) ∧
    (∃ (p : Fin 2) (c : KeyCmd) (s : State), s.live 0x2C = true ∧ s.vlt.keys.get p = some c ∧ 16 < s.vlt.escrow.length +
      (s.keyHolders c.slot).length ∧ c.waited = false) ∧
    (∃ (slot : BitVec 10) (s : State), s.live 0x2C = true) ∧
    (∃ (adaptive : Bool) (s : State), s.live 0x2C = true) ∧
    (∃ (m : Master) (s : State), s.reaches m (vltB + 0x10) = true) ∧
    (∃ (pass : Bool) (s : State), s.live 0x2C = true ∧ s.fld vltB F.VLT_STAT.MINT = 1) ∧
    (∃ (s : State), (s.live 0x2C = true ∨ s.stage < 0xA) ∧ s.timerOn Tm.mint = true) ∧
    (∃ (rma : Bool) (s : State), s.live 0x2C = true ∧ s.timerOn ((if rma then Tm.rmaNonce else Tm.dbgNonce)) = true) ∧
    (∃ (m : Master) (s : State), s.reaches m (vltB + 0x20) = true) ∧
    (∃ (ready : Bool) (s : State), s.fuse.life = 1 ∧ ready = true) ∧
    (∃ (ready : Bool) (s : State), (s.fuse.life ≠ 1 ∨ ready = false)) ∧
    (∃ (m : Master) (key : BitVec 16) (target : BitVec 3) (s : State), s.reaches m (aonB + 0x48) = true ∧ s.bit aonB
      F.AON_OWN_CMD.BUSY = false ∧ s.fuse.life = 3 ∧ key = 0xA5C3 ∧ target.toNat < 6 ∧ s.fuse.hash target.toNat = none ∧
      s.fuse.revoked.testBit target.toNat = false) ∧
    (∃ (m : Master) (key : BitVec 16) (target : BitVec 3) (s : State), s.reaches m (aonB + 0x48) = true ∧ s.bit aonB
      F.AON_OWN_CMD.BUSY = false ∧ (s.fuse.life ≠ 3 ∨ key ≠ 0xA5C3 ∨ 6 ≤ target.toNat ∨ s.fuse.blank target.toNat =
      false)) ∧
    (∃ (i : Nat) (h : Nat) (s : State), s.vlt.fuse = some (i, h) ∧ s.sagging = false) ∧
    (∃ (s : State), (s.vlt.fuse = none ∨ s.sagging = true)) :=
  ⟨⟨1, ((some 3) : Option Nat), ((⟨5, none, 0, [1, 2, 3], 0, .none⟩) : Job), wVaultJobsAndKeysComplete0,
     by decide +kernel⟩,
   ⟨0, ((some 2) : Option Nat), ((⟨5, none, 0, [1, 2, 3], 0, .none⟩) : Job), 2, wVaultJobsAndKeysComplete1,
     by decide +kernel⟩,
   ⟨1, none, ((⟨15, none, 0, [1, 2, 3], 0, .challenge false 9⟩) : Job), 9, wVaultJobsAndKeysComplete2, by decide +kernel⟩,
   ⟨1, none, ((⟨12, none, 0, [1, 2, 3], 0, .attest⟩) : Job), wVaultJobsAndKeysComplete3, by decide +kernel⟩,
   ⟨.host, 0, 600, wVaultJobsAndKeysComplete4, by decide +kernel⟩,
   ⟨.host, 0, 3, wVaultJobsAndKeysComplete5, by decide +kernel⟩,
   ⟨.host, 0, 600, wVaultJobsAndKeysComplete6_k, wVaultJobsAndKeysComplete6, by decide +kernel⟩,
   ⟨.host, 0, 600, wVaultJobsAndKeysComplete7_k, wVaultJobsAndKeysComplete7, by decide +kernel⟩,
   ⟨.host, 0, 600, wVaultJobsAndKeysComplete8, by decide +kernel⟩,
   ⟨0, ((⟨false, 600, 1, 4, 5, false⟩) : KeyCmd), wVaultJobsAndKeysComplete9, by decide +kernel⟩,
   ⟨0, ((⟨true, 600, 1, 4, 5, false⟩) : KeyCmd), ((⟨1, 4, 5, 0, false⟩) : KeySlot), wVaultJobsAndKeysComplete10,
     by decide +kernel⟩,
   ⟨0, ((⟨false, 600, 1, 4, 5, false⟩) : KeyCmd), wVaultJobsAndKeysComplete11, by decide +kernel⟩,
   ⟨600, wVaultJobsAndKeysComplete12, by decide +kernel⟩,
   ⟨true, wS, by decide +kernel⟩,
   ⟨.host, wS, by decide +kernel⟩,
   ⟨true, wVaultJobsAndKeysComplete15, by decide +kernel⟩,
   ⟨wVaultJobsAndKeysComplete16, by decide +kernel⟩,
   ⟨true, wVaultJobsAndKeysComplete17, by decide +kernel⟩,
   ⟨.host, wVaultJobsAndKeysComplete18, by decide +kernel⟩,
   ⟨true, wVaultJobsAndKeysComplete19, by decide +kernel⟩,
   ⟨false, wS, by decide +kernel⟩,
   ⟨.host, 0xA5C3, 5, wVaultJobsAndKeysComplete21, by decide +kernel⟩,
   ⟨.host, 0xA5C3, 6, wVaultJobsAndKeysComplete22, by decide +kernel⟩,
   ⟨3, 99, wVaultJobsAndKeysComplete23, by decide +kernel⟩,
   ⟨wVaultJobsAndKeysComplete24, by decide +kernel⟩⟩

def wPowerStatesAreEnteredAndLeft0 : State :=
  (((wS.setF aonB F.AON_PWR_STAT.PHASE 0).setF aonB F.AON_PWR_STAT.STATE (4 % 2)).setReg (aonB + 0x10C) 0)
def wPowerStatesAreEnteredAndLeft1 : State :=
  { ((wS.setF aonB F.AON_PWR_STAT.PHASE 0).setF aonB F.AON_PWR_STAT.STATE 0).setReg (aonB + 0x10C) 3 with pwr := { wS.pwr with gpio := 3 } }
def wPowerStatesAreEnteredAndLeft2 : State :=
  { (wS.setF aonB F.AON_PWR_STAT.PHASE 0).setF aonB F.AON_PWR_STAT.STATE 2 with pwr := { wS.pwr with kept := [0x3D, 0x25] } }
def wPowerStatesAreEnteredAndLeft3 : State :=
  (wS.setF aonB F.AON_PWR_STAT.PHASE 0).setF aonB F.AON_PWR_STAT.STATE (4 / 4 % 4)
def wPowerStatesAreEnteredAndLeft5 : State :=
  { (wS.setF aonB F.AON_PWR_STAT.PHASE 1).setF aonB F.AON_PWR_STAT.STATE 0 with pwr := { wS.pwr with target := 1, asked := [0x25, 0x3A, 0x3D] } }
def wPowerStatesAreEnteredAndLeft6 : State :=
  { (wS.setF aonB F.AON_PWR_STAT.PHASE 1).setF aonB F.AON_PWR_STAT.STATE 0 with pwr := { wS.pwr with target := 2, asked := [0x20, 0x24, 0x3D] } }
def wPowerStatesAreEnteredAndLeft7 : State :=
  { (wS.setF aonB F.AON_PWR_STAT.PHASE 1).setF aonB F.AON_PWR_STAT.STATE 0 with pwr := { wS.pwr with target := 2, asked := [0x20, 0x24, 0x3D] } }
def wPowerStatesAreEnteredAndLeft8 : State :=
  { (wS.setF aonB F.AON_PWR_STAT.PHASE 1).setF aonB F.AON_PWR_STAT.STATE 0 with pwr := { wS.pwr with target := 3, asked := [0x3D] }, regs := (SMap.set resetWord ((wS.setF aonB F.AON_PWR_STAT.PHASE 1).regs) (chkB 0) 0) }
def wPowerStatesAreEnteredAndLeft10 : State :=
  ({ (wS.setF aonB F.AON_PWR_STAT.PHASE 1).setF aonB F.AON_PWR_STAT.STATE 0 with pwr := { wS.pwr with target := 2, asked := [0x20, 0x24, 0x3D] } } : State).startTimer Tm.delayMax 5
def wPowerStatesAreEnteredAndLeft11 : State :=
  { (wS.setF aonB F.AON_PWR_STAT.PHASE 2).setReg (aonB + 0x10C) 0 with pwr := { wS.pwr with target := 1 + 4 % 3, commit := [0x3D, 0x38, 0x25].drop (4 / 5 % 2) } }
def wPowerStatesAreEnteredAndLeft11_id : Nat :=
  (fun (s : State) => s.pwr.commit.headD 0) wPowerStatesAreEnteredAndLeft11
def wPowerStatesAreEnteredAndLeft11_rest : List Nat :=
  (fun (s : State) => s.pwr.commit.tail) wPowerStatesAreEnteredAndLeft11
def wPowerStatesAreEnteredAndLeft12 : State :=
  { ((wS.setF aonB F.AON_PWR_STAT.PHASE 2).setReg (aonB + 0x10C) 0).setF aonB F.AON_WAKE_TIMER.MS (4 % 3) with pwr := { wS.pwr with target := 1 + 4 % 3, commit := [if 4 % 2 = 0 then 0x01 else 0x25] } }
def wPowerStatesAreEnteredAndLeft12_id : Nat :=
  (fun (s : State) => s.pwr.commit.headD 0) wPowerStatesAreEnteredAndLeft12
def wPowerStatesAreEnteredAndLeft13 : State :=
  { wS with pwr := { wS.pwr with commit := [] } }
def wPowerStatesAreEnteredAndLeft14 : State :=
  (wS.setF aonB F.AON_PWR_STAT.PHASE 0).setF aonB F.AON_PWR_STAT.STATE 0
def wPowerStatesAreEnteredAndLeft15 : State :=
  { (((wS.setF aonB F.AON_PWR_STAT.PHASE 0).setF aonB F.AON_PWR_STAT.STATE 1).setReg (aonB + 0x10C) 0x300001).setReg (aonB + 0x110) 0xFF with pwr := { wS.pwr with kept := [0x3D, 0x25] } }
def wPowerStatesAreEnteredAndLeft16 : State :=
  { (((wS.setF aonB F.AON_PWR_STAT.PHASE 1).setF aonB F.AON_PWR_STAT.STATE 0).setReg (aonB + 0x10C) 0x300001) with pwr := { wS.pwr with asked := [0x3D, 0x25] } }
def wPowerStatesAreEnteredAndLeft17 : State :=
  { (((wS.setF aonB F.AON_PWR_STAT.PHASE 2).setF aonB F.AON_PWR_STAT.STATE 0).setReg (aonB + 0x10C) 0x300001) with pwr := { wS.pwr with done := [0x3D, 0x25] } }
def wPowerStatesAreEnteredAndLeft18 : State :=
  ({ (((wS.setF aonB F.AON_PWR_STAT.PHASE 0).setF aonB F.AON_PWR_STAT.STATE 1).setReg (aonB + 0x10C) 0x310001) with pwr := { wS.pwr with kept := [0x3D, 0x25] } } : State).startTimer Tm.wakeTimer 5
def wPowerStatesAreEnteredAndLeft19 : State :=
  ({ (((wS.setF aonB F.AON_PWR_STAT.PHASE 0).setF aonB F.AON_PWR_STAT.STATE 1).setReg (aonB + 0x10C) 0) with pwr := { wS.pwr with kept := [0x3D, 0x25] } } : State).startTimer Tm.wakeTimer 5
def wPowerStatesAreEnteredAndLeft20 : State :=
  { wS.setF aonB F.AON_PWR_STAT.PHASE 3 with pwr := { wS.pwr with exits := [if 4 % 2 = 0 then 0x25 else 0x3D, 0x3E], kept := [0x3E, 0x25, 0x3D], frozen := [(0x20005, 77), (0x20007, 5)] } }
def wPowerStatesAreEnteredAndLeft20_id : Nat :=
  (fun (s : State) => s.pwr.exits.headD 0) wPowerStatesAreEnteredAndLeft20
def wPowerStatesAreEnteredAndLeft20_rest : List Nat :=
  (fun (s : State) => s.pwr.exits.tail) wPowerStatesAreEnteredAndLeft20
def wPowerStatesAreEnteredAndLeft21 : State :=
  { wS.setF aonB F.AON_PWR_STAT.PHASE 3 with pwr := { wS.pwr with exits := [if 4 % 2 = 0 then 0x25 else 0x3D], kept := [0x3E, 0x25, 0x3D], undo := 4 % 3 = 0, frozen := [(0x20005, 77), (0x20007, 5)] } }
def wPowerStatesAreEnteredAndLeft21_id : Nat :=
  (fun (s : State) => s.pwr.exits.headD 0) wPowerStatesAreEnteredAndLeft21
def wPowerStatesAreEnteredAndLeft22 : State :=
  { (wS.setF aonB F.AON_PWR_STAT.PHASE 4).setF aonB F.AON_CLK_CTRL.PLL_READY 1 with boot := { wS.boot with xtalLost := false }, pwr := { wS.pwr with fast := [0x25, 0x3D] } }
def wPowerStatesAreEnteredAndLeft23 : State :=
  wS.setF aonB F.AON_PWR_STAT.PHASE 0
def wPowerStatesAreEnteredAndLeft24 : State :=
  { ((wS.setF aonB F.AON_PWR_STAT.STATE 0).setF timB F.TIM_STAT.SERVO 1).setF timB F.TIM_STAT.RUN 1 with now := wS.now + 9999, pwr := { wS.pwr with timHold := some (wS.now / 2) } }
def wPowerStatesAreEnteredAndLeft24_at_ : Nat :=
  (fun (s : State) => s.pwr.timHold.getD 0) wPowerStatesAreEnteredAndLeft24
def wPowerStatesAreEnteredAndLeft25 : State :=
  { (((wS.setF aonB F.AON_PWR_STAT.STATE 0).setF timB F.TIM_STAT.SERVO 3).setF timB F.TIM_STAT.RUN 1).setF timB F.TIM_SERVO_CFG.HYBRID 0 with now := wS.now + 9999, pwr := { wS.pwr with timHold := some (wS.now / 2) } }
def wPowerStatesAreEnteredAndLeft25_at_ : Nat :=
  (fun (s : State) => s.pwr.timHold.getD 0) wPowerStatesAreEnteredAndLeft25
def wPowerStatesAreEnteredAndLeft26 : State :=
  { wS with pwr := { wS.pwr with timHold := none } }
def wPowerStatesAreEnteredAndLeft27 : State :=
  { wS.setF aonB F.AON_PWR_STAT.PHASE 3 with pwr := { wS.pwr with exits := [0x25, 0x3D], retried := false } }
def wPowerStatesAreEnteredAndLeft28 : State :=
  { wS.setF aonB F.AON_PWR_STAT.PHASE 3 with pwr := { wS.pwr with exits := [0x25, 0x3D], kept := [0x3D, 0x25], retried := true } }
def wPowerStatesAreEnteredAndLeft28_rest : List Nat :=
  (fun (s : State) => s.pwr.exits.tail) wPowerStatesAreEnteredAndLeft28
def wPowerStatesAreEnteredAndLeft29 : State :=
  { wS.setF aonB F.AON_PWR_STAT.PHASE 0 with pwr := { wS.pwr with svc := none } }
def wPowerStatesAreEnteredAndLeft30 : State :=
  { wS.setF aonB F.AON_PWR_STAT.PHASE 3 with pwr := { wS.pwr with exits := [0x25, 0x3D], retried := false } }
def wPowerStatesAreEnteredAndLeft31 : State :=
  { wS.setF aonB F.AON_PWR_STAT.PHASE 3 with pwr := { wS.pwr with exits := [0x25, 0x3D], kept := [0x3D, 0x25], retried := true } }
def wPowerStatesAreEnteredAndLeft31_rest : List Nat :=
  (fun (s : State) => s.pwr.exits.tail) wPowerStatesAreEnteredAndLeft31
def wPowerStatesAreEnteredAndLeft32 : State :=
  { wS.setF aonB F.AON_PWR_STAT.PHASE 0 with pwr := { wS.pwr with svc := none } }

/-- States and operands that meet the hypotheses of each clause of Obligations.PowerStatesAreEnteredAndLeft. -/
theorem wit_PowerStatesAreEnteredAndLeft :
    (∃ (m : Master) (key : BitVec 16) (target : BitVec 3) (s : State), s.reaches m (aonB + 0x100) = true ∧ key = 0xA5C3
      ∧ s.pwrPhase = 0 ∧ s.pwrState < target.toNat ∧ target.toNat ≤ 3 ∧ ((({ s.setPhase 1 with pwr := { s.pwr with
      target := target.toNat } } : State))).wakeMask = 0 ∧ (s.keepSet target.toNat ++ (if target = 2 then [0x08,
      0x09].filter s.live else [])) ≠ []) ∧
    (∃ (m : Master) (key : BitVec 16) (target : BitVec 3) (s : State), s.reaches m (aonB + 0x100) = true ∧ key = 0xA5C3
      ∧ s.pwrPhase = 0 ∧ s.pwrState < target.toNat ∧ target.toNat ≤ 3 ∧ ((({ s.setPhase 1 with pwr := { s.pwr with
      target := target.toNat } } : State))).wakeMask ≠ 0) ∧
    (∃ (m : Master) (key : BitVec 16) (target : BitVec 3) (s : State), s.reaches m (aonB + 0x100) = true ∧ key = 0xA5C3
      ∧ s.pwrPhase = 0 ∧ target.toNat < s.pwrState ∧ target.toNat ≤ 3 ∧ s.pwrState ≠ 3 ∧ s.pwr.kept ≠ []) ∧
    (∃ (m : Master) (key : BitVec 16) (target : BitVec 3) (s : State), s.reaches m (aonB + 0x100) = true ∧ key = 0xA5C3
      ∧ s.pwrPhase = 0 ∧ (3 < target.toNat ∨ target.toNat = s.pwrState ∨ s.pwrState = 3)) ∧
    (∃ (m : Master) (key : BitVec 16) (target : BitVec 3) (s : State), s.reaches m (aonB + 0x100) = true ∧ (key ≠ 0xA5C3
      ∨ s.pwrPhase ≠ 0)) ∧
    (∃ (isl : Fin 64) (reply : Fin 3) (s : State), s.pwrPhase = 1 ∧ s.pwr.asked.contains isl.val = true ∧ (s.replyOf
      isl.val (if reply.val = 0 then .ack else if reply.val = 1 then .delay else .refuse)) = .refuse) ∧
    (∃ (isl : Fin 64) (reply : Fin 3) (s : State), s.pwrPhase = 1 ∧ s.pwr.asked.contains isl.val = true ∧ (s.replyOf
      isl.val (if reply.val = 0 then .ack else if reply.val = 1 then .delay else .refuse)) = .delay) ∧
    (∃ (isl : Fin 64) (reply : Fin 3) (s : State), s.pwrPhase = 1 ∧ s.pwr.asked.contains isl.val = true ∧ (s.replyOf
      isl.val (if reply.val = 0 then .ack else if reply.val = 1 then .delay else .refuse)) = .ack ∧ (s.pwr.asked.filter
      (· ≠ isl.val)) ≠ []) ∧
    (∃ (isl : Fin 64) (reply : Fin 3) (s : State), s.pwrPhase = 1 ∧ s.pwr.asked.contains isl.val = true ∧ (s.replyOf
      isl.val (if reply.val = 0 then .ack else if reply.val = 1 then .delay else .refuse)) = .ack ∧ s.pwr.asked.filter
      (· ≠ isl.val) = [] ∧ s.keepSet s.pwr.target ≠ []) ∧
    (∃ (isl : Fin 64) (reply : Fin 3) (s : State), (s.pwrPhase ≠ 1 ∨ s.pwr.asked.contains isl.val = false)) ∧
    (∃ (s : State), s.timerOn Tm.delayMax = true ∧ s.pwrPhase = 1 ∧ s.pwr.asked.all (· < 64) = true) ∧
    (∃ (id : Nat) (rest : List Nat) (s : State), s.pwr.commit = id :: rest ∧ rest ≠ [] ∧ s.pwrPhase = 2 ∧ s.mcWaits id =
      false ∧ s.live id = true ∧ id < 64 ∧ (id ≠ 0x3A ∨ s.pwr.target ≠ 3) ∧ s.wakeMask = 0) ∧
    (∃ (id : Nat) (s : State), s.pwr.commit = [id] ∧ s.pwrPhase = 2 ∧ s.mcWaits id = false ∧ s.live id = true ∧ id < 64
      ∧ (id ≠ 0x3A ∨ s.pwr.target ≠ 3) ∧ s.pwr.target < 4 ∧ (({ s with pwr := { s.pwr with timerOut := false } } :
      State).wakeMask) = 0) ∧
    (∃ (s : State), (s.pwr.commit = [] ∨ s.pwrPhase ≠ 2 ∨ s.mcWaits (s.pwr.commit.headD 0) = true)) ∧
    (∃ (src : Fin 22) (high : Bool) (inWindow : Bool) (s : State), (((if src.val < 16 then { s with pwr := { s.pwr with
      gpio := putPrio s.pwr.gpio src.val high } } else s)).pwrPhase = 2 ∧ inWindow = true ∨ (((if src.val < 16 then { s
      with pwr := { s.pwr with gpio := putPrio s.pwr.gpio src.val high } } else s)).pwrPhase = 0 ∧ s.pwrState = 0) ∨ 2 <
      s.pwrPhase)) ∧
    (∃ (src : Fin 22) (high : Bool) (inWindow : Bool) (s : State), s.pwrPhase = 0 ∧ s.pwrState ≠ 0 ∧ s.pwr.kept ≠ []) ∧
    (∃ (src : Fin 22) (high : Bool) (inWindow : Bool) (s : State), s.pwrPhase = 1 ∧ (Nat.lor (((if src.val < 16 then { s
      with pwr := { s.pwr with gpio := putPrio s.pwr.gpio src.val high } } else s : State))).wakeMask (if ((if src.val <
      16 then high && !s.pwr.gpio.testBit src.val && (s.fld aonB F.AON_WAKE_TYPE.EDGE).testBit src.val else decide (20 ≤
      src.val))) && (s.fld aonB F.AON_WAKE_EN.EN).testBit src.val then 2 ^ src.val else 0)) ≠ 0) ∧
    (∃ (src : Fin 22) (high : Bool) (inWindow : Bool) (s : State), s.pwrPhase = 2 ∧ inWindow = false ∧ (Nat.lor (((if
      src.val < 16 then { s with pwr := { s.pwr with gpio := putPrio s.pwr.gpio src.val high } } else s :
      State))).wakeMask (if ((if src.val < 16 then high && !s.pwr.gpio.testBit src.val && (s.fld aonB
      F.AON_WAKE_TYPE.EDGE).testBit src.val else decide (20 ≤ src.val))) && (s.fld aonB F.AON_WAKE_EN.EN).testBit
      src.val then 2 ^ src.val else 0)) ≠ 0 ∧ s.pwr.done ≠ []) ∧
    (∃ (s : State), s.timerOn Tm.wakeTimer = true ∧ s.pwrPhase = 0 ∧ s.pwrState ≠ 0 ∧ s.pwr.kept ≠ [] ∧ (s.fld aonB
      F.AON_WAKE_EN.EN).testBit 16 = true) ∧
    (∃ (s : State), s.timerOn Tm.wakeTimer = true ∧ s.pwrPhase = 0 ∧ s.pwrState ≠ 0 ∧ s.fld aonB F.AON_WAKE_EN.EN = 0) ∧
    (∃ (id : Nat) (rest : List Nat) (s : State), s.pwr.exits = id :: rest ∧ s.pwrPhase = 3 ∧ rest ≠ [] ∧ (id = 0x01 ∨
      (0x20 ≤ id ∧ id ≤ 0x2C) ∨ id = 0x38 ∨ id = 0x3A ∨ id = 0x3B ∨ id = 0x3D ∨ id = 0x3E ∨ id = 0x3F)) ∧
    (∃ (id : Nat) (s : State), s.pwr.exits = [id] ∧ s.pwrPhase = 3 ∧ (id = 0x01 ∨ (0x20 ≤ id ∧ id ≤ 0x2C) ∨ id = 0x38 ∨
      id = 0x3A ∨ id = 0x3B ∨ id = 0x3D ∨ id = 0x3E ∨ id = 0x3F)) ∧
    (∃ (m : Master) (s : State), s.reaches m (aonB + 0x11C) = true ∧ s.pwrPhase = 4 ∧ s.bit aonB
      F.AON_CLK_CTRL.PLL_READY = true ∧ s.boot.xtalLost = false) ∧
    (∃ (m : Master) (s : State), s.reaches m (aonB + 0x11C) = true ∧ (s.pwrPhase ≠ 4 ∨ s.bit aonB
      F.AON_CLK_CTRL.PLL_READY = false ∨ s.boot.xtalLost = true)) ∧
    (∃ (at_ : Nat) (s : State), s.pwr.timHold = some at_ ∧ s.live 0x04 = true ∧ s.pwrState ≠ 3 ∧ s.servo ≠ 2 ∧ s.servo ≠
      3) ∧
    (∃ (at_ : Nat) (s : State), s.pwr.timHold = some at_ ∧ s.live 0x04 = true ∧ s.pwrState ≠ 3 ∧ (s.servo = 2 ∨ s.servo
      = 3) ∧ s.hybrid = false) ∧
    (∃ (s : State), (s.pwr.timHold = none ∨ s.live 0x04 = false ∨ s.pwrState = 3)) ∧
    (∃ (isl : Fin 64) (s : State), ((s.pwrPhase = 3 ∧ s.pwr.exits.head? = some isl.val) ∨ (s.pwr.svc.any fun p => (islGroup
      p.1).contains isl.val && !s.live p.1) = true) ∧ s.pwr.retried = false) ∧
    (∃ (isl : Fin 64) (rest : List Nat) (s : State), s.pwrPhase = 3 ∧ s.pwr.exits = isl.val :: rest ∧ s.pwr.retried =
      true ∧ rest ≠ []) ∧
    (∃ (isl : Fin 64) (s : State), ¬(s.pwrPhase = 3 ∧ s.pwr.exits.head? = some isl.val) ∧ s.pwr.svc = none) ∧
    (∃ (isl : Fin 64) (s : State), ((s.pwrPhase = 3 ∧ s.pwr.exits.head? = some isl.val) ∨ (s.pwr.svc.any fun p => (islGroup
      p.1).contains isl.val && !s.live p.1) = true) ∧ s.pwr.retried = false) ∧
    (∃ (isl : Fin 64) (rest : List Nat) (s : State), s.pwrPhase = 3 ∧ s.pwr.exits = isl.val :: rest ∧ s.pwr.retried =
      true ∧ rest ≠ []) ∧
    (∃ (isl : Fin 64) (s : State), ¬(s.pwrPhase = 3 ∧ s.pwr.exits.head? = some isl.val) ∧ s.pwr.svc = none) :=
  ⟨⟨.host, 0xA5C3, 2, wPowerStatesAreEnteredAndLeft0, by decide +kernel⟩,
   ⟨.host, 0xA5C3, 1, wPowerStatesAreEnteredAndLeft1, by decide +kernel⟩,
   ⟨.host, 0xA5C3, 0, wPowerStatesAreEnteredAndLeft2, by decide +kernel⟩,
   ⟨.host, 0xA5C3, 1, wPowerStatesAreEnteredAndLeft3, by decide +kernel⟩,
   ⟨.host, 0x1234, 0, wS, by decide +kernel⟩,
   ⟨0x25, 2, wPowerStatesAreEnteredAndLeft5, by decide +kernel⟩,
   ⟨0x20, 1, wPowerStatesAreEnteredAndLeft6, by decide +kernel⟩,
   ⟨0x20, 0, wPowerStatesAreEnteredAndLeft7, by decide +kernel⟩,
   ⟨0x3D, 0, wPowerStatesAreEnteredAndLeft8, by decide +kernel⟩,
   ⟨0x20, 0, wS, by decide +kernel⟩,
   ⟨wPowerStatesAreEnteredAndLeft10, by decide +kernel⟩,
   ⟨wPowerStatesAreEnteredAndLeft11_id, wPowerStatesAreEnteredAndLeft11_rest, wPowerStatesAreEnteredAndLeft11,
     by decide +kernel⟩,
   ⟨wPowerStatesAreEnteredAndLeft12_id, wPowerStatesAreEnteredAndLeft12, by decide +kernel⟩,
   ⟨wPowerStatesAreEnteredAndLeft13, by decide +kernel⟩,
   ⟨3, true, false, wPowerStatesAreEnteredAndLeft14, by decide +kernel⟩,
   ⟨20, true, false, wPowerStatesAreEnteredAndLeft15, by decide +kernel⟩,
   ⟨20, true, false, wPowerStatesAreEnteredAndLeft16, by decide +kernel⟩,
   ⟨20, true, false, wPowerStatesAreEnteredAndLeft17, by decide +kernel⟩,
   ⟨wPowerStatesAreEnteredAndLeft18, by decide +kernel⟩,
   ⟨wPowerStatesAreEnteredAndLeft19, by decide +kernel⟩,
   ⟨wPowerStatesAreEnteredAndLeft20_id, wPowerStatesAreEnteredAndLeft20_rest, wPowerStatesAreEnteredAndLeft20,
     by decide +kernel⟩,
   ⟨wPowerStatesAreEnteredAndLeft21_id, wPowerStatesAreEnteredAndLeft21, by decide +kernel⟩,
   ⟨.host, wPowerStatesAreEnteredAndLeft22, by decide +kernel⟩,
   ⟨.host, wPowerStatesAreEnteredAndLeft23, by decide +kernel⟩,
   ⟨wPowerStatesAreEnteredAndLeft24_at_, wPowerStatesAreEnteredAndLeft24, by decide +kernel⟩,
   ⟨wPowerStatesAreEnteredAndLeft25_at_, wPowerStatesAreEnteredAndLeft25, by decide +kernel⟩,
   ⟨wPowerStatesAreEnteredAndLeft26, by decide +kernel⟩,
   ⟨0x25, wPowerStatesAreEnteredAndLeft27, by decide +kernel⟩,
   ⟨0x25, wPowerStatesAreEnteredAndLeft28_rest, wPowerStatesAreEnteredAndLeft28, by decide +kernel⟩,
   ⟨0x25, wPowerStatesAreEnteredAndLeft29, by decide +kernel⟩,
   ⟨0x25, wPowerStatesAreEnteredAndLeft30, by decide +kernel⟩,
   ⟨0x25, wPowerStatesAreEnteredAndLeft31_rest, wPowerStatesAreEnteredAndLeft31, by decide +kernel⟩,
   ⟨0x25, wPowerStatesAreEnteredAndLeft32, by decide +kernel⟩⟩

def wVoltageSagAndTemperature0 : State :=
  { ((wS.setF aonB F.AON_DVFS_STAT.V_BUSY 0).setF aonB F.AON_DVFS_STAT.F_BUSY 0).setF aonB F.AON_DVFS_STAT.FREQ (4 % 3) with pwr := { wS.pwr with voutExp := -9 } }
def wVoltageSagAndTemperature1 : State :=
  { ((wS.setF aonB F.AON_DVFS_STAT.V_BUSY 0).setF aonB F.AON_DVFS_STAT.F_BUSY 0).setF aonB F.AON_DVFS_STAT.FREQ (4 % 3) with pwr := { wS.pwr with voutExp := -1 } }
def wVoltageSagAndTemperature2 : State :=
  (wS.setF aonB F.AON_DVFS_STAT.V_BUSY 0).setF aonB F.AON_DVFS_STAT.FREQ 0
def wVoltageSagAndTemperature3 : State :=
  wS.setF aonB F.AON_DVFS_STAT.V_BUSY 1
def wVoltageSagAndTemperature4 : State :=
  (((wS.setF aonB F.AON_DVFS_STAT.V_BUSY (4 / 4 % 2)).setF aonB F.AON_DVFS_STAT.F_BUSY 0).setF aonB F.AON_DVFS_STAT.VOLT 720).setF aonB F.AON_DVFS_V.VOLT (650 + 4 % 100)
def wVoltageSagAndTemperature5 : State :=
  wS.setF aonB F.AON_DVFS_STAT.F_BUSY 1
def wVoltageSagAndTemperature6 : State :=
  (wS.setF aonB F.AON_DVFS_STAT.V_BUSY 1).startTimer Tm.settle 9
def wVoltageSagAndTemperature7 : State :=
  wS.setF aonB F.AON_DVFS_STAT.F_BUSY 1
def wVoltageSagAndTemperature8 : State :=
  { wS.setF aonB F.AON_SAG_STAT.SAG 1 with boot := { wS.boot with por := false } }
def wVoltageSagAndTemperature9 : State :=
  { wS.setF aonB F.AON_SAG_STAT.SAG 0 with boot := { wS.boot with por := false }, vlt := { wS.vlt with fuse := none, jobs := ⟨none, none⟩ }, flash := { wS.flash with busy := none } }
def wVoltageSagAndTemperature10 : State :=
  wS.setF aonB F.AON_SAG_STAT.SAG 1
def wVoltageSagAndTemperature11 : State :=
  wS.setF aonB F.AON_SAG_STAT.SAG 0
def wVoltageSagAndTemperature13 : State :=
  { (wS.setF aonB F.AON_BOOT_STAT.XTAL_FB 0) with boot := { wS.boot with por := false, xtalLost := false } }

/-- States and operands that meet the hypotheses of each clause of Obligations.VoltageSagAndTemperature. -/
theorem wit_VoltageSagAndTemperature :
    (∃ (m : Master) (volt : BitVec 10) (acks : Bool) (s : State), s.reaches m (aonB + 0x140) = true ∧ s.bit aonB
      F.AON_DVFS_STAT.V_BUSY = false ∧ ¬ (actVolt volt.toNat) < (max (lowVolt ((s.fld aonB F.AON_DVFS_STAT.FREQ))) (if
      s.bit aonB F.AON_DVFS_STAT.F_BUSY then lowVolt (s.fld aonB F.AON_DVFS_F.FREQ) else 0)) ∧ 2 * (((if s.pwr.voutExp <
      0 then (actVolt volt.toNat) * 2 ^ (-s.pwr.voutExp).toNat else (actVolt volt.toNat))) % ((if s.pwr.voutExp < 0 then
      1000 else 1000 * 2 ^ s.pwr.voutExp.toNat))) ≠ (if s.pwr.voutExp < 0 then 1000 else 1000 * 2 ^
      s.pwr.voutExp.toNat)) ∧
    (∃ (m : Master) (volt : BitVec 10) (acks : Bool) (s : State), s.reaches m (aonB + 0x140) = true ∧ s.bit aonB
      F.AON_DVFS_STAT.V_BUSY = false ∧ ¬ actVolt volt.toNat < (max (lowVolt (s.fld aonB F.AON_DVFS_STAT.FREQ)) (if s.bit
      aonB F.AON_DVFS_STAT.F_BUSY then lowVolt (s.fld aonB F.AON_DVFS_F.FREQ) else 0)) ∧ 2 * (((if s.pwr.voutExp < 0
      then actVolt volt.toNat * 2 ^ (-s.pwr.voutExp).toNat else actVolt volt.toNat)) % ((if s.pwr.voutExp < 0 then 1000
      else 1000 * 2 ^ s.pwr.voutExp.toNat))) = (if s.pwr.voutExp < 0 then 1000 else 1000 * 2 ^ s.pwr.voutExp.toNat) ∧
      acks = true) ∧
    (∃ (m : Master) (volt : BitVec 10) (acks : Bool) (s : State), s.reaches m (aonB + 0x140) = true ∧ s.bit aonB
      F.AON_DVFS_STAT.V_BUSY = false ∧ actVolt volt.toNat < (max (lowVolt (s.fld aonB F.AON_DVFS_STAT.FREQ)) (if s.bit
      aonB F.AON_DVFS_STAT.F_BUSY then lowVolt (s.fld aonB F.AON_DVFS_F.FREQ) else 0))) ∧
    (∃ (m : Master) (volt : BitVec 10) (acks : Bool) (s : State), s.reaches m (aonB + 0x140) = true ∧ s.bit aonB
      F.AON_DVFS_STAT.V_BUSY = true) ∧
    (∃ (m : Master) (freq : BitVec 2) (s : State), s.reaches m (aonB + 0x144) = true ∧ s.bit aonB F.AON_DVFS_STAT.F_BUSY
      = false) ∧
    (∃ (m : Master) (freq : BitVec 2) (s : State), s.reaches m (aonB + 0x144) = true ∧ s.bit aonB F.AON_DVFS_STAT.F_BUSY
      = true) ∧
    (∃ (s : State), s.timerOn Tm.settle = true) ∧
    (∃ (s : State), s.bit aonB F.AON_DVFS_STAT.F_BUSY = true) ∧
    (∃ (pin : Bool) (mon : Bool) (mv : BitVec 16) (late : Bool) (s : State), s.boot.por = false ∧ (pin || mon) = true ∧
      s.sagging = true) ∧
    (∃ (pin : Bool) (mon : Bool) (mv : BitVec 16) (late : Bool) (s : State), s.boot.por = false ∧ (pin || mon) = true ∧
      s.sagging = false ∧ s.vlt.fuse = none ∧ s.flash.busy = none ∧ s.vlt.jobs.a = none ∧ s.vlt.jobs.b = none) ∧
    (∃ (mv : BitVec 16) (s : State), s.sagging = true) ∧
    (∃ (mv : BitVec 16) (s : State), s.sagging = false) ∧
    (∃ (ms : BitVec 16) (s : State), s.boot.por = false ∧ s.boot.xtalLost = false ∧ s.bit aonB F.AON_BOOT_STAT.XTAL_FB =
      false ∧ 2 < s.stage) :=
  ⟨⟨.host, 800, ((4 % 3 ≠ 0) : Bool), wVoltageSagAndTemperature0, by decide +kernel⟩,
   ⟨.host, 750, true, wVoltageSagAndTemperature1, by decide +kernel⟩,
   ⟨.host, 700, true, wVoltageSagAndTemperature2, by decide +kernel⟩,
   ⟨.host, 700, true, wVoltageSagAndTemperature3, by decide +kernel⟩,
   ⟨.host, 1, wVoltageSagAndTemperature4, by decide +kernel⟩,
   ⟨.host, 1, wVoltageSagAndTemperature5, by decide +kernel⟩,
   ⟨wVoltageSagAndTemperature6, by decide +kernel⟩,
   ⟨wVoltageSagAndTemperature7, by decide +kernel⟩,
   ⟨true, false, 3001, false, wVoltageSagAndTemperature8, by decide +kernel⟩,
   ⟨false, true, 2790, ((4 % 3 = 0) : Bool), wVoltageSagAndTemperature9, by decide +kernel⟩,
   ⟨3300, wVoltageSagAndTemperature10, by decide +kernel⟩,
   ⟨3300, wVoltageSagAndTemperature11, by decide +kernel⟩,
   ⟨3, wVoltageSagAndTemperature13, by decide +kernel⟩⟩

def wIslandServiceAndFaults0 : State :=
  (wS.setReg (aonB + 0x120) 0)
def wIslandServiceAndFaults1 : State :=
  { wS.setReg (aonB + 0x120) 0 with draining := [0x3E] }
def wIslandServiceAndFaults2 : State :=
  wS.setReg (aonB + 0x120) 0
def wIslandServiceAndFaults3 : State :=
  (wS.setReg (aonB + 0x120) 0)
def wIslandServiceAndFaults4 : State :=
  wS.setReg (aonB + 0x120) 0
def wIslandServiceAndFaults5 : State :=
  ((wS.setReg (aonB + 0x120) 0).setLive 0x25 false).setBit aonB (islBit 0x124 0x25) true
def wIslandServiceAndFaults6 : State :=
  wS.setReg (aonB + 0x120) 0
def wIslandServiceAndFaults7 : State :=
  { (wS.setLive 0x25 false).setBit aonB (islBit 0x124 0x25) true with pwr := { wS.pwr with svc := some (0x25, 2) } }
def wIslandServiceAndFaults7_id : Nat :=
  (fun (s : State) => match s.pwr.svc with | some p => p.1 | none => 0) wIslandServiceAndFaults7
def wIslandServiceAndFaults7_op : Nat :=
  (fun (s : State) => match s.pwr.svc with | some p => p.2 | none => 0) wIslandServiceAndFaults7
def wIslandServiceAndFaults8 : State :=
  { (wS.setLive 0x25 false).setBit aonB (islBit 0x124 0x25) true with pwr := { wS.pwr with svc := some (0x25, 2) } }
def wIslandServiceAndFaults8_id : Nat :=
  (fun (s : State) => match s.pwr.svc with | some p => p.1 | none => 0) wIslandServiceAndFaults8
def wIslandServiceAndFaults8_op : Nat :=
  (fun (s : State) => match s.pwr.svc with | some p => p.2 | none => 0) wIslandServiceAndFaults8
def wIslandServiceAndFaults9 : State :=
  { wS with pwr := { wS.pwr with svc := none } }
def wIslandServiceAndFaults10 : State :=
  { wS with draining := [0x25, 0x3E] }
def wIslandServiceAndFaults11 : State :=
  { wS with draining := [], pwr := { wS.pwr with resumed := [] } }
def wIslandServiceAndFaults12 : State :=
  { wS with draining := [], pwr := { wS.pwr with resumed := [(0x3A, wS.now + 1), (0x3E, wS.now + 1)] } }
def wIslandServiceAndFaults13 : State :=
  { wS.setF timB F.TIM_STAT.SERVO 1 with draining := [] }
def wIslandServiceAndFaults14 : State :=
  { wS with draining := [0x25, 0x3E], pwr := { wS.pwr with svc := none } }
def wIslandServiceAndFaults15 : State :=
  { wS with draining := [0x30, 0x3F], pwr := { wS.pwr with svc := none } }
def wIslandServiceAndFaults16 : State :=
  { wS.setF vltB F.VLT_STAT.DRAINING 1 with draining := [0x2C, 0x3E], pwr := { wS.pwr with svc := none } }
def wIslandServiceAndFaults17 : State :=
  { wS with draining := [] }
def wIslandServiceAndFaults19 : State :=
  { wS with draining := [], pwr := { wS.pwr with resumed := [] } }
def wIslandServiceAndFaults20 : State :=
  wS.setLive 0x2C false
def wIslandServiceAndFaults22 : State :=
  ((wS.setPort 1 { wS.port 1 with mac := some wPkt }).setF (tqB 1) F.TQ_SEC_CFG.EN 1).setF (tqB 1) F.TQ_SEC_CFG.PROTECT 1
def wIslandServiceAndFaults22_slot : Nat :=
  (fun (s : State) (engine : Fin 15) (lane : Fin 4) => (s.secTxSlot (4 * (engine.val - 3) + lane.val)).getD 0) wIslandServiceAndFaults22 3 1
def wIslandServiceAndFaults23 : State :=
  wS.setReg (tblB + 0x100) 0
def wIslandServiceAndFaults24 : State :=
  ((wS.setF tblB F.TBL_AGE_CFG.FLOW_PERIOD 1).setF tblB F.TBL_AGE_CFG.L2_PERIOD 1).setEnt 2 3 (2 ^ 320 + 2 ^ 324)
def wIslandServiceAndFaults25 : State :=
  ((wS.setF tblB F.TBL_AGE_CFG.FLOW_PERIOD 1).setF tblB F.TBL_AGE_CFG.L2_PERIOD 1).setEnt 2 3 (2 ^ 320 + 2 ^ 323 + 2 ^ 324)
def wIslandServiceAndFaults26 : State :=
  ((wS.setF tblB F.TBL_AGE_CFG.FLOW_PERIOD 1).setF tblB F.TBL_AGE_CFG.L2_PERIOD 1).setEnt 1 3 (2 ^ 64 + 5)
def wIslandServiceAndFaults27 : State :=
  ((wS.setF tblB F.TBL_AGE_CFG.FLOW_PERIOD 1).setF tblB F.TBL_AGE_CFG.L2_PERIOD 1).setEnt 2 3 (2 ^ 320 + 2 ^ 323)
def wIslandServiceAndFaults28 : State :=
  (wS.setF tblB F.TBL_AGE_CFG.FLOW_PERIOD 1).setF tblB F.TBL_AGE_CFG.L2_PERIOD 1

/-- States and operands that meet the hypotheses of each clause of Obligations.IslandServiceAndFaults. -/
theorem wit_IslandServiceAndFaults :
    (∃ (m : Master) (isl : BitVec 6) (s : State), s.reaches m (aonB + 0x120) = true ∧ (s.bit aonB F.AON_ISL_CMD.BUSY =
      false) ∧ s.live isl.toNat = true ∧ islPermitted isl.toNat = true ∧ s.islReady isl.toNat = true ∧
      s.draining.contains isl.toNat = false) ∧
    (∃ (m : Master) (isl : BitVec 6) (s : State), s.reaches m (aonB + 0x120) = true ∧ (s.bit aonB F.AON_ISL_CMD.BUSY =
      false) ∧ s.live isl.toNat = true ∧ islPermitted isl.toNat = true ∧ s.islReady isl.toNat = true ∧
      s.draining.contains isl.toNat = true) ∧
    (∃ (m : Master) (isl : BitVec 6) (s : State), s.reaches m (aonB + 0x120) = true ∧ (s.bit aonB F.AON_ISL_CMD.BUSY =
      false) ∧ (s.live isl.toNat = false ∨ islPermitted isl.toNat = false ∨ s.islReady isl.toNat = false)) ∧
    (∃ (m : Master) (isl : BitVec 6) (s : State), s.reaches m (aonB + 0x120) = true ∧ (s.bit aonB F.AON_ISL_CMD.BUSY =
      false) ∧ s.live isl.toNat = true ∧ islPermitted isl.toNat = true ∧ s.islReady isl.toNat = true ∧
      s.draining.contains isl.toNat = false) ∧
    (∃ (m : Master) (isl : BitVec 6) (s : State), s.reaches m (aonB + 0x120) = true ∧ (s.bit aonB F.AON_ISL_CMD.BUSY =
      false) ∧ (s.live isl.toNat = false ∨ islPermitted isl.toNat = false ∨ s.islReady isl.toNat = false)) ∧
    (∃ (m : Master) (isl : BitVec 6) (s : State), s.reaches m (aonB + 0x120) = true ∧ (s.bit aonB F.AON_ISL_CMD.BUSY =
      false) ∧ s.live isl.toNat = false ∧ (s.islOut isl.toNat || s.islDark isl.toNat) = true) ∧
    (∃ (m : Master) (isl : BitVec 6) (s : State), s.reaches m (aonB + 0x120) = true ∧ (s.bit aonB F.AON_ISL_CMD.BUSY =
      false) ∧ (s.live isl.toNat = true ∨ (s.islOut isl.toNat || s.islDark isl.toNat) = false)) ∧
    (∃ (pass : Bool) (id : Nat) (op : Nat) (s : State), s.pwr.svc = some (id, op) ∧ s.live id = false ∧ id < 64 ∧ pass =
      false) ∧
    (∃ (pass : Bool) (id : Nat) (op : Nat) (s : State), s.pwr.svc = some (id, op) ∧ s.live id = false ∧ s.islOut id =
      true ∧ s.islDark id = false ∧ pass = true ∧ (id = 0x25 ∨ id = 0x3B ∨ id = 0x3D ∨ id = 0x3E ∨ id = 0x38)) ∧
    (∃ (pass : Bool) (s : State), s.pwr.svc = none) ∧
    (∃ (isl : Fin 64) (cause : Fin 4) (bad : Option (BitVec 12 × Nat)) (s : State), (s.live isl.val = false ∨
      s.draining.contains isl.val = true)) ∧
    (∃ (isl : Fin 64) (cause : Fin 4) (bad : Option (BitVec 12 × Nat)) (s : State), s.live isl.val = true ∧
      s.draining.contains isl.val = false ∧ (isl = 0x3E ∨ isl = 0x3A) ∧ (decide (SMap.get (fun _ => 0) s.pwr.resumed
      isl.val ≠ 0) && decide (s.now + 1 < SMap.get (fun _ => 0) s.pwr.resumed isl.val + max 1 (s.fld aonB
      F.AON_FAULT_CFG.WIN) * msTicks)) = false) ∧
    (∃ (isl : Fin 64) (cause : Fin 4) (bad : Option (BitVec 12 × Nat)) (s : State), s.live isl.val = true ∧
      s.draining.contains isl.val = false ∧ (isl = 0x3E ∨ isl = 0x3A) ∧ (decide (SMap.get (fun _ => 0) s.pwr.resumed
      isl.val ≠ 0) && decide (s.now + 1 < SMap.get (fun _ => 0) s.pwr.resumed isl.val + max 1 (s.fld aonB
      F.AON_FAULT_CFG.WIN) * msTicks)) = true) ∧
    (∃ (isl : Fin 64) (cause : Fin 4) (bad : Option (BitVec 12 × Nat)) (s : State), s.live isl.val = true ∧
      s.draining.contains isl.val = false ∧ isl = 0x04 ∧ s.servo ≠ 2 ∧ s.servo ≠ 3) ∧
    (∃ (isl : Fin 64) (s : State), s.draining.contains isl.val = true ∧ isl ≠ 0x2C ∧ isl ≠ 0x3D ∧ isl ≠ 0x3F ∧ (isl.val
      < 0x30 ∨ 0x37 < isl.val) ∧ s.pwr.svc = none) ∧
    (∃ (isl : Fin 64) (s : State), s.draining.contains isl.val = true ∧ (isl = 0x3F ∨ (0x30 ≤ isl.val ∧ isl.val ≤ 0x37))
      ∧ s.pwr.svc = none) ∧
    (∃ (isl : Fin 64) (s : State), s.draining.contains isl.val = true ∧ isl = 0x2C ∧ s.pwr.svc = none) ∧
    (∃ (isl : Fin 64) (s : State), s.draining.contains isl.val = false) ∧
    (∃ (isl : Fin 64) (index : Byte) (parityOk : Bool) (s : State), (parityOk = true ∨ s.live isl.val = false ∨
      s.draining.contains isl.val = true)) ∧
    (∃ (isl : Fin 64) (index : Byte) (parityOk : Bool) (s : State), parityOk = false ∧ s.live isl.val = true ∧
      s.draining.contains isl.val = false ∧ (isl = 0x3E ∨ isl = 0x3A) ∧ (decide (SMap.get (fun _ => 0) s.pwr.resumed
      isl.val ≠ 0) && decide (s.now + 1 < SMap.get (fun _ => 0) s.pwr.resumed isl.val + max 1 (s.fld aonB
      F.AON_FAULT_CFG.WIN) * msTicks)) = false) ∧
    (∃ (engine : Fin 15) (lane : Fin 4) (s : State), s.live 0x2C = false) ∧
    (∃ (engine : Fin 15) (lane : Fin 4) (s : State), s.live 0x2C = true ∧ 3 ≤ engine.val ∧ s.secTxSlot ((4 * (engine.val
      - 3) + lane.val)) = none) ∧
    (∃ (engine : Fin 15) (lane : Fin 4) (slot : Nat) (s : State), s.live 0x2C = true ∧ 3 ≤ engine.val ∧ s.secTxSlot ((4
      * (engine.val - 3) + lane.val)) = some slot) ∧
    (∃ (flow : Bool) (i : BitVec 16) (ecc : EccOutcome) (bank : Fin 64) (s : State), (s.accepts 0x22 = false ∨ (s.fld
      tblB (if flow then F.TBL_AGE_CFG.FLOW_PERIOD else F.TBL_AGE_CFG.L2_PERIOD)) = 0 ∨ s.tblSize ((if flow then 2 else
      1)) ≤ i.toNat)) ∧
    (∃ (flow : Bool) (i : BitVec 16) (ecc : EccOutcome) (bank : Fin 64) (s : State), s.accepts 0x22 = true ∧ (s.fld tblB
      (if flow then F.TBL_AGE_CFG.FLOW_PERIOD else F.TBL_AGE_CFG.L2_PERIOD)) ≠ 0 ∧ i.toNat < s.tblSize ((if flow then 2
      else 1)) ∧ ecc = .good ∧ (entValid ((if flow then 2 else 1)) ((s.ent ((if flow then 2 else 1)) i.toNat)) = false ∨
      (flow = true ∧ bits ((s.ent ((if flow then 2 else 1)) i.toNat)) 323 323 = 0) ∨ (flow = false ∧ (s.tbl.hitNow.has
      s.now (s.entKey ((if flow then 2 else 1)) i.toNat)) = false ∧ bits ((s.ent ((if flow then 2 else 1)) i.toNat)) 66
      66 ≠ 1 ∧ bits ((s.ent ((if flow then 2 else 1)) i.toNat)) 65 65 = 1))) ∧
    (∃ (flow : Bool) (i : BitVec 16) (ecc : EccOutcome) (bank : Fin 64) (s : State), s.accepts 0x22 = true ∧ (s.fld tblB
      (if flow then F.TBL_AGE_CFG.FLOW_PERIOD else F.TBL_AGE_CFG.L2_PERIOD)) ≠ 0 ∧ i.toNat < s.tblSize ((if flow then 2
      else 1)) ∧ ecc = .good ∧ entValid ((if flow then 2 else 1)) ((s.ent ((if flow then 2 else 1)) i.toNat)) = true ∧
      (flow = true → bits ((s.ent ((if flow then 2 else 1)) i.toNat)) 323 323 ≠ 0) ∧ ((s.tbl.hitNow.has s.now (s.entKey
      ((if flow then 2 else 1)) i.toNat)) = true ∨ bits ((s.ent ((if flow then 2 else 1)) i.toNat)) ((if flow then 324
      else 66)) ((if flow then 324 else 66)) = 1)) ∧
    (∃ (flow : Bool) (i : BitVec 16) (ecc : EccOutcome) (bank : Fin 64) (s : State), s.accepts 0x22 = true ∧ (s.fld tblB
      (if flow then F.TBL_AGE_CFG.FLOW_PERIOD else F.TBL_AGE_CFG.L2_PERIOD)) ≠ 0 ∧ i.toNat < s.tblSize ((if flow then 2
      else 1)) ∧ ecc = .good ∧ flow = false ∧ entValid 1 ((s.ent ((if flow then 2 else 1)) i.toNat)) = true ∧
      (s.tbl.hitNow.has s.now (s.entKey ((if flow then 2 else 1)) i.toNat)) = false ∧ bits ((s.ent ((if flow then 2 else
      1)) i.toNat)) 66 66 ≠ 1 ∧ bits ((s.ent ((if flow then 2 else 1)) i.toNat)) 65 65 ≠ 1) ∧
    (∃ (flow : Bool) (i : BitVec 16) (ecc : EccOutcome) (bank : Fin 64) (s : State), s.accepts 0x22 = true ∧ (s.fld tblB
      (if flow then F.TBL_AGE_CFG.FLOW_PERIOD else F.TBL_AGE_CFG.L2_PERIOD)) ≠ 0 ∧ i.toNat < s.tblSize ((if flow then 2
      else 1)) ∧ ecc = .good ∧ flow = true ∧ entValid 2 ((s.ent ((if flow then 2 else 1)) i.toNat)) = true ∧
      (s.tbl.hitNow.has s.now (s.entKey ((if flow then 2 else 1)) i.toNat)) = false ∧ bits ((s.ent ((if flow then 2 else
      1)) i.toNat)) 324 324 ≠ 1 ∧ bits ((s.ent ((if flow then 2 else 1)) i.toNat)) 323 323 ≠ 0) ∧
    (∃ (flow : Bool) (i : BitVec 16) (ecc : EccOutcome) (bank : Fin 64) (s : State), s.accepts 0x22 = true ∧ (s.fld tblB
      (if flow then F.TBL_AGE_CFG.FLOW_PERIOD else F.TBL_AGE_CFG.L2_PERIOD)) ≠ 0 ∧ i.toNat < s.tblSize ((if flow then 2
      else 1)) ∧ ecc = .corrected ∧ entValid ((if flow then 2 else 1)) ((s.ent ((if flow then 2 else 1)) i.toNat)) =
      false) :=
  ⟨⟨.host, 0x3E, wIslandServiceAndFaults0, by decide +kernel⟩,
   ⟨.host, 0x3E, wIslandServiceAndFaults1, by decide +kernel⟩,
   ⟨.host, 0x22, wIslandServiceAndFaults2, by decide +kernel⟩,
   ⟨.host, 0x3E, wIslandServiceAndFaults3, by decide +kernel⟩,
   ⟨.host, 0x22, wIslandServiceAndFaults4, by decide +kernel⟩,
   ⟨.host, 0x25, wIslandServiceAndFaults5, by decide +kernel⟩,
   ⟨.host, 0x25, wIslandServiceAndFaults6, by decide +kernel⟩,
   ⟨false, wIslandServiceAndFaults7_id, wIslandServiceAndFaults7_op, wIslandServiceAndFaults7, by decide +kernel⟩,
   ⟨true, wIslandServiceAndFaults8_id, wIslandServiceAndFaults8_op, wIslandServiceAndFaults8, by decide +kernel⟩,
   ⟨true, wIslandServiceAndFaults9, by decide +kernel⟩,
   ⟨0x25, 1, none, wIslandServiceAndFaults10, by decide +kernel⟩,
   ⟨0x3E, 1, none, wIslandServiceAndFaults11, by decide +kernel⟩,
   ⟨0x3E, 1, none, wIslandServiceAndFaults12, by decide +kernel⟩,
   ⟨4, 0, none, wIslandServiceAndFaults13, by decide +kernel⟩,
   ⟨0x25, wIslandServiceAndFaults14, by decide +kernel⟩,
   ⟨0x30, wIslandServiceAndFaults15, by decide +kernel⟩,
   ⟨0x2C, wIslandServiceAndFaults16, by decide +kernel⟩,
   ⟨0x25, wIslandServiceAndFaults17, by decide +kernel⟩,
   ⟨0x25, 3, true, wS, by decide +kernel⟩,
   ⟨0x3A, 3, false, wIslandServiceAndFaults19, by decide +kernel⟩,
   ⟨3, 1, wIslandServiceAndFaults20, by decide +kernel⟩,
   ⟨14, 3, wS, by decide +kernel⟩,
   ⟨3, 1, wIslandServiceAndFaults22_slot, wIslandServiceAndFaults22, by decide +kernel⟩,
   ⟨true, 0xFFFF, .good, 0, wIslandServiceAndFaults23, by decide +kernel⟩,
   ⟨true, 3, .good, 0, wIslandServiceAndFaults24, by decide +kernel⟩,
   ⟨true, 3, .good, 0, wIslandServiceAndFaults25, by decide +kernel⟩,
   ⟨false, 3, .good, 0, wIslandServiceAndFaults26, by decide +kernel⟩,
   ⟨true, 3, .good, 0, wIslandServiceAndFaults27, by decide +kernel⟩,
   ⟨true, 4, .corrected, 7, wIslandServiceAndFaults28, by decide +kernel⟩⟩

def wPowerOnAndTheFirstBootStages0 : State :=
  { wS with boot := { wS.boot with rails := 511 - 8, por := true } }
def wPowerOnAndTheFirstBootStages1 : State :=
  { wS with boot := { wS.boot with rails := 511 } }
def wPowerOnAndTheFirstBootStages2 : State :=
  { wS with boot := { wS.boot with rails := 511 }, vlt := { wS.vlt with fuse := none, jobs := ⟨none, none⟩ }, flash := { wS.flash with busy := none } }
def wPowerOnAndTheFirstBootStages3 : State :=
  wS.startTimer Tm.rails 9
def wPowerOnAndTheFirstBootStages4 : State :=
  wS.startTimer Tm.rails 9
def wPowerOnAndTheFirstBootStages5 : State :=
  { wS.setF aonB F.AON_BOOT_STAT.STAGE 0 with boot := { wS.boot with por := false } }
def wPowerOnAndTheFirstBootStages6 : State :=
  { wS.setF aonB F.AON_BOOT_STAT.STAGE 0 with boot := { wS.boot with por := false }, ledger := { wS.ledger with marker := false } }
def wPowerOnAndTheFirstBootStages8 : State :=
  { wS.setF aonB F.AON_BOOT_STAT.STAGE 1 with boot := { wS.boot with xtalLost := false } }
def wPowerOnAndTheFirstBootStages10 : State :=
  { wS.setF aonB F.AON_BOOT_STAT.STAGE 1 with boot := { wS.boot with t0 := wS.now - 4 % 1000000 } }
def wPowerOnAndTheFirstBootStages12 : State :=
  (wS.setF aonB F.AON_BOOT_STAT.STAGE 2).setLive 0x3A (4 % 3 = 0)
def wPowerOnAndTheFirstBootStages14 : State :=
  { wS with boot := { wS.boot with relock := [] } }
def wPowerOnAndTheFirstBootStages15 : State :=
  { wS with boot := { wS.boot with relock := [26, 3].take (1 + 4 / 5 % 2) } }
def wPowerOnAndTheFirstBootStages16 : State :=
  { (wS.setF (quadB 1) F.TQ_QUAD_PLL.PLL1_LOCK 0).setF (quadB 2) F.TQ_QUAD_PLL.PLL1_LOCK 0 with boot := { wS.boot with relock := [3, 5].take (1 + 4 / 5 % 2) } }
def wPowerOnAndTheFirstBootStages17 : State :=
  wS.setF aonB F.AON_BOOT_STAT.STAGE 3
def wPowerOnAndTheFirstBootStages18 : State :=
  wS.setF aonB F.AON_BOOT_STAT.STAGE 3

/-- States and operands that meet the hypotheses of each clause of Obligations.PowerOnAndTheFirstBootStages. -/
theorem wit_PowerOnAndTheFirstBootStages :
    (∃ (r : Fin 9) (s : State), s.boot.rails.testBit r.val = false) ∧
    (∃ (r : Fin 9) (s : State), s.boot.rails.testBit r.val = true) ∧
    (∃ (r : Fin 9) (s : State), s.vlt.fuse = none ∧ s.vlt.jobs.a = none ∧ s.vlt.jobs.b = none ∧ s.flash.busy = none) ∧
    (∃ (benA : Bool) (benB : Bool) (vrAddr : BitVec 2) (testEn : Bool) (s : State), s.timerOn Tm.rails = true ∧ testEn =
      false) ∧
    (∃ (benA : Bool) (benB : Bool) (vrAddr : BitVec 2) (testEn : Bool) (s : State), s.timerOn Tm.rails = true ∧ testEn =
      true) ∧
    (∃ (parityOk : Bool) (hm : List Word) (vout : BitVec 5) (s : State), s.boot.por = false ∧ s.stage = 0 ∧ (parityOk =
      false ∨ hallmarkOk hm = false)) ∧
    (∃ (parityOk : Bool) (hm : List Word) (vout : BitVec 5) (s : State), (s.boot.por = false ∧ s.stage = 0) ∧ (parityOk
      = true ∧ hallmarkOk hm = true ∧ hm.length = 128) ∧ s.ledger.marker = false) ∧
    (∃ (parityOk : Bool) (hm : List Word) (vout : BitVec 5) (s : State), (s.boot.por = true ∨ s.stage ≠ 0)) ∧
    (∃ (s : State), s.stage = 1 ∧ s.boot.xtalLost = false) ∧
    (∃ (s : State), (s.stage ≠ 1 ∨ s.boot.xtalLost = true)) ∧
    (∃ (s : State), s.stage = 1) ∧
    (∃ (s : State), s.stage ≠ 1) ∧
    (∃ (s : State), s.stage = 2) ∧
    (∃ (s : State), s.stage ≠ 2) ∧
    (∃ (pll : Fin 27) (s : State), s.boot.relock.contains pll.val = false) ∧
    (∃ (pll : Fin 27) (s : State), s.boot.relock.contains pll.val = true ∧ 24 ≤ pll.val) ∧
    (∃ (pll : Fin 27) (s : State), s.boot.relock.contains pll.val = true ∧ pll.val < 24 ∧ s.bit (quadB ((pll.val / 2)))
      ((if pll.val % 2 = 0 then F.TQ_QUAD_PLL.PLL0_LOCK else F.TQ_QUAD_PLL.PLL1_LOCK)) = false) ∧
    (∃ (rom : Bool) (kat : Bool) (mint : Bool) (sram : List (Fin 64)) (s : State), s.stage = 3 ∧ rom = false ∧ kat =
      false ∧ mint = false ∧ sram.all (fun i => !([0x00, 0x01, 0x2C, 0x3F, 0x3A] : List Nat).contains i.val) = true) ∧
    (∃ (rom : Bool) (kat : Bool) (mint : Bool) (sram : List (Fin 64)) (s : State), s.stage = 3 ∧ (rom = true ∨ kat =
      true ∨ mint = true ∨ sram.any (fun i => [0x00, 0x01, 0x2C, 0x3F, 0x3A].contains i.val) = true)) ∧
    (∃ (rom : Bool) (kat : Bool) (mint : Bool) (sram : List (Fin 64)) (s : State), s.stage ≠ 3) :=
  ⟨⟨3, wPowerOnAndTheFirstBootStages0, by decide +kernel⟩,
   ⟨3, wPowerOnAndTheFirstBootStages1, by decide +kernel⟩,
   ⟨3, wPowerOnAndTheFirstBootStages2, by decide +kernel⟩,
   ⟨true, false, 2, false, wPowerOnAndTheFirstBootStages3, by decide +kernel⟩,
   ⟨true, false, 2, true, wPowerOnAndTheFirstBootStages4, by decide +kernel⟩,
   ⟨((4 % 3 = 0) : Bool), ((List.replicate 128 0) : List Word), 0x17, wPowerOnAndTheFirstBootStages5, by decide +kernel⟩,
   ⟨true, wHm, 0x17, wPowerOnAndTheFirstBootStages6, ⟨by decide +kernel, ⟨rfl, wHm_ok, by simp [wHm]⟩, by decide +kernel⟩⟩,
   ⟨true, [], 0x17, wS, by decide +kernel⟩,
   ⟨wPowerOnAndTheFirstBootStages8, by decide +kernel⟩,
   ⟨wS, by decide +kernel⟩,
   ⟨wPowerOnAndTheFirstBootStages10, by decide +kernel⟩,
   ⟨wS, by decide +kernel⟩,
   ⟨wPowerOnAndTheFirstBootStages12, by decide +kernel⟩,
   ⟨wS, by decide +kernel⟩,
   ⟨26, wPowerOnAndTheFirstBootStages14, by decide +kernel⟩,
   ⟨26, wPowerOnAndTheFirstBootStages15, by decide +kernel⟩,
   ⟨3, wPowerOnAndTheFirstBootStages16, by decide +kernel⟩,
   ⟨false, false, false, ((if 4 % 3 = 0 then [] else [0x25, 0x30]) : List (Fin 64)), wPowerOnAndTheFirstBootStages17,
     by decide +kernel⟩,
   ⟨((4 % 2 = 0) : Bool), false, true, [], wPowerOnAndTheFirstBootStages18, by decide +kernel⟩,
   ⟨false, false, true, [], wS, by decide +kernel⟩⟩

def wPassbookCopiesAreReadAndApplied0 : State :=
  { wS.setF aonB F.AON_BOOT_STAT.STAGE 4 with boot := { wS.boot with copy := 4 / 4 % 2, tried := 0 }, flash := { wS.flash with busy := if 4 % 3 = 0 then some (5, [1, 2]) else none } }
def wPassbookCopiesAreReadAndApplied1 : State :=
  { wS.setF aonB F.AON_BOOT_STAT.STAGE 4 with boot := { wS.boot with copy := 4 / 4 % 2, tried := 3 } }
def wPassbookCopiesAreReadAndApplied2 : State :=
  { wS.setF aonB F.AON_BOOT_STAT.STAGE 4 with boot := { wS.boot with copy := 4 / 4 % 2, tried := 0, stageAt := wS.now }, flash := { wS.flash with upAt := 0 } }
def wPassbookCopiesAreReadAndApplied2_bs : List Byte :=
  (fun (s : State) (image : Option (List Byte)) => ((s.elapseTo (s.flash.upAt - 1 + 100 * usTicks)).flashSettle).flashRead (pbBase s.boot.copy) (image.getD [])) wPassbookCopiesAreReadAndApplied2 ((some (List.replicate 70 5)) : Option (List Byte))
def wPassbookCopiesAreReadAndApplied4 : State :=
  { wS.setF aonB F.AON_BOOT_STAT.STAGE 5 with boot := { wS.boot with copy := 4 / 4 % 2, tried := 0, image := some [1, 2, 3] } }
def wPassbookCopiesAreReadAndApplied4_c : Nat :=
  (fun (s : State) => s.pbCode s.pbImage) wPassbookCopiesAreReadAndApplied4
def wPassbookCopiesAreReadAndApplied5 : State :=
  { wS.setF aonB F.AON_BOOT_STAT.STAGE 5 with fuse := { wS.fuse with life := 7, hashes := [(0, some wPubHash)], revoked := 0, floors := [] }, boot := { wS.boot with copy := 4 / 4 % 2, tried := 0, image := some wPb } }
def wPassbookCopiesAreReadAndApplied5_bs : List Byte :=
  (fun (s : State) => s.pbImage) wPassbookCopiesAreReadAndApplied5
def wPassbookCopiesAreReadAndApplied7 : State :=
  { wS.setF aonB F.AON_BOOT_STAT.STAGE 6 with boot := { wS.boot with words := [] } }
def wPassbookCopiesAreReadAndApplied8 : State :=
  { (wS.setF aonB F.AON_BOOT_STAT.STAGE 6).setF aonB F.AON_SEAL.SEALED 0 with boot := { wS.boot with relock := [], words := [BitVec.ofNat 32 (0x22 * 1048576 + 0x100), 0x12345678, 0] } }
def wPassbookCopiesAreReadAndApplied8_a : Nat :=
  (fun (s : State) => match nextRec s.boot.words with | some (.write a _, _) => a | _ => 0) wPassbookCopiesAreReadAndApplied8
def wPassbookCopiesAreReadAndApplied8_w : Nat :=
  (fun (s : State) => match nextRec s.boot.words with | some (.write _ w, _) => w | _ => 0) wPassbookCopiesAreReadAndApplied8
def wPassbookCopiesAreReadAndApplied8_rest : List Word :=
  (fun (s : State) => match nextRec s.boot.words with | some (_, r) => r | none => []) wPassbookCopiesAreReadAndApplied8
def wPassbookCopiesAreReadAndApplied9 : State :=
  { (wS.setF aonB F.AON_BOOT_STAT.STAGE 6).setBit aonB (islBit 0x12C 0x22) true with boot := { wS.boot with relock := [], words := [BitVec.ofNat 32 (0x22 * 1048576 + 0x100), 0x12345678, 0] } }
def wPassbookCopiesAreReadAndApplied9_a : Nat :=
  (fun (s : State) => match nextRec s.boot.words with | some (.write a _, _) => a | _ => 0) wPassbookCopiesAreReadAndApplied9
def wPassbookCopiesAreReadAndApplied9_w : Nat :=
  (fun (s : State) => match nextRec s.boot.words with | some (.write _ w, _) => w | _ => 0) wPassbookCopiesAreReadAndApplied9
def wPassbookCopiesAreReadAndApplied9_rest : List Word :=
  (fun (s : State) => match nextRec s.boot.words with | some (_, r) => r | none => []) wPassbookCopiesAreReadAndApplied9
def wPassbookCopiesAreReadAndApplied10 : State :=
  { (wS.setF aonB F.AON_BOOT_STAT.STAGE 7) with boot := { wS.boot with relock := [], words := [BitVec.ofNat 32 (2 * 2 ^ 30 + 0x22 * 2 ^ 20 + 0xFFC), BitVec.ofNat 32 (4 % 3 * 255), 0, 50, 7] } }
def wPassbookCopiesAreReadAndApplied10_a : Nat :=
  (fun (s : State) => match nextRec s.boot.words with | some (.poll a _ _ _, _) => a | _ => 0) wPassbookCopiesAreReadAndApplied10
def wPassbookCopiesAreReadAndApplied10_msk : Nat :=
  (fun (s : State) => match nextRec s.boot.words with | some (.poll _ m _ _, _) => m | _ => 0) wPassbookCopiesAreReadAndApplied10
def wPassbookCopiesAreReadAndApplied10_e : Nat :=
  (fun (s : State) => match nextRec s.boot.words with | some (.poll _ _ e _, _) => e | _ => 0) wPassbookCopiesAreReadAndApplied10
def wPassbookCopiesAreReadAndApplied10_us : Nat :=
  (fun (s : State) => match nextRec s.boot.words with | some (.poll _ _ _ u, _) => u | _ => 0) wPassbookCopiesAreReadAndApplied10
def wPassbookCopiesAreReadAndApplied10_rest : List Word :=
  (fun (s : State) => match nextRec s.boot.words with | some (_, r) => r | none => []) wPassbookCopiesAreReadAndApplied10
def wPassbookCopiesAreReadAndApplied11 : State :=
  ({ wS.setF aonB F.AON_BOOT_STAT.STAGE 6 with boot := { wS.boot with copy := 4 / 4 % 2, tried := 0 } } : State).startTimer (if 4 % 3 = 0 then Tm.relock else Tm.poll) 4
def wPassbookCopiesAreReadAndApplied12 : State :=
  (List.range 8).foldl (fun (s : State) c => s.setMcF c F.MC_STAT.STATE (4 / 5 % 2)) { (wS.setF aonB F.AON_BOOT_STAT.STAGE 6) with boot := { wS.boot with relock := [], words := [], image := if 4 % 3 = 0 then none else some wPb } }
def wPassbookCopiesAreReadAndApplied14 : State :=
  { (wS.setF aonB F.AON_BOOT_STAT.STAGE 7).setF mccB F.MCC_TRACE_CFG.EN 0 with boot := { wS.boot with relock := [], words := [], image := if 4 % 3 = 0 then none else some wPb } }

/-- States and operands that meet the hypotheses of each clause of Obligations.PassbookCopiesAreReadAndApplied. -/
theorem wit_PassbookCopiesAreReadAndApplied :
    (∃ (image : Option (List Byte)) (s : State), s.stage = 4 ∧ image = none ∧ s.boot.tried.testBit ((1 - s.boot.copy)) =
      false ∧ (s.boot.copy) < 2) ∧
    (∃ (image : Option (List Byte)) (s : State), s.stage = 4 ∧ image = none ∧ s.boot.tried.testBit ((1 - s.boot.copy)) =
      true ∧ (s.boot.copy) < 2) ∧
    (∃ (image : Option (List Byte)) (bs : List Byte) (s : State), s.stage = 4 ∧ image.isSome = true ∧ bs = (((s.elapseTo
      (s.flash.upAt - 1 + 100 * usTicks)).flashSettle)).flashRead (pbBase (s.boot.copy)) (image.getD []) ∧ (((s.elapseTo
      (s.flash.upAt - 1 + 100 * usTicks)).flashSettle)).now ≤ s.boot.stageAt + min 80 (5 * (((if pbHdrOk bs = false ∨
      pbLen bs < 64 + 16 * pbCount bs + 256 ∨ 2 ^ 24 < pbLen bs then 64 else pbLen bs) + 2 ^ 20 - 1) / 2 ^ 20)) *
      msTicks) ∧
    (∃ (image : Option (List Byte)) (s : State), s.stage ≠ 4) ∧
    (∃ (c : Nat) (s : State), s.stage = 5 ∧ c = s.pbCode s.pbImage ∧ c ≠ 0 ∧ s.boot.tried.testBit ((1 - s.boot.copy)) =
      false ∧ (s.boot.copy) < 2) ∧
    (∃ (bs : List Byte) (s : State), s.stage = 5 ∧ bs = s.pbImage ∧ s.pbCode bs = 0) ∧
    (∃ (s : State), s.stage ≠ 5) ∧
    (∃ (s : State), ((s.stage ≠ 6 ∧ s.stage ≠ 7) ∨ s.boot.relock ≠ [] ∨ nextRec s.boot.words = none)) ∧
    (∃ (a : Nat) (w : Nat) (rest : List Word) (s : State), (s.stage = 6 ∨ s.stage = 7) ∧ s.boot.relock = [] ∧ nextRec
      s.boot.words = some (.write a w, rest) ∧ s.bootDark (islandOf a) = false ∧ s.sealed = false ∧ (findReg a).isSome =
      true ∧ ((islandOf a = 0x3C ∧ 0x1000 ≤ offsetOf a) ∨ (islandOf a = 0x22 ∧ 0x100 ≤ offsetOf a ∧ offsetOf a <
      0x110))) ∧
    (∃ (a : Nat) (w : Nat) (rest : List Word) (s : State), (s.stage = 6 ∨ s.stage = 7) ∧ s.boot.relock = [] ∧ nextRec
      s.boot.words = some (.write a w, rest) ∧ s.bootDark (islandOf a) = true) ∧
    (∃ (a : Nat) (msk : Nat) (e : Nat) (us : Nat) (rest : List Word) (s : State), (s.stage = 6 ∨ s.stage = 7) ∧
      s.boot.relock = [] ∧ nextRec s.boot.words = some (.poll a msk e us, rest) ∧ s.bootDark (islandOf a) = false ∧
      isHeader a = true) ∧
    (∃ (s : State), (s.timerOn Tm.relock = true ∨ s.timerOn Tm.poll = true) ∧ s.boot.tried.testBit ((1 - s.boot.copy)) =
      false ∧ (s.boot.copy) < 2) ∧
    (∃ (s : State), s.stage = 6 ∧ s.boot.words = [] ∧ s.boot.relock = [] ∧ (List.range 8).all (fun c => !s.mcTraining c
      && !(decide (s.mcState c = 2) && decide (s.mcF c F.MC_TRAIN_STAT.ATTEMPTS = 0) && decide (s.mcF c
      F.MC_SVC_CTRL.WANT = 1) && s.live (0x30 + c))) = true) ∧
    (∃ (s : State), (s.stage ≠ 6 ∨ s.boot.words ≠ [] ∨ s.boot.relock ≠ [])) ∧
    (∃ (s : State), s.stage = 7 ∧ s.boot.words = [] ∧ s.boot.relock = [] ∧ (pbSections s.pbImage).all (fun x => decide
      (x.typ < 3 ∨ 5 < x.typ)) = true ∧ s.bit mccB F.MCC_TRACE_CFG.EN = false) ∧
    (∃ (s : State), (s.stage ≠ 7 ∨ s.boot.words ≠ [] ∨ s.boot.relock ≠ [])) :=
  ⟨⟨none, wPassbookCopiesAreReadAndApplied0, by decide +kernel⟩,
   ⟨none, wPassbookCopiesAreReadAndApplied1, by decide +kernel⟩,
   ⟨((some (List.replicate 70 5)) : Option (List Byte)), wPassbookCopiesAreReadAndApplied2_bs,
     wPassbookCopiesAreReadAndApplied2, by decide +kernel⟩,
   ⟨none, wS, by decide +kernel⟩,
   ⟨wPassbookCopiesAreReadAndApplied4_c, wPassbookCopiesAreReadAndApplied4, by decide +kernel⟩,
   ⟨wPassbookCopiesAreReadAndApplied5_bs, wPassbookCopiesAreReadAndApplied5, by decide +kernel⟩,
   ⟨wS, by decide +kernel⟩,
   ⟨wPassbookCopiesAreReadAndApplied7, by decide +kernel⟩,
   ⟨wPassbookCopiesAreReadAndApplied8_a, wPassbookCopiesAreReadAndApplied8_w, wPassbookCopiesAreReadAndApplied8_rest,
     wPassbookCopiesAreReadAndApplied8, by decide +kernel⟩,
   ⟨wPassbookCopiesAreReadAndApplied9_a, wPassbookCopiesAreReadAndApplied9_w, wPassbookCopiesAreReadAndApplied9_rest,
     wPassbookCopiesAreReadAndApplied9, by decide +kernel⟩,
   ⟨wPassbookCopiesAreReadAndApplied10_a, wPassbookCopiesAreReadAndApplied10_msk, wPassbookCopiesAreReadAndApplied10_e,
     wPassbookCopiesAreReadAndApplied10_us, wPassbookCopiesAreReadAndApplied10_rest, wPassbookCopiesAreReadAndApplied10,
     by decide +kernel⟩,
   ⟨wPassbookCopiesAreReadAndApplied11, by decide +kernel⟩,
   ⟨wPassbookCopiesAreReadAndApplied12, by decide +kernel⟩,
   ⟨wS, by decide +kernel⟩,
   ⟨wPassbookCopiesAreReadAndApplied14, by decide +kernel⟩,
   ⟨wS, by decide +kernel⟩⟩

def wReleaseLimitsAndReboot0 : State :=
  (wS.setF aonB F.AON_BOOT_STAT.STAGE 8).setF stwB F.STW_STAT.STATE (1 + 4 % 2 * 2)
def wReleaseLimitsAndReboot2 : State :=
  { (wS.setF aonB F.AON_BOOT_STAT.STAGE 9) with boot := { wS.boot with cal := List.range 50 } }
def wReleaseLimitsAndReboot4 : State :=
  (wS.setF aonB F.AON_BOOT_STAT.STAGE 0).startTimer Tm.stage 7
def wReleaseLimitsAndReboot5 : State :=
  (wS.setF aonB F.AON_BOOT_STAT.STAGE 1).startTimer Tm.stage 7
def wReleaseLimitsAndReboot6 : State :=
  (wS.setF aonB F.AON_BOOT_STAT.STAGE 2).startTimer Tm.stage 7
def wReleaseLimitsAndReboot7 : State :=
  (wS.setF aonB F.AON_BOOT_STAT.STAGE 2).startTimer Tm.stage 7
def wReleaseLimitsAndReboot8 : State :=
  ({ wS.setF aonB F.AON_BOOT_STAT.STAGE 4 with boot := { wS.boot with copy := 4 / 4 % 2, tried := 0, stageAt := wS.now } } : State).startTimer Tm.stage (80 * msTicks)
def wReleaseLimitsAndReboot9 : State :=
  ((List.range 8).foldl (fun (s : State) c => s.setMcF c F.MC_STAT.STATE (4 / 5 % 2)) { (wS.setF aonB F.AON_BOOT_STAT.STAGE 6) with boot := { wS.boot with relock := [], words := [] } }).startTimer Tm.stage 8
def wReleaseLimitsAndReboot10 : State :=
  ({ wS.setF aonB F.AON_BOOT_STAT.STAGE 7 with boot := { wS.boot with copy := 4 / 4 % 2, tried := 0 } } : State).startTimer Tm.stage 4
def wReleaseLimitsAndReboot11 : State :=
  ((wS.setF aonB F.AON_BOOT_STAT.STAGE 8).setF stwB F.STW_STAT.STATE (1 + 4 % 2 * 2)).startTimer Tm.stage 7
def wReleaseLimitsAndReboot12 : State :=
  ((wS.setF aonB F.AON_BOOT_STAT.STAGE 8).setF stwB F.STW_STAT.STATE 0).startTimer Tm.stage 7
def wReleaseLimitsAndReboot13 : State :=
  { (wS.setF aonB F.AON_BOOT_STAT.STAGE 9) with boot := { wS.boot with cal := List.range 50 } }.startTimer Tm.stage 7
def wReleaseLimitsAndReboot15 : State :=
  { wS with vlt := { wS.vlt with fuse := none, jobs := ⟨none, none⟩ } }
def wReleaseLimitsAndReboot17 : State :=
  wS.setF aonB F.AON_BOOT_STAT.STAGE 15

/-- States and operands that meet the hypotheses of each clause of Obligations.ReleaseLimitsAndReboot. -/
theorem wit_ReleaseLimitsAndReboot :
    (∃ (s : State), s.stage = 8 ∧ (s.stwState = 1 ∨ s.stwState = 3)) ∧
    (∃ (s : State), (s.stage ≠ 8 ∨ (s.stwState ≠ 1 ∧ s.stwState ≠ 3))) ∧
    (∃ (s : State), s.stage = 9 ∧ (((((List.range 48).filter fun n => decide (s.laneMode n ≠ 0) && !s.bootDark (quadId
      n)) ++ ([48, 49].filter fun n => !s.bootDark (0x08 + (n - 48)))))).all (fun n => s.boot.cal.contains n) = true) ∧
    (∃ (s : State), s.stage ≠ 9) ∧
    (∃ (unlocked : List (Fin 64)) (hdr : List Byte) (s : State), s.timerOn Tm.stage = true ∧ s.stage = 0) ∧
    (∃ (unlocked : List (Fin 64)) (hdr : List Byte) (s : State), s.timerOn Tm.stage = true ∧ s.stage = 1) ∧
    (∃ (unlocked : List (Fin 64)) (hdr : List Byte) (s : State), s.timerOn Tm.stage = true ∧ s.stage = 2 ∧ unlocked.any
      (fun i => [0x2C, 0x3F, 0x3A].contains i.val) = true) ∧
    (∃ (unlocked : List (Fin 64)) (hdr : List Byte) (s : State), s.timerOn Tm.stage = true ∧ s.stage = 2 ∧ unlocked.any
      (fun i => [0x2C, 0x3F, 0x3A].contains i.val) = false) ∧
    (∃ (unlocked : List (Fin 64)) (hdr : List Byte) (s : State), s.timerOn Tm.stage = true ∧ s.stage = 4 ∧
      s.boot.tried.testBit ((1 - s.boot.copy)) = false ∧ (s.boot.copy) < 2) ∧
    (∃ (unlocked : List (Fin 64)) (hdr : List Byte) (s : State), s.timerOn Tm.stage = true ∧ s.stage = 6 ∧ (List.range
      8).all (fun c => !s.mcTraining c && !((decide (s.mcState c = 2) && decide (s.mcF c F.MC_TRAIN_STAT.ATTEMPTS = 0)
      && decide (s.mcF c F.MC_SVC_CTRL.WANT = 1) && s.live (0x30 + c)))) = true) ∧
    (∃ (unlocked : List (Fin 64)) (hdr : List Byte) (s : State), s.timerOn Tm.stage = true ∧ s.stage = 7 ∧
      s.boot.tried.testBit ((1 - s.boot.copy)) = false ∧ (s.boot.copy) < 2) ∧
    (∃ (unlocked : List (Fin 64)) (hdr : List Byte) (s : State), s.timerOn Tm.stage = true ∧ s.stage = 8 ∧ (s.stwState =
      1 ∨ s.stwState = 3)) ∧
    (∃ (unlocked : List (Fin 64)) (hdr : List Byte) (s : State), s.timerOn Tm.stage = true ∧ s.stage = 8 ∧ s.stwState ≠
      1 ∧ s.stwState ≠ 3 ∧ s.stw.copy < 2) ∧
    (∃ (unlocked : List (Fin 64)) (hdr : List Byte) (s : State), s.timerOn Tm.stage = true ∧ s.stage = 9) ∧
    (∃ (unlocked : List (Fin 64)) (hdr : List Byte) (s : State), s.timerOn Tm.stage = false) ∧
    (∃ (m : Master) (key : BitVec 16) (s : State), s.reaches m (aonB + 0x28) = true ∧ key = 0xA5C3 ∧ s.vlt.fuse = none ∧
      s.vlt.jobs.a = none ∧ s.vlt.jobs.b = none) ∧
    (∃ (m : Master) (key : BitVec 16) (v : Bool) (s : State), s.reaches m (aonB + 0x28) = true ∧ key = 0xA5C3 ∧ s.inHold
      = false ∧ ((s.reg (aonB + 0x28)).toNat) % 2 = 0) ∧
    (∃ (m : Master) (key : BitVec 16) (v : Bool) (s : State), s.reaches m (aonB + 0x28) = true ∧ key = 0xA5C3 ∧ s.inHold
      = true ∧ ((s.reg (aonB + 0x28)).toNat) % 2 = 0) ∧
    (∃ (m : Master) (key : BitVec 16) (v : Bool) (s : State), s.reaches m (aonB + 0x28) = true ∧ key = 0xA5C3 ∧ s.inHold
      = false ∧ ((s.reg (aonB + 0x28)).toNat) % 2 = 0) ∧
    (∃ (m : Master) (key : BitVec 16) (s : State), s.reaches m (aonB + 0x28) = true ∧ key ≠ 0xA5C3) ∧
    (∃ (m : Master) (key : BitVec 16) (v : Bool) (s : State), s.reaches m (aonB + 0x28) = true ∧ key ≠ 0xA5C3) ∧
    (∃ (m : Master) (key : BitVec 16) (v : Bool) (s : State), s.reaches m (aonB + 0x28) = true ∧ key ≠ 0xA5C3) :=
  ⟨⟨wReleaseLimitsAndReboot0, by decide +kernel⟩,
   ⟨wS, by decide +kernel⟩,
   ⟨wReleaseLimitsAndReboot2, by decide +kernel⟩,
   ⟨wS, by decide +kernel⟩,
   ⟨[], [], wReleaseLimitsAndReboot4, by decide +kernel⟩,
   ⟨[], [], wReleaseLimitsAndReboot5, by decide +kernel⟩,
   ⟨(([0x10, 0x2C]) : List (Fin 64)), [], wReleaseLimitsAndReboot6, by decide +kernel⟩,
   ⟨(([0x10, 0x31]) : List (Fin 64)), [], wReleaseLimitsAndReboot7, by decide +kernel⟩,
   ⟨[], [], wReleaseLimitsAndReboot8, by decide +kernel⟩,
   ⟨[], [], wReleaseLimitsAndReboot9, by decide +kernel⟩,
   ⟨[], [], wReleaseLimitsAndReboot10, by decide +kernel⟩,
   ⟨[], [], wReleaseLimitsAndReboot11, by decide +kernel⟩,
   ⟨[], [], wReleaseLimitsAndReboot12, by decide +kernel⟩,
   ⟨[], [], wReleaseLimitsAndReboot13, by decide +kernel⟩,
   ⟨[], [], wS, by decide +kernel⟩,
   ⟨.host, 0xA5C3, wReleaseLimitsAndReboot15, by decide +kernel⟩,
   ⟨.host, 0xA5C3, true, wS, by decide +kernel⟩,
   ⟨.host, 0xA5C3, true, wReleaseLimitsAndReboot17, by decide +kernel⟩,
   ⟨.host, 0xA5C3, true, wS, by decide +kernel⟩,
   ⟨.host, 0x1234, wS, by decide +kernel⟩,
   ⟨.host, 0x1234, true, wS, by decide +kernel⟩,
   ⟨.host, 0x1234, true, wS, by decide +kernel⟩⟩

def wStewardFirmwareStartsAndRestarts0 : State :=
  { (wS.setF stwB F.STW_STAT.STATE (4 % 2 * 3)).setF stwB F.STW_CFG.WDOG (4 % 5) with stw := { wS.stw with starting := true } }
def wStewardFirmwareStartsAndRestarts1 : State :=
  { (wS.setF stwB F.STW_STAT.STATE 2).setF stwB F.STW_CFG.WDOG (4 % 5) with stw := { wS.stw with starting := true }, pon := ⟨{ wS.pon.a with stwPloam := [] }, { wS.pon.b with stwPloam := [] }⟩ }
def wStewardFirmwareStartsAndRestarts3 : State :=
  ({ wS.setF aonB F.AON_BOOT_STAT.STAGE (8 + 4 % 3) with stw := { wS.stw with starting := true, failed := 0, copy := 4 / 4 % 2 } } : State).startTimer Tm.stwReady 5
def wStewardFirmwareStartsAndRestarts4 : State :=
  ({ (wS.setF aonB F.AON_BOOT_STAT.STAGE (8 + 4 % 3)).setF stwB F.STW_STAT.STATE (4 % 2 * 2) with stw := { wS.stw with starting := true, failed := 3, copy := 4 / 4 % 2 } } : State).startTimer Tm.stwReady 5
def wStewardFirmwareStartsAndRestarts5 : State :=
  (wS.setF stwB F.STW_STAT.STATE 1).setF stwB F.STW_CFG.WDOG (4 % 5)
def wStewardFirmwareStartsAndRestarts7 : State :=
  (wS.setF stwB F.STW_STAT.STATE (4 % 2 * 2)).startTimer Tm.stwWdog 5
def wStewardFirmwareStartsAndRestarts8 : State :=
  ({ wS.setF stwB F.STW_STAT.STATE 1 with draining := [], stw := { wS.stw with restarts := [wS.now, wS.now].take (4 / 5 % 3) } } : State).startTimer Tm.stwWdog 5
def wStewardFirmwareStartsAndRestarts10 : State :=
  { wS.setF stwB F.STW_STAT.STATE 1 with draining := [], stw := { wS.stw with restarts := [wS.now, wS.now].take (4 / 5 % 3) } }
def wStewardFirmwareStartsAndRestarts11 : State :=
  { wS.setF stwB F.STW_STAT.STATE 1 with stw := { wS.stw with verify := none } }
def wStewardFirmwareStartsAndRestarts13 : State :=
  (wS.setF stwB F.STW_STAT.STATE 2).startTimer Tm.stwGrace 5
def wStewardFirmwareStartsAndRestarts14 : State :=
  (wS.setF stwB F.STW_STAT.STATE 1).startTimer Tm.stwGrace 5
def wStewardFirmwareStartsAndRestarts15 : State :=
  { wS.setF stwB F.STW_STAT.STATE 1 with stw := { wS.stw with verify := some (4 / 4 % 2, 4 % 3 = 0), download := none } }
def wStewardFirmwareStartsAndRestarts15_target : Nat :=
  (fun (s : State) => match s.stw.verify with | some (x, _) => x | none => 0) wStewardFirmwareStartsAndRestarts15
def wStewardFirmwareStartsAndRestarts15_only : Bool :=
  (fun (s : State) => match s.stw.verify with | some (_, x) => x | none => false) wStewardFirmwareStartsAndRestarts15
def wStewardFirmwareStartsAndRestarts16 : State :=
  { (wS.setF stwB F.STW_STAT.STATE 0).setF aonB F.AON_BOOT_STAT.STAGE 8 with stw := { wS.stw with verify := none, starting := false, failed := 0, copy := 4 / 4 % 2 } }
def wStewardFirmwareStartsAndRestarts17 : State :=
  { wS.setF stwB F.STW_STAT.STATE 1 with stw := { wS.stw with verify := none } }

/-- States and operands that meet the hypotheses of each clause of Obligations.StewardFirmwareStartsAndRestarts. -/
theorem wit_StewardFirmwareStartsAndRestarts :
    (∃ (m : Master) (s : State), s.reaches m (stwB + 0x08) = true ∧ m = .steward ∧ s.stw.starting = true ∧ s.stwState ≠
      1 ∧ s.stwState ≠ 2) ∧
    (∃ (m : Master) (s : State), s.reaches m (stwB + 0x08) = true ∧ m = .steward ∧ s.stw.starting = true ∧ s.stwState =
      2 ∧ (s.pn 0).stwPloam = [] ∧ (s.pn 1).stwPloam = []) ∧
    (∃ (m : Master) (s : State), s.reaches m (stwB + 0x08) = true ∧ (m = .host ∨ s.stw.starting = false)) ∧
    (∃ (s : State), s.timerOn Tm.stwReady = true ∧ s.stw.failed.testBit (1 - (s.stw.copy)) = false ∧ (s.stw.copy) < 2) ∧
    (∃ (s : State), s.timerOn Tm.stwReady = true ∧ s.stw.failed.testBit (1 - (s.stw.copy)) = true ∧ (s.stw.copy) < 2 ∧
      s.stwState ≠ 3) ∧
    (∃ (m : Master) (s : State), s.reaches m (stwB + 0x10) = true ∧ m = .steward ∧ s.stwState = 1) ∧
    (∃ (m : Master) (s : State), s.reaches m (stwB + 0x10) = true ∧ (m = .host ∨ s.stwState ≠ 1)) ∧
    (∃ (s : State), s.timerOn Tm.stwWdog = true ∧ s.stwState ≠ 1) ∧
    (∃ (s : State), s.timerOn Tm.stwWdog = true ∧ s.stwState = 1 ∧ s.draining.contains 0x3F = false) ∧
    (∃ (m : Master) (key : BitVec 16) (s : State), s.reaches m stwB = true ∧ (key ≠ 0xA5C3 ∨ s.stwState ≠ 1)) ∧
    (∃ (m : Master) (key : BitVec 16) (s : State), s.reaches m stwB = true ∧ key = 0xA5C3 ∧ s.stwState = 1 ∧
      s.draining.contains 0x3F = false) ∧
    (∃ (m : Master) (key : BitVec 16) (target : Bool) (verifyOnly : Bool) (s : State), s.reaches m stwB = true ∧ key =
      0xA5C3 ∧ s.stwState = 1 ∧ s.stw.verify = none) ∧
    (∃ (m : Master) (key : BitVec 16) (target : Bool) (verifyOnly : Bool) (s : State), s.reaches m stwB = true ∧ (key ≠
      0xA5C3 ∨ s.stwState ≠ 1 ∨ s.stw.verify.isSome = true)) ∧
    (∃ (s : State), s.timerOn Tm.stwGrace = true ∧ s.stwState = 2) ∧
    (∃ (s : State), s.timerOn Tm.stwGrace = true ∧ s.stwState ≠ 2) ∧
    (∃ (image : Option (List Byte)) (target : Nat) (only : Bool) (s : State), s.stw.verify = some (target, only) ∧
      target < 2 ∧ s.stw.download = none ∧ s.stwState = 1) ∧
    (∃ (image : Option (List Byte)) (s : State), s.stw.verify = none ∧ s.fwLoading = true ∧ (s.stw.copy) < 2 ∧
      s.stw.failed.testBit (1 - (s.stw.copy)) = false) ∧
    (∃ (image : Option (List Byte)) (s : State), s.stw.verify = none ∧ s.fwLoading = false) :=
  ⟨⟨.steward, wStewardFirmwareStartsAndRestarts0, by decide +kernel⟩,
   ⟨.steward, wStewardFirmwareStartsAndRestarts1, by decide +kernel⟩,
   ⟨.host, wS, by decide +kernel⟩,
   ⟨wStewardFirmwareStartsAndRestarts3, by decide +kernel⟩,
   ⟨wStewardFirmwareStartsAndRestarts4, by decide +kernel⟩,
   ⟨.steward, wStewardFirmwareStartsAndRestarts5, by decide +kernel⟩,
   ⟨.host, wS, by decide +kernel⟩,
   ⟨wStewardFirmwareStartsAndRestarts7, by decide +kernel⟩,
   ⟨wStewardFirmwareStartsAndRestarts8, by decide +kernel⟩,
   ⟨.host, 5, wS, by decide +kernel⟩,
   ⟨.steward, 0xA5C3, wStewardFirmwareStartsAndRestarts10, by decide +kernel⟩,
   ⟨.steward, 0xA5C3, true, false, wStewardFirmwareStartsAndRestarts11, by decide +kernel⟩,
   ⟨.steward, 5, true, false, wS, by decide +kernel⟩,
   ⟨wStewardFirmwareStartsAndRestarts13, by decide +kernel⟩,
   ⟨wStewardFirmwareStartsAndRestarts14, by decide +kernel⟩,
   ⟨((some (List.replicate 400 7)) : Option (List Byte)), wStewardFirmwareStartsAndRestarts15_target,
     wStewardFirmwareStartsAndRestarts15_only, wStewardFirmwareStartsAndRestarts15, by decide +kernel⟩,
   ⟨none, wStewardFirmwareStartsAndRestarts16, by decide +kernel⟩,
   ⟨none, wStewardFirmwareStartsAndRestarts17, by decide +kernel⟩⟩

def wMailboxesAndPacketCopies1 : State :=
  { wS.setF stwB F.STW_MB_H2S_CTRL.FULL (4 % 2) with stw := { wS.stw with waitHost := none } }
def wMailboxesAndPacketCopies2 : State :=
  { (wS.setF stwB F.STW_MB_H2S_CTRL.FULL 1).setReg (stwB + 0x100) 3 with slots := wOmciKeys, stw := { wS.stw with waitHost := some (4 / 4 % 2, [1, 2, 3]) } }
def wMailboxesAndPacketCopies2_c : PonCh :=
  (fun (s : State) => match s.stw.waitHost with | some (x, _) => Fin.ofNat 2 x | none => 0) wMailboxesAndPacketCopies2
def wMailboxesAndPacketCopies2_req : List Byte :=
  (fun (s : State) => match s.stw.waitHost with | some (_, x) => x | none => []) wMailboxesAndPacketCopies2
def wMailboxesAndPacketCopies2_k : Nat :=
  (fun (s : State) => (s.omciKey (match s.stw.waitHost with | some (x, _) => x | none => 0)).getD 0) wMailboxesAndPacketCopies2
def wMailboxesAndPacketCopies3 : State :=
  ({ wS with slots := wOmciKeys, stw := { wS.stw with waitHost := some (4 / 4 % 2, [1, 2, 3]) } } : State).startTimer Tm.omciHost 5
def wMailboxesAndPacketCopies3_c : PonCh :=
  (fun (s : State) => match s.stw.waitHost with | some (x, _) => Fin.ofNat 2 x | none => 0) wMailboxesAndPacketCopies3
def wMailboxesAndPacketCopies3_req : List Byte :=
  (fun (s : State) => match s.stw.waitHost with | some (_, x) => x | none => []) wMailboxesAndPacketCopies3
def wMailboxesAndPacketCopies3_k : Nat :=
  (fun (s : State) => (s.omciKey (match s.stw.waitHost with | some (x, _) => x | none => 0)).getD 0) wMailboxesAndPacketCopies3
def wMailboxesAndPacketCopies4 : State :=
  ({ wS with stw := { wS.stw with waitHost := none } } : State).startTimer Tm.omciHost 5
def wMailboxesAndPacketCopies5 : State :=
  wS.setF stwB F.STW_MB_S2H_CTRL.FULL (4 % 2)
def wMailboxesAndPacketCopies6 : State :=
  { wS.setF stwB F.STW_MB_S2H_CTRL.FULL (4 % 2) with stw := { wS.stw with mbWait := [] } }
def wMailboxesAndPacketCopies7 : State :=
  { wS.setF stwB F.STW_MB_S2H_CTRL.FULL (4 % 2) with stw := { wS.stw with mbWait := [[5, 6, 7], [8]] } }
def wMailboxesAndPacketCopies7_msg : List Word :=
  (fun (s : State) => s.stw.mbWait.headD []) wMailboxesAndPacketCopies7
def wMailboxesAndPacketCopies7_rest : List (List Word) :=
  (fun (s : State) => s.stw.mbWait.tail) wMailboxesAndPacketCopies7
def wMailboxesAndPacketCopies8 : State :=
  wS.setF stwB F.STW_PKT_CMD.BUSY 1
def wMailboxesAndPacketCopies9 : State :=
  { wS.setF stwB F.STW_PKT_CMD.BUSY 0 with tlr := { wS.tlr with items := [] } }
def wMailboxesAndPacketCopies10 : State :=
  { ((wS.setF tlrB F.TLR_CFG.SW_CONS 0).setF hstB F.HST_CFG.HOSTLESS 0).setF stwB F.STW_PKT_CMD.BUSY 0 with tlr := { wS.tlr with items := [{ wItem 3 1 false with at_ := .delivered }] } }
def wMailboxesAndPacketCopies10_it : Item :=
  (fun (s : State) => s.delivered.getD (wItem 3 1 false)) wMailboxesAndPacketCopies10
def wMailboxesAndPacketCopies11 : State :=
  { ((wS.setF tlrB F.TLR_CFG.SW_CONS 0).setF hstB F.HST_CFG.HOSTLESS 0).setF stwB F.STW_PKT_CMD.BUSY 0 with tlr := { wS.tlr with items := [{ wItem 3 1 false with at_ := .delivered }] } }
def wMailboxesAndPacketCopies11_it : Item :=
  (fun (s : State) => s.delivered.getD (wItem 3 1 false)) wMailboxesAndPacketCopies11
def wMailboxesAndPacketCopies12 : State :=
  wS.setF (hstB + F.HST_PKT_CMD.GO.off - F.STW_PKT_CMD.GO.off) F.STW_PKT_CMD.BUSY 1
def wMailboxesAndPacketCopies13 : State :=
  { wS.setF (hstB + F.HST_PKT_CMD.GO.off - F.STW_PKT_CMD.GO.off) F.STW_PKT_CMD.BUSY 0 with tlr := { wS.tlr with items := [] } }
def wMailboxesAndPacketCopies14 : State :=
  { ((wS.setF tlrB F.TLR_CFG.SW_CONS 1).setF hstB F.HST_CFG.HOSTLESS 0).setF (hstB + F.HST_PKT_CMD.GO.off - F.STW_PKT_CMD.GO.off) F.STW_PKT_CMD.BUSY 0 with tlr := { wS.tlr with items := [{ wItem 3 1 false with at_ := .delivered }] } }
def wMailboxesAndPacketCopies14_it : Item :=
  (fun (s : State) => s.delivered.getD (wItem 3 1 false)) wMailboxesAndPacketCopies14
def wMailboxesAndPacketCopies15 : State :=
  { ((wS.setF tlrB F.TLR_CFG.SW_CONS 1).setF hstB F.HST_CFG.HOSTLESS 0).setF (hstB + F.HST_PKT_CMD.GO.off - F.STW_PKT_CMD.GO.off) F.STW_PKT_CMD.BUSY 0 with tlr := { wS.tlr with items := [{ wItem 3 1 false with at_ := .delivered }] } }
def wMailboxesAndPacketCopies15_it : Item :=
  (fun (s : State) => s.delivered.getD (wItem 3 1 false)) wMailboxesAndPacketCopies15

/-- States and operands that meet the hypotheses of each clause of Obligations.MailboxesAndPacketCopies. -/
theorem wit_MailboxesAndPacketCopies :
    (∃ (s : State), s.reaches .host (stwB + 0x140) = true) ∧
    (∃ (s : State), s.reaches .steward (stwB + 0x140) = true ∧ (s.bit stwB F.STW_MB_H2S_CTRL.FULL = false ∨ s.fld stwB
      ⟨0x100, 7, 0⟩ ≠ 3 ∨ s.stw.waitHost = none)) ∧
    (∃ (c : PonCh) (req : List Byte) (k : Nat) (s : State), s.reaches .steward (stwB + 0x140) = true ∧ s.bit stwB
      F.STW_MB_H2S_CTRL.FULL = true ∧ s.fld stwB ⟨0x100, 7, 0⟩ = 3 ∧ s.stw.waitHost = some (c.val, req) ∧ s.omciKey c =
      some k) ∧
    (∃ (c : PonCh) (req : List Byte) (k : Nat) (s : State), s.timerOn Tm.omciHost = true ∧ s.stw.waitHost = some (c.val,
      req) ∧ s.omciKey c = some k) ∧
    (∃ (s : State), s.timerOn Tm.omciHost = true ∧ s.stw.waitHost = none) ∧
    (∃ (s : State), s.reaches .steward (stwB + 0x1C0) = true) ∧
    (∃ (s : State), s.reaches .host (stwB + 0x1C0) = true ∧ s.stw.mbWait = []) ∧
    (∃ (msg : List Word) (rest : List (List Word)) (s : State), s.reaches .host (stwB + 0x1C0) = true ∧ s.stw.mbWait =
      msg :: rest ∧ msg.length ≤ 16) ∧
    (∃ (offset : BitVec 14) (len : BitVec 14) (s : State), s.reaches .steward (stwB + 0x200) = true ∧ s.bit ((stwB))
      F.STW_PKT_CMD.BUSY = true) ∧
    (∃ (offset : BitVec 14) (len : BitVec 14) (s : State), s.reaches .steward (stwB + 0x200) = true ∧ s.bit ((stwB))
      F.STW_PKT_CMD.BUSY = false ∧ (if decide (s.swIsland = 0x3A) = false then s.delivered else none) = none) ∧
    (∃ (offset : BitVec 14) (len : BitVec 14) (it : Item) (s : State), s.reaches .steward (stwB + 0x200) = true ∧ s.bit
      ((stwB)) F.STW_PKT_CMD.BUSY = false ∧ (if decide (s.swIsland = 0x3A) = false then s.delivered else none) = some it
      ∧ it.pkt.bytes.length < offset.toNat + len.toNat) ∧
    (∃ (offset : BitVec 14) (len : BitVec 14) (it : Item) (s : State), s.reaches .steward (stwB + 0x200) = true ∧ s.bit
      ((stwB)) F.STW_PKT_CMD.BUSY = false ∧ (if decide (s.swIsland = 0x3A) = false then s.delivered else none) = some it
      ∧ offset.toNat + len.toNat ≤ it.pkt.bytes.length) ∧
    (∃ (offset : BitVec 14) (len : BitVec 14) (s : State), s.reaches .host (hstB + 0x20) = true ∧ s.bit (((hstB +
      F.HST_PKT_CMD.GO.off - F.STW_PKT_CMD.GO.off))) F.STW_PKT_CMD.BUSY = true) ∧
    (∃ (offset : BitVec 14) (len : BitVec 14) (s : State), s.reaches .host (hstB + 0x20) = true ∧ s.bit (((hstB +
      F.HST_PKT_CMD.GO.off - F.STW_PKT_CMD.GO.off))) F.STW_PKT_CMD.BUSY = false ∧ (if decide (s.swIsland = 0x3A) = true
      then s.delivered else none) = none) ∧
    (∃ (offset : BitVec 14) (len : BitVec 14) (it : Item) (s : State), s.reaches .host (hstB + 0x20) = true ∧ s.bit
      (((hstB + F.HST_PKT_CMD.GO.off - F.STW_PKT_CMD.GO.off))) F.STW_PKT_CMD.BUSY = false ∧ (if decide (s.swIsland =
      0x3A) = true then s.delivered else none) = some it ∧ it.pkt.bytes.length < offset.toNat + len.toNat) ∧
    (∃ (offset : BitVec 14) (len : BitVec 14) (it : Item) (s : State), s.reaches .host (hstB + 0x20) = true ∧ s.bit
      (((hstB + F.HST_PKT_CMD.GO.off - F.STW_PKT_CMD.GO.off))) F.STW_PKT_CMD.BUSY = false ∧ (if decide (s.swIsland =
      0x3A) = true then s.delivered else none) = some it ∧ offset.toNat + len.toNat ≤ it.pkt.bytes.length) :=
  ⟨⟨wS, by decide +kernel⟩,
   ⟨wMailboxesAndPacketCopies1, by decide +kernel⟩,
   ⟨wMailboxesAndPacketCopies2_c, wMailboxesAndPacketCopies2_req, wMailboxesAndPacketCopies2_k,
     wMailboxesAndPacketCopies2, by decide +kernel⟩,
   ⟨wMailboxesAndPacketCopies3_c, wMailboxesAndPacketCopies3_req, wMailboxesAndPacketCopies3_k,
     wMailboxesAndPacketCopies3, by decide +kernel⟩,
   ⟨wMailboxesAndPacketCopies4, by decide +kernel⟩,
   ⟨wMailboxesAndPacketCopies5, by decide +kernel⟩,
   ⟨wMailboxesAndPacketCopies6, by decide +kernel⟩,
   ⟨wMailboxesAndPacketCopies7_msg, wMailboxesAndPacketCopies7_rest, wMailboxesAndPacketCopies7, by decide +kernel⟩,
   ⟨0, 9, wMailboxesAndPacketCopies8, by decide +kernel⟩,
   ⟨0, 9, wMailboxesAndPacketCopies9, by decide +kernel⟩,
   ⟨50, 11, wMailboxesAndPacketCopies10_it, wMailboxesAndPacketCopies10, by decide +kernel⟩,
   ⟨50, 10, wMailboxesAndPacketCopies11_it, wMailboxesAndPacketCopies11, by decide +kernel⟩,
   ⟨0, 9, wMailboxesAndPacketCopies12, by decide +kernel⟩,
   ⟨0, 9, wMailboxesAndPacketCopies13, by decide +kernel⟩,
   ⟨50, 11, wMailboxesAndPacketCopies14_it, wMailboxesAndPacketCopies14, by decide +kernel⟩,
   ⟨50, 10, wMailboxesAndPacketCopies15_it, wMailboxesAndPacketCopies15, by decide +kernel⟩⟩

def wOmciRequestsAreCarriedOut0 : State :=
  wS.setF stwB F.STW_STAT.STATE 2
def wOmciRequestsAreCarriedOut1 : State :=
  { wS.setF stwB F.STW_STAT.STATE 1 with slots := [], stw := { wS.stw with pmAt := wS.now }, pon := ⟨{ wS.pon.a with omciIn := [[1]] }, wS.pon.b⟩ }
def wOmciRequestsAreCarriedOut1_req : List Byte :=
  (fun (s : State) (c : PonCh) => (s.pn c).omciIn.headD []) wOmciRequestsAreCarriedOut1 0
def wOmciRequestsAreCarriedOut1_rest : List (List Byte) :=
  (fun (s : State) (c : PonCh) => (s.pn c).omciIn.tail) wOmciRequestsAreCarriedOut1 0
def wOmciRequestsAreCarriedOut2 : State :=
  { (wS.setF stwB F.STW_STAT.STATE (1)) with slots := wOmciKeys, stw := { wS.stw with pmAt := wS.now, verify := none, mibs := ⟨⟨255, []⟩, ⟨3, []⟩⟩ }, pon := ⟨{ wS.pon.a with omciIn := [wOmci] }, { wS.pon.b with omciIn := [wOmci] }⟩, flash := { wS.flash with busy := if 4 % 3 = 0 then some (9, [1]) else none } }
def wOmciRequestsAreCarriedOut2_req : List Byte :=
  (fun (s : State) (c : PonCh) => (s.pn c).omciIn.headD []) wOmciRequestsAreCarriedOut2 0
def wOmciRequestsAreCarriedOut2_rest : List (List Byte) :=
  (fun (s : State) (c : PonCh) => (s.pn c).omciIn.tail) wOmciRequestsAreCarriedOut2 0
def wOmciRequestsAreCarriedOut2_k : Nat :=
  (fun (s : State) (c : PonCh) => (s.omciKey c).getD 0) wOmciRequestsAreCarriedOut2 0
def wOmciRequestsAreCarriedOut3 : State :=
  { (wS.setF stwB F.STW_STAT.STATE (1)|>.setF (pnB 0) F.PN_SVC_CTRL.STATE 2 |>.setF (pnB 1) F.PN_SVC_CTRL.STATE 0) with slots := wOmciKeys, stw := { wS.stw with pmAt := wS.now, verify := none, mibs := ⟨⟨255, []⟩, ⟨3, []⟩⟩ }, pon := ⟨{ wS.pon.a with omciIn := [wOmci] }, { wS.pon.b with omciIn := [wOmci] }⟩, flash := { wS.flash with busy := if 4 % 3 = 0 then some (9, [1]) else none } }
def wOmciRequestsAreCarriedOut3_req : List Byte :=
  (fun (s : State) (c : PonCh) => (s.pn c).omciIn.headD []) wOmciRequestsAreCarriedOut3 0
def wOmciRequestsAreCarriedOut3_rest : List (List Byte) :=
  (fun (s : State) (c : PonCh) => (s.pn c).omciIn.tail) wOmciRequestsAreCarriedOut3 0
def wOmciRequestsAreCarriedOut3_k : Nat :=
  (fun (s : State) (c : PonCh) => (s.omciKey c).getD 0) wOmciRequestsAreCarriedOut3 0
def wOmciRequestsAreCarriedOut4 : State :=
  { (wS.setF stwB F.STW_STAT.STATE (1)) with slots := wOmciKeys, stw := { wS.stw with pmAt := wS.now, verify := none, mibs := ⟨⟨255, []⟩, ⟨3, []⟩⟩ }, pon := ⟨{ wS.pon.a with omciIn := [wOmci] }, { wS.pon.b with omciIn := [wOmci] }⟩, flash := { wS.flash with busy := if 4 % 3 = 0 then some (9, [1]) else none } }
def wOmciRequestsAreCarriedOut4_req : List Byte :=
  (fun (s : State) (c : PonCh) => (s.pn c).omciIn.headD []) wOmciRequestsAreCarriedOut4 0
def wOmciRequestsAreCarriedOut4_rest : List (List Byte) :=
  (fun (s : State) (c : PonCh) => (s.pn c).omciIn.tail) wOmciRequestsAreCarriedOut4 0
def wOmciRequestsAreCarriedOut4_k : Nat :=
  (fun (s : State) (c : PonCh) => (s.omciKey c).getD 0) wOmciRequestsAreCarriedOut4 0
def wOmciRequestsAreCarriedOut5 : State :=
  { (wS.setF stwB F.STW_STAT.STATE (1)) with slots := wOmciKeys, stw := { wS.stw with pmAt := wS.now, verify := none, mibs := ⟨⟨255, []⟩, ⟨3, []⟩⟩ }, pon := ⟨{ wS.pon.a with omciIn := [wOmci] }, { wS.pon.b with omciIn := [wOmci] }⟩, flash := { wS.flash with busy := if 4 % 3 = 0 then some (9, [1]) else none } }
def wOmciRequestsAreCarriedOut5_req : List Byte :=
  (fun (s : State) (c : PonCh) => (s.pn c).omciIn.headD []) wOmciRequestsAreCarriedOut5 0
def wOmciRequestsAreCarriedOut5_rest : List (List Byte) :=
  (fun (s : State) (c : PonCh) => (s.pn c).omciIn.tail) wOmciRequestsAreCarriedOut5 0
def wOmciRequestsAreCarriedOut5_k : Nat :=
  (fun (s : State) (c : PonCh) => (s.omciKey c).getD 0) wOmciRequestsAreCarriedOut5 0
def wOmciRequestsAreCarriedOut6 : State :=
  { (wS.setF stwB F.STW_STAT.STATE (1)) with slots := wOmciKeys, stw := { wS.stw with pmAt := wS.now, verify := none, mibs := ⟨⟨255, []⟩, ⟨3, []⟩⟩ }, pon := ⟨{ wS.pon.a with omciIn := [wOmci] }, { wS.pon.b with omciIn := [wOmci] }⟩, flash := { wS.flash with busy := if 4 % 3 = 0 then some (9, [1]) else none } }
def wOmciRequestsAreCarriedOut6_req : List Byte :=
  (fun (s : State) (c : PonCh) => (s.pn c).omciIn.headD []) wOmciRequestsAreCarriedOut6 0
def wOmciRequestsAreCarriedOut6_rest : List (List Byte) :=
  (fun (s : State) (c : PonCh) => (s.pn c).omciIn.tail) wOmciRequestsAreCarriedOut6 0
def wOmciRequestsAreCarriedOut6_k : Nat :=
  (fun (s : State) (c : PonCh) => (s.omciKey c).getD 0) wOmciRequestsAreCarriedOut6 0
def wOmciRequestsAreCarriedOut7 : State :=
  { (wS.setF stwB F.STW_STAT.STATE (1)|>.setF (pnB 0) F.PN_SVC_CTRL.STATE 2 |>.setF (pnB 1) F.PN_SVC_CTRL.STATE 0) with slots := wOmciKeys, stw := { wS.stw with pmAt := wS.now, verify := none, mibs := ⟨⟨255, []⟩, ⟨3, []⟩⟩ }, pon := ⟨{ wS.pon.a with omciIn := [wOmci] }, { wS.pon.b with omciIn := [wOmci] }⟩, flash := { wS.flash with busy := if 4 % 3 = 0 then some (9, [1]) else none } }
def wOmciRequestsAreCarriedOut7_req : List Byte :=
  (fun (s : State) (c : PonCh) => (s.pn c).omciIn.headD []) wOmciRequestsAreCarriedOut7 1
def wOmciRequestsAreCarriedOut7_rest : List (List Byte) :=
  (fun (s : State) (c : PonCh) => (s.pn c).omciIn.tail) wOmciRequestsAreCarriedOut7 1
def wOmciRequestsAreCarriedOut7_k : Nat :=
  (fun (s : State) (c : PonCh) => (s.omciKey c).getD 0) wOmciRequestsAreCarriedOut7 1
def wOmciRequestsAreCarriedOut8 : State :=
  { (wS.setF stwB F.STW_STAT.STATE (1)) with slots := wOmciKeys, stw := { wS.stw with pmAt := wS.now, verify := none, mibs := ⟨⟨255, []⟩, ⟨3, []⟩⟩ }, pon := ⟨{ wS.pon.a with omciIn := [wOmci] }, { wS.pon.b with omciIn := [wOmci] }⟩, flash := { wS.flash with busy := if 4 % 3 = 0 then some (9, [1]) else none } }
def wOmciRequestsAreCarriedOut8_req : List Byte :=
  (fun (s : State) (c : PonCh) => (s.pn c).omciIn.headD []) wOmciRequestsAreCarriedOut8 0
def wOmciRequestsAreCarriedOut8_rest : List (List Byte) :=
  (fun (s : State) (c : PonCh) => (s.pn c).omciIn.tail) wOmciRequestsAreCarriedOut8 0
def wOmciRequestsAreCarriedOut8_k : Nat :=
  (fun (s : State) (c : PonCh) => (s.omciKey c).getD 0) wOmciRequestsAreCarriedOut8 0
def wOmciRequestsAreCarriedOut9 : State :=
  { (wS.setF stwB F.STW_STAT.STATE (if 4 % 64 = 1 ∨ 4 = 4 then 1 else 0)|>.setF stwB F.STW_STAT.FW_COPY 0) with slots := wOmciKeys, stw := { wS.stw with pmAt := wS.now, verify := none, mibs := ⟨⟨255, []⟩, ⟨3, []⟩⟩ }, pon := ⟨{ wS.pon.a with omciIn := [wOmci] }, { wS.pon.b with omciIn := [wOmci] }⟩, flash := { wS.flash with busy := if 4 % 3 = 0 then some (9, [1]) else none } }
def wOmciRequestsAreCarriedOut9_req : List Byte :=
  (fun (s : State) (c : PonCh) => (s.pn c).omciIn.headD []) wOmciRequestsAreCarriedOut9 0
def wOmciRequestsAreCarriedOut9_rest : List (List Byte) :=
  (fun (s : State) (c : PonCh) => (s.pn c).omciIn.tail) wOmciRequestsAreCarriedOut9 0
def wOmciRequestsAreCarriedOut9_k : Nat :=
  (fun (s : State) (c : PonCh) => (s.omciKey c).getD 0) wOmciRequestsAreCarriedOut9 0
def wOmciRequestsAreCarriedOut10 : State :=
  { (wS.setF stwB F.STW_STAT.STATE (1)|>.setF stwB F.STW_STAT.FW_COPY 1) with slots := wOmciKeys, stw := { wS.stw with pmAt := wS.now, verify := none, mibs := ⟨⟨255, []⟩, ⟨3, []⟩⟩ }, pon := ⟨{ wS.pon.a with omciIn := [wOmci] }, { wS.pon.b with omciIn := [wOmci] }⟩, flash := { wS.flash with busy := if 4 % 3 = 0 then some (9, [1]) else none } }
def wOmciRequestsAreCarriedOut10_req : List Byte :=
  (fun (s : State) (c : PonCh) => (s.pn c).omciIn.headD []) wOmciRequestsAreCarriedOut10 0
def wOmciRequestsAreCarriedOut10_rest : List (List Byte) :=
  (fun (s : State) (c : PonCh) => (s.pn c).omciIn.tail) wOmciRequestsAreCarriedOut10 0
def wOmciRequestsAreCarriedOut10_k : Nat :=
  (fun (s : State) (c : PonCh) => (s.omciKey c).getD 0) wOmciRequestsAreCarriedOut10 0
def wOmciRequestsAreCarriedOut11 : State :=
  { (wS.setF stwB F.STW_STAT.STATE (1)|>.setF stwB F.STW_STAT.FW_COPY 0) with slots := wOmciKeys, stw := { wS.stw with pmAt := wS.now, verify := none, mibs := ⟨⟨255, []⟩, ⟨3, []⟩⟩ }, pon := ⟨{ wS.pon.a with omciIn := [wOmci] }, { wS.pon.b with omciIn := [wOmci] }⟩, flash := { wS.flash with busy := if 4 % 3 = 0 then some (9, [1]) else none } }
def wOmciRequestsAreCarriedOut11_req : List Byte :=
  (fun (s : State) (c : PonCh) => (s.pn c).omciIn.headD []) wOmciRequestsAreCarriedOut11 0
def wOmciRequestsAreCarriedOut11_rest : List (List Byte) :=
  (fun (s : State) (c : PonCh) => (s.pn c).omciIn.tail) wOmciRequestsAreCarriedOut11 0
def wOmciRequestsAreCarriedOut11_k : Nat :=
  (fun (s : State) (c : PonCh) => (s.omciKey c).getD 0) wOmciRequestsAreCarriedOut11 0
def wOmciRequestsAreCarriedOut12 : State :=
  { (wS.setF stwB F.STW_STAT.STATE (1)|>.setF stwB F.STW_STAT.FW_COPY 1) with slots := wOmciKeys, stw := { wS.stw with pmAt := wS.now, verify := none, mibs := ⟨⟨255, []⟩, ⟨3, []⟩⟩ }, pon := ⟨{ wS.pon.a with omciIn := [wOmci] }, { wS.pon.b with omciIn := [wOmci] }⟩, flash := { wS.flash with busy := if 4 % 3 = 0 then some (9, [1]) else none } }
def wOmciRequestsAreCarriedOut12_req : List Byte :=
  (fun (s : State) (c : PonCh) => (s.pn c).omciIn.headD []) wOmciRequestsAreCarriedOut12 0
def wOmciRequestsAreCarriedOut12_rest : List (List Byte) :=
  (fun (s : State) (c : PonCh) => (s.pn c).omciIn.tail) wOmciRequestsAreCarriedOut12 0
def wOmciRequestsAreCarriedOut12_k : Nat :=
  (fun (s : State) (c : PonCh) => (s.omciKey c).getD 0) wOmciRequestsAreCarriedOut12 0
def wOmciRequestsAreCarriedOut13 : State :=
  { (wS.setF stwB F.STW_STAT.STATE (1)) with slots := wOmciKeys, stw := { wS.stw with pmAt := wS.now, verify := none, mibs := ⟨⟨255, []⟩, ⟨3, []⟩⟩ }, pon := ⟨{ wS.pon.a with omciIn := [wOmci] }, { wS.pon.b with omciIn := [wOmci] }⟩, flash := { wS.flash with busy := if 4 % 3 = 0 then some (9, [1]) else none } }
def wOmciRequestsAreCarriedOut13_req : List Byte :=
  (fun (s : State) (c : PonCh) => (s.pn c).omciIn.headD []) wOmciRequestsAreCarriedOut13 0
def wOmciRequestsAreCarriedOut13_rest : List (List Byte) :=
  (fun (s : State) (c : PonCh) => (s.pn c).omciIn.tail) wOmciRequestsAreCarriedOut13 0
def wOmciRequestsAreCarriedOut13_k : Nat :=
  (fun (s : State) (c : PonCh) => (s.omciKey c).getD 0) wOmciRequestsAreCarriedOut13 0
def wOmciRequestsAreCarriedOut14 : State :=
  { (wS.setF stwB F.STW_STAT.STATE (1)) with slots := wOmciKeys, stw := { wS.stw with pmAt := wS.now, verify := none, mibs := ⟨⟨255, []⟩, ⟨3, []⟩⟩ }, pon := ⟨{ wS.pon.a with omciIn := [wOmci] }, { wS.pon.b with omciIn := [wOmci] }⟩, flash := { wS.flash with busy := if 4 % 3 = 0 then some (9, [1]) else none } }
def wOmciRequestsAreCarriedOut14_req : List Byte :=
  (fun (s : State) (c : PonCh) => (s.pn c).omciIn.headD []) wOmciRequestsAreCarriedOut14 0
def wOmciRequestsAreCarriedOut14_rest : List (List Byte) :=
  (fun (s : State) (c : PonCh) => (s.pn c).omciIn.tail) wOmciRequestsAreCarriedOut14 0
def wOmciRequestsAreCarriedOut14_k : Nat :=
  (fun (s : State) (c : PonCh) => (s.omciKey c).getD 0) wOmciRequestsAreCarriedOut14 0
def wOmciRequestsAreCarriedOut15 : State :=
  { (wS.setF stwB F.STW_STAT.STATE (1)) with slots := wOmciKeys, stw := { wS.stw with pmAt := wS.now, verify := none, mibs := ⟨⟨255, []⟩, ⟨3, []⟩⟩ }, pon := ⟨{ wS.pon.a with omciIn := [wOmci] }, { wS.pon.b with omciIn := [wOmci] }⟩, flash := { wS.flash with busy := if 4 % 3 = 0 then some (9, [1]) else none } }
def wOmciRequestsAreCarriedOut15_req : List Byte :=
  (fun (s : State) (c : PonCh) => (s.pn c).omciIn.headD []) wOmciRequestsAreCarriedOut15 0
def wOmciRequestsAreCarriedOut15_rest : List (List Byte) :=
  (fun (s : State) (c : PonCh) => (s.pn c).omciIn.tail) wOmciRequestsAreCarriedOut15 0
def wOmciRequestsAreCarriedOut15_k : Nat :=
  (fun (s : State) (c : PonCh) => (s.omciKey c).getD 0) wOmciRequestsAreCarriedOut15 0
def wOmciRequestsAreCarriedOut16 : State :=
  { (wS.setF stwB F.STW_STAT.STATE (1)) with slots := wOmciKeys, stw := { wS.stw with pmAt := wS.now, verify := none, mibs := ⟨⟨255, []⟩, ⟨3, []⟩⟩ }, pon := ⟨{ wS.pon.a with omciIn := [wOmci] }, { wS.pon.b with omciIn := [wOmci] }⟩, flash := { wS.flash with busy := if 4 % 3 = 0 then some (9, [1]) else none } }
def wOmciRequestsAreCarriedOut16_req : List Byte :=
  (fun (s : State) (c : PonCh) => (s.pn c).omciIn.headD []) wOmciRequestsAreCarriedOut16 0
def wOmciRequestsAreCarriedOut16_rest : List (List Byte) :=
  (fun (s : State) (c : PonCh) => (s.pn c).omciIn.tail) wOmciRequestsAreCarriedOut16 0
def wOmciRequestsAreCarriedOut16_k : Nat :=
  (fun (s : State) (c : PonCh) => (s.omciKey c).getD 0) wOmciRequestsAreCarriedOut16 0
def wOmciRequestsAreCarriedOut17 : State :=
  { (wS.setF stwB F.STW_STAT.STATE (1)) with slots := wOmciKeys, stw := { wS.stw with pmAt := wS.now, verify := none, mibs := ⟨⟨255, []⟩, ⟨3, []⟩⟩ }, pon := ⟨{ wS.pon.a with omciIn := [wOmci] }, { wS.pon.b with omciIn := [wOmci] }⟩, flash := { wS.flash with busy := if 4 % 3 = 0 then some (9, [1]) else none } }
def wOmciRequestsAreCarriedOut17_req : List Byte :=
  (fun (s : State) (c : PonCh) => (s.pn c).omciIn.headD []) wOmciRequestsAreCarriedOut17 0
def wOmciRequestsAreCarriedOut17_rest : List (List Byte) :=
  (fun (s : State) (c : PonCh) => (s.pn c).omciIn.tail) wOmciRequestsAreCarriedOut17 0
def wOmciRequestsAreCarriedOut17_k : Nat :=
  (fun (s : State) (c : PonCh) => (s.omciKey c).getD 0) wOmciRequestsAreCarriedOut17 0
def wOmciRequestsAreCarriedOut18 : State :=
  { (wS.setF stwB F.STW_STAT.STATE (1)) with slots := wOmciKeys, stw := { wS.stw with pmAt := wS.now, verify := none, mibs := ⟨⟨255, []⟩, ⟨3, []⟩⟩ }, pon := ⟨{ wS.pon.a with omciIn := [wOmci] }, { wS.pon.b with omciIn := [wOmci] }⟩, flash := { wS.flash with busy := if 4 % 3 = 0 then some (9, [1]) else none } }
def wOmciRequestsAreCarriedOut18_req : List Byte :=
  (fun (s : State) (c : PonCh) => (s.pn c).omciIn.headD []) wOmciRequestsAreCarriedOut18 0
def wOmciRequestsAreCarriedOut18_rest : List (List Byte) :=
  (fun (s : State) (c : PonCh) => (s.pn c).omciIn.tail) wOmciRequestsAreCarriedOut18 0
def wOmciRequestsAreCarriedOut18_k : Nat :=
  (fun (s : State) (c : PonCh) => (s.omciKey c).getD 0) wOmciRequestsAreCarriedOut18 0
def wOmciRequestsAreCarriedOut19 : State :=
  { (wS.setF stwB F.STW_STAT.STATE (1)) with slots := wOmciKeys, stw := { wS.stw with pmAt := wS.now, verify := none, mibs := ⟨⟨255, []⟩, ⟨3, []⟩⟩ }, pon := ⟨{ wS.pon.a with omciIn := [wOmci] }, { wS.pon.b with omciIn := [wOmci] }⟩, flash := { wS.flash with busy := if 4 % 3 = 0 then some (9, [1]) else none } }
def wOmciRequestsAreCarriedOut19_req : List Byte :=
  (fun (s : State) (c : PonCh) => (s.pn c).omciIn.headD []) wOmciRequestsAreCarriedOut19 0
def wOmciRequestsAreCarriedOut19_rest : List (List Byte) :=
  (fun (s : State) (c : PonCh) => (s.pn c).omciIn.tail) wOmciRequestsAreCarriedOut19 0
def wOmciRequestsAreCarriedOut19_k : Nat :=
  (fun (s : State) (c : PonCh) => (s.omciKey c).getD 0) wOmciRequestsAreCarriedOut19 0
def wOmciRequestsAreCarriedOut20 : State :=
  wS.setF stwB F.STW_STAT.STATE 2
def wOmciRequestsAreCarriedOut21 : State :=
  { wS.setF stwB F.STW_STAT.STATE 1 with slots := wOmciKeys, stw := { wS.stw with pmAt := wS.now, alarms := [(2, true)] } }

/-- States and operands that meet the hypotheses of each clause of Obligations.OmciRequestsAreCarriedOut. -/
theorem wit_OmciRequestsAreCarriedOut :
    (∃ (c : PonCh) (r : OmciReq) (s : State), (s.stwState ≠ 1 ∨ (s.pn c).omciIn = [])) ∧
    (∃ (c : PonCh) (r : OmciReq) (req : List Byte) (rest : List (List Byte)) (s : State), (s.pn c).omciIn = req :: rest
      ∧ s.stwState = 1 ∧ s.now < s.stw.pmAt + 900000 * msTicks ∧ s.omciMicOk c.val req = false) ∧
    (∃ (c : PonCh) (r : OmciReq) (req : List Byte) (rest : List (List Byte)) (k : Nat) (s : State), (s.pn c).omciIn =
      req :: rest ∧ s.stwState = 1 ∧ s.now < s.stw.pmAt + 900000 * msTicks ∧ s.omciKey c.val = some k ∧ s.omciMicOk
      c.val req = true ∧ omciClasses.contains r.cls.toNat = false) ∧
    (∃ (c : PonCh) (r : OmciReq) (req : List Byte) (rest : List (List Byte)) (k : Nat) (s : State), (s.pn c).omciIn =
      req :: rest ∧ (s.stwState = 1 ∧ s.now < s.stw.pmAt + 900000 * msTicks) ∧ (s.omciKey c.val = some k ∧ s.omciMicOk
      c.val req = true) ∧ (omciClasses.contains r.cls.toNat = true ∧ omciPrimaryOnly r = true ∧ c.val ≠ s.primary)) ∧
    (∃ (c : PonCh) (r : OmciReq) (code : BitVec 4) (req : List Byte) (rest : List (List Byte)) (k : Nat) (s : State),
      (s.pn c).omciIn = req :: rest ∧ s.stwState = 1 ∧ s.now < s.stw.pmAt + 900000 * msTicks ∧ s.omciKey c.val = some k
      ∧ s.omciMicOk c.val req = true ∧ omciClasses.contains r.cls.toNat = true ∧ (omciPrimaryOnly r = false ∨ c.val =
      s.primary) ∧ r.op ≠ .reboot ∧ r.act = .answer code ∧ code ≠ 0) ∧
    (∃ (c : PonCh) (r : OmciReq) (req : List Byte) (rest : List (List Byte)) (k : Nat) (s : State), (s.pn c).omciIn =
      req :: rest ∧ s.stwState = 1 ∧ s.now < s.stw.pmAt + 900000 * msTicks ∧ s.omciKey c.val = some k ∧ s.omciMicOk
      c.val req = true ∧ omciClasses.contains r.cls.toNat = true ∧ (omciPrimaryOnly r = false ∨ c.val = s.primary) ∧
      r.op ≠ .reboot ∧ r.act = .answer 0 ∧ r.op = .get ∧ r.keep = none) ∧
    (∃ (c : PonCh) (r : OmciReq) (req : List Byte) (rest : List (List Byte)) (k : Nat) (s : State), (s.pn c).omciIn =
      req :: rest ∧ s.stwState = 1 ∧ s.now < s.stw.pmAt + 900000 * msTicks ∧ s.omciKey c.val = some k ∧ s.omciMicOk
      c.val req = true ∧ omciClasses.contains r.cls.toNat = true ∧ (omciPrimaryOnly r = false ∨ c.val = s.primary) ∧
      r.op ≠ .reboot ∧ r.act = .answer 0 ∧ (r.op = .set ∨ r.op = .create) ∧ r.keep = none ∧ omciShared.contains
      r.cls.toNat = false) ∧
    (∃ (c : PonCh) (r : OmciReq) (req : List Byte) (rest : List (List Byte)) (k : Nat) (s : State), (s.pn c).omciIn =
      req :: rest ∧ (s.stwState = 1 ∧ s.now < s.stw.pmAt + 900000 * msTicks) ∧ (s.omciKey c.val = some k ∧ s.omciMicOk
      c.val req = true) ∧ (omciClasses.contains r.cls.toNat = true ∧ (omciPrimaryOnly r = false ∨ c.val = s.primary) ∧
      r.op ≠ .reboot) ∧ (r.act = .answer 0 ∧ r.op = .delete ∧ r.keep = none ∧ omciShared.contains r.cls.toNat = false)) ∧
    (∃ (c : PonCh) (r : OmciReq) (req : List Byte) (rest : List (List Byte)) (k : Nat) (s : State), (s.pn c).omciIn =
      req :: rest ∧ s.stwState = 1 ∧ s.now < s.stw.pmAt + 900000 * msTicks ∧ s.omciKey c.val = some k ∧ s.omciMicOk
      c.val req = true ∧ omciClasses.contains r.cls.toNat = true ∧ (omciPrimaryOnly r = false ∨ c.val = s.primary) ∧
      r.op ≠ .reboot ∧ r.act = .answer 0 ∧ r.op = .mibReset ∧ r.keep = none) ∧
    (∃ (c : PonCh) (r : OmciReq) (cp : Fin 2) (req : List Byte) (rest : List (List Byte)) (k : Nat) (s : State), (s.pn
      c).omciIn = req :: rest ∧ s.stwState = 1 ∧ s.now < s.stw.pmAt + 900000 * msTicks ∧ s.omciKey c.val = some k ∧
      s.omciMicOk c.val req = true ∧ omciClasses.contains r.cls.toNat = true ∧ (omciPrimaryOnly r = false ∨ c.val =
      s.primary) ∧ r.op ≠ .reboot ∧ r.act = .startDownload cp ∧ cp.val ≠ s.fld stwB F.STW_STAT.FW_COPY ∧ s.sagging =
      false) ∧
    (∃ (c : PonCh) (r : OmciReq) (cp : Fin 2) (req : List Byte) (rest : List (List Byte)) (k : Nat) (s : State), (s.pn
      c).omciIn = req :: rest ∧ s.stwState = 1 ∧ s.now < s.stw.pmAt + 900000 * msTicks ∧ s.omciKey c.val = some k ∧
      s.omciMicOk c.val req = true ∧ omciClasses.contains r.cls.toNat = true ∧ (omciPrimaryOnly r = false ∨ c.val =
      s.primary) ∧ r.op ≠ .reboot ∧ r.act = .startDownload cp ∧ cp.val = s.fld stwB F.STW_STAT.FW_COPY) ∧
    (∃ (c : PonCh) (r : OmciReq) (cp : Fin 2) (off : BitVec 23) (data : List Byte) (req : List Byte) (rest : List (List
      Byte)) (k : Nat) (s : State), (s.pn c).omciIn = req :: rest ∧ s.stwState = 1 ∧ s.now < s.stw.pmAt + 900000 *
      msTicks ∧ s.omciKey c.val = some k ∧ s.omciMicOk c.val req = true ∧ omciClasses.contains r.cls.toNat = true ∧
      (omciPrimaryOnly r = false ∨ c.val = s.primary) ∧ r.op ≠ .reboot ∧ r.act = .section_ cp off data ∧ cp.val ≠ s.fld
      stwB F.STW_STAT.FW_COPY ∧ s.sagging = false ∧ off.toNat + data.length ≤ 2 ^ 23) ∧
    (∃ (c : PonCh) (r : OmciReq) (cp : Fin 2) (off : BitVec 23) (data : List Byte) (req : List Byte) (rest : List (List
      Byte)) (k : Nat) (s : State), (s.pn c).omciIn = req :: rest ∧ s.stwState = 1 ∧ s.now < s.stw.pmAt + 900000 *
      msTicks ∧ s.omciKey c.val = some k ∧ s.omciMicOk c.val req = true ∧ omciClasses.contains r.cls.toNat = true ∧
      (omciPrimaryOnly r = false ∨ c.val = s.primary) ∧ r.op ≠ .reboot ∧ r.act = .section_ cp off data ∧ cp.val = s.fld
      stwB F.STW_STAT.FW_COPY) ∧
    (∃ (c : PonCh) (r : OmciReq) (cp : Fin 2) (req : List Byte) (rest : List (List Byte)) (k : Nat) (s : State), (s.pn
      c).omciIn = req :: rest ∧ s.stwState = 1 ∧ s.now < s.stw.pmAt + 900000 * msTicks ∧ s.omciKey c.val = some k ∧
      s.omciMicOk c.val req = true ∧ omciClasses.contains r.cls.toNat = true ∧ (omciPrimaryOnly r = false ∨ c.val =
      s.primary) ∧ r.op ≠ .reboot ∧ r.act = .endDownload cp ∧ s.stw.verify = none) ∧
    (∃ (c : PonCh) (r : OmciReq) (cp : Fin 2) (req : List Byte) (rest : List (List Byte)) (k : Nat) (s : State), (s.pn
      c).omciIn = req :: rest ∧ s.stwState = 1 ∧ s.now < s.stw.pmAt + 900000 * msTicks ∧ s.omciKey c.val = some k ∧
      s.omciMicOk c.val req = true ∧ omciClasses.contains r.cls.toNat = true ∧ (omciPrimaryOnly r = false ∨ c.val =
      s.primary) ∧ r.op ≠ .reboot ∧ r.act = .activate cp ∧ s.stw.verify = none) ∧
    (∃ (c : PonCh) (r : OmciReq) (cp : Fin 2) (req : List Byte) (rest : List (List Byte)) (k : Nat) (s : State), (s.pn
      c).omciIn = req :: rest ∧ s.stwState = 1 ∧ s.now < s.stw.pmAt + 900000 * msTicks ∧ s.omciKey c.val = some k ∧
      s.omciMicOk c.val req = true ∧ omciClasses.contains r.cls.toNat = true ∧ (omciPrimaryOnly r = false ∨ c.val =
      s.primary) ∧ r.op ≠ .reboot ∧ r.act = .commit cp) ∧
    (∃ (c : PonCh) (r : OmciReq) (m : List Byte) (req : List Byte) (rest : List (List Byte)) (k : Nat) (s : State),
      (s.pn c).omciIn = req :: rest ∧ s.stwState = 1 ∧ s.now < s.stw.pmAt + 900000 * msTicks ∧ s.omciKey c.val = some k
      ∧ s.omciMicOk c.val req = true ∧ omciClasses.contains r.cls.toNat = true ∧ (omciPrimaryOnly r = false ∨ c.val =
      s.primary) ∧ r.op ≠ .reboot ∧ r.act = .optics m ∧ r.op = .other ∧ r.keep = none) ∧
    (∃ (c : PonCh) (r : OmciReq) (req : List Byte) (rest : List (List Byte)) (k : Nat) (s : State), (s.pn c).omciIn =
      req :: rest ∧ s.stwState = 1 ∧ s.now < s.stw.pmAt + 900000 * msTicks ∧ s.omciKey c.val = some k ∧ s.omciMicOk
      c.val req = true ∧ omciClasses.contains r.cls.toNat = true ∧ (omciPrimaryOnly r = false ∨ c.val = s.primary) ∧
      r.op ≠ .reboot ∧ r.act = .syncTime ∧ r.op = .other ∧ r.keep = none) ∧
    (∃ (c : PonCh) (r : OmciReq) (req : List Byte) (rest : List (List Byte)) (k : Nat) (s : State), (s.pn c).omciIn =
      req :: rest ∧ s.stwState = 1 ∧ s.now < s.stw.pmAt + 900000 * msTicks ∧ s.omciKey c.val = some k ∧ s.omciMicOk
      c.val req = true ∧ omciClasses.contains r.cls.toNat = true ∧ (omciPrimaryOnly r = false ∨ c.val = s.primary) ∧
      r.op ≠ .reboot ∧ r.act = .uniFixed) ∧
    (∃ (c : PonCh) (r : OmciReq) (b : Option (BitVec 12)) (sf : BitVec 12) (st : Bool) (hm : Bool) (x : Fin 256) (req :
      List Byte) (rest : List (List Byte)) (k : Nat) (s : State), (s.pn c).omciIn = req :: rest ∧ s.stwState = 1 ∧ s.now
      < s.stw.pmAt + 900000 * msTicks ∧ s.omciKey c.val = some k ∧ s.omciMicOk c.val req = true ∧ omciClasses.contains
      r.cls.toNat = true ∧ (omciPrimaryOnly r = false ∨ c.val = s.primary) ∧ r.op ≠ .reboot ∧ r.act = .twinFlow none b
      sf st hm x) ∧
    (∃ (c : PonCh) (optics : BitVec 5) (s : State), (s.stwState ≠ 1 ∨ (s.now < s.stw.pmAt + 900000 * msTicks ∧ s.bit
      (pnB c) F.PN_OSP_CFG.OMCI_OSP = true))) ∧
    (∃ (c : PonCh) (optics : BitVec 5) (s : State), s.stwState = 1 ∧ s.now < s.stw.pmAt + 900000 * msTicks ∧ s.bit (pnB
      c) F.PN_OSP_CFG.OMCI_OSP = false) :=
  ⟨⟨0, ((⟨.get, 7, 0, [], .answer 0, none⟩) : OmciReq), wOmciRequestsAreCarriedOut0, by decide +kernel⟩,
   ⟨0, ((⟨.get, 7, 0, [], .answer 0, none⟩) : OmciReq), wOmciRequestsAreCarriedOut1_req, wOmciRequestsAreCarriedOut1_rest,
     wOmciRequestsAreCarriedOut1, by decide +kernel⟩,
   ⟨0, ((⟨.get, 1, 0, [], .answer 0, none⟩) : OmciReq), wOmciRequestsAreCarriedOut2_req, wOmciRequestsAreCarriedOut2_rest,
     wOmciRequestsAreCarriedOut2_k, wOmciRequestsAreCarriedOut2, by decide +kernel⟩,
   ⟨0, ((⟨.create, 45, 0, [], .answer 0, none⟩) : OmciReq), wOmciRequestsAreCarriedOut3_req,
     wOmciRequestsAreCarriedOut3_rest, wOmciRequestsAreCarriedOut3_k, wOmciRequestsAreCarriedOut3,
     ⟨by decide +kernel, by decide +kernel, by decide +kernel, ⟨by decide +kernel, by decide +kernel, by rw [primary_one _ (by decide +kernel) (by decide +kernel)]; decide⟩⟩⟩,
   ⟨0, ((⟨.get, 7, 0, [], .answer 3, none⟩) : OmciReq), 3, wOmciRequestsAreCarriedOut4_req,
     wOmciRequestsAreCarriedOut4_rest, wOmciRequestsAreCarriedOut4_k, wOmciRequestsAreCarriedOut4, by decide +kernel⟩,
   ⟨0, ((⟨.get, 7, 0, [], .answer 0, none⟩) : OmciReq), wOmciRequestsAreCarriedOut5_req, wOmciRequestsAreCarriedOut5_rest,
     wOmciRequestsAreCarriedOut5_k, wOmciRequestsAreCarriedOut5, by decide +kernel⟩,
   ⟨0, ((⟨.set, 45, 0, [1, 2], .answer 0, none⟩) : OmciReq), wOmciRequestsAreCarriedOut6_req,
     wOmciRequestsAreCarriedOut6_rest, wOmciRequestsAreCarriedOut6_k, wOmciRequestsAreCarriedOut6, by decide +kernel⟩,
   ⟨1, ((⟨.delete, 45, 0, [], .answer 0, none⟩) : OmciReq), wOmciRequestsAreCarriedOut7_req,
     wOmciRequestsAreCarriedOut7_rest, wOmciRequestsAreCarriedOut7_k, wOmciRequestsAreCarriedOut7,
     ⟨by decide +kernel, by decide +kernel, by decide +kernel, ⟨by decide +kernel, Or.inr (by rw [primary_one _ (by decide +kernel) (by decide +kernel)]; rfl), by decide⟩, by decide +kernel⟩⟩,
   ⟨0, ((⟨.mibReset, 2, 0, [], .answer 0, none⟩) : OmciReq), wOmciRequestsAreCarriedOut8_req,
     wOmciRequestsAreCarriedOut8_rest, wOmciRequestsAreCarriedOut8_k, wOmciRequestsAreCarriedOut8, by decide +kernel⟩,
   ⟨0, ((⟨.other, 7, 0, [], .startDownload 1, none⟩) : OmciReq), 1, wOmciRequestsAreCarriedOut9_req,
     wOmciRequestsAreCarriedOut9_rest, wOmciRequestsAreCarriedOut9_k, wOmciRequestsAreCarriedOut9, by decide +kernel⟩,
   ⟨0, ((⟨.other, 7, 0, [], .startDownload 1, none⟩) : OmciReq), 1, wOmciRequestsAreCarriedOut10_req,
     wOmciRequestsAreCarriedOut10_rest, wOmciRequestsAreCarriedOut10_k, wOmciRequestsAreCarriedOut10, by decide +kernel⟩,
   ⟨0, ((⟨.other, 7, 0, [], .section_ 1 5 [1, 2], none⟩) : OmciReq), 1, 5, (([1, 2]) : List Byte),
     wOmciRequestsAreCarriedOut11_req, wOmciRequestsAreCarriedOut11_rest, wOmciRequestsAreCarriedOut11_k,
     wOmciRequestsAreCarriedOut11, by decide +kernel⟩,
   ⟨0, ((⟨.other, 7, 0, [], .section_ 1 5 [1, 2], none⟩) : OmciReq), 1, 5, (([1, 2]) : List Byte),
     wOmciRequestsAreCarriedOut12_req, wOmciRequestsAreCarriedOut12_rest, wOmciRequestsAreCarriedOut12_k,
     wOmciRequestsAreCarriedOut12, by decide +kernel⟩,
   ⟨0, ((⟨.other, 7, 0, [], .endDownload 1, none⟩) : OmciReq), 1, wOmciRequestsAreCarriedOut13_req,
     wOmciRequestsAreCarriedOut13_rest, wOmciRequestsAreCarriedOut13_k, wOmciRequestsAreCarriedOut13, by decide +kernel⟩,
   ⟨0, ((⟨.other, 7, 0, [], .activate 1, none⟩) : OmciReq), 1, wOmciRequestsAreCarriedOut14_req,
     wOmciRequestsAreCarriedOut14_rest, wOmciRequestsAreCarriedOut14_k, wOmciRequestsAreCarriedOut14, by decide +kernel⟩,
   ⟨0, ((⟨.other, 7, 0, [], .commit 1, none⟩) : OmciReq), 1, wOmciRequestsAreCarriedOut15_req,
     wOmciRequestsAreCarriedOut15_rest, wOmciRequestsAreCarriedOut15_k, wOmciRequestsAreCarriedOut15, by decide +kernel⟩,
   ⟨0, ((⟨.other, 263, 0, [], .optics [5, 6], none⟩) : OmciReq), (([5, 6]) : List Byte), wOmciRequestsAreCarriedOut16_req,
     wOmciRequestsAreCarriedOut16_rest, wOmciRequestsAreCarriedOut16_k, wOmciRequestsAreCarriedOut16, by decide +kernel⟩,
   ⟨0, ((⟨.other, 256, 0, [], .syncTime, none⟩) : OmciReq), wOmciRequestsAreCarriedOut17_req,
     wOmciRequestsAreCarriedOut17_rest, wOmciRequestsAreCarriedOut17_k, wOmciRequestsAreCarriedOut17, by decide +kernel⟩,
   ⟨0, ((⟨.get, 11, 0, [], .uniFixed, none⟩) : OmciReq), wOmciRequestsAreCarriedOut18_req,
     wOmciRequestsAreCarriedOut18_rest, wOmciRequestsAreCarriedOut18_k, wOmciRequestsAreCarriedOut18, by decide +kernel⟩,
   ⟨0, ((⟨.other, 268, 0, [], .twinFlow none (some 3) 4 true false 5, none⟩) : OmciReq), ((some 3) : Option (BitVec 12)),
     4, true, false, 5, wOmciRequestsAreCarriedOut19_req, wOmciRequestsAreCarriedOut19_rest,
     wOmciRequestsAreCarriedOut19_k, wOmciRequestsAreCarriedOut19, by decide +kernel⟩,
   ⟨0, 3, wOmciRequestsAreCarriedOut20, by decide +kernel⟩,
   ⟨0, 3, wOmciRequestsAreCarriedOut21, by decide +kernel⟩⟩

def wDmaChannelCommands0 : State :=
  { ([3].foldl (fun (z : State) d => (z |>.setF (dcB d) F.DC_CTRL.PENDING (1))) wS) with dma := wDma (wChan 2) }
def wDmaChannelCommands1 : State :=
  { ([3].foldl (fun (z : State) d => (z |>.setF (dcB d) F.DC_CTRL.PENDING (0)|>.setF (dcB d) F.DC_POS.CI (4 % 9))) wS) with dma := wDma (wChan 2) }
def wDmaChannelCommands2 : State :=
  { ([3].foldl (fun (z : State) d => (z |>.setF (dcB d) F.DC_CTRL.PENDING (0)|>.setF (dcB d) F.DC_POS.CI (4 % 9))) wS) with dma := wDma (wChan 2) }
def wDmaChannelCommands3 : State :=
  { ([3].foldl (fun (z : State) d => (z |>.setF (dcB d) F.DC_CTRL.PENDING (0)|>.setF (dcB d) F.DC_CTRL.STATE (4 % 2 * 2))) (wS |>.setF hstB F.HST_STATUS.PATH_DOWN 0 |>.setF hstB F.HST_CFG.HOSTLESS 0)) with dma := wDma (wChan 2) }
def wDmaChannelCommands4 : State :=
  { ([3].foldl (fun (z : State) d => (z |>.setF (dcB d) F.DC_CTRL.PENDING (0)|>.setF (dcB d) F.DC_CTRL.STATE (1))) wS) with dma := wDma (wChan 2) }
def wDmaChannelCommands5 : State :=
  { ([3].foldl (fun (z : State) d => (z |>.setF (dcB d) F.DC_CTRL.PENDING (1)|>.setF (dcB d) F.DC_CTRL.STATE (4 % 2 * 2)|>.setF (dcB d) F.DC_RING_CFG.MODE (4 % 3)|>.setF (dcB d) F.DC_RING_CFG.SEQ_START (4 % 200)|>.setF (dcB d) F.DC_RING_CFG.SIZE (4 % 9))) (wS |>.setF hstB F.HST_STATUS.PATH_DOWN 0 |>.setF hstB F.HST_CFG.HOSTLESS 0)) with dma := wDma ({ wChan 1 with heldPi := if 4 % 3 = 0 then none else some (4 % 90) }) }
def wDmaChannelCommands6 : State :=
  { ([3].foldl (fun (z : State) d => (z |>.setF (dcB d) F.DC_CTRL.PENDING (1))) wS) with dma := wDma (wChan 2) }
def wDmaChannelCommands7 : State :=
  { ([3].foldl (fun (z : State) d => (z |>.setF (dcB d) F.DC_CTRL.PENDING (0)|>.setF (dcB d) F.DC_DB.PI (1))) wS) with dma := wDma (wChan 2) }
def wDmaChannelCommands8 : State :=
  { ([3].foldl (fun (z : State) d => (z |>.setF (dcB d) F.DC_CTRL.PENDING (0)|>.setF (dcB d) F.DC_CTRL.STATE (1)|>.setF (dcB d) F.DC_DB.PI (4)|>.setF (dcB d) F.DC_POS.CI (4)|>.setF (dcB d) F.DC_RING_CFG.MODE (4 % 3)|>.setF (dcB d) F.DC_RING_CFG.SIZE (4 % 9))) wS) with dma := wDma ({ wChan 1 with heldPi := if 4 % 3 = 0 then none else some (4 % 90) }) }
def wDmaChannelCommands9 : State :=
  { wS with dma := wDma (wChan 2) }
def wDmaChannelCommands10 : State :=
  { ([3].foldl (fun (z : State) d => (z |>.setF (dcB d) F.DC_IRQ_EN.EN (0))) wS) with dma := wDma ({ wBusyChan 2 (wDesc 0x500 0x900 (20 + 4 % 50) (2 ^ 30 * (4 % 2) + 2 ^ 29 * (4 / 2 % 2) + 0)) with unit := decide (4 / 8 % 2 = 1) }) }
def wDmaChannelCommands10_e : List Byte :=
  (fun (s : State) (d : Fin 32) => ((s.dch d.val).desc).getD []) wDmaChannelCommands10 3

/-- States and operands that meet the hypotheses of each clause of Obligations.DmaChannelCommands. -/
theorem wit_DmaChannelCommands :
    (∃ (m : Master) (d : Fin 32) (pi : BitVec 17) (s : State), s.reaches m (dcB d.val + 0x10) = true ∧ (s.bit (dcB
      d.val) F.DC_CTRL.PENDING) = true) ∧
    (∃ (m : Master) (d : Fin 32) (pi : BitVec 17) (s : State), s.reaches m (dcB d.val + 0x10) = true ∧ (s.bit (dcB
      d.val) F.DC_CTRL.PENDING) = false ∧ (pi.toNat + 131072 - s.dcF d.val F.DC_POS.CI) % 131072 ≤ 2 ^ ((s.dch
      d.val)).size) ∧
    (∃ (m : Master) (d : Fin 32) (pi : BitVec 17) (s : State), s.reaches m (dcB d.val + 0x10) = true ∧ (s.bit (dcB
      d.val) F.DC_CTRL.PENDING) = false ∧ 2 ^ ((s.dch d.val)).size < (pi.toNat + 131072 - s.dcF d.val F.DC_POS.CI) %
      131072) ∧
    (∃ (m : Master) (d : Fin 32) (s : State), s.reaches m (dcB d.val) = true ∧ (s.bit (dcB d.val) F.DC_CTRL.PENDING) =
      false ∧ s.dcState d.val ≠ 1 ∧ ((s.dch d.val)).mode ≠ 3 ∧ (s.dcSteward d.val = true ∨ (s.pathDown = false ∧ s.bit
      hstB F.HST_CFG.HOSTLESS = false))) ∧
    (∃ (m : Master) (d : Fin 32) (s : State), s.reaches m (dcB d.val) = true ∧ (s.dcState d.val = 1 ∨ s.nextMode d.val =
      3 ∨ (s.dcSteward d.val = false ∧ (s.pathDown = true ∨ s.bit hstB F.HST_CFG.HOSTLESS = true)))) ∧
    (∃ (m : Master) (d : Fin 32) (s : State), s.reaches m (dcB d.val) = true ∧ (s.bit (dcB d.val) F.DC_CTRL.PENDING) =
      true ∧ s.dcState d.val ≠ 1 ∧ s.dcF d.val F.DC_RING_CFG.MODE ≠ 3 ∧ (s.dcSteward d.val = true ∨ (s.pathDown = false
      ∧ s.bit hstB F.HST_CFG.HOSTLESS = false))) ∧
    (∃ (m : Master) (d : Fin 32) (s : State), s.reaches m (dcB d.val) = true ∧ (s.bit (dcB d.val) F.DC_CTRL.PENDING) =
      true) ∧
    (∃ (m : Master) (d : Fin 32) (s : State), s.reaches m (dcB d.val) = true ∧ (s.bit (dcB d.val) F.DC_CTRL.PENDING) =
      false ∧ (s.dcState d.val ≠ 1 ∨ ((s.dch d.val)).desc.isSome = true ∨ s.dcHeld d.val ≠ 0)) ∧
    (∃ (m : Master) (d : Fin 32) (s : State), s.reaches m (dcB d.val) = true ∧ (s.bit (dcB d.val) F.DC_CTRL.PENDING) =
      false ∧ s.dcState d.val = 1 ∧ ((s.dch d.val)).desc.isSome = false ∧ s.dcHeld d.val = 0) ∧
    (∃ (m : Master) (d : Fin 32) (moved : BitVec 25) (s : State), s.reaches m (dcB d.val) = true ∧ ((s.dch d.val)).desc
      = none) ∧
    (∃ (m : Master) (d : Fin 32) (moved : BitVec 25) (e : List Byte) (s : State), s.reaches m (dcB d.val) = true ∧
      (s.dcSteward d.val = true ∨ s.dcF d.val F.DC_IRQ_EN.EN = 0) ∧ ((s.dch d.val)).desc = some e ∧ (((List.range
      32).all fun q => !(s.dch q).waits) = true)) :=
  ⟨⟨.host, 3, 5, wDmaChannelCommands0, by decide +kernel⟩,
   ⟨.host, 3, 5, wDmaChannelCommands1, by decide +kernel⟩,
   ⟨.host, 3, 50, wDmaChannelCommands2, by decide +kernel⟩,
   ⟨.host, 3, wDmaChannelCommands3, by decide +kernel⟩,
   ⟨.host, 3, wDmaChannelCommands4, by decide +kernel⟩,
   ⟨.host, 3, wDmaChannelCommands5, by decide +kernel⟩,
   ⟨.host, 3, wDmaChannelCommands6, by decide +kernel⟩,
   ⟨.host, 3, wDmaChannelCommands7, by decide +kernel⟩,
   ⟨.host, 3, wDmaChannelCommands8, by decide +kernel⟩,
   ⟨.host, 3, 7, wDmaChannelCommands9, by decide +kernel⟩,
   ⟨.host, 3, 7, wDmaChannelCommands10_e, wDmaChannelCommands10, by decide +kernel⟩⟩

def wDmaDescriptorsAreFetched0 : State :=
  { ([3].foldl (fun (z : State) d => (z |>.setF (dcB d) F.DC_CTRL.STATE (2))) wS) with dma := wDma (wChan 2) }
def wDmaDescriptorsAreFetched1 : State :=
  { ([3].foldl (fun (z : State) d => (z |>.setF (dcB d) F.DC_CTRL.STATE (1)|>.setF (dcB d) F.DC_DB.PI (5)|>.setF (dcB d) F.DC_POS.CI (3)|>.setF (dcB d) F.DC_POS.SEQ_NEXT (9))) wS) with dma := wDma (wChan (1 + 4 % 2)) }
def wDmaDescriptorsAreFetched2 : State :=
  { ([3].foldl (fun (z : State) d => (z |>.setF (dcB d) F.DC_CTRL.STATE (1)|>.setF (dcB d) F.DC_DB.PI (5)|>.setF (dcB d) F.DC_POS.CI (3)|>.setF (dcB d) F.DC_POS.SEQ_NEXT (9))) ((List.range 4).foldl (fun (z : State) u => z.setF (chkB u) F.CHK_CTRL.BUSY 1) wS)) with dma := wDma (wChan (4 % 3)) }
def wDmaDescriptorsAreFetched3 : State :=
  { ([3].foldl (fun (z : State) d => (z |>.setF (dcB d) F.DC_CTRL.STATE (1)|>.setF (dcB d) F.DC_DB.PI (5)|>.setF (dcB d) F.DC_POS.CI (3)|>.setF (dcB d) F.DC_POS.SEQ_NEXT (9))) ((List.range 4).foldl (fun (z : State) u => z.setF (chkB u) F.CHK_CTRL.BUSY 0) (wS.setReg (aonB + 0x14) 0xFFFFFFFF))) with dma := wDma (wChan (1 + 4 % 2)), chk := { wS.chk with scrubs := [] } }
def wDmaDescriptorsAreFetched4 : State :=
  { ([3].foldl (fun (z : State) d => (z |>.setF (dcB d) F.DC_CTRL.STATE (1)|>.setF (dcB d) F.DC_DB.PI (5)|>.setF (dcB d) F.DC_POS.CI (3)|>.setF (dcB d) F.DC_POS.SEQ_NEXT (9))) ((wS.setReg (aonB + 0x14) 0xFFFFFFFF).setReg (aonB + 0x10) 0xFFFFFFFF)) with dma := wDma (wChan 0), draining := [] }
def wDmaDescriptorsAreFetched5 : State :=
  { ([3].foldl (fun (z : State) d => (z |>.setF (dcB d) F.DC_CTRL.STATE (1)|>.setF (dcB d) F.DC_DB.PI (5)|>.setF (dcB d) F.DC_POS.CI (3)|>.setF (dcB d) F.DC_POS.SEQ_NEXT (9))) ((wS.setReg (aonB + 0x14) 0xFFFFFFFF).setReg (aonB + 0x10) 0xFFFFFFFF)) with dma := wDma (wChan 0), draining := [0x20, 0x21] }
def wDmaDescriptorsAreFetched6 : State :=
  { ([3].foldl (fun (z : State) d => (z |>.setF (dcB d) F.DC_CTRL.STATE (1)|>.setF (dcB d) F.DC_DB.PI (5)|>.setF (dcB d) F.DC_POS.CI (3)|>.setF (dcB d) F.DC_POS.SEQ_NEXT (9))) wS) with dma := wDma ({ wChan 2 with rereads := 4 % 4 }) }
def wDmaDescriptorsAreFetched7 : State :=
  { ([3].foldl (fun (z : State) d => (z |>.setF (dcB d) F.DC_CTRL.STATE (1)|>.setF (dcB d) F.DC_DB.PI (5)|>.setF (dcB d) F.DC_POS.CI (3)|>.setF (dcB d) F.DC_POS.SEQ_NEXT (9)|>.setF (dcB d) F.DC_IRQ_EN.EN (0))) wS) with dma := wDma ({ wChan 2 with rereads := 4 }) }
def wDmaDescriptorsAreFetched8 : State :=
  ({ ([3].foldl (fun (z : State) d => (z |>.setF (dcB d) F.DC_CTRL.STATE (2))) wS) with dma := wDma (wChan 2) } : State) |> fun (z : State) => [3].foldl (fun (z : State) d => z.startTimer (Tm.stale d) 5) z
def wDmaDescriptorsAreFetched9 : State :=
  ({ ([3].foldl (fun (z : State) d => (z |>.setF (dcB d) F.DC_CTRL.STATE (1)|>.setF (dcB d) F.DC_DB.PI (5)|>.setF (dcB d) F.DC_POS.CI (3)|>.setF (dcB d) F.DC_POS.SEQ_NEXT (9))) wS) with dma := wDma (wChan (1 + 4 % 2)) } : State) |> fun (z : State) => [3].foldl (fun (z : State) d => z.startTimer (Tm.stale d) 5) z
def wDmaDescriptorsAreFetched10 : State :=
  ({ ([3].foldl (fun (z : State) d => (z |>.setF (dcB d) F.DC_CTRL.STATE (1)|>.setF (dcB d) F.DC_DB.PI (5)|>.setF (dcB d) F.DC_POS.CI (3)|>.setF (dcB d) F.DC_POS.SEQ_NEXT (9))) ((List.range 4).foldl (fun (z : State) u => z.setF (chkB u) F.CHK_CTRL.BUSY 1) wS)) with dma := wDma (wChan (4 % 3)) } : State) |> fun (z : State) => [3].foldl (fun (z : State) d => z.startTimer (Tm.stale d) 5) z
def wDmaDescriptorsAreFetched11 : State :=
  ({ ([3].foldl (fun (z : State) d => (z |>.setF (dcB d) F.DC_CTRL.STATE (1)|>.setF (dcB d) F.DC_DB.PI (5)|>.setF (dcB d) F.DC_POS.CI (3)|>.setF (dcB d) F.DC_POS.SEQ_NEXT (9))) ((List.range 4).foldl (fun (z : State) u => z.setF (chkB u) F.CHK_CTRL.BUSY 0) (wS.setReg (aonB + 0x14) 0xFFFFFFFF))) with dma := wDma (wChan (1 + 4 % 2)), chk := { wS.chk with scrubs := [] } } : State) |> fun (z : State) => [3].foldl (fun (z : State) d => z.startTimer (Tm.stale d) 5) z
def wDmaDescriptorsAreFetched12 : State :=
  ({ ([3].foldl (fun (z : State) d => (z |>.setF (dcB d) F.DC_CTRL.STATE (1)|>.setF (dcB d) F.DC_DB.PI (5)|>.setF (dcB d) F.DC_POS.CI (3)|>.setF (dcB d) F.DC_POS.SEQ_NEXT (9))) ((wS.setReg (aonB + 0x14) 0xFFFFFFFF).setReg (aonB + 0x10) 0xFFFFFFFF)) with dma := wDma (wChan 0), draining := [] } : State) |> fun (z : State) => [3].foldl (fun (z : State) d => z.startTimer (Tm.stale d) 5) z
def wDmaDescriptorsAreFetched13 : State :=
  ({ ([3].foldl (fun (z : State) d => (z |>.setF (dcB d) F.DC_CTRL.STATE (1)|>.setF (dcB d) F.DC_DB.PI (5)|>.setF (dcB d) F.DC_POS.CI (3)|>.setF (dcB d) F.DC_POS.SEQ_NEXT (9))) ((wS.setReg (aonB + 0x14) 0xFFFFFFFF).setReg (aonB + 0x10) 0xFFFFFFFF)) with dma := wDma (wChan 0), draining := [0x20, 0x21] } : State) |> fun (z : State) => [3].foldl (fun (z : State) d => z.startTimer (Tm.stale d) 5) z
def wDmaDescriptorsAreFetched14 : State :=
  ({ ([3].foldl (fun (z : State) d => (z |>.setF (dcB d) F.DC_CTRL.STATE (1)|>.setF (dcB d) F.DC_DB.PI (5)|>.setF (dcB d) F.DC_POS.CI (3)|>.setF (dcB d) F.DC_POS.SEQ_NEXT (9))) wS) with dma := wDma ({ wChan 2 with rereads := 4 % 4 }) } : State) |> fun (z : State) => [3].foldl (fun (z : State) d => z.startTimer (Tm.stale d) 5) z
def wDmaDescriptorsAreFetched15 : State :=
  ({ ([3].foldl (fun (z : State) d => (z |>.setF (dcB d) F.DC_CTRL.STATE (1)|>.setF (dcB d) F.DC_DB.PI (5)|>.setF (dcB d) F.DC_POS.CI (3)|>.setF (dcB d) F.DC_POS.SEQ_NEXT (9)|>.setF (dcB d) F.DC_IRQ_EN.EN (0))) wS) with dma := wDma ({ wChan 2 with rereads := 4 }) } : State) |> fun (z : State) => [3].foldl (fun (z : State) d => z.startTimer (Tm.stale d) 5) z

/-- States and operands that meet the hypotheses of each clause of Obligations.DmaDescriptorsAreFetched. -/
theorem wit_DmaDescriptorsAreFetched :
    (∃ (d : Fin 32) (desc : List Byte) (data : List Byte) (s : State), (s.dcFetches d.val = false ∨ s.timerOn (Tm.stale
      d.val) = true)) ∧
    (∃ (d : Fin 32) (desc : List Byte) (data : List Byte) (s : State), s.dcFetches d.val = true ∧ s.timerOn (Tm.stale
      d.val) = false ∧ descOwn (bytesAt desc 0 32) = true ∧ descSeq (bytesAt desc 0 32) = s.dcF d.val F.DC_POS.SEQ_NEXT
      ∧ ((s.dch d.val)).mode ≠ 0 ∧ descChk (bytesAt desc 0 32) = false) ∧
    (∃ (d : Fin 32) (desc : List Byte) (data : List Byte) (s : State), s.dcFetches d.val = true ∧ s.timerOn (Tm.stale
      d.val) = false ∧ descOwn (bytesAt desc 0 32) = true ∧ descSeq (bytesAt desc 0 32) = s.dcF d.val F.DC_POS.SEQ_NEXT
      ∧ descChk (bytesAt desc 0 32) = true ∧ (((s)).unitOpen (descUnit (bytesAt desc 0 32)) = false ∨ ((s)).live 0x3D =
      false)) ∧
    (∃ (d : Fin 32) (desc : List Byte) (data : List Byte) (s : State), s.dcFetches d.val = true ∧ s.timerOn (Tm.stale
      d.val) = false ∧ descOwn (bytesAt desc 0 32) = true ∧ descSeq (bytesAt desc 0 32) = s.dcF d.val F.DC_POS.SEQ_NEXT
      ∧ ((s.dch d.val)).mode ≠ 0 ∧ descChk (bytesAt desc 0 32) = true ∧ ((s)).unitOpen (descUnit (bytesAt desc 0 32)) =
      true ∧ ((s)).live 0x3D = true) ∧
    (∃ (d : Fin 32) (desc : List Byte) (data : List Byte) (s : State), s.dcFetches d.val = true ∧ s.timerOn (Tm.stale
      d.val) = false ∧ descOwn (bytesAt desc 0 32) = true ∧ descSeq (bytesAt desc 0 32) = s.dcF d.val F.DC_POS.SEQ_NEXT
      ∧ ((s.dch d.val)).mode = 0 ∧ descChk (bytesAt desc 0 32) = false ∧ ((s)).dcLenBad d.val 0 (bytesAt desc 0 32) =
      false ∧ ((s)).accepts (0x20 + ((if d.val < 16 then 0 else 1))) = true) ∧
    (∃ (d : Fin 32) (desc : List Byte) (data : List Byte) (s : State), s.dcFetches d.val = true ∧ s.timerOn (Tm.stale
      d.val) = false ∧ descOwn (bytesAt desc 0 32) = true ∧ descSeq (bytesAt desc 0 32) = s.dcF d.val F.DC_POS.SEQ_NEXT
      ∧ ((s.dch d.val)).mode = 0 ∧ descChk (bytesAt desc 0 32) = false ∧ ((s)).dcLenBad d.val 0 (bytesAt desc 0 32) =
      false ∧ ((s)).accepts (0x20 + ((if d.val < 16 then 0 else 1))) = false) ∧
    (∃ (d : Fin 32) (desc : List Byte) (data : List Byte) (s : State), s.dcFetches d.val = true ∧ s.timerOn (Tm.stale
      d.val) = false ∧ (descOwn (bytesAt desc 0 32) = false ∨ descSeq (bytesAt desc 0 32) ≠ s.dcF d.val
      F.DC_POS.SEQ_NEXT) ∧ ((s.dch d.val)).rereads < 4) ∧
    (∃ (d : Fin 32) (desc : List Byte) (data : List Byte) (s : State), s.dcFetches d.val = true ∧ s.timerOn (Tm.stale
      d.val) = false ∧ (descOwn (bytesAt desc 0 32) = false ∨ descSeq (bytesAt desc 0 32) ≠ s.dcF d.val
      F.DC_POS.SEQ_NEXT) ∧ 4 ≤ ((s.dch d.val)).rereads ∧ (s.dcSteward d.val = true ∨ s.dcF d.val F.DC_IRQ_EN.EN = 0)) ∧
    (∃ (d : Fin 32) (desc : List Byte) (data : List Byte) (s : State), s.timerOn (Tm.stale d.val) = true ∧ ((s.atEnd
      (Tm.stale d.val))).dcFetches d.val = false) ∧
    (∃ (d : Fin 32) (desc : List Byte) (data : List Byte) (s : State), s.timerOn (Tm.stale d.val) = true ∧ ((s.atEnd
      (Tm.stale d.val))).dcFetches d.val = true ∧ descOwn (bytesAt desc 0 32) = true ∧ descSeq (bytesAt desc 0 32) =
      s.dcF d.val F.DC_POS.SEQ_NEXT ∧ ((s.dch d.val)).mode ≠ 0 ∧ descChk (bytesAt desc 0 32) = false) ∧
    (∃ (d : Fin 32) (desc : List Byte) (data : List Byte) (s : State), s.timerOn (Tm.stale d.val) = true ∧ ((s.atEnd
      (Tm.stale d.val))).dcFetches d.val = true ∧ descOwn (bytesAt desc 0 32) = true ∧ descSeq (bytesAt desc 0 32) =
      s.dcF d.val F.DC_POS.SEQ_NEXT ∧ descChk (bytesAt desc 0 32) = true ∧ (((s.atEnd (Tm.stale d.val))).unitOpen
      (descUnit (bytesAt desc 0 32)) = false ∨ ((s.atEnd (Tm.stale d.val))).live 0x3D = false)) ∧
    (∃ (d : Fin 32) (desc : List Byte) (data : List Byte) (s : State), s.timerOn (Tm.stale d.val) = true ∧ ((s.atEnd
      (Tm.stale d.val))).dcFetches d.val = true ∧ descOwn (bytesAt desc 0 32) = true ∧ descSeq (bytesAt desc 0 32) =
      s.dcF d.val F.DC_POS.SEQ_NEXT ∧ ((s.dch d.val)).mode ≠ 0 ∧ descChk (bytesAt desc 0 32) = true ∧ ((s.atEnd
      (Tm.stale d.val))).unitOpen (descUnit (bytesAt desc 0 32)) = true ∧ ((s.atEnd (Tm.stale d.val))).live 0x3D = true) ∧
    (∃ (d : Fin 32) (desc : List Byte) (data : List Byte) (s : State), s.timerOn (Tm.stale d.val) = true ∧ ((s.atEnd
      (Tm.stale d.val))).dcFetches d.val = true ∧ descOwn (bytesAt desc 0 32) = true ∧ descSeq (bytesAt desc 0 32) =
      s.dcF d.val F.DC_POS.SEQ_NEXT ∧ ((s.dch d.val)).mode = 0 ∧ descChk (bytesAt desc 0 32) = false ∧ ((s.atEnd
      (Tm.stale d.val))).dcLenBad d.val 0 (bytesAt desc 0 32) = false ∧ ((s.atEnd (Tm.stale d.val))).accepts (0x20 +
      ((if d.val < 16 then 0 else 1))) = true) ∧
    (∃ (d : Fin 32) (desc : List Byte) (data : List Byte) (s : State), s.timerOn (Tm.stale d.val) = true ∧ ((s.atEnd
      (Tm.stale d.val))).dcFetches d.val = true ∧ descOwn (bytesAt desc 0 32) = true ∧ descSeq (bytesAt desc 0 32) =
      s.dcF d.val F.DC_POS.SEQ_NEXT ∧ ((s.dch d.val)).mode = 0 ∧ descChk (bytesAt desc 0 32) = false ∧ ((s.atEnd
      (Tm.stale d.val))).dcLenBad d.val 0 (bytesAt desc 0 32) = false ∧ ((s.atEnd (Tm.stale d.val))).accepts (0x20 +
      ((if d.val < 16 then 0 else 1))) = false) ∧
    (∃ (d : Fin 32) (desc : List Byte) (data : List Byte) (s : State), s.timerOn (Tm.stale d.val) = true ∧ ((s.atEnd
      (Tm.stale d.val))).dcFetches d.val = true ∧ (descOwn (bytesAt desc 0 32) = false ∨ descSeq (bytesAt desc 0 32) ≠
      s.dcF d.val F.DC_POS.SEQ_NEXT) ∧ ((s.dch d.val)).rereads < 4) ∧
    (∃ (d : Fin 32) (desc : List Byte) (data : List Byte) (s : State), s.timerOn (Tm.stale d.val) = true ∧ ((s.atEnd
      (Tm.stale d.val))).dcFetches d.val = true ∧ (descOwn (bytesAt desc 0 32) = false ∨ descSeq (bytesAt desc 0 32) ≠
      s.dcF d.val F.DC_POS.SEQ_NEXT) ∧ 4 ≤ ((s.dch d.val)).rereads ∧ (s.dcSteward d.val = true ∨ s.dcF d.val
      F.DC_IRQ_EN.EN = 0)) :=
  ⟨⟨3, ((wDesc 0x500 0x900 40 (2 ^ 31 + 9 * 65536)) : List Byte), ((List.replicate 40 7) : List Byte),
     wDmaDescriptorsAreFetched0, by decide +kernel⟩,
   ⟨3, ((wDesc 0x500 0x900 40 (2 ^ 31 + 9 * 65536)) : List Byte), ((List.replicate 40 7) : List Byte),
     wDmaDescriptorsAreFetched1, by decide +kernel⟩,
   ⟨3, ((wDesc 0x500 0x900 40 (2 ^ 31 + 9 * 65536 + 32768)) : List Byte), ((List.replicate 40 7) : List Byte),
     wDmaDescriptorsAreFetched2, by decide +kernel⟩,
   ⟨3, ((wDesc 0x500 0x900 40 (2 ^ 31 + 9 * 65536 + 32768)) : List Byte), ((List.replicate 40 7) : List Byte),
     wDmaDescriptorsAreFetched3, by decide +kernel⟩,
   ⟨3, ((wDesc 0x500 0x900 40 (2 ^ 31 + 9 * 65536 + 2 ^ 26)) : List Byte), ((List.replicate 40 7) : List Byte),
     wDmaDescriptorsAreFetched4, by decide +kernel⟩,
   ⟨3, ((wDesc 0x500 0x900 40 (2 ^ 31 + 9 * 65536)) : List Byte), ((List.replicate 40 7) : List Byte),
     wDmaDescriptorsAreFetched5, by decide +kernel⟩,
   ⟨3, ((wDesc 0x500 0x900 40 (2 ^ 31 + 8 * 65536)) : List Byte), [], wDmaDescriptorsAreFetched6, by decide +kernel⟩,
   ⟨3, ((wDesc 0x500 0x900 40 (2 ^ 31 + 8 * 65536)) : List Byte), [], wDmaDescriptorsAreFetched7, by decide +kernel⟩,
   ⟨3, ((wDesc 0x500 0x900 40 (2 ^ 31 + 9 * 65536)) : List Byte), ((List.replicate 40 7) : List Byte),
     wDmaDescriptorsAreFetched8, by decide +kernel⟩,
   ⟨3, ((wDesc 0x500 0x900 40 (2 ^ 31 + 9 * 65536)) : List Byte), ((List.replicate 40 7) : List Byte),
     wDmaDescriptorsAreFetched9, by decide +kernel⟩,
   ⟨3, ((wDesc 0x500 0x900 40 (2 ^ 31 + 9 * 65536 + 32768)) : List Byte), ((List.replicate 40 7) : List Byte),
     wDmaDescriptorsAreFetched10, by decide +kernel⟩,
   ⟨3, ((wDesc 0x500 0x900 40 (2 ^ 31 + 9 * 65536 + 32768)) : List Byte), ((List.replicate 40 7) : List Byte),
     wDmaDescriptorsAreFetched11, by decide +kernel⟩,
   ⟨3, ((wDesc 0x500 0x900 40 (2 ^ 31 + 9 * 65536 + 2 ^ 26)) : List Byte), ((List.replicate 40 7) : List Byte),
     wDmaDescriptorsAreFetched12, by decide +kernel⟩,
   ⟨3, ((wDesc 0x500 0x900 40 (2 ^ 31 + 9 * 65536)) : List Byte), ((List.replicate 40 7) : List Byte),
     wDmaDescriptorsAreFetched13, by decide +kernel⟩,
   ⟨3, ((wDesc 0x500 0x900 40 (2 ^ 31 + 8 * 65536)) : List Byte), [], wDmaDescriptorsAreFetched14, by decide +kernel⟩,
   ⟨3, ((wDesc 0x500 0x900 40 (2 ^ 31 + 8 * 65536)) : List Byte), [], wDmaDescriptorsAreFetched15, by decide +kernel⟩⟩

def wDmaDescriptorsEnd0 : State :=
  { ([3].foldl (fun (z : State) d => (z |>.setF (dcB d) F.DC_CTRL.STATE (2))) wS) with dma := wDma (wChan 2) }
def wDmaDescriptorsEnd1 : State :=
  { ([3].foldl (fun (z : State) d => (z |>.setF (dcB d) F.DC_CTRL.STATE (1)|>.setF (dcB d) F.DC_CTRL.PENDING (0)|>.setF (dcB d) F.DC_IRQ_EN.EN (0))) (((wS.setReg (aonB + 0x14) 0xFFFFFFFF).setReg (aonB + 0x10) 0xFFFFFFFF) |>.setF hstB F.HST_STATUS.PATH_DOWN 0 |>.setF hstB F.HST_CFG.HOSTLESS 0)) with dma := wDma ({ wBusyChan (4 % 3) (wDesc 0x500 0x900 (20 + 4 % 50) (2 ^ 30 * (4 % 2) + 2 ^ 29 * (4 / 2 % 2) + 0)) with code := 5 }) }
def wDmaDescriptorsEnd1_e : List Byte :=
  (fun (s : State) (d : Fin 32) => ((s.dch d.val).desc).getD []) wDmaDescriptorsEnd1 3
def wDmaDescriptorsEnd2 : State :=
  { ([3].foldl (fun (z : State) d => (z |>.setF (dcB d) F.DC_CTRL.STATE (1)|>.setF (dcB d) F.DC_CTRL.PENDING (0)|>.setF (dcB d) F.DC_IRQ_EN.EN (0))) (((wS.setReg (aonB + 0x14) 0xFFFFFFFF).setReg (aonB + 0x10) 0xFFFFFFFF) |>.setF hstB F.HST_STATUS.PATH_DOWN 0 |>.setF hstB F.HST_CFG.HOSTLESS 0)) with dma := wDma ({ wBusyChan (4 % 3) (wDesc 0x500 0x900 (20 + 4 % 50) (2 ^ 30 * (4 % 2) + 2 ^ 29 * (4 / 2 % 2) + 0)) with code := 6 }) }
def wDmaDescriptorsEnd2_e : List Byte :=
  (fun (s : State) (d : Fin 32) => ((s.dch d.val).desc).getD []) wDmaDescriptorsEnd2 3
def wDmaDescriptorsEnd3 : State :=
  { ([3].foldl (fun (z : State) d => (z |>.setF (dcB d) F.DC_CTRL.STATE (1)|>.setF (dcB d) F.DC_CTRL.PENDING (0)|>.setF (dcB d) F.DC_IRQ_EN.EN (0))) (((wS.setReg (aonB + 0x14) 0xFFFFFFFF).setReg (aonB + 0x10) 0xFFFFFFFF) |>.setF hstB F.HST_STATUS.PATH_DOWN 0 |>.setF hstB F.HST_CFG.HOSTLESS 0)) with dma := wDma ({ wBusyChan 2 (wDesc 0x500 0x900 (20 + 4 % 50) (2 ^ 30 * (4 % 2) + 2 ^ 29 * (4 / 2 % 2) + 0)) with unit := decide (4 / 8 % 2 = 1) }) }
def wDmaDescriptorsEnd3_e : List Byte :=
  (fun (s : State) (d : Fin 32) => ((s.dch d.val).desc).getD []) wDmaDescriptorsEnd3 3
def wDmaDescriptorsEnd4 : State :=
  { ([3].foldl (fun (z : State) d => (z |>.setF (dcB d) F.DC_CTRL.STATE (1) |>.setF (dcB d) F.DC_CTRL.STEWARD (1)|>.setF (dcB d) F.DC_CTRL.PENDING (0)|>.setF (dcB d) F.DC_IRQ_EN.EN (0))) (((wS.setReg (aonB + 0x14) 0xFFFFFFFF).setReg (aonB + 0x10) 0xFFFFFFFF) |>.setF hstB F.HST_STATUS.PATH_DOWN 0 |>.setF hstB F.HST_CFG.HOSTLESS 0)) with dma := wDma ({ wBusyChan 2 (wDesc 0x500 (2 ^ 63 + 0x900) 60 32768) with unit := true }) }
def wDmaDescriptorsEnd4_e : List Byte :=
  (fun (s : State) (d : Fin 32) => ((s.dch d.val).desc).getD []) wDmaDescriptorsEnd4 3
def wDmaDescriptorsEnd5 : State :=
  { ([3].foldl (fun (z : State) d => (z |>.setF (dcB d) F.DC_CTRL.STATE (1)|>.setF (dcB d) F.DC_CTRL.PENDING (0)|>.setF (dcB d) F.DC_IRQ_EN.EN (0))) (((wS.setReg (aonB + 0x14) 0xFFFFFFFF).setReg (aonB + 0x10) 0xFFFFFFFF) |>.setF hstB F.HST_STATUS.PATH_DOWN 0 |>.setF hstB F.HST_CFG.HOSTLESS 0)) with dma := wDma ({ wBusyChan 1 (wDesc 0x500 0x900 (50 + 4 % 50) (2 ^ 30 * (4 % 2) + 2 ^ 29 * (4 / 2 % 2) + 2 ^ 27 * (4 / 4 % 2))) with pkt := some { wPkt with uid := 2432 + 4 % 9 } }) }
def wDmaDescriptorsEnd5_e : List Byte :=
  (fun (s : State) (d : Fin 32) => ((s.dch d.val).desc).getD []) wDmaDescriptorsEnd5 3
def wDmaDescriptorsEnd5_pk : Packet :=
  (fun (s : State) (d : Fin 32) => ((s.dch d.val).pkt).getD wPkt) wDmaDescriptorsEnd5 3
def wDmaDescriptorsEnd6 : State :=
  { ([3].foldl (fun (z : State) d => (z |>.setF (dcB d) F.DC_CTRL.STATE (1)|>.setF (dcB d) F.DC_CTRL.PENDING (0)|>.setF (dcB d) F.DC_IRQ_EN.EN (0))) (((wS.setReg (aonB + 0x14) 0xFFFFFFFF).setReg (aonB + 0x10) 0xFFFFFFFF) |>.setF hstB F.HST_STATUS.PATH_DOWN 0 |>.setF hstB F.HST_CFG.HOSTLESS 0)) with dma := wDma ({ wBusyChan 0 (wDesc 0x500 0x900 (20 + 4 % 50) (2 ^ 30 * (4 % 2) + 2 ^ 29 * (4 / 2 % 2) + 0)) with unit := decide (4 / 8 % 2 = 1) }) }
def wDmaDescriptorsEnd6_e : List Byte :=
  (fun (s : State) (d : Fin 32) => ((s.dch d.val).desc).getD []) wDmaDescriptorsEnd6 3
def wDmaDescriptorsEnd7 : State :=
  { ([3].foldl (fun (z : State) d => (z |>.setF (dcB d) F.DC_CTRL.STATE (1)|>.setF (dcB d) F.DC_CTRL.PENDING (0)|>.setF (dcB d) F.DC_IRQ_EN.EN (0))) (((wS.setReg (aonB + 0x14) 0xFFFFFFFF).setReg (aonB + 0x10) 0xFFFFFFFF) |>.setF hstB F.HST_STATUS.PATH_DOWN 0 |>.setF hstB F.HST_CFG.HOSTLESS 0)) with dma := wDma ({ wBusyChan 0 (wDesc 0x500 0x900 (20 + 4 % 50) (2 ^ 30 * (4 % 2) + 2 ^ 29 * (4 / 2 % 2) + 0)) with unit := decide (4 / 8 % 2 = 1) }), pipes := ⟨{ wS.pipes.a with host := ((List.range 32).map fun d => (d, [wPkt])) }, { wS.pipes.b with host := ((List.range 32).map fun d => (d, [wPkt])) }⟩ }
def wDmaDescriptorsEnd7_e : List Byte :=
  (fun (s : State) (d : Fin 32) => ((s.dch d.val).desc).getD []) wDmaDescriptorsEnd7 3
def wDmaDescriptorsEnd8 : State :=
  { ([3].foldl (fun (z : State) d => (z |>.setF (dcB d) F.DC_CTRL.STATE (2))) wS) with dma := wDma (wChan 2) }
def wDmaDescriptorsEnd9 : State :=
  { ([3].foldl (fun (z : State) d => (z |>.setF (dcB d) F.DC_CTRL.STATE (1)|>.setF (dcB d) F.DC_DB.PI (5)|>.setF (dcB d) F.DC_POS.CI (3)|>.setF (dcB d) F.DC_IRQ_EN.EN (0))) (((wS.setReg (aonB + 0x14) 0xFFFFFFFF).setReg (aonB + 0x10) 0xFFFFFFFF) |>.setF hstB F.HST_STATUS.PATH_DOWN 0 |>.setF hstB F.HST_CFG.HOSTLESS 0)) with dma := wDma (wChan 2) }
def wDmaDescriptorsEnd10 : State :=
  { ([3].foldl (fun (z : State) d => (z |>.setF (dcB d) F.DC_CTRL.STATE (1)|>.setF (dcB d) F.DC_IRQ_EN.EN (0))) (((wS.setReg (aonB + 0x14) 0xFFFFFFFF).setReg (aonB + 0x10) 0xFFFFFFFF) |>.setF hstB F.HST_STATUS.PATH_DOWN 0 |>.setF hstB F.HST_CFG.HOSTLESS 0)) with dma := wDma ({ wBusyChan 2 (wDesc 0x500 0x900 (20 + 4 % 50) (2 ^ 30 * (4 % 2) + 2 ^ 29 * (4 / 2 % 2) + 0)) with unit := decide (4 / 8 % 2 = 1) }) }
def wDmaDescriptorsEnd10_e : List Byte :=
  (fun (s : State) (d : Fin 32) => ((s.dch d.val).desc).getD []) wDmaDescriptorsEnd10 3
def wDmaDescriptorsEnd11 : State :=
  { ([3].foldl (fun (z : State) d => (z |>.setF (dcB d) F.DC_CTRL.STATE (1)|>.setF (dcB d) F.DC_IRQ_EN.EN (0))) (((wS.setReg (aonB + 0x14) 0xFFFFFFFF).setReg (aonB + 0x10) 0xFFFFFFFF) |>.setF hstB F.HST_STATUS.PATH_DOWN 0 |>.setF hstB F.HST_CFG.HOSTLESS 0)) with dma := wDma ({ wBusyChan 2 (wDesc 0x500 0x900 (20 + 4 % 50) (2 ^ 30 * (4 % 2) + 2 ^ 29 * (4 / 2 % 2) + 0)) with unit := decide (4 / 8 % 2 = 1) }) }
def wDmaDescriptorsEnd11_e : List Byte :=
  (fun (s : State) (d : Fin 32) => ((s.dch d.val).desc).getD []) wDmaDescriptorsEnd11 3

/-- States and operands that meet the hypotheses of each clause of Obligations.DmaDescriptorsEnd. -/
theorem wit_DmaDescriptorsEnd :
    (∃ (d : Fin 32) (s : State), (s.live 0x3B = false ∨ s.dcState d.val ≠ 1 ∨ ((s.dch d.val)).desc = none ∨ ((s.dch
      d.val)).waits = true)) ∧
    (∃ (d : Fin 32) (e : List Byte) (s : State), s.live 0x3B = true ∧ s.dcState d.val = 1 ∧ (s.bit (dcB d.val)
      F.DC_CTRL.PENDING) = false ∧ ((s.dch d.val)).desc = some e ∧ (((List.range 32).all fun q => !(s.dch q).waits) =
      true) ∧ (s.dcSteward d.val = true ∨ s.dcF d.val F.DC_IRQ_EN.EN = 0) ∧ ((s.dch d.val)).code = 5) ∧
    (∃ (d : Fin 32) (e : List Byte) (s : State), s.live 0x3B = true ∧ s.dcState d.val = 1 ∧ (s.bit (dcB d.val)
      F.DC_CTRL.PENDING) = false ∧ ((s.dch d.val)).desc = some e ∧ (((List.range 32).all fun q => !(s.dch q).waits) =
      true) ∧ (s.dcSteward d.val = true ∨ s.dcF d.val F.DC_IRQ_EN.EN = 0) ∧ ((s.dch d.val)).code = 6) ∧
    (∃ (d : Fin 32) (e : List Byte) (s : State), s.live 0x3B = true ∧ s.dcState d.val = 1 ∧ (s.bit (dcB d.val)
      F.DC_CTRL.PENDING) = false ∧ ((s.dch d.val)).desc = some e ∧ (((List.range 32).all fun q => !(s.dch q).waits) =
      true) ∧ (s.dcSteward d.val = true ∨ s.dcF d.val F.DC_IRQ_EN.EN = 0) ∧ ((s.dch d.val)).code ≠ 5 ∧ ((s.dch
      d.val)).code ≠ 6 ∧ s.dcCutOff d.val e = false ∧ ((s.dch d.val)).mode = 2 ∧ descChk e = false) ∧
    (∃ (d : Fin 32) (e : List Byte) (s : State), s.live 0x3B = true ∧ s.dcState d.val = 1 ∧ (s.bit (dcB d.val)
      F.DC_CTRL.PENDING) = false ∧ ((s.dch d.val)).desc = some e ∧ (((List.range 32).all fun q => !(s.dch q).waits) =
      true) ∧ (s.dcSteward d.val = true ∨ s.dcF d.val F.DC_IRQ_EN.EN = 0) ∧ ((s.dch d.val)).code ≠ 5 ∧ ((s.dch
      d.val)).code ≠ 6 ∧ s.dcCutOff d.val e = false ∧ ((s.dch d.val)).mode = 2 ∧ s.dcAppends d.val e = true) ∧
    (∃ (d : Fin 32) (e : List Byte) (pk : Packet) (s : State), s.live 0x3B = true ∧ s.dcState d.val = 1 ∧ (s.bit (dcB
      d.val) F.DC_CTRL.PENDING) = false ∧ ((s.dch d.val)).desc = some e ∧ (((List.range 32).all fun q => !(s.dch
      q).waits) = true) ∧ (s.dcSteward d.val = true ∨ s.dcF d.val F.DC_IRQ_EN.EN = 0) ∧ ((s.dch d.val)).code ≠ 5 ∧
      ((s.dch d.val)).code ≠ 6 ∧ s.dcCutOff d.val e = false ∧ ((s.dch d.val)).mode = 1 ∧ ((s.dch d.val)).pkt = some pk ∧
      descChk e = false ∧ pk.uid ≤ 2495) ∧
    (∃ (d : Fin 32) (e : List Byte) (s : State), s.live 0x3B = true ∧ s.dcState d.val = 1 ∧ (s.bit (dcB d.val)
      F.DC_CTRL.PENDING) = false ∧ ((s.dch d.val)).desc = some e ∧ (((List.range 32).all fun q => !(s.dch q).waits) =
      true) ∧ (s.dcSteward d.val = true ∨ s.dcF d.val F.DC_IRQ_EN.EN = 0) ∧ ((s.dch d.val)).code ≠ 5 ∧ ((s.dch
      d.val)).code ≠ 6 ∧ s.dcCutOff d.val e = false ∧ ((s.dch d.val)).mode = 0 ∧ ((SMap.get (fun _ => [])) (s.pipe ((if
      d.val < 16 then 0 else 1))).host d.val).length = 0) ∧
    (∃ (d : Fin 32) (e : List Byte) (s : State), s.live 0x3B = true ∧ s.dcState d.val = 1 ∧ ((s.dch d.val)).desc = some
      e ∧ ((s.dch d.val)).waits = false ∧ ((s.dch d.val)).code ≠ 5 ∧ ((s.dch d.val)).code ≠ 6 ∧ s.dcCutOff d.val e =
      false ∧ ((s.dch d.val)).mode = 0 ∧ ((SMap.get (fun _ => [])) (s.pipe ((if d.val < 16 then 0 else 1))).host
      d.val).length ≠ 0) ∧
    (∃ (d : Fin 32) (phase : DmaPhase) (cause : Fin 4) (moved : BitVec 25) (s : State), (s.live 0x3B = false ∨ s.dcState
      d.val ≠ 1 ∨ (phase = .fetch ∧ (((s.dch d.val)).desc.isSome = true ∨ s.dcHeld d.val = 0)) ∨ (phase ≠ .fetch ∧
      (((s.dch d.val)).desc.isSome = false ∨ ((s.dch d.val)).waits = true)))) ∧
    (∃ (d : Fin 32) (phase : DmaPhase) (cause : Fin 4) (moved : BitVec 25) (s : State), s.live 0x3B = true ∧ s.dcState
      d.val = 1 ∧ phase = .fetch ∧ ((s.dch d.val)).desc = none ∧ s.dcHeld d.val ≠ 0 ∧ (s.dcSteward d.val = true ∨ s.dcF
      d.val F.DC_IRQ_EN.EN = 0)) ∧
    (∃ (d : Fin 32) (phase : DmaPhase) (cause : Fin 4) (moved : BitVec 25) (e : List Byte) (s : State), s.live 0x3B =
      true ∧ s.dcState d.val = 1 ∧ phase = .data ∧ ((s.dch d.val)).desc = some e ∧ (((List.range 32).all fun q => !(s.dch
      q).waits) = true) ∧ (s.dcSteward d.val = true ∨ s.dcF d.val F.DC_IRQ_EN.EN = 0)) ∧
    (∃ (d : Fin 32) (phase : DmaPhase) (cause : Fin 4) (moved : BitVec 25) (e : List Byte) (s : State), s.live 0x3B =
      true ∧ s.dcState d.val = 1 ∧ phase = .writeback ∧ ((s.dch d.val)).desc = some e ∧ (((List.range 32).all fun q => !(s.dch
      q).waits) = true) ∧ (s.dcSteward d.val = true ∨ s.dcF d.val F.DC_IRQ_EN.EN = 0)) :=
  ⟨⟨3, wDmaDescriptorsEnd0, by decide +kernel⟩,
   ⟨3, wDmaDescriptorsEnd1_e, wDmaDescriptorsEnd1, by decide +kernel⟩,
   ⟨3, wDmaDescriptorsEnd2_e, wDmaDescriptorsEnd2, by decide +kernel⟩,
   ⟨3, wDmaDescriptorsEnd3_e, wDmaDescriptorsEnd3, by decide +kernel⟩,
   ⟨3, wDmaDescriptorsEnd4_e, wDmaDescriptorsEnd4, by decide +kernel⟩,
   ⟨3, wDmaDescriptorsEnd5_e, wDmaDescriptorsEnd5_pk, wDmaDescriptorsEnd5, by decide +kernel⟩,
   ⟨3, wDmaDescriptorsEnd6_e, wDmaDescriptorsEnd6, by decide +kernel⟩,
   ⟨3, wDmaDescriptorsEnd7_e, wDmaDescriptorsEnd7, by decide +kernel⟩,
   ⟨3, .data, 2, 7, wDmaDescriptorsEnd8, by decide +kernel⟩,
   ⟨3, .fetch, 2, 7, wDmaDescriptorsEnd9, by decide +kernel⟩,
   ⟨3, .data, 2, 7, wDmaDescriptorsEnd10_e, wDmaDescriptorsEnd10, by decide +kernel⟩,
   ⟨3, .writeback, 2, 7, wDmaDescriptorsEnd11_e, wDmaDescriptorsEnd11, by decide +kernel⟩⟩

def wHostPathAndLink0 : State :=
  { ([3].foldl (fun (z : State) d => (z.setF (dcB d) F.DC_CTRL.STATE ((4 + d) % 3)).setF (dcB d) F.DC_CTRL.STEWARD (b2n (decide (28 < d)))) wS) with dma := (List.range 32).map fun d => (d, if d % 3 = 0 then wBusyChan (d % 2) (wDesc 1 2 60 0) else wChan 1) }
def wHostPathAndLink1 : State :=
  { ([3].foldl (fun (z : State) d => (z.setF (dcB d) F.DC_CTRL.STATE ((4 + d) % 3)).setF (dcB d) F.DC_CTRL.STEWARD (b2n (decide (28 < d)))) wS) |>.setF aonB F.AON_BOOT_STAT.STAGE (4 % 10) with dma := (List.range 32).map fun d => (d, if d % 3 = 0 then wBusyChan (d % 2) (wDesc 1 2 60 0) else wChan 1), evt := { wS.evt with msixEnable := true, msixPba := [(3, true)] } }
def wHostPathAndLink2 : State :=
  { ([3].foldl (fun (z : State) d => (z.setF (dcB d) F.DC_CTRL.STATE ((4 + d) % 3)).setF (dcB d) F.DC_CTRL.STEWARD (b2n (decide (28 < d)))) wS) |>.setF aonB F.AON_BOOT_STAT.STAGE 0xA |>.setReg (hstB + 0x104) 7 |>.setReg (evtB + 0x24) 9 |>.setReg (dcB 3 + 0x20) 4 with dma := (List.range 32).map fun d => (d, if d % 3 = 0 then wBusyChan (d % 2) (wDesc 1 2 60 0) else wChan 1), evt := { wS.evt with msixEnable := true, ringSeq := [(1, 7)] } }
def wHostPathAndLink3 : State :=
  wS |>.setF hstB F.HST_STATUS.LINK_UP 1 |>.setF hstB F.HST_STATUS.PATH_DOWN (4 % 2)
def wHostPathAndLink4 : State :=
  wS |>.setF hstB F.HST_STATUS.LINK_UP 0
def wHostPathAndLink5 : State :=
  wS.setReg (aonB + 0x14) 0
def wHostPathAndLink6 : State :=
  wS.setReg (aonB + 0x14) 0xFFFFFFFF
def wHostPathAndLink7 : State :=
  { (([3].foldl (fun (z : State) d => (z.setF (dcB d) F.DC_CTRL.STATE ((4 + d) % 3)).setF (dcB d) F.DC_CTRL.STEWARD (b2n (decide (28 < d)))) wS)) |>.setReg (aonB + 0x14) 0xFFFFFFFF with dma := (List.range 32).map fun d => (d, if d % 3 = 0 then wBusyChan (d % 2) (wDesc 1 2 60 0) else wChan 1) }
def wHostPathAndLink8 : State :=
  wS.setReg (aonB + 0x14) 0xFFFFFFFF
def wHostPathAndLink9 : State :=
  { ([3].foldl (fun (z : State) d => (z.setF (dcB d) F.DC_CTRL.STATE ((4 + d) % 3)).setF (dcB d) F.DC_CTRL.STEWARD (b2n (decide (28 < d)))) wS) |>.setF aonB F.AON_BOOT_STAT.STAGE (4 % 10) |>.setReg (hstB + 4) 7 |>.setF hstB F.HST_CFG.HOSTLESS 1 |>.setF aonB F.AON_SEAL.SEALED 0 with dma := (List.range 32).map fun d => (d, if d % 3 = 0 then wBusyChan (d % 2) (wDesc 1 2 60 0) else wChan 1) }
def wHostPathAndLink10 : State :=
  { ([3].foldl (fun (z : State) d => (z.setF (dcB d) F.DC_CTRL.STATE ((4 + d) % 3)).setF (dcB d) F.DC_CTRL.STEWARD (b2n (decide (28 < d)))) wS) |>.setF aonB F.AON_BOOT_STAT.STAGE (4 % 10) |>.setReg (hstB + 4) 7 |>.setF hstB F.HST_CFG.HOSTLESS 1 |>.setF aonB F.AON_SEAL.SEALED 1 with dma := (List.range 32).map fun d => (d, if d % 3 = 0 then wBusyChan (d % 2) (wDesc 1 2 60 0) else wChan 1) }
def wHostPathAndLink11 : State :=
  { ([3].foldl (fun (z : State) d => (z.setF (dcB d) F.DC_CTRL.STATE ((4 + d) % 3)).setF (dcB d) F.DC_CTRL.STEWARD (b2n (decide (28 < d)))) wS) |>.setF aonB F.AON_BOOT_STAT.STAGE 0xA |>.setReg (hstB + 4) 7 |>.setF hstB F.HST_CFG.HOSTLESS 1 |>.setReg (evtB + 0x24) 9 |>.setF aonB F.AON_SEAL.SEALED 1 with dma := (List.range 32).map fun d => (d, if d % 3 = 0 then wBusyChan (d % 2) (wDesc 1 2 60 0) else wChan 1), evt := { wS.evt with ringSeq := [(1, 7)] } }

/-- States and operands that meet the hypotheses of each clause of Obligations.HostPathAndLink. -/
theorem wit_HostPathAndLink :
    (∃ (why : PathDown) (s : State), why ≠ .flr ∧ ((List.range 32).all (fun q => !(s.dch q).waits && !(s.dch q).unit) =
      true)) ∧
    (∃ (why : PathDown) (s : State), why = .flr ∧ s.stage ≠ 0xA ∧ ((List.range 32).all (fun q => !(s.dch q).waits &&
      !(s.dch q).unit) = true)) ∧
    (∃ (why : PathDown) (s : State), why = .flr ∧ s.stage = 0xA ∧ ((List.range 32).all (fun q => !(s.dch q).waits &&
      !(s.dch q).unit) = true)) ∧
    (∃ (s : State), s.bit hstB F.HST_STATUS.LINK_UP = true) ∧
    (∃ (s : State), s.bit hstB F.HST_STATUS.LINK_UP = false) ∧
    (∃ (now : LinkNow) (gen : Fin 4) (width : Fin 3) (s : State), s.live 0x3A = false) ∧
    (∃ (gen : Fin 4) (width : Fin 3) (s : State), s.live 0x3A = true) ∧
    (∃ (gen : Fin 4) (width : Fin 3) (s : State), s.live 0x3A = true ∧ ((List.range 32).all (fun q => !(s.dch q).waits
      && !(s.dch q).unit) = true)) ∧
    (∃ (un : Word) (co : Word) (gen : Fin 4) (width : Fin 3) (s : State), s.live 0x3A = true) ∧
    (∃ (hot : Bool) (s : State), s.sealed = false ∧ s.stage ≠ 0xA ∧ ((List.range 32).all (fun q => !(s.dch q).waits &&
      !(s.dch q).unit) = true)) ∧
    (∃ (hot : Bool) (s : State), s.sealed = true ∧ s.stage ≠ 0xA ∧ ((List.range 32).all (fun q => !(s.dch q).waits &&
      !(s.dch q).unit) = true)) ∧
    (∃ (hot : Bool) (s : State), s.sealed = true ∧ s.stage = 0xA ∧ ((List.range 32).all (fun q => !(s.dch q).waits &&
      !(s.dch q).unit) = true)) :=
  ⟨⟨.d3hot, wHostPathAndLink0, by decide +kernel⟩,
   ⟨.flr, wHostPathAndLink1, by decide +kernel⟩,
   ⟨.flr, wHostPathAndLink2, by decide +kernel⟩,
   ⟨wHostPathAndLink3, by decide +kernel⟩,
   ⟨wHostPathAndLink4, by decide +kernel⟩,
   ⟨.down, 1, 1, wHostPathAndLink5, by decide +kernel⟩,
   ⟨3, 2, wHostPathAndLink6, by decide +kernel⟩,
   ⟨2, 1, wHostPathAndLink7, by decide +kernel⟩,
   ⟨0x4000, 1, 0, 0, wHostPathAndLink8, by decide +kernel⟩,
   ⟨true, wHostPathAndLink9, by decide +kernel⟩,
   ⟨true, wHostPathAndLink10, by decide +kernel⟩,
   ⟨true, wHostPathAndLink11, by decide +kernel⟩⟩

def wAcceptedEventsReachTheirSinks0 : State :=
  { wS.setReg (aonB + 0x14) 0 with evt := { wS.evt with queue := [] } }
def wAcceptedEventsReachTheirSinks1 : State :=
  { wS.setReg (aonB + 0x14) 0xFFFFFFFF |>.setReg (evtB + 0x1000 + 4 * 5) 0 with evt := { wS.evt with queue := [wEvt, wEvt] } }
def wAcceptedEventsReachTheirSinks1_e : RaisedEvt :=
  (fun (s : State) => s.evt.queue.headD wEvt) wAcceptedEventsReachTheirSinks1
def wAcceptedEventsReachTheirSinks1_rest : List RaisedEvt :=
  (fun (s : State) => s.evt.queue.tail) wAcceptedEventsReachTheirSinks1
def wAcceptedEventsReachTheirSinks2 : State :=
  { wS.setReg (aonB + 0x14) 0xFFFFFFFF |>.setReg (evtB + 0x1000 + 4 * 5) 0 |>.setF evtB (F.EVT_SRC_CFG.HOST_EN.at 20) 1 |>.setF evtB (F.EVT_SRC_CFG.RING.at 20) 2 |>.setF evtB (F.EVT_RING_CFG.EN.at 0x40) 1 |>.setF hstB F.HST_STATUS.PATH_DOWN 0 |>.setF hstB F.HST_CFG.HOSTLESS 0 |>.setF evtB (F.EVT_RING_PI.PI.at 0x40) (100 + 4 % 64) |>.setF evtB (F.EVT_RING_CI.CI.at 0x40) 100 |>.setF evtB (F.EVT_RING_STAT.FULL.at 0x40) (4 / 2 % 2) |>.setF hstB (F.HST_COAL.TIME.at 0) 0 with evt := { wS.evt with queue := [wEvt, wEvt], msixEnable := decide (4 % 3 = 0), msixFuncMask := true } }
def wAcceptedEventsReachTheirSinks2_e : RaisedEvt :=
  (fun (s : State) => s.evt.queue.headD wEvt) wAcceptedEventsReachTheirSinks2
def wAcceptedEventsReachTheirSinks2_rest : List RaisedEvt :=
  (fun (s : State) => s.evt.queue.tail) wAcceptedEventsReachTheirSinks2
def wAcceptedEventsReachTheirSinks3 : State :=
  { wS.setReg (aonB + 0x14) 0xFFFFFFFF |>.setReg (evtB + 0x1000 + 4 * 5) 0 |>.setF evtB (F.EVT_SRC_CFG.HOST_EN.at 20) 1 |>.setF evtB (F.EVT_SRC_CFG.RING.at 20) 2 |>.setF evtB (F.EVT_RING_CFG.EN.at 0x40) 1 |>.setF hstB F.HST_STATUS.PATH_DOWN 0 |>.setF hstB F.HST_CFG.HOSTLESS 0 |>.setF evtB (F.EVT_RING_PI.PI.at 0x40) (100 + 4 % 64) |>.setF evtB (F.EVT_RING_CI.CI.at 0x40) 100 |>.setF hstB (F.HST_COAL.TIME.at 0) 0 |>.setF evtB (F.EVT_RING_CFG.VECTOR.at 0x40) 0 with evt := { wS.evt with queue := [wEvt, wEvt], msixEnable := true, msixFuncMask := false, msixTable := [(3, 0)], msixCauses := if 4 % 3 = 0 then [(0, 4)] else [] } }
def wAcceptedEventsReachTheirSinks3_e : RaisedEvt :=
  (fun (s : State) => s.evt.queue.headD wEvt) wAcceptedEventsReachTheirSinks3
def wAcceptedEventsReachTheirSinks3_rest : List RaisedEvt :=
  (fun (s : State) => s.evt.queue.tail) wAcceptedEventsReachTheirSinks3
def wAcceptedEventsReachTheirSinks4 : State :=
  { wS.setReg (aonB + 0x14) 0xFFFFFFFF |>.setReg (evtB + 0x1000 + 4 * 5) 0 |>.setF evtB (F.EVT_SRC_CFG.HOST_EN.at 20) 1 |>.setF evtB (F.EVT_SRC_CFG.RING.at 20) 2 |>.setF evtB (F.EVT_RING_CFG.EN.at 0x40) (4 % 2) |>.setF hstB F.HST_STATUS.PATH_DOWN (4 / 2 % 2) with evt := { wS.evt with queue := [wEvt, wEvt] } }
def wAcceptedEventsReachTheirSinks4_e : RaisedEvt :=
  (fun (s : State) => s.evt.queue.headD wEvt) wAcceptedEventsReachTheirSinks4
def wAcceptedEventsReachTheirSinks4_rest : List RaisedEvt :=
  (fun (s : State) => s.evt.queue.tail) wAcceptedEventsReachTheirSinks4
def wAcceptedEventsReachTheirSinks5 : State :=
  { wS.setReg (aonB + 0x14) 0xFFFFFFFF |>.setReg (evtB + 0x1000 + 4 * 5) 0 |>.setF evtB (F.EVT_SRC_CFG.LGR_EN.at 20) 1 |>.setF evtB F.EVT_LGR_CFG.EN 1 |>.setF aonB F.AON_SAG_STAT.SAG 0 with evt := { wS.evt with queue := [wEvt, wEvt], lgrTokens := lgrUnit * (1 + 4 % 70) } }
def wAcceptedEventsReachTheirSinks5_e : RaisedEvt :=
  (fun (s : State) => s.evt.queue.headD wEvt) wAcceptedEventsReachTheirSinks5
def wAcceptedEventsReachTheirSinks5_rest : List RaisedEvt :=
  (fun (s : State) => s.evt.queue.tail) wAcceptedEventsReachTheirSinks5
def wAcceptedEventsReachTheirSinks6 : State :=
  { wS.setReg (aonB + 0x14) 0xFFFFFFFF |>.setReg (evtB + 0x1000 + 4 * 5) 0 |>.setF evtB (F.EVT_SRC_CFG.LGR_EN.at 20) 1 |>.setF evtB F.EVT_LGR_CFG.EN 1 |>.setF aonB F.AON_SAG_STAT.SAG (4 % 2) with evt := { wS.evt with queue := [wEvt, wEvt], lgrTokens := 5, lgrAt := wS.now } }
def wAcceptedEventsReachTheirSinks6_e : RaisedEvt :=
  (fun (s : State) => s.evt.queue.headD wEvt) wAcceptedEventsReachTheirSinks6
def wAcceptedEventsReachTheirSinks6_rest : List RaisedEvt :=
  (fun (s : State) => s.evt.queue.tail) wAcceptedEventsReachTheirSinks6
def wAcceptedEventsReachTheirSinks7 : State :=
  { wS.setReg (aonB + 0x14) 0xFFFFFFFF |>.setReg (evtB + 0x1000 + 4 * 5) 0 |>.setF evtB (F.EVT_SRC_CFG.OSP_EN.at 20) 1 |>.setF hstB F.HST_CFG.HOSTLESS 1 with evt := { wS.evt with queue := [wEvt, wEvt], ospQ := List.replicate (4 % 127) [1] } }
def wAcceptedEventsReachTheirSinks7_e : RaisedEvt :=
  (fun (s : State) => s.evt.queue.headD wEvt) wAcceptedEventsReachTheirSinks7
def wAcceptedEventsReachTheirSinks7_rest : List RaisedEvt :=
  (fun (s : State) => s.evt.queue.tail) wAcceptedEventsReachTheirSinks7
def wAcceptedEventsReachTheirSinks8 : State :=
  { wS.setReg (aonB + 0x14) 0xFFFFFFFF |>.setReg (evtB + 0x1000 + 4 * 5) 0 |>.setF evtB (F.EVT_SRC_CFG.OSP_EN.at 20) 1 |>.setF hstB F.HST_CFG.HOSTLESS 1 with evt := { wS.evt with queue := [wEvt, wEvt], ospQ := List.replicate 128 [1] } }
def wAcceptedEventsReachTheirSinks8_e : RaisedEvt :=
  (fun (s : State) => s.evt.queue.headD wEvt) wAcceptedEventsReachTheirSinks8
def wAcceptedEventsReachTheirSinks8_rest : List RaisedEvt :=
  (fun (s : State) => s.evt.queue.tail) wAcceptedEventsReachTheirSinks8

/-- States and operands that meet the hypotheses of each clause of Obligations.AcceptedEventsReachTheirSinks. -/
theorem wit_AcceptedEventsReachTheirSinks :
    (∃ (s : State), (s.live 0x3C = false ∨ s.evt.queue = [])) ∧
    (∃ (e : RaisedEvt) (rest : List RaisedEvt) (s : State), s.live 0x3C = true ∧ s.evt.queue = e :: rest ∧ (¬ (s.srcF
      e.src F.EVT_SRC_CFG.HOST_EN = 1)) ∧ (s.srcF e.src F.EVT_SRC_CFG.LGR_EN ≠ 1 ∨ s.bit evtB F.EVT_LGR_CFG.EN = false)
      ∧ (s.srcF e.src F.EVT_SRC_CFG.OSP_EN ≠ 1 ∨ s.bit hstB F.HST_CFG.HOSTLESS = false)) ∧
    (∃ (e : RaisedEvt) (rest : List RaisedEvt) (s : State), s.live 0x3C = true ∧ s.evt.queue = e :: rest ∧ s.srcF e.src
      F.EVT_SRC_CFG.HOST_EN = 1 ∧ (s.srcF e.src F.EVT_SRC_CFG.LGR_EN ≠ 1 ∨ s.bit evtB F.EVT_LGR_CFG.EN = false) ∧
      (s.srcF e.src F.EVT_SRC_CFG.OSP_EN ≠ 1 ∨ s.bit hstB F.HST_CFG.HOSTLESS = false) ∧ s.ringF ((s.srcF e.src
      F.EVT_SRC_CFG.RING)) F.EVT_RING_CFG.EN = 1 ∧ s.ringUsed ((s.srcF e.src F.EVT_SRC_CFG.RING)) ≠ (s.ringCap ((s.srcF
      e.src F.EVT_SRC_CFG.RING))) ∧ s.pathDown = false ∧ s.bit hstB F.HST_CFG.HOSTLESS = false ∧ (s.evt.msixEnable =
      false ∨ s.msixMasked ((s.ringF ((s.srcF e.src F.EVT_SRC_CFG.RING)) F.EVT_RING_CFG.VECTOR)) = true) ∧ s.fld hstB
      (F.HST_COAL.TIME.at (4 * ((s.ringF ((s.srcF e.src F.EVT_SRC_CFG.RING)) F.EVT_RING_CFG.VECTOR)))) = 0) ∧
    (∃ (e : RaisedEvt) (rest : List RaisedEvt) (s : State), s.live 0x3C = true ∧ s.evt.queue = e :: rest ∧ s.srcF e.src
      F.EVT_SRC_CFG.HOST_EN = 1 ∧ (s.srcF e.src F.EVT_SRC_CFG.LGR_EN ≠ 1 ∨ s.bit evtB F.EVT_LGR_CFG.EN = false) ∧
      (s.srcF e.src F.EVT_SRC_CFG.OSP_EN ≠ 1 ∨ s.bit hstB F.HST_CFG.HOSTLESS = false) ∧ s.ringF ((s.srcF e.src
      F.EVT_SRC_CFG.RING)) F.EVT_RING_CFG.EN = 1 ∧ s.ringUsed ((s.srcF e.src F.EVT_SRC_CFG.RING)) ≠ (s.ringCap ((s.srcF
      e.src F.EVT_SRC_CFG.RING))) ∧ s.pathDown = false ∧ s.bit hstB F.HST_CFG.HOSTLESS = false ∧ (decide ((((s.ringF
      ((s.srcF e.src F.EVT_SRC_CFG.RING)) F.EVT_RING_PI.PI)) + 1 + 2 ^ 32 - s.ringF ((s.srcF e.src F.EVT_SRC_CFG.RING))
      F.EVT_RING_CI.CI) % 2 ^ 32 = (s.ringCap ((s.srcF e.src F.EVT_SRC_CFG.RING))))) = false ∧ s.evt.msixEnable = true ∧
      s.msixMasked ((s.ringF ((s.srcF e.src F.EVT_SRC_CFG.RING)) F.EVT_RING_CFG.VECTOR)) = false ∧ s.fld hstB
      (F.HST_COAL.TIME.at (4 * ((s.ringF ((s.srcF e.src F.EVT_SRC_CFG.RING)) F.EVT_RING_CFG.VECTOR)))) = 0) ∧
    (∃ (e : RaisedEvt) (rest : List RaisedEvt) (s : State), s.live 0x3C = true ∧ s.evt.queue = e :: rest ∧ s.srcF e.src
      F.EVT_SRC_CFG.HOST_EN = 1 ∧ (s.srcF e.src F.EVT_SRC_CFG.LGR_EN ≠ 1 ∨ s.bit evtB F.EVT_LGR_CFG.EN = false) ∧
      (s.srcF e.src F.EVT_SRC_CFG.OSP_EN ≠ 1 ∨ s.bit hstB F.HST_CFG.HOSTLESS = false) ∧ (s.ringF ((s.srcF e.src
      F.EVT_SRC_CFG.RING)) F.EVT_RING_CFG.EN = 0 ∨ s.ringUsed ((s.srcF e.src F.EVT_SRC_CFG.RING)) = (s.ringCap ((s.srcF
      e.src F.EVT_SRC_CFG.RING))) ∨ s.pathDown = true ∨ s.bit hstB F.HST_CFG.HOSTLESS = true)) ∧
    (∃ (e : RaisedEvt) (rest : List RaisedEvt) (s : State), s.live 0x3C = true ∧ s.evt.queue = e :: rest ∧ (¬ (s.srcF
      e.src F.EVT_SRC_CFG.HOST_EN = 1)) ∧ s.srcF e.src F.EVT_SRC_CFG.LGR_EN = 1 ∧ s.bit evtB F.EVT_LGR_CFG.EN = true ∧
      (s.srcF e.src F.EVT_SRC_CFG.OSP_EN ≠ 1 ∨ s.bit hstB F.HST_CFG.HOSTLESS = false) ∧ lgrUnit ≤ (min (64 * lgrUnit)
      (s.evt.lgrTokens + (s.now - s.evt.lgrAt) * s.lgrRate)) ∧ s.sagging = false) ∧
    (∃ (e : RaisedEvt) (rest : List RaisedEvt) (s : State), s.live 0x3C = true ∧ s.evt.queue = e :: rest ∧ (¬ (s.srcF
      e.src F.EVT_SRC_CFG.HOST_EN = 1)) ∧ s.srcF e.src F.EVT_SRC_CFG.LGR_EN = 1 ∧ s.bit evtB F.EVT_LGR_CFG.EN = true ∧
      (s.srcF e.src F.EVT_SRC_CFG.OSP_EN ≠ 1 ∨ s.bit hstB F.HST_CFG.HOSTLESS = false) ∧ ((min (64 * lgrUnit)
      (s.evt.lgrTokens + (s.now - s.evt.lgrAt) * s.lgrRate)) < lgrUnit ∨ s.sagging = true)) ∧
    (∃ (e : RaisedEvt) (rest : List RaisedEvt) (s : State), s.live 0x3C = true ∧ s.evt.queue = e :: rest ∧ (¬ (s.srcF
      e.src F.EVT_SRC_CFG.HOST_EN = 1)) ∧ (s.srcF e.src F.EVT_SRC_CFG.LGR_EN ≠ 1 ∨ s.bit evtB F.EVT_LGR_CFG.EN = false)
      ∧ s.srcF e.src F.EVT_SRC_CFG.OSP_EN = 1 ∧ s.bit hstB F.HST_CFG.HOSTLESS = true ∧ s.evt.ospQ.length < 128) ∧
    (∃ (e : RaisedEvt) (rest : List RaisedEvt) (s : State), s.live 0x3C = true ∧ s.evt.queue = e :: rest ∧ (¬ (s.srcF
      e.src F.EVT_SRC_CFG.HOST_EN = 1)) ∧ (s.srcF e.src F.EVT_SRC_CFG.LGR_EN ≠ 1 ∨ s.bit evtB F.EVT_LGR_CFG.EN = false)
      ∧ s.srcF e.src F.EVT_SRC_CFG.OSP_EN = 1 ∧ s.bit hstB F.HST_CFG.HOSTLESS = true ∧ 128 ≤ s.evt.ospQ.length) :=
  ⟨⟨wAcceptedEventsReachTheirSinks0, by decide +kernel⟩,
   ⟨wAcceptedEventsReachTheirSinks1_e, wAcceptedEventsReachTheirSinks1_rest, wAcceptedEventsReachTheirSinks1,
     by decide +kernel⟩,
   ⟨wAcceptedEventsReachTheirSinks2_e, wAcceptedEventsReachTheirSinks2_rest, wAcceptedEventsReachTheirSinks2,
     by decide +kernel⟩,
   ⟨wAcceptedEventsReachTheirSinks3_e, wAcceptedEventsReachTheirSinks3_rest, wAcceptedEventsReachTheirSinks3,
     by decide +kernel⟩,
   ⟨wAcceptedEventsReachTheirSinks4_e, wAcceptedEventsReachTheirSinks4_rest, wAcceptedEventsReachTheirSinks4,
     by decide +kernel⟩,
   ⟨wAcceptedEventsReachTheirSinks5_e, wAcceptedEventsReachTheirSinks5_rest, wAcceptedEventsReachTheirSinks5,
     by decide +kernel⟩,
   ⟨wAcceptedEventsReachTheirSinks6_e, wAcceptedEventsReachTheirSinks6_rest, wAcceptedEventsReachTheirSinks6,
     by decide +kernel⟩,
   ⟨wAcceptedEventsReachTheirSinks7_e, wAcceptedEventsReachTheirSinks7_rest, wAcceptedEventsReachTheirSinks7,
     by decide +kernel⟩,
   ⟨wAcceptedEventsReachTheirSinks8_e, wAcceptedEventsReachTheirSinks8_rest, wAcceptedEventsReachTheirSinks8,
     by decide +kernel⟩⟩

def wRingsRecordsAndVectors0 : State :=
  wS.setF evtB (F.EVT_RING_PI.PI.at 0x40) (4 + 4 % 2)
def wRingsRecordsAndVectors1 : State :=
  wS.setF evtB (F.EVT_RING_PI.PI.at 0x40) (if 4 % 3 = 0 then 69 else 9) |>.setF evtB (F.EVT_RING_CFG.SIZE.at 0x40) 6
def wRingsRecordsAndVectors2 : State :=
  wS.setF evtB F.EVT_LGR_CMD.BUSY 1
def wRingsRecordsAndVectors3 : State :=
  { wS.setF evtB F.EVT_LGR_CMD.BUSY 0 |>.setF evtB F.EVT_LGR_WP.WP 5 with evt := { wS.evt with lgrRing := [(5, [1])] } }
def wRingsRecordsAndVectors4 : State :=
  { wS.setF evtB F.EVT_LGR_CMD.BUSY 0 |>.setF evtB F.EVT_LGR_WP.WP 9 with evt := { wS.evt with lgrRing := [(5, List.replicate 32 8)] } }
def wRingsRecordsAndVectors6 : State :=
  ({ wS with evt := { wS.evt with msixEnable := false } } : State).startTimer (Tm.msix 3) 5
def wRingsRecordsAndVectors7 : State :=
  ({ wS.setF hstB F.HST_STATUS.PATH_DOWN 0 with evt := { wS.evt with msixEnable := true, msixFuncMask := true, msixCauses := [(3, 4), (5, 6)] } } : State).startTimer (Tm.msix 3) 5
def wRingsRecordsAndVectors8 : State :=
  ({ wS.setF hstB F.HST_STATUS.PATH_DOWN 0 with evt := { wS.evt with msixEnable := true, msixFuncMask := false, msixTable := [(15, 0)], msixCauses := [(3, 4), (5, 6)] } } : State).startTimer (Tm.msix 3) 5
def wRingsRecordsAndVectors11 : State :=
  wS.setF hstB F.HST_CFG.HOSTLESS 0
def wRingsRecordsAndVectors12 : State :=
  wS.setF hstB F.HST_CFG.HOSTLESS 0

/-- States and operands that meet the hypotheses of each clause of Obligations.RingsRecordsAndVectors. -/
theorem wit_RingsRecordsAndVectors :
    (∃ (m : Master) (r : Fin 4) (ci : Word) (s : State), s.reaches m (evtB + 0x10 + 0x20 * r.val) = true ∧ s.ringCap
      r.val < (s.ringF r.val F.EVT_RING_PI.PI + 2 ^ 32 - ci.toNat) % 2 ^ 32) ∧
    (∃ (m : Master) (r : Fin 4) (ci : Word) (s : State), s.reaches m (evtB + 0x10 + 0x20 * r.val) = true ∧ ((s.ringF
      r.val F.EVT_RING_PI.PI + 2 ^ 32 - ci.toNat) % 2 ^ 32) ≤ s.ringCap r.val) ∧
    (∃ (m : Master) (i : BitVec 16) (s : State), s.reaches m (evtB + 0x108) = true ∧ s.bit evtB F.EVT_LGR_CMD.BUSY =
      true) ∧
    (∃ (m : Master) (i : BitVec 16) (s : State), s.reaches m (evtB + 0x108) = true ∧ s.bit evtB F.EVT_LGR_CMD.BUSY =
      false ∧ (SMap.get (fun _ => []) s.evt.lgrRing i.toNat = [] ∨ (s.fld evtB F.EVT_LGR_WP.WP) ≤ ((s.fld evtB
      F.EVT_LGR_WP.WP) + 65535 - i.toNat) % 65536)) ∧
    (∃ (m : Master) (i : BitVec 16) (s : State), s.reaches m (evtB + 0x108) = true ∧ s.bit evtB F.EVT_LGR_CMD.BUSY =
      false ∧ (SMap.get (fun _ => []) s.evt.lgrRing i.toNat) ≠ [] ∧ ((s.fld evtB F.EVT_LGR_WP.WP) + 65535 - i.toNat) %
      65536 < (s.fld evtB F.EVT_LGR_WP.WP)) ∧
    (∃ (v : Fin 64) (s : State), s.timerOn (Tm.msix v.val) = true ∧ (s.msixCauses v.val = 0 ∨ s.evt.msixEnable = false ∨
      s.pathDown = true)) ∧
    (∃ (v : Fin 64) (s : State), s.timerOn (Tm.msix v.val) = true ∧ s.msixCauses v.val ≠ 0 ∧ s.evt.msixEnable = true ∧
      s.pathDown = false ∧ s.msixMasked v.val = true) ∧
    (∃ (v : Fin 64) (s : State), s.timerOn (Tm.msix v.val) = true ∧ s.msixCauses v.val ≠ 0 ∧ s.evt.msixEnable = true ∧
      s.pathDown = false ∧ s.msixMasked v.val = false) ∧
    (∃ (m : Master) (sev : BitVec 2) (source : BitVec 10) (s : State), s.reaches m (evtB + 0x150) = true ∧ (m = .steward
      ∨ s.bit hstB F.HST_CFG.HOSTLESS = true)) ∧
    (∃ (m : Master) (sev : BitVec 2) (source : BitVec 10) (s : State), s.reaches m (evtB + 0x150) = true ∧ m = .host ∧
      s.bit hstB F.HST_CFG.HOSTLESS = false ∧ (512 ≤ source.toNat ∧ source.toNat ≤ 561)) ∧
    (∃ (m : Master) (sev : BitVec 2) (source : BitVec 10) (s : State), s.reaches m (evtB + 0x150) = true ∧ m = .host ∧
      s.bit hstB F.HST_CFG.HOSTLESS = false ∧ (source.toNat < 512 ∨ 561 < source.toNat)) ∧
    (∃ (m : Master) (sev : BitVec 2) (source : BitVec 10) (s : State), s.reaches m (evtB + 0x170) = true ∧ m = .host) ∧
    (∃ (m : Master) (sev : BitVec 2) (source : BitVec 10) (s : State), s.reaches m (evtB + 0x170) = true ∧ m = .steward
      ∧ (562 ≤ source.toNat ∧ source.toNat ≤ 611)) ∧
    (∃ (m : Master) (sev : BitVec 2) (source : BitVec 10) (s : State), s.reaches m (evtB + 0x170) = true ∧ m = .steward
      ∧ (source.toNat < 562 ∨ 611 < source.toNat)) :=
  ⟨⟨.host, 2, 5, wRingsRecordsAndVectors0, by decide +kernel⟩,
   ⟨.host, 2, 5, wRingsRecordsAndVectors1, by decide +kernel⟩,
   ⟨.host, 5, wRingsRecordsAndVectors2, by decide +kernel⟩,
   ⟨.host, 5, wRingsRecordsAndVectors3, by decide +kernel⟩,
   ⟨.host, 5, wRingsRecordsAndVectors4, by decide +kernel⟩,
   ⟨3, wRingsRecordsAndVectors6, by decide +kernel⟩,
   ⟨3, wRingsRecordsAndVectors7, by decide +kernel⟩,
   ⟨3, wRingsRecordsAndVectors8, by decide +kernel⟩,
   ⟨.steward, 1, 520, wS, by decide +kernel⟩,
   ⟨.host, 1, 520, wRingsRecordsAndVectors11, by decide +kernel⟩,
   ⟨.host, 1, 562, wRingsRecordsAndVectors12, by decide +kernel⟩,
   ⟨.host, 1, 570, wS, by decide +kernel⟩,
   ⟨.steward, 1, 611, wS, by decide +kernel⟩,
   ⟨.steward, 1, 612, wS, by decide +kernel⟩⟩

end Sys2Proof.Machine
end

section
/-! Proof that every command completes within what a command may leave (O6). The laws of After say what each operation
of the machine may leave; here each command is put together from them, along the branches of its meaning. -/

namespace Sys2Proof.Machine

variable {s0 s : State}

/-! ### Commands that complete -/

/-- An outcome is a next state that a command may leave. -/
def Leaves (s0 : State) (o : Host.Outcome State Fault Refusal) : Prop := ∃ t, o = .next t ∧ After s0 t

theorem leaves_next {t : State} (h : After s0 t) : Leaves s0 (.next t) := ⟨t, rfl, h⟩

/-- A register write completes as its effect does: whatever the checks of R531 discard stays within After. -/
theorem leaves_onWrite {m : Master} {a : Nat} {act : State → State} (h : After s0 s)
    (hact : ∀ s, After s0 s → After s0 (act s)) : Leaves s0 (.next (s.onWrite m a act)) :=
  leaves_next (after_onWrite h m a act hact)

/-- A happening inside an island completes as its effect in the live island does. -/
theorem leaves_onLive {id : Nat} {f : State → State} (h : After s0 s) (hf : ∀ s, After s0 s → After s0 (f s)) :
    Leaves s0 (.next (s.onLive id f)) :=
  leaves_next (after_onLive h id f hf)

/-- A timer's expiry completes as what it starts does. -/
theorem leaves_expire {id : Nat} {f : State → State} (h : After s0 s) (hf : ∀ s, After s0 s → After s0 (f s)) :
    Leaves s0 (.next (s.expire id f)) :=
  leaves_next (after_expire h id f hf)

/-- A state in the form every state keeps is one that a command may leave from itself. -/
theorem after_self (h : s.Inv) : After s s := ⟨h, rfl, le_rfl, le_rfl, List.prefix_rfl⟩

/-- The state of a pair that an operation answers. -/
theorem after_of_eq {α : Type} {p : State × α} {t : State} {x : α} (e : p = (t, x)) (h : After s0 p.1) :
    After s0 t := by
  rw [e] at h
  exact h

/-- Running a lane's generator and checker over bits that arrive. -/
theorem after_prbsRun (h : After s0 s) (lane : Nat) (l : List Bool) : After s0 (s.prbsRun lane l).1 := by
  induction l generalizing s with
  | nil => exact h
  | cons b l ih =>
    simp only [State.prbsRun]
    exact ih (after_prbsRecv (after_ite_fst (after_prbsSend h lane) h) lane _)

/-! ### Of Machine/Stripe.lean -/

theorem leaves_execStripeSkipMarkerArrive (h : After s0 s) : Leaves s0 (execStripeSkipMarkerArrive s) := by
  refine leaves_onLive h fun s h => ?_
  split
  · exact h
  · exact after_skipMarker (after_mk.2 (after_eq.2 h)) _ _

theorem leaves_execStripeTimeout (h : After s0 s) (x : Fin 256) : Leaves s0 (execStripeTimeout x s) := by
  refine leaves_onLive h fun s h => ?_
  split
  · exact h
  · exact after_settleOnce (after_elapseTo h _) _ _

/-! ### Of Machine/Tables.lean -/

theorem leaves_execL2LearnInsert (h : After s0 s) : Leaves s0 (execL2LearnInsert s) := by
  refine leaves_onLive h fun s h => ?_
  split
  · exact h
  · dsimp only
    split
    · exact after_mk.2 (after_eq.2 h)
    · split
      · exact after_learnHit (after_mk.2 (after_eq.2 h)) _ _ _
      · split
        · exact after_learnRefused (after_count (after_mk.2 (after_eq.2 h)) _ _) _ _
        · exact after_pmc (after_count (after_placeAt (after_mk.2 (after_eq.2 h)) _ _ _) _ _) _ _ _

/-! ### Of Machine/Parse.lean -/

theorem leaves_execTblEpochDrainDone (h : After s0 s) : Leaves s0 (execTblEpochDrainDone s) := by
  refine leaves_onLive h fun s h => ?_
  simp +contextual (maxDischargeDepth := 100) only [h, after_count, after_flipEpoch, after_raise, after_setF,
    after_stopTimer, after_ite]

/-! ### Of Machine/Actions.lean -/

theorem leaves_execEndOfPass (h : After s0 s) (k : Pipe) : Leaves s0 (execEndOfPass k s) := by
  refine leaves_onLive h fun s h => ?_
  dsimp only
  split
  · exact h
  · exact after_settleFate (after_sample (after_mirrors (after_applyLists (after_setPipe h _ _) _ _) _ _) _ _ _) _ _

/-! ### Of Machine/Gates.lean -/

theorem leaves_execGclHandover (h : After s0 s) (n : Port) : Leaves s0 (execGclHandover n s) := by
  refine leaves_onLive h fun s h => ?_
  split
  · exact h
  · exact after_showGates (after_raise (after_count (after_setF (after_setF (after_mk.2 (after_eq.2 (after_reachTime h
      _))) _ _ _) _ _ _) _ _) _ _ _ _) _

/-! ### Of Machine/Queues.lean -/

theorem leaves_execTmgDequeue (h : After s0 s) (node : Fin 49) : Leaves s0 (execTmgDequeue node s) := by
  refine leaves_onLive h fun s h => after_ite h ?_
  have hr := after_readyGroups h node.val
  dsimp only
  split
  · exact hr
  · split
    · exact hr
    · split
      · exact after_takeHead (after_setGTag (after_setVt (after_setVt hr _ _) _ _) _ _) _
      · refine after_ite (after_toMac (after_ite ?_ (after_dequeued ?_ _ _)) _ _)
          (after_toChan (after_ite ?_ (after_dequeued ?_ _ _)) _ _)
        all_goals exact after_tagHead (after_chargeAll (after_takeHead (after_setGTag (after_setVt (after_setVt hr _ _)
          _ _) _ _) _) _ _ _ _) _

theorem leaves_execTmgDeepReadback (h : After s0 s) (q : BitVec 12) (lost : Bool) :
    Leaves s0 (execTmgDeepReadback q lost s) := by
  refine leaves_onLive h fun s h => ?_
  dsimp only
  split
  · exact h
  · next d t _ =>
    have hb := after_pmc (after_count (after_spendRd h (isUpQ q.toNat) d.size) (tmgB + Ctr.TMG.DEEP_RD_BYTES) d.size)
      0x053 1 (d.size / 64)
    refine after_ite h (after_ite (after_deepRefused (after_dropDeep hb _ _) _ _) ?_)
    exact after_joinChip (after_leaveTransit (after_storePkt (after_trimPages (after_setDeepUsed (after_setQ hb _ _)
      _ _) _) _) _) _ _

/-! ### Of Machine/Till.lean -/

theorem leaves_execBcMapHandover (h : After s0 s) (c : PonCh) : Leaves s0 (execBcMapHandover c s) := by
  refine leaves_onLive h fun s h => ?_
  split
  · exact after_ite h (after_mapRefused h _ _)
  · exact after_ite h (after_raise (after_count (after_setF (after_setF (after_setF (after_setBcs h _ _) _ _ _) _ _ _)
      _ _ _) _ _) _ _ _ _)

theorem leaves_execTillStage (h : After s0 s) (c : PonCh) : Leaves s0 (execTillStage c s) :=
  leaves_next (after_ite (after_stageTurns (after_tagAll (after_tagAll (after_radioEnter h _) _) _) _) h)

theorem leaves_execBcPanicChange (h : After s0 s) (c : PonCh) : Leaves s0 (execBcPanicChange c s) :=
  leaves_onLive h fun _ h => after_ite (after_ite h (after_raiseMs (after_count (after_spreadPanic (after_setF h _ _
    _)) _ _) _ _ _ _ _)) (after_setF h _ _ _)

/-! ### Of Machine/Burst.lean -/

theorem leaves_execAllocCutoff (h : After s0 s) (c : PonCh) : Leaves s0 (execAllocCutoff c s) := by
  refine leaves_onLive h fun s h => ?_
  split
  · exact h
  · exact after_fixAlloc (after_toUnits h _) _ _ _

theorem leaves_execBurstLaunch (h : After s0 s) (c : PonCh) : Leaves s0 (execBurstLaunch c s) := by
  refine leaves_onLive h fun s h => ?_
  split
  · exact h
  · split
    · exact after_cancelBurst h _ _
    · split
      · exact after_sleepBurst h _ _
      · dsimp only
        split
        · exact after_fixDue h _ _ _
        · split
          · exact after_pCount (after_launchBurst (after_toUnits (after_fixDue h _ _ _) _) _ _) _ _ _
          · exact after_ploamSent (after_pCount (after_launchBurst (after_toUnits (after_fixDue h _ _ _) _) _ _) _ _
              _) _ _

theorem leaves_execBurstEnd (h : After s0 s) (c : PonCh) : Leaves s0 (execBurstEnd c s) := by
  refine leaves_onLive h fun s h => ?_
  split
  · exact h
  · dsimp only
    split
    · exact after_fixDue h _ _ _
    · exact after_ite (after_finishBurst (after_toUnits (after_fixDue h _ _ _) _) _ _ _ _) (after_benFall
        (after_finishBurst (after_toUnits (after_fixDue h _ _ _) _) _ _ _ _) _ _)

theorem leaves_execRogueDetect (h : After s0 s) (c : PonCh) (ns : Nat) : Leaves s0 (execRogueDetect c ns s) := by
  refine leaves_onLive h fun s h => ?_
  dsimp only
  split
  · exact h
  · split
    · exact after_benFall (after_setInh (after_stwOptics (after_pRaise (after_pCount (after_setPf h _ _ _) _ _ _) _ _
        _ _) _ _) _ _ _) _ _
    · exact after_benFall (after_setInh (after_finishBurst (after_stwOptics (after_pRaise (after_pCount (after_setPf h
        _ _ _) _ _ _) _ _ _ _) _ _) _ _ _ _) _ _ _) _ _

theorem leaves_execBenMissCheck (h : After s0 s) (c : PonCh) (active : Bool) :
    Leaves s0 (execBenMissCheck c active s) := by
  refine leaves_onLive h fun s h => ?_
  split
  · exact h
  · exact after_ite h (after_benCheck h _ _ _)

/-! ### Of Machine/Time.lean -/

theorem leaves_execServoSample (h : After s0 s) : Leaves s0 (execServoSample s) := by
  refine leaves_onLive h fun s h => ?_
  split
  · exact h
  · exact after_servoSample (after_mk.2 (after_eq.2 h)) _

theorem leaves_execHoldLimitExpiry (h : After s0 s) : Leaves s0 (execHoldLimitExpiry s) :=
  leaves_onLive h fun _ h => (after_expire h _ _ fun _ h => after_ite (after_raise (after_mk.2 (after_eq.2 h)) _ _ _
    _) h)

theorem leaves_execTimPtodComplete (h : After s0 s) : Leaves s0 (execTimPtodComplete s) := by
  refine leaves_onLive h fun s h => ?_
  split
  · exact h
  · exact after_offerSample (after_traceRec (after_raise (after_setF (after_putTheta (after_mk.2 (after_eq.2 h)) _) _
      _ _) _ _ _ _) _ _) _ _

theorem leaves_execSynceRecoveryExpiry (h : After s0 s) : Leaves s0 (execSynceRecoveryExpiry s) :=
  leaves_onLive h fun _ h => after_ite h (after_expire h _ _ (fun _ h => after_synceGo (after_mk.2 (after_eq.2 h)) _))

theorem leaves_execSynceLocked (h : After s0 s) (fofs : Word) : Leaves s0 (execSynceLocked fofs s) :=
  leaves_onLive h fun _ h => after_ite (after_synceGo (after_ite (after_servoUpdate (after_mk.2 (after_eq.2
    (after_setF h _ _ _))) _ _) (after_mk.2 (after_eq.2 (after_setF h _ _ _)))) _) h

theorem leaves_execPpsInEdge (h : After s0 s) (st : StampIn) : Leaves s0 (execPpsInEdge st s) := by
  refine leaves_onLive h fun s h => ?_
  split
  · exact h
  · dsimp only
    split
    · exact after_mk.2 (after_eq.2 h)
    · exact after_ite (after_offerSample (after_traceRec (after_putTime (after_startTimer (after_setPpsOk (after_mk.2
        (after_eq.2 h)) _) _ _) _ _) _ _) _ _) (after_count (after_mk.2 (after_eq.2 h)) _ _)

theorem leaves_execPpsInLossTimeout (h : After s0 s) : Leaves s0 (execPpsInLossTimeout s) :=
  leaves_onLive h fun _ h => (after_expire h _ _ fun _ h => after_ite (after_servoHold (after_setPpsOk (after_mk.2
    (after_eq.2 h)) _) _) (after_setPpsOk (after_mk.2 (after_eq.2 h)) _))

theorem leaves_execPpsOutEdge (h : After s0 s) : Leaves s0 (execPpsOutEdge s) :=
  leaves_onLive h fun _ h => after_ite h (after_todArm (after_emit (after_mk.2 (after_eq.2 (after_reachTime h _))) _))

theorem leaves_execTodRxByte (h : After s0 s) (b : Byte) : Leaves s0 (execTodRxByte b s) :=
  leaves_onLive h fun _ h => after_ite (after_showTod (after_mk.2 (after_eq.2 h))) (after_count h _ _)

theorem leaves_execTodTxStart (h : After s0 s) : Leaves s0 (execTodTxStart s) := by
  refine leaves_onLive h fun s h => ?_
  split
  · exact h
  · split
    · split
      · exact h
      · exact after_todSend (after_mk.2 (after_eq.2 (after_elapseTo h _))) _
    · exact after_todSend (after_mk.2 (after_eq.2 h)) _

/-! ### Of Machine/Act.lean -/

theorem leaves_execPsTawareExpiry (h : After s0 s) (c : PonCh) : Leaves s0 (execPsTawareExpiry c s) :=
  leaves_onLive h fun _ h => after_ite (after_expire h _ _ (fun _ h => after_ite (after_psWake h _) (after_psGo h _
    _))) h

theorem leaves_execPsIlowpowerExpiry (h : After s0 s) (c : PonCh) : Leaves s0 (execPsIlowpowerExpiry c s) :=
  leaves_onLive h fun _ h => after_ite (after_expire h _ _ (fun _ h => after_ite (after_psWake h _) (after_psGo h _
    _))) h

theorem leaves_execTo1Expiry (h : After s0 s) (c : PonCh) : Leaves s0 (execTo1Expiry c s) :=
  leaves_onLive h fun _ h => (after_expire h _ _ fun _ h => after_actGo (after_clearAct (after_pRaise h _ _ _ _) _) _
    _ _)

theorem leaves_execTo2Expiry (h : After s0 s) (c : PonCh) : Leaves s0 (execTo2Expiry c s) :=
  leaves_onLive h fun _ h => (after_expire h _ _ fun _ h => after_actGo (after_clearAct (after_pRaise h _ _ _ _) _) _
    _ _)

theorem leaves_execPnSvcDrainTimeout (h : After s0 s) (c : PonCh) : Leaves s0 (execPnSvcDrainTimeout c s) :=
  leaves_onLive h fun _ h => (after_expire h _ _ fun _ h => after_svcGo (after_flushTill (after_setTxOff h _ _) _) _ _
    _)

theorem leaves_execPloamBurstProfile (h : After s0 s) (c : PonCh) (x : PloamIn) (ix rate : Fin 4) (fec : Bool)
    (preamble : BitVec 12) (delim : BitVec 4) :
    Leaves s0 (execPloamBurstProfile c x ix rate fec preamble delim s) :=
  leaves_next (after_onHwPloam h _ _ _ fun _ h => after_ite (after_pCount (after_setReg h _ _) _ _ _) (after_ite
    (after_actGo (after_setReg h _ _) _ _ _) (after_setReg h _ _)))

theorem leaves_execPloamAssignOnuId (h : After s0 s) (c : PonCh) (x : PloamIn) (sn : BitVec 64) (onuId : BitVec 10) :
    Leaves s0 (execPloamAssignOnuId c x sn onuId s) :=
  leaves_next (after_onHwPloam h _ _ _ fun _ h => after_ite h (after_actGo (after_setPn (after_setPf (after_setPf
    (after_setPf h _ _ _) _ _ _) _ _ _) _ _) _ _ _))

theorem leaves_execPloamRangingTime (h : After s0 s) (c : PonCh) (x : PloamIn) (relative : Bool) (eqd : Int) :
    Leaves s0 (execPloamRangingTime c x relative eqd s) := by
  refine leaves_next (after_onHwPloam h _ _ _ fun s h => ?_)
  simp +contextual (maxDischargeDepth := 100) only [h, after_ackOk, after_actGo, after_mk, after_pRaise,
    after_ploamParam, after_setPf, after_ite, after_eq]

theorem leaves_execPloamDeactivateOnuId (h : After s0 s) (c : PonCh) (x : PloamIn) :
    Leaves s0 (execPloamDeactivateOnuId c x s) :=
  leaves_next (after_onHwPloam h _ _ _ fun _ h => after_ite (after_actGo (after_clearAct h _) _ _ _) h)

theorem leaves_execPloamDisableSerialNumber (h : After s0 s) (c : PonCh) (x : PloamIn) (enable all : Bool)
    (sn : BitVec 64) :
    Leaves s0 (execPloamDisableSerialNumber c x enable all sn s) :=
  leaves_next (after_onHwPloam h _ _ _ fun _ h => after_ite (after_ite (after_actGo (after_setPn h _ _) _ _ _) h)
    (after_ite (after_actGo (after_setPn (after_clearAct h _) _ _) _ _ _) h))

theorem leaves_execPloamRequestRegistration (h : After s0 s) (c : PonCh) (x : PloamIn) :
    Leaves s0 (execPloamRequestRegistration c x s) := by
  refine leaves_next (after_onHwPloam h _ _ _ fun s h => ?_)
  dsimp only
  exact after_hwPloam (after_registration h _) _ _

theorem leaves_execPloamAssignAllocId (h : After s0 s) (c : PonCh) (x : PloamIn) (allocId : BitVec 14)
    (assign : Bool) :
    Leaves s0 (execPloamAssignAllocId c x allocId assign s) := by
  refine leaves_next (after_onHwPloam h _ _ _ fun s h => ?_)
  split
  · split
    · exact after_allocRefused h _ _ _
    · exact after_allocRefused h _ _ _
    · exact after_ackOk (after_setPn h _ _) _ _
  · split
    · exact after_ackOk h _ _
    · exact after_ackOk (after_setPn h _ _) _ _

theorem leaves_execPloamKeyControl (h : After s0 s) (c : PonCh) (x : PloamIn) (index : BitVec 2) :
    Leaves s0 (execPloamKeyControl c x index s) := by
  refine leaves_next (after_onHwPloam h _ _ _ fun s h => ?_)
  refine after_ite (after_ploamParam h _ _) (after_ite h ?_)
  have hk := after_drbgRequest (after_mintReseed h)
  dsimp only
  split
  · exact after_count (after_setPf (after_ponKey hk _ _ _ _ _) _ _ _) _ _
  · exact after_queuePloam (after_setPn (after_newN (after_setPf (after_ponKey hk _ _ _ _ _) _ _ _) _) _ _) _ _

theorem leaves_execPloamSleepAllow (h : After s0 s) (c : PonCh) (x : PloamIn) (on : Bool) :
    Leaves s0 (execPloamSleepAllow c x on s) :=
  leaves_next (after_onHwPloam h _ _ _ fun _ h => after_ite (after_hwPloam h _ _) (after_ite (after_ackOk h _ _)
    (after_psCheck (after_setPn (after_ackOk h _ _) _ _) _)))

theorem leaves_execPloamUnsupported (h : After s0 s) (c : PonCh) (x : PloamIn) (multi : Bool) :
    Leaves s0 (execPloamUnsupported c x multi s) :=
  leaves_next (after_onPloam h _ _ _ fun _ h => after_ite (after_pCount h _ _ _) (after_ploamReject (after_ite
    (after_hwPloam (after_pCount h _ _ _) _ _) (after_pCount h _ _ _)) _ _ _))

theorem leaves_execBwmapEntry (h : After s0 s) (c : PonCh) (e : BwEntry) : Leaves s0 (execBwmapEntry c e s) :=
  leaves_onLive h fun _ h => after_ite h (after_ite (after_bwEnd (after_ite (after_psFwi (after_bwEntry h _ _) _)
    (after_bwEntry h _ _)) _) (after_ite (after_psFwi (after_bwEntry h _ _) _) (after_bwEntry h _ _)))

/-! ### Of Machine/Teller.lean -/

theorem leaves_execTellerDispatch (h : After s0 s) : Leaves s0 (execTellerDispatch s) := by
  refine leaves_onLive h fun s h => ?_
  split
  · exact after_histo (after_count (after_showLevel (after_showEng (after_setF (after_setF (after_mk.2 (after_eq.2
      (after_putItem h _))) _ _ _) _ _ _) _) _) _ _) _ _
  · exact h

theorem leaves_execInsScanDone (h : After s0 s) (e : Fin 32) : Leaves s0 (execInsScanDone e s) := by
  refine leaves_onLive h fun s h => ?_
  split
  · exact h
  · simp +contextual (maxDischargeDepth := 100) only [h, after_completeItem, after_count, after_elapseTo,
      after_engineFree, after_freeItem, after_noteScan, after_pmc, after_ite]

theorem leaves_execInsEngineFault (h : After s0 s) (e : Fin 32) : Leaves s0 (execInsEngineFault e s) := by
  refine leaves_onLive h fun s h => ?_
  split
  · exact h
  · dsimp only
    split
    · exact after_showEng (after_setEngState (after_setF (after_setF (after_raise (after_setF (after_setF (after_count
        (after_scanCut h _) _ _) _ _ _) _ _ _) _ _ _ _) _ _ _) _ _ _) _ _) _
    · exact after_failItems (after_showEng (after_setEngState (after_setF (after_setF (after_raise (after_setF
        (after_setF (after_count (after_scanCut h _) _ _) _ _ _) _ _ _) _ _ _ _) _ _ _) _ _ _) _ _) _) _ _

theorem leaves_execTlrDeliver (h : After s0 s) : Leaves s0 (execTlrDeliver s) := by
  refine leaves_onLive h fun s h => ?_
  split
  · exact h
  · simp +contextual (maxDischargeDepth := 100) only [h, after_count, after_histo, after_itemWords, after_putItem,
      after_setF, after_setReg, after_setRegs, after_showLevel, after_startTimer, after_ite]

theorem leaves_execTlrSwTimeout (h : After s0 s) : Leaves s0 (execTlrSwTimeout s) := by
  refine leaves_onLive h fun s h => (after_expire h _ _ fun s h => ?_)
  split
  · exact h
  · exact after_failItems h _ _

theorem leaves_execTlrWaitTimeout (h : After s0 s) : Leaves s0 (execTlrWaitTimeout s) := by
  refine leaves_onLive h fun s h => ?_
  split
  · exact h
  · exact after_ite h (after_raiseMs (after_histo (after_cancelItems (after_elapseTo h _) _ _) _ _) _ _ _ _ _)

theorem leaves_execTblBankCopyDone (h : After s0 s) (b : Fin 64) : Leaves s0 (execTblBankCopyDone b s) := by
  refine leaves_onLive h fun s h => ?_
  split
  · exact h
  · exact after_setBankState (after_setBankState (after_mk.2 (after_eq.2 h)) _ _) _ _

/-! ### Of Machine/Pon.lean -/

theorem leaves_execPsyncPattern (h : After s0 s) (c : PonCh) (x : PsyncIn) : Leaves s0 (execPsyncPattern c x s) := by
  refine leaves_onLive h fun s h => ?_
  split
  · split
    · exact after_ite h (after_ite (after_syncPattern h _ _ _ _) (after_candPattern h _ _ _ _))
    · exact after_ite h (after_ite (after_syncPattern h _ _ _ _) (after_ite (after_newPattern h _ _ _) h))
  · split
    · exact after_ite h (after_ite h (after_candPattern h _ _ _ _))
    · exact after_ite h (after_ite h (after_ite (after_newPattern h _ _ _) h))

theorem leaves_execPhyFrameDecode (h : After s0 s) (c : PonCh) (x : FrameIn) :
    Leaves s0 (execPhyFrameDecode c x s) := by
  refine leaves_onLive h fun s h => ?_
  simp +contextual (maxDischargeDepth := 100) only [h, after_bwmapLost, after_damage, after_pCount, after_pRaiseMs,
    after_pmc, after_setPn, after_ite]

theorem leaves_execBerWindowEnd (h : After s0 s) (c : PonCh) : Leaves s0 (execBerWindowEnd c s) := by
  refine leaves_onLive h fun s h => ?_
  simp +contextual (maxDischargeDepth := 100) only [h, after_pRaise, after_setPf, after_setPn, after_showRdi,
    after_ite]

theorem leaves_execXgemFrameRx (h : After s0 s) (c : PonCh) (x : XgemIn) : Leaves s0 (execXgemFrameRx c x s) := by
  refine leaves_onLive h fun s h => ?_
  simp +contextual (maxDischargeDepth := 100) only [h, after_pCount, after_xgemLookup, after_xgemLost, after_ite]

theorem leaves_execReasmTimeout (h : After s0 s) (c : PonCh) (pid : BitVec 16) :
    Leaves s0 (execReasmTimeout c pid s) := by
  refine leaves_onLive h fun s h => ?_
  dsimp only
  split
  · exact h
  · exact after_ite h (after_sendMarker (after_reasmErr (after_dropReasm h _ _) _ _) _ _)

theorem leaves_execOspNop (h : After s0 s) (c : PonCh) : Leaves s0 (execOspNop c s) :=
  leaves_next (after_ospDo h _ _ fun _ h => h)

theorem leaves_execOspOtherCommand (h : After s0 s) (c : PonCh) (_cmd : Byte) :
    Leaves s0 (execOspOtherCommand c _cmd s) :=
  leaves_next (after_ospDo h _ _ fun _ h => h)

theorem leaves_execOspReadMsg (h : After s0 s) (c : PonCh) (n : BitVec 16) : Leaves s0 (execOspReadMsg c n s) := by
  refine leaves_next (after_ospDo h _ _ fun s h => ?_)
  dsimp only
  split
  · exact after_setPn h _ _
  · exact after_ite (after_setPn (after_setPn h _ _) _ _) (after_setPn h _ _)

theorem leaves_execOspWriteMsg (h : After s0 s) (c : PonCh) (whole : Bool) (typ : BitVec 4) (data : List Byte) :
    Leaves s0 (execOspWriteMsg c whole typ data s) := by
  refine leaves_next ?_
  simp +contextual (maxDischargeDepth := 100) only [h, after_newN, after_ospDo, after_pCount, after_queuePloam,
    after_setPn, after_ite, implies_true]

theorem leaves_execOspReadEvt (h : After s0 s) (c : PonCh) (n : BitVec 16) : Leaves s0 (execOspReadEvt c n s) := by
  refine leaves_next (after_ospDo h _ _ fun s h => ?_)
  split
  · exact h
  · split
    · exact h
    · exact after_ite (after_mk.2 (after_eq.2 h)) h

theorem leaves_execTmgEnqueue (h : After s0 s) : Leaves s0 (execTmgEnqueue s) := by
  refine leaves_onLive h fun s h => ?_
  split
  · exact h
  · next p t _ =>
    have hl (x : Packet) :
        After s0 ((({ s with tmg := { s.tmg with inQ := t } } : State).storeLate p).1.leaveTransit x) :=
      after_leaveTransit (after_storeLate (after_mk.2 (after_eq.2 h)) p) x
    refine after_psCheck (after_psCheck (after_radioEnter (after_radioEnter ?_ _) _) _) _
    split
    · exact after_noQueue (hl _) _
    · exact after_unref (hl _) _
    · split
      · next e => exact after_unref (after_of_eq e (after_police (hl _) _)) _
      · next e =>
        have hp := after_of_eq e (after_police (hl _) _)
        exact after_foldl (after_ite hp (after_mk.2 (after_eq.2 hp))) fun _ _ h => after_placeCopy h _ _ _

/-! ### Of Machine/Tq.lean -/

theorem leaves_execTqCdrLockChange (h : After s0 s) (n : Port) (lock : Bool) :
    Leaves s0 (execTqCdrLockChange n lock s) :=
  leaves_next (after_ite (after_showSynceOut (after_setTq h _ _ _)) (after_syncLost (after_showSynceOut (after_setTq h
    _ _ _)) _))

theorem leaves_execTqPcsSyncChange (h : After s0 s) (n : Port) (sync : Bool) :
    Leaves s0 (execTqPcsSyncChange n sync s) :=
  leaves_onLive h fun _ h => after_ite (after_syncLost h _) (after_ite h (after_showLink (after_setTq h _ _ _) _ _))

theorem leaves_execHiBerWindow (h : After s0 s) (n : Port) (bad : Bool) : Leaves s0 (execHiBerWindow n bad s) :=
  leaves_onLive h fun _ h => after_ite h (after_showLink (after_tqRaiseMs (after_setTq h _ _ _) _ _ _) _ _)

theorem leaves_execTqAnComplete (h : After s0 s) (n : Port) (speed : BitVec 2) (half : Bool) :
    Leaves s0 (execTqAnComplete n speed half s) :=
  leaves_onLive h fun _ h => after_ite h (after_showLink (after_ite (after_setTq (after_setTq (after_setTq h _ _ _) _
    _ _) _ _ _) (after_setTq h _ _ _)) _ _)

theorem leaves_execPrbsLockChange (h : After s0 s) (lane : Fin 50) (bits : List Bool) (times : Nat)
    (rest : List Bool) :
    Leaves s0 (execPrbsLockChange lane bits times rest s) :=
  leaves_next (after_ite h (after_prbsPins (after_prbsRun h _ _) _ _ _))

theorem leaves_execLaneCalDone (h : After s0 s) (n : Fin 50) (fail : Option (Fin 4)) :
    Leaves s0 (execLaneCalDone n fail s) :=
  leaves_next (after_ite (after_ite (after_calLane h _ _) h) (after_ite h (after_ite (after_calEnd h _) (after_ite
    (after_calLane h _ _) (after_ite (after_calEnd (after_calResult h _ _) _) h)))))

theorem leaves_execWdogLimitExpiry (h : After s0 s) (n : Port) (p : Fin 8) : Leaves s0 (execWdogLimitExpiry n p s) :=
  leaves_onLive h fun _ h => (after_expire h _ _ fun _ h => after_tqRaiseMs (after_tqCount (after_setTq (after_foldl h
    (fun _ _ h => after_startTimer (after_unpause h _ _) _ _)) _ _ _) _ _ _) _ _ _)

theorem leaves_execPfcRefreshExpiry (h : After s0 s) (n : Port) : Leaves s0 (execPfcRefreshExpiry n s) :=
  leaves_onLive h fun _ h => (after_expire h _ _ fun _ h => after_ite (after_startTimer h _ _) (after_ite
    (after_signalXoff h _) (after_ite h (after_ite (after_startTimer h _ _) (after_sendCtl h _ _ _)))))

/-! ### Of Machine/Frames.lean -/

theorem leaves_execRxFrame (h : After s0 s) (n : Port) (x : EthIn) : Leaves s0 (execRxFrame n x s) :=
  leaves_onLive h fun _ h => after_ite (after_fecCount h _ _) (after_ite (after_rateShort (after_tqCount
    (after_fecCount h _ _) _ _ _) _) (after_rxCheck (after_fecCount h _ _) _ _))

theorem leaves_execTxFrame (h : After s0 s) (n : Port) (st : StampIn) (late deferred : Bool) :
    Leaves s0 (execTxFrame n st late deferred s) := by
  refine leaves_onLive h fun s h => ?_
  split
  · exact h
  · simp +contextual (maxDischargeDepth := 100) only [h, after_countDefer, after_macDone, after_setPort,
      after_toLaunch, after_tqCount, after_transmit, after_ite]

theorem leaves_execHdCollision (h : After s0 s) (n : Port) (late deferred : Bool) :
    Leaves s0 (execHdCollision n late deferred s) := by
  refine leaves_onLive h fun s h => ?_
  simp +contextual (maxDischargeDepth := 100) only [h, after_countDefer, after_setPort, after_startTimer,
    after_takeFree, after_tqCount, after_tqRaiseMs, after_ite]

/-! ### Of Machine/Mem.lean -/

theorem leaves_execMcTrainDone (h : After s0 s) (c : Fin 8) (pass : Bool) (step : BitVec 3) (margins : Word) :
    Leaves s0 (execMcTrainDone c pass step margins s) := by
  refine leaves_onLive h fun s h => ?_
  simp +contextual (maxDischargeDepth := 100) only [h, after_mcBootTrain, after_mcCount, after_mcTrainFail,
    after_setMcF, after_setReg, after_ite]

theorem leaves_execMcUnitInitDone (h : After s0 s) (c : Fin 8) : Leaves s0 (execMcUnitInitDone c s) :=
  leaves_onLive h fun _ h => after_ite (after_showPages (after_mcGo (after_setMcF h _ _ _) _ _)) h

theorem leaves_execMcSvcDrainTimeout (h : After s0 s) (c : Fin 8) : Leaves s0 (execMcSvcDrainTimeout c s) :=
  leaves_onLive h fun _ h => (after_expire h _ _ fun _ h => after_ite (after_mcGo (after_mcDiscard h _) _ _) h)

theorem leaves_execRefreshInterval (h : After s0 s) (c : Fin 8) : Leaves s0 (execRefreshInterval c s) :=
  leaves_onLive h fun _ h => after_ite h (after_ite (after_setMcF (after_ite (after_mcCount h _ _ _) h) _ _ _)
    (after_raiseMs (after_refIssued (after_mcCount (after_ite (after_mcCount h _ _ _) h) _ _ _) _ _) _ _ _ _ _))

theorem leaves_execMr4Poll (h : After s0 s) (c : Fin 8) (rate : Fin 3) : Leaves s0 (execMr4Poll c rate s) := by
  refine leaves_onLive h fun s h => ?_
  simp +contextual (maxDischargeDepth := 100) only [h, after_issueDebt, after_mcCount, after_setMc, after_setRate,
    after_ite]

theorem leaves_execDramCommandIssue (h : After s0 s) (c : Fin 8) (arrivals : List DramReq) :
    Leaves s0 (execDramCommandIssue c arrivals s) := by
  refine leaves_onLive h fun s h => ?_
  split
  · exact h
  · dsimp only
    split
    · exact after_mcIssue (after_foldl h (fun _ _ h => after_mcAccept h _ _)) _ _
    · split
      · exact after_refIssued (after_setMcF (after_foldl h (fun _ _ h => after_mcAccept h _ _)) _ _ _) _ _
      · split
        · exact after_mcIssue (after_foldl h (fun _ _ h => after_mcAccept h _ _)) _ _
        · exact after_foldl h (fun _ _ h => after_mcAccept h _ _)

theorem leaves_execDramReadReturn (h : After s0 s) (c : Fin 8) (ecc : EccOutcome) (syndrome : BitVec 10)
    (page : DramPage) :
    Leaves s0 (execDramReadReturn c ecc syndrome page s) := by
  refine leaves_onLive h fun s h => ?_
  split
  · dsimp only
    split
    · exact h
    · exact after_setMc h _ _
  · dsimp only
    split
    · exact h
    · exact after_eccLog (after_raiseMs (after_mcCount (after_mcAccept (after_setMc h _ _) _ _) _ _ _) _ _ _ _ _) _ _
        _ _
  · dsimp only
    split
    · exact h
    · exact after_pageBad (after_eccLog (after_raise (after_mcCount (after_setMc h _ _) _ _ _) _ _ _ _) _ _ _ _) _ _

/-! ### Of Machine/Vault.lean -/

theorem leaves_execVltJobComplete (h : After s0 s) (p : Fin 2) (busErr : Option Nat) :
    Leaves s0 (execVltJobComplete p busErr s) := by
  refine leaves_onLive h fun s h => ?_
  split
  · exact h
  · split
    · exact after_ite h (after_jobEnd (after_jobWrite h _ _) _ _ _ _ _)
    · simp +contextual (maxDischargeDepth := 100) only [h, after_jobEffect, after_jobEnd, after_jobWrite, after_mk,
        after_reboot, after_rmaSteps, after_ite, after_eq]

theorem leaves_execKeyCmdComplete (h : After s0 s) (p : Fin 2) : Leaves s0 (execKeyCmdComplete p s) := by
  refine leaves_onLive h fun s h => ?_
  split
  · exact h
  · exact after_ite (after_ite h (after_raise (after_count (after_mk.2 (after_eq.2 h)) _ _) _ _ _ _)) (after_keyApply
      h _ _)

theorem leaves_execMintRestartDone (h : After s0 s) (pass : Bool) : Leaves s0 (execMintRestartDone pass s) :=
  leaves_onLive h fun _ h => after_ite h (after_ite (after_mintReseed (after_setMint h _)) (after_setMint h _))

theorem leaves_execNonceExpiry (h : After s0 s) (rma : Bool) : Leaves s0 (execNonceExpiry rma s) :=
  leaves_onLive h fun _ h => after_ite (after_expire h _ _ (fun _ h => after_mk.2 (after_eq.2 h))) (after_expire h _ _
    (fun _ h => after_mk.2 (after_eq.2 h)))

/-! ### Of Machine/Steward.lean -/

theorem leaves_execFwVerifyDone (h : After s0 s) (image : Option (List Byte)) :
    Leaves s0 (execFwVerifyDone image s) := by
  refine leaves_next ?_
  dsimp only
  split
  · exact after_switchVerified (after_fwSeen (after_flashSettle h) _ _ _) _ _ _
  · exact after_ite (after_flashSettle h) (after_ite (after_fwStart (after_fwSeen (after_flashSettle h) _ _ _) _)
      (after_fwFail (after_fwSeen (after_flashSettle h) _ _ _) _))

/-! ### Of Machine/Events.lean -/

theorem leaves_execMsixMaskClear (h : After s0 s) (v : Option (Fin 64)) : Leaves s0 (execMsixMaskClear v s) := by
  refine leaves_next ?_
  split
  · exact after_msixFlush (after_setMsixWord h _ _)
  · exact after_msixFlush (after_mk.2 (after_eq.2 h))

theorem leaves_execEvtAccept (h : After s0 s) : Leaves s0 (execEvtAccept s) := by
  refine leaves_next ?_
  split
  · exact h
  · next e rest _ =>
    have hq : After s0 { s with evt := { s.evt with queue := rest } } := after_mk.2 (after_eq.2 h)
    have hc := after_pmc (after_count hq (evtB + Ctr.EVT.RECORDS) 1) 0x0C0 noInst 1
    exact after_ite (after_sinkOspa (after_sinkLedger (after_sinkHost hc e) e) e) h

theorem leaves_execBar0BadRequest (h : After s0 s) (a : BitVec 26) (write byteEnables : Bool) :
    Leaves s0 (execBar0BadRequest a write byteEnables s) :=
  leaves_onLive h fun _ h => after_ite (after_badReq (after_setF h _ _ _) _ _) (after_emit (after_badReq (after_setF h
    _ _ _) _ _) _)

theorem leaves_execHstReadTimeout (h : After s0 s) (a : BitVec 26) : Leaves s0 (execHstReadTimeout a s) :=
  leaves_onLive h fun _ h => after_emit (after_raise (after_count (after_setF h _ _ _) _ _) _ _ _ _) _

/-! ### Of Machine/Tally.lean -/

theorem leaves_execSamplerTrigger (h : After s0 s) (k : Fin 4) (skid : Fin 5) :
    Leaves s0 (execSamplerTrigger k skid s) :=
  leaves_next (after_ite (after_ite (after_sampleMiss (after_mk.2 (after_eq.2 h)) _ _) (after_ite (after_sampleMiss
    (after_mk.2 (after_eq.2 h)) _ _) (after_mk.2 (after_eq.2 (after_mk.2 (after_eq.2 h)))))) h)

theorem leaves_execChkScrubStart (h : After s0 s) : Leaves s0 (execChkScrubStart s) := by
  refine leaves_next ?_
  split
  · exact after_ite (after_mk.2 (after_eq.2 (after_chkTake h _ _))) h
  · exact h

/-! ### Of Machine/Dma.lean -/

theorem leaves_execHostPathDown (h : After s0 s) (why : PathDown) : Leaves s0 (execHostPathDown why s) := by
  refine leaves_next ?_
  split
  · exact after_hostReset (after_msixReset (after_pathLost h))
  · exact after_pathLost h

theorem leaves_execPcieLinkChange (h : After s0 s) (now : LinkNow) (gen : Fin 4) (width : Fin 3) :
    Leaves s0 (execPcieLinkChange now gen width s) := by
  refine leaves_next ?_
  split
  · exact h
  · split
    · exact after_linkGo h _ _ _
    · exact after_pathLost (after_linkGo h _ _ _)
    · exact after_aerErrors h _ _

theorem leaves_execPcieReset (h : After s0 s) (_hot : Bool) : Leaves s0 (execPcieReset _hot s) :=
  leaves_next (after_hostReset (after_hstReset (after_pathLost (after_ite (after_linkGo h _ _ _) h))))

/-! ### Of Machine/Power.lean -/

theorem leaves_execIslandPowerReply (h : After s0 s) (isl : Fin 64) (reply : Fin 3) :
    Leaves s0 (execIslandPowerReply isl reply s) := by
  refine leaves_next ?_
  split
  · exact h
  · split
    · exact after_pwrAbort h _ _
    · exact after_setF h _ _ _
    · exact after_commitBegin (after_mk.2 (after_eq.2 h))

theorem leaves_execIslandCommitStep (h : After s0 s) : Leaves s0 (execIslandCommitStep s) := by
  refine leaves_next ?_
  split
  · exact h
  · exact after_ite h (after_ite (after_entryDone (after_commitOne h _ _)) (after_wake (after_commitOne h _ _) _))

theorem leaves_execIslandExitStep (h : After s0 s) : Leaves s0 (execIslandExitStep s) := by
  refine leaves_next ?_
  split
  · exact h
  · exact after_ite (after_exitNext (after_exitSide (after_wakeIsland (after_onFast h _) _) _)) h

theorem leaves_execP3ExitPllLock (h : After s0 s) : Leaves s0 (execP3ExitPllLock s) :=
  leaves_next (after_ite h (after_servoHold (after_timResume (after_ite h (after_setF h _ _ _))) _))

theorem leaves_execCrystalLost (h : After s0 s) (ms : BitVec 16) : Leaves s0 (execCrystalLost ms s) :=
  leaves_next (after_ite h (after_xtalSides (after_raise (after_setF (after_setF (after_mk.2 (after_eq.2 h)) _ _ _) _
    _ _) _ _ _ _)))

theorem leaves_execSagOnset (h : After s0 s) (pin mon : Bool) (mv : BitVec 16) (late : Bool) :
    Leaves s0 (execSagOnset pin mon mv late s) := by
  refine leaves_next ?_
  simp +contextual (maxDischargeDepth := 100) only [h, after_count, after_flashCut, after_fuseCut, after_gasp,
    after_gaspWrite, after_mk, after_raise, after_setF, after_ite, after_eq]

theorem leaves_execSagClear (h : After s0 s) (mv : BitVec 16) : Leaves s0 (execSagClear mv s) :=
  leaves_next (after_ite h (after_raise (after_setF (after_setF (after_setF (after_setF h _ _ _) _ _ _) _ _ _) _ _ _)
    _ _ _ _))

theorem leaves_execTempSensorRead (h : After s0 s) (hot : BitVec 12) : Leaves s0 (execTempSensorRead hot s) :=
  leaves_next (after_mk.2 (after_eq.2 (after_setF (after_setF (after_ite (after_setF h _ _ _) h) _ _ _) _ _ _)))

/-! ### Of Machine/Repair.lean -/

theorem leaves_execIslReturnTestDone (h : After s0 s) (pass : Bool) : Leaves s0 (execIslReturnTestDone pass s) := by
  refine leaves_next ?_
  split
  · exact h
  · exact after_ite h (after_ite (after_foldl (after_islEnd h _) (fun _ _ h => after_islBack h _)) (after_returnFails
      h _))

theorem leaves_execIslandDrainDone (h : After s0 s) (isl : Fin 64) : Leaves s0 (execIslandDrainDone isl s) := by
  refine leaves_next ?_
  simp +contextual (maxDischargeDepth := 100) only [h, after_dmaWake, after_mk, after_setF, after_svcGoesOn,
    after_ite, after_eq]

theorem leaves_execCryptCompareMismatch (h : After s0 s) (engine : Fin 15) (lane : Fin 4) :
    Leaves s0 (execCryptCompareMismatch engine lane s) :=
  leaves_next (after_ite h (after_ite (after_islandFault (after_vaultFault (after_count h _ _) _ _ _) _ _ _)
    (after_ite (after_usMismatch h _) (after_macMismatch h _))))

theorem leaves_execAgeSweepVisit (h : After s0 s) (flow : Bool) (i : BitVec 16) (ecc : EccOutcome) (bank : Fin 64) :
    Leaves s0 (execAgeSweepVisit flow i ecc bank s) :=
  leaves_next (after_ite h (after_ite (after_islandFault (after_entryEcc h _ _ _ _) _ _ _) (after_ageEntry
    (after_entryEcc h _ _ _ _) _ _)))

/-! ### Of Machine/Bus.lean -/

theorem leaves_execRegisterWrite (h : After s0 s) (m : Master) (place : WriteAt) (v : Word) :
    Leaves s0 (execRegisterWrite m place v s) := by
  refine leaves_next ?_
  split
  · exact after_busWrite h _ _ _
  · exact after_ite (after_wrBar2 h _ _) h
  · exact after_ite (after_wrMsix h _ _) h
  · exact after_ite (after_wrAer h _ _) h
  · exact after_ite (after_stwSoft h _ _) h
  · exact after_tapScan h _ _ _

/-! ### Of Machine/Boot.lean -/

theorem leaves_execRailEntersRange (h : After s0 s) (r : Fin 9) : Leaves s0 (execRailEntersRange r s) :=
  leaves_next (after_ite h (after_ite (after_startTimer (after_mk.2 (after_eq.2 h)) _ _) (after_mk.2 (after_eq.2 h))))

theorem leaves_execAonUpDone (h : After s0 s) (parityOk : Bool) (hm : List Word) (vout : BitVec 5) :
    Leaves s0 (execAonUpDone parityOk hm vout s) := by
  refine leaves_next ?_
  simp +contextual (maxDischargeDepth := 100) only [h, after_hold, after_loadIslands, after_loadLedger, after_mk,
    after_reboot, after_rmaSteps, after_setF, after_setRegs, after_showFuses, after_toStage, after_ite, after_eq]

theorem leaves_execAssayDone (h : After s0 s) (rom kat mint : Bool) (sram : List (Fin 64)) :
    Leaves s0 (execAssayDone rom kat mint sram s) := by
  refine leaves_next ?_
  split
  · exact h
  · split
    · dsimp only
      split
      · exact after_hold (after_assayFirst (after_setBit (after_setBit (after_setBit (after_setBit (after_elapseTo h
          _) _ _ _) _ _ _) _ _ _) _ _ _) _ _ _ _) _
      · exact after_hold (after_setF (after_assayFirst (after_setBit (after_setBit (after_setBit (after_setBit
          (after_elapseTo h _) _ _ _) _ _ _) _ _ _) _ _ _) _ _ _ _) _ _ _) _
    · dsimp only
      split
      · simp +contextual (maxDischargeDepth := 100) only [h, after_assayFirst, after_elapseTo, after_keepDark,
          after_mintReseed, after_readCopy, after_setBit, after_setMint, after_foldl, implies_true]
      · simp +contextual (maxDischargeDepth := 100) only [h, after_assayFirst, after_elapseTo, after_keepDark,
          after_mintReseed, after_readCopy, after_setBit, after_setF, after_setMint, after_foldl,
          implies_true]

theorem leaves_execPbReadDone (h : After s0 s) (image : Option (List Byte)) : Leaves s0 (execPbReadDone image s) := by
  refine leaves_next ?_
  split
  · exact h
  · split
    · exact after_otherCopy (after_copyCode (after_flashSettle (after_elapseTo h _)) _)
    · exact after_ite (after_otherCopy (after_copyCode (after_flashSettle (after_elapseTo h _)) _)) (after_toStage
        (after_mk.2 (after_eq.2 (after_flashSettle (after_elapseTo h _)))) _)

theorem leaves_execPbVerifyDone (h : After s0 s) : Leaves s0 (execPbVerifyDone s) :=
  leaves_next (after_ite h (after_ite (after_copyVerified (after_elapseTo h _)) (after_otherCopy (after_copyCode
    (after_elapseTo h _) _))))

theorem leaves_execPbRecordApply (h : After s0 s) : Leaves s0 (execPbRecordApply s) := by
  refine leaves_next ?_
  split
  · exact h
  · split
    · exact h
    · exact after_applyRec h _ _

theorem leaves_execPollRecordTimeout (h : After s0 s) : Leaves s0 (execPollRecordTimeout s) :=
  leaves_next (after_ite (after_expire h _ _ (fun _ h => after_applyFail h)) (after_expire h _ _ (fun _ h =>
    after_applyFail h)))

theorem leaves_execApplyDone (h : After s0 s) : Leaves s0 (execApplyDone s) := by
  refine leaves_next ?_
  split
  · exact h
  · split
    · exact after_applyFail h
    · next e => exact after_seal (after_loadSections h _ _ e)

theorem leaves_execStageLimitExpiry (h : After s0 s) (x : LimitIn) : Leaves s0 (execStageLimitExpiry x s) := by
  refine leaves_next ?_
  simp +contextual (maxDischargeDepth := 100) only [h, after_applyFail, after_expire, after_hold, after_loadLedger,
    after_pllLimit, after_readLimit, after_release, after_stewardLimit, after_trainEnd, after_xtalFail, after_ite,
    implies_true]

/-! ### Of Machine/Omci.lean -/

theorem leaves_execOmciMessage (h : After s0 s) (c : PonCh) (r : OmciReq) : Leaves s0 (execOmciMessage c r s) := by
  refine leaves_next ?_
  split
  · exact h
  · simp +contextual (maxDischargeDepth := 100) only [h, after_busWrite, after_count, after_omciAct,
      after_omciAnswer, after_pmRun, after_setPn, after_ite]

theorem leaves_execOpticsPoll (h : After s0 s) (c : PonCh) (optics : BitVec 5) :
    Leaves s0 (execOpticsPoll c optics s) := by
  refine leaves_next ?_
  simp +contextual (maxDischargeDepth := 100) only [h, after_omciAlarm, after_pmRun, after_ite, after_foldl,
    implies_true]

/-! ### Every command -/

/-- Every command completes, in a state that a command may leave. -/
theorem leaves_exec (c : Instr) (h : After s0 s) : Leaves s0 (exec c s) := by
  cases c with
  | registerWrite m place v => exact leaves_execRegisterWrite h m place v
  | rcRegisterRead _ _ => exact leaves_next (after_busRead h _ _)
  | resultStatusRead _ _ => exact leaves_next (after_busRead h _ _)
  | counterLowWordRead _ _ => exact leaves_next (after_busRead h _ _)
  | crossingEntryArrive _ _ _ => exact leaves_next (after_ite h (after_islandFault (after_raise h _ _ _ _) _ _ _))
  | pipelineSlotGrant _ _ => exact leaves_next (after_ite (after_grantSlot h _ _) h)
  | hostStarveExpiry _ => exact leaves_next (after_ite (after_raiseMs (after_setF h _ _ _) _ _ _ _ _) h)
  | railOutOfRange _ => exact leaves_next (after_mk.2 (after_eq.2 (after_powerOn (after_flashCut (after_fuseCut h)))))
  | porRelease _ _ _ _ => exact leaves_expire h fun _ h => after_ite h (after_toStage (after_mk.2 (after_eq.2 h)) _)
  | aonUpDone parityOk hm vout => exact leaves_execAonUpDone h parityOk hm vout
  | xtalQualified => exact leaves_next (after_ite (after_toStage h _) h)
  | xtalTimeout => exact leaves_next (after_ite (after_xtalFail (after_elapseTo h _)) h)
  | pllStageDone => exact leaves_next (after_ite (after_pllEnd h _) h)
  | pllRelockDone _ => exact leaves_next (after_relocked h _)
  | assayDone rom kat mint sram => exact leaves_execAssayDone h rom kat mint sram
  | pbReadDone image => exact leaves_execPbReadDone h image
  | pbVerifyDone => exact leaves_execPbVerifyDone h
  | dramTrainDone => exact leaves_next (after_ite (after_trainEnd h) h)
  | pbRecordApply => exact leaves_execPbRecordApply h
  | pollRecordTimeout => exact leaves_execPollRecordTimeout h
  | applyDone => exact leaves_execApplyDone h
  | stewardStageDone => exact leaves_next (after_ite (after_toStage h _) h)
  | releaseDone => exact leaves_next (after_ite h (after_release (after_ite h (after_elapseTo h _))))
  | stageLimitExpiry x => exact leaves_execStageLimitExpiry h x
  | reboot _ _ => exact leaves_onWrite h fun _ h => after_wrBootCtrl h _
  | preferBWrite _ _ _ => exact leaves_onWrite h fun _ h => after_wrBootCtrl h _
  | flashRelease _ _ _ => exact leaves_onWrite h fun _ h => after_wrBootCtrl h _
  | pcieReset hot => exact leaves_execPcieReset h hot
  | rxlosChange _ _ => exact leaves_next (after_showLos (after_setPn h _ _) _)
  | pnCdrLockChange _ _ => exact leaves_next (after_showSynceOut (after_showLos (after_setPf h _ _ _) _))
  | pnRxEnableWrite _ _ _ => exact leaves_onWrite h fun _ h => after_wrRxCtrl h _ _
  | psyncPattern c x => exact leaves_execPsyncPattern h c x
  | phyFrameDecode c x => exact leaves_execPhyFrameDecode h c x
  | berWindowEnd c => exact leaves_execBerWindowEnd h c
  | xgemFrameRx c x => exact leaves_execXgemFrameRx h c x
  | reasmTimeout c pid => exact leaves_execReasmTimeout h c pid
  | pnPidRead _ _ _ => exact leaves_onWrite h fun _ h => after_wrPidCmd h _ _
  | pnPidWrite _ _ _ => exact leaves_onWrite h fun _ h => after_wrPidCmd h _ _
  | pnPidInvalidate _ _ _ => exact leaves_onWrite h fun _ h => after_wrPidCmd h _ _
  | pnPidCmdDone _ => exact leaves_onLive h fun _ h => after_setPf h _ _ _
  | ospNop c => exact leaves_execOspNop h c
  | ospReadMsg c n => exact leaves_execOspReadMsg h c n
  | ospWriteMsg c whole typ data => exact leaves_execOspWriteMsg h c whole typ data
  | ospReadEvt c n => exact leaves_execOspReadEvt h c n
  | ospOtherCommand c cmd => exact leaves_execOspOtherCommand h c cmd
  | pnTodArm _ _ _ => exact leaves_onWrite h fun _ h => after_wrTodCtrl h _ _
  | ploamBurstProfile c x ix rate fec preamble delim =>
    exact leaves_execPloamBurstProfile h c x ix rate fec preamble delim
  | ploamAssignOnuId c x sn onuId => exact leaves_execPloamAssignOnuId h c x sn onuId
  | ploamRangingTime c x relative eqd => exact leaves_execPloamRangingTime h c x relative eqd
  | ploamDeactivateOnuId c x => exact leaves_execPloamDeactivateOnuId h c x
  | ploamDisableSerialNumber c x enable all sn => exact leaves_execPloamDisableSerialNumber h c x enable all sn
  | ploamRequestRegistration c x => exact leaves_execPloamRequestRegistration h c x
  | ploamAssignAllocId c x allocId assign => exact leaves_execPloamAssignAllocId h c x allocId assign
  | ploamKeyControl c x index => exact leaves_execPloamKeyControl h c x index
  | ploamSleepAllow c x on => exact leaves_execPloamSleepAllow h c x on
  | ploamChangePowerLevel _ _ => exact leaves_next (after_onStwPloam h _ _ _)
  | ploamPowerConsumptionInq _ _ => exact leaves_next (after_onStwPloam h _ _ _)
  | ploamUnsupported c x multi => exact leaves_execPloamUnsupported h c x multi
  | to1Expiry c => exact leaves_execTo1Expiry h c
  | to2Expiry c => exact leaves_execTo2Expiry h c
  | pnActRestart _ _ => exact leaves_onWrite h fun _ h => after_wrActCtrl h _ _
  | pnTxOffWrite _ _ _ => exact leaves_onWrite h fun _ h => after_wrActCtrl h _ _
  | bwmapEntry c e => exact leaves_execBwmapEntry h c e
  | burstLaunch c => exact leaves_execBurstLaunch h c
  | burstEnd c => exact leaves_execBurstEnd h c
  | rogueDetect c ns => exact leaves_execRogueDetect h c ns
  | benMissCheck c active => exact leaves_execBenMissCheck h c active
  | rogueClr _ _ _ => exact leaves_onWrite h fun _ h => after_wrUsCtrl h _ _ _
  | psTholdExpiry _ =>
    exact leaves_onLive h fun _ h => after_ite (after_expire h _ _ (fun _ h => after_psCheck h _)) h
  | psTawareExpiry c => exact leaves_execPsTawareExpiry h c
  | psIlowpowerExpiry c => exact leaves_execPsIlowpowerExpiry h c
  | pnAllocRead _ _ _ => exact leaves_onWrite h fun _ h => after_wrAllocCmd h _ _
  | pnAllocInvalidate _ _ _ => exact leaves_onWrite h fun _ h => after_wrAllocCmd h _ _
  | pnAllocWriteDiscard _ _ _ => exact leaves_onWrite h fun _ h => after_wrAllocCmd h _ _
  | pnAllocCmdDone _ => exact leaves_onLive h fun _ h => after_setPf h _ _ _
  | pnSvcWantClear _ _ _ => exact leaves_onWrite h fun _ h => after_wrSvcCtrl h _ _
  | pnSvcWantSet _ _ _ => exact leaves_onWrite h fun _ h => after_wrSvcCtrl h _ _
  | pnSvcDrainDone _ => exact leaves_onLive h fun _ h => after_ite (after_svcGo (after_setTxOff h _ _) _ _ _) h
  | pnSvcDrainTimeout c => exact leaves_execPnSvcDrainTimeout h c
  | stripeSkipMarkerArrive => exact leaves_execStripeSkipMarkerArrive h
  | stripeTimeout x => exact leaves_execStripeTimeout h x
  | tlrStripeRead _ _ => exact leaves_onWrite h fun _ h => after_wrStripeCmd h _
  | tlrStripeWrite _ _ => exact leaves_onWrite h fun _ h => after_wrStripeCmd h _
  | tlrStripeInvalidate _ _ => exact leaves_onWrite h fun _ h => after_wrStripeCmd h _
  | tlrStripeFlush _ _ => exact leaves_onWrite h fun _ h => after_wrStripeCmd h _
  | tlrStripeCmdDone => exact leaves_onLive h fun _ h => after_setF h _ _ _
  | tqPllLockChange _ _ _ => exact leaves_next (after_setPllLock h _ _ _)
  | tqCdrLockChange n lock => exact leaves_execTqCdrLockChange h n lock
  | tqPcsSyncChange n sync => exact leaves_execTqPcsSyncChange h n sync
  | hiBerWindow n bad => exact leaves_execHiBerWindow h n bad
  | tqAnComplete n speed half => exact leaves_execTqAnComplete h n speed half
  | laneCalDone n fail => exact leaves_execLaneCalDone h n fail
  | rxFrame n x => exact leaves_execRxFrame h n x
  | txFrame n st late deferred => exact leaves_execTxFrame h n st late deferred
  | hdCollision n late deferred => exact leaves_execHdCollision h n late deferred
  | hdBackoffExpiry _ => exact leaves_onLive h fun _ h => (after_expire h _ _ fun _ h => h)
  | pauseFrameRx _ _ _ _ => exact leaves_onLive h fun _ h => after_ite (after_pauseRx h _ _ _ _) h
  | pauseTimerExpiry _ _ => exact leaves_onLive h fun _ h => (after_expire h _ _ fun _ h => after_unpause h _ _)
  | pfcXoffChange _ => exact leaves_onLive h fun _ h => after_ite h (after_signalXoff h _)
  | pfcRefreshExpiry n => exact leaves_execPfcRefreshExpiry h n
  | wdogLimitExpiry n p => exact leaves_execWdogLimitExpiry h n p
  | wdogHoldoffExpiry _ _ => exact leaves_onLive h fun _ h => (after_expire h _ _ fun _ h => after_setTq h _ _ _)
  | prbsLockChange lane bits times rest => exact leaves_execPrbsLockChange h lane bits times rest
  | prbsInjOne _ _ => exact leaves_onWrite h fun _ h => after_wrPrbs h _ _
  | prbsClr _ _ => exact leaves_onWrite h fun _ h => after_wrPrbs h _ _
  | tqPortWantClear _ _ _ => exact leaves_onWrite h fun _ h => after_wrPortSvc h _ _ _
  | tqPortWantSet _ _ => exact leaves_onWrite h fun _ h => after_wrPortSvc h _ _ _
  | l2LearnInsert => exact leaves_execL2LearnInsert h
  | ageSweepVisit flow ix ecc bank => exact leaves_execAgeSweepVisit h flow ix ecc bank
  | tblEpochSwap _ => exact leaves_onWrite h fun _ h => after_wrEpoch h _
  | tblEpochDrainDone => exact leaves_execTblEpochDrainDone h
  | tblSwapStuckExpiry =>
    exact leaves_onLive h fun _ h => (after_expire h _ _ fun _ h => after_ite (after_raise h _ _ _ _) h)
  | tblRead _ _ _ => exact leaves_onWrite h fun _ h => after_wrTblCmd h _
  | tblWrite _ _ _ => exact leaves_onWrite h fun _ h => after_wrTblCmd h _
  | tblInvalidate _ _ _ => exact leaves_onWrite h fun _ h => after_wrTblCmd h _
  | tblInsert _ _ => exact leaves_onWrite h fun _ h => after_wrTblCmd h _
  | tblDelete _ _ => exact leaves_onWrite h fun _ h => after_wrTblCmd h _
  | tblSearch _ _ => exact leaves_onWrite h fun _ h => after_wrTblCmd h _
  | tblCmdDone => exact leaves_onLive h fun _ h => after_setF h _ _ _
  | tblBankTakeOut _ _ => exact leaves_onWrite h fun _ h => after_wrBankCmd h _
  | tblBankReturn _ _ => exact leaves_onWrite h fun _ h => after_wrBankCmd h _
  | tblBankCopyDone b => exact leaves_execTblBankCopyDone h b
  | kpPgRead _ _ _ _ => exact leaves_onWrite h fun _ h => after_wrPgCmd h _ _
  | kpPgWrite _ _ _ _ => exact leaves_onWrite h fun _ h => after_wrPgCmd h _ _
  | kpPgCmdDone _ => exact leaves_onLive h fun _ h => after_setF h _ _ _
  | endOfPass k => exact leaves_execEndOfPass h k
  | tellerDispatch => exact leaves_execTellerDispatch h
  | insScanDone e => exact leaves_execInsScanDone h e
  | tlrTake _ => exact leaves_onWrite h fun _ h => after_wrTake h _
  | tlrDeliver => exact leaves_execTlrDeliver h
  | tlrDone _ _ _ => exact leaves_onWrite h fun _ h => after_wrDone h _
  | tlrSwTimeout => exact leaves_execTlrSwTimeout h
  | tlrCancelId _ _ => exact leaves_onWrite h fun _ h => after_wrCancel h _
  | tlrCancelDomain _ _ => exact leaves_onWrite h fun _ h => after_wrCancel h _
  | tlrWaitTimeout => exact leaves_execTlrWaitTimeout h
  | insEngineFault e => exact leaves_execInsEngineFault h e
  | insEngWantClear _ _ => exact leaves_onWrite h fun _ h => after_wrEngSvc h _ _
  | insEngWantSet _ _ => exact leaves_onWrite h fun _ h => after_wrEngSvc h _ _
  | tblActRead _ _ _ => exact leaves_onWrite h fun _ h => after_wrActCmd h _
  | tblActWrite _ _ _ => exact leaves_onWrite h fun _ h => after_wrActCmd h _
  | tblActInvalidate _ _ _ => exact leaves_onWrite h fun _ h => after_wrActCmd h _
  | tblActCmdDone => exact leaves_onLive h fun _ h => after_setF h _ _ _
  | insPatRead _ _ _ => exact leaves_onWrite h fun _ h => after_wrPatCmd h _
  | insPatWrite _ _ _ => exact leaves_onWrite h fun _ h => after_wrPatCmd h _
  | insPatInvalidate _ _ _ => exact leaves_onWrite h fun _ h => after_wrPatCmd h _
  | insPatCmdDone => exact leaves_onLive h fun _ h => after_setF h _ _ _
  | tmgEnqueue => exact leaves_execTmgEnqueue h
  | tmgDeepReadback q lost => exact leaves_execTmgDeepReadback h q lost
  | tmgDequeue node => exact leaves_execTmgDequeue h node
  | purseStep => exact leaves_next (after_stepPurses (after_elapse h _))
  | gateEntryStart _ => exact leaves_onLive h fun _ h => after_showGates (after_reachTime h _) _
  | gclCommit _ _ _ _ _ => exact leaves_onWrite h fun _ h => after_wrGclCtrl h _ _
  | gclHandover n => exact leaves_execGclHandover h n
  | bcMapCommit _ _ => exact leaves_onWrite h fun _ h => after_wrMapCtrl h _ _
  | bcMapHandover c => exact leaves_execBcMapHandover h c
  | tillStage c => exact leaves_execTillStage h c
  | allocCutoff c => exact leaves_execAllocCutoff h c
  | bcPanicChange c => exact leaves_execBcPanicChange h c
  | tmgQRead _ _ _ => exact leaves_onWrite h fun _ h => after_wrQCmd h _
  | tmgQWrite _ _ _ => exact leaves_onWrite h fun _ h => after_wrQCmd h _
  | tmgPurseRead _ _ _ => exact leaves_onWrite h fun _ h => after_wrPurseCmd h _
  | tmgPurseWrite _ _ _ => exact leaves_onWrite h fun _ h => after_wrPurseCmd h _
  | tmgGclReadAdmin _ _ _ => exact leaves_onWrite h fun _ h => after_wrGclCmd h _
  | tmgGclWriteAdmin _ _ _ => exact leaves_onWrite h fun _ h => after_wrGclCmd h _
  | tmgGclReadOper _ _ _ => exact leaves_onWrite h fun _ h => after_wrGclCmd h _
  | tmgCmdDone _ => exact leaves_onLive h fun _ h => after_setF h _ _ _
  | bcMapReadStandby _ _ _ => exact leaves_onWrite h fun _ h => after_wrMapCmd h _ _
  | bcMapWriteStandby _ _ _ => exact leaves_onWrite h fun _ h => after_wrMapCmd h _ _
  | bcMapReadActive _ _ _ => exact leaves_onWrite h fun _ h => after_wrMapCmd h _ _
  | bcMapCmdDone _ => exact leaves_onLive h fun _ h => after_setF h _ _ _
  | timSetTime _ => exact leaves_onWrite h fun _ h => after_wrAdjCmd h _
  | timAddOffset _ => exact leaves_onWrite h fun _ h => after_wrAdjCmd h _
  | timSetRate _ => exact leaves_onWrite h fun _ h => after_wrAdjCmd h _
  | timAdjApply => exact leaves_onLive h fun _ h => after_adjApply h
  | timSnapshot _ => exact leaves_onWrite h fun _ h => after_wrSnapCtrl h _
  | replicaSerialWord _ _ _ => exact leaves_next (after_ite (after_repWord h _ _ _) h)
  | servoSample => exact leaves_execServoSample h
  | servoSwSample _ _ => exact leaves_onWrite h fun _ h => after_wrServoSample h _
  | servoSrcWrite _ _ => exact leaves_onWrite h fun _ h => after_wrSrcCfg h _
  | servoSrcTimeout => exact leaves_onLive h fun _ h => (after_expire h _ _ fun _ h => after_servoHold h _)
  | holdLimitExpiry => exact leaves_execHoldLimitExpiry h
  | tsPop _ _ => exact leaves_onWrite h fun _ h => after_wrTsCtrl h _ _
  | tsFlush _ _ => exact leaves_onWrite h fun _ h => after_wrTsCtrl h _ _
  | timPtodGo _ _ => exact leaves_onWrite h fun _ h => after_wrPtodCtrl h _
  | timPtodComplete => exact leaves_execTimPtodComplete h
  | synceInputFault _ => exact leaves_onLive h fun _ h => after_ite h (after_ite h (after_synceFail h _))
  | synceSelWrite _ _ _ => exact leaves_onWrite h fun _ h => after_wrSynceCfg h _ _
  | synceRecoveryExpiry => exact leaves_execSynceRecoveryExpiry h
  | synceLocked fofs => exact leaves_execSynceLocked h fofs
  | ppsInEdge st => exact leaves_execPpsInEdge h st
  | ppsInLossTimeout => exact leaves_execPpsInLossTimeout h
  | ppsOutEdge => exact leaves_execPpsOutEdge h
  | todRxByte b => exact leaves_execTodRxByte h b
  | todTxWrite _ _ => exact leaves_onWrite h fun _ h => after_wrTodTx h _
  | todTxStart => exact leaves_execTodTxStart h
  | todRxPop _ => exact leaves_onWrite h fun _ h => after_wrTodRx h _
  | aonOwnCmdWrite _ _ _ => exact leaves_onWrite h fun _ h => after_wrOwnCmd h _
  | fuseProgramDone => exact leaves_next (after_fuseDone h)
  | jobGcmEnc _ _ _ _ _ => exact leaves_next (after_jobGo h _ _ _ _ _ _)
  | jobGcmDec _ _ _ _ _ => exact leaves_next (after_jobGo h _ _ _ _ _ _)
  | jobCtr _ _ _ _ _ => exact leaves_next (after_jobGo h _ _ _ _ _ _)
  | jobCmac _ _ _ _ _ => exact leaves_next (after_jobGo h _ _ _ _ _ _)
  | jobSha384 _ _ _ _ _ => exact leaves_next (after_jobGo h _ _ _ _ _ _)
  | jobHmacSha384 _ _ _ _ _ => exact leaves_next (after_jobGo h _ _ _ _ _ _)
  | jobEcdsaVerify _ _ _ _ _ => exact leaves_next (after_jobGo h _ _ _ _ _ _)
  | jobRandom _ _ _ _ => exact leaves_next (after_jobGo h _ _ _ _ _ _)
  | jobKeyGen _ _ _ _ => exact leaves_next (after_jobGo h _ _ _ _ _ _)
  | jobKdf _ _ _ _ _ => exact leaves_next (after_jobGo h _ _ _ _ _ _)
  | jobUnwrap _ _ _ _ _ => exact leaves_next (after_jobGo h _ _ _ _ _ _)
  | jobAttest _ _ _ _ _ => exact leaves_next (after_jobGo h _ _ _ _ _ _)
  | jobCert _ _ _ _ => exact leaves_next (after_jobGo h _ _ _ _ _ _)
  | jobOwnerCmd _ _ _ _ _ => exact leaves_next (after_jobGo h _ _ _ _ _ _)
  | jobDebugChal _ _ _ _ => exact leaves_next (after_jobGo h _ _ _ _ _ _)
  | jobDebugResp _ _ _ _ _ => exact leaves_next (after_jobGo h _ _ _ _ _ _)
  | jobRmaChal _ _ _ _ => exact leaves_next (after_jobGo h _ _ _ _ _ _)
  | jobRmaResp _ _ _ _ _ => exact leaves_next (after_jobGo h _ _ _ _ _ _)
  | jobBadOp _ _ _ _ _ => exact leaves_next (after_jobGo h _ _ _ _ _ _)
  | vltJobComplete p busErr => exact leaves_execVltJobComplete h p busErr
  | keyWrite _ _ _ => exact leaves_next (after_onVlt h _ _ _ _ fun _ h => after_wrKeyCmd h _ _)
  | keyErase _ _ _ => exact leaves_next (after_onVlt h _ _ _ _ fun _ h => after_wrKeyCmd h _ _)
  | keyReadAttr _ _ _ => exact leaves_next (after_onVlt h _ _ _ _ fun _ h => after_wrKeyCmd h _ _)
  | keyCmdComplete p => exact leaves_execKeyCmdComplete h p
  | mintHealthFail _ => exact leaves_onLive h fun _ h => after_raise (after_count (after_setMint h _) _ _) _ _ _ _
  | mintRestart _ => exact leaves_onWrite h fun _ h => after_wrMintCtrl h _
  | mintRestartDone pass => exact leaves_execMintRestartDone h pass
  | mintReseedExpiry =>
    exact leaves_next (after_ite (after_expire h _ _ (fun _ h => after_ite (after_mintReseed h) h)) h)
  | nonceExpiry rma => exact leaves_execNonceExpiry h rma
  | debugClose _ => exact leaves_onWrite h fun _ h => after_wrDbgCtrl h _
  | cryptCompareMismatch engine lane => exact leaves_execCryptCompareMismatch h engine lane
  | slotEccError _ => exact leaves_onLive h fun _ h => after_vaultFault (after_count (after_setSlot h _ _) _ _) _ _ _
  | tqSecRead _ _ _ _ => exact leaves_onWrite h fun _ h => after_wrSecCmd h _ _
  | tqSecWrite _ _ _ _ => exact leaves_onWrite h fun _ h => after_wrSecCmd h _ _
  | tqSecInvalidate _ _ _ _ => exact leaves_onWrite h fun _ h => after_wrSecCmd h _ _
  | tqSecCmdDone _ => exact leaves_onLive h fun _ h => after_setF h _ _ _
  | fwVerifyDone image => exact leaves_execFwVerifyDone h image
  | stwReadyWrite _ => exact leaves_onWrite h fun _ h => after_ite (after_stwReady h) h
  | stwReadyTimeout => exact leaves_expire h fun _ h => after_fwFail h _
  | stwWdogKick _ => exact leaves_onWrite h fun _ h => after_ite (after_kickWdog h) h
  | stwWdogExpiry => exact leaves_expire h fun _ h => after_stwDrain (after_raise (after_count h _ _) _ _ _ _)
  | stwRestartCmd _ _ => exact leaves_onWrite h fun _ h => after_wrStwCtrl h _
  | stwSwitchCmd _ _ _ _ => exact leaves_onWrite h fun _ h => after_wrStwCtrl h _
  | stwGraceExpiry => exact leaves_expire h fun _ h => after_ite h (after_stwGo (after_stwForget h) _)
  | omciMessage c r => exact leaves_execOmciMessage h c r
  | omciHostAckTimeout => exact leaves_expire h fun _ h => after_omciHostDone h _
  | opticsPoll c optics => exact leaves_execOpticsPoll h c optics
  | mailboxH2sGo => exact leaves_onWrite h fun _ h => after_wrMbH2s h _ _
  | mailboxS2hGo => exact leaves_onWrite h fun _ h => after_wrMbS2h h _ _
  | mailboxH2sAck => exact leaves_onWrite h fun _ h => after_wrMbH2s h _ _
  | mailboxS2hAck => exact leaves_onWrite h fun _ h => after_wrMbS2h h _ _
  | stwPktCopy _ _ => exact leaves_onWrite h fun _ h => after_wrPktCmd h _ _
  | hstPktCopy _ _ => exact leaves_onWrite h fun _ h => after_wrPktCmd h _ _
  | pktCopyDone _ => exact leaves_next (after_ite (after_setF h _ _ _) (after_setF h _ _ _))
  | mcTrainDone c pass step margins => exact leaves_execMcTrainDone h c pass step margins
  | dramCommandIssue c arrivals => exact leaves_execDramCommandIssue h c arrivals
  | dramReadReturn c ecc syndrome page => exact leaves_execDramReadReturn h c ecc syndrome page
  | refreshInterval c => exact leaves_execRefreshInterval h c
  | refreshWindowClear _ => exact leaves_onLive h fun _ h => after_setMc h _ _
  | mr4Poll c rate => exact leaves_execMr4Poll h c rate
  | mcPanicClear _ => exact leaves_onLive h fun _ h => after_ite h (after_issueDebt (after_setMcF h _ _ _) _)
  | scrubVisit _ _ _ _ _ => exact leaves_onLive h fun _ h => after_ite h (after_mcAccept h _ _)
  | mcSvcWantClear _ _ => exact leaves_onWrite h fun _ h => after_wrMcSvc h _ _
  | mcSvcWantSet _ _ => exact leaves_onWrite h fun _ h => after_wrMcSvc h _ _
  | mcSvcDrainDone _ => exact leaves_onLive h fun _ h => after_ite (after_mcGo h _ _) h
  | mcSvcDrainTimeout c => exact leaves_execMcSvcDrainTimeout h c
  | mcUnitInitDone c => exact leaves_execMcUnitInitDone h c
  | mcEccClr _ _ => exact leaves_onWrite h fun _ h => after_wrEccClr h _ _
  | mccTraceEnSet _ => exact leaves_onWrite h fun _ h => after_wrTraceCfg h _
  | mccTraceRead _ _ => exact leaves_onWrite h fun _ h => after_wrTraceCmd h _
  | ledgerRecordRead _ _ => exact leaves_onWrite h fun _ h => after_wrLgrCmd h _
  | recordReadDone _ => exact leaves_next (after_ite (after_setF h _ _ _) (after_setF h _ _ _))
  | bar0BadRequest a write byteEnables => exact leaves_execBar0BadRequest h a write byteEnables
  | hstReadTimeout a => exact leaves_execHstReadTimeout h a
  | hostPathDown why => exact leaves_execHostPathDown h why
  | pcieLinkChange now gen width => exact leaves_execPcieLinkChange h now gen width
  | dcDoorbell _ _ _ => exact leaves_onWrite h fun _ h => after_wrDb h _ _
  | descriptorFetch _ _ _ => exact leaves_next (after_ite (after_dmaRead h _ _ _) h)
  | staleRereadExpiry _ _ _ => exact leaves_expire h fun _ h => after_ite (after_dmaRead h _ _ _) h
  | descriptorComplete _ => exact leaves_next (after_ite (after_dmaComplete h _) h)
  | dmaBusError _ _ _ _ => exact leaves_next (after_ite (after_dmaBusErr h _ _ _ _) h)
  | dcStart _ _ => exact leaves_onWrite h fun _ h => after_wrDcCtrl h _ _ _
  | dcAbort _ _ _ => exact leaves_onWrite h fun _ h => after_wrDcCtrl h _ _ _
  | dcCommit _ _ => exact leaves_onWrite h fun _ h => after_wrDcCtrl h _ _ _
  | evtAccept => exact leaves_execEvtAccept h
  | evtRingCiWrite _ _ _ => exact leaves_onWrite h fun _ h => after_wrRingCi h _ _
  | msixCoalesceExpiry _ => exact leaves_expire h fun _ h => after_msixSend h _
  | msixMaskClear v => exact leaves_execMsixMaskClear h v
  | pwrGo _ _ _ => exact leaves_onWrite h fun _ h => after_wrPwrCtrl h _
  | islandPowerReply isl reply => exact leaves_execIslandPowerReply h isl reply
  | pwrDelayMaxExpiry => exact leaves_expire h fun _ h => after_ite h (after_pwrAbort h _ _)
  | islandCommitStep => exact leaves_execIslandCommitStep h
  | wakeEvent _ _ _ => exact leaves_next (after_ite (after_wakePin h _ _) (after_wake (after_wakePin h _ _) _))
  | wakeTimerExpiry => exact leaves_expire h fun _ h => after_wake (after_mk.2 (after_eq.2 h)) _
  | islandExitStep => exact leaves_execIslandExitStep h
  | regulatorReadyTimeout _ => exact leaves_next (after_stepFails h _ _)
  | oscillatorReadyTimeout _ => exact leaves_next (after_stepFails h _ _)
  | clkSwitch _ => exact leaves_onWrite h fun _ h => after_wrClkCtrl h _
  | crystalLost ms => exact leaves_execCrystalLost h ms
  | dvfsVoltWrite _ _ _ => exact leaves_onWrite h fun _ h => after_wrDvfsV h _ _
  | dvfsFreqWrite _ _ => exact leaves_onWrite h fun _ h => after_wrDvfsF h _
  | dvfsSettleExpiry => exact leaves_expire h fun _ h => after_dvfsDone (after_setF (after_setF h _ _ _) _ _ _)
  | dvfsFreqDone => exact leaves_next (after_ite (after_dvfsDone (after_setF (after_setF h _ _ _) _ _ _)) h)
  | sagOnset pin mon mv late => exact leaves_execSagOnset h pin mon mv late
  | sagClear mv => exact leaves_execSagClear h mv
  | islandFaultDetect _ _ _ => exact leaves_next (after_islandFault h _ _ _)
  | islandDrainDone isl => exact leaves_execIslandDrainDone h isl
  | islTakeOut _ _ => exact leaves_onWrite h fun _ h => after_wrIslCmd h _
  | islReturn _ _ => exact leaves_onWrite h fun _ h => after_wrIslCmd h _
  | islReset _ _ => exact leaves_onWrite h fun _ h => after_wrIslCmd h _
  | islReturnTestDone pass => exact leaves_execIslReturnTestDone h pass
  | tallyRead _ _ _ => exact leaves_onWrite h fun _ h => after_wrTallyCmd h _
  | tallyReadClear _ _ _ => exact leaves_onWrite h fun _ h => after_wrTallyCmd h _
  | tallyClear _ _ _ => exact leaves_onWrite h fun _ h => after_wrTallyCmd h _
  | tallyCmdDone => exact leaves_next (after_setF h _ _ _)
  | pmcCtrWrite _ _ _ _ => exact leaves_onWrite h fun _ h => after_wrPmcCtr h _ _ _
  | pmcSnap _ => exact leaves_onWrite h fun _ h => after_wrPmcCtrl h _
  | samplerTrigger k skid => exact leaves_execSamplerTrigger h k skid
  | chkScanGo _ _ _ _ _ => exact leaves_onWrite h fun _ h => after_wrChkCtrl h _ _
  | chkScanDone _ _ _ => exact leaves_onLive h fun _ h => after_ite (after_dmaWake (after_scanEnd h _ _ _)) h
  | chkScrubStart => exact leaves_execChkScrubStart h
  | chkScrubDone _ _ => exact leaves_onLive h fun _ h => after_ite (after_dmaWake (after_scrubEnd h _ _)) h
  | evtSoftHostGo _ _ _ => exact leaves_onWrite h fun _ h => after_wrSoft h _ _ _
  | evtSoftStewardGo _ _ _ => exact leaves_onWrite h fun _ h => after_wrSoft h _ _ _
  | tempSensorRead hot => exact leaves_execTempSensorRead h hot
  | tqFecLockChange _ _ => exact leaves_onLive h fun _ h => after_ite h (after_showLink (after_setTq h _ _ _) _ _)
  | rhThrottleHoldExpiry _ _ _ =>
    exact leaves_onLive h fun _ h => (after_expire h _ _ fun _ h => after_mk.2 (after_eq.2 h))
  | p3ExitPllLock => exact leaves_execP3ExitPllLock h
  | hostPathUp => exact leaves_next (after_ite (after_setF h _ _ _) h)
  | lifecycleAdvance _ => exact leaves_next (after_ite (after_setLife h _) h)
  | railEntersRange r => exact leaves_execRailEntersRange h r

/-- Settles O6: each command's meaning is built from operations that stay within After. -/
theorem everyCommandCompletes : Obligations.EveryCommandCompletes := fun c _ hs => leaves_exec c (after_self hs)

end Sys2Proof.Machine
end

section
/-! Proof of what a step and a reset are, and of the island windows: the queue's front (O1), the state after reset (O3),
headers (O8), live bits (O9) and reserved windows (O10). -/

namespace Sys2Proof.Machine

variable {s : State}

/-! ### What a discarded write leaves -/

theorem reg_countDiscard {b : Nat} (h : b ≠ aonB + F.AON_SEAL.DISCARDS.off) : s.countDiscard.reg b = s.reg b :=
  reg_setF_other s _ h

theorem reg_darkAccess {b : Nat} (a : Nat) (write : Bool) (hstatus : b ≠ hstB + F.HST_STATUS.DARK_ACCESS.off)
    (haddr : b ≠ hstB + F.HST_DARK_ADDR.ADDR.off) : (s.darkAccess a write).reg b = s.reg b := by
  have hwrite : b ≠ hstB + F.HST_DARK_ADDR.WRITE.off := haddr
  simp only [State.darkAccess, State.setBit, reg_raise, reg_count]
  rw [reg_setF_other _ _ haddr, reg_setF_other _ _ hwrite, reg_setF_other _ _ hstatus]

@[simp] theorem darkAccess_out (a : Nat) (write : Bool) : (s.darkAccess a write).out = s.out := by
  rw [State.darkAccess, raise_out, count_out, setF_out, setBit_out, setF_out]

/-- A register that no check of R531 records in keeps its value where the write's own effect leaves it. -/
theorem reg_onWrite {b : Nat} {act : State → State} (m : Master) (a : Nat)
    (hseal : b ≠ aonB + F.AON_SEAL.DISCARDS.off) (hstatus : b ≠ hstB + F.HST_STATUS.DARK_ACCESS.off)
    (haddr : b ≠ hstB + F.HST_DARK_ADDR.ADDR.off) (hact : (act s).reg b = s.reg b) :
    (s.onWrite m a act).reg b = s.reg b := by
  unfold State.onWrite
  split
  · exact reg_countDiscard hseal
  · split
    · rfl
    · split
      · exact reg_darkAccess a true hstatus haddr
      · split
        · simp [State.reg]
        · split
          · exact reg_count ..
          · exact hact

/-- Outside the job ports' pages a BAR0 write passes the checks of R531. -/
theorem busWrite_eq_onWrite {m : Master} {a v : Nat} (h : jobPort a = none) :
    s.busWrite m a v = s.onWrite m a fun s => s.wrWord m a v := by
  simp [State.busWrite, h]

theorem exec_write_bar0 (m : Master) (a : BitVec 24) (v : Word) :
    exec (.registerWrite m (.bar0 a) v) s = .next (s.busWrite m (4 * a.toNat) v.toNat) := rfl

theorem exec_read (m : Master) (a : BitVec 24) :
    exec (.rcRegisterRead m a) s = .next (s.busRead m (4 * a.toNat)) := rfl

/-! ### Where an offset lies -/

/-- A BAR0 offset names its window by all its bits above the window's. -/
theorem islandOf_word (a : BitVec 24) : islandOf (4 * a.toNat) = 4 * a.toNat / 0x100000 := by
  have := a.isLt
  unfold islandOf
  omega

theorem islandOf_window {id o : Nat} (hid : id < 64) (ho : o < 0x100000) : islandOf (window id + o) = id := by
  unfold islandOf window
  omega

theorem offsetOf_window {id o : Nat} (ho : o < 0x100000) : offsetOf (window id + o) = o := by
  unfold offsetOf window
  omega

/-- The job ports' pages lie at 0x100 to 0x2FF of the Vault's window. -/
theorem jobPort_eq_none {a : Nat} (h : islandOf a ≠ 0x2C ∨ offsetOf a < 0x100 ∨ 0x300 ≤ offsetOf a) :
    jobPort a = none := by
  unfold jobPort
  rw [if_neg (by omega)]

theorem islandInst_lt {id n : Nat} (h : islandInst id = some n) : id < 64 ∧ n < 256 := by
  by_contra hc
  have : id < 64 := by
    by_contra hid
    simp only [islandInst] at h
    repeat rw [if_neg (by omega)] at h
    cases h
  have hall : ∀ id < 64, ∀ n ∈ islandInst id, n < 256 := by decide
  exact hc ⟨this, hall id this n h⟩

/-! ### The queue and the reset state -/

/-- Settles O1: a step is defined by the front of the queue. -/
theorem stepRunsFront : Obligations.StepRunsFront := by
  unfold Obligations.StepRunsFront
  intro c rest s h
  simp only [step, h]

/-- Settles O3: the maps of the reset state are empty, so each reads its default. -/
theorem resetState : Obligations.ResetState := by
  unfold Obligations.ResetState
  refine ⟨fun _ => rfl, fun _ => rfl, fun _ _ => rfl, fun _ => rfl, rfl, rfl, rfl, rfl, rfl, rfl, ?_, ?_⟩
  · decide +kernel
  · decide +kernel

/-! ### Headers -/

/-- Where an island's header lies. -/
def headerAt (id : Nat) : Nat := window id + 0xFFC

/-- The header of an island whose count is `n` (R15). -/
def headerWord (id n : Nat) : Word := BitVec.ofNat 32 (id * 2 ^ 24 + n * 2 ^ 16 + 0x00B0)

theorem reg_reset_headerAt {id n : Nat} (hid : id < 64) (h : islandInst id = some n) :
    State.reset.reg (headerAt id) = headerWord id n := by
  have hall : ∀ id < 64, ∀ n ∈ islandInst id, State.reset.reg (headerAt id) = headerWord id n := by decide +kernel
  exact hall id hid n h

/-- No register of a window's table lies at its header, nor any word of a counter. -/
theorem headerAt_plain {id : Nat} (hid : id < 64) :
    (findReg (headerAt id)).isNone ∧ isCounterWord (headerAt id) = false ∧ isPmcWord (headerAt id) = false := by
  have hall : ∀ id < 64, (findReg (headerAt id)).isNone ∧ isCounterWord (headerAt id) = false ∧
      isPmcWord (headerAt id) = false := by decide +kernel
  exact hall id hid

/-- The low half of a header is 0x00B0, so no header is all ones. -/
theorem headerWord_ne_allOnes (id n : Nat) : headerWord id n ≠ 0xFFFFFFFF#32 := by
  intro h
  have := congrArg (fun w : Word => w.toNat % 2 ^ 16) h
  simp only [headerWord, BitVec.toNat_ofNat] at this
  omega

theorem reg_busWrite_headerAt {id v : Nat} (hid : id < 64) (m : Master) :
    (s.busWrite m (headerAt id) v).reg (headerAt id) = s.reg (headerAt id) := by
  have hoff : offsetOf (headerAt id) = 0xFFC := offsetOf_window (by decide)
  have hw : s.wrWord m (headerAt id) v = s := by simp [State.wrWord, (headerAt_plain hid).1]
  rw [busWrite_eq_onWrite (jobPort_eq_none (by omega))]
  refine reg_onWrite m _ ?_ ?_ ?_ (by rw [hw])
  all_goals
    intro e
    rw [e] at hoff
    exact absurd hoff (by decide)

/-- A read of a dark window answers all ones (R492). -/
theorem busRead_dark {a : Nat} (m : Master) (hinst : (islandInst (islandOf a)).isSome)
    (hdark : s.live (islandOf a) = false) :
    (s.busRead m a).out = s.out ++ [.readData m a 0xFFFFFFFF] := by
  have hread : s.busRead m a = (s.darkAccess a false).emit (.readData m a 0xFFFFFFFF) := by
    simp [State.busRead, hdark, Option.isSome_iff_ne_none.1 hinst]
  rw [hread, State.emit, darkAccess_out]

/-- A read of a live island's header answers what it holds. -/
theorem busRead_liveHeader {a : Nat} (m : Master) (hhdr : isHeader a = true) (hlive : s.live (islandOf a) = true)
    (hctr : isCounterWord a = false) (hpmc : isPmcWord a = false) :
    (s.busRead m a).out = s.out ++ [.readData m a (s.reg a)] := by
  have hinst : islandInst (islandOf a) ≠ none := by
    simp only [isHeader, Bool.and_eq_true] at hhdr
    exact Option.isSome_iff_ne_none.1 hhdr.2
  simp [State.busRead, hinst, hlive, hctr, hpmc, State.readReg, hhdr, State.emit]

theorem busRead_headerAt {id n : Nat} (hid : id < 64) (hn : islandInst id = some n) (m : Master) :
    (s.busRead m (headerAt id)).out = s.out ++ [.readData m (headerAt id)
      (if s.live id then s.reg (headerAt id) else 0xFFFFFFFF)] := by
  obtain ⟨-, hctr, hpmc⟩ := headerAt_plain hid
  have hisl : islandOf (headerAt id) = id := islandOf_window hid (by decide)
  have hoff : offsetOf (headerAt id) = 0xFFC := offsetOf_window (by decide)
  have hinst : (islandInst (islandOf (headerAt id))).isSome := by rw [hisl, hn]; rfl
  cases hlive : s.live id with
  | false => exact busRead_dark m hinst (by rw [hisl, hlive])
  | true => exact busRead_liveHeader m (by simp [isHeader, hoff, hinst]) (by rw [hisl, hlive]) hctr hpmc

/-- Settles O8: a header is no register of its window's table, so a write stores nothing there; a read answers what it
holds, which is never all ones. -/
theorem islandHeaders : Obligations.IslandHeaders := by
  unfold Obligations.IslandHeaders
  intro id n hn
  obtain ⟨hid, hn256⟩ := islandInst_lt hn
  refine ⟨reg_reset_headerAt hid hn, hid, hn256, fun m a v s ha => ⟨_, exec_write_bar0 .., ?_⟩, fun m a s ha hreg =>
    ⟨_, exec_read .., if s.live id then s.reg (headerAt id) else 0xFFFFFFFF, ?_, ?_, fun hlive => if_pos hlive⟩⟩
  · rw [ha]
    exact reg_busWrite_headerAt hid m
  · rw [ha]
    exact busRead_headerAt hid hn m
  · have hne : s.reg (headerAt id) ≠ 0xFFFFFFFF := fun e => headerWord_ne_allOnes id n (hreg.symm.trans e)
    cases s.live id with
    | false => exact iff_of_true rfl rfl
    | true => exact iff_of_false hne Bool.noConfusion

/-! ### Live bits -/

/-- The offset of the register that shows an island's live bit, with those of 31 others. -/
def IsLiveOff (o : Nat) : Prop := o = 0x10 ∨ o = 0x14

/-- The registers of live bits have read-only fields alone. -/
theorem findReg_live {o : Nat} (ho : IsLiveOff o) :
    ∃ r, findReg (window 0x00 + o) = some r ∧ ∀ f ∈ r.fields, f.acc = .ro := by
  obtain rfl | rfl := ho
  · exact ⟨⟨0x10, [], [⟨F.AON_ISL_LIVE0.LIVE, .ro, 0x3⟩]⟩, by rfl, by simp⟩
  · exact ⟨⟨0x14, [], [⟨F.AON_ISL_LIVE1.LIVE, .ro, 0x0⟩]⟩, by rfl, by simp⟩

/-- A store changes no read-only field (R7). -/
theorem storeFields_readOnly (locked : Bool) (v w : Nat) {l : List FieldSpec} (h : ∀ f ∈ l, f.acc = .ro) :
    l.foldl (fun w f => storeField locked w v f) w = w := by
  induction l generalizing w with
  | nil => rfl
  | cons f l ih =>
    obtain ⟨hf, hl⟩ := List.forall_mem_cons.1 h
    have : storeField locked w v f = w := by simp [storeField, hf]
    rw [List.foldl_cons, this, ih w hl]

/-- A store to a register of read-only fields leaves it. -/
theorem reg_store_readOnly {a : Nat} {r : RegSpec} (v : Nat) (hr : findReg a = some r)
    (hro : ∀ f ∈ r.fields, f.acc = .ro) (hseal : a ≠ aonB + F.AON_SEAL.DISCARDS.off) :
    (s.store a v).reg a = s.reg a := by
  simp only [State.store, hr, storeFields_readOnly _ _ _ hro, BitVec.ofNat_toNat, BitVec.setWidth_eq]
  split
  · rw [reg_raise, reg_countDiscard hseal, reg_setReg_same]
  · rw [reg_setReg_same]

theorem reg_wrWord_live {o : Nat} (ho : IsLiveOff o) (m : Master) (v : Nat) :
    (s.wrWord m (window 0x00 + o) v).reg (window 0x00 + o) = s.reg (window 0x00 + o) := by
  obtain ⟨r, hr, hro⟩ := findReg_live ho
  have hstore : s.wrWord m (window 0x00 + o) v = s.store (window 0x00 + o) v := by
    rw [State.wrWord, hr]
    obtain rfl | rfl := ho
    · rfl
    · rfl
  rw [hstore]
  exact reg_store_readOnly v hr hro (by obtain rfl | rfl := ho <;> decide)

theorem reg_busWrite_live {o : Nat} (ho : IsLiveOff o) (m : Master) (v : Nat) :
    (s.busWrite m (window 0x00 + o) v).reg (window 0x00 + o) = s.reg (window 0x00 + o) := by
  have hw := reg_wrWord_live (s := s) ho m v
  obtain rfl | rfl := ho
  all_goals
    rw [busWrite_eq_onWrite (jobPort_eq_none (by decide))]
    exact reg_onWrite m _ (by decide) (by decide) (by decide) hw

/-- Settles O9: a live bit is the bit of its register by definition, and the two registers' fields are read-only. -/
theorem liveRegisters : Obligations.LiveRegisters := by
  unfold Obligations.LiveRegisters
  refine ⟨fun s n hn => ⟨?_, ?_⟩, rfl, rfl, by decide +kernel, ?_, fun m a v s ha => ⟨_, exec_write_bar0 .., ?_⟩⟩
  · rw [State.live, if_pos hn, Nat.mod_eq_of_lt hn]
    rfl
  · rw [State.live, if_neg (by omega), Nat.add_mod_left, Nat.mod_eq_of_lt hn]
    rfl
  · intro t ht
    rw [ht]
    decide +kernel
  · obtain ha | ha := ha
    · rw [ha]
      exact reg_busWrite_live (.inl rfl) m _
    · rw [ha]
      exact reg_busWrite_live (.inr rfl) m _

/-! ### Reserved windows -/

/-- Settles O10: a reserved window is not the Vault's, so the checks of R531 alone decide, and the second of them ends a
write that R54 leaves. -/
theorem reservedWindows : Obligations.ReservedWindows := by
  unfold Obligations.ReservedWindows
  refine ⟨by decide +kernel, fun m a s h => ?_, fun m a v s h => ?_, fun s => rfl⟩
  · rw [exec_read]
    simp [State.busRead, islandOf_word, h, State.emit]
  · have hvlt : islandOf (4 * a.toNat) ≠ 0x2C := by
      rw [islandOf_word]
      intro e
      rw [e] at h
      cases h
    rw [exec_write_bar0, busWrite_eq_onWrite (jobPort_eq_none (.inl hvlt))]
    simp [State.onWrite, islandOf_word, h]

end Sys2Proof.Machine
end

section
/-! Proof support: what counting a performance event (R514 to R518) reads and what it leaves. -/

namespace Sys2Proof.Machine

variable {s t : State}

/-! ### Sparse maps filtered by key -/

theorem smap_filter_erase {β : Type} (m : SMap β) {k : Nat} {P : Nat × β → Bool} (h : ∀ v, P (k, v) = false) :
    (SMap.erase m k).filter P = m.filter P := by
  induction m with
  | nil => rfl
  | cons p m ih =>
    obtain ⟨j, u⟩ := p
    by_cases e : j = k
    · subst e
      simp [SMap.erase, ih, h]
    · simp [SMap.erase, e, List.filter_cons, ih]

theorem smap_filter_ins {β : Type} (m : SMap β) {k : Nat} (v : β) {P : Nat × β → Bool} (h : ∀ v, P (k, v) = false) :
    (SMap.ins m k v).filter P = m.filter P := by
  induction m with
  | nil => simp [SMap.ins, h]
  | cons p m ih =>
    obtain ⟨j, u⟩ := p
    by_cases hlt : k < j
    · simp [SMap.ins, hlt, List.filter_cons, h]
    · by_cases e : j = k
      · subst e
        simp [SMap.ins, h]
      · simp [SMap.ins, hlt, e, List.filter_cons, ih]

/-- A write at a key outside a filter does not show in it. -/
theorem smap_filter_set {β : Type} [DecidableEq β] (d : Nat → β) (m : SMap β) {k : Nat} (v : β) {P : Nat × β → Bool}
    (h : ∀ v, P (k, v) = false) : (SMap.set d m k v).filter P = m.filter P := by
  unfold SMap.set
  split
  · exact smap_filter_erase m h
  · exact smap_filter_ins m v h

/-! ### What counting reads -/

/-- Whether an offset is that of a performance counter's configuration. -/
def IsPmcCfg (a : Nat) : Prop := pmcB + 0x100 ≤ a ∧ a < pmcB + 0x100 + 384

theorem pmcListed_setReg {a : Nat} (w : Word) (h : ¬ IsPmcCfg a) : (s.setReg a w).pmcListed = s.pmcListed := by
  unfold State.pmcListed State.setReg
  rw [smap_filter_set]
  intro v
  simpa [IsPmcCfg, and_comm] using h

theorem pmcListed_lt {c : Nat} (h : c ∈ s.pmcListed) : c < 96 := by
  simp only [State.pmcListed, List.mem_map, List.mem_filter, Bool.and_eq_true, decide_eq_true_eq] at h
  obtain ⟨p, ⟨-, -, hlt⟩, rfl⟩ := h
  omega

/-- Two states that agree on all that counting a performance event reads: PMC's registers, the live bit of EVT, and what
it adds to. -/
structure PmcLike (s t : State) : Prop where
  reg : ∀ a, a = aonB + 0x14 ∨ pmcB ≤ a → t.reg a = s.reg a
  listed : t.pmcListed = s.pmcListed
  evt : t.evt = s.evt
  sampN : t.sampN = s.sampN

theorem live_evt_congr (h : t.reg (aonB + 0x14) = s.reg (aonB + 0x14)) : t.live 0x3C = s.live 0x3C := by
  unfold State.live
  rw [if_neg (by decide), h]

theorem PmcLike.live_evt (h : PmcLike s t) : t.live 0x3C = s.live 0x3C := live_evt_congr (h.reg _ (.inl rfl))

theorem PmcLike.fld (h : PmcLike s t) (f : Fld) : t.fld pmcB f = s.fld pmcB f := by
  unfold State.fld
  rw [h.reg _ (.inr (Nat.le_add_right ..))]

theorem PmcLike.pmcCfg (h : PmcLike s t) (c : Nat) (f : Fld) : t.pmcCfg c f = s.pmcCfg c f := h.fld _

theorem PmcLike.pmcGet (h : PmcLike s t) (c : Nat) : t.pmcGet c = s.pmcGet c := by
  unfold State.pmcGet
  rw [h.reg _ (.inr (by unfold pmcCtr; omega)), h.reg _ (.inr (by unfold pmcCtr; omega))]

theorem PmcLike.pmcChained (h : PmcLike s t) (c : Nat) : t.pmcChained c = s.pmcChained c := by
  unfold State.pmcChained
  rw [h.pmcCfg]

theorem PmcLike.pmcSelects (h : PmcLike s t) (c ev inst : Nat) : t.pmcSelects c ev inst = s.pmcSelects c ev inst := by
  unfold State.pmcSelects
  rw [h.pmcCfg, h.pmcCfg]

/-! ### Counting keeps the agreement -/

theorem PmcLike.setReg (h : PmcLike s t) {a : Nat} (w : Word) (ha : ¬ IsPmcCfg a) :
    PmcLike (s.setReg a w) (t.setReg a w) where
  reg b hb := by
    by_cases e : b = a
    · rw [e, reg_setReg_same, reg_setReg_same]
    · rw [reg_setReg_other _ _ e, reg_setReg_other _ _ e, h.reg b hb]
  listed := by rw [pmcListed_setReg _ ha, pmcListed_setReg _ ha, h.listed]
  evt := h.evt
  sampN := h.sampN

theorem raise_evt_congr (hevt : t.evt = s.evt) (hlive : t.live 0x3C = s.live 0x3C) (src isl inst : Nat)
    (fs : List (Nat × Nat)) : (t.raise src isl inst fs).evt = (s.raise src isl inst fs).evt := by
  simp only [State.raise, State.raiseSev, hevt, hlive]
  split
  · rfl
  · split
    · rfl
    · rfl

theorem PmcLike.raise (h : PmcLike s t) (src isl inst : Nat) (fs : List (Nat × Nat)) :
    PmcLike (s.raise src isl inst fs) (t.raise src isl inst fs) where
  reg a ha := by rw [reg_raise, reg_raise, h.reg a ha]
  listed := by
    unfold State.pmcListed
    rw [raise_regs, raise_regs]
    exact h.listed
  evt := raise_evt_congr h.evt h.live_evt ..
  sampN := by rw [raise_sampN, raise_sampN, h.sampN]

theorem PmcLike.pmcPut (h : PmcLike s t) (c v : Nat) : PmcLike (s.pmcPut c v) (t.pmcPut c v) :=
  (h.setReg _ (by unfold IsPmcCfg pmcCtr; omega)).setReg _ (by unfold IsPmcCfg pmcCtr; omega)

theorem PmcLike.pmcOverflow (h : PmcLike s t) (c : Nat) : PmcLike (s.pmcOverflow c) (t.pmcOverflow c) := by
  have hset : PmcLike (s.setF pmcB ⟨0xC00 + 4 * (c / 32), c % 32, c % 32⟩ 1)
      (t.setF pmcB ⟨0xC00 + 4 * (c / 32), c % 32, c % 32⟩ 1) := by
    unfold State.setF
    rw [h.reg _ (.inr (Nat.le_add_right ..))]
    exact h.setReg _ (by unfold IsPmcCfg; dsimp only; omega)
  unfold State.pmcOverflow
  simp only [hset.pmcCfg]
  split
  · exact hset.raise ..
  · exact hset

theorem PmcLike.pmcAdd (h : PmcLike s t) (c n : Nat) : PmcLike (s.pmcAdd c n) (t.pmcAdd c n) := by
  have hput := h.pmcPut c (s.pmcGet c + n)
  unfold State.pmcAdd
  simp only [h.pmcGet, hput.pmcChained, hput.pmcGet]
  split
  · exact hput
  · split
    · split
      · exact hput.pmcPut ..
      · exact (hput.pmcPut ..).pmcOverflow _
    · exact hput.pmcOverflow _

theorem PmcLike.foldl_pmcAdd (h : PmcLike s t) (l : List Nat) (n : Nat) :
    PmcLike (l.foldl (fun s c => s.pmcAdd c n) s) (l.foldl (fun s c => s.pmcAdd c n) t) := by
  induction l generalizing s t with
  | nil => exact h
  | cons c l ih => exact ih (h.pmcAdd c n)

theorem PmcLike.sampCount (h : PmcLike s t) (k ev inst n : Nat) :
    PmcLike (s.sampCount k ev inst n) (t.sampCount k ev inst n) := by
  have hctr : t.sampCtr k = s.sampCtr k := by
    unfold State.sampCtr
    rw [h.fld]
  unfold State.sampCount
  rw [h.fld, hctr, h.pmcSelects]
  split
  · exact ⟨h.reg, h.listed, h.evt, by rw [h.sampN]⟩
  · exact h

/-- Counting a performance event adds the same wherever its registers read the same. -/
theorem PmcLike.pmc (h : PmcLike s t) (ev inst n : Nat) : PmcLike (s.pmc ev inst n) (t.pmc ev inst n) := by
  unfold State.pmc
  simp only [h.listed, h.pmcCfg, h.pmcChained, h.pmcSelects]
  exact ((((h.foldl_pmcAdd _ n).sampCount 0 ev inst n).sampCount 1 ev inst n).sampCount 2 ev inst n).sampCount 3 ev
    inst n

/-! ### What counting leaves -/

/-- What counting a performance event may change: the registers of R514, the events and the samplers' counts. -/
structure PmcKeeps (s t : State) : Prop where
  frame : t = { s with regs := t.regs, evt := t.evt, sampN := t.sampN }
  regs : RegsBut pmcRegs s t

theorem PmcKeeps.refl (s : State) : PmcKeeps s s := ⟨rfl, fun _ _ => rfl⟩

theorem PmcKeeps.trans {u : State} (h : PmcKeeps s t) (k : PmcKeeps t u) : PmcKeeps s u where
  frame := k.frame.trans (congrArg (fun x : State => { x with regs := u.regs, evt := u.evt, sampN := u.sampN }) h.frame)
  regs a ha := (k.regs a ha).trans (h.regs a ha)

theorem pmcKeeps_setReg {a : Nat} (w : Word) (h : a ∈ pmcRegs) : PmcKeeps s (s.setReg a w) :=
  ⟨rfl, fun _ hb => reg_setReg_other s w fun e => hb (e ▸ h)⟩

theorem raise_eq (src isl inst : Nat) (fs : List (Nat × Nat)) :
    s.raise src isl inst fs = { s with evt := (s.raise src isl inst fs).evt } := by
  unfold State.raise State.raiseSev
  split
  · rfl
  · split
    · rfl
    · rfl

theorem pmcKeeps_raise (src isl inst : Nat) (fs : List (Nat × Nat)) : PmcKeeps s (s.raise src isl inst fs) := by
  obtain ⟨v, hv⟩ : ∃ v, s.raise src isl inst fs = { s with evt := v } := ⟨_, raise_eq ..⟩
  rw [hv]
  exact ⟨rfl, fun _ _ => rfl⟩

theorem pmcCtr_mem {c : Nat} (h : c < 96) : pmcCtr c ∈ pmcRegs ∧ pmcCtr c + 4 ∈ pmcRegs := by
  unfold pmcRegs pmcCtr
  simp only [List.mem_append, List.mem_map, List.mem_range]
  exact ⟨.inl ⟨2 * c, by omega, by omega⟩, .inl ⟨2 * c + 1, by omega, by omega⟩⟩

theorem pmcOvf_mem {c : Nat} (h : c < 96) : pmcB + (0xC00 + 4 * (c / 32)) ∈ pmcRegs := by
  have : c / 32 = 0 ∨ c / 32 = 1 ∨ c / 32 = 2 := by omega
  refine List.mem_append_right _ ?_
  obtain e | e | e := this
  · rw [e]
    exact .head _
  · rw [e]
    exact .tail _ (.head _)
  · rw [e]
    exact .tail _ (.tail _ (.head _))

theorem pmcKeeps_pmcPut {c : Nat} (h : c < 96) (v : Nat) : PmcKeeps s (s.pmcPut c v) :=
  (pmcKeeps_setReg _ (pmcCtr_mem h).1).trans (pmcKeeps_setReg _ (pmcCtr_mem h).2)

theorem pmcKeeps_pmcOverflow {c : Nat} (h : c < 96) : PmcKeeps s (s.pmcOverflow c) := by
  have hset : PmcKeeps s (s.setF pmcB ⟨0xC00 + 4 * (c / 32), c % 32, c % 32⟩ 1) := pmcKeeps_setReg _ (pmcOvf_mem h)
  unfold State.pmcOverflow
  dsimp only
  split
  · exact hset.trans (pmcKeeps_raise ..)
  · exact hset

theorem pmcKeeps_pmcAdd {c : Nat} (h : c < 96) (n : Nat) : PmcKeeps s (s.pmcAdd c n) := by
  have hput := pmcKeeps_pmcPut (s := s) h (s.pmcGet c + n)
  unfold State.pmcAdd
  dsimp only
  split
  · exact hput
  · split
    next he =>
      have hodd : c + 1 < 96 := by omega
      split
      · exact hput.trans (pmcKeeps_pmcPut hodd _)
      · exact (hput.trans (pmcKeeps_pmcPut hodd _)).trans (pmcKeeps_pmcOverflow hodd)
    next => exact hput.trans (pmcKeeps_pmcOverflow h)

theorem pmcKeeps_foldl {l : List Nat} (h : ∀ c ∈ l, c < 96) (n : Nat) :
    PmcKeeps s (l.foldl (fun s c => s.pmcAdd c n) s) := by
  induction l generalizing s with
  | nil => exact .refl s
  | cons c l ih =>
    obtain ⟨hc, hl⟩ := List.forall_mem_cons.1 h
    exact (pmcKeeps_pmcAdd hc n).trans (ih hl)

theorem pmcKeeps_sampCount (k ev inst n : Nat) : PmcKeeps s (s.sampCount k ev inst n) := by
  unfold State.sampCount
  split
  · exact ⟨rfl, fun _ _ => rfl⟩
  · exact .refl s

theorem pmcKeeps_pmc (ev inst n : Nat) : PmcKeeps s (s.pmc ev inst n) := by
  unfold State.pmc
  dsimp only
  refine ((((pmcKeeps_foldl (fun c hc => ?_) n).trans (pmcKeeps_sampCount ..)).trans (pmcKeeps_sampCount ..)).trans
    (pmcKeeps_sampCount ..)).trans (pmcKeeps_sampCount ..)
  exact pmcListed_lt (List.mem_of_mem_filter hc)

end Sys2Proof.Machine
end

section
/-! Proof support: what the operations on a DMA channel (R449 to R459) read and leave. -/

namespace Sys2Proof.Machine

variable {s t u : State} {d : Nat}

/-! ### Where the registers lie -/

/-- An offset in the windows of DMA or CHK. -/
def IsDmaReg (a : Nat) : Prop := window 0x3B ≤ a ∧ a < pmcB

theorem isDmaReg_page (hd : d < 32) {o : Nat} (ho : o < 0x1000) : IsDmaReg (dcB d + o) := by
  unfold IsDmaReg dcB pmcB window
  omega

theorem descUnit_lt (e : List Byte) : descUnit e < 4 := Nat.mod_lt _ (by decide)

theorem isDmaReg_unit (e : List Byte) : IsDmaReg (chkB (descUnit e)) := by
  have := descUnit_lt e
  unfold IsDmaReg chkB pmcB window
  omega

theorem unit_ne_page (hd : d < 32) {o : Nat} (ho : o < 0x1000) (e : List Byte) : chkB (descUnit e) ≠ dcB d + o := by
  unfold chkB dcB window
  omega

theorem live_ne_page (d : Nat) {o : Nat} : aonB + 0x14 ≠ dcB d + o := by
  unfold aonB dcB window
  omega

theorem pmcB_le_of_mem {a : Nat} (h : a ∈ pmcRegs) : pmcB ≤ a := by
  obtain h | h := List.mem_append.1 h
  · obtain ⟨k, -, rfl⟩ := List.mem_map.1 h
    omega
  · simp only [List.mem_cons, List.not_mem_nil, or_false] at h
    omega

theorem live_ne_unit (e : List Byte) : aonB + 0x14 ≠ chkB (descUnit e) := by
  unfold aonB chkB window
  omega

theorem live_not_mem_pmcRegs : aonB + 0x14 ∉ pmcRegs := fun h => absurd (pmcB_le_of_mem h) (by decide)

theorem IsDmaReg.not_mem_pmcRegs {a : Nat} (h : IsDmaReg a) : a ∉ pmcRegs := fun ha =>
  absurd (pmcB_le_of_mem ha) (Nat.not_le_of_lt h.2)

/-! ### Steps that change registers alone -/

/-- `t` is `s` but for registers at the listed offsets, none of them a performance counter's configuration. -/
structure RegStep (l : List Nat) (s t : State) : Prop where
  frame : t = { s with regs := t.regs }
  regs : RegsBut l s t
  listed : t.pmcListed = s.pmcListed

theorem RegStep.refl (l : List Nat) (s : State) : RegStep l s s := ⟨rfl, fun _ _ => rfl, rfl⟩

theorem RegStep.trans {l : List Nat} (h : RegStep l s t) (k : RegStep l t u) : RegStep l s u where
  frame := k.frame.trans (congrArg (fun x : State => { x with regs := u.regs }) h.frame)
  regs a ha := (k.regs a ha).trans (h.regs a ha)
  listed := k.listed.trans h.listed

theorem RegStep.mono {l m : List Nat} (h : RegStep l s t) (hlm : l ⊆ m) : RegStep m s t :=
  ⟨h.frame, fun a ha => h.regs a fun hal => ha (hlm hal), h.listed⟩

theorem RegStep.setF {l : List Nat} (h : RegStep l s t) {b : Nat} {f : Fld} (v : Nat) (hl : b + f.off ∈ l)
    (hb : IsDmaReg (b + f.off)) : RegStep l s (t.setF b f v) :=
  h.trans ⟨rfl, fun _ ha => reg_setF_other t v fun e => ha (e ▸ hl),
    pmcListed_setReg _ fun hc => absurd hb.2 (by unfold IsPmcCfg at hc; omega)⟩

/-- Changes of the DMA and CHK windows do not show in what counts a performance event. -/
theorem RegStep.pmcLike {l : List Nat} (h : RegStep l s t) (hl : ∀ a ∈ l, IsDmaReg a) : PmcLike s t where
  reg a ha := h.regs a fun hal => by
    obtain ⟨hlo, hhi⟩ := hl a hal
    unfold window at hlo
    unfold aonB window at ha
    omega
  listed := h.listed
  evt := by rw [h.frame]
  sampN := by rw [h.frame]

/-! ### A channel's interrupts -/

/-- A channel that raises no MSI-X cause: the Steward owns it, or its interrupts are disabled. -/
def Quiet (d : Nat) (s : State) : Prop := s.dcSteward d = true ∨ s.dcF d F.DC_IRQ_EN.EN = 0

theorem dcF_congr {f : Fld} (h : t.reg (dcB d + f.off) = s.reg (dcB d + f.off)) : t.dcF d f = s.dcF d f := by
  unfold State.dcF State.fld
  rw [h]

theorem dcSteward_congr (h : t.dcF d F.DC_CTRL.STEWARD = s.dcF d F.DC_CTRL.STEWARD) :
    t.dcSteward d = s.dcSteward d := congrArg (· != 0) h

theorem Quiet.congr (h : Quiet d s) (hst : t.dcSteward d = s.dcSteward d)
    (hen : t.reg (dcB d + 0x1C) = s.reg (dcB d + 0x1C)) : Quiet d t := by
  have hEN : t.dcF d F.DC_IRQ_EN.EN = s.dcF d F.DC_IRQ_EN.EN := dcF_congr hen
  unfold Quiet
  rw [hst, hEN]
  exact h

/-- A DC_IRQ bit of a quiet channel is set, and no more. -/
theorem dcIrq_of_quiet (h : Quiet d s) (bit : Nat) :
    s.dcIrq d bit = s.setDcF d F.DC_IRQ.CAUSES (Nat.lor (s.dcF d F.DC_IRQ.CAUSES) (2 ^ bit)) := by
  have hq : Quiet d (s.setDcF d F.DC_IRQ.CAUSES (Nat.lor (s.dcF d F.DC_IRQ.CAUSES) (2 ^ bit))) :=
    h.congr (dcSteward_congr (fld_setF_other s _ (by decide) (.inl (by simp [F.DC_IRQ.CAUSES, F.DC_CTRL.STEWARD]))))
      (reg_setF_other s _ (by simp [F.DC_IRQ.CAUSES]))
  unfold State.dcIrq
  dsimp only
  refine if_neg fun hc => ?_
  rw [Bool.and_eq_true, Bool.not_eq_true'] at hc
  obtain hst | hen := hq
  · rw [hst] at hc
    exact Bool.noConfusion hc.2
  · rw [hen] at hc
    simp at hc

/-- A DC_IRQ bit of a quiet channel is set where a condition holds. -/
theorem regStep_dcIrq (hd : d < 32) (h : Quiet d s) (c : Bool) (bit : Nat) :
    RegStep [dcB d + 0x18] s (if c then s.dcIrq d bit else s) := by
  rw [dcIrq_of_quiet h]
  split
  · exact (RegStep.refl _ s).setF _ (List.mem_singleton.2 rfl) (isDmaReg_page hd (by decide))
  · exact .refl _ s

theorem causes_dcIrq (h : Quiet d s) (c : Bool) {bit : Nat} (hbit : bit < 7) :
    (if c then s.dcIrq d bit else s).dcF d F.DC_IRQ.CAUSES = Nat.lor (s.dcF d F.DC_IRQ.CAUSES) (2 ^ bit * b2n c) := by
  cases c with
  | false => exact (Nat.or_zero _).symm
  | true =>
    have hlt : Nat.lor (s.dcF d F.DC_IRQ.CAUSES) (2 ^ bit) < 2 ^ 7 :=
      Nat.or_lt_two_pow (Fld.of_lt F.DC_IRQ.CAUSES _) (Nat.pow_lt_pow_right (by decide) hbit)
    rw [if_pos rfl, dcIrq_of_quiet h]
    refine (fld_setF_same s _ _ _ (by decide)).trans ((Nat.mod_eq_of_lt hlt).trans ?_)
    rw [b2n, if_pos rfl, Nat.mul_one]

/-! ### Counters -/

/-- Two states whose counters read the same and count alike. -/
structure CtrsLike (s t : State) : Prop where
  ctrs : t.ctrs = s.ctrs
  counting : t.counting = s.counting
  mcCounting : t.mcCounting = s.mcCounting

theorem CtrsLike.trans (h : CtrsLike s t) (k : CtrsLike t u) : CtrsLike s u :=
  ⟨k.ctrs.trans h.ctrs, k.counting.trans h.counting, k.mcCounting.trans h.mcCounting⟩

theorem CtrsLike.symm (h : CtrsLike s t) : CtrsLike t s := ⟨h.ctrs.symm, h.counting.symm, h.mcCounting.symm⟩

theorem RegStep.ctrsLike {l : List Nat} (h : RegStep l s t) : CtrsLike s t :=
  ⟨by rw [h.frame], by rw [h.frame], by rw [h.frame]⟩

theorem CtrsLike.count (h : CtrsLike s t) (a n : Nat) : CtrsLike (s.count a n) (t.count a n) where
  ctrs := by
    unfold State.count State.countsAt State.ctr
    rw [h.ctrs, h.counting, h.mcCounting]
    split
    · rfl
    · exact h.ctrs
  counting := by rw [count_counting, count_counting, h.counting]
  mcCounting := by rw [count_mcCounting, count_mcCounting, h.mcCounting]

theorem count_eq (a n : Nat) : s.count a n = { s with ctrs := (s.count a n).ctrs } := by
  unfold State.count
  split
  · rfl
  · rfl

/-! ### Check units -/

theorem regStep_chkFree (e : List Byte) : RegStep [chkB (descUnit e)] s (s.chkFree (descUnit e)) :=
  have hmem : chkB (descUnit e) ∈ [chkB (descUnit e)] := .head _
  ((RegStep.refl _ s).setF (f := F.CHK_CTRL.BUSY) 0 hmem (isDmaReg_unit e)).setF (f := F.CHK_CTRL.USER) 0 hmem
    (isDmaReg_unit e)

/-- Letting a unit go changes its register and counts the stream. -/
theorem unitFree_eq (e : List Byte) :
    s.unitFree d e = { s with regs := (s.unitFree d e).regs, ctrs := (s.unitFree d e).ctrs } := by
  unfold State.unitFree
  split
  · rw [count_eq]
    exact congrArg (fun x : State => { x with ctrs := ((s.chkFree (descUnit e)).count
      (chkB (descUnit e) + Ctr.CHK.STREAMS)).ctrs }) (regStep_chkFree e).frame
  · rfl

theorem regs_unitFree (e : List Byte) : RegsBut [chkB (descUnit e)] s (s.unitFree d e) := by
  unfold State.unitFree
  split
  · intro a ha
    rw [reg_count]
    exact (regStep_chkFree e).regs a ha
  · exact fun _ _ => rfl

theorem reg_setF_congr {b : Nat} {f : Fld} (v : Nat) (h : t.reg (b + f.off) = s.reg (b + f.off)) :
    (t.setF b f v).reg (b + f.off) = (s.setF b f v).reg (b + f.off) := by
  rw [reg_setF_same, reg_setF_same, h]

/-- What a unit's register reads once it is let go depends on that register and on the channel's hold alone. -/
theorem reg_unitFree_congr {e : List Byte} (hreg : t.reg (chkB (descUnit e)) = s.reg (chkB (descUnit e)))
    (hdch : t.dch d = s.dch d) :
    (t.unitFree d e).reg (chkB (descUnit e)) = (s.unitFree d e).reg (chkB (descUnit e)) := by
  unfold State.unitFree
  rw [hdch]
  split
  · rw [reg_count, reg_count]
    exact reg_setF_congr (f := F.CHK_CTRL.USER) 0 (reg_setF_congr (f := F.CHK_CTRL.BUSY) 0 hreg)
  · exact hreg

theorem CtrsLike.unitFree (h : CtrsLike s t) (hdch : t.dch d = s.dch d) (e : List Byte) :
    CtrsLike (s.unitFree d e) (t.unitFree d e) := by
  unfold State.unitFree
  rw [hdch]
  split
  · exact CtrsLike.count (((regStep_chkFree e).ctrsLike.symm.trans h).trans (regStep_chkFree e).ctrsLike) ..
  · exact h

/-! ### Pipelines -/

theorem pipe_setPipe_same (k : Nat) (q : PipeState) : (s.setPipe k q).pipe k = q := by
  unfold State.setPipe State.pipe Pair.get Pair.set
  by_cases h : k = 0
  · simp [h]
  · simp [h]

theorem pipe_setPipe_other {k j : Nat} (q : PipeState) (h : k = 0 ↔ j ≠ 0) : (s.setPipe k q).pipe j = s.pipe j := by
  unfold State.setPipe State.pipe Pair.get Pair.set
  by_cases hj : j = 0
  · have hk : k ≠ 0 := fun e => h.1 e hj
    simp [hj, hk]
  · have hk : k = 0 := h.2 hj
    simp [hj, hk]

/-! ### Channels -/

theorem dch_congr (h : t.dma = s.dma) (q : Nat) : t.dch q = s.dch q := by
  unfold State.dch
  rw [h]

theorem dch_setDch_same (x : DmaChan) : (s.setDch d x).dch d = x := smap_get_set_same ..

theorem dch_setDch_other {q : Nat} (x : DmaChan) (h : q ≠ d) : (s.setDch d x).dch q = s.dch q :=
  smap_get_set_other _ _ _ h

/-- No stream waits for a check unit. -/
def NoneWaits (s : State) : Prop := ((List.range 32).all fun q => !(s.dch q).waits) = true

theorem NoneWaits.not_waits (h : NoneWaits s) {q : Nat} (hq : q < 32) : (s.dch q).waits = false := by
  have := List.all_eq_true.1 h q (List.mem_range.2 hq)
  simpa using this

/-- Where no stream waits, a unit that is let go is taken by none. -/
theorem dmaWake_of_noneWaits (h : NoneWaits s) : s.dmaWake = s := by
  have htry : ∀ q < 32, s.dmaTry q = s := by
    intro q hq
    unfold State.dmaTry
    split
    · rfl
    · rw [h.not_waits hq]
      rfl
  have hfold : ∀ l : List Nat, (∀ q ∈ l, q < 32) → l.foldl (fun s d => s.dmaTry d) s = s := by
    intro l hl
    induction l with
    | nil => rfl
    | cons q l ih =>
      obtain ⟨hq, hl⟩ := List.forall_mem_cons.1 hl
      rw [List.foldl_cons, htry q hq, ih hl]
  exact hfold _ fun q hq => List.mem_range.1 hq

/-- A channel that has let go of its descriptor, its packet and its unit. -/
def DmaChan.letGo (x : DmaChan) : DmaChan :=
  { x with desc := none, pkt := none, data := [], code := 0, waits := false, unit := false, rereads := 0 }

/-- The pipeline a channel injects into. -/
def injectPipe (d : Nat) : Nat := if d < 16 then 0 else 1

/-- The injected packets of a channel that wait for their slot. -/
def State.injected (s : State) (q k : Nat) : List Packet := SMap.get (fun _ => []) (s.pipe k).host q

/-- A channel has let go of its descriptor `e`, its packet and its unit, and no stream has taken the unit. -/
structure LetGo (d : Nat) (e : List Byte) (s t : State) : Prop where
  dch_self : t.dch d = (s.dch d).letGo
  dch_other : ∀ q, q ≠ d → t.dch q = s.dch q
  unit : t.reg (chkB (descUnit e)) = (s.unitFree d e).reg (chkB (descUnit e))
  injected_self : (t.injected d (injectPipe d)).length = 0
  injected_other : ∀ q, q ≠ d → t.injected q (injectPipe d) = s.injected q (injectPipe d)
  pipe_other : t.pipe (1 - injectPipe d) = s.pipe (1 - injectPipe d)
  pipe_self : t.pipe (injectPipe d) = { s.pipe (injectPipe d) with host := (t.pipe (injectPipe d)).host }
  ctrs : t.ctrs = (s.unitFree d e).ctrs
  frame : t = { s with regs := t.regs, ctrs := t.ctrs, pipes := t.pipes, dma := t.dma }
  regs : RegsBut [chkB (descUnit e)] s t

theorem letGo_dmaDrop {e : List Byte} (hdesc : (s.dch d).desc = some e) (hwait : NoneWaits s) :
    LetGo d e s (s.dmaDrop d) := by
  have hdch : ∀ q, ((s.unitFree d e).dropInject d).dch q = s.dch q := by
    intro q
    unfold State.dropInject State.setPipe State.dch
    rw [unitFree_eq e]
  have hpipe : ∀ k, (s.unitFree d e).pipe k = s.pipe k := by
    intro k
    unfold State.pipe
    rw [unitFree_eq e]
  have hdrop : s.dmaDrop d = ((s.unitFree d e).dropInject d).setDch d (s.dch d).letGo := by
    unfold State.dmaDrop
    rw [hdesc]
    dsimp only
    rw [hdch d]
    refine dmaWake_of_noneWaits ?_
    refine List.all_eq_true.2 fun q hq => ?_
    by_cases e : q = d
    · rw [e, dch_setDch_same]
      rfl
    · rw [dch_setDch_other _ e, hdch, hwait.not_waits (List.mem_range.1 hq)]
      rfl
  have hself : (((s.unitFree d e).dropInject d).setDch d (s.dch d).letGo).pipe (injectPipe d) =
      { s.pipe (injectPipe d) with host := SMap.set (fun _ => []) (s.pipe (injectPipe d)).host d [] } :=
    (pipe_setPipe_same _ _).trans (by rw [hpipe]; rfl)
  have hinj : injectPipe d = 0 ↔ 1 - injectPipe d ≠ 0 := by
    unfold injectPipe
    split
    · decide
    · decide
  rw [hdrop]
  refine ⟨dch_setDch_same _, fun q hq => (dch_setDch_other _ hq).trans (hdch q), rfl, ?_, fun q hq => ?_, ?_, ?_, rfl,
    ?_, regs_unitFree e⟩
  · unfold State.injected
    rw [hself, smap_get_set_same]
    rfl
  · unfold State.injected
    rw [hself]
    dsimp only
    exact smap_get_set_other _ _ _ hq
  · exact (pipe_setPipe_other _ hinj).trans (hpipe _)
  · rw [hself]
  · obtain ⟨r, c, hfree⟩ : ∃ r c, s.unitFree d e = { s with regs := r, ctrs := c } := ⟨_, _, unitFree_eq e⟩
    rw [hfree]
    rfl

/-- A descriptor boundary changes nothing where no hand-over is pending or the channel does not run. -/
theorem dcBoundary_of_not (h : s.bit (dcB d) F.DC_CTRL.PENDING = false ∨ s.dcState d ≠ 1) : s.dcBoundary d = s := by
  unfold State.dcBoundary
  obtain h | h := h
  · simp [h]
  · simp [h]

end Sys2Proof.Machine
end

section
/-! Proof support: how a descriptor ends (R452, R457, R459), in the order a channel goes through it: it is posted, its
bytes are counted, the ring advances, and the channel lets go; a bus error then stops the channel. -/

namespace Sys2Proof.Machine

variable {s t u : State} {d code residue info : Nat} {e : List Byte}

/-! ### The writeback and its counts -/

/-- Whether a descriptor that ends with a code and a residue sets its channel's HALF interrupt (R457). -/
def halfDue (code residue : Nat) (e : List Byte) : Bool :=
  descHalf e && decide (code ≠ 5) &&
    decide (descLen e ≤ 2 * (descLen e - residue) + (if code < 2 then residue else 0))

/-- Where the descriptor at CI lies. -/
def State.descAt (s : State) (d : Nat) : Nat := (s.dch d).base + 32 * s.dcIndex d

/-- The two requests of a writeback (R452). -/
def State.writebackOut (s : State) (d code residue info : Nat) (e : List Byte) : List Output :=
  if s.dcSteward d then
    [.stewardWrite (s.descAt d + 0x18) (leBytes 4 (code * 2 ^ 28 + residue) ++ leBytes 4 info),
     .stewardWrite (s.descAt d + 0x14) (leBytes 4 (descCtrl e % 2 ^ 31))]
  else
    [.hostWrite (s.descAt d + 0x18) (leBytes 4 (code * 2 ^ 28 + residue) ++ leBytes 4 info),
     .hostWrite (s.descAt d + 0x14) (leBytes 4 (descCtrl e % 2 ^ 31))]

theorem writebackOut_congr (hsteward : t.dcSteward d = s.dcSteward d)
    (hpos : t.reg (dcB d + 0x14) = s.reg (dcB d + 0x14)) (hdch : t.dch d = s.dch d) :
    t.writebackOut d code residue info e = s.writebackOut d code residue info e := by
  have hci : t.dcF d F.DC_POS.CI = s.dcF d F.DC_POS.CI := dcF_congr hpos
  unfold State.writebackOut State.descAt State.dcIndex
  rw [hsteward, hdch, hci]

theorem dcWriteback_eq :
    s.dcWriteback d code residue info e = { s with out := s.out ++ s.writebackOut d code residue info e } := by
  have hring : ∀ (s : State) (a : Nat) (bs : List Byte),
      s.dcRingWrite d a bs = s.emit (if s.dcSteward d then .stewardWrite a bs else .hostWrite a bs) := by
    intro s a bs
    unfold State.dcRingWrite
    split
    · rfl
    · rfl
  have hst : ∀ x, (s.emit x).dcSteward d = s.dcSteward d := fun _ => rfl
  unfold State.dcWriteback State.writebackOut
  simp only [hring, hst]
  cases s.dcSteward d with
  | false => simp [State.emit, State.descAt]
  | true => simp [State.emit, State.descAt]

/-- A descriptor is posted: HALF where it is due, the writeback, and its counts. -/
def State.dmaPost (s : State) (d code residue info : Nat) (e : List Byte) : State :=
  (((if halfDue code residue e then s.dcIrq d 0 else s).dcWriteback d code residue info e).dcCount d
    Ctr.DMA.DESCS).dcCount d Ctr.DMA.BYTES (descLen e - residue)

/-- The ring advances: CI, SEQ_NEXT and FULL where the descriptor asks for it. -/
def State.dmaAdvance (s : State) (d : Nat) (e : List Byte) : State :=
  let s := s.setDcF d F.DC_POS.CI ((s.dcF d F.DC_POS.CI + 1) % 131072)
  let s := s.setDcF d F.DC_POS.SEQ_NEXT ((s.dcF d F.DC_POS.SEQ_NEXT + 1) % 256)
  if descFull e then s.dcIrq d 1 else s

theorem dmaFinish_eq (hdesc : (s.dch d).desc = some e) :
    s.dmaFinish d code residue info = ((((s.dmaPost d code residue info e).pmc 0x0B0 d (descLen e - residue)).dmaAdvance
      d e).dmaDrop d).dcBoundary d := by
  unfold State.dmaFinish
  rw [hdesc]
  rfl

/-- A descriptor has been posted. -/
structure Posted (d code residue info : Nat) (e : List Byte) (s t : State) : Prop where
  causes : t.dcF d F.DC_IRQ.CAUSES = Nat.lor (s.dcF d F.DC_IRQ.CAUSES) (b2n (halfDue code residue e))
  out : t.out = s.out ++ s.writebackOut d code residue info e
  ctrs : CtrsLike ((s.dcCount d Ctr.DMA.DESCS).dcCount d Ctr.DMA.BYTES (descLen e - residue)) t
  frame : t = { s with regs := t.regs, ctrs := t.ctrs, out := t.out }
  regs : RegsBut [dcB d + 0x18] s t
  pmcLike : PmcLike s t

theorem counts_eq (a n b m : Nat) : (s.count a n).count b m = { s with ctrs := ((s.count a n).count b m).ctrs } :=
  (count_eq b m).trans (congrArg (fun x : State => { x with ctrs := ((s.count a n).count b m).ctrs }) (count_eq a n))

theorem posted_dmaPost (hd : d < 32) (hq : Quiet d s) :
    Posted d code residue info e s (s.dmaPost d code residue info e) := by
  have hstep := regStep_dcIrq hd hq (halfDue code residue e) 0
  have hcauses := causes_dcIrq hq (halfDue code residue e) (bit := 0) (by decide)
  rw [pow_zero, one_mul] at hcauses
  unfold State.dmaPost
  generalize (if halfDue code residue e then s.dcIrq d 0 else s) = x at hstep hcauses ⊢
  have hlike := hstep.pmcLike fun a ha => List.mem_singleton.1 ha ▸ isDmaReg_page hd (by decide)
  have hout : x.writebackOut d code residue info e = s.writebackOut d code residue info e :=
    writebackOut_congr (dcSteward_congr (dcF_congr (hstep.regs _ (by simp [F.DC_CTRL.STEWARD]))))
      (hstep.regs _ (by simp)) (dch_congr (by rw [hstep.frame]) d)
  have hxout : x.out = s.out := by rw [hstep.frame]
  rw [dcWriteback_eq, hout, hxout]
  generalize hw : s.writebackOut d code residue info e = w
  have hctrs : CtrsLike s { x with out := s.out ++ w } :=
    ⟨hstep.ctrsLike.ctrs, hstep.ctrsLike.counting, hstep.ctrsLike.mcCounting⟩
  have hcount := (hctrs.count (dcB d + Ctr.DMA.DESCS) 1).count (dcB d + Ctr.DMA.BYTES) (descLen e - residue)
  have hframe := counts_eq (s := { x with out := s.out ++ w }) (dcB d + Ctr.DMA.DESCS) 1 (dcB d + Ctr.DMA.BYTES)
    (descLen e - residue)
  unfold State.dcCount
  generalize ((({ x with out := s.out ++ w } : State).count _ _).count _ _) = z at hcount hframe ⊢
  generalize z.ctrs = c at hframe
  subst hframe
  exact ⟨hcauses, congrArg (s.out ++ ·) hw.symm, hcount,
    congrArg (fun y : State => { y with ctrs := c, out := s.out ++ w }) hstep.frame, hstep.regs,
    ⟨hlike.reg, hlike.listed, hlike.evt, hlike.sampN⟩⟩

/-! ### The ring advances -/

/-- The ring has advanced past a descriptor. -/
structure Advanced (d : Nat) (e : List Byte) (s t : State) : Prop where
  causes : t.dcF d F.DC_IRQ.CAUSES = Nat.lor (s.dcF d F.DC_IRQ.CAUSES) (2 * b2n (descFull e))
  ci : t.dcF d F.DC_POS.CI = (s.dcF d F.DC_POS.CI + 1) % 131072
  seq : t.dcF d F.DC_POS.SEQ_NEXT = (s.dcF d F.DC_POS.SEQ_NEXT + 1) % 256
  step : RegStep [dcB d + 0x14, dcB d + 0x18] s t

theorem advanced_dmaAdvance (hd : d < 32) (hq : Quiet d s) : Advanced d e s (s.dmaAdvance d e) := by
  have hpos : IsDmaReg (dcB d + 0x14) := isDmaReg_page hd (by decide)
  unfold State.dmaAdvance
  dsimp only
  have hx : RegStep [dcB d + 0x14] s (s.setDcF d F.DC_POS.CI ((s.dcF d F.DC_POS.CI + 1) % 131072)) :=
    (RegStep.refl _ s).setF (f := F.DC_POS.CI) _ (.head _) hpos
  have hxci : (s.setDcF d F.DC_POS.CI ((s.dcF d F.DC_POS.CI + 1) % 131072)).dcF d F.DC_POS.CI =
      (s.dcF d F.DC_POS.CI + 1) % 131072 :=
    (fld_setF_same s _ _ _ (by decide)).trans (Nat.mod_mod ..)
  have hxseq : (s.setDcF d F.DC_POS.CI ((s.dcF d F.DC_POS.CI + 1) % 131072)).dcF d F.DC_POS.SEQ_NEXT =
      s.dcF d F.DC_POS.SEQ_NEXT := fld_setF_other s _ (by decide) (.inr (.inl (by decide)))
  generalize s.setDcF d F.DC_POS.CI ((s.dcF d F.DC_POS.CI + 1) % 131072) = x at hx hxci hxseq ⊢
  have hy : RegStep [dcB d + 0x14] s (x.setDcF d F.DC_POS.SEQ_NEXT ((x.dcF d F.DC_POS.SEQ_NEXT + 1) % 256)) :=
    hx.setF (f := F.DC_POS.SEQ_NEXT) _ (.head _) hpos
  have hyci : (x.setDcF d F.DC_POS.SEQ_NEXT ((x.dcF d F.DC_POS.SEQ_NEXT + 1) % 256)).dcF d F.DC_POS.CI =
      x.dcF d F.DC_POS.CI := fld_setF_other x _ (by decide) (.inr (.inr (by decide)))
  have hyseq : (x.setDcF d F.DC_POS.SEQ_NEXT ((x.dcF d F.DC_POS.SEQ_NEXT + 1) % 256)).dcF d F.DC_POS.SEQ_NEXT =
      (x.dcF d F.DC_POS.SEQ_NEXT + 1) % 256 := (fld_setF_same x _ _ _ (by decide)).trans (Nat.mod_mod ..)
  generalize x.setDcF d F.DC_POS.SEQ_NEXT ((x.dcF d F.DC_POS.SEQ_NEXT + 1) % 256) = y at hy hyci hyseq ⊢
  have hyq : Quiet d y := hq.congr (dcSteward_congr (dcF_congr (hy.regs _ (by simp [F.DC_CTRL.STEWARD]))))
    (hy.regs _ (by simp))
  have hycauses : y.dcF d F.DC_IRQ.CAUSES = s.dcF d F.DC_IRQ.CAUSES := dcF_congr (hy.regs _ (by simp [F.DC_IRQ.CAUSES]))
  have hz := regStep_dcIrq hd hyq (descFull e) 1
  have hzpos : ∀ f : Fld, f.off = 0x14 → (if descFull e then y.dcIrq d 1 else y).dcF d f = y.dcF d f :=
    fun f hf => dcF_congr (hz.regs _ (by simp [hf]))
  refine ⟨?_, ?_, ?_, ?_⟩
  · rw [causes_dcIrq hyq _ (by decide), pow_one, hycauses]
  · rw [hzpos _ rfl, hyci, hxci]
  · rw [hzpos _ rfl, hyseq, hxseq]
  · exact (hy.mono (by simp)).trans (hz.mono (by simp))

/-! ### A descriptor is written back -/

/-- DC_IRQ as a descriptor's end leaves it: HALF where it is due, FULL where the descriptor asks for it. -/
def State.endCauses (s : State) (d code residue : Nat) (e : List Byte) : Nat :=
  Nat.lor (Nat.lor (s.dcF d F.DC_IRQ.CAUSES) (b2n (halfDue code residue e))) (2 * b2n (descFull e))

/-- A descriptor has been written back and counted, and the ring has advanced past it. -/
structure WrittenBack (d code residue info : Nat) (e : List Byte) (s t : State) : Prop where
  causes : t.dcF d F.DC_IRQ.CAUSES = s.endCauses d code residue e
  ci : t.dcF d F.DC_POS.CI = (s.dcF d F.DC_POS.CI + 1) % 131072
  seq : t.dcF d F.DC_POS.SEQ_NEXT = (s.dcF d F.DC_POS.SEQ_NEXT + 1) % 256
  out : t.out = s.out ++ s.writebackOut d code residue info e
  ctrs : CtrsLike ((s.dcCount d Ctr.DMA.DESCS).dcCount d Ctr.DMA.BYTES (descLen e - residue)) t
  sampN : t.sampN = (s.pmc 0x0B0 d (descLen e - residue)).sampN
  evt : t.evt = (s.pmc 0x0B0 d (descLen e - residue)).evt
  frame : t = { s with out := t.out, ctrs := t.ctrs, evt := t.evt, sampN := t.sampN, regs := t.regs }
  regs : RegsBut (pmcRegs ++ [dcB d + 0x14, dcB d + 0x18]) s t

theorem WrittenBack.of_steps {x y z : State} (hd : d < 32) (hx : Posted d code residue info e s x) (hy : PmcKeeps x y)
    (hpmc : PmcLike (s.pmc 0x0B0 d (descLen e - residue)) y) (hz : Advanced d e y z) :
    WrittenBack d code residue info e s z := by
  have hypage : ∀ f : Fld, f.off < 0x1000 → y.dcF d f = x.dcF d f := fun f hf =>
    dcF_congr (hy.regs _ (isDmaReg_page hd hf).not_mem_pmcRegs)
  have hypos : ∀ f : Fld, f.off = 0x14 → y.dcF d f = s.dcF d f := fun f hf =>
    (hypage f (by rw [hf]; decide)).trans (dcF_congr (hx.regs _ (by simp [hf])))
  have hzs : z = { s with out := x.out, ctrs := x.ctrs, evt := y.evt, sampN := y.sampN, regs := z.regs } :=
    hz.step.frame.trans <| (congrArg (fun v : State => { v with regs := z.regs }) hy.frame).trans <|
      congrArg (fun v : State => { v with evt := y.evt, sampN := y.sampN, regs := z.regs }) hx.frame
  have hzctrs : CtrsLike x z := ⟨by rw [hzs], by rw [hzs, hx.frame], by rw [hzs, hx.frame]⟩
  exact
    { causes := by rw [hz.causes, hypage _ (by decide), hx.causes]; rfl
      ci := by rw [hz.ci, hypos _ rfl]
      seq := by rw [hz.seq, hypos _ rfl]
      out := by rw [hzs]; exact hx.out
      ctrs := hx.ctrs.trans hzctrs
      sampN := by rw [hzs]; exact hpmc.sampN
      evt := by rw [hzs]; exact hpmc.evt
      frame := by
        obtain ⟨o, c, v, n, r, rfl⟩ : ∃ o c v n r, z = { s with
          out := o, ctrs := c, evt := v, sampN := n, regs := r } := ⟨_, _, _, _, _, hzs⟩
        rfl
      regs := fun a ha => by
        simp only [List.mem_append, List.mem_cons, List.not_mem_nil, or_false, not_or] at ha
        obtain ⟨hpmcRegs, hpos, hirq⟩ := ha
        rw [hz.step.regs a (by simp [hpos, hirq]), hy.regs a hpmcRegs, hx.regs a (by simp [hirq])] }

theorem writtenBack (hd : d < 32) (hq : Quiet d s) :
    WrittenBack d code residue info e s
      (((s.dmaPost d code residue info e).pmc 0x0B0 d (descLen e - residue)).dmaAdvance d e) := by
  have hx := posted_dmaPost (code := code) (residue := residue) (info := info) (e := e) hd hq
  have hy := pmcKeeps_pmc (s := s.dmaPost d code residue info e) 0x0B0 d (descLen e - residue)
  have hyreg : ∀ o < 0x1000, o ≠ 0x18 → ((s.dmaPost d code residue info e).pmc 0x0B0 d (descLen e - residue)).reg
      (dcB d + o) = s.reg (dcB d + o) := fun o ho hne =>
    (hy.regs _ (isDmaReg_page hd ho).not_mem_pmcRegs).trans (hx.regs _ (by simp [hne]))
  have hyq : Quiet d ((s.dmaPost d code residue info e).pmc 0x0B0 d (descLen e - residue)) :=
    hq.congr (dcSteward_congr (dcF_congr (hyreg _ (by decide) (by decide)))) (hyreg _ (by decide) (by decide))
  exact .of_steps hd hx hy (hx.pmcLike.pmc ..) (advanced_dmaAdvance hd hyq)

/-! ### A descriptor ends -/

/-- `t` is `s` but for the parts of a state that a descriptor's end changes. -/
def DmaFrame (s t : State) : Prop :=
  t = { s with
    out := t.out, dma := t.dma, pipes := t.pipes, ctrs := t.ctrs, evt := t.evt, sampN := t.sampN, regs := t.regs }

theorem DmaFrame.trans (h : DmaFrame s t) (k : DmaFrame t u) : DmaFrame s u :=
  Eq.trans k (congrArg (fun x : State => { x with
    out := u.out, dma := u.dma, pipes := u.pipes, ctrs := u.ctrs, evt := u.evt, sampN := u.sampN, regs := u.regs }) h)

theorem WrittenBack.dmaFrame (h : WrittenBack d code residue info e s t) : DmaFrame s t := by
  obtain ⟨o, c, v, n, r, rfl⟩ : ∃ o c v n r, t = { s with out := o, ctrs := c, evt := v, sampN := n, regs := r } :=
    ⟨_, _, _, _, _, h.frame⟩
  rfl

theorem LetGo.dmaFrame (h : LetGo d e s t) : DmaFrame s t := by
  obtain ⟨r, c, p, m, rfl⟩ : ∃ r c p m, t = { s with regs := r, ctrs := c, pipes := p, dma := m } :=
    ⟨_, _, _, _, h.frame⟩
  rfl

/-- `b` is `s` but for what was sent, counters, and at most the control register of channel d, where the channel's owner
is the same. -/
structure SameChannel (d : Nat) (l : List Nat) (s b : State) : Prop where
  frame : b = { s with out := b.out, ctrs := b.ctrs, regs := b.regs }
  regs : RegsBut l s b
  sub : l ⊆ [dcB d]
  steward : b.dcSteward d = s.dcSteward d
  listed : b.pmcListed = s.pmcListed

theorem SameChannel.reg {l : List Nat} {b : State} (h : SameChannel d l s b) {a : Nat} (ha : a ≠ dcB d) :
    b.reg a = s.reg a := h.regs a fun hl => ha (List.mem_singleton.1 (h.sub hl))

theorem SameChannel.pmcLike {l : List Nat} {b : State} (hd : d < 32) (h : SameChannel d l s b) : PmcLike s b where
  reg a ha := h.reg fun e => by
    have := (isDmaReg_page hd (o := 0) (by decide))
    unfold IsDmaReg window at this
    unfold aonB window at ha
    omega
  listed := h.listed
  evt := by rw [h.frame]
  sampN := by rw [h.frame]

theorem SameChannel.dmaFrame {l : List Nat} {b : State} (h : SameChannel d l s b) : DmaFrame s b := by
  obtain ⟨o, c, r, rfl⟩ : ∃ o c r, b = { s with out := o, ctrs := c, regs := r } := ⟨_, _, _, h.frame⟩
  rfl

/-- A descriptor's end is counted: it, its bytes, and its unit's stream. -/
def State.endCount (s : State) (d residue : Nat) (e : List Byte) : State :=
  ((s.dcCount d Ctr.DMA.DESCS).dcCount d Ctr.DMA.BYTES (descLen e - residue)).unitFree d e

/-- The descriptor `e` of channel d in `s` has ended in `t`: `o` is what was sent before its writeback, `c` counted what
was counted before, and registers at the offsets `l` may have changed before. -/
structure Ended (d code residue info : Nat) (e : List Byte) (l : List Nat) (o : List Output) (c s t : State) :
    Prop where
  causes : t.dcF d F.DC_IRQ.CAUSES = s.endCauses d code residue e
  dch_self : t.dch d = (s.dch d).letGo
  dch_other : ∀ q, q ≠ d → t.dch q = s.dch q
  ci : t.dcF d F.DC_POS.CI = (s.dcF d F.DC_POS.CI + 1) % 131072
  seq : t.dcF d F.DC_POS.SEQ_NEXT = (s.dcF d F.DC_POS.SEQ_NEXT + 1) % 256
  out : t.out = o ++ s.writebackOut d code residue info e
  unit : t.reg (chkB (descUnit e)) = (s.unitFree d e).reg (chkB (descUnit e))
  sampN : t.sampN = (s.pmc 0x0B0 d (descLen e - residue)).sampN
  injected_self : (t.injected d (injectPipe d)).length = 0
  injected_other : ∀ q, q ≠ d → t.injected q (injectPipe d) = s.injected q (injectPipe d)
  pipe_other : t.pipe (1 - injectPipe d) = s.pipe (1 - injectPipe d)
  pipe_self : t.pipe (injectPipe d) = { s.pipe (injectPipe d) with host := (t.pipe (injectPipe d)).host }
  ctrs : t.ctrs = (c.endCount d residue e).ctrs
  evt : t.evt = (s.pmc 0x0B0 d (descLen e - residue)).evt
  steward : t.dcSteward d = s.dcSteward d
  frame : DmaFrame s t
  regs : RegsBut (l ++ (pmcRegs ++ [dcB d + 0x14, dcB d + 0x18, chkB (descUnit e)])) s t

/-- A descriptor that has been written back and let go has ended. -/
theorem Ended.of_steps {l : List Nat} {b c z w : State} (hd : d < 32) (hb : SameChannel d l s b) (hc : CtrsLike c b)
    (hcd : c.dch d = s.dch d) (hz : WrittenBack d code residue info e b z) (hw : LetGo d e z w) :
    Ended d code residue info e l b.out c s w := by
  have hbf : ∀ f : Fld, f.off ≠ 0 → b.dcF d f = s.dcF d f := fun f hf => dcF_congr (hb.reg (by simp [hf]))
  have hbpmc := (hb.pmcLike hd).pmc 0x0B0 d (descLen e - residue)
  have hbout : b.writebackOut d code residue info e = s.writebackOut d code residue info e :=
    writebackOut_congr hb.steward (hb.reg (by simp)) (dch_congr (by rw [hb.frame]) d)
  have hzdch : ∀ q, z.dch q = s.dch q := dch_congr (by rw [hz.frame, hb.frame])
  have hzpipes : z.pipes = s.pipes := by rw [hz.frame, hb.frame]
  have hzpipe : ∀ k, z.pipe k = s.pipe k := fun k => congrArg (fun p : Pair PipeState => p.get _) hzpipes
  have hzinj : ∀ q k, z.injected q k = s.injected q k := by
    intro q k
    unfold State.injected
    rw [hzpipe]
  have hzunit : z.reg (chkB (descUnit e)) = s.reg (chkB (descUnit e)) := by
    have hpage : ∀ o < 0x1000, chkB (descUnit e) ≠ dcB d + o := fun o ho => unit_ne_page hd ho e
    rw [hz.regs _ (by simp [hpage, (isDmaReg_unit e).not_mem_pmcRegs]), hb.reg (hpage 0 (by decide))]
  have hzctrs : CtrsLike ((c.dcCount d Ctr.DMA.DESCS).dcCount d Ctr.DMA.BYTES (descLen e - residue)) z :=
    ((hc.count _ _).count _ _).trans hz.ctrs
  have hcdch : ((c.dcCount d Ctr.DMA.DESCS).dcCount d Ctr.DMA.BYTES (descLen e - residue)).dch d = s.dch d :=
    (dch_congr ((count_dma ..).trans (count_dma ..)) d).trans hcd
  have hwpage : ∀ f : Fld, f.off < 0x1000 → w.dcF d f = z.dcF d f := fun f hf =>
    dcF_congr (hw.regs _ fun hm => unit_ne_page hd hf e (List.mem_singleton.1 hm).symm)
  have hctrl : IsDmaReg (dcB d) := isDmaReg_page hd (o := 0) (by decide)
  have hzsteward : z.dcSteward d = b.dcSteward d :=
    dcSteward_congr (dcF_congr (hz.regs _ (by simp [F.DC_CTRL.STEWARD, hctrl.not_mem_pmcRegs])))
  have hbcauses : b.endCauses d code residue e = s.endCauses d code residue e := by
    unfold State.endCauses
    rw [hbf _ (by decide)]
  exact
    { causes := by rw [hwpage _ (by decide), hz.causes, hbcauses]
      dch_self := by rw [hw.dch_self, hzdch]
      dch_other := fun q hq => by rw [hw.dch_other q hq, hzdch]
      ci := by rw [hwpage _ (by decide), hz.ci, hbf _ (by decide)]
      seq := by rw [hwpage _ (by decide), hz.seq, hbf _ (by decide)]
      out := by rw [hw.frame, ← hbout]; exact hz.out
      unit := hw.unit.trans (reg_unitFree_congr hzunit (hzdch d))
      sampN := by rw [hw.frame, ← hbpmc.sampN]; exact hz.sampN
      injected_self := hw.injected_self
      injected_other := fun q hq => (hw.injected_other q hq).trans (hzinj ..)
      pipe_other := hw.pipe_other.trans (hzpipe _)
      pipe_self := by rw [hw.pipe_self, hzpipe]
      ctrs := hw.ctrs.trans (hzctrs.unitFree ((hzdch d).trans hcdch.symm) e).ctrs
      evt := by rw [hw.frame, ← hbpmc.evt]; exact hz.evt
      steward := ((dcSteward_congr (hwpage _ (by decide))).trans hzsteward).trans hb.steward
      frame := (hb.dmaFrame.trans hz.dmaFrame).trans hw.dmaFrame
      regs := fun a ha => by
        simp only [List.mem_append, List.mem_cons, List.not_mem_nil, or_false, not_or] at ha
        obtain ⟨hl, hpmcRegs, hpos, hirq, hunit⟩ := ha
        rw [hw.regs a (by simp [hunit]), hz.regs a (by simp [hpmcRegs, hpos, hirq]), hb.regs a hl] }

/-- Writing a descriptor back ends it. -/
theorem ended_dmaFinish {l : List Nat} {b c : State} (hd : d < 32) (hb : SameChannel d l s b) (hc : CtrsLike c b)
    (hcd : c.dch d = s.dch d) (hdesc : (s.dch d).desc = some e) (hwait : NoneWaits s) (hq : Quiet d s)
    (hhand : b.bit (dcB d) F.DC_CTRL.PENDING = false ∨ b.dcState d ≠ 1) :
    Ended d code residue info e l b.out c s (b.dmaFinish d code residue info) := by
  have hbdch : ∀ q, b.dch q = s.dch q := dch_congr (by rw [hb.frame])
  have hz := writtenBack (code := code) (residue := residue) (info := info) (e := e) hd
    (hq.congr hb.steward (hb.reg (by simp)))
  rw [dmaFinish_eq (by rw [hbdch, hdesc])]
  generalize ((b.dmaPost d code residue info e).pmc 0x0B0 d (descLen e - residue)).dmaAdvance d e = z at hz ⊢
  have hzdch : ∀ q, z.dch q = s.dch q := dch_congr (by rw [hz.frame, hb.frame])
  have hw := letGo_dmaDrop (by rw [hzdch, hdesc]) (show NoneWaits z by unfold NoneWaits; simp only [hzdch]; exact hwait)
  generalize z.dmaDrop d = w at hw ⊢
  have hctrl : IsDmaReg (dcB d) := isDmaReg_page hd (o := 0) (by decide)
  have hwctrl : w.reg (dcB d) = b.reg (dcB d) :=
    (hw.regs _ fun hm => unit_ne_page hd (o := 0) (by decide) e (List.mem_singleton.1 hm).symm).trans
      (hz.regs _ (by simp [hctrl.not_mem_pmcRegs]))
  have hwhand : w.bit (dcB d) F.DC_CTRL.PENDING = false ∨ w.dcState d ≠ 1 := by
    have hpend : w.bit (dcB d) F.DC_CTRL.PENDING = b.bit (dcB d) F.DC_CTRL.PENDING :=
      congrArg (· != 0) (dcF_congr (f := F.DC_CTRL.PENDING) hwctrl)
    have hstate : w.dcState d = b.dcState d := dcF_congr (f := F.DC_CTRL.STATE) hwctrl
    rw [hpend, hstate]
    exact hhand
  rw [dcBoundary_of_not hwhand]
  exact .of_steps hd hb hc hcd hz hw

end Sys2Proof.Machine
end

section
/-! Proof that a DMA descriptor ends (O53). -/

namespace Sys2Proof.Machine

variable {s t : State} {d cause : Nat} {e : List Byte}

/-! ### A bus error stops the channel -/

theorem timers_stopTimer_other {i j : Nat} (h : j ≠ i) :
    SMap.get (fun _ => 0) (s.stopTimer i).timers j = SMap.get (fun _ => 0) s.timers j := by
  simp [State.stopTimer, smap_get_set_other _ _ _ h]

theorem dch_stopTimer (i q : Nat) : (s.stopTimer i).dch q = s.dch q := rfl

theorem reg_setDch (x : DmaChan) (a : Nat) : (s.setDch d x).reg a = s.reg a := rfl

theorem setDch_timers (x : DmaChan) : (s.setDch d x).timers = s.timers := rfl

/-- A channel has stopped with a cause (R459). -/
structure Stopped (d cause : Nat) (s t : State) : Prop where
  state : t.dcState d = 2
  why : t.dcF d F.DC_CTRL.CAUSE = cause
  steward : t.dcSteward d = s.dcSteward d
  timer : t.timerOn (Tm.stale d) = false
  dch_self : t.dch d = { s.dch d with rereads := 0 }
  dch_other : ∀ q, q ≠ d → t.dch q = s.dch q
  frame : t = { s with dma := t.dma, timers := t.timers, regs := t.regs }
  timers : TimersBut [Tm.stale d] s t
  regs : RegsBut [dcB d] s t

theorem stopped_dcStop (hd : d < 32) (hcause : cause < 8) : Stopped d cause s (s.dcStop d cause) := by
  have hctrl : IsDmaReg (dcB d) := isDmaReg_page hd (o := 0) (by decide)
  unfold State.dcStop
  dsimp only
  have hx : RegStep [dcB d] s ((s.setDcF d F.DC_CTRL.STATE 2).setDcF d F.DC_CTRL.CAUSE cause) :=
    ((RegStep.refl _ s).setF (f := F.DC_CTRL.STATE) 2 (.head _) hctrl).setF (f := F.DC_CTRL.CAUSE) cause (.head _) hctrl
  have hstate : ((s.setDcF d F.DC_CTRL.STATE 2).setDcF d F.DC_CTRL.CAUSE cause).dcF d F.DC_CTRL.STATE = 2 :=
    (fld_setF_other _ _ (by decide) (.inr (.inl (by decide)))).trans (fld_setF_same s _ _ _ (by decide))
  have hwhy : ((s.setDcF d F.DC_CTRL.STATE 2).setDcF d F.DC_CTRL.CAUSE cause).dcF d F.DC_CTRL.CAUSE = cause :=
    (fld_setF_same _ _ _ _ (by decide)).trans (Nat.mod_eq_of_lt hcause)
  have hsteward : ((s.setDcF d F.DC_CTRL.STATE 2).setDcF d F.DC_CTRL.CAUSE cause).dcSteward d = s.dcSteward d :=
    dcSteward_congr <| (fld_setF_other _ _ (by decide) (.inr (.inr (by decide)))).trans <|
      fld_setF_other s _ (by decide) (.inr (.inr (by decide)))
  generalize (s.setDcF d F.DC_CTRL.STATE 2).setDcF d F.DC_CTRL.CAUSE cause = x at hx hstate hwhy hsteward ⊢
  have hxdch : ∀ q, x.dch q = s.dch q := dch_congr (by rw [hx.frame])
  have hxtimers : x.timers = s.timers := by rw [hx.frame]
  have hframe : ∀ c i, (x.setDch d c).stopTimer i = { s with
      dma := ((x.setDch d c).stopTimer i).dma, timers := ((x.setDch d c).stopTimer i).timers,
      regs := ((x.setDch d c).stopTimer i).regs } := by
    intro c i
    obtain ⟨r, rfl⟩ : ∃ r, x = { s with regs := r } := ⟨_, hx.frame⟩
    rfl
  have hreg : ∀ c a, ((x.setDch d c).stopTimer (Tm.stale d)).reg a = x.reg a := fun c a => by
    rw [reg_stopTimer, reg_setDch]
  have hdcF : ∀ c f, ((x.setDch d c).stopTimer (Tm.stale d)).dcF d f = x.dcF d f := fun c f => dcF_congr (hreg c _)
  exact
    { state := (hdcF ..).trans hstate
      why := (hdcF ..).trans hwhy
      steward := (dcSteward_congr (hdcF ..)).trans hsteward
      timer := timerOn_stopTimer_same ..
      dch_self := by rw [dch_stopTimer, dch_setDch_same, hxdch]
      dch_other := fun q hq => by rw [dch_stopTimer, dch_setDch_other _ hq, hxdch]
      frame := hframe _ _
      timers := fun i hi => by
        rw [timers_stopTimer_other fun e => hi (List.mem_singleton.2 e), setDch_timers, hxtimers]
      regs := fun a ha => (hreg ..).trans (hx.regs a ha) }

/-- A channel stops on a bus error: BUS_ERR, the count, its interrupt bit and the event (R459). -/
def State.busStop (s : State) (d cause : Nat) : State :=
  (((s.dcStop d 2).dcCount d Ctr.DMA.BUS_ERRS).dcIrq d 3).raise Ev.DMA_BUS_ERR 0x3B d [(1, d), (1, cause)]

/-- A channel has stopped on a bus error, which is counted and reported. -/
structure BusStopped (d cause : Nat) (s t : State) : Prop where
  state : t.dcState d = 2
  why : t.dcF d F.DC_CTRL.CAUSE = 2
  timer : t.timerOn (Tm.stale d) = false
  causes : t.dcF d F.DC_IRQ.CAUSES = Nat.lor (s.dcF d F.DC_IRQ.CAUSES) 8
  dch_self : t.dch d = { s.dch d with rereads := 0 }
  dch_other : ∀ q, q ≠ d → t.dch q = s.dch q
  ctrs : t.ctrs = (s.dcCount d Ctr.DMA.BUS_ERRS).ctrs
  evt : t.evt = (s.raise Ev.DMA_BUS_ERR 0x3B d [(1, d), (1, cause)]).evt
  frame : t = { s with dma := t.dma, ctrs := t.ctrs, evt := t.evt, timers := t.timers, regs := t.regs }
  timers : TimersBut [Tm.stale d] s t
  regs : RegsBut [dcB d + 0x0, dcB d + 0x18] s t

/-- The steps of a bus error: the channel stops, the error is counted, the interrupt bit is set and the event raised. -/
theorem busStopped_of_steps {x y z w : State} (hx : Stopped d 2 s x) (hy : y = { x with ctrs := y.ctrs })
    (hyctrs : y.ctrs = (s.dcCount d Ctr.DMA.BUS_ERRS).ctrs) (hz : RegStep [dcB d + 0x18] y z)
    (hzcauses : z.dcF d F.DC_IRQ.CAUSES = Nat.lor (y.dcF d F.DC_IRQ.CAUSES) 8) (hw : w = { z with evt := w.evt })
    (hwevt : w.evt = (z.raise Ev.DMA_BUS_ERR 0x3B d [(1, d), (1, cause)]).evt) : BusStopped d cause s w := by
  have hyreg : ∀ a, y.reg a = x.reg a := by
    intro a
    rw [hy]
    rfl
  have hwreg : ∀ a, w.reg a = z.reg a := by
    intro a
    rw [hw]
    rfl
  have hws : w = { s with dma := x.dma, timers := x.timers, regs := z.regs, ctrs := y.ctrs, evt := w.evt } :=
    hw.trans <| (congrArg (fun v : State => { v with evt := w.evt }) hz.frame).trans <|
      (congrArg (fun v : State => { v with regs := z.regs, evt := w.evt }) hy).trans <|
      congrArg (fun v : State => { v with regs := z.regs, ctrs := y.ctrs, evt := w.evt }) hx.frame
  have hwctrl : ∀ f : Fld, f.off = 0 → w.dcF d f = x.dcF d f := fun f hf =>
    dcF_congr (by rw [hwreg, hz.regs _ (by simp [hf]), hyreg])
  have hwdch : ∀ q, w.dch q = x.dch q := dch_congr (by rw [hws])
  have hregs : RegsBut [dcB d + 0x0, dcB d + 0x18] s w := by
    intro a ha
    obtain ⟨hctrl, hirq⟩ : a ≠ dcB d ∧ a ≠ dcB d + 0x18 := by simpa using ha
    rw [hwreg, hz.regs a (by simp [hirq]), hyreg, hx.regs a (by simp [hctrl])]
  have hzevt : z.evt = s.evt := by rw [hz.frame, hy, hx.frame]
  have hzlive : z.live 0x3C = s.live 0x3C := by
    refine live_evt_congr ((hwreg _).symm.trans (hregs _ ?_))
    simp only [List.mem_cons, List.not_mem_nil, or_false, live_ne_page, not_false_eq_true]
  exact
    { state := (hwctrl _ rfl).trans hx.state
      why := (hwctrl _ rfl).trans hx.why
      timer := by rw [hws]; exact hx.timer
      causes := by
        rw [dcF_congr (hwreg _), hzcauses, dcF_congr (hyreg _), dcF_congr (hx.regs _ (by simp [F.DC_IRQ.CAUSES]))]
      dch_self := (hwdch d).trans hx.dch_self
      dch_other := fun q hq => (hwdch q).trans (hx.dch_other q hq)
      ctrs := by rw [hws]; exact hyctrs
      evt := hwevt.trans (raise_evt_congr hzevt hzlive ..)
      frame := by
        obtain ⟨m, n, r, c, v, rfl⟩ : ∃ m n r c v, w = { s with
          dma := m, timers := n, regs := r, ctrs := c, evt := v } := ⟨_, _, _, _, _, hws⟩
        rfl
      timers := fun i hi => by rw [hws]; exact hx.timers i hi
      regs := hregs }

theorem busStopped_busStop (hd : d < 32) (hq : Quiet d s) : BusStopped d cause s (s.busStop d cause) := by
  have hx := stopped_dcStop (s := s) (cause := 2) hd (by decide)
  have hctrs : CtrsLike s (s.dcStop d 2) := ⟨by rw [hx.frame], by rw [hx.frame], by rw [hx.frame]⟩
  have hyreg : ∀ a, ((s.dcStop d 2).dcCount d Ctr.DMA.BUS_ERRS).reg a = (s.dcStop d 2).reg a := fun a => reg_count ..
  have hyq : Quiet d ((s.dcStop d 2).dcCount d Ctr.DMA.BUS_ERRS) :=
    hq.congr ((dcSteward_congr (dcF_congr (hyreg _))).trans hx.steward) ((hyreg _).trans (hx.regs _ (by simp)))
  exact busStopped_of_steps hx (count_eq ..) (hctrs.count ..).ctrs (regStep_dcIrq hd hyq true 3)
    (causes_dcIrq hyq true (bit := 3) (by decide)) (raise_eq ..) rfl

/-! ### What a completion comes to -/

theorem exec_descriptorComplete (c : Fin 32) (hrun : s.live 0x3B = true ∧ s.dcState c.val = 1) :
    exec (.descriptorComplete c) s = .next (s.dmaComplete c.val) := congrArg Host.Outcome.next (if_pos hrun)

/-- A channel that does not run, holds no descriptor or waits completes nothing. -/
theorem exec_descriptorComplete_idle (c : Fin 32)
    (h : s.live 0x3B = false ∨ s.dcState c.val ≠ 1 ∨ (s.dch c.val).desc = none ∨ (s.dch c.val).waits = true) :
    exec (.descriptorComplete c) s = .next s := by
  have hidle : (s.dch c.val).desc = none ∨ (s.dch c.val).waits = true → s.dmaComplete c.val = s := by
    rintro (h | h)
    · simp [State.dmaComplete, h]
    · unfold State.dmaComplete
      split
      · rfl
      · exact if_pos h
  refine congrArg Host.Outcome.next ?_
  split
  next hrun =>
    obtain h | h | h := h
    · simp [hrun.1] at h
    · exact absurd hrun.2 h
    · exact hidle h
  next => rfl

theorem dmaComplete_code {code : Nat} (hdesc : (s.dch d).desc = some e) (hwaits : (s.dch d).waits = false)
    (hcode : (s.dch d).code = code) (h : code = 5 ∨ code = 6) :
    s.dmaComplete d = s.dmaFinish d code (if code = 5 then descLen e else 0) 0 := by
  obtain rfl | rfl := h
  · simp [State.dmaComplete, hdesc, hwaits, hcode]
  · simp [State.dmaComplete, hdesc, hwaits, hcode]

/-- A descriptor whose transfer has run: it waits for nothing, its code is not known before its end, and the path it
needs is up. -/
structure Transferred (d : Nat) (e : List Byte) (s : State) : Prop where
  desc : (s.dch d).desc = some e
  waits : (s.dch d).waits = false
  lenOk : (s.dch d).code ≠ 5
  chkOk : (s.dch d).code ≠ 6
  reached : s.dcCutOff d e = false

theorem Transferred.complete_copy (h : Transferred d e s) (hmode : (s.dch d).mode = 2) :
    s.dmaComplete d = s.copyDone d e := by
  simp [State.dmaComplete, h.desc, h.waits, h.lenOk, h.chkOk, h.reached, hmode]

theorem Transferred.complete_hostq {p : Packet} (h : Transferred d e s) (hmode : (s.dch d).mode = 1)
    (hpkt : (s.dch d).pkt = some p) : s.dmaComplete d = s.hostqDone d e p := by
  simp [State.dmaComplete, h.desc, h.waits, h.lenOk, h.chkOk, h.reached, hmode, hpkt]

theorem Transferred.complete_injected (h : Transferred d e s) (hmode : (s.dch d).mode = 0)
    (hleft : (s.injected d (injectPipe d)).length = 0) : s.dmaComplete d = s.dmaFinish d 0 0 0 := by
  have hempty : (s.injected d (injectPipe d)).isEmpty = true := List.isEmpty_iff_length_eq_zero.2 hleft
  simp only [State.dmaComplete, h.desc, h.waits, h.lenOk, h.chkOk, h.reached, hmode]
  exact if_pos hempty

theorem Transferred.complete_inject_held (h : Transferred d e s) (hmode : (s.dch d).mode = 0)
    (hheld : (s.injected d (injectPipe d)).length ≠ 0) : s.dmaComplete d = s := by
  have hempty : ¬ (s.injected d (injectPipe d)).isEmpty = true := fun h => hheld (List.isEmpty_iff_length_eq_zero.1 h)
  simp only [State.dmaComplete, h.desc, h.waits, h.lenOk, h.chkOk, h.reached, hmode]
  exact if_neg hempty

theorem dcAppends_of_not_chk (h : descChk e = false) : s.dcAppends d e = false := by simp [State.dcAppends, h]

theorem copyDone_plain (h : descChk e = false) :
    s.copyDone d e = (s.dcWrite d (descAddr2 e) (bytesAt (s.dch d).data 0 (descLen e))).dmaFinish d 0 0 0 := by
  simp [State.copyDone, State.dcAppends, State.dcStrips, h]

/-- The bytes a COPY writes where a CRC is appended (R455). -/
def State.crcAppended (s : State) (d : Nat) (e : List Byte) : List Byte :=
  let src := (bytesAt (s.dch d).data 0 (descLen e)).take (descLen e - polyLen (s.dcPoly e))
  src ++ polyBytes (s.dcPoly e) src

theorem copyDone_appends (h : s.dcAppends d e = true) :
    s.copyDone d e = (s.dcWrite d (descAddr2 e) (s.crcAppended d e)).dmaFinish d 0 0 0 := by
  unfold State.copyDone
  exact if_pos h

/-- What a HOSTQ descriptor writes before the packet's bytes. -/
def hostHead (e : List Byte) (p : Packet) : List Byte := if descBlock e then metaBlock p else []

/-- What a HOSTQ descriptor writes, uncut. -/
def hostBody (e : List Byte) (p : Packet) : List Byte := hostHead e p ++ p.bytes

/-- A HOSTQ descriptor has written its packet and then the block before it (R454). -/
def State.hostWritten (s : State) (d : Nat) (e : List Byte) (p : Packet) : State :=
  (s.dcWrite d (descAddr e + (hostHead e p).length)
    (((hostBody e p).take (descLen e)).drop (hostHead e p).length)).dcWrite d (descAddr e)
    (((hostBody e p).take (descLen e)).take (hostHead e p).length)

theorem hostqDone_plain {p : Packet} (hchk : descChk e = false) (huid : p.uid ≤ 2495) :
    s.hostqDone d e p = (if descLen e < (hostBody e p).length then (s.hostWritten d e p).dcCount d Ctr.DMA.TRUNCS
        else s.hostWritten d e p).dmaFinish d (b2n (decide (descLen e < (hostBody e p).length)))
      (descLen e - min (descLen e) (hostBody e p).length) (p.bytes.length + (p.uid - 2432) % 64 * 65536) := by
  simp [State.hostqDone, dcAppends_of_not_chk hchk, huid, State.hostWritten, hostBody, hostHead]

/-! ### Completions end their descriptors -/

theorem dcWrite_eq (a : Nat) (bs : List Byte) : s.dcWrite d a bs = { s with out := (s.dcWrite d a bs).out } := by
  unfold State.dcWrite
  split
  · rfl
  · split
    · rfl
    · split
      · rfl
      · rfl

theorem sameChannel_nil {b : State} (h : b = { s with out := b.out, ctrs := b.ctrs }) : SameChannel d [] s b := by
  obtain ⟨o, c, rfl⟩ : ∃ o c, b = { s with out := o, ctrs := c } := ⟨_, _, h⟩
  exact ⟨rfl, fun _ _ => rfl, List.nil_subset _, rfl, rfl⟩

/-- A channel whose descriptor can end: it holds the descriptor, no stream waits, and it raises no MSI-X cause. -/
structure Ending (d : Nat) (e : List Byte) (s : State) : Prop where
  lt : d < 32
  desc : (s.dch d).desc = some e
  noneWaits : NoneWaits s
  quiet : Quiet d s

theorem Ending.waits (h : Ending d e s) : (s.dch d).waits = false := h.noneWaits.not_waits h.lt

variable {code residue info : Nat}

/-- A descriptor ends in the state its requests have left, which differs in what was sent and in counters. -/
theorem Ending.ended_after {b c : State} (h : Ending d e s) (hpend : s.bit (dcB d) F.DC_CTRL.PENDING = false)
    (hb : b = { s with out := b.out, ctrs := b.ctrs }) (hc : CtrsLike c b) (hcd : c.dch d = s.dch d) :
    Ended d code residue info e [] b.out c s (b.dmaFinish d code residue info) := by
  have hsame : SameChannel d [] s b := sameChannel_nil hb
  have hbpend : b.bit (dcB d) F.DC_CTRL.PENDING = s.bit (dcB d) F.DC_CTRL.PENDING :=
    congrArg (· != 0) (dcF_congr (f := F.DC_CTRL.PENDING) (hsame.regs _ List.not_mem_nil))
  exact ended_dmaFinish h.lt hsame hc hcd h.desc h.noneWaits h.quiet (.inl (hbpend.trans hpend))

theorem Ending.ended (h : Ending d e s) (hpend : s.bit (dcB d) F.DC_CTRL.PENDING = false) :
    Ended d code residue info e [] s.out s s (s.dmaFinish d code residue info) :=
  h.ended_after hpend rfl ⟨rfl, rfl, rfl⟩ rfl

theorem Ending.ended_write (h : Ending d e s) (hpend : s.bit (dcB d) F.DC_CTRL.PENDING = false) (a : Nat)
    (bs : List Byte) :
    Ended d code residue info e [] (s.dcWrite d a bs).out s s ((s.dcWrite d a bs).dmaFinish d code residue info) := by
  have hw := dcWrite_eq (s := s) (d := d) a bs
  generalize s.dcWrite d a bs = b at hw ⊢
  obtain ⟨o, rfl⟩ : ∃ o, b = { s with out := o } := ⟨_, hw⟩
  exact h.ended_after hpend rfl ⟨rfl, rfl, rfl⟩ rfl

theorem hostWritten_eq (p : Packet) : s.hostWritten d e p = { s with out := (s.hostWritten d e p).out } := by
  unfold State.hostWritten
  rw [dcWrite_eq, dcWrite_eq]

theorem CtrsLike.dcCount (h : CtrsLike s t) (off n : Nat) : CtrsLike (s.dcCount d off n) (t.dcCount d off n) :=
  h.count ..

theorem Ending.ended_hostq (h : Ending d e s) (hpend : s.bit (dcB d) F.DC_CTRL.PENDING = false) (p : Packet) :
    Ended d code residue info e [] (s.hostWritten d e p).out
      (if descLen e < (hostBody e p).length then s.dcCount d Ctr.DMA.TRUNCS else s) s
      ((if descLen e < (hostBody e p).length then (s.hostWritten d e p).dcCount d Ctr.DMA.TRUNCS
        else s.hostWritten d e p).dmaFinish d code residue info) := by
  have hw := hostWritten_eq (s := s) (d := d) (e := e) p
  generalize s.hostWritten d e p = b at hw ⊢
  obtain ⟨o, rfl⟩ : ∃ o, b = { s with out := o } := ⟨_, hw⟩
  split
  · have hctrs : CtrsLike s { s with out := o } := ⟨rfl, rfl, rfl⟩
    have hout : ({ s with out := o }.dcCount d Ctr.DMA.TRUNCS).out = o := count_out ..
    have hend := h.ended_after (code := code) (residue := residue) (info := info) (c := s.dcCount d Ctr.DMA.TRUNCS)
      (b := { s with out := o }.dcCount d Ctr.DMA.TRUNCS) hpend (by rw [hout]; exact count_eq ..)
      (hctrs.dcCount Ctr.DMA.TRUNCS 1) (dch_congr (count_dma ..) d)
    rw [hout] at hend
    exact hend
  · exact h.ended_after hpend rfl ⟨rfl, rfl, rfl⟩ rfl

/-- What the end of a descriptor leaves, said at once. -/
theorem Ended.all {o : List Output} {c : State} (h : Ended d code residue info e [] o c s t) :
    t.dcF d F.DC_IRQ.CAUSES = s.endCauses d code residue e ∧
    t.dch d = (s.dch d).letGo ∧ (∀ q, q ≠ d → t.dch q = s.dch q) ∧
    t.dcF d F.DC_POS.CI = (s.dcF d F.DC_POS.CI + 1) % 131072 ∧
    t.dcF d F.DC_POS.SEQ_NEXT = (s.dcF d F.DC_POS.SEQ_NEXT + 1) % 256 ∧
    t.out = o ++ s.writebackOut d code residue info e ∧
    t.reg (chkB (descUnit e)) = (s.unitFree d e).reg (chkB (descUnit e)) ∧
    t.sampN = (s.pmc 0x0B0 d (descLen e - residue)).sampN ∧
    (t.injected d (injectPipe d)).length = 0 ∧
    (∀ q, q ≠ d → t.injected q (injectPipe d) = s.injected q (injectPipe d)) ∧
    t.pipe (1 - injectPipe d) = s.pipe (1 - injectPipe d) ∧
    t.pipe (injectPipe d) = { s.pipe (injectPipe d) with host := (t.pipe (injectPipe d)).host } ∧
    t.ctrs = (c.endCount d residue e).ctrs ∧ t.evt = (s.pmc 0x0B0 d (descLen e - residue)).evt ∧ DmaFrame s t ∧
    RegsBut (pmcRegs ++ [dcB d + 0x14, dcB d + 0x18, chkB (descUnit e)]) s t :=
  ⟨h.causes, h.dch_self, h.dch_other, h.ci, h.seq, h.out, h.unit, h.sampN, h.injected_self, h.injected_other,
    h.pipe_other, h.pipe_self, h.ctrs, h.evt, h.frame, List.nil_append _ ▸ h.regs⟩

/-! ### Bus errors -/

theorem exec_dmaBusError_fetch (c : Fin 32) (why : Fin 4) (moved : BitVec 25)
    (hrun : s.live 0x3B = true ∧ s.dcState c.val = 1) (hdesc : (s.dch c.val).desc = none) (hheld : s.dcHeld c.val ≠ 0) :
    exec (.dmaBusError c .fetch why moved) s = .next (s.dmaBusErr c.val .fetch why.val moved.toNat) :=
  congrArg Host.Outcome.next (if_pos (by simp [hrun, hdesc, hheld]))

theorem exec_dmaBusError_held (c : Fin 32) {phase : DmaPhase} (why : Fin 4) (moved : BitVec 25)
    (hrun : s.live 0x3B = true ∧ s.dcState c.val = 1) (hphase : phase ≠ .fetch) (h : Ending c.val e s) :
    exec (.dmaBusError c phase why moved) s = .next (s.dmaBusErr c.val phase why.val moved.toNat) := by
  refine congrArg Host.Outcome.next (if_pos ?_)
  cases phase with
  | fetch => exact absurd rfl hphase
  | data => simp [hrun, h.desc, h.waits]
  | writeback => simp [hrun, h.desc, h.waits]

theorem exec_dmaBusError_ignored (c : Fin 32) {phase : DmaPhase} (why : Fin 4) (moved : BitVec 25)
    (h : s.live 0x3B = false ∨ s.dcState c.val ≠ 1 ∨
      (phase = .fetch ∧ ((s.dch c.val).desc.isSome = true ∨ s.dcHeld c.val = 0)) ∨
      (phase ≠ .fetch ∧ ((s.dch c.val).desc.isSome = false ∨ (s.dch c.val).waits = true))) :
    exec (.dmaBusError c phase why moved) s = .next s := by
  refine congrArg Host.Outcome.next (if_neg ?_)
  obtain h | h | ⟨rfl, h⟩ | ⟨hphase, h⟩ := h
  · simp [h]
  · simp [h]
  · obtain h | h := h
    · simp [Option.isNone_eq_false_iff.2 h]
    · simp [h]
  · cases phase with
    | fetch => exact absurd rfl hphase
    | data => obtain h | h := h <;> simp [h]
    | writeback => obtain h | h := h <;> simp [h]

theorem dmaBusErr_fetch (moved : Nat) (hdesc : (s.dch d).desc = none) :
    s.dmaBusErr d .fetch cause moved = s.busStop d cause := by
  simp [State.dmaBusErr, State.dmaDrop, hdesc, State.busStop]

theorem dmaBusErr_writeback (moved : Nat) :
    s.dmaBusErr d .writeback cause moved = (s.dmaDrop d).busStop d cause := by
  simp only [State.dmaBusErr, State.busStop]

theorem dmaBusErr_data (moved : Nat) (hdesc : (s.dch d).desc = some e) :
    s.dmaBusErr d .data cause moved =
      ((s.setDcF d F.DC_CTRL.STATE 2).dmaFinish d 4 (descLen e - moved) 0).busStop d cause := by
  simp only [State.dmaBusErr, hdesc, State.busStop]

/-- A data request that fails ends its descriptor, whose channel has stopped before any hand-over. -/
theorem Ending.ended_stopped (h : Ending d e s) :
    Ended d code residue info e [dcB d] s.out s s ((s.setDcF d F.DC_CTRL.STATE 2).dmaFinish d code residue info) := by
  have hctrl : IsDmaReg (dcB d) := isDmaReg_page h.lt (o := 0) (by decide)
  have hb : RegStep [dcB d] s (s.setDcF d F.DC_CTRL.STATE 2) :=
    (RegStep.refl _ s).setF (f := F.DC_CTRL.STATE) 2 (.head _) hctrl
  have hstate : (s.setDcF d F.DC_CTRL.STATE 2).dcState d = 2 := fld_setF_same s _ _ _ (by decide)
  have hsteward : (s.setDcF d F.DC_CTRL.STATE 2).dcSteward d = s.dcSteward d :=
    dcSteward_congr (fld_setF_other s _ (by decide) (.inr (.inr (by decide))))
  have hout : (s.setDcF d F.DC_CTRL.STATE 2).out = s.out := setF_out ..
  generalize s.setDcF d F.DC_CTRL.STATE 2 = b at hb hstate hsteward hout ⊢
  have hsame : SameChannel d [dcB d] s b := by
    refine ⟨?_, hb.regs, List.Subset.refl _, hsteward, hb.listed⟩
    obtain ⟨r, rfl⟩ : ∃ r, b = { s with regs := r } := ⟨_, hb.frame⟩
    rfl
  have hend := ended_dmaFinish (code := code) (residue := residue) (info := info) h.lt hsame hb.ctrsLike rfl h.desc
    h.noneWaits h.quiet (.inr (by rw [hstate]; decide))
  rw [hout] at hend
  exact hend

theorem Ended.quiet {l : List Nat} {o : List Output} {c : State} (h : Ended d code residue info e l o c s t)
    (hd : d < 32) (hl : l ⊆ [dcB d]) (hq : Quiet d s) : Quiet d t := by
  refine hq.congr h.steward (h.regs _ fun hm => ?_)
  have hen : IsDmaReg (dcB d + 0x1C) := isDmaReg_page hd (by decide)
  obtain hm | hm := List.mem_append.1 hm
  · exact absurd (List.mem_singleton.1 (hl hm)) (by simp)
  · obtain hm | hm := List.mem_append.1 hm
    · exact hen.not_mem_pmcRegs hm
    · simp [(unit_ne_page hd (o := 0x1C) (by decide) e).symm] at hm

theorem LetGo.quiet (h : LetGo d e s t) (hd : d < 32) (hq : Quiet d s) : Quiet d t := by
  have hpage : ∀ o < 0x1000, t.reg (dcB d + o) = s.reg (dcB d + o) := fun o ho =>
    h.regs _ fun hm => unit_ne_page hd ho e (List.mem_singleton.1 hm).symm
  exact hq.congr (dcSteward_congr (dcF_congr (hpage _ (by decide)))) (hpage _ (by decide))

theorem BusStopped.reg (h : BusStopped d cause s t) {a : Nat} (hctrl : a ≠ dcB d) (hirq : a ≠ dcB d + 0x18) :
    t.reg a = s.reg a := h.regs a (by simp [hctrl, hirq])

theorem BusStopped.unit (h : BusStopped d cause s t) (hd : d < 32) (e : List Byte) :
    t.reg (chkB (descUnit e)) = s.reg (chkB (descUnit e)) :=
  h.reg (unit_ne_page hd (o := 0) (by decide) e) (unit_ne_page hd (by decide) e)

theorem BusStopped.pipe (h : BusStopped d cause s t) (k : Nat) : t.pipe k = s.pipe k := by
  have hpipes : t.pipes = s.pipes := by rw [h.frame]
  unfold State.pipe
  rw [hpipes]

theorem BusStopped.injected (h : BusStopped d cause s t) (q k : Nat) : t.injected q k = s.injected q k := by
  unfold State.injected
  rw [h.pipe]

theorem BusStopped.ctrs_after {c : State} (h : BusStopped d cause s t) (hc : CtrsLike c s) :
    t.ctrs = (c.dcCount d Ctr.DMA.BUS_ERRS).ctrs := h.ctrs.trans (hc.dcCount ..).ctrs

/-- The frames of two steps, a descriptor's end and its channel's stop, make the frame of both. -/
theorem DmaFrame.trans_stop {x : State} (h : DmaFrame s x) (k : BusStopped d cause x t) :
    t = { s with
      out := t.out, dma := t.dma, pipes := t.pipes, ctrs := t.ctrs, evt := t.evt, sampN := t.sampN, regs := t.regs,
      timers := t.timers } := by
  obtain ⟨o, m, p, c, v, n, r, rfl⟩ : ∃ o m p c v n r, x = { s with
    out := o, dma := m, pipes := p, ctrs := c, evt := v, sampN := n, regs := r } := ⟨_, _, _, _, _, _, _, h⟩
  obtain ⟨m1, c1, v1, n1, r1, rfl⟩ : ∃ m1 c1 v1 n1 r1, t = { s with
    out := o, dma := m1, pipes := p, ctrs := c1, evt := v1, sampN := n, timers := n1, regs := r1 } :=
    ⟨_, _, _, _, _, k.frame⟩
  rfl

/-- Letting a unit go keeps what decides which counters count. -/
theorem ctrsLike_unitFree {e : List Byte} (hctrs : t.ctrs = (s.unitFree d e).ctrs) (hcounting : t.counting = s.counting)
    (hmc : t.mcCounting = s.mcCounting) : CtrsLike (s.unitFree d e) t :=
  ⟨hctrs, by rw [hcounting, unitFree_eq], by rw [hmc, unitFree_eq]⟩

theorem Ended.ctrsLike {l : List Nat} {o : List Output} (h : Ended d code residue info e l o s s t) :
    CtrsLike (s.endCount d residue e) t :=
  ctrsLike_unitFree h.ctrs (by rw [h.frame, State.dcCount, State.dcCount, count_counting, count_counting])
    (by rw [h.frame, State.dcCount, State.dcCount, count_mcCounting, count_mcCounting])

theorem Ended.live_evt {o : List Output} {c : State} (h : Ended d code residue info e [dcB d] o c s t) :
    t.live 0x3C = s.live 0x3C := by
  refine live_evt_congr (h.regs _ ?_)
  simp only [List.mem_append, List.mem_cons, List.not_mem_nil, or_false, not_or]
  exact ⟨live_ne_page d (o := 0), live_not_mem_pmcRegs, live_ne_page d, live_ne_page d, live_ne_unit e⟩

theorem PmcKeeps.live_evt (h : PmcKeeps s t) : t.live 0x3C = s.live 0x3C :=
  live_evt_congr (h.regs _ live_not_mem_pmcRegs)

/-- What the end of a descriptor on a data request's bus error and the stop of its channel leave, said at once. -/
theorem Ended.all_stopped {x : State} (hx : Ended d code residue info e [dcB d] s.out s s x)
    (ht : BusStopped d cause x t) (hd : d < 32) :
    t.dcState d = 2 ∧ t.dcF d F.DC_CTRL.CAUSE = 2 ∧ t.timerOn (Tm.stale d) = false ∧
    t.dcF d F.DC_IRQ.CAUSES = Nat.lor (s.endCauses d code residue e) 8 ∧
    t.dch d = (s.dch d).letGo ∧ (∀ q, q ≠ d → t.dch q = s.dch q) ∧
    t.dcF d F.DC_POS.CI = (s.dcF d F.DC_POS.CI + 1) % 131072 ∧
    t.dcF d F.DC_POS.SEQ_NEXT = (s.dcF d F.DC_POS.SEQ_NEXT + 1) % 256 ∧
    t.out = s.out ++ s.writebackOut d code residue info e ∧
    t.reg (chkB (descUnit e)) = (s.unitFree d e).reg (chkB (descUnit e)) ∧
    t.sampN = (s.pmc 0x0B0 d (descLen e - residue)).sampN ∧
    (t.injected d (injectPipe d)).length = 0 ∧
    (∀ q, q ≠ d → t.injected q (injectPipe d) = s.injected q (injectPipe d)) ∧
    t.pipe (1 - injectPipe d) = s.pipe (1 - injectPipe d) ∧
    t.pipe (injectPipe d) = { s.pipe (injectPipe d) with host := (t.pipe (injectPipe d)).host } ∧
    t.ctrs = ((s.endCount d residue e).dcCount d Ctr.DMA.BUS_ERRS).ctrs ∧
    t.evt = ((s.pmc 0x0B0 d (descLen e - residue)).raise Ev.DMA_BUS_ERR 0x3B d [(1, d), (1, cause)]).evt ∧
    t = { s with
      out := t.out, dma := t.dma, pipes := t.pipes, ctrs := t.ctrs, evt := t.evt, sampN := t.sampN, regs := t.regs,
      timers := t.timers } ∧
    RegsBut (pmcRegs ++ [dcB d + 0x14, dcB d + 0x18, dcB d + 0x0, chkB (descUnit e)]) s t ∧
    TimersBut [Tm.stale d] s t := by
  have hpos : ∀ f : Fld, f.off = 0x14 → t.dcF d f = x.dcF d f := fun f hf =>
    dcF_congr (ht.reg (by simp [hf]) (by simp [hf]))
  have hlive : x.live 0x3C = (s.pmc 0x0B0 d (descLen e - residue)).live 0x3C :=
    hx.live_evt.trans (pmcKeeps_pmc ..).live_evt.symm
  have hout : t.out = x.out := by rw [ht.frame]
  have hsampN : t.sampN = x.sampN := by rw [ht.frame]
  have hxtimers : x.timers = s.timers := by rw [hx.frame]
  refine ⟨ht.state, ht.why, ht.timer, by rw [ht.causes, hx.causes], by rw [ht.dch_self, hx.dch_self]; rfl,
    fun q hq => (ht.dch_other q hq).trans (hx.dch_other q hq), by rw [hpos _ rfl, hx.ci], by rw [hpos _ rfl, hx.seq],
    hout.trans hx.out, (ht.unit hd e).trans hx.unit, hsampN.trans hx.sampN, by rw [ht.injected, hx.injected_self],
    fun q hq => by rw [ht.injected, hx.injected_other q hq], (ht.pipe _).trans hx.pipe_other,
    by rw [ht.pipe, hx.pipe_self], ht.ctrs_after hx.ctrsLike,
    ht.evt.trans (raise_evt_congr hx.evt hlive ..), hx.frame.trans_stop ht, fun a ha => ?_, fun i hi => ?_⟩
  · simp only [List.mem_append, List.mem_cons, List.not_mem_nil, or_false, not_or, Nat.add_zero] at ha
    obtain ⟨hpmcRegs, hpos, hirq, hctrl, hunit⟩ := ha
    rw [ht.reg hctrl hirq, hx.regs a (by simp [hpmcRegs, hpos, hirq, hctrl, hunit])]
  · rw [ht.timers i hi, hxtimers]

/-- What letting a descriptor go without writeback and the stop of its channel leave, said at once. -/
theorem LetGo.all_stopped {x : State} (hx : LetGo d e s x) (ht : BusStopped d cause x t) (hd : d < 32) :
    t.dcState d = 2 ∧ t.dcF d F.DC_CTRL.CAUSE = 2 ∧ t.timerOn (Tm.stale d) = false ∧
    t.dcF d F.DC_IRQ.CAUSES = Nat.lor (s.dcF d F.DC_IRQ.CAUSES) 8 ∧
    t.dch d = (s.dch d).letGo ∧ (∀ q, q ≠ d → t.dch q = s.dch q) ∧
    t.reg (chkB (descUnit e)) = (s.unitFree d e).reg (chkB (descUnit e)) ∧
    (t.injected d (injectPipe d)).length = 0 ∧
    (∀ q, q ≠ d → t.injected q (injectPipe d) = s.injected q (injectPipe d)) ∧
    t.pipe (1 - injectPipe d) = s.pipe (1 - injectPipe d) ∧
    t.pipe (injectPipe d) = { s.pipe (injectPipe d) with host := (t.pipe (injectPipe d)).host } ∧
    t.ctrs = ((s.unitFree d e).dcCount d Ctr.DMA.BUS_ERRS).ctrs ∧
    t.evt = (s.raise Ev.DMA_BUS_ERR 0x3B d [(1, d), (1, cause)]).evt ∧
    t = { s with
      dma := t.dma, pipes := t.pipes, ctrs := t.ctrs, evt := t.evt, timers := t.timers, regs := t.regs } ∧
    TimersBut [Tm.stale d] s t ∧ RegsBut [dcB d + 0x0, dcB d + 0x18, chkB (descUnit e)] s t := by
  have hxevt : x.evt = s.evt := by rw [hx.frame]
  have hxtimers : x.timers = s.timers := by rw [hx.frame]
  have hlive : x.live 0x3C = s.live 0x3C := live_evt_congr (hx.regs _ fun h => live_ne_unit e (List.mem_singleton.1 h))
  have hcauses : x.dcF d F.DC_IRQ.CAUSES = s.dcF d F.DC_IRQ.CAUSES :=
    dcF_congr (hx.regs _ fun h => unit_ne_page hd (by decide) e (List.mem_singleton.1 h).symm)
  have hctrs : CtrsLike (s.unitFree d e) x := ctrsLike_unitFree hx.ctrs (by rw [hx.frame]) (by rw [hx.frame])
  refine ⟨ht.state, ht.why, ht.timer, by rw [ht.causes, hcauses], by rw [ht.dch_self, hx.dch_self]; rfl,
    fun q hq => (ht.dch_other q hq).trans (hx.dch_other q hq), (ht.unit hd e).trans hx.unit,
    by rw [ht.injected, hx.injected_self], fun q hq => by rw [ht.injected, hx.injected_other q hq],
    (ht.pipe _).trans hx.pipe_other, by rw [ht.pipe, hx.pipe_self], ht.ctrs_after hctrs,
    ht.evt.trans (raise_evt_congr hxevt hlive ..), ?_, fun i hi => ?_, fun a ha => ?_⟩
  · obtain ⟨r, c, p, m, rfl⟩ : ∃ r c p m, x = { s with regs := r, ctrs := c, pipes := p, dma := m } :=
      ⟨_, _, _, _, hx.frame⟩
    obtain ⟨m1, c1, v1, n1, r1, rfl⟩ : ∃ m1 c1 v1 n1 r1, t = { s with
      pipes := p, dma := m1, ctrs := c1, evt := v1, timers := n1, regs := r1 } := ⟨_, _, _, _, _, ht.frame⟩
    rfl
  · rw [ht.timers i hi, hxtimers]
  · simp only [List.mem_cons, List.not_mem_nil, or_false, not_or, Nat.add_zero] at ha
    obtain ⟨hctrl, hirq, hunit⟩ := ha
    rw [ht.reg hctrl hirq, hx.regs a (by simp [hunit])]

/-- Settles O53: a completion comes to writing the descriptor back, and a bus error to the end of the descriptor or to
letting it go, and then to the stop of its channel. -/
theorem dmaDescriptorsEnd : Obligations.DmaDescriptorsEnd := by
  unfold Obligations.DmaDescriptorsEnd
  refine ⟨?_, ?_, ?_, ?_, ?_, ?_, ?_, ?_, ?_, ?_, ?_, ?_⟩
  -- a channel that does not run, holds none or waits
  · exact fun d s h => ⟨s, exec_descriptorComplete_idle d h, rfl⟩
  -- LEN_BAD
  · intro d e s ⟨hlive, hstate, hpend⟩ ⟨hdesc, hwait⟩ hq hcode
    have h : Ending d.val e s := ⟨d.isLt, hdesc, hwait, hq⟩
    refine ⟨_, exec_descriptorComplete d ⟨hlive, hstate⟩, ?_⟩
    rw [dmaComplete_code hdesc h.waits hcode (.inl rfl)]
    exact (h.ended hpend).all
  -- a failed check
  · intro d e s ⟨hlive, hstate, hpend⟩ ⟨hdesc, hwait⟩ hq hcode
    have h : Ending d.val e s := ⟨d.isLt, hdesc, hwait, hq⟩
    refine ⟨_, exec_descriptorComplete d ⟨hlive, hstate⟩, ?_⟩
    rw [dmaComplete_code hdesc h.waits hcode (.inr rfl)]
    exact (h.ended hpend).all
  -- a COPY without a check
  · intro d e s ⟨hlive, hstate, hpend⟩ ⟨hdesc, hwait⟩ hq ⟨h5, h6, hcut⟩ ⟨hmode, hchk⟩
    have h : Ending d.val e s := ⟨d.isLt, hdesc, hwait, hq⟩
    have ht : Transferred d.val e s := ⟨hdesc, h.waits, h5, h6, hcut⟩
    refine ⟨_, exec_descriptorComplete d ⟨hlive, hstate⟩, ?_⟩
    rw [ht.complete_copy hmode, copyDone_plain hchk]
    exact (h.ended_write hpend ..).all
  -- a COPY with a CRC appended
  · intro d e s ⟨hlive, hstate, hpend⟩ ⟨hdesc, hwait⟩ hq ⟨h5, h6, hcut⟩ ⟨hmode, happ⟩
    have h : Ending d.val e s := ⟨d.isLt, hdesc, hwait, hq⟩
    have ht : Transferred d.val e s := ⟨hdesc, h.waits, h5, h6, hcut⟩
    refine ⟨_, exec_descriptorComplete d ⟨hlive, hstate⟩, ?_⟩
    rw [ht.complete_copy hmode, copyDone_appends happ]
    exact (h.ended_write hpend ..).all
  -- a HOSTQ
  · intro d e pk s ⟨hlive, hstate, hpend⟩ ⟨hdesc, hwait⟩ hq ⟨h5, h6, hcut⟩ ⟨hmode, hpkt, hchk, huid⟩
    have h : Ending d.val e s := ⟨d.isLt, hdesc, hwait, hq⟩
    have ht : Transferred d.val e s := ⟨hdesc, h.waits, h5, h6, hcut⟩
    refine ⟨_, exec_descriptorComplete d ⟨hlive, hstate⟩, ?_⟩
    rw [ht.complete_hostq hmode hpkt, hostqDone_plain hchk huid]
    exact (h.ended_hostq hpend pk).all
  -- an INJECT whose packet has left
  · intro d e s ⟨hlive, hstate, hpend⟩ ⟨hdesc, hwait⟩ hq ⟨h5, h6, hcut⟩ ⟨hmode, hempty⟩
    have h : Ending d.val e s := ⟨d.isLt, hdesc, hwait, hq⟩
    have ht : Transferred d.val e s := ⟨hdesc, h.waits, h5, h6, hcut⟩
    refine ⟨_, exec_descriptorComplete d ⟨hlive, hstate⟩, ?_⟩
    rw [ht.complete_injected hmode hempty]
    exact (h.ended hpend).all
  -- an INJECT whose packet waits for its slot
  · intro d e s hrun ⟨hdesc, hwaits⟩ ⟨h5, h6, hcut⟩ ⟨hmode, hfull⟩
    have ht : Transferred d.val e s := ⟨hdesc, hwaits, h5, h6, hcut⟩
    refine ⟨_, exec_descriptorComplete d hrun, ?_⟩
    exact ht.complete_inject_held hmode hfull
  -- a bus error that finds nothing to fail
  · exact fun d phase cause moved s h => ⟨s, exec_dmaBusError_ignored d cause moved h, rfl⟩
  -- a bus error at a fetch
  · intro d phase cause moved s hrun ⟨hphase, hdesc, hheld⟩ hq
    subst hphase
    refine ⟨_, exec_dmaBusError_fetch d cause moved hrun hdesc hheld, ?_⟩
    rw [dmaBusErr_fetch _ hdesc]
    have h := busStopped_busStop (cause := cause.val) d.isLt hq
    exact ⟨h.state, h.why, h.timer, h.dch_self, h.dch_other, h.causes, h.ctrs, h.evt, h.frame, h.timers, h.regs⟩
  -- a bus error at data
  · intro d phase cause moved e s hrun ⟨hphase, hdesc, hwait⟩ hq
    subst hphase
    have h : Ending d.val e s := ⟨d.isLt, hdesc, hwait, hq⟩
    refine ⟨_, exec_dmaBusError_held d cause moved hrun (by decide) h, ?_⟩
    rw [dmaBusErr_data _ hdesc]
    have hx := h.ended_stopped (code := 4) (residue := descLen e - moved.toNat) (info := 0)
    have ht := busStopped_busStop (cause := cause.val) d.isLt (hx.quiet d.isLt (List.Subset.refl _) hq)
    exact hx.all_stopped ht d.isLt
  -- a bus error at a writeback
  · intro d phase cause moved e s hrun ⟨hphase, hdesc, hwait⟩ hq
    subst hphase
    have h : Ending d.val e s := ⟨d.isLt, hdesc, hwait, hq⟩
    refine ⟨_, exec_dmaBusError_held d cause moved hrun (by decide) h, ?_⟩
    rw [dmaBusErr_writeback]
    have hx := letGo_dmaDrop hdesc hwait
    have ht := busStopped_busStop (cause := cause.val) d.isLt (hx.quiet d.isLt hq)
    exact hx.all_stopped ht d.isLt

end Sys2Proof.Machine
end

section
/-! Proof that the form every state keeps holds at reset (O4) and after every step (O5). -/

namespace Sys2Proof.Machine

/-- Settles O4: the maps of the reset state and its boot buffer are empty. -/
theorem resetKeepsForm : Obligations.ResetKeepsForm where
  regs_wf := rfl
  ctrs_wf := rfl
  tally_wf := rfl
  timers_wf := rfl
  ctr_lt _ := Nat.two_pow_pos _
  tally_lt _ := Nat.two_pow_pos _
  boot_le := Nat.zero_le _

/-- What a command leaves is in the form again, whatever the queue it was taken from. -/
theorem inv_of_exec {c : Instr} {s t : State} (h : s.Inv) (e : exec c s = .next t) : t.Inv := by
  obtain ⟨u, hu, hafter⟩ := leaves_exec c (after_self h)
  have hut : u = t := Host.Outcome.next.inj (hu.symm.trans e)
  exact hut ▸ hafter.kept

/-- Settles O5: a step is a tick, whose parts stay within After, or the command at the queue's front, which completes
within After of the state with the queue's rest. -/
theorem stepKeepsForm : Obligations.StepKeepsForm := by
  intro s t h e
  cases hq : s.pending with
  | nil =>
    have ht : step s = .next s.idle := by rw [step, hq]
    exact Host.Outcome.next.inj (ht.symm.trans e) ▸ (after_idle (after_self h)).kept
  | cons c rest =>
    have hrest : ({ s with pending := rest } : State).Inv := h
    exact inv_of_exec hrest ((stepRunsFront c rest s hq).symm.trans e)

end Sys2Proof.Machine
end

section
/-! Refutation of the statement about the host path and the link (O54). -/

namespace Sys2Proof.Machine

/-- A packet of channel 0 that waits for its pipeline slot. -/
def waitingPacket : Packet := Packet.new 64 [] 0

/-- RUN, with a host channel that is IDLE, holds a descriptor and has a packet waiting in pipeline A's queue. -/
def idleChannelHolds : State :=
  { State.reset.setF aonB F.AON_BOOT_STAT.STAGE 0xA with
    dma := [(0, { DmaChan.empty with desc := some [] })]
    pipes := ⟨{ State.reset.pipes.a with host := [(0, [waitingPacket])] }, State.reset.pipes.b⟩ }

theorem idleChannelHolds_stage : idleChannelHolds.stage = 0xA := by decide +kernel

theorem idleChannelHolds_noUnit :
    ((List.range 32).all fun q => !(idleChannelHolds.dch q).waits && !(idleChannelHolds.dch q).unit) = true := by
  decide +kernel

/-- A function level reset in RUN empties the channel's place in the queue: DC reset lets go of every host channel's packet. -/
theorem flr_idleChannelHolds_host :
    SMap.get (fun _ => []) (idleChannelHolds.pathLost.msixReset.hostReset.pipe 0).host 0 = [] := by
  decide +kernel

theorem idleChannelHolds_state : idleChannelHolds.dcState 0 = 0 := by decide +kernel

/-- Refutes O54: a function level reset in RUN returns an IDLE host channel too (R462), and so takes the packet it has waiting
for its slot; the statement keeps the queue of every channel that does not run. -/
theorem not_hostPathAndLink : ¬ Obligations.HostPathAndLink := by
  unfold Obligations.HostPathAndLink
  intro h
  obtain ⟨-, -, hflr, -⟩ := h
  obtain ⟨t, hexec, ht⟩ := hflr .flr idleChannelHolds ⟨rfl, idleChannelHolds_stage⟩ idleChannelHolds_noUnit
  obtain ⟨-, -, -, -, -, hhost, -⟩ := ht
  have hnext : idleChannelHolds.pathLost.msixReset.hostReset = t := Host.Outcome.next.inj hexec
  have hkept := hhost 0
  rw [← hnext, flr_idleChannelHolds_host, if_neg (by rw [idleChannelHolds_state]; simp)] at hkept
  exact List.cons_ne_nil waitingPacket [] hkept.symm

end Sys2Proof.Machine
end

section
/-! Refutation of the statement about the ports' calibration and service (O34). -/

namespace Sys2Proof.Machine

/-- Where port 0 counts the packets its flush discards. -/
def flushCtr : Nat := tqB 0 + Ctr.TQ.TX_SVC_DISC

/-- Port 0 is IN without link and its queues are empty; the counter of flushed packets holds 2⁶⁴. -/
def counterPast64 : State :=
  { (State.reset.setBit aonB (islBit 0x10 0x10) true).setTq 0 F.TQ_PORT_SVC.STATE 0 with
    counting := 4
    ctrs := [(flushCtr, 2 ^ 64)] }

theorem counterPast64_reaches : counterPast64.reaches .steward (tqB 0) = true := by decide +kernel

theorem counterPast64_in : counterPast64.portState 0 = 0 ∧ counterPast64.linkUp 0 = false := by decide +kernel

theorem counterPast64_queues :
    ((List.range 8).all fun i => decide (counterPast64.q (8 * 0 + i) = QState.empty)) = true := by decide +kernel

theorem counterPast64_act : counterPast64.act 0 ≠ 5 ∧ counterPast64.act 1 ≠ 5 := by decide +kernel

/-- What taking port 0 out of service leaves of that state. -/
def portTakenOut : State :=
  counterPast64.onWrite .steward (tqB 0 + F.TQ_PORT_SVC.WANT.off) fun s => s.wrPortSvc 0 0 false

theorem portTakenOut_ctrs : portTakenOut.ctrs = [] := by decide +kernel

/-- Refutes O34: the flush counts the packets of each queue modulo 2⁶⁴ (R105), none included, so a counter that holds 2⁶⁴
reads 0 afterwards, where the clause of empty queues says that no counter changes. -/
theorem not_portsCalibrateAndChangeService : ¬ Obligations.PortsCalibrateAndChangeService := by
  unfold Obligations.PortsCalibrateAndChangeService
  intro h
  obtain ⟨-, -, -, -, -, -, -, -, -, -, hclear, -⟩ := h
  obtain ⟨hin, hlink⟩ := counterPast64_in
  obtain ⟨t, hexec, ht⟩ := hclear .steward 0 false counterPast64 counterPast64_reaches (by decide) hin hlink
    counterPast64_queues counterPast64_act
  obtain ⟨-, -, -, -, -, -, -, hframe, -⟩ := ht
  have hnext : portTakenOut = t := Host.Outcome.next.inj hexec
  have hkept : t.ctrs = counterPast64.ctrs := by rw [hframe]
  rw [← hnext, portTakenOut_ctrs] at hkept
  exact List.cons_ne_nil _ _ hkept.symm

end Sys2Proof.Machine
end

section
/-! Proof support: a write that reaches its register (R531), and what the time up to a timer's end leaves (R32, R317, R515). -/

namespace Sys2Proof.Machine

variable {s t u : State}

/-! ### Writes that reach their register -/

/-- A write that passes the checks of R531 has its effect. -/
theorem onWrite_of_reaches {m : Master} {a : Nat} (act : State → State) (h : s.reaches m a = true) :
    s.onWrite m a act = act s := by
  simp only [State.reaches, Bool.and_eq_true, Bool.not_eq_true'] at h
  obtain ⟨⟨⟨⟨hr54, hinst⟩, hlive⟩, hown⟩, hdma⟩ := h
  simp [State.onWrite, hr54, Option.isNone_eq_false_iff.2 hinst, hlive, hown, hdma]

/-! ### Registers -/

theorem fld_congr {b : Nat} {f : Fld} (h : t.reg (b + f.off) = s.reg (b + f.off)) : t.fld b f = s.fld b f := by
  unfold State.fld
  rw [h]

theorem bit_congr {b : Nat} {f : Fld} (h : t.reg (b + f.off) = s.reg (b + f.off)) : t.bit b f = s.bit b f := by
  unfold State.bit
  rw [fld_congr h]

theorem regsBut_trans {l m : List Nat} (h : RegsBut l s t) (k : RegsBut m t u) : RegsBut (l ++ m) s u := fun a ha => by
  rw [List.mem_append, not_or] at ha
  exact (k a ha.2).trans (h a ha.1)

theorem regsBut_mono {l m : List Nat} (h : RegsBut l s t) (hlm : l ⊆ m) : RegsBut m s t := fun a ha =>
  h a fun hal => ha (hlm hal)

theorem regsBut_setF (b : Nat) (f : Fld) (v : Nat) : RegsBut [b + f.off] s (s.setF b f v) := fun _ ha =>
  reg_setF_other s v fun e => ha (List.mem_singleton.2 e)

/-! ### Time up to a timer's end -/

/-- Whether time that passes may change the register at an offset: a performance counter's, or a recirculation credit. -/
def isClocked (a : Nat) : Bool := (decide (pmcB ≤ a) && decide (a ≤ pmcB + 0xC08)) || a == kB 0 + 0x44 || a == kB 1 + 0x44

theorem isClocked_of_mem_pmcRegs {a : Nat} (h : a ∈ pmcRegs) : isClocked a = true := by
  have hle : a ≤ pmcB + 0xC08 := by
    obtain h | h := List.mem_append.1 h
    · obtain ⟨k, hk, rfl⟩ := List.mem_map.1 h
      rw [List.mem_range] at hk
      omega
    · simp only [List.mem_cons, List.not_mem_nil, or_false] at h
      omega
  simp [isClocked, pmcB_le_of_mem h, hle]

/-- What time that passes may change: the clock, the raw count, events, timers, and the registers that count clocks. -/
structure Waited (s t : State) : Prop where
  frame : t = { s with now := t.now, regs := t.regs, timers := t.timers, evt := t.evt, tim := t.tim, sampN := t.sampN }
  regs : ∀ a, isClocked a = false → t.reg a = s.reg a

theorem Waited.refl (s : State) : Waited s s := ⟨rfl, fun _ _ => rfl⟩

theorem Waited.trans (h : Waited s t) (k : Waited t u) : Waited s u where
  frame := k.frame.trans (congrArg (fun x : State => { x with
    now := u.now, regs := u.regs, timers := u.timers, evt := u.evt, tim := u.tim, sampN := u.sampN }) h.frame)
  regs a ha := (k.regs a ha).trans (h.regs a ha)

theorem PmcKeeps.waited (h : PmcKeeps s t) : Waited s t where
  frame := by
    obtain ⟨r, v, n, rfl⟩ : ∃ r v n, t = { s with regs := r, evt := v, sampN := n } := ⟨_, _, _, h.frame⟩
    rfl
  regs a ha := h.regs a fun hmem => by simp [isClocked_of_mem_pmcRegs hmem] at ha

theorem waited_pmcTime (n : Nat) : Waited s (s.pmcTime n) := by
  have hfold : ∀ (l : List Nat) (s : State), (∀ c ∈ l, c < 96) → Waited s
      (l.foldl (fun s c => let k := s.clockGain c n; if k = 0 then s else s.pmcAdd c k) s) := by
    intro l
    induction l with
    | nil => exact fun s _ => .refl s
    | cons c l ih =>
      intro s hl
      obtain ⟨hc, hl⟩ := List.forall_mem_cons.1 hl
      refine Waited.trans ?_ (ih _ hl)
      dsimp only
      split
      · exact .refl s
      · exact (pmcKeeps_pmcAdd hc _).waited
  exact hfold _ s fun c hc => pmcListed_lt (List.mem_of_mem_filter hc)

theorem waited_gainCredit {k : Nat} (hk : k = 0 ∨ k = 1) (n : Nat) : Waited s (s.gainCredit k n) := by
  unfold State.gainCredit
  split
  · exact .refl s
  · refine ⟨rfl, fun a ha => reg_setF_other s _ fun e => ?_⟩
    obtain rfl | rfl := hk
    · simp [isClocked, e, F.KP_ARB_STAT.CREDIT] at ha
    · simp [isClocked, e, F.KP_ARB_STAT.CREDIT] at ha

theorem waited_elapse (n : Nat) : Waited s (s.elapse n) := by
  have hlater : Waited s ((s.pmcTime n).later n) := (waited_pmcTime n).trans ⟨rfl, fun _ _ => rfl⟩
  unfold State.elapse
  dsimp only
  refine Waited.trans (Waited.trans ?_ (waited_gainCredit (.inl rfl) _)) (waited_gainCredit (.inr rfl) _)
  split
  · exact hlater.trans ⟨rfl, fun _ _ => rfl⟩
  · exact hlater

theorem waited_atEnd (id : Nat) : Waited s (s.atEnd id) := by
  unfold State.atEnd
  refine Waited.trans ?_ ⟨rfl, fun _ _ => rfl⟩
  unfold State.elapseTo
  split
  · exact waited_elapse _
  · exact .refl s

@[simp] theorem atEnd_stw (id : Nat) : (s.atEnd id).stw = s.stw := by rw [(waited_atEnd id).frame]
@[simp] theorem atEnd_draining (id : Nat) : (s.atEnd id).draining = s.draining := by rw [(waited_atEnd id).frame]

theorem fld_atEnd {b : Nat} {f : Fld} (id : Nat) (h : isClocked (b + f.off) = false) : (s.atEnd id).fld b f = s.fld b f :=
  fld_congr ((waited_atEnd id).regs _ h)

theorem bit_atEnd {b : Nat} {f : Fld} (id : Nat) (h : isClocked (b + f.off) = false) : (s.atEnd id).bit b f = s.bit b f :=
  bit_congr ((waited_atEnd id).regs _ h)

/-- A running timer's expiry acts at its end. -/
theorem expire_of_on {id : Nat} (f : State → State) (h : s.timerOn id = true) : s.expire id f = f (s.atEnd id) := if_pos h

end Sys2Proof.Machine
end

section
/-! Proof support: what a PON channel's inhibits (R107, R109) leave: BEN at rest, and the bursts that are cancelled. -/

namespace Sys2Proof.Machine

variable {s t u : State} {c : Nat}

/-! ### BEN alone is put out -/

theorem onlyBens_iff : OnlyBens s t ↔ ∃ l, t.out = s.out ++ l ∧ l.all Output.isBen = true := by
  constructor
  · rintro ⟨⟨l, hl⟩, hall⟩
    refine ⟨l, hl.symm, ?_⟩
    rwa [← hl, List.drop_left] at hall
  · rintro ⟨l, hl, hall⟩
    refine ⟨⟨l, hl.symm⟩, ?_⟩
    rwa [hl, List.drop_left]

theorem onlyBens_of_eq (h : t.out = s.out) : OnlyBens s t := onlyBens_iff.2 ⟨[], by rw [h, List.append_nil], rfl⟩

theorem onlyBens_trans (h : OnlyBens s t) (k : OnlyBens t u) : OnlyBens s u := by
  obtain ⟨l, hl, hall⟩ := onlyBens_iff.1 h
  obtain ⟨m, hm, mall⟩ := onlyBens_iff.1 k
  exact onlyBens_iff.2 ⟨l ++ m, by rw [hm, hl, List.append_assoc], by rw [List.all_append, hall, mall, Bool.true_and]⟩

/-! ### One channel changes -/

/-- What changes in a channel when it is inhibited: its bursts, its Till, its counters and Tally, registers at the listed
offsets, and BEN. What it holds for the Steward stays. -/
structure PonStep (l : List Nat) (c : Nat) (s t : State) : Prop where
  frame : t = { s with regs := t.regs, ctrs := t.ctrs, tally := t.tally, pon := t.pon, bc := t.bc, out := t.out }
  regs : RegsBut l s t
  bens : OnlyBens s t
  held : (t.pn c).stwPloam = (s.pn c).stwPloam ∧ (t.pn c).omciIn = (s.pn c).omciIn
  other : ∀ i, i ≠ chIx c → t.pon.get i = s.pon.get i

theorem PonStep.refl (l : List Nat) (c : Nat) (s : State) : PonStep l c s s :=
  ⟨rfl, fun _ _ => rfl, onlyBens_of_eq rfl, ⟨rfl, rfl⟩, fun _ _ => rfl⟩

theorem PonStep.trans {l : List Nat} (h : PonStep l c s t) (k : PonStep l c t u) : PonStep l c s u where
  frame := k.frame.trans (congrArg (fun x : State => { x with
    regs := u.regs, ctrs := u.ctrs, tally := u.tally, pon := u.pon, bc := u.bc, out := u.out }) h.frame)
  regs a ha := (k.regs a ha).trans (h.regs a ha)
  bens := onlyBens_trans h.bens k.bens
  held := ⟨k.held.1.trans h.held.1, k.held.2.trans h.held.2⟩
  other i hi := (k.other i hi).trans (h.other i hi)

theorem PonStep.mono {l m : List Nat} (h : PonStep l c s t) (hlm : l ⊆ m) : PonStep m c s t :=
  { h with regs := regsBut_mono h.regs hlm }

theorem PonStep.foldl {α : Type} {l : List Nat} {f : State → α → State} (hf : ∀ s a, PonStep l c s (f s a)) (as : List α)
    (s : State) : PonStep l c s (as.foldl f s) := by
  induction as generalizing s with
  | nil => exact .refl l c s
  | cons a as ih => exact (hf s a).trans (ih _)

theorem pair_get_set_same {α : Type} (p : Pair α) (i : Fin 2) (x : α) : (p.set i x).get i = x := by
  unfold Pair.get Pair.set
  split
  · rfl
  · rfl

theorem pair_get_set_other {α : Type} (p : Pair α) {i j : Fin 2} (x : α) (h : j ≠ i) : (p.set i x).get j = p.get j := by
  unfold Pair.get Pair.set
  split
  · split
    · omega
    · rfl
  · split
    · rfl
    · omega

theorem pn_setPn_same (x : PonState) : (s.setPn c x).pn c = x := pair_get_set_same ..

theorem ponStep_setF {l : List Nat} {b : Nat} {f : Fld} (v : Nat) (hl : b + f.off ∈ l) : PonStep l c s (s.setF b f v) :=
  ⟨rfl, fun _ ha => reg_setF_other s v fun e => ha (e ▸ hl), onlyBens_of_eq rfl, ⟨rfl, rfl⟩, fun _ _ => rfl⟩

theorem ponStep_setPn (l : List Nat) {x : PonState} (hploam : x.stwPloam = (s.pn c).stwPloam)
    (homci : x.omciIn = (s.pn c).omciIn) : PonStep l c s (s.setPn c x) where
  frame := rfl
  regs _ _ := rfl
  bens := onlyBens_of_eq rfl
  held := by rw [pn_setPn_same]; exact ⟨hploam, homci⟩
  other _ hi := pair_get_set_other _ _ hi

theorem ponStep_count (l : List Nat) (a n : Nat) : PonStep l c s (s.count a n) := by
  rw [count_eq]
  exact ⟨rfl, fun _ _ => rfl, onlyBens_of_eq rfl, ⟨rfl, rfl⟩, fun _ _ => rfl⟩

theorem ponStep_tallyAdd (l : List Nat) (p i n : Nat) : PonStep l c s (s.tallyAdd p i n) :=
  ⟨rfl, fun _ _ => rfl, onlyBens_of_eq rfl, ⟨rfl, rfl⟩, fun _ _ => rfl⟩

theorem ponStep_setBcs (l : List Nat) (x : BcState) : PonStep l c s (s.setBcs c x) :=
  ⟨rfl, fun _ _ => rfl, onlyBens_of_eq rfl, ⟨rfl, rfl⟩, fun _ _ => rfl⟩

theorem ponStep_showTill : PonStep [bcB c + 0x44] c s (s.showTill c) :=
  (ponStep_setF (f := F.BC_TILL_STAT.STAGE_USED) _ (.head _)).trans
    (ponStep_setF (f := F.BC_TILL_STAT.RADIO_USED) _ (.head _))

/-! ### Bursts are cancelled (R109, R125, R306) -/

theorem ponStep_grantMiss (off ix k : Nat) : PonStep [bcB c + 0x44] c s (s.grantMiss c off ix k) := by
  unfold State.grantMiss
  dsimp only
  split
  · exact (ponStep_count _ _ _).trans (ponStep_tallyAdd _ _ _ _)
  · exact ponStep_count _ _ _

theorem ponStep_restore (a : Alloc) : PonStep [bcB c + 0x44] c s (s.restore c a) := by
  unfold State.restore
  split
  · exact .refl _ c s
  · dsimp only
    refine PonStep.trans ?_ (ponStep_setPn _ rfl rfl)
    split
    · exact (ponStep_setBcs _ _).trans ponStep_showTill
    · exact .refl _ c s

theorem ponStep_dropBurst (b : Burst) (off k : Nat) : PonStep [bcB c + 0x44] c s (s.dropBurst c b off k) := by
  unfold State.dropBurst
  refine PonStep.trans (PonStep.foldl (f := fun s a => (s.grantMiss c off a.ix k).restore c a)
    (fun s a => (ponStep_grantMiss off a.ix k).trans (ponStep_restore a)) b.allocs.reverse s) ?_
  refine ponStep_setPn _ ?_ ?_
  · dsimp only
    split
    · split
      · rfl
      · rfl
    · rfl
  · dsimp only
    split
    · split
      · rfl
      · rfl
    · rfl

theorem ponStep_cancelBursts : PonStep [bcB c + 0x44] c s (s.cancelBursts c) :=
  PonStep.foldl (fun _ _ => ponStep_dropBurst _ _ _) _ s

/-! ### The transmitter's state is shown (R107, R131) -/

/-- A channel with another end of BEN. -/
def PonState.withBenTill (p : PonState) (x : Option Nat) : PonState := { p with benTill := x }

/-- A channel whose transmitter shows its state: its status register and BEN, no more. -/
structure BenStep (c : Nat) (s t : State) : Prop where
  frame : t = { s with regs := t.regs, pon := t.pon, out := t.out }
  regs : RegsBut [pnB c + 0x104] s t
  bens : OnlyBens s t
  self : t.pn c = (s.pn c).withBenTill (t.pn c).benTill
  other : ∀ i, i ≠ chIx c → t.pon.get i = s.pon.get i

theorem BenStep.ponStep (h : BenStep c s t) : PonStep [pnB c + 0x104] c s t where
  frame := by
    obtain ⟨r, p, o, rfl⟩ : ∃ r p o, t = { s with regs := r, pon := p, out := o } := ⟨_, _, _, h.frame⟩
    rfl
  regs := h.regs
  bens := h.bens
  held := by
    rw [h.self]
    exact ⟨rfl, rfl⟩
  other := h.other

theorem BenStep.refl (c : Nat) (s : State) : BenStep c s s :=
  ⟨rfl, fun _ _ => rfl, onlyBens_of_eq rfl, rfl, fun _ _ => rfl⟩

theorem BenStep.trans (h : BenStep c s t) (k : BenStep c t u) : BenStep c s u where
  frame := k.frame.trans (congrArg (fun x : State => { x with regs := u.regs, pon := u.pon, out := u.out }) h.frame)
  regs a ha := (k.regs a ha).trans (h.regs a ha)
  bens := onlyBens_trans h.bens k.bens
  self := by
    refine k.self.trans ?_
    rw [h.self]
    rfl
  other i hi := (k.other i hi).trans (h.other i hi)

theorem benStep_setPf {f : Fld} (v : Nat) (hf : f.off = 0x104) : BenStep c s (s.setPf c f v) :=
  ⟨rfl, hf ▸ regsBut_setF (pnB c) f v, onlyBens_of_eq rfl, rfl, fun _ _ => rfl⟩

theorem regs_benFall (at_ : Nat) : (s.benFall c at_).regs = s.regs := by
  unfold State.benFall
  dsimp only
  split
  · rfl
  · rfl

theorem benStep_benFall (at_ : Nat) : BenStep c s (s.benFall c at_) := by
  refine ⟨?_, fun a _ => congrArg (fun m => SMap.get resetWord m a) (regs_benFall at_), ?_, ?_, ?_⟩
  all_goals
    unfold State.benFall
    dsimp only
    split
  · rfl
  · rfl
  · exact onlyBens_iff.2 ⟨[_], rfl, rfl⟩
  · exact onlyBens_of_eq rfl
  · have hpn : ∀ x, ((s.setPn c x).benEdge c false at_).pn c = x := fun x => pn_setPn_same x
    rw [hpn]
    rfl
  · rfl
  · exact fun i hi => pair_get_set_other _ _ hi
  · exact fun _ _ => rfl

theorem benStep_benRest : BenStep c s (s.benRest c) := by
  unfold State.benRest
  split
  · exact benStep_benFall _
  · exact .refl c s

theorem benStep_showTx : BenStep c s (s.showTx c) := (benStep_setPf _ rfl).trans benStep_benRest

/-- Showing the transmitter's state leaves every other field of its register alone. -/
theorem pf_showTx {f : Fld} (hf : f.lo + f.width ≤ 25 ∨ 26 ≤ f.lo) : (s.showTx c).pf c f = s.pf c f := by
  have hregs : ∀ x : State, (x.benRest c).regs = x.regs := by
    intro x
    unfold State.benRest
    split
    · exact regs_benFall _
    · rfl
  have hrest : (s.showTx c).pf c f = (s.showTxOn c).pf c f :=
    fld_congr (congrArg (fun m => SMap.get resetWord m (pnB c + f.off)) (hregs _))
  refine hrest.trans (fld_setF_other s _ (by decide) (.inr ?_))
  have : F.PN_US_STAT.TX_ON.lo = 25 ∧ F.PN_US_STAT.TX_ON.width = 1 := by decide
  omega

/-! ### An inhibit changes (R107, R109) -/

/-- One inhibit of the transmitter. -/
def inhBit (k : Nat) : Fld := ⟨0x104, 12 + k, 12 + k⟩

theorem inhBit_width (k : Nat) : (inhBit k).width = 1 := by
  simp [inhBit, Fld.width]

theorem inhBit_fits {k : Nat} (hk : k < 4) : (inhBit k).lo + (inhBit k).width ≤ 25 := by
  rw [inhBit_width, inhBit]
  dsimp only
  omega

/-- A field of a register in which bits of another have been replaced. -/
theorem fld_setF_overlap {b : Nat} {f g : Fld} (v : Nat) (hoff : g.off = f.off) (hf : f.lo + f.width ≤ 32) :
    (s.setF b f v).fld b g = g.of (f.ins (s.reg (b + f.off)).toNat v) := by
  unfold State.fld
  rw [hoff, reg_setF_same, BitVec.toNat_ofNat, Nat.mod_eq_of_lt (f.ins_lt _ _ (s.reg _).isLt hf)]

theorem inh_setPf {k : Nat} (hk : k < 4) (v : Nat) :
    (s.setPf c (inhBit k) v).inh c = F.PN_US_STAT.INH.of ((inhBit k).ins (s.reg (pnB c + 0x104)).toNat v) :=
  fld_setF_overlap v rfl ((inhBit_fits hk).trans (by decide))

/-- An inhibit that falls shows in its bit, and no burst is cancelled. -/
theorem setInh_false {k : Nat} (hk : k < 4) : s.setInh c k false = (s.setPf c (inhBit k) 0).showTx c := by
  have hnone : ¬ (s.inh c = 0 ∧ (s.setPf c (inhBit k) 0).inh c ≠ 0) := by
    rintro ⟨h0, hne⟩
    refine hne (Nat.eq_of_testBit_eq fun i => ?_)
    have hbit : (s.inh c).testBit i = false := by rw [h0, Nat.zero_testBit]
    rw [inh_setPf hk, Nat.zero_testBit, Fld.testBit_of, Fld.testBit_ins]
    split
    · simp
    · exact (Fld.testBit_of ..).symm.trans hbit
  unfold State.setInh
  exact congrArg (fun x : State => x.showTx c) (if_neg hnone)

theorem benStep_setInh {k : Nat} (hk : k < 4) : BenStep c s (s.setInh c k false) := by
  rw [setInh_false hk]
  exact (benStep_setPf _ rfl).trans benStep_showTx

theorem bit_setInh_false {k : Nat} (hk : k < 4) : (s.setInh c k false).bit (pnB c) (inhBit k) = false := by
  have h : (s.setInh c k false).pf c (inhBit k) = 0 := by
    rw [setInh_false hk, pf_showTx (.inl (inhBit_fits hk))]
    exact (fld_setF_same s _ _ _ ((inhBit_fits hk).trans (by decide))).trans (Nat.zero_mod _)
  exact congrArg (· != 0) h

/-- An inhibit that rises changes the channel alone. -/
theorem ponStep_setInh (k : Nat) (v : Bool) : PonStep [pnB c + 0x104, bcB c + 0x44] c s (s.setInh c k v) := by
  have hset : PonStep [pnB c + 0x104, bcB c + 0x44] c s (s.setPf c (inhBit k) (b2n v)) := ponStep_setF _ (.head _)
  unfold State.setInh
  dsimp only
  refine PonStep.trans ?_ (benStep_showTx.ponStep.mono (by simp))
  split
  · exact hset.trans (ponStep_cancelBursts.mono (by simp))
  · exact hset

/-- Where a composer's Till status lies, no channel has its transmitter's. -/
theorem pnStat_ne_tillStat : pnB c + 0x104 ≠ bcB c + 0x44 := by
  unfold pnB bcB window
  omega

/-- The Steward's inhibit is the third of the four. -/
theorem inh_setInh_down : (s.setInh c 2 true).inh c = Nat.lor (s.inh c) 4 := by
  have hset : (s.setPf c (inhBit 2) 1).inh c = Nat.lor (s.inh c) 4 := by
    rw [inh_setPf (by decide)]
    refine Nat.eq_of_testBit_eq fun i => ?_
    change _ = (s.inh c ||| 2 ^ 2).testBit i
    have hinh : (s.inh c).testBit i = (decide (i < 4) && (s.reg (pnB c + 0x104)).toNat.testBit (12 + i)) :=
      Fld.testBit_of ..
    rw [Nat.testBit_or, Nat.testBit_two_pow, hinh, Fld.testBit_of, Fld.testBit_ins, inhBit_width]
    change (decide (i < 4) && if 14 ≤ 12 + i ∧ 12 + i < 14 + 1 then Nat.testBit 1 (12 + i - 14) else _) = _
    by_cases hi : i = 2
    · subst hi
      simp
    · have hout : ¬ (14 ≤ 12 + i ∧ 12 + i < 14 + 1) := by omega
      simp [hout, Ne.symm hi, F.PN_US_STAT.INH]
  have hshow : ∀ {x : State}, PonStep [bcB c + 0x44] c (s.setPf c (inhBit 2) 1) x →
      (x.showTx c).inh c = Nat.lor (s.inh c) 4 := fun {x} hx => by
    have hinh : x.inh c = (s.setPf c (inhBit 2) 1).inh c :=
      fld_congr (hx.regs _ fun h => pnStat_ne_tillStat (List.mem_singleton.1 h))
    exact (pf_showTx (.inl (by decide))).trans (hinh.trans hset)
  unfold State.setInh
  dsimp only
  split
  · exact hshow ponStep_cancelBursts
  · exact hshow (.refl _ _ _)

end Sys2Proof.Machine
end

section
/-! Proof support: how the Steward changes its state (R396). -/

namespace Sys2Proof.Machine

variable {s t u : State} {new copy code : Nat}

/-! ### Timers -/

theorem timersBut_trans {l : List Nat} (h : TimersBut l s t) (k : TimersBut l t u) : TimersBut l s u := fun i hi =>
  (k i hi).trans (h i hi)

theorem timersBut_startTimer {l : List Nat} {i : Nat} (n : Nat) (h : i ∈ l) : TimersBut l s (s.startTimer i n) := fun j hj => by
  have hij : j ≠ i := fun e => hj (e ▸ h)
  simp [State.startTimer, smap_get_set_other _ _ _ hij]

theorem timersBut_stopTimer {l : List Nat} {i : Nat} (h : i ∈ l) : TimersBut l s (s.stopTimer i) := fun j hj => by
  have hij : j ≠ i := fun e => hj (e ▸ h)
  simp [State.stopTimer, smap_get_set_other _ _ _ hij]

theorem timersBut_mono {l m : List Nat} (h : TimersBut l s t) (hlm : l ⊆ m) : TimersBut m s t := fun i hi =>
  h i fun hil => hi (hlm hil)

theorem timer_startTimer (i n : Nat) : SMap.get (fun _ => 0) (s.startTimer i n).timers i = s.now + n + 1 := by
  simp [State.startTimer]

theorem timersBut_of_eq (l : List Nat) (h : t.timers = s.timers) : TimersBut l s t := fun _ _ => by rw [h]

theorem timerOn_congr {i : Nat} (h : t.timers = s.timers) : t.timerOn i = s.timerOn i := by
  unfold State.timerOn
  rw [h]

/-! ### The state is shown and reported -/

/-- STW_STAT shows the new state, and STW_STATE is raised with a cause that is a free value (R396). -/
def State.stwShow (s : State) (new : Nat) : State :=
  (s.setF stwB F.STW_STAT.STATE new).takeFree.1.raise Ev.STW_STATE 0x3F noInst
    [(1, s.stwState), (1, new), (1, Config.free s.freeNext)]

theorem stwGo_eq (h : s.stwState ≠ new) :
    s.stwGo new = ((s.stwShow new).setInh 0 2 (decide (new = 3))).setInh 1 2 (decide (new = 3)) := by
  have hfree : (s.setF stwB F.STW_STAT.STATE new).freeNext = s.freeNext := setF_freeNext ..
  unfold State.stwGo State.stwShow
  rw [← hfree]
  generalize s.setF stwB F.STW_STAT.STATE new = x
  exact if_neg h

theorem regs_stwShow : (s.stwShow new).regs = (s.setF stwB F.STW_STAT.STATE new).regs := by
  rw [State.stwShow, raise_regs, takeFree_regs]

theorem reg_stwShow (a : Nat) : (s.stwShow new).reg a = (s.setF stwB F.STW_STAT.STATE new).reg a := by
  unfold State.reg
  rw [regs_stwShow]

theorem stwShow_frame : s.stwShow new = { s with
    freeNext := s.freeNext + 1, regs := (s.stwShow new).regs, evt := (s.stwShow new).evt } := by
  have hframe : ∀ x y : State, x = { s with regs := x.regs } → y = { x.takeFree.1 with evt := y.evt } →
      y = { s with freeNext := s.freeNext + 1, regs := y.regs, evt := y.evt } := by
    intro x y hx hy
    rw [hx] at hy
    rw [hy]
    rfl
  exact hframe _ _ rfl (raise_eq ..)

theorem evt_stwShow : (s.stwShow new).evt =
    (s.raise Ev.STW_STATE 0x3F noInst [(1, s.stwState), (1, new), (1, Config.free s.freeNext)]).evt := by
  unfold State.stwShow
  refine raise_evt_congr (t := (s.setF stwB F.STW_STAT.STATE new).takeFree.1) ?_ (live_evt_congr ?_) ..
  · rw [takeFree_evt, setF_evt]
  · rw [reg_takeFree, reg_setF_other s _ (by decide)]

/-- What a change of the Steward's state shows, whatever it does to the transmitters. -/
structure StwShown (new : Nat) (s t : State) : Prop where
  state : t.stwState = new % 4
  stat : ∀ f : Fld, f.off = 0x4 → f.lo + f.width ≤ 30 → t.fld stwB f = s.fld stwB f
  free : t.freeNext = s.freeNext + 1
  evt : t.evt = (s.raise Ev.STW_STATE 0x3F noInst [(1, s.stwState), (1, new), (1, Config.free s.freeNext)]).evt

theorem StwShown.congr (h : StwShown new s t) (hstat : u.reg (stwB + 0x4) = t.reg (stwB + 0x4))
    (hfree : u.freeNext = t.freeNext) (hevt : u.evt = t.evt) : StwShown new s u where
  state := Eq.trans (fld_congr hstat) h.state
  stat f hoff hf := Eq.trans (fld_congr (by rw [hoff]; exact hstat)) (h.stat f hoff hf)
  free := hfree.trans h.free
  evt := hevt.trans h.evt

theorem fld_stwShow (b : Nat) (f : Fld) : (s.stwShow new).fld b f = (s.setF stwB F.STW_STAT.STATE new).fld b f :=
  fld_congr (reg_stwShow _)

/-- The state is shown, and the transmitters are as before. -/
structure StwShow (new : Nat) (s t : State) : Prop extends StwShown new s t where
  frame : t = { s with freeNext := t.freeNext, regs := t.regs, evt := t.evt }
  regs : RegsBut [stwB + 0x4] s t

theorem state_stwShow : (s.stwShow new).stwState = new % 4 := by
  have h : (s.setF stwB F.STW_STAT.STATE new).fld stwB F.STW_STAT.STATE = new % 2 ^ F.STW_STAT.STATE.width :=
    fld_setF_same s _ _ _ (by decide)
  exact (fld_stwShow _ _).trans h

theorem freeNext_stwShow : (s.stwShow new).freeNext = s.freeNext + 1 := by rw [stwShow_frame]

theorem stwShow_stwShow : StwShow new s (s.stwShow new) where
  state := state_stwShow
  stat _ _ hf := (fld_stwShow ..).trans (fld_setF_other s _ (by decide) (.inr (.inr hf)))
  free := freeNext_stwShow
  evt := evt_stwShow
  frame := by
    rw [freeNext_stwShow]
    exact stwShow_frame
  regs a ha := (reg_stwShow a).trans (regsBut_setF _ _ _ a ha)

/-- The Steward runs or restarts: its state is shown, and its inhibit of the transmitters falls. -/
structure StwUp (new : Nat) (s t : State) : Prop extends StwShown new s t where
  inh : t.bit (pnB 0) ⟨0x104, 14, 14⟩ = false ∧ t.bit (pnB 1) ⟨0x104, 14, 14⟩ = false
  bens : OnlyBens s t
  pon : t.pon = ⟨{ s.pon.a with benTill := t.pon.a.benTill }, { s.pon.b with benTill := t.pon.b.benTill }⟩
  frame : t = { s with freeNext := t.freeNext, regs := t.regs, evt := t.evt, pon := t.pon, out := t.out }
  regs : RegsBut [stwB + 0x4, pnB 0 + 0x104, pnB 1 + 0x104] s t

theorem StwShow.up {x y z : State} (h : StwShow new s x) (h0 : BenStep 0 x y) (h1 : BenStep 1 y z)
    (hbit0 : y.bit (pnB 0) ⟨0x104, 14, 14⟩ = false) (hbit1 : z.bit (pnB 1) ⟨0x104, 14, 14⟩ = false) : StwUp new s z where
  toStwShown := h.toStwShown.congr ((h1.regs _ (by decide)).trans (h0.regs _ (by decide))) (by rw [h1.frame, h0.frame])
    (by rw [h1.frame, h0.frame])
  inh := ⟨(bit_congr (h1.regs _ (by decide))).trans hbit0, hbit1⟩
  bens := onlyBens_trans (onlyBens_trans (onlyBens_of_eq (by rw [h.frame])) h0.bens) h1.bens
  pon := by
    have hpon : x.pon = s.pon := by rw [h.frame]
    have ha : z.pon.a = s.pon.a.withBenTill z.pon.a.benTill := by
      have h01 : z.pon.a = y.pon.a := h1.other 0 (by decide)
      have hself : y.pon.a = x.pon.a.withBenTill y.pon.a.benTill := h0.self
      rw [h01, ← hpon]
      exact hself
    have hb : z.pon.b = s.pon.b.withBenTill z.pon.b.benTill := by
      have hself : z.pon.b = y.pon.b.withBenTill z.pon.b.benTill := h1.self
      have h10 : y.pon.b = x.pon.b := h0.other 1 (by decide)
      rw [h10, hpon] at hself
      exact hself
    exact congrArg₂ Pair.mk ha hb
  frame := by
    obtain ⟨n, r, v, rfl⟩ : ∃ n r v, x = { s with freeNext := n, regs := r, evt := v } := ⟨_, _, _, h.frame⟩
    obtain ⟨r0, p0, o0, rfl⟩ : ∃ r0 p0 o0, y = { s with
      freeNext := n, evt := v, regs := r0, pon := p0, out := o0 } := ⟨_, _, _, h0.frame⟩
    obtain ⟨r1, p1, o1, rfl⟩ : ∃ r1 p1 o1, z = { s with
      freeNext := n, evt := v, regs := r1, pon := p1, out := o1 } := ⟨_, _, _, h1.frame⟩
    rfl
  regs := regsBut_mono (regsBut_trans (regsBut_trans h.regs h0.regs) h1.regs) (by decide)

theorem stwUp_stwGo (h : s.stwState ≠ new) (hnew : new ≠ 3) : StwUp new s (s.stwGo new) := by
  rw [stwGo_eq h, decide_eq_false hnew]
  exact stwShow_stwShow.up (benStep_setInh (by decide)) (benStep_setInh (by decide)) (bit_setInh_false (by decide))
    (bit_setInh_false (by decide))

/-- The Steward is DOWN: its state is shown, and it inhibits both transmitters. -/
structure StwDown (s t : State) : Prop extends StwShown 3 s t where
  inh0 : t.pf 0 F.PN_US_STAT.INH = Nat.lor (s.pf 0 F.PN_US_STAT.INH) 4
  inh1 : t.pf 1 F.PN_US_STAT.INH = Nat.lor (s.pf 1 F.PN_US_STAT.INH) 4
  bens : OnlyBens s t
  held0 : (t.pn 0).stwPloam = (s.pn 0).stwPloam ∧ (t.pn 0).omciIn = (s.pn 0).omciIn
  held1 : (t.pn 1).stwPloam = (s.pn 1).stwPloam ∧ (t.pn 1).omciIn = (s.pn 1).omciIn
  frame : t = { s with
    freeNext := t.freeNext, regs := t.regs, ctrs := t.ctrs, tally := t.tally, evt := t.evt, pon := t.pon, bc := t.bc,
    out := t.out }
  regs : RegsBut [stwB + 0x4, pnB 0 + 0x104, pnB 1 + 0x104, bcB 0 + 0x44, bcB 1 + 0x44] s t

theorem StwShow.down {x y z : State} (h : StwShow 3 s x) (h0 : PonStep [pnB 0 + 0x104, bcB 0 + 0x44] 0 x y)
    (h1 : PonStep [pnB 1 + 0x104, bcB 1 + 0x44] 1 y z) (hinh0 : y.inh 0 = Nat.lor (x.inh 0) 4)
    (hinh1 : z.inh 1 = Nat.lor (y.inh 1) 4) : StwDown s z where
  toStwShown := h.toStwShown.congr ((h1.regs _ (by decide)).trans (h0.regs _ (by decide))) (by rw [h1.frame, h0.frame])
    (by rw [h1.frame, h0.frame])
  inh0 := by
    have hx : x.inh 0 = s.inh 0 := fld_congr (h.regs _ (by decide))
    have hz : z.inh 0 = y.inh 0 := fld_congr (h1.regs _ (by decide))
    exact hz.trans (hinh0.trans (congrArg (Nat.lor · 4) hx))
  inh1 := by
    have hx : x.inh 1 = s.inh 1 := fld_congr (h.regs _ (by decide))
    have hy : y.inh 1 = x.inh 1 := fld_congr (h0.regs _ (by decide))
    exact hinh1.trans (congrArg (Nat.lor · 4) (hy.trans hx))
  bens := onlyBens_trans (onlyBens_trans (onlyBens_of_eq (by rw [h.frame])) h0.bens) h1.bens
  held0 := by
    have hx : x.pn 0 = s.pn 0 := by rw [h.frame]; rfl
    have hz : z.pn 0 = y.pn 0 := h1.other 0 (by decide)
    rw [hz, ← hx]
    exact h0.held
  held1 := by
    have hx : x.pn 1 = s.pn 1 := by rw [h.frame]; rfl
    have hy : y.pn 1 = x.pn 1 := h0.other 1 (by decide)
    rw [← hx, ← hy]
    exact h1.held
  frame := by
    obtain ⟨n, r, v, rfl⟩ : ∃ n r v, x = { s with freeNext := n, regs := r, evt := v } := ⟨_, _, _, h.frame⟩
    obtain ⟨r0, c0, a0, p0, b0, o0, rfl⟩ : ∃ r0 c0 a0 p0 b0 o0, y = { s with
      freeNext := n, evt := v, regs := r0, ctrs := c0, tally := a0, pon := p0, bc := b0, out := o0 } :=
      ⟨_, _, _, _, _, _, h0.frame⟩
    obtain ⟨r1, c1, a1, p1, b1, o1, rfl⟩ : ∃ r1 c1 a1 p1 b1 o1, z = { s with
      freeNext := n, evt := v, regs := r1, ctrs := c1, tally := a1, pon := p1, bc := b1, out := o1 } :=
      ⟨_, _, _, _, _, _, h1.frame⟩
    rfl
  regs := regsBut_mono (regsBut_trans (regsBut_trans h.regs h0.regs) h1.regs) (by decide)

theorem stwDown_stwGo (h : s.stwState ≠ 3) : StwDown s (s.stwGo 3) := by
  rw [stwGo_eq h]
  exact stwShow_stwShow.down (ponStep_setInh 2 true) (ponStep_setInh 2 true) inh_setInh_down inh_setInh_down

end Sys2Proof.Machine
end

section
/-! Proof support: what the reset of the Steward's core (R395) and the entry of RESTART (R396) leave. -/

namespace Sys2Proof.Machine

variable {s t u : State} {copy code : Nat}

theorem fld_of_regs (b : Nat) (f : Fld) (h : t.regs = s.regs) : t.fld b f = s.fld b f :=
  fld_congr (congrArg (fun m => SMap.get resetWord m (b + f.off)) h)

theorem regsBut_of_regs {l : List Nat} (h : RegsBut l s t) (hu : u.regs = t.regs) : RegsBut l s u := fun a ha =>
  (congrArg (fun m => SMap.get resetWord m a) hu).trans (h a ha)

theorem timersBut_of_timers {l : List Nat} (h : TimersBut l s t) (hu : u.timers = t.timers) : TimersBut l s u := fun i hi =>
  (congrArg (fun m => SMap.get (fun _ => 0) m i) hu).trans (h i hi)

theorem timerOn_congr_get {i : Nat} (h : SMap.get (fun _ => 0) t.timers i = SMap.get (fun _ => 0) s.timers i) :
    t.timerOn i = s.timerOn i := congrArg (· != 0) h

theorem bit_of_fld {b : Nat} {f : Fld} (h : t.fld b f = 0) : t.bit b f = false := congrArg (· != 0) h

/-! ### The core is reset (R395, R396) -/

/-- What the firmware was about is lost. -/
def StwState.loaded (w : StwState) (copy : Nat) : StwState :=
  { w with copy := copy, starting := false, verify := none, fwHash := 0, waitHost := none, mbWait := [],
           todArm := ⟨false, false⟩, download := none }

/-- The Steward's core is in reset: not READY, verifying nothing, its timers stopped. -/
def CoreReset (t : State) : Prop :=
  t.fld stwB F.STW_READY.READY = 0 ∧ t.bit stwB F.STW_STAT.VERIFYING = false ∧ t.timerOn Tm.stwReady = false ∧
    t.timerOn Tm.stwWdog = false ∧ t.timerOn Tm.omciHost = false

/-- What the core's reset leaves. -/
structure Loaded (copy : Nat) (s t : State) : Prop where
  core : CoreReset t
  stw : t.stw = s.stw.loaded copy
  stat : ∀ f : Fld, f.off = 0x4 → (f.lo + f.width ≤ 28 ∨ 29 ≤ f.lo) → t.fld stwB f = s.fld stwB f
  frame : t = { s with regs := t.regs, timers := t.timers, stw := t.stw }
  timers : TimersBut [Tm.stwReady, Tm.stwWdog, Tm.omciHost] s t
  regs : RegsBut [stwB + 0x4, stwB + 0x8] s t

/-- READY and VERIFYING are cleared. -/
def State.stwNotReady (s : State) : State := (s.setF stwB F.STW_READY.READY 0).setF stwB F.STW_STAT.VERIFYING 0

/-- The timers of the Steward's core stop. -/
def State.stwTimersStop (s : State) : State := ((s.stopTimer Tm.stwReady).stopTimer Tm.stwWdog).stopTimer Tm.omciHost

theorem ready_stwNotReady : s.stwNotReady.fld stwB F.STW_READY.READY = 0 := by
  have hset : (s.setF stwB F.STW_READY.READY 0).fld stwB F.STW_READY.READY = 0 := fld_setF_same s _ _ _ (by decide)
  exact (fld_setF_other _ _ (by decide) (.inl (by decide))).trans hset

theorem verifying_stwNotReady : s.stwNotReady.fld stwB F.STW_STAT.VERIFYING = 0 :=
  fld_setF_same (s.setF stwB F.STW_READY.READY 0) _ _ _ (by decide)

theorem stat_stwNotReady {f : Fld} (hoff : f.off = 0x4) (hf : f.lo + f.width ≤ 28 ∨ 29 ≤ f.lo) :
    s.stwNotReady.fld stwB f = s.fld stwB f := by
  have hready : (s.setF stwB F.STW_READY.READY 0).fld stwB f = s.fld stwB f :=
    fld_setF_other s _ (by decide) (.inl (by rw [hoff]; decide))
  exact (fld_setF_other (f := F.STW_STAT.VERIFYING) _ _ (by decide) (.inr hf.symm)).trans hready

theorem regsBut_stwNotReady : RegsBut [stwB + 0x4, stwB + 0x8] s s.stwNotReady :=
  regsBut_mono (regsBut_trans (regsBut_setF stwB F.STW_READY.READY 0) (regsBut_setF stwB F.STW_STAT.VERIFYING 0))
    (by decide)

theorem timerOn_stopTimer_of_off {i j : Nat} (h : s.timerOn i = false) : (s.stopTimer j).timerOn i = false := by
  by_cases e : i = j
  · rw [e, timerOn_stopTimer_same]
  · rw [timerOn_stopTimer_other s e, h]

theorem timerOn_stwTimersStop {i : Nat} (h : i ∈ [Tm.stwReady, Tm.stwWdog, Tm.omciHost]) :
    s.stwTimersStop.timerOn i = false := by
  simp only [List.mem_cons, List.not_mem_nil, or_false] at h
  obtain rfl | rfl | rfl := h
  · exact timerOn_stopTimer_of_off (timerOn_stopTimer_of_off (timerOn_stopTimer_same ..))
  · exact timerOn_stopTimer_of_off (timerOn_stopTimer_same ..)
  · exact timerOn_stopTimer_same ..

theorem timersBut_stwTimersStop : TimersBut [Tm.stwReady, Tm.stwWdog, Tm.omciHost] s s.stwTimersStop :=
  timersBut_trans (timersBut_trans (timersBut_stopTimer (by decide)) (timersBut_stopTimer (by decide)))
    (timersBut_stopTimer (by decide))

theorem setF_frame (b : Nat) (f : Fld) (v : Nat) : s.setF b f v = { s with regs := (s.setF b f v).regs } := rfl

theorem regsFrame_trans (h : t = { s with regs := t.regs }) (k : u = { t with regs := u.regs }) :
    u = { s with regs := u.regs } := k.trans (congrArg (fun x : State => { x with regs := u.regs }) h)

theorem stwNotReady_frame : s.stwNotReady = { s with regs := s.stwNotReady.regs } := by
  unfold State.stwNotReady
  exact regsFrame_trans (setF_frame ..) (setF_frame ..)

theorem startTimer_frame (i n : Nat) : s.startTimer i n = { s with timers := (s.startTimer i n).timers } := rfl

theorem stopTimer_frame (i : Nat) : s.stopTimer i = { s with timers := (s.stopTimer i).timers } := rfl

theorem timersFrame_trans (h : t = { s with timers := t.timers }) (k : u = { t with timers := u.timers }) :
    u = { s with timers := u.timers } := k.trans (congrArg (fun x : State => { x with timers := u.timers }) h)

theorem stwTimersStop_frame : s.stwTimersStop = { s with timers := s.stwTimersStop.timers } := by
  unfold State.stwTimersStop
  exact timersFrame_trans (timersFrame_trans (stopTimer_frame _) (stopTimer_frame _)) (stopTimer_frame _)

/-- The core with a copy loaded. -/
def State.withLoaded (s : State) (copy : Nat) : State := { s with stw := s.stw.loaded copy }

theorem stwLoad_eq : s.stwLoad copy = (s.stwNotReady.withLoaded copy).stwTimersStop := by
  unfold State.stwLoad State.stwNotReady State.stwTimersStop
  dsimp only
  have hstop : ∀ {y z : State}, y = z → ((y.stopTimer Tm.stwReady).stopTimer Tm.stwWdog).stopTimer Tm.omciHost =
      ((z.stopTimer Tm.stwReady).stopTimer Tm.stwWdog).stopTimer Tm.omciHost := fun h => by rw [h]
  refine hstop ?_
  generalize (s.setF stwB F.STW_READY.READY 0).setF stwB F.STW_STAT.VERIFYING 0 = x
  rfl

theorem stwLoad_frame : s.stwLoad copy = { s with
    regs := s.stwNotReady.regs, timers := (s.stwLoad copy).timers, stw := s.stw.loaded copy } := by
  have hload : ∀ x y : State, x = { s with regs := x.regs } → y = { x.withLoaded copy with timers := y.timers } →
      y = { s with regs := x.regs, timers := y.timers, stw := s.stw.loaded copy } := by
    intro x y hx hy
    rw [hx] at hy
    exact hy
  rw [stwLoad_eq]
  exact hload _ _ stwNotReady_frame stwTimersStop_frame

theorem timers_withLoaded (h : t = { s with regs := t.regs }) : (t.withLoaded copy).timers = s.timers := by
  rw [h]
  rfl

theorem timersBut_stwLoad : TimersBut [Tm.stwReady, Tm.stwWdog, Tm.omciHost] s (s.stwLoad copy) := by
  rw [stwLoad_eq]
  exact timersBut_trans (timersBut_of_eq _ (timers_withLoaded stwNotReady_frame)) timersBut_stwTimersStop

theorem timerOn_stwLoad {i : Nat} (h : i ∈ [Tm.stwReady, Tm.stwWdog, Tm.omciHost]) :
    (s.stwLoad copy).timerOn i = false := by
  rw [stwLoad_eq]
  exact timerOn_stwTimersStop h

theorem CoreReset.of_regs (hregs : t.regs = s.regs) (hready : s.fld stwB F.STW_READY.READY = 0)
    (hverifying : s.fld stwB F.STW_STAT.VERIFYING = 0)
    (hoff : ∀ i ∈ [Tm.stwReady, Tm.stwWdog, Tm.omciHost], t.timerOn i = false) : CoreReset t :=
  ⟨(fld_of_regs _ _ hregs).trans hready, bit_of_fld ((fld_of_regs _ _ hregs).trans hverifying), hoff _ (by simp),
    hoff _ (by simp), hoff _ (by simp)⟩

theorem Loaded.of_frame (hframe : u = { s with regs := t.regs, timers := u.timers, stw := s.stw.loaded copy })
    (hcore : u.regs = t.regs → CoreReset u) (hbut : RegsBut [stwB + 0x4, stwB + 0x8] s t)
    (hstat : ∀ f : Fld, f.off = 0x4 → (f.lo + f.width ≤ 28 ∨ 29 ≤ f.lo) → t.fld stwB f = s.fld stwB f)
    (htimers : TimersBut [Tm.stwReady, Tm.stwWdog, Tm.omciHost] s u) : Loaded copy s u := by
  have hregs : u.regs = t.regs := by rw [hframe]
  have hstw : u.stw = s.stw.loaded copy := by rw [hframe]
  have hframe' : u = { s with regs := u.regs, timers := u.timers, stw := u.stw } := by
    rw [hstw, hregs]
    exact hframe
  exact ⟨hcore hregs, hstw, fun f hoff hf => (fld_of_regs _ _ hregs).trans (hstat f hoff hf), hframe', htimers,
    regsBut_of_regs hbut hregs⟩

theorem loaded_stwLoad : Loaded copy s (s.stwLoad copy) :=
  .of_frame stwLoad_frame
    (fun hregs => .of_regs hregs ready_stwNotReady verifying_stwNotReady fun _ hi => timerOn_stwLoad hi)
    regsBut_stwNotReady (fun _ => stat_stwNotReady) timersBut_stwLoad

/-- The core's reset holds on over steps that leave its registers and timers alone. -/
theorem CoreReset.congr (h : CoreReset s) (hready : t.fld stwB F.STW_READY.READY = s.fld stwB F.STW_READY.READY)
    (hverifying : t.fld stwB F.STW_STAT.VERIFYING = s.fld stwB F.STW_STAT.VERIFYING)
    (htimers : ∀ i ∈ [Tm.stwReady, Tm.stwWdog, Tm.omciHost],
      SMap.get (fun _ => 0) t.timers i = SMap.get (fun _ => 0) s.timers i) : CoreReset t := by
  obtain ⟨h1, h2, h3, h4, h5⟩ := h
  exact ⟨hready.trans h1, (congrArg (· != 0) hverifying).trans h2,
    (timerOn_congr_get (htimers _ (by simp))).trans h3, (timerOn_congr_get (htimers _ (by simp))).trans h4,
    (timerOn_congr_get (htimers _ (by simp))).trans h5⟩

/-! ### RESTART is entered (R396) -/

/-- RESTART on a copy, with GRACE running. -/
structure Restarted (copy : Nat) (s t : State) : Prop where
  state : t.stwState = 2
  grace : SMap.get (fun _ => 0) t.timers Tm.stwGrace = s.now + max 1 (s.fld stwB F.STW_CFG.GRACE) * msTicks + 1
  stw : t.stw = { s.stw.loaded copy with failed := 0 }
  core : CoreReset t
  stat : ∀ f : Fld, f.off = 0x4 → f.lo + f.width ≤ 28 → t.fld stwB f = s.fld stwB f
  free : t.freeNext = s.freeNext + 1
  bens : OnlyBens s t
  pon : t.pon = ⟨{ s.pon.a with benTill := t.pon.a.benTill }, { s.pon.b with benTill := t.pon.b.benTill }⟩
  frame : t = { s with
    freeNext := t.freeNext, regs := t.regs, timers := t.timers, evt := t.evt, pon := t.pon, stw := t.stw, out := t.out }
  timers : TimersBut [Tm.stwReady, Tm.stwWdog, Tm.stwGrace, Tm.omciHost] s t
  regs : RegsBut [stwB + 0x4, stwB + 0x8, pnB 0 + 0x104, pnB 1 + 0x104] s t

/-- No copy has failed. -/
def State.noneFailed (s : State) : State := { s with stw := { s.stw with failed := 0 } }

theorem Loaded.restarted {x y : State} (h : Loaded copy s x) (hup : StwUp 2 x.noneFailed y) :
    Restarted copy s (y.startTimer Tm.stwGrace (max 1 (s.fld stwB F.STW_CFG.GRACE) * msTicks)) := by
  have hwregs : x.noneFailed.regs = x.regs := rfl
  have hw : x.noneFailed = { s with regs := x.regs, timers := x.timers, stw := { s.stw.loaded copy with failed := 0 } } := by
    obtain ⟨r, v, w, hw, rfl⟩ : ∃ r v w, w = s.stw.loaded copy ∧ x = { s with regs := r, timers := v, stw := w } :=
      ⟨_, _, _, h.stw, h.frame⟩
    rw [hw]
    rfl
  generalize x.noneFailed = w at *
  have hwfld : ∀ f : Fld, w.fld stwB f = x.fld stwB f := fun f => fld_of_regs _ _ hwregs
  have hy : y = { s with
      freeNext := y.freeNext, regs := y.regs, timers := x.timers, evt := y.evt, pon := y.pon,
      stw := { s.stw.loaded copy with failed := 0 }, out := y.out } := by
    have hframe := hup.frame
    rw [hw] at hframe
    exact hframe
  have hgrace := timersBut_startTimer (s := y) (max 1 (s.fld stwB F.STW_CFG.GRACE) * msTicks)
    (List.mem_singleton_self Tm.stwGrace)
  have hytimers : TimersBut [Tm.stwReady, Tm.stwWdog, Tm.omciHost] s y :=
    timersBut_of_timers h.timers (by rw [hy])
  refine ⟨(fld_startTimer ..).trans hup.state, (timer_startTimer ..).trans ?_, ?_, ?_, ?_, ?_, ?_, ?_, ?_, ?_, ?_⟩
  · have hnow : y.now = s.now := by rw [hy]
    rw [hnow]
  · rw [startTimer_stw, hy]
  · refine h.core.congr (((fld_startTimer ..).trans (fld_congr (hup.regs _ (by decide)))).trans (hwfld _))
      (((fld_startTimer ..).trans (hup.stat _ rfl (by decide))).trans (hwfld _)) fun i hi => ?_
    rw [hgrace i (by revert hi; revert i; decide), hy]
  · exact fun f hoff hf => (fld_startTimer ..).trans
      ((hup.stat f hoff (hf.trans (by decide))).trans ((hwfld f).trans (h.stat f hoff (.inl hf))))
  · rw [startTimer_freeNext, hup.free, hw]
  · exact onlyBens_trans (onlyBens_trans (onlyBens_of_eq (by rw [hw])) hup.bens) (onlyBens_of_eq (startTimer_out ..))
  · have hpon := hup.pon
    rw [hw] at hpon
    rw [startTimer_pon]
    exact hpon
  · have hstart := startTimer_frame (s := y) Tm.stwGrace (max 1 (s.fld stwB F.STW_CFG.GRACE) * msTicks)
    generalize y.startTimer Tm.stwGrace _ = z at *
    obtain ⟨v, rfl⟩ : ∃ v, z = { y with timers := v } := ⟨_, hstart⟩
    rw [hy]
  · exact timersBut_trans (timersBut_mono hytimers (by decide)) (timersBut_mono hgrace (by decide))
  · exact regsBut_of_regs (regsBut_mono (regsBut_trans (regsBut_of_regs h.regs hwregs) hup.regs) (by decide))
      (startTimer_regs ..)

theorem stwRestarting_eq : s.stwRestarting copy 0 = ((s.stwLoad copy).noneFailed.stwGo 2).startTimer Tm.stwGrace
    (max 1 ((s.stwLoad copy).noneFailed.fld stwB F.STW_CFG.GRACE) * msTicks) := by
  unfold State.stwRestarting State.noneFailed
  rfl

theorem restarted_stwRestarting (h : s.stwState = 1) : Restarted copy s (s.stwRestarting copy 0) := by
  have hload : Loaded copy s (s.stwLoad copy) := loaded_stwLoad
  have hstate : (s.stwLoad copy).stwState = 1 := (hload.stat _ rfl (.inr (by decide))).trans h
  rw [stwRestarting_eq]
  generalize s.stwLoad copy = x at *
  have hcfg : x.noneFailed.fld stwB F.STW_CFG.GRACE = s.fld stwB F.STW_CFG.GRACE :=
    (fld_of_regs (s := x) _ _ rfl).trans (fld_congr (hload.regs _ (by decide)))
  have hne : x.noneFailed.stwState ≠ 2 := by
    have hnone : x.noneFailed.stwState = x.stwState := fld_of_regs _ _ rfl
    rw [hnone, hstate]
    decide
  rw [hcfg]
  exact hload.restarted (stwUp_stwGo hne (by decide))

end Sys2Proof.Machine
end

section
/-! Proof support: the watchdog (R397), and the firmware that reports READY (R395, R396). -/

namespace Sys2Proof.Machine

variable {s t u : State}

/-! ### The watchdog -/

theorem timer_stopTimer (i : Nat) : SMap.get (fun _ => 0) (s.stopTimer i).timers i = 0 := by simp [State.stopTimer]

/-- What a kick of the watchdog leaves. -/
structure Kicked (s t : State) : Prop where
  wdog : SMap.get (fun _ => 0) t.timers Tm.stwWdog =
    if s.fld stwB F.STW_CFG.WDOG = 0 then 0 else s.now + s.fld stwB F.STW_CFG.WDOG * msTicks + 1
  frame : t = { s with timers := t.timers }
  timers : TimersBut [Tm.stwWdog] s t

theorem kicked_kickWdog : Kicked s s.kickWdog := by
  unfold State.kickWdog
  dsimp only
  split
  · next h => exact ⟨(timer_stopTimer _).trans (if_pos h).symm, stopTimer_frame _, timersBut_stopTimer (by simp)⟩
  · next h => exact ⟨(timer_startTimer ..).trans (if_neg h).symm, startTimer_frame .., timersBut_startTimer _ (by simp)⟩

/-! ### READY and the copy are shown -/

/-- READY and the copy that runs. -/
def State.showReady (s : State) (k : Nat) : State :=
  ((s.setF stwB F.STW_READY.READY 1).setF stwB F.STW_STAT.FW_COPY k).setF aonB F.AON_BOOT_STAT.FW_COPY k

/-- What READY shows. -/
structure ReadyShown (k : Nat) (s t : State) : Prop where
  ready : t.fld stwB F.STW_READY.READY = 1
  fwCopy : t.fld stwB F.STW_STAT.FW_COPY = k % 2
  bootCopy : t.fld aonB F.AON_BOOT_STAT.FW_COPY = k % 2
  state : t.stwState = s.stwState
  frame : t = { s with regs := t.regs }
  regs : RegsBut [stwB + 0x8, stwB + 0x4, aonB + 0x20] s t

theorem ready_showReady (k : Nat) : (s.showReady k).fld stwB F.STW_READY.READY = 1 := by
  have h1 : (s.setF stwB F.STW_READY.READY 1).fld stwB F.STW_READY.READY = 1 := fld_setF_same s _ _ _ (by decide)
  have h2 := (fld_setF_other (s.setF stwB F.STW_READY.READY 1) (b := stwB) (c := stwB) (f := F.STW_STAT.FW_COPY)
    (g := F.STW_READY.READY) k (by decide) (.inl (by decide))).trans h1
  exact (fld_setF_other _ (f := F.AON_BOOT_STAT.FW_COPY) _ (by decide) (.inl (by decide))).trans h2

theorem fwCopy_showReady (k : Nat) : (s.showReady k).fld stwB F.STW_STAT.FW_COPY = k % 2 :=
  (fld_setF_other _ (f := F.AON_BOOT_STAT.FW_COPY) _ (by decide) (.inl (by decide))).trans
    (fld_setF_same (s.setF stwB F.STW_READY.READY 1) stwB F.STW_STAT.FW_COPY k (by decide))

theorem bootCopy_showReady (k : Nat) : (s.showReady k).fld aonB F.AON_BOOT_STAT.FW_COPY = k % 2 :=
  fld_setF_same ((s.setF stwB F.STW_READY.READY 1).setF stwB F.STW_STAT.FW_COPY k) _ _ _ (by decide)

theorem state_showReady (k : Nat) : (s.showReady k).stwState = s.stwState :=
  (fld_setF_other _ (f := F.AON_BOOT_STAT.FW_COPY) _ (by decide) (.inl (by decide))).trans
    ((fld_setF_other _ (f := F.STW_STAT.FW_COPY) _ (by decide) (.inr (.inl (by decide)))).trans
      (fld_setF_other s (f := F.STW_READY.READY) _ (by decide) (.inl (by decide))))

theorem readyShown_showReady (k : Nat) : ReadyShown k s (s.showReady k) where
  ready := ready_showReady k
  fwCopy := fwCopy_showReady k
  bootCopy := bootCopy_showReady k
  state := state_showReady k
  frame := by
    unfold State.showReady
    exact regsFrame_trans (regsFrame_trans (setF_frame ..) (setF_frame ..)) (setF_frame ..)
  regs := regsBut_mono (regsBut_trans (regsBut_trans (regsBut_setF stwB F.STW_READY.READY 1)
    (regsBut_setF stwB F.STW_STAT.FW_COPY k)) (regsBut_setF aonB F.AON_BOOT_STAT.FW_COPY k)) (by decide)

/-! ### The firmware runs -/

/-- The firmware is no longer starting. -/
def State.stwStarted (s : State) : State := { s with stw := { s.stw with starting := false } }

/-- What the firmware's READY leaves while the state is still the one before. -/
structure Readied (s t : State) : Prop where
  ready : t.fld stwB F.STW_READY.READY = 1
  fwCopy : t.fld stwB F.STW_STAT.FW_COPY = s.stw.copy % 2
  bootCopy : t.fld aonB F.AON_BOOT_STAT.FW_COPY = s.stw.copy % 2
  state : t.stwState = s.stwState
  stw : t.stw = { s.stw with starting := false }
  off : t.timerOn Tm.stwReady = false ∧ t.timerOn Tm.stwGrace = false
  wdog : SMap.get (fun _ => 0) t.timers Tm.stwWdog =
    if s.fld stwB F.STW_CFG.WDOG = 0 then 0 else s.now + s.fld stwB F.STW_CFG.WDOG * msTicks + 1
  frame : t = { s with stw := t.stw, timers := t.timers, regs := t.regs }
  timers : TimersBut [Tm.stwReady, Tm.stwGrace, Tm.stwWdog] s t
  regs : RegsBut [stwB + 0x8, stwB + 0x4, aonB + 0x20] s t

theorem Readied.of_shown {x y z : State} (h : ReadyShown s.stw.copy s.stwStarted x)
    (hy : y = { x with timers := y.timers }) (hoff : y.timerOn Tm.stwReady = false ∧ y.timerOn Tm.stwGrace = false)
    (hstop : TimersBut [Tm.stwReady, Tm.stwGrace] x y) (hk : Kicked y z) : Readied s z := by
  obtain ⟨hready, hfw, hboot, hstate, hx, hregs⟩ := h
  obtain ⟨hwdog, hz, hkick⟩ := hk
  have hyx : y.regs = x.regs := by rw [hy]
  have hzx : z.regs = x.regs := by rw [hz, hy]
  have hnow : y.now = s.now := by rw [hy, hx]; rfl
  have hcfg : y.fld stwB F.STW_CFG.WDOG = s.fld stwB F.STW_CFG.WDOG :=
    (fld_of_regs _ _ hyx).trans ((fld_congr (hregs _ (by decide))).trans (fld_of_regs _ _ rfl))
  have hstarted : s.stwStarted.stwState = s.stwState := fld_of_regs _ _ rfl
  have hxtimers : x.timers = s.timers := by rw [hx]; rfl
  refine ⟨(fld_of_regs _ _ hzx).trans hready, (fld_of_regs _ _ hzx).trans hfw, (fld_of_regs _ _ hzx).trans hboot,
    (fld_of_regs _ _ hzx).trans (hstate.trans hstarted), ?_, ⟨?_, ?_⟩, ?_, ?_, ?_, ?_⟩
  · rw [hz, hy, hx]
    rfl
  · exact (timerOn_congr_get (hkick _ (by decide))).trans hoff.1
  · exact (timerOn_congr_get (hkick _ (by decide))).trans hoff.2
  · rw [hwdog, hcfg, hnow]
  · obtain ⟨r, rfl⟩ : ∃ r, x = { s.stwStarted with regs := r } := ⟨_, hx⟩
    obtain ⟨v, rfl⟩ : ∃ v, y = { ({ s.stwStarted with regs := r } : State) with timers := v } := ⟨_, hy⟩
    obtain ⟨w, rfl⟩ : ∃ w, z = { ({ s.stwStarted with regs := r } : State) with timers := w } := ⟨_, hz⟩
    rfl
  · exact timersBut_trans (timersBut_trans (timersBut_of_eq _ hxtimers) (timersBut_mono hstop (by decide)))
      (timersBut_mono hkick (by decide))
  · exact regsBut_of_regs (fun a ha => hregs a ha) hzx

/-- The firmware's READY, up to the change of state. -/
def State.stwReadied (s : State) : State :=
  (((s.stwStarted.showReady s.stw.copy).stopTimer Tm.stwReady).stopTimer Tm.stwGrace).kickWdog

theorem readied_stwReadied : Readied s s.stwReadied := by
  refine .of_shown (readyShown_showReady _) (timersFrame_trans (stopTimer_frame _) (stopTimer_frame _)) ⟨?_, ?_⟩
    (timersBut_trans (timersBut_stopTimer (by simp)) (timersBut_stopTimer (by simp))) kicked_kickWdog
  · exact timerOn_stopTimer_of_off (timerOn_stopTimer_same ..)
  · exact timerOn_stopTimer_same ..

theorem stwReady_eq (h : s.stw.starting = true) : s.stwReady =
    if s.stwReadied.stwState = 2 then ((s.stwReadied.stwGo 1).stwDeliver 0).stwDeliver 1 else s.stwReadied.stwGo 1 := by
  have hnot : ¬ (!s.stw.starting) = true := by rw [h]; decide
  unfold State.stwReady
  exact if_neg hnot

theorem stwReady_of_not_starting (h : s.stw.starting = false) : s.stwReady = s := by
  unfold State.stwReady
  exact if_pos (by rw [h]; rfl)

/-- What the firmware's READY leaves once the state is RUN. -/
structure Running (s t : State) : Prop where
  state : t.stwState = 1
  ready : t.fld stwB F.STW_READY.READY = 1
  fwCopy : t.fld stwB F.STW_STAT.FW_COPY = s.stw.copy % 2
  bootCopy : t.fld aonB F.AON_BOOT_STAT.FW_COPY = s.stw.copy % 2
  stw : t.stw = { s.stw with starting := false }
  timer : t.timerOn Tm.stwReady = false ∧ t.timerOn Tm.stwGrace = false ∧ SMap.get (fun _ => 0) t.timers Tm.stwWdog =
    if s.fld stwB F.STW_CFG.WDOG = 0 then 0 else s.now + s.fld stwB F.STW_CFG.WDOG * msTicks + 1
  inh : t.bit (pnB 0) ⟨0x104, 14, 14⟩ = false ∧ t.bit (pnB 1) ⟨0x104, 14, 14⟩ = false
  free : t.freeNext = s.freeNext + 1
  evt : t.evt = (s.raise Ev.STW_STATE 0x3F noInst [(1, s.stwState), (1, 1), (1, Config.free s.freeNext)]).evt
  bens : OnlyBens s t
  pon : t.pon = ⟨{ s.pon.a with benTill := t.pon.a.benTill }, { s.pon.b with benTill := t.pon.b.benTill }⟩
  frame : t = { s with
    out := t.out, freeNext := t.freeNext, stw := t.stw, pon := t.pon, evt := t.evt, timers := t.timers, regs := t.regs }
  timers : TimersBut [Tm.stwReady, Tm.stwGrace, Tm.stwWdog] s t
  regs : RegsBut [stwB + 0x8, stwB + 0x4, aonB + 0x20, pnB 0 + 0x104, pnB 1 + 0x104] s t

theorem Readied.running (h : Readied s t) (k : StwUp 1 t u) : Running s u := by
  have htimers : u.timers = t.timers := by rw [k.frame]
  have hfld : ∀ b (f : Fld), b + f.off ∉ [stwB + 0x4, pnB 0 + 0x104, pnB 1 + 0x104] → u.fld b f = t.fld b f :=
    fun b f hb => fld_congr (k.regs _ hb)
  refine ⟨k.state, (hfld _ _ (by decide)).trans h.ready, (k.stat _ rfl (by decide)).trans h.fwCopy,
    (hfld _ _ (by decide)).trans h.bootCopy, ?_, ⟨?_, ?_, ?_⟩, k.inh, ?_, ?_, ?_, ?_, ?_, ?_, ?_⟩
  · rw [k.frame]
    exact h.stw
  · exact (timerOn_congr htimers).trans h.off.1
  · exact (timerOn_congr htimers).trans h.off.2
  · rw [htimers]
    exact h.wdog
  · rw [k.free, h.frame]
  · have hfree : t.freeNext = s.freeNext := by rw [h.frame]
    rw [k.evt, h.state, hfree]
    exact raise_evt_congr (by rw [h.frame]) (live_evt_congr (h.regs _ (by decide))) ..
  · exact onlyBens_trans (onlyBens_of_eq (by rw [h.frame])) k.bens
  · have hpon : t.pon = s.pon := by rw [h.frame]
    rw [← hpon]
    exact k.pon
  · obtain ⟨w, v, r, rfl⟩ : ∃ w v r, t = { s with stw := w, timers := v, regs := r } := ⟨_, _, _, h.frame⟩
    obtain ⟨n, r', e, p, o, rfl⟩ : ∃ n r' e p o, u = { s with
      stw := w, timers := v, freeNext := n, regs := r', evt := e, pon := p, out := o } := ⟨_, _, _, _, _, k.frame⟩
    rfl
  · exact timersBut_trans h.timers (timersBut_of_eq _ htimers)
  · exact regsBut_mono (regsBut_trans h.regs k.regs) (by decide)

theorem running_stwGo (h : s.stwState ≠ 1) : Running s (s.stwReadied.stwGo 1) := by
  have hne : s.stwReadied.stwState ≠ 1 := fun e => h (readied_stwReadied.state.symm.trans e)
  exact readied_stwReadied.running (stwUp_stwGo hne (by decide))

end Sys2Proof.Machine
end

section
/-! Proof support: STW is drained, and its firmware restarts (R396, R499). -/

namespace Sys2Proof.Machine

variable {s t u : State}

theorem count_ctrs_congr {a n : Nat} (hctrs : t.ctrs = s.ctrs) (hcounting : t.counting = s.counting)
    (hmc : t.mcCounting = s.mcCounting) : (t.count a n).ctrs = (s.count a n).ctrs := by
  have hat : t.countsAt a = s.countsAt a := by
    unfold State.countsAt
    rw [hcounting, hmc]
  unfold State.count State.ctr
  rw [hat, hctrs]
  split
  · rfl
  · exact hctrs

/-! ### AON records a drain (R499) -/

/-- What the record of a drain shows. -/
structure DrainShown (id cause n : Nat) (s t : State) : Prop where
  isl : t.fld aonB F.AON_FAULT_LAST.ISL = id % 256
  cause : t.fld aonB F.AON_FAULT_LAST.CAUSE = cause % 16
  discarded : t.fld aonB F.AON_FAULT_LAST.DISCARDED = min 0xFFFF n % 65536
  ctrs : t.ctrs = (s.count (aonB + Ctr.AON.DRAINS)).ctrs
  frame : t = { s with regs := t.regs, ctrs := t.ctrs, evt := t.evt }
  regs : RegsBut [aonB + 0x174] s t

/-- AON_FAULT_LAST names an island, its cause, and what was discarded. -/
def State.faultLast (s : State) (id cause n : Nat) : State :=
  ((s.setF aonB F.AON_FAULT_LAST.ISL id).setF aonB F.AON_FAULT_LAST.CAUSE cause).setF aonB F.AON_FAULT_LAST.DISCARDED n

variable {id cause n : Nat}

theorem isl_faultLast : (s.faultLast id cause n).fld aonB F.AON_FAULT_LAST.ISL = id % 256 :=
  (fld_setF_other _ (f := F.AON_FAULT_LAST.DISCARDED) _ (by decide) (.inr (.inl (by decide)))).trans
    ((fld_setF_other _ (f := F.AON_FAULT_LAST.CAUSE) _ (by decide) (.inr (.inl (by decide)))).trans
      (fld_setF_same s aonB F.AON_FAULT_LAST.ISL id (by decide)))

theorem cause_faultLast : (s.faultLast id cause n).fld aonB F.AON_FAULT_LAST.CAUSE = cause % 16 :=
  (fld_setF_other _ (f := F.AON_FAULT_LAST.DISCARDED) _ (by decide) (.inr (.inl (by decide)))).trans
    (fld_setF_same (s.setF aonB F.AON_FAULT_LAST.ISL id) aonB F.AON_FAULT_LAST.CAUSE cause (by decide))

theorem discarded_faultLast : (s.faultLast id cause n).fld aonB F.AON_FAULT_LAST.DISCARDED = n % 65536 :=
  fld_setF_same ((s.setF aonB F.AON_FAULT_LAST.ISL id).setF aonB F.AON_FAULT_LAST.CAUSE cause) aonB
    F.AON_FAULT_LAST.DISCARDED n (by decide)

theorem regsBut_faultLast : RegsBut [aonB + 0x174] s (s.faultLast id cause n) :=
  regsBut_mono (regsBut_trans (regsBut_trans (regsBut_setF aonB F.AON_FAULT_LAST.ISL id)
    (regsBut_setF aonB F.AON_FAULT_LAST.CAUSE cause)) (regsBut_setF aonB F.AON_FAULT_LAST.DISCARDED n)) (by decide)

theorem faultLast_frame : s.faultLast id cause n = { s with regs := (s.faultLast id cause n).regs } := by
  unfold State.faultLast
  exact regsFrame_trans (regsFrame_trans (setF_frame ..) (setF_frame ..)) (setF_frame ..)

theorem DrainShown.of_faultLast {x : State} (hx : x = { s with regs := x.regs }) (hregs : RegsBut [aonB + 0x174] s x)
    (hisl : x.fld aonB F.AON_FAULT_LAST.ISL = id % 256) (hcause : x.fld aonB F.AON_FAULT_LAST.CAUSE = cause % 16)
    (hdiscarded : x.fld aonB F.AON_FAULT_LAST.DISCARDED = min 0xFFFF n % 65536) (src isl inst : Nat) (fs : List (Nat × Nat)) :
    DrainShown id cause n s ((x.count (aonB + Ctr.AON.DRAINS)).raise src isl inst fs) where
  isl := (fld_of_regs _ _ ((raise_regs ..).trans (count_regs ..))).trans hisl
  cause := (fld_of_regs _ _ ((raise_regs ..).trans (count_regs ..))).trans hcause
  discarded := (fld_of_regs _ _ ((raise_regs ..).trans (count_regs ..))).trans hdiscarded
  ctrs := by
    rw [raise_ctrs]
    exact count_ctrs_congr (by rw [hx]) (by rw [hx]) (by rw [hx])
  frame := by
    obtain ⟨r, rfl⟩ : ∃ r, x = { s with regs := r } := ⟨_, hx⟩
    rw [raise_regs, raise_ctrs, count_regs]
    refine (raise_eq ..).trans ?_
    generalize ((({ s with regs := r } : State).count (aonB + Ctr.AON.DRAINS)).raise src isl inst fs).evt = e
    rw [count_eq]
  regs := regsBut_of_regs hregs ((raise_regs ..).trans (count_regs ..))

theorem drainShown_drainRecord : DrainShown id cause n s (s.drainRecord id cause n) :=
  .of_faultLast faultLast_frame regsBut_faultLast isl_faultLast cause_faultLast discarded_faultLast ..

/-! ### A restart is counted (R396) -/

/-- The restarts in the last 60 s, this one included. -/
def State.restartsNow (s : State) : List Nat := s.recentRestarts ++ [s.now]

/-- The copy that a restart loads: the other at the third restart within 60 s. -/
def State.restartCopy (s : State) : Nat := if 3 ≤ s.restartsNow.length then 1 - s.stw.copy else s.stw.copy

/-- The firmware's restarts. -/
def State.withRestarts (s : State) (l : List Nat) : State := { s with stw := { s.stw with restarts := l } }

/-- A restart is counted. -/
def State.restartCounted (s : State) : State :=
  ((s.withRestarts s.restartsNow).count (stwB + Ctr.STW.RESTARTS)).setF stwB F.STW_STAT.RESTARTS
    (min 255 s.restartsNow.length)

/-- What the count of a restart shows. -/
structure RestartShown (s t : State) : Prop where
  restarts : t.fld stwB F.STW_STAT.RESTARTS = min 255 s.restartsNow.length
  state : t.stwState = s.stwState
  stw : t.stw = { s.stw with restarts := s.restartsNow }
  ctrs : t.ctrs = (s.count (stwB + Ctr.STW.RESTARTS)).ctrs
  frame : t = { s with regs := t.regs, ctrs := t.ctrs, stw := t.stw }
  regs : RegsBut [stwB + 0x4] s t

theorem count_withRestarts (l : List Nat) (a : Nat) : (s.withRestarts l).count a =
    { s with ctrs := (s.count a).ctrs, stw := { s.stw with restarts := l } } := by
  have hctrs : ((s.withRestarts l).count a).ctrs = (s.count a).ctrs := count_ctrs_congr rfl rfl rfl
  rw [count_eq, hctrs]
  rfl

theorem RestartShown.of_set {x y : State} {l : List Nat}
    (hx : x = { s with ctrs := (s.count (stwB + Ctr.STW.RESTARTS)).ctrs, stw := { s.stw with restarts := l } })
    (hl : l = s.restartsNow) (hy : y = { x with regs := y.regs })
    (hset : y.fld stwB F.STW_STAT.RESTARTS = min 255 l.length) (hstate : y.stwState = x.stwState)
    (hbut : RegsBut [stwB + 0x4] x y) : RestartShown s y := by
  subst hl
  have hstw : y.stw = { s.stw with restarts := s.restartsNow } := by rw [hy, hx]
  have hctrs : y.ctrs = (s.count (stwB + Ctr.STW.RESTARTS)).ctrs := by rw [hy, hx]
  have hregs : x.regs = s.regs := by rw [hx]
  refine ⟨hset, hstate.trans (fld_of_regs _ _ hregs), hstw, hctrs, ?_, fun a ha => ?_⟩
  · rw [hstw, hctrs]
    refine hy.trans ?_
    rw [hx]
  · exact (hbut a ha).trans (congrArg (fun m => SMap.get resetWord m a) hregs)

theorem restartShown_restartCounted : RestartShown s s.restartCounted := by
  have hfld : s.restartCounted.fld stwB F.STW_STAT.RESTARTS = min 255 s.restartsNow.length % 256 :=
    fld_setF_same _ stwB F.STW_STAT.RESTARTS _ (by decide)
  have hlt : min 255 s.restartsNow.length < 256 := lt_of_le_of_lt (Nat.min_le_left ..) (by decide)
  exact .of_set (count_withRestarts ..) rfl (setF_frame ..) (hfld.trans (Nat.mod_eq_of_lt hlt))
    (fld_setF_other _ _ (by decide) (.inr (.inl (by decide)))) (regsBut_setF _ F.STW_STAT.RESTARTS _)

theorem stwRestart_eq (h : s.stwState = 1) : s.stwRestart = s.restartCounted.stwRestarting s.restartCopy 0 := by
  have hnot : ¬ s.stwState ≠ 1 := fun hne => hne h
  have hcopy : s.restartCounted.stw.copy = s.stw.copy := by rw [restartShown_restartCounted.stw]
  have hrestart : s.stwRestart = s.restartCounted.stwRestarting
      (if 3 ≤ s.restartsNow.length then 1 - s.restartCounted.stw.copy else s.restartCounted.stw.copy) 0 := by
    unfold State.stwRestart
    exact if_neg hnot
  rw [hrestart, hcopy]
  rfl

end Sys2Proof.Machine
end

section
/-! Proof support: what a drain of STW leaves (R396, R499). -/

namespace Sys2Proof.Machine

variable {s t u : State}

/-- STW is drained and its firmware restarts; its counters go on from another state's. -/
structure Drained (c s t : State) : Prop where
  state : t.stwState = 2
  grace : SMap.get (fun _ => 0) t.timers Tm.stwGrace = s.now + max 1 (s.fld stwB F.STW_CFG.GRACE) * msTicks + 1
  stw : t.stw = { (s.stw.loaded s.restartCopy) with restarts := s.restartsNow, failed := 0 }
  core : CoreReset t
  restarts : t.fld stwB F.STW_STAT.RESTARTS = min 255 s.restartsNow.length
  draining : t.draining = s.draining ++ [0x3F]
  isl : t.fld aonB F.AON_FAULT_LAST.ISL = 0x3F
  cause : t.fld aonB F.AON_FAULT_LAST.CAUSE = Config.free s.freeNext % 4
  discarded : t.fld aonB F.AON_FAULT_LAST.DISCARDED = s.stwInFlight
  free : t.freeNext = s.freeNext + 2
  ctrs : t.ctrs = ((c.count (aonB + Ctr.AON.DRAINS)).count (stwB + Ctr.STW.RESTARTS)).ctrs
  bens : OnlyBens s t
  pon : t.pon = ⟨{ s.pon.a with benTill := t.pon.a.benTill }, { s.pon.b with benTill := t.pon.b.benTill }⟩
  frame : t = { s with
    out := t.out, freeNext := t.freeNext, stw := t.stw, pon := t.pon, draining := t.draining, ctrs := t.ctrs, evt := t.evt,
    timers := t.timers, regs := t.regs }
  timers : TimersBut [Tm.stwReady, Tm.stwWdog, Tm.stwGrace, Tm.omciHost] s t
  regs : RegsBut [aonB + 0x174, stwB + 0x4, stwB + 0x8, pnB 0 + 0x104, pnB 1 + 0x104] s t

/-- STW is draining. -/
def State.stwDraining (s : State) : State := { s with draining := s.draining ++ [0x3F] }

theorem stwInFlight_le : s.stwInFlight ≤ 2 := by
  have hb : ∀ b : Bool, b2n b ≤ 1 := by decide
  exact Nat.add_le_add (hb s.stw.waitHost.isSome) (hb s.stw.download.isSome)

theorem restartsNow_congr (hnow : t.now = s.now) (hstw : t.stw = s.stw) : t.restartsNow = s.restartsNow := by
  unfold State.restartsNow State.recentRestarts
  rw [hnow, hstw]

theorem restartCopy_congr (hnow : t.now = s.now) (hstw : t.stw = s.stw) : t.restartCopy = s.restartCopy := by
  unfold State.restartCopy
  rw [restartsNow_congr hnow hstw, hstw]

theorem state_stwDraining : s.stwDraining.stwState = s.stwState := fld_of_regs _ _ rfl

theorem DrainShown.draining {id cause n : Nat} (h : DrainShown id cause n s t) : t.draining = s.draining := by rw [h.frame]

theorem DrainShown.state {id cause n : Nat} (h : DrainShown id cause n s t) : t.stwState = s.stwState :=
  fld_congr (h.regs _ (by decide))

/-- The record of the drain, the restart that is counted and the restart follow each other. -/
theorem Drained.of_steps {b d e : State} (hb : DrainShown 0x3F (Config.free s.freeNext % 4) s.stwInFlight s.takeFree.1 b)
    (hd : RestartShown b.stwDraining d) (he : Restarted b.stwDraining.restartCopy d e) : Drained s s e := by
  have hbs : b = { s with freeNext := s.freeNext + 1, regs := b.regs, ctrs := b.ctrs, evt := b.evt } := hb.frame
  have hcd : b.stwDraining = { s with
      freeNext := s.freeNext + 1, regs := b.regs, ctrs := b.ctrs, evt := b.evt, draining := s.draining ++ [0x3F] } := by
    rw [hbs]
    rfl
  have hcregs : b.stwDraining.regs = b.regs := rfl
  have hnow : b.stwDraining.restartsNow = s.restartsNow := restartsNow_congr (by rw [hcd]) (by rw [hcd])
  have hcopy : b.stwDraining.restartCopy = s.restartCopy := restartCopy_congr (by rw [hcd]) (by rw [hcd])
  have hdframe : d = { s with
      freeNext := s.freeNext + 1, regs := d.regs, ctrs := d.ctrs, evt := b.evt, draining := s.draining ++ [0x3F],
      stw := d.stw } := by
    have h := hd.frame
    rw [hcd] at h
    exact h
  have heframe : e = { s with
      freeNext := e.freeNext, regs := e.regs, ctrs := d.ctrs, evt := e.evt, draining := s.draining ++ [0x3F], stw := e.stw,
      timers := e.timers, pon := e.pon, out := e.out } := by
    have h := he.frame
    rw [hdframe] at h
    exact h
  have hbregs : RegsBut [aonB + 0x174] s b := fun a ha => (hb.regs a ha).trans (reg_takeFree _ _)
  have hdregs : RegsBut [aonB + 0x174, stwB + 0x4] s d :=
    regsBut_mono (regsBut_trans (regsBut_of_regs hbregs hcregs) hd.regs) (by decide)
  have hlast : ∀ f : Fld, f.off = 0x174 → e.fld aonB f = b.fld aonB f := fun f hf => by
    have hed : e.fld aonB f = d.fld aonB f := fld_congr (he.regs _ (by rw [hf]; decide))
    have hdc : d.fld aonB f = b.stwDraining.fld aonB f := fld_congr (hd.regs _ (by rw [hf]; decide))
    exact hed.trans (hdc.trans (fld_of_regs _ _ hcregs))
  have hctrs : d.ctrs = ((s.count (aonB + Ctr.AON.DRAINS)).count (stwB + Ctr.STW.RESTARTS)).ctrs := by
    have hbctrs : b.ctrs = (s.count (aonB + Ctr.AON.DRAINS)).ctrs := hb.ctrs.trans (count_ctrs_congr rfl rfl rfl)
    refine hd.ctrs.trans (count_ctrs_congr ?_ ?_ ?_)
    · rw [hcd]
      exact hbctrs
    · rw [hcd, count_counting]
    · rw [hcd, count_mcCounting]
  refine ⟨he.state, ?_, ?_, he.core, ?_, ?_, ?_, ?_, ?_, ?_, ?_, ?_, ?_, ?_, ?_, ?_⟩
  · have hcfg : d.fld stwB F.STW_CFG.GRACE = s.fld stwB F.STW_CFG.GRACE := fld_congr (hdregs _ (by decide))
    have hdnow : d.now = s.now := by rw [hdframe]
    rw [he.grace, hcfg, hdnow]
  · rw [he.stw, hd.stw, hcopy, hnow, hcd]
    rfl
  · exact (he.stat _ rfl (by decide)).trans (hd.restarts.trans (by rw [hnow]))
  · rw [heframe]
  · exact (hlast _ rfl).trans hb.isl
  · have hlt : Config.free s.freeNext % 4 < 16 := lt_of_lt_of_le (Nat.mod_lt _ (by decide)) (by decide)
    exact (hlast _ rfl).trans (hb.cause.trans (Nat.mod_eq_of_lt hlt))
  · have hle : s.stwInFlight ≤ 0xFFFF := stwInFlight_le.trans (by decide)
    refine (hlast _ rfl).trans (hb.discarded.trans ?_)
    rw [Nat.min_eq_right hle, Nat.mod_eq_of_lt (Nat.lt_succ_of_le hle)]
  · rw [he.free, hdframe]
  · rw [heframe]
    exact hctrs
  · exact onlyBens_trans (onlyBens_of_eq (by rw [hdframe])) he.bens
  · have hpon := he.pon
    rw [hdframe] at hpon
    exact hpon
  · have hdraining : e.draining = s.draining ++ [0x3F] := by rw [heframe]
    have hectrs : e.ctrs = d.ctrs := by rw [heframe]
    rw [hdraining, hectrs]
    exact heframe
  · have hdtimers : d.timers = s.timers := by rw [hdframe]
    exact timersBut_trans (timersBut_of_eq _ hdtimers) he.timers
  · exact regsBut_mono (regsBut_trans hdregs he.regs) (by decide)

theorem stwDrain_eq (h : s.stwState = 1) (hd : s.draining.contains 0x3F = false) :
    s.stwDrain = (s.takeFree.1.drainRecord 0x3F (Config.free s.freeNext % 4) s.stwInFlight).stwDraining.stwRestart := by
  have hnot : ¬ s.stwState ≠ 1 := fun hne => hne h
  have hdrop : ¬ s.takeFree.1.draining.contains 0x3F = true := by
    rw [takeFree_draining, hd]
    decide
  have hdrain : s.stwDrain = State.stwRestart (if s.takeFree.1.draining.contains 0x3F then s.takeFree.1
      else { s.takeFree.1.drainRecord 0x3F (Config.free s.freeNext % 4) s.stwInFlight with
        draining := s.draining ++ [0x3F] }) := by
    unfold State.stwDrain
    exact if_neg hnot
  have hdraining : (s.takeFree.1.drainRecord 0x3F (Config.free s.freeNext % 4) s.stwInFlight).draining = s.draining :=
    drainShown_drainRecord.draining.trans (takeFree_draining _)
  rw [hdrain, if_neg hdrop]
  unfold State.stwDraining
  rw [hdraining]

theorem drained_stwDrain (h : s.stwState = 1) (hd : s.draining.contains 0x3F = false) : Drained s s s.stwDrain := by
  have hb := drainShown_drainRecord (s := s.takeFree.1) (id := 0x3F) (cause := Config.free s.freeNext % 4)
    (n := s.stwInFlight)
  have hstate : (s.takeFree.1.drainRecord 0x3F (Config.free s.freeNext % 4) s.stwInFlight).stwDraining.stwState = 1 :=
    state_stwDraining.trans (hb.state.trans ((fld_of_regs _ _ (takeFree_regs _)).trans h))
  rw [stwDrain_eq h hd, stwRestart_eq hstate]
  exact .of_steps hb restartShown_restartCounted
    (restarted_stwRestarting (restartShown_restartCounted.state.trans hstate))

theorem stwDrain_of_not_run (h : s.stwState ≠ 1) : s.stwDrain = s := if_pos h

end Sys2Proof.Machine
end

section
/-! Proof support: a copy of the firmware fails (R48, R394), the other is loaded, or STW is dark (R396). -/

namespace Sys2Proof.Machine

variable {s t u : State} {k code : Nat}

/-! ### A copy's failure is recorded -/

/-- Where the fail code of a copy stands. -/
def failFld (k : Nat) : Fld := if k = 0 then F.AON_BOOT_FAIL.FAIL_FW_A else F.AON_BOOT_FAIL.FAIL_FW_B

theorem failFld_spec (k : Nat) :
    (failFld k).off = 0x24 ∧ (failFld k).lo + (failFld k).width ≤ 32 ∧ (failFld k).width = 4 := by
  unfold failFld
  split
  · decide
  · decide

/-- A fail code is shown. -/
def State.showFail (s : State) (k code : Nat) : State := (s.setF aonB (failFld k) code).setF stwB F.STW_STAT.LAST_FAIL code

/-- What a fail code's record shows. -/
structure CodeShown (k code : Nat) (s t : State) : Prop where
  fail : t.fld aonB (failFld k) = code % 16
  last : t.fld stwB F.STW_STAT.LAST_FAIL = code % 16
  stat : ∀ f : Fld, f.off = 0x4 → (f.lo + f.width ≤ 24 ∨ 28 ≤ f.lo) → t.fld stwB f = s.fld stwB f
  frame : t = { s with regs := t.regs }
  regs : RegsBut [aonB + 0x24, stwB + 0x4] s t

theorem codeShown_showFail : CodeShown k code s (s.showFail k code) := by
  obtain ⟨hoff, hfits, hwidth⟩ := failFld_spec k
  refine ⟨?_, ?_, fun f hf hlo => ?_, ?_, ?_⟩
  · have hset : (s.setF aonB (failFld k) code).fld aonB (failFld k) = code % 16 := by
      rw [fld_setF_same s _ _ _ hfits, hwidth]
      rfl
    exact (fld_setF_other _ _ (by decide) (.inl (by rw [hoff]; decide))).trans hset
  · exact fld_setF_same (s.setF aonB (failFld k) code) stwB F.STW_STAT.LAST_FAIL code (by decide)
  · have hset : (s.setF aonB (failFld k) code).fld stwB f = s.fld stwB f :=
      fld_setF_other s _ hfits (.inl (by rw [hoff, hf]; decide))
    exact (fld_setF_other _ (f := F.STW_STAT.LAST_FAIL) _ (by decide) (.inr hlo.symm)).trans hset
  · exact regsFrame_trans (setF_frame ..) (setF_frame ..)
  · exact regsBut_mono (regsBut_trans (regsBut_setF aonB (failFld k) code) (regsBut_setF stwB F.STW_STAT.LAST_FAIL code))
      (by rw [hoff]; decide)

/-- A copy has failed. -/
def State.withFailed (s : State) : State := { s with stw := { s.stw with failed := Nat.lor s.stw.failed (2 ^ s.stw.copy) } }

/-- Whether the other copy has not failed. -/
def State.otherUsable (s : State) : Bool := !s.stw.failed.testBit (1 - s.stw.copy)

/-- STW_FW_FAIL is raised at stage STEWARD. -/
def State.raiseFail (s : State) (k code : Nat) (other : Bool) : State :=
  if s.stage = 8 then s.raise Ev.STW_FW_FAIL 0x00 noInst [(1, k), (1, code), (1, b2n other)] else s

/-- The failure of the copy that is loaded, recorded and reported. -/
def State.failReported (s : State) (code : Nat) : State :=
  (s.withFailed.showFail s.stw.copy code).raiseFail s.stw.copy code s.otherUsable

theorem fwFail_eq : s.fwFail code = if s.otherUsable then (s.failReported code).stwLoad (1 - s.stw.copy)
    else (s.failReported code).stwDark := by
  unfold State.fwFail State.failReported State.raiseFail State.showFail State.withFailed State.otherUsable failFld
  rfl

/-- What a copy's failure shows. -/
structure FailShown (code : Nat) (s t : State) : Prop where
  fail : t.fld aonB (failFld s.stw.copy) = code % 16
  last : t.fld stwB F.STW_STAT.LAST_FAIL = code % 16
  stat : ∀ f : Fld, f.off = 0x4 → (f.lo + f.width ≤ 24 ∨ 28 ≤ f.lo) → t.fld stwB f = s.fld stwB f
  stw : t.stw = { s.stw with failed := Nat.lor s.stw.failed (2 ^ s.stw.copy) }
  evt : t.evt = (s.raiseFail s.stw.copy code s.otherUsable).evt
  frame : t = { s with stw := t.stw, evt := t.evt, regs := t.regs }
  regs : RegsBut [aonB + 0x24, stwB + 0x4] s t

theorem raiseFail_frame {other : Bool} : s.raiseFail k code other = { s with evt := (s.raiseFail k code other).evt } := by
  unfold State.raiseFail
  split
  · exact raise_eq ..
  · rfl

theorem raiseFail_evt_congr {other : Bool} (hevt : t.evt = s.evt) (hstage : t.stage = s.stage)
    (hlive : t.live 0x3C = s.live 0x3C) : (t.raiseFail k code other).evt = (s.raiseFail k code other).evt := by
  unfold State.raiseFail
  rw [hstage]
  split
  · exact raise_evt_congr hevt hlive ..
  · exact hevt

theorem FailShown.of_shown {x y : State} (hx : CodeShown s.stw.copy code s.withFailed x) (hy : y = { x with evt := y.evt })
    (hevt : y.evt = (x.raiseFail s.stw.copy code s.otherUsable).evt) : FailShown code s y := by
  obtain ⟨hfail, hlast, hstat, hframe, hregs⟩ := hx
  have hyregs : y.regs = x.regs := by rw [hy]
  have hfailed : ∀ b f, s.withFailed.fld b f = s.fld b f := fun b f => fld_of_regs _ _ rfl
  have hxregs : RegsBut [aonB + 0x24, stwB + 0x4] s x := fun a ha => hregs a ha
  have hstw : y.stw = { s.stw with failed := Nat.lor s.stw.failed (2 ^ s.stw.copy) } := by
    rw [hy, hframe]
    rfl
  refine ⟨(fld_of_regs _ _ hyregs).trans hfail, (fld_of_regs _ _ hyregs).trans hlast,
    fun f hoff hlo => (fld_of_regs _ _ hyregs).trans ((hstat f hoff hlo).trans (hfailed _ _)), hstw, hevt.trans ?_, ?_,
    regsBut_of_regs hxregs hyregs⟩
  · refine raiseFail_evt_congr ?_ (fld_congr (hxregs _ (by decide))) (live_evt_congr (hxregs _ (by decide)))
    rw [hframe]
    rfl
  · rw [hstw, hyregs]
    refine hy.trans ?_
    rw [hframe]
    rfl

theorem failShown_failReported : FailShown code s (s.failReported code) :=
  .of_shown codeShown_showFail raiseFail_frame rfl

/-! ### The other copy is loaded -/

/-- A copy fails, and the other is loaded. -/
structure FailedOver (code : Nat) (s t : State) : Prop where
  fail : t.fld aonB (failFld s.stw.copy) = code % 16
  last : t.fld stwB F.STW_STAT.LAST_FAIL = code % 16
  stw : t.stw = { s.stw.loaded (1 - s.stw.copy) with failed := Nat.lor s.stw.failed (2 ^ s.stw.copy) }
  core : CoreReset t
  evt : t.evt = (s.raiseFail s.stw.copy code s.otherUsable).evt
  frame : t = { s with stw := t.stw, evt := t.evt, timers := t.timers, regs := t.regs }
  timers : TimersBut [Tm.stwReady, Tm.stwWdog, Tm.omciHost] s t
  regs : RegsBut [aonB + 0x24, stwB + 0x4, stwB + 0x8] s t

theorem FailShown.failedOver (h : FailShown code s t) (k : Loaded (1 - s.stw.copy) t u) : FailedOver code s u := by
  have hoff := (failFld_spec s.stw.copy).1
  have hevt : u.evt = t.evt := by rw [k.frame]
  have htimers : t.timers = s.timers := by rw [h.frame]
  refine ⟨(fld_congr (k.regs _ (by rw [hoff]; decide))).trans h.fail, (k.stat _ rfl (.inl (by decide))).trans h.last,
    ?_, k.core, hevt.trans h.evt, ?_, timersBut_trans (timersBut_of_eq _ htimers) k.timers,
    regsBut_mono (regsBut_trans h.regs k.regs) (by decide)⟩
  · rw [k.stw, h.stw]
    rfl
  · obtain ⟨w, e, r, rfl⟩ : ∃ w e r, t = { s with stw := w, evt := e, regs := r } := ⟨_, _, _, h.frame⟩
    obtain ⟨w', v, r', rfl⟩ : ∃ w' v r', u = { s with evt := e, stw := w', timers := v, regs := r' } :=
      ⟨_, _, _, k.frame⟩
    rfl

theorem failedOver_fwFail (h : s.otherUsable = true) : FailedOver code s (s.fwFail code) := by
  rw [fwFail_eq, if_pos h]
  exact failShown_failReported.failedOver loaded_stwLoad

end Sys2Proof.Machine
end

section
/-! Proof support: the held inputs are discarded (R396), STW goes DOWN or dark (R48), and its live bit changes (R17). -/

namespace Sys2Proof.Machine

variable {s t u : State} {k code : Nat}

/-! ### STW's live bit -/

/-- A change of STW's live bit. -/
structure LiveSet (v : Bool) (s t : State) : Prop where
  live : t.live 0x3F = v
  frame : t = { s with evt := t.evt, regs := t.regs }
  regs : RegsBut [aonB + 0x14] s t

/-- STW's live bit. -/
def stwLive : Fld := ⟨0x14, 31, 31⟩

theorem testBit_reg_setF {b : Nat} {f : Fld} (v i : Nat) (hf : f.lo + f.width ≤ 32) :
    ((s.setF b f v).reg (b + f.off)).toNat.testBit i =
      if f.lo ≤ i ∧ i < f.lo + f.width then v.testBit (i - f.lo) else (s.reg (b + f.off)).toNat.testBit i := by
  rw [reg_setF_same, BitVec.toNat_ofNat, Nat.mod_eq_of_lt (f.ins_lt _ _ (s.reg _).isLt hf), Fld.testBit_ins]

theorem live_setBit (v : Bool) : (s.setBit aonB stwLive v).live 0x3F = v := by
  have hbit : ((s.setF aonB stwLive (if v then 1 else 0)).reg (aonB + stwLive.off)).toNat.testBit 31 = v := by
    rw [testBit_reg_setF _ _ (by decide), if_pos (by decide)]
    cases v
    · rfl
    · rfl
  exact hbit

theorem live_of_regs (h : t.regs = s.regs) (id : Nat) : t.live id = s.live id :=
  congrArg (fun m => (SMap.get resetWord m (aonB + (if id < 32 then 0x10 else 0x14))).toNat.testBit (id % 32)) h

theorem LiveSet.of_set {v : Bool} {x y : State} (hx : x = { s with regs := x.regs }) (hlive : x.live 0x3F = v)
    (hregs : RegsBut [aonB + 0x14] s x) (hy : y = { x with evt := y.evt }) : LiveSet v s y := by
  have hyx : y.regs = x.regs := by rw [hy]
  refine ⟨(live_of_regs hyx _).trans hlive, ?_, regsBut_of_regs hregs hyx⟩
  rw [hyx]
  refine hy.trans ?_
  rw [hx]

theorem setLive_eq {v : Bool} (h : s.live 0x3F ≠ v) : s.setLive 0x3F v =
    (s.setBit aonB stwLive v).raise Ev.ISL_LIVE_CHANGE 0x00 noInst [(1, 0x3F), (1, if v then 1 else 0)] := by
  have hevt : ¬ ((0x3F : Nat) = 0x3C ∧ v = true) := fun e => absurd e.1 (by decide)
  have hrep : ∀ x : State, x.repStart 0x3F = x := fun x => if_neg (by decide)
  unfold State.setLive
  dsimp only
  rw [if_neg h, if_neg hevt, hrep, ite_self]
  rfl

theorem liveSet_setLive (v : Bool) : LiveSet v s (s.setLive 0x3F v) := by
  by_cases h : s.live 0x3F = v
  · have hkeep : s.setLive 0x3F v = s := if_pos h
    rw [hkeep]
    exact ⟨h, rfl, fun _ _ => rfl⟩
  · rw [setLive_eq h]
    exact .of_set (setF_frame ..) (live_setBit v) (regsBut_setF aonB stwLive _) (raise_eq ..)

/-! ### The held inputs are discarded -/

/-- Nothing is held for the Steward. -/
def Forgotten (t : State) : Prop :=
  (t.pn 0).stwPloam = [] ∧ (t.pn 0).omciIn = [] ∧ (t.pn 1).stwPloam = [] ∧ (t.pn 1).omciIn = []

theorem forgotten_stwForget : Forgotten s.stwForget := ⟨rfl, rfl, rfl, rfl⟩

theorem stwForget_frame : s.stwForget = { s with pon := s.stwForget.pon } := rfl

/-- STW goes DOWN, and what is held for it is discarded. -/
structure WentDown (s t : State) : Prop where
  state : t.stwState = 3
  stat : ∀ f : Fld, f.off = 0x4 → f.lo + f.width ≤ 30 → t.fld stwB f = s.fld stwB f
  free : t.freeNext = s.freeNext + 1
  forgotten : Forgotten t
  inh0 : t.pf 0 F.PN_US_STAT.INH = Nat.lor (s.pf 0 F.PN_US_STAT.INH) 4
  inh1 : t.pf 1 F.PN_US_STAT.INH = Nat.lor (s.pf 1 F.PN_US_STAT.INH) 4
  evt : t.evt = (s.raise Ev.STW_STATE 0x3F noInst [(1, s.stwState), (1, 3), (1, Config.free s.freeNext)]).evt
  bens : OnlyBens s t
  frame : t = { s with
    out := t.out, freeNext := t.freeNext, pon := t.pon, bc := t.bc, tally := t.tally, ctrs := t.ctrs, evt := t.evt,
    regs := t.regs }
  regs : RegsBut [stwB + 0x4, pnB 0 + 0x104, pnB 1 + 0x104, bcB 0 + 0x44, bcB 1 + 0x44] s t

theorem StwDown.wentDown {x y : State} (h : StwDown x y) (hx : x = { s with pon := x.pon }) (hforgot : Forgotten x) :
    WentDown s y := by
  obtain ⟨hploam0, homci0, hploam1, homci1⟩ := hforgot
  have hregs : x.regs = s.regs := by rw [hx]
  have hstate : x.stwState = s.stwState := fld_of_regs _ _ hregs
  have hfree : x.freeNext = s.freeNext := by rw [hx]
  refine ⟨h.state, fun f hoff hf => (h.stat f hoff hf).trans (fld_of_regs _ _ hregs), by rw [h.free, hfree],
    ⟨h.held0.1.trans hploam0, h.held0.2.trans homci0, h.held1.1.trans hploam1, h.held1.2.trans homci1⟩, ?_, ?_, ?_, ?_, ?_,
    fun a ha => (h.regs a ha).trans (congrArg (fun m => SMap.get resetWord m a) hregs)⟩
  · exact h.inh0.trans (congrArg (Nat.lor · 4) (fld_of_regs _ _ hregs))
  · exact h.inh1.trans (congrArg (Nat.lor · 4) (fld_of_regs _ _ hregs))
  · rw [h.evt, hstate, hfree]
    exact raise_evt_congr (by rw [hx]) (live_of_regs hregs _) ..
  · exact onlyBens_trans (onlyBens_of_eq (by rw [hx])) h.bens
  · obtain ⟨p, rfl⟩ : ∃ p, x = { s with pon := p } := ⟨_, hx⟩
    obtain ⟨o, n, p', b, a, c, e, r, rfl⟩ : ∃ o n p' b a c e r, y = { s with
      out := o, freeNext := n, pon := p', bc := b, tally := a, ctrs := c, evt := e, regs := r } :=
      ⟨_, _, _, _, _, _, _, _, h.frame⟩
    rfl

theorem wentDown_stwForget (h : s.stwState ≠ 3) : WentDown s (s.stwForget.stwGo 3) := by
  have hstate : s.stwForget.stwState = s.stwState := fld_of_regs _ _ rfl
  exact (stwDown_stwGo (hstate.symm ▸ h)).wentDown stwForget_frame forgotten_stwForget

/-! ### STW is dark -/

/-- The firmware is no longer starting, and no image of it is known. -/
def State.stwStopped (s : State) : State := { s with stw := { s.stw with starting := false, fwHash := 0 } }

/-- Stage STEWARD shows that STW is down. -/
def State.showDown (s : State) : State := if s.stage = 8 then s.setF aonB F.AON_BOOT_STAT.STW_DOWN 1 else s

/-- What STW_DOWN shows. -/
structure DownShown (s t : State) : Prop where
  down : t.bit aonB F.AON_BOOT_STAT.STW_DOWN = (s.bit aonB F.AON_BOOT_STAT.STW_DOWN || decide (s.stage = 8))
  frame : t = { s with regs := t.regs }
  regs : RegsBut [aonB + 0x20] s t

theorem downShown_showDown : DownShown s s.showDown := by
  unfold State.showDown
  split
  · next h =>
    have hset : (s.setF aonB F.AON_BOOT_STAT.STW_DOWN 1).fld aonB F.AON_BOOT_STAT.STW_DOWN = 1 :=
      fld_setF_same s _ _ _ (by decide)
    refine ⟨?_, setF_frame .., regsBut_setF aonB F.AON_BOOT_STAT.STW_DOWN 1⟩
    rw [decide_eq_true h, Bool.or_true]
    exact congrArg (· != 0) hset
  · next h => exact ⟨by rw [decide_eq_false h, Bool.or_false], rfl, fun _ _ => rfl⟩

theorem stwDark_eq : s.stwDark =
    (((s.stwForget.stwGo 3).stwStopped.showDown.stopTimer Tm.stwReady).stopTimer Tm.stwGrace).setLive 0x3F false := by
  unfold State.stwDark State.showDown State.stwStopped
  rfl

/-- STW is dark. -/
structure Dark (s t : State) : Prop where
  state : t.stwState = 3
  stat : ∀ f : Fld, f.off = 0x4 → f.lo + f.width ≤ 30 → t.fld stwB f = s.fld stwB f
  live : t.live 0x3F = false
  down : t.bit aonB F.AON_BOOT_STAT.STW_DOWN = (s.bit aonB F.AON_BOOT_STAT.STW_DOWN || decide (s.stage = 8))
  stw : t.stw = { s.stw with starting := false, fwHash := 0 }
  off : t.timerOn Tm.stwReady = false ∧ t.timerOn Tm.stwGrace = false
  inh0 : t.pf 0 F.PN_US_STAT.INH = Nat.lor (s.pf 0 F.PN_US_STAT.INH) 4
  inh1 : t.pf 1 F.PN_US_STAT.INH = Nat.lor (s.pf 1 F.PN_US_STAT.INH) 4
  forgotten : Forgotten t
  bens : OnlyBens s t
  frame : t = { s with
    out := t.out, freeNext := t.freeNext, stw := t.stw, pon := t.pon, bc := t.bc, tally := t.tally, ctrs := t.ctrs,
    evt := t.evt, timers := t.timers, regs := t.regs }
  timers : TimersBut [Tm.stwReady, Tm.stwGrace] s t
  regs : RegsBut [aonB + 0x20, aonB + 0x14, stwB + 0x4, pnB 0 + 0x104, pnB 1 + 0x104, bcB 0 + 0x44, bcB 1 + 0x44] s t

theorem Dark.of_steps {x y z w : State} (hx : WentDown s x) (hy : DownShown x.stwStopped y)
    (hz : z = { y with timers := z.timers }) (hoff : z.timerOn Tm.stwReady = false ∧ z.timerOn Tm.stwGrace = false)
    (htimers : TimersBut [Tm.stwReady, Tm.stwGrace] y z) (hw : LiveSet false z w) : Dark s w := by
  have hstopped : x.stwStopped.regs = x.regs := rfl
  have hzy : z.regs = y.regs := by rw [hz]
  have hyregs : RegsBut [aonB + 0x20] x y := fun a ha => hy.regs a ha
  have hzregs : RegsBut [aonB + 0x20] x z := regsBut_of_regs hyregs hzy
  have hwregs : RegsBut [aonB + 0x20, aonB + 0x14] x w := regsBut_mono (regsBut_trans hzregs hw.regs) (by decide)
  have hwz : w.timers = z.timers := by rw [hw.frame]
  have hyframe : y = { x with regs := y.regs, stw := { x.stw with starting := false, fwHash := 0 } } := hy.frame
  have hxstw : x.stw = s.stw := by rw [hx.frame]
  have hwframe : w = { x with
      regs := w.regs, stw := { s.stw with starting := false, fwHash := 0 }, timers := z.timers, evt := w.evt } := by
    rw [hxstw] at hyframe
    have h := hw.frame
    rw [hz, hyframe] at h
    exact h
  have hwpn : w.pon = x.pon := by rw [hwframe]
  refine ⟨(fld_congr (hwregs _ (by decide))).trans hx.state, fun f hoff hf => ?_, hw.live, ?_, ?_, ⟨?_, ?_⟩, ?_, ?_,
    ?_, ?_, ?_, ?_, ?_⟩
  · exact Eq.trans (fld_congr (hwregs _ (by rw [hoff]; decide))) (hx.stat f hoff hf)
  · have hxbit : x.bit aonB F.AON_BOOT_STAT.STW_DOWN = s.bit aonB F.AON_BOOT_STAT.STW_DOWN :=
      bit_congr (hx.regs _ (by decide))
    have hstage : x.stage = s.stage := fld_congr (hx.regs _ (by decide))
    have hydown : y.bit aonB F.AON_BOOT_STAT.STW_DOWN =
        (x.bit aonB F.AON_BOOT_STAT.STW_DOWN || decide (x.stage = 8)) := hy.down
    have hwy : w.bit aonB F.AON_BOOT_STAT.STW_DOWN = y.bit aonB F.AON_BOOT_STAT.STW_DOWN :=
      (bit_congr (hw.regs _ (by decide))).trans (congrArg (· != 0) (fld_of_regs _ _ hzy))
    rw [hwy, hydown, hxbit, hstage]
  · rw [hwframe]
  · exact (timerOn_congr hwz).trans hoff.1
  · exact (timerOn_congr hwz).trans hoff.2
  · exact Eq.trans (fld_congr (hwregs _ (by decide))) hx.inh0
  · exact Eq.trans (fld_congr (hwregs _ (by decide))) hx.inh1
  · unfold Forgotten State.pn
    rw [hwpn]
    exact hx.forgotten
  · exact onlyBens_trans hx.bens (onlyBens_of_eq (by rw [hwframe]))
  · obtain ⟨o, n, p, b, a, c, e, r, rfl⟩ : ∃ o n p b a c e r, x = { s with
      out := o, freeNext := n, pon := p, bc := b, tally := a, ctrs := c, evt := e, regs := r } :=
      ⟨_, _, _, _, _, _, _, _, hx.frame⟩
    obtain ⟨r', v, e', rfl⟩ : ∃ r' v e', w = { s with
      out := o, freeNext := n, pon := p, bc := b, tally := a, ctrs := c, regs := r',
      stw := { s.stw with starting := false, fwHash := 0 }, timers := v, evt := e' } := ⟨_, _, _, hwframe⟩
    rfl
  · have hytimers : y.timers = s.timers := by rw [hyframe, hx.frame]
    exact timersBut_of_timers (timersBut_trans (timersBut_of_eq _ hytimers) htimers) hwz
  · exact regsBut_mono (regsBut_trans hx.regs hwregs) (by decide)

theorem dark_stwDark (h : s.stwState ≠ 3) : Dark s s.stwDark := by
  rw [stwDark_eq]
  exact .of_steps (wentDown_stwForget h) downShown_showDown
    (timersFrame_trans (stopTimer_frame _) (stopTimer_frame _))
    ⟨timerOn_stopTimer_of_off (timerOn_stopTimer_same ..), timerOn_stopTimer_same ..⟩
    (timersBut_trans (timersBut_stopTimer (by simp)) (timersBut_stopTimer (by simp))) (liveSet_setLive false)

/-- The copy that is loaded fails where the other has failed too, and STW is dark. -/
structure FailedDark (code : Nat) (s t : State) : Prop where
  fail : t.fld aonB (failFld s.stw.copy) = code % 16
  last : t.fld stwB F.STW_STAT.LAST_FAIL = code % 16
  state : t.stwState = 3
  live : t.live 0x3F = false
  down : t.bit aonB F.AON_BOOT_STAT.STW_DOWN = (s.bit aonB F.AON_BOOT_STAT.STW_DOWN || decide (s.stage = 8))
  stw : t.stw = { s.stw with failed := Nat.lor s.stw.failed (2 ^ s.stw.copy), starting := false, fwHash := 0 }
  off : t.timerOn Tm.stwReady = false ∧ t.timerOn Tm.stwGrace = false
  inh0 : t.pf 0 F.PN_US_STAT.INH = Nat.lor (s.pf 0 F.PN_US_STAT.INH) 4
  inh1 : t.pf 1 F.PN_US_STAT.INH = Nat.lor (s.pf 1 F.PN_US_STAT.INH) 4
  forgotten : Forgotten t
  bens : OnlyBens s t
  frame : t = { s with
    out := t.out, freeNext := t.freeNext, stw := t.stw, pon := t.pon, bc := t.bc, tally := t.tally, ctrs := t.ctrs,
    evt := t.evt, timers := t.timers, regs := t.regs }
  timers : TimersBut [Tm.stwReady, Tm.stwGrace] s t
  regs : RegsBut [aonB + 0x24, aonB + 0x20, aonB + 0x14, stwB + 0x4, pnB 0 + 0x104, pnB 1 + 0x104, bcB 0 + 0x44,
    bcB 1 + 0x44] s t

theorem FailShown.state (h : FailShown code s t) : t.stwState = s.stwState := h.stat _ rfl (.inr (by decide))

theorem FailShown.failedDark (h : FailShown code s t) (k : Dark t u) : FailedDark code s u := by
  have hoff := (failFld_spec s.stw.copy).1
  have hstage : t.stage = s.stage := fld_congr (h.regs _ (by decide))
  have hdown : t.bit aonB F.AON_BOOT_STAT.STW_DOWN = s.bit aonB F.AON_BOOT_STAT.STW_DOWN := bit_congr (h.regs _ (by decide))
  have hinh : ∀ c, pnB c + F.PN_US_STAT.INH.off ∉ [aonB + 0x24, stwB + 0x4] →
      t.pf c F.PN_US_STAT.INH = s.pf c F.PN_US_STAT.INH := fun c hc => fld_congr (h.regs _ hc)
  refine ⟨Eq.trans (fld_congr (k.regs _ (by rw [hoff]; decide))) h.fail, (k.stat _ rfl (by decide)).trans h.last,
    k.state, k.live, ?_, ?_, k.off, ?_, ?_, k.forgotten, ?_, ?_, ?_, regsBut_mono (regsBut_trans h.regs k.regs) (by decide)⟩
  · rw [k.down, hdown, hstage]
  · rw [k.stw, h.stw]
  · rw [k.inh0, hinh 0 (by decide)]
  · rw [k.inh1, hinh 1 (by decide)]
  · exact onlyBens_trans (onlyBens_of_eq (by rw [h.frame])) k.bens
  · obtain ⟨w, e, r, rfl⟩ : ∃ w e r, t = { s with stw := w, evt := e, regs := r } := ⟨_, _, _, h.frame⟩
    obtain ⟨o, n, w', p, b, a, c, e', v, r', rfl⟩ : ∃ o n w' p b a c e' v r', u = { s with
      out := o, freeNext := n, stw := w', pon := p, bc := b, tally := a, ctrs := c, evt := e', timers := v, regs := r' } :=
      ⟨_, _, _, _, _, _, _, _, _, _, k.frame⟩
    rfl
  · exact timersBut_trans (timersBut_of_eq _ (by rw [h.frame])) k.timers

theorem failedDark_fwFail (h : s.otherUsable = false) (hdown : s.stwState ≠ 3) : FailedDark code s (s.fwFail code) := by
  have hnot : ¬ s.otherUsable = true := by
    rw [h]
    decide
  have hshown : FailShown code s (s.failReported code) := failShown_failReported
  rw [fwFail_eq, if_neg hnot]
  exact hshown.failedDark (dark_stwDark (hshown.state.symm ▸ hdown))

end Sys2Proof.Machine
end

section
/-! Proof support: the end of a verification (R394, R398, R401), for SWITCH and for the loader. -/

namespace Sys2Proof.Machine

variable {s t u : State} {k code target : Nat} {only : Bool} {img : Option (List Byte)}

theorem flashSettle_frame : s.flashSettle = { s with flash := s.flashSettle.flash } := by
  unfold State.flashSettle
  split
  · rfl
  · rfl

/-! ### The fail code -/

theorem fwCode_congr (h : t.regs = s.regs) : t.fwCode img = s.fwCode img := by
  have hstepping : t.stepping = s.stepping := congrArg (fun m => bits (SMap.get resetWord m aonB).toNat 15 8) h
  have hfloor : t.fld stwB F.STW_FW_FLOOR.FLOOR = s.fld stwB F.STW_FW_FLOOR.FLOOR := fld_of_regs _ _ h
  unfold State.fwCode
  rw [hstepping, hfloor]

theorem fwCode_lt (s : State) (img : Option (List Byte)) : s.fwCode img < 16 := by
  have hite : ∀ {p : Prop} [Decidable p] {a b : Nat}, a < 16 → b < 16 → (if p then a else b) < 16 := by
    intro p _ a b ha hb
    split
    · exact ha
    · exact hb
  unfold State.fwCode
  split
  · decide
  · exact hite (by decide) (hite (by decide) (hite (by decide) (hite (by decide) (hite (by decide)
      (hite (by decide) (by decide))))))

/-! ### SWITCH -/

/-- No verification is under way. -/
def StwState.noVerify (w : StwState) : StwState := { w with verify := none }

/-- The Steward's part is another. -/
def State.withStw (s : State) (w : StwState) : State := { s with stw := w }

/-- VERIFYING is cleared. -/
def State.verifyOff (s : State) : State := s.setF stwB F.STW_STAT.VERIFYING 0

/-- A verification that SWITCH began ends, and is reported. -/
def State.switchReported (s : State) (target code : Nat) (only : Bool) : State :=
  (s.verifyOff.withStw s.stw.noVerify).raise Ev.STW_FW_SWITCH 0x3F noInst [(1, target), (1, code), (1, b2n only)]

/-- What the end of a verification that SWITCH began shows. -/
structure SwitchShown (target code : Nat) (only : Bool) (s t : State) : Prop where
  verifying : t.fld stwB F.STW_STAT.VERIFYING = 0
  state : t.stwState = s.stwState
  stw : t.stw = { s.stw with verify := none }
  evt : t.evt = (s.raise Ev.STW_FW_SWITCH 0x3F noInst [(1, target), (1, code), (1, b2n only)]).evt
  frame : t = { s with stw := t.stw, evt := t.evt, regs := t.regs }
  regs : RegsBut [stwB + 0x4] s t

theorem SwitchShown.of_off {x : State} (hx : x = { s with regs := x.regs }) (hbut : RegsBut [stwB + 0x4] s x)
    (hverifying : x.fld stwB F.STW_STAT.VERIFYING = 0) (hstate : x.stwState = s.stwState) :
    SwitchShown target code only s
      ((x.withStw s.stw.noVerify).raise Ev.STW_FW_SWITCH 0x3F noInst [(1, target), (1, code), (1, b2n only)]) := by
  have hnone : (x.withStw s.stw.noVerify).regs = x.regs := rfl
  have hframe := raise_eq (s := (x.withStw s.stw.noVerify)) Ev.STW_FW_SWITCH 0x3F noInst [(1, target), (1, code), (1, b2n only)]
  have hevt : ((x.withStw s.stw.noVerify).raise Ev.STW_FW_SWITCH 0x3F noInst [(1, target), (1, code), (1, b2n only)]).evt =
      (s.raise Ev.STW_FW_SWITCH 0x3F noInst [(1, target), (1, code), (1, b2n only)]).evt :=
    raise_evt_congr (by rw [hx]; rfl) ((live_of_regs hnone _).trans (live_evt_congr (hbut _ (by decide)))) ..
  have hregs := (raise_regs (x.withStw s.stw.noVerify) Ev.STW_FW_SWITCH 0x3F noInst
    [(1, target), (1, code), (1, b2n only)]).trans hnone
  have hstw : ((x.withStw s.stw.noVerify).raise Ev.STW_FW_SWITCH 0x3F noInst [(1, target), (1, code), (1, b2n only)]).stw =
      { s.stw with verify := none } := by
    rw [raise_stw, hx]
    rfl
  refine ⟨(fld_of_regs _ _ hregs).trans hverifying, (fld_of_regs _ _ hregs).trans hstate, hstw, hevt, ?_,
    regsBut_of_regs hbut hregs⟩
  rw [hstw, hregs]
  refine hframe.trans ?_
  obtain ⟨r, rfl⟩ : ∃ r, x = { s with regs := r } := ⟨_, hx⟩
  rfl

theorem switchShown_switchReported : SwitchShown target code only s (s.switchReported target code only) := by
  have hset : s.verifyOff.fld stwB F.STW_STAT.VERIFYING = 0 := fld_setF_same s _ _ _ (by decide)
  have hstate : s.verifyOff.stwState = s.stwState :=
    fld_setF_other s (f := F.STW_STAT.VERIFYING) _ (by decide) (.inr (.inl (by decide)))
  exact .of_off (setF_frame ..) (regsBut_setF stwB F.STW_STAT.VERIFYING 0) hset hstate

theorem downloadEnds_of_none (h : s.stw.download = none) : s.downloadEnds code = s := by
  unfold State.downloadEnds
  rw [h]

theorem switchVerified_eq (h : s.stw.download = none) : s.switchVerified target only code =
    if code ≠ 0 then ((s.switchReported target code only).showFail target code).count (stwB + Ctr.STW.SWITCH_FAIL)
    else if only then s.switchReported target code only
    else (s.switchReported target code only).stwRestarting target 0 := by
  have hstw : (s.switchReported target code only).stw = { s.stw with verify := none } := switchShown_switchReported.stw
  have hnone : (s.switchReported target code only).stw.download = none := by
    rw [hstw]
    exact h
  have hends : (s.switchReported target code only).downloadEnds code = s.switchReported target code only :=
    downloadEnds_of_none hnone
  have hverified : s.switchVerified target only code =
      if code ≠ 0 then (((s.switchReported target code only).downloadEnds code).showFail target code).count
        (stwB + Ctr.STW.SWITCH_FAIL)
      else if only then (s.switchReported target code only).downloadEnds code
      else ((s.switchReported target code only).downloadEnds code).stwRestarting target 0 := by
    unfold State.switchVerified State.switchReported State.withStw StwState.noVerify State.verifyOff State.showFail failFld
    rfl
  rw [hverified, hends]

/-- A copy that SWITCH named has failed. -/
structure SwitchFailed (target code : Nat) (only : Bool) (s t : State) : Prop where
  verifying : t.fld stwB F.STW_STAT.VERIFYING = 0
  state : t.stwState = s.stwState
  stw : t.stw = { s.stw with verify := none }
  fail : t.fld aonB (failFld target) = code % 16
  last : t.fld stwB F.STW_STAT.LAST_FAIL = code % 16
  ctrs : t.ctrs = (s.count (stwB + Ctr.STW.SWITCH_FAIL)).ctrs
  evt : t.evt = (s.raise Ev.STW_FW_SWITCH 0x3F noInst [(1, target), (1, code), (1, b2n only)]).evt
  frame : t = { s with stw := t.stw, ctrs := t.ctrs, evt := t.evt, regs := t.regs }
  regs : RegsBut [aonB + 0x24, stwB + 0x4] s t

theorem SwitchShown.failed {x : State} (h : SwitchShown target code only s t) (hx : CodeShown target code t x) :
    SwitchFailed target code only s (x.count (stwB + Ctr.STW.SWITCH_FAIL)) := by
  have hxframe : x = { s with stw := t.stw, evt := t.evt, regs := x.regs } := by
    have hframe := hx.frame
    rw [h.frame] at hframe
    exact hframe
  have hctrs : (x.count (stwB + Ctr.STW.SWITCH_FAIL)).ctrs = (s.count (stwB + Ctr.STW.SWITCH_FAIL)).ctrs :=
    count_ctrs_congr (by rw [hxframe]) (by rw [hxframe]) (by rw [hxframe])
  have hxs : RegsBut [aonB + 0x24, stwB + 0x4] s x := regsBut_mono (regsBut_trans h.regs hx.regs) (by decide)
  refine ⟨(fld_count ..).trans ((hx.stat _ rfl (.inr (by decide))).trans h.verifying),
    (fld_count ..).trans ((hx.stat _ rfl (.inr (by decide))).trans h.state), ?_, (fld_count ..).trans hx.fail,
    (fld_count ..).trans hx.last, hctrs, ?_, ?_, regsBut_of_regs hxs (count_regs ..)⟩
  · rw [count_stw, hxframe]
    exact h.stw
  · rw [count_evt, hxframe]
    exact h.evt
  · rw [count_stw, count_evt, count_regs]
    refine (count_eq ..).trans ?_
    generalize (x.count (stwB + Ctr.STW.SWITCH_FAIL)).ctrs = c
    rw [hxframe]

theorem switchFailed_switchVerified (h : s.stw.download = none) (hcode : code ≠ 0) :
    SwitchFailed target code only s (s.switchVerified target only code) := by
  rw [switchVerified_eq h, if_pos hcode]
  exact switchShown_switchReported.failed codeShown_showFail

theorem switchShown_switchVerified (h : s.stw.download = none) :
    SwitchShown target 0 true s (s.switchVerified target true 0) := by
  rw [switchVerified_eq h, if_neg (fun hne => hne rfl), if_pos rfl]
  exact switchShown_switchReported

/-- A copy that SWITCH named is loaded and RESTART entered. -/
structure Switched (target : Nat) (s t : State) : Prop where
  state : t.stwState = 2
  core : CoreReset t
  stw : t.stw = { s.stw.loaded target with failed := 0 }
  grace : SMap.get (fun _ => 0) t.timers Tm.stwGrace = s.now + max 1 (s.fld stwB F.STW_CFG.GRACE) * msTicks + 1
  bens : OnlyBens s t
  frame : t = { s with
    out := t.out, freeNext := t.freeNext, stw := t.stw, pon := t.pon, evt := t.evt, timers := t.timers, regs := t.regs }
  timers : TimersBut [Tm.stwReady, Tm.stwWdog, Tm.stwGrace, Tm.omciHost] s t
  regs : RegsBut [stwB + 0x4, stwB + 0x8, pnB 0 + 0x104, pnB 1 + 0x104] s t

theorem SwitchShown.switched (h : SwitchShown target code only s t) (k : Restarted target t u) : Switched target s u := by
  have hnow : t.now = s.now := by rw [h.frame]
  have hcfg : t.fld stwB F.STW_CFG.GRACE = s.fld stwB F.STW_CFG.GRACE := fld_congr (h.regs _ (by decide))
  have htimers : t.timers = s.timers := by rw [h.frame]
  refine ⟨k.state, k.core, ?_, ?_, ?_, ?_, timersBut_trans (timersBut_of_eq _ htimers) k.timers,
    regsBut_mono (regsBut_trans h.regs k.regs) (by decide)⟩
  · rw [k.stw, h.stw]
    rfl
  · rw [k.grace, hnow, hcfg]
  · exact onlyBens_trans (onlyBens_of_eq (by rw [h.frame])) k.bens
  · obtain ⟨w, e, r, rfl⟩ : ∃ w e r, t = { s with stw := w, evt := e, regs := r } := ⟨_, _, _, h.frame⟩
    obtain ⟨n, r', v, e', p, w', o, rfl⟩ : ∃ n r' v e' p w' o, u = { s with
      freeNext := n, regs := r', timers := v, evt := e', pon := p, stw := w', out := o } :=
      ⟨_, _, _, _, _, _, _, k.frame⟩
    rfl

theorem switched_switchVerified (h : s.stw.download = none) (hrun : s.stwState = 1) :
    Switched target s (s.switchVerified target false 0) := by
  rw [switchVerified_eq h, if_neg (fun hne => hne rfl), if_neg (by decide)]
  exact switchShown_switchReported.switched (restarted_stwRestarting (switchShown_switchReported.state.trans hrun))

/-! ### The loader -/

/-- An image's firmware is starting. -/
def State.stwStarting (s : State) (bs : List Byte) : State :=
  { s with stw := { s.stw with starting := true, fwHash := sha384 (bytesAt bs 0 (imgLe bs 8 4 - 256)) } }

/-- A verified copy is started. -/
structure Started (bs : List Byte) (s t : State) : Prop where
  live : t.live 0x3F = true
  stw : t.stw = { s.stw with starting := true, fwHash := sha384 (bytesAt bs 0 (imgLe bs 8 4 - 256)) }
  timer : SMap.get (fun _ => 0) t.timers Tm.stwReady = s.now + 150 * msTicks + 1
  frame : t = { s with stw := t.stw, evt := t.evt, timers := t.timers, regs := t.regs }
  timers : TimersBut [Tm.stwReady] s t
  regs : RegsBut [aonB + 0x14] s t

theorem LiveSet.started {bs : List Byte} (h : LiveSet true s t) :
    Started bs s ((t.stwStarting bs).startTimer Tm.stwReady (150 * msTicks)) := by
  have hregs : (t.stwStarting bs).regs = t.regs := rfl
  have hnow : (t.stwStarting bs).now = s.now := by
    rw [h.frame]
    rfl
  have htimers : (t.stwStarting bs).timers = s.timers := by
    rw [h.frame]
    rfl
  have hstw : (t.stwStarting bs).stw =
      { s.stw with starting := true, fwHash := sha384 (bytesAt bs 0 (imgLe bs 8 4 - 256)) } := by
    rw [h.frame]
    rfl
  refine ⟨(live_startTimer ..).trans ((live_of_regs hregs _).trans h.live), (startTimer_stw ..).trans hstw,
    (timer_startTimer ..).trans (by rw [hnow]), ?_,
    timersBut_trans (timersBut_of_eq _ htimers) (timersBut_startTimer _ (by simp)),
    regsBut_of_regs h.regs ((startTimer_regs ..).trans hregs)⟩
  rw [startTimer_stw, startTimer_evt, startTimer_regs]
  refine (startTimer_frame ..).trans ?_
  generalize ((t.stwStarting bs).startTimer Tm.stwReady (150 * msTicks)).timers = v
  obtain ⟨e, r, rfl⟩ : ∃ e r, t = { s with evt := e, regs := r } := ⟨_, _, h.frame⟩
  rfl

theorem started_fwStart (bs : List Byte) : Started bs s (s.fwStart bs) := (liveSet_setLive true).started

end Sys2Proof.Machine
end

section
/-! Proof support: the Steward's commands (R393 to R398), as the functions of the state they run. -/

namespace Sys2Proof.Machine

variable {s t u : State} {m : Master} {P : State → Prop}

/-! ### Commands -/

theorem does_stwReadyWrite (h : s.reaches m (stwB + 0x08) = true) (hp : P (if m = .steward then s.stwReady else s)) :
    Does (.stwReadyWrite m) s P :=
  ⟨_, congrArg Host.Outcome.next (onWrite_of_reaches (fun s => if m = .steward then s.stwReady else s) h), hp⟩

theorem does_stwReadyTimeout (h : s.timerOn Tm.stwReady = true) (hp : P ((s.atEnd Tm.stwReady).fwFail 0xC)) :
    Does .stwReadyTimeout s P :=
  ⟨_, congrArg Host.Outcome.next (expire_of_on (fun s => s.fwFail 0xC) h), hp⟩

theorem does_stwWdogKick (h : s.reaches m (stwB + 0x10) = true)
    (hp : P (if m = .steward && decide (s.stwState = 1) then s.kickWdog else s)) : Does (.stwWdogKick m) s P :=
  ⟨_, congrArg Host.Outcome.next
    (onWrite_of_reaches (fun s => if m = .steward && decide (s.stwState = 1) then s.kickWdog else s) h), hp⟩

/-- An expiry of the watchdog is counted and reported. -/
def State.wdogReported (s : State) : State :=
  (s.count (stwB + Ctr.STW.WDOG_EXP)).raise Ev.STW_WDOG 0x3F noInst [(1, s.stw.copy), (1, s.recentRestarts.length)]

theorem wdogReported_eq : ((s.count (stwB + Ctr.STW.WDOG_EXP)).raise Ev.STW_WDOG 0x3F noInst
    [(1, (s.count (stwB + Ctr.STW.WDOG_EXP)).stw.copy), (1, (s.count (stwB + Ctr.STW.WDOG_EXP)).recentRestarts.length)]) =
      s.wdogReported := by
  have hrecent : (s.count (stwB + Ctr.STW.WDOG_EXP)).recentRestarts = s.recentRestarts := by
    unfold State.recentRestarts
    rw [count_stw, count_now]
  unfold State.wdogReported
  rw [hrecent, count_stw]

theorem does_stwWdogExpiry (h : s.timerOn Tm.stwWdog = true) (hp : P (s.atEnd Tm.stwWdog).wdogReported.stwDrain) :
    Does .stwWdogExpiry s P := by
  rw [← wdogReported_eq] at hp
  exact ⟨_, congrArg Host.Outcome.next (expire_of_on _ h), hp⟩

theorem does_stwRestartCmd {key : BitVec 16} (h : s.reaches m stwB = true) (hp : P (s.wrStwCtrl (key.toNat * 65536 + 2))) :
    Does (.stwRestartCmd m key) s P :=
  ⟨_, congrArg Host.Outcome.next (onWrite_of_reaches (fun s => s.wrStwCtrl (key.toNat * 65536 + 2)) h), hp⟩

theorem does_stwSwitchCmd {key : BitVec 16} {target only : Bool} (h : s.reaches m stwB = true)
    (hp : P (s.wrStwCtrl (key.toNat * 65536 + b2n target * 256 + b2n only * 4 + 1))) :
    Does (.stwSwitchCmd m key target only) s P :=
  ⟨_, congrArg Host.Outcome.next (onWrite_of_reaches
    (fun s => s.wrStwCtrl (key.toNat * 65536 + b2n target * 256 + b2n only * 4 + 1)) h), hp⟩

theorem does_stwGraceExpiry (h : s.timerOn Tm.stwGrace = true)
    (hp : P (if (s.atEnd Tm.stwGrace).stwState ≠ 2 then s.atEnd Tm.stwGrace
      else (s.atEnd Tm.stwGrace).stwForget.stwGo 3)) : Does .stwGraceExpiry s P :=
  ⟨_, congrArg Host.Outcome.next (expire_of_on (fun s => if s.stwState ≠ 2 then s else s.stwForget.stwGo 3) h), hp⟩

/-- The end of a verification, with the flash settled. -/
def State.verifyEnds (s : State) (image : Option (List Byte)) : State :=
  match s.stw.verify with
  | some (k, only) =>
    let img := image.map (s.flashRead (fwBase k))
    (s.fwSeen k (s.fwCode img) img).switchVerified k only (s.fwCode img)
  | none =>
    if !s.fwLoading then s
    else
      let img := image.map (s.flashRead (fwBase s.stw.copy))
      let code := s.fwCode img
      let s := s.fwSeen s.stw.copy code img
      if code = 0 then s.fwStart (img.getD []) else s.fwFail code

theorem does_fwVerifyDone {image : Option (List Byte)} (hp : P (s.flashSettle.verifyEnds image)) :
    Does (.fwVerifyDone image) s P := ⟨_, rfl, hp⟩

/-! ### Writes of STW_CTRL -/

theorem key_of {n x : Nat} (hn : n < 65536) (hx : x < 65536) : F.STW_CTRL.KEY.of (n * 65536 + x) = n := by
  have h : F.STW_CTRL.KEY.of (n * 65536 + x) = (n * 65536 + x) / 65536 % 65536 := rfl
  omega

theorem wrStwCtrl_of_wrong_key {v : Nat} (h : F.STW_CTRL.KEY.of v ≠ 0xA5C3) : s.wrStwCtrl v = s := if_pos h

theorem wrStwCtrl_of_restart {v : Nat} (hkey : F.STW_CTRL.KEY.of v = 0xA5C3) (hrestart : F.STW_CTRL.RESTART.of v = 1)
    (hswitch : F.STW_CTRL.SWITCH.of v = 0) : s.wrStwCtrl v = s.stwDrain := by
  have hnot : ¬ F.STW_CTRL.KEY.of v ≠ 0xA5C3 := fun hne => hne hkey
  unfold State.wrStwCtrl
  rw [if_neg hnot]
  dsimp only
  rw [if_pos hrestart]
  exact if_pos (.inl hswitch)

theorem wrStwCtrl_of_switch {v : Nat} (hkey : F.STW_CTRL.KEY.of v = 0xA5C3) (hrestart : F.STW_CTRL.RESTART.of v = 0) :
    s.wrStwCtrl v = if F.STW_CTRL.SWITCH.of v = 0 ∨ s.stwState ≠ 1 ∨ s.stw.verify.isSome = true then s
      else (s.withStw { s.stw with
        verify := some (F.STW_CTRL.TARGET.of v, decide (F.STW_CTRL.VERIFY_ONLY.of v = 1)) }).setF stwB
          F.STW_STAT.VERIFYING 1 := by
  have hnot : ¬ F.STW_CTRL.KEY.of v ≠ 0xA5C3 := fun hne => hne hkey
  have hno : ¬ F.STW_CTRL.RESTART.of v = 1 := by
    rw [hrestart]
    decide
  unfold State.wrStwCtrl
  rw [if_neg hnot]
  dsimp only
  rw [if_neg hno]
  rfl

theorem switchCmd_fields (n : Nat) (target only : Bool) :
    F.STW_CTRL.RESTART.of (n * 65536 + b2n target * 256 + b2n only * 4 + 1) = 0 ∧
      F.STW_CTRL.SWITCH.of (n * 65536 + b2n target * 256 + b2n only * 4 + 1) = 1 ∧
      F.STW_CTRL.TARGET.of (n * 65536 + b2n target * 256 + b2n only * 4 + 1) = b2n target ∧
      decide (F.STW_CTRL.VERIFY_ONLY.of (n * 65536 + b2n target * 256 + b2n only * 4 + 1) = 1) = only := by
  have hb : ∀ b : Bool, b2n b < 2 := by decide
  have htarget := hb target
  have honly := hb only
  have hdecide : decide (b2n only = 1) = only := by
    cases only
    · rfl
    · rfl
  generalize b2n target = x at *
  generalize b2n only = y at *
  have hrestart : F.STW_CTRL.RESTART.of (n * 65536 + x * 256 + y * 4 + 1) = (n * 65536 + x * 256 + y * 4 + 1) / 2 % 2 := rfl
  have hswitch : F.STW_CTRL.SWITCH.of (n * 65536 + x * 256 + y * 4 + 1) = (n * 65536 + x * 256 + y * 4 + 1) / 1 % 2 := rfl
  have htgt : F.STW_CTRL.TARGET.of (n * 65536 + x * 256 + y * 4 + 1) = (n * 65536 + x * 256 + y * 4 + 1) / 256 % 2 := rfl
  have hvo : F.STW_CTRL.VERIFY_ONLY.of (n * 65536 + x * 256 + y * 4 + 1) = (n * 65536 + x * 256 + y * 4 + 1) / 4 % 2 := rfl
  refine ⟨by omega, by omega, by omega, ?_⟩
  have hy : F.STW_CTRL.VERIFY_ONLY.of (n * 65536 + x * 256 + y * 4 + 1) = y := by omega
  rw [hy, hdecide]

theorem restartCmd_fields (n : Nat) :
    F.STW_CTRL.RESTART.of (n * 65536 + 2) = 1 ∧ F.STW_CTRL.SWITCH.of (n * 65536 + 2) = 0 := by
  have hrestart : F.STW_CTRL.RESTART.of (n * 65536 + 2) = (n * 65536 + 2) / 2 % 2 := rfl
  have hswitch : F.STW_CTRL.SWITCH.of (n * 65536 + 2) = (n * 65536 + 2) / 1 % 2 := rfl
  omega

theorem key_of_cmd {key : BitVec 16} {x : Nat} (hkey : key = 0xA5C3) (hx : x < 65536) :
    F.STW_CTRL.KEY.of (key.toNat * 65536 + x) = 0xA5C3 := by
  rw [key_of key.isLt hx, hkey]
  rfl

theorem key_of_other_cmd {key : BitVec 16} {x : Nat} (hkey : key ≠ 0xA5C3) (hx : x < 65536) :
    F.STW_CTRL.KEY.of (key.toNat * 65536 + x) ≠ 0xA5C3 := by
  rw [key_of key.isLt hx]
  exact fun e => hkey (BitVec.eq_of_toNat_eq e)

/-- What STW_CTRL holds below its key at a SWITCH. -/
def switchBits (target only : Bool) : Nat := b2n target * 256 + b2n only * 4 + 1

theorem switchBits_lt (target only : Bool) : switchBits target only < 65536 := by
  revert target only
  decide

theorem switchCmd_eq (n : Nat) (target only : Bool) :
    n * 65536 + b2n target * 256 + b2n only * 4 + 1 = n * 65536 + switchBits target only := by
  unfold switchBits
  omega

theorem wrStwCtrl_of_switchCmd {key : BitVec 16} {target only : Bool} (hkey : key = 0xA5C3) :
    s.wrStwCtrl (key.toNat * 65536 + b2n target * 256 + b2n only * 4 + 1) =
      if s.stwState ≠ 1 ∨ s.stw.verify.isSome = true then s
      else (s.withStw { s.stw with verify := some (b2n target, only) }).setF stwB F.STW_STAT.VERIFYING 1 := by
  obtain ⟨hrestart, hswitch, htarget, honly⟩ := switchCmd_fields key.toNat target only
  have hkeyed : F.STW_CTRL.KEY.of (key.toNat * 65536 + b2n target * 256 + b2n only * 4 + 1) = 0xA5C3 := by
    rw [switchCmd_eq]
    exact key_of_cmd hkey (switchBits_lt ..)
  have hone : ¬ (1 : Nat) = 0 := by decide
  rw [wrStwCtrl_of_switch hkeyed hrestart, hswitch, htarget, honly]
  simp only [hone, false_or]

theorem wrStwCtrl_of_other_switchCmd {key : BitVec 16} {target only : Bool} (hkey : key ≠ 0xA5C3) :
    s.wrStwCtrl (key.toNat * 65536 + b2n target * 256 + b2n only * 4 + 1) = s := by
  rw [switchCmd_eq]
  exact wrStwCtrl_of_wrong_key (key_of_other_cmd hkey (switchBits_lt ..))

/-- A verification that begins. -/
structure SwitchBegun (w : StwState) (s t : State) : Prop where
  stw : t.stw = w
  verifying : t.bit stwB F.STW_STAT.VERIFYING = true
  frame : t = { s with stw := t.stw, regs := t.regs }
  regs : RegsBut [stwB + 0x4] s t

theorem switchBegun_setF (w : StwState) : SwitchBegun w s ((s.withStw w).setF stwB F.STW_STAT.VERIFYING 1) where
  stw := setF_stw ..
  verifying := by
    have hset : ((s.withStw w).setF stwB F.STW_STAT.VERIFYING 1).fld stwB F.STW_STAT.VERIFYING = 1 :=
      fld_setF_same (s.withStw w) _ _ _ (by decide)
    exact congrArg (· != 0) hset
  frame := by
    rw [setF_stw]
    exact setF_frame ..
  regs a ha := (regsBut_setF (s := s.withStw w) stwB F.STW_STAT.VERIFYING 1 a ha).trans
    (congrArg (fun m => SMap.get resetWord m a) (rfl : (s.withStw w).regs = s.regs))

end Sys2Proof.Machine
end

section
/-! Proof support: what the end of a verification leaves of the state in which the flash has settled (R394, R398, R401). -/

namespace Sys2Proof.Machine

variable {s t y : State} {k code target : Nat} {only : Bool} {img : Option (List Byte)} {image : Option (List Byte)}
  {W : StwState}

/-! ### The result is kept -/

/-- The Steward's part with a verification's result kept. -/
def StwState.seen (w : StwState) (k code : Nat) (img : Option (List Byte)) : StwState :=
  { w with
    valid := Nat.lor w.valid (2 ^ k) - (if code = 0 then 0 else 2 ^ k)
    floors := SMap.set (fun _ => 0) w.floors k (if code = 0 then imgLe (img.getD []) 0x18 4 else 0) }

theorem fwSeen_eq : s.fwSeen k code img = s.withStw (s.stw.seen k code img) := by
  unfold State.fwSeen State.withStw StwState.seen
  rfl

/-! ### A settled flash shows nowhere else -/

section Settled

variable (hy : y = { s with flash := y.flash })

include hy

theorem regs_of_settled : y.regs = s.regs := by rw [hy]

theorem stw_of_settled : y.stw = s.stw := by rw [hy]

theorem regs_withStw_of_settled : (y.withStw W).regs = s.regs := regs_of_settled (y := y) hy

theorem raise_of_settled (src isl inst : Nat) (fs : List (Nat × Nat)) :
    ((y.withStw W).raise src isl inst fs).evt = (s.raise src isl inst fs).evt := by
  refine raise_evt_congr ?_ (live_of_regs (regs_withStw_of_settled hy) _) ..
  rw [hy]
  rfl

theorem count_of_settled (a n : Nat) : ((y.withStw W).count a n).ctrs = (s.count a n).ctrs := by
  rw [hy]
  exact count_ctrs_congr rfl rfl rfl

theorem fld_of_settled (b : Nat) (f : Fld) : (y.withStw W).fld b f = s.fld b f := fld_of_regs _ _ (regs_withStw_of_settled hy)

theorem now_of_settled : (y.withStw W).now = s.now := by
  rw [hy]
  rfl

theorem timers_of_settled : y.timers = s.timers := by rw [hy]

theorem bens_of_settled (h : OnlyBens (y.withStw W) t) : OnlyBens s t := by
  rw [hy] at h
  exact h

end Settled

/-! ### SWITCH -/

/-- What the end of a verification that SWITCH began leaves, whatever its outcome. -/
structure SwitchEnded (W : StwState) (y t : State) : Prop where
  verifying : t.bit stwB F.STW_STAT.VERIFYING = false
  valid : t.stw.valid = W.valid
  floors : t.stw.floors = W.floors
  bens : OnlyBens (y.withStw W) t
  frame : t = { y with
    out := t.out, freeNext := t.freeNext, stw := t.stw, pon := t.pon, ctrs := t.ctrs, evt := t.evt, timers := t.timers,
    regs := t.regs }
  timers : TimersBut [Tm.stwReady, Tm.stwWdog, Tm.stwGrace, Tm.omciHost] y t
  regs : RegsBut [aonB + 0x24, stwB + 0x4, stwB + 0x8, pnB 0 + 0x104, pnB 1 + 0x104] y t

theorem SwitchFailed.ended (h : SwitchFailed target code only (y.withStw W) t) : SwitchEnded W y t where
  verifying := bit_of_fld h.verifying
  valid := by
    rw [h.stw]
    rfl
  floors := by
    rw [h.stw]
    rfl
  bens := onlyBens_of_eq (by rw [h.frame])
  frame := by
    obtain ⟨w, c, e, r, rfl⟩ : ∃ w c e r, t = { y with stw := w, ctrs := c, evt := e, regs := r } :=
      ⟨_, _, _, _, h.frame⟩
    rfl
  timers := timersBut_of_eq _ (by rw [h.frame]; rfl)
  regs := regsBut_mono (fun a ha => h.regs a ha) (by decide)

theorem SwitchShown.ended (h : SwitchShown target code only (y.withStw W) t) : SwitchEnded W y t where
  verifying := bit_of_fld h.verifying
  valid := by
    rw [h.stw]
    rfl
  floors := by
    rw [h.stw]
    rfl
  bens := onlyBens_of_eq (by rw [h.frame])
  frame := by
    obtain ⟨w, e, r, rfl⟩ : ∃ w e r, t = { y with stw := w, evt := e, regs := r } := ⟨_, _, _, h.frame⟩
    rfl
  timers := timersBut_of_eq _ (by rw [h.frame]; rfl)
  regs := regsBut_mono (fun a ha => h.regs a ha) (by decide)

theorem Switched.ended (h : Switched target (y.withStw W) t) : SwitchEnded W y t where
  verifying := h.core.2.1
  valid := by
    rw [h.stw]
    rfl
  floors := by
    rw [h.stw]
    rfl
  bens := h.bens
  frame := by
    obtain ⟨o, n, w, p, e, v, r, rfl⟩ : ∃ o n w p e v r, t = { y with
      out := o, freeNext := n, stw := w, pon := p, evt := e, timers := v, regs := r } :=
      ⟨_, _, _, _, _, _, _, h.frame⟩
    rfl
  timers i hi := h.timers i hi
  regs := regsBut_mono (fun a ha => h.regs a ha) (by decide)

theorem verifyEnds_of_switch (hy : y = { s with flash := y.flash }) (h : s.stw.verify = some (target, only)) :
    y.verifyEnds image = (y.withStw (s.stw.seen target (s.fwCode (image.map (y.flashRead (fwBase target))))
      (image.map (y.flashRead (fwBase target))))).switchVerified target only
        (s.fwCode (image.map (y.flashRead (fwBase target)))) := by
  have hverify : y.stw.verify = some (target, only) := by rw [stw_of_settled hy, h]
  unfold State.verifyEnds
  rw [hverify]
  dsimp only
  rw [fwCode_congr (regs_of_settled hy), fwSeen_eq, stw_of_settled hy]

/-- What a verification that SWITCH began leaves for each outcome. -/
structure SwitchResult (target code : Nat) (only : Bool) (W : StwState) (y t : State) : Prop where
  ended : SwitchEnded W y t
  failed : code ≠ 0 → SwitchFailed target code only (y.withStw W) t
  verified : code = 0 → only = true → SwitchShown target 0 true (y.withStw W) t
  switched : code = 0 → only = false → Switched target (y.withStw W) t

theorem switchResult_switchVerified (hdownload : W.download = none) (hrun : y.stwState = 1) :
    SwitchResult target code only W y ((y.withStw W).switchVerified target only code) := by
  have hnone : (y.withStw W).stw.download = none := hdownload
  have hregs : (y.withStw W).regs = y.regs := rfl
  have hstate : (y.withStw W).stwState = 1 := (fld_of_regs _ _ hregs).trans hrun
  by_cases hcode : code = 0
  · subst hcode
    cases only with
    | false =>
      have h := switched_switchVerified (target := target) hnone hstate
      exact ⟨h.ended, fun hne => absurd rfl hne, fun _ hne => absurd hne (by decide), fun _ _ => h⟩
    | true =>
      have h := switchShown_switchVerified (target := target) hnone
      exact ⟨h.ended, fun hne => absurd rfl hne, fun _ _ => h, fun _ hne => absurd hne (by decide)⟩
  · have h := switchFailed_switchVerified (target := target) (only := only) hnone hcode
    exact ⟨h.ended, fun _ => h, fun h0 => absurd h0 hcode, fun h0 => absurd h0 hcode⟩

/-- A verification's result changes nothing else of the Steward's part. -/
theorem noVerify_seen {w w' : StwState} (h : w' = { w.seen k code img with verify := none }) :
    w' = { w with verify := none, valid := w'.valid, floors := w'.floors } := by
  rw [h]
  rfl

theorem SwitchFailed.settled (hy : y = { s with flash := y.flash }) (hrun : s.stwState = 1) (hlt : code < 16)
    (h : SwitchFailed target code only (y.withStw (s.stw.seen k code img)) t) :
    t.stw = { s.stw with verify := none, valid := t.stw.valid, floors := t.stw.floors } ∧
      t.fld aonB (failFld target) = code ∧ t.fld stwB F.STW_STAT.LAST_FAIL = code ∧
      t.ctrs = (s.count (stwB + Ctr.STW.SWITCH_FAIL)).ctrs ∧
      t.evt = (s.raise Ev.STW_FW_SWITCH 0x3F noInst [(1, target), (1, code), (1, b2n only)]).evt ∧ t.stwState = 1 ∧
      t.timers = s.timers := by
  have htimers : t.timers = s.timers := by
    rw [h.frame]
    exact timers_of_settled (y := y) hy
  exact ⟨noVerify_seen h.stw, h.fail.trans (Nat.mod_eq_of_lt hlt), h.last.trans (Nat.mod_eq_of_lt hlt),
    h.ctrs.trans (count_of_settled hy _ _), h.evt.trans (raise_of_settled hy _ _ _ _),
    h.state.trans ((fld_of_settled hy _ _).trans hrun), htimers⟩

theorem SwitchShown.settled (hy : y = { s with flash := y.flash }) (hrun : s.stwState = 1)
    (h : SwitchShown target 0 true (y.withStw (s.stw.seen k code img)) t) :
    t.stw = { s.stw with verify := none, valid := t.stw.valid, floors := t.stw.floors } ∧ t.stwState = 1 ∧
      t.timers = s.timers ∧ t.evt = (s.raise Ev.STW_FW_SWITCH 0x3F noInst [(1, target), (1, 0), (1, 1)]).evt := by
  have htimers : t.timers = s.timers := by
    rw [h.frame]
    exact timers_of_settled (y := y) hy
  exact ⟨noVerify_seen h.stw, h.state.trans ((fld_of_settled hy _ _).trans hrun), htimers,
    h.evt.trans (raise_of_settled hy _ _ _ _)⟩

theorem Switched.settled (hy : y = { s with flash := y.flash })
    (h : Switched target (y.withStw (s.stw.seen k code img)) t) :
    t.stwState = 2 ∧ t.stw.copy = target ∧ t.stw.failed = 0 ∧
      SMap.get (fun _ => 0) t.timers Tm.stwGrace = s.now + max 1 (s.fld stwB F.STW_CFG.GRACE) * msTicks + 1 := by
  refine ⟨h.state, ?_, ?_, h.grace.trans ?_⟩
  · rw [h.stw]
    rfl
  · rw [h.stw]
  · rw [now_of_settled hy, fld_of_settled hy]

/-! ### The loader -/

theorem fwLoading_congr (hregs : t.regs = s.regs) (hstw : t.stw = s.stw) : t.fwLoading = s.fwLoading := by
  have hstate : t.stwState = s.stwState := fld_of_regs _ _ hregs
  have hstage : t.stage = s.stage := fld_of_regs _ _ hregs
  unfold State.fwLoading
  rw [hstw, hstate, hstage, live_of_regs hregs]

theorem verifyEnds_of_load (hy : y = { s with flash := y.flash }) (h : s.stw.verify = none) (hload : s.fwLoading = true) :
    y.verifyEnds image =
      if s.fwCode (image.map (y.flashRead (fwBase s.stw.copy))) = 0 then
        (y.withStw (s.stw.seen s.stw.copy (s.fwCode (image.map (y.flashRead (fwBase s.stw.copy))))
          (image.map (y.flashRead (fwBase s.stw.copy))))).fwStart ((image.map (y.flashRead (fwBase s.stw.copy))).getD [])
      else (y.withStw (s.stw.seen s.stw.copy (s.fwCode (image.map (y.flashRead (fwBase s.stw.copy))))
        (image.map (y.flashRead (fwBase s.stw.copy))))).fwFail
          (s.fwCode (image.map (y.flashRead (fwBase s.stw.copy)))) := by
  have hstw := stw_of_settled hy
  have hverify : y.stw.verify = none := by rw [hstw, h]
  have hloads : ¬ (!y.fwLoading) = true := by
    rw [fwLoading_congr (regs_of_settled hy) hstw, hload]
    decide
  unfold State.verifyEnds
  rw [hverify]
  dsimp only
  rw [if_neg hloads, fwCode_congr (regs_of_settled hy), fwSeen_eq, hstw]

theorem verifyEnds_of_none (hy : y = { s with flash := y.flash }) (h : s.stw.verify = none) (hload : s.fwLoading = false) :
    y.verifyEnds image = y := by
  have hstw := stw_of_settled hy
  have hverify : y.stw.verify = none := by rw [hstw, h]
  have hloads : (!y.fwLoading) = true := by
    rw [fwLoading_congr (regs_of_settled hy) hstw, hload]
    decide
  unfold State.verifyEnds
  rw [hverify]
  exact if_pos hloads

/-- What the end of a verification that the loader waits for leaves, whatever its outcome. -/
structure LoadEnded (W : StwState) (y t : State) : Prop where
  valid : t.stw.valid = W.valid
  floors : t.stw.floors = W.floors
  frame : t = { y with stw := t.stw, evt := t.evt, timers := t.timers, regs := t.regs }
  timers : TimersBut [Tm.stwReady, Tm.stwWdog, Tm.omciHost] y t
  regs : RegsBut [aonB + 0x24, aonB + 0x14, stwB + 0x4, stwB + 0x8] y t

theorem Started.ended {bs : List Byte} (h : Started bs (y.withStw W) t) : LoadEnded W y t where
  valid := by
    rw [h.stw]
    rfl
  floors := by
    rw [h.stw]
    rfl
  frame := h.frame
  timers := timersBut_mono (fun i hi => h.timers i hi) (by decide)
  regs := regsBut_mono (fun a ha => h.regs a ha) (by decide)

theorem FailedOver.ended (h : FailedOver code (y.withStw W) t) : LoadEnded W y t where
  valid := by
    rw [h.stw]
    rfl
  floors := by
    rw [h.stw]
    rfl
  frame := h.frame
  timers i hi := h.timers i hi
  regs := regsBut_mono (fun a ha => h.regs a ha) (by decide)

/-- What a verification that the loader waits for leaves for each outcome. -/
structure LoadResult (code : Nat) (bs : List Byte) (W : StwState) (y t : State) : Prop where
  ended : LoadEnded W y t
  failed : code ≠ 0 → FailedOver code (y.withStw W) t
  started : code = 0 → Started bs (y.withStw W) t

theorem loadResult_of_code (bs : List Byte) (h : W.failed.testBit (1 - W.copy) = false) :
    LoadResult code bs W y (if code = 0 then (y.withStw W).fwStart bs else (y.withStw W).fwFail code) := by
  have hother : (y.withStw W).otherUsable = true := congrArg (!·) h
  split
  · next hcode =>
    have hstarted := started_fwStart (s := y.withStw W) bs
    exact ⟨hstarted.ended, fun hne => absurd hcode hne, fun _ => hstarted⟩
  · next hcode =>
    have hfailed := failedOver_fwFail (code := code) hother
    exact ⟨hfailed.ended, fun _ => hfailed, fun h0 => absurd h0 hcode⟩

theorem FailedOver.settled (hverify : s.stw.verify = none) (hlt : code < 16)
    (h : FailedOver code (y.withStw (s.stw.seen s.stw.copy code img)) t) :
    t.stw = { s.stw with
        copy := 1 - s.stw.copy, starting := false, fwHash := 0, waitHost := none, mbWait := [], todArm := ⟨false, false⟩,
        download := none, failed := Nat.lor s.stw.failed (2 ^ s.stw.copy), valid := t.stw.valid, floors := t.stw.floors } ∧
      t.fld aonB (failFld s.stw.copy) = code ∧ t.fld stwB F.STW_STAT.LAST_FAIL = code ∧ CoreReset t := by
  refine ⟨?_, h.fail.trans (Nat.mod_eq_of_lt hlt), h.last.trans (Nat.mod_eq_of_lt hlt), h.core⟩
  rw [h.stw]
  simp only [State.withStw, StwState.seen, StwState.loaded, hverify]

theorem Started.settled {bs : List Byte} (hy : y = { s with flash := y.flash })
    (h : Started bs (y.withStw (s.stw.seen k code img)) t) :
    t.stw = { s.stw with
        starting := true, fwHash := sha384 (bytesAt bs 0 (imgLe bs 8 4 - 256)), valid := t.stw.valid,
        floors := t.stw.floors } ∧
      t.live 0x3F = true ∧ SMap.get (fun _ => 0) t.timers Tm.stwReady = s.now + 150 * msTicks + 1 := by
  refine ⟨?_, h.live, h.timer.trans (by rw [now_of_settled hy])⟩
  rw [h.stw]
  rfl

end Sys2Proof.Machine
end

section
/-! Proof that the Steward's firmware starts, restarts and is switched as stated (O48). -/

namespace Sys2Proof.Machine

variable {s t : State} {m : Master}

/-! ### Held PLOAM messages -/

theorem setPn_self (c : Nat) : s.setPn c (s.pn c) = s := by
  have hset : ∀ (p : Pair PonState) (i : Fin 2), p.set i (p.get i) = p := by
    intro p i
    unfold Pair.set Pair.get
    split
    · rfl
    · rfl
  unfold State.setPn State.pn
  rw [hset]

/-- Where no message is held, none is delivered. -/
theorem stwDeliver_of_none {c : Nat} (h : (s.pn c).stwPloam = []) : s.stwDeliver c = s := by
  have hself : { s.pn c with stwPloam := [] } = s.pn c := by rw [← h]
  unfold State.stwDeliver
  dsimp only
  rw [hself, setPn_self, h]
  rfl

theorem Running.none_held (h : Running s t) (h0 : (s.pn 0).stwPloam = []) (h1 : (s.pn 1).stwPloam = []) :
    (t.stwDeliver 0).stwDeliver 1 = t := by
  have hpon := h.pon
  have h0' : (t.pn 0).stwPloam = [] := by
    unfold State.pn
    rw [hpon]
    exact h0
  have h1' : (t.pn 1).stwPloam = [] := by
    unfold State.pn
    rw [hpon]
    exact h1
  rw [stwDeliver_of_none h0', stwDeliver_of_none h1']

theorem Running.pon_none_held (h : Running s t) (h0 : (s.pn 0).stwPloam = []) (h1 : (s.pn 1).stwPloam = []) :
    t.pon = ⟨{ s.pon.a with benTill := t.pon.a.benTill, stwPloam := [] },
      { s.pon.b with benTill := t.pon.b.benTill, stwPloam := [] }⟩ := by
  have hnone : ∀ (p : PonState) (x : Option Nat), p.stwPloam = [] →
      { p with benTill := x, stwPloam := [] } = { p with benTill := x } := by
    intro p x hp
    rw [← hp]
  rw [hnone s.pon.a _ h0, hnone s.pon.b _ h1]
  exact h.pon

theorem stwReady_of_load (hstarting : s.stw.starting = true) (h2 : s.stwState ≠ 2) : s.stwReady = s.stwReadied.stwGo 1 := by
  rw [stwReady_eq hstarting, readied_stwReadied.state, if_neg h2]

theorem stwReady_of_restart (hstarting : s.stw.starting = true) (h2 : s.stwState = 2) (h0 : (s.pn 0).stwPloam = [])
    (h1 : (s.pn 1).stwPloam = []) : s.stwReady = s.stwReadied.stwGo 1 := by
  have hrun : Running s (s.stwReadied.stwGo 1) := running_stwGo (by rw [h2]; decide)
  rw [stwReady_eq hstarting, readied_stwReadied.state, if_pos h2, hrun.none_held h0 h1]

/-! ### The watchdog's expiry -/

theorem wdogReported_frame : s.wdogReported = { s with ctrs := s.wdogReported.ctrs, evt := s.wdogReported.evt } := by
  have hctrs : s.wdogReported.ctrs = (s.count (stwB + Ctr.STW.WDOG_EXP)).ctrs := raise_ctrs ..
  have hraise : s.wdogReported = { s.count (stwB + Ctr.STW.WDOG_EXP) with evt := s.wdogReported.evt } := raise_eq ..
  rw [hctrs]
  refine hraise.trans ?_
  generalize s.wdogReported.evt = e
  rw [count_eq]

theorem wdogReported_evt : s.wdogReported.evt =
    (s.raise Ev.STW_WDOG 0x3F noInst [(1, s.stw.copy), (1, s.recentRestarts.length)]).evt :=
  raise_evt_congr (count_evt ..) (live_count ..) ..

/-- A drain of a state whose counters and events alone differ. -/
theorem Drained.of_eq {c w : State} (h : Drained w w t) (hw : w = { s with ctrs := w.ctrs, evt := w.evt })
    (hctrs : w.ctrs = c.ctrs) (hcounting : c.counting = s.counting) (hmc : c.mcCounting = s.mcCounting) :
    Drained c s t := by
  have hregs : w.regs = s.regs := by rw [hw]
  have hnow : w.now = s.now := by rw [hw]
  have hstw : w.stw = s.stw := by rw [hw]
  have hfree : w.freeNext = s.freeNext := by rw [hw]
  have hdraining : w.draining = s.draining := by rw [hw]
  have hpon : w.pon = s.pon := by rw [hw]
  have hflight : w.stwInFlight = s.stwInFlight := by
    unfold State.stwInFlight
    rw [hstw]
  obtain ⟨hstate, hgrace, htstw, hcore, hrestarts, htdraining, hisl, hcause, hdiscarded, htfree, htctrs, hbens, htpon, hframe,
    htimers, htregs⟩ := h
  rw [hnow, fld_of_regs _ _ hregs] at hgrace
  rw [restartCopy_congr hnow hstw, restartsNow_congr hnow hstw, hstw] at htstw
  rw [restartsNow_congr hnow hstw] at hrestarts
  rw [hdraining] at htdraining
  rw [hfree] at hcause htfree
  rw [hflight] at hdiscarded
  rw [hpon] at htpon
  refine ⟨hstate, hgrace, htstw, hcore, hrestarts, htdraining, hisl, hcause, hdiscarded, htfree, htctrs.trans ?_, ?_, htpon, ?_,
    timersBut_trans (timersBut_of_eq _ (by rw [hw])) htimers,
    fun a ha => (htregs a ha).trans (congrArg (fun m => SMap.get resetWord m a) hregs)⟩
  · refine count_ctrs_congr (count_ctrs_congr hctrs ?_ ?_) ?_ ?_
    · rw [hw, hcounting]
    · rw [hw, hmc]
    · rw [count_counting, count_counting, hcounting, hw]
    · rw [count_mcCounting, count_mcCounting, hmc, hw]
  · rw [hw] at hbens
    exact hbens
  · rw [hw] at hframe
    exact hframe

theorem drained_wdogReported (hrun : s.stwState = 1) (hdraining : s.draining.contains 0x3F = false) :
    Drained (s.count (stwB + Ctr.STW.WDOG_EXP)) s s.wdogReported.stwDrain := by
  have hregs : s.wdogReported.regs = s.regs := (raise_regs ..).trans (count_regs ..)
  have hdrain : s.wdogReported.draining = s.draining := (raise_draining ..).trans (count_draining ..)
  exact (drained_stwDrain ((fld_of_regs _ _ hregs).trans hrun) (by rw [hdrain, hdraining])).of_eq wdogReported_frame
    (raise_ctrs ..) (count_counting ..) (count_mcCounting ..)

end Sys2Proof.Machine
end

section
/-! Proof that the Steward's firmware starts, restarts and is switched as stated (O48). -/

namespace Sys2Proof.Machine

variable {s : State} {code : Nat}

/-! ### The state at a timer's end -/

theorem otherUsable_atEnd (id : Nat) : (s.atEnd id).otherUsable = !s.stw.failed.testBit (1 - s.stw.copy) := by
  unfold State.otherUsable
  rw [atEnd_stw]

theorem state_atEnd (id : Nat) : (s.atEnd id).stwState = s.stwState := fld_atEnd id (by decide)

theorem stage_atEnd (id : Nat) : (s.atEnd id).stage = s.stage := fld_atEnd id (by decide)

theorem inh_atEnd (id c : Nat) (h : isClocked (pnB c + F.PN_US_STAT.INH.off) = false) :
    (s.atEnd id).pf c F.PN_US_STAT.INH = s.pf c F.PN_US_STAT.INH := fld_atEnd id h

theorem stwInFlight_atEnd (id : Nat) : (s.atEnd id).stwInFlight = s.stwInFlight := by
  unfold State.stwInFlight
  rw [atEnd_stw]

/-- The restarts that count at a timer's end. -/
theorem restartsNow_atEnd (id : Nat) : (s.atEnd id).restartsNow =
    (s.stw.restarts.filter fun x => decide ((s.atEnd id).now < x + 60000 * msTicks)) ++ [(s.atEnd id).now] := by
  unfold State.restartsNow State.recentRestarts
  rw [atEnd_stw]

/-- The outcome of a copy's failure at stage STEWARD or later, with the other copy usable. -/
theorem raiseFail_evt_atEnd (id k : Nat) : ((s.atEnd id).raiseFail k code true).evt =
    (if s.stage = 8 then (s.atEnd id).raise Ev.STW_FW_FAIL 0x00 noInst [(1, k), (1, code), (1, 1)] else s.atEnd id).evt := by
  unfold State.raiseFail
  rw [stage_atEnd]
  rfl

/-- Settles O48: each command of the Steward runs one function of the state, and what that function leaves was shown above. -/
theorem stewardFirmwareStartsAndRestarts : Obligations.StewardFirmwareStartsAndRestarts := by
  unfold Obligations.StewardFirmwareStartsAndRestarts
  refine ⟨?readyFromLoad, ?readyFromRestart, ?readyDiscarded, ?timeoutOther, ?timeoutBoth, ?kick, ?kickDiscarded,
    ?expiryElsewhere, ?expiryRunning, ?restartDiscarded, ?restart, ?switch, ?switchDiscarded, ?graceRestart, ?graceElsewhere,
    ?verifiedForSwitch, ?verifiedForLoader, ?verifiedForNone⟩
  case readyFromLoad =>
    rintro m s hreach ⟨rfl, hstarting⟩ ⟨hrun, hrestart⟩
    have h : Running s s.stwReady := by
      rw [stwReady_of_load hstarting hrestart]
      exact running_stwGo hrun
    refine does_stwReadyWrite hreach ?_
    rw [if_pos rfl]
    exact ⟨h.state, h.ready, h.fwCopy, h.bootCopy, h.stw, h.timer, h.inh.1, h.inh.2, h.free, h.evt, h.bens, h.pon,
      h.frame, h.timers, h.regs⟩
  case readyFromRestart =>
    rintro m s hreach ⟨rfl, hstarting⟩ ⟨hrestart, h0, h1⟩
    have h : Running s s.stwReady := by
      rw [stwReady_of_restart hstarting hrestart h0 h1]
      exact running_stwGo (by rw [hrestart]; decide)
    refine does_stwReadyWrite hreach ?_
    rw [if_pos rfl]
    exact ⟨h.state, h.ready, h.fwCopy, h.bootCopy, h.stw, h.timer, h.free, h.bens, h.pon_none_held h0 h1,
      h.frame, h.timers, h.regs⟩
  case readyDiscarded =>
    rintro m s hreach (rfl | hstarting)
    · exact does_stwReadyWrite hreach (if_neg (by decide))
    · refine does_stwReadyWrite hreach ?_
      rw [stwReady_of_not_starting hstarting, ite_self]
  case timeoutOther =>
    rintro s hon ⟨hother, -⟩
    have hother : (s.atEnd Tm.stwReady).otherUsable = true := by
      rw [otherUsable_atEnd, hother]
      rfl
    obtain ⟨hfail, hlast, hstw, hcore, hevt, hframe, htimers, hregs⟩ := failedOver_fwFail (code := 0xC) hother
    rw [atEnd_stw] at hfail hstw hevt
    rw [hother, raiseFail_evt_atEnd] at hevt
    exact does_stwReadyTimeout hon ⟨hfail, hlast, hstw, hcore, hevt, hframe, htimers, hregs⟩
  case timeoutBoth =>
    rintro s hon ⟨hother, -, hdown⟩
    have hother : (s.atEnd Tm.stwReady).otherUsable = false := by
      rw [otherUsable_atEnd, hother]
      rfl
    obtain ⟨hfail, hlast, hstate, hlive, hshown, hstw, hoff, hinh0, hinh1, hforgot, hbens, hframe, htimers, hregs⟩ :=
      failedDark_fwFail (code := 0xC) hother ((state_atEnd _).symm ▸ hdown)
    rw [atEnd_stw] at hfail hstw
    rw [stage_atEnd, bit_atEnd _ (by decide)] at hshown
    rw [inh_atEnd _ _ (by decide)] at hinh0 hinh1
    obtain ⟨hploam0, homci0, hploam1, homci1⟩ := hforgot
    exact does_stwReadyTimeout hon ⟨hfail, hlast, hstate, hlive, hshown, hstw, hoff.1, hoff.2, hinh0, hinh1, hploam0, homci0,
      hploam1, homci1, hbens, hframe, htimers, hregs⟩
  case kick =>
    rintro m s hreach ⟨rfl, hrun⟩
    have h := kicked_kickWdog (s := s)
    refine does_stwWdogKick hreach ?_
    rw [if_pos (by rw [hrun]; rfl)]
    exact ⟨h.wdog, h.frame, h.timers⟩
  case kickDiscarded =>
    rintro m s hreach (rfl | hrun)
    · exact does_stwWdogKick hreach (if_neg (by simp))
    · refine does_stwWdogKick hreach (if_neg ?_)
      rw [decide_eq_false hrun, Bool.and_false]
      decide
  case expiryElsewhere =>
    intro s hon hrun
    have hregs : (s.atEnd Tm.stwWdog).wdogReported.regs = (s.atEnd Tm.stwWdog).regs := (raise_regs ..).trans (count_regs ..)
    have hstate : (s.atEnd Tm.stwWdog).wdogReported.stwState ≠ 1 := fun e =>
      hrun ((state_atEnd _).symm.trans ((fld_of_regs _ _ hregs).symm.trans e))
    have hevt := wdogReported_evt (s := s.atEnd Tm.stwWdog)
    unfold State.recentRestarts at hevt
    rw [atEnd_stw] at hevt
    refine does_stwWdogExpiry hon ?_
    rw [stwDrain_of_not_run hstate]
    exact ⟨raise_ctrs .., hevt, wdogReported_frame⟩
  case expiryRunning =>
    rintro s hon ⟨hrun, hdraining⟩
    obtain ⟨hstate, hgrace, hstw, hcore, hrestarts, hdrain, hisl, hcause, hdiscarded, hfree, hctrs, hbens, hpon, hframe,
      htimers, hregs⟩ := drained_wdogReported ((state_atEnd Tm.stwWdog).trans hrun)
        ((congrArg (·.contains 0x3F) (atEnd_draining _)).trans hdraining)
    unfold State.restartCopy at hstw
    rw [restartsNow_atEnd, atEnd_stw] at hstw
    rw [restartsNow_atEnd] at hrestarts
    rw [fld_atEnd _ (by decide)] at hgrace
    rw [atEnd_draining] at hdrain
    rw [stwInFlight_atEnd] at hdiscarded
    exact does_stwWdogExpiry hon ⟨hstate, hgrace, hstw, hcore, hrestarts, hdrain, hisl, hcause, hdiscarded, hfree, hctrs, hbens,
      hpon, hframe, htimers, hregs⟩
  case restartDiscarded =>
    rintro m key s hreach hor
    refine does_stwRestartCmd hreach ?_
    obtain ⟨hrestart, hswitch⟩ := restartCmd_fields key.toNat
    by_cases hkey : key = 0xA5C3
    · have hrun := hor.resolve_left fun hne => hne hkey
      rw [wrStwCtrl_of_restart (key_of_cmd hkey (by decide)) hrestart hswitch, stwDrain_of_not_run hrun]
    · exact wrStwCtrl_of_wrong_key (key_of_other_cmd hkey (by decide))
  case restart =>
    rintro m key s hreach hkey ⟨hrun, hdraining⟩
    obtain ⟨hrestart, hswitch⟩ := restartCmd_fields key.toNat
    refine does_stwRestartCmd hreach ?_
    rw [wrStwCtrl_of_restart (key_of_cmd hkey (by decide)) hrestart hswitch]
    have h := drained_stwDrain hrun hdraining
    exact ⟨h.state, h.grace, h.stw, h.core, h.restarts, h.draining, h.isl, h.cause, h.discarded, h.free, h.ctrs, h.bens, h.pon,
      h.frame, h.timers, h.regs⟩
  case switch =>
    rintro m key target only s hreach hkey ⟨hrun, hverify⟩
    refine does_stwSwitchCmd hreach ?_
    rw [wrStwCtrl_of_switchCmd hkey, if_neg (by rw [hrun, hverify]; decide)]
    have h := switchBegun_setF (s := s) { s.stw with verify := some (b2n target, only) }
    exact ⟨h.stw, h.verifying, h.frame, h.regs⟩
  case switchDiscarded =>
    rintro m key target only s hreach hor
    refine does_stwSwitchCmd hreach ?_
    by_cases hkey : key = 0xA5C3
    · have hidle := hor.resolve_left fun hne => hne hkey
      rw [wrStwCtrl_of_switchCmd hkey, if_pos hidle]
    · exact wrStwCtrl_of_other_switchCmd hkey
  case graceRestart =>
    intro s hon hrestart
    have hstate : (s.atEnd Tm.stwGrace).stwState = 2 := (state_atEnd _).trans hrestart
    obtain ⟨hdown, -, hfree, ⟨hploam0, homci0, hploam1, homci1⟩, hinh0, hinh1, hevt, hbens, hframe, hregs⟩ :=
      wentDown_stwForget (s := s.atEnd Tm.stwGrace) (by rw [hstate]; decide)
    rw [hstate] at hevt
    rw [inh_atEnd _ _ (by decide)] at hinh0 hinh1
    refine does_stwGraceExpiry hon ?_
    rw [if_neg fun hne => hne hstate]
    exact ⟨hdown, hfree, hploam0, homci0, hploam1, homci1, hinh0, hinh1, hevt, hbens, hframe, hregs⟩
  case graceElsewhere =>
    intro s hon hrestart
    have hstate : (s.atEnd Tm.stwGrace).stwState ≠ 2 := (state_atEnd _).symm ▸ hrestart
    exact does_stwGraceExpiry hon (if_pos hstate)
  case verifiedForSwitch =>
    rintro image target only s ⟨hverify, -⟩ ⟨hdownload, hrun⟩
    refine does_fwVerifyDone ?_
    rw [verifyEnds_of_switch flashSettle_frame hverify]
    have hy := flashSettle_frame (s := s)
    have hlt := fwCode_lt s (image.map (s.flashSettle.flashRead (fwBase target)))
    obtain ⟨hended, hfailed, hverified, hswitched⟩ := switchResult_switchVerified (target := target) (only := only)
      (code := s.fwCode (image.map (s.flashSettle.flashRead (fwBase target))))
      (W := s.stw.seen target (s.fwCode (image.map (s.flashSettle.flashRead (fwBase target))))
        (image.map (s.flashSettle.flashRead (fwBase target)))) hdownload
      ((fld_of_regs _ _ (regs_of_settled hy)).trans hrun)
    exact ⟨hended.verifying, hended.valid, hended.floors, fun hne => (hfailed hne).settled hy hrun hlt,
      fun h => (hverified h.1 h.2).settled hy hrun, fun h => (hswitched h.1 h.2).settled hy,
      bens_of_settled hy hended.bens, hended.frame, hended.timers, hended.regs⟩
  case verifiedForLoader =>
    rintro image s ⟨hverify, hload, -⟩ hother
    have hy := flashSettle_frame (s := s)
    have hlt := fwCode_lt s (image.map (s.flashSettle.flashRead (fwBase s.stw.copy)))
    refine does_fwVerifyDone ?_
    rw [verifyEnds_of_load hy hverify hload]
    obtain ⟨hended, hfailed, hstarted⟩ := loadResult_of_code (y := s.flashSettle)
      (code := s.fwCode (image.map (s.flashSettle.flashRead (fwBase s.stw.copy))))
      (W := s.stw.seen s.stw.copy (s.fwCode (image.map (s.flashSettle.flashRead (fwBase s.stw.copy))))
        (image.map (s.flashSettle.flashRead (fwBase s.stw.copy))))
      ((image.map (s.flashSettle.flashRead (fwBase s.stw.copy))).getD []) hother
    exact ⟨hended.valid, hended.floors, fun hne => (hfailed hne).settled hverify hlt, fun h0 => (hstarted h0).settled hy,
      hended.frame, hended.timers, hended.regs⟩
  case verifiedForNone =>
    rintro image s ⟨hverify, hload⟩
    exact does_fwVerifyDone (verifyEnds_of_none flashSettle_frame hverify hload)

end Sys2Proof.Machine
end

section
/-! Refutation of the statement about PLOAM answers and the allocation table (O28). -/

namespace Sys2Proof.Machine

/-- Channel A is in O5 and ActiveFree with power saving on, its PLOAM key in slot 1. TX_OFF inhibits its transmitter, and BEN
is still asserted from a burst that has left the air. -/
def benHeldInhibited : State :=
  let s := (State.reset.setBit aonB (islBit 0x10 0x08) true).setPf 0 F.PN_RX_STAT.STATE 2
  let s := (s.setPf 0 F.PN_PS_CFG.ENABLE 1).setPf 0 F.PN_US_STAT.ACT 5
  let s := (s.setPf 0 F.PN_US_STAT.PS 1).setPf 0 F.PN_US_STAT.INH 8
  { s.setF vltB F.VLT_PON_SLOTS.PCA_BASE 0 with
    pon := ⟨{ PonState.reset with benFrom := some 0 }, PonState.reset⟩
    slots := [(1, some { typ := 1, use := 1, key := 0, iv := 0, ivWarned := false })] }

/-- A broadcast Sleep_Allow that asks for no acknowledgement and carries nothing but its MIC. -/
def sleepAllowMsg : PloamIn :=
  { span := ⟨0, 0⟩, to_ := 0x3FF, typ := 0x12, ack := false, raw := beBytes 8 (micOf 0 1 []) }

theorem benHeldInhibited_delineates : benHeldInhibited.live 0x08 = true ∧ benHeldInhibited.align 0 = 2 ∧
    (benHeldInhibited.pn 0).fsLost = false ∧ (benHeldInhibited.pn 0).marked sleepAllowMsg.span = false ∧
    benHeldInhibited.bit (pnB 0) F.PN_OSP_CFG.PLOAM_COPY = false := by decide +kernel

theorem benHeldInhibited_micOk : benHeldInhibited.ploamMicOk 0 sleepAllowMsg.raw = true := by decide +kernel

theorem benHeldInhibited_activeFree : benHeldInhibited.bit (pnB 0) F.PN_PS_CFG.ENABLE = true ∧
    benHeldInhibited.act 0 = 5 ∧ benHeldInhibited.ps 0 = 1 ∧ benHeldInhibited.lwi 0 = false := by decide +kernel

/-- What the message leaves of that state. -/
def sleepAllowed : State := benHeldInhibited.onHwPloam 0 sleepAllowMsg fun s =>
  if !s.bit (pnB 0) F.PN_PS_CFG.ENABLE then s.hwPloam 0 (.ack 0)
  else
    let s := s.ackOk 0 sleepAllowMsg
    if s.act 0 ≠ 5 then s else (s.setPn 0 { s.pn 0 with sleepOn := true }).psCheck 0

theorem sleepAllowed_out : sleepAllowed.out = [.ben 0 false 0] := by decide +kernel

/-- Refutes O28: a Sleep_Allow that moves ActiveFree to WatchAware shows anew whether the transmitter may run, and a BEN still
asserted while INH forbids it goes to its disabled level (R107, R131, R135); the clause says that nothing leaves the device. -/
theorem not_ploamAnswersAndAllocations : ¬ Obligations.PloamAnswersAndAllocations := by
  unfold Obligations.PloamAnswersAndAllocations
  intro h
  obtain ⟨-, -, -, -, -, -, -, hsleep, -⟩ := h
  obtain ⟨hlive, halign, hfs, hmarked, hcopy⟩ := benHeldInhibited_delineates
  obtain ⟨hen, hact, hps, hlwi⟩ := benHeldInhibited_activeFree
  obtain ⟨t, hexec, -, -, -, -, -, -, hframe, -⟩ := hsleep 0 sleepAllowMsg benHeldInhibited hlive halign hfs (Or.inr rfl)
    benHeldInhibited_micOk hmarked hcopy rfl hen hact hps hlwi
  have hnext : sleepAllowed = t := Host.Outcome.next.inj hexec
  have hkept : t.out = benHeldInhibited.out := by rw [hframe]
  rw [← hnext, sleepAllowed_out] at hkept
  exact List.cons_ne_nil _ _ hkept

end Sys2Proof.Machine
end

section
/-! Proof support: what an OMCI agent that takes an SDU answers (R120, R121, R400). -/

namespace Sys2Proof.Machine

variable {s t u : State} {c : PonCh} {r : OmciReq} {req : List Byte} {rest : List (List Byte)} {k : Nat}

theorem chIx_val (c : PonCh) : chIx c.val = c := by
  revert c
  decide

theorem pn_eq_get (c : PonCh) : s.pn c.val = s.pon.get c := by
  unfold State.pn
  rw [chIx_val]

/-! ### The oldest SDU is taken -/

/-- The agent of a channel has taken its oldest SDU and counted it. -/
def State.omciTaken (s : State) (c : PonCh) (rest : List (List Byte)) : State :=
  { s with pon := s.pon.set c { s.pn c with omciIn := rest }, ctrs := (s.count (stwB + Ctr.STW.OMCI_RX)).ctrs }

/-- No interval of PM history has ended. -/
theorem pmRun_of_lt (h : s.now < s.stw.pmAt + 900000 * msTicks) : s.pmRun = s := by
  have hnone : (s.now - s.stw.pmAt) / pmInterval = 0 :=
    Nat.div_eq_of_lt (show s.now - s.stw.pmAt < 900000 * msTicks by unfold msTicks at *; omega)
  exact if_pos hnone

theorem omciTaken_eq : (s.setPn c { s.pn c with omciIn := rest }).count (stwB + Ctr.STW.OMCI_RX) = s.omciTaken c rest := by
  have hctrs : ((s.setPn c { s.pn c with omciIn := rest }).count (stwB + Ctr.STW.OMCI_RX)).ctrs =
      (s.count (stwB + Ctr.STW.OMCI_RX)).ctrs := count_ctrs_congr rfl rfl rfl
  rw [count_eq, hctrs]
  unfold State.setPn
  rw [chIx_val]
  rfl

/-- What the agent in RUN does with an SDU. -/
theorem exec_omciMessage (hin : (s.pn c).omciIn = req :: rest)
    (hrun : s.stwState = 1 ∧ s.now < s.stw.pmAt + 900000 * msTicks) : exec (.omciMessage c r) s =
      .next (if !s.omciMicOk c req then (s.omciTaken c rest).count (stwB + Ctr.STW.OMCI_MIC)
        else if !omciClasses.contains r.cls.toNat then (s.omciTaken c rest).omciAnswer c req 4
        else if omciPrimaryOnly r && decide (c.val ≠ s.primary) then (s.omciTaken c rest).omciAnswer c req 9
        else if r.op = .reboot then ((s.omciTaken c rest).omciAnswer c req 0).busWrite .steward (aonB + 0x28)
          (0xA5C30000 + (s.omciTaken c rest).bootWord / 2 * 2 + 1)
        else (s.omciTaken c rest).omciAct c req r) := by
  change Host.Outcome.next _ = _
  rw [hin]
  dsimp only
  rw [if_neg (not_not.2 hrun.1), pmRun_of_lt hrun.2, omciTaken_eq]
  rfl

section Requests

variable {P : State → Prop} (hin : (s.pn c).omciIn = req :: rest)
  (hrun : s.stwState = 1 ∧ s.now < s.stw.pmAt + 900000 * msTicks)

include hin hrun

theorem does_omciMessage_badMic (hmic : s.omciMicOk c.val req = false)
    (hp : P ((s.omciTaken c rest).count (stwB + Ctr.STW.OMCI_MIC))) : Does (.omciMessage c r) s P := by
  refine ⟨_, exec_omciMessage hin hrun, ?_⟩
  rw [hmic]
  exact hp

theorem does_omciMessage_unknown (hmic : s.omciMicOk c.val req = true) (hclass : omciClasses.contains r.cls.toNat = false)
    (hp : P ((s.omciTaken c rest).omciAnswer c req 4)) : Does (.omciMessage c r) s P := by
  refine ⟨_, exec_omciMessage hin hrun, ?_⟩
  rw [hmic, hclass]
  exact hp

theorem does_omciMessage_notPrimary (hmic : s.omciMicOk c.val req = true)
    (hclass : omciClasses.contains r.cls.toNat = true ∧ omciPrimaryOnly r = true ∧ c.val ≠ s.primary)
    (hp : P ((s.omciTaken c rest).omciAnswer c req 9)) : Does (.omciMessage c r) s P := by
  obtain ⟨hlisted, honly, hother⟩ := hclass
  refine ⟨_, exec_omciMessage hin hrun, ?_⟩
  rw [hmic, hlisted, honly, decide_eq_true hother]
  exact hp

theorem does_omciMessage_served (hmic : s.omciMicOk c.val req = true)
    (hclass : omciClasses.contains r.cls.toNat = true ∧ (omciPrimaryOnly r = false ∨ c.val = s.primary) ∧ r.op ≠ .reboot)
    (hp : P ((s.omciTaken c rest).omciAct c req r)) : Does (.omciMessage c r) s P := by
  obtain ⟨hlisted, hallowed, hop⟩ := hclass
  have hmay : (omciPrimaryOnly r && decide (c.val ≠ s.primary)) = false := by
    obtain h | h := hallowed
    · rw [h, Bool.false_and]
    · rw [decide_eq_false (not_not.2 h), Bool.and_false]
  refine ⟨_, exec_omciMessage hin hrun, ?_⟩
  rw [hmic, hlisted, hmay]
  simp only [Bool.not_true, Bool.false_eq_true, if_false, hop]
  exact hp

end Requests

/-! ### The answer is offered upstream -/

/-- The channel after the agent has taken its oldest SDU and offered an answer: the OMCC takes it with its MIC, or it is
discarded. -/
def State.omciOffered (s : State) (c : PonCh) (rest : List (List Byte)) (k : Nat) (data : List Byte) : PonState :=
  if s.bit (pnB c) F.PN_OSP_CFG.OMCI_OSP = true ∨ s.bit (pnB c) F.PN_OMCC.VALID = false then { s.pn c with omciIn := rest }
  else
    { s.pn c with
      omciIn := rest
      lastN := (s.pn c).lastN + 1
      omccUp := (s.pn c).omccUp ++ [{ n := (s.pn c).lastN + 1, osp := false, data := data ++ beBytes 4 (omciMicOf k 2 data) }] }

/-- The state that has counted what it counts. -/
def State.omciCounted (s : State) (c : PonCh) : State :=
  if s.bit (pnB c) F.PN_OSP_CFG.OMCI_OSP = true ∨ s.bit (pnB c) F.PN_OMCC.VALID = false then
    (s.count (stwB + Ctr.STW.OMCI_RX)).pCount c Ctr.PN.OSP_US_DROP
  else (s.count (stwB + Ctr.STW.OMCI_RX)).count (stwB + Ctr.STW.OMCI_TX)

/-- The SDU taken has been answered. -/
structure Answered (c : PonCh) (rest : List (List Byte)) (k : Nat) (data : List Byte) (s t : State) : Prop where
  pon : t.pon = s.pon.set c (s.omciOffered c rest k data)
  ctrs : t.ctrs = (s.omciCounted c).ctrs

/-- Two states that agree on the registers the OMCC and its keys are read from. -/
def OmccLike (c : PonCh) (s t : State) : Prop :=
  ∀ a, a ∈ [vltB + 0x8, pnB c + 0x50, pnB c + 0x38] → t.reg a = s.reg a

/-- A state in which the agent of a channel is carrying out the SDU it has taken. -/
structure Serves (c : PonCh) (rest : List (List Byte)) (s u : State) : Prop where
  pon : u.pon = s.pon.set c { s.pn c with omciIn := rest }
  ctrs : CtrsLike (s.count (stwB + Ctr.STW.OMCI_RX)) u
  slots : u.slots = s.slots
  regs : OmccLike c s u

theorem pair_set_set {α : Type} (p : Pair α) (i : Fin 2) (x y : α) : (p.set i x).set i y = p.set i y := by
  unfold Pair.set
  split
  · rfl
  · rfl

/-- Offering an SDU where the channel has a key. -/
theorem omciSend_of_key (data : List Byte) (hkey : s.omciKey c.val = some k) : s.omciSend c data =
    if s.bit (pnB c) F.PN_OSP_CFG.OMCI_OSP = true ∨ s.bit (pnB c) F.PN_OMCC.VALID = false then
      s.pCount c Ctr.PN.OSP_US_DROP
    else (s.setPn c { s.pn c with
      lastN := (s.pn c).lastN + 1
      omccUp := (s.pn c).omccUp ++ [{ n := (s.pn c).lastN + 1, osp := false, data := data ++ beBytes 4 (omciMicOf k 2 data) }]
      }).count (stwB + Ctr.STW.OMCI_TX) := by
  have htwice : ∀ x y, (s.setPn c x).setPn c y = s.setPn c y := fun x y => by
    unfold State.setPn
    dsimp only
    rw [pair_set_set]
  unfold State.omciSend State.newN
  rw [hkey]
  dsimp only
  rw [pn_setPn_same, htwice]

theorem omciSend_of_noKey (data : List Byte) (hkey : s.omciKey c.val = none) : s.omciSend c data = s := by
  unfold State.omciSend
  rw [hkey]

theorem omciSend_frame (data : List Byte) : s.omciSend c data =
    { s with pon := (s.omciSend c data).pon, ctrs := (s.omciSend c data).ctrs } := by
  obtain hkey | ⟨k, hkey⟩ := Option.eq_none_or_eq_some (s.omciKey c)
  · rw [omciSend_of_noKey _ hkey]
  · rw [omciSend_of_key _ hkey]
    split
    · have hpon : (s.pCount c Ctr.PN.OSP_US_DROP).pon = s.pon := count_pon ..
      rw [hpon]
      exact count_eq (pnB c + Ctr.PN.OSP_US_DROP) 1
    · rw [count_eq]
      rfl

theorem omciReply_frame (code : Nat) (vals : List Nat) : s.omciReply c req code vals =
    { s with pon := (s.omciReply c req code vals).pon, ctrs := (s.omciReply c req code vals).ctrs } := omciSend_frame _

theorem OmccLike.key (h : OmccLike c s t) (hslots : t.slots = s.slots) : t.omciKey c = s.omciKey c := by
  have hbase : ∀ f : Fld, f.off = 0x8 → t.fld vltB f = s.fld vltB f := fun f hf =>
    fld_congr (h _ (by rw [hf]; exact .head _))
  unfold State.omciKey State.slot
  rw [hslots, hbase _ (by split <;> rfl)]

theorem OmccLike.closed (h : OmccLike c s t) : t.bit (pnB c) F.PN_OSP_CFG.OMCI_OSP = s.bit (pnB c) F.PN_OSP_CFG.OMCI_OSP ∧
    t.bit (pnB c) F.PN_OMCC.VALID = s.bit (pnB c) F.PN_OMCC.VALID :=
  ⟨bit_congr (h _ (.tail _ (.head _))), bit_congr (h _ (.tail _ (.tail _ (.head _))))⟩

theorem Serves.pn (h : Serves c rest s u) : u.pn c = { s.pn c with omciIn := rest } := by
  rw [pn_eq_get, h.pon, pair_get_set_same]

/-- The request is answered with the key of the channel. -/
theorem Serves.answered (h : Serves c rest s u) (hkey : s.omciKey c.val = some k) (code : Nat) (vals : List Nat) :
    Answered c rest k (Config.omciReply code vals req) s (u.omciReply c req code vals) := by
  have hukey : u.omciKey c.val = some k := (h.regs.key h.slots).trans hkey
  obtain ⟨hosp, hvalid⟩ := h.regs.closed
  unfold State.omciReply
  rw [omciSend_of_key _ hukey, hosp, hvalid, h.pn]
  by_cases hclosed : s.bit (pnB c) F.PN_OSP_CFG.OMCI_OSP = true ∨ s.bit (pnB c) F.PN_OMCC.VALID = false
  · refine ⟨?_, ?_⟩
    · rw [if_pos hclosed, State.omciOffered, if_pos hclosed]
      exact (count_pon ..).trans h.pon
    · rw [if_pos hclosed, State.omciCounted, if_pos hclosed]
      exact (h.ctrs.count ..).ctrs
  · refine ⟨?_, ?_⟩
    · rw [if_neg hclosed, State.omciOffered, if_neg hclosed, count_pon]
      unfold State.setPn
      rw [chIx_val, h.pon]
      exact pair_set_set ..
    · rw [if_neg hclosed, State.omciCounted, if_neg hclosed]
      exact (CtrsLike.count (t := u.setPn c _) (h.ctrs.trans ⟨rfl, rfl, rfl⟩) ..).ctrs

end Sys2Proof.Machine
end

section
/-! Proof support: what an OMCI request does before it is answered (R399 to R403). -/

namespace Sys2Proof.Machine

variable {s t u v : State} {c : PonCh} {r : OmciReq} {req : List Byte} {rest : List (List Byte)} {k : Nat}

/-! ### What an answer leaves unchanged -/

@[simp] theorem omciReply_stw (code : Nat) (vals : List Nat) : (s.omciReply c req code vals).stw = s.stw := by
  rw [omciReply_frame]

@[simp] theorem omciReply_flash (code : Nat) (vals : List Nat) : (s.omciReply c req code vals).flash = s.flash := by
  rw [omciReply_frame]

@[simp] theorem omciReply_ledger (code : Nat) (vals : List Nat) :
    (s.omciReply c req code vals).ledger = s.ledger := by
  rw [omciReply_frame]

@[simp] theorem omciReply_out (code : Nat) (vals : List Nat) : (s.omciReply c req code vals).out = s.out := by
  rw [omciReply_frame]

@[simp] theorem omciReply_regs (code : Nat) (vals : List Nat) : (s.omciReply c req code vals).regs = s.regs := by
  rw [omciReply_frame]

/-! ### What serving a request keeps -/

theorem OmccLike.of_regs (h : t.regs = s.regs) : OmccLike c s t := fun a _ => congrArg (fun m => SMap.get resetWord m a) h

theorem serves_omciTaken : Serves c rest s (s.omciTaken c rest) :=
  ⟨rfl, ⟨rfl, (count_counting s _ 1).symm, (count_mcCounting s _ 1).symm⟩, rfl, .of_regs rfl⟩

theorem Serves.of_eq (h : Serves c rest s u) (hpon : v.pon = u.pon) (hctrs : CtrsLike u v) (hslots : v.slots = u.slots)
    (hregs : v.regs = u.regs) : Serves c rest s v :=
  ⟨hpon.trans h.pon, h.ctrs.trans hctrs, hslots.trans h.slots, fun a ha =>
    (congrArg (fun m => SMap.get resetWord m a) hregs).trans (h.regs a ha)⟩

theorem Serves.withStw (h : Serves c rest s u) (w : StwState) : Serves c rest s (u.withStw w) :=
  h.of_eq rfl ⟨rfl, rfl, rfl⟩ rfl rfl

/-- A request that is only answered. -/
theorem answered_omciTaken (hkey : s.omciKey c.val = some k) (code : Nat) (vals : List Nat) :
    Answered c rest k (Config.omciReply code vals req) s ((s.omciTaken c rest).omciReply c req code vals) :=
  serves_omciTaken.answered hkey code vals

/-- A request that is answered once the Steward's part is another. -/
theorem answered_withStw (hkey : s.omciKey c.val = some k) (w : StwState) (code : Nat) (vals : List Nat) :
    Answered c rest k (Config.omciReply code vals req) s (((s.omciTaken c rest).withStw w).omciReply c req code vals) :=
  (serves_omciTaken.withStw w).answered hkey code vals

theorem frame_omciTaken (c : PonCh) (code : Nat) (vals : List Nat) : (s.omciTaken c rest).omciReply c req code vals =
    { s with pon := ((s.omciTaken c rest).omciReply c req code vals).pon
             ctrs := ((s.omciTaken c rest).omciReply c req code vals).ctrs } := omciReply_frame ..

theorem frame_withStw (c : PonCh) (w : StwState) (code : Nat) (vals : List Nat) :
    ((s.omciTaken c rest).withStw w).omciReply c req code vals =
      { s with pon := (((s.omciTaken c rest).withStw w).omciReply c req code vals).pon
               ctrs := (((s.omciTaken c rest).withStw w).omciReply c req code vals).ctrs
               stw := (((s.omciTaken c rest).withStw w).omciReply c req code vals).stw } := by
  rw [omciReply_stw]
  exact omciReply_frame ..

/-! ### Requests that the device carries out -/

theorem omciOk_of_noKeep (hkeep : r.keep = none) : s.omciOk c req r =
    (s.mibDone c r).omciReply c req 0 (if r.op = .get then s.omciValues c r else []) := by
  unfold State.omciOk
  rw [hkeep]
  rfl

/-- A change of one entity of one channel. -/
def State.mibChanged (s : State) (c : PonCh) (r : OmciReq) (v : Option (List Byte)) : StwState :=
  { s.stw with
    mibs := s.stw.mibs.set c
      { sync := if (s.mib c).sync = 255 then 1 else (s.mib c).sync + 1
        ents := SMap.set (fun _ => none) (s.mib c).ents (r.cls.toNat * 65536 + r.inst.toNat) v } }

/-- The attributes an accepted request leaves of its entity. -/
def attrsLeft (r : OmciReq) : Option (List Byte) := if r.op = .delete then none else some r.attrs

theorem setMib_eq (c : PonCh) (m : Mib) : s.setMib c m = s.withStw { s.stw with mibs := s.stw.mibs.set c m } := by
  unfold State.setMib
  rw [chIx_val]
  rfl

theorem mibDone_of_change (hop : r.op = .create ∨ r.op = .set ∨ r.op = .delete)
    (howned : omciShared.contains r.cls.toNat = false) : s.mibDone c r = s.withStw (s.mibChanged c r (attrsLeft r)) := by
  unfold State.mibDone attrsLeft
  obtain hop | hop | hop := hop
  all_goals
    rw [hop, howned]
    exact setMib_eq ..

theorem mibDone_of_mibReset (hop : r.op = .mibReset) :
    s.mibDone c r = s.withStw { s.stw with mibs := s.stw.mibs.set c { sync := 0, ents := [] } } := by
  unfold State.mibDone
  rw [hop]
  exact setMib_eq ..

theorem mibDone_of_other (hop : r.op = .get ∨ r.op = .other) : s.mibDone c r = s := by
  unfold State.mibDone
  obtain hop | hop := hop
  · rw [hop]
  · rw [hop]

/-- An agent's answer of its own. -/
theorem omciAct_answer {code : BitVec 4} (hact : r.act = .answer code) : s.omciAct c req r =
    if code.toNat = 0 then s.omciOk c req r else s.omciAnswer c req code.toNat := by
  unfold State.omciAct
  rw [hact]

theorem omciAct_ok (hact : r.act = .answer 0) : s.omciAct c req r = s.omciOk c req r := (omciAct_answer hact).trans (if_pos rfl)

/-- A change of one channel's MIB, carried out and answered. -/
theorem omciAct_change (hact : r.act = .answer 0) (hop : r.op = .create ∨ r.op = .set ∨ r.op = .delete) (hkeep : r.keep = none)
    (howned : omciShared.contains r.cls.toNat = false) :
    s.omciAct c req r = (s.withStw (s.mibChanged c r (attrsLeft r))).omciReply c req 0 [] := by
  have hget : r.op ≠ .get := by
    obtain h | h | h := hop
    all_goals
      rw [h]
      decide
  rw [omciAct_ok hact, omciOk_of_noKeep hkeep, mibDone_of_change hop howned, if_neg hget]

theorem omciAct_mibReset (hact : r.act = .answer 0) (hop : r.op = .mibReset) (hkeep : r.keep = none) : s.omciAct c req r =
    (s.withStw { s.stw with mibs := s.stw.mibs.set c { sync := 0, ents := [] } }).omciReply c req 0 [] := by
  rw [omciAct_ok hact, omciOk_of_noKeep hkeep, mibDone_of_mibReset hop, hop]
  rfl

theorem omciAct_get (hact : r.act = .answer 0) (hop : r.op = .get) (hkeep : r.keep = none) :
    s.omciAct c req r = s.omciReply c req 0 (s.omciValues c r) := by
  rw [omciAct_ok hact, omciOk_of_noKeep hkeep, mibDone_of_other (.inl hop), if_pos hop]

theorem omciOk_of_other (hop : r.op = .other) (hkeep : r.keep = none) : s.omciOk c req r = s.omciReply c req 0 [] := by
  rw [omciOk_of_noKeep hkeep, mibDone_of_other (.inr hop), hop]
  rfl

/-! ### Downloads -/

/-- A program or erase begins. -/
def State.flashBegun (s : State) (a : Nat) (bs : List Byte) : State :=
  { s with flash := { s.flashSettle.flash with busy := some (a, bs) } }

theorem flashStart_of_noSag {a : Nat} {bs : List Byte} (hsag : s.sagging = false) : s.flashStart a bs = s.flashBegun a bs := by
  unfold State.flashStart
  rw [if_neg (by rw [hsag]; decide), flashSettle_frame]
  rfl

theorem Serves.flashBegun (h : Serves c rest s u) (a : Nat) (bs : List Byte) : Serves c rest s (u.flashBegun a bs) :=
  h.of_eq rfl ⟨rfl, rfl, rfl⟩ rfl rfl

theorem flashSettle_flash_congr (h : t.flash = s.flash) : t.flashSettle.flash = s.flashSettle.flash := by
  unfold State.flashSettle
  cases hbusy : s.flash.busy with
  | none => rw [h, hbusy, h]
  | some p => rw [h, hbusy]

theorem frame_flashBegun (c : PonCh) (a : Nat) (bs : List Byte) (code : Nat) :
    ((s.omciTaken c rest).flashBegun a bs).omciReply c req code [] =
      { s with pon := (((s.omciTaken c rest).flashBegun a bs).omciReply c req code []).pon
               ctrs := (((s.omciTaken c rest).flashBegun a bs).omciReply c req code []).ctrs
               flash := (((s.omciTaken c rest).flashBegun a bs).omciReply c req code []).flash } := by
  rw [omciReply_flash]
  exact omciReply_frame ..

theorem flash_flashBegun (c : PonCh) (a : Nat) (bs : List Byte) (code : Nat) :
    (((s.omciTaken c rest).flashBegun a bs).omciReply c req code []).flash =
      { s.flashSettle.flash with busy := some (a, bs) } := by
  rw [omciReply_flash, ← flashSettle_flash_congr (s := s) (t := s.omciTaken c rest) rfl]
  rfl

/-- The copy that does not run is erased. -/
theorem omciAct_startDownload {cp : Fin 2} (hact : r.act = .startDownload cp)
    (hcp : cp.val ≠ s.fld stwB F.STW_STAT.FW_COPY) (hsag : s.sagging = false) : s.omciAct c req r =
      (s.flashBegun (fwBase cp.val) (List.replicate (2 ^ 23) 0xFF)).omciReply c req 0 [] := by
  unfold State.omciAct
  rw [hact]
  dsimp only
  rw [if_neg hcp, flashStart_of_noSag hsag]
  rfl

/-- A section of the copy that does not run is programmed. -/
theorem omciAct_section {cp : Fin 2} {off : BitVec 23} {data : List Byte} (hact : r.act = .section_ cp off data)
    (hcp : cp.val ≠ s.fld stwB F.STW_STAT.FW_COPY) (hsag : s.sagging = false) (hfits : off.toNat + data.length ≤ 2 ^ 23) :
    s.omciAct c req r = (s.flashBegun (fwBase cp.val + off.toNat) data).omciReply c req 0 [] := by
  unfold State.omciAct
  rw [hact]
  dsimp only
  rw [if_neg hcp, if_neg (Nat.not_lt.2 hfits), flashStart_of_noSag hsag]
  rfl

/-- A download of the running copy is refused. -/
theorem omciAct_running {cp : Fin 2} (hact : r.act = .startDownload cp ∨ ∃ off data, r.act = .section_ cp off data)
    (hcp : cp.val = s.fld stwB F.STW_STAT.FW_COPY) : s.omciAct c req r = s.omciReply c req 1 [] := by
  unfold State.omciAct
  obtain hact | ⟨off, data, hact⟩ := hact
  · rw [hact]
    exact if_pos hcp
  · rw [hact]
    exact if_pos hcp

theorem omciAct_endDownload {cp : Fin 2} (hact : r.act = .endDownload cp) (hverify : s.stw.verify = none) :
    s.omciAct c req r = { s.wrStwCtrl (0xA5C30000 + cp.val * 256 + 5) with
      stw := { (s.wrStwCtrl (0xA5C30000 + cp.val * 256 + 5)).stw with download := some (c, req) } } := by
  unfold State.omciAct
  rw [hact]
  dsimp only
  rw [hverify]
  rfl

theorem omciAct_activate {cp : Fin 2} (hact : r.act = .activate cp) :
    s.omciAct c req r = (s.omciAnswer c req 0).wrStwCtrl (0xA5C30000 + cp.val * 256 + 1) := by
  unfold State.omciAct
  rw [hact]

/-- The firmware's own SWITCH command begins a verification. -/
theorem switchBegun_firmware {v : Nat} (cp : Fin 2) (only : Bool) (hv : v = 0xA5C30000 + cp.val * 256 + b2n only * 4 + 1)
    (hrun : s.stwState = 1) (hverify : s.stw.verify = none) :
    SwitchBegun { s.stw with verify := some (cp.val, only) } s (s.wrStwCtrl v) := by
  have hcp : ∀ cp : Fin 2, b2n (cp.val == 1) = cp.val := by decide
  have h := wrStwCtrl_of_switchCmd (s := s) (key := 0xA5C3) (target := cp.val == 1) (only := only) rfl
  rw [hcp, if_neg (by rw [hrun, hverify]; decide)] at h
  rw [hv]
  exact h ▸ switchBegun_setF _

/-! ### Commit, optics and time -/

/-- The floor a commit of a copy leaves (R399). -/
def State.commitFloor (s : State) (cp : Fin 2) : Nat :=
  max (s.fld stwB F.STW_FW_FLOOR.FLOOR) (SMap.get (fun _ => 0) s.stw.floors cp.val)

/-- A copy is preferred, and the floor raised. -/
def State.floorRaised (s : State) (cp : Fin 2) : State :=
  (s.setF aonB F.AON_BOOT_CTRL.PREFER_B cp.val).setF stwB F.STW_FW_FLOOR.FLOOR (s.commitFloor cp)

/-- What a commit leaves: it stands in the Ledger too unless a sag is in force. -/
def State.copyCommitted (s : State) (cp : Fin 2) : State :=
  { s.floorRaised cp with ledger := if s.sagging then s.ledger else
      { s.ledger with preferB := decide (cp.val = 1), fwFloor := s.commitFloor cp } }

theorem regsBut_floorRaised (cp : Fin 2) : RegsBut [aonB + 0x28, stwB + 0x14] s (s.floorRaised cp) :=
  regsBut_trans (regsBut_setF aonB F.AON_BOOT_CTRL.PREFER_B cp.val)
    (regsBut_setF (s := s.setF aonB F.AON_BOOT_CTRL.PREFER_B cp.val) stwB F.STW_FW_FLOOR.FLOOR (s.commitFloor cp))

theorem sagging_floorRaised (cp : Fin 2) : (s.floorRaised cp).sagging = s.sagging :=
  bit_congr (regsBut_floorRaised cp _ (by decide))

theorem omciAct_commit {cp : Fin 2} (hact : r.act = .commit cp) :
    s.omciAct c req r = (s.copyCommitted cp).omciReply c req 0 [] := by
  have hbranch : s.omciAct c req r = (if (s.floorRaised cp).sagging then s.floorRaised cp
      else { s.floorRaised cp with ledger :=
        { (s.floorRaised cp).ledger with preferB := decide (cp.val = 1), fwFloor := s.commitFloor cp } }).omciReply c req 0 [] := by
    unfold State.omciAct
    rw [hact]
    rfl
  rw [hbranch, sagging_floorRaised]
  unfold State.copyCommitted
  split
  · rfl
  · rfl

theorem regsBut_copyCommitted (cp : Fin 2) : RegsBut [aonB + 0x28, stwB + 0x14] s (s.copyCommitted cp) :=
  regsBut_of_regs (regsBut_floorRaised cp) rfl

theorem preferB_copyCommitted (cp : Fin 2) : (s.copyCommitted cp).fld aonB F.AON_BOOT_CTRL.PREFER_B = cp.val :=
  (fld_setF_other (s := s.setF aonB F.AON_BOOT_CTRL.PREFER_B cp.val) _ (by decide) (by decide)).trans
    ((fld_setF_same s _ _ _ (by decide)).trans (Nat.mod_eq_of_lt cp.isLt))

theorem floor_copyCommitted (cp : Fin 2) :
    (s.copyCommitted cp).fld stwB F.STW_FW_FLOOR.FLOOR = s.commitFloor cp % 2 ^ F.STW_FW_FLOOR.FLOOR.width :=
  fld_setF_same (s.setF aonB F.AON_BOOT_CTRL.PREFER_B cp.val) _ _ _ (by decide)

theorem omccLike_copyCommitted (cp : Fin 2) : OmccLike c s (s.copyCommitted cp) := fun a ha =>
  regsBut_copyCommitted cp a (by
    revert a c
    decide)

theorem Serves.copyCommitted (h : Serves c rest s u) (cp : Fin 2) : Serves c rest s (u.copyCommitted cp) :=
  ⟨h.pon, h.ctrs.trans ⟨rfl, rfl, rfl⟩, h.slots, fun a ha => (omccLike_copyCommitted cp a ha).trans (h.regs a ha)⟩

theorem omciAct_optics {m : List Byte} (hact : r.act = .optics m) (hop : r.op = .other) (hkeep : r.keep = none) :
    s.omciAct c req r = (s.emit (.optics c m)).omciReply c req 0 [] := by
  unfold State.omciAct
  rw [hact]
  exact omciOk_of_other hop hkeep

theorem omciAct_syncTime (hact : r.act = .syncTime) (hop : r.op = .other) (hkeep : r.keep = none) :
    s.omciAct c req r = s.pmSync.omciReply c req 0 [] := by
  unfold State.omciAct
  rw [hact]
  exact omciOk_of_other hop hkeep

theorem omciAct_uniFixed (hact : r.act = .uniFixed) : s.omciAct c req r = s.omciReply c req 3 [] := by
  unfold State.omciAct
  rw [hact]
  rfl

theorem omciAct_twinFlow_noPort {b : Option (BitVec 12)} {sf : BitVec 12} {st hm : Bool} {x : Fin 256}
    (hact : r.act = .twinFlow none b sf st hm x) : s.omciAct c req r = s.omciReply c req 3 [] := by
  unfold State.omciAct
  rw [hact]
  rfl

/-! ### PM history starts anew -/

/-- What the agents keep of both channels' history once the intervals start anew. -/
def State.pmAnew (s : State) : StwState :=
  { s.stw with
    pm := (s.stw.pm.set 0 { base := s.pmCounters 0, last := [] }).set 1 { base := s.pmCounters 1, last := [] }
    pmAt := s.now }

theorem pmSync_eq : s.pmSync = s.withStw s.pmAnew := rfl

theorem pmAnew_base (d : PonCh) : (s.pmAnew.pm.get d).base = s.pmCounters d.val := by
  obtain hd | hd := (by decide : ∀ d : PonCh, d = 0 ∨ d = 1) d
  · rw [hd]
    rfl
  · rw [hd]
    rfl

theorem pmCounters_omciTaken_other : (s.omciTaken c rest).pmCounters (1 - c).val = s.pmCounters (1 - c).val :=
  List.map_congr_left fun n hn => by
    have hlt : n < 93 := List.mem_range.1 hn
    have hne : pnB (1 - c).val + 0x200 + 8 * n ≠ stwB + Ctr.STW.OMCI_RX := by
      have hbelow : pnB (1 - c).val + 0x200 + 8 * 92 < stwB := by
        revert c
        decide
      omega
    exact ctr_count_other (s := s) 1 hne

end Sys2Proof.Machine
end

section
/-! Proof support: the alarms the optics poll sets and sends (R405). -/

namespace Sys2Proof.Machine

variable {s t u v : State} {c : PonCh}

/-- The state of an alarm. -/
def State.alarm (s : State) (q : Nat) : Bool := SMap.get (fun _ => false) s.stw.alarms q

/-- An alarm's state is replaced. -/
def State.alarmSet (s : State) (q : Nat) (v : Bool) : State :=
  s.withStw { s.stw with alarms := SMap.set (fun _ => false) s.stw.alarms q v }

theorem omciAlarm_of_same {c : Nat} {q : Nat} {v : Bool} (h : s.alarm q = v) : s.omciAlarm c q v = s := if_pos h

theorem omciAlarm_of_change {c : Nat} {q : Nat} {v : Bool} (h : s.alarm q ≠ v) :
    s.omciAlarm c q v = (s.alarmSet q v).omciSend c (Config.omciAlarm q v) := if_neg h

/-- The counters an SDU's offer may change. -/
def sendCtrs (c : PonCh) : List Nat := [pnB c + Ctr.PN.OSP_US_DROP, stwB + Ctr.STW.OMCI_TX]

/-- What offering an SDU to a channel's OMCC may change. -/
structure Offered (c : PonCh) (s t : State) : Prop where
  pon : t.pon = s.pon.set c { s.pn c with lastN := (t.pn c).lastN, omccUp := (t.pn c).omccUp }
  queued : (s.pn c).omccUp = (t.pn c).omccUp.take (s.pn c).omccUp.length
  noKey : s.omciKey c = none → t.pon = s.pon
  ctrs : CtrsBut (sendCtrs c) s t

theorem pon_set_pn (c : PonCh) : s.pon.set c (s.pn c) = s.pon := by
  have h := congrArg State.pon (setPn_self (s := s) c)
  unfold State.setPn at h
  rwa [chIx_val] at h

/-- Nothing is offered, or what is offered is discarded. -/
theorem Offered.of_pon (hpon : t.pon = s.pon) (hctrs : CtrsBut (sendCtrs c) s t) : Offered c s t := by
  have hpn : t.pn c = s.pn c := by
    rw [pn_eq_get, pn_eq_get, hpon]
  refine ⟨?_, ?_, fun _ => hpon, hctrs⟩
  · rw [hpn, hpon]
    exact (pon_set_pn c).symm
  · rw [hpn, List.take_length]

theorem offered_omciSend (data : List Byte) : Offered c s (s.omciSend c data) := by
  obtain hkey | ⟨k, hkey⟩ := Option.eq_none_or_eq_some (s.omciKey c)
  · rw [omciSend_of_noKey _ hkey]
    exact .of_pon rfl fun _ _ => rfl
  · rw [omciSend_of_key _ hkey]
    split
    · exact .of_pon (count_pon ..) fun a ha => ctr_count_other (s := s) 1 fun e => ha (e ▸ .head _)
    · have hpon : ∀ X, ((s.setPn c X).count (stwB + Ctr.STW.OMCI_TX)).pon = s.pon.set c X := fun X => by
        rw [count_pon, State.setPn, chIx_val]
      have hpn : ∀ X, ((s.setPn c X).count (stwB + Ctr.STW.OMCI_TX)).pn c = X := fun X => by
        rw [pn_eq_get, hpon, pair_get_set_same]
      refine ⟨?_, ?_, fun hnone => ?_, fun a ha => ctr_count_other (s := s.setPn c _) 1 fun e => ha (e ▸ .tail _ (.head _))⟩
      · rw [hpn, hpon]
      · rw [hpn]
        exact (List.take_left ..).symm
      · rw [hkey] at hnone
        exact absurd hnone (Option.some_ne_none k)

/-- What setting alarms of a channel among `l` may change: those alarms, the SDUs its OMCC holds and what sending counts. -/
structure AlarmStep (c : PonCh) (l : List Nat) (s t : State) : Prop where
  frame : t = { s with stw := t.stw, pon := t.pon, ctrs := t.ctrs }
  stw : t.stw = { s.stw with alarms := t.stw.alarms }
  others : ∀ q, q ∉ l → t.alarm q = s.alarm q
  offered : Offered c s t
  unchanged : (∀ q ∈ l, t.alarm q = s.alarm q) → t.pon = s.pon ∧ t.ctrs = s.ctrs

theorem Offered.trans (h : Offered c s t) (k : Offered c t u) (hkey : t.omciKey c = s.omciKey c) : Offered c s u where
  pon := by
    have hpn : t.pn c = { s.pn c with lastN := (t.pn c).lastN, omccUp := (t.pn c).omccUp } := by
      rw [pn_eq_get, h.pon, pair_get_set_same]
    rw [k.pon, hpn, h.pon]
    exact pair_set_set ..
  queued := by
    have hle : (s.pn c).omccUp.length ≤ (t.pn c).omccUp.length := by
      rw [h.queued, List.length_take]
      exact Nat.min_le_right ..
    calc (s.pn c).omccUp
      _ = (t.pn c).omccUp.take (s.pn c).omccUp.length := h.queued
      _ = ((u.pn c).omccUp.take (t.pn c).omccUp.length).take (s.pn c).omccUp.length := congrArg (List.take _) k.queued
      _ = (u.pn c).omccUp.take (s.pn c).omccUp.length := by rw [List.take_take, Nat.min_eq_left hle]
  noKey hnone := (k.noKey (hkey.trans hnone)).trans (h.noKey hnone)
  ctrs a ha := (k.ctrs a ha).trans (h.ctrs a ha)

theorem AlarmStep.refl (c : PonCh) (l : List Nat) (s : State) : AlarmStep c l s s :=
  ⟨rfl, rfl, fun _ _ => rfl, .of_pon rfl fun _ _ => rfl, fun _ => ⟨rfl, rfl⟩⟩

theorem AlarmStep.regs {l : List Nat} (h : AlarmStep c l s t) : t.regs = s.regs := by
  rw [h.frame]

theorem AlarmStep.trans {l m : List Nat} (h : AlarmStep c l s t) (k : AlarmStep c m t u) (hlm : ∀ q ∈ l, q ∉ m) :
    AlarmStep c (l ++ m) s u where
  frame := k.frame.trans (congrArg (fun x : State => { x with stw := u.stw, pon := u.pon, ctrs := u.ctrs }) h.frame)
  stw := k.stw.trans (congrArg (fun w : StwState => { w with alarms := u.stw.alarms }) h.stw)
  others q hq := by
    rw [List.mem_append, not_or] at hq
    exact (k.others q hq.2).trans (h.others q hq.1)
  offered := h.offered.trans k.offered (by rw [h.frame]; rfl)
  unchanged hsame := by
    have hfirst : ∀ q ∈ l, t.alarm q = s.alarm q := fun q hq =>
      (k.others q (hlm q hq)).symm.trans (hsame q (List.mem_append_left _ hq))
    obtain ⟨hpon, hctrs⟩ := h.unchanged hfirst
    obtain ⟨kpon, kctrs⟩ := k.unchanged fun q hq => (hsame q (List.mem_append_right _ hq)).trans
      (h.others q fun hl => hlm q hl hq).symm
    exact ⟨kpon.trans hpon, kctrs.trans hctrs⟩

theorem alarm_omciAlarm (q : Nat) (v : Bool) : (s.omciAlarm c q v).alarm q = v := by
  by_cases h : s.alarm q = v
  · rw [omciAlarm_of_same h, h]
  · rw [omciAlarm_of_change h, omciSend_frame]
    exact smap_get_set_same ..

theorem alarmStep_omciAlarm (q : Nat) (v : Bool) : AlarmStep c [q] s (s.omciAlarm c q v) := by
  by_cases h : s.alarm q = v
  · rw [omciAlarm_of_same h]
    exact .refl ..
  · have hset := alarm_omciAlarm (s := s) (c := c) q v
    rw [omciAlarm_of_change h] at hset ⊢
    have hsend := omciSend_frame (s := s.alarmSet q v) (c := c) (Config.omciAlarm q v)
    have hstw : ((s.alarmSet q v).omciSend c (Config.omciAlarm q v)).stw = (s.alarmSet q v).stw := by rw [hsend]
    have hoffered := offered_omciSend (s := s.alarmSet q v) (c := c) (Config.omciAlarm q v)
    refine ⟨?_, ?_, ?_, ?_, ?_⟩
    · rw [hstw]
      exact hsend
    · rw [hstw]
      rfl
    · intro p hp
      have hne : p ≠ q := fun e => hp (List.mem_singleton.2 e)
      unfold State.alarm
      rw [hstw]
      exact smap_get_set_other _ _ _ hne
    · exact ⟨hoffered.pon, hoffered.queued, hoffered.noKey, hoffered.ctrs⟩
    · intro hsame
      exact absurd ((hsame q (.head _)).symm.trans hset) h

/-- Alarms that follow registers, set one after the other. -/
theorem alarms_follow (c : PonCh) (b : Nat) (want : State → Nat → Bool)
    (hwant : ∀ s t i, t.regs = s.regs → want t i = want s i) (n : Nat) (s : State) :
    AlarmStep c (List.range' b n) s ((List.range n).foldl (fun s i => s.omciAlarm c (b + i) (want s i)) s) ∧
    ∀ i < n, ((List.range n).foldl (fun s i => s.omciAlarm c (b + i) (want s i)) s).alarm (b + i) = want s i := by
  induction n with
  | zero => exact ⟨.refl .., fun i hi => absurd hi (Nat.not_lt_zero i)⟩
  | succ n ih =>
    obtain ⟨hstep, hset⟩ := ih
    rw [List.range_succ, List.foldl_append, List.foldl_cons, List.foldl_nil, List.range'_1_concat]
    have hlast := alarmStep_omciAlarm (c := c) (s := (List.range n).foldl (fun s i => s.omciAlarm c (b + i) (want s i)) s)
      (b + n) (want ((List.range n).foldl (fun s i => s.omciAlarm c (b + i) (want s i)) s) n)
    refine ⟨hstep.trans hlast fun q hq hmem => ?_, fun i hi => ?_⟩
    · rw [List.mem_range'_1] at hq
      rw [List.mem_singleton] at hmem
      omega
    · obtain hlt | rfl := Nat.lt_succ_iff_lt_or_eq.1 hi
      · refine (hlast.others _ ?_).trans (hset i hlt)
        rw [List.mem_singleton]
        omega
      · exact (alarm_omciAlarm ..).trans (hwant _ _ _ hstep.regs)

/-! ### The optics poll -/

/-- The alarms the optics poll of a channel sets. -/
def pollAlarms (c : Nat) : List Nat := [8 * c] ++ [8 * c + 1] ++ List.range' (8 * c + 2) 5 ++ List.range' (256 + 64 * c) 48

/-- An alarm of a UNI: it is unlocked, and has no link. -/
def State.uniDown (s : State) (n : Nat) : Bool := s.bit (tqB n) F.TQ_PORT_SVC.WANT && !s.bit (tqB n) F.TQ_LANE_STAT.LINK

/-- The state after an optics poll that sets alarms. -/
def State.opticsPolled (s : State) (c : PonCh) (optics : BitVec 5) : State :=
  let s := s.omciAlarm c (8 * c.val) (s.bit (pnB c) F.PN_RX_STAT.SD)
  let s := s.omciAlarm c (8 * c.val + 1) (s.bit (pnB c) F.PN_RX_STAT.SF)
  let s := (List.range 5).foldl (fun s i => s.omciAlarm c (8 * c.val + 2 + i) (optics.getLsbD i)) s
  (List.range 48).foldl (fun s n => s.omciAlarm c (256 + 64 * c.val + n) (s.uniDown n)) s

theorem exec_opticsPoll {optics : BitVec 5} (hrun : s.stwState = 1) (hnow : s.now < s.stw.pmAt + 900000 * msTicks)
    (hosp : s.bit (pnB c) F.PN_OSP_CFG.OMCI_OSP = false) : exec (.opticsPoll c optics) s = .next (s.opticsPolled c optics) := by
  change Host.Outcome.next _ = _
  rw [if_neg (not_not.2 hrun), pmRun_of_lt hnow]
  dsimp only
  rw [hosp]
  rfl

theorem exec_opticsPoll_idle {optics : BitVec 5} (hidle : s.stwState ≠ 1 ∨
    (s.now < s.stw.pmAt + 900000 * msTicks ∧ s.bit (pnB c) F.PN_OSP_CFG.OMCI_OSP = true)) :
    exec (.opticsPoll c optics) s = .next s := by
  change Host.Outcome.next _ = _
  by_cases hrun : s.stwState = 1
  · obtain ⟨hnow, hosp⟩ := hidle.resolve_left (not_not.2 hrun)
    rw [if_neg (not_not.2 hrun), pmRun_of_lt hnow]
    dsimp only
    rw [if_pos hosp]
  · rw [if_pos hrun]

/-- What an optics poll of a channel leaves. -/
structure OpticsPolled (c : PonCh) (optics : BitVec 5) (s t : State) : Prop where
  step : AlarmStep c (pollAlarms c) s t
  sd : t.alarm (8 * c.val) = s.bit (pnB c) F.PN_RX_STAT.SD
  sf : t.alarm (8 * c.val + 1) = s.bit (pnB c) F.PN_RX_STAT.SF
  optics : ∀ i < 5, t.alarm (8 * c.val + 2 + i) = optics.getLsbD i
  unis : ∀ n < 48, t.alarm (256 + 64 * c.val + n) = s.uniDown n

theorem bit_of_regs {b : Nat} {f : Fld} (h : t.regs = s.regs) : t.bit b f = s.bit b f :=
  bit_congr (congrArg (fun m => SMap.get resetWord m (b + f.off)) h)

theorem uniDown_of_regs (n : Nat) (h : t.regs = s.regs) : t.uniDown n = s.uniDown n := by
  unfold State.uniDown
  rw [bit_of_regs h, bit_of_regs h]

theorem opticsPolled_holds (c : PonCh) (optics : BitVec 5) (s : State) : OpticsPolled c optics s (s.opticsPolled c optics) := by
  have hc : c.val < 2 := c.isLt
  unfold State.opticsPolled
  have h1 := alarmStep_omciAlarm (s := s) (c := c) (8 * c.val) (s.bit (pnB c) F.PN_RX_STAT.SD)
  have hset1 := alarm_omciAlarm (s := s) (c := c) (8 * c.val) (s.bit (pnB c) F.PN_RX_STAT.SD)
  generalize s.omciAlarm c (8 * c.val) (s.bit (pnB c) F.PN_RX_STAT.SD) = s1 at h1 hset1 ⊢
  have h2 := alarmStep_omciAlarm (s := s1) (c := c) (8 * c.val + 1) (s1.bit (pnB c) F.PN_RX_STAT.SF)
  have hset2 := alarm_omciAlarm (s := s1) (c := c) (8 * c.val + 1) (s1.bit (pnB c) F.PN_RX_STAT.SF)
  dsimp only
  generalize s1.omciAlarm c (8 * c.val + 1) (s1.bit (pnB c) F.PN_RX_STAT.SF) = s2 at h2 hset2 ⊢
  obtain ⟨h3, hset3⟩ := alarms_follow c (8 * c.val + 2) (fun _ i => optics.getLsbD i) (fun _ _ _ _ => rfl) 5 s2
  generalize (List.range 5).foldl (fun s i => s.omciAlarm c (8 * c.val + 2 + i) (optics.getLsbD i)) s2 = s3 at h3 hset3 ⊢
  obtain ⟨h4, hset4⟩ := alarms_follow c (256 + 64 * c.val) State.uniDown (fun _ _ n h => uniDown_of_regs n h) 48 s3
  generalize (List.range 48).foldl (fun s n => s.omciAlarm c (256 + 64 * c.val + n) (s.uniDown n)) s3 = s4 at h4 hset4 ⊢
  have h12 := h1.trans h2 (by simp)
  have h13 := h12.trans h3 fun q hq hmem => by
    simp only [List.cons_append, List.nil_append, List.mem_cons, List.not_mem_nil, or_false] at hq
    rw [List.mem_range'_1] at hmem
    omega
  have h14 := h13.trans h4 fun q hq hmem => by
    simp only [List.cons_append, List.nil_append, List.mem_cons, List.mem_range'_1] at hq
    rw [List.mem_range'_1] at hmem
    omega
  have hkept3 : ∀ q < 8 * c.val + 2, s3.alarm q = s2.alarm q := fun q hq => h3.others q (by
    rw [List.mem_range'_1]
    omega)
  have hkept4 : ∀ q < 256, s4.alarm q = s3.alarm q := fun q hq => h4.others q (by
    rw [List.mem_range'_1]
    omega)
  refine ⟨h14, ?_, ?_, ?_, ?_⟩
  · rw [hkept4 _ (by omega), hkept3 _ (by omega), h2.others _ (by simp), hset1]
  · rw [hkept4 _ (by omega), hkept3 _ (by omega), hset2, bit_of_regs h1.regs]
  · intro i hi
    rw [hkept4 _ (by omega), hset3 i hi]
  · intro n hn
    rw [hset4 n hn, uniDown_of_regs n h13.regs]

end Sys2Proof.Machine
end

section
/-! Proof: what the OMCI agents' requests and alarms leave (R95, R120, R121, R399 to R405). -/

namespace Sys2Proof.Machine

variable {s t u v : State} {c : PonCh} {r : OmciReq} {req : List Byte} {rest : List (List Byte)} {k : Nat}

theorem mem_pollAlarms {c q : Nat} :
    q ∈ pollAlarms c ↔ (8 * c ≤ q ∧ q < 8 * c + 7) ∨ (256 + 64 * c ≤ q ∧ q < 304 + 64 * c) := by
  simp only [pollAlarms, List.cons_append, List.nil_append, List.mem_cons, List.mem_append, List.mem_range'_1]
  omega

theorem exists_of_mem_pollAlarms {c q : Nat} (h : q ∈ pollAlarms c) :
    (∃ i < 7, q = 8 * c + i) ∨ ∃ n < 48, q = 256 + 64 * c + n := by
  rw [mem_pollAlarms] at h
  obtain ⟨hlo, hhi⟩ | ⟨hlo, hhi⟩ := h
  · exact .inl ⟨q - 8 * c, by omega, by omega⟩
  · exact .inr ⟨q - (256 + 64 * c), by omega, by omega⟩

theorem exec_omciMessage_idle (hidle : s.stwState ≠ 1 ∨ (s.pn c).omciIn = []) :
    exec (.omciMessage c r) s = .next s := by
  change Host.Outcome.next _ = _
  cases hin : (s.pn c).omciIn with
  | nil => rfl
  | cons req rest =>
    have hrun : s.stwState ≠ 1 := hidle.resolve_right (by rw [hin]; exact List.cons_ne_nil req rest)
    dsimp only
    rw [if_pos hrun]

/-- Settles O50, clause by clause: the agent's request is one of the state's operations on the state that has taken the SDU,
and its answer changes the channel's queue and counters only. -/
theorem omciRequestsAreCarriedOut : Obligations.OmciRequestsAreCarriedOut := by
  unfold Obligations.OmciRequestsAreCarriedOut
  refine ⟨?idle, ?badMic, ?unknown, ?notPrimary, ?ownCode, ?get, ?change, ?delete, ?mibReset, ?startDownload, ?startRunning,
    ?programmed, ?programRunning, ?endDownload, ?activate, ?commit, ?optics, ?syncTime, ?uniFixed, ?twinFlow, ?pollIdle, ?poll⟩
  case idle => exact fun c r s hidle => ⟨s, exec_omciMessage_idle hidle, rfl⟩
  case badMic =>
    intro c r req rest s hin hrun hmic
    refine does_omciMessage_badMic hin hrun hmic ?_
    rw [count_eq]
    exact ⟨rfl, (serves_omciTaken.ctrs.count ..).ctrs, rfl⟩
  case unknown =>
    rintro c r req rest k s hin hrun ⟨hkey, hmic⟩ hclass
    have h := answered_omciTaken (rest := rest) (req := req) hkey 4 []
    exact does_omciMessage_unknown hin hrun hmic hclass ⟨⟨h.pon, h.ctrs⟩, frame_omciTaken ..⟩
  case notPrimary =>
    rintro c r req rest k s hin hrun ⟨hkey, hmic⟩ hclass
    have h := answered_omciTaken (rest := rest) (req := req) hkey 9 []
    exact does_omciMessage_notPrimary hin hrun hmic hclass ⟨⟨h.pon, h.ctrs⟩, frame_omciTaken ..⟩
  case ownCode =>
    rintro c r code req rest k s hin hrun ⟨hkey, hmic⟩ hclass ⟨hact, hcode⟩
    have h := answered_omciTaken (rest := rest) (req := req) hkey code.toNat []
    have hne : code.toNat ≠ 0 := fun e => hcode (BitVec.eq_of_toNat_eq e)
    refine does_omciMessage_served hin hrun hmic hclass ?_
    rw [omciAct_answer hact, if_neg hne]
    exact ⟨⟨h.pon, h.ctrs⟩, frame_omciTaken ..⟩
  case get =>
    rintro c r req rest k s hin hrun ⟨hkey, hmic⟩ hclass ⟨hact, hop, hkeep⟩
    have h := answered_omciTaken (rest := rest) (req := req) hkey 0 (s.omciValues c r)
    refine does_omciMessage_served hin hrun hmic hclass ?_
    rw [omciAct_get hact hop hkeep]
    exact ⟨⟨h.pon, h.ctrs⟩, frame_omciTaken ..⟩
  case change =>
    rintro c r req rest k s hin hrun ⟨hkey, hmic⟩ hclass ⟨hact, hop, hkeep, howned⟩
    have hkept : r.op ≠ .delete := by
      obtain h | h := hop
      all_goals
        rw [h]
        decide
    have hleft : attrsLeft r = some r.attrs := if_neg hkept
    have h := answered_withStw (rest := rest) (req := req) hkey (s.mibChanged c r (some r.attrs)) 0 []
    refine does_omciMessage_served hin hrun hmic hclass ?_
    rw [omciAct_change hact (by obtain h | h := hop; exacts [.inr (.inl h), .inl h]) hkeep howned, hleft]
    exact ⟨⟨h.pon, h.ctrs⟩, omciReply_stw .., frame_withStw ..⟩
  case delete =>
    rintro c r req rest k s hin hrun ⟨hkey, hmic⟩ hclass ⟨hact, hop, hkeep, howned⟩
    have h := answered_withStw (rest := rest) (req := req) hkey (s.mibChanged c r none) 0 []
    refine does_omciMessage_served hin hrun hmic hclass ?_
    rw [omciAct_change hact (.inr (.inr hop)) hkeep howned, attrsLeft, if_pos hop]
    exact ⟨⟨h.pon, h.ctrs⟩, omciReply_stw .., frame_withStw ..⟩
  case mibReset =>
    rintro c r req rest k s hin hrun ⟨hkey, hmic⟩ hclass ⟨hact, hop, hkeep⟩
    have h := answered_withStw (rest := rest) (req := req) hkey
      { s.stw with mibs := s.stw.mibs.set c { sync := 0, ents := [] } } 0 []
    refine does_omciMessage_served hin hrun hmic hclass ?_
    rw [omciAct_mibReset hact hop hkeep]
    exact ⟨⟨h.pon, h.ctrs⟩, omciReply_stw .., frame_withStw ..⟩
  case startDownload =>
    rintro c r cp req rest k s hin hrun ⟨hkey, hmic⟩ hclass ⟨hact, hcp, hsag⟩
    have h := (serves_omciTaken.flashBegun (fwBase cp.val) (List.replicate (2 ^ 23) 0xFF)).answered (s := s) (rest := rest)
      (req := req) hkey 0 []
    refine does_omciMessage_served hin hrun hmic hclass ?_
    rw [omciAct_startDownload (s := s.omciTaken c rest) hact hcp hsag]
    exact ⟨⟨h.pon, h.ctrs⟩, flash_flashBegun .., frame_flashBegun ..⟩
  case startRunning =>
    rintro c r cp req rest k s hin hrun ⟨hkey, hmic⟩ hclass ⟨hact, hcp⟩
    have h := answered_omciTaken (rest := rest) (req := req) hkey 1 []
    refine does_omciMessage_served hin hrun hmic hclass ?_
    rw [omciAct_running (s := s.omciTaken c rest) (.inl hact) hcp]
    exact ⟨⟨h.pon, h.ctrs⟩, frame_omciTaken ..⟩
  case programmed =>
    rintro c r cp off data req rest k s hin hrun ⟨hkey, hmic⟩ hclass ⟨hact, hcp, hsag, hfits⟩
    have h := (serves_omciTaken.flashBegun (fwBase cp.val + off.toNat) data).answered (s := s) (rest := rest) (req := req)
      hkey 0 []
    refine does_omciMessage_served hin hrun hmic hclass ?_
    rw [omciAct_section (s := s.omciTaken c rest) hact hcp hsag hfits]
    exact ⟨⟨h.pon, h.ctrs⟩, flash_flashBegun .., frame_flashBegun ..⟩
  case programRunning =>
    rintro c r cp off data req rest k s hin hrun ⟨hkey, hmic⟩ hclass ⟨hact, hcp⟩
    have h := answered_omciTaken (rest := rest) (req := req) hkey 1 []
    refine does_omciMessage_served hin hrun hmic hclass ?_
    rw [omciAct_running (s := s.omciTaken c rest) (.inr ⟨off, data, hact⟩) hcp]
    exact ⟨⟨h.pon, h.ctrs⟩, frame_omciTaken ..⟩
  case endDownload =>
    rintro c r cp req rest k s hin hrun ⟨-, hmic⟩ hclass ⟨hact, hverify⟩
    have h := switchBegun_firmware (s := s.omciTaken c rest) (v := 0xA5C30000 + cp.val * 256 + 5) cp true (by simp [b2n])
      hrun.1 hverify
    refine does_omciMessage_served hin hrun hmic hclass ?_
    rw [omciAct_endDownload (s := s.omciTaken c rest) hact hverify]
    generalize (s.omciTaken c rest).wrStwCtrl (0xA5C30000 + cp.val * 256 + 5) = u at h ⊢
    have hpon : u.pon = s.pon.set c { s.pn c with omciIn := rest } := by
      rw [h.frame]
      rfl
    have hctrs : u.ctrs = (s.count (stwB + Ctr.STW.OMCI_RX)).ctrs := by
      rw [h.frame]
      rfl
    have hframe : u = { s with pon := u.pon, ctrs := u.ctrs, stw := u.stw, regs := u.regs } := by
      conv_rhs => rw [hpon, hctrs]
      exact h.frame
    refine ⟨hpon, hctrs, ?_, h.verifying, ?_, h.regs⟩
    · rw [h.stw]
      rfl
    · exact congrArg (fun x : State => { x with stw := { u.stw with download := some (c.val, req) } }) hframe
  case activate =>
    rintro c r cp req rest k s hin hrun ⟨hkey, hmic⟩ hclass ⟨hact, hverify⟩
    have h := answered_omciTaken (rest := rest) (req := req) hkey 0 []
    have hframe := omciReply_frame (s := s.omciTaken c rest) (c := c) (req := req) 0 []
    refine does_omciMessage_served hin hrun hmic hclass ?_
    rw [omciAct_activate hact, State.omciAnswer]
    generalize (s.omciTaken c rest).omciReply c req 0 [] = u at h hframe ⊢
    have hstw : u.stw = s.stw := by
      rw [hframe]
      rfl
    have hregs : u.regs = s.regs := by
      rw [hframe]
      rfl
    have hswitch := switchBegun_firmware (s := u) (v := 0xA5C30000 + cp.val * 256 + 1) cp false (by simp [b2n])
      ((fld_of_regs _ _ hregs).trans hrun.1) (by rw [hstw, hverify])
    generalize u.wrStwCtrl (0xA5C30000 + cp.val * 256 + 1) = t at hswitch ⊢
    have hpon : t.pon = u.pon := by rw [hswitch.frame]
    have hctrs : t.ctrs = u.ctrs := by rw [hswitch.frame]
    refine ⟨⟨hpon.trans h.pon, hctrs.trans h.ctrs⟩, ?_, hswitch.verifying, ?_, fun a ha => ?_⟩
    · rw [hswitch.stw, hstw]
    · conv_rhs => rw [hpon, hctrs]
      exact hswitch.frame.trans (congrArg (fun x : State => { x with stw := t.stw, regs := t.regs }) hframe)
    · exact (hswitch.regs a ha).trans (congrArg (fun m => SMap.get resetWord m a) hregs)
  case commit =>
    rintro c r cp req rest k s hin hrun ⟨hkey, hmic⟩ hclass hact
    have h := (serves_omciTaken.copyCommitted cp).answered (s := s) (rest := rest) (req := req) hkey 0 []
    refine does_omciMessage_served hin hrun hmic hclass ?_
    rw [omciAct_commit hact]
    have hregs : ∀ b f, (((s.omciTaken c rest).copyCommitted cp).omciReply c req 0 []).fld b f =
        ((s.omciTaken c rest).copyCommitted cp).fld b f := fun b f =>
      fld_of_regs b f (omciReply_regs ..)
    refine ⟨⟨h.pon, h.ctrs⟩, ?_, omciReply_ledger .., ?_, ?_, ?_⟩
    · rw [hregs]
      exact preferB_copyCommitted cp
    · rw [hregs]
      exact floor_copyCommitted cp
    · rw [omciReply_ledger, omciReply_regs]
      exact omciReply_frame ..
    · exact regsBut_of_regs (regsBut_copyCommitted (s := s.omciTaken c rest) cp) (omciReply_regs ..)
  case optics =>
    rintro c r m req rest k s hin hrun ⟨hkey, hmic⟩ hclass ⟨hact, hop, hkeep⟩
    have h := (serves_omciTaken.of_eq rfl ⟨rfl, rfl, rfl⟩ rfl rfl : Serves c rest s
      ((s.omciTaken c rest).emit (.optics c m))).answered (req := req) hkey 0 []
    refine does_omciMessage_served hin hrun hmic hclass ?_
    rw [omciAct_optics hact hop hkeep]
    refine ⟨⟨h.pon, h.ctrs⟩, omciReply_out .., ?_⟩
    rw [omciReply_out]
    exact omciReply_frame ..
  case syncTime =>
    rintro c r req rest k s hin hrun ⟨hkey, hmic⟩ hclass ⟨hact, hop, hkeep⟩
    have h := answered_withStw (rest := rest) (req := req) hkey (s.omciTaken c rest).pmAnew 0 []
    refine does_omciMessage_served hin hrun hmic hclass ?_
    rw [omciAct_syncTime hact hop hkeep, pmSync_eq]
    refine ⟨⟨h.pon, h.ctrs⟩, ?_, ?_, ?_, ?_, frame_withStw ..⟩
    all_goals rw [omciReply_stw]
    · rfl
    · rfl
    · rfl
    · exact (pmAnew_base _).trans pmCounters_omciTaken_other
  case uniFixed =>
    rintro c r req rest k s hin hrun ⟨hkey, hmic⟩ hclass hact
    have h := answered_omciTaken (rest := rest) (req := req) hkey 3 []
    refine does_omciMessage_served hin hrun hmic hclass ?_
    rw [omciAct_uniFixed hact]
    exact ⟨⟨h.pon, h.ctrs⟩, frame_omciTaken ..⟩
  case twinFlow =>
    rintro c r b sf st hm x req rest k s hin hrun ⟨hkey, hmic⟩ hclass hact
    have h := answered_omciTaken (rest := rest) (req := req) hkey 3 []
    refine does_omciMessage_served hin hrun hmic hclass ?_
    rw [omciAct_twinFlow_noPort hact]
    exact ⟨⟨h.pon, h.ctrs⟩, frame_omciTaken ..⟩
  case pollIdle => exact fun c optics s hidle => ⟨s, exec_opticsPoll_idle hidle, rfl⟩
  case poll =>
    rintro c optics s ⟨hrun, hnow, hosp⟩
    have hc : c.val < 2 := c.isLt
    refine ⟨_, exec_opticsPoll hrun hnow hosp, ?_⟩
    have h := opticsPolled_holds c optics s
    generalize s.opticsPolled c optics = t at h ⊢
    refine ⟨h.sd, h.sf, ?_, ?_, fun q hlow hhigh => ?_, h.step.stw, h.step.offered.pon, h.step.offered.queued,
      h.step.offered.noKey, fun hsame => ?_, h.step.frame, h.step.offered.ctrs⟩
    · exact List.all_eq_true.2 fun i hi => beq_iff_eq.2 (h.optics i (List.mem_range.1 hi))
    · exact List.all_eq_true.2 fun n hn => beq_iff_eq.2 (h.unis n (List.mem_range.1 hn))
    · refine h.step.others q ?_
      rw [mem_pollAlarms]
      omega
    · rw [Bool.and_eq_true, List.all_eq_true, List.all_eq_true] at hsame
      obtain ⟨hlow, hhigh⟩ := hsame
      refine h.step.unchanged fun q hq => ?_
      obtain ⟨i, hi, rfl⟩ | ⟨n, hn, rfl⟩ := exists_of_mem_pollAlarms hq
      · exact beq_iff_eq.1 (hlow i (List.mem_range.2 hi))
      · exact beq_iff_eq.1 (hhigh n (List.mem_range.2 hn))

end Sys2Proof.Machine
end

section
/-! Proof support: what the operations of a PON island's receiver leave (R74 to R84). -/

namespace Sys2Proof.Machine

variable {s t u : State} {c : PonCh}

/-! ### Registers of one channel -/

/-- Every register but those at the listed offsets of a PON island reads as before. -/
def PnRegs (c : PonCh) (l : List Nat) (s t : State) : Prop := RegsBut (l.map fun o => pnB c + o) s t

theorem PnRegs.refl (c : PonCh) (l : List Nat) (s : State) : PnRegs c l s s := fun _ _ => rfl

theorem PnRegs.of_regs {l : List Nat} (h : t.regs = s.regs) : PnRegs c l s t := fun a _ =>
  congrArg (fun m => SMap.get resetWord m a) h

theorem PnRegs.mono {l m : List Nat} (h : PnRegs c l s t) (hlm : l ⊆ m) : PnRegs c m s t :=
  regsBut_mono h (List.map_subset _ hlm)

theorem PnRegs.trans {l : List Nat} (h : PnRegs c l s t) (k : PnRegs c l t u) : PnRegs c l s u := fun a ha =>
  (k a ha).trans (h a ha)

theorem PnRegs.reg {l : List Nat} (h : PnRegs c l s t) {o : Nat} (ho : o ∉ l) : t.reg (pnB c + o) = s.reg (pnB c + o) := by
  refine h _ fun hmem => ?_
  obtain ⟨o', ho', heq⟩ := List.mem_map.1 hmem
  have he : o' = o := by omega
  exact ho (he ▸ ho')

theorem PnRegs.pf {l : List Nat} (h : PnRegs c l s t) {f : Fld} (hf : f.off ∉ l) : t.pf c f = s.pf c f := fld_congr (h.reg hf)

theorem PnRegs.bit {l : List Nat} (h : PnRegs c l s t) {f : Fld} (hf : f.off ∉ l) : t.bit (pnB c) f = s.bit (pnB c) f :=
  bit_congr (h.reg hf)

/-- The registers of the islands below the PON islands are others. -/
theorem PnRegs.below {l : List Nat} (h : PnRegs c l s t) {a : Nat} (ha : a < pnB 0) : t.reg a = s.reg a := by
  refine h a fun hmem => ?_
  obtain ⟨o, -, heq⟩ := List.mem_map.1 hmem
  have hle : pnB 0 ≤ pnB c := Nat.mul_le_mul_right _ (Nat.le_add_right ..)
  omega

theorem PnRegs.live {l : List Nat} (h : PnRegs c l s t) (id : Nat) : t.live id = s.live id := by
  unfold State.live
  rw [h.below]
  split
  · decide
  · decide

theorem pnRegs_setPf {l : List Nat} {f : Fld} (v : Nat) (hf : f.off ∈ l) : PnRegs c l s (s.setPf c f v) := fun a ha =>
  regsBut_setF (pnB c) f v a fun hmem => ha (List.mem_map.2 ⟨f.off, hf, (List.mem_singleton.1 hmem).symm⟩)

theorem setPf_frame (f : Fld) (v : Nat) : s.setPf c f v = { s with regs := (s.setPf c f v).regs } := rfl

theorem frame_setPf (h : t = { s with regs := t.regs }) (f : Fld) (v : Nat) :
    t.setPf c f v = { s with regs := (t.setPf c f v).regs } :=
  (setPf_frame f v).trans (congrArg (fun x : State => { x with regs := (t.setPf c f v).regs }) h)

/-! ### Fields of one channel -/

theorem pf_setPf_same {f : Fld} (v : Nat) (hf : f.lo + f.width ≤ 32) : (s.setPf c f v).pf c f = v % 2 ^ f.width :=
  fld_setF_same s _ _ _ hf

theorem pf_setPf_other {f g : Fld} (v : Nat) (hf : f.lo + f.width ≤ 32)
    (h : g.off ≠ f.off ∨ f.lo + f.width ≤ g.lo ∨ g.lo + g.width ≤ f.lo) : (s.setPf c f v).pf c g = s.pf c g :=
  fld_setF_other s v hf (h.imp_left fun hne he => hne (Nat.add_left_cancel he))

theorem bit_setPf_num {f : Fld} {n : Nat} (v : Bool) (hn : n = b2n v) (hf : f.lo + f.width ≤ 32) (hw : f.width = 1) :
    (s.setPf c f n).bit (pnB c) f = v := by
  subst hn
  have h : (s.setPf c f (b2n v)).fld (pnB c) f = b2n v % 2 ^ f.width := pf_setPf_same _ hf
  unfold State.bit
  rw [h, hw]
  cases v with
  | false => rfl
  | true => rfl

theorem bit_setPf_same {f : Fld} (v : Bool) (hf : f.lo + f.width ≤ 32) (hw : f.width = 1) :
    (s.setPf c f (b2n v)).bit (pnB c) f = v := bit_setPf_num v rfl hf hw

theorem bit_setPf_other {f g : Fld} (v : Nat) (hf : f.lo + f.width ≤ 32)
    (h : g.off ≠ f.off ∨ f.lo + f.width ≤ g.lo ∨ g.lo + g.width ≤ f.lo) :
    (s.setPf c f v).bit (pnB c) g = s.bit (pnB c) g := congrArg (· != 0) (pf_setPf_other v hf h)

theorem bit_of_pf {f : Fld} (h : t.pf c f = s.pf c f) : t.bit (pnB c) f = s.bit (pnB c) f := congrArg (· != 0) h

/-! ### One channel's part -/

theorem setPn_eq (x : PonState) : s.setPn c x = { s with pon := s.pon.set c x } := by
  unfold State.setPn
  rw [chIx_val]

theorem setPn_setPn (x y : PonState) : (s.setPn c x).setPn c y = s.setPn c y := by
  unfold State.setPn
  dsimp only
  rw [pair_set_set]

theorem pn_of_pon {d : Nat} (h : t.pon = s.pon) : t.pn d = s.pn d := by
  unfold State.pn
  rw [h]

theorem beforePon_of_counting (h : t.counting = s.counting) : t.beforePon = s.beforePon := by
  unfold State.beforePon
  rw [h]

theorem pn_of_pon_set {x : PonState} (h : t.pon = s.pon.set c x) : t.pn c = x := by
  rw [pn_eq_get, h, pair_get_set_same]

theorem pn_other_of_pon_set {x : PonState} (h : t.pon = s.pon.set c x) : t.pn (1 - c.val) = s.pn (1 - c.val) := by
  have hne : ∀ c : PonCh, chIx (1 - c.val) ≠ c := by decide
  unfold State.pn
  rw [h, pair_get_set_other _ _ (hne c)]

/-! ### Events and counters -/

theorem pRaise_evt_congr {l : List Nat} (hevt : t.evt = s.evt) (hregs : PnRegs c l s t) (d gap src : Nat)
    (fs : List (Nat × Nat)) : (t.pRaise d gap src fs).evt = (s.pRaise d gap src fs).evt :=
  raise_evt_congr hevt (hregs.live _) ..

theorem raiseMs_evt_congr (hevt : t.evt = s.evt) (hlive : t.live 0x3C = s.live 0x3C) (hnow : t.now = s.now)
    (sub src isl inst : Nat) (fs : List (Nat × Nat)) :
    (t.raiseMs sub src isl inst fs).evt = (s.raiseMs sub src isl inst fs).evt := by
  have hraise := raise_evt_congr hevt hlive src isl inst fs
  unfold State.raiseMs State.raiseLim
  rw [hevt, hnow]
  dsimp only
  split
  · rw [raise_now, raise_now, hraise, hnow]
  · exact hevt

theorem pRaiseMs_evt_congr {l : List Nat} (hevt : t.evt = s.evt) (hregs : PnRegs c l s t) (hnow : t.now = s.now)
    (d gap src sub : Nat) (fs : List (Nat × Nat)) : (t.pRaiseMs d gap src sub fs).evt = (s.pRaiseMs d gap src sub fs).evt :=
  raiseMs_evt_congr hevt (hregs.live _) hnow ..

theorem raiseMs_eq (sub src isl inst : Nat) (fs : List (Nat × Nat)) :
    s.raiseMs sub src isl inst fs = { s with evt := (s.raiseMs sub src isl inst fs).evt } := by
  unfold State.raiseMs State.raiseLim
  dsimp only
  rw [raise_eq]
  split
  · rfl
  · rfl

theorem pRaise_eq (d gap src : Nat) (fs : List (Nat × Nat)) :
    s.pRaise d gap src fs = { s with evt := (s.pRaise d gap src fs).evt } := raise_eq ..

theorem pRaiseMs_eq (d gap src sub : Nat) (fs : List (Nat × Nat)) :
    s.pRaiseMs d gap src sub fs = { s with evt := (s.pRaiseMs d gap src sub fs).evt } := raiseMs_eq ..

theorem pCount_eq (d off n : Nat) : s.pCount d off n = { s with ctrs := (s.pCount d off n).ctrs } := count_eq ..

/-! ### The equaliser adapts (R75, R103) -/

/-- Whether the equaliser has adapted since it was last looked at. -/
def State.adapts (s : State) (c : PonCh) : Bool := s.bit (pnB c) F.PN_RX_EQ.ADAPT && !s.bit (pnB c) F.PN_RX_STAT.LOS

/-- What looking at the equaliser leaves. -/
structure Adapted (c : PonCh) (s t : State) : Prop where
  free : t.freeNext = s.freeNext + b2n (s.adapts c)
  frozen : s.adapts c = false → (t.pn c).taps = (s.pn c).taps ∧ t.pf c F.PN_RX_EQ.CTLE = s.pf c F.PN_RX_EQ.CTLE
  pon : t.pon = s.pon.set c { s.pn c with taps := (t.pn c).taps }
  frame : t = { s with freeNext := t.freeNext, pon := t.pon, regs := t.regs }
  regs : PnRegs c [0x4] s t

/-- The coefficients that a free value gives the taps in use. -/
def tapsOf (n r : Nat) : List Nat := (List.range n).map fun i => r / 16 / 256 ^ i % 256

theorem adapt_of_not (h : s.adapts c = false) : s.adapt c = s := if_neg (Bool.eq_false_iff.1 h)

theorem adapt_of_adapts (h : s.adapts c = true) : s.adapt c =
    (s.takeFree.1.setPf c F.PN_RX_EQ.CTLE s.takeFree.2).setPn c { s.pn c with
      taps := tapsOf ((s.takeFree.1.setPf c F.PN_RX_EQ.CTLE s.takeFree.2).tapCount c) s.takeFree.2 } := if_pos h

theorem adapted_adapt : Adapted c s (s.adapt c) := by
  cases h : s.adapts c with
  | false =>
    rw [adapt_of_not h]
    refine ⟨?_, fun _ => ⟨rfl, rfl⟩, (pon_set_pn c).symm, rfl, .refl c _ s⟩
    rw [h]
    rfl
  | true =>
    rw [adapt_of_adapts h]
    refine ⟨?_, fun hnot => ?_, ?_, rfl, pnRegs_setPf (s := s.takeFree.1) _ (.head _)⟩
    · rw [h]
      rfl
    · rw [h] at hnot
      exact Bool.noConfusion hnot
    · rw [pn_setPn_same, setPn_eq]
      rfl

end Sys2Proof.Machine
end

section
/-! Proof support: loss of signal, and the alignment machine outside SYNC (R74, R76, R78). -/

namespace Sys2Proof.Machine

variable {s t u : State} {c : PonCh}

/-! ### LOS is shown (R74) -/

/-- LOS has changed, and is reported. -/
def State.losShown (s : State) (c : PonCh) (v : Bool) : State :=
  ((s.adapt c).setPf c F.PN_RX_STAT.LOS (b2n v)).pRaiseMs c 13 Ev.PN_RX_LOS (b2n v) [(1, b2n v)]

/-- What a change of LOS leaves, with the equaliser frozen at what it has come to. -/
structure LosShown (c : PonCh) (v : Bool) (s t : State) : Prop where
  los : t.bit (pnB c) F.PN_RX_STAT.LOS = v
  stat : ∀ f : Fld, f.off = 0x8 → f.lo + f.width ≤ 31 → t.pf c f = s.pf c f
  evt : t.evt = (s.pRaiseMs c 13 Ev.PN_RX_LOS (b2n v) [(1, b2n v)]).evt
  free : t.freeNext = s.freeNext + b2n (s.adapts c)
  frozen : s.adapts c = false → (t.pn c).taps = (s.pn c).taps ∧ t.pf c F.PN_RX_EQ.CTLE = s.pf c F.PN_RX_EQ.CTLE
  pon : t.pon = s.pon.set c { s.pn c with taps := (t.pn c).taps }
  frame : t = { s with freeNext := t.freeNext, pon := t.pon, evt := t.evt, regs := t.regs }
  regs : PnRegs c [0x4, 0x8] s t

theorem losShown_holds (v : Bool) : LosShown c v s (s.losShown c v) := by
  unfold State.losShown
  obtain ⟨hfree, hfrozen, hpon, hframe, hregs⟩ := adapted_adapt (s := s) (c := c)
  generalize s.adapt c = x at hfree hfrozen hpon hframe hregs ⊢
  have hlos := bit_setPf_same (s := x) (c := c) (f := F.PN_RX_STAT.LOS) v (by decide) rfl
  have hother := fun g h => pf_setPf_other (s := x) (c := c) (f := F.PN_RX_STAT.LOS) (g := g) (b2n v) (by decide) h
  have hset : x.setPf c F.PN_RX_STAT.LOS (b2n v) = { x with regs := (x.setPf c F.PN_RX_STAT.LOS (b2n v)).regs } := rfl
  have hregs' : PnRegs c [0x4, 0x8] s (x.setPf c F.PN_RX_STAT.LOS (b2n v)) :=
    (hregs.mono (by decide)).trans (pnRegs_setPf _ (by decide))
  generalize x.setPf c F.PN_RX_STAT.LOS (b2n v) = y at hlos hother hset hregs' ⊢
  have hraise := pRaiseMs_eq (s := y) c 13 Ev.PN_RX_LOS (b2n v) [(1, b2n v)]
  have hevt := pRaiseMs_evt_congr (s := s) (t := y) (c := c) (by rw [hset, hframe]) hregs' (by rw [hset, hframe]) c 13
    Ev.PN_RX_LOS (b2n v) [(1, b2n v)]
  generalize y.pRaiseMs c 13 Ev.PN_RX_LOS (b2n v) [(1, b2n v)] = z at hraise hevt ⊢
  obtain ⟨n, p, r, rfl⟩ : ∃ n p r, x = { s with freeNext := n, pon := p, regs := r } := ⟨_, _, _, hframe⟩
  obtain ⟨r', rfl⟩ : ∃ r', y = { s with freeNext := n, pon := p, regs := r' } := ⟨_, hset⟩
  obtain ⟨e, rfl⟩ : ∃ e, z = { s with freeNext := n, pon := p, regs := r', evt := e } := ⟨_, hraise⟩
  refine ⟨hlos, fun f hoff hf => ?_, hevt, hfree, fun hnot => ?_, hpon, rfl, hregs'⟩
  · exact (hother f (.inr (.inr hf))).trans (hregs.pf (by rw [hoff]; decide))
  · exact ⟨(hfrozen hnot).1, (hother _ (.inl (by decide))).trans (hfrozen hnot).2⟩

theorem LosShown.align {v : Bool} (h : LosShown c v s t) : t.align c = s.align c := h.stat _ rfl (by decide)

theorem setLos_of_same {v : Bool} (h : s.bit (pnB c) F.PN_RX_STAT.LOS = v) : s.setLos c v = s := if_pos h

/-- A change of LOS that leaves the alignment machine alone. -/
theorem setLos_of_quiet {v : Bool} (h : s.bit (pnB c) F.PN_RX_STAT.LOS ≠ v) (hquiet : v = false ∨ (s.align c ≠ 1 ∧ s.align c ≠ 2)) :
    s.setLos c v = s.losShown c v := by
  have halign : (s.losShown c v).align c = s.align c := (losShown_holds v).align
  exact (if_neg h).trans (if_pos (by rw [← halign] at hquiet; exact hquiet))

theorem setLos_of_presync (h : s.bit (pnB c) F.PN_RX_STAT.LOS = false) (halign : s.align c = 1) :
    s.setLos c true = (s.losShown c true).alignLeave c 0 := by
  have hshown : (s.losShown c true).align c = 1 := (losShown_holds true).align.trans halign
  have hne : ¬ (true = false ∨ ((s.losShown c true).align c ≠ 1 ∧ (s.losShown c true).align c ≠ 2)) := by
    rw [hshown]
    decide
  refine (if_neg (by rw [h]; decide)).trans ((if_neg hne).trans ?_)
  exact congrArg (fun x : State => x.alignLeave c 0) (if_neg (by rw [← State.losShown, hshown]; decide))

/-! ### The candidates are shown (R78) -/

/-- The open candidates are replaced, and the machine's state is shown. -/
def State.candsShown (s : State) (c : PonCh) (l : List Cand) (new : Nat) : State :=
  (s.setCands c l).setPf c F.PN_RX_STAT.STATE new

theorem setCands_eq (l : List Cand) : s.setCands c l =
    ({ s with pon := s.pon.set c { s.pn c with cands := l } } : State).setPf c F.PN_RX_STAT.CANDS l.length := by
  unfold State.setCands
  rw [setPn_eq]

/-- What showing other candidates leaves. -/
structure CandsShown (c : PonCh) (l : List Cand) (s t : State) : Prop where
  pon : t.pon = s.pon.set c { s.pn c with cands := l }
  frame : t = { s with pon := t.pon, regs := t.regs }
  regs : PnRegs c [0x8] s t

theorem CandsShown.pn {l : List Cand} (h : CandsShown c l s t) : t.pn c = { s.pn c with cands := l } := pn_of_pon_set h.pon

theorem candsShown_setCands (l : List Cand) : CandsShown c l s (s.setCands c l) := by
  rw [setCands_eq]
  exact ⟨rfl, rfl, pnRegs_setPf (s := { s with pon := _ }) _ (by decide)⟩

theorem candsShown_holds (l : List Cand) (new : Nat) : CandsShown c l s (s.candsShown c l new) := by
  obtain ⟨hpon, hframe, hregs⟩ := candsShown_setCands (s := s) (c := c) l
  unfold State.candsShown
  generalize s.setCands c l = x at hpon hframe hregs ⊢
  exact ⟨(setF_pon ..).trans hpon, (setPf_frame ..).trans
      (congrArg (fun z : State => { z with regs := (x.setPf c F.PN_RX_STAT.STATE new).regs }) hframe),
    hregs.trans (pnRegs_setPf _ (by decide))⟩

theorem pf_setPn (x : PonState) (f : Fld) : (s.setPn c x).pf c f = s.pf c f := rfl

theorem pf_setCands (l : List Cand) {f : Fld} (hf : f.off ≠ 0x8 ∨ 28 ≤ f.lo ∨ f.lo + f.width ≤ 25) :
    (s.setCands c l).pf c f = s.pf c f :=
  (pf_setPf_other (s := s.setPn c _) (f := F.PN_RX_STAT.CANDS) _ (by decide) hf).trans (pf_setPn _ f)

theorem align_setCands (l : List Cand) : (s.setCands c l).align c = s.align c := pf_setCands l (.inr (.inl (by decide)))

theorem align_candsShown (l : List Cand) {new : Nat} (hnew : new < 4) : (s.candsShown c l new).align c = new :=
  (pf_setPf_same _ (by decide)).trans (Nat.mod_eq_of_lt hnew)

theorem cands_setCands {l : List Cand} (hl : l.length < 8) : (s.setCands c l).pf c F.PN_RX_STAT.CANDS = l.length :=
  (pf_setPf_same (s := s.setPn c _) _ (by decide)).trans (Nat.mod_eq_of_lt hl)

theorem cands_candsShown {l : List Cand} (new : Nat) (hl : l.length < 8) :
    (s.candsShown c l new).pf c F.PN_RX_STAT.CANDS = l.length :=
  (pf_setPf_other _ (by decide) (by decide)).trans (cands_setCands hl)

theorem stat_candsShown (l : List Cand) (new : Nat) {f : Fld} (hf : f.off ≠ 0x8 ∨ 30 ≤ f.lo) :
    (s.candsShown c l new).pf c f = s.pf c f :=
  (pf_setPf_other (f := F.PN_RX_STAT.STATE) _ (by decide) (hf.imp id .inl)).trans
    (pf_setCands l (hf.imp id fun h => .inl (Nat.le_trans (by decide) h)))

theorem alignLeave_of_not_sync {new : Nat} (h : s.align c ≠ 2) : s.alignLeave c new = s.candsShown c [] new := if_pos h

end Sys2Proof.Machine
end

section
/-! Proof support: a write of PN_RX_CTRL, and loss of signal outside SYNC (R53, R74, R76, R78). -/

namespace Sys2Proof.Machine

variable {s t u : State} {c : PonCh}

/-! ### PN_RX_CTRL is written (R53, R76) -/

/-- The specification of PN_RX_CTRL. -/
def rxCtrlSpec : RegSpec :=
  ⟨0x0, [], [⟨F.PN_RX_CTRL.LOS_POL, .rwl, 0x0⟩, ⟨F.PN_RX_CTRL.MODE, .rw, 0x0⟩, ⟨F.PN_RX_CTRL.ENABLE, .rw, 0x1⟩]⟩

theorem findReg_rxCtrl : ∀ c : PonCh, findReg (pnB c) = some rxCtrlSpec := by decide +kernel

theorem pf_rxCtrl {f : Fld} (hf : f.off = 0) : s.pf c f = f.of (s.reg (pnB c)).toNat := by
  unfold State.pf State.fld
  rw [hf, Nat.add_zero]

/-- What a store leaves in PN_RX_CTRL. -/
def State.rxCtrlWord (s : State) (c : PonCh) (v : Nat) : Nat :=
  rxCtrlSpec.fields.foldl (fun w f => storeField s.sealed w v f) (s.reg (pnB c)).toNat

/-- A store that changes no locked field is never refused by the seal. -/
theorem store_of_noHit {a v : Nat} {r : RegSpec} (hr : findReg a = some r) (hhit : lockHit (s.reg a).toNat v r.fields = false) :
    s.store a v = s.setReg a (BitVec.ofNat 32 (r.fields.foldl (fun w f => storeField s.sealed w v f) (s.reg a).toNat)) := by
  unfold State.store
  rw [hr]
  dsimp only
  rw [hhit, Bool.and_false, if_neg Bool.false_ne_true]

theorem lockHit_rxCtrl {w v : Nat} (h : F.PN_RX_CTRL.LOS_POL.of w = F.PN_RX_CTRL.LOS_POL.of v) :
    lockHit w v rxCtrlSpec.fields = false := by
  simp [lockHit, rxCtrlSpec, h]

theorem store_rxCtrl {v : Nat} (hpol : F.PN_RX_CTRL.LOS_POL.of v = s.pf c F.PN_RX_CTRL.LOS_POL) :
    s.store (pnB c) v = s.setReg (pnB c) (BitVec.ofNat 32 (s.rxCtrlWord c v)) :=
  store_of_noHit (findReg_rxCtrl c) (lockHit_rxCtrl ((pf_rxCtrl rfl).symm.trans hpol.symm))

theorem rxCtrlWord_eq (v : Nat) : s.rxCtrlWord c v = F.PN_RX_CTRL.ENABLE.ins (F.PN_RX_CTRL.MODE.ins
    (if s.sealed then (s.reg (pnB c)).toNat else F.PN_RX_CTRL.LOS_POL.ins (s.reg (pnB c)).toNat (F.PN_RX_CTRL.LOS_POL.of v))
    (F.PN_RX_CTRL.MODE.of v)) (F.PN_RX_CTRL.ENABLE.of v) := rfl

theorem rxCtrlWord_lt (v : Nat) : s.rxCtrlWord c v < 2 ^ 32 := by
  rw [rxCtrlWord_eq]
  refine Fld.ins_lt _ _ _ (Fld.ins_lt _ _ _ ?_ (by decide)) (by decide)
  split
  · exact (s.reg _).isLt
  · exact Fld.ins_lt _ _ _ (s.reg _).isLt (by decide)

/-- What a store in PN_RX_CTRL that keeps LOS_POL leaves. -/
structure RxCtrlStored (c : PonCh) (v : Nat) (s t : State) : Prop where
  enable : t.pf c F.PN_RX_CTRL.ENABLE = F.PN_RX_CTRL.ENABLE.of v
  mode : t.pf c F.PN_RX_CTRL.MODE = F.PN_RX_CTRL.MODE.of v
  losPol : t.pf c F.PN_RX_CTRL.LOS_POL = s.pf c F.PN_RX_CTRL.LOS_POL
  frame : t = { s with regs := t.regs }
  regs : PnRegs c [0x0] s t

theorem rxCtrlStored_store {v : Nat} (hpol : F.PN_RX_CTRL.LOS_POL.of v = s.pf c F.PN_RX_CTRL.LOS_POL) :
    RxCtrlStored c v s (s.store (pnB c) v) := by
  have hfld : ∀ f : Fld, f.off = 0 →
      (s.setReg (pnB c) (BitVec.ofNat 32 (s.rxCtrlWord c v))).pf c f = f.of (s.rxCtrlWord c v) := fun f hf => by
    rw [pf_rxCtrl hf, reg_setReg_same, BitVec.toNat_ofNat, Nat.mod_eq_of_lt (rxCtrlWord_lt v)]
  rw [store_rxCtrl hpol]
  refine ⟨?_, ?_, ?_, rfl, fun a ha => reg_setReg_other (s := s) _ fun e =>
    ha (List.mem_map.2 ⟨0, .head _, (Nat.add_zero _).trans e.symm⟩)⟩
  · rw [hfld _ rfl, rxCtrlWord_eq, Fld.of_ins_same]
    exact Nat.mod_eq_of_lt (Fld.of_lt ..)
  · rw [hfld _ rfl, rxCtrlWord_eq, Fld.of_ins_other _ _ _ _ (by decide), Fld.of_ins_same]
    exact Nat.mod_eq_of_lt (Fld.of_lt ..)
  · rw [hfld _ rfl, rxCtrlWord_eq, Fld.of_ins_other _ _ _ _ (by decide), Fld.of_ins_other _ _ _ _ (by decide)]
    split
    · exact (pf_rxCtrl rfl).symm
    · rw [Fld.of_ins_same, ← hpol]
      exact Nat.mod_eq_of_lt (Fld.of_lt ..)

/-- LOS as its two conditions stand. -/
def State.losNow (s : State) (c : PonCh) : Bool :=
  ((s.pn c).rxlos != s.bit (pnB c) F.PN_RX_CTRL.LOS_POL) || !s.bit (pnB c) F.PN_RX_STAT.CDR_LOCK

theorem showLos_of_steady (h : s.bit (pnB c) F.PN_RX_STAT.LOS = s.losNow c) : s.showLos c = s := setLos_of_same h

/-- A write of PN_RX_CTRL that changes ENABLE alone. -/
theorem wrRxCtrl_of_enable {v : Nat} (hpon : s.beforePon = false) (hlos : s.bit (pnB c) F.PN_RX_STAT.LOS = s.losNow c)
    (hchk : s.bit (pnB c) F.PN_PRBS_CTRL.CHK_EN = false) (hmode : F.PN_RX_CTRL.MODE.of v = s.pf c F.PN_RX_CTRL.MODE)
    (hpol : F.PN_RX_CTRL.LOS_POL.of v = s.pf c F.PN_RX_CTRL.LOS_POL)
    (hon : (F.PN_RX_CTRL.ENABLE.of v != 0) ≠ s.bit (pnB c) F.PN_RX_CTRL.ENABLE) (halign : s.align c ≠ 2) :
    s.wrRxCtrl c v = (s.store (pnB c) v).candsShown c [] (if F.PN_RX_CTRL.ENABLE.of v != 0 then 0 else 3) := by
  obtain ⟨henable, hmode', hpol', hframe, hregs⟩ := rxCtrlStored_store hpol
  unfold State.wrRxCtrl
  generalize s.store (pnB c) v = x at henable hmode' hpol' hframe hregs ⊢
  have hnow : x.bit (pnB c) F.PN_RX_CTRL.ENABLE = (F.PN_RX_CTRL.ENABLE.of v != 0) := congrArg (· != 0) henable
  have hpn : x.pn c = s.pn c := pn_of_pon (by rw [hframe])
  have hbefore : x.beforePon = false := (beforePon_of_counting (by rw [hframe])).trans hpon
  have hsteady : x.showLos c = x := by
    refine showLos_of_steady ?_
    unfold State.losNow at hlos ⊢
    rw [hregs.bit (f := F.PN_RX_STAT.LOS) (by decide), hregs.bit (f := F.PN_RX_STAT.CDR_LOCK) (by decide), bit_of_pf hpol',
      hlos, hpn]
  have hxgs : x.xgs c = s.xgs c := bit_of_pf (hmode'.trans hmode)
  have hchk' : x.bit (pnB c) F.PN_PRBS_CTRL.CHK_EN = false := (hregs.bit (by decide)).trans hchk
  have halign' : x.align c ≠ 2 := fun h => halign ((hregs.pf (f := F.PN_RX_STAT.STATE) (by decide)).symm.trans h)
  dsimp only
  rw [if_neg (by rw [hmode]; simp), hsteady, hxgs, if_pos rfl, hnow, hbefore, hchk', if_neg (by simp [Ne.symm hon]),
    alignLeave_of_not_sync halign']

end Sys2Proof.Machine
end

section
/-! Proof support: patterns outside SYNC, and the frame that begins in SYNC (R77 to R81, R114). -/

namespace Sys2Proof.Machine

variable {s t u : State} {c : PonCh} {x : PsyncIn}

/-! ### Patterns the machine sees -/

/-- Whether a pattern is correct: its header decodes, with no more errors than TOL. -/
def State.patternOk (s : State) (c : PonCh) (x : PsyncIn) : Bool := x.hecOk && decide (x.errs ≤ s.pf c F.PN_ALIGN_CFG.TOL)

theorem patternOk_of (hhec : x.hecOk = true) (herrs : x.errs ≤ s.pf c F.PN_ALIGN_CFG.TOL) : s.patternOk c x = true := by
  unfold State.patternOk
  rw [hhec, decide_eq_true herrs]
  rfl

section Patterns

variable {P : State → Prop} (hlive : s.live (0x08 + c.val) = true) (hpon : s.beforePon = false)
  (hlos : s.bit (pnB c) F.PN_RX_STAT.LOS = false)

include hlive hpon hlos

theorem exec_psyncPattern (h3 : s.align c ≠ 3) : exec (.psyncPattern c x) s =
    .next (if s.align c = 2 then
        (if x.pos = (s.pn c).lockPos then s.syncPattern c (s.patternOk c x) x.sfc.toNat x.st else s)
      else
        match (s.pn c).cands.find? fun k => decide (k.pos = x.pos) with
        | some k => s.candPattern c k (s.patternOk c x) x.sfc.toNat
        | none => if s.patternOk c x then s.newPattern c x.pos x.sfc.toNat else s) := by
  have hheld : ¬ (s.beforePon = true ∨ s.align c = 3 ∨ s.bit (pnB c) F.PN_RX_STAT.LOS = true) := by
    rw [hpon, hlos]
    simp [h3]
  exact congrArg Host.Outcome.next ((if_pos hlive).trans (if_neg hheld))

theorem does_psyncPattern_sync (halign : s.align c = 2) (hpos : x.pos = (s.pn c).lockPos)
    (hp : P (s.syncPattern c (s.patternOk c x) x.sfc.toNat x.st)) : Does (.psyncPattern c x) s P := by
  refine ⟨_, exec_psyncPattern hlive hpon hlos (by rw [halign]; decide), ?_⟩
  rw [if_pos halign, if_pos hpos]
  exact hp

theorem does_psyncPattern_cand {k : Cand} (halign : s.align c < 2)
    (hfind : ((s.pn c).cands.find? fun k => decide (k.pos = x.pos)) = some k)
    (hp : P (s.candPattern c k (s.patternOk c x) x.sfc.toNat)) : Does (.psyncPattern c x) s P := by
  refine ⟨_, exec_psyncPattern hlive hpon hlos (by omega), ?_⟩
  rw [if_neg (by omega), hfind]
  exact hp

theorem does_psyncPattern_new (halign : s.align c < 2)
    (hfind : ((s.pn c).cands.find? fun k => decide (k.pos = x.pos)) = none) (hok : s.patternOk c x = true)
    (hp : P (s.newPattern c x.pos x.sfc.toNat)) : Does (.psyncPattern c x) s P := by
  refine ⟨_, exec_psyncPattern hlive hpon hlos (by omega), ?_⟩
  rw [if_neg (by omega), hfind]
  dsimp only
  rw [if_pos hok]
  exact hp

end Patterns

/-! ### Candidates (R78) -/

theorem newPattern_of_full {pos sfc : Nat} (hfull : 4 ≤ (s.pn c).cands.length) : s.newPattern c pos sfc =
    (s.pCount c Ctr.PN.CAND_FULL).pRaise c 13 Ev.PN_CAND_FULL
      [(2, (s.pCount c Ctr.PN.CAND_FULL).ctr (pnB c + Ctr.PN.CAND_FULL))] := if_pos hfull

theorem newPattern_of_room {pos sfc : Nat} (hroom : (s.pn c).cands.length < 4) (hn : s.alignN c ≠ 1) :
    s.newPattern c pos sfc = s.candsShown c ((s.pn c).cands ++ [{ pos, count := 1, sfc := sfcNext sfc }]) 1 :=
  (if_neg (Nat.not_le.2 hroom)).trans (if_neg hn)

theorem candPattern_of_lock {k : Cand} {sfc : Nat} (hsfc : sfc = k.sfc) (hn : s.alignN c ≤ k.count + 1) :
    s.candPattern c k true sfc = s.alignLock c k.pos sfc := by
  unfold State.candPattern
  rw [decide_eq_true hsfc, Bool.and_self, if_pos rfl, if_pos hn]

theorem candPattern_of_confirm {k : Cand} {sfc : Nat} (hsfc : sfc = k.sfc) (hn : k.count + 1 < s.alignN c) :
    s.candPattern c k true sfc = s.setCands c ((s.pn c).cands.map fun x =>
      if x = k then { k with count := k.count + 1, sfc := sfcNext sfc } else x) := by
  unfold State.candPattern
  rw [decide_eq_true hsfc, Bool.and_self, if_pos rfl, if_neg (Nat.not_le.2 hn)]

theorem candPattern_of_wrong {k : Cand} {ok : Bool} {sfc : Nat} (hwrong : ok = false ∨ sfc ≠ k.sfc) :
    s.candPattern c k ok sfc = (s.pCount c Ctr.PN.CAND_FALSE).candsShown c ((s.pn c).cands.filter fun x => decide (x ≠ k))
      (if ((s.pn c).cands.filter fun x => decide (x ≠ k)).isEmpty then 0 else 1) := by
  have hno : (ok && decide (sfc = k.sfc)) = false := by
    obtain h | h := hwrong
    · rw [h, Bool.false_and]
    · rw [decide_eq_false h, Bool.and_false]
  unfold State.candPattern
  rw [hno]
  rfl

/-! ### A frame begins (R114, R117, R133) -/

/-- A channel whose next PHY frame has begun. -/
def PonState.begun (p : PonState) (s : State) (c : PonCh) : PonState :=
  { p with
    frame := p.frame + 1, tRef := s.now, fsLost := false, bwLost := false, payLost := false, marks := [], prevOk := false
    eqdUse := if s.bit (pnB c) F.PN_EQD.VALID then s.pf c F.PN_EQD.EQD else 0
    profUse := (s.regWords (pnB c + 0x190) 4).map (·.toNat) }

theorem frameStart_eq : s.frameStart c = s.setPn c ((s.pn c).begun s c) := rfl

theorem begun_congr {p : PonState} (hregs : PnRegs c [0x8, 0x78, 0x7c] s t) (hnow : t.now = s.now) :
    p.begun t c = p.begun s c := by
  have hwords : t.regWords (pnB c + 0x190) 4 = s.regWords (pnB c + 0x190) 4 :=
    List.map_congr_left fun i _ => by
      rw [Nat.add_assoc]
      refine hregs.reg fun hmem => ?_
      simp only [List.mem_cons, List.not_mem_nil, or_false] at hmem
      omega
  unfold PonState.begun
  rw [hwords, hnow, hregs.bit (f := F.PN_EQD.VALID) (by decide), hregs.pf (f := F.PN_EQD.EQD) (by decide)]

/-! ### The SFC is shown (R81, R103) -/

theorem pnRegs_setSfc (v : Nat) : PnRegs c [0x78, 0x7c] s (s.setSfc c v) :=
  (pnRegs_setPf _ (by decide)).trans (pnRegs_setPf _ (by decide))

theorem setSfc_frame (v : Nat) : s.setSfc c v = { s with regs := (s.setSfc c v).regs } := rfl

theorem sfcCur_setSfc {v : Nat} (hv : v < 2 ^ 51) : (s.setSfc c v).sfcCur c = v := by
  have hlo : (s.setSfc c v).pf c F.PN_SFC_CUR_LO.SFC = v % 2 ^ 32 :=
    (pf_setPf_other _ (by decide) (by decide)).trans ((pf_setPf_same _ (by decide)).trans (Nat.mod_mod ..))
  have hhi : (s.setSfc c v).pf c F.PN_SFC_CUR_HI.SFC = v / 2 ^ 32 :=
    (pf_setPf_same _ (by decide)).trans (Nat.mod_eq_of_lt (by
      change v / 2 ^ 32 < 2 ^ 19
      omega))
  unfold State.sfcCur
  rw [hlo, hhi]
  omega

theorem PnRegs.sfcCur {l : List Nat} (h : PnRegs c l s t) (hl : 0x78 ∉ l ∧ 0x7c ∉ l) : t.sfcCur c = s.sfcCur c := by
  unfold State.sfcCur
  rw [h.pf (f := F.PN_SFC_CUR_LO.SFC) hl.1, h.pf (f := F.PN_SFC_CUR_HI.SFC) hl.2]

/-! ### A frame in SYNC -/

/-- The frame that a pattern in SYNC begins. -/
def State.syncFrame (s : State) (c : PonCh) : State :=
  ((s.setSfc c (sfcNext (s.sfcCur c))).pCount c Ctr.PN.FRAMES_SYNC).frameStart c

/-- What the frame that a pattern in SYNC begins leaves, with `p` the channel's part and `k` a state that has counted
what it counts. -/
structure SyncFrame (c : PonCh) (p : PonState) (k s t : State) : Prop where
  sfc : t.sfcCur c = sfcNext (s.sfcCur c)
  pon : t.pon = s.pon.set c p
  ctrs : CtrsLike k t
  frame : t = { s with pon := t.pon, ctrs := t.ctrs, regs := t.regs }
  regs : PnRegs c [0x78, 0x7c] s t

theorem syncFrame_holds : SyncFrame c ((s.pn c).begun s c) (s.pCount c Ctr.PN.FRAMES_SYNC) s (s.syncFrame c) := by
  have hsfc := sfcCur_setSfc (s := s) (c := c) (v := sfcNext (s.sfcCur c)) (Nat.mod_lt _ (by decide))
  have hregs := pnRegs_setSfc (s := s) (c := c) (sfcNext (s.sfcCur c))
  have hframe := setSfc_frame (s := s) (c := c) (sfcNext (s.sfcCur c))
  unfold State.syncFrame
  generalize s.setSfc c (sfcNext (s.sfcCur c)) = y at hsfc hregs hframe ⊢
  have hlike : CtrsLike s y := by
    rw [hframe]
    exact ⟨rfl, rfl, rfl⟩
  have hcount := hlike.count (pnB c + Ctr.PN.FRAMES_SYNC) 1
  have hz := pCount_eq (s := y) c Ctr.PN.FRAMES_SYNC 1
  change CtrsLike _ (y.pCount c Ctr.PN.FRAMES_SYNC) at hcount
  generalize y.pCount c Ctr.PN.FRAMES_SYNC = z at hcount hz ⊢
  have hzregs : PnRegs c [0x78, 0x7c] s z := hregs.trans (.of_regs (by rw [hz]))
  have hpon : z.pon = s.pon := by rw [hz, hframe]
  have hzsfc : z.sfcCur c = y.sfcCur c := PnRegs.sfcCur (l := []) (.of_regs (by rw [hz])) (by decide)
  rw [frameStart_eq, begun_congr (hzregs.mono (by decide)) (by rw [hz, hframe]), pn_of_pon hpon, setPn_eq, hpon]
  obtain ⟨r, rfl⟩ : ∃ r, y = { s with regs := r } := ⟨_, hframe⟩
  obtain ⟨k, rfl⟩ : ∃ k, z = { s with regs := r, ctrs := k } := ⟨_, hz⟩
  exact ⟨hzsfc.trans hsfc, rfl, ⟨hcount.ctrs, hcount.counting, hcount.mcCounting⟩, rfl, hzregs⟩

end Sys2Proof.Machine
end

section
/-! Proof support: the time-of-day capture (R101, R102), and what a pattern in SYNC leaves (R81). -/

namespace Sys2Proof.Machine

variable {s t u : State} {c : PonCh}

/-! ### Four registers are written -/

/-- The offsets of four registers in a row. -/
def fourFrom (o : Nat) : List Nat := [o, o + 4, o + 8, o + 12]

/-- What writing four registers of a PON island leaves. -/
structure FourSet (c : PonCh) (o : Nat) (l : List Word) (s t : State) : Prop where
  words : t.regWords (pnB c + o) 4 = l
  frame : t = { s with regs := t.regs }
  regs : PnRegs c (fourFrom o) s t

theorem setRegs_frame (a : Nat) (l : List Word) : s.setRegs a l = { s with regs := (s.setRegs a l).regs } := by
  induction l generalizing s a with
  | nil => rfl
  | cons w ws ih => exact (ih (s := s.setReg a w) (a + 4)).trans rfl

theorem reg_setRegs_four (a : Nat) (w x y z : Word) : (s.setRegs a [w, x, y, z]).reg a = w ∧
    (s.setRegs a [w, x, y, z]).reg (a + 4) = x ∧ (s.setRegs a [w, x, y, z]).reg (a + 8) = y ∧
    (s.setRegs a [w, x, y, z]).reg (a + 12) = z := by
  have h8 : a + 4 + 4 = a + 8 := rfl
  have h12 : a + 4 + 4 + 4 = a + 12 := rfl
  simp only [State.setRegs, h8, h12]
  refine ⟨?_, ?_, ?_, reg_setReg_same ..⟩
  · rw [reg_setReg_other _ _ (show a ≠ a + 12 by omega), reg_setReg_other _ _ (show a ≠ a + 8 by omega),
      reg_setReg_other _ _ (show a ≠ a + 4 by omega), reg_setReg_same]
  · rw [reg_setReg_other _ _ (show a + 4 ≠ a + 12 by omega), reg_setReg_other _ _ (show a + 4 ≠ a + 8 by omega),
      reg_setReg_same]
  · rw [reg_setReg_other _ _ (show a + 8 ≠ a + 12 by omega), reg_setReg_same]

theorem regWords_four (a : Nat) : s.regWords a 4 = [s.reg a, s.reg (a + 4), s.reg (a + 8), s.reg (a + 12)] := rfl

theorem fourSet_setRegs (o : Nat) (w x y z : Word) : FourSet c o [w, x, y, z] s (s.setRegs (pnB c + o) [w, x, y, z]) := by
  obtain ⟨h0, h1, h2, h3⟩ := reg_setRegs_four (s := s) (pnB c + o) w x y z
  refine ⟨?_, setRegs_frame .., fun a ha => ?_⟩
  · rw [regWords_four, h0, h1, h2, h3]
  · simp only [fourFrom, List.map_cons, List.map_nil, List.mem_cons, List.not_mem_nil, or_false, not_or, ← Nat.add_assoc] at ha
    obtain ⟨n0, n1, n2, n3⟩ := ha
    simp only [State.setRegs]
    rw [reg_setReg_other _ _ n3, reg_setReg_other _ _ n2, reg_setReg_other _ _ n1, reg_setReg_other _ _ n0]

/-! ### A capture ends (R101) -/

/-- What the end of a capture leaves. -/
structure TodEnded (c : PonCh) (miss : Bool) (s t : State) : Prop where
  arm : t.bit (pnB c) F.PN_TOD_CTRL.ARM = false
  missed : t.bit (pnB c) F.PN_TOD_CTRL.MISS = miss
  evt : t.evt = (s.pRaise c 13 Ev.PN_TOD_DONE [(1, b2n (!miss)), (1, b2n miss), (4, s.todTarget c)]).evt
  stw : t.stw = if miss then { s.stw with todArm := s.stw.todArm.set c false } else s.stw
  frame : t = { s with stw := t.stw, evt := t.evt, regs := t.regs }
  regs : PnRegs c [0x60] s t

theorem todTarget_of_pon (h : t.pon = s.pon) : t.todTarget c = s.todTarget c := by
  unfold State.todTarget
  rw [pn_of_pon h]

theorem todEnded_todEnd (miss : Bool) : TodEnded c miss s (s.todEnd c miss) := by
  have harm : ((s.setPf c F.PN_TOD_CTRL.ARM 0).setPf c F.PN_TOD_CTRL.MISS (b2n miss)).bit (pnB c) F.PN_TOD_CTRL.ARM = false :=
    (bit_setPf_other _ (by decide) (by decide)).trans (bit_setPf_num false rfl (by decide) rfl)
  have hmiss : ((s.setPf c F.PN_TOD_CTRL.ARM 0).setPf c F.PN_TOD_CTRL.MISS (b2n miss)).bit (pnB c) F.PN_TOD_CTRL.MISS = miss :=
    bit_setPf_same miss (by decide) rfl
  have hregs : PnRegs c [0x60] s ((s.setPf c F.PN_TOD_CTRL.ARM 0).setPf c F.PN_TOD_CTRL.MISS (b2n miss)) :=
    (pnRegs_setPf _ (by decide)).trans (pnRegs_setPf _ (by decide))
  have hframe : (s.setPf c F.PN_TOD_CTRL.ARM 0).setPf c F.PN_TOD_CTRL.MISS (b2n miss) =
      { s with regs := ((s.setPf c F.PN_TOD_CTRL.ARM 0).setPf c F.PN_TOD_CTRL.MISS (b2n miss)).regs } :=
    frame_setPf (setPf_frame ..) ..
  unfold State.todEnd
  generalize (s.setPf c F.PN_TOD_CTRL.ARM 0).setPf c F.PN_TOD_CTRL.MISS (b2n miss) = y at harm hmiss hregs hframe ⊢
  have htarget : y.todTarget c = s.todTarget c := todTarget_of_pon (by rw [hframe])
  have hevt := pRaise_evt_congr (s := s) (t := y) (by rw [hframe]) hregs c 13 Ev.PN_TOD_DONE
    [(1, b2n (!miss)), (1, b2n miss), (4, s.todTarget c)]
  obtain ⟨r, rfl⟩ : ∃ r, y = { s with regs := r } := ⟨_, hframe⟩
  cases miss with
  | true =>
    have hmissed := pRaise_evt_congr (s := s)
      (t := { s with regs := r, stw := { s.stw with todArm := s.stw.todArm.set c false } }) rfl hregs c 13 Ev.PN_TOD_DONE
      [(1, b2n (!true)), (1, b2n true), (4, s.todTarget c)]
    dsimp only
    rw [if_pos rfl, chIx_val, pRaise_eq]
    exact ⟨harm, hmiss, hmissed, rfl, rfl, hregs⟩
  | false =>
    dsimp only
    rw [if_neg Bool.false_ne_true, htarget, pRaise_eq]
    exact ⟨harm, hmiss, hevt, rfl, rfl, hregs⟩

/-! ### The frame's time is captured (R101, R323) -/

/-- The registers of a capture. -/
def todRegs : List Nat := [0x60, 0x68, 0x6C, 0x70, 0x74]

/-- The words a time is shown in. -/
def timeWords (t : Nat) : List Word :=
  [BitVec.ofNat 32 (timeSec t), BitVec.ofNat 32 (timeSec t / 2 ^ 32), BitVec.ofNat 32 (timeNs t),
    BitVec.ofNat 32 (2 ^ 31 + timeFrac t)]

/-- A time is shown, and the island's range starts anew. -/
def State.timeShown (s : State) (c : PonCh) (time : Nat) : State :=
  { s.putTime (pnB c + 0x68) time with tim := { s.tim with rangedSince := s.tim.rangedSince.set c false } }

theorem todSteward_of_idle (h : s.stw.todArm.get c = false ∨ s.fld stwB F.STW_STAT.STATE ≠ 1) : s.todSteward c = s := by
  unfold State.todSteward
  rw [chIx_val]
  refine if_neg ?_
  obtain h | h := h
  · rw [h]
    simp
  · simp [h]

/-- What a capture leaves. -/
structure Captured (c : PonCh) (time : Nat) (s t : State) : Prop where
  arm : t.bit (pnB c) F.PN_TOD_CTRL.ARM = false
  missed : t.bit (pnB c) F.PN_TOD_CTRL.MISS = false
  words : t.regWords (pnB c + 0x68) 4 = timeWords time
  tim : t.tim = { s.tim with rangedSince := s.tim.rangedSince.set c false }
  evt : t.evt = (s.pRaise c 13 Ev.PN_TOD_DONE [(1, 1), (1, 0), (4, s.todTarget c)]).evt
  frame : t = { s with tim := t.tim, evt := t.evt, regs := t.regs }
  regs : PnRegs c todRegs s t

theorem PnRegs.words {l : List Nat} (h : PnRegs c l s t) {o : Nat} (ho : ∀ x ∈ l, x ∉ fourFrom o) :
    t.regWords (pnB c + o) 4 = s.regWords (pnB c + o) 4 := by
  have hreg : ∀ k ∈ fourFrom o, t.reg (pnB c + k) = s.reg (pnB c + k) := fun k hk => h.reg fun hl => ho k hl hk
  simp only [fourFrom, List.forall_mem_cons] at hreg
  obtain ⟨h0, h1, h2, h3, -⟩ := hreg
  rw [regWords_four, regWords_four, Nat.add_assoc, Nat.add_assoc, Nat.add_assoc, h0, h1, h2, h3]

theorem captured_todEnd (time : Nat) : Captured c time s ((s.timeShown c time).todEnd c false) := by
  obtain ⟨hwords, hset, hsetRegs⟩ := fourSet_setRegs (s := s) (c := c) 0x68 (BitVec.ofNat 32 (timeSec time))
    (BitVec.ofNat 32 (timeSec time / 2 ^ 32)) (BitVec.ofNat 32 (timeNs time)) (BitVec.ofNat 32 (2 ^ 31 + timeFrac time))
  unfold State.timeShown State.putTime
  generalize s.setRegs (pnB c + 0x68) [BitVec.ofNat 32 (timeSec time), BitVec.ofNat 32 (timeSec time / 2 ^ 32),
    BitVec.ofNat 32 (timeNs time), BitVec.ofNat 32 (2 ^ 31 + timeFrac time)] = y at hwords hset hsetRegs ⊢
  obtain ⟨r, rfl⟩ : ∃ r, y = { s with regs := r } := ⟨_, hset⟩
  dsimp only
  generalize hz : ({ s with regs := r, tim := { s.tim with rangedSince := s.tim.rangedSince.set c false } } : State) = z
  have hzregs : PnRegs c (fourFrom 0x68) s z := by
    rw [← hz]
    exact hsetRegs
  have hzwords : z.regWords (pnB c + 0x68) 4 = timeWords time := by
    rw [← hz]
    exact hwords
  obtain ⟨harm, hmissed, hevt, hstw, hframe, hregs⟩ := todEnded_todEnd (s := z) (c := c) false
  have htarget : z.todTarget c = s.todTarget c := todTarget_of_pon (by rw [← hz])
  have hraise := pRaise_evt_congr (s := s) (t := z) (by rw [← hz]) hzregs c 13 Ev.PN_TOD_DONE [(1, 1), (1, 0), (4, s.todTarget c)]
  rw [if_neg Bool.false_ne_true] at hstw
  rw [htarget] at hevt
  generalize z.todEnd c false = t at harm hmissed hevt hstw hframe hregs ⊢
  refine ⟨harm, hmissed, (hregs.words (by decide)).trans hzwords, ?_, hevt.trans hraise, ?_,
    (hzregs.mono (by decide)).trans (hregs.mono (by decide))⟩
  · rw [hframe, ← hz]
  · rw [hstw] at hframe
    obtain ⟨e, r', rfl⟩ : ∃ e r', t = { z with evt := e, regs := r' } := ⟨_, _, hframe⟩
    rw [← hz]

theorem stampTime_congr (htim : t.tim = s.tim) (hadj : t.adj = s.adj) (n : Nat) : t.stampTime n = s.stampTime n := by
  have hat : ∀ m, t.timeAt m = s.timeAt m := fun m => by
    unfold State.timeAt
    rw [htim, hadj]
  unfold State.stampTime State.adjTo
  rw [htim, hadj]
  simp only [hat]

theorem stampOff_congr (htim : t.tim = s.tim) (hnow : t.now = s.now) (isl : Nat) : t.stampOff isl = s.stampOff isl := by
  unfold State.stampOff State.repWaits
  rw [htim, hnow]

theorem sfld_congr {b : Nat} {f : Fld} (h : t.fld b f = s.fld b f) : t.sfld b f = s.sfld b f := by
  unfold State.sfld
  rw [h]

/-- The time a frame's first bit is captured at. -/
def State.captureTime (s : State) (c : PonCh) (st : StampIn) : Nat := s.stampRx (96 + c) st (s.captureLat c)

theorem captureTime_congr {l : List Nat} (htim : t.tim = s.tim) (hregs : PnRegs c l s t) (hl : 0 ∉ l) (st : StampIn) :
    t.captureTime c st = s.captureTime c st := by
  have htimer : ∀ f : Fld, timB + f.off < pnB 0 → t.fld timB f = s.fld timB f := fun f hf => fld_congr (hregs.below hf)
  have haon : ∀ f : Fld, aonB + f.off < pnB 0 → t.fld aonB f = s.fld aonB f := fun f hf => fld_congr (hregs.below hf)
  have hadj : t.adj = s.adj := by
    unfold State.adj
    rw [htimer F.TIM_RATE_LO.ADJ (by decide), htimer F.TIM_RATE_HI.ADJ (by decide)]
  have hlat : t.captureLat c = s.captureLat c := by
    unfold State.captureLat
    have hc : c.val < 2 := c.isLt
    have hmode : s.pf c F.PN_RX_CTRL.MODE < 2 := Fld.of_lt ..
    have hcap : aonB + (F.AON_HM_PON_CAP.LAT.at (8 * c.val + 4 * s.pf c F.PN_RX_CTRL.MODE)).off < pnB 0 := by
      change 0 * 0x100000 + (0x4F0 + (8 * c.val + 4 * s.pf c F.PN_RX_CTRL.MODE)) < 8 * 0x100000
      omega
    have hstrobe : aonB + (F.AON_HM_STROBE.RES.at (4 * (12 + c.val))).off < pnB 0 := by
      change 0 * 0x100000 + (0x480 + 4 * (12 + c.val)) < 8 * 0x100000
      omega
    rw [hregs.pf (f := F.PN_RX_CTRL.MODE) hl, sfld_congr (haon _ hcap), sfld_congr (haon _ hstrobe)]
  unfold State.captureTime State.stampRx
  rw [hlat, stampTime_congr htim hadj]

theorem stwStat_not_tod : ∀ c : PonCh, stwB + F.STW_STAT.STATE.off ∉ todRegs.map fun o => pnB c + o := by decide

/-- A capture by a replica that is loaded, which the Steward has not armed. -/
theorem captured_todCapture {st : StampIn} (hoff : s.stampOff (0x08 + c.val) = false)
    (hst : s.stw.todArm.get c = false ∨ s.fld stwB F.STW_STAT.STATE ≠ 1) :
    Captured c (s.captureTime c st) s (s.todCapture c st) := by
  have h := captured_todEnd (s := s) (c := c) (s.captureTime c st)
  have heq : s.todCapture c st = ((s.timeShown c (s.captureTime c st)).todEnd c false).todSteward c := by
    unfold State.todCapture State.timeShown
    rw [hoff, if_neg Bool.false_ne_true, chIx_val]
    rfl
  rw [heq, todSteward_of_idle]
  · exact h
  · have hstw : ((s.timeShown c (s.captureTime c st)).todEnd c false).stw = s.stw := by rw [h.frame]
    have hstate : ((s.timeShown c (s.captureTime c st)).todEnd c false).fld stwB F.STW_STAT.STATE =
        s.fld stwB F.STW_STAT.STATE :=
      fld_congr (h.regs _ (stwStat_not_tod c))
    rw [hstw, hstate]
    exact hst

end Sys2Proof.Machine
end

section
/-! Proof support: ARM (R101), a pattern in SYNC (R78, R81), and a decoded frame and its windows (R82 to R84). -/

namespace Sys2Proof.Machine

variable {s t u : State} {c : PonCh} {x : PsyncIn}

/-! ### ARM (R101) -/

/-- The target that ARM loads. -/
def State.armTarget (s : State) (c : PonCh) (hi : Nat) : Nat := hi * 2 ^ 32 + s.pf c F.PN_TOD_SFC_LO.SFC_LO

/-- ARM and MISS as a write of ARM leaves them. -/
def State.armShown (s : State) (c : PonCh) (hi : Nat) : State :=
  ((s.setPf c F.PN_TOD_CTRL.SFC_HI hi).setPf c F.PN_TOD_CTRL.ARM 1).setPf c F.PN_TOD_CTRL.MISS 0

/-- A capture is armed for its target, and the last one is cleared. -/
def State.todArmed (s : State) (c : PonCh) (hi : Nat) : State :=
  ((s.armShown c hi).setPn c { (s.armShown c hi).pn c with todSfc := (s.armShown c hi).todWritten c }).setRegs
    (pnB c + 0x68) [0, 0, 0, 0]

/-- What arming a capture leaves. -/
structure TodArmed (c : PonCh) (target : Nat) (s t : State) : Prop where
  arm : t.bit (pnB c) F.PN_TOD_CTRL.ARM = true
  missed : t.bit (pnB c) F.PN_TOD_CTRL.MISS = false
  words : t.regWords (pnB c + 0x68) 4 = [0, 0, 0, 0]
  pon : t.pon = s.pon.set c { s.pn c with todSfc := target }
  frame : t = { s with pon := t.pon, regs := t.regs }
  regs : PnRegs c todRegs s t

theorem TodArmed.target {target : Nat} (h : TodArmed c target s t) : t.todTarget c = target := by
  unfold State.todTarget
  rw [pn_of_pon_set h.pon]

theorem reg_of_regs (h : t.regs = s.regs) (a : Nat) : t.reg a = s.reg a := congrArg (fun m => SMap.get resetWord m a) h

theorem pnRegs_armShown (hi : Nat) : PnRegs c [0x60] s (s.armShown c hi) :=
  ((pnRegs_setPf _ (by decide)).trans (pnRegs_setPf _ (by decide))).trans (pnRegs_setPf _ (by decide))

theorem todArmed_holds {hi : Nat} (hhi : hi < 2 ^ 19) : TodArmed c (s.armTarget c hi) s (s.todArmed c hi) := by
  have harm : (s.armShown c hi).bit (pnB c) F.PN_TOD_CTRL.ARM = true :=
    (bit_setPf_other _ (by decide) (by decide)).trans (bit_setPf_num true rfl (by decide) rfl)
  have hmissed : (s.armShown c hi).bit (pnB c) F.PN_TOD_CTRL.MISS = false := bit_setPf_num false rfl (by decide) rfl
  have hhigh : (s.armShown c hi).pf c F.PN_TOD_CTRL.SFC_HI = hi :=
    (pf_setPf_other _ (by decide) (by decide)).trans ((pf_setPf_other _ (by decide) (by decide)).trans
      ((pf_setPf_same _ (by decide)).trans (Nat.mod_eq_of_lt hhi)))
  have hregs := pnRegs_armShown (s := s) (c := c) hi
  have hframe : s.armShown c hi = { s with regs := (s.armShown c hi).regs } := frame_setPf (frame_setPf (setPf_frame ..) ..) ..
  have hwritten : (s.armShown c hi).todWritten c = s.armTarget c hi := by
    unfold State.todWritten State.armTarget
    rw [hhigh, hregs.pf (f := F.PN_TOD_SFC_LO.SFC_LO) (by decide)]
  unfold State.todArmed
  rw [hwritten]
  clear hwritten
  generalize s.armTarget c hi = target
  generalize s.armShown c hi = y at harm hmissed hregs hframe ⊢
  rw [pn_of_pon (s := s) (t := y) (by rw [hframe]), setPn_eq, show y.pon = s.pon by rw [hframe]]
  have hset := fourSet_setRegs (s := { y with pon := s.pon.set c { s.pn c with todSfc := target } }) (c := c) 0x68 0 0 0 0
  obtain ⟨hwords, hframe', hset⟩ := hset
  generalize ({ y with pon := s.pon.set c { s.pn c with todSfc := target } } : State).setRegs (pnB c + 0x68)
    [0, 0, 0, 0] = z at hwords hframe' hset ⊢
  have hregs' : PnRegs c (fourFrom 0x68) y z := fun a ha =>
    (hset a ha).trans (reg_of_regs (s := y) (t := { y with pon := s.pon.set c { s.pn c with todSfc := target } }) rfl a)
  have hpon : z.pon = s.pon.set c { s.pn c with todSfc := target } := by rw [hframe']
  refine ⟨(hregs'.bit (by decide)).trans harm, (hregs'.bit (by decide)).trans hmissed, hwords, hpon, ?_,
    (hregs.mono (by decide)).trans (hregs'.mono (by decide))⟩
  obtain ⟨r, rfl⟩ : ∃ r, y = { s with regs := r } := ⟨_, hframe⟩
  rw [hpon]
  exact hframe'

theorem armWord_fields (hi : BitVec 19) : F.PN_TOD_CTRL.SFC_HI.of (2 ^ 31 + hi.toNat) = hi.toNat ∧
    F.PN_TOD_CTRL.ARM.of (2 ^ 31 + hi.toNat) = 1 := by
  have hlt := hi.isLt
  constructor
  · change (2 ^ 31 + hi.toNat) / 2 ^ 0 % 2 ^ 19 = hi.toNat
    omega
  · change (2 ^ 31 + hi.toNat) / 2 ^ 31 % 2 ^ 1 = 1
    omega

theorem wrTodCtrl_of_arm (hi : BitVec 19) : s.wrTodCtrl c (2 ^ 31 + hi.toNat) =
    if (s.todArmed c hi.toNat).align c = 2 ∧ (s.todArmed c hi.toNat).todTarget c ≤ (s.todArmed c hi.toNat).sfcCur c then
      (s.todArmed c hi.toNat).todEnd c true
    else s.todArmed c hi.toNat := by
  obtain ⟨hhigh, harm⟩ := armWord_fields hi
  unfold State.wrTodCtrl
  rw [hhigh, harm, if_neg (by decide)]
  rfl

/-! ### A pattern in SYNC (R78, R81) -/

/-- A correct pattern: the frame begins with no error counted. -/
def State.goodFrame (s : State) (c : PonCh) : State :=
  (s.syncFrame c).setPn c { (s.syncFrame c).pn c with errs := 0 }

theorem CtrsLike.pCount (h : CtrsLike s t) (off n : Nat) : CtrsLike (s.pCount c off n) (t.pCount c off n) := h.count ..

/-- An error of a pattern is counted. -/
def State.psbdCounted (s : State) (c : PonCh) (ok : Bool) : State :=
  if ok then (s.pCount c Ctr.PN.PSBD_ERR).pCount c Ctr.PN.SFC_MISMATCH else s.pCount c Ctr.PN.PSBD_ERR

theorem psbdCounted_true : s.psbdCounted c true = (s.pCount c Ctr.PN.PSBD_ERR).pCount c Ctr.PN.SFC_MISMATCH := if_pos rfl

theorem psbdCounted_false : s.psbdCounted c false = s.pCount c Ctr.PN.PSBD_ERR := if_neg Bool.false_ne_true

theorem ctrs_frame_trans (h : t = { s with ctrs := t.ctrs }) (k : u = { t with ctrs := u.ctrs }) :
    u = { s with ctrs := u.ctrs } := k.trans (congrArg (fun x : State => { x with ctrs := u.ctrs }) h)

theorem psbdCounted_eq (ok : Bool) : s.psbdCounted c ok = { s with ctrs := (s.psbdCounted c ok).ctrs } := by
  cases ok with
  | false =>
    rw [psbdCounted_false]
    exact pCount_eq ..
  | true =>
    rw [psbdCounted_true]
    exact ctrs_frame_trans (pCount_eq ..) (pCount_eq ..)

theorem CtrsLike.psbdCounted (h : CtrsLike s t) (ok : Bool) : CtrsLike (s.psbdCounted c ok) (t.psbdCounted c ok) := by
  cases ok with
  | false =>
    rw [psbdCounted_false, psbdCounted_false]
    exact h.pCount ..
  | true =>
    rw [psbdCounted_true, psbdCounted_true]
    exact (h.pCount ..).pCount ..

/-- A pattern in error: the frame begins with one error more. -/
def State.badFrame (s : State) (c : PonCh) (ok : Bool) : State :=
  ((s.syncFrame c).setPn c { (s.syncFrame c).pn c with errs := ((s.syncFrame c).pn c).errs + 1 }).psbdCounted c ok

theorem armBit_syncFrame : (s.syncFrame c).bit (pnB c) F.PN_TOD_CTRL.ARM = s.bit (pnB c) F.PN_TOD_CTRL.ARM :=
  syncFrame_holds.regs.bit (by decide)

/-- Whether the frame that begins is the one a capture is armed for. -/
def State.todHit (s : State) (c : PonCh) : Bool :=
  (s.syncFrame c).bit (pnB c) F.PN_TOD_CTRL.ARM && decide ((s.syncFrame c).todTarget c = sfcNext (s.sfcCur c))

theorem syncPattern_of_good {ok : Bool} {sfc : Nat} {st : StampIn} (hok : ok = true) (hsfc : sfc = sfcNext (s.sfcCur c)) :
    s.syncPattern c ok sfc st = if s.todHit c then (s.goodFrame c).todCapture c st else s.goodFrame c := by
  have hgood : (ok && decide (sfc = sfcNext (s.sfcCur c))) = true := by rw [hok, decide_eq_true hsfc, Bool.and_self]
  unfold State.syncPattern
  dsimp only
  rw [if_pos hgood]
  rfl

/-- An error below M that no capture waits for. -/
theorem syncPattern_of_bad {ok : Bool} {sfc : Nat} {st : StampIn} (hbad : ok = false ∨ sfc ≠ sfcNext (s.sfcCur c))
    (hit : s.todHit c = false)
    (hm : ((s.syncFrame c).pn c).errs + 1 < max 1 ((s.badFrame c ok).pf c F.PN_ALIGN_CFG.M)) :
    s.syncPattern c ok sfc st = s.badFrame c ok := by
  have hno : (ok && decide (sfc = sfcNext (s.sfcCur c))) = false := by
    obtain h | h := hbad
    · rw [h, Bool.false_and]
    · rw [decide_eq_false h, Bool.and_false]
  unfold State.todHit State.syncFrame at hit
  unfold State.badFrame State.psbdCounted State.syncFrame at hm ⊢
  unfold State.syncPattern
  dsimp only at hit hm ⊢
  rw [hno, if_neg Bool.false_ne_true, hit, if_neg Bool.false_ne_true, if_pos hm]

section Frames

variable {p : PonState} {k : State}

/-- A frame that begins with another part of the channel. -/
theorem SyncFrame.setPn (h : SyncFrame c p k s t) (q : PonState) : SyncFrame c q k s (t.setPn c q) := by
  obtain ⟨hsfc, hpon, hctrs, hframe, hregs⟩ := h
  have hset : t.setPn c q = { t with pon := s.pon.set c q } := by rw [setPn_eq, hpon, pair_set_set]
  have hreg : ∀ a, (t.setPn c q).reg a = t.reg a := reg_of_regs (s := t) (t := t.setPn c q) rfl
  refine ⟨?_, ?_, ?_, ?_, fun a ha => (hreg a).trans (hregs a ha)⟩
  · exact (PnRegs.sfcCur (l := []) (fun a _ => hreg a) (by decide)).trans hsfc
  · rw [hset]
  · rw [hset]
    exact ⟨hctrs.ctrs, hctrs.counting, hctrs.mcCounting⟩
  · rw [hset]
    obtain ⟨o, k, r, rfl⟩ : ∃ o k r, t = { s with pon := o, ctrs := k, regs := r } := ⟨_, _, _, hframe⟩
    rfl

theorem SyncFrame.pn (h : SyncFrame c p k s t) : t.pn c = p := pn_of_pon_set h.pon

/-- A frame that begins with an error counted. -/
theorem SyncFrame.psbdCounted (h : SyncFrame c p k s t) (ok : Bool) :
    SyncFrame c p (k.psbdCounted c ok) s (t.psbdCounted c ok) := by
  obtain ⟨hsfc, hpon, hctrs, hframe, hregs⟩ := h
  have hcount := hctrs.psbdCounted (c := c) ok
  have hz := psbdCounted_eq (s := t) (c := c) ok
  generalize t.psbdCounted c ok = z at hcount hz ⊢
  obtain ⟨o, m, r, rfl⟩ : ∃ o m r, t = { s with pon := o, ctrs := m, regs := r } := ⟨_, _, _, hframe⟩
  obtain ⟨m', rfl⟩ : ∃ m', z = { s with pon := o, ctrs := m', regs := r } := ⟨_, hz⟩
  exact ⟨hsfc, hpon, hcount, rfl, hregs⟩

end Frames

theorem goodFrame_holds :
    SyncFrame c { (s.pn c).begun s c with errs := 0 } (s.pCount c Ctr.PN.FRAMES_SYNC) s (s.goodFrame c) := by
  have h := syncFrame_holds (s := s) (c := c)
  have hgood := h.setPn { (s.syncFrame c).pn c with errs := 0 }
  rw [h.pn] at hgood
  unfold State.goodFrame
  rw [h.pn]
  exact hgood

theorem badFrame_holds (ok : Bool) : SyncFrame c { (s.pn c).begun s c with errs := (s.pn c).errs + 1 }
    ((s.pCount c Ctr.PN.FRAMES_SYNC).psbdCounted c ok) s (s.badFrame c ok) := by
  have h := syncFrame_holds (s := s) (c := c)
  have hbad := (h.setPn { (s.syncFrame c).pn c with errs := ((s.syncFrame c).pn c).errs + 1 }).psbdCounted ok
  rw [h.pn] at hbad
  unfold State.badFrame
  rw [h.pn]
  exact hbad

end Sys2Proof.Machine
end

section
/-! Proof support: a decoded frame, and the end of a BER window (R82 to R86). -/

namespace Sys2Proof.Machine

variable {s t u : State} {c : PonCh} {x : FrameIn}

/-! ### A frame is decoded (R82) -/

/-- The bits corrected in a frame. -/
def State.frameBits (s : State) (c : PonCh) (x : FrameIn) : Nat := ((s.goodWords c x).map (·.bits)).sum

/-- A frame's codewords and corrected bits are counted. -/
def State.frameCounted (s : State) (c : PonCh) (x : FrameIn) : State :=
  (((s.pCount c Ctr.PN.CW_TOTAL x.cws.length).pCount c Ctr.PN.CW_CORR
    (((s.goodWords c x).filter fun w => decide (w.need ≠ some 0)).length)).pCount c Ctr.PN.CW_UNCORR
    (s.badWords c x).length).pCount c Ctr.PN.BITS_CORR (s.frameBits c x)

/-- A channel with a frame's marks, whose window has one frame more. -/
def PonState.decoded (p : PonState) (bad : List Nat) (bits : Nat) : PonState :=
  { p with marks := bad, winFrames := p.winFrames + 1, winBits := p.winBits + bits }

/-- A frame's corrected bits are counted as an event, too. -/
def State.framePmc (s : State) (c : PonCh) (x : FrameIn) : State := (s.frameCounted c x).pmc 0x081 c (s.frameBits c x)

/-- A frame has been decoded. -/
def State.frameDecoded (s : State) (c : PonCh) (x : FrameIn) : State :=
  (s.framePmc c x).setPn c ((s.pn c).decoded (s.badWords c x) (s.frameBits c x))

/-- What a frame that is decoded leaves, with `p` the channel's part. -/
structure FrameDecoded (c : PonCh) (p : PonState) (k s t : State) : Prop where
  pon : t.pon = s.pon.set c p
  ctrs : CtrsLike k t
  frame : t = { s with pon := t.pon, ctrs := t.ctrs, evt := t.evt, sampN := t.sampN, regs := t.regs }
  regs : RegsBut pmcRegs s t

theorem frameCounted_eq : s.frameCounted c x = { s with ctrs := (s.frameCounted c x).ctrs } :=
  ctrs_frame_trans (ctrs_frame_trans (ctrs_frame_trans (pCount_eq ..) (pCount_eq ..)) (pCount_eq ..)) (pCount_eq ..)

theorem frameDecoded_holds : FrameDecoded c ((s.pn c).decoded (s.badWords c x) (s.frameBits c x)) (s.frameCounted c x) s
    (s.frameDecoded c x) := by
  have hframe := frameCounted_eq (s := s) (c := c) (x := x)
  unfold State.frameDecoded State.framePmc
  generalize (s.pn c).decoded (s.badWords c x) (s.frameBits c x) = p
  generalize s.frameCounted c x = y at hframe ⊢
  obtain ⟨hkeeps, hregs⟩ := pmcKeeps_pmc (s := y) 0x081 c (s.frameBits c x)
  generalize y.pmc 0x081 c (s.frameBits c x) = z at hkeeps hregs ⊢
  obtain ⟨k, rfl⟩ : ∃ k, y = { s with ctrs := k } := ⟨_, hframe⟩
  obtain ⟨r, e, n, rfl⟩ : ∃ r e n, z = { s with ctrs := k, regs := r, evt := e, sampN := n } := ⟨_, _, _, hkeeps⟩
  rw [setPn_eq]
  exact ⟨rfl, ⟨rfl, rfl, rfl⟩, rfl, fun a ha => hregs a ha⟩

/-! ### A frame without its header (R86) -/

/-- The loss of a frame's header is counted and reported, and its reassemblies are damaged. -/
def State.headerMarked (s : State) (c : PonCh) : State :=
  let y := (s.pCount c Ctr.PN.FS_HDR_ERR).damage c
  let z := y.setPn c { y.pn c with fsLost := true }
  z.pRaiseMs c 13 Ev.PN_FS_HDR_ERR 0 [(7, z.sfcCur c)]

/-- The header of a frame is lost, with its BWmap. -/
def State.headerLost (s : State) (c : PonCh) : State := (s.headerMarked c).bwmapLost c

/-- A channel that has lost a frame's header. -/
def PonState.headerLost (p : PonState) : PonState :=
  { p with fsLost := true, reasm := p.reasm.map fun r => { r with damaged := true } }

/-- The BWmap of a frame is lost. -/
def State.mapLost (s : State) (c : PonCh) : State :=
  ((s.pCount c Ctr.PN.UNCORR_DROP).setPn c { s.pn c with bwLost := true }).bwmapLost c

theorem pn_framePmc : (s.framePmc c x).pn c = s.pn c := by
  have hframe := frameCounted_eq (s := s) (c := c) (x := x)
  unfold State.framePmc
  generalize s.frameCounted c x = y at hframe ⊢
  have hkeeps := (pmcKeeps_pmc (s := y) 0x081 c (s.frameBits c x)).frame
  generalize y.pmc 0x081 c (s.frameBits c x) = z at hkeeps ⊢
  exact pn_of_pon (by rw [hkeeps, hframe])

theorem exec_phyFrameDecode (hlive : s.live (0x08 + c.val) = true) (halign : s.align c = 2) : exec (.phyFrameDecode c x) s =
    .next (if (!x.hdrOk || ({ s.pn c with marks := s.badWords c x } : PonState).marked x.hdr) = true then
        (s.frameDecoded c x).headerLost c
      else if ({ s.pn c with marks := s.badWords c x } : PonState).marked x.map = true then (s.frameDecoded c x).mapLost c
      else s.frameDecoded c x) := by
  unfold State.frameDecoded
  rw [← pn_framePmc (s := s) (c := c) (x := x)]
  refine congrArg Host.Outcome.next ((if_pos hlive).trans ?_)
  change (if s.align c ≠ 2 then s else _) = _
  exact if_neg (not_not.2 halign)

/-- What losing a BWmap leaves. -/
structure BwmapLost (c : PonCh) (s t : State) : Prop where
  ctrs : CtrsLike (s.pCount c Ctr.PN.BWMAP_LOST) t
  frame : t = { s with tally := t.tally, ctrs := t.ctrs, evt := t.evt }

theorem tallyFold_eq {α : Type} (p : Nat) (f : α → Nat) (l : List α) (s : State) :
    l.foldl (fun s a => s.tallyAdd p (f a)) s = { s with tally := (l.foldl (fun s a => s.tallyAdd p (f a)) s).tally } := by
  induction l generalizing s with
  | nil => rfl
  | cons a l ih => exact (ih (s.tallyAdd p (f a))).trans rfl

theorem bwmapLost_holds : BwmapLost c s (s.bwmapLost c) := by
  have hframe := pCount_eq (s := s) c Ctr.PN.BWMAP_LOST 1
  unfold State.bwmapLost
  generalize hy : s.pCount c Ctr.PN.BWMAP_LOST = y at hframe ⊢
  have hfold := tallyFold_eq (0x10 + c.val) (fun a => 16 * a) ((y.pn c).allocs.map (·.1)) y
  dsimp only
  generalize ((y.pn c).allocs.map (·.1)).foldl (fun s a => s.tallyAdd (0x10 + c.val) (16 * a)) y = z at hfold ⊢
  rw [pRaiseMs_eq]
  obtain ⟨k, rfl⟩ : ∃ k, y = { s with ctrs := k } := ⟨_, hframe⟩
  obtain ⟨n, rfl⟩ : ∃ n, z = { s with ctrs := k, tally := n } := ⟨_, hfold⟩
  refine ⟨?_, rfl⟩
  rw [hy]
  exact ⟨rfl, rfl, rfl⟩

/-- What losing a frame's header leaves, with `p` the channel's part. -/
structure HeaderLost (c : PonCh) (s t : State) : Prop where
  pon : t.pon = s.pon.set c (s.pn c).headerLost
  ctrs : CtrsLike ((s.pCount c Ctr.PN.FS_HDR_ERR).pCount c Ctr.PN.BWMAP_LOST) t
  frame : t = { s with tally := t.tally, pon := t.pon, ctrs := t.ctrs, evt := t.evt }

theorem headerMarked_eq : ∃ e, s.headerMarked c = { s with
    pon := s.pon.set c (s.pn c).headerLost, ctrs := (s.pCount c Ctr.PN.FS_HDR_ERR).ctrs, evt := e } := by
  have hframe := pCount_eq (s := s) c Ctr.PN.FS_HDR_ERR 1
  unfold State.headerMarked State.damage
  generalize s.pCount c Ctr.PN.FS_HDR_ERR = y at hframe ⊢
  have hpon : y.pon = s.pon := by rw [hframe]
  dsimp only
  rw [setPn_setPn, pn_setPn_same, setPn_eq, pn_of_pon hpon, hpon, pRaiseMs_eq]
  obtain ⟨k, rfl⟩ : ∃ k, y = { s with ctrs := k } := ⟨_, hframe⟩
  exact ⟨_, rfl⟩

theorem ctrsLike_of_pCount {off n : Nat} (hctrs : t.ctrs = (s.pCount c off n).ctrs) (hcounting : t.counting = s.counting)
    (hmc : t.mcCounting = s.mcCounting) : CtrsLike (s.pCount c off n) t :=
  ⟨hctrs, hcounting.trans (count_counting s (pnB c + off) n).symm, hmc.trans (count_mcCounting s (pnB c + off) n).symm⟩

theorem ctrsLike_of_marked {off n : Nat} {o : Pair PonState} {k : SMap Nat} {e : EvtState} (hk : (s.pCount c off n).ctrs = k)
    (ht : t = { s with pon := o, ctrs := k, evt := e }) : CtrsLike (s.pCount c off n) t := by
  rw [ht]
  exact ctrsLike_of_pCount hk.symm rfl rfl

theorem headerLost_of_marked {o : Pair PonState} {k : SMap Nat} {e : EvtState} (ho : o = s.pon.set c (s.pn c).headerLost)
    (ht : t = { s with pon := o, ctrs := k, evt := e }) (hu : u = { t with tally := u.tally, ctrs := u.ctrs, evt := u.evt })
    (hlike : CtrsLike ((s.pCount c Ctr.PN.FS_HDR_ERR).pCount c Ctr.PN.BWMAP_LOST) u) : HeaderLost c s u := by
  have hpon : u.pon = o := by rw [hu, ht]
  refine ⟨hpon.trans ho, hlike, ?_⟩
  rw [hpon]
  exact hu.trans (congrArg (fun x : State => { x with tally := u.tally, ctrs := u.ctrs, evt := u.evt }) ht)

theorem headerLost_holds : HeaderLost c s (s.headerLost c) := by
  obtain ⟨e, he⟩ := headerMarked_eq (s := s) (c := c)
  obtain ⟨hctrs, hframe⟩ := bwmapLost_holds (s := s.headerMarked c) (c := c)
  exact headerLost_of_marked rfl he hframe (((ctrsLike_of_marked rfl he).pCount Ctr.PN.BWMAP_LOST 1).trans hctrs)

/-! ### A BER window ends (R84, R134) -/

theorem berBit_of_over {on : Bool} {quiet n thr : Nat} (h : thr < n) : berBit on quiet n thr = (true, 0) := if_pos h

theorem berBit_of_quiet {on : Bool} {quiet n thr : Nat} (h : n ≤ thr) :
    (berBit on quiet n thr).1 = (on && decide (quiet < 9)) := by
  unfold berBit
  rw [if_neg (Nat.not_lt.2 h)]
  cases on with
  | false => rfl
  | true =>
    by_cases hq : 9 ≤ quiet
    · simp [hq]
    · simp [hq, Nat.lt_of_not_le hq]

/-- SD as the end of a window leaves it, and its count of quiet windows. -/
def State.berSd (s : State) (c : PonCh) (p : PonState) : Bool × Nat :=
  berBit (s.bit (pnB c) F.PN_RX_STAT.SD) p.sdQuiet p.winBits (s.pf c F.PN_FEC_SD_THR.THR)

/-- SF as the end of a window leaves it, and its count of quiet windows. -/
def State.berSf (s : State) (c : PonCh) (p : PonState) : Bool × Nat :=
  berBit (s.bit (pnB c) F.PN_RX_STAT.SF) p.sfQuiet p.winBits (s.pf c F.PN_FEC_SF_THR.THR)

/-- A channel whose window starts anew. -/
def PonState.windowAnew (p : PonState) (sd sf : Nat) : PonState :=
  { p with winFrames := 0, winBits := 0, sdQuiet := sd, sfQuiet := sf }

/-- SD and SF are shown, and the window starts anew. -/
def State.windowShown (s : State) (c : PonCh) (d f : Bool × Nat) : State :=
  ((s.setPn c ((s.pn c).windowAnew d.2 f.2)).setPf c F.PN_RX_STAT.SD (b2n d.1)).setPf c F.PN_RX_STAT.SF (b2n f.1)

/-- Changes of SD and SF are reported. -/
def State.berReported (s : State) (c : PonCh) (d f sd sf : Bool) (w : Nat) : State :=
  let s := if d = sd then s else s.pRaise c 13 Ev.PN_FEC_SD [(1, b2n d), (4, w)]
  if f = sf then s else s.pRaise c 13 Ev.PN_FEC_SF [(1, b2n f), (4, w)]

theorem evt_frame_trans (h : t = { s with evt := t.evt }) (k : u = { t with evt := u.evt }) : u = { s with evt := u.evt } :=
  k.trans (congrArg (fun x : State => { x with evt := u.evt }) h)

theorem berReported_eq (d f sd sf : Bool) (w : Nat) :
    s.berReported c d f sd sf w = { s with evt := (s.berReported c d f sd sf w).evt } := by
  unfold State.berReported
  dsimp only
  refine evt_frame_trans (t := if d = sd then s else s.pRaise c 13 Ev.PN_FEC_SD [(1, b2n d), (4, w)]) ?_ ?_
  · split
    · rfl
    · exact pRaise_eq ..
  · split
    · rfl
    · exact pRaise_eq ..

/-- The corrected bits of a window are shown. -/
def State.bitsShown (s : State) (c : PonCh) : State := s.setPf c F.PN_FEC_WIN.BITS (min 0xFFFFFFFF (s.pn c).winBits)

/-- The end of a window that has its frames. -/
def State.windowEnded (s : State) (c : PonCh) : State :=
  let y := s.bitsShown c
  let d := y.berSd c (s.pn c)
  let f := y.berSf c (s.pn c)
  ((y.windowShown c d f).berReported c d.1 f.1 (y.bit (pnB c) F.PN_RX_STAT.SD) (y.bit (pnB c) F.PN_RX_STAT.SF)
    (min 0xFFFFFFFF (s.pn c).winBits)).showRdi c

theorem exec_berWindowEnd (hlive : s.live (0x08 + c.val) = true) (halign : s.align c = 2)
    (hwin : max 1 (s.pf c F.PN_FEC_CFG.BER_WIN) ≤ (s.pn c).winFrames) : exec (.berWindowEnd c) s = .next (s.windowEnded c) := by
  have hrun : ¬ (s.align c ≠ 2 ∨ (s.pn c).winFrames < max 1 (s.pf c F.PN_FEC_CFG.BER_WIN)) := by
    rw [halign]
    omega
  refine congrArg Host.Outcome.next ((if_pos hlive).trans ?_)
  change (if s.align c ≠ 2 ∨ (s.pn c).winFrames < max 1 (s.pf c F.PN_FEC_CFG.BER_WIN) then s else _) = _
  exact if_neg hrun

/-- What the end of a window leaves. -/
structure WindowEnded (c : PonCh) (s t : State) : Prop where
  bits : t.pf c F.PN_FEC_WIN.BITS = min 0xFFFFFFFF (s.pn c).winBits
  sd : t.bit (pnB c) F.PN_RX_STAT.SD = (s.berSd c (s.pn c)).1
  sf : t.bit (pnB c) F.PN_RX_STAT.SF = (s.berSf c (s.pn c)).1
  pon : t.pon = s.pon.set c ((s.pn c).windowAnew (s.berSd c (s.pn c)).2 (s.berSf c (s.pn c)).2)
  frame : t = { s with pon := t.pon, evt := t.evt, regs := t.regs }
  regs : PnRegs c [0x2C, 0x8, 0x104] s t

theorem berSd_congr {l : List Nat} (h : PnRegs c l s t) (hl : 0x8 ∉ l ∧ 0x24 ∉ l) (p : PonState) : t.berSd c p = s.berSd c p := by
  unfold State.berSd
  rw [h.bit (f := F.PN_RX_STAT.SD) hl.1, h.pf (f := F.PN_FEC_SD_THR.THR) hl.2]

theorem berSf_congr {l : List Nat} (h : PnRegs c l s t) (hl : 0x8 ∉ l ∧ 0x28 ∉ l) (p : PonState) : t.berSf c p = s.berSf c p := by
  unfold State.berSf
  rw [h.bit (f := F.PN_RX_STAT.SF) hl.1, h.pf (f := F.PN_FEC_SF_THR.THR) hl.2]

/-- A step that changes one channel's part, to `p`, and registers of its island. -/
structure RxStep (c : PonCh) (l : List Nat) (p : PonState) (s t : State) : Prop where
  pon : t.pon = s.pon.set c p
  frame : t = { s with pon := t.pon, regs := t.regs }
  regs : PnRegs c l s t

theorem rxStep_setPn (l : List Nat) (p : PonState) : RxStep c l p s (s.setPn c p) := by
  rw [setPn_eq]
  exact ⟨rfl, rfl, .of_regs rfl⟩

theorem RxStep.setPf {l : List Nat} {p : PonState} (h : RxStep c l p s t) {f : Fld} (v : Nat) (hf : f.off ∈ l) :
    RxStep c l p s (t.setPf c f v) := by
  have hpon : (t.setPf c f v).pon = t.pon := setF_pon ..
  refine ⟨hpon.trans h.pon, ?_, h.regs.trans (pnRegs_setPf v hf)⟩
  rw [hpon]
  exact (setPf_frame f v).trans (congrArg (fun x : State => { x with regs := (t.setPf c f v).regs }) h.frame)

theorem rxStep_windowShown (d f : Bool × Nat) :
    RxStep c [0x8] ((s.pn c).windowAnew d.2 f.2) s (s.windowShown c d f) :=
  ((rxStep_setPn _ _).setPf _ (by decide)).setPf _ (by decide)

theorem sd_windowShown (d f : Bool × Nat) : (s.windowShown c d f).bit (pnB c) F.PN_RX_STAT.SD = d.1 :=
  (bit_setPf_other _ (by decide) (by decide)).trans (bit_setPf_same _ (by decide) rfl)

theorem sf_windowShown (d f : Bool × Nat) : (s.windowShown c d f).bit (pnB c) F.PN_RX_STAT.SF = f.1 :=
  bit_setPf_same _ (by decide) rfl

/-- The bits of a window that ends are shown, SD and SF follow, and RDI with them. -/
theorem windowEnded_of_steps {y z w : State} {d f : Bool × Nat} {v : Nat} (hd : d = s.berSd c (s.pn c))
    (hf : f = s.berSf c (s.pn c)) (hbits : y.pf c F.PN_FEC_WIN.BITS = min 0xFFFFFFFF (s.pn c).winBits)
    (hy : y = { s with regs := y.regs }) (hyregs : PnRegs c [0x2C] s y) (hz : RxStep c [0x8] ((s.pn c).windowAnew d.2 f.2) y z)
    (hsd : z.bit (pnB c) F.PN_RX_STAT.SD = d.1) (hsf : z.bit (pnB c) F.PN_RX_STAT.SF = f.1)
    (hw : w = { z with evt := w.evt }) : WindowEnded c s (w.setPf c F.PN_US_STAT.RDI v) := by
  subst hd hf
  obtain ⟨hzpon, hzframe, hzregs⟩ := hz
  have hregs : PnRegs c [0x104] z (w.setPf c F.PN_US_STAT.RDI v) :=
    PnRegs.trans (.of_regs (by rw [hw])) (pnRegs_setPf v (by decide))
  have hpon : (w.setPf c F.PN_US_STAT.RDI v).pon = z.pon := (setF_pon ..).trans (by rw [hw])
  have hypon : y.pon = s.pon := by rw [hy]
  refine ⟨?_, (hregs.bit (by decide)).trans hsd, (hregs.bit (by decide)).trans hsf, ?_, ?_,
    ((hyregs.mono (by decide)).trans (hzregs.mono (by decide))).trans (hregs.mono (by decide))⟩
  · exact (hregs.pf (by decide)).trans ((hzregs.pf (by decide)).trans hbits)
  · rw [hpon, hzpon, hypon]
  · rw [hpon]
    obtain ⟨r, rfl⟩ : ∃ r, y = { s with regs := r } := ⟨_, hy⟩
    obtain ⟨o, r', rfl⟩ : ∃ o r', z = { s with pon := o, regs := r' } := ⟨_, _, hzframe⟩
    obtain ⟨e, rfl⟩ : ∃ e, w = { s with pon := o, regs := r', evt := e } := ⟨_, hw⟩
    exact setPf_frame ..

theorem windowEnded_holds : WindowEnded c s (s.windowEnded c) := by
  have hbits : (s.bitsShown c).pf c F.PN_FEC_WIN.BITS = min 0xFFFFFFFF (s.pn c).winBits :=
    (pf_setPf_same _ (by decide)).trans (Nat.mod_eq_of_lt (Nat.lt_of_le_of_lt (Nat.min_le_left ..) (by decide)))
  have hregs : PnRegs c [0x2C] s (s.bitsShown c) := pnRegs_setPf _ (by decide)
  have hpn : (s.bitsShown c).pn c = s.pn c := pn_of_pon (setF_pon ..)
  have hstep := rxStep_windowShown (s := s.bitsShown c) (c := c) ((s.bitsShown c).berSd c (s.pn c))
    ((s.bitsShown c).berSf c (s.pn c))
  rw [hpn] at hstep
  exact windowEnded_of_steps (berSd_congr hregs (by decide) _) (berSf_congr hregs (by decide) _) hbits (setPf_frame ..) hregs hstep
    (sd_windowShown ..) (sf_windowShown ..) (berReported_eq ..)

end Sys2Proof.Machine
end

section
/-! Proof support: BEN at rest, and what cancelling bursts keeps (R109, R131). -/

namespace Sys2Proof.Machine

variable {s t u : State} {c : Nat}

/-! ### What cancelling bursts keeps -/

/-- What cancelling a channel's bursts keeps: what has been put out, BEN, the equaliser's taps, and the other channel's Till. -/
structure BurstKeeps (c : Nat) (s t : State) : Prop where
  out : t.out = s.out
  benFrom : (t.pn c).benFrom = (s.pn c).benFrom
  benTill : (t.pn c).benTill = (s.pn c).benTill
  taps : (t.pn c).taps = (s.pn c).taps
  bc : ∀ i, i ≠ chIx c → t.bc.get i = s.bc.get i

theorem BurstKeeps.refl (c : Nat) (s : State) : BurstKeeps c s s := ⟨rfl, rfl, rfl, rfl, fun _ _ => rfl⟩

theorem BurstKeeps.trans (h : BurstKeeps c s t) (k : BurstKeeps c t u) : BurstKeeps c s u :=
  ⟨k.out.trans h.out, k.benFrom.trans h.benFrom, k.benTill.trans h.benTill, k.taps.trans h.taps,
    fun i hi => (k.bc i hi).trans (h.bc i hi)⟩

theorem BurstKeeps.foldl {α : Type} {f : State → α → State} (hf : ∀ s a, BurstKeeps c s (f s a)) (as : List α) (s : State) :
    BurstKeeps c s (as.foldl f s) := by
  induction as generalizing s with
  | nil => exact .refl c s
  | cons a as ih => exact (hf s a).trans (ih _)

/-- A step that leaves the channels' parts alone. -/
theorem burstKeeps_of_eq (hout : t.out = s.out) (hpon : t.pon = s.pon) (hbc : t.bc = s.bc) : BurstKeeps c s t := by
  have hpn : t.pn c = s.pn c := pn_of_pon hpon
  exact ⟨hout, by rw [hpn], by rw [hpn], by rw [hpn], fun i _ => by rw [hbc]⟩

theorem burstKeeps_setPn {x : PonState} (hfrom : x.benFrom = (s.pn c).benFrom) (htill : x.benTill = (s.pn c).benTill)
    (htaps : x.taps = (s.pn c).taps) : BurstKeeps c s (s.setPn c x) := by
  have hpn : (s.setPn c x).pn c = x := pn_setPn_same x
  exact ⟨rfl, by rw [hpn, hfrom], by rw [hpn, htill], by rw [hpn, htaps], fun _ _ => rfl⟩

theorem burstKeeps_grantMiss (off ix k : Nat) : BurstKeeps c s (s.grantMiss c off ix k) := by
  have hcount : BurstKeeps c s (s.pCount c off) := burstKeeps_of_eq (count_out ..) (count_pon ..) (count_bc ..)
  unfold State.grantMiss
  dsimp only
  split
  · exact hcount.trans (burstKeeps_of_eq (tallyAdd_out ..) (tallyAdd_pon ..) (tallyAdd_bc ..))
  · exact hcount

theorem burstKeeps_setBcs (x : BcState) : BurstKeeps c s (s.setBcs c x) :=
  ⟨rfl, rfl, rfl, rfl, fun _ hi => pair_get_set_other _ _ hi⟩

theorem burstKeeps_showTill : BurstKeeps c s (s.showTill c) := burstKeeps_of_eq rfl rfl rfl

theorem burstKeeps_restore (a : Alloc) : BurstKeeps c s (s.restore c a) := by
  unfold State.restore
  split
  · exact .refl c s
  · dsimp only
    refine BurstKeeps.trans ?_ (burstKeeps_setPn rfl rfl rfl)
    split
    · exact (burstKeeps_setBcs _).trans burstKeeps_showTill
    · exact .refl c s

/-- A channel whose burst's PLOAM message is queued again. -/
theorem burstKeeps_dropBurst (b : Burst) (off k : Nat) : BurstKeeps c s (s.dropBurst c b off k) := by
  unfold State.dropBurst
  refine BurstKeeps.trans (BurstKeeps.foldl (f := fun s a => (s.grantMiss c off a.ix k).restore c a)
    (fun s a => (burstKeeps_grantMiss off a.ix k).trans (burstKeeps_restore a)) b.allocs.reverse s) ?_
  dsimp only
  cases b.ploam with
  | none => exact burstKeeps_setPn rfl rfl rfl
  | some x =>
    cases b.queued with
    | false => exact burstKeeps_setPn rfl rfl rfl
    | true => exact burstKeeps_setPn rfl rfl rfl

theorem burstKeeps_cancelBursts : BurstKeeps c s (s.cancelBursts c) :=
  BurstKeeps.foldl (fun _ _ => burstKeeps_dropBurst _ _ _) _ s

/-! ### BEN at rest (R131) -/

theorem benRests_of_eq (hout : t.out = s.out) (htill : (t.pn c).benTill = (s.pn c).benTill) : BenRests c s t :=
  .inl ⟨hout, htill⟩

theorem benRests_benFall : BenRests c s (s.benFall c s.units) := by
  unfold State.benFall
  dsimp only
  split
  · rename_i n hfrom htill
    refine .inr ⟨?_, ?_, by rw [hfrom]; rfl, htill⟩
    · change s.out ++ [.ben c (false != s.bit (pnB c) F.PN_BEN_CFG.POL) s.units] = _
      rw [Bool.false_bne]
    · exact congrArg PonState.benTill (pn_setPn_same _)
  · exact benRests_of_eq rfl rfl

theorem benRests_benRest : BenRests c s (s.benRest c) := by
  unfold State.benRest
  split
  · exact benRests_benFall
  · exact benRests_of_eq rfl rfl

/-- BEN rests after a step that keeps it, its polarity and the clock. -/
theorem benRests_trans (hout : t.out = s.out) (hfrom : (t.pn c).benFrom = (s.pn c).benFrom)
    (htill : (t.pn c).benTill = (s.pn c).benTill) (hpol : t.bit (pnB c) F.PN_BEN_CFG.POL = s.bit (pnB c) F.PN_BEN_CFG.POL)
    (hnow : t.now = s.now) (h : BenRests c t u) : BenRests c s u := by
  have hunits : t.units = s.units := by
    unfold State.units
    rw [hnow]
  obtain ⟨ho, ht⟩ | ⟨ho, ht, hf, hn⟩ := h
  · exact .inl ⟨ho.trans hout, ht.trans htill⟩
  · refine .inr ⟨?_, ?_, ?_, ?_⟩
    · rw [ho, hout, hpol, hunits]
    · rw [ht, hunits]
    · rw [← hfrom, hf]
    · rw [← htill, hn]

theorem benRests_showTx : BenRests c s (s.showTx c) := by
  have hpn : (s.showTxOn c).pn c = s.pn c := pn_of_pon (setF_pon ..)
  have hpol : (s.showTxOn c).bit (pnB c) F.PN_BEN_CFG.POL = s.bit (pnB c) F.PN_BEN_CFG.POL :=
    bit_congr (reg_setF_other s _ fun h => absurd (Nat.add_left_cancel h) (by decide))
  exact benRests_trans (t := s.showTxOn c) (setF_out ..) (congrArg PonState.benFrom hpn) (congrArg PonState.benTill hpn) hpol
    (setF_now ..) benRests_benRest

end Sys2Proof.Machine
end

section
/-! Proof support: how the alignment machine locks, and the activation engine follows (R78, R84, R108). -/

namespace Sys2Proof.Machine

variable {s t u : State} {c : PonCh}

/-! ### The transmitter and the stripe follow the engine (R107, R146) -/

/-- The transmitter's state is shown, and whether the channel is left out of the stripe. -/
def State.txShown (s : State) (c : PonCh) : State := (s.showTx c).showStripeEx c

/-- What showing the transmitter's state leaves. -/
structure TxShown (c : PonCh) (s t : State) : Prop where
  ben : BenRests c s t
  pon : t.pon = s.pon.set c { s.pn c with benTill := (t.pn c).benTill }
  frame : t = { s with regs := t.regs, pon := t.pon, out := t.out }
  regs : PnRegs c [0x104, 0x1A0] s t
  act : t.act c = s.act c

theorem pair_ext {α : Type} {p q : Pair α} (h : ∀ i, p.get i = q.get i) : p = q := by
  obtain ⟨a, b⟩ := p
  obtain ⟨a', b'⟩ := q
  have ha : a = a' := h 0
  have hb : b = b' := h 1
  rw [ha, hb]

theorem pon_eq_set {p : PonState} (hself : t.pn c = p) (hother : ∀ i, i ≠ c → t.pon.get i = s.pon.get i) :
    t.pon = s.pon.set c p := by
  have hself' : t.pon.get c = p := (pn_eq_get c).symm.trans hself
  refine pair_ext fun i => ?_
  by_cases hi : i = c
  · rw [hi, hself', pair_get_set_same]
  · rw [hother i hi, pair_get_set_other _ _ hi]

/-- Showing that the channel is left out of the stripe changes no more than its register. -/
theorem TxShown.of_benStep {y z : State} (hben : BenRests c s y) (h : BenStep c s y) (hact : z.act c = s.act c)
    (hz : z = { y with regs := z.regs }) (hzregs : PnRegs c [0x1A0] y z) : TxShown c s z := by
  obtain ⟨hframe, hregs, -, hself, hother⟩ := h
  rw [chIx_val] at hother
  have hpn : z.pn c = y.pn c := pn_of_pon (by rw [hz])
  have hregs' : PnRegs c [0x104] s y := hregs
  obtain ⟨r, rfl⟩ : ∃ r, z = { y with regs := r } := ⟨_, hz⟩
  refine ⟨?_, ?_, ?_, (hregs'.mono (by decide)).trans (hzregs.mono (by decide)), hact⟩
  · obtain ⟨ho, ht⟩ | hfall := hben
    · exact .inl ⟨ho, (congrArg PonState.benTill hpn).trans ht⟩
    · obtain ⟨ho, ht, hrest⟩ := hfall
      exact .inr ⟨ho, (congrArg PonState.benTill hpn).trans ht, hrest⟩
  · rw [hpn]
    exact pon_eq_set hself hother
  · exact congrArg (fun x : State => { x with regs := r }) hframe

theorem txShown_holds : TxShown c s (s.txShown c) :=
  .of_benStep benRests_showTx benStep_showTx
    ((pf_setPf_other _ (by decide) (by decide)).trans (pf_showTx (.inr (by decide)))) (setPf_frame ..) (pnRegs_setPf _ (by decide))

/-! ### The engine enters a state (R108) -/

/-- The engine shows another state, and its timers with it. -/
def State.actShown (s : State) (c : PonCh) (new : Nat) : State := (s.setPf c F.PN_US_STAT.ACT new).actTimers c new

/-- What showing another state of the engine leaves. -/
structure ActShown (c : PonCh) (new : Nat) (s t : State) : Prop where
  act : t.act c = new
  frame : t = { s with timers := t.timers, regs := t.regs }
  regs : PnRegs c [0x104] s t
  timers : TimersBut [Tm.to1 c, Tm.to2 c] s t

theorem ActShown.stopTimer {new id : Nat} (h : ActShown c new s t) (hid : id ∈ [Tm.to1 c.val, Tm.to2 c]) :
    ActShown c new s (t.stopTimer id) :=
  ⟨h.act, congrArg (fun x : State => x.stopTimer id) h.frame, h.regs, timersBut_trans h.timers (timersBut_stopTimer hid)⟩

theorem ActShown.startTimer {new id : Nat} (h : ActShown c new s t) (n : Nat) (hid : id ∈ [Tm.to1 c.val, Tm.to2 c]) :
    ActShown c new s (t.startTimer id n) := by
  obtain ⟨hact, hframe, hregs, htimers⟩ := h
  refine ⟨hact, ?_, hregs, timersBut_trans htimers (timersBut_startTimer n hid)⟩
  obtain ⟨m, r, rfl⟩ : ∃ m r, t = { s with timers := m, regs := r } := ⟨_, _, hframe⟩
  rfl

theorem actShown_of_regs {new : Nat} (hact : t.act c = new) (hframe : t = { s with regs := t.regs })
    (hregs : PnRegs c [0x104] s t) : ActShown c new s t := by
  obtain ⟨r, rfl⟩ : ∃ r, t = { s with regs := r } := ⟨_, hframe⟩
  exact ⟨hact, rfl, hregs, fun _ _ => rfl⟩

theorem actShown_setPf {new : Nat} (hnew : new < 16) : ActShown c new s (s.setPf c F.PN_US_STAT.ACT new) :=
  actShown_of_regs ((pf_setPf_same _ (by decide)).trans (Nat.mod_eq_of_lt hnew)) (setPf_frame ..) (pnRegs_setPf _ (by decide))

theorem actShown_stopped {new : Nat} (hnew : new < 16) :
    ActShown c new s (((s.setPf c F.PN_US_STAT.ACT new).stopTimer (Tm.to1 c)).stopTimer (Tm.to2 c)) :=
  ((actShown_setPf hnew).stopTimer (.head _)).stopTimer (.tail _ (.head _))

theorem actShown_o12 : ActShown c 2 s (s.actShown c 2) := actShown_stopped (by decide)

/-- The engine's state is O1.2, no longer O1.1. -/
theorem actMoved_o12 : s.actMoved c 1 2 1 = (s.actShown c 2).pRaise c 13 Ev.PN_ACT_STATE [(1, 1), (1, 2), (1, 1)] := by
  unfold State.actMoved State.actShown
  generalize s.setPf c F.PN_US_STAT.ACT 2 = y
  dsimp only
  rw [if_neg (by decide), if_neg (by decide)]

theorem actFollow_o12 : s.actFollow c 1 2 = s.txShown c := by
  unfold State.actFollow State.txShown
  dsimp only
  rw [if_neg (by decide), if_neg fun h => absurd h.1 (by decide), if_neg (by decide), if_neg (by decide), if_neg (by decide)]

/-- The engine enters O1.2 from O1.1. -/
theorem actEnter_o12 (hact : s.act c = 1) : s.actEnter c 2 1 =
    ((s.actShown c 2).pRaise c 13 Ev.PN_ACT_STATE [(1, 1), (1, 2), (1, 1)]).txShown c := by
  unfold State.actEnter
  rw [hact, if_neg (by decide), actMoved_o12, actFollow_o12]

/-- What the engine's step from O1.1 to O1.2 leaves. -/
structure EngineLocked (c : PonCh) (s t : State) : Prop where
  act : t.act c = 2
  ben : BenRests c s t
  evt : t.evt = (s.pRaise c 13 Ev.PN_ACT_STATE [(1, 1), (1, 2), (1, 1)]).evt
  pon : t.pon = s.pon.set c { s.pn c with benTill := (t.pn c).benTill }
  frame : t = { s with out := t.out, pon := t.pon, evt := t.evt, timers := t.timers, regs := t.regs }
  timers : TimersBut [Tm.to1 c, Tm.to2 c] s t
  regs : PnRegs c [0x104, 0x1A0] s t

theorem engineLocked_of_steps {y z : State} (hy : ActShown c 2 s y) (hz : z = { y with evt := z.evt })
    (hevt : z.evt = (s.pRaise c 13 Ev.PN_ACT_STATE [(1, 1), (1, 2), (1, 1)]).evt) (ht : TxShown c z t) :
    EngineLocked c s t := by
  obtain ⟨hact, hframe, hregs, htimers⟩ := hy
  obtain ⟨hben, hpon, htx, htregs, htact⟩ := ht
  obtain ⟨m, r, rfl⟩ : ∃ m r, y = { s with timers := m, regs := r } := ⟨_, _, hframe⟩
  obtain ⟨e, rfl⟩ : ∃ e, z = { s with timers := m, regs := r, evt := e } := ⟨_, hz⟩
  have hzregs : PnRegs c [0x104] s { s with timers := m, regs := r, evt := e } := hregs
  obtain ⟨r', p, o, rfl⟩ : ∃ r' p o, t = { s with timers := m, regs := r', evt := e, pon := p, out := o } := ⟨_, _, _, htx⟩
  exact ⟨htact.trans hact, benRests_trans (t := { s with timers := m, regs := r, evt := e }) rfl rfl rfl
    (hzregs.bit (by decide)) rfl hben, hevt, hpon, rfl, htimers, (hzregs.mono (by decide)).trans htregs⟩

theorem engineLocked_holds (hact : s.act c = 1) : EngineLocked c s (s.syncChanged c true) := by
  have hy := actShown_o12 (s := s) (c := c)
  have hlocked : EngineLocked c s (s.actEnter c 2 1) := by
    rw [actEnter_o12 hact]
    refine engineLocked_of_steps hy (pRaise_eq ..) ?_ txShown_holds
    exact pRaise_evt_congr (by rw [hy.frame]) hy.regs ..
  have hgo : s.syncChanged c true = s.actEnter c 2 1 := by
    unfold State.syncChanged State.actGo
    dsimp only
    rw [if_pos rfl, if_pos hact, if_neg fun h => absurd (hlocked.act.symm.trans h.1) (by decide)]
  rw [hgo]
  exact hlocked

end Sys2Proof.Machine
end

section
/-! Proof support: the alignment machine locks (R78, R81, R114). -/

namespace Sys2Proof.Machine

variable {s t u : State} {c : PonCh} {pos sfc : Nat}

/-! ### The frame that a lock begins -/

/-- A channel that is locked to a position. -/
def PonState.locked (p : PonState) (pos : Nat) : PonState :=
  { p with cands := [], lockPos := pos, errs := 0, winFrames := 0, winBits := 0 }

/-- A channel whose machine shows SYNC, with its lock and the SFC. -/
def State.lockShown (s : State) (c : PonCh) (pos sfc : Nat) : State :=
  ((s.candsShown c [] 2).setPn c { (s.candsShown c [] 2).pn c with lockPos := pos, errs := 0, winFrames := 0, winBits := 0 }).setSfc
    c sfc

/-- A channel that locks, with its first frame. -/
def State.lockFrame (s : State) (c : PonCh) (pos sfc : Nat) : State :=
  ((s.lockShown c pos sfc).pRaise c 13 Ev.PN_ALIGN_LOCK [(7, sfc)]).frameStart c

theorem alignLock_eq : s.alignLock c pos sfc = (s.lockFrame c pos sfc).syncChanged c true := rfl

/-- What showing a lock leaves. -/
structure LockShown (c : PonCh) (pos sfc : Nat) (s t : State) : Prop where
  align : t.align c = 2
  cands : t.pf c F.PN_RX_STAT.CANDS = 0
  cur : t.sfcCur c = sfc
  pon : t.pon = s.pon.set c ((s.pn c).locked pos)
  frame : t = { s with pon := t.pon, regs := t.regs }
  regs : PnRegs c [0x8, 0x78, 0x7c] s t

theorem LockShown.of_steps {y z : State} (halign : y.align c = 2) (hcands : y.pf c F.PN_RX_STAT.CANDS = 0)
    (hy : CandsShown c [] s y)
    (hz : z = y.setPn c { y.pn c with lockPos := pos, errs := 0, winFrames := 0, winBits := 0 })
    (ht : t = { z with regs := t.regs }) (hregs : PnRegs c [0x78, 0x7c] z t) (hsfc : t.sfcCur c = sfc) :
    LockShown c pos sfc s t := by
  have hpn := hy.pn
  obtain ⟨hpon, hframe, hyregs⟩ := hy
  rw [setPn_eq, hpn, hpon, pair_set_set] at hz
  have hzregs : PnRegs c [0x78, 0x7c] y t := (PnRegs.of_regs (by rw [hz])).trans hregs
  have htpon : t.pon = s.pon.set c ((s.pn c).locked pos) := by
    rw [ht, hz]
    rfl
  refine ⟨(hzregs.pf (by decide)).trans halign, (hzregs.pf (by decide)).trans hcands, hsfc, htpon, ?_,
    (hyregs.mono (by decide)).trans (hzregs.mono (by decide))⟩
  rw [htpon]
  obtain ⟨p, r, rfl⟩ : ∃ p r, y = { s with pon := p, regs := r } := ⟨_, _, hframe⟩
  subst hz
  exact ht

theorem lockShown_holds (hsfc : sfc < 2 ^ 51) : LockShown c pos sfc s (s.lockShown c pos sfc) :=
  .of_steps (align_candsShown _ (by decide)) (cands_candsShown _ (by decide)) (candsShown_holds ..) rfl (setSfc_frame ..)
    (pnRegs_setSfc _) (sfcCur_setSfc hsfc)

/-- What the first frame of a lock leaves. -/
structure FrameLocked (c : PonCh) (pos sfc : Nat) (s t : State) : Prop where
  align : t.align c = 2
  cands : t.pf c F.PN_RX_STAT.CANDS = 0
  cur : t.sfcCur c = sfc
  pon : t.pon = s.pon.set c (((s.pn c).locked pos).begun s c)
  evt : t.evt = (s.pRaise c 13 Ev.PN_ALIGN_LOCK [(7, sfc)]).evt
  frame : t = { s with pon := t.pon, evt := t.evt, regs := t.regs }
  regs : PnRegs c [0x8, 0x78, 0x7c] s t

theorem FrameLocked.of_steps {y z : State} (hy : LockShown c pos sfc s y) (hz : z = { y with evt := z.evt })
    (hevt : z.evt = (s.pRaise c 13 Ev.PN_ALIGN_LOCK [(7, sfc)]).evt) : FrameLocked c pos sfc s (z.frameStart c) := by
  obtain ⟨halign, hcands, hsfc, hpon, hframe, hregs⟩ := hy
  have hzpon : z.pon = s.pon.set c ((s.pn c).locked pos) := (congrArg State.pon hz).trans hpon
  have hbegun := begun_congr (p := (s.pn c).locked pos) (s := s) (t := z) (c := c) (hregs.trans (.of_regs (by rw [hz])))
    (by rw [hz, hframe])
  rw [frameStart_eq, pn_of_pon_set hzpon, hbegun, setPn_eq, hzpon, pair_set_set]
  obtain ⟨p, r, rfl⟩ : ∃ p r, y = { s with pon := p, regs := r } := ⟨_, _, hframe⟩
  obtain ⟨e, rfl⟩ : ∃ e, z = { s with pon := p, regs := r, evt := e } := ⟨_, hz⟩
  exact ⟨halign, hcands, hsfc, rfl, hevt, rfl, hregs⟩

theorem frameLocked_holds (hsfc : sfc < 2 ^ 51) : FrameLocked c pos sfc s (s.lockFrame c pos sfc) := by
  have h := lockShown_holds (s := s) (c := c) (pos := pos) hsfc
  exact .of_steps h (pRaise_eq ..) (pRaise_evt_congr (by rw [h.frame]) h.regs ..)

/-! ### The lock with what follows it -/

/-- What a lock leaves while the engine is in O1.1. -/
structure AlignLocked (c : PonCh) (pos sfc : Nat) (s t : State) : Prop where
  align : t.align c = 2
  cands : t.pf c F.PN_RX_STAT.CANDS = 0
  cur : t.sfcCur c = sfc
  act : t.act c = 2
  pon : t.pon = s.pon.set c { ((s.pn c).locked pos).begun s c with benTill := (t.pn c).benTill }
  evt : t.evt = ((s.pRaise c 13 Ev.PN_ALIGN_LOCK [(7, sfc)]).pRaise c 13 Ev.PN_ACT_STATE [(1, 1), (1, 2), (1, 1)]).evt
  ben : BenRests c s t
  frame : t = { s with out := t.out, pon := t.pon, evt := t.evt, timers := t.timers, regs := t.regs }
  timers : TimersBut [Tm.to1 c, Tm.to2 c] s t
  regs : PnRegs c [0x8, 0x78, 0x7c, 0x104, 0x1A0] s t

theorem pnRegs_pRaise {l : List Nat} (h : PnRegs c l s t) (d gap src : Nat) (fs : List (Nat × Nat)) :
    PnRegs c l (s.pRaise d gap src fs) t := by
  rw [pRaise_eq]
  exact h

theorem AlignLocked.of_steps {y : State} (hy : FrameLocked c pos sfc s y) (ht : EngineLocked c y t) :
    AlignLocked c pos sfc s t := by
  obtain ⟨halign, hcands, hsfc, hpon, hevt, hframe, hregs⟩ := hy
  obtain ⟨hact, hben, htevt, htpon, htframe, htimers, htregs⟩ := ht
  have hpn := pn_of_pon_set hpon
  have hevt' := pRaise_evt_congr (s := s.pRaise c 13 Ev.PN_ALIGN_LOCK [(7, sfc)]) (t := y) hevt (pnRegs_pRaise hregs _ _ _ _) c 13
    Ev.PN_ACT_STATE [(1, 1), (1, 2), (1, 1)]
  refine ⟨(htregs.pf (by decide)).trans halign, (htregs.pf (by decide)).trans hcands,
    (htregs.sfcCur (by decide)).trans hsfc, hact, ?_, htevt.trans hevt', ?_, ?_, ?_,
    (hregs.mono (by decide)).trans (htregs.mono (by decide))⟩
  · rw [htpon, hpn, hpon, pair_set_set]
  · exact benRests_trans (t := y) (by rw [hframe]) (by rw [hpn]; rfl) (by rw [hpn]; rfl) (hregs.bit (by decide))
      (by rw [hframe]) hben
  · obtain ⟨p, e, r, rfl⟩ : ∃ p e r, y = { s with pon := p, evt := e, regs := r } := ⟨_, _, _, hframe⟩
    exact htframe
  · obtain ⟨p, e, r, rfl⟩ : ∃ p e r, y = { s with pon := p, evt := e, regs := r } := ⟨_, _, _, hframe⟩
    exact htimers

theorem alignLocked_holds (hsfc : sfc < 2 ^ 51) (hact : s.act c = 1) : AlignLocked c pos sfc s (s.alignLock c pos sfc) := by
  have h := frameLocked_holds (s := s) (c := c) (pos := pos) hsfc
  rw [alignLock_eq]
  exact .of_steps h (engineLocked_holds ((h.regs.pf (by decide)).trans hact))

end Sys2Proof.Machine
end

section
/-! Proof support: alignment leaves SYNC while the engine is in O5 (R74, R78, R108, R109). -/

namespace Sys2Proof.Machine

variable {s t u : State} {c : PonCh}

/-! ### Steps on the way out of SYNC -/

/-- A step of a channel that leaves SYNC: it puts nothing out, and keeps the other channel's part and every register but the
listed ones. -/
structure LeaveStep (c : PonCh) (l : List Nat) (s t : State) : Prop where
  frame : t = { s with
    pon := t.pon, bc := t.bc, tally := t.tally, ctrs := t.ctrs, evt := t.evt, timers := t.timers, regs := t.regs }
  regs : RegsBut l s t
  timers : TimersBut [Tm.to1 c, Tm.to2 c, Tm.ps c] s t
  keeps : BurstKeeps c s t
  other : ∀ i, i ≠ c → t.pon.get i = s.pon.get i

theorem LeaveStep.trans {l : List Nat} (h : LeaveStep c l s t) (k : LeaveStep c l t u) : LeaveStep c l s u where
  frame := k.frame.trans (congrArg (fun x : State => { x with
    pon := u.pon, bc := u.bc, tally := u.tally, ctrs := u.ctrs, evt := u.evt, timers := u.timers, regs := u.regs }) h.frame)
  regs a ha := (k.regs a ha).trans (h.regs a ha)
  timers := timersBut_trans h.timers k.timers
  keeps := h.keeps.trans k.keeps
  other i hi := (k.other i hi).trans (h.other i hi)

theorem LeaveStep.mono {l m : List Nat} (h : LeaveStep c l s t) (hlm : l ⊆ m) : LeaveStep c m s t :=
  { h with regs := regsBut_mono h.regs hlm }

/-- A step that changes counters, events and timers. -/
theorem leaveStep_of_notes {l : List Nat} (h : t = { s with ctrs := t.ctrs, evt := t.evt, timers := t.timers })
    (htimers : TimersBut [Tm.to1 c, Tm.to2 c, Tm.ps c] s t) : LeaveStep c l s t := by
  obtain ⟨k, e, m, rfl⟩ : ∃ k e m, t = { s with ctrs := k, evt := e, timers := m } := ⟨_, _, _, h⟩
  exact ⟨rfl, fun _ _ => rfl, htimers, burstKeeps_of_eq rfl rfl rfl, fun _ _ => rfl⟩

theorem leaveStep_of_ctrs {l : List Nat} (h : t = { s with ctrs := t.ctrs }) : LeaveStep c l s t := by
  obtain ⟨k, rfl⟩ : ∃ k, t = { s with ctrs := k } := ⟨_, h⟩
  exact leaveStep_of_notes rfl fun _ _ => rfl

theorem leaveStep_of_evt {l : List Nat} (h : t = { s with evt := t.evt }) : LeaveStep c l s t := by
  obtain ⟨e, rfl⟩ : ∃ e, t = { s with evt := e } := ⟨_, h⟩
  exact leaveStep_of_notes rfl fun _ _ => rfl

theorem leaveStep_stopTimer {l : List Nat} {id : Nat} (hid : id ∈ [Tm.to1 c.val, Tm.to2 c, Tm.ps c]) :
    LeaveStep c l s (s.stopTimer id) := leaveStep_of_notes rfl (timersBut_stopTimer hid)

theorem leaveStep_of_regs {l : List Nat} (h : t = { s with regs := t.regs }) (hregs : RegsBut l s t) : LeaveStep c l s t := by
  obtain ⟨r, rfl⟩ : ∃ r, t = { s with regs := r } := ⟨_, h⟩
  exact ⟨rfl, hregs, fun _ _ => rfl, burstKeeps_of_eq rfl rfl rfl, fun _ _ => rfl⟩

theorem leaveStep_setPn {l : List Nat} {x : PonState} (hfrom : x.benFrom = (s.pn c).benFrom)
    (htill : x.benTill = (s.pn c).benTill) (htaps : x.taps = (s.pn c).taps) : LeaveStep c l s (s.setPn c x) := by
  refine ⟨rfl, fun _ _ => rfl, fun _ _ => rfl, burstKeeps_setPn hfrom htill htaps, fun i hi => ?_⟩
  rw [setPn_eq]
  exact pair_get_set_other _ _ hi

theorem leaveStep_cancelBursts : LeaveStep c [bcB c + 0x44] s (s.cancelBursts c) := by
  obtain ⟨hframe, hregs, -, -, hother⟩ := ponStep_cancelBursts (s := s) (c := c.val)
  have hkeeps := burstKeeps_cancelBursts (s := s) (c := c.val)
  generalize s.cancelBursts c = t at hframe hregs hother hkeeps ⊢
  have hout := hkeeps.out
  rw [hout] at hframe
  refine ⟨?_, hregs, timersBut_of_eq _ (by rw [hframe]), hkeeps, fun i hi => hother i (by rwa [chIx_val])⟩
  obtain ⟨r, k, n, p, b, rfl⟩ : ∃ r k n p b, t = { s with regs := r, ctrs := k, tally := n, pon := p, bc := b } :=
    ⟨_, _, _, _, _, hframe⟩
  rfl

theorem leaveStep_candsShown (l : List Cand) (new : Nat) :
    LeaveStep c ([0x8].map fun o => pnB c + o) s (s.candsShown c l new) := by
  obtain ⟨hpon, hframe, hregs⟩ := candsShown_holds (s := s) (c := c) l new
  generalize s.candsShown c l new = t at hpon hframe hregs ⊢
  have h : LeaveStep c ([0x8].map fun o => pnB c + o) s (s.setPn c { s.pn c with cands := l }) := leaveStep_setPn rfl rfl rfl
  rw [setPn_eq] at h
  refine h.trans (leaveStep_of_regs ?_ hregs)
  rw [← hpon]
  exact hframe

/-! ### Alignment leaves SYNC (R78) -/

/-- The machine has left SYNC: no candidate is open, no SFC is shown and no reassembly is in progress. -/
def State.syncLeft (s : State) (c : PonCh) : State :=
  ((s.candsShown c [] 0).setSfc c 0).setPn c { ((s.candsShown c [] 0).setSfc c 0).pn c with reasm := [], skip := [] }

/-- What leaving SYNC leaves. -/
structure SyncLeft (c : PonCh) (s t : State) : Prop where
  align : t.align c = 0
  cur : t.sfcCur c = 0
  los : t.bit (pnB c) F.PN_RX_STAT.LOS = s.bit (pnB c) F.PN_RX_STAT.LOS
  step : LeaveStep c ([0x8, 0x78, 0x7c].map fun o => pnB c + o) s t

theorem SyncLeft.of_steps {y z : State} (halign : y.align c = 0)
    (hlos : y.bit (pnB c) F.PN_RX_STAT.LOS = s.bit (pnB c) F.PN_RX_STAT.LOS)
    (hy : LeaveStep c ([0x8].map fun o => pnB c + o) s y) (hz : z = { y with regs := z.regs })
    (hregs : PnRegs c [0x78, 0x7c] y z) (hcur : z.sfcCur c = 0) :
    SyncLeft c s (z.setPn c { z.pn c with reasm := [], skip := [] }) :=
  ⟨(hregs.pf (by decide)).trans halign, hcur, (hregs.bit (by decide)).trans hlos,
    ((hy.mono (List.map_subset _ (by decide))).trans (leaveStep_of_regs hz (hregs.mono (by decide)))).trans
      (leaveStep_setPn rfl rfl rfl)⟩

theorem syncLeft_holds : SyncLeft c s (s.syncLeft c) :=
  .of_steps (align_candsShown _ (by decide)) (bit_of_pf (stat_candsShown _ _ (.inr (by decide)))) (leaveStep_candsShown ..)
    (setSfc_frame ..) (pnRegs_setSfc _) (sfcCur_setSfc (by decide))

theorem dropReasms_of_none (h : (s.pn c).reasm = []) :
    s.dropReasms c = s.setPn c { s.pn c with reasm := [], skip := [] } := by
  unfold State.dropReasms
  rw [h]
  rfl

theorem servoChannelFault_of_other (h : s.servoSrc ≠ c + 1) : s.servoChannelFault c = s := if_neg h

theorem todMiss_of_disarmed (h : s.bit (pnB c) F.PN_TOD_CTRL.ARM = false) : s.todMiss c = s := by
  unfold State.todMiss
  rw [h]
  rfl

theorem servoSrc_congr (h : ∀ a, a < pnB 0 → t.reg a = s.reg a) : t.servoSrc = s.servoSrc := by
  unfold State.servoSrc
  rw [fld_congr (f := F.TIM_SRC_CFG.SRC) (h _ (by decide))]

theorem alignLeave_of_sync (halign : s.align c = 2) (hreasm : (s.pn c).reasm = [])
    (harm : s.bit (pnB c) F.PN_TOD_CTRL.ARM = false) :
    s.alignLeave c 0 = ((s.syncLeft c).syncChanged c false).servoChannelFault c := by
  have hpn := (candsShown_holds (s := s) (c := c) [] 0).pn
  have hdrop : ((s.candsShown c [] 0).setSfc c 0).dropReasms c = s.syncLeft c := by
    refine dropReasms_of_none ?_
    rw [pn_of_pon (s := s.candsShown c [] 0) (t := (s.candsShown c [] 0).setSfc c 0) (by rw [setSfc_frame]), hpn]
    exact hreasm
  have hstep := (syncLeft_holds (s := s) (c := c)).step.regs
  have hmiss : (s.syncLeft c).todMiss c = s.syncLeft c := by
    refine todMiss_of_disarmed ?_
    exact (PnRegs.bit (l := [0x8, 0x78, 0x7c]) hstep (by decide)).trans harm
  unfold State.alignLeave
  rw [halign]
  change (((((s.candsShown c [] 0).setSfc c 0).dropReasms c).todMiss c).syncChanged c false).servoChannelFault c = _
  rw [hdrop, hmiss]

/-! ### The engine leaves O5 (R108, R109) -/

/-- The engine is in O6: the scheduled bursts are cancelled and the change is reported. -/
def State.serviceLeft (s : State) (c : PonCh) : State :=
  (((s.actShown c 6).cancelBursts c).pRaise c 13 Ev.PN_ACT_STATE [(1, 5), (1, 6), (1, 7)]).stopTimer (Tm.ps c)

theorem actTimers_o6 : s.actTimers c 6 = ((s.stopTimer (Tm.to1 c)).stopTimer (Tm.to2 c)).startTimer (Tm.to2 c)
    (max 1 (s.pf c F.PN_ACT_CFG.TO2) * msTicks) := by
  unfold State.actTimers
  dsimp only
  rw [if_neg (by decide), if_pos rfl]
  rfl

/-- The engine's state is O6, and TO2 starts. -/
structure O6Shown (c : PonCh) (s t : State) : Prop where
  shown : ActShown c 6 s t
  to2 : SMap.get (fun _ => 0) t.timers (Tm.to2 c) = s.now + max 1 (s.pf c F.PN_ACT_CFG.TO2) * msTicks + 1

theorem ActShown.o6 (h : ActShown c 6 s t) : O6Shown c s (t.actTimers c 6) := by
  have hnow : t.now = s.now := by rw [h.frame]
  have hto2 : t.pf c F.PN_ACT_CFG.TO2 = s.pf c F.PN_ACT_CFG.TO2 := h.regs.pf (by decide)
  rw [actTimers_o6]
  refine ⟨((h.stopTimer (.head _)).stopTimer (.tail _ (.head _))).startTimer _ (.tail _ (.head _)), ?_⟩
  refine (timer_startTimer ..).trans ?_
  rw [hto2]
  exact congrArg (fun n => n + max 1 (s.pf c F.PN_ACT_CFG.TO2) * msTicks + 1) hnow

theorem o6Shown_holds : O6Shown c s (s.actShown c 6) := (actShown_setPf (by decide)).o6

end Sys2Proof.Machine
end

section
/-! Proof support: what the loss of SYNC leaves while the engine is in O5 (R74, R78, R108, R109). -/

namespace Sys2Proof.Machine

variable {s t u : State} {c : PonCh}

/-! ### The engine leaves O5 (R108, R109) -/

theorem ActShown.leaveStep {new : Nat} (h : ActShown c new s t) : LeaveStep c [pnB c + 0x104] s t := by
  obtain ⟨-, hframe, hregs, htimers⟩ := h
  obtain ⟨m, r, rfl⟩ : ∃ m r, t = { s with timers := m, regs := r } := ⟨_, _, hframe⟩
  exact ⟨rfl, hregs, timersBut_mono htimers (by simp), burstKeeps_of_eq rfl rfl rfl, fun _ _ => rfl⟩

/-- What the engine's step from O5 to O6 leaves, without the transmitter. -/
structure ServiceLeft (c : PonCh) (s t : State) : Prop where
  act : t.act c = 6
  to2 : SMap.get (fun _ => 0) t.timers (Tm.to2 c) = s.now + max 1 (s.pf c F.PN_ACT_CFG.TO2) * msTicks + 1
  step : LeaveStep c [bcB c + 0x44, pnB c + 0x104] s t

theorem act_not_till : ∀ c : PonCh, pnB c + F.PN_US_STAT.ACT.off ∉ [bcB c.val + 0x44] := by decide

theorem timers_cancelBursts : (s.cancelBursts c).timers = s.timers := by
  rw [(ponStep_cancelBursts (s := s) (c := c.val)).frame]

theorem ServiceLeft.of_steps {y z w : State} (hy : O6Shown c s y) (hz : LeaveStep c [bcB c + 0x44] y z)
    (hztimers : z.timers = y.timers) (hw : w = { z with evt := w.evt }) : ServiceLeft c s (w.stopTimer (Tm.ps c)) := by
  obtain ⟨hshown, hto2⟩ := hy
  have hact : z.act c = y.act c := fld_congr (hz.regs _ (act_not_till c))
  have hne : Tm.to2 c ∉ [Tm.ps c] := by simp [Tm.to2, Tm.ps]
  have hstep := ((hshown.leaveStep.mono (m := [bcB c + 0x44, pnB c + 0x104]) (by simp)).trans (hz.mono (by simp))).trans
    (leaveStep_of_evt hw)
  refine ⟨?_, ?_, hstep.trans (leaveStep_stopTimer (by simp))⟩
  · obtain ⟨e, rfl⟩ : ∃ e, w = { z with evt := e } := ⟨_, hw⟩
    exact hact.trans hshown.act
  · refine (timersBut_stopTimer (s := w) (List.mem_singleton_self _) (Tm.to2 c) hne).trans ?_
    obtain ⟨e, rfl⟩ : ∃ e, w = { z with evt := e } := ⟨_, hw⟩
    exact (congrArg (fun m => SMap.get (fun _ => 0) m (Tm.to2 c)) hztimers).trans hto2

theorem serviceLeft_holds : ServiceLeft c s (s.serviceLeft c) :=
  .of_steps o6Shown_holds leaveStep_cancelBursts timers_cancelBursts (pRaise_eq ..)

theorem actMoved_o6 : s.actMoved c 5 6 7 =
    ((s.actShown c 6).cancelBursts c).pRaise c 13 Ev.PN_ACT_STATE [(1, 5), (1, 6), (1, 7)] := by
  unfold State.actMoved State.actShown
  generalize s.setPf c F.PN_US_STAT.ACT 6 = y
  dsimp only
  rw [if_neg (by decide), if_pos (by decide)]

theorem actFollow_o6 (hsrc : s.servoSrc ≠ c + 1) : s.actFollow c 5 6 = (s.stopTimer (Tm.ps c)).txShown c := by
  have hfault : (s.stopTimer (Tm.ps c)).servoChannelFault c = s.stopTimer (Tm.ps c) := servoChannelFault_of_other hsrc
  unfold State.actFollow State.txShown
  dsimp only
  rw [if_neg (by decide), if_neg fun h => absurd h.1 (by decide), if_neg (by decide), if_pos rfl, if_neg (by decide), hfault]

/-- The registers of the timer are below the channels'. -/
theorem LeaveStep.servoSrc {l : List Nat} (h : LeaveStep c l s t) (hl : timB + F.TIM_SRC_CFG.SRC.off ∉ l) :
    t.servoSrc = s.servoSrc := by
  unfold State.servoSrc
  rw [fld_congr (f := F.TIM_SRC_CFG.SRC) (h.regs _ hl)]

theorem src_not_till : ∀ c : PonCh, timB + F.TIM_SRC_CFG.SRC.off ∉ [bcB c.val + 0x44, pnB c + 0x104] := by decide

theorem serviceMoved_step : LeaveStep c [bcB c + 0x44, pnB c + 0x104] s
    (((s.actShown c 6).cancelBursts c).pRaise c 13 Ev.PN_ACT_STATE [(1, 5), (1, 6), (1, 7)]) :=
  ((o6Shown_holds.shown.leaveStep.mono (by simp)).trans (leaveStep_cancelBursts.mono (by simp))).trans
    (leaveStep_of_evt (pRaise_eq ..))

theorem actEnter_o6 (hact : s.act c = 5) (hsrc : s.servoSrc ≠ c + 1) : s.actEnter c 6 7 = (s.serviceLeft c).txShown c := by
  unfold State.actEnter State.serviceLeft
  rw [hact, if_neg (by decide), actMoved_o6, actFollow_o6]
  rw [serviceMoved_step.servoSrc (src_not_till c)]
  exact hsrc

theorem act_txShown : (s.txShown c).act c = s.act c := txShown_holds.act

/-- The activation engine goes from O5 to O6. -/
theorem syncChanged_lost (hact : s.act c = 5) (hsrc : s.servoSrc ≠ c + 1) :
    s.syncChanged c false = (s.serviceLeft c).txShown c := by
  have hact' : ((s.serviceLeft c).txShown c).act c = 6 := act_txShown.trans serviceLeft_holds.act
  unfold State.syncChanged State.actGo
  dsimp only
  rw [if_neg Bool.false_ne_true, if_neg (by rw [hact]; decide), if_pos hact, actEnter_o6 hact hsrc,
    if_neg fun h => absurd (hact'.symm.trans h.1) (by decide)]

/-! ### The loss of SYNC -/

/-- The registers that the loss of SYNC changes. -/
def lostRegs (c : PonCh) : List Nat :=
  [pnB c + 0x8, pnB c + 0x78, pnB c + 0x7c, pnB c + 0x104, pnB c + 0x1A0, bcB c + 0x44]

/-- What the loss of SYNC leaves while the engine is in O5. -/
structure SyncLost (c : PonCh) (s t : State) : Prop where
  align : t.align c = 0
  act : t.act c = 6
  cur : t.sfcCur c = 0
  los : t.bit (pnB c) F.PN_RX_STAT.LOS = s.bit (pnB c) F.PN_RX_STAT.LOS
  to2 : SMap.get (fun _ => 0) t.timers (Tm.to2 c) = s.now + max 1 (s.pf c F.PN_ACT_CFG.TO2) * msTicks + 1
  pnOther : ∀ i, i ≠ c → t.pon.get i = s.pon.get i
  bcOther : ∀ i, i ≠ c → t.bc.get i = s.bc.get i
  taps : (t.pn c).taps = (s.pn c).taps
  ben : BenRests c s t
  frame : t = { s with
    out := t.out, pon := t.pon, bc := t.bc, tally := t.tally, ctrs := t.ctrs, evt := t.evt, timers := t.timers, regs := t.regs }
  timers : TimersBut [Tm.to1 c, Tm.to2 c, Tm.ps c] s t
  regs : RegsBut (lostRegs c) s t

theorem shown_not_till : ∀ (c : PonCh), ∀ o ∈ [0x8, 0x78, 0x7c], pnB c.val + o ∉ [bcB c.val + 0x44, pnB c + 0x104] := by
  decide

theorem pol_not_lost : ∀ c : PonCh, pnB c.val + F.PN_BEN_CFG.POL.off ∉ lostRegs c := by decide

theorem subset_lostRegs : ∀ c : PonCh, ([0x8, 0x78, 0x7c].map fun o => pnB c.val + o) ⊆ lostRegs c ∧
    [bcB c.val + 0x44, pnB c + 0x104] ⊆ lostRegs c ∧ ([0x104, 0x1A0].map fun o => pnB c.val + o) ⊆ lostRegs c := by decide

theorem SyncLost.of_steps {y z : State} (hy : SyncLeft c s y) (hz : ServiceLeft c y z) (ht : TxShown c z t) :
    SyncLost c s t := by
  obtain ⟨halign, hcur, hlos, hystep⟩ := hy
  obtain ⟨hact, hto2, hzstep⟩ := hz
  obtain ⟨hben, hpon, hframe, hregs, htact⟩ := ht
  obtain ⟨hyl, hzl, htl⟩ := subset_lostRegs c
  have hall : LeaveStep c (lostRegs c) s z := (hystep.mono hyl).trans (hzstep.mono hzl)
  have hdisjoint : ∀ o ∈ [0x8, 0x78, 0x7c], o ∉ [0x104, 0x1A0] := by decide
  have hkept : ∀ o ∈ [0x8, 0x78, 0x7c], t.reg (pnB c + o) = y.reg (pnB c + o) := fun o ho =>
    (hregs.reg (hdisjoint o ho)).trans (hzstep.regs _ (shown_not_till c o ho))
  have hfield : ∀ f : Fld, f.off ∈ [0x8, 0x78, 0x7c] → t.pf c f = y.pf c f := fun f hf => fld_congr (hkept _ hf)
  have hynow : y.now = s.now := by rw [hystep.frame]
  have hpol : z.bit (pnB c) F.PN_BEN_CFG.POL = s.bit (pnB c) F.PN_BEN_CFG.POL := bit_congr (hall.regs _ (pol_not_lost c))
  have hlimit : y.pf c F.PN_ACT_CFG.TO2 = s.pf c F.PN_ACT_CFG.TO2 := PnRegs.pf hystep.regs (by decide)
  have hto : SMap.get (fun _ => 0) t.timers (Tm.to2 c) = SMap.get (fun _ => 0) z.timers (Tm.to2 c) := by rw [hframe]
  refine
    { align := (hfield _ (by decide)).trans halign
      act := htact.trans hact
      cur := ?cur
      los := (bit_of_pf (hfield _ (by decide))).trans hlos
      to2 := by rw [hto, hto2, hynow, hlimit]
      pnOther := fun i hi => ?other
      bcOther := fun i hi => ?bc
      taps := by rw [pn_of_pon_set hpon]; exact hall.keeps.taps
      ben := benRests_trans hall.keeps.out hall.keeps.benFrom hall.keeps.benTill hpol (by rw [hall.frame]) hben
      frame := ?frame
      timers := ?timers
      regs := fun a ha => (regsBut_mono hregs htl a ha).trans (hall.regs a ha) }
  case cur =>
    rw [← hcur]
    unfold State.sfcCur
    rw [hfield F.PN_SFC_CUR_HI.SFC (by decide), hfield F.PN_SFC_CUR_LO.SFC (by decide)]
  case other =>
    rw [hpon, pair_get_set_other _ _ hi]
    exact hall.other i hi
  case bc =>
    have hbc : t.bc = z.bc := by rw [hframe]
    rw [hbc]
    exact hall.keeps.bc i (by rwa [chIx_val])
  case frame =>
    have hzframe := hall.frame
    obtain ⟨p, b, n, k, e, m, r, rfl⟩ : ∃ p b n k e m r, z = { s with
        pon := p, bc := b, tally := n, ctrs := k, evt := e, timers := m, regs := r } := ⟨_, _, _, _, _, _, _, hzframe⟩
    obtain ⟨r', p', o, rfl⟩ : ∃ r' p' o, t = { s with
        regs := r', pon := p', out := o, bc := b, tally := n, ctrs := k, evt := e, timers := m } := ⟨_, _, _, hframe⟩
    rfl
  case timers => exact timersBut_trans hall.timers (timersBut_of_eq _ (by rw [hframe]))

theorem src_not_lost : ∀ c : PonCh, timB + F.TIM_SRC_CFG.SRC.off ∉ lostRegs c := by decide

theorem src_not_shown : ∀ c : PonCh, timB + F.TIM_SRC_CFG.SRC.off ∉ [0x8, 0x78, 0x7c].map fun o => pnB c.val + o := by decide

/-- Alignment leaves SYNC while the engine is in O5. -/
theorem syncLost_holds (halign : s.align c = 2) (hact : s.act c = 5) (hreasm : (s.pn c).reasm = [])
    (harm : s.bit (pnB c) F.PN_TOD_CTRL.ARM = false) (hsrc : s.servoSrc ≠ c + 1) : SyncLost c s (s.alignLeave c 0) := by
  have hy := syncLeft_holds (s := s) (c := c)
  have hsrc' : (s.syncLeft c).servoSrc ≠ c + 1 := by
    rw [hy.step.servoSrc (src_not_shown c)]
    exact hsrc
  have hact' : (s.syncLeft c).act c = 5 := (PnRegs.pf (l := [0x8, 0x78, 0x7c]) hy.step.regs (by decide)).trans hact
  have hlost : SyncLost c s (((s.syncLeft c).serviceLeft c).txShown c) := .of_steps hy serviceLeft_holds txShown_holds
  rw [alignLeave_of_sync halign hreasm harm, syncChanged_lost hact' hsrc', servoChannelFault_of_other]
  · exact hlost
  · have hsrc'' : (((s.syncLeft c).serviceLeft c).txShown c).servoSrc = s.servoSrc := by
      unfold State.servoSrc
      rw [fld_congr (f := F.TIM_SRC_CFG.SRC) (hlost.regs _ (src_not_lost c))]
    rw [hsrc'']
    exact hsrc

end Sys2Proof.Machine
end

section
/-! Proof support: what the line's changes do to LOS and to alignment (R74, R76, R78). -/

namespace Sys2Proof.Machine

variable {s t u : State} {c : PonCh} {v : Bool}

/-! ### LOS follows its two conditions (R74) -/

/-- LOS as the ball's level and the recovery circuit's lock ask for it. -/
def State.losOf (s : State) (c : PonCh) (level lock : Bool) : Bool := (level != s.bit (pnB c) F.PN_RX_CTRL.LOS_POL) || !lock

/-- What a change of LOS leaves, with `x` the channel's part but for the equaliser's taps. -/
structure LosChanged (c : PonCh) (v : Bool) (x : PonState) (s t : State) : Prop where
  los : t.bit (pnB c) F.PN_RX_STAT.LOS = v
  align : t.align c = s.align c
  evt : t.evt = (s.pRaiseMs c 13 Ev.PN_RX_LOS (b2n v) [(1, b2n v)]).evt
  free : t.freeNext = s.freeNext + b2n (s.adapts c)
  frozen : s.adapts c = false → (t.pn c).taps = (s.pn c).taps ∧ t.pf c F.PN_RX_EQ.CTLE = s.pf c F.PN_RX_EQ.CTLE
  pon : t.pon = s.pon.set c { x with taps := (t.pn c).taps }
  frame : t = { s with freeNext := t.freeNext, pon := t.pon, evt := t.evt, regs := t.regs }
  regs : PnRegs c [0x4, 0x8] s t

theorem losChanged_of_setPn {x : PonState} (hx : x.taps = (s.pn c).taps)
    (h : LosShown c v (s.setPn c x) t) : LosChanged c v x s t := by
  rw [setPn_eq] at h
  obtain ⟨hlos, hstat, hevt, hfree, hfrozen, hpon, hframe, hregs⟩ := h
  have hpn : ({ s with pon := s.pon.set c x } : State).pn c = x := pn_of_pon_set rfl
  rw [hpn] at hpon hfrozen
  rw [hx] at hfrozen
  refine ⟨hlos, hstat _ rfl (by decide), hevt.trans ?_, hfree, hfrozen, ?_, hframe, hregs⟩
  · exact pRaiseMs_evt_congr (c := c) (s := s) (t := { s with pon := s.pon.set c x }) (l := []) rfl (.of_regs rfl) rfl ..
  · exact hpon.trans (pair_set_set ..)

theorem losChanged_setPn {x : PonState} (hx : x.taps = (s.pn c).taps) (v : Bool) :
    LosChanged c v x s ((s.setPn c x).losShown c v) := losChanged_of_setPn hx (losShown_holds v)

/-- The channel with the ball's level. -/
def State.ballSet (s : State) (c : PonCh) (level : Bool) : State := s.setPn c { s.pn c with rxlos := level }

theorem exec_rxlosChange (level : Bool) : exec (.rxlosChange c level) s =
    .next ((s.ballSet c level).setLos c (s.losOf c level (s.bit (pnB c) F.PN_RX_STAT.CDR_LOCK))) := by
  have h : (s.ballSet c level).pn c = { s.pn c with rxlos := level } := pn_setPn_same _
  refine (show exec (.rxlosChange c level) s = .next ((s.ballSet c level).showLos c) from rfl).trans ?_
  unfold State.showLos
  rw [h]
  rfl

theorem does_rxlosChange_quiet {level : Bool} (hv : s.losOf c level (s.bit (pnB c) F.PN_RX_STAT.CDR_LOCK) = v)
    (hlos : s.bit (pnB c) F.PN_RX_STAT.LOS ≠ v) (hquiet : v = false ∨ (s.align c ≠ 1 ∧ s.align c ≠ 2)) :
    Does (.rxlosChange c level) s fun t => LosChanged c v { s.pn c with rxlos := level } s t := by
  refine ⟨_, exec_rxlosChange level, ?_⟩
  rw [hv, setLos_of_quiet (s := s.ballSet c level) hlos hquiet]
  exact losChanged_setPn (x := { s.pn c with rxlos := level }) rfl v

/-- What a loss of signal in PRESYNC leaves. -/
structure PresyncLost (c : PonCh) (level : Bool) (s t : State) : Prop where
  los : t.bit (pnB c) F.PN_RX_STAT.LOS = true
  align : t.align c = 0
  cands : t.pf c F.PN_RX_STAT.CANDS = 0
  evt : t.evt = (s.pRaiseMs c 13 Ev.PN_RX_LOS 1 [(1, 1)]).evt
  free : t.freeNext = s.freeNext + b2n (s.adapts c)
  frozen : s.adapts c = false → (t.pn c).taps = (s.pn c).taps ∧ t.pf c F.PN_RX_EQ.CTLE = s.pf c F.PN_RX_EQ.CTLE
  pon : t.pon = s.pon.set c { s.pn c with rxlos := level, cands := [], taps := (t.pn c).taps }
  frame : t = { s with freeNext := t.freeNext, pon := t.pon, evt := t.evt, regs := t.regs }
  regs : PnRegs c [0x4, 0x8] s t

theorem PresyncLost.of_steps {level : Bool} {y : State} (hy : LosChanged c true { s.pn c with rxlos := level } s y)
    (ht : CandsShown c [] y t) (hlos : t.bit (pnB c) F.PN_RX_STAT.LOS = y.bit (pnB c) F.PN_RX_STAT.LOS) (halign : t.align c = 0)
    (hcands : t.pf c F.PN_RX_STAT.CANDS = 0) : PresyncLost c level s t := by
  have htpn := ht.pn
  obtain ⟨htpon, htframe, htregs⟩ := ht
  obtain ⟨hylos, -, hevt, hfree, hfrozen, hpon, hframe, hregs⟩ := hy
  have hypn := pn_of_pon_set hpon
  have htaps : (t.pn c).taps = (y.pn c).taps := by rw [htpn]
  have hctle : t.pf c F.PN_RX_EQ.CTLE = y.pf c F.PN_RX_EQ.CTLE := htregs.pf (by decide)
  obtain ⟨n, p, e, r, rfl⟩ : ∃ n p e r, y = { s with freeNext := n, pon := p, evt := e, regs := r } := ⟨_, _, _, _, hframe⟩
  refine ⟨hlos.trans hylos, halign, hcands, ?_, ?_, fun h => ?_, ?_, ?_, hregs.trans (htregs.mono (by decide))⟩
  · rw [htframe]
    exact hevt
  · rw [htframe]
    exact hfree
  · rw [htaps, hctle]
    exact hfrozen h
  · rw [htpon, hypn, htaps, hpon, pair_set_set]
  · obtain ⟨p', r', rfl⟩ : ∃ p' r', t = { s with freeNext := n, pon := p', evt := e, regs := r' } := ⟨_, _, htframe⟩
    rfl

theorem losOf_of_ball {level : Bool} (h : (level != s.bit (pnB c) F.PN_RX_CTRL.LOS_POL) = true) (lock : Bool) :
    s.losOf c level lock = true := by
  unfold State.losOf
  rw [h, Bool.true_or]

theorem does_rxlosChange_presync {level : Bool} (hlos : s.bit (pnB c) F.PN_RX_STAT.LOS = false)
    (hlevel : (level != s.bit (pnB c) F.PN_RX_CTRL.LOS_POL) = true) (halign : s.align c = 1) :
    Does (.rxlosChange c level) s fun t => PresyncLost c level s t := by
  have hy := losChanged_setPn (s := s) (c := c) (x := { s.pn c with rxlos := level }) rfl true
  refine ⟨_, exec_rxlosChange level, ?_⟩
  rw [losOf_of_ball hlevel, setLos_of_presync (s := s.ballSet c level) hlos halign, alignLeave_of_not_sync]
  · exact .of_steps hy (candsShown_holds ..) (bit_of_pf (stat_candsShown _ _ (.inr (by decide)))) (align_candsShown _ (by decide))
      (cands_candsShown _ (by decide))
  · exact ne_of_eq_of_ne (hy.align.trans halign) (by decide)

end Sys2Proof.Machine
end

section
/-! Proof support: loss of signal in SYNC, the recovery circuit's lock, and ENABLE (R53, R74, R76, R78, R108). -/

namespace Sys2Proof.Machine

variable {s t u : State} {c : PonCh} {v : Bool}

/-! ### Loss of signal in SYNC (R74, R78) -/

/-- The loss of alignment is counted and reported. -/
def State.lossNoted (s : State) (c : PonCh) : State := (s.pCount c Ctr.PN.ALIGN_LOSS).pRaise c 13 Ev.PN_ALIGN_LOSS [(1, 0)]

theorem leaveStep_lossNoted : LeaveStep c [] s (s.lossNoted c) :=
  (leaveStep_of_ctrs (pCount_eq ..)).trans (leaveStep_of_evt (pRaise_eq ..))

theorem setLos_of_sync (h : s.bit (pnB c) F.PN_RX_STAT.LOS = false) (halign : s.align c = 2) :
    s.setLos c true = ((s.losShown c true).lossNoted c).alignLeave c 0 := by
  have hshown : (s.losShown c true).align c = 2 := (losShown_holds true).align.trans halign
  have hne : ¬ (true = false ∨ ((s.losShown c true).align c ≠ 1 ∧ (s.losShown c true).align c ≠ 2)) := by
    rw [hshown]
    decide
  refine (if_neg (by rw [h]; decide)).trans ((if_neg hne).trans ?_)
  exact congrArg (fun x : State => x.alignLeave c 0) (if_pos hshown)

/-- What a loss of signal leaves in SYNC while the engine is in O5. -/
structure ServiceLost (c : PonCh) (s t : State) : Prop where
  los : t.bit (pnB c) F.PN_RX_STAT.LOS = true
  align : t.align c = 0
  act : t.act c = 6
  cur : t.sfcCur c = 0
  to2 : SMap.get (fun _ => 0) t.timers (Tm.to2 c) = s.now + max 1 (s.pf c F.PN_ACT_CFG.TO2) * msTicks + 1
  pnOther : ∀ i, i ≠ c → t.pon.get i = s.pon.get i
  bcOther : ∀ i, i ≠ c → t.bc.get i = s.bc.get i
  free : t.freeNext = s.freeNext + b2n (s.adapts c)
  frozen : s.adapts c = false → (t.pn c).taps = (s.pn c).taps ∧ t.pf c F.PN_RX_EQ.CTLE = s.pf c F.PN_RX_EQ.CTLE
  ben : BenRests c s t
  frame : t = { s with
    out := t.out, freeNext := t.freeNext, pon := t.pon, bc := t.bc, tally := t.tally, ctrs := t.ctrs, evt := t.evt
    timers := t.timers, regs := t.regs }
  timers : TimersBut [Tm.to1 c, Tm.to2 c, Tm.ps c] s t
  regs : RegsBut ((pnB c + 0x4) :: lostRegs c) s t

theorem stat_subset_lost : ∀ c : PonCh, ([0x4, 0x8].map fun o => pnB c.val + o) ⊆ (pnB c.val + 0x4) :: lostRegs c := by decide

theorem ctle_not_lost : ∀ c : PonCh, pnB c.val + F.PN_RX_EQ.CTLE.off ∉ lostRegs c := by decide

theorem ServiceLost.of_steps {x : PonState} {y z : State} (hx : x.benFrom = (s.pn c).benFrom)
    (hx' : x.benTill = (s.pn c).benTill) (hy : LosChanged c true x s y) (hz : LeaveStep c [] y z) (ht : SyncLost c z t) :
    ServiceLost c s t := by
  obtain ⟨hlos, -, -, hfree, hfrozen, hpon, hframe, hregs⟩ := hy
  obtain ⟨hzframe, hzregs, hztimers, hzkeeps, hzother⟩ := hz
  have hypn := pn_of_pon_set hpon
  have hreg : ∀ a, z.reg a = y.reg a := fun a => hzregs a (by simp)
  have hznow : z.now = s.now := by rw [hzframe, hframe]
  have hzfree : z.freeNext = y.freeNext := by rw [hzframe]
  have hout : z.out = s.out := hzkeeps.out.trans (by rw [hframe])
  have hyfrom : (y.pn c).benFrom = (s.pn c).benFrom := by rw [hypn]; exact hx
  have hytill : (y.pn c).benTill = (s.pn c).benTill := by rw [hypn]; exact hx'
  have hpol : z.bit (pnB c) F.PN_BEN_CFG.POL = s.bit (pnB c) F.PN_BEN_CFG.POL :=
    (bit_congr (hreg _)).trans (hregs.bit (by decide))
  have hto2 : z.pf c F.PN_ACT_CFG.TO2 = s.pf c F.PN_ACT_CFG.TO2 := (fld_congr (hreg _)).trans (hregs.pf (by decide))
  have htfree : t.freeNext = z.freeNext := by rw [ht.frame]
  have hctle : t.pf c F.PN_RX_EQ.CTLE = y.pf c F.PN_RX_EQ.CTLE :=
    (fld_congr (ht.regs _ (ctle_not_lost c))).trans (fld_congr (hreg _))
  refine
    { los := ht.los.trans ((bit_congr (hreg _)).trans hlos)
      align := ht.align
      act := ht.act
      cur := ht.cur
      to2 := by rw [ht.to2, hznow, hto2]
      pnOther := fun i hi => ?other
      bcOther := fun i hi => ?bc
      free := by rw [htfree, hzfree, hfree]
      frozen := fun h => ⟨(ht.taps.trans hzkeeps.taps).trans (hfrozen h).1, hctle.trans (hfrozen h).2⟩
      ben := benRests_trans hout (hzkeeps.benFrom.trans hyfrom) (hzkeeps.benTill.trans hytill) hpol hznow ht.ben
      frame := ?frame
      timers := ?timers
      regs := fun a ha => ?regs }
  case other =>
    rw [ht.pnOther i hi, hzother i hi, hpon, pair_get_set_other _ _ hi]
  case bc =>
    have hbc : y.bc = s.bc := by rw [hframe]
    rw [ht.bcOther i hi, hzkeeps.bc i (by rwa [chIx_val]), hbc]
  case frame =>
    have htframe := ht.frame
    obtain ⟨n, p, e, r, rfl⟩ : ∃ n p e r, y = { s with freeNext := n, pon := p, evt := e, regs := r } := ⟨_, _, _, _, hframe⟩
    obtain ⟨p, b, l, k, e, m, r, rfl⟩ : ∃ p b l k e m r, z = { s with
        freeNext := n, pon := p, bc := b, tally := l, ctrs := k, evt := e, timers := m, regs := r } :=
      ⟨_, _, _, _, _, _, _, hzframe⟩
    obtain ⟨o, p, b, l, k, e, m, r, rfl⟩ : ∃ o p b l k e m r, t = { s with
        out := o, freeNext := n, pon := p, bc := b, tally := l, ctrs := k, evt := e, timers := m, regs := r } :=
      ⟨_, _, _, _, _, _, _, _, htframe⟩
    rfl
  case timers =>
    exact timersBut_trans (timersBut_of_eq _ (by rw [hframe])) (timersBut_trans hztimers ht.timers)
  case regs =>
    rw [ht.regs a fun h => ha (.tail _ h), hreg a]
    exact hregs a fun h => ha (stat_subset_lost c h)

theorem pon_lossNoted : (s.lossNoted c).pon = s.pon := by
  unfold State.lossNoted
  rw [pRaise_eq, pCount_eq]

theorem ServiceLost.of_shown {x : PonState} {y : State} (hx : x.benFrom = (s.pn c).benFrom) (hx' : x.benTill = (s.pn c).benTill)
    (hy : LosChanged c true x s y) (halign : s.align c = 2) (hact : s.act c = 5) (hreasm : x.reasm = [])
    (harm : s.bit (pnB c) F.PN_TOD_CTRL.ARM = false) (hsrc : s.servoSrc ≠ c + 1) :
    ServiceLost c s ((y.lossNoted c).alignLeave c 0) := by
  have hz := leaveStep_lossNoted (s := y) (c := c)
  have hpn : (y.lossNoted c).pn c = { x with taps := (y.pn c).taps } := (pn_of_pon pon_lossNoted).trans (pn_of_pon_set hy.pon)
  generalize y.lossNoted c = z at hz hpn ⊢
  have hregs : PnRegs c [0x4, 0x8] s z := hy.regs.trans fun a _ => hz.regs a (by simp)
  have hzalign : z.align c = 2 := (fld_congr (hz.regs _ (by simp))).trans (hy.align.trans halign)
  have hzsrc : z.servoSrc = s.servoSrc := servoSrc_congr fun a ha => hregs.below ha
  have hzact : z.act c = 5 := (hregs.pf (by decide)).trans hact
  refine .of_steps hx hx' hy hz (syncLost_holds hzalign hzact ?_ ((hregs.bit (by decide)).trans harm) ?_)
  · rw [hpn]
    exact hreasm
  · rw [hzsrc]
    exact hsrc

theorem does_rxlosChange_service {level : Bool} (hlos : s.bit (pnB c) F.PN_RX_STAT.LOS = false)
    (hlevel : (level != s.bit (pnB c) F.PN_RX_CTRL.LOS_POL) = true) (halign : s.align c = 2) (hact : s.act c = 5)
    (hreasm : (s.pn c).reasm = []) (harm : s.bit (pnB c) F.PN_TOD_CTRL.ARM = false) (hsrc : s.servoSrc ≠ c + 1) :
    Does (.rxlosChange c level) s fun t => ServiceLost c s t := by
  have hy := losChanged_setPn (s := s) (c := c) (x := { s.pn c with rxlos := level }) rfl true
  refine ⟨_, exec_rxlosChange level, ?_⟩
  rw [losOf_of_ball hlevel, setLos_of_sync (s := s.ballSet c level) hlos halign]
  exact .of_shown (x := { s.pn c with rxlos := level }) rfl rfl hy halign hact hreasm harm hsrc

/-! ### The recovery circuit's lock changes (R74, R344) -/

/-- What a change of the recovery circuit's lock leaves where LOS follows it. -/
structure LockChanged (c : PonCh) (lock v : Bool) (s t : State) : Prop where
  lock : t.bit (pnB c) F.PN_RX_STAT.CDR_LOCK = lock
  los : t.bit (pnB c) F.PN_RX_STAT.LOS = v
  evt : t.evt = (s.pRaiseMs c 13 Ev.PN_RX_LOS (b2n v) [(1, b2n v)]).evt
  free : t.freeNext = s.freeNext + b2n (s.adapts c)
  frozen : s.adapts c = false → (t.pn c).taps = (s.pn c).taps ∧ t.pf c F.PN_RX_EQ.CTLE = s.pf c F.PN_RX_EQ.CTLE
  tim : t.tim = { s.tim with synceOut := t.tim.synceOut }
  pon : t.pon = s.pon.set c { s.pn c with taps := (t.pn c).taps }
  frame : t = { s with tim := t.tim, pon := t.pon, freeNext := t.freeNext, evt := t.evt, regs := t.regs }
  regs : PnRegs c [0x4, 0x8] s t

theorem LockChanged.of_steps {lock : Bool} {y z : State} {o : TimeState} (hlock : y.bit (pnB c) F.PN_RX_STAT.CDR_LOCK = lock)
    (hlos : y.bit (pnB c) F.PN_RX_STAT.LOS = s.bit (pnB c) F.PN_RX_STAT.LOS) (hy : y = { s with regs := y.regs })
    (hyregs : PnRegs c [0x8] s y) (hz : LosShown c v y z) (ho : o = { z.tim with synceOut := o.synceOut })
    (ht : t = { z with tim := o }) : LockChanged c lock v s t := by
  have hadapts : y.adapts c = s.adapts c := by
    unfold State.adapts
    rw [hlos, hyregs.bit (f := F.PN_RX_EQ.ADAPT) (by decide)]
  have hctle : y.pf c F.PN_RX_EQ.CTLE = s.pf c F.PN_RX_EQ.CTLE := hyregs.pf (by decide)
  have hevt := pRaiseMs_evt_congr (s := s) (t := y) (by rw [hy]) hyregs (by rw [hy]) c 13 Ev.PN_RX_LOS (b2n v) [(1, b2n v)]
  obtain ⟨hzlos, hstat, hzevt, hfree, hfrozen, hpon, hframe, hregs⟩ := hz
  have hzlock : z.bit (pnB c) F.PN_RX_STAT.CDR_LOCK = y.bit (pnB c) F.PN_RX_STAT.CDR_LOCK := bit_of_pf (hstat _ rfl (by decide))
  rw [hadapts] at hfree hfrozen
  rw [hctle] at hfrozen
  obtain ⟨r, rfl⟩ : ∃ r, y = { s with regs := r } := ⟨_, hy⟩
  obtain ⟨n, p, e, r, rfl⟩ : ∃ n p e r, z = { s with freeNext := n, pon := p, evt := e, regs := r } := ⟨_, _, _, _, hframe⟩
  subst ht
  exact ⟨hzlock.trans hlock, hzlos, hzevt.trans hevt, hfree, hfrozen, ho, hpon, rfl, (hyregs.mono (by decide)).trans hregs⟩

/-- The channel with the recovery circuit's lock. -/
def State.lockSet (s : State) (c : PonCh) (lock : Bool) : State := s.setPf c F.PN_RX_STAT.CDR_LOCK (b2n lock)

theorem exec_pnCdrLockChange (lock : Bool) : exec (.pnCdrLockChange c lock) s =
    .next ((s.lockSet c lock).setLos c (s.losOf c (s.pn c).rxlos lock)).showSynceOut := by
  have hpn : (s.lockSet c lock).pn c = s.pn c := pn_of_pon (setF_pon ..)
  have hlock : (s.lockSet c lock).bit (pnB c) F.PN_RX_STAT.CDR_LOCK = lock := bit_setPf_same _ (by decide) rfl
  have hpol : (s.lockSet c lock).bit (pnB c) F.PN_RX_CTRL.LOS_POL = s.bit (pnB c) F.PN_RX_CTRL.LOS_POL :=
    bit_setPf_other _ (by decide) (by decide)
  refine (show exec (.pnCdrLockChange c lock) s = .next ((s.lockSet c lock).showLos c).showSynceOut from rfl).trans ?_
  unfold State.showLos State.losOf
  rw [hpn, hlock, hpol]

theorem does_pnCdrLockChange {lock : Bool} (hv : s.losOf c (s.pn c).rxlos lock = v)
    (hlos : s.bit (pnB c) F.PN_RX_STAT.LOS ≠ v) (hquiet : v = false ∨ (s.align c ≠ 1 ∧ s.align c ≠ 2)) :
    Does (.pnCdrLockChange c lock) s fun t => LockChanged c lock v s t := by
  have hlos' : (s.lockSet c lock).bit (pnB c) F.PN_RX_STAT.LOS = s.bit (pnB c) F.PN_RX_STAT.LOS :=
    bit_setPf_other _ (by decide) (by decide)
  have halign : (s.lockSet c lock).align c = s.align c := pf_setPf_other _ (by decide) (by decide)
  refine ⟨_, exec_pnCdrLockChange lock, ?_⟩
  rw [hv, setLos_of_quiet (by rwa [hlos']) (by rwa [halign])]
  exact .of_steps (bit_setPf_same _ (by decide) rfl) hlos' (setPf_frame ..) (pnRegs_setPf _ (by decide)) (losShown_holds v) rfl rfl

/-! ### ENABLE is written (R53, R76, R78) -/

/-- What a write that changes ENABLE alone leaves outside SYNC. -/
structure EnableSet (c : PonCh) (v : Nat) (s t : State) : Prop where
  align : t.align c = if F.PN_RX_CTRL.ENABLE.of v != 0 then 0 else 3
  enable : t.bit (pnB c) F.PN_RX_CTRL.ENABLE = (F.PN_RX_CTRL.ENABLE.of v != 0)
  mode : t.pf c F.PN_RX_CTRL.MODE = F.PN_RX_CTRL.MODE.of v
  pon : t.pon = s.pon.set c { s.pn c with cands := [] }
  frame : t = { s with pon := t.pon, evt := t.evt, regs := t.regs }
  regs : RegsBut [pnB c, pnB c + 0x8] s t

theorem EnableSet.of_steps {w new : Nat} {y : State} (hy : RxCtrlStored c w s y) (ht : CandsShown c [] y t)
    (halign : t.align c = new) (hnew : new = if F.PN_RX_CTRL.ENABLE.of w != 0 then 0 else 3) : EnableSet c w s t := by
  obtain ⟨henable, hmode, -, hframe, hregs⟩ := hy
  obtain ⟨hpon, htframe, htregs⟩ := ht
  have henable' : t.pf c F.PN_RX_CTRL.ENABLE = F.PN_RX_CTRL.ENABLE.of w := (htregs.pf (by decide)).trans henable
  have hregs' : PnRegs c [0x0, 0x8] s t := (hregs.mono (by decide)).trans (htregs.mono (by decide))
  refine ⟨halign.trans hnew, congrArg (· != 0) henable', (htregs.pf (by decide)).trans hmode, ?_, ?_,
    regsBut_mono hregs' (by simp)⟩
  · rw [hpon, pn_of_pon (s := s) (t := y) (by rw [hframe]), hframe]
  · obtain ⟨r, rfl⟩ : ∃ r, y = { s with regs := r } := ⟨_, hframe⟩
    obtain ⟨p, r, rfl⟩ : ∃ p r, t = { s with pon := p, regs := r } := ⟨_, _, htframe⟩
    rfl

theorem exec_pnRxEnableWrite {m : Master} {w : Word} (h : s.reaches m (pnB c) = true) :
    exec (.pnRxEnableWrite m c w) s = .next (s.wrRxCtrl c w.toNat) := congrArg Host.Outcome.next (onWrite_of_reaches _ h)

theorem does_pnRxEnableWrite {m : Master} {w : Word} (h : s.reaches m (pnB c) = true) (hpon : s.beforePon = false)
    (hlos : s.bit (pnB c) F.PN_RX_STAT.LOS = s.losNow c) (hchk : s.bit (pnB c) F.PN_PRBS_CTRL.CHK_EN = false)
    (hmode : F.PN_RX_CTRL.MODE.of w.toNat = s.pf c F.PN_RX_CTRL.MODE)
    (hpol : F.PN_RX_CTRL.LOS_POL.of w.toNat = s.pf c F.PN_RX_CTRL.LOS_POL)
    (hon : (F.PN_RX_CTRL.ENABLE.of w.toNat != 0) ≠ s.bit (pnB c) F.PN_RX_CTRL.ENABLE) (halign : s.align c ≠ 2) :
    Does (.pnRxEnableWrite m c w) s fun t => EnableSet c w.toNat s t := by
  refine ⟨_, exec_pnRxEnableWrite h, ?_⟩
  rw [wrRxCtrl_of_enable hpon hlos hchk hmode hpol hon halign]
  exact .of_steps (rxCtrlStored_store hpol) (candsShown_holds ..) (align_candsShown _ (by split <;> decide)) rfl

theorem does_pnRxEnableWrite_held {m : Master} {w : Word} (h : s.reaches m (pnB c) = true)
    (hon : s.bit (pnB c) F.PN_RX_CTRL.ENABLE = true) (hmode : F.PN_RX_CTRL.MODE.of w.toNat ≠ s.pf c F.PN_RX_CTRL.MODE) :
    Does (.pnRxEnableWrite m c w) s fun t => t = s :=
  ⟨_, exec_pnRxEnableWrite h, if_pos ⟨hon, hmode⟩⟩

end Sys2Proof.Machine
end

section
/-! Proof support: patterns outside and in SYNC, and ARM, as whole commands (R78 to R81, R101). -/

namespace Sys2Proof.Machine

variable {s t u : State} {c : PonCh} {x : PsyncIn}

theorem Does.mono {i : Instr} {P Q : State → Prop} (h : Does i s P) (hpq : ∀ t, P t → Q t) : Does i s Q := by
  obtain ⟨t, ht, hp⟩ := h
  exact ⟨t, ht, hpq t hp⟩

/-! ### Candidates (R78) -/

/-- What a pattern leaves for which no candidate is free. -/
structure CandsFull (c : PonCh) (s t : State) : Prop where
  ctrs : t.ctrs = (s.pCount c Ctr.PN.CAND_FULL).ctrs
  evt : t.evt = (s.pRaise c 13 Ev.PN_CAND_FULL [(2, t.ctr (pnB c + Ctr.PN.CAND_FULL))]).evt
  frame : t = { s with ctrs := t.ctrs, evt := t.evt }

theorem CandsFull.of_steps {y : State} (hctrs : y.ctrs = (s.pCount c Ctr.PN.CAND_FULL).ctrs) (hy : y = { s with ctrs := y.ctrs }) :
    CandsFull c s (y.pRaise c 13 Ev.PN_CAND_FULL [(2, y.ctr (pnB c + Ctr.PN.CAND_FULL))]) := by
  have hevt := pRaise_evt_congr (c := c) (s := s) (t := y) (l := []) (by rw [hy]) (.of_regs (by rw [hy])) c 13 Ev.PN_CAND_FULL
    [(2, y.ctr (pnB c + Ctr.PN.CAND_FULL))]
  rw [pRaise_eq]
  obtain ⟨k, rfl⟩ : ∃ k, y = { s with ctrs := k } := ⟨_, hy⟩
  exact ⟨hctrs, hevt, rfl⟩

theorem candsFull_newPattern {pos sfc : Nat} (hfull : 4 ≤ (s.pn c).cands.length) : CandsFull c s (s.newPattern c pos sfc) := by
  rw [newPattern_of_full hfull]
  exact .of_steps rfl (pCount_eq ..)

/-- What a wrong pattern at a candidate's position leaves, with `l` the candidates that stay. -/
structure CandDropped (c : PonCh) (l : List Cand) (s t : State) : Prop where
  align : t.align c = if l.isEmpty then 0 else 1
  ctrs : t.ctrs = (s.pCount c Ctr.PN.CAND_FALSE).ctrs
  pon : t.pon = s.pon.set c { s.pn c with cands := l }
  frame : t = { s with pon := t.pon, ctrs := t.ctrs, regs := t.regs }
  regs : PnRegs c [0x8] s t

theorem CandDropped.of_steps {l : List Cand} {y : State} (hctrs : y.ctrs = (s.pCount c Ctr.PN.CAND_FALSE).ctrs)
    (hy : y = { s with ctrs := y.ctrs }) (ht : CandsShown c l y t) (halign : t.align c = if l.isEmpty then 0 else 1) :
    CandDropped c l s t := by
  obtain ⟨hpon, hframe, hregs⟩ := ht
  obtain ⟨k, rfl⟩ : ∃ k, y = { s with ctrs := k } := ⟨_, hy⟩
  obtain ⟨p, r, rfl⟩ : ∃ p r, t = { s with ctrs := k, pon := p, regs := r } := ⟨_, _, hframe⟩
  exact ⟨halign, hctrs, hpon, rfl, hregs⟩

theorem candDropped_candPattern {k : Cand} {ok : Bool} {sfc : Nat} (hwrong : ok = false ∨ sfc ≠ k.sfc) :
    CandDropped c ((s.pn c).cands.filter fun y => decide (y ≠ k)) s (s.candPattern c k ok sfc) := by
  rw [candPattern_of_wrong hwrong]
  exact .of_steps rfl (pCount_eq ..) (candsShown_holds ..) (align_candsShown _ (by split <;> decide))

/-- A pattern with a header that is lost, with too many errors or with another SFC is wrong. -/
theorem wrong_of {k : Cand} (h : x.hecOk = false ∨ s.pf c F.PN_ALIGN_CFG.TOL < x.errs ∨ x.sfc.toNat ≠ k.sfc) :
    s.patternOk c x = false ∨ x.sfc.toNat ≠ k.sfc := by
  unfold State.patternOk
  obtain h | h | h := h
  · rw [h]
    exact .inl rfl
  · rw [decide_eq_false (Nat.not_le.2 h), Bool.and_false]
    exact .inl rfl
  · exact .inr h

/-! ### A frame in SYNC (R81, R101) -/

theorem todHit_of_disarmed (harm : s.bit (pnB c) F.PN_TOD_CTRL.ARM = false) : s.todHit c = false := by
  unfold State.todHit
  rw [armBit_syncFrame, harm, Bool.false_and]

theorem todTarget_syncFrame : (s.syncFrame c).todTarget c = s.todTarget c := by
  unfold State.todTarget
  rw [syncFrame_holds.pn]
  rfl

theorem todHit_of_armed (harm : s.bit (pnB c) F.PN_TOD_CTRL.ARM = true) (htarget : s.todTarget c = sfcNext (s.sfcCur c)) :
    s.todHit c = true := by
  unfold State.todHit
  rw [armBit_syncFrame, harm, todTarget_syncFrame, decide_eq_true htarget]
  rfl

/-- What a frame leaves that is captured. -/
structure FrameCaptured (c : PonCh) (p : PonState) (time : Nat) (s t : State) : Prop where
  cur : t.sfcCur c = sfcNext (s.sfcCur c)
  arm : t.bit (pnB c) F.PN_TOD_CTRL.ARM = false
  missed : t.bit (pnB c) F.PN_TOD_CTRL.MISS = false
  words : t.regWords (pnB c + 0x68) 4 = timeWords time
  tim : t.tim = { s.tim with rangedSince := s.tim.rangedSince.set c false }
  evt : t.evt = (s.pRaise c 13 Ev.PN_TOD_DONE [(1, 1), (1, 0), (4, s.todTarget c)]).evt
  pon : t.pon = s.pon.set c p
  frame : t = { s with pon := t.pon, tim := t.tim, ctrs := t.ctrs, evt := t.evt, regs := t.regs }
  regs : PnRegs c (0x78 :: 0x7c :: todRegs) s t

theorem FrameCaptured.of_steps {p : PonState} {k y : State} {time : Nat} (hp : p.todSfc = (s.pn c).todSfc)
    (hy : SyncFrame c p k s y) (ht : Captured c time y t) : FrameCaptured c p time s t := by
  have hypn := hy.pn
  obtain ⟨hsfc, hpon, -, hframe, hregs⟩ := hy
  obtain ⟨harm, hmissed, hwords, htim, hevt, htframe, htregs⟩ := ht
  have htarget : y.todTarget c = s.todTarget c := by
    unfold State.todTarget
    rw [hypn, hp]
  have hraise := pRaise_evt_congr (s := s) (t := y) (by rw [hframe]) hregs c 13 Ev.PN_TOD_DONE
    [(1, 1), (1, 0), (4, s.todTarget c)]
  rw [htarget] at hevt
  refine ⟨(htregs.sfcCur (by decide)).trans hsfc, harm, hmissed, hwords, ?_, hevt.trans hraise, ?_, ?_,
    (hregs.mono (by decide)).trans (htregs.mono (by decide))⟩
  · rw [htim, hframe]
  · rw [htframe]
    exact hpon
  · obtain ⟨o, k, r, rfl⟩ : ∃ o k r, y = { s with pon := o, ctrs := k, regs := r } := ⟨_, _, _, hframe⟩
    obtain ⟨m, e, r, rfl⟩ : ∃ m e r, t = { s with pon := o, ctrs := k, tim := m, evt := e, regs := r } := ⟨_, _, _, htframe⟩
    rfl

/-- The frame a capture is armed for is captured, with a replica that is loaded and a Steward that has not armed it. -/
theorem frameCaptured_holds {st : StampIn} (hoff : s.stampOff (0x08 + c.val) = false)
    (hst : s.stw.todArm.get c = false ∨ s.fld stwB F.STW_STAT.STATE ≠ 1) :
    FrameCaptured c { (s.pn c).begun s c with errs := 0 } (s.captureTime c st) s ((s.goodFrame c).todCapture c st) := by
  have hy := goodFrame_holds (s := s) (c := c)
  have htim : (s.goodFrame c).tim = s.tim := by rw [hy.frame]
  have hnow : (s.goodFrame c).now = s.now := by rw [hy.frame]
  have hstw : (s.goodFrame c).stw = s.stw := by rw [hy.frame]
  have hstat : ∀ c : PonCh, stwB + F.STW_STAT.STATE.off ∉ [0x78, 0x7c].map fun o => pnB c + o := by decide
  have hfld : (s.goodFrame c).fld stwB F.STW_STAT.STATE = s.fld stwB F.STW_STAT.STATE := fld_congr (hy.regs _ (hstat c))
  have ht := captured_todCapture (s := s.goodFrame c) (c := c) (st := st) ((stampOff_congr htim hnow _).trans hoff)
    (by rw [hstw, hfld]; exact hst)
  rw [captureTime_congr htim hy.regs (by decide)] at ht
  exact .of_steps rfl hy ht

theorem words_four {o : Nat} {a b d e : Word} (h : t.regWords (pnB c + o) 4 = [a, b, d, e]) : t.reg (pnB c + o) = a ∧
    t.reg (pnB c + (o + 4)) = b ∧ t.reg (pnB c + (o + 8)) = d ∧ t.reg (pnB c + (o + 12)) = e := by
  rw [regWords_four, Nat.add_assoc, Nat.add_assoc, Nat.add_assoc] at h
  simpa using h

/-! ### ARM (R101) -/

theorem exec_pnTodArm {m : Master} (hi : BitVec 19) (h : s.reaches m (pnB c + 0x60) = true) :
    exec (.pnTodArm m c hi) s = .next (s.wrTodCtrl c (2 ^ 31 + hi.toNat)) := congrArg Host.Outcome.next (onWrite_of_reaches _ h)

theorem TodArmed.align {target : Nat} (h : TodArmed c target s t) : t.align c = s.align c := h.regs.pf (by decide)

theorem TodArmed.cur {target : Nat} (h : TodArmed c target s t) : t.sfcCur c = s.sfcCur c := h.regs.sfcCur (by decide)

/-- ARM with a target that is still to come, or outside SYNC. -/
theorem does_pnTodArm_waits {m : Master} {hi : BitVec 19} (h : s.reaches m (pnB c + 0x60) = true)
    (hcome : s.align c = 2 → s.sfcCur c < s.armTarget c hi.toNat) :
    Does (.pnTodArm m c hi) s fun t => TodArmed c (s.armTarget c hi.toNat) s t := by
  have hy := todArmed_holds (s := s) (c := c) hi.isLt
  refine ⟨_, exec_pnTodArm hi h, ?_⟩
  rw [wrTodCtrl_of_arm, hy.align, hy.target, hy.cur, if_neg fun hpast => Nat.not_le.2 (hcome hpast.1) hpast.2]
  exact hy

/-- What ARM leaves that ends as a miss. -/
structure TodMissed (c : PonCh) (target : Nat) (s t : State) : Prop where
  arm : t.bit (pnB c) F.PN_TOD_CTRL.ARM = false
  missed : t.bit (pnB c) F.PN_TOD_CTRL.MISS = true
  words : t.regWords (pnB c + 0x68) 4 = [0, 0, 0, 0]
  evt : t.evt = (s.pRaise c 13 Ev.PN_TOD_DONE [(1, 0), (1, 1), (4, target)]).evt
  pon : t.pon = s.pon.set c { s.pn c with todSfc := target }
  stw : t.stw = { s.stw with todArm := s.stw.todArm.set c false }
  frame : t = { s with pon := t.pon, stw := t.stw, evt := t.evt, regs := t.regs }
  regs : PnRegs c todRegs s t

theorem TodMissed.of_steps {target : Nat} {y : State} (hy : TodArmed c target s y) (ht : TodEnded c true y t) :
    TodMissed c target s t := by
  have htarget := hy.target
  obtain ⟨-, -, hwords, hpon, hframe, hregs⟩ := hy
  obtain ⟨harm, hmissed, hevt, hstw, htframe, htregs⟩ := ht
  have hraise := pRaise_evt_congr (s := s) (t := y) (by rw [hframe]) hregs c 13 Ev.PN_TOD_DONE [(1, 0), (1, 1), (4, target)]
  rw [htarget] at hevt
  rw [if_pos rfl] at hstw
  refine ⟨harm, hmissed, (htregs.words (by decide)).trans hwords, hevt.trans hraise, ?_, ?_, ?_,
    hregs.trans (htregs.mono (by decide))⟩
  · rw [htframe]
    exact hpon
  · rw [hstw, hframe]
  · obtain ⟨p, r, rfl⟩ : ∃ p r, y = { s with pon := p, regs := r } := ⟨_, _, hframe⟩
    obtain ⟨w, e, r, rfl⟩ : ∃ w e r, t = { s with pon := p, stw := w, evt := e, regs := r } := ⟨_, _, _, htframe⟩
    rfl

/-- ARM in SYNC with a target that has passed. -/
theorem does_pnTodArm_misses {m : Master} {hi : BitVec 19} (h : s.reaches m (pnB c + 0x60) = true) (halign : s.align c = 2)
    (hpast : s.armTarget c hi.toNat ≤ s.sfcCur c) :
    Does (.pnTodArm m c hi) s fun t => TodMissed c (s.armTarget c hi.toNat) s t := by
  have hy := todArmed_holds (s := s) (c := c) hi.isLt
  refine ⟨_, exec_pnTodArm hi h, ?_⟩
  rw [wrTodCtrl_of_arm, hy.align, hy.target, hy.cur, if_pos ⟨halign, hpast⟩]
  exact .of_steps hy (todEnded_todEnd true)

/-! ### Decoded frames (R82, R86) -/

section Decoded

variable {x : FrameIn}

/-- What a frame leaves whose header is lost. -/
structure DecodedLost (c : PonCh) (p : PonState) (k s t : State) : Prop where
  pon : t.pon = s.pon.set c p.headerLost
  ctrs : CtrsLike ((k.pCount c Ctr.PN.FS_HDR_ERR).pCount c Ctr.PN.BWMAP_LOST) t
  frame : t = { s with pon := t.pon, tally := t.tally, ctrs := t.ctrs, evt := t.evt, sampN := t.sampN, regs := t.regs }
  regs : RegsBut pmcRegs s t

theorem DecodedLost.of_steps {p : PonState} {k y : State} (hy : FrameDecoded c p k s y) (ht : HeaderLost c y t) :
    DecodedLost c p k s t := by
  obtain ⟨hpon, hctrs, hframe, hregs⟩ := hy
  obtain ⟨htpon, htctrs, htframe⟩ := ht
  have hypn := pn_of_pon_set hpon
  refine ⟨?_, ((hctrs.pCount ..).pCount ..).trans htctrs, ?_, fun a ha => ?_⟩
  · rw [htpon, hypn, hpon, pair_set_set]
  · obtain ⟨o, k, e, n, r, rfl⟩ : ∃ o k e n r, y = { s with pon := o, ctrs := k, evt := e, sampN := n, regs := r } :=
      ⟨_, _, _, _, _, hframe⟩
    obtain ⟨l, o, k, e, rfl⟩ : ∃ l o k e, t = { s with tally := l, pon := o, ctrs := k, evt := e, sampN := n, regs := r } :=
      ⟨_, _, _, _, htframe⟩
    rfl
  · rw [← hregs a ha]
    exact reg_of_regs (by rw [htframe]) a

end Decoded

end Sys2Proof.Machine
end

section
/-! Proof support: the receiver of a PON island aligns and decodes (O29). -/

namespace Sys2Proof.Machine

theorem alignN_of_lt {s : State} {c : PonCh} (h : 1 < s.pf c F.PN_ALIGN_CFG.N) : s.alignN c ≠ 1 := by
  unfold State.alignN
  omega

/-- Settles O29, command by command: LOS and its loss of alignment, the candidates, the frames in SYNC, the windows and ARM each
by what the command leaves. -/
theorem receiverAlignsAndDecodes : Obligations.ReceiverAlignsAndDecodes := by
  unfold Obligations.ReceiverAlignsAndDecodes
  refine ⟨?losQuiet, ?losPresync, ?losService, ?cdrLock, ?enable, ?disable, ?modeHeld, ?newCand, ?full, ?confirm, ?lock, ?drop,
    ?good, ?capture, ?errored, ?decode, ?headerLost, ?window, ?armWaits, ?armMisses⟩
  case losQuiet =>
    intro c level s hlos hquiet
    refine (does_rxlosChange_quiet rfl hlos hquiet).mono fun t h => ?_
    exact ⟨h.los, pn_of_pon_set h.pon, pn_other_of_pon_set h.pon, h.evt, h.free, h.frozen, h.frame, h.regs⟩
  case losPresync =>
    intro c level s hlos hlevel halign
    refine (does_rxlosChange_presync hlos hlevel halign).mono fun t h => ?_
    exact ⟨h.los, h.align, h.cands, pn_of_pon_set h.pon, pn_other_of_pon_set h.pon, h.evt, h.free, h.frozen, h.frame, h.regs⟩
  case losService =>
    intro c level s hlos hlevel halign hact hreasm harm hsrc
    refine (does_rxlosChange_service hlos hlevel halign hact hreasm harm hsrc).mono fun t h => ?_
    have hne : ∀ c : PonCh, chIx (1 - c.val) ≠ c := by decide
    exact ⟨h.los, h.align, h.act, h.cur, h.to2, h.pnOther _ (hne c), h.bcOther _ (hne c), h.free, h.frozen, h.ben, h.frame,
      h.timers, h.regs⟩
  case cdrLock =>
    intro c lock s hlos hquiet
    refine (does_pnCdrLockChange rfl hlos hquiet).mono fun t h => ?_
    exact ⟨h.lock, h.los, h.evt, h.free, h.frozen, h.tim, h.pon, h.frame, h.regs⟩
  case enable =>
    intro m c v s hreach hpon hlos hoff halign hchk hon hmode hpol
    refine (does_pnRxEnableWrite hreach hpon hlos hchk hmode hpol (by rw [hon, hoff]; decide) (by rw [halign]; decide)).mono
      fun t h => ?_
    obtain ⟨halign', henable, hmode', hpon', hframe, hregs⟩ := h
    rw [hon] at halign' henable
    exact ⟨halign', henable, hmode'.trans hmode, pn_of_pon_set hpon', pn_other_of_pon_set hpon', hframe, hregs⟩
  case disable =>
    intro m c v s hreach hpon hlos hon halign hchk hoff hmode hpol
    refine (does_pnRxEnableWrite hreach hpon hlos hchk hmode hpol (by rw [hon, hoff]; decide) (by omega)).mono fun t h => ?_
    obtain ⟨halign', henable, -, hpon', hframe, hregs⟩ := h
    rw [hoff] at halign' henable
    exact ⟨halign', henable, pn_of_pon_set hpon', pn_other_of_pon_set hpon', hframe, hregs⟩
  case modeHeld =>
    intro m c v s hreach hon hmode
    exact does_pnRxEnableWrite_held hreach hon hmode
  case newCand =>
    intro c x s hlive hpon hlos halign hfind hhec herrs hroom hn
    refine does_psyncPattern_new hlive hpon hlos halign hfind (patternOk_of hhec herrs) ?_
    have h := candsShown_holds (s := s) (c := c) ((s.pn c).cands ++ [{ pos := x.pos, count := 1, sfc := sfcNext x.sfc.toNat }]) 1
    have hcount := cands_candsShown (s := s) (c := c)
      (l := (s.pn c).cands ++ [{ pos := x.pos, count := 1, sfc := sfcNext x.sfc.toNat }]) 1 (by simp; omega)
    rw [newPattern_of_room hroom (alignN_of_lt hn)]
    exact ⟨align_candsShown _ (by decide), hcount.trans (by simp), h.pn, pn_other_of_pon_set h.pon, h.frame, h.regs⟩
  case full =>
    intro c x s hlive hpon hlos halign hfind hhec herrs hfull
    refine does_psyncPattern_new hlive hpon hlos halign hfind (patternOk_of hhec herrs) ?_
    have h := candsFull_newPattern (s := s) (c := c) (pos := x.pos) (sfc := x.sfc.toNat) hfull
    exact ⟨h.ctrs, h.evt, h.frame⟩
  case confirm =>
    intro c x k s hlive hpon hlos halign hfind hhec herrs hsfc hn
    refine does_psyncPattern_cand hlive hpon hlos halign hfind ?_
    rw [patternOk_of hhec herrs, candPattern_of_confirm hsfc hn]
    have h := candsShown_setCands (s := s) (c := c) ((s.pn c).cands.map fun y =>
      if y = k then { k with count := k.count + 1, sfc := sfcNext k.sfc } else y)
    rw [hsfc]
    exact ⟨h.pn, pn_other_of_pon_set h.pon, align_setCands _, h.frame, h.regs⟩
  case lock =>
    intro c x k s hlive hpon hlos halign hfind hhec herrs hsfc hn hact
    refine does_psyncPattern_cand hlive hpon hlos halign hfind ?_
    rw [patternOk_of hhec herrs, candPattern_of_lock hsfc hn]
    have h := alignLocked_holds (s := s) (c := c) (pos := k.pos) x.sfc.isLt hact
    exact ⟨h.align, h.cands, h.cur, h.act, pn_of_pon_set h.pon, pn_other_of_pon_set h.pon, h.evt, h.ben, h.frame, h.timers,
      h.regs⟩
  case drop =>
    intro c x k s hlive hpon hlos halign hfind hwrong
    refine does_psyncPattern_cand hlive hpon hlos halign hfind ?_
    have h := candDropped_candPattern (s := s) (c := c) (wrong_of hwrong)
    exact ⟨pn_of_pon_set h.pon, pn_other_of_pon_set h.pon, h.align, h.ctrs, h.frame, h.regs⟩
  case good =>
    intro c x s hlive hpon hlos halign hpos hhec herrs hsfc harm
    refine does_psyncPattern_sync hlive hpon hlos halign hpos ?_
    rw [syncPattern_of_good (patternOk_of hhec herrs) hsfc, todHit_of_disarmed harm, if_neg Bool.false_ne_true]
    have h := goodFrame_holds (s := s) (c := c)
    exact ⟨h.sfc, h.pn, pn_other_of_pon_set h.pon, h.ctrs.ctrs, h.frame, h.regs⟩
  case capture =>
    intro c x s hlive hpon hlos halign hpos hhec herrs hsfc harm htarget hoff hst
    refine does_psyncPattern_sync hlive hpon hlos halign hpos ?_
    rw [syncPattern_of_good (patternOk_of hhec herrs) hsfc, todHit_of_armed harm htarget, if_pos rfl]
    have h := frameCaptured_holds (s := s) (c := c) (st := x.st) hoff (by rwa [chIx_val] at hst)
    obtain ⟨hsec, hsecHi, hns, hfrac⟩ := words_four h.words
    exact ⟨h.cur, h.arm, h.missed, hsec, hsecHi, hns, hfrac, h.tim, h.evt, pn_other_of_pon_set h.pon, h.frame, h.regs⟩
  case errored =>
    intro c x s hlive hpon hlos halign hpos hbad hm harm
    refine does_psyncPattern_sync hlive hpon hlos halign hpos ?_
    have h := badFrame_holds (s := s) (c := c) (s.patternOk c x)
    have hlimit : (s.badFrame c (s.patternOk c x)).pf c F.PN_ALIGN_CFG.M = s.pf c F.PN_ALIGN_CFG.M := h.regs.pf (by decide)
    have herrs : ((s.syncFrame c).pn c).errs = (s.pn c).errs := by
      rw [syncFrame_holds.pn]
      rfl
    rw [syncPattern_of_bad (ok := s.patternOk c x) hbad (todHit_of_disarmed harm) (by rw [hlimit, herrs]; omega)]
    exact ⟨h.sfc, congrArg PonState.errs h.pn, congrArg PonState.frame h.pn, h.ctrs.ctrs, pn_other_of_pon_set h.pon, h.frame,
      h.regs⟩
  case decode =>
    intro c x s hlive halign hgood
    obtain ⟨hhdr, hmark, hmap⟩ := hgood
    refine ⟨_, exec_phyFrameDecode hlive halign, ?_⟩
    rw [if_neg (by rw [hhdr, hmark]; decide), if_neg (by rw [hmap]; decide)]
    have h := frameDecoded_holds (s := s) (c := c) (x := x)
    exact ⟨pn_of_pon_set h.pon, pn_other_of_pon_set h.pon, h.ctrs.ctrs, h.frame, h.regs⟩
  case headerLost =>
    intro c x s hlive halign hbad
    have hlost : (!x.hdrOk || ({ s.pn c with marks := s.badWords c x } : PonState).marked x.hdr) = true := by
      obtain h | h := hbad
      · rw [h]
        rfl
      · rw [h, Bool.or_true]
    refine ⟨_, exec_phyFrameDecode hlive halign, ?_⟩
    rw [if_pos hlost]
    have h := DecodedLost.of_steps (frameDecoded_holds (s := s) (c := c) (x := x)) headerLost_holds
    exact ⟨pn_of_pon_set h.pon, pn_other_of_pon_set h.pon, h.ctrs.ctrs, h.frame, h.regs⟩
  case window =>
    intro c s hlive halign hwin
    refine ⟨_, exec_berWindowEnd hlive halign hwin, ?_⟩
    have h := windowEnded_holds (s := s) (c := c)
    have hpn := pn_of_pon_set h.pon
    refine ⟨h.bits, fun hover => ?_, fun hquiet => ?_, fun hover => ?_, fun hquiet => ?_, ?_, pn_other_of_pon_set h.pon, h.frame,
      h.regs⟩
    · have hsd : s.berSd c (s.pn c) = (true, 0) := berBit_of_over hover
      rw [h.sd, hpn, hsd]
      exact ⟨rfl, rfl⟩
    · exact h.sd.trans (berBit_of_quiet hquiet)
    · have hsf : s.berSf c (s.pn c) = (true, 0) := berBit_of_over hover
      rw [h.sf, hpn, hsf]
      exact ⟨rfl, rfl⟩
    · exact h.sf.trans (berBit_of_quiet hquiet)
    · rw [hpn]
      rfl
  case armWaits =>
    intro m c hi s hreach hcome
    refine (does_pnTodArm_waits hreach hcome).mono fun t h => ?_
    exact ⟨h.arm, h.missed, h.target, h.words, h.pon, h.frame, h.regs⟩
  case armMisses =>
    intro m c hi s hreach halign hpast
    refine (does_pnTodArm_misses hreach halign hpast).mono fun t h => ?_
    rw [chIx_val]
    exact ⟨h.arm, h.missed, h.words, h.evt, h.pon, h.stw, h.frame, h.regs⟩

end Sys2Proof.Machine
end

section
/-! Refutation of the statement about the stripe windows (O15). -/

namespace Sys2Proof.Machine

variable {s : State}

/-- A Clearing that drains accepts nothing, whether or not it is live (R24). -/
theorem accepts_of_draining {id : Nat} (h : s.draining.contains id = true) : s.accepts id = false := by
  unfold State.accepts
  rw [h, Bool.not_true, Bool.and_false]

/-- A Clearing that accepts nothing loses a skip marker, and its windows stay as they are (R24, R150). -/
theorem skipMarker_of_refused (h : s.accepts 0x24 = false) (sf seq : Nat) : s.skipMarker sf seq = s :=
  if_pos (by rw [h]; rfl)

/-- The oldest marker on the side paths, once it is off its path, is given to the Clearing. -/
theorem exec_stripeSkipMarkerArrive {m : Nat × Nat × Nat} {rest : List (Nat × Nat × Nat)} (hlive : s.live 0x24 = true)
    (hmarkers : s.tlr.markers = m :: rest) : exec .stripeSkipMarkerArrive s =
      .next ({ s with tlr := { s.tlr with markers := rest } }.skipMarker m.2.1 m.2.2) := by
  refine congrArg Host.Outcome.next ((if_pos hlive).trans ?_)
  beta_reduce
  rw [hmarkers]

/-- While the Clearing drains, the marker that reaches it leaves its side path and changes nothing else. -/
theorem exec_stripeSkipMarkerArrive_of_draining {m : Nat × Nat × Nat} {rest : List (Nat × Nat × Nat)}
    (hlive : s.live 0x24 = true) (hdrain : s.draining.contains 0x24 = true) (hmarkers : s.tlr.markers = m :: rest) :
    exec .stripeSkipMarkerArrive s = .next { s with tlr := { s.tlr with markers := rest } } := by
  have hrefused : ({ s with tlr := { s.tlr with markers := rest } } : State).accepts 0x24 = false :=
    accepts_of_draining hdrain
  rw [exec_stripeSkipMarkerArrive hlive hmarkers, skipMarker_of_refused hrefused]

/-- The Teller's island is live and drains. Stripe context 3, of service flow 7, is valid, expects number 5 and holds nothing, and
the marker of that number is on channel 0's side path. -/
def markerMeetsDrain : State :=
  { State.reset.setBit aonB (islBit 0x10 0x24) true with
    draining := [0x24]
    tlr := { TlrState.reset with
      markers := [(0, 7, 5)]
      stripes := [(3, { valid := true, init := false, sf := 7, next := 5, held := [] })] } }

theorem markerMeetsDrain_live : markerMeetsDrain.live 0x24 = true := by decide +kernel

/-- Refutes O15: a Clearing that drains is live and accepts nothing, so it loses a marker with the next number (R24), and NEXT
stays where it was; the first clause asks only that the island is live. -/
theorem not_stripeWindowsSettle : ¬ Obligations.StripeWindowsSettle := by
  unfold Obligations.StripeWindowsSettle
  intro h
  obtain ⟨hmarker, -⟩ := h
  obtain ⟨t, hexec, hstripe, -⟩ :=
    hmarker 0 7 [] 3 markerMeetsDrain markerMeetsDrain_live rfl rfl rfl rfl (by decide)
  have hlost := exec_stripeSkipMarkerArrive_of_draining markerMeetsDrain_live rfl (m := (0, 7, 5)) (rest := []) rfl
  have hnext := Host.Outcome.next.inj (hlost.symm.trans hexec)
  rw [← hnext] at hstripe
  have hadvanced : 5 = 6 := congrArg StripeCtx.next hstripe
  exact absurd hadvanced (by decide)

end Sys2Proof.Machine
end

section
/-! Refutation of the statement about SecY entries and the test patterns (O32). -/

namespace Sys2Proof.Machine

/-- Quad 0 is live, and TQ_SEC_CMD of port 0 holds bit 20, which no field of it covers. -/
def reservedBitSet : State := (State.reset.setBit aonB (islBit 0x10 0x10) true).setReg (tqB 0 + 0x310) 0x00100000

theorem reservedBitSet_reaches : reservedBitSet.reaches .steward (tqB 0 + 0x310) = true := by decide +kernel

theorem reservedBitSet_idle : reservedBitSet.bit (tqB 0) F.TQ_SEC_CMD.BUSY = false := by decide +kernel

/-- What a read of transmit SA 0 of port 0 leaves of that state. -/
def entryRead : State := reservedBitSet.onWrite .steward (tqB 0 + 0x310) fun s => s.wrSecCmd 0 (secCmd 0 0 0)

theorem entryRead_cmd : entryRead.reg (tqB 0 + 0x310) = 0x80100000#32 := by decide +kernel

/-- Refutes O32: an access to TQ_SEC_CMD replaces the fields of R388 and keeps the register's other bits, so a reserved bit
that is 1 is still 1 after a read of an entry, where the clause gives the whole word by BUSY, SPACE and INDEX. -/
theorem not_secyEntriesAndTestPatterns : ¬ Obligations.SecyEntriesAndTestPatterns := by
  unfold Obligations.SecyEntriesAndTestPatterns
  intro h
  obtain ⟨hread, -⟩ := h
  obtain ⟨t, hexec, -, hcmd, -⟩ :=
    hread .steward 0 0 0 0 reservedBitSet reservedBitSet_reaches reservedBitSet_idle rfl (by decide)
  have hnext : entryRead = t := Host.Outcome.next.inj hexec
  rw [← hnext, Fin.val_zero, entryRead_cmd] at hcmd
  exact absurd hcmd (by decide)

end Sys2Proof.Machine
end

section
/-! Proof support: the registers of a tenant port's page, and what is read of them (R163, R167, R187, R197). -/

namespace Sys2Proof.Machine

variable {s t u : State} {n : Nat} {l m : List Nat}

/-! ### One page -/

/-- A port's page reads the same in two states, but for the listed offsets in it. -/
def PageLike (n : Nat) (l : List Nat) (s t : State) : Prop :=
  ∀ o < 0x1000, o ∉ l → t.reg (tqB n + o) = s.reg (tqB n + o)

theorem PageLike.refl (n : Nat) (l : List Nat) (s : State) : PageLike n l s s := fun _ _ _ => rfl

theorem PageLike.trans (h : PageLike n l s t) (k : PageLike n l t u) : PageLike n l s u := fun o ho hl =>
  (k o ho hl).trans (h o ho hl)

theorem PageLike.mono (h : PageLike n l s t) (hlm : l ⊆ m) : PageLike n m s t := fun o ho hm => h o ho fun hl => hm (hlm hl)

theorem pageLike_of_regs (h : t.regs = s.regs) : PageLike n l s t := fun o _ _ => reg_of_regs h (tqB n + o)

theorem pageLike_of_regsBut {k : List Nat} (h : RegsBut k s t) (hk : ∀ o < 0x1000, o ∉ l → tqB n + o ∉ k) :
    PageLike n l s t := fun o ho hl => h _ (hk o ho hl)

/-- Other registers of the page are as they were. -/
theorem pageLike_of_offsets (h : RegsBut (l.map fun o => tqB n + o) s t) : PageLike n l s t :=
  pageLike_of_regsBut h fun o _ hl hmem => by
    obtain ⟨o', ho', e⟩ := List.mem_map.1 hmem
    exact hl (Nat.add_left_cancel e ▸ ho')

theorem pageLike_setTq {f : Fld} (v : Nat) (hf : f.off ∈ l) : PageLike n l s (s.setTq n f v) := fun _ _ hl =>
  reg_setF_other s v fun e => hl (Nat.add_left_cancel e ▸ hf)

theorem tqB_add_lt (n : Port) {o : Nat} (ho : o < 0x1000) : tqB n + o < window 0x1C := by
  have hn := n.isLt
  unfold tqB window
  omega

theorem isClocked_of_lt {a : Nat} (h : a < window 0x1C) : isClocked a = false := by
  have hw : window 0x1C < kB 0 ∧ kB 0 < kB 1 ∧ kB 1 < pmcB := by decide
  have hne : a ≠ kB 0 + 0x44 ∧ a ≠ kB 1 + 0x44 := by omega
  have hlt : ¬ pmcB ≤ a := by omega
  simp [isClocked, hlt, hne]

/-- No register of a port's page counts clocks. -/
theorem Waited.page (h : Waited s t) (n : Port) : PageLike n [] s t := fun _ ho _ =>
  h.regs _ (isClocked_of_lt (tqB_add_lt n ho))

theorem PageLike.tqF (h : PageLike n l s t) {f : Fld} (hf : f.off < 0x1000) (hl : f.off ∉ l) : t.tqF n f = s.tqF n f :=
  fld_congr (h _ hf hl)

theorem PageLike.bit (h : PageLike n l s t) {f : Fld} (hf : f.off < 0x1000) (hl : f.off ∉ l) :
    t.bit (tqB n) f = s.bit (tqB n) f := congrArg (· != 0) (h.tqF hf hl)

/-! ### What is read of a page -/

theorem PageLike.laneMode (h : PageLike n l s t) (hl : 0x0 ∉ l) : t.laneMode n = s.laneMode n := by
  unfold State.laneMode
  rw [h.tqF (by decide) hl]

theorem PageLike.portState (h : PageLike n l s t) (hl : 0x24 ∉ l) : t.portState n = s.portState n := h.tqF (by decide) hl

theorem PageLike.linkUp (h : PageLike n l s t) (hl : 0x4 ∉ l) : t.linkUp n = s.linkUp n := h.bit (by decide) hl

theorem PageLike.portRate (h : PageLike n l s t) (hl : ∀ o ∈ [0x0, 0x4], o ∉ l) : t.portRate n = s.portRate n := by
  unfold State.portRate
  rw [h.laneMode (hl _ (by decide)), h.tqF (by decide) (hl _ (by decide))]

theorem PageLike.quantaTicks (h : PageLike n l s t) (hl : ∀ o ∈ [0x0, 0x4], o ∉ l) (q : Nat) :
    t.quantaTicks n q = s.quantaTicks n q := by
  unfold State.quantaTicks
  rw [h.portRate hl]

theorem PageLike.fcMode (h : PageLike n l s t) (hl : 0x10 ∉ l) : t.fcMode n = s.fcMode n := by
  unfold State.fcMode
  rw [h.tqF (by decide) hl]

theorem PageLike.txOn (h : PageLike n l s t) (hl : ∀ o ∈ [0x4, 0x24], o ∉ l) : t.txOn n = s.txOn n := by
  unfold State.txOn
  rw [h.portState (hl _ (by decide)), h.linkUp (hl _ (by decide))]

theorem PageLike.ctlFrame (h : PageLike n l s t) (hl : ∀ o ∈ [0x10, 0x18, 0x1c], o ∉ l) (mask q : Nat) :
    t.ctlFrame n mask q = s.ctlFrame n mask q := by
  have hsa : t.macSa n = s.macSa n := by
    unfold State.macSa
    rw [h.tqF (by decide) (hl _ (by decide)), h.tqF (by decide) (hl _ (by decide))]
  unfold State.ctlFrame
  rw [hsa, h.fcMode (hl _ (by decide))]

theorem PageLike.refreshTicks (h : PageLike n l s t) (hl : ∀ o ∈ [0x0, 0x4, 0x70], o ∉ l) :
    t.refreshTicks n = s.refreshTicks n := by
  unfold State.refreshTicks
  rw [h.tqF (by decide) (hl _ (by decide)), h.tqF (by decide) (hl _ (by decide)),
    h.quantaTicks fun o ho => hl o (List.mem_of_mem_take (i := 2) ho)]

theorem PageLike.xoffWant (h : PageLike n l s t) (hl : 0x10 ∉ l) (htmg : t.tmg = s.tmg) : t.xoffWant n = s.xoffWant n := by
  unfold State.xoffWant State.xoffOf
  rw [h.fcMode hl, htmg]

theorem port_of_tq (h : t.tq = s.tq) (n : Nat) : t.port n = s.port n := by
  unfold State.port
  rw [h]

theorem port_setPort_same (n : Nat) (p : TqPort) : (s.setPort n p).port n = p := smap_get_set_same ..

theorem tqCount_eq (n c k : Nat) : s.tqCount n c k = { s with ctrs := (s.tqCount n c k).ctrs } := count_eq ..

/-- What is received or sent at a port happens in its live quad. -/
theorem live_of_rxOn (h : s.rxOn n = true) : s.live (quadId n) = true := by
  simp only [State.rxOn, State.accepts, Bool.and_eq_true] at h
  obtain ⟨-, hlive, -⟩ := h
  exact hlive

end Sys2Proof.Machine
end

section
/-! Proof support: priorities are paused, released and broken (R187, R190). -/

namespace Sys2Proof.Machine

variable {s t u : State} {n p : Nat} {l : List Nat} {q : Nat → Nat}

/-! ### Sets of priorities -/

theorem b2n_testBit (m p : Nat) : b2n (m.testBit p) = m / 2 ^ p % 2 := by
  rw [Nat.testBit_eq_decide_div_mod_eq]
  have h : m / 2 ^ p % 2 = 0 ∨ m / 2 ^ p % 2 = 1 := by omega
  obtain h | h := h
  · rw [h]
    rfl
  · rw [h]
    rfl

/-- A set of priorities with one put in or taken out is a word with a one-bit field replaced. -/
theorem putPrio_eq_ins (m p : Nat) (v : Bool) : putPrio m p v = (⟨0, p, p⟩ : Fld).ins m (b2n v) := by
  have hw : p - p + 1 = 1 := by omega
  have hv : b2n v % 2 = b2n v := by
    cases v
    · rfl
    · rfl
  simp only [putPrio, Fld.ins, Fld.of, Fld.width, hw, pow_one, b2n_testBit, hv]

theorem testBit_putPrio (m p : Nat) (v : Bool) (i : Nat) :
    (putPrio m p v).testBit i = if i = p then v else m.testBit i := by
  have hw : p - p + 1 = 1 := by omega
  rw [putPrio_eq_ins, Fld.testBit_ins]
  simp only [Fld.width, hw]
  by_cases e : i = p
  · subst e
    rw [if_pos (by omega), if_pos rfl, Nat.sub_self]
    cases v
    · rfl
    · rfl
  · rw [if_neg (by omega), if_neg e]

/-- A number given by its bits. -/
def ofBits (P : Nat → Bool) (k : Nat) : Nat := ((List.range k).map fun i => b2n (P i) * 2 ^ i).sum

theorem ofBits_lt (P : Nat → Bool) (k : Nat) : ofBits P k < 2 ^ k := by
  induction k with
  | zero => exact Nat.zero_lt_one
  | succ k ih =>
    have hb : b2n (P k) * 2 ^ k ≤ 1 * 2 ^ k := Nat.mul_le_mul_right _ (by cases P k <;> decide)
    simp only [ofBits, List.range_succ, List.map_append, List.sum_append, List.map_cons, List.map_nil, List.sum_cons,
      List.sum_nil, Nat.pow_succ] at ih ⊢
    omega

theorem testBit_ofBits (P : Nat → Bool) (k i : Nat) : (ofBits P k).testBit i = (decide (i < k) && P i) := by
  induction k with
  | zero => simp [ofBits]
  | succ k ih =>
    have hsplit : ofBits P (k + 1) = 2 ^ k * b2n (P k) + ofBits P k := by
      simp [ofBits, List.range_succ, Nat.mul_comm, Nat.add_comm]
    rw [hsplit, Nat.testBit_two_pow_mul_add _ (ofBits_lt P k)]
    split
    · next h =>
      rw [ih]
      simp [h, Nat.lt_succ_of_lt h]
    · next h =>
      by_cases e : i = k
      · subst e
        cases P i
        · simp [b2n]
        · simp [b2n]
      · have hle : ¬ i < k + 1 := by omega
        have hone : (b2n (P k)).testBit (i - k) = false := by
          refine Nat.testBit_lt_two_pow (Nat.lt_of_lt_of_le (?_ : b2n (P k) < 2 ^ 1) (Nat.pow_le_pow_right (by decide) ?_))
          · cases P k <;> decide
          · omega
        simp [hle, hone]

theorem sum_filter_eq_ofBits (P : Nat → Bool) (k : Nat) : (((List.range k).filter P).map fun i => 2 ^ i).sum = ofBits P k := by
  unfold ofBits
  induction List.range k with
  | nil => rfl
  | cons i l ih =>
    rw [List.filter_cons, List.map_cons, List.sum_cons, ← ih]
    split
    · next h => simp [h, b2n]
    · next h => simp [h, b2n]

/-! ### PAUSED and BROKEN -/

theorem isPaused_setTq (v : Nat) {i : Nat} (hi : i < 8) :
    (s.setTq n F.TQ_WDOG_STAT.PAUSED v).isPaused n i = v.testBit i := by
  refine (congrArg (·.testBit i) (fld_setF_same s (tqB n) F.TQ_WDOG_STAT.PAUSED v (by decide))).trans ?_
  have hw : F.TQ_WDOG_STAT.PAUSED.width = 8 := rfl
  rw [hw, Nat.testBit_mod_two_pow, decide_eq_true hi, Bool.true_and]

theorem broken_setPaused (v : Nat) :
    (s.setTq n F.TQ_WDOG_STAT.PAUSED v).tqF n F.TQ_WDOG_STAT.BROKEN = s.tqF n F.TQ_WDOG_STAT.BROKEN :=
  fld_setF_other s v (by decide) (.inr (by decide))

theorem paused_setBroken (v : Nat) :
    (s.setTq n F.TQ_WDOG_STAT.BROKEN v).tqF n F.TQ_WDOG_STAT.PAUSED = s.tqF n F.TQ_WDOG_STAT.PAUSED :=
  fld_setF_other s v (by decide) (.inr (by decide))

theorem isBroken_setTq (v : Nat) {i : Nat} (hi : i < 8) :
    (s.setTq n F.TQ_WDOG_STAT.BROKEN v).isBroken n i = v.testBit i := by
  refine (congrArg (·.testBit i) (fld_setF_same s (tqB n) F.TQ_WDOG_STAT.BROKEN v (by decide))).trans ?_
  have hw : F.TQ_WDOG_STAT.BROKEN.width = 8 := rfl
  rw [hw, Nat.testBit_mod_two_pow, decide_eq_true hi, Bool.true_and]

/-- Another value of a field of eight bits, where a bit of it is cleared. -/
theorem putPrio_mod (m p : Nat) (hm : m < 2 ^ 8) : putPrio m p false % 2 ^ 8 = m - b2n (m.testBit p) * 2 ^ p := by
  have h : putPrio m p false = m - b2n (m.testBit p) * 2 ^ p := by simp [putPrio, b2n]
  rw [h]
  exact Nat.mod_eq_of_lt (by omega)

/-! ### One priority -/

/-- What pausing or releasing one priority changes: its timers and its bit of PAUSED. -/
structure PrioStep (n p : Nat) (v : Bool) (s t : State) : Prop where
  paused : ∀ i < 8, t.isPaused n i = if i = p then v else s.isPaused n i
  broken : t.tqF n F.TQ_WDOG_STAT.BROKEN = s.tqF n F.TQ_WDOG_STAT.BROKEN
  timers : TimersBut [Tm.pause n p, Tm.wdog n p] s t
  regs : RegsBut [tqB n + 0x78] s t
  frame : t = { s with timers := t.timers, regs := t.regs }

/-- The bit of PAUSED alone, with the two timers as they have been set. -/
theorem PrioStep.of_timers (v : Bool) (htimers : TimersBut [Tm.pause n p, Tm.wdog n p] s t)
    (hframe : t = { s with timers := t.timers }) :
    PrioStep n p v s (t.setTq n F.TQ_WDOG_STAT.PAUSED (putPrio (t.tqF n F.TQ_WDOG_STAT.PAUSED) p v)) := by
  obtain ⟨x, rfl⟩ : ∃ x, t = { s with timers := x } := ⟨_, hframe⟩
  refine ⟨fun i hi => ?_, ?_, htimers, fun a ha => ?_, rfl⟩
  · rw [isPaused_setTq _ hi, testBit_putPrio]
    rfl
  · exact broken_setPaused _
  · exact reg_setF_other _ _ fun e => ha (List.mem_singleton.2 e)

theorem prioStep_unpause : PrioStep n p false s (s.unpause n p) :=
  .of_timers false (timersBut_trans (timersBut_stopTimer (by simp)) (timersBut_stopTimer (by simp))) rfl

theorem pause_not_wdog (n p : Nat) : Tm.pause n p ∉ [Tm.wdog n p] := by
  simp [Tm.pause, Tm.wdog]

theorem pause_unpause : SMap.get (fun _ => 0) (s.unpause n p).timers (Tm.pause n p) = 0 :=
  (timersBut_stopTimer (s := s.stopTimer (Tm.pause n p)) (.head _) _ (pause_not_wdog n p)).trans (timer_stopTimer _)

theorem wdog_unpause : SMap.get (fun _ => 0) (s.unpause n p).timers (Tm.wdog n p) = 0 := timer_stopTimer _

/-- A priority whose pause has begun, before the watchdog. -/
def State.pauseBegun (s : State) (n p q : Nat) : State :=
  let s := s.startTimer (Tm.pause n p) (s.quantaTicks n q)
  s.setTq n F.TQ_WDOG_STAT.PAUSED (putPrio (s.tqF n F.TQ_WDOG_STAT.PAUSED) p true)

/-- Whether the watchdog starts with a pause. -/
def State.watches (s : State) (n p : Nat) : Bool := !s.isPaused n p && s.bit (tqB n) F.TQ_PORT_CFG.RADIO

/-- The ticks of the watchdog's LIMIT. -/
def State.limitTicks (s : State) (n : Nat) : Nat := max 1 (s.tqF n F.TQ_WDOG_CFG.LIMIT) * usTicks

theorem prioStep_pauseBegun (q : Nat) : PrioStep n p true s (s.pauseBegun n p q) :=
  .of_timers true (timersBut_startTimer _ (by simp)) rfl

theorem PrioStep.now {v : Bool} (h : PrioStep n p v s t) : t.now = s.now := by rw [h.frame]

theorem PrioStep.page {v : Bool} (h : PrioStep n p v s t) : PageLike n [0x78] s t := pageLike_of_offsets (l := [0x78]) h.regs

theorem pausePrio_eq (q : Nat) : s.pausePrio n p q = if s.watches n p then
    (s.pauseBegun n p q).startTimer (Tm.wdog n p) (s.limitTicks n) else s.pauseBegun n p q := by
  have hpage : PageLike n [0x78] s (s.pauseBegun n p q) := (prioStep_pauseBegun q).page
  have hradio : (s.pauseBegun n p q).bit (tqB n) F.TQ_PORT_CFG.RADIO = s.bit (tqB n) F.TQ_PORT_CFG.RADIO :=
    hpage.bit (by decide) (by decide)
  have hlimit : (s.pauseBegun n p q).tqF n F.TQ_WDOG_CFG.LIMIT = s.tqF n F.TQ_WDOG_CFG.LIMIT :=
    hpage.tqF (by decide) (by decide)
  rw [State.watches, State.limitTicks, ← hradio, ← hlimit, State.pausePrio, State.pauseBegun]

theorem PrioStep.startTimer {v : Bool} (h : PrioStep n p v s t) {i : Nat} (k : Nat) (hi : i ∈ [Tm.pause n p, Tm.wdog n p]) :
    PrioStep n p v s (t.startTimer i k) where
  paused := h.paused
  broken := h.broken
  timers := timersBut_trans h.timers (timersBut_startTimer k hi)
  regs := h.regs
  frame := by
    obtain ⟨x, r, rfl⟩ : ∃ x r, t = { s with timers := x, regs := r } := ⟨_, _, h.frame⟩
    rfl

theorem prioStep_pausePrio (q : Nat) : PrioStep n p true s (s.pausePrio n p q) := by
  rw [pausePrio_eq]
  split
  · exact (prioStep_pauseBegun q).startTimer _ (by simp)
  · exact prioStep_pauseBegun q

theorem pause_pausePrio (q : Nat) :
    SMap.get (fun _ => 0) (s.pausePrio n p q).timers (Tm.pause n p) = s.now + s.quantaTicks n q + 1 := by
  have hbegun : SMap.get (fun _ => 0) (s.pauseBegun n p q).timers (Tm.pause n p) = s.now + s.quantaTicks n q + 1 :=
    timer_startTimer ..
  rw [pausePrio_eq]
  split
  · exact (timersBut_startTimer _ (.head _) _ (pause_not_wdog n p)).trans hbegun
  · exact hbegun

theorem wdog_pausePrio (q : Nat) (h : s.watches n p = true) :
    SMap.get (fun _ => 0) (s.pausePrio n p q).timers (Tm.wdog n p) = s.now + s.limitTicks n + 1 := by
  rw [pausePrio_eq, if_pos h, timer_startTimer, (prioStep_pauseBegun q).now]

/-! ### The priorities a frame names -/

/-- The priority's quanta: above 0 it is paused, at 0 released. -/
def State.pauseFor (s : State) (n p q : Nat) : State := if q = 0 then s.unpause n p else s.pausePrio n p q

/-- The priorities of a list are paused or released in turn. -/
def State.pauseEach (s : State) (n : Nat) (q : Nat → Nat) (l : List Nat) : State :=
  l.foldl (fun s p => s.pauseFor n p (q p)) s

theorem prioStep_pauseFor (q : Nat) : PrioStep n p (decide (q ≠ 0)) s (s.pauseFor n p q) := by
  unfold State.pauseFor
  split
  · next h => simpa [h] using prioStep_unpause
  · next h => simpa [h] using prioStep_pausePrio q

/-- The clock at which a priority's pause of `q` quanta ends, 0 for none. -/
def State.pauseEnd (s : State) (n q : Nat) : Nat := if q = 0 then 0 else s.now + s.quantaTicks n q + 1

theorem pause_pauseFor (q : Nat) : SMap.get (fun _ => 0) (s.pauseFor n p q).timers (Tm.pause n p) = s.pauseEnd n q := by
  unfold State.pauseFor State.pauseEnd
  split
  · exact pause_unpause
  · exact pause_pausePrio q

theorem wdog_pauseFor {q : Nat} (hq : q ≠ 0) (h : s.watches n p = true) :
    SMap.get (fun _ => 0) (s.pauseFor n p q).timers (Tm.wdog n p) = s.now + s.limitTicks n + 1 := by
  unfold State.pauseFor
  rw [if_neg hq]
  exact wdog_pausePrio q h

/-- The timers of the priorities of a port. -/
def pauseTimers (n : Nat) : List Nat := (List.range 8).flatMap fun i => [Tm.pause n i, Tm.wdog n i]

theorem pauseTimers_subset (hp : p < 8) : [Tm.pause n p, Tm.wdog n p] ⊆ pauseTimers n := fun _ h =>
  List.mem_flatMap.2 ⟨p, List.mem_range.2 hp, h⟩

theorem pauseTimer_not_mem {i : Nat} (hi : i < 8) (hp : p < 8) (h : i ≠ p) :
    Tm.pause n i ∉ [Tm.pause n p, Tm.wdog n p] ∧ Tm.wdog n i ∉ [Tm.pause n p, Tm.wdog n p] := by
  simp only [List.mem_cons, List.not_mem_nil, or_false, Tm.pause, Tm.wdog]
  omega

/-- The priorities of a list have been paused for the quanta given, or released at quanta 0. -/
structure PausedEach (n : Nat) (q : Nat → Nat) (l : List Nat) (s t : State) : Prop where
  paused : ∀ i < 8, t.isPaused n i = if i ∈ l then decide (q i ≠ 0) else s.isPaused n i
  ends : ∀ i < 8, SMap.get (fun _ => 0) t.timers (Tm.pause n i) =
    if i ∈ l then s.pauseEnd n (q i) else SMap.get (fun _ => 0) s.timers (Tm.pause n i)
  watched : ∀ i < 8, i ∈ l → q i ≠ 0 → s.watches n i = true →
    SMap.get (fun _ => 0) t.timers (Tm.wdog n i) = s.now + s.limitTicks n + 1
  unnamed : ∀ i < 8, i ∉ l → SMap.get (fun _ => 0) t.timers (Tm.wdog n i) = SMap.get (fun _ => 0) s.timers (Tm.wdog n i)
  broken : t.tqF n F.TQ_WDOG_STAT.BROKEN = s.tqF n F.TQ_WDOG_STAT.BROKEN
  timers : TimersBut (pauseTimers n) s t
  regs : RegsBut [tqB n + 0x78] s t
  frame : t = { s with timers := t.timers, regs := t.regs }

theorem PausedEach.nil (n : Nat) (q : Nat → Nat) (s : State) : PausedEach n q [] s s :=
  ⟨fun _ _ => rfl, fun _ _ => rfl, fun _ _ h => absurd h List.not_mem_nil, fun _ _ _ => rfl, rfl, fun _ _ => rfl,
    fun _ _ => rfl, rfl⟩

theorem PrioStep.pauseEnd {v : Bool} (h : PrioStep n p v s t) (q : Nat) : t.pauseEnd n q = s.pauseEnd n q := by
  unfold State.pauseEnd
  rw [h.now, h.page.quantaTicks (by decide)]

theorem PrioStep.limitTicks {v : Bool} (h : PrioStep n p v s t) : t.limitTicks n = s.limitTicks n := by
  unfold State.limitTicks
  rw [h.page.tqF (by decide) (by decide)]

theorem PrioStep.watches {v : Bool} (h : PrioStep n p v s t) {i : Nat} (hi : i < 8) (hne : i ≠ p) :
    t.watches n i = s.watches n i := by
  unfold State.watches
  rw [h.paused i hi, if_neg hne, h.page.bit (by decide) (by decide)]

/-- One priority more, not named again behind. -/
theorem PausedEach.cons (hp : p < 8) (hnew : p ∉ l) (h : PausedEach n q l (s.pauseFor n p (q p)) t) :
    PausedEach n q (p :: l) s t := by
  have hstep : PrioStep n p (decide (q p ≠ 0)) s (s.pauseFor n p (q p)) := prioStep_pauseFor _
  have hother : ∀ i < 8, i ≠ p → (i ∈ p :: l ↔ i ∈ l) := fun i _ hne => by simp [hne]
  refine ⟨fun i hi => ?_, fun i hi => ?_, fun i hi hmem hq hwatch => ?_, fun i hi hmem => ?_, h.broken.trans hstep.broken,
    timersBut_trans (timersBut_mono hstep.timers (pauseTimers_subset hp)) h.timers,
    fun a ha => (h.regs a ha).trans (hstep.regs a ha), ?_⟩
  · rw [h.paused i hi, hstep.paused i hi]
    by_cases e : i = p
    · subst e
      simp [hnew]
    · simp [e]
  · rw [h.ends i hi, hstep.pauseEnd]
    by_cases e : i = p
    · subst e
      simp [hnew, pause_pauseFor]
    · simp only [hother i hi e]
      rw [hstep.timers _ (pauseTimer_not_mem hi hp e).1]
  · by_cases e : i = p
    · subst e
      rw [h.unnamed i hi hnew]
      exact wdog_pauseFor hq hwatch
    · rw [h.watched i hi ((hother i hi e).1 hmem) hq ((hstep.watches hi e).trans hwatch), hstep.now, hstep.limitTicks]
  · obtain ⟨hne, hl⟩ := not_or.1 (mt List.mem_cons.2 hmem)
    rw [h.unnamed i hi hl, hstep.timers _ (pauseTimer_not_mem hi hp hne).2]
  · exact h.frame.trans (congrArg (fun x : State => { x with timers := t.timers, regs := t.regs }) hstep.frame)

theorem pausedEach_pauseEach (hl : ∀ i ∈ l, i < 8) (hnodup : l.Nodup) : PausedEach n q l s (s.pauseEach n q l) := by
  induction l generalizing s with
  | nil => exact .nil n q s
  | cons p l ih =>
    obtain ⟨hp, hl⟩ := List.forall_mem_cons.1 hl
    obtain ⟨hnew, hnodup⟩ := List.nodup_cons.1 hnodup
    exact (ih hl hnodup).cons hp hnew

end Sys2Proof.Machine
end

section
/-! Proof support: what a pause frame, the watchdog and the control frames leave (R187, R188, R190). -/

namespace Sys2Proof.Machine

variable {s t u : State} {n p : Nat} {l : List Nat}

/-! ### A pause or PFC frame (R187) -/

/-- The quanta a frame carries for a priority. -/
def quantaFor (pfc : Bool) (quanta p : Nat) : Nat := if pfc then bits quanta (16 * p + 15) (16 * p) else quanta % 65536

/-- The priorities a frame names. -/
def namedBy (pfc : Bool) (mask : Nat) : List Nat := (List.range 8).filter fun p => !pfc || mask.testBit p

/-- The priorities a frame names that are not broken. -/
def State.pausable (s : State) (n : Nat) (pfc : Bool) (mask : Nat) : List Nat :=
  (namedBy pfc mask).filter fun p => !s.isBroken n p

theorem mem_pausable {pfc : Bool} {mask i : Nat} (hi : i < 8) :
    i ∈ s.pausable n pfc mask ↔ ((!pfc || mask.testBit i) && !s.isBroken n i) = true := by
  simp [State.pausable, namedBy, hi, and_comm]

theorem lt_of_mem_pausable {pfc : Bool} {mask i : Nat} (h : i ∈ s.pausable n pfc mask) : i < 8 :=
  List.mem_range.1 (List.mem_of_mem_filter (List.mem_of_mem_filter h))

theorem nodup_pausable (pfc : Bool) (mask : Nat) : (s.pausable n pfc mask).Nodup := (List.nodup_range.filter _).filter _

/-- The frame's counter. -/
def pauseCtr (pfc : Bool) : Nat := if pfc then Ctr.TQ.RX_PFC else Ctr.TQ.RX_PAUSE

/-- The frame counts, and one that names a broken priority counts as ignored. -/
def State.pauseCounted (s : State) (n : Nat) (pfc : Bool) (mask : Nat) : State :=
  if (namedBy pfc mask).any (s.isBroken n) then (s.tqCount n (pauseCtr pfc)).tqCount n Ctr.TQ.PAUSE_IGNORED
  else s.tqCount n (pauseCtr pfc)

theorem tqCount_regs (n c k : Nat) : (s.tqCount n c k).regs = s.regs := count_regs ..

theorem pauseCounted_frame (pfc : Bool) (mask : Nat) :
    s.pauseCounted n pfc mask = { s with ctrs := (s.pauseCounted n pfc mask).ctrs } := by
  unfold State.pauseCounted
  split
  · exact counts_eq ..
  · exact count_eq ..

theorem pauseCounted_regs (pfc : Bool) (mask : Nat) : (s.pauseCounted n pfc mask).regs = s.regs := by
  rw [pauseCounted_frame]

theorem pauseCounted_now (pfc : Bool) (mask : Nat) : (s.pauseCounted n pfc mask).now = s.now := by
  rw [pauseCounted_frame]

theorem pauseCounted_timers (pfc : Bool) (mask : Nat) : (s.pauseCounted n pfc mask).timers = s.timers := by
  rw [pauseCounted_frame]

theorem isBroken_of_regs (h : t.regs = s.regs) : t.isBroken n = s.isBroken n := by
  funext i
  exact congrArg (·.testBit i) (fld_of_regs _ _ h)

theorem isPaused_of_regs (h : t.regs = s.regs) (i : Nat) : t.isPaused n i = s.isPaused n i :=
  congrArg (·.testBit i) (fld_of_regs _ _ h)

theorem fcMode_tqCount (c : Nat) : (s.tqCount n c).fcMode n = s.fcMode n :=
  (pageLike_of_regs (l := []) (tqCount_regs n c 1)).fcMode (by decide)

theorem pauseRx_of_other {pfc : Bool} (mask quanta : Nat) (h : s.fcMode n ≠ if pfc then 2 else 1) :
    s.pauseRx n pfc mask quanta = s.tqCount n (pauseCtr pfc) := by
  unfold State.pauseRx
  exact if_pos ((fcMode_tqCount _).trans_ne h)

theorem pauseRx_of_mode {pfc : Bool} (mask quanta : Nat) (h : s.fcMode n = if pfc then 2 else 1) :
    s.pauseRx n pfc mask quanta =
      (s.pauseCounted n pfc mask).pauseEach n (quantaFor pfc quanta) (s.pausable n pfc mask) := by
  have hbroken : ∀ c, (s.tqCount n c).isBroken n = s.isBroken n := fun c => isBroken_of_regs (tqCount_regs ..)
  have hbroken' : (s.pauseCounted n pfc mask).isBroken n = s.isBroken n := isBroken_of_regs (pauseCounted_regs ..)
  have hpausable : s.pausable n pfc mask = (s.pauseCounted n pfc mask).pausable n pfc mask := by
    unfold State.pausable
    rw [hbroken']
  rw [hpausable, State.pauseRx]
  refine (if_neg (not_not.2 ((fcMode_tqCount _).trans h))).trans ?_
  dsimp only
  rw [hbroken]
  rfl

theorem exec_pauseFrameRx {n : Port} {pfc : Bool} {mask : BitVec 8} {quanta : BitVec 128} (h : s.rxOn n = true) :
    exec (.pauseFrameRx n pfc mask quanta) s = .next (s.pauseRx n pfc mask.toNat quanta.toNat) :=
  congrArg Host.Outcome.next ((if_pos (live_of_rxOn h)).trans (if_pos h))

/-- What a frame in the matching mode leaves. -/
theorem pausedEach_pauseRx {pfc : Bool} (mask quanta : Nat) (h : s.fcMode n = if pfc then 2 else 1) :
    PausedEach n (quantaFor pfc quanta) (s.pausable n pfc mask) (s.pauseCounted n pfc mask)
      (s.pauseRx n pfc mask quanta) := by
  rw [pauseRx_of_mode mask quanta h]
  exact pausedEach_pauseEach (fun _ => lt_of_mem_pausable) (nodup_pausable ..)

/-! ### A priority is broken (R190) -/

/-- The ticks of the watchdog's HOLDOFF. -/
def State.holdoffTicks (s : State) (n : Nat) : Nat := max 1 (s.tqF n F.TQ_WDOG_CFG.HOLDOFF) * usTicks

/-- A priority is released, and its HOLDOFF starts. -/
def State.breakPrio (s : State) (n p : Nat) : State := (s.unpause n p).startTimer (Tm.holdoff n p) (s.holdoffTicks n)

/-- The timers of a priority. -/
def prioTimers (n p : Nat) : List Nat := [Tm.pause n p, Tm.wdog n p, Tm.holdoff n p]

/-- What the release of one priority changes. -/
structure Released (n p : Nat) (s t : State) : Prop where
  paused : ∀ i < 8, t.isPaused n i = if i = p then false else s.isPaused n i
  held : SMap.get (fun _ => 0) t.timers (Tm.holdoff n p) = s.now + s.holdoffTicks n + 1
  broken : t.tqF n F.TQ_WDOG_STAT.BROKEN = s.tqF n F.TQ_WDOG_STAT.BROKEN
  timers : TimersBut (prioTimers n p) s t
  regs : RegsBut [tqB n + 0x78] s t
  frame : t = { s with timers := t.timers, regs := t.regs }

theorem released_breakPrio : Released n p s (s.breakPrio n p) := by
  have h : PrioStep n p false s (s.unpause n p) := prioStep_unpause
  refine ⟨h.paused, ?_, h.broken, timersBut_trans (timersBut_mono h.timers ?_) (timersBut_startTimer _ ?_), h.regs, ?_⟩
  · have hhold : SMap.get (fun _ => 0) (s.breakPrio n p).timers (Tm.holdoff n p) =
        (s.unpause n p).now + s.holdoffTicks n + 1 := timer_startTimer ..
    rw [hhold, h.now]
  · simp [prioTimers]
  · simp [prioTimers]
  · obtain ⟨x, r, hx⟩ : ∃ x r, s.unpause n p = { s with timers := x, regs := r } := ⟨_, _, h.frame⟩
    rw [State.breakPrio, hx]
    rfl

theorem Released.page (h : Released n p s t) : PageLike n [0x78] s t := pageLike_of_offsets (l := [0x78]) h.regs

/-- The priorities of a list are released in turn. -/
def State.breakEach (s : State) (n : Nat) (l : List Nat) : State := l.foldl (fun s p => s.breakPrio n p) s

/-- The priorities of a list have been released, each for HOLDOFF. -/
structure ReleasedEach (n : Nat) (l : List Nat) (s t : State) : Prop where
  paused : ∀ i < 8, t.isPaused n i = if i ∈ l then false else s.isPaused n i
  held : ∀ i < 8, SMap.get (fun _ => 0) t.timers (Tm.holdoff n i) =
    if i ∈ l then s.now + s.holdoffTicks n + 1 else SMap.get (fun _ => 0) s.timers (Tm.holdoff n i)
  broken : t.tqF n F.TQ_WDOG_STAT.BROKEN = s.tqF n F.TQ_WDOG_STAT.BROKEN
  timers : TimersBut ((List.range 8).flatMap (prioTimers n)) s t
  regs : RegsBut [tqB n + 0x78] s t
  frame : t = { s with timers := t.timers, regs := t.regs }

theorem holdoff_not_mem {i : Nat} (hi : i < 8) (hp : p < 8) (h : i ≠ p) : Tm.holdoff n i ∉ prioTimers n p := by
  simp only [prioTimers, List.mem_cons, List.not_mem_nil, or_false, Tm.pause, Tm.wdog, Tm.holdoff]
  omega

theorem ReleasedEach.cons (hp : p < 8) (h : ReleasedEach n l (s.breakPrio n p) t) : ReleasedEach n (p :: l) s t := by
  have hstep : Released n p s (s.breakPrio n p) := released_breakPrio
  have hnow : (s.breakPrio n p).now = s.now := by rw [hstep.frame]
  have hticks : (s.breakPrio n p).holdoffTicks n = s.holdoffTicks n := by
    unfold State.holdoffTicks
    rw [hstep.page.tqF (by decide) (by decide)]
  refine ⟨fun i hi => ?_, fun i hi => ?_, h.broken.trans hstep.broken, timersBut_trans (timersBut_mono hstep.timers ?_) h.timers,
    fun a ha => (h.regs a ha).trans (hstep.regs a ha), ?_⟩
  · rw [h.paused i hi, hstep.paused i hi]
    by_cases e : i = p
    · simp [e]
    · simp [e]
  · rw [h.held i hi, hnow, hticks]
    by_cases e : i = p
    · subst e
      simp [hstep.held]
    · simp [e, hstep.timers _ (holdoff_not_mem hi hp e)]
  · exact fun _ hmem => List.mem_flatMap.2 ⟨p, List.mem_range.2 hp, hmem⟩
  · exact h.frame.trans (congrArg (fun x : State => { x with timers := t.timers, regs := t.regs }) hstep.frame)

theorem releasedEach_breakEach (hl : ∀ i ∈ l, i < 8) : ReleasedEach n l s (s.breakEach n l) := by
  induction l generalizing s with
  | nil => exact ⟨fun _ _ => rfl, fun _ _ => rfl, rfl, fun _ _ => rfl, fun _ _ => rfl, rfl⟩
  | cons p l ih =>
    obtain ⟨hp, hl⟩ := List.forall_mem_cons.1 hl
    exact (ih hl).cons hp

/-- Whether LIMIT of a priority breaks a priority: a paused one, in pause mode every one that is paused. -/
def State.breaks (s : State) (n p i : Nat) : Bool := s.isPaused n i && (decide (s.fcMode n = 1) || decide (i = p))

/-- The priorities that LIMIT breaks are released, and BROKEN shows them. -/
def State.broken (s : State) (n p : Nat) : State :=
  let t := s.breakEach n ((List.range 8).filter (s.breaks n p))
  t.setTq n F.TQ_WDOG_STAT.BROKEN (Nat.lor (t.tqF n F.TQ_WDOG_STAT.BROKEN) (ofBits (s.breaks n p) 8))

/-- LIMIT has run out (R190). -/
def State.limitReached (s : State) (n p : Nat) : State :=
  ((s.broken n p).tqCount n Ctr.TQ.WDOG_BREAK).tqRaiseMs n Ev.TP_WDOG_BREAK [(1, n), (1, ofBits (s.breaks n p) 8)]

theorem exec_wdogLimitExpiry {n : Port} {p : Fin 8} (hlive : s.live (quadId n) = true)
    (hon : s.timerOn (Tm.wdog n p) = true) :
    exec (.wdogLimitExpiry n p) s = .next ((s.atEnd (Tm.wdog n p)).limitReached n p) := by
  refine congrArg Host.Outcome.next ((if_pos hlive).trans ((expire_of_on _ hon).trans ?_))
  dsimp only
  rw [sum_filter_eq_ofBits]
  rfl

/-- What LIMIT changes of the registers and the timers. -/
structure Broken (n p : Nat) (s t : State) : Prop where
  broken : ∀ i < 8, t.isBroken n i = (s.isBroken n i || s.breaks n p i)
  paused : ∀ i < 8, t.isPaused n i = (s.isPaused n i && !s.breaks n p i)
  held : ∀ i < 8, s.breaks n p i = true →
    SMap.get (fun _ => 0) t.timers (Tm.holdoff n i) = s.now + s.holdoffTicks n + 1
  timers : TimersBut ((List.range 8).flatMap (prioTimers n)) s t
  regs : RegsBut [tqB n + 0x78] s t
  frame : t = { s with timers := t.timers, regs := t.regs }

theorem broken_holds : Broken n p s (s.broken n p) := by
  have hmem : ∀ i < 8, (i ∈ (List.range 8).filter (s.breaks n p) ↔ s.breaks n p i = true) := fun i hi => by simp [hi]
  obtain ⟨y, hy⟩ : ∃ y, y = s.breakEach n ((List.range 8).filter (s.breaks n p)) := ⟨_, rfl⟩
  have h : ReleasedEach n ((List.range 8).filter (s.breaks n p)) s y := hy ▸
    releasedEach_breakEach fun i hi => List.mem_range.1 (List.mem_of_mem_filter hi)
  have ht : s.broken n p = y.setTq n F.TQ_WDOG_STAT.BROKEN
      (Nat.lor (y.tqF n F.TQ_WDOG_STAT.BROKEN) (ofBits (s.breaks n p) 8)) := by rw [hy, State.broken]
  rw [ht]
  refine ⟨fun i hi => ?_, fun i hi => ?_, fun i hi hbreak => ?_, h.timers, fun a ha => ?_, ?_⟩
  · rw [isBroken_setTq _ hi, h.broken]
    exact (Nat.testBit_or ..).trans (by rw [testBit_ofBits, decide_eq_true hi, Bool.true_and]; rfl)
  · refine (congrArg (·.testBit i) (paused_setBroken _)).trans ((h.paused i hi).trans ?_)
    simp only [hmem i hi]
    cases s.breaks n p i
    · simp
    · simp
  · exact (h.held i hi).trans (if_pos ((hmem i hi).2 hbreak))
  · exact (reg_setF_other _ _ fun e => ha (List.mem_singleton.2 e)).trans (h.regs a ha)
  · exact (setF_frame ..).trans (congrArg (fun x : State => { x with
      regs := (y.setTq n F.TQ_WDOG_STAT.BROKEN
        (Nat.lor (y.tqF n F.TQ_WDOG_STAT.BROKEN) (ofBits (s.breaks n p) 8))).regs }) h.frame)

/-! ### Control frames (R188) -/

/-- The counter of the control frames a port sends. -/
def State.ctlCtr (s : State) (n : Nat) : Nat := if s.fcMode n = 1 then Ctr.TQ.TX_PAUSE else Ctr.TQ.TX_PFC

/-- A control frame has been sent; one with quanta has started the refresh interval. -/
structure CtlSent (n mask q : Nat) (s t : State) : Prop where
  out : t.out = s.out ++ [.frame n (s.ctlFrame n mask q)]
  ctrs : t.ctrs = (s.tqCount n (s.ctlCtr n)).ctrs
  refresh : q ≠ 0 → SMap.get (fun _ => 0) t.timers (Tm.refresh n) = s.now + s.refreshTicks n + 1
  timers : TimersBut [Tm.refresh n] s t
  frame : t = { s with out := t.out, ctrs := t.ctrs, timers := t.timers }

theorem ctlSent_sendCtl (mask q : Nat) : CtlSent n mask q s (s.sendCtl n mask q) := by
  obtain ⟨y, hy⟩ : ∃ y, y = (s.emit (.frame n (s.ctlFrame n mask q))).tqCount n (s.ctlCtr n) := ⟨_, rfl⟩
  have hframe : y = { s with out := y.out, ctrs := y.ctrs } := by
    obtain ⟨c, hc⟩ : ∃ c, y = { s.emit (.frame n (s.ctlFrame n mask q)) with ctrs := c } := ⟨_, hy.trans (count_eq ..)⟩
    rw [hc]
    rfl
  have hnow : y.now = s.now := by rw [hframe]
  have hout : y.out = s.out ++ [.frame n (s.ctlFrame n mask q)] := by
    rw [hy, State.tqCount, count_out]
    rfl
  have hctrs : y.ctrs = (s.tqCount n (s.ctlCtr n)).ctrs := by
    rw [hy]
    exact count_ctrs_congr rfl rfl rfl
  have hticks : y.refreshTicks n = s.refreshTicks n :=
    (pageLike_of_regs (l := []) (by rw [hframe])).refreshTicks (by decide)
  have hmode : (s.emit (.frame n (s.ctlFrame n mask q))).fcMode n = s.fcMode n :=
    (pageLike_of_regs (l := []) (emit_regs ..)).fcMode (by decide)
  have hsend : s.sendCtl n mask q = if q = 0 then y else y.startTimer (Tm.refresh n) (y.refreshTicks n) := by
    rw [hy, State.sendCtl, State.ctlCtr, ← hmode]
  rw [hsend]
  split
  · next h0 => exact ⟨hout, hctrs, fun h => absurd h0 h, timersBut_of_eq _ (by rw [hframe]), by rw [hframe]⟩
  · refine ⟨(startTimer_out ..).trans hout, (startTimer_ctrs ..).trans hctrs, fun _ => ?_,
      timersBut_trans (timersBut_of_eq _ (by rw [hframe])) (timersBut_startTimer _ (by simp)), ?_⟩
    · rw [timer_startTimer, hticks, hnow]
    · rw [hframe]
      rfl

/-- Priorities come into XOFF where none was: one frame with QUANTA for them. -/
theorem signalXoff_of_rise (hsent : (s.port n).sent = 0) (hwant : s.xoffWant n ≠ 0) (hon : s.txOn n = true) :
    s.signalXoff n = (s.setPort n { s.port n with sent := s.xoffWant n }).sendCtl n (s.xoffWant n)
      (s.tqF n F.TQ_PFC_CFG.QUANTA) := by
  have hor : Nat.lor 0 (s.xoffWant n) = s.xoffWant n := Nat.zero_or _
  have hxor : Nat.xor (s.xoffWant n) (s.xoffWant n) = 0 := Nat.xor_self _
  unfold State.signalXoff
  dsimp only
  rw [hsent, if_neg hwant, if_neg (by rw [hon]; decide), hor, hxor, if_pos rfl, if_neg hwant, if_neg hwant]
  rfl

/-- No priority is in XOFF any longer: one frame with quanta 0 for those that were, and no refresh. -/
theorem signalXoff_of_fall (hsent : (s.port n).sent ≠ 0) (hwant : s.xoffWant n = 0) (hon : s.txOn n = true) :
    s.signalXoff n = ((s.setPort n { s.port n with sent := 0 }).sendCtl n (s.port n).sent 0).stopTimer (Tm.refresh n) := by
  have hoff : Nat.xor (Nat.lor (s.port n).sent 0) 0 = (s.port n).sent :=
    (Nat.xor_zero _).trans (Nat.or_zero _)
  unfold State.signalXoff
  dsimp only
  rw [hwant, if_neg (Ne.symm hsent), if_neg (by rw [hon]; decide), hoff, if_neg hsent, if_pos rfl]

theorem signalXoff_of_same (h : s.xoffWant n = (s.port n).sent) : s.signalXoff n = s := if_pos h

theorem exec_pfcXoffChange {n : Port} (hlive : s.live (quadId n) = true) (hlaunch : (s.port n).launch = none) :
    exec (.pfcXoffChange n) s = .next (s.signalXoff n) :=
  congrArg Host.Outcome.next ((if_pos hlive).trans (if_neg (by rw [hlaunch]; decide)))

/-- At the end of the refresh interval, with nothing to signal anew. -/
theorem exec_pfcRefreshExpiry {n : Port} (hlive : s.live (quadId n) = true) (hon : s.timerOn (Tm.refresh n) = true)
    (hlaunch : (s.port n).launch = none) (hwant : s.xoffWant n = (s.port n).sent) :
    exec (.pfcRefreshExpiry n) s = .next (if (s.port n).sent = 0 then s.atEnd (Tm.refresh n)
      else if (s.atEnd (Tm.refresh n)).txOn n = false then
        (s.atEnd (Tm.refresh n)).startTimer (Tm.refresh n) ((s.atEnd (Tm.refresh n)).refreshTicks n)
      else (s.atEnd (Tm.refresh n)).sendCtl n (s.port n).sent ((s.atEnd (Tm.refresh n)).tqF n F.TQ_PFC_CFG.QUANTA)) := by
  have hwaited : Waited s (s.atEnd (Tm.refresh n)) := waited_atEnd _
  have hport : (s.atEnd (Tm.refresh n)).port n = s.port n := port_of_tq (by rw [hwaited.frame]) n
  have hsame : (s.atEnd (Tm.refresh n)).xoffWant n = (s.port n).sent :=
    ((hwaited.page n).xoffWant (by decide) (by rw [hwaited.frame])).trans hwant
  refine congrArg Host.Outcome.next ((if_pos hlive).trans ((expire_of_on _ hon).trans ?_))
  rw [hport, hsame, if_neg (by rw [hlaunch]; decide), if_neg (not_not.2 rfl)]

end Sys2Proof.Machine
end

section
/-! Proof that pause frames, the watchdog and XOFF act as stated (O35). -/

namespace Sys2Proof.Machine

variable {s t : State} {n : Port} {p : Fin 8}

/-- What holds of each of the eight priorities. -/
theorem all_eight {f : Nat → Bool} (h : ∀ i < 8, f i = true) : (List.range 8).all f = true :=
  List.all_eq_true.2 fun i hi => h i (List.mem_range.1 hi)

theorem timerOn_of_get {i : Nat} (h : SMap.get (fun _ => 0) t.timers i = 0) : t.timerOn i = false := congrArg (· != 0) h

theorem not_or_of_imp {a b : Bool} (h : a = true → b = true) : (!a || b) = true := by
  cases a
  · rfl
  · exact h rfl

/-! ### Frames -/

/-- The counts of a frame, as one condition on the priorities it names. -/
theorem ctrs_pauseRx {q : Nat → Nat} {l : List Nat} {pfc : Bool} {mask : Nat}
    (h : PausedEach n q l (s.pauseCounted n pfc mask) t) :
    t.ctrs = (if ((List.range 8).any fun i => (!pfc || mask.testBit i) && s.isBroken n i) then
      (s.tqCount n (pauseCtr pfc)).tqCount n Ctr.TQ.PAUSE_IGNORED else s.tqCount n (pauseCtr pfc)).ctrs := by
  have hctrs : t.ctrs = (s.pauseCounted n pfc mask).ctrs := by rw [h.frame]
  rw [hctrs, State.pauseCounted, namedBy, List.any_filter]

/-- Besides its counts, a frame changes timers and WDOG_STAT. -/
theorem frame_pauseRx {q : Nat → Nat} {l : List Nat} {pfc : Bool} {mask : Nat}
    (h : PausedEach n q l (s.pauseCounted n pfc mask) t) :
    t = { s with ctrs := t.ctrs, timers := t.timers, regs := t.regs } := by
  obtain ⟨c, hc⟩ : ∃ c, s.pauseCounted n pfc mask = { s with ctrs := c } := ⟨_, pauseCounted_frame ..⟩
  obtain ⟨x, r, rfl⟩ : ∃ x r, t = { s.pauseCounted n pfc mask with timers := x, regs := r } := ⟨_, _, h.frame⟩
  rw [hc]

/-! ### Expiries -/

theorem exec_pauseTimerExpiry (hlive : s.live (quadId n) = true) (hon : s.timerOn (Tm.pause n p) = true) :
    exec (.pauseTimerExpiry n p) s = .next ((s.atEnd (Tm.pause n p)).unpause n p) :=
  congrArg Host.Outcome.next ((if_pos hlive).trans (expire_of_on _ hon))

theorem exec_wdogHoldoffExpiry (hlive : s.live (quadId n) = true) (hon : s.timerOn (Tm.holdoff n p) = true) :
    exec (.wdogHoldoffExpiry n p) s = .next ((s.atEnd (Tm.holdoff n p)).setTq n F.TQ_WDOG_STAT.BROKEN
      (putPrio ((s.atEnd (Tm.holdoff n p)).tqF n F.TQ_WDOG_STAT.BROKEN) p false)) :=
  congrArg Host.Outcome.next ((if_pos hlive).trans (expire_of_on _ hon))

/-- A port's page reads the same at a timer's end. -/
theorem page_atEnd (n : Port) (id : Nat) : PageLike n [] s (s.atEnd id) := (waited_atEnd id).page n

theorem paused_unpause {i : Nat} :
    (s.unpause n i).tqF n F.TQ_WDOG_STAT.PAUSED = s.tqF n F.TQ_WDOG_STAT.PAUSED - b2n (s.isPaused n i) * 2 ^ i :=
  (fld_setF_same _ _ _ _ (by decide)).trans (putPrio_mod _ _ (Fld.of_lt ..))

/-! ### LIMIT -/

theorem regs_broken_limit (n p : Nat) : (s.limitReached n p).regs = (s.broken n p).regs := by
  rw [State.limitReached, State.tqRaiseMs, raiseMs_regs, tqCount_regs]

theorem timers_limitReached (n p : Nat) : (s.limitReached n p).timers = (s.broken n p).timers := by
  rw [State.limitReached, State.tqRaiseMs, raiseMs_timers, State.tqCount, count_timers]

theorem limitReached_ctrs (n p : Nat) : (s.limitReached n p).ctrs = (s.tqCount n Ctr.TQ.WDOG_BREAK).ctrs := by
  obtain ⟨x, r, hx⟩ : ∃ x r, s.broken n p = { s with timers := x, regs := r } := ⟨_, _, broken_holds.frame⟩
  rw [State.limitReached, State.tqRaiseMs, raiseMs_ctrs, hx]
  exact count_ctrs_congr rfl rfl rfl

theorem limitReached_evt (n : Port) (p : Nat) : (s.limitReached n p).evt =
    (s.tqRaiseMs n Ev.TP_WDOG_BREAK [(1, n.val), (1, ofBits (s.breaks n p) 8)]).evt := by
  have h : Broken n p s (s.broken n p) := broken_holds
  have hlive : (s.broken n p).live 0x3C = s.live 0x3C := by
    refine live_evt_congr (h.regs _ fun hmem => ?_)
    have hlt : tqB n + 0x78 ≠ aonB + 0x14 := by
      unfold tqB aonB window
      omega
    exact hlt (List.mem_singleton.1 hmem).symm
  have hcount : ∀ {x : State}, (x.tqCount n Ctr.TQ.WDOG_BREAK).evt = x.evt := count_evt ..
  refine raiseMs_evt_congr (hcount.trans (by rw [h.frame])) ((live_count ..).trans hlive)
    ((count_now ..).trans (by rw [h.frame])) ..

theorem limitReached_frame (n p : Nat) : s.limitReached n p = { s with
    ctrs := (s.limitReached n p).ctrs, evt := (s.limitReached n p).evt, timers := (s.limitReached n p).timers,
    regs := (s.limitReached n p).regs } := by
  obtain ⟨x, r, hx⟩ : ∃ x r, s.broken n p = { s with timers := x, regs := r } := ⟨_, _, broken_holds.frame⟩
  obtain ⟨v, hv⟩ : ∃ v, s.limitReached n p = { (s.broken n p).tqCount n Ctr.TQ.WDOG_BREAK with evt := v } :=
    ⟨_, raiseMs_eq ..⟩
  obtain ⟨c, hc⟩ : ∃ c, (s.broken n p).tqCount n Ctr.TQ.WDOG_BREAK = { s.broken n p with ctrs := c } := ⟨_, count_eq ..⟩
  rw [hv, hc, hx]

/-- Which priorities LIMIT breaks is the same at its end as before. -/
theorem breaks_atEnd (n : Port) (id p : Nat) : (s.atEnd id).breaks n p = s.breaks n p := by
  have hpage : PageLike n [] s (s.atEnd id) := page_atEnd n id
  funext i
  unfold State.breaks State.isPaused
  rw [hpage.tqF (by decide) (by decide), hpage.fcMode (by decide)]

/-! ### XOFF -/

theorem txOn_of (hin : s.portState n = 0) (hlink : s.linkUp n = true) : s.txOn n = true := by
  rw [State.txOn, hin, hlink]
  rfl

/-- A control frame has been sent, and the port keeps what it has signalled. -/
structure XoffSent (n : Nat) (x : TqPort) (mask q : Nat) (s t : State) : Prop where
  tq : t.tq = SMap.set (fun _ => TqPort.empty) s.tq n x
  out : t.out = s.out ++ [.frame n (s.ctlFrame n mask q)]
  ctrs : t.ctrs = (s.tqCount n (s.ctlCtr n)).ctrs
  refresh : q ≠ 0 → SMap.get (fun _ => 0) t.timers (Tm.refresh n) = s.now + s.refreshTicks n + 1
  timers : TimersBut [Tm.refresh n] s t
  frame : t = { s with tq := t.tq, out := t.out, ctrs := t.ctrs, timers := t.timers }

theorem CtlSent.fromPort {x : TqPort} {mask q : Nat} (h : CtlSent n mask q (s.setPort n x) t) : XoffSent n x mask q s t := by
  have hpage : PageLike n [] s (s.setPort n x) := pageLike_of_regs rfl
  refine ⟨?_, ?_, ?_, fun hq => ?_, fun i hi => h.timers i hi, ?_⟩
  · rw [h.frame]
    rfl
  · rw [h.out, hpage.ctlFrame (by decide)]
    rfl
  · rw [h.ctrs, State.ctlCtr, State.ctlCtr, hpage.fcMode (by decide)]
    exact count_ctrs_congr rfl rfl rfl
  · rw [h.refresh hq, hpage.refreshTicks (by decide)]
    rfl
  · obtain ⟨o, c, x, rfl⟩ : ∃ o c y, t = { s.setPort n x with out := o, ctrs := c, timers := y } := ⟨_, _, _, h.frame⟩
    rfl

/-- The refresh interval's stop leaves what a frame without quanta has changed. -/
theorem XoffSent.stopRefresh {x : TqPort} {mask : Nat} (h : XoffSent n x mask 0 s t) :
    XoffSent n x mask 0 s (t.stopTimer (Tm.refresh n)) := by
  refine ⟨(stopTimer_tq ..).trans h.tq, (stopTimer_out ..).trans h.out, (stopTimer_ctrs ..).trans h.ctrs,
    fun hq => absurd rfl hq, timersBut_trans h.timers (timersBut_stopTimer (by simp)), ?_⟩
  obtain ⟨q, o, c, y, rfl⟩ : ∃ q o c y, t = { s with tq := q, out := o, ctrs := c, timers := y } := ⟨_, _, _, _, h.frame⟩
  rfl

/-! ### The statement -/

/-- Settles O35, clause by clause along the seven commands: a pause frame by induction on the priorities it names, LIMIT on those it
breaks, XOFF by what is newly held or released. -/
theorem pauseAndTheWatchdog : Obligations.PauseAndTheWatchdog := by
  unfold Obligations.PauseAndTheWatchdog
  refine ⟨?frame, ?other, ?pauseEnd, ?limit, ?holdoff, ?rise, ?fall, ?refresh, ?idle⟩
  case frame =>
    intro n pfc mask quanta s hon hmode
    have h := pausedEach_pauseRx mask.toNat quanta.toNat hmode
    have hregs : (s.pauseCounted n pfc mask.toNat).regs = s.regs := pauseCounted_regs ..
    have hpage : PageLike n [] s (s.pauseCounted n pfc mask.toNat) := pageLike_of_regs hregs
    refine ⟨_, exec_pauseFrameRx hon, all_eight fun i hi => ?_, all_eight fun i hi => ?_, all_eight fun i hi => ?_,
      h.broken.trans (fld_of_regs _ _ hregs), ctrs_pauseRx h, frame_pauseRx h,
      timersBut_trans (timersBut_of_eq _ (pauseCounted_timers ..)) h.timers,
      fun a ha => (h.regs a ha).trans (reg_of_regs hregs a)⟩
    · simp only [h.paused i hi, mem_pausable hi, isPaused_of_regs hregs, beq_iff_eq]
      rfl
    · simp only [h.ends i hi, mem_pausable hi, pauseCounted_timers, State.pauseEnd, pauseCounted_now,
        hpage.quantaTicks (by decide), beq_iff_eq]
      rfl
    · refine not_or_of_imp fun hnew => ?_
      obtain ⟨hnew, hradio⟩ := Bool.and_eq_true_iff.1 hnew
      obtain ⟨hnew, hfresh⟩ := Bool.and_eq_true_iff.1 hnew
      obtain ⟨hmem, hq⟩ := Bool.and_eq_true_iff.1 hnew
      have hwatch : (s.pauseCounted n pfc mask.toNat).watches n i = true := by
        rw [State.watches, isPaused_of_regs hregs, hpage.bit (by decide) (by decide), hfresh, hradio, Bool.and_self]
      rw [beq_iff_eq, h.watched i hi ((mem_pausable hi).2 hmem) (of_decide_eq_true hq) hwatch, pauseCounted_now, State.limitTicks,
        hpage.tqF (by decide) (by decide)]
  case other =>
    intro n pfc mask quanta s hon hmode
    refine ⟨_, exec_pauseFrameRx hon, ?_, ?_⟩
    · rw [pauseRx_of_other _ _ hmode]
      rfl
    · rw [pauseRx_of_other _ _ hmode]
      exact tqCount_eq ..
  case pauseEnd =>
    intro n i s hlive hon
    have h : PrioStep n i false (s.atEnd (Tm.pause n i)) ((s.atEnd (Tm.pause n i)).unpause n i) := prioStep_unpause
    have hpaused : (s.atEnd (Tm.pause n i)).tqF n F.TQ_WDOG_STAT.PAUSED = s.tqF n F.TQ_WDOG_STAT.PAUSED :=
      (page_atEnd n _).tqF (by decide) (by decide)
    refine ⟨_, exec_pauseTimerExpiry hlive hon, ?_, timerOn_of_get pause_unpause, timerOn_of_get wdog_unpause, h.frame,
      h.timers, h.regs⟩
    rw [paused_unpause, State.isPaused, hpaused]
    rfl
  case limit =>
    intro n i s hlive hon
    have hpage : PageLike n [] s (s.atEnd (Tm.wdog n i)) := page_atEnd n _
    have h : Broken n i (s.atEnd (Tm.wdog n i)) ((s.atEnd (Tm.wdog n i)).broken n i) := broken_holds
    have hregs := regs_broken_limit (s := s.atEnd (Tm.wdog n i)) n i
    have hbreaks : (s.atEnd (Tm.wdog n i)).breaks n i = s.breaks n i := breaks_atEnd n _ i
    have hbroken : ∀ k, (s.atEnd (Tm.wdog n i)).isBroken n k = s.isBroken n k := fun k =>
      congrArg (·.testBit k) (hpage.tqF (by decide) (by decide))
    have hpaused : ∀ k, (s.atEnd (Tm.wdog n i)).isPaused n k = s.isPaused n k := fun k =>
      congrArg (·.testBit k) (hpage.tqF (by decide) (by decide))
    refine ⟨_, exec_wdogLimitExpiry hlive hon, all_eight fun k hk => ?_, all_eight fun k hk => ?_, limitReached_ctrs ..,
      ?_, limitReached_frame .., fun a ha => ?_, fun a ha => ?_⟩
    · rw [isBroken_of_regs hregs, isPaused_of_regs hregs, h.broken k hk, h.paused k hk, hbroken, hpaused, hbreaks]
      simp only [Bool.and_eq_true, beq_iff_eq]
      exact ⟨rfl, rfl⟩
    · refine not_or_of_imp fun hbreak => ?_
      rw [beq_iff_eq, timers_limitReached, h.held k hk (hbreaks ▸ hbreak), State.holdoffTicks,
        hpage.tqF (by decide) (by decide)]
    · rw [limitReached_evt, hbreaks]
      rfl
    · rw [timers_limitReached]
      exact h.timers a ha
    · rw [reg_of_regs hregs]
      exact h.regs a ha
  case holdoff =>
    intro n i s hlive hon
    have hpage : PageLike n [] s (s.atEnd (Tm.holdoff n i)) := page_atEnd n _
    have hbroken : (s.atEnd (Tm.holdoff n i)).tqF n F.TQ_WDOG_STAT.BROKEN = s.tqF n F.TQ_WDOG_STAT.BROKEN :=
      hpage.tqF (by decide) (by decide)
    refine ⟨_, exec_wdogHoldoffExpiry hlive hon, ?_, ?_, setF_frame .., fun _ _ => rfl,
      regsBut_setF (tqB n) F.TQ_WDOG_STAT.BROKEN _⟩
    · refine (fld_setF_same _ _ _ _ (by decide)).trans ((putPrio_mod _ _ (Fld.of_lt ..)).trans ?_)
      rw [hbroken]
      rfl
    · exact (paused_setBroken _).trans (hpage.tqF (by decide) (by decide))
  case rise =>
    intro n s hlive hlaunch hin hlink hsent hwant hquanta
    have h : XoffSent n { s.port n with sent := s.xoffWant n } (s.xoffWant n) (s.tqF n F.TQ_PFC_CFG.QUANTA) s _ :=
      (ctlSent_sendCtl _ _).fromPort
    refine ⟨_, (exec_pfcXoffChange hlive hlaunch).trans (congrArg _ (signalXoff_of_rise hsent hwant (txOn_of hin hlink))),
      h.tq, h.out, h.ctrs, h.refresh (Nat.ne_of_gt hquanta), h.frame, h.timers⟩
  case fall =>
    intro n s hlive hlaunch hin hlink hsent hxoff
    have hwant : s.xoffWant n = 0 := by simp [State.xoffWant, hxoff]
    have h : XoffSent n { s.port n with sent := 0 } (s.port n).sent 0 s _ := (ctlSent_sendCtl _ _).fromPort
    have hfall := h.stopRefresh
    exact ⟨_, (exec_pfcXoffChange hlive hlaunch).trans (congrArg _ (signalXoff_of_fall hsent hwant (txOn_of hin hlink))),
      hfall.tq, hfall.out, hfall.ctrs, timerOn_stopTimer_same .., hfall.frame, hfall.timers⟩
  case refresh =>
    intro n s hlive hon hin hlink hsent hquanta hlaunch hwant
    have hpage : PageLike n [] s (s.atEnd (Tm.refresh n)) := page_atEnd n _
    have hsends : (s.atEnd (Tm.refresh n)).txOn n = true := (hpage.txOn (by decide)).trans (txOn_of hin hlink)
    have hq : (s.atEnd (Tm.refresh n)).tqF n F.TQ_PFC_CFG.QUANTA = s.tqF n F.TQ_PFC_CFG.QUANTA :=
      hpage.tqF (by decide) (by decide)
    have hexec := exec_pfcRefreshExpiry hlive hon hlaunch hwant
    rw [if_neg hsent, if_neg (by rw [hsends]; decide), hq] at hexec
    have h := ctlSent_sendCtl (s := s.atEnd (Tm.refresh n)) (n := n) (s.port n).sent (s.tqF n F.TQ_PFC_CFG.QUANTA)
    have hout : (s.atEnd (Tm.refresh n)).out = s.out := by rw [(waited_atEnd _).frame]
    refine ⟨_, hexec, ?_, ?_, ?_, h.frame, h.timers⟩
    · rw [h.out, hout, hpage.ctlFrame (by decide)]
    · rw [h.ctrs, State.ctlCtr, hpage.fcMode (by decide)]
    · rw [h.refresh (Nat.ne_of_gt hquanta), hpage.refreshTicks (by decide)]
      rfl
  case idle =>
    intro n s hlive hon hsent hlaunch hwant
    refine ⟨_, (exec_pfcRefreshExpiry hlive hon hlaunch (hwant.trans hsent.symm)).trans (by rw [if_pos hsent]), ?_, ?_, ?_⟩
    · exact timerOn_stopTimer_same ..
    · rfl
    · exact fun _ _ => rfl

end Sys2Proof.Machine
end

section
/-! Proof support: power saving follows the conditions of R135 when a link changes. -/

namespace Sys2Proof.Machine

variable {s t u : State} {c : Nat} {l m : List Nat}

/-! ### Steps of the power-saving machines -/

/-- What a link's change may leave behind: BEN at its disabled level, counters, events, the power-saving timers, a queued
message, and the listed registers. -/
structure LinkStep (l : List Nat) (s t : State) : Prop where
  frame : t = { s with out := t.out, pon := t.pon, ctrs := t.ctrs, evt := t.evt, timers := t.timers, regs := t.regs }
  bens : OnlyBens s t
  timers : TimersBut [Tm.ps 0, Tm.ps 1] s t
  regs : RegsBut l s t

theorem LinkStep.refl (l : List Nat) (s : State) : LinkStep l s s :=
  ⟨rfl, onlyBens_of_eq rfl, fun _ _ => rfl, fun _ _ => rfl⟩

theorem LinkStep.trans (h : LinkStep l s t) (k : LinkStep l t u) : LinkStep l s u where
  frame := k.frame.trans (congrArg (fun x : State => { x with
    out := u.out, pon := u.pon, ctrs := u.ctrs, evt := u.evt, timers := u.timers, regs := u.regs }) h.frame)
  bens := onlyBens_trans h.bens k.bens
  timers := timersBut_trans h.timers k.timers
  regs a ha := (k.regs a ha).trans (h.regs a ha)

theorem LinkStep.mono (h : LinkStep l s t) (hlm : l ⊆ m) : LinkStep m s t := { h with regs := regsBut_mono h.regs hlm }

theorem LinkStep.ite {p : Prop} [Decidable p] (h : LinkStep l s t) (k : LinkStep l s u) :
    LinkStep l s (if p then t else u) := by
  split
  · exact h
  · exact k

theorem linkStep_setF {b : Nat} {f : Fld} (v : Nat) (hl : b + f.off ∈ l) : LinkStep l s (s.setF b f v) :=
  ⟨rfl, onlyBens_of_eq rfl, fun _ _ => rfl, fun _ ha => reg_setF_other s v fun e => ha (e ▸ hl)⟩

theorem linkStep_count (a k : Nat) : LinkStep l s (s.count a k) := by
  rw [count_eq]
  exact ⟨rfl, onlyBens_of_eq rfl, fun _ _ => rfl, fun _ _ => rfl⟩

theorem linkStep_raise (src isl inst : Nat) (fs : List (Nat × Nat)) : LinkStep l s (s.raise src isl inst fs) := by
  rw [raise_eq]
  exact ⟨rfl, onlyBens_of_eq rfl, fun _ _ => rfl, fun _ _ => rfl⟩

theorem linkStep_raiseMs (sub src isl inst : Nat) (fs : List (Nat × Nat)) :
    LinkStep l s (s.raiseMs sub src isl inst fs) := by
  rw [raiseMs_eq]
  exact ⟨rfl, onlyBens_of_eq rfl, fun _ _ => rfl, fun _ _ => rfl⟩

theorem linkStep_setPn (x : PonState) : LinkStep l s (s.setPn c x) :=
  ⟨rfl, onlyBens_of_eq rfl, fun _ _ => rfl, fun _ _ => rfl⟩

theorem psTimer_mem (hc : c < 2) : Tm.ps c ∈ [Tm.ps 0, Tm.ps 1] := by
  obtain rfl | rfl : c = 0 ∨ c = 1 := by omega
  · exact .head _
  · exact .tail _ (.head _)

theorem linkStep_stopTimer (hc : c < 2) : LinkStep l s (s.stopTimer (Tm.ps c)) :=
  ⟨stopTimer_frame .., onlyBens_of_eq rfl, timersBut_stopTimer (psTimer_mem hc), fun _ _ => rfl⟩

theorem linkStep_startTimer (hc : c < 2) (k : Nat) : LinkStep l s (s.startTimer (Tm.ps c) k) :=
  ⟨rfl, onlyBens_of_eq rfl, timersBut_startTimer k (psTimer_mem hc), fun _ _ => rfl⟩

theorem BenStep.linkStep (h : BenStep c s t) (hl : pnB c + 0x104 ∈ l) : LinkStep l s t where
  frame := by
    obtain ⟨r, p, o, rfl⟩ : ∃ r p o, t = { s with regs := r, pon := p, out := o } := ⟨_, _, _, h.frame⟩
    rfl
  bens := h.bens
  timers := timersBut_of_eq _ (by rw [h.frame])
  regs := regsBut_mono h.regs (List.cons_subset.2 ⟨hl, List.nil_subset l⟩)

theorem linkStep_hwPloam (x : PloamUp) : LinkStep l s (s.hwPloam c x) := by
  have hcount : LinkStep l s (s.pCount c Ctr.PN.PLOAM_Q_FULL) := linkStep_count ..
  unfold State.hwPloam State.queuePloam
  dsimp only
  refine .ite (linkStep_setPn _) ?_
  split
  · exact hcount
  · exact .ite (hcount.trans (linkStep_setPn _)) hcount

theorem linkStep_psGo (hc : c < 2) (hl : pnB c + 0x104 ∈ l) (new : Nat) : LinkStep l s (s.psGo c new) := by
  unfold State.psGo
  dsimp only
  have hset : LinkStep l s ((s.stopTimer (Tm.ps c)).setPf c F.PN_US_STAT.PS new) :=
    (linkStep_stopTimer hc).trans (linkStep_setF (f := F.PN_US_STAT.PS) new hl)
  refine LinkStep.trans (hset.trans ?_) (benStep_showTx.linkStep hl)
  refine LinkStep.trans (LinkStep.ite (.refl l _) (linkStep_startTimer hc _)) (.ite (.refl l _) (linkStep_raise ..))

theorem linkStep_psRow (hc : c < 2) (hl : pnB c + 0x104 ∈ l) : LinkStep l s (s.psRow c) := by
  unfold State.psRow State.psWake
  dsimp only
  refine .ite (.refl l s) (.ite (.ite (linkStep_psGo hc hl _) (.refl l s)) (.ite (.ite ?_ (.refl l s)) (.ite ?_ (.refl l s))))
  · exact (linkStep_hwPloam _).trans (linkStep_psGo hc hl _)
  · exact (linkStep_hwPloam _).trans (linkStep_psGo hc hl _)

theorem linkStep_psCheck (hc : c < 2) (hl : pnB c + 0x104 ∈ l) : LinkStep l s (s.psCheck c) :=
  (linkStep_psRow hc hl).trans (linkStep_psRow hc hl)

/-- Power saving is at work in O5 only. -/
theorem psCheck_of_not_o5 (h : s.act c ≠ 5) : s.psCheck c = s := by
  have hrow : s.psRow c = s := if_pos h
  rw [State.psCheck, hrow, hrow]

end Sys2Proof.Machine
end

section
/-! Proof support: LINK follows its conditions (R165, R167, R169). -/

namespace Sys2Proof.Machine

variable {s t x : State} {n : Port} {cause : Nat} {v : Bool}

/-! ### The fields of LANE_STAT -/

theorem tqF_setTq_other {f g : Fld} (k : Nat) (hf : f.lo + f.width ≤ 32)
    (h : f.lo + f.width ≤ g.lo ∨ g.lo + g.width ≤ f.lo) : (s.setTq n f k).tqF n g = s.tqF n g :=
  fld_setF_other s k hf (.inr h)

theorem bit_setTq_other {f g : Fld} (k : Nat) (hf : f.lo + f.width ≤ 32)
    (h : f.lo + f.width ≤ g.lo ∨ g.lo + g.width ≤ f.lo) : (s.setTq n f k).bit (tqB n) g = s.bit (tqB n) g :=
  congrArg (· != 0) (tqF_setTq_other k hf h)

theorem bit_setTq_same {f : Fld} (hf : f.lo + f.width ≤ 32) (hw : f.width = 1) :
    (s.setTq n f (b2n v)).bit (tqB n) f = v := by
  have hv : (s.setTq n f (b2n v)).fld (tqB n) f = b2n v % 2 ^ f.width := fld_setF_same s (tqB n) f (b2n v) hf
  unfold State.bit
  rw [hv, hw]
  cases v
  · rfl
  · rfl

/-! ### What LINK reads -/

/-- The conditions of LINK that are none of the lane's findings. -/
def State.laneReady (s : State) (n : Nat) : Bool :=
  decide (s.portState n = 0) && decide (s.laneMode n ≠ 0) && !s.bit (tqB n) F.TQ_LANE_STAT.CFG_ERR && s.lanePll n

/-- LINK as a lane's findings give it. -/
def State.linkFound (s : State) (n : Nat) (sync hiBer fec an : Bool) : Bool :=
  s.laneReady n && sync && !hiBer && (decide (s.laneFec n = 0) || fec) && (!s.anRuns n || an)

/-- The registers a change of one lane's findings may touch. -/
def laneRegs (n : Nat) : List Nat := [tqB n + 0x4, pnB 0 + 0x104, pnB 1 + 0x104]

theorem aon_not_lane (n : Port) : aonB + 0x14 ∉ [tqB n + 0x4] := by
  have hlt : aonB + 0x14 < window 0x10 := by decide
  have hle : window 0x10 ≤ tqB n := by
    unfold tqB window
    omega
  rw [List.mem_singleton]
  omega

theorem quad_not_lane (n : Port) (k : Fin 12) : quadB k + 0x8000 ≠ tqB n + 0x4 := by
  unfold quadB tqB window
  omega

/-- LINK's conditions after a change of one lane's findings. -/
theorem linkOk_of_found (hregs : RegsBut [tqB n + 0x4] s x)
    (hcfg : x.bit (tqB n) F.TQ_LANE_STAT.CFG_ERR = s.bit (tqB n) F.TQ_LANE_STAT.CFG_ERR) :
    x.linkOk n = s.linkFound n (x.bit (tqB n) F.TQ_LANE_STAT.SYNC) (x.bit (tqB n) F.TQ_LANE_STAT.HI_BER)
      (x.bit (tqB n) F.TQ_LANE_STAT.FEC_LOCK) (x.bit (tqB n) F.TQ_LANE_STAT.AN_DONE) := by
  have hpage : PageLike n [0x4] s x := pageLike_of_offsets (l := [0x4]) hregs
  have hquad : ∀ f : Fld, f.off = 0x8000 → x.bit (quadB (n / 4)) f = s.bit (quadB (n / 4)) f := fun f hf =>
    bit_congr (hregs _ fun hmem => quad_not_lane n ⟨n / 4, by omega⟩ (hf ▸ List.mem_singleton.1 hmem))
  have hpll : x.lanePll n = s.lanePll n := by
    unfold State.lanePll
    dsimp only
    rw [hpage.bit (by decide) (by decide), hquad _ rfl, hquad _ rfl]
  have hmode : x.laneMode n = s.laneMode n := hpage.laneMode (by decide)
  have hfec : x.laneFec n = s.laneFec n := by
    unfold State.laneFec
    rw [hmode, hpage.tqF (by decide) (by decide)]
  have han : x.anRuns n = s.anRuns n := by
    unfold State.anRuns
    rw [hmode, hpage.bit (by decide) (by decide)]
  unfold State.linkOk State.linkFound State.laneReady
  dsimp only
  rw [hcfg, hpll, hfec, han, hmode, hpage.portState (by decide)]

/-! ### LINK is shown -/

theorem showLink_of_same (h : s.linkUp n = s.linkOk n) : s.showLink n cause = s := if_pos h

/-- LINK takes a value; a loss counts. -/
def State.linkSet (s : State) (n : Nat) (v : Bool) : State :=
  if v then s.setTq n F.TQ_LANE_STAT.LINK (b2n v) else (s.setTq n F.TQ_LANE_STAT.LINK (b2n v)).tqCount n Ctr.TQ.LINK_LOSS

/-- The event of a change of LINK. -/
def State.linkRaise (s : State) (n : Nat) (v : Bool) (cause : Nat) : State :=
  s.raiseMs (b2n v) (Ev.TP_LINK + n) (quadId n) (n % 4)
    [(1, b2n v), (1, s.tqF n F.TQ_LANE_STAT.SPEED), (1, s.tqF n F.TQ_LANE_STAT.HALF), (1, cause)]

theorem showLink_of_change (h : s.linkUp n ≠ s.linkOk n) : s.showLink n cause =
    (((s.linkSet n (s.linkOk n)).linkRaise n (s.linkOk n) cause).psCheck 0).psCheck 1 := if_neg h

theorem regs_linkSet : (s.linkSet n v).regs = (s.setTq n F.TQ_LANE_STAT.LINK (b2n v)).regs := by
  unfold State.linkSet
  split
  · rfl
  · exact tqCount_regs ..

theorem linkRaise_regs : (s.linkRaise n v cause).regs = s.regs := raiseMs_regs ..

theorem linkStep_linkSet : LinkStep (laneRegs n) s (s.linkSet n v) := by
  have hset : LinkStep (laneRegs n) s (s.setTq n F.TQ_LANE_STAT.LINK (b2n v)) := linkStep_setF _ (.head _)
  exact .ite hset (hset.trans (linkStep_count ..))

theorem linkStep_showLink : LinkStep (laneRegs n) s (s.showLink n cause) := by
  by_cases h : s.linkUp n = s.linkOk n
  · rw [showLink_of_same h]
    exact .refl _ s
  · rw [showLink_of_change h]
    exact ((linkStep_linkSet.trans (linkStep_raiseMs ..)).trans (linkStep_psCheck (by decide) (.tail _ (.head _)))).trans
      (linkStep_psCheck (by decide) (.tail _ (.tail _ (.head _))))

end Sys2Proof.Machine
end

section
/-! Proof that LINK follows its conditions (O33). -/

namespace Sys2Proof.Machine

variable {s t x y : State} {n : Port} {cause : Nat} {v : Bool}

/-! ### What a change of LINK leaves of the lane -/

/-- The power-saving machines leave every lane's page alone. -/
theorem page_psChecks : PageLike n [] s ((s.psCheck 0).psCheck 1) := by
  have hlow : pnB 0 + 0x104 < window 0x10 ∧ pnB 1 + 0x104 < window 0x10 := by decide
  have hle : window 0x10 ≤ tqB n := by
    unfold tqB window
    omega
  have h : LinkStep [pnB 0 + 0x104, pnB 1 + 0x104] s ((s.psCheck 0).psCheck 1) :=
    (linkStep_psCheck (by decide) (.head _)).trans (linkStep_psCheck (by decide) (.tail _ (.head _)))
  refine pageLike_of_regsBut h.regs fun o _ _ hmem => ?_
  simp only [List.mem_cons, List.not_mem_nil, or_false] at hmem
  omega

theorem linkUp_showLink : (s.showLink n cause).linkUp n = s.linkOk n := by
  by_cases h : s.linkUp n = s.linkOk n
  · rw [showLink_of_same h, h]
  · rw [showLink_of_change h, page_psChecks.linkUp (by decide)]
    have hregs := (linkRaise_regs (s := s.linkSet n (s.linkOk n)) (n := n) (v := s.linkOk n) (cause := cause)).trans regs_linkSet
    exact (bit_congr (reg_of_regs hregs _)).trans (bit_setTq_same (by decide) (by decide))

/-- Every other field of the lane's status stays. -/
theorem tqF_showLink {f : Fld} (hoff : f.off < 0x1000) (hf : f.lo + f.width ≤ 26 ∨ 27 ≤ f.lo) :
    (s.showLink n cause).tqF n f = s.tqF n f := by
  by_cases h : s.linkUp n = s.linkOk n
  · rw [showLink_of_same h]
  · rw [showLink_of_change h, page_psChecks.tqF hoff (List.not_mem_nil)]
    have hregs := (linkRaise_regs (s := s.linkSet n (s.linkOk n)) (n := n) (v := s.linkOk n) (cause := cause)).trans regs_linkSet
    have hlink : F.TQ_LANE_STAT.LINK.lo = 26 ∧ F.TQ_LANE_STAT.LINK.width = 1 := by decide
    exact (fld_of_regs _ _ hregs).trans (tqF_setTq_other _ (by decide) (by omega))

theorem bit_showLink {f : Fld} (hoff : f.off < 0x1000) (hf : f.lo + f.width ≤ 26 ∨ 27 ≤ f.lo) :
    (s.showLink n cause).bit (tqB n) f = s.bit (tqB n) f := congrArg (· != 0) (tqF_showLink hoff hf)

/-! ### What a change of LINK counts and reports -/

/-- A lane's findings have changed, and no more that LINK, its event and its count see. -/
structure LaneSet (n : Port) (s x : State) : Prop where
  evt : x.evt = s.evt
  ctrs : x.ctrs = s.ctrs
  counting : x.counting = s.counting
  mcCounting : x.mcCounting = s.mcCounting
  now : x.now = s.now
  regs : RegsBut [tqB n + 0x4] s x
  link : x.linkUp n = s.linkUp n
  cfg : x.bit (tqB n) F.TQ_LANE_STAT.CFG_ERR = s.bit (tqB n) F.TQ_LANE_STAT.CFG_ERR
  speed : x.tqF n F.TQ_LANE_STAT.SPEED = s.tqF n F.TQ_LANE_STAT.SPEED
  half : x.tqF n F.TQ_LANE_STAT.HALF = s.tqF n F.TQ_LANE_STAT.HALF

theorem LaneSet.trans (h : LaneSet n s x) (k : LaneSet n x y) : LaneSet n s y where
  evt := k.evt.trans h.evt
  ctrs := k.ctrs.trans h.ctrs
  counting := k.counting.trans h.counting
  mcCounting := k.mcCounting.trans h.mcCounting
  now := k.now.trans h.now
  regs a ha := (k.regs a ha).trans (h.regs a ha)
  link := k.link.trans h.link
  cfg := k.cfg.trans h.cfg
  speed := k.speed.trans h.speed
  half := k.half.trans h.half

/-- Writing one of the findings above LINK. -/
theorem laneSet_setTq {f : Fld} (k : Nat) (hoff : f.off = 0x4) (hf : f.lo + f.width ≤ 32) (hlo : 27 ≤ f.lo) :
    LaneSet n s (s.setTq n f k) where
  evt := rfl
  ctrs := rfl
  counting := rfl
  mcCounting := rfl
  now := rfl
  regs := hoff ▸ regsBut_setF (tqB n) f k
  link := bit_setTq_other k hf (.inr (Nat.le_trans (by decide) hlo))
  cfg := bit_setTq_other k hf (.inr (Nat.le_trans (by decide) hlo))
  speed := tqF_setTq_other k hf (.inr (Nat.le_trans (by decide) hlo))
  half := tqF_setTq_other k hf (.inr (Nat.le_trans (by decide) hlo))

theorem act_of_lane (h : RegsBut [tqB n + 0x4] s t) {c : Nat} (_hc : c < 2) : t.act c = s.act c := by
  refine fld_congr (h _ fun hmem => ?_)
  rw [List.mem_singleton] at hmem
  have hoff : F.PN_US_STAT.ACT.off = 0x104 := rfl
  rw [hoff] at hmem
  unfold tqB pnB window at hmem
  omega

theorem tqCount_ctrs_congr (hctrs : t.ctrs = s.ctrs) (hcounting : t.counting = s.counting)
    (hmc : t.mcCounting = s.mcCounting) (c : Nat) : (t.tqCount n c).ctrs = (s.tqCount n c).ctrs :=
  count_ctrs_congr hctrs hcounting hmc

theorem linkSet_true : s.linkSet n true = s.setTq n F.TQ_LANE_STAT.LINK 1 := if_pos rfl

theorem linkSet_false : s.linkSet n false = (s.setTq n F.TQ_LANE_STAT.LINK 0).tqCount n Ctr.TQ.LINK_LOSS :=
  if_neg Bool.false_ne_true

theorem ctrs_linkSet : (s.linkSet n v).ctrs = (if v then s else s.tqCount n Ctr.TQ.LINK_LOSS).ctrs := by
  cases v
  · rw [linkSet_false, if_neg Bool.false_ne_true]
    exact tqCount_ctrs_congr (setF_ctrs ..) (setF_counting ..) (setF_mcCounting ..) _
  · rw [linkSet_true, if_pos rfl]
    exact setF_ctrs ..

theorem tqCount_evt (c k : Nat) : (s.tqCount n c k).evt = s.evt := count_evt ..

theorem tqCount_now (c k : Nat) : (s.tqCount n c k).now = s.now := count_now ..

theorem linkSet_kept : (s.linkSet n v).evt = s.evt ∧ (s.linkSet n v).now = s.now := by
  cases v
  · rw [linkSet_false, tqCount_evt, tqCount_now]
    exact ⟨setF_evt .., setF_now ..⟩
  · rw [linkSet_true]
    exact ⟨setF_evt .., setF_now ..⟩

/-- Out of O5, LINK's change is reported at its cause and a loss counts; power saving does nothing. -/
theorem quiet_showLink (h : LaneSet n s x) (hv : x.linkOk n = v) (hact : s.act 0 ≠ 5 ∧ s.act 1 ≠ 5) :
    (x.showLink n cause).evt = (if s.linkUp n = v then s else s.linkRaise n v cause).evt ∧
    (x.showLink n cause).ctrs = (if s.linkUp n && !v then s.tqCount n Ctr.TQ.LINK_LOSS else s).ctrs := by
  subst hv
  by_cases hsame : x.linkUp n = x.linkOk n
  · rw [showLink_of_same hsame, if_pos (h.link.symm.trans hsame), ← h.link, hsame, Bool.and_not_self]
    exact ⟨h.evt, h.ctrs⟩
  · obtain ⟨z, hz⟩ : ∃ z, z = x.linkSet n (x.linkOk n) := ⟨_, rfl⟩
    obtain ⟨hevt, hnow⟩ : z.evt = s.evt ∧ z.now = s.now :=
      hz ▸ ⟨linkSet_kept.1.trans h.evt, linkSet_kept.2.trans h.now⟩
    have hzregs : z.regs = (x.setTq n F.TQ_LANE_STAT.LINK (b2n (x.linkOk n))).regs := hz ▸ regs_linkSet
    have hregs : RegsBut [tqB n + 0x4] s z := fun a ha =>
      (reg_of_regs hzregs a).trans ((regsBut_setF (tqB n) F.TQ_LANE_STAT.LINK _ a ha).trans (h.regs a ha))
    have hspeed : z.tqF n F.TQ_LANE_STAT.SPEED = s.tqF n F.TQ_LANE_STAT.SPEED :=
      (fld_of_regs _ _ hzregs).trans ((tqF_setTq_other _ (by decide) (by decide)).trans h.speed)
    have hhalf : z.tqF n F.TQ_LANE_STAT.HALF = s.tqF n F.TQ_LANE_STAT.HALF :=
      (fld_of_regs _ _ hzregs).trans ((tqF_setTq_other _ (by decide) (by decide)).trans h.half)
    have hquiet : ∀ c < 2, s.act c ≠ 5 → (z.linkRaise n (x.linkOk n) cause).psCheck c = z.linkRaise n (x.linkOk n) cause :=
      fun c hc ha => psCheck_of_not_o5 (by
        rw [act_of_lane (fun a ha => (reg_of_regs linkRaise_regs a).trans (hregs a ha)) hc]
        exact ha)
    rw [showLink_of_change hsame, ← hz, hquiet 0 (by decide) hact.1, hquiet 1 (by decide) hact.2,
      if_neg (h.link ▸ hsame)]
    refine ⟨?_, ?_⟩
    · unfold State.linkRaise
      rw [hspeed, hhalf]
      exact raiseMs_evt_congr hevt (live_evt_congr (hregs _ (aon_not_lane n))) hnow ..
    · have hz' : (z.linkRaise n (x.linkOk n) cause).ctrs = z.ctrs := raiseMs_ctrs ..
      have hcount : (x.tqCount n Ctr.TQ.LINK_LOSS).ctrs = (s.tqCount n Ctr.TQ.LINK_LOSS).ctrs :=
        count_ctrs_congr h.ctrs h.counting h.mcCounting
      have hlink : s.linkUp n = !x.linkOk n := Bool.eq_not.2 (h.link ▸ hsame)
      rw [hz', hz, ctrs_linkSet, hlink, Bool.and_self]
      cases x.linkOk n
      · rw [if_neg Bool.false_ne_true, if_pos Bool.not_false]
        exact hcount
      · rw [if_pos rfl, if_neg (by decide)]
        exact h.ctrs

/-! ### The PCS loses sync (R167) -/

/-- A lane with nothing found, and no LINK. -/
def State.laneVoid (s : State) (n : Nat) : Prop :=
  s.bit (tqB n) F.TQ_LANE_STAT.SYNC = false ∧ s.bit (tqB n) F.TQ_LANE_STAT.HI_BER = false ∧
    s.bit (tqB n) F.TQ_LANE_STAT.FEC_LOCK = false ∧ s.bit (tqB n) F.TQ_LANE_STAT.AN_DONE = false ∧ s.linkUp n = false

/-- The lane's findings void. -/
def State.laneCleared (s : State) (n : Nat) : State :=
  (((s.setTq n F.TQ_LANE_STAT.SYNC 0).setTq n F.TQ_LANE_STAT.HI_BER 0).setTq n F.TQ_LANE_STAT.FEC_LOCK 0).setTq n
    F.TQ_LANE_STAT.AN_DONE 0

theorem laneSet_laneCleared : LaneSet n s (s.laneCleared n) :=
  (((laneSet_setTq 0 rfl (by decide) (by decide)).trans (laneSet_setTq 0 rfl (by decide) (by decide))).trans
    (laneSet_setTq 0 rfl (by decide) (by decide))).trans (laneSet_setTq 0 rfl (by decide) (by decide))

theorem laneCleared_bits : (s.laneCleared n).bit (tqB n) F.TQ_LANE_STAT.SYNC = false ∧
    (s.laneCleared n).bit (tqB n) F.TQ_LANE_STAT.HI_BER = false ∧
    (s.laneCleared n).bit (tqB n) F.TQ_LANE_STAT.FEC_LOCK = false ∧
    (s.laneCleared n).bit (tqB n) F.TQ_LANE_STAT.AN_DONE = false := by
  have hclear : ∀ (z : State) (f : Fld), f.lo + f.width ≤ 32 → (z.setTq n f 0).bit (tqB n) f = false := fun z f hf => by
    have h0 : (z.setTq n f 0).fld (tqB n) f = 0 % 2 ^ f.width := fld_setF_same z (tqB n) f 0 hf
    unfold State.bit
    rw [h0, Nat.zero_mod]
    rfl
  unfold State.laneCleared
  refine ⟨?_, ?_, ?_, hclear _ _ (by decide)⟩
  · rw [bit_setTq_other _ (by decide) (by decide), bit_setTq_other _ (by decide) (by decide),
      bit_setTq_other _ (by decide) (by decide), hclear _ _ (by decide)]
  · rw [bit_setTq_other _ (by decide) (by decide), bit_setTq_other _ (by decide) (by decide), hclear _ _ (by decide)]
  · rw [bit_setTq_other _ (by decide) (by decide), hclear _ _ (by decide)]

theorem linkStep_laneCleared : LinkStep (laneRegs n) s (s.laneCleared n) :=
  (((linkStep_setF (f := F.TQ_LANE_STAT.SYNC) 0 (.head _)).trans (linkStep_setF (f := F.TQ_LANE_STAT.HI_BER) 0 (.head _))).trans
    (linkStep_setF (f := F.TQ_LANE_STAT.FEC_LOCK) 0 (.head _))).trans (linkStep_setF (f := F.TQ_LANE_STAT.AN_DONE) 0 (.head _))

theorem linkOk_laneCleared : (s.laneCleared n).linkOk n = false := by
  rw [linkOk_of_found laneSet_laneCleared.regs laneSet_laneCleared.cfg, laneCleared_bits.1, State.linkFound]
  simp

theorem linkStep_syncLost : LinkStep (laneRegs n) s (s.syncLost n) := linkStep_laneCleared.trans linkStep_showLink

theorem laneVoid_syncLost : (s.syncLost n).laneVoid n := by
  obtain ⟨hsync, hber, hfec, han⟩ := laneCleared_bits (s := s) (n := n)
  exact ⟨(bit_showLink (by decide) (by decide)).trans hsync, (bit_showLink (by decide) (by decide)).trans hber,
    (bit_showLink (by decide) (by decide)).trans hfec, (bit_showLink (by decide) (by decide)).trans han,
    linkUp_showLink.trans linkOk_laneCleared⟩

/-- Out of O5, the loss of sync reports and counts LINK's loss. -/
theorem quiet_syncLost (h : LaneSet n s x) (hact : s.act 0 ≠ 5 ∧ s.act 1 ≠ 5) :
    (x.syncLost n).evt = (if s.linkUp n then s.linkRaise n false 0 else s).evt ∧
    (x.syncLost n).ctrs = (if s.linkUp n then s.tqCount n Ctr.TQ.LINK_LOSS else s).ctrs := by
  obtain ⟨hevt, hctrs⟩ := quiet_showLink (cause := 0) (h.trans laneSet_laneCleared) linkOk_laneCleared hact
  refine ⟨hevt.trans ?_, hctrs.trans ?_⟩
  · cases s.linkUp n
    · rfl
    · rfl
  · rw [Bool.not_false, Bool.and_true]

end Sys2Proof.Machine
end

section
/-! Proof that LINK follows its conditions (O33): a PLL's lock, and the statement. -/

namespace Sys2Proof.Machine

variable {s t x y : State} {n : Port} {v : Bool}

/-! ### Several lanes of a quad lose sync -/

/-- The registers of power saving, and the lane status of the listed lanes. -/
def lanesRegs (L : List Nat) : List Nat := [pnB 0 + 0x104, pnB 1 + 0x104] ++ L.map fun n => tqB n + 0x4

theorem page_of_lanes {L : List Nat} (h : RegsBut (lanesRegs L) s t) (hn : n.val ∉ L) : PageLike n [] s t :=
  pageLike_of_regsBut h fun o ho _ hmem => by
    have hlow : pnB 0 + 0x104 < window 0x10 ∧ pnB 1 + 0x104 < window 0x10 := by decide
    have hle : window 0x10 ≤ tqB n := by
      unfold tqB window
      omega
    obtain hmem | hmem := List.mem_append.1 hmem
    · simp only [List.mem_cons, List.not_mem_nil, or_false] at hmem
      omega
    · obtain ⟨m, hm, e⟩ := List.mem_map.1 hmem
      have hmn : m = n := by
        unfold tqB window at e
        omega
      exact hn (hmn ▸ hm)

theorem laneRegs_subset {L : List Nat} (h : n.val ∈ L) : laneRegs n ⊆ lanesRegs L := by
  intro a ha
  simp only [laneRegs, List.mem_cons, List.not_mem_nil, or_false] at ha
  obtain rfl | rfl | rfl := ha
  · exact List.mem_append_right _ (List.mem_map.2 ⟨n, h, rfl⟩)
  · exact .head _
  · exact .tail _ (.head _)

theorem lanesRegs_mono {L M : List Nat} (h : L ⊆ M) : lanesRegs L ⊆ lanesRegs M := by
  intro a ha
  obtain ha | ha := List.mem_append.1 ha
  · exact List.mem_append_left _ ha
  · obtain ⟨m, hm, rfl⟩ := List.mem_map.1 ha
    exact List.mem_append_right _ (List.mem_map.2 ⟨m, h hm, rfl⟩)

theorem laneVoid_of_page (h : PageLike n [] s t) (hs : s.laneVoid n) : t.laneVoid n := by
  obtain ⟨hsync, hber, hfec, han, hlink⟩ := hs
  have hbit : ∀ f : Fld, f.off < 0x1000 → t.bit (tqB n) f = s.bit (tqB n) f := fun f hf => h.bit hf List.not_mem_nil
  exact ⟨(hbit _ (by decide)).trans hsync, (hbit _ (by decide)).trans hber, (hbit _ (by decide)).trans hfec,
    (hbit _ (by decide)).trans han, (hbit _ (by decide)).trans hlink⟩

/-- Without LINK, the loss of sync reports and counts nothing. -/
theorem syncLost_of_down (h : s.linkUp n = false) : s.syncLost n = s.laneCleared n :=
  showLink_of_same ((laneSet_laneCleared.link.trans h).trans linkOk_laneCleared.symm)

/-- The listed lanes have lost their sync. -/
structure LanesLost (L : List Nat) (s t : State) : Prop where
  void : ∀ n : Port, n.val ∈ L → t.laneVoid n
  step : LinkStep (lanesRegs L) s t
  quiet : (∀ n ∈ L, s.linkUp n = false) → t.evt = s.evt ∧ t.ctrs = s.ctrs

theorem lanesLost_foldl {L : List Nat} (hL : ∀ n ∈ L, n < 48) (hnodup : L.Nodup) :
    LanesLost L s (L.foldl (fun s n => s.syncLost n) s) := by
  induction L generalizing s with
  | nil => exact ⟨fun _ h => absurd h List.not_mem_nil, .refl _ s, fun _ => ⟨rfl, rfl⟩⟩
  | cons m L ih =>
    obtain ⟨hm, hL⟩ := List.forall_mem_cons.1 hL
    obtain ⟨hmL, hnodup⟩ := List.nodup_cons.1 hnodup
    have h : LanesLost L (s.syncLost m) (L.foldl (fun s n => s.syncLost n) (s.syncLost m)) := ih hL hnodup
    have hstep : LinkStep (laneRegs m) s (s.syncLost m) := linkStep_syncLost (n := ⟨m, hm⟩)
    refine ⟨fun n hn => ?_, ?_, fun hdown => ?_⟩
    · by_cases e : n.val ∈ L
      · exact h.void n e
      · have hnm : n.val = m := (List.mem_cons.1 hn).resolve_right e
        exact laneVoid_of_page (page_of_lanes h.step.regs e) (hnm ▸ laneVoid_syncLost (n := n))
    · exact (hstep.mono (laneRegs_subset (n := ⟨m, hm⟩) (.head _))).trans
        (h.step.mono (lanesRegs_mono (List.subset_cons_self _ _)))
    · obtain ⟨hdownm, hdownL⟩ := List.forall_mem_cons.1 hdown
      have hcleared : s.syncLost m = s.laneCleared m := syncLost_of_down (n := ⟨m, hm⟩) hdownm
      have hset : LaneSet ⟨m, hm⟩ s (s.laneCleared m) := laneSet_laneCleared
      have hkeeps : ∀ k ∈ L, (s.syncLost m).linkUp k = false := fun k hk => by
        have hpage : PageLike (⟨k, hL k hk⟩ : Port) [] s (s.syncLost m) :=
          page_of_lanes (L := [m]) (hstep.mono (laneRegs_subset (n := ⟨m, hm⟩) (.head _))).regs
            (fun hmem => hmL (List.mem_singleton.1 hmem ▸ hk))
        exact (hpage.linkUp List.not_mem_nil).trans (hdownL k hk)
      obtain ⟨hevt, hctrs⟩ := h.quiet hkeeps
      rw [hcleared] at hevt hctrs
      rw [List.foldl_cons, hcleared]
      exact ⟨hevt.trans hset.evt, hctrs.trans hset.ctrs⟩

/-! ### A PLL's lock (R165) -/

/-- The lock bit of a PLL. -/
def pllLock (pll : Nat) : Fld := if pll = 0 then F.TQ_QUAD_PLL.PLL0_LOCK else F.TQ_QUAD_PLL.PLL1_LOCK

theorem pllLock_fits (pll : Nat) : (pllLock pll).off = 0x8000 ∧ (pllLock pll).lo + (pllLock pll).width ≤ 32 := by
  unfold pllLock
  split
  · decide
  · decide

theorem pllLock_fin (pll : Fin 2) :
    (if pll = 0 then F.TQ_QUAD_PLL.PLL0_LOCK else F.TQ_QUAD_PLL.PLL1_LOCK) = pllLock pll :=
  if_congr Fin.ext_iff rfl rfl

/-- The lanes of a quad that use a PLL. -/
def State.pllLanes (s : State) (q pll : Nat) : List Nat :=
  (quadPorts q).filter fun n => decide (s.tqF n F.TQ_LANE_CFG.PLL_SEL = pll)

theorem mem_quadPorts_lt {q : Fin 12} {k : Nat} (h : k ∈ quadPorts q) : k < 48 := by
  simp only [quadPorts, List.mem_cons, List.not_mem_nil, or_false] at h
  omega

theorem nodup_quadPorts (q : Nat) : (quadPorts q).Nodup := by
  simp only [quadPorts, List.nodup_cons, List.mem_cons, List.not_mem_nil, or_false, not_or, List.nodup_nil, not_false_iff, and_true]
  omega

/-- The report of a lock bit's change. -/
def State.pllRaise (s : State) (q pll : Nat) (lock : Bool) : State :=
  s.raise (Ev.TQ_PLL + q) (0x10 + q) noInst [(1, pll), (1, b2n lock), (1, 0)]

theorem setPllLock_of_gain {q pll : Nat} (h : s.bit (quadB q) (pllLock pll) = false) :
    s.setPllLock q pll true = (s.setBit (quadB q) (pllLock pll) true).pllRaise q pll true :=
  if_neg fun e => Bool.false_ne_true (h.symm.trans e)

theorem setPllLock_of_loss {q pll : Nat} (h : s.bit (quadB q) (pllLock pll) = true) :
    s.setPllLock q pll false = (((s.setBit (quadB q) (pllLock pll) false).pllLanes q pll).foldl (fun s n => s.syncLost n)
      (s.setBit (quadB q) (pllLock pll) false)).pllRaise q pll false :=
  if_neg fun e => Bool.false_ne_true (e.symm.trans h)

theorem quad_not_lanes (q : Fin 12) {L : List Nat} (hL : ∀ n ∈ L, n < 48) : quadB q + 0x8000 ∉ lanesRegs L := by
  intro hmem
  have hlow : pnB 0 + 0x104 < window 0x10 ∧ pnB 1 + 0x104 < window 0x10 := by decide
  have hle : window 0x10 ≤ quadB q := by
    unfold quadB window
    omega
  obtain hmem | hmem := List.mem_append.1 hmem
  · simp only [List.mem_cons, List.not_mem_nil, or_false] at hmem
    omega
  · obtain ⟨m, hm, e⟩ := List.mem_map.1 hmem
    exact quad_not_lane ⟨m, hL m hm⟩ q e.symm

theorem aon_not_lanes {L : List Nat} (hL : ∀ n ∈ L, n < 48) : aonB + 0x14 ∉ lanesRegs L := by
  intro hmem
  obtain hmem | hmem := List.mem_append.1 hmem
  · revert hmem
    decide
  · obtain ⟨m, hm, e⟩ := List.mem_map.1 hmem
    exact aon_not_lane ⟨m, hL m hm⟩ (List.mem_singleton.2 e.symm)

/-- A quad's registers of lock bits are none of a lane's page. -/
theorem page_setBit_quad (q : Fin 12) (pll : Nat) (b : Bool) : PageLike n [] s (s.setBit (quadB q) (pllLock pll) b) :=
  pageLike_of_regsBut (regsBut_setF (quadB q) (pllLock pll) _) fun o ho _ hmem => by
    rw [(pllLock_fits pll).1, List.mem_singleton] at hmem
    unfold tqB quadB window at hmem
    omega

/-- A lost lock, shown and reported, with every lane that uses the PLL. -/
structure PllLost (q : Fin 12) (pll : Nat) (s t : State) : Prop where
  lock : t.bit (quadB q) (pllLock pll) = false
  void : ∀ n ∈ quadPorts q, s.tqF n F.TQ_LANE_CFG.PLL_SEL = pll → t.laneVoid n
  quiet : (∀ n ∈ quadPorts q, s.linkUp n = false) → t.evt = (s.pllRaise q pll false).evt ∧ t.ctrs = s.ctrs
  step : LinkStep ([quadB q + 0x8000, pnB 0 + 0x104, pnB 1 + 0x104] ++ (quadPorts q).map fun n => tqB n + 0x4) s t

theorem pllLost_setPllLock {q : Fin 12} {pll : Nat} (h : s.bit (quadB q) (pllLock pll) = true) :
    PllLost q pll s (s.setPllLock q pll false) := by
  obtain ⟨hoff, hfits⟩ := pllLock_fits pll
  obtain ⟨y, hy⟩ : ∃ y, y = s.setBit (quadB q) (pllLock pll) false := ⟨_, rfl⟩
  have hpages : ∀ m : Port, PageLike m [] s y := fun m => hy ▸ page_setBit_quad q pll false
  have hset : LinkStep [quadB q + 0x8000] s y :=
    hy ▸ linkStep_setF (f := pllLock pll) 0 (by rw [hoff]; exact .head _)
  have hlt : ∀ n ∈ y.pllLanes q pll, n < 48 := fun n hn => mem_quadPorts_lt (List.mem_of_mem_filter hn)
  have hlost := lanesLost_foldl (s := y) hlt ((nodup_quadPorts q).filter _)
  obtain ⟨z, hz⟩ : ∃ z, z = (y.pllLanes q pll).foldl (fun s n => s.syncLost n) y := ⟨_, rfl⟩
  rw [setPllLock_of_loss h, ← hy, ← hz]
  rw [← hz] at hlost
  have hregs : (z.pllRaise q pll false).regs = z.regs := raise_regs ..
  refine ⟨?_, fun n hn hsel => ?_, fun hdown => ?_, ?_⟩
  · have hz : z.bit (quadB q) (pllLock pll) = y.bit (quadB q) (pllLock pll) :=
      bit_congr (hlost.step.regs _ (by rw [hoff]; exact quad_not_lanes q hlt))
    exact (bit_congr (reg_of_regs hregs _)).trans (hz.trans (hy ▸ bit_setBit_same s _ _ _ hfits))
  · have hpage : PageLike (⟨n, mem_quadPorts_lt hn⟩ : Port) [] s y := hpages _
    have hmem : n ∈ y.pllLanes q pll := List.mem_filter.2 ⟨hn, decide_eq_true
      ((hpage.tqF (f := F.TQ_LANE_CFG.PLL_SEL) (by decide) List.not_mem_nil).trans hsel)⟩
    exact laneVoid_of_page (n := ⟨n, mem_quadPorts_lt hn⟩) (pageLike_of_regs hregs)
      (hlost.void ⟨n, mem_quadPorts_lt hn⟩ hmem)
  · obtain ⟨hevt, hctrs⟩ := hlost.quiet fun n hn =>
      ((hpages ⟨n, hlt n hn⟩).linkUp List.not_mem_nil).trans (hdown n (List.mem_of_mem_filter hn))
    have hyevt : y.evt = s.evt := by rw [hy]; exact setF_evt ..
    have hyctrs : y.ctrs = s.ctrs := by rw [hy]; exact setF_ctrs ..
    refine ⟨raise_evt_congr (hevt.trans hyevt) (live_evt_congr ?_) .., (raise_ctrs ..).trans (hctrs.trans hyctrs)⟩
    refine (hlost.step.regs _ (aon_not_lanes hlt)).trans (hset.regs _ fun hmem => ?_)
    have hne : aonB + 0x14 ≠ quadB q + 0x8000 := by
      unfold aonB quadB window
      omega
    exact hne (List.mem_singleton.1 hmem)
  · refine (hset.mono ?_).trans ((hlost.step.mono ?_).trans (linkStep_raise ..))
    · exact List.cons_subset.2 ⟨.head _, List.nil_subset _⟩
    · refine List.append_subset.2 ⟨?_, ?_⟩
      · exact fun a ha => List.mem_append_left _ (.tail _ ha)
      · exact fun a ha => List.mem_append_right _ (List.map_subset _ (List.filter_subset_self _) ha)

end Sys2Proof.Machine
end

section
/-! Proof that LINK follows its conditions (O33): the findings of a lane, and the statement. -/

namespace Sys2Proof.Machine

variable {s t x y : State} {n : Port} {v : Bool}

/-! ### The commands -/

theorem exec_tqPllLockChange (q : Fin 12) (pll : Fin 2) (lock : Bool) :
    exec (.tqPllLockChange q pll lock) s = .next (s.setPllLock q pll lock) := rfl

/-- The recovery circuit's lock, shown. -/
def State.cdrShown (s : State) (n : Nat) (lock : Bool) : State :=
  (s.setTq n F.TQ_LANE_STAT.CDR_LOCK (b2n lock)).showSynceOut

theorem exec_tqCdrLockChange (lock : Bool) : exec (.tqCdrLockChange n lock) s =
    .next (if lock then s.cdrShown n lock else (s.cdrShown n lock).syncLost n) := rfl

theorem exec_tqCdrLockChange_gained : exec (.tqCdrLockChange n true) s = .next (s.cdrShown n true) := by
  rw [exec_tqCdrLockChange, if_pos rfl]

theorem exec_tqCdrLockChange_lost : exec (.tqCdrLockChange n false) s = .next ((s.cdrShown n false).syncLost n) := by
  rw [exec_tqCdrLockChange, if_neg Bool.false_ne_true]

theorem exec_tqPcsSyncChange (sync : Bool) : exec (.tqPcsSyncChange n sync) s = .next (s.onLive (quadId n) fun s =>
    if !sync then s.syncLost n
    else if s.portState n ≠ 0 ∨ s.bit (tqB n) F.TQ_LANE_STAT.CDR_LOCK = false then s
    else (s.setTq n F.TQ_LANE_STAT.SYNC 1).showLink n 0) := rfl

theorem onLive_of_live {i : Nat} {f : State → State} (h : s.live i = true) : s.onLive i f = f s := if_pos h

theorem onLive_same {i : Nat} {f : State → State} (h : f s = s) : s.onLive i f = s := by
  unfold State.onLive
  split
  · exact h
  · rfl

theorem exec_tqPcsSyncChange_lost (hlive : s.live (quadId n) = true) :
    exec (.tqPcsSyncChange n false) s = .next (s.syncLost n) := by
  rw [exec_tqPcsSyncChange, onLive_of_live hlive, if_pos Bool.not_false]

theorem exec_tqPcsSyncChange_gained (hlive : s.live (quadId n) = true) (hin : s.portState n = 0)
    (hcdr : s.bit (tqB n) F.TQ_LANE_STAT.CDR_LOCK = true) :
    exec (.tqPcsSyncChange n true) s = .next ((s.setTq n F.TQ_LANE_STAT.SYNC (b2n true)).showLink n 0) := by
  have hgo : ¬ (s.portState n ≠ 0 ∨ s.bit (tqB n) F.TQ_LANE_STAT.CDR_LOCK = false) := by simp [hin, hcdr]
  rw [exec_tqPcsSyncChange, onLive_of_live hlive, if_neg (by decide), if_neg hgo]
  rfl

theorem exec_tqPcsSyncChange_ignored (h : s.portState n ≠ 0 ∨ s.bit (tqB n) F.TQ_LANE_STAT.CDR_LOCK = false) :
    exec (.tqPcsSyncChange n true) s = .next s := by
  rw [exec_tqPcsSyncChange, onLive_same]
  rw [if_neg (by decide), if_pos h]

theorem exec_tqFecLockChange (lock : Bool) (hlive : s.live (quadId n) = true) (hfec : s.laneFec n ≠ 0)
    (hin : s.portState n = 0) :
    exec (.tqFecLockChange n lock) s = .next ((s.setTq n F.TQ_LANE_STAT.FEC_LOCK (b2n lock)).showLink n 2) := by
  have hgo : ¬ (s.laneFec n = 0 ∨ (lock = true ∧ s.portState n ≠ 0)) := by simp [hfec, hin]
  exact congrArg Host.Outcome.next ((if_pos hlive).trans (if_neg hgo))

/-- HI_BER, shown and reported. -/
def State.berShown (s : State) (n : Nat) (bad : Bool) : State :=
  (s.setTq n F.TQ_LANE_STAT.HI_BER (b2n bad)).tqRaiseMs n Ev.TP_HI_BER [(1, n), (1, b2n bad)]

theorem exec_hiBerWindow {bad : Bool} (hlive : s.live (quadId n) = true) (hmode : s.laneMode n = 1 ∨ s.laneMode n = 2)
    (hsync : s.bit (tqB n) F.TQ_LANE_STAT.SYNC = true) (hnew : s.bit (tqB n) F.TQ_LANE_STAT.HI_BER ≠ bad) :
    exec (.hiBerWindow n bad) s = .next ((s.berShown n bad).showLink n 1) := by
  have hgo : ¬ ((s.laneMode n ≠ 1 ∧ s.laneMode n ≠ 2) ∨ s.bit (tqB n) F.TQ_LANE_STAT.SYNC = false ∨
      s.bit (tqB n) F.TQ_LANE_STAT.HI_BER = bad) := by
    rw [hsync]
    rintro (⟨h1, h2⟩ | h | h)
    · exact hmode.elim h1 h2
    · exact Bool.false_ne_true h.symm
    · exact hnew h
  exact congrArg Host.Outcome.next ((if_pos hlive).trans (if_neg hgo))

theorem exec_hiBerWindow_ignored {bad : Bool} (h : (s.laneMode n ≠ 1 ∧ s.laneMode n ≠ 2) ∨
    s.bit (tqB n) F.TQ_LANE_STAT.SYNC = false ∨ s.bit (tqB n) F.TQ_LANE_STAT.HI_BER = bad) :
    exec (.hiBerWindow n bad) s = .next s := by
  exact congrArg Host.Outcome.next (onLive_same (if_pos h))

/-- What negotiation has found: that it is done, and in SGMII the partner's speed and duplex. -/
def State.anShown (s : State) (n speed : Nat) (half : Bool) : State :=
  if s.laneMode n = 5 then
    ((s.setTq n F.TQ_LANE_STAT.AN_DONE (b2n true)).setTq n F.TQ_LANE_STAT.SPEED (min 2 speed)).setTq n F.TQ_LANE_STAT.HALF
      (if min 2 speed = 2 then 0 else b2n half)
  else s.setTq n F.TQ_LANE_STAT.AN_DONE (b2n true)

theorem exec_tqAnComplete {speed : BitVec 2} {half : Bool} (hlive : s.live (quadId n) = true) (han : s.anRuns n = true)
    (hsync : s.bit (tqB n) F.TQ_LANE_STAT.SYNC = true) :
    exec (.tqAnComplete n speed half) s = .next ((s.anShown n speed.toNat half).showLink n 3) := by
  have hgo : ¬ (s.anRuns n = false ∨ s.bit (tqB n) F.TQ_LANE_STAT.SYNC = false) := by simp [han, hsync]
  have hmode : (s.setTq n F.TQ_LANE_STAT.AN_DONE 1).laneMode n = s.laneMode n :=
    (pageLike_setTq (l := [0x4]) 1 (.head _)).laneMode (by decide)
  refine congrArg Host.Outcome.next ((if_pos hlive).trans ((if_neg hgo).trans ?_))
  dsimp only
  rw [hmode]
  rfl

/-! ### The findings -/

theorem showSynceOut_regs : s.showSynceOut.regs = s.regs := rfl

theorem LaneSet.showSynceOut (h : LaneSet n s x) : LaneSet n s x.showSynceOut where
  evt := h.evt
  ctrs := h.ctrs
  counting := h.counting
  mcCounting := h.mcCounting
  now := h.now
  regs a ha := (reg_of_regs showSynceOut_regs a).trans (h.regs a ha)
  link := (bit_congr (reg_of_regs showSynceOut_regs _)).trans h.link
  cfg := (bit_congr (reg_of_regs showSynceOut_regs _)).trans h.cfg
  speed := (fld_of_regs _ _ showSynceOut_regs).trans h.speed
  half := (fld_of_regs _ _ showSynceOut_regs).trans h.half

theorem laneSet_cdrShown (lock : Bool) : LaneSet n s (s.cdrShown n lock) :=
  (laneSet_setTq _ rfl (by decide) (by decide)).showSynceOut

/-- The recovery circuit's lock shows in its bit and in what drives the recovered clocks. -/
structure CdrShown (n : Port) (lock : Bool) (s x : State) : Prop where
  lock : x.bit (tqB n) F.TQ_LANE_STAT.CDR_LOCK = lock
  tim : x.tim = { s.tim with synceOut := x.tim.synceOut }
  frame : x = { s with tim := x.tim, regs := x.regs }
  regs : RegsBut [tqB n + 0x4] s x

theorem cdrShown_holds (lock : Bool) : CdrShown n lock s (s.cdrShown n lock) := by
  have hlock := bit_setTq_same (s := s) (n := n) (v := lock) (f := F.TQ_LANE_STAT.CDR_LOCK) (by decide) (by decide)
  have hregs := (laneSet_cdrShown (s := s) (n := n) lock).regs
  obtain ⟨y, hy⟩ : ∃ y, y = s.setTq n F.TQ_LANE_STAT.CDR_LOCK (b2n lock) := ⟨_, rfl⟩
  obtain ⟨r, hr⟩ : ∃ r, y = { s with regs := r } := ⟨_, hy.trans (setF_frame ..)⟩
  rw [State.cdrShown, ← hy] at hregs ⊢
  rw [← hy] at hlock
  refine ⟨(bit_congr (reg_of_regs showSynceOut_regs _)).trans hlock, ?_, ?_, hregs⟩
  · rw [hr]
    rfl
  · rw [hr]
    rfl

theorem laneSet_sync : LaneSet n s (s.setTq n F.TQ_LANE_STAT.SYNC (b2n true)) :=
  laneSet_setTq _ rfl (by decide) (by decide)

theorem linkOk_sync : (s.setTq n F.TQ_LANE_STAT.SYNC (b2n true)).linkOk n =
    s.linkFound n true (s.bit (tqB n) F.TQ_LANE_STAT.HI_BER) (s.bit (tqB n) F.TQ_LANE_STAT.FEC_LOCK)
      (s.bit (tqB n) F.TQ_LANE_STAT.AN_DONE) := by
  rw [linkOk_of_found laneSet_sync.regs laneSet_sync.cfg, bit_setTq_same (by decide) (by decide),
    bit_setTq_other _ (by decide) (by decide), bit_setTq_other _ (by decide) (by decide),
    bit_setTq_other _ (by decide) (by decide)]

theorem laneSet_fec (lock : Bool) : LaneSet n s (s.setTq n F.TQ_LANE_STAT.FEC_LOCK (b2n lock)) :=
  laneSet_setTq _ rfl (by decide) (by decide)

theorem linkOk_fec (lock : Bool) : (s.setTq n F.TQ_LANE_STAT.FEC_LOCK (b2n lock)).linkOk n =
    s.linkFound n (s.bit (tqB n) F.TQ_LANE_STAT.SYNC) (s.bit (tqB n) F.TQ_LANE_STAT.HI_BER) lock
      (s.bit (tqB n) F.TQ_LANE_STAT.AN_DONE) := by
  rw [linkOk_of_found (laneSet_fec lock).regs (laneSet_fec lock).cfg, bit_setTq_same (by decide) (by decide),
    bit_setTq_other _ (by decide) (by decide), bit_setTq_other _ (by decide) (by decide),
    bit_setTq_other _ (by decide) (by decide)]

theorem laneSet_an : LaneSet n s (s.setTq n F.TQ_LANE_STAT.AN_DONE (b2n true)) :=
  laneSet_setTq _ rfl (by decide) (by decide)

theorem berShown_regs (bad : Bool) : (s.berShown n bad).regs = (s.setTq n F.TQ_LANE_STAT.HI_BER (b2n bad)).regs :=
  raiseMs_regs ..

theorem laneSet_ber (bad : Bool) : LaneSet n s (s.setTq n F.TQ_LANE_STAT.HI_BER (b2n bad)) :=
  laneSet_setTq _ rfl (by decide) (by decide)

theorem bit_berShown (bad : Bool) (f : Fld) : (s.berShown n bad).bit (tqB n) f =
    (s.setTq n F.TQ_LANE_STAT.HI_BER (b2n bad)).bit (tqB n) f := bit_congr (reg_of_regs (berShown_regs bad) _)

theorem linkOk_berShown (bad : Bool) : (s.berShown n bad).linkOk n =
    s.linkFound n (s.bit (tqB n) F.TQ_LANE_STAT.SYNC) bad (s.bit (tqB n) F.TQ_LANE_STAT.FEC_LOCK)
      (s.bit (tqB n) F.TQ_LANE_STAT.AN_DONE) := by
  have hregs : RegsBut [tqB n + 0x4] s (s.berShown n bad) := fun a ha =>
    (reg_of_regs (berShown_regs bad) a).trans ((laneSet_ber bad).regs a ha)
  rw [linkOk_of_found hregs ((bit_berShown bad _).trans (laneSet_ber bad).cfg), bit_berShown, bit_berShown, bit_berShown,
    bit_berShown, bit_setTq_same (by decide) (by decide), bit_setTq_other _ (by decide) (by decide),
    bit_setTq_other _ (by decide) (by decide), bit_setTq_other _ (by decide) (by decide)]

theorem berShown_evt (bad : Bool) :
    (s.berShown n bad).evt = (s.tqRaiseMs n Ev.TP_HI_BER [(1, n), (1, b2n bad)]).evt :=
  raiseMs_evt_congr (laneSet_ber bad).evt (live_evt_congr ((laneSet_ber bad).regs _ (aon_not_lane n))) (laneSet_ber bad).now ..

theorem berShown_ctrs (bad : Bool) : (s.berShown n bad).ctrs = s.ctrs := (raiseMs_ctrs ..).trans (laneSet_ber bad).ctrs

/-- What negotiation finds in SGMII. -/
structure AnFound (n : Port) (speed : Nat) (half : Bool) (s x : State) : Prop where
  regs : RegsBut [tqB n + 0x4] s x
  kept : ∀ f : Fld, 24 ≤ f.lo → f.lo + f.width ≤ 27 ∨ 28 ≤ f.lo → x.bit (tqB n) f = s.bit (tqB n) f
  done : x.bit (tqB n) F.TQ_LANE_STAT.AN_DONE = true
  speedShown : x.tqF n F.TQ_LANE_STAT.SPEED = min 2 speed
  halfShown : x.bit (tqB n) F.TQ_LANE_STAT.HALF = (half && decide (speed < 2))
  step : LinkStep (laneRegs n) s x

/-- The duplex bit: full at 1 Gbit/s. -/
theorem half_of_speed (speed : Nat) (half : Bool) :
    (if min 2 speed = 2 then 0 else b2n half) = b2n (half && decide (speed < 2)) := by
  by_cases h : speed < 2
  · rw [if_neg (by omega), decide_eq_true h, Bool.and_true]
  · rw [if_pos (by omega), decide_eq_false h, Bool.and_false]
    rfl

theorem anShown_of_auto (speed : Nat) (half : Bool) (h : s.laneMode n ≠ 5) :
    s.anShown n speed half = s.setTq n F.TQ_LANE_STAT.AN_DONE (b2n true) := if_neg h

theorem anShown_of_sgmii (speed : Nat) (half : Bool) (h : s.laneMode n = 5) :
    s.anShown n speed half = ((s.setTq n F.TQ_LANE_STAT.AN_DONE (b2n true)).setTq n F.TQ_LANE_STAT.SPEED (min 2 speed)).setTq n
      F.TQ_LANE_STAT.HALF (b2n (half && decide (speed < 2))) := by
  rw [State.anShown, if_pos h, half_of_speed]

theorem anFound_anShown (speed : Nat) (half : Bool) (h : s.laneMode n = 5) :
    AnFound n speed half s (s.anShown n speed half) := by
  rw [anShown_of_sgmii speed half h]
  have hregs : ∀ (z : State) (f : Fld) (k : Nat), f.off = 0x4 → RegsBut [tqB n + 0x4] z (z.setTq n f k) :=
    fun z f k hoff => hoff ▸ regsBut_setF (tqB n) f k
  have hstep : ∀ (z : State) (f : Fld) (k : Nat), f.off = 0x4 → LinkStep (laneRegs n) z (z.setTq n f k) :=
    fun z f k hoff => linkStep_setF k (by rw [hoff]; exact .head _)
  have hat : F.TQ_LANE_STAT.AN_DONE.lo = 27 ∧ F.TQ_LANE_STAT.AN_DONE.width = 1 ∧
      F.TQ_LANE_STAT.SPEED.lo + F.TQ_LANE_STAT.SPEED.width = 24 ∧
      F.TQ_LANE_STAT.HALF.lo + F.TQ_LANE_STAT.HALF.width = 22 := by decide
  refine ⟨fun a ha => ?_, fun f hlo hf => ?_, ?_, ?_, bit_setTq_same (by decide) (by decide), ?_⟩
  · exact ((hregs _ _ _ rfl a ha).trans (hregs _ _ _ rfl a ha)).trans (hregs _ _ _ rfl a ha)
  · rw [bit_setTq_other _ (by decide) (by omega), bit_setTq_other _ (by decide) (by omega),
      bit_setTq_other _ (by decide) (by omega)]
  · rw [bit_setTq_other _ (by decide) (by decide), bit_setTq_other _ (by decide) (by decide),
      bit_setTq_same (by decide) (by decide)]
  · have hspeed : ∀ z : State, (z.setTq n F.TQ_LANE_STAT.SPEED (min 2 speed)).tqF n F.TQ_LANE_STAT.SPEED =
        min 2 speed % 2 ^ F.TQ_LANE_STAT.SPEED.width := fun z => fld_setF_same z (tqB n) _ _ (by decide)
    have hfit : min 2 speed < 2 ^ F.TQ_LANE_STAT.SPEED.width := Nat.lt_of_le_of_lt (Nat.min_le_left ..) (by decide)
    rw [tqF_setTq_other _ (by decide) (by decide), hspeed, Nat.mod_eq_of_lt hfit]
  · exact ((hstep _ _ _ rfl).trans (hstep _ _ _ rfl)).trans (hstep _ _ _ rfl)

theorem AnFound.linkOk {speed : Nat} {half : Bool} (h : AnFound n speed half s x) : x.linkOk n =
    s.linkFound n (s.bit (tqB n) F.TQ_LANE_STAT.SYNC) (s.bit (tqB n) F.TQ_LANE_STAT.HI_BER)
      (s.bit (tqB n) F.TQ_LANE_STAT.FEC_LOCK) true := by
  rw [linkOk_of_found h.regs (h.kept _ (by decide) (by decide)), h.done, h.kept _ (by decide) (by decide),
    h.kept _ (by decide) (by decide), h.kept _ (by decide) (by decide)]

theorem linkOk_an : (s.setTq n F.TQ_LANE_STAT.AN_DONE (b2n true)).linkOk n =
    s.linkFound n (s.bit (tqB n) F.TQ_LANE_STAT.SYNC) (s.bit (tqB n) F.TQ_LANE_STAT.HI_BER)
      (s.bit (tqB n) F.TQ_LANE_STAT.FEC_LOCK) true := by
  rw [linkOk_of_found laneSet_an.regs laneSet_an.cfg, bit_setTq_same (by decide) (by decide),
    bit_setTq_other _ (by decide) (by decide), bit_setTq_other _ (by decide) (by decide),
    bit_setTq_other _ (by decide) (by decide)]

/-! ### LINK where one finding is given -/

variable {sync hiBer fec an : Bool}

theorem linkFound_synced : s.linkFound n true hiBer fec an =
    (s.laneReady n && !hiBer && (decide (s.laneFec n = 0) || fec) && (!s.anRuns n || an)) := by
  rw [State.linkFound, Bool.and_true]

theorem linkFound_fec (h : s.laneFec n ≠ 0) : s.linkFound n sync hiBer fec an =
    (s.laneReady n && sync && !hiBer && fec && (!s.anRuns n || an)) := by
  rw [State.linkFound, decide_eq_false h, Bool.false_or]

theorem linkFound_negotiated : s.linkFound n sync hiBer fec true =
    (s.laneReady n && sync && !hiBer && (decide (s.laneFec n = 0) || fec)) := by
  rw [State.linkFound, Bool.or_true, Bool.and_true]

/-! ### The statement -/

theorem linkStep_setTq {f : Fld} (k : Nat) (hoff : f.off = 0x4) : LinkStep (laneRegs n) s (s.setTq n f k) :=
  linkStep_setF k (by rw [hoff]; exact .head _)

/-- A step from a state that differs in the recovered clocks alone. -/
theorem LinkStep.fromCdr {lock : Bool} (h : CdrShown n lock s x) (k : LinkStep (laneRegs n) x t) :
    OnlyBens s t ∧ t.tim = { s.tim with synceOut := t.tim.synceOut } ∧
      t = { s with tim := t.tim, out := t.out, pon := t.pon, ctrs := t.ctrs, evt := t.evt, timers := t.timers, regs := t.regs } ∧
      TimersBut [Tm.ps 0, Tm.ps 1] s t ∧ RegsBut (laneRegs n) s t := by
  obtain ⟨tm, r, hx⟩ : ∃ tm r, x = { s with tim := tm, regs := r } := ⟨_, _, h.frame⟩
  have htim : t.tim = x.tim := by rw [k.frame]
  have hout : x.out = s.out := by rw [hx]
  have htimers : x.timers = s.timers := by rw [hx]
  refine ⟨onlyBens_trans (onlyBens_of_eq hout) k.bens, by rw [htim]; exact h.tim, ?_,
    timersBut_trans (timersBut_of_eq _ htimers) k.timers,
    fun a ha => (k.regs a ha).trans (h.regs a fun hmem => ha (List.mem_singleton.1 hmem ▸ .head _))⟩
  obtain ⟨o, p, c, e, y, q, rfl⟩ : ∃ o p c e y q, t = { x with
      out := o, pon := p, ctrs := c, evt := e, timers := y, regs := q } :=
    ⟨_, _, _, _, _, _, k.frame⟩
  rw [hx]

theorem cdrLock_syncLost : (s.syncLost n).bit (tqB n) F.TQ_LANE_STAT.CDR_LOCK = s.bit (tqB n) F.TQ_LANE_STAT.CDR_LOCK := by
  have hcleared : (s.laneCleared n).bit (tqB n) F.TQ_LANE_STAT.CDR_LOCK = s.bit (tqB n) F.TQ_LANE_STAT.CDR_LOCK := by
    unfold State.laneCleared
    rw [bit_setTq_other _ (by decide) (by decide), bit_setTq_other _ (by decide) (by decide),
      bit_setTq_other _ (by decide) (by decide), bit_setTq_other _ (by decide) (by decide)]
  exact (bit_showLink (by decide) (by decide)).trans hcleared

end Sys2Proof.Machine
end

section
/-! Proof that LINK follows its conditions (O33): the statement. -/

namespace Sys2Proof.Machine

variable {s t x : State} {n : Port} {v : Bool}

/-- A gained lock, shown and reported. -/
structure PllGained (q : Fin 12) (pll : Nat) (s t : State) : Prop where
  lock : t.bit (quadB q) (pllLock pll) = true
  evt : t.evt = (s.pllRaise q pll true).evt
  frame : t = { s with evt := t.evt, regs := t.regs }
  regs : RegsBut [quadB q + 0x8000] s t

theorem pllGained_setPllLock {q : Fin 12} {pll : Nat} (h : s.bit (quadB q) (pllLock pll) = false) :
    PllGained q pll s (s.setPllLock q pll true) := by
  obtain ⟨hoff, hfits⟩ := pllLock_fits pll
  have hlock : (s.setBit (quadB q) (pllLock pll) true).bit (quadB q) (pllLock pll) = true := bit_setBit_same s _ _ _ hfits
  have hregs : RegsBut [quadB q + 0x8000] s (s.setBit (quadB q) (pllLock pll) true) :=
    hoff ▸ regsBut_setF (quadB q) (pllLock pll) _
  obtain ⟨r, hr⟩ : ∃ r, s.setBit (quadB q) (pllLock pll) true = { s with regs := r } := ⟨_, setF_frame ..⟩
  rw [setPllLock_of_gain h]
  rw [hr] at hlock hregs ⊢
  obtain ⟨e, he⟩ : ∃ e, State.pllRaise { s with regs := r } q pll true =
    { s with regs := r, evt := e } := ⟨_, raise_eq ..⟩
  have hne : aonB + 0x14 ≠ quadB q + 0x8000 := by
    unfold aonB quadB window
    omega
  have hlive := live_evt_congr (hregs _ fun hmem => hne (List.mem_singleton.1 hmem))
  refine ⟨?_, raise_evt_congr (s := s) (t := { s with regs := r }) rfl hlive .., ?_, ?_⟩
  · rw [he]
    exact hlock
  · rw [he]
  · rw [he]
    exact hregs

theorem laneSet_refl (n : Port) (s : State) : LaneSet n s s :=
  ⟨rfl, rfl, rfl, rfl, rfl, fun _ _ => rfl, rfl, rfl, rfl, rfl⟩

/-- Where LINK was 0, its change is to 1. -/
theorem raised_of_down {cause : Nat} (h : s.linkUp n = false) :
    (if s.linkUp n = v then s else s.linkRaise n v cause) = if v then s.linkRaise n v cause else s := by
  rw [h]
  cases v
  · rw [if_pos rfl, if_neg Bool.false_ne_true]
  · rw [if_neg Bool.false_ne_true, if_pos rfl]

theorem linkStep_berShown (bad : Bool) : LinkStep (laneRegs n) s (s.berShown n bad) :=
  (linkStep_setTq _ rfl).trans (linkStep_raiseMs ..)

theorem linkUp_berShown (bad : Bool) : (s.berShown n bad).linkUp n = s.linkUp n :=
  (bit_berShown bad _).trans (laneSet_ber bad).link

/-- Settles O33, clause by clause along the six commands: what the lane finds, then LINK as its conditions give it. -/
theorem linkFollowsItsConditions : Obligations.LinkFollowsItsConditions := by
  unfold Obligations.LinkFollowsItsConditions
  refine ⟨?pllGain, ?pllLoss, ?cdrGain, ?cdrLoss, ?syncLoss, ?syncGain, ?syncIgnored,
    ?fecLock, ?hiBer, ?hiBerSame, ?anAuto, ?anSgmii⟩
  case pllGain =>
    rintro q pll lock s hlock rfl
    rw [pllLock_fin] at hlock ⊢
    have h : PllGained q pll s _ := pllGained_setPllLock hlock
    exact ⟨_, exec_tqPllLockChange .., h.lock, h.evt, h.frame, h.regs⟩
  case pllLoss =>
    rintro q pll lock s hlock rfl
    rw [pllLock_fin] at hlock ⊢
    have h : PllLost q pll s _ := pllLost_setPllLock hlock
    refine ⟨_, exec_tqPllLockChange .., h.lock, List.all_eq_true.2 fun n hn => decide_eq_true fun hsel => h.void n hn hsel,
      fun ⟨_, _, hdown⟩ => h.quiet fun n hn => ?_, h.step.bens, h.step.frame, h.step.timers, h.step.regs⟩
    exact (Bool.not_eq_eq_eq_not.1 (List.all_eq_true.1 hdown n hn))
  case cdrGain =>
    rintro n lock s rfl
    have h : CdrShown n true s _ := cdrShown_holds true
    exact ⟨_, exec_tqCdrLockChange_gained, h.lock, h.tim, h.frame, h.regs⟩
  case cdrLoss =>
    rintro n lock s rfl
    have h : CdrShown n false s _ := cdrShown_holds false
    exact ⟨_, exec_tqCdrLockChange_lost, cdrLock_syncLost.trans h.lock, laneVoid_syncLost,
      quiet_syncLost (laneSet_cdrShown false), linkStep_syncLost.fromCdr h⟩
  case syncLoss =>
    rintro n sync s hlive rfl
    have h : LinkStep (laneRegs n) s (s.syncLost n) := linkStep_syncLost
    exact ⟨_, exec_tqPcsSyncChange_lost hlive, laneVoid_syncLost, quiet_syncLost (laneSet_refl n s), h.bens, h.frame, h.timers,
      h.regs⟩
  case syncGain =>
    rintro n sync s hlive rfl hin hcdr hdown
    have h : LinkStep (laneRegs n) s _ :=
      (linkStep_setTq (f := F.TQ_LANE_STAT.SYNC) (b2n true) rfl).trans (linkStep_showLink (cause := 0))
    have hlink := linkOk_sync.trans (linkFound_synced (s := s) (n := n))
    refine ⟨_, exec_tqPcsSyncChange_gained hlive hin hcdr, ?_, linkUp_showLink.trans hlink, fun hact => ?_, h.bens, h.frame,
      h.timers, h.regs⟩
    · exact (bit_showLink (by decide) (by decide)).trans (bit_setTq_same (by decide) (by decide))
    · exact (quiet_showLink laneSet_sync hlink hact).1.trans (congrArg State.evt (raised_of_down hdown))
  case syncIgnored =>
    rintro n sync s rfl h
    exact ⟨_, exec_tqPcsSyncChange_ignored h, rfl⟩
  case fecLock =>
    intro n lock s hlive hfec hin
    have h : LinkStep (laneRegs n) s _ :=
      (linkStep_setTq (f := F.TQ_LANE_STAT.FEC_LOCK) (b2n lock) rfl).trans (linkStep_showLink (cause := 2))
    have hlink := (linkOk_fec lock).trans (linkFound_fec hfec)
    refine ⟨_, exec_tqFecLockChange lock hlive hfec hin, ?_, linkUp_showLink.trans hlink, quiet_showLink (laneSet_fec lock) hlink,
      h.bens, h.frame, h.timers, h.regs⟩
    exact (bit_showLink (by decide) (by decide)).trans (bit_setTq_same (by decide) (by decide))
  case hiBer =>
    intro n bad s hlive hmode hsync hnew
    have h : LinkStep (laneRegs n) s _ := (linkStep_berShown bad).trans (linkStep_showLink (cause := 1))
    refine ⟨_, exec_hiBerWindow hlive hmode hsync hnew, ?_, linkUp_showLink.trans (linkOk_berShown bad), fun hsame => ?_,
      h.bens, h.frame, h.timers, h.regs⟩
    · exact (bit_showLink (by decide) (by decide)).trans ((bit_berShown bad _).trans (bit_setTq_same (by decide) (by decide)))
    · obtain ⟨-, -, hlink⟩ := hsame
      rw [showLink_of_same ((linkUp_berShown bad).trans (hlink.trans (linkOk_berShown bad).symm))]
      exact ⟨berShown_evt bad, berShown_ctrs bad⟩
  case hiBerSame =>
    intro n bad s h
    exact ⟨_, exec_hiBerWindow_ignored h, rfl⟩
  case anAuto =>
    intro n speed half s hlive han hmode hsync
    have h : LinkStep (laneRegs n) s _ :=
      (linkStep_setTq (f := F.TQ_LANE_STAT.AN_DONE) (b2n true) rfl).trans (linkStep_showLink (cause := 3))
    have hlink := linkOk_an.trans (linkFound_negotiated (s := s) (n := n))
    refine ⟨_, (exec_tqAnComplete hlive han hsync).trans (by rw [anShown_of_auto _ _ (by rw [hmode]; decide)]), ?_, ?_, ?_,
      linkUp_showLink.trans hlink, fun hact => (quiet_showLink laneSet_an hlink hact).1, h.bens, h.frame, h.timers, h.regs⟩
    · exact (bit_showLink (by decide) (by decide)).trans (bit_setTq_same (by decide) (by decide))
    · exact (tqF_showLink (by decide) (by decide)).trans laneSet_an.speed
    · exact (tqF_showLink (by decide) (by decide)).trans laneSet_an.half
  case anSgmii =>
    intro n speed half s hlive han hmode hsync
    have hfound := anFound_anShown speed.toNat half hmode
    have h : LinkStep (laneRegs n) s _ := hfound.step.trans (linkStep_showLink (cause := 3))
    have hlink := hfound.linkOk.trans linkFound_negotiated
    refine ⟨_, exec_tqAnComplete hlive han hsync, ?_, ?_, ?_, linkUp_showLink.trans hlink, h.bens, h.frame, h.timers, h.regs⟩
    · exact (bit_showLink (by decide) (by decide)).trans hfound.done
    · exact (tqF_showLink (by decide) (by decide)).trans hfound.speedShown
    · exact (bit_showLink (by decide) (by decide)).trans hfound.halfShown

end Sys2Proof.Machine
end

section
/-! Proof support: a frame that a tenant port receives (R168, R173, R174, R177, R180). -/

namespace Sys2Proof.Machine

variable {s t y : State} {n : Port} {x : EthIn}

/-! ### The codewords and the checks -/

theorem fecCount_of_none (h : s.laneFec n = 0) : s.fecCount n x = s := if_pos (.inl h)

theorem fecCount_of_fec (hfec : s.laneFec n ≠ 0) (hin : s.portState n = 0)
    (hlock : s.bit (tqB n) F.TQ_LANE_STAT.FEC_LOCK = true) :
    s.fecCount n x = (s.tqCount n Ctr.TQ.FEC_CORR x.corr).tqCount n Ctr.TQ.FEC_UNCORR x.uncorr := by
  refine if_neg ?_
  rw [hlock]
  rintro (h | h | h)
  · exact hfec h
  · exact h hin
  · exact Bool.false_ne_true h.symm

theorem tqCounts_eq (a j b k : Nat) : (s.tqCount n a j).tqCount n b k =
    { s with ctrs := ((s.tqCount n a j).tqCount n b k).ctrs } := counts_eq ..

theorem fecCount_eq : s.fecCount n x = { s with ctrs := (s.fecCount n x).ctrs } := by
  unfold State.fecCount
  split
  · rfl
  · exact tqCounts_eq ..

theorem rxOn_fecCount : (s.fecCount n x).rxOn n = s.rxOn n := by
  rw [fecCount_eq]
  rfl

/-- Bytes that wait in a port's ingress FIFO. -/
def State.rxUsed (s : State) (n : Nat) : Nat := ((s.rxFifo n).map fun p => p.bytes.length).sum

theorem rxUsed_fecCount : (s.fecCount n x).rxUsed n = s.rxUsed n := by
  rw [fecCount_eq]
  rfl

theorem maxFrame_fecCount : (s.fecCount n x).maxFrame n = s.maxFrame n := by
  rw [fecCount_eq]
  rfl

/-- What a port does with the frame behind the codewords. -/
def State.rxAdmit (s : State) (n : Nat) (x : EthIn) : State :=
  if 32768 < s.rxUsed n + s.maxFrame n then (s.tqCount n Ctr.TQ.RX_OVERRUN).rateShort n else s.rxCheck n x

theorem exec_rxFrame_eq : exec (.rxFrame n x) s = .next (s.onLive (quadId n) fun s =>
    if (s.fecCount n x).rxOn n = false ∨ x.bytes = [] then s.fecCount n x else (s.fecCount n x).rxAdmit n x) := rfl

theorem exec_rxFrame (hon : s.rxOn n = true) (hx : x.bytes ≠ []) :
    exec (.rxFrame n x) s = .next ((s.fecCount n x).rxAdmit n x) := by
  have hgo : ¬ ((s.fecCount n x).rxOn n = false ∨ x.bytes = []) := by
    rw [rxOn_fecCount, hon]
    simp [hx]
  rw [exec_rxFrame_eq, onLive_of_live (live_of_rxOn hon), if_neg hgo]

theorem exec_rxFrame_off (h : s.rxOn n = false ∨ x.bytes = []) (hcount : s.fecCount n x = t) (hlive : s.live (quadId n) = true) :
    exec (.rxFrame n x) s = .next t := by
  rw [exec_rxFrame_eq, onLive_of_live hlive, rxOn_fecCount, if_pos h, hcount]

theorem exec_rxFrame_idle (h : s.rxOn n = false ∨ x.bytes = []) (hfec : s.laneFec n = 0) : exec (.rxFrame n x) s = .next s := by
  rw [exec_rxFrame_eq, onLive_same]
  rw [rxOn_fecCount, if_pos h, fecCount_of_none hfec]

theorem rxAdmit_of_room (h : s.rxUsed n + s.maxFrame n ≤ 32768) : s.rxAdmit n x = s.rxCheck n x :=
  if_neg (Nat.not_lt.2 h)

/-- A frame without its FCS. -/
def frameBody (x : EthIn) : List Byte := x.bytes.take (x.bytes.length - 4)

/-- A frame's FCS. -/
def frameFcs (x : EthIn) : List Byte := x.bytes.drop (x.bytes.length - 4)

/-- Whether a frame is whole, with a good FCS. -/
def frameGood (x : EthIn) : Bool :=
  x.whole && decide (4 ≤ x.bytes.length) && decide (crc32 (frameBody x) = leNat (frameFcs x))

theorem rxCheck_eq : s.rxCheck n x =
    let good := x.whole && decide (s.laneFec n = 0 ∨ x.uncorr = 0) && decide (4 ≤ x.bytes.length) &&
      decide (crc32 (frameBody x) = leNat (frameFcs x))
    if x.bytes.length < 64 then
      s.tqCount n (if s.bit (tqB n) F.TQ_LANE_STAT.HALF && !good then Ctr.TQ.RX_COLL_FRAG else Ctr.TQ.RX_RUNT)
    else if s.maxFrame n < x.bytes.length then s.tqCount n Ctr.TQ.RX_OVERSIZE
    else if !good then s.tqCount n Ctr.TQ.RX_FCS_ERR
    else if beAt (frameBody x) 12 2 = 0x8808 then s.rxControl n (frameBody x)
    else s.rxData n (frameBody x) (frameFcs x) x.bytes.length x := rfl

theorem rxCheck_of_plain (hfec : s.laneFec n = 0) : s.rxCheck n x =
    if x.bytes.length < 64 then
      s.tqCount n (if s.bit (tqB n) F.TQ_LANE_STAT.HALF && !frameGood x then Ctr.TQ.RX_COLL_FRAG else Ctr.TQ.RX_RUNT)
    else if s.maxFrame n < x.bytes.length then s.tqCount n Ctr.TQ.RX_OVERSIZE
    else if !frameGood x then s.tqCount n Ctr.TQ.RX_FCS_ERR
    else if beAt (frameBody x) 12 2 = 0x8808 then s.rxControl n (frameBody x)
    else s.rxData n (frameBody x) (frameFcs x) x.bytes.length x := by
  rw [rxCheck_eq]
  dsimp only
  rw [decide_eq_true (show s.laneFec n = 0 ∨ x.uncorr = 0 from .inl hfec), Bool.and_true]
  rfl

/-- A good frame of a permitted length that is no MAC control frame goes on. -/
theorem rxCheck_of_good (hfec : s.laneFec n = 0) (hmin : 64 ≤ x.bytes.length) (hmax : x.bytes.length ≤ s.maxFrame n)
    (hgood : frameGood x = true) (hdata : beAt (frameBody x) 12 2 ≠ 0x8808) :
    s.rxCheck n x = s.rxData n (frameBody x) (frameFcs x) x.bytes.length x := by
  rw [rxCheck_of_plain hfec, if_neg (Nat.not_lt.2 hmin), if_neg (Nat.not_lt.2 hmax), hgood, if_neg (by decide), if_neg hdata]

/-- A frame of a wrong length or with a bad FCS counts, and is gone. -/
theorem rxCheck_of_bad (hfec : s.laneFec n = 0)
    (h : x.bytes.length < 64 ∨ s.maxFrame n < x.bytes.length ∨ frameGood x = false) : s.rxCheck n x =
    s.tqCount n (if x.bytes.length < 64 then
        (if s.bit (tqB n) F.TQ_LANE_STAT.HALF && !frameGood x then Ctr.TQ.RX_COLL_FRAG else Ctr.TQ.RX_RUNT)
      else if s.maxFrame n < x.bytes.length then Ctr.TQ.RX_OVERSIZE else Ctr.TQ.RX_FCS_ERR) := by
  rw [rxCheck_of_plain hfec]
  by_cases hmin : x.bytes.length < 64
  · rw [if_pos hmin, if_pos hmin]
  · rw [if_neg hmin, if_neg hmin]
    by_cases hmax : s.maxFrame n < x.bytes.length
    · rw [if_pos hmax, if_pos hmax]
    · rw [if_neg hmax, if_neg hmax, (h.resolve_left hmin).resolve_left hmax, if_pos Bool.not_false]

/-- A codeword that could not be corrected makes its frame a bad one. -/
theorem rxCheck_of_uncorr (hfec : s.laneFec n ≠ 0) (hx : x.uncorr ≠ 0) (hmin : 64 ≤ x.bytes.length)
    (hmax : x.bytes.length ≤ s.maxFrame n) : s.rxCheck n x = s.tqCount n Ctr.TQ.RX_FCS_ERR := by
  have hbad : ¬ (s.laneFec n = 0 ∨ x.uncorr = 0) := not_or.2 ⟨hfec, hx⟩
  rw [rxCheck_eq]
  dsimp only
  rw [decide_eq_false hbad, Bool.and_false, Bool.false_and, Bool.false_and, if_neg (Nat.not_lt.2 hmin),
    if_neg (Nat.not_lt.2 hmax), if_pos Bool.not_false]

end Sys2Proof.Machine
end

section
/-! Proof support: a good frame reaches its pipeline or is filtered (R173, R177, R180, R183). -/

namespace Sys2Proof.Machine

variable {s t y : State} {n : Port} {x : EthIn}

/-! ### A frame counts -/

/-- Bytes and frames have counted, and what counts performance events has seen them. -/
structure FrameCounted (n : Port) (a b len : Nat) (s y : State) : Prop where
  frame : y = { s with regs := y.regs, ctrs := y.ctrs, evt := y.evt, sampN := y.sampN }
  ctrs : y.ctrs = ((s.tqCount n a).tqCount n b len).ctrs
  regs : RegsBut pmcRegs s y

theorem frameCounted_pmc (a b len ev k : Nat) :
    FrameCounted n a b len s (((s.tqCount n a).tqCount n b len).pmc ev k len) := by
  obtain ⟨z, hz⟩ : ∃ z, z = (s.tqCount n a).tqCount n b len := ⟨_, rfl⟩
  obtain ⟨c, hc⟩ : ∃ c, z = { s with ctrs := c } := ⟨_, hz.trans (tqCounts_eq ..)⟩
  have h : PmcKeeps z (z.pmc ev k len) := pmcKeeps_pmc ..
  rw [← hz]
  have hctrs : (z.pmc ev k len).ctrs = z.ctrs := by rw [h.frame]
  refine ⟨?_, hz ▸ hctrs, fun a ha => (h.regs a ha).trans (reg_of_regs (by rw [hc]) a)⟩
  obtain ⟨r, e, p, hp⟩ : ∃ r e p, z.pmc ev k len = { z with regs := r, evt := e, sampN := p } := ⟨_, _, _, h.frame⟩
  rw [hp, hc]

/-- A port's page is none of what counts performance events. -/
theorem page_of_pmcRegs (h : RegsBut pmcRegs s t) : PageLike n [] s t :=
  pageLike_of_regsBut h fun o ho _ hmem => by
    have hpmc : pmcB ≤ tqB n + o := pmcB_le_of_mem hmem
    have hlt : tqB n + o < window 0x1C := tqB_add_lt n ho
    have hw : window 0x1C < pmcB := by decide
    omega

theorem aon_not_pmcRegs {o : Nat} (ho : o < 0x1000) : aonB + o ∉ pmcRegs := fun hmem => by
  have hpmc : pmcB ≤ aonB + o := pmcB_le_of_mem hmem
  have hw : aonB + 0x1000 < pmcB := by decide
  omega

theorem FrameCounted.accepts {a b len : Nat} (h : FrameCounted n a b len s y) (id : Nat) : y.accepts id = s.accepts id := by
  have hlive : y.live id = s.live id := by
    unfold State.live
    rw [h.regs _ (aon_not_pmcRegs (by split <;> decide))]
  have hdrain : y.draining = s.draining := by rw [h.frame]
  rw [State.accepts, State.accepts, hlive, hdrain]

/-! ### On to the pipeline -/

/-- A received frame as a packet, with its carried sum where the port keeps one. -/
def State.rxPacket (s : State) (n : Nat) (bs : List Byte) : Packet :=
  if s.bit (tqB n) F.TQ_CSUM_CFG.RX_EN then
    ({ Packet.new n bs s.now with rxStamp := none }).setW W.CSUM (ocRange bs 12 12 bs.length)
  else { Packet.new n bs s.now with rxStamp := none }

/-- A packet enters its port's ingress FIFO. -/
def State.wired (s : State) (n : Nat) (p : Packet) : State :=
  s.setPipe (pipeOf n)
    { s.pipe (pipeOf n) with wire := SMap.set (fun _ => []) (s.pipe (pipeOf n)).wire n (s.rxFifo n ++ [p]) }

theorem rxStampOf_of_off {bs : List Byte} {st : StampIn} (h : s.bit (tqB n) F.TQ_PTP_CFG.RX_EN = false) :
    s.rxStampOf n bs st = (s, none) := if_pos (.inl h)

theorem toPipe_of_plain {bs : List Byte} {st : StampIn} (hpipe : s.accepts (0x20 + pipeOf n) = true)
    (hstamp : s.bit (tqB n) F.TQ_PTP_CFG.RX_EN = false) : s.toPipe n bs st = s.wired n (s.rxPacket n bs) := by
  unfold State.toPipe
  dsimp only
  rw [hpipe, if_neg (by decide), rxStampOf_of_off hstamp]
  rfl

theorem secRx_of_off {bs : List Byte} {m : Bool} (h : s.bit (tqB n) F.TQ_SEC_CFG.EN = false) :
    s.secRx n bs m = (s, some bs) := if_pos h

/-- The counts of a good frame. -/
def State.rxCounted (s : State) (n len : Nat) : State :=
  ((s.tqCount n Ctr.TQ.RX_FRAMES).tqCount n Ctr.TQ.RX_BYTES len).pmc 0x070 n len

theorem frameCounted_rxCounted (len : Nat) : FrameCounted n Ctr.TQ.RX_FRAMES Ctr.TQ.RX_BYTES len s (s.rxCounted n len) :=
  frameCounted_pmc ..

theorem rxData_eq (bs fcs : List Byte) (len : Nat) : s.rxData n bs fcs len x =
    ((s.rxCounted n len).secRx n bs x.mismatch).1.rxSecured n ((s.rxCounted n len).secRx n bs x.mismatch).2 fcs x.st := rfl

theorem rxData_of_plain (bs fcs : List Byte) (len : Nat) (hsec : s.bit (tqB n) F.TQ_SEC_CFG.EN = false) :
    s.rxData n bs fcs len x = (s.rxCounted n len).rxPassed n bs fcs x.st := by
  have hpage : PageLike n [] s (s.rxCounted n len) := page_of_pmcRegs (frameCounted_rxCounted len).regs
  have hoff : (s.rxCounted n len).bit (tqB n) F.TQ_SEC_CFG.EN = false :=
    (hpage.bit (by decide) List.not_mem_nil).trans hsec
  rw [rxData_eq, secRx_of_off hoff]
  rfl

theorem rxPassed_of_unicast {bs fcs : List Byte} {st : StampIn} (hfilt : s.bit (tqB n) F.TQ_PORT_CFG.FILT_MODE = false)
    (h : beAt bs 0 1 % 2 = 0) : s.rxPassed n bs fcs st = s.toPipe n bs st := by
  unfold State.rxPassed
  rw [hfilt, if_neg Bool.false_ne_true, if_neg fun hgroup => by omega]

theorem rxPassed_of_hashed {bs fcs : List Byte} {st : StampIn} (hfilt : s.bit (tqB n) F.TQ_PORT_CFG.FILT_MODE = false)
    (h : beAt bs 0 1 % 2 = 1) (hdrop : s.hashDrops n bs = true) :
    s.rxPassed n bs fcs st = s.tqCount n Ctr.TQ.RX_FILTERED := by
  unfold State.rxPassed
  rw [hfilt, if_neg Bool.false_ne_true, if_pos ⟨h, hdrop⟩]

/-- The address's bin in the group hash. -/
def hashBin (bs : List Byte) : Nat := crc32 (bytesAt bs 0 6) / 2 ^ 24 % 256

theorem hashDrops_of_clear {bs : List Byte} (hcast : beAt bs 0 6 ≠ 2 ^ 48 - 1)
    (hbin : (s.fld (tqB n) (F.TQ_FILT_HASH.BINS.at (4 * (hashBin bs / 32)))).testBit (hashBin bs % 32) = false) :
    s.hashDrops n bs = true := by
  unfold State.hashDrops
  dsimp only
  rw [decide_eq_false hcast, Bool.and_false, Bool.not_false, Bool.true_and, Bool.not_eq_true']
  exact hbin

/-! ### The two ends of a good frame -/

/-- The frame stands in its ingress FIFO. -/
structure FrameWired (n : Port) (x : EthIn) (s t : State) : Prop where
  pipes : t.pipes = (s.wired n (s.rxPacket n (frameBody x))).pipes
  ctrs : t.ctrs = ((s.tqCount n Ctr.TQ.RX_FRAMES).tqCount n Ctr.TQ.RX_BYTES x.bytes.length).ctrs
  frame : t = { s with pipes := t.pipes, ctrs := t.ctrs, evt := t.evt, sampN := t.sampN, regs := t.regs }
  regs : RegsBut pmcRegs s t

theorem frameWired_of_counted {a b len : Nat} (h : FrameCounted n a b len s y) (bs : List Byte) :
    (y.wired n (y.rxPacket n bs)).pipes = (s.wired n (s.rxPacket n bs)).pipes := by
  have hcsum : y.bit (tqB n) F.TQ_CSUM_CFG.RX_EN = s.bit (tqB n) F.TQ_CSUM_CFG.RX_EN :=
    (page_of_pmcRegs h.regs).bit (by decide) List.not_mem_nil
  have hnow : y.now = s.now := by rw [h.frame]
  have hpipes : y.pipes = s.pipes := by rw [h.frame]
  have hpacket : y.rxPacket n bs = s.rxPacket n bs := by
    unfold State.rxPacket
    rw [hcsum, hnow]
  rw [hpacket]
  unfold State.wired State.setPipe State.rxFifo State.pipe
  rw [hpipes]

theorem frameWired_rxData (hsec : s.bit (tqB n) F.TQ_SEC_CFG.EN = false)
    (hfilt : s.bit (tqB n) F.TQ_PORT_CFG.FILT_MODE = false) (huni : beAt (frameBody x) 0 1 % 2 = 0)
    (hstamp : s.bit (tqB n) F.TQ_PTP_CFG.RX_EN = false) (hpipe : s.accepts (0x20 + pipeOf n) = true) :
    FrameWired n x s (s.rxData n (frameBody x) (frameFcs x) x.bytes.length x) := by
  rw [rxData_of_plain _ _ _ hsec]
  obtain ⟨y, hy⟩ : ∃ y, y = s.rxCounted n x.bytes.length := ⟨_, rfl⟩
  have h : FrameCounted n Ctr.TQ.RX_FRAMES Ctr.TQ.RX_BYTES x.bytes.length s y := hy ▸ frameCounted_rxCounted _
  have hpage : PageLike n [] s y := page_of_pmcRegs h.regs
  rw [← hy, rxPassed_of_unicast ((hpage.bit (by decide) List.not_mem_nil).trans hfilt) huni,
    toPipe_of_plain ((h.accepts _).trans hpipe) ((hpage.bit (by decide) List.not_mem_nil).trans hstamp)]
  refine ⟨frameWired_of_counted h _, h.ctrs, ?_, h.regs⟩
  obtain ⟨r, c, e, k, hyf⟩ : ∃ r c e k, y = { s with regs := r, ctrs := c, evt := e, sampN := k } := ⟨_, _, _, _, h.frame⟩
  obtain ⟨p, hp⟩ : ∃ p, y.wired n (y.rxPacket n (frameBody x)) = { y with pipes := p } := ⟨_, rfl⟩
  rw [hp, hyf]

/-- The frame is filtered out. -/
structure FrameFiltered (n : Port) (x : EthIn) (s t : State) : Prop where
  ctrs : t.ctrs = (((s.tqCount n Ctr.TQ.RX_FRAMES).tqCount n Ctr.TQ.RX_BYTES x.bytes.length).tqCount n
    Ctr.TQ.RX_FILTERED).ctrs
  frame : t = { s with ctrs := t.ctrs, evt := t.evt, sampN := t.sampN, regs := t.regs }
  regs : RegsBut pmcRegs s t

theorem frameFiltered_rxData (hsec : s.bit (tqB n) F.TQ_SEC_CFG.EN = false)
    (hfilt : s.bit (tqB n) F.TQ_PORT_CFG.FILT_MODE = false) (hgroup : beAt (frameBody x) 0 1 % 2 = 1)
    (hcast : beAt (frameBody x) 0 6 ≠ 2 ^ 48 - 1)
    (hbin : (s.fld (tqB n) (F.TQ_FILT_HASH.BINS.at (4 * (hashBin (frameBody x) / 32)))).testBit
      (hashBin (frameBody x) % 32) = false) :
    FrameFiltered n x s (s.rxData n (frameBody x) (frameFcs x) x.bytes.length x) := by
  rw [rxData_of_plain _ _ _ hsec]
  obtain ⟨y, hy⟩ : ∃ y, y = s.rxCounted n x.bytes.length := ⟨_, rfl⟩
  have h : FrameCounted n Ctr.TQ.RX_FRAMES Ctr.TQ.RX_BYTES x.bytes.length s y := hy ▸ frameCounted_rxCounted _
  have hpage : PageLike n [] s y := page_of_pmcRegs h.regs
  have hoff : (F.TQ_FILT_HASH.BINS.at (4 * (hashBin (frameBody x) / 32))).off < 0x1000 := by
    have hlt : hashBin (frameBody x) < 256 := Nat.mod_lt _ (by decide)
    have hbins : (F.TQ_FILT_HASH.BINS.at (4 * (hashBin (frameBody x) / 32))).off =
      F.TQ_FILT_HASH.BINS.off + 4 * (hashBin (frameBody x) / 32) := rfl
    have hbase : F.TQ_FILT_HASH.BINS.off < 0xF00 := by decide
    omega
  have hdrop : y.hashDrops n (frameBody x) = true := hashDrops_of_clear hcast (by
    rw [show y.fld (tqB n) _ = s.fld (tqB n) _ from hpage.tqF hoff List.not_mem_nil]
    exact hbin)
  obtain ⟨r, c, e, k, hyf⟩ : ∃ r c e k, y = { s with regs := r, ctrs := c, evt := e, sampN := k } := ⟨_, _, _, _, h.frame⟩
  rw [← hy, rxPassed_of_hashed ((hpage.bit (by decide) List.not_mem_nil).trans hfilt) hgroup hdrop]
  refine ⟨?_, ?_, fun a ha => (reg_of_regs (tqCount_regs ..) a).trans (h.regs a ha)⟩
  · obtain ⟨z, hz⟩ : ∃ z, z = (s.tqCount n Ctr.TQ.RX_FRAMES).tqCount n Ctr.TQ.RX_BYTES x.bytes.length := ⟨_, rfl⟩
    obtain ⟨c', hc'⟩ : ∃ c', z = { s with ctrs := c' } := ⟨_, hz.trans (tqCounts_eq ..)⟩
    rw [← hz]
    exact tqCount_ctrs_congr (h.ctrs.trans (by rw [hz])) (by rw [hyf, hc']) (by rw [hyf, hc']) _
  · obtain ⟨c', hc'⟩ : ∃ c', y.tqCount n Ctr.TQ.RX_FILTERED = { y with ctrs := c' } := ⟨_, tqCount_eq ..⟩
    rw [hc', hyf]

/-! ### The FIFO is full (R35) -/

/-- A frame the FIFO cannot take counts, and RATE_SHORT shows it. -/
structure FrameOverrun (n : Port) (s t : State) : Prop where
  ctrs : t.ctrs = (s.tqCount n Ctr.TQ.RX_OVERRUN).ctrs
  short : t.bit (kB (pipeOf n)) F.KP_ARB_STAT.RATE_SHORT = true
  frame : t = { s with ctrs := t.ctrs, evt := t.evt, regs := t.regs }
  regs : RegsBut [kB (pipeOf n) + 0x44] s t

theorem frameOverrun_rateShort : FrameOverrun n s ((s.tqCount n Ctr.TQ.RX_OVERRUN).rateShort n) := by
  obtain ⟨y, hy⟩ : ∃ y, y = s.tqCount n Ctr.TQ.RX_OVERRUN := ⟨_, rfl⟩
  obtain ⟨c, hc⟩ : ∃ c, y = { s with ctrs := c } := ⟨_, hy.trans (tqCount_eq ..)⟩
  have hyregs : y.regs = s.regs := by rw [hc]
  obtain ⟨z, hz⟩ : ∃ z, z = y.setF (kB (pipeOf n)) F.KP_ARB_STAT.RATE_SHORT 1 := ⟨_, rfl⟩
  obtain ⟨r, hr⟩ : ∃ r, z = { y with regs := r } := ⟨_, hz.trans (setF_frame ..)⟩
  obtain ⟨t, ht⟩ : ∃ t, t = (s.tqCount n Ctr.TQ.RX_OVERRUN).rateShort n := ⟨_, rfl⟩
  obtain ⟨e, he⟩ : ∃ e, t = { z with evt := e } :=
    ⟨_, (ht.trans (by rw [State.rateShort, ← hy, ← hz])).trans (raiseMs_eq ..)⟩
  have hregs : t.regs = z.regs := by rw [he]
  have hset : y.setBit (kB (pipeOf n)) F.KP_ARB_STAT.RATE_SHORT true = z := by rw [hz, State.setBit, if_pos rfl]
  have hshort : z.bit (kB (pipeOf n)) F.KP_ARB_STAT.RATE_SHORT = true := hset ▸ bit_setBit_same y _ _ true (by decide)
  have hctrs : t.ctrs = y.ctrs := by rw [he, hr]
  rw [← ht]
  refine ⟨?_, (bit_congr (reg_of_regs hregs _)).trans hshort, ?_, fun a ha => ?_⟩
  · rw [hctrs, hy]
  · rw [he, hr, hc]
  · rw [reg_of_regs hregs, hz, reg_setF_other y _ fun e => ha (List.mem_singleton.2 e), reg_of_regs hyregs]

end Sys2Proof.Machine
end

section
/-! Proof support: a frame in the MAC is transmitted (R173, R175, R176, R184, R332, R334). -/

namespace Sys2Proof.Machine

variable {s t x y : State} {n : Port} {p : Packet} {k : PtpMsg} {bs : List Byte}

/-! ### What a transmission reads of the ports -/

/-- Every port's page reads the same. -/
def PagesLike (s t : State) : Prop := ∀ m : Port, PageLike m [] s t

theorem PagesLike.trans {u : State} (h : PagesLike s t) (k : PagesLike t u) : PagesLike s u := fun m => (h m).trans (k m)

theorem pagesLike_of_regs (h : t.regs = s.regs) : PagesLike s t := fun _ => pageLike_of_regs h

theorem Waited.pages (h : Waited s t) : PagesLike s t := fun m => h.page m

theorem PagesLike.bit (h : PagesLike s t) (n : Port) {f : Fld} (hf : f.off < 0x1000) : t.bit (tqB n) f = s.bit (tqB n) f :=
  (h n).bit hf List.not_mem_nil

theorem PagesLike.hasSum (h : PagesLike s t) (src : Nat) : t.hasSum src = s.hasSum src := by
  unfold State.hasSum
  by_cases hlt : src < 48
  · rw [show t.bit (tqB src) F.TQ_CSUM_CFG.RX_EN = s.bit (tqB src) F.TQ_CSUM_CFG.RX_EN from h.bit ⟨src, hlt⟩ (by decide)]
  · rw [decide_eq_false hlt, Bool.false_and, Bool.false_and]

theorem PagesLike.txCsum (h : PagesLike s t) (p : Packet) : t.txCsum n p = s.txCsum n p := by
  have hsum : t.hasSum = s.hasSum := funext h.hasSum
  unfold State.txCsum
  rw [h.bit n (by decide), hsum]

theorem PagesLike.ptpMsg (h : PagesLike s t) (bs : List Byte) : t.ptpMsg n bs = s.ptpMsg n bs := by
  unfold State.ptpMsg
  dsimp only
  rw [h.bit n (by decide), h.bit n (by decide), h.bit n (by decide)]

theorem PagesLike.maxFrame (h : PagesLike s t) : t.maxFrame n = s.maxFrame n := by
  unfold State.maxFrame
  rw [(h n).tqF (by decide) List.not_mem_nil]

theorem PagesLike.portRate (h : PagesLike s t) : t.portRate n = s.portRate n :=
  (h n).portRate fun _ _ => List.not_mem_nil

theorem PagesLike.oneStepFor (h : PagesLike s t) (p : Packet) (k : PtpMsg) : t.oneStepFor n p k = s.oneStepFor n p k := by
  unfold State.oneStepFor
  rw [h.bit n (by decide)]

theorem PagesLike.portLat (h : PagesLike s t) (tx : Bool) : t.portLat n tx = s.portLat n tx := by
  have hsfld : ∀ f : Fld, f.off < 0x1000 → t.sfld (tqB n) f = s.sfld (tqB n) f := fun f hf => by
    unfold State.sfld
    rw [show t.fld (tqB n) f = s.fld (tqB n) f from (h n).tqF hf List.not_mem_nil]
  unfold State.portLat
  rw [hsfld _ (by decide), hsfld _ (by decide), hsfld _ (by decide), hsfld _ (by decide)]

/-! ### Checksum insertion keeps what the packet is -/

theorem putIp_tsReq (p : Packet) (ip : Nat × Nat) : (p.putIp ip).tsReq = p.tsReq := rfl

theorem putL4_tsReq (p : Packet) (ip l4 : Nat × Nat) : (p.putL4 ip l4).tsReq = p.tsReq := rfl

theorem txCsum_tsReq (p : Packet) : (s.txCsum n p).tsReq = p.tsReq := by
  unfold State.txCsum
  split
  · rfl
  · split
    · rfl
    · next ip hip =>
      have hput : ∀ q : Packet, (if q.wb W.IP_INS && decide (ip.2 = 0x03) then q.putIp ip else q).tsReq = q.tsReq :=
        fun q => by
          split
          · exact putIp_tsReq ..
          · rfl
      dsimp only
      rw [hput]
      split
      · rfl
      · split
        · exact putL4_tsReq ..
        · rfl

/-! ### The MAC sends (R175, R176) -/

theorem length_withFcs (bs : List Byte) : (withFcs bs).length = max 60 bs.length + 4 := by
  have hfcs : ∀ v, (leBytes 4 v).length = 4 := fun v => by simp [leBytes]
  unfold withFcs
  dsimp only
  rw [List.length_append, hfcs, List.length_append, List.length_replicate]
  omega

/-- Ticks for which a frame of a body's length and its gap take the line. -/
def State.gapTicks (s : State) (n len : Nat) : Nat :=
  ceilDiv (((max 60 len + 4) + 12) * 8 * usTicks) (max 1 (s.portRate n))

/-- A frame has left the MAC. -/
structure FrameSent (n : Port) (bs : List Byte) (s t : State) : Prop where
  out : t.out = s.out ++ [.frame n (withFcs bs)]
  tq : t.tq = SMap.set (fun _ => TqPort.empty) s.tq n { s.port n with busy := s.now + s.gapTicks n bs.length }
  ctrs : t.ctrs = ((s.tqCount n Ctr.TQ.TX_FRAMES).tqCount n Ctr.TQ.TX_BYTES (max 60 bs.length + 4)).ctrs
  frame : t = { s with tq := t.tq, ctrs := t.ctrs, evt := t.evt, sampN := t.sampN, out := t.out, regs := t.regs }
  regs : RegsBut pmcRegs s t

/-- The counts of a frame that is sent. -/
def State.txCounted (s : State) (n len : Nat) : State :=
  ((s.tqCount n Ctr.TQ.TX_FRAMES).tqCount n Ctr.TQ.TX_BYTES len).pmc 0x071 n len

/-- The line is taken for a frame and its gap. -/
def State.lineTaken (s : State) (n len : Nat) : State := s.setPort n { s.port n with busy := s.now + s.gapTicks n len }

theorem lineTaken_tq (len : Nat) : (s.lineTaken n len).tq =
    SMap.set (fun _ => TqPort.empty) s.tq n { s.port n with busy := s.now + s.gapTicks n len } := rfl

theorem macSend_of_fit {stamp : State → State} (hmax : max 60 bs.length + 4 ≤ s.maxFrame n) : s.macSend n bs stamp =
    (stamp ((s.txCounted n (max 60 bs.length + 4)).lineTaken n bs.length)).emit (.frame n (withFcs bs)) := by
  refine (if_neg (Nat.not_lt.2 hmax)).trans ?_
  dsimp only
  rw [length_withFcs]
  rfl

theorem macSend_of_oversize {stamp : State → State} (hmax : s.maxFrame n < max 60 bs.length + 4) :
    s.macSend n bs stamp = s.tqCount n Ctr.TQ.TX_OVERSIZE := if_pos hmax

theorem frameSent_macSend {stamp : State → State} (hmax : max 60 bs.length + 4 ≤ s.maxFrame n)
    (hstamp : ∀ z, PagesLike s z → stamp z = z) : FrameSent n bs s (s.macSend n bs stamp) := by
  obtain ⟨y, hy⟩ : ∃ y, y = s.txCounted n (max 60 bs.length + 4) := ⟨_, rfl⟩
  have h : FrameCounted n Ctr.TQ.TX_FRAMES Ctr.TQ.TX_BYTES (max 60 bs.length + 4) s y := hy ▸ frameCounted_pmc ..
  have hpage : ∀ m : Port, PageLike m [] s y := fun m => page_of_pmcRegs h.regs
  have hline : (y.lineTaken n bs.length).regs = y.regs := rfl
  rw [macSend_of_fit hmax, ← hy, hstamp _ (PagesLike.trans hpage (pagesLike_of_regs hline))]
  have hport : y.port n = s.port n := port_of_tq (by rw [h.frame]) n
  have hgap : y.gapTicks n bs.length = s.gapTicks n bs.length := by
    unfold State.gapTicks
    rw [PagesLike.portRate hpage]
  have hnow : y.now = s.now := by rw [h.frame]
  have htq : y.tq = s.tq := by rw [h.frame]
  have htaken : (y.lineTaken n bs.length).tq =
      SMap.set (fun _ => TqPort.empty) s.tq n { s.port n with busy := s.now + s.gapTicks n bs.length } := by
    rw [lineTaken_tq, hport, hgap, hnow, htq]
  have hout : y.out = s.out := by rw [h.frame]
  refine ⟨congrArg (· ++ [Output.frame n (withFcs bs)]) hout, htaken, h.ctrs, ?_, h.regs⟩
  obtain ⟨r, c, e, k, hyf⟩ : ∃ r c e k, y = { s with regs := r, ctrs := c, evt := e, sampN := k } := ⟨_, _, _, _, h.frame⟩
  rw [hyf]
  rfl

end Sys2Proof.Machine
end

section
/-! Proof support: the launch of a frame (R334) and the end of a transmission. -/

namespace Sys2Proof.Machine

variable {s t x y : State} {n : Port} {p : Packet} {k : PtpMsg} {bs : List Byte} {st : StampIn} {late : Bool}

/-! ### The frame is taken out of the MAC -/

/-- The MAC hands its frame on. -/
def State.macTaken (s : State) (n : Nat) : State := s.setPort n { s.port n with mac := none, tries := 0 }

/-- A frame's way from the MAC. -/
def State.txAttempt (s : State) (n : Nat) (p : Packet) (st : StampIn) (late : Bool) : State :=
  (if (s.macTaken n).portState n = 0 ∧ (s.macTaken n).linkUp n = false then (s.macTaken n).tqCount n Ctr.TQ.TX_LINK_DOWN
    else (s.macTaken n).transmit n p st late).macDone n

theorem countDefer_of_full {deferred : Bool} (h : s.halfDuplex n = false) : s.countDefer n deferred = s := by
  unfold State.countDefer
  rw [h, Bool.and_false, if_neg Bool.false_ne_true]

theorem toLaunch_of_none (h : (s.port n).launch = none) : s.toLaunch n st = (s, st) := by
  unfold State.toLaunch
  rw [h]

theorem toLaunch_of_some {l : Nat} (h : (s.port n).launch = some l) :
    s.toLaunch n st = (s.elapseTo l, { st with ne := max st.ne (s.elapseTo l).tim.rawN }) := by
  unfold State.toLaunch
  rw [h]

/-- TX_FRAME on a live quad. -/
def State.txFramed (s : State) (n : Nat) (st : StampIn) (late deferred : Bool) : State :=
  match (if s.timerOn (Tm.backoff n) then none else (s.port n).mac) with
  | none => s
  | some p =>
    ((s.countDefer n deferred).toLaunch n st).1.txAttempt n p ((s.countDefer n deferred).toLaunch n st).2 late

theorem exec_txFrame_eq {deferred : Bool} :
    exec (.txFrame n st late deferred) s = .next (s.onLive (quadId n) fun s => s.txFramed n st late deferred) := rfl

theorem exec_txFrame {deferred : Bool} (hlive : s.live (quadId n) = true) (hmac : (s.port n).mac = some p)
    (hoff : s.timerOn (Tm.backoff n) = false) (hfull : s.halfDuplex n = false) :
    exec (.txFrame n st late deferred) s =
      .next ((s.toLaunch n st).1.txAttempt n p (s.toLaunch n st).2 late) := by
  rw [exec_txFrame_eq, onLive_of_live hlive, State.txFramed, hoff, if_neg Bool.false_ne_true, hmac, countDefer_of_full hfull]

theorem macTaken_frame : s.macTaken n = { s with tq := (s.macTaken n).tq } := rfl

theorem macTaken_regs : (s.macTaken n).regs = s.regs := rfl

theorem macTaken_tq : (s.macTaken n).tq =
    SMap.set (fun _ => TqPort.empty) s.tq n { s.port n with mac := none, tries := 0 } := rfl

theorem port_macTaken : (s.macTaken n).port n = { s.port n with mac := none, tries := 0 } := port_setPort_same ..

theorem pages_macTaken (n : Port) : PagesLike s (s.macTaken n) := pagesLike_of_regs macTaken_regs

theorem linkUp_macTaken : (s.macTaken n).linkUp n = s.linkUp n := (pages_macTaken n n).linkUp List.not_mem_nil

theorem portState_macTaken : (s.macTaken n).portState n = s.portState n := (pages_macTaken n n).portState List.not_mem_nil

theorem txAttempt_of_down (hin : s.portState n = 0) (hlink : s.linkUp n = false) :
    s.txAttempt n p st late = ((s.macTaken n).tqCount n Ctr.TQ.TX_LINK_DOWN).macDone n := by
  rw [State.txAttempt, if_pos ⟨portState_macTaken.trans hin, linkUp_macTaken.trans hlink⟩]

theorem txAttempt_of_up (hlink : s.linkUp n = true) :
    s.txAttempt n p st late = ((s.macTaken n).transmit n p st late).macDone n := by
  rw [State.txAttempt, if_neg fun h => Bool.false_ne_true (h.2.symm.trans (linkUp_macTaken.trans hlink))]

theorem macDone_of_none (h : (s.port n).launch = none) : s.macDone n = s := by
  unfold State.macDone
  rw [h]
  rfl

/-- The launch is over. -/
def State.launchDone (s : State) (n : Nat) : State := s.setPort n { s.port n with launch := none }

theorem macDone_of_launch (hlaunch : (s.port n).launch.isSome = true) (hxoff : s.xoffWant n = (s.port n).sent) :
    s.macDone n = s.launchDone n := by
  have hpage : PageLike n [] s (s.launchDone n) := pageLike_of_regs rfl
  have hwant : (s.launchDone n).xoffWant n = s.xoffWant n := hpage.xoffWant List.not_mem_nil rfl
  have hport : (s.launchDone n).port n = { s.port n with launch := none } := port_setPort_same ..
  have hsent : ((s.launchDone n).port n).sent = (s.port n).sent := by rw [hport]
  unfold State.macDone
  rw [if_pos hlaunch]
  exact signalXoff_of_same (hwant.trans (hxoff.trans hsent.symm))

/-! ### The SecY and the launch unit -/

theorem secTx_of_off (h : s.bit (tqB n) F.TQ_SEC_CFG.EN = false ∨ s.bit (tqB n) F.TQ_SEC_CFG.PROTECT = false) :
    s.secTx n bs = (s, some bs) := if_pos (h.imp_right Or.inl)

theorem PagesLike.secOff (hpage : PagesLike s t)
    (h : s.bit (tqB n) F.TQ_SEC_CFG.EN = false ∨ s.bit (tqB n) F.TQ_SEC_CFG.PROTECT = false) :
    t.bit (tqB n) F.TQ_SEC_CFG.EN = false ∨ t.bit (tqB n) F.TQ_SEC_CFG.PROTECT = false := by
  rw [hpage.bit n (by decide), hpage.bit n (by decide)]
  exact h

theorem launch_of_other {v : Nat} (h : s.ptpMsg n p.bytes = none) :
    s.launch n p v = { bytes := p.bytes, oneStep := false, tc := false, skip := false } := by
  unfold State.launch
  dsimp only
  rw [h]

/-- The bytes of a message completed one-step for a launch time. -/
def oneStepBytes (bs : List Byte) (k : PtpMsg) (v : Nat) : List Byte :=
  ptpUdpFix bs (ptpCorrect (putBytes bs (k.at_ + 34) (beBytes 6 (timeSec v) ++ beBytes 4 (timeNs v))) k (timeFrac v)) k

theorem launch_of_oneStep {v : Nat} (hmsg : s.ptpMsg n p.bytes = some k) (hone : s.oneStepFor n p k = true) :
    s.launch n p v = { bytes := oneStepBytes p.bytes k v, oneStep := true, tc := false, skip := false } := by
  unfold State.launch
  dsimp only
  rw [hmsg]
  exact if_pos hone

theorem oneStepFor_of (hsrc : 64 ≤ p.src) (htype : ptpType p.bytes k = 0) (htwo : ptpTwoStep p.bytes k = false)
    (hone : s.bit (tqB n) F.TQ_PTP_CFG.ONE_STEP = true) : s.oneStepFor n p k = true := by
  unfold State.oneStepFor
  rw [hone, htwo, decide_eq_true hsrc, decide_eq_true htype]
  rfl

/-- The launch instant of a frame. -/
def State.launchTime (s : State) (n : Nat) (st : StampIn) : Nat := s.stampTx (48 + n) st (s.portLat n true)

/-- A frame the SecY has passed goes on. -/
def ifPassed (r : State × Option (List Byte)) (f : State → List Byte → State) : State :=
  match r.2 with
  | none => r.1
  | some bs => f r.1 bs

theorem ifPassed_some (f : State → List Byte → State) : ifPassed (s, some bs) f = f s bs := rfl

/-- A transmission from the launch unit on. -/
def State.txLaunched (s : State) (n : Nat) (p : Packet) (l : Launch) (v : Nat) (late : Bool) : State :=
  if late = true ∧ (l.oneStep = true ∨ l.tc = true) then
    (s.tqCount n Ctr.TQ.ONE_STEP_LATE).tqRaise n Ev.TP_ONE_STEP_LATE [(1, n), (1, match s.ptpMsg n p.bytes with
      | some m => ptpType p.bytes m
      | none => 0)]
  else
    let s := if l.oneStep then s.tqCount n Ctr.TQ.TS_ONE_STEP else s
    let s := if l.tc then s.tqCount n Ctr.TQ.TC_UPD else s
    let s := if l.skip then s.tqCount n Ctr.TQ.TC_SKIP else s
    ifPassed (s.secTx n l.bytes) fun s bs => s.macSend n bs fun s => s.txStamp n p l v

theorem transmit_eq : s.transmit n p st late = s.txLaunched n (s.txCsum n p)
    (s.launch n (s.txCsum n p) (s.launchTime n st)) (s.launchTime n st) late := rfl

theorem transmit_of_other (hmsg : s.ptpMsg n (s.txCsum n p).bytes = none)
    (hsec : s.bit (tqB n) F.TQ_SEC_CFG.EN = false ∨ s.bit (tqB n) F.TQ_SEC_CFG.PROTECT = false) :
    s.transmit n p st late = s.macSend n (s.txCsum n p).bytes fun z => z.txStamp n (s.txCsum n p)
      { bytes := (s.txCsum n p).bytes, oneStep := false, tc := false, skip := false } (s.launchTime n st) := by
  have hnot : ¬ (late = true ∧ (false = true ∨ false = true)) := by simp
  rw [transmit_eq, launch_of_other hmsg, State.txLaunched]
  dsimp only
  rw [if_neg hnot, if_neg Bool.false_ne_true, if_neg Bool.false_ne_true, if_neg Bool.false_ne_true,
    secTx_of_off hsec, ifPassed_some]

theorem transmit_of_oneStep (hmsg : s.ptpMsg n (s.txCsum n p).bytes = some k) (hone : s.oneStepFor n (s.txCsum n p) k = true)
    (hsec : s.bit (tqB n) F.TQ_SEC_CFG.EN = false ∨ s.bit (tqB n) F.TQ_SEC_CFG.PROTECT = false) :
    s.transmit n p st false = (s.tqCount n Ctr.TQ.TS_ONE_STEP).macSend n
      (oneStepBytes (s.txCsum n p).bytes k (s.launchTime n st)) fun z => z.txStamp n (s.txCsum n p)
        { bytes := oneStepBytes (s.txCsum n p).bytes k (s.launchTime n st), oneStep := true, tc := false, skip := false }
        (s.launchTime n st) := by
  have hnot : ¬ (false = true ∧ (true = true ∨ false = true)) := by simp
  have hpage : PagesLike s (s.tqCount n Ctr.TQ.TS_ONE_STEP) := pagesLike_of_regs (tqCount_regs ..)
  rw [transmit_eq, launch_of_oneStep hmsg hone, State.txLaunched]
  dsimp only
  rw [if_neg hnot, if_pos rfl, if_neg Bool.false_ne_true, if_neg Bool.false_ne_true,
    secTx_of_off (hpage.secOff hsec), ifPassed_some]

theorem transmit_of_late (hmsg : s.ptpMsg n (s.txCsum n p).bytes = some k) (hone : s.oneStepFor n (s.txCsum n p) k = true)
    (htype : ptpType (s.txCsum n p).bytes k = 0) :
    s.transmit n p st true = (s.tqCount n Ctr.TQ.ONE_STEP_LATE).tqRaise n Ev.TP_ONE_STEP_LATE [(1, n), (1, 0)] := by
  rw [transmit_eq, launch_of_oneStep hmsg hone, State.txLaunched]
  dsimp only
  rw [if_pos ⟨rfl, Or.inl rfl⟩, hmsg]
  dsimp only
  rw [htype]

/-! ### No stamp is kept -/

theorem txStamp_of_off {l : Launch} {v : Nat} (h : s.bit (tqB n) F.TQ_PTP_CFG.TX_EN = false) : s.txStamp n p l v = s :=
  if_pos (.inl h)

theorem txStamp_of_unasked {l : Launch} {v : Nat} (hmsg : s.ptpMsg n l.bytes = none) (hreq : p.tsReq = false) :
    s.txStamp n p l v = s := by
  refine if_pos (.inr (.inl ?_))
  rw [hmsg, hreq]
  rfl

end Sys2Proof.Machine
end

section
/-! Proof support: what a transmission leaves (R173, R175, R334). -/

namespace Sys2Proof.Machine

variable {s t e x y z : State} {n : Port} {p : Packet} {k : PtpMsg} {bs : List Byte} {st : StampIn} {late : Bool}

theorem tqCounts_ctrs_congr (hctrs : t.ctrs = s.ctrs) (hcounting : t.counting = s.counting)
    (hmc : t.mcCounting = s.mcCounting) (a b k : Nat) :
    ((t.tqCount n a).tqCount n b k).ctrs = ((s.tqCount n a).tqCount n b k).ctrs := by
  have hkeep : ∀ z : State, (z.tqCount n a).counting = z.counting ∧ (z.tqCount n a).mcCounting = z.mcCounting := fun z =>
    ⟨count_counting .., count_mcCounting ..⟩
  exact count_ctrs_congr (tqCount_ctrs_congr hctrs hcounting hmc a) (((hkeep t).1.trans hcounting).trans (hkeep s).1.symm)
    (((hkeep t).2.trans hmc).trans (hkeep s).2.symm)

/-- The MAC's port once its frame has gone. -/
def State.emptied (s : State) (n : Nat) : TqPort := { s.port n with mac := none, tries := 0 }

/-- A frame taken out of the MAC has been sent. -/
structure TakenSent (n : Port) (bs : List Byte) (e t : State) : Prop where
  out : t.out = e.out ++ [.frame n (withFcs bs)]
  tq : t.tq = SMap.set (fun _ => TqPort.empty) (SMap.set (fun _ => TqPort.empty) e.tq n (e.emptied n)) n
    { e.emptied n with busy := e.now + e.gapTicks n bs.length }
  port : t.port n = { e.emptied n with busy := e.now + e.gapTicks n bs.length }
  frame : t = { e with tq := t.tq, ctrs := t.ctrs, evt := t.evt, sampN := t.sampN, out := t.out, regs := t.regs }
  regs : RegsBut pmcRegs e t

theorem FrameSent.ofTaken (h : FrameSent n bs y t) (hy : y = { e.macTaken n with ctrs := y.ctrs }) : TakenSent n bs e t := by
  obtain ⟨c, hc⟩ : ∃ c, y = { e.macTaken n with ctrs := c } := ⟨_, hy⟩
  have hregs : y.regs = e.regs := by rw [hc]; rfl
  have hport : y.port n = e.emptied n := (port_of_tq (by rw [hc]) n).trans port_macTaken
  have hnow : y.now = e.now := by rw [hc]; rfl
  have hout : y.out = e.out := by rw [hc]; rfl
  have htq : y.tq = SMap.set (fun _ => TqPort.empty) e.tq n (e.emptied n) := by rw [hc]; exact macTaken_tq
  have hgap : y.gapTicks n bs.length = e.gapTicks n bs.length := by
    unfold State.gapTicks
    rw [(pagesLike_of_regs hregs).portRate]
  have htaken := h.tq
  rw [hport, hnow, hgap, htq] at htaken
  refine ⟨by rw [h.out, hout], htaken, ?_, ?_, fun a ha => (h.regs a ha).trans (reg_of_regs hregs a)⟩
  · unfold State.port
    rw [htaken, smap_get_set_same]
  · obtain ⟨q, c', v, k, o, r, ht⟩ : ∃ q c' v k o r, t = { y with
      tq := q, ctrs := c', evt := v, sampN := k, out := o, regs := r } :=
      ⟨_, _, _, _, _, _, h.frame⟩
    rw [ht, hc, macTaken_frame]

/-- What the MAC reads of a port's page is as it was. -/
theorem TakenSent.pages (h : TakenSent n bs e t) : PagesLike e t := fun _ => page_of_pmcRegs h.regs

/-! ### A frame that is no event message -/

theorem txAttempt_of_other (hlaunch : (s.port n).launch = none) (hlink : s.linkUp n = true)
    (hmsg : s.ptpMsg n (s.txCsum n p).bytes = none) (hreq : p.tsReq = false)
    (hsec : s.bit (tqB n) F.TQ_SEC_CFG.EN = false ∨ s.bit (tqB n) F.TQ_SEC_CFG.PROTECT = false)
    (hmax : max 60 (s.txCsum n p).bytes.length + 4 ≤ s.maxFrame n) :
    TakenSent n (s.txCsum n p).bytes s (s.txAttempt n p st late) ∧ (s.txAttempt n p st late).ctrs =
      ((s.tqCount n Ctr.TQ.TX_FRAMES).tqCount n Ctr.TQ.TX_BYTES (max 60 (s.txCsum n p).bytes.length + 4)).ctrs := by
  obtain ⟨x, hx⟩ : ∃ x, x = s.macTaken n := ⟨_, rfl⟩
  have hpages : PagesLike s x := hx ▸ pages_macTaken n
  have hcsum : x.txCsum n p = s.txCsum n p := hpages.txCsum p
  have hmsg' : x.ptpMsg n (x.txCsum n p).bytes = none := by rw [hcsum, hpages.ptpMsg, hmsg]
  have hsent : FrameSent n (s.txCsum n p).bytes x (x.transmit n p st late) := by
    rw [transmit_of_other hmsg' (hpages.secOff hsec), hcsum]
    refine frameSent_macSend (by rw [hpages.maxFrame]; exact hmax) fun z hz => txStamp_of_unasked ?_ ?_
    · rw [hz.ptpMsg, hpages.ptpMsg, hmsg]
    · rw [txCsum_tsReq, hreq]
  have h : TakenSent n (s.txCsum n p).bytes s (x.transmit n p st late) := hsent.ofTaken (by rw [hx])
  have hdone : s.txAttempt n p st late = x.transmit n p st late := by
    rw [txAttempt_of_up hlink, ← hx, macDone_of_none]
    rw [h.port]
    exact hlaunch
  rw [hdone]
  refine ⟨h, hsent.ctrs.trans (tqCounts_ctrs_congr ?_ ?_ ?_ ..)⟩
  · rw [hx]; rfl
  · rw [hx]; rfl
  · rw [hx]; rfl

/-- A frame that is gone without being sent, and counts. -/
structure TakenCounted (n : Port) (c : Nat) (s t : State) : Prop where
  tq : t.tq = SMap.set (fun _ => TqPort.empty) s.tq n (s.emptied n)
  ctrs : t.ctrs = (s.tqCount n c).ctrs
  frame : t = { s with tq := t.tq, ctrs := t.ctrs }

theorem tqCount_macTaken (c : Nat) : ((s.macTaken n).tqCount n c).ctrs = (s.tqCount n c).ctrs :=
  tqCount_ctrs_congr (s := s) (t := s.macTaken n) rfl rfl rfl c

theorem takenCounted_macTaken (c : Nat) : TakenCounted n c s ((s.macTaken n).tqCount n c) := by
  obtain ⟨d, hd⟩ : ∃ d, (s.macTaken n).tqCount n c = { s.macTaken n with ctrs := d } := ⟨_, tqCount_eq ..⟩
  refine ⟨?_, tqCount_macTaken c, ?_⟩
  · rw [hd]
    exact macTaken_tq
  · rw [hd, macTaken_frame]

theorem TakenCounted.port {c : Nat} (h : TakenCounted n c s t) : t.port n = s.emptied n := by
  unfold State.port
  rw [h.tq, smap_get_set_same]

theorem TakenCounted.done {c : Nat} (h : TakenCounted n c s t) (hlaunch : (s.port n).launch = none) : t.macDone n = t :=
  macDone_of_none (by rw [h.port]; exact hlaunch)

theorem takenCounted_down (hlaunch : (s.port n).launch = none) (hin : s.portState n = 0) (hlink : s.linkUp n = false) :
    TakenCounted n Ctr.TQ.TX_LINK_DOWN s (s.txAttempt n p st late) := by
  have h : TakenCounted n Ctr.TQ.TX_LINK_DOWN s _ := takenCounted_macTaken _
  rw [txAttempt_of_down hin hlink, h.done hlaunch]
  exact h

theorem takenCounted_oversize (hlaunch : (s.port n).launch = none) (hlink : s.linkUp n = true)
    (hmsg : s.ptpMsg n (s.txCsum n p).bytes = none)
    (hsec : s.bit (tqB n) F.TQ_SEC_CFG.EN = false ∨ s.bit (tqB n) F.TQ_SEC_CFG.PROTECT = false)
    (hmax : s.maxFrame n < max 60 (s.txCsum n p).bytes.length + 4) :
    TakenCounted n Ctr.TQ.TX_OVERSIZE s (s.txAttempt n p st late) := by
  have hpages : PagesLike s (s.macTaken n) := pages_macTaken n
  have hcsum : (s.macTaken n).txCsum n p = s.txCsum n p := hpages.txCsum p
  have hmsg' : (s.macTaken n).ptpMsg n ((s.macTaken n).txCsum n p).bytes = none := by rw [hcsum, hpages.ptpMsg, hmsg]
  have h : TakenCounted n Ctr.TQ.TX_OVERSIZE s _ := takenCounted_macTaken _
  rw [txAttempt_of_up hlink, transmit_of_other hmsg' (hpages.secOff hsec), hcsum,
    macSend_of_oversize (by rw [hpages.maxFrame]; exact hmax), h.done hlaunch]
  exact h

/-! ### A frame with a launch time -/

theorem launchTime_of_waited (hw : Waited s e) : (e.macTaken n).launchTime n st = e.stampTx (48 + n) st (s.portLat n true) := by
  have hadj : (e.macTaken n).adj = e.adj := by
    unfold State.adj
    rw [fld_of_regs _ _ macTaken_regs, fld_of_regs _ _ macTaken_regs]
  have hlat : (e.macTaken n).portLat n true = s.portLat n true := (hw.pages.trans (pages_macTaken n)).portLat true
  unfold State.launchTime State.stampTx
  rw [hlat, stampTime_congr (s := e) (t := e.macTaken n) rfl hadj]

/-- Signalling has nothing to add at the end of a launch. -/
theorem xoff_of_waited (hw : Waited s e) (hxoff : s.xoffWant n = (s.port n).sent) (hpages : PagesLike e z)
    (htmg : z.tmg = e.tmg) (hsent : (z.port n).sent = (e.port n).sent) : z.xoffWant n = (z.port n).sent := by
  have hport : e.port n = s.port n := port_of_tq (by rw [hw.frame]) n
  have hsame : e.tmg = s.tmg := by rw [hw.frame]
  rw [((hw.pages.trans hpages) n).xoffWant List.not_mem_nil (htmg.trans hsame), hxoff, hsent, hport]

/-- A message completed one-step has been sent. -/
structure OneStepSent (n : Port) (bs : List Byte) (e t : State) : Prop where
  out : t.out = e.out ++ [.frame n (withFcs bs)]
  tq : t.tq = SMap.set (fun _ => TqPort.empty) (SMap.set (fun _ => TqPort.empty) (SMap.set (fun _ => TqPort.empty) e.tq n
    (e.emptied n)) n { e.emptied n with busy := e.now + e.gapTicks n bs.length }) n
    { e.emptied n with launch := none, busy := e.now + e.gapTicks n bs.length }
  ctrs : t.ctrs = (((e.tqCount n Ctr.TQ.TS_ONE_STEP).tqCount n Ctr.TQ.TX_FRAMES).tqCount n Ctr.TQ.TX_BYTES
    (max 60 bs.length + 4)).ctrs
  frame : t = { e with tq := t.tq, ctrs := t.ctrs, evt := t.evt, sampN := t.sampN, out := t.out, regs := t.regs }
  regs : RegsBut pmcRegs e t

theorem launchDone_tq : (z.launchDone n).tq = SMap.set (fun _ => TqPort.empty) z.tq n { z.port n with launch := none } := rfl

theorem launchDone_frame : z.launchDone n = { z with tq := (z.launchDone n).tq } := rfl

theorem oneStepSent_txAttempt {l : Nat} (hw : Waited s e) (hlaunch : (s.port n).launch = some l)
    (hxoff : s.xoffWant n = (s.port n).sent) (hlink : s.linkUp n = true)
    (hmsg : s.ptpMsg n (s.txCsum n p).bytes = some k) (hone : s.oneStepFor n (s.txCsum n p) k = true)
    (htx : s.bit (tqB n) F.TQ_PTP_CFG.TX_EN = false)
    (hsec : s.bit (tqB n) F.TQ_SEC_CFG.EN = false ∨ s.bit (tqB n) F.TQ_SEC_CFG.PROTECT = false)
    (hbs : oneStepBytes (s.txCsum n p).bytes k (e.stampTx (48 + n) st (s.portLat n true)) = bs)
    (hmax : max 60 bs.length + 4 ≤ s.maxFrame n) : OneStepSent n bs e (e.txAttempt n p st false) := by
  have hpages : PagesLike s (e.macTaken n) := hw.pages.trans (pages_macTaken n)
  have hcsum : (e.macTaken n).txCsum n p = s.txCsum n p := hpages.txCsum p
  have hmsg' : (e.macTaken n).ptpMsg n ((e.macTaken n).txCsum n p).bytes = some k := by rw [hcsum, hpages.ptpMsg, hmsg]
  have hone' : (e.macTaken n).oneStepFor n ((e.macTaken n).txCsum n p) k = true := by rw [hcsum, hpages.oneStepFor, hone]
  have hlink' : e.linkUp n = true := ((hw.pages n).linkUp List.not_mem_nil).trans hlink
  obtain ⟨y, hy⟩ : ∃ y, y = (e.macTaken n).tqCount n Ctr.TQ.TS_ONE_STEP := ⟨_, rfl⟩
  have hyframe : y = { e.macTaken n with ctrs := y.ctrs } := by
    rw [hy]
    exact tqCount_eq ..
  have hpagesy : PagesLike s y := hpages.trans (pagesLike_of_regs (hy ▸ tqCount_regs ..))
  obtain ⟨z, hz⟩ : ∃ z, z = (e.macTaken n).transmit n p st false := ⟨_, rfl⟩
  have hsent : FrameSent n bs y z := by
    rw [hz, transmit_of_oneStep hmsg' hone' (hpages.secOff hsec), ← hy, hcsum, launchTime_of_waited hw, hbs]
    exact frameSent_macSend (by rw [hpagesy.maxFrame]; exact hmax) fun w hyw =>
      txStamp_of_off ((hpagesy.trans hyw).bit n (by decide) |>.trans htx)
  have h : TakenSent n bs e z := hsent.ofTaken hyframe
  have heport : e.port n = s.port n := port_of_tq (by rw [hw.frame]) n
  have htmg : z.tmg = e.tmg := by rw [h.frame]
  have hdone : e.txAttempt n p st false = z.launchDone n := by
    rw [txAttempt_of_up hlink', ← hz]
    refine macDone_of_launch ?_ (xoff_of_waited hw hxoff h.pages htmg ?_)
    · rw [h.port, State.emptied, heport, hlaunch]
      rfl
    · rw [h.port]
      rfl
  have hctrs : y.ctrs = (e.tqCount n Ctr.TQ.TS_ONE_STEP).ctrs := by
    rw [hy]
    exact tqCount_macTaken _
  obtain ⟨c, hc⟩ : ∃ c, e.tqCount n Ctr.TQ.TS_ONE_STEP = { e with ctrs := c } := ⟨_, tqCount_eq ..⟩
  rw [hdone]
  refine ⟨h.out, ?_, ?_, ?_, h.regs⟩
  · rw [launchDone_tq, h.tq, h.port]
  · refine (hsent.ctrs : z.ctrs = _).trans (tqCounts_ctrs_congr hctrs ?_ ?_ ..)
    · rw [hyframe, hc]
      rfl
    · rw [hyframe, hc]
      rfl
  · obtain ⟨q, c', v, j, o, r, ht⟩ : ∃ q c' v j o r, z = { e with
      tq := q, ctrs := c', evt := v, sampN := j, out := o, regs := r } :=
      ⟨_, _, _, _, _, _, h.frame⟩
    rw [launchDone_frame, ht]

/-- A message too late for its launch has been dropped. -/
structure OneStepLate (n : Port) (e t : State) : Prop where
  tq : t.tq = SMap.set (fun _ => TqPort.empty) (SMap.set (fun _ => TqPort.empty) e.tq n (e.emptied n)) n
    { e.emptied n with launch := none }
  ctrs : t.ctrs = (e.tqCount n Ctr.TQ.ONE_STEP_LATE).ctrs
  evt : t.evt = (e.tqRaise n Ev.TP_ONE_STEP_LATE [(1, n), (1, 0)]).evt
  frame : t = { e with tq := t.tq, ctrs := t.ctrs, evt := t.evt }

theorem oneStepLate_txAttempt {l : Nat} (hw : Waited s e) (hlaunch : (s.port n).launch = some l)
    (hxoff : s.xoffWant n = (s.port n).sent) (hlink : s.linkUp n = true)
    (hmsg : s.ptpMsg n (s.txCsum n p).bytes = some k) (hone : s.oneStepFor n (s.txCsum n p) k = true)
    (htype : ptpType (s.txCsum n p).bytes k = 0) : OneStepLate n e (e.txAttempt n p st true) := by
  have hpages : PagesLike s (e.macTaken n) := hw.pages.trans (pages_macTaken n)
  have hcsum : (e.macTaken n).txCsum n p = s.txCsum n p := hpages.txCsum p
  have hmsg' : (e.macTaken n).ptpMsg n ((e.macTaken n).txCsum n p).bytes = some k := by rw [hcsum, hpages.ptpMsg, hmsg]
  have hone' : (e.macTaken n).oneStepFor n ((e.macTaken n).txCsum n p) k = true := by rw [hcsum, hpages.oneStepFor, hone]
  have hlink' : e.linkUp n = true := ((hw.pages n).linkUp List.not_mem_nil).trans hlink
  obtain ⟨y, hy⟩ : ∃ y, y = (e.macTaken n).tqCount n Ctr.TQ.ONE_STEP_LATE := ⟨_, rfl⟩
  have h : TakenCounted n Ctr.TQ.ONE_STEP_LATE e y := hy ▸ takenCounted_macTaken _
  obtain ⟨q, c, hyf⟩ : ∃ q c, y = { e with tq := q, ctrs := c } := ⟨_, _, h.frame⟩
  obtain ⟨z, hz⟩ : ∃ z, z = (e.macTaken n).transmit n p st true := ⟨_, rfl⟩
  have hzraise : z = y.tqRaise n Ev.TP_ONE_STEP_LATE [(1, n), (1, 0)] := by
    rw [hz, transmit_of_late hmsg' hone' (by rw [hcsum]; exact htype), ← hy]
  obtain ⟨v, hv⟩ : ∃ v, z = { y with evt := v } := ⟨_, hzraise.trans (raise_eq ..)⟩
  have hzregs : z.regs = e.regs := by rw [hv, hyf]
  have hzport : z.port n = e.emptied n := (port_of_tq (by rw [hv]) n).trans h.port
  have heport : e.port n = s.port n := port_of_tq (by rw [hw.frame]) n
  have hdone : e.txAttempt n p st true = z.launchDone n := by
    rw [txAttempt_of_up hlink', ← hz]
    refine macDone_of_launch ?_ (xoff_of_waited hw hxoff (pagesLike_of_regs hzregs) (by rw [hv, hyf]) ?_)
    · rw [hzport, State.emptied, heport, hlaunch]
      rfl
    · rw [hzport]
      rfl
  have hyregs : y.regs = e.regs := by rw [hyf]
  have hyevt : y.evt = e.evt := by rw [hyf]
  have hztq : z.tq = y.tq := by rw [hv]
  have hzctrs : z.ctrs = y.ctrs := by rw [hv]
  rw [hdone]
  refine ⟨?_, hzctrs.trans h.ctrs, ?_, ?_⟩
  · rw [launchDone_tq, hzport, hztq, h.tq]
  · have hraise : z.evt = (e.tqRaise n Ev.TP_ONE_STEP_LATE [(1, n), (1, 0)]).evt :=
      hzraise ▸ raise_evt_congr hyevt (live_evt_congr (reg_of_regs hyregs _)) ..
    exact hraise
  · rw [launchDone_frame, hv, hyf]

end Sys2Proof.Machine
end

section
/-! Proof that frames enter and leave the MAC as stated (O31): collisions in half duplex (R178), and the statement. -/

namespace Sys2Proof.Machine

variable {s t x y : State} {n : Port} {p : Packet} {late deferred : Bool}

/-! ### Collisions -/

theorem countDefer_of_half (h : s.halfDuplex n = true) : s.countDefer n deferred =
    if deferred = true ∧ (s.port n).tries = 0 then s.tqCount n Ctr.TQ.TX_DEFERRED else s := by
  unfold State.countDefer
  rw [h, Bool.and_true]
  simp only [Bool.and_eq_true, decide_eq_true_eq]

theorem countDefer_eq : s.countDefer n deferred = { s with ctrs := (s.countDefer n deferred).ctrs } := by
  unfold State.countDefer
  split
  · exact tqCount_eq ..
  · rfl

/-- A collision counts, behind a deferral at the first attempt. -/
def State.collided (s : State) (n : Nat) (deferred : Bool) : State :=
  (s.countDefer n deferred).tqCount n Ctr.TQ.TX_COLLISIONS

theorem collided_frame : s.collided n deferred = { s with ctrs := (s.collided n deferred).ctrs } := by
  obtain ⟨c, hc⟩ : ∃ c, s.countDefer n deferred = { s with ctrs := c } := ⟨_, countDefer_eq⟩
  obtain ⟨d, hd⟩ : ∃ d, s.collided n deferred = { s.countDefer n deferred with ctrs := d } := ⟨_, tqCount_eq ..⟩
  rw [hd, hc]

theorem collided_ctrs (h : s.halfDuplex n = true) : (s.collided n deferred).ctrs =
    ((if deferred = true ∧ (s.port n).tries = 0 then s.tqCount n Ctr.TQ.TX_DEFERRED else s).tqCount n
      Ctr.TQ.TX_COLLISIONS).ctrs := by
  rw [State.collided, countDefer_of_half h]

/-- The frame is dropped. -/
def State.macDropped (s : State) (n : Nat) : State := s.setPort n { s.port n with mac := none, tries := 0, launch := none }

/-- One more attempt, and a free value drawn. -/
def State.retried (s : State) (n : Nat) : State :=
  s.takeFree.1.setPort n { s.takeFree.1.port n with tries := (s.port n).tries + 1 }

/-- The next attempt waits for a number of slots from the end of the jam. -/
def State.backedOff (s : State) (n : Nat) : State :=
  (s.retried n).startTimer (Tm.backoff n)
    ((s.retried n).slotTicks n / 16 + s.takeFree.2 % 2 ^ min ((s.port n).tries + 1) 10 * (s.retried n).slotTicks n)

theorem retried_eq : s.retried n = { s with
    freeNext := s.freeNext + 1
    tq := SMap.set (fun _ => TqPort.empty) s.tq n { s.port n with tries := (s.port n).tries + 1 } } := rfl

/-- Too many collisions drop the frame, and are reported. -/
def State.excessed (s : State) (n : Nat) : State :=
  ((s.macDropped n).tqCount n Ctr.TQ.TX_EXCESS_COLL).tqRaiseMs n Ev.TP_EXCESS_COLL
    [(1, n), (2, ((s.macDropped n).tqCount n Ctr.TQ.TX_EXCESS_COLL).ctr (tqB n + Ctr.TQ.TX_EXCESS_COLL))]

theorem exec_hdCollision_eq : exec (.hdCollision n late deferred) s = .next (s.onLive (quadId n) fun s =>
    if (s.port n).mac.isNone = true ∨ s.halfDuplex n = false ∨ s.timerOn (Tm.backoff n) = true then s
    else if late then ((s.collided n deferred).macDropped n).tqCount n Ctr.TQ.TX_LATE_COLL
    else if 16 ≤ ((s.collided n deferred).port n).tries + 1 then (s.collided n deferred).excessed n
    else (s.collided n deferred).backedOff n) := rfl

theorem exec_hdCollision (hlive : s.live (quadId n) = true) (hmac : (s.port n).mac = some p)
    (hoff : s.timerOn (Tm.backoff n) = false) (hhalf : s.halfDuplex n = true) :
    exec (.hdCollision n late deferred) s = .next
      (if late then ((s.collided n deferred).macDropped n).tqCount n Ctr.TQ.TX_LATE_COLL
      else if 16 ≤ ((s.collided n deferred).port n).tries + 1 then (s.collided n deferred).excessed n
      else (s.collided n deferred).backedOff n) := by
  have hgo : ¬ ((s.port n).mac.isNone = true ∨ s.halfDuplex n = false ∨ s.timerOn (Tm.backoff n) = true) := by
    simp [hmac, hhalf, hoff]
  rw [exec_hdCollision_eq, onLive_of_live hlive, if_neg hgo]

theorem port_collided : (s.collided n deferred).port n = s.port n := port_of_tq (by rw [collided_frame]) n

/-- A frame without a launch is dropped. -/
theorem macDropped_of_none (h : (s.port n).launch = none) : s.macDropped n = s.macTaken n := by
  unfold State.macDropped State.macTaken
  rw [← h]

theorem ctr_of_ctrs (h : t.ctrs = s.ctrs) (a : Nat) : t.ctr a = s.ctr a := by
  unfold State.ctr
  rw [h]

/-- A late collision has dropped the frame. -/
structure LateDropped (n : Port) (deferred : Bool) (s t : State) : Prop where
  tq : t.tq = SMap.set (fun _ => TqPort.empty) s.tq n (s.emptied n)
  ctrs : t.ctrs = (((if deferred = true ∧ (s.port n).tries = 0 then s.tqCount n Ctr.TQ.TX_DEFERRED else s).tqCount n
    Ctr.TQ.TX_COLLISIONS).tqCount n Ctr.TQ.TX_LATE_COLL).ctrs
  frame : t = { s with tq := t.tq, ctrs := t.ctrs }

theorem taken_collided (hlaunch : (s.port n).launch = none) (c : Nat) :
    TakenCounted n c (s.collided n deferred) (((s.collided n deferred).macDropped n).tqCount n c) := by
  rw [macDropped_of_none (by rw [port_collided]; exact hlaunch)]
  exact takenCounted_macTaken c

theorem emptied_collided : (s.collided n deferred).emptied n = s.emptied n := by
  rw [State.emptied, State.emptied, port_collided]

theorem lateDropped_collided (hhalf : s.halfDuplex n = true) (hlaunch : (s.port n).launch = none) :
    LateDropped n deferred s (((s.collided n deferred).macDropped n).tqCount n Ctr.TQ.TX_LATE_COLL) := by
  have h := taken_collided (deferred := deferred) hlaunch Ctr.TQ.TX_LATE_COLL
  obtain ⟨t, ht⟩ : ∃ t, t = ((s.collided n deferred).macDropped n).tqCount n Ctr.TQ.TX_LATE_COLL := ⟨_, rfl⟩
  obtain ⟨c, hc⟩ : ∃ c, s.collided n deferred = { s with ctrs := c } := ⟨_, collided_frame⟩
  have htq : (s.collided n deferred).tq = s.tq := by rw [hc]
  rw [← ht] at h ⊢
  refine ⟨?_, ?_, ?_⟩
  · rw [h.tq, htq, emptied_collided]
  · rw [h.ctrs, State.collided, countDefer_of_half hhalf]
  · obtain ⟨q, d, hd⟩ : ∃ q d, t = { s.collided n deferred with tq := q, ctrs := d } := ⟨_, _, h.frame⟩
    rw [hd, hc]

/-- The sixteenth collision has dropped the frame. -/
structure ExcessDropped (n : Port) (s t : State) : Prop where
  tq : t.tq = SMap.set (fun _ => TqPort.empty) s.tq n (s.emptied n)
  ctrs : t.ctrs = ((s.tqCount n Ctr.TQ.TX_COLLISIONS).tqCount n Ctr.TQ.TX_EXCESS_COLL).ctrs
  evt : t.evt = (s.tqRaiseMs n Ev.TP_EXCESS_COLL [(1, n), (2, ((s.tqCount n Ctr.TQ.TX_COLLISIONS).tqCount n
    Ctr.TQ.TX_EXCESS_COLL).ctr (tqB n + Ctr.TQ.TX_EXCESS_COLL))]).evt
  frame : t = { s with tq := t.tq, ctrs := t.ctrs, evt := t.evt }

theorem excessDropped_collided (hhalf : s.halfDuplex n = true) (hlaunch : (s.port n).launch = none)
    (htries : (s.port n).tries ≠ 0) : ExcessDropped n s ((s.collided n deferred).excessed n) := by
  have hcollided : s.collided n deferred = s.tqCount n Ctr.TQ.TX_COLLISIONS := by
    rw [State.collided, countDefer_of_half hhalf, if_neg fun h => htries h.2]
  have h := taken_collided (deferred := deferred) hlaunch Ctr.TQ.TX_EXCESS_COLL
  obtain ⟨y, hy⟩ : ∃ y, y = ((s.collided n deferred).macDropped n).tqCount n Ctr.TQ.TX_EXCESS_COLL := ⟨_, rfl⟩
  rw [State.excessed, ← hy]
  rw [← hy] at h
  obtain ⟨t, ht⟩ : ∃ t, t = y.tqRaiseMs n Ev.TP_EXCESS_COLL
    [(1, n), (2, y.ctr (tqB n + Ctr.TQ.TX_EXCESS_COLL))] := ⟨_, rfl⟩
  obtain ⟨c, hc⟩ : ∃ c, s.collided n deferred = { s with ctrs := c } := ⟨_, collided_frame⟩
  obtain ⟨q, d, hd⟩ : ∃ q d, y = { s with tq := q, ctrs := d } := ⟨_, _, h.frame.trans (by rw [hc])⟩
  obtain ⟨v, hv⟩ : ∃ v, t = { y with evt := v } := ⟨_, ht.trans (raiseMs_eq ..)⟩
  have htq : (s.collided n deferred).tq = s.tq := by rw [hc]
  have hyctrs : y.ctrs = ((s.tqCount n Ctr.TQ.TX_COLLISIONS).tqCount n Ctr.TQ.TX_EXCESS_COLL).ctrs := by
    rw [h.ctrs, hcollided]
  have hyevt : y.evt = s.evt := by rw [hd]
  have hynow : y.now = s.now := by rw [hd]
  have hyregs : y.regs = s.regs := by rw [hd]
  have httq : t.tq = y.tq := by rw [hv]
  have htctrs : t.ctrs = y.ctrs := by rw [hv]
  rw [← ht]
  refine ⟨?_, htctrs.trans hyctrs, ?_, ?_⟩
  · rw [httq, h.tq, htq, emptied_collided]
  · rw [ht, ctr_of_ctrs hyctrs]
    exact raiseMs_evt_congr hyevt (live_evt_congr (reg_of_regs hyregs _)) hynow ..
  · rw [hv, hd]

/-- A collision has put the frame off. -/
structure BackedOff (n : Port) (deferred : Bool) (s t : State) : Prop where
  free : t.freeNext = s.freeNext + 1
  tq : t.tq = SMap.set (fun _ => TqPort.empty) s.tq n { s.port n with tries := (s.port n).tries + 1 }
  wait : SMap.get (fun _ => 0) t.timers (Tm.backoff n) = s.now + (s.quantaTicks n 1 / 16 +
    Config.free s.freeNext % 2 ^ min ((s.port n).tries + 1) 10 * s.quantaTicks n 1) + 1
  ctrs : t.ctrs = ((if deferred = true ∧ (s.port n).tries = 0 then s.tqCount n Ctr.TQ.TX_DEFERRED else s).tqCount n
    Ctr.TQ.TX_COLLISIONS).ctrs
  frame : t = { s with tq := t.tq, freeNext := t.freeNext, ctrs := t.ctrs, timers := t.timers }
  timers : TimersBut [Tm.backoff n] s t

theorem backedOff_collided (hhalf : s.halfDuplex n = true) : BackedOff n deferred s ((s.collided n deferred).backedOff n) := by
  obtain ⟨y, hy⟩ : ∃ y, y = s.collided n deferred := ⟨_, rfl⟩
  obtain ⟨c, hc⟩ : ∃ c, y = { s with ctrs := c } := ⟨_, hy.trans collided_frame⟩
  have hport : y.port n = s.port n := port_of_tq (by rw [hc]) n
  have hfree : y.freeNext = s.freeNext := by rw [hc]
  have hnow : y.now = s.now := by rw [hc]
  have htq : y.tq = s.tq := by rw [hc]
  have htimers : y.timers = s.timers := by rw [hc]
  have hctrs : y.ctrs = _ := (congrArg State.ctrs hy).trans (collided_ctrs hhalf)
  obtain ⟨w, hw⟩ : ∃ w, w = y.retried n := ⟨_, rfl⟩
  have hwframe := hw.trans retried_eq
  rw [hport, hfree, htq] at hwframe
  have hwregs : w.regs = s.regs := by rw [hwframe, hc]
  have hwnow : w.now = s.now := by rw [hwframe]; exact hnow
  have hwtimers : w.timers = s.timers := by rw [hwframe]; exact htimers
  have hslot : w.slotTicks n = s.quantaTicks n 1 :=
    (pageLike_of_regs (l := []) hwregs).quantaTicks (fun _ _ => List.not_mem_nil) 1
  have hdraw : y.takeFree.2 = Config.free s.freeNext := congrArg Config.free hfree
  rw [← hy, State.backedOff, ← hw, hslot, hport, hdraw]
  refine ⟨?_, ?_, ?_, ?_, ?_, timersBut_trans (timersBut_of_eq _ hwtimers) (timersBut_startTimer _ (.head _))⟩
  · rw [startTimer_freeNext, hwframe]
  · rw [startTimer_tq, hwframe]
  · rw [timer_startTimer, hwnow]
  · have hwctrs : w.ctrs = y.ctrs := by rw [hwframe]
    rw [startTimer_ctrs, hwctrs, hctrs]
  · have hstart : ∀ j, w.startTimer (Tm.backoff n) j = { w with timers := (w.startTimer (Tm.backoff n) j).timers } :=
      fun _ => rfl
    obtain ⟨i, hi⟩ : ∃ i, w.startTimer (Tm.backoff n) (s.quantaTicks n 1 / 16 +
      Config.free s.freeNext % 2 ^ min ((s.port n).tries + 1) 10 * s.quantaTicks n 1) = { w with timers := i } := ⟨_, hstart _⟩
    rw [hi, hwframe, hc]

end Sys2Proof.Machine
end

section
/-! Proof that frames enter and leave the MAC as stated (O31): the statement. -/

namespace Sys2Proof.Machine

variable {s t : State} {n : Port} {x : EthIn}

theorem bytes_ne_nil (h : 64 ≤ x.bytes.length) : x.bytes ≠ [] := fun e => by
  rw [e] at h
  exact absurd h (by decide)

theorem frameGood_of (hmin : 64 ≤ x.bytes.length) (hwhole : x.whole = true) (hfcs : crc32 (frameBody x) = leNat (frameFcs x)) :
    frameGood x = true := by
  rw [frameGood, hwhole, decide_eq_true (Nat.le_trans (by decide) hmin), decide_eq_true hfcs]
  rfl

/-- A frame that the port admits is checked. -/
theorem exec_rxFrame_checked (hon : s.rxOn n = true) (hfec : s.laneFec n = 0) (hroom : s.rxUsed n + s.maxFrame n ≤ 32768)
    (hx : x.bytes ≠ []) : exec (.rxFrame n x) s = .next (s.rxCheck n x) := by
  rw [exec_rxFrame hon hx, fecCount_of_none hfec, rxAdmit_of_room hroom]

/-- A good frame that is no MAC control frame goes on to the SecY. -/
theorem exec_rxFrame_good (hon : s.rxOn n = true) (hfec : s.laneFec n = 0) (hroom : s.rxUsed n + s.maxFrame n ≤ 32768)
    (hmin : 64 ≤ x.bytes.length) (hmax : x.bytes.length ≤ s.maxFrame n) (hwhole : x.whole = true)
    (hfcs : crc32 (frameBody x) = leNat (frameFcs x)) (hdata : beAt (frameBody x) 12 2 ≠ 0x8808) :
    exec (.rxFrame n x) s = .next (s.rxData n (frameBody x) (frameFcs x) x.bytes.length x) := by
  rw [exec_rxFrame_checked hon hfec hroom (bytes_ne_nil hmin),
    rxCheck_of_good hfec hmin hmax (frameGood_of hmin hwhole hfcs) hdata]

theorem portState_of_rxOn (h : s.rxOn n = true) : s.portState n = 0 := by
  simp only [State.rxOn, Bool.and_eq_true, decide_eq_true_eq] at h
  obtain ⟨⟨⟨-, hin⟩, -⟩, -⟩ := h
  exact hin

/-- Behind the FEC's counts, a frame with a codeword that could not be corrected is a bad one. -/
theorem exec_rxFrame_uncorr (hon : s.rxOn n = true) (hfec : s.laneFec n ≠ 0)
    (hlock : s.bit (tqB n) F.TQ_LANE_STAT.FEC_LOCK = true) (hroom : s.rxUsed n + s.maxFrame n ≤ 32768)
    (hmin : 64 ≤ x.bytes.length) (hmax : x.bytes.length ≤ s.maxFrame n) (hx : x.uncorr ≠ 0) : exec (.rxFrame n x) s =
      .next (((s.tqCount n Ctr.TQ.FEC_CORR x.corr).tqCount n Ctr.TQ.FEC_UNCORR x.uncorr).tqCount n Ctr.TQ.RX_FCS_ERR) := by
  have hlane : (s.fecCount n x).laneFec n = s.laneFec n := by
    rw [fecCount_eq]
    rfl
  rw [exec_rxFrame hon (bytes_ne_nil hmin), rxAdmit_of_room (by rw [rxUsed_fecCount, maxFrame_fecCount]; exact hroom),
    rxCheck_of_uncorr (by rw [hlane]; exact hfec) hx hmin (by rw [maxFrame_fecCount]; exact hmax),
    fecCount_of_fec hfec (portState_of_rxOn hon) hlock]

theorem tqCounts3_eq (a i b j c k : Nat) : ((s.tqCount n a i).tqCount n b j).tqCount n c k =
    { s with ctrs := (((s.tqCount n a i).tqCount n b j).tqCount n c k).ctrs } := by
  obtain ⟨y, hy⟩ : ∃ y, y = (s.tqCount n a i).tqCount n b j := ⟨_, rfl⟩
  obtain ⟨d, hd⟩ : ∃ d, y = { s with ctrs := d } := ⟨_, hy.trans (tqCounts_eq ..)⟩
  obtain ⟨e, he⟩ : ∃ e, y.tqCount n c k = { y with ctrs := e } := ⟨_, tqCount_eq ..⟩
  rw [← hy, he, hd]

theorem exec_hdBackoffExpiry (hlive : s.live (quadId n) = true) (hon : s.timerOn (Tm.backoff n) = true) :
    exec (.hdBackoffExpiry n) s = .next (s.atEnd (Tm.backoff n)) :=
  congrArg Host.Outcome.next ((if_pos hlive).trans (expire_of_on _ hon))

theorem waited_elapseTo (v : Nat) : Waited s (s.elapseTo v) := by
  unfold State.elapseTo
  split
  · exact waited_elapse _
  · exact .refl s

theorem Waited.sameOut (h : Waited s t) : t.out = s.out := by rw [h.frame]

theorem Waited.sameTq (h : Waited s t) : t.tq = s.tq := by rw [h.frame]

theorem Waited.emptied (h : Waited s t) : t.emptied n = s.emptied n := by
  rw [State.emptied, State.emptied, port_of_tq h.sameTq]

theorem Waited.gapTicks (h : Waited s t) (len : Nat) : t.gapTicks n len = s.gapTicks n len := by
  unfold State.gapTicks
  rw [h.pages.portRate]

/-- Settles O31, clause by clause: what the port receives along the checks of R174, what it sends along the launch unit and the
MAC, and collisions. -/
theorem framesEnterAndLeaveTheMac : Obligations.FramesEnterAndLeaveTheMac := by
  unfold Obligations.FramesEnterAndLeaveTheMac
  refine ⟨?good, ?filtered, ?bad, ?uncorr, ?overrun, ?off, ?codewords, ?sent, ?down, ?oversize, ?oneStep, ?late, ?backoff,
    ?lateColl, ?excess, ?backoffEnd⟩
  case good =>
    intro n x s hon hfec hroom hmin hmax hwhole hfcs hdata hsec hfilt huni hstamp hpipe
    have h := frameWired_rxData hsec hfilt huni hstamp hpipe
    exact ⟨_, exec_rxFrame_good hon hfec hroom hmin hmax hwhole hfcs hdata, h.pipes, h.ctrs, h.frame, h.regs⟩
  case filtered =>
    intro n x s hon hfec hroom hmin hmax hwhole hfcs hdata hsec hfilt hgroup hcast hbin
    have h := frameFiltered_rxData hsec hfilt hgroup hcast hbin
    exact ⟨_, exec_rxFrame_good hon hfec hroom hmin hmax hwhole hfcs hdata, h.ctrs, h.frame, h.regs⟩
  case bad =>
    intro n x s hon hfec hroom hx hbad
    refine ⟨_, (exec_rxFrame_checked hon hfec hroom hx).trans (congrArg _ (rxCheck_of_bad hfec hbad)), rfl, tqCount_eq ..⟩
  case uncorr =>
    intro n x s hon hfec hlock hroom hmin hmax hx
    exact ⟨_, exec_rxFrame_uncorr hon hfec hlock hroom hmin hmax hx, rfl, tqCounts3_eq ..⟩
  case overrun =>
    intro n x s hon hfec hx hfull
    have hused : 32768 < s.rxUsed n + s.maxFrame n := hfull
    have h : FrameOverrun n s _ := frameOverrun_rateShort
    refine ⟨_, (exec_rxFrame hon hx).trans ?_, h.ctrs, h.short, h.frame, h.regs⟩
    rw [fecCount_of_none hfec, State.rxAdmit, if_pos hused]
  case off =>
    intro n x s hoff hfec
    exact ⟨_, exec_rxFrame_idle hoff hfec, rfl⟩
  case codewords =>
    intro n x s hlive hoff hfec hin hlock
    exact ⟨_, exec_rxFrame_off hoff (fecCount_of_fec hfec hin hlock) hlive, rfl, tqCounts_eq ..⟩
  case sent =>
    intro n st late deferred p s hlive hmac hoff hlaunch hfull hlink hmsg hreq hsec hmax
    obtain ⟨h, hctrs⟩ := txAttempt_of_other (st := st) (late := late) hlaunch hlink hmsg hreq hsec hmax
    refine ⟨_, (exec_txFrame hlive hmac hoff hfull).trans (by rw [toLaunch_of_none hlaunch]), h.out, h.tq, hctrs,
      h.frame, h.regs⟩
  case down =>
    intro n st late deferred p s hlive hmac hoff hlaunch hfull hin hlink
    have h : TakenCounted n Ctr.TQ.TX_LINK_DOWN s (s.txAttempt n p st late) := takenCounted_down hlaunch hin hlink
    exact ⟨_, (exec_txFrame hlive hmac hoff hfull).trans (by rw [toLaunch_of_none hlaunch]), h.tq, h.ctrs, h.frame⟩
  case oversize =>
    intro n st late deferred p s hlive hmac hoff hlaunch hfull hlink hmsg hsec hmax
    have h : TakenCounted n Ctr.TQ.TX_OVERSIZE s (s.txAttempt n p st late) :=
      takenCounted_oversize hlaunch hlink hmsg hsec hmax
    exact ⟨_, (exec_txFrame hlive hmac hoff hfull).trans (by rw [toLaunch_of_none hlaunch]), h.tq, h.ctrs, h.frame⟩
  case oneStep =>
    rintro n st late deferred p l k s hlive hmac hoff hlaunch hxoff hfull hlink hmsg hsrc htype htwo hone rfl htx hsec hmax
    have hw : Waited s (s.elapseTo l) := waited_elapseTo l
    have h := oneStepSent_txAttempt (e := s.elapseTo l) (st := { st with ne := max st.ne (s.elapseTo l).tim.rawN }) hw hlaunch
      hxoff hlink hmsg (oneStepFor_of hsrc htype htwo hone) htx hsec rfl hmax
    have hout := h.out
    have htq := h.tq
    rw [hw.sameOut] at hout
    rw [hw.sameTq, hw.emptied, hw.gapTicks] at htq
    exact ⟨_, (exec_txFrame hlive hmac hoff hfull).trans (by rw [toLaunch_of_some hlaunch]), hout, htq, h.ctrs, h.frame, h.regs⟩
  case late =>
    rintro n st late deferred p l k s hlive hmac hoff hlaunch hxoff hfull hlink hmsg hsrc htype htwo hone rfl
    have hw : Waited s (s.elapseTo l) := waited_elapseTo l
    have h := oneStepLate_txAttempt (e := s.elapseTo l) (st := { st with ne := max st.ne (s.elapseTo l).tim.rawN }) hw hlaunch
      hxoff hlink hmsg (oneStepFor_of hsrc htype htwo hone) htype
    have htq := h.tq
    rw [hw.sameTq, hw.emptied] at htq
    exact ⟨_, (exec_txFrame hlive hmac hoff hfull).trans (by rw [toLaunch_of_some hlaunch]), htq, h.ctrs, h.evt, h.frame⟩
  case backoff =>
    rintro n late deferred p s hlive hmac hoff hlaunch hhalf rfl htries
    have h : BackedOff n deferred s _ := backedOff_collided hhalf
    refine ⟨_, (exec_hdCollision hlive hmac hoff hhalf).trans ?_, h.free, h.tq, h.wait, h.ctrs, h.frame, h.timers⟩
    rw [if_neg Bool.false_ne_true, port_collided, if_neg (Nat.not_le.2 htries)]
  case lateColl =>
    rintro n late deferred p s hlive hmac hoff hlaunch hhalf rfl
    have h := lateDropped_collided (deferred := deferred) hhalf hlaunch
    exact ⟨_, (exec_hdCollision hlive hmac hoff hhalf).trans (by rw [if_pos rfl]), h.tq, h.ctrs, h.frame⟩
  case excess =>
    rintro n late deferred p s hlive hmac hoff hlaunch hhalf rfl htries
    have h := excessDropped_collided (deferred := deferred) hhalf hlaunch (by omega)
    refine ⟨_, (exec_hdCollision hlive hmac hoff hhalf).trans ?_, h.tq, h.ctrs, h.evt, h.frame⟩
    rw [if_neg Bool.false_ne_true, port_collided, if_pos (by omega)]
  case backoffEnd =>
    intro n s hlive hon
    refine ⟨_, exec_hdBackoffExpiry hlive hon, timerOn_stopTimer_same .., by rw [(waited_atEnd _).frame], stopTimer_frame ..,
      timersBut_stopTimer (.head _)⟩

end Sys2Proof.Machine
end
